-- ==== Sys2Proof/Word.lean ====
section
/-! DEFINITION. The words of the device: every management register, image word and internal timestamp
is 48 bits wide (R14, R139). -/

namespace Sys2Proof

/-- A 48-bit management word (R14). -/
abbrev Word := BitVec 48

/-- One byte of a frame, of flash or of firmware memory. -/
abbrev Byte := BitVec 8

end Sys2Proof
end

