-- ==== Sys2Proof/Syntax.lean ====
section
/-! DEFINITION. The commands of the block: one constructor per row of the command table, with the operands that say what
arrives at the device, what it measures, or what has come about (log entry 100). -/

namespace Sys2Proof

/-- Who writes or reads a register: the host on the SPI path, the host on the Eyepiece Ethernet path, a hart of a Prism die, by its
die, its core and its number there. -/
inductive Sender where
  | spi
  | eth
  | hart (die core num : Nat)
  deriving DecidableEq, Repr

/-- The commands. Operands: p a Prism die, d a drive die, f a facet, c a controller, a class, a core or a channel, w who makes an
access, v the 48-bit value written, where the row names a field that is forced to the value of the row. -/
inductive Instr where
  /-- POWER_ON (R77): VBAT rises to 4.0 V or more: the always-on islands start and drive die 0 drives the slow-edge line. -/
  | powerOn (d v boot clk : Nat)
  /-- POWER_ON_RESET (R84): VBAT falls below 4.0 V for 5 µs: the always-on island enters power-on reset and its state returns to defaults. -/
  | powerOnReset (d v : Nat)
  /-- VBAT_RESET_RELEASE (R77): VBAT has been at or above the reset threshold plus 0.3 V for 2 ms: fuses load and the channel-control
  islands start (start step 2). -/
  | vbatResetRelease (v : Nat)
  /-- VBAT_LOW (R58): VBAT stays below the reset threshold for 20 µs: package reset with cause VBAT below threshold, cold scope. -/
  | vbatLow (v : Nat)
  /-- SAG_WARNING (R58): VBAT stays below SAG_TH for 20 µs on a drive die: SUP.EVT.SAG is set and SUPPLY attention is raised. -/
  | sagWarning (d v : Nat)
  /-- SAG_END (R58): VBAT stays at or above SAG_TH plus 0.3 V for 20 µs: the sag warning ends and SUP.EVT.SAG_END is set. -/
  | sagEnd (d v : Nat)
  /-- OV_WARN (R58): VBAT stays above 62 V for 20 µs: SUP.EVT.OV_WARN is set and SUPPLY attention is raised. -/
  | ovWarn (d v : Nat)
  /-- OV_WARN_END (R58): VBAT stays at or below 61 V for 20 µs: the overvoltage warning ends. -/
  | ovWarnEnd (d v : Nat)
  /-- OV_OPEN (R61): VBAT stays above 66 V for 2 µs: the drive die opens all its channels, Pinhole channels included, and drives pre-
  driver gates off. -/
  | ovOpen (d v : Nat)
  /-- OV_END (R61): VBAT stays at or below 61 V for 10 ms: the overvoltage-open condition ends and channels return to their commands
  through guarded soft-start. -/
  | ovEnd (d v : Nat)
  /-- STAGE_SUCCESS (R65): The power-good input of a regulator stage has been high for 0.5 ms: the next stage begins, or t0 is reached
  after the last stage. -/
  | stageSuccess (t : Nat)
  /-- STAGE_FAIL (R66): A stage has no stable power-good within 20 ms, or an earlier power-good falls before t0: enables go low, and after
  the fourth failed attempt the latch is set. -/
  | stageFail (k : Nat)
  /-- REGULATOR_RETRY (R66): 100 ms after all enables went low, drive die 0 begins a new attempt from the CORE stage. -/
  | regulatorRetry
  /-- PG_LOST (R67): A power-good input stays low for more than 10 µs from t0 onward: all channels open and the package resets with cause
  regulator failure. -/
  | pgLost (k : Nat)
  /-- CORE_DROOP (R44): VCORE stays below 0.70 V for 1 µs: DEV.EVT.CORE_DROOP is set and SUPPLY attention is raised. -/
  | coreDroop (p mv : Nat)
  /-- CORE_DROOP_END (R44): VCORE stays at or above 0.70 V for 1 µs: the droop condition ends. -/
  | coreDroopEnd (p mv : Nat)
  /-- VCORE_REGULATOR_FAIL (R67): VCORE of a Prism die stays below 0.58 V for 1 µs: the die signals regulator failure and drive die 0
  resets the package. -/
  | vcoreRegulatorFail (p mv : Nat)
  /-- RESET_N_ASSERT (R82): The RESET_N ball of drive die 0 is low for more than 1 µs: warm reset, held while the ball stays low, and the
  regulator latch clears. -/
  | resetNAssert
  /-- RESET_N_RELEASE (R85): RESET_N returns high: the start sequence continues from step 6. -/
  | resetNRelease (boot clk : Nat)
  /-- PRISM_THERMAL_SHUTDOWN (R83): A Prism die's Tj stays above 135 °C for 100 µs: warm reset, and every Prism die is held in reset. -/
  | prismThermalShutdown (p : Nat)
  /-- THERMAL_HOLD_END (R83): Every Prism die's sensor reads below 110 °C: the start continues from step 6. -/
  | thermalHoldEnd
  /-- PRISM_THERMAL_WARN (R82): A Prism die's Tj stays above 125 °C for 100 µs: THERMAL attention is raised. -/
  | prismThermalWarn (p : Nat)
  /-- PRISM_THERMAL_WARN_END (R82): A Prism die's Tj falls below 120 °C: its THERMAL attention clears. -/
  | prismThermalWarnEnd (p : Nat)
  /-- CLOCK_READY (R70): The external source has been within ±0.5% of nominal for 1 ms: the clock source is ready. -/
  | clockReady
  /-- CLOCK_TIMEOUT (R70): The external source is not ready within 10 ms of reset release: internal-only mode, CLK_REASON set, FAULT
  attention. -/
  | clockTimeout
  /-- CLOCK_LOST (R72): The external source shows no edge for 2 µs in service: islands switch to the internal oscillator and the stopped
  islands halt. -/
  | clockLost
  /-- DIE_TO_DIE_LINK_LOST (R38): No transition on a die-to-die link for 50 µs: package reset with cause die-to-die link loss. -/
  | dieToDieLinkLost (p j : Nat)
  /-- DRIVE_LINK_LOST (R38): No transition on a drive link for 50 µs: accesses complete with TIMEOUT, load commands are discarded and
  DLINK_LOST is set. -/
  | driveLinkLost (d : Nat) (seen : Bool)
  /-- DRIVE_LINK_RESUME (R38): Transitions return on a lost drive link: DLINK.UP returns to 1. -/
  | driveLinkResume (d : Nat)
  /-- SLOW_EDGE_LOST (R38): No slow-clock edge for 244 µs: each die runs its management plane on a substitute edge. -/
  | slowEdgeLost (mask : Nat)
  /-- PARITY_SCRUB (R151): The scrubber checks each CF register within every 32 slow-clock edges and handles any mismatch. -/
  | parityScrub (l fixed lost : List (Nat × Nat × Nat))
  /-- IMAGE_KEY_UNWRAP (R107): At the start of step 8 the lead die unwraps the image-key blob into key slot 0. -/
  | imageKeyUnwrap (answers : Bool)
  /-- EPOCH_AREA_READ (R121): At the start of step 8 the lead die reads the epoch area and chooses the current record. -/
  | epochAreaRead (answers : Bool)
  /-- SLOT_EXAMINE (R108): The lead die reads and checks an image slot's header, directory and configuration sections, falling back to the
  other slot on failure. -/
  | slotExamine (answers : Bool)
  /-- CONFIG_DISTRIBUTION (R114): Configuration sections are applied at every die, and at the end of step 9 blocks are enabled and locks
  applied. -/
  | configDistribution
  /-- EPOCH_WRITE (R123): In step 10 the lead die writes the next epoch record and, on success, allows sealed transmission. -/
  | epochWrite (answers erase first second : Bool)
  /-- OTHER_SLOT_CHECK (R112): After step 9 the lead die checks the header, directory and structure of the slot it did not examine. -/
  | otherSlotCheck (answers : Bool)
  /-- CAN_LIN_ENABLE (R114): At step 11 the CAN, LIN, signal engine and Beam enables written by the image take effect. -/
  | canLinEnable
  /-- ETHERNET_ENABLE (R114): At step 12 the Ethernet facets and forwarding enables take effect. -/
  | ethernetEnable
  /-- FW_SECTION_DONE (R116): A FIRMWARE section finishes streaming and its tag is checked; a partition starts when all its sections pass. -/
  | fwSectionDone (answers : Bool)
  /-- SERVICE_ENTRY (R77): Steps 10–13 are done: service begins with STEP 15, and RESET attention is raised if any cause bit is set. -/
  | serviceEntry
  /-- EPOCH_BACKGROUND_ERASE (R125): In service, with the current sector holding 256 or more records, the other sector is erased. -/
  | epochBackgroundErase (good : Bool)
  /-- IMG_CMD_RAISE_FLOOR (R137): IMG.CMD OP 1 writes an epoch record with the generation floor raised to ARG. -/
  | imgCmdRaiseFloor (w : Sender) (v : Nat)
  /-- IMG_CMD_SET_PREFER (R137): IMG.CMD OP 2 writes an epoch record with PREFER set to ARG. -/
  | imgCmdSetPrefer (w : Sender) (v : Nat)
  /-- IMG_CMD_DONE (R126): An IMG.CMD command ends with its RESULT and sets CMD_DONE. -/
  | imgCmdDone (answers erase first second : Bool)
  /-- NET_BOOT_REQUEST (R128): Every 100 ms in network boot the lead die sends an image request on its fast lanes. -/
  | netBootRequest
  /-- NET_BOOT_OFF (R128): Network boot cannot run: the lead die sets NET_BOOT_OFF and waits for the host. -/
  | netBootOff
  /-- NET_IMAGE_RECEIVED (R128): A complete image answer is received, checked and applied, or discarded so that requests resume. -/
  | netImageReceived
  /-- NOP (R170): An Eyepiece NOP returns STATUS only. -/
  | nop (tag : Nat)
  /-- READ (R170): An Eyepiece READ returns a register in DATA, or RETRY with a pending entry for slow-domain and remote reads. -/
  | read (tag addr data : Nat)
  /-- WRITE (R170): An Eyepiece WRITE writes DATA to a register under the Kind rules. -/
  | write (tag addr data : Nat)
  /-- PEER_STATUS (R170): An Eyepiece PEER_STATUS returns the attention bits of the addressed device. -/
  | peerStatus (tag addr data : Nat)
  /-- RESET (R171): An Eyepiece RESET with the key resets the package with warm scope after the reply completes. -/
  | reset (tag addr data : Nat)
  /-- IMAGE_BEGIN (R172): Starts a host image load while LOADER is 8. -/
  | imageBegin (tag addr data : Nat)
  /-- IMAGE_DATA (R172): Delivers image words from a word index during a host image load. -/
  | imageData (tag addr : Nat) (payload : List Byte)
  /-- IMAGE_END (R172): Ends a host image load, and the lead die checks the image. -/
  | imageEnd (tag addr data : Nat)
  /-- FLASH_ERASE (R173): Starts erasing an aligned 4 KiB flash sector. -/
  | flashErase (tag addr data : Nat)
  /-- FLASH_PROGRAM (R173): Starts programming up to 256 bytes within one flash page. -/
  | flashProgram (tag addr : Nat) (payload : List Byte)
  /-- FLASH_READ (R173): Reads up to 256 flash bytes through a pending entry. -/
  | flashRead (tag addr len : Nat)
  /-- FLASH_OP_DONE (R173): A flash erase, program or read completes and EYE.FLASH reports the outcome. -/
  | flashOpDone (good : Bool)
  /-- BAD_FRAME (R169): An Eyepiece host part with a wrong CRC, length or opcode is not executed and receives BAD_FRAME. -/
  | badFrame (bytes : List Byte)
  /-- SPI_ABORTED_COMMAND (R169): EYE_CS_N rises before the host part ends: the command is discarded and no reply is sent. -/
  | spiAbortedCommand (bytes : List Byte)
  /-- EYEPIECE_ETH_REQUEST (R178): An Eyepiece Ethernet frame is accepted, authenticated and its records executed in order, with a reply
  frame. -/
  | eyepieceEthRequest
  /-- SLOW_FETCH_DONE (R157): At the second slow-clock edge the value of a native slow-domain read is fetched into its pending entry. -/
  | slowFetchDone (i n : Nat)
  /-- PENDING_ENTRY_EXPIRE (R162): A completed pending entry not collected within 10 ms is freed. -/
  | pendingEntryExpire (i n : Nat)
  /-- REMOTE_TIMEOUT (R174): No answer to a remote command arrives within REMOTE_TO: its entry completes with TIMEOUT. -/
  | remoteTimeout (i n : Nat)
  /-- POSTED_WRITE_EFFECT (R155): At the second slow-clock edge after acceptance a posted write takes effect or is refused, and BUSY
  returns to 0. -/
  | postedWriteEffect (d b : Nat)
  /-- COMPAT_VIEW_REFRESH (R158): At every slow-clock edge the lead die refreshes its copy of every slow-domain register. -/
  | compatViewRefresh
  /-- BLOCK_ENABLE (R145): A write of 1 to BLK_CTRL.ENABLE enables the block once every CF register passes parity. -/
  | blockEnable (w : Sender) (d b v : Nat)
  /-- BLOCK_DISABLE (R145): A write of 0 to BLK_CTRL.ENABLE takes the block to its disabled safe state. -/
  | blockDisable (w : Sender) (d b v : Nat)
  /-- CLEAR_BY_SEQUENCE (R163): A write of SEQ to an SC register clears the events up to that sequence, or sets STALE_SEQ. -/
  | clearBySequence (w : Sender) (a seq : Nat)
  /-- REGISTER_WRITE (R148): A write to a register with no row of its own takes effect or is refused under its Kind. -/
  | registerWrite (w : Sender) (a v : Nat)
  /-- SUP_MINMAX_CLEAR (R95): SUP.CTRL.MINMAX_CLR restarts VBAT MIN and MAX from NOW. -/
  | supMinmaxClear (w : Sender) (d v : Nat)
  /-- VBAT_SAMPLE (R94): At every slow-clock edge SUP.VBAT NOW, MIN and MAX are updated. -/
  | vbatSample (d v : Nat)
  /-- FRAME_ADMISSION (R257): The fabric asks the queue manager to admit a frame, which is admitted, discarded or refused. -/
  | frameAdmission (p f : Nat)
  /-- ADMISSION_RETRY (R199): A refused frame requests admission again when the pool's free count rises. -/
  | admissionRetry (p f c : Nat)
  /-- FRAME_ENTRY (R202): An admitted frame is granted entry and its cells transit the fabric into the egress queue. -/
  | frameEntry (p : Nat)
  /-- D2D_CELL_RECEIVE (R222): A cell arrives over a die-to-die link and waits for admission on the receiving die. -/
  | d2dCellReceive (p j c : Nat)
  /-- D2D_CREDIT_RETURN (R222): Credit units return to the sending die when a cell leaves the receive buffer. -/
  | d2dCreditReturn (p j c : Nat)
  /-- D2D_CREDIT_VIOLATION (R234): A cell arrives without enough credit: the frame aborts and both dies resynchronise their credits. -/
  | d2dCreditViolation (p j c : Nat)
  /-- CELL_CHECK_FAILURE (R234): A cell fails CHECK or its code: its frame is marked ABORT. -/
  | cellCheckFailure (p f c place k flip : Nat) (code : Bool)
  /-- STORM_TIMEOUT (R215): A pause-storm guard timer reaches STORM_MS: the candidate is discarded and the class goes into drain. -/
  | stormTimeout (p f c : Nat)
  /-- STALLED_CELL (R234): An admitted frame is not fully written within 1 ms: FAB.EVT.STALL is set. -/
  | stalledCell (p : Nat)
  /-- PACE_SAMPLE (R233): At each slow-clock edge the pace monitor updates PACE.NOW and sets PACE_LOW below 1,024. -/
  | paceSample (p v : Nat)
  /-- REP_CMD_READ (R244): FAB.REP_CMD OP 1 copies a replication entry into REP_W0 and REP_W1. -/
  | repCmdRead (w : Sender) (p v : Nat)
  /-- REP_CMD_WRITE (R229): FAB.REP_CMD OP 2 writes a replication entry, or refuses it. -/
  | repCmdWrite (w : Sender) (p v : Nat)
  /-- FAB_CLR_MAX (R240): FAB.CTRL.CLR_MAX resets PACE.MIN, HELD_MAX_MS and HOLD_MAX. -/
  | fabClrMax (w : Sender) (p v : Nat)
  /-- EGRESS_SELECT (R261): The egress scheduler selects the next frame for a facet by class and deficit round robin. -/
  | egressSelect (p f : Nat)
  /-- FACET_DOWN_FLUSH (R264): An egress facet goes down: its queues are flushed and later references are discarded. -/
  | facetDownFlush (p f : Nat)
  /-- FLUSH_CMD (R265): QMGR.FLUSH_CMD START removes frame references from a queue, class or facet. -/
  | flushCmd (w : Sender) (p v : Nat)
  /-- FLUSH_DONE (R265): A flush completes, with its count in REMOVED and FLUSH_DONE set. -/
  | flushDone (p : Nat)
  /-- SPILL_BLOCK (R268): The spill engine moves a block of 8 cells of a deep queue to LPDDR5. -/
  | spillBlock (p q : Nat) (err : Bool)
  /-- FETCH_BLOCK (R268): The spill engine fetches the oldest spilled block back to a queue's head window. -/
  | fetchBlock (p q err cell : Nat)
  /-- CQ_DATA_READ (R277): A read of CQ_DATA_n by the owner returns and consumes the next word of a consumer port. -/
  | cqDataRead (w : Sender) (p n : Nat)
  /-- DROP_REST (R278): CQ_CMD.DROP_REST drops the remaining words of the current frame. -/
  | dropRest (w : Sender) (p n v : Nat)
  /-- Q_CMD_READ (R285): QMGR.Q_CMD OP 1 copies a queue's profile and accounting into Q_W0 to Q_W2. -/
  | qCmdRead (w : Sender) (p v : Nat)
  /-- Q_CMD_WRITE (R253): QMGR.Q_CMD OP 2 sets a queue's profile while QMGR is disabled. -/
  | qCmdWrite (w : Sender) (p v : Nat)
  /-- FRAME_LOOKUP (R295): The ingress die decides a frame's egress queue or replication index, with VLAN, filters, meters, learning and
  routing. -/
  | frameLookup (p f : Nat) (busy : Bool)
  /-- LEARN_NOTICE_RECEIVE (R309): A learn or delete notice from another Prism die is applied to the table. -/
  | learnNoticeReceive (p j : Nat) (busy : Bool)
  /-- AGEING_SWEEP (R307): Every AGE_S/2 s the sweep raises AGE of learned entries and removes those that reach 3. -/
  | ageingSweep (p : Nat)
  /-- LPM_INSERT (R316): LPM.CMD OP 1 inserts a route, evicting where needed. -/
  | lpmInsert (w : Sender) (p v : Nat)
  /-- LPM_DELETE (R316): LPM.CMD OP 2 deletes a route. -/
  | lpmDelete (w : Sender) (p v : Nat)
  /-- LPM_FIND (R316): LPM.CMD OP 3 finds the entry a lookup would choose. -/
  | lpmFind (w : Sender) (p v : Nat)
  /-- TDMA_READ (R328): A TDMA job with OP 1 reads table entries into the buffer or memory. -/
  | tdmaRead (w : Sender) (mem : List (Nat × Nat)) (p k v : Nat)
  /-- TDMA_WRITE (R328): A TDMA job with OP 2 writes table entries. -/
  | tdmaWrite (w : Sender) (mem : List (Nat × Nat)) (p k v : Nat)
  /-- TDMA_FIND (R328): A TDMA job with OP 3 finds a MAC entry by key. -/
  | tdmaFind (w : Sender) (mem : List (Nat × Nat)) (p k v : Nat)
  /-- TDMA_INSERT (R328): A TDMA job with OP 4 inserts a MAC entry by key. -/
  | tdmaInsert (w : Sender) (mem : List (Nat × Nat)) (p k v : Nat)
  /-- TDMA_DELETE (R328): A TDMA job with OP 5 deletes a MAC entry by key. -/
  | tdmaDelete (w : Sender) (mem : List (Nat × Nat)) (p k v : Nat)
  /-- TDMA_JOB_DONE (R328): A TDMA job ends and reports its result. -/
  | tdmaJobDone (p j : Nat)
  /-- TDMA_LOCK_EXPIRE (R330): A region lock held for LOCK_MAX_MS is cleared and LOCK_EXPIRED is set. -/
  | tdmaLockExpire (p t r : Nat)
  /-- GCL_CONFIG_CHANGE (R325): GCL_CTRL.CONFIG_CHANGE schedules the admin gate list for its change time. -/
  | gclConfigChange (w : Sender) (p f v : Nat)
  /-- GCL_SWITCH (R325): At the change time the admin bank becomes the operating bank. -/
  | gclSwitch (p f : Nat)
  /-- GATE_ENTRY_BEGIN (R323): A gate-list entry begins and opens its classes. -/
  | gateEntryBegin (p f : Nat)
  /-- ETH_RECEIVE (R353): The MAC examines a received frame and discards, consumes or offers it for lookup. -/
  | ethReceive (p f : Nat) (bytes : List Byte) (errAt : Option Nat) (fault : Bool) (fixed lost : Nat)
  /-- PAUSE_RECEIVE (R366): A received PAUSE or PFC frame pauses its classes for the given quanta. -/
  | pauseReceive (p f : Nat) (bytes : List Byte)
  /-- PAUSE_EXPIRE (R366): A pause time runs out and its class becomes eligible again. -/
  | pauseExpire (p f c : Nat)
  /-- PAUSE_LIMIT (R367): A class paused for LIMIT_MS is released and OVERRIDE is set. -/
  | pauseLimit (p f c : Nat)
  /-- XOFF_CROSS (R364): Receive-buffer occupancy rises to XOFF or XOFF_TOTAL: a PAUSE or PFC frame is sent. -/
  | xoffCross (p f : Nat)
  /-- XON_CROSS (R364): Occupancy falls to XON: a PAUSE or PFC frame with time 0 is sent. -/
  | xonCross (p f : Nat)
  /-- PAUSE_REFRESH (R364): Every QUANTA/2 quanta above XON the PAUSE or PFC frame is sent again. -/
  | pauseRefresh (p f : Nat)
  /-- ETH_TRANSMIT (R358): The egress facet sends a frame with tag handling, padding and FCS. -/
  | ethTransmit (p f coll : Nat) (late fault : Bool)
  /-- TX_ABORT (R360): A frame in transmission is aborted and ended with an inverted FCS. -/
  | txAbort (p f n : Nat) (underrun : Bool)
  /-- LINK_UP (R351): RAW_OK has been 1 for UP_HOLD_MS: the facet reports link up. -/
  | linkUp (p f : Nat) (held : Bool)
  /-- LINK_DOWN (R351): RAW_OK has been 0 for LINK_HOLD_MS, or the facet is disabled: link down. -/
  | linkDown (p f : Nat) (lf rf held : Bool)
  /-- PLCA_BEACON_LOST (R348): No BEACON for 400 µs: the T1S facet falls back to CSMA/CD and sets PLCA_LOST. -/
  | plcaBeaconLost (p f : Nat)
  /-- PLCA_BEACON (R348): A BEACON arrives and the facet returns to PLCA. -/
  | plcaBeacon (p f : Nat)
  /-- MDIO_C45_ADDRESS (R383): ETH.MDIO OP 1 issues a Clause 45 address frame. -/
  | mdioC45Address (w : Sender) (p f v : Nat)
  /-- MDIO_C45_WRITE (R383): ETH.MDIO OP 2 issues a Clause 45 write frame. -/
  | mdioC45Write (w : Sender) (p f v : Nat)
  /-- MDIO_C45_READ (R383): ETH.MDIO OP 3 issues a Clause 45 read frame. -/
  | mdioC45Read (w : Sender) (p f v : Nat)
  /-- MDIO_C22_WRITE (R383): ETH.MDIO OP 4 issues a Clause 22 write frame. -/
  | mdioC22Write (w : Sender) (p f v : Nat)
  /-- MDIO_C22_READ (R383): ETH.MDIO OP 5 issues a Clause 22 read frame. -/
  | mdioC22Read (w : Sender) (p f v : Nat)
  /-- MDIO_DONE (R349): An MDIO frame completes with its RESULT. -/
  | mdioDone (p bus data : Nat) (turnaround : Bool)
  /-- SNAP (R370): ETH.CTRL.SNAP copies all 53 counters into the snapshot bank. -/
  | snap (w : Sender) (p f v : Nat)
  /-- RESTART_AN (R380): ETH.CTRL.RESTART_AN restarts Clause 37 auto-negotiation. -/
  | restartAn (w : Sender) (p f v : Nat)
  /-- TXTS_POP (R375): A read of TXTS_B returns and removes the oldest egress timestamp entry. -/
  | txtsPop (w : Sender) (p f : Nat)
  /-- TIME_MARK (R372): Every 32nd slow-clock edge the Prism dies latch die time and align to the lead die. -/
  | timeMark (drift : List Int)
  /-- TIME_RATE_WRITE (R373): A write to TIME.RATE schedules a rate adjustment. -/
  | timeRateWrite (w : Sender) (p v : Nat)
  /-- TIME_STEP_WRITE (R373): A write to TIME.STEP schedules a step of die time. -/
  | timeStepWrite (w : Sender) (p v : Nat)
  /-- COMMIT (R376): TIME.CTRL.COMMIT makes the three PTP shadow registers take effect together. -/
  | commit (w : Sender) (p v : Nat)
  /-- PTP_NOW_READ (R386): A read of PTP_NOW_SEC latches the matching nanoseconds into PTP_NOW_NS. -/
  | ptpNowRead (w : Sender) (p : Nat)
  /-- TIME_CAPTURE (R376): A selected edge on TIME_CAP latches die time into TIME.CAP. -/
  | timeCapture (falling : Bool)
  /-- PPS_PULSE (R376): At each instant PTP nanoseconds pass 0 the lead die drives TIME_PPS high for 1 ms. -/
  | ppsPulse
  /-- CAN_RECEIVE (R395): A valid CAN frame ends on the bus: it is acknowledged, filtered and offered to the fabric. -/
  | canReceive (p c : Nat) (bytes : List Byte) (res : Bool) (ago : Nat)
  /-- CAN_TRANSMIT_DONE (R403): A pending CAN frame is sent successfully and the scheduler is asked again. -/
  | canTransmitDone (p c tdcv ago : Nat)
  /-- CAN_ARBITRATION_LOST (R405): The controller loses arbitration and retries. -/
  | canArbitrationLost (p c : Nat)
  /-- CAN_ERROR (R411): A bus error updates TEC and REC and may change error state. -/
  | canError (p c kind phase : Nat) (tx : Bool) (eights : Nat) (exempt : Bool) (tdcv : Option Nat)
  /-- CAN_INTEGRATED (R411): 11 consecutive recessive nominal bits end integration. -/
  | canIntegrated (p c : Nat)
  /-- CAN_RECOVER (R412): CAN.CMD.RECOVER moves a BUS_OFF controller to RECOVERING. -/
  | canRecover (w : Sender) (p c v : Nat)
  /-- CAN_RECOVERY_DONE (R411): 128 occurrences of 11 recessive bits return the controller to ERROR_ACTIVE. -/
  | canRecoveryDone (p c : Nat)
  /-- ABORT_TX (R405): CAN.CMD.ABORT_TX discards the pending frame at the end of its attempt. -/
  | abortTx (w : Sender) (p c v : Nat)
  /-- FILT_CMD_READ (R432): CAN.FILT_CMD OP 1 reads a filter element. -/
  | filtCmdRead (w : Sender) (p c v : Nat)
  /-- FILT_CMD_WRITE (R401): CAN.FILT_CMD OP 2 writes a filter element. -/
  | filtCmdWrite (w : Sender) (p c v : Nat)
  /-- AC_CMD_READ (R433): CAN.AC_CMD OP 1 reads a tracker entry. -/
  | acCmdRead (w : Sender) (p c v : Nat)
  /-- AC_CMD_FIND (R433): CAN.AC_CMD OP 2 finds the address holding a NAME. -/
  | acCmdFind (w : Sender) (p c v : Nat)
  /-- AC_CMD_EMPTY (R416): CAN.AC_CMD OP 3 empties the tracker. -/
  | acCmdEmpty (w : Sender) (p c v : Nat)
  /-- AC_AGE_SWEEP (R416): Once a second the tracker empties entries not refreshed for AGE_S. -/
  | acAgeSweep (p c : Nat)
  /-- LIN_SLOT (R422): A LIN schedule slot begins and the commander sends its header and response as the entry type says. -/
  | linSlot (p c rb late : Nat) (overrun : Bool)
  /-- LIN_RESPONSE (R422): A response completes or times out and is delivered or counted as an error. -/
  | linResponse (p c fault : Nat) (data : List Byte) (ago : Nat)
  /-- LIN_BUS_FAULT (R423): Read-back fails in 4 headers or the bus is stuck dominant: BUS_FAULT. -/
  | linBusFault (p c : Nat) (stuck : Bool)
  /-- LIN_PUBLISH (R421): A LIN bus frame in the egress queue is copied into its publish buffer. -/
  | linPublish (p c : Nat)
  /-- LIN_SWITCH (R420): LIN.CMD.SWITCH starts a table at the next slot boundary. -/
  | linSwitch (w : Sender) (p c v : Nat)
  /-- LIN_STOP (R420): LIN.CMD.STOP ends the schedule at the next slot boundary. -/
  | linStop (w : Sender) (p c v : Nat)
  /-- LIN_GOTOSLEEP (R420): LIN.CMD.GOTOSLEEP sends the go-to-sleep command and enters SLEEP. -/
  | linGotosleep (w : Sender) (p c v : Nat)
  /-- SCHED_CMD_READ (R436): LIN.SCHED_CMD OP 1 reads a schedule entry. -/
  | schedCmdRead (w : Sender) (p c v : Nat)
  /-- SCHED_CMD_WRITE (R436): LIN.SCHED_CMD OP 2 writes a schedule entry. -/
  | schedCmdWrite (w : Sender) (p c v : Nat)
  /-- PUB_CMD_READ (R436): LIN.PUB_CMD OP 1 reads a publish buffer. -/
  | pubCmdRead (w : Sender) (p c v : Nat)
  /-- PUB_CMD_WRITE (R436): LIN.PUB_CMD OP 2 writes a publish buffer as a frame. -/
  | pubCmdWrite (w : Sender) (p c v : Nat)
  /-- TXD_TIMEOUT (R427): A transceiver's transmit input is dominant too long: the driver is released. -/
  | txdTimeout (d u : Nat) (recessive : Bool)
  /-- BUS_DOM (R427): A CAN bus stays dominant for more than 4 ms: BUS_DOM is set. -/
  | busDom (d u : Nat)
  /-- XCVR_THERMAL (R427): A transceiver overheats: its driver turns off until it cools. -/
  | xcvrThermal (d u : Nat)
  /-- LIN_SUP_HIGH (R765): LIN_SUP stays above 36 V for 20 µs: LIN drivers are released. -/
  | linSupHigh (d : Nat)
  /-- LIN_SUP_OK (R765): LIN_SUP stays at or below 35 V for 1 ms: the LIN transceivers resume. -/
  | linSupOk (d : Nat)
  /-- XCVR_MODE_CHANGE (R425): A transceiver follows its controller's state into its mode. -/
  | xcvrModeChange (d u : Nat)
  /-- SGW_FRAME (R441): The signal engine takes a frame, looks it up in Beam, verifies seals, extracts signals and composes routed copies. -/
  | sgwFrame (p : Nat) (fault : Bool)
  /-- TP_TIMER_EXPIRE (R470): A transport session timer expires: the session closes and an abort is sent. -/
  | tpTimerExpire (p c sa da proto : Nat)
  /-- PDU_CADENCE (R459): At a cadence instant a PDU is composed from stored signals. -/
  | pduCadence (p i : Nat) (fault : Bool)
  /-- PDU_CHANGE_COMPOSE (R459): After MIN_GAP a change-triggered composition runs. -/
  | pduChangeCompose (p i : Nat) (fault : Bool)
  /-- TUNNEL_SEND (R465): A tunnel sends its AVTPDU when full or after MAX_WAIT. -/
  | tunnelSend (p t : Nat)
  /-- MEASUREMENT_WRITE (R639): A drive die writes a measurement into the signal store. -/
  | measurementWrite (d item : Nat) (v : Int)
  /-- SIGNAL_SWEEP (R456): The sweep sets TS to 0 for signals unwritten for 2^46 ns. -/
  | signalSweep (p : Nat)
  /-- BEAM_CMD_READ (R475): SGW.BEAM_CMD OP 1 reads a Beam entry. -/
  | beamCmdRead (w : Sender) (p v : Nat)
  /-- BEAM_CMD_FIND (R475): SGW.BEAM_CMD OP 2 finds a Beam key. -/
  | beamCmdFind (w : Sender) (p v : Nat)
  /-- BEAM_CMD_INSERT (R447): SGW.BEAM_CMD OP 3 inserts or replaces a Beam entry. -/
  | beamCmdInsert (w : Sender) (p v : Nat)
  /-- BEAM_CMD_DELETE (R475): SGW.BEAM_CMD OP 4 deletes a Beam key. -/
  | beamCmdDelete (w : Sender) (p v : Nat)
  /-- TBL_CMD_READ (R476): SGW.TBL_CMD OP 1 reads an entry of tables 0x4D–0x51. -/
  | tblCmdRead (w : Sender) (p v : Nat)
  /-- TBL_CMD_WRITE (R476): SGW.TBL_CMD OP 2 writes an entry of tables 0x4D–0x51. -/
  | tblCmdWrite (w : Sender) (p v : Nat)
  /-- SIG_CMD_READ (R477): SGW.SIG_CMD OP 1 reads a signal's VALUE and TS together. -/
  | sigCmdRead (w : Sender) (p v : Nat)
  /-- SIG_CMD_WRITE (R477): SGW.SIG_CMD OP 2 writes a signal value with TS the die time. -/
  | sigCmdWrite (w : Sender) (p v : Nat)
  /-- WINDOW_LOAD (R483): A load through a window reads the far register or returns RETRY. -/
  | windowLoad (p c hart n k : Nat) (aligned fast : Bool)
  /-- WINDOW_STORE (R484): A store through a window is posted to the far side. -/
  | windowStore (p c hart n k : Nat) (aligned lock : Bool) (v : Nat)
  /-- WINDOW_READ_REPLY (R483): A far read result arrives or times out into its pending entry. -/
  | windowReadReply (p i : Nat) (late : Bool)
  /-- POSTED_WRITE_DONE (R486): A posted window write completes, or fails and is logged. -/
  | postedWriteDone (p i : Nat) (late : Bool)
  /-- LOCKED_READ (R487): A lock-view load reads a far register and locks its block. -/
  | lockedRead (p c hart n k : Nat) (aligned fast : Bool)
  /-- WINDOW_LOCK_EXPIRE (R487): A lock held for LOCK_US is released and LOCK_LOST is set. -/
  | windowLockExpire (p n : Nat) (other : Bool)
  /-- WINDOW_PENDING_EXPIRE (R483): An uncollected window pending entry is freed after 10 ms. -/
  | windowPendingExpire (p i : Nat)
  /-- KEY_DEMAND (R503): A use of an EMPTY image-blob slot fails NOT_READY and starts loading the slot. -/
  | keyDemand (p n : Nat)
  /-- KEY_LOAD_DONE (R503): A blob unwraps into its slot, which becomes LOADED or BAD. -/
  | keyLoadDone (p n : Nat)
  /-- KEY_PRELOAD (R503): From step 11 PRELOAD slots are loaded in the background. -/
  | keyPreload (p : Nat)
  /-- LOAD (R505): KEYS.OP_CMD OP 1 loads a slot from its KEYBLOB entry. -/
  | load (w : Sender) (p v : Nat)
  /-- DERIVE (R507): KEYS.OP_CMD OP 2 derives a key under SOURCE. -/
  | derive (w : Sender) (p v : Nat)
  /-- UNWRAP (R505): KEYS.OP_CMD OP 3 unwraps a blob into TARGET. -/
  | unwrap (w : Sender) (p v : Nat)
  /-- WRAP (R505): KEYS.OP_CMD OP 4 wraps TARGET under SOURCE into OP_BUF. -/
  | wrap (w : Sender) (p v : Nat)
  /-- GENERATE (R505): KEYS.OP_CMD OP 5 fills TARGET from the DRBG. -/
  | generate (w : Sender) (p v : Nat)
  /-- CLEAR (R505): KEYS.OP_CMD OP 6 zeroises TARGET. -/
  | clear (w : Sender) (p v : Nat)
  /-- WRAP_ROOT (R505): KEYS.OP_CMD OP 7 wraps TARGET under the root key. -/
  | wrapRoot (w : Sender) (p v : Nat)
  /-- KEY_OP_DONE (R506): A key operation ends and sets OP_DONE. -/
  | keyOpDone (p : Nat)
  /-- RESILVER_PASS (R508): Every RESILVER_MS the key store re-randomises every loaded slot's shares. -/
  | resilverPass (p : Nat)
  /-- RESILVER_SLOT_USES (R508): After 2^20 uses a slot's shares are re-randomised before its next use. -/
  | resilverSlotUses (p n : Nat)
  /-- RNG_HEALTH_FAIL (R510): An entropy health test fails: the source stops and RNG_FAIL is set. -/
  | rngHealthFail (p : Nat)
  /-- RNG_STOP (R510): The DRBG's reseed falls due without a working source: the DRBG stops. -/
  | rngStop (p : Nat)
  /-- RNG_RESTART (R510): Every 100 ms the source restarts and, when its start-up tests pass, the DRBG reseeds. -/
  | rngRestart (p : Nat) (pass : Bool)
  /-- DRBG_RESEED (R509): The DRBG reseeds at least once a second. -/
  | drbgReseed (p : Nat)
  /-- TAMPER_ASSERT (R513): An armed tamper input asserts: keys are zeroised, root shares destroyed and the package reset. -/
  | tamperAssert (m : Nat)
  /-- TAMPER_SEEN (R512): An unarmed tamper input asserts: TAMPER_SEEN is set. -/
  | tamperSeen (m : Nat)
  /-- PROVISION (R515): KEYS.PROV_CMD OP 1 wraps and writes the image key and blows PROV_DONE. -/
  | provision (w : Sender) (p v : Nat)
  /-- RESTORE (R515): KEYS.PROV_CMD OP 2 writes a verified root-wrapped blob back to the key area. -/
  | restore (w : Sender) (p v : Nat)
  /-- REKEY (R515): KEYS.PROV_CMD OP 3 replaces the image key for the next start. -/
  | rekey (w : Sender) (p v : Nat)
  /-- RENEW (R515): KEYS.PROV_CMD OP 4 writes an epoch record with a greater RENEWAL and EPOCH 0. -/
  | renew (w : Sender) (p v : Nat)
  /-- PROV_CMD_DONE (R515): A provisioning command completes with its RESULT. -/
  | provCmdDone (p : Nat) (answers erase first second : Bool)
  /-- CIPH_JOB_START (R523): CIPH.JOB_k START runs a cipher job from its descriptor. -/
  | ciphJobStart (w : Sender) (mem : List (Nat × Nat)) (p k v : Nat)
  /-- CIPH_JOB_DONE (R524): A cipher job ends with its RESULT and interrupts its partition. -/
  | ciphJobDone (p c : Nat) (fault : Bool)
  /-- CIPHER_FLOW (R525): A frame in a facet-61 queue is sealed or verified under its flow and forwarded. -/
  | cipherFlow (p : Nat) (fault : Bool)
  /-- SA_CMD_READ (R547): MSEC.SA_CMD OP 1 reads an SA or SC. -/
  | saCmdRead (w : Sender) (p v : Nat)
  /-- SA_CMD_WRITE (R547): MSEC.SA_CMD OP 2 writes an SA or SC, subject to the PN mark. -/
  | saCmdWrite (w : Sender) (p v : Nat)
  /-- PROF_CMD_READ (R548): SEAL.PROF_CMD OP 1 reads a seal profile. -/
  | profCmdRead (w : Sender) (p v : Nat)
  /-- PROF_CMD_WRITE (R548): SEAL.PROF_CMD OP 2 writes a seal profile and clears its reference. -/
  | profCmdWrite (w : Sender) (p v : Nat)
  /-- FV_CMD_READ (R549): SEAL.FV_CMD OP 1 reads a profile's freshness. -/
  | fvCmdRead (w : Sender) (p v : Nat)
  /-- FV_CMD_CLEAR_REF (R549): SEAL.FV_CMD OP 2 clears a receive profile's reference. -/
  | fvCmdClearRef (w : Sender) (p v : Nat)
  /-- SEAL_BEACON (R535): Every BEACON_MS a transmit profile sends a beacon. -/
  | sealBeacon (p i : Nat) (fault : Bool)
  /-- PAIR_HEARTBEAT_SEND (R552): Every 1 ms the lead die sends a pair heartbeat on each pair-link facet. -/
  | pairHeartbeatSend
  /-- PAIR_HEARTBEAT_RECEIVE (R552): A pair heartbeat arrives and updates link state and offset. -/
  | pairHeartbeatReceive (past : Bool)
  /-- PAIR_LINK_LOSS (R555): No valid heartbeat for LINK_LOSS_MS while JOINED: the decision table is applied. -/
  | pairLinkLoss (line : Bool)
  /-- PAIR_JOIN (R555): The pair link has been up for 100 ms: JOINED and ownership reconciled. -/
  | pairJoin (line : Bool)
  /-- WITNESS_SEND (R571): Every WIT_MS the lead die sends a witness CAN frame. -/
  | witnessSend
  /-- WITNESS_RECEIVE (R571): A partner witness frame is passed to the PAIR block. -/
  | witnessReceive (p c : Nat) (bytes : List Byte)
  /-- PAIR_DECIDE (R570): Every WIT_MS with the pair link down, the decision table sets state and claims. -/
  | pairDecide (line : Bool)
  /-- CLAIM_WAIT_END (R566): The claim wait ends with the line released: the unit pulls PAIR_OWN and starts probes. -/
  | claimWaitEnd (line : Bool)
  /-- CLAIM_PROBE (R566): A claim probe releases PAIR_OWN for 2 µs and samples it. -/
  | claimProbe (line : Bool)
  /-- HANDOVER (R567): PAIR.CMD.HANDOVER, or AUTO_HANDOVER, makes the owner send a GRANT. -/
  | handover (w : Sender) (auto : Bool) (v : Nat)
  /-- GRANT_RECEIVE (R568): The partner checks a GRANT, requests admission and replies ACCEPT or DECLINE. -/
  | grantReceive (past : Bool)
  /-- HANDOVER_SWITCH (R568): At t_s the new owner pulls PAIR_OWN and applies the paired commands. -/
  | handoverSwitch
  /-- HANDOVER_PROBE (R568): At t_s + OVERLAP_US the old owner probes and releases or keeps ownership. -/
  | handoverProbe (line : Bool)
  /-- PATH_SILENT_SWEEP (R561): Every 10 ms the sweep checks recovery entries for a silent path. -/
  | pathSilentSweep (p : Nat)
  /-- PAIR_TBL_READ (R578): PAIR.TBL_CMD OP 1 reads a pairing table entry. -/
  | pairTblRead (w : Sender) (p v : Nat)
  /-- PAIR_TBL_WRITE (R578): PAIR.TBL_CMD OP 2 writes a pairing table entry. -/
  | pairTblWrite (w : Sender) (p v : Nat)
  /-- WAKE_REQ_WRITE (R604): A write to WAKE.REQ_k sets or clears PN requests and STAY. -/
  | wakeReqWrite (w : Sender) (p k v : Nat)
  /-- PN_WAKE (R582): An ASLEEP PN becomes AWAKE on request, keep-alive, transceiver wake or traffic. -/
  | pnWake (k : Nat)
  /-- PN_SLEEP (R582): An AWAKE PN with silence for SILENCE_MS falls ASLEEP and its members sleep. -/
  | pnSleep (k : Nat)
  /-- KEEPALIVE_PN_SEND (R583): Every KA_PERIOD_MS a keep-alive is sent on awake member facets of a requested PN. -/
  | keepalivePnSend (k : Nat)
  /-- KEEPALIVE_PN_SEEN (R581): A requesting keep-alive on a member facet resets the silence timer. -/
  | keepalivePnSeen (gf m : Nat)
  /-- TOKEN_ORIGINATE (R586): Every ROUND_MS the originating lead die starts a consent round. -/
  | tokenOriginate
  /-- TOKEN_PASS (R585): A member receives the token, sets or clears its consent bit and passes it on. -/
  | tokenPass
  /-- TOKEN_RETURN (R588): A round returns to the origin, which advances the phase or aborts. -/
  | tokenReturn
  /-- TOKEN_LOST (R586): No round returns in ROUND_MS, or no token for TOKEN_LOST_MS: a new token after back-off. -/
  | tokenLost
  /-- NOTICE_END (R588): NOTICE_MS after COMMIT returned, the GO round starts. -/
  | noticeEnd
  /-- SLEEP_ENTRY (R589): The SLEEP token makes each member enter sleep as it passes it on. -/
  | sleepEntry
  /-- SLEEP_OFF (R589): OFF at drive die 0 holds the Prism dies in reset and turns the regulators off. -/
  | sleepOff
  /-- WAKE_SOURCE (R593): An enabled wake source asserts: it is latched and the wake line is driven. -/
  | wakeSource (d src : Nat) (on : Bool)
  /-- WAKE_START (R593): Once supply and off-time conditions and jitter pass, a cold start begins. -/
  | wakeStart (v : Nat)
  /-- WAKE_TIMER (R590): The wake timer expires after TIMER.SECONDS of sleep. -/
  | wakeTimer
  /-- XCVR_WAKE_DETECT (R591): A transceiver in standby detects WUP or WUF. -/
  | xcvrWakeDetect (d u kind rate : Nat) (bytes : List Byte)
  /-- WAKE_FAILSAFE (R594): No confirmation within 150 ms returns the transceiver to standby and counts the wake invalid. -/
  | wakeFailsafe (d u : Nat)
  /-- CONFIRM (R595): WAKE.CMD.CONFIRM marks the pending wake valid. -/
  | confirm (w : Sender) (p v : Nat)
  /-- WAKE_VALIDITY_TIMEOUT (R595): CONFIRM_MS passes without a valid-making event: the wake is invalid. -/
  | wakeValidityTimeout
  /-- SOURCE_REARM (R596): 1,800 s after disarm the source rearms. -/
  | sourceRearm (d src : Nat)
  /-- REARM (R596): WKP.CMD.REARM rearms every source and clears the histories. -/
  | rearm (w : Sender) (d v : Nat)
  /-- WAKE_PATTERN_SLOT (R597): A wake-pattern slot begins and the next waiting facet starts its pattern. -/
  | wakePatternSlot
  /-- ADMISSION_REQUEST (R599): A turn-on requests admission and is granted or waits. -/
  | admissionRequest (d c : Nat)
  /-- ADMISSION_WINDOW_EXPIRE (R599): A claim leaves the window and waiting requests are decided again. -/
  | admissionWindowExpire
  /-- ADM_SLOW (R599): A request has waited WAIT_WARN_MS: ADM_SLOW is set. -/
  | admSlow
  /-- CHN_CMD (R611): A write to CHN.CMD sets the channel's command in force. -/
  | chnCmd (w : Sender) (d c v : Nat)
  /-- CHANNEL_GRANT (R613): A waiting turn-on is granted and the channel enters RAMP or DRIVE. -/
  | channelGrant (d c : Nat)
  /-- RAMP_DONE (R613): The ramping output reaches its target and the channel enters DRIVE. -/
  | rampDone (d c : Nat)
  /-- SHORT_DETECT (R616): A short during the ramp opens the channel into RETRY_WAIT or LATCHED. -/
  | shortDetect (d c : Nat)
  /-- LIMIT_HELD (R617): Current limit held for LIMIT_MS, or pre-driver overcurrent: treated as a short. -/
  | limitHeld (d c : Nat)
  /-- RETRY_BACKOFF_END (R618): The retry back-off ends and the channel requests admission again. -/
  | retryBackoffEnd (d c : Nat)
  /-- DT_TRIP (R624): ΔT exceeds DT_MAX for 100 µs: the channel opens into COOL. -/
  | dtTrip (d c : Nat)
  /-- GUARD_WARN (R625): In guarded mode Tj reaches 150 °C for 100 µs. -/
  | guardWarn (d c : Nat)
  /-- GUARD_TRIP (R625): In guarded mode Tj reaches 170 °C for 100 µs: the channel opens into COOL. -/
  | guardTrip (d c : Nat)
  /-- COOL_END (R613): The channel cools enough and requests a guarded turn-on. -/
  | coolEnd (d c : Nat) (tj : Int)
  /-- GUARD_END (R625): A guarded period ends. -/
  | guardEnd (d : Nat) (ch : Option Nat)
  /-- HARD_TRIP (R626): Tj reaches 175 °C: the channel latches with LATCH 1. -/
  | hardTrip (d c : Nat)
  /-- LOGIC_HOT (R627): The case reference exceeds 150 °C: every driving channel latches. -/
  | logicHot (d : Nat)
  /-- CASE_FAULT (R623): Case sensors differ by more than 10 K for 10 ms: die-wide guarded mode. -/
  | caseFault (d : Nat) (a b : Int)
  /-- CASE_FAULT_END (R623): Case sensors agree within 5 K for 1 s: the case reference is valid again. -/
  | caseFaultEnd (d : Nat) (a b : Int)
  /-- CLAMP_EVENT_END (R632): A clamp event ends: its energy is subtracted and the channel may lock. -/
  | clampEventEnd (d c e : Nat)
  /-- CLAMP_REFILL (R632): At each slow-clock edge the clamp level refills. -/
  | clampRefill (d : Nat)
  /-- CLEAR_FAULT (R626): CHN.CTRL.CLEAR_FAULT clears latches 1 and 2 when allowed. -/
  | clearFault (w : Sender) (d c v : Nat)
  /-- UNLOCK (R633): CHN.CTRL.UNLOCK clears latch 3 when the level is at least half. -/
  | unlock (w : Sender) (d c v : Nat)
  /-- SELFTEST (R635): CHN.CTRL.SELFTEST starts the self-test of an OPEN channel. -/
  | selftest (w : Sender) (d c v : Nat)
  /-- SELFTEST_END (R635): The self-test ends and records pass or fail. -/
  | selftestEnd (d c : Nat) (pass : Bool)
  /-- CAL (R621): CHN.CTRL.CAL starts an in-system calibration. -/
  | cal (w : Sender) (d c v : Nat)
  /-- CAL_DONE (R621): After 64 samples the calibration is stored or refused. -/
  | calDone (d c : Nat) (mean : Int) (vary : Bool)
  /-- OPEN_LOAD (R622): An open-load condition lasts 10 ms and is reported. -/
  | openLoad (d c : Nat) (onset : Bool)
  /-- CURRENT_SAMPLE (R619): Every 50 µs a channel samples its current. -/
  | currentSample (d c : Nat) (i tj a b : Int) (lim : Bool)
  /-- DIE_POWER_ESTIMATE (R629): Each slow-clock edge the drive die estimates channel dissipation. -/
  | diePowerEstimate (d : Nat)
  /-- INPUT_STATE_CHANGE (R636): A sense input's filtered state changes and interrupts firmware. -/
  | inputStateChange (d i mv : Nat) (entry : Option Nat)
  /-- WET_FAULT (R637): A wetting source cannot deliver its current. -/
  | wetFault (d i : Nat)
  /-- LIMP_N_ASSERT (R641): LIMP_N stays low for 1 ms: the drive die enters Pinhole mode. -/
  | limpNAssert (d : Nat)
  /-- HEARTBEAT_LOST (R641): No Prism heartbeat for the fused timeout: the drive die enters Pinhole mode. -/
  | heartbeatLost (d : Nat)
  /-- PINHOLE_TURN_ON (R643): A map channel's turn-on is granted, one per 10 ms. -/
  | pinholeTurnOn (d : Nat)
  /-- ACK (R644): PIN.CMD.ACK leaves Pinhole mode when all exit conditions hold. -/
  | ack (w : Sender) (d v : Nat)
  /-- TAKEOVER_HOLD_END (R644): After 1 s without a command a map channel's takeover hold ends and it opens. -/
  | takeoverHoldEnd (d c : Nat)
  /-- PARTITION_START (R664): A LOADING partition whose sections passed starts RUNNING. -/
  | partitionStart (p k : Nat)
  /-- SLOT_SWITCH (R663): At a slot boundary the core switches to the next slot's partition. -/
  | slotSwitch (p c : Nat)
  /-- PARTITION_HALT (R665): A halt trigger halts the partition and takes the halt actions. -/
  | partitionHalt (p k cause : Nat)
  /-- PARTITION_RESTART (R666): A restart streams the partition's sections again and restarts its harts. -/
  | partitionRestart (p k : Nat) (answers : Bool)
  /-- PCMD_HALT (R667): CPU.PCMD OP 1 halts a partition. -/
  | pcmdHalt (w : Sender) (p v : Nat)
  /-- PCMD_RESTART (R667): CPU.PCMD OP 2 restarts a partition. -/
  | pcmdRestart (w : Sender) (p v : Nat)
  /-- WATCHDOG_KICK (R668): A write of NEXT into KICK_p.KEY restarts the partition watchdog. -/
  | watchdogKick (w : Sender) (p k v : Nat)
  /-- WATCHDOG_EXPIRY (R668): A partition watchdog expires: restart or halt. -/
  | watchdogExpiry (p k : Nat)
  /-- SKICK (R669): A write to CPU.SKICK from core 0 kicks the safety-pair watchdog. -/
  | skick (w : Sender) (p v : Nat)
  /-- SAFETY_WDT_EXPIRY (R669): The safety-pair watchdog expires: package reset. -/
  | safetyWdtExpiry (p : Nat)
  /-- LOCKSTEP_MISMATCH (R656): The safety pair's comparator mismatches: the pair halts and SAFE partitions halt. -/
  | lockstepMismatch (p : Nat)
  /-- MGMT_LOAD (R658): A hart load from the management view reads a register. -/
  | mgmtLoad (p c hart loc width : Nat)
  /-- MGMT_STORE (R659): A hart store to the management view passes its aperture and is posted. -/
  | mgmtStore (p c hart loc width v : Nat)
  /-- SIGNAL_VIEW_LOAD (R657): A hart load from the signal view returns a signal's VALUE or TS. -/
  | signalViewLoad (p c hart loc width : Nat)
  /-- TX_RING_PROD (R670): A write of TXR_B.PROD gives descriptors to the transmit path. -/
  | txRingProd (w : Sender) (mem : List (Nat × Nat)) (p k v : Nat)
  /-- TX_DESCRIPTOR (R671): The transmit path serves one descriptor, checks its aperture and offers the frame. -/
  | txDescriptor (p : Nat)
  /-- MAX_ON_EXPIRE (R678): A channel ON for MAX_ON_MS is forced open by the aperture. -/
  | maxOnExpire (p n : Nat)
  /-- INTERRUPT_DELIVERY (R684): A routed or directed interrupt record enters a partition's FIFO. -/
  | interruptDelivery (p : Nat)
  /-- IRQ_POP (R684): A load of CPU.IRQ_POP_p removes the oldest interrupt record. -/
  | irqPop (w : Sender) (p k : Nat)
  /-- APR_RD (R686): A write of APR_RD.INDEX copies an aperture entry into APR_W. -/
  | aprRd (w : Sender) (p v : Nat)
  /-- KEEPALIVE_SEND (R701): Every KA_MS the domain engine sends a keep-alive on its facets. -/
  | keepaliveSend
  /-- KEEPALIVE_RECEIVE (R699): A keep-alive is checked and updates the domain table and census. -/
  | keepaliveReceive (past : Bool)
  /-- CENSUS_AGE (R707): A member no longer heard leaves its census entry. -/
  | censusAge
  /-- CAN_KEEPALIVE_RECEIVE (R702): A CAN keep-alive counts for PN membership and checks its fold. -/
  | canKeepaliveReceive (p c : Nat) (bytes : List Byte)
  /-- HELLO (R703): A HELLO is sent every 1 ms or received, completing the Ezsor handshake. -/
  | hello (p f : Nat) (recv : Bool)
  /-- HELLO_LOSS (R703): 10 ms without a HELLO makes RAW_OK fall. -/
  | helloLoss (p f : Nat)
  /-- CREDIT (R704): A CREDIT message reports cumulative freed cells per class. -/
  | credit (p f : Nat) (recv : Bool)
  /-- REQUEST (R705): A REQUEST message carries a remote command to its target, which executes it. -/
  | request (past : Bool)
  /-- REPLY (R705): A REPLY returns a remote command's code and data to the requester. -/
  | reply (past : Bool)
  /-- BOOT_REQ (R706): A BOOT_REQ is answered with a BOOT_OFFER when the server can serve it. -/
  | bootReq (past : Bool)
  /-- BOOT_OFFER (R706): The requester follows the first offer and starts pulling chunks. -/
  | bootOffer
  /-- CHUNK_REQ (R706): A serving device answers a CHUNK_REQ with a CHUNK. -/
  | chunkReq (past : Bool)
  /-- CHUNK (R706): A CHUNK delivers image words to the requester. -/
  | chunk
  /-- CHUNK_TIMEOUT (R706): A chunk request unanswered for 20 ms is repeated, and after 10 repeats the image is abandoned. -/
  | chunkTimeout (i : Nat)
  /-- DT_CMD_READ (R713): PLX.DT_CMD OP 1 reads a domain-table entry. -/
  | dtCmdRead (w : Sender) (v : Nat)
  /-- DT_CMD_REMOVE (R713): PLX.DT_CMD OP 2 removes a domain-table entry. -/
  | dtCmdRemove (w : Sender) (v : Nat)
  /-- LOUPE_SAMPLE (R716): A monitor takes a sample into MIN, MAX, COUNT, SUM and its bin. -/
  | loupeSample (p m v : Nat) (taken : Bool)
  /-- SNAP_CMD_SNAPSHOT (R719): LOUPE.SNAP_CMD OP 1 copies a monitor into a snapshot bank. -/
  | snapCmdSnapshot (w : Sender) (p v : Nat)
  /-- SNAP_CMD_SNAPSHOT_CLEAR (R719): LOUPE.SNAP_CMD OP 2 copies and clears a monitor. -/
  | snapCmdSnapshotClear (w : Sender) (p v : Nat)
  /-- FEED_VAL (R721): A write to LOUPE.FEED_VAL offers a sample to matching monitors. -/
  | feedVal (w : Sender) (p v : Nat)
  /-- MCFG_WRITE (R741): A write to a monitor's MCFG registers resets it. -/
  | mcfgWrite (w : Sender) (p m j v : Nat)
  /-- RECORDER_LINK_UP (R726): The PCIe link comes up and the recorder initialises the controller. -/
  | recorderLinkUp (p width speed : Nat)
  /-- RECORDER_LINK_TIMEOUT (R726): No link within 100 ms sends the recorder to ERROR. -/
  | recorderLinkTimeout (p : Nat)
  /-- RECORDER_INIT_DONE (R728): Controller checks pass and the recorder resumes, or fails into ERROR. -/
  | recorderInitDone (p : Nat) (ready : Bool) (lba blocks : Nat)
  /-- RECORDER_RESUME (R736): The recorder restores WPTR and episodes from the superblock and starts RUNNING. -/
  | recorderResume (p : Nat) (a b : List Byte) (heads : List (List Byte))
  /-- RECORD_TAKE (R732): The recorder takes a frame from facet 62 and forms its record. -/
  | recordTake (p : Nat)
  /-- CHUNK_WRITE (R731): A full chunk is written to the drive. -/
  | chunkWrite (p : Nat)
  /-- RECORDER_FLUSH (R731): After FLUSH_MS a partial chunk is padded, written, flushed and the superblock updated. -/
  | recorderFlush (p : Nat)
  /-- NVME_COMPLETION (R726): An NVMe command completes, or fails or times out into ERROR. -/
  | nvmeCompletion (p i kind status : Nat)
  /-- TRIGGER_TAKE (R737): At the next slow-clock edge a trigger opens an episode, merges, or is refused. -/
  | triggerTake (p : Nat)
  /-- EPISODE_CLOSE (R738): POST_MS after the trigger, the episode closes and is flushed. -/
  | episodeClose (p : Nat)
  /-- TRIGGER (R737): PSCP.CMD.TRIGGER requests a recorder trigger. -/
  | trigger (w : Sender) (p v : Nat)
  /-- RESTART (R726): PSCP.CMD.RESTART restarts the recorder from LINK. -/
  | restart (w : Sender) (p v : Nat)
  /-- RELEASE (R738): PSCP.CMD.RELEASE frees a closed episode. -/
  | release (w : Sender) (p v : Nat)
  /-- RD_CMD (R739): PSCP.RD_CMD START reads bytes from the recorder region. -/
  | rdCmd (w : Sender) (p v : Nat)
  /-- RD_CMD_DONE (R739): A recorder read completes or fails with its RESULT. -/
  | rdCmdDone (p : Nat) (ok : Bool) (data : List Byte)
  /-- PRISM_HEARTBEAT (R641): Every 1 ms from step 6 the attached Prism die sends a heartbeat over each drive link; each arrival restarts
  the drive die's heartbeat timer and advances PIN.STAT.HB_OK_MS. -/
  | prismHeartbeat (d : Nat)
  /-- LIMP_N_RELEASE (R641): The LIMP_N ball returns high: the LIMP_N cause clears in PIN.STAT and the 1 ms high time that Pinhole exit
  requires begins. -/
  | limpNRelease (d : Nat)
  /-- PAUSE_OVERRIDE_END (R367): A class with OVERRIDE set receives no pause from the partner for 1 ms: OVERRIDE clears and pauses are
  honoured again. -/
  | pauseOverrideEnd (p f c : Nat)
  /-- XCVR_THERMAL_RELEASE (R427): A transceiver that shut its driver for overtemperature cools below its release threshold of 150 °C and
  drives again. -/
  | xcvrThermalRelease (d u : Nat)
  /-- RECORDER_LINK_LOST (R726): The PCIe link to the recorder's NVMe drive drops in RUNNING or POST and the recorder enters ERROR with
  LAST_ERR.KIND 7. -/
  | recorderLinkLost (p : Nat)
  /-- WAKE_REPORT_TIMEOUT (R595): A drive die receives no validity report for a wake within 10 s and counts the wake as invalid in its
  source's history. -/
  | wakeReportTimeout (d : Nat)
  /-- RETRY_COUNT_RESET (R613): A channel that has stayed in DRIVE for 1 s sets its retry count to 0. -/
  | retryCountReset (d c : Nat)
  /-- LIN_WAKE_SCHEDULE_RESTART (R584): 100 ms after a LIN member's wake pulse ends, its controller restarts its schedule from the first
  entry. -/
  | linWakeScheduleRestart (p c : Nat)
  deriving DecidableEq, Repr

end Sys2Proof
end

