-- ==== Sys2Proof/Machine/Bits.lean ====
section
/-! DEFINITION. Bit fields, byte order and checks of words (R14, R15, R168). -/

namespace Sys2Proof.Machine

/-- A field [lo+w-1 : lo] of a 48-bit word (R14). -/
structure Fld where
  lo : Nat
  w : Nat
  deriving DecidableEq, Repr

/-- The value of field f of word v. -/
def fget (v : Word) (f : Fld) : Nat := (v.toNat >>> f.lo) % 2 ^ f.w

/-- The mask of a field: ones in its bits. -/
def fmask (f : Fld) : Word := BitVec.ofNat 48 ((2 ^ f.w - 1) <<< f.lo)

/-- Word v with field f set to n (modulo its width). -/
def fset (v : Word) (f : Fld) (n : Nat) : Word :=
  (v &&& ~~~ fmask f) ||| BitVec.ofNat 48 ((n % 2 ^ f.w) <<< f.lo)

/-- Bit i of word v. -/
def bit (v : Word) (i : Nat) : Bool := v.getLsbD i

/-- Word v with bit i set. -/
def setBit (v : Word) (i : Nat) : Word := v ||| BitVec.ofNat 48 (1 <<< i)

/-- Word v with bit i clear. -/
def clearBit (v : Word) (i : Nat) : Word := v &&& ~~~ BitVec.ofNat 48 (1 <<< i)

/-- A Boolean as 0 or 1. -/
def b2n (b : Bool) : Nat := if b then 1 else 0

/-- A word built from field values: each pair places a value at its field; later pairs win. -/
def word (l : List (Fld × Nat)) : Word := l.foldl (fun v e => fset v e.1 e.2) 0

/-- The signed reading of the low w bits of n (two's complement). -/
def toSigned (w n : Nat) : Int :=
  let m := n % 2 ^ w
  if w ≠ 0 ∧ 2 ^ (w - 1) ≤ m then (m : Int) - 2 ^ w else m

/-- The low w bits of a signed number (two's complement). -/
def ofSigned (w : Nat) (i : Int) : Nat := (i % (2 ^ w : Int)).toNat

/-- n saturated at m. -/
def sat (m n : Nat) : Nat := min n m

/-- The k bytes of n, most significant byte first (R15). -/
def beBytes : Nat → Nat → List Byte
  | 0, _ => []
  | k + 1, n => BitVec.ofNat 8 (n / 256 ^ k) :: beBytes k n

/-- The number that a list of bytes spells, most significant byte first (R15). -/
def beNat (l : List Byte) : Nat := l.foldl (fun a b => a * 256 + b.toNat) 0

/-- The number that a list of bytes spells, least significant byte first. -/
def leNat : List Byte → Nat
  | [] => 0
  | b :: l => b.toNat + 256 * leNat l

/-- The k bytes of n, least significant byte first. -/
def leBytes : Nat → Nat → List Byte
  | 0, _ => []
  | k + 1, n => BitVec.ofNat 8 n :: leBytes k (n / 256)

/-- The six bytes of a word (R15). -/
def wordBytes (v : Word) : List Byte := beBytes 6 v.toNat

/-- The word that six bytes spell (R15). -/
def bytesWord (l : List Byte) : Word := BitVec.ofNat 48 (beNat (l.take 6))

/-- Bytes as words, six a word, the last word filled with zero bytes (R15). -/
def bytesToWords : Nat → List Byte → List Word
  | 0, _ => []
  | k + 1, l => BitVec.ofNat 48 (beNat ((l.take 6) ++ List.replicate (6 - (l.take 6).length) 0)) ::
      bytesToWords k (l.drop 6)

/-- Bytes lo to lo + n - 1 of a list, read as a number, most significant first; missing bytes read as zero. -/
def bytesAt (l : List Byte) (lo n : Nat) : Nat :=
  beNat ((l.drop lo).take n ++ List.replicate (n - ((l.drop lo).take n).length) 0)

/-- A list padded with zero bytes to n bytes, or cut to n bytes. -/
def padTo (n : Nat) (l : List Byte) : List Byte := (l ++ List.replicate (n - l.length) 0).take n

/-- ceil(a / b). -/
def cdiv (a b : Nat) : Nat := (a + b - 1) / b

/-- One byte of the 16-bit CRC of R168, bit by bit, most significant first. -/
def crc16Bit (c : Nat) : Nat → Nat → Nat
  | 0, _ => c
  | k + 1, b =>
    let x := (c / 32768 + b / 2 ^ k) % 2
    crc16Bit ((c * 2) % 65536 ^^^ (if x = 1 then 0x1021 else 0)) k b

/-- The 16-bit CRC of R168: polynomial 0x1021, initial value 0xFFFF, no reflection, no final XOR. -/
def crc16 (l : List Byte) : Nat := l.foldl (fun c b => crc16Bit c 8 b.toNat) 0xFFFF

/-- One byte of the reflected CRC-32, bit by bit. -/
def crc32Bit (c : Nat) : Nat → Nat
  | 0 => c
  | k + 1 => crc32Bit (if c % 2 = 1 then (c / 2) ^^^ 0xEDB88320 else c / 2) k

/-- The CRC-32 of IEEE 802.3 (frame check sequence; superblock check of R729). -/
def crc32 (l : List Byte) : Nat :=
  (l.foldl (fun c b => crc32Bit (c ^^^ b.toNat) 8) 0xFFFFFFFF) ^^^ 0xFFFFFFFF

end Sys2Proof.Machine
end

