-- ==== Sys2Proof/Machine/Sparse.lean ====
section
/-! DEFINITION. Sparse data by number: a list of (key, value) pairs in one canonical form, keys strictly rising
and no entry equal to what an unlisted key reads as, so that equal contents are equal data (log entry 2). -/

namespace Sys2Proof.Machine

/-- Sparse data: the entries that differ from the default, keys strictly rising. -/
abbrev Sparse (α : Type) := List (Nat × α)

/-- What key k reads as: the listed value, else the default. -/
def Sparse.get {α : Type} (d : Nat → α) : Sparse α → Nat → α
  | [], k => d k
  | (j, v) :: m, k => if j = k then v else Sparse.get d m k

/-- Drop every entry whose key does not satisfy p: those keys read their default again. -/
def Sparse.keep {α : Type} (p : Nat → Bool) (m : Sparse α) : Sparse α :=
  m.filter fun e => p e.1

/-- Set key k to v in a rising list. -/
def Sparse.ins {α : Type} (k : Nat) (v : α) : Sparse α → Sparse α
  | [] => [(k, v)]
  | (j, w) :: m =>
    if k < j then (k, v) :: (j, w) :: m
    else if j = k then (k, v) :: m
    else (j, w) :: Sparse.ins k v m

/-- Write v at key k, keeping the canonical form: the default's value removes the entry. -/
def Sparse.put {α : Type} [DecidableEq α] (d : Nat → α) (k : Nat) (v : α) (m : Sparse α) : Sparse α :=
  if v = d k then Sparse.keep (fun j => j != k) m else Sparse.ins k v m

/-- Every key of the list lies above b, strictly rising. -/
def Sparse.rises {α : Type} : Option Nat → Sparse α → Bool
  | _, [] => true
  | none, (j, _) :: m => Sparse.rises (some j) m
  | some b, (j, _) :: m => decide (b < j) && Sparse.rises (some j) m

/-- The canonical form: keys strictly rising, and no entry equal to the default of its key. -/
def Sparse.canon {α : Type} [DecidableEq α] (d : Nat → α) (m : Sparse α) : Bool :=
  Sparse.rises none m && m.all fun e => decide (e.2 ≠ d e.1)

/-! The laws of the canonical form, which every write keeps. -/

/-- A list that rises above b rises above anything lower. -/
theorem Sparse.rises_mono {α : Type} {a b : Nat} (h : a ≤ b) (m : Sparse α)
    (hm : Sparse.rises (some b) m = true) : Sparse.rises (some a) m = true := by
  cases m with
  | nil => rfl
  | cons e m =>
    simp only [Sparse.rises, Bool.and_eq_true, decide_eq_true_eq] at hm ⊢
    exact ⟨by omega, hm.2⟩

/-- Rising above some bound is rising. -/
theorem Sparse.rises_none {α : Type} {b : Nat} (m : Sparse α)
    (hm : Sparse.rises (some b) m = true) : Sparse.rises none m = true := by
  cases m with
  | nil => rfl
  | cons e m =>
    simp only [Sparse.rises, Bool.and_eq_true, decide_eq_true_eq] at hm ⊢
    exact hm.2

/-- An insertion keeps the keys rising above a bound below the key. -/
theorem Sparse.ins_rises {α : Type} (k : Nat) (v : α) (m : Sparse α) :
    ∀ b, b < k → Sparse.rises (some b) m = true → Sparse.rises (some b) (Sparse.ins k v m) = true := by
  induction m with
  | nil => intro b hb _; simp [Sparse.ins, Sparse.rises, hb]
  | cons e m ih =>
    intro b hb hm
    obtain ⟨j, w⟩ := e
    simp only [Sparse.rises, Bool.and_eq_true, decide_eq_true_eq] at hm
    simp only [Sparse.ins]
    split
    · rename_i hk
      simp [Sparse.rises, hb, hk, hm.2]
    · split
      · rename_i hk
        subst hk; simp [Sparse.rises, hb, hm.2]
      · simp only [Sparse.rises, Bool.and_eq_true, decide_eq_true_eq]
        exact ⟨hm.1, ih j (by omega) hm.2⟩

/-- An insertion keeps the keys rising. -/
theorem Sparse.ins_rises_none {α : Type} (k : Nat) (v : α) (m : Sparse α) (hm : Sparse.rises none m = true) :
    Sparse.rises none (Sparse.ins k v m) = true := by
  cases m with
  | nil => rfl
  | cons e m =>
    obtain ⟨j, w⟩ := e
    simp only [Sparse.rises] at hm
    simp only [Sparse.ins]
    split
    · rename_i hk
      simp [Sparse.rises, hk, hm]
    · split
      · rename_i hk
        subst hk; exact hm
      · exact Sparse.ins_rises k v m j (by omega) hm

/-- What a property of every entry asks of an insertion: that it holds of the entry set. -/
theorem Sparse.ins_all {α : Type} (k : Nat) (v : α) (p : Nat × α → Bool) (m : Sparse α) (hv : p (k, v) = true)
    (hm : m.all p = true) : (Sparse.ins k v m).all p = true := by
  induction m with
  | nil => simp [Sparse.ins, hv]
  | cons e m ih =>
    obtain ⟨j, w⟩ := e
    simp only [List.all_cons, Bool.and_eq_true] at hm
    simp only [Sparse.ins]
    split
    · simp [hv, hm.1, hm.2]
    · split
      · simp [hv, hm.2]
      · simp [hm.1, ih hm.2]

/-- Dropping entries keeps the keys rising. -/
theorem Sparse.keep_rises {α : Type} (p : Nat → Bool) (m : Sparse α) :
    ∀ b, Sparse.rises b m = true → Sparse.rises b (Sparse.keep p m) = true := by
  induction m with
  | nil => intro b _; simpa [Sparse.keep] using (by cases b <;> rfl : Sparse.rises b ([] : Sparse α) = true)
  | cons e m ih =>
    intro b hm
    obtain ⟨j, w⟩ := e
    have hj : Sparse.rises (some j) m = true := by
      cases b with
      | none => exact hm
      | some b =>
        simp only [Sparse.rises, Bool.and_eq_true] at hm
        exact hm.2
    simp only [Sparse.keep, List.filter_cons]
    split
    · have := ih (some j) hj
      cases b with
      | none => exact this
      | some b =>
        simp only [Sparse.rises, Bool.and_eq_true] at hm ⊢
        exact ⟨hm.1, this⟩
    · cases b with
      | none => exact ih none (Sparse.rises_none m hj)
      | some b =>
        simp only [Sparse.rises, Bool.and_eq_true, decide_eq_true_eq] at hm
        exact ih (some b) (Sparse.rises_mono (by omega) m hj)

/-- What a property of every entry asks of a write: that it holds of the entry written. -/
theorem Sparse.put_all {α : Type} [DecidableEq α] (d : Nat → α) (k : Nat) (v : α) (p : Nat × α → Bool)
    (m : Sparse α) (hv : v ≠ d k → p (k, v) = true) (hm : m.all p = true) : (Sparse.put d k v m).all p = true := by
  simp only [Sparse.put]
  split
  · simp only [List.all_eq_true, Sparse.keep] at hm ⊢
    intro x hx
    exact hm x (List.mem_filter.mp hx).1
  · rename_i h
    exact Sparse.ins_all k v p m (hv h) hm

/-- A write keeps the canonical form. -/
theorem Sparse.put_canon {α : Type} [DecidableEq α] (d : Nat → α) (k : Nat) (v : α) (m : Sparse α)
    (hm : Sparse.canon d m = true) : Sparse.canon d (Sparse.put d k v m) = true := by
  simp only [Sparse.canon, Bool.and_eq_true] at hm ⊢
  refine ⟨?_, Sparse.put_all d k v _ m (by intro h; simpa using h) hm.2⟩
  simp only [Sparse.put]
  split
  · exact Sparse.keep_rises _ m none hm.1
  · exact Sparse.ins_rises_none k v m hm.1

/-! Reading after writing. -/

/-- Reading after an insertion. -/
theorem Sparse.get_ins {α : Type} (d : Nat → α) (k : Nat) (v : α) (m : Sparse α) (j : Nat) :
    Sparse.get d (Sparse.ins k v m) j = if j = k then v else Sparse.get d m j := by
  induction m with
  | nil => simp only [Sparse.ins, Sparse.get, eq_comm]
  | cons e m ih =>
    obtain ⟨i, w⟩ := e
    simp only [Sparse.ins]
    split
    · simp only [Sparse.get]
      by_cases h : k = j
      · simp [h]
      · simp [h, Ne.symm h]
    · split
      · rename_i h1 h2
        subst h2
        simp only [Sparse.get]
        by_cases h : i = j
        · simp [h]
        · simp [h, Ne.symm h]
      · rename_i h1 h2
        simp only [Sparse.get, ih]
        by_cases h : i = j
        · have : ¬ j = k := by omega
          simp [h, this]
        · simp [h]

/-- Reading after keys were dropped. -/
theorem Sparse.get_keep {α : Type} (d : Nat → α) (p : Nat → Bool) (m : Sparse α) (j : Nat) :
    Sparse.get d (Sparse.keep p m) j = if p j then Sparse.get d m j else d j := by
  induction m with
  | nil => simp [Sparse.keep, Sparse.get]
  | cons e m ih =>
    obtain ⟨i, w⟩ := e
    simp only [Sparse.keep, List.filter_cons] at ih ⊢
    by_cases h : i = j
    · subst h
      by_cases hp : p i = true
      · simp [hp, Sparse.get]
      · simp only [hp] at ih ⊢
        simpa using ih
    · by_cases hp : p i = true
      · simp only [hp, if_true, Sparse.get, h, if_false]
        exact ih
      · simp only [hp, Sparse.get, h, if_false]
        simpa using ih

/-- Reading after a write: the key written gives the value, every other key is as before. -/
theorem Sparse.get_put {α : Type} [DecidableEq α] (d : Nat → α) (k : Nat) (v : α) (m : Sparse α) (j : Nat) :
    Sparse.get d (Sparse.put d k v m) j = if j = k then v else Sparse.get d m j := by
  simp only [Sparse.put]
  split
  · rename_i h
    rw [Sparse.get_keep]
    by_cases hj : j = k
    · simp [hj, h]
    · simp [hj]
  · exact Sparse.get_ins d k v m j

/-- Dropping entries keeps the canonical form. -/
theorem Sparse.keep_canon {α : Type} [DecidableEq α] (d : Nat → α) (p : Nat → Bool) (m : Sparse α)
    (hm : Sparse.canon d m = true) : Sparse.canon d (Sparse.keep p m) = true := by
  simp only [Sparse.canon, Bool.and_eq_true] at hm ⊢
  refine ⟨Sparse.keep_rises p m none hm.1, ?_⟩
  simp only [List.all_eq_true] at hm ⊢
  intro x hx
  exact hm.2 x (List.mem_filter.mp hx).1

end Sys2Proof.Machine
end

