-- ==== Sys2Proof/Machine/RegMap.lean ====
section
/-! DEFINITION. The register map: every register of every block, read from the register tables of the spec
(R140, R141 and the tables of each chapter). -/

namespace Sys2Proof.Machine

/-- The Kind codes of R18. -/
inductive Kind where
  | cf | rw | ro | sc | wo1 | pw
  deriving DecidableEq, Repr

/-- One row of the map: registers off, off + stride, … (n of them), their Kind, the bits the register implements, the
bits a write may change, the live bits, the fused bits, the reset value and whether they exist on the lead die only
(reading zero, and ignoring writes, on other Prism dies). -/
structure RegRow where
  off : Nat
  n : Nat
  stride : Nat
  kind : Kind
  mask : Nat
  wmask : Nat
  live : Nat
  fuse : Nat
  reset : Nat
  lead : Bool
  deriving DecidableEq, Repr

/-- A local management word address (R139): die field, block, register. -/
def ra (die blk reg : Nat) : Nat := reg + (8192 * blk + 2097152 * die)

/-- The die field of a local address (R139). -/
def aDie (a : Nat) : Nat := a / 2097152

/-- The block of a local address (R139). -/
def aBlk (a : Nat) : Nat := a / 8192 % 256

/-- The register number of a local address (R139). -/
def aReg (a : Nat) : Nat := a % 8192

/-- Block DEV of a Prism die: R189, R190, R191, R779, R781. -/
def rowsDEV0 : List RegRow := [
  ⟨0x0, 1, 1, .ro, 0xFFFFF7, 0x0, 0x0, 0xFFFFF7, 0x0, false⟩,
  ⟨0x1, 1, 1, .ro, 0xFFFFFFFFFFFF, 0x0, 0x0, 0xFFFFFFFFFFFF, 0x0, true⟩,
  ⟨0x2, 1, 1, .ro, 0x77, 0x0, 0x0, 0x77, 0x0, false⟩,
  ⟨0x3, 1, 1, .ro, 0xFFFF0001, 0x0, 0x0, 0x0, 0x0, false⟩,
  ⟨0x4, 1, 1, .sc, 0xFF030F, 0xFF000F, 0x300, 0x0, 0x0, false⟩,
  ⟨0x5, 1, 1, .ro, 0xFFFFFFFF, 0x0, 0xFFFFFFFF, 0x0, 0x0, false⟩,
  ⟨0x6, 1, 1, .ro, 0xFFFFFF, 0x0, 0x0, 0x0, 0x0, false⟩,
  ⟨0x7, 1, 1, .ro, 0x3F, 0x0, 0xF, 0x0, 0x0, false⟩,
  ⟨0x8, 4, 1, .ro, 0xFFFFFFFFFFFF, 0x0, 0x0, 0x0, 0x0, false⟩,
  ⟨0x100, 16, 1, .ro, 0xFFFFFFFFFFFF, 0x0, 0x0, 0xFFFFFFFFFFFF, 0x0, false⟩,
  ⟨0x110, 1, 1, .ro, 0xFFFF, 0x0, 0x0, 0xFFFF, 0x0, false⟩,
  ⟨0x111, 1, 1, .ro, 0xFFFF, 0x0, 0x0, 0xFFFF, 0x0, false⟩]

/-- Block DEV, continued. -/
def rowsDEV1 : List RegRow := [
  ⟨0x112, 1, 1, .ro, 0x3, 0x0, 0x0, 0x3, 0x0, false⟩]

/-- Block DEV, continued. -/
def rowsDEV : List RegRow := rowsDEV0 ++ rowsDEV1

/-- Block RSTC of a Prism die: R87, R88, R89, R90, R91. -/
def rowsRSTC : List RegRow := [
  ⟨0x0, 1, 1, .sc, 0xFFFF0FFF01FF, 0xFF01FF, 0x0, 0x0, 0x1010001, true⟩,
  ⟨0x1, 1, 1, .ro, 0x7FFFFFFFF, 0x0, 0x0, 0x0, 0x1, true⟩,
  ⟨0x2, 1, 1, .ro, 0x1FF, 0x0, 0x30, 0x0, 0x0, true⟩,
  ⟨0x3, 1, 1, .ro, 0x3FF, 0x0, 0xF, 0x0, 0x0, false⟩,
  ⟨0x4, 1, 1, .ro, 0xFFFFFFFFFFFF, 0x0, 0x0, 0x0, 0xFFFFFFFFFFFF, true⟩,
  ⟨0x5, 1, 1, .ro, 0xFFFFFFFFFFFF, 0x0, 0x0, 0x0, 0xFFFFFFFFFFFF, true⟩]

/-- Block EYE of a Prism die: R181, R182, R183, R184, R185, R186, R187, R188. -/
def rowsEYE : List RegRow := [
  ⟨0x0, 1, 1, .rw, 0xFF03, 0xFF03, 0x0, 0x0, 0x1400, true⟩,
  ⟨0x1, 1, 1, .rw, 0x73FF0007, 0x73FF0007, 0x0, 0x0, 0x70000001, true⟩,
  ⟨0x2, 1, 1, .rw, 0xFFFFFFFFFFFF, 0xFFFFFFFFFFFF, 0x0, 0x0, 0x0, true⟩,
  ⟨0x3, 1, 1, .ro, 0xFFFFFFFF, 0x0, 0x0, 0x0, 0x0, true⟩,
  ⟨0x4, 1, 1, .ro, 0xFFFFFFFFFFFF, 0x0, 0x0, 0x0, 0x0, true⟩,
  ⟨0x5, 1, 1, .ro, 0xFFF, 0x0, 0xFFF, 0x0, 0x0, true⟩,
  ⟨0x6, 1, 1, .ro, 0xFFFFFFFFFFFF, 0x0, 0xFFFFFFFFFFFF, 0x0, 0x0, true⟩,
  ⟨0x7, 1, 1, .ro, 0xFFFFFFFFFFFF, 0x0, 0xFFFFFFFFFFFF, 0x0, 0x0, true⟩,
  ⟨0x8, 1, 1, .sc, 0xFF001F, 0xFF001F, 0x0, 0x0, 0x0, true⟩,
  ⟨0x9, 1, 1, .ro, 0xFFFFFFFF003F, 0x0, 0x0, 0x0, 0x0, true⟩,
  ⟨0x10, 4, 1, .rw, 0xFFFFFFFF, 0xFFFFFFFF, 0x0, 0x0, 0x0, true⟩]

/-- Block IMG of a Prism die: R132, R133, R134, R135, R136, R137, R138. -/
def rowsIMG : List RegRow := [
  ⟨0x0, 1, 1, .ro, 0x7FF001F, 0x0, 0xF, 0x0, 0x0, true⟩,
  ⟨0x1, 1, 1, .ro, 0x773FFFFFFF, 0x0, 0x0, 0x0, 0x0, true⟩,
  ⟨0x2, 1, 1, .ro, 0xFFFFFFFFFFFF, 0x0, 0x0, 0x0, 0x0, true⟩,
  ⟨0x3, 1, 1, .ro, 0xFFF3FFFFFFF, 0x0, 0x0, 0x0, 0x0, true⟩,
  ⟨0x4, 1, 1, .ro, 0xFFF3FFFFFFF, 0x0, 0x0, 0x0, 0x0, true⟩,
  ⟨0xA, 1, 1, .ro, 0xFFF3FFFFFFF, 0x0, 0x0, 0x0, 0x0, true⟩,
  ⟨0x5, 1, 1, .ro, 0xFFFFFFFFFFFF, 0x0, 0x0, 0x0, 0x0, true⟩,
  ⟨0x6, 1, 1, .ro, 0x1FFFF, 0x0, 0x0, 0x8000, 0x0, true⟩,
  ⟨0x7, 1, 1, .ro, 0xFFFFFFFF, 0x0, 0x0, 0x0, 0x0, true⟩,
  ⟨0x8, 1, 1, .rw, 0xFFFFF000F, 0xFFFF000F, 0x0, 0x0, 0x0, true⟩,
  ⟨0x9, 1, 1, .sc, 0xFF00FF, 0xFF00FF, 0x0, 0x0, 0x0, true⟩]

/-- Block FAB of a Prism die: R236, R237, R238, R239, R240, R241, R242, R243, R244, R245. -/
def rowsFAB0 : List RegRow := [
  ⟨0x0, 1, 1, .cf, 0x3FFF, 0x3FFF, 0x0, 0x0, 0x64, false⟩,
  ⟨0x1, 1, 1, .cf, 0x1FFFFFFFF, 0x1FFFFFFFF, 0x0, 0x0, 0x2001000, false⟩,
  ⟨0x2, 1, 1, .cf, 0x3FFFF, 0x3FFFF, 0x0, 0x0, 0x2598, false⟩,
  ⟨0x3, 1, 1, .ro, 0xFFFFFFFF, 0x0, 0xFFFF, 0x0, 0xFFFF0000, false⟩,
  ⟨0x4, 1, 1, .rw, 0x1, 0x1, 0x0, 0x0, 0x0, false⟩,
  ⟨0x5, 1, 1, .sc, 0xFF013F, 0xFF003F, 0x100, 0x0, 0x0, false⟩,
  ⟨0x6, 1, 1, .ro, 0x1FF, 0x0, 0x0, 0x0, 0x0, false⟩,
  ⟨0x7, 1, 1, .ro, 0xFFFFFFFFFFFF, 0x0, 0x0, 0x0, 0x0, false⟩,
  ⟨0x8, 1, 1, .ro, 0x1FFF, 0x0, 0x0, 0x0, 0x0, false⟩,
  ⟨0x10, 8, 1, .ro, 0xFFFFFFFFFFFF, 0x0, 0x0, 0x0, 0x0, false⟩,
  ⟨0x18, 1, 1, .rw, 0xFFFF, 0x3FFF, 0x0, 0x0, 0x0, false⟩,
  ⟨0x19, 1, 1, .rw, 0xFFFFFFFFFFFF, 0xFFFFFFFFFFFF, 0x0, 0x0, 0x0, false⟩]

/-- Block FAB, continued. -/
def rowsFAB1 : List RegRow := [
  ⟨0x1A, 1, 1, .rw, 0x7FFFFFFFFF, 0x7FFFFFFFFF, 0x0, 0x0, 0x0, false⟩,
  ⟨0x100, 64, 1, .ro, 0xFFFFFFFFFFFF, 0x0, 0x0, 0x0, 0x0, false⟩,
  ⟨0x200, 64, 1, .ro, 0x3FFFFFFF, 0x0, 0xFFFF, 0x0, 0x0, false⟩]

/-- Block FAB, continued. -/
def rowsFAB : List RegRow := rowsFAB0 ++ rowsFAB1

/-- Block QMGR of a Prism die: R280, R281, R282, R283, R284, R285, R286, R287, R288. -/
def rowsQMGR0 : List RegRow := [
  ⟨0x0, 1, 1, .ro, 0xFFFFFFFFF, 0x0, 0xFFFFFFFFF, 0x0, 0x0, false⟩,
  ⟨0x1, 1, 1, .ro, 0xFFFFFFFFF, 0x0, 0xFFFFFFFFF, 0x0, 0x0, false⟩,
  ⟨0x2, 1, 1, .cf, 0x3FFFF, 0x3FFFF, 0x0, 0x0, 0x2000, false⟩,
  ⟨0x3, 1, 1, .sc, 0xFF011F, 0xFF001F, 0x100, 0x0, 0x0, false⟩,
  ⟨0x4, 1, 1, .ro, 0xFFFF, 0x0, 0x0, 0x0, 0x0, false⟩,
  ⟨0x5, 1, 1, .rw, 0x7FFFFFFFFFF, 0x1FFFF, 0x0, 0x0, 0x0, false⟩,
  ⟨0x6, 1, 1, .rw, 0x3FFFF, 0xFFFF, 0x0, 0x0, 0x0, false⟩,
  ⟨0x7, 1, 1, .rw, 0x3FFFFFFFFFF, 0x3F, 0x0, 0x0, 0x0, false⟩,
  ⟨0x8, 1, 1, .ro, 0x3FFFFFFF, 0x0, 0x0, 0x0, 0x0, false⟩,
  ⟨0x9, 1, 1, .ro, 0x7FFFFF, 0x0, 0x0, 0x0, 0x0, false⟩,
  ⟨0x10, 6, 1, .ro, 0xFFFFFFFFFFFF, 0x0, 0x0, 0x0, 0x0, false⟩,
  ⟨0x40, 64, 2, .cf, 0xFFFFFFFFFF, 0xFFFFFFFFFF, 0x0, 0x0, 0x604000000, false⟩]

/-- Block QMGR, continued. -/
def rowsQMGR1 : List RegRow := [
  ⟨0x41, 64, 2, .cf, 0x1FFFFFFFF, 0x1FFFFFFFF, 0x0, 0x0, 0x8004020, false⟩,
  ⟨0x100, 64, 1, .ro, 0xFFFFFFFFFFFF, 0x0, 0x0, 0x0, 0x0, false⟩,
  ⟨0x400, 64, 4, .cf, 0x1FFFFF, 0x1FFFFF, 0x0, 0x0, 0x0, false⟩,
  ⟨0x401, 64, 4, .ro, 0xFFFFFFFFFFFF, 0x0, 0x0, 0x0, 0x0, false⟩,
  ⟨0x402, 64, 4, .sc, 0xFFFFFFFF0301, 0xFF0001, 0xFFFFFF000300, 0x0, 0x0, false⟩,
  ⟨0x403, 64, 4, .rw, 0x1, 0x1, 0x0, 0x0, 0x0, false⟩]

/-- Block QMGR, continued. -/
def rowsQMGR : List RegRow := rowsQMGR0 ++ rowsQMGR1

/-- Block SPILL of a Prism die: R289, R290, R291. -/
def rowsSPILL : List RegRow := [
  ⟨0x0, 1, 1, .cf, 0xFFFFFF, 0xFFFFFF, 0x0, 0x0, 0x0, false⟩,
  ⟨0x1, 1, 1, .ro, 0x3FFFFFFFFF, 0x0, 0x3FFFFFFFFF, 0x0, 0x0, false⟩,
  ⟨0x2, 1, 1, .ro, 0xFFFFFF, 0x0, 0xFFFFFF, 0x0, 0x0, false⟩,
  ⟨0x3, 1, 1, .sc, 0xFF0107, 0xFF0007, 0x100, 0x0, 0x0, false⟩,
  ⟨0x10, 4, 1, .ro, 0xFFFFFFFFFFFF, 0x0, 0x0, 0x0, 0x0, false⟩]

/-- Block CLS of a Prism die: R333, R334, R335, R336, R337. -/
def rowsCLS : List RegRow := [
  ⟨0x0, 1, 1, .cf, 0x1FFFFFFFFF, 0x1FFFFFFFFF, 0x0, 0x0, 0x12C0000, false⟩,
  ⟨0x1, 1, 1, .cf, 0x3FFF3FFF, 0x3FFF3FFF, 0x0, 0x0, 0x3CDF3CFF, false⟩,
  ⟨0x2, 1, 1, .cf, 0xFFFFFFFFFFFF, 0xFFFFFFFFFFFF, 0x0, 0x0, 0x0, false⟩,
  ⟨0x3, 1, 1, .sc, 0xFF001F, 0xFF001F, 0x0, 0x0, 0x0, false⟩,
  ⟨0x4, 1, 1, .ro, 0x3FFFFFFFFF, 0x0, 0x3FFFFFFFFF, 0x0, 0x0, false⟩,
  ⟨0x5, 1, 1, .ro, 0x3FF, 0x0, 0x0, 0x0, 0x0, false⟩,
  ⟨0x10, 11, 1, .ro, 0xFFFFFFFFFFFF, 0x0, 0x0, 0x0, 0x0, false⟩,
  ⟨0x100, 32, 1, .cf, 0x3FFFFFFFFF, 0x3FFFFFFFFF, 0x0, 0x0, 0x240A060001, false⟩,
  ⟨0x13C, 1, 1, .cf, 0x3FFFFFFFFF, 0x3FFFFFFFFF, 0x0, 0x0, 0x240A060001, false⟩,
  ⟨0x200, 32, 1, .cf, 0xFFFFFF, 0xFFFFFF, 0x0, 0x0, 0xFAC688, false⟩,
  ⟨0x23C, 1, 1, .cf, 0xFFFFFF, 0xFFFFFF, 0x0, 0x0, 0xFAC688, false⟩,
  ⟨0x320, 24, 1, .cf, 0xFFFF, 0xFFFF, 0x0, 0x0, 0x0, false⟩]

/-- Block LPM of a Prism die: R338. -/
def rowsLPM : List RegRow := [
  ⟨0x0, 1, 1, .cf, 0x7, 0x7, 0x0, 0x0, 0x4, false⟩,
  ⟨0x1, 1, 1, .rw, 0xFFFFFFFFFF, 0x7FFFFF, 0x0, 0x0, 0x0, false⟩,
  ⟨0x2, 1, 1, .rw, 0xFFFFFFFFFFFF, 0xFFFFFFFFFFFF, 0x0, 0x0, 0x0, false⟩,
  ⟨0x3, 1, 1, .rw, 0xFFFFFFFFFFFF, 0xFFFFFFFFFFFF, 0x0, 0x0, 0x0, false⟩,
  ⟨0x4, 1, 1, .rw, 0xFFFFFFFF, 0xFFFFFFFF, 0x0, 0x0, 0x0, false⟩,
  ⟨0x5, 1, 1, .ro, 0x7FFFFFFFFFF, 0x0, 0x7FFFFFFFFFF, 0x0, 0x0, false⟩,
  ⟨0x6, 1, 1, .sc, 0xFF000F, 0xFF000F, 0x0, 0x0, 0x0, false⟩,
  ⟨0x10, 6, 1, .ro, 0xFFFFFFFFFFFF, 0x0, 0x0, 0x0, 0x0, false⟩]

/-- Block PSFP of a Prism die: R339, R340, R341. -/
def rowsPSFP : List RegRow := [
  ⟨0x0, 1, 1, .sc, 0xFF003F, 0xFF003F, 0x0, 0x0, 0x0, false⟩,
  ⟨0x1, 1, 1, .ro, 0xFFFFFFFF, 0x0, 0x0, 0x0, 0x0, false⟩,
  ⟨0x2, 1, 1, .ro, 0x3FFF, 0x0, 0x0, 0x0, 0x0, false⟩,
  ⟨0x10, 3, 1, .ro, 0xFFFFFFFFFFFF, 0x0, 0x0, 0x0, 0x0, false⟩,
  ⟨0x1000, 256, 1, .rw, 0xFFFFFFFFFFFF, 0xFFFFFFFFFFFF, 0x0, 0x0, 0x0, false⟩,
  ⟨0x1100, 32, 4, .rw, 0x7FF, 0x7FF, 0x0, 0x0, 0x0, false⟩,
  ⟨0x1101, 32, 4, .rw, 0xFFFFFFFFFFFF, 0xFFFFFFFFFFFF, 0x0, 0x0, 0x0, false⟩,
  ⟨0x1102, 32, 4, .rw, 0xFFFFFFFFFFFF, 0xFFFFFFFFFFFF, 0x0, 0x0, 0x0, false⟩,
  ⟨0x1103, 32, 4, .ro, 0x7FFFFFF, 0x0, 0x7F80000, 0x0, 0x0, false⟩]

/-- Block TDMA of a Prism die: R342, R343. -/
def rowsTDMA : List RegRow := [
  ⟨0x0, 1, 1, .rw, 0x3FFF, 0x3FFF, 0x0, 0x0, 0x64, false⟩,
  ⟨0x1, 8, 1, .rw, 0xFFFFFFFF, 0xFFFFFFFF, 0x0, 0x0, 0x0, false⟩,
  ⟨0x10, 1, 1, .sc, 0xFF0007, 0xFF0007, 0x0, 0x0, 0x0, false⟩,
  ⟨0x20, 4, 4, .rw, 0xFFFFFFFFFFFF, 0xFFFFFFFFFFFF, 0x0, 0x0, 0x0, false⟩,
  ⟨0x21, 4, 4, .rw, 0xFFFFFFFFFF, 0xFFFFFFFFFF, 0x0, 0x0, 0x0, false⟩,
  ⟨0x22, 4, 4, .ro, 0x7FFFFFFFFF, 0x0, 0x0, 0x0, 0x0, false⟩,
  ⟨0x100, 64, 1, .rw, 0xFFFFFFFFFFFF, 0xFFFFFFFFFFFF, 0x0, 0x0, 0x0, false⟩]

/-- Block ETH of a Prism die: R377, R378, R379, R380, R381, R382, R383. -/
def rowsETH0 : List RegRow := [
  ⟨0x0, 1, 1, .cf, 0x3FFFFFFFFFF, 0x3FFFFFFFFFC, 0x3, 0x0, 0x50105F2000, false⟩,
  ⟨0x1, 1, 1, .cf, 0x3FFFFFFFFFF, 0x3FFFFFFFFFF, 0x0, 0x0, 0x1F4FFFF008, false⟩,
  ⟨0x2, 1, 1, .cf, 0xFFFFFFFFFFF, 0x1FFFFFFFF, 0xFFE00000000, 0x0, 0x0, false⟩,
  ⟨0x3, 1, 1, .ro, 0x7FFFFFFFF7F, 0x0, 0x7FFFFFFFF7F, 0x0, 0x0, false⟩,
  ⟨0x4, 1, 1, .sc, 0xFF003F, 0xFF003F, 0x0, 0x0, 0x0, false⟩,
  ⟨0x5, 4, 1, .cf, 0xFFFFFFFFFFFF, 0xFFFFFFFFFFFF, 0x0, 0x0, 0x0, false⟩,
  ⟨0x9, 1, 1, .cf, 0x1FFFFFFFF, 0x1FFFFFFFF, 0x0, 0x0, 0x0, false⟩,
  ⟨0xA, 1, 1, .ro, 0xFFFFFFFFFFFF, 0x0, 0x0, 0x0, 0x0, false⟩,
  ⟨0xB, 1, 1, .ro, 0x3FFFFFFFF, 0x0, 0x0, 0x0, 0x0, false⟩,
  ⟨0xC, 1, 1, .cf, 0x1FFFFFFFFFF, 0x1FFFFFFFFFF, 0x0, 0x0, 0x10000401000, false⟩,
  ⟨0xD, 1, 1, .ro, 0xFFFFFF, 0x0, 0x0, 0x0, 0x0, false⟩,
  ⟨0xE, 1, 1, .rw, 0x3, 0x3, 0x0, 0x0, 0x0, false⟩]

/-- Block ETH, continued. -/
def rowsETH1 : List RegRow := [
  ⟨0xF, 1, 1, .rw, 0x7FFFFFFF, 0x1FFFFFFF, 0x0, 0x0, 0x0, false⟩,
  ⟨0x100, 53, 1, .ro, 0xFFFFFFFFFFFF, 0x0, 0x0, 0x0, 0x0, false⟩,
  ⟨0x200, 53, 1, .ro, 0xFFFFFFFFFFFF, 0x0, 0x0, 0x0, 0x0, false⟩]

/-- Block ETH, continued. -/
def rowsETH : List RegRow := rowsETH0 ++ rowsETH1

/-- Block CAN of a Prism die: R428, R429, R430, R431, R432, R433, R434. -/
def rowsCAN0 : List RegRow := [
  ⟨0x0, 1, 1, .cf, 0x7FF, 0x7FF, 0x0, 0x0, 0x100, false⟩,
  ⟨0x1, 1, 1, .cf, 0x3FFFFFFFF, 0x3FFFFFFFF, 0x0, 0x0, 0x50509E04, false⟩,
  ⟨0x2, 1, 1, .cf, 0x1FFFFFF, 0x1FFFFFF, 0x0, 0x0, 0x5149C4, false⟩,
  ⟨0x3, 1, 1, .cf, 0x7FFFFFFFFFF, 0x7FFFFFFFFFF, 0x0, 0x0, 0x3861041C1, false⟩,
  ⟨0x4, 1, 1, .cf, 0x1FFFFFFFF, 0x1FFFFFFFF, 0x0, 0x0, 0x100014A1, false⟩,
  ⟨0x5, 1, 1, .cf, 0xFFFFFF, 0xFFFFFF, 0x0, 0x0, 0x0, false⟩,
  ⟨0x6, 1, 1, .ro, 0xFFFFFFFFF, 0x0, 0xFFFFFFFFF, 0x0, 0x0, false⟩,
  ⟨0x7, 1, 1, .rw, 0x3, 0x3, 0x0, 0x0, 0x0, false⟩,
  ⟨0x8, 1, 1, .ro, 0x3F, 0x0, 0x0, 0x0, 0x0, false⟩,
  ⟨0x9, 1, 1, .ro, 0xFFFFFFFFFFFF, 0x0, 0x0, 0x0, 0x0, false⟩,
  ⟨0xA, 1, 1, .sc, 0xFF03FF, 0xFF03FF, 0x0, 0x0, 0x0, false⟩,
  ⟨0xB, 1, 1, .rw, 0x3FFF, 0xFFF, 0x0, 0x0, 0x0, false⟩]

/-- Block CAN, continued. -/
def rowsCAN1 : List RegRow := [
  ⟨0xC, 1, 1, .rw, 0xFFFFFFFFFFFF, 0xFFFFFFFFFFFF, 0x0, 0x0, 0x0, false⟩,
  ⟨0xD, 1, 1, .rw, 0xFFFFFFFFFFFF, 0xFFFFFFFFFFFF, 0x0, 0x0, 0x0, false⟩,
  ⟨0xE, 1, 1, .rw, 0x1FFFF, 0x1FFFF, 0x0, 0x0, 0x0, false⟩,
  ⟨0xF, 1, 1, .rw, 0xFFF, 0x3FF, 0x0, 0x0, 0x0, false⟩,
  ⟨0x10, 1, 1, .rw, 0xFFFFFFFFFFFF, 0xFFFFFFFFFFFF, 0x0, 0x0, 0x0, false⟩,
  ⟨0x11, 1, 1, .rw, 0x1FFFFFFFF, 0xFFFF, 0x0, 0x0, 0x0, false⟩,
  ⟨0x100, 24, 1, .ro, 0xFFFFFFFFFFFF, 0x0, 0x0, 0x0, 0x0, false⟩]

/-- Block CAN, continued. -/
def rowsCAN : List RegRow := rowsCAN0 ++ rowsCAN1

/-- Block LIN of a Prism die: R435, R436, R437. -/
def rowsLIN : List RegRow := [
  ⟨0x0, 1, 1, .cf, 0x3FFFFFF, 0x3FFFFFF, 0x0, 0x0, 0x1A1458, false⟩,
  ⟨0x1, 1, 1, .ro, 0xFFFFF, 0x0, 0xFFFFF, 0x0, 0x0, false⟩,
  ⟨0x2, 1, 1, .sc, 0xFF003F, 0xFF003F, 0x0, 0x0, 0x0, false⟩,
  ⟨0x3, 1, 1, .rw, 0x3F, 0x3F, 0x0, 0x0, 0x0, false⟩,
  ⟨0x4, 1, 1, .ro, 0x1FF, 0x0, 0x0, 0x0, 0x0, false⟩,
  ⟨0x10, 8, 1, .cf, 0x1FFFFF, 0x1FFFFF, 0x0, 0x0, 0x0, false⟩,
  ⟨0x18, 1, 1, .rw, 0xFFFF, 0x3FFF, 0x0, 0x0, 0x0, false⟩,
  ⟨0x19, 1, 1, .rw, 0xFFFFFFFFFFFF, 0xFFFFFFFFFFFF, 0x0, 0x0, 0x0, false⟩,
  ⟨0x1A, 1, 1, .rw, 0x3FF, 0xFF, 0x0, 0x0, 0x0, false⟩,
  ⟨0x1B, 1, 1, .rw, 0xFFFFFFFFFFFF, 0xFFFFFFFFFFFF, 0x0, 0x0, 0x0, false⟩,
  ⟨0x1C, 1, 1, .rw, 0xFFFF00000001, 0xFFFF00000000, 0x0, 0x0, 0x0, false⟩,
  ⟨0x100, 14, 1, .ro, 0xFFFFFFFFFFFF, 0x0, 0x0, 0x0, 0x0, false⟩]

/-- Block D2D of a Prism die: R246, R247, R248, R249. -/
def rowsD2D : List RegRow := [
  ⟨0x0, 1, 1, .cf, 0xFFFFFFFF, 0xFFFFFFFF, 0x0, 0x0, 0xC0C0C0C0, false⟩,
  ⟨0x1, 1, 1, .cf, 0xFFFFFFFF, 0xFFFFFFFF, 0x0, 0x0, 0xC0C0C0C0, false⟩,
  ⟨0x2, 1, 1, .ro, 0xFFFF07, 0x0, 0xFFFF07, 0x0, 0x0, false⟩,
  ⟨0x3, 1, 1, .sc, 0xFF001F, 0xFF001F, 0x0, 0x0, 0x0, false⟩,
  ⟨0x4, 1, 1, .ro, 0xFFFFFFFFFFFF, 0x0, 0x0, 0x0, 0x0, false⟩,
  ⟨0x5, 1, 1, .ro, 0xFFFFFFFFFFFF, 0x0, 0x0, 0x0, 0x0, false⟩,
  ⟨0x6, 1, 1, .ro, 0xFFFFFFFFFFFF, 0x0, 0x0, 0x0, 0x0, false⟩,
  ⟨0x7, 1, 1, .ro, 0xFFFFFFFF, 0x0, 0x0, 0x0, 0x0, false⟩]

/-- Block SGW of a Prism die: R473, R474, R475, R476, R477, R478, R479. -/
def rowsSGW0 : List RegRow := [
  ⟨0x0, 1, 1, .cf, 0x1FFFFFFFFF, 0x1FFFFFFFFF, 0x0, 0x0, 0x110E000000, false⟩,
  ⟨0x1, 1, 1, .cf, 0x3FFF3FFF, 0x3FFF3FFF, 0x0, 0x0, 0x3C9F3CBF, false⟩,
  ⟨0x2, 1, 1, .sc, 0xFF007F, 0xFF007F, 0x0, 0x0, 0x0, false⟩,
  ⟨0x3, 1, 1, .ro, 0x1FFFFFFFF, 0x0, 0x1FFFFFFFF, 0x0, 0x0, false⟩,
  ⟨0x4, 1, 1, .ro, 0xFFFFFFFFFF, 0x0, 0x0, 0x0, 0x0, false⟩,
  ⟨0x8, 1, 1, .rw, 0x3FFFFF, 0x7FFFF, 0x0, 0x0, 0x0, false⟩,
  ⟨0x9, 5, 1, .rw, 0xFFFFFFFFFFFF, 0xFFFFFFFFFFFF, 0x0, 0x0, 0x0, false⟩,
  ⟨0x10, 1, 1, .rw, 0x3FFFFFFF, 0xFFFFFFF, 0x0, 0x0, 0x0, false⟩,
  ⟨0x11, 4, 1, .rw, 0xFFFFFFFFFFFF, 0xFFFFFFFFFFFF, 0x0, 0x0, 0x0, false⟩,
  ⟨0x18, 1, 1, .rw, 0x3FFFFF, 0xFFFFF, 0x0, 0x0, 0x0, false⟩,
  ⟨0x19, 1, 1, .rw, 0xFFFFFFFFFFFF, 0xFFFFFFFFFFFF, 0x0, 0x0, 0x0, false⟩,
  ⟨0x1A, 1, 1, .ro, 0xFFFFFFFFFFFF, 0x0, 0x0, 0x0, 0x0, false⟩]

/-- Block SGW, continued. -/
def rowsSGW1 : List RegRow := [
  ⟨0x20, 16, 1, .rw, 0xFF, 0xFF, 0x0, 0x0, 0xFE, false⟩,
  ⟨0x100, 21, 1, .ro, 0xFFFFFFFFFFFF, 0x0, 0x0, 0x0, 0x0, false⟩]

/-- Block SGW, continued. -/
def rowsSGW : List RegRow := rowsSGW0 ++ rowsSGW1

/-- Block WBR of a Prism die: R491, R492, R493, R494. -/
def rowsWBR : List RegRow := [
  ⟨0x0, 1, 1, .cf, 0x3FFFF, 0x3FFFF, 0x0, 0x0, 0x323E8, false⟩,
  ⟨0x1, 1, 1, .cf, 0x7, 0x7, 0x0, 0x0, 0x0, false⟩,
  ⟨0x2, 1, 1, .sc, 0xFF0007, 0xFF0007, 0x0, 0x0, 0x0, false⟩,
  ⟨0x3, 1, 1, .ro, 0x3FFFFFFFFFF, 0x0, 0x0, 0x0, 0x0, false⟩,
  ⟨0x4, 1, 1, .ro, 0x1FFFFFFFFFF, 0x0, 0x0, 0x0, 0x0, false⟩,
  ⟨0x5, 1, 1, .ro, 0x7FFFFFFF, 0x0, 0x7FFFFFFF, 0x0, 0x0, false⟩,
  ⟨0x10, 6, 1, .ro, 0xFFFFFFFFFFFF, 0x0, 0x0, 0x0, 0x0, false⟩,
  ⟨0x100, 256, 2, .cf, 0xFFFFFFFFFFF, 0xFFFFFFFFFFF, 0x0, 0x0, 0x0, false⟩,
  ⟨0x101, 256, 2, .cf, 0xFFFFFFFFF, 0xFFFFFFFFF, 0x0, 0x0, 0x1F400000, false⟩]

/-- Block KEYS of a Prism die: R539, R540, R541, R542, R543. -/
def rowsKEYS : List RegRow := [
  ⟨0x0, 1, 1, .cf, 0x3FFF, 0x3FFF, 0x0, 0x0, 0x3E8, false⟩,
  ⟨0x1, 1, 1, .ro, 0x7FFFFFF, 0x0, 0x7FFFFFB, 0x4, 0x0, false⟩,
  ⟨0x2, 1, 1, .sc, 0xFF007F, 0xFF007F, 0x0, 0x0, 0x0, false⟩,
  ⟨0x3, 1, 1, .ro, 0x7FFFF, 0x0, 0x0, 0x0, 0x0, false⟩,
  ⟨0x4, 1, 1, .wo1, 0xFF, 0xF, 0xF0, 0x0, 0x0, false⟩,
  ⟨0x5, 1, 1, .rw, 0x3FFFFFFFFFF, 0x7FFFFFFF, 0x0, 0x0, 0x0, false⟩,
  ⟨0x6, 11, 1, .rw, 0xFFFFFFFFFFFF, 0xFFFFFFFFFFFF, 0x0, 0x0, 0x0, false⟩,
  ⟨0x18, 1, 1, .rw, 0x7FFFFF, 0x7FFFF, 0x0, 0x0, 0x0, false⟩,
  ⟨0x19, 7, 1, .rw, 0xFFFFFFFFFFFF, 0xFFFFFFFFFFFF, 0x0, 0x0, 0x0, false⟩,
  ⟨0x100, 8, 1, .ro, 0xFFFFFFFFFFFF, 0x0, 0x0, 0x0, 0x0, false⟩,
  ⟨0x1000, 1024, 1, .cf, 0xFFFF0003FFFF, 0xFFFF0003FFFF, 0x0, 0x0, 0x0, false⟩,
  ⟨0x1400, 1024, 1, .ro, 0x1FFFFFFF, 0x0, 0x0, 0x0, 0x0, false⟩]

/-- Block CIPH of a Prism die: R544, R545. -/
def rowsCIPH : List RegRow := [
  ⟨0x0, 1, 1, .sc, 0xFF0007, 0xFF0007, 0x0, 0x0, 0x0, false⟩,
  ⟨0x1, 1, 1, .ro, 0x7F, 0x0, 0x0, 0x0, 0x0, false⟩,
  ⟨0x10, 4, 2, .rw, 0x1FFFFFFFFFF, 0x1FFFFFFFFFF, 0x0, 0x0, 0x0, false⟩,
  ⟨0x11, 4, 2, .ro, 0xFF, 0x0, 0x0, 0x0, 0x0, false⟩,
  ⟨0x40, 32, 1, .cf, 0x7FFFFFF, 0x7FFFFFF, 0x0, 0x0, 0x0, false⟩,
  ⟨0x100, 7, 1, .ro, 0xFFFFFFFFFFFF, 0x0, 0x0, 0x0, 0x0, false⟩]

/-- Block MSEC of a Prism die: R546, R547. -/
def rowsMSEC : List RegRow := [
  ⟨0x0, 12, 1, .cf, 0xFFFFFFFFFFFF, 0xFFFFFFFFFFFF, 0x0, 0x0, 0x398, false⟩,
  ⟨0x10, 12, 1, .rw, 0x3, 0x3, 0x0, 0x0, 0x0, false⟩,
  ⟨0x20, 1, 1, .rw, 0x3FFF, 0xFFF, 0x0, 0x0, 0x0, false⟩,
  ⟨0x21, 1, 1, .rw, 0xFFFFFFFFFFFF, 0xFFFFFFFFFFFF, 0x0, 0x0, 0x0, false⟩,
  ⟨0x22, 1, 1, .rw, 0xFFFFFFFFFFFF, 0xFFFFFFFFFFFF, 0x0, 0x0, 0x0, false⟩,
  ⟨0x23, 1, 1, .rw, 0xFFFFFFFFFFFF, 0xFFFFFFFFFFFF, 0x0, 0x0, 0x0, false⟩,
  ⟨0x24, 1, 1, .rw, 0xFFFFFFFFFFFF, 0xFFFFFFFFFFFF, 0x0, 0x0, 0x0, false⟩,
  ⟨0x25, 1, 1, .rw, 0xFFFFFFFFFFFF, 0xFFFFFFFFFFFF, 0x0, 0x0, 0x0, false⟩,
  ⟨0x30, 1, 1, .sc, 0xFF0007, 0xFF0007, 0x0, 0x0, 0x0, false⟩,
  ⟨0x31, 1, 1, .ro, 0x3FF, 0x0, 0x0, 0x0, 0x0, false⟩,
  ⟨0x32, 1, 1, .cf, 0xFFFFFFFF, 0xFFFFFFFF, 0x0, 0x0, 0xC0000000, false⟩,
  ⟨0x100, 192, 1, .ro, 0xFFFFFFFFFFFF, 0x0, 0x0, 0x0, 0x0, false⟩]

/-- Block SEAL of a Prism die: R548, R549. -/
def rowsSEAL : List RegRow := [
  ⟨0x0, 1, 1, .rw, 0xFFFF, 0x3FFF, 0x0, 0x0, 0x0, false⟩,
  ⟨0x1, 1, 1, .rw, 0xFFFFFFF, 0xFFFFFFF, 0x0, 0x0, 0x0, false⟩,
  ⟨0x2, 1, 1, .rw, 0xFFFFFFFFFFFF, 0xFFFFFFFFFFFF, 0x0, 0x0, 0x0, false⟩,
  ⟨0x3, 1, 1, .rw, 0xFFFFFFFFFFFF, 0xFFFFFFFFFFFF, 0x0, 0x0, 0x0, false⟩,
  ⟨0x4, 1, 1, .rw, 0x1FFFF, 0x3FFF, 0x0, 0x0, 0x0, false⟩,
  ⟨0x5, 1, 1, .ro, 0xFFFFFFFFFFFF, 0x0, 0x0, 0x0, 0x0, false⟩,
  ⟨0x6, 1, 1, .sc, 0xFF000F, 0xFF000F, 0x0, 0x0, 0x0, false⟩,
  ⟨0x7, 1, 1, .ro, 0xFFF, 0x0, 0x0, 0x0, 0x0, false⟩,
  ⟨0x100, 7, 1, .ro, 0xFFFFFFFFFFFF, 0x0, 0x0, 0x0, 0x0, false⟩]

/-- Block PAIR of a Prism die: R574, R575, R576, R577, R578, R579. -/
def rowsPAIR : List RegRow := [
  ⟨0x0, 1, 1, .cf, 0xFFFF3FFF0007, 0xFFFF3FFF0007, 0x0, 0x0, 0x0, true⟩,
  ⟨0x1, 1, 1, .cf, 0xFFFFFFFFFFF, 0xFFFFFFFFFFF, 0x0, 0x0, 0x28000000000, true⟩,
  ⟨0x2, 1, 1, .cf, 0x7FFFFFFFF, 0x7FFFFFFFF, 0x0, 0x0, 0x19064190A, true⟩,
  ⟨0x3, 4, 1, .cf, 0xFFFFFFF, 0xFFFFFFF, 0x0, 0x0, 0x0, true⟩,
  ⟨0x8, 1, 1, .ro, 0xFFFF, 0x0, 0xFFFF, 0x0, 0x0, true⟩,
  ⟨0x9, 1, 1, .rw, 0xF, 0x1, 0x0, 0x0, 0x0, true⟩,
  ⟨0xA, 1, 1, .sc, 0xFF07FF, 0xFF07FF, 0x0, 0x0, 0x0, false⟩,
  ⟨0xB, 1, 1, .ro, 0xFFFFFFFFFFFF, 0x0, 0x0, 0x0, 0x0, true⟩,
  ⟨0xC, 1, 1, .ro, 0x7FF, 0x0, 0x0, 0x0, 0x0, false⟩,
  ⟨0x10, 1, 1, .rw, 0x3FFFFF, 0xFFFFF, 0x0, 0x0, 0x0, false⟩,
  ⟨0x11, 4, 1, .rw, 0xFFFFFFFFFFFF, 0xFFFFFFFFFFFF, 0x0, 0x0, 0x0, false⟩,
  ⟨0x100, 14, 1, .ro, 0xFFFFFFFFFFFF, 0x0, 0x0, 0x0, 0x0, false⟩]

/-- Block WAKE of a Prism die: R601, R602, R603, R604, R605. -/
def rowsWAKE0 : List RegRow := [
  ⟨0x0, 1, 1, .cf, 0x7FFFFFFFFF, 0x7FFFFFFFFF, 0x0, 0x0, 0x7D01F40C8, true⟩,
  ⟨0x1, 1, 1, .cf, 0xFFFFFFFFFFFF, 0xFFFFFFFFFFFF, 0x0, 0x0, 0x29F4190C87D0, true⟩,
  ⟨0x2, 1, 1, .cf, 0x3FFFFFFFFFF, 0x3FFFFFFFFFF, 0x0, 0x0, 0x6451432A28, true⟩,
  ⟨0x3, 1, 1, .ro, 0xFFFFFFFFFFF, 0x0, 0xFFFFFFFFFFF, 0x0, 0x0, true⟩,
  ⟨0x4, 1, 1, .sc, 0xFF01FF, 0xFF01FF, 0x0, 0x0, 0x0, true⟩,
  ⟨0x5, 1, 1, .ro, 0x3FFFFFFFF, 0x0, 0x0, 0x0, 0x0, true⟩,
  ⟨0x6, 1, 1, .rw, 0x1, 0x1, 0x0, 0x0, 0x0, true⟩,
  ⟨0x7, 1, 1, .ro, 0x1FFFFFF, 0x0, 0x1FFFFFF, 0x0, 0x0, true⟩,
  ⟨0x10, 16, 1, .cf, 0xF, 0xF, 0x0, 0x0, 0x0, true⟩,
  ⟨0x20, 16, 1, .rw, 0x1FFFF, 0x1FFFF, 0x0, 0x0, 0x0, false⟩,
  ⟨0x30, 1, 1, .rw, 0x1FFFF, 0x1FFFF, 0x0, 0x0, 0x0, true⟩,
  ⟨0x40, 16, 2, .cf, 0x3FFFFFFF, 0x3FFFFFFF, 0x0, 0x0, 0x0, true⟩]

/-- Block WAKE, continued. -/
def rowsWAKE1 : List RegRow := [
  ⟨0x41, 16, 2, .cf, 0x1FFFFFFF, 0x1FFFFFFF, 0x0, 0x0, 0x0, true⟩,
  ⟨0x60, 16, 1, .ro, 0x3FFFFFF, 0x0, 0x3FFFF, 0x0, 0x0, true⟩,
  ⟨0x200, 64, 2, .cf, 0xFFFFFFFF, 0xFFFFFFFF, 0x0, 0x0, 0x0, true⟩,
  ⟨0x201, 64, 2, .cf, 0xFFFFFF, 0xFFFFFF, 0x0, 0x0, 0x0, true⟩,
  ⟨0x100, 12, 1, .ro, 0xFFFFFFFFFFFF, 0x0, 0x0, 0x0, 0x0, true⟩]

/-- Block WAKE, continued. -/
def rowsWAKE : List RegRow := rowsWAKE0 ++ rowsWAKE1

/-- Block PLX of a Prism die: R711, R712, R713, R714. -/
def rowsPLX0 : List RegRow := [
  ⟨0x0, 1, 1, .cf, 0x3FFFFFF07FF, 0x3FFFFFF07FF, 0x0, 0x0, 0x4E2, true⟩,
  ⟨0x1, 1, 1, .cf, 0xFFFFF, 0xFFFFF, 0x0, 0x0, 0x303E8, true⟩,
  ⟨0x2, 1, 1, .cf, 0xFFFFFFFFFFFF, 0xFFFFFFFFFFFF, 0x0, 0x0, 0x0, true⟩,
  ⟨0x3, 1, 1, .cf, 0x3FFFFFFF, 0x3FFFFFFF, 0x0, 0x0, 0x0, true⟩,
  ⟨0x4, 4, 1, .cf, 0xFFFFFFFF, 0xFFFFFFFF, 0x0, 0x0, 0x0, true⟩,
  ⟨0x8, 1, 1, .ro, 0x3FFFFF, 0x0, 0x3FFFFE, 0x0, 0x1, true⟩,
  ⟨0x9, 1, 1, .sc, 0xFF00FF, 0xFF00FF, 0x0, 0x0, 0x0, true⟩,
  ⟨0xA, 1, 1, .ro, 0x3FFFFFF, 0x0, 0x0, 0x0, 0x0, true⟩,
  ⟨0xB, 1, 1, .rw, 0x1FFFFFFFFFFF, 0x1FFFFFFFFFFF, 0x0, 0x0, 0x0, true⟩,
  ⟨0xC, 1, 1, .rw, 0xFFFFFFFFFFFF, 0xFFFFFFFFFFFF, 0x0, 0x0, 0x0, true⟩,
  ⟨0xD, 1, 1, .rw, 0x3FFFF, 0xFFFF, 0x0, 0x0, 0x0, true⟩,
  ⟨0xE, 1, 1, .ro, 0xFFFFFFFFFFFF, 0x0, 0x0, 0x0, 0x0, true⟩]

/-- Block PLX, continued. -/
def rowsPLX1 : List RegRow := [
  ⟨0xF, 1, 1, .ro, 0xFFFFFFFFFFFF, 0x0, 0x0, 0x0, 0x0, true⟩,
  ⟨0x10, 1, 1, .ro, 0xFFFFFFFF, 0x0, 0x0, 0x0, 0x0, true⟩,
  ⟨0x11, 1, 1, .ro, 0xFFFFFFFF, 0x0, 0x0, 0x0, 0x0, true⟩,
  ⟨0x12, 1, 1, .ro, 0xFFFFFFFF, 0x0, 0x0, 0x0, 0x0, true⟩,
  ⟨0x20, 16, 2, .ro, 0xFFFFFFFFFFFF, 0x0, 0xFFFFFFFFFFFF, 0x0, 0x0, true⟩,
  ⟨0x21, 16, 2, .ro, 0x3FFFFFFFF, 0x0, 0x3FFFFFFFF, 0x0, 0x0, true⟩,
  ⟨0x100, 13, 1, .ro, 0xFFFFFFFFFFFF, 0x0, 0x0, 0x0, 0x0, true⟩]

/-- Block PLX, continued. -/
def rowsPLX : List RegRow := rowsPLX0 ++ rowsPLX1

/-- Block CPU of a Prism die: R685, R686, R687, R688, R689, R690, R691. -/
def rowsCPU0 : List RegRow := [
  ⟨0x0, 1, 1, .sc, 0xFF007F, 0xFF007F, 0x0, 0x0, 0x0, false⟩,
  ⟨0x1, 1, 1, .ro, 0x1FFFFFFFFFFF, 0x0, 0x0, 0x0, 0x0, false⟩,
  ⟨0x2, 1, 1, .ro, 0x7FF, 0x0, 0x7FF, 0x0, 0x0, false⟩,
  ⟨0x3, 1, 1, .rw, 0x1FF, 0x3F, 0x0, 0x0, 0x0, false⟩,
  ⟨0x4, 1, 1, .rw, 0x1FFF, 0xFFF, 0x0, 0x0, 0x0, false⟩,
  ⟨0x5, 4, 1, .ro, 0xFFFFFFFFFFFF, 0x0, 0x0, 0x0, 0x0, false⟩,
  ⟨0x9, 1, 1, .rw, 0xFFFFFFFF, 0xFFFF0000, 0x0, 0x0, 0xACE1, false⟩,
  ⟨0xA, 1, 1, .ro, 0xFFFF, 0x0, 0xFFFF, 0x0, 0x0, false⟩,
  ⟨0x10, 16, 1, .ro, 0x1FFFFFFF, 0x0, 0x3FFFFFF, 0x0, 0x0, false⟩,
  ⟨0x20, 16, 1, .rw, 0xFFFFFFFF, 0xFFFF0000, 0x0, 0x0, 0xACE1, false⟩,
  ⟨0x30, 16, 1, .ro, 0x1FFFFFFFFF, 0x0, 0x0, 0x0, 0x0, false⟩,
  ⟨0x40, 16, 1, .ro, 0xFFFFFFFFFFF, 0x0, 0x0, 0x0, 0x0, false⟩]

/-- Block CPU, continued. -/
def rowsCPU1 : List RegRow := [
  ⟨0x50, 16, 2, .rw, 0x1FFFFFFFFFFF, 0x1FFFFFFFFFFF, 0x0, 0x0, 0x40000000000, false⟩,
  ⟨0x51, 16, 2, .rw, 0xFFFFFF, 0xFFF, 0x0, 0x0, 0x0, false⟩,
  ⟨0x100, 16, 1, .cf, 0x7FF, 0x7FF, 0x0, 0x0, 0x1A0, false⟩,
  ⟨0x110, 16, 1, .cf, 0xFFFFFFFFFF, 0xFFFFFFFFFF, 0x0, 0x0, 0x0, false⟩,
  ⟨0x200, 128, 1, .cf, 0xFFFFFFFFFFFF, 0xFFFFFFFFFFFF, 0x0, 0x0, 0x0, false⟩,
  ⟨0x300, 56, 1, .cf, 0x1FFFFF, 0x1FFFFF, 0x0, 0x0, 0x0, false⟩,
  ⟨0x400, 256, 1, .ro, 0xFFFFFFFFFFFF, 0x0, 0x0, 0x0, 0x0, false⟩,
  ⟨0x1000, 2048, 1, .cf, 0xFFFF, 0xFFFF, 0x0, 0x0, 0x0, false⟩]

/-- Block CPU, continued. -/
def rowsCPU : List RegRow := rowsCPU0 ++ rowsCPU1

/-- Block APR of a Prism die: R691, R692. -/
def rowsAPR : List RegRow := [
  ⟨0x0, 1, 1, .ro, 0x1FFF, 0x0, 0x1FFF, 0x0, 0x0, false⟩,
  ⟨0x100, 128, 1, .ro, 0x3FFFFFFFFFF, 0x0, 0x1FFFFFE0000, 0x0, 0x0, false⟩]

/-- Block WDT of a Prism die: R693. -/
def rowsWDT : List RegRow := [
  ⟨0x0, 1, 1, .cf, 0x3FFFFFFFFFF, 0x3FFFFFFFFFF, 0x0, 0x0, 0x7D000000C8, false⟩,
  ⟨0x10, 16, 1, .cf, 0x7FFFFFFFFFFF, 0x7FFFFFFFFFFF, 0x0, 0x0, 0x7D000000000, false⟩]

/-- Block LOUPE of a Prism die: R740, R741, R742. -/
def rowsLOUPE0 : List RegRow := [
  ⟨0x0, 1, 1, .sc, 0xFF0001, 0xFF0001, 0x0, 0x0, 0x0, false⟩,
  ⟨0x1, 1, 1, .ro, 0xFF, 0x0, 0x0, 0x0, 0x0, false⟩,
  ⟨0x2, 1, 1, .rw, 0x1FFF, 0xFFF, 0x0, 0x0, 0x0, false⟩,
  ⟨0x3, 1, 1, .rw, 0xFFFF, 0xFFFF, 0x0, 0x0, 0x0, false⟩,
  ⟨0x4, 1, 1, .rw, 0xFFFFFFFFFFFF, 0xFFFFFFFFFFFF, 0x0, 0x0, 0x0, false⟩,
  ⟨0x100, 256, 4, .rw, 0xFFFFFFFF, 0xFFFFFFFF, 0x0, 0x0, 0x0, false⟩,
  ⟨0x101, 256, 4, .rw, 0xFFFFFFFFFFFF, 0xFFFFFFFFFFFF, 0x0, 0x0, 0x0, false⟩,
  ⟨0x102, 256, 4, .rw, 0xFFFFFFFF, 0xFFFFFFFF, 0x0, 0x0, 0x1, false⟩,
  ⟨0x103, 256, 4, .rw, 0xFFFFFFFFFFFF, 0xFFFFFFFFFFFF, 0x0, 0x0, 0x0, false⟩,
  ⟨0x1000, 4, 256, .ro, 0x7FFFFFFFFF, 0x0, 0x0, 0x0, 0x0, false⟩,
  ⟨0x1001, 4, 256, .ro, 0xFFFFFFFFFFFF, 0x0, 0x0, 0x0, 0x0, false⟩,
  ⟨0x1002, 4, 256, .ro, 0xFFFFFFFFFFFF, 0x0, 0x0, 0x0, 0x0, false⟩]

/-- Block LOUPE, continued. -/
def rowsLOUPE1 : List RegRow := [
  ⟨0x1003, 4, 256, .ro, 0xFFFFFFFFFFFF, 0x0, 0x0, 0x0, 0x0, false⟩,
  ⟨0x1004, 4, 256, .ro, 0xFFFFFFFFFFFF, 0x0, 0x0, 0x0, 0x0, false⟩,
  ⟨0x1005, 4, 256, .ro, 0xFFFFFFFFFFFF, 0x0, 0x0, 0x0, 0x0, false⟩,
  ⟨0x1006, 4, 256, .ro, 0xFFFFFFFFFFFF, 0x0, 0x0, 0x0, 0x0, false⟩,
  ⟨0x1007, 4, 256, .ro, 0xFFFFFFFFFFFF, 0x0, 0x0, 0x0, 0x0, false⟩,
  ⟨0x1008, 4, 256, .ro, 0xFFFFFFFFFFFF, 0x0, 0x0, 0x0, 0x0, false⟩,
  ⟨0x1009, 4, 256, .ro, 0xFFFFFFFFFFFF, 0x0, 0x0, 0x0, 0x0, false⟩,
  ⟨0x1010, 64, 1, .ro, 0xFFFFFFFFFFFF, 0x0, 0x0, 0x0, 0x0, false⟩,
  ⟨0x1110, 64, 1, .ro, 0xFFFFFFFFFFFF, 0x0, 0x0, 0x0, 0x0, false⟩,
  ⟨0x1210, 64, 1, .ro, 0xFFFFFFFFFFFF, 0x0, 0x0, 0x0, 0x0, false⟩,
  ⟨0x1310, 64, 1, .ro, 0xFFFFFFFFFFFF, 0x0, 0x0, 0x0, 0x0, false⟩]

/-- Block LOUPE, continued. -/
def rowsLOUPE : List RegRow := rowsLOUPE0 ++ rowsLOUPE1

/-- Block PSCP of a Prism die: R743, R744, R745, R746, R747. -/
def rowsPSCP0 : List RegRow := [
  ⟨0x0, 1, 1, .cf, 0xFFF, 0xFFF, 0x0, 0x0, 0x190, false⟩,
  ⟨0x1, 1, 1, .cf, 0xFFFFFFFFF, 0xFFFFFFFFF, 0x0, 0x0, 0x0, false⟩,
  ⟨0x2, 1, 1, .cf, 0xFFFFFFFF, 0xFFFFFFFF, 0x0, 0x0, 0x1, false⟩,
  ⟨0x3, 1, 1, .cf, 0xFFFFFFFFFFFF, 0xFFFFFFFFFFFF, 0x0, 0x0, 0x0, false⟩,
  ⟨0x4, 1, 1, .rw, 0xFFFFFFFFF, 0xFFFFFFFFF, 0x0, 0x0, 0x271000400, false⟩,
  ⟨0x5, 1, 1, .ro, 0x1FFFF, 0x0, 0x1FFFF, 0x0, 0x0, false⟩,
  ⟨0x6, 1, 1, .ro, 0xFFFFFFFFFFFF, 0x0, 0xFFFFFFFFFFFF, 0x0, 0x0, false⟩,
  ⟨0x7, 1, 1, .sc, 0xFF000F, 0xFF000F, 0x0, 0x0, 0x0, false⟩,
  ⟨0x8, 1, 1, .rw, 0x7F, 0x7F, 0x0, 0x0, 0x0, false⟩,
  ⟨0x9, 1, 1, .ro, 0x7FFFF, 0x0, 0x0, 0x0, 0x0, false⟩,
  ⟨0x10, 16, 4, .ro, 0xFFFFFFFFFFFF, 0x0, 0x0, 0x0, 0x0, false⟩,
  ⟨0x11, 16, 4, .ro, 0xFFFFFFFFFFFF, 0x0, 0x0, 0x0, 0x0, false⟩]

/-- Block PSCP, continued. -/
def rowsPSCP1 : List RegRow := [
  ⟨0x12, 16, 4, .ro, 0xFFFFFFFFFFFF, 0x0, 0x0, 0x0, 0x0, false⟩,
  ⟨0x13, 16, 4, .ro, 0x3F, 0x0, 0x0, 0x0, 0x0, false⟩,
  ⟨0x80, 64, 2, .rw, 0x3FFFFFFFF, 0x3FFFFFFFF, 0x0, 0x0, 0x0, false⟩,
  ⟨0x81, 64, 2, .rw, 0xFFFFFF, 0xFFFFFF, 0x0, 0x0, 0x0, false⟩,
  ⟨0x100, 1, 1, .rw, 0x3FFFFFF, 0x7FFFFF, 0x0, 0x0, 0x0, false⟩,
  ⟨0x101, 1, 1, .rw, 0xFFFFFFFFFFFF, 0xFFFFFFFFFFFF, 0x0, 0x0, 0x0, false⟩,
  ⟨0x102, 1, 1, .rw, 0xFFFFFFFFFF, 0xFFFFFFFFFF, 0x0, 0x0, 0x0, false⟩,
  ⟨0x140, 64, 1, .ro, 0xFFFFFFFFFFFF, 0x0, 0x0, 0x0, 0x0, false⟩,
  ⟨0x200, 12, 1, .ro, 0xFFFFFFFFFFFF, 0x0, 0x0, 0x0, 0x0, false⟩]

/-- Block PSCP, continued. -/
def rowsPSCP : List RegRow := rowsPSCP0 ++ rowsPSCP1

/-- Block TIME of a Prism die: R384, R385, R386. -/
def rowsTIME : List RegRow := [
  ⟨0x0, 1, 1, .ro, 0xFFFFFFFFFFFF, 0x0, 0xFFFFFFFFFFFF, 0x0, 0x0, false⟩,
  ⟨0x1, 1, 1, .rw, 0xFFFFFFFF, 0xFFFFFFFF, 0x0, 0x0, 0x0, false⟩,
  ⟨0x2, 1, 1, .rw, 0xFFFFFFFFFFFF, 0xFFFFFFFFFFFF, 0x0, 0x0, 0x0, false⟩,
  ⟨0x3, 1, 1, .ro, 0x1FFFF, 0x0, 0x0, 0x0, 0x0, false⟩,
  ⟨0x4, 1, 1, .rw, 0xFFFFFFFFFFFF, 0xFFFFFFFFFFFF, 0x0, 0x0, 0x0, false⟩,
  ⟨0x5, 1, 1, .rw, 0x3FFFFFFF, 0x3FFFFFFF, 0x0, 0x0, 0x0, false⟩,
  ⟨0x6, 1, 1, .rw, 0xFFFFFFFFFFFF, 0xFFFFFFFFFFFF, 0x0, 0x0, 0x0, false⟩,
  ⟨0x7, 1, 1, .rw, 0xF, 0x7, 0x0, 0x0, 0x0, false⟩,
  ⟨0x8, 1, 1, .ro, 0xFFFFFFFFFFFF, 0x0, 0x0, 0x0, 0x0, false⟩,
  ⟨0x9, 1, 1, .sc, 0xFF0007, 0xFF0007, 0x0, 0x0, 0x0, false⟩,
  ⟨0xA, 1, 1, .ro, 0xFFFFFFFFFFFF, 0x0, 0xFFFFFFFFFFFF, 0x0, 0x0, false⟩,
  ⟨0xB, 1, 1, .ro, 0x3FFFFFFF, 0x0, 0x3FFFFFFF, 0x0, 0x0, false⟩]

/-- Block DEV of a drive die: R189, R190. -/
def rowsDEVD : List RegRow := [
  ⟨0x0, 1, 1, .ro, 0xFFFFF7, 0x0, 0x0, 0xFFFFF7, 0x0, false⟩,
  ⟨0x1, 1, 1, .ro, 0xFFFFFFFFFFFF, 0x0, 0x0, 0xFFFFFFFFFFFF, 0x0, false⟩,
  ⟨0x2, 1, 1, .ro, 0x77, 0x0, 0x0, 0x77, 0x0, false⟩,
  ⟨0x3, 1, 1, .ro, 0xFFFF0001, 0x0, 0x0, 0x0, 0x0, false⟩]

/-- Block SUP of a drive die: R93, R94, R95, R96, R97. -/
def rowsSUP : List RegRow := [
  ⟨0x1, 1, 1, .pw, 0x1FF01FF, 0x1FF01FF, 0x0, 0x0, 0x380046, false⟩,
  ⟨0x2, 1, 1, .ro, 0xFFFFFFFFFFFF, 0x0, 0xFFFFFFFFFFFF, 0x0, 0x0, false⟩,
  ⟨0x3, 1, 1, .pw, 0x1, 0x1, 0x0, 0x0, 0x0, false⟩,
  ⟨0x4, 1, 1, .sc, 0xFF037F, 0xFF007F, 0x300, 0x0, 0x0, false⟩,
  ⟨0x5, 1, 1, .ro, 0xFFFFFF7F, 0x0, 0x3F, 0x40, 0xFFFFFF00, false⟩]

/-- Block FUSE of a drive die: R652, R778. -/
def rowsFUSE : List RegRow := [
  ⟨0x1, 1, 1, .ro, 0x1FF, 0x0, 0x0, 0x1FF, 0x0, false⟩,
  ⟨0x2, 1, 1, .ro, 0xFFFFFF, 0x0, 0x0, 0xFFFFFF, 0x0, false⟩,
  ⟨0x3, 1, 1, .ro, 0xFFFF, 0x0, 0x0, 0xFFFF, 0x0, false⟩,
  ⟨0x4, 1, 1, .ro, 0xFFFFFFFFF, 0x0, 0x0, 0xFFFFFFFFF, 0x0, false⟩,
  ⟨0x8, 8, 1, .ro, 0x3FFFFFFFF, 0x0, 0x0, 0x3FFFFFFFF, 0x0, false⟩,
  ⟨0x10, 28, 1, .ro, 0xFFFFFFFFFFFF, 0x0, 0x0, 0xFFFFFFFFFFFF, 0x0, false⟩]

/-- Block CHN of a drive die: R645, R646, R647, R648, R649. -/
def rowsCHN : List RegRow := [
  ⟨0x0, 1, 1, .cf, 0x3FFFFFFFFFF, 0x3FFFFFFFFFF, 0x0, 0x0, 0x320531400, false⟩,
  ⟨0x1, 1, 1, .cf, 0xFFFFFFFFFFFF, 0xFFFFFFFFFFFF, 0x0, 0x0, 0x0, false⟩,
  ⟨0x2, 1, 1, .rw, 0xFFF, 0xFFF, 0x0, 0x0, 0x0, false⟩,
  ⟨0x3, 1, 1, .rw, 0xFFFFFFF, 0xFFFFFFF, 0x0, 0x0, 0x0, false⟩,
  ⟨0x4, 1, 1, .ro, 0xFFFFFF, 0x0, 0xF3E0FF, 0x0, 0x1100, false⟩,
  ⟨0x5, 1, 1, .ro, 0xFFFFFFFFFFF, 0x0, 0xFFFFFFFFFFF, 0x0, 0x0, false⟩,
  ⟨0x6, 1, 1, .ro, 0xFFFFFFFFFFFF, 0x0, 0xFFFFFF, 0x0, 0x0, false⟩,
  ⟨0x7, 1, 1, .ro, 0xFFFFFFFFFF, 0x0, 0x2, 0x0, 0x0, false⟩,
  ⟨0x8, 1, 1, .sc, 0xFF03FF, 0xFF03FF, 0x0, 0x0, 0x0, false⟩,
  ⟨0x100, 11, 1, .ro, 0xFFFFFFFFFFFF, 0x0, 0x0, 0x0, 0x0, false⟩]

/-- Block IN of a drive die: R650. -/
def rowsIN : List RegRow := [
  ⟨0x0, 24, 1, .cf, 0x1FFFFFFFFF, 0x1FFFFFFFFF, 0x0, 0x0, 0xC0140A050, false⟩,
  ⟨0x20, 24, 1, .ro, 0x1FFFF, 0x0, 0x1FFFF, 0x0, 0x0, false⟩,
  ⟨0x40, 1, 1, .ro, 0xFFFFFF, 0x0, 0xFFFFFF, 0x0, 0x0, false⟩,
  ⟨0x41, 1, 1, .sc, 0xFF0003, 0xFF0003, 0x0, 0x0, 0x0, false⟩,
  ⟨0x42, 1, 1, .ro, 0x3F, 0x0, 0x0, 0x0, 0x0, false⟩]

/-- Block PIN of a drive die: R652. -/
def rowsPIN : List RegRow := [
  ⟨0x1, 8, 1, .ro, 0x3FFFFFFFF, 0x0, 0x0, 0x3FFFFFFFF, 0x0, false⟩,
  ⟨0x9, 1, 1, .ro, 0x1FFFFFFFF, 0x0, 0x1FFFF, 0x0, 0x0, false⟩,
  ⟨0xA, 1, 1, .pw, 0x1, 0x1, 0x0, 0x0, 0x0, false⟩,
  ⟨0xB, 1, 1, .sc, 0xFF0007, 0xFF0007, 0x0, 0x0, 0x0, false⟩]

/-- Block THM of a drive die: R651. -/
def rowsTHM : List RegRow := [
  ⟨0x0, 1, 1, .ro, 0x1FFFFFF, 0x0, 0x1FFFFFF, 0x0, 0x0, false⟩,
  ⟨0x1, 1, 1, .ro, 0xFFFFFF, 0x0, 0xFFFFFF, 0x0, 0x0, false⟩,
  ⟨0x2, 1, 1, .sc, 0xFF000F, 0xFF000F, 0x0, 0x0, 0x0, false⟩]

/-- Block XCVR of a drive die: R438. -/
def rowsXCVR : List RegRow := [
  ⟨0x1, 1, 1, .pw, 0xFFFF, 0xFFFF, 0x0, 0x0, 0x0, false⟩,
  ⟨0x2, 1, 1, .pw, 0xFFFF, 0xFFFF, 0x0, 0x0, 0x4444, false⟩,
  ⟨0x3, 1, 1, .ro, 0xFFFFFF, 0x0, 0xFFFFFF, 0x0, 0x0, false⟩,
  ⟨0x4, 1, 1, .sc, 0xFF001F, 0xFF001F, 0x0, 0x0, 0x0, false⟩,
  ⟨0x5, 1, 1, .ro, 0xF, 0x0, 0x0, 0x0, 0x0, false⟩]

/-- Block WKP of a drive die: R606, R607. -/
def rowsWKP0 : List RegRow := [
  ⟨0x1, 1, 1, .pw, 0xFFFFFFFFFF, 0xFFFFFFFFFF, 0x0, 0x0, 0x8000, false⟩,
  ⟨0x2, 1, 1, .pw, 0xFFFFFFFFFF, 0xFFFFFFFFFF, 0x0, 0x0, 0xC000, false⟩,
  ⟨0x3, 1, 1, .pw, 0x1FFFFFFFFF, 0x1FFFFFFFFF, 0x0, 0x0, 0x1F50225555, false⟩,
  ⟨0x4, 1, 1, .pw, 0x3FFFFFFFFF, 0x3FFFFFFFFF, 0x0, 0x0, 0x0, false⟩,
  ⟨0x5, 1, 1, .pw, 0x1FFFFFFF, 0x1FFFFFFF, 0x0, 0x0, 0x0, false⟩,
  ⟨0x6, 1, 1, .pw, 0xFFFFFFFFFFFF, 0xFFFFFFFFFFFF, 0x0, 0x0, 0x0, false⟩,
  ⟨0x7, 1, 1, .pw, 0xFFFF, 0xFFFF, 0x0, 0x0, 0x0, false⟩,
  ⟨0x8, 1, 1, .pw, 0x3FFFFFFFFF, 0x3FFFFFFFFF, 0x0, 0x0, 0x0, false⟩,
  ⟨0x9, 1, 1, .pw, 0x1FFFFFFF, 0x1FFFFFFF, 0x0, 0x0, 0x0, false⟩,
  ⟨0xA, 1, 1, .pw, 0xFFFFFFFFFFFF, 0xFFFFFFFFFFFF, 0x0, 0x0, 0x0, false⟩,
  ⟨0xB, 1, 1, .pw, 0xFFFF, 0xFFFF, 0x0, 0x0, 0x0, false⟩,
  ⟨0xC, 1, 1, .pw, 0xFFFFFFFFFFFF, 0xFFFFFFFFFFFF, 0x0, 0x0, 0x555555555555, false⟩]

/-- Block WKP, continued. -/
def rowsWKP1 : List RegRow := [
  ⟨0xD, 1, 1, .pw, 0xFFFFFFFFFFFF, 0xFFFFFFFFFFFF, 0x0, 0x0, 0x0, false⟩,
  ⟨0xE, 1, 1, .pw, 0xFFF, 0xFFF, 0x0, 0x0, 0x289, false⟩,
  ⟨0xF, 1, 1, .pw, 0xFFFF, 0xFFFF, 0x0, 0x0, 0x0, false⟩,
  ⟨0x10, 1, 1, .pw, 0x7FFFFF, 0x7FFFFF, 0x0, 0x0, 0x52800, false⟩,
  ⟨0x11, 1, 1, .ro, 0x1FF, 0x0, 0x0, 0x0, 0x0, false⟩,
  ⟨0x12, 1, 1, .sc, 0xFF001F, 0xFF001F, 0x0, 0x0, 0x0, false⟩,
  ⟨0x13, 1, 1, .ro, 0xFFFFFFFFFF, 0x0, 0xFFFFFFFFFF, 0x0, 0x0, false⟩,
  ⟨0x14, 1, 1, .pw, 0x1, 0x1, 0x0, 0x0, 0x0, false⟩,
  ⟨0x15, 4, 1, .ro, 0xFFFFFFFFFFFF, 0x0, 0xFFFFFFFFFFFF, 0x0, 0x0, false⟩,
  ⟨0x19, 1, 1, .ro, 0xFFFFFFFFFF, 0x0, 0xFFFFFFFFFF, 0x0, 0x0, false⟩]

/-- Block WKP, continued. -/
def rowsWKP : List RegRow := rowsWKP0 ++ rowsWKP1

/-- BLK_ERR and BLK_CTRL, which every block has (R144, R145, R146). -/
def rowsCommon : List RegRow := [
  ⟨0x1FFE, 1, 1, .sc, 0xFFFFFF001F, 0xFF001F, 0x8000000000, 0, 0, false⟩,
  ⟨0x1FFF, 1, 1, .rw, 3, 1, 2, 0, 0, false⟩]

/-- BLK_STAT, which every slow-domain block has (R92, R144). -/
def rowsStat : List RegRow := [⟨0, 1, 1, .ro, 1, 0, 1, 0, 0, false⟩]

/-- The rows of block b of a Prism die; none where the die kind has no such block (R140). -/
def rowsPrism (b : Nat) : Option (List RegRow) :=
  if b = 0x00 then some rowsDEV
  else if b = 0x01 then some rowsRSTC
  else if b = 0x02 then some rowsEYE
  else if b = 0x03 then some rowsIMG
  else if b = 0x08 then some rowsFAB
  else if b = 0x09 then some rowsQMGR
  else if b = 0x0A then some rowsSPILL
  else if b = 0x10 then some rowsCLS
  else if b = 0x11 then some rowsLPM
  else if b = 0x12 then some rowsPSFP
  else if b = 0x13 then some rowsTDMA
  else if 0x20 ≤ b ∧ b ≤ 0x3F then some rowsETH
  else if 0x40 ≤ b ∧ b ≤ 0x4F then some rowsCAN
  else if 0x50 ≤ b ∧ b ≤ 0x57 then some rowsLIN
  else if 0x58 ≤ b ∧ b ≤ 0x5A then some rowsD2D
  else if b = 0x60 then some rowsSGW
  else if b = 0x61 then some rowsWBR
  else if b = 0x68 then some rowsKEYS
  else if b = 0x69 then some rowsCIPH
  else if b = 0x6A then some rowsMSEC
  else if b = 0x6B then some rowsSEAL
  else if b = 0x70 then some rowsPAIR
  else if b = 0x71 then some rowsWAKE
  else if b = 0x72 then some rowsPLX
  else if b = 0x78 then some rowsCPU
  else if b = 0x79 then some rowsAPR
  else if b = 0x7A then some rowsWDT
  else if b = 0x80 then some rowsLOUPE
  else if b = 0x81 then some rowsPSCP
  else if b = 0x82 then some rowsTIME
  else none

/-- The rows of block b of a drive die; none where the die kind has no such block (R141). -/
def rowsDrive (b : Nat) : Option (List RegRow) :=
  if b = 0x00 then some rowsDEVD
  else if b = 0x01 then some (rowsStat ++ rowsSUP)
  else if b = 0x02 then some (rowsStat ++ rowsFUSE)
  else if 0x08 ≤ b ∧ b ≤ 0x23 then some rowsCHN
  else if b = 0x28 then some rowsIN
  else if b = 0x29 then some (rowsStat ++ rowsPIN)
  else if b = 0x2A then some rowsTHM
  else if b = 0x2B then some (rowsStat ++ rowsXCVR)
  else if b = 0x2C then some (rowsStat ++ rowsWKP)
  else none

/-- The blocks with a CF or posted configuration register, whose BLK_CTRL.ENABLE acts (R144, R145). -/
def blockHasCf (drive : Bool) (b : Nat) : Bool :=
  if drive then (decide (0x08 ≤ b ∧ b ≤ 0x23) || decide (b = 0x28))
  else (decide (b = 0x08) || decide (b = 0x09) || decide (b = 0x0A) || decide (b = 0x10) || decide (b = 0x11) || decide (0x20 ≤ b ∧ b ≤ 0x3F) || decide (0x40 ≤ b ∧ b ≤ 0x4F) || decide (0x50 ≤ b ∧ b ≤ 0x57) || decide (0x58 ≤ b ∧ b ≤ 0x5A) || decide (b = 0x60) || decide (b = 0x61) || decide (b = 0x68) || decide (b = 0x69) || decide (b = 0x6A) || decide (b = 0x70) || decide (b = 0x71) || decide (b = 0x72) || decide (b = 0x78) || decide (b = 0x7A) || decide (b = 0x81))

/-- The slow-domain blocks of a drive die (R141). -/
def blockSlow (b : Nat) : Bool :=
  decide (b = 0x01) || decide (b = 0x02) || decide (b = 0x29) || decide (b = 0x2B) || decide (b = 0x2C)

/-- The Prism-die blocks that belong to the lead die alone (R140 and the chapters). -/
def blockLead (b : Nat) : Bool :=
  decide (b = 0x01) || decide (b = 0x02) || decide (b = 0x03) || decide (b = 0x72)

/-- Does a row hold register number r? -/
def RegRow.holds (w : RegRow) (r : Nat) : Bool :=
  decide (w.off ≤ r) && decide ((r - w.off) % w.stride = 0) && decide ((r - w.off) / w.stride < w.n)

/-- The rows of the block an address names. -/
def blockRows (a : Nat) : Option (List RegRow) :=
  if aDie a < 4 then rowsPrism (aBlk a) else if aDie a < 8 then rowsDrive (aBlk a) else none

/-- The map's row of an address; none where the block's map does not list the register (R142). -/
def regRow (a : Nat) : Option RegRow :=
  match blockRows a with
  | none => none
  | some rows => (rowsCommon ++ rows).find? fun w => w.holds (aReg a)

/-- The bits an address implements; every other bit is reserved and reads as zero (R20). -/
def regMask (a : Nat) : Word :=
  match regRow a with
  | none => 0
  | some w => BitVec.ofNat 48 w.mask

end Sys2Proof.Machine
end

