-- ==== Sys2Proof/Machine/RegNames.lean ====
section
/-! DEFINITION. The names of the registers and of their fields, as the spec writes them (R17): BLOCK.REGISTER is the
address (p a Prism die, d a drive die, u the facet, controller or channel of a repeated block, i the index of an
array), and BLOCK.REGISTER.FIELD is the field. -/

namespace Sys2Proof.Machine

/-- BLK_STAT of a slow-domain block (R92). -/
def BLK_STAT (die blk : Nat) : Nat := ra die blk 0
/-- BLK_ERR of a block (R146). -/
def BLK_ERR (die blk : Nat) : Nat := ra die blk 0x1FFE
/-- BLK_CTRL of a block (R145). -/
def BLK_CTRL (die blk : Nat) : Nat := ra die blk 0x1FFF
def BLK_CTRL.ENABLE : Fld := ⟨0, 1⟩
def BLK_ERR.SEQ : Fld := ⟨16, 8⟩
def BLK_ERR.REG : Fld := ⟨24, 13⟩
def BLK_ERR.SRC : Fld := ⟨37, 2⟩

/-! Block DEV. -/

def DEV.ID (p : Nat) : Nat := ra p 0x00 0x0
def DEV.ID.KIND : Fld := ⟨0, 1⟩
def DEV.ID.DIE : Fld := ⟨1, 2⟩
def DEV.ID.REV : Fld := ⟨4, 4⟩
def DEV.ID.FAMILY : Fld := ⟨8, 16⟩
def DEV.SERIAL (p : Nat) : Nat := ra p 0x00 0x1
def DEV.SERIAL.SERIAL : Fld := ⟨0, 48⟩
def DEV.BUILD (p : Nat) : Nat := ra p 0x00 0x2
def DEV.BUILD.L : Fld := ⟨0, 3⟩
def DEV.BUILD.D : Fld := ⟨4, 3⟩
def DEV.LOCK (p : Nat) : Nat := ra p 0x00 0x3
def DEV.LOCK.APPLIED : Fld := ⟨0, 1⟩
def DEV.LOCK.COUNT : Fld := ⟨16, 16⟩
def DEV.EVT (p : Nat) : Nat := ra p 0x00 0x4
def DEV.EVT.CORE_DROOP : Fld := ⟨0, 1⟩
def DEV.EVT.CNT_HALF : Fld := ⟨1, 1⟩
def DEV.EVT.DLINK_LOST : Fld := ⟨2, 1⟩
def DEV.EVT.SLOW_EDGE_LOST : Fld := ⟨3, 1⟩
def DEV.EVT.DROOP_NOW : Fld := ⟨8, 1⟩
def DEV.EVT.SUBST_NOW : Fld := ⟨9, 1⟩
def DEV.EVT.SEQ : Fld := ⟨16, 8⟩
def DEV.VCORE (p : Nat) : Nat := ra p 0x00 0x5
def DEV.VCORE.NOW : Fld := ⟨0, 16⟩
def DEV.VCORE.MIN : Fld := ⟨16, 16⟩
def DEV.CNT_LAST (p : Nat) : Nat := ra p 0x00 0x6
def DEV.CNT_LAST.ADDR : Fld := ⟨0, 24⟩
def DEV.DLINK (p : Nat) : Nat := ra p 0x00 0x7
def DEV.DLINK.UP : Fld := ⟨0, 4⟩
def DEV.DLINK.LAST_RANK : Fld := ⟨4, 2⟩
def DEV.DLINK_DROPS (p i : Nat) : Nat := ra p 0x00 (0x8 + i)
def DEV.PINST (p i : Nat) : Nat := ra p 0x00 (0x100 + i)
def DEV.PINST.S : Fld := ⟨0, 48⟩
def DEV.OSC (p : Nat) : Nat := ra p 0x00 0x110
def DEV.OSC.INT_TRIM : Fld := ⟨0, 8⟩
def DEV.OSC.EDGE_SKEW : Fld := ⟨8, 8⟩
def DEV.TEMP (p : Nat) : Nat := ra p 0x00 0x111
def DEV.TEMP.TJ_OFS : Fld := ⟨0, 8⟩
def DEV.TEMP.VMON_OFS : Fld := ⟨8, 8⟩
def DEV.FLAGS (p : Nat) : Nat := ra p 0x00 0x112
def DEV.FLAGS.EPOCH_INIT : Fld := ⟨0, 1⟩
def DEV.FLAGS.PROV_DONE : Fld := ⟨1, 1⟩

/-! Block RSTC. -/

def RSTC.CAUSE (p : Nat) : Nat := ra p 0x01 0x0
def RSTC.CAUSE.VBAT_LOW : Fld := ⟨0, 1⟩
def RSTC.CAUSE.RESET_PIN : Fld := ⟨1, 1⟩
def RSTC.CAUSE.REGULATOR : Fld := ⟨2, 1⟩
def RSTC.CAUSE.SAFETY_WDT : Fld := ⟨3, 1⟩
def RSTC.CAUSE.EYEPIECE : Fld := ⟨4, 1⟩
def RSTC.CAUSE.TAMPER : Fld := ⟨5, 1⟩
def RSTC.CAUSE.D2D_LOSS : Fld := ⟨6, 1⟩
def RSTC.CAUSE.PARITY : Fld := ⟨7, 1⟩
def RSTC.CAUSE.THERMAL : Fld := ⟨8, 1⟩
def RSTC.CAUSE.SEQ : Fld := ⟨16, 8⟩
def RSTC.CAUSE.LAST : Fld := ⟨24, 4⟩
def RSTC.CAUSE.COUNT : Fld := ⟨32, 16⟩
def RSTC.DETAIL (p : Nat) : Nat := ra p 0x01 0x1
def RSTC.DETAIL.POR : Fld := ⟨0, 1⟩
def RSTC.DETAIL.REG_STAGE : Fld := ⟨1, 2⟩
def RSTC.DETAIL.REG_KIND : Fld := ⟨3, 2⟩
def RSTC.DETAIL.REG_ATTEMPTS : Fld := ⟨5, 2⟩
def RSTC.DETAIL.D2D_FACET : Fld := ⟨7, 8⟩
def RSTC.DETAIL.PARITY_DIE : Fld := ⟨15, 3⟩
def RSTC.DETAIL.PARITY_BLOCK : Fld := ⟨18, 8⟩
def RSTC.DETAIL.PARITY_KIND : Fld := ⟨26, 1⟩
def RSTC.DETAIL.THERM_DIE : Fld := ⟨27, 2⟩
def RSTC.DETAIL.EYE_PATH : Fld := ⟨29, 2⟩
def RSTC.DETAIL.TAMPER_SRC : Fld := ⟨31, 4⟩
def RSTC.STRAP (p : Nat) : Nat := ra p 0x01 0x2
def RSTC.STRAP.BOOT : Fld := ⟨0, 2⟩
def RSTC.STRAP.CLKMODE : Fld := ⟨2, 2⟩
def RSTC.STRAP.CLK_ACTIVE : Fld := ⟨4, 2⟩
def RSTC.STRAP.CLK_REASON : Fld := ⟨6, 3⟩
def RSTC.START (p : Nat) : Nat := ra p 0x01 0x3
def RSTC.START.STEP : Fld := ⟨0, 4⟩
def RSTC.START.SLOT : Fld := ⟨4, 2⟩
def RSTC.START.FALLBACK : Fld := ⟨6, 1⟩
def RSTC.START.IMG_HOLD : Fld := ⟨7, 1⟩
def RSTC.START.EPOCH_OK : Fld := ⟨8, 1⟩
def RSTC.START.FW_DONE : Fld := ⟨9, 1⟩
def RSTC.TIME_A (p : Nat) : Nat := ra p 0x01 0x4
def RSTC.TIME_A.CFG : Fld := ⟨0, 24⟩
def RSTC.TIME_A.CAN : Fld := ⟨24, 24⟩
def RSTC.TIME_B (p : Nat) : Nat := ra p 0x01 0x5
def RSTC.TIME_B.ETH : Fld := ⟨0, 24⟩
def RSTC.TIME_B.FW : Fld := ⟨24, 24⟩

/-! Block EYE. -/

def EYE.CTRL (p : Nat) : Nat := ra p 0x02 0x0
def EYE.CTRL.COMPAT_SPI : Fld := ⟨0, 1⟩
def EYE.CTRL.COMPAT_ETH : Fld := ⟨1, 1⟩
def EYE.CTRL.REMOTE_TO : Fld := ⟨8, 8⟩
def EYE.ETH (p : Nat) : Nat := ra p 0x02 0x1
def EYE.ETH.AUTH : Fld := ⟨0, 1⟩
def EYE.ETH.RIGHTS : Fld := ⟨1, 2⟩
def EYE.ETH.AUTH_SLOT : Fld := ⟨16, 10⟩
def EYE.ETH.PCP : Fld := ⟨28, 3⟩
def EYE.MAC (p : Nat) : Nat := ra p 0x02 0x2
def EYE.MAC.MAC : Fld := ⟨0, 48⟩
def EYE.LAST_SEQ (p : Nat) : Nat := ra p 0x02 0x3
def EYE.LAST_SEQ.LAST_SEQ : Fld := ⟨0, 32⟩
def EYE.ETH_STAT (p : Nat) : Nat := ra p 0x02 0x4
def EYE.ETH_STAT.ACCEPTED : Fld := ⟨0, 24⟩
def EYE.ETH_STAT.AUTH_DROP : Fld := ⟨24, 16⟩
def EYE.ETH_STAT.OTHER_DROP : Fld := ⟨40, 8⟩
def EYE.ATTN (p : Nat) : Nat := ra p 0x02 0x5
def EYE.ATTN.ATTN : Fld := ⟨0, 12⟩
def EYE.ATTN_DIE_A (p : Nat) : Nat := ra p 0x02 0x6
def EYE.ATTN_DIE_A.MASK : Fld := ⟨0, 48⟩
def EYE.ATTN_DIE_B (p : Nat) : Nat := ra p 0x02 0x7
def EYE.ATTN_DIE_B.MASK : Fld := ⟨0, 48⟩
def EYE.EVT (p : Nat) : Nat := ra p 0x02 0x8
def EYE.EVT.AUTH_FAIL : Fld := ⟨0, 1⟩
def EYE.EVT.REPLAY : Fld := ⟨1, 1⟩
def EYE.EVT.EPOCH_MISMATCH : Fld := ⟨2, 1⟩
def EYE.EVT.REMOTE_TIMEOUT : Fld := ⟨3, 1⟩
def EYE.EVT.BAD_FRAME : Fld := ⟨4, 1⟩
def EYE.EVT.SEQ : Fld := ⟨16, 8⟩
def EYE.FLASH (p : Nat) : Nat := ra p 0x02 0x9
def EYE.FLASH.RESULT : Fld := ⟨0, 4⟩
def EYE.FLASH.OP : Fld := ⟨4, 2⟩
def EYE.FLASH.ADDR : Fld := ⟨16, 32⟩
def EYE.ETH_FACETS (p i : Nat) : Nat := ra p 0x02 (0x10 + i)
def EYE.ETH_FACETS.F : Fld := ⟨0, 32⟩

/-! Block IMG. -/

def IMG.STAT (p : Nat) : Nat := ra p 0x03 0x0
def IMG.STAT.LOADER : Fld := ⟨0, 4⟩
def IMG.STAT.KEY_OK : Fld := ⟨4, 1⟩
def IMG.STAT.SECTIONS : Fld := ⟨16, 11⟩
def IMG.ID (p : Nat) : Nat := ra p 0x03 0x1
def IMG.ID.GEN : Fld := ⟨0, 16⟩
def IMG.ID.DEVICE_ID : Fld := ⟨16, 14⟩
def IMG.ID.BUILD_L : Fld := ⟨32, 3⟩
def IMG.ID.BUILD_D : Fld := ⟨36, 3⟩
def IMG.DIGEST (p : Nat) : Nat := ra p 0x03 0x2
def IMG.DIGEST.DIGEST : Fld := ⟨0, 48⟩
def IMG.SLOT_A (p : Nat) : Nat := ra p 0x03 0x3
def IMG.SLOT_A.GEN : Fld := ⟨0, 16⟩
def IMG.SLOT_A.STATE : Fld := ⟨16, 4⟩
def IMG.SLOT_A.ERR_SECTION : Fld := ⟨20, 10⟩
def IMG.SLOT_A.ERR_KIND : Fld := ⟨32, 4⟩
def IMG.SLOT_A.ATTEMPTS : Fld := ⟨36, 8⟩
def IMG.SLOT_B (p : Nat) : Nat := ra p 0x03 0x4
def IMG.SLOT_B.GEN : Fld := ⟨0, 16⟩
def IMG.SLOT_B.STATE : Fld := ⟨16, 4⟩
def IMG.SLOT_B.ERR_SECTION : Fld := ⟨20, 10⟩
def IMG.SLOT_B.ERR_KIND : Fld := ⟨32, 4⟩
def IMG.SLOT_B.ATTEMPTS : Fld := ⟨36, 8⟩
def IMG.XFER (p : Nat) : Nat := ra p 0x03 0xA
def IMG.XFER.GEN : Fld := ⟨0, 16⟩
def IMG.XFER.STATE : Fld := ⟨16, 4⟩
def IMG.XFER.ERR_SECTION : Fld := ⟨20, 10⟩
def IMG.XFER.ERR_KIND : Fld := ⟨32, 4⟩
def IMG.XFER.ATTEMPTS : Fld := ⟨36, 8⟩
def IMG.EPOCH (p : Nat) : Nat := ra p 0x03 0x5
def IMG.EPOCH.EPOCH : Fld := ⟨0, 16⟩
def IMG.EPOCH.FLOOR : Fld := ⟨16, 16⟩
def IMG.EPOCH.RENEWAL : Fld := ⟨32, 16⟩
def IMG.EPOCH_STAT (p : Nat) : Nat := ra p 0x03 0x6
def IMG.EPOCH_STAT.STATE : Fld := ⟨0, 3⟩
def IMG.EPOCH_STAT.PREFER : Fld := ⟨3, 2⟩
def IMG.EPOCH_STAT.SECTOR : Fld := ⟨5, 1⟩
def IMG.EPOCH_STAT.RECORDS : Fld := ⟨6, 9⟩
def IMG.EPOCH_STAT.INIT : Fld := ⟨15, 1⟩
def IMG.EPOCH_STAT.ERASE_PEND : Fld := ⟨16, 1⟩
def IMG.FW_STAT (p : Nat) : Nat := ra p 0x03 0x7
def IMG.FW_STAT.PASSED : Fld := ⟨0, 11⟩
def IMG.FW_STAT.FAILED : Fld := ⟨11, 11⟩
def IMG.FW_STAT.FIRST_FAIL : Fld := ⟨22, 10⟩
def IMG.CMD (p : Nat) : Nat := ra p 0x03 0x8
def IMG.CMD.OP : Fld := ⟨0, 4⟩
def IMG.CMD.ARG : Fld := ⟨16, 16⟩
def IMG.CMD.RESULT : Fld := ⟨32, 4⟩
def IMG.EVT (p : Nat) : Nat := ra p 0x03 0x9
def IMG.EVT.FALLBACK : Fld := ⟨0, 1⟩
def IMG.EVT.LOAD_REJECT : Fld := ⟨1, 1⟩
def IMG.EVT.FW_FAIL : Fld := ⟨2, 1⟩
def IMG.EVT.EPOCH_FAIL : Fld := ⟨3, 1⟩
def IMG.EVT.EPOCH_WARN : Fld := ⟨4, 1⟩
def IMG.EVT.EPOCH_EXHAUSTED : Fld := ⟨5, 1⟩
def IMG.EVT.CMD_DONE : Fld := ⟨6, 1⟩
def IMG.EVT.NET_BOOT_OFF : Fld := ⟨7, 1⟩
def IMG.EVT.SEQ : Fld := ⟨16, 8⟩

/-! Block FAB. -/

def FAB.CFG (p : Nat) : Nat := ra p 0x08 0x0
def FAB.CFG.STORM_MS : Fld := ⟨0, 14⟩
def FAB.HOP (p : Nat) : Nat := ra p 0x08 0x1
def FAB.HOP.THRU_CELLS : Fld := ⟨0, 17⟩
def FAB.HOP.THRU_QMAX : Fld := ⟨17, 16⟩
def FAB.SHARE (p : Nat) : Nat := ra p 0x08 0x2
def FAB.SHARE.SE : Fld := ⟨0, 6⟩
def FAB.SHARE.CPU : Fld := ⟨6, 6⟩
def FAB.SHARE.EYE : Fld := ⟨12, 6⟩
def FAB.PACE (p : Nat) : Nat := ra p 0x08 0x3
def FAB.PACE.NOW : Fld := ⟨0, 16⟩
def FAB.PACE.MIN : Fld := ⟨16, 16⟩
def FAB.CTRL (p : Nat) : Nat := ra p 0x08 0x4
def FAB.CTRL.CLR_MAX : Fld := ⟨0, 1⟩
def FAB.EVT (p : Nat) : Nat := ra p 0x08 0x5
def FAB.EVT.STORM : Fld := ⟨0, 1⟩
def FAB.EVT.MIRROR_DROP : Fld := ⟨1, 1⟩
def FAB.EVT.CELL_ERR : Fld := ⟨2, 1⟩
def FAB.EVT.REP_MISS : Fld := ⟨3, 1⟩
def FAB.EVT.PACE_LOW : Fld := ⟨4, 1⟩
def FAB.EVT.STALL : Fld := ⟨5, 1⟩
def FAB.EVT.PACE_LOW_NOW : Fld := ⟨8, 1⟩
def FAB.EVT.SEQ : Fld := ⟨16, 8⟩
def FAB.STORM_LAST (p : Nat) : Nat := ra p 0x08 0x6
def FAB.STORM_LAST.FACET : Fld := ⟨0, 6⟩
def FAB.STORM_LAST.CLASS : Fld := ⟨6, 3⟩
def FAB.STORM_TIME (p : Nat) : Nat := ra p 0x08 0x7
def FAB.STORM_TIME.TIME : Fld := ⟨0, 48⟩
def FAB.CELL_ERR_LAST (p : Nat) : Nat := ra p 0x08 0x8
def FAB.CELL_ERR_LAST.FACET : Fld := ⟨0, 8⟩
def FAB.CELL_ERR_LAST.CLASS : Fld := ⟨8, 3⟩
def FAB.CELL_ERR_LAST.WHERE : Fld := ⟨11, 2⟩
def FAB.CNT (p i : Nat) : Nat := ra p 0x08 (0x10 + i)
def FAB.REP_CMD (p : Nat) : Nat := ra p 0x08 0x18
def FAB.REP_CMD.INDEX : Fld := ⟨0, 12⟩
def FAB.REP_CMD.OP : Fld := ⟨12, 2⟩
def FAB.REP_CMD.RESULT : Fld := ⟨14, 2⟩
def FAB.REP_W0 (p : Nat) : Nat := ra p 0x08 0x19
def FAB.REP_W0.FACETS_L : Fld := ⟨0, 48⟩
def FAB.REP_W1 (p : Nat) : Nat := ra p 0x08 0x1A
def FAB.REP_W1.FACETS_H : Fld := ⟨0, 16⟩
def FAB.REP_W1.DIES : Fld := ⟨16, 4⟩
def FAB.REP_W1.HAIRPIN : Fld := ⟨20, 1⟩
def FAB.REP_W1.VALID : Fld := ⟨21, 1⟩
def FAB.REP_W1.FLOW : Fld := ⟨22, 5⟩
def FAB.REP_W1.FAR_GROUP : Fld := ⟨27, 12⟩
def FAB.STORM_CNT (p i : Nat) : Nat := ra p 0x08 (0x100 + i)
def FAB.FACET (p i : Nat) : Nat := ra p 0x08 (0x200 + i)
def FAB.FACET.HELD_NOW : Fld := ⟨0, 8⟩
def FAB.FACET.DRAIN_NOW : Fld := ⟨8, 8⟩
def FAB.FACET.HELD_MAX_MS : Fld := ⟨16, 14⟩

/-! Block QMGR. -/

def QMGR.POOL (p : Nat) : Nat := ra p 0x09 0x0
def QMGR.POOL.SHARED_FREE : Fld := ⟨0, 18⟩
def QMGR.POOL.PHYS_FREE : Fld := ⟨18, 18⟩
def QMGR.POOL_B (p : Nat) : Nat := ra p 0x09 0x1
def QMGR.POOL_B.RES_FREE : Fld := ⟨0, 18⟩
def QMGR.POOL_B.MIN_SUM : Fld := ⟨18, 18⟩
def QMGR.CFG (p : Nat) : Nat := ra p 0x09 0x2
def QMGR.CFG.SHARED_WARN : Fld := ⟨0, 18⟩
def QMGR.EVT (p : Nat) : Nat := ra p 0x09 0x3
def QMGR.EVT.LIMIT_DROP : Fld := ⟨0, 1⟩
def QMGR.EVT.SHARED_LOW : Fld := ⟨1, 1⟩
def QMGR.EVT.LINK_DROP : Fld := ⟨2, 1⟩
def QMGR.EVT.UNBOUND_DROP : Fld := ⟨3, 1⟩
def QMGR.EVT.FLUSH_DONE : Fld := ⟨4, 1⟩
def QMGR.EVT.SHARED_LOW_NOW : Fld := ⟨8, 1⟩
def QMGR.EVT.SEQ : Fld := ⟨16, 8⟩
def QMGR.DROP_LAST (p : Nat) : Nat := ra p 0x09 0x4
def QMGR.DROP_LAST.QUEUE : Fld := ⟨0, 14⟩
def QMGR.DROP_LAST.REASON : Fld := ⟨14, 2⟩
def QMGR.FLUSH_CMD (p : Nat) : Nat := ra p 0x09 0x5
def QMGR.FLUSH_CMD.TARGET : Fld := ⟨0, 14⟩
def QMGR.FLUSH_CMD.SCOPE : Fld := ⟨14, 2⟩
def QMGR.FLUSH_CMD.START : Fld := ⟨16, 1⟩
def QMGR.FLUSH_CMD.RESULT : Fld := ⟨17, 2⟩
def QMGR.FLUSH_CMD.REMOVED : Fld := ⟨19, 24⟩
def QMGR.Q_CMD (p : Nat) : Nat := ra p 0x09 0x6
def QMGR.Q_CMD.INDEX : Fld := ⟨0, 14⟩
def QMGR.Q_CMD.OP : Fld := ⟨14, 2⟩
def QMGR.Q_CMD.RESULT : Fld := ⟨16, 2⟩
def QMGR.Q_W0 (p : Nat) : Nat := ra p 0x09 0x7
def QMGR.Q_W0.PROFILE : Fld := ⟨0, 6⟩
def QMGR.Q_W0.DEPTH : Fld := ⟨6, 18⟩
def QMGR.Q_W0.FRAMES : Fld := ⟨24, 18⟩
def QMGR.Q_W1 (p : Nat) : Nat := ra p 0x09 0x8
def QMGR.Q_W1.MIN_CHG : Fld := ⟨0, 14⟩
def QMGR.Q_W1.RES_CHG : Fld := ⟨14, 16⟩
def QMGR.Q_W2 (p : Nat) : Nat := ra p 0x09 0x9
def QMGR.Q_W2.SPILLED : Fld := ⟨0, 23⟩
def QMGR.CNT (p i : Nat) : Nat := ra p 0x09 (0x10 + i)
def QMGR.PROF_A (p i : Nat) : Nat := ra p 0x09 (0x40 + 2 * i)
def QMGR.PROF_A.QMIN : Fld := ⟨0, 14⟩
def QMGR.PROF_A.QMAX : Fld := ⟨14, 17⟩
def QMGR.PROF_A.ALPHA : Fld := ⟨31, 3⟩
def QMGR.PROF_A.WEIGHT : Fld := ⟨34, 6⟩
def QMGR.PROF_B (p i : Nat) : Nat := ra p 0x09 (0x41 + 2 * i)
def QMGR.PROF_B.SPILL : Fld := ⟨0, 1⟩
def QMGR.PROF_B.HEAD_KEEP : Fld := ⟨1, 8⟩
def QMGR.PROF_B.SPILL_TRIG : Fld := ⟨9, 8⟩
def QMGR.PROF_B.SPILL_MAX : Fld := ⟨17, 16⟩
def QMGR.LIMIT_DROPS (p i : Nat) : Nat := ra p 0x09 (0x100 + i)
def QMGR.CQ_CFG (p i : Nat) : Nat := ra p 0x09 (0x400 + 4 * i)
def QMGR.CQ_CFG.QUEUE : Fld := ⟨0, 14⟩
def QMGR.CQ_CFG.OWNER : Fld := ⟨14, 2⟩
def QMGR.CQ_CFG.PART : Fld := ⟨16, 4⟩
def QMGR.CQ_CFG.IRQ : Fld := ⟨20, 1⟩
def QMGR.CQ_DATA (p i : Nat) : Nat := ra p 0x09 (0x401 + 4 * i)
def QMGR.CQ_DATA.WORD : Fld := ⟨0, 48⟩
def QMGR.CQ_STAT (p i : Nat) : Nat := ra p 0x09 (0x402 + 4 * i)
def QMGR.CQ_STAT.UNDERRUN : Fld := ⟨0, 1⟩
def QMGR.CQ_STAT.EMPTY : Fld := ⟨8, 1⟩
def QMGR.CQ_STAT.BOUNDARY : Fld := ⟨9, 1⟩
def QMGR.CQ_STAT.SEQ : Fld := ⟨16, 8⟩
def QMGR.CQ_STAT.WORDS_LEFT : Fld := ⟨24, 12⟩
def QMGR.CQ_STAT.FRAMES : Fld := ⟨36, 12⟩
def QMGR.CQ_CMD (p i : Nat) : Nat := ra p 0x09 (0x403 + 4 * i)
def QMGR.CQ_CMD.DROP_REST : Fld := ⟨0, 1⟩

/-! Block SPILL. -/

def SPILL.REGION (p : Nat) : Nat := ra p 0x0A 0x0
def SPILL.REGION.BASE : Fld := ⟨0, 12⟩
def SPILL.REGION.SIZE : Fld := ⟨12, 12⟩
def SPILL.STAT (p : Nat) : Nat := ra p 0x0A 0x1
def SPILL.STAT.FREE : Fld := ⟨0, 23⟩
def SPILL.STAT.QUEUES : Fld := ⟨23, 15⟩
def SPILL.RATE (p : Nat) : Nat := ra p 0x0A 0x2
def SPILL.RATE.WR : Fld := ⟨0, 12⟩
def SPILL.RATE.RD : Fld := ⟨12, 12⟩
def SPILL.EVT (p : Nat) : Nat := ra p 0x0A 0x3
def SPILL.EVT.FULL : Fld := ⟨0, 1⟩
def SPILL.EVT.CHECK_ERR : Fld := ⟨1, 1⟩
def SPILL.EVT.MEM_ERR : Fld := ⟨2, 1⟩
def SPILL.EVT.FULL_NOW : Fld := ⟨8, 1⟩
def SPILL.EVT.SEQ : Fld := ⟨16, 8⟩
def SPILL.CNT (p i : Nat) : Nat := ra p 0x0A (0x10 + i)

/-! Block CLS. -/

def CLS.CFG (p : Nat) : Nat := ra p 0x10 0x0
def CLS.CFG.HASH_SEED : Fld := ⟨0, 16⟩
def CLS.CFG.AGE_S : Fld := ⟨16, 20⟩
def CLS.CFG.MAC_EVICT : Fld := ⟨36, 1⟩
def CLS.QUEUES (p : Nat) : Nat := ra p 0x10 0x1
def CLS.QUEUES.LL_QUEUE : Fld := ⟨0, 14⟩
def CLS.QUEUES.EXCEPT_QUEUE : Fld := ⟨16, 14⟩
def CLS.ROUTER_MAC (p : Nat) : Nat := ra p 0x10 0x2
def CLS.ROUTER_MAC.MAC : Fld := ⟨0, 48⟩
def CLS.EVT (p : Nat) : Nat := ra p 0x10 0x3
def CLS.EVT.EVICT : Fld := ⟨0, 1⟩
def CLS.EVT.LEARN_FAIL : Fld := ⟨1, 1⟩
def CLS.EVT.FLOOD_DROP : Fld := ⟨2, 1⟩
def CLS.EVT.LEARN_OVERRUN : Fld := ⟨3, 1⟩
def CLS.EVT.ECC_ERR : Fld := ⟨4, 1⟩
def CLS.EVT.SEQ : Fld := ⟨16, 8⟩
def CLS.STAT (p : Nat) : Nat := ra p 0x10 0x4
def CLS.STAT.ENTRIES : Fld := ⟨0, 19⟩
def CLS.STAT.STATIC : Fld := ⟨19, 19⟩
def CLS.DROP_LAST (p : Nat) : Nat := ra p 0x10 0x5
def CLS.DROP_LAST.FACET : Fld := ⟨0, 6⟩
def CLS.DROP_LAST.REASON : Fld := ⟨6, 4⟩
def CLS.CNT (p i : Nat) : Nat := ra p 0x10 (0x10 + i)
def CLS.PORT (p i : Nat) : Nat := ra p 0x10 (0x100 + i)
def CLS.PORT.PVID : Fld := ⟨0, 12⟩
def CLS.PORT.DEF_PCP : Fld := ⟨12, 3⟩
def CLS.PORT.ACCEPT : Fld := ⟨15, 2⟩
def CLS.PORT.UNTAG_PVID : Fld := ⟨17, 1⟩
def CLS.PORT.LEARN : Fld := ⟨18, 1⟩
def CLS.PORT.FLOW : Fld := ⟨19, 5⟩
def CLS.PORT.FLOOD_RATE : Fld := ⟨24, 10⟩
def CLS.PORT.FLOOD_KINDS : Fld := ⟨34, 3⟩
def CLS.PORT.INGRESS_FILTER : Fld := ⟨37, 1⟩
def CLS.PORT_CPU (p : Nat) : Nat := ra p 0x10 0x13C
def CLS.PORT_CPU.PVID : Fld := ⟨0, 12⟩
def CLS.PORT_CPU.DEF_PCP : Fld := ⟨12, 3⟩
def CLS.PORT_CPU.ACCEPT : Fld := ⟨15, 2⟩
def CLS.PORT_CPU.UNTAG_PVID : Fld := ⟨17, 1⟩
def CLS.PORT_CPU.LEARN : Fld := ⟨18, 1⟩
def CLS.PORT_CPU.FLOW : Fld := ⟨19, 5⟩
def CLS.PORT_CPU.FLOOD_RATE : Fld := ⟨24, 10⟩
def CLS.PORT_CPU.FLOOD_KINDS : Fld := ⟨34, 3⟩
def CLS.PORT_CPU.INGRESS_FILTER : Fld := ⟨37, 1⟩
def CLS.PCPMAP (p i : Nat) : Nat := ra p 0x10 (0x200 + i)
def CLS.PCPMAP.MAP : Fld := ⟨0, 24⟩
def CLS.PCPMAP_CPU (p : Nat) : Nat := ra p 0x10 0x23C
def CLS.PCPMAP_CPU.MAP : Fld := ⟨0, 24⟩
def CLS.BUS_DEST (p i : Nat) : Nat := ra p 0x10 (0x320 + i)
def CLS.BUS_DEST.QUEUE : Fld := ⟨0, 16⟩

/-! Block LPM. -/

def LPM.CFG (p : Nat) : Nat := ra p 0x11 0x0
def LPM.CFG.EVICT : Fld := ⟨0, 1⟩
def LPM.CFG.MISS : Fld := ⟨1, 1⟩
def LPM.CFG.TTL_EXC : Fld := ⟨2, 1⟩
def LPM.CMD (p : Nat) : Nat := ra p 0x11 0x1
def LPM.CMD.OP : Fld := ⟨0, 2⟩
def LPM.CMD.V6 : Fld := ⟨2, 1⟩
def LPM.CMD.LEN : Fld := ⟨3, 8⟩
def LPM.CMD.NEXT_HOP : Fld := ⟨11, 12⟩
def LPM.CMD.RESULT : Fld := ⟨23, 3⟩
def LPM.CMD.SLOT : Fld := ⟨26, 14⟩
def LPM.KEY_0 (p : Nat) : Nat := ra p 0x11 0x2
def LPM.KEY_0.ADDR : Fld := ⟨0, 48⟩
def LPM.KEY_1 (p : Nat) : Nat := ra p 0x11 0x3
def LPM.KEY_1.ADDR : Fld := ⟨0, 48⟩
def LPM.KEY_2 (p : Nat) : Nat := ra p 0x11 0x4
def LPM.KEY_2.ADDR : Fld := ⟨0, 32⟩
def LPM.STAT (p : Nat) : Nat := ra p 0x11 0x5
def LPM.STAT.USED : Fld := ⟨0, 15⟩
def LPM.STAT.V4 : Fld := ⟨15, 15⟩
def LPM.STAT.V6 : Fld := ⟨30, 13⟩
def LPM.EVT (p : Nat) : Nat := ra p 0x11 0x6
def LPM.EVT.EVICT : Fld := ⟨0, 1⟩
def LPM.EVT.ROUTE_MISS : Fld := ⟨1, 1⟩
def LPM.EVT.L3_ERR : Fld := ⟨2, 1⟩
def LPM.EVT.ECC_ERR : Fld := ⟨3, 1⟩
def LPM.EVT.SEQ : Fld := ⟨16, 8⟩
def LPM.CNT (p i : Nat) : Nat := ra p 0x11 (0x10 + i)

/-! Block PSFP. -/

def PSFP.EVT (p : Nat) : Nat := ra p 0x12 0x0
def PSFP.EVT.BLOCKED : Fld := ⟨0, 1⟩
def PSFP.EVT.MARKED_RED : Fld := ⟨1, 1⟩
def PSFP.EVT.GATE_OVERRUN : Fld := ⟨2, 1⟩
def PSFP.EVT.GATE_TOO_LONG : Fld := ⟨3, 1⟩
def PSFP.EVT.CNT_HALF : Fld := ⟨4, 1⟩
def PSFP.EVT.ECC_ERR : Fld := ⟨5, 1⟩
def PSFP.EVT.SEQ : Fld := ⟨16, 8⟩
def PSFP.LAST (p : Nat) : Nat := ra p 0x12 0x1
def PSFP.LAST.FILTER : Fld := ⟨0, 12⟩
def PSFP.LAST.METER : Fld := ⟨12, 12⟩
def PSFP.LAST.FACET : Fld := ⟨24, 5⟩
def PSFP.LAST.CLASS : Fld := ⟨29, 3⟩
def PSFP.CNT_HALF_LAST (p : Nat) : Nat := ra p 0x12 0x2
def PSFP.CNT_HALF_LAST.INDEX : Fld := ⟨0, 14⟩
def PSFP.CNT (p i : Nat) : Nat := ra p 0x12 (0x10 + i)
def PSFP.CBS (p i : Nat) : Nat := ra p 0x12 (0x1000 + i)
def PSFP.CBS.IDLE_SLOPE : Fld := ⟨0, 24⟩
def PSFP.CBS.HI_CREDIT : Fld := ⟨24, 24⟩
def PSFP.GCL_CTRL (p i : Nat) : Nat := ra p 0x12 (0x1100 + 4 * i)
def PSFP.GCL_CTRL.ENABLE : Fld := ⟨0, 1⟩
def PSFP.GCL_CTRL.CONFIG_CHANGE : Fld := ⟨1, 1⟩
def PSFP.GCL_CTRL.ADMIN_LEN : Fld := ⟨2, 9⟩
def PSFP.GCL_CYCLE (p i : Nat) : Nat := ra p 0x12 (0x1101 + 4 * i)
def PSFP.GCL_CYCLE.ADMIN_CYCLE : Fld := ⟨0, 32⟩
def PSFP.GCL_CYCLE.ADMIN_EXT : Fld := ⟨32, 16⟩
def PSFP.GCL_BASE (p i : Nat) : Nat := ra p 0x12 (0x1102 + 4 * i)
def PSFP.GCL_BASE.BASE : Fld := ⟨0, 48⟩
def PSFP.GCL_STAT (p i : Nat) : Nat := ra p 0x12 (0x1103 + 4 * i)
def PSFP.GCL_STAT.OPER_BANK : Fld := ⟨0, 1⟩
def PSFP.GCL_STAT.CONFIG_PENDING : Fld := ⟨1, 1⟩
def PSFP.GCL_STAT.OPER_LEN : Fld := ⟨2, 9⟩
def PSFP.GCL_STAT.RESTARTS : Fld := ⟨11, 8⟩
def PSFP.GCL_STAT.OPEN_NOW : Fld := ⟨19, 8⟩

/-! Block TDMA. -/

def TDMA.CFG (p : Nat) : Nat := ra p 0x13 0x0
def TDMA.CFG.LOCK_MAX_MS : Fld := ⟨0, 14⟩
def TDMA.LOCK (p i : Nat) : Nat := ra p 0x13 (0x1 + i)
def TDMA.LOCK.REGIONS : Fld := ⟨0, 32⟩
def TDMA.EVT (p : Nat) : Nat := ra p 0x13 0x10
def TDMA.EVT.DONE : Fld := ⟨0, 1⟩
def TDMA.EVT.ERROR : Fld := ⟨1, 1⟩
def TDMA.EVT.LOCK_EXPIRED : Fld := ⟨2, 1⟩
def TDMA.EVT.SEQ : Fld := ⟨16, 8⟩
def TDMA.JOB (p i : Nat) : Nat := ra p 0x13 (0x20 + 4 * i)
def TDMA.JOB.TABLE : Fld := ⟨0, 8⟩
def TDMA.JOB.OP : Fld := ⟨8, 3⟩
def TDMA.JOB.MEM : Fld := ⟨11, 1⟩
def TDMA.JOB.INDEX : Fld := ⟨12, 18⟩
def TDMA.JOB.COUNT : Fld := ⟨30, 18⟩
def TDMA.JOB_MEM (p i : Nat) : Nat := ra p 0x13 (0x21 + 4 * i)
def TDMA.JOB_MEM.ADDR : Fld := ⟨0, 40⟩
def TDMA.JOB_STAT (p i : Nat) : Nat := ra p 0x13 (0x22 + 4 * i)
def TDMA.JOB_STAT.RESULT : Fld := ⟨0, 3⟩
def TDMA.JOB_STAT.DONE_COUNT : Fld := ⟨3, 18⟩
def TDMA.JOB_STAT.INDEX : Fld := ⟨21, 18⟩
def TDMA.BUF (p i : Nat) : Nat := ra p 0x13 (0x100 + i)
def TDMA.BUF.WORD : Fld := ⟨0, 48⟩

/-! Block ETH. -/

def ETH.MODE (p u : Nat) : Nat := ra p (0x20 + u) 0x0
def ETH.MODE.KIND : Fld := ⟨0, 2⟩
def ETH.MODE.MODE : Fld := ⟨2, 4⟩
def ETH.MODE.FEC : Fld := ⟨6, 2⟩
def ETH.MODE.ROLE : Fld := ⟨8, 1⟩
def ETH.MODE.AUTONEG : Fld := ⟨9, 1⟩
def ETH.MODE.CUT_RX : Fld := ⟨10, 1⟩
def ETH.MODE.CUT_TX : Fld := ⟨11, 1⟩
def ETH.MODE.MAX_LEN : Fld := ⟨12, 14⟩
def ETH.MODE.ADDR_FILTER : Fld := ⟨26, 2⟩
def ETH.MODE.LINK_HOLD_MS : Fld := ⟨28, 7⟩
def ETH.MODE.UP_HOLD_MS : Fld := ⟨35, 7⟩
def ETH.FLOW (p u : Nat) : Nat := ra p (0x20 + u) 0x1
def ETH.FLOW.FC_MODE : Fld := ⟨0, 2⟩
def ETH.FLOW.SEND : Fld := ⟨2, 1⟩
def ETH.FLOW.HONOUR : Fld := ⟨3, 1⟩
def ETH.FLOW.PFC_CLASSES : Fld := ⟨4, 8⟩
def ETH.FLOW.QUANTA : Fld := ⟨12, 16⟩
def ETH.FLOW.LIMIT_MS : Fld := ⟨28, 14⟩
def ETH.RXBUF (p u : Nat) : Nat := ra p (0x20 + u) 0x2
def ETH.RXBUF.XOFF : Fld := ⟨0, 11⟩
def ETH.RXBUF.XON : Fld := ⟨11, 11⟩
def ETH.RXBUF.XOFF_TOTAL : Fld := ⟨22, 11⟩
def ETH.RXBUF.SIZE : Fld := ⟨33, 11⟩
def ETH.STAT (p u : Nat) : Nat := ra p (0x20 + u) 0x3
def ETH.STAT.LINK_UP : Fld := ⟨0, 1⟩
def ETH.STAT.RAW_OK : Fld := ⟨1, 1⟩
def ETH.STAT.LOCAL_FAULT : Fld := ⟨2, 1⟩
def ETH.STAT.REMOTE_FAULT : Fld := ⟨3, 1⟩
def ETH.STAT.AN_DONE : Fld := ⟨4, 1⟩
def ETH.STAT.FEC_LOCK : Fld := ⟨5, 1⟩
def ETH.STAT.PLCA_OK : Fld := ⟨6, 1⟩
def ETH.STAT.PARTNER_PAUSED : Fld := ⟨8, 8⟩
def ETH.STAT.XOFF_SENT : Fld := ⟨16, 8⟩
def ETH.STAT.OVERRIDE : Fld := ⟨24, 8⟩
def ETH.STAT.RX_CELLS : Fld := ⟨32, 11⟩
def ETH.EVT (p u : Nat) : Nat := ra p (0x20 + u) 0x4
def ETH.EVT.LINK_DOWN : Fld := ⟨0, 1⟩
def ETH.EVT.LINK_UP : Fld := ⟨1, 1⟩
def ETH.EVT.RX_OVERFLOW : Fld := ⟨2, 1⟩
def ETH.EVT.PAUSE_LIMIT : Fld := ⟨3, 1⟩
def ETH.EVT.TS_OVERFLOW : Fld := ⟨4, 1⟩
def ETH.EVT.PLCA_LOST : Fld := ⟨5, 1⟩
def ETH.EVT.SEQ : Fld := ⟨16, 8⟩
def ETH.MATCH (p u i : Nat) : Nat := ra p (0x20 + u) (0x5 + i)
def ETH.MATCH.ADDR : Fld := ⟨0, 48⟩
def ETH.TS (p u : Nat) : Nat := ra p (0x20 + u) 0x9
def ETH.TS.RX_CORR : Fld := ⟨0, 16⟩
def ETH.TS.TX_CORR : Fld := ⟨16, 16⟩
def ETH.TS.TX_PTP : Fld := ⟨32, 1⟩
def ETH.TXTS_A (p u : Nat) : Nat := ra p (0x20 + u) 0xA
def ETH.TXTS_A.TIME : Fld := ⟨0, 48⟩
def ETH.TXTS_B (p u : Nat) : Nat := ra p (0x20 + u) 0xB
def ETH.TXTS_B.SEQ_ID : Fld := ⟨0, 16⟩
def ETH.TXTS_B.MSG_TYPE : Fld := ⟨16, 4⟩
def ETH.TXTS_B.DOMAIN : Fld := ⟨20, 8⟩
def ETH.TXTS_B.VALID : Fld := ⟨28, 1⟩
def ETH.TXTS_B.COUNT : Fld := ⟨29, 5⟩
def ETH.PLCA (p u : Nat) : Nat := ra p (0x20 + u) 0xC
def ETH.PLCA.EN : Fld := ⟨0, 1⟩
def ETH.PLCA.NODE_ID : Fld := ⟨1, 8⟩
def ETH.PLCA.NODE_COUNT : Fld := ⟨9, 8⟩
def ETH.PLCA.TO_TIMER : Fld := ⟨17, 8⟩
def ETH.PLCA.BURST_COUNT : Fld := ⟨25, 8⟩
def ETH.PLCA.BURST_TIMER : Fld := ⟨33, 8⟩
def ETH.PLCA_STAT (p u : Nat) : Nat := ra p (0x20 + u) 0xD
def ETH.PLCA_STAT.BEACONS : Fld := ⟨0, 24⟩
def ETH.CTRL (p u : Nat) : Nat := ra p (0x20 + u) 0xE
def ETH.CTRL.SNAP : Fld := ⟨0, 1⟩
def ETH.CTRL.RESTART_AN : Fld := ⟨1, 1⟩
def ETH.MDIO (p u : Nat) : Nat := ra p (0x20 + u) 0xF
def ETH.MDIO.OP : Fld := ⟨0, 3⟩
def ETH.MDIO.PRTAD : Fld := ⟨3, 5⟩
def ETH.MDIO.DEVAD : Fld := ⟨8, 5⟩
def ETH.MDIO.DATA : Fld := ⟨13, 16⟩
def ETH.MDIO.RESULT : Fld := ⟨29, 2⟩
def ETH.CNT (p u i : Nat) : Nat := ra p (0x20 + u) (0x100 + i)
def ETH.SNAPCNT (p u i : Nat) : Nat := ra p (0x20 + u) (0x200 + i)
def ETH.SNAPCNT.COUNT : Fld := ⟨0, 48⟩

/-! Block CAN. -/

def CAN.CFG (p u : Nat) : Nat := ra p (0x40 + u) 0x0
def CAN.CFG.MODE : Fld := ⟨0, 2⟩
def CAN.CFG.FD_EN : Fld := ⟨2, 1⟩
def CAN.CFG.XL_EN : Fld := ⟨3, 1⟩
def CAN.CFG.XL_TMS : Fld := ⟨4, 1⟩
def CAN.CFG.EXT : Fld := ⟨5, 1⟩
def CAN.CFG.ONE_SHOT : Fld := ⟨6, 1⟩
def CAN.CFG.PXHD : Fld := ⟨7, 1⟩
def CAN.CFG.DEFAULT_ACCEPT : Fld := ⟨8, 1⟩
def CAN.CFG.REJECT_RTR : Fld := ⟨9, 1⟩
def CAN.CFG.ECHO : Fld := ⟨10, 1⟩
def CAN.NBT (p u : Nat) : Nat := ra p (0x40 + u) 0x1
def CAN.NBT.BRP : Fld := ⟨0, 9⟩
def CAN.NBT.TSEG1 : Fld := ⟨9, 9⟩
def CAN.NBT.TSEG2 : Fld := ⟨18, 8⟩
def CAN.NBT.SJW : Fld := ⟨26, 8⟩
def CAN.DBT (p u : Nat) : Nat := ra p (0x40 + u) 0x2
def CAN.DBT.BRP : Fld := ⟨0, 6⟩
def CAN.DBT.TSEG1 : Fld := ⟨6, 7⟩
def CAN.DBT.TSEG2 : Fld := ⟨13, 6⟩
def CAN.DBT.SJW : Fld := ⟨19, 6⟩
def CAN.XBT (p u : Nat) : Nat := ra p (0x40 + u) 0x3
def CAN.XBT.BRP : Fld := ⟨0, 6⟩
def CAN.XBT.TSEG1 : Fld := ⟨6, 7⟩
def CAN.XBT.TSEG2 : Fld := ⟨13, 6⟩
def CAN.XBT.SJW : Fld := ⟨19, 6⟩
def CAN.XBT.PWMS : Fld := ⟨25, 6⟩
def CAN.XBT.PWML : Fld := ⟨31, 6⟩
def CAN.XBT.PWMO : Fld := ⟨37, 6⟩
def CAN.TDC (p u : Nat) : Nat := ra p (0x40 + u) 0x4
def CAN.TDC.TDC_EN : Fld := ⟨0, 1⟩
def CAN.TDC.TDCO : Fld := ⟨1, 8⟩
def CAN.TDC.TDCF : Fld := ⟨9, 8⟩
def CAN.TDC.TDC_INIT : Fld := ⟨17, 8⟩
def CAN.TDC.TDCO_XL : Fld := ⟨25, 8⟩
def CAN.FILT_CFG (p u : Nat) : Nat := ra p (0x40 + u) 0x5
def CAN.FILT_CFG.BASE : Fld := ⟨0, 13⟩
def CAN.FILT_CFG.COUNT : Fld := ⟨13, 11⟩
def CAN.STAT (p u : Nat) : Nat := ra p (0x40 + u) 0x6
def CAN.STAT.STATE : Fld := ⟨0, 3⟩
def CAN.STAT.TEC : Fld := ⟨3, 9⟩
def CAN.STAT.REC : Fld := ⟨12, 8⟩
def CAN.STAT.TDCV : Fld := ⟨20, 8⟩
def CAN.STAT.TDC_MEASURED : Fld := ⟨28, 1⟩
def CAN.STAT.LINK_UP : Fld := ⟨29, 1⟩
def CAN.STAT.RX_CELLS : Fld := ⟨30, 5⟩
def CAN.STAT.TX_PENDING : Fld := ⟨35, 1⟩
def CAN.CMD (p u : Nat) : Nat := ra p (0x40 + u) 0x7
def CAN.CMD.RECOVER : Fld := ⟨0, 1⟩
def CAN.CMD.ABORT_TX : Fld := ⟨1, 1⟩
def CAN.LAST_ERR (p u : Nat) : Nat := ra p (0x40 + u) 0x8
def CAN.LAST_ERR.KIND : Fld := ⟨0, 3⟩
def CAN.LAST_ERR.PHASE : Fld := ⟨3, 2⟩
def CAN.LAST_ERR.DIR : Fld := ⟨5, 1⟩
def CAN.LAST_ERR_TIME (p u : Nat) : Nat := ra p (0x40 + u) 0x9
def CAN.LAST_ERR_TIME.TIME : Fld := ⟨0, 48⟩
def CAN.EVT (p u : Nat) : Nat := ra p (0x40 + u) 0xA
def CAN.EVT.ERR_WARN : Fld := ⟨0, 1⟩
def CAN.EVT.ERR_PASSIVE : Fld := ⟨1, 1⟩
def CAN.EVT.BUS_OFF : Fld := ⟨2, 1⟩
def CAN.EVT.ACTIVE : Fld := ⟨3, 1⟩
def CAN.EVT.RX_OVERFLOW : Fld := ⟨4, 1⟩
def CAN.EVT.TDC_RANGE : Fld := ⟨5, 1⟩
def CAN.EVT.PROTO_EXC : Fld := ⟨6, 1⟩
def CAN.EVT.AC_CHANGE : Fld := ⟨7, 1⟩
def CAN.EVT.AC_CONTEST : Fld := ⟨8, 1⟩
def CAN.EVT.CLOCK_LOST : Fld := ⟨9, 1⟩
def CAN.EVT.SEQ : Fld := ⟨16, 8⟩
def CAN.FILT_CMD (p u : Nat) : Nat := ra p (0x40 + u) 0xB
def CAN.FILT_CMD.INDEX : Fld := ⟨0, 10⟩
def CAN.FILT_CMD.OP : Fld := ⟨10, 2⟩
def CAN.FILT_CMD.RESULT : Fld := ⟨12, 2⟩
def CAN.FILT_W0 (p u : Nat) : Nat := ra p (0x40 + u) 0xC
def CAN.FILT_W0.WORD : Fld := ⟨0, 48⟩
def CAN.FILT_W1 (p u : Nat) : Nat := ra p (0x40 + u) 0xD
def CAN.FILT_W1.WORD : Fld := ⟨0, 48⟩
def CAN.AC_CFG (p u : Nat) : Nat := ra p (0x40 + u) 0xE
def CAN.AC_CFG.EN : Fld := ⟨0, 1⟩
def CAN.AC_CFG.AGE_S : Fld := ⟨1, 16⟩
def CAN.AC_CMD (p u : Nat) : Nat := ra p (0x40 + u) 0xF
def CAN.AC_CMD.INDEX : Fld := ⟨0, 8⟩
def CAN.AC_CMD.OP : Fld := ⟨8, 2⟩
def CAN.AC_CMD.RESULT : Fld := ⟨10, 2⟩
def CAN.AC_W0 (p u : Nat) : Nat := ra p (0x40 + u) 0x10
def CAN.AC_W0.NAME_L : Fld := ⟨0, 48⟩
def CAN.AC_W1 (p u : Nat) : Nat := ra p (0x40 + u) 0x11
def CAN.AC_W1.NAME_H : Fld := ⟨0, 16⟩
def CAN.AC_W1.VALID : Fld := ⟨16, 1⟩
def CAN.AC_W1.IDLE_S : Fld := ⟨17, 16⟩
def CAN.CNT (p u i : Nat) : Nat := ra p (0x40 + u) (0x100 + i)

/-! Block LIN. -/

def LIN.CFG (p u : Nat) : Nat := ra p (0x50 + u) 0x0
def LIN.CFG.BIT_TIME : Fld := ⟨0, 17⟩
def LIN.CFG.BREAK : Fld := ⟨17, 5⟩
def LIN.CFG.START_TABLE : Fld := ⟨22, 3⟩
def LIN.CFG.EXT : Fld := ⟨25, 1⟩
def LIN.STAT (p u : Nat) : Nat := ra p (0x50 + u) 0x1
def LIN.STAT.STATE : Fld := ⟨0, 3⟩
def LIN.STAT.TABLE : Fld := ⟨3, 3⟩
def LIN.STAT.ENTRY : Fld := ⟨6, 8⟩
def LIN.STAT.SWITCH_PENDING : Fld := ⟨14, 1⟩
def LIN.STAT.RESOLVING : Fld := ⟨15, 1⟩
def LIN.STAT.LINK_UP : Fld := ⟨16, 1⟩
def LIN.STAT.RX_CELLS : Fld := ⟨17, 3⟩
def LIN.EVT (p u : Nat) : Nat := ra p (0x50 + u) 0x2
def LIN.EVT.ERROR : Fld := ⟨0, 1⟩
def LIN.EVT.COLLISION : Fld := ⟨1, 1⟩
def LIN.EVT.SLOT_OVERRUN : Fld := ⟨2, 1⟩
def LIN.EVT.BUS_FAULT : Fld := ⟨3, 1⟩
def LIN.EVT.RX_OVERFLOW : Fld := ⟨4, 1⟩
def LIN.EVT.CLOCK_LOST : Fld := ⟨5, 1⟩
def LIN.EVT.SEQ : Fld := ⟨16, 8⟩
def LIN.CMD (p u : Nat) : Nat := ra p (0x50 + u) 0x3
def LIN.CMD.TABLE : Fld := ⟨0, 3⟩
def LIN.CMD.SWITCH : Fld := ⟨3, 1⟩
def LIN.CMD.STOP : Fld := ⟨4, 1⟩
def LIN.CMD.GOTOSLEEP : Fld := ⟨5, 1⟩
def LIN.LAST (p u : Nat) : Nat := ra p (0x50 + u) 0x4
def LIN.LAST.ID : Fld := ⟨0, 6⟩
def LIN.LAST.ERR : Fld := ⟨6, 3⟩
def LIN.TBL (p u i : Nat) : Nat := ra p (0x50 + u) (0x10 + i)
def LIN.TBL.FIRST : Fld := ⟨0, 12⟩
def LIN.TBL.LEN : Fld := ⟨12, 9⟩
def LIN.SCHED_CMD (p u : Nat) : Nat := ra p (0x50 + u) 0x18
def LIN.SCHED_CMD.INDEX : Fld := ⟨0, 12⟩
def LIN.SCHED_CMD.OP : Fld := ⟨12, 2⟩
def LIN.SCHED_CMD.RESULT : Fld := ⟨14, 2⟩
def LIN.SCHED_W (p u : Nat) : Nat := ra p (0x50 + u) 0x19
def LIN.SCHED_W.WORD : Fld := ⟨0, 48⟩
def LIN.PUB_CMD (p u : Nat) : Nat := ra p (0x50 + u) 0x1A
def LIN.PUB_CMD.ID : Fld := ⟨0, 6⟩
def LIN.PUB_CMD.OP : Fld := ⟨6, 2⟩
def LIN.PUB_CMD.RESULT : Fld := ⟨8, 2⟩
def LIN.PUB_W0 (p u : Nat) : Nat := ra p (0x50 + u) 0x1B
def LIN.PUB_W0.DATA : Fld := ⟨0, 48⟩
def LIN.PUB_W1 (p u : Nat) : Nat := ra p (0x50 + u) 0x1C
def LIN.PUB_W1.DATA : Fld := ⟨32, 16⟩
def LIN.PUB_W1.PENDING : Fld := ⟨0, 1⟩
def LIN.CNT (p u i : Nat) : Nat := ra p (0x50 + u) (0x100 + i)

/-! Block D2D. -/

def D2D.CREDIT_A (p u : Nat) : Nat := ra p (0x58 + u) 0x0
def D2D.CREDIT_A.C0 : Fld := ⟨0, 8⟩
def D2D.CREDIT_A.C1 : Fld := ⟨8, 8⟩
def D2D.CREDIT_A.C2 : Fld := ⟨16, 8⟩
def D2D.CREDIT_A.C3 : Fld := ⟨24, 8⟩
def D2D.CREDIT_B (p u : Nat) : Nat := ra p (0x58 + u) 0x1
def D2D.CREDIT_B.C4 : Fld := ⟨0, 8⟩
def D2D.CREDIT_B.C5 : Fld := ⟨8, 8⟩
def D2D.CREDIT_B.C6 : Fld := ⟨16, 8⟩
def D2D.CREDIT_B.C7 : Fld := ⟨24, 8⟩
def D2D.STAT (p u : Nat) : Nat := ra p (0x58 + u) 0x2
def D2D.STAT.PEER : Fld := ⟨0, 2⟩
def D2D.STAT.UP : Fld := ⟨2, 1⟩
def D2D.STAT.NO_CREDIT : Fld := ⟨8, 8⟩
def D2D.STAT.RX_WAIT : Fld := ⟨16, 8⟩
def D2D.EVT (p u : Nat) : Nat := ra p (0x58 + u) 0x3
def D2D.EVT.CHECK_ERR : Fld := ⟨0, 1⟩
def D2D.EVT.CREDIT_ERR : Fld := ⟨1, 1⟩
def D2D.EVT.RESYNC : Fld := ⟨2, 1⟩
def D2D.EVT.STORM : Fld := ⟨3, 1⟩
def D2D.EVT.MIRROR_DROP : Fld := ⟨4, 1⟩
def D2D.EVT.SEQ : Fld := ⟨16, 8⟩
def D2D.CELLS_TX (p u : Nat) : Nat := ra p (0x58 + u) 0x4
def D2D.CELLS_RX (p u : Nat) : Nat := ra p (0x58 + u) 0x5
def D2D.CHECK_ERRS (p u : Nat) : Nat := ra p (0x58 + u) 0x6
def D2D.HOLD_MAX (p u : Nat) : Nat := ra p (0x58 + u) 0x7
def D2D.HOLD_MAX.NS : Fld := ⟨0, 32⟩

/-! Block SGW. -/

def SGW.CFG (p : Nat) : Nat := ra p 0x60 0x0
def SGW.CFG.MISS_ACTION : Fld := ⟨0, 1⟩
def SGW.CFG.PAD : Fld := ⟨1, 8⟩
def SGW.CFG.HASH_SEED : Fld := ⟨9, 16⟩
def SGW.CFG.TP_CLASS : Fld := ⟨25, 3⟩
def SGW.CFG.CTS_PKTS : Fld := ⟨28, 8⟩
def SGW.CFG.TP_EN : Fld := ⟨36, 1⟩
def SGW.QUEUES (p : Nat) : Nat := ra p 0x60 0x1
def SGW.QUEUES.FW_QUEUE : Fld := ⟨0, 14⟩
def SGW.QUEUES.MSG_QUEUE : Fld := ⟨16, 14⟩
def SGW.EVT (p : Nat) : Nat := ra p 0x60 0x2
def SGW.EVT.SEAL_FAIL : Fld := ⟨0, 1⟩
def SGW.EVT.SEAL_BLOCKED : Fld := ⟨1, 1⟩
def SGW.EVT.LATE : Fld := ⟨2, 1⟩
def SGW.EVT.REASM_ABORT : Fld := ⟨3, 1⟩
def SGW.EVT.TUN_GAP : Fld := ⟨4, 1⟩
def SGW.EVT.ECC_ERR : Fld := ⟨5, 1⟩
def SGW.EVT.REASM_FULL : Fld := ⟨6, 1⟩
def SGW.EVT.SEQ : Fld := ⟨16, 8⟩
def SGW.STAT (p : Nat) : Nat := ra p 0x60 0x3
def SGW.STAT.BEAM_ENTRIES : Fld := ⟨0, 17⟩
def SGW.STAT.CONTEXTS : Fld := ⟨17, 7⟩
def SGW.STAT.GRANULES_FREE : Fld := ⟨24, 9⟩
def SGW.LAST (p : Nat) : Nat := ra p 0x60 0x4
def SGW.LAST.TABLE : Fld := ⟨0, 8⟩
def SGW.LAST.INDEX : Fld := ⟨8, 18⟩
def SGW.LAST.ABORT_REASON : Fld := ⟨26, 8⟩
def SGW.LAST.ABORT_FACET : Fld := ⟨34, 6⟩
def SGW.BEAM_CMD (p : Nat) : Nat := ra p 0x60 0x8
def SGW.BEAM_CMD.OP : Fld := ⟨0, 3⟩
def SGW.BEAM_CMD.INDEX : Fld := ⟨3, 16⟩
def SGW.BEAM_CMD.RESULT : Fld := ⟨19, 3⟩
def SGW.BEAM_W (p i : Nat) : Nat := ra p 0x60 (0x9 + i)
def SGW.BEAM_W.WORD : Fld := ⟨0, 48⟩
def SGW.TBL_CMD (p : Nat) : Nat := ra p 0x60 0x10
def SGW.TBL_CMD.TABLE : Fld := ⟨0, 8⟩
def SGW.TBL_CMD.OP : Fld := ⟨8, 2⟩
def SGW.TBL_CMD.INDEX : Fld := ⟨10, 18⟩
def SGW.TBL_CMD.RESULT : Fld := ⟨28, 2⟩
def SGW.TBL_W (p i : Nat) : Nat := ra p 0x60 (0x11 + i)
def SGW.TBL_W.WORD : Fld := ⟨0, 48⟩
def SGW.SIG_CMD (p : Nat) : Nat := ra p 0x60 0x18
def SGW.SIG_CMD.INDEX : Fld := ⟨0, 18⟩
def SGW.SIG_CMD.OP : Fld := ⟨18, 2⟩
def SGW.SIG_CMD.RESULT : Fld := ⟨20, 2⟩
def SGW.SIG_VAL (p : Nat) : Nat := ra p 0x60 0x19
def SGW.SIG_VAL.VALUE : Fld := ⟨0, 48⟩
def SGW.SIG_TS (p : Nat) : Nat := ra p 0x60 0x1A
def SGW.SIG_TS.TS : Fld := ⟨0, 48⟩
def SGW.OWN_SA (p i : Nat) : Nat := ra p 0x60 (0x20 + i)
def SGW.OWN_SA.SA : Fld := ⟨0, 8⟩
def SGW.CNT (p i : Nat) : Nat := ra p 0x60 (0x100 + i)

/-! Block WBR. -/

def WBR.CFG (p : Nat) : Nat := ra p 0x61 0x0
def WBR.CFG.HOLD_NS : Fld := ⟨0, 11⟩
def WBR.CFG.LOCK_US : Fld := ⟨11, 7⟩
def WBR.AGENT (p : Nat) : Nat := ra p 0x61 0x1
def WBR.AGENT.EN : Fld := ⟨0, 1⟩
def WBR.AGENT.RIGHTS : Fld := ⟨1, 2⟩
def WBR.EVT (p : Nat) : Nat := ra p 0x61 0x2
def WBR.EVT.POST_ERR : Fld := ⟨0, 1⟩
def WBR.EVT.READ_TIMEOUT : Fld := ⟨1, 1⟩
def WBR.EVT.LOCK_LOST : Fld := ⟨2, 1⟩
def WBR.EVT.SEQ : Fld := ⟨16, 8⟩
def WBR.POST_ERR_ADDR (p : Nat) : Nat := ra p 0x61 0x3
def WBR.POST_ERR_ADDR.FAR : Fld := ⟨0, 38⟩
def WBR.POST_ERR_ADDR.CODE : Fld := ⟨38, 4⟩
def WBR.POST_ERR_INFO (p : Nat) : Nat := ra p 0x61 0x4
def WBR.POST_ERR_INFO.WINDOW : Fld := ⟨0, 8⟩
def WBR.POST_ERR_INFO.PART : Fld := ⟨8, 4⟩
def WBR.POST_ERR_INFO.LOCATION : Fld := ⟨12, 13⟩
def WBR.POST_ERR_INFO.LATER : Fld := ⟨25, 16⟩
def WBR.STAT (p : Nat) : Nat := ra p 0x61 0x5
def WBR.STAT.POSTED : Fld := ⟨0, 7⟩
def WBR.STAT.PENDING : Fld := ⟨7, 6⟩
def WBR.STAT.LOCKS : Fld := ⟨13, 9⟩
def WBR.STAT.AGENT_LOCKS : Fld := ⟨22, 9⟩
def WBR.CNT (p i : Nat) : Nat := ra p 0x61 (0x10 + i)
def WBR.WIN_A (p i : Nat) : Nat := ra p 0x61 (0x100 + 2 * i)
def WBR.WIN_A.FAR_BASE : Fld := ⟨0, 24⟩
def WBR.WIN_A.DEVICE : Fld := ⟨24, 14⟩
def WBR.WIN_A.REMOTE : Fld := ⟨38, 1⟩
def WBR.WIN_A.SIZE_LOG : Fld := ⟨39, 4⟩
def WBR.WIN_A.VALID : Fld := ⟨43, 1⟩
def WBR.WIN_B (p i : Nat) : Nat := ra p 0x61 (0x101 + 2 * i)
def WBR.WIN_B.PART_MASK : Fld := ⟨0, 16⟩
def WBR.WIN_B.WRITE : Fld := ⟨16, 1⟩
def WBR.WIN_B.LOCK : Fld := ⟨17, 1⟩
def WBR.WIN_B.TIMEOUT : Fld := ⟨18, 18⟩

/-! Block KEYS. -/

def KEYS.CFG (p : Nat) : Nat := ra p 0x68 0x0
def KEYS.CFG.RESILVER_MS : Fld := ⟨0, 14⟩
def KEYS.STAT (p : Nat) : Nat := ra p 0x68 0x1
def KEYS.STAT.ROOT_OK : Fld := ⟨0, 1⟩
def KEYS.STAT.ROOT_DESTROYED : Fld := ⟨1, 1⟩
def KEYS.STAT.PROV_DONE : Fld := ⟨2, 1⟩
def KEYS.STAT.RNG : Fld := ⟨3, 2⟩
def KEYS.STAT.LOADED : Fld := ⟨5, 11⟩
def KEYS.STAT.BAD : Fld := ⟨16, 11⟩
def KEYS.EVT (p : Nat) : Nat := ra p 0x68 0x2
def KEYS.EVT.UNWRAP_FAIL : Fld := ⟨0, 1⟩
def KEYS.EVT.POLICY_DENY : Fld := ⟨1, 1⟩
def KEYS.EVT.RNG_FAIL : Fld := ⟨2, 1⟩
def KEYS.EVT.RNG_STOP : Fld := ⟨3, 1⟩
def KEYS.EVT.TAMPER_SEEN : Fld := ⟨4, 1⟩
def KEYS.EVT.RESILVER_SKIP : Fld := ⟨5, 1⟩
def KEYS.EVT.OP_DONE : Fld := ⟨6, 1⟩
def KEYS.EVT.SEQ : Fld := ⟨16, 8⟩
def KEYS.LAST (p : Nat) : Nat := ra p 0x68 0x3
def KEYS.LAST.SLOT : Fld := ⟨0, 10⟩
def KEYS.LAST.WHAT : Fld := ⟨10, 2⟩
def KEYS.LAST.USER : Fld := ⟨12, 3⟩
def KEYS.LAST.PART : Fld := ⟨15, 4⟩
def KEYS.TAMPER (p : Nat) : Nat := ra p 0x68 0x4
def KEYS.TAMPER.ARM : Fld := ⟨0, 4⟩
def KEYS.TAMPER.SEEN : Fld := ⟨4, 4⟩
def KEYS.OP_CMD (p : Nat) : Nat := ra p 0x68 0x5
def KEYS.OP_CMD.OP : Fld := ⟨0, 4⟩
def KEYS.OP_CMD.TARGET : Fld := ⟨4, 10⟩
def KEYS.OP_CMD.SOURCE : Fld := ⟨14, 10⟩
def KEYS.OP_CMD.LEN : Fld := ⟨24, 7⟩
def KEYS.OP_CMD.RESULT : Fld := ⟨31, 4⟩
def KEYS.OP_CMD.OUT_LEN : Fld := ⟨35, 7⟩
def KEYS.OP_BUF (p i : Nat) : Nat := ra p 0x68 (0x6 + i)
def KEYS.OP_BUF.DATA : Fld := ⟨0, 48⟩
def KEYS.PROV_CMD (p : Nat) : Nat := ra p 0x68 0x18
def KEYS.PROV_CMD.OP : Fld := ⟨0, 3⟩
def KEYS.PROV_CMD.ARG : Fld := ⟨3, 16⟩
def KEYS.PROV_CMD.RESULT : Fld := ⟨19, 4⟩
def KEYS.PROV (p i : Nat) : Nat := ra p 0x68 (0x19 + i)
def KEYS.PROV.DATA : Fld := ⟨0, 48⟩
def KEYS.CNT (p i : Nat) : Nat := ra p 0x68 (0x100 + i)
def KEYS.POL (p i : Nat) : Nat := ra p 0x68 (0x1000 + i)
def KEYS.POL.KLEN : Fld := ⟨0, 1⟩
def KEYS.POL.USE : Fld := ⟨1, 8⟩
def KEYS.POL.DIR : Fld := ⟨9, 2⟩
def KEYS.POL.FILL : Fld := ⟨11, 4⟩
def KEYS.POL.EXPORT : Fld := ⟨15, 1⟩
def KEYS.POL.IV_EXT : Fld := ⟨16, 1⟩
def KEYS.POL.PRELOAD : Fld := ⟨17, 1⟩
def KEYS.POL.PART_MASK : Fld := ⟨32, 16⟩
def KEYS.SLOT (p i : Nat) : Nat := ra p 0x68 (0x1400 + i)
def KEYS.SLOT.STATE : Fld := ⟨0, 2⟩
def KEYS.SLOT.SOURCE : Fld := ⟨2, 3⟩
def KEYS.SLOT.USES : Fld := ⟨5, 24⟩

/-! Block CIPH. -/

def CIPH.EVT (p : Nat) : Nat := ra p 0x69 0x0
def CIPH.EVT.FAULT : Fld := ⟨0, 1⟩
def CIPH.EVT.FLOW_FAIL : Fld := ⟨1, 1⟩
def CIPH.EVT.JOB_DONE : Fld := ⟨2, 1⟩
def CIPH.EVT.SEQ : Fld := ⟨16, 8⟩
def CIPH.LAST (p : Nat) : Nat := ra p 0x69 0x1
def CIPH.LAST.UNIT : Fld := ⟨0, 2⟩
def CIPH.LAST.INDEX : Fld := ⟨2, 5⟩
def CIPH.JOB (p i : Nat) : Nat := ra p 0x69 (0x10 + 2 * i)
def CIPH.JOB.DESC : Fld := ⟨0, 40⟩
def CIPH.JOB.START : Fld := ⟨40, 1⟩
def CIPH.JOB_STAT (p i : Nat) : Nat := ra p 0x69 (0x11 + 2 * i)
def CIPH.JOB_STAT.RESULT : Fld := ⟨0, 4⟩
def CIPH.JOB_STAT.PART : Fld := ⟨4, 4⟩
def CIPH.FLOW (p i : Nat) : Nat := ra p 0x69 (0x40 + i)
def CIPH.FLOW.OP : Fld := ⟨0, 2⟩
def CIPH.FLOW.PROFILE : Fld := ⟨2, 12⟩
def CIPH.FLOW.NEXT_FACET : Fld := ⟨14, 8⟩
def CIPH.FLOW.NEXT_FLOW : Fld := ⟨22, 5⟩
def CIPH.CNT (p i : Nat) : Nat := ra p 0x69 (0x100 + i)

/-! Block MSEC. -/

def MSEC.PORT (p i : Nat) : Nat := ra p 0x6A (0x0 + i)
def MSEC.PORT.EN : Fld := ⟨0, 1⟩
def MSEC.PORT.SUITE : Fld := ⟨1, 2⟩
def MSEC.PORT.PROTECT : Fld := ⟨3, 1⟩
def MSEC.PORT.CONFIDENTIAL : Fld := ⟨4, 1⟩
def MSEC.PORT.INCLUDE_SCI : Fld := ⟨5, 1⟩
def MSEC.PORT.VALIDATE : Fld := ⟨6, 2⟩
def MSEC.PORT.REPLAY_PROTECT : Fld := ⟨8, 1⟩
def MSEC.PORT.PORT_ID : Fld := ⟨9, 16⟩
def MSEC.PORT.REPLAY_WINDOW : Fld := ⟨25, 23⟩
def MSEC.TXCTL (p i : Nat) : Nat := ra p 0x6A (0x10 + i)
def MSEC.TXCTL.TX_AN : Fld := ⟨0, 2⟩
def MSEC.SA_CMD (p : Nat) : Nat := ra p 0x6A 0x20
def MSEC.SA_CMD.INDEX : Fld := ⟨0, 9⟩
def MSEC.SA_CMD.SC : Fld := ⟨9, 1⟩
def MSEC.SA_CMD.OP : Fld := ⟨10, 2⟩
def MSEC.SA_CMD.RESULT : Fld := ⟨12, 2⟩
def MSEC.SA_W0 (p : Nat) : Nat := ra p 0x6A 0x21
def MSEC.SA_W0.WORD : Fld := ⟨0, 48⟩
def MSEC.SA_W1 (p : Nat) : Nat := ra p 0x6A 0x22
def MSEC.SA_W1.WORD : Fld := ⟨0, 48⟩
def MSEC.SA_W2 (p : Nat) : Nat := ra p 0x6A 0x23
def MSEC.SA_W2.WORD : Fld := ⟨0, 48⟩
def MSEC.SA_W3 (p : Nat) : Nat := ra p 0x6A 0x24
def MSEC.SA_W3.WORD : Fld := ⟨0, 48⟩
def MSEC.SA_W4 (p : Nat) : Nat := ra p 0x6A 0x25
def MSEC.SA_W4.WORD : Fld := ⟨0, 48⟩
def MSEC.EVT (p : Nat) : Nat := ra p 0x6A 0x30
def MSEC.EVT.PN_WARN : Fld := ⟨0, 1⟩
def MSEC.EVT.PN_STOP : Fld := ⟨1, 1⟩
def MSEC.EVT.ICV_FAIL : Fld := ⟨2, 1⟩
def MSEC.EVT.SEQ : Fld := ⟨16, 8⟩
def MSEC.LAST (p : Nat) : Nat := ra p 0x6A 0x31
def MSEC.LAST.FACET : Fld := ⟨0, 4⟩
def MSEC.LAST.SC : Fld := ⟨4, 4⟩
def MSEC.LAST.AN : Fld := ⟨8, 2⟩
def MSEC.PN_WARN (p : Nat) : Nat := ra p 0x6A 0x32
def MSEC.PN_WARN.THRESH : Fld := ⟨0, 32⟩
def MSEC.CNT (p i : Nat) : Nat := ra p 0x6A (0x100 + i)

/-! Block SEAL. -/

def SEAL.PROF_CMD (p : Nat) : Nat := ra p 0x6B 0x0
def SEAL.PROF_CMD.INDEX : Fld := ⟨0, 12⟩
def SEAL.PROF_CMD.OP : Fld := ⟨12, 2⟩
def SEAL.PROF_CMD.RESULT : Fld := ⟨14, 2⟩
def SEAL.PROF_W0 (p : Nat) : Nat := ra p 0x6B 0x1
def SEAL.PROF_W0.SLOT : Fld := ⟨0, 10⟩
def SEAL.PROF_W0.DIR : Fld := ⟨10, 1⟩
def SEAL.PROF_W0.VALID : Fld := ⟨11, 1⟩
def SEAL.PROF_W0.TAG_BYTES : Fld := ⟨12, 4⟩
def SEAL.PROF_W0.EPOCH_BITS : Fld := ⟨16, 5⟩
def SEAL.PROF_W0.CTR_BITS : Fld := ⟨21, 6⟩
def SEAL.PROF_W0.BEACON_EN : Fld := ⟨27, 1⟩
def SEAL.PROF_W1 (p : Nat) : Nat := ra p 0x6B 0x2
def SEAL.PROF_W1.DATA_ID : Fld := ⟨0, 32⟩
def SEAL.PROF_W1.BEACON_MS : Fld := ⟨32, 16⟩
def SEAL.PROF_W2 (p : Nat) : Nat := ra p 0x6B 0x3
def SEAL.PROF_W2.BEACON_ID : Fld := ⟨0, 29⟩
def SEAL.PROF_W2.BEACON_XTD : Fld := ⟨29, 1⟩
def SEAL.PROF_W2.BEACON_FMT : Fld := ⟨30, 2⟩
def SEAL.PROF_W2.BEACON_DEST : Fld := ⟨32, 16⟩
def SEAL.FV_CMD (p : Nat) : Nat := ra p 0x6B 0x4
def SEAL.FV_CMD.INDEX : Fld := ⟨0, 12⟩
def SEAL.FV_CMD.OP : Fld := ⟨12, 2⟩
def SEAL.FV_CMD.RESULT : Fld := ⟨14, 2⟩
def SEAL.FV_CMD.HAVE_REF : Fld := ⟨16, 1⟩
def SEAL.FV_W (p : Nat) : Nat := ra p 0x6B 0x5
def SEAL.FV_W.VALUE : Fld := ⟨0, 48⟩
def SEAL.EVT (p : Nat) : Nat := ra p 0x6B 0x6
def SEAL.EVT.FV_WARN : Fld := ⟨0, 1⟩
def SEAL.EVT.FV_STOP : Fld := ⟨1, 1⟩
def SEAL.EVT.REPLAY : Fld := ⟨2, 1⟩
def SEAL.EVT.NO_REF : Fld := ⟨3, 1⟩
def SEAL.EVT.SEQ : Fld := ⟨16, 8⟩
def SEAL.LAST (p : Nat) : Nat := ra p 0x6B 0x7
def SEAL.LAST.PROFILE : Fld := ⟨0, 12⟩
def SEAL.CNT (p i : Nat) : Nat := ra p 0x6B (0x100 + i)

/-! Block PAIR. -/

def PAIR.CFG (p : Nat) : Nat := ra p 0x70 0x0
def PAIR.CFG.EN : Fld := ⟨0, 1⟩
def PAIR.CFG.ROLE : Fld := ⟨1, 1⟩
def PAIR.CFG.AUTO_HANDOVER : Fld := ⟨2, 1⟩
def PAIR.CFG.PARTNER : Fld := ⟨16, 14⟩
def PAIR.CFG.LINK_FACET_0 : Fld := ⟨32, 8⟩
def PAIR.CFG.LINK_FACET_1 : Fld := ⟨40, 8⟩
def PAIR.WIT (p : Nat) : Nat := ra p 0x70 0x1
def PAIR.WIT.WIT_FACET : Fld := ⟨0, 8⟩
def PAIR.WIT.WIT_ID : Fld := ⟨8, 29⟩
def PAIR.WIT.WIT_MS : Fld := ⟨37, 7⟩
def PAIR.TIMING (p : Nat) : Nat := ra p 0x70 0x2
def PAIR.TIMING.LINK_LOSS_MS : Fld := ⟨0, 7⟩
def PAIR.TIMING.CLAIM_MS : Fld := ⟨7, 10⟩
def PAIR.TIMING.OVERLAP_US : Fld := ⟨17, 8⟩
def PAIR.TIMING.LEAD_US : Fld := ⟨25, 10⟩
def PAIR.CH (p i : Nat) : Nat := ra p 0x70 (0x3 + i)
def PAIR.CH.PAIRED : Fld := ⟨0, 28⟩
def PAIR.STAT (p : Nat) : Nat := ra p 0x70 0x8
def PAIR.STAT.STATE : Fld := ⟨0, 3⟩
def PAIR.STAT.OWNER : Fld := ⟨3, 1⟩
def PAIR.STAT.LINE : Fld := ⟨4, 1⟩
def PAIR.STAT.CLAIMING : Fld := ⟨5, 1⟩
def PAIR.STAT.HANDOVER : Fld := ⟨6, 1⟩
def PAIR.STAT.LINK_0 : Fld := ⟨7, 1⟩
def PAIR.STAT.LINK_1 : Fld := ⟨8, 1⟩
def PAIR.STAT.WITNESS : Fld := ⟨9, 1⟩
def PAIR.STAT.OFFSET_VALID : Fld := ⟨10, 1⟩
def PAIR.STAT.PARTNER_STATE : Fld := ⟨11, 3⟩
def PAIR.STAT.PARTNER_OWNER : Fld := ⟨14, 1⟩
def PAIR.STAT.NO_EPOCH : Fld := ⟨15, 1⟩
def PAIR.CMD (p : Nat) : Nat := ra p 0x70 0x9
def PAIR.CMD.HANDOVER : Fld := ⟨0, 1⟩
def PAIR.CMD.RESULT : Fld := ⟨1, 3⟩
def PAIR.EVT (p : Nat) : Nat := ra p 0x70 0xA
def PAIR.EVT.LINK_LOST : Fld := ⟨0, 1⟩
def PAIR.EVT.SPLIT : Fld := ⟨1, 1⟩
def PAIR.EVT.PARTNER_LOST : Fld := ⟨2, 1⟩
def PAIR.EVT.JOINED : Fld := ⟨3, 1⟩
def PAIR.EVT.OWNER_GAINED : Fld := ⟨4, 1⟩
def PAIR.EVT.OWNER_LOST : Fld := ⟨5, 1⟩
def PAIR.EVT.COLLISION : Fld := ⟨6, 1⟩
def PAIR.EVT.HANDOVER_FAIL : Fld := ⟨7, 1⟩
def PAIR.EVT.PATH_SILENT : Fld := ⟨8, 1⟩
def PAIR.EVT.ROGUE : Fld := ⟨9, 1⟩
def PAIR.EVT.ROLE_CONFLICT : Fld := ⟨10, 1⟩
def PAIR.EVT.SEQ : Fld := ⟨16, 8⟩
def PAIR.OFFSET (p : Nat) : Nat := ra p 0x70 0xB
def PAIR.OFFSET.OFFSET : Fld := ⟨0, 48⟩
def PAIR.SILENT_LAST (p : Nat) : Nat := ra p 0x70 0xC
def PAIR.SILENT_LAST.ENTRY : Fld := ⟨0, 10⟩
def PAIR.SILENT_LAST.PATH : Fld := ⟨10, 1⟩
def PAIR.TBL_CMD (p : Nat) : Nat := ra p 0x70 0x10
def PAIR.TBL_CMD.TABLE : Fld := ⟨0, 8⟩
def PAIR.TBL_CMD.OP : Fld := ⟨8, 2⟩
def PAIR.TBL_CMD.INDEX : Fld := ⟨10, 10⟩
def PAIR.TBL_CMD.RESULT : Fld := ⟨20, 2⟩
def PAIR.TBL_W (p i : Nat) : Nat := ra p 0x70 (0x11 + i)
def PAIR.TBL_W.WORD : Fld := ⟨0, 48⟩
def PAIR.CNT (p i : Nat) : Nat := ra p 0x70 (0x100 + i)

/-! Block WAKE. -/

def WAKE.CFG (p : Nat) : Nat := ra p 0x71 0x0
def WAKE.CFG.KA_PERIOD_MS : Fld := ⟨0, 10⟩
def WAKE.CFG.SILENCE_MS : Fld := ⟨10, 14⟩
def WAKE.CFG.MIN_AWAKE_MS : Fld := ⟨24, 14⟩
def WAKE.CFG.SLEEP_EN : Fld := ⟨38, 1⟩
def WAKE.CFG_B (p : Nat) : Nat := ra p 0x71 0x1
def WAKE.CFG_B.CONFIRM_MS : Fld := ⟨0, 14⟩
def WAKE.CFG_B.ROUND_MS : Fld := ⟨14, 8⟩
def WAKE.CFG_B.NOTICE_MS : Fld := ⟨22, 10⟩
def WAKE.CFG_B.TOKEN_LOST_MS : Fld := ⟨32, 10⟩
def WAKE.CFG_B.LIN_PULSE_US : Fld := ⟨42, 6⟩
def WAKE.ADM (p : Nat) : Nat := ra p 0x71 0x2
def WAKE.ADM.BUDGET_A : Fld := ⟨0, 8⟩
def WAKE.ADM.WINDOW_MS : Fld := ⟨8, 5⟩
def WAKE.ADM.SAG_PCT : Fld := ⟨13, 7⟩
def WAKE.ADM.PD_CLAIM : Fld := ⟨20, 8⟩
def WAKE.ADM.SLOT_MS : Fld := ⟨28, 4⟩
def WAKE.ADM.WAIT_WARN_MS : Fld := ⟨32, 10⟩
def WAKE.STAT (p : Nat) : Nat := ra p 0x71 0x3
def WAKE.STAT.PKG : Fld := ⟨0, 3⟩
def WAKE.STAT.ORIGIN : Fld := ⟨3, 1⟩
def WAKE.STAT.ROUND : Fld := ⟨4, 8⟩
def WAKE.STAT.CONSENT : Fld := ⟨12, 16⟩
def WAKE.STAT.PRESENT : Fld := ⟨28, 16⟩
def WAKE.EVT (p : Nat) : Nat := ra p 0x71 0x4
def WAKE.EVT.PKG_WAKE : Fld := ⟨0, 1⟩
def WAKE.EVT.PN_WAKE : Fld := ⟨1, 1⟩
def WAKE.EVT.PN_SLEEP : Fld := ⟨2, 1⟩
def WAKE.EVT.SLEEP_NOTICE : Fld := ⟨3, 1⟩
def WAKE.EVT.SLEEP_ABORT : Fld := ⟨4, 1⟩
def WAKE.EVT.INVALID : Fld := ⟨5, 1⟩
def WAKE.EVT.TOKEN_REGEN : Fld := ⟨6, 1⟩
def WAKE.EVT.ADM_SLOW : Fld := ⟨7, 1⟩
def WAKE.EVT.ADM_OVERSIZE : Fld := ⟨8, 1⟩
def WAKE.EVT.SEQ : Fld := ⟨16, 8⟩
def WAKE.CAUSE (p : Nat) : Nat := ra p 0x71 0x5
def WAKE.CAUSE.SRC : Fld := ⟨0, 6⟩
def WAKE.CAUSE.DIE : Fld := ⟨6, 2⟩
def WAKE.CAUSE.PKG_WAKE : Fld := ⟨8, 1⟩
def WAKE.CAUSE.SLEEP_S : Fld := ⟨9, 23⟩
def WAKE.CAUSE.VALID_STATE : Fld := ⟨32, 2⟩
def WAKE.CMD (p : Nat) : Nat := ra p 0x71 0x6
def WAKE.CMD.CONFIRM : Fld := ⟨0, 1⟩
def WAKE.ADM_STAT (p : Nat) : Nat := ra p 0x71 0x7
def WAKE.ADM_STAT.W : Fld := ⟨0, 9⟩
def WAKE.ADM_STAT.B : Fld := ⟨9, 8⟩
def WAKE.ADM_STAT.WAITING : Fld := ⟨17, 7⟩
def WAKE.ADM_STAT.SAG : Fld := ⟨24, 1⟩
def WAKE.PN_CFG (p i : Nat) : Nat := ra p 0x71 (0x10 + i)
def WAKE.PN_CFG.EN : Fld := ⟨0, 1⟩
def WAKE.PN_CFG.ETH_OFF : Fld := ⟨1, 1⟩
def WAKE.PN_CFG.FOREIGN : Fld := ⟨2, 1⟩
def WAKE.PN_CFG.TRAFFIC_WAKE : Fld := ⟨3, 1⟩
def WAKE.REQ (p i : Nat) : Nat := ra p 0x71 (0x20 + i)
def WAKE.REQ.PN : Fld := ⟨0, 16⟩
def WAKE.REQ.STAY : Fld := ⟨16, 1⟩
def WAKE.REQ_HOST (p : Nat) : Nat := ra p 0x71 0x30
def WAKE.REQ_HOST.PN : Fld := ⟨0, 16⟩
def WAKE.REQ_HOST.STAY : Fld := ⟨16, 1⟩
def WAKE.PN_KA (p i : Nat) : Nat := ra p 0x71 (0x40 + 2 * i)
def WAKE.PN_KA.ID : Fld := ⟨0, 29⟩
def WAKE.PN_KA.XTD : Fld := ⟨29, 1⟩
def WAKE.PN_KA_MASK (p i : Nat) : Nat := ra p 0x71 (0x41 + 2 * i)
def WAKE.PN_KA_MASK.MASK : Fld := ⟨0, 29⟩
def WAKE.PN_STAT (p i : Nat) : Nat := ra p 0x71 (0x60 + i)
def WAKE.PN_STAT.STATE : Fld := ⟨0, 2⟩
def WAKE.PN_STAT.LOCAL : Fld := ⟨2, 1⟩
def WAKE.PN_STAT.HELD : Fld := ⟨3, 1⟩
def WAKE.PN_STAT.SILENCE_MS : Fld := ⟨4, 14⟩
def WAKE.PN_STAT.LAST_KA : Fld := ⟨18, 8⟩
def WAKE.PN_MEMB_A (p i : Nat) : Nat := ra p 0x71 (0x200 + 2 * i)
def WAKE.PN_MEMB_A.ETH : Fld := ⟨0, 32⟩
def WAKE.PN_MEMB_B (p i : Nat) : Nat := ra p 0x71 (0x201 + 2 * i)
def WAKE.PN_MEMB_B.BUS : Fld := ⟨0, 24⟩
def WAKE.CNT (p i : Nat) : Nat := ra p 0x71 (0x100 + i)

/-! Block PLX. -/

def PLX.CFG (p : Nat) : Nat := ra p 0x72 0x0
def PLX.CFG.EN : Fld := ⟨0, 1⟩
def PLX.CFG.AUTH : Fld := ⟨1, 1⟩
def PLX.CFG.RELAY : Fld := ⟨2, 1⟩
def PLX.CFG.REMOTE_RIGHTS : Fld := ⟨3, 2⟩
def PLX.CFG.CLASS : Fld := ⟨5, 3⟩
def PLX.CFG.HOPS : Fld := ⟨8, 3⟩
def PLX.CFG.DOMAIN : Fld := ⟨16, 16⟩
def PLX.CFG.KEY_SLOT : Fld := ⟨32, 10⟩
def PLX.TIMING (p : Nat) : Nat := ra p 0x72 0x1
def PLX.TIMING.KA_MS : Fld := ⟨0, 16⟩
def PLX.TIMING.AGE_KA : Fld := ⟨16, 4⟩
def PLX.GROUP_MAC (p : Nat) : Nat := ra p 0x72 0x2
def PLX.GROUP_MAC.MAC : Fld := ⟨0, 48⟩
def PLX.CAN_KA (p : Nat) : Nat := ra p 0x72 0x3
def PLX.CAN_KA.ID : Fld := ⟨0, 29⟩
def PLX.CAN_KA.EN : Fld := ⟨29, 1⟩
def PLX.FACETS (p i : Nat) : Nat := ra p 0x72 (0x4 + i)
def PLX.FACETS.F : Fld := ⟨0, 32⟩
def PLX.STAT (p : Nat) : Nat := ra p 0x72 0x8
def PLX.STAT.ALONE : Fld := ⟨0, 1⟩
def PLX.STAT.MEMBERS : Fld := ⟨1, 15⟩
def PLX.STAT.DIGESTS : Fld := ⟨16, 5⟩
def PLX.STAT.OVERFLOW : Fld := ⟨21, 1⟩
def PLX.EVT (p : Nat) : Nat := ra p 0x72 0x9
def PLX.EVT.MISMATCH : Fld := ⟨0, 1⟩
def PLX.EVT.INCOMPAT : Fld := ⟨1, 1⟩
def PLX.EVT.DUP_ID : Fld := ⟨2, 1⟩
def PLX.EVT.CENSUS_FULL : Fld := ⟨3, 1⟩
def PLX.EVT.AUTH_FAIL : Fld := ⟨4, 1⟩
def PLX.EVT.REPLAY : Fld := ⟨5, 1⟩
def PLX.EVT.COMPAT_DROP : Fld := ⟨6, 1⟩
def PLX.EVT.NO_ROUTE : Fld := ⟨7, 1⟩
def PLX.EVT.SEQ : Fld := ⟨16, 8⟩
def PLX.LAST (p : Nat) : Nat := ra p 0x72 0xA
def PLX.LAST.DEVICE : Fld := ⟨0, 14⟩
def PLX.LAST.KIND : Fld := ⟨14, 4⟩
def PLX.LAST.FACET : Fld := ⟨18, 8⟩
def PLX.SERVE (p : Nat) : Nat := ra p 0x72 0xB
def PLX.SERVE.EN : Fld := ⟨0, 1⟩
def PLX.SERVE.BASE : Fld := ⟨1, 12⟩
def PLX.SERVE.WORDS : Fld := ⟨13, 32⟩
def PLX.SERVE_SERIAL (p : Nat) : Nat := ra p 0x72 0xC
def PLX.SERVE_SERIAL.SERIAL : Fld := ⟨0, 48⟩
def PLX.DT_CMD (p : Nat) : Nat := ra p 0x72 0xD
def PLX.DT_CMD.ID : Fld := ⟨0, 14⟩
def PLX.DT_CMD.OP : Fld := ⟨14, 2⟩
def PLX.DT_CMD.RESULT : Fld := ⟨16, 2⟩
def PLX.DT_W0 (p : Nat) : Nat := ra p 0x72 0xE
def PLX.DT_W0.SERIAL : Fld := ⟨0, 48⟩
def PLX.DT_W1 (p : Nat) : Nat := ra p 0x72 0xF
def PLX.DT_W1.MAC : Fld := ⟨0, 48⟩
def PLX.DT_W2 (p : Nat) : Nat := ra p 0x72 0x10
def PLX.DT_W2.FACET : Fld := ⟨0, 8⟩
def PLX.DT_W2.CENSUS : Fld := ⟨8, 4⟩
def PLX.DT_W2.HEARD : Fld := ⟨12, 1⟩
def PLX.DT_W2.AGE_S : Fld := ⟨13, 16⟩
def PLX.DT_W2.HOPS : Fld := ⟨29, 3⟩
def PLX.DT_W3 (p : Nat) : Nat := ra p 0x72 0x11
def PLX.DT_W3.RENEWAL : Fld := ⟨0, 16⟩
def PLX.DT_W3.EPOCH : Fld := ⟨16, 16⟩
def PLX.DT_W4 (p : Nat) : Nat := ra p 0x72 0x12
def PLX.DT_W4.SEQ : Fld := ⟨0, 32⟩
def PLX.CENSUS_A (p i : Nat) : Nat := ra p 0x72 (0x20 + 2 * i)
def PLX.CENSUS_A.DIGEST : Fld := ⟨0, 48⟩
def PLX.CENSUS_B (p i : Nat) : Nat := ra p 0x72 (0x21 + 2 * i)
def PLX.CENSUS_B.GEN : Fld := ⟨0, 16⟩
def PLX.CENSUS_B.COUNT : Fld := ⟨16, 15⟩
def PLX.CENSUS_B.VALID : Fld := ⟨31, 1⟩
def PLX.CENSUS_B.OWN : Fld := ⟨32, 1⟩
def PLX.CENSUS_B.COMPAT : Fld := ⟨33, 1⟩
def PLX.CNT (p i : Nat) : Nat := ra p 0x72 (0x100 + i)

/-! Block CPU. -/

def CPU.EVT (p : Nat) : Nat := ra p 0x78 0x0
def CPU.EVT.APR_DROP : Fld := ⟨0, 1⟩
def CPU.EVT.APR_CLAMP : Fld := ⟨1, 1⟩
def CPU.EVT.WDT : Fld := ⟨2, 1⟩
def CPU.EVT.HALT : Fld := ⟨3, 1⟩
def CPU.EVT.LOCKSTEP : Fld := ⟨4, 1⟩
def CPU.EVT.IRQ_OVERFLOW : Fld := ⟨5, 1⟩
def CPU.EVT.APR_ECC : Fld := ⟨6, 1⟩
def CPU.EVT.SEQ : Fld := ⟨16, 8⟩
def CPU.ALAST (p : Nat) : Nat := ra p 0x78 0x1
def CPU.ALAST.PART : Fld := ⟨0, 4⟩
def CPU.ALAST.ENTRY : Fld := ⟨4, 12⟩
def CPU.ALAST.KIND : Fld := ⟨16, 3⟩
def CPU.ALAST.REASON : Fld := ⟨19, 2⟩
def CPU.ALAST.TARGET : Fld := ⟨21, 24⟩
def CPU.WHOAMI (p : Nat) : Nat := ra p 0x78 0x2
def CPU.WHOAMI.PART : Fld := ⟨0, 4⟩
def CPU.WHOAMI.CORE : Fld := ⟨4, 3⟩
def CPU.WHOAMI.HART : Fld := ⟨7, 3⟩
def CPU.WHOAMI.VALID : Fld := ⟨10, 1⟩
def CPU.PCMD (p : Nat) : Nat := ra p 0x78 0x3
def CPU.PCMD.OP : Fld := ⟨0, 2⟩
def CPU.PCMD.TARGET : Fld := ⟨2, 4⟩
def CPU.PCMD.RESULT : Fld := ⟨6, 3⟩
def CPU.APR_RD (p : Nat) : Nat := ra p 0x78 0x4
def CPU.APR_RD.INDEX : Fld := ⟨0, 12⟩
def CPU.APR_RD.RESULT : Fld := ⟨12, 1⟩
def CPU.APR_W (p i : Nat) : Nat := ra p 0x78 (0x5 + i)
def CPU.APR_W.WORD : Fld := ⟨0, 48⟩
def CPU.SKICK (p : Nat) : Nat := ra p 0x78 0x9
def CPU.SKICK.NEXT : Fld := ⟨0, 16⟩
def CPU.SKICK.KEY : Fld := ⟨16, 16⟩
def CPU.SSTAT (p : Nat) : Nat := ra p 0x78 0xA
def CPU.SSTAT.RUNNING : Fld := ⟨0, 1⟩
def CPU.SSTAT.HALTED : Fld := ⟨1, 1⟩
def CPU.SSTAT.LEFT_MS : Fld := ⟨2, 14⟩
def CPU.PSTAT (p i : Nat) : Nat := ra p 0x78 (0x10 + i)
def CPU.PSTAT.STATE : Fld := ⟨0, 3⟩
def CPU.PSTAT.HARTS : Fld := ⟨3, 3⟩
def CPU.PSTAT.RESTARTS : Fld := ⟨6, 4⟩
def CPU.PSTAT.WDT_LEFT_MS : Fld := ⟨10, 16⟩
def CPU.PSTAT.CAUSE : Fld := ⟨26, 3⟩
def CPU.KICK (p i : Nat) : Nat := ra p 0x78 (0x20 + i)
def CPU.KICK.NEXT : Fld := ⟨0, 16⟩
def CPU.KICK.KEY : Fld := ⟨16, 16⟩
def CPU.IRQ_POP (p i : Nat) : Nat := ra p 0x78 (0x30 + i)
def CPU.IRQ_POP.VALID : Fld := ⟨0, 1⟩
def CPU.IRQ_POP.DIRECT : Fld := ⟨1, 1⟩
def CPU.IRQ_POP.CODE : Fld := ⟨2, 11⟩
def CPU.IRQ_POP.ARG : Fld := ⟨13, 16⟩
def CPU.IRQ_POP.OVERFLOW : Fld := ⟨29, 1⟩
def CPU.IRQ_POP.LEFT : Fld := ⟨30, 7⟩
def CPU.PFAULT (p i : Nat) : Nat := ra p 0x78 (0x40 + i)
def CPU.PFAULT.ADDR : Fld := ⟨0, 40⟩
def CPU.PFAULT.CODE : Fld := ⟨40, 4⟩
def CPU.TXR_A (p i : Nat) : Nat := ra p 0x78 (0x50 + 2 * i)
def CPU.TXR_A.BASE : Fld := ⟨0, 40⟩
def CPU.TXR_A.SIZE_LOG : Fld := ⟨40, 4⟩
def CPU.TXR_A.EN : Fld := ⟨44, 1⟩
def CPU.TXR_B (p i : Nat) : Nat := ra p 0x78 (0x51 + 2 * i)
def CPU.TXR_B.PROD : Fld := ⟨0, 12⟩
def CPU.TXR_B.CONS : Fld := ⟨12, 12⟩
def CPU.PDEF (p i : Nat) : Nat := ra p 0x78 (0x100 + i)
def CPU.PDEF.EN : Fld := ⟨0, 1⟩
def CPU.PDEF.SAFE : Fld := ⟨1, 1⟩
def CPU.PDEF.CONTROL : Fld := ⟨2, 1⟩
def CPU.PDEF.MGMT_READ : Fld := ⟨3, 1⟩
def CPU.PDEF.SIG_READ : Fld := ⟨4, 1⟩
def CPU.PDEF.SAFE_OPEN : Fld := ⟨5, 1⟩
def CPU.PDEF.NOMATCH_HALT : Fld := ⟨6, 1⟩
def CPU.PDEF.RESTART_MAX : Fld := ⟨7, 4⟩
def CPU.PENTRY (p i : Nat) : Nat := ra p 0x78 (0x110 + i)
def CPU.PENTRY.ENTRY : Fld := ⟨0, 40⟩
def CPU.MWIN (p i : Nat) : Nat := ra p 0x78 (0x200 + i)
def CPU.MWIN.BASE : Fld := ⟨0, 28⟩
def CPU.MWIN.SIZE : Fld := ⟨28, 17⟩
def CPU.MWIN.R : Fld := ⟨45, 1⟩
def CPU.MWIN.W : Fld := ⟨46, 1⟩
def CPU.MWIN.X : Fld := ⟨47, 1⟩
def CPU.SCHED (p i : Nat) : Nat := ra p 0x78 (0x300 + i)
def CPU.SCHED.PART : Fld := ⟨0, 4⟩
def CPU.SCHED.LEN : Fld := ⟨4, 16⟩
def CPU.SCHED.VALID : Fld := ⟨20, 1⟩
def CPU.CNT (p i : Nat) : Nat := ra p 0x78 (0x400 + i)
def CPU.IROUTE (p i : Nat) : Nat := ra p 0x78 (0x1000 + i)
def CPU.IROUTE.MASK : Fld := ⟨0, 16⟩

/-! Block APR. -/

def APR.STAT (p : Nat) : Nat := ra p 0x79 0x0
def APR.STAT.ENTRIES : Fld := ⟨0, 13⟩
def APR.CH (p i : Nat) : Nat := ra p 0x79 (0x100 + i)
def APR.CH.ON : Fld := ⟨0, 1⟩
def APR.CH.PART : Fld := ⟨1, 4⟩
def APR.CH.ENTRY : Fld := ⟨5, 12⟩
def APR.CH.ELAPSED_MS : Fld := ⟨17, 24⟩
def APR.CH.FORCED : Fld := ⟨41, 1⟩

/-! Block WDT. -/

def WDT.SAFE (p : Nat) : Nat := ra p 0x7A 0x0
def WDT.SAFE.TIMEOUT_MS : Fld := ⟨0, 14⟩
def WDT.SAFE.WIN_MS : Fld := ⟨14, 14⟩
def WDT.SAFE.FIRST_MS : Fld := ⟨28, 14⟩
def WDT.P (p i : Nat) : Nat := ra p 0x7A (0x10 + i)
def WDT.P.TIMEOUT_MS : Fld := ⟨0, 16⟩
def WDT.P.WIN_MS : Fld := ⟨16, 16⟩
def WDT.P.ACTION : Fld := ⟨32, 1⟩
def WDT.P.FIRST_MS : Fld := ⟨33, 14⟩

/-! Block LOUPE. -/

def LOUPE.EVT (p : Nat) : Nat := ra p 0x80 0x0
def LOUPE.EVT.THRESH : Fld := ⟨0, 1⟩
def LOUPE.EVT.SEQ : Fld := ⟨16, 8⟩
def LOUPE.LAST (p : Nat) : Nat := ra p 0x80 0x1
def LOUPE.LAST.MON : Fld := ⟨0, 8⟩
def LOUPE.SNAP_CMD (p : Nat) : Nat := ra p 0x80 0x2
def LOUPE.SNAP_CMD.MON : Fld := ⟨0, 8⟩
def LOUPE.SNAP_CMD.BANK : Fld := ⟨8, 2⟩
def LOUPE.SNAP_CMD.OP : Fld := ⟨10, 2⟩
def LOUPE.SNAP_CMD.RESULT : Fld := ⟨12, 1⟩
def LOUPE.FEED_ARG (p : Nat) : Nat := ra p 0x80 0x3
def LOUPE.FEED_ARG.ARG : Fld := ⟨0, 16⟩
def LOUPE.FEED_VAL (p : Nat) : Nat := ra p 0x80 0x4
def LOUPE.FEED_VAL.VALUE : Fld := ⟨0, 48⟩
def LOUPE.MCFG_A (p i : Nat) : Nat := ra p 0x80 (0x100 + 4 * i)
def LOUPE.MCFG_A.SRC : Fld := ⟨0, 10⟩
def LOUPE.MCFG_A.ARG : Fld := ⟨10, 16⟩
def LOUPE.MCFG_A.LOG : Fld := ⟨26, 1⟩
def LOUPE.MCFG_A.SIGNED : Fld := ⟨27, 1⟩
def LOUPE.MCFG_A.EN : Fld := ⟨28, 1⟩
def LOUPE.MCFG_A.THR_EN : Fld := ⟨29, 1⟩
def LOUPE.MCFG_A.THR_DIR : Fld := ⟨30, 1⟩
def LOUPE.MCFG_A.TRIG : Fld := ⟨31, 1⟩
def LOUPE.MCFG_B (p i : Nat) : Nat := ra p 0x80 (0x101 + 4 * i)
def LOUPE.MCFG_B.BASE : Fld := ⟨0, 48⟩
def LOUPE.MCFG_C (p i : Nat) : Nat := ra p 0x80 (0x102 + 4 * i)
def LOUPE.MCFG_C.WIDTH : Fld := ⟨0, 32⟩
def LOUPE.MCFG_D (p i : Nat) : Nat := ra p 0x80 (0x103 + 4 * i)
def LOUPE.MCFG_D.THRESH : Fld := ⟨0, 48⟩
def LOUPE.SNAP_HDR (p i : Nat) : Nat := ra p 0x80 (0x1000 + 256 * i)
def LOUPE.SNAP_HDR.MON : Fld := ⟨0, 8⟩
def LOUPE.SNAP_HDR.SEQ : Fld := ⟨8, 16⟩
def LOUPE.SNAP_HDR.NO_SAMPLE : Fld := ⟨24, 1⟩
def LOUPE.SNAP_HDR.SUM_SAT : Fld := ⟨25, 1⟩
def LOUPE.SNAP_HDR.SIGNED : Fld := ⟨26, 1⟩
def LOUPE.SNAP_HDR.LOG : Fld := ⟨27, 1⟩
def LOUPE.SNAP_HDR.VALID : Fld := ⟨28, 1⟩
def LOUPE.SNAP_HDR.SRC : Fld := ⟨29, 10⟩
def LOUPE.SNAP_MIN (p i : Nat) : Nat := ra p 0x80 (0x1001 + 256 * i)
def LOUPE.SNAP_MIN.V : Fld := ⟨0, 48⟩
def LOUPE.SNAP_MAX (p i : Nat) : Nat := ra p 0x80 (0x1002 + 256 * i)
def LOUPE.SNAP_MAX.V : Fld := ⟨0, 48⟩
def LOUPE.SNAP_COUNT (p i : Nat) : Nat := ra p 0x80 (0x1003 + 256 * i)
def LOUPE.SNAP_COUNT.V : Fld := ⟨0, 48⟩
def LOUPE.SNAP_SUM (p i : Nat) : Nat := ra p 0x80 (0x1004 + 256 * i)
def LOUPE.SNAP_SUM.V : Fld := ⟨0, 48⟩
def LOUPE.SNAP_UNDER (p i : Nat) : Nat := ra p 0x80 (0x1005 + 256 * i)
def LOUPE.SNAP_UNDER.V : Fld := ⟨0, 48⟩
def LOUPE.SNAP_OVER (p i : Nat) : Nat := ra p 0x80 (0x1006 + 256 * i)
def LOUPE.SNAP_OVER.V : Fld := ⟨0, 48⟩
def LOUPE.SNAP_SKIPPED (p i : Nat) : Nat := ra p 0x80 (0x1007 + 256 * i)
def LOUPE.SNAP_SKIPPED.V : Fld := ⟨0, 48⟩
def LOUPE.SNAP_T_SNAP (p i : Nat) : Nat := ra p 0x80 (0x1008 + 256 * i)
def LOUPE.SNAP_T_SNAP.V : Fld := ⟨0, 48⟩
def LOUPE.SNAP_T_FROM (p i : Nat) : Nat := ra p 0x80 (0x1009 + 256 * i)
def LOUPE.SNAP_T_FROM.V : Fld := ⟨0, 48⟩
def LOUPE.SNAP_BIN0 (p i : Nat) : Nat := ra p 0x80 (0x1010 + i)
def LOUPE.SNAP_BIN0.V : Fld := ⟨0, 48⟩
def LOUPE.SNAP_BIN1 (p i : Nat) : Nat := ra p 0x80 (0x1110 + i)
def LOUPE.SNAP_BIN1.V : Fld := ⟨0, 48⟩
def LOUPE.SNAP_BIN2 (p i : Nat) : Nat := ra p 0x80 (0x1210 + i)
def LOUPE.SNAP_BIN2.V : Fld := ⟨0, 48⟩
def LOUPE.SNAP_BIN3 (p i : Nat) : Nat := ra p 0x80 (0x1310 + i)
def LOUPE.SNAP_BIN3.V : Fld := ⟨0, 48⟩

/-! Block PSCP. -/

def PSCP.CFG (p : Nat) : Nat := ra p 0x81 0x0
def PSCP.CFG.MODE : Fld := ⟨0, 1⟩
def PSCP.CFG.FULL_ACTION : Fld := ⟨1, 1⟩
def PSCP.CFG.FLUSH_MS : Fld := ⟨2, 10⟩
def PSCP.RING (p : Nat) : Nat := ra p 0x81 0x1
def PSCP.RING.BASE : Fld := ⟨0, 18⟩
def PSCP.RING.SIZE : Fld := ⟨18, 18⟩
def PSCP.NVME (p : Nat) : Nat := ra p 0x81 0x2
def PSCP.NVME.NSID : Fld := ⟨0, 32⟩
def PSCP.NS_OFFSET (p : Nat) : Nat := ra p 0x81 0x3
def PSCP.NS_OFFSET.LBA : Fld := ⟨0, 48⟩
def PSCP.TRIG (p : Nat) : Nat := ra p 0x81 0x4
def PSCP.TRIG.PRE_MB : Fld := ⟨0, 20⟩
def PSCP.TRIG.POST_MS : Fld := ⟨20, 16⟩
def PSCP.STAT (p : Nat) : Nat := ra p 0x81 0x5
def PSCP.STAT.STATE : Fld := ⟨0, 4⟩
def PSCP.STAT.REASON : Fld := ⟨4, 2⟩
def PSCP.STAT.WIDTH : Fld := ⟨6, 3⟩
def PSCP.STAT.SPEED : Fld := ⟨9, 3⟩
def PSCP.STAT.EPISODES : Fld := ⟨12, 5⟩
def PSCP.WPTR (p : Nat) : Nat := ra p 0x81 0x6
def PSCP.WPTR.ADDR : Fld := ⟨0, 48⟩
def PSCP.EVT (p : Nat) : Nat := ra p 0x81 0x7
def PSCP.EVT.REC_ERR : Fld := ⟨0, 1⟩
def PSCP.EVT.EPISODE_DONE : Fld := ⟨1, 1⟩
def PSCP.EVT.RING_FULL : Fld := ⟨2, 1⟩
def PSCP.EVT.SB_LOST : Fld := ⟨3, 1⟩
def PSCP.EVT.SEQ : Fld := ⟨16, 8⟩
def PSCP.CMD (p : Nat) : Nat := ra p 0x81 0x8
def PSCP.CMD.TRIGGER : Fld := ⟨0, 1⟩
def PSCP.CMD.RESTART : Fld := ⟨1, 1⟩
def PSCP.CMD.RELEASE : Fld := ⟨2, 1⟩
def PSCP.CMD.EPI : Fld := ⟨3, 4⟩
def PSCP.LAST_ERR (p : Nat) : Nat := ra p 0x81 0x9
def PSCP.LAST_ERR.KIND : Fld := ⟨0, 4⟩
def PSCP.LAST_ERR.STATUS : Fld := ⟨4, 15⟩
def PSCP.EPI_A (p i : Nat) : Nat := ra p 0x81 (0x10 + 4 * i)
def PSCP.EPI_A.START : Fld := ⟨0, 48⟩
def PSCP.EPI_B (p i : Nat) : Nat := ra p 0x81 (0x11 + 4 * i)
def PSCP.EPI_B.TRIG : Fld := ⟨0, 48⟩
def PSCP.EPI_C (p i : Nat) : Nat := ra p 0x81 (0x12 + 4 * i)
def PSCP.EPI_C.END_ : Fld := ⟨0, 48⟩
def PSCP.EPI_D (p i : Nat) : Nat := ra p 0x81 (0x13 + 4 * i)
def PSCP.EPI_D.VALID : Fld := ⟨0, 1⟩
def PSCP.EPI_D.CLOSED : Fld := ⟨1, 1⟩
def PSCP.EPI_D.TRUNC : Fld := ⟨2, 1⟩
def PSCP.EPI_D.SOURCE : Fld := ⟨3, 3⟩
def PSCP.SEL_A (p i : Nat) : Nat := ra p 0x81 (0x80 + 2 * i)
def PSCP.SEL_A.KIND : Fld := ⟨0, 3⟩
def PSCP.SEL_A.KEY : Fld := ⟨3, 14⟩
def PSCP.SEL_A.DEST : Fld := ⟨17, 2⟩
def PSCP.SEL_A.TRIG : Fld := ⟨19, 1⟩
def PSCP.SEL_A.SNAP : Fld := ⟨20, 14⟩
def PSCP.SEL_B (p i : Nat) : Nat := ra p 0x81 (0x81 + 2 * i)
def PSCP.SEL_B.ANA_QUEUE : Fld := ⟨0, 16⟩
def PSCP.SEL_B.REC_CLASS : Fld := ⟨16, 3⟩
def PSCP.SEL_B.REC_FLOW : Fld := ⟨19, 5⟩
def PSCP.RD_CMD (p : Nat) : Nat := ra p 0x81 0x100
def PSCP.RD_CMD.LEN : Fld := ⟨0, 21⟩
def PSCP.RD_CMD.MEM : Fld := ⟨21, 1⟩
def PSCP.RD_CMD.START : Fld := ⟨22, 1⟩
def PSCP.RD_CMD.RESULT : Fld := ⟨23, 3⟩
def PSCP.RD_ADDR (p : Nat) : Nat := ra p 0x81 0x101
def PSCP.RD_ADDR.ADDR : Fld := ⟨0, 48⟩
def PSCP.RD_MEM (p : Nat) : Nat := ra p 0x81 0x102
def PSCP.RD_MEM.ADDR : Fld := ⟨0, 40⟩
def PSCP.RD_BUF (p i : Nat) : Nat := ra p 0x81 (0x140 + i)
def PSCP.RD_BUF.WORD : Fld := ⟨0, 48⟩
def PSCP.CNT (p i : Nat) : Nat := ra p 0x81 (0x200 + i)

/-! Block TIME. -/

def TIME.NOW (p : Nat) : Nat := ra p 0x82 0x0
def TIME.NOW.TIME : Fld := ⟨0, 48⟩
def TIME.RATE (p : Nat) : Nat := ra p 0x82 0x1
def TIME.RATE.ADJ : Fld := ⟨0, 32⟩
def TIME.STEP (p : Nat) : Nat := ra p 0x82 0x2
def TIME.STEP.OFFSET : Fld := ⟨0, 48⟩
def TIME.SYNC (p : Nat) : Nat := ra p 0x82 0x3
def TIME.SYNC.OFFSET : Fld := ⟨0, 16⟩
def TIME.SYNC.LOCKED : Fld := ⟨16, 1⟩
def TIME.PTP_SEC (p : Nat) : Nat := ra p 0x82 0x4
def TIME.PTP_SEC.SEC : Fld := ⟨0, 48⟩
def TIME.PTP_NS (p : Nat) : Nat := ra p 0x82 0x5
def TIME.PTP_NS.NS : Fld := ⟨0, 30⟩
def TIME.PTP_REF (p : Nat) : Nat := ra p 0x82 0x6
def TIME.PTP_REF.TIME : Fld := ⟨0, 48⟩
def TIME.CTRL (p : Nat) : Nat := ra p 0x82 0x7
def TIME.CTRL.COMMIT : Fld := ⟨0, 1⟩
def TIME.CTRL.PPS_EN : Fld := ⟨1, 1⟩
def TIME.CTRL.CAP_FALL : Fld := ⟨2, 1⟩
def TIME.CTRL.MAPPED : Fld := ⟨3, 1⟩
def TIME.CAP (p : Nat) : Nat := ra p 0x82 0x8
def TIME.CAP.TIME : Fld := ⟨0, 48⟩
def TIME.EVT (p : Nat) : Nat := ra p 0x82 0x9
def TIME.EVT.STEPPED : Fld := ⟨0, 1⟩
def TIME.EVT.SYNC_LOST : Fld := ⟨1, 1⟩
def TIME.EVT.CAP : Fld := ⟨2, 1⟩
def TIME.EVT.SEQ : Fld := ⟨16, 8⟩
def TIME.PTP_NOW_SEC (p : Nat) : Nat := ra p 0x82 0xA
def TIME.PTP_NOW_SEC.SEC : Fld := ⟨0, 48⟩
def TIME.PTP_NOW_NS (p : Nat) : Nat := ra p 0x82 0xB
def TIME.PTP_NOW_NS.NS : Fld := ⟨0, 30⟩

/-! Block DEVD. -/

def DEVD.ID (d : Nat) : Nat := ra (4 + d) 0x00 0x0
def DEVD.ID.KIND : Fld := ⟨0, 1⟩
def DEVD.ID.DIE : Fld := ⟨1, 2⟩
def DEVD.ID.REV : Fld := ⟨4, 4⟩
def DEVD.ID.FAMILY : Fld := ⟨8, 16⟩
def DEVD.SERIAL (d : Nat) : Nat := ra (4 + d) 0x00 0x1
def DEVD.SERIAL.SERIAL : Fld := ⟨0, 48⟩
def DEVD.BUILD (d : Nat) : Nat := ra (4 + d) 0x00 0x2
def DEVD.BUILD.L : Fld := ⟨0, 3⟩
def DEVD.BUILD.D : Fld := ⟨4, 3⟩
def DEVD.LOCK (d : Nat) : Nat := ra (4 + d) 0x00 0x3
def DEVD.LOCK.APPLIED : Fld := ⟨0, 1⟩
def DEVD.LOCK.COUNT : Fld := ⟨16, 16⟩

/-! Block SUP. -/

def SUP.THRESH (d : Nat) : Nat := ra (4 + d) 0x01 0x1
def SUP.THRESH.SAG_TH : Fld := ⟨0, 9⟩
def SUP.THRESH.RESET_TH : Fld := ⟨16, 9⟩
def SUP.VBAT (d : Nat) : Nat := ra (4 + d) 0x01 0x2
def SUP.VBAT.NOW : Fld := ⟨0, 16⟩
def SUP.VBAT.MIN : Fld := ⟨16, 16⟩
def SUP.VBAT.MAX : Fld := ⟨32, 16⟩
def SUP.CTRL (d : Nat) : Nat := ra (4 + d) 0x01 0x3
def SUP.CTRL.MINMAX_CLR : Fld := ⟨0, 1⟩
def SUP.EVT (d : Nat) : Nat := ra (4 + d) 0x01 0x4
def SUP.EVT.SAG : Fld := ⟨0, 1⟩
def SUP.EVT.SAG_END : Fld := ⟨1, 1⟩
def SUP.EVT.OV_WARN : Fld := ⟨2, 1⟩
def SUP.EVT.OV_OPEN : Fld := ⟨3, 1⟩
def SUP.EVT.OV_END : Fld := ⟨4, 1⟩
def SUP.EVT.PG_LOST : Fld := ⟨5, 1⟩
def SUP.EVT.SLOW_EDGE_LOST : Fld := ⟨6, 1⟩
def SUP.EVT.SAG_NOW : Fld := ⟨8, 1⟩
def SUP.EVT.OV_NOW : Fld := ⟨9, 1⟩
def SUP.EVT.SEQ : Fld := ⟨16, 8⟩
def SUP.SEQ_STAT (d : Nat) : Nat := ra (4 + d) 0x01 0x5
def SUP.SEQ_STAT.STAGE : Fld := ⟨0, 3⟩
def SUP.SEQ_STAT.ATTEMPT : Fld := ⟨3, 2⟩
def SUP.SEQ_STAT.LATCH : Fld := ⟨5, 1⟩
def SUP.SEQ_STAT.MEM_USED : Fld := ⟨6, 1⟩
def SUP.SEQ_STAT.T_CORE : Fld := ⟨8, 8⟩
def SUP.SEQ_STAT.T_IO : Fld := ⟨16, 8⟩
def SUP.SEQ_STAT.T_MEM : Fld := ⟨24, 8⟩

/-! Block FUSE. -/

def FUSE.CFG (d : Nat) : Nat := ra (4 + d) 0x02 0x1
def FUSE.CFG.HB_TIMEOUT : Fld := ⟨0, 8⟩
def FUSE.CFG.MEM_USED : Fld := ⟨8, 1⟩
def FUSE.OSC (d : Nat) : Nat := ra (4 + d) 0x02 0x2
def FUSE.OSC.SLOW_TRIM : Fld := ⟨0, 8⟩
def FUSE.OSC.RC_TRIM : Fld := ⟨8, 8⟩
def FUSE.OSC.VTH_TRIM : Fld := ⟨16, 8⟩
def FUSE.TEMP (d : Nat) : Nat := ra (4 + d) 0x02 0x3
def FUSE.TEMP.CASE_A_OFS : Fld := ⟨0, 8⟩
def FUSE.TEMP.CASE_B_OFS : Fld := ⟨8, 8⟩
def FUSE.PINST (d : Nat) : Nat := ra (4 + d) 0x02 0x4
def FUSE.PINST.S : Fld := ⟨0, 36⟩
def FUSE.PMAP (d i : Nat) : Nat := ra (4 + d) 0x02 (0x8 + i)
def FUSE.PMAP.VALID : Fld := ⟨0, 1⟩
def FUSE.PMAP.CHANNEL : Fld := ⟨1, 5⟩
def FUSE.PMAP.INPUT : Fld := ⟨6, 5⟩
def FUSE.PMAP.INVERT : Fld := ⟨11, 1⟩
def FUSE.PMAP.TH : Fld := ⟨12, 2⟩
def FUSE.PMAP.WET : Fld := ⟨14, 1⟩
def FUSE.PMAP.PEAK : Fld := ⟨15, 9⟩
def FUSE.PMAP.RAMP : Fld := ⟨24, 7⟩
def FUSE.PMAP.RETRIES : Fld := ⟨31, 3⟩
def FUSE.ISENSE (d i : Nat) : Nat := ra (4 + d) 0x02 (0x10 + i)
def FUSE.ISENSE.OFS25 : Fld := ⟨0, 12⟩
def FUSE.ISENSE.GAIN25 : Fld := ⟨12, 12⟩
def FUSE.ISENSE.OFS85 : Fld := ⟨24, 12⟩
def FUSE.ISENSE.GAIN85 : Fld := ⟨36, 12⟩

/-! Block CHN. -/

def CHN.CFG (d u : Nat) : Nat := ra (4 + d) (0x08 + u) 0x0
def CHN.CFG.PEAK : Fld := ⟨0, 9⟩
def CHN.CFG.RAMP : Fld := ⟨9, 7⟩
def CHN.CFG.RETRIES : Fld := ⟨16, 3⟩
def CHN.CFG.LIMIT_MS : Fld := ⟨19, 7⟩
def CHN.CFG.PWM_HZ : Fld := ⟨26, 15⟩
def CHN.CFG.OFF_DIAG : Fld := ⟨41, 1⟩
def CHN.CFG_B (d u : Nat) : Nat := ra (4 + d) (0x08 + u) 0x1
def CHN.CFG_B.DT_MAX : Fld := ⟨0, 7⟩
def CHN.CFG_B.BUDGET_MJ : Fld := ⟨7, 11⟩
def CHN.CFG_B.REFILL_MW : Fld := ⟨18, 6⟩
def CHN.CFG_B.OPEN_ON_MA : Fld := ⟨24, 12⟩
def CHN.CFG_B.SHUNT_UOHM : Fld := ⟨36, 12⟩
def CHN.CMD (d u : Nat) : Nat := ra (4 + d) (0x08 + u) 0x2
def CHN.CMD.OUT : Fld := ⟨0, 2⟩
def CHN.CMD.DUTY : Fld := ⟨2, 10⟩
def CHN.CTRL (d u : Nat) : Nat := ra (4 + d) (0x08 + u) 0x3
def CHN.CTRL.CLEAR_FAULT : Fld := ⟨0, 1⟩
def CHN.CTRL.UNLOCK : Fld := ⟨1, 1⟩
def CHN.CTRL.SELFTEST : Fld := ⟨2, 1⟩
def CHN.CTRL.CAL : Fld := ⟨3, 1⟩
def CHN.CTRL.CAL_REF_MA : Fld := ⟨4, 24⟩
def CHN.STAT (d u : Nat) : Nat := ra (4 + d) (0x08 + u) 0x4
def CHN.STAT.STATE : Fld := ⟨0, 3⟩
def CHN.STAT.LATCH : Fld := ⟨3, 2⟩
def CHN.STAT.GUARDED : Fld := ⟨5, 1⟩
def CHN.STAT.HELD : Fld := ⟨6, 2⟩
def CHN.STAT.CMD_SRC : Fld := ⟨8, 5⟩
def CHN.STAT.RETRY_K : Fld := ⟨13, 3⟩
def CHN.STAT.IN_LIMIT : Fld := ⟨16, 1⟩
def CHN.STAT.OPEN_LOAD : Fld := ⟨17, 1⟩
def CHN.STAT.SELFTEST : Fld := ⟨18, 2⟩
def CHN.STAT.OUT_ON : Fld := ⟨20, 1⟩
def CHN.STAT.LATCHES : Fld := ⟨21, 3⟩
def CHN.MEAS (d u : Nat) : Nat := ra (4 + d) (0x08 + u) 0x5
def CHN.MEAS.I : Fld := ⟨0, 24⟩
def CHN.MEAS.TJ : Fld := ⟨24, 12⟩
def CHN.MEAS.DT : Fld := ⟨36, 8⟩
def CHN.CLAMP (d u : Nat) : Nat := ra (4 + d) (0x08 + u) 0x6
def CHN.CLAMP.LEVEL : Fld := ⟨0, 24⟩
def CHN.CLAMP.LAST : Fld := ⟨24, 24⟩
def CHN.CAL (d u : Nat) : Nat := ra (4 + d) (0x08 + u) 0x7
def CHN.CAL.VALID : Fld := ⟨0, 1⟩
def CHN.CAL.FACTORY_NOW : Fld := ⟨1, 1⟩
def CHN.CAL.I_CAL_MA : Fld := ⟨2, 24⟩
def CHN.CAL.T_CAL : Fld := ⟨26, 12⟩
def CHN.CAL.RESULT : Fld := ⟨38, 2⟩
def CHN.EVT (d u : Nat) : Nat := ra (4 + d) (0x08 + u) 0x8
def CHN.EVT.DT_TRIP : Fld := ⟨0, 1⟩
def CHN.EVT.GUARD_WARN : Fld := ⟨1, 1⟩
def CHN.EVT.GUARD_TRIP : Fld := ⟨2, 1⟩
def CHN.EVT.HARD_TRIP : Fld := ⟨3, 1⟩
def CHN.EVT.SHORT : Fld := ⟨4, 1⟩
def CHN.EVT.SHORT_LATCH : Fld := ⟨5, 1⟩
def CHN.EVT.CLAMP_LOCK : Fld := ⟨6, 1⟩
def CHN.EVT.OPEN_LOAD : Fld := ⟨7, 1⟩
def CHN.EVT.SELFTEST_FAIL : Fld := ⟨8, 1⟩
def CHN.EVT.CAL_DONE : Fld := ⟨9, 1⟩
def CHN.EVT.SEQ : Fld := ⟨16, 8⟩
def CHN.CNT (d u i : Nat) : Nat := ra (4 + d) (0x08 + u) (0x100 + i)

/-! Block IN. -/

def IN.CFG (d i : Nat) : Nat := ra (4 + d) 0x28 (0x0 + i)
def IN.CFG.EN : Fld := ⟨0, 1⟩
def IN.CFG.TH_HI : Fld := ⟨1, 10⟩
def IN.CFG.TH_LO : Fld := ⟨11, 10⟩
def IN.CFG.FILT_MS : Fld := ⟨21, 6⟩
def IN.CFG.WET : Fld := ⟨27, 5⟩
def IN.CFG.WET_DOWN : Fld := ⟨32, 1⟩
def IN.CFG.WET_PULSED : Fld := ⟨33, 1⟩
def IN.CFG.PERIOD : Fld := ⟨34, 3⟩
def IN.VAL (d i : Nat) : Nat := ra (4 + d) 0x28 (0x20 + i)
def IN.VAL.V : Fld := ⟨0, 16⟩
def IN.VAL.STATE : Fld := ⟨16, 1⟩
def IN.STATE (d : Nat) : Nat := ra (4 + d) 0x28 0x40
def IN.STATE.S : Fld := ⟨0, 24⟩
def IN.EVT (d : Nat) : Nat := ra (4 + d) 0x28 0x41
def IN.EVT.CHANGE : Fld := ⟨0, 1⟩
def IN.EVT.WET_FAULT : Fld := ⟨1, 1⟩
def IN.EVT.SEQ : Fld := ⟨16, 8⟩
def IN.LAST (d : Nat) : Nat := ra (4 + d) 0x28 0x42
def IN.LAST.INPUT : Fld := ⟨0, 5⟩
def IN.LAST.DIR : Fld := ⟨5, 1⟩

/-! Block PIN. -/

def PIN.MAP (d i : Nat) : Nat := ra (4 + d) 0x29 (0x1 + i)
def PIN.MAP.VALID : Fld := ⟨0, 1⟩
def PIN.MAP.CHANNEL : Fld := ⟨1, 5⟩
def PIN.MAP.INPUT : Fld := ⟨6, 5⟩
def PIN.MAP.INVERT : Fld := ⟨11, 1⟩
def PIN.MAP.TH : Fld := ⟨12, 2⟩
def PIN.MAP.WET : Fld := ⟨14, 1⟩
def PIN.MAP.PEAK : Fld := ⟨15, 9⟩
def PIN.MAP.RAMP : Fld := ⟨24, 7⟩
def PIN.MAP.RETRIES : Fld := ⟨31, 3⟩
def PIN.STAT (d : Nat) : Nat := ra (4 + d) 0x29 0x9
def PIN.STAT.ACTIVE : Fld := ⟨0, 1⟩
def PIN.STAT.CAUSE : Fld := ⟨1, 3⟩
def PIN.STAT.LIMP_LOW : Fld := ⟨4, 1⟩
def PIN.STAT.HB_OK_MS : Fld := ⟨5, 11⟩
def PIN.STAT.HOLD : Fld := ⟨16, 1⟩
def PIN.STAT.ENTRIES : Fld := ⟨17, 16⟩
def PIN.CMD (d : Nat) : Nat := ra (4 + d) 0x29 0xA
def PIN.CMD.ACK : Fld := ⟨0, 1⟩
def PIN.EVT (d : Nat) : Nat := ra (4 + d) 0x29 0xB
def PIN.EVT.ENTERED : Fld := ⟨0, 1⟩
def PIN.EVT.EXITED : Fld := ⟨1, 1⟩
def PIN.EVT.ACK_REFUSED : Fld := ⟨2, 1⟩
def PIN.EVT.SEQ : Fld := ⟨16, 8⟩

/-! Block THM. -/

def THM.CASE (d : Nat) : Nat := ra (4 + d) 0x2A 0x0
def THM.CASE.A : Fld := ⟨0, 12⟩
def THM.CASE.B : Fld := ⟨12, 12⟩
def THM.CASE.VALID : Fld := ⟨24, 1⟩
def THM.STAT (d : Nat) : Nat := ra (4 + d) 0x2A 0x1
def THM.STAT.DIE_GUARDED : Fld := ⟨0, 1⟩
def THM.STAT.GUARD_LEFT_MS : Fld := ⟨1, 10⟩
def THM.STAT.POWER : Fld := ⟨11, 12⟩
def THM.STAT.DIE_POWER_NOW : Fld := ⟨23, 1⟩
def THM.EVT (d : Nat) : Nat := ra (4 + d) 0x2A 0x2
def THM.EVT.CASE_FAULT : Fld := ⟨0, 1⟩
def THM.EVT.DIE_POWER : Fld := ⟨1, 1⟩
def THM.EVT.LOGIC_HOT : Fld := ⟨2, 1⟩
def THM.EVT.GUARD_END : Fld := ⟨3, 1⟩
def THM.EVT.SEQ : Fld := ⟨16, 8⟩

/-! Block XCVR. -/

def XCVR.CAN_MODE (d : Nat) : Nat := ra (4 + d) 0x2B 0x1
def XCVR.CAN_MODE.MODE : Fld := ⟨0, 16⟩
def XCVR.LIN_CFG (d : Nat) : Nat := ra (4 + d) 0x2B 0x2
def XCVR.LIN_CFG.J0_MODE : Fld := ⟨0, 2⟩
def XCVR.LIN_CFG.J0_PULLUP : Fld := ⟨2, 1⟩
def XCVR.LIN_CFG.J0_LOW_SLOPE : Fld := ⟨3, 1⟩
def XCVR.LIN_CFG.J1_MODE : Fld := ⟨4, 2⟩
def XCVR.LIN_CFG.J1_PULLUP : Fld := ⟨6, 1⟩
def XCVR.LIN_CFG.J1_LOW_SLOPE : Fld := ⟨7, 1⟩
def XCVR.LIN_CFG.J2_MODE : Fld := ⟨8, 2⟩
def XCVR.LIN_CFG.J2_PULLUP : Fld := ⟨10, 1⟩
def XCVR.LIN_CFG.J2_LOW_SLOPE : Fld := ⟨11, 1⟩
def XCVR.LIN_CFG.J3_MODE : Fld := ⟨12, 2⟩
def XCVR.LIN_CFG.J3_PULLUP : Fld := ⟨14, 1⟩
def XCVR.LIN_CFG.J3_LOW_SLOPE : Fld := ⟨15, 1⟩
def XCVR.STAT (d : Nat) : Nat := ra (4 + d) 0x2B 0x3
def XCVR.STAT.CAN : Fld := ⟨0, 16⟩
def XCVR.STAT.LIN : Fld := ⟨16, 8⟩
def XCVR.EVT (d : Nat) : Nat := ra (4 + d) 0x2B 0x4
def XCVR.EVT.TXD_TIMEOUT : Fld := ⟨0, 1⟩
def XCVR.EVT.BUS_DOM : Fld := ⟨1, 1⟩
def XCVR.EVT.LIN_TXD_TIMEOUT : Fld := ⟨2, 1⟩
def XCVR.EVT.THERMAL : Fld := ⟨3, 1⟩
def XCVR.EVT.LIN_SUP_HIGH : Fld := ⟨4, 1⟩
def XCVR.EVT.SEQ : Fld := ⟨16, 8⟩
def XCVR.LAST (d : Nat) : Nat := ra (4 + d) 0x2B 0x5
def XCVR.LAST.UNIT : Fld := ⟨0, 4⟩

/-! Block WKP. -/

def WKP.SRC_EN (d : Nat) : Nat := ra (4 + d) 0x2C 0x1
def WKP.SRC_EN.SRC : Fld := ⟨0, 40⟩
def WKP.NO_DISARM (d : Nat) : Nat := ra (4 + d) 0x2C 0x2
def WKP.NO_DISARM.SRC : Fld := ⟨0, 40⟩
def WKP.XCVR_WAKE (d : Nat) : Nat := ra (4 + d) 0x2C 0x3
def WKP.XCVR_WAKE.CAN : Fld := ⟨0, 16⟩
def WKP.XCVR_WAKE.CAN_FILT : Fld := ⟨16, 4⟩
def WKP.XCVR_WAKE.LIN_FILT : Fld := ⟨20, 4⟩
def WKP.XCVR_WAKE.LIN_DOM : Fld := ⟨24, 8⟩
def WKP.XCVR_WAKE.ERR_LIMIT : Fld := ⟨32, 5⟩
def WKP.WUF_A_ID (d : Nat) : Nat := ra (4 + d) 0x2C 0x4
def WKP.WUF_A_ID.ID : Fld := ⟨0, 29⟩
def WKP.WUF_A_ID.XTD : Fld := ⟨29, 1⟩
def WKP.WUF_A_ID.DLC : Fld := ⟨30, 4⟩
def WKP.WUF_A_ID.RATE : Fld := ⟨34, 2⟩
def WKP.WUF_A_ID.DATA_EN : Fld := ⟨36, 1⟩
def WKP.WUF_A_ID.FD_PASSIVE : Fld := ⟨37, 1⟩
def WKP.WUF_A_MASK (d : Nat) : Nat := ra (4 + d) 0x2C 0x5
def WKP.WUF_A_MASK.MASK : Fld := ⟨0, 29⟩
def WKP.WUF_A_DATA_L (d : Nat) : Nat := ra (4 + d) 0x2C 0x6
def WKP.WUF_A_DATA_L.DATA : Fld := ⟨0, 48⟩
def WKP.WUF_A_DATA_H (d : Nat) : Nat := ra (4 + d) 0x2C 0x7
def WKP.WUF_A_DATA_H.DATA : Fld := ⟨0, 16⟩
def WKP.WUF_B_ID (d : Nat) : Nat := ra (4 + d) 0x2C 0x8
def WKP.WUF_B_ID.ID : Fld := ⟨0, 29⟩
def WKP.WUF_B_ID.XTD : Fld := ⟨29, 1⟩
def WKP.WUF_B_ID.DLC : Fld := ⟨30, 4⟩
def WKP.WUF_B_ID.RATE : Fld := ⟨34, 2⟩
def WKP.WUF_B_ID.DATA_EN : Fld := ⟨36, 1⟩
def WKP.WUF_B_ID.FD_PASSIVE : Fld := ⟨37, 1⟩
def WKP.WUF_B_MASK (d : Nat) : Nat := ra (4 + d) 0x2C 0x9
def WKP.WUF_B_MASK.MASK : Fld := ⟨0, 29⟩
def WKP.WUF_B_DATA_L (d : Nat) : Nat := ra (4 + d) 0x2C 0xA
def WKP.WUF_B_DATA_L.DATA : Fld := ⟨0, 48⟩
def WKP.WUF_B_DATA_H (d : Nat) : Nat := ra (4 + d) 0x2C 0xB
def WKP.WUF_B_DATA_H.DATA : Fld := ⟨0, 16⟩
def WKP.IN_TH (d : Nat) : Nat := ra (4 + d) 0x2C 0xC
def WKP.IN_TH.TH : Fld := ⟨0, 48⟩
def WKP.IN_POL (d : Nat) : Nat := ra (4 + d) 0x2C 0xD
def WKP.IN_POL.POL : Fld := ⟨0, 24⟩
def WKP.IN_POL.WET : Fld := ⟨24, 24⟩
def WKP.PIN_CFG (d : Nat) : Nat := ra (4 + d) 0x2C 0xE
def WKP.PIN_CFG.TH0 : Fld := ⟨0, 2⟩
def WKP.PIN_CFG.POL0 : Fld := ⟨2, 1⟩
def WKP.PIN_CFG.TH1 : Fld := ⟨3, 2⟩
def WKP.PIN_CFG.POL1 : Fld := ⟨5, 1⟩
def WKP.PIN_CFG.PIN_FILT_MS : Fld := ⟨6, 6⟩
def WKP.TIMER (d : Nat) : Nat := ra (4 + d) 0x2C 0xF
def WKP.TIMER.SECONDS : Fld := ⟨0, 16⟩
def WKP.START (d : Nat) : Nat := ra (4 + d) 0x2C 0x10
def WKP.START.START_TH : Fld := ⟨0, 9⟩
def WKP.START.JITTER_MS : Fld := ⟨9, 6⟩
def WKP.START.REG_CLAIM : Fld := ⟨15, 8⟩
def WKP.CAUSE (d : Nat) : Nat := ra (4 + d) 0x2C 0x11
def WKP.CAUSE.SRC : Fld := ⟨0, 6⟩
def WKP.CAUSE.DIE : Fld := ⟨6, 2⟩
def WKP.CAUSE.VALID : Fld := ⟨8, 1⟩
def WKP.EVT (d : Nat) : Nat := ra (4 + d) 0x2C 0x12
def WKP.EVT.WAKE : Fld := ⟨0, 1⟩
def WKP.EVT.FAILSAFE : Fld := ⟨1, 1⟩
def WKP.EVT.DISARMED : Fld := ⟨2, 1⟩
def WKP.EVT.REARMED : Fld := ⟨3, 1⟩
def WKP.EVT.START_LOW : Fld := ⟨4, 1⟩
def WKP.EVT.SEQ : Fld := ⟨16, 8⟩
def WKP.DISARMED (d : Nat) : Nat := ra (4 + d) 0x2C 0x13
def WKP.DISARMED.SRC : Fld := ⟨0, 40⟩
def WKP.CMD (d : Nat) : Nat := ra (4 + d) 0x2C 0x14
def WKP.CMD.REARM : Fld := ⟨0, 1⟩
def WKP.FALSE (d i : Nat) : Nat := ra (4 + d) 0x2C (0x15 + i)
def WKP.FALSE.N : Fld := ⟨0, 48⟩
def WKP.SEEN (d : Nat) : Nat := ra (4 + d) 0x2C 0x19
def WKP.SEEN.SRC : Fld := ⟨0, 40⟩

end Sys2Proof.Machine
end

