-- ==== Sys2Proof/Machine/State.lean ====
section
/-! DEFINITION. The state of the device: every piece of state the spec gives it, as plain data, the state after reset,
and the reasons a step can stop. -/

namespace Sys2Proof.Machine

/-! ## Identity and fuses (R4, R75, R189, R778, R779) -/

/-- What the fuses of the package hold. The build and the serial are free data of the part; State.reset names a
value (log entry 3). words holds the fused bits of the registers that show fuses, by address: as shipped, a heartbeat timeout
of 100 ms on every drive die, and MEM_USED on drive die 0 (R778); sharesGone says, by
Prism die, that tamper has destroyed the root-key shares (R513). -/
structure Fuses where
  prisms : Nat := 4
  drives : Nat := 4
  serial : Nat := 1
  rev : Nat := 0
  memUsed : Bool := true
  epochInit : Bool := false
  provDone : Bool := false
  sharesGone : Bool := false
  words : Sparse Word := [(8404993, 0x10A), (10502145, 0x00A), (12599297, 0x00A), (14696449, 0x00A)]
  deriving DecidableEq, Repr

/-! ## Supply, start-up and reset (02_start_supply_reset.md) -/

/-- The stage of the regulator sequencer, SUP.SEQ_STAT.STAGE (R97). -/
inductive Stage where
  | off | core | io | mem | ready | between | latched
  deriving DecidableEq, Repr

/-- The regulator sequencer of drive die 0 (R63 to R68): stage, attempt (the current attempt − 1, R97), failed attempts
of the series (R88), the enables, the measured times of R97, of each stage enable its claim in A with its edge (R593), the edge of the last failure, and
the edge of t0, at which the regulators became ready (R65, R91). -/
structure Sequencer where
  stage : Stage := .off
  attempt : Nat := 0
  enCore : Bool := false
  enIo : Bool := false
  enMem : Bool := false
  tCore : Nat := 255
  tIo : Nat := 255
  tMem : Nat := 255
  claims : List (Nat × Nat) := []
  failed : Nat := 0
  lastFail : Option Nat := none
  t0 : Nat := 0
  deriving DecidableEq, Repr

/-- One drive die's supply (R58): its always-on island runs, its channel-control island runs, its fuses are loaded (R76, R77), VBAT at
the last edge with its extremes (units of 10 mV, R94), at drive die 0 whether VBAT has been released from reset (R58), the filtered
conditions, whether the die runs on a substitute edge, and whether its Prism heartbeat timeout has expired (R81, R426). -/
structure Supply where
  alive : Bool := false
  chanOn : Bool := false
  fuses : Bool := false
  vbat : Nat := 0
  vmin : Nat := 0
  vmax : Nat := 0
  good : Bool := false
  sag : Bool := false
  ovWarn : Bool := false
  ovOpen : Bool := false
  subst : Bool := false
  hbLost : Bool := false
  deriving DecidableEq, Repr

/-- One Prism die's supply and temperature conditions (R44, R82, R83, R38): VCORE in mV with its minimum, the droop
condition, the thermal warning, whether its sensor has not yet read below 110 °C in a thermal hold, the substitute
edge, the ranks of the attached drive links that are detected lost, and of those that show no transition but are not detected lost
yet (R38, R782). -/
structure PrismSupply where
  vcore : Nat := 0
  vcoreMin : Nat := 65535
  droop : Bool := false
  hot : Bool := false
  subst : Bool := false
  lostRank : List Nat := []
  cutRank : List Nat := []
  deriving DecidableEq, Repr

/-- The start sequence (R77): step 0 with the regulators not yet sequenced (steps 1 to 5), 6 to 9 as R77 numbers them,
10 while steps 10 to 13 run, 15 in service; which concurrent steps are done; the holds of R82 and R83; whether
the heartbeat runs (R81); whether service was entered since the last reset (R88); the edges of the last
reset recorded and of the first one since service (R85). -/
structure Start where
  step : Nat := 0
  epochDone : Bool := false
  canDone : Bool := false
  ethDone : Bool := false
  fwDone : Bool := false
  pinLow : Bool := false
  thermHold : Bool := false
  heartbeat : Bool := false
  served : Bool := false
  lastDetect : Option Nat := none
  firstDetect : Option Nat := none
  deriving DecidableEq, Repr

/-- The clock source in use (RSTC.STRAP.CLK_ACTIVE, R89). -/
inductive ClockSource where
  | crystal | reference | internal
  deriving DecidableEq, Repr

/-- The strap balls (R69, R73), the source in use, and internal-only mode (R71, R72). -/
structure Clock where
  bootPins : Nat := 0
  clkPins : Nat := 0
  source : ClockSource := .internal
  internalOnly : Bool := false
  deriving DecidableEq, Repr

/-! ## Registers and Eyepiece (04_registers_eyepiece.md) -/

/-- The agent behind an access: the host on the SPI path or on the Eyepiece Ethernet path, a hart of partition part
of a Prism die (with its core and hart numbers), a remote device of the domain, the image loader, or the device. -/
inductive Agent where
  | spi
  | eth
  | fw (die part core hart : Nat)
  | remote (dev : Nat)
  | image
  | device
  deriving DecidableEq, Repr

/-- Reply codes of R175. -/
inductive Code where
  | ok | retry | rejectedEnabled | locked | parity | busy | noSuch | denied | timeout | remoteError | badFrame | badValue
  deriving DecidableEq, Repr

/-- A posted write in progress in one slow-domain block (R155): register address, value and source. -/
structure Posted where
  addr : Nat := 0
  value : Word := 0
  agent : Agent := .device
  deriving DecidableEq, Repr

/-- What a pending entry waits for or holds (R161): the slow fetch since an edge, a remote answer under a request tag since an
edge, the flash, or its result with the edge at which it completed. -/
inductive PendState where
  | fetch (since : Nat)
  | remote (tag since : Nat)
  | flash
  | ready (code : Code) (data : List Byte) (since : Nat)
  deriving DecidableEq, Repr

/-- A pending entry of an Eyepiece path (R161): opcode, 40-bit address, DATA or LEN, and its state. -/
structure Pend where
  opcode : Nat := 0
  addr : Nat := 0
  data : Nat := 0
  st : PendState := .flash
  deriving DecidableEq, Repr

/-- An Eyepiece path. -/
inductive Path where
  | spi | eth
  deriving DecidableEq, Repr

/-- A hidden parity upset (R150, R151): the damaged lanes of a register, and whether it has been counted. -/
structure Upset where
  lanes : Nat := 0
  counted : Bool := false
  deriving DecidableEq, Repr

/-- An interrupt raised on a Prism die and not yet in a FIFO (R683): routed on a line, or directed to a partition. -/
inductive Irq where
  | line (l : Nat)
  | direct (part kind arg : Nat)
  deriving DecidableEq, Repr

/-! ## Image loader and flash (03_falold_image.md) -/

/-- IMG.STAT.LOADER (R132). -/
inductive Loader where
  | before | headers | auth | distributing | streaming | done | holdBad | holdPeer | holdHost
  deriving DecidableEq, Repr

/-- A flash command in progress (R173): erase, program with the bytes to write, or read. -/
inductive FlashOp where
  | none
  | erase (addr : Nat)
  | program (addr : Nat) (bytes : List Byte)
  | read (addr : Nat) (len : Nat)
  deriving DecidableEq, Repr

/-- A record of the epoch area (R120), with the sector and position it stands at. -/
structure EpochRec where
  sector : Nat := 0
  pos : Nat := 0
  renewal : Nat := 0
  floor : Nat := 0
  epoch : Nat := 0
  prefer : Nat := 0
  deriving DecidableEq, Repr

/-- One directory entry of the loaded image (R103). -/
structure Section where
  type : Nat := 0
  target : Nat := 0
  common : Bool := false
  partition : Nat := 0
  offset : Nat := 0
  length : Nat := 0
  deriving DecidableEq, Repr

/-- The pull of an image from a peer (R706): its fast lane, the image's words, the next chunk to ask for, and of each chunk asked
for and not answered its index, the edge of the last request and the repeats. -/
structure Pull where
  facet : Nat := 0
  total : Nat := 0
  next : Nat := 0
  asked : List (Nat × Nat × Nat) := []
  deriving DecidableEq, Repr

/-- The loader: its state; whether the image key has been unwrapped or not (R107) and the epoch area read (R121), and whether the
flash answered then; the slots examined in step 8 (R111); the slot taken (0 A, 1 B, 2 received), its directory, the FIRMWARE
sections still to stream and the partitions (16 p + k) of which one has failed (R116, R117); the words received by host or network
boot with the next index, the announced length and whether an image load is open (R128, R172); the pull from a peer and the edge of the
last image request (R128); the BLK_CTRL addresses whose enables wait for steps 11 and 12 (R114); the IMG.CMD command in progress (R137), the sector being erased in the background (R125), and the flash
command in progress (R173). -/
structure LoaderState where
  st : Loader := .before
  keyTried : Bool := false
  epochRead : Bool := false
  flashAnswers : Bool := true
  examined : List Nat := []
  slot : Nat := 0
  dir : List Section := []
  fwLeft : List Nat := []
  fwBad : List Nat := []
  rxWords : Sparse Word := []
  rxNext : Nat := 0
  rxTotal : Nat := 0
  rxOpen : Bool := false
  pull : Option Pull := none
  asked : Option Nat := none
  deferred : List Nat := []
  cmdBusy : Option (Nat × Nat) := none
  erasing : Option Nat := none
  flashOp : FlashOp := .none
  deriving DecidableEq, Repr

/-! ## Frames, fabric and queues (05_prism_fabric.md, 06_queues_buffers.md) -/

/-- What a recorder copy carries for its record (R722, R732): the selector, its capture limit (0: whole frame), whether it
is a departure copy, and the queue it left. -/
structure Copy where
  sel : Nat := 0
  snap : Nat := 0
  egress : Bool := false
  queue : Nat := 0
  time : Nat := 0
  deriving DecidableEq, Repr

/-- A frame inside the device, with what its cell headers carry (R196): KIND (0 unicast, 1 multicast, 2 mirror copy),
class, flow group, DEST (a global queue number, or a replication index for KIND 1), the global ingress facet, HOP, the
receive timestamp, the frame number FID, whether it entered as cut-through, ABORT, the far die of a replication's link
copy (R225), the record data of a recorder copy, whether it has the form of a bus frame, with an Eyepiece frame STATUS [11:0] at the
receipt of its FCS (R783), and its bytes: an Ethernet frame with its one tag and four FCS bytes
(R298), or a bus frame in its controller's form (R393). -/
structure Frame where
  kind : Nat := 0
  cls : Nat := 0
  flow : Nat := 0
  dest : Nat := 0
  src : Nat := 0
  hop : Bool := false
  ts : Nat := 0
  fid : Nat := 0
  cut : Bool := false
  abort : Bool := false
  link : Option Nat := none
  copy : Option Copy := none
  bus : Bool := false
  attn : Nat := 0
  data : List Byte := []
  deriving DecidableEq, Repr

/-- A frame in the receive buffer of an ingress facet: the class it is accounted in there (R362), whether its egress is
decided (R295), the stream filter it matched (R317), how many of its cells have arrived (die-to-die facets), the die time of its first
request, for a link copy the number of the frame whose cells it shares where one was admitted before it (R225), and for a frame of a transmit ring its partition with whether its aperture has passed it
(R671, R672). -/
structure RxFrame where
  fr : Frame := {}
  bufCls : Nat := 0
  looked : Bool := false
  filt : Option Nat := none
  got : Nat := 0
  since : Option Nat := none
  id : Option Nat := none
  ring : Option (Nat × Bool) := none
  deriving DecidableEq, Repr

/-- A frame that has been admitted and not entered whole (R202): the number its references carry, its cells, those that
have arrived and those that have entered, its local members, and the slow-clock edge of its admission (R234). -/
structure Admitted where
  id : Nat := 0
  fr : Frame := {}
  cells : Nat := 0
  got : Nat := 0
  entered : Nat := 0
  members : Nat := 0
  since : Nat := 0
  deriving DecidableEq, Repr

/-- The hold and drain of one class at one ingress facet, the slow-clock edge at which the hold began, and whether the drain episode has
been reported (R213 to R215, R241). -/
structure Hold where
  held : Bool := false
  drain : Bool := false
  since : Nat := 0
  told : Bool := false
  deriving DecidableEq, Repr

/-- A reference to a frame in an egress queue with its charge (R256): the frame's number, its cells, the cells charged to
the queue's minimum, the shared pool and the through reserve, whether its LAST cell has been written (R252), and the die time at which
its FIRST cell was (R292). -/
structure Ref where
  id : Nat := 0
  fr : Frame := {}
  cells : Nat := 0
  minC : Nat := 0
  shC : Nat := 0
  resC : Nat := 0
  done : Bool := false
  wrote : Nat := 0
  deriving DecidableEq, Repr

/-- An egress queue: references oldest first, the SRAM cells ahead of the spilled cells, the spilled cells that follow
them (R268), whether spilling is held back (R270), the round-robin deficit in bytes (R261), and the die time since which the oldest
reference stands at the head (R439). -/
structure Queue where
  refs : List Ref := []
  head : Nat := 0
  spilled : Nat := 0
  full : Bool := false
  deficit : Nat := 0
  headAt : Nat := 0
  deriving DecidableEq, Repr

/-- A consumer port: the words of the frame being read that are left, and the last word read (R276, R277). -/
structure Port where
  words : List Word := []
  last : Word := 0
  deriving DecidableEq, Repr

/-- Where the round robin of a facet and class stands: the flow group, and whether its visit has begun (R261). -/
structure Robin where
  cur : Nat := 0
  begun : Bool := false
  deriving DecidableEq, Repr

/-- A flush in progress: target, scope and the frames removed (R265, R284). -/
structure Flush where
  target : Nat := 0
  scope : Nat := 0
  removed : Nat := 0
  deriving DecidableEq, Repr

/-- The link state of one die-to-die facet (R222, R247): the credits this die holds for the far die's buffer by class,
whether credits have been exchanged, the frame of each class being sent with the cells sent, the classes a cell of which waits for
credit, with the die time since when, the credit units freed here and not yet returned, and the notices on their way (R308). -/
structure D2dLink where
  up : Bool := false
  credit : List Nat := [0, 0, 0, 0, 0, 0, 0, 0]
  sending : List (Nat × Frame × Nat) := []
  noCredit : List (Nat × Nat) := []
  back : List Nat := [0, 0, 0, 0, 0, 0, 0, 0]
  notices : List (Bool × Nat × Nat × Nat) := []
  deriving DecidableEq, Repr

/-! ## Lookup, policing, gates (07_lookup_policing.md) -/

/-- A token bucket: its level in millionths of a byte and the die time of its last refill (R312, R320). -/
structure Bucket where
  level : Nat := 0
  last : Nat := 0
  deriving DecidableEq, Repr

/-- A credit-based shaper: its credit in millionths of a bit and the die time of its last update (R322). -/
structure Shaper where
  credit : Int := 0
  last : Nat := 0
  deriving DecidableEq, Repr

/-- The gates of a facet (R323 to R326): the gates now, the entry in force and when the cycle of the list began, the
operating cycle time and base time, and the time of a pending change. GCL_STAT holds the rest. -/
structure Gates where
  gates : Nat := 255
  pos : Nat := 0
  began : Nat := 0
  cycle : Nat := 0
  base : Nat := 0
  changeAt : Nat := 0
  deriving DecidableEq, Repr

/-- A table DMA job at work (R328): its operation, table and first entry, the entries left to move, its address in memory and the
partition it acts for, its result, the entries it has moved and the index it will report. -/
structure TdmaJob where
  op : Nat := 0
  table : Nat := 0
  first : Nat := 0
  left : Nat := 0
  mem : Option Nat := none
  part : Nat := 0
  result : Nat := 2
  moved : Nat := 0
  index : Nat := 0
  deriving DecidableEq, Repr

/-- A sequence recovery entry at work (R558, R561): whether a number is held, the highest or last passed number, the
numbers passed within the history, the die time of the last pass; and for the silence sweep the arrivals last seen on
each path with the sweep count at their last change, and the paths reported silent. -/
structure Recovery where
  live : Bool := false
  high : Nat := 0
  seen : List Nat := []
  last : Nat := 0
  seenA : Nat := 0
  seenB : Nat := 0
  ageA : Nat := 0
  ageB : Nat := 0
  toldA : Bool := false
  toldB : Bool := false
  deriving DecidableEq, Repr

/-! ## Ethernet facets (08_ethernet_facets.md) -/

/-- A pause of one class by the partner for one priority, 8 for every one (R366, R367): it ends at die time stop; the class is paused
without a break since. -/
structure Pause where
  stop : Nat := 0
  since : Nat := 0
  prio : Nat := 8
  deriving DecidableEq, Repr

/-- An entry of the egress timestamp FIFO (R375). -/
structure TxStamp where
  time : Nat := 0
  seqId : Nat := 0
  msgType : Nat := 0
  domain : Nat := 0
  deriving DecidableEq, Repr

/-- An Ethernet facet (R350 to R375): raw status with the edge of its last change, the lane's own part of it and the Ezsor handshake,
reported link, faults, auto-negotiation, FEC lock, PLCA status; the frames that the transmit opportunity of PLCA still allows and the
die time at which the last one in it ended; the frame whose transmission has begun; pauses by class; the classes held off at the
partner by their own cells, and whether all lossless ones are by the total; overrides with the edge of the last pause they ignored;
the timestamp FIFO. For an Ezsor link (R703, R704): the serial last heard from the far end with the MAC address it came from, the
lead die's time of the last HELLO heard and the edge of the last one sent, and by class the cells sent, the freed cells the far end
has reported, the cells received and the freed cells reported. -/
structure EthFacet where
  raw : Bool := false
  rawAt : Nat := 0
  lane : Bool := false
  shook : Bool := false
  oppLeft : Nat := 0
  oppSent : Option Nat := none
  up : Bool := false
  localFault : Bool := false
  remoteFault : Bool := false
  anDone : Bool := false
  fecLock : Bool := false
  plcaOk : Bool := false
  tx : Option Frame := none
  pauses : List (Nat × Pause) := []
  xoff : List Nat := []
  xoffAll : Bool := false
  override : List (Nat × Nat) := []
  stamps : List TxStamp := []
  heard : Nat := 0
  heardMac : Nat := 0
  hello : Option Nat := none
  helloAt : Nat := 0
  ezTx : List Nat := [0, 0, 0, 0, 0, 0, 0, 0]
  ezAck : List Nat := [0, 0, 0, 0, 0, 0, 0, 0]
  ezRx : List Nat := [0, 0, 0, 0, 0, 0, 0, 0]
  ezTold : List Nat := [0, 0, 0, 0, 0, 0, 0, 0]
  deriving DecidableEq, Repr

/-- The time of one Prism die (R371 to R376): the marks in a row within 4 ns, whether it has ever locked, and the
correction in ns that the next mark applies, with whether it is a step; the step and the rate that wait for a mark with the
edge of their writing, and the rate in force (of the lead die); the committed PTP mapping, and the PTP nanoseconds latched by
the last read of PTP_NOW_SEC. -/
structure DieTime where
  good : Nat := 0
  ever : Bool := false
  corr : Int := 0
  corrStep : Bool := false
  step : Option (Nat × Nat) := none
  rateAt : Option (Nat × Nat) := none
  rate : Int := 0
  ptpSec : Nat := 0
  ptpNs : Nat := 0
  ptpRef : Nat := 0
  nowNs : Nat := 0
  deriving DecidableEq, Repr

/-! ## CAN and LIN (09_can_lin.md) -/

/-- The states of a CAN controller (R411), in the order of STAT.STATE. -/
inductive CanSt where
  | off | integrating | active | passive | busOff | recovering | sleep
  deriving DecidableEq, Repr

/-- A CAN controller (R411): its state, the error state that integration returns to, the state that selective sleep
remembers, the error counters, the valid loop delay measured since enable (R410), the secondary sample point of the latest frame that switched its bit rate (R409), the local queue whose head is pending
(R403), whether that frame is to be discarded at the end of its attempt (R405), and whether the clock loss keeps it off
(R392). -/
structure CanCtl where
  st : CanSt := .off
  held : CanSt := .active
  before : CanSt := .integrating
  tec : Nat := 0
  recv : Nat := 0
  tdcv : Option Nat := none
  ssp : Option Nat := none
  pend : Option Nat := none
  abort : Bool := false
  clockDead : Bool := false
  deriving DecidableEq, Repr

/-- The states of a LIN controller (R435), in the order of STAT.STATE. -/
inductive LinSt where
  | off | running | stopped | sleep | busFault
  deriving DecidableEq, Repr

/-- A LIN controller (R418 to R423): its state, the table and entry running, the entry that runs next, the interrupted table
and its next entry during a collision-resolving run, what waits for the slot boundary, the entry whose response is
awaited, the headers in a row whose read-back failed, whether the schedule was stopped when BUS_FAULT began, and whether the clock loss keeps it
off (R392). -/
structure LinCtl where
  st : LinSt := .off
  table : Nat := 0
  entry : Nat := 0
  next : Nat := 0
  resolving : Option (Nat × Nat) := none
  resolveNext : Option Nat := none
  switchTo : Option Nat := none
  stop : Bool := false
  goSleep : Bool := false
  waiting : Option Nat := none
  badHeads : Nat := 0
  halted : Bool := false
  clockDead : Bool := false
  deriving DecidableEq, Repr

/-- The modes of an integrated transceiver (R425, R438), in the order of XCVR.STAT. -/
inductive XcvrMode where
  | off | standby | normal | silent
  deriving DecidableEq, Repr

/-- An integrated transceiver: its mode, whether overtemperature has turned its driver off and whether a stuck transmit input has released it (R427), whether it has
detected a wake that its controller has not confirmed, with the edge of the detection (R594), and its frame-error counter
(R591). -/
structure Xcvr where
  mode : XcvrMode := .standby
  hot : Bool := false
  stuck : Bool := false
  woken : Bool := false
  wokeAt : Nat := 0
  errs : Nat := 0
  deriving DecidableEq, Repr

/-! ## Signal gateway and window bridge (10_signal_gateway_bridge.md) -/

/-- What a PDU entry has done (R459, R461): the die time of its previous composition, the die time at which a waiting change
became visible, and the cadence instant last composed. -/
structure PduRun where
  last : Option Nat := none
  due : Option Nat := none
  cad : Option Nat := none
  deriving DecidableEq, Repr

/-- A tunnel at work (R465, R466): the ACF messages it holds, the die time of its first one, the sequence number of its next
AVTPDU, and that of the last one received. -/
structure Tunnel where
  msgs : List (List Byte) := []
  since : Nat := 0
  tx : Nat := 0
  heard : Option Nat := none
  deriving DecidableEq, Repr

/-- An open transport session (R468, R469): controller, source and destination address, protocol (0 BAM, 1 TP connection, 2
ETP), PGN, message length, the limit of the RTS, the packet expected next, the packets left of the last CTS, the data packet
offset of ETP, the data so far, and the edge at which its timer began with the ms it runs (R470). -/
structure Session where
  ctl : Nat := 0
  sa : Nat := 0
  da : Nat := 255
  proto : Nat := 0
  pgn : Nat := 0
  size : Nat := 0
  limit : Nat := 0
  next : Nat := 1
  left : Nat := 0
  offset : Option Nat := none
  data : List Byte := []
  since : Nat := 0
  wait : Nat := 750
  deriving DecidableEq, Repr

/-- An ETP session that firmware handles (R472): controller, the sender's and the own address, and the die time of its last
frame. -/
structure Bypass where
  ctl : Nat := 0
  sa : Nat := 0
  da : Nat := 0
  last : Nat := 0
  deriving DecidableEq, Repr

/-- A pending entry of the window bridge (R483): partition, core and hart, window, view, location, whether its read has been sent,
the request tag of a remote one, the result with the edge of its completion, and the edge at which the read was asked for. -/
structure WinPend where
  part : Nat := 0
  core : Nat := 0
  hart : Nat := 0
  win : Nat := 0
  lock : Bool := false
  loc : Nat := 0
  sent : Bool := false
  tag : Option Nat := none
  done : Option (Code × Word × Nat) := none
  asked : Nat := 0
  deriving DecidableEq, Repr

/-- A posted write in progress (R484, R485): partition, core and hart, window, view, location, its value, the request tag
of a remote one that has been sent, and the edge at which the store was made. -/
structure WinPost where
  part : Nat := 0
  core : Nat := 0
  hart : Nat := 0
  win : Nat := 0
  lock : Bool := false
  loc : Nat := 0
  value : Word := 0
  tag : Option Nat := none
  asked : Nat := 0
  deriving DecidableEq, Repr

/-- A lock of a block of this package (R487): the block (256 die + block), its holder (the device for a remote one; the
bridging die and window otherwise), the local address of its location and the edge it began at. -/
structure BlockLock where
  blk : Nat := 0
  dev : Option Nat := none
  die : Nat := 0
  win : Nat := 0
  addr : Nat := 0
  since : Nat := 0
  deriving DecidableEq, Repr

/-- A lock that a window of this package holds (R487): bridging die, window, location, the edge it began at. -/
structure WinLock where
  die : Nat := 0
  win : Nat := 0
  loc : Nat := 0
  since : Nat := 0
  deriving DecidableEq, Repr

/-! ## Keys, cipher, MACsec, seals (11_keys_cipher.md) -/

/-- A key slot (R498): its key bytes, the mask that makes its two shares, the uses since its last re-randomisation
(R508), the device-IV counter (R522), the PN mark (R547), the blob that a KEYBLOB entry names for it, with its KEK
(R502), and the edge at which its load was asked for. STATE, SOURCE and USES stand in KEYS.SLOT_n. -/
structure KeySlot where
  key : List Nat := []
  mask : List Nat := []
  since : Nat := 0
  iv : Nat := 0
  mark : Nat := 1
  blob : Option (Nat × List Nat) := none
  asked : Nat := 0
  deriving DecidableEq, Repr

/-- A key operation in progress (R505, R506): its OP, its target, the result and the output length it will report, and
the partition that started it, for firmware. -/
structure KeyOp where
  op : Nat := 0
  target : Nat := 0
  result : Nat := 0
  outLen : Nat := 0
  part : Option Nat := none
  deriving DecidableEq, Repr

/-- The key store of a Prism die: whether the root-key shares passed their check (R495) and the mask of its working shares (R508),
the edge of the latest Resilvering pass (R508), the state of its randomness and the edge at which its source last stopped or started
again (R510), the operation in progress, the provisioning command in progress with its argument bytes and ARG (R515), and the
tamper inputs asserted now (R511). -/
structure KeyStore where
  rootOk : Bool := false
  rootMask : List Nat := []
  passAt : Nat := 0
  rng : Nat := 0
  rngAt : Nat := 0
  op : Option KeyOp := none
  prov : Option (Nat × List Nat × Nat) := none
  tamperNow : Nat := 0
  deriving DecidableEq, Repr

/-- The freshness of a seal profile: the counter of a transmit profile (R534) and the edge of its latest beacon (R535), the reference
of a receive profile (R536), and the accepted values of its deduplication history (R562). -/
structure Fresh where
  ctr : Nat := 0
  beaconAt : Option Nat := none
  ref : Option Nat := none
  seen : List Nat := []
  deriving DecidableEq, Repr

/-- A cipher job at work: descriptor address, the die, partition and core of the hart that started it, and the edge of its start
(R523). -/
structure CipherJob where
  desc : Nat := 0
  part : Nat := 0
  core : Nat := 0
  asked : Nat := 0
  deriving DecidableEq, Repr

/-! ## Paired operation (12_paired_operation.md) -/

/-- The states of pair supervision (R555), in the order of PAIR.STAT.STATE. -/
inductive PairSt where
  | off | alone | joined | split | partnerLost
  deriving DecidableEq, Repr

/-- A claim in progress (R566): waiting with the line released since a die time; or with the line pulled since a die time,
the probes that read high so far, and whether a probe of this claim has read low. -/
inductive Claim where
  | none
  | wait (since : Nat)
  | pulled (since : Nat) (high : Nat) (low : Bool)
  deriving DecidableEq, Repr

/-- The handover in progress (R568): at the owner X, the switch instant and whether Y declined; at the partner Y, the switch
instant in its own time and in that of X, whether its admission request is granted, and whether it has answered. -/
inductive Handover where
  | none
  | gives (ts : Nat) (declined : Bool)
  | takes (ts : Nat) (theirs : Nat) (granted : Bool) (answered : Bool)
  deriving DecidableEq, Repr

/-- Pair supervision and ownership (R551 to R573): the state, whether this unit owns and whether it pulls PAIR_OWN, whether
another unit is seen to hold the line, the claim and the handover in progress, whether a paired channel has asked for an
automatic handover; the die time of the last heartbeat on each link facet, since when the link is up, the partner's last
heartbeat (its send time and its receive time), the last exchanges (time, round trip, offset), the partner's STATE and OWNER; the
die time of the partner's last witness, its last heartbeat with an equal role, the witness counter, the die time from
which the decision table runs, and the edges of the latest witness and heartbeat sent. -/
structure Pair where
  st : PairSt := .off
  owner : Bool := false
  pulls : Bool := false
  theirs : Bool := false
  claim : Claim := .none
  hand : Handover := .none
  wants : Bool := false
  link0 : Option Nat := none
  link1 : Option Nat := none
  upSince : Option Nat := none
  lastBeat : Option (Nat × Nat) := none
  trips : List (Nat × Int × Int) := []
  pState : Nat := 0
  pOwner : Bool := false
  witness : Option Nat := none
  witNo : Nat := 0
  witAt : Option Nat := none
  beatAt : Option Nat := none
  deriving DecidableEq, Repr

/-! ## Sleep and wake (13_sleep_wake.md) -/

/-- How a partial network is to be woken (R582): by a transceiver of a drive die with its wake source, by a keep-alive, or by
traffic. -/
inductive PnCause where
  | xcvr (die src : Nat)
  | keepAlive
  | traffic
  deriving DecidableEq, Repr

/-- A partial network (R582): AWAKE, the slow-clock edge from which its silence timer runs, the edge at which the hold of
MIN_AWAKE_MS began, what is to wake it, and the edge of its latest keep-alives (R583). -/
structure PartNet where
  awake : Bool := false
  silence : Nat := 0
  hold : Option Nat := none
  due : Option PnCause := none
  kaAt : Option Nat := none
  deriving DecidableEq, Repr

/-- A wake whose validity is open (R595): its partial network, or none for a wake of the package; its drive die and source; the
edge from which CONFIRM_MS runs. -/
structure WakeJudge where
  pn : Option Nat := none
  die : Nat := 0
  src : Nat := 0
  since : Nat := 0
  deriving DecidableEq, Repr

/-- The phases of an agreement (R588). -/
inductive Phase where
  | poll | commit | go | sleep | abort
  deriving DecidableEq, Repr

/-- A token at a member of this package (R585): the role of its origin, its round number, its phase, its consent mask, and how
many members of this package it has passed. -/
structure Token where
  origin : Nat := 0
  round : Nat := 0
  phase : Phase := .poll
  mask : Nat := 0
  pos : Nat := 0
  deriving DecidableEq, Repr

/-- The consent ring at the lead die (R585 to R588): whether it originates, the token now in this package, the edge at which its
own round began while that is out, the edge of the last token seen, the round number last seen, the mask of the last
completed round, where the agreement stands, and the edge at which COMMIT returned. -/
structure Ring where
  origin : Bool := false
  token : Option Token := none
  flight : Option Nat := none
  last : Option Nat := none
  round : Nat := 0
  consent : Nat := 0
  phase : Option Phase := none
  notice : Option Nat := none
  deriving DecidableEq, Repr

/-- The lead die's part of sleep and wake, lost with its power: the facets that wait for their wake-pattern slots, in order
(R597); the Ethernet facets that a sleeping network has disabled (R584); the LIN facets whose schedules restart, with the
edge from which the 100 ms run (R584); the wakes being judged; the ring; the edge of service entry; the latest wake-pattern slot
(R597). -/
structure Doze where
  patterns : List Nat := []
  ethOff : List Nat := []
  pulses : List (Nat × Nat) := []
  judges : List WakeJudge := []
  ring : Ring := {}
  service : Nat := 0
  slot : Option Nat := none
  deriving DecidableEq, Repr

/-- How far the package is asleep (R589): in service, the SLEEP token on its way, the token past every member of the package,
regulators off. -/
inductive Slumber where
  | awake | entering | passed | asleep
  deriving DecidableEq, Repr

/-! ## Load channels, inputs and Pinhole mode (14_load_channels.md) -/

/-- The states of a channel (R613), in the order of CHN.STAT.STATE. -/
inductive ChSt where
  | openSt | waitAdmit | ramp | drive | cool | retryWait | latched | selftest
  deriving DecidableEq, Repr

/-- How far a turn-on's request for admission is: not yet at the lead die, waiting there, granted (R599). -/
inductive AdmSt where
  | unsent | waiting | granted
  deriving DecidableEq, Repr

/-- A channel (R608 to R635): its state and its request, the source of the command in force, the latches held, oldest first
(R784), its own guarded period and whether its trip was guarded (R625), the retry count (R618), the slow-clock edge at which it
entered DRIVE or RETRY_WAIT, the current limit with the edge from which samples have shown it (R617), the open-load condition, the self-test result, the condition of R614 that holds it, the edge at
which a takeover hold began (R644); the latest current sample in mA, Tj in 0.1 °C, whether the sample used the factory curve;
the clamp level less half the budget, in pJ (R632); the reference and the mean whose ratio is the calibration's gain
(R621). -/
structure Channel where
  st : ChSt := .openSt
  adm : AdmSt := .unsent
  src : Nat := 17
  latches : List Nat := []
  guard : Bool := false
  hotTrip : Bool := false
  retry : Nat := 0
  since : Nat := 0
  inLimit : Bool := false
  limAt : Nat := 0
  openLoad : Bool := false
  test : Nat := 0
  held : Nat := 0
  takeover : Option Nat := none
  cur : Int := 0
  tj : Int := 0
  factory : Bool := true
  level : Int := 0
  calRef : Nat := 1
  calMean : Int := 1
  deriving DecidableEq, Repr

/-- A drive die's island of channels and its always-on island (R590, R596, R623, R629, R636, R640 to R644): Pinhole mode, LIMP_N
low, the edge of its last rise; the edge at which the heartbeat timer last started, the first and last heartbeat of the
unbroken run; Pinhole entries, the comparators of the map's inputs, the edge of the last map grant; the case sensors in
0.1 °C, whether the case reference is starting (0), valid (1) or in fault (2), the edge at which the die-wide guarded window
began; the inputs' digital states; dissipation summed in pW over the edges of this second, their number, and whether the last
second was above 12 W; and of wake: sources asserted now, sources asserted since the last sleep entry, disarmed sources with
the edge of disarming, the edges of invalid wakes by source, and the wakes that await the lead die's report (R595). -/
structure DriveDie where
  pin : Bool := false
  limpLow : Bool := false
  limpRise : Nat := 0
  hbTimer : Option Nat := none
  hbRun : Option (Nat × Nat) := none
  entries : Nat := 0
  mapIn : Nat := 0
  mapGrant : Option Nat := none
  caseA : Int := 0
  caseB : Int := 0
  caseSt : Nat := 0
  coldFrom : Option Nat := none
  inputs : Nat := 0
  powerSum : Nat := 0
  powerN : Nat := 0
  overPower : Bool := false
  asserted : Nat := 0
  seen : Nat := 0
  disarmed : List (Nat × Nat) := []
  invalid : List (Nat × Nat) := []
  awaited : List (Nat × Nat) := []
  deriving DecidableEq, Repr

/-- A request for admission that waits at the lead die (R599): the package channel, or none for a handover's; its claim in
0.5 A, the lead die's time since which it waits, and whether ADM_SLOW has been reported for it. -/
structure AdmReq where
  chan : Option Nat := none
  claim : Nat := 0
  since : Nat := 0
  told : Bool := false
  deriving DecidableEq, Repr

/-! ## Processors, partitions and apertures (15_partitions_apertures.md) -/

/-- The states of a partition (R664), in the order of PSTAT.STATE. -/
inductive PartSt where
  | off | loading | running | halted | failed | restarting
  deriving DecidableEq, Repr

/-- A record of a partition's interrupt FIFO (R684, R688): directed or routed, the line or kind, and its argument. -/
structure IrqRec where
  direct : Bool := false
  code : Nat := 0
  arg : Nat := 0
  deriving DecidableEq, Repr

/-- The modes a hart is in (R655): machine mode belongs to the device and is none of them. -/
inductive HartMode where
  | hs | vs | u
  deriving DecidableEq, Repr

/-- The context of a hart as the spec gives it at its entry (R655, R664): its core, the address it starts at, its registers a0 to a2,
its mode, stimecmp of its supervisor timer, and the access faults it has taken in HS-mode: cause and address, the oldest first (R658).
What firmware's own instructions do to a hart is outside the model (log entry 135). -/
structure Hart where
  core : Nat := 0
  entry : Nat := 0
  a0 : Nat := 0
  a1 : Nat := 0
  a2 : Nat := 0
  mode : HartMode := .hs
  stimecmp : BitVec 64 := 0
  traps : List (Nat × Nat) := []
  deriving DecidableEq, Repr

/-- A partition at work (R664 to R668, R684): its state, the slow-clock edges of its restarts within 60 s, the edge of its last
kick or of its entry into RUNNING, whether the first kick is still to come, its interrupt FIFO, whether a record has been lost
since the last one that entered, and the contexts of its harts. -/
structure Partition where
  st : PartSt := .off
  restarts : List Nat := []
  kick : Nat := 0
  first : Bool := true
  fifo : List IrqRec := []
  lost : Bool := false
  harts : List Hart := []
  deriving DecidableEq, Repr

/-- The safety pair of a Prism die (R656, R669): halted by a mismatch; its watchdog's last kick or start, and whether the first
kick is still to come. -/
structure SafePair where
  halted : Bool := false
  wdt : Option Nat := none
  first : Bool := true
  deriving DecidableEq, Repr

/-- A transmit ring's descriptor at work (R670, R671): its frame has been offered and waits; whether it has entered the fabric,
was dropped by the aperture or had its class clamped; whether it asks for an interrupt. -/
structure TxRing where
  busy : Bool := false
  entered : Bool := false
  dropped : Bool := false
  clamped : Bool := false
  irq : Bool := false
  deriving DecidableEq, Repr

/-! ## Domains of many devices (16_fleet_parallax.md) -/

/-- A domain-table entry (R695): serial, digest and generation, the census entry the member counts in, the route (ingress
global facet, source MAC address, hops used), whether a freshness has been accepted, the greatest one with the numbers seen in
its window,
the die time it was last heard, whether it is still heard, whether the full census has been reported for it, and the mask of its package's dies. -/
structure Member where
  serial : Nat := 0
  digest : Nat := 0
  gen : Nat := 0
  census : Option Nat := none
  route : Option (Nat × Nat × Nat) := none
  known : Bool := false
  renewal : Nat := 0
  epoch : Nat := 0
  seq : Nat := 0
  seen : List Nat := []
  last : Nat := 0
  heard : Bool := false
  told : Bool := false
  dies : Nat := 255
  deriving DecidableEq, Repr

/-! ## Monitors and the recorder (17_loupe_periscope.md) -/

/-- A Loupe monitor (R715 to R720): no sample yet; the least and the greatest sample, the samples taken and their sum, whether
it has saturated; samples below and above the bins and samples missed; the bins; its SEQ; the die time of the last clear; and
whether the last sample passed the threshold's test. -/
structure Monitor where
  none : Bool := true
  low : Word := 0xFFFFFFFFFFFF
  high : Word := 0
  count : Nat := 0
  sum : Int := 0
  sumSat : Bool := false
  under : Nat := 0
  past : Nat := 0
  skipped : Nat := 0
  bins : Sparse Nat := []
  seq : Nat := 0
  fromT : Nat := 0
  passed : Bool := false
  deriving DecidableEq, Repr

/-- The states of the recorder (R726). -/
inductive RecSt where
  | off | link | init | resume | running | post | stopped | error
  deriving DecidableEq, Repr

/-- An episode (R729, R735): START, TRIG and END, the PTP time of its trigger in seconds and ns, CLOSED, TRUNC, SOURCE. -/
structure Episode where
  start : Nat := 0
  trig : Nat := 0
  stop : Nat := 0
  sec : Nat := 0
  ns : Nat := 0
  closed : Bool := false
  trunc : Bool := false
  source : Nat := 0
  deriving DecidableEq, Repr

/-- A command sent to the NVMe controller and not completed (R726): a write of a chunk or of a superblock, a flush, a read of
the read-back. -/
inductive NvCmd where
  | write | flush | read
  deriving DecidableEq, Repr

/-- The recorder of a Prism die (R725 to R739): its state and the edge of its latest entry into LINK; link width and speed code; the address and the number of the chunk
being filled, its bytes after the chunk header, the offset of the first record that begins in it, the die time since which it
holds records; full chunks that wait to be written; SB_SEQ and the copy last written; the episode table; the episode that is
open with the die time of its trigger point; the triggers that wait, with the die time of their events; the selectors that have
triggered; the commands outstanding at the controller with the edges of their submission, oldest first; and the partition for which a read-back into memory runs. -/
structure Recorder where
  st : RecSt := .off
  linkAt : Nat := 0
  width : Nat := 0
  speed : Nat := 0
  fill : Nat := 0
  chunkNo : Nat := 0
  cur : List Byte := []
  first : Nat := 0
  since : Option Nat := none
  full : List (Nat × List Byte) := []
  sbSeq : Nat := 0
  sbAt : Nat := 1
  eps : List (Option Episode) := []
  openEp : Option (Nat × Nat) := none
  trigs : List (Nat × Nat) := []
  fired : List Nat := []
  cmds : List (NvCmd × Nat) := []
  rdPart : Option Nat := none
  deriving DecidableEq, Repr

/-! ## What leaves the block -/

/-- How a CAN controller drives the data phase of a frame (R404, R407 to R409): not apart from the nominal phase; FD data bits, or XL
data bits in NRZ coding, of a length in mtq; or XL data bits in PWM coding with the transceiver in fast mode, by its length, short and
long phase and offset. Each with the secondary sample point in mtq where it is used. -/
inductive DataPhase where
  | nominal
  | fd (bit : Nat) (ssp : Option Nat)
  | nrz (bit : Nat) (ssp : Option Nat)
  | pwm (bit short long offset : Nat) (ssp : Option Nat)
  deriving DecidableEq, Repr

/-- What the block sends out: the answer to an access of an agent (its reply code and data); the reply part of an SPI
transaction; a frame on the line of an Ethernet facet; an MDIO frame (its bus's facet, OP and fields); an edge of the
TIME_PPS ball; a PLCA beacon on a T1S segment with its node count (R348); a bus frame on a CAN bus, with its nominal bit in mtq and its
data phase; a CAN acknowledgement (R395); a CAN error flag, active or passive (R399); a LIN header with its break and bit lengths, its
protected identifier and the response bytes the commander sends (none where a responder is to answer); a wake pulse on a LIN bus of a
length in µs; a command to the NVMe drive of a Prism die: 0 write, 1 read, 2 flush, with recorder address, length and the bytes
written. -/
inductive Out where
  | reply (agent : Agent) (code : Code) (data : Word)
  | spi (bytes : List Byte)
  | eth (p f : Nat) (bytes : List Byte)
  | mdio (p f op prtad devad data : Nat)
  | pps (high : Bool)
  | beacon (p f nodes : Nat)
  | can (p c bit : Nat) (phase : DataPhase) (bytes : List Byte)
  | canAck (p c : Nat)
  | canFlag (p c : Nat) (active : Bool)
  | lin (p c brk bit pid : Nat) (bytes : List Byte)
  | linWake (p c us : Nat)
  | nvme (p op addr len : Nat) (bytes : List Byte)
  deriving DecidableEq, Repr

/-! ## The state -/

/-- The data plane of the Prism dies: buffers, queues, lookup, Ethernet facets and time. -/
structure Switch where
  /-- The die time of each Prism die, in 2^-32 ns (R371). -/
  dieTime : Sparse Nat := []
  /-- The receive buffer of each ingress facet, oldest first, by 64 p + f (R199). -/
  bufs : Sparse (List RxFrame) := []
  /-- The frames of each facet admitted and not yet entered (R202). -/
  adms : Sparse (List Admitted) := []
  /-- The hold and drain of each facet and class, by (64 p + f) 8 + c (R213). -/
  holds : Sparse Hold := []
  /-- The egress queues, by global queue number (R50). -/
  queues : Sparse Queue := []
  /-- The number the next admitted frame takes. -/
  nextRef : Nat := 0
  /-- The consumer ports, by 64 p + n (R275). -/
  ports : Sparse Port := []
  /-- The round robin of each egress facet and class (R261). -/
  robins : Sparse Robin := []
  /-- The flush in progress on each Prism die (R265). -/
  flushes : Sparse (Option Flush) := []
  /-- The die-to-die links, by 4 p + j (R31). -/
  d2d : Sparse D2dLink := []
  /-- SHARED_LOW_NOW of each Prism die (R260). -/
  sharedLow : Sparse Bool := []
  /-- The slow-clock edge at which FAB of each Prism die was last found disabled (R235). -/
  fabOffs : Sparse Nat := []
  /-- The finish tag of each ingress facet and the tag of the latest entry of each die, in the fair order of entries (R205). -/
  turns : Sparse Nat := []
  turnNows : Sparse Nat := []
  /-- PACE.NOW of each Prism die (R233). -/
  pace : Sparse Nat := []
  /-- Blocks spilled and fetched on each Prism die in this slow-clock period and the last (R289). -/
  spillRate : Sparse (Nat × Nat × Nat × Nat) := []
  /-- The flood policer of each facet (R312). -/
  floods : Sparse Bucket := []
  /-- The committed bucket of each meter, by 4096 p + m (R319). -/
  meterC : Sparse Bucket := []
  /-- The excess bucket of each meter (R319). -/
  meterE : Sparse Bucket := []
  /-- The credit-based shapers, by (64 p + f) 8 + c (R322). -/
  shapers : Sparse Shaper := []
  /-- The gates of each facet (R323). -/
  gates : Sparse Gates := []
  /-- The sequence recovery entries at work, by 1024 p + i (R558). -/
  recov : Sparse Recovery := []
  /-- The die time at which each lock bit was last written 1, by (8 p + t) 32 + r (R330). -/
  lockAt : Sparse Nat := []
  /-- The table DMA jobs at work, by 4 p + k (R328). -/
  tdma : Sparse (Option TdmaJob) := []
  /-- The Ethernet facets, by 64 p + f (R344). -/
  eths : Sparse EthFacet := []
  /-- The time of each Prism die (R371). -/
  times : Sparse DieTime := []
  /-- The MDIO frames of each bus in the order written, by 2 p + b: facet and OP (R349). -/
  mdio : Sparse (List (Nat × Nat)) := []
  /-- The insert sequence of each die's longest-prefix memory (R332). -/
  lpmStamp : Sparse Nat := []
  /-- The frame numbers given at each facet and class (R196). -/
  fids : Sparse Nat := []
  deriving DecidableEq, Repr

/-- The CAN and LIN controllers and the integrated transceivers. -/
structure Buses where
  /-- The CAN controllers, by 16 p + c (R411). -/
  cans : Sparse CanCtl := []
  /-- The address-claim trackers, by (16 p + c) 256 + a: NAME and seconds since the last refresh (R415). -/
  trackers : Sparse (Option (Nat × Nat)) := []
  /-- The LIN controllers, by 8 p + c (R418). -/
  lins : Sparse LinCtl := []
  /-- The publish buffers, by (8 p + c) 64 + id: eight bytes, byte 0 most significant, and PENDING (R421). -/
  pubs : Sparse (Nat × Bool) := []
  /-- The transceivers, by 16 d + unit, CAN 0 to 7 and LIN 8 to 11 (R425). -/
  xcvrs : Sparse Xcvr := []
  /-- LIN_SUP of each drive die is above its limit (R765). -/
  linHigh : Sparse Bool := []
  deriving DecidableEq, Repr

/-- The signal engines and window bridges of the Prism dies. -/
structure Gateway where
  /-- The signal store, by 2^18 p + i: VALUE and TS (R451). -/
  sigs : Sparse (Nat × Nat) := []
  /-- What each PDU entry has done, by 4096 p + i (R459). -/
  pdus : Sparse PduRun := []
  /-- The die time from which cadences run on each Prism die, kept while it is recent (R461). -/
  cadences : Sparse (Option Nat) := []
  /-- The tunnels at work, by 256 p + t (R464). -/
  tunnels : Sparse Tunnel := []
  /-- The open transport sessions of each Prism die (R468). -/
  sessions : Sparse (List Session) := []
  /-- The ETP sessions that firmware handles (R472). -/
  bypasses : Sparse (List Bypass) := []
  /-- The pending entries of each window bridge, oldest first (R483). -/
  winPends : Sparse (List WinPend) := []
  /-- The posted writes in progress of each window bridge, oldest first (R484). -/
  winPosts : Sparse (List WinPost) := []
  /-- The locked blocks of this package (R487). -/
  blockLocks : List BlockLock := []
  /-- The locks that windows of this package hold (R487). -/
  winLocks : List WinLock := []
  deriving DecidableEq, Repr

/-- The monitors and recorders of the Prism dies. -/
structure Record where
  /-- The recorder of each Prism die (R726). -/
  recorders : Sparse Recorder := []
  /-- The Loupe monitors, by 256 p + m (R715). -/
  monitors : Sparse Monitor := []
  /-- The values offered to monitors and not yet sampled, oldest first, each with the monitor's key (R715). -/
  offered : List (Nat × Word) := []
  /-- What a source has counted since the last slow-clock edge, and in the period before it, by sourceKey (R250, R387, R721). -/
  tallies : Sparse Nat := []
  tallied : Sparse Nat := []
  /-- Recorder copies discarded for each queue of facet 62 since its last LOSS record (R734). -/
  recLoss : Sparse Nat := []
  deriving DecidableEq, Repr

/-- The security blocks of the Prism dies: keys, cipher jobs, seal freshness. -/
structure Security where
  /-- The key slots, by 1024 p + n (R498). -/
  slots : Sparse KeySlot := []
  /-- The key store of each Prism die. -/
  stores : Sparse KeyStore := []
  /-- The freshness of the seal profiles, by 4096 p + i (R534, R536). -/
  fresh : Sparse Fresh := []
  /-- The cipher jobs at work, by 4 p + k (R523). -/
  jobs : Sparse (Option CipherJob) := []
  /-- The lid switch as the lead die sampled it at step 6: 2 high (R514). -/
  tamperSeen : Nat := 0
  deriving DecidableEq, Repr

/-- The domain of the package: what crosses to the lead die's domain engine. -/
structure Fleet where
  /-- Ezsor link messages taken by the Ethernet facets and not yet handled, oldest first: ingress global facet, receive timestamp and frame without FCS (R697). -/
  inbox : List (Nat × Nat × List Byte) := []
  /-- The domain table, by device ID (R695). -/
  members : Sparse (Option Member) := []
  /-- The census entries 1 to 15: digest and generation (R707). -/
  census : Sparse (Option (Nat × Nat)) := []
  /-- This device's message counter (R696). -/
  sent : Nat := 0
  /-- The edge at which keep-alives last left on the facets of FACETS_n (R701). -/
  kaAt : Option Nat := none
  /-- The digests of the compatibility set (R709). -/
  compDigs : List Nat := []
  /-- Its generation ranges. -/
  compGens : List (Nat × Nat) := []
  /-- Its bindings: profile, Prism die, sender. -/
  compBinds : List (Nat × Nat × Nat) := []
  /-- Network boot served now (R706): ingress global facet and serial of the requester, the lead die's time of its last message. -/
  serving : Option (Nat × Nat × Nat) := none
  /-- Whether a bound sender that is not heard is accepted. -/
  compUnheard : Bool := false
  deriving DecidableEq, Repr

/-- The drive dies: channels, Pinhole mode, wake, and the lead die's admission and pairing. -/
structure Machine where
  /-- The load channels, by 32 d + c (R608). -/
  chans : Sparse Channel := []
  /-- The drive dies (R640). -/
  drives : Sparse DriveDie := []
  /-- The claims admitted in the last WINDOW_MS: the lead die's time and the claim in 0.5 A (R599). -/
  window : List (Nat × Nat) := []
  /-- The requests for admission that wait, in the order in which they came (R599). -/
  waits : List AdmReq := []
  /-- Paired operation (R555). -/
  pair : Pair := {}
  /-- The partial networks (R582). -/
  pnets : Sparse PartNet := []
  /-- The lead die's sleep and wake (R584 to R597). -/
  doze : Doze := {}
  /-- How far the package is asleep (R589). -/
  stage : Slumber := .awake
  /-- The edge at which the regulators went off for sleep (R589). -/
  offAt : Nat := 0
  /-- The internal wake line is driven (R593). -/
  wakeUp : Bool := false
  /-- The delay drawn for a wake start: the edge it began at and its ms (R593 step 3). -/
  jitter : Option (Nat × Nat) := none
  deriving DecidableEq, Repr

/-- The processors of the Prism dies: partitions, the safety pair, transmit rings and apertures. -/
structure Processor where
  /-- The partitions, by 16 p + k (R664). -/
  parts : Sparse Partition := []
  /-- The safety pair of each Prism die (R656). -/
  pairs : Sparse SafePair := []
  /-- The slot that each core runs, by 8 p + c (R662). -/
  coreSlots : Sparse Nat := []
  /-- The edge at which each core entered its slot, by 8 p + c (R662). -/
  slotEdges : Sparse Nat := []
  /-- The transmit rings at work, by 16 p + k (R670). -/
  rings : Sparse TxRing := []
  /-- The ring of each Prism die that was served last (R671). -/
  served : Sparse Nat := []
  /-- The bucket of each aperture entry once used, by 4096 p + e: level in 10^-9 units and the die time of its last refill (R674). -/
  aprLevels : Sparse (Option (Int × Nat)) := []
  /-- The edge at which each package channel's firmware state last changed, by 128 p + n (R678). -/
  aprSince : Sparse Nat := []
  deriving DecidableEq, Repr

/-- The state of one package: all that the spec gives the machine, and the queue of waiting commands. -/
structure State where
  /-- What the fuses hold (R75). -/
  fuse : Fuses := {}
  /-- Every stored register, by local address; an unlisted one holds its reset value. -/
  regs : Sparse Word := []
  /-- Every table word, by tblKey; an unlisted one is zero. -/
  tbls : Sparse Word := []
  /-- The firmware memory of the Prism dies, on-die SRAM and LPDDR5, by 2^40 p + address; an unlisted byte reads as zero (R657, log entry 6). -/
  mem : Sparse Byte := []
  /-- The external flash, by byte address; an unlisted byte is erased (log entry 5). -/
  flash : Sparse Byte := []
  /-- The size of the fitted flash in bytes, as the integrator fits it (R100, log entry 48). -/
  flashSize : Nat := 268435456
  /-- The number of the event that last set each event bit, and the count of events (R163). -/
  evtNo : Sparse Nat := []
  /-- Registers locked by the image (R21, R118), by address, and whole blocks, by 2^24 + 256 die + block. -/
  lockedRegs : Sparse Bool := []
  /-- WO1 registers already written (R153). -/
  onceRegs : Sparse Bool := []
  /-- Registers whose hidden parity fails (R150, R151). -/
  upsets : Sparse Upset := []
  /-- Counted mismatches of the last second: die and edge (R82). -/
  mismatches : List (Nat × Nat) := []
  /-- The posted write in progress in each slow-domain block (R155). -/
  posted : Sparse (Option Posted) := []
  /-- The lead die's copy of the slow-domain registers (R158). -/
  compat : Sparse Word := []
  /-- Pending entries of the SPI path (0) and the Ethernet path (1), oldest first (R161). -/
  pends : Sparse (List Pend) := []
  /-- The Eyepiece reply frame after which the package resets: class and frame identity (R171). -/
  eyeReset : Option (Nat × Nat) := none
  /-- Interrupts raised on each Prism die and not yet delivered (R683). -/
  irqs : Sparse (List Irq) := []
  /-- The regulator sequencer of drive die 0. -/
  seq : Sequencer := {}
  /-- The supply of each drive die. -/
  sup : Sparse Supply := []
  /-- The supply and links of each Prism die. -/
  prism : Sparse PrismSupply := []
  /-- The start sequence. -/
  start : Start := {}
  /-- The clock source and straps. -/
  clk : Clock := {}
  /-- The image loader. -/
  ld : LoaderState := {}
  /-- Slow-clock edges since the model began (R37). -/
  edges : Nat := 0
  /-- The data plane of the Prism dies: buffers, queues, lookup, Ethernet facets and time. -/
  sw : Switch := {}
  /-- The CAN and LIN controllers and the integrated transceivers. -/
  nets : Buses := {}
  /-- The signal engines and window bridges of the Prism dies. -/
  gw : Gateway := {}
  /-- The monitors and recorders of the Prism dies. -/
  mon : Record := {}
  /-- The security blocks of the Prism dies: keys, cipher jobs, seal freshness. -/
  sec : Security := {}
  /-- The domain of the package: what crosses to the lead die's domain engine. -/
  plx : Fleet := {}
  /-- The drive dies: channels, Pinhole mode, wake, and the lead die's admission and pairing. -/
  io : Machine := {}
  /-- The processors of the Prism dies: partitions, the safety pair, transmit rings and apertures. -/
  cpu : Processor := {}
  /-- What has left the block, newest first. -/
  out : List Out := []
  /-- The MODEL'S OWN counter that numbers the free values (log entry 1). -/
  freeCount : Nat := 0
  /-- The commands that wait, first in first out. -/
  pending : List Instr := []
  deriving DecidableEq, Repr

/-- Faults. No command of the spec ends in one: every effect the spec gives is modelled, and an access to what does not
exist is answered with the reply code NO_SUCH of R142. -/
inductive Fault where
  deriving DecidableEq, Repr

/-- Refusals. -/
inductive Refusal where
  /-- Raised by an arm of exec whose command has no meaning yet. Safe: nothing is claimed of what it does. -/
  | notModelled (mnemonic : String)
  deriving DecidableEq, Repr

/-- The package right after a power-on reset of the always-on islands, with nothing powered (R19, R84): every register
at its reset value, empty tables and queues, no command waiting. -/
def State.reset : State := {}

end Sys2Proof.Machine
end

