-- ==== Sys2Proof/Machine/Operands.lean ====
section
/-! DEFINITION. Numbering: which dies a build holds, which drive die is attached to which Prism die, and the numbers of
links, facets, queues, channels and interrupt lines. -/

namespace Sys2Proof.Machine

/-- Prism dies in the build, x of R27. -/
def State.x (s : State) : Nat := s.fuse.prisms

/-- Drive dies in the build, y of R4. -/
def State.y (s : State) : Nat := s.fuse.drives

/-- The Prism dies of the build (R7). -/
def State.prismDies (s : State) : List Nat := List.range s.x

/-- The drive dies of the build (R7). -/
def State.driveDies (s : State) : List Nat := List.range s.y

/-- Is the die that die field f names in the build (R10)? -/
def State.dieIn (s : State) (f : Nat) : Bool := if f < 4 then decide (f < s.x) else decide (f - 4 < s.y)

/-- The Prism die that drive die d is attached to (R27). -/
def State.attachedTo (s : State) (d : Nat) : Nat := d % s.x

/-- The attachment rank of drive die d (R27). -/
def State.rankOf (s : State) (d : Nat) : Nat := d / s.x

/-- The drive die of rank k attached to Prism die p (R27). -/
def State.driveAt (s : State) (p k : Nat) : Option Nat :=
  if p < s.x ∧ k * s.x + p < s.y then some (k * s.x + p) else none

/-- The Prism die that takes the interrupts and counter events of die field f: itself, or the one a drive die is
attached to (R27, R243, R683). -/
def State.prismOf (s : State) (f : Nat) : Nat := if f < 4 then f else s.attachedTo (f - 4)

/-- The far Prism die of die-to-die link j of die p (R31). -/
def d2dFar (p j : Nat) : Nat := (p + j + 1) % 4

/-- The link number by which die p reaches die q (R31). -/
def d2dLink (p q : Nat) : Nat := (q + 4 - p - 1) % 4

/-- A global facet number (R49). -/
def globalFacet (p f : Nat) : Nat := p * 64 + f

/-- A local queue number: egress facet, class, flow group (R50). -/
def queueNo (f c g : Nat) : Nat := f * 256 + c * 32 + g

/-- A global queue number (R50). -/
def globalQueue (p q : Nat) : Nat := p * 16384 + q

/-- The Prism die of a global queue or a global facet's queue (R50). -/
def qDie (q : Nat) : Nat := q / 16384

/-- The egress facet of a queue number (R50). -/
def qFacet (q : Nat) : Nat := q / 256 % 64

/-- The traffic class of a queue number (R50). -/
def qClass (q : Nat) : Nat := q / 32 % 8

/-- The flow group of a queue number (R50). -/
def qFlow (q : Nat) : Nat := q % 32

/-- Interrupt line of a block (R683). -/
def irqLine (die blk : Nat) : Nat := 256 * die + blk

/-- The drive die and the transceiver of CAN controller c of Prism die p, where it has an integrated one (R28, R29). -/
def State.canXcvr (s : State) (p c : Nat) : Option (Nat × Nat) :=
  (s.driveAt p (c / 8)).map fun d => (d, c % 8)

/-- The drive die and the transceiver of LIN controller c of Prism die p, where it has an integrated one (R28, R29). -/
def State.linXcvr (s : State) (p c : Nat) : Option (Nat × Nat) :=
  (s.driveAt p (c / 4)).map fun d => (d, c % 4)

/-- Nanoseconds in n slow-clock edges of 32.768 kHz (R37). -/
def edgeNs (n : Nat) : Nat := n * 1953125 / 64

/-- Whole slow-clock edges in n milliseconds. -/
def edgesOfMs (n : Nat) : Nat := n * 32768 / 1000

/-- The die time of Prism die p in ns: 48 bits, wrapping (R371). -/
def State.time (s : State) (p : Nat) : Nat := Sparse.get (fun _ => 0) s.sw.dieTime p / 2 ^ 32 % 2 ^ 48

/-- Have n ms passed since edge t? Management-plane times count slow-clock edges (R37). -/
def State.pastMs (s : State) (t n : Nat) : Bool := decide (n * 32768 ≤ (s.edges - t) * 1000)

/-- The µs from edge t to now, as slow-clock edges count them. -/
def State.usSince (s : State) (t : Nat) : Nat := (s.edges - t) * 1000000 / 32768

/-- Have n µs passed since edge t, as slow-clock edges count them? -/
def State.pastUs (s : State) (t n : Nat) : Bool := decide (n * 32768 ≤ (s.edges - t) * 1000000)

/-- The ns from a die time of Prism die p to now. -/
def State.sinceNs (s : State) (p t : Nat) : Nat := (s.time p + 2 ^ 48 - t) % 2 ^ 48

/-- The record of drive die d's supply. -/
def State.supply (s : State) (d : Nat) : Supply := Sparse.get (fun _ => {}) s.sup d

/-- The record of Prism die p's supply and links. -/
def State.psup (s : State) (p : Nat) : PrismSupply := Sparse.get (fun _ => {}) s.prism p

/-- Does the drive link of drive die d carry nothing, detected lost or not yet (R38, R782)? -/
def State.dlinkDown (s : State) (d : Nat) : Bool :=
  let u := s.psup (s.attachedTo d)
  u.lostRank.contains (s.rankOf d) || u.cutRank.contains (s.rankOf d)

/-- Is the drive link of drive die d detected lost by its Prism die (R38)? -/
def State.dlinkLost (s : State) (d : Nat) : Bool := (s.psup (s.attachedTo d)).lostRank.contains (s.rankOf d)

end Sys2Proof.Machine
end

