-- ==== Sys2Proof/Config.lean ====
section
/-! DEFINITION. What the spec leaves open. Each free value is an opaque constant: no proof can see what it is,
and a claim that holds, holds for every value of it. -/

namespace Sys2Proof.Config

/-- The n-th free value (log entry 1): what the device draws, or holds, where the spec states no value: random
numbers (R306, R509, R593), undefined contents, measurements the spec does not fix. Application n is numbered by
State.freeCount. Safe: nothing constrains it. -/
opaque freeValue : Nat → Nat

/-- Free bytes for a generated key, a nonce or a random serial read (log entry 1): byte i of draw n. Safe. -/
opaque freeByte : Nat → Nat → Byte

/-- Byte i of the root key that the maker writes at manufacture (R495, log entry 7): fixed for the package, and stated
nowhere. Safe. -/
opaque rootKeyByte : Nat → Byte

/-- The 16 bits of the time CSR of a Prism die above die time (R655, log entry 135), which the spec gives no value. Safe. -/
opaque timeHigh : Nat → BitVec 16

end Sys2Proof.Config
end

