-- ==== Sys2Proof/Machine/RegReset.lean ====
section
/-! DEFINITION. The reset value of every register: the Reset column of its table (R19), and the registers whose reset
value depends on the facet, the controller or the channel. -/

namespace Sys2Proof.Machine

/-- The reset value of ETH.RXBUF of facet u (R362, R378): SIZE cells, XOFF, XON and XOFF_TOTAL of each kind. -/
def rxbufReset (u : Nat) : Nat :=
  let pack (xoff xon total size : Nat) := xoff + xon * 2 ^ 11 + total * 2 ^ 22 + size * 2 ^ 33
  if u < 4 then pack 512 384 640 1024
  else if u < 12 then pack 256 192 320 512
  else if u < 24 then pack 128 96 160 256
  else pack 16 12 20 32

/-- The reset value of CHN.CFG.PEAK of channel u (R645): heavy, light, pre-driver. -/
def chnPeakReset (u : Nat) : Nat := if u < 6 then 24 else if u < 24 then 6 else 100

/-- The reset value of CHN.CFG_B of channel u (R645): DT_MAX, BUDGET_MJ, REFILL_MW and SHUNT_UOHM by kind. -/
def chnCfgBReset (u v : Nat) : Nat :=
  let f := fun (fl : Fld) (n : Nat) (w : Word) => fset w fl n
  let w : Word := BitVec.ofNat 48 v
  if u < 6 then (f CHN.CFG_B.DT_MAX 60 (f CHN.CFG_B.BUDGET_MJ 1200 (f CHN.CFG_B.REFILL_MW 50 (f CHN.CFG_B.SHUNT_UOHM 0 w)))).toNat
  else if u < 24 then
    (f CHN.CFG_B.DT_MAX 60 (f CHN.CFG_B.BUDGET_MJ 250 (f CHN.CFG_B.REFILL_MW 12 (f CHN.CFG_B.SHUNT_UOHM 0 w)))).toNat
  else (f CHN.CFG_B.DT_MAX 0 (f CHN.CFG_B.BUDGET_MJ 0 (f CHN.CFG_B.REFILL_MW 0 (f CHN.CFG_B.SHUNT_UOHM 500 w)))).toNat

/-- The reset value of address a, before reserved bits are masked: v is the table's value. -/
def rawReset (a v : Nat) : Nat :=
  let d := aDie a
  let b := aBlk a
  let r := aReg a
  if d < 4 then
    if b = 0x10 ∧ 0x320 ≤ r ∧ r < 0x338 then d * 16384 + 59 * 256 + 6 * 32 + (r - 0x320)
    else if 0x20 ≤ b ∧ b ≤ 0x3F ∧ r = 2 then rxbufReset (b - 0x20)
    else if 0x40 ≤ b ∧ b ≤ 0x4F ∧ r = 5 then (fset (BitVec.ofNat 48 v) CAN.FILT_CFG.BASE (64 * (b - 0x40))).toNat
    else if a = QMGR.PROF_A d 0 then (fset (BitVec.ofNat 48 v) QMGR.PROF_A.QMIN 2).toNat
    else if a = KEYS.POL d 0 then (fset (BitVec.ofNat 48 v) KEYS.POL.KLEN 1).toNat
    else v
  else if 0x08 ≤ b ∧ b ≤ 0x23 then
    if a = CHN.CFG (d - 4) (b - 8) then (fset (BitVec.ofNat 48 v) CHN.CFG.PEAK (chnPeakReset (b - 8))).toNat
    else if a = CHN.CFG_B (d - 4) (b - 8) then chnCfgBReset (b - 8) v
    else v
  else v

/-- The reset value of a register (R19); reserved bits read as zero (R20). -/
def regReset (a : Nat) : Word :=
  match regRow a with
  | none => 0
  | some w => BitVec.ofNat 48 (rawReset a w.reset) &&& BitVec.ofNat 48 w.mask

end Sys2Proof.Machine
end

