-- ==== Sys2Proof/Machine/Act.lean ====
section
/-! DEFINITION. Actions on the state. An action is a total change of the state that keeps what every command keeps: the
register file's canonical form and its reserved bits at zero (R20), the tables' and the flash's canonical form, the queue
of waiting commands, and the facts of manufacture (R75). Every meaning is built from the actions below. -/

namespace Sys2Proof.Machine

/-- The erased byte of the flash (log entry 5). -/
def flashBlank (_ : Nat) : Byte := 0xFF

/-- A byte of firmware memory that nothing has written (log entry 6). -/
def memBlank (_ : Nat) : Byte := 0

/-- A table word that nothing has written. -/
def tblBlank (_ : Nat) : Word := 0

/-- The register file's form: canonical, and no entry has a reserved bit set (R20). -/
def regsOk (m : Sparse Word) : Bool :=
  Sparse.canon regReset m && m.all fun e => decide (e.2 &&& ~~~ regMask e.1 = 0)

/-- What every action keeps. -/
structure Sound (s t : State) : Prop where
  regs : regsOk s.regs = true → regsOk t.regs = true
  tbls : Sparse.canon tblBlank s.tbls = true → Sparse.canon tblBlank t.tbls = true
  flash : Sparse.canon flashBlank s.flash = true → Sparse.canon flashBlank t.flash = true
  mem : Sparse.canon memBlank s.mem = true → Sparse.canon memBlank t.mem = true
  pend : t.pending = s.pending
  build : t.fuse.prisms = s.fuse.prisms ∧ t.fuse.drives = s.fuse.drives ∧ t.fuse.serial = s.fuse.serial
  prov : s.fuse.provDone = true → t.fuse.provDone = true
  init : s.fuse.epochInit = true → t.fuse.epochInit = true
  free : s.freeCount ≤ t.freeCount

/-- Keeping composes. -/
theorem Sound.trans {s t u : State} (h : Sound s t) (k : Sound t u) : Sound s u :=
  { regs := fun x => k.regs (h.regs x)
    tbls := fun x => k.tbls (h.tbls x)
    flash := fun x => k.flash (h.flash x)
    mem := fun x => k.mem (h.mem x)
    pend := k.pend.trans h.pend
    build := ⟨k.build.1.trans h.build.1, k.build.2.1.trans h.build.2.1, k.build.2.2.trans h.build.2.2⟩
    prov := fun x => k.prov (h.prov x)
    init := fun x => k.init (h.init x)
    free := Nat.le_trans h.free k.free }

/-- A change that leaves registers, tables, flash, fuses, the queue and the free counter alone. -/
structure Quiet (s t : State) : Prop where
  regs : t.regs = s.regs
  tbls : t.tbls = s.tbls
  flash : t.flash = s.flash
  mem : t.mem = s.mem
  pend : t.pending = s.pending
  fuse : t.fuse = s.fuse
  free : t.freeCount = s.freeCount

/-- Such a change keeps what every action keeps. -/
theorem Quiet.sound {s t : State} (h : Quiet s t) : Sound s t :=
  { regs := fun x => by rw [h.regs]; exact x
    tbls := fun x => by rw [h.tbls]; exact x
    flash := fun x => by rw [h.flash]; exact x
    mem := fun x => by rw [h.mem]; exact x
    pend := h.pend
    build := by rw [h.fuse]; exact ⟨rfl, rfl, rfl⟩
    prov := fun x => by rw [h.fuse]; exact x
    init := fun x => by rw [h.fuse]; exact x
    free := Nat.le_of_eq h.free.symm }

/-- An action: a total change of the state, with the proof that it keeps what every command keeps. -/
structure Act where
  run : State → State
  ok : ∀ s, Sound s (run s)

/-- The outcome of a command whose effect is an action. -/
def Act.go (a : Act) (s : State) : Host.Outcome State Fault Refusal := .next (a.run s)

/-- Nothing happens. -/
def Act.skip : Act := ⟨fun s => s, fun _ => Quiet.sound ⟨rfl, rfl, rfl, rfl, rfl, rfl, rfl⟩⟩

/-- One action, then another. -/
def Act.seq (a b : Act) : Act := ⟨fun s => b.run (a.run s), fun s => (a.ok s).trans (b.ok (a.run s))⟩

/-- The actions of a list, in its order. -/
def Act.all : List Act → Act
  | [] => Act.skip
  | a :: l => Act.seq a (Act.all l)

/-- An action for each element of a list, in its order. -/
def Act.each {α : Type} (l : List α) (f : α → Act) : Act := Act.all (l.map f)

/-- An action only where a condition holds. -/
def Act.when (c : Prop) [Decidable c] (a : Act) : Act := if c then a else Act.skip

/-- An action that looks at the state first. -/
def Act.get (k : State → Act) : Act := ⟨fun s => (k s).run s, fun s => (k s).ok s⟩

/-- An action on a value that may be absent. -/
def Act.opt {α : Type} (o : Option α) (f : α → Act) : Act :=
  match o with
  | none => Act.skip
  | some x => f x

/-- A change of the state that leaves registers, tables, flash, fuses, the queue and the free counter alone. -/
def Act.upd (f : State → State)
    (h : ∀ s, Quiet s (f s) := by intro _; exact ⟨rfl, rfl, rfl, rfl, rfl, rfl, rfl⟩) : Act :=
  ⟨f, fun s => (h s).sound⟩

/-- A masked word has no reserved bit set. -/
theorem masked_reserved (v m : Word) : v &&& m &&& ~~~ m = 0 := by
  ext i
  simp

/-- Store v in register a, reserved bits as zero (R20). -/
def storeReg (a : Nat) (v : Word) (s : State) : State :=
  { s with regs := Sparse.put regReset a (v &&& regMask a) s.regs, upsets := Sparse.put (fun _ => {}) a {} s.upsets }

/-- Storing a register keeps the register file's form. -/
theorem storeReg_sound (a : Nat) (v : Word) (s : State) : Sound s (storeReg a v s) :=
  { regs := by
      intro h
      simp only [regsOk, Bool.and_eq_true, storeReg] at h ⊢
      exact ⟨Sparse.put_canon _ _ _ _ h.1,
        Sparse.put_all _ _ _ _ _ (fun _ => by simpa using masked_reserved v (regMask a)) h.2⟩
    tbls := fun x => x
    flash := fun x => x
    mem := fun x => x
    pend := rfl
    build := ⟨rfl, rfl, rfl⟩
    prov := fun x => x
    init := fun x => x
    free := Nat.le_refl _ }

/-- Set register a; its hidden parity is recomputed (R150). -/
def Act.setReg (a : Nat) (v : Word) : Act := ⟨storeReg a v, storeReg_sound a v⟩

/-- Return to their reset value the registers that do not satisfy p. -/
def dropRegs (p : Nat → Bool) (s : State) : State :=
  { s with regs := Sparse.keep p s.regs, upsets := Sparse.keep p s.upsets }

/-- Resetting registers keeps the register file's form. -/
theorem dropRegs_sound (p : Nat → Bool) (s : State) : Sound s (dropRegs p s) :=
  { regs := by
      intro h
      simp only [regsOk, Bool.and_eq_true, dropRegs] at h ⊢
      refine ⟨Sparse.keep_canon _ _ _ h.1, ?_⟩
      have h2 := h.2
      simp only [List.all_eq_true] at h2 ⊢
      intro x hx
      exact h2 x (List.mem_filter.mp hx).1
    tbls := fun x => x
    flash := fun x => x
    mem := fun x => x
    pend := rfl
    build := ⟨rfl, rfl, rfl⟩
    prov := fun x => x
    init := fun x => x
    free := Nat.le_refl _ }

/-- Return to their reset value the registers that do not satisfy p (R84). -/
def Act.resetRegs (p : Nat → Bool) : Act := ⟨dropRegs p, dropRegs_sound p⟩

/-- The key of a table word: die, table code, entry, word of the entry. -/
def tblKey (die tbl idx w : Nat) : Nat := w + 8 * (idx + 2 ^ 20 * (tbl + 256 * die))

/-- Write one table word. -/
def Act.setTbl (key : Nat) (v : Word) : Act :=
  ⟨fun s => { s with tbls := Sparse.put tblBlank key v s.tbls }, fun _ =>
    { regs := fun x => x
      tbls := fun x => Sparse.put_canon _ _ _ _ x
      flash := fun x => x
      mem := fun x => x
      pend := rfl
      build := ⟨rfl, rfl, rfl⟩
      prov := fun x => x
      init := fun x => x
      free := Nat.le_refl _ }⟩

/-- Empty the table words whose key does not satisfy p. -/
def Act.dropTbls (p : Nat → Bool) : Act :=
  ⟨fun s => { s with tbls := Sparse.keep p s.tbls }, fun _ =>
    { regs := fun x => x
      tbls := fun x => Sparse.keep_canon _ _ _ x
      flash := fun x => x
      mem := fun x => x
      pend := rfl
      build := ⟨rfl, rfl, rfl⟩
      prov := fun x => x
      init := fun x => x
      free := Nat.le_refl _ }⟩

/-- Store one byte of flash. -/
def Act.setFlash (a : Nat) (b : Byte) : Act :=
  ⟨fun s => { s with flash := Sparse.put flashBlank a b s.flash }, fun _ =>
    { regs := fun x => x
      tbls := fun x => x
      flash := fun x => Sparse.put_canon _ _ _ _ x
      mem := fun x => x
      pend := rfl
      build := ⟨rfl, rfl, rfl⟩
      prov := fun x => x
      init := fun x => x
      free := Nat.le_refl _ }⟩

/-- Erase the flash bytes whose address does not satisfy p. -/
def Act.eraseFlash (p : Nat → Bool) : Act :=
  ⟨fun s => { s with flash := Sparse.keep p s.flash }, fun _ =>
    { regs := fun x => x
      tbls := fun x => x
      flash := fun x => Sparse.keep_canon _ _ _ x
      mem := fun x => x
      pend := rfl
      build := ⟨rfl, rfl, rfl⟩
      prov := fun x => x
      init := fun x => x
      free := Nat.le_refl _ }⟩

/-- Store one byte of firmware memory. -/
def Act.setMem (a : Nat) (b : Byte) : Act :=
  ⟨fun s => { s with mem := Sparse.put memBlank a b s.mem }, fun _ =>
    { regs := fun x => x
      tbls := fun x => x
      flash := fun x => x
      mem := fun x => Sparse.put_canon _ _ _ _ x
      pend := rfl
      build := ⟨rfl, rfl, rfl⟩
      prov := fun x => x
      init := fun x => x
      free := Nat.le_refl _ }⟩

/-- Empty the firmware memory (R84, log entry 6). -/
def Act.dropMem : Act :=
  ⟨fun s => { s with mem := [] }, fun _ =>
    { regs := fun x => x
      tbls := fun x => x
      flash := fun x => x
      mem := fun _ => rfl
      pend := rfl
      build := ⟨rfl, rfl, rfl⟩
      prov := fun x => x
      init := fun x => x
      free := Nat.le_refl _ }⟩

/-- Blow the fuse EPOCH_INIT (R123): it never clears. -/
def Act.blowEpochInit : Act :=
  ⟨fun s => { s with fuse := { s.fuse with epochInit := true } }, fun _ =>
    { regs := fun x => x, tbls := fun x => x, flash := fun x => x, mem := fun x => x, pend := rfl, build := ⟨rfl, rfl, rfl⟩
      prov := fun x => x, init := fun _ => rfl, free := Nat.le_refl _ }⟩

/-- Blow the fuse PROV_DONE (R515): it never clears. -/
def Act.blowProvDone : Act :=
  ⟨fun s => { s with fuse := { s.fuse with provDone := true } }, fun _ =>
    { regs := fun x => x, tbls := fun x => x, flash := fun x => x, mem := fun x => x, pend := rfl, build := ⟨rfl, rfl, rfl⟩
      prov := fun _ => rfl, init := fun x => x, free := Nat.le_refl _ }⟩

/-- Destroy the root-key shares (R513): they never return. -/
def Act.destroyShares : Act :=
  ⟨fun s => { s with fuse := { s.fuse with sharesGone := true } }, fun _ =>
    { regs := fun x => x, tbls := fun x => x, flash := fun x => x, mem := fun x => x, pend := rfl, build := ⟨rfl, rfl, rfl⟩
      prov := fun x => x, init := fun x => x, free := Nat.le_refl _ }⟩

/-- Count one free value as drawn. -/
def bumpFree (s : State) : State := { s with freeCount := s.freeCount + 1 }

/-- Drawing keeps what every action keeps. -/
theorem bumpFree_sound (s : State) : Sound s (bumpFree s) :=
  { regs := fun x => x, tbls := fun x => x, flash := fun x => x, mem := fun x => x, pend := rfl, build := ⟨rfl, rfl, rfl⟩
    prov := fun x => x, init := fun x => x, free := Nat.le_succ _ }

/-- Draw the next free value (log entry 1): k is given its number. -/
def Act.free (k : Nat → Act) : Act :=
  ⟨fun s => (k s.freeCount).run (bumpFree s), fun s => (bumpFree_sound s).trans ((k s.freeCount).ok (bumpFree s))⟩

/-- Draw a free number below n (log entry 1); 0 where n is 0. -/
def Act.freeBelow (n : Nat) (k : Nat → Act) : Act := Act.free fun c => k (Config.freeValue c % n)

/-- Draw n free bytes (log entry 1). -/
def Act.freeBytes (n : Nat) (k : List Byte → Act) : Act :=
  Act.free fun c => k ((List.range n).map fun i => Config.freeByte c i)

/-- Something leaves the block. -/
def Act.emit (o : Out) : Act := Act.upd fun s => { s with out := o :: s.out }

end Sys2Proof.Machine
end

