-- ==== Sys2Proof/Machine/Store.lean ====
section
/-! DEFINITION. Reading and changing one record of each keyed part of the state. An unlisted record is at its default:
what it is after reset. -/

namespace Sys2Proof.Machine

/-- Buf: the default of the receive buffer of facet k. -/
def bufBlank (_ : Nat) : List RxFrame := []

/-- The receive buffer of facet k. -/
def State.buf (s : State) (k : Nat) : List RxFrame := Sparse.get bufBlank s.sw.bufs k

/-- Set the receive buffer of facet k. -/
def Act.setBuf (k : Nat) (v : List RxFrame) : Act :=
  Act.upd fun s => { s with sw := { s.sw with bufs := Sparse.put bufBlank k v s.sw.bufs } }

/-- Change the receive buffer of facet k. -/
def Act.modBuf (k : Nat) (f : List RxFrame → List RxFrame) : Act := Act.get fun s => Act.setBuf k (f (s.buf k))

/-- Adm: the default of the frames of facet k admitted and not yet entered. -/
def admBlank (_ : Nat) : List Admitted := []

/-- The frames of facet k admitted and not yet entered. -/
def State.adm (s : State) (k : Nat) : List Admitted := Sparse.get admBlank s.sw.adms k

/-- Set the frames of facet k admitted and not yet entered. -/
def Act.setAdm (k : Nat) (v : List Admitted) : Act :=
  Act.upd fun s => { s with sw := { s.sw with adms := Sparse.put admBlank k v s.sw.adms } }

/-- Change the frames of facet k admitted and not yet entered. -/
def Act.modAdm (k : Nat) (f : List Admitted → List Admitted) : Act := Act.get fun s => Act.setAdm k (f (s.adm k))

/-- Hold: the default of the hold of facet and class k. -/
def holdBlank (_ : Nat) : Hold := {}

/-- The hold of facet and class k. -/
def State.hold (s : State) (k : Nat) : Hold := Sparse.get holdBlank s.sw.holds k

/-- Set the hold of facet and class k. -/
def Act.setHold (k : Nat) (v : Hold) : Act :=
  Act.upd fun s => { s with sw := { s.sw with holds := Sparse.put holdBlank k v s.sw.holds } }

/-- Change the hold of facet and class k. -/
def Act.modHold (k : Nat) (f : Hold → Hold) : Act := Act.get fun s => Act.setHold k (f (s.hold k))

/-- Queue: the default of egress queue k. -/
def queueBlank (_ : Nat) : Queue := {}

/-- Egress queue k. -/
def State.queue (s : State) (k : Nat) : Queue := Sparse.get queueBlank s.sw.queues k

/-- Set egress queue k. -/
def Act.setQueue (k : Nat) (v : Queue) : Act :=
  Act.upd fun s => { s with sw := { s.sw with queues := Sparse.put queueBlank k v s.sw.queues } }

/-- Change egress queue k. -/
def Act.modQueue (k : Nat) (f : Queue → Queue) : Act := Act.get fun s => Act.setQueue k (f (s.queue k))

/-- Port: the default of consumer port k. -/
def portBlank (_ : Nat) : Port := {}

/-- Consumer port k. -/
def State.port (s : State) (k : Nat) : Port := Sparse.get portBlank s.sw.ports k

/-- Set consumer port k. -/
def Act.setPort (k : Nat) (v : Port) : Act :=
  Act.upd fun s => { s with sw := { s.sw with ports := Sparse.put portBlank k v s.sw.ports } }

/-- Change consumer port k. -/
def Act.modPort (k : Nat) (f : Port → Port) : Act := Act.get fun s => Act.setPort k (f (s.port k))

/-- Robin: the default of the round robin of facet and class k. -/
def robinBlank (_ : Nat) : Robin := {}

/-- The round robin of facet and class k. -/
def State.robin (s : State) (k : Nat) : Robin := Sparse.get robinBlank s.sw.robins k

/-- Set the round robin of facet and class k. -/
def Act.setRobin (k : Nat) (v : Robin) : Act :=
  Act.upd fun s => { s with sw := { s.sw with robins := Sparse.put robinBlank k v s.sw.robins } }

/-- Change the round robin of facet and class k. -/
def Act.modRobin (k : Nat) (f : Robin → Robin) : Act := Act.get fun s => Act.setRobin k (f (s.robin k))

/-- Flush: the default of the flush in progress on Prism die k. -/
def flushBlank (_ : Nat) : Option Flush := none

/-- The flush in progress on Prism die k. -/
def State.flush (s : State) (k : Nat) : Option Flush := Sparse.get flushBlank s.sw.flushes k

/-- Set the flush in progress on Prism die k. -/
def Act.setFlush (k : Nat) (v : Option Flush) : Act :=
  Act.upd fun s => { s with sw := { s.sw with flushes := Sparse.put flushBlank k v s.sw.flushes } }

/-- Change the flush in progress on Prism die k. -/
def Act.modFlush (k : Nat) (f : Option Flush → Option Flush) : Act := Act.get fun s => Act.setFlush k (f (s.flush k))

/-- Link: the default of die-to-die link k. -/
def linkBlank (_ : Nat) : D2dLink := {}

/-- Die-to-die link k. -/
def State.link (s : State) (k : Nat) : D2dLink := Sparse.get linkBlank s.sw.d2d k

/-- Set die-to-die link k. -/
def Act.setLink (k : Nat) (v : D2dLink) : Act :=
  Act.upd fun s => { s with sw := { s.sw with d2d := Sparse.put linkBlank k v s.sw.d2d } }

/-- Change die-to-die link k. -/
def Act.modLink (k : Nat) (f : D2dLink → D2dLink) : Act := Act.get fun s => Act.setLink k (f (s.link k))

/-- Low: the default of SHARED_LOW_NOW of Prism die k. -/
def lowBlank (_ : Nat) : Bool := false

/-- SHARED_LOW_NOW of Prism die k. -/
def State.low (s : State) (k : Nat) : Bool := Sparse.get lowBlank s.sw.sharedLow k

/-- Set SHARED_LOW_NOW of Prism die k. -/
def Act.setLow (k : Nat) (v : Bool) : Act :=
  Act.upd fun s => { s with sw := { s.sw with sharedLow := Sparse.put lowBlank k v s.sw.sharedLow } }

/-- Change SHARED_LOW_NOW of Prism die k. -/
def Act.modLow (k : Nat) (f : Bool → Bool) : Act := Act.get fun s => Act.setLow k (f (s.low k))

/-- PaceNow: the default of PACE.NOW of Prism die k. -/
def paceNowBlank (_ : Nat) : Nat := 1024

/-- PACE.NOW of Prism die k. -/
def State.paceNow (s : State) (k : Nat) : Nat := Sparse.get paceNowBlank s.sw.pace k

/-- Set PACE.NOW of Prism die k. -/
def Act.setPaceNow (k : Nat) (v : Nat) : Act :=
  Act.upd fun s => { s with sw := { s.sw with pace := Sparse.put paceNowBlank k v s.sw.pace } }

/-- Change PACE.NOW of Prism die k. -/
def Act.modPaceNow (k : Nat) (f : Nat → Nat) : Act := Act.get fun s => Act.setPaceNow k (f (s.paceNow k))

/-- Rate: the default of the spill rates of Prism die k. -/
def rateBlank (_ : Nat) : Nat × Nat × Nat × Nat := (0, 0, 0, 0)

/-- The spill rates of Prism die k. -/
def State.rate (s : State) (k : Nat) : Nat × Nat × Nat × Nat := Sparse.get rateBlank s.sw.spillRate k

/-- Set the spill rates of Prism die k. -/
def Act.setRate (k : Nat) (v : Nat × Nat × Nat × Nat) : Act :=
  Act.upd fun s => { s with sw := { s.sw with spillRate := Sparse.put rateBlank k v s.sw.spillRate } }

/-- Change the spill rates of Prism die k. -/
def Act.modRate (k : Nat) (f : Nat × Nat × Nat × Nat → Nat × Nat × Nat × Nat) : Act := Act.get fun s => Act.setRate k (f (s.rate k))

/-- Flood: the default of the flood policer of facet k. -/
def floodBlank (_ : Nat) : Bucket := { level := 131072000000, last := 0 }

/-- The flood policer of facet k. -/
def State.flood (s : State) (k : Nat) : Bucket := Sparse.get floodBlank s.sw.floods k

/-- Set the flood policer of facet k. -/
def Act.setFlood (k : Nat) (v : Bucket) : Act :=
  Act.upd fun s => { s with sw := { s.sw with floods := Sparse.put floodBlank k v s.sw.floods } }

/-- Change the flood policer of facet k. -/
def Act.modFlood (k : Nat) (f : Bucket → Bucket) : Act := Act.get fun s => Act.setFlood k (f (s.flood k))

/-- MtrC: the default of the committed bucket of meter k. -/
def mtrCBlank (_ : Nat) : Bucket := {}

/-- The committed bucket of meter k. -/
def State.mtrC (s : State) (k : Nat) : Bucket := Sparse.get mtrCBlank s.sw.meterC k

/-- Set the committed bucket of meter k. -/
def Act.setMtrC (k : Nat) (v : Bucket) : Act :=
  Act.upd fun s => { s with sw := { s.sw with meterC := Sparse.put mtrCBlank k v s.sw.meterC } }

/-- Change the committed bucket of meter k. -/
def Act.modMtrC (k : Nat) (f : Bucket → Bucket) : Act := Act.get fun s => Act.setMtrC k (f (s.mtrC k))

/-- MtrE: the default of the excess bucket of meter k. -/
def mtrEBlank (_ : Nat) : Bucket := {}

/-- The excess bucket of meter k. -/
def State.mtrE (s : State) (k : Nat) : Bucket := Sparse.get mtrEBlank s.sw.meterE k

/-- Set the excess bucket of meter k. -/
def Act.setMtrE (k : Nat) (v : Bucket) : Act :=
  Act.upd fun s => { s with sw := { s.sw with meterE := Sparse.put mtrEBlank k v s.sw.meterE } }

/-- Change the excess bucket of meter k. -/
def Act.modMtrE (k : Nat) (f : Bucket → Bucket) : Act := Act.get fun s => Act.setMtrE k (f (s.mtrE k))

/-- Shaper: the default of shaper k. -/
def shaperBlank (_ : Nat) : Shaper := {}

/-- Shaper k. -/
def State.shaper (s : State) (k : Nat) : Shaper := Sparse.get shaperBlank s.sw.shapers k

/-- Set shaper k. -/
def Act.setShaper (k : Nat) (v : Shaper) : Act :=
  Act.upd fun s => { s with sw := { s.sw with shapers := Sparse.put shaperBlank k v s.sw.shapers } }

/-- Change shaper k. -/
def Act.modShaper (k : Nat) (f : Shaper → Shaper) : Act := Act.get fun s => Act.setShaper k (f (s.shaper k))

/-- Gate: the default of the gates of facet k. -/
def gateBlank (_ : Nat) : Gates := {}

/-- The gates of facet k. -/
def State.gate (s : State) (k : Nat) : Gates := Sparse.get gateBlank s.sw.gates k

/-- Set the gates of facet k. -/
def Act.setGate (k : Nat) (v : Gates) : Act :=
  Act.upd fun s => { s with sw := { s.sw with gates := Sparse.put gateBlank k v s.sw.gates } }

/-- Change the gates of facet k. -/
def Act.modGate (k : Nat) (f : Gates → Gates) : Act := Act.get fun s => Act.setGate k (f (s.gate k))

/-- Rcv: the default of recovery entry k. -/
def rcvBlank (_ : Nat) : Recovery := {}

/-- Recovery entry k. -/
def State.rcv (s : State) (k : Nat) : Recovery := Sparse.get rcvBlank s.sw.recov k

/-- Set recovery entry k. -/
def Act.setRcv (k : Nat) (v : Recovery) : Act :=
  Act.upd fun s => { s with sw := { s.sw with recov := Sparse.put rcvBlank k v s.sw.recov } }

/-- Change recovery entry k. -/
def Act.modRcv (k : Nat) (f : Recovery → Recovery) : Act := Act.get fun s => Act.setRcv k (f (s.rcv k))

/-- LockedAt: the default of the die time at which lock k was written. -/
def lockedAtBlank (_ : Nat) : Nat := 0

/-- The die time at which lock k was written. -/
def State.lockedAt (s : State) (k : Nat) : Nat := Sparse.get lockedAtBlank s.sw.lockAt k

/-- Set the die time at which lock k was written. -/
def Act.setLockedAt (k : Nat) (v : Nat) : Act :=
  Act.upd fun s => { s with sw := { s.sw with lockAt := Sparse.put lockedAtBlank k v s.sw.lockAt } }

/-- Change the die time at which lock k was written. -/
def Act.modLockedAt (k : Nat) (f : Nat → Nat) : Act := Act.get fun s => Act.setLockedAt k (f (s.lockedAt k))

/-- Eth: the default of Ethernet facet k. -/
def ethBlank (_ : Nat) : EthFacet := {}

/-- Ethernet facet k. -/
def State.eth (s : State) (k : Nat) : EthFacet := Sparse.get ethBlank s.sw.eths k

/-- Set Ethernet facet k. -/
def Act.setEth (k : Nat) (v : EthFacet) : Act :=
  Act.upd fun s => { s with sw := { s.sw with eths := Sparse.put ethBlank k v s.sw.eths } }

/-- Change Ethernet facet k. -/
def Act.modEth (k : Nat) (f : EthFacet → EthFacet) : Act := Act.get fun s => Act.setEth k (f (s.eth k))

/-- Tim: the default of the time of Prism die k. -/
def timBlank (_ : Nat) : DieTime := {}

/-- The time of Prism die k. -/
def State.tim (s : State) (k : Nat) : DieTime := Sparse.get timBlank s.sw.times k

/-- Set the time of Prism die k. -/
def Act.setTim (k : Nat) (v : DieTime) : Act :=
  Act.upd fun s => { s with sw := { s.sw with times := Sparse.put timBlank k v s.sw.times } }

/-- Change the time of Prism die k. -/
def Act.modTim (k : Nat) (f : DieTime → DieTime) : Act := Act.get fun s => Act.setTim k (f (s.tim k))

/-- Bus: the default of the frames of MDIO bus k. -/
def busBlank (_ : Nat) : List (Nat × Nat) := []

/-- The frames of MDIO bus k. -/
def State.bus (s : State) (k : Nat) : List (Nat × Nat) := Sparse.get busBlank s.sw.mdio k

/-- Set the frames of MDIO bus k. -/
def Act.setBus (k : Nat) (v : List (Nat × Nat)) : Act :=
  Act.upd fun s => { s with sw := { s.sw with mdio := Sparse.put busBlank k v s.sw.mdio } }

/-- Change the frames of MDIO bus k. -/
def Act.modBus (k : Nat) (f : List (Nat × Nat) → List (Nat × Nat)) : Act := Act.get fun s => Act.setBus k (f (s.bus k))

/-- Die: the default of the die time of Prism die k in 2^-32 ns. -/
def dieBlank (_ : Nat) : Nat := 0

/-- The die time of Prism die k in 2^-32 ns. -/
def State.die (s : State) (k : Nat) : Nat := Sparse.get dieBlank s.sw.dieTime k

/-- Set the die time of Prism die k in 2^-32 ns. -/
def Act.setDie (k : Nat) (v : Nat) : Act :=
  Act.upd fun s => { s with sw := { s.sw with dieTime := Sparse.put dieBlank k v s.sw.dieTime } }

/-- Change the die time of Prism die k in 2^-32 ns. -/
def Act.modDie (k : Nat) (f : Nat → Nat) : Act := Act.get fun s => Act.setDie k (f (s.die k))

/-- FidNo: the default of the frame number of facet and class k. -/
def fidNoBlank (_ : Nat) : Nat := 0

/-- The frame number of facet and class k. -/
def State.fidNo (s : State) (k : Nat) : Nat := Sparse.get fidNoBlank s.sw.fids k

/-- Set the frame number of facet and class k. -/
def Act.setFidNo (k : Nat) (v : Nat) : Act :=
  Act.upd fun s => { s with sw := { s.sw with fids := Sparse.put fidNoBlank k v s.sw.fids } }

/-- Change the frame number of facet and class k. -/
def Act.modFidNo (k : Nat) (f : Nat → Nat) : Act := Act.get fun s => Act.setFidNo k (f (s.fidNo k))

/-- Recorder: the default of the recorder of Prism die k. -/
def recorderBlank (_ : Nat) : Recorder := {}

/-- The recorder of Prism die k. -/
def State.recorder (s : State) (k : Nat) : Recorder := Sparse.get recorderBlank s.mon.recorders k

/-- Set the recorder of Prism die k. -/
def Act.setRecorder (k : Nat) (v : Recorder) : Act :=
  Act.upd fun s => { s with mon := { s.mon with recorders := Sparse.put recorderBlank k v s.mon.recorders } }

/-- Change the recorder of Prism die k. -/
def Act.modRecorder (k : Nat) (f : Recorder → Recorder) : Act := Act.get fun s => Act.setRecorder k (f (s.recorder k))

/-- RecLost: the default of the recorder copies lost at queue k. -/
def recLostBlank (_ : Nat) : Nat := 0

/-- The recorder copies lost at queue k. -/
def State.recLost (s : State) (k : Nat) : Nat := Sparse.get recLostBlank s.mon.recLoss k

/-- Set the recorder copies lost at queue k. -/
def Act.setRecLost (k : Nat) (v : Nat) : Act :=
  Act.upd fun s => { s with mon := { s.mon with recLoss := Sparse.put recLostBlank k v s.mon.recLoss } }

/-- Change the recorder copies lost at queue k. -/
def Act.modRecLost (k : Nat) (f : Nat → Nat) : Act := Act.get fun s => Act.setRecLost k (f (s.recLost k))

/-- Kslot: the default of key slot k. -/
def kslotBlank (_ : Nat) : KeySlot := {}

/-- Key slot k. -/
def State.kslot (s : State) (k : Nat) : KeySlot := Sparse.get kslotBlank s.sec.slots k

/-- Set key slot k. -/
def Act.setKslot (k : Nat) (v : KeySlot) : Act :=
  Act.upd fun s => { s with sec := { s.sec with slots := Sparse.put kslotBlank k v s.sec.slots } }

/-- Change key slot k. -/
def Act.modKslot (k : Nat) (f : KeySlot → KeySlot) : Act := Act.get fun s => Act.setKslot k (f (s.kslot k))

/-- Kstore: the default of the key store of Prism die k. -/
def kstoreBlank (_ : Nat) : KeyStore := {}

/-- The key store of Prism die k. -/
def State.kstore (s : State) (k : Nat) : KeyStore := Sparse.get kstoreBlank s.sec.stores k

/-- Set the key store of Prism die k. -/
def Act.setKstore (k : Nat) (v : KeyStore) : Act :=
  Act.upd fun s => { s with sec := { s.sec with stores := Sparse.put kstoreBlank k v s.sec.stores } }

/-- Change the key store of Prism die k. -/
def Act.modKstore (k : Nat) (f : KeyStore → KeyStore) : Act := Act.get fun s => Act.setKstore k (f (s.kstore k))

/-- Fresh: the default of the freshness of seal profile k. -/
def freshBlank (_ : Nat) : Fresh := {}

/-- The freshness of seal profile k. -/
def State.fresh (s : State) (k : Nat) : Fresh := Sparse.get freshBlank s.sec.fresh k

/-- Set the freshness of seal profile k. -/
def Act.setFresh (k : Nat) (v : Fresh) : Act :=
  Act.upd fun s => { s with sec := { s.sec with fresh := Sparse.put freshBlank k v s.sec.fresh } }

/-- Change the freshness of seal profile k. -/
def Act.modFresh (k : Nat) (f : Fresh → Fresh) : Act := Act.get fun s => Act.setFresh k (f (s.fresh k))

/-- Job: the default of cipher job k. -/
def jobBlank (_ : Nat) : Option CipherJob := none

/-- Cipher job k. -/
def State.job (s : State) (k : Nat) : Option CipherJob := Sparse.get jobBlank s.sec.jobs k

/-- Set cipher job k. -/
def Act.setJob (k : Nat) (v : Option CipherJob) : Act :=
  Act.upd fun s => { s with sec := { s.sec with jobs := Sparse.put jobBlank k v s.sec.jobs } }

/-- Change cipher job k. -/
def Act.modJob (k : Nat) (f : Option CipherJob → Option CipherJob) : Act := Act.get fun s => Act.setJob k (f (s.job k))

/-- LpmSeq: the default of the insert sequence of die k's longest-prefix memory. -/
def lpmSeqBlank (_ : Nat) : Nat := 0

/-- The insert sequence of die k's longest-prefix memory. -/
def State.lpmSeq (s : State) (k : Nat) : Nat := Sparse.get lpmSeqBlank s.sw.lpmStamp k

/-- Set the insert sequence of die k's longest-prefix memory. -/
def Act.setLpmSeq (k : Nat) (v : Nat) : Act :=
  Act.upd fun s => { s with sw := { s.sw with lpmStamp := Sparse.put lpmSeqBlank k v s.sw.lpmStamp } }

/-- Change the insert sequence of die k's longest-prefix memory. -/
def Act.modLpmSeq (k : Nat) (f : Nat → Nat) : Act := Act.get fun s => Act.setLpmSeq k (f (s.lpmSeq k))

/-- Tjob: the default of table DMA job k. -/
def tjobBlank (_ : Nat) : Option TdmaJob := none

/-- Table DMA job k. -/
def State.tjob (s : State) (k : Nat) : Option TdmaJob := Sparse.get tjobBlank s.sw.tdma k

/-- Set table DMA job k. -/
def Act.setTjob (k : Nat) (v : Option TdmaJob) : Act :=
  Act.upd fun s => { s with sw := { s.sw with tdma := Sparse.put tjobBlank k v s.sw.tdma } }

/-- Change table DMA job k. -/
def Act.modTjob (k : Nat) (f : Option TdmaJob → Option TdmaJob) : Act := Act.get fun s => Act.setTjob k (f (s.tjob k))

/-- Can: the default of CAN controller k. -/
def canBlank (_ : Nat) : CanCtl := {}

/-- CAN controller k. -/
def State.can (s : State) (k : Nat) : CanCtl := Sparse.get canBlank s.nets.cans k

/-- Set CAN controller k. -/
def Act.setCan (k : Nat) (v : CanCtl) : Act :=
  Act.upd fun s => { s with nets := { s.nets with cans := Sparse.put canBlank k v s.nets.cans } }

/-- Change CAN controller k. -/
def Act.modCan (k : Nat) (f : CanCtl → CanCtl) : Act := Act.get fun s => Act.setCan k (f (s.can k))

/-- Trk: the default of tracker entry k. -/
def trkBlank (_ : Nat) : Option (Nat × Nat) := none

/-- Tracker entry k. -/
def State.trk (s : State) (k : Nat) : Option (Nat × Nat) := Sparse.get trkBlank s.nets.trackers k

/-- Set tracker entry k. -/
def Act.setTrk (k : Nat) (v : Option (Nat × Nat)) : Act :=
  Act.upd fun s => { s with nets := { s.nets with trackers := Sparse.put trkBlank k v s.nets.trackers } }

/-- Change tracker entry k. -/
def Act.modTrk (k : Nat) (f : Option (Nat × Nat) → Option (Nat × Nat)) : Act := Act.get fun s => Act.setTrk k (f (s.trk k))

/-- Lin: the default of LIN controller k. -/
def linBlank (_ : Nat) : LinCtl := {}

/-- LIN controller k. -/
def State.lin (s : State) (k : Nat) : LinCtl := Sparse.get linBlank s.nets.lins k

/-- Set LIN controller k. -/
def Act.setLin (k : Nat) (v : LinCtl) : Act :=
  Act.upd fun s => { s with nets := { s.nets with lins := Sparse.put linBlank k v s.nets.lins } }

/-- Change LIN controller k. -/
def Act.modLin (k : Nat) (f : LinCtl → LinCtl) : Act := Act.get fun s => Act.setLin k (f (s.lin k))

/-- Pub: the default of publish buffer k. -/
def pubBlank (_ : Nat) : Nat × Bool := (0, false)

/-- Publish buffer k. -/
def State.pub (s : State) (k : Nat) : Nat × Bool := Sparse.get pubBlank s.nets.pubs k

/-- Set publish buffer k. -/
def Act.setPub (k : Nat) (v : Nat × Bool) : Act :=
  Act.upd fun s => { s with nets := { s.nets with pubs := Sparse.put pubBlank k v s.nets.pubs } }

/-- Change publish buffer k. -/
def Act.modPub (k : Nat) (f : Nat × Bool → Nat × Bool) : Act := Act.get fun s => Act.setPub k (f (s.pub k))

/-- Xcvr: the default of transceiver k. -/
def xcvrBlank (_ : Nat) : Xcvr := {}

/-- Transceiver k. -/
def State.xcvr (s : State) (k : Nat) : Xcvr := Sparse.get xcvrBlank s.nets.xcvrs k

/-- Set transceiver k. -/
def Act.setXcvr (k : Nat) (v : Xcvr) : Act :=
  Act.upd fun s => { s with nets := { s.nets with xcvrs := Sparse.put xcvrBlank k v s.nets.xcvrs } }

/-- Change transceiver k. -/
def Act.modXcvr (k : Nat) (f : Xcvr → Xcvr) : Act := Act.get fun s => Act.setXcvr k (f (s.xcvr k))

/-- LinOver: the default of the LIN_SUP condition of drive die k. -/
def linOverBlank (_ : Nat) : Bool := false

/-- The LIN_SUP condition of drive die k. -/
def State.linOver (s : State) (k : Nat) : Bool := Sparse.get linOverBlank s.nets.linHigh k

/-- Set the LIN_SUP condition of drive die k. -/
def Act.setLinOver (k : Nat) (v : Bool) : Act :=
  Act.upd fun s => { s with nets := { s.nets with linHigh := Sparse.put linOverBlank k v s.nets.linHigh } }

/-- Change the LIN_SUP condition of drive die k. -/
def Act.modLinOver (k : Nat) (f : Bool → Bool) : Act := Act.get fun s => Act.setLinOver k (f (s.linOver k))

/-- Sig: the default of signal k: VALUE and TS. -/
def sigBlank (_ : Nat) : Nat × Nat := (0, 0)

/-- Signal k: VALUE and TS. -/
def State.sig (s : State) (k : Nat) : Nat × Nat := Sparse.get sigBlank s.gw.sigs k

/-- Set signal k: VALUE and TS. -/
def Act.setSig (k : Nat) (v : Nat × Nat) : Act :=
  Act.upd fun s => { s with gw := { s.gw with sigs := Sparse.put sigBlank k v s.gw.sigs } }

/-- Change signal k: VALUE and TS. -/
def Act.modSig (k : Nat) (f : Nat × Nat → Nat × Nat) : Act := Act.get fun s => Act.setSig k (f (s.sig k))

/-- Pdu: the default of what PDU entry k has done. -/
def pduBlank (_ : Nat) : PduRun := {}

/-- What PDU entry k has done. -/
def State.pdu (s : State) (k : Nat) : PduRun := Sparse.get pduBlank s.gw.pdus k

/-- Set what PDU entry k has done. -/
def Act.setPdu (k : Nat) (v : PduRun) : Act :=
  Act.upd fun s => { s with gw := { s.gw with pdus := Sparse.put pduBlank k v s.gw.pdus } }

/-- Change what PDU entry k has done. -/
def Act.modPdu (k : Nat) (f : PduRun → PduRun) : Act := Act.get fun s => Act.setPdu k (f (s.pdu k))

/-- Cad: the default of the die time from which cadences run on Prism die k. -/
def cadBlank (_ : Nat) : Option Nat := none

/-- The die time from which cadences run on Prism die k. -/
def State.cad (s : State) (k : Nat) : Option Nat := Sparse.get cadBlank s.gw.cadences k

/-- Set the die time from which cadences run on Prism die k. -/
def Act.setCad (k : Nat) (v : Option Nat) : Act :=
  Act.upd fun s => { s with gw := { s.gw with cadences := Sparse.put cadBlank k v s.gw.cadences } }

/-- Change the die time from which cadences run on Prism die k. -/
def Act.modCad (k : Nat) (f : Option Nat → Option Nat) : Act := Act.get fun s => Act.setCad k (f (s.cad k))

/-- Tun: the default of tunnel k. -/
def tunBlank (_ : Nat) : Tunnel := {}

/-- Tunnel k. -/
def State.tun (s : State) (k : Nat) : Tunnel := Sparse.get tunBlank s.gw.tunnels k

/-- Set tunnel k. -/
def Act.setTun (k : Nat) (v : Tunnel) : Act :=
  Act.upd fun s => { s with gw := { s.gw with tunnels := Sparse.put tunBlank k v s.gw.tunnels } }

/-- Change tunnel k. -/
def Act.modTun (k : Nat) (f : Tunnel → Tunnel) : Act := Act.get fun s => Act.setTun k (f (s.tun k))

/-- Sess: the default of the open transport sessions of Prism die k. -/
def sessBlank (_ : Nat) : List Session := []

/-- The open transport sessions of Prism die k. -/
def State.sess (s : State) (k : Nat) : List Session := Sparse.get sessBlank s.gw.sessions k

/-- Set the open transport sessions of Prism die k. -/
def Act.setSess (k : Nat) (v : List Session) : Act :=
  Act.upd fun s => { s with gw := { s.gw with sessions := Sparse.put sessBlank k v s.gw.sessions } }

/-- Change the open transport sessions of Prism die k. -/
def Act.modSess (k : Nat) (f : List Session → List Session) : Act := Act.get fun s => Act.setSess k (f (s.sess k))

/-- Byp: the default of the ETP sessions of Prism die k that firmware handles. -/
def bypBlank (_ : Nat) : List Bypass := []

/-- The ETP sessions of Prism die k that firmware handles. -/
def State.byp (s : State) (k : Nat) : List Bypass := Sparse.get bypBlank s.gw.bypasses k

/-- Set the ETP sessions of Prism die k that firmware handles. -/
def Act.setByp (k : Nat) (v : List Bypass) : Act :=
  Act.upd fun s => { s with gw := { s.gw with bypasses := Sparse.put bypBlank k v s.gw.bypasses } }

/-- Change the ETP sessions of Prism die k that firmware handles. -/
def Act.modByp (k : Nat) (f : List Bypass → List Bypass) : Act := Act.get fun s => Act.setByp k (f (s.byp k))

/-- Wpend: the default of the pending entries of window bridge k. -/
def wpendBlank (_ : Nat) : List WinPend := []

/-- The pending entries of window bridge k. -/
def State.wpend (s : State) (k : Nat) : List WinPend := Sparse.get wpendBlank s.gw.winPends k

/-- Set the pending entries of window bridge k. -/
def Act.setWpend (k : Nat) (v : List WinPend) : Act :=
  Act.upd fun s => { s with gw := { s.gw with winPends := Sparse.put wpendBlank k v s.gw.winPends } }

/-- Change the pending entries of window bridge k. -/
def Act.modWpend (k : Nat) (f : List WinPend → List WinPend) : Act := Act.get fun s => Act.setWpend k (f (s.wpend k))

/-- Wpost: the default of the posted writes of window bridge k. -/
def wpostBlank (_ : Nat) : List WinPost := []

/-- The posted writes of window bridge k. -/
def State.wpost (s : State) (k : Nat) : List WinPost := Sparse.get wpostBlank s.gw.winPosts k

/-- Set the posted writes of window bridge k. -/
def Act.setWpost (k : Nat) (v : List WinPost) : Act :=
  Act.upd fun s => { s with gw := { s.gw with winPosts := Sparse.put wpostBlank k v s.gw.winPosts } }

/-- Change the posted writes of window bridge k. -/
def Act.modWpost (k : Nat) (f : List WinPost → List WinPost) : Act := Act.get fun s => Act.setWpost k (f (s.wpost k))

/-- Member: the default of the domain-table entry of device k. -/
def memberBlank (_ : Nat) : Option Member := none

/-- The domain-table entry of device k. -/
def State.member (s : State) (k : Nat) : Option Member := Sparse.get memberBlank s.plx.members k

/-- Set the domain-table entry of device k. -/
def Act.setMember (k : Nat) (v : Option Member) : Act :=
  Act.upd fun s => { s with plx := { s.plx with members := Sparse.put memberBlank k v s.plx.members } }

/-- Change the domain-table entry of device k. -/
def Act.modMember (k : Nat) (f : Option Member → Option Member) : Act := Act.get fun s => Act.setMember k (f (s.member k))

/-- Cens: the default of census entry k. -/
def censBlank (_ : Nat) : Option (Nat × Nat) := none

/-- Census entry k. -/
def State.cens (s : State) (k : Nat) : Option (Nat × Nat) := Sparse.get censBlank s.plx.census k

/-- Set census entry k. -/
def Act.setCens (k : Nat) (v : Option (Nat × Nat)) : Act :=
  Act.upd fun s => { s with plx := { s.plx with census := Sparse.put censBlank k v s.plx.census } }

/-- Change census entry k. -/
def Act.modCens (k : Nat) (f : Option (Nat × Nat) → Option (Nat × Nat)) : Act := Act.get fun s => Act.setCens k (f (s.cens k))

/-- Chan: the default of channel k. -/
def chanBlank (_ : Nat) : Channel := {}

/-- Channel k. -/
def State.chan (s : State) (k : Nat) : Channel := Sparse.get chanBlank s.io.chans k

/-- Set channel k. -/
def Act.setChan (k : Nat) (v : Channel) : Act :=
  Act.upd fun s => { s with io := { s.io with chans := Sparse.put chanBlank k v s.io.chans } }

/-- Change channel k. -/
def Act.modChan (k : Nat) (f : Channel → Channel) : Act := Act.get fun s => Act.setChan k (f (s.chan k))

/-- Drv: the default of drive die k. -/
def drvBlank (_ : Nat) : DriveDie := {}

/-- Drive die k. -/
def State.drv (s : State) (k : Nat) : DriveDie := Sparse.get drvBlank s.io.drives k

/-- Set drive die k. -/
def Act.setDrv (k : Nat) (v : DriveDie) : Act :=
  Act.upd fun s => { s with io := { s.io with drives := Sparse.put drvBlank k v s.io.drives } }

/-- Change drive die k. -/
def Act.modDrv (k : Nat) (f : DriveDie → DriveDie) : Act := Act.get fun s => Act.setDrv k (f (s.drv k))

/-- Pnet: the default of partial network k. -/
def pnetBlank (_ : Nat) : PartNet := {}

/-- Partial network k. -/
def State.pnet (s : State) (k : Nat) : PartNet := Sparse.get pnetBlank s.io.pnets k

/-- Set partial network k. -/
def Act.setPnet (k : Nat) (v : PartNet) : Act :=
  Act.upd fun s => { s with io := { s.io with pnets := Sparse.put pnetBlank k v s.io.pnets } }

/-- Change partial network k. -/
def Act.modPnet (k : Nat) (f : PartNet → PartNet) : Act := Act.get fun s => Act.setPnet k (f (s.pnet k))

/-- Part: the default of partition k. -/
def partBlank (_ : Nat) : Partition := {}

/-- Partition k. -/
def State.part (s : State) (k : Nat) : Partition := Sparse.get partBlank s.cpu.parts k

/-- Set partition k. -/
def Act.setPart (k : Nat) (v : Partition) : Act :=
  Act.upd fun s => { s with cpu := { s.cpu with parts := Sparse.put partBlank k v s.cpu.parts } }

/-- Change partition k. -/
def Act.modPart (k : Nat) (f : Partition → Partition) : Act := Act.get fun s => Act.setPart k (f (s.part k))

/-- SafePair: the default of the safety pair of Prism die k. -/
def safePairBlank (_ : Nat) : SafePair := {}

/-- The safety pair of Prism die k. -/
def State.safePair (s : State) (k : Nat) : SafePair := Sparse.get safePairBlank s.cpu.pairs k

/-- Set the safety pair of Prism die k. -/
def Act.setSafePair (k : Nat) (v : SafePair) : Act :=
  Act.upd fun s => { s with cpu := { s.cpu with pairs := Sparse.put safePairBlank k v s.cpu.pairs } }

/-- Change the safety pair of Prism die k. -/
def Act.modSafePair (k : Nat) (f : SafePair → SafePair) : Act := Act.get fun s => Act.setSafePair k (f (s.safePair k))

/-- SlotOf: the default of the slot that core k runs. -/
def slotOfBlank (_ : Nat) : Nat := 0

/-- The slot that core k runs. -/
def State.slotOf (s : State) (k : Nat) : Nat := Sparse.get slotOfBlank s.cpu.coreSlots k

/-- Set the slot that core k runs. -/
def Act.setSlotOf (k : Nat) (v : Nat) : Act :=
  Act.upd fun s => { s with cpu := { s.cpu with coreSlots := Sparse.put slotOfBlank k v s.cpu.coreSlots } }

/-- Change the slot that core k runs. -/
def Act.modSlotOf (k : Nat) (f : Nat → Nat) : Act := Act.get fun s => Act.setSlotOf k (f (s.slotOf k))

/-- Ring: the default of transmit ring k. -/
def ringBlank (_ : Nat) : TxRing := {}

/-- Transmit ring k. -/
def State.ring (s : State) (k : Nat) : TxRing := Sparse.get ringBlank s.cpu.rings k

/-- Set transmit ring k. -/
def Act.setRing (k : Nat) (v : TxRing) : Act :=
  Act.upd fun s => { s with cpu := { s.cpu with rings := Sparse.put ringBlank k v s.cpu.rings } }

/-- Change transmit ring k. -/
def Act.modRing (k : Nat) (f : TxRing → TxRing) : Act := Act.get fun s => Act.setRing k (f (s.ring k))

/-- AprLevel: the default of the bucket of aperture entry k. -/
def aprLevelBlank (_ : Nat) : Option (Int × Nat) := none

/-- The bucket of aperture entry k. -/
def State.aprLevel (s : State) (k : Nat) : Option (Int × Nat) := Sparse.get aprLevelBlank s.cpu.aprLevels k

/-- Set the bucket of aperture entry k. -/
def Act.setAprLevel (k : Nat) (v : Option (Int × Nat)) : Act :=
  Act.upd fun s => { s with cpu := { s.cpu with aprLevels := Sparse.put aprLevelBlank k v s.cpu.aprLevels } }

/-- Change the bucket of aperture entry k. -/
def Act.modAprLevel (k : Nat) (f : Option (Int × Nat) → Option (Int × Nat)) : Act := Act.get fun s => Act.setAprLevel k (f (s.aprLevel k))

/-- AprAt: the default of the edge at which channel state k changed. -/
def aprAtBlank (_ : Nat) : Nat := 0

/-- The edge at which channel state k changed. -/
def State.aprAt (s : State) (k : Nat) : Nat := Sparse.get aprAtBlank s.cpu.aprSince k

/-- Set the edge at which channel state k changed. -/
def Act.setAprAt (k : Nat) (v : Nat) : Act :=
  Act.upd fun s => { s with cpu := { s.cpu with aprSince := Sparse.put aprAtBlank k v s.cpu.aprSince } }

/-- Change the edge at which channel state k changed. -/
def Act.modAprAt (k : Nat) (f : Nat → Nat) : Act := Act.get fun s => Act.setAprAt k (f (s.aprAt k))

/-- ServedRing: the default of the ring of Prism die k served last. -/
def servedRingBlank (_ : Nat) : Nat := 15

/-- The ring of Prism die k served last. -/
def State.servedRing (s : State) (k : Nat) : Nat := Sparse.get servedRingBlank s.cpu.served k

/-- Set the ring of Prism die k served last. -/
def Act.setServedRing (k : Nat) (v : Nat) : Act :=
  Act.upd fun s => { s with cpu := { s.cpu with served := Sparse.put servedRingBlank k v s.cpu.served } }

/-- Change the ring of Prism die k served last. -/
def Act.modServedRing (k : Nat) (f : Nat → Nat) : Act := Act.get fun s => Act.setServedRing k (f (s.servedRing k))

/-- Mtr: the default of Loupe monitor k. -/
def mtrBlank (_ : Nat) : Monitor := {}

/-- Loupe monitor k. -/
def State.mtr (s : State) (k : Nat) : Monitor := Sparse.get mtrBlank s.mon.monitors k

/-- Set Loupe monitor k. -/
def Act.setMtr (k : Nat) (v : Monitor) : Act :=
  Act.upd fun s => { s with mon := { s.mon with monitors := Sparse.put mtrBlank k v s.mon.monitors } }

/-- Change Loupe monitor k. -/
def Act.modMtr (k : Nat) (f : Monitor → Monitor) : Act := Act.get fun s => Act.setMtr k (f (s.mtr k))

/-- FabOff: the default of the edge at which FAB of die k was last found disabled. -/
def fabOffBlank (_ : Nat) : Nat := 0

/-- The edge at which FAB of die k was last found disabled. -/
def State.fabOff (s : State) (k : Nat) : Nat := Sparse.get fabOffBlank s.sw.fabOffs k

/-- Set the edge at which FAB of die k was last found disabled. -/
def Act.setFabOff (k : Nat) (v : Nat) : Act :=
  Act.upd fun s => { s with sw := { s.sw with fabOffs := Sparse.put fabOffBlank k v s.sw.fabOffs } }

/-- Change the edge at which FAB of die k was last found disabled. -/
def Act.modFabOff (k : Nat) (f : Nat → Nat) : Act := Act.get fun s => Act.setFabOff k (f (s.fabOff k))

/-- Turn: the default of the finish tag of ingress facet k. -/
def turnBlank (_ : Nat) : Nat := 0

/-- The finish tag of ingress facet k. -/
def State.turn (s : State) (k : Nat) : Nat := Sparse.get turnBlank s.sw.turns k

/-- Set the finish tag of ingress facet k. -/
def Act.setTurn (k : Nat) (v : Nat) : Act :=
  Act.upd fun s => { s with sw := { s.sw with turns := Sparse.put turnBlank k v s.sw.turns } }

/-- Change the finish tag of ingress facet k. -/
def Act.modTurn (k : Nat) (f : Nat → Nat) : Act := Act.get fun s => Act.setTurn k (f (s.turn k))

/-- TurnNow: the default of the tag of the latest entry of die k. -/
def turnNowBlank (_ : Nat) : Nat := 0

/-- The tag of the latest entry of die k. -/
def State.turnNow (s : State) (k : Nat) : Nat := Sparse.get turnNowBlank s.sw.turnNows k

/-- Set the tag of the latest entry of die k. -/
def Act.setTurnNow (k : Nat) (v : Nat) : Act :=
  Act.upd fun s => { s with sw := { s.sw with turnNows := Sparse.put turnNowBlank k v s.sw.turnNows } }

/-- Change the tag of the latest entry of die k. -/
def Act.modTurnNow (k : Nat) (f : Nat → Nat) : Act := Act.get fun s => Act.setTurnNow k (f (s.turnNow k))

/-- Tallied: the default of what source k counted in the last slow-clock period. -/
def talliedBlank (_ : Nat) : Nat := 0

/-- What source k counted in the last slow-clock period. -/
def State.tallied (s : State) (k : Nat) : Nat := Sparse.get talliedBlank s.mon.tallied k

/-- Set what source k counted in the last slow-clock period. -/
def Act.setTallied (k : Nat) (v : Nat) : Act :=
  Act.upd fun s => { s with mon := { s.mon with tallied := Sparse.put talliedBlank k v s.mon.tallied } }

/-- Change what source k counted in the last slow-clock period. -/
def Act.modTallied (k : Nat) (f : Nat → Nat) : Act := Act.get fun s => Act.setTallied k (f (s.tallied k))

/-- Tally: the default of what source k has counted in this slow-clock period. -/
def tallyBlank (_ : Nat) : Nat := 0

/-- What source k has counted in this slow-clock period. -/
def State.tally (s : State) (k : Nat) : Nat := Sparse.get tallyBlank s.mon.tallies k

/-- Set what source k has counted in this slow-clock period. -/
def Act.setTally (k : Nat) (v : Nat) : Act :=
  Act.upd fun s => { s with mon := { s.mon with tallies := Sparse.put tallyBlank k v s.mon.tallies } }

/-- Change what source k has counted in this slow-clock period. -/
def Act.modTally (k : Nat) (f : Nat → Nat) : Act := Act.get fun s => Act.setTally k (f (s.tally k))

/-- SlotEdge: the default of the edge at which core k entered its slot. -/
def slotEdgeBlank (_ : Nat) : Nat := 0

/-- The edge at which core k entered its slot. -/
def State.slotEdge (s : State) (k : Nat) : Nat := Sparse.get slotEdgeBlank s.cpu.slotEdges k

/-- Set the edge at which core k entered its slot. -/
def Act.setSlotEdge (k : Nat) (v : Nat) : Act :=
  Act.upd fun s => { s with cpu := { s.cpu with slotEdges := Sparse.put slotEdgeBlank k v s.cpu.slotEdges } }

/-- Change the edge at which core k entered its slot. -/
def Act.modSlotEdge (k : Nat) (f : Nat → Nat) : Act := Act.get fun s => Act.setSlotEdge k (f (s.slotEdge k))

end Sys2Proof.Machine
end

