-- ==== Sys2Proof/Machine/Ops.lean ====
section
/-! DEFINITION. The named operations over registers: reading and setting fields, events and their sequence numbers,
statistics counters, interrupts, block errors. -/

namespace Sys2Proof.Machine

/-! ## Registers -/

/-- The stored value of a register: the one listed, or its reset value (R19). -/
def State.reg (s : State) (a : Nat) : Word := Sparse.get regReset s.regs a

/-- A field of a stored register. -/
def State.fld (s : State) (a : Nat) (f : Fld) : Nat := fget (s.reg a) f

/-- A one-bit field of a stored register, as a truth value. -/
def State.flag (s : State) (a : Nat) (f : Fld) : Bool := decide (s.fld a f ≠ 0)

/-- The fused bits of a register, over its stored bits (R19). -/
def State.fused (s : State) (a : Nat) (v : Word) : Word :=
  match regRow a with
  | none => v
  | some w =>
    let m := BitVec.ofNat 48 w.fuse
    (v &&& ~~~ m) ||| (Sparse.get tblBlank s.fuse.words a &&& m)

/-- A field of a register that shows fuses (R75). -/
def State.fuseFld (s : State) (a : Nat) (f : Fld) : Nat := fget (s.fused a (s.reg a)) f

/-- Set field f of register a. -/
def Act.setFld (a : Nat) (f : Fld) (n : Nat) : Act := Act.get fun s => Act.setReg a (fset (s.reg a) f n)

/-- Set several fields of register a. -/
def Act.setFlds (a : Nat) (l : List (Fld × Nat)) : Act :=
  Act.get fun s => Act.setReg a (l.foldl (fun v e => fset v e.1 e.2) (s.reg a))

/-- Add n to a field that saturates. -/
def Act.bumpFld (a : Nat) (f : Fld) (n : Nat) : Act :=
  Act.get fun s => Act.setFld a f (sat (2 ^ f.w - 1) (s.fld a f + n))

/-- Keep the greater of a field and n, saturating. -/
def Act.maxFld (a : Nat) (f : Fld) (n : Nat) : Act :=
  Act.get fun s => Act.setFld a f (max (s.fld a f) (sat (2 ^ f.w - 1) n))

/-! ## Events (R163) -/

/-- The number a key reads as when no event has been recorded: the reset record begins with event 1, the power-on
reset itself (R84, R87). -/
def evtBlank (k : Nat) : Nat := if k = 64 * RSTC.CAUSE 0 ∨ k = 63 + 64 * RSTC.CAUSE 0 then 1 else 0

/-- The number of the event that last set bit i of SC register a (e of R163). -/
def State.evt (s : State) (a i : Nat) : Nat := Sparse.get evtBlank s.evtNo (i + 64 * a)

/-- How many events SC register a has recorded; its SEQ is this number modulo 256. -/
def State.evtCount (s : State) (a : Nat) : Nat := Sparse.get evtBlank s.evtNo (63 + 64 * a)

/-- The SEQ field of every SC register. -/
def scSeq : Fld := ⟨16, 8⟩

/-- Note the number of an event. -/
def Act.noteEvt (a i n : Nat) : Act := Act.upd fun s => { s with evtNo := Sparse.put evtBlank (i + 64 * a) n s.evtNo }

/-- Record an event in bit i of SC register a: the bit is set, SEQ increments by 1 modulo 256, and the bit remembers
the event's number (R163). -/
def Act.event (a i : Nat) : Act :=
  Act.get fun s =>
    let n := s.evtCount a + 1
    Act.all [
      Act.setReg a (fset (setBit (s.reg a) i) scSeq (n % 256)),
      Act.noteEvt a i n,
      Act.noteEvt a 63 n]

/-- Is a clearing write of q admissible for SC register a (R163)? -/
def State.seqOk (s : State) (a q : Nat) : Bool := decide ((s.evtCount a + 256 - q % 256) % 256 ≤ 127)

/-- Does an admissible clearing write of q clear bit i of SC register a (R163)? -/
def State.seqClears (s : State) (a q i : Nat) : Bool :=
  decide ((q % 256 + 256 - s.evt a i % 256) % 256 ≤ 127) || decide (s.evt a i + 128 ≤ s.evtCount a)

/-- The event bits of SC register a: the bits a clearing write may clear. -/
def evtBits (a : Nat) : List Nat :=
  match regRow a with
  | none => []
  | some w => (List.range 16).filter fun i => (w.wmask / 2 ^ i) % 2 = 1 && (w.live / 2 ^ i) % 2 = 0

/-- Register a with the bits of list l clear. -/
def clearBits (v : Word) (l : List Nat) : Word := l.foldl clearBit v

/-- The effect of an admissible clearing write of q on SC register a (R163). -/
def Act.clearSeq (a q : Nat) : Act :=
  Act.get fun s => Act.setReg a (clearBits (s.reg a) ((evtBits a).filter fun i => s.seqClears a q i))

/-! ## Interrupts (R683) -/

/-- The raised interrupts after one more: a line already raised is not added again (R684). -/
def irqAdd (l : List Irq) (i : Irq) : List Irq :=
  match i with
  | .line _ => if l.contains i then l else l ++ [i]
  | .direct _ _ _ => l ++ [i]

/-- Note an interrupt as raised on Prism die p. -/
def Act.irq (p : Nat) (i : Irq) : Act :=
  Act.upd fun s =>
    { s with irqs := Sparse.put (fun _ => []) p (irqAdd (Sparse.get (fun _ => []) s.irqs p) i) s.irqs }

/-- Raise the routed interrupt line of a block (R683). -/
def Act.irqBlk (die blk : Nat) : Act := Act.get fun s => Act.irq (s.prismOf die) (.line (irqLine die blk))

/-- An event that interrupts firmware on its block's line (R683). -/
def Act.eventIrq (a i : Nat) : Act := Act.seq (Act.event a i) (Act.irqBlk (aDie a) (aBlk a))

/-! ## Statistics counters (R243) -/

/-- A counter at address a passed half range (R243). -/
def Act.passedHalf (a : Nat) : Act :=
  Act.get fun s =>
    let p := s.prismOf (aDie a)
    Act.all [
      Act.event (DEV.EVT p) 1,
      Act.setReg (DEV.CNT_LAST p) (BitVec.ofNat 48 a),
      Act.irqBlk (aDie a) (aBlk a)]

/-- Add n to statistics counter a: 48 bits, rolling over; passing half range is an event (R243). -/
def Act.countBy (a n : Nat) : Act :=
  Act.get fun s =>
    let v := (s.reg a).toNat
    let u := (v + n) % 2 ^ 48
    Act.seq (Act.setReg a (BitVec.ofNat 48 u)) (Act.when (v < 2 ^ 47 ∧ 2 ^ 47 ≤ u) (Act.passedHalf a))

/-- Add 1 to statistics counter a (R243). -/
def Act.count (a : Nat) : Act := Act.countBy a 1

/-! ## Block control and block errors (R144 to R147) -/

/-- Is block blk of die field die enabled (R145)? A block with no CF register always is. -/
def State.enabled (s : State) (die blk : Nat) : Bool :=
  if blockHasCf (decide (4 ≤ die)) blk then bit (s.reg (BLK_CTRL die blk)) 1 else true

/-- The source code of BLK_ERR.SRC (R146). -/
def Agent.src : Agent → Nat
  | .spi => 0
  | .eth => 1
  | .fw _ _ _ _ => 2
  | .remote _ => 1
  | .image => 3
  | .device => 3

/-- Record bit i of a block's BLK_ERR for register a and its source (R146). A firmware access also raises the
management-store interrupt, directed kind 5 (R143, R683). -/
def Act.blkErr (a i : Nat) (ag : Agent) : Act :=
  let e := BLK_ERR (aDie a) (aBlk a)
  Act.all [
    Act.event e i,
    Act.setFlds e [(BLK_ERR.REG, aReg a), (BLK_ERR.SRC, ag.src)]]

/-- Does block blk of die field die escalate a mismatch at once (R82, bit 7)? -/
def escalates (d b : Nat) : Bool :=
  if d < 4 then b == 0x00 || b == 0x01 || b == 0x03 || b == 0x78 || b == 0x7A || b == 0x68
  else b == 0x01 || b == 0x02 || b == 0x29

/-- Does register a carry hidden parity (R150): a CF register, or any register but BLK_ERR of an escalating block? -/
def carriesParity (a : Nat) : Bool :=
  match regRow a with
  | none => false
  | some w => if escalates (aDie a) (aBlk a) then aReg a != 0x1FFE else w.kind == .cf

/-- Does register a fail its parity check now (R150)? -/
def State.parityBad (s : State) (a : Nat) : Bool :=
  decide ((Sparse.get (fun _ => ({} : Upset)) s.upsets a).lanes ≠ 0) && carriesParity a

/-- BLK_ERR.PARITY_NOW: a register of the block fails its check (R146). -/
def State.parityNow (s : State) (die blk : Nat) : Bool :=
  s.upsets.any fun e => aDie e.1 == die && aBlk e.1 == blk && s.parityBad e.1

/-! ## Supply and link records -/

/-- Change the record of drive die d's supply. -/
def Act.setSup (d : Nat) (f : Supply → Supply) : Act :=
  Act.upd fun s => { s with sup := Sparse.put (fun _ => {}) d (f (s.supply d)) s.sup }

/-- Change the record of Prism die p's supply and links. -/
def Act.setPsup (p : Nat) (f : PrismSupply → PrismSupply) : Act :=
  Act.upd fun s => { s with prism := Sparse.put (fun _ => {}) p (f (s.psup p)) s.prism }

/-- Change the start sequence's record. -/
def Act.setStart (f : Start → Start) : Act := Act.upd fun s => { s with start := f s.start }

/-! ## Tables -/

/-- Word w of entry idx of a table of a die. -/
def State.tbl (s : State) (die tbl idx w : Nat) : Word := Sparse.get tblBlank s.tbls (tblKey die tbl idx w)

/-- The first n words of a table entry. -/
def State.tblWords (s : State) (die tbl idx n : Nat) : List Word := (List.range n).map fun w => s.tbl die tbl idx w

/-- Write the words of a table entry. -/
def Act.setTblWords (die tbl idx : Nat) (l : List Word) : Act :=
  Act.all ((List.range l.length).map fun w => Act.setTbl (tblKey die tbl idx w) (l.getD w 0))

/-! ## Writes of registers (R20, R154) -/

/-- A register refuses a value: WRITE_REJECT, reply BAD_VALUE (R154). -/
def Act.badValue (a : Nat) (ag : Agent) (k : Code → Act) : Act := Act.seq (Act.blkErr a 0 ag) (k .badValue)

/-- Store the writable bits of a register (R20). -/
def Act.store (a : Nat) (v : Word) : Act :=
  Act.get fun s =>
    match regRow a with
    | none => Act.skip
    | some w =>
      let m := BitVec.ofNat 48 w.wmask
      Act.setReg a ((s.reg a &&& ~~~ m) ||| (v &&& m))

end Sys2Proof.Machine
end

