-- ==== Sys2Proof/Machine/Facet.lean ====
section
/-! DEFINITION. Facets and frames: keys, link state, lengths and cells, and a frame's way into a receive buffer. -/

namespace Sys2Proof.Machine

/-- The key of facet f of Prism die p. -/
def fk (p f : Nat) : Nat := 64 * p + f

/-- The key of class c of facet f of Prism die p. -/
def ck (p f c : Nat) : Nat := (64 * p + f) * 8 + c

/-- Line rate of an Ethernet facet in Mbit/s, by its kind and MODE (R344); 0 when off. -/
def State.lineRate (s : State) (p f : Nat) : Nat :=
  let m := s.fld (ETH.MODE p f) ETH.MODE.MODE
  if f < 4 then (match m with | 1 => 25000 | 2 => 10000 | 3 => 25000 | _ => 0)
  else if f < 12 then (match m with | 1 => 10000 | 2 => 5000 | 3 => 2500 | 4 => 1000 | _ => 0)
  else if f < 24 then (match m with | 1 => 1000 | 2 => 100 | _ => 0)
  else if f < 32 then (match m with | 1 => 10 | _ => 0)
  else 0

/-- Is CAN controller c of die p link up (R406)? -/
def State.canUp (s : State) (p c : Nat) : Bool :=
  let st := (s.can (16 * p + c)).st
  st == .integrating || st == .active || st == .passive

/-- Is LIN controller c of die p link up (R423)? -/
def State.linUp (s : State) (p c : Nat) : Bool :=
  let st := (s.lin (8 * p + c)).st
  st == .running || st == .stopped

/-- Is egress facet f, one of 0 to 55, disabled or link down (R264, R351, R406, R423)? -/
def State.facetDown (s : State) (p f : Nat) : Bool :=
  if f < 32 then !(s.enabled p (0x20 + f) && (s.eth (fk p f)).up)
  else if f < 48 then !s.canUp p (f - 32)
  else !s.linUp p (f - 48)

/-- The cells that L bytes occupy (R193). -/
def cellsOf (l : Nat) : Nat := cdiv l 256

/-- The bytes in cell i of a frame of L bytes (R193). -/
def cellLen (l i : Nat) : Nat := min 256 (l - 256 * i)

/-- The cells of a frame (R193). -/
def Frame.cells (fr : Frame) : Nat := cellsOf fr.data.length

/-- The credit units that cell i of a frame needs (R222). -/
def Frame.units (fr : Frame) (i : Nat) : Nat := cdiv (16 + cellLen fr.data.length i) 32

/-- A cell's header but its CHECK, bits 111 to 0 (R196): cell i of a frame for which n cells are reserved. -/
def Frame.cellHeader (fr : Frame) (n i : Nat) : Nat :=
  let first := decide (i = 0)
  fr.kind + 4 * b2n first + 8 * b2n (decide (i + 1 = fr.cells)) + 16 * b2n fr.abort + 32 * b2n fr.hop + 64 * (fr.cls % 8) +
    2 ^ 9 * (cellLen fr.data.length i % 256) + 2 ^ 17 * (fr.dest % 65536) + 2 ^ 33 * (fr.src % 256) +
    2 ^ 41 * (if first then n % 64 else 0) + 2 ^ 48 * (if first then fr.ts % 2 ^ 48 else 0) + 2 ^ 96 * (fr.fid % 65536)

/-- The frame bytes of cell i (R193). -/
def Frame.cellBytes (fr : Frame) (i : Nat) : List Byte := (fr.data.drop (256 * i)).take 256

/-- CHECK of a cell: the CRC-16 of R168 over header bits 111 to 0, taken from the highest (log entry 124), and the cell's frame bytes
(R196). -/
def cellCheck (header : Nat) (b : List Byte) : Nat := crc16 (beBytes 14 header ++ b)

/-- Does a cell fail its check when the bits of a pattern of its 128-bit header, CHECK uppermost, are flipped on the way (R196, R234)? -/
def Frame.cellFails (fr : Frame) (n i flip : Nat) : Bool :=
  let h := fr.cellHeader n i
  let b := fr.cellBytes i
  decide (cellCheck (h ^^^ (flip % 2 ^ 112)) b ≠ cellCheck h b ^^^ (flip / 2 ^ 112 % 65536))

/-- Put a frame into the receive buffer of ingress facet f, with its source and the next frame number of its facet and
class (R196). -/
def Act.intake (p f : Nat) (r : RxFrame) : Act :=
  Act.get fun s =>
    let k := ck p f r.fr.cls
    Act.all [
      Act.modBuf (fk p f) (fun l => l ++ [{ r with fr := { r.fr with src := globalFacet p f, fid := s.fidNo k } }]),
      Act.setFidNo k ((s.fidNo k + 1) % 65536)]

/-- A frame that an engine of Prism die p offers at its own facet with its egress queue chosen (R293). -/
def Act.offer (p f : Nat) (dest : Nat) (data : List Byte) (ts : Nat) : Act :=
  Act.intake p f
    { fr := { dest := dest, cls := qClass dest, flow := qFlow dest, ts := ts, data := data }
      bufCls := qClass dest, looked := true, got := cellsOf data.length }

end Sys2Proof.Machine
end

