-- ==== Sys2Proof/Machine/PartNets.lean ====
section
/-! DEFINITION. The partial networks' membership and requests, and the wakes that wait for a network (R580 to R582). -/

namespace Sys2Proof.Machine

/-- The partial networks (R580). -/
def pnList : List Nat := List.range 16

/-- The word of PN_MEMB_A (second = 0) or PN_MEMB_B (1) of network k and Prism die p (R605). -/
def State.pnMemb (s : State) (k p second : Nat) : Word :=
  s.reg (if second = 0 then WAKE.PN_MEMB_A 0 (4 * k + p) else WAKE.PN_MEMB_B 0 (4 * k + p))

/-- Is global facet gf a member of network k (R580, R605)? -/
def State.pnHas (s : State) (k gf : Nat) : Bool :=
  let f := gf % 64
  if f < 32 then bit (s.pnMemb k (gf / 64) 0) f else decide (f < 56) && bit (s.pnMemb k (gf / 64) 1) (f - 32)

/-- Is network k in use: WAKE enabled and EN = 1 (R580, R600)? -/
def State.pnOn (s : State) (k : Nat) : Bool := s.enabled 0 0x71 && s.flag (WAKE.PN_CFG 0 k) WAKE.PN_CFG.EN

/-- The network in use that global facet gf belongs to (R580). -/
def State.pnOf (s : State) (gf : Nat) : Option Nat := pnList.find? fun k => s.pnOn k && s.pnHas k gf

/-- The members of network k, in ascending order. -/
def State.pnMembers (s : State) (k : Nat) : List Nat :=
  s.prismDies.flatMap fun p => ((List.range 56).map fun f => globalFacet p f).filter fun gf => s.pnHas k gf

/-- The request words of Prism die p: its partitions' and, on the lead die, the host's (R581, R604). -/
def State.reqWords (s : State) (p : Nat) : List Word :=
  ((List.range 16).map fun k => s.reg (WAKE.REQ p k)) ++ (if p = 0 then [s.reg (WAKE.REQ_HOST 0)] else [])

/-- Is network k locally requested (R581)? -/
def State.pnAsked (s : State) (k : Nat) : Bool := s.prismDies.any fun p => (s.reqWords p).any fun w => bit w k

/-- Is any STAY bit set (R595, R604)? -/
def State.anyStay (s : State) : Bool := s.prismDies.any fun p => (s.reqWords p).any fun w => bit w 16

/-- Change the lead die's record of sleep and wake. -/
def Act.updDoze (f : Doze → Doze) : Act := Act.upd fun s => { s with io := { s.io with doze := f s.io.doze } }

/-- Note what is to wake a sleeping network (R582). -/
def Act.pnDue (k : Nat) (c : PnCause) : Act := Act.modPnet k fun n => if n.awake then n else { n with due := some c }

/-- A reference is discarded at facet f of die p because it is down: it wakes a sleeping network with TRAFFIC_WAKE (R582). -/
def Act.pnTraffic (p f : Nat) : Act :=
  Act.get fun s =>
    Act.opt (s.pnOf (globalFacet p f)) fun k =>
      Act.when (s.flag (WAKE.PN_CFG 0 k) WAKE.PN_CFG.TRAFFIC_WAKE = true) (Act.pnDue k .traffic)

/-- Does global facet gf wait for its wake-pattern slot (R597)? -/
def State.slotWait (s : State) (gf : Nat) : Bool := s.io.doze.patterns.contains gf

end Sys2Proof.Machine
end

