-- ==== Sys2Proof/Machine/Sample.lean ====
section
/-! DEFINITION. How a source offers a value to the Loupe monitors attached to it (R715, R718). -/

namespace Sys2Proof.Machine

/-- The key of monitor m of Prism die p. -/
def monKey (p m : Nat) : Nat := 256 * p + m

/-- The key of a source: its die, its code and its attachment argument. -/
def sourceKey (p src arg : Nat) : Nat := (1024 * p + src) * 65536 + arg

/-- Does the attachment argument of a source code name something: a queue, a facet, a PDU, a profile, a channel, an input, a drive die
or the argument of FEED_VAL (R292, R387, R439, R480, R550, R653, R721)? A source of no argument is attached whatever ARG holds. -/
def srcNames (c : Nat) : Bool :=
  c == 0x020 || c == 0x021 || (decide (0x028 ≤ c) && decide (c ≤ 0x033)) || (decide (0x040 ≤ c) && decide (c ≤ 0x048)) || c == 0x052 ||
    c == 0x063 || (decide (0x070 ≤ c) && decide (c ≤ 0x076)) || c == 0x0FF

/-- The enabled monitors of die p attached to a source, while LOUPE is enabled (R715). -/
def State.monsOf (s : State) (p src arg : Nat) : List Nat :=
  if s.enabled p 0x80 then
    s.regs.filterMap fun e =>
      let m := (aReg e.1 - 0x100) / 4
      if e.1 = LOUPE.MCFG_A p m ∧ m < 256 ∧ fget e.2 LOUPE.MCFG_A.EN = 1 ∧ fget e.2 LOUPE.MCFG_A.SRC = src ∧
          (fget e.2 LOUPE.MCFG_A.ARG = arg ∨ srcNames src = false) then some m else none
  else []

/-- A source of die p offers a value: it waits for LOUPE_SAMPLE at each monitor attached to the source (R715). -/
def Act.offerMon (p src arg : Nat) (v : Int) : Act :=
  Act.get fun s =>
    Act.when (s.monsOf p src arg ≠ [])
      (Act.upd fun t =>
        { t with mon := { t.mon with offered := t.mon.offered ++ (s.monsOf p src arg).map fun m => (monKey p m, BitVec.ofInt 48 v) } })

/-- A monitored source of die p counts n more in this slow-clock period. -/
def Act.tallyMon (p src arg n : Nat) : Act :=
  Act.get fun s => Act.when (s.monsOf p src arg ≠ []) (Act.modTally (sourceKey p src arg) (· + n))

/-- The slow-clock period ends: what the sources counted in it becomes what they offer (R250, R387, R721). -/
def Act.rollTallies : Act := Act.upd fun s => { s with mon := { s.mon with tallied := s.mon.tallies, tallies := [] } }

end Sys2Proof.Machine
end

