-- ==== Sys2Proof/Machine/Pool.lean ====
section
/-! DEFINITION. Pool accounting: profiles, charges, the queue limit, and the decision on one reference (R253 to R260). -/

namespace Sys2Proof.Machine

/-- The profile number of local queue q (R253). -/
def State.profOf (s : State) (p q : Nat) : Nat := (s.tbl p 0x41 q 0).toNat % 64

/-- A field of PROF_A of the profile of local queue q (R286). -/
def State.profA (s : State) (p q : Nat) (f : Fld) : Nat := s.fld (QMGR.PROF_A p (s.profOf p q)) f

/-- A field of PROF_B of the profile of local queue q (R286). -/
def State.profB (s : State) (p q : Nat) (f : Fld) : Nat := s.fld (QMGR.PROF_B p (s.profOf p q)) f

/-- Cells charged to a queue's minimum (R256). -/
def Queue.minC (q : Queue) : Nat := (q.refs.map (·.minC)).sum

/-- Cells charged to the shared pool (R256). -/
def Queue.shC (q : Queue) : Nat := (q.refs.map (·.shC)).sum

/-- Cells charged to the through reserve (R256). -/
def Queue.resC (q : Queue) : Nat := (q.refs.map (·.resC)).sum

/-- The charged cells of a queue held in SRAM: D of R257. -/
def Queue.depth (q : Queue) : Nat := q.minC + q.shC + q.resC

/-- The egress queues of Prism die p that hold or held a frame. -/
def State.dieQueues (s : State) (p : Nat) : List (Nat × Queue) :=
  s.sw.queues.filter fun e => e.1 / 16384 == p

/-- The local queues of die p whose profile is not 0, with it. -/
def State.namedQueues (s : State) (p : Nat) : List Nat :=
  (s.tbls.filter fun e => e.1 / 2 ^ 23 == p * 256 + 0x41).map fun e => e.2.toNat % 64

/-- MIN_SUM: the sum of QMIN over all queues of the die. -/
def State.minSum (s : State) (p : Nat) : Nat :=
  let named := s.namedQueues p
  (16384 - named.length) * s.fld (QMGR.PROF_A p 0) QMGR.PROF_A.QMIN +
    (named.map fun i => s.fld (QMGR.PROF_A p i) QMGR.PROF_A.QMIN).sum

/-- Cells of the through reserve (R220). -/
def State.thruCells (s : State) (p : Nat) : Nat := s.fld (FAB.HOP p) FAB.HOP.THRU_CELLS

/-- Free cells of the shared pool: F of R257. -/
def State.sharedFree (s : State) (p : Nat) : Nat :=
  131072 - s.minSum p - s.thruCells p - ((s.dieQueues p).map fun e => e.2.shC).sum

/-- Free cells of the through reserve. -/
def State.resFree (s : State) (p : Nat) : Nat := s.thruCells p - ((s.dieQueues p).map fun e => e.2.resC).sum

/-- The references of a queue with the number of cells ahead of each. -/
def Queue.placed : Nat → List Ref → List (Nat × Ref)
  | _, [] => []
  | o, r :: l => (o, r) :: Queue.placed (o + r.cells) l

/-- Is the cell at place o of a queue spilled? -/
def Queue.isSpilled (q : Queue) (o : Nat) : Bool := decide (q.head ≤ o ∧ o < q.head + q.spilled)

/-- The cells of frame id held in SRAM through one queue, by their number in the frame. -/
def Queue.sramOf (q : Queue) (id : Nat) : List Nat :=
  (Queue.placed 0 q.refs).flatMap fun e =>
    if e.2.id = id then (List.range e.2.cells).filter fun i => !q.isSpilled (e.1 + i) else []

/-- Physically unused cells of the pool (R280): each cell counts once, whatever the references to it. -/
def State.physFree (s : State) (p : Nat) : Nat :=
  let qs := (s.dieQueues p).map (·.2)
  let ids := (qs.flatMap fun q => q.refs.map (·.id)).eraseDups
  131072 - (ids.map fun i => ((qs.flatMap fun q => q.sramOf i).eraseDups).length).sum

/-- Does a consumer port with an owner bind local queue q (R275)? -/
def State.bound (s : State) (p q : Nat) : Bool :=
  (List.range 64).any fun n =>
    decide (s.fld (QMGR.CQ_CFG p n) QMGR.CQ_CFG.OWNER ≠ 0 ∧ s.fld (QMGR.CQ_CFG p n) QMGR.CQ_CFG.QUEUE = q)

/-- Is local queue q an unbound consumer queue (R275)? -/
def State.unbound (s : State) (p q : Nat) : Bool :=
  (qFacet q == 60 || (qFacet q == 63 && qFlow q != 0)) && !s.bound p q

/-- The local queue of die p that takes a frame bound for global queue g: the queue itself, or the queue of the
die-to-die facet that reaches its die, in the frame's class and flow group (R51, R221). -/
def State.localQueue (_ : State) (p g cls flow : Nat) : Nat :=
  if qDie g = p then g % 16384 else queueNo (56 + d2dLink p (qDie g)) cls flow

/-- What a queue would receive: its local number, the frame as the queue takes it, whether it may draw on the through
reserve (R220), and whether it is a mirror copy. -/
structure Offer where
  q : Nat := 0
  fr : Frame := {}
  thru : Bool := false
  mirror : Bool := false
  deriving DecidableEq, Repr

/-- The decision on one reference (R257): discarded with the reason code of R283, admitted with its charge, or refused. -/
inductive Verdict where
  | drop (reason : Nat)
  | take (m sh res : Nat)
  | refuse
  deriving DecidableEq, Repr

/-- The limit above the minimum: E of R257. -/
def State.excess (s : State) (p q shUsed : Nat) : Nat :=
  let m := s.profA p q QMGR.PROF_A.QMAX
  let a := s.profA p q QMGR.PROF_A.ALPHA
  if a = 0 then m else min m ((s.sharedFree p - shUsed) * 2 ^ a / 16)

/-- The decision of R257 on one reference of n cells, where earlier references of the same frame have taken shUsed and
resUsed cells. -/
def State.verdict (s : State) (p : Nat) (o : Offer) (n shUsed resUsed : Nat) : Verdict :=
  let f := qFacet o.q
  let q := s.queue (globalQueue p o.q)
  let link := decide (56 ≤ f ∧ f ≤ 58)
  let qmin := s.profA p o.q QMGR.PROF_A.QMIN
  if f ≤ 55 ∧ s.facetDown p f then .drop 1
  else if s.unbound p o.q then .drop 2
  else if link = false ∧ qmin + s.excess p o.q shUsed < q.depth + n then .drop 0
  else
    let m := min n (qmin - q.minC)
    let sh := min (n - m) (s.sharedFree p - shUsed)
    let r := n - m - sh
    if r = 0 then .take m sh 0
    else if o.thru ∧ r ≤ s.resFree p - resUsed ∧ q.resC + r ≤ s.fld (FAB.HOP p) FAB.HOP.THRU_QMAX then .take m sh r
    else .refuse

/-- The decisions on all references of a frame, made together (R227, R258). -/
def State.plan (s : State) (p n : Nat) : List Offer → Nat → Nat → List (Offer × Verdict)
  | [], _, _ => []
  | o :: l, sh, res =>
    match s.verdict p o n sh res with
    | .take m a b => (o, .take m a b) :: s.plan p n l (sh + a) (res + b)
    | v => (o, v) :: s.plan p n l sh res

/-- Is the shared free count below SHARED_WARN (R260)? -/
def State.sharedLow (s : State) (p : Nat) : Bool := decide (s.sharedFree p < s.fld (QMGR.CFG p) QMGR.CFG.SHARED_WARN)

/-- The blocks that a number of spilled cells occupy. -/
def blocksOf (n : Nat) : Nat := cdiv n 8

/-- Free blocks of the region of die p (R267). -/
def State.freeBlocks (s : State) (p : Nat) : Nat :=
  960 * s.fld (SPILL.REGION p) SPILL.REGION.SIZE - ((s.dieQueues p).map fun e => blocksOf e.2.spilled).sum

/-- Can queue u of die p, by its local number, take no block: the region is full, or it has reached SPILL_MAX (R270)? -/
def State.spillStop (s : State) (p q : Nat) (u : Queue) : Bool :=
  decide (s.freeBlocks p = 0 ∨ s.profB p q QMGR.PROF_B.SPILL_MAX * 64 ≤ blocksOf u.spilled)

/-- Blocks may have been freed: the queues held back that can spill again do (R270). -/
def Act.spillResume (p : Nat) : Act :=
  Act.get fun s =>
    Act.each ((s.dieQueues p).filter fun e => e.2.full && !s.spillStop p (e.1 % 16384) e.2) fun e =>
      Act.modQueue e.1 fun u => { u with full := false }

/-- The pool of die p has changed: SHARED_LOW when the shared free count falls below SHARED_WARN (R260), and the queues held back
spill again where they can (R270). -/
def Act.checkShared (p : Nat) : Act :=
  Act.get fun s =>
    Act.all [
      Act.when (s.sharedLow p = true ∧ s.low p = false) (Act.event (QMGR.EVT p) 1),
      Act.setLow p (s.sharedLow p),
      Act.spillResume p]

/-- A reference is discarded under R257 with a reason (R282, R283, R287). -/
def Act.dropRef (p q reason : Nat) : Act :=
  Act.all [
    (match reason with
     | 0 => Act.all [Act.count (QMGR.CNT p 2), Act.count (QMGR.LIMIT_DROPS p (qFacet q)), Act.event (QMGR.EVT p) 0]
     | 1 => Act.all [Act.count (QMGR.CNT p 3), Act.event (QMGR.EVT p) 2, Act.pnTraffic p (qFacet q)]
     | _ => Act.all [Act.count (QMGR.CNT p 4), Act.event (QMGR.EVT p) 3]),
    Act.setFlds (QMGR.DROP_LAST p) [(QMGR.DROP_LAST.QUEUE, q), (QMGR.DROP_LAST.REASON, reason)]]

/-- The SRAM depth of a queue is offered to its monitors (R292). -/
def Act.offerDepth (p q : Nat) : Act :=
  Act.get fun s => Act.offerMon p 0x020 q (s.queue (globalQueue p q)).depth

/-- A reference joins its queue with its charge (R256). -/
def Act.addRef (p q : Nat) (r : Ref) : Act :=
  Act.get fun s =>
    Act.seq
      (Act.modQueue (globalQueue p q) fun u =>
        { u with refs := u.refs ++ [r], head := if u.spilled = 0 then 0 else u.head, headAt := if u.refs = [] then s.time p else u.headAt })
      (Act.offerDepth p q)

/-- A queue without one of its references: the reference at place o with n cells, its charge gone with it, the spilled
cells that were its own freed; an emptied queue's deficit returns to zero (R256, R261, R265). -/
def Queue.without (u : Queue) (i : Nat) : Queue :=
  match (Queue.placed 0 u.refs)[i]? with
  | none => u
  | some (o, r) =>
    let cut := fun (a b : Nat) => min (o + r.cells) b - max o a
    let refs := u.refs.eraseIdx i
    let sp := u.spilled - cut u.head (u.head + u.spilled)
    { u with
      refs := refs
      head := if sp = 0 then 0 else u.head - cut 0 u.head
      spilled := sp
      deficit := if refs = [] then 0 else u.deficit }

/-- Keep in a queue the references that satisfy a test. -/
def Queue.retain (u : Queue) (keep : Ref → Bool) : Queue :=
  ((List.range u.refs.length).reverse).foldl
    (fun v i => match u.refs[i]? with
      | none => v
      | some r => if keep r then v else v.without i) u

/-- Apply a change to every queue of a die. -/
def Act.eachQueue (p : Nat) (f : Nat → Queue → Queue) : Act :=
  Act.get fun s => Act.each (s.dieQueues p) fun e => Act.modQueue e.1 (f e.1)

/-- Remove every reference to frame id on die p: an aborted frame (R234). -/
def Act.removeId (p id : Nat) : Act := Act.eachQueue p fun _ u => u.retain fun r => r.id != id

/-- Is the reference at place i of a queue whole in SRAM, so that it may leave (R252, R268)? -/
def Queue.ready (u : Queue) (i : Nat) : Bool :=
  match (Queue.placed 0 u.refs)[i]? with
  | none => false
  | some (o, r) => r.done && (u.spilled == 0 || decide (o + r.cells ≤ u.head) || decide (u.head + u.spilled ≤ o))

/-- The oldest reference of a queue, when it may leave. -/
def Queue.front (u : Queue) : Option Ref := if u.ready 0 then u.refs.head? else none

end Sys2Proof.Machine
end

