-- ==== Sys2Proof/Machine/Shape.lean ====
section
/-! DEFINITION. Egress shapers and gates (R322 to R326). -/

namespace Sys2Proof.Machine

/-! ## Shapers (R322) -/

/-- The shaped classes of die p, by 8 f + c: those with IDLE_SLOPE ≠ 0. -/
def State.shaped (s : State) (p : Nat) : List Nat :=
  (s.regs.filter fun e =>
    aDie e.1 == p && aBlk e.1 == 0x12 && decide (0x1000 ≤ aReg e.1 ∧ aReg e.1 < 0x1100) &&
      fget e.2 PSFP.CBS.IDLE_SLOPE != 0).map fun e => aReg e.1 - 0x1000

/-- Does class c of facet f have a frame waiting? -/
def State.waiting (s : State) (p f c : Nat) : Bool :=
  (List.range 32).any fun g => !(s.queue (globalQueue p (queueNo f c g))).refs.isEmpty

/-- Is class c of facet f sending a frame? -/
def State.sendingCls (s : State) (p f c : Nat) : Bool :=
  ((s.eth (fk p f)).tx.map fun t => t.cls) == some c

/-- The gates of facet f now: all open while GCL_CTRL.ENABLE = 0 and until a list first operates (R323). -/
def State.gatesNow (s : State) (p f : Nat) : Nat :=
  if s.flag (PSFP.GCL_CTRL p f) PSFP.GCL_CTRL.ENABLE && s.fld (PSFP.GCL_STAT p f) PSFP.GCL_STAT.OPER_LEN != 0 then
    (s.gate (fk p f)).gates
  else 255

/-- The credit of a shaper after dt ns in which its condition did not change, in millionths of a bit (R322). -/
def Shaper.after (u : Shaper) (dt rate slope hi : Nat) (sending waiting isOpen : Bool) : Int :=
  if sending then u.credit - (dt * (1000 * rate) : Nat) + (dt * (8 * slope) : Nat)
  else if waiting then (if isOpen then min (hi : Int) (u.credit + (dt * (8 * slope) : Nat)) else u.credit)
  else if 0 < u.credit then 0
  else min 0 (u.credit + (dt * (8 * slope) : Nat))

/-- The credit cap of class 8 f + c, in millionths of a bit (R340). -/
def State.hiCredit (s : State) (p i : Nat) : Nat :=
  let h := s.fld (PSFP.CBS p i) PSFP.CBS.HI_CREDIT
  (if h = 0 then 2 ^ 24 - 1 else h) * 1000000

/-- The credit of class 8 f + c now (R322). -/
def State.creditNow (s : State) (p i : Nat) : Int :=
  let f := i / 8
  let c := i % 8
  let u := s.shaper (512 * p + i)
  u.after ((s.time p + 2 ^ 48 - u.last) % 2 ^ 48) (s.lineRate p f) (s.fld (PSFP.CBS p i) PSFP.CBS.IDLE_SLOPE) (s.hiCredit p i)
    (s.sendingCls p f c) (s.waiting p f c) (bit (BitVec.ofNat 48 (s.gatesNow p f)) c)

/-- Bring the credit of every shaped class of die p up to date, before the conditions it depends on change (R322). -/
def Act.shape (p : Nat) : Act :=
  Act.get fun s => Act.each (s.shaped p) fun i =>
    Act.setShaper (512 * p + i) { credit := s.creditNow p i, last := s.time p }

/-- Does class c of facet f have the credit to send (R322)? -/
def State.creditOk (s : State) (p f c : Nat) : Bool :=
  s.fld (PSFP.CBS p (8 * f + c)) PSFP.CBS.IDLE_SLOPE == 0 || decide (0 ≤ s.creditNow p (8 * f + c))

/-- The sum of IDLE_SLOPE over the classes of the facet of class i, with v written to class i. -/
def State.slopeSum (s : State) (p i : Nat) (v : Word) : Nat :=
  ((List.range 8).map fun c =>
    fget (if 8 * (i / 8) + c = i then v else s.reg (PSFP.CBS p (8 * (i / 8) + c))) PSFP.CBS.IDLE_SLOPE).sum

/-- A write of PSFP.CBS of class i = 8 f + c (R322, R340). -/
def cbsWrite (ag : Agent) (p i : Nat) (v : Word) (k : Code → Act) : Act :=
  Act.get fun s =>
    if s.lineRate p (i / 8) * 1000 < 8 * s.slopeSum p i v then Act.badValue (PSFP.CBS p i) ag k
    else Act.all [Act.store (PSFP.CBS p i) v, Act.setShaper (512 * p + i) { credit := 0, last := s.time p }, k .ok]

/-! ## Gates (R323 to R326) -/

/-- A gate list cut at its cycle time: gates and duration of each entry in use; the last one holds to the end (R323). -/
def gateSpan : List (Nat × Nat) → Nat → List (Nat × Nat)
  | [], _ => []
  | [(g, _)], left => [(g, left)]
  | (g, d) :: l, left => if left ≤ d then [(g, left)] else (g, d) :: gateSpan l (left - d)

/-- The first n entries of bank b of facet f as a list of a cycle time. -/
def State.gateBank (s : State) (p f b n cycle : Nat) : List (Nat × Nat) :=
  gateSpan ((List.range n).map fun n =>
      let w := s.tbl p 0x48 (512 * f + 256 * b + n) 0
      (fget w ⟨0, 8⟩, fget w ⟨8, 32⟩)) cycle

/-- The operating list of facet f: gates and duration of each entry in use. -/
def State.gateList (s : State) (p f : Nat) : List (Nat × Nat) :=
  let st := PSFP.GCL_STAT p f
  s.gateBank p f (s.fld st PSFP.GCL_STAT.OPER_BANK) (s.fld st PSFP.GCL_STAT.OPER_LEN) (s.gate (fk p f)).cycle

/-- The list that facet f will operate after its pending change (R325). -/
def State.nextList (s : State) (p f : Nat) : List (Nat × Nat) :=
  s.gateBank p f (1 - s.fld (PSFP.GCL_STAT p f) PSFP.GCL_STAT.OPER_BANK) (s.fld (PSFP.GCL_CTRL p f) PSFP.GCL_CTRL.ADMIN_LEN)
    (s.fld (PSFP.GCL_CYCLE p f) PSFP.GCL_CYCLE.ADMIN_CYCLE)

/-- Is the gate of class c open in a gates value? -/
def gateOpen (g c : Nat) : Bool := g / 2 ^ c % 2 == 1

/-- How long the gate of class c stays open from the front of a list on, and whether the list ends with it open. -/
def openFor (c : Nat) : List (Nat × Nat) → Nat × Bool
  | [] => (0, true)
  | (g, d) :: l =>
    if gateOpen g c then
      let r := openFor c l
      (d + r.1, r.2)
    else (0, false)

/-- How long the gate of class c stays open in a list run over and over from its entry i; none where it does not close. -/
def openRound (c i : Nat) (l : List (Nat × Nat)) : Option Nat :=
  if l.all fun e => gateOpen e.1 c then none else some (openFor c (l.drop i ++ l)).1

/-- The die time left until a moment: nothing where it is past (R326). -/
def State.dieUntil (s : State) (p t : Nat) : Nat :=
  let n := (t + 2 ^ 48 - s.time p) % 2 ^ 48
  if n < 2 ^ 47 then n else 0

/-- The ns until the gate of class c of facet f, open now, closes by the operating list alone; none where it does not (R324). After
a step of the die time the gates hold until the list restarts (R326). -/
def State.openOper (s : State) (p f c : Nat) : Option Nat :=
  let l := s.gateList p f
  let u := s.gate (fk p f)
  let pos := if u.pos < l.length then u.pos + 1 else 0
  let stop := u.began + (if u.pos < l.length then ((l.take pos).map (·.2)).sum else u.cycle)
  (openRound c pos l).map fun n => s.dieUntil p stop + n

/-- The moment from which the final entry of the operating list of facet f holds its gates until the pending change: the end of the
last whole cycle, where it lies less than ADMIN_EXT before the change (R325). -/
def State.holdFrom (s : State) (p f : Nat) : Option Nat :=
  let u := s.gate (fk p f)
  let n := (u.changeAt + 2 ^ 48 - u.began) % 2 ^ 48
  let rest := n % u.cycle
  if u.cycle = 0 ∨ 2 ^ 47 ≤ n ∨ n < u.cycle ∨ s.fld (PSFP.GCL_CYCLE p f) PSFP.GCL_CYCLE.ADMIN_EXT ≤ rest then none
  else some (u.changeAt + 2 ^ 48 - rest)

/-- The ns for which the gate of class c of facet f stays open from now, following the operating list into its next cycle and, across
a pending change, into the list that follows it; none where it does not close (R324, R325). -/
def State.openLeft (s : State) (p f c : Nat) : Option Nat :=
  let st := PSFP.GCL_STAT p f
  let old := if s.fld st PSFP.GCL_STAT.OPER_LEN = 0 then none else s.openOper p f c
  if gateOpen (s.gatesNow p f) c = false then some 0
  else if s.flag (PSFP.GCL_CTRL p f) PSFP.GCL_CTRL.ENABLE = false then none
  else if s.flag st PSFP.GCL_STAT.CONFIG_PENDING = false then old
  else
    let change := s.dieUntil p (s.gate (fk p f)).changeAt
    let lim := (s.holdFrom p f).elim change (s.dieUntil p)
    if old.any fun n => Nat.blt n lim then old
    else (openRound c 0 (s.nextList p f)).map fun n => change + n

/-- The longest open window of class c in the operating list of facet f; none where it does not close (R324). -/
def State.longestOpen (s : State) (p f c : Nat) : Option Nat :=
  let l := s.gateList p f
  if s.flag (PSFP.GCL_CTRL p f) PSFP.GCL_CTRL.ENABLE = false ∨ l.all (fun e => gateOpen e.1 c) then none
  else some (((List.range l.length).map fun i => (openFor c (l.drop i ++ l)).1).foldl max 0)

/-- A time at or after another, modulo 2^48 (R326). -/
def notBefore (a b : Nat) : Bool := decide ((a + 2 ^ 48 - b) % 2 ^ 48 < 2 ^ 47)

/-- The least base + N cycle at or after a time, modulo 2^48; the base itself where it is not before it (R325, R326). -/
def firstCycle (base cycle t : Nat) : Nat :=
  if notBefore base t then base
  else (base + cdiv ((t + 2 ^ 48 - base) % 2 ^ 48) cycle * cycle) % 2 ^ 48

/-- The gate of the class being sent at facet f closed: GATE_OVERRUN (R324). -/
def Act.gateOverrun (p f : Nat) : Act :=
  Act.get fun s =>
    Act.opt (s.eth (fk p f)).tx fun t =>
      Act.when (gateOpen (s.gatesNow p f) t.cls = false)
        (Act.all [
          Act.count (PSFP.CNT p 0),
          Act.event (PSFP.EVT p) 2,
          Act.setFlds (PSFP.LAST p) [(PSFP.LAST.FACET, f), (PSFP.LAST.CLASS, t.cls)]])

/-- Set the gates of facet f, after the credits have been brought up to date. -/
def Act.setGates (p f : Nat) (g : Gates → Gates) : Act :=
  Act.get fun s =>
    Act.all [
      Act.shape p,
      Act.modGate (fk p f) g,
      Act.when ((s.eth (fk p f)).tx.any (fun t => gateOpen (s.gatesNow p f) t.cls) = true) (Act.gateOverrun p f)]

/-- A write of PSFP.GCL_CTRL_f (R325, R341). -/
def gclCtrl (ag : Agent) (p f : Nat) (v : Word) (k : Code → Act) : Act :=
  let a := PSFP.GCL_CTRL p f
  let st := PSFP.GCL_STAT p f
  let put := Act.store a (fset v PSFP.GCL_CTRL.CONFIG_CHANGE 0)
  Act.get fun s =>
    let len := fget v PSFP.GCL_CTRL.ADMIN_LEN
    let cyc := s.fld (PSFP.GCL_CYCLE p f) PSFP.GCL_CYCLE.ADMIN_CYCLE
    if fget v PSFP.GCL_CTRL.CONFIG_CHANGE = 1 ∧ (s.flag st PSFP.GCL_STAT.CONFIG_PENDING ∨ len = 0 ∨ 256 < len ∨ cyc < 1000) then
      Act.badValue a ag k
    else if fget v PSFP.GCL_CTRL.ENABLE = 0 then
      Act.all [Act.shape p, put, Act.setFld st PSFP.GCL_STAT.CONFIG_PENDING 0, k .ok]
    else if fget v PSFP.GCL_CTRL.CONFIG_CHANGE = 1 then
      Act.all [
        Act.shape p, put,
        Act.setFld st PSFP.GCL_STAT.CONFIG_PENDING 1,
        Act.modGate (fk p f) (fun u =>
          { u with changeAt := firstCycle (s.reg (PSFP.GCL_BASE p f)).toNat cyc ((s.time p + 2000) % 2 ^ 48) }),
        k .ok]
    else Act.all [Act.shape p, put, k .ok]

/-- GCL_SWITCH: at the change time the admin bank becomes the operating bank, and its first cycle begins (R325). -/
def gclSwitch (p f : Nat) : Act :=
  Act.get fun s =>
    let st := PSFP.GCL_STAT p f
    let u := s.gate (fk p f)
    Act.when (s.flag st PSFP.GCL_STAT.CONFIG_PENDING = true ∧ notBefore (s.time p) u.changeAt = true)
      (Act.all [
        Act.shape p,
        Act.setFlds st [
          (PSFP.GCL_STAT.OPER_BANK, 1 - s.fld st PSFP.GCL_STAT.OPER_BANK),
          (PSFP.GCL_STAT.CONFIG_PENDING, 0),
          (PSFP.GCL_STAT.OPER_LEN, s.fld (PSFP.GCL_CTRL p f) PSFP.GCL_CTRL.ADMIN_LEN)],
        Act.modGate (fk p f) (fun _ =>
          { gates := 255, pos := 0, began := u.changeAt, changeAt := u.changeAt
            cycle := s.fld (PSFP.GCL_CYCLE p f) PSFP.GCL_CYCLE.ADMIN_CYCLE
            base := (s.reg (PSFP.GCL_BASE p f)).toNat }),
        Act.get fun t => Act.opt (t.gateList p f).head? fun e => Act.modGate (fk p f) fun v => { v with gates := e.1 },
        Act.when ((s.eth (fk p f)).tx.any (fun t => gateOpen (s.gatesNow p f) t.cls) = true) (Act.gateOverrun p f)])

/-- Does the old list hold its final entry at the end of its cycle, until the change (R325)? -/
def State.extended (s : State) (p f next : Nat) : Bool :=
  s.flag (PSFP.GCL_STAT p f) PSFP.GCL_STAT.CONFIG_PENDING && (s.holdFrom p f).any fun t => t % 2 ^ 48 == next

/-- GATE_ENTRY_BEGIN: the next entry of the operating list of facet f begins (R323, R325, R326). -/
def gateEntryBegin (p f : Nat) : Act :=
  Act.get fun s =>
    let l := s.gateList p f
    let u := s.gate (fk p f)
    if u.pos + 1 < l.length then
      Act.setGates p f fun v => { v with pos := u.pos + 1, gates := (l.getD (u.pos + 1) (255, 0)).1 }
    else
      let next := (u.began + u.cycle) % 2 ^ 48
      if s.extended p f next then Act.skip
      else
        Act.opt l.head? fun e => Act.setGates p f fun v => { v with pos := 0, gates := e.1, began := next }

/-- The die time has been stepped: each operating list restarts at the least BASE + N × OPER_CYCLE at or after the new
time; until then its gates hold (R326). -/
def Act.gatesStepped (p : Nat) : Act :=
  Act.get fun s => Act.each ((List.range 32).filter fun f =>
      s.flag (PSFP.GCL_CTRL p f) PSFP.GCL_CTRL.ENABLE && s.fld (PSFP.GCL_STAT p f) PSFP.GCL_STAT.OPER_LEN != 0) fun f =>
    let u := s.gate (fk p f)
    Act.seq (Act.bumpFld (PSFP.GCL_STAT p f) PSFP.GCL_STAT.RESTARTS 1)
      (Act.modGate (fk p f) fun v =>
        { v with pos := (s.gateList p f).length, began := (firstCycle u.base u.cycle (s.time p) + 2 ^ 48 - u.cycle) % 2 ^ 48 })

end Sys2Proof.Machine
end

