-- ==== Sys2Proof/Machine/Fabric.lean ====
section
/-! DEFINITION. The fabric: admission, entry, replication, mirror copies, the pause-storm guard, die-to-die links
(05_prism_fabric.md). -/

namespace Sys2Proof.Machine

/-! ## Replication (R224 to R230) -/

/-- Word 0 and word 1 of replication entry i. -/
def State.repEntry (s : State) (p i : Nat) : Word × Word := (s.tbl p 0x40 (i % 4096) 0, s.tbl p 0x40 (i % 4096) 1)

/-- The local member facets of a replication entry. -/
def repFacets (e : Word × Word) : List Nat :=
  (List.range 64).filter fun f => if f < 48 then bit e.1 f else bit e.2 (f - 48)

/-- The Prism dies a replication entry sends one copy to. -/
def repDies (e : Word × Word) : List Nat := (List.range 4).filter fun d => bit e.2 (16 + d)

/-! ## Periscope selection (R722 to R724) -/

/-- Does selector i of die p match a frame at a point of selection: admission (with ingress facet f and matched filter) or
departure (from local queue q)? -/
def State.selects (s : State) (p i : Nat) (adm : Bool) (f q : Nat) (filt : Option Nat) : Bool :=
  let a := PSCP.SEL_A p i
  let key := s.fld a PSCP.SEL_A.KEY
  match s.fld a PSCP.SEL_A.KIND with
  | 1 => adm && key == f
  | 2 => !adm && key == qFacet q
  | 3 => !adm && key == q
  | 4 => adm && filt == some key
  | _ => false

/-- Does selector i ask for an analysis copy (DEST 1 or 3), or a recorder copy (DEST 2 or 3) (R723)? -/
def State.asks (s : State) (p i : Nat) (recd : Bool) : Bool :=
  let d := s.fld (PSCP.SEL_A p i) PSCP.SEL_A.DEST
  if recd then d == 2 || d == 3 else d == 1 || d == 3

/-- Is the recorder taking copies (R724)? -/
def State.recording (s : State) (p : Nat) : Bool :=
  (s.recorder p).st == .running || (s.recorder p).st == .post

/-- The interrupt of a consumer port whose queue has just received a whole frame (R279). -/
def Act.portIrq (p n : Nat) : Act :=
  Act.get fun s =>
    let g := QMGR.CQ_CFG p n
    Act.when (s.flag g QMGR.CQ_CFG.IRQ = true ∧ s.fld g QMGR.CQ_CFG.OWNER = 3)
      (Act.irq p (.direct (s.fld g QMGR.CQ_CFG.PART) 1 n))

/-- The consumer ports bound to queues that hold frame id. -/
def State.portsOf (s : State) (p id : Nat) : List Nat :=
  (List.range 64).filter fun n =>
    decide (s.fld (QMGR.CQ_CFG p n) QMGR.CQ_CFG.OWNER ≠ 0) &&
      (s.queue (globalQueue p (s.fld (QMGR.CQ_CFG p n) QMGR.CQ_CFG.QUEUE))).refs.any fun r => r.id == id

/-- The interrupts of the consumer ports to which the last cell of frame id has been written (R279). -/
def Act.portsIrq (p id : Nat) : Act := Act.get fun s => Act.each (s.portsOf p id) fun n => Act.portIrq p n

/-- Make one mirror copy as a reference to frame id in its queue, or discard it where it finds no room (R231, R232). -/
def Act.mirrorRef (p id n : Nat) (done : Bool) (fr : Frame) : Act :=
  Act.get fun s =>
    let q := s.localQueue p fr.dest fr.cls fr.flow
    match s.verdict p { q := q, fr := fr, mirror := true } n 0 0 with
    | .take m sh r =>
      Act.all [
        Act.addRef p q { id := id, fr := fr, cells := n, minC := m, shC := sh, resC := r, done := done, wrote := s.time p },
        Act.when done (Act.portsIrq p id),
        Act.count (FAB.CNT p 3)]
    | .drop reason =>
      Act.seq (Act.dropRef p q reason)
        (Act.when (qFacet q = 62) (Act.get fun t => Act.setRecLost (globalQueue p q) (t.recLost (globalQueue p q) + 1)))
    | .refuse =>
      Act.all [
        Act.count (FAB.CNT p 4),
        Act.event (FAB.EVT p) 1,
        Act.when (qFacet q = 62) (Act.get fun t => Act.setRecLost (globalQueue p q) (t.recLost (globalQueue p q) + 1))]

/-- Periscope at a point of selection of die p: the copies of one frame, whose cells frame id holds, and the triggers of
the selectors it matches (R722 to R724). -/
def Act.periscope (p id n : Nat) (done adm : Bool) (f q : Nat) (filt : Option Nat) (fr : Frame) : Act :=
  Act.get fun s =>
    let hits := if s.enabled p 0x81 then (List.range 64).filter fun i => s.selects p i adm f q filt else []
    if fr.kind = 2 ∨ (adm = true ∧ fr.hop = true) ∨ hits = [] then Act.skip
    else
      Act.all [
        Act.opt (hits.find? fun i => s.asks p i false) (fun i =>
          let g := s.fld (PSCP.SEL_B p i) PSCP.SEL_B.ANA_QUEUE
          Act.mirrorRef p id n done { fr with kind := 2, dest := g, cls := qClass g, flow := qFlow g, link := none }),
        Act.opt (hits.find? fun i => s.asks p i true) (fun i =>
          if s.recording p then
            let c := s.fld (PSCP.SEL_B p i) PSCP.SEL_B.REC_CLASS
            let g := s.fld (PSCP.SEL_B p i) PSCP.SEL_B.REC_FLOW
            Act.mirrorRef p id n done
              { fr with
                kind := 2, dest := globalQueue p (queueNo 62 c g), cls := c, flow := g, link := none
                copy := some
                  { sel := i, snap := s.fld (PSCP.SEL_A p i) PSCP.SEL_A.SNAP, egress := !adm, queue := globalQueue p q
                    time := if adm then fr.ts else s.time p } }
          else Act.count (ra p 0x81 0x203)),
        Act.each (hits.filter fun i => s.flag (PSCP.SEL_A p i) PSCP.SEL_A.TRIG && !(s.recorder p).fired.contains i)
          (fun i => Act.modRecorder p fun r => { r with fired := i :: r.fired, trigs := r.trigs ++ [(3, s.time p)] })]

/-! ## Admission (R198 to R202, R213 to R216, R220, R225 to R228) -/

/-- The cells a frame asks for: its own, or for a cut-through frame those of the ingress facet's maximum (R198). -/
def State.askCells (s : State) (p f : Nat) (fr : Frame) : Nat :=
  if fr.cut then cellsOf (s.fld (ETH.MODE p f) ETH.MODE.MAX_LEN) else fr.cells

/-- The oldest looked-up frame of class c of a receive buffer: the candidate of R201. -/
def candidate (l : List RxFrame) (c : Nat) : Option RxFrame := l.find? fun r => r.looked && r.fr.cls == c

/-- A receive buffer without its candidate of class c, the frames given standing in its place. -/
def replaceCand (c : Nat) (new : List RxFrame) : List RxFrame → List RxFrame
  | [] => []
  | r :: l => if r.looked && r.fr.cls == c then new ++ l else r :: replaceCand c new l

/-- Return the credit units of the cells of a received frame, from the one to before the other, to the sending die, at
die-to-die facet f of die p (R222). -/
def Act.unitsBack (p f : Nat) (fr : Frame) (first last : Nat) : Act :=
  if 56 ≤ f ∧ f ≤ 58 then
    let u := ((List.range (last - first)).map fun i => fr.units (first + i)).sum
    Act.modLink (4 * p + (f - 56)) fun l => { l with back := l.back.modify fr.cls (· + u) }
  else Act.skip

/-- A frame of a partition's transmit ring to which the fabric gives no room counts (R671). -/
def Act.ringDenied (p : Nat) (r : RxFrame) : Act :=
  Act.opt r.ring fun e =>
    Act.when (r.fr.link = none)
      (Act.count (CPU.CNT p (16 * e.1 + 9)))

/-- A frame of a partition's transmit ring has been admitted (R671). -/
def Act.ringEntered (p : Nat) (r : RxFrame) : Act :=
  Act.opt r.ring fun e => Act.modRing (16 * p + e.1) fun u => { u with entered := true }

/-- The candidate of a class leaves the receive buffer without entering: its units return. -/
def Act.discardCand (p f c : Nat) (r : RxFrame) : Act :=
  Act.all [Act.modBuf (fk p f) (replaceCand c []), Act.unitsBack p f r.fr 0 r.got, Act.ringDenied p r]

/-- The facet's own discard statistics for a frame the guard discards: none of the chapters gives a facet a counter for
it beside FAB.STORM_CNT_n; a die-to-die facet sets D2D.EVT.STORM (R215, R248). -/
def Act.stormOwn (p f : Nat) : Act :=
  if 56 ≤ f ∧ f ≤ 58 then Act.event (D2D.EVT p (f - 56)) 3 else Act.skip

/-- The hold of a class at an ingress facet: while FAB is disabled every class is held, from the edge at which it was disabled where
not from before (R213, R235). -/
def State.holdNow (s : State) (p f c : Nat) : Hold :=
  let h := s.hold (ck p f c)
  if s.enabled p 0x08 = false ∧ h.held = false ∧ f ≠ 62 then { h with held := true, since := s.fabOff p } else h

/-- The guard time of die p in ms (R215, R216). -/
def State.stormMs (s : State) (p : Nat) : Nat := if s.enabled p 0x08 then s.fld (FAB.CFG p) FAB.CFG.STORM_MS else 100

/-- The guard discards the candidate of a class; the first discard of a drain episode is reported (R215, R241). -/
def Act.stormDiscard (p f c : Nat) (r : RxFrame) : Act :=
  Act.all [
    Act.discardCand p f c r,
    Act.count (FAB.STORM_CNT p f),
    Act.count (FAB.CNT p 5),
    Act.get fun s => Act.when ((s.hold (ck p f c)).told = false) (Act.all [
      Act.modHold (ck p f c) (fun h => { h with told := true }),
      Act.event (FAB.EVT p) 0,
      Act.stormOwn p f,
      Act.setFlds (FAB.STORM_LAST p) [(FAB.STORM_LAST.FACET, f), (FAB.STORM_LAST.CLASS, c)],
      Act.setReg (FAB.STORM_TIME p) (BitVec.ofNat 48 (s.time p))])]

/-- A candidate is refused: the class is held from its first refusal; in drain it is discarded at once (R213, R215). A
refused cut-through frame waits, and one that fails its check is discarded here (R200, R355). -/
def Act.refuseCand (p f c : Nat) (r : RxFrame) : Act :=
  Act.get fun s =>
    let h := s.holdNow p f c
    Act.seq (Act.count (QMGR.CNT p 1))
      (if h.drain then Act.stormDiscard p f c r
       else if r.fr.cut ∧ r.fr.abort then Act.discardCand p f c r
       else
         Act.all [
           Act.setHold (ck p f c) (if h.held then h else { held := true, since := s.edges }),
           Act.modBuf (fk p f) (replaceCand c
             [{ r with fr := { r.fr with cut := false }, since := some (r.since.getD (s.time p)) }])])

/-- A granted admission of a class ends its hold and its drain (R213 to R215, R245). -/
def Act.endHold (p f c : Nat) : Act :=
  Act.get fun s =>
    let h := s.hold (ck p f c)
    if h.held ∨ h.drain then
      Act.seq (Act.maxFld (FAB.FACET p f) FAB.FACET.HELD_MAX_MS ((s.edges - h.since) * 1000 / 32768))
        (Act.setHold (ck p f c) {})
    else Act.skip

/-- A cell fails a check inside a die: the event, the counter and the record of R234. -/
def Act.cellErr (p src cls place : Nat) : Act :=
  Act.all [
    Act.count (FAB.CNT p 6),
    Act.event (FAB.EVT p) 2,
    Act.setFlds (FAB.CELL_ERR_LAST p)
      [(FAB.CELL_ERR_LAST.FACET, src), (FAB.CELL_ERR_LAST.CLASS, cls), (FAB.CELL_ERR_LAST.WHERE, place)]]

/-- A frame that selects a replication entry with VALID = 0 (R228). -/
def Act.repMiss (p : Nat) : Act := Act.seq (Act.count (FAB.CNT p 7)) (Act.event (FAB.EVT p) 3)

/-- The references a frame asks for on this die. -/
def State.offers (s : State) (p f : Nat) (r : RxFrame) : List Offer :=
  let thru := r.fr.hop || f == 59 || f == 61
  let fr := r.fr
  if fr.kind = 1 then
    match fr.link with
    | some d => [{ q := queueNo (56 + d2dLink p d) fr.cls fr.flow, fr := fr, thru := thru }]
    | none =>
      let e := s.repEntry p fr.dest
      let fl := fget e.2 FAB.REP_W1.FLOW
      ((repFacets e).filter fun m => bit e.2 20 || m != f || fr.hop).map fun m =>
        { q := queueNo m fr.cls fl, fr := { fr with flow := fl }, thru := thru }
  else [{ q := s.localQueue p fr.dest fr.cls fr.flow, fr := fr, thru := thru && fr.kind == 0, mirror := fr.kind == 2 }]

/-- The frame number whose cells a link copy shares, with whether they are written whole: the number under which a part of the same
frame was admitted, where the pool still holds it (R225). -/
def State.sharedId (s : State) (p f : Nat) (r : RxFrame) : Option (Nat × Bool) :=
  r.id.bind fun i =>
    if (s.adm (fk p f)).any fun a => a.id == i then some (i, false)
    else if (s.dieQueues p).any fun e => e.2.refs.any fun x => x.id == i then some (i, true)
    else none

/-- The link copies a frame asks for: one for each die of its replication entry, none for a frame that has crossed a link
(R225). -/
def State.linkCopies (s : State) (p : Nat) (r : RxFrame) : List RxFrame :=
  if r.fr.kind = 1 ∧ r.fr.link = none ∧ r.fr.hop = false then
    let e := s.repEntry p r.fr.dest
    (repDies e).map fun d => { r with fr := { r.fr with link := some d, dest := fget e.2 FAB.REP_W1.FAR_GROUP } }
  else []

/-- Grant a frame: its references join their queues, the discarded ones count, the copies of Periscope follow at the first admission of
the frame, and it waits for entry, its link copies left as candidates in its place. A link copy whose cells the pool holds already
joins its queue as one more reference to them (R225, R227, R231, R257, R258). -/
def Act.grant (p f c n : Nat) (r : RxFrame) (links : List RxFrame) (plan : List (Offer × Verdict)) : Act :=
  Act.get fun s =>
    let share := s.sharedId p f r
    let id := share.elim s.sw.nextRef (·.1)
    let done := share.elim false (·.2)
    let taken := (plan.filter fun e => match e.2 with | .take _ _ _ => true | _ => false).length
    Act.all [
      Act.shape p,
      Act.when (share = none) (Act.upd fun t => { t with sw := { t.sw with nextRef := t.sw.nextRef + 1 } }),
      Act.modBuf (fk p f) (replaceCand c (links.map fun x => { x with id := if taken = 0 then none else some id, since := none })),
      Act.each plan (fun e =>
        match e.2 with
        | .take m sh x =>
          Act.addRef p e.1.q { id := id, fr := e.1.fr, cells := n, minC := m, shC := sh, resC := x, done := done, wrote := s.time p }
        | .drop reason => Act.dropRef p e.1.q reason
        | .refuse => Act.skip),
      (if taken = 0 then Act.seq (Act.unitsBack p f r.fr 0 r.got) (Act.ringDenied p r)
       else
         Act.all [
           Act.count (QMGR.CNT p 0),
           Act.offerMon p 0x018 0 ((r.since.elim 0 (s.sinceNs p)) / 1000 : Nat),
           Act.ringEntered p r,
           Act.endHold p f c,
           Act.when (r.id = none) (Act.periscope p id n done true f 0 r.filt r.fr),
           Act.when (share = none)
             (Act.modAdm (fk p f) fun l => l ++
               [{ id := id, fr := r.fr, cells := n, got := r.got, since := s.edges
                  members := if r.fr.kind = 1 ∧ r.fr.link = none then taken else 0 }])]),
      Act.checkShared p]

/-- A mirror copy that crossed a link and finds no room is discarded at once, and its units return (R232, R258). -/
def Act.mirrorNoRoom (p f c : Nat) (r : RxFrame) : Act :=
  Act.all [
    Act.count (QMGR.CNT p 1),
    Act.discardCand p f c r,
    Act.count (FAB.CNT p 4),
    Act.event (FAB.EVT p) 1,
    Act.when (56 ≤ f ∧ f ≤ 58) (Act.event (D2D.EVT p (f - 56)) 4)]

/-- One admission request for the candidate of a class (R198 to R201, R257, R258). FAB or QMGR disabled refuses every
candidate (R235, and the disabled safe state of QMGR). -/
def Act.request (p f c : Nat) (r : RxFrame) : Act :=
  Act.get fun s =>
    let n := s.askCells p f r.fr
    let refused := if r.fr.kind = 2 then Act.mirrorNoRoom p f c r else Act.refuseCand p f c r
    if s.enabled p 0x08 = false ∨ s.enabled p 0x09 = false then refused
    else if r.fr.kind = 1 ∧ r.fr.link = none ∧ bit (s.repEntry p r.fr.dest).2 21 = false then
      Act.seq (Act.discardCand p f c r) (Act.repMiss p)
    else
      let offers := s.offers p f r
      let links := s.linkCopies p r
      if offers = [] ∧ links = [] then Act.discardCand p f c r
      else if offers = [] then Act.modBuf (fk p f) (replaceCand c links)
      else
        let plan := s.plan p n offers 0 0
        if plan.any fun e => e.2 == .refuse then refused else Act.grant p f c n r links plan

/-- The class that ingress facet f offers: the highest with a candidate that is not refused, or is in drain (R201). -/
def State.offerClass (s : State) (p f : Nat) : Option Nat :=
  [7, 6, 5, 4, 3, 2, 1, 0].find? fun c =>
    (candidate (s.buf (fk p f)) c).isSome && (!(s.hold (ck p f c)).held || (s.hold (ck p f c)).drain)

/-- FRAME_ADMISSION: facet f of die p offers its candidate (R201, R257). -/
def frameAdmission (p f : Nat) : Act :=
  Act.get fun s =>
    Act.opt (s.offerClass p f) fun c => Act.opt (candidate (s.buf (fk p f)) c) fun r => Act.request p f c r

/-- ADMISSION_RETRY: a refused frame requests admission again (R199). -/
def admissionRetry (p f c : Nat) : Act :=
  Act.get fun s => Act.when ((s.hold (ck p f c)).held = true)
    (Act.opt (candidate (s.buf (fk p f)) c) fun r => Act.request p f c r)

/-- STORM_TIMEOUT: the guard timer of a held class, which runs from the start of the hold in slow-clock edges, has reached its time: the
class goes into drain, and its candidate is discarded (R214 to R216). -/
def stormTimeout (p f c : Nat) : Act :=
  Act.get fun s =>
    let h := s.holdNow p f c
    Act.when (h.held = true ∧ h.drain = false ∧ s.pastMs h.since (s.stormMs p) = true)
      (Act.seq (Act.setHold (ck p f c) { h with drain := true })
        (Act.opt (candidate (s.buf (fk p f)) c) fun r => Act.stormDiscard p f c r))

/-! ## Entry (R202, R209, R225) -/

/-- Take n cells off a charge: from the shared pool first, then the through reserve, then the minimum, in the order of
R269. -/
def Ref.release (r : Ref) (n : Nat) : Ref :=
  let a := min n r.shC
  let b := min (n - a) r.resC
  let c := min (n - a - b) r.minC
  { r with shC := r.shC - a, resC := r.resC - b, minC := r.minC - c }

/-- The LAST cell of frame id is written: its references are complete, and the cells reserved and not used return (R198,
R252). -/
def Act.complete (p id n : Nat) : Act :=
  Act.eachQueue p fun _ u =>
    { u with refs := u.refs.map fun r =>
        if r.id = id then { (r.release (r.cells - n)) with cells := min r.cells n, done := true } else r }

/-- The frame of a class in transmission at a facet, or being sent over a link, is marked ABORT where it is frame fr
(R234). -/
def Act.abortTx (p : Nat) (fr : Frame) : Act :=
  Act.each (List.range 32) fun f =>
    Act.get fun s =>
      Act.when (((s.eth (fk p f)).tx.map fun t => (t.src, t.cls, t.fid)) = some (fr.src, fr.cls, fr.fid))
        (Act.modEth (fk p f) fun e => { e with tx := e.tx.map fun t => { t with abort := true } })

/-- The guaranteed share of an ingress facet, in 0.1 Gbit/s; facets 24 to 55 have none and are served first (R204, R205). -/
def State.share (s : State) (p f : Nat) : Nat :=
  if f < 24 then (if s.facetDown p f then 0 else s.lineRate p f / 100)
  else if f < 56 then 0
  else if f < 59 then (if (s.link (4 * p + (f - 56))).up ∧ s.enabled p (0x58 + (f - 56)) = true then 1000 else 0)
  else if f = 59 then 10 * s.fld (FAB.SHARE p) FAB.SHARE.SE
  else if f = 60 then 10 * s.fld (FAB.SHARE p) FAB.SHARE.CPU
  else if f = 61 then 1000
  else if f = 63 then 10 * s.fld (FAB.SHARE p) FAB.SHARE.EYE
  else 0

/-- The admitted frame of facet f that would enter next: the oldest with cells that have arrived, or that is to be aborted. FAB
disabled grants no new entry, and what is in transit completes (R235). -/
def State.entering (s : State) (p f : Nat) : Option Admitted :=
  (s.adm (fk p f)).find? fun a => (a.fr.abort || decide (a.entered < a.got)) && (s.enabled p 0x08 || decide (0 < a.entered))

/-- The tag under which facet f would be served: its own finish tag, or that of the latest entry where it lagged behind. -/
def State.entryTag (s : State) (p f : Nat) : Nat := max (s.turn (fk p f)) (s.turnNow p)

/-- The facet of a list that is served next: the one with the least tag, the lowest facet among equals. -/
def State.leastTag (s : State) (p : Nat) : List Nat → Option Nat
  | [] => none
  | f :: l =>
    match s.leastTag p l with
    | none => some f
    | some g => if s.entryTag p f ≤ s.entryTag p g then some f else some g

/-- The facet whose frame the fabric of die p lets enter next (R205, R206): one of facets 24 to 55 where one waits, else one with a
share, else one whose facet has gone down; in each group in the order of a fair queue, in which a facet that enters bytes falls back
by their number over its share (log entry 125). -/
def State.entryFacet (s : State) (p : Nat) : Option Nat :=
  let waiting := (List.range 64).filter fun f => (s.entering p f).isSome
  let first := waiting.filter fun f => decide (24 ≤ f ∧ f < 56)
  let shared := waiting.filter fun f => decide (s.share p f ≠ 0)
  s.leastTag p (if first ≠ [] then first else if shared ≠ [] then shared else waiting)

/-- The order moves on: facet f has entered n bytes. -/
def Act.entryServed (p f n : Nat) : Act :=
  Act.get fun s =>
    Act.seq (Act.setTurnNow p (s.entryTag p f)) (Act.setTurn (fk p f) (s.entryTag p f + n * 1000000 / max 1 (s.share p f)))

/-- The frame bytes of the cells of a frame from the one to before the other. -/
def Frame.bytesIn (fr : Frame) (first last : Nat) : Nat :=
  ((List.range (last - first)).map fun i => cellLen fr.data.length (first + i)).sum

/-- An admitted frame of facet f enters with the cells that have arrived, and with its last cell is written whole; an aborted frame is
removed (R202, R225, R234). -/
def Act.enter (p f : Nat) (a : Admitted) : Act :=
  let others := fun (l : List Admitted) => l.filter fun x => x.id != a.id
  Act.get fun s =>
    Act.all [
      Act.shape p,
      Act.countBy (FAB.CNT p 0) (a.got - a.entered),
      Act.tallyMon p 0x01B 0 (a.got - a.entered),
      Act.when (a.entered = 0)
        (Act.all [Act.count (FAB.CNT p 1), Act.countBy (FAB.CNT p 2) a.members,
          Act.eachQueue p fun _ u => { u with refs := u.refs.map fun r => if r.id = a.id then { r with wrote := s.time p } else r }]),
      Act.unitsBack p f a.fr a.entered a.got,
      Act.entryServed p f (a.fr.bytesIn a.entered a.got),
      (if a.fr.abort then
         Act.all [Act.modAdm (fk p f) others, Act.removeId p a.id, Act.abortTx p a.fr,
           Act.when (a.fr.cut = true ∧ f < 32) (Act.count (ETH.CNT p f 16))]
       else if a.got = a.fr.cells then
         Act.all [Act.modAdm (fk p f) others, Act.complete p a.id a.fr.cells, Act.portsIrq p a.id]
       else Act.modAdm (fk p f) fun l => l.map fun x => if x.id = a.id then { x with entered := x.got } else x),
      Act.checkShared p]

/-- FRAME_ENTRY: the fabric of die p lets the next admitted frame enter (R202, R205, R209). -/
def frameEntry (p : Nat) : Act :=
  Act.get fun s => Act.opt (s.entryFacet p) fun f => Act.opt (s.entering p f) fun a => Act.enter p f a

/-! ## Die-to-die links (R222, R234, R246 to R249) -/

/-- The credit units of class c that die p's receiver of link j has (R246). -/
def State.d2dUnits (s : State) (p j c : Nat) : Nat :=
  if c < 4 then fget (s.reg (D2D.CREDIT_A p j)) ⟨8 * c, 8⟩ else fget (s.reg (D2D.CREDIT_B p j)) ⟨8 * (c - 4), 8⟩

/-- Exchange credits between die p's link j and its far end when both blocks are enabled (R246). -/
def Act.d2dExchange (p j : Nat) : Act :=
  Act.get fun s =>
    let q := d2dFar p j
    let i := d2dLink q p
    Act.when (q < s.x ∧ s.enabled p (0x58 + j) = true ∧ s.enabled q (0x58 + i) = true)
      (Act.seq
        (Act.modLink (4 * p + j) fun l => { l with up := true, credit := (List.range 8).map fun c => s.d2dUnits q i c })
        (Act.modLink (4 * q + i) fun l => { l with up := true, credit := (List.range 8).map fun c => s.d2dUnits p j c }))

/-- Does frame fr of class c still arrive at facet f of die p: cells got, fewer than the frame has? -/
def arriving (c got cells : Nat) (fr : Frame) : Bool := fr.cls == c && decide (got < cells)

/-- One more cell of class c has arrived at die-to-die facet f of die p for a frame in the receive buffer or admitted;
where its frame is gone, the cell is dropped and its units return. -/
def Act.moreCells (p f c : Nat) (fr : Frame) (i : Nat) : Act :=
  Act.get fun s =>
    if (s.buf (fk p f)).any fun r => arriving c r.got r.fr.cells r.fr then
      Act.modBuf (fk p f) fun l => l.map fun r =>
        if arriving c r.got r.fr.cells r.fr then { r with got := r.got + 1 } else r
    else if (s.adm (fk p f)).any fun a => arriving c a.got a.fr.cells a.fr then
      Act.modAdm (fk p f) fun l => l.map fun a =>
        if arriving c a.got a.fr.cells a.fr then { a with got := a.got + 1 } else a
    else Act.unitsBack p f fr i (i + 1)

/-- Does a cell of class c of die p wait for credit of link j (R247): the next one of the frame being sent, or else the first of the
oldest frame of one of the class's queues? -/
def State.lacksCredit (s : State) (p j c : Nat) : Bool :=
  let l := s.link (4 * p + j)
  let lacks := fun (fr : Frame) (i : Nat) => decide (l.credit.getD c 0 < fr.units i)
  l.up && s.enabled p (0x58 + j) &&
    (match l.sending.find? (fun e => e.1 == c) with
     | some (_, fr, n) => lacks fr n
     | none =>
       (List.range 32).any fun g => (s.queue (globalQueue p (queueNo (56 + j) c g))).front.any fun r => lacks r.fr 0)

/-- A cell of die p for link j waits for credit from now, where it does not wait yet (R247, R249). -/
def Act.creditWait (p j c : Nat) : Act :=
  Act.get fun s =>
    Act.modLink (4 * p + j) fun l =>
      { l with noCredit := if l.noCredit.any fun e => e.1 == c then l.noCredit else (c, s.time p) :: l.noCredit }

/-- A cell of class c leaves die p over link j: how long it waited for credit is offered, and kept where it is the longest (R249,
R250). -/
def Act.creditGot (p j c : Nat) : Act :=
  Act.get fun s =>
    let w := ((s.link (4 * p + j)).noCredit.find? fun e => e.1 == c).elim 0 fun e => s.sinceNs p e.2
    Act.all [
      Act.modLink (4 * p + j) (fun l => { l with noCredit := l.noCredit.filter fun e => e.1 != c }),
      Act.setReg (D2D.HOLD_MAX p j) (BitVec.ofNat 48 (max (s.reg (D2D.HOLD_MAX p j)).toNat (sat 0xFFFFFFFF w))),
      Act.offerMon p (0x01C + j) 0 w]

/-- Would a frame that came over a link to die p have to cross another (R33, R219): its destination lies on another die, or at a
die-to-die facet of this one? -/
def Frame.crossesAgain (p : Nat) (fr : Frame) : Bool :=
  fr.kind != 1 && (qDie fr.dest != p || decide (56 ≤ qFacet fr.dest ∧ qFacet fr.dest ≤ 58))

/-- D2D_CELL_RECEIVE: the next cell of class c arrives at link j of die p from its far die. The sender spends the units of
the cell; without them the cell waits there (R222). The first cell brings the frame, with HOP = 1, to the receive
buffer, where it waits for admission; a cell of a frame that would cross another link is discarded and counted (R219). -/
def d2dCellReceive (p j c : Nat) : Act :=
  Act.get fun s =>
    let q := d2dFar p j
    let i := d2dLink q p
    let k := 4 * q + i
    let l := s.link k
    match l.sending.find? (fun e => e.1 == c) with
    | none => Act.skip
    | some (_, fr, n) =>
      let u := fr.units n
      let fr' := { fr with hop := true, link := none, cut := false }
      if s.enabled p (0x58 + j) = false ∨ s.enabled q (0x58 + i) = false ∨ l.up = false then Act.skip
      else if l.credit.getD c 0 < u then Act.creditWait q i c
      else
        Act.all [
          Act.creditGot q i c,
          Act.modLink k (fun l =>
            { l with
              credit := l.credit.modify c (· - u)
              sending :=
                if n + 1 < fr.cells then l.sending.map fun e => if e.1 = c then (c, fr, n + 1) else e
                else l.sending.filter fun e => e.1 != c }),
          Act.count (D2D.CELLS_TX q i),
          Act.count (D2D.CELLS_RX p j),
          (if fr'.crossesAgain p then Act.seq (Act.unitsBack p (56 + j) fr n (n + 1)) (Act.cellErr p fr.src c 2)
           else if n = 0 then
             Act.modBuf (fk p (56 + j)) fun b => b ++ [{ fr := fr', bufCls := c, looked := true, got := 1 }]
           else Act.moreCells p (56 + j) c fr n)]

/-- D2D_CREDIT_RETURN: the units of class c freed at the far end of link j of die p return to die p (R222). -/
def d2dCreditReturn (p j c : Nat) : Act :=
  Act.get fun s =>
    let q := d2dFar p j
    let k := 4 * q + d2dLink q p
    let n := (s.link k).back.getD c 0
    Act.seq (Act.modLink k fun l => { l with back := l.back.set c 0 })
      (Act.modLink (4 * p + j) fun l => { l with credit := l.credit.modify c (· + n) })

/-- The units that the frames of class c in die p's receiver of link j occupy. -/
def State.heldUnits (s : State) (p j c : Nat) : Nat :=
  let f := 56 + j
  ((s.buf (fk p f)).map fun r =>
      if r.fr.cls = c then ((List.range r.got).map r.fr.units).sum else 0).sum +
    ((s.adm (fk p f)).map fun a =>
      if a.fr.cls = c then ((List.range (a.got - a.entered)).map fun i => a.fr.units (a.entered + i)).sum else 0).sum

/-- Abort the newest frame of class c at facet f of die p, in the buffer or admitted, and what still arrives of it: its
units return, its references go (R234). -/
def Act.abortArrival (p f c : Nat) : Act :=
  Act.get fun s =>
    match (s.buf (fk p f)).reverse.find? (fun r => r.fr.cls == c) with
    | some r => Act.seq (Act.modBuf (fk p f) fun l => (l.reverse.erase r).reverse) (Act.unitsBack p f r.fr 0 r.got)
    | none =>
      match (s.adm (fk p f)).reverse.find? (fun a => a.fr.cls == c) with
      | none => Act.skip
      | some a =>
        Act.all [Act.modAdm (fk p f) fun l => l.erase a, Act.removeId p a.id, Act.unitsBack p f a.fr a.entered a.got, Act.checkShared p]

/-- Set both ends' credits of link j of die p to what the far buffers have free (R234). -/
def Act.resync (p j : Nat) : Act :=
  Act.get fun s =>
    let q := d2dFar p j
    let i := d2dLink q p
    Act.seq
      (Act.modLink (4 * p + j) fun l =>
        { l with credit := (List.range 8).map fun c => s.d2dUnits q i c - s.heldUnits q i c, noCredit := [] })
      (Act.modLink (4 * q + i) fun l =>
        { l with credit := (List.range 8).map fun c => s.d2dUnits p j c - s.heldUnits p j c, noCredit := [], back := [0, 0, 0, 0, 0, 0, 0, 0] })

/-- D2D_CREDIT_VIOLATION: a cell of class c arrives at link j of die p without credit: its frame aborts, and both dies
resynchronise (R234). Where it is the first cell of its frame, nothing of the frame has arrived before it. -/
def d2dCreditViolation (p j c : Nat) : Act :=
  let q := d2dFar p j
  let i := d2dLink q p
  Act.get fun s =>
    let begun := (s.link (4 * q + i)).sending.any fun e => e.1 == c && decide (0 < e.2.2)
    Act.all [
      Act.event (D2D.EVT p j) 1,
      Act.when begun (Act.abortArrival p (56 + j) c),
      Act.modLink (4 * q + i) (fun l => { l with sending := l.sending.filter fun e => e.1 != c }),
      Act.resync p j,
      Act.modLink (4 * p + j) (fun l => { l with back := [0, 0, 0, 0, 0, 0, 0, 0] }),
      Act.event (D2D.EVT p j) 2,
      Act.event (D2D.EVT q i) 2]

/-- CELL_CHECK_FAILURE: cell i of a frame arrives with an invalid code word, or with the bits of a pattern of its header flipped so that
CHECK does not match (R196, R234). Inside a die (place 0: second-stage element, 1: queue write) it is a cell of the oldest admitted
frame of facet f and class c, which is aborted. At a die-to-die receiver (place 3) it is one of the newest frame of the class there,
which is aborted, and its units return. -/
def cellCheckFailure (p f c place i flip : Nat) (code : Bool) : Act :=
  Act.get fun s =>
    if place = 3 then
      let fr := (((s.buf (fk p f)).reverse.find? fun r => r.fr.cls == c).map (·.fr)).or
        (((s.adm (fk p f)).reverse.find? fun a => a.fr.cls == c).map (·.fr))
      Act.opt fr fun fr =>
        Act.when (56 ≤ f ∧ f ≤ 58 ∧ i < fr.cells ∧ (code = true ∨ fr.cellFails fr.cells i flip = true))
          (Act.all [Act.event (D2D.EVT p (f - 56)) 0, Act.count (D2D.CHECK_ERRS p (f - 56)), Act.abortArrival p f c])
    else
      Act.opt ((s.adm (fk p f)).find? fun a => a.fr.cls == c) fun a =>
        Act.when (i < a.fr.cells ∧ (code = true ∨ a.fr.cellFails a.cells i flip = true))
          (Act.all [
            Act.cellErr p a.fr.src c (place % 2),
            Act.modAdm (fk p f) (fun l => l.erase a),
            Act.removeId p a.id,
            Act.unitsBack p f a.fr a.entered a.got,
            Act.abortTx p a.fr,
            Act.checkShared p])

/-- STALLED_CELL: an admitted frame is not fully written within 1 ms (R234). -/
def stalledCell (p : Nat) : Act :=
  Act.get fun s =>
    Act.when (((List.range 64).any fun f => (s.adm (fk p f)).any fun a => s.pastMs a.since 1) = true) (Act.event (FAB.EVT p) 5)

/-- PACE_SAMPLE: the pace monitor's value at a slow-clock edge (R233, R239). -/
def paceSample (p v : Nat) : Act :=
  Act.get fun s =>
    Act.all [
      Act.when (v % 65536 < 1024 ∧ 1024 ≤ s.paceNow p) (Act.event (FAB.EVT p) 4),
      Act.setPaceNow p (v % 65536),
      Act.setFld (FAB.PACE p) FAB.PACE.MIN (min (s.fld (FAB.PACE p) FAB.PACE.MIN) (v % 65536))]

/-! ## Register commands of FAB (R229, R240, R244) -/

/-- Does a replication entry break R229 on die p? -/
def State.repBad (s : State) (p : Nat) (w1 : Word) : Bool :=
  decide (fget w1 ⟨8, 3⟩ ≠ 0) ||
    (List.range 4).any fun d => bit w1 (16 + d) && (d == p || decide (s.x ≤ d))

/-- A write of FAB.REP_CMD (R229, R244). -/
def repCmd (ag : Agent) (p : Nat) (v : Word) (k : Code → Act) : Act :=
  let a := FAB.REP_CMD p
  let i := fget v FAB.REP_CMD.INDEX
  Act.get fun s =>
    match fget v FAB.REP_CMD.OP with
    | 0 => Act.seq (Act.store a v) (k .ok)
    | 1 =>
      Act.all [Act.store a v, Act.setReg (FAB.REP_W0 p) (s.repEntry p i).1, Act.setReg (FAB.REP_W1 p) (s.repEntry p i).2,
        Act.setFld a FAB.REP_CMD.RESULT 0, k .ok]
    | 2 =>
      if s.repBad p (s.reg (FAB.REP_W1 p)) then
        Act.all [Act.store a v, Act.setFld a FAB.REP_CMD.RESULT 2, Act.badValue a ag k]
      else
        Act.all [Act.store a v, Act.setTblWords p 0x40 i [s.reg (FAB.REP_W0 p), s.reg (FAB.REP_W1 p)],
          Act.setFld a FAB.REP_CMD.RESULT 0, k .ok]
    | _ => Act.seq (Act.setFld a FAB.REP_CMD.RESULT 2) (Act.badValue a ag k)

/-- A write of 1 to FAB.CTRL.CLR_MAX (R240, R249). -/
def fabClrMax (p : Nat) : Act :=
  Act.all [
    Act.setFld (FAB.PACE p) FAB.PACE.MIN 0xFFFF,
    Act.each (List.range 64) (fun f => Act.setFld (FAB.FACET p f) FAB.FACET.HELD_MAX_MS 0),
    Act.each (List.range 3) (fun j => Act.setReg (D2D.HOLD_MAX p j) 0)]

end Sys2Proof.Machine
end

