-- ==== Sys2Proof/Machine/Queue.lean ====
section
/-! DEFINITION. Egress queues: the scheduler, departures, flushes, spill memory, consumer ports, Q_CMD
(06_queues_buffers.md). -/

namespace Sys2Proof.Machine

/-- The answer to an access. -/
def Act.reply (ag : Agent) (code : Code) (data : Word) : Act := Act.emit (.reply ag code data)

/-- The answer to a write: its reply code, with zero data. -/
def Act.replied (ag : Agent) (code : Code) : Act := Act.reply ag code 0

/-! ## The egress scheduler (R261) -/

/-- Deficit round robin over the flow groups: el names the length of each flow group's eligible head and its queue's
weight in bytes; the visit of group cur has begun or not; d holds the deficits. The answer is the group that sends, and
the deficits after it. -/
def drr (el : List (Option (Nat × Nat))) : Nat → Nat → Bool → List Nat → Nat × List Nat
  | 0, cur, _, d => (cur, d)
  | n + 1, cur, begun, d =>
    match el.getD cur none with
    | none => drr el n ((cur + 1) % 32) false d
    | some (len, w) =>
      let v := d.getD cur 0 + (if begun then 0 else w)
      if len ≤ v then (cur, d.set cur (v - len)) else drr el n ((cur + 1) % 32) false (d.set cur v)

/-- The heads of class c of facet f: for each flow group the head that may leave, which head decides. -/
def State.headsOf (s : State) (p f c : Nat) (head : Nat → Queue → Option Ref) : List (Option Ref) :=
  (List.range 32).map fun g =>
    let q := queueNo f c g
    head q (s.queue (globalQueue p q))

/-- The scheduler of facet f: the highest class with a head that may leave, then deficit round robin among its flow groups
(R261). k is given the local queue and its head, which is still in the queue. -/
def Act.schedule (p f : Nat) (head : Nat → Queue → Option Ref) (k : Nat → Ref → Act) : Act :=
  Act.get fun s =>
    Act.opt ([7, 6, 5, 4, 3, 2, 1, 0].find? fun c => (s.headsOf p f c head).any Option.isSome) fun c =>
      let heads := s.headsOf p f c head
      let el := (List.range 32).map fun g =>
        (heads.getD g none).map fun r =>
          (r.fr.data.length, 256 * max 1 (s.profA p (queueNo f c g) QMGR.PROF_A.WEIGHT))
      let d := (List.range 32).map fun g => (s.queue (globalQueue p (queueNo f c g))).deficit
      let rb := s.robin (ck p f c)
      let r := drr el 2048 rb.cur rb.begun d
      let q := queueNo f c r.1
      Act.all [
        Act.each ((List.range 32).filter fun g => (heads.getD g none).isSome) (fun g =>
          Act.modQueue (globalQueue p (queueNo f c g)) fun u => { u with deficit := r.2.getD g 0 }),
        Act.setRobin (ck p f c) { cur := r.1, begun := true },
        Act.opt (heads.getD r.1 none) fun h => k q h]

/-- The oldest reference leaves its queue: its charge returns, and Periscope may copy the frame (R231, R256, R723). -/
def Act.depart (p q : Nat) (r : Ref) : Act :=
  Act.all [
    Act.shape p,
    Act.get (fun s => Act.modQueue (globalQueue p q) fun u => { u.without 0 with headAt := s.time p }),
    Act.periscope p r.id r.cells r.done false 0 q none r.fr,
    Act.offerDepth p q,
    Act.get (fun s => Act.offerMon p (0x028 + qClass q) (qFacet q) (s.sinceNs p r.wrote / 1000)),
    Act.checkShared p]

/-- Take the next frame of a facet that an engine of the die drains: 59, 61, 62, or flow group 0 of 63 (R251). -/
def Act.take (p f : Nat) (flowOk : Nat → Bool) (k : Nat → Ref → Act) : Act :=
  Act.schedule p f (fun q u => if flowOk (qFlow q) then u.front else none) fun q r => Act.seq (Act.depart p q r) (k q r)

/-! ## Flushes (R264, R265, R284) -/

/-- Does a flush with a target and scope cover local queue q (R284)? -/
def flushCovers (target scope q : Nat) : Bool :=
  match scope with
  | 0 => q == target
  | 1 => qFacet q == qFacet target && qClass q == qClass target
  | _ => qFacet q == qFacet target

/-- The references a flush removes from local queue q: all but a frame whose transmission has begun, which for a CAN
facet is the pending head (R265, R403). -/
def State.flushed (s : State) (p : Nat) (held : Nat → Option Nat) (q : Nat) : Nat :=
  (s.queue (globalQueue p q)).refs.length - (if held (qFacet q) = some q then 1 else 0)

/-- Remove what a flush covers: references, spilled blocks, and the words of a frame partly read at a consumer port
(R265). -/
def Act.flushOut (p target scope : Nat) (held : Nat → Option Nat) : Act :=
  Act.get fun s =>
    Act.all [
      Act.shape p,
      Act.each ((s.dieQueues p).filter fun e => flushCovers target scope (e.1 % 16384)) (fun e =>
        let q := e.1 % 16384
        Act.modQueue e.1 fun u =>
          if held (qFacet q) = some q then { u with refs := u.refs.take 1, head := 0, spilled := 0, full := false }
          else { u with refs := [], head := 0, spilled := 0, full := false, deficit := 0 }),
      Act.each ((List.range 64).filter fun n => flushCovers target scope (s.fld (QMGR.CQ_CFG p n) QMGR.CQ_CFG.QUEUE))
        (fun n => Act.modPort (64 * p + n) fun u => { u with words := [] }),
      Act.checkShared p]

/-- How many references a flush removes. -/
def State.flushCount (s : State) (p target scope : Nat) (held : Nat → Option Nat) : Nat :=
  (((s.dieQueues p).filter fun e => flushCovers target scope (e.1 % 16384)).map fun e =>
    s.flushed p held (e.1 % 16384)).sum

/-- A flush of n frames completes: counted, REMOVED, and FLUSH_DONE (R265, R282, R284, R287). -/
def Act.flushEnd (p n : Nat) : Act :=
  Act.all [
    Act.countBy (QMGR.CNT p 5) n,
    Act.setFld (QMGR.FLUSH_CMD p) QMGR.FLUSH_CMD.REMOVED (sat 0xFFFFFF n),
    Act.event (QMGR.EVT p) 4]

/-- A write of QMGR.FLUSH_CMD (R265, R284). -/
def flushCmd (ag : Agent) (p : Nat) (held : State → Nat → Option Nat) (v : Word) (k : Code → Act) : Act :=
  let a := QMGR.FLUSH_CMD p
  Act.get fun s =>
    if s.fld a QMGR.FLUSH_CMD.RESULT = 1 ∨ fget v QMGR.FLUSH_CMD.SCOPE = 3 then Act.badValue a ag k
    else
      let t := fget v QMGR.FLUSH_CMD.TARGET
      let sc := fget v QMGR.FLUSH_CMD.SCOPE
      let store := Act.setFlds a [(QMGR.FLUSH_CMD.TARGET, t), (QMGR.FLUSH_CMD.SCOPE, sc)]
      if fget v QMGR.FLUSH_CMD.START = 0 then Act.seq store (k .ok)
      else
        Act.all [store, Act.setFld a QMGR.FLUSH_CMD.RESULT 1,
          Act.setFlush p (some { target := t, scope := sc, removed := s.flushCount p t sc (held s) }),
          Act.flushOut p t sc (held s), k .ok]

/-- FLUSH_DONE: the flush in progress completes (R265). -/
def flushDone (p : Nat) : Act :=
  Act.get fun s =>
    Act.opt (s.flush p) fun u =>
      Act.all [Act.setFlush p none, Act.flushEnd p u.removed, Act.setFld (QMGR.FLUSH_CMD p) QMGR.FLUSH_CMD.RESULT 2]

/-! ## Spill memory (R266 to R274) -/

/-- A field of PROF_B of the profile of the queue with global number g of die p. -/
def State.spillFld (s : State) (p q : Nat) (f : Fld) : Nat := s.profB p q f

/-- The cells of a queue. -/
def Queue.cells (u : Queue) : Nat := (u.refs.map (·.cells)).sum

/-- Does spill work on die p (R266, R274)? -/
def State.spillOn (s : State) (p : Nat) : Bool :=
  s.fuse.memUsed && s.fld (SPILL.REGION p) SPILL.REGION.SIZE != 0 && s.enabled p 0x0A

/-- Change the charges of the references whose cells lie from a to before b of a queue: each gives back the charge of its
cells there (R269). -/
def Queue.releaseCells (u : Queue) (a b : Nat) : Queue :=
  { u with refs := (Queue.placed 0 u.refs).map fun e => e.2.release (min b (e.1 + e.2.cells) - max a e.1) }

/-- The references with cells from a to before b of a queue. -/
def Queue.refsIn (u : Queue) (a b : Nat) : List Ref :=
  ((Queue.placed 0 u.refs).filter fun e => decide (max a e.1 < min b (e.1 + e.2.cells))).map (·.2)

/-- Count blocks in the current slow-clock period: out, in. -/
def Act.bumpRate (p o i : Nat) : Act := Act.modRate p fun r => (r.1 + o, r.2.1 + i, r.2.2.1, r.2.2.2)

/-- The references to frames of local queue q are aborted (R273). -/
def Act.abortIn (p q : Nat) (ids : List Nat) : Act :=
  Act.seq (Act.modQueue (globalQueue p q) fun u => u.retain fun r => !ids.contains r.id) (Act.checkShared p)

/-- The frames whose cells lay in a failed block are aborted and counted (R273). -/
def Act.abortSpilled (p q : Nat) (ids : List Nat) : Act :=
  Act.seq (Act.abortIn p q ids) (Act.countBy (SPILL.CNT p 3) ids.length)

/-- SPILL_FULL: spilling stops for a queue (R270). -/
def Act.spillFull (p q : Nat) : Act :=
  Act.get fun s =>
    Act.when ((s.queue (globalQueue p q)).full = false)
      (Act.seq (Act.modQueue (globalQueue p q) fun u => { u with full := true }) (Act.event (SPILL.EVT p) 0))

/-- The cells of frame id that have been written on die p while it still enters (R252). -/
def State.writtenOf (s : State) (p id : Nat) : Nat :=
  (((List.range 64).flatMap fun f => s.adm (fk p f)).find? fun a => a.id == id).elim 0 fun a => a.entered

/-- SPILL_BLOCK: the engine moves the eight oldest cells behind the head window of local queue q to the region; err says
that the memory controller reports the access as failed (R268 to R270, R273). -/
def spillBlock (p q : Nat) (err : Bool) : Act :=
  Act.get fun s =>
    let u := s.queue (globalQueue p q)
    let keep := 8 * s.spillFld p q QMGR.PROF_B.HEAD_KEEP
    let start := if u.spilled = 0 then keep else u.head + u.spilled
    let due := s.spillOn p && s.spillFld p q QMGR.PROF_B.SPILL == 1 &&
      decide (8 * s.spillFld p q QMGR.PROF_B.SPILL_TRIG < u.cells - u.spilled) && decide (start + 8 ≤ u.cells) &&
      (Queue.placed 0 u.refs).all fun e => e.2.done || decide (start + 8 ≤ e.1 + s.writtenOf p e.2.id)
    Act.when (due = true)
      (if s.spillStop p q u = true then Act.spillFull p q
       else if err then
         Act.seq (Act.event (SPILL.EVT p) 2) (Act.abortSpilled p q ((u.refsIn start (start + 8)).map (·.id)))
       else
         Act.all [
           Act.setQueue (globalQueue p q)
             { u.releaseCells start (start + 8) with
               head := if u.spilled = 0 then keep else u.head, spilled := u.spilled + 8 },
           Act.count (SPILL.CNT p 0),
           Act.bumpRate p 1 0,
           Act.checkShared p])

/-- May the cells of a frame draw on the through reserve (R220): it has crossed a link, or comes from facet 59 or 61, and is no mirror
copy? -/
def Frame.thru (fr : Frame) : Bool := (fr.hop || fr.src % 64 == 59 || fr.src % 64 == 61) && fr.kind != 2

/-- Charge n cells of a reference again under R256, with m, f and r left in the minimum, the shared pool and the reserve;
the charge and what is left, or none where it cannot be taken (R269). -/
def Ref.recharge (x : Ref) (n m f r : Nat) : Option (Ref × Nat × Nat × Nat) :=
  let a := min n m
  let b := min (n - a) f
  let c := n - a - b
  if c = 0 ∨ (x.fr.thru = true ∧ c ≤ r) then
    some ({ x with minC := x.minC + a, shC := x.shC + b, resC := x.resC + c }, m - a, f - b, r - c)
  else none

/-- Charge again the cells from a to before b of a queue; none where a charge cannot be taken. -/
def rechargeAll (a b : Nat) : List (Nat × Ref) → Nat → Nat → Nat → Option (List Ref)
  | [], _, _, _ => some []
  | (o, x) :: l, m, f, r =>
    let n := min b (o + x.cells) - max a o
    match x.recharge n m f r with
    | none => none
    | some (y, m', f', r') => (rechargeAll a b l m' f' r').map fun t => y :: t

/-- FETCH_BLOCK: the engine brings the oldest spilled block of local queue q back to its head window while that holds fewer cells
than HEAD_KEEP gives it, or than the frame at the head has, whose first cells leave as its later ones come (log entry 123); err 1 says that a
fetched cell fails its check, and cell is its place in the block; err 2 that the access failed (R268, R269, R273). -/
def fetchBlock (p q err cell : Nat) : Act :=
  Act.get fun s =>
    let u := s.queue (globalQueue p q)
    let n := min 8 u.spilled
    let keep := 8 * s.spillFld p q QMGR.PROF_B.HEAD_KEEP
    let qmin := s.profA p q QMGR.PROF_A.QMIN
    let lim := min (s.resFree p) (s.fld (FAB.HOP p) FAB.HOP.THRU_QMAX - u.resC)
    Act.when (0 < u.spilled ∧ u.head < max keep ((u.refs.head?.map (·.cells)).getD 0))
      (if err = 2 then
         Act.seq (Act.event (SPILL.EVT p) 2) (Act.abortSpilled p q ((u.refsIn u.head (u.head + n)).map (·.id)))
       else
         match rechargeAll u.head (u.head + n) (Queue.placed 0 u.refs) (qmin - u.minC) (s.sharedFree p) lim with
         | none => Act.skip
         | some refs =>
           Act.all [
             Act.setQueue (globalQueue p q)
               { u with refs := refs, head := if u.spilled = n then 0 else u.head + n, spilled := u.spilled - n },
             Act.count (SPILL.CNT p 1),
             Act.bumpRate p 0 1,
             Act.when (err = 1)
               (Act.all [
                 Act.event (SPILL.EVT p) 1,
                 Act.count (SPILL.CNT p 2),
                 Act.abortIn p q ((u.refsIn (u.head + cell % 8) (u.head + cell % 8 + 1)).map (·.id))]),
             Act.checkShared p])

/-! ## Consumer ports (R275 to R279) -/

/-- The local queue that port n binds. -/
def State.portQueue (s : State) (p n : Nat) : Nat := s.fld (QMGR.CQ_CFG p n) QMGR.CQ_CFG.QUEUE

/-- The words in which a port presents a frame: D0, D1 and its bytes, for an Ethernet frame without its frame check
sequence (R276). -/
def portWords (fr : Frame) : List Word :=
  let b := if fr.bus then fr.data else fr.data.take (fr.data.length - 4)
  word [(⟨0, 14⟩, b.length), (⟨14, 3⟩, fr.cls), (⟨17, 8⟩, fr.src), (⟨25, 5⟩, fr.flow), (⟨30, 1⟩, b2n (fr.kind == 2))] ::
    BitVec.ofNat 48 fr.ts :: bytesToWords (cdiv b.length 6) b

/-- Is agent ag the owner of port n (R277)? -/
def State.portOwner (s : State) (p n : Nat) (ag : Agent) : Bool :=
  match s.fld (QMGR.CQ_CFG p n) QMGR.CQ_CFG.OWNER, ag with
  | 1, .spi => true
  | 2, .eth => true
  | 3, .fw d part _ _ => d == p && part == s.fld (QMGR.CQ_CFG p n) QMGR.CQ_CFG.PART
  | _, _ => false

/-- Has port n a word of a complete frame waiting (R277)? -/
def State.portEmpty (s : State) (p n : Nat) : Bool :=
  (s.port (64 * p + n)).words.isEmpty && (s.queue (globalQueue p (s.portQueue p n))).front.isNone

/-- The frame at the port's head has been read or dropped whole: it leaves its queue (R277). -/
def Act.portDone (p n : Nat) : Act :=
  Act.get fun s =>
    let q := s.portQueue p n
    Act.opt (s.queue (globalQueue p q)).refs.head? fun r => Act.depart p q r

/-- CQ_DATA_READ: a read of QMGR.CQ_DATA_n by an agent; k is given the reply (R277, R279). -/
def cqDataRead (ag : Agent) (p n : Nat) (k : Code → Word → Act) : Act :=
  Act.get fun s =>
    let u := s.port (64 * p + n)
    if s.portOwner p n ag = false then k .denied 0
    else
      match u.words with
      | w :: rest =>
        Act.all [
          Act.setPort (64 * p + n) { words := rest, last := w },
          Act.when (rest = []) (Act.portDone p n),
          k .ok w]
      | [] =>
        match (s.queue (globalQueue p (s.portQueue p n))).front with
        | some r =>
          match portWords r.fr with
          | w :: rest => Act.seq (Act.setPort (64 * p + n) { words := rest, last := w }) (k .ok w)
          | [] => k .ok u.last
        | none =>
          Act.all [Act.event (QMGR.CQ_STAT p n) 0, Act.portIrq p n, k .ok u.last]

/-- A write of 1 to CQ_CMD_n.DROP_REST (R278). -/
def dropRest (p n : Nat) : Act :=
  Act.get fun s =>
    let u := s.port (64 * p + n)
    if u.words = [] then Act.skip
    else Act.seq (Act.setPort (64 * p + n) { u with words := [] }) (Act.portDone p n)

/-! ## QMGR.Q_CMD (R253, R285) -/

/-- A write of QMGR.Q_CMD (R253, R285). -/
def qCmd (ag : Agent) (p : Nat) (v : Word) (k : Code → Act) : Act :=
  let a := QMGR.Q_CMD p
  let q := fget v QMGR.Q_CMD.INDEX
  Act.get fun s =>
    let u := s.queue (globalQueue p q)
    match fget v QMGR.Q_CMD.OP with
    | 0 => Act.seq (Act.store a v) (k .ok)
    | 1 =>
      Act.all [
        Act.setReg a (fset v QMGR.Q_CMD.RESULT 0),
        Act.setReg (QMGR.Q_W0 p) (word [(QMGR.Q_W0.PROFILE, s.profOf p q), (QMGR.Q_W0.DEPTH, u.depth),
          (QMGR.Q_W0.FRAMES, sat 0x3FFFF u.refs.length)]),
        Act.setReg (QMGR.Q_W1 p) (word [(QMGR.Q_W1.MIN_CHG, u.minC), (QMGR.Q_W1.RES_CHG, u.resC)]),
        Act.setReg (QMGR.Q_W2 p) (word [(QMGR.Q_W2.SPILLED, blocksOf u.spilled)]),
        k .ok]
    | 2 =>
      if s.enabled p 0x09 then Act.seq (Act.setReg a (fset v QMGR.Q_CMD.RESULT 2)) (k .ok)
      else
        Act.all [Act.setReg a (fset v QMGR.Q_CMD.RESULT 0),
          Act.setTbl (tblKey p 0x41 q 0) (BitVec.ofNat 48 (s.fld (QMGR.Q_W0 p) QMGR.Q_W0.PROFILE)), Act.checkShared p, k .ok]
    | _ => Act.seq (Act.setFld a QMGR.Q_CMD.RESULT 2) (Act.badValue a ag k)

end Sys2Proof.Machine
end

