-- ==== Sys2Proof/Machine/Lookup.lean ====
section
/-! DEFINITION. The lookup decision: VLAN and class, sequence recovery, stream filters and meters, learning, routing,
flooding (R293 to R321, R557 to R560). -/

namespace Sys2Proof.Machine

/-! ## Reading a frame -/

/-- The destination address of an Ethernet frame. -/
def frDa (b : List Byte) : Nat := bytesAt b 0 6

/-- The source address of an Ethernet frame. -/
def frSa (b : List Byte) : Nat := bytesAt b 6 6

/-- Does the frame carry one 802.1Q tag directly after the source address (R297)? -/
def frTagged (b : List Byte) : Bool := bytesAt b 12 2 == 0x8100

/-- The tag control information of a tagged frame. -/
def frTci (b : List Byte) : Nat := bytesAt b 14 2

/-- The EtherType after the source address or after one tag. -/
def frType (b : List Byte) : Nat := if frTagged b then bytesAt b 16 2 else bytesAt b 12 2

/-- The bytes after the EtherType. -/
def frBody (b : List Byte) : List Byte := if frTagged b then b.drop 18 else b.drop 14

/-- Is an address a group address? -/
def isGroup (mac : Nat) : Bool := mac / 2 ^ 40 % 2 == 1

/-- The broadcast address. -/
def bcast : Nat := 2 ^ 48 - 1

/-- The frame with one tag of PCP, DEI and VID in place of the one it carries or inserted (R298). -/
def setTag (b : List Byte) (pcp dei vid : Nat) : List Byte :=
  b.take 12 ++ beBytes 2 0x8100 ++ beBytes 2 (pcp % 8 * 8192 + dei % 2 * 4096 + vid % 4096) ++
    (if frTagged b then b.drop 16 else b.drop 12)

/-- CLS.PORT of an ingress or egress facet: 0 to 31 and 60 (R336). -/
def State.clsPort (s : State) (p f : Nat) (fl : Fld) : Nat :=
  s.fld (if f = 60 then CLS.PORT_CPU p else CLS.PORT p f) fl

/-- The class of a PCP at a facet (R297, R336). -/
def State.pcpClass (s : State) (p f pcp : Nat) : Nat :=
  fget (s.reg (if f = 60 then CLS.PCPMAP_CPU p else CLS.PCPMAP p f)) ⟨3 * pcp, 3⟩

/-- The PCP and VID used for a frame at a facet, with the DEI as received (R297). -/
def State.tagUsed (s : State) (p f : Nat) (b : List Byte) : Nat × Nat × Nat :=
  if frTagged b then
    let t := frTci b
    (t / 8192, t / 4096 % 2, if t % 4096 = 0 then s.clsPort p f CLS.PORT.PVID else t % 4096)
  else (s.clsPort p f CLS.PORT.DEF_PCP, 0, s.clsPort p f CLS.PORT.PVID)

/-- Is a frame refused by the ACCEPT rule of its facet (R297)? -/
def State.acceptBad (s : State) (p f : Nat) (b : List Byte) : Bool :=
  let a := s.clsPort p f CLS.PORT.ACCEPT
  let vid := frTci b % 4096
  if frTagged b ∧ vid ≠ 0 then vid == 4095 || a == 2 else a == 1

/-- A field of the VLAN entry of a VID (R332). -/
def State.vlan (s : State) (p vid w : Nat) (f : Fld) : Nat := fget (s.tbl p 0x42 vid w) f

/-- Does the VLAN rule discard a frame of a VID from a facet (R297)? Facet 60 has no membership bit. -/
def State.vlanBad (s : State) (p f vid : Nat) : Bool :=
  s.vlan p vid 1 ⟨44, 1⟩ == 0 ||
    (decide (f < 32) && s.clsPort p f CLS.PORT.INGRESS_FILTER == 1 && s.vlan p vid p ⟨f, 1⟩ == 0)

/-! ## Discards of CLS (R297, R334, R335) -/

/-- Take a frame out of the receive buffer of a facet, where it is the first that is not looked up. -/
def dropFirst : List RxFrame → List RxFrame
  | [] => []
  | r :: l => if r.looked then r :: dropFirst l else l

/-- Replace the first frame of a receive buffer that is not looked up. -/
def replaceFirst (n : RxFrame) : List RxFrame → List RxFrame
  | [] => []
  | r :: l => if r.looked then r :: replaceFirst n l else n :: l

/-- A discard by CLS with a reason (R334, R335). -/
def Act.clsDrop (p f reason : Nat) : Act :=
  Act.all [
    Act.modBuf (fk p f) dropFirst,
    Act.count (CLS.CNT p (if reason = 5 then 4 else 5)),
    Act.setFlds (CLS.DROP_LAST p) [(CLS.DROP_LAST.FACET, f), (CLS.DROP_LAST.REASON, reason)]]

/-! ## The MAC/VLAN table (R300 to R310) -/

/-- The bucket of a key (R300). -/
def State.bucket (s : State) (p fid mac : Nat) : Nat :=
  (crc16 (beBytes 2 (fid % 4096) ++ beBytes 6 mac) ^^^ s.fld (CLS.CFG p) CLS.CFG.HASH_SEED) % 32768

/-- Word 1 of MAC entry i. -/
def State.mac1 (s : State) (p i : Nat) : Word := s.tbl p 0x43 i 1

/-- Fields of word 1 of a MAC entry (R332). -/
def MacE.FID : Fld := ⟨0, 12⟩
/-- KIND of a MAC entry (R301). -/
def MacE.KIND : Fld := ⟨12, 2⟩
/-- DEST of a MAC entry (R301). -/
def MacE.DEST : Fld := ⟨14, 12⟩
/-- STATIC of a MAC entry. -/
def MacE.STATIC : Fld := ⟨26, 1⟩
/-- REMOTE of a MAC entry. -/
def MacE.REMOTE : Fld := ⟨27, 1⟩
/-- AGE of a MAC entry. -/
def MacE.AGE : Fld := ⟨28, 2⟩
/-- VALID of a MAC entry. -/
def MacE.VALID : Fld := ⟨30, 1⟩

/-- Does MAC entry i hold a key? -/
def State.macIs (s : State) (p i fid mac : Nat) : Bool :=
  let w := s.mac1 p i
  fget w MacE.VALID == 1 && fget w MacE.FID == fid % 4096 && (s.tbl p 0x43 i 0).toNat == mac

/-- The index of the entry with a key (R300). -/
def State.macFind (s : State) (p fid mac : Nat) : Option Nat :=
  ((List.range 8).map fun w => s.bucket p fid mac * 8 + w).find? fun i => s.macIs p i fid mac

/-- Is the region of table code t that holds index i of n locked (R330)? -/
def State.tblLocked (s : State) (p t i n : Nat) : Bool := bit (s.reg (TDMA.LOCK p (t - 0x42))) (i / (n / 32))

/-- The links of die p that carry notices: its enabled die-to-die links (R308). -/
def State.noticeLinks (s : State) (p : Nat) : List Nat :=
  (List.range 3).filter fun j => decide (d2dFar p j < s.x) && s.enabled p (0x58 + j)

/-- The notices that every queue of die p still has room for (R310). -/
def State.noticeRoom (s : State) (p : Nat) : Nat :=
  ((s.noticeLinks p).map fun j => 256 - (s.link (4 * p + j)).notices.length).foldl min 256

/-- Send a notice: learn or delete, FID, MAC, global facet (R308). -/
def Act.notice (p : Nat) (learn : Bool) (fid mac facet : Nat) : Act :=
  Act.get fun s => Act.each (s.noticeLinks p) fun j =>
    Act.modLink (4 * p + j) fun l => { l with notices := l.notices ++ [(learn, fid, mac, facet)] }

/-- A request that is not made (R305, R310). -/
def Act.learnOverrun (p : Nat) : Act := Act.seq (Act.count (CLS.CNT p 8)) (Act.event (CLS.EVT p) 3)

/-- Remove MAC entry i; a local learned entry sends a delete notice (R308). -/
def Act.macRemove (p i : Nat) : Act :=
  Act.get fun s =>
    let w := s.mac1 p i
    Act.seq
      (Act.when (fget w MacE.STATIC = 0 ∧ fget w MacE.REMOTE = 0)
        (Act.notice p false (fget w MacE.FID) (s.tbl p 0x43 i 0).toNat (fget w MacE.DEST % 256)))
      (Act.setTblWords p 0x43 i [0, 0])

/-- The ways of a bucket that R306 may evict. -/
def State.evictable (s : State) (p bucket : Nat) : List Nat :=
  ((List.range 8).map fun w => bucket * 8 + w).filter fun i =>
    fget (s.mac1 p i) MacE.STATIC == 0 && !s.tblLocked p 0x43 i 262144

/-- The entry of a full bucket that is to be evicted (R306): k is given its index, or none. -/
def Act.macVictim (p bucket : Nat) (k : Option Nat → Act) : Act :=
  Act.get fun s =>
    let l := s.evictable p bucket
    if l = [] then k none
    else if s.fld (CLS.CFG p) CLS.CFG.MAC_EVICT = 0 then Act.freeBelow l.length fun n => k (some (l.getD n 0))
    else
      let m := (l.map fun i => fget (s.mac1 p i) MacE.AGE).foldl max 0
      k (l.find? fun i => fget (s.mac1 p i) MacE.AGE == m)

/-- Evict MAC entry i where it is in use: counted, reported (R306). -/
def Act.macEvict (p i : Nat) : Act :=
  Act.get fun s =>
    Act.when (fget (s.mac1 p i) MacE.VALID = 1)
      (Act.all [Act.count (CLS.CNT p 2), Act.event (CLS.EVT p) 0, Act.macRemove p i])

/-- A place for a new key: a free way of its bucket, else the way of the entry to be evicted. -/
def Act.macRoom (p fid mac : Nat) (k : Option Nat → Act) : Act :=
  Act.get fun s =>
    let b := s.bucket p fid mac
    match ((List.range 8).map fun w => b * 8 + w).find? fun i => fget (s.mac1 p i) MacE.VALID == 0 with
    | some i => k (some i)
    | none => Act.macVictim p b k

/-- Is MAC entry i a local learned one, whose removal the other dies are told of (R308)? -/
def State.macLocal (s : State) (p i : Nat) : Bool :=
  let w := s.mac1 p i
  fget w MacE.VALID == 1 && fget w MacE.STATIC == 0 && fget w MacE.REMOTE == 0

/-- Word 1 of a learned entry. -/
def macWord (fid facet : Nat) (remote : Bool) : Word :=
  word [(MacE.FID, fid), (MacE.DEST, facet), (MacE.REMOTE, b2n remote), (MacE.VALID, 1)]

/-- SOURCE_LEARN: learn a key from a global facet, by a frame or by a notice (R303, R306, R308 to R310). -/
def Act.macLearn (p fid mac facet : Nat) (remote : Bool) : Act :=
  Act.get fun s =>
    let lost := if remote then Act.count (CLS.CNT p 9) else Act.skip
    let full := !remote && s.noticeRoom p == 0
    let tell := if remote then Act.skip else Act.notice p true fid mac facet
    if s.tblLocked p 0x43 (s.bucket p fid mac * 8) 262144 then lost
    else
      match s.macFind p fid mac with
      | some i =>
        let w := s.mac1 p i
        let same := fget w MacE.KIND == 0 && fget w MacE.DEST == facet
        if fget w MacE.STATIC = 1 then Act.when (same = false) (Act.count (CLS.CNT p 6))
        else if same then
          Act.seq (Act.setTbl (tblKey p 0x43 i 1) (fset (fset w MacE.AGE 0) MacE.REMOTE (b2n remote)))
            (Act.when (fget w MacE.AGE ≠ 0 ∧ full = false) tell)
        else if full then Act.learnOverrun p
        else Act.all [Act.setTbl (tblKey p 0x43 i 1) (macWord fid facet remote), Act.count (CLS.CNT p 1), tell]
      | none =>
        Act.macRoom p fid mac fun r =>
          match r with
          | some i =>
            if s.noticeRoom p < b2n (!remote) + b2n (s.macLocal p i) then Act.learnOverrun p
            else
              Act.all [
                Act.macEvict p i,
                Act.setTblWords p 0x43 i [BitVec.ofNat 48 mac, macWord fid facet remote],
                Act.count (CLS.CNT p 0), tell]
          | none => Act.seq (Act.count (CLS.CNT p 7)) (Act.event (CLS.EVT p) 1)

/-- LEARN_NOTICE_RECEIVE: the oldest notice of the far die of link j of die p is applied, or, where the table engine cannot take it
at once, lost (R309). -/
def learnNoticeReceive (p j : Nat) (busy : Bool) : Act :=
  Act.get fun s =>
    let q := d2dFar p j
    let l := 4 * q + d2dLink q p
    match (s.link l).notices with
    | [] => Act.skip
    | (learn, fid, mac, facet) :: rest =>
      Act.seq (Act.modLink l fun u => { u with notices := rest })
        (if busy then Act.count (CLS.CNT p 9)
         else if learn then Act.macLearn p fid mac facet true
         else if s.tblLocked p 0x43 (s.bucket p fid mac * 8) 262144 then Act.count (CLS.CNT p 9)
         else
           match s.macFind p fid mac with
           | none => Act.skip
           | some i =>
               Act.when (fget (s.mac1 p i) MacE.REMOTE = 1 ∧ fget (s.mac1 p i) MacE.DEST = facet)
                 (Act.setTblWords p 0x43 i [0, 0]))

/-- The indices of the valid MAC entries of die p. -/
def State.macEntries (s : State) (p : Nat) : List Nat :=
  ((s.tbls.filter fun e => e.1 / 2 ^ 23 == p * 256 + 0x43 && e.1 % 8 == 1 && fget e.2 MacE.VALID == 1).map fun e =>
    e.1 / 8 % 2 ^ 20)

/-- AGEING_SWEEP (R307, R308, R310). -/
def ageingSweep (p : Nat) : Act :=
  Act.get fun s =>
    Act.each ((s.macEntries p).filter fun i =>
        fget (s.mac1 p i) MacE.STATIC == 0 && !s.tblLocked p 0x43 i 262144) fun i =>
      Act.get fun t =>
        let w := t.mac1 p i
        if fget w MacE.AGE < 2 then Act.setTbl (tblKey p 0x43 i 1) (fset w MacE.AGE (fget w MacE.AGE + 1))
        else if fget w MacE.REMOTE = 0 ∧ t.noticeRoom p = 0 then Act.learnOverrun p
        else Act.seq (Act.count (CLS.CNT p 3)) (Act.macRemove p i)

/-! ## Token buckets (R312, R319) -/

/-- Die time from one moment to another, modulo 2^48. -/
def since (a b : Nat) : Nat := (b + 2 ^ 48 - a) % 2 ^ 48

/-- A bucket's level after it refills at rate per ns up to cap, and what overflows. -/
def Bucket.refill (u : Bucket) (now rate cap : Nat) : Nat × Nat :=
  let v := u.level + since u.last now * rate
  (min cap v, v - cap)

/-- The rate of facet f in Mbit/s for the flood policer (R312). -/
def State.floodBase (s : State) (p f : Nat) : Nat :=
  if f = 60 then 1000 * s.fld (FAB.SHARE p) FAB.SHARE.CPU else s.lineRate p f

/-- FLOOD_POLICE: does the policer of a facet pass a frame of n bytes (R312)? Its level counts eighths of a millionth byte. -/
def Act.floodPolice (p f n : Nat) (k : Bool → Act) : Act :=
  Act.get fun s =>
    let rate := s.clsPort p f CLS.PORT.FLOOD_RATE * s.floodBase p f
    let u := s.flood (fk p f)
    let v := (u.refill (s.time p) rate (16384 * 8000000)).1
    let pass := decide (n * 8000000 ≤ v) && s.clsPort p f CLS.PORT.FLOOD_RATE != 0
    Act.seq (Act.setFlood (fk p f) { level := if pass then v - n * 8000000 else v, last := s.time p }) (k pass)

/-! ## Stream filters and meters (R317 to R321) -/

/-- Count filter counter c of filter i: 0 MATCHED, 1 PASSED, 2 OVERSIZE_DROPS, 3 RED_DROPS (R321). A counter of a table has no register
address: DEV.CNT_LAST takes that of CNT_HALF_LAST, which names it (log entry 128). -/
def Act.filtCount (p i c : Nat) : Act :=
  Act.get fun s =>
    let v := (s.tbl p 0x49 i c).toNat
    let u := (v + 1) % 2 ^ 48
    Act.seq (Act.setTbl (tblKey p 0x49 i c) (BitVec.ofNat 48 u))
      (Act.when (v < 2 ^ 47 ∧ 2 ^ 47 ≤ u)
        (Act.all [
          Act.event (PSFP.EVT p) 4,
          Act.setFld (PSFP.CNT_HALF_LAST p) PSFP.CNT_HALF_LAST.INDEX (4 * i + c),
          Act.passedHalf (PSFP.CNT_HALF_LAST p)]))

/-- The stream filters of die p that are in use, lowest index first. -/
def State.filters (s : State) (p : Nat) : List Nat :=
  ((s.tbls.filter fun e => e.1 / 2 ^ 23 == p * 256 + 0x46 && e.1 % 8 == 1 && bit e.2 22).map fun e => e.1 / 8 % 2 ^ 20)

/-- Does filter i match a frame of VID and PCP from a facet (R317)? -/
def State.filtHit (s : State) (p i f vid pcp : Nat) (b : List Byte) : Bool :=
  let w := s.tbl p 0x46 i
  bit (w 1) 22 && bit (w 2) (if f = 60 then 32 else f) && decide (f < 32 ∨ f = 60) &&
    (w 0).toNat == (if bit (w 1) 12 then frSa b else frDa b) &&
    (bit (w 1) 13 || fget (w 1) ⟨0, 12⟩ == vid) && bit (w 1) (14 + pcp)

/-- What a meter makes of a frame (R320): it passes, passes with DEI set, or is discarded. -/
inductive Metered where
  | pass
  | yellow
  | drop
  deriving DecidableEq, Repr

/-- The levels of meter m after refilling now: committed, excess, in millionths of a byte (R319). -/
def State.meterNow (s : State) (p m : Nat) : Nat × Nat :=
  let w := s.tbl p 0x47 m
  let c := (s.mtrC (4096 * p + m)).refill (s.time p) (fget (w 0) ⟨0, 24⟩) (fget (w 1) ⟨0, 24⟩ * 1000000)
  let e := s.mtrE (4096 * p + m)
  let past := if bit (w 2) 2 then c.2 else 0
  (c.1, ({ e with level := e.level + past }.refill (s.time p) (fget (w 0) ⟨24, 24⟩) (fget (w 1) ⟨24, 24⟩ * 1000000)).1)

/-- Meter m decides on a frame of n bytes received with DEI dei (R319, R320, R330). -/
def Act.meter (p m n : Nat) (dei : Bool) (k : Metered → Act) : Act :=
  Act.get fun s =>
    let w2 := s.tbl p 0x47 m 2
    if bit w2 0 = false then k .pass
    else
      let (c, e) := s.meterNow p m
      let need := n * 1000000
      let now := s.time p
      let set := fun c e =>
        Act.seq (Act.setMtrC (4096 * p + m) { level := c, last := now }) (Act.setMtrE (4096 * p + m) { level := e, last := now })
      if bit w2 5 then Act.seq (set c e) (k .drop)
      else if need ≤ c ∧ ¬ (bit w2 1 = true ∧ dei = true) then Act.seq (set (c - need) e) (k .pass)
      else if need ≤ e then
        (if bit w2 3 then Act.seq (set c e) (k .drop) else Act.seq (set c (e - need)) (k .yellow))
      else
        Act.all [
          set c e,
          Act.when (bit w2 4 = true ∧ s.tblLocked p 0x47 m 4096 = false)
            (Act.all [
              Act.setTbl (tblKey p 0x47 m 2) (setBit w2 5),
              Act.event (PSFP.EVT p) 1,
              Act.setFld (PSFP.LAST p) PSFP.LAST.METER m]),
          k .drop]

/-- STREAM_FILTER: filter i acts on a frame of n bytes (R318): k is given whether it passes, and whether DEI is set. -/
def Act.filter (p i n : Nat) (dei : Bool) (k : Metered → Act) : Act :=
  Act.get fun s =>
    let w3 := s.tbl p 0x46 i 3
    let w1 := s.tbl p 0x46 i 1
    let maxLen := fget w3 ⟨0, 14⟩
    Act.seq (Act.filtCount p i 0)
      (if bit w3 25 then Act.seq (Act.filtCount p i 2) (k .drop)
       else if maxLen ≠ 0 ∧ maxLen < n then
         Act.all [
           Act.filtCount p i 2,
           Act.when (bit w3 24 = true ∧ s.tblLocked p 0x46 i 4096 = false)
             (Act.all [
               Act.setTbl (tblKey p 0x46 i 3) (setBit w3 25),
               Act.event (PSFP.EVT p) 0,
               Act.setFld (PSFP.LAST p) PSFP.LAST.FILTER i]),
           k .drop]
       else if bit w1 35 then
         Act.meter p (fget w1 ⟨23, 12⟩) n dei fun r =>
           Act.seq (Act.filtCount p i (if r = .drop then 3 else 1)) (k r)
       else Act.seq (Act.filtCount p i 1) (k .pass))

/-! ## Sequence generation and recovery (R557, R558, R560) -/

/-- The valid entries of table 0x55 or 0x56 of die p, lowest index first. -/
def State.seqEntries (s : State) (p t : Nat) : List Nat :=
  ((s.tbls.filter fun e => e.1 / 2 ^ 23 == p * 256 + t && e.1 % 8 == 1 && bit e.2 13).map fun e => e.1 / 8 % 2 ^ 20)

/-- Does a generation or recovery entry match a frame of a VID (R557)? -/
def State.seqHit (s : State) (p t i vid : Nat) (b : List Byte) : Bool :=
  let w1 := s.tbl p t i 1
  bit w1 13 && (s.tbl p t i 0).toNat == (if bit w1 12 then frSa b else frDa b) && fget w1 ⟨0, 12⟩ == vid

/-- The entry of a table that acts on a frame. -/
def State.seqMatch (s : State) (p t vid : Nat) (b : List Byte) : Option Nat :=
  (s.seqEntries p t).find? fun i => s.seqHit p t i vid b

/-- The sequence number of the R-TAG of a tagged frame, where it carries one directly after its tag. -/
def rTag (b : List Byte) : Option Nat := if frType b = 0xF1C1 then some (bytesAt (frBody b) 2 2) else none

/-- A tagged frame without its R-TAG. -/
def stripRTag (b : List Byte) : List Byte := b.take 16 ++ b.drop 22

/-- A tagged frame with an R-TAG of a sequence number directly after its tag (R557). -/
def addRTag (b : List Byte) (n : Nat) : List Byte := b.take 16 ++ beBytes 2 0xF1C1 ++ beBytes 2 0 ++ beBytes 2 n ++ b.drop 16

/-- What recovery makes of a sequence number (R558). -/
inductive Recovered where
  | pass (u : Recovery) (reset : Bool)
  | duplicate
  | rogue
  deriving DecidableEq, Repr

/-- The decision of a recovery entry on number n at a moment: alg 0 vector, 1 match; history hist; reset after rst ns with no frame
passed (R558). -/
def Recovery.decide (u : Recovery) (alg hist rst n now : Nat) : Recovered :=
  if u.live = false ∨ rst ≤ since u.last now then .pass { u with live := true, high := n, seen := [n], last := now } true
  else if alg = 1 then
    if n = u.high then .duplicate else .pass { u with high := n, seen := [n], last := now } false
  else
    let up := (n + 65536 - u.high) % 65536
    let down := (u.high + 65536 - n) % 65536
    if 1 ≤ up ∧ up ≤ 32767 then
      .pass { u with high := n, last := now
                     seen := n :: u.seen.filter fun m => Nat.blt ((n + 65536 - m) % 65536) hist } false
    else if down < hist then
      (if u.seen.contains n then .duplicate else .pass { u with seen := n :: u.seen, last := now } false)
    else .rogue

/-- Count word w of entry i of table 0x57 (R560): a statistics counter under R243. -/
def Act.recCount (p i w : Nat) : Act :=
  Act.get fun s =>
    let v := (s.tbl p 0x57 i w).toNat
    let u := (v + 1) % 2 ^ 48
    Act.seq (Act.setTbl (tblKey p 0x57 i w) (BitVec.ofNat 48 u))
      (Act.when (v < 2 ^ 47 ∧ 2 ^ 47 ≤ u) (Act.passedHalf (PAIR.TBL_CMD p)))

/-- SEQUENCE_RECOVER: the recovery entry that matches acts on a tagged frame (R558, R560): k is given the frame, or none
where it is discarded. -/
def Act.recover (p f vid : Nat) (b : List Byte) (k : Option (List Byte) → Act) : Act :=
  Act.get fun s =>
    match s.seqMatch p 0x56 vid b with
    | none => k (some b)
    | some i =>
      let w1 := s.tbl p 0x56 i 1
      let w2 := s.tbl p 0x56 i 2
      let g := globalFacet p f
      let arrive := Act.seq (Act.when (fget w2 ⟨0, 8⟩ = g) (Act.recCount p i 0)) (Act.when (fget w2 ⟨8, 8⟩ = g) (Act.recCount p i 1))
      Act.seq arrive
        (match rTag b with
         | none => k (some b)
         | some n =>
           let u := s.rcv (1024 * p + i)
           match u.decide (fget w1 ⟨14, 1⟩) (fget w1 ⟨15, 6⟩) (1000000 * fget w1 ⟨21, 10⟩) n (s.time p) with
           | .pass v reset =>
             Act.all [
               Act.setRcv (1024 * p + i) v,
               Act.recCount p i 2,
               Act.count (PAIR.CNT p 1),
               Act.when (reset = true) (Act.count (PAIR.CNT p 4)),
               k (some (if bit w1 31 then stripRTag b else b))]
           | .duplicate => Act.all [Act.recCount p i 3, Act.count (PAIR.CNT p 2), k none]
           | .rogue => Act.all [Act.count (PAIR.CNT p 3), Act.event (PAIR.EVT p) 9, k none])

/-! ## Routing (R313 to R315) -/

/-- An entry of the longest-prefix memory: first slot, family, length, next hop, stamp, address. -/
structure Route where
  slot : Nat := 0
  v6 : Bool := false
  len : Nat := 0
  hop : Nat := 0
  stamp : Nat := 0
  addr : Nat := 0
  deriving DecidableEq, Repr

/-- Slots of an entry (R313). -/
def Route.slots (r : Route) : Nat := if r.v6 then 4 else 1

/-- The address in the slots of an entry (R332). -/
def State.slotAddr (s : State) (p slot : Nat) (v6 : Bool) : Nat :=
  if v6 then ((List.range 4).map fun k => fget (s.tbl p 0x44 (slot + k) 1) ⟨0, 32⟩ * 2 ^ (96 - 32 * k)).sum
  else fget (s.tbl p 0x44 slot 1) ⟨0, 32⟩

/-- The entries of the longest-prefix memory of die p, in slot order (R313, R332). -/
def State.routes (s : State) (p : Nat) : List Route :=
  ((s.tbls.filter fun e => e.1 / 2 ^ 23 == p * 256 + 0x44 && e.1 % 8 == 0 &&
      (fget e.2 ⟨0, 2⟩ == 1 || fget e.2 ⟨0, 2⟩ == 2)).map fun e =>
    let i := e.1 / 8 % 2 ^ 20
    let v6 := fget e.2 ⟨0, 2⟩ == 2
    { slot := i, v6 := v6, len := fget e.2 ⟨2, 8⟩, hop := fget e.2 ⟨10, 12⟩, stamp := fget e.2 ⟨22, 16⟩
      addr := s.slotAddr p i v6 })

/-- Does an entry match an address of its family (R313)? -/
def Route.hits (r : Route) (v6 : Bool) (a : Nat) : Bool :=
  let w := if v6 then 128 else 32
  r.v6 == v6 && decide (r.len ≤ w) && a / 2 ^ (w - r.len) == r.addr / 2 ^ (w - r.len)

/-- The entry a lookup of an address chooses (R313). -/
def State.routeOf (s : State) (p : Nat) (v6 : Bool) (a : Nat) : Option Route := (s.routes p).find? fun r => r.hits v6 a

/-- The one's complement sum of 16-bit words. -/
def onesSum : Nat → List Byte → Nat
  | 0, _ => 0
  | n + 1, l => bytesAt l 0 2 + onesSum n (l.drop 2)

/-- Fold a sum into 16 bits with end-around carry. -/
def fold16 (n : Nat) : Nat :=
  let a := n % 65536 + n / 65536
  let b := a % 65536 + a / 65536
  b % 65536 + b / 65536

/-- Is the IPv4 header at the front of a list correct: version 4, IHL of at least 5, checksum (R314)? -/
def ipv4Ok (b : List Byte) : Bool :=
  let v := bytesAt b 0 1
  let n := 4 * (v % 16)
  v / 16 == 4 && decide (5 ≤ v % 16) && decide (n ≤ b.length) && fold16 (onesSum (n / 2) b) == 0xFFFF

/-- A list with n bytes at an offset replaced. -/
def splice (b : List Byte) (o : Nat) (new : List Byte) : List Byte := b.take o ++ new ++ b.drop (o + new.length)

/-- A routed IPv4 or IPv6 packet: hop limit one lower, IPv4 checksum updated incrementally (R315). -/
def hopDown (v6 : Bool) (b : List Byte) : List Byte :=
  if v6 then splice b 7 (beBytes 1 (bytesAt b 7 1 - 1))
  else
    let m := bytesAt b 8 2
    let m' := m - 256
    let hc := bytesAt b 10 2
    splice (splice b 8 (beBytes 2 m')) 10 (beBytes 2 (65535 - fold16 ((65535 - hc) + (65535 - m) + m')))

/-! ## The decision (R295, R296) -/

/-- Where a frame goes: a global facet, a replication index, a consumer queue of this die, or nowhere. -/
inductive Goal where
  | facet (g : Nat)
  | group (i : Nat)
  | queue (q : Nat)
  deriving DecidableEq, Repr

/-- The frame found its destination: put it back into the buffer as a candidate (R296). A unicast to its own ingress facet
is discarded. -/
def Act.decideTo (p f : Nat) (r : RxFrame) (cls flow : Nat) (filt : Option Nat) (hold : Bool) (b : List Byte) (g : Goal) : Act :=
  let fr := { r.fr with cls := cls, flow := flow, cut := r.fr.cut && !hold, data := b }
  let put := fun (fr : Frame) =>
    if hold ∧ fr.abort then Act.modBuf (fk p f) dropFirst
    else Act.modBuf (fk p f) (replaceFirst { r with fr := fr, looked := true, filt := filt, got := cellsOf b.length })
  match g with
  | .facet d =>
    if d = globalFacet p f then Act.clsDrop p f 4
    else put { fr with kind := 0, dest := globalQueue (d / 64) (queueNo (d % 64) cls flow) }
  | .group i => put { fr with kind := 1, dest := i }
  | .queue q => put { fr with kind := 0, dest := globalQueue p q }

/-- SEQUENCE_GENERATE, then the choice of step 8 (R296, R557). -/
def Act.step8 (p f : Nat) (r : RxFrame) (vid cls flow : Nat) (filt : Option Nat) (hold : Bool) (b : List Byte) (g : Goal) : Act :=
  Act.get fun s =>
    match s.seqMatch p 0x55 vid b with
    | none => Act.decideTo p f r cls flow filt hold b g
    | some i =>
      let n := fget (s.tbl p 0x55 i 2) ⟨0, 16⟩
      Act.all [
        Act.setTbl (tblKey p 0x55 i 2) (BitVec.ofNat 48 ((n + 1) % 65536)),
        Act.count (PAIR.CNT p 0),
        Act.decideTo p f r cls flow filt hold (addRTag b n) (.group (fget (s.tbl p 0x55 i 1) ⟨14, 12⟩))]

/-- Flood a frame to its VLAN's index, policed where its kind is selected: 0 unknown unicast, 1 broadcast, 2 unknown
multicast (R311, R312). -/
def Act.floodTo (p f vid kind n : Nat) (k : Goal → Act) : Act :=
  Act.get fun s =>
    let go := k (.group (s.vlan p vid 0 ⟨32, 12⟩))
    if kind = 0 ∨ s.clsPort p f CLS.PORT.FLOOD_KINDS / 2 ^ kind % 2 = 1 then
      Act.floodPolice p f n fun pass =>
        if pass then go else Act.seq (Act.event (CLS.EVT p) 2) (Act.clsDrop p f 5)
    else go

/-- The destination by the MAC/VLAN table (R301, R302). -/
def Act.macGoal (p f vid n : Nat) (b : List Byte) (k : Goal → Act) : Act :=
  Act.get fun s =>
    let da := frDa b
    if da = bcast then Act.floodTo p f vid 1 n k
    else
      match s.macFind p (s.vlan p vid 1 ⟨32, 12⟩) da with
      | none => Act.floodTo p f vid (if isGroup da then 2 else 0) n k
      | some i =>
        let w := s.mac1 p i
        let d := fget w MacE.DEST
        match fget w MacE.KIND with
        | 0 => k (.facet (d % 256))
        | 1 => k (.group d)
        | 2 => Act.clsDrop p f 6
        | _ => k (.queue (s.fld (CLS.QUEUES p) CLS.QUEUES.LL_QUEUE))

/-- Has next hop i been lost to an uncorrectable error (log entry 129)? It then holds the ACTION that no write stores. -/
def State.hopLost (s : State) (p i : Nat) : Bool := fget (s.tbl p 0x45 i 1) ⟨20, 2⟩ == 3

/-- ROUTE_FRAME: the outcome for a frame that qualifies for routing (R314, R315); a route that discards leaves no reason of
CLS. -/
def Act.route (p f : Nat) (b : List Byte) (k : List Byte → Goal → Act) : Act :=
  Act.get fun s =>
    let v6 := frType b == 0x86DD
    let ip := frBody b
    let exc := Goal.queue (s.fld (CLS.QUEUES p) CLS.QUEUES.EXCEPT_QUEUE)
    let gone := Act.modBuf (fk p f) dropFirst
    if (if v6 then bytesAt ip 0 1 / 16 == 6 && decide (40 ≤ ip.length) else ipv4Ok ip) = false then
      Act.all [Act.count (LPM.CNT p 3), Act.event (LPM.EVT p) 2, gone]
    else if bytesAt ip (if v6 then 7 else 8) 1 ≤ 1 then
      Act.seq (Act.count (LPM.CNT p 2)) (if s.flag (LPM.CFG p) LPM.CFG.TTL_EXC then k b exc else gone)
    else
      match (s.routeOf p v6 (if v6 then bytesAt ip 24 16 else bytesAt ip 16 4)).filter fun r => !s.hopLost p r.hop with
      | none =>
        Act.all [Act.count (LPM.CNT p 1), Act.event (LPM.EVT p) 1,
          if s.flag (LPM.CFG p) LPM.CFG.MISS then k b exc else gone]
      | some r =>
        let w0 := s.tbl p 0x45 r.hop 0
        let w1 := s.tbl p 0x45 r.hop 1
        let action := if w0 = 0 ∧ w1 = 0 then 2 else fget w1 ⟨20, 2⟩
        if action = 0 then
          let t := frTci b
          let nb := wordBytes w0 ++ wordBytes (s.reg (CLS.ROUTER_MAC p)) ++ beBytes 2 0x8100 ++
            beBytes 2 (t / 4096 * 4096 + fget w1 ⟨8, 12⟩) ++ (b.drop 16).take 2 ++ hopDown v6 ip
          Act.seq (Act.count (LPM.CNT p 0)) (k nb (.facet (fget w1 ⟨0, 8⟩)))
        else if action = 1 then k b exc
        else gone

/-- Does step 7 route a frame (R314)? -/
def State.routed (s : State) (p vid : Nat) (b : List Byte) : Bool :=
  let m := (s.reg (CLS.ROUTER_MAC p)).toNat
  m != 0 && frDa b == m && s.vlan p vid 1 ⟨46, 1⟩ == 1 && (frType b == 0x0800 || frType b == 0x86DD)

/-- Step 6: learn the source of a frame (R303, R304); a request that the table engine cannot take at once is not made (R305). -/
def Act.learnSa (p f vid : Nat) (busy : Bool) (b : List Byte) : Act :=
  Act.get fun s =>
    Act.when (frSa b ≠ 0 ∧ s.vlan p vid 1 ⟨45, 1⟩ = 1 ∧ s.clsPort p f CLS.PORT.LEARN = 1)
      (if busy then Act.learnOverrun p
       else Act.macLearn p (s.vlan p vid 1 ⟨32, 12⟩) (frSa b) (globalFacet p f) false)

/-- Steps 4 to 8 of R295 on the tagged frame b of a facet. -/
def Act.steps4to8 (p f : Nat) (r : RxFrame) (vid pcp : Nat) (dei busy : Bool) (b : List Byte) : Act :=
  Act.get fun s =>
    let flow := s.clsPort p f CLS.PORT.FLOW
    let cls := s.pcpClass p f pcp
    Act.seq (Act.learnSa p f vid busy b)
      (Act.recover p f vid b fun o =>
        match o with
        | none => Act.modBuf (fk p f) dropFirst
        | some b =>
          let go := fun (filt : Option Nat) (cls flow : Nat) (hold : Bool) (b : List Byte) =>
            if s.routed p vid b then
              Act.route p f b fun nb g => Act.step8 p f r (frTci nb % 4096) cls flow filt hold nb g
            else Act.macGoal p f vid r.fr.data.length b fun g => Act.step8 p f r vid cls flow filt hold b g
          match (s.filters p).find? fun i => s.filtHit p i f vid pcp b with
          | none => go none cls flow false b
          | some i =>
            let w1 := s.tbl p 0x46 i 1
            let w3 := s.tbl p 0x46 i 3
            let hold := fget w3 ⟨0, 14⟩ != 0 || bit w1 35
            let c := if bit w3 17 then fget w3 ⟨14, 3⟩ else cls
            let g := if bit w3 23 then fget w3 ⟨18, 5⟩ else flow
            Act.filter p i r.fr.data.length dei fun m =>
              match m with
              | .drop => Act.modBuf (fk p f) dropFirst
              | .yellow => go (some i) c g hold (setTag b pcp 1 vid)
              | .pass => go (some i) c g hold b)

/-- Does a frame pass the Eyepiece test of step 1: EtherType 0x88B5 to EYE.MAC (R177)? -/
def State.toEye (s : State) (b : List Byte) : Bool :=
  frType b == 0x88B5 && frDa b == (s.reg (EYE.MAC 0)).toNat && (s.reg (EYE.MAC 0)).toNat != 0

/-- Step 1 for a frame that passes the Eyepiece test: to facet 63 of the lead die where its facet is enabled, else dropped
and counted (R177, R184). -/
def Act.eyeFrame (p f : Nat) (r : RxFrame) (b : List Byte) : Act :=
  Act.get fun s =>
    if bit (s.reg (EYE.ETH_FACETS 0 p)) f then
      let c := s.pcpClass p f (s.tagUsed p f b).1
      Act.modBuf (fk p f) (replaceFirst
        { r with fr := { r.fr with cls := c, flow := 0, kind := 0, dest := globalQueue 0 (queueNo 63 c 0) }, looked := true })
    else Act.seq (Act.modBuf (fk p f) dropFirst) (Act.bumpFld (EYE.ETH_STAT 0) EYE.ETH_STAT.OTHER_DROP 1)

/-- Steps 2 and 3 of R295, and what follows. -/
def Act.steps2to8 (p f : Nat) (r : RxFrame) (busy : Bool) : Act :=
  Act.get fun s =>
    let b := r.fr.data
    let (pcp, dei, vid) := s.tagUsed p f b
    if s.acceptBad p f b then Act.clsDrop p f 0
    else if s.vlanBad p f vid then Act.clsDrop p f 1
    else if frTagged b = false ∧ 9216 < b.length + 4 then Act.clsDrop p f 2
    else
      let keep := frTagged b && frTci b % 4096 != 0
      let t := if keep then b else setTag b pcp 0 vid
      if frDa b / 16 = 0x0180C200000 then
        Act.decideTo p f r (s.pcpClass p f pcp) (s.clsPort p f CLS.PORT.FLOW) none false t
          (.queue (s.fld (CLS.QUEUES p) CLS.QUEUES.LL_QUEUE))
      else if isGroup (frSa b) then Act.clsDrop p f 3
      else Act.steps4to8 p f r vid pcp (dei == 1) busy t

/-- FRAME_LOOKUP: the oldest frame of facet f that is not looked up is decided (R293, R295). With CLS or LPM in
its disabled safe state it is refused, and its class is held (R213 and the faults of lookup and policing; log entry 46). -/
def frameLookup (p f : Nat) (busy : Bool) : Act :=
  Act.get fun s =>
    Act.opt ((s.buf (fk p f)).find? fun r => !r.looked) fun r =>
      if s.enabled p 0x10 = false ∨ s.enabled p 0x11 = false then
        Act.when ((s.hold (ck p f r.bufCls)).held = false)
          (Act.setHold (ck p f r.bufCls) { held := true, since := s.edges })
      else if f < 32 ∧ s.toEye r.fr.data then Act.eyeFrame p f r r.fr.data
      else if f < 32 ∨ f = 60 then Act.steps2to8 p f r busy
      else Act.skip

end Sys2Proof.Machine
end

