-- ==== Sys2Proof/Machine/Mem.lean ====
section
/-! DEFINITION. Firmware memory (R657, R660): the on-die SRAM and the LPDDR5 of each Prism die, and the memory windows
of the partitions. -/

namespace Sys2Proof.Machine

/-- The key of a byte of die p's firmware memory. -/
def memKey (p a : Nat) : Nat := a + 2 ^ 40 * p

/-- Byte a of die p's firmware memory. -/
def State.memByte (s : State) (p a : Nat) : Byte := Sparse.get memBlank s.mem (memKey p a)

/-- n bytes of die p's firmware memory from address a. -/
def State.memRead (s : State) (p a n : Nat) : List Byte := (List.range n).map fun i => s.memByte p (a + i)

/-- Store bytes from address a of die p's firmware memory. -/
def Act.memWrite (p a : Nat) (l : List Byte) : Act :=
  Act.all ((List.range l.length).map fun i => Act.setMem (memKey p (a + i)) (l.getD i 0))

/-- A 64-bit location of firmware memory, least significant byte first (R16; RV64 byte order, log entry 6). -/
def State.memWord (s : State) (p a : Nat) : Nat := leNat (s.memRead p a 8)

/-- Store a word in a 64-bit location of firmware memory, its upper bits zero (R16). -/
def Act.memSetWord (p a : Nat) (v : Word) : Act := Act.memWrite p a (leBytes 8 v.toNat)

/-- Does some memory window of partition part cover n bytes from address a with a right: 45 R, 46 W, 47 X (R660)? -/
def State.windowOk (s : State) (p part a n right : Nat) : Bool :=
  (List.range 8).any fun w =>
    let v := s.reg (CPU.MWIN p (8 * part + w))
    let lo := fget v CPU.MWIN.BASE * 4096
    fget v CPU.MWIN.SIZE != 0 && bit v right && decide (lo ≤ a ∧ a + n ≤ lo + fget v CPU.MWIN.SIZE * 4096)

end Sys2Proof.Machine
end

