-- ==== Sys2Proof/Machine/Flags.lean ====
section
/-! DEFINITION. The attention bits of STATUS (R164, R175, R185): which event bits and which conditions raise each, and the
dies that hold their sources. -/

namespace Sys2Proof.Machine

/-- The event bits of an event register with the attention bits each raises. -/
structure AttnRow where
  lo : Nat
  hi : Nat
  reg : Nat
  bits : List (Nat × List Nat)
  deriving DecidableEq, Repr

/-- Attention bits by number (R175): FAULT 0, SUPPLY 1, THERMAL 2, LOAD 3, LINK 4, WAKE 5, SECURITY 6, COUNTER 7, QUEUE 8,
PARALLAX 9, APERTURE 10, RESET 11. The event registers of a Prism die that raise attention, as the chapter of each
states (R138, R147, R186, R191, R241, R248, R260, R282, R290, R334, R338, R339, R342). -/
def attnCore : List AttnRow := [
  ⟨0x00, 0x00, 0x0004, [(0, [1]), (1, [7]), (2, [0]), (3, [0, 1])]⟩,
  ⟨0x02, 0x02, 0x0008, [(0, [6]), (1, [6])]⟩,
  ⟨0x03, 0x03, 0x0009, [(0, [0]), (1, [0]), (2, [0]), (3, [6]), (4, [6]), (5, [6]), (7, [0])]⟩,
  ⟨0x08, 0x08, 0x0005, [(0, [8]), (2, [0]), (3, [0]), (4, [0]), (5, [0])]⟩,
  ⟨0x09, 0x09, 0x0003, [(0, [8]), (1, [8]), (3, [0])]⟩,
  ⟨0x0A, 0x0A, 0x0003, [(0, [8]), (1, [0]), (2, [0])]⟩,
  ⟨0x10, 0x10, 0x0003, [(1, [0]), (4, [0])]⟩,
  ⟨0x11, 0x11, 0x0006, [(0, [0]), (3, [0])]⟩,
  ⟨0x12, 0x12, 0x0000, [(0, [0]), (1, [0]), (2, [0]), (3, [8]), (4, [7]), (5, [0])]⟩,
  ⟨0x13, 0x13, 0x0010, [(1, [0]), (2, [0])]⟩]

/-- The event registers of a Prism die's facets and engines that raise attention (R379, R386, R392, R396, R410, R411,
R415, R419, R423, R474, R486, R487, R539, R544, R547, R549, R577, R603, R685, R712, R744). -/
def attnUnits : List AttnRow := [
  ⟨0x20, 0x3F, 0x0004, [(0, [4]), (1, [4]), (2, [8]), (3, [4]), (5, [4])]⟩,
  ⟨0x40, 0x4F, 0x000A, [(1, [4]), (2, [4]), (3, [4]), (4, [8]), (5, [0]), (8, [4]), (9, [0])]⟩,
  ⟨0x50, 0x57, 0x0002, [(2, [0]), (3, [4]), (4, [8]), (5, [0])]⟩,
  ⟨0x58, 0x5A, 0x0003, [(0, [0]), (1, [0]), (3, [8])]⟩,
  ⟨0x60, 0x60, 0x0002, [(0, [6]), (1, [6]), (2, [0]), (5, [0]), (6, [8])]⟩,
  ⟨0x61, 0x61, 0x0002, [(0, [0]), (2, [0])]⟩,
  ⟨0x68, 0x68, 0x0002, [(0, [6]), (1, [6]), (2, [6]), (3, [0]), (4, [6]), (5, [6])]⟩,
  ⟨0x69, 0x69, 0x0000, [(0, [6]), (1, [6])]⟩,
  ⟨0x6A, 0x6A, 0x0030, [(0, [6]), (1, [6]), (2, [6])]⟩,
  ⟨0x6B, 0x6B, 0x0006, [(0, [6]), (1, [6]), (2, [6])]⟩,
  ⟨0x70, 0x70, 0x000A, [(0, [4]), (1, [0]), (2, [0]), (4, [3]), (5, [3]), (6, [0]), (7, [0]), (8, [4]), (10, [0])]⟩,
  ⟨0x71, 0x71, 0x0004, [(0, [5]), (5, [5]), (6, [0]), (7, [3])]⟩,
  ⟨0x72, 0x72, 0x0009, [(0, [9]), (1, [9]), (2, [9]), (3, [9]), (4, [6]), (5, [6])]⟩,
  ⟨0x78, 0x78, 0x0000, [(0, [10]), (1, [10]), (2, [0]), (3, [0]), (4, [0]), (6, [0])]⟩,
  ⟨0x81, 0x81, 0x0007, [(0, [0]), (2, [8]), (3, [0])]⟩,
  ⟨0x82, 0x82, 0x0009, [(1, [0])]⟩]

/-- The event registers of a drive die that raise attention (R38, R58, R96, R438, R607, R616 to R629, R637, R641). -/
def attnDrive : List AttnRow := [
  ⟨0x01, 0x01, 0x0004, [(0, [1]), (1, [1]), (2, [1]), (3, [1, 3]), (4, [1, 3]), (6, [0, 1])]⟩,
  ⟨0x08, 0x23, 0x0008, [(0, [2]), (1, [2]), (2, [2]), (3, [2]), (4, [3]), (5, [3]), (6, [3]), (7, [3]), (8, [3])]⟩,
  ⟨0x28, 0x28, 0x0041, [(1, [3])]⟩,
  ⟨0x29, 0x29, 0x000B, [(0, [0])]⟩,
  ⟨0x2A, 0x2A, 0x0002, [(0, [0]), (1, [2]), (2, [2])]⟩,
  ⟨0x2B, 0x2B, 0x0004, [(0, [4]), (1, [4]), (2, [4]), (3, [2]), (4, [1])]⟩,
  ⟨0x2C, 0x2C, 0x0012, [(2, [5])]⟩]

/-- The rows of the event registers of a die field. -/
def attnRows (f : Nat) : List AttnRow := if f < 4 then attnCore ++ attnUnits else attnDrive

/-- The event bits of register a with the attention bits they raise: BLK_ERR.PARITY raises FAULT in every block
(R147). -/
def attnOf (a : Nat) : List (Nat × List Nat) :=
  if aReg a = 0x1FFE then [(2, [0])]
  else ((attnRows (aDie a)).find? fun r =>
    decide (r.lo ≤ aBlk a) && decide (aBlk a ≤ r.hi) && decide (r.reg = aReg a)).elim [] fun r => r.bits

/-- Does the value v of register a raise attention bit b? -/
def attnRaised (a : Nat) (v : Word) (b : Nat) : Bool := (attnOf a).any fun e => bit v e.1 && e.2.contains b

/-- The conditions that hold an attention bit beside the event bits: FAULT while CLK_REASON reads 2 to 5 (R90), RESET from
service entry while a bit of RSTC.CAUSE is set (R86), THERMAL while a Prism die is hot (R82). The package-wide ones belong
to the lead die (R185). -/
def State.attnHeld (s : State) (f b : Nat) : Bool :=
  match b with
  | 0 => f == 0 && (let r := s.fld (RSTC.STRAP 0) RSTC.STRAP.CLK_REASON; decide (2 ≤ r) && decide (r ≤ 5))
  | 2 => decide (f < 4) && (s.psup f).hot
  | 11 => f == 0 && s.start.step == 15 && decide ((s.reg (RSTC.CAUSE 0)).toNat % 2 ^ 9 ≠ 0)
  | _ => false

/-- Does the die of die field f hold a source of attention bit b (R185)? -/
def State.attnDie (s : State) (f b : Nat) : Bool :=
  s.attnHeld f b || s.regs.any fun e => aDie e.1 == f && attnRaised e.1 e.2 b

/-- The mask of the dies that hold a source of attention bit b (R185). -/
def State.attnMask (s : State) (b : Nat) : Nat :=
  (List.range 8).foldl (fun m f => if s.dieIn f && s.attnDie f b then m + 2 ^ f else m) 0

/-- The attention bits of the package (R164). -/
def State.attn (s : State) : Nat :=
  (List.range 12).foldl (fun m b => if s.attnMask b = 0 then m else m + 2 ^ b) 0

end Sys2Proof.Machine
end

