-- ==== Sys2Proof/Machine/Crypto.lean ====
section
/-! DEFINITION. The published algorithms the security chapters name: AES (FIPS 197), CMAC (SP 800-38B), GCM and GMAC
(SP 800-38D), key wrap (RFC 3394) and the counter-mode KDF of R507. Bytes are numbers below 256. -/

namespace Sys2Proof.Machine

/-- The AES substitution box, upper half. -/
def sboxA : List Nat :=
  [0x63, 0x7c, 0x77, 0x7b, 0xf2, 0x6b, 0x6f, 0xc5, 0x30, 0x1, 0x67, 0x2b, 0xfe, 0xd7, 0xab, 0x76] ++
  [0xca, 0x82, 0xc9, 0x7d, 0xfa, 0x59, 0x47, 0xf0, 0xad, 0xd4, 0xa2, 0xaf, 0x9c, 0xa4, 0x72, 0xc0] ++
  [0xb7, 0xfd, 0x93, 0x26, 0x36, 0x3f, 0xf7, 0xcc, 0x34, 0xa5, 0xe5, 0xf1, 0x71, 0xd8, 0x31, 0x15] ++
  [0x4, 0xc7, 0x23, 0xc3, 0x18, 0x96, 0x5, 0x9a, 0x7, 0x12, 0x80, 0xe2, 0xeb, 0x27, 0xb2, 0x75] ++
  [0x9, 0x83, 0x2c, 0x1a, 0x1b, 0x6e, 0x5a, 0xa0, 0x52, 0x3b, 0xd6, 0xb3, 0x29, 0xe3, 0x2f, 0x84] ++
  [0x53, 0xd1, 0x0, 0xed, 0x20, 0xfc, 0xb1, 0x5b, 0x6a, 0xcb, 0xbe, 0x39, 0x4a, 0x4c, 0x58, 0xcf] ++
  [0xd0, 0xef, 0xaa, 0xfb, 0x43, 0x4d, 0x33, 0x85, 0x45, 0xf9, 0x2, 0x7f, 0x50, 0x3c, 0x9f, 0xa8] ++
  [0x51, 0xa3, 0x40, 0x8f, 0x92, 0x9d, 0x38, 0xf5, 0xbc, 0xb6, 0xda, 0x21, 0x10, 0xff, 0xf3, 0xd2]

/-- The AES substitution box, lower half. -/
def sboxB : List Nat :=
  [0xcd, 0xc, 0x13, 0xec, 0x5f, 0x97, 0x44, 0x17, 0xc4, 0xa7, 0x7e, 0x3d, 0x64, 0x5d, 0x19, 0x73] ++
  [0x60, 0x81, 0x4f, 0xdc, 0x22, 0x2a, 0x90, 0x88, 0x46, 0xee, 0xb8, 0x14, 0xde, 0x5e, 0xb, 0xdb] ++
  [0xe0, 0x32, 0x3a, 0xa, 0x49, 0x6, 0x24, 0x5c, 0xc2, 0xd3, 0xac, 0x62, 0x91, 0x95, 0xe4, 0x79] ++
  [0xe7, 0xc8, 0x37, 0x6d, 0x8d, 0xd5, 0x4e, 0xa9, 0x6c, 0x56, 0xf4, 0xea, 0x65, 0x7a, 0xae, 0x8] ++
  [0xba, 0x78, 0x25, 0x2e, 0x1c, 0xa6, 0xb4, 0xc6, 0xe8, 0xdd, 0x74, 0x1f, 0x4b, 0xbd, 0x8b, 0x8a] ++
  [0x70, 0x3e, 0xb5, 0x66, 0x48, 0x3, 0xf6, 0xe, 0x61, 0x35, 0x57, 0xb9, 0x86, 0xc1, 0x1d, 0x9e] ++
  [0xe1, 0xf8, 0x98, 0x11, 0x69, 0xd9, 0x8e, 0x94, 0x9b, 0x1e, 0x87, 0xe9, 0xce, 0x55, 0x28, 0xdf] ++
  [0x8c, 0xa1, 0x89, 0xd, 0xbf, 0xe6, 0x42, 0x68, 0x41, 0x99, 0x2d, 0xf, 0xb0, 0x54, 0xbb, 0x16]

/-- AES SubBytes of one byte. -/
def aesSub (b : Nat) : Nat := if b < 128 then sboxA.getD b 0 else sboxB.getD (b - 128) 0

/-- Inverse SubBytes: the byte whose substitution is b. -/
def aesSubInv (b : Nat) : Nat :=
  if (sboxA.idxOf b) < 128 then sboxA.idxOf b else 128 + sboxB.idxOf b

/-- Multiplication by x in the AES field. -/
def aesX (b : Nat) : Nat := ((b * 2) % 256) ^^^ (if 128 ≤ b then 0x1B else 0)

/-- Multiplication in the AES field by the constants MixColumns uses. -/
def aesMul (k b : Nat) : Nat :=
  (if k % 2 = 1 then b else 0) ^^^ (if k / 2 % 2 = 1 then aesX b else 0) ^^^
  (if k / 4 % 2 = 1 then aesX (aesX b) else 0) ^^^ (if k / 8 % 2 = 1 then aesX (aesX (aesX b)) else 0)

/-- Bytewise exclusive or. -/
def xorL (a b : List Nat) : List Nat := List.zipWith (· ^^^ ·) a b

/-- One word of the key schedule from the words before it, newest first (FIPS 197, 5.2): nk words in the key, i the
index of the new word. -/
def aesNextKeyWord (nk i rcon : Nat) (ws : List (List Nat)) : List Nat :=
  let prev := ws.headD []
  let old := ws.getD (nk - 1) []
  let t :=
    if i % nk = 0 then
      xorL ((prev.drop 1 ++ prev.take 1).map aesSub) [rcon, 0, 0, 0]
    else if nk > 6 ∧ i % nk = 4 then prev.map aesSub
    else prev
  xorL old t

/-- Extend the key schedule by n words. -/
def aesExpand (nk : Nat) : Nat → Nat → Nat → List (List Nat) → List (List Nat)
  | 0, _, _, ws => ws
  | n + 1, i, rcon, ws =>
    aesExpand nk n (i + 1) (if i % nk = 0 then aesX rcon else rcon) (aesNextKeyWord nk i rcon ws :: ws)

/-- A list of bytes in words of four. -/
def chunk4 : Nat → List Nat → List (List Nat)
  | 0, _ => []
  | n + 1, l => l.take 4 :: chunk4 n (l.drop 4)

/-- A list of bytes in blocks of sixteen; the last may be short. -/
def chunk16 : Nat → List Nat → List (List Nat)
  | 0, _ => []
  | n + 1, l => l.take 16 :: chunk16 n (l.drop 16)

/-- The round keys of a 16-byte or 32-byte key, in order, 16 bytes each. -/
def aesRoundKeys (key : List Nat) : List (List Nat) :=
  let nk := key.length / 4
  let ws := (aesExpand nk (4 * (nk + 7) - nk) nk 1 (chunk4 nk key).reverse).reverse
  chunk16 (nk + 7) ws.flatten

/-- ShiftRows over the 16 bytes in column order. -/
def aesShift (s : List Nat) : List Nat :=
  [0, 5, 10, 15, 4, 9, 14, 3, 8, 13, 2, 7, 12, 1, 6, 11].map fun i => s.getD i 0

/-- Inverse ShiftRows. -/
def aesShiftInv (s : List Nat) : List Nat :=
  [0, 13, 10, 7, 4, 1, 14, 11, 8, 5, 2, 15, 12, 9, 6, 3].map fun i => s.getD i 0

/-- MixColumns of one column with the circulant row a b c d. -/
def aesMixCol (a b c d : Nat) (s : List Nat) : List Nat :=
  let g := fun (w x y z : Nat) =>
    aesMul w (s.getD 0 0) ^^^ aesMul x (s.getD 1 0) ^^^ aesMul y (s.getD 2 0) ^^^ aesMul z (s.getD 3 0)
  [g a b c d, g d a b c, g c d a b, g b c d a]

/-- MixColumns, or its inverse, over the 16 bytes. -/
def aesMix (a b c d : Nat) (s : List Nat) : List Nat :=
  ((chunk4 4 s).map (aesMixCol a b c d)).flatten

/-- AES encryption of one block under round keys: the first whitens, the last round mixes no columns. -/
def aesEncRounds : List (List Nat) → List Nat → List Nat
  | [], s => s
  | [k], s => xorL (aesShift (s.map aesSub)) k
  | k :: ks, s => aesEncRounds ks (xorL (aesMix 2 3 1 1 (aesShift (s.map aesSub))) k)

/-- AES encryption of one 16-byte block. -/
def aesEnc (key blk : List Nat) : List Nat :=
  match aesRoundKeys key with
  | [] => blk
  | k :: ks => aesEncRounds ks (xorL blk k)

/-- AES decryption under reversed round keys. -/
def aesDecRounds : List (List Nat) → List Nat → List Nat
  | [], s => s
  | [k], s => xorL ((aesShiftInv s).map aesSubInv) k
  | k :: ks, s => aesDecRounds ks (aesMix 14 11 13 9 (xorL ((aesShiftInv s).map aesSubInv) k))

/-- AES decryption of one 16-byte block. -/
def aesDec (key blk : List Nat) : List Nat :=
  match (aesRoundKeys key).reverse with
  | [] => blk
  | k :: ks => aesDecRounds ks (xorL blk k)

/-- The number a big-endian byte list spells. -/
def natOf (l : List Nat) : Nat := l.foldl (fun a b => a * 256 + b) 0

/-- n as k bytes, most significant first. -/
def bytesOf : Nat → Nat → List Nat
  | 0, _ => []
  | k + 1, n => n / 256 ^ k % 256 :: bytesOf k n

/-- Doubling in the field of CMAC (SP 800-38B). -/
def cmacDbl (n : Nat) : Nat := ((n * 2) % 2 ^ 128) ^^^ (if 2 ^ 127 ≤ n then 0x87 else 0)

/-- CBC chaining over whole blocks. -/
def cbcMac (key : List Nat) (blocks : List (List Nat)) : List Nat :=
  blocks.foldl (fun c b => aesEnc key (xorL c b)) (List.replicate 16 0)

/-- AES-CMAC of a message (SP 800-38B), 16 bytes. -/
def cmac (key msg : List Nat) : List Nat :=
  let k1 := cmacDbl (natOf (aesEnc key (List.replicate 16 0)))
  let n := if msg.length = 0 then 1 else (msg.length + 15) / 16
  let blocks := chunk16 n msg
  let last := blocks.getLastD []
  let tail :=
    if last.length = 16 then xorL last (bytesOf 16 k1)
    else xorL (last ++ 0x80 :: List.replicate (15 - last.length) 0) (bytesOf 16 (cmacDbl k1))
  cbcMac key (blocks.dropLast ++ [tail])

/-- Multiplication in the GCM field, bit by bit from the most significant bit of x. -/
def gcmMulBits (x : Nat) : Nat → Nat → Nat → Nat
  | 0, z, _ => z
  | k + 1, z, v =>
    gcmMulBits x k (if x / 2 ^ k % 2 = 1 then z ^^^ v else z)
      (if v % 2 = 1 then (v / 2) ^^^ (0xE1 * 2 ^ 120) else v / 2)

/-- Multiplication in the GCM field. -/
def gcmMul (x y : Nat) : Nat := gcmMulBits x 128 0 y

/-- Zero bytes that fill a list to a multiple of sixteen. -/
def pad16 (l : List Nat) : List Nat := l ++ List.replicate ((16 - l.length % 16) % 16) 0

/-- GHASH of additional data and ciphertext. -/
def ghash (h : Nat) (aad ct : List Nat) : Nat :=
  let body := pad16 aad ++ pad16 ct ++ bytesOf 8 (8 * aad.length) ++ bytesOf 8 (8 * ct.length)
  (chunk16 (body.length / 16) body).foldl (fun y b => gcmMul (y ^^^ natOf b) h) 0

/-- The GCM key stream xored over a message, from counter c. -/
def gctr (key iv : List Nat) : Nat → List (List Nat) → List Nat
  | _, [] => []
  | c, b :: bs => List.zipWith (· ^^^ ·) b (aesEnc key (iv ++ bytesOf 4 c)) ++ gctr key iv (c + 1) bs

/-- GCM with a 96-bit IV: the key stream over a message. -/
def gcmStream (key iv msg : List Nat) : List Nat := gctr key iv 2 (chunk16 ((msg.length + 15) / 16) msg)

/-- The 16-byte GCM tag of additional data and ciphertext. -/
def gcmTag (key iv aad ct : List Nat) : List Nat :=
  let h := natOf (aesEnc key (List.replicate 16 0))
  xorL (bytesOf 16 (ghash h aad ct)) (aesEnc key (iv ++ [0, 0, 0, 1]))

/-- One pass of RFC 3394 wrapping over the semiblocks, step numbers from t. -/
def kwPass (key : List Nat) : Nat → List Nat → List (List Nat) → List Nat × List (List Nat)
  | _, a, [] => (a, [])
  | t, a, r :: rs =>
    let b := aesEnc key (a ++ r)
    let (a', rs') := kwPass key (t + 1) (bytesOf 8 (natOf (b.take 8) ^^^ t)) rs
    (a', b.drop 8 :: rs')

/-- One pass of RFC 3394 unwrapping, over the semiblocks last first, step numbers downward from t. -/
def kwPassInv (key : List Nat) : Nat → List Nat → List (List Nat) → List Nat × List (List Nat)
  | _, a, [] => (a, [])
  | t, a, r :: rs =>
    let b := aesDec key (bytesOf 8 (natOf a ^^^ t) ++ r)
    let (a', rs') := kwPassInv key (t - 1) (b.take 8) rs
    (a', b.drop 8 :: rs')

/-- A list in semiblocks of eight bytes. -/
def chunk8 : Nat → List Nat → List (List Nat)
  | 0, _ => []
  | n + 1, l => l.take 8 :: chunk8 n (l.drop 8)

/-- AES key wrap (RFC 3394) with initial value iv, eight bytes (R497). -/
def keyWrap (iv kek key : List Nat) : List Nat :=
  let n := key.length / 8
  let go := fun (st : List Nat × List (List Nat)) (j : Nat) => kwPass kek (n * j + 1) st.1 st.2
  let st := (List.range 6).foldl go (iv, chunk8 n key)
  st.1 ++ st.2.flatten

/-- AES key unwrap (RFC 3394) with initial value iv; none when the integrity check fails (R497). -/
def keyUnwrap (iv kek blob : List Nat) : Option (List Nat) :=
  let n := blob.length / 8 - 1
  let go := fun (st : List Nat × List (List Nat)) (j : Nat) => kwPassInv kek (n * (6 - j)) st.1 st.2
  let st := (List.range 6).foldl go (blob.take 8, (chunk8 n (blob.drop 8)).reverse)
  if st.1 = iv ∧ blob.length = 8 * (n + 1) ∧ 1 ≤ n then some st.2.reverse.flatten else none

/-- The default initial value of RFC 3394, which UNWRAP and WRAP use (R497). -/
def kwDefault : List Nat := List.replicate 8 0xA6

/-- The initial value that binds a blob to its slot (R497). -/
def kwSlot (n : Nat) : List Nat := [0xA6, 0xA6, 0xA6, 0xA6] ++ bytesOf 4 n

/-- The key in a 32-byte wrapped form: an AES-128 key has bytes 16 to 31 zero (R497); none where they are not. -/
def keyOfBlob (klen : Nat) (k : List Nat) : Option (List Nat) :=
  if k.length ≠ 32 then none
  else if klen = 1 then some k
  else if k.drop 16 = List.replicate 16 0 then some (k.take 16) else none

/-- The counter-mode KDF of R507: the key of klen (0: 128 bits, 1: 256 bits) from the input under a parent key. -/
def kdf (parent input : List Nat) (klen : Nat) : List Nat :=
  let l := if klen = 1 then 256 else 128
  let blk := fun i => cmac parent (i :: input ++ bytesOf 2 l)
  if klen = 1 then blk 1 ++ blk 2 else blk 1

/-- Bytes as numbers. -/
def nats (l : List Byte) : List Nat := l.map BitVec.toNat

/-- Numbers as bytes. -/
def octets (l : List Nat) : List Byte := l.map (BitVec.ofNat 8)

end Sys2Proof.Machine
end

