-- ==== Sys2Proof/Machine/KeyStore.lean ====
section
/-! DEFINITION. The key store: the check of a use, filling and clearing slots, loading image blobs, randomness
(R495 to R510). -/

namespace Sys2Proof.Machine

/-- What a use of a key slot comes to (R500, R510). -/
inductive KeyUse where
  | ok (key : List Nat)
  | notReady
  | denied
  | noRandom
  deriving DecidableEq, Repr

/-- The root key (R495): the same value on every die of the package. -/
def rootKey : List Nat := (List.range 32).map fun i => (Config.rootKeyByte i).toNat

/-- The store of key slots of die p: slot n. -/
def sk (p n : Nat) : Nat := 1024 * p + n

/-- The state of a slot: 0 EMPTY, 1 LOADING, 2 LOADED, 3 BAD (R542). -/
def State.slotState (s : State) (p n : Nat) : Nat := s.fld (KEYS.SLOT p n) KEYS.SLOT.STATE

/-- The key length of a slot's policy: 0 for AES-128, 1 for AES-256 (R542). -/
def State.klen (s : State) (p n : Nat) : Nat := s.fld (KEYS.POL p n) KEYS.POL.KLEN

/-- Is bit b of a slot's USE, DIR or FILL field set? -/
def State.polBit (s : State) (p n : Nat) (f : Fld) (b : Nat) : Bool := s.fld (KEYS.POL p n) f / 2 ^ b % 2 == 1

/-- Does the policy of slot n let partition part name it (R500)? A use that no firmware asked for needs no bit. -/
def State.partOk (s : State) (p n : Nat) (part : Option Nat) : Bool :=
  match part with
  | none => true
  | some q => s.polBit p n KEYS.POL.PART_MASK q

/-- Does the policy of slot n allow a use: bit use of USE, bit dir of DIR, a key length, a partition (R500)? Slot 0 serves
the loader alone (R496). -/
def State.polOk (s : State) (p n use : Nat) (dir klen part : Option Nat) : Bool :=
  n != 0 && s.polBit p n KEYS.POL.USE use &&
    (match dir with | none => true | some d => s.polBit p n KEYS.POL.DIR d) &&
    (match klen with | none => true | some k => s.klen p n == k) && s.partOk p n part

/-- The decision on a use of slot n (R500, R503, R504, R510). -/
def State.keyUse (s : State) (p n use : Nat) (dir klen part : Option Nat) : KeyUse :=
  if s.polOk p n use dir klen part = false then .denied
  else
    match s.slotState p n with
    | 2 => if (s.kstore p).rng = 2 then .noRandom else .ok (s.kslot (sk p n)).key
    | 0 => if (s.kslot (sk p n)).blob.isSome then .notReady else .denied
    | _ => .notReady

/-- A policy denial (R500, R539, R543): user is LAST.USER, part the partition where a partition asked. -/
def Act.denyKey (p n user part : Nat) : Act :=
  Act.all [
    Act.event (KEYS.EVT p) 1,
    Act.setFlds (KEYS.LAST p)
      [(KEYS.LAST.SLOT, n), (KEYS.LAST.WHAT, 2), (KEYS.LAST.USER, user), (KEYS.LAST.PART, part)],
    Act.count (KEYS.CNT p 6)]

/-- A use of a slot starts loading it where the image names it and it is EMPTY (R500, R503). -/
def Act.demand (p n : Nat) : Act :=
  Act.get fun s => Act.when (s.slotState p n = 0 ∧ (s.kslot (sk p n)).blob.isSome = true)
    (Act.seq (Act.modKslot (sk p n) fun u => { u with asked := s.edges }) (Act.setFld (KEYS.SLOT p n) KEYS.SLOT.STATE 1))

/-- Re-randomise the shares of slot n. The key does not change. -/
def Act.remask (p n : Nat) : Act :=
  Act.get fun s => Act.freeBytes (s.kslot (sk p n)).key.length fun m =>
    Act.modKslot (sk p n) fun u => { u with mask := nats m, since := 0 }

/-- Use slot n of die p: the check of R500, its report, the demand of R503, the re-randomisation due before the use, the count of uses
(R508, R542). -/
def Act.useKey (p n use : Nat) (dir klen part : Option Nat) (user : Nat) (k : KeyUse → Act) : Act :=
  Act.get fun s =>
    match s.keyUse p n use dir klen part with
    | .denied => Act.seq (Act.denyKey p n user (part.getD 0)) (k .denied)
    | .notReady => Act.seq (Act.demand p n) (k .notReady)
    | .noRandom => k .noRandom
    | .ok key =>
      Act.all [
        Act.when (2 ^ 20 ≤ (s.kslot (sk p n)).since) (Act.remask p n),
        Act.bumpFld (KEYS.SLOT p n) KEYS.SLOT.USES 1,
        Act.modKslot (sk p n) (fun u => { u with since := u.since + 1 }),
        k (.ok key)]

/-- The two shares of a key under a mask (R498, R518): the mask, and the key with the mask added. -/
def KeySlot.shares (u : KeySlot) : List Nat × List Nat := (u.mask, xorL u.key u.mask)

/-- Fill slot n with a key from a source (R505, R542): LOADED, with a fresh mask, its PN mark back at 1 (R547). -/
def Act.fillSlot (p n source : Nat) (key : List Nat) : Act :=
  Act.freeBytes key.length fun m =>
    Act.seq
      (Act.modKslot (sk p n) fun u => { u with key := key, mask := nats m, since := 0, mark := 1 })
      (Act.setFlds (KEYS.SLOT p n) [(KEYS.SLOT.STATE, 2), (KEYS.SLOT.SOURCE, source)])

/-- Zeroise slot n: EMPTY, source none (R505). -/
def Act.clearSlot (p n : Nat) : Act :=
  Act.seq (Act.modKslot (sk p n) fun u => { u with key := [], mask := [], since := 0 })
    (Act.setFlds (KEYS.SLOT p n) [(KEYS.SLOT.STATE, 0), (KEYS.SLOT.SOURCE, 0)])

/-- The key that a KEYBLOB entry unwraps to for slot n: under the image key (KEK 0) or the root key (KEK 1) (R497, R502,
R503); none where the unwrap fails. -/
def State.blobKey (s : State) (p n : Nat) : Option (List Nat) :=
  match (s.kslot (sk p n)).blob with
  | none => none
  | some (kek, b) =>
    let under := if kek = 1 then (if (s.kstore p).rootOk then some rootKey else none)
      else if s.slotState p 0 = 2 then some (s.kslot (sk p 0)).key else none
    under.bind fun key => (keyUnwrap (kwSlot n) key b).bind (keyOfBlob (s.klen p n))

/-- KEY_DEMAND: slot n of die p is used while EMPTY (R500, R503). -/
def keyDemand (p n : Nat) : Act := Act.demand p n

/-- KEY_LOAD_DONE: the blob of a LOADING slot unwraps, or the slot becomes BAD (R503, R504). -/
def keyLoadDone (p n : Nat) : Act :=
  Act.get fun s =>
    Act.when (s.slotState p n = 1)
      (match s.blobKey p n with
       | some key =>
         Act.seq (Act.fillSlot p n (match (s.kslot (sk p n)).blob with | some (1, _) => 2 | _ => 1) key)
           (Act.seq (Act.count (KEYS.CNT p 0)) (Act.offerMon p 0x060 0 (s.usSince (s.kslot (sk p n)).asked : Nat)))
       | none =>
         Act.all [
           Act.setFld (KEYS.SLOT p n) KEYS.SLOT.STATE 3,
           Act.event (KEYS.EVT p) 0,
           Act.setFlds (KEYS.LAST p)
             [(KEYS.LAST.SLOT, n), (KEYS.LAST.WHAT, 1), (KEYS.LAST.USER, 7), (KEYS.LAST.PART, 0)]])

/-- KEY_PRELOAD: from step 11 the background load takes the next EMPTY slot that the image names and that sets PRELOAD, in
ascending order (R503). -/
def keyPreload (p : Nat) : Act :=
  Act.get fun s =>
    Act.when (s.start.canDone = true)
      (Act.opt ((List.range 1024).find? fun n =>
          s.slotState p n == 0 && (s.kslot (sk p n)).blob.isSome && s.flag (KEYS.POL p n) KEYS.POL.PRELOAD)
        fun n => Act.demand p n)

/-! ## Resilvering (R508) -/

/-- The root key's working shares take a fresh mask (R495, R508). -/
def Act.rootMask (p : Nat) : Act := Act.freeBytes 32 fun m => Act.modKstore p fun u => { u with rootMask := nats m }

/-- The two working shares of the root key under a mask (R495, R508). -/
def KeyStore.rootShares (u : KeyStore) : List Nat × List Nat := (u.rootMask, xorL rootKey u.rootMask)

/-- The loaded slots of die p. -/
def State.loadedSlots (s : State) (p : Nat) : List Nat := (List.range 1024).filter fun n => s.slotState p n == 2

/-- RESILVER_PASS: RESILVER_MS after the one before, every loaded slot and the root key's working shares are re-randomised, or the
pass is skipped for want of randomness (R508). -/
def resilverPass (p : Nat) : Act :=
  Act.get fun s =>
    Act.when (s.pastMs (s.kstore p).passAt (s.fld (KEYS.CFG p) KEYS.CFG.RESILVER_MS) = true)
      (Act.seq (Act.modKstore p fun u => { u with passAt := s.edges })
        (if (s.kstore p).rng = 2 then Act.seq (Act.event (KEYS.EVT p) 5) (Act.count (KEYS.CNT p 5))
         else Act.seq (Act.each (s.loadedSlots p) fun n => Act.remask p n) (Act.when ((s.kstore p).rootOk = true) (Act.rootMask p))))

/-- RESILVER_SLOT_USES: a slot with 2^20 uses since its last re-randomisation is re-randomised (R508). -/
def resilverSlotUses (p n : Nat) : Act :=
  Act.get fun s =>
    Act.when (s.slotState p n = 2 ∧ 2 ^ 20 ≤ (s.kslot (sk p n)).since ∧ (s.kstore p).rng ≠ 2) (Act.remask p n)

/-! ## Randomness (R509, R510) -/

/-- RNG_HEALTH_FAIL: the source stops; the DRBG runs on its present seed (R510). -/
def rngHealthFail (p : Nat) : Act :=
  Act.get fun s =>
    Act.all [
      Act.when ((s.kstore p).rng = 0) (Act.modKstore p fun u => { u with rng := 1, rngAt := s.edges }),
      Act.event (KEYS.EVT p) 2,
      Act.count (KEYS.CNT p 7)]

/-- RNG_STOP: a reseed falls due with the source stopped: the DRBG stops (R510). -/
def rngStop (p : Nat) : Act :=
  Act.get fun s =>
    Act.when ((s.kstore p).rng = 1)
      (Act.seq (Act.modKstore p fun u => { u with rng := 2 }) (Act.event (KEYS.EVT p) 3))

/-- RNG_RESTART: 100 ms after it stopped or tried before, the source restarts; when its start-up tests pass, the DRBG reseeds and every
engine resumes (R510). -/
def rngRestart (p : Nat) (pass : Bool) : Act :=
  Act.get fun s =>
    Act.when ((s.kstore p).rng ≠ 0 ∧ s.pastMs (s.kstore p).rngAt 100 = true)
      (Act.modKstore p fun u => { u with rng := if pass then 0 else u.rng, rngAt := s.edges })

/-- DRBG_RESEED: the DRBG takes a new seed from its source; what it will deliver is free before and after (R509). -/
def drbgReseed (p : Nat) : Act :=
  Act.get fun s => Act.when ((s.kstore p).rng = 0) (Act.free fun _ => Act.skip)

end Sys2Proof.Machine
end

