-- ==== Sys2Proof/Machine/Admit.lean ====
section
/-! DEFINITION. Inrush admission: the window of claims, the requests that wait, and the decision of the lead die (R598 to R600).
Claims are kept in units of 0.5 A, the unit of CHN.CFG.PEAK. -/

namespace Sys2Proof.Machine

/-- The key of channel c of drive die d: its package channel number (R608). -/
def xc (d c : Nat) : Nat := 32 * d + c

/-- The ns since a die time of the lead die. -/
def State.leadNs (s : State) (t : Nat) : Nat := (s.time 0 + 2 ^ 48 - t) % 2 ^ 48

/-- Does admission act (R600)? -/
def State.admOn (s : State) : Bool := s.enabled 0 0x71

/-- Does any drive die of the package report SAG_NOW (R599)? -/
def State.sagNow (s : State) : Bool := s.driveDies.any fun d => (s.supply d).sag

/-- WINDOW_MS in ns (R601). -/
def State.admWindow (s : State) : Nat := s.fld (WAKE.ADM 0) WAKE.ADM.WINDOW_MS * 1000000

/-- W of R599, in 0.5 A: the claims admitted in the last WINDOW_MS. -/
def State.admW (s : State) : Nat := ((s.io.window.filter fun e => decide (s.leadNs e.1 < s.admWindow)).map (·.2)).sum

/-- B of R599, in A. -/
def State.admBudget (s : State) : Nat :=
  let b := s.fld (WAKE.ADM 0) WAKE.ADM.BUDGET_A
  if s.sagNow then b * s.fld (WAKE.ADM 0) WAKE.ADM.SAG_PCT / 100 else b

/-- Is a claim within the budget (R599)? -/
def State.admFits (s : State) (claim : Nat) : Bool := decide (s.admW + claim ≤ 2 * s.admBudget)

/-- Is a request admitted (R599)? -/
def State.admits (s : State) (claim : Nat) : Bool := s.admFits claim || (s.admW == 0 && !s.sagNow)

/-- An event of WAKE.EVT; every one interrupts firmware (R603). -/
def Act.wakeEvent (i : Nat) : Act := Act.eventIrq (WAKE.EVT 0) i

/-- Count WAKE counter i (R605). -/
def Act.wakeCount (i : Nat) : Act := Act.count (WAKE.CNT 0 i)

/-- Change the drive dies' part of the state. -/
def Act.updIo (f : Machine → Machine) : Act := Act.upd fun s => { s with io := f s.io }

/-- A claim enters the window at a time of the lead die; older claims leave it. -/
def Act.admEnter (t claim : Nat) : Act :=
  Act.get fun s =>
    Act.updIo fun m => { m with window := (m.window.filter fun e => decide (s.leadNs e.1 < s.admWindow)) ++ [(t, claim)] }

/-- A request is granted: its claim enters the window, and the channel, or the handover, holds its grant (R599, R600). -/
def Act.admGrant (chan : Option Nat) (claim : Nat) : Act :=
  Act.get fun s =>
    Act.all [
      Act.wakeCount 9,
      Act.when (s.admOn = true ∧ s.admFits claim = false) (Act.seq (Act.wakeCount 11) (Act.wakeEvent 8)),
      Act.admEnter (s.time 0) claim,
      (match chan with
       | some k => Act.modChan k fun u => { u with adm := .granted }
       | none =>
         Act.updIo fun m =>
           { m with pair := { m.pair with hand :=
              match m.pair.hand with
              | .takes t x _ a => .takes t x true a
              | h => h } })]

/-- Decide the waiting requests in their order: a waiting one holds back every later one (R599). -/
def Act.admDecide : Nat → Act
  | 0 => Act.skip
  | n + 1 =>
    Act.get fun s =>
      match s.io.waits with
      | [] => Act.skip
      | r :: rest =>
        if s.admOn = false ∨ s.admits r.claim = true then
          Act.all [Act.updIo fun m => { m with waits := rest }, Act.admGrant r.chan r.claim, Act.admDecide n]
        else Act.skip

/-- Decide all that waits. -/
def Act.admSettle : Act := Act.get fun s => Act.admDecide s.io.waits.length

/-- A request reaches the lead die: granted, or it waits behind the others (R599, R600). -/
def Act.admRequest (chan : Option Nat) (claim : Nat) : Act :=
  Act.get fun s =>
    if s.admOn = false ∨ (s.io.waits = [] ∧ s.admits claim = true) then Act.admGrant chan claim
    else
      Act.all [
        Act.wakeCount 10,
        Act.updIo fun m => { m with waits := m.waits ++ [{ chan := chan, claim := claim, since := s.time 0 }] },
        Act.opt chan fun k => Act.modChan k fun u => { u with adm := .waiting }]

/-- A request is withdrawn; those it held back are decided again (R598). -/
def Act.admWithdraw (chan : Option Nat) : Act :=
  Act.get fun s =>
    Act.when ((s.io.waits.any fun r => r.chan == chan) = true)
      (Act.seq (Act.updIo fun m => { m with waits := m.waits.filter fun r => r.chan != chan }) Act.admSettle)

/-- ADMISSION_WINDOW_EXPIRE: claims have left the window and the waiting requests are decided again (R599). -/
def admissionWindowExpire : Act :=
  Act.get fun s =>
    Act.seq (Act.updIo fun m => { m with window := m.window.filter fun e => decide (s.leadNs e.1 < s.admWindow) })
      Act.admSettle

/-- ADM_SLOW: each request that has waited WAIT_WARN_MS is reported once (R599). -/
def admSlow : Act :=
  Act.get fun s =>
    let late := fun (r : AdmReq) => !r.told && decide (s.fld (WAKE.ADM 0) WAKE.ADM.WAIT_WARN_MS * 1000000 ≤ s.leadNs r.since)
    Act.seq (Act.each (s.io.waits.filter late) fun _ => Act.wakeEvent 7)
      (Act.updIo fun m => { m with waits := m.waits.map fun r => if late r then { r with told := true } else r })

/-- WAKE.ADM_STAT (R602). -/
def State.admStat (s : State) : Word :=
  word [(WAKE.ADM_STAT.W, sat 511 (cdiv s.admW 2)), (WAKE.ADM_STAT.B, sat 255 s.admBudget),
    (WAKE.ADM_STAT.WAITING, sat 127 s.io.waits.length), (WAKE.ADM_STAT.SAG, b2n s.sagNow)]

end Sys2Proof.Machine
end

