-- ==== Sys2Proof/Machine/Line.lean ====
section
/-! DEFINITION. What passes between a bus controller and its bus: the integrated transceiver in between, the bit timing, the LIN checksum
(R389, R390, R407, R408, R422, R425, R427, R765). -/

namespace Sys2Proof.Machine

/-! ## Transceivers -/

/-- The key of transceiver u of drive die d: CAN 0 to 7, LIN 8 to 11. -/
def xKey (d u : Nat) : Nat := 16 * d + u

/-- Does transceiver u of drive die d pass the bus to its controller (R425, R594)? In standby or off it shows a recessive bus. -/
def State.xSees (s : State) (d u : Nat) : Bool :=
  let x := s.xcvr (xKey d u)
  x.mode == .normal || x.mode == .silent || x.woken

/-- Does transceiver u of drive die d drive the bus (R425, R427, R765)? -/
def State.xDrives (s : State) (d u : Nat) : Bool :=
  let x := s.xcvr (xKey d u)
  x.mode == .normal && !x.hot && !x.stuck && !(decide (8 ≤ u) && s.linOver d)

/-- The integrated transceiver that CAN controller c of die p uses; none where it uses its balls (R390). -/
def State.canOwn (s : State) (p c : Nat) : Option (Nat × Nat) := if s.flag (CAN.CFG p c) CAN.CFG.EXT then none else s.canXcvr p c

/-- The integrated transceiver that LIN controller c of die p uses; none where it uses its balls (R390). -/
def State.linOwn (s : State) (p c : Nat) : Option (Nat × Nat) :=
  if s.flag (LIN.CFG p c) LIN.CFG.EXT then none else (s.linXcvr p c).map fun e => (e.1, 8 + e.2)

/-- Does CAN controller c of die p see its bus (R425)? -/
def State.canHears (s : State) (p c : Nat) : Bool := (s.canOwn p c).all fun e => s.xSees e.1 e.2

/-- Does what CAN controller c of die p sends reach its bus (R425, R427)? -/
def State.canDrives (s : State) (p c : Nat) : Bool := (s.canOwn p c).all fun e => s.xDrives e.1 e.2

/-- Does LIN controller c of die p see its bus (R425)? -/
def State.linHears (s : State) (p c : Nat) : Bool := (s.linOwn p c).all fun e => s.xSees e.1 e.2

/-- Does what LIN controller c of die p sends reach its bus, so that its read-back can be good (R422, R427, R765)? -/
def State.linDrives (s : State) (p c : Nat) : Bool := (s.linOwn p c).all fun e => s.xDrives e.1 e.2

/-! ## CAN bits (R404, R407 to R409) -/

/-- The mtq in a bit of BRP, TSEG1 and TSEG2 (R407). -/
def bitMtq (brp t1 t2 : Nat) : Nat := brp * (1 + t1 + t2)

/-- The nominal bit of a controller in mtq (R407). -/
def State.nominalBit (s : State) (p c : Nat) : Nat :=
  let f := fun x => s.fld (CAN.NBT p c) x
  bitMtq (f CAN.NBT.BRP) (f CAN.NBT.TSEG1) (f CAN.NBT.TSEG2)

/-- The data phase of a frame of a format, for FD only where it switches its bit rate (R404, R407, R408). -/
def State.dataPhase (s : State) (p c fmt : Nat) (switches : Bool) : DataPhase :=
  let d := fun x => s.fld (CAN.DBT p c) x
  let x := fun f => s.fld (CAN.XBT p c) f
  let ssp := (s.can (16 * p + c)).ssp
  let bit := bitMtq (x CAN.XBT.BRP) (x CAN.XBT.TSEG1) (x CAN.XBT.TSEG2)
  if switches = false then .nominal
  else if fmt = 1 then .fd (bitMtq (d CAN.DBT.BRP) (d CAN.DBT.TSEG1) (d CAN.DBT.TSEG2)) ssp
  else if s.flag (CAN.CFG p c) CAN.CFG.XL_TMS then .pwm bit (x CAN.XBT.PWMS) (x CAN.XBT.PWML) (x CAN.XBT.PWMO) ssp
  else .nrz bit ssp

/-! ## LIN checksums (R389) -/

/-- The protected identifier: two parity bits above the identifier (ISO 17987-3). -/
def linPid (id : Nat) : Nat :=
  let b := fun i => id / 2 ^ i % 2
  id % 64 + 64 * ((b 0 + b 1 + b 2 + b 4) % 2) + 128 * ((1 + b 1 + b 3 + b 4 + b 5) % 2)

/-- The checksum of a response: the inverted sum with carry over its data, and with the enhanced one over the protected identifier too
(ISO 17987-3). -/
def linCheck (id : Nat) (enh : Bool) (data : List Byte) : Byte :=
  BitVec.ofNat 8 (255 - data.foldl (fun n b => let m := n + b.toNat; if 255 < m then m - 255 else m) (if enh then linPid id else 0))

end Sys2Proof.Machine
end

