-- ==== Sys2Proof/Machine/Can.lean ====
section
/-! DEFINITION. The CAN controllers: receiving and filtering, transmitting, error states, address-claim tracking
(R388 to R416, R428 to R434). -/

namespace Sys2Proof.Machine

/-! ## The bus frame (R393) -/

/-- FORMAT of a bus frame. -/
def bfFormat (b : List Byte) : Nat := bytesAt b 0 1 / 32

/-- ID of a bus frame. -/
def bfId (b : List Byte) : Nat := bytesAt b 0 4 % 2 ^ 29

/-- Bit i of FLAGS of a bus frame. -/
def bfFlag (b : List Byte) (i : Nat) : Bool := bytesAt b 4 1 / 2 ^ i % 2 == 1

/-- DLC of a bus frame. -/
def bfDlc (b : List Byte) : Nat := bytesAt b 5 1 % 16

/-- DATA_LEN of a bus frame. -/
def bfLen (b : List Byte) : Nat := bytesAt b 6 2 % 4096

/-- The data bytes of a bus frame. -/
def bfData (b : List Byte) : List Byte := (b.drop 16).take (bfLen b)

/-- The first byte of FLAGS with bit i set or clear. -/
def bfSetFlag (b : List Byte) (i : Nat) (v : Bool) : List Byte :=
  let f := bytesAt b 4 1
  b.take 4 ++ [BitVec.ofNat 8 (f - f / 2 ^ i % 2 * 2 ^ i + b2n v * 2 ^ i)] ++ b.drop 5

/-- A bus frame with its FILTER field set. -/
def bfSetFilter (b : List Byte) (n : Nat) : List Byte := b.take 10 ++ beBytes 2 n ++ b.drop 12

/-- The data lengths of CAN FD (R388). -/
def fdLengths : List Nat := [0, 1, 2, 3, 4, 5, 6, 7, 8, 12, 16, 20, 24, 32, 48, 64]

/-- Is DATA_LEN valid for the format of a bus frame (R393)? -/
def bfLenOk (b : List Byte) : Bool :=
  let n := bfLen b
  decide (b.length = 16 + n) &&
    match bfFormat b with
    | 0 => decide (n ≤ 8)
    | 1 => fdLengths.contains n
    | 2 => decide (1 ≤ n ∧ n ≤ 2048)
    | 3 => decide (1 ≤ n ∧ n ≤ 8)
    | _ => false

/-- The frame a controller sends: DLC of an FD frame from DATA_LEN, ESI from the error state (R404). -/
def bfAsSent (b : List Byte) (passive : Bool) : List Byte :=
  if bfFormat b = 1 then
    bfSetFlag (b.take 5 ++ [BitVec.ofNat 8 (fdLengths.idxOf (bfLen b))] ++ b.drop 6) 4 passive
  else b

/-! ## State and events (R411, R430, R431) -/

/-- The key of CAN controller c of die p. -/
def canKey (p c : Nat) : Nat := 16 * p + c

/-- Count CAN counter i (R434). -/
def Act.canCount (p c i : Nat) : Act := Act.count (CAN.CNT p c i)

/-- An event of CAN.EVT; every one interrupts firmware (R431). -/
def Act.canEvent (p c i : Nat) : Act := Act.eventIrq (CAN.EVT p c) i

/-- Take the pending frame out of its queue without sending it, counted in counter i. -/
def Act.canDropPend (p c i : Nat) : Act :=
  Act.get fun s =>
    Act.opt (s.can (canKey p c)).pend fun q =>
      Act.all [
        Act.shape p,
        Act.modQueue (globalQueue p q) (fun u => u.without 0),
        Act.modCan (canKey p c) (fun u => { u with pend := none, abort := false }),
        Act.canCount p c i,
        Act.checkShared p]

/-- The pending frame goes back to the head of its queue; its length returns to the queue's deficit (R403). -/
def Act.canRelease (p c : Nat) : Act :=
  Act.get fun s =>
    Act.opt (s.can (canKey p c)).pend fun q =>
      Act.seq
        (Act.modQueue (globalQueue p q) fun u =>
          { u with deficit := u.deficit + ((u.refs.head?.map fun r => r.fr.data.length).getD 0) })
        (Act.modCan (canKey p c) fun u => { u with pend := none })

/-- The controller enters a state; where that is link down, the pending frame is discarded (R406, R411). -/
def Act.canEnter (p c : Nat) (st : CanSt) : Act :=
  Act.seq
    (Act.when (st ≠ .integrating ∧ st ≠ .active ∧ st ≠ .passive) (Act.canDropPend p c 11))
    (Act.modCan (canKey p c) fun u => { u with st := st })

/-- An attempt of the pending frame failed: discarded in one-shot mode or on ABORT_TX, else it goes back to its queue, and
the scheduler is asked again (R403, R405). retry says that it will be sent again after an error. -/
def Act.canFailed (p c : Nat) (retry : Bool) : Act :=
  Act.get fun s =>
    let u := s.can (canKey p c)
    if u.pend.isNone then Act.skip
    else if s.flag (CAN.CFG p c) CAN.CFG.ONE_SHOT ∨ u.abort then Act.canDropPend p c 11
    else Act.seq (Act.when (retry = true) (Act.canCount p c 10)) (Act.canRelease p c)

/-- Set the error counters, offered where they change, and take the state changes that follow from them (R411, R439). -/
def Act.canCounters (p c tec recv : Nat) : Act :=
  Act.get fun s =>
    let u := s.can (canKey p c)
    let warn := decide ((u.tec < 96 ∧ 96 ≤ tec) ∨ (u.recv < 96 ∧ 96 ≤ recv))
    Act.all [
      Act.modCan (canKey p c) (fun u => { u with tec := tec, recv := min 255 recv }),
      Act.when (tec ≠ u.tec) (Act.offerMon p 0x041 (32 + c) tec),
      Act.when (min 255 recv ≠ u.recv) (Act.offerMon p 0x042 (32 + c) (min 255 recv : Nat)),
      Act.when (warn = true ∧ u.st = .active) (Act.canEvent p c 0),
      (if 255 < tec then
         Act.all [Act.canEnter p c .busOff, Act.canEvent p c 2, Act.canCount p c 18]
       else if u.st = .active ∧ (127 < tec ∨ 127 < recv) then
         Act.seq (Act.canEnter p c .passive) (Act.canEvent p c 1)
       else if u.st = .passive ∧ tec ≤ 127 ∧ recv ≤ 127 then
         Act.seq (Act.canEnter p c .active) (Act.canEvent p c 3)
       else Act.skip)]

/-- Does a controller take part in bus traffic? -/
def CanCtl.onBus (u : CanCtl) : Bool := u.st == .active || u.st == .passive

/-- The controller sees an FD frame with a recessive res bit while protocol exceptions are handled (R411). -/
def Act.canException (p c : Nat) : Act :=
  Act.all [
    Act.modCan (canKey p c) (fun u => { u with held := u.st, st := .integrating }),
    Act.canEvent p c 6,
    Act.canCount p c 20]

/-- Does a frame switch bit rate (R404, R409)? -/
def bfSwitches (b : List Byte) : Bool := bfFormat b == 2 || (bfFormat b == 1 && bfFlag b 5)

/-- TDC_MEASURE: a frame that switches bit rate has measured its loop delay; the secondary sample point of its data bits follows (R409,
R410, R439). -/
def Act.tdcMeasure (p c tdcv : Nat) (b : List Byte) : Act :=
  Act.get fun s =>
    let good := decide (s.fld (CAN.TDC p c) CAN.TDC.TDCF ≤ tdcv) && decide (tdcv ≤ 255)
    let u := s.can (canKey p c)
    let used := if good then tdcv else u.tdcv.getD (s.fld (CAN.TDC p c) CAN.TDC.TDC_INIT)
    let off := s.fld (CAN.TDC p c) (if bfFormat b = 2 then CAN.TDC.TDCO_XL else CAN.TDC.TDCO)
    if s.flag (CAN.TDC p c) CAN.TDC.TDC_EN = false ∨ bfSwitches b = false then Act.modCan (canKey p c) fun u => { u with ssp := none }
    else
      Act.seq
        (Act.modCan (canKey p c) fun u => { u with tdcv := if good then some tdcv else u.tdcv, ssp := some (used + off) })
        (if good then Act.offerMon p 0x043 (32 + c) tdcv else Act.seq (Act.canCount p c 19) (Act.canEvent p c 5))

/-- The pending frame's bytes. -/
def State.canPending (s : State) (p c : Nat) : Option (List Byte) :=
  (s.can (canKey p c)).pend.bind fun q => ((s.queue (globalQueue p q)).refs.head?).map fun r => r.fr.data

/-- Does the controller signal an error on the bus: not while it only listens or loops back, and not in the XL data phase with transceiver
mode switching (R388, R408)? -/
def State.canSignals (s : State) (p c phase : Nat) : Bool :=
  s.fld (CAN.CFG p c) CAN.CFG.MODE == 0 && s.canDrives p c && !(phase == 2 && s.flag (CAN.CFG p c) CAN.CFG.XL_TMS)

/-- CAN_ERROR: an error of a kind (1 bit, 2 stuff, 3 form, 4 acknowledge, 5 CRC) in a phase, while sending or receiving.
eights counts the further increments by 8 that ISO 11898-1 gives for dominant bits after the error flag, where one is sent; exempt says
that one of its exceptions leaves TEC unchanged; tdcv is the loop delay that the frame being sent had measured (R405, R408, R409, R411,
R430, log entry 132). -/
def canError (p c kind phase : Nat) (tx : Bool) (eights : Nat) (exempt : Bool) (tdcv : Option Nat) : Act :=
  Act.get fun s =>
    let u := s.can (canKey p c)
    let flag := s.canSignals p c phase
    let more := if flag then 8 * eights else 0
    Act.when (u.onBus = true ∧ 1 ≤ kind ∧ kind ≤ 5)
      (Act.all [
        Act.canCount p c (12 + kind),
        Act.setReg (CAN.LAST_ERR p c)
          (word [(CAN.LAST_ERR.KIND, kind), (CAN.LAST_ERR.PHASE, phase), (CAN.LAST_ERR.DIR, b2n tx)]),
        Act.setReg (CAN.LAST_ERR_TIME p c) (BitVec.ofNat 48 (s.time p)),
        Act.when (flag = true) (Act.emit (.canFlag p c (u.st == .active))),
        Act.when (tx = true) (Act.opt tdcv fun n => Act.opt (s.canPending p c) fun b => Act.when (bfSwitches b = true) (Act.tdcMeasure p c n b)),
        (if tx then Act.canCounters p c (u.tec + (if exempt then 0 else 8) + more) u.recv
         else Act.canCounters p c u.tec (u.recv + 1 + more)),
        Act.when (tx = true) (Act.canFailed p c true)])

/-! ## Address-claim tracking (R414 to R416) -/

/-- The key of tracker entry a of controller c of die p. -/
def trkKey (p c a : Nat) : Nat := (16 * p + c) * 256 + a

/-- The NAME in a tracker entry. -/
def State.trkName (s : State) (p c a : Nat) : Option Nat := (s.trk (trkKey p c a)).map (·.1)

/-- The addresses that hold NAME n. -/
def State.holders (s : State) (p c n : Nat) : List Nat := (List.range 254).filter fun a => s.trkName p c a == some n

/-- Empty every entry that holds NAME n, but for entry keep. -/
def Act.trkDrop (p c n keep : Nat) : Act :=
  Act.get fun s => Act.each ((s.holders p c n).filter (· != keep)) fun a => Act.setTrk (trkKey p c a) none

/-- Is a bus frame an address claim (R414)? -/
def isClaim (b : List Byte) : Bool :=
  let id := bfId b
  bfFlag b 7 && id / 2 ^ 24 % 4 == 0 && id / 2 ^ 16 % 256 == 0xEE && bfLen b == 8

/-- The tracker examines a frame on the bus: one of another node where it is CC, or one that this controller sent (R414, R415). -/
def Act.canTrack (p c : Nat) (own : Bool) (b : List Byte) : Act :=
  Act.get fun s =>
    let a := bfId b % 256
    let n := leNat (bfData b)
    let change := Act.canEvent p c 7
    let take := Act.seq (Act.trkDrop p c n a) (Act.setTrk (trkKey p c a) (some (n, 0)))
    if s.flag (CAN.AC_CFG p c) CAN.AC_CFG.EN = false ∨ (own = false ∧ bfFormat b ≠ 0) then Act.skip
    else if isClaim b then
      Act.seq (Act.canCount p c 22)
        (if a ≤ 253 then
           match s.trkName p c a with
           | none => Act.seq take change
           | some m =>
             if m = n then Act.setTrk (trkKey p c a) (some (n, 0))
             else
               Act.all [
                 Act.canCount p c 23,
                 Act.canEvent p c 8,
                 (if n < m then Act.seq take change
                  else Act.modTrk (trkKey p c a) fun e => e.map fun x => (x.1, 0))]
         else if a = 254 then Act.when (s.holders p c n ≠ []) (Act.seq (Act.trkDrop p c n 256) change)
         else Act.skip)
    else
      Act.when (bfFlag b 7 = true ∧ a ≤ 253)
        (Act.modTrk (trkKey p c a) fun e => e.map fun x => (x.1, 0))

/-- AC_AGE_SWEEP: once a second (R416). -/
def acAgeSweep (p c : Nat) : Act :=
  Act.get fun s =>
    let age := s.fld (CAN.AC_CFG p c) CAN.AC_CFG.AGE_S
    let old := (List.range 254).filter fun a =>
      age != 0 && (s.trk (trkKey p c a)).any fun x => Nat.ble age (x.2 + 1)
    Act.all [
      Act.each ((List.range 254).filter fun a => (s.trk (trkKey p c a)).isSome) (fun a =>
        Act.modTrk (trkKey p c a) fun e => if old.contains a then none else e.map fun x => (x.1, min 65535 (x.2 + 1))),
      Act.when (old ≠ []) (Act.canEvent p c 7)]

/-- Empty the whole tracker (R416). -/
def Act.trkEmpty (p c : Nat) : Act :=
  Act.get fun s => Act.each ((List.range 254).filter fun a => (s.trk (trkKey p c a)).isSome) fun a => Act.setTrk (trkKey p c a) none

/-- A write of CAN.AC_CMD (R433). -/
def acCmd (ag : Agent) (p c : Nat) (v : Word) (k : Code → Act) : Act :=
  let a := CAN.AC_CMD p c
  let i := fget v CAN.AC_CMD.INDEX
  Act.get fun s =>
    let put := fun idx res => Act.setReg a (word [(CAN.AC_CMD.INDEX, idx), (CAN.AC_CMD.OP, fget v CAN.AC_CMD.OP), (CAN.AC_CMD.RESULT, res)])
    if 253 < i then Act.badValue a ag k
    else
      match fget v CAN.AC_CMD.OP with
      | 0 => Act.seq (Act.store a v) (k .ok)
      | 1 =>
        let e := s.trk (trkKey p c i)
        let n := (e.map (·.1)).getD 0
        Act.all [
          put i 0,
          Act.setReg (CAN.AC_W0 p c) (BitVec.ofNat 48 n),
          Act.setReg (CAN.AC_W1 p c) (word [(CAN.AC_W1.NAME_H, n / 2 ^ 48), (CAN.AC_W1.VALID, b2n e.isSome),
            (CAN.AC_W1.IDLE_S, (e.map (·.2)).getD 0)]),
          k .ok]
      | 2 =>
        let n := (s.reg (CAN.AC_W0 p c)).toNat + 2 ^ 48 * s.fld (CAN.AC_W1 p c) CAN.AC_W1.NAME_H
        match (s.holders p c n).head? with
        | some x => Act.seq (put x 0) (k .ok)
        | none => Act.seq (put i 2) (k .ok)
      | _ => Act.all [put i 0, Act.trkEmpty p c, k .ok]

/-! ## Receiving (R394 to R401) -/

/-- Does a filter element match a frame (R398, R400)? -/
def filtMatches (w0 w1 : Word) (b : List Byte) : Bool :=
  let fmt := bfFormat b
  let xtd := fmt != 2 && bfFlag b 7
  let id := if fmt = 2 then bfId b % 2048 else bfId b
  let id1 := fget w0 ⟨19, 29⟩
  let id2 := fget w1 ⟨0, 29⟩
  bit w0 2 == xtd && bit w0 (3 + fmt) &&
    match fget w0 ⟨0, 2⟩ with
    | 1 => decide (id1 ≤ id ∧ id ≤ id2)
    | 2 => id == id1 || id == id2
    | 3 => id &&& id2 == id1 &&& id2
    | _ => false

/-- The filter's decision: the accepting element, 0xFFFF by default; none where the frame is rejected (R398). -/
def State.canFilter (s : State) (p c : Nat) (b : List Byte) : Option Nat :=
  let base := s.fld (CAN.FILT_CFG p c) CAN.FILT_CFG.BASE
  if bfFlag b 6 ∧ s.flag (CAN.CFG p c) CAN.CFG.REJECT_RTR then none
  else
    match (List.range (s.fld (CAN.FILT_CFG p c) CAN.FILT_CFG.COUNT)).find? fun i =>
        filtMatches (s.tbl p 0x4A (base + i) 0) (s.tbl p 0x4A (base + i) 1) b with
    | some i => if bit (s.tbl p 0x4A (base + i) 0) 6 then some i else none
    | none => if s.flag (CAN.CFG p c) CAN.CFG.DEFAULT_ACCEPT then some 0xFFFF else none

/-- Cells in the receive buffer of a bus facet. -/
def State.busCells (s : State) (p f : Nat) : Nat := ((s.buf (fk p f)).map fun r => r.fr.cells).sum

/-- A bus frame goes to the queue of CLS.BUS_DEST_n of its facet (R293, R337). -/
def Act.busOffer (p f : Nat) (b : List Byte) (ts : Nat) : Act :=
  Act.get fun s =>
    let d := s.fld (CLS.BUS_DEST p (f - 32)) CLS.BUS_DEST.QUEUE
    Act.intake p f
      { fr := { dest := d, cls := qClass d, flow := qFlow d, ts := ts, bus := true, data := b }
        bufCls := qClass d, looked := true, got := cellsOf b.length }

/-- A frame on the bus, or an echo of one sent, meets the filter and the receive buffer, whose occupancy is offered (R395 to R398,
R439). -/
def Act.canAccept (p c : Nat) (b : List Byte) (ts : Nat) : Act :=
  Act.get fun s =>
    match s.canFilter p c b with
    | none => Act.canCount p c 5
    | some i =>
      if 24 < s.busCells p (32 + c) + cellsOf b.length then Act.seq (Act.canCount p c 6) (Act.canEvent p c 4)
      else
        Act.all [
          Act.canCount p c 0,
          Act.countBy (CAN.CNT p c 1) b.length,
          Act.canCount p c (2 + bfFormat b),
          Act.busOffer p (32 + c) (bfSetFilter b i) ts,
          Act.get fun t => Act.offerMon p 0x044 (32 + c) (t.busCells p (32 + c))]

/-- REC after a frame is received without error (ISO 11898-1): one lower, and from above 127 to a value of 119 to 127 that
the standard leaves open (log entry 1). -/
def Act.recvGood (p c : Nat) : Act :=
  Act.get fun s =>
    let u := s.can (canKey p c)
    if u.recv ≤ 127 then Act.canCounters p c u.tec (u.recv - 1)
    else Act.freeBelow 9 fun n => Act.canCounters p c u.tec (119 + n)

/-- CAN_RECEIVE: a frame of another node ends on the bus, given as a bus frame; res says that it is an FD frame with a
recessive res bit; ago is the time in ns since the sample point of its start-of-frame bit (R394, R395, R411). A valid one is acknowledged,
but for a controller that only monitors the bus (R388, R395). Behind a transceiver in standby or off nothing arrives (R425). -/
def canReceive (p c : Nat) (b : List Byte) (res : Bool) (ago : Nat) : Act :=
  Act.get fun s =>
    let u := s.can (canKey p c)
    let fmt := bfFormat b
    let ts := (s.time p + 2 ^ 48 - ago % 2 ^ 48) % 2 ^ 48
    if u.onBus = false ∨ s.fld (CAN.CFG p c) CAN.CFG.MODE = 3 ∨ s.canHears p c = false then Act.skip
    else if res ∨ (fmt = 2 ∧ s.flag (CAN.CFG p c) CAN.CFG.XL_EN = false) then
      (if s.flag (CAN.CFG p c) CAN.CFG.PXHD then canError p c 3 0 false 0 false none else Act.canException p c)
    else if fmt = 1 ∧ s.flag (CAN.CFG p c) CAN.CFG.FD_EN = false then canError p c 3 0 false 0 false none
    else if 2 < fmt ∨ bfLenOk b = false then canError p c 3 0 false 0 false none
    else
      Act.all [
        Act.when (s.fld (CAN.CFG p c) CAN.CFG.MODE ≠ 1 ∧ s.canDrives p c = true) (Act.emit (.canAck p c)),
        Act.recvGood p c,
        Act.canTrack p c false b,
        Act.canAccept p c (bfSetFlag b 2 false) ts]

/-! ## Transmitting (R403 to R405, R409, R410) -/

/-- Does a frame at the head of a queue of controller c fail the checks of R404? -/
def State.canBadFormat (s : State) (p c : Nat) (b : List Byte) : Bool :=
  let fmt := bfFormat b
  decide (2 < fmt) || (fmt == 1 && !s.flag (CAN.CFG p c) CAN.CFG.FD_EN) ||
    (fmt == 2 && !s.flag (CAN.CFG p c) CAN.CFG.XL_EN) || !bfLenOk b ||
    (fmt == 0 && min 8 (bfDlc b) != bfLen b) || (bfFlag b 6 && fmt != 0)

/-- CAN_TRANSMIT_DONE: the pending frame of controller c is sent successfully; tdcv is the loop delay it measured, in mtq,
and ago the time in ns since the sample point of its start-of-frame bit (R397, R403, R409, R414, R439). A controller whose transceiver does
not drive the bus sends none (R425, R427). -/
def canTransmitDone (p c tdcv ago : Nat) : Act :=
  Act.get fun s =>
    let u := s.can (canKey p c)
    let ts := (s.time p + 2 ^ 48 - ago % 2 ^ 48) % 2 ^ 48
    Act.opt u.pend fun q => Act.opt (s.queue (globalQueue p q)).refs.head? fun r =>
      let loop := s.fld (CAN.CFG p c) CAN.CFG.MODE == 3
      if u.onBus = false ∨ (loop = false ∧ s.canDrives p c = false) then Act.skip
      else
        let b := bfAsSent r.fr.data (u.st == .passive)
        Act.all [
          Act.modCan (canKey p c) (fun u => { u with pend := none, abort := false }),
          Act.offerMon p 0x045 (32 + c) (s.sinceNs p (s.queue (globalQueue p q)).headAt / 1000 : Nat),
          Act.depart p q r,
          Act.tdcMeasure p c tdcv b,
          Act.when (loop = false)
            (Act.get fun t => Act.emit (.can p c (t.nominalBit p c) (t.dataPhase p c (bfFormat b) (bfSwitches b)) b)),
          Act.canCount p c 7,
          Act.countBy (CAN.CNT p c 8) b.length,
          Act.canCounters p c (u.tec - 1) u.recv,
          Act.canTrack p c true b,
          Act.when (loop = true) (Act.canAccept p c (bfSetFlag b 2 false) ts),
          Act.when (s.flag (CAN.CFG p c) CAN.CFG.ECHO = true) (Act.canAccept p c (bfSetFlag b 2 true) ts)]

/-- CAN_ARBITRATION_LOST (R405). -/
def canArbitrationLost (p c : Nat) : Act :=
  Act.get fun s =>
    let u := s.can (canKey p c)
    Act.when (u.pend.isSome = true ∧ u.onBus = true) (Act.seq (Act.canCount p c 9) (Act.canFailed p c false))

/-- The controller takes the frame that the scheduler gives it; one that fails the checks of R404 it discards, and takes the next. The last
argument bounds the discards. -/
def Act.canTake (p c : Nat) : Nat → Act
  | 0 => Act.skip
  | n + 1 =>
    Act.schedule p (32 + c) (fun _ v => v.front) fun q r =>
      Act.get fun s =>
        if s.canBadFormat p c r.fr.data then
          Act.all [
            Act.modQueue (globalQueue p q) (fun u => u.without 0),
            Act.canCount p c 12,
            Act.checkShared p,
            Act.canTake p c n]
        else Act.modCan (canKey p c) fun v => { v with pend := some q, abort := false }

/-- The frames in the egress queues of local facet f. -/
def State.framesAt (s : State) (p f : Nat) : Nat :=
  ((List.range 256).map fun i => (s.queue (globalQueue p (queueNo f 0 0 + i))).refs.length).sum

/-- EGRESS_SELECT at a CAN facet: the controller takes its next pending frame (R403, R404). A controller that only listens
takes none. -/
def Act.canSelect (p c : Nat) : Act :=
  Act.get fun s =>
    let u := s.can (canKey p c)
    let mode := s.fld (CAN.CFG p c) CAN.CFG.MODE
    if s.canUp p c = false ∨ u.pend.isSome ∨ mode = 1 ∨ mode = 2 ∨ s.slotWait (globalFacet p (32 + c)) then Act.skip
    else Act.canTake p c (s.framesAt p (32 + c))

/-! ## Commands and states (R401, R411, R412, R430) -/

/-- CAN_INTEGRATED: 11 consecutive recessive nominal bits end integration (R411). -/
def canIntegrated (p c : Nat) : Act :=
  Act.get fun s =>
    let u := s.can (canKey p c)
    Act.when (u.st = .integrating) (Act.canEnter p c u.held)

/-- CAN_RECOVERY_DONE: 128 occurrences of 11 consecutive recessive bits (R411). -/
def canRecoveryDone (p c : Nat) : Act :=
  Act.get fun s =>
    Act.when ((s.can (canKey p c)).st = .recovering)
      (Act.all [
        Act.canCounters p c 0 0,
        Act.canEnter p c .active,
        Act.canEvent p c 3])

/-- A write of 1 to CAN.CMD.RECOVER (R411, R412). -/
def canRecover (p c : Nat) : Act :=
  Act.modCan (canKey p c) fun u =>
    if u.st = .busOff then { u with st := .recovering }
    else if u.st = .sleep ∧ u.before = .busOff then { u with before := .recovering }
    else u

/-- A write of 1 to CAN.CMD.ABORT_TX: the pending frame goes at the end of its attempt (R405). -/
def canAbortTx (p c : Nat) : Act := Act.modCan (canKey p c) fun u => { u with abort := u.pend.isSome }

/-- A write of CAN.CMD (R430). -/
def canCmd (p c : Nat) (v : Word) (k : Code → Act) : Act :=
  Act.all [
    Act.when (fget v CAN.CMD.RECOVER = 1) (canRecover p c),
    Act.when (fget v CAN.CMD.ABORT_TX = 1) (canAbortTx p c),
    k .ok]

/-- The controller is enabled (R411). -/
def Act.canEnable (p c : Nat) : Act :=
  Act.modCan (canKey p c) fun u => { clockDead := u.clockDead, st := .integrating }

/-- The controller is disabled (R406, R411). -/
def Act.canOff (p c : Nat) : Act := Act.canEnter p c .off

/-- The external clock source is lost: an enabled controller goes to OFF (R392). -/
def Act.canClockLost (p c : Nat) : Act :=
  Act.get fun s =>
    let u := s.can (canKey p c)
    if u.st = .off then Act.modCan (canKey p c) fun u => { u with clockDead := true }
    else
      Act.all [
        Act.canDropPend p c 21,
        Act.countBy (CAN.CNT p c 21) (s.buf (fk p (32 + c))).length,
        Act.setBuf (fk p (32 + c)) [],
        Act.modCan (canKey p c) (fun u => { u with st := .off, clockDead := true }),
        Act.canEvent p c 9]

/-- Selective sleep begins (R411, R413). -/
def Act.canSleep (p c : Nat) : Act :=
  Act.get fun s =>
    let u := s.can (canKey p c)
    if u.st = .off ∨ u.st = .sleep then Act.skip
    else Act.seq (Act.canEnter p c .sleep) (Act.modCan (canKey p c) fun v => { v with before := u.st })

/-- Selective sleep ends: integration first, and then the remembered state (R411). -/
def Act.canWake (p c : Nat) : Act :=
  Act.modCan (canKey p c) fun u =>
    if u.st ≠ .sleep then u
    else if u.before = .active ∨ u.before = .passive ∨ u.before = .busOff ∨ u.before = .recovering then
      { u with st := .integrating, held := u.before }
    else { u with st := .integrating }

/-- Does a filter element break R400? -/
def filtBad (w0 w1 : Word) : Bool :=
  fget w0 ⟨7, 12⟩ != 0 || fget w1 ⟨29, 19⟩ != 0 ||
    (!bit w0 2 && (decide (2048 ≤ fget w0 ⟨19, 29⟩) || decide (2048 ≤ fget w1 ⟨0, 29⟩)))

/-- A write of CAN.FILT_CMD (R401, R432). -/
def filtCmd (ag : Agent) (p c : Nat) (v : Word) (k : Code → Act) : Act :=
  let a := CAN.FILT_CMD p c
  let i := fget v CAN.FILT_CMD.INDEX
  Act.get fun s =>
    let e := s.fld (CAN.FILT_CFG p c) CAN.FILT_CFG.BASE + i
    let op := fget v CAN.FILT_CMD.OP
    let w0 := s.reg (CAN.FILT_W0 p c)
    let w1 := s.reg (CAN.FILT_W1 p c)
    if op = 3 ∨ s.fld (CAN.FILT_CFG p c) CAN.FILT_CFG.COUNT ≤ i then
      Act.seq (Act.setFld a CAN.FILT_CMD.RESULT 2) (Act.badValue a ag k)
    else
      match op with
      | 0 => Act.seq (Act.store a v) (k .ok)
      | 1 =>
        Act.all [Act.setReg a (fset v CAN.FILT_CMD.RESULT 0), Act.setReg (CAN.FILT_W0 p c) (s.tbl p 0x4A e 0),
          Act.setReg (CAN.FILT_W1 p c) (s.tbl p 0x4A e 1), k .ok]
      | _ =>
        if filtBad w0 w1 then Act.seq (Act.setReg a (fset v CAN.FILT_CMD.RESULT 2)) (Act.badValue a ag k)
        else Act.all [Act.setReg a (fset v CAN.FILT_CMD.RESULT 0), Act.setTblWords p 0x4A e [w0, w1], k .ok]

end Sys2Proof.Machine
end

