-- ==== Sys2Proof/Machine/Msec.lean ====
section
/-! DEFINITION. MACsec at the fast-lane and multigig facets (R526 to R530, R546, R547), in the frame format of
IEEE 802.1AE-2018 (log entry 8). -/

namespace Sys2Proof.Machine

/-- The place of SA index i among the table words of its die (R547): the model's own table number. -/
def saTbl : Nat := 0xE0

/-- The place of SC index i among the table words of its die (R547): the model's own table number. -/
def scTbl : Nat := 0xE1

/-- Is SA i of die p in use (R547)? -/
def State.saValid (s : State) (p i : Nat) : Bool := bit (s.tbl p saTbl i 0) 10

/-- The key slot of SA i. -/
def State.saSlot (s : State) (p i : Nat) : Nat := fget (s.tbl p saTbl i 0) ⟨0, 10⟩

/-- NEXT_PN of SA i: 64 bits. -/
def State.saPn (s : State) (p i : Nat) : Nat := (s.tbl p saTbl i 1).toNat + 2 ^ 48 * fget (s.tbl p saTbl i 2) ⟨0, 16⟩

/-- The SSCI of SA i. -/
def State.saSsci (s : State) (p i : Nat) : Nat := fget (s.tbl p saTbl i 0) ⟨16, 32⟩

/-- The salt of SA i: 96 bits. -/
def State.saSalt (s : State) (p i : Nat) : Nat := (s.tbl p saTbl i 3).toNat * 2 ^ 48 + (s.tbl p saTbl i 4).toNat

/-- Set NEXT_PN of SA i, modulo 2^64. -/
def Act.setPn (p i n : Nat) : Act :=
  Act.seq (Act.setTbl (tblKey p saTbl i 1) (BitVec.ofNat 48 n))
    (Act.setTbl (tblKey p saTbl i 2) (BitVec.ofNat 48 (n / 2 ^ 48 % 2 ^ 16)))

/-- Is SC i in use (R547)? -/
def State.scValid (s : State) (p i : Nat) : Bool := bit (s.tbl p scTbl i 1) 16

/-- The SCI of SC i: 64 bits. -/
def State.scSci (s : State) (p i : Nat) : Nat := (s.tbl p scTbl i 0).toNat + 2 ^ 48 * fget (s.tbl p scTbl i 1) ⟨0, 16⟩

/-- Does facet f of die p run MACsec (R526, R527)? -/
def State.macsec (s : State) (p f : Nat) : Bool := decide (f ≤ 11) && s.flag (MSEC.PORT p f) MSEC.PORT.EN

/-- Is the suite of facet f an XPN suite (R546)? -/
def State.xpn (s : State) (p f : Nat) : Bool := decide (2 ≤ s.fld (MSEC.PORT p f) MSEC.PORT.SUITE)

/-- The key length that the suite of facet f needs (R528). -/
def State.suiteKlen (s : State) (p f : Nat) : Nat := s.fld (MSEC.PORT p f) MSEC.PORT.SUITE % 2

/-- The GCM IV of a packet number: SCI and PN, or for XPN the salt with SSCI and PN added. -/
def State.macIv (s : State) (p f i sci pn : Nat) : List Nat :=
  if s.xpn p f then bytesOf 12 (s.saSalt p i ^^^ (s.saSsci p i * 2 ^ 64 + pn)) else bytesOf 8 sci ++ bytesOf 4 pn

/-- Is a frame of bytes EAPOL (R526): EtherType 0x888E after its source address or after one tag? -/
def isEapol (b : List Byte) : Bool :=
  bytesAt b 12 2 == 0x888E || (bytesAt b 12 2 == 0x8100 && bytesAt b 16 2 == 0x888E)

/-- Record an event of MSEC with the facet, SC and AN it concerns (R547). -/
def Act.msecEvent (p i f sc an : Nat) : Act :=
  Act.seq (Act.event (MSEC.EVT p) i)
    (Act.setFlds (MSEC.LAST p) [(MSEC.LAST.FACET, f), (MSEC.LAST.SC, sc), (MSEC.LAST.AN, an)])

/-- Count MSEC counter i of facet f (R547). -/
def Act.msecCount (p f i : Nat) : Act := Act.count (MSEC.CNT p (16 * f + i))

/-- A datapath parity fault in a unit (R519, R544): unit 0 job, 1 flow, 2 MACsec, 3 sealing. -/
def Act.datapathFault (p unit index : Nat) : Act :=
  Act.all [
    Act.event (CIPH.EVT p) 0,
    Act.setFlds (CIPH.LAST p) [(CIPH.LAST.UNIT, unit), (CIPH.LAST.INDEX, index)],
    Act.count (CIPH.CNT p 6)]

/-- What MACsec makes of a frame to send. -/
inductive MacOut where
  | send (body : List Byte)
  | drop
  | abort
  deriving DecidableEq, Repr

/-- The short-length byte of a SecTAG: the secure data's length where it is below 48. -/
def shortLen (n : Nat) : Nat := if n < 48 then n else 0

/-- Is SA i, whose next packet number is pn, out of packet numbers (R529)? A written NEXT_PN of 0 is no packet number. -/
def pnSpent (xpn : Bool) (pn : Nat) : Bool := pn == 0 || (!xpn && decide (2 ^ 32 ≤ pn))

/-- The SCI under which facet f sends (R546): ETH.MATCH_0 and PORT_ID. -/
def State.txSci (s : State) (p f : Nat) : Nat :=
  (s.reg (ETH.MATCH p f 0)).toNat * 2 ^ 16 + s.fld (MSEC.PORT p f) MSEC.PORT.PORT_ID

/-- The protected form of a frame under SA i with packet number pn: addresses, SecTAG, secure data, ICV. -/
def State.macProtect (s : State) (p f i pn : Nat) (key : List Nat) (body : List Byte) : List Byte :=
  let conf := s.flag (MSEC.PORT p f) MSEC.PORT.CONFIDENTIAL
  let incl := s.flag (MSEC.PORT p f) MSEC.PORT.INCLUDE_SCI
  let sci := s.txSci p f
  let data := nats (body.drop 12)
  let tci := (if incl then 0x20 else 0) + (if conf then 0x0C else 0) + i % 4
  let tag := [0x88, 0xE5, tci, shortLen data.length] ++ bytesOf 4 (pn % 2 ^ 32) ++ (if incl then bytesOf 8 sci else [])
  let hd := nats (body.take 12) ++ tag
  let iv := s.macIv p f i sci pn
  if conf then
    let ct := gcmStream key iv data
    octets (hd ++ ct ++ gcmTag key iv hd ct)
  else octets (hd ++ data ++ gcmTag key iv (hd ++ data) [])

/-- MACSEC_TRANSMIT: protect a frame, given without its FCS, under the transmit SA (R526 to R529). fault says that the
unit's parity check fails on it (R519). -/
def Act.macsecTransmit (p f : Nat) (fault : Bool) (body : List Byte) (k : MacOut → Act) : Act :=
  Act.get fun s =>
    if s.macsec p f = false ∨ isEapol body then k (.send body)
    else if s.enabled p 0x6A = false then k .drop
    else if s.flag (MSEC.PORT p f) MSEC.PORT.PROTECT = false then k (.send body)
    else
      let an := s.fld (MSEC.TXCTL p f) MSEC.TXCTL.TX_AN
      let i := 36 * f + an
      let pn := s.saPn p i
      if s.saValid p i = false then Act.seq (Act.msecCount p f 3) (k .drop)
      else if pnSpent (s.xpn p f) pn then
        Act.all [Act.msecEvent p 1 f 0 an, Act.msecCount p f 2, k .drop]
      else
        Act.useKey p (s.saSlot p i) 2 (some 0) (some (s.suiteKlen p f)) none 2 fun u =>
          match u with
          | .ok key =>
            if fault then Act.seq (Act.datapathFault p 2 f) (k .abort)
            else
              let warn := if s.xpn p f then 2 ^ 63 else s.fld (MSEC.PN_WARN p) MSEC.PN_WARN.THRESH
              Act.all [
                Act.setPn p i (pn + 1),
                Act.modKslot (sk p (s.saSlot p i)) (fun v => { v with mark := max v.mark (pn + 1) }),
                Act.when (pn ≤ warn ∧ warn < pn + 1) (Act.msecEvent p 0 f 0 an),
                Act.msecCount p f (if s.flag (MSEC.PORT p f) MSEC.PORT.CONFIDENTIAL then 1 else 0),
                k (.send (s.macProtect p f i pn key body))]
          | _ => Act.seq (Act.msecCount p f 3) (k .drop)

/-- The packet number that the 32 bits of a received SecTAG stand for (XPN recovers the upper 32 from NEXT_PN). -/
def pnRecover (xpn : Bool) (next low : Nat) : Nat :=
  if xpn then
    let hi := next / 2 ^ 32
    if low < 2 ^ 31 ∧ 2 ^ 31 ≤ next % 2 ^ 32 then (hi + 1) * 2 ^ 32 + low else hi * 2 ^ 32 + low
  else low

/-- The receive SC of facet f that a frame names: by its SCI where the frame gives one, else the one receive SC in use. -/
def State.rxSc (s : State) (p f : Nat) (sci : Option Nat) : Option Nat :=
  let live := (List.range 8).map (· + 1) |>.filter fun k => s.scValid p (9 * f + k)
  match sci with
  | some x => live.find? fun k => s.scSci p (9 * f + k) == x
  | none => match live with | [k] => some k | _ => none

/-- Is a SecTAG malformed: version 1, SC with ES or SCB, E without C or C without E, a short length that the frame does
not have, a packet number of 0 for other than XPN, or too few bytes? -/
def badSecTag (xpn : Bool) (b : List Byte) : Bool :=
  let tci := bytesAt b 14 1
  let sl := bytesAt b 15 1
  let hd := if tci / 32 % 2 = 1 then 28 else 20
  decide (b.length < hd + 16) || tci / 128 == 1 || (tci / 32 % 2 == 1 && tci / 16 % 2 + tci / 64 % 2 != 0)
    || tci / 8 % 2 != tci / 4 % 2 || decide (48 ≤ sl) || decide (b.length < hd + sl + 16)
    || (!xpn && bytesAt b 16 4 == 0)

/-- MACSEC_RECEIVE: validate a received frame, given without its FCS (R527, R530); none where it is discarded. fault says
that the unit's parity check fails on it (R519). -/
def Act.macsecReceive (p f : Nat) (fault : Bool) (body : List Byte) (k : Option (List Byte) → Act) : Act :=
  Act.get fun s =>
    let mode := s.fld (MSEC.PORT p f) MSEC.PORT.VALIDATE
    let notOk := k (if mode = 2 then none else some body)
    if s.macsec p f = false ∨ isEapol body then k (some body)
    else if s.enabled p 0x6A = false then k none
    else if mode = 0 then Act.seq (Act.msecCount p f 5) (k (some body))
    else if bytesAt body 12 2 ≠ 0x88E5 then Act.seq (Act.msecCount p f 8) notOk
    else if badSecTag (s.xpn p f) body then Act.seq (Act.msecCount p f 9) notOk
    else
      let tci := bytesAt body 14 1
      let hasSci := tci / 32 % 2 == 1
      let hdLen := if hasSci then 28 else 20
      let sci := if hasSci then some (bytesAt body 20 8)
        else if tci / 64 % 2 = 1 then some (bytesAt body 6 6 * 2 ^ 16 + 1) else none
      match s.rxSc p f sci with
      | none => Act.seq (Act.msecCount p f 10) notOk
      | some sc =>
        let an := tci % 4
        let i := 36 * f + 4 * sc + an
        if s.saValid p i = false then Act.seq (Act.msecCount p f 10) notOk
        else
          Act.useKey p (s.saSlot p i) 2 (some 1) (some (s.suiteKlen p f)) none 2 fun u =>
            match u with
            | .ok key =>
              if fault then Act.all [Act.datapathFault p 2 f, Act.msecCount p f 7, k none]
              else
                let next := s.saPn p i
                let pn := pnRecover (s.xpn p f) next (bytesAt body 16 4)
                let iv := s.macIv p f i (s.scSci p (9 * f + sc)) pn
                let sl := bytesAt body 15 1
                let n := if sl = 0 then body.length - hdLen - 16 else sl
                let hd := nats (body.take hdLen)
                let data := nats ((body.drop hdLen).take n)
                let icv := nats ((body.drop (hdLen + n)).take 16)
                let conf := tci / 8 % 2 == 1
                let good := icv == (if conf then gcmTag key iv hd data else gcmTag key iv (hd ++ data) [])
                if good = false then Act.all [Act.msecCount p f 7, Act.msecEvent p 2 f sc an, notOk]
                else
                  let plain := octets (hd.take 12 ++ (if conf then gcmStream key iv data else data))
                  let late := s.flag (MSEC.PORT p f) MSEC.PORT.REPLAY_PROTECT &&
                    decide (pn + s.fld (MSEC.PORT p f) MSEC.PORT.REPLAY_WINDOW < next)
                  Act.all [
                    Act.setPn p i (min (2 ^ 64 - 1) (max next (pn + 1))),
                    Act.msecCount p f (if late then 6 else 4),
                    k (if late && mode == 2 then none else some plain)]
            | _ => Act.seq (Act.msecCount p f 10) notOk

/-! ## MSEC.SA_CMD (R547) -/

/-- Does a write of SA i break R528, or the PN mark and the one transmit SA of a slot (R547)? The words are those of
SA_W0 to SA_W4. -/
def State.saRefused (s : State) (p i : Nat) (w : List Word) : Bool :=
  let w0 := w.getD 0 0
  let slot := fget w0 ⟨0, 10⟩
  let tx := i % 36 < 4
  let pn := (w.getD 1 0).toNat + 2 ^ 48 * fget (w.getD 2 0) ⟨0, 16⟩
  let f := i / 36
  bit w0 10 &&
    (!(s.polOk p slot 2 (some (if tx then 0 else 1)) (some (s.suiteKlen p f)) none) ||
      (decide tx &&
        (decide (pn < (s.kslot (sk p slot)).mark) ||
          ((List.range 12).any fun g => (List.range 4).any fun a =>
            36 * g + a != i && s.saValid p (36 * g + a) && s.saSlot p (36 * g + a) == slot))))

/-- A write of MSEC.SA_CMD (R547). -/
def saCmd (ag : Agent) (p : Nat) (v : Word) (k : Code → Act) : Act :=
  let a := MSEC.SA_CMD p
  let i := fget v MSEC.SA_CMD.INDEX
  let sc := fget v MSEC.SA_CMD.SC = 1
  let regs := [MSEC.SA_W0 p, MSEC.SA_W1 p, MSEC.SA_W2 p, MSEC.SA_W3 p, MSEC.SA_W4 p]
  Act.get fun s =>
    let store := Act.setReg a (fset v MSEC.SA_CMD.RESULT 0)
    let refuse := Act.all [Act.setReg a (fset v MSEC.SA_CMD.RESULT 2), Act.blkErr a 0 ag, k .badValue]
    match fget v MSEC.SA_CMD.OP with
    | 0 => Act.seq (Act.setReg a (fset v MSEC.SA_CMD.RESULT (s.fld a MSEC.SA_CMD.RESULT))) (k .ok)
    | 1 =>
      if (if sc then 108 else 432) ≤ i then refuse
      else if sc then
        Act.all [store, Act.setReg (MSEC.SA_W0 p) (s.tbl p scTbl i 0), Act.setReg (MSEC.SA_W1 p) (s.tbl p scTbl i 1), k .ok]
      else
        Act.all [store, Act.each (List.range 5) fun j => Act.setReg (regs.getD j 0) (s.tbl p saTbl i j), k .ok]
    | 2 =>
      let w := regs.map s.reg
      if (if sc then 108 else 432) ≤ i then refuse
      else if sc then
        Act.all [store, Act.setTblWords p scTbl i [w.getD 0 0, w.getD 1 0 &&& 0x1FFFF], k .ok]
      else if s.saRefused p i w then refuse
      else Act.all [store, Act.setTblWords p saTbl i [w.getD 0 0 &&& 0xFFFFFFFF07FF, w.getD 1 0, w.getD 2 0 &&& 0xFFFF,
        w.getD 3 0, w.getD 4 0], k .ok]
    | _ => Act.badValue a ag k

end Sys2Proof.Machine
end

