-- ==== Sys2Proof/Machine/Seal.lean ====
section
/-! DEFINITION. Sealed PDUs: profiles, freshness, sealing and verifying (R531 to R538, R548, R549). -/

namespace Sys2Proof.Machine

/-- The key of seal profile i of die p. -/
def pk (p i : Nat) : Nat := 4096 * p + i

/-- A word of seal profile i (R548): table 0x53. -/
def State.prof (s : State) (p i w : Nat) : Word := s.tbl p 0x53 i w

/-- EPOCH_BITS of a profile. -/
def State.profE (s : State) (p i : Nat) : Nat := fget (s.prof p i 0) SEAL.PROF_W0.EPOCH_BITS

/-- CTR_BITS of a profile. -/
def State.profC (s : State) (p i : Nat) : Nat := fget (s.prof p i 0) SEAL.PROF_W0.CTR_BITS

/-- TAG_BYTES of a profile. -/
def State.profTag (s : State) (p i : Nat) : Nat := fget (s.prof p i 0) SEAL.PROF_W0.TAG_BYTES

/-- Is a profile in use in direction d: 0 transmit, 1 receive (R548)? -/
def State.profUse (s : State) (p i d : Nat) : Bool :=
  bit (s.prof p i 0) 11 && fget (s.prof p i 0) SEAL.PROF_W0.DIR == d

/-- T of R531: the bytes of a profile's trailer. -/
def State.trailer (s : State) (p i : Nat) : Nat := (s.profE p i + s.profC p i) / 8 + s.profTag p i

/-- The boot epoch of this start (R123, R135). -/
def State.epoch (s : State) : Nat := s.fld (IMG.EPOCH 0) IMG.EPOCH.EPOCH

/-- EPOCH_OK (R79, R90). -/
def State.epochOk (s : State) : Bool := s.flag (RSTC.START 0) RSTC.START.EPOCH_OK

/-- The CMAC message of R532: kind 0 for a sealed PDU, 1 for a beacon. -/
def sealMessage (dataId kind f : Nat) (payload : List Byte) : List Nat :=
  bytesOf 4 dataId ++ [kind] ++ nats payload ++ bytesOf 6 f

/-- The trailer bits that a freshness value leaves in a sealed PDU (R531). -/
def sealTrailer (e c f : Nat) : List Nat :=
  bytesOf ((e + c) / 8) ((f / 2 ^ 32 % 2 ^ e) * 2 ^ c + f % 2 ^ c)

/-- Record an event of SEAL with its profile (R549). -/
def Act.sealEvent (p i prof : Nat) : Act :=
  Act.seq (Act.event (SEAL.EVT p) i) (Act.setFld (SEAL.LAST p) SEAL.LAST.PROFILE prof)

/-- The sealing unit, as the unit whose parity check fails (R519, R544). -/
def sealUnit (fault : Bool) : Option (Nat × Nat) := if fault then some (3, 0) else none

/-- What sealing comes to: the freshness value and the tag. -/
abbrev Sealed := Option (Nat × List Nat)

/-- Take the next freshness value of transmit profile i and compute the tag over a payload (kind 0) or as a beacon
(kind 1) (R532, R534). fault names the unit and index whose parity check fails, if one does (R519). -/
def Act.sealTag (p i kind use user : Nat) (fault : Option (Nat × Nat)) (payload : List Byte) (k : Sealed → Act) : Act :=
  Act.get fun s =>
    let u := s.fresh (pk p i)
    if s.enabled p 0x6B = false ∨ s.profUse p i 0 = false ∨ s.epochOk = false then k none
    else if 2 ^ 32 - 1 ≤ u.ctr then Act.all [Act.sealEvent p 1 i, Act.count (SEAL.CNT p 6), k none]
    else
      Act.useKey p (fget (s.prof p i 0) SEAL.PROF_W0.SLOT) use (some 0) none none user fun r =>
        match r with
        | .ok key =>
          match fault with
          | some u => Act.seq (Act.datapathFault p u.1 u.2) (k none)
          | none =>
            let f := s.epoch * 2 ^ 32 + u.ctr
            let tag := (cmac key (sealMessage (fget (s.prof p i 1) SEAL.PROF_W1.DATA_ID) kind f payload)).take (s.profTag p i)
            Act.all [
              Act.setFresh (pk p i) { u with ctr := u.ctr + 1 },
              Act.when (u.ctr + 1 = 2 ^ 32 - 2 ^ 20) (Act.sealEvent p 0 i),
              k (some (f, tag))]
        | _ => k none

/-- SEAL_PDU: the data bytes of a PDU of length D with its last T bytes replaced by the trailer (R531, R534); none where
nothing may be sealed. -/
def Act.sealPdu (p i use user : Nat) (fault : Option (Nat × Nat)) (data : List Byte) (k : Option (List Byte) → Act) : Act :=
  Act.get fun s =>
    let t := s.trailer p i
    if data.length < t then k none
    else
      let payload := data.take (data.length - t)
      Act.sealTag p i 0 use user fault payload fun r =>
        match r with
        | none => k none
        | some (f, tag) =>
          Act.seq (Act.count (SEAL.CNT p 0))
            (k (some (payload ++ octets (sealTrailer (s.profE p i) (s.profC p i) f ++ tag))))

/-- What a verification comes to (R536, R537, R562): accepted with its freshness value, failed, a replay, without a
reference, or a copy of an accepted PDU: a duplicate or late. -/
inductive Verified where
  | accept (f : Nat)
  | fail
  | replay (f : Nat)
  | noRef
  | duplicate
  | late
  deriving DecidableEq, Repr

/-- The candidate freshness value of R536 from the transmitted bits e and c; none without a reference. -/
def candidateF (eb cb e c : Nat) (ref : Option Nat) : Option Nat :=
  if eb = 16 ∧ cb = 32 then some (e * 2 ^ 32 + c)
  else
    match ref with
    | none => none
    | some r =>
      let re := r / 2 ^ 32
      let rc := r % 2 ^ 32
      if eb = 0 ∨ e = re % 2 ^ eb then
        let n := rc - rc % 2 ^ cb + c
        some ((re * 2 ^ 32 + (if n ≤ rc then n + 2 ^ cb else n)) % 2 ^ 48)
      else
        let d := (e + 2 ^ eb - re % 2 ^ eb) % 2 ^ eb
        some ((re + d) * 2 ^ 32 % 2 ^ 48 + c)

/-- F of R562: the greatest value not above the reference r whose epoch and counter end in the transmitted bits e and c. -/
def dedupF (eb cb e c r : Nat) : Option Nat :=
  let re := r / 2 ^ 32
  let rc := r % 2 ^ 32
  if re % 2 ^ eb = e ∧ c ≤ rc then some (re * 2 ^ 32 + (rc - (rc - c) % 2 ^ cb))
  else
    let d := (re + 2 ^ eb - 1 - e) % 2 ^ eb + 1
    if re < d then none else some ((re - d) * 2 ^ 32 + (2 ^ 32 - 2 ^ cb + c))

/-- The WINDOW of the lowest valid deduplication entry that names receive profile i (R562, R578). -/
def State.dedupWindow (s : State) (p i : Nat) : Option Nat :=
  ((List.range 256).find? fun k => bit (s.tbl p 0x54 k 0) 18 && fget (s.tbl p 0x54 k 0) ⟨0, 12⟩ == i).map fun k =>
    fget (s.tbl p 0x54 k 0) ⟨12, 6⟩

/-- SEAL_DEDUP: is a frame that fails or is a replay a copy of an accepted one (R562)? f is the value with which it is
tried again, tagOk whether its tag matches with that value; otherwise the outcome is v. -/
def State.dedup (s : State) (p i : Nat) (f : Option Nat) (tagOk : Nat → Bool) (v : Verified) : Verified :=
  match s.dedupWindow p i, (s.fresh (pk p i)).ref, f with
  | some w, some r, some f =>
    if f ≤ r ∧ r - f < w ∧ tagOk f = true then (if (s.fresh (pk p i)).seen.contains f then .duplicate else .late) else v
  | _, _, _ => v

/-- SEAL_VERIFY: verify received data under receive profile i, as a beacon or as a sealed PDU (R536, R537, R562). The
reference moves only when the caller accepts (R537). A key that cannot be used makes the frame fail. -/
def Act.verifySeal (p i use user : Nat) (beacon : Bool) (fault : Option (Nat × Nat)) (data : List Byte) (k : Verified → Act) : Act :=
  Act.get fun s =>
    let u := s.fresh (pk p i)
    let t := s.trailer p i
    let n := s.profTag p i
    if s.enabled p 0x6B = false ∨ s.profUse p i 1 = false ∨ data.length < (if beacon then 6 + n else t) then k .fail
    else
      let eb := s.profE p i
      let cb := s.profC p i
      let payload := if beacon then [] else data.take (data.length - t)
      let raw := bytesAt data (data.length - t) ((eb + cb) / 8)
      let e := raw / 2 ^ cb
      let c := raw % 2 ^ cb
      let full := beacon || (eb == 16 && cb == 32)
      let f := if beacon then some (bytesAt data 0 6) else candidateF eb cb e c u.ref
      match f with
      | none => Act.all [Act.count (SEAL.CNT p 4), Act.sealEvent p 3 i, k .noRef]
      | some f =>
        Act.useKey p (fget (s.prof p i 0) SEAL.PROF_W0.SLOT) use (some 1) none none user fun r =>
          match r with
          | .ok key =>
            match fault with
            | some u => Act.seq (Act.datapathFault p u.1 u.2) (k .fail)
            | none =>
              let got := nats (if beacon then (data.drop 6).take n else data.drop (data.length - n))
              let tagOk := fun x =>
                (cmac key (sealMessage (fget (s.prof p i 1) SEAL.PROF_W1.DATA_ID) (if beacon then 1 else 0) x payload)).take n
                  == got
              let again := if full then some f else u.ref.bind (dedupF eb cb e c)
              if tagOk f = false then k (s.dedup p i again tagOk .fail)
              else if full = true ∧ u.ref.any (fun r => decide (f ≤ r)) = true then k (s.dedup p i again tagOk (.replay f))
              else k (.accept f)
          | _ => k .fail

/-- A replay is discarded (R537). -/
def Act.sealReplay (p i : Nat) : Act := Act.seq (Act.count (SEAL.CNT p 5)) (Act.sealEvent p 2 i)

/-- A verified frame has been accepted: its freshness value becomes the reference, and sets its bit of the history of a
profile that a deduplication entry names (R537, R562). -/
def Act.sealAccept (p i : Nat) (beacon : Bool) (f : Nat) : Act :=
  Act.get fun s =>
    Act.seq
      (Act.modFresh (pk p i) fun u =>
        { u with
          ref := some f
          seen := if (s.dedupWindow p i).isSome then f :: u.seen.filter (fun x => decide (f - x < 32)) else u.seen })
      (Act.seq (Act.count (SEAL.CNT p (if beacon then 3 else 2)))
        (Act.opt (s.fresh (pk p i)).ref fun r => Act.offerMon p 0x063 i ((f : Int) - (r : Int))))

/-! ## SEAL.PROF_CMD and SEAL.FV_CMD (R548, R549) -/

/-- Does a profile in three words break the ranges of R548 or the slot rule of R533 on die p? -/
def State.profRefused (s : State) (p : Nat) (w0 w1 w2 : Word) : Bool :=
  let e := fget w0 SEAL.PROF_W0.EPOCH_BITS
  let c := fget w0 SEAL.PROF_W0.CTR_BITS
  let t := fget w0 SEAL.PROF_W0.TAG_BYTES
  let slot := fget w0 SEAL.PROF_W0.SLOT
  let d := fget w0 SEAL.PROF_W0.DIR
  let dest := fget w2 SEAL.PROF_W2.BEACON_DEST
  bit w0 11 &&
    (decide (t < 3) || decide (8 < t) || decide (16 < e) || decide (c < 8) || decide (32 < c) || (e + c) % 8 != 0 ||
      slot == 0 || !(s.polBit p slot KEYS.POL.USE (3 + d)) || !(s.polBit p slot KEYS.POL.DIR d) ||
      (bit w0 27 && (fget w1 SEAL.PROF_W1.BEACON_MS == 0 || fget w2 SEAL.PROF_W2.BEACON_FMT == 0 ||
        !((decide (32 ≤ qFacet dest) && decide (qFacet dest ≤ 47)) || qFacet dest == 60 ||
          (qFacet dest == 63 && qFlow dest != 0)))))

/-- A write of SEAL.PROF_CMD (R548). -/
def profCmd (ag : Agent) (p : Nat) (v : Word) (k : Code → Act) : Act :=
  let a := SEAL.PROF_CMD p
  let i := fget v SEAL.PROF_CMD.INDEX
  Act.get fun s =>
    let w := [s.reg (SEAL.PROF_W0 p), s.reg (SEAL.PROF_W1 p), s.reg (SEAL.PROF_W2 p)]
    match fget v SEAL.PROF_CMD.OP with
    | 0 => Act.seq (Act.store a v) (k .ok)
    | 1 =>
      Act.all [Act.setReg a (fset v SEAL.PROF_CMD.RESULT 0), Act.setReg (SEAL.PROF_W0 p) (s.prof p i 0),
        Act.setReg (SEAL.PROF_W1 p) (s.prof p i 1), Act.setReg (SEAL.PROF_W2 p) (s.prof p i 2), k .ok]
    | 2 =>
      if s.profRefused p (w.getD 0 0) (w.getD 1 0) (w.getD 2 0) then
        Act.all [Act.setReg a (fset v SEAL.PROF_CMD.RESULT 2), Act.badValue a ag k]
      else
        Act.all [Act.setReg a (fset v SEAL.PROF_CMD.RESULT 0), Act.setTblWords p 0x53 i w,
          Act.modFresh (pk p i) (fun u => { u with ref := none, seen := [] }), k .ok]
    | _ => Act.badValue a ag k

/-- A write of SEAL.FV_CMD (R549). -/
def fvCmd (ag : Agent) (p : Nat) (v : Word) (k : Code → Act) : Act :=
  let a := SEAL.FV_CMD p
  let i := fget v SEAL.FV_CMD.INDEX
  Act.get fun s =>
    let u := s.fresh (pk p i)
    let rx := fget (s.prof p i 0) SEAL.PROF_W0.DIR = 1
    let have' := fun (x : Bool) (w : Word) => fset w SEAL.FV_CMD.HAVE_REF (b2n x)
    match fget v SEAL.FV_CMD.OP with
    | 0 => Act.seq (Act.store a v) (k .ok)
    | 1 =>
      Act.all [Act.setReg a (have' (rx && u.ref.isSome) (fset v SEAL.FV_CMD.RESULT 0)),
        Act.setReg (SEAL.FV_W p)
          (BitVec.ofNat 48 (if rx then u.ref.getD 0 else s.epoch * 2 ^ 32 + u.ctr)), k .ok]
    | 2 =>
      if rx then
        Act.all [Act.setReg a (have' false (fset v SEAL.FV_CMD.RESULT 0)),
          Act.modFresh (pk p i) (fun u => { u with ref := none, seen := [] }), k .ok]
      else Act.all [Act.setReg a (fset v SEAL.FV_CMD.RESULT 2), Act.badValue a ag k]
    | _ => Act.badValue a ag k

end Sys2Proof.Machine
end

