-- ==== Sys2Proof/Machine/Domain.lean ====
section
/-! DEFINITION. The domain of devices as the lead die knows it: members, the Parallax census, the compatibility set and
its bindings (R694, R695, R707 to R710). -/

namespace Sys2Proof.Machine

/-- This device's ID (R694). -/
def State.devId (s : State) : Nat := s.fld (IMG.ID 0) IMG.ID.DEVICE_ID

/-- This device's configuration digest (R127). -/
def State.ownDigest (s : State) : Nat := (s.reg (IMG.DIGEST 0)).toNat

/-- The generation of the running image. -/
def State.ownGen (s : State) : Nat := s.fld (IMG.ID 0) IMG.ID.GEN

/-- The heard time in ns: AGE_KA keep-alive periods (R695). -/
def State.heardNs (s : State) : Nat :=
  s.fld (PLX.TIMING 0) PLX.TIMING.AGE_KA * s.fld (PLX.TIMING 0) PLX.TIMING.KA_MS * 1000000

/-- The ns since a die time of the lead die. -/
def State.leadAge (s : State) (t : Nat) : Nat := (s.time 0 + 2 ^ 48 - t) % 2 ^ 48

/-- Is a member heard (R695)? -/
def State.memberHeard (s : State) (m : Member) : Bool := m.heard && decide (s.leadAge m.last < s.heardNs)

/-- Is the device with an ID a heard member? -/
def State.heardDev (s : State) (id : Nat) : Bool := (s.member id).any s.memberHeard

/-- The domain table's entries, with their IDs. -/
def State.memberList (s : State) : List (Nat × Member) := s.plx.members.filterMap fun e => e.2.map fun m => (e.1, m)

/-- An event of PLX.EVT, with the device and the facet (R712). -/
def Act.plxEvent (i dev facet : Nat) : Act :=
  Act.all [
    Act.event (PLX.EVT 0) i,
    Act.setReg (PLX.LAST 0) (word [(PLX.LAST.DEVICE, dev), (PLX.LAST.KIND, i), (PLX.LAST.FACET, facet)]),
    Act.when (i = 6 ∨ i = 7) (Act.irqBlk 0 0x72)]

/-- Is a digest of a generation compatible (R708)? -/
def State.compatible (s : State) (digest gen : Nat) : Bool :=
  digest == s.ownDigest || s.plx.compDigs.contains digest || s.plx.compGens.any fun r => decide (r.1 ≤ gen ∧ gen ≤ r.2)

/-- Census entry k: entry 0 is this device's own (R707). -/
def State.censusAt (s : State) (k : Nat) : Option (Nat × Nat) :=
  if k = 0 then some (s.ownDigest, s.ownGen) else if k < 16 then s.cens k else none

/-- The count of census entry k: the heard members in it, and in entry 0 this device (R707). -/
def State.censusCount (s : State) (k : Nat) : Nat :=
  (s.memberList.filter fun m => m.2.census == some k).length + (if k = 0 then 1 else 0)

/-- Is census entry k compatible (R708)? -/
def State.censusCompat (s : State) (k : Nat) : Bool := (s.censusAt k).any fun e => s.compatible e.1 e.2

/-- The member in the domain table under an ID changes. -/
def Act.modMem (id : Nat) (f : Member → Member) : Act := Act.modMember id fun m => m.map f

/-- A member leaves its census entry; an entry other than 0 without members is freed (R707). -/
def Act.censusLeave (id : Nat) : Act :=
  Act.get fun s =>
    Act.opt ((s.member id).bind Member.census) fun k =>
      Act.seq (Act.modMem id fun m => { m with census := none })
        (Act.get fun t => Act.when (k ≠ 0 ∧ t.censusCount k = 0) (Act.setCens k none))

/-- A member joins the entry of its digest, a new one where none holds it, or none where the census is full (R707). -/
def Act.censusJoin (id facet : Nat) : Act :=
  Act.get fun s =>
    Act.opt (s.member id) fun m =>
      match (List.range 16).find? fun k => (s.censusAt k).any fun e => e.1 == m.digest with
      | some k => Act.modMem id fun m => { m with census := some k, told := false }
      | none =>
        match ((List.range 16).drop 1).find? fun k => (s.cens k).isNone with
        | some k =>
          Act.all [
            Act.setCens k (some (m.digest, m.gen)),
            Act.modMem id (fun m => { m with census := some k, told := false }),
            Act.plxEvent 0 id facet,
            Act.when (s.compatible m.digest m.gen = false) (Act.plxEvent 1 id facet)]
        | none => Act.when (m.told = false) (Act.seq (Act.modMem id fun m => { m with told := true }) (Act.plxEvent 3 id facet))

/-- CENSUS_UPDATE: a heard member stands in the entry of its digest (R707). -/
def Act.censusUpdate (id facet : Nat) : Act :=
  Act.get fun s =>
    Act.opt (s.member id) fun m =>
      if m.census.any fun k => (s.censusAt k).any fun e => e.1 == m.digest then Act.skip
      else Act.seq (Act.censusLeave id) (Act.censusJoin id facet)

/-- CENSUS_AGE: members no longer heard leave their entries (R707). -/
def censusAge : Act :=
  Act.get fun s =>
    Act.when (s.enabled 0 0x72 = true)
      (Act.each (s.memberList.filter fun m => m.2.heard && !s.memberHeard m.2) fun m =>
        Act.seq (Act.modMem m.1 fun u => { u with heard := false, told := false }) (Act.censusLeave m.1))

/-- The sender bound to receive profile i of die p (R709). -/
def State.boundTo (s : State) (p i : Nat) : Option Nat :=
  (s.plx.compBinds.find? fun b => b.1 == i && b.2.1 == p).map fun b => b.2.2

/-- BINDING_UPDATE, as the binding's die sees it: may frames under receive profile i of die p be used? Unbound ones may;
where PLX is disabled a binding is closed (R710, and the disabled safe state of PLX). -/
def State.bindingOpen (s : State) (p i : Nat) : Bool :=
  match s.boundTo p i with
  | none => true
  | some dev =>
    s.enabled 0 0x72 &&
      (if s.heardDev dev then ((s.member dev).bind Member.census).any s.censusCompat else s.plx.compUnheard)

end Sys2Proof.Machine
end

