-- ==== Sys2Proof/Machine/Eth.lean ====
section
/-! DEFINITION. The Ethernet facets: receiving, flow control, transmission, link state, MDIO (08_ethernet_facets.md). -/

namespace Sys2Proof.Machine

/-! ## Frames on the line -/

/-- The frame check sequence of a frame without it: four bytes, least significant first. -/
def fcsOf (body : List Byte) : List Byte := leBytes 4 (crc32 body)

/-- Does a received frame carry a correct frame check sequence? -/
def fcsOk (b : List Byte) : Bool := decide (4 ≤ b.length) && fcsOf (b.take (b.length - 4)) == b.drop (b.length - 4)

/-- The length band of a frame (R353). -/
def bandOf (n : Nat) : Nat :=
  if n ≤ 64 then 0 else if n ≤ 127 then 1 else if n ≤ 255 then 2 else if n ≤ 511 then 3 else if n ≤ 1023 then 4
  else if n ≤ 1518 then 5 else if n ≤ 2047 then 6 else if n ≤ 4095 then 7 else 8

/-- The kind of a destination address: 0 unicast, 1 multicast, 2 broadcast. -/
def daKind (da : Nat) : Nat := if da = bcast then 2 else if isGroup da then 1 else 0

/-- Count ETH counter i of facet f (R381). -/
def Act.ethCount (p f i : Nat) : Act := Act.count (ETH.CNT p f i)

/-- Count a good received frame of n bytes to a destination address (R353, R387). -/
def Act.countRx (p f da n : Nat) : Act :=
  Act.all [Act.ethCount p f 0, Act.countBy (ETH.CNT p f 1) n, Act.ethCount p f (2 + daKind da), Act.ethCount p f (17 + bandOf n),
    Act.tallyMon p 0x031 f n]

/-- Count a frame sent complete (R381, R387). -/
def Act.countTx (p f da n : Nat) : Act :=
  Act.all [Act.ethCount p f 26, Act.countBy (ETH.CNT p f 27) n, Act.ethCount p f (28 + daKind da), Act.ethCount p f (39 + bandOf n),
    Act.tallyMon p 0x032 f n]

/-- Is an address one of the facet's perfect-match addresses (R356)? -/
def State.isMatch (s : State) (p f da : Nat) : Bool :=
  da != 0 && (List.range 4).any fun i => (s.reg (ETH.MATCH p f i)).toNat == da

/-- Does the address filter pass a destination address (R356)? -/
def State.filterOk (s : State) (p f da : Nat) : Bool :=
  let own := s.isMatch p f da ||
    (bit (s.reg (EYE.ETH_FACETS 0 p)) f && da != 0 && da == (s.reg (EYE.MAC 0)).toNat) || da == bcast
  match s.fld (ETH.MODE p f) ETH.MODE.ADDR_FILTER with
  | 0 => true
  | 1 => own || isGroup da
  | _ => own || da / 16 == 0x0180C200000

/-- Is a frame a MAC control frame of the facet (R357)? -/
def State.isMacControl (s : State) (p f : Nat) (b : List Byte) : Bool :=
  bytesAt b 12 2 == 0x8808 && (frDa b == 0x0180C2000001 || s.isMatch p f (frDa b))

/-- Does fast lane f of die p run as an Ezsor link for network boot (R128)? -/
def State.booting (s : State) (p f : Nat) : Bool := p == 0 && decide (f < 4) && s.ld.st == .holdPeer

/-- Does the facet's MAC consume a frame as an Ezsor link message (R697)? A booting one takes every such message (log entry
30). -/
def State.isEzsor (s : State) (p f : Nat) (b : List Byte) : Bool :=
  frType b == 0x88B6 &&
    (s.booting p f || (bit (s.reg (PLX.FACETS 0 p)) f &&
      ((frDa b == (s.reg (PLX.GROUP_MAC 0)).toNat && frDa b != 0) || s.isMatch p f (frDa b))))

/-- Is facet f in Ezsor link mode (R344)? -/
def State.ezsorMode (s : State) (p f : Nat) : Bool :=
  decide (f < 4) && (s.fld (ETH.MODE p f) ETH.MODE.MODE == 3 || s.booting p f)

/-- The class in which a frame is accounted in the receive buffer (R362). -/
def State.bufClass (s : State) (p f : Nat) (b : List Byte) : Nat := s.pcpClass p f (s.tagUsed p f b).1

/-! ## The receive buffer (R362, R363) -/

/-- Cells of the receive buffer of a facet (R362). -/
def rxSize (f : Nat) : Nat := if f < 4 then 1024 else if f < 12 then 512 else if f < 24 then 256 else 32

/-- The frames in a receive buffer, each once: the link copies of one frame share its cells. -/
def onceEach : List RxFrame → List RxFrame
  | [] => []
  | r :: l => if l.any fun x => x.fr.fid == r.fr.fid && x.fr.cls == r.fr.cls then onceEach l else r :: onceEach l

/-- Cells of class c in the receive buffer of facet f. -/
def State.rxClsCells (s : State) (p f c : Nat) : Nat :=
  (((onceEach (s.buf (fk p f))).filter fun r => r.bufCls == c).map fun r => r.fr.cells).sum

/-- Cells in the receive buffer of facet f (R362). -/
def State.rxCells (s : State) (p f : Nat) : Nat := ((onceEach (s.buf (fk p f))).map fun r => r.fr.cells).sum

/-- Is class c lossless at facet f (R363)? -/
def State.lossless (s : State) (p f c : Nat) : Bool :=
  s.flag (ETH.FLOW p f) ETH.FLOW.SEND &&
    match s.fld (ETH.FLOW p f) ETH.FLOW.FC_MODE with
    | 1 => true
    | 2 => s.fld (ETH.FLOW p f) ETH.FLOW.PFC_CLASSES / 2 ^ c % 2 == 1
    | _ => false

/-- Does a frame of class c with n cells overflow the receive buffer of facet f (R363)? An Ezsor-mode facet has 128 cells
for each class (R704). -/
def State.rxOverflow (s : State) (p f c n : Nat) : Bool :=
  if s.ezsorMode p f then decide (128 < s.rxClsCells p f c + n)
  else
    (!s.lossless p f c && decide (s.fld (ETH.RXBUF p f) ETH.RXBUF.XOFF_TOTAL ≤ s.rxCells p f)) ||
      decide (rxSize f < s.rxCells p f + n)

/-! ## MAC control (R357, R366 to R368) -/

/-- ns in n quanta at a line rate in Mbit/s (R366). -/
def quantaNs (n rate : Nat) : Nat := n * 512000 / max 1 rate

/-- The pauses of facet f become l: the duration of each class's pause that ends is offered (R387, 0x033). -/
def Act.setPauses (p f : Nat) (l : List (Nat × Pause)) : Act :=
  Act.get fun s =>
    let old := (s.eth (fk p f)).pauses
    Act.seq (Act.modEth (fk p f) fun e => { e with pauses := l })
      (Act.each (List.range 8) fun c =>
        Act.opt (old.find? fun x => x.1 == c) fun x =>
          Act.when (l.all (fun y => y.1 != c) = true) (Act.offerMon p 0x033 f (s.sinceNs p x.2.since / 1000 : Nat)))

/-- Pauses for class c arrive: for each priority, 8 standing for all, its quanta (R366, R367). While OVERRIDE is set they are counted
and ignored until every time is 0. -/
def Act.pauseCls (p f c : Nat) (l : List (Nat × Nat)) : Act :=
  Act.get fun s =>
    let e := s.eth (fk p f)
    let now := s.time p
    let since := (e.pauses.find? fun x => x.1 == c).elim now fun x => x.2.since
    if e.override.any fun x => x.1 == c then
      if l.all fun x => x.2 == 0 then Act.modEth (fk p f) fun e => { e with override := e.override.filter fun x => x.1 != c }
      else
        Act.seq (Act.ethCount p f 48)
          (Act.modEth (fk p f) fun e => { e with override := (e.override.filter fun x => x.1 != c) ++ [(c, s.edges)] })
    else
      Act.setPauses p f ((e.pauses.filter fun x => !(x.1 == c && l.any fun y => y.1 == x.2.prio)) ++
        (l.filter fun x => x.2 != 0).map fun x =>
          (c, { stop := (now + quantaNs x.2 (s.lineRate p f)) % 2 ^ 48, since := since, prio := x.1 }))

/-- The pause times that a PFC frame gives to the classes of facet f, by enabled priority (R366). -/
def State.pfcTimes (s : State) (p f : Nat) (b : List Byte) : List (Nat × List (Nat × Nat)) :=
  let en := bytesAt b 16 2
  (List.range 8).filterMap fun c =>
    let l := (List.range 8).filter fun q => en / 2 ^ q % 2 == 1 && s.pcpClass p f q == c
    if l.isEmpty then none else some (c, l.map fun q => (q, bytesAt b (18 + 2 * q) 2))

/-- The MAC consumes a MAC control frame (R357, R366, R368). -/
def Act.macControl (p f : Nat) (b : List Byte) : Act :=
  Act.get fun s =>
    let mode := s.fld (ETH.FLOW p f) ETH.FLOW.FC_MODE
    let honour := s.flag (ETH.FLOW p f) ETH.FLOW.HONOUR
    let opc := bytesAt b 14 2
    if opc = 1 ∧ (mode = 1 ∨ honour = false) then
      Act.seq (Act.ethCount p f 5)
        (Act.when (honour = true) (Act.each (List.range 8) fun c => Act.pauseCls p f c [(8, bytesAt b 16 2)]))
    else if opc = 0x0101 ∧ (mode = 2 ∨ honour = false) then
      Act.seq (Act.ethCount p f 6)
        (Act.when (honour = true) (Act.each (s.pfcTimes p f b) fun x => Act.pauseCls p f x.1 x.2))
    else Act.ethCount p f 7

/-- PAUSE_EXPIRE: the pause of class c of facet f runs out (R366). -/
def pauseExpire (p f c : Nat) : Act :=
  Act.get fun s =>
    Act.setPauses p f ((s.eth (fk p f)).pauses.filter fun x => !(x.1 == c && notBefore (s.time p) x.2.stop))

/-- PAUSE_LIMIT: class c has been paused for LIMIT_MS and is released (R367). -/
def pauseLimit (p f c : Nat) : Act :=
  Act.get fun s =>
    let e := s.eth (fk p f)
    Act.opt (e.pauses.find? fun x => x.1 == c) fun x =>
      Act.when (s.fld (ETH.FLOW p f) ETH.FLOW.LIMIT_MS * 1000000 ≤ since x.2.since (s.time p))
        (Act.all [
          Act.setPauses p f (e.pauses.filter fun y => y.1 != c),
          Act.modEth (fk p f) (fun v => { v with override := (v.override.filter fun y => y.1 != c) ++ [(c, s.edges)] }),
          Act.event (ETH.EVT p f) 3])

/-- PAUSE_OVERRIDE_END: no pause for class c for 1 ms while OVERRIDE is set (R367). -/
def pauseOverrideEnd (p f c : Nat) : Act :=
  Act.get fun s => Act.modEth (fk p f) fun e => { e with override := e.override.filter fun x => !(x.1 == c && s.pastMs x.2 1) }

/-! ## Sending PAUSE and PFC (R364, R365) -/

/-- A MAC control frame padded to 64 bytes with its FCS. -/
def macFrame (sa opc : Nat) (body : List Byte) : List Byte :=
  let b := padTo 60 (beBytes 6 0x0180C2000001 ++ beBytes 6 sa ++ beBytes 2 0x8808 ++ beBytes 2 opc ++ body)
  b ++ fcsOf b

/-- Send a PAUSE frame, or a PFC frame for a list of classes, with a pause time (R364). -/
def Act.sendPause (p f : Nat) (classes : List Nat) (time : Nat) : Act :=
  Act.get fun s =>
    let sa := (s.reg (ETH.MATCH p f 0)).toNat
    if s.fld (ETH.FLOW p f) ETH.FLOW.FC_MODE = 1 then
      Act.all [Act.emit (.eth p f (macFrame sa 1 (beBytes 2 time))), Act.ethCount p f 31, Act.countTx p f 0x0180C2000001 64]
    else
      let named := (List.range 8).filter fun q => classes.contains (s.pcpClass p f q)
      let en := (named.map fun q => 2 ^ q).sum
      let times := (List.range 8).flatMap fun q => beBytes 2 (if named.contains q then time else 0)
      Act.all [Act.emit (.eth p f (macFrame sa 0x0101 (beBytes 2 en ++ times))), Act.ethCount p f 32,
        Act.countTx p f 0x0180C2000001 64]

/-- The classes that facet f holds off at its partner (R364). -/
def State.heldOff (s : State) (p f : Nat) (own : List Nat) (total : Bool) : List Nat :=
  (List.range 8).filter fun c => own.contains c || (total && s.lossless p f c)

/-- The cells that decide for class c: its own under PFC, all under PAUSE (R364). -/
def State.fcCells (s : State) (p f c : Nat) : Nat :=
  if s.fld (ETH.FLOW p f) ETH.FLOW.FC_MODE = 1 then s.rxCells p f else s.rxClsCells p f c

/-- XOFF_CROSS: the receive buffer of facet f has risen to XOFF or XOFF_TOTAL (R364). -/
def xoffCross (p f : Nat) : Act :=
  Act.get fun s =>
    let e := s.eth (fk p f)
    let own := (List.range 8).filter fun c =>
      s.lossless p f c && (e.xoff.contains c || decide (s.fld (ETH.RXBUF p f) ETH.RXBUF.XOFF ≤ s.fcCells p f c))
    let total := e.xoffAll || (s.fld (ETH.FLOW p f) ETH.FLOW.FC_MODE == 2 &&
      decide (s.fld (ETH.RXBUF p f) ETH.RXBUF.XOFF_TOTAL ≤ s.rxCells p f))
    let was := s.heldOff p f e.xoff e.xoffAll
    let new := (s.heldOff p f own total).filter fun c => !was.contains c
    Act.when (s.enabled p (0x20 + f) = true)
      (Act.seq (Act.setEth (fk p f) { e with xoff := own, xoffAll := total })
        (Act.when (new ≠ []) (Act.sendPause p f new (s.fld (ETH.FLOW p f) ETH.FLOW.QUANTA))))

/-- XON_CROSS: the receive buffer of facet f has fallen to XON (R364). -/
def xonCross (p f : Nat) : Act :=
  Act.get fun s =>
    let e := s.eth (fk p f)
    let xon := s.fld (ETH.RXBUF p f) ETH.RXBUF.XON
    let own := e.xoff.filter fun c => decide (xon < s.fcCells p f c)
    let total := e.xoffAll && decide (xon < s.rxCells p f)
    let now := s.heldOff p f own total
    let gone := (s.heldOff p f e.xoff e.xoffAll).filter fun c => !now.contains c
    Act.when (s.enabled p (0x20 + f) = true)
      (Act.seq (Act.setEth (fk p f) { e with xoff := own, xoffAll := total })
        (Act.when (gone ≠ []) (Act.sendPause p f gone 0)))

/-- PAUSE_REFRESH: half the pause time has passed and the buffer is still above XON (R364). -/
def pauseRefresh (p f : Nat) : Act :=
  Act.get fun s =>
    let e := s.eth (fk p f)
    let held := s.heldOff p f e.xoff e.xoffAll
    Act.when (s.enabled p (0x20 + f) = true ∧ held ≠ [])
      (Act.sendPause p f held (s.fld (ETH.FLOW p f) ETH.FLOW.QUANTA))

/-! ## Receiving (R353 to R357, R363, R374, R530) -/

/-- The counter of the row of R353 by which a frame fails, up to its frame check sequence and length. -/
def rxFailure (b : List Byte) (codeErr : Bool) (maxLen : Nat) : Option Nat :=
  let n := b.length
  if codeErr then some 9
  else if n < 64 then some (if fcsOk b then 10 else 11)
  else if n ≤ maxLen then (if fcsOk b then none else some 8)
  else some (if fcsOk b then 12 else 13)

/-- The timestamp of a frame of n bytes that has just ended on the line of facet f: the die time at its first bit after the
start-of-frame delimiter, and a correction in units of 0.25 ns (R374). -/
def State.stampOf (s : State) (p f n corr : Nat) : Nat :=
  let rate := if s.booting p f then 25000 else s.lineRate p f
  let ns : Nat := if rate = 0 then 0 else n * 8000 / rate
  (((s.time p : Int) - ns + toSigned 16 corr / 4) % (2 ^ 48 : Int)).toNat

/-- The receive timestamp of a frame of n bytes of facet f (R374). -/
def State.rxStamp (s : State) (p f n : Nat) : Nat := s.stampOf p f n (s.fld (ETH.TS p f) ETH.TS.RX_CORR)

/-- Does facet f run a forward error correction: the selected one, the RS-FEC of an Ezsor link, or that of 1000BASE-T1 (R345, R347,
R703)? -/
def State.hasFec (s : State) (p f : Nat) : Bool :=
  s.fld (ETH.MODE p f) ETH.MODE.FEC != 0 || s.ezsorMode p f ||
    (decide (12 ≤ f ∧ f < 24) && s.fld (ETH.MODE p f) ETH.MODE.MODE == 1)

/-- A good frame goes to the receive buffer to be looked up, or across to the lead die's domain engine (R353, R697). -/
def Act.acceptFrame (p f c : Nat) (cut abort : Bool) (b : List Byte) (ts status : Nat) : Act :=
  Act.get fun s =>
    if s.isEzsor p f b ∧ abort = false then
      Act.seq
        (Act.modEth (fk p f) fun e =>
          { e with ezRx := if (bytesAt (frBody b) 1 1) % 2 = 0 ∧ bytesAt (frBody b) 1 1 ≤ 2 then e.ezRx
                           else e.ezRx.modify c (· + cellsOf b.length) })
        (Act.upd fun t => { t with plx := { t.plx with inbox := t.plx.inbox ++ [(globalFacet p f, ts, b.take (b.length - 4))] } })
    else
      Act.seq
        (Act.modEth (fk p f) fun e => { e with ezRx := e.ezRx.modify c (· + cellsOf b.length) })
        (Act.intake p f
          { fr := { cls := c, ts := ts, cut := cut, abort := abort, attn := if frType b = 0x88B5 then status else 0, data := b }, bufCls := c })

/-- ETH_RECEIVE: facet f receives a frame, its bytes given from the destination address through the frame check sequence;
errAt is the byte at which a code error arrived; fault says that the MACsec unit's parity check fails on it; fixed and lost count the
FEC codewords corrected and not correctable since the frame before (R381); status is STATUS [11:0] now (R783). The occupancy is offered
with the frame in the buffer (R387). That a cut-through frame's failure reaches the egress only with its LAST cell is the model's choice
(log entry 130). -/
def ethReceive (p f : Nat) (b : List Byte) (errAt : Option Nat) (fault : Bool) (fixed lost status : Nat) : Act :=
  Act.get fun s =>
    let c := s.bufClass p f b
    let ts := s.rxStamp p f b.length
    let da := frDa b
    let maxLen := s.fld (ETH.MODE p f) ETH.MODE.MAX_LEN
    let cut := decide (f < 12) && s.flag (ETH.MODE p f) ETH.MODE.CUT_RX && !s.macsec p f && decide (128 ≤ b.length) &&
      !(errAt.any fun i => Nat.blt i 128)
    let ctl := s.isMacControl p f b
    let past := Act.seq (Act.ethCount p f 14) (Act.event (ETH.EVT p f) 2)
    if 32 ≤ f ∨ (s.enabled p (0x20 + f) = false ∧ s.booting p f = false) then Act.skip
    else
    Act.seq (Act.when (s.hasFec p f = true) (Act.seq (Act.countBy (ETH.CNT p f 49) fixed) (Act.countBy (ETH.CNT p f 50) lost))) <|
    Act.seq (b := Act.get fun t => Act.offerMon p 0x030 f (t.rxCells p f)) <|
    if s.rxOverflow p f c (cellsOf b.length) then
      Act.seq past
        (Act.when (cut = true ∧ ctl = false ∧ s.filterOk p f da = true ∧ s.rxOverflow p f c 1 = false)
          (Act.acceptFrame p f c true true (b.take maxLen) ts status))
    else
      match rxFailure b errAt.isSome maxLen with
      | some i =>
        Act.seq (Act.ethCount p f i)
          (Act.when (cut = true ∧ ctl = false ∧ s.filterOk p f da = true)
            (Act.acceptFrame p f c true true (b.take maxLen) ts status))
      | none =>
        if s.booting p f then Act.when (s.isEzsor p f b = true) (Act.acceptFrame p f c false false b ts status)
        else if ctl then Act.seq (Act.macControl p f b) (Act.countRx p f da b.length)
        else if s.filterOk p f da = false then Act.ethCount p f 15
        else if s.macsec p f then
          Act.macsecReceive p f fault (b.take (b.length - 4)) fun o =>
            Act.opt o fun body =>
              Act.seq (Act.countRx p f da b.length) (Act.acceptFrame p f c false false (body ++ fcsOf body) ts status)
        else Act.seq (Act.countRx p f da b.length) (Act.acceptFrame p f c cut false b ts status)

/-- PAUSE_RECEIVE: a received PAUSE or PFC frame, its bytes through the frame check sequence (R366). -/
def pauseReceive (p f : Nat) (b : List Byte) : Act :=
  Act.get fun s => Act.when (s.isMacControl p f b = true) (ethReceive p f b none false 0 0 0)

/-! ## Sending (R299, R358 to R360, R374, R375) -/

/-- The frame as the egress facet gives it to MACsec: without its FCS, its tag removed where R299 says so. -/
def State.egressBody (s : State) (p f : Nat) (fr : Frame) : List Byte :=
  let b := fr.data.take (fr.data.length - 4)
  if frTagged b ∧ s.clsPort p f CLS.PORT.UNTAG_PVID = 1 ∧ frTci b % 4096 = s.clsPort p f CLS.PORT.PVID then
    b.take 12 ++ b.drop 16
  else b

/-- The bytes that MACsec adds to a frame body at facet f (R358). -/
def State.macsecAdds (s : State) (p f : Nat) (body : List Byte) : Nat :=
  if s.macsec p f ∧ isEapol body = false ∧ s.flag (MSEC.PORT p f) MSEC.PORT.PROTECT then
    (if s.flag (MSEC.PORT p f) MSEC.PORT.INCLUDE_SCI then 16 else 8) + 16
  else 0

/-- The length of a frame as facet f sends it (R358). -/
def State.sentLen (s : State) (p f : Nat) (fr : Frame) : Nat :=
  let b := s.egressBody p f fr
  max 64 (b.length + s.macsecAdds p f b + 4)

/-- The facet's transmitter is free again. -/
def Act.txFree (p f : Nat) : Act :=
  Act.get fun s => Act.seq (Act.shape p) (Act.modEth (fk p f) fun e => { e with tx := none, oppSent := some (s.time p) })

/-- The PTP header of a frame as sent, where its EtherType is 0x88F7 (R375). -/
def ptpHeader (b : List Byte) : Option (List Byte) := if frType b = 0x88F7 then some (frBody b) else none

/-- Capture the transmit timestamp of a frame (R374, R375). -/
def Act.txStamp (p f : Nat) (b : List Byte) : Act :=
  Act.get fun s =>
    if s.flag (ETH.TS p f) ETH.TS.TX_PTP = false then Act.skip
    else
      Act.opt (ptpHeader b) fun h =>
        let t := s.stampOf p f (b.length + 4) (s.fld (ETH.TS p f) ETH.TS.TX_CORR)
        let e := s.eth (fk p f)
        if 16 ≤ e.stamps.length then Act.seq (Act.ethCount p f 51) (Act.event (ETH.EVT p f) 4)
        else
          Act.setEth (fk p f)
            { e with stamps := e.stamps ++
                [{ time := t, seqId := bytesAt h 30 2, msgType := bytesAt h 0 1 % 16, domain := bytesAt h 4 1 }] }

/-- The facet ends a frame after n bytes with the ones' complement of the FCS of the bytes sent (R360). -/
def Act.endAborted (p f n : Nat) (body : List Byte) : Act :=
  let b := body.take n
  Act.all [
    Act.emit (.eth p f (b ++ leBytes 4 (crc32 b ^^^ 0xFFFFFFFF))),
    Act.ethCount p f 33,
    Act.txFree p f]

/-- ETH_TRANSMIT: the frame in transmission at facet f is sent whole. coll counts the collisions it met and late says that
the last one was late, on a T1S facet under CSMA/CD (R348); fault says that the MACsec unit's parity check fails (R519). -/
def ethTransmit (p f coll : Nat) (late fault : Bool) : Act :=
  Act.get fun s =>
    Act.opt (s.eth (fk p f)).tx fun fr =>
      if fr.abort ∨ s.facetDown p f then Act.skip
      else
        let half := decide (24 ≤ f) && !(s.flag (ETH.PLCA p f) ETH.PLCA.EN && (s.eth (fk p f)).plcaOk)
        let body := s.egressBody p f fr
        if half = true ∧ (late = true ∨ 16 ≤ coll) then
          Act.all [
            Act.countBy (ETH.CNT p f 36) (if late then coll else 16),
            Act.ethCount p f (if late then 38 else 37),
            Act.txFree p f]
        else
          Act.seq (Act.when (half = true) (Act.countBy (ETH.CNT p f 36) coll))
            (Act.macsecTransmit p f fault body fun o =>
              match o with
              | .drop => Act.txFree p f
              | .abort => Act.endAborted p f 0 body
              | .send out =>
                let b := padTo (max 60 out.length) out
                Act.all [
                  Act.emit (.eth p f (b ++ fcsOf b)),
                  Act.countTx p f (frDa b) (b.length + 4),
                  Act.txStamp p f b,
                  Act.txFree p f])

/-- TX_ABORT: the frame in transmission at facet f, marked aborted, or at a facet that is down, or short of a cell
(underrun), is ended after n of the bytes that it would have been sent with (R359, R360). -/
def txAbort (p f n : Nat) (underrun : Bool) : Act :=
  Act.get fun s =>
    Act.opt (s.eth (fk p f)).tx fun fr =>
      Act.when (fr.abort = true ∨ underrun = true ∨ s.facetDown p f = true)
        (Act.seq (Act.when (underrun = true) (Act.ethCount p f 34))
          (Act.macsecTransmit p f false (s.egressBody p f fr) fun o =>
            match o with
            | .send out => Act.endAborted p f n (padTo (max 60 out.length) out)
            | _ => Act.endAborted p f 0 []))

/-! ## Link state (R350, R351, R348) -/

/-- RAW_OK of facet f takes a value, with the edge of a change; one that returns while the link is still reported up was a short
interruption, counted as a code error (R350, R351). -/
def Act.rawIs (p f : Nat) (on : Bool) : Act :=
  Act.get fun s =>
    let e := s.eth (fk p f)
    Act.when (e.raw ≠ on)
      (Act.seq (Act.modEth (fk p f) fun v => { v with raw := on, rawAt := s.edges })
        (Act.when (on = true ∧ e.up = true) (Act.ethCount p f 9)))

/-- The facet reports link down, where it was up (R351); lf and rf are the faults that stand. -/
def Act.linkDown (p f : Nat) (lf rf : Bool) : Act :=
  Act.get fun s =>
    let e := s.eth (fk p f)
    Act.all [
      Act.rawIs p f false,
      Act.modEth (fk p f) fun e =>
        { e with up := false, lane := false, shook := false, anDone := false, fecLock := false, localFault := lf, remoteFault := rf
                 plcaOk := false, tx := e.tx.map fun t => { t with abort := true } },
      Act.when (e.up = true) (Act.seq (Act.event (ETH.EVT p f) 0) (Act.ethCount p f 52))]

/-- Does facet f run its line: enabled with a mode, or a fast lane for network boot, and not in internal-only mode (R128, R350, R352)? -/
def State.lineOn (s : State) (p f : Nat) : Bool :=
  decide (f < 32) && !s.clk.internalOnly && (s.booting p f || (s.enabled p (0x20 + f) && s.lineRate p f != 0))

/-- Does facet f run Clause 37 auto-negotiation (R345, R350)? -/
def State.hasAn (s : State) (p f : Nat) : Bool :=
  decide (4 ≤ f ∧ f < 12) && s.fld (ETH.MODE p f) ETH.MODE.MODE == 4 && s.flag (ETH.MODE p f) ETH.MODE.AUTONEG

/-- LINK_DOWN (R350, R351). held false: the condition of RAW_OK ends, by a local or a remote fault or by loss of lock. held true: RAW_OK
has been 0 for LINK_HOLD_MS, and the link goes down. -/
def ethLinkDown (p f : Nat) (lf rf held : Bool) : Act :=
  Act.get fun s =>
    let e := s.eth (fk p f)
    if held then
      Act.when (f < 32 ∧ e.raw = false ∧ e.up = true ∧ s.pastMs e.rawAt (s.fld (ETH.MODE p f) ETH.MODE.LINK_HOLD_MS) = true)
        (Act.linkDown p f e.localFault e.remoteFault)
    else
      Act.when (f < 32)
        (Act.seq
          (Act.modEth (fk p f) fun v =>
            { v with lane := false, anDone := false, fecLock := v.fecLock && rf && !lf, localFault := lf, remoteFault := rf })
          (Act.rawIs p f false))

/-- LINK_UP (R350 to R352). held false: the condition of the lane's mode holds, and with it RAW_OK, on an Ezsor link once the handshake is
complete. held true: RAW_OK has been 1 for UP_HOLD_MS, and the link comes up. -/
def ethLinkUp (p f : Nat) (held : Bool) : Act :=
  Act.get fun s =>
    let e := s.eth (fk p f)
    if held then
      Act.when (s.lineOn p f = true ∧ e.raw = true ∧ e.up = false ∧ s.pastMs e.rawAt (s.fld (ETH.MODE p f) ETH.MODE.UP_HOLD_MS) = true)
        (Act.seq
          (Act.setEth (fk p f)
            { e with
              up := true
              ezTx := [0, 0, 0, 0, 0, 0, 0, 0], ezAck := [0, 0, 0, 0, 0, 0, 0, 0], ezRx := [0, 0, 0, 0, 0, 0, 0, 0]
              ezTold := [0, 0, 0, 0, 0, 0, 0, 0] })
          (Act.event (ETH.EVT p f) 1))
    else
      Act.when (s.lineOn p f = true)
        (Act.seq
          (Act.modEth (fk p f) fun v =>
            { v with lane := true, localFault := false, remoteFault := false, anDone := s.hasAn p f, fecLock := s.hasFec p f })
          (Act.rawIs p f (!s.ezsorMode p f || e.shook)))

/-- An Ethernet facet becomes enabled: its link starts anew; the raw status of a T1S facet is 1 from then on (R350). -/
def Act.ethEnable (p f : Nat) : Act :=
  Act.seq (Act.modEth (fk p f) fun v => { v with up := false, raw := false, lane := false, shook := false, oppLeft := 0, oppSent := none })
    (Act.rawIs p f (decide (24 ≤ f)))

/-- Does T1S facet f take part in PLCA (R348)? -/
def State.plca (s : State) (p f : Nat) : Bool :=
  decide (24 ≤ f ∧ f < 32) && s.enabled p (0x20 + f) && s.flag (ETH.PLCA p f) ETH.PLCA.EN

/-- PLCA_BEACON_LOST (R348). -/
def plcaBeaconLost (p f : Nat) : Act :=
  Act.get fun s =>
    Act.when (s.plca p f = true ∧ (s.eth (fk p f)).plcaOk = true)
      (Act.seq (Act.modEth (fk p f) fun e => { e with plcaOk := false }) (Act.event (ETH.EVT p f) 5))

/-- PLCA_BEACON: a BEACON is on the line, sent by the coordinator with NODE_COUNT: a cycle begins, with one transmit opportunity of the
facet in it (R348, R382; log entry 131). -/
def plcaBeacon (p f : Nat) : Act :=
  Act.get fun s =>
    let a := ETH.PLCA p f
    Act.when (s.plca p f = true)
      (Act.all [
        Act.modEth (fk p f) fun e => { e with plcaOk := true, oppLeft := 1 + s.fld a ETH.PLCA.BURST_COUNT, oppSent := none },
        Act.bumpFld (ETH.PLCA_STAT p f) ETH.PLCA_STAT.BEACONS 1,
        Act.when (s.fld a ETH.PLCA.NODE_ID = 0) (Act.emit (.beacon p f (s.fld a ETH.PLCA.NODE_COUNT)))])

/-- Is facet f kept from sending by PLCA: no BEACON has begun a cycle whose opportunity it has not used up, or BURST_TIMER, in bit times
of 100 ns, has run out since its last frame in it (R348)? -/
def State.plcaShut (s : State) (p f : Nat) : Bool :=
  let e := s.eth (fk p f)
  s.plca p f && e.plcaOk &&
    (e.oppLeft == 0 ||
      (decide (e.oppLeft ≤ s.fld (ETH.PLCA p f) ETH.PLCA.BURST_COUNT) &&
        e.oppSent.any fun t => Nat.blt (100 * s.fld (ETH.PLCA p f) ETH.PLCA.BURST_TIMER) (s.sinceNs p t)))

/-! ## MDIO (R349, R383) -/

/-- The MDIO bus of facet f (R349). -/
def mdioBus (f : Nat) : Nat := if f < 4 then 0 else 1

/-- The MDIO frame of facet f goes onto its bus. -/
def Act.mdioIssue (p f op : Nat) : Act :=
  Act.get fun s =>
    let a := ETH.MDIO p f
    Act.emit (.mdio p f op (s.fld a ETH.MDIO.PRTAD) (s.fld a ETH.MDIO.DEVAD) (s.fld a ETH.MDIO.DATA))

/-- A write of ETH.MDIO (R349, R383). -/
def mdioWrite (ag : Agent) (p f : Nat) (v : Word) (k : Code → Act) : Act :=
  let a := ETH.MDIO p f
  let op := fget v ETH.MDIO.OP
  let b := 2 * p + mdioBus f
  Act.get fun s =>
    if s.fld a ETH.MDIO.RESULT = 1 ∨ 5 < op then Act.badValue a ag k
    else if op = 0 then Act.seq (Act.store a v) (k .ok)
    else
      Act.all [
        Act.store a v,
        Act.setFld a ETH.MDIO.RESULT 1,
        Act.modBus b (fun l => l ++ [(f, op)]),
        Act.when (s.bus b = []) (Act.mdioIssue p f op),
        k .ok]

/-- MDIO_DONE: the frame on MDIO bus b of die p completes; a read returned data, and its PHY drove the turnaround bit or did
not (R349). -/
def mdioDone (p b data : Nat) (turnaround : Bool) : Act :=
  Act.get fun s =>
    match s.bus (2 * p + b % 2) with
    | [] => Act.skip
    | (f, op) :: rest =>
      let a := ETH.MDIO p f
      let read := op = 3 ∨ op = 5
      Act.all [
        Act.setBus (2 * p + b % 2) rest,
        Act.when (read ∧ turnaround = true) (Act.setFld a ETH.MDIO.DATA data),
        Act.setFld a ETH.MDIO.RESULT (if read ∧ turnaround = false then 3 else 2),
        Act.opt rest.head? fun n => Act.mdioIssue p n.1 n.2]

/-! ## Commands of a facet's registers (R370, R375, R380) -/

/-- SNAP: copy the 53 counters of facet f into its snapshot bank (R370). -/
def ethSnap (p f : Nat) : Act :=
  Act.get fun s => Act.each (List.range 53) fun i => Act.setReg (ETH.SNAPCNT p f i) (s.reg (ETH.CNT p f i))

/-- RESTART_AN: restart Clause 37 auto-negotiation where AUTONEG = 1; it is complete when the lane's condition holds again (R350,
R380). -/
def restartAn (p f : Nat) : Act :=
  Act.get fun s =>
    Act.when (s.hasAn p f = true)
      (Act.seq (Act.modEth (fk p f) fun e => { e with anDone := false, lane := false }) (Act.rawIs p f false))

/-- A write of ETH.CTRL (R380). -/
def ethCtrl (p f : Nat) (v : Word) (k : Code → Act) : Act :=
  Act.all [
    Act.when (fget v ETH.CTRL.SNAP = 1) (ethSnap p f),
    Act.when (fget v ETH.CTRL.RESTART_AN = 1) (restartAn p f),
    k .ok]

/-- What TXTS_B shows (R375, R380). -/
def txtsB (l : List TxStamp) : Word :=
  match l with
  | [] => 0
  | e :: _ => word [(ETH.TXTS_B.SEQ_ID, e.seqId), (ETH.TXTS_B.MSG_TYPE, e.msgType), (ETH.TXTS_B.DOMAIN, e.domain),
      (ETH.TXTS_B.VALID, 1), (ETH.TXTS_B.COUNT, l.length)]

/-- What TXTS_A shows (R380). -/
def txtsA (l : List TxStamp) : Word := BitVec.ofNat 48 ((l.head?.map fun e => e.time).getD 0)

/-- TXTS_POP: a read of TXTS_B returns the rest of the oldest entry and removes it (R375). -/
def txtsPop (p f : Nat) (k : Code → Word → Act) : Act :=
  Act.get fun s =>
    let l := (s.eth (fk p f)).stamps
    Act.seq (Act.modEth (fk p f) fun e => { e with stamps := l.drop 1 }) (k .ok (txtsB l))

end Sys2Proof.Machine
end

