-- ==== Sys2Proof/Machine/Time.lean ====
section
/-! DEFINITION. Die time, marks, the PTP mapping, capture and PPS (R371 to R376, R384 to R386). -/

namespace Sys2Proof.Machine

/-- Move the die time of die p by a signed number of ns (R373). -/
def Act.addTime (p : Nat) (i : Int) : Act :=
  Act.modDie p fun n => (((n : Int) + i * 2 ^ 32) % (2 ^ 80 : Int)).toNat

/-- A die time moved by a signed number of ns. -/
def movedTime (i : Int) (t : Nat) : Nat := (((t : Int) + i) % (2 ^ 48 : Int)).toNat

/-- What has elapsed since a credit, a bucket or a recovery was last brought up to date is not changed by a step of the die time: each
moment moves with it (R312, R320, R322, R348, R366, R558, R674). -/
def Act.moveMoments (p : Nat) (i : Int) : Act :=
  let m := fun (u : Bucket) => { u with last := movedTime i u.last }
  Act.get fun s =>
    Act.all [
      Act.each (s.shaped p) (fun k => Act.modShaper (512 * p + k) fun u => { u with last := s.time p }),
      Act.each ((s.sw.floods.map (·.1)).filter fun k => k / 64 == p) (fun k => Act.modFlood k m),
      Act.each ((s.sw.meterC.map (·.1)).filter fun k => k / 4096 == p) (fun k => Act.modMtrC k m),
      Act.each ((s.sw.meterE.map (·.1)).filter fun k => k / 4096 == p) (fun k => Act.modMtrE k m),
      Act.each ((s.sw.recov.map (·.1)).filter fun k => k / 1024 == p) (fun k => Act.modRcv k fun u => { u with last := movedTime i u.last }),
      Act.each ((s.sw.eths.map (·.1)).filter fun k => k / 64 == p) (fun k => Act.modEth k fun e =>
        { e with
          pauses := e.pauses.map fun x => (x.1, { x.2 with stop := movedTime i x.2.stop, since := movedTime i x.2.since })
          oppSent := e.oppSent.map (movedTime i) }),
      Act.each ((s.cpu.aprLevels.map (·.1)).filter fun k => k / 4096 == p)
        (fun k => Act.modAprLevel k fun u => u.map fun e => (e.1, movedTime i e.2))]

/-- Step the die time of die p: its gate lists restart (R326), its cadences continue at the first instant at or after the
new time (R461). -/
def Act.stepTime (p : Nat) (i : Int) : Act :=
  Act.all [Act.shape p, Act.addTime p i, Act.moveMoments p i, Act.gatesStepped p, Act.get fun s => Act.setCad p (some (s.time p))]

/-- The time that passes on every Prism die in one slow-clock edge, in 2^-32 ns, at a rate adjustment in 10^-12 (R371). -/
def edgeTime (rate : Int) : Nat := (1953125 * 2 ^ 26 * (10 ^ 12 + rate) / 10 ^ 12).toNat

/-- One slow-clock edge of die time on every Prism die that is out of reset (R371); in internal-only mode the bus-reference island
runs 2% below nominal (R48). -/
def Act.passEdge : Act :=
  Act.get fun s => Act.each s.prismDies fun p =>
    Act.seq (Act.shape p) (Act.modDie p fun n =>
      (n + edgeTime (s.tim 0).rate * (if s.clk.internalOnly then 98 else 100) / 100) % 2 ^ 80)

/-- The signed difference of two die times. -/
def timeDiff (a b : Nat) : Int := toSigned 48 ((a + 2 ^ 48 - b) % 2 ^ 48)

/-- A signed number saturated to 16 bits. -/
def sat16 (i : Int) : Int := max (-32768) (min 32767 i)

/-- Apply to die p at a mark the correction that the last mark found (R372). -/
def Act.applyCorr (p : Nat) : Act :=
  Act.get fun s =>
    let u := s.tim p
    Act.seq (if u.corrStep then Act.stepTime p u.corr else Act.addTime p u.corr)
      (Act.modTim p fun v => { v with corr := 0, corrStep := false })

/-- Measure die p against the lead die at a mark (R372). -/
def Act.measure (p : Nat) : Act :=
  Act.get fun s =>
    let off := timeDiff (s.time p) (s.time 0)
    let u := s.tim p
    let near := decide (off.natAbs ≤ 4)
    let good := if near then u.good + 1 else 0
    let locked := decide (4 ≤ good)
    let far := decide (50 < off.natAbs)
    Act.all [
      Act.offerMon p 0x034 0 (sat16 off),
      Act.setFlds (TIME.SYNC p) [(TIME.SYNC.OFFSET, ofSigned 16 (sat16 off)), (TIME.SYNC.LOCKED, b2n locked)],
      Act.when (far = true ∧ u.ever = true) (Act.event (TIME.EVT p) 1),
      Act.setTim p
        { u with good := good, ever := u.ever || locked, corr := -off, corrStep := decide (off ≠ 0) && (far || !u.ever) }]

/-- A value written at one edge is at least 100 µs old at another (R373). -/
def markReady (w now : Nat) : Bool := decide (4 ≤ now - w)

/-- TIME_MARK: a time mark. drift gives, for each Prism die from 1 on, the ns by which its counter has moved against the lead
die's since the last mark (R372, R373). While the slow-clock edges are lost there is no mark. -/
def timeMark (drift : List Int) : Act :=
  Act.get fun s =>
    Act.when ((s.psup 0).subst = false)
      (Act.all [
        Act.each (s.prismDies.drop 1) (fun p => Act.seq (Act.addTime p (drift.getD (p - 1) 0)) (Act.applyCorr p)),
        Act.opt (s.tim 0).rateAt (fun r => Act.when (markReady r.2 s.edges = true)
          (Act.modTim 0 fun u => { u with rate := toSigned 32 r.1, rateAt := none })),
        Act.opt (s.tim 0).step (fun r => Act.when (markReady r.2 s.edges = true)
          (Act.all [
            Act.modTim 0 (fun u => { u with step := none }),
            Act.each s.prismDies fun p => Act.seq (Act.stepTime p (toSigned 48 r.1)) (Act.event (TIME.EVT p) 0)])),
        Act.each (s.prismDies.drop 1) fun p => Act.measure p])

/-- A write of TIME.RATE (R373, R384). -/
def timeRateWrite (ag : Agent) (p : Nat) (v : Word) (k : Code → Act) : Act :=
  Act.get fun s =>
    if p ≠ 0 ∨ 1000000000 < (toSigned 32 v.toNat).natAbs then Act.badValue (TIME.RATE p) ag k
    else Act.all [Act.store (TIME.RATE p) v, Act.modTim 0 (fun u => { u with rateAt := some (v.toNat % 2 ^ 32, s.edges) }), k .ok]

/-- A write of TIME.STEP (R373, R384). -/
def timeStepWrite (ag : Agent) (p : Nat) (v : Word) (k : Code → Act) : Act :=
  Act.get fun s =>
    if p ≠ 0 then Act.badValue (TIME.STEP p) ag k
    else Act.all [Act.store (TIME.STEP p) v, Act.modTim 0 (fun u => { u with step := some (v.toNat, s.edges) }), k .ok]

/-- The three PTP shadows take effect together, for every die of the package (R376, R385). -/
def ptpCommit : Act :=
  Act.get fun s =>
    Act.seq
      (Act.modTim 0 fun u =>
        { u with ptpSec := (s.reg (TIME.PTP_SEC 0)).toNat, ptpNs := s.fld (TIME.PTP_NS 0) TIME.PTP_NS.NS
                 ptpRef := (s.reg (TIME.PTP_REF 0)).toNat })
      (Act.each s.prismDies fun p => Act.setFld (TIME.CTRL p) TIME.CTRL.MAPPED 1)

/-- A write of TIME.CTRL (R373, R376, R385). -/
def timeCtrl (ag : Agent) (p : Nat) (v : Word) (k : Code → Act) : Act :=
  let c := fget v TIME.CTRL.COMMIT = 1
  if c ∧ p ≠ 0 then Act.badValue (TIME.CTRL p) ag k
  else
    Act.all [
      Act.store (TIME.CTRL p) (fset v TIME.CTRL.COMMIT 0),
      Act.when c ptpCommit,
      k .ok]

/-- PTP time of a die time: seconds and nanoseconds (R376). -/
def State.ptpOf (s : State) (t : Nat) : Nat × Nat :=
  let u := s.tim 0
  let n : Int := (u.ptpSec : Int) * 1000000000 + u.ptpNs + timeDiff t u.ptpRef
  (((n / 1000000000) % (2 ^ 48 : Int)).toNat, (n % 1000000000).toNat)

/-- Has a PTP mapping been committed since the start (R385)? -/
def State.mapped (s : State) : Bool := s.flag (TIME.CTRL 0) TIME.CTRL.MAPPED

/-- PTP_NOW_READ: a read of PTP_NOW_SEC latches the matching nanoseconds (R386). -/
def ptpNowRead (p : Nat) (k : Code → Word → Act) : Act :=
  Act.get fun s =>
    let t := if s.mapped then s.ptpOf (s.time p) else (0, 0)
    Act.seq (Act.modTim p fun u => { u with nowNs := t.2 }) (k .ok (BitVec.ofNat 48 t.1))

/-- TIME_CAPTURE: an edge on the TIME_CAP ball; the selected one latches the lead die's time (R376). -/
def timeCapture (falling : Bool) : Act :=
  Act.get fun s =>
    Act.when (s.flag (TIME.CTRL 0) TIME.CTRL.CAP_FALL = falling)
      (Act.seq (Act.setReg (TIME.CAP 0) (BitVec.ofNat 48 (s.time 0))) (Act.event (TIME.EVT 0) 2))

/-- PPS_PULSE: PTP nanoseconds pass 0: the lead die drives TIME_PPS high for 1 ms (R376). -/
def ppsPulse : Act :=
  Act.get fun s =>
    Act.when (s.flag (TIME.CTRL 0) TIME.CTRL.PPS_EN = true ∧ s.mapped = true)
      (Act.seq (Act.emit (.pps true)) (Act.emit (.pps false)))

end Sys2Proof.Machine
end

