-- ==== Sys2Proof/Machine/Signal.lean ====
section
/-! DEFINITION. The signal store, composed PDUs and tunnels (R451 to R466, R477). -/

namespace Sys2Proof.Machine

/-! ## What the engine sends -/

/-- A frame that an engine of die p offers at its facet f toward a queue, with a source facet and a timestamp (R450,
R460). -/
def Act.engineOut (p f dest src ts : Nat) (bus : Bool) (data : List Byte) : Act :=
  Act.get fun s =>
    let k := ck p f (qClass dest)
    Act.seq
      (Act.modBuf (fk p f) fun l => l ++
        [{ fr := { dest := dest, cls := qClass dest, flow := qFlow dest, src := src, ts := ts, fid := s.fidNo k, bus := bus
                   data := data }
           bufCls := qClass dest, looked := true, got := cellsOf data.length }])
      (Act.setFidNo k ((s.fidNo k + 1) % 65536))

/-- A bus frame from its fields (R393). -/
def mkBus (fmt id flags dlc sdt vcid filter af : Nat) (data : List Byte) : List Byte :=
  beBytes 4 (fmt * 2 ^ 29 + id % 2 ^ 29) ++ beBytes 1 flags ++ beBytes 1 dlc ++ beBytes 2 data.length ++ beBytes 1 sdt ++
    beBytes 1 vcid ++ beBytes 2 filter ++ beBytes 4 af ++ data

/-- The DLC of n data bytes in a format (R393). -/
def dlcOf (fmt n : Nat) : Nat := if fmt = 0 then n else if fmt = 1 then fdLengths.idxOf n else 0

/-- The next valid FD length from n on, 64 at most (R388). -/
def fdFit (n : Nat) : Nat := (fdLengths.find? fun x => Nat.ble n x).getD 64

/-- An event of SGW.EVT; every one interrupts firmware (R474). -/
def Act.sgwEvent (p i : Nat) : Act := Act.eventIrq (SGW.EVT p) i

/-- Count SGW counter i (R479). -/
def Act.sgwCount (p i : Nat) : Act := Act.count (SGW.CNT p i)

/-! ## Bits of a payload (R453) -/

/-- Do LEN bits from START lie within n bytes, in an order? -/
def bitsFit (big : Bool) (start len n : Nat) : Bool :=
  if big then decide (start / 8 * 8 + (7 - start % 8) + len ≤ 8 * n) else decide (start + len ≤ 8 * n)

/-- LEN bits of a payload from START, in an order; they lie within it. -/
def bitsOf (big : Bool) (start len : Nat) (b : List Byte) : Nat :=
  if big then beNat b / 2 ^ (8 * b.length - (start / 8 * 8 + (7 - start % 8)) - len) % 2 ^ len
  else leNat b / 2 ^ start % 2 ^ len

/-- A number with the LEN bits from bit o on set to v. -/
def putBits (n o len v : Nat) : Nat := n - n / 2 ^ o % 2 ^ len * 2 ^ o + v % 2 ^ len * 2 ^ o

/-- A payload with the LEN bits from START set to the low bits of v, in an order; they lie within it. -/
def bitsPut (big : Bool) (start len v : Nat) (b : List Byte) : List Byte :=
  if big then beBytes b.length (putBits (beNat b) (8 * b.length - (start / 8 * 8 + (7 - start % 8)) - len) len v)
  else leBytes b.length (putBits (leNat b) start len v)

/-! ## The signal store (R451 to R457) -/

/-- The key of signal i of die p. -/
def sigKey (p i : Nat) : Nat := p * 2 ^ 18 + i

/-- The key of PDU entry i of die p. -/
def pduKey (p i : Nat) : Nat := 4096 * p + i

/-- A word of signal descriptor i (R452): table 0x4D. -/
def State.desc (s : State) (p i w : Nat) : Word := s.tbl p 0x4D i w

/-- A word of PDU entry i (R458): table 0x4E. -/
def State.pduW (s : State) (p i w : Nat) : Word := s.tbl p 0x4E i w

/-- Is signal i stale at die time t (R456)? -/
def State.stale (s : State) (p i t : Nat) : Bool :=
  let ts := (s.sig (sigKey p i)).2
  let lim := fget (s.desc p i 1) ⟨0, 16⟩
  ts == 0 || (lim != 0 && decide (lim * 1000000 < (t + 2 ^ 48 - ts) % 2 ^ 48))

/-- Signal i has changed: the PDU that its descriptor names waits for composition (R459). A change that finds one waiting
joins it. -/
def Act.trigger (p i : Nat) : Act :=
  Act.get fun s =>
    let d := s.desc p i 1
    let q := fget d ⟨16, 12⟩
    Act.when (bit d 28 = true ∧ bit (s.pduW p q 0) 46 = true ∧ bit (s.pduW p q 3) 23 = true)
      (Act.modPdu (pduKey p q) fun u => { u with due := some (u.due.getD (s.time p)) })

/-- Write signals together with one timestamp (R451, R455): index and VALUE. -/
def Act.sigWrite (p : Nat) (l : List (Nat × Nat)) (ts : Nat) : Act :=
  Act.get fun s =>
    Act.seq (Act.each l fun e => Act.setSig (sigKey p e.1) (e.2, max 1 ts))
      (Act.each (l.filter fun e => (s.sig (sigKey p e.1)).1 != e.2 || (s.sig (sigKey p e.1)).2 == 0) fun e =>
        Act.trigger p e.1)

/-- What a descriptor extracts from a payload (R453): nothing, too short, or the raw value. -/
def State.rawSig (s : State) (p i : Nat) (b : List Byte) : Option (Option Nat) :=
  let d := s.desc p i 0
  let len := fget d ⟨19, 6⟩
  if len = 0 then none
  else if bitsFit (bit d 25) (fget d ⟨0, 19⟩) len b.length then some (some (bitsOf (bit d 25) (fget d ⟨0, 19⟩) len b))
  else some none

/-- VALUE of a raw value (R452): extended to 48 bits. -/
def State.sigValue (s : State) (p i raw : Nat) : Nat :=
  let d := s.desc p i 0
  if bit d 26 then ofSigned 48 (toSigned (fget d ⟨19, 6⟩) raw) else raw

/-- Extract the signals of a Beam entry from a payload (R454): n descriptors from the first, under its multiplexor. -/
def Act.extract (p first n : Nat) (mux : Bool) (b : List Byte) (ts : Nat) : Act :=
  Act.get fun s =>
    let m := if mux then (s.rawSig p first b).bind id else none
    let take := ((List.range n).map (first + ·)).filter fun i =>
      decide (i < 262144) && (!mux || i == first || !bit (s.desc p i 0) 27 ||
        m.any fun v => v % 65536 == fget (s.desc p i 0) ⟨28, 16⟩)
    let short := take.filter fun i => s.rawSig p i b == some none
    let vals := take.filterMap fun i => ((s.rawSig p i b).bind id).map fun v => (i, s.sigValue p i v)
    Act.all [
      Act.countBy (SGW.CNT p 6) short.length,
      Act.countBy (SGW.CNT p 5) vals.length,
      Act.sigWrite p vals ts]

/-- SIGNAL_SWEEP: no signal appears fresh when the counter wraps (R456). -/
def signalSweep (p : Nat) : Act :=
  Act.get fun s =>
    Act.each (s.gw.sigs.filter fun e =>
        e.1 / 2 ^ 18 == p && e.2.2 != 0 && fget (s.desc p (e.1 % 2 ^ 18) 1) ⟨0, 16⟩ != 0 &&
          decide (2 ^ 46 ≤ (s.time p + 2 ^ 48 - e.2.2) % 2 ^ 48)) fun e =>
      Act.setSig e.1 (e.2.1, 0)

/-- A write of SGW.SIG_CMD (R457, R477). -/
def sigCmd (ag : Agent) (p : Nat) (v : Word) (k : Code → Act) : Act :=
  let a := SGW.SIG_CMD p
  let i := fget v SGW.SIG_CMD.INDEX
  Act.get fun s =>
    match fget v SGW.SIG_CMD.OP with
    | 0 => Act.seq (Act.store a v) (k .ok)
    | 1 =>
      Act.all [Act.setReg a (fset v SGW.SIG_CMD.RESULT 0),
        Act.setReg (SGW.SIG_VAL p) (BitVec.ofNat 48 (s.sig (sigKey p i)).1),
        Act.setReg (SGW.SIG_TS p) (BitVec.ofNat 48 (s.sig (sigKey p i)).2), k .ok]
    | 2 =>
      if 258048 ≤ i then Act.seq (Act.setReg a (fset v SGW.SIG_CMD.RESULT 2)) (Act.badValue a ag k)
      else
        Act.all [Act.setReg a (fset v SGW.SIG_CMD.RESULT 0),
          Act.sigWrite p [(i, (s.reg (SGW.SIG_VAL p)).toNat)] (s.time p), k .ok]
    | _ => Act.badValue a ag k

/-! ## Tunnels: sending (R463 to R465) -/

/-- The key of tunnel t of die p. -/
def tunKey (p t : Nat) : Nat := 256 * p + t

/-- A word of tunnel t (R464): table 0x50. -/
def State.tunW (s : State) (p t w : Nat) : Word := s.tbl p 0x50 t w

/-- The stream ID of tunnel t (R464). -/
def State.tunStream (s : State) (p t : Nat) : Nat := (s.tunW p t 1).toNat + 2 ^ 48 * fget (s.tunW p t 2) ⟨0, 16⟩

/-- TUNNEL_SEND: tunnel t sends the messages it holds as one AVTPDU, an NTSCF (R463, R465; layout of IEEE 1722-2016). -/
def Act.sendTunnel (p t : Nat) : Act :=
  Act.get fun s =>
    let u := s.tun (tunKey p t)
    let body := u.msgs.flatten
    let w2 := s.tunW p t 2
    let out := fget w2 ⟨40, 8⟩
    let b := beBytes 6 (s.tunW p t 0).toNat ++ beBytes 6 (s.reg (ETH.MATCH (out / 64) (out % 64) 0)).toNat ++
      beBytes 2 0x8100 ++ beBytes 2 (fget w2 ⟨28, 3⟩ * 8192 + fget w2 ⟨16, 12⟩) ++ beBytes 2 0x22F0 ++
      beBytes 1 0x82 ++ beBytes 2 (0x8000 + body.length % 2048) ++ beBytes 1 u.tx ++ beBytes 8 (s.tunStream p t) ++ body
    let q := globalQueue (out / 64) (queueNo (out % 64) (fget (s.tunW p t 3) ⟨0, 3⟩) (fget (s.tunW p t 3) ⟨3, 5⟩))
    Act.when (u.msgs ≠ [])
      (Act.all [
        Act.setTun (tunKey p t) { u with msgs := [], tx := (u.tx + 1) % 256 },
        Act.countBy (SGW.CNT p 11) u.msgs.length,
        Act.engineOut p 59 q (globalFacet p 59) (s.time p) false (b ++ fcsOf b)])

/-- TUNNEL_SEND: MAX_WAIT has passed since the first message, or the tunnel is full (R465). -/
def tunnelSend (p t : Nat) : Act :=
  Act.get fun s =>
    let u := s.tun (tunKey p t)
    let w3 := s.tunW p t 3
    Act.when (s.enabled p 0x60 = true ∧ (fget w3 ⟨8, 5⟩ ≤ u.msgs.length ∨
        fget w3 ⟨13, 16⟩ * 1000 ≤ (s.time p + 2 ^ 48 - u.since) % 2 ^ 48)) (Act.sendTunnel p t)

/-- The ACF message of a bus frame (R463; layouts of IEEE 1722-2016): time is the PTP time, where one is mapped. -/
def acfMessage (busId : Nat) (time : Option Nat) (b : List Byte) : List Byte :=
  let d := bfData b
  let pad := (4 - d.length % 4) % 4
  let q := (d.length + pad) / 4
  let tail := beBytes 8 (time.getD 0)
  let fill := List.replicate pad (0 : Byte)
  if bfFormat b = 3 then
    beBytes 2 (3 * 512 + 3 + q) ++ beBytes 1 (pad * 64 + b2n time.isSome * 32 + busId % 32) ++ beBytes 1 (bfId b % 64) ++
      tail ++ d ++ fill
  else
    beBytes 2 (512 + 4 + q) ++
      beBytes 1 (pad * 64 + b2n time.isSome * 32 + b2n (bfFlag b 6) * 16 + b2n (bfFlag b 7) * 8 + b2n (bfFlag b 5) * 4 +
        b2n (bfFormat b == 1) * 2 + b2n (bfFlag b 4)) ++
      beBytes 1 (busId % 32) ++ tail ++ beBytes 4 (bfId b) ++ d ++ fill

/-- A bus frame joins tunnel t as one message (R465). XL frames, and a tunnel that does not send, take none (R449, R463). -/
def Act.tunnelAdd (p t busId ts : Nat) (b : List Byte) : Act :=
  Act.get fun s =>
    if bit (s.tunW p t 2) 31 = false ∨ bfFormat b = 2 then Act.sgwCount p 4
    else
      let time := if s.mapped then some ((s.ptpOf ts).1 * 1000000000 + (s.ptpOf ts).2) else none
      let m := acfMessage busId time b
      Act.all [
        Act.when (1500 < 12 + (s.tun (tunKey p t)).msgs.flatten.length + m.length) (Act.sendTunnel p t),
        Act.modTun (tunKey p t) (fun u =>
          { u with msgs := u.msgs ++ [m], since := if u.msgs = [] then s.time p else u.since }),
        Act.get fun v => Act.when (fget (s.tunW p t 3) ⟨8, 5⟩ ≤ (v.tun (tunKey p t)).msgs.length) (Act.sendTunnel p t)]

/-! ## Composing PDUs (R458 to R462) -/

/-- A word of placement i (R458): table 0x4F. -/
def State.placeW (s : State) (p i w : Nat) : Word := s.tbl p 0x4F i w

/-- The placements of PDU entry i (R458). -/
def State.placements (s : State) (p i : Nat) : List Nat :=
  let w3 := s.pduW p i 3
  ((List.range (fget w3 ⟨16, 7⟩)).map (fget w3 ⟨0, 16⟩ + ·)).filter fun j => decide (j < 65536)

/-- A payload with placement j written (R460). -/
def State.place (s : State) (p t : Nat) (b : List Byte) (j : Nat) : List Byte :=
  let w0 := s.placeW p j 0
  let i := fget w0 ⟨0, 18⟩
  let len := fget w0 ⟨32, 6⟩
  let v := if s.stale p i t then
      (match fget w0 ⟨39, 2⟩ with
       | 1 => (s.placeW p j 1).toNat
       | 2 => 2 ^ 48 - 1
       | _ => (s.sig (sigKey p i)).1)
    else (s.sig (sigKey p i)).1
  if bitsFit (bit w0 38) (fget w0 ⟨18, 14⟩) len b.length then bitsPut (bit w0 38) (fget w0 ⟨18, 14⟩) len v b else b

/-- The data bytes that PDU entry i composes at die time t (R460). -/
def State.pduData (s : State) (p i t : Nat) : List Byte :=
  let w0 := s.pduW p i 0
  let fill : Byte := BitVec.ofNat 8 (fget (s.pduW p i 3) ⟨25, 8⟩)
  (s.placements p i).foldl (s.place p t) (List.replicate (fget w0 ⟨33, 12⟩) fill)

/-- Has no placed signal of PDU entry i ever been received (R460)? -/
def State.pduNever (s : State) (p i : Nat) : Bool :=
  (s.placements p i).all fun j => (s.sig (sigKey p (fget (s.placeW p j 0) ⟨0, 18⟩))).2 == 0

/-- The bus frame of PDU entry i with its data bytes (R393, R458). -/
def State.pduFrame (s : State) (p i : Nat) (data : List Byte) : List Byte :=
  let w0 := s.pduW p i 0
  let fmt := fget w0 ⟨30, 2⟩
  mkBus fmt (fget w0 ⟨0, 29⟩)
    (b2n (fmt != 3 && bit w0 29) * 128 + b2n (fmt == 1 && bit w0 32) * 32 + b2n (fmt == 3 && bit w0 45) * 2)
    (dlcOf fmt data.length) 0 0 0 0 data

/-- A composed PDU goes to its queue or its tunnel (R458). -/
def Act.pduOut (p i : Nat) (data : List Byte) : Act :=
  Act.get fun s =>
    let w1 := s.pduW p i 1
    let t := fget w1 ⟨16, 8⟩
    if t = 0 then Act.engineOut p 59 (fget w1 ⟨0, 16⟩) (globalFacet p 59) (s.time p) true (s.pduFrame p i data)
    else Act.tunnelAdd p t (fget w1 ⟨36, 5⟩) (s.time p) (s.pduFrame p i data)

/-- Compose PDU entry i (R460 to R462): late by ns, fault the parity check of the sealing unit (R519). -/
def Act.compose (p i late : Nat) (fault : Bool) : Act :=
  Act.get fun s =>
    let data := s.pduData p i (s.time p)
    Act.all [
      Act.opt (s.pdu (pduKey p i)).last (fun t => Act.offerMon p 0x052 i (s.sinceNs p t / 100000 : Nat)),
      Act.modPdu (pduKey p i) (fun u => { u with last := some (s.time p) }),
      Act.sgwCount p 7,
      Act.when (100000 < late) (Act.seq (Act.sgwCount p 8) (Act.sgwEvent p 2)),
      (if bit (s.pduW p i 3) 24 = false ∧ s.pduNever p i = true then Act.skip
       else if bit (s.pduW p i 0) 47 = false then Act.pduOut p i data
       else if s.epochOk = false then Act.seq (Act.sgwCount p 10) (Act.sgwEvent p 1)
       else Act.sealPdu p (fget (s.pduW p i 1) ⟨24, 12⟩) 3 3 (sealUnit fault) data fun r => Act.opt r fun d => Act.pduOut p i d)]

/-- Does die p's engine compose PDU entry i: enabled, and the entry in use? -/
def State.composes (s : State) (p i : Nat) : Bool := s.enabled p 0x60 && bit (s.pduW p i 0) 46

/-- The ns since the latest cadence instant of PDU entry i, where one has come since cadences began (R459, R461). -/
def State.cadenceAge (s : State) (p i : Nat) : Option Nat :=
  let w2 := s.pduW p i 2
  let per := fget w2 ⟨0, 16⟩ * 100000
  let ph := fget w2 ⟨16, 16⟩ * 100000
  let now := s.time p
  if per = 0 ∨ now < ph then none
  else
    let age := (now - ph) % per
    if (s.cad p).any fun t => decide ((now + 2 ^ 48 - t) % 2 ^ 48 < age) then none else some age

/-- PDU_CADENCE: PDU entry i is composed for its latest cadence instant, once; instants missed before it are merged
(R459 to R461). -/
def pduCadence (p i : Nat) (fault : Bool) : Act :=
  Act.get fun s =>
    Act.when (s.composes p i = true)
      (Act.opt (s.cadenceAge p i) fun age =>
        let t := s.time p - age
        Act.when ((s.pdu (pduKey p i)).cad ≠ some t)
          (Act.all [
            Act.modPdu (pduKey p i) (fun u => { u with cad := some t }),
            Act.offerMon p 0x051 0 (age / 1000 : Nat),
            Act.compose p i age fault]))

/-- The ns by which a waiting change composition of PDU entry i is due: none while it waits for its gap (R459). -/
def State.changeAge (s : State) (p i : Nat) : Option Nat :=
  let u := s.pdu (pduKey p i)
  let gap := fget (s.pduW p i 2) ⟨32, 16⟩ * 100000
  let age := fun t => (s.time p + 2 ^ 48 - t) % 2 ^ 48
  match u.due, u.last with
  | none, _ => none
  | some v, none => some (age v)
  | some v, some l => if age l < gap then none else some (min (age v) (age l - gap))

/-- PDU_CHANGE_COMPOSE: the gap of a change-triggered composition has ended (R459). -/
def pduChangeCompose (p i : Nat) (fault : Bool) : Act :=
  Act.get fun s =>
    Act.when (s.composes p i = true)
      (Act.opt (s.changeAge p i) fun age =>
        Act.seq (Act.modPdu (pduKey p i) fun u => { u with due := none }) (Act.compose p i age fault))

/-- Cadences begin, or continue after a step, at the first instant at or after the present die time (R461). -/
def Act.cadencesFrom (p : Nat) : Act := Act.get fun s => Act.setCad p (some (s.time p))

/-- Forget, once they no longer matter, the times that the 48-bit counter would bring back when it wraps. -/
def Act.cadencesSettle (p : Nat) : Act :=
  Act.get fun s =>
    let old := fun (t : Nat) => decide (10000000000 < (s.time p + 2 ^ 48 - t) % 2 ^ 48)
    Act.seq (Act.when ((s.cad p).any old = true) (Act.setCad p none))
      (Act.each (s.gw.pdus.filter fun e => e.1 / 4096 == p && e.2.last.any old) fun e =>
        Act.setPdu e.1 { e.2 with last := none })

end Sys2Proof.Machine
end

