-- ==== Sys2Proof/Machine/Channel.lean ====
section
/-! DEFINITION. The load channels and sense inputs of the drive dies (R608 to R639, R784). -/

namespace Sys2Proof.Machine

/-! ## What drives and holds a channel -/

/-- The lowest valid Pinhole map entry of drive die d that names channel c (R640). -/
def State.mapOf (s : State) (d c : Nat) : Option Nat :=
  (List.range 8).find? fun j =>
    s.fuseFld (FUSE.PMAP d j) FUSE.PMAP.VALID == 1 && s.fuseFld (FUSE.PMAP d j) FUSE.PMAP.CHANNEL == c

/-- The map entry that drives channel c now: its drive die is in Pinhole mode (R640). -/
def State.mapNow (s : State) (d c : Nat) : Option Nat := if (s.drv d).pin then s.mapOf d c else none

/-- A CHN CF field of channel c as it acts now: under the Pinhole map the entry's PEAK, RAMP and RETRIES, and every other field
at its reset value (R640). -/
def State.chFld (s : State) (d c a : Nat) (f : Fld) (mapped : Option Fld) : Nat :=
  match s.mapNow d c with
  | none => s.fld a f
  | some j =>
    match mapped with
    | some g => s.fuseFld (FUSE.PMAP d j) g
    | none => fget (regReset a) f

/-- PEAK, in 0.5 A. -/
def State.chPeak (s : State) (d c : Nat) : Nat := s.chFld d c (CHN.CFG d c) CHN.CFG.PEAK (some FUSE.PMAP.PEAK)

/-- RAMP. -/
def State.chRamp (s : State) (d c : Nat) : Nat := s.chFld d c (CHN.CFG d c) CHN.CFG.RAMP (some FUSE.PMAP.RAMP)

/-- RETRIES. -/
def State.chRetries (s : State) (d c : Nat) : Nat := s.chFld d c (CHN.CFG d c) CHN.CFG.RETRIES (some FUSE.PMAP.RETRIES)

/-- BUDGET_MJ. -/
def State.chBudget (s : State) (d c : Nat) : Nat := s.chFld d c (CHN.CFG_B d c) CHN.CFG_B.BUDGET_MJ none

/-- REFILL_MW. -/
def State.chRefill (s : State) (d c : Nat) : Nat := s.chFld d c (CHN.CFG_B d c) CHN.CFG_B.REFILL_MW none

/-- DT_MAX, in K. -/
def State.chDtMax (s : State) (d c : Nat) : Nat := s.chFld d c (CHN.CFG_B d c) CHN.CFG_B.DT_MAX none

/-- Is channel c of drive die d a paired output of a paired unit (R551, R563)? -/
def State.isPaired (s : State) (d c : Nat) : Bool := s.flag (PAIR.CFG 0) PAIR.CFG.EN && bit (s.reg (PAIR.CH 0 d)) c

/-- The condition of R614 that holds channel c: 0 none, 1 Pinhole mode, 2 not owner, 3 overvoltage or disabled block. -/
def State.chHeld (s : State) (d c : Nat) : Nat :=
  let v := s.drv d
  if v.pin ∧ (s.mapOf d c).isNone then 1
  else if v.pin = false ∧ s.isPaired d c = true ∧ s.io.pair.owner = false then 2
  else if (s.supply d).ovOpen ∨ (v.pin = false ∧ s.enabled (4 + d) (8 + c) = false) then 3
  else 0

/-- Is the channel to drive: the command in force, or under the Pinhole map its filtered input (R611, R640)? -/
def State.chWants (s : State) (d c : Nat) : Bool :=
  match s.mapNow d c with
  | some j => ((s.drv d).mapIn / 2 ^ j % 2 == 1) != (s.fuseFld (FUSE.PMAP d j) FUSE.PMAP.INVERT == 1)
  | none => s.fld (CHN.CMD d c) CHN.CMD.OUT != 0

/-- Does the channel drive (R613): RAMP or DRIVE? -/
def Channel.drives (u : Channel) : Bool := u.st == .ramp || u.st == .drive

/-- Is the whole drive die in guarded mode (R625)? -/
def DriveDie.guarded (v : DriveDie) : Bool := v.coldFrom.isSome || v.caseSt != 1

/-- Does channel c run guarded (R625)? -/
def State.chGuarded (s : State) (d c : Nat) : Bool :=
  (s.drv d).guarded || (s.chan (xc d c)).guard || (s.chan (xc d c)).st == .selftest

/-- Does a channel exist in the build and does its island run? -/
def State.chIs (s : State) (d c : Nat) : Bool := decide (d < s.y) && decide (c < 28) && (s.supply d).chanOn

/-! ## Shared steps of the channel states (R613) -/

/-- An event of CHN.EVT; every one interrupts firmware. -/
def Act.chEvent (d c i : Nat) : Act := Act.eventIrq (CHN.EVT d c) i

/-- Count CHN counter i (R649). -/
def Act.chCount (d c i : Nat) : Act := Act.count (CHN.CNT d c i)

/-- Channel c opens, or stays open, in a state; a request of its turn-on is withdrawn (R598). -/
def Act.chOff (d c : Nat) (st : ChSt) : Act :=
  Act.seq
    (Act.modChan (xc d c) fun u =>
      { u with st := st, adm := .unsent, takeover := none, inLimit := false, test := if u.test = 3 then 0 else u.test })
    (Act.admWithdraw (some (xc d c)))

/-- Channel c asks for a turn-on (R598), guarded where it follows a trip or an overvoltage opening (R625). -/
def Act.chAsk (d c : Nat) (guarded : Bool) : Act :=
  Act.modChan (xc d c) fun u => { u with st := .waitAdmit, adm := .unsent, guard := u.guard || guarded }

/-- The command in force is applied as from OPEN (R613). -/
def Act.chApply (d c : Nat) (guarded : Bool) : Act :=
  Act.get fun s =>
    let u := s.chan (xc d c)
    Act.when (u.st = .openSt ∧ u.latches = [] ∧ s.chHeld d c = 0 ∧ s.chWants d c = true) (Act.chAsk d c guarded)

/-- The conditions of R614 are looked at again: one that has begun opens the channel; when the last ends, the command in force
is applied. -/
def Act.chSettle (d c : Nat) (guarded : Bool) : Act :=
  Act.get fun s =>
    let u := s.chan (xc d c)
    let h := s.chHeld d c
    Act.seq (Act.modChan (xc d c) fun u => { u with held := h })
      (if h ≠ 0 then Act.when (u.st ≠ .openSt ∧ u.st ≠ .latched) (Act.chOff d c .openSt)
       else Act.when (u.held ≠ 0) (Act.chApply d c guarded))

/-- Every channel of drive die d looks at the conditions of R614 again. -/
def Act.chSettleAll (d : Nat) (guarded : Bool) : Act := Act.each (List.range 28) fun c => Act.chSettle d c guarded

/-- A wish to open ends what the channel does (R613). -/
def Act.chStop (d c : Nat) : Act :=
  Act.get fun s =>
    match (s.chan (xc d c)).st with
    | .waitAdmit => Act.chOff d c .openSt
    | .openSt | .latched | .selftest => Act.skip
    | _ => Act.seq (Act.chOff d c .openSt) (Act.modChan (xc d c) fun u => { u with retry := 0 })

/-- The channel follows its command in force, or its input under the Pinhole map. -/
def Act.chFollow (d c : Nat) (guarded : Bool) : Act :=
  Act.get fun s => if s.chWants d c then Act.chApply d c guarded else Act.chStop d c

/-- A latch occurs: it is added to those held, and the channel is LATCHED (R784). A paired channel of the owner then asks for a
handover where AUTO_HANDOVER says so (R567). -/
def Act.chLatch (d c n : Nat) : Act :=
  Act.get fun s =>
    Act.all [
      Act.chOff d c .latched,
      Act.modChan (xc d c) (fun u => { u with latches := u.latches.filter (· != n) ++ [n] }),
      Act.when (s.isPaired d c = true ∧ s.flag (PAIR.CFG 0) PAIR.CFG.AUTO_HANDOVER = true)
        (Act.updIo fun m => { m with pair := { m.pair with wants := true } })]

/-- A short: open, and wait for a retry, or latch when none remains (R616, R618). -/
def Act.chShort (d c : Nat) : Act :=
  Act.get fun s =>
    Act.all [
      Act.chEvent d c 4,
      Act.chCount d c 4,
      (if (s.chan (xc d c)).retry < s.chRetries d c then
         Act.seq (Act.chOff d c .retryWait) (Act.modChan (xc d c) fun u => { u with since := s.edges })
       else Act.seq (Act.chLatch d c 2) (Act.chEvent d c 5))]

/-! ## Commands (R611, R612, R614, R646) -/

/-- The code of a command's source (R647). -/
def Agent.cmdSrc : Agent → Nat
  | .fw _ part _ _ => part
  | .image => 19
  | _ => 16

/-- CHN_CMD: a write of CHN.CMD (R53, R54, R611 to R614): a latched channel records it, Pinhole mode included, which discards every
other. -/
def chnCmd (ag : Agent) (d c : Nat) (v : Word) (k : Code → Act) : Act :=
  let a := CHN.CMD d c
  Act.get fun s =>
    let u := s.chan (xc d c)
    if fget v CHN.CMD.OUT = 3 ∨ 1000 < fget v CHN.CMD.DUTY then Act.badValue a ag k
    else if u.st ≠ .latched ∧ (s.drv d).pin then Act.seq (Act.chCount d c 10) (k .ok)
    else
      Act.all [
        Act.store a v,
        Act.modChan (xc d c) (fun u => { u with src := ag.cmdSrc, takeover := none }),
        (if u.st = .latched ∨ s.chHeld d c ≠ 0 then Act.chCount d c 9
         else if fget v CHN.CMD.OUT = 0 then Act.chStop d c
         else Act.chApply d c false),
        k .ok]

/-- May CLEAR_FAULT clear the latches of channel c now (R626)? -/
def State.clearOk (s : State) (d c : Nat) : Bool :=
  let u := s.chan (xc d c)
  let v := s.drv d
  !u.latches.contains 1 ||
    (decide (u.tj < 1500) && (decide (24 ≤ c) || decide (u.tj - (v.caseA + v.caseB) / 2 < ((s.chDtMax d c : Int) - 15) * 10)))

/-- The clamp level of channel c, in pJ (R632). -/
def State.chLevel (s : State) (d c : Nat) : Int :=
  (s.fld (CHN.CFG_B d c) CHN.CFG_B.BUDGET_MJ : Int) * 500000000 + (s.chan (xc d c)).level

/-- Set the clamp level of channel c, in pJ. -/
def Act.setLevel (d c : Nat) (n : Int) : Act :=
  Act.get fun s =>
    Act.modChan (xc d c) fun u => { u with level := n - (s.fld (CHN.CFG_B d c) CHN.CFG_B.BUDGET_MJ : Int) * 500000000 }

/-- Latches leave a channel; without any it is OPEN again and the command in force is applied (R613, R784). -/
def Act.chUnlatch (d c : Nat) (l : List Nat) : Act :=
  Act.get fun s =>
    let left := (s.chan (xc d c)).latches.filter fun n => !l.contains n
    Act.when ((s.chan (xc d c)).st = .latched ∧ left ≠ (s.chan (xc d c)).latches)
      (Act.seq (Act.modChan (xc d c) fun u => { u with latches := left, st := if left = [] then .openSt else .latched })
        (Act.chApply d c false))

/-- Is a write of CHN.CTRL refused (R621, R626, R633, R635, R643)? -/
def State.ctrlBad (s : State) (d c : Nat) (v : Word) : Bool :=
  let u := s.chan (xc d c)
  (s.drv d).pin ||
    (bit v 0 && (u.latches.contains 1 || u.latches.contains 2) && !s.clearOk d c) ||
    (bit v 1 && u.latches.contains 3 && decide (s.chLevel d c < (s.chBudget d c : Int) * 500000000)) ||
    (bit v 2 && (u.st != .openSt || u.latches != [] || s.chHeld d c != 0)) ||
    (bit v 3 && s.fld (CHN.CAL d c) CHN.CAL.RESULT == 1)

/-- CLEAR_FAULT, UNLOCK, SELFTEST, CAL: a write of CHN.CTRL (R621, R626, R633, R635). -/
def chnCtrl (ag : Agent) (d c : Nat) (v : Word) (k : Code → Act) : Act :=
  let a := CHN.CTRL d c
  Act.get fun s =>
    if s.ctrlBad d c v then Act.badValue a ag k
    else
      Act.all [
        Act.setReg a (word [(CHN.CTRL.CAL_REF_MA, fget v CHN.CTRL.CAL_REF_MA)]),
        Act.when (bit v 0 = true) (Act.chUnlatch d c [1, 2]),
        Act.when (bit v 1 = true) (Act.chUnlatch d c [3]),
        Act.when (bit v 2 = true) (Act.modChan (xc d c) fun u => { u with st := .selftest, adm := .unsent, test := 3 }),
        Act.when (bit v 3 = true) (Act.setFld (CHN.CAL d c) CHN.CAL.RESULT 1),
        k .ok]

/-- Is a value of CHN.CFG or CHN.CFG_B out of the range of channel c's kind (R608, R645)? reg is 0 or 1. -/
def chnCfgBad (c reg : Nat) (v : Word) : Bool :=
  let outside := fun (f : Fld) (lo hi : Nat) => decide (fget v f < lo) || decide (hi < fget v f)
  let heavy := decide (c < 6)
  let light := !heavy && decide (c < 24)
  if reg = 0 then
    (if heavy then outside CHN.CFG.PEAK 12 80 else if light then outside CHN.CFG.PEAK 3 20 else outside CHN.CFG.PEAK 20 400) ||
      decide (100 < fget v CHN.CFG.RAMP) ||
      (!(decide (24 ≤ c)) && outside CHN.CFG.LIMIT_MS 1 100) ||
      outside CHN.CFG.PWM_HZ 100 (if light then 20000 else 2000)
  else if heavy then
    outside CHN.CFG_B.DT_MAX 20 80 || outside CHN.CFG_B.BUDGET_MJ 100 1200 || outside CHN.CFG_B.REFILL_MW 5 50 ||
      fget v CHN.CFG_B.SHUNT_UOHM != 0
  else if light then
    outside CHN.CFG_B.DT_MAX 20 80 || outside CHN.CFG_B.BUDGET_MJ 20 250 || outside CHN.CFG_B.REFILL_MW 1 12 ||
      fget v CHN.CFG_B.SHUNT_UOHM != 0
  else
    fget v CHN.CFG_B.DT_MAX != 0 || fget v CHN.CFG_B.BUDGET_MJ != 0 || fget v CHN.CFG_B.REFILL_MW != 0 ||
      outside CHN.CFG_B.SHUNT_UOHM 100 2000

/-- CHN.CFG_B of channel c takes a value: one that changes BUDGET_MJ sets the level to half the new budget (R632). -/
def Act.setCfgB (d c : Nat) (v : Word) : Act :=
  Act.get fun s =>
    Act.seq (Act.store (CHN.CFG_B d c) v)
      (Act.when (fget v CHN.CFG_B.BUDGET_MJ ≠ s.fld (CHN.CFG_B d c) CHN.CFG_B.BUDGET_MJ)
        (Act.modChan (xc d c) fun u => { u with level := 0 }))

/-! ## Turn-on (R598, R613, R635) -/

/-- The claim of channel c's turn-on, in 0.5 A (R598, R635). -/
def State.chClaim (s : State) (d c : Nat) : Nat :=
  if (s.chan (xc d c)).st = .selftest then (if c < 6 then 12 else if c < 24 then 3 else 20)
  else if c < 24 then s.chPeak d c
  else 2 * s.fld (WAKE.ADM 0) WAKE.ADM.PD_CLAIM

/-- ADMISSION_REQUEST: the request of channel c reaches the lead die (R598, R599). -/
def admissionRequest (d c : Nat) : Act :=
  Act.get fun s =>
    let u := s.chan (xc d c)
    Act.when (s.chIs d c = true ∧ (u.st = .waitAdmit ∨ (u.st = .selftest ∧ u.test = 3)) ∧ u.adm = .unsent ∧ (s.drv d).pin = false ∧
        s.dlinkDown d = false)
      (Act.admRequest (some (xc d c)) (s.chClaim d c))

/-- A waiting turn-on begins (R613). -/
def Act.chBegin (d c : Nat) : Act :=
  Act.get fun s =>
    let ramps := s.chRamp d c != 0
    Act.seq
      (Act.modChan (xc d c) fun u => { u with st := if ramps then .ramp else .drive, adm := .unsent, since := s.edges })
      (Act.chCount d c 0)

/-- CHANNEL_GRANT: the grant reaches channel c (R613). -/
def channelGrant (d c : Nat) : Act :=
  Act.get fun s =>
    let u := s.chan (xc d c)
    if s.chIs d c = true ∧ u.adm = .granted ∧ s.dlinkDown d = false then
      (if u.st = .waitAdmit then Act.chBegin d c
       else Act.modChan (xc d c) fun u => { u with adm := .unsent, test := 3 })
    else Act.skip

/-- RAMP_DONE: the output of channel c has reached its target (R613). -/
def rampDone (d c : Nat) : Act :=
  Act.get fun s =>
    Act.when ((s.chan (xc d c)).st = .ramp) (Act.modChan (xc d c) fun u => { u with st := .drive, since := s.edges })

/-- SHORT_DETECT: a short during the ramp of channel c (R616, R618). -/
def shortDetect (d c : Nat) : Act := Act.get fun s => Act.when ((s.chan (xc d c)).st = .ramp) (Act.chShort d c)

/-- Has channel c held its current limit continuously for LIMIT_MS (R617)? -/
def State.limitOver (s : State) (d c : Nat) : Bool :=
  let u := s.chan (xc d c)
  u.inLimit && s.pastUs u.limAt (1000 * s.chFld d c (CHN.CFG d c) CHN.CFG.LIMIT_MS none)

/-- LIMIT_HELD: channel c has held its current limit for LIMIT_MS in DRIVE, or a pre-driver its overcurrent for 10 µs of
on-phases, which lie between slow-clock edges (R610, R617). -/
def limitHeld (d c : Nat) : Act :=
  Act.get fun s =>
    let u := s.chan (xc d c)
    Act.when (if c < 24 then u.st = .drive ∧ s.limitOver d c = true else u.st = .drive ∨ u.st = .ramp) (Act.chShort d c)

/-- RETRY_BACKOFF_END: the back-off of channel c, 10 · 2^k ms after its short, has ended (R618). -/
def retryBackoffEnd (d c : Nat) : Act :=
  Act.get fun s =>
    let u := s.chan (xc d c)
    Act.when (u.st = .retryWait ∧ s.pastUs u.since (10000 * 2 ^ u.retry) = true)
      (Act.all [Act.modChan (xc d c) fun u => { u with retry := u.retry + 1 }, Act.chCount d c 5, Act.chAsk d c true])

/-- RETRY_COUNT_RESET: channel c has stayed in DRIVE for 1 s (R613). -/
def retryCountReset (d c : Nat) : Act :=
  Act.get fun s =>
    let u := s.chan (xc d c)
    Act.when (u.st = .drive ∧ u.since + 32768 ≤ s.edges) (Act.modChan (xc d c) fun u => { u with retry := 0 })

/-! ## Heat (R623 to R629) -/

/-- A thermal trip opens channel c into COOL (R624, R625). -/
def Act.chTrip (d c : Nat) (guarded : Bool) (i n : Nat) : Act :=
  Act.all [Act.chOff d c .cool, Act.modChan (xc d c) fun u => { u with hotTrip := guarded }, Act.chEvent d c i, Act.chCount d c n]

/-- ΔT of channel c at its latest sample, in 0.1 K (R623). -/
def State.chDt (s : State) (d c : Nat) : Int := (s.chan (xc d c)).tj - ((s.drv d).caseA + (s.drv d).caseB) / 2

/-- DT_TRIP: ΔT of channel c has exceeded DT_MAX for 100 µs, one sampling period (R623, R624). -/
def dtTrip (d c : Nat) : Act :=
  Act.get fun s =>
    Act.when (c < 24 ∧ (s.chan (xc d c)).drives = true ∧ s.chGuarded d c = false ∧ (s.chDtMax d c : Int) * 10 < s.chDt d c)
      (Act.chTrip d c false 0 1)

/-- GUARD_WARN: Tj of guarded channel c has been at 150 °C for 100 µs, one sampling period (R623, R625). -/
def guardWarn (d c : Nat) : Act :=
  Act.get fun s =>
    Act.when (c < 24 ∧ s.chIs d c = true ∧ s.chGuarded d c = true ∧ 1500 ≤ (s.chan (xc d c)).tj) (Act.chEvent d c 1)

/-- GUARD_TRIP: Tj of guarded channel c has been at 170 °C for 100 µs, one sampling period (R623, R625). -/
def guardTrip (d c : Nat) : Act :=
  Act.get fun s =>
    Act.when (c < 24 ∧ (s.chan (xc d c)).drives = true ∧ s.chGuarded d c = true ∧ 1700 ≤ (s.chan (xc d c)).tj)
      (Act.chTrip d c true 2 2)

/-- COOL_END: channel c has cooled below the bound of its trip, at Tj in 0.1 °C (R613, R624, R625). -/
def coolEnd (d c : Nat) (tj : Int) : Act :=
  Act.get fun s =>
    let u := s.chan (xc d c)
    let v := s.drv d
    let cool := if u.hotTrip then decide (tj < 1500) else decide (tj - (v.caseA + v.caseB) / 2 < ((s.chDtMax d c : Int) - 15) * 10)
    Act.when (u.st = .cool ∧ cool = true)
      (Act.seq (Act.modChan (xc d c) fun u => { u with tj := tj }) (Act.chAsk d c true))

/-- GUARD_END: a guarded period ends: that of channel c, 500 ms in DRIVE without a trip, or the die-wide one after a cold start
(R625). -/
def guardEnd (d : Nat) (ch : Option Nat) : Act :=
  Act.get fun s =>
    match ch with
    | some c =>
      let u := s.chan (xc d c)
      Act.when (u.st = .drive ∧ u.since + 16384 ≤ s.edges) (Act.modChan (xc d c) fun u => { u with guard := false })
    | none =>
      let v := s.drv d
      Act.when ((v.coldFrom.any fun t => Nat.ble (t + 16384) s.edges) = true ∧ v.caseSt = 1)
        (Act.seq (Act.modDrv d fun v => { v with coldFrom := none }) (Act.event (THM.EVT d) 3))

/-- A hard trip of channel c (R626, R627). -/
def Act.chHard (d c : Nat) : Act := Act.all [Act.chLatch d c 1, Act.chEvent d c 3, Act.chCount d c 3]

/-- HARD_TRIP: Tj of channel c has reached 175 °C (R613, R626). -/
def hardTrip (d c : Nat) : Act :=
  Act.get fun s => Act.when (c < 24 ∧ s.chIs d c = true ∧ (s.chan (xc d c)).st ≠ .openSt) (Act.chHard d c)

/-- LOGIC_HOT: the case reference has exceeded 150 °C for 100 µs, one sampling period: every driving channel latches (R627). -/
def logicHot (d : Nat) : Act :=
  Act.get fun s =>
    Act.when (d < s.y ∧ (s.supply d).chanOn = true ∧ 1500 < ((s.drv d).caseA + (s.drv d).caseB) / 2)
      (Act.seq (Act.event (THM.EVT d) 2)
        (Act.each ((List.range 28).filter fun c => (s.chan (xc d c)).drives) fun c => Act.chHard d c))

/-- The case sensors read a and b, in 0.1 °C. -/
def Act.caseRead (d : Nat) (a b : Int) : Act := Act.modDrv d fun v => { v with caseA := a, caseB := b }

/-- CASE_FAULT: the case sensors have differed by more than 10 K for 10 ms (R623). -/
def caseFault (d : Nat) (a b : Int) : Act :=
  Act.get fun s =>
    Act.when (d < s.y ∧ 100 < (a - b).natAbs)
      (Act.all [Act.caseRead d a b, Act.modDrv d fun v => { v with caseSt := 2 }, Act.event (THM.EVT d) 0])

/-- CASE_FAULT_END: the case sensors have agreed within 5 K for 1 s (R623). -/
def caseFaultEnd (d : Nat) (a b : Int) : Act :=
  Act.get fun s =>
    Act.when (d < s.y ∧ (a - b).natAbs ≤ 50) (Act.seq (Act.caseRead d a b) (Act.modDrv d fun v => { v with caseSt := 1 }))

/-! ## The clamp budget (R630 to R634) -/

/-- CLAMP_EVENT_END: a clamp event of channel c ends, its energy estimated as e µJ (R631, R632, R634). -/
def clampEventEnd (d c e : Nat) : Act :=
  Act.get fun s =>
    let n := max (-(s.chBudget d c : Int) * 1000000000) (s.chLevel d c - (e : Int) * 1000000)
    Act.when (s.chIs d c = true)
      (Act.all [
        Act.chCount d c 6,
        Act.when (s.dlinkDown d = false) (Act.offerMon (s.attachedTo d) 0x072 (32 * d + c) e),
        Act.setFld (CHN.CLAMP d c) CHN.CLAMP.LAST (sat (2 ^ 24 - 1) e),
        Act.when (c < 24)
          (Act.seq (Act.setLevel d c n)
            (Act.when (n ≤ 0) (Act.all [Act.chLatch d c 3, Act.chEvent d c 6, Act.chCount d c 7])))])

/-- CLAMP_REFILL: at a slow-clock edge the clamp levels of drive die d refill (R632). -/
def clampRefill (d : Nat) : Act :=
  Act.get fun s =>
    Act.when (d < s.y ∧ (s.supply d).chanOn = true)
      (Act.each (List.range 24) fun c =>
        Act.get fun t =>
          Act.when (t.chLevel d c < (t.chBudget d c : Int) * 1000000000)
            (Act.setLevel d c (min ((t.chBudget d c : Int) * 1000000000) (t.chLevel d c + (t.chRefill d c : Int) * 30520))))

/-! ## Self-test, current, calibration, open load (R619 to R622, R635) -/

/-- SELFTEST_END: the self-test of channel c ends; pass says that each check held (R635). -/
def selftestEnd (d c : Nat) (pass : Bool) : Act :=
  Act.get fun s =>
    Act.when ((s.chan (xc d c)).st = .selftest)
      (Act.all [
        Act.chOff d c .openSt,
        Act.modChan (xc d c) (fun u => { u with test := if pass then 1 else 2 }),
        Act.when (pass = false) (Act.chEvent d c 8),
        Act.chApply d c false])

/-- CURRENT_SAMPLE: channel c samples its current, i mA on the factory curve, while its junction is at tj and the case sensors
read a and b, in 0.1 °C; lim says whether its current limit is active (R619 to R621, R623). -/
def currentSample (d c : Nat) (i tj a b : Int) (lim : Bool) : Act :=
  Act.get fun s =>
    let u := s.chan (xc d c)
    let r := CHN.CAL d c
    let ref := (s.fld r CHN.CAL.I_CAL_MA : Int)
    let used := s.flag r CHN.CAL.VALID && decide (ref ≤ 4 * i) && decide (i ≤ 4 * ref) &&
      decide ((tj - toSigned 12 (s.fld r CHN.CAL.T_CAL)).natAbs ≤ 200)
    Act.when (s.chIs d c = true)
      (Act.all [
        Act.setChan (xc d c)
          { u with
            cur := if used then i * (u.calRef : Int) / u.calMean else i
            tj := if c < 24 then tj else 0
            factory := !used
            inLimit := lim
            limAt := if u.inLimit then u.limAt else s.edges },
        Act.caseRead d a b,
        Act.modDrv d fun v => { v with caseSt := if v.caseSt = 0 ∧ (a - b).natAbs ≤ 100 then 1 else v.caseSt }])

/-- CAL_DONE: the 64 samples of channel c average mean mA on the factory curve; vary says that they vary by more than 2% of it
(R621). -/
def calDone (d c : Nat) (mean : Int) (vary : Bool) : Act :=
  Act.get fun s =>
    let u := s.chan (xc d c)
    let r := CHN.CAL d c
    let ref := s.fld (CHN.CTRL d c) CHN.CTRL.CAL_REF_MA
    Act.when (s.fld r CHN.CAL.RESULT = 1)
      (if vary = true ∨ mean = 0 ∨ u.st ≠ .drive then Act.setFld r CHN.CAL.RESULT 3
       else
         Act.all [
           Act.setFlds r [(CHN.CAL.VALID, 1), (CHN.CAL.I_CAL_MA, ref), (CHN.CAL.T_CAL, ofSigned 12 u.tj), (CHN.CAL.RESULT, 2)],
           Act.modChan (xc d c) (fun u => { u with calRef := ref, calMean := mean }),
           Act.chEvent d c 9])

/-- May channel c report an open load (R622): in DRIVE while its current is below OPEN_ON_MA, in OPEN with OFF_DIAG? -/
def State.openAble (s : State) (d c : Nat) : Bool :=
  let u := s.chan (xc d c)
  (u.st == .drive && decide (u.cur < s.chFld d c (CHN.CFG_B d c) CHN.CFG_B.OPEN_ON_MA none)) ||
    (u.st == .openSt && s.chFld d c (CHN.CFG d c) CHN.CFG.OFF_DIAG none == 1)

/-- OPEN_LOAD: an open-load condition of channel c has lasted 10 ms, or has been absent for 10 ms (R622). -/
def openLoad (d c : Nat) (onset : Bool) : Act :=
  Act.get fun s =>
    let u := s.chan (xc d c)
    if onset then
      Act.when (s.chIs d c = true ∧ s.openAble d c = true ∧ u.openLoad = false)
        (Act.all [Act.modChan (xc d c) fun u => { u with openLoad := true }, Act.chEvent d c 7, Act.chCount d c 8])
    else Act.modChan (xc d c) fun u => { u with openLoad := false }

/-- The on-resistance of channel c in µΩ at tj in 0.1 °C: the straight line of R629. -/
def onResistance (c : Nat) (tj : Int) : Int := if c < 6 then 6000 + 36 * (tj - 250) / 10 else 23000 + 136 * (tj - 250) / 10

/-- The dissipation of channels 0 to 23 of drive die d, in pW (R629). -/
def State.diePower (s : State) (d : Nat) : Nat :=
  (((List.range 24).map fun c => (s.chan (xc d c)).cur * (s.chan (xc d c)).cur * onResistance c (s.chan (xc d c)).tj).sum).toNat

/-- DIE_POWER_ESTIMATE: at a slow-clock edge drive die d estimates its dissipation; each second's mean goes to THM.STAT.POWER
(R629). -/
def diePowerEstimate (d : Nat) : Act :=
  Act.get fun s =>
    let v := s.drv d
    let sum := v.powerSum + s.diePower d
    Act.when (d < s.y ∧ (s.supply d).chanOn = true)
      (if v.powerN + 1 < 32768 then Act.setDrv d { v with powerSum := sum, powerN := v.powerN + 1 }
       else
         let mean := sum / 32768
         let past := decide (12 * 10 ^ 12 < mean)
         Act.all [
           Act.setDrv d { v with powerSum := 0, powerN := 0, overPower := past },
           Act.setFld (THM.STAT d) THM.STAT.POWER (sat 4095 (mean / 10 ^ 10)),
           Act.when (past = true ∧ v.overPower = false) (Act.event (THM.EVT d) 1)])

/-! ## Sense inputs and measurements (R636, R637, R639) -/

/-- Does drive die d measure input i (R636)? -/
def State.inputOn (s : State) (d i : Nat) : Bool :=
  decide (d < s.y) && decide (i < 24) && (s.supply d).chanOn && s.enabled (4 + d) 0x28 && s.flag (IN.CFG d i) IN.CFG.EN

/-- A number with bit i set or clear. -/
def putBit (n i : Nat) (v : Bool) : Nat := putBits n i 1 (b2n v)

/-- The threshold of a low-power comparator, in mV, by its code (R590). -/
def comparatorMv (code : Nat) : Nat := match code with | 0 => 2000 | 1 => 4500 | 2 => 8000 | _ => 16000

/-- The state that a filtered level of mv takes between two thresholds: none keeps the state it had. -/
def levelState (lo hi mv : Nat) : Option Bool := if hi ≤ mv then some true else if mv ≤ lo then some false else none

/-- The digital state that input i takes where it has stayed at mv for FILT_MS (R636). -/
def State.inputLevel (s : State) (d i mv : Nat) : Option Bool :=
  levelState (100 * s.fld (IN.CFG d i) IN.CFG.TH_LO) (100 * s.fld (IN.CFG d i) IN.CFG.TH_HI) mv

/-- The state that the comparator of Pinhole map entry j takes where its input has stayed at mv for 10 ms (R590, R640); the
hysteresis lies below the threshold (log entry 137). -/
def State.mapLevel (s : State) (d j mv : Nat) : Option Bool :=
  let th := comparatorMv (s.fuseFld (FUSE.PMAP d j) FUSE.PMAP.TH)
  levelState (th * 9 / 10) th mv

/-- Input i of drive die d takes digital state v (R636). -/
def Act.inputTakes (d i : Nat) (v : Bool) : Act :=
  Act.get fun s =>
    Act.when (((s.drv d).inputs / 2 ^ i % 2 == 1) ≠ v)
      (Act.all [
        Act.modDrv d (fun x => { x with inputs := putBit x.inputs i v }),
        Act.eventIrq (IN.EVT d) 0,
        Act.setReg (IN.LAST d) (word [(IN.LAST.INPUT, i), (IN.LAST.DIR, b2n v)])])

/-- Pinhole map entry j sees its input at state v; the channel that the entry drives follows (R640). -/
def Act.mapTakes (d j : Nat) (v : Bool) : Act :=
  Act.get fun s =>
    let c := s.fuseFld (FUSE.PMAP d j) FUSE.PMAP.CHANNEL
    Act.seq (Act.modDrv d fun x => { x with mapIn := putBit x.mapIn j v })
      (Act.when ((s.drv d).pin = true ∧ s.mapOf d c = some j) (Act.chFollow d c false))

/-- INPUT_STATE_CHANGE: input i of drive die d has stayed at mv for its filter's time, and its state follows its thresholds
(R636); or, with an entry of the Pinhole map, as the entry's always-on comparator sees it (R640). -/
def inputStateChange (d i mv : Nat) (entry : Option Nat) : Act :=
  Act.get fun s =>
    match entry with
    | some j =>
      let a := FUSE.PMAP d j
      Act.when (d < s.y ∧ j < 8 ∧ s.fuseFld a FUSE.PMAP.VALID = 1 ∧ s.fuseFld a FUSE.PMAP.INPUT = i)
        (Act.opt (s.mapLevel d j mv) (Act.mapTakes d j))
    | none => Act.when (s.inputOn d i = true) (Act.opt (s.inputLevel d i mv) (Act.inputTakes d i))

/-- WET_FAULT: the wetting source of input i cannot deliver its current (R637). -/
def wetFault (d i : Nat) : Act :=
  Act.get fun s =>
    Act.when (s.inputOn d i = true ∧ s.fld (IN.CFG d i) IN.CFG.WET ≠ 0) (Act.event (IN.EVT d) 1)

/-- The value that a measurement item of drive die d has, where its period's mean is v (R639). -/
def State.measured (s : State) (d item : Nat) (v : Int) : Option Int :=
  let c := item % 32
  if item < 28 then
    some (if s.fld (CHN.CMD d c) CHN.CMD.OUT = 2 then v * (s.fld (CHN.CMD d c) CHN.CMD.DUTY : Int) / 1000 else v)
  else if 0x20 ≤ item ∧ item < 0x38 then some (s.chan (xc d c)).tj
  else if 0x40 ≤ item ∧ item < 0x58 then (if s.inputOn d (item - 0x40) then some v else none)
  else if item = 0x60 then some ((s.supply d).vbat * 10)
  else if item = 0x61 then some (((s.drv d).caseA + (s.drv d).caseB) / 2)
  else none

/-- The source code and the attachment argument of a measurement item of drive die d (R653). -/
def itemSource (d item : Nat) : Nat × Nat :=
  if item < 28 then (0x070, 32 * d + item)
  else if item < 0x38 then (0x071, 32 * d + (item - 0x20))
  else if item < 0x58 then (0x074, 32 * d + (item - 0x40))
  else (if item = 0x60 then 0x075 else 0x076, d)

/-- MEASUREMENT_WRITE: drive die d sends an item to the signal store of its attached Prism die; v is the mean of the item's
period (R457, R639). -/
def measurementWrite (d item : Nat) (v : Int) : Act :=
  Act.get fun s =>
    let p := s.attachedTo d
    Act.when (d < s.y ∧ (s.supply d).chanOn = true ∧ s.dlinkDown d = false)
      (Act.opt (s.measured d item v) fun n =>
        Act.seq (b := Act.offerMon p (itemSource d item).1 (itemSource d item).2 n) <|
        Act.seq
          (Act.when (0x40 ≤ item ∧ item < 0x58) (Act.setFld (IN.VAL d (item - 0x40)) IN.VAL.V n.toNat))
          (Act.sigWrite p [(0x3F000 + 0x400 * s.rankOf d + item, ofSigned 48 n)] (s.time p)))

/-! ## Ownership as the channels see it (R565, R614) -/

/-- Every paired channel looks at the conditions of R614 again. -/
def Act.pairSettle : Act := Act.get fun s => Act.each (s.driveDies) fun d => Act.chSettleAll d false

/-- This unit ceases to own: PAIR_OWN is released and the paired channels open (R565). -/
def Act.dropOwner : Act :=
  Act.get fun s =>
    let was := s.io.pair.owner
    Act.all [
      Act.updIo fun m => { m with pair := { m.pair with owner := false, pulls := false, claim := .none } },
      Act.when (was = true) (Act.seq (Act.eventIrq (PAIR.EVT 0) 5) Act.pairSettle)]

end Sys2Proof.Machine
end

