-- ==== Sys2Proof/Machine/Lin.lean ====
section
/-! DEFINITION. The LIN commanders: schedules, slots, responses, publish buffers (R389, R417 to R423, R435 to R437). -/

namespace Sys2Proof.Machine

/-- The key of LIN controller c of die p. -/
def linKey (p c : Nat) : Nat := 8 * p + c

/-- The key of the publish buffer of an identifier. -/
def pubKey (p c id : Nat) : Nat := (8 * p + c) * 64 + id

/-- Count LIN counter i (R437). -/
def Act.linCount (p c i : Nat) : Act := Act.count (LIN.CNT p c i)

/-- Fields of a schedule entry (R417). -/
def linType (w : Word) : Nat := fget w ⟨0, 3⟩
/-- ID of a schedule entry. -/
def linId (w : Word) : Nat := fget w ⟨3, 6⟩
/-- LEN of a schedule entry. -/
def linLen (w : Word) : Nat := fget w ⟨9, 4⟩
/-- ENH of a schedule entry. -/
def linEnh (w : Word) : Bool := bit w 13

/-- Word i of the schedule memory of die p (R417). -/
def State.schedEntry (s : State) (p i : Nat) : Word := s.tbl p 0x4B i 0

/-- The number of entries of table t of a controller. -/
def State.linTblLen (s : State) (p c t : Nat) : Nat := s.fld (LIN.TBL p c t) LIN.TBL.LEN

/-- Entry e of table t of a controller. -/
def State.linEntry (s : State) (p c t e : Nat) : Word := s.schedEntry p (s.fld (LIN.TBL p c t) LIN.TBL.FIRST + e)

/-- Does a schedule entry break R417? A gap has no header and no response, so its ID and LEN are free. -/
def schedBad (w : Word) : Bool :=
  let t := linType w
  let n := linLen w
  t == 7 || fget w ⟨14, 16⟩ == 0 || fget w ⟨34, 14⟩ != 0 ||
    (t ≤ 3 && (decide (59 < linId w) || n == 0 || decide (8 < n))) ||
    (t == 4 && linId w != 0x3C) || (t == 5 && linId w != 0x3D) || ((t == 4 || t == 5) && (n != 8 || linEnh w))

/-- Does some entry of a controller's tables publish an identifier (R421)? -/
def State.linPublishes (s : State) (p c id : Nat) : Bool :=
  (List.range 8).any fun t => (List.range (s.linTblLen p c t)).any fun e =>
    let w := s.linEntry p c t e
    (linType w == 0 || linType w == 3 || linType w == 4) && linId w == id

/-- Record an error of R422: kind 1 to 5 with its counter; a collision is kind 6 and no error event. -/
def Act.linError (p c id kind : Nat) : Act :=
  Act.all [
    (match kind with
     | 1 => Act.linCount p c 7
     | 2 => Act.linCount p c 3
     | 3 => Act.linCount p c 4
     | 4 => Act.linCount p c 6
     | 5 => Act.linCount p c 5
     | _ => Act.linCount p c 8),
    Act.event (LIN.EVT p c) (if kind = 6 then 1 else 0),
    Act.setReg (LIN.LAST p c) (word [(LIN.LAST.ID, id), (LIN.LAST.ERR, kind)])]

/-- What LIN controller c of die p puts on its bus: a header with its break length, bit time and protected identifier, and the response
with its checksum where it sends one (R389, R418, R435). -/
def Act.linOut (p c id : Nat) (enh : Bool) (data : List Byte) : Act :=
  Act.get fun s =>
    Act.emit (.lin p c (s.fld (LIN.CFG p c) LIN.CFG.BREAK) (s.fld (LIN.CFG p c) LIN.CFG.BIT_TIME) (linPid id)
      (if data.isEmpty then [] else data ++ [linCheck id enh data]))

/-- A header of an identifier, late µs after its slot began, whose read-back is good or not (R422, R423, R439). After a good one in
BUS_FAULT, the controller runs again. -/
def Act.linHeader (p c id late : Nat) (good : Bool) : Act :=
  Act.seq (b := Act.offerMon p 0x048 (48 + c) late) <|
  Act.seq (Act.linCount p c 0)
    (if good then
       Act.modLin (linKey p c) fun u => { u with badHeads := 0, st := if u.st = .busFault then .running else u.st }
     else
       Act.seq (Act.linError p c id 1) (Act.modLin (linKey p c) fun u => { u with badHeads := u.badHeads + 1 }))

/-- Send a response of the commander with its bytes. -/
def Act.linSend (p c id : Nat) (enh : Bool) (data : List Byte) (good : Bool) : Act :=
  Act.seq (Act.linOut p c id enh data) (if good then Act.linCount p c 1 else Act.linError p c id 1)

/-- What a slot does by the TYPE of its entry (R422). rb is the read-back: 0 good, 1 the header's fails, 2 the response's
fails. -/
def Act.linSlotEntry (p c : Nat) (w : Word) (rb late : Nat) : Act :=
  Act.get fun s =>
    let id := linId w
    let b := s.pub (pubKey p c id)
    let publish :=
      Act.seq (Act.linHeader p c id late (rb != 1))
        (Act.when (rb ≠ 1)
          (Act.seq (Act.linSend p c id (linEnh w) ((beBytes 8 b.1).take (linLen w)) (rb == 0))
            (Act.setPub (pubKey p c id) (b.1, false))))
    match linType w with
    | 0 => publish
    | 4 => publish
    | 3 => if b.2 then publish else Act.skip
    | 6 => Act.skip
    | _ =>
      Act.seq (Act.linHeader p c id late (rb != 1))
        (Act.when (rb ≠ 1)
          (Act.seq (Act.linOut p c id false []) (Act.modLin (linKey p c) fun u => { u with waiting := some w.toNat })))

/-- What the next slot runs: the table and the entry, after a switch, a collision-resolving run, its end, or the next entry
in turn (R418, R420, R422). The answer's third part is the interrupted table and entry of a resolving run. -/
def State.linNext (s : State) (p c : Nat) : Nat × Nat × Option (Nat × Nat) :=
  let u := s.lin (linKey p c)
  match u.switchTo, u.resolveNext with
  | some t, _ => (t, 0, none)
  | none, some t => (t, 0, some (u.table, u.next))
  | none, none =>
    match u.resolving with
    | some (t, e) =>
      if u.next < s.linTblLen p c u.table then (u.table, u.next, some (t, e))
      else (t, if e < s.linTblLen p c t then e else 0, none)
    | none => (u.table, if u.next < s.linTblLen p c u.table then u.next else 0, none)

/-- LIN_SLOT: a slot begins, its header late µs after it. overrun says that the last slot's frame was still on the bus at its end (R418 to
R422). Where the transceiver does not drive the bus, the header's read-back fails (R425, R427, R765). -/
def linSlot (p c readBack late : Nat) (overrun : Bool) : Act :=
  Act.get fun s =>
    let u := s.lin (linKey p c)
    let set := fun f => Act.modLin (linKey p c) f
    let rb := if s.linDrives p c then readBack else 1
    Act.when (u.st ≠ .off ∧ (u.st ≠ .sleep ∨ u.switchTo.isSome) ∧
        ((u.st ≠ .stopped ∧ (u.st ≠ .busFault ∨ u.halted = false)) ∨ u.switchTo.isSome ∨ u.goSleep))
      (Act.seq (Act.when (overrun = true) (Act.seq (Act.linCount p c 9) (Act.event (LIN.EVT p c) 2)))
        (if u.goSleep then
           Act.all [
             Act.linHeader p c 0x3C late (rb != 1),
             Act.when (rb ≠ 1) (Act.linSend p c 0x3C false [0x00, 0xFF, 0xFF, 0xFF, 0xFF, 0xFF, 0xFF, 0xFF] (rb == 0)),
             set fun v => { v with st := .sleep, goSleep := false, resolving := none, resolveNext := none, waiting := none }]
         else if u.stop then set fun v => { v with st := .stopped, stop := false, resolving := none, resolveNext := none, waiting := none }
         else
           let n := s.linNext p c
           if s.linTblLen p c n.1 = 0 then
             set fun v => { v with st := .stopped, table := n.1, entry := 0, next := 0, switchTo := none, resolving := none
                                   resolveNext := none, waiting := none }
           else
             Act.seq
               (set fun v => { v with st := if v.st = .busFault then .busFault else .running, table := n.1, entry := n.2.1
                                      next := n.2.1 + 1, halted := false, switchTo := none, resolving := n.2.2, resolveNext := none, waiting := none })
               (Act.linSlotEntry p c (s.linEntry p c n.1 n.2.1) rb late)))

/-- The bus frame of a LIN response (R393). -/
def linFrame (id : Nat) (enh : Bool) (data : List Byte) : List Byte :=
  beBytes 4 (3 * 2 ^ 29 + id) ++ beBytes 1 (2 * b2n enh) ++ [0] ++ beBytes 2 data.length ++ [0, 0] ++ beBytes 2 0xFFFF ++
    beBytes 4 0 ++ data

/-- The error of a response of which raw arrived in time, in the order of R422 and with the numbers of LAST.ERR; 0 where there is none.
fault is 1 where a read-back failed, 4 where a stop bit was not recessive. -/
def linFault (w : Word) (fault : Nat) (raw : List Byte) : Nat :=
  let n := linLen w
  if fault = 1 then 1
  else if raw = [] then 2
  else if raw.length < n + 1 then 3
  else if fault = 4 then 4
  else if raw.getD n 0 = linCheck (linId w) (linEnh w) (raw.take n) then 0
  else 5

/-- LIN_RESPONSE: the response awaited completes or fails: raw is what arrived in time, its data and its checksum; fault a failed read-back
(1) or stop bit (4). ago is the time in ns since the falling edge of the header's break (R394, R422). Behind a transceiver in standby or
off nothing arrives (R425). -/
def linResponse (p c fault : Nat) (raw : List Byte) (ago : Nat) : Act :=
  Act.get fun s =>
    let u := s.lin (linKey p c)
    Act.opt u.waiting fun n =>
      let w : Word := BitVec.ofNat 48 n
      let ts := (s.time p + 2 ^ 48 - ago % 2 ^ 48) % 2 ^ 48
      let f := 48 + c
      let event := linType w == 2
      let err := linFault w fault (if s.linHears p c then raw else [])
      Act.seq (Act.modLin (linKey p c) fun v => { v with waiting := none })
        (if err = 0 then
           (if 4 < s.busCells p f + 1 then Act.seq (Act.linCount p c 11) (Act.event (LIN.EVT p c) 4)
            else
              Act.all [
                Act.linCount p c 2,
                Act.busOffer p f (linFrame (linId w) (linEnh w) (raw.take (linLen w))) ts,
                Act.get fun t => Act.offerMon p 0x044 f (t.busCells p f)])
         else if event ∧ err = 2 then Act.skip
         else if event then
           Act.seq (Act.linError p c (linId w) 6)
             (Act.when (bit w 30 = true ∧ u.resolving = none)
               (Act.modLin (linKey p c) fun v => { v with resolveNext := some (fget w ⟨31, 3⟩) }))
         else Act.linError p c (linId w) err)

/-- LIN_BUS_FAULT: four headers in a row failed their read-back, or the bus is stuck dominant, as a controller with or without a running
schedule sees it (R423; log entry 133: not one in SLEEP). -/
def linBusFault (p c : Nat) (stuck : Bool) : Act :=
  Act.get fun s =>
    let u := s.lin (linKey p c)
    Act.when ((u.st = .running ∧ 4 ≤ u.badHeads) ∨ ((u.st = .running ∨ u.st = .stopped) ∧ stuck = true))
      (Act.all [
        Act.modLin (linKey p c) (fun v => { v with st := .busFault, halted := u.st == .stopped }),
        Act.linCount p c 12,
        Act.event (LIN.EVT p c) 3])

/-- Write a publish buffer with DATA_LEN bytes, the rest zero, and set PENDING (R421). -/
def Act.linBuffer (p c id : Nat) (data : List Byte) : Act := Act.setPub (pubKey p c id) (beNat (padTo 8 data), true)

/-- LIN_PUBLISH: the next bus frame in the egress queues of a LIN facet is taken (R421). -/
def linPublish (p c : Nat) : Act :=
  Act.take p (48 + c) (fun _ => true) fun _ r =>
    Act.get fun s =>
      let b := r.fr.data
      if bfFormat b = 3 ∧ s.linPublishes p c (bfId b % 64) = true then Act.linBuffer p c (bfId b % 64) (bfData b)
      else Act.linCount p c 10

/-! ## Commands (R420, R435, R436) -/

/-- A write of 1 to LIN.CMD.SWITCH (R420). -/
def linSwitch (p c t : Nat) : Act := Act.modLin (linKey p c) fun u => { u with switchTo := some (t % 8) }

/-- A write of 1 to LIN.CMD.STOP (R420). -/
def linStop (p c : Nat) : Act := Act.modLin (linKey p c) fun u => { u with stop := u.st == .running || u.st == .busFault }

/-- A write of 1 to LIN.CMD.GOTOSLEEP (R420). -/
def linGotosleep (p c : Nat) : Act := Act.modLin (linKey p c) fun u => { u with goSleep := u.st != .sleep }

/-- A write of LIN.CMD (R420, R435); ignored while the controller is OFF. -/
def linCmd (p c : Nat) (v : Word) (k : Code → Act) : Act :=
  Act.get fun s =>
    if (s.lin (linKey p c)).st = .off then k .ok
    else
      Act.all [
        Act.setReg (LIN.CMD p c) (word [(LIN.CMD.TABLE, fget v LIN.CMD.TABLE)]),
        Act.when (fget v LIN.CMD.SWITCH = 1) (linSwitch p c (fget v LIN.CMD.TABLE)),
        Act.when (fget v LIN.CMD.STOP = 1) (linStop p c),
        Act.when (fget v LIN.CMD.GOTOSLEEP = 1) (linGotosleep p c),
        k .ok]

/-- A write of LIN.SCHED_CMD (R417, R436). -/
def schedCmd (ag : Agent) (p c : Nat) (v : Word) (k : Code → Act) : Act :=
  let a := LIN.SCHED_CMD p c
  let i := fget v LIN.SCHED_CMD.INDEX
  Act.get fun s =>
    let w := s.reg (LIN.SCHED_W p c)
    match fget v LIN.SCHED_CMD.OP with
    | 0 => Act.seq (Act.store a v) (k .ok)
    | 1 => Act.all [Act.setReg a (fset v LIN.SCHED_CMD.RESULT 0), Act.setReg (LIN.SCHED_W p c) (s.schedEntry p i), k .ok]
    | 2 =>
      if schedBad w then Act.seq (Act.setReg a (fset v LIN.SCHED_CMD.RESULT 2)) (Act.badValue a ag k)
      else Act.all [Act.setReg a (fset v LIN.SCHED_CMD.RESULT 0), Act.setTbl (tblKey p 0x4B i 0) w, k .ok]
    | _ => Act.seq (Act.setFld a LIN.SCHED_CMD.RESULT 2) (Act.badValue a ag k)

/-- A write of LIN.PUB_CMD (R421, R436). -/
def pubCmd (ag : Agent) (p c : Nat) (v : Word) (k : Code → Act) : Act :=
  let a := LIN.PUB_CMD p c
  let id := fget v LIN.PUB_CMD.ID
  Act.get fun s =>
    let b := s.pub (pubKey p c id)
    match fget v LIN.PUB_CMD.OP with
    | 0 => Act.seq (Act.store a v) (k .ok)
    | 1 =>
      Act.all [
        Act.setReg a (fset v LIN.PUB_CMD.RESULT 0),
        Act.setReg (LIN.PUB_W0 p c) (BitVec.ofNat 48 (b.1 / 2 ^ 16)),
        Act.setReg (LIN.PUB_W1 p c) (word [(LIN.PUB_W1.DATA, b.1 % 2 ^ 16), (LIN.PUB_W1.PENDING, b2n b.2)]),
        k .ok]
    | 2 =>
      if s.linPublishes p c id then
        Act.all [
          Act.setReg a (fset v LIN.PUB_CMD.RESULT 0),
          Act.linBuffer p c id (beBytes 6 (s.reg (LIN.PUB_W0 p c)).toNat ++ beBytes 2 (s.fld (LIN.PUB_W1 p c) LIN.PUB_W1.DATA)),
          k .ok]
      else
        Act.all [Act.linCount p c 10, Act.setReg a (fset v LIN.PUB_CMD.RESULT 2), Act.badValue a ag k]
    | _ => Act.badValue a ag k

/-- The controller is enabled: its start table runs from its first entry (R418). -/
def Act.linEnable (p c : Nat) : Act :=
  Act.get fun s =>
    let t := s.fld (LIN.CFG p c) LIN.CFG.START_TABLE
    Act.modLin (linKey p c) fun u =>
      { st := if s.linTblLen p c t = 0 then .stopped else .running, table := t, clockDead := u.clockDead }

/-- The controller is disabled. -/
def Act.linOff (p c : Nat) : Act := Act.modLin (linKey p c) fun u => { st := .off, clockDead := u.clockDead }

/-- The external clock source is lost (R392). A LIN controller holds no pending frame; its receive buffer is discarded. -/
def Act.linClockLost (p c : Nat) : Act :=
  Act.get fun s =>
    if (s.lin (linKey p c)).st = .off then Act.modLin (linKey p c) fun u => { u with clockDead := true }
    else
      Act.all [
        Act.countBy (LIN.CNT p c 13) (s.buf (fk p (48 + c))).length,
        Act.setBuf (fk p (48 + c)) [],
        Act.modLin (linKey p c) (fun _ => { st := .off, clockDead := true }),
        Act.event (LIN.EVT p c) 5]

end Sys2Proof.Machine
end

