-- ==== Sys2Proof/Machine/Egress.lean ====
section
/-! DEFINITION. The egress scheduler at each kind of facet, and the flush of a facet that goes down (R251, R261, R264, R322 to
R324, R358, R359, R704). -/

namespace Sys2Proof.Machine

/-- Is class c of facet f paused by its partner (R366, R367)? -/
def State.pausedCls (s : State) (p f c : Nat) : Bool := (s.eth (fk p f)).pauses.any fun x => x.1 == c

/-- ns that a frame of n bytes takes at facet f, with preamble and inter-frame gap. -/
def State.frameNs (s : State) (p f n : Nat) : Nat := cdiv ((n + 20) * 8000) (max 1 (s.lineRate p f))

/-- The credit class of a frame on an Ezsor link, and its cells there (R704). -/
def State.ezCost (s : State) (p f : Nat) (fr : Frame) : Nat × Nat :=
  (s.pcpClass p f (s.tagUsed p f fr.data).1, cellsOf (s.sentLen p f fr))

/-- Has the Ezsor link of facet f credit for a frame (R704)? -/
def State.ezOk (s : State) (p f : Nat) (fr : Frame) : Bool :=
  let (c, n) := s.ezCost p f fr
  let e := s.eth (fk p f)
  !s.ezsorMode p f || decide ((e.ezTx.getD c 0 + 2 ^ 32 - e.ezAck.getD c 0 % 2 ^ 32) % 2 ^ 32 + n ≤ 128)

/-- May the head of a queue of facet f begin transmission before its LAST cell is written (R359)? A failure of its check is not known
before that cell (R355, log entry 130). -/
def State.cutOk (s : State) (p f : Nat) (fr : Frame) : Bool :=
  decide (f < 12) && s.flag (ETH.MODE p f) ETH.MODE.CUT_TX && !s.macsec p f && fr.cut &&
    decide (s.lineRate p f ≤ s.lineRate (fr.src / 64) (fr.src % 64))

/-- The head of a queue of facet f that may begin: whole in SRAM, or a cut-through one (R252, R359). -/
def State.ethHead (s : State) (p f : Nat) (u : Queue) : Option Ref :=
  match u.front with
  | some r => some r
  | none => u.refs.head?.filter fun r => !r.done && s.cutOk p f r.fr

/-- The head of a queue that the scheduler of Ethernet facet f may choose: its class allows it (R261, R322, R324, R366,
R704). -/
def State.ethEligible (s : State) (p f q : Nat) (u : Queue) : Option Ref :=
  (s.ethHead p f u).filter fun r =>
    let c := qClass q
    let fits := match s.openLeft p f c with
      | none => true
      | some t => Nat.ble (s.frameNs p f (s.sentLen p f r.fr)) t
    !s.pausedCls p f c && s.creditOk p f c && fits && s.ezOk p f r.fr

/-- Why Ethernet facet f discards a frame at the head of its queue: too long for MAX_LEN (R358), or for every open window of
its class (R324). -/
def State.ethTooLong (s : State) (p f q : Nat) (u : Queue) : Option Bool :=
  match s.ethHead p f u with
  | none => none
  | some r =>
    let n := s.sentLen p f r.fr
    if s.fld (ETH.MODE p f) ETH.MODE.MAX_LEN < n then some true
    else
      match s.longestOpen p f (qClass q) with
      | none => none
      | some w => if w < s.frameNs p f n then some false else none

/-- Discard the heads of facet f that R358 and R324 discard; the last argument bounds the discards. -/
def Act.ethDiscards (p f : Nat) : Nat → Act
  | 0 => Act.skip
  | n + 1 =>
    Act.get fun s =>
      Act.opt ((List.range 256).find? fun i =>
          (s.ethTooLong p f (queueNo f 0 0 + i) (s.queue (globalQueue p (queueNo f 0 0 + i)))).isSome) fun i =>
        let q := queueNo f 0 0 + i
        Act.all [
          Act.modQueue (globalQueue p q) (fun u => u.without 0),
          (if s.ethTooLong p f q (s.queue (globalQueue p q)) = some true then Act.ethCount p f 35
           else
             Act.all [Act.count (PSFP.CNT p 1), Act.event (PSFP.EVT p) 3,
               Act.setFlds (PSFP.LAST p) [(PSFP.LAST.FACET, f), (PSFP.LAST.CLASS, qClass q)]]),
          Act.checkShared p,
          Act.ethDiscards p f n]

/-- EGRESS_SELECT at an Ethernet facet: the next frame begins transmission. -/
def Act.ethSelect (p f : Nat) : Act :=
  Act.get fun s =>
    if s.facetDown p f ∨ (s.eth (fk p f)).tx.isSome ∨ s.plcaShut p f then Act.skip
    else
      Act.all [
        Act.shape p,
        Act.ethDiscards p f 4096,
        Act.get fun t =>
          Act.schedule p f (fun q u => t.ethEligible p f q u) fun q r =>
            let (c, n) := t.ezCost p f r.fr
            Act.all [
              Act.depart p q r,
              Act.shape p,
              Act.modEth (fk p f) fun e =>
                { e with tx := some r.fr, oppLeft := e.oppLeft - 1, ezTx := if t.ezsorMode p f then e.ezTx.modify c (· + n) else e.ezTx }]]

/-- EGRESS_SELECT at a die-to-die facet: a frame whose class lane is free and has credit for its first cell begins
(R222, R261); one whose first cell lacks credit waits for it (R249). -/
def Act.d2dSelect (p j : Nat) : Act :=
  Act.get fun s =>
    let l := s.link (4 * p + j)
    let f := 56 + j
    if l.up = false ∨ s.enabled p (0x58 + j) = false then Act.skip
    else
      Act.seq (Act.each ((List.range 8).filter fun c => s.lacksCredit p j c) fun c => Act.creditWait p j c)
        (Act.schedule p f
          (fun _ u => u.front.filter fun r =>
            !(l.sending.any fun e => e.1 == r.fr.cls) && decide (r.fr.units 0 ≤ l.credit.getD r.fr.cls 0))
          fun q r =>
            Act.seq (Act.depart p q r) (Act.modLink (4 * p + j) fun v => { v with sending := v.sending ++ [(r.fr.cls, r.fr, 0)] }))

/-- EGRESS_SELECT: the scheduler of facet f selects the next frame (R251, R261). Facets 48 to 55 and 59 to 63 are drained by their
own engines and ports. -/
def egressSelect (p f : Nat) : Act :=
  if f < 32 then Act.ethSelect p f
  else if f < 48 then Act.canSelect p (f - 32)
  else if 56 ≤ f ∧ f ≤ 58 then Act.d2dSelect p (f - 56)
  else Act.skip

/-- The queue whose head a facet has in transmission without its having left the queue: the pending frame of a CAN facet
(R265, R403). -/
def State.heldQueue (s : State) (p f : Nat) : Option Nat :=
  if 32 ≤ f ∧ f < 48 then (s.can (canKey p (f - 32))).pend else none

/-- FACET_DOWN_FLUSH: facet f has become disabled or link down: its queues are flushed (R264). -/
def facetDownFlush (p f : Nat) : Act :=
  Act.get fun s =>
    let t := queueNo f 0 0
    Act.when (f ≤ 55 ∧ s.facetDown p f = true)
      (Act.seq (Act.flushOut p t 2 (fun _ => none)) (Act.flushEnd p (s.flushCount p t 2 fun _ => none)))

end Sys2Proof.Machine
end

