-- ==== Sys2Proof/Machine/Ezsor.lean ====
section
/-! DEFINITION. Ezsor link messages: their form, tags and freshness, how they are taken and sent, and the link of a fast lane
in Ezsor mode (R694 to R700, R703, R704). -/

namespace Sys2Proof.Machine

/-- Does the domain engine run (R694)? -/
def State.plxOn (s : State) : Bool := s.enabled 0 0x72 && s.flag (PLX.CFG 0) PLX.CFG.EN && s.devId != 0

/-- A received message (R696): ingress global facet, receive timestamp, the frame's source address, its bytes from the header
on. -/
structure EzMsg where
  facet : Nat := 0
  ts : Nat := 0
  mac : Nat := 0
  bytes : List Byte := []
  deriving DecidableEq, Repr

/-- A field of the header: n bytes from byte i (R696). -/
def EzMsg.hdr (m : EzMsg) (i n : Nat) : Nat := bytesAt m.bytes i n

/-- TYPE (R696). -/
def EzMsg.type (m : EzMsg) : Nat := m.hdr 1 1

/-- FLAGS.AUTH (R696). -/
def EzMsg.auth (m : EzMsg) : Bool := m.hdr 2 1 % 2 == 1

/-- FLAGS.NO_FRESH (R696). -/
def EzMsg.noFresh (m : EzMsg) : Bool := m.hdr 2 1 / 2 % 2 == 1

/-- SRC_ID (R696). -/
def EzMsg.src (m : EzMsg) : Nat := m.hdr 4 2 % 2 ^ 14

/-- The body (R696). -/
def EzMsg.body (m : EzMsg) : List Byte := (m.bytes.drop 20).take (m.hdr 10 2)

/-- n bytes from byte i of the body. -/
def EzMsg.at (m : EzMsg) (i n : Nat) : Nat := bytesAt m.body i n

/-- The message of a frame in the inbox: after the source address or one 802.1Q tag (R696). -/
def ezParse (e : Nat × Nat × List Byte) : EzMsg :=
  { facet := e.1, ts := e.2.1, mac := frSa e.2.2, bytes := frBody e.2.2 }

/-- Is a message one the device discards as BAD_TYPE: another VER or an unknown TYPE (R696)? One whose LEN the frame does not
hold is discarded so too (log entry 31). -/
def EzMsg.bad (m : EzMsg) : Bool :=
  m.hdr 0 1 != 1 || decide (9 < m.type) || decide (1400 < m.hdr 10 2) ||
    decide (m.bytes.length < 20 + m.hdr 10 2 + (if m.auth then 8 else 0))

/-- Is a TYPE always sent with a TAG, or a keep-alive with one (R696)? -/
def State.ezAuth (s : State) (ty : Nat) : Bool := (decide (3 ≤ ty) && decide (ty ≤ 5)) || (ty == 1 && s.flag (PLX.CFG 0) PLX.CFG.AUTH)

/-- KEY_SLOT (R698). -/
def State.ezSlot (s : State) : Nat := s.fld (PLX.CFG 0) PLX.CFG.KEY_SLOT

/-! ## Tags and freshness (R698, R699) -/

/-- Is the TAG of a message right under KEY_SLOT (R698)? -/
def Act.ezTagOk (m : EzMsg) (k : Bool → Act) : Act :=
  Act.get fun s =>
    if m.auth = false ∨ s.ezSlot = 0 then k false
    else
      let n := 20 + m.hdr 10 2
      Act.useKey 0 s.ezSlot 5 (some 1) none none 5 fun r =>
        match r with
        | .ok key => k ((cmac key (nats (m.bytes.take n))).take 8 == nats ((m.bytes.drop n).take 8))
        | _ => k false

/-- What R699 makes of the freshness of a message. -/
inductive EzFresh where
  | greater | within | seen | old
  deriving DecidableEq, Repr

/-- The freshness of a message against its sender's entry (R699): the window is the greatest SEQ and the 32 below it. -/
def Member.freshness (u : Member) (m : EzMsg) : EzFresh :=
  let r := m.hdr 12 2
  let e := m.hdr 14 2
  let n := m.hdr 16 4
  let new := (r * 2 ^ 16 + e) * 2 ^ 32 + n
  let held := (u.renewal * 2 ^ 16 + u.epoch) * 2 ^ 32 + u.seq
  if u.known = false ∨ held < new then .greater
  else if r = u.renewal ∧ e = u.epoch ∧ u.seq - n ≤ 32 then (if u.seen.contains n then .seen else .within)
  else .old

/-- An entry after it has accepted the freshness of a message (R699). -/
def Member.accept (u : Member) (m : EzMsg) : Member :=
  let n := m.hdr 16 4
  match u.freshness m with
  | .greater =>
    let same := u.known && u.renewal == m.hdr 12 2 && u.epoch == m.hdr 14 2
    { u with
      known := true, renewal := m.hdr 12 2, epoch := m.hdr 14 2, seq := n
      seen := n :: (if same then u.seen.filter fun x => decide (n - x ≤ 32) else []) }
  | _ => { u with seen := n :: u.seen }

/-- Count PLX counter i (R714). -/
def Act.plxCount (i : Nat) : Act := Act.count (PLX.CNT 0 i)

/-- An authenticated message fails (R698). -/
def Act.ezAuthFail (m : EzMsg) : Act := Act.seq (Act.plxCount 3) (Act.plxEvent 4 m.src m.facet)

/-- A message is a replay (R699, R700). -/
def Act.ezReplay (m : EzMsg) : Act := Act.seq (Act.plxCount 4) (Act.plxEvent 5 m.src m.facet)

/-- The freshness of an authenticated message with NO_FRESH = 0 from the device in its header (R699): k with whether it is the
greatest, where it is accepted. A message other than a keep-alive from a device without an entry is of the row "any other". -/
def Act.ezFreshness (m : EzMsg) (k : Bool → Act) : Act :=
  Act.get fun s =>
    match s.member m.src with
    | none => if m.type = 1 then k true else Act.ezReplay m
    | some u =>
      match u.freshness m with
      | .greater => Act.seq (Act.modMem m.src fun u => u.accept m) (k true)
      | .within => Act.seq (Act.modMem m.src fun u => u.accept m) (k false)
      | .seen => Act.plxCount 2
      | .old => Act.ezReplay m

/-! ## Taking a message -/

/-- Discard the messages at the front of the inbox that are of no known form (R696). -/
def Act.ezPurge : Nat → Act
  | 0 => Act.skip
  | n + 1 =>
    Act.get fun s =>
      match s.plx.inbox with
      | [] => Act.skip
      | e :: rest =>
        if (ezParse e).bad then
          Act.all [
            Act.upd fun t => { t with plx := { t.plx with inbox := rest } },
            Act.plxCount 10,
            Act.ezPurge n]
        else Act.skip

/-- The first element that satisfies p, and the list without it. -/
def takeFirst {α : Type} (p : α → Bool) : List α → Option (α × List α)
  | [] => none
  | x :: l => if p x then some (x, l) else (takeFirst p l).map fun r => (r.1, x :: r.2)

/-- Take from the inbox the first message that satisfies p. -/
def Act.ezTake (p : EzMsg → Bool) (k : EzMsg → Act) : Act :=
  Act.get fun s =>
    Act.seq (Act.ezPurge s.plx.inbox.length)
      (Act.get fun t =>
        Act.opt (takeFirst (fun e => !(ezParse e).bad && p (ezParse e)) t.plx.inbox) fun r =>
          Act.seq (Act.upd fun u => { u with plx := { u.plx with inbox := r.2 } }) (k (ezParse r.1)))

/-- Take the first message of a TYPE that only a running domain engine handles, through the checks of R697 to R700; over says
that it arrives beyond the engine's rate. k is given the message and whether its freshness is the greatest. -/
def Act.ezMember (ty : Nat) (p : EzMsg → Bool) (past : Bool) (own : EzMsg → Act) (dup : State → EzMsg → Bool)
    (k : EzMsg → Bool → Act) : Act :=
  Act.ezTake (fun m => m.type == ty && p m) fun m =>
    Act.get fun s =>
      if s.plxOn = false then Act.skip
      else if past then Act.plxCount 12
      else if m.hdr 8 2 ≠ s.fld (PLX.CFG 0) PLX.CFG.DOMAIN then Act.plxCount 5
      else if m.src = s.devId ∧ ty ≠ 1 then Act.skip
      else
        let checked : Act :=
          if m.src = s.devId then own m
          else if dup s m then Act.plxEvent 2 m.src m.facet
          else if m.noFresh ∧ s.ezAuth ty = true then (if ty = 1 then k m false else Act.ezReplay m)
          else if s.ezAuth ty then Act.ezFreshness m (k m)
          else k m true
        if s.ezAuth ty then Act.ezTagOk m fun ok => if ok then checked else Act.ezAuthFail m
        else checked

/-! ## Sending (R696 to R698, R700) -/

/-- The header of a message of this device (R696). -/
def State.ezHeader (s : State) (ty flags hops dst seq : Nat) (body : List Byte) : List Byte :=
  beBytes 1 1 ++ beBytes 1 ty ++ beBytes 1 flags ++ beBytes 1 hops ++ beBytes 2 s.devId ++ beBytes 2 dst ++
    beBytes 2 (s.fld (PLX.CFG 0) PLX.CFG.DOMAIN) ++ beBytes 2 body.length ++ beBytes 2 (s.fld (IMG.EPOCH 0) IMG.EPOCH.RENEWAL) ++
    beBytes 2 s.epoch ++ beBytes 4 seq ++ body

/-- A message with its TAG under KEY_SLOT, or none where it cannot be made (R698). -/
def Act.ezTagged (b : List Byte) (k : List Byte → Act) : Act :=
  Act.get fun s =>
    if s.ezSlot = 0 then Act.skip
    else
      Act.useKey 0 s.ezSlot 5 (some 0) none none 5 fun r =>
        match r with
        | .ok key => k (b ++ octets ((cmac key (nats b)).take 8))
        | _ => Act.skip

/-- Make a message of this device: k is given its bytes. Authenticated ones carry and advance the message counter; while
EPOCH_OK = 0 only keep-alives leave, with NO_FRESH and SEQ 0 (R696, R698, R700). -/
def Act.ezMake (ty hops dst : Nat) (body : List Byte) (k : List Byte → Act) : Act :=
  Act.get fun s =>
    let nf := !s.epochOk
    if s.ezAuth ty then
      if nf = true ∧ ty ≠ 1 then Act.skip
      else
        Act.ezTagged (s.ezHeader ty (1 + 2 * b2n nf) hops dst (if nf then 0 else s.plx.sent % 2 ^ 32) body) fun b =>
          Act.seq (Act.when (nf = false) (Act.upd fun t => { t with plx := { t.plx with sent := t.plx.sent + 1 } })) (k b)
    else k (s.ezHeader ty (if ty = 1 then 2 * b2n nf else 0) hops dst (if nf then 0 else s.plx.sent % 2 ^ 32) body)

/-- An untagged frame of EtherType 0x88B6 with a message, its FCS included. -/
def ezFrame (da sa : Nat) (b : List Byte) : List Byte :=
  let f := beBytes 6 da ++ beBytes 6 sa ++ beBytes 2 0x88B6 ++ b
  f ++ fcsOf f

/-- Send a message from facet 63 of the lead die through the queue of a facet (R697). -/
def Act.ezPost (gf da : Nat) (b : List Byte) : Act :=
  Act.get fun s =>
    let p := gf / 64
    let f := gf % 64
    Act.when (f < 32)
      (Act.engineOut 0 63 (globalQueue p (queueNo f (s.fld (PLX.CFG 0) PLX.CFG.CLASS) 28)) (globalFacet 0 63) (s.time 0) false
        (ezFrame da (s.reg (ETH.MATCH p f 0)).toNat b))

/-- The group address; none where no message to the group is sent (R711). -/
def State.groupMac (s : State) : Option Nat :=
  let m := (s.reg (PLX.GROUP_MAC 0)).toNat
  if m = 0 then none else some m

/-- The link-up facets that carry messages: those of FACETS_n (R701, R711). -/
def State.ezFacets (s : State) : List Nat :=
  (List.range 4).flatMap fun p =>
    ((List.range 32).filter fun f => bit (s.reg (PLX.FACETS 0 p)) f && decide (p < s.x) && !s.facetDown p f).map fun f => globalFacet p f

/-- The route to a heard member: facet and address (R695, R705). -/
def State.ezRoute (s : State) (dev : Nat) : Option (Nat × Nat) :=
  (s.member dev).bind fun m => if s.memberHeard m then m.route.map fun r => (r.1, r.2.1) else none

/-- The message as a relay sends it on: HOPS reduced by 1, and with it the TAG that covers HOPS (R698, R701, log entry 32). -/
def Act.ezRelayed (m : EzMsg) (k : List Byte → Act) : Act :=
  let n := 20 + m.hdr 10 2
  let b := (m.bytes.take 3 ++ beBytes 1 (m.hdr 3 1 - 1) ++ m.bytes.drop 4).take n
  Act.seq (Act.plxCount 6) (if m.auth then Act.ezTagged b k else k b)

/-- Does the engine relay a message (R700, R701)? -/
def State.ezRelays (s : State) (m : EzMsg) : Bool :=
  s.flag (PLX.CFG 0) PLX.CFG.RELAY && s.epochOk && decide (1 ≤ m.hdr 3 1)

/-! ## The Ezsor link of a fast lane (R703, R704) -/

/-- The package serial (R4). -/
def State.serial (s : State) : Nat := s.fuse.serial

/-- The domain a HELLO carries: 0 while booting (R703). -/
def State.helloDomain (s : State) (p f : Nat) : Nat := if s.booting p f then 0 else s.fld (PLX.CFG 0) PLX.CFG.DOMAIN

/-- The destination of a message on an Ezsor link itself: the group address, or the address last heard on the link (log
entry 30). -/
def State.linkMac (s : State) (p f : Nat) : Nat :=
  match s.groupMac with
  | some m => m
  | none => if (s.eth (fk p f)).heardMac = 0 then bcast else (s.eth (fk p f)).heardMac

/-- Put a message of the link itself on the line: HELLO, CREDIT and the boot messages carry no TAG (R700). -/
def Act.linkSend (p f ty : Nat) (body : List Byte) : Act :=
  Act.get fun s =>
    let b := ezFrame (s.linkMac p f) (s.reg (ETH.MATCH p f 0)).toNat (s.ezHeader ty 0 0 0xFFFF 0 body)
    let whole := padTo 60 (b.take (b.length - 4))
    Act.emit (.eth p f (if b.length < 64 then whole ++ fcsOf whole else b))

/-- Does fast lane f of die p run the Ezsor link (R128, R344, R703)? -/
def State.ezLane (s : State) (p f : Nat) : Bool := s.ezsorMode p f && (s.booting p f || s.enabled p (0x20 + f))

/-- HELLO, sent every 1 ms (R703). -/
def helloSend (p f : Nat) : Act :=
  Act.get fun s =>
    Act.when (s.ezLane p f = true ∧ s.pastMs (s.eth (fk p f)).helloAt 1 = true)
      (Act.seq (Act.modEth (fk p f) fun e => { e with helloAt := s.edges })
        (Act.linkSend p f 0
          (beBytes 2 s.devId ++ beBytes 2 (s.helloDomain p f) ++ beBytes 6 s.serial ++ beBytes 6 (s.eth (fk p f)).heard)))

/-- HELLO, received on facet f of die p (R703): it completes the handshake where it names this package's serial in the same
domain; a booting die does not test the domain. -/
def helloReceive (p f : Nat) : Act :=
  Act.ezTake (fun m => m.type == 0 && m.facet == globalFacet p f) fun m =>
    Act.get fun s =>
      let done := (s.booting p f || m.at 2 2 == s.helloDomain p f || m.at 2 2 == 0) && m.at 10 6 == s.serial
      Act.when (s.ezLane p f = true)
        (Act.seq
          (Act.modEth (fk p f) fun e =>
            { e with heard := m.at 4 6, heardMac := m.mac, hello := some (s.time 0), shook := e.shook || done })
          (Act.get fun t => Act.rawIs p f ((t.eth (fk p f)).lane && (t.eth (fk p f)).shook)))

/-- HELLO_LOSS: 10 ms have passed without a HELLO on facet f of die p (R703). -/
def helloLoss (p f : Nat) : Act :=
  Act.get fun s =>
    let e := s.eth (fk p f)
    Act.when (s.ezLane p f = true ∧ (e.hello.all fun t => Nat.ble 10000000 (s.leadAge t)) = true)
      (Act.seq (Act.setEth (fk p f) { e with shook := false, hello := none }) (Act.rawIs p f false))

/-- The cells of class c that facet f has freed since its Ezsor link came up (R704). -/
def State.ezFreed (s : State) (p f c : Nat) : Nat := ((s.eth (fk p f)).ezRx.getD c 0 - s.rxClsCells p f c) % 2 ^ 32

/-- CREDIT, sent: the cells of each class freed since the link came up (R704). -/
def creditSend (p f : Nat) : Act :=
  Act.get fun s =>
    let freed := (List.range 8).map fun c => s.ezFreed p f c
    Act.when (s.ezLane p f = true ∧ (s.eth (fk p f)).up = true ∧ (s.eth (fk p f)).ezTold ≠ freed)
      (Act.seq (Act.linkSend p f 2 (freed.flatMap fun n => beBytes 4 n)) (Act.modEth (fk p f) fun e => { e with ezTold := freed }))

/-- CREDIT, received on facet f of die p (R704). -/
def creditReceive (p f : Nat) : Act :=
  Act.ezTake (fun m => m.type == 2 && m.facet == globalFacet p f) fun m =>
    Act.get fun s =>
      Act.when (s.ezLane p f = true)
        (Act.modEth (fk p f) fun e => { e with ezAck := (List.range 8).map fun c => m.at (4 * c) 4 })

/-- Put a boot message of a booting die on its fast lane f (R706): like every frame but HELLO and CREDIT it needs credit
(R704). -/
def Act.bootSend (f ty : Nat) (body : List Byte) : Act :=
  Act.get fun s =>
    let fr : Frame := { data := ezFrame 0 0 (s.ezHeader ty 0 0 0xFFFF 0 body) }
    let (c, n) := s.ezCost 0 f fr
    Act.when ((s.eth (fk 0 f)).up = true ∧ s.ezOk 0 f fr = true)
      (Act.seq (Act.modEth (fk 0 f) fun e => { e with ezTx := e.ezTx.modify c (· + n) }) (Act.linkSend 0 f ty body))

end Sys2Proof.Machine
end

