-- ==== Sys2Proof/Machine/Pair.lean ====
section
/-! DEFINITION. Paired operation: supervision, ownership, claims, handover, the path-silence sweep and the pairing tables
(R551 to R579). PAIR messages carry a kind in their first body byte, which the spec leaves open (log entry 33): 0 heartbeat,
1 grant, 2 accept, 3 decline. Commands that look at PAIR_OWN are given whether another unit holds it low. -/

namespace Sys2Proof.Machine

/-- Is pair supervision on (R551, R555)? -/
def State.pairOn (s : State) : Bool :=
  s.enabled 0 0x70 && s.flag (PAIR.CFG 0) PAIR.CFG.EN && s.io.pair.st != .off

/-- ROLE: 0 A, 1 B (R551). -/
def State.role (s : State) : Nat := s.fld (PAIR.CFG 0) PAIR.CFG.ROLE

/-- Change the pair record. -/
def Act.updPair (f : Pair → Pair) : Act := Act.updIo fun m => { m with pair := f m.pair }

/-- An event of PAIR.EVT on the lead die. -/
def Act.pairEvent (i : Nat) : Act := Act.eventIrq (PAIR.EVT 0) i

/-- Count PAIR counter i of the lead die (R579). -/
def Act.pairCount (i : Nat) : Act := Act.count (PAIR.CNT 0 i)

/-- Did something happen at die time t within n ns? -/
def State.within (s : State) (t : Option Nat) (n : Nat) : Bool := t.any fun x => Nat.blt (s.leadNs x) n

/-- LINK_LOSS_MS in ns. -/
def State.linkLossNs (s : State) : Nat := s.fld (PAIR.TIMING 0) PAIR.TIMING.LINK_LOSS_MS * 1000000

/-- WIT_MS in ns. -/
def State.witNs (s : State) : Nat := s.fld (PAIR.WIT 0) PAIR.WIT.WIT_MS * 1000000

/-- Has a heartbeat arrived on link facet 0 or 1 within LINK_LOSS_MS (R576)? -/
def State.pairLink (s : State) (second : Bool) : Bool :=
  s.within (if second then s.io.pair.link1 else s.io.pair.link0) s.linkLossNs

/-- Is the pair link up (R552, R553)? -/
def State.pairUp (s : State) : Bool := s.epochOk && (s.pairLink false || s.pairLink true)

/-- Is the partner's witness heard (R570)? -/
def State.witnessHeard (s : State) : Bool :=
  s.fld (PAIR.WIT 0) PAIR.WIT.WIT_FACET != 0 && s.within s.io.pair.witness (3 * s.witNs)

/-- OFFSET_VALID (R554): the last four exchanges are recent, short and agree. -/
def State.offsetValid (s : State) : Bool :=
  let l := s.io.pair.trips
  l.length == 4 && l.all (fun e => decide (s.leadNs e.1 < 100000000) && decide (e.2.1 ≤ 20000)) &&
    l.all fun e => l.all fun f => decide ((e.2.2 - f.2.2).natAbs ≤ 4000)

/-- Is PAIR_OWN held (R564)? -/
def State.lineHeld (s : State) : Bool := s.io.pair.pulls || s.io.pair.theirs

/-- The state's code in PAIR.STAT (R576). -/
def PairSt.code : PairSt → Nat
  | .off => 0
  | .alone => 1
  | .joined => 2
  | .split => 3
  | .partnerLost => 4

/-- A claim pulls the line (R566). -/
def Claim.active : Claim → Bool
  | .pulled _ _ _ => true
  | _ => false

/-- PAIR.STAT (R576). -/
def State.pairStat (s : State) : Word :=
  let u := s.io.pair
  word [(PAIR.STAT.STATE, u.st.code), (PAIR.STAT.OWNER, b2n u.owner), (PAIR.STAT.LINE, b2n s.lineHeld),
    (PAIR.STAT.CLAIMING, b2n u.claim.active), (PAIR.STAT.HANDOVER, b2n (u.hand != .none)),
    (PAIR.STAT.LINK_0, b2n (s.pairLink false)), (PAIR.STAT.LINK_1, b2n (s.pairLink true)),
    (PAIR.STAT.WITNESS, b2n s.witnessHeard), (PAIR.STAT.OFFSET_VALID, b2n s.offsetValid),
    (PAIR.STAT.PARTNER_STATE, u.pState), (PAIR.STAT.PARTNER_OWNER, b2n u.pOwner), (PAIR.STAT.NO_EPOCH, b2n (!s.epochOk))]

/-! ## On and off (R553, R555) -/

/-- May PAIR be enabled on the lead die (R553)? -/
def State.pairReady (s : State) : Bool :=
  let on := fun (g : Nat) => decide (g % 64 < 32) && bit (s.reg (PLX.FACETS 0 (g / 64 % 4))) (g % 64)
  s.flag (PAIR.CFG 0) PAIR.CFG.EN == false ||
    (s.devId != 0 && s.flag (PLX.CFG 0) PLX.CFG.EN && s.ezSlot != 0 &&
      on (s.fld (PAIR.CFG 0) PAIR.CFG.LINK_FACET_0) && on (s.fld (PAIR.CFG 0) PAIR.CFG.LINK_FACET_1))

/-- PAIR is enabled with EN = 1: ALONE (R555). -/
def Act.pairStart : Act :=
  Act.get fun s =>
    Act.seq (Act.when (s.flag (PAIR.CFG 0) PAIR.CFG.EN = true ∧ s.io.pair.st = .off) (Act.updPair fun u => { u with st := .alone }))
      Act.pairSettle

/-- PAIR goes OFF: the line is released and paired channels are held open (R555, R565). -/
def Act.pairStop : Act :=
  Act.all [
    Act.dropOwner,
    Act.updPair (fun u => { theirs := u.theirs, witNo := u.witNo }),
    Act.admWithdraw none,
    Act.pairSettle]

/-! ## Messages to the partner (R552, R568) -/

/-- The link facets of the pair. -/
def State.pairFacets (s : State) : List Nat :=
  let a := s.fld (PAIR.CFG 0) PAIR.CFG.LINK_FACET_0
  let b := s.fld (PAIR.CFG 0) PAIR.CFG.LINK_FACET_1
  if a = b then [a] else [a, b]

/-- The address of the partner: that of its table entry, or the group's (R696). -/
def State.partnerMac (s : State) : Option Nat :=
  match s.ezRoute (s.fld (PAIR.CFG 0) PAIR.CFG.PARTNER) with
  | some r => some r.2
  | none => s.groupMac

/-- Send a PAIR message on a link facet (R552, R553). -/
def Act.pairSend (gf : Nat) (body : List Byte) : Act :=
  Act.get fun s =>
    Act.when (s.plxOn = true ∧ s.facetDown (gf / 64) (gf % 64) = false)
      (Act.opt s.partnerMac fun da =>
        Act.ezMake 5 0 (s.fld (PAIR.CFG 0) PAIR.CFG.PARTNER) body fun b => Act.ezPost gf da b)

/-- Send one PAIR message on the first link facet that is up (R568). -/
def Act.pairTell (body : List Byte) : Act :=
  Act.get fun s => Act.opt (s.pairFacets.find? fun g => !s.facetDown (g / 64) (g % 64)) fun g => Act.pairSend g body

/-- PAIR_HEARTBEAT_SEND: 1 ms after the one before (R552). -/
def pairHeartbeatSend : Act :=
  Act.get fun s =>
    let u := s.io.pair
    let beat := u.lastBeat.getD (0, 0)
    Act.when (s.pairOn = true ∧ u.beatAt.all (fun t => Nat.ble 1000000 (s.leadNs t)) = true)
      (Act.seq (Act.updPair fun u => { u with beatAt := some (s.time 0) }) <| Act.each s.pairFacets fun g =>
        Act.pairSend g
          (beBytes 1 0 ++ beBytes 2 s.devId ++ beBytes 1 (s.role + 2 * u.st.code + 16 * b2n u.owner) ++ beBytes 6 (s.time 0) ++
            beBytes 6 beat.1 ++ beBytes 6 beat.2))

/-- Take the first PAIR message that satisfies p through the checks of the domain engine (R553, R697 to R700); while
EPOCH_OK = 0 it is discarded. -/
def Act.pairMsg (p : EzMsg → Bool) (past : Bool) (k : EzMsg → Act) : Act :=
  Act.get fun s =>
    if s.epochOk then
      Act.ezMember 5 p past (fun _ => Act.skip) (fun _ _ => false) fun m _ =>
        Act.get fun t => Act.when (t.pairOn = true) (k m)
    else Act.ezTake (fun m => m.type == 5 && p m) fun _ => Act.skip

/-- Take the first PAIR message whose kind satisfies p. -/
def Act.pairTake (p : Nat → Bool) (past : Bool) (k : EzMsg → Act) : Act := Act.pairMsg (fun m => p (m.at 0 1)) past k

/-- The exchange that a heartbeat completes (R554): round trip and offset in ns; it needs a heartbeat of this unit that the
partner has received. -/
def exchange (t1 t2 t3 t4 : Nat) : Option (Int × Int) :=
  if t2 = 0 then none
  else
    let d := fun (a b : Nat) => toSigned 48 ((a + 2 ^ 48 - b) % 2 ^ 48)
    some (d t4 t1 - d t3 t2, (d t2 t1 + d t3 t4) / 2)

/-- PAIR_HEARTBEAT_RECEIVE (R552, R554). -/
def pairHeartbeatReceive (past : Bool) : Act :=
  Act.pairTake (fun n => n == 0) past fun m =>
    Act.get fun s =>
      let flags := m.at 3 1
      let now := s.time 0
      let on0 := m.facet == s.fld (PAIR.CFG 0) PAIR.CFG.LINK_FACET_0
      let on1 := m.facet == s.fld (PAIR.CFG 0) PAIR.CFG.LINK_FACET_1
      if m.at 1 2 ≠ s.fld (PAIR.CFG 0) PAIR.CFG.PARTNER ∨ (on0 = false ∧ on1 = false) then Act.skip
      else if flags % 2 = s.role then Act.pairEvent 10
      else
        let trip := exchange (m.at 10 6) (m.at 16 6) (m.at 4 6) m.ts
        Act.seq
          (Act.updPair fun u =>
            { u with
              link0 := if on0 then some now else u.link0
              link1 := if on1 then some now else u.link1
              upSince := if s.pairUp then u.upSince else some now
              lastBeat := some (m.at 4 6, m.ts)
              pState := flags / 2 % 8
              pOwner := flags / 16 % 2 == 1
              trips := match trip with
                | none => u.trips
                | some t => (u.trips ++ [(now, t.1, t.2)]).drop (u.trips.length - 3) })
          (Act.opt trip fun t => Act.setReg (PAIR.OFFSET 0) (BitVec.ofNat 48 (ofSigned 48 t.2)))

/-! ## Ownership (R565, R566) -/

/-- This unit becomes owner by a claim: the paired channels apply their recorded commands (R566 step 4). -/
def Act.gainOwner : Act :=
  Act.all [
    Act.updPair (fun u => { u with owner := true, pulls := true, claim := .none }),
    Act.pairEvent 4,
    Act.pairCount 9,
    Act.pairSettle]

/-- The decision table of R570: does the unit claim, and is it SPLIT (otherwise PARTNER_LOST)? -/
def State.pairDecision (s : State) : Bool × Bool :=
  let u := s.io.pair
  let free := !s.lineHeld
  if s.witnessHeard then (free && s.role == 0, true)
  else if u.pulls then (false, false)
  else if u.theirs then (false, true)
  else (true, false)

/-- Another unit is seen to hold PAIR_OWN, or not to; while this unit pulls the line it cannot be seen. -/
def Act.seeLine (held : Bool) : Act := Act.updPair fun u => { u with theirs := held && !u.pulls }

/-- The decision table is applied (R570): enter SPLIT or PARTNER_LOST, except in ALONE, and begin or stop a claim. -/
def Act.pairApply (count : Bool) : Act :=
  Act.get fun s =>
    let u := s.io.pair
    let (claims, split) := s.pairDecision
    let st : PairSt := if u.st = .alone then .alone else if split then .split else .partnerLost
    Act.all [
      Act.updPair (fun u =>
        { u with
          st := st
          claim := match u.claim with
            | .pulled a b c => .pulled a b c
            | .wait a => if claims then .wait a else .none
            | .none => if claims && !u.owner then .wait (s.time 0) else .none }),
      Act.when (st ≠ u.st ∧ st = .split) (Act.seq (Act.pairEvent 1) (Act.when (count = true) (Act.pairCount 11))),
      Act.when (st ≠ u.st ∧ st = .partnerLost) (Act.seq (Act.pairEvent 2) (Act.when (count = true) (Act.pairCount 12)))]

/-- PAIR_LINK_LOSS: no valid heartbeat for LINK_LOSS_MS while JOINED (R555). -/
def pairLinkLoss (line : Bool) : Act :=
  Act.get fun s =>
    Act.when (s.io.pair.st = .joined ∧ s.pairUp = false)
      (Act.all [Act.seeLine line, Act.pairEvent 0, Act.updPair (fun u => { u with upSince := none }), Act.pairApply true])

/-- PAIR_DECIDE: every WIT_MS with the pair link down (R555, R570). -/
def pairDecide (line : Bool) : Act :=
  Act.get fun s =>
    let u := s.io.pair
    Act.when ((u.st = .alone ∨ u.st = .split ∨ u.st = .partnerLost) ∧ s.pairUp = false)
      (Act.seq (Act.seeLine line) (Act.pairApply false))

/-- PAIR_JOIN: the pair link has been up for 100 ms: JOINED, and ownership is reconciled (R555, R573). -/
def pairJoin (line : Bool) : Act :=
  Act.get fun s =>
    let u := s.io.pair
    let ready := s.pairUp && (u.upSince.any fun t => Nat.ble 100000000 (s.leadNs t))
    Act.when ((u.st = .alone ∨ u.st = .split ∨ u.st = .partnerLost) ∧ ready = true)
      (Act.all [
        Act.seeLine line,
        Act.updPair (fun u => { u with st := .joined, claim := if u.claim.active then u.claim else .none }),
        Act.pairEvent 3,
        Act.get fun t =>
          let v := t.io.pair
          if v.owner ∧ v.pOwner then Act.when (t.role = 1) (Act.seq Act.dropOwner (Act.pairEvent 6))
          else
            Act.when (v.owner = false ∧ v.pOwner = false ∧ t.lineHeld = false ∧ t.role = 0)
              (Act.updPair fun u => { u with pulls := true, claim := .pulled (t.time 0) 0 false })])

/-- CLAIM_WAIT_END: the wait of a claim ends; with the line released the unit pulls it (R566 steps 1, 2). -/
def claimWaitEnd (line : Bool) : Act :=
  Act.get fun s =>
    match s.io.pair.claim with
    | .wait t =>
      let wait := s.fld (PAIR.TIMING 0) PAIR.TIMING.CLAIM_MS + 20 * s.role
      if line then Act.seq (Act.seeLine true) (Act.updPair fun u => { u with claim := .none })
      else
        Act.when (wait * 1000000 ≤ s.leadNs t)
          (Act.updPair fun u => { u with theirs := false, pulls := true, claim := .pulled (s.time 0) 0 false })
    | _ => Act.skip

/-- CLAIM_PROBE: a probe of a claim has sampled the line (R566 steps 3 to 7). -/
def claimProbe (line : Bool) : Act :=
  Act.get fun s =>
    match s.io.pair.claim with
    | .pulled t high low =>
      if line = false then
        (if low = true ∨ high = 3 then Act.gainOwner
         else Act.updPair fun u => { u with claim := .pulled t (high + 1) false })
      else if s.role = 1 then
        Act.all [
          Act.updPair (fun u => { u with pulls := false, theirs := true, claim := .none }),
          Act.pairEvent 6,
          Act.pairCount 10]
      else if low = true ∧ 10000000 ≤ s.leadNs t then
        Act.seq (Act.updPair fun u => { u with pulls := false, theirs := true, claim := .wait (s.time 0) }) (Act.pairEvent 6)
      else Act.updPair fun u => { u with claim := .pulled (if low then t else s.time 0) high true }
    | _ => Act.skip

/-! ## Witnesses (R571) -/

/-- WITNESS_SEND: WIT_MS after the one before (R571). -/
def witnessSend : Act :=
  Act.get fun s =>
    let u := s.io.pair
    let g := s.fld (PAIR.WIT 0) PAIR.WIT.WIT_FACET
    let data := beBytes 2 s.devId ++ beBytes 1 u.st.code ++ beBytes 1 (b2n u.owner) ++ beBytes 4 (u.witNo % 2 ^ 32)
    Act.when (s.pairOn = true ∧ g ≠ 0 ∧ u.witAt.all (fun t => Nat.ble s.witNs (s.leadNs t)) = true)
      (Act.all [
        Act.engineOut 0 63 (globalQueue (g / 64) (queueNo (g % 64) 7 30)) (globalFacet 0 63) (s.time 0) true
          (mkBus 0 (s.fld (PAIR.WIT 0) PAIR.WIT.WIT_ID + s.role) 128 8 0 0 0 0 data),
        Act.updPair (fun u => { u with witNo := u.witNo + 1, witAt := some (s.time 0) }),
        Act.pairCount 13])

/-- WITNESS_RECEIVE: controller c of die p has received a valid frame; the partner's witness is passed to PAIR (R571). -/
def witnessReceive (p c : Nat) (b : List Byte) : Act :=
  Act.get fun s =>
    let wit := globalFacet p (32 + c) == s.fld (PAIR.WIT 0) PAIR.WIT.WIT_FACET && bfFormat b == 0 && bfFlag b 7 &&
      bfId b == s.fld (PAIR.WIT 0) PAIR.WIT.WIT_ID + (1 - s.role) && bytesAt (bfData b) 0 2 == s.fld (PAIR.CFG 0) PAIR.CFG.PARTNER
    Act.when (s.pairOn = true ∧ wit = true ∧ s.fld (PAIR.WIT 0) PAIR.WIT.WIT_FACET ≠ 0)
      (Act.updPair fun u => { u with witness := some (s.time 0) })

/-! ## Handover (R567 to R569) -/

/-- RESULT of PAIR.CMD. -/
def Act.handResult (n : Nat) : Act := Act.setReg (PAIR.CMD 0) (word [(PAIR.CMD.RESULT, n)])

/-- May the owner offer ownership (R567)? -/
def State.mayHand (s : State) : Bool :=
  let u := s.io.pair
  s.pairOn && u.st == .joined && s.offsetValid && u.owner && u.hand == .none

/-- The owner sends a GRANT (R568 step 1). -/
def Act.sendGrant : Act :=
  Act.get fun s =>
    let ts := (s.time 0 + s.fld (PAIR.TIMING 0) PAIR.TIMING.LEAD_US * 1000) % 2 ^ 48
    Act.all [
      Act.handResult 1,
      Act.updPair (fun u => { u with hand := .gives ts false, wants := false }),
      Act.pairTell (beBytes 1 1 ++ beBytes 6 ts)]

/-- A write of PAIR.CMD (R567, R576). -/
def pairCmd (ag : Agent) (v : Word) (k : Code → Act) : Act :=
  Act.get fun s =>
    if fget v PAIR.CMD.HANDOVER = 0 then k .ok
    else if s.fld (PAIR.CMD 0) PAIR.CMD.RESULT = 1 then Act.badValue (PAIR.CMD 0) ag k
    else if s.mayHand then Act.seq Act.sendGrant (k .ok)
    else Act.seq (Act.handResult 3) (k .ok)

/-- HANDOVER by AUTO_HANDOVER: a paired channel has entered a condition of precedence 1 (R567). -/
def autoHandover : Act :=
  Act.get fun s =>
    Act.when (s.io.pair.wants = true)
      (if s.mayHand = true ∧ s.flag (PAIR.CFG 0) PAIR.CFG.AUTO_HANDOVER = true ∧ s.fld (PAIR.CMD 0) PAIR.CMD.RESULT ≠ 1 then
         Act.sendGrant
       else Act.updPair fun u => { u with wants := false })

/-- The paired channels whose command in force drives and that can act on it. -/
def State.pairedTurnOns (s : State) : List (Nat × Nat) :=
  s.driveDies.flatMap fun d =>
    ((List.range 28).filter fun c =>
      s.isPaired d c && s.chWants d c && (s.chan (xc d c)).st == .openSt && (s.chan (xc d c)).latches == [] &&
        s.chHeld d c == 2).map fun c => (d, c)

/-- ns until a die time of the lead die, negative when it has passed. -/
def State.untilNs (s : State) (t : Nat) : Int := toSigned 48 ((t + 2 ^ 48 - s.time 0) % 2 ^ 48)

/-- Y declines a GRANT and never acts on it later (R568 step 2). -/
def Act.declineGrant (theirs : Nat) : Act :=
  Act.all [
    Act.updPair (fun u => { u with hand := .none }),
    Act.admWithdraw none,
    Act.pairTell (beBytes 1 3 ++ beBytes 6 theirs)]

/-- Y answers a GRANT once its request is granted, or declines 20 µs before t_s (R568 step 2). -/
def Act.answerGrant : Act :=
  Act.get fun s =>
    match s.io.pair.hand with
    | .takes t x granted false =>
      if s.untilNs t < 20000 then Act.declineGrant x
      else
        Act.when (granted = true)
          (Act.seq (Act.updPair fun u => { u with hand := .takes t x true true }) (Act.pairTell (beBytes 1 2 ++ beBytes 6 x)))
    | _ => Act.skip

/-- GRANT_RECEIVE: Y takes a GRANT, requests admission and answers (R568 step 2); with none waiting it answers the one whose
request has been granted meanwhile. -/
def grantReceive (past : Bool) : Act :=
  Act.seq
    (Act.pairTake (fun n => n == 1) past fun m =>
      Act.get fun s =>
        let u := s.io.pair
        let theirs := m.at 1 6
        let t := (theirs + 2 ^ 48 - (s.reg (PAIR.OFFSET 0)).toNat) % 2 ^ 48
        if u.st ≠ .joined ∨ u.owner = true ∨ s.offsetValid = false ∨ u.hand ≠ .none ∨ s.untilNs t < 20000 then
          Act.pairTell (beBytes 1 3 ++ beBytes 6 theirs)
        else
          let claim := (s.pairedTurnOns.map fun e => s.chClaim e.1 e.2).sum
          Act.seq (Act.updPair fun u => { u with hand := .takes t theirs (decide (claim = 0)) false })
            (Act.when (claim ≠ 0) (Act.admRequest none claim)))
    Act.answerGrant

/-- HANDOVER_SWITCH: at t_s Y pulls PAIR_OWN and applies the paired commands under the grant it holds (R568 step 3). -/
def handoverSwitch : Act :=
  Act.get fun s =>
    match s.io.pair.hand with
    | .takes t _ _ true =>
      Act.when (s.untilNs t ≤ 0)
        (Act.all [
          Act.updPair (fun u => { u with owner := true, pulls := true, theirs := false, claim := .none, hand := .none }),
          Act.pairEvent 4,
          Act.each s.pairedTurnOns (fun e =>
            Act.seq (Act.modChan (xc e.1 e.2) fun u => { u with held := 0 }) (Act.chBegin e.1 e.2)),
          Act.pairSettle])
    | _ => Act.skip

/-- Answers to this unit's GRANT that wait in the inbox (R568). -/
def Act.grantAnswers : Nat → Act
  | 0 => Act.skip
  | n + 1 =>
    Act.seq
      (Act.pairTake (fun x => x == 2 || x == 3) false fun m =>
        Act.updPair fun u =>
          { u with hand :=
            match u.hand with
            | .gives t d => .gives t (d || (m.at 0 1 == 3 && m.at 1 6 == t))
            | h => h })
      (Act.grantAnswers n)

/-- HANDOVER_PROBE: at t_s + OVERLAP_US X releases the line for 2 µs and samples it (R568 steps 4 to 6). -/
def handoverProbe (line : Bool) : Act :=
  Act.seq (Act.get fun s => Act.grantAnswers s.plx.inbox.length)
    (Act.get fun s =>
      match s.io.pair.hand with
      | .gives t declined =>
        Act.when (s.untilNs t + (s.fld (PAIR.TIMING 0) PAIR.TIMING.OVERLAP_US : Int) * 1000 ≤ 0)
          (if line then
             Act.all [
               Act.dropOwner,
               Act.updPair (fun u => { u with hand := .none, theirs := true }),
               Act.pairCount 7,
               Act.handResult 2]
           else
             Act.all [
               Act.updPair (fun u => { u with hand := .none }),
               Act.pairEvent 7,
               Act.pairCount 8,
               Act.handResult (if declined then 4 else 5)])
      | _ => Act.skip)

/-! ## Silent paths (R560, R561) -/

/-- A path of a recovery entry is found silent (R561). -/
def Act.pathSilent (p i path : Nat) : Act :=
  Act.seq (Act.eventIrq (PAIR.EVT p) 8)
    (Act.setReg (PAIR.SILENT_LAST p) (word [(PAIR.SILENT_LAST.ENTRY, i), (PAIR.SILENT_LAST.PATH, path)]))

/-- PATH_SILENT_SWEEP: every 10 ms each armed recovery entry of die p is looked at (R561). -/
def pathSilentSweep (p : Nat) : Act :=
  Act.get fun s =>
    Act.each ((s.seqEntries p 0x56).filter fun i => bit (s.tbl p 0x56 i 1) 32) fun i =>
      let u := s.rcv (1024 * p + i)
      let a := (s.tbl p 0x57 i 0).toNat
      let b := (s.tbl p 0x57 i 1).toNat
      let ageA := if a = u.seenA then u.ageA + 1 else 0
      let ageB := if b = u.seenB then u.ageB + 1 else 0
      let n := fget (s.tbl p 0x56 i 1) ⟨33, 10⟩
      let silentA := decide (n ≤ ageA) && decide (ageB < ageA)
      let silentB := decide (n ≤ ageB) && decide (ageA < ageB)
      let oldA := u.toldA && a == u.seenA
      let oldB := u.toldB && b == u.seenB
      Act.all [
        Act.setRcv (1024 * p + i)
          { u with seenA := a, seenB := b, ageA := ageA, ageB := ageB, toldA := oldA || silentA, toldB := oldB || silentB },
        Act.when (silentA = true ∧ oldA = false) (Act.pathSilent p i 0),
        Act.when (silentB = true ∧ oldB = false) (Act.pathSilent p i 1)]

/-! ## The pairing tables (R578) -/

/-- Entries and words of a pairing table. -/
def pairTable (t : Nat) : Option (Nat × Nat) :=
  match t with
  | 0x54 => some (256, 1)
  | 0x55 => some (1024, 3)
  | 0x56 => some (1024, 3)
  | 0x57 => some (1024, 4)
  | _ => none

/-- The bits of word w of an entry that hold fields; the others are zero (R578). -/
def pairTblMask (t w : Nat) : Nat :=
  match t, w with
  | 0x54, 0 => 2 ^ 19 - 1
  | 0x55, 1 => 2 ^ 26 - 1
  | 0x55, 2 => 2 ^ 16 - 1
  | 0x56, 1 => 2 ^ 43 - 1
  | 0x56, 2 => 2 ^ 16 - 1
  | _, _ => 2 ^ 48 - 1

/-- Does an entry in words break R559 or the ranges of R578? -/
def pairTblBad (p t : Nat) (w : List Word) : Bool :=
  let v := fun i => w.getD i 0
  let path := fun (g : Nat) => decide (g / 64 = p) && (decide (g % 64 < 32) || g % 64 == 60)
  if t = 0x54 then bit (v 0) 18 && (fget (v 0) ⟨12, 6⟩ == 0 || decide (32 < fget (v 0) ⟨12, 6⟩))
  else if t = 0x56 then
    bit (v 1) 13 &&
      (fget (v 1) ⟨15, 6⟩ == 0 || decide (32 < fget (v 1) ⟨15, 6⟩) || fget (v 1) ⟨21, 10⟩ == 0 ||
        decide (1000 < fget (v 1) ⟨21, 10⟩) ||
        (bit (v 1) 32 && (fget (v 1) ⟨33, 10⟩ == 0 || decide (1000 < fget (v 1) ⟨33, 10⟩))) ||
        !path (fget (v 2) ⟨0, 8⟩) || !path (fget (v 2) ⟨8, 8⟩))
  else t == 0x57

/-- Write an entry of a pairing table: SEQ is 0 after it, and recovery starts anew (R557, R558, R578). -/
def Act.pairTblPut (p t i : Nat) (w : List Word) : Act :=
  let m := (List.range w.length).map fun j =>
    if t = 0x55 ∧ j = 2 then 0 else w.getD j 0 &&& BitVec.ofNat 48 (pairTblMask t j)
  Act.seq (Act.setTblWords p t i m) (Act.when (t = 0x56) (Act.setRcv (1024 * p + i) {}))

/-- A write of PAIR.TBL_CMD (R578). -/
def pairTblCmd (ag : Agent) (p : Nat) (v : Word) (k : Code → Act) : Act :=
  let a := PAIR.TBL_CMD p
  let t := fget v PAIR.TBL_CMD.TABLE
  let i := fget v PAIR.TBL_CMD.INDEX
  Act.get fun s =>
    match fget v PAIR.TBL_CMD.OP, pairTable t with
    | 0, some _ => Act.seq (Act.store a v) (k .ok)
    | 1, some (n, m) =>
      if n ≤ i then Act.badValue a ag k
      else
        Act.all [Act.setReg a (fset v PAIR.TBL_CMD.RESULT 0),
          Act.each (List.range m) (fun w => Act.setReg (PAIR.TBL_W p w) (s.tbl p t i w)), k .ok]
    | 2, some (n, m) =>
      let w := (List.range m).map fun j => s.reg (PAIR.TBL_W p j)
      if n ≤ i ∨ pairTblBad p t w = true then Act.seq (Act.setReg a (fset v PAIR.TBL_CMD.RESULT 2)) (Act.badValue a ag k)
      else Act.all [Act.setReg a (fset v PAIR.TBL_CMD.RESULT 0), Act.pairTblPut p t i w, k .ok]
    | _, _ => Act.badValue a ag k

/-- Is a value of PAIR.CFG, WIT, TIMING or CH_k refused (R574, R575)? reg is the register number. -/
def State.pairCfgBad (s : State) (reg : Nat) (v : Word) : Bool :=
  let outside := fun (f : Fld) (lo hi : Nat) => decide (fget v f < lo) || decide (hi < fget v f)
  let facet := fun (f : Fld) => decide (32 ≤ fget v f % 64) || decide (s.x ≤ fget v f / 64)
  if reg = 0 then
    (s.devId != 0 && fget v PAIR.CFG.PARTNER == s.devId) || facet PAIR.CFG.LINK_FACET_0 || facet PAIR.CFG.LINK_FACET_1
  else if reg = 1 then
    let g := fget v PAIR.WIT.WIT_FACET
    (g != 0 && (decide (g % 64 < 32) || decide (47 < g % 64) || decide (s.x ≤ g / 64))) ||
      fget v PAIR.WIT.WIT_ID % 2 == 1 || outside PAIR.WIT.WIT_MS 5 100
  else if reg = 2 then
    outside PAIR.TIMING.LINK_LOSS_MS 2 100 || outside PAIR.TIMING.CLAIM_MS 1 1000 || outside PAIR.TIMING.OVERLAP_US 20 150 ||
      outside PAIR.TIMING.LEAD_US 50 1000
  else decide (3 ≤ reg ∧ reg ≤ 6) && decide (s.y ≤ reg - 3) && fget v PAIR.CH.PAIRED != 0

end Sys2Proof.Machine
end

