-- ==== Sys2Proof/Machine/Xcvr.lean ====
section
/-! DEFINITION. The integrated transceivers of the drive dies (R390, R424 to R427, R438, R765). -/

namespace Sys2Proof.Machine

/-- The Prism die of drive die d, and the controller there that uses its transceiver u (R28, R29). -/
def State.ctlOf (s : State) (d u : Nat) : Nat × Nat :=
  (s.attachedTo d, if u < 8 then 8 * s.rankOf d + u else 4 * s.rankOf d + (u - 8))

/-- Does a controller use its balls instead of transceiver u of drive die d (R390), or has R29 no controller for it? -/
def State.xcvrHeld (s : State) (d u : Nat) : Bool :=
  let (p, c) := s.ctlOf d u
  if u < 8 then decide (16 ≤ c) || s.flag (CAN.CFG p c) CAN.CFG.EXT
  else decide (8 ≤ c) || s.flag (LIN.CFG p c) LIN.CFG.EXT

/-- The mode forced on transceiver u of drive die d: 0 automatic, 1 standby, 2 silent, 3 off (R438). -/
def State.xcvrForced (s : State) (d u : Nat) : Nat :=
  if u < 8 then fget (s.reg (XCVR.CAN_MODE d)) ⟨2 * u, 2⟩ else fget (s.reg (XCVR.LIN_CFG d)) ⟨4 * (u - 8), 2⟩

/-- The mode that its controller's state gives transceiver u of drive die d (R425). -/
def State.xcvrAuto (s : State) (d u : Nat) : XcvrMode :=
  let (p, c) := s.ctlOf d u
  if u < 8 then
    match (s.can (canKey p c)).st with
    | .off => .standby
    | .sleep => .standby
    | .busOff => .silent
    | _ => if s.fld (CAN.CFG p c) CAN.CFG.MODE = 1 then .silent else .normal
  else
    match (s.lin (linKey p c)).st with
    | .off => .standby
    | .sleep => .standby
    | _ => .normal

/-- The mode that transceiver u of drive die d is to take (R390, R425, R426, R594, R642). A LIN transceiver that has detected a wake passes
its bus from standby: STAT never shows it silent (R438, log entry 134). -/
def State.xcvrWanted (s : State) (d u : Nat) : XcvrMode :=
  if s.xcvrHeld d u then .off
  else if (s.supply d).hbLost ∨ (s.drv d).pin then .standby
  else
    match s.xcvrForced d u with
    | 1 => .standby
    | 2 => .silent
    | 3 => .off
    | _ =>
      if u < 8 ∧ s.xcvrAuto d u = .standby ∧ (s.xcvr (xKey d u)).woken then .silent else s.xcvrAuto d u

/-- XCVR_MODE_CHANGE: transceiver u of drive die d takes its mode, which its channel-control island applies: from its controller over the
drive link, or by itself where the die is in Pinhole mode or has lost the heartbeat (R424 to R426). Leaving standby confirms a wake
(R594). -/
def xcvrModeChange (d u : Nat) : Act :=
  Act.get fun s =>
    let m := s.xcvrWanted d u
    let own := (s.supply d).hbLost || (s.drv d).pin
    Act.when (d < s.y ∧ u < 12 ∧ (s.supply d).chanOn = true ∧ (own = true ∨ s.dlinkDown d = false))
      (Act.modXcvr (xKey d u) fun x => { x with mode := m, woken := x.woken && s.xcvrAuto d u == .standby && m != .off })

/-- Record an event of XCVR with its transceiver (R438). -/
def Act.xcvrEvent (d i u : Nat) : Act := Act.seq (Act.event (XCVR.EVT d) i) (Act.setFld (XCVR.LAST d) XCVR.LAST.UNIT u)

/-- TXD_TIMEOUT: the transmit input of transceiver u is dominant too long, and its driver is released until the input returns recessive
(R427). -/
def txdTimeout (d u : Nat) (recessive : Bool) : Act :=
  Act.get fun s =>
    Act.when (d < s.y ∧ u < 12)
      (Act.seq (Act.modXcvr (xKey d u) fun x => { x with stuck := !recessive })
        (Act.when (recessive = false) (Act.xcvrEvent d (if u < 8 then 0 else 2) u)))

/-- BUS_DOM: the bus of CAN transceiver u stays dominant for more than 4 ms (R427). -/
def busDom (d u : Nat) : Act := Act.get fun s => Act.when (d < s.y ∧ u < 8) (Act.xcvrEvent d 1 u)

/-- XCVR_THERMAL: transceiver u overheats and turns its driver off (R427). -/
def xcvrThermal (d u : Nat) : Act :=
  Act.get fun s =>
    Act.when (d < s.y ∧ u < 12)
      (Act.seq (Act.modXcvr (xKey d u) fun x => { x with hot := true }) (Act.xcvrEvent d 3 u))

/-- XCVR_THERMAL_RELEASE: transceiver u has cooled below its release threshold and drives again (R427). -/
def xcvrThermalRelease (d u : Nat) : Act := Act.modXcvr (xKey d u) fun x => { x with hot := false }

/-- LIN_SUP_HIGH: LIN_SUP of drive die d stays above 36 V for 20 µs; its LIN drivers are released (R765). -/
def linSupHigh (d : Nat) : Act :=
  Act.get fun s => Act.when (d < s.y) (Act.seq (Act.setLinOver d true) (Act.event (XCVR.EVT d) 4))

/-- LIN_SUP_OK: LIN_SUP of drive die d stays at or below 35 V for 1 ms; its LIN transceivers resume (R765). -/
def linSupOk (d : Nat) : Act := Act.setLinOver d false

/-- The modes as XCVR.STAT shows them (R438). -/
def XcvrMode.code (m : XcvrMode) : Nat :=
  match m with
  | .off => 0
  | .standby => 1
  | .normal => 2
  | .silent => 3

/-- XCVR.STAT of drive die d (R438). -/
def State.xcvrStat (s : State) (d : Nat) : Word :=
  word ((List.range 12).map fun u =>
    (⟨if u < 8 then 2 * u else 16 + 2 * (u - 8), 2⟩, (s.xcvr (xKey d u)).mode.code))

end Sys2Proof.Machine
end

