-- ==== Sys2Proof/Machine/Wake.lean ====
section
/-! DEFINITION. Sleep and wake: partial networks, keep-alives sent for them, the consent ring, sleep entry, wake sources, and
valid and false wakes (R580 to R597, R602 to R607). -/

namespace Sys2Proof.Machine

/-! ## Partial networks (R580 to R584) -/

/-- Is network k awake? -/
def State.pnAwake (s : State) (k : Nat) : Bool := (s.pnet k).awake

/-- A member facet sleeps (R584). -/
def Act.pnFacetSleeps (k gf : Nat) : Act :=
  Act.get fun s =>
    let p := gf / 64
    let f := gf % 64
    if f < 32 then
      Act.when (s.flag (WAKE.PN_CFG 0 k) WAKE.PN_CFG.ETH_OFF = true ∧ s.enabled p (0x20 + f) = true)
        (Act.all [
          Act.linkDown p f false false,
          Act.setReg (BLK_CTRL p (0x20 + f)) (clearBit (s.reg (BLK_CTRL p (0x20 + f))) 1),
          Act.updDoze fun z => { z with ethOff := z.ethOff ++ [gf] }])
    else if f < 48 then Act.canSleep p (f - 32)
    else Act.when ((s.lin (linKey p (f - 48))).st ≠ .off) (linGotosleep p (f - 48))

/-- An Ethernet facet that its network disabled is enabled again (R584). -/
def Act.pnEthOn (gf : Nat) : Act :=
  Act.get fun s =>
    let a := BLK_CTRL (gf / 64) (0x20 + gf % 64)
    Act.when (s.io.doze.ethOff.contains gf = true)
      (Act.seq (Act.setReg a (setBit (s.reg a) 1)) (Act.updDoze fun z => { z with ethOff := z.ethOff.filter (· != gf) }))

/-- A LIN facet's schedule is to restart 100 ms after an edge (R584). -/
def Act.pnLinRestart (gf : Nat) : Act :=
  Act.get fun s => Act.updDoze fun z => { z with pulses := z.pulses ++ [(gf, s.edges)] }

/-- A member facet wakes (R584); with a pattern to send, its LIN pulse or its enable waits for the slot (R597). -/
def Act.pnFacetWakes (gf : Nat) (pattern : Bool) : Act :=
  Act.get fun s =>
    let p := gf / 64
    let f := gf % 64
    if f < 32 then Act.when (pattern = false) (Act.pnEthOn gf)
    else if f < 48 then Act.canWake p (f - 32)
    else
      Act.seq (Act.modLin (linKey p (f - 48)) fun u => { u with goSleep := false })
        (Act.when (pattern = false ∧ (s.lin (linKey p (f - 48))).st = .sleep) (Act.pnLinRestart gf))

/-- Does a member facet need a wake pattern (R597)? -/
def State.needsPattern (s : State) (gf : Nat) : Bool :=
  if gf % 64 < 32 then s.io.doze.ethOff.contains gf
  else if gf % 64 < 48 then (s.can (canKey (gf / 64) (gf % 64 - 32))).st != .off
  else (s.lin (linKey (gf / 64) (gf % 64 - 48))).st == .sleep

/-- A wake is judged (R595): a valid one is reported to its drive die; an invalid one is counted too, and enters the history
of its source (R596). -/
def Act.drvInvalid (d src : Nat) : Act :=
  Act.get fun s =>
    let v := s.drv d
    let now := s.edges
    let old := v.invalid.filter fun e => e.1 != src || decide (now / 32768 - e.2 / 32768 ≤ 600)
    let n := (old.filter fun e => e.1 == src).length + 1
    Act.when (src ≠ 14 ∧ src ≠ 15 ∧ bit (s.reg (WKP.NO_DISARM d)) src = false ∧ (v.disarmed.any fun e => e.1 == src) = false)
      (if 8 ≤ n then
        Act.seq
          (Act.modDrv d fun v => { v with invalid := old.filter (fun e => e.1 != src), disarmed := v.disarmed ++ [(src, now)] })
          (Act.event (WKP.EVT d) 2)
       else Act.modDrv d fun v => { v with invalid := old ++ [(src, now)] })

/-- The wake of a source is no longer awaited at its drive die. -/
def Act.dropAwait (d src : Nat) : Act := Act.modDrv d fun v => { v with awaited := v.awaited.filter fun e => e.1 != src }

/-- The lead die judges a wake valid or invalid and reports it over the drive link (R35, R595). -/
def Act.judged (j : WakeJudge) (valid : Bool) : Act :=
  Act.get fun s =>
    Act.all [
      Act.updDoze (fun z => { z with judges := z.judges.filter (· != j) }),
      Act.when (j.pn = none) (Act.setFld (WAKE.CAUSE 0) WAKE.CAUSE.VALID_STATE (if valid then 1 else 2)),
      Act.when (valid = false) (Act.seq (Act.wakeEvent 5) (Act.wakeCount 5)),
      Act.when (s.dlinkDown j.die = false)
        (Act.seq
          (Act.when (valid = false ∧ ((s.drv j.die).awaited.any fun e => e.1 == j.src) = true) (Act.drvInvalid j.die j.src))
          (Act.dropAwait j.die j.src))]

/-- The global facet of a transceiver that is wake source src of drive die d (R590). -/
def State.srcFacet (s : State) (d src : Nat) : Nat :=
  let (p, c) := s.ctlOf d src
  globalFacet p (if src < 8 then 32 + c else 48 + c)

/-- Does a state of affairs make a wake valid (R595)? -/
def State.judgeValid (s : State) (j : WakeJudge) : Bool :=
  if j.src < 12 then ((s.pnOf (s.srcFacet j.die j.src)).any fun k => s.pnAsked k)
  else if j.src = 14 ∨ j.src = 15 then true
  else (pnList.any fun k => s.pnOn k && s.pnAsked k) || s.anyStay

/-- Judge valid every open wake that has become so (R595). -/
def Act.judgeSettle : Act :=
  Act.get fun s => Act.each (s.io.doze.judges.filter s.judgeValid) fun j => Act.judged j true

/-- Open the judging of a wake (R594, R595). -/
def Act.judgeOpen (pn : Option Nat) (d src : Nat) : Act :=
  Act.get fun s =>
    Act.seq (Act.updDoze fun z => { z with judges := z.judges ++ [{ pn := pn, die := d, src := src, since := s.edges }] }) Act.judgeSettle

/-- Network k wakes (R582): on a request or traffic with patterns; on a transceiver wake or a keep-alive without, but held. -/
def Act.pnWakes (k : Nat) (c : Option PnCause) : Act :=
  Act.get fun s =>
    let pattern := match c with
      | none => true
      | some .traffic => true
      | _ => false
    let mem := s.pnMembers k
    Act.all [
      Act.modPnet k (fun n =>
        { n with awake := true, silence := s.edges, due := none, hold := if pattern then n.hold else some s.edges }),
      Act.when (pattern = true)
        (Act.updDoze fun z => { z with patterns := z.patterns ++ mem.filter s.needsPattern }),
      Act.each mem fun gf => Act.pnFacetWakes gf pattern,
      Act.wakeCount 2,
      Act.wakeEvent 1,
      (match c with
       | some (.xcvr d src) => Act.judgeOpen (some k) d src
       | _ => Act.skip)]

/-- PN_WAKE: network k, asleep, is locally requested or is to be woken (R582). -/
def pnWake (k : Nat) : Act :=
  Act.get fun s =>
    let n := s.pnet k
    Act.when (k < 16 ∧ s.pnOn k = true ∧ n.awake = false ∧ (s.pnAsked k = true ∨ n.due.isSome))
      (Act.pnWakes k (if s.pnAsked k then none else n.due))

/-- Has the hold of network k ended (R582)? -/
def State.pnHeld (s : State) (k : Nat) : Bool :=
  (s.pnet k).hold.any fun t => !s.pastMs t (s.fld (WAKE.CFG 0) WAKE.CFG.MIN_AWAKE_MS)

/-- PN_SLEEP: network k has been silent, is not requested and not held: it falls ASLEEP and its members sleep (R582, R584). -/
def pnSleep (k : Nat) : Act :=
  Act.get fun s =>
    let n := s.pnet k
    Act.when (k < 16 ∧ s.pnOn k = true ∧ n.awake = true ∧ s.pnAsked k = false ∧ s.pnHeld k = false ∧
        s.pastMs n.silence (s.fld (WAKE.CFG 0) WAKE.CFG.SILENCE_MS) = true)
      (Act.all [
        Act.modPnet k (fun n => { n with awake := false, hold := none, due := none }),
        Act.updDoze (fun z => { z with
          patterns := z.patterns.filter fun gf => !s.pnHas k gf
          pulses := z.pulses.filter fun e => !s.pnHas k e.1 }),
        Act.each (s.pnMembers k) fun gf => Act.pnFacetSleeps k gf,
        Act.wakeCount 3,
        Act.wakeEvent 2])

/-- Is a member facet awake, so that a keep-alive on it counts (R581)? -/
def State.memberAwake (s : State) (gf : Nat) : Bool :=
  if gf % 64 < 32 then !s.io.doze.ethOff.contains gf
  else decide (gf % 64 < 48) && (s.can (canKey (gf / 64) (gf % 64 - 32))).st != .sleep

/-- A requesting keep-alive of another node arrives on a member facet of network k (R581, R582, R595). -/
def Act.pnHeard (k gf : Nat) : Act :=
  Act.get fun s =>
    Act.all [
      Act.wakeCount 8,
      Act.setFld (WAKE.PN_STAT 0 k) WAKE.PN_STAT.LAST_KA gf,
      Act.modPnet k (fun n => if n.awake then { n with silence := s.edges } else { n with due := n.due.orElse fun _ => some .keepAlive }),
      Act.each (s.io.doze.judges.filter fun j => decide (j.src < 12) && s.pnOf (s.srcFacet j.die j.src) == some k)
        fun j => Act.judged j true]

/-- A keep-alive with request mask m arrives on global facet gf (R581). -/
def Act.pnSeen (gf m : Nat) : Act :=
  Act.get fun s =>
    Act.opt (s.pnOf gf) fun k => Act.when (m / 2 ^ k % 2 = 1 ∧ s.memberAwake gf = true) (Act.pnHeard k gf)

/-- KEEPALIVE_PN_SEEN: a requesting keep-alive with request mask m on member facet gf (R581). -/
def keepalivePnSeen (gf m : Nat) : Act := Act.pnSeen (gf % 256) m

/-- A valid frame of another node arrives at CAN controller c of die p: it may be a foreign keep-alive (R581). -/
def Act.pnForeign (p c : Nat) (b : List Byte) : Act :=
  Act.get fun s =>
    let gf := globalFacet p (32 + c)
    Act.opt (s.pnOf gf) fun k =>
      let mask := s.fld (WAKE.PN_KA_MASK 0 k) WAKE.PN_KA_MASK.MASK
      Act.when (s.flag (WAKE.PN_CFG 0 k) WAKE.PN_CFG.FOREIGN = true ∧
          Nat.land (bfId b) mask = Nat.land (s.fld (WAKE.PN_KA 0 k) WAKE.PN_KA.ID) mask ∧
          (decide (bfFormat b < 2) && bfFlag b 7) = s.flag (WAKE.PN_KA 0 k) WAKE.PN_KA.XTD ∧ s.memberAwake gf = true)
        (Act.pnHeard k gf)

/-- A write of WAKE.REQ_k of die p: only by partition k of the die; REQ_16, the host's, only by the host (R604). -/
def reqWrite (ag : Agent) (p k : Nat) (v : Word) (cont : Code → Act) : Act :=
  let mine := match ag with
    | .fw die part _ _ => decide (k < 16) && part == k && die == p
    | .spi => k == 16
    | .eth => k == 16
    | _ => false
  let a := if k = 16 then WAKE.REQ_HOST p else WAKE.REQ p k
  if mine then Act.all [Act.store a v, Act.judgeSettle, cont .ok] else Act.badValue a ag cont

/-- PN_STAT_k (R604). -/
def State.pnStat (s : State) (k : Nat) : Word :=
  let n := s.pnet k
  word [(WAKE.PN_STAT.STATE, if s.pnOn k then (if n.awake then 2 else 1) else 0), (WAKE.PN_STAT.LOCAL, b2n (s.pnAsked k)),
    (WAKE.PN_STAT.HELD, b2n (n.awake && s.pnHeld k)),
    (WAKE.PN_STAT.SILENCE_MS, sat 16383 (if n.awake then (s.edges - n.silence) * 1000 / 32768 else 0)),
    (WAKE.PN_STAT.LAST_KA, s.fld (WAKE.PN_STAT 0 k) WAKE.PN_STAT.LAST_KA)]

/-! ## Keep-alives sent (R583, R701, R702) -/

/-- The mask of the networks locally requested (R701). -/
def State.reqMask (s : State) : Nat := (pnList.map fun k => b2n (s.pnOn k && s.pnAsked k) * 2 ^ k).sum

/-- The body of a keep-alive of this device (R701). -/
def State.kaBody (s : State) : List Byte :=
  beBytes 6 s.serial ++ beBytes 6 s.ownDigest ++ beBytes 2 s.ownGen ++ beBytes 2 s.reqMask ++ beBytes 2 s.attn ++
    beBytes 1 (s.x + 16 * s.y) ++ beBytes 5 0

/-- The exclusive or of a digest's three lanes (R702). -/
def foldDigest (n : Nat) : Nat := Nat.xor (Nat.xor (n / 2 ^ 32) (n / 2 ^ 16 % 2 ^ 16)) (n % 2 ^ 16)

/-- The keep-alive of this device as a CAN frame (R702). -/
def State.kaCan (s : State) : List Byte :=
  mkBus 0 (s.fld (PLX.CAN_KA 0) PLX.CAN_KA.ID + s.devId) 128 8 0 0 0 0
    (beBytes 2 s.devId ++ beBytes 2 s.reqMask ++ beBytes 2 s.ownGen ++ beBytes 2 (foldDigest s.ownDigest))

/-- Send a keep-alive on a facet that is link up (R583, R701, R702); pn says that it is sent for a partial network. -/
def Act.kaSend (gf : Nat) (pn : Bool) : Act :=
  Act.get fun s =>
    let p := gf / 64
    let f := gf % 64
    let sent := Act.when (pn = true) (Act.wakeCount 7)
    Act.when (s.plxOn = true ∧ s.facetDown p f = false)
      (if f < 32 then
        Act.opt s.groupMac fun da =>
          Act.seq sent (Act.ezMake 1 (s.fld (PLX.CFG 0) PLX.CFG.HOPS) 0xFFFF s.kaBody fun b =>
            Act.seq (Act.plxCount 0) (Act.ezPost gf da b))
       else
        Act.when (f < 48 ∧ s.flag (PLX.CAN_KA 0) PLX.CAN_KA.EN = true)
          (Act.all [sent, Act.plxCount 0,
            Act.engineOut 0 63 (globalQueue p (queueNo f 7 29)) (globalFacet 0 63) (s.time 0) true s.kaCan]))

/-- KEEPALIVE_PN_SEND: KA_PERIOD_MS has passed; a keep-alive leaves on every awake member CAN and Ethernet facet of network k,
which is locally requested; a facet whose pattern waits sends its first one in its slot (R583). -/
def keepalivePnSend (k : Nat) : Act :=
  Act.get fun s =>
    Act.when (k < 16 ∧ s.pnOn k = true ∧ s.pnAsked k = true ∧
        (s.pnet k).kaAt.all (fun t => s.pastMs t (s.fld (WAKE.CFG 0) WAKE.CFG.KA_PERIOD_MS)) = true)
      (Act.seq (Act.modPnet k fun n => { n with kaAt := some s.edges }) <| Act.each ((s.pnMembers k).filter fun gf => s.memberAwake gf && !s.slotWait gf) fun gf => Act.kaSend gf true)

/-- WAKE_PATTERN_SLOT: a slot of SLOT_MS of the lead die's time begins; unless the supply sags, the first waiting facet begins its
pattern (R597). -/
def wakePatternSlot : Act :=
  Act.get fun s =>
    let slot := s.time 0 / (s.fld (WAKE.ADM 0) WAKE.ADM.SLOT_MS * 1000000)
    Act.when (s.io.doze.slot ≠ some slot) <| Act.seq (Act.updDoze fun z => { z with slot := some slot }) <|
    Act.when (s.sagNow = false)
      (match s.io.doze.patterns with
       | [] => Act.skip
       | gf :: rest =>
         let p := gf / 64
         let c := gf % 64 - 48
         Act.seq (Act.updDoze fun z => { z with patterns := rest })
           (if gf % 64 < 32 then Act.pnEthOn gf
            else if gf % 64 < 48 then
              Act.when ((s.pnOf gf).any s.pnAsked = true) (Act.kaSend gf true)
            else
              Act.seq (Act.emit (.linWake p c (100 * s.fld (WAKE.CFG_B 0) WAKE.CFG_B.LIN_PULSE_US))) (Act.pnLinRestart gf)))

/-- LIN_WAKE_SCHEDULE_RESTART: 100 ms after the wake pulse of controller c of die p its schedule restarts from its first
entry (R584). -/
def linWakeScheduleRestart (p c : Nat) : Act :=
  Act.get fun s =>
    let gf := globalFacet p (48 + c)
    Act.when ((s.io.doze.pulses.any fun e => e.1 == gf && s.pastMs e.2 100) = true)
      (Act.seq (Act.updDoze fun z => { z with pulses := z.pulses.filter fun e => e.1 != gf })
        (Act.modLin (linKey p c) fun u =>
          if u.st = .sleep then
            { u with st := if s.linTblLen p c u.table = 0 then .stopped else .running, entry := 0, next := 0, resolving := none
                     resolveNext := none, waiting := none }
          else u))

/-! ## The consent ring (R585 to R588) -/

/-- The die fields of this package in the ring's order (R585). -/
def State.ringDies (s : State) : List Nat := s.prismDies ++ s.driveDies.map fun d => 4 + d

/-- Is the partner in the ring (R585)? -/
def State.ringPaired (s : State) : Bool := s.io.pair.st == .joined

/-- The consent bit of the die of die field f (R585). -/
def State.ringBit (s : State) (f : Nat) : Nat := if s.ringPaired && s.role == 1 then 8 + f else f

/-- The bits of the members present (R585, R602). The partner's dies are those its keep-alive names, all eight before one is
heard. -/
def State.ringPresent (s : State) : Nat :=
  let own := (s.ringDies.map fun f => 2 ^ s.ringBit f).sum
  if s.ringPaired then
    own + ((s.member (s.fld (PAIR.CFG 0) PAIR.CFG.PARTNER)).elim 255 fun m => m.dies) * (if s.role = 1 then 1 else 256)
  else own

/-- Does a die of this package run on a substitute edge (R38)? -/
def State.substNow (s : State) : Bool :=
  (s.prismDies.any fun p => (s.psup p).subst) || s.driveDies.any fun d => (s.supply d).subst

/-- Is a flash, IMG.CMD or PROV_CMD operation in progress (R587)? -/
def State.flashBusy (s : State) : Bool :=
  s.ld.flashOp != .none || s.ld.cmdBusy.isSome || s.ld.erasing.isSome || (s.kstore 0).prov.isSome

/-- Does the member of die field f consent (R587)? While WAKE is disabled consent is withheld. -/
def State.consents (s : State) (f : Nat) : Bool :=
  if f = 0 then
    s.enabled 0 0x71 && s.flag (WAKE.CFG 0) WAKE.CFG.SLEEP_EN && s.start.step == 15 && s.start.fwDone &&
      s.pastMs s.io.doze.service (s.fld (WAKE.CFG 0) WAKE.CFG.SILENCE_MS) &&
      (pnList.all fun k => !(s.pnOn k && s.pnAwake k)) && ((s.reqWords 0).all fun w => w == 0) &&
      !s.flashBusy && s.io.pair.st != .split && !s.substNow
  else if f < 4 then (s.reqWords f).all fun w => w == 0
  else
    let d := f - 4
    let v := s.drv d
    let armed := fun (i : Nat) => bit (s.reg (WKP.SRC_EN d)) i && !(v.disarmed.any fun e => e.1 == i)
    ((List.range 28).all fun c => !((s.chan (xc d c)).drives || (s.chan (xc d c)).st == .selftest)) &&
      ((12 :: 13 :: (List.range 24).map (16 + ·)).all fun i => !(armed i && v.asserted / 2 ^ i % 2 == 1)) &&
      !v.pin && !(s.supply d).ovOpen

/-- Change the ring's record. -/
def Act.updRing (f : Ring → Ring) : Act := Act.updDoze fun z => { z with ring := f z.ring }

/-- The code of a phase in a token (log entry 33). -/
def Phase.code : Phase → Nat
  | .poll => 0
  | .commit => 1
  | .go => 2
  | .sleep => 3
  | .abort => 4

/-- The phase of a code. -/
def Phase.ofCode : Nat → Phase
  | 0 => .poll
  | 1 => .commit
  | 2 => .go
  | 3 => .sleep
  | _ => .abort

/-- The originating lead die starts a round (R588). -/
def Act.ringStart (ph : Phase) : Act :=
  Act.get fun s =>
    Act.updRing fun g =>
      { g with
        origin := true, flight := some s.edges, last := some s.edges, phase := some ph, notice := none
        round := (g.round + 1) % 256
        token := some { origin := s.role, round := (g.round + 1) % 256, phase := ph } }

/-- May this lead die take part in the ring at all: in service (R586)? -/
def State.ringOn (s : State) : Bool := s.start.step == 15 && s.enabled 0 0x71 && s.io.stage == .awake

/-- TOKEN_ORIGINATE: the lead die's first wait is over and no token has reached it, or ROUND_MS has passed since its last
POLL round began (R586, R588). -/
def tokenOriginate : Act :=
  Act.get fun s =>
    let g := s.io.doze.ring
    Act.when (s.ringOn = true ∧ g.flight = none ∧ g.notice = none ∧
        (g.last = none ∨ (g.origin = true ∧ (g.last.any fun t => s.pastMs t (s.fld (WAKE.CFG_B 0) WAKE.CFG_B.ROUND_MS)) = true)))
      (Act.ringStart .poll)

/-- TOKEN_LOST: a round has not returned in ROUND_MS, or a lead die that does not originate has seen no token for
TOKEN_LOST_MS; the back-off is over and a new token is made (R586). -/
def tokenLost : Act :=
  Act.get fun s =>
    let g := s.io.doze.ring
    let gone := if g.origin then g.flight.any fun t => s.pastMs t (s.fld (WAKE.CFG_B 0) WAKE.CFG_B.ROUND_MS)
      else g.last.any fun t => s.pastMs t (s.fld (WAKE.CFG_B 0) WAKE.CFG_B.TOKEN_LOST_MS)
    Act.when (s.ringOn = true ∧ gone = true)
      (Act.all [Act.wakeEvent 6, Act.wakeCount 6, Act.ringStart .poll])

/-- The sleep notice: COMMIT passes this lead die (R588, R683). -/
def Act.sleepNotice : Act :=
  Act.get fun s =>
    Act.seq (Act.wakeEvent 3)
      (Act.each s.prismDies fun p => Act.each (List.range 16) fun k => Act.irq p (.direct k 8 0))

/-- An agreement is aborted: the lead die returns to service (R588). -/
def Act.ringAborted : Act :=
  Act.all [Act.wakeEvent 4, Act.wakeCount 4, Act.updRing fun g => { g with phase := none, notice := none }]

/-- The lead die sees a token pass (R585, R588, R602). -/
def Act.ringLead (t : Token) : Act :=
  Act.get fun s =>
    Act.all [
      Act.updRing (fun g => { g with round := t.round, last := some s.edges, phase := if t.phase == .abort then none else some t.phase }),
      Act.when (t.phase = .commit) Act.sleepNotice,
      Act.when (t.phase = .abort) Act.ringAborted]

/-- The message that carries a token to the partner (log entry 33). -/
def Token.body (t : Token) : List Byte :=
  beBytes 1 4 ++ beBytes 1 t.origin ++ beBytes 1 t.phase.code ++ beBytes 1 t.round ++ beBytes 2 t.mask

/-- Put a PAIR message straight on the line of the first link facet: the SLEEP token leaves when the facets are already
disabled (R588, R589, log entry 34). -/
def Act.pairLast (body : List Byte) : Act :=
  Act.get fun s =>
    Act.opt s.pairFacets.head? fun g =>
      Act.opt s.partnerMac fun da =>
        Act.ezMake 5 0 (s.fld (PAIR.CFG 0) PAIR.CFG.PARTNER) body fun b =>
          Act.emit (.eth (g / 64) (g % 64) (ezFrame da (s.reg (ETH.MATCH (g / 64) (g % 64) 0)).toNat b))

/-- A token leaves the last member of this package: to the partner, or it stays for its origin here (R585). -/
def Act.ringLeave (t : Token) : Act :=
  Act.get fun s =>
    if s.ringPaired then
      Act.seq (Act.when (t.phase = .abort ∧ s.io.doze.ring.phase ≠ none) Act.ringAborted) <|
      if t.phase = .sleep then
        Act.seq (Act.updRing fun g => { g with token := none }) (Act.when (t.origin = s.role) (Act.pairLast t.body))
      else Act.seq (Act.updRing fun g => { g with token := none }) (Act.pairTell t.body)
    else Act.updRing fun g => { g with token := some t }

/-- The token with the member of die field f's consent bit set or cleared; a member without consent in COMMIT or GO turns it
into ABORT (R587, R588). -/
def State.ringMark (s : State) (f : Nat) (t : Token) : Token :=
  let ok := s.consents f
  { t with
    mask := putBit t.mask (s.ringBit f) ok
    phase := if !ok && (t.phase == .commit || t.phase == .go) then .abort else t.phase
    pos := t.pos + 1 }

/-- The member at the token's place passes it on (R585, R588): the lead die acts on its phase, and a member that turns it
into ABORT after the lead die has let it pass as COMMIT or GO leaves the lead die to see the abort when it returns. A token for
a drive die whose link carries nothing is lost (R35, R586). -/
def Act.ringStep (t : Token) : Act :=
  Act.get fun s =>
    Act.opt (s.ringDies[t.pos]?) fun f =>
      let u := s.ringMark f t
      if 4 ≤ f ∧ s.dlinkDown (f - 4) = true then Act.updRing fun g => { g with token := none }
      else Act.seq (Act.when (f = 0) (Act.ringLead u))
        (if u.pos < s.ringDies.length then Act.updRing fun g => { g with token := some u } else Act.ringLeave u)

/-- The token that a PAIR message carries. -/
def EzMsg.token (m : EzMsg) : Token :=
  { origin := m.at 1 1, phase := Phase.ofCode (m.at 2 1), round := m.at 3 1, mask := m.at 4 2, pos := 0 }

/-- TOKEN_PASS: the member that holds the token passes it on, at its next slow-clock edge; or a token of the partner arrives
at the lead die, whose role decides which prevails (R585, R586). -/
def tokenPass : Act :=
  Act.get fun s =>
    match s.io.doze.ring.token with
    | some t => Act.when (t.phase ≠ .sleep ∧ t.pos < s.ringDies.length) (Act.ringStep t)
    | none =>
      Act.pairMsg (fun m => m.at 0 1 == 4 && m.at 1 1 != s.role) false fun m =>
        Act.when (s.role = 1)
          (Act.seq
            (Act.updRing fun g =>
              { g with token := some m.token, origin := false, flight := none, notice := none, last := some s.edges })
            (Act.when (m.token.phase ≠ .sleep) (Act.ringStep m.token)))

/-- The origin acts on its round's return (R588). -/
def Act.ringBack (t : Token) : Act :=
  Act.get fun s =>
    let whole := decide (Nat.land t.mask s.ringPresent = s.ringPresent)
    Act.seq (Act.updRing fun g => { g with token := none, flight := none, consent := t.mask })
      (match t.phase with
       | .abort => Act.when (s.io.doze.ring.phase ≠ none) Act.ringAborted
       | .poll => if whole then Act.ringStart .commit else Act.updRing fun g => { g with phase := none }
       | .commit =>
         if whole then Act.updRing fun g => { g with notice := some s.edges } else Act.updRing fun g => { g with phase := none }
       | .go => if whole then Act.ringStart .sleep else Act.updRing fun g => { g with phase := none }
       | .sleep => Act.skip)

/-- TOKEN_RETURN: the token has passed every member and is back at its origin (R585, R588). -/
def tokenReturn : Act :=
  Act.get fun s =>
    match s.io.doze.ring.token with
    | some t => Act.when (t.pos = s.ringDies.length ∧ t.origin = s.role) (Act.ringBack t)
    | none =>
      Act.pairMsg (fun m => m.at 0 1 == 4 && m.at 1 1 == s.role) false fun m =>
        Act.when (s.io.doze.ring.origin = true ∧ m.token.round = s.io.doze.ring.round) (Act.ringBack m.token)

/-- NOTICE_END: NOTICE_MS after COMMIT returned the GO round starts (R588). -/
def noticeEnd : Act :=
  Act.get fun s =>
    let g := s.io.doze.ring
    Act.when (g.origin = true ∧ (g.notice.any fun t => s.pastMs t (s.fld (WAKE.CFG_B 0) WAKE.CFG_B.NOTICE_MS)) = true)
      (Act.ringStart .go)

/-- WAKE.STAT (R602). -/
def State.wakeStat (s : State) : Word :=
  let g := s.io.doze.ring
  let pkg := match g.phase with
    | none => 0
    | some .poll => 1
    | some .commit => if g.notice.isSome then 3 else 2
    | some .go => 4
    | some .sleep => 5
    | some .abort => 0
  word [(WAKE.STAT.PKG, pkg), (WAKE.STAT.ORIGIN, b2n g.origin), (WAKE.STAT.ROUND, g.round), (WAKE.STAT.CONSENT, g.consent),
    (WAKE.STAT.PRESENT, s.ringPresent)]

/-! ## Entering sleep (R589) -/

/-- A Prism die enters sleep: its facets disabled, its posted window writes failed (R589 step 1). -/
def Act.prismSleeps (p : Nat) : Act :=
  Act.all [
    Act.each (List.range 32) fun f =>
      Act.seq (Act.linkDown p f false false)
        (Act.get fun s => Act.setReg (BLK_CTRL p (0x20 + f)) (clearBit (s.reg (BLK_CTRL p (0x20 + f))) 1)),
    Act.each (List.range 16) fun c => Act.canOff p c,
    Act.each (List.range 8) fun c => Act.linOff p c,
    Act.setWpost p []]

/-- A drive die enters sleep: transceivers in standby, heartbeat timer and channel-control island stopped; sources are latched
anew (R589 step 2, R607). -/
def Act.driveSleeps (d : Nat) : Act :=
  Act.all [
    Act.each (List.range 12) fun u => Act.get fun s =>
      Act.when (s.xcvrHeld d u = false) (Act.modXcvr (xKey d u) fun x => { x with mode := .standby, woken := false, errs := 0 }),
    Act.modDrv d fun v => { v with hbTimer := none, hbRun := none, seen := 0 },
    Act.setSup d fun u => { u with chanOn := false },
    Act.setReg (WKP.CAUSE d) 0]

/-- SLEEP_ENTRY: the SLEEP token is at a member of this package, which enters sleep and passes it on; after the last one OFF
goes to drive die 0 (R588, R589). A token for a drive die whose link carries nothing is lost (R35). -/
def sleepEntry : Act :=
  Act.get fun s =>
    Act.opt s.io.doze.ring.token fun t =>
      Act.opt (s.ringDies[t.pos]?) fun f =>
        Act.when (t.phase = .sleep ∧ s.io.stage ≠ .asleep)
          (if 4 ≤ f ∧ s.dlinkDown (f - 4) = true then Act.updRing fun g => { g with token := none }
           else Act.all [
            Act.when (f = 0) (Act.all [Act.ringLead t, Act.wakeCount 0, Act.updIo fun m => { m with stage := .entering }]),
            (if f < 4 then Act.prismSleeps f else Act.driveSleeps (f - 4)),
            (if t.pos + 1 < s.ringDies.length then Act.updRing fun g => { g with token := some { t with pos := t.pos + 1 } }
             else
              Act.seq (Act.ringLeave { t with pos := t.pos + 1 }) (Act.updIo fun m => { m with stage := .passed }))])

/-! ## Wake sources (R590 to R596) -/

/-- Does source src of drive die d act: enabled and not disarmed (R590, R596)? -/
def State.srcArmed (s : State) (d src : Nat) : Bool :=
  (src == 15 || bit (s.reg (WKP.SRC_EN d)) src) && !((s.drv d).disarmed.any fun e => e.1 == src)

/-- A source asserts past its filter: it is latched, and wakes a sleeping package (R593, R607). -/
def Act.wakeLatch (d src : Nat) : Act :=
  Act.get fun s =>
    let latch := fun (e : Nat) => Act.when (s.flag (WKP.CAUSE e) WKP.CAUSE.VALID = false)
      (Act.setReg (WKP.CAUSE e) (word [(WKP.CAUSE.SRC, src), (WKP.CAUSE.DIE, if e = 0 then d else 0), (WKP.CAUSE.VALID, 1)]))
    let await := s.flag (WKP.CAUSE 0) WKP.CAUSE.VALID == false || decide (src < 12)
    Act.all [
      Act.modDrv d (fun v => { v with
        seen := putBit v.seen src true
        awaited := if src ≠ 14 ∧ src ≠ 15 ∧ (decide (s.io.stage ≠ .awake) && await || decide (src < 12))
          then (v.awaited.filter fun e => e.1 != src) ++ [(src, s.edges)] else v.awaited }),
      latch d,
      Act.when (d ≠ 0) (latch 0),
      Act.when (s.io.stage ≠ .awake ∨ src < 12) (Act.event (WKP.EVT d) 0),
      Act.when (s.io.stage ≠ .awake) (Act.updIo fun m => { m with wakeUp := true })]

/-- WAKE_SOURCE: the comparator of a wake pin or sense input of drive die d asserts, or no longer does (R590, R593). -/
def wakeSource (d src : Nat) (on : Bool) : Act :=
  Act.get fun s =>
    Act.when (d < s.y ∧ (src = 12 ∨ src = 13 ∨ (16 ≤ src ∧ src < 40)))
      (Act.seq (Act.modDrv d fun v => { v with asserted := putBit v.asserted src on })
        (Act.when (on = true ∧ s.srcArmed d src = true) (Act.wakeLatch d src)))

/-- WAKE_TIMER: the wake timer of drive die 0 expires after TIMER.SECONDS of sleep (R590). -/
def wakeTimer : Act :=
  Act.get fun s =>
    let n := s.fld (WKP.TIMER 0) WKP.TIMER.SECONDS
    Act.when (s.io.stage = .asleep ∧ n ≠ 0 ∧ s.io.offAt + n * 32768 ≤ s.edges ∧ s.srcArmed 0 14 = true) (Act.wakeLatch 0 14)

/-- A definition of a wake-up frame: its ID word, MASK and data mask (R591, R606). -/
def State.wuf (s : State) (d mode : Nat) : Word × Nat × List Byte :=
  if mode = 2 then
    (s.reg (WKP.WUF_A_ID d), (s.reg (WKP.WUF_A_MASK d)).toNat,
      beBytes 6 (s.reg (WKP.WUF_A_DATA_L d)).toNat ++ beBytes 2 (s.reg (WKP.WUF_A_DATA_H d)).toNat)
  else
    (s.reg (WKP.WUF_B_ID d), (s.reg (WKP.WUF_B_MASK d)).toNat,
      beBytes 6 (s.reg (WKP.WUF_B_DATA_L d)).toNat ++ beBytes 2 (s.reg (WKP.WUF_B_DATA_H d)).toNat)

/-- Does a CC frame at a rate match a wake-up frame definition (R591)? -/
def wufMatches (w : Word × Nat × List Byte) (rate : Nat) (b : List Byte) : Bool :=
  rate == fget w.1 WKP.WUF_A_ID.RATE && Nat.land (bfId b) w.2.1 == Nat.land (fget w.1 WKP.WUF_A_ID.ID) w.2.1 &&
    b2n (bfFlag b 7) == fget w.1 WKP.WUF_A_ID.XTD && bfDlc b == fget w.1 WKP.WUF_A_ID.DLC &&
    (fget w.1 WKP.WUF_A_ID.DATA_EN == 0 || (List.zip (bfData b) w.2.2).any fun e => decide (e.1 &&& e.2 ≠ 0))

/-- A transceiver's wake detection ends in a wake (R591 to R594). -/
def Act.xcvrWakes (d u : Nat) : Act :=
  Act.get fun s =>
    let gf := s.srcFacet d u
    Act.all [
      Act.modXcvr (xKey d u) (fun x => { x with woken := true, wokeAt := s.edges, errs := 0 }),
      Act.wakeLatch d u,
      Act.when (s.io.stage = .awake ∧ s.dlinkDown d = false) (Act.opt (s.pnOf gf) fun k => Act.pnDue k (.xcvr d u))]

/-- XCVR_WAKE_DETECT: a transceiver of drive die d in standby sees what its mode looks for (R591, R592): kind 0, the pattern of
mode 1 or the dominant run of LIN; kind 1, a frame at a rate; kind 2, a decoding error. -/
def xcvrWakeDetect (d u kind rate : Nat) (b : List Byte) : Act :=
  Act.get fun s =>
    let x := s.xcvr (xKey d u)
    let mode := if u < 8 then s.fld (WKP.XCVR_WAKE d) ⟨2 * u, 2⟩ else 1
    let w := s.wuf d mode
    let err :=
      if s.fld (WKP.XCVR_WAKE d) WKP.XCVR_WAKE.ERR_LIMIT < x.errs + 1 then Act.xcvrWakes d u
      else Act.modXcvr (xKey d u) fun x => { x with errs := x.errs + 1 }
    Act.when (d < s.y ∧ u < 12 ∧ s.xcvrHeld d u = false ∧ x.mode = .standby ∧ x.woken = false ∧ s.srcArmed d u = true)
      (if mode = 1 then Act.when (kind = 0) (Act.xcvrWakes d u)
       else if mode = 0 ∨ kind = 0 then Act.skip
       else if kind = 1 then
        if bfFormat b = 0 then
          if wufMatches w rate b then Act.xcvrWakes d u else Act.modXcvr (xKey d u) fun x => { x with errs := x.errs - 1 }
        else if bfFormat b = 1 ∧ fget w.1 WKP.WUF_A_ID.FD_PASSIVE = 1 then Act.skip
        else err
       else err)

/-- WAKE_FAILSAFE: no confirmation has come within 150 ms of a transceiver's detection: back to standby, and the wake is
invalid (R594, R595). -/
def wakeFailsafe (d u : Nat) : Act :=
  Act.get fun s =>
    let x := s.xcvr (xKey d u)
    Act.when (d < s.y ∧ u < 12 ∧ x.woken = true ∧ s.pastMs x.wokeAt 150 = true)
      (Act.all [
        Act.modXcvr (xKey d u) (fun x => { x with mode := .standby, woken := false }),
        Act.event (WKP.EVT d) 1,
        Act.drvInvalid d u,
        Act.dropAwait d u,
        Act.each (s.io.doze.judges.filter fun j => j.die == d && j.src == u) fun j => Act.judged j false])

/-- CONFIRM: a write of 1 to WAKE.CMD.CONFIRM makes the pending wakes valid (R595, R602). -/
def wakeConfirm : Act := Act.get fun s => Act.each s.io.doze.judges fun j => Act.judged j true

/-- WAKE_VALIDITY_TIMEOUT: CONFIRM_MS has passed without what makes a wake valid (R595). -/
def wakeValidityTimeout : Act :=
  Act.get fun s =>
    Act.each (s.io.doze.judges.filter fun j => s.pastMs j.since (s.fld (WAKE.CFG_B 0) WAKE.CFG_B.CONFIRM_MS)) fun j => Act.judged j false

/-- WAKE_REPORT_TIMEOUT: drive die d has had no report for a wake within 10 s (R595). -/
def wakeReportTimeout (d : Nat) : Act :=
  Act.get fun s =>
    Act.each ((s.drv d).awaited.filter fun e => s.pastMs e.2 10000) fun e => Act.seq (Act.dropAwait d e.1) (Act.drvInvalid d e.1)

/-- SOURCE_REARM: 1,800 s after it was disarmed a source of drive die d rearms (R596). -/
def sourceRearm (d src : Nat) : Act :=
  Act.get fun s =>
    Act.when (((s.drv d).disarmed.any fun e => e.1 == src && decide (1800 ≤ s.edges / 32768 - e.2 / 32768)) = true)
      (Act.seq (Act.modDrv d fun v => { v with disarmed := v.disarmed.filter fun e => e.1 != src }) (Act.event (WKP.EVT d) 3))

/-- REARM: a write of 1 to WKP.CMD.REARM (R596). -/
def wkpRearm (d : Nat) : Act := Act.modDrv d fun v => { v with disarmed := [], invalid := [] }

/-- WKP.DISARMED of drive die d (R607). -/
def State.wkpDisarmed (s : State) (d : Nat) : Word :=
  BitVec.ofNat 48 ((s.drv d).disarmed.foldl (fun m e => putBit m e.1 true) 0)

/-- WKP.FALSE_k of drive die d (R607). -/
def State.wkpFalse (s : State) (d k : Nat) : Word :=
  word ((List.range 12).map fun j =>
    (⟨4 * j, 4⟩, sat 7 ((s.drv d).invalid.filter fun e =>
      e.1 == 12 * k + j).length))

/-! ## WAKE on, off and at service entry (R582, R593, R600) -/

/-- Every network in use is awake with its hold begun (R582). -/
def Act.pnAllAwake : Act :=
  Act.get fun s => Act.each (pnList.filter s.pnOn) fun k =>
    Act.setPnet k { awake := true, silence := s.edges, hold := some s.edges }

/-- WAKE is enabled on the lead die: the stage claims of the regulators enter the window (R593, R600); in service its networks
begin awake. -/
def Act.wakeEnable : Act :=
  Act.get fun s =>
    Act.seq
      (Act.each s.seq.claims fun e =>
        let age := edgeNs (s.edges - e.2)
        Act.when (age < s.admWindow) (Act.admEnter ((s.time 0 + 2 ^ 48 - age % 2 ^ 48) % 2 ^ 48) (2 * e.1)))
      (Act.when (s.start.step = 15) Act.pnAllAwake)

/-- WAKE enters its disabled safe state: members released and woken, what waits for admission granted (R582, R600). -/
def Act.wakeDisable : Act :=
  Act.get fun s =>
    let mem := ((pnList.filter fun k => !s.pnAwake k).flatMap s.pnMembers) ++ s.io.doze.ethOff
    Act.all [
      Act.updDoze (fun z => { z with patterns := [] }),
      Act.each mem fun gf => Act.pnFacetWakes gf false,
      Act.each pnList fun k => Act.setPnet k {},
      Act.admSettle]

/-- Service is entered (R582, R586, R593, R595): networks awake, the ring starts afresh, a wake of the package is reported and
judged. -/
def Act.wakeService : Act :=
  Act.get fun s =>
    Act.all [
      Act.updDoze (fun z => { z with service := s.edges, ring := {} }),
      Act.pnAllAwake,
      Act.when (s.flag (WAKE.CAUSE 0) WAKE.CAUSE.PKG_WAKE = true)
        (Act.all [
          Act.wakeEvent 0,
          Act.wakeCount 1,
          Act.judgeOpen none (s.fld (WAKE.CAUSE 0) WAKE.CAUSE.DIE) (s.fld (WAKE.CAUSE 0) WAKE.CAUSE.SRC)])]

end Sys2Proof.Machine
end

