-- ==== Sys2Proof/Machine/Pinhole.lean ====
section
/-! DEFINITION. Pinhole mode and the heartbeat of the drive dies (R81, R640 to R644, R652). -/

namespace Sys2Proof.Machine

/-- An event of PIN.EVT (R652). -/
def Act.pinEvent (d i : Nat) : Act := Act.event (PIN.EVT d) i

/-- Drive die d enters Pinhole mode (R642): every channel outside the map opens, mapped ones follow their inputs, transceivers
go to standby, drive die 0 releases PAIR_OWN. During sleep its channel-control island starts first, guarded for 500 ms. -/
def Act.pinEnter (d : Nat) : Act :=
  Act.get fun s =>
    Act.when (d < s.y ∧ (s.drv d).pin = false)
      (Act.all [
        Act.when ((s.supply d).chanOn = false)
          (Act.seq (Act.setSup d fun u => { u with chanOn := true }) (Act.modDrv d fun v => { v with coldFrom := some s.edges })),
        Act.modDrv d (fun v => { v with pin := true, entries := sat 65535 (v.entries + 1), mapGrant := none }),
        Act.pinEvent d 0,
        Act.each (List.range 28) fun c =>
          Act.get fun t =>
            if (t.mapOf d c).isNone then Act.seq (Act.modChan (xc d c) fun u => { u with takeover := none }) (Act.chSettle d c false)
            else
              Act.all [
                Act.modChan (xc d c) (fun u => { u with src := 18, takeover := none }),
                Act.when ((t.chan (xc d c)).st = .waitAdmit) (Act.chOff d c .openSt),
                Act.chFollow d c false,
                Act.chSettle d c false],
        Act.each (List.range 12) fun u => xcvrModeChange d u,
        Act.when (d = 0) Act.dropOwner])

/-- LIMP_N_ASSERT: LIMP_N of drive die d has been low for 1 ms (R590, R641): wake source 15, and Pinhole mode. -/
def limpAssert (d : Nat) : Act :=
  Act.get fun s =>
    Act.when (d < s.y ∧ (s.supply d).alive = true ∧ (s.drv d).limpLow = false)
      (Act.all [
        Act.modDrv d (fun v => { v with limpLow := true, asserted := putBit v.asserted 15 true }),
        Act.wakeLatch d 15,
        Act.pinEnter d])

/-- LIMP_N_RELEASE: LIMP_N returns high, and the 1 ms of R644 begins. -/
def limpRelease (d : Nat) : Act :=
  Act.get fun s =>
    Act.when ((s.drv d).limpLow = true)
      (Act.modDrv d fun v => { v with limpLow := false, limpRise := s.edges, asserted := putBit v.asserted 15 false })

/-- The fused heartbeat timeout of drive die d, in ms (R641, R778). -/
def State.hbTimeout (s : State) (d : Nat) : Nat := 10 * s.fuseFld (FUSE.CFG d) FUSE.CFG.HB_TIMEOUT

/-- HEARTBEAT_LOST: the heartbeat timer of drive die d has run for the fused timeout (R81, R426, R641). -/
def heartbeatLost (d : Nat) : Act :=
  Act.get fun s =>
    Act.when (d < s.y ∧ ((s.drv d).hbTimer.any fun t => s.pastMs t (s.hbTimeout d)) = true)
      (Act.seq (Act.setSup d fun u => { u with hbLost := true }) (Act.pinEnter d))

/-- PRISM_HEARTBEAT: a heartbeat of its Prism die reaches drive die d (R641, R644). A gap longer than 10 ms begins the run of
HB_OK_MS anew. -/
def prismHeartbeat (d : Nat) : Act :=
  Act.get fun s =>
    let v := s.drv d
    Act.when (d < s.y ∧ s.start.heartbeat = true ∧ v.hbTimer.isSome ∧ s.dlinkDown d = false)
      (Act.seq (Act.setSup d fun u => { u with hbLost := false })
        (Act.modDrv d fun v =>
          { v with
            hbTimer := some s.edges
            hbRun := match v.hbRun with
              | some (a, b) => if decide (10 * 32768 < (s.edges - b) * 1000) then some (s.edges, s.edges) else some (a, s.edges)
              | none => some (s.edges, s.edges) }))

/-- HB_OK_MS: ms of unbroken heartbeats (R652). -/
def State.hbOk (s : State) (d : Nat) : Nat :=
  match (s.drv d).hbRun with
  | some (a, b) => if decide (10 * 32768 < (s.edges - b) * 1000) then 0 else (b - a) * 1000 / 32768
  | none => 0

/-- The causes of Pinhole mode present at drive die d: LIMP_N, heartbeat, regulator latch (R641, R652). -/
def State.pinCause (s : State) (d : Nat) : Nat :=
  b2n (s.drv d).limpLow + 2 * b2n (s.supply d).hbLost + 4 * b2n (s.seq.stage == .latched)

/-- PIN.STAT of drive die d (R652). -/
def State.pinStat (s : State) (d : Nat) : Word :=
  let v := s.drv d
  word [(PIN.STAT.ACTIVE, b2n v.pin), (PIN.STAT.CAUSE, s.pinCause d), (PIN.STAT.LIMP_LOW, b2n v.limpLow),
    (PIN.STAT.HB_OK_MS, sat 2047 (s.hbOk d)),
    (PIN.STAT.HOLD, b2n ((List.range 28).any fun c => (s.chan (xc d c)).takeover.isSome)), (PIN.STAT.ENTRIES, v.entries)]

/-- PINHOLE_TURN_ON: drive die d grants the first waiting map channel its turn-on, at most one in 10 ms, none during its own
sag (R643). -/
def pinholeTurnOn (d : Nat) : Act :=
  Act.get fun s =>
    let v := s.drv d
    let chans := (List.range 8).filterMap fun j =>
      let c := s.fuseFld (FUSE.PMAP d j) FUSE.PMAP.CHANNEL
      if s.mapOf d c = some j ∧ (s.chan (xc d c)).st = .waitAdmit then some c else none
    Act.when (d < s.y ∧ v.pin = true ∧ (s.supply d).sag = false ∧ (v.mapGrant.all fun t => s.pastMs t 10) = true)
      (Act.opt chans.head? fun c =>
        Act.seq (Act.modDrv d fun v => { v with mapGrant := some s.edges }) (Act.chBegin d c))

/-- May drive die d leave Pinhole mode (R644)? -/
def State.pinExitOk (s : State) (d : Nat) : Bool :=
  let v := s.drv d
  v.pin && !v.limpLow && s.pastMs v.limpRise 1 && s.seq.stage != .latched && decide (1000 ≤ s.hbOk d)

/-- Drive die d leaves Pinhole mode: map channels that drive are held over, the others stay open until commanded (R644). -/
def Act.pinExit (d : Nat) : Act :=
  Act.get fun s =>
    Act.all [
      Act.each (List.range 28) fun c =>
        Act.get fun t =>
          let u := t.chan (xc d c)
          Act.seq (Act.setReg (CHN.CMD d c) 0)
            (if (t.mapOf d c).isSome ∧ u.drives = true then Act.modChan (xc d c) fun u => { u with takeover := some s.edges }
             else Act.when (u.st ≠ .openSt ∧ u.st ≠ .latched ∧ u.st ≠ .selftest) (Act.chOff d c .openSt)),
      Act.modDrv d (fun v => { v with pin := false }),
      Act.chSettleAll d false,
      Act.pinEvent d 1,
      Act.each (List.range 12) fun u => xcvrModeChange d u]

/-- ACK takes effect at the second slow-clock edge after its acceptance: exit, or it is ignored and reported (R644). On a die
that is not in Pinhole mode there is nothing to leave, and it is ignored so too. -/
def Act.pinAck (d : Nat) (ag : Agent) : Act :=
  Act.get fun s =>
    if s.pinExitOk d then Act.pinExit d
    else Act.seq (Act.blkErr (PIN.CMD d) 0 ag) (Act.pinEvent d 2)

/-- TAKEOVER_HOLD_END: 1 s has passed without a command for map channel c of drive die d; it opens (R644). -/
def takeoverHoldEnd (d c : Nat) : Act :=
  Act.get fun s =>
    Act.when (((s.chan (xc d c)).takeover.any fun t => s.pastMs t 1000) = true)
      (Act.seq (Act.chOff d c .openSt) (Act.modChan (xc d c) fun u => { u with retry := 0 }))

end Sys2Proof.Machine
end

