-- ==== Sys2Proof/Machine/Partition.lean ====
section
/-! DEFINITION. Partitions, their time schedule, watchdogs and interrupts (R655, R656, R662 to R668, R683 to R688). -/

namespace Sys2Proof.Machine

/-- The key of partition k of Prism die p. -/
def ptk (p k : Nat) : Nat := 16 * p + k

/-- A field of PDEF of partition k of die p (R690). -/
def State.pdef (s : State) (p k : Nat) (f : Fld) : Nat := s.fld (CPU.PDEF p k) f

/-- Is partition k of die p in a state? -/
def State.partIn (s : State) (p k : Nat) (st : PartSt) : Bool := (s.part (ptk p k)).st == st

/-- Does partition k of die p run: RUNNING, with the block enabled (R664, and the disabled safe state of CPU)? -/
def State.partRuns (s : State) (p k : Nat) : Bool := s.partIn p k .running && s.enabled p 0x78

/-- Count CPU counter i of partition k of die p (R691). -/
def Act.cpuCount (p k i : Nat) : Act := Act.count (CPU.CNT p (16 * k + i))

/-- The cores on which partition k of die p has a valid slot, in ascending order: one hart on each (R662). -/
def State.partCores (s : State) (p k : Nat) : List Nat :=
  (List.range 7).filter fun c => (List.range 8).any fun i =>
    let v := s.reg (CPU.SCHED p (8 * c + i))
    fget v CPU.SCHED.VALID == 1 && fget v CPU.SCHED.PART == k

/-- Does a valid slot break the rule of core 0 (R662)? -/
def State.schedBad (s : State) (p : Nat) : Bool :=
  (List.range 7).any fun c => (List.range 8).any fun i =>
    let v := s.reg (CPU.SCHED p (8 * c + i))
    fget v CPU.SCHED.VALID == 1 && (decide (c = 0) != (s.pdef p (fget v CPU.SCHED.PART) CPU.PDEF.SAFE == 1))

/-- The valid slots of core c of die p, in order (R662). -/
def State.validSlots (s : State) (p c : Nat) : List Nat :=
  (List.range 8).filter fun i => s.fld (CPU.SCHED p (8 * c + i)) CPU.SCHED.VALID == 1

/-- Core c of die p enters slot i. -/
def Act.slotEnter (p c i : Nat) : Act :=
  Act.get fun s => Act.seq (Act.setSlotOf (8 * p + c) i) (Act.setSlotEdge (8 * p + c) s.edges)

/-- Has the slot that core c of die p is in lasted its LEN × 10 µs (R662)? A slot ends between two edges: the edge before its end is
the last that the model has seen (log entry 138). -/
def State.slotOver (s : State) (p c : Nat) : Bool :=
  let k := 8 * p + c
  decide (s.fld (CPU.SCHED p (8 * c + s.slotOf k)) CPU.SCHED.LEN * 10 * 32768 ≤ (s.edges + 1 - s.slotEdge k) * 1000000)

/-- SLOT_SWITCH: core c of die p reaches a slot boundary and goes to its next valid slot; the frame repeats (R662, R663). -/
def slotSwitch (p c : Nat) : Act :=
  Act.get fun s =>
    let l := s.validSlots p c
    Act.when (p < s.x ∧ c < 7 ∧ s.enabled p 0x78 = true ∧ s.slotOver p c = true)
      (Act.opt (((l.find? fun i => decide (s.slotOf (8 * p + c) < i)).orElse fun _ => l.head?)) (Act.slotEnter p c))

/-- At the end of step 9 every core of die p begins its major frame (R662). -/
def Act.framesBegin (p : Nat) : Act :=
  Act.get fun s => Act.each (List.range 7) fun c => Act.opt (s.validSlots p c).head? (Act.slotEnter p c)

/-- The partition whose slot core c of die p is in, and whether it runs there: core 0 stays halted after a mismatch (R656,
R662). -/
def State.onCore (s : State) (p c : Nat) : Option Nat :=
  let v := s.reg (CPU.SCHED p (8 * c + s.slotOf (8 * p + c)))
  if fget v CPU.SCHED.VALID = 1 ∧ s.partRuns p (fget v CPU.SCHED.PART) = true ∧ ((s.safePair p).halted = false ∨ c ≠ 0) then
    some (fget v CPU.SCHED.PART)
  else none

/-! ## Halt and restart (R665, R666) -/

/-- A load command to a channel of drive die d is discarded because its drive link is lost: DLINK_DROPS of its rank (R781). -/
def Act.dlinkDrop (d : Nat) : Act := Act.get fun s => Act.count (DEV.DLINK_DROPS (s.attachedTo d) (s.rankOf d))

/-- A command of partition k of die p to package channel n, past its aperture: onto the drive link (R53, R54). -/
def Act.loadCmd (p k n : Nat) (v : Word) : Act :=
  Act.get fun s =>
    let d := n / 32
    Act.when (d < s.y ∧ n % 32 < 28)
      (if s.dlinkLost d then Act.dlinkDrop d else if s.dlinkDown d then Act.skip else chnCmd (.fw p k 0 0) d (n % 32) v fun _ => Act.skip)

/-- The firmware state of a package channel on die p changes, or keeps its state (R678, R692). -/
def Act.chFirmware (p n : Nat) (l : List (Fld × Nat)) : Act :=
  Act.get fun s =>
    let was := s.fld (APR.CH p n) APR.CH.ON
    Act.seq (Act.setFlds (APR.CH p n) l)
      (Act.get fun t => Act.when (t.fld (APR.CH p n) APR.CH.ON ≠ was) (Act.setAprAt (128 * p + n) s.edges))

/-- The package channels that are ON on die p under partition k: the entry that made a channel ON binds it (R665, R678). -/
def State.onUnder (s : State) (p k : Nat) : List Nat :=
  (List.range 128).filter fun n =>
    let v := s.reg (APR.CH p n)
    fget v APR.CH.ON == 1 && fget (s.tbl p 0x79 (fget v APR.CH.ENTRY) 0) ⟨3, 4⟩ == k

/-- The halt actions of R665 but the HALT event: the partition's pending window reads are freed, its requests cleared, and
with SAFE_OPEN its channels opened. -/
def Act.partStop (p k : Nat) : Act :=
  Act.get fun s =>
    Act.all [
      Act.modWpend p (fun l => l.filter fun w => w.part != k),
      Act.setReg (WAKE.REQ p k) 0,
      Act.when (s.pdef p k CPU.PDEF.SAFE_OPEN = 1)
        (Act.each (s.onUnder p k) fun n =>
          Act.seq (Act.chFirmware p n [(APR.CH.ON, 0), (APR.CH.PART, k), (APR.CH.FORCED, 0)]) (Act.loadCmd p k n 0))]

/-- Partition k of die p is halted with a cause (R665). -/
def Act.partHalt (p k cause : Nat) : Act :=
  Act.all [
    Act.modPart (ptk p k) (fun u => { u with st := .halted }),
    Act.partStop p k,
    Act.event (CPU.EVT p) 3,
    Act.setFld (CPU.PSTAT p k) CPU.PSTAT.CAUSE cause,
    Act.cpuCount p k 7]

/-- PARTITION_HALT: a halt trigger of R665, named by its cause, halts a running partition. -/
def partitionHalt (p k cause : Nat) : Act :=
  Act.get fun s => Act.when (k < 16 ∧ 1 ≤ cause ∧ cause ≤ 5 ∧ s.partIn p k .running = true) (Act.partHalt p k cause)

/-- The restarts of partition k of die p in the last 60 s (R664). -/
def State.recentRestarts (s : State) (p k : Nat) : List Nat :=
  (s.part (ptk p k)).restarts.filter fun t => !s.pastMs t 60000

/-- A restart begins: the halt actions without the HALT event; contexts and interrupts are cleared, and the partition's
sections are to be streamed again (R666). -/
def Act.partRestart (p k cause : Nat) (forget : Bool) : Act :=
  Act.get fun s =>
    Act.all [
      Act.partStop p k,
      Act.modPart (ptk p k) (fun _ =>
        { st := .restarting, restarts := if forget then [] else s.recentRestarts p k ++ [s.edges] }),
      Act.setRing (ptk p k) {},
      Act.modBuf (fk p 60) (fun l => l.filter fun r => !(!r.looked && r.ring.any fun e => e.1 == k)),
      Act.setFld (CPU.PSTAT p k) CPU.PSTAT.CAUSE cause,
      Act.setReg (CPU.KICK p k) (regReset (CPU.KICK p k)),
      Act.cpuCount p k 6]

/-- The safety-pair watchdog starts with the first SAFE partition that runs (R669). -/
def Act.safeStart (p k : Nat) : Act :=
  Act.get fun s =>
    Act.when (s.pdef p k CPU.PDEF.SAFE = 1 ∧ (s.safePair p).wdt = none)
      (Act.modSafePair p fun u => { u with wdt := some s.edges, first := true })

/-- The harts of partition k of die p as they start: one on each of its cores, in HS-mode at PENTRY, a0 the partition, a1 the hart's
index, a2 the number of harts (R655, R662, R664). -/
def State.startHarts (s : State) (p k : Nat) : List Hart :=
  let l := s.partCores p k
  l.zipIdx.map fun e =>
    { core := e.1, entry := s.fld (CPU.PENTRY p k) CPU.PENTRY.ENTRY, a0 := k, a1 := e.2, a2 := l.length }

/-- The time CSR of every hart of die p (R655): its low 48 bits are the die time; the spec gives the others no value. -/
def State.timeCsr (s : State) (p : Nat) : BitVec 64 := Config.timeHigh p ++ BitVec.ofNat 48 (s.time p)

/-- Is the supervisor timer of a hart of die p due: die time has reached its stimecmp (R655, R654)? -/
def State.timerDue (s : State) (p : Nat) (h : Hart) : Bool := h.stimecmp.ule (s.timeCsr p)

/-- The hart that core c of die p runs for partition k takes an access fault in HS-mode: 5 of a load, 7 of a store, with the address
(R655, R658; the causes: log entry 135). -/
def Act.hartTrap (p k c cause loc : Nat) : Act :=
  Act.modPart (ptk p k) fun u =>
    { u with
      harts := u.harts.map fun h => if h.core = c then { h with mode := .hs, traps := h.traps ++ [(cause, loc)] } else h }

/-- Partition k of die p enters RUNNING: every hart at PENTRY, the watchdog started, NEXT at its first value (R655, R664, R668). -/
def Act.partRun (p k : Nat) : Act :=
  Act.get fun s =>
    Act.all [
      Act.modPart (ptk p k) (fun u => { u with st := .running, kick := s.edges, first := true, harts := s.startHarts p k }),
      Act.setReg (CPU.KICK p k) (regReset (CPU.KICK p k)),
      Act.safeStart p k]

/-- A section of a partition fails (R117, R664). -/
def Act.partFail (p k : Nat) : Act :=
  Act.seq (Act.modPart (ptk p k) fun u => { u with st := .failed }) (Act.setFld (CPU.PSTAT p k) CPU.PSTAT.CAUSE 6)

/-- A halt or restart command (R667, R685). -/
def pcmdWrite (ag : Agent) (p : Nat) (v : Word) (cont : Code → Act) : Act :=
  let a := CPU.PCMD p
  Act.get fun s =>
    let op := fget v CPU.PCMD.OP
    let k := fget v CPU.PCMD.TARGET
    let st := (s.part (ptk p k)).st
    let may := match ag with
      | .fw die part _ _ => s.pdef die part CPU.PDEF.CONTROL == 1
      | _ => true
    let host := match ag with
      | .fw _ _ _ _ => false
      | _ => true
    let result := fun (n : Nat) => Act.setReg a (word [(CPU.PCMD.OP, op), (CPU.PCMD.TARGET, k), (CPU.PCMD.RESULT, n)])
    if may = false then cont .denied
    else if op = 3 then Act.badValue a ag cont
    else if op = 0 then Act.seq (result (s.fld a CPU.PCMD.RESULT)) (cont .ok)
    else if op = 1 then
      (if st = .running then Act.all [result 2, Act.partHalt p k 3, cont .ok] else Act.seq (result 3) (cont .ok))
    else if st = .halted ∨ st = .running ∨ st = .failed then Act.all [result 2, Act.partRestart p k 3 host, cont .ok]
    else Act.seq (result 3) (cont .ok)

/-! ## Watchdogs (R668) -/

/-- One step of the 16-bit Fibonacci LFSR with taps 16, 14, 13 and 11 (R668, log entry 35). -/
def lfsrNext (n : Nat) : Nat :=
  n / 2 + (n % 2 + n / 4 % 2 + n / 8 % 2 + n / 32 % 2) % 2 * 2 ^ 15

/-- Does the watchdog of partition k of die p run? -/
def State.wdtOn (s : State) (p k : Nat) : Bool :=
  s.partRuns p k && s.fld (WDT.P p k) WDT.P.TIMEOUT_MS != 0

/-- An expiry of partition k's watchdog and its action (R664, R668). -/
def Act.wdtExpire (p k : Nat) : Act :=
  Act.get fun s =>
    Act.all [
      Act.event (CPU.EVT p) 2,
      Act.cpuCount p k 5,
      (if s.fld (WDT.P p k) WDT.P.ACTION = 1 then Act.partHalt p k 1
       else if (s.recentRestarts p k).length < s.pdef p k CPU.PDEF.RESTART_MAX then Act.partRestart p k 1 false
       else Act.partHalt p k 4)]

/-- A write of CPU.KICK_k of die p: the kick of its own partition, else DENIED (R668). -/
def kickWrite (ag : Agent) (p k : Nat) (v : Word) (cont : Code → Act) : Act :=
  let a := CPU.KICK p k
  let mine := match ag with
    | .fw die part _ _ => die == p && part == k
    | _ => false
  Act.get fun s =>
    let u := s.part (ptk p k)
    let next := s.fld a CPU.KICK.NEXT
    if mine = false then cont .denied
    else
      Act.seq
        (Act.when (s.wdtOn p k = true)
          (if fget v CPU.KICK.KEY ≠ next ∨ (u.first = false ∧ s.pastMs u.kick (s.fld (WDT.P p k) WDT.P.WIN_MS) = false) then
             Act.wdtExpire p k
           else
             Act.seq (Act.modPart (ptk p k) fun u => { u with kick := s.edges, first := false }) (Act.setFld a CPU.KICK.NEXT (lfsrNext next))))
        (cont .ok)

/-- The deadline of a running watchdog in ms since its last kick or start (R668). -/
def State.wdtMs (s : State) (p k : Nat) : Nat :=
  s.fld (WDT.P p k) (if (s.part (ptk p k)).first then WDT.P.FIRST_MS else WDT.P.TIMEOUT_MS)

/-- WATCHDOG_EXPIRY: the deadline of partition k's watchdog has passed without a kick (R668). -/
def watchdogExpiry (p k : Nat) : Act :=
  Act.get fun s =>
    Act.when (k < 16 ∧ s.wdtOn p k = true ∧ s.pastMs (s.part (ptk p k)).kick (s.wdtMs p k) = true) (Act.wdtExpire p k)

/-- LOCKSTEP_MISMATCH: the safety pair of die p halts, and with it every SAFE partition (R656). -/
def lockstepMismatch (p : Nat) : Act :=
  Act.get fun s =>
    Act.when (p < s.x ∧ (s.safePair p).halted = false)
      (Act.all [
        Act.modSafePair p (fun u => { u with halted := true }),
        Act.event (CPU.EVT p) 4,
        Act.each ((List.range 16).filter fun k =>
            s.pdef p k CPU.PDEF.SAFE == 1 && s.pdef p k CPU.PDEF.EN == 1 && !s.partIn p k .off && !s.partIn p k .halted &&
              !s.partIn p k .failed)
          fun k => Act.partHalt p k 5])

/-- CPU.PSTAT_k of die p (R687). -/
def State.pstat (s : State) (p k : Nat) : Word :=
  let u := s.part (ptk p k)
  let st := match u.st with
    | .off => 0
    | .loading => 1
    | .running => 2
    | .halted => 3
    | .failed => 4
    | .restarting => 5
  word [(CPU.PSTAT.STATE, st), (CPU.PSTAT.HARTS, (s.partCores p k).length),
    (CPU.PSTAT.RESTARTS, sat 15 (s.recentRestarts p k).length),
    (CPU.PSTAT.WDT_LEFT_MS, if s.wdtOn p k then sat 65535 (s.wdtMs p k - (s.edges - u.kick) * 1000 / 32768) else 0),
    (CPU.PSTAT.CAUSE, s.fld (CPU.PSTAT p k) CPU.PSTAT.CAUSE)]

/-- CPU.WHOAMI as a hart, or the host, reads it on die p (R687). -/
def whoami (p : Nat) (ag : Agent) : Word :=
  match ag with
  | .fw die part core hart =>
    if die = p then word [(CPU.WHOAMI.PART, part), (CPU.WHOAMI.CORE, core), (CPU.WHOAMI.HART, hart), (CPU.WHOAMI.VALID, 1)] else 0
  | _ => 0

/-! ## Interrupts (R683, R684) -/

/-- A record reaches the FIFO of partition k of die p (R684). -/
def Act.irqEnter (p k : Nat) (r : IrqRec) : Act :=
  Act.get fun s =>
    let u := s.part (ptk p k)
    if r.direct = false ∧ (u.fifo.any fun x => !x.direct && x.code == r.code) = true then Act.skip
    else if 64 ≤ u.fifo.length then
      Act.all [
        Act.cpuCount p k 11,
        Act.event (CPU.EVT p) 5,
        Act.modPart (ptk p k) fun u => { u with lost := true }]
    else
      Act.seq (Act.cpuCount p k 10) (Act.modPart (ptk p k) fun u => { u with fifo := u.fifo ++ [r] })

/-- Is the supervisor external interrupt pending on the harts of partition k of die p: is its FIFO not empty (R684)? -/
def State.extPending (s : State) (p k : Nat) : Bool := (s.part (ptk p k)).fifo != []

/-- INTERRUPT_DELIVERY: the oldest raised interrupt of die p enters the FIFOs it is routed or directed to (R683, R684). -/
def interruptDelivery (p : Nat) : Act :=
  Act.get fun s =>
    match Sparse.get (fun _ => []) s.irqs p with
    | [] => Act.skip
    | i :: rest =>
      Act.seq (Act.upd fun t => { t with irqs := Sparse.put (fun _ => []) p rest t.irqs })
        (match i with
         | .line l =>
           Act.each ((List.range 16).filter fun k => bit (s.reg (CPU.IROUTE p l)) k) fun k => Act.irqEnter p k { code := l }
         | .direct part kind arg => Act.irqEnter p part { direct := true, code := kind, arg := arg })

/-- IRQ_POP: a load of CPU.IRQ_POP_k of die p by its own partition removes the oldest record; anyone else's receives DENIED
(R673, R684, R688). The first record popped after a loss is marked. -/
def irqPop (ag : Agent) (p k : Nat) (cont : Code → Word → Act) : Act :=
  let mine := match ag with
    | .fw die part _ _ => die == p && part == k
    | _ => false
  Act.get fun s =>
    let u := s.part (ptk p k)
    if mine = false then cont .denied 0
    else
      match u.fifo with
      | [] => cont .ok 0
      | r :: rest =>
        Act.seq (Act.modPart (ptk p k) fun u => { u with fifo := rest, lost := false })
          (cont .ok (word [(CPU.IRQ_POP.VALID, 1), (CPU.IRQ_POP.DIRECT, b2n r.direct), (CPU.IRQ_POP.CODE, r.code),
            (CPU.IRQ_POP.ARG, r.arg), (CPU.IRQ_POP.OVERFLOW, b2n u.lost), (CPU.IRQ_POP.LEFT, rest.length)]))

end Sys2Proof.Machine
end

