-- ==== Sys2Proof/Machine/Aperture.lean ====
section
/-! DEFINITION. Apertures (R672 to R681, R686, R692): the entries, their buckets, what each kind allows, violations, and the
firmware states of the channels. The entries stand in the tables' words under the number of the APR block. -/

namespace Sys2Proof.Machine

/-- Word w of aperture entry e of die p (R674). -/
def State.apr (s : State) (p e w : Nat) : Word := s.tbl p 0x79 e w

/-- KIND of an entry (R674). -/
def State.aprKind (s : State) (p e : Nat) : Nat := fget (s.apr p e 0) ⟨0, 3⟩

/-- The entries of die p that are not empty, in ascending order. -/
def State.aprList (s : State) (p : Nat) : List Nat :=
  s.tbls.filterMap fun e => if e.1 / 8 / 2 ^ 20 = p * 256 + 0x79 ∧ e.1 % 8 = 0 then some (e.1 / 8 % 2 ^ 20) else none

/-- The entries of a partition of one kind that are tried: VALID = 1 (R672). -/
def State.aprOf (s : State) (p part kind : Nat) : List Nat :=
  (s.aprList p).filter fun e =>
    let w := s.apr p e 0
    fget w ⟨0, 3⟩ == kind && fget w ⟨3, 4⟩ == part && bit w 7

/-- The valid entries of die p: APR.STAT.ENTRIES. -/
def State.aprCount (s : State) (p : Nat) : Nat := ((s.aprList p).filter fun e => bit (s.apr p e 0) 7).length

/-- RATE in units a second: bytes for FRAME, actions otherwise (R674). -/
def State.aprRate (s : State) (p e : Nat) : Nat :=
  fget (s.apr p e 0) ⟨9, 18⟩ * (if s.aprKind p e = 1 then 8000 else 1)

/-- BURST in 10^-9 of a unit (R674). -/
def State.aprFull (s : State) (p e : Nat) : Int :=
  (fget (s.apr p e 0) ⟨27, 16⟩ * (if s.aprKind p e = 1 then 64 else 1) * 10 ^ 9 : Nat)

/-- The level of an entry's bucket now, in 10^-9 of a unit (R674). -/
def State.aprNow (s : State) (p e : Nat) : Int :=
  match s.aprLevel (4096 * p + e) with
  | none => s.aprFull p e
  | some (l, t) => min (s.aprFull p e) (l + ((s.time p + 2 ^ 48 - t) % 2 ^ 48 * s.aprRate p e : Nat))

/-- A violation (R680): counted, reported in CPU.EVT and ALAST, and told to the partition; a drop may halt it (R665). -/
def Act.aprViolate (p part kind entry reason target : Nat) (halt : Bool) : Act :=
  Act.get fun s =>
    Act.all [
      Act.cpuCount p part reason,
      Act.event (CPU.EVT p) (if reason = 3 then 1 else 0),
      Act.setReg (CPU.ALAST p) (word [(CPU.ALAST.PART, part), (CPU.ALAST.ENTRY, entry), (CPU.ALAST.KIND, kind),
        (CPU.ALAST.REASON, reason), (CPU.ALAST.TARGET, target % 2 ^ 24)]),
      Act.irq p (.direct part 6 entry),
      Act.when (reason ≠ 3 ∧ halt = true ∧ s.partIn p part .running = true) (Act.partHalt p part 2)]

/-- HALT of an entry (R674). -/
def State.aprHalt (s : State) (p e : Nat) : Bool := bit (s.apr p e 0) 8

/-- Match and rate of an action (R672, R674, R680): k is given the entry that acts, or none where the action is dropped. -/
def Act.aperture (p part kind target cost : Nat) (hit : Nat → Bool) (k : Option Nat → Act) : Act :=
  Act.get fun s =>
    match (s.aprOf p part kind).find? hit with
    | none => Act.seq (Act.aprViolate p part kind 0 0 target (s.pdef p part CPU.PDEF.NOMATCH_HALT == 1)) (k none)
    | some e =>
      if s.aprRate p e = 0 then k (some e)
      else if 0 < s.aprNow p e then
        Act.seq (Act.setAprLevel (4096 * p + e) (some (s.aprNow p e - (cost * 10 ^ 9 : Nat), s.time p))) (k (some e))
      else Act.seq (Act.aprViolate p part kind e 1 target (s.aprHalt p e)) (k none)

/-- A LIMIT drop (R680). -/
def Act.aprLimit (p part kind e target : Nat) : Act :=
  Act.get fun s => Act.aprViolate p part kind e 2 target (s.aprHalt p e)

/-- A clamp (R680). -/
def Act.aprClamp (p part kind e target : Nat) : Act := Act.aprViolate p part kind e 3 target false

/-! ## BLOCK and SIGNAL (R679) -/

/-- The BLOCK check of a store to a register, of this device or of device dev through a window (R672, R679): k is told whether
it passes. -/
def Act.aprBlock (p part a : Nat) (v : Word) (dev : Option Nat) (lockv : Bool) (k : Bool → Act) : Act :=
  Act.get fun s =>
    Act.aperture p part 4 a 1
      (fun e =>
        let w := s.apr p e 1
        fget w ⟨0, 3⟩ == aDie a && decide (fget w ⟨3, 8⟩ ≤ aBlk a) && decide (aBlk a ≤ fget w ⟨11, 8⟩) &&
          decide (fget w ⟨19, 13⟩ ≤ aReg a) && decide (aReg a ≤ fget w ⟨32, 13⟩) && bit w 45 == dev.isSome &&
          (match dev with
           | none => true
           | some d => fget (s.apr p e 3) ⟨0, 14⟩ == d))
      fun o =>
        match o with
        | none => k false
        | some e =>
          if v &&& ~~~ s.apr p e 2 ≠ 0 ∨ (lockv = true ∧ bit (s.apr p e 1) 46 = false) then
            Act.seq (Act.aprLimit p part 4 e a) (k false)
          else k true

/-- The SIGNAL check of a store of OP 2 to SGW.SIG_CMD at address a for signal idx with value v (R672, R679): k is given the
value to write, or none. -/
def Act.aprSignal (p part a idx : Nat) (v : Word) (k : Option Word → Act) : Act :=
  Act.get fun s =>
    Act.aperture p part 5 a 1
      (fun e => decide (fget (s.apr p e 1) ⟨0, 18⟩ ≤ idx) && decide (idx ≤ fget (s.apr p e 1) ⟨18, 18⟩))
      fun o =>
        match o with
        | none => k none
        | some e =>
          let x := v.toInt
          let y := max (s.apr p e 2).toInt (min (s.apr p e 3).toInt x)
          if y = x then k (some v) else Act.seq (Act.aprClamp p part 5 e a) (k (some (BitVec.ofInt 48 y)))

/-! ## LOAD (R677, R678) -/

/-- Does a value of CHN.CMD command on (R678)? -/
def cmdOn (v : Word) : Bool :=
  fget v CHN.CMD.OUT == 1 || (fget v CHN.CMD.OUT == 2 && fget v CHN.CMD.DUTY != 0)

/-- A command under an entry's duty range (R677). -/
def clampDuty (lo hi : Nat) (v : Word) : Word :=
  let pwm := fun (d : Nat) => fset (fset v CHN.CMD.OUT 2) CHN.CMD.DUTY d
  let d := fget v CHN.CMD.DUTY
  if fget v CHN.CMD.OUT = 1 then (if hi < 1000 then pwm hi else v)
  else if fget v CHN.CMD.OUT = 2 ∧ d ≠ 0 then (if hi < d then pwm hi else if d < lo then pwm lo else v)
  else v

/-- The firmware state of package channel n after a passing command (R678). -/
def Act.chnPassed (p part n e : Nat) (v : Word) : Act :=
  Act.get fun s =>
    let was := s.fld (APR.CH p n) APR.CH.ON
    if cmdOn v then
      Act.chFirmware p n ((APR.CH.PART, part) :: (if was = 0 then [(APR.CH.ON, 1), (APR.CH.ENTRY, e)] else []))
    else Act.chFirmware p n ((APR.CH.PART, part) :: (if was = 1 then [(APR.CH.ON, 0), (APR.CH.FORCED, 0)] else []))

/-- The LOAD check of a store of v to CHN.CMD of package channel n (R672, R677, R678): k is given the value as it passes, or
none. -/
def Act.aprLoad (p part n : Nat) (v : Word) (k : Option Word → Act) : Act :=
  Act.get fun s =>
    Act.aperture p part 3 n 1
      (fun e => decide (fget (s.apr p e 1) ⟨0, 7⟩ ≤ n) && decide (n ≤ fget (s.apr p e 1) ⟨7, 7⟩))
      fun o =>
        match o with
        | none => k none
        | some e =>
          let w1 := s.apr p e 1
          let off := s.fld (APR.CH p n) APR.CH.ON == 0
          let u := clampDuty (fget w1 ⟨14, 10⟩) (fget w1 ⟨24, 10⟩) v
          if fget v CHN.CMD.OUT = 3 ∨ 1000 < fget v CHN.CMD.DUTY then k (some v)
          else if cmdOn v ∧ off ∧ s.pastMs (s.aprAt (128 * p + n)) (fget (s.apr p e 2) ⟨24, 24⟩) = false then
            Act.seq (Act.aprLimit p part 3 e n) (k none)
          else
            Act.all [
              Act.when (u ≠ v) (Act.aprClamp p part 3 e n),
              Act.chnPassed p part n e u,
              k (some u)]

/-- MAX_ON_EXPIRE: package channel n has been ON on die p for MAX_ON_MS of the entry that made it so; the aperture opens it
(R678). -/
def maxOnExpire (p n : Nat) : Act :=
  Act.get fun s =>
    let c := APR.CH p n
    let e := s.fld c APR.CH.ENTRY
    let limit := fget (s.apr p e 2) ⟨0, 24⟩
    let part := fget (s.apr p e 0) ⟨3, 4⟩
    Act.when (p < s.x ∧ n < 128 ∧ s.fld c APR.CH.ON = 1 ∧ limit ≠ 0 ∧ s.pastMs (s.aprAt (128 * p + n)) limit = true)
      (Act.all [
        Act.chFirmware p n [(APR.CH.ON, 0), (APR.CH.PART, part), (APR.CH.FORCED, 1)],
        Act.loadCmd p part n 0,
        Act.aprLimit p part 3 e n])

/-- APR.CH_n of die p (R692); channels of absent drive dies read zero. -/
def State.aprCh (s : State) (p n : Nat) : Word :=
  if n / 32 < s.y then
    fset (s.reg (APR.CH p n)) APR.CH.ELAPSED_MS (sat 16777215 ((s.edges - s.aprAt (128 * p + n)) * 1000 / 32768))
  else 0

/-- APR_RD: a write of INDEX copies an entry into the W registers (R686). -/
def aprRead (p : Nat) (v : Word) (k : Code → Act) : Act :=
  Act.get fun s =>
    let i := fget v CPU.APR_RD.INDEX
    Act.all [
      Act.setReg (CPU.APR_RD p) (word [(CPU.APR_RD.INDEX, i)]),
      Act.each (List.range 4) fun w => Act.setReg (CPU.APR_W p w) (s.apr p i w),
      k .ok]

/-! ## FRAME and BUS (R675, R676) -/

/-- Does a FRAME entry allow the destination of a frame (R675)? named says that the descriptor named the queue. -/
def State.frameTo (s : State) (p e : Nat) (named : Bool) (fr : Frame) : Bool :=
  let w1 := s.apr p e 1
  let w3 := s.apr p e 3
  let f := qFacet fr.dest
  let set :=
    if f < 32 then fget w1 ⟨37, 2⟩ == qDie fr.dest && bit w1 f
    else decide (59 ≤ f) && fget w1 ⟨37, 2⟩ == qDie fr.dest && bit w1 (f - 27)
  if named then set
  else bit w1 39 &&
    (if fr.kind = 1 then bit w3 12 && decide (fget (s.apr p e 2) ⟨30, 12⟩ ≤ fr.dest) && decide (fr.dest ≤ fget w3 ⟨0, 12⟩) else set)

/-- A queue number with another class (R50, R675). -/
def withClass (q c : Nat) : Nat := q / 256 * 256 + c * 32 + q % 32

/-- The FRAME check of a frame (R672, R675): k is given the frame as it passes and whether its class was clamped, or none. -/
def Act.aprFrame (p part : Nat) (named : Bool) (fr : Frame) (k : Option (Frame × Bool) → Act) : Act :=
  Act.get fun s =>
    let b := fr.data
    Act.aperture p part 1 fr.dest b.length
      (fun e =>
        let w2 := s.apr p e 2
        (bit w2 16 || fget w2 ⟨0, 16⟩ == frType b) && (bit w2 29 || (frTagged b && fget w2 ⟨17, 12⟩ == frTci b % 4096)) &&
          s.frameTo p e named fr)
      fun o =>
        match o with
        | none => k none
        | some e =>
          let m := fget (s.apr p e 1) ⟨40, 3⟩
          if fr.cls ≤ m then k (some (fr, false))
          else
            Act.seq (Act.aprClamp p part 1 e fr.dest)
              (k (some ({ fr with cls := m, dest := if fr.kind = 1 then fr.dest else withClass fr.dest m }, true)))

/-- The identifier of a bus frame as an aperture compares it, and whether it has 29 bits (R393, R676). -/
def busIdent (b : List Byte) : Nat × Bool := (bfId b, decide (bfFormat b < 2) && bfFlag b 7)

/-- The BUS check of a bus frame to global queue q (R672, R676): k is told whether it passes. -/
def Act.aprBus (p part q : Nat) (b : List Byte) (k : Bool → Act) : Act :=
  Act.get fun s =>
    let f := qFacet q
    let (id, xtd) := busIdent b
    Act.aperture p part 2 q b.length
      (fun e =>
        let w1 := s.apr p e 1
        let w2 := s.apr p e 2
        fget w1 ⟨25, 2⟩ == qDie q && (if f = 59 then bit w1 24 else decide (32 ≤ f) && decide (f < 56) && bit w1 (f - 32)) &&
          bit w1 (27 + bfFormat b) && bit w2 29 == xtd && decide (fget w2 ⟨0, 29⟩ ≤ id) && decide (id ≤ fget (s.apr p e 3) ⟨0, 29⟩))
      fun o =>
        match o with
        | none => k false
        | some e =>
          if fget (s.apr p e 3) ⟨29, 12⟩ < bfLen b then Act.seq (Act.aprLimit p part 2 e q) (k false) else k true

end Sys2Proof.Machine
end

