-- ==== Sys2Proof/Machine/Keys.lean ====
section
/-! DEFINITION. Run-time key operations: KEYS.OP_CMD (R505 to R507). -/

namespace Sys2Proof.Machine

/-- The 66 bytes of KEYS.OP_BUF (R505). -/
def State.opBuf (s : State) (p : Nat) : List Byte := (List.range 11).flatMap fun i => wordBytes (s.reg (KEYS.OP_BUF p i))

/-- Set KEYS.OP_BUF, the bytes beyond those given zero (R506). -/
def Act.setOpBuf (p : Nat) (b : List Byte) : Act :=
  Act.each (List.range 11) fun i => Act.setReg (KEYS.OP_BUF p i) (BitVec.ofNat 48 (bytesAt b (6 * i) 6))

/-- A key operation is denied by policy: RESULT 3 (R506). -/
def Act.opDenied (p n : Nat) (part : Option Nat) (k : Nat → Nat → Act) : Act :=
  Act.seq (Act.denyKey p n 6 (part.getD 0)) (k 3 0)

/-- Use SOURCE in a key operation: bit use of USE, bit dir of DIR (R505, R506). A source that is not loaded ends it with
RESULT 3, without randomness with RESULT 5. -/
def Act.opSource (p src use : Nat) (dir part : Option Nat) (k : Nat → Nat → Act) (go : List Nat → Act) : Act :=
  Act.useKey p src use dir none part 6 fun r =>
    match r with
    | .ok key => go key
    | .noRandom => k 5 0
    | _ => k 3 0

/-- A key in the 32-byte form of R497. -/
def key32 (key : List Nat) : List Nat := key ++ List.replicate (32 - key.length) 0

/-- LOAD: TARGET is loaded from its KEYBLOB entry, as a demand does (R503, R505). -/
def keyLoad (p tgt : Nat) (part : Option Nat) (k : Nat → Nat → Act) : Act :=
  Act.get fun s =>
    if (s.kslot (sk p tgt)).blob.isNone then Act.opDenied p tgt part k else Act.seq (Act.demand p tgt) (k 1 0)

/-- DERIVE: TARGET becomes the key of the KDF under SOURCE (R505, R507). -/
def keyDerive (p tgt src len : Nat) (part : Option Nat) (k : Nat → Nat → Act) : Act :=
  Act.get fun s =>
    if len = 0 ∨ 64 < len then k 6 0
    else if s.polBit p tgt KEYS.POL.FILL 1 = false then Act.opDenied p tgt part k
    else
      Act.opSource p src 6 none part k fun key =>
        Act.all [
          Act.fillSlot p tgt 3 (kdf key (nats ((s.opBuf p).take len)) (s.klen p tgt)),
          Act.count (KEYS.CNT p 1),
          k 2 0]

/-- UNWRAP: TARGET becomes the key unwrapped under SOURCE (R497, R505). -/
def keyUnwrapOp (p tgt src len : Nat) (part : Option Nat) (k : Nat → Nat → Act) : Act :=
  Act.get fun s =>
    if len ≠ (if s.klen p tgt = 1 then 40 else 24) then k 6 0
    else if s.polBit p tgt KEYS.POL.FILL 2 = false then Act.opDenied p tgt part k
    else
      Act.opSource p src 7 (some 1) part k fun kek =>
        match keyUnwrap kwDefault kek (nats ((s.opBuf p).take len)) with
        | some key => Act.all [Act.fillSlot p tgt 4 key, Act.count (KEYS.CNT p 2), k 2 0]
        | none => k 4 0

/-- WRAP: OP_BUF takes TARGET wrapped under SOURCE (R497, R505). -/
def keyWrapOp (p tgt src : Nat) (part : Option Nat) (k : Nat → Nat → Act) : Act :=
  Act.get fun s =>
    if s.flag (KEYS.POL p tgt) KEYS.POL.EXPORT = false ∨ s.slotState p tgt ≠ 2 then Act.opDenied p tgt part k
    else
      Act.opSource p src 7 (some 0) part k fun kek =>
        let out := octets (keyWrap kwDefault kek (s.kslot (sk p tgt)).key)
        Act.all [Act.setOpBuf p out, Act.count (KEYS.CNT p 3), k 2 out.length]

/-- GENERATE: TARGET becomes a new random key (R505). -/
def keyGenerate (p tgt : Nat) (part : Option Nat) (k : Nat → Nat → Act) : Act :=
  Act.get fun s =>
    if s.polBit p tgt KEYS.POL.FILL 3 = false then Act.opDenied p tgt part k
    else if (s.kstore p).rng = 2 then k 5 0
    else
      Act.freeBytes (if s.klen p tgt = 1 then 32 else 16) fun key =>
        Act.all [Act.fillSlot p tgt 5 (nats key), Act.count (KEYS.CNT p 4), k 2 0]

/-- CLEAR: TARGET is zeroised and EMPTY (R505). -/
def keyClear (p tgt : Nat) (k : Nat → Nat → Act) : Act := Act.seq (Act.clearSlot p tgt) (k 2 0)

/-- WRAP_ROOT: OP_BUF takes TARGET wrapped under the root key for its slot (R497, R505). -/
def keyWrapRoot (p tgt : Nat) (part : Option Nat) (k : Nat → Nat → Act) : Act :=
  Act.get fun s =>
    if s.polBit p tgt KEYS.POL.FILL 0 = false ∨ s.slotState p tgt ≠ 2 ∨ (s.kstore p).rootOk = false then
      Act.opDenied p tgt part k
    else
      let out := octets (keyWrap (kwSlot tgt) rootKey (key32 (s.kslot (sk p tgt)).key))
      Act.all [Act.setOpBuf p out, Act.count (KEYS.CNT p 3), k 2 out.length]

/-- The effect of a key operation: k is given the RESULT and OUT_LEN that KEY_OP_DONE will report (R505, R506). -/
def Act.keyOp (p op tgt src len : Nat) (part : Option Nat) (k : Nat → Nat → Act) : Act :=
  Act.get fun s =>
    if tgt = 0 ∨ s.partOk p tgt part = false then Act.opDenied p tgt part k
    else
      match op with
      | 1 => keyLoad p tgt part k
      | 2 => keyDerive p tgt src len part k
      | 3 => keyUnwrapOp p tgt src len part k
      | 4 => keyWrapOp p tgt src part k
      | 5 => keyGenerate p tgt part k
      | 6 => keyClear p tgt k
      | _ => keyWrapRoot p tgt part k

/-- The partition behind a firmware access. -/
def Agent.part? : Agent → Option Nat
  | .fw _ q _ _ => some q
  | _ => none

/-- A write of KEYS.OP_CMD (R505, R506). -/
def opCmd (ag : Agent) (p : Nat) (v : Word) (k : Code → Act) : Act :=
  let a := KEYS.OP_CMD p
  let op := fget v KEYS.OP_CMD.OP
  let tgt := fget v KEYS.OP_CMD.TARGET
  let len := fget v KEYS.OP_CMD.LEN
  Act.get fun s =>
    if op = 0 then Act.seq (Act.store a v) (k .ok)
    else if 7 < op ∨ (s.kstore p).op.isSome then Act.badValue a ag k
    else if ag.part?.isNone ∧ op ≠ 1 ∧ op ≠ 6 then k .denied
    else
      Act.all [
        Act.setReg a (fset (fset v KEYS.OP_CMD.RESULT 1) KEYS.OP_CMD.OUT_LEN 0),
        Act.setOpBuf p ((s.opBuf p).take (if op = 2 ∨ op = 3 then len else 0)),
        Act.keyOp p op tgt (fget v KEYS.OP_CMD.SOURCE) len ag.part? (fun res out =>
          Act.modKstore p fun u => { u with op := some { op := op, target := tgt, result := res, outLen := out, part := ag.part? } }),
        k .ok]

/-- What a LOAD comes to when it ends: a loading slot finishes, a loaded one is loaded again, a BAD one stays so
(R503, R504). -/
def Act.loadEnd (p tgt : Nat) : Act :=
  Act.get fun s =>
    if s.slotState p tgt = 2 then Act.seq (Act.setFld (KEYS.SLOT p tgt) KEYS.SLOT.STATE 1) (keyLoadDone p tgt)
    else keyLoadDone p tgt

/-- KEY_OP_DONE: the key operation of die p ends: RESULT, OUT_LEN, OP_DONE and the interrupt of its partition (R506,
R539). -/
def keyOpDone (p : Nat) : Act :=
  Act.get fun s =>
    Act.opt (s.kstore p).op fun o =>
      Act.all [
        Act.when (o.op = 1 ∧ o.result = 1) (Act.loadEnd p o.target),
        Act.get fun t =>
          Act.setFlds (KEYS.OP_CMD p)
            [(KEYS.OP_CMD.RESULT, if o.result = 1 then (if t.slotState p o.target = 2 then 2 else 4) else o.result),
             (KEYS.OP_CMD.OUT_LEN, o.outLen)],
        Act.modKstore p (fun u => { u with op := none }),
        Act.event (KEYS.EVT p) 6,
        Act.opt o.part fun q => Act.irq p (.direct q 3 0)]

end Sys2Proof.Machine
end

