-- ==== Sys2Proof/Machine/Gateway.lean ====
section
/-! DEFINITION. The signal engine: the Beam table, received frames, routed copies, tunnels received, transport reassembly,
and the table commands (R440 to R450, R463 to R478). -/

namespace Sys2Proof.Machine

/-! ## The Beam table (R443 to R447) -/

/-- Words 0 and 1 of a key (R446), VALID taken as 0. -/
def beamKey (kind xtd src qual streamH id : Nat) : Word × Word :=
  (word [(⟨0, 3⟩, kind), (⟨3, 1⟩, xtd), (⟨4, 8⟩, src), (⟨12, 10⟩, qual), (⟨22, 16⟩, streamH)], BitVec.ofNat 48 id)

/-- A word of Beam entry i: table 0x4C. -/
def State.beamW (s : State) (p i w : Nat) : Word := s.tbl p 0x4C i w

/-- The key of words 0 and 1 of an entry: VALID taken as 0 (R447). -/
def keyOf (w0 w1 : Word) : Word × Word := (clearBit w0 47, w1)

/-- The bucket of a key (R447). -/
def State.beamBucket (s : State) (p : Nat) (k : Word × Word) : Nat :=
  (crc16 (wordBytes k.1 ++ wordBytes k.2) ^^^ s.fld (SGW.CFG p) SGW.CFG.HASH_SEED) % 8192

/-- The entries of the bucket of a key. -/
def State.beamWays (s : State) (p : Nat) (k : Word × Word) : List Nat :=
  (List.range 8).map fun w => s.beamBucket p k * 8 + w

/-- The valid entry with a key (R447). -/
def State.beamFind (s : State) (p : Nat) (k : Word × Word) : Option Nat :=
  (s.beamWays p k).find? fun i => bit (s.beamW p i 0) 47 && keyOf (s.beamW p i 0) (s.beamW p i 1) == k

/-- The valid entries of die p's Beam table. -/
def State.beamEntries (s : State) (p : Nat) : Nat :=
  (s.tbls.filter fun e => e.1 / 2 ^ 23 == p * 256 + 0x4C && e.1 % 8 == 0 && bit e.2 47).length

/-- The lowest NAME slot that the NAME held for an address matches (R444, R445). -/
def State.nameSlot (s : State) (p c sa : Nat) : Option Nat :=
  (s.trkName p c sa).bind fun n =>
    (List.range 256).find? fun k =>
      let w := fun i => s.tbl p 0x51 k i
      let name := (w 0).toNat + 2 ^ 48 * fget (w 1) ⟨0, 16⟩
      let mask := fget (w 1) ⟨16, 32⟩ + 2 ^ 32 * fget (w 2) ⟨0, 32⟩
      bit (w 2) 32 && n &&& mask == name &&& mask

/-- Where a frame comes from: SRC of R443 (0xFF where it has none of its own), the CAN controller of this die it came
through, its global ingress facet, its receive timestamp and its class in the queue of facet 59. -/
structure Ingress where
  src : Nat := 0xFF
  ctl : Option Nat := none
  facet : Nat := 0
  ts : Nat := 0
  cls : Nat := 0
  deriving DecidableEq, Repr

/-- The six probes of kind 2 or 5 (R444). -/
def State.nameProbes (s : State) (p kind pgn sa : Nat) (g : Ingress) : List (Word × Word) :=
  [g.src, 0xFF].flatMap fun src =>
    ((match g.ctl.bind fun c => s.nameSlot p c sa with
      | some k => [0x100 + k]
      | none => []) ++ (if sa ≤ 253 then [sa] else []) ++ [0x3FF]).map fun q => beamKey kind 0 src q 0 pgn

/-- The PGN of a 29-bit identifier (R443). -/
def pgnOf (id : Nat) : Nat :=
  let n := id / 256 % 2 ^ 18
  if n / 65536 = 0 ∧ n / 256 % 256 < 240 then n / 256 * 256 else n

/-- The probes of a bus frame, in their order (R444). -/
def State.probes (s : State) (p : Nat) (g : Ingress) (b : List Byte) : List (Word × Word) :=
  if bfFormat b = 3 then [g.src, 0xFF].map fun src => beamKey 3 0 src 0x3FF 0 (bfId b % 64)
  else
    let xtd := bfFormat b != 2 && bfFlag b 7
    let id := if xtd then bfId b else bfId b % 2048
    ([g.src, 0xFF].map fun src => beamKey 1 (b2n xtd) src 0x3FF 0 id) ++
      (if xtd then s.nameProbes p 2 (pgnOf id) (id % 256) g else [])

/-- The entry that the first successful probe finds (R444). -/
def State.beamHit (s : State) (p : Nat) (l : List (Word × Word)) : Option Nat := l.findSome? (s.beamFind p)

/-! ## Routed copies (R449, R450) -/

/-- The formats and data of a copy: for a CAN facet or a tunnel under OUT_FMT, or for a LIN facet; none where they do not suit
(R449). -/
def routeForm (lin : Bool) (out pad : Nat) (b : List Byte) : Option (Nat × Bool × List Byte) :=
  let n := bfLen b
  let fmt := if lin then 3 else if out = 0 then bfFormat b else if out = 1 then 0 else 1
  let brs := if out = 0 then bfFlag b 5 else out == 3
  let d := bfData b
  match fmt with
  | 0 => if n ≤ 8 then some (0, false, d) else none
  | 1 => if n ≤ 64 then some (1, brs, d ++ List.replicate (fdFit n - n) (BitVec.ofNat 8 pad)) else none
  | 2 => some (2, false, d)
  | _ => if n ≤ 8 then some (3, false, d) else none

/-- The identifier of a copy with its XTD (R449). -/
def routeId (w2 w3 : Word) (b : List Byte) : Nat × Bool :=
  let xtd := bfFormat b != 2 && bfFormat b != 3 && bfFlag b 7
  match fget w2 ⟨42, 2⟩ with
  | 1 => (fget w3 ⟨0, 29⟩, bit w3 29)
  | 2 => (bfId b - bfId b % 256 + fget w3 ⟨0, 8⟩, xtd)
  | _ => (bfId b, xtd)

/-- The copy of a bus frame that an entry makes for a LIN facet, or for a CAN facet or tunnel (R449). -/
def routeCopy (w2 w3 : Word) (lin tunnel : Bool) (pad : Nat) (b : List Byte) : Option (List Byte) :=
  let out := fget w2 ⟨40, 2⟩
  if lin ∧ fget w2 ⟨42, 2⟩ ≠ 1 then none
  else if lin = false ∧ tunnel = false ∧ out = 0 ∧ bfFormat b = 3 then none
  else
    (routeForm lin out pad b).map fun r =>
      let id := routeId w2 w3 b
      let same := r.1 == bfFormat b
      mkBus r.1 (if r.1 = 3 then id.1 % 64 else if id.2 then id.1 else id.1 % 2048)
        (b2n (r.1 != 3 && id.2) * 128 + b2n (r.1 != 3 && bfFlag b 6) * 64 + b2n r.2.1 * 32 + b2n (same && bfFlag b 4) * 16 +
          b2n (same && bfFlag b 3) * 8 + b2n (same && bfFlag b 1) * 2)
        (if same ∧ r.1 = 0 then bfDlc b else dlcOf r.1 r.2.2.length)
        (if same then bytesAt b 8 1 else 0) (if same then bytesAt b 9 1 else 0) 0 (if same then bytesAt b 12 4 else 0) r.2.2

/-- One routed copy to a bus facet of a die (R450). -/
def Act.routeTo (p d f : Nat) (w2 w3 : Word) (g : Ingress) (b : List Byte) : Act :=
  Act.get fun s =>
    match routeCopy w2 w3 (decide (48 ≤ f)) false (s.fld (SGW.CFG p) SGW.CFG.PAD) b with
    | none => Act.sgwCount p 4
    | some c => Act.seq (Act.sgwCount p 3) (Act.engineOut p 59 (globalQueue d (queueNo f g.cls 0)) g.facet g.ts true c)

/-- The routed copies of a bus frame that an entry names (R446, R449). -/
def Act.routes (p : Nat) (w2 w3 : Word) (g : Ingress) (b : List Byte) : Act :=
  let far := fget w2 ⟨24, 8⟩
  let tun := fget w2 ⟨32, 8⟩
  Act.all [
    Act.each ((List.range 24).filter fun i => bit w2 i) (fun i => Act.routeTo p p (32 + i) w2 w3 g b),
    Act.when (far ≠ 0) (Act.routeTo p (far / 64) (far % 64) w2 w3 g b),
    Act.when (tun ≠ 0) (Act.get fun s =>
      match routeCopy w2 w3 false true (s.fld (SGW.CFG p) SGW.CFG.PAD) b with
      | none => Act.sgwCount p 4
      | some c =>
        let bus := fun n => Act.seq (Act.sgwCount p 3) (Act.tunnelAdd p tun n g.ts c)
        if 32 ≤ g.facet % 64 then bus (g.facet % 64 - 32) else Act.freeBelow 32 bus)]

/-! ## A frame under its entry (R448, R454) -/

/-- A frame goes unchanged to SGW.QUEUES.FW_QUEUE (R446, R448, R472). -/
def Act.toFw (p : Nat) (g : Ingress) (bus : Bool) (b : List Byte) : Act :=
  Act.get fun s =>
    Act.engineOut p 59 (globalQueue p (s.fld (SGW.QUEUES p) SGW.QUEUES.FW_QUEUE)) g.facet g.ts bus b

/-- Verify data under receive profile prof before use: bit use of USE, the user of KEYS.LAST, the identifier that a beacon's
must equal; onFail is what a failure does, and k is given the payload without its trailer (R448, R537, R562, R710). -/
def Act.verified (p prof use user : Nat) (id : Option Nat) (fault : Option (Nat × Nat)) (data : List Byte) (onFail : Act)
    (k : List Byte → Act) : Act :=
  Act.get fun s =>
    let beacon := id == some (fget (s.prof p prof 2) SEAL.PROF_W2.BEACON_ID)
    Act.verifySeal p prof use user beacon fault data fun v =>
      match v with
      | .accept f =>
        if s.bindingOpen p prof = false then
          Act.seq (Act.count (PLX.CNT 0 9)) (Act.plxEvent 6 ((s.boundTo p prof).getD 0) 0)
        else
          Act.seq (Act.sealAccept p prof beacon f)
            (k (if beacon then [] else data.take (data.length - s.trailer p prof)))
      | .fail => onFail
      | .replay _ => Act.sealReplay p prof
      | .noRef => Act.skip
      | .duplicate => Act.count (PAIR.CNT p 5)
      | .late => Act.count (PAIR.CNT p 6)

/-- A frame with an entry: verified where the entry is SEALED, its signals extracted, then its copies (R448, R454). -/
def Act.underEntry (p e : Nat) (g : Ingress) (id : Option Nat) (fault : Bool) (data : List Byte) (copies fw : Act) : Act :=
  Act.get fun s =>
    let w2 := s.beamW p e 2
    let w3 := s.beamW p e 3
    let w4 := s.beamW p e 4
    let go := fun payload => Act.all [
      Act.extract p (fget w4 ⟨0, 18⟩) (fget w3 ⟨30, 7⟩) (bit w2 46) payload g.ts,
      copies,
      Act.when (bit w2 44 = true) fw]
    Act.seq (Act.sgwCount p 1)
      (if bit w2 45 then Act.verified p (fget w4 ⟨18, 12⟩) 4 4 id (sealUnit fault) data
         (Act.seq (Act.sgwCount p 9) (Act.sgwEvent p 0)) go
       else go data)

/-- A frame without an entry (R448). -/
def Act.beamMiss (p : Nat) (toFw : Act) : Act :=
  Act.get fun s => if s.flag (SGW.CFG p) SGW.CFG.MISS_ACTION then toFw else Act.sgwCount p 2

/-- Look up a bus frame and use it (R444, R448). -/
def Act.lookupBus (p : Nat) (g : Ingress) (fault : Bool) (b : List Byte) : Act :=
  Act.get fun s =>
    match s.beamHit p (s.probes p g b) with
    | none => Act.beamMiss p (Act.toFw p g true b)
    | some e =>
      Act.underEntry p e g (some (bfId b)) fault (bfData b) (Act.routes p (s.beamW p e 2) (s.beamW p e 3) g b)
        (Act.seq (Act.sgwCount p 19) (Act.toFw p g true b))

/-! ## Transport reassembly (R467 to R472; frames of SAE J1939-21 and ISO 11783-3) -/

/-- The own address of CAN controller c (R478). -/
def State.ownSa (s : State) (p c : Nat) : Option Nat :=
  let a := s.fld (SGW.OWN_SA p c) SGW.OWN_SA.SA
  if a ≤ 253 then some a else none

/-- The granules of a session (R468). -/
def Session.granules (x : Session) : Nat := if x.proto = 2 then cdiv x.size 2048 else 1

/-- Free granules of die p's reassembly memory (R468). -/
def State.granulesFree (s : State) (p : Nat) : Nat := 256 - ((s.sess p).map Session.granules).sum

/-- Is a session the one between two addresses on a controller under a protocol (R468)? -/
def Session.is (x : Session) (c sa da proto : Nat) : Bool := x.ctl == c && x.sa == sa && x.da == da && x.proto == proto

/-- A session closes (R470). -/
def Act.tpClose (p : Nat) (x : Session) : Act :=
  Act.modSess p fun l => l.filter fun y => !y.is x.ctl x.sa x.da x.proto

/-- A session's state changes. -/
def Act.tpPut (p : Nat) (x : Session) : Act :=
  Act.modSess p fun l => l.map fun y => if y.is x.ctl x.sa x.da x.proto then x else y

/-- A control frame from the own address of a session to its sender: TP.CM or ETP.CM with eight bytes (R469). -/
def Act.tpSend (p : Nat) (x : Session) (bytes : List Byte) : Act :=
  Act.get fun s =>
    let id := 7 * 2 ^ 26 + (if x.proto = 2 then 0xC8 else 0xEC) * 65536 + x.sa * 256 + x.da
    Act.engineOut p 59 (globalQueue p (queueNo (32 + x.ctl) (s.fld (SGW.CFG p) SGW.CFG.TP_CLASS) 31)) (globalFacet p 59)
      (s.time p) true (mkBus 0 id 128 8 0 0 0 0 (bytes ++ leBytes 3 x.pgn))

/-- An abort sent or received (R470). -/
def Act.tpAborted (p c reason : Nat) : Act :=
  Act.all [
    Act.sgwCount p 17,
    Act.sgwEvent p 3,
    Act.setFlds (SGW.LAST p) [(SGW.LAST.ABORT_REASON, reason), (SGW.LAST.ABORT_FACET, 32 + c)]]

/-- Send a connection abort (R468 to R470). -/
def Act.tpAbort (p : Nat) (x : Session) (reason : Nat) : Act :=
  Act.seq (Act.tpSend p x ([255, BitVec.ofNat 8 reason] ++ List.replicate 3 0xFF)) (Act.tpAborted p x.ctl reason)

/-- Send a CTS for the next packets (R469). -/
def Act.tpCts (p : Nat) (x : Session) : Act :=
  Act.get fun s =>
    let n := min x.limit (s.fld (SGW.CFG p) SGW.CFG.CTS_PKTS)
    Act.seq (Act.tpPut p { x with left := n, offset := none, since := s.edges, wait := 1250 })
      (Act.tpSend p x
        (if x.proto = 2 then [21, BitVec.ofNat 8 n] ++ leBytes 3 x.next
         else [17, BitVec.ofNat 8 n, BitVec.ofNat 8 x.next, 0xFF, 0xFF]))

/-- An opening frame opens a session, in place of one between the same addresses (R468). -/
def Act.tpOpen (p : Nat) (x : Session) : Act :=
  Act.seq
    (Act.get fun s => Act.when ((s.sess p).any (fun y => y.is x.ctl x.sa x.da x.proto) = true)
      (Act.seq (Act.tpClose p x) (Act.sgwCount p 17)))
    (Act.get fun s =>
      if 64 ≤ (s.sess p).length ∨ s.granulesFree p < x.granules then
        Act.all [
          Act.when (x.proto ≠ 0) (Act.tpAbort p x 2),
          Act.sgwCount p 18,
          Act.sgwEvent p 6]
      else
        Act.seq (Act.modSess p fun l => l ++ [{ x with since := s.edges }]) (Act.when (x.proto ≠ 0) (Act.tpCts p x)))

/-- The message frames of a completed message (R471). -/
def messageFrames (x : Session) : List (List Byte) :=
  let n := cdiv x.size 9200
  (List.range n).map fun i =>
    beBytes 4 (x.pgn + x.proto * 2 ^ 18 + i % 256 * 2 ^ 20 + b2n (i + 1 == n) * 2 ^ 28) ++
      beBytes 1 (32 + x.ctl) ++ beBytes 1 x.sa ++ beBytes 1 x.da ++ beBytes 1 0 ++ beBytes 4 x.size ++
      beBytes 4 (9200 * i) ++ (x.data.drop (9200 * i)).take 9200

/-- A completed message is looked up and used (R471). -/
def Act.tpDeliver (p : Nat) (g : Ingress) (fault : Bool) (x : Session) : Act :=
  Act.get fun s =>
    let q := globalQueue p (s.fld (SGW.QUEUES p) SGW.QUEUES.MSG_QUEUE)
    let out := Act.each (messageFrames x) fun b => Act.engineOut p 59 q g.facet g.ts true b
    Act.seq (Act.sgwCount p 16)
      (match s.beamHit p (s.nameProbes p 5 x.pgn x.sa g) with
       | none => Act.beamMiss p out
       | some e => Act.underEntry p e g none fault x.data Act.skip (Act.seq (Act.sgwCount p 19) out))

/-- A data packet of an open session (R469). -/
def Act.tpData (p : Nat) (g : Ingress) (fault : Bool) (x : Session) (d : List Byte) : Act :=
  let n := bytesAt d 0 1
  let no := if x.proto = 2 then x.offset.map (· + n) else some n
  let y := { x with next := x.next + 1, left := x.left - 1, data := (x.data ++ d.drop 1).take x.size }
  if no ≠ some x.next then
    Act.seq (Act.tpClose p x) (Act.when (x.proto ≠ 0) (Act.tpAbort p x 7))
  else if cdiv x.size 7 ≤ x.next then
    Act.all [
      Act.tpClose p x,
      Act.when (x.proto = 1) (Act.tpSend p x ([19] ++ leBytes 2 x.size ++ [BitVec.ofNat 8 (cdiv x.size 7), 0xFF])),
      Act.when (x.proto = 2) (Act.tpSend p x ([23] ++ leBytes 4 x.size)),
      Act.tpDeliver p g fault y]
  else if x.proto ≠ 0 ∧ y.left = 0 then Act.seq (Act.tpPut p y) (Act.tpCts p y)
  else Act.get fun s => Act.tpPut p { y with since := s.edges, wait := 750 }

/-- The ETP session that firmware handles to which a frame between two addresses on controller c belongs (R472). -/
def State.bypassOf (s : State) (p c sa da : Nat) : Option Bypass :=
  (s.byp p).find? fun y =>
    y.ctl == c && ((y.sa == sa && y.da == da) || (y.sa == da && y.da == sa)) &&
      decide ((s.time p + 2 ^ 48 - y.last) % 2 ^ 48 ≤ 1250000000)

/-- A frame of an ETP session that firmware handles: unchanged to FW_QUEUE; its end-of-message acknowledgement or an abort
ends the session (R472). -/
def Act.bypassed (p : Nat) (g : Ingress) (y : Bypass) (cm : Bool) (b : List Byte) : Act :=
  Act.get fun s =>
    let c := bytesAt (bfData b) 0 1
    let rest := (s.byp p).filter (· != y)
    Act.seq (Act.setByp p (if cm ∧ (c = 23 ∨ c = 255) then rest else rest ++ [{ y with last := s.time p }]))
      (Act.toFw p g true b)

/-- TP_FRAME: a CC frame of controller c that belongs to a session opens, advances or closes it; any other frame goes on to
k (R467 to R472). -/
def Act.transport (p c : Nat) (g : Ingress) (fault : Bool) (b : List Byte) (k : Act) : Act :=
  Act.get fun s =>
    let id := bfId b
    let pf := id / 65536 % 256
    let da := id / 256 % 256
    let sa := id % 256
    let d := bfData b
    let op := bytesAt d 0 1
    let pgn := leNat (d.drop 5) % 2 ^ 18
    let own := s.ownSa p c == some da
    let open? := fun proto => (s.sess p).find? fun y => y.is c sa da proto
    if s.flag (SGW.CFG p) SGW.CFG.TP_EN = false ∨ bfFormat b ≠ 0 ∨ bfFlag b 7 = false ∨ bfFlag b 6 ∨ bfLen b ≠ 8 ∨
        id / 2 ^ 24 % 4 ≠ 0 then k
    else
      match pf with
      | 0xEC =>
        let size := leNat ((d.drop 1).take 2)
        let ok := decide (0 < size ∧ size ≤ 1785)
        if op = 32 ∧ da = 255 ∧ ok = true then
          Act.tpOpen p { ctl := c, sa := sa, da := da, proto := 0, pgn := pgn, size := size }
        else if op = 16 ∧ own = true ∧ ok = true then
          Act.tpOpen p { ctl := c, sa := sa, da := da, proto := 1, pgn := pgn, size := size, limit := bytesAt d 4 1 }
        else if op = 255 then
          match open? 1 with
          | some x => Act.seq (Act.tpClose p x) (Act.tpAborted p c (bytesAt d 1 1))
          | none => k
        else k
      | 0xEB =>
        match open? (if da = 255 then 0 else 1) with
        | some x => Act.tpData p g fault x d
        | none => k
      | 0xC8 =>
        let size := leNat ((d.drop 1).take 4)
        if op = 20 ∧ own = true ∧ 65536 < size then
          Act.seq
            (Act.modByp p fun l =>
              l.filter (fun y => !(y.ctl == c && y.sa == sa && y.da == da)) ++ [{ ctl := c, sa := sa, da := da, last := s.time p }])
            (Act.toFw p g true b)
        else
          match s.bypassOf p c sa da with
          | some y => Act.bypassed p g y true b
          | none =>
            if op = 20 ∧ own = true ∧ 0 < size then
              Act.tpOpen p { ctl := c, sa := sa, da := da, proto := 2, pgn := pgn, size := size, limit := 255 }
            else
              match open? 2 with
              | none => k
              | some x =>
                if op = 22 then Act.tpPut p { x with offset := some (leNat ((d.drop 2).take 3)) }
                else if op = 255 then Act.seq (Act.tpClose p x) (Act.tpAborted p c (bytesAt d 1 1))
                else k
      | 0xC7 =>
        match s.bypassOf p c sa da with
        | some y => Act.bypassed p g y false b
        | none =>
          match open? 2 with
          | some x => Act.tpData p g fault x d
          | none => k
      | _ => k

/-- TP_TIMER_EXPIRE: the timer of the session between two addresses on controller c has run out: it closes without delivery,
a connection with an abort; one that firmware handles ends in silence (R470, R472). -/
def tpTimerExpire (p c sa da proto : Nat) : Act :=
  Act.get fun s =>
    Act.seq
      (Act.opt ((s.sess p).find? fun y => y.is c sa da proto && s.pastMs y.since y.wait) fun x =>
        Act.seq (Act.tpClose p x) (Act.when (proto ≠ 0) (Act.tpAbort p x 3)))
      (Act.when (proto = 2)
        (Act.modByp p fun l => l.filter fun y =>
          !(y.ctl == c && y.sa == sa && y.da == da && decide (1250000000 ≤ s.sinceNs p y.last))))

/-! ## Received frames (R440, R441, R466) -/

/-- The bus frame that an ACF message carries, with its bus_id (R463; layouts of IEEE 1722-2016); none for a message of
another type or of no valid length. -/
def acfFrame (m : List Byte) : Option (Nat × List Byte) :=
  let t := bytesAt m 0 1 / 2
  let f := bytesAt m 2 1
  let pad := f / 64
  let can := fun (h : Nat) =>
    let d := (m.drop h).take (m.length - h - pad)
    let fmt := f / 2 % 2
    let id := bytesAt m (h - 4) 4 % 2 ^ 29
    (bytesAt m 3 1 % 32,
      mkBus fmt (if f / 8 % 2 = 1 then id else id % 2048)
        (f / 8 % 2 * 128 + f / 16 % 2 * 64 + fmt * (f / 4 % 2) * 32 + fmt * (f % 2) * 16) (dlcOf fmt d.length) 0 0 0 0 d)
  let r :=
    match t with
    | 1 => some (can 16)
    | 2 => some (can 8)
    | 3 => some (f % 32, mkBus 3 (bytesAt m 3 1 % 64) 0 0 0 0 0 0 ((m.drop 12).take (m.length - 12 - pad)))
    | _ => none
  r.filter fun x => bfLenOk x.2

/-- The ACF messages of an AVTPDU's payload; a length that does not fit ends them (R466). -/
def acfSplit : Nat → List Byte → List (List Byte)
  | 0, _ => []
  | n + 1, b =>
    let l := bytesAt b 0 2 % 512 * 4
    if l = 0 ∨ b.length < l then [] else b.take l :: acfSplit n (b.drop l)

/-- A bus frame is used: transport first on a CAN controller of this die, then lookup (R441, R467). -/
def Act.busIn (p : Nat) (g : Ingress) (fault : Bool) (b : List Byte) : Act :=
  match g.ctl with
  | some c => Act.transport p c g fault b (Act.lookupBus p g fault b)
  | none => Act.lookupBus p g fault b

/-- An AVTPDU is looked up as KIND 4: its payload begins after the 24-byte stream header (R444, R466). -/
def Act.lookupStream (p : Nat) (g : Ingress) (fault : Bool) (frame pdu : List Byte) : Act :=
  Act.get fun s =>
    let st := bytesAt pdu 4 8
    match s.beamHit p ([g.src, 0xFF].map fun src => beamKey 4 0 src 0x3FF (st / 2 ^ 48) (st % 2 ^ 48)) with
    | none => Act.beamMiss p (Act.toFw p g false frame)
    | some e =>
      Act.underEntry p e g none fault (pdu.drop 24) Act.skip (Act.seq (Act.sgwCount p 19) (Act.toFw p g false frame))

/-- AVTPDU_RECEIVE: a received AVTPDU (R466). -/
def Act.avtpIn (p : Nat) (g : Ingress) (fault : Bool) (frame pdu : List Byte) : Act :=
  Act.get fun s =>
    let sub := bytesAt pdu 0 1
    if sub ≠ 0x82 ∧ sub ≠ 0x05 then Act.lookupStream p g fault frame pdu
    else
      match ((List.range 256).drop 1).find? fun t =>
          bit (s.tunW p t 2) 32 && s.tunStream p t == bytesAt pdu 4 8 with
      | none => Act.seq (Act.sgwCount p 14) (Act.lookupStream p g fault frame pdu)
      | some t =>
        let seq := if sub = 0x82 then bytesAt pdu 3 1 else bytesAt pdu 2 1
        let body := if sub = 0x82 then (pdu.drop 12).take (bytesAt pdu 1 2 % 2048) else (pdu.drop 24).take (bytesAt pdu 20 2)
        let base := fget (s.tunW p t 2) ⟨33, 7⟩
        Act.all [
          Act.when ((s.tun (tunKey p t)).heard.any (fun n => (n + 1) % 256 != seq) = true)
            (Act.seq (Act.sgwCount p 13) (Act.sgwEvent p 4)),
          Act.modTun (tunKey p t) (fun u => { u with heard := some seq }),
          Act.each (acfSplit body.length body) fun m =>
            match acfFrame m with
            | none => Act.sgwCount p 15
            | some (id, b) =>
              Act.seq (Act.sgwCount p 12) (Act.busIn p { g with src := 0x80 + (base + id) % 127, ctl := none } fault b)]

/-- SGW_FRAME: the engine of die p takes its next frame (R440, R441); fault is the parity check of the sealing unit
(R519). -/
def sgwFrame (p : Nat) (fault : Bool) : Act :=
  Act.get fun s =>
    Act.when (s.enabled p 0x60 = true)
      (Act.take p 59 (fun _ => true) fun _ r =>
        let f := r.fr.src % 64
        let here := r.fr.src / 64 == p
        let g : Ingress :=
          { src := if here ∧ 32 ≤ f ∧ f ≤ 55 then f else 0xFF
            ctl := if here ∧ 32 ≤ f ∧ f ≤ 47 then some (f - 32) else none
            facet := r.fr.src, ts := r.fr.ts, cls := r.fr.cls }
        Act.seq (Act.sgwCount p 0)
          (if r.fr.bus then Act.busIn p g fault r.fr.data
           else if frTagged r.fr.data = true ∧ frType r.fr.data = 0x22F0 then
             Act.avtpIn p g fault r.fr.data ((frBody r.fr.data).take ((frBody r.fr.data).length - 4))
           else Act.sgwCount p 14))

/-! ## Commands of SGW (R446, R447, R458, R464, R475, R476) -/

/-- Does a Beam entry break R443, R444 or R446 on die p? -/
def State.beamBad (s : State) (p : Nat) (w : List Word) : Bool :=
  let w0 := w.getD 0 0
  let id := (w.getD 1 0).toNat
  let w2 := w.getD 2 0
  let w3 := w.getD 3 0
  let kind := fget w0 ⟨0, 3⟩
  let src := fget w0 ⟨4, 8⟩
  let qual := fget w0 ⟨12, 10⟩
  let far := fget w2 ⟨24, 8⟩
  kind == 0 || decide (5 < kind) ||
    !((decide (32 ≤ src) && decide (src ≤ 55)) || decide (128 ≤ src)) ||
    !(qual == 0x3FF || ((kind == 2 || kind == 5) && (decide (qual ≤ 253) || (decide (0x100 ≤ qual) && decide (qual < 0x200))))) ||
    fget w0 ⟨38, 9⟩ != 0 || bit w2 47 || fget w3 ⟨37, 11⟩ != 0 || fget (w.getD 4 0) ⟨30, 18⟩ != 0 ||
    decide (2 ^ (if kind = 1 then (if bit w0 3 then 29 else 11) else if kind = 3 then 6 else if kind = 4 then 48 else 18) ≤ id) ||
    fget w2 ⟨42, 2⟩ == 3 || decide (64 < fget w3 ⟨30, 7⟩) ||
    (far != 0 && (far / 64 == p || decide (s.x ≤ far / 64) || decide (far % 64 < 32) || decide (55 < far % 64))) ||
    (decide (4 ≤ kind) && fget w2 ⟨0, 40⟩ != 0)

/-- SGW.BEAM_CMD OP 1: read entry i into the W registers. -/
def Act.beamRead (p i : Nat) : Act :=
  Act.get fun s => Act.each (List.range 5) fun w => Act.setReg (SGW.BEAM_W p w) (s.beamW p i w)

/-- Insert or replace an entry: where it stands, or none where the bucket has no free way (R447). -/
def State.beamPlace (s : State) (p : Nat) (k : Word × Word) : Option Nat :=
  match s.beamFind p k with
  | some i => some i
  | none => (s.beamWays p k).find? fun i => !bit (s.beamW p i 0) 47

/-- A write of SGW.BEAM_CMD (R447, R475). -/
def beamCmd (ag : Agent) (p : Nat) (v : Word) (k : Code → Act) : Act :=
  let a := SGW.BEAM_CMD p
  Act.get fun s =>
    let w := (List.range 5).map fun i => s.reg (SGW.BEAM_W p i)
    let key := keyOf (w.getD 0 0) (w.getD 1 0)
    let done := fun (idx res : Nat) => Act.setReg a (fset (fset v SGW.BEAM_CMD.INDEX idx) SGW.BEAM_CMD.RESULT res)
    let i := fget v SGW.BEAM_CMD.INDEX
    match fget v SGW.BEAM_CMD.OP with
    | 0 => Act.seq (Act.store a v) (k .ok)
    | 1 => Act.all [done i 0, Act.beamRead p i, k .ok]
    | 2 =>
      match s.beamFind p key with
      | some j => Act.seq (done j 0) (k .ok)
      | none => Act.seq (done i 2) (k .ok)
    | 3 =>
      if s.beamBad p w then Act.seq (done i 4) (Act.badValue a ag k)
      else
        match s.beamPlace p key with
        | none => Act.seq (done i 3) (Act.badValue a ag k)
        | some j => Act.all [done j 0, Act.setTblWords p 0x4C j w, k .ok]
    | 4 =>
      match s.beamFind p key with
      | some j => Act.all [done i 0, Act.setTblWords p 0x4C j [0, 0, 0, 0, 0], k .ok]
      | none => Act.seq (done i 2) (k .ok)
    | _ => Act.badValue a ag k

/-- Is LEN valid for a format (R388, R458)? -/
def lenOk (fmt n : Nat) : Bool :=
  match fmt with
  | 0 => decide (n ≤ 8)
  | 1 => fdLengths.contains n
  | 2 => decide (1 ≤ n ∧ n ≤ 2048)
  | _ => decide (1 ≤ n ∧ n ≤ 8)

/-- Is a local queue a consumer queue (R275)? -/
def isConsumer (q : Nat) : Bool := qFacet q == 60 || (qFacet q == 63 && qFlow q != 0)

/-- Does placement words w0 reach beyond n bytes (R458)? -/
def placeBeyond (w0 : Word) (n : Nat) : Bool :=
  fget w0 ⟨32, 6⟩ != 0 && !bitsFit (bit w0 38) (fget w0 ⟨18, 14⟩) (fget w0 ⟨32, 6⟩) n

/-- Does a PDU entry break R458 or R531 on die p? -/
def State.pduBad (s : State) (p : Nat) (w : List Word) : Bool :=
  let w0 := w.getD 0 0
  let w1 := w.getD 1 0
  let w2 := w.getD 2 0
  let w3 := w.getD 3 0
  let fmt := fget w0 ⟨30, 2⟩
  let len := fget w0 ⟨33, 12⟩
  let q := fget w1 ⟨0, 16⟩
  fget w1 ⟨41, 7⟩ != 0 || fget w3 ⟨33, 15⟩ != 0 ||
    (bit w0 46 &&
      (!lenOk fmt len || decide (64 < fget w3 ⟨16, 7⟩) ||
        (fget w2 ⟨0, 16⟩ != 0 && decide (fget w2 ⟨0, 16⟩ ≤ fget w2 ⟨16, 16⟩)) ||
        (fget w1 ⟨16, 8⟩ == 0 &&
          (decide (s.x ≤ qDie q) ||
            !(isConsumer q || (if fmt = 3 then decide (48 ≤ qFacet q ∧ qFacet q ≤ 55)
              else decide (32 ≤ qFacet q ∧ qFacet q ≤ 47))))) ||
        (bit w0 47 && decide (len < s.trailer p (fget w1 ⟨24, 12⟩))) ||
        ((List.range (fget w3 ⟨16, 7⟩)).any fun j => placeBeyond (s.placeW p (fget w3 ⟨0, 16⟩ + j) 0) len)))

/-- Does placement i break R458 on die p: its own ranges, or the length of a PDU that places it? -/
def State.placeBad (s : State) (p i : Nat) (w : List Word) : Bool :=
  let w0 := w.getD 0 0
  w.any (· != 0) &&
    (fget w0 ⟨41, 7⟩ != 0 || fget w0 ⟨39, 2⟩ == 3 || fget w0 ⟨32, 6⟩ == 0 || decide (48 < fget w0 ⟨32, 6⟩) ||
      ((s.tbls.filter fun e => e.1 / 2 ^ 23 == p * 256 + 0x4E && e.1 % 8 == 0 && bit e.2 46).any fun e =>
        let w3 := s.pduW p (e.1 / 8 % 2 ^ 20) 3
        decide (fget w3 ⟨0, 16⟩ ≤ i ∧ i < fget w3 ⟨0, 16⟩ + fget w3 ⟨16, 7⟩) && placeBeyond w0 (fget e.2 ⟨33, 12⟩)))

/-- Does tunnel t break R464 on die p? -/
def State.tunBad (s : State) (p t : Nat) (w : List Word) : Bool :=
  let w2 := w.getD 2 0
  let w3 := w.getD 3 0
  let out := fget w2 ⟨40, 8⟩
  t == 0 || fget w3 ⟨29, 19⟩ != 0 || fget w2 ⟨33, 7⟩ == 127 ||
    (bit w2 31 && (decide (s.x ≤ out / 64) || decide (32 ≤ out % 64) || fget w3 ⟨8, 5⟩ == 0 || fget w3 ⟨13, 16⟩ == 0)) ||
    (bit w2 32 && ((List.range 256).any fun u =>
      u != t && bit (s.tunW p u 2) 32 &&
        s.tunStream p u == (w.getD 1 0).toNat + 2 ^ 48 * fget w2 ⟨0, 16⟩))

/-- The entries and words of an SGW table: none where the code names none (R476). -/
def sgwTable (t : Nat) : Option (Nat × Nat) :=
  match t with
  | 0x4D => some (262144, 2)
  | 0x4E => some (4096, 4)
  | 0x4F => some (65536, 2)
  | 0x50 => some (256, 4)
  | 0x51 => some (256, 3)
  | _ => none

/-- Does an entry of an SGW table break this chapter's rules on die p (R445, R452, R457, R458, R464, R476)? -/
def State.sgwBad (s : State) (p t i : Nat) (w : List Word) : Bool :=
  match t with
  | 0x4D =>
    fget (w.getD 0 0) ⟨44, 4⟩ != 0 || fget (w.getD 1 0) ⟨29, 19⟩ != 0 || decide (48 < fget (w.getD 0 0) ⟨19, 6⟩) ||
      (decide (258048 ≤ i) && w.getD 0 0 != 0)
  | 0x4E => s.pduBad p w
  | 0x4F => s.placeBad p i w
  | 0x50 => s.tunBad p i w
  | _ => fget (w.getD 2 0) ⟨33, 15⟩ != 0

/-- A write of SGW.TBL_CMD (R476). -/
def sgwTblCmd (ag : Agent) (p : Nat) (v : Word) (k : Code → Act) : Act :=
  let a := SGW.TBL_CMD p
  let t := fget v SGW.TBL_CMD.TABLE
  let i := fget v SGW.TBL_CMD.INDEX
  Act.get fun s =>
    let no := Act.seq (Act.setReg a (fset v SGW.TBL_CMD.RESULT 2)) (Act.badValue a ag k)
    match fget v SGW.TBL_CMD.OP, sgwTable t with
    | 0, _ => Act.seq (Act.store a v) (k .ok)
    | 1, some (n, m) =>
      if n ≤ i then Act.badValue a ag k
      else
        Act.all [Act.setReg a (fset v SGW.TBL_CMD.RESULT 0),
          Act.each (List.range m) (fun w => Act.setReg (SGW.TBL_W p w) (s.tbl p t i w)), k .ok]
    | 2, some (n, m) =>
      let w := (List.range m).map fun j => s.reg (SGW.TBL_W p j)
      if n ≤ i ∨ s.sgwBad p t i w = true then no
      else Act.all [Act.setReg a (fset v SGW.TBL_CMD.RESULT 0), Act.setTblWords p t i w, k .ok]
    | 2, none => no
    | _, _ => Act.badValue a ag k

/-- The engine is enabled: cadences begin (R461). -/
def Act.sgwOn (p : Nat) : Act := Act.cadencesFrom p

/-- The engine enters its disabled safe state: all sessions close. -/
def Act.sgwOff (p : Nat) : Act := Act.seq (Act.setSess p []) (Act.setByp p [])

end Sys2Proof.Machine
end

