-- ==== Sys2Proof/Machine/Cipher.lean ====
section
/-! DEFINITION. The cipher engine: jobs, flows on facet 61, and seal beacons (R518 to R525, R535, R544, R545). -/

namespace Sys2Proof.Machine

/-! ## Jobs (R520 to R524) -/

/-- The key of job channel k of die p. -/
def jobKey (p k : Nat) : Nat := 4 * p + k

/-- A write of CIPH.JOB_k (R523, R544). -/
def jobCmd (ag : Agent) (p c : Nat) (v : Word) (k : Code → Act) : Act :=
  let a := CIPH.JOB p c
  Act.get fun s =>
    if fget v CIPH.JOB.START = 0 then
      (if fget v CIPH.JOB.DESC % 64 ≠ 0 then Act.badValue a ag k else Act.seq (Act.store a v) (k .ok))
    else
      match ag with
      | .fw d part core _ =>
        if d ≠ p then k .denied
        else if (s.job (jobKey p c)).isSome ∨ fget v CIPH.JOB.DESC % 64 ≠ 0 then Act.badValue a ag k
        else if s.enabled p 0x69 = false then Act.seq (Act.store a (fset v CIPH.JOB.START 0)) (k .ok)
        else
          Act.all [
            Act.store a (fset v CIPH.JOB.START 0),
            Act.setReg (CIPH.JOB_STAT p c) (word [(CIPH.JOB_STAT.RESULT, 1), (CIPH.JOB_STAT.PART, part)]),
            Act.setJob (jobKey p c) (some { desc := fget v CIPH.JOB.DESC, part := part, core := core, asked := s.edges }),
            k .ok]
      | _ => k .denied

/-- The bytes of a device IV (R522). -/
def State.deviceIv (s : State) (p n : Nat) : List Nat :=
  bytesOf 2 (s.devId * 4 + p) ++ bytesOf 2 s.epoch ++ bytesOf 8 (s.kslot (sk p n)).iv

/-- A memory access of a job: n bytes from a pass the partition's windows with a right; an access of no bytes always
does. -/
def State.jobMem (s : State) (p part a n right : Nat) : Bool := n == 0 || s.windowOk p part a n right

/-- Run a job's operation once every check has passed (R523, R524): w0 is descriptor word 0. -/
def Act.jobRun (p desc : Nat) (w : List Nat) (key iv : List Nat) (k : Nat → Act) : Act :=
  Act.get fun s =>
    let w0 := BitVec.ofNat 48 (w.getD 0 0)
    let op := fget w0 ⟨0, 3⟩
    let t := if fget w0 ⟨13, 4⟩ = 0 then 16 else fget w0 ⟨13, 4⟩
    let n := fget w0 ⟨29, 16⟩
    let aad := nats (s.memRead p (w.getD 1 0 % 2 ^ 40) (fget w0 ⟨18, 11⟩))
    let msg := nats (s.memRead p (w.getD 2 0 % 2 ^ 40) n)
    let dst := w.getD 3 0 % 2 ^ 40
    let tagAt := w.getD 4 0 % 2 ^ 40
    let held := nats (s.memRead p tagAt t)
    let device := decide (op = 1 ∨ op = 3) && fget w0 ⟨17, 1⟩ == 0
    let give := fun (tag : List Nat) => Act.memWrite p tagAt (octets (tag.take t))
    let ivBack := Act.when (device = true)
      (Act.all [
        Act.modKslot (sk p (fget w0 ⟨3, 10⟩)) (fun u => { u with iv := u.iv + 1 }),
        Act.memSetWord p (desc + 40) (BitVec.ofNat 48 (natOf (iv.take 6))),
        Act.memSetWord p (desc + 48) (BitVec.ofNat 48 (natOf (iv.drop 6)))])
    let check := fun (tag : List Nat) (good bad : Act) =>
      if tag.take t = held then Act.seq good (k 2) else Act.all [bad, Act.count (CIPH.CNT p 1), k 3]
    match op with
    | 1 =>
      let ct := gcmStream key iv msg
      Act.all [Act.memWrite p dst (octets ct), give (gcmTag key iv aad ct), ivBack, k 2]
    | 2 =>
      check (gcmTag key iv aad msg) (Act.memWrite p dst (octets (gcmStream key iv msg)))
        (Act.memWrite p dst (List.replicate n 0))
    | 3 => Act.all [give (gcmTag key iv msg []), ivBack, k 2]
    | 4 => check (gcmTag key iv msg []) Act.skip Act.skip
    | 5 => Act.seq (give (cmac key msg)) (k 2)
    | _ => check (cmac key msg) Act.skip Act.skip

/-- A job from its descriptor to its result (R520, R522 to R524): k is given the result. -/
def Act.jobEnd (p c : Nat) (j : CipherJob) (fault : Bool) (k : Nat → Act) : Act :=
  Act.get fun s =>
    let w := (List.range 8).map fun i => s.memWord p (j.desc + 8 * i) % 2 ^ 48
    let w0 := BitVec.ofNat 48 (w.getD 0 0)
    let op := fget w0 ⟨0, 3⟩
    let slot := fget w0 ⟨3, 10⟩
    let t := fget w0 ⟨13, 4⟩
    let tag := if t = 0 then 16 else t
    let firmIv := fget w0 ⟨17, 1⟩ == 1
    let al := fget w0 ⟨18, 11⟩
    let n := fget w0 ⟨29, 16⟩
    let gcm := decide (op ≤ 2)
    let gen := op % 2 == 1
    let device := decide (op = 1 ∨ op = 3) && !firmIv
    if s.windowOk p j.part j.desc 64 45 = false then k 9
    else if op = 0 ∨ op = 7 then k 5
    else if tag < (if op ≤ 4 then 12 else 4) ∨ 1024 < al ∨ (gcm = false ∧ al ≠ 0) then k 4
    else
      Act.useKey p slot 0 (some (if gen then 0 else 1)) none (some j.part) 0 fun r =>
        match r with
        | .denied => k 5
        | .notReady => k 6
        | .noRandom => k 7
        | .ok key =>
          if op ≤ 4 ∧ firmIv = true ∧ s.flag (KEYS.POL p slot) KEYS.POL.IV_EXT = false then k 5
          else if device = true ∧ s.epochOk = false then k 10
          else if (s.jobMem p j.part (w.getD 1 0 % 2 ^ 40) al 45 && s.jobMem p j.part (w.getD 2 0 % 2 ^ 40) n 45 &&
              (!gcm || s.jobMem p j.part (w.getD 3 0 % 2 ^ 40) n 46) &&
              s.jobMem p j.part (w.getD 4 0 % 2 ^ 40) tag (if gen then 46 else 45) &&
              (!device || s.jobMem p j.part (j.desc + 40) 16 46)) = false then k 9
          else if fault then Act.seq (Act.datapathFault p 0 c) (k 8)
          else
            Act.jobRun p j.desc w key
              (if device then s.deviceIv p slot else bytesOf 6 (w.getD 5 0) ++ bytesOf 6 (w.getD 6 0)) k

/-- CIPH_JOB_DONE: the job of channel c of die p ends; fault is its unit's parity check (R519, R524). -/
def ciphJobDone (p c : Nat) (fault : Bool) : Act :=
  Act.get fun s =>
    Act.opt (s.job (jobKey p c)) fun j =>
      Act.jobEnd p c j fault fun res =>
        Act.all [
          Act.setJob (jobKey p c) none,
          Act.offerMon p 0x061 0 (s.usSince j.asked : Nat),
          Act.setFld (CIPH.JOB_STAT p c) CIPH.JOB_STAT.RESULT res,
          Act.count (CIPH.CNT p 0),
          Act.event (CIPH.EVT p) 2,
          Act.irq p (.direct j.part 2 c)]

/-! ## Flows on facet 61 (R525, R533) -/

/-- May a flow use a profile: full freshness (R533)? -/
def State.flowProf (s : State) (p i : Nat) : Bool := s.profE p i == 16 && s.profC p i == 32

/-- The frame of a flow leaves with a new payload (R525). -/
def Act.flowOut (p g : Nat) (fr : Frame) (payload : List Byte) : Act :=
  Act.get fun s =>
    let next := s.fld (CIPH.FLOW p g) CIPH.FLOW.NEXT_FACET
    let q := queueNo (next % 64) fr.cls (s.fld (CIPH.FLOW p g) CIPH.FLOW.NEXT_FLOW)
    let b := fr.data.take 18 ++ payload
    Act.engineOut p 61 (globalQueue (next / 64) q) (globalFacet p 61) fr.ts false (b ++ fcsOf b)

/-- CIPHER_FLOW: the next frame of facet 61 passes its flow (R525); fault is the parity check (R519). -/
def cipherFlow (p : Nat) (fault : Bool) : Act :=
  Act.get fun s =>
    Act.when (s.enabled p 0x69 = true)
      (Act.take p 61 (fun _ => true) fun q r =>
        let g := qFlow q
        let prof := s.fld (CIPH.FLOW p g) CIPH.FLOW.PROFILE
        let payload := (r.fr.data.drop 18).take (r.fr.data.length - 22)
        let fault := if fault then some (1, g) else none
        let fails := Act.count (CIPH.CNT p 4)
        let fail := Act.seq fails (Act.event (CIPH.EVT p) 1)
        match s.fld (CIPH.FLOW p g) CIPH.FLOW.OP with
        | 1 =>
          if r.fr.bus ∨ s.flowProf p prof = false then fails
          else
            Act.sealPdu p prof 1 1 fault (payload ++ List.replicate (s.trailer p prof) 0) fun x =>
              match x with
              | none => fails
              | some d => Act.seq (Act.count (CIPH.CNT p 2)) (Act.flowOut p g r.fr d)
        | 2 =>
          if r.fr.bus ∨ s.flowProf p prof = false then fail
          else
            Act.verified p prof 1 1 none fault payload fail fun d =>
              Act.seq (Act.count (CIPH.CNT p 3)) (Act.flowOut p g r.fr d)
        | _ => Act.count (CIPH.CNT p 5))

/-! ## Beacons (R535) -/

/-- SEAL_BEACON: transmit profile i of die p sends its beacon, first once step 11 has come and EPOCH_OK is 1, then every BEACON_MS (R535); fault is the parity check (R519). -/
def sealBeacon (p i : Nat) (fault : Bool) : Act :=
  Act.get fun s =>
    let w2 := s.prof p i 2
    let fmt := fget w2 SEAL.PROF_W2.BEACON_FMT
    Act.when (s.start.canDone = true ∧ s.epochOk = true ∧ s.profUse p i 0 = true ∧ bit (s.prof p i 0) 27 = true ∧
        (s.fresh (pk p i)).beaconAt.all (fun t => s.pastMs t (fget (s.prof p i 1) SEAL.PROF_W1.BEACON_MS)) = true)
      (Act.seq (Act.modFresh (pk p i) fun u => { u with beaconAt := some s.edges }) <| Act.sealTag p i 1 3 3 (sealUnit fault) [] fun r =>
        Act.opt r fun x =>
          let d := octets (bytesOf 6 x.1 ++ x.2)
          let pad := List.replicate (fdFit d.length - d.length) (BitVec.ofNat 8 (s.fld (SGW.CFG p) SGW.CFG.PAD))
          let xl := fmt == 3
          let data := if xl then d else d ++ pad
          Act.seq (Act.count (SEAL.CNT p 1))
            (Act.engineOut p 59 (fget w2 SEAL.PROF_W2.BEACON_DEST) (globalFacet p 59) (s.time p) true
              (mkBus (if xl then 2 else 1) (fget w2 SEAL.PROF_W2.BEACON_ID)
                (b2n (!xl && bit w2 29) * 128 + b2n (fmt == 2) * 32) (if xl then 0 else dlcOf 1 data.length) 0 0 0 0 data)))

end Sys2Proof.Machine
end

