-- ==== Sys2Proof/Machine/Fleet.lean ====
section
/-! DEFINITION. The domain engine: keep-alives, the domain table's commands, requests and replies on their way, and the serving
side of network boot (R694 to R706, R713). -/

namespace Sys2Proof.Machine

/-! ## Keep-alives (R695, R699 to R702) -/

/-- KEEPALIVE_SEND: KA_MS has passed since the last time; a keep-alive leaves on every link-up facet of FACETS_n (R701). -/
def keepaliveSend : Act :=
  Act.get fun s =>
    Act.when ((s.plx.kaAt.all fun t => s.pastMs t (s.fld (PLX.TIMING 0) PLX.TIMING.KA_MS)) = true)
      (Act.seq (Act.upd fun t => { t with plx := { t.plx with kaAt := some t.edges } })
        (Act.each s.ezFacets fun gf => Act.kaSend gf false))

/-- MESSAGE_RELAY of a keep-alive: on every other link-up facet of FACETS_n (R701). -/
def Act.kaRelay (m : EzMsg) : Act :=
  Act.get fun s =>
    Act.when (s.ezRelays m = true)
      (Act.opt s.groupMac fun da =>
        Act.each (s.ezFacets.filter fun gf => gf != m.facet) fun gf => Act.ezRelayed m fun b => Act.ezPost gf da b)

/-- The present mask of a package of the BUILD of a keep-alive (R585, R701). -/
def buildMask (b : Nat) : Nat := 2 ^ (b % 8) - 1 + (2 ^ (b / 16 % 8) - 1) * 16

/-- An accepted keep-alive updates its entry, the census and its partial network, and is relayed (R695, R699 to R701, R707):
first says that its freshness is the greatest, so that it sets the route. -/
def Act.kaAccept (m : EzMsg) (first : Bool) : Act :=
  Act.get fun s =>
    let fresh := s.ezAuth 1 && !m.noFresh
    let base : Member := { (s.member m.src).getD {} with
      serial := m.at 0 6, digest := m.at 6 6, gen := m.at 12 2, last := s.time 0, heard := true, dies := buildMask (m.at 18 1) }
    let u := if first && !m.noFresh then
        { base with route := some (m.facet, m.mac, s.fld (PLX.CFG 0) PLX.CFG.HOPS - m.hdr 3 1) }
      else base
    let v := if (s.member m.src).isNone && fresh then u.accept m else u
    Act.all [
      Act.plxCount 1,
      Act.setMember m.src (some v),
      Act.censusUpdate m.src m.facet,
      Act.pnSeen m.facet (m.at 14 2),
      Act.kaRelay m]

/-- DUP_ID: does a keep-alive carry an ID whose entry holds another serial while it is still heard (R695)? -/
def dupId (s : State) (m : EzMsg) : Bool := (s.member m.src).any fun u => s.memberHeard u && u.serial != m.at 0 6

/-- KEEPALIVE_RECEIVE: the first keep-alive of the inbox is handled; over says that it arrives beyond the engine's rate. -/
def keepaliveReceive (past : Bool) : Act :=
  Act.ezMember 1 (fun _ => true) past
    (fun m => Act.get fun s => Act.when (m.at 0 6 ≠ s.serial) (Act.plxEvent 2 m.src m.facet)) dupId Act.kaAccept

/-- CAN_KEEPALIVE_RECEIVE: a frame that CAN controller c of die p has received, where it is a keep-alive (R702). -/
def canKeepaliveReceive (p c : Nat) (b : List Byte) : Act :=
  Act.get fun s =>
    let id := bfId b
    let base := s.fld (PLX.CAN_KA 0) PLX.CAN_KA.ID
    let gf := globalFacet p (32 + c)
    Act.when (s.plxOn = true ∧ s.flag (PLX.CAN_KA 0) PLX.CAN_KA.EN = true ∧ bfFormat b = 0 ∧ bfFlag b 7 = true ∧
        base < id ∧ id ≤ base + 16383)
      (Act.seq (Act.pnSeen gf (bytesAt (bfData b) 2 2))
        (Act.when (bytesAt (bfData b) 6 2 ≠ foldDigest s.ownDigest)
          (Act.seq (Act.event (PLX.EVT 0) 0)
            (Act.setReg (PLX.LAST 0) (word [(PLX.LAST.DEVICE, id - base), (PLX.LAST.KIND, 8), (PLX.LAST.FACET, gf)])))))

/-! ## Requests and replies on their way (R700, R701, R705) -/

/-- The request tags in use: those of the Eyepiece paths and of the windows (R705). -/
def State.tagsUsed (s : State) : List Nat :=
  (s.pends.flatMap fun e => e.2.filterMap fun x => match x.st with
    | .remote id _ => some id
    | _ => none) ++
    (s.gw.winPends.flatMap fun e => e.2.filterMap fun x => x.tag) ++ (s.gw.winPosts.flatMap fun e => e.2.filterMap fun x => x.tag)

/-- The tag of the next request: the least one not in use (R705, log entry 36). -/
def State.nextTag (s : State) : Nat := ((List.range 256).find? fun n => !s.tagsUsed.contains n).getD 0

/-- A command for device dev leaves as a REQUEST (R694, R700, R705): k is given its tag, or none where it completes with
REMOTE_ERROR. -/
def Act.ezRequest (dev opcode addr data origin : Nat) (k : Option Nat → Act) : Act :=
  Act.get fun s =>
    if s.plxOn = false ∨ s.epochOk = false then k none
    else
      match s.ezRoute dev with
      | none => Act.all [Act.plxCount 8, Act.plxEvent 7 dev 0, k none]
      | some r =>
        let tag := s.nextTag
        Act.all [
          Act.plxCount 7,
          Act.ezMake 3 (s.fld (PLX.CFG 0) PLX.CFG.HOPS) dev
            (beBytes 1 opcode ++ beBytes 1 tag ++ beBytes 3 addr ++ beBytes 6 data ++ beBytes 1 origin)
            (fun b => Act.ezPost r.1 r.2 b),
          k (some tag)]

/-- A REPLY with a request tag, a reply code and data goes to the requester's route (R705, log entry 37). -/
def Act.ezReply (dev tag code : Nat) (data : List Byte) : Act :=
  Act.get fun s =>
    Act.opt (s.ezRoute dev) fun r =>
      Act.ezMake 4 (s.fld (PLX.CFG 0) PLX.CFG.HOPS) dev (beBytes 1 tag ++ beBytes 1 code ++ data) fun b => Act.ezPost r.1 r.2 b

/-- MESSAGE_RELAY of an accepted REQUEST or REPLY whose target is another device: toward the route of DST_ID (R701). -/
def Act.ezForward (m : EzMsg) : Act :=
  Act.get fun s =>
    Act.when (s.ezRelays m = true)
      (Act.opt (s.ezRoute (m.hdr 6 2 % 2 ^ 14)) fun r => Act.ezRelayed m fun b => Act.ezPost r.1 r.2 b)

/-- Take the first REQUEST (3) or REPLY (4); one for another device is relayed, k handles one for this device (R697 to R701). -/
def Act.ezCommand (ty : Nat) (past : Bool) (k : EzMsg → Act) : Act :=
  Act.ezMember ty (fun _ => true) past (fun _ => Act.skip) (fun _ _ => false) fun m _ =>
    Act.get fun s => if m.hdr 6 2 = s.devId ∨ m.hdr 6 2 = 0xFFFF then k m else Act.ezForward m

/-! ## The domain table's commands (R713) -/

/-- DT_CMD_READ and DT_CMD_REMOVE: a write of PLX.DT_CMD (R695, R713). -/
def dtCmd (ag : Agent) (v : Word) (k : Code → Act) : Act :=
  let a := PLX.DT_CMD 0
  Act.get fun s =>
    let id := fget v PLX.DT_CMD.ID
    let op := fget v PLX.DT_CMD.OP
    let done := fun (n : Nat) => Act.setReg a (word [(PLX.DT_CMD.ID, id), (PLX.DT_CMD.OP, op), (PLX.DT_CMD.RESULT, n)])
    if op = 3 then Act.badValue a ag k
    else if op = 0 then Act.seq (done (s.fld a PLX.DT_CMD.RESULT)) (k .ok)
    else
      match s.member id with
      | none => Act.seq (done 2) (k .ok)
      | some u =>
        if op = 2 then Act.all [Act.censusLeave id, Act.setMember id none, done 0, k .ok]
        else
          let r := u.route.getD (0, 0, 0)
          Act.all [
            Act.setReg (PLX.DT_W0 0) (BitVec.ofNat 48 u.serial),
            Act.setReg (PLX.DT_W1 0) (BitVec.ofNat 48 r.2.1),
            Act.setReg (PLX.DT_W2 0) (word [(PLX.DT_W2.FACET, r.1), (PLX.DT_W2.CENSUS, u.census.getD 0),
              (PLX.DT_W2.HEARD, b2n (s.memberHeard u)), (PLX.DT_W2.AGE_S, sat 65535 (s.leadAge u.last / 10 ^ 9)),
              (PLX.DT_W2.HOPS, r.2.2)]),
            Act.setReg (PLX.DT_W3 0) (word [(PLX.DT_W3.RENEWAL, u.renewal), (PLX.DT_W3.EPOCH, u.epoch)]),
            Act.setReg (PLX.DT_W4 0) (word [(PLX.DT_W4.SEQ, u.seq)]),
            done 0, k .ok]

/-! ## Serving a network boot (R706) -/

/-- The bytes of words i to i + n − 1 of the staged image, in slot format in the lead die's LPDDR5 (R101, R128, R706). -/
def State.stagedBytes (s : State) (i n : Nat) : List Byte :=
  s.memRead 0 (0x1000000000 + s.fld (PLX.SERVE 0) PLX.SERVE.BASE * 2 ^ 21 + 6 * i) (6 * n)

/-- Word i of the staged image. -/
def State.stagedWord (s : State) (i : Nat) : Word := BitVec.ofNat 48 (beNat (s.stagedBytes i 1))

/-- Does the engine serve boot messages that arrive on a facet (R706)? -/
def State.serves (s : State) (gf : Nat) : Bool :=
  s.enabled 0 0x72 && s.flag (PLX.SERVE 0) PLX.SERVE.EN && bit (s.reg (PLX.FACETS 0 (gf / 64))) (gf % 64)

/-- Is another requester being served: one heard within the 220 ms after which a requester has abandoned a chunk (R706, log
entry 38)? -/
def State.serveBusy (s : State) (gf serial : Nat) : Bool :=
  s.plx.serving.any fun e => (e.1 != gf || e.2.1 != serial) && decide (s.leadAge e.2.2 < 220000000)

/-- Note the requester being served. -/
def Act.serveNote (gf serial : Nat) : Act :=
  Act.upd fun s => { s with plx := { s.plx with serving := some (gf, serial, s.time 0) } }

/-- BOOT_REQ: the first boot request of the inbox is answered with an offer where the engine can serve it (R706); over says that
it arrives beyond the engine's rate. -/
def bootReq (past : Bool) : Act :=
  Act.ezTake (fun m => m.type == 6) fun m =>
    Act.get fun s =>
      let serial := m.at 0 6
      let w1 := s.stagedWord 1
      let want := s.fld (PLX.SERVE_SERIAL 0) PLX.SERVE_SERIAL.SERIAL
      let build := m.at 8 1
      if past then Act.plxCount 12
      else
        Act.when (s.serves m.facet = true ∧ s.serveBusy m.facet serial = false ∧ (want = 0 ∨ want = serial) ∧
            fget (s.stagedWord 0) ⟨16, 32⟩ = 0xFA1D1A6E ∧ fget w1 ⟨32, 3⟩ = build % 8 ∧ fget w1 ⟨36, 3⟩ = build / 16 % 8 ∧
            m.at 6 2 ≤ fget w1 ⟨0, 16⟩)
          (Act.seq (Act.serveNote m.facet serial)
            (Act.ezMake 7 0 0xFFFF (beBytes 2 (fget w1 ⟨0, 16⟩) ++ beBytes 4 (fget (s.stagedWord 3) ⟨0, 32⟩)) fun b =>
              Act.ezPost m.facet m.mac b))

/-- CHUNK_REQ: the first chunk request of the inbox is answered with its chunk, 200 words or those that are left (R706). -/
def chunkReq (past : Bool) : Act :=
  Act.ezTake (fun m => m.type == 8) fun m =>
    Act.get fun s =>
      let i := m.at 0 4
      let total := s.fld (PLX.SERVE 0) PLX.SERVE.WORDS
      let n := min 200 (total - 200 * i)
      if past then Act.plxCount 12
      else
        Act.opt s.plx.serving fun e =>
          Act.when (s.serves m.facet = true ∧ e.1 = m.facet ∧ n ≠ 0)
            (Act.all [
              Act.serveNote e.1 e.2.1,
              Act.plxCount 11,
              Act.ezMake 9 0 0xFFFF (beBytes 4 i ++ s.stagedBytes (200 * i) n) (fun b => Act.ezPost m.facet m.mac b)])

/-! ## Registers that read live (R712, R714) -/

/-- PLX.STAT (R712). -/
def State.plxStat (s : State) : Word :=
  let used := (List.range 16).filter fun k => (s.censusAt k).isSome
  let heard := s.memberList.filter fun m => s.memberHeard m.2
  word [(PLX.STAT.ALONE, b2n (s.censusCount 0 == 1)), (PLX.STAT.MEMBERS, heard.length + 1), (PLX.STAT.DIGESTS, used.length),
    (PLX.STAT.OVERFLOW, b2n (heard.any fun m => m.2.census.isNone))]

/-- CENSUS_A_k (R714). -/
def State.censusA (s : State) (k : Nat) : Word := BitVec.ofNat 48 (((s.censusAt k).map fun e => e.1).getD 0)

/-- CENSUS_B_k (R714). -/
def State.censusB (s : State) (k : Nat) : Word :=
  match s.censusAt k with
  | none => 0
  | some e =>
    word [(PLX.CENSUS_B.GEN, e.2), (PLX.CENSUS_B.COUNT, s.censusCount k), (PLX.CENSUS_B.VALID, 1),
      (PLX.CENSUS_B.OWN, b2n (e.1 == s.ownDigest)), (PLX.CENSUS_B.COMPAT, b2n (s.compatible e.1 e.2))]

end Sys2Proof.Machine
end

