-- ==== Sys2Proof/Machine/Loupe.lean ====
section
/-! DEFINITION. Loupe monitors (R715 to R721, R740 to R742). -/

namespace Sys2Proof.Machine

/-- A field of MCFG_A of monitor m (R741). -/
def State.mcfg (s : State) (p m : Nat) (f : Fld) : Nat := s.fld (LOUPE.MCFG_A p m) f

/-- A word as a monitor compares it (R715). -/
def sampleInt (signed : Bool) (v : Word) : Int := if signed then v.toInt else v.toNat

/-- The bin of a distance from BASE, with whether the sample lies below or above the bins (R716). -/
def binOf (log : Bool) (width : Nat) (d : Int) : Nat × Bool × Bool :=
  if d < 0 then (0, true, false)
  else
    let n := d.toNat
    if log then ((if n = 0 then 0 else min 63 (Nat.log2 n + 1)), false, false)
    else if n < 64 * width then (n / width, false, false) else (63, false, true)

/-- SUM with one more sample: saturating, as the monitor's numbers are (R715). -/
def sumAdd (signed : Bool) (a v : Int) : Int × Bool :=
  let t := a + v
  let lo : Int := if signed then -(2 ^ 47) else 0
  let hi : Int := if signed then 2 ^ 47 - 1 else 2 ^ 48 - 1
  if t < lo then (lo, true) else if hi < t then (hi, true) else (t, false)

/-- Does a sample pass the threshold's test (R720)? -/
def State.thrPass (s : State) (p m : Nat) (v : Word) : Bool :=
  let g := decide (s.mcfg p m LOUPE.MCFG_A.SIGNED = 1)
  let a := sampleInt g v
  let t := sampleInt g (s.reg (LOUPE.MCFG_D p m))
  if s.mcfg p m LOUPE.MCFG_A.THR_DIR = 1 then decide (a < t) else decide (t < a)

/-- Monitor m of die p takes a sample: SIGNED, LOG, BASE and WIDTH from its registers (R715 to R717). -/
def State.sampled (s : State) (p m : Nat) (v : Word) (u : Monitor) : Monitor :=
  let g := decide (s.mcfg p m LOUPE.MCFG_A.SIGNED = 1)
  let log := decide (s.mcfg p m LOUPE.MCFG_A.LOG = 1)
  let a := sampleInt g v
  let b := binOf log (s.fld (LOUPE.MCFG_C p m) LOUPE.MCFG_C.WIDTH) (a - sampleInt g (s.reg (LOUPE.MCFG_B p m)))
  let t := sumAdd g u.sum a
  { u with
    none := false
    low := if u.none ∨ a < sampleInt g u.low then v else u.low
    high := if u.none ∨ sampleInt g u.high < a then v else u.high
    count := sat (2 ^ 48 - 1) (u.count + 1)
    sum := t.1
    sumSat := u.sumSat || t.2
    under := sat (2 ^ 48 - 1) (u.under + b2n b.2.1)
    past := sat (2 ^ 48 - 1) (u.past + b2n b.2.2)
    bins := Sparse.put (fun _ => 0) b.1 (sat (2 ^ 48 - 1) (Sparse.get (fun _ => 0) u.bins b.1 + 1)) u.bins
    passed := s.thrPass p m v }

/-- THRESHOLD_CROSSING: event, interrupt and, where TRIG = 1, a trigger of the recorder (R720). -/
def Act.crossing (p m : Nat) : Act :=
  Act.get fun s =>
    Act.all [
      Act.eventIrq (LOUPE.EVT p) 0,
      Act.setReg (LOUPE.LAST p) (word [(LOUPE.LAST.MON, m)]),
      Act.when (s.mcfg p m LOUPE.MCFG_A.TRIG = 1) (Act.modRecorder p fun r => { r with trigs := r.trigs ++ [(2, s.time p)] })]

/-- Monitor m of die p is offered a value; taken says that it can take it (R715, R718, R720). -/
def Act.sample (p m : Nat) (v : Word) (taken : Bool) : Act :=
  Act.get fun s =>
    Act.when (s.enabled p 0x80 = true ∧ s.mcfg p m LOUPE.MCFG_A.EN = 1)
      (if taken then
        Act.seq (Act.modMtr (monKey p m) fun u => s.sampled p m v u)
          (Act.when (s.mcfg p m LOUPE.MCFG_A.THR_EN = 1 ∧ s.thrPass p m v = true ∧ (s.mtr (monKey p m)).passed = false)
            (Act.crossing p m))
       else Act.modMtr (monKey p m) fun u => { u with skipped := sat (2 ^ 48 - 1) (u.skipped + 1) })

/-- FEED_VAL: a value written is offered to every monitor of source 0x0FF whose ARG is FEED_ARG (R721). -/
def feedVal (p : Nat) (v : Word) (k : Code → Act) : Act :=
  Act.get fun s =>
    Act.all [
      Act.store (LOUPE.FEED_VAL p) v,
      Act.each ((List.range 256).filter fun m =>
        s.mcfg p m LOUPE.MCFG_A.SRC == 0x0FF && s.mcfg p m LOUPE.MCFG_A.ARG == s.fld (LOUPE.FEED_ARG p) LOUPE.FEED_ARG.ARG)
        (fun m => Act.sample p m v true),
      k .ok]

/-- A monitor after a clear or an MCFG write, at a die time (R717, R719). -/
def Monitor.cleared (u : Monitor) (now : Nat) : Monitor := { seq := (u.seq + 1) % 65536, fromT := now }

/-- The number of arguments that a source code takes, below which its ARG must lie; none for a code that no chapter defines
(R250, R292, R387, R439, R480, R550, R653, R721). First of the range, and past its last. -/
def sourceArgs (c : Nat) : Option (Nat × Nat) :=
  if 0x010 ≤ c ∧ c ≤ 0x01E then some (0, 65536)
  else if c = 0x020 ∨ c = 0x021 then some (0, 16384)
  else if c = 0x022 ∨ c = 0x023 then some (0, 65536)
  else if 0x028 ≤ c ∧ c ≤ 0x02F then some (0, 64)
  else if 0x030 ≤ c ∧ c ≤ 0x034 then some (0, 32)
  else if c = 0x041 ∨ c = 0x042 ∨ c = 0x043 then some (32, 48)
  else if c = 0x040 ∨ c = 0x044 ∨ c = 0x045 then some (32, 56)
  else if c = 0x048 then some (48, 56)
  else if c = 0x052 ∨ c = 0x063 then some (0, 4096)
  else if (0x050 ≤ c ∧ c ≤ 0x054) ∨ (0x060 ≤ c ∧ c ≤ 0x062) then some (0, 65536)
  else if 0x070 ≤ c ∧ c ≤ 0x074 then some (0, 128)
  else if c = 0x075 ∨ c = 0x076 then some (0, 4)
  else if c = 0x080 ∨ c = 0x081 ∨ c = 0x0FF then some (0, 65536)
  else none

/-- Is MCFG_A refused (R721)? A source code of 0 with EN = 0 is the register's own reset value (log entry 39). -/
def mcfgABad (v : Word) (width : Nat) : Bool :=
  let c := fget v LOUPE.MCFG_A.SRC
  let a := fget v LOUPE.MCFG_A.ARG
  (match sourceArgs c with
   | none => !(c == 0 && a == 0 && fget v LOUPE.MCFG_A.EN == 0)
   | some r => !(decide (r.1 ≤ a) && decide (a < r.2))) || (fget v LOUPE.MCFG_A.LOG == 0 && width == 0)

/-- MCFG_WRITE: a write of register j (0 to 3 for A to D) of monitor m of die p (R717, R719, R721, R741). -/
def mcfgWrite (ag : Agent) (p m j : Nat) (v : Word) (k : Code → Act) : Act :=
  let a := LOUPE.MCFG_A p m + j
  Act.get fun s =>
    if (j = 0 ∧ mcfgABad v (s.fld (LOUPE.MCFG_C p m) LOUPE.MCFG_C.WIDTH) = true) ∨
        (j = 2 ∧ fget v LOUPE.MCFG_C.WIDTH = 0 ∧ s.mcfg p m LOUPE.MCFG_A.LOG = 0) then Act.badValue a ag k
    else
      Act.all [Act.store a v, Act.modMtr (monKey p m) (fun u => u.cleared (s.time p)),
        Act.upd (fun t => { t with mon := { t.mon with offered := t.mon.offered.filter fun e => e.1 != monKey p m } }), k .ok]

/-- The registers of a snapshot bank that hold its bins (R742). -/
def snapBin (p b i : Nat) : Nat := ra p 0x80 (0x1010 + 256 * b + i)

/-- The state of monitor m goes into snapshot bank b (R719, R742). -/
def Act.snapshot (p m b : Nat) : Act :=
  Act.get fun s =>
    let u := s.mtr (monKey p m)
    let put := fun (i n : Nat) => Act.setReg (LOUPE.SNAP_HDR p b + i) (BitVec.ofNat 48 n)
    Act.all [
      Act.setReg (LOUPE.SNAP_HDR p b) (word [(LOUPE.SNAP_HDR.MON, m), (LOUPE.SNAP_HDR.SEQ, u.seq),
        (LOUPE.SNAP_HDR.NO_SAMPLE, b2n u.none), (LOUPE.SNAP_HDR.SUM_SAT, b2n u.sumSat),
        (LOUPE.SNAP_HDR.SIGNED, s.mcfg p m LOUPE.MCFG_A.SIGNED), (LOUPE.SNAP_HDR.LOG, s.mcfg p m LOUPE.MCFG_A.LOG),
        (LOUPE.SNAP_HDR.VALID, 1), (LOUPE.SNAP_HDR.SRC, s.mcfg p m LOUPE.MCFG_A.SRC)]),
      put 1 u.low.toNat, put 2 u.high.toNat, put 3 u.count, put 4 (ofSigned 48 u.sum), put 5 u.under, put 6 u.past, put 7 u.skipped,
      put 8 (s.time p), put 9 u.fromT,
      Act.each (List.range 64) fun i => Act.setReg (snapBin p b i) (BitVec.ofNat 48 (Sparse.get (fun _ => 0) u.bins i))]

/-- SNAP_CMD_SNAPSHOT and SNAP_CMD_SNAPSHOT_CLEAR: a write of LOUPE.SNAP_CMD (R719, R740). -/
def snapCmd (ag : Agent) (p : Nat) (v : Word) (k : Code → Act) : Act :=
  let a := LOUPE.SNAP_CMD p
  let m := fget v LOUPE.SNAP_CMD.MON
  let b := fget v LOUPE.SNAP_CMD.BANK
  let op := fget v LOUPE.SNAP_CMD.OP
  Act.get fun s =>
    if op = 3 then Act.badValue a ag k
    else
      Act.all [
        Act.setReg a (word [(LOUPE.SNAP_CMD.MON, m), (LOUPE.SNAP_CMD.BANK, b), (LOUPE.SNAP_CMD.OP, op)]),
        Act.when (op ≠ 0) (Act.snapshot p m b),
        Act.when (op = 2) (Act.modMtr (monKey p m) fun u => u.cleared (s.time p)),
        k .ok]

end Sys2Proof.Machine
end

