-- ==== Sys2Proof/Machine/Recorder.lean ====
section
/-! DEFINITION. The recorder (R725 to R739, R743 to R747): its ring, chunks, records and superblock, trigger windows, commands to
the drive, and read-back. What the drive holds is outside the package: its answers are the commands' operands. -/

namespace Sys2Proof.Machine

/-! ## The ring (R727, R729, R730) -/

/-- BASE of the region in bytes (R727). -/
def State.recBase (s : State) (p : Nat) : Nat := s.fld (PSCP.RING p) PSCP.RING.BASE * 2 ^ 30

/-- The chunks of the data area: 128 KiB each, from BASE + 1 MiB (R729). -/
def State.recChunks (s : State) (p : Nat) : Nat := s.fld (PSCP.RING p) PSCP.RING.SIZE * 8192 - 8

/-- The number of the chunk that holds a recorder address. -/
def State.chunkOf (s : State) (p a : Nat) : Nat := (a - (s.recBase p + 2 ^ 20)) / 131072

/-- The address of a chunk. -/
def State.chunkAt (s : State) (p i : Nat) : Nat := s.recBase p + 2 ^ 20 + 131072 * i

/-- Chunks from i on to j, around a ring of n. -/
def ringSpan (n i j : Nat) : Nat := (j + n - i) % n

/-- The episodes of the table that are valid, with their entries (R735). -/
def Recorder.valid (r : Recorder) : List (Nat × Episode) :=
  (List.range 16).filterMap fun i => (r.eps.getD i none).map fun e => (i, e)

/-- The chunks of an episode: up to END, or while it is open to the chunk being filled (R735). -/
def State.epLen (s : State) (p : Nat) (r : Recorder) (e : Episode) : Nat :=
  let n := s.recChunks p
  if e.closed then (if e.start = e.stop then n else ringSpan n (s.chunkOf p e.start) (s.chunkOf p e.stop))
  else ringSpan n (s.chunkOf p e.start) (s.chunkOf p r.fill) + 1

/-- The closed episode that holds chunk i (R730). -/
def State.epHolding (s : State) (p : Nat) (r : Recorder) (i : Nat) : Option Episode :=
  ((r.valid.map (·.2)).find? fun e => e.closed && decide (ringSpan (s.recChunks p) (s.chunkOf p e.start) i < s.epLen p r e))

/-- The first chunk from i on that no closed episode holds; the first number bounds the episodes skipped (R730). -/
def State.skipFrom (s : State) (p : Nat) (r : Recorder) : Nat → Nat → Nat
  | 0, i => i
  | k + 1, i =>
    match s.epHolding p r i with
    | none => i
    | some e => s.skipFrom p r k (s.chunkOf p e.stop)

/-- Is the chunk being filled protected, so that nothing can be written (R738)? -/
def State.recBlocked (s : State) (p : Nat) : Bool :=
  (s.epHolding p (s.recorder p) (s.chunkOf p (s.recorder p).fill)).isSome

/-- The bytes of a full chunk (R730). -/
def State.chunkBytes (s : State) (p : Nat) (r : Recorder) : List Byte :=
  beBytes 4 0x7E5C0C42 ++ beBytes 1 1 ++ beBytes 1 p ++ beBytes 2 (s.fld (IMG.ID 0) IMG.ID.DEVICE_ID) ++
    beBytes 2 (s.fld (IMG.EPOCH 0) IMG.EPOCH.EPOCH) ++ beBytes 6 r.chunkNo ++ beBytes 4 r.first ++ beBytes 12 0 ++ r.cur

/-- The chunk being filled is full: it waits to be written, and the next one begins, in ascending address around the ring, past
closed episodes (R730, R731). -/
def State.nextChunk (s : State) (p : Nat) (r : Recorder) : Recorder :=
  let n := s.recChunks p
  let j := s.skipFrom p r 16 ((s.chunkOf p r.fill + 1) % n)
  { r with
    full := r.full ++ [(r.fill, s.chunkBytes p r)], fill := s.chunkAt p j, chunkNo := r.chunkNo + 1, cur := [], first := 0
    since := none }

/-- Put bytes of a record into the chunk being filled and, as far as they reach, the next ones (R730); start says that they
begin with its header. -/
def State.putRec (s : State) (p : Nat) : Nat → Recorder → Bool → List Byte → Recorder
  | 0, r, _, _ => r
  | k + 1, r, start, b =>
    if b = [] then r
    else
      let room := 131040 - r.cur.length
      let u := { r with
        cur := r.cur ++ b.take room
        first := if start ∧ r.first = 0 then 32 + r.cur.length else r.first
        since := some (r.since.getD (s.time p)) }
      if b.length < room then u else s.putRec p k (s.nextChunk p u) false (b.drop room)

/-! ## Records (R732) -/

/-- What a record's header holds beside its length and time. -/
structure RecHead where
  type : Nat := 0
  flags : Nat := 0
  src : Nat := 0
  cls : Nat := 0
  sel : Nat := 0
  episode : Nat := 0
  dest : Nat := 0
  orig : Nat := 0
  fid : Nat := 0
  cap : Nat := 0
  lost : Nat := 0
  deriving DecidableEq, Repr

/-- A record of n bytes in all without its content: the header at die time t (R732). -/
def State.recHeader (s : State) (h : RecHead) (n t : Nat) : List Byte :=
  let time := if s.mapped then s.ptpOf t else (0, t % 2 ^ 32)
  beBytes 1 h.type ++ beBytes 1 (h.flags + 4 * b2n (!s.mapped)) ++ beBytes 2 n ++ beBytes 6 time.1 ++ beBytes 4 time.2 ++
    beBytes 1 h.src ++ beBytes 1 h.cls ++ beBytes 1 h.sel ++ beBytes 1 h.episode ++ beBytes 2 h.dest ++ beBytes 2 h.orig ++
    beBytes 2 h.fid ++ beBytes 2 h.cap ++ beBytes 6 h.lost

/-- A record with its content, filled with zeros to a multiple of 8 (R732). -/
def State.recBytes (s : State) (h : RecHead) (t : Nat) (body : List Byte) : List Byte :=
  let n := 8 * cdiv (32 + body.length) 8
  s.recHeader h n t ++ padTo (n - 32) body

/-- PAD records over n bytes: REC_LEN has 16 bits, so that a long rest takes more than one, and a rest shorter than a header is
zeros (R731, R732, log entry 40). The first number bounds the records. -/
def State.padRecs (s : State) (t : Nat) : Nat → Nat → List Byte
  | 0, n => List.replicate n 0
  | k + 1, n =>
    if n < 32 then List.replicate n 0
    else
      let m := if n ≤ 65528 then n else 32768
      s.recHeader { type := 4 } m t ++ List.replicate (m - 32) 0 ++ s.padRecs t k (n - m)

/-- Write a record: counted, and placed where the chunk being filled stands (R730, R732). -/
def Act.putRecord (p : Nat) (h : RecHead) (t : Nat) (body : List Byte) : Act :=
  Act.get fun s =>
    let b := s.recBytes h t body
    Act.all [
      Act.modRecorder p (fun r => s.putRec p 3 r true b),
      Act.count (PSCP.CNT p 0),
      Act.countBy (PSCP.CNT p 1) b.length]

/-- End the chunk being filled with a PAD record, where it holds something (R731). -/
def Act.endChunk (p : Nat) : Act :=
  Act.get fun s =>
    let r := s.recorder p
    Act.when (r.cur ≠ [] ∧ s.recBlocked p = false)
      (Act.modRecorder p fun r => s.putRec p 2 r (decide (32 ≤ 131040 - r.cur.length)) (s.padRecs (s.time p) 4 (131040 - r.cur.length)))

/-! ## Commands to the drive (R725, R729, R731) -/

/-- A command to the NVMe controller (R725). -/
def Act.nvme (p : Nat) (c : NvCmd) (addr len : Nat) (b : List Byte) : Act :=
  let op := match c with
    | .write => 0
    | .read => 1
    | .flush => 2
  Act.seq (Act.emit (.nvme p op addr len b)) <| Act.get fun s => let t := s.edges; (Act.modRecorder p fun r => { r with cmds := r.cmds ++ [(c, t)] })

/-- CHUNK_WRITE: the oldest full chunk of die p is written to the drive, within the 64 commands of the queue pair (R725, R731). -/
def chunkWrite (p : Nat) : Act :=
  Act.get fun s =>
    let r := s.recorder p
    Act.when (r.cmds.length < 64)
      (Act.opt r.full.head? fun c =>
        Act.all [
          Act.modRecorder p (fun r => { r with full := r.full.drop 1 }),
          Act.count (PSCP.CNT p 8),
          Act.tallyMon p 0x080 0 131072,
          Act.nvme p .write c.1 131072 c.2])

/-- Write every full chunk; the number bounds them. -/
def Act.writeOut (p : Nat) : Nat → Act
  | 0 => Act.skip
  | n + 1 => Act.seq (chunkWrite p) (Act.writeOut p n)

/-- An episode entry of the superblock (R729). -/
def epBytes : Option Episode → List Byte
  | none => List.replicate 32 0
  | some e =>
    beBytes 6 e.start ++ beBytes 6 e.trig ++ beBytes 6 e.stop ++ beBytes 6 e.sec ++ beBytes 4 e.ns ++
      beBytes 1 (1 + 2 * b2n e.closed + 4 * b2n e.trunc) ++ beBytes 1 e.source ++ beBytes 2 0

/-- The address and the number of the next chunk to write: the oldest full one that waits, or the one being filled (R729, R744). -/
def Recorder.nextWrite (r : Recorder) : Nat × Nat :=
  match r.full with
  | [] => (r.fill, r.chunkNo)
  | c :: _ => (c.1, r.chunkNo - r.full.length)

/-- A superblock copy (R729). -/
def State.superblock (s : State) (r : Recorder) (seq : Nat) : List Byte :=
  let b := beBytes 4 0x7E5C0B10 ++ beBytes 6 seq ++ beBytes 6 r.nextWrite.1 ++ beBytes 6 r.nextWrite.2 ++
    beBytes 2 (s.fld (IMG.EPOCH 0) IMG.EPOCH.EPOCH) ++ (List.range 16).flatMap fun i => epBytes (r.eps.getD i none)
  b ++ beBytes 4 (crc32 b)

/-- Write the superblock: the copy with the older SB_SEQ (R729). -/
def Act.writeSuper (p : Nat) : Act :=
  Act.get fun s =>
    let r := s.recorder p
    let at1 := 1 - r.sbAt
    Act.all [
      Act.modRecorder p (fun r => { r with sbSeq := r.sbSeq + 1, sbAt := at1 }),
      Act.count (PSCP.CNT p 8),
      Act.nvme p .write (s.recBase p + 4096 * at1) 540 (s.superblock r (r.sbSeq + 1))]

/-- A flush: the chunk is ended and written, the drive flushed, the superblock written (R731). -/
def Act.recFlush (p : Nat) : Act :=
  Act.seq (Act.endChunk p)
    (Act.get fun s => Act.all [Act.writeOut p (s.recorder p).full.length, Act.nvme p .flush 0 0 [], Act.writeSuper p])

/-! ## States (R726) -/

/-- The recorder records (R726). -/
def Recorder.runs (r : Recorder) : Bool := r.st == .running || r.st == .post

/-- A read-back in progress ends with a result (R739). -/
def Act.rdEnd (p result : Nat) : Act :=
  Act.get fun s =>
    Act.when (s.fld (PSCP.RD_CMD p) PSCP.RD_CMD.RESULT = 1)
      (Act.seq (Act.setFld (PSCP.RD_CMD p) PSCP.RD_CMD.RESULT result)
        (Act.modRecorder p fun r => { r with rdPart := none, cmds := r.cmds.eraseP fun c => c.1 == .read }))

/-- The recorder enters ERROR with a KIND and the status of the failing command (R726, R744). -/
def Act.recFail (p kind status : Nat) : Act :=
  Act.all [
    Act.rdEnd p 4,
    Act.modRecorder p (fun r =>
      { r with
        st := .error, cur := [], first := 0, since := none, full := [], cmds := []
        width := if kind = 1 ∨ kind = 7 ∨ kind = 9 then 0 else r.width
        speed := if kind = 1 ∨ kind = 7 ∨ kind = 9 then 0 else r.speed }),
    Act.event (PSCP.EVT p) 0,
    Act.setReg (PSCP.LAST_ERR p) (word [(PSCP.LAST_ERR.KIND, kind), (PSCP.LAST_ERR.STATUS, status)])]

/-- PSCP is enabled: link training, or OFF where island 38 does not run (R72, R726). -/
def Act.recEnable (p : Nat) : Act :=
  Act.get fun s => Act.when (s.clk.internalOnly = false) (Act.modRecorder p fun r => { r with st := .link, linkAt := s.edges })

/-- PSCP is disabled: records taken are written, the superblock is written, and the controller is shut down (R726). -/
def Act.recDisable (p : Nat) : Act :=
  Act.get fun s =>
    let st := (s.recorder p).st
    Act.all [
      Act.when ((s.recorder p).runs = true ∨ st = .stopped) (Act.recFlush p),
      Act.rdEnd p 4,
      Act.modRecorder p (fun r =>
        { r with st := .off, cur := [], first := 0, since := none, full := [], cmds := [], width := 0, speed := 0 })]

/-- Island 38 stops: a recorder that has left OFF enters ERROR (R72, R726). -/
def Act.recClockLost (p : Nat) : Act :=
  Act.get fun s => Act.when ((s.recorder p).st ≠ .off) (Act.recFail p 9 0)

/-- RECORDER_LINK_UP: the link comes up with a width and a speed code (R725, R726). -/
def recorderLinkUp (p width speed : Nat) : Act :=
  Act.get fun s =>
    Act.when ((s.recorder p).st = .link ∧ (width = 1 ∨ width = 2 ∨ width = 4) ∧ 1 ≤ speed ∧ speed ≤ 4)
      (Act.modRecorder p fun r => { r with st := .init, width := width, speed := speed })

/-- RECORDER_LINK_TIMEOUT: 100 ms pass in LINK without a link (R726). -/
def recorderLinkTimeout (p : Nat) : Act :=
  Act.get fun s =>
    Act.when ((s.recorder p).st = .link ∧ s.pastMs (s.recorder p).linkAt 100 = true) (Act.recFail p 1 0)

/-- RECORDER_INIT_DONE: the controller's readiness, the bytes of a block of its LBA format, and the blocks of its namespace are
known (R725, R726, R728). A ring of size 0 is unused: RUNNING is not reached (R743). -/
def recorderInitDone (p : Nat) (ready : Bool) (lba blocks : Nat) : Act :=
  Act.get fun s =>
    let size := s.fld (PSCP.RING p) PSCP.RING.SIZE
    Act.when ((s.recorder p).st = .init ∧ size ≠ 0)
      (if ready = false then Act.recFail p 2 0
       else if lba ≠ 512 ∧ lba ≠ 4096 then Act.recFail p 3 0
       else if blocks < (s.reg (PSCP.NS_OFFSET p)).toNat + size * 2 ^ 30 / lba then Act.recFail p 4 0
       else Act.modRecorder p fun r => { r with st := .resume })

/-- Is a superblock copy valid (R729)? -/
def sbValid (b : List Byte) : Bool := bytesAt b 0 4 == 0x7E5C0B10 && decide (540 ≤ b.length) && bytesAt b 536 4 == crc32 (b.take 536)

/-- Entry i of the episode table of a superblock (R729). -/
def sbEpisode (b : List Byte) (i : Nat) : Option Episode :=
  let o := 24 + 32 * i
  let f := bytesAt b (o + 28) 1
  if f % 2 = 1 then
    some { start := bytesAt b o 6, trig := bytesAt b (o + 6) 6, stop := bytesAt b (o + 12) 6, sec := bytesAt b (o + 18) 6
           ns := bytesAt b (o + 24) 4, closed := f / 2 % 2 == 1, trunc := f / 4 % 2 == 1, source := bytesAt b (o + 29) 1 }
  else none

/-- WPTR moves past the chunks that follow in writing order, as their headers say: right magic, the superblock's boot epoch, the
next CHUNK_NO (R736). -/
def State.walkChunks (s : State) (p epoch : Nat) : List (List Byte) → Recorder → Recorder
  | [], r => r
  | h :: l, r =>
    if bytesAt h 0 4 = 0x7E5C0C42 ∧ bytesAt h 8 2 = epoch ∧ bytesAt h 10 6 = r.chunkNo then
      s.walkChunks p epoch l
        { r with fill := s.chunkAt p (s.skipFrom p r 16 ((s.chunkOf p r.fill + 1) % s.recChunks p)), chunkNo := r.chunkNo + 1 }
    else r

/-- An episode found open is closed at WPTR with TRUNC (R736). -/
def closeFound (fill : Nat) (o : Option Episode) : Option Episode :=
  o.map fun e => if e.closed then e else { e with stop := fill, closed := true, trunc := true }

/-- RECORDER_RESUME: the two superblock copies and the headers of the chunks at and after WPTR have been read; the recorder
restores its ring and runs, with a START record (R736). -/
def recorderResume (p : Nat) (a b : List Byte) (heads : List (List Byte)) : Act :=
  Act.get fun s =>
    let sb := if sbValid a ∧ (sbValid b = false ∨ bytesAt b 4 6 ≤ bytesAt a 4 6) then some (a, 0)
      else if sbValid b then some (b, 1) else none
    Act.when ((s.recorder p).st = .resume)
      (Act.all [
        (match sb with
         | none =>
           Act.seq
             (Act.when ((heads.head?.any fun h => bytesAt h 0 4 == 0x7E5C0C42) = true) (Act.event (PSCP.EVT p) 3))
             (Act.modRecorder p fun r =>
               { r with fill := s.chunkAt p 0, chunkNo := 0, sbSeq := 0, sbAt := 1, eps := [], openEp := none })
         | some (c, i) =>
           Act.modRecorder p fun r =>
             let u := s.walkChunks p (bytesAt c 22 2) heads
               { r with fill := bytesAt c 10 6, chunkNo := bytesAt c 16 6, sbSeq := bytesAt c 4 6, sbAt := i, openEp := none
                        eps := (List.range 16).map (sbEpisode c) }
             { u with eps := u.eps.map (closeFound u.fill) }),
        Act.get fun t => Act.when ((t.recorder p).eps.any (fun o => o.any Episode.trunc) = true) (Act.writeSuper p),
        Act.modRecorder p (fun r => { r with st := .running }),
        Act.putRecord p { type := 5, lost := s.fld (IMG.ID 0) IMG.ID.DEVICE_ID * 2 ^ 32 + s.fuse.serial % 2 ^ 32 } (s.time p) []])

/-! ## Taking frames (R732 to R734) -/

/-- LOSS_RECORD of a global queue of facet 62: the frames lost, counted from 0 again (R734). -/
def Act.lossRecord (p q : Nat) : Act :=
  Act.get fun s =>
    Act.when (s.recLost q ≠ 0)
      (Act.all [
        Act.putRecord p { type := 2, dest := q, lost := s.recLost q } (s.time p) [],
        Act.count (PSCP.CNT p 2),
        Act.setRecLost q 0])

/-- The FRAME record of a recorder copy (R732). -/
def Act.frameRecord (p : Nat) (fr : Frame) : Act :=
  let c := fr.copy.getD {}
  let body := if fr.bus then fr.data else fr.data.take (fr.data.length - 4)
  let cap := if c.snap = 0 then body else body.take c.snap
  Act.putRecord p
    { type := 1, flags := b2n c.egress + 2 * b2n (decide (cap.length < body.length)), src := fr.src, cls := fr.cls, sel := c.sel
      dest := if c.egress then c.queue else 0, orig := body.length, fid := fr.fid, cap := cap.length }
    c.time cap

/-- The open episode closes (R738). -/
def Act.closeEpisode (p : Nat) (trunc : Bool) : Act :=
  Act.get fun s =>
    Act.opt (s.recorder p).openEp fun o =>
      Act.all [
        Act.when (trunc = false) (Act.endChunk p),
        Act.modRecorder p (fun r =>
          { r with
            eps := r.eps.modify o.1 fun e => e.map fun e => { e with stop := r.fill, closed := true, trunc := trunc }
            openEp := none, fired := []
            st := if s.fld (PSCP.CFG p) PSCP.CFG.MODE = 1 then .stopped else .running }),
        Act.modRecorder p (fun r => { r with fill := s.chunkAt p (s.skipFrom p r 16 (s.chunkOf p r.fill)) }),
        Act.get fun t => Act.writeOut p (t.recorder p).full.length,
        Act.nvme p .flush 0 0 [],
        Act.writeSuper p,
        Act.eventIrq (PSCP.EVT p) 1]

/-- The writer reaches the START of the open episode: it closes early, with TRUNC (R738). -/
def Act.checkReach (p was : Nat) : Act :=
  Act.get fun s =>
    let r := s.recorder p
    Act.opt r.openEp fun o =>
      Act.opt (r.eps.getD o.1 none) fun e => Act.when (r.fill ≠ was ∧ r.fill = e.start) (Act.closeEpisode p true)

/-- RECORD_TAKE: the recorder takes a frame from facet 62 and forms its record; in ERROR it discards it (R732 to R734). -/
def recordTake (p : Nat) : Act :=
  Act.get fun s =>
    let r := s.recorder p
    if s.enabled p 0x81 = false then Act.skip
    else if r.st = .error then Act.take p 62 (fun _ => true) fun _ _ => Act.count (PSCP.CNT p 4)
    else
      Act.when (r.runs = true ∧ s.recBlocked p = false)
        (Act.take p 62 (fun _ => true) fun q u =>
          Act.all [Act.lossRecord p (globalQueue p q), Act.frameRecord p u.fr, Act.checkReach p r.fill])

/-- RECORDER_FLUSH: FLUSH_MS have passed since the chunk first held records, or since a loss that no record has told (R731, R734). -/
def recorderFlush (p : Nat) : Act :=
  Act.get fun s =>
    let r := s.recorder p
    let late := r.since.any fun t => Nat.ble (s.fld (PSCP.CFG p) PSCP.CFG.FLUSH_MS * 1000000) ((s.time p + 2 ^ 48 - t) % 2 ^ 48)
    let lost := ((List.range 256).map fun i => globalQueue p (62 * 256 + i)).filter fun q => s.recLost q != 0
    Act.when (r.runs = true ∧ s.recBlocked p = false ∧ (late = true ∨ lost ≠ []))
      (Act.all [Act.each lost (Act.lossRecord p), Act.recFlush p, Act.checkReach p r.fill])

/-- NVME_COMPLETION: command i of those outstanding completes (kind 0), or fails: 5 with an error status, 6 when 2 s have passed
without an answer, 8 with a fatal controller status (R726). -/
def nvmeCompletion (p i kind status : Nat) : Act :=
  Act.get fun s =>
    let r := s.recorder p
    Act.opt r.cmds[i]? fun c =>
      if c.1 = .read ∨ (kind = 6 ∧ s.pastMs c.2 2000 = false) then Act.skip
      else
        Act.seq (b := Act.when (c.1 = .write) (Act.offerMon p 0x081 0 (s.usSince c.2 : Nat))) <|
        Act.seq (Act.modRecorder p fun r => { r with cmds := r.cmds.eraseIdx i })
          (Act.when (kind = 5 ∨ kind = 6 ∨ kind = 8)
            (Act.seq (Act.count (PSCP.CNT p 9)) (Act.when (r.runs = true) (Act.recFail p kind (status % 32768)))))

/-- RECORDER_LINK_LOST: the link to the drive drops while the recorder records (R726). -/
def recorderLinkLost (p : Nat) : Act := Act.get fun s => Act.when ((s.recorder p).runs = true) (Act.recFail p 7 0)

/-! ## Triggers and episodes (R735 to R738) -/

/-- The chunks that the window before a trigger point at chunk i keeps: PRE_MB, no more than has been written, and none of another
episode (R735). -/
def State.preChunks (s : State) (p : Nat) (r : Recorder) (i : Nat) : Nat :=
  let n := s.recChunks p
  (r.valid.map fun e => ringSpan n (s.chunkOf p e.2.stop) i).foldl min
    (min (s.fld (PSCP.TRIG p) PSCP.TRIG.PRE_MB * 8) (min r.chunkNo (n - 1)))

/-- Is there room for a new episode: fewer than 16, and at least a quarter of the data area outside episodes (R737)? -/
def State.epRoom (s : State) (p : Nat) (r : Recorder) : Bool :=
  let n := s.recChunks p
  let kept := ((r.valid.map fun e => s.epLen p r e.2).sum) + s.preChunks p r (s.chunkOf p r.fill) + 1
  decide (r.valid.length < 16) && decide (n ≤ 4 * (n - kept)) && (s.epHolding p r (s.chunkOf p r.fill)).isNone

/-- The oldest closed episode: the one whose START lies farthest back in writing order (R737). -/
def State.oldestEp (s : State) (p : Nat) (r : Recorder) : Option Nat :=
  let back := fun (e : Episode) => ringSpan (s.recChunks p) (s.chunkOf p e.start) (s.chunkOf p r.fill)
  let l := r.valid.filter fun e => e.2.closed
  (l.find? fun e => l.all fun f => decide (back f.2 ≤ back e.2)).map (·.1)

/-- Entry i of the table is freed; a writer that stood before a protected chunk may go on (R738). -/
def State.freeEp (s : State) (p : Nat) (r : Recorder) (i : Nat) : Recorder :=
  let u := { r with eps := r.eps.set i none }
  { u with fill := s.chunkAt p (s.skipFrom p u 16 (s.chunkOf p u.fill)) }

/-- Closed episodes are released, oldest first, until there is room (R737). -/
def State.makeRoom (s : State) (p : Nat) : Nat → Recorder → Recorder
  | 0, r => r
  | k + 1, r =>
    if s.epRoom p r then r
    else match s.oldestEp p r with
      | none => r
      | some i => s.makeRoom p k (s.freeEp p r i)

/-- A trigger opens an episode (R735, R737): its source and the die time of its event. -/
def Act.openEpisode (p src t : Nat) : Act :=
  Act.get fun s =>
    let r := s.recorder p
    let i := ((List.range 16).find? fun i => (r.eps.getD i none).isNone).getD 0
    let at1 := r.fill + 32 + r.cur.length
    let c := s.chunkOf p r.fill
    let n := s.recChunks p
    let time := if s.mapped then s.ptpOf t else (0, t % 2 ^ 32)
    let e : Episode :=
      { start := s.chunkAt p ((c + n - s.preChunks p r c) % n), trig := at1, sec := time.1, ns := time.2, source := src }
    Act.all [
      Act.modRecorder p (fun r =>
        { r with
          eps := ((List.range 16).map fun j => r.eps.getD j none).set i (some e), openEp := some (i, s.time p), st := .post }),
      Act.putRecord p { type := 3, sel := src, episode := i } t [],
      Act.count (PSCP.CNT p 5),
      Act.writeSuper p,
      Act.checkReach p r.fill]

/-- One trigger is taken (R737). -/
def Act.takeTrigger (p src t : Nat) : Act :=
  Act.get fun s =>
    let r := s.recorder p
    if r.st = .running then
      let u := if s.epRoom p r = false ∧ s.fld (PSCP.CFG p) PSCP.CFG.FULL_ACTION = 1 then s.makeRoom p 16 r else r
      if s.epRoom p u then Act.seq (Act.modRecorder p fun _ => u) (Act.openEpisode p src t)
      else Act.seq (Act.count (PSCP.CNT p 7)) (Act.event (PSCP.EVT p) 2)
    else if r.st = .post then
      Act.all [
        Act.putRecord p { type := 3, sel := src, episode := (r.openEp.map (·.1)).getD 0 } t [],
        Act.count (PSCP.CNT p 6),
        Act.checkReach p r.fill]
    else Act.count (PSCP.CNT p 7)

/-- TRIGGER_TAKE: at a slow-clock edge the waiting triggers are taken, the lowest source first (R737). -/
def triggerTake (p : Nat) : Act :=
  Act.get fun s =>
    let l := (s.recorder p).trigs
    Act.when (s.enabled p 0x81 = true)
      (Act.seq (Act.modRecorder p fun r => { r with trigs := [] })
        (Act.each ([1, 2, 3, 4].flatMap fun k => l.filter fun e => e.1 == k) fun e => Act.takeTrigger p e.1 e.2))

/-- EPISODE_CLOSE: POST_MS have passed in die time since the trigger point (R738). -/
def episodeClose (p : Nat) : Act :=
  Act.get fun s =>
    let r := s.recorder p
    Act.opt r.openEp fun o =>
      Act.when (r.st = .post ∧
          s.fld (PSCP.TRIG p) PSCP.TRIG.POST_MS * 1000000 ≤ (s.time p + 2 ^ 48 - o.2) % 2 ^ 48)
        (Act.closeEpisode p false)

/-- TRIGGER, RESTART and RELEASE: a write of PSCP.CMD (R726, R737, R738, R744). -/
def pscpCmd (ag : Agent) (p : Nat) (v : Word) (k : Code → Act) : Act :=
  let a := PSCP.CMD p
  Act.get fun s =>
    let r := s.recorder p
    let i := fget v PSCP.CMD.EPI
    let src := match ag with
      | .remote _ => 4
      | _ => 1
    let rel := decide (fget v PSCP.CMD.RELEASE = 1)
    if rel ∧ ((r.eps.getD i none).any Episode.closed) = false then Act.badValue a ag k
    else
      Act.all [
        Act.setReg a (word [(PSCP.CMD.EPI, i)]),
        Act.when (fget v PSCP.CMD.TRIGGER = 1) (Act.modRecorder p fun r => { r with trigs := r.trigs ++ [(src, s.time p)] }),
        Act.when (fget v PSCP.CMD.RESTART = 1 ∧ (r.st = .error ∨ r.st = .stopped) ∧ s.clk.internalOnly = false ∧
            s.enabled p 0x81 = true)
          (Act.modRecorder p fun r => { r with st := .link, linkAt := s.edges, width := 0, speed := 0 }),
        Act.when rel
          (Act.seq (Act.modRecorder p fun r => s.freeEp p r i)
            (Act.when (r.runs = true ∨ r.st = .stopped) (Act.writeSuper p))),
        k .ok]

/-! ## Reading back (R739) -/

/-- RD_CMD: a write of PSCP.RD_CMD (R739, R747). -/
def rdCmd (ag : Agent) (p : Nat) (v : Word) (k : Code → Act) : Act :=
  let a := PSCP.RD_CMD p
  Act.get fun s =>
    let r := s.recorder p
    let n := fget v PSCP.RD_CMD.LEN
    let mem := decide (fget v PSCP.RD_CMD.MEM = 1)
    let at1 := (s.reg (PSCP.RD_ADDR p)).toNat
    let base := s.recBase p
    let part := match ag with
      | .fw die part _ _ => if die = p then some part else none
      | _ => none
    let put := fun (res : Nat) =>
      Act.setReg a (word [(PSCP.RD_CMD.LEN, n), (PSCP.RD_CMD.MEM, b2n mem), (PSCP.RD_CMD.RESULT, res)])
    if fget v PSCP.RD_CMD.START = 0 then Act.seq (put (s.fld a PSCP.RD_CMD.RESULT)) (k .ok)
    else if s.fld a PSCP.RD_CMD.RESULT = 1 then Act.badValue a ag k
    else if mem ∧ part = none then k .denied
    else if (r.runs = false ∧ r.st ≠ .stopped) ∨ n = 0 ∨ (if mem then 1048576 else 384) < n ∨ at1 < base ∨
        base + s.fld (PSCP.RING p) PSCP.RING.SIZE * 2 ^ 30 < at1 + n then Act.seq (put 3) (k .ok)
    else
      Act.all [
        put 1,
        Act.modRecorder p (fun r => { r with rdPart := if mem then part else none }),
        Act.count (PSCP.CNT p 10),
        Act.writeOut p r.full.length,
        Act.nvme p .read at1 n [],
        k .ok]

/-- RD_CMD_DONE: the drive answers the read with its bytes, or fails it (R739). -/
def rdCmdDone (p : Nat) (ok : Bool) (data : List Byte) : Act :=
  Act.get fun s =>
    let a := PSCP.RD_CMD p
    let n := s.fld a PSCP.RD_CMD.LEN
    let b := padTo n data
    let dest := s.fld (PSCP.RD_MEM p) PSCP.RD_MEM.ADDR
    Act.when (s.fld a PSCP.RD_CMD.RESULT = 1)
      (if ok = false then Act.seq (Act.count (PSCP.CNT p 9)) (Act.rdEnd p 4)
       else
         match (s.recorder p).rdPart with
         | some k => if s.windowOk p k dest n 46 then Act.seq (Act.memWrite p dest b) (Act.rdEnd p 2) else Act.rdEnd p 5
         | none =>
           Act.seq
             (Act.each (List.range (cdiv n 6)) fun i =>
               let old := wordBytes (s.reg (PSCP.RD_BUF p i))
               let new := (b.drop (6 * i)).take 6
               Act.setReg (PSCP.RD_BUF p i) (bytesWord (new ++ old.drop new.length)))
             (Act.rdEnd p 2))

/-! ## Registers (R743 to R746) -/

/-- PSCP.STAT (R744). -/
def State.pscpStat (s : State) (p : Nat) : Word :=
  let r := s.recorder p
  let st := match r.st with
    | .off => 0
    | .link => 1
    | .init => 2
    | .resume => 3
    | .running => 4
    | .post => 5
    | .stopped => 6
    | .error => 7
  word [(PSCP.STAT.STATE, st), (PSCP.STAT.REASON, b2n (decide (r.st = .off) && s.enabled p 0x81 && s.clk.internalOnly)),
    (PSCP.STAT.WIDTH, r.width), (PSCP.STAT.SPEED, r.speed), (PSCP.STAT.EPISODES, r.valid.length)]

/-- PSCP.WPTR (R744). -/
def State.pscpWptr (s : State) (p : Nat) : Word := BitVec.ofNat 48 (s.recorder p).nextWrite.1

/-- EPI_A to EPI_D of entry e (R745): register j of the four. -/
def State.pscpEpi (s : State) (p e j : Nat) : Word :=
  match (s.recorder p).eps.getD e none with
  | none => 0
  | some u =>
    match j with
    | 0 => BitVec.ofNat 48 u.start
    | 1 => BitVec.ofNat 48 u.trig
    | 2 => BitVec.ofNat 48 u.stop
    | _ => word [(PSCP.EPI_D.VALID, 1), (PSCP.EPI_D.CLOSED, b2n u.closed), (PSCP.EPI_D.TRUNC, b2n u.trunc),
        (PSCP.EPI_D.SOURCE, u.source)]

/-- May a selector or an analysis copy name local facet f (R722)? -/
def facetNamed (f : Nat) : Bool := decide (f ≤ 55) || f == 59 || f == 60 || f == 61 || f == 63

/-- Is a selector refused, as SEL_A and SEL_B would read (R722, R746)? -/
def State.selBad (s : State) (a b : Word) : Bool :=
  let kind := fget a PSCP.SEL_A.KIND
  let key := fget a PSCP.SEL_A.KEY
  let snap := fget a PSCP.SEL_A.SNAP
  let q := fget b PSCP.SEL_B.ANA_QUEUE
  decide (4 < kind) || ((kind == 1 || kind == 2) && (decide (63 < key) || !facetNamed key)) ||
    (kind == 3 && !facetNamed (qFacet key)) || (kind == 4 && decide (4095 < key)) ||
    (kind != 0 && fget a PSCP.SEL_A.DEST == 0) || (snap != 0 && (decide (snap < 16) || decide (9216 < snap))) ||
    !facetNamed (qFacet q) || decide (s.x ≤ qDie q)

/-- A write of SEL_A or SEL_B of selector i: the selector may trigger again (R722, R724, R746). -/
def selWrite (ag : Agent) (p i : Nat) (second : Bool) (v : Word) (k : Code → Act) : Act :=
  let a := if second then PSCP.SEL_B p i else PSCP.SEL_A p i
  Act.get fun s =>
    if s.selBad (if second then s.reg (PSCP.SEL_A p i) else v) (if second then v else s.reg (PSCP.SEL_B p i)) then
      Act.badValue a ag k
    else Act.all [Act.store a v, Act.modRecorder p (fun r => { r with fired := r.fired.filter (· != i) }), k .ok]

end Sys2Proof.Machine
end

