-- ==== Sys2Proof/Machine/Transmit.lean ====
section
/-! DEFINITION. Transmit rings (R670, R671, R689): descriptors in the partition's memory, served in round robin, each frame
offered to the fabric as facet 60. -/

namespace Sys2Proof.Machine

/-- The descriptors of ring k of die p. -/
def State.ringSize (s : State) (p k : Nat) : Nat := 2 ^ s.fld (CPU.TXR_A p k) CPU.TXR_A.SIZE_LOG

/-- The address of the descriptor at CONS of ring k of die p (R670). -/
def State.ringDesc (s : State) (p k : Nat) : Nat :=
  s.fld (CPU.TXR_A p k) CPU.TXR_A.BASE + 32 * s.fld (CPU.TXR_B p k) CPU.TXR_B.CONS

/-- Complete the descriptor at CONS: word 2 is written through the partition's windows, CONS advances, and the interrupt
follows where the descriptor asks for one (R670, R671, R683). -/
def Act.txComplete (p k result : Nat) (clamped irq : Bool) : Act :=
  Act.get fun s =>
    let c := s.fld (CPU.TXR_B p k) CPU.TXR_B.CONS
    let at2 := s.ringDesc p k + 16
    Act.all [
      Act.when (s.windowOk p k at2 8 46 = true)
        (Act.memSetWord p at2 (word [(⟨0, 1⟩, 1), (⟨1, 3⟩, result), (⟨4, 1⟩, b2n clamped)])),
      Act.setFld (CPU.TXR_B p k) CPU.TXR_B.CONS ((c + 1) % s.ringSize p k),
      Act.when (irq = true) (Act.irq p (.direct k 7 c)),
      Act.setRing (ptk p k) {}]

/-- The descriptor of ring k whose frame has left facet 60 completes: entered, or dropped by the aperture; the spec gives
RESULT no value for a frame discarded otherwise, so that it is free then (log entry 1). -/
def Act.txSettleRing (p k : Nat) : Act :=
  Act.get fun s =>
    let u := s.ring (ptk p k)
    Act.when (u.busy = true ∧ ((s.buf (fk p 60)).any fun r => r.ring.any fun e => e.1 == k) = false)
      (if u.dropped then Act.txComplete p k 1 u.clamped u.irq
       else if u.entered then Act.seq (Act.cpuCount p k 8) (Act.txComplete p k 0 u.clamped u.irq)
       else Act.freeBelow 8 fun n => Act.txComplete p k n u.clamped u.irq)

/-- The transmit path of die p completes what has left facet 60 (R671). -/
def Act.txSettle (p : Nat) : Act := Act.each (List.range 16) fun k => Act.txSettleRing p k

/-- A frame of ring k goes to facet 60: to a queue already chosen, or to be looked up (R293, R671). passed says that its
aperture has passed it. -/
def Act.txOffer (p k : Nat) (irq clamped : Bool) (fr : Frame) (looked : Bool) : Act :=
  Act.get fun s =>
    Act.seq
      (Act.intake p 60
        { fr := { fr with ts := s.time p }, bufCls := fr.cls, looked := looked, got := fr.cells, ring := some (k, looked) })
      (Act.setRing (ptk p k) { busy := true, clamped := clamped, irq := irq })

/-- Is a descriptor malformed (R670): a bus frame that names no queue, a length out of range or at odds with the bus frame's, a
queue on an absent die? n is LEN, b the frame's bytes. -/
def State.txBad (s : State) (bus named : Bool) (q n : Nat) (b : List Byte) : Bool :=
  (if bus then !named || decide (n < 16) || decide (n ≠ 16 + bfLen b) else decide (n < 14) || decide (9212 < n)) ||
    (named && decide (s.x ≤ qDie q))

/-- Serve the descriptor at CONS of ring k of die p (R670 to R672). -/
def Act.txServe (p k : Nat) : Act :=
  Act.get fun s =>
    let a := s.ringDesc p k
    let w0 := BitVec.ofNat 48 (s.memWord p a)
    let n := fget w0 ⟨0, 14⟩
    let bus := bit w0 14
    let named := bit w0 15
    let q := fget w0 ⟨16, 16⟩
    let irq := bit w0 32
    let at1 := s.memWord p (a + 8) % 2 ^ 40
    let b := s.memRead p at1 n
    if s.windowOk p k a 32 45 = false then Act.txComplete p k 2 false false
    else if s.txBad bus named q n (s.memRead p at1 16) then Act.seq (Act.cpuCount p k 9) (Act.txComplete p k 3 false irq)
    else if s.windowOk p k at1 n 45 = false then Act.txComplete p k 2 false irq
    else if bus then
      Act.aprBus p k q b fun pass =>
        if pass then Act.txOffer p k irq false { dest := q, cls := qClass q, flow := qFlow q, bus := true, data := b } true
        else Act.txComplete p k 1 false irq
    else
      let data := b ++ List.replicate 4 0
      if named then
        Act.aprFrame p k true { dest := q, cls := qClass q, flow := qFlow q, data := data } fun o =>
          match o with
          | none => Act.txComplete p k 1 false irq
          | some (fr, clamped) => Act.txOffer p k irq clamped fr true
      else Act.txOffer p k irq false { cls := s.pcpClass p 60 (s.tagUsed p 60 data).1, data := data } false

/-- Has ring k of die p work: RUNNING, EN, CONS ≠ PROD, and no frame of it waits at facet 60 (R670, R671)? -/
def State.ringReady (s : State) (p k : Nat) : Bool :=
  s.partRuns p k && s.flag (CPU.TXR_A p k) CPU.TXR_A.EN && !(s.ring (ptk p k)).busy &&
    s.fld (CPU.TXR_B p k) CPU.TXR_B.CONS != s.fld (CPU.TXR_B p k) CPU.TXR_B.PROD

/-- TX_DESCRIPTOR: the transmit path of die p serves the next ring with work (R671). -/
def txDescriptor (p : Nat) : Act :=
  Act.seq (Act.txSettle p)
    (Act.get fun s =>
      let l := (List.range 16).map fun i => (s.servedRing p + 1 + i) % 16
      Act.opt (l.find? fun k => s.ringReady p k) fun k => Act.seq (Act.setServedRing p k) (Act.txServe p k))

/-- The frame of a ring that lookup has decided meets its aperture, on the result of step 8 (R672, R675). -/
def Act.txChecked (p : Nat) : Act :=
  Act.get fun s =>
    Act.opt ((s.buf (fk p 60)).find? fun r => r.looked && r.ring.any fun e => !e.2) fun r =>
      Act.opt r.ring fun e =>
        let put := fun (l : List RxFrame) => Act.modBuf (fk p 60) fun b =>
          b.flatMap fun x => if x.looked && x.ring == some (e.1, false) then l else [x]
        Act.aprFrame p e.1 false r.fr fun o =>
          match o with
          | none => Act.seq (put []) (Act.modRing (ptk p e.1) fun u => { u with dropped := true })
          | some (fr, clamped) =>
            Act.seq (put [{ r with fr := fr, ring := some (e.1, true) }])
              (Act.modRing (ptk p e.1) fun u => { u with clamped := u.clamped || clamped })

/-- FRAME_LOOKUP: lookup, and for a frame of a ring the check of its aperture on the result (R295, R672). -/
def lookedUp (p f : Nat) (busy : Bool) : Act :=
  Act.seq (frameLookup p f busy) (Act.when (f = 60) (Act.seq (Act.txChecked p) (Act.txSettle p)))

/-- Admission of a frame, and the completion of a ring's descriptor with it (R201, R671). -/
def admitted (p f : Nat) (a : Act) : Act := Act.seq a (Act.when (f = 60) (Act.txSettle p))

/-- A write of TXR_A or TXR_B of ring k of die p: only by partition k; BASE and SIZE_LOG in range, and unchanged while EN is 1
(R689). -/
def txrWrite (ag : Agent) (p k : Nat) (second : Bool) (v : Word) (cont : Code → Act) : Act :=
  let a := if second then CPU.TXR_B p k else CPU.TXR_A p k
  let mine := match ag with
    | .fw die part _ _ => die == p && part == k
    | _ => false
  Act.get fun s =>
    let b := fget v CPU.TXR_A.BASE
    let z := fget v CPU.TXR_A.SIZE_LOG
    if mine = false then Act.badValue a ag cont
    else if second then Act.seq (Act.store a v) (cont .ok)
    else if b % 64 ≠ 0 ∨ z < 4 ∨ 12 < z ∨
        (s.flag a CPU.TXR_A.EN = true ∧ (b ≠ s.fld a CPU.TXR_A.BASE ∨ z ≠ s.fld a CPU.TXR_A.SIZE_LOG)) then
      Act.badValue a ag cont
    else Act.seq (Act.store a v) (cont .ok)

end Sys2Proof.Machine
end

