-- ==== Sys2Proof/Machine/Reset.lean ====
section
/-! DEFINITION. Package resets: the reset record, the reach of each scope, the drive dies' islands, and the start sequence up to
step 8 (R66 to R91). -/

namespace Sys2Proof.Machine

/-! ## What a reset keeps (R84) -/

/-- Is block b of a drive die in its slow domain (R141)? -/
def slowBlock (b : Nat) : Bool := b == 0x01 || b == 0x02 || b == 0x29 || b == 0x2B || b == 0x2C

/-- Does register a keep its value through a reset, of cold scope or not (R84)? The reset record is kept; so are the registers of
the always-on islands, and with a warm scope those of the channel-control islands, but for DEV.LOCK, since no lock is left (R118, R190). Every block is disabled. -/
def keptReg (cold : Bool) (a : Nat) : Bool :=
  if aDie a < 4 then a == RSTC.CAUSE 0 || a == RSTC.DETAIL 0
  else aReg a != 0x1FFF && !(aBlk a == 0 && aReg a == 3) && (slowBlock (aBlk a) || !cold)

/-- The key stores after a reset: only the state of the tamper inputs, which lie outside, is as before (R84, R511). -/
def keptStores (m : Sparse KeyStore) : Sparse KeyStore :=
  m.foldl (fun n e => Sparse.put (fun _ => {}) e.1 { tamperNow := e.2.tamperNow } n) []

/-- The transceivers after a reset: in standby (R84). -/
def keptXcvrs (m : Sparse Xcvr) : Sparse Xcvr :=
  m.foldl (fun n e => Sparse.put (fun _ => {}) e.1 { e.2 with mode := .standby } n) []

/-- The supply of the Prism dies after a reset: a substitute edge stays in use, and a drive link without transitions stays cut until
they return, to be detected anew (R38). -/
def keptPrism (m : Sparse PrismSupply) : Sparse PrismSupply :=
  m.foldl (fun n e => Sparse.put (fun _ => {}) e.1 { vcore := e.2.vcore, subst := e.2.subst, cutRank := e.2.cutRank ++ e.2.lostRank } n) []

/-- What a reset leaves of everything but registers, tables, memory, flash and channels (R84). -/
def keptState (cold : Bool) (s : State) : State :=
  { s with
    evtNo := Sparse.keep (fun k => keptReg cold (k / 64)) s.evtNo
    onceRegs := Sparse.keep (keptReg cold) s.onceRegs
    lockedRegs := []
    mismatches := []
    posted := []
    compat := []
    pends := []
    eyeReset := none
    irqs := []
    prism := keptPrism s.prism
    start := { pinLow := s.start.pinLow, thermHold := s.start.thermHold, served := s.start.served
               lastDetect := s.start.lastDetect, firstDetect := s.start.firstDetect }
    clk := { s.clk with source := .internal, internalOnly := false }
    ld := {}
    sw := {}
    nets := { xcvrs := keptXcvrs s.nets.xcvrs, linHigh := s.nets.linHigh }
    gw := {}
    mon := {}
    sec := { stores := keptStores s.sec.stores }
    plx := {}
    cpu := {}
    io := { s.io with window := [], waits := [], pair := {}, pnets := [], doze := {} } }

/-! ## The islands of a drive die (R48, R98) -/

/-- The channel-control island of drive die d stops or is reset: its registers and channels are at their reset values. -/
def Act.islandOff (d : Nat) : Act :=
  Act.all [
    Act.resetRegs (fun a => aDie a != 4 + d || slowBlock (aBlk a)),
    Act.upd (fun s => { s with evtNo := Sparse.keep (fun k => aDie (k / 64) != 4 + d || slowBlock (aBlk (k / 64))) s.evtNo }),
    Act.each (List.range 32) fun c => Act.setChan (xc d c) {},
    Act.modDrv d (fun v =>
      { v with
        hbTimer := none, hbRun := none, mapGrant := none, caseA := 0, caseB := 0, caseSt := 0, coldFrom := none, inputs := 0
        powerSum := 0, powerN := 0, overPower := false }),
    Act.setSup d (fun u => { u with chanOn := false, hbLost := false, ovOpen := u.ovOpen })]

/-- Drive die d loads its fuses and its channel-control island starts: guarded mode begins (R77 step 2, R98); in Pinhole mode the map's channels
follow their inputs. -/
def Act.islandOn (d : Nat) : Act :=
  Act.get fun s =>
    Act.when ((s.supply d).alive = true ∧ (s.supply d).chanOn = false)
      (Act.all [
        Act.setSup d (fun u => { u with chanOn := true, fuses := true }),
        Act.modDrv d (fun v => { v with coldFrom := some s.edges, caseSt := 0 }),
        Act.chSettleAll d false,
        Act.each (List.range 28) fun c =>
          Act.get fun t => Act.when ((t.mapNow d c).isSome = true) (Act.chFollow d c false)])

/-- A warm reset at channel c of drive die d (R615): it opens, but for one that the Pinhole map drives. -/
def Act.chanWarm (d c : Nat) : Act :=
  Act.get fun s =>
    Act.seq (Act.setReg (CHN.CMD d c) 0)
      (if (s.mapNow d c).isSome then Act.modChan (xc d c) fun u => { u with adm := .unsent }
       else
        Act.modChan (xc d c) fun u =>
          { u with
            st := if u.st = .latched then .latched else .openSt
            adm := .unsent, src := 17, retry := 0, takeover := none, inLimit := false, test := if u.test = 3 then 0 else u.test })

/-- The drive dies at a reset (R84, R615). -/
def Act.drivesReset (cold : Bool) : Act :=
  Act.get fun s =>
    Act.each s.driveDies fun d =>
      if cold then Act.islandOff d
      else Act.when ((s.supply d).chanOn = true) (Act.seq (Act.each (List.range 28) fun c => Act.chanWarm d c) (Act.chSettleAll d false))

/-- Bytes of the flash whose contents are undefined take free values (log entry 1). -/
def Act.flashUndefined (a n : Nat) : Act :=
  Act.freeBytes n fun b => Act.all ((List.range n).map fun i => Act.setFlash (a + i) (b.getD i 0))

/-- An erase or a program of the flash that a reset cuts off leaves undefined contents (R121, R125). -/
def Act.flashCut : Act :=
  Act.get fun s =>
    Act.seq
      (match s.ld.flashOp with
       | .erase a => Act.flashUndefined a 4096
       | .program a b => Act.flashUndefined a b.length
       | _ => Act.skip)
      (Act.opt s.ld.erasing fun k => Act.flashUndefined (4096 * k) 4096)

/-- The state of the package after a reset of a scope, before the start continues (R84). -/
def Act.resetAll (cold : Bool) : Act :=
  Act.all [
    Act.flashCut,
    Act.resetRegs (keptReg cold),
    Act.dropTbls fun _ => false,
    Act.dropMem,
    Act.upd (keptState cold),
    Act.drivesReset cold]

/-! ## The reset record (R82, R85 to R88) -/

/-- Record a reset of source bit b with the fields of its own source in DETAIL. Sources of one slow-clock edge share one reset. -/
def Act.recordReset (b : Nat) (l : List (Fld × Nat)) : Act :=
  Act.get fun s =>
    let a := RSTC.CAUSE 0
    let fresh := s.start.served
    let same := !fresh && s.start.lastDetect == some s.edges
    let last :=
      if fresh then b + 1
      else if s.start.firstDetect = some s.edges then min (s.fld a RSTC.CAUSE.LAST) (b + 1)
      else s.fld a RSTC.CAUSE.LAST
    Act.all [
      (if same then Act.seq (Act.setReg a (setBit (s.reg a) b)) (Act.noteEvt a b (s.evtCount a))
       else Act.seq (Act.event a b) (Act.bumpFld a RSTC.CAUSE.COUNT 1)),
      Act.setFld a RSTC.CAUSE.LAST last,
      Act.when (fresh = true) (Act.setReg (RSTC.DETAIL 0) 0),
      Act.setFlds (RSTC.DETAIL 0) l,
      Act.setStart fun u =>
        { u with lastDetect := some s.edges, firstDetect := if fresh then some s.edges else u.firstDetect, served := false }]

/-! ## Steps 6 to 8 (R69 to R74, R77, R81) -/

/-- The milestone of this moment: whole slow-clock edges since t0 (R65, R91). -/
def State.mile (s : State) : Nat := sat 0xFFFFFF (s.edges - s.seq.t0)

/-- Internal-only mode is entered for a reason (R70 to R72). -/
def Act.internalOnly (reason : Nat) : Act :=
  Act.seq (Act.upd fun s => { s with clk := { s.clk with source := .internal, internalOnly := true } })
    (Act.setFld (RSTC.STRAP 0) RSTC.STRAP.CLK_REASON reason)

/-- Step 8 begins: the loader reads the epoch area and the headers (R77, R132). -/
def Act.stepEight : Act :=
  Act.get fun s =>
    Act.all [
      Act.setStart fun u => { u with step := 8 },
      Act.upd fun s => { s with ld := { s.ld with st := .headers } },
      Act.each s.prismDies fun p =>
        Act.freeBytes 32 fun m => Act.modKstore p fun k =>
          { k with rootOk := !s.fuse.sharesGone, rootMask := if s.fuse.sharesGone then [] else nats m, passAt := s.edges }]

/-- The lead die samples the lid switch at step 6; a high one is reported as an input that is not armed yet (R512, R514). -/
def Act.lidSample : Act :=
  Act.get fun s =>
    let high := (s.kstore 0).tamperNow / 2 % 2 = 1
    Act.seq (Act.upd fun t => { t with sec := { t.sec with tamperSeen := if high then 2 else 0 } })
      (Act.when high (Act.event (KEYS.EVT 0) 4))

/-- The fused trims that CF registers of the Prism dies reset to: ETH.TS of facets 12 to 31, and TDC_INIT of the CAN controllers with an
integrated transceiver (R374, R380, R410, R429; log entry 3). -/
def Act.fuseTrims : Act :=
  Act.get fun s => Act.each (s.fuse.words.filter fun e => decide (aDie e.1 < s.x)) fun e =>
    let p := aDie e.1
    let b := aBlk e.1
    if 0x2C ≤ b ∧ b ≤ 0x3F ∧ e.1 = ETH.TS p (b - 0x20) then
      Act.setFlds (ETH.TS p (b - 0x20)) [(ETH.TS.RX_CORR, fget e.2 ETH.TS.RX_CORR), (ETH.TS.TX_CORR, fget e.2 ETH.TS.TX_CORR)]
    else if 0x40 ≤ b ∧ b ≤ 0x4F ∧ e.1 = CAN.TDC p (b - 0x40) ∧ (s.canXcvr p (b - 0x40)).isSome then
      Act.setFld (CAN.TDC p (b - 0x40)) CAN.TDC.TDC_INIT (fget e.2 CAN.TDC.TDC_INIT)
    else Act.skip

/-- Step 6 begins: the Prism dies leave reset, the lead die samples the straps, the heartbeat starts, and a wake is reported to
the lead die (R77, R81, R593); then step 7 follows. -/
def Act.stepSix : Act :=
  Act.get fun s =>
    let woke := s.io.wakeUp
    let cause := s.reg (WKP.CAUSE 0)
    Act.all [
      Act.setStart (fun u => { u with step := 7, heartbeat := true }),
      Act.setFlds (RSTC.STRAP 0) [(RSTC.STRAP.BOOT, s.clk.bootPins), (RSTC.STRAP.CLKMODE, s.clk.clkPins)],
      Act.each s.prismDies (fun p => Act.setFabOff p s.edges),
      Act.each s.driveDies (fun d =>
        Act.when ((s.supply d).chanOn = true) (Act.modDrv d fun v => { v with hbTimer := v.hbTimer.orElse fun _ => some s.edges })),
      Act.fuseTrims,
      Act.lidSample,
      Act.when (woke = true)
        (Act.seq
          (Act.setReg (WAKE.CAUSE 0) (word [(WAKE.CAUSE.SRC, fget cause WKP.CAUSE.SRC), (WAKE.CAUSE.DIE, fget cause WKP.CAUSE.DIE),
            (WAKE.CAUSE.PKG_WAKE, 1), (WAKE.CAUSE.SLEEP_S, sat (2 ^ 23 - 1) ((s.edges - s.io.offAt) / 32768))]))
          (Act.updIo fun m => { m with wakeUp := false })),
      Act.when (2 ≤ s.clk.clkPins) (Act.seq (Act.internalOnly (s.clk.clkPins - 1)) Act.stepEight)]

/-- The start continues from step 6 where nothing holds it: regulators ready, RESET_N high, no thermal hold (R83, R85). -/
def Act.resume : Act :=
  Act.get fun s =>
    Act.when (s.seq.stage = .ready ∧ s.start.step = 0 ∧ s.start.pinLow = false ∧ s.start.thermHold = false ∧ s.io.stage ≠ .asleep)
      Act.stepSix

/-- A package reset of a scope with the source's bit and its fields of DETAIL (R82 to R88). A reset of a sleeping package is
recorded; only one of cold scope starts it (log entry 44). -/
def Act.packageReset (cold : Bool) (b : Nat) (l : List (Fld × Nat)) : Act :=
  Act.all [
    Act.recordReset b l,
    Act.resetAll cold,
    Act.updIo (fun m => { m with stage := if m.stage = .asleep ∧ !cold then .asleep else .awake }),
    Act.resume]

/-! ## The regulator sequencer (R63 to R68) -/

/-- Change the sequencer. -/
def Act.setSeq (f : Sequencer → Sequencer) : Act := Act.upd fun s => { s with seq := f s.seq }

/-- A stage begins: its enable goes high, and its claim is noted (R65, R593). -/
def Act.stageOn (st : Stage) : Act :=
  Act.get fun s =>
    Act.setSeq fun q =>
      { q with
        stage := st
        enCore := true
        enIo := q.enIo || decide (st = .io)
        enMem := q.enMem || decide (st = .mem)
        claims := q.claims ++ [(s.fld (WKP.START 0) WKP.START.REG_CLAIM, s.edges)] }

/-- An attempt begins at the CORE stage, the channel-control islands running (R66, R77). -/
def Act.attempt : Act :=
  Act.get fun s =>
    Act.all [
      Act.each s.driveDies (fun d => Act.islandOn d),
      Act.setSeq (fun q => { q with attempt := q.failed % 4, tCore := 255, tIo := 255, tMem := 255, claims := [] }),
      Act.stageOn .core]

/-- Every enable goes low and the sequencer takes a stage. -/
def Act.enablesOff (st : Stage) : Act := Act.setSeq fun q => { q with stage := st, enCore := false, enIo := false, enMem := false }

/-- A regulator failure at stage k (0 where none is named) of a kind of R88 (R66, R67): a cold reset with cause regulator failure,
then a retry after 100 ms, or the latch after the fourth failed attempt of the series, with every drive die in Pinhole mode, its
channel-control island running. -/
def Act.regFail (k kind : Nat) : Act :=
  Act.get fun s =>
    let series := s.seq.lastFail.any fun t => decide (s.edges - t < 327680)
    let n := if series then s.seq.failed + 1 else 1
    Act.all [
      Act.enablesOff (if 4 ≤ n then .latched else .between),
      Act.setSeq (fun q => { q with failed := n, lastFail := some s.edges }),
      Act.packageReset true 2 [(RSTC.DETAIL.REG_STAGE, k), (RSTC.DETAIL.REG_KIND, kind), (RSTC.DETAIL.REG_ATTEMPTS, min 3 n)],
      Act.when (4 ≤ n) (Act.each s.driveDies fun d => Act.seq (Act.islandOn d) (Act.pinEnter d))]

end Sys2Proof.Machine
end

