-- ==== Sys2Proof/Machine/Supply.lean ====
section
/-! DEFINITION. Supply supervision, the regulators, RESET_N, clocks, internal links, temperature of the Prism dies, and the start
of a sleeping package (R37 to R48, R56 to R97, R589, R593). A voltage operand is what the supervised die sees at the event,
in units of 10 mV for VBAT and of mV for VCORE; the measurements of SUP.VBAT and DEV.VCORE are those of the slow-clock edges (R94,
R191). -/

namespace Sys2Proof.Machine

/-! ## VBAT (R58 to R61, R94, R95) -/

/-- A measurement of VBAT at drive die d enters NOW, MIN and MAX (R94). -/
def Act.vbatIs (d v : Nat) : Act :=
  Act.setSup d fun u => { u with vbat := sat 65535 v, vmin := min u.vmin (sat 65535 v), vmax := max u.vmax (sat 65535 v) }

/-- VBAT_SAMPLE: at a slow-clock edge VBAT of drive die d is measured (R94). -/
def vbatSample (d v : Nat) : Act :=
  Act.get fun s => Act.when (d < s.y ∧ (s.supply d).alive = true) (Act.vbatIs d v)

/-- SUP_MINMAX_CLEAR: MIN and MAX of drive die d restart from NOW (R95). -/
def Act.minmaxClear (d : Nat) : Act := Act.setSup d fun u => { u with vmin := u.vbat, vmax := u.vbat }

/-- POWER_ON: VBAT of drive die d has risen to 4.0 V: its always-on island starts (R58, R77 step 1). boot and clk are the levels of
the strap balls. A drive die that loses and regains its island while the package runs starts its channel-control island too
(log entry 45). -/
def powerOn (d v boot clk : Nat) : Act :=
  Act.get fun s =>
    Act.when (d < s.y ∧ (s.supply d).alive = false ∧ 400 ≤ v)
      (Act.all [
        Act.setSup d (fun _ => { alive := true, vbat := sat 65535 v, vmin := sat 65535 v, vmax := sat 65535 v }),
        Act.when (d = 0)
          (Act.upd fun s => { s with clk := { s.clk with bootPins := boot % 4, clkPins := clk % 4 } }),
        Act.when (d ≠ 0 ∧ (s.supply 0).chanOn = true) (Act.islandOn d)])

/-- Every register and record of drive die d goes to its default (R84). -/
def Act.dieDefaults (d : Nat) : Act :=
  Act.all [
    Act.resetRegs (fun a => aDie a != 4 + d),
    Act.upd (fun s =>
      { s with
        evtNo := Sparse.keep (fun k => aDie (k / 64) != 4 + d) s.evtNo
        onceRegs := Sparse.keep (fun a => aDie a != 4 + d) s.onceRegs
        posted := Sparse.keep (fun k => k / 256 != 4 + d) s.posted
        compat := Sparse.keep (fun a => aDie a != 4 + d) s.compat }),
    Act.each (List.range 32) (fun c => Act.setChan (xc d c) {}),
    Act.each (List.range 12) (fun u => Act.setXcvr (xKey d u) {}),
    Act.setDrv d {},
    Act.setSup d fun _ => {}]

/-- POWER_ON_RESET: VBAT of drive die d has fallen below 4.0 V (R58, R84). On drive die 0 the package is reset and the reset
record starts afresh with bit 0 and POR (R82, R87). -/
def powerOnReset (d v : Nat) : Act :=
  Act.get fun s =>
    Act.when (d < s.y ∧ (s.supply d).alive = true ∧ v < 400)
      (if d = 0 then
        Act.all [
          Act.resetAll true,
          Act.resetRegs (fun a => a != RSTC.CAUSE 0 && a != RSTC.DETAIL 0),
          Act.upd (fun s =>
            { s with
              evtNo := Sparse.keep (fun k => k / 64 != RSTC.CAUSE 0) s.evtNo
              seq := {}
              start := {}
              prism := []
              clk := {}
              io := { s.io with stage := .awake, offAt := 0, wakeUp := false, jitter := none } }),
          Act.each s.driveDies (fun e => Act.setSup e fun u => { u with subst := false }),
          Act.dieDefaults 0]
       else Act.dieDefaults d)

/-- VBAT_RESET_RELEASE: VBAT, v now, has been at the reset threshold plus 0.3 V for 2 ms (R58): the channel-control islands start, and
the regulators are sequenced (R77 steps 2 and 3). -/
def vbatResetRelease (v : Nat) : Act :=
  Act.get fun s =>
    Act.when ((s.supply 0).alive = true ∧ (s.fld (SUP.THRESH 0) SUP.THRESH.RESET_TH + 3) * 10 ≤ v)
      (Act.seq (Act.setSup 0 fun u => { u with good := true })
        (Act.when (s.seq.stage = .off ∧ s.io.stage = .awake) Act.attempt))

/-- VBAT_LOW: VBAT at drive die 0 has been below the reset threshold for 20 µs (R58, R59): a cold reset. The latch and the attempt
count are cleared (R68), and the package stays in reset until VBAT_RESET_RELEASE. -/
def vbatLow (v : Nat) : Act :=
  Act.get fun s =>
    Act.when ((s.supply 0).alive = true ∧ v < s.fld (SUP.THRESH 0) SUP.THRESH.RESET_TH * 10 ∧
        (s.seq.stage ≠ .off ∨ (s.supply 0).chanOn = true ∨ s.io.stage ≠ .awake))
      (Act.all [
        Act.setSup 0 (fun u => { u with good := false }),
        Act.setSeq (fun _ => {}),
        Act.packageReset true 0 []])

/-- SAG_WARNING: VBAT of drive die d has been below SAG_TH for 20 µs (R58). -/
def sagWarning (d v : Nat) : Act :=
  Act.get fun s =>
    Act.when (d < s.y ∧ (s.supply d).alive = true ∧ (s.supply d).sag = false ∧ v < s.fld (SUP.THRESH d) SUP.THRESH.SAG_TH * 10)
      (Act.all [Act.setSup d (fun u => { u with sag := true }), Act.eventIrq (SUP.EVT d) 0])

/-- SAG_END: VBAT of drive die d has been at SAG_TH plus 0.3 V for 20 µs (R58); what waits for admission is looked at again
(R599). -/
def sagEnd (d v : Nat) : Act :=
  Act.get fun s =>
    Act.when (d < s.y ∧ (s.supply d).sag = true ∧ (s.fld (SUP.THRESH d) SUP.THRESH.SAG_TH + 3) * 10 ≤ v)
      (Act.all [Act.setSup d (fun u => { u with sag := false }), Act.eventIrq (SUP.EVT d) 1, Act.admSettle])

/-- OV_WARN: VBAT of drive die d has been above 62 V for 20 µs (R58). -/
def ovWarn (d v : Nat) : Act :=
  Act.get fun s =>
    Act.when (d < s.y ∧ (s.supply d).alive = true ∧ (s.supply d).ovWarn = false ∧ 6200 < v)
      (Act.all [Act.setSup d (fun u => { u with ovWarn := true }), Act.event (SUP.EVT d) 2])

/-- OV_WARN_END: VBAT of drive die d has been at 61 V or below for 20 µs (R58). -/
def ovWarnEnd (d v : Nat) : Act :=
  Act.get fun s =>
    Act.when (d < s.y ∧ (s.supply d).ovWarn = true ∧ v ≤ 6100)
      (Act.setSup d fun u => { u with ovWarn := false })

/-- OV_OPEN: VBAT of drive die d has been above 66 V for 2 µs: all its channels open (R58, R61). -/
def ovOpen (d v : Nat) : Act :=
  Act.get fun s =>
    Act.when (d < s.y ∧ (s.supply d).alive = true ∧ (s.supply d).ovOpen = false ∧ 6600 < v)
      (Act.all [Act.setSup d (fun u => { u with ovOpen := true }), Act.event (SUP.EVT d) 3, Act.chSettleAll d false])

/-- OV_END: VBAT of drive die d has been at 61 V or below for 10 ms: its channels return to the commands in force in guarded mode
(R58, R61, R625). -/
def ovEnd (d v : Nat) : Act :=
  Act.get fun s =>
    Act.when (d < s.y ∧ (s.supply d).ovOpen = true ∧ v ≤ 6100)
      (Act.all [Act.setSup d (fun u => { u with ovOpen := false }), Act.event (SUP.EVT d) 4, Act.chSettleAll d true])

/-! ## Regulators (R63 to R68) -/

/-- The number of a stage that is pending: CORE 1, IO 2, MEM 3 (R88). -/
def Stage.pending : Stage → Nat
  | .core => 1
  | .io => 2
  | .mem => 3
  | _ => 0

/-- STAGE_SUCCESS: the pending stage's power-good has been high for 0.5 ms, first seen t units of four edges after its enable (R65,
R97): the next stage begins, or this is t0. -/
def stageSuccess (t : Nat) : Act :=
  Act.get fun s =>
    let n := sat 254 t
    let ready := Act.seq (Act.setSeq fun q => { q with stage := .ready, t0 := s.edges }) Act.resume
    match s.seq.stage with
    | .core => Act.seq (Act.setSeq fun q => { q with tCore := n }) (Act.stageOn .io)
    | .io => Act.seq (Act.setSeq fun q => { q with tIo := n }) (if s.fuse.memUsed then Act.stageOn .mem else ready)
    | .mem => Act.seq (Act.setSeq fun q => { q with tMem := n }) ready
    | _ => Act.skip

/-- STAGE_FAIL: stage k, the pending one or one before it, has failed before t0 (R65, R66). -/
def stageFail (k : Nat) : Act :=
  Act.get fun s => Act.when (1 ≤ k ∧ k ≤ s.seq.stage.pending) (Act.regFail k 1)

/-- REGULATOR_RETRY: 100 ms after the enables went low a new attempt begins (R66). -/
def regulatorRetry : Act :=
  Act.get fun s =>
    Act.when (s.seq.stage = .between ∧ (s.seq.lastFail.all fun t => s.pastMs t 100) = true) Act.attempt

/-- PG_LOST: the power-good input of stage k has been low for 10 µs from t0 onward (R67). -/
def pgLost (k : Nat) : Act :=
  Act.get fun s =>
    Act.when (s.seq.stage = .ready ∧ 1 ≤ k ∧ k ≤ (if s.fuse.memUsed then 3 else 2))
      (Act.seq (Act.event (SUP.EVT 0) 5) (Act.regFail k 2))

/-- Do the Prism dies run: has step 6 begun? -/
def State.prismUp (s : State) : Bool := decide (6 ≤ s.start.step)

/-- CORE_DROOP: VCORE of Prism die p has been below 0.70 V for 1 µs (R44). -/
def coreDroop (p mv : Nat) : Act :=
  Act.get fun s =>
    Act.when (p < s.x ∧ s.prismUp = true ∧ (s.psup p).droop = false ∧ mv < 700)
      (Act.seq (Act.setPsup p fun u => { u with droop := true }) (Act.event (DEV.EVT p) 0))

/-- CORE_DROOP_END: VCORE of Prism die p has been at 0.70 V or above for 1 µs (R44). -/
def coreDroopEnd (p mv : Nat) : Act :=
  Act.get fun s =>
    Act.when (p < s.x ∧ (s.psup p).droop = true ∧ 700 ≤ mv)
      (Act.setPsup p fun u => { u with droop := false })

/-- VCORE_REGULATOR_FAIL: VCORE of Prism die p has been below 0.58 V for 1 µs (R44, R67). -/
def vcoreRegulatorFail (p mv : Nat) : Act :=
  Act.get fun s =>
    Act.when (p < s.x ∧ s.prismUp = true ∧ s.seq.stage = .ready ∧ mv < 580) (Act.regFail 0 3)

/-! ## RESET_N and temperature (R82, R83, R85) -/

/-- RESET_N_ASSERT: RESET_N has been low for 1 µs: a warm reset, held; the latch and the attempt count are cleared (R68, R82). -/
def resetNAssert : Act :=
  Act.get fun s =>
    Act.when ((s.supply 0).alive = true ∧ s.start.pinLow = false)
      (Act.all [
        Act.setStart (fun u => { u with pinLow := true }),
        Act.setSeq (fun q =>
          { q with stage := if q.stage = .latched then .off else q.stage, failed := 0, lastFail := if q.stage = .between then q.lastFail else none
                   attempt := 0 }),
        Act.packageReset false 1 []])

/-- RESET_N_RELEASE: RESET_N is high again, and the straps are sampled anew (R73, R74, R85). After a latch that its assertion
cleared the sequencing starts here with attempt 1; that it waits for the release is the model's choice (R68, log entry 110). -/
def resetNRelease (boot clk : Nat) : Act :=
  Act.get fun s =>
    Act.when (s.start.pinLow = true)
      (Act.all [
        Act.setStart (fun u => { u with pinLow := false }),
        Act.upd (fun s => { s with clk := { s.clk with bootPins := boot % 4, clkPins := clk % 4 } }),
        (if s.seq.stage = .off ∧ s.io.stage = .awake ∧ (s.supply 0).good = true then Act.attempt else Act.resume)])

/-- PRISM_THERMAL_SHUTDOWN: Tj of Prism die p has been above 135 °C for 100 µs (R82, R83). -/
def prismThermalShutdown (p : Nat) : Act :=
  Act.get fun s =>
    Act.when (p < s.x ∧ s.prismUp = true)
      (Act.seq (Act.setStart fun u => { u with thermHold := true }) (Act.packageReset false 8 [(RSTC.DETAIL.THERM_DIE, p)]))

/-- THERMAL_HOLD_END: every Prism die's sensor reads below 110 °C (R83). -/
def thermalHoldEnd : Act :=
  Act.get fun s =>
    Act.when (s.start.thermHold = true) (Act.seq (Act.setStart fun u => { u with thermHold := false }) Act.resume)

/-- PRISM_THERMAL_WARN: Tj of Prism die p has been above 125 °C for 100 µs (R82). -/
def prismThermalWarn (p : Nat) : Act :=
  Act.get fun s => Act.when (p < s.x ∧ s.prismUp = true) (Act.setPsup p fun u => { u with hot := true })

/-- PRISM_THERMAL_WARN_END: Tj of Prism die p has fallen below 120 °C (R82). -/
def prismThermalWarnEnd (p : Nat) : Act := Act.get fun s => Act.when (p < s.x) (Act.setPsup p fun u => { u with hot := false })

/-! ## Clocks (R69 to R72) -/

/-- CLOCK_READY: the external source is ready (R70). -/
def clockReady : Act :=
  Act.get fun s =>
    Act.when (s.start.step = 7)
      (Act.all [
        Act.upd (fun s => { s with clk := { s.clk with
          source := if s.fld (RSTC.STRAP 0) RSTC.STRAP.CLKMODE = 0 then .crystal else .reference } }),
        Act.setFld (RSTC.STRAP 0) RSTC.STRAP.CLK_REASON 0,
        Act.stepEight])

/-- CLOCK_TIMEOUT: the external source is not ready 10 ms after the release (R70). -/
def clockTimeout : Act :=
  Act.get fun s =>
    Act.when (s.start.step = 7)
      (Act.seq (Act.internalOnly (3 + s.fld (RSTC.STRAP 0) RSTC.STRAP.CLKMODE)) Act.stepEight)

/-- CLOCK_LOST: the external source shows no edge for 2 µs: internal-only mode, and what it stops halts (R72, R352, R392). -/
def clockLost : Act :=
  Act.get fun s =>
    Act.when (8 ≤ s.start.step ∧ s.clk.source ≠ .internal)
      (Act.seq (Act.internalOnly 5)
        (Act.each s.prismDies fun p =>
          Act.all [
            Act.each (List.range 32) (fun f =>
              Act.get fun t =>
                Act.seq (Act.linkDown p f false false)
                  (Act.when (t.enabled p (0x20 + f) = true)
                    (Act.setReg (BLK_CTRL p (0x20 + f)) (clearBit (t.reg (BLK_CTRL p (0x20 + f))) 1)))),
            Act.each (List.range 16) (fun c => Act.canClockLost p c),
            Act.each (List.range 8) (fun c => Act.linClockLost p c),
            Act.recClockLost p]))

/-! ## Internal links and the slow-edge line (R37, R38) -/

/-- DIE_TO_DIE_LINK_LOST: no transition on link j of Prism die p for 50 µs (R38): a package reset. -/
def dieToDieLinkLost (p j : Nat) : Act :=
  Act.get fun s =>
    Act.when (p < s.x ∧ j < 3 ∧ d2dFar p j < s.x ∧ s.prismUp = true)
      (Act.packageReset false 6 [(RSTC.DETAIL.D2D_FACET, globalFacet p (56 + j))])

/-- DRIVE_LINK_LOST: the link of drive die d shows no transition any more (R38, R781, R782): at its onset, seen false, accesses begin
to fail; after 50 µs, seen true, its Prism die detects the loss. -/
def driveLinkLost (d : Nat) (seen : Bool) : Act :=
  Act.get fun s =>
    let p := s.attachedTo d
    Act.when (d < s.y ∧ s.prismUp = true ∧ s.dlinkLost d = false)
      (if seen = false then Act.setPsup p fun u => { u with cutRank := u.cutRank.filter (· != s.rankOf d) ++ [s.rankOf d] }
       else Act.all [
        Act.setPsup p (fun u =>
          { u with lostRank := u.lostRank ++ [s.rankOf d], cutRank := u.cutRank.filter (· != s.rankOf d) }),
        Act.event (DEV.EVT p) 2,
        Act.setFld (DEV.DLINK p) DEV.DLINK.LAST_RANK (s.rankOf d)])

/-- DRIVE_LINK_RESUME: transitions return on the link of drive die d (R38). -/
def driveLinkResume (d : Nat) : Act :=
  Act.get fun s =>
    Act.when (d < s.y)
      (Act.setPsup (s.attachedTo d) fun u =>
        { u with lostRank := u.lostRank.filter (· != s.rankOf d), cutRank := u.cutRank.filter (· != s.rankOf d) })

/-- SLOW_EDGE_LOST: no slow-clock edge for 244 µs, detected by the dies of a mask of die fields (R38): each runs on a substitute
edge until the next power-on reset. -/
def slowEdgeLost (mask : Nat) : Act :=
  Act.get fun s =>
    Act.seq
      (Act.each (s.prismDies.filter fun p => mask / 2 ^ p % 2 == 1 && s.prismUp && !(s.psup p).subst) fun p =>
        Act.all [
          Act.setPsup p (fun u => { u with subst := true }),
          Act.event (DEV.EVT p) 3,
          Act.event (TIME.EVT p) 1])
      (Act.each (s.driveDies.filter fun d => decide (d ≠ 0) && mask / 2 ^ (4 + d) % 2 == 1 && (s.supply d).alive && !(s.supply d).subst)
        fun d => Act.seq (Act.setSup d fun u => { u with subst := true }) (Act.event (SUP.EVT d) 6))

/-! ## Sleep and wake of the package (R589, R593) -/

/-- SLEEP_OFF: OFF reaches drive die 0 (R589 step 4): the Prism dies go into reset, the enables go low, PAIR_OWN is released and the
wake timer starts. No reset is recorded. -/
def sleepOff : Act :=
  Act.get fun s =>
    let islands := s.driveDies.filter fun d => !(s.supply d).chanOn
    Act.when (s.io.stage = .passed)
      (Act.all [
        Act.resetAll false,
        Act.each islands (fun d => Act.islandOff d),
        Act.enablesOff .off,
        Act.updIo fun m => { m with stage := .asleep, offAt := s.edges }])

/-- WAKE_START: the wake line is driven, and the regulators have been off for 10 ms. v is the lowest VBAT at drive die 0 in the
10 ms before: at START_TH or above a delay of 0 to JITTER_MS ms is drawn, and when it has passed the cold start begins from step 2;
below START_TH the start waits (R593 steps 2 to 4). -/
def wakeStart (v : Nat) : Act :=
  Act.get fun s =>
    let th := s.fld (WKP.START 0) WKP.START.START_TH
    let low := (if th = 0 then s.fld (SUP.THRESH 0) SUP.THRESH.SAG_TH else th) * 10
    Act.when (s.io.stage = .asleep ∧ s.io.wakeUp = true)
      (if v < low then Act.when (bit (s.reg (WKP.EVT 0)) 4 = false) (Act.event (WKP.EVT 0) 4)
       else
        Act.when (s.pastMs s.io.offAt 10 = true)
          (Act.seq
            (Act.when (s.io.jitter = none)
              (Act.freeBelow (s.fld (WKP.START 0) WKP.START.JITTER_MS + 1) fun n => Act.updIo fun m => { m with jitter := some (s.edges, n) }))
            (Act.get fun t =>
              Act.when (t.io.jitter.any (fun j => t.pastMs j.1 j.2) = true)
                (Act.seq (Act.updIo fun m => { m with stage := .awake, jitter := none }) Act.attempt))))

end Sys2Proof.Machine
end

