-- ==== Sys2Proof/Machine/Refuse.lean ====
section
/-! DEFINITION. The values a register refuses (R154): values outside a field's range, and values that break a rule of the
register's chapter. Registers whose write is a command of its own refuse their values where that command is described. -/

namespace Sys2Proof.Machine

/-- Is field f of v outside lo to hi? -/
def beyond (v : Word) (f : Fld) (lo hi : Nat) : Bool := decide (fget v f < lo) || decide (hi < fget v f)

/-- The values FAB and D2D refuse (R236 to R238, R246, R255). -/
def State.fabBad (s : State) (a : Nat) (v : Word) : Bool :=
  let p := aDie a
  let b := aBlk a
  let f := fun (k : Nat) => fget v ⟨8 * k, 8⟩
  let sum4 := f 0 + f 1 + f 2 + f 3
  let low := decide (f 0 < 16) || decide (f 1 < 16) || decide (f 2 < 16) || decide (f 3 < 16)
  let other := fun (w : Word) => fget w ⟨0, 8⟩ + fget w ⟨8, 8⟩ + fget w ⟨16, 8⟩ + fget w ⟨24, 8⟩
  if b = 0x08 then
    if a = FAB.CFG p then beyond v FAB.CFG.STORM_MS 10 10000
    else if a = FAB.HOP p then
      beyond v FAB.HOP.THRU_CELLS 512 32768 || beyond v FAB.HOP.THRU_QMAX 16 (fget v FAB.HOP.THRU_CELLS) ||
        (s.enabled p 0x09 && decide (122880 < s.minSum p + fget v FAB.HOP.THRU_CELLS))
    else a == FAB.SHARE p &&
      (beyond v FAB.SHARE.SE 1 46 || beyond v FAB.SHARE.CPU 1 46 || beyond v FAB.SHARE.EYE 1 46 ||
        decide (48 < fget v FAB.SHARE.SE + fget v FAB.SHARE.CPU + fget v FAB.SHARE.EYE))
  else if aReg a = 0 then low || decide (1536 < sum4 + other (s.reg (a + 1)))
  else aReg a == 1 && (low || decide (1536 < sum4 + other (s.reg (a - 1))))

/-- The port of CQ_CFG at register r, r from 0x400 on (R288). -/
def cqOf (r : Nat) : Nat := (r - 0x400) / 4

/-- The values QMGR refuses (R275, R281, R286). -/
def State.qmgrBad (s : State) (a : Nat) (v : Word) : Bool :=
  let p := aDie a
  let r := aReg a
  if a = QMGR.CFG p then beyond v QMGR.CFG.SHARED_WARN 0 122880
  else if 0x40 ≤ r ∧ r < 0xC0 then
    if r % 2 = 0 then beyond v QMGR.PROF_A.WEIGHT 1 63
    else
      beyond v QMGR.PROF_B.HEAD_KEEP 1 255 || beyond v QMGR.PROF_B.SPILL_TRIG 2 255 ||
        decide (fget v QMGR.PROF_B.SPILL_TRIG ≤ fget v QMGR.PROF_B.HEAD_KEEP) ||
        (fget v QMGR.PROF_B.SPILL == 1 && fget v QMGR.PROF_B.SPILL_MAX == 0)
  else if 0x400 ≤ r ∧ r < 0x500 ∧ r % 4 = 0 then
    let q := fget v QMGR.CQ_CFG.QUEUE
    let o := fget v QMGR.CQ_CFG.OWNER
    (qFacet q == 60 && (o == 1 || o == 2)) || (qFacet q == 63 && qFlow q != 0 && o == 3) ||
      (List.range 64).any fun n =>
        n != cqOf r && s.fld (QMGR.CQ_CFG p n) QMGR.CQ_CFG.OWNER != 0 && s.fld (QMGR.CQ_CFG p n) QMGR.CQ_CFG.QUEUE == q
  else false

/-- The values CLS refuses (R333, R336). -/
def State.clsBad (s : State) (a : Nat) (v : Word) : Bool :=
  let p := aDie a
  let r := aReg a
  if a = CLS.CFG p then
    beyond v CLS.CFG.AGE_S 10 1000000 ||
      (!(s.macEntries p).isEmpty && fget v CLS.CFG.HASH_SEED != s.fld a CLS.CFG.HASH_SEED)
  else if a = CLS.QUEUES p then !(isConsumer (fget v CLS.QUEUES.LL_QUEUE) && isConsumer (fget v CLS.QUEUES.EXCEPT_QUEUE))
  else if 0x100 ≤ r ∧ r < 0x200 then
    beyond v CLS.PORT.PVID 1 4094 || fget v CLS.PORT.ACCEPT == 3 || beyond v CLS.PORT.FLOOD_RATE 0 1000
  else false

/-- The values ETH of facet f refuses (R344, R347, R355, R368, R377 to R382). -/
def State.ethBad (s : State) (a : Nat) (v : Word) : Bool :=
  let p := aDie a
  let f := aBlk a - 0x20
  if a = ETH.MODE p f then
    let m := fget v ETH.MODE.MODE
    let fec := fget v ETH.MODE.FEC
    decide ((if f < 4 then 3 else if f < 12 then 4 else if f < 24 then 2 else 1) < m) || fec == 3 ||
      (fec == 2 && !(decide (f < 4) && m == 1)) ||
      (fec == 1 && !((decide (f < 4) && (m == 1 || m == 2)) || (decide (4 ≤ f) && decide (f < 12) && m == 1))) ||
      (decide (12 ≤ f) && (fget v ETH.MODE.CUT_RX == 1 || fget v ETH.MODE.CUT_TX == 1)) ||
      beyond v ETH.MODE.MAX_LEN 64 9216 || beyond v ETH.MODE.LINK_HOLD_MS 0 100 || beyond v ETH.MODE.UP_HOLD_MS 0 100 ||
      fget v ETH.MODE.ADDR_FILTER == 3
  else if a = ETH.FLOW p f then
    let m := fget v ETH.FLOW.FC_MODE
    m == 3 || (decide (24 ≤ f) && m != 0) || (decide (f < 4) && s.fld (ETH.MODE p f) ETH.MODE.MODE == 3 && m != 0) ||
      fget v ETH.FLOW.QUANTA == 0 || beyond v ETH.FLOW.LIMIT_MS 1 10000
  else if a = ETH.PLCA p f then
    beyond v ETH.PLCA.NODE_ID 0 254 || beyond v ETH.PLCA.NODE_COUNT 1 255 || beyond v ETH.PLCA.TO_TIMER 1 255 ||
      beyond v ETH.PLCA.BURST_TIMER 1 255
  else false

/-- Does a CAN bit timing break its ranges (R407)? t1, t2 and w bound TSEG1 and TSEG2; q is the least number of quanta; lo and hi
bound the bit in units of 5 ns (R391). -/
def timingBad (brp t1 t2 sjw : Nat) (b : Nat) (r1 : Nat × Nat) (r2 q lo hi : Nat) : Bool :=
  let n := brp * (1 + t1 + t2)
  decide (brp < 1) || decide (b < brp) || decide (t1 < r1.1) || decide (r1.2 < t1) || decide (t2 < 1) || decide (r2 < t2) ||
    decide (sjw < 1) || decide (r2 < sjw) || decide (t2 < sjw) || decide (1 + t1 + t2 < q) || decide (n < lo) || decide (hi < n)

/-- The values CAN of controller c refuses (R391, R407, R429, R430). -/
def State.canBad (s : State) (a : Nat) (v : Word) : Bool :=
  let p := aDie a
  let c := aBlk a - 0x40
  if a = CAN.CFG p c then
    fget v CAN.CFG.XL_EN == 1 && (s.canXcvr p c).isSome && fget v CAN.CFG.EXT == 0
  else if a = CAN.NBT p c then
    timingBad (fget v CAN.NBT.BRP) (fget v CAN.NBT.TSEG1) (fget v CAN.NBT.TSEG2) (fget v CAN.NBT.SJW) 256 (2, 256) 128 8 200 20000
  else if a = CAN.DBT p c then
    timingBad (fget v CAN.DBT.BRP) (fget v CAN.DBT.TSEG1) (fget v CAN.DBT.TSEG2) (fget v CAN.DBT.SJW) 32 (1, 64) 32 5 25 (2 ^ 48)
  else if a = CAN.XBT p c then
    timingBad (fget v CAN.XBT.BRP) (fget v CAN.XBT.TSEG1) (fget v CAN.XBT.TSEG2) (fget v CAN.XBT.SJW) 32 (1, 64) 32 5 10 (2 ^ 48) ||
      beyond v CAN.XBT.PWMS 1 63 || beyond v CAN.XBT.PWML 1 63
  else a == CAN.FILT_CFG p c && beyond v CAN.FILT_CFG.COUNT 0 1024

/-- The values LIN of controller c refuses (R435, R436). -/
def linBad (a : Nat) (v : Word) : Bool :=
  let p := aDie a
  let c := aBlk a - 0x50
  if a = LIN.CFG p c then beyond v LIN.CFG.BIT_TIME 5000 100000 || beyond v LIN.CFG.BREAK 13 26
  else decide (0x10 ≤ aReg a) && decide (aReg a < 0x18) &&
    (beyond v LIN.TBL.LEN 0 256 || decide (4096 < fget v LIN.TBL.FIRST + fget v LIN.TBL.LEN))

/-- The values SGW and WBR refuse (R473, R491, R493). -/
def State.gwBad (s : State) (a : Nat) (v : Word) : Bool :=
  let p := aDie a
  let r := aReg a
  if aBlk a = 0x60 then
    if a = SGW.CFG p then
      fget v SGW.CFG.CTS_PKTS == 0 ||
        (decide (s.beamEntries p ≠ 0) && fget v SGW.CFG.HASH_SEED != s.fld a SGW.CFG.HASH_SEED)
    else a == SGW.QUEUES p && !(isConsumer (fget v SGW.QUEUES.FW_QUEUE) && isConsumer (fget v SGW.QUEUES.MSG_QUEUE))
  else if a = WBR.CFG p then beyond v WBR.CFG.HOLD_NS 0 2000 || beyond v WBR.CFG.LOCK_US 10 100
  else if a = WBR.AGENT p then fget v WBR.AGENT.RIGHTS == 3
  else if 0x100 ≤ r ∧ r < 0x300 then
    if r % 2 = 0 then
      beyond v WBR.WIN_A.SIZE_LOG 0 13 || fget v WBR.WIN_A.FAR_BASE % 2 ^ fget v WBR.WIN_A.SIZE_LOG != 0
    else fget v WBR.WIN_B.TIMEOUT == 0
  else false

/-- The values KEYS, CIPH and MSEC refuse (R501, R539, R542, R545, R546). -/
def keysBad (a : Nat) (v : Word) : Bool :=
  let p := aDie a
  let r := aReg a
  let b := aBlk a
  if b = 0x68 then
    if a = KEYS.CFG p then beyond v KEYS.CFG.RESILVER_MS 100 10000
    else decide (0x1000 ≤ r) && decide (r < 0x1400) &&
      (fget v KEYS.POL.DIR == 0 ||
        (bit v 3 && (bit v 11 || bit v 12)) ||
        (bit v 15 && !bit v 8))
  else if b = 0x69 then
    decide (0x40 ≤ r) && decide (r < 0x60) && (fget v CIPH.FLOW.OP == 3 || fget v CIPH.FLOW.NEXT_FACET % 64 == 61)
  else decide (r < 12) && fget v MSEC.PORT.VALIDATE == 3

/-- The first facet word of PN k's members on die d and the words of every PN there (R605). -/
def State.pnTaken (s : State) (r : Nat) (v : Word) : Bool :=
  (List.range 16).any fun k =>
    let q := 0x200 + 8 * k + (r - 0x200) % 8
    q != r && decide (s.reg (ra 0 0x71 q) &&& v ≠ 0)

/-- The values WAKE refuses (R601, R605). -/
def State.wakeBad (s : State) (a : Nat) (v : Word) : Bool :=
  let r := aReg a
  if r = 0 then
    beyond v WAKE.CFG.KA_PERIOD_MS 10 1000 || beyond v WAKE.CFG.SILENCE_MS 200 16000 || beyond v WAKE.CFG.MIN_AWAKE_MS 0 16000 ||
      decide (fget v WAKE.CFG.SILENCE_MS < 3 * fget v WAKE.CFG.KA_PERIOD_MS)
  else if r = 1 then
    beyond v WAKE.CFG_B.CONFIRM_MS 100 16000 || beyond v WAKE.CFG_B.ROUND_MS 10 255 || beyond v WAKE.CFG_B.NOTICE_MS 0 1000 ||
      beyond v WAKE.CFG_B.TOKEN_LOST_MS 20 1000 || beyond v WAKE.CFG_B.LIN_PULSE_US 3 50 ||
      decide (fget v WAKE.CFG_B.TOKEN_LOST_MS < 2 * fget v WAKE.CFG_B.ROUND_MS)
  else if r = 2 then
    beyond v WAKE.ADM.BUDGET_A 1 255 || beyond v WAKE.ADM.WINDOW_MS 1 31 || beyond v WAKE.ADM.SAG_PCT 0 100 || beyond v WAKE.ADM.PD_CLAIM 1 255 ||
      beyond v WAKE.ADM.SLOT_MS 1 15 || beyond v WAKE.ADM.WAIT_WARN_MS 1 1000
  else if 0x200 ≤ r ∧ r < 0x280 then decide (s.x ≤ (r - 0x200) % 8 / 2) || s.pnTaken r v
  else false

/-- The values CPU and WDT refuse (R660, R690, R693). -/
def State.cpuBad (s : State) (a : Nat) (v : Word) : Bool :=
  let r := aReg a
  if aBlk a = 0x78 then
    if 0x200 ≤ r ∧ r < 0x280 then
      let lo := fget v CPU.MWIN.BASE
      let n := fget v CPU.MWIN.SIZE
      n != 0 && !(decide (lo + n ≤ 1024) ||
        (s.fuse.memUsed && decide (0x1000000 ≤ lo) && decide (lo + n ≤ 0x1000000 + 2 ^ 21)))
    else decide (0x300 ≤ r) && decide (r < 0x400) && fget v CPU.SCHED.LEN == 0
  else if r = 0 then
    beyond v WDT.SAFE.TIMEOUT_MS 10 10000 || decide (fget v WDT.SAFE.TIMEOUT_MS ≤ fget v WDT.SAFE.WIN_MS) ||
      beyond v WDT.SAFE.FIRST_MS 10 16383
  else decide (0x10 ≤ r) && decide (r < 0x20) &&
    ((fget v WDT.P.TIMEOUT_MS != 0 && decide (fget v WDT.P.TIMEOUT_MS ≤ fget v WDT.P.WIN_MS)) || beyond v WDT.P.FIRST_MS 1 16383)

/-- The values PLX, PSCP and EYE refuse (R181, R188, R711, R713, R743). -/
def State.leadBad (s : State) (a : Nat) (v : Word) : Bool :=
  let r := aReg a
  let b := aBlk a
  if b = 0x02 then
    if r = 0 then fget v EYE.CTRL.REMOTE_TO == 0
    else decide (0x10 ≤ r) && decide (r < 0x14) && decide (s.x ≤ r - 0x10) && decide (fget v ⟨0, 32⟩ ≠ 0)
  else if b = 0x72 then
    if r = 0 then fget v PLX.CFG.HOPS == 0
    else if r = 1 then beyond v PLX.TIMING.KA_MS 100 60000 || beyond v PLX.TIMING.AGE_KA 2 15
    else if r = 3 then fget v ⟨0, 14⟩ != 0
    else r == 0x0B && fget v PLX.SERVE.EN == 1 && !s.fuse.memUsed
  else
    if r = 0 then beyond v PSCP.CFG.FLUSH_MS 10 1000
    else r == 2 && (fget v PSCP.NVME.NSID == 0 || fget v PSCP.NVME.NSID == 0xFFFFFFFF)

/-- The values the posted registers of drive die d refuse (R60, R438, R590, R606). -/
def State.slowBad (s : State) (a : Nat) (v : Word) : Bool :=
  let d := aDie a - 4
  let r := aReg a
  let b := aBlk a
  if b = 0x01 then
    r == 1 &&
      (beyond v SUP.THRESH.SAG_TH 60 480 ||
        (d == 0 && (beyond v SUP.THRESH.RESET_TH 50 400 || decide (fget v SUP.THRESH.SAG_TH < fget v SUP.THRESH.RESET_TH + 5))))
  else if b = 0x2B then
    r == 2 && (List.range 4).any fun j => fget v ⟨4 * j, 2⟩ == 2
  else if b = 0x2C then
    if r = 1 then s.rankOf d ≥ 2 && decide (fget v ⟨0, 12⟩ ≠ 0)
    else if r = 3 then
      beyond v WKP.XCVR_WAKE.CAN_FILT 1 10 || beyond v WKP.XCVR_WAKE.LIN_FILT 1 10 || beyond v WKP.XCVR_WAKE.LIN_DOM 30 150 ||
        beyond v WKP.XCVR_WAKE.ERR_LIMIT 1 31
    else r == 0x0E && beyond v WKP.PIN_CFG.PIN_FILT_MS 1 63
  else false

/-- The values the channel-control registers of a drive die refuse (R645, R650). -/
def ctrlValueBad (a : Nat) (v : Word) : Bool :=
  let r := aReg a
  let b := aBlk a
  if b = 0x28 then
    decide (r < 0x20) &&
      (beyond v IN.CFG.TH_HI 0 600 || decide (fget v IN.CFG.TH_HI < fget v IN.CFG.TH_LO) || beyond v IN.CFG.WET 0 20 ||
        fget v IN.CFG.PERIOD == 7)
  else decide (0x08 ≤ b) && decide (b ≤ 0x23) && decide (r < 2) && chnCfgBad (b - 8) r v

/-- Does register a refuse the value v (R154)? -/
def State.refuses (s : State) (a : Nat) (v : Word) : Bool :=
  let b := aBlk a
  let r := aReg a
  if aDie a < 4 then
    match b with
    | 0x02 => s.leadBad a v
    | 0x08 => s.fabBad a v
    | 0x09 => s.qmgrBad a v
    | 0x10 => s.clsBad a v
    | 0x13 =>
      (r == 0 && beyond v TDMA.CFG.LOCK_MAX_MS 1 10000) ||
        (decide (0x20 ≤ r) && decide (r < 0x30) && decide (r % 4 = 1) && fget v TDMA.JOB_MEM.ADDR % 8 != 0)
    | 0x60 => s.gwBad a v
    | 0x61 => s.gwBad a v
    | 0x68 => keysBad a v
    | 0x69 => keysBad a v
    | 0x6A => keysBad a v
    | 0x70 => s.pairCfgBad r v
    | 0x71 => s.wakeBad a v
    | 0x72 => s.leadBad a v
    | 0x78 => s.cpuBad a v
    | 0x7A => s.cpuBad a v
    | 0x81 => s.leadBad a v
    | 0x82 => r == 5 && beyond v TIME.PTP_NS.NS 0 999999999
    | _ =>
      if 0x20 ≤ b ∧ b ≤ 0x3F then s.ethBad a v
      else if 0x40 ≤ b ∧ b ≤ 0x4F then s.canBad a v
      else if 0x50 ≤ b ∧ b ≤ 0x57 then linBad a v
      else if 0x58 ≤ b ∧ b ≤ 0x5A then s.fabBad a v
      else false
  else if blockSlow b then s.slowBad a v
  else ctrlValueBad a v

end Sys2Proof.Machine
end

