-- ==== Sys2Proof/Machine/Tables.lean ====
section
/-! DEFINITION. Tables: the longest-prefix memory, table DMA and region locks (R313, R316, R327 to R332). -/

namespace Sys2Proof.Machine

/-! ## The longest-prefix memory (R313, R316, R338) -/

/-- The words of the k-th slot of a route (R332). -/
def Route.slotWords (r : Route) (k : Nat) : List Word :=
  [word [(⟨0, 2⟩, if r.v6 then (if k = 0 then 2 else 3) else 1), (⟨2, 8⟩, if k = 0 then r.len else 0),
     (⟨10, 12⟩, if k = 0 then r.hop else 0), (⟨22, 16⟩, if k = 0 then r.stamp else 0)],
   BitVec.ofNat 48 (if r.v6 then r.addr / 2 ^ (96 - 32 * k) % 2 ^ 32 else r.addr % 2 ^ 32)]

/-- Write the slots of a route. -/
def Act.putRoute (p : Nat) (r : Route) : Act :=
  Act.each (List.range r.slots) fun k => Act.setTblWords p 0x44 (r.slot + k) (r.slotWords k)

/-- Empty the slots of a route. -/
def Act.dropRoute (p : Nat) (r : Route) : Act :=
  Act.each (List.range r.slots) fun k => Act.setTblWords p 0x44 (r.slot + k) [0, 0]

/-- Routes placed in their order from a slot on, without gaps. -/
def packRoutes : Nat → List Route → List Route
  | _, [] => []
  | o, r :: l => { r with slot := o } :: packRoutes (o + r.slots) l

/-- A route put into a list kept longest prefix first, after those of its own length (R313). -/
def insertRoute (r : Route) : List Route → List Route
  | [] => [r]
  | x :: l => if r.len ≤ x.len then x :: insertRoute r l else r :: x :: l

/-- The slots in use. -/
def routeSlots (l : List Route) : Nat := (l.map Route.slots).sum

/-- The route with the lowest STAMP: the oldest insert (R316). -/
def oldest (l : List Route) : Option Route :=
  l.foldl (fun o r => match o with
    | none => some r
    | some x => if r.stamp < x.stamp then some r else some x) none

/-- Report an entry in LPM.KEY and CMD.LEN (R316, R338). -/
def Act.lpmKey (p : Nat) (r : Route) : Act :=
  Act.all [
    Act.setReg (LPM.KEY_0 p) (BitVec.ofNat 48 r.addr),
    Act.setReg (LPM.KEY_1 p) (BitVec.ofNat 48 (r.addr / 2 ^ 48)),
    Act.setReg (LPM.KEY_2 p) (BitVec.ofNat 48 (r.addr / 2 ^ 96)),
    Act.setFlds (LPM.CMD p) [(LPM.CMD.V6, b2n r.v6), (LPM.CMD.LEN, r.len)]]

/-- Evict one route (R316): counted, reported. -/
def Act.lpmEvict (p : Nat) (r : Route) : Act :=
  Act.all [Act.dropRoute p r, Act.count (LPM.CNT p 4), Act.event (LPM.EVT p) 0, Act.lpmKey p r]

/-- Evict routes until n slots are free (R316); the first argument bounds the evictions. -/
def Act.lpmRoom (p n : Nat) : Nat → Act
  | 0 => Act.skip
  | k + 1 =>
    Act.get fun s =>
      let l := s.routes p
      if routeSlots l + n ≤ 16384 then Act.skip
      else
        Act.seq
          (if s.fld (LPM.CFG p) LPM.CFG.EVICT = 0 then
             Act.freeBelow l.length fun i => Act.opt l[i]? fun r => Act.lpmEvict p r
           else Act.opt (oldest l) fun r => Act.lpmEvict p r)
          (Act.lpmRoom p n k)

/-- Where the unbroken run of entries that begins at slot e, the first of a list in slot order, ends. -/
def runEnd (e : Nat) : List Route → Nat
  | [] => e
  | x :: l => if x.slot = e then runEnd (e + x.slots) l else e

/-- That run moved up by one slot, into the free slot after it. -/
def shiftUp (e : Nat) : List Route → List Route
  | [] => []
  | x :: l => if x.slot = e then { x with slot := e + 1 } :: shiftUp (e + x.slots) l else x :: l

/-- Where the unbroken run of entries that ends at slot e, the first of a list in falling slot order, begins. -/
def runStart (e : Nat) : List Route → Nat
  | [] => e
  | x :: l => if x.slot + x.slots = e then runStart x.slot l else e

/-- That run moved down by one slot, into the free slot before it. -/
def shiftDown (e : Nat) : List Route → List Route
  | [] => []
  | x :: l => if x.slot + x.slots = e then { x with slot := x.slot - 1 } :: shiftDown x.slot l else x :: l

/-- Open a gap of n slots between the routes before a place, nearest first, and those after it: each step moves the run on the side of
the nearer free slot by one slot, the side after it where both are as near (R316, log entry 24). -/
def openGap (n : Nat) : Nat → List Route → List Route → List Route × List Route
  | 0, b, a => (b, a)
  | k + 1, b, a =>
    let lo := b.head?.elim 0 fun x => x.slot + x.slots
    let hi := a.head?.elim 16384 fun x => x.slot
    let e := runEnd hi a
    let d := runStart lo b
    if lo + n ≤ hi then (b, a)
    else if e < 16384 ∧ (d = 0 ∨ e - hi ≤ lo - d) then openGap n k b (shiftUp hi a)
    else openGap n k (shiftDown lo b) a

/-- Place a route among those of die p in their order: in the gap where it stands, or in one opened there (R316, log entry 24). -/
def Act.placeRoute (p : Nat) (r : Route) : Act :=
  Act.get fun s =>
    let l := s.routes p
    let g := openGap r.slots 4 (l.filter fun x => Nat.ble r.len x.len).reverse (l.filter fun x => Nat.blt x.len r.len)
    let slot := g.1.head?.elim 0 fun x => x.slot + x.slots
    let moved := (g.1 ++ g.2).filter fun x => !l.contains x
    Act.all [
      Act.each (l.filter fun x => !(g.1 ++ g.2).contains x) (Act.dropRoute p),
      Act.each moved (Act.putRoute p),
      Act.putRoute p { r with slot := slot },
      Act.setFld (LPM.CMD p) LPM.CMD.SLOT slot]

/-- The address in LPM.KEY for a family. -/
def State.lpmAddr (s : State) (p : Nat) (v6 : Bool) : Nat :=
  if v6 then
    (s.reg (LPM.KEY_0 p)).toNat + (s.reg (LPM.KEY_1 p)).toNat * 2 ^ 48 + (s.reg (LPM.KEY_2 p)).toNat * 2 ^ 96
  else (s.reg (LPM.KEY_0 p)).toNat % 2 ^ 32

/-- Is any region of the longest-prefix memory locked (R316)? -/
def State.lpmLocked (s : State) (p : Nat) : Bool := s.fld (TDMA.LOCK p 2) TDMA.LOCK.REGIONS != 0

/-- The route of die p with a family, address and length. -/
def State.lpmFind (s : State) (p : Nat) (v6 : Bool) (len : Nat) : Option Route :=
  (s.routes p).find? fun r => r.v6 == v6 && r.len == len && r.addr == s.lpmAddr p v6

/-- Report the result of LPM.CMD. -/
def Act.lpmResult (p n : Nat) : Act := Act.setFld (LPM.CMD p) LPM.CMD.RESULT n

/-- LPM.CMD OP 1: insert (R316). -/
def Act.lpmInsert (p : Nat) (v6 : Bool) (len hop : Nat) : Act :=
  Act.get fun s =>
    if s.lpmLocked p then Act.lpmResult p 5
    else
      match s.lpmFind p v6 len with
      | some r =>
        Act.all [Act.putRoute p { r with hop := hop }, Act.setFld (LPM.CMD p) LPM.CMD.SLOT r.slot, Act.lpmResult p 2]
      | none =>
        let r : Route := { v6 := v6, len := len, hop := hop, stamp := s.lpmSeq p % 65536, addr := s.lpmAddr p v6 }
        let full := decide (16384 < routeSlots (s.routes p) + r.slots)
        Act.all [
          Act.setLpmSeq p ((s.lpmSeq p + 1) % 65536),
          Act.lpmRoom p r.slots 4,
          Act.placeRoute p r,
          Act.lpmResult p (if full then 4 else 2)]

/-- LPM.CMD OP 2: delete (R316). -/
def Act.lpmDelete (p : Nat) (v6 : Bool) (len : Nat) : Act :=
  Act.get fun s =>
    if s.lpmLocked p then Act.lpmResult p 5
    else
      match s.lpmFind p v6 len with
      | some r => Act.seq (Act.dropRoute p r) (Act.lpmResult p 2)
      | none => Act.lpmResult p 3

/-- LPM.CMD OP 3: find the entry that a lookup of ADDR would choose (R316). -/
def Act.lpmLookup (p : Nat) (v6 : Bool) : Act :=
  Act.get fun s =>
    match s.routeOf p v6 (s.lpmAddr p v6) with
    | some r => Act.setFlds (LPM.CMD p) [(LPM.CMD.SLOT, r.slot), (LPM.CMD.NEXT_HOP, r.hop), (LPM.CMD.RESULT, 2)]
    | none => Act.lpmResult p 3

/-- A write of LPM.CMD (R316, R338). -/
def lpmCmd (ag : Agent) (p : Nat) (v : Word) (k : Code → Act) : Act :=
  let a := LPM.CMD p
  let v6 := fget v LPM.CMD.V6 == 1
  let len := fget v LPM.CMD.LEN
  if (if v6 then 128 else 32) < len then Act.badValue a ag k
  else
    Act.all [
      Act.store a v,
      (match fget v LPM.CMD.OP with
       | 1 => Act.lpmInsert p v6 len (fget v LPM.CMD.NEXT_HOP)
       | 2 => Act.lpmDelete p v6 len
       | 3 => Act.lpmLookup p v6
       | _ => Act.skip),
      k .ok]

/-! ## Table DMA (R327 to R329, R343) -/

/-- Entries of a table (R300, R313, R317, R319, R323, R332). -/
def tblSize (t : Nat) : Nat :=
  match t with
  | 0x43 => 262144
  | 0x44 => 16384
  | 0x48 => 16384
  | _ => 4096

/-- Words of an entry of a table (R332). -/
def tblEntryWords (t : Nat) : Nat :=
  match t with
  | 0x43 => 2
  | 0x44 => 2
  | 0x45 => 2
  | 0x48 => 1
  | _ => 4

/-- The bits that word w of an entry of a table implements (R332); reserved bits are zero. -/
def tblMask (t w : Nat) : Word :=
  match t, w with
  | 0x42, 0 => 0xFFFFFFFFFFF
  | 0x42, 1 => 0x7FFFFFFFFFFF
  | 0x42, _ => 0xFFFFFFFF
  | 0x43, 1 => 0x7FFFFFFF
  | 0x45, 1 => 0x3FFFFF
  | 0x46, 1 => 0xFFFFFFFFF
  | 0x46, 2 => 0x1FFFFFFFF
  | 0x46, 3 => 0x3FFFFFF
  | 0x47, 2 => 0x3F
  | 0x47, 3 => 0
  | 0x48, 0 => 0xFFFFFFFFFF
  | _, _ => 0xFFFFFFFFFFFF

/-- The words of entry i of a table as they are read; word 3 of a meter shows its levels (R332). -/
def State.tblRead (s : State) (p t i : Nat) : List Word :=
  if t = 0x47 then
    let m := s.meterNow p i
    s.tblWords p t i 3 ++ [word [(⟨0, 24⟩, m.1 / 1000000), (⟨24, 24⟩, m.2 / 1000000)]]
  else s.tblWords p t i (tblEntryWords t)

/-- The other entries of the bucket of index i that hold a key (R300). -/
def State.macTwins (s : State) (p i fid mac : Nat) : List Nat :=
  ((List.range 8).map fun w => i / 8 * 8 + w).filter fun j => j != i && s.macIs p j fid mac

/-- Put an entry into the MAC table; the notices of R308 follow where the old or the new entry is local and not STATIC
(R329, log entry 127). Another entry of its bucket with its key is removed (R300, log entry 126). -/
def Act.macPut (p i : Nat) (w0 w1 : Word) : Act :=
  Act.get fun s =>
    let old := s.mac1 p i
    let same := s.macIs p i (fget w1 MacE.FID) w0.toNat && fget w1 MacE.VALID == 1
    Act.all [
      Act.when (fget w1 MacE.VALID = 1) (Act.each (s.macTwins p i (fget w1 MacE.FID) w0.toNat) (Act.macRemove p)),
      Act.when (fget old MacE.VALID = 1 ∧ same = false) (Act.macRemove p i),
      Act.setTblWords p 0x43 i [w0, w1],
      Act.when (fget w1 MacE.VALID = 1 ∧ fget w1 MacE.STATIC = 0 ∧ fget w1 MacE.REMOTE = 0 ∧ fget w1 MacE.KIND = 0)
        (Act.notice p true (fget w1 MacE.FID) w0.toNat (fget w1 MacE.DEST % 256))]

/-- A meter's buckets are filled (R319, R329). -/
def Act.fillMeter (p m : Nat) : Act :=
  Act.get fun s =>
    let w1 := s.tbl p 0x47 m 1
    Act.seq (Act.setMtrC (4096 * p + m) { level := fget w1 ⟨0, 24⟩ * 1000000, last := s.time p })
      (Act.setMtrE (4096 * p + m) { level := fget w1 ⟨24, 24⟩ * 1000000, last := s.time p })

/-- Write entry i of a table with its words (R329, R332). -/
def Act.tblPut (p t i : Nat) (l : List Word) : Act :=
  let m := (List.range (tblEntryWords t)).map fun w => l.getD w 0 &&& tblMask t w
  if t = 0x43 then Act.macPut p i (m.getD 0 0) (m.getD 1 0)
  else if t = 0x47 then Act.seq (Act.setTblWords p t i m) (Act.fillMeter p i)
  else Act.setTblWords p t i m

/-- Does an entry hold a value that R332 refuses, or a REMOTE MAC entry (R328)? -/
def tblRefused (t : Nat) (l : List Word) : Bool :=
  match t with
  | 0x43 => fget (l.getD 1 0) MacE.REMOTE == 1
  | 0x45 => fget (l.getD 1 0) ⟨20, 2⟩ == 3
  | 0x46 =>
    let n := fget (l.getD 3 0) ⟨0, 14⟩
    n != 0 && decide (n < 64 ∨ 9216 < n)
  | 0x48 => fget (l.getD 0 0) ⟨8, 32⟩ == 0
  | _ => false

/-- Is entry i of table 0x48 a gate entry of the operating bank of its facet (R325)? -/
def State.gateBusy (s : State) (p i : Nat) : Bool :=
  i / 256 % 2 == s.fld (PSFP.GCL_STAT p (i / 512 % 32)) PSFP.GCL_STAT.OPER_BANK

/-- Word i of the staging buffer. -/
def State.tdmaBuf (s : State) (p i : Nat) : Word := s.reg (TDMA.BUF p i)

/-- The entry a WRITE finds as its e-th one: from the staging buffer, or from memory at ADDR. -/
def State.tdmaSrc (s : State) (p t e : Nat) (mem : Option Nat) : List Word :=
  let n := tblEntryWords t
  match mem with
  | none => (List.range n).map fun w => s.tdmaBuf p (e * n + w)
  | some a => (List.range n).map fun w => BitVec.ofNat 48 (s.memWord p (a + 8 * (e * n + w)))

/-- Is a job refused (R328)? mem is the address of a memory job. -/
def State.tdmaRefused (s : State) (p t op i n : Nat) (mem : Option Nat) : Bool :=
  let allowed :=
    match op with
    | 1 => true
    | 2 => t != 0x44 && t != 0x49
    | _ => t == 0x43
  let range := decide (tblSize t < i + n) || (mem.isNone && decide (64 < n * tblEntryWords t))
  !allowed || range ||
    (op == 2 && (List.range n).any fun e => tblRefused t (s.tdmaSrc p t e mem) || (t == 0x48 && s.gateBusy p (i + e)))

/-- May a job reach entry e in memory: do the windows of the partition it acts for cover it, with R for a WRITE and W for a READ
(R327, R660)? -/
def State.tdmaReach (s : State) (p e : Nat) (u : TdmaJob) : Bool :=
  let b := 8 * tblEntryWords u.table
  u.mem.all fun a => s.windowOk p u.part (a + e * b) b (if u.op = 1 then 46 else 45)

/-- Store entry e of a READ. -/
def Act.tdmaDst (p t e : Nat) (l : List Word) (mem : Option Nat) : Act :=
  let n := tblEntryWords t
  Act.each (List.range n) fun w =>
    match mem with
    | none => Act.setReg (TDMA.BUF p (e * n + w)) (l.getD w 0)
    | some a => Act.memSetWord p (a + 8 * (e * n + w)) (l.getD w 0)

/-- A FIND, INSERT or DELETE by the key in the staging buffer (R328). -/
def Act.tdmaKeyed (p j : Nat) (u : TdmaJob) : Act :=
  Act.get fun s =>
    let done := fun result moved index =>
      Act.setTjob (4 * p + j) (some { u with left := 0, result := result, moved := moved, index := index })
    let mac := (s.tdmaBuf p 0).toNat
    let fid := fget (s.tdmaBuf p 1) MacE.FID
    let put := fun x => Act.seq (Act.tblPut p 0x43 x [s.tdmaBuf p 0, s.tdmaBuf p 1]) (done 2 1 x)
    match u.op, s.macFind p fid mac with
    | 3, some x =>
      Act.all [Act.setReg (TDMA.BUF p 0) (s.tbl p 0x43 x 0), Act.setReg (TDMA.BUF p 1) (s.mac1 p x), done 2 1 x]
    | 4, some x => put x
    | 4, none =>
      Act.macRoom p fid mac fun o =>
        match o with
        | some x => Act.seq (Act.macEvict p x) (put x)
        | none => done 6 0 0
    | 5, some x => Act.seq (Act.macRemove p x) (done 2 1 0)
    | _, _ => done 3 0 0

/-- One entry of the job of channel j moves; a denied access to memory stops it there (R327, R328). -/
def Act.tdmaStep (p j : Nat) : Act :=
  Act.get fun s =>
    Act.opt (s.tjob (4 * p + j)) fun u =>
      let e := u.moved
      let next := Act.setTjob (4 * p + j) (some { u with left := u.left - 1, moved := e + 1 })
      if u.left = 0 then Act.skip
      else if 2 < u.op then Act.tdmaKeyed p j u
      else if s.tdmaReach p e u = false then Act.setTjob (4 * p + j) (some { u with left := 0, result := 5 })
      else if u.op = 1 then Act.seq (Act.tdmaDst p u.table e (s.tblRead p u.table (u.first + e)) u.mem) next
      else Act.seq (Act.tblPut p u.table (u.first + e) (s.tdmaSrc p u.table e u.mem)) next

/-- The jobs of die p move their entries in turn, n of each (R327). -/
def Act.tdmaRounds (p : Nat) : Nat → Act
  | 0 => Act.skip
  | n + 1 => Act.seq (Act.each (List.range 4) (Act.tdmaStep p)) (Act.tdmaRounds p n)

/-- Is a source the host, of this device or through another one? -/
def Agent.isHost : Agent → Bool
  | .spi => true
  | .eth => true
  | .remote _ => true
  | _ => false

/-- The partition of a source; 16 where it is none. -/
def Agent.partOr : Agent → Nat
  | .fw _ part _ _ => part
  | _ => 16

/-- Accept a job, or note its refusal; it ends at TDMA_JOB_DONE (R328). -/
def Act.tdmaStart (p j part t op i n : Nat) (mem : Option Nat) : Act :=
  Act.get fun s =>
    Act.setTjob (4 * p + j) (some (
      if s.tdmaRefused p t op i n mem then { result := 4 }
      else { op := op, table := t, first := i, left := n, mem := mem, part := part }))

/-- A write of TDMA.JOB_k (R328, R343). -/
def tdmaJob (ag : Agent) (p j : Nat) (v : Word) (k : Code → Act) : Act :=
  let a := TDMA.JOB p j
  let t := fget v TDMA.JOB.TABLE
  let op := fget v TDMA.JOB.OP
  let m := fget v TDMA.JOB.MEM
  Act.get fun s =>
    if s.fld (TDMA.JOB_STAT p j) TDMA.JOB_STAT.RESULT = 1 ∨ t < 0x42 ∨ 0x49 < t ∨ 5 < op then Act.badValue a ag k
    else if m = 1 ∧ ag.isHost then k .denied
    else if op = 0 then Act.seq (Act.store a v) (k .ok)
    else
      Act.all [
        Act.store a v,
        Act.setReg (TDMA.JOB_STAT p j) (word [(TDMA.JOB_STAT.RESULT, 1)]),
        Act.tdmaStart p j ag.partOr t op (fget v TDMA.JOB.INDEX) (fget v TDMA.JOB.COUNT + 1)
          (if m = 1 then some (s.fld (TDMA.JOB_MEM p j) TDMA.JOB_MEM.ADDR) else none),
        k .ok]

/-- TDMA_JOB_DONE: the job of channel j ends and reports; the jobs of the other channels have moved as many entries meanwhile (R327,
R328, R343). With TDMA in its disabled safe state no job runs. -/
def tdmaJobDone (p j : Nat) : Act :=
  Act.get fun s =>
    Act.when (s.enabled p 0x13 = true) <|
    Act.opt (s.tjob (4 * p + j)) fun w =>
    Act.seq (Act.tdmaRounds p w.left) <| Act.get fun t =>
    Act.opt (t.tjob (4 * p + j)) fun u =>
      Act.all [
        Act.setReg (TDMA.JOB_STAT p j)
          (word [(TDMA.JOB_STAT.RESULT, u.result), (TDMA.JOB_STAT.DONE_COUNT, u.moved - 1), (TDMA.JOB_STAT.INDEX, u.index)]),
        Act.setTjob (4 * p + j) none,
        Act.event (TDMA.EVT p) 0,
        Act.when (u.result = 4 ∨ u.result = 5 ∨ u.result = 6) (Act.event (TDMA.EVT p) 1)]

/-! ## Region locks (R330, R342) -/

/-- A write of TDMA.LOCK_t. -/
def tdmaLock (p t : Nat) (v : Word) (k : Code → Act) : Act :=
  Act.get fun s =>
    Act.all [
      Act.store (TDMA.LOCK p t) v,
      Act.each ((List.range 32).filter fun r => bit v r) (fun r => Act.setLockedAt ((8 * p + t) * 32 + r) s.edges),
      k .ok]

/-- TDMA_LOCK_EXPIRE: lock bit r of table t has been held for LOCK_MAX_MS and is cleared (R330). -/
def tdmaLockExpire (p t r : Nat) : Act :=
  Act.get fun s =>
    let a := TDMA.LOCK p (t % 8)
    Act.when (bit (s.reg a) (r % 32) = true ∧
        s.pastMs (s.lockedAt ((8 * p + t % 8) * 32 + r % 32)) (s.fld (TDMA.CFG p) TDMA.CFG.LOCK_MAX_MS) = true)
      (Act.seq (Act.setReg a (clearBit (s.reg a) (r % 32))) (Act.event (TDMA.EVT p) 2))

end Sys2Proof.Machine
end

