-- ==== Sys2Proof/Machine/Blocks.lean ====
section
/-! DEFINITION. Blocks: enabling and disabling (R145, R149, R152), what each block does on the way into and out of its disabled
safe state, and parity (R150, R151). -/

namespace Sys2Proof.Machine

/-! ## Enabling (R145, R149, R152) -/

/-- Is a write of 1 to ENABLE of block b of die field d refused (R154): R255, R266, R344, R352, R365, R368, R392, R401, R546, R553,
R662? -/
def State.enableBad (s : State) (d b : Nat) : Bool :=
  if 4 ≤ d then false
  else if b = 0x09 then decide (122880 < s.minSum d + s.fld (FAB.HOP d) FAB.HOP.THRU_CELLS)
  else if b = 0x0A then
    let lo := s.fld (SPILL.REGION d) SPILL.REGION.BASE
    let n := s.fld (SPILL.REGION d) SPILL.REGION.SIZE
    !s.fuse.memUsed || n == 0 || decide (4096 < lo + n) ||
      (List.range 128).any fun w =>
        let v := s.reg (CPU.MWIN d w)
        let from4 := fget v CPU.MWIN.BASE * 4096
        let len := fget v CPU.MWIN.SIZE * 4096
        len != 0 && decide (from4 < 0x1000000000 + (lo + n) * 2 ^ 21) && decide (0x1000000000 + lo * 2 ^ 21 < from4 + len)
  else if 0x20 ≤ b ∧ b ≤ 0x3F then
    let f := b - 0x20
    let r := s.reg (ETH.RXBUF d f)
    let mode := s.fld (ETH.MODE d f) ETH.MODE.MODE
    mode == 0 || s.clk.internalOnly ||
      (s.flag (ETH.FLOW d f) ETH.FLOW.SEND && s.reg (ETH.MATCH d f 0) == 0) ||
      !(decide (fget r ETH.RXBUF.XON < fget r ETH.RXBUF.XOFF) && decide (fget r ETH.RXBUF.XOFF ≤ fget r ETH.RXBUF.XOFF_TOTAL) &&
        decide (fget r ETH.RXBUF.XOFF_TOTAL ≤ fget r ETH.RXBUF.SIZE)) ||
      (decide (f < 4) && mode == 3 && s.fld (ETH.FLOW d f) ETH.FLOW.FC_MODE != 0)
  else if 0x40 ≤ b ∧ b ≤ 0x4F then
    let a := CAN.FILT_CFG d (b - 0x40)
    s.clk.internalOnly || (s.can (canKey d (b - 0x40))).clockDead ||
      decide (8192 < s.fld a CAN.FILT_CFG.BASE + s.fld a CAN.FILT_CFG.COUNT)
  else if 0x50 ≤ b ∧ b ≤ 0x57 then s.clk.internalOnly || (s.lin (linKey d (b - 0x50))).clockDead
  else if b = 0x6A then
    (List.range 4).any fun f =>
      s.flag (MSEC.PORT d f) MSEC.PORT.EN && s.fld (ETH.MODE d f) ETH.MODE.MODE == 3
  else if b = 0x70 then d == 0 && s.flag (PAIR.CFG 0) PAIR.CFG.EN && !s.pairReady
  else b == 0x78 && s.schedBad d

/-- What block b of die field d does as it becomes enabled. -/
def Act.blockOn (d b : Nat) : Act :=
  if 4 ≤ d then Act.when (0x08 ≤ b ∧ b ≤ 0x23) (Act.chSettle (d - 4) (b - 8) false)
  else if 0x20 ≤ b ∧ b ≤ 0x3F then Act.ethEnable d (b - 0x20)
  else if 0x40 ≤ b ∧ b ≤ 0x4F then Act.canEnable d (b - 0x40)
  else if 0x50 ≤ b ∧ b ≤ 0x57 then Act.linEnable d (b - 0x50)
  else if 0x58 ≤ b ∧ b ≤ 0x5A then Act.d2dExchange d (b - 0x58)
  else if b = 0x60 then Act.sgwOn d
  else if b = 0x70 then Act.when (d = 0) Act.pairStart
  else if b = 0x71 then Act.when (d = 0) Act.wakeEnable
  else if b = 0x81 then Act.recEnable d
  else Act.skip

/-- WBR enters its disabled safe state: pending entries are freed, locks of its windows are released, and the stores in progress
stand (R490). -/
def Act.wbrOff (p : Nat) : Act :=
  Act.upd fun s =>
    { s with
      gw := { s.gw with
        winPends := Sparse.put (fun _ => []) p [] s.gw.winPends
        blockLocks := s.gw.blockLocks.filter fun l => !(l.dev.isNone && l.die == p)
        winLocks := s.gw.winLocks.filter fun l => l.die != p } }

/-- What block b of die field d does as it enters its disabled safe state. -/
def Act.blockOff (d b : Nat) : Act :=
  if 4 ≤ d then
    if 0x08 ≤ b ∧ b ≤ 0x23 then Act.chSettle (d - 4) (b - 8) false
    else Act.when (b = 0x28) (Act.modDrv (d - 4) fun v => { v with inputs := 0 })
  else if 0x20 ≤ b ∧ b ≤ 0x3F then Act.linkDown d (b - 0x20) false false
  else if 0x40 ≤ b ∧ b ≤ 0x4F then Act.canOff d (b - 0x40)
  else if 0x50 ≤ b ∧ b ≤ 0x57 then Act.linOff d (b - 0x50)
  else if b = 0x08 then Act.get fun s => Act.setFabOff d s.edges
  else if b = 0x60 then Act.sgwOff d
  else if b = 0x61 then Act.wbrOff d
  else if b = 0x70 then Act.when (d = 0) Act.pairStop
  else if b = 0x71 then Act.when (d = 0) Act.wakeDisable
  else if b = 0x81 then Act.recDisable d
  else Act.skip

/-- Block b of die field d takes a value of ENABLE; ENABLED follows at once (R145, R149, log entry 47). -/
def Act.setEnable (d b : Nat) (on : Bool) : Act :=
  Act.get fun s =>
    let was := s.enabled d b
    Act.seq
      (Act.setReg (BLK_CTRL d b) (if on then 3 else 0))
      (if on = was then Act.skip else if on then Act.blockOn d b else Act.blockOff d b)

/-- A write of ENABLE to a block with a CF register (R145, R152, R154). -/
def blkCtrl (ag : Agent) (d b : Nat) (v : Word) (k : Code → Act) : Act :=
  Act.get fun s =>
    if bit v 0 = false then Act.seq (Act.setEnable d b false) (k .ok)
    else if s.enableBad d b then Act.badValue (BLK_CTRL d b) ag k
    else if s.parityNow d b then k .parity
    else Act.seq (Act.setEnable d b true) (k .ok)

/-! ## Parity (R82, R150, R151) -/

/-- The lanes of a mask that hold an odd number of ones, as three bits (R150). -/
def oddLanes (m : Word) : Nat :=
  (List.range 3).foldl (fun n i => n + 2 ^ i * (((List.range 16).filter fun j => bit m (16 * i + j)).length % 2)) 0

/-- An upset flips the bits m of register a and the hidden parity bits of some lanes (R150). Live fields, which hold nothing, are
not flipped. -/
def Act.upset (a : Nat) (m : Word) (par : Nat) : Act :=
  Act.get fun s =>
    match regRow a with
    | none => Act.skip
    | some w =>
      let x := m &&& BitVec.ofNat 48 (w.mask - Nat.land w.mask w.live)
      let old := Sparse.get (fun _ => ({} : Upset)) s.upsets a
      let lanes := Nat.xor old.lanes (Nat.xor (oddLanes x) (par % 8))
      Act.when (carriesParity a = true)
        (Act.seq
          (Act.setReg a (s.reg a ^^^ x))
          (Act.upd fun t =>
            { t with upsets := Sparse.put (fun _ => {}) a (if lanes = 0 then {} else { lanes := lanes, counted := old.counted }) t.upsets }))

/-- A mismatch of register a is counted, once for each upset, toward escalation (R82, R151). -/
def Act.countMismatch (a : Nat) : Act :=
  Act.get fun s =>
    let d := aDie a
    let b := aBlk a
    let u := Sparse.get (fun _ => ({} : Upset)) s.upsets a
    let l := (s.mismatches.filter fun e => decide (s.edges - e.2 < 32768)) ++ [(d, s.edges)]
    let reset := fun (kind : Nat) =>
      Act.packageReset false 7
        [(RSTC.DETAIL.PARITY_DIE, d), (RSTC.DETAIL.PARITY_BLOCK, b), (RSTC.DETAIL.PARITY_KIND, kind)]
    Act.when (u.counted = false)
      (Act.seq
        (Act.upd fun t =>
          { t with
            upsets := Sparse.put (fun _ => {}) a { u with counted := true } t.upsets
            mismatches := l })
        (if escalates d b then reset 0
         else Act.when (4 ≤ (l.filter fun e => e.1 == d).length) (reset 1)))

/-- The check of register a fails (R151): its block is forced to its disabled safe state, PARITY is set, and the mismatch
counts. That BLK_CTRL.ENABLE goes to 0 with ENABLED is the model's choice (log entry 117). -/
def Act.mismatch (a : Nat) : Act :=
  Act.all [
    Act.when (blockHasCf (decide (4 ≤ aDie a)) (aBlk a) = true) (Act.setEnable (aDie a) (aBlk a) false),
    Act.blkErr a 2 .device,
    Act.countMismatch a]

/-- A check of register a (R151). -/
def Act.check (a : Nat) : Act := Act.get fun s => Act.when (s.parityBad a = true) (Act.mismatch a)

end Sys2Proof.Machine
end

