-- ==== Sys2Proof/Machine/Watch.lean ====
section
/-! DEFINITION. The safety-pair watchdog (R656, R669, R687) and the tamper inputs (R511 to R514). -/

namespace Sys2Proof.Machine

/-! ## The safety-pair watchdog (R669) -/

/-- The deadline of die p's safety-pair watchdog in ms since its last kick or start (R669, R693). -/
def State.safeMs (s : State) (p : Nat) : Nat :=
  s.fld (WDT.SAFE p) (if (s.safePair p).first then WDT.SAFE.FIRST_MS else WDT.SAFE.TIMEOUT_MS)

/-- An expiry of a safety-pair watchdog resets the package (R82, R669). -/
def Act.safeExpire : Act := Act.packageReset false 3 []

/-- A write of CPU.SKICK of die p: a kick by a hart on core 0, else DENIED (R668, R669, R673). -/
def skickWrite (ag : Agent) (p : Nat) (v : Word) (cont : Code → Act) : Act :=
  let a := CPU.SKICK p
  let mine := match ag with
    | .fw die _ core _ => die == p && core == 0
    | _ => false
  Act.get fun s =>
    let u := s.safePair p
    let next := s.fld a CPU.SKICK.NEXT
    if mine = false then cont .denied
    else
      match u.wdt with
      | none => cont .ok
      | some t =>
        if fget v CPU.SKICK.KEY ≠ next ∨ (u.first = false ∧ s.pastMs t (s.fld (WDT.SAFE p) WDT.SAFE.WIN_MS) = false) then
          Act.seq (cont .ok) Act.safeExpire
        else
          Act.all [
            Act.modSafePair p (fun u => { u with wdt := some s.edges, first := false }),
            Act.setFld a CPU.SKICK.NEXT (lfsrNext next),
            cont .ok]

/-- SAFETY_WDT_EXPIRY: the deadline of die p's safety-pair watchdog has passed without a kick (R669). -/
def safetyWdtExpiry (p : Nat) : Act :=
  Act.get fun s =>
    Act.when (p < s.x ∧ ((s.safePair p).wdt.any fun t => s.pastMs t (s.safeMs p)) = true) Act.safeExpire

/-- CPU.SSTAT of die p (R687). -/
def State.sstat (s : State) (p : Nat) : Word :=
  let u := s.safePair p
  word [(CPU.SSTAT.RUNNING, b2n u.wdt.isSome), (CPU.SSTAT.HALTED, b2n u.halted),
    (CPU.SSTAT.LEFT_MS, match u.wdt with
      | none => 0
      | some t => sat 16383 (s.safeMs p - (s.edges - t) * 1000 / 32768))]

/-! ## Tamper (R511 to R514) -/

/-- ARM of the lead die (R512, R540). -/
def State.tamperArm (s : State) : Nat := s.fld (KEYS.TAMPER 0) KEYS.TAMPER.ARM

/-- Zeroisation of every Prism die: the key slots, OP_BUF, the PROV registers and the DRBG state are overwritten (R513 step 2). -/
def Act.zeroise : Act :=
  Act.get fun s =>
    Act.each s.prismDies fun p =>
      Act.all [
        Act.each ((List.range 1024).filter fun n => s.slotState p n != 0) (fun n => Act.clearSlot p n),
        Act.setOpBuf p [],
        Act.each (List.range 7) (fun i => Act.setReg (KEYS.PROV p i) 0),
        Act.modKstore p (fun u => { u with rootOk := false, rootMask := [], op := none, prov := none }),
        Act.free fun _ => Act.skip]

/-- The device's action on armed inputs m (R513): zeroisation, the root-key shares destroyed, a package reset. -/
def Act.tamper (m : Nat) : Act :=
  Act.all [Act.zeroise, Act.destroyShares, Act.packageReset false 5 [(RSTC.DETAIL.TAMPER_SRC, m)]]

/-- The inputs of mask m are asserted now, past their filters; the lead die shows them (R511). One that newly asserts while the
Prism dies have power acts where it is armed and is reported where it is not (R512, R513). -/
def Act.tamperInputs (m : Nat) : Act :=
  Act.get fun s =>
    let new := Nat.land m (15 - (s.kstore 0).tamperNow)
    let hit := Nat.land new s.tamperArm
    Act.seq (Act.modKstore 0 fun u => { u with tamperNow := m % 16 })
      (Act.when (s.prismUp = true)
        (Act.seq (Act.when (hit ≠ new) (Act.event (KEYS.EVT 0) 4)) (Act.when (hit ≠ 0) (Act.tamper hit))))

/-- TAMPER_ASSERT: inputs assert, an armed one among them (R513). -/
def tamperAssert (m : Nat) : Act := Act.tamperInputs m

/-- TAMPER_SEEN: inputs assert, one that is not armed among them (R512). -/
def tamperSeen (m : Nat) : Act := Act.tamperInputs m

/-- Does the lid switch act once the image's ARM stands, at the end of step 9: was it high at step 6, and is it armed (R514)? -/
def State.lidTamper (s : State) : Bool := decide (s.tamperArm / 2 % 2 = 1) && decide (s.sec.tamperSeen = 2)

end Sys2Proof.Machine
end

