-- ==== Sys2Proof/Machine/Epoch.lean ====
section
/-! DEFINITION. The flash and what the device itself writes there: the epoch area (R120 to R126), IMG.CMD (R137) and provisioning
(R515). A command that completes a flash operation carries what the flash did. -/

namespace Sys2Proof.Machine

/-! ## The flash (R99, R100) -/

/-- A byte of the flash. -/
def State.flashByte (s : State) (a : Nat) : Byte := Sparse.get flashBlank s.flash a

/-- n bytes of the flash from address a. -/
def State.flashRead (s : State) (a n : Nat) : List Byte := (List.range n).map fun i => s.flashByte (a + i)

/-- Program bytes from address a: programming clears bits and sets none (log entry 49). -/
def Act.flashProgram (a : Nat) (l : List Byte) : Act :=
  Act.get fun s => Act.all ((List.range l.length).map fun i => Act.setFlash (a + i) (s.flashByte (a + i) &&& l.getD i 0))

/-- Erase the 4 KiB sector at address a. -/
def Act.flashErase (a : Nat) : Act := Act.eraseFlash fun k => k / 4096 != a / 4096

/-- What the flash does in an operation of the device: whether it answers, whether the erase it needs succeeds in time, whether
the first programming verifies, whether the second one does (R122, R515). -/
structure Burn where
  answers : Bool := true
  erase : Bool := true
  first : Bool := true
  second : Bool := true
  deriving DecidableEq, Repr

/-! ## Records of the epoch area (R120, R121) -/

/-- The byte address of position i of sector k (R120). -/
def recAt (k i : Nat) : Nat := 4096 * k + 12 * i

/-- CHECK of a record's other parts (R120). -/
def recCheck (renewal floor epoch low : Nat) : Nat :=
  65535 - Nat.xor (Nat.xor (Nat.xor renewal floor) (Nat.xor epoch (low / 65536))) (low % 65536)

/-- The twelve bytes of a record (R120). -/
def EpochRec.bytes (r : EpochRec) : List Byte :=
  beBytes 6 (r.renewal * 2 ^ 32 + r.floor * 2 ^ 16 + r.epoch) ++
    beBytes 6 (recCheck r.renewal r.floor r.epoch r.prefer * 2 ^ 32 + r.prefer)

/-- The record at position i of sector k, where it is valid (R120, R121). -/
def State.recOf (s : State) (k i : Nat) : Option EpochRec :=
  let b := s.flashRead (recAt k i) 12
  let low := bytesAt b 8 4
  let r : EpochRec :=
    { sector := k, pos := i, renewal := bytesAt b 0 2, floor := bytesAt b 2 2, epoch := bytesAt b 4 2
      prefer := if low % 4 = 3 then 0 else low % 4 }
  if b.all (· == 0xFF) then none
  else if bytesAt b 6 2 = recCheck r.renewal r.floor r.epoch low then some r
  else none

/-- The positions of the epoch area that hold a byte which is not erased. -/
def State.recSpots (s : State) : List (Nat × Nat) :=
  (s.flash.filterMap fun e => if e.1 < 8192 ∧ e.1 % 4096 < 4092 then some (e.1 / 4096, e.1 % 4096 / 12) else none).eraseDups

/-- The valid records (R121). -/
def State.epochRecs (s : State) : List EpochRec := s.recSpots.filterMap fun e => s.recOf e.1 e.2

/-- The valid records of a sector. -/
def State.recsIn (s : State) (k : Nat) : Nat := (s.epochRecs.filter fun r => r.sector == k).length

/-- Does record b stand before record a as the current one (R121)? Of equal records in two sectors with equally many valid ones, of
which the spec names none, the one found first stays (the model's choice, log entry 111). -/
def State.recBetter (s : State) (a b : EpochRec) : Bool :=
  if a.renewal ≠ b.renewal then decide (a.renewal < b.renewal)
  else if a.epoch ≠ b.epoch then decide (a.epoch < b.epoch)
  else if a.sector = b.sector then decide (a.pos < b.pos)
  else decide (s.recsIn b.sector < s.recsIn a.sector)

/-- The current record (R121). -/
def State.curRec (s : State) : Option EpochRec :=
  s.epochRecs.foldl (fun o r => match o with
    | none => some r
    | some c => if s.recBetter c r then some r else some c) none

/-- Is a position free (R121)? -/
def State.posFree (s : State) (k i : Nat) : Bool := (s.flashRead (recAt k i) 12).all (· == 0xFF)

/-- Is a sector erased: every position free (R121)? -/
def State.sectorErased (s : State) (k : Nat) : Bool := s.recSpots.all fun e => e.1 != k

/-- The first free position of a sector from position i on (R122). -/
def State.freeFrom (s : State) (k i : Nat) : Option Nat := ((List.range 341).drop i).find? fun j => s.posFree k j

/-! ## Writing a record (R122) -/

/-- Program a record at a position and read it back; a failure leaves undefined bytes there (log entry 1). -/
def Act.burnRecord (k i : Nat) (r : EpochRec) (good : Bool) (cont : Bool → Act) : Act :=
  if good then Act.seq (Act.flashProgram (recAt k i) r.bytes) (cont true)
  else Act.seq (Act.flashUndefined (recAt k i) 12) (cont false)

/-- Write a record at a position, or at the next free one of its sector (R122). -/
def Act.placeRecord (k i : Nat) (r : EpochRec) (b : Burn) (cont : Bool → Act) : Act :=
  Act.burnRecord k i r b.first fun ok =>
    if ok then cont true
    else
      Act.get fun s =>
        match s.freeFrom k (i + 1) with
        | none => cont false
        | some j => Act.burnRecord k j r b.second cont

/-- Write a record at position 0 of a sector, erased first where it is not (R122). -/
def Act.putErased (k : Nat) (r : EpochRec) (b : Burn) (cont : Bool → Act) : Act :=
  Act.get fun s =>
    if s.sectorErased k then Act.placeRecord k 0 r b cont
    else if b.erase then Act.seq (Act.flashErase (4096 * k)) (Act.placeRecord k 0 r b cont)
    else Act.seq (Act.flashUndefined (4096 * k) 4096) (cont false)

/-- IMG.EPOCH_STAT shows the current record (R135). -/
def Act.epochShow : Act :=
  Act.get fun s =>
    match s.curRec with
    | none =>
      Act.setFlds (IMG.EPOCH_STAT 0) [(IMG.EPOCH_STAT.PREFER, 0), (IMG.EPOCH_STAT.SECTOR, 0), (IMG.EPOCH_STAT.RECORDS, 0)]
    | some c =>
      Act.setFlds (IMG.EPOCH_STAT 0)
        [(IMG.EPOCH_STAT.PREFER, c.prefer), (IMG.EPOCH_STAT.SECTOR, c.sector), (IMG.EPOCH_STAT.RECORDS, s.recsIn c.sector)]

/-- Write a record where R122 puts it: k is told whether it stands. -/
def Act.writeRecord (r : EpochRec) (b : Burn) (cont : Bool → Act) : Act :=
  Act.get fun s =>
    let done := fun ok => Act.seq Act.epochShow (cont ok)
    if b.answers = false then cont false
    else
      match s.curRec with
      | some c =>
        (match s.freeFrom c.sector (c.pos + 1) with
         | some i => Act.placeRecord c.sector i r b done
         | none => Act.putErased (1 - c.sector) r b done)
      | none =>
        match s.freeFrom 0 0 with
        | some i => Act.placeRecord 0 i r b done
        | none => Act.putErased 0 r b done

/-! ## Step 8 and step 10 (R121, R123, R124) -/

/-- Set the loader's record. -/
def Act.setLd (f : LoaderState → LoaderState) : Act := Act.upd fun s => { s with ld := f s.ld }

/-- Report the outcome of step 10: STATE, the boot epoch of the start with FLOOR and RENEWAL of its record c, and the events (R123,
R124, R135, R138). -/
def Act.epochOutcome (st epoch : Nat) (c : EpochRec) (events : List Nat) : Act :=
  Act.all [
    Act.setFld (IMG.EPOCH_STAT 0) IMG.EPOCH_STAT.STATE st,
    Act.setFlds (IMG.EPOCH 0) [(IMG.EPOCH.EPOCH, epoch), (IMG.EPOCH.FLOOR, c.floor), (IMG.EPOCH.RENEWAL, c.renewal)],
    Act.each events (fun i => Act.event (IMG.EVT 0) i),
    Act.when (st = 1) (Act.setFld (RSTC.START 0) RSTC.START.EPOCH_OK 1)]

/-- EPOCH_WRITE: step 10 (R122 to R124). -/
def epochWrite (b : Burn) : Act :=
  Act.get fun s =>
    let failed := fun epoch c => Act.epochOutcome 2 epoch c [3]
    Act.when (s.start.step = 10 ∧ s.start.epochDone = false)
      (Act.seq (Act.setStart fun u => { u with epochDone := true })
        (if s.ld.flashAnswers = false then Act.epochOutcome 5 0 {} [3]
         else
          match s.curRec with
          | none =>
            if s.fuse.epochInit then Act.epochOutcome 3 0 {} [3]
            else
              Act.writeRecord { epoch := 1 } b fun ok =>
                if ok then Act.seq Act.blowEpochInit (Act.epochOutcome 1 1 {} []) else failed 0 {}
          | some c =>
            if c.epoch = 0xFFFF then Act.epochOutcome 4 0xFFFF c [5]
            else
              Act.writeRecord { c with epoch := c.epoch + 1 } b fun ok =>
                if c.epoch = 0xFFFE then Act.epochOutcome 4 0xFFFF c (if ok then [5] else [5, 3])
                else if ok then Act.epochOutcome 1 (c.epoch + 1) c (if 0xFFF0 ≤ c.epoch + 1 then [4] else [])
                else failed c.epoch c))

/-! ## The background erase (R125) -/

/-- EPOCH_BACKGROUND_ERASE: in service the other sector begins to be erased where it is due; or, while that runs, it ends: good says
that the erase succeeded. -/
def epochBackgroundErase (good : Bool) : Act :=
  Act.get fun s =>
    match s.ld.erasing with
    | some k =>
      Act.all [
        (if good then Act.flashErase (4096 * k) else Act.flashUndefined (4096 * k) 4096),
        Act.setLd (fun u => { u with erasing := none }),
        Act.setFld (IMG.EPOCH_STAT 0) IMG.EPOCH_STAT.ERASE_PEND 0]
    | none =>
      Act.opt s.curRec fun c =>
        Act.when (s.start.step = 15 ∧ s.flag (RSTC.START 0) RSTC.START.FW_DONE = true ∧ s.ld.flashAnswers = true ∧
            256 ≤ s.recsIn c.sector ∧ s.sectorErased (1 - c.sector) = false)
          (Act.seq (Act.setLd fun u => { u with erasing := some (1 - c.sector) })
            (Act.setFld (IMG.EPOCH_STAT 0) IMG.EPOCH_STAT.ERASE_PEND 1))

/-! ## IMG.CMD (R126, R137) -/

/-- A write of IMG.CMD, accepted only in service and while none runs (R137). -/
def imgCmd (ag : Agent) (v : Word) (k : Code → Act) : Act :=
  let a := IMG.CMD 0
  let op := fget v IMG.CMD.OP
  let arg := fget v IMG.CMD.ARG
  Act.get fun s =>
    if s.start.step ≠ 15 ∨ s.fld a IMG.CMD.RESULT = 1 then k .busy
    else if op = 0 then k .ok
    else if 2 < op then Act.badValue a ag k
    else
      Act.all [
        Act.setReg a (word [(IMG.CMD.OP, op), (IMG.CMD.ARG, arg), (IMG.CMD.RESULT, 1)]),
        Act.setLd (fun u => { u with cmdBusy := some (op, arg) }),
        k .ok]

/-- IMG_CMD_DONE: the IMG.CMD command in progress ends: the record is written, or nothing (R126, R137). Where several results apply the
argument is judged first, against a floor of 0 where no record exists (the model's choice, log entry 112). -/
def imgCmdDone (b : Burn) : Act :=
  Act.get fun s =>
    Act.opt s.ld.cmdBusy fun e =>
      let op := e.1
      let arg := e.2
      let done := fun (n : Nat) =>
        Act.all [
          Act.setFld (IMG.CMD 0) IMG.CMD.RESULT n,
          Act.setLd (fun u => { u with cmdBusy := none }),
          Act.event (IMG.EVT 0) 6]
      let floor := (s.curRec.map fun c => c.floor).getD 0
      Act.when (s.ld.erasing = none)
        (if (op = 1 ∧ (arg < floor ∨ s.fld (IMG.ID 0) IMG.ID.GEN < arg)) ∨ (op = 2 ∧ 2 < arg) then done 3
         else if s.ld.flashAnswers = false then done 4
         else
          match s.curRec with
          | none => done 6
          | some c =>
            if c.epoch = 0xFFFF then done 5
            else
              Act.writeRecord
                { c with epoch := c.epoch + 1, floor := if op = 1 then arg else c.floor, prefer := if op = 2 then arg else c.prefer }
                b fun ok => done (if ok then 2 else 4))

/-! ## Provisioning (R515) -/

/-- IMG.STAT.LOADER (R132). -/
def Loader.num : Loader → Nat
  | .before => 0
  | .headers => 1
  | .auth => 2
  | .distributing => 3
  | .streaming => 4
  | .done => 5
  | .holdBad => 6
  | .holdPeer => 7
  | .holdHost => 8

/-- Is the loader in state n (R132)? -/
def State.loaderIs (s : State) (n : Nat) : Bool := s.ld.st.num == n

/-- KEY_OK (R132). -/
def State.keyOk (s : State) : Bool := s.flag (IMG.STAT 0) IMG.STAT.KEY_OK

/-- The bytes of PROV_0 to PROV_6 of die p (R541). -/
def State.provBytes (s : State) (p : Nat) : List Byte := (List.range 7).flatMap fun i => wordBytes (s.reg (KEYS.PROV p i))

/-- Is the state condition of a provisioning command met (R515)? -/
def State.provMay (s : State) (p op : Nat) : Bool :=
  match op with
  | 1 => s.loaderIs 8 && !s.fuse.provDone && (s.kstore p).rootOk
  | 2 => !s.keyOk && (s.loaderIs 6 || s.loaderIs 8) && (s.kstore p).rootOk
  | 3 => s.keyOk && s.start.step == 15
  | _ => s.start.step == 15 || s.flag (RSTC.START 0) RSTC.START.IMG_HOLD

/-- A provisioning command ends: RESULT, and the PROV registers are zero (R515, R541). -/
def Act.provEnd (p result : Nat) : Act :=
  Act.all [
    Act.setFld (KEYS.PROV_CMD p) KEYS.PROV_CMD.RESULT result,
    Act.each (List.range 7) (fun i => Act.setReg (KEYS.PROV p i) 0),
    Act.modKstore p fun u => { u with prov := none }]

/-- May an agent give a provisioning command (R515)? -/
def State.provAgent (s : State) (ag : Agent) (op : Nat) : Bool :=
  match ag with
  | .spi => true
  | .eth => decide (3 ≤ op) && decide (2 ≤ s.fld (EYE.ETH 0) EYE.ETH.RIGHTS)
  | _ => false

/-- A write of KEYS.PROV_CMD (R515, R541). -/
def provCmd (ag : Agent) (p : Nat) (v : Word) (k : Code → Act) : Act :=
  let a := KEYS.PROV_CMD p
  let op := fget v KEYS.PROV_CMD.OP
  let arg := fget v KEYS.PROV_CMD.ARG
  Act.get fun s =>
    if op = 0 then k .ok
    else if op ≤ 4 ∧ s.provAgent ag op = false then k .denied
    else if 4 < op ∨ (s.kstore p).prov.isSome then Act.badValue a ag k
    else
      Act.seq (Act.setReg a (word [(KEYS.PROV_CMD.OP, op), (KEYS.PROV_CMD.ARG, arg), (KEYS.PROV_CMD.RESULT, 1)]))
        (if s.provMay p op then
           Act.seq (Act.modKstore p fun u => { u with prov := some (op, nats (s.provBytes p), arg) }) (k .ok)
         else Act.seq (Act.provEnd p 3) (k .ok))

/-- Write a blob to the key area: the sector erased, the blob programmed and read back (R515). -/
def Act.burnBlob (blob : List Nat) (b : Burn) (k : Bool → Act) : Act :=
  if b.answers = false then k false
  else if b.erase = false then Act.seq (Act.flashUndefined 0x2000 4096) (k false)
  else
    Act.seq (Act.flashErase 0x2000)
      (if b.first ∧ b.second then Act.seq (Act.flashProgram 0x2000 (octets blob)) (k true)
       else Act.seq (Act.flashUndefined 0x2000 40) (k false))

/-- Write an image key under the root key, for slot 0 (R497, R515). -/
def Act.burnKey (p : Nat) (key : List Nat) (b : Burn) (good : Act) : Act :=
  Act.burnBlob (keyWrap (kwSlot 0) rootKey key) b fun ok =>
    if ok then Act.seq good (Act.provEnd p 2) else Act.provEnd p 5

/-- RENEW: an epoch record with a greater RENEWAL and EPOCH 0 (R515). A RENEWAL that 16 bits cannot hold has no stated result. -/
def Act.provRenew (p arg : Nat) (b : Burn) : Act :=
  Act.get fun s =>
    let put := fun (r : EpochRec) =>
      if 0xFFFF < r.renewal then Act.freeBelow 7 fun n => Act.provEnd p n
      else Act.writeRecord r b fun ok => Act.provEnd p (if ok then 2 else 5)
    match s.curRec with
    | none => if arg = 0 then Act.provEnd p 6 else put { renewal := arg }
    | some c => put { c with renewal := max (c.renewal + 1) arg, epoch := 0 }

/-- PROV_CMD_DONE: the provisioning command of die p runs to its end (R515, R516). -/
def provCmdDone (p : Nat) (b : Burn) : Act :=
  Act.get fun s =>
    Act.opt (s.kstore p).prov fun e =>
      let data := e.2.1
      Act.when (s.ld.erasing = none)
        (match e.1 with
         | 1 => Act.burnKey p (data.take 32) b Act.blowProvDone
         | 2 =>
           match keyUnwrap (kwSlot 0) rootKey (data.take 40) with
           | none => Act.provEnd p 4
           | some key => Act.burnKey p key b Act.skip
         | 3 =>
           match keyUnwrap kwDefault (s.kslot (sk 0 0)).key (data.take 40) with
           | none => Act.provEnd p 4
           | some key => Act.burnKey p key b Act.skip
         | _ => Act.provRenew p e.2.2 b)

end Sys2Proof.Machine
end

