-- ==== Sys2Proof/Machine/Live.lean ====
section
/-! DEFINITION. Registers as they are read: stored fields, fused fields, and the fields that reflect the state of the hardware at
the moment of reading (R19). -/

namespace Sys2Proof.Machine

/-! ## The lead die and the data plane -/

/-- The step of R77 that RSTC.START shows (R90): of the concurrent steps 10 to 13 the lowest that is not done. -/
def State.stepNow (s : State) : Nat :=
  let u := s.start
  if u.step = 10 then
    if u.epochDone = false then 10 else if u.canDone = false then 11 else if u.ethDone = false then 12
    else if u.fwDone = false then 13 else 14
  else u.step

/-- The active clock source (R89). -/
def ClockSource.code (c : ClockSource) : Nat :=
  match c with
  | .crystal => 0
  | .reference => 1
  | .internal => 2

/-- A mask of the numbers below n that satisfy f. -/
def maskOf (n : Nat) (f : Nat → Bool) : Nat := (List.range n).foldl (fun m i => m + 2 ^ i * b2n (f i)) 0

/-- DEV of die field d (R189, R191, R779, R781). -/
def State.liveDev (s : State) (d r : Nat) (v : Word) : Word :=
  let u := s.psup d
  match r with
  | 0 => word [(DEV.ID.KIND, b2n (decide (4 ≤ d))), (DEV.ID.DIE, d % 4), (DEV.ID.REV, s.fuse.rev), (DEV.ID.FAMILY, 0x0D48)]
  | 1 => if d = 0 then BitVec.ofNat 48 s.fuse.serial else 0
  | 2 => word [(DEV.BUILD.L, s.x), (DEV.BUILD.D, s.y)]
  | 4 => fset (fset v DEV.EVT.DROOP_NOW (b2n u.droop)) DEV.EVT.SUBST_NOW (b2n u.subst)
  | 5 => word [(DEV.VCORE.NOW, u.vcore), (DEV.VCORE.MIN, u.vcoreMin)]
  | 7 => fset v DEV.DLINK.UP (maskOf 4 fun k => (s.driveAt d k).isSome && !u.lostRank.contains k)
  | 0x112 => word [(DEV.FLAGS.EPOCH_INIT, b2n s.fuse.epochInit), (DEV.FLAGS.PROV_DONE, b2n s.fuse.provDone)]
  | _ => v

/-- EYE, RSTC and IMG of the lead die, and RSTC.START of every Prism die (R89, R90, R132, R135, R185). -/
def State.liveLead (s : State) (b r : Nat) (v : Word) : Word :=
  let masks := fun (lo : Nat) => (List.range 6).foldl (fun w i => fset w ⟨8 * i, 8⟩ (s.attnMask (lo + i))) (0 : Word)
  if b = 0x01 then
    if r = 2 then
      word [(RSTC.STRAP.BOOT, s.clk.bootPins), (RSTC.STRAP.CLKMODE, s.clk.clkPins), (RSTC.STRAP.CLK_ACTIVE, s.clk.source.code),
        (RSTC.STRAP.CLK_REASON, fget v RSTC.STRAP.CLK_REASON)]
    else if r = 3 then fset v RSTC.START.STEP s.stepNow
    else v
  else if b = 0x02 then
    match r with
    | 5 => BitVec.ofNat 48 s.attn
    | 6 => masks 0
    | 7 => masks 6
    | _ => v
  else if r = 0 then fset v IMG.STAT.LOADER s.ld.st.num
  else if r = 6 then fset v IMG.EPOCH_STAT.INIT (b2n s.fuse.epochInit)
  else v

/-- A number of blocks that passed in one slow-clock period, in 0.1 Gbit/s: eight cells of 256 bytes each (R193, R267, R289). -/
def spillUnits (n : Nat) : Nat := sat 4095 (n * 2048 * 8 * 640 / 1953125)

/-- FAB, QMGR and SPILL of die p (R239, R241, R245, R280, R282, R288 to R290). -/
def State.liveFab (s : State) (p b r : Nat) (v : Word) : Word :=
  if b = 0x08 then
    if r = 3 then fset v FAB.PACE.NOW (s.paceNow p)
    else if r = 5 then fset v FAB.EVT.PACE_LOW_NOW (b2n (decide (s.paceNow p < 1024)))
    else if 0x200 ≤ r ∧ r < 0x240 then
      let h := fun (c : Nat) => s.holdNow p (r - 0x200) c
      fset (fset v FAB.FACET.HELD_NOW (maskOf 8 fun c => (h c).held)) FAB.FACET.DRAIN_NOW (maskOf 8 fun c => (h c).drain)
    else v
  else if b = 0x09 then
    if r = 0 then word [(QMGR.POOL.SHARED_FREE, s.sharedFree p), (QMGR.POOL.PHYS_FREE, s.physFree p)]
    else if r = 1 then word [(QMGR.POOL_B.RES_FREE, s.resFree p), (QMGR.POOL_B.MIN_SUM, s.minSum p)]
    else if r = 3 then fset v QMGR.EVT.SHARED_LOW_NOW (b2n (s.sharedLow p))
    else if 0x400 ≤ r ∧ r < 0x500 then
      let n := (r - 0x400) / 4
      let u := s.port (64 * p + n)
      let q := s.queue (globalQueue p (s.portQueue p n))
      if r % 4 = 1 then u.last
      else if r % 4 = 2 then
        let more := (q.refs.filter fun x => x.done).length - b2n (!u.words.isEmpty)
        (((v |> fun w => fset w QMGR.CQ_STAT.EMPTY (b2n (s.portEmpty p n)))
          |> fun w => fset w QMGR.CQ_STAT.BOUNDARY (b2n u.words.isEmpty))
          |> fun w => fset w QMGR.CQ_STAT.WORDS_LEFT u.words.length)
          |> fun w => fset w QMGR.CQ_STAT.FRAMES (sat 4095 more)
      else v
    else v
  else if r = 1 then
    word [(SPILL.STAT.FREE, s.freeBlocks p), (SPILL.STAT.QUEUES, ((s.dieQueues p).filter fun e => e.2.spilled != 0).length)]
  else if r = 2 then
    let u := s.rate p
    word [(SPILL.RATE.WR, spillUnits u.2.2.1), (SPILL.RATE.RD, spillUnits u.2.2.2)]
  else if r = 3 then fset v SPILL.EVT.FULL_NOW (b2n ((s.dieQueues p).any fun e => e.2.full && s.spillStop p (e.1 % 16384) e.2))
  else v

/-- CLS, LPM and PSFP of die p (R334, R338, R341). -/
def State.liveLookup (s : State) (p b r : Nat) (v : Word) : Word :=
  if b = 0x10 then
    if r = 4 then
      let l := s.macEntries p
      word [(CLS.STAT.ENTRIES, l.length), (CLS.STAT.STATIC, (l.filter fun i => fget (s.mac1 p i) MacE.STATIC == 1).length)]
    else v
  else if b = 0x11 then
    if r = 5 then
      let l := s.routes p
      word [(LPM.STAT.USED, routeSlots l), (LPM.STAT.V4, (l.filter fun e => !e.v6).length), (LPM.STAT.V6, (l.filter fun e => e.v6).length)]
    else v
  else if 0x1100 ≤ r ∧ r < 0x1180 ∧ r % 4 = 3 then fset v PSFP.GCL_STAT.OPEN_NOW (s.gatesNow p ((r - 0x1100) / 4))
  else v

/-- ETH of facet f of die p (R377 to R380). -/
def State.liveEth (s : State) (p f r : Nat) (v : Word) : Word :=
  let e := s.eth (fk p f)
  match r with
  | 0 => fset v ETH.MODE.KIND (if f < 4 then 0 else if f < 12 then 1 else if f < 24 then 2 else 3)
  | 2 => fset v ETH.RXBUF.SIZE (rxSize f)
  | 3 =>
    word [(ETH.STAT.LINK_UP, b2n (e.up && (s.enabled p (0x20 + f) || s.booting p f))), (ETH.STAT.RAW_OK, b2n e.raw), (ETH.STAT.LOCAL_FAULT, b2n e.localFault),
      (ETH.STAT.REMOTE_FAULT, b2n e.remoteFault), (ETH.STAT.AN_DONE, b2n e.anDone), (ETH.STAT.FEC_LOCK, b2n e.fecLock),
      (ETH.STAT.PLCA_OK, b2n e.plcaOk), (ETH.STAT.PARTNER_PAUSED, maskOf 8 fun c => s.pausedCls p f c),
      (ETH.STAT.XOFF_SENT, maskOf 8 fun c => (s.heldOff p f e.xoff e.xoffAll).contains c),
      (ETH.STAT.OVERRIDE, maskOf 8 fun c => e.override.any fun x => x.1 == c), (ETH.STAT.RX_CELLS, s.rxCells p f)]
  | 0x0A => txtsA e.stamps
  | _ => v

/-- CAN controller c and LIN controller c of die p, and their fuses (R390, R410, R430, R435). -/
def State.liveBus (s : State) (p b r : Nat) (v : Word) : Word :=
  if b < 0x50 then
    let c := b - 0x40
    let u := s.can (canKey p c)
    let st := match u.st with
      | .off => 0
      | .integrating => 1
      | .active => 2
      | .passive => 3
      | .busOff => 4
      | .recovering => 5
      | .sleep => 6
    if r = 6 then
      word [(CAN.STAT.STATE, st), (CAN.STAT.TEC, u.tec), (CAN.STAT.REC, u.recv),
        (CAN.STAT.TDCV, u.tdcv.getD (s.fld (CAN.TDC p c) CAN.TDC.TDC_INIT)), (CAN.STAT.TDC_MEASURED, b2n u.tdcv.isSome),
        (CAN.STAT.LINK_UP, b2n (s.canUp p c)), (CAN.STAT.RX_CELLS, s.busCells p (32 + c)), (CAN.STAT.TX_PENDING, b2n u.pend.isSome)]
    else if r = 0 ∧ (s.canXcvr p c).isNone then fset v CAN.CFG.EXT 1
    else v
  else
    let c := b - 0x50
    let u := s.lin (linKey p c)
    let st := match u.st with
      | .off => 0
      | .running => 1
      | .stopped => 2
      | .sleep => 3
      | .busFault => 4
    if r = 1 then
      word [(LIN.STAT.STATE, st), (LIN.STAT.TABLE, u.table), (LIN.STAT.ENTRY, u.entry),
        (LIN.STAT.SWITCH_PENDING, b2n (u.switchTo.isSome || u.stop || u.goSleep)), (LIN.STAT.RESOLVING, b2n u.resolving.isSome),
        (LIN.STAT.LINK_UP, b2n (s.linUp p c)), (LIN.STAT.RX_CELLS, s.busCells p (48 + c))]
    else if r = 0 ∧ (s.linXcvr p c).isNone then fset v LIN.CFG.EXT 1
    else v

/-- D2D block j, SGW and WBR of die p (R247, R474, R492). -/
def State.liveLink (s : State) (p b r : Nat) (v : Word) : Word :=
  if b < 0x60 then
    let l := s.link (4 * p + (b - 0x58))
    let j := b - 0x58
    if r = 2 then
      word [(D2D.STAT.PEER, d2dFar p (b - 0x58)), (D2D.STAT.UP, b2n (l.up && s.enabled p b)),
        (D2D.STAT.NO_CREDIT, maskOf 8 fun c => s.lacksCredit p j c),
        (D2D.STAT.RX_WAIT, maskOf 8 fun c => (s.buf (fk p (56 + j))).any fun x => x.fr.cls == c)]
    else v
  else if b = 0x60 then
    if r = 3 then
      word [(SGW.STAT.BEAM_ENTRIES, s.beamEntries p), (SGW.STAT.CONTEXTS, (s.sess p).length),
        (SGW.STAT.GRANULES_FREE, s.granulesFree p)]
    else v
  else if r = 5 then
    let held := (s.gw.blockLocks.filter fun l => l.blk / 256 == p && !(l.dev.isNone && l.die == p))
    word [(WBR.STAT.POSTED, min 64 (s.wpost p).length), (WBR.STAT.PENDING, (s.wpend p).length),
      (WBR.STAT.LOCKS, (s.gw.winLocks.filter fun l => l.die == p).length), (WBR.STAT.AGENT_LOCKS, held.length)]
  else v

/-- KEYS of die p (R539 to R541). -/
def State.liveKeys (s : State) (p r : Nat) (v : Word) : Word :=
  if r = 1 then
    word [(KEYS.STAT.ROOT_OK, b2n (s.kstore p).rootOk), (KEYS.STAT.ROOT_DESTROYED, b2n s.fuse.sharesGone),
      (KEYS.STAT.PROV_DONE, b2n s.fuse.provDone), (KEYS.STAT.RNG, (s.kstore p).rng), (KEYS.STAT.LOADED, (s.loadedSlots p).length),
      (KEYS.STAT.BAD, ((List.range 1024).filter fun n => s.slotState p n == 3).length)]
  else if r = 4 then word [(KEYS.TAMPER.ARM, s.tamperArm), (KEYS.TAMPER.SEEN, (s.kstore 0).tamperNow)]
  else if 0x19 ≤ r ∧ r < 0x20 then 0
  else v

/-- PAIR, WAKE and PLX of the lead die (R576, R602, R604, R712, R714). -/
def State.liveDomain (s : State) (b r : Nat) (v : Word) : Word :=
  if b = 0x70 then if r = 8 then s.pairStat else v
  else if b = 0x71 then
    if r = 3 then s.wakeStat
    else if r = 7 then s.admStat
    else if 0x60 ≤ r ∧ r < 0x70 then s.pnStat (r - 0x60)
    else v
  else if r = 8 then s.plxStat
  else if 0x20 ≤ r ∧ r < 0x40 then if r % 2 = 0 then s.censusA ((r - 0x20) / 2) else s.censusB ((r - 0x20) / 2)
  else v

/-- CPU and APR of die p (R687, R691, R692). -/
def State.liveCpu (s : State) (p b r : Nat) (v : Word) : Word :=
  if b = 0x78 then
    if r = 0x0A then s.sstat p
    else if 0x10 ≤ r ∧ r < 0x20 then s.pstat p (r - 0x10)
    else v
  else if r = 0 then word [(APR.STAT.ENTRIES, s.aprCount p)]
  else if 0x100 ≤ r ∧ r < 0x180 then s.aprCh p (r - 0x100)
  else v

/-- LOUPE, PSCP and TIME of die p (R384 to R386, R744, R745). -/
def State.liveMon (s : State) (p b r : Nat) (v : Word) : Word :=
  if b = 0x81 then
    if r = 5 then s.pscpStat p else if r = 6 then s.pscpWptr p
    else if 0x10 ≤ r ∧ r < 0x50 then s.pscpEpi p ((r - 0x10) / 4) (r % 4)
    else v
  else if b = 0x82 then
    match r with
    | 0 => BitVec.ofNat 48 (s.time p)
    | 1 => s.reg (TIME.RATE 0)
    | 3 => if p = 0 then word [(TIME.SYNC.LOCKED, 1)] else v
    | 0x0A => if s.mapped then BitVec.ofNat 48 (s.ptpOf (s.time p)).1 else 0
    | 0x0B => if s.mapped then BitVec.ofNat 48 (s.tim p).nowNs else 0
    | _ => v
  else v

/-! ## Drive dies -/

/-- The stage of the regulator sequencer as SEQ_STAT shows it (R97). -/
def Stage.code (g : Stage) : Nat :=
  match g with
  | .off => 0
  | .core => 1
  | .io => 2
  | .mem => 3
  | .ready => 4
  | .between => 5
  | .latched => 6

/-- SUP and FUSE of drive die d (R94, R96, R97, R778). On drive dies 1 to 3 the fields of the sequencer and of the reset threshold
read zero. -/
def State.liveSup (s : State) (d b r : Nat) (v : Word) : Word :=
  let u := s.supply d
  if b = 0x01 then
    match r with
    | 1 => if d = 0 then v else fset v SUP.THRESH.RESET_TH 0
    | 2 => word [(SUP.VBAT.NOW, u.vbat), (SUP.VBAT.MIN, u.vmin), (SUP.VBAT.MAX, u.vmax)]
    | 4 => fset (fset v SUP.EVT.SAG_NOW (b2n u.sag)) SUP.EVT.OV_NOW (b2n u.ovOpen)
    | 5 =>
      if d ≠ 0 then 0
      else
        word [(SUP.SEQ_STAT.STAGE, s.seq.stage.code), (SUP.SEQ_STAT.ATTEMPT, s.seq.attempt),
          (SUP.SEQ_STAT.LATCH, b2n (s.seq.stage == .latched)), (SUP.SEQ_STAT.MEM_USED, b2n s.fuse.memUsed),
          (SUP.SEQ_STAT.T_CORE, s.seq.tCore), (SUP.SEQ_STAT.T_IO, s.seq.tIo), (SUP.SEQ_STAT.T_MEM, s.seq.tMem)]
    | _ => v
  else if r = 1 then fset v FUSE.CFG.MEM_USED (b2n (decide (d = 0) && s.fuse.memUsed))
  else v

/-- The code of a channel's state (R647). -/
def ChSt.code (c : ChSt) : Nat :=
  match c with
  | .openSt => 0
  | .waitAdmit => 1
  | .ramp => 2
  | .drive => 3
  | .cool => 4
  | .retryWait => 5
  | .latched => 6
  | .selftest => 7

/-- CHN of channel c of drive die d (R632, R647). -/
def State.liveChn (s : State) (d c r : Nat) (v : Word) : Word :=
  let u := s.chan (xc d c)
  let w := s.drv d
  match r with
  | 4 =>
    word [(CHN.STAT.STATE, u.st.code), (CHN.STAT.LATCH, u.latches.getLast?.getD 0), (CHN.STAT.GUARDED, b2n (s.chGuarded d c)),
      (CHN.STAT.HELD, s.chHeld d c), (CHN.STAT.CMD_SRC, u.src), (CHN.STAT.RETRY_K, sat 7 u.retry), (CHN.STAT.IN_LIMIT, b2n u.inLimit),
      (CHN.STAT.OPEN_LOAD, b2n u.openLoad), (CHN.STAT.SELFTEST, u.test), (CHN.STAT.OUT_ON, b2n u.drives),
      (CHN.STAT.LATCHES, maskOf 3 fun i => u.latches.contains (i + 1))]
  | 5 =>
    let dt := (u.tj - (w.caseA + w.caseB) / 2) / 10
    word [(CHN.MEAS.I, ofSigned 24 u.cur), (CHN.MEAS.TJ, if c < 24 then ofSigned 12 u.tj else 0),
      (CHN.MEAS.DT, if c < 24 then sat 255 dt.toNat else 0)]
  | 6 => fset v CHN.CLAMP.LEVEL (if c < 24 then ofSigned 24 (s.chLevel d c / 1000000) else 0)
  | 7 => fset v CHN.CAL.FACTORY_NOW (b2n u.factory)
  | _ => v

/-- IN, PIN, THM, XCVR and WKP of drive die d (R438, R606, R607, R650 to R652). -/
def State.liveIsland (s : State) (d b r : Nat) (v : Word) : Word :=
  let w := s.drv d
  match b with
  | 0x28 =>
    if 0x20 ≤ r ∧ r < 0x38 then fset v IN.VAL.STATE (b2n (w.inputs / 2 ^ (r - 0x20) % 2 == 1))
    else if r = 0x40 then BitVec.ofNat 48 (w.inputs % 2 ^ 24)
    else v
  | 0x29 =>
    if 1 ≤ r ∧ r ≤ 8 then s.fused (FUSE.PMAP d (r - 1)) (s.reg (FUSE.PMAP d (r - 1)))
    else if r = 9 then s.pinStat d
    else v
  | 0x2A =>
    if r = 0 then
      word [(THM.CASE.A, ofSigned 12 w.caseA), (THM.CASE.B, ofSigned 12 w.caseB), (THM.CASE.VALID, b2n (decide (w.caseSt = 1)))]
    else if r = 1 then
      word [(THM.STAT.DIE_GUARDED, b2n w.guarded),
        (THM.STAT.GUARD_LEFT_MS, (w.coldFrom.map fun t => 500 - (s.edges - t) * 1000 / 32768).getD 0),
        (THM.STAT.POWER, fget v THM.STAT.POWER), (THM.STAT.DIE_POWER_NOW, b2n w.overPower)]
    else v
  | 0x2B => if r = 3 then s.xcvrStat d else v
  | _ =>
    if r = 0x13 then s.wkpDisarmed d
    else if 0x15 ≤ r ∧ r < 0x19 then s.wkpFalse d (r - 0x15)
    else if r = 0x19 then BitVec.ofNat 48 (w.seen % 2 ^ 40)
    else if r = 1 then setBit v 15
    else if r = 2 then setBit (setBit v 14) 15
    else if (r = 0x0F ∨ r = 0x10) ∧ d ≠ 0 then 0
    else v

/-! ## Any register -/

/-- Does a register of a Prism die read zero, and ignore writes, because it belongs to the lead die alone? -/
def leadOnly (a : Nat) : Bool :=
  decide (1 ≤ aDie a ∧ aDie a < 4) && (regRow a).any fun w => w.lead

/-- Register a as it is read (R19, R20). -/
def State.live (s : State) (a : Nat) : Word :=
  let d := aDie a
  let b := aBlk a
  let r := aReg a
  let v := s.fused a (s.reg a)
  let raw :=
    if r = 0x1FFE then fset v ⟨39, 1⟩ (b2n (s.parityNow d b))
    else if r = 0x1FFF then if blockHasCf (decide (4 ≤ d)) b then v else 3
    else if d < 4 then
      if leadOnly a then 0
      else if b = 0x00 then s.liveDev d r v
      else if b ≤ 0x03 then s.liveLead b r v
      else if b ≤ 0x0A then s.liveFab d b r v
      else if b ≤ 0x12 then s.liveLookup d b r v
      else if 0x20 ≤ b ∧ b ≤ 0x3F then s.liveEth d (b - 0x20) r v
      else if 0x40 ≤ b ∧ b ≤ 0x57 then s.liveBus d b r v
      else if 0x58 ≤ b ∧ b ≤ 0x61 then s.liveLink d b r v
      else if b = 0x68 then s.liveKeys d r v
      else if 0x70 ≤ b ∧ b ≤ 0x72 then s.liveDomain b r v
      else if b = 0x78 ∨ b = 0x79 then s.liveCpu d b r v
      else if 0x80 ≤ b then s.liveMon d b r v
      else v
    else
      let k := d - 4
      if b = 0x00 then if r = 1 then 0 else s.liveDev d r v
      else if blockSlow b && r == 0 then BitVec.ofNat 48 (b2n (Sparse.get (fun _ => none) s.posted (d * 256 + b)).isSome)
      else if b = 0x01 ∨ b = 0x02 then s.liveSup k b r v
      else if 0x08 ≤ b ∧ b ≤ 0x23 then s.liveChn k (b - 8) r v
      else s.liveIsland k b r v
  raw &&& regMask a

end Sys2Proof.Machine
end

