-- ==== Sys2Proof/Machine/Access.lean ====
section
/-! DEFINITION. Accesses to registers: which addresses name one, who may write it and when, what a write does, what a read does
(R139 to R164, R175, R176). -/

namespace Sys2Proof.Machine

/-! ## What an address names (R142) -/

/-- Does a block with per-unit registers lack register r: PLCA below facet 24 (R382), MDIO above facet 11 (R383), counters that
their chapter does not name (R547, R691)? -/
def unitLacks (b r : Nat) : Bool :=
  if 0x20 ≤ b ∧ b ≤ 0x3F then
    ((r == 0x0C || r == 0x0D) && decide (b - 0x20 < 24)) || (r == 0x0F && decide (11 < b - 0x20))
  else if b = 0x6A then decide (0x100 ≤ r) && decide (r < 0x1C0) && decide (10 < r % 16)
  else b == 0x78 && decide (0x400 ≤ r) && decide (r < 0x500) && decide (11 < r % 16)

/-- Does an address name a register of this package (R142)? -/
def State.regIs (s : State) (a : Nat) : Bool :=
  let d := aDie a
  let b := aBlk a
  decide (a < 2 ^ 24) && s.dieIn d && (regRow a).isSome &&
    (if d < 4 then !unitLacks b (aReg a) && !(decide (0x58 ≤ b ∧ b ≤ 0x5A) && decide (s.x ≤ d2dFar d (b - 0x58))) else true)

/-! ## Who may write, and when -/

/-- Is the agent outside the device, or firmware? -/
def Agent.outer : Agent → Bool
  | .image => false
  | .device => false
  | _ => true

/-- A write that its register denies to the agent (R175, R176): the kick, command and provisioning registers, a transfer that
names firmware memory, a cipher job of another die. -/
def State.denies (s : State) (ag : Agent) (a : Nat) (v : Word) : Bool :=
  let p := aDie a
  let r := aReg a
  if 4 ≤ p then false
  else
    match aBlk a with
    | 0x13 => decide (0x20 ≤ r) && decide (r < 0x30) && r % 4 == 0 && fget v TDMA.JOB.MEM == 1 && ag.isHost
    | 0x68 =>
      (r == 5 && (let op := fget v KEYS.OP_CMD.OP; decide (1 < op) && decide (op < 8) && op != 6 && ag.part?.isNone)) ||
        (r == 0x18 && (let op := fget v KEYS.PROV_CMD.OP; decide (1 ≤ op) && decide (op ≤ 4) && !s.provAgent ag op))
    | 0x69 =>
      decide (0x10 ≤ r) && decide (r < 0x18) && r % 2 == 0 && fget v CIPH.JOB.START == 1 &&
        (match ag with
         | .fw d _ _ _ => d != p
         | _ => true)
    | 0x78 =>
      (match ag with
       | .fw d k c _ =>
         (r == 3 && s.pdef d k CPU.PDEF.CONTROL != 1) || (r == 9 && !(d == p && c == 0)) ||
           (decide (0x20 ≤ r) && decide (r < 0x30) && !(d == p && k == r - 0x20))
       | _ => r == 9 || (decide (0x20 ≤ r) && decide (r < 0x30)))
    | 0x81 =>
      r == 0x100 && fget v PSCP.RD_CMD.START == 1 && fget v PSCP.RD_CMD.MEM == 1 &&
        (match ag with
         | .fw d _ _ _ => d != p
         | _ => true)
    | _ => false

/-- Are writes turned away because the start sequence runs (R160)? -/
def State.startBusy (s : State) : Bool :=
  decide (6 ≤ s.start.step) && decide (s.start.step ≤ 9) && !(s.loaderIs 6 || s.loaderIs 7 || s.loaderIs 8)

/-- Is block b of die field d locked by a window's load from the lock view (R487)? -/
def State.blockHeld (s : State) (d b : Nat) : Bool := s.gw.blockLocks.any fun l => l.blk == 256 * d + b

/-- The mandatory lock set, in force once the locks of step 9 apply (R118): APR and WDT whole, IMG but CMD and EVT, the partition
definitions of CPU with its schedules and routes, and the slot policies of KEYS. -/
def mandatoryLock (b r : Nat) : Bool :=
  match b with
  | 0x03 => r != 8 && r != 9
  | 0x68 => decide (0x1000 ≤ r) && decide (r < 0x1400)
  | 0x78 =>
    (decide (0x100 ≤ r) && decide (r < 0x120)) || (decide (0x200 ≤ r) && decide (r < 0x280)) ||
      (decide (0x300 ≤ r) && decide (r < 0x338)) || (decide (0x1000 ≤ r) && decide (r < 0x1800))
  | 0x79 => true
  | 0x7A => true
  | _ => false

/-- Is register a locked by the image: by name, with its block, or by the mandatory set (R118)? BLK_ERR never is. -/
def State.imgLocked (s : State) (a : Nat) : Bool :=
  let d := aDie a
  let b := aBlk a
  aReg a != 0x1FFE &&
    (Sparse.get (fun _ => false) s.lockedRegs a || Sparse.get (fun _ => false) s.lockedRegs (2 ^ 24 + 256 * d + b) ||
      (decide (d < 4) && mandatoryLock b (aReg a) && s.flag (DEV.LOCK d) DEV.LOCK.APPLIED))

/-- Is register a locked: written once already, or locked by the image (R21, R118, R153)? -/
def State.regLocked (s : State) (a : Nat) : Bool := s.imgLocked a || Sparse.get (fun _ => false) s.onceRegs a

/-- A firmware access that the host would be answered with another code than OK or RETRY interrupts its partition (R143, R683,
kind 5). -/
def Act.fwFail (ag : Agent) (a : Nat) (c : Code) : Act :=
  match ag, c with
  | _, .ok => Act.skip
  | _, .retry => Act.skip
  | .fw die part _ _, _ => Act.irq die (.direct part 5 (256 * aDie a + aBlk a))
  | _, _ => Act.skip

/-- The posted write in progress in block b of die field d (R155). -/
def State.postedAt (s : State) (d b : Nat) : Option Posted := Sparse.get (fun _ => none) s.posted (256 * d + b)

/-- Set the posted write in progress of a block. -/
def Act.setPosted (d b : Nat) (o : Option Posted) : Act :=
  Act.upd fun s => { s with posted := Sparse.put (fun _ => none) (256 * d + b) o s.posted }

/-! ## What a write does -/

/-- The writable bits of a register are stored, and the write is answered OK. -/
def Act.put (a : Nat) (v : Word) (k : Code → Act) : Act := Act.seq (Act.store a v) (k .ok)

/-- A clearing write of an SC register (R163). A write outside the window clears nothing and sets STALE_SEQ; that it is answered OK is
the model's choice (log entry 115). -/
def Act.clearing (ag : Agent) (a : Nat) (v : Word) (k : Code → Act) : Act :=
  let q := fget v scSeq
  Act.get fun s => Act.seq (if s.seqOk a q then Act.clearSeq a q else Act.blkErr a 4 ag) (k .ok)

/-- The fabric, the queues and lookup of die p: blocks 0x08 to 0x13. -/
def Act.effectFab (ag : Agent) (p b r a : Nat) (v : Word) (k : Code → Act) : Act :=
  let pool := Act.all [Act.store a v, Act.checkShared p, k .ok]
  match b with
  | 0x08 =>
    if r = 4 then Act.seq (Act.when (bit v 0 = true) (fabClrMax p)) (k .ok)
    else if r = 0x18 then repCmd ag p v k
    else pool
  | 0x09 =>
    if r = 5 then flushCmd ag p (fun s f => s.heldQueue p f) v k
    else if r = 6 then qCmd ag p v k
    else if 0x400 ≤ r ∧ r < 0x500 ∧ r % 4 = 3 then Act.seq (Act.when (bit v 0 = true) (dropRest p (cqOf r))) (k .ok)
    else pool
  | 0x10 => Act.put a (if 0x100 ≤ r ∧ r < 0x200 then setBit v 34 else v) k
  | 0x11 => if r = 1 then lpmCmd ag p v k else Act.put a v k
  | 0x12 =>
    if 0x1000 ≤ r ∧ r < 0x1100 then cbsWrite ag p (r - 0x1000) v k
    else if 0x1100 ≤ r ∧ r < 0x1180 ∧ r % 4 = 0 then gclCtrl ag p ((r - 0x1100) / 4) v k
    else Act.put a v k
  | 0x13 =>
    if 1 ≤ r ∧ r ≤ 8 then tdmaLock p (r - 1) v k
    else if 0x20 ≤ r ∧ r < 0x30 ∧ r % 4 = 0 then tdmaJob ag p ((r - 0x20) / 4) v k
    else Act.put a v k
  | _ => Act.put a v k

/-- The facets of die p: blocks 0x20 to 0x5A. -/
def Act.effectFacet (ag : Agent) (p b r a : Nat) (v : Word) (k : Code → Act) : Act :=
  if b < 0x40 then
    if r = 0x0E then ethCtrl p (b - 0x20) v k
    else if r = 0x0F then mdioWrite ag p (b - 0x20) v k
    else Act.put a v k
  else if b < 0x50 then
    let c := b - 0x40
    match r with
    | 0 => Act.get fun s => Act.put a (if (s.canXcvr p c).isNone then fset v CAN.CFG.EXT 1 else v) k
    | 7 => canCmd p c v k
    | 0x0B => filtCmd ag p c v k
    | 0x0F => acCmd ag p c v k
    | _ => Act.put a v k
  else if b < 0x58 then
    let c := b - 0x50
    match r with
    | 0 => Act.get fun s => Act.put a (if (s.linXcvr p c).isNone then fset v LIN.CFG.EXT 1 else v) k
    | 3 => linCmd p c v k
    | 0x18 => schedCmd ag p c v k
    | 0x1A => pubCmd ag p c v k
    | _ => Act.put a v k
  else Act.put a v k

/-- Gateway and security of die p: blocks 0x60 to 0x6B. -/
def Act.effectSec (ag : Agent) (p b r a : Nat) (v : Word) (k : Code → Act) : Act :=
  match b with
  | 0x60 =>
    if r = 0x08 then beamCmd ag p v k
    else if r = 0x10 then sgwTblCmd ag p v k
    else if r = 0x18 then sigCmd ag p v k
    else Act.put a v k
  | 0x68 =>
    if r = 4 then
      Act.seq (Act.upd fun s => { s with onceRegs := Sparse.put (fun _ => false) a true s.onceRegs }) (Act.put a v k)
    else if r = 5 then opCmd ag p v k
    else if r = 0x18 then provCmd ag p v k
    else Act.put a v k
  | 0x69 => if 0x10 ≤ r ∧ r < 0x18 ∧ r % 2 = 0 then jobCmd ag p ((r - 0x10) / 2) v k else Act.put a v k
  | 0x6A => if r = 0x20 then saCmd ag p v k else Act.put a v k
  | 0x6B =>
    if r = 0 then profCmd ag p v k
    else if r = 4 then fvCmd ag p v k
    else Act.put a v k
  | _ => Act.put a v k

/-- Pairing, sleep and the domain: blocks 0x70 to 0x72. -/
def Act.effectDomain (ag : Agent) (p b r a : Nat) (v : Word) (k : Code → Act) : Act :=
  match b with
  | 0x70 =>
    if r = 9 then pairCmd ag v k
    else if r = 0x10 then pairTblCmd ag p v k
    else Act.put a v k
  | 0x71 =>
    if r = 6 then Act.seq (Act.when (bit v 0 = true) wakeConfirm) (k .ok)
    else if 0x20 ≤ r ∧ r ≤ 0x30 then reqWrite ag p (r - 0x20) v k
    else Act.put a v k
  | _ => if r = 0x0D then dtCmd ag v k else Act.put a v k

/-- Processors, monitors, the recorder and time of die p: blocks 0x78 to 0x82. -/
def Act.effectCpu (ag : Agent) (p b r a : Nat) (v : Word) (k : Code → Act) : Act :=
  match b with
  | 0x78 =>
    if r = 3 then pcmdWrite ag p v k
    else if r = 4 then aprRead p v k
    else if r = 9 then skickWrite ag p v k
    else if 0x20 ≤ r ∧ r < 0x30 then kickWrite ag p (r - 0x20) v k
    else if 0x50 ≤ r ∧ r < 0x70 then txrWrite ag p ((r - 0x50) / 2) (r % 2 == 1) v k
    else Act.put a v k
  | 0x80 =>
    if r = 2 then snapCmd ag p v k
    else if r = 4 then feedVal p v k
    else if 0x100 ≤ r ∧ r < 0x500 then mcfgWrite ag p ((r - 0x100) / 4) (r % 4) v k
    else Act.put a v k
  | 0x81 =>
    if r = 8 then pscpCmd ag p v k
    else if 0x80 ≤ r ∧ r < 0x100 then selWrite ag p ((r - 0x80) / 2) (r % 2 == 1) v k
    else if r = 0x100 then rdCmd ag p v k
    else Act.put a v k
  | 0x82 =>
    if r = 1 then timeRateWrite ag p v k
    else if r = 2 then timeStepWrite ag p v k
    else if 4 ≤ r ∧ r ≤ 6 ∧ p ≠ 0 then Act.badValue a ag k
    else if r = 7 then timeCtrl ag p v k
    else Act.put a v k
  | _ => Act.put a v k

/-- A register of drive die d. On drive dies 1 to 3 the reset threshold, TIMER and START are not written. -/
def Act.effectDrive (ag : Agent) (d b r a : Nat) (v : Word) (k : Code → Act) : Act :=
  if 0x08 ≤ b ∧ b ≤ 0x23 then
    match r with
    | 1 => Act.seq (Act.setCfgB d (b - 8) v) (k .ok)
    | 2 => chnCmd ag d (b - 8) v k
    | 3 => chnCtrl ag d (b - 8) v k
    | _ => Act.put a v k
  else
    match b with
    | 0x01 =>
      if r = 3 then Act.seq (Act.when (bit v 0 = true) (Act.minmaxClear d)) (k .ok)
      else if d = 0 then Act.put a v k
      else Act.seq (Act.setFld a SUP.THRESH.SAG_TH (fget v SUP.THRESH.SAG_TH)) (k .ok)
    | 0x29 => Act.seq (Act.when (bit v 0 = true) (Act.pinAck d ag)) (k .ok)
    | 0x2C =>
      if r = 0x14 then Act.seq (Act.when (bit v 0 = true) (wkpRearm d)) (k .ok)
      else if (r = 0x0F ∨ r = 0x10) ∧ d ≠ 0 then k .ok
      else Act.put a v k
    | _ => Act.put a v k

/-- What a write does where it takes effect: a clearing write, ENABLE, a refused value (R154), or the effect of its register. -/
def Act.effect (ag : Agent) (a : Nat) (v : Word) (k : Code → Act) : Act :=
  let d := aDie a
  let b := aBlk a
  let r := aReg a
  Act.get fun s =>
    if r = 0x1FFF then blkCtrl ag d b v k
    else if ((regRow a).any fun w => w.kind == .sc) = true then Act.clearing ag a v k
    else if s.refuses a v then Act.badValue a ag k
    else if 4 ≤ d then Act.effectDrive ag (d - 4) b r a v k
    else if b = 0x03 then (if r = 8 then imgCmd ag v k else Act.put a v k)
    else if b < 0x20 then Act.effectFab ag d b r a v k
    else if b < 0x60 then Act.effectFacet ag d b r a v k
    else if b < 0x70 then Act.effectSec ag d b r a v k
    else if b < 0x78 then Act.effectDomain ag d b r a v k
    else Act.effectCpu ag d b r a v k

/-! ## Writes -/

/-- Is a write to register a of a slow-domain block posted (R155)? -/
def posts (a : Nat) : Bool :=
  decide (4 ≤ aDie a) && blockSlow (aBlk a) && (regRow a).any fun w => w.kind == .pw || w.kind == .sc

/-- Is a write of register a ignored at once with reply OK: an RO register, BLK_CTRL of a block without a CF register (R145), a
register of the lead die alone on another die, the image's arming of tamper inputs there (R540)? -/
def ignores (a : Nat) : Bool :=
  if aReg a = 0x1FFF then !blockHasCf (decide (4 ≤ aDie a)) (aBlk a)
  else leadOnly a || ((regRow a).any fun w => w.kind == .ro) || a == KEYS.POL (aDie a) 0 ||
    (decide (0 < aDie a) && a == KEYS.TAMPER (aDie a))

/-- A write, by the Kind of its register; every check that comes before it has passed (R148, R153, R155). -/
def Act.writeKind (ag : Agent) (a : Nat) (v : Word) (k : Code → Act) : Act :=
  let d := aDie a
  let b := aBlk a
  Act.get fun s =>
    if s.regLocked a then Act.seq (Act.blkErr a 1 ag) (k .locked)
    else if ((regRow a).any fun w => w.kind == .cf) = true ∧ s.enabled d b = true ∧ ignores a = false then
      Act.seq (Act.blkErr a 0 ag) (k .rejectedEnabled)
    else if ignores a then k .ok
    else if posts a ∧ ag.outer then Act.seq (Act.setPosted d b (some { addr := a, value := v, agent := ag })) (k .ok)
    else Act.effect ag a v k

/-- Does a write of register a find its drive link cut: lost, or not yet detected lost where the write waits for its effect (R38,
R155, R782)? -/
def State.writeCut (s : State) (a : Nat) : Bool :=
  decide (4 ≤ aDie a) && (s.dlinkLost (aDie a - 4) || (s.dlinkDown (aDie a - 4) && !posts a))

/-- A WRITE of register a by an agent, with the codes in the order of R176. own says that the writer holds the lock of the
register's block (R487). -/
def Act.write (ag : Agent) (own : Bool) (a : Nat) (v : Word) (k0 : Code → Act) : Act :=
  let d := aDie a
  let b := aBlk a
  let k := fun (c : Code) => Act.seq (Act.fwFail ag a c) (k0 c)
  let fw := ag.part?.isSome
  Act.get fun s =>
    if s.regIs a = false then k .noSuch
    else if s.denies ag a v then k .denied
    else if ag.outer = true ∧ s.startBusy = true then k .busy
    else if a = IMG.CMD 0 ∧ s.start.step ≠ 15 then k .busy
    else if ag.outer = true ∧ own = false ∧ s.blockHeld d b = true then Act.seq (Act.when (fw = true) (Act.blkErr a 3 ag)) (k .busy)
    else if s.writeCut a = true then
      Act.seq (Act.when (s.dlinkLost (d - 4) = true ∧ ag.outer = true ∧ 0x08 ≤ b ∧ b ≤ 0x23 ∧ aReg a = 2) (Act.dlinkDrop (d - 4))) (k .timeout)
    else if 4 ≤ d ∧ blockSlow b = true ∧ (s.postedAt d b).isSome = true then Act.seq (Act.blkErr a 3 ag) (k .busy)
    else Act.writeKind ag a v k

/-- POSTED_WRITE_EFFECT: at the second slow-clock edge after its acceptance the posted write of block b of die field d takes effect
or is refused, and BUSY returns to 0 (R154, R155). While the drive link carries nothing it is lost without report (R782). -/
def postedWriteEffect (d b : Nat) : Act :=
  Act.get fun s =>
    Act.opt (s.postedAt d b) fun w =>
      Act.seq (Act.setPosted d b none)
        (Act.when (4 ≤ d ∧ s.dlinkDown (d - 4) = false) (Act.effect w.agent w.addr w.value fun _ => Act.skip))

/-! ## Reads -/

/-- Is a read of register a answered by the lead die without reaching its die: BLK_STAT of a slow-domain block (R155)? -/
def isBlkStat (a : Nat) : Bool := decide (4 ≤ aDie a) && blockSlow (aBlk a) && aReg a == 0

/-- Is register a read through a fetch in the native view (R157)? -/
def slowRead (a : Nat) : Bool := decide (4 ≤ aDie a) && blockSlow (aBlk a) && aReg a != 0

/-- The reads that do more than read: a consumer port's word (R277), a transmit timestamp (R380), an interrupt record (R684), the
PTP seconds (R386), WHOAMI (R687). Every other read returns the register. -/
def Act.readReg (ag : Agent) (a : Nat) (k : Code → Word → Act) : Act :=
  let p := aDie a
  let b := aBlk a
  let r := aReg a
  Act.get fun s =>
    if 4 ≤ p then k .ok (s.live a)
    else if b = 0x09 ∧ 0x400 ≤ r ∧ r < 0x500 ∧ r % 4 = 1 then cqDataRead ag p (cqOf r) k
    else if 0x20 ≤ b ∧ b ≤ 0x3F ∧ r = 0x0B then txtsPop p (b - 0x20) k
    else if b = 0x78 ∧ 0x30 ≤ r ∧ r < 0x40 then irqPop ag p (r - 0x30) k
    else if b = 0x78 ∧ r = 2 then k .ok (whoami p ag)
    else if b = 0x82 ∧ r = 0x0A then ptpNowRead p k
    else k .ok (s.live a)

/-- A READ of register a that completes at once: k is given the reply code and the data (R142, R151, R159, R782). -/
def Act.read (ag : Agent) (a : Nat) (k : Code → Word → Act) : Act :=
  Act.get fun s =>
    if s.regIs a = false then k .noSuch 0
    else if 4 ≤ aDie a ∧ s.dlinkDown (aDie a - 4) = true ∧ isBlkStat a = false then k .timeout 0
    else if s.parityBad a then Act.seq (Act.mismatch a) (k .parity (s.live a))
    else Act.readReg ag a k

end Sys2Proof.Machine
end

