-- ==== Sys2Proof/Machine/Mgmt.lean ====
section
/-! DEFINITION. Loads and stores of harts in the management view and the signal view (R657 to R659, R672, R673, R677, R679). An access
fault of a hart is answered DENIED (log entry 60). -/

namespace Sys2Proof.Machine

/-- The base of the management view (R657). -/
def mgmtBase : Nat := 2 ^ 32

/-- The management word address of a location of the management view, where the access is 8 bytes wide and aligned (R657, R658). -/
def mgmtAddr (loc width : Nat) : Option Nat :=
  if width = 8 ∧ loc % 8 = 0 ∧ mgmtBase ≤ loc ∧ loc < mgmtBase + 2 ^ 27 then some ((loc - mgmtBase) / 8) else none

/-- Is a load of register a by partition k of die p allowed without MGMT_READ (R673)? -/
def State.loadFree (s : State) (p k a : Nat) (ag : Agent) : Bool :=
  let r := aReg a
  aDie a == p &&
    ((aBlk a == 0x78 &&
        (r == 0x02 || r == 0x10 + k || r == 0x20 + k || r == 0x30 + k || r == 0x40 + k || r == 0x50 + 2 * k || r == 0x51 + 2 * k)) ||
      (aBlk a == 0x09 && decide (0x400 ≤ r) && decide (r < 0x500) && (r % 4 == 1 || r % 4 == 2) && s.portOwner p (cqOf r) ag))

/-- The number of a reply code (R175). -/
def Code.num : Code → Nat
  | .ok => 0
  | .retry => 1
  | .rejectedEnabled => 2
  | .locked => 3
  | .parity => 4
  | .busy => 5
  | .noSuch => 6
  | .denied => 7
  | .timeout => 8
  | .remoteError => 9
  | .badFrame => 10
  | .badValue => 11

/-- The hart that core c of die p runs for partition k takes an access fault at location loc: the load or store is answered DENIED and
does nothing (R658, log entry 60). -/
def Act.hartFault (p k c cause loc : Nat) (ag : Agent) : Act :=
  Act.seq (Act.hartTrap p k c cause loc) (Act.reply ag .denied 0)

/-- A load that ends on core c: the hart gets the register, or zero where the code is not OK but for PARITY; PFAULT then records the
address and the code, and the hart takes a load access fault (R658). -/
def Act.loadEnds (p k c loc : Nat) (ag : Agent) (code : Code) (v : Word) : Act :=
  if code = .ok then Act.reply ag .ok v
  else
    Act.all [
      Act.setReg (CPU.PFAULT p k) (word [(CPU.PFAULT.ADDR, loc), (CPU.PFAULT.CODE, code.num)]),
      Act.hartTrap p k c 5 loc,
      Act.reply ag code (if code = .parity then v else 0)]

/-- A load of register a by the hart of partition k on core c of die p from location loc of the management view (R658, R673). -/
def Act.hartLoad (p k c loc a : Nat) (ag : Agent) : Act :=
  Act.get fun s =>
    if s.pdef p k CPU.PDEF.MGMT_READ = 1 ∨ s.loadFree p k a ag = true then
      Act.read ag a fun code v => Act.loadEnds p k c loc ag code v
    else Act.hartFault p k c 5 loc ag

/-- MGMT_LOAD: the hart that core c of die p runs loads width bytes from a location of the management view (R658, R673). -/
def mgmtLoad (p c hart loc width : Nat) : Act :=
  Act.get fun s =>
    Act.opt (s.onCore p c) fun k =>
      match mgmtAddr loc width with
      | none => Act.hartFault p k c 5 loc (.fw p k c hart)
      | some a => Act.hartLoad p k c loc a (.fw p k c hart)

/-- SIGNAL_VIEW_LOAD: the hart that core c of die p runs loads width bytes from a location of the signal view (R455, R657, R658). -/
def signalViewLoad (p c hart loc width : Nat) : Act :=
  Act.get fun s =>
    Act.opt (s.onCore p c) fun k =>
      let ag : Agent := .fw p k c hart
      let o := loc - 3 * 2 ^ 32
      if width = 8 ∧ loc % 8 = 0 ∧ 3 * 2 ^ 32 ≤ loc ∧ o < 2 ^ 22 ∧ s.pdef p k CPU.PDEF.SIG_READ = 1 then
        let e := s.sig (sigKey p (o / 16))
        Act.reply ag .ok (BitVec.ofNat 48 (if o % 16 = 0 then e.1 else e.2))
      else Act.hartFault p k c 5 loc ag

/-- Is a store to register a admitted by the register itself and not checked against apertures (R673)? -/
def storeFree (p c k a : Nat) : Bool :=
  let r := aReg a
  aDie a == p && aBlk a == 0x78 &&
    (r == 0x20 + k || r == 0x50 + 2 * k || r == 0x51 + 2 * k || (r == 0x09 && c == 0))

/-- Does a store to register a pass the LOAD kind: CHN.CMD of a channel (R672, R677)? It names the package channel. -/
def loadTarget (a : Nat) : Option Nat :=
  if 4 ≤ aDie a ∧ 0x08 ≤ aBlk a ∧ aBlk a ≤ 0x23 ∧ aReg a = 2 then some (32 * (aDie a - 4) + (aBlk a - 8)) else none

/-- The aperture of a store of a partition in the management view of die p: send is given the value that is sent (R672, R677, R679). -/
def Act.storeChecked (p part a : Nat) (v : Word) (send : Word → Act) : Act :=
  match loadTarget a with
  | some n => Act.aprLoad p part n v fun o => Act.opt o send
  | none =>
    if aBlk a = 0x60 ∧ aDie a < 4 ∧ aReg a = 0x18 ∧ fget v SGW.SIG_CMD.OP = 2 then
      Act.get fun s =>
        let b := SGW.SIG_VAL (aDie a)
        Act.aprSignal p part a (fget v SGW.SIG_CMD.INDEX) (s.reg b) fun o =>
          Act.opt o fun y =>
            if y = s.reg b then send v else Act.all [Act.setReg b y, send v, Act.setReg b (s.reg b)]
    else Act.aprBlock p part a v none false fun ok => Act.when (ok = true) (send v)

/-- A store of v to register a by a hart of partition k on core c of die p (R659, R672, R673). -/
def Act.hartStore (p c k a : Nat) (ag : Agent) (v : Word) : Act :=
  if storeFree p c k a then Act.write ag false a v fun _ => Act.skip
  else Act.storeChecked p k a v fun u => Act.write ag false a u fun _ => Act.skip

/-- MGMT_STORE: the hart that core c of die p runs stores v, width bytes wide, to a location of the management view (R658, R659, R672,
R673). The low 48 bits are the value (R16). -/
def mgmtStore (p c hart loc width v : Nat) : Act :=
  Act.get fun s =>
    Act.opt (s.onCore p c) fun k =>
      match mgmtAddr loc width with
      | none => Act.hartFault p k c 7 loc (.fw p k c hart)
      | some a => Act.hartStore p c k a (.fw p k c hart) (BitVec.ofNat 48 v)

end Sys2Proof.Machine
end

