-- ==== Sys2Proof/Machine/Image.lean ====
section
/-! DEFINITION. The configuration image: its words, header, directory and tags (R101 to R106), the entries of its configuration
sections with what each does to its die (R104, R114), and the checks of a slot in their order (R108 to R110). -/

namespace Sys2Proof.Machine

/-! ## Words (R101, R128, R129) -/

/-- Where slot A (0) or B (1) begins in the flash (R99). -/
def slotBase (i : Nat) : Nat := if i = 0 then 0x01000000 else 0x06000000

/-- Word w of slot i: in the flash, or of the received image (2). -/
def State.imgWord (s : State) (i w : Nat) : Word :=
  if i < 2 then bytesWord (s.flashRead (slotBase i + 6 * w) 6) else Sparse.get (fun _ => 0) s.ld.rxWords w

/-- n words of slot i from word w on. -/
def State.imgWords (s : State) (i w n : Nat) : List Word := (List.range n).map fun k => s.imgWord i (w + k)

/-- The words that slot i can hold (R99); of a received image, those announced. -/
def State.slotSize (s : State) (i : Nat) : Nat := if i < 2 then 80 * 2 ^ 20 / 6 else s.ld.rxTotal

/-- Words as the bytes that enter a CMAC (R106). -/
def wordNats (l : List Word) : List Nat := nats (l.flatMap wordBytes)

/-- The 96 bits of a tag in two words (R102, R103). -/
def tagNats (hi lo : Word) : List Nat := wordNats [hi, lo]

/-- Is a tag that of words l under the image key in slot 0 (R106)? -/
def State.imgTagOk (s : State) (l : List Word) (hi lo : Word) : Bool :=
  s.keyOk && (cmac (s.kslot (sk 0 0)).key (wordNats l)).take 12 == tagNats hi lo

/-! ## Header and directory (R102, R103) -/

/-- SECTIONS of slot i. -/
def State.imgCount (s : State) (i : Nat) : Nat := fget (s.imgWord i 3) ⟨32, 11⟩

/-- IMAGE_WORDS of slot i. -/
def State.imgLen (s : State) (i : Nat) : Nat := fget (s.imgWord i 3) ⟨0, 32⟩

/-- GEN of slot i. -/
def State.imgGen (s : State) (i : Nat) : Nat := fget (s.imgWord i 1) ⟨0, 16⟩

/-- Directory entry n of slot i. -/
def State.imgSection (s : State) (i n : Nat) : Section :=
  let w0 := s.imgWord i (16 + 4 * n)
  { type := fget w0 ⟨0, 8⟩, target := fget w0 ⟨8, 3⟩, common := bit w0 11, partition := fget w0 ⟨12, 4⟩
    offset := fget w0 ⟨16, 32⟩, length := fget (s.imgWord i (17 + 4 * n)) ⟨0, 32⟩ }

/-- The directory of slot i. -/
def State.imgDir (s : State) (i : Nat) : List Section := (List.range (s.imgCount i)).map fun n => s.imgSection i n

/-- The words of a section. -/
def State.secWords (s : State) (i : Nat) (u : Section) : List Word := s.imgWords i u.offset u.length

/-- Is the tag of section n that of its words (R106)? -/
def State.secTagOk (s : State) (i n : Nat) : Bool :=
  s.imgTagOk (s.secWords i (s.imgSection i n)) (s.imgWord i (18 + 4 * n)) (s.imgWord i (19 + 4 * n))

/-- Is a section a configuration section (R104)? -/
def Section.isConfig (u : Section) : Bool := u.type != 0x10

/-- The kind of the first check that the header of slot i fails, after MAGIC (R108 step 2, R109). -/
def State.headerBad (s : State) (i : Nat) : Option Nat :=
  let w1 := s.imgWord i 1
  let serial := (s.imgWord i 4).toNat
  if fget (s.imgWord i 0) ⟨0, 16⟩ ≠ 1 ∨ fget w1 ⟨30, 2⟩ ≠ 0 ∨ fget w1 ⟨35, 1⟩ ≠ 0 ∨ fget w1 ⟨39, 9⟩ ≠ 0 ∨
      fget (s.imgWord i 3) ⟨43, 5⟩ ≠ 0 ∨ ((s.imgWords i 5 9).any fun w => w != 0) = true then some 1
  else if fget w1 ⟨32, 3⟩ ≠ s.x ∨ fget w1 ⟨36, 3⟩ ≠ s.y then some 2
  else if s.slotSize i < s.imgLen i then some 3
  else if s.imgCount i = 0 ∨ 1024 < s.imgCount i then some 4
  else if serial ≠ 0 ∧ serial ≠ s.fuse.serial then some 7
  else none

/-! ## The structural checks (R108 step 5, R109) -/

/-- May a section of a type go to a die field of this build (R104)? -/
def State.targetOk (s : State) (u : Section) : Bool :=
  s.dieIn u.target && (u.type == 1 || u.type == 2 || (if u.type = 7 then u.target == 0 else decide (u.target < 4)))

/-- The kind of the first check of its own that a directory entry fails: type, reserved fields, target. -/
def State.dirBad (s : State) (i n : Nat) : Option Nat :=
  let u := s.imgSection i n
  if !(decide (1 ≤ u.type ∧ u.type ≤ 7) || u.type == 0x10) then some 11
  else if fget (s.imgWord i (17 + 4 * n)) ⟨32, 16⟩ ≠ 0 ∨ (u.isConfig = true ∧ u.partition ≠ 0) then some 1
  else if s.targetOk u = false then some 6
  else none

/-- Do two sections share a word? -/
def Section.overlaps (u v : Section) : Bool := decide (u.offset < v.offset + v.length ∧ v.offset < u.offset + u.length)

/-- Does section n of a directory lie wrongly: length 0, outside the image, on the header, the directory or an earlier section? -/
def placeWrong (len : Nat) (l : List Section) (n : Nat) : Bool :=
  let u := l.getD n {}
  decide (u.length = 0 ∨ u.offset < 16 + 4 * l.length ∨ len < u.offset + u.length) || (l.take n).any fun v => v.overlaps u

/-- The words of the sections up to n that a size limit counts together. -/
def sizeSum (l : List Section) (n : Nat) (p : Section → Bool) : Nat :=
  (((l.take (n + 1)).filter p).map fun u => 6 * u.length).sum

/-- Is a section counted in the limit of the drive dies (R105)? -/
def Section.driveShare (u : Section) : Bool := decide (4 ≤ u.target) && (u.type == 1 || u.type == 2)

/-- Does section n pass a size limit of R105, with those before it? -/
def sizeWrong (l : List Section) (n : Nat) : Bool :=
  decide (2 * 2 ^ 20 < sizeSum l n Section.isConfig) || decide (64 * 2 ^ 10 < sizeSum l n Section.driveShare) ||
    decide (64 * 2 ^ 20 < sizeSum l n fun u => !u.isConfig)

/-- The first section with a kind, in directory order. -/
def firstKind (n : Nat) (f : Nat → Option Nat) : Option (Nat × Nat) :=
  (List.range n).findSome? fun k => (f k).map fun e => (k, e)

/-- A kind where a test holds. -/
def kindIf (b : Bool) (kind : Nat) : Option Nat := if b then some kind else none

/-- The first structural check that slot i fails: section and kind (R108, R109, log entry 52). -/
def State.structBad (s : State) (i : Nat) : Option (Nat × Nat) :=
  let l := s.imgDir i
  let n := l.length
  (firstKind n (s.dirBad i)).orElse fun _ =>
  (firstKind n fun k => kindIf (placeWrong (s.imgLen i) l k) 5).orElse fun _ =>
  (if 16 + 4 * n + (l.map fun u => u.length).sum = s.imgLen i then none else some (0, 5)).orElse fun _ =>
  firstKind n fun k => kindIf (sizeWrong l k) 8

/-! ## REGISTER and LOCK entries (R104, R114, R115) -/

/-- The address and value of each pair of words. -/
def regPairs : List Word → List (Nat × Word)
  | a :: v :: l => (a.toNat, v) :: regPairs l
  | _ => []

/-- The Prism dies whose global facets or queues a register's value names: the destination of a bus facet, the next facet of a cipher
flow, a beacon's destination, the facets of a pair link and its witness, the analysis queue (R343, R543, R551, R570, R750). -/
def namedDies (a : Nat) (v : Word) : List Nat :=
  let p := aDie a
  let r := aReg a
  if 4 ≤ p then []
  else
    match aBlk a with
    | 0x10 => if (List.range 24).any fun f => a == CLS.BUS_DEST p f then [fget v CLS.BUS_DEST.QUEUE / 16384] else []
    | 0x69 => if (List.range 64).any fun n => a == CIPH.FLOW p n then [fget v CIPH.FLOW.NEXT_FACET / 64] else []
    | 0x6B => if a = SEAL.PROF_W2 p then [fget v SEAL.PROF_W2.BEACON_DEST / 16384] else []
    | 0x70 =>
      if a = PAIR.CFG p then [fget v PAIR.CFG.LINK_FACET_0 / 64, fget v PAIR.CFG.LINK_FACET_1 / 64]
      else if a = PAIR.WIT p then [fget v PAIR.WIT.WIT_FACET / 64]
      else []
    | 0x81 => if 0x80 ≤ r ∧ r < 0x100 ∧ r % 2 = 1 then [fget v PSCP.SEL_B.ANA_QUEUE / 16384] else []
    | _ => []

/-- Does a REGISTER entry of a section for die field d fail check 9 (R104, R109), by its address, or by a global facet or queue of an
absent Prism die in its value? -/
def State.regEntryBad (s : State) (d : Nat) (e : Nat × Word) : Bool :=
  decide (2 ^ 24 ≤ e.1) || aDie e.1 != d || !s.regIs e.1 || ((regRow e.1).any fun w => w.kind == .ro) ||
    (namedDies e.1 e.2).any fun p => decide (s.x ≤ p)

/-- Do the entries of a REGISTER section for die p leave a facet's classes with more IDLE_SLOPE than its line rate (R322, R331)? A
class the section does not name keeps the state's. -/
def State.slopesBad (s : State) (p : Nat) (l : List (Nat × Word)) : Bool :=
  let slope := fun i => fget (((l.filter fun e => e.1 == PSFP.CBS p i).getLast?.map (·.2)).getD (s.reg (PSFP.CBS p i))) PSFP.CBS.IDLE_SLOPE
  l.any fun e =>
    let f := (aReg e.1 - 0x1000) / 8
    aBlk e.1 == 0x12 && decide (0x1000 ≤ aReg e.1 ∧ aReg e.1 < 0x1100) &&
      decide (s.lineRate p f * 1000 < 8 * ((List.range 8).map fun c => slope (8 * f + c)).sum)

/-- A value that the register refuses is reported, and the load goes on (R115). An entry answered with another code, such as DENIED,
is ignored without the event (the model's choice, log entry 113). -/
def Act.loadReject (c : Code) : Act := Act.when (c = .badValue) (Act.event (IMG.EVT 0) 1)

/-- A posted write of the host that is still in progress in a's block takes effect first: the loader waits for BUSY (R18, R114). -/
def Act.postWait (a : Nat) : Act := Act.when (4 ≤ aDie a) (postedWriteEffect (aDie a) (aBlk a))

/-- The loader writes a register in step 9 (R114, R115). An enable waits for its point; a change of a gate list waits for the end
of the step. -/
def Act.imgWrite (a : Nat) (v : Word) : Act :=
  if aReg a = 0x1FFF then
    Act.setLd fun u => { u with deferred := (u.deferred.filter fun b => b != a) ++ (if bit v 0 then [a] else []) }
  else
    Act.seq (Act.postWait a) <| Act.write .image true a
      (if aDie a < 4 ∧ aBlk a = 0x12 ∧ 0x1100 ≤ aReg a ∧ aReg a < 0x1180 ∧ aReg a % 4 = 0 then fset v PSFP.GCL_CTRL.CONFIG_CHANGE 0 else v)
      Act.loadReject

/-- The address and SCOPE of a LOCK entry (R104). -/
def lockEntry (w : Word) : Nat × Bool := (fget w ⟨0, 24⟩, bit w 24)

/-- Does a LOCK entry fail check 9 (R104, R109)? With SCOPE 1 only its die and block must exist. -/
def State.lockEntryBad (s : State) (d : Nat) (w : Word) : Bool :=
  let e := lockEntry w
  fget w ⟨25, 23⟩ != 0 || aDie e.1 != d || !s.regIs (if e.2 then ra d (aBlk e.1) 0 else e.1)

/-- Lock what an entry names (R118): a register, or a block under its own key. -/
def Act.lockPut (w : Word) : Act :=
  let e := lockEntry w
  let key := if e.2 then 2 ^ 24 + 256 * aDie e.1 + aBlk e.1 else e.1
  Act.upd fun s => { s with lockedRegs := Sparse.put (fun _ => false) key true s.lockedRegs }

/-! ## TABLE entries (R230, R254, R331, R402, R417, R447, R476, R533, R578) -/

/-- FIRST, COUNT − 1 and the reserved rest of word 0 of a table's section, the entries of the table, the words of one. -/
def tblForm (t : Nat) : Option (Fld × Fld × Fld × Nat × Nat) :=
  let wide := fun (e : Nat × Nat) => ((⟨8, 18⟩ : Fld), (⟨26, 18⟩ : Fld), (⟨44, 4⟩ : Fld), e.1, e.2)
  match t with
  | 0x40 => some (⟨8, 12⟩, ⟨20, 12⟩, ⟨32, 16⟩, 4096, 2)
  | 0x4A => some (⟨8, 13⟩, ⟨21, 13⟩, ⟨34, 14⟩, 8192, 2)
  | 0x4B => some (⟨8, 12⟩, ⟨20, 12⟩, ⟨32, 16⟩, 4096, 1)
  | 0x4C => some (wide (65536, 5))
  | 0x53 => some (wide (4096, 3))
  | 0x57 => none
  | _ =>
    if 0x42 ≤ t ∧ t ≤ 0x48 then some (wide (tblSize t, tblEntryWords t))
    else ((sgwTable t).orElse fun _ => pairTable t).map wide

/-- Is a table's entry placed by key or by order, so that FIRST is 0 (R331, R447)? -/
def tblKeyed (t : Nat) : Bool := t == 0x43 || t == 0x44 || t == 0x4C

/-- Where the loader puts a MAC entry: the entry of its key, or a free way of its bucket (R300, R331). -/
def State.macSpot (s : State) (p : Nat) (w : List Word) : Option Nat :=
  let fid := fget (w.getD 1 0) MacE.FID
  let mac := (w.getD 0 0).toNat
  (s.macFind p fid mac).orElse fun _ =>
    ((List.range 8).map fun k => s.bucket p fid mac * 8 + k).find? fun i => fget (s.mac1 p i) MacE.VALID == 0

/-- Does entry i of table t of die p, in words w, break its chapter's rules? -/
def State.tblEntryBad (s : State) (p t i : Nat) (w : List Word) : Bool :=
  let v := fun k => w.getD k 0
  match t with
  | 0x40 => s.repBad p (v 1)
  | 0x42 => false
  | 0x43 =>
    fget (v 1) MacE.STATIC == 0 || fget (v 1) MacE.REMOTE == 1 || (s.macSpot p w).isNone ||
      (fget (v 1) MacE.KIND == 0 && decide (s.x ≤ fget (v 1) MacE.DEST % 256 / 64))
  | 0x45 => tblRefused t w || decide (s.x ≤ fget (v 1) ⟨6, 2⟩)
  | 0x46 => tblRefused t w
  | 0x47 => false
  | 0x48 => tblRefused t w
  | 0x4A => filtBad (v 0) (v 1)
  | 0x4B => Sys2Proof.Machine.schedBad (v 0)
  | 0x4C => s.beamBad p w || (s.beamPlace p (keyOf (v 0) (v 1))).isNone
  | 0x53 => s.profRefused p (v 0) (v 1) (v 2)
  | _ => if 0x54 ≤ t then pairTblBad p t w else s.sgwBad p t i w

/-- Put entry i of table t of die p. -/
def Act.imgEntry (p t i : Nat) (w : List Word) : Act :=
  let v := fun k => w.getD k 0
  match t with
  | 0x40 => Act.setTblWords p t i [v 0 &&& regMask (FAB.REP_W0 p), v 1 &&& regMask (FAB.REP_W1 p)]
  | 0x43 =>
    Act.get fun s =>
      Act.when (fget (v 1) MacE.VALID = 1)
        (Act.opt (s.macSpot p w) fun j => Act.setTblWords p t j [v 0, v 1 &&& tblMask t 1])
  | 0x4C => Act.get fun s => Act.opt (s.beamPlace p (keyOf (v 0) (v 1))) fun j => Act.setTblWords p t j w
  | 0x53 =>
    Act.seq
      (Act.setTblWords p t i [v 0 &&& regMask (SEAL.PROF_W0 p), v 1 &&& regMask (SEAL.PROF_W1 p), v 2 &&& regMask (SEAL.PROF_W2 p)])
      (Act.modFresh (pk p i) fun u => { u with ref := none, seen := [] })
  | _ =>
    if 0x42 ≤ t ∧ t ≤ 0x48 then Act.tblPut p t i w
    else if 0x54 ≤ t then Act.pairTblPut p t i w
    else Act.setTblWords p t i w

/-- Words cut into entries of n words; the first argument bounds their number. -/
def cutWords (n : Nat) : Nat → List Word → List (List Word)
  | 0, _ => []
  | k + 1, l => if l = [] then [] else l.take n :: cutWords n k (l.drop n)

/-- A route's slots put together (R332): what is read so far with the slots still to come, none where an entry is malformed. -/
def routeStep (st : Option (List Route × Option (Route × Nat))) (w : List Word) : Option (List Route × Option (Route × Nat)) :=
  let w0 := w.getD 0 0
  let addr := fget (w.getD 1 0) ⟨0, 32⟩
  let len := fget w0 ⟨2, 8⟩
  let r : Route := { len := len, hop := fget w0 ⟨10, 12⟩, stamp := fget w0 ⟨22, 16⟩, addr := addr }
  st.bind fun e =>
    match e.2, fget w0 ⟨0, 2⟩ with
    | none, 0 => some e
    | none, 1 => if 32 < len then none else some (e.1 ++ [r], none)
    | none, 2 => if 128 < len then none else some (e.1, some ({ r with v6 := true }, 3))
    | some (q, n), 3 =>
      let q2 := { q with addr := q.addr * 2 ^ 32 + addr }
      if n ≤ 1 then some (e.1 ++ [q2], none) else some (e.1, some (q2, n - 1))
    | _, _ => none

/-- The routes of a longest-prefix section (R331, R332); none where it breaks their layout. -/
def sectionRoutes (l : List (List Word)) : Option (List Route) :=
  match l.foldl routeStep (some ([], none)) with
  | some (r, none) => some r
  | _ => none

/-- The routes put into those of die p, in order (R313, R331). -/
def Act.imgRoutes (p : Nat) (l : List Route) : Act :=
  Act.get fun s => Act.each (packRoutes 0 (l.foldl (fun m r => insertRoute r m) (s.routes p))) fun r => Act.putRoute p r

/-- Bits [6j+5:6j] of the word after word 0: the profile number of a queue of a section of table 0x41 (R254). -/
def profNumber (l : List Word) (k : Nat) : Nat := fget (l.getD (1 + k / 8) 0) ⟨6 * (k % 8), 6⟩

/-- FIRST and COUNT of a section of table 0x41. -/
def queueSpan (w0 : Word) : Nat × Nat := (fget w0 ⟨8, 14⟩, fget w0 ⟨22, 14⟩ + 1)

/-- Does a section of table 0x41 fail check 9 (R254)? -/
def queueSectionBad (l : List Word) : Bool :=
  let w0 := l.getD 0 0
  let e := queueSpan w0
  fget w0 ⟨36, 12⟩ != 0 || decide (16384 < e.1 + e.2) || l.length != 1 + cdiv e.2 8 ||
    ((List.range (8 * cdiv e.2 8)).drop e.2).any fun k => profNumber l k != 0

/-- FIRST and the entries of a TABLE section, where its word 0 and its length fit the table (R331). -/
def tableEntries (l : List Word) : Option (Nat × Nat × List (List Word)) :=
  let w0 := l.getD 0 0
  let t := fget w0 ⟨0, 8⟩
  (tblForm t).bind fun (fFirst, fCount, fRest, size, n) =>
    let first := fget w0 fFirst
    let count := fget w0 fCount + 1
    if fget w0 fRest ≠ 0 ∨ l.length ≠ 1 + count * n ∨ (tblKeyed t = true ∧ first ≠ 0) ∨
        (t ≠ 0x44 ∧ size < first + count) then none
    else some (t, first, cutWords n count (l.drop 1))

/-- Where a check holds, the state after what it allows; none where it fails. -/
def State.scan {α : Type} (bad : State → α → Bool) (put : α → Act) : List α → State → Option State
  | [], s => some s
  | e :: l, s => if bad s e then none else State.scan bad put l ((put e).run s)

/-- The entries of a table with their indices. -/
def numbered (first : Nat) (l : List (List Word)) : List (Nat × List Word) := l.mapIdx fun k w => (first + k, w)

/-- Check a TABLE section and put its entries (R109, R331). -/
def State.tableScan (s : State) (p : Nat) (l : List Word) : Option State :=
  if fget (l.getD 0 0) ⟨0, 8⟩ = 0x41 then
    if queueSectionBad l then none
    else
      let e := queueSpan (l.getD 0 0)
      some ((Act.each (List.range e.2) fun k => Act.setTbl (tblKey p 0x41 (e.1 + k) 0) (BitVec.ofNat 48 (profNumber l k))).run s)
  else
    (tableEntries l).bind fun (t, first, m) =>
      if t = 0x44 then
        (sectionRoutes m).bind fun r =>
          if 16384 < routeSlots (s.routes p) + routeSlots r then none else some ((Act.imgRoutes p r).run s)
      else State.scan (fun u e => u.tblEntryBad p t e.1 e.2) (fun e => Act.imgEntry p t e.1 e.2) (numbered first m) s

/-- Apply a TABLE section (R114). -/
def Act.tableApply (p : Nat) (l : List Word) : Act :=
  if fget (l.getD 0 0) ⟨0, 8⟩ = 0x41 then
    let e := queueSpan (l.getD 0 0)
    Act.each (List.range e.2) fun k => Act.setTbl (tblKey p 0x41 (e.1 + k) 0) (BitVec.ofNat 48 (profNumber l k))
  else
    Act.opt (tableEntries l) fun (t, first, m) =>
      if t = 0x44 then Act.opt (sectionRoutes m) fun r => Act.imgRoutes p r
      else Act.each (numbered first m) fun e => Act.imgEntry p t e.1 e.2

/-! ## APERTURE entries (R674, R682) -/

/-- Does an aperture entry break R674? -/
def State.aprBad (s : State) (w : List Word) : Bool :=
  let v := fun k => w.getD k 0
  let dead := fun (d : Nat) => decide (s.x ≤ d)
  fget (v 0) ⟨43, 5⟩ != 0 || (fget (v 0) ⟨9, 18⟩ != 0 && fget (v 0) ⟨27, 16⟩ == 0) ||
    (match fget (v 0) ⟨0, 3⟩ with
     | 0 => false
     | 1 =>
       fget (v 1) ⟨43, 5⟩ != 0 || fget (v 2) ⟨42, 6⟩ != 0 || fget (v 3) ⟨13, 35⟩ != 0 || dead (fget (v 1) ⟨37, 2⟩) ||
         decide (fget (v 3) ⟨0, 12⟩ < fget (v 2) ⟨30, 12⟩)
     | 2 =>
       fget (v 1) ⟨31, 17⟩ != 0 || fget (v 2) ⟨30, 18⟩ != 0 || fget (v 3) ⟨41, 7⟩ != 0 || dead (fget (v 1) ⟨25, 2⟩) ||
         decide (fget (v 3) ⟨0, 29⟩ < fget (v 2) ⟨0, 29⟩) || decide (2048 < fget (v 3) ⟨29, 12⟩)
     | 3 =>
       fget (v 1) ⟨34, 14⟩ != 0 || v 3 != 0 || decide (fget (v 1) ⟨7, 7⟩ < fget (v 1) ⟨0, 7⟩) ||
         decide (fget (v 1) ⟨24, 10⟩ < fget (v 1) ⟨14, 10⟩) || decide (1000 < fget (v 1) ⟨24, 10⟩)
     | 4 =>
       fget (v 1) ⟨47, 1⟩ != 0 || fget (v 3) ⟨14, 34⟩ != 0 || (!bit (v 1) 45 && !s.dieIn (fget (v 1) ⟨0, 3⟩)) ||
         decide (fget (v 1) ⟨11, 8⟩ < fget (v 1) ⟨3, 8⟩) || decide (fget (v 1) ⟨32, 13⟩ < fget (v 1) ⟨19, 13⟩)
     | 5 =>
       fget (v 1) ⟨36, 12⟩ != 0 || decide (fget (v 1) ⟨18, 18⟩ < fget (v 1) ⟨0, 18⟩) ||
         decide (toSigned 48 (v 3).toNat < toSigned 48 (v 2).toNat)
     | _ => true)

/-- FIRST and the entries of an APERTURE section, where its word 0 and its length fit (R682). -/
def aprEntries (l : List Word) : Option (Nat × List (List Word)) :=
  let w0 := l.getD 0 0
  let first := fget w0 ⟨0, 12⟩
  let count := fget w0 ⟨12, 12⟩ + 1
  if fget w0 ⟨24, 24⟩ ≠ 0 ∨ l.length ≠ 1 + 4 * count ∨ 4096 < first + count then none
  else some (first, cutWords 4 count (l.drop 1))

/-- Put an aperture entry: table 0x79 of its die. -/
def Act.aprPut (p : Nat) (e : Nat × List Word) : Act := Act.setTblWords p 0x79 e.1 e.2

/-! ## PARTITION records (R661) -/

/-- The addresses of PDEF, PENTRY and the windows of partition k of die p, in the order of a record. -/
def partAddrs (p k : Nat) : List Nat :=
  [CPU.PDEF p k, CPU.PENTRY p k] ++ (List.range 8).map fun w => CPU.MWIN p (8 * k + w)

/-- The address and value of each register that a record sets. -/
def partPairs (p : Nat) (w : List Word) : List (Nat × Word) := (partAddrs p (w.getD 0 0).toNat).zip (w.drop 1)

/-- The partitions that a PARTITION section names. -/
def partNames (l : List Word) : List Nat := (cutWords 11 l.length l).map fun w => (w.getD 0 0).toNat

/-- The values of a record that its registers refuse, or a number that is none (R661). -/
def State.partRecordBad (s : State) (p : Nat) (w : List Word) : Bool :=
  decide (16 ≤ (w.getD 0 0).toNat) || w.length != 11 || (partPairs p w).any fun e => s.refuses e.1 e.2

/-- Put a record. -/
def Act.partPut (p : Nat) (w : List Word) : Act := Act.each (partPairs p w) fun e => Act.imgWrite e.1 e.2

/-! ## KEYBLOB entries (R502) -/

/-- The entries of a KEYBLOB section, where its word 0 and its length fit. -/
def blobEntries (l : List Word) : Option (List (List Word)) :=
  let w0 := l.getD 0 0
  let count := fget w0 ⟨0, 10⟩ + 1
  if fget w0 ⟨10, 38⟩ ≠ 0 ∨ l.length ≠ 1 + 8 * count then none else some (cutWords 8 count (l.drop 1))

/-- Does a blob entry for die p fail check 9 (R502)? -/
def State.blobBad (s : State) (p : Nat) (w : List Word) : Bool :=
  let n := fget (w.getD 0 0) ⟨0, 10⟩
  fget (w.getD 0 0) ⟨11, 37⟩ != 0 || n == 0 || (s.kslot (sk p n)).blob.isSome || !s.polBit p n KEYS.POL.FILL 2 ||
    fget (w.getD 7 0) ⟨0, 16⟩ != 0

/-- Note the blob of a slot. -/
def Act.blobPut (p : Nat) (w : List Word) : Act :=
  Act.modKslot (sk p (fget (w.getD 0 0) ⟨0, 10⟩)) fun u =>
    { u with blob := some (fget (w.getD 0 0) ⟨10, 1⟩, (wordNats (w.drop 1)).take 40) }

/-! ## The compatibility set (R709) -/

/-- A COMPAT section: the digests, the ranges, the bindings. -/
def compatParts (l : List Word) : List Nat × List (Nat × Nat) × List (Nat × Nat × Nat) :=
  let w0 := l.getD 0 0
  let a := l.drop 1
  let b := a.drop (fget w0 ⟨0, 5⟩)
  ((a.take (fget w0 ⟨0, 5⟩)).map BitVec.toNat,
   (b.take (fget w0 ⟨5, 5⟩)).map fun w => (fget w ⟨0, 16⟩, fget w ⟨16, 16⟩),
   (b.drop (fget w0 ⟨5, 5⟩)).map fun w => (fget w ⟨0, 12⟩, fget w ⟨12, 2⟩, fget w ⟨14, 14⟩))

/-- Does a COMPAT section fail check 9 (R709)? -/
def State.compatBad (s : State) (l : List Word) : Bool :=
  let w0 := l.getD 0 0
  let e := compatParts l
  fget w0 ⟨22, 26⟩ != 0 || decide (16 < fget w0 ⟨0, 5⟩) || decide (16 < fget w0 ⟨5, 5⟩) || decide (1024 < fget w0 ⟨10, 11⟩) ||
    l.length != 1 + fget w0 ⟨0, 5⟩ + fget w0 ⟨5, 5⟩ + fget w0 ⟨10, 11⟩ || (e.2.1.any fun r => decide (r.2 < r.1)) ||
    (e.2.2.any fun b => decide (s.x ≤ b.2.1)) ||
    ((e.2.2.map fun b => (b.1, b.2.1)).eraseDups.length != e.2.2.length)

/-- Set the compatibility set. -/
def Act.compatPut (l : List Word) : Act :=
  let e := compatParts l
  Act.upd fun s =>
    { s with plx := { s.plx with compDigs := e.1, compGens := e.2.1, compBinds := e.2.2, compUnheard := bit (l.getD 0 0) 21 } }

/-! ## A configuration section, checked and applied (R108 step 6, R114) -/

/-- Check the entries of a configuration section for its die on a state that holds what came before, and go on with what it adds;
none where an entry fails check 9. before holds the earlier sections' PARTITION names for the die. -/
def State.sectionScan (s : State) (u : Section) (l : List Word) (before : List Nat) : Option State :=
  let p := u.target
  match u.type with
  | 1 => if l.length % 2 = 1 ∨ ((regPairs l).any fun e => s.regEntryBad p e) = true ∨ (p < 4 ∧ s.slopesBad p (regPairs l) = true) then none else some s
  | 2 => if (l.any fun w => s.lockEntryBad p w) = true then none else some s
  | 3 => s.tableScan p l
  | 4 => (aprEntries l).bind fun e => if (e.2.any fun w => s.aprBad w) = true then none else some s
  | 5 =>
    if l.length % 11 ≠ 0 ∨ (before ++ partNames l).eraseDups.length ≠ (before ++ partNames l).length ∨
        ((cutWords 11 l.length l).any fun w => s.partRecordBad p w) = true then none
    else some s
  | 6 => (blobEntries l).bind fun m => State.scan (fun t w => t.blobBad p w) (Act.blobPut p) m s
  | _ => if s.compatBad l then none else some s

/-- Apply a configuration section at its die (R114). -/
def Act.sectionApply (u : Section) (l : List Word) : Act :=
  let p := u.target
  match u.type with
  | 1 => Act.each (regPairs l) fun e => Act.imgWrite e.1 e.2
  | 2 => Act.skip
  | 3 => Act.tableApply p l
  | 4 => Act.opt (aprEntries l) fun e => Act.each (numbered e.1 e.2) (Act.aprPut p)
  | 5 => Act.each (cutWords 11 l.length l) (Act.partPut p)
  | 6 => Act.opt (blobEntries l) fun m => Act.each m (Act.blobPut p)
  | 7 => Act.compatPut l
  | _ => Act.skip

/-! ## The checks of a slot (R108 to R110) -/

/-- The report of an examined slot (R134): STATE, ERR_SECTION, ERR_KIND. -/
structure SlotReport where
  state : Nat
  sect : Nat := 0
  kind : Nat := 0
  deriving DecidableEq, Repr

/-- The state on which entries are checked: the REGISTER sections stand, so that the image's own policies and seeds count. -/
def State.imgBase (s : State) (i : Nat) : State :=
  (Act.each ((s.imgDir i).filter fun u => u.type == 1) fun u =>
    Act.each ((regPairs (s.secWords i u)).filter fun e => !s.regEntryBad u.target e) fun e => Act.imgWrite e.1 e.2).run s

/-- Check configuration sections from number n on: tags and entries (R108 step 6). -/
def State.configScan (s : State) (i : Nat) : Nat → List Section → State → Option SlotReport
  | _, [], _ => none
  | n, u :: l, t =>
    if u.isConfig then
      if s.secTagOk i n = false then some { state := 5, sect := n }
      else
        let before := (((s.imgDir i).take n).filter fun v => v.type == 5 && v.target == u.target).flatMap
          fun v => partNames (s.secWords i v)
        match t.sectionScan u (s.secWords i u) before with
        | none => some { state := 6, sect := n, kind := 9 }
        | some t2 => State.configScan s i (n + 1) l t2
    else State.configScan s i (n + 1) l t

/-- The bytes of a FIRMWARE section's payload (R104). -/
def fwBytes (u : Section) (w0 : Word) : Nat := 6 * (u.length - 1) - fget w0 ⟨40, 3⟩

/-- The value that a PARTITION record of an image gives to word w of partition k of die p; none where no record names it. -/
def State.imgPart (s : State) (i p k w : Nat) : Option Word :=
  ((s.imgDir i).filter fun u => u.type == 5 && u.target == p).findSome? fun u =>
    (cutWords 11 u.length (s.secWords i u)).findSome? fun r => if (r.getD 0 0).toNat = k then some (r.getD w 0) else none

/-- Does word 0 of FIRMWARE section n fail check 9, or the section check 10 (R104, R109, R661)? -/
def State.fwWrong (s : State) (i n : Nat) : Option Nat :=
  let l := s.imgDir i
  let u := l.getD n {}
  let w0 := s.imgWord i u.offset
  let bytes := fun (j : Nat) => fwBytes (l.getD j {}) (s.imgWord i (l.getD j {}).offset)
  let same := (List.range (n + 1)).filter fun j => !(l.getD j {}).isConfig && (l.getD j {}).target == u.target
  let en := (s.imgPart i u.target u.partition 1).any fun v => fget v CPU.PDEF.EN == 1
  let win := fget ((s.imgPart i u.target u.partition 3).getD 0) CPU.MWIN.SIZE * 4096
  if 5 < fget w0 ⟨40, 3⟩ ∨ fget w0 ⟨43, 5⟩ ≠ 0 then some 9
  else if (if s.fuse.memUsed then 2 ^ 33 else 2 ^ 22) < (same.map bytes).sum ∨ en = false ∨
      win < fget w0 ⟨0, 40⟩ + bytes n then some 10
  else none

/-- The verdict on a slot whose header, directory and structure stand: its sections (R108 step 6). -/
def State.sectionsVerdict (s : State) (i : Nat) : SlotReport :=
  let l := s.imgDir i
  ((s.configScan i 0 l (s.imgBase i)).orElse fun _ =>
    (firstKind l.length fun n => if (l.getD n {}).isConfig then none else s.fwWrong i n).map fun e =>
      { state := 6, sect := e.1, kind := e.2 }).getD { state := 1 }

/-- Does a slot hold MAGIC (R108 step 1)? -/
def State.imgMagic (s : State) (i : Nat) : Bool := fget (s.imgWord i 0) ⟨16, 32⟩ == 0xFA1D1A6E

/-- Examine slot i in the order of R108; whole says that its sections are read too (R112). -/
def State.examine (s : State) (i : Nat) (whole : Bool) : SlotReport :=
  if s.imgMagic i = false then { state := 3 }
  else
    match s.headerBad i with
    | some k => { state := 6, kind := k }
    | none =>
      let dir := s.imgWords i 16 (4 * s.imgCount i)
      if s.imgTagOk (s.imgWords i 0 14 ++ dir) (s.imgWord i 14) (s.imgWord i 15) = false then { state := 4 }
      else if s.imgGen i < s.fld (IMG.EPOCH 0) IMG.EPOCH.FLOOR then { state := 7 }
      else
        match s.structBad i with
        | some e => { state := 6, sect := e.1, kind := e.2 }
        | none => if whole then s.sectionsVerdict i else { state := 1 }

end Sys2Proof.Machine
end

