-- ==== Sys2Proof/Machine/Load.lean ====
section
/-! DEFINITION. Steps 8 to 14 of the start: the image key, the epoch area, the choice of a slot, distribution, enables, locks,
firmware and service (R77, R107 to R118, R121), network and host boot (R128, R129, R706), and the restart of a partition (R666). -/

namespace Sys2Proof.Machine

/-! ## The start of step 8 (R73, R80, R107, R121, R128, R129) -/

/-- IMAGE_KEY_UNWRAP: at the start of step 8 the image-key blob is unwrapped under the root key into key slot 0; answers says that the
flash answers (R107). -/
def imageKeyUnwrap (answers : Bool) : Act :=
  Act.get fun s =>
    Act.when (s.start.step = 8 ∧ s.ld.keyTried = false)
      (Act.seq (Act.setLd fun u => { u with keyTried := true })
        (Act.opt (if answers = true ∧ (s.kstore 0).rootOk = true then keyUnwrap (kwSlot 0) rootKey (nats (s.flashRead 0x2000 40)) else none)
          fun key =>
            Act.seq
              (Act.each (s.prismDies.filter fun p => (s.kstore p).rootOk) fun p => Act.fillSlot p 0 0 key)
              (Act.setFld (IMG.STAT 0) IMG.STAT.KEY_OK 1)))

/-- The loader is in a state. -/
def Act.loaderTo (st : Loader) : Act := Act.setLd fun u => { u with st := st }

/-- The start holds in step 8 (R80). -/
def Act.imgHold (st : Loader) : Act := Act.seq (Act.loaderTo st) (Act.setFld (RSTC.START 0) RSTC.START.IMG_HOLD 1)

/-- BOOT as sampled (R73). -/
def State.bootMode (s : State) : Nat := s.fld (RSTC.STRAP 0) RSTC.STRAP.BOOT

/-- Network boot cannot run: the lead die stops its requests and waits for the host (R128). -/
def Act.netOff : Act :=
  Act.all [Act.setLd (fun u => { u with pull := none, rxWords := [], rxTotal := 0 }), Act.event (IMG.EVT 0) 7, Act.imgHold .holdHost]

/-- Can the fast lanes not carry an image (R128)? -/
def State.lanesOff (s : State) : Bool := !s.fuse.memUsed || s.clk.internalOnly

/-- EPOCH_AREA_READ: at the start of step 8 the lead die reads the epoch area and chooses the current record; answers says that the
flash answers (R121). In network and host boot the start then waits for its peer or the host (R80, R128, R129). -/
def epochAreaRead (answers : Bool) : Act :=
  Act.get fun s =>
    Act.when (s.start.step = 8 ∧ s.ld.epochRead = false)
      (Act.all [
        Act.setLd (fun u => { u with epochRead := true, flashAnswers := answers }),
        Act.when (answers = true)
          (Act.seq Act.epochShow
            (Act.opt s.curRec fun c =>
              Act.setFlds (IMG.EPOCH 0) [(IMG.EPOCH.FLOOR, c.floor), (IMG.EPOCH.RENEWAL, c.renewal)])),
        (match s.bootMode with
         | 2 => if s.lanesOff then Act.netOff else Act.imgHold .holdPeer
         | 3 => Act.imgHold .holdHost
         | _ => Act.skip)])

/-- NET_BOOT_OFF: network boot can no longer run (R128). -/
def netBootOff : Act := Act.get fun s => Act.when (s.ld.st = .holdPeer ∧ s.lanesOff = true) Act.netOff

/-! ## Taking a slot (R108, R111, R112) -/

/-- The register that reports slot i: SLOT_A, SLOT_B, XFER (R134). -/
def slotReg (i : Nat) : Nat := if i = 0 then IMG.SLOT_A 0 else if i = 1 then IMG.SLOT_B 0 else IMG.XFER 0

/-- Report an examination of slot i (R134): GEN of the examined header. Whether the header had been read before the flash failed is
not said by the failure, so GEN is then 0 or the header's by a free value (log entry 1). -/
def Act.slotReport (i : Nat) (r : SlotReport) : Act :=
  Act.get fun s =>
    let put := fun (gen : Nat) =>
      Act.setFlds (slotReg i)
        [(IMG.SLOT_A.GEN, gen), (IMG.SLOT_A.STATE, r.state), (IMG.SLOT_A.ERR_SECTION, r.sect), (IMG.SLOT_A.ERR_KIND, r.kind)]
    if r.state = 8 then Act.freeBelow 2 fun n => put (n * s.imgGen i) else put (s.imgGen i)

/-- A slot is taken: its header is reported and step 9 begins (R77, R91, R133). -/
def Act.slotTaken (i : Nat) : Act :=
  Act.get fun s =>
    let w1 := s.imgWord i 1
    Act.all [
      Act.setLd (fun u => { u with st := .distributing, slot := i, dir := s.imgDir i, rxOpen := false, pull := none }),
      Act.setStart (fun u => { u with step := 9 }),
      Act.setFlds (RSTC.START 0) [(RSTC.START.SLOT, i + 1), (RSTC.START.IMG_HOLD, 0)],
      Act.setFld (RSTC.TIME_A 0) RSTC.TIME_A.CFG s.mile,
      Act.setReg (IMG.ID 0)
        (word [(IMG.ID.GEN, s.imgGen i), (IMG.ID.DEVICE_ID, fget w1 ⟨16, 14⟩), (IMG.ID.BUILD_L, fget w1 ⟨32, 3⟩),
          (IMG.ID.BUILD_D, fget w1 ⟨36, 3⟩)]),
      Act.setReg (IMG.DIGEST 0) (s.imgWord i 2),
      Act.setFld (IMG.STAT 0) IMG.STAT.SECTIONS (s.imgCount i)]

/-- The first slot of a flash boot (R73, R111). -/
def State.firstSlot (s : State) : Nat :=
  match (if s.ld.flashAnswers then (s.curRec.map fun c => c.prefer).getD 0 else 0) with
  | 1 => 0
  | 2 => 1
  | _ => s.bootMode % 2

/-- SLOT_EXAMINE: the lead die examines the first slot, or after its failure the other one; answers says that the flash answers
(R108, R111). -/
def slotExamine (answers : Bool) : Act :=
  Act.get fun s =>
    let again := s.ld.examined ≠ []
    let i := if again then 1 - s.firstSlot else s.firstSlot
    let r := if answers then s.examine i true else { state := 8 }
    Act.when (s.start.step = 8 ∧ s.ld.keyTried = true ∧ s.ld.epochRead = true ∧ s.ld.st = .headers)
      (Act.all [
        Act.setLd (fun u => { u with examined := u.examined ++ [i] }),
        Act.slotReport i r,
        (if r.state = 1 then
           Act.seq
             (Act.when again (Act.seq (Act.setFld (RSTC.START 0) RSTC.START.FALLBACK 1) (Act.event (IMG.EVT 0) 0)))
             (Act.slotTaken i)
         else
           Act.when again (Act.seq (Act.imgHold .holdBad) (Act.setStart fun u => { u with heartbeat := false })))])

/-- OTHER_SLOT_CHECK: after step 9 the header, directory and structure of the slot not examined are checked (R112). -/
def otherSlotCheck (answers : Bool) : Act :=
  Act.get fun s =>
    let i := 1 - s.ld.slot
    let r := if answers then s.examine i false else { state := 8 }
    Act.when (10 ≤ s.start.step ∧ s.ld.examined = [s.ld.slot])
      (Act.seq (Act.setLd fun u => { u with examined := u.examined ++ [i] })
        (Act.slotReport i (if r.state = 1 then { state := 2 } else r)))

/-! ## Step 9 (R113 to R118) -/

/-- Enables that the image wrote and that wait for this point take effect, in their order (R114); a refused one is reported
(R255). -/
def Act.enableNow (p : Nat → Bool) : Act :=
  Act.get fun s =>
    Act.seq
      (Act.each (s.ld.deferred.filter p) fun a => blkCtrl .image (aDie a) (aBlk a) 1 Act.loadReject)
      (Act.setLd fun u => { u with deferred := u.deferred.filter fun a => !p a })

/-- Is a block enabled at step 11: CAN, LIN, the signal engine with the Beam table (R114)? -/
def atEleven (a : Nat) : Bool := decide (aDie a < 4) && (decide (0x40 ≤ aBlk a ∧ aBlk a < 0x58) || aBlk a == 0x60)

/-- Is a block enabled at step 12: Ethernet facets and forwarding (R114)? -/
def atTwelve (a : Nat) : Bool := decide (aDie a < 4) && (decide (0x20 ≤ aBlk a ∧ aBlk a < 0x40) || aBlk a == 0x10)

/-- The gate lists that the image enables take effect as a change with admin bank 0 (R326, R341). -/
def Act.imgGates : Act :=
  Act.get fun s =>
    Act.each s.prismDies fun p => Act.each (List.range 32) fun f =>
      let v := s.reg (PSFP.GCL_CTRL p f)
      Act.when (fget v PSFP.GCL_CTRL.ENABLE = 1)
        (Act.seq (Act.setFld (PSFP.GCL_STAT p f) PSFP.GCL_STAT.OPER_BANK 1)
          (gclCtrl .image p f (fset v PSFP.GCL_CTRL.CONFIG_CHANGE 1) Act.loadReject))

/-- The registers of die field d that are locked (R118, R192). -/
def State.lockCount (s : State) (d : Nat) : Nat :=
  ((List.range 256).map fun b =>
    ((List.range 8192).filter fun r => s.regIs (ra d b r) && s.imgLocked (ra d b r)).length).sum

/-- The locks apply on every die (R118). -/
def Act.imgLocks : Act :=
  Act.get fun s =>
    Act.seq
      (Act.each (s.ld.dir.filter fun u => u.type == 2) fun u => Act.each (s.secWords s.ld.slot u) Act.lockPut)
      (Act.each ((List.range 8).filter s.dieIn) fun d =>
        Act.seq (Act.setFld (DEV.LOCK d) DEV.LOCK.APPLIED 1)
          (Act.get fun t => Act.setFld (DEV.LOCK d) DEV.LOCK.COUNT (sat 0xFFFF (t.lockCount d))))

/-- The indices of the FIRMWARE sections of partition k of die p. -/
def State.partSections (s : State) (p k : Nat) : List Nat :=
  (List.range s.ld.dir.length).filter fun n =>
    let u := s.ld.dir.getD n {}
    !u.isConfig && u.target == p && u.partition == k

/-- Partition k of die p waits for its firmware where EN = 1; one that no section names fails (R664). -/
def Act.partLoad (p k : Nat) : Act :=
  Act.get fun s =>
    Act.when (s.pdef p k CPU.PDEF.EN = 1)
      (if s.partSections p k = [] then Act.partFail p k else Act.modPart (ptk p k) fun u => { u with st := .loading })

/-- At the end of step 9 the partitions wait for their firmware and all cores begin their frames (R662, R664). -/
def Act.partsLoad : Act :=
  Act.get fun s =>
    Act.each s.prismDies fun p =>
      Act.seq (Act.each (List.range 16) (Act.partLoad p)) (Act.framesBegin p)

/-- Every FIRMWARE section has been processed (R117). -/
def Act.fwDone : Act :=
  Act.get fun s =>
    Act.all [
      Act.loaderTo .done,
      Act.setFld (RSTC.START 0) RSTC.START.FW_DONE 1,
      Act.setFld (RSTC.TIME_B 0) RSTC.TIME_B.FW s.mile,
      Act.setStart fun u => { u with fwDone := true }]

/-- CONFIG_DISTRIBUTION: step 9. Every die applies its sections in directory order; at its end blocks are enabled, locks apply and
partitions wait for their firmware (R113 to R118, R664); an armed lid switch that was high at step 6 acts here, and the start goes no
further (R514). -/
def configDistribution : Act :=
  Act.get fun s =>
    let left := (List.range s.ld.dir.length).filter fun n => !(s.ld.dir.getD n {}).isConfig
    Act.when (s.start.step = 9)
      (Act.all [
        Act.each (s.ld.dir.filter Section.isConfig) (fun u => Act.sectionApply u (s.secWords s.ld.slot u)),
        Act.imgGates,
        Act.enableNow (fun a => !atEleven a && !atTwelve a),
        Act.imgLocks,
        Act.partsLoad,
        Act.get fun t =>
          if t.lidTamper then Act.tamper 2
          else
            Act.all [
              Act.setStart (fun u => { u with step := 10 }),
              Act.setLd (fun u => { u with st := .streaming, fwLeft := left }),
              Act.when (left = []) Act.fwDone]])

/-! ## Steps 11 to 14 (R77, R114, R116, R117) -/

/-- Is one of some blocks enabled on some Prism die? -/
def State.anyOn (s : State) (l : List Nat) : Bool := s.prismDies.any fun p => l.any fun b => s.enabled p b

/-- CAN_LIN_ENABLE: step 11; the milestone is that of the first CAN controller enabled (R77, R91, R114). In internal-only mode the
controllers are skipped (R71). -/
def canLinEnable : Act :=
  Act.get fun s =>
    Act.when (s.start.step = 10 ∧ s.start.canDone = false)
      (Act.all [
        Act.enableNow (fun a => atEleven a && (!s.clk.internalOnly || aBlk a == 0x60)),
        Act.get (fun t => Act.when (t.anyOn (List.range' 0x40 16) = true) (Act.setFld (RSTC.TIME_A 0) RSTC.TIME_A.CAN s.mile)),
        Act.setStart fun u => { u with canDone := true }])

/-- ETHERNET_ENABLE: step 12; the milestone is that of forwarding enabled (R77, R91, R114). In internal-only mode the facets are
skipped (R71). -/
def ethernetEnable : Act :=
  Act.get fun s =>
    Act.when (s.start.step = 10 ∧ s.start.ethDone = false)
      (Act.all [
        Act.enableNow (fun a => atTwelve a && (!s.clk.internalOnly || aBlk a == 0x10)),
        Act.get (fun t => Act.when (t.anyOn [0x10] = true) (Act.setFld (RSTC.TIME_B 0) RSTC.TIME_B.ETH s.mile)),
        Act.setStart fun u => { u with ethDone := true }])

/-- The payload of FIRMWARE section n lands in its partition's first window (R104, R116): whole where the source answers, else a part
of it that the spec does not state (log entry 1). -/
def Act.fwLand (n : Nat) (answers : Bool) : Act :=
  Act.get fun s =>
    let u := s.ld.dir.getD n {}
    let w0 := s.imgWord s.ld.slot u.offset
    let l := ((s.secWords s.ld.slot u).drop 1).flatMap wordBytes |>.take (fwBytes u w0)
    let base := fget (s.reg (CPU.MWIN u.target (8 * u.partition))) CPU.MWIN.BASE * 4096 + fget w0 ⟨0, 40⟩
    if answers then Act.memWrite u.target base l
    else Act.freeBelow (l.length + 1) fun m => Act.memWrite u.target base (l.take m)

/-- A FIRMWARE section failed: counted and reported, its partition does not start (R117). -/
def Act.fwFailed (n : Nat) : Act :=
  Act.get fun s =>
    let u := s.ld.dir.getD n {}
    Act.all [
      Act.when (s.fld (IMG.FW_STAT 0) IMG.FW_STAT.FAILED = 0) (Act.setFld (IMG.FW_STAT 0) IMG.FW_STAT.FIRST_FAIL n),
      Act.bumpFld (IMG.FW_STAT 0) IMG.FW_STAT.FAILED 1,
      Act.event (IMG.EVT 0) 2,
      Act.setLd (fun v => { v with fwBad := v.fwBad ++ [16 * u.target + u.partition] }),
      Act.partFail u.target u.partition]

/-- Must step 10, not done yet, erase a sector before it writes its record (R122, R125)? -/
def State.eraseAtTen (s : State) : Bool :=
  !s.start.epochDone && s.ld.flashAnswers &&
    (match s.curRec with
     | some c =>
       c.epoch != 0xFFFF && (s.freeFrom c.sector (c.pos + 1)).isNone && !s.sectorErased (1 - c.sector)
     | none => !s.fuse.epochInit && (s.freeFrom 0 0).isNone)

/-- FW_SECTION_DONE: the next FIRMWARE section ends; answers says that the flash answered throughout (R116, R117). Where step 10 must
erase, firmware streaming waits for it (R125). -/
def fwSectionDone (answers : Bool) : Act :=
  Act.get fun s =>
    Act.opt s.ld.fwLeft.head? fun n =>
      Act.when (10 ≤ s.start.step ∧ s.eraseAtTen = false)
        (Act.all [
          Act.fwLand n (answers || s.ld.slot == 2),
          (if (answers || s.ld.slot == 2) && s.secTagOk s.ld.slot n then Act.bumpFld (IMG.FW_STAT 0) IMG.FW_STAT.PASSED 1
           else Act.fwFailed n),
          Act.setLd (fun u => { u with fwLeft := u.fwLeft.drop 1 }),
          Act.when (s.ld.fwLeft.length = 1) Act.fwDone])

/-- PARTITION_START: a loading partition whose sections have all passed runs (R664). -/
def partitionStart (p k : Nat) : Act :=
  Act.get fun s =>
    Act.when (s.partIn p k .loading = true ∧ (s.partSections p k).all (fun n => !s.ld.fwLeft.contains n) = true)
      (Act.partRun p k)

/-- PARTITION_RESTART: the sections of a restarting partition have streamed again; it runs, or fails (R664, R666). -/
def partitionRestart (p k : Nat) (answers : Bool) : Act :=
  Act.get fun s =>
    let l := s.partSections p k
    let ans := answers || s.ld.slot == 2
    Act.when (s.partIn p k .restarting = true)
      (Act.seq (Act.each l fun n => Act.fwLand n ans)
        (match l.find? fun n => !(ans && s.secTagOk s.ld.slot n) with
         | none => if l = [] then Act.partFail p k else Act.partRun p k
         | some n => Act.fwFailed n))

/-- SERVICE_ENTRY: steps 10 to 13 are done and service begins (R77). -/
def serviceEntry : Act :=
  Act.get fun s =>
    Act.when (s.start.step = 10 ∧ s.start.epochDone = true ∧ s.start.canDone = true ∧ s.start.ethDone = true ∧ s.start.fwDone = true)
      (Act.seq (Act.setStart fun u => { u with step := 15, served := true }) Act.wakeService)

/-! ## A received image (R128, R129, R134) -/

/-- The received image is forgotten. -/
def Act.rxDrop : Act := Act.setLd fun u => { u with rxWords := [], rxNext := 0, rxTotal := 0, rxOpen := false, pull := none }

/-- A received image is complete: it is examined and taken, or discarded (R128, R129). -/
def Act.received : Act :=
  Act.get fun s =>
    let r := s.examine 2 true
    Act.seq (Act.slotReport 2 r)
      (if r.state = 1 then Act.slotTaken 2
       else
        Act.seq (Act.setFld (IMG.XFER 0) IMG.XFER.ATTEMPTS (sat 255 (s.fld (IMG.XFER 0) IMG.XFER.ATTEMPTS + 1))) Act.rxDrop)

/-- The bytes that hold a received image: the lead die's LPDDR5, or its SRAM where there is none (R128, R172). -/
def State.rxRoom (s : State) : Nat := if s.fuse.memUsed then 2 ^ 33 else 2 ^ 22

/-! ## Network boot, the requester's side (R128, R706) -/

/-- NET_BOOT_REQUEST: an image request leaves on the fast lanes, every 100 ms (R128, R706). -/
def netBootRequest : Act :=
  Act.get fun s =>
    Act.when (s.ld.st = .holdPeer ∧ s.lanesOff = false ∧ s.ld.pull.isNone = true ∧ (s.ld.asked.all fun t => s.pastMs t 100) = true)
      (Act.seq (Act.setLd fun u => { u with asked := some s.edges })
        (Act.each (List.range 4) fun f =>
          Act.bootSend f 6 (beBytes 6 s.fuse.serial ++ beBytes 2 (s.fld (IMG.EPOCH 0) IMG.EPOCH.FLOOR) ++ beBytes 1 (s.x + 16 * s.y))))

/-- The chunks of a pull. -/
def Pull.chunks (u : Pull) : Nat := cdiv u.total 200

/-- Ask for the next chunk while fewer than 16 are outstanding (R706). -/
def Act.askChunk : Act :=
  Act.get fun s =>
    Act.opt s.ld.pull fun u =>
      Act.when (u.asked.length < 16 ∧ u.next < u.chunks)
        (Act.seq (Act.bootSend u.facet 8 (beBytes 4 u.next))
          (Act.setLd fun v => { v with pull := some { u with next := u.next + 1, asked := u.asked ++ [(u.next, s.edges, 0)] } }))

/-- Ask for as many chunks as may be outstanding. -/
def Act.askChunks : Act := Act.each (List.range 16) fun _ => Act.askChunk

/-- BOOT_OFFER: the requester follows the first offer (R706); an image that its memory cannot hold is not followed. -/
def bootOffer : Act :=
  Act.ezTake (fun m => m.type == 7) fun m =>
    Act.get fun s =>
      let total := m.at 2 4
      Act.when (s.ld.st = .holdPeer ∧ s.lanesOff = false ∧ s.ld.pull.isNone = true ∧ m.facet < 4 ∧ 6 * total ≤ s.rxRoom)
        (Act.seq
          (Act.setLd fun u => { u with pull := some { facet := m.facet, total := total }, rxWords := [], rxNext := 0, rxTotal := total })
          Act.askChunks)

/-- CHUNK: the words of a chunk asked for are kept, and the next one is asked for (R706). -/
def chunkReceived : Act :=
  Act.ezTake (fun m => m.type == 9) fun m =>
    Act.get fun s =>
      let i := m.at 0 4
      Act.when (s.ld.st = .holdPeer ∧ s.lanesOff = false)
        (Act.opt s.ld.pull fun u =>
          let n := min 200 (u.total - 200 * i)
          let l := bytesToWords n (m.body.drop 4)
          Act.when (m.facet = u.facet ∧ (u.asked.any fun e => e.1 == i) = true ∧ 4 + 6 * n ≤ m.body.length)
            (Act.seq
              (Act.setLd fun v =>
                { v with
                  pull := some { u with asked := u.asked.filter fun e => e.1 != i }
                  rxWords := (List.range n).foldl (fun r k => Sparse.put (fun _ => 0) (200 * i + k) (l.getD k 0) r) v.rxWords })
              Act.askChunks))

/-- CHUNK_TIMEOUT: the request for chunk i is unanswered for 20 ms and is repeated; after 10 repeats the image is abandoned
(R706). -/
def chunkTimeout (i : Nat) : Act :=
  Act.get fun s =>
    Act.opt s.ld.pull fun u =>
      Act.opt (u.asked.find? fun e => e.1 == i) fun e =>
        Act.when (s.ld.st = .holdPeer ∧ s.lanesOff = false ∧ s.pastMs e.2.1 20 = true)
          (if 10 ≤ e.2.2 then Act.rxDrop
           else
            Act.seq (Act.bootSend u.facet 8 (beBytes 4 i))
              (Act.setLd fun v =>
                { v with pull := some { u with asked := u.asked.map fun x => if x.1 = i then (i, s.edges, x.2.2 + 1) else x } }))

/-- NET_IMAGE_RECEIVED: every word of the peer's image has come (R128). -/
def netImageReceived : Act :=
  Act.get fun s =>
    Act.opt s.ld.pull fun u =>
      Act.when (s.ld.st = .holdPeer ∧ u.chunks ≤ u.next ∧ u.asked = []) Act.received

/-! ## Host boot (R129, R172) -/

/-- IMAGE_BEGIN: an image of n words is announced; any received before it is forgotten (R172). -/
def imageBegin (n : Nat) (k : Code → Act) : Act :=
  Act.get fun s =>
    if s.ld.st ≠ .holdHost ∨ s.rxRoom < 6 * n then k .denied
    else Act.all [Act.rxDrop, Act.setLd (fun u => { u with rxOpen := true, rxTotal := n }), k .ok]

/-- IMAGE_DATA: words from index i on, none beyond the next one expected (R172). -/
def imageData (i : Nat) (l : List Word) (k : Code → Act) : Act :=
  Act.get fun s =>
    if s.ld.st ≠ .holdHost ∨ s.ld.rxOpen = false ∨ s.ld.rxNext < i ∨ s.ld.rxTotal < i + l.length then k .denied
    else
      Act.seq
        (Act.setLd fun u =>
          { u with
            rxNext := max u.rxNext (i + l.length)
            rxWords := (List.range l.length).foldl (fun r j => Sparse.put (fun _ => 0) (i + j) (l.getD j 0) r) u.rxWords })
        (k .ok)

/-- IMAGE_END: the image is complete; it is answered, then checked (R129, R172). -/
def imageEnd (k : Code → Act) : Act :=
  Act.get fun s =>
    if s.ld.st ≠ .holdHost ∨ s.ld.rxOpen = false ∨ s.ld.rxNext ≠ s.ld.rxTotal then k .denied
    else Act.seq (k .ok) Act.received

end Sys2Proof.Machine
end

