-- ==== Sys2Proof/Machine/Eyepiece.lean ====
section
/-! DEFINITION. Eyepiece: commands, pending entries, flash commands, the SPI and the Ethernet path, and the commands of other devices
(R155 to R184, R705, R783). -/

namespace Sys2Proof.Machine

/-! ## Commands (R166, R167, R170) -/

/-- An Eyepiece command: opcode, TAG, the 40-bit ADDR, DATA or LEN, and the payload of a block command. -/
structure EyeCmd where
  op : Nat
  tag : Nat := 0
  addr : Nat := 0
  data : Nat := 0
  payload : List Byte := []
  deriving DecidableEq, Repr

/-- Is an opcode one of register shape (R170)? -/
def opRegister (n : Nat) : Bool := n == 1 || n == 2 || n == 3 || n == 8 || n == 0x10 || n == 0x12 || n == 0x18

/-- Is an opcode one of block shape (R170)? -/
def opBlock (n : Nat) : Bool := n == 0x11 || n == 0x19 || n == 0x1A

/-- Is an opcode known (R170)? -/
def opKnown (n : Nat) : Bool := n == 0 || opRegister n || opBlock n

/-- May an opcode go to another device (R170)? -/
def opRemote (n : Nat) : Bool := n == 1 || n == 2 || n == 3 || n == 8

/-- Does a block command carry LEN payload bytes to the device (R166)? -/
def opCarries (n : Nat) : Bool := n == 0x11 || n == 0x19

/-- Is LEN of a block command outside its range (R169, R170)? -/
def lenBad (op n : Nat) : Bool :=
  match op with
  | 0x11 => decide (n < 6) || decide (1536 < n) || n % 6 != 0
  | 0x19 => decide (n < 1) || decide (256 < n)
  | 0x1A => decide (n < 1) || decide (256 < n)
  | _ => false

/-- REMOTE (R167). -/
def EyeCmd.remote (c : EyeCmd) : Bool := c.addr / 2 ^ 39 % 2 == 1

/-- The device ID (R167). -/
def EyeCmd.dev (c : EyeCmd) : Nat := c.addr / 2 ^ 24 % 2 ^ 14

/-- The local word address (R167). -/
def EyeCmd.loc (c : EyeCmd) : Nat := c.addr % 2 ^ 24

/-- The flash byte address or word index (R167). -/
def EyeCmd.far (c : EyeCmd) : Nat := c.addr % 2 ^ 32

/-- The agent of a path. -/
def Path.agent : Path → Agent
  | .spi => .spi
  | .eth => .eth

/-- The number under which a path keeps its entries. -/
def Path.num : Path → Nat
  | .spi => 0
  | .eth => 1

/-! ## Pending entries (R161, R162) -/

/-- The pending entries of a path, oldest first. -/
def State.pendsAt (s : State) (i : Nat) : List Pend := Sparse.get (fun _ => []) s.pends i

/-- Set the pending entries of a path. -/
def Act.setPends (i : Nat) (l : List Pend) : Act := Act.upd fun s => { s with pends := Sparse.put (fun _ => []) i l s.pends }

/-- Does a command match an entry (R161)? -/
def EyeCmd.matches (c : EyeCmd) (e : Pend) : Bool := e.opcode == c.op && e.addr == c.addr && e.data == c.data

/-- Open an entry; a 17th replaces the oldest (R162). -/
def Act.openPend (i : Nat) (c : EyeCmd) (st : PendState) : Act :=
  Act.get fun s =>
    let l := s.pendsAt i ++ [{ opcode := c.op, addr := c.addr, data := c.data, st := st }]
    Act.setPends i (l.drop (l.length - 16))

/-- A matching command collects its entry or receives RETRY; one that matches none goes on with start (R161). -/
def Act.collect (i : Nat) (c : EyeCmd) (k : Code → List Byte → Act) (start : Act) : Act :=
  Act.get fun s =>
    match (s.pendsAt i).find? c.matches with
    | none => start
    | some e =>
      match e.st with
      | .ready code data _ => Act.seq (Act.setPends i ((s.pendsAt i).filter fun x => !c.matches x)) (k code data)
      | _ => k .retry []

/-- Change entry n of a path. -/
def Act.modPend (i n : Nat) (f : PendState → PendState) : Act :=
  Act.get fun s => Act.setPends i ((s.pendsAt i).modify n fun e => { e with st := f e.st })

/-- SLOW_FETCH_DONE: at the second slow-clock edge entry n of path i holds the value it waits for, or TIMEOUT where the drive link is
lost (R157, R782). -/
def slowFetchDone (i n : Nat) : Act :=
  Act.get fun s =>
    Act.opt (s.pendsAt i)[n]? fun e =>
      match e.st with
      | .fetch _ =>
        Act.read (if i = 0 then .spi else .eth) (e.addr % 2 ^ 24) fun code w =>
          Act.modPend i n fun _ => .ready code (wordBytes w) s.edges
      | _ => Act.skip

/-- PENDING_ENTRY_EXPIRE: a completed entry not collected for 10 ms is freed (R162). -/
def pendingEntryExpire (i n : Nat) : Act :=
  Act.get fun s =>
    Act.opt (s.pendsAt i)[n]? fun e =>
      match e.st with
      | .ready _ _ t => Act.when (s.pastMs t 10 = true) (Act.setPends i ((s.pendsAt i).eraseIdx n))
      | _ => Act.skip

/-- REMOTE_TIMEOUT: no answer to the remote command of entry n has come within REMOTE_TO (R174, R186). -/
def remoteTimeout (i n : Nat) : Act :=
  Act.get fun s =>
    Act.opt (s.pendsAt i)[n]? fun e =>
      match e.st with
      | .remote _ t =>
        Act.when (s.pastMs t (s.fld (EYE.CTRL 0) EYE.CTRL.REMOTE_TO) = true)
          (Act.seq (Act.modPend i n fun _ => .ready .timeout [] s.edges) (Act.event (EYE.EVT 0) 3))
      | _ => Act.skip

/-- The slow-domain registers that the lead die reads over the drive links now. -/
def State.slowRegs (s : State) : List Nat :=
  (s.driveDies.filter fun d => !s.dlinkDown d).flatMap fun d =>
    ((List.range 256).filter fun b => blockSlow b).flatMap fun b =>
      ((List.range 8192).map fun r => ra (4 + d) b r).filter s.regIs

/-- COMPAT_VIEW_REFRESH: the lead die's copy of every slow-domain register is refreshed (R158). -/
def compatRefresh : Act :=
  Act.upd fun s => { s with compat := s.slowRegs.foldl (fun m a => Sparse.put regReset a (s.live a) m) s.compat }

/-- A READ that may wait for the slow domain (R157 to R159). -/
def eyeRead (path : Path) (c : EyeCmd) (k : Code → List Byte → Act) : Act :=
  let a := c.loc
  let now := Act.read path.agent a fun code w => k code (wordBytes w)
  Act.get fun s =>
    if slowRead a = false ∨ s.regIs a = false ∨ s.dlinkLost (aDie a - 4) = true then now
    else if s.flag (EYE.CTRL 0) (if path = .spi then EYE.CTRL.COMPAT_SPI else EYE.CTRL.COMPAT_ETH) then
      k .ok (wordBytes (Sparse.get regReset s.compat a))
    else Act.seq (Act.openPend path.num c (.fetch s.edges)) (k .retry [])

/-! ## Flash commands (R130, R173) -/

/-- Is a flash command, an IMG.CMD command or the background erase in progress? -/
def State.eyeFlashBusy (s : State) : Bool := s.ld.flashOp != .none || s.ld.cmdBusy.isSome || s.ld.erasing.isSome

/-- Do n bytes from address a touch the slot loaded at this start? -/
def State.inSlot (s : State) (a n : Nat) : Bool :=
  decide (9 ≤ s.start.step) && decide (s.ld.slot < 2) &&
    decide (slotBase s.ld.slot < a + n ∧ a < slotBase s.ld.slot + 80 * 2 ^ 20)

/-- Is a flash command denied (R130, R173)? n is the number of its bytes. -/
def State.flashDenied (s : State) (op a n : Nat) : Bool :=
  !(s.loaderIs 5 || s.loaderIs 6 || s.loaderIs 8) || decide (s.flashSize < a + n) ||
    (op != 0x1A && (decide (a < 0x3000) || s.inSlot a n)) || (op == 0x18 && a % 4096 != 0) ||
    (op == 0x19 && decide (256 < a % 256 + n))

/-- EYE.FLASH.OP of an opcode (R187). -/
def flashOpNum (op : Nat) : Nat := op - 0x17

/-- A flash command starts, or is refused (R173). -/
def eyeFlash (path : Path) (c : EyeCmd) (k : Code → List Byte → Act) : Act :=
  let n := if c.op = 0x18 then 4096 else c.data
  Act.get fun s =>
    if s.flashDenied c.op c.far n then k .denied []
    else if s.eyeFlashBusy then k .busy []
    else
      Act.all [
        Act.setLd (fun u =>
          { u with flashOp := if c.op = 0x18 then .erase c.far else if c.op = 0x19 then .program c.far c.payload else .read c.far n }),
        Act.setReg (EYE.FLASH 0) (word [(EYE.FLASH.RESULT, 1), (EYE.FLASH.OP, flashOpNum c.op), (EYE.FLASH.ADDR, c.far)]),
        (if c.op = 0x1A then Act.seq (Act.openPend path.num c .flash) (k .retry []) else k .ok [])]

/-- The entry that waits for the flash receives its result. -/
def Act.flashAnswer (code : Code) (data : List Byte) : Act :=
  Act.get fun s =>
    Act.each [0, 1] fun i =>
      Act.setPends i ((s.pendsAt i).map fun e => if e.st = .flash then { e with st := .ready code data s.edges } else e)

/-- FLASH_OP_DONE: the flash command in progress ends; good says that the flash answered and did it (R173, R187). -/
def flashOpDone (good : Bool) : Act :=
  Act.get fun s =>
    let done := fun (n : Nat) =>
      Act.seq (Act.setFld (EYE.FLASH 0) EYE.FLASH.RESULT n) (Act.setLd fun u => { u with flashOp := .none })
    match s.ld.flashOp with
    | .none => Act.skip
    | .erase a => if good then Act.seq (Act.flashErase a) (done 2) else Act.seq (Act.flashUndefined a 4096) (done 3)
    | .program a l =>
      if good then
        Act.seq (Act.flashProgram a l) (Act.get fun t => done (if t.flashRead a l.length = l then 2 else 3))
      else Act.seq (Act.flashUndefined a l.length) (done 3)
    | .read a n =>
      if good then Act.seq (Act.flashAnswer .ok (s.flashRead a n)) (done 2) else Act.seq (Act.flashAnswer .timeout []) (done 3)

/-! ## Execution (R170 to R174) -/

/-- The key that RESET needs (R171). -/
def resetKey : Nat := 0xA55A

/-- A command on this device. -/
def eyeLocal (path : Path) (c : EyeCmd) (k : Code → List Byte → Act) : Act :=
  let short := fun (code : Code) => k code []
  Act.get fun s =>
    match c.op with
    | 0x00 => k .ok []
    | 0x01 => eyeRead path c k
    | 0x02 => Act.write path.agent false c.loc (BitVec.ofNat 48 c.data) short
    | 0x03 => k .ok (beBytes 6 s.attn)
    | 0x08 => if c.data = resetKey then k .ok [] else k .denied []
    | 0x10 => if path = .eth then k .denied [] else imageBegin (c.data % 2 ^ 32) short
    | 0x11 => if path = .eth then k .denied [] else imageData c.far (bytesToWords (c.payload.length / 6) c.payload) short
    | 0x12 => if path = .eth then k .denied [] else imageEnd short
    | 0x18 => eyeFlash path c k
    | 0x19 => eyeFlash path c k
    | 0x1A => eyeFlash path c k
    | _ => k .badFrame []

/-- A command to another device opens an entry, or completes with REMOTE_ERROR (R161, R174). -/
def eyeRemote (path : Path) (c : EyeCmd) (k : Code → List Byte → Act) : Act :=
  Act.ezRequest c.dev c.op c.loc c.data 0 fun o =>
    match o with
    | none => k .remoteError []
    | some tag => Act.get fun s => Act.seq (Act.openPend path.num c (.remote tag s.edges)) (k .retry [])

/-- Execute a command of a path: k is given the reply code and the data (R170). -/
def eyeRun (path : Path) (c : EyeCmd) (k : Code → List Byte → Act) : Act :=
  Act.get fun s =>
    if opKnown c.op = false ∨ lenBad c.op c.data = true then k .badFrame []
    else if c.op = 0 then k .ok []
    else if c.remote = true ∧ opRemote c.op = false then k .denied []
    else
      Act.collect path.num c k
        (if c.remote = true ∧ c.dev ≠ s.devId then eyeRemote path c k else eyeLocal path c k)

/-- Does a command, answered OK, reset this package (R171)? -/
def State.resetsHere (s : State) (c : EyeCmd) (code : Code) : Bool :=
  c.op == 8 && code == .ok && (!c.remote || c.dev == s.devId)

/-- STATUS (R175). -/
def statusBytes (code : Code) (attn : Nat) : List Byte := beBytes 2 (code.num * 4096 + attn)

/-- What follows TAG in a reply: the data of a register command, the payload of FLASH_READ, zero where the code is not OK
(R166, R169). -/
def replyData (c : EyeCmd) (code : Code) (data : List Byte) : List Byte :=
  let d := if code = .ok ∨ code = .parity then data else []
  if opRegister c.op then padTo 6 d else if c.op = 0x1A ∧ code ≠ .badFrame then padTo c.data d else []

/-! ## The SPI path (R165 to R171) -/

/-- The reply part of a transaction, with its CRC (R166, R168). -/
def spiReply (c : EyeCmd) (attn : Nat) (code : Code) (data : List Byte) : List Byte :=
  let b := statusBytes code attn ++ beBytes 1 c.tag ++ replyData c code data
  b ++ beBytes 2 (crc16 b)

/-- A command arrives whole on the SPI path, which answers from step 6 (R165, R169, R783). -/
def eyeSpi (c : EyeCmd) : Act :=
  Act.get fun s =>
    Act.when (6 ≤ s.start.step)
      (eyeRun .spi c fun code data =>
        Act.seq (Act.emit (.spi (spiReply c s.attn code data)))
          (Act.when (s.resetsHere c code = true) (Act.packageReset false 4 [(RSTC.DETAIL.EYE_PATH, 1)])))

/-- The bytes of a host part from its first ones (R166, R169). -/
def hostLength (b : List Byte) : Nat :=
  let op := bytesAt b 0 1
  if opRegister op then 15
  else if opBlock op then 11 + (if opCarries op then bytesAt b 7 2 else 0)
  else if op = 0 then 4
  else 3

/-- Is a whole host part bad: its opcode unknown, its LEN out of range, its CRC wrong (R169)? -/
def hostBad (b : List Byte) : Bool :=
  let op := bytesAt b 0 1
  let n := hostLength b
  !opKnown op || (opBlock op && lenBad op (bytesAt b 7 2)) || bytesAt b (n - 2) 2 != crc16 (b.take (n - 2))

/-- BAD_FRAME: a host part that is bad is answered BAD_FRAME and not executed (R169). One whose bytes do not reach its end is an
aborted one; one that is not bad is no stimulus of this command. -/
def badFrame (b : List Byte) : Act :=
  Act.get fun s =>
    Act.when (6 ≤ s.start.step ∧ 3 ≤ b.length ∧ hostLength b ≤ b.length ∧ hostBad b = true)
      (Act.emit (.spi (spiReply { op := bytesAt b 0 1, tag := bytesAt b 1 1 } s.attn .badFrame [])))

/-! ## The Ethernet path (R177 to R180, R783) -/

/-- The request records of a payload: the records and the bytes after them; none where they do not fit (R178). -/
def parseRecords : Nat → List Byte → Option (List EyeCmd × List Byte)
  | 0, b => some ([], b)
  | n + 1, b =>
    let op := bytesAt b 0 1
    let len := bytesAt b 7 2
    let size := if opBlock op then 9 + (if opCarries op then len else 0) else 13
    if b.length < size then none
    else
      let c : EyeCmd :=
        { op := op, tag := bytesAt b 1 1, addr := bytesAt b 2 5, data := if opBlock op then len else bytesAt b 7 6
          payload := if opCarries op then (b.drop 9).take len else [] }
      (parseRecords n (b.drop size)).map fun e => (c :: e.1, e.2)

/-- Do the rights in force allow an opcode on the Ethernet path (R170, R180)? -/
def State.ethAllows (s : State) (op : Nat) : Bool :=
  let rights := s.fld (EYE.ETH 0) EYE.ETH.RIGHTS
  let most := if s.epochOk = false ∧ s.flag (EYE.ETH 0) EYE.ETH.AUTH = true then 0 else rights
  match op with
  | 0x02 => decide (1 ≤ most)
  | 0x08 => decide (2 ≤ most)
  | 0x10 => false
  | 0x11 => false
  | 0x12 => false
  | 0x18 => decide (2 ≤ most)
  | 0x19 => decide (2 ≤ most)
  | 0x1A => decide (2 ≤ most)
  | _ => true

/-- One record of a request, after the checks that come before it (R176, R180). -/
def eyeRecord (c : EyeCmd) (k : Code → List Byte → Act) : Act :=
  Act.get fun s =>
    if opKnown c.op = false ∨ lenBad c.op c.data = true then k .badFrame []
    else if s.ethAllows c.op = false then
      (if c.op = 2 ∧ (c.remote = false ∨ c.dev = s.devId) ∧ s.regIs c.loc = false then k .noSuch [] else k .denied [])
    else eyeRun .eth c k

/-- A reply record (R178). -/
def replyRecord (attn : Nat) (c : EyeCmd) (code : Code) (data : List Byte) : List Byte :=
  statusBytes code attn ++ beBytes 1 c.tag ++ replyData c code data

/-- Execute records in order; k is given the reply records and whether the package is to be reset (R171, R178). -/
def eyeRecords (attn : Nat) : List EyeCmd → List Byte → Bool → (List Byte → Bool → Act) → Act
  | [], acc, rst, k => k acc rst
  | c :: l, acc, rst, k =>
    eyeRecord c fun code data =>
      Act.get fun s => eyeRecords attn l (acc ++ replyRecord attn c code data) (rst || s.resetsHere c code) k

/-- The message of a request's or reply's TAG (R179). -/
def State.eyeMessage (s : State) (b : List Byte) : List Nat := nats (beBytes 2 s.devId ++ b)

/-- Ask for the tag of bytes b in a direction, 0 made and 1 checked: none where the key cannot be used (R179, R182). -/
def Act.eyeTag (dir : Nat) (b : List Byte) (k : Option (List Byte) → Act) : Act :=
  Act.get fun s =>
    let n := s.fld (EYE.ETH 0) EYE.ETH.AUTH_SLOT
    if n = 0 then k none
    else
      Act.useKey 0 n 5 (some dir) none none 5 fun u =>
        match u with
        | .ok key => k (some (octets ((cmac key (s.eyeMessage b)).take 8)))
        | _ => k none

/-- What an action puts out next at facet 63 of the lead die in a class makes the package reset, once it has been sent (R171). -/
def Act.resetAfter (cls : Nat) (a : Act) : Act :=
  Act.get fun s =>
    Act.seq a
      (Act.get fun t =>
        Act.when (t.fidNo (ck 0 63 cls) ≠ s.fidNo (ck 0 63 cls))
          (Act.upd fun u => { u with eyeReset := some (cls, s.fidNo (ck 0 63 cls)) }))

/-- The reply frame leaves from the ingress facet (R178, R179). b is the request frame without its FCS, g its ingress facet. The model's
choices: its source address is EYE.MAC, and the kept VLAN tag takes the priority EYE.ETH.PCP (log entry 118); a RESET whose reply
frame cannot be sent never resets (log entry 116). -/
def Act.eyeReplyFrame (g : Nat) (b : List Byte) (count : Nat) (recs : List Byte) (rst : Bool) : Act :=
  Act.get fun s =>
    let auth := s.flag (EYE.ETH 0) EYE.ETH.AUTH
    let pcp := s.fld (EYE.ETH 0) EYE.ETH.PCP
    let seq := bytesAt (frBody b) 6 4
    let body := beBytes 1 1 ++ beBytes 1 (1 + 2 * b2n auth) ++ beBytes 2 count ++ beBytes 2 s.epoch ++ beBytes 4 seq ++ recs
    let head := beBytes 6 (frSa b) ++ wordBytes (s.reg (EYE.MAC 0)) ++
      (if frTagged b then beBytes 2 0x8100 ++ beBytes 2 (pcp * 8192 + frTci b % 8192) else []) ++ beBytes 2 0x88B5
    let out := fun (tag : List Byte) =>
      let f := head ++ body ++ tag
      Act.engineOut 0 63 (globalQueue (g / 64) (queueNo (g % 64) pcp 0)) (globalFacet 0 63) (s.time 0) false (f ++ fcsOf f)
    let send := fun (tag : List Byte) => if rst then Act.resetAfter pcp (out tag) else out tag
    if auth then Act.eyeTag 0 body fun o => Act.opt o send else send []

/-- A frame that R177 or R178 drops. -/
def Act.eyeDrop : Act :=
  Act.seq (Act.bumpFld (EYE.ETH_STAT 0) EYE.ETH_STAT.OTHER_DROP 1) (Act.event (EYE.EVT 0) 4)

/-- A request that fails its tag or is a replay is dropped (R179, R184, R186). -/
def Act.authDrop (i : Nat) : Act :=
  Act.seq (Act.bumpFld (EYE.ETH_STAT 0) EYE.ETH_STAT.AUTH_DROP 1) (Act.event (EYE.EVT 0) i)

/-- An authentic request is judged by its EPOCH and SEQ (R179 steps 3 to 5): go executes it. -/
def Act.eyeFresh (g : Nat) (b : List Byte) (l : List EyeCmd) (attn : Nat) (go : Act) : Act :=
  Act.get fun s =>
    let body := frBody b
    if bytesAt body 4 2 ≠ s.epoch then
      Act.seq (Act.event (EYE.EVT 0) 2)
        (Act.eyeReplyFrame g b l.length (l.flatMap fun c => replyRecord attn c .denied []) false)
    else if bytesAt body 6 4 ≤ (s.reg (EYE.LAST_SEQ 0)).toNat then Act.authDrop 1
    else Act.seq (Act.setReg (EYE.LAST_SEQ 0) (BitVec.ofNat 48 (bytesAt body 6 4))) go

/-- EYEPIECE_ETH_REQUEST: the next Eyepiece frame at facet 63 of the lead die is taken: checked, authenticated and its records
executed in order, with a reply frame (R177 to R180, R783). The model's choices: REPLY 1, FLAGS [7:2] not zero or COUNT outside its
range drop the frame as BAD_FRAME (log entry 119); TAG stands right after the last record, before padding (log entry 120); under
AUTH a request without TAG fails its authentication (log entry 121). -/
def eyeRequest : Act :=
  Act.get fun s0 =>
    Act.when (s0.start.ethDone = true)
      (Act.take 0 63 (fun g => g == 0) fun _ r =>
        Act.get fun s =>
          let b := r.fr.data.take (r.fr.data.length - 4)
          let g := r.fr.src
          let body := frBody b
          let n := bytesAt body 2 2
          let auth := s.flag (EYE.ETH 0) EYE.ETH.AUTH
          let flags := bytesAt body 1 1
          if bytesAt body 0 1 ≠ 1 ∨ 1518 < r.fr.data.length ∨ flags % 2 = 1 ∨ 4 ≤ flags ∨ n < 1 ∨ 100 < n then Act.eyeDrop
          else
            match parseRecords n (body.drop 10) with
            | none => Act.eyeDrop
            | some (l, rest) =>
              let go := Act.seq (Act.bumpFld (EYE.ETH_STAT 0) EYE.ETH_STAT.ACCEPTED 1)
                (eyeRecords r.fr.attn l [] false fun recs rst => Act.eyeReplyFrame g b n recs rst)
              if auth = false then go
              else if flags < 2 ∨ rest.length < 8 then Act.authDrop 0
              else
                Act.eyeTag 1 (body.take (body.length - rest.length)) fun o =>
                  if o = some (rest.take 8) then Act.eyeFresh g b l r.fr.attn go else Act.authDrop 0)

/-- ETH_RECEIVE with the sample of STATUS that an Eyepiece reply carries (R783). -/
def ethArrive (p f : Nat) (b : List Byte) (errAt : Option Nat) (fault : Bool) (fixed lost : Nat) : Act :=
  Act.get fun s => ethReceive p f b errAt fault fixed lost s.attn

/-- Was the frame now in transmission at a facet the reply after which the package resets (R171)? -/
def State.resetFrame (s : State) (fr : Frame) : Bool :=
  s.eyeReset == some (fr.cls, fr.fid) && fr.src == globalFacet 0 63

/-- ETH_TRANSMIT with the reset that follows the Eyepiece reply frame (R171). -/
def ethSend (p f coll : Nat) (late fault : Bool) : Act :=
  Act.get fun s =>
    let hit := ((s.eth (fk p f)).tx.any fun fr => s.resetFrame fr)
    Act.seq (ethTransmit p f coll late fault)
      (Act.get fun t =>
        Act.when (hit = true ∧ (t.eth (fk p f)).tx.isNone = true)
          (Act.packageReset false 4 [(RSTC.DETAIL.EYE_PATH, 2)]))

end Sys2Proof.Machine
end

