-- ==== Sys2Proof/Machine/Bridge.lean ====
section
/-! DEFINITION. The window bridge, and the commands that other devices send: loads, stores and locked sequences through windows
(R481 to R494), REQUEST and REPLY (R174, R489, R705). -/

namespace Sys2Proof.Machine

/-! ## Windows (R481, R493) -/

/-- A field of WIN_A of window n of die p. -/
def State.winA (s : State) (p n : Nat) (f : Fld) : Nat := s.fld (WBR.WIN_A p n) f

/-- A field of WIN_B of window n of die p. -/
def State.winB (s : State) (p n : Nat) (f : Fld) : Nat := s.fld (WBR.WIN_B p n) f

/-- The far register of location k of window n (R481). -/
def State.winAddr (s : State) (p n k : Nat) : Nat := (s.winA p n WBR.WIN_A.FAR_BASE + k) % 2 ^ 24

/-- The far device of window n, where it is another device. -/
def State.winDev (s : State) (p n : Nat) : Option Nat :=
  if s.winA p n WBR.WIN_A.REMOTE = 1 then some (s.winA p n WBR.WIN_A.DEVICE) else none

/-- Are posted writes of window n in progress? -/
def State.winBusy (s : State) (p n : Nat) : Bool := (s.wpost p).any fun w => w.win == n

/-- Count an event of the bridge (R494). -/
def Act.winCount (p i : Nat) : Act := Act.count (WBR.CNT p i)

/-- The lock that window n of die p holds (R487). -/
def State.winLock (s : State) (p n : Nat) : Option WinLock := s.gw.winLocks.find? fun l => l.die == p && l.win == n

/-- Change the locks. -/
def Act.setLocks (f : List BlockLock → List BlockLock) (g : List WinLock → List WinLock) : Act :=
  Act.upd fun s => { s with gw := { s.gw with blockLocks := f s.gw.blockLocks, winLocks := g s.gw.winLocks } }

/-! ## Failed writes (R486) -/

/-- A posted write of a partition fails: counted, reported, logged while EVT.POST_ERR is clear (R486, R492, R683). -/
def Act.postFail (p part win loc : Nat) (c : Code) : Act :=
  Act.get fun s =>
    let far := (s.winDev p win).getD 0 * 2 ^ 24 + s.winAddr p win loc
    Act.all [
      Act.winCount p 3,
      (if s.flag (WBR.EVT p) WBR.EVT.POST_ERR then
         Act.setFld (WBR.POST_ERR_INFO p) WBR.POST_ERR_INFO.LATER
           (sat 0xFFFF (s.fld (WBR.POST_ERR_INFO p) WBR.POST_ERR_INFO.LATER + 1))
       else
         Act.seq
           (Act.setReg (WBR.POST_ERR_ADDR p) (word [(WBR.POST_ERR_ADDR.FAR, far), (WBR.POST_ERR_ADDR.CODE, c.num)]))
           (Act.setReg (WBR.POST_ERR_INFO p)
             (word [(WBR.POST_ERR_INFO.WINDOW, win), (WBR.POST_ERR_INFO.PART, part), (WBR.POST_ERR_INFO.LOCATION, loc)]))),
      Act.event (WBR.EVT p) 0,
      Act.irq p (.direct part 4 win)]

/-! ## Locks at the far die (R487, R488) -/

/-- Does a lock hold the block of register a? -/
def State.lockOf (s : State) (a : Nat) : Option BlockLock := s.gw.blockLocks.find? fun l => l.blk == 256 * aDie a + aBlk a

/-- A locked read of register a for a holder (R487): DENIED for a slow-domain block, BUSY for one locked already; else the register
is read, and its block is locked. -/
def Act.lockedRead (ag : Agent) (a : Nat) (l : BlockLock) (k : Code → Word → Act) : Act :=
  Act.get fun s =>
    if s.regIs a = true ∧ 4 ≤ aDie a ∧ blockSlow (aBlk a) = true then k .denied 0
    else if s.regIs a = true ∧ (s.lockOf a).isSome = true then k .busy 0
    else
      Act.read ag a fun c v =>
        if c = .ok then Act.seq (Act.setLocks (fun m => m ++ [{ l with blk := 256 * aDie a + aBlk a, addr := a, since := s.edges }]) id) (k c v)
        else k c v

/-! ## Loads (R482, R483, R487) -/

/-- Is a load through a window denied: by its partition, by VALID, by its form, by the block, or in a lock view without LOCK
(R482)? -/
def State.winDenied (s : State) (p part n : Nat) (aligned lock : Bool) : Bool :=
  !s.enabled p 0x61 || s.winA p n WBR.WIN_A.VALID == 0 || !bit (s.reg (WBR.WIN_B p n)) part || !aligned ||
    (lock && s.winB p n WBR.WIN_B.LOCK == 0)

/-- Does location k lie beyond window n (R482)? -/
def State.winBeyond (s : State) (p n k : Nat) : Bool := decide (2 ^ s.winA p n WBR.WIN_A.SIZE_LOG ≤ k)

/-- The read of a location at a die of this package, which treats it as a firmware access (R487, R489). -/
def Act.winRead (p part core hart n k : Nat) (lock : Bool) (done : Code → Word → Act) : Act :=
  Act.get fun s =>
    let a := s.winAddr p n k
    let ag : Agent := .fw p part core hart
    if lock then
      Act.lockedRead ag a { die := p, win := n } fun c v =>
        if c = .ok then Act.seq (Act.setLocks id fun m => m ++ [{ die := p, win := n, loc := k, since := s.edges }]) (done c v) else done c v
    else Act.read ag a done

/-- Send a read to another device: k is given its tag, or none where there is no route (R705). -/
def Act.winAsk (p dev n k : Nat) (lock : Bool) (done : Option Nat → Act) : Act :=
  Act.get fun s => Act.ezRequest dev (if lock then 0x82 else 0x80) (s.winAddr p n k) 0 1 done

/-- Open a pending entry; a 33rd replaces the oldest (R483). -/
def Act.winOpen (p : Nat) (e : WinPend) : Act :=
  Act.get fun s =>
    let l := s.wpend p ++ [e]
    Act.setWpend p (l.drop (l.length - 32))

/-- A load that starts something new: it is sent once every earlier write of its window has completed (R483, R485). fast says that
the result arrives within HOLD_NS. -/
def Act.winStart (p part core hart n k : Nat) (lock fast : Bool) (ret : Code → Word → Act) : Act :=
  Act.get fun s =>
    let e : WinPend := { part := part, core := core, hart := hart, win := n, lock := lock, loc := k, asked := s.edges }
    let wait := fun (e : WinPend) => Act.all [Act.winOpen p e, Act.winCount p 2, ret .retry 0]
    let slow := 4 ≤ aDie (s.winAddr p n k) ∧ slowRead (s.winAddr p n k) = true
    if lock = true ∧ (s.winLock p n).isSome = true then ret .denied 0
    else if s.winBusy p n then wait e
    else
      match s.winDev p n with
      | some dev =>
        Act.winAsk p dev n k lock fun o =>
          match o with
          | none => ret .remoteError 0
          | some t => wait { e with sent := true, tag := some t }
      | none => if fast = true ∧ ¬ slow then Act.seq (Act.offerMon p 0x054 0 0) (Act.winRead p part core hart n k lock ret) else wait { e with sent := true }

/-- A load of location k through window n by the hart that core c of die p runs, in the plain or the lock view (R482, R483, R487). -/
def Act.winLoad (p c hart n k : Nat) (aligned lock fast : Bool) : Act :=
  Act.get fun s =>
    Act.opt (s.onCore p c) fun part =>
      let ret := fun (code : Code) (v : Word) => Act.reply (.fw p part c hart) code v
      let mine := fun (e : WinPend) => e.part == part && e.win == n && e.lock == lock && e.loc == k
      if s.winA p n WBR.WIN_A.VALID = 1 ∧ s.winBeyond p n k then ret .noSuch 0
      else if s.winDenied p part n aligned lock then ret .denied 0
      else
        Act.seq (Act.winCount p 0)
          (match (s.wpend p).find? mine with
           | some e =>
             (match e.done with
              | some r => Act.seq (Act.setWpend p ((s.wpend p).filter fun x => !mine x)) (ret r.1 r.2.1)
              | none => Act.seq (Act.winCount p 2) (ret .retry 0))
           | none => Act.winStart p part c hart n k lock fast ret)

/-- WINDOW_LOAD: a load in the plain view. -/
def windowLoad (p c hart n k : Nat) (aligned fast : Bool) : Act := Act.winLoad p c hart n k aligned false fast

/-- LOCKED_READ: a load in the lock view. -/
def lockedReadLoad (p c hart n k : Nat) (aligned fast : Bool) : Act := Act.winLoad p c hart n k aligned true fast

/-- A pending entry has its result. -/
def Act.winDone (p i : Nat) (c : Code) (v : Word) : Act :=
  Act.get fun s =>
    Act.seq (Act.setWpend p ((s.wpend p).modify i fun e => { e with sent := true, tag := none, done := some (c, v, s.edges) }))
      (Act.opt (s.wpend p)[i]? fun e => Act.offerMon p 0x054 0 (s.usSince e.asked : Nat))

/-- WINDOW_READ_REPLY: pending entry i of die p goes on: its read is sent where it still waits for earlier writes, the register of a
die of this package is read, or, where late, TIMEOUT passes (R483, R485). The answer of another device comes with its REPLY. -/
def windowReadReply (p i : Nat) (late : Bool) : Act :=
  Act.get fun s =>
    Act.opt (s.wpend p)[i]? fun e =>
      if e.done.isSome then Act.skip
      else if late then
        Act.when (s.pastUs e.asked (10 * s.winB p e.win WBR.WIN_B.TIMEOUT) = true) (Act.all [Act.winDone p i .timeout 0, Act.winCount p 4, Act.event (WBR.EVT p) 1])
      else if e.sent = false ∧ s.winBusy p e.win = true then Act.skip
      else
        match s.winDev p e.win with
        | none => Act.winRead p e.part e.core e.hart e.win e.loc e.lock fun c v => Act.winDone p i c v
        | some dev =>
          if e.sent then Act.skip
          else
            Act.winAsk p dev e.win e.loc e.lock fun o =>
              match o with
              | none => Act.winDone p i .remoteError 0
              | some t => Act.get fun u => Act.setWpend p ((u.wpend p).modify i fun x => { x with sent := true, tag := some t })

/-- WINDOW_PENDING_EXPIRE: a completed entry not collected for 10 ms is freed (R483). -/
def windowPendingExpire (p i : Nat) : Act :=
  Act.get fun s =>
    Act.opt (s.wpend p)[i]? fun e =>
      match e.done with
      | some r => Act.when (s.pastMs r.2.2 10 = true) (Act.setWpend p ((s.wpend p).eraseIdx i))
      | none => Act.skip

/-! ## Stores (R484 to R487) -/

/-- The first posted write of window n of die p leaves for another device, where it has not left (R485, R705). -/
def Act.postSend (p n : Nat) : Act :=
  Act.get fun s =>
    Act.opt ((s.wpost p).findIdx? fun w => w.win == n) fun i =>
      Act.opt (s.wpost p)[i]? fun w =>
        Act.opt (s.winDev p n) fun dev =>
          Act.when (w.tag.isNone = true)
            (Act.ezRequest dev (if w.lock then 0x83 else 0x81) (s.winAddr p n w.loc) w.value.toNat 1 fun o =>
              match o with
              | some t => Act.get fun u => Act.setWpost p ((u.wpost p).modify i fun x => { x with tag := some t })
              | none =>
                Act.seq (Act.get fun u => Act.setWpost p ((u.wpost p).eraseIdx i)) (Act.postFail p w.part n w.loc .remoteError))

/-- The aperture of a store through a window (R484, R672, R677, R679): send is given the value that is sent. -/
def Act.winChecked (p part n a : Nat) (v : Word) (lock : Bool) (send : Word → Act) : Act :=
  Act.get fun s =>
    match s.winDev p n, loadTarget a with
    | none, some ch => Act.aprLoad p part ch v fun o => Act.opt o send
    | dev, _ => Act.aprBlock p part a v dev lock fun ok => Act.when (ok = true) (send v)

/-- WINDOW_STORE: the hart that core c of die p runs stores v to location k through window n; the low 48 bits are the value (R484,
R486, R487). -/
def windowStore (p c hart n k : Nat) (aligned lock : Bool) (v : Nat) : Act :=
  Act.get fun s =>
    Act.opt (s.onCore p c) fun part =>
      let bad := fun (code : Code) => Act.postFail p part n k code
      if s.winA p n WBR.WIN_A.VALID = 1 ∧ s.winBeyond p n k then bad .noSuch
      else if s.enabled p 0x61 = false ∨ s.winA p n WBR.WIN_A.VALID = 0 ∨ aligned = false then bad .denied
      else
        Act.winChecked p part n (s.winAddr p n k) (BitVec.ofNat 48 v) lock fun w =>
          if bit (s.reg (WBR.WIN_B p n)) part = false ∨ s.winB p n WBR.WIN_B.WRITE = 0 ∨
              (lock = true ∧ s.winB p n WBR.WIN_B.LOCK = 0) then bad .denied
          else
            Act.all [
              Act.winCount p 1,
              Act.get (fun t => Act.setWpost p (t.wpost p ++
                [{ part := part, core := c, hart := hart, win := n, lock := lock, loc := k, value := w, asked := t.edges }])),
              Act.postSend p n]

/-- The lock that a window of die p holds on a location ends, at the bridge and at a die of this package (R487). -/
def Act.winRelease (p n : Nat) : Act :=
  Act.setLocks (fun m => m.filter fun l => !(l.dev.isNone && l.die == p && l.win == n)) fun m => m.filter fun l => !(l.die == p && l.win == n)

/-- A posted write arrives at a die of this package (R486, R487, R489). -/
def Act.postArrives (p : Nat) (w : WinPost) : Act :=
  Act.get fun s =>
    let ag : Agent := .fw p w.part w.core w.hart
    let past := fun (c : Code) => Act.when (c ≠ .ok) (Act.postFail p w.part w.win w.loc c)
    let a := s.winAddr p w.win w.loc
    if w.lock = false then Act.write ag false a w.value past
    else if (s.winLock p w.win).any fun l => l.loc == w.loc then
      Act.all [Act.winRelease p w.win, Act.winCount p 5, Act.write ag true a w.value past]
    else past .denied

/-- POSTED_WRITE_DONE: posted write i of die p, the first of its window, arrives at a die of this package; or, where late, TIMEOUT
passes (R485, R486). The answer of another device comes with its REPLY. -/
def postedWriteDone (p i : Nat) (late : Bool) : Act :=
  Act.get fun s =>
    Act.opt (s.wpost p)[i]? fun w =>
      let first := (((s.wpost p).take i).all fun x => x.win != w.win) = true
      let gone := Act.setWpost p ((s.wpost p).eraseIdx i)
      if late then
        Act.when (first ∧ s.pastUs w.asked (10 * s.winB p w.win WBR.WIN_B.TIMEOUT) = true)
          (Act.all [gone, Act.winCount p 4, Act.postFail p w.part w.win w.loc .timeout, Act.postSend p w.win])
      else Act.when (first ∧ (s.winDev p w.win).isNone = true) (Act.all [gone, Act.postArrives p w, Act.postSend p w.win])

/-- WINDOW_LOCK_EXPIRE: LOCK_US passes for a lock: of window n of die p, whose bridge then reports it lost; or, where other, the n-th
lock that another device holds here, which is released (R487). -/
def windowLockExpire (p n : Nat) (other : Bool) : Act :=
  Act.get fun s =>
    if other then
      Act.opt (s.gw.blockLocks.filter fun l => l.dev.isSome)[n]? fun l =>
        Act.when (s.pastUs l.since (s.fld (WBR.CFG (l.blk / 256)) WBR.CFG.LOCK_US) = true) (Act.setLocks (fun m => m.filter fun x => x != l) id)
    else
      Act.when ((s.winLock p n).any (fun l => s.pastUs l.since (s.fld (WBR.CFG p) WBR.CFG.LOCK_US)) = true) (Act.seq (Act.winRelease p n) (Act.event (WBR.EVT p) 2))

/-! ## Commands of other devices (R489, R705) -/

/-- The reply code of a number (R175). -/
def codeOf (n : Nat) : Option Code :=
  [Code.ok, .retry, .rejectedEnabled, .locked, .parity, .busy, .noSuch, .denied, .timeout, .remoteError, .badFrame, .badValue][n]?

/-- An Eyepiece command of device dev, within PLX.CFG.REMOTE_RIGHTS (R705): k is given the reply code and the data. -/
def remoteEyepiece (dev op a data : Nat) (k : Code → Word → Act) : Act :=
  Act.get fun s =>
    let rights := s.fld (PLX.CFG 0) PLX.CFG.REMOTE_RIGHTS
    match op with
    | 0x01 => Act.read (.remote dev) a k
    | 0x02 =>
      if s.regIs a = false then k .noSuch 0
      else if rights = 0 then k .denied 0
      else Act.write (.remote dev) false a (BitVec.ofNat 48 data) fun c => k c 0
    | 0x03 => k .ok (BitVec.ofNat 48 s.attn)
    | 0x08 => if rights < 2 ∨ data ≠ resetKey then k .denied 0 else k .ok 0
    | _ => k (if opKnown op then .denied else .badFrame) 0

/-- A window operation of device dev, within WBR.AGENT (R489): 0 read, 1 store, 2 locked read, 3 lock-view store (log entry 56). -/
def remoteWindow (dev op a data : Nat) (k : Code → Word → Act) : Act :=
  Act.get fun s =>
    let rights := s.fld (WBR.AGENT 0) WBR.AGENT.RIGHTS
    let need := if op = 0 then 0 else if op = 1 then 1 else 2
    let held := s.gw.blockLocks.any fun l => l.dev == some dev && l.addr == a
    if s.enabled 0 0x61 = false ∨ s.fld (WBR.AGENT 0) WBR.AGENT.EN = 0 ∨ rights < need ∨ 3 < op then k .denied 0
    else
      match op with
      | 0 => Act.read (.remote dev) a k
      | 1 => Act.write (.remote dev) false a (BitVec.ofNat 48 data) fun c => k c 0
      | 2 => Act.lockedRead (.remote dev) a { dev := some dev } k
      | _ =>
        if held then
          Act.seq (Act.setLocks (fun m => m.filter fun l => !(l.dev == some dev && l.addr == a)) id)
            (Act.write (.remote dev) true a (BitVec.ofNat 48 data) fun c => k c 0)
        else k .denied 0

/-- REQUEST: the first request of the inbox is executed and answered, or relayed (R701, R705). A RESET takes effect once its REPLY has
been sent (R171). -/
def requestReceived (past : Bool) : Act :=
  Act.ezCommand 3 past fun m =>
    let op := m.at 0 1
    let answer := fun (c : Code) (v : Word) =>
      Act.get fun s =>
        let out := Act.ezReply m.src (m.at 1 1) c.num (wordBytes v)
        if op = 8 ∧ m.at 11 1 = 0 ∧ c = .ok then Act.resetAfter (s.fld (PLX.CFG 0) PLX.CFG.CLASS) out else out
    if m.at 11 1 = 0 then remoteEyepiece m.src op (m.at 2 3) (m.at 5 6) answer
    else if 0x80 ≤ op then remoteWindow m.src (op - 0x80) (m.at 2 3) (m.at 5 6) answer
    else answer .badFrame 0

/-- An answer for the pending entry of a path that waits for tag t of device dev. -/
def Act.replyPend (dev t : Nat) (c : Code) (data : List Byte) : Act :=
  Act.get fun s =>
    Act.each [0, 1] fun i =>
      Act.setPends i ((s.pendsAt i).map fun e =>
        match e.st with
        | .remote u _ => if u = t ∧ e.addr / 2 ^ 24 % 2 ^ 14 = dev then { e with st := .ready c data s.edges } else e
        | _ => e)

/-- An answer for the read or the posted write of a window of die p that waits for tag t of device dev. -/
def Act.replyWindow (p dev t : Nat) (c : Code) (v : Word) : Act :=
  Act.get fun s =>
    let from' := fun (n : Nat) => s.winDev p n == some dev
    Act.seq
      (Act.opt ((s.wpend p).findIdx? fun e => e.tag == some t && from' e.win) fun i =>
        Act.opt (s.wpend p)[i]? fun e =>
          Act.seq (Act.winDone p i c v)
            (Act.when (e.lock = true ∧ c = .ok) (Act.setLocks id fun m => m ++ [{ die := p, win := e.win, loc := e.loc, since := s.edges }])))
      (Act.opt ((s.wpost p).findIdx? fun w => w.tag == some t && from' w.win) fun i =>
        Act.opt (s.wpost p)[i]? fun w =>
          Act.all [
            Act.setWpost p ((s.wpost p).eraseIdx i),
            Act.when (w.lock = true) (Act.winRelease p w.win),
            Act.when (w.lock = true ∧ c = .ok) (Act.winCount p 5),
            Act.when (c ≠ .ok) (Act.postFail p w.part w.win w.loc c),
            Act.postSend p w.win])

/-- REPLY: the first reply of the inbox completes the remote command that carries its tag; one that nothing waits for is discarded
(R174, R483, R486, R705). -/
def replyReceived (past : Bool) : Act :=
  Act.ezCommand 4 past fun m =>
    Act.get fun s =>
      Act.opt (codeOf (m.at 1 1)) fun c =>
        Act.seq (Act.replyPend m.src (m.at 0 1) c ((m.body.drop 2).take 6))
          (Act.each s.prismDies fun p => Act.replyWindow p m.src (m.at 0 1) c (BitVec.ofNat 48 (m.at 2 6)))

end Sys2Proof.Machine
end

