-- ==== Sys2Proof/Machine/Send.lean ====
section
/-! DEFINITION. How a command that is a register access reaches its register: from the host on either Eyepiece path or from a hart
(R140, R143, R160, R170, R180, R672), with the memory stores that a hart makes before it. -/

namespace Sys2Proof.Machine

/-- A write of register a by a sender. The SPI path answers from step 6, the Ethernet path from step 12 and within its rights; a hart's
store passes its aperture. -/
def Act.send (w : Sender) (a : Nat) (v : Word) : Act :=
  Act.get fun s =>
    match w with
    | .spi => Act.when (6 ≤ s.start.step) (Act.write .spi false a v (Act.replied .spi))
    | .eth =>
      Act.when (s.start.ethDone = true)
        (if s.ethAllows 2 then Act.write .eth false a v (Act.replied .eth)
         else Act.replied .eth (if s.regIs a then .denied else .noSuch))
    | .hart p c h => Act.opt (s.onCore p c) fun k => Act.hartStore p c k a (.fw p k c h) v

/-- A read of register a by a sender. -/
def Act.fetch (w : Sender) (a : Nat) : Act :=
  Act.get fun s =>
    match w with
    | .spi => Act.when (6 ≤ s.start.step) (Act.read .spi a (Act.reply .spi))
    | .eth => Act.when (s.start.ethDone = true) (Act.read .eth a (Act.reply .eth))
    | .hart p c h => Act.opt (s.onCore p c) fun k => Act.hartLoad p k c (mgmtBase + 8 * a) a (.fw p k c h)

/-- A write with one field forced: the row of that field's value. -/
def Act.order (w : Sender) (a : Nat) (v : Nat) (f : Fld) (n : Nat) : Act := Act.send w a (fset (BitVec.ofNat 48 v) f n)

/-- The stores of eight bytes that a hart made to its own memory before a command: each lands where a memory window with W covers it,
and is an access fault otherwise (R657, R660, log entry 60). -/
def Act.hartMem (w : Sender) (l : List (Nat × Nat)) : Act :=
  match w with
  | .hart p c _ =>
    Act.get fun s =>
      Act.opt (s.onCore p c) fun k =>
        Act.each l fun e =>
          if s.windowOk p k e.1 8 46 ∧ e.1 % 8 = 0 then Act.memWrite p e.1 (leBytes 8 e.2) else Act.cpuCount p k 4
  | _ => Act.skip

/-- A write of SEQ to an SC register, its other bits 0 (R163). An address that holds no SC register is no stimulus of this row. -/
def clearBySequence (w : Sender) (a n : Nat) : Act :=
  Act.when ((regRow a).any (fun r => r.kind == .sc) = true) (Act.send w a (fset 0 scSeq n))

/-- EYE_CS_N has risen before the host part ended: its bytes are discarded, and no reply is sent (R169). -/
def spiAborted (_bytes : List Byte) : Act := Act.skip

end Sys2Proof.Machine
end

