-- ==== Sys2Proof/Machine/ExecBridge.lean ====
section
/-! DEFINITION. The meanings of the commands of the window bridge: each is one operation, made where the part it names is there. -/

namespace Sys2Proof.Machine

/-- WINDOW_LOAD (R483): A load through a window reads the far register or returns RETRY. -/
def execWindowLoad (p c hart n k : Nat) (aligned fast : Bool) (s : State) : Host.Outcome State Fault Refusal :=
  Act.go (Act.when (p < s.x ∧ c < 7 ∧ n < 256 ∧ k < 8192 ∧ s.prismUp = true) (windowLoad p c hart n k aligned fast)) s

/-- WINDOW_STORE (R484): A store through a window is posted to the far side. -/
def execWindowStore (p c hart n k : Nat) (aligned lock : Bool) (v : Nat) (s : State) : Host.Outcome State Fault Refusal :=
  Act.go (Act.when (p < s.x ∧ c < 7 ∧ n < 256 ∧ k < 8192 ∧ s.prismUp = true) (windowStore p c hart n k aligned lock v)) s

/-- WINDOW_READ_REPLY (R483): A far read result arrives or times out into its pending entry. -/
def execWindowReadReply (p i : Nat) (late : Bool) (s : State) : Host.Outcome State Fault Refusal :=
  Act.go (Act.when (p < s.x ∧ s.prismUp = true) (windowReadReply p i late)) s

/-- POSTED_WRITE_DONE (R486): A posted window write completes, or fails and is logged. -/
def execPostedWriteDone (p i : Nat) (late : Bool) (s : State) : Host.Outcome State Fault Refusal :=
  Act.go (Act.when (p < s.x ∧ s.prismUp = true) (postedWriteDone p i late)) s

/-- LOCKED_READ (R487): A lock-view load reads a far register and locks its block. -/
def execLockedRead (p c hart n k : Nat) (aligned fast : Bool) (s : State) : Host.Outcome State Fault Refusal :=
  Act.go (Act.when (p < s.x ∧ c < 7 ∧ n < 256 ∧ k < 8192 ∧ s.prismUp = true) (lockedReadLoad p c hart n k aligned fast)) s

/-- WINDOW_LOCK_EXPIRE (R487): A lock held for LOCK_US is released and LOCK_LOST is set. -/
def execWindowLockExpire (p n : Nat) (other : Bool) (s : State) : Host.Outcome State Fault Refusal :=
  Act.go (Act.when (p < s.x ∧ s.prismUp = true) (windowLockExpire p n other)) s

/-- WINDOW_PENDING_EXPIRE (R483): An uncollected window pending entry is freed after 10 ms. -/
def execWindowPendingExpire (p i : Nat) (s : State) : Host.Outcome State Fault Refusal :=
  Act.go (Act.when (p < s.x ∧ s.prismUp = true) (windowPendingExpire p i)) s
end Sys2Proof.Machine
end

