-- ==== Sys2Proof/Machine/ExecCan.lean ====
section
/-! DEFINITION. The meanings of the commands of the CAN controllers: each is one operation, made where the part it names is there. -/

namespace Sys2Proof.Machine

/-- CAN_RECEIVE (R395): A valid CAN frame ends on the bus: it is acknowledged, filtered and offered to the fabric. -/
def execCanReceive (p c : Nat) (bytes : List Byte) (res : Bool) (ago : Nat) (s : State) : Host.Outcome State Fault Refusal :=
  Act.go (Act.when (p < s.x ∧ c < 16 ∧ s.prismUp = true) (Act.seq (canReceive p c bytes res ago) (Act.pnForeign p c bytes))) s

/-- CAN_TRANSMIT_DONE (R403): A pending CAN frame is sent successfully and the scheduler is asked again. -/
def execCanTransmitDone (p c tdcv ago : Nat) (s : State) : Host.Outcome State Fault Refusal :=
  Act.go (Act.when (p < s.x ∧ c < 16 ∧ s.prismUp = true) (canTransmitDone p c tdcv ago)) s

/-- CAN_ARBITRATION_LOST (R405): The controller loses arbitration and retries. -/
def execCanArbitrationLost (p c : Nat) (s : State) : Host.Outcome State Fault Refusal :=
  Act.go (Act.when (p < s.x ∧ c < 16 ∧ s.prismUp = true) (canArbitrationLost p c)) s

/-- CAN_ERROR (R411): A bus error updates TEC and REC and may change error state. -/
def execCanError (p c kind phase : Nat) (tx : Bool) (eights : Nat) (exempt : Bool) (tdcv : Option Nat) (s : State) : Host.Outcome State Fault Refusal :=
  Act.go (Act.when (p < s.x ∧ c < 16 ∧ s.prismUp = true) (canError p c kind phase tx eights exempt tdcv)) s

/-- CAN_INTEGRATED (R411): 11 consecutive recessive nominal bits end integration. -/
def execCanIntegrated (p c : Nat) (s : State) : Host.Outcome State Fault Refusal :=
  Act.go (Act.when (p < s.x ∧ c < 16 ∧ s.prismUp = true) (canIntegrated p c)) s

/-- CAN_RECOVER (R412): CAN.CMD.RECOVER moves a BUS_OFF controller to RECOVERING. -/
def execCanRecover (w : Sender) (p c v : Nat) (s : State) : Host.Outcome State Fault Refusal :=
  Act.go (Act.when (p < 4 ∧ c < 16) (Act.order w (CAN.CMD p c) v CAN.CMD.RECOVER 1)) s

/-- CAN_RECOVERY_DONE (R411): 128 occurrences of 11 recessive bits return the controller to ERROR_ACTIVE. -/
def execCanRecoveryDone (p c : Nat) (s : State) : Host.Outcome State Fault Refusal :=
  Act.go (Act.when (p < s.x ∧ c < 16 ∧ s.prismUp = true) (canRecoveryDone p c)) s

/-- ABORT_TX (R405): CAN.CMD.ABORT_TX discards the pending frame at the end of its attempt. -/
def execAbortTx (w : Sender) (p c v : Nat) (s : State) : Host.Outcome State Fault Refusal :=
  Act.go (Act.when (p < 4 ∧ c < 16) (Act.order w (CAN.CMD p c) v CAN.CMD.ABORT_TX 1)) s

/-- FILT_CMD_READ (R432): CAN.FILT_CMD OP 1 reads a filter element. -/
def execFiltCmdRead (w : Sender) (p c v : Nat) (s : State) : Host.Outcome State Fault Refusal :=
  Act.go (Act.when (p < 4 ∧ c < 16) (Act.order w (CAN.FILT_CMD p c) v CAN.FILT_CMD.OP 1)) s

/-- FILT_CMD_WRITE (R401): CAN.FILT_CMD OP 2 writes a filter element. -/
def execFiltCmdWrite (w : Sender) (p c v : Nat) (s : State) : Host.Outcome State Fault Refusal :=
  Act.go (Act.when (p < 4 ∧ c < 16) (Act.order w (CAN.FILT_CMD p c) v CAN.FILT_CMD.OP 2)) s

/-- AC_CMD_READ (R433): CAN.AC_CMD OP 1 reads a tracker entry. -/
def execAcCmdRead (w : Sender) (p c v : Nat) (s : State) : Host.Outcome State Fault Refusal :=
  Act.go (Act.when (p < 4 ∧ c < 16) (Act.order w (CAN.AC_CMD p c) v CAN.AC_CMD.OP 1)) s

/-- AC_CMD_FIND (R433): CAN.AC_CMD OP 2 finds the address holding a NAME. -/
def execAcCmdFind (w : Sender) (p c v : Nat) (s : State) : Host.Outcome State Fault Refusal :=
  Act.go (Act.when (p < 4 ∧ c < 16) (Act.order w (CAN.AC_CMD p c) v CAN.AC_CMD.OP 2)) s

/-- AC_CMD_EMPTY (R416): CAN.AC_CMD OP 3 empties the tracker. -/
def execAcCmdEmpty (w : Sender) (p c v : Nat) (s : State) : Host.Outcome State Fault Refusal :=
  Act.go (Act.when (p < 4 ∧ c < 16) (Act.order w (CAN.AC_CMD p c) v CAN.AC_CMD.OP 3)) s

/-- AC_AGE_SWEEP (R416): Once a second the tracker empties entries not refreshed for AGE_S. -/
def execAcAgeSweep (p c : Nat) (s : State) : Host.Outcome State Fault Refusal :=
  Act.go (Act.when (p < s.x ∧ c < 16 ∧ s.prismUp = true) (acAgeSweep p c)) s
end Sys2Proof.Machine
end

