-- ==== Sys2Proof/Machine/ExecChannel.lean ====
section
/-! DEFINITION. The meanings of the commands of load channels, inputs and Pinhole mode: each is one operation, made where the part it names is there. -/

namespace Sys2Proof.Machine

/-- ADMISSION_REQUEST (R599): A turn-on requests admission and is granted or waits. -/
def execAdmissionRequest (d c : Nat) (s : State) : Host.Outcome State Fault Refusal :=
  Act.go (Act.when (d < s.y ∧ c < 28) (admissionRequest d c)) s

/-- ADMISSION_WINDOW_EXPIRE (R599): A claim leaves the window and waiting requests are decided again. -/
def execAdmissionWindowExpire (s : State) : Host.Outcome State Fault Refusal :=
  Act.go (Act.when (s.prismUp = true) admissionWindowExpire) s

/-- ADM_SLOW (R599): A request has waited WAIT_WARN_MS: ADM_SLOW is set. -/
def execAdmSlow (s : State) : Host.Outcome State Fault Refusal :=
  Act.go (Act.when (s.prismUp = true) admSlow) s

/-- CHN_CMD (R611): A write to CHN.CMD sets the channel's command in force. -/
def execChnCmd (w : Sender) (d c v : Nat) (s : State) : Host.Outcome State Fault Refusal :=
  Act.go (Act.when (d < 4 ∧ c < 28) (Act.send w (CHN.CMD d c) (BitVec.ofNat 48 v))) s

/-- CHANNEL_GRANT (R613): A waiting turn-on is granted and the channel enters RAMP or DRIVE. -/
def execChannelGrant (d c : Nat) (s : State) : Host.Outcome State Fault Refusal :=
  Act.go (Act.when (d < s.y ∧ c < 28) (channelGrant d c)) s

/-- RAMP_DONE (R613): The ramping output reaches its target and the channel enters DRIVE. -/
def execRampDone (d c : Nat) (s : State) : Host.Outcome State Fault Refusal :=
  Act.go (Act.when (d < s.y ∧ c < 28) (rampDone d c)) s

/-- SHORT_DETECT (R616): A short during the ramp opens the channel into RETRY_WAIT or LATCHED. -/
def execShortDetect (d c : Nat) (s : State) : Host.Outcome State Fault Refusal :=
  Act.go (Act.when (d < s.y ∧ c < 28) (shortDetect d c)) s

/-- LIMIT_HELD (R617): Current limit held for LIMIT_MS, or pre-driver overcurrent: treated as a short. -/
def execLimitHeld (d c : Nat) (s : State) : Host.Outcome State Fault Refusal :=
  Act.go (Act.when (d < s.y ∧ c < 28) (limitHeld d c)) s

/-- RETRY_BACKOFF_END (R618): The retry back-off ends and the channel requests admission again. -/
def execRetryBackoffEnd (d c : Nat) (s : State) : Host.Outcome State Fault Refusal :=
  Act.go (Act.when (d < s.y ∧ c < 28) (retryBackoffEnd d c)) s

/-- DT_TRIP (R624): ΔT exceeds DT_MAX for 100 µs: the channel opens into COOL. -/
def execDtTrip (d c : Nat) (s : State) : Host.Outcome State Fault Refusal :=
  Act.go (Act.when (d < s.y ∧ c < 28) (dtTrip d c)) s

/-- GUARD_WARN (R625): In guarded mode Tj reaches 150 °C for 100 µs. -/
def execGuardWarn (d c : Nat) (s : State) : Host.Outcome State Fault Refusal :=
  Act.go (Act.when (d < s.y ∧ c < 28) (guardWarn d c)) s

/-- GUARD_TRIP (R625): In guarded mode Tj reaches 170 °C for 100 µs: the channel opens into COOL. -/
def execGuardTrip (d c : Nat) (s : State) : Host.Outcome State Fault Refusal :=
  Act.go (Act.when (d < s.y ∧ c < 28) (guardTrip d c)) s

/-- COOL_END (R613): The channel cools enough and requests a guarded turn-on. -/
def execCoolEnd (d c : Nat) (tj : Int) (s : State) : Host.Outcome State Fault Refusal :=
  Act.go (Act.when (d < s.y ∧ c < 28) (coolEnd d c tj)) s

/-- GUARD_END (R625): A guarded period ends. -/
def execGuardEnd (d : Nat) (ch : Option Nat) (s : State) : Host.Outcome State Fault Refusal :=
  Act.go (Act.when (d < s.y) (guardEnd d ch)) s

/-- HARD_TRIP (R626): Tj reaches 175 °C: the channel latches with LATCH 1. -/
def execHardTrip (d c : Nat) (s : State) : Host.Outcome State Fault Refusal :=
  Act.go (Act.when (d < s.y ∧ c < 28) (hardTrip d c)) s

/-- LOGIC_HOT (R627): The case reference exceeds 150 °C: every driving channel latches. -/
def execLogicHot (d : Nat) (s : State) : Host.Outcome State Fault Refusal :=
  Act.go (Act.when (d < s.y) (logicHot d)) s

/-- CASE_FAULT (R623): Case sensors differ by more than 10 K for 10 ms: die-wide guarded mode. -/
def execCaseFault (d : Nat) (a b : Int) (s : State) : Host.Outcome State Fault Refusal :=
  Act.go (Act.when (d < s.y) (caseFault d a b)) s

/-- CASE_FAULT_END (R623): Case sensors agree within 5 K for 1 s: the case reference is valid again. -/
def execCaseFaultEnd (d : Nat) (a b : Int) (s : State) : Host.Outcome State Fault Refusal :=
  Act.go (Act.when (d < s.y) (caseFaultEnd d a b)) s

/-- CLAMP_EVENT_END (R632): A clamp event ends: its energy is subtracted and the channel may lock. -/
def execClampEventEnd (d c e : Nat) (s : State) : Host.Outcome State Fault Refusal :=
  Act.go (Act.when (d < s.y ∧ c < 28) (clampEventEnd d c e)) s

/-- CLAMP_REFILL (R632): At each slow-clock edge the clamp level refills. -/
def execClampRefill (d : Nat) (s : State) : Host.Outcome State Fault Refusal :=
  Act.go (Act.when (d < s.y) (clampRefill d)) s

/-- CLEAR_FAULT (R626): CHN.CTRL.CLEAR_FAULT clears latches 1 and 2 when allowed. -/
def execClearFault (w : Sender) (d c v : Nat) (s : State) : Host.Outcome State Fault Refusal :=
  Act.go (Act.when (d < 4 ∧ c < 28) (Act.order w (CHN.CTRL d c) v CHN.CTRL.CLEAR_FAULT 1)) s

/-- UNLOCK (R633): CHN.CTRL.UNLOCK clears latch 3 when the level is at least half. -/
def execUnlock (w : Sender) (d c v : Nat) (s : State) : Host.Outcome State Fault Refusal :=
  Act.go (Act.when (d < 4 ∧ c < 28) (Act.order w (CHN.CTRL d c) v CHN.CTRL.UNLOCK 1)) s

/-- SELFTEST (R635): CHN.CTRL.SELFTEST starts the self-test of an OPEN channel. -/
def execSelftest (w : Sender) (d c v : Nat) (s : State) : Host.Outcome State Fault Refusal :=
  Act.go (Act.when (d < 4 ∧ c < 28) (Act.order w (CHN.CTRL d c) v CHN.CTRL.SELFTEST 1)) s

/-- SELFTEST_END (R635): The self-test ends and records pass or fail. -/
def execSelftestEnd (d c : Nat) (pass : Bool) (s : State) : Host.Outcome State Fault Refusal :=
  Act.go (Act.when (d < s.y ∧ c < 28) (selftestEnd d c pass)) s

/-- CAL (R621): CHN.CTRL.CAL starts an in-system calibration. -/
def execCal (w : Sender) (d c v : Nat) (s : State) : Host.Outcome State Fault Refusal :=
  Act.go (Act.when (d < 4 ∧ c < 28) (Act.order w (CHN.CTRL d c) v CHN.CTRL.CAL 1)) s

/-- CAL_DONE (R621): After 64 samples the calibration is stored or refused. -/
def execCalDone (d c : Nat) (mean : Int) (vary : Bool) (s : State) : Host.Outcome State Fault Refusal :=
  Act.go (Act.when (d < s.y ∧ c < 28) (calDone d c mean vary)) s

/-- OPEN_LOAD (R622): An open-load condition lasts 10 ms and is reported. -/
def execOpenLoad (d c : Nat) (onset : Bool) (s : State) : Host.Outcome State Fault Refusal :=
  Act.go (Act.when (d < s.y ∧ c < 28) (openLoad d c onset)) s

/-- CURRENT_SAMPLE (R619): Every 50 µs a channel samples its current. -/
def execCurrentSample (d c : Nat) (i tj a b : Int) (lim : Bool) (s : State) : Host.Outcome State Fault Refusal :=
  Act.go (Act.when (d < s.y ∧ c < 28) (currentSample d c i tj a b lim)) s

/-- DIE_POWER_ESTIMATE (R629): Each slow-clock edge the drive die estimates channel dissipation. -/
def execDiePowerEstimate (d : Nat) (s : State) : Host.Outcome State Fault Refusal :=
  Act.go (Act.when (d < s.y) (diePowerEstimate d)) s

/-- INPUT_STATE_CHANGE (R636): A sense input's filtered state changes and interrupts firmware. -/
def execInputStateChange (d i mv : Nat) (entry : Option Nat) (s : State) : Host.Outcome State Fault Refusal :=
  Act.go (Act.when (d < s.y ∧ i < 32) (inputStateChange d i mv entry)) s

/-- WET_FAULT (R637): A wetting source cannot deliver its current. -/
def execWetFault (d i : Nat) (s : State) : Host.Outcome State Fault Refusal :=
  Act.go (Act.when (d < s.y ∧ i < 32) (wetFault d i)) s

/-- LIMP_N_ASSERT (R641): LIMP_N stays low for 1 ms: the drive die enters Pinhole mode. -/
def execLimpNAssert (d : Nat) (s : State) : Host.Outcome State Fault Refusal :=
  Act.go (Act.when (d < s.y) (limpAssert d)) s

/-- HEARTBEAT_LOST (R641): No Prism heartbeat for the fused timeout: the drive die enters Pinhole mode. -/
def execHeartbeatLost (d : Nat) (s : State) : Host.Outcome State Fault Refusal :=
  Act.go (Act.when (d < s.y) (heartbeatLost d)) s

/-- PINHOLE_TURN_ON (R643): A map channel's turn-on is granted, one per 10 ms. -/
def execPinholeTurnOn (d : Nat) (s : State) : Host.Outcome State Fault Refusal :=
  Act.go (Act.when (d < s.y) (pinholeTurnOn d)) s

/-- ACK (R644): PIN.CMD.ACK leaves Pinhole mode when all exit conditions hold. -/
def execAck (w : Sender) (d v : Nat) (s : State) : Host.Outcome State Fault Refusal :=
  Act.go (Act.when (d < 4) (Act.order w (PIN.CMD d) v PIN.CMD.ACK 1)) s

/-- TAKEOVER_HOLD_END (R644): After 1 s without a command a map channel's takeover hold ends and it opens. -/
def execTakeoverHoldEnd (d c : Nat) (s : State) : Host.Outcome State Fault Refusal :=
  Act.go (Act.when (d < s.y ∧ c < 28) (takeoverHoldEnd d c)) s

/-- PRISM_HEARTBEAT (R641): Every 1 ms from step 6 the attached Prism die sends a heartbeat over each drive link; each arrival restarts
the drive die's heartbeat timer and advances PIN.STAT.HB_OK_MS. -/
def execPrismHeartbeat (d : Nat) (s : State) : Host.Outcome State Fault Refusal :=
  Act.go (Act.when (d < s.y) (prismHeartbeat d)) s

/-- LIMP_N_RELEASE (R641): The LIMP_N ball returns high: the LIMP_N cause clears in PIN.STAT and the 1 ms high time that Pinhole exit
requires begins. -/
def execLimpNRelease (d : Nat) (s : State) : Host.Outcome State Fault Refusal :=
  Act.go (Act.when (d < s.y) (limpRelease d)) s

/-- RETRY_COUNT_RESET (R613): A channel that has stayed in DRIVE for 1 s sets its retry count to 0. -/
def execRetryCountReset (d c : Nat) (s : State) : Host.Outcome State Fault Refusal :=
  Act.go (Act.when (d < s.y ∧ c < 28) (retryCountReset d c)) s
end Sys2Proof.Machine
end

