-- ==== Sys2Proof/Machine/ExecCipher.lean ====
section
/-! DEFINITION. The meanings of the commands of the cipher engine, MACsec and the sealing unit: each is one operation, made where the part it names is there. -/

namespace Sys2Proof.Machine

/-- CIPH_JOB_START (R523): CIPH.JOB_k START runs a cipher job from its descriptor. -/
def execCiphJobStart (w : Sender) (mem : List (Nat × Nat)) (p k v : Nat) (s : State) : Host.Outcome State Fault Refusal :=
  Act.go (Act.when (p < 4 ∧ k < 4) (Act.seq (Act.hartMem w mem) (Act.order w (CIPH.JOB p k) v CIPH.JOB.START 1))) s

/-- CIPH_JOB_DONE (R524): A cipher job ends with its RESULT and interrupts its partition. -/
def execCiphJobDone (p c : Nat) (fault : Bool) (s : State) : Host.Outcome State Fault Refusal :=
  Act.go (Act.when (p < s.x ∧ c < 4 ∧ s.prismUp = true) (ciphJobDone p c fault)) s

/-- CIPHER_FLOW (R525): A frame in a facet-61 queue is sealed or verified under its flow and forwarded. -/
def execCipherFlow (p : Nat) (fault : Bool) (s : State) : Host.Outcome State Fault Refusal :=
  Act.go (Act.when (p < s.x ∧ s.prismUp = true) (cipherFlow p fault)) s

/-- SA_CMD_READ (R547): MSEC.SA_CMD OP 1 reads an SA or SC. -/
def execSaCmdRead (w : Sender) (p v : Nat) (s : State) : Host.Outcome State Fault Refusal :=
  Act.go (Act.when (p < 4) (Act.order w (MSEC.SA_CMD p) v MSEC.SA_CMD.OP 1)) s

/-- SA_CMD_WRITE (R547): MSEC.SA_CMD OP 2 writes an SA or SC, subject to the PN mark. -/
def execSaCmdWrite (w : Sender) (p v : Nat) (s : State) : Host.Outcome State Fault Refusal :=
  Act.go (Act.when (p < 4) (Act.order w (MSEC.SA_CMD p) v MSEC.SA_CMD.OP 2)) s

/-- PROF_CMD_READ (R548): SEAL.PROF_CMD OP 1 reads a seal profile. -/
def execProfCmdRead (w : Sender) (p v : Nat) (s : State) : Host.Outcome State Fault Refusal :=
  Act.go (Act.when (p < 4) (Act.order w (SEAL.PROF_CMD p) v SEAL.PROF_CMD.OP 1)) s

/-- PROF_CMD_WRITE (R548): SEAL.PROF_CMD OP 2 writes a seal profile and clears its reference. -/
def execProfCmdWrite (w : Sender) (p v : Nat) (s : State) : Host.Outcome State Fault Refusal :=
  Act.go (Act.when (p < 4) (Act.order w (SEAL.PROF_CMD p) v SEAL.PROF_CMD.OP 2)) s

/-- FV_CMD_READ (R549): SEAL.FV_CMD OP 1 reads a profile's freshness. -/
def execFvCmdRead (w : Sender) (p v : Nat) (s : State) : Host.Outcome State Fault Refusal :=
  Act.go (Act.when (p < 4) (Act.order w (SEAL.FV_CMD p) v SEAL.FV_CMD.OP 1)) s

/-- FV_CMD_CLEAR_REF (R549): SEAL.FV_CMD OP 2 clears a receive profile's reference. -/
def execFvCmdClearRef (w : Sender) (p v : Nat) (s : State) : Host.Outcome State Fault Refusal :=
  Act.go (Act.when (p < 4) (Act.order w (SEAL.FV_CMD p) v SEAL.FV_CMD.OP 2)) s

/-- SEAL_BEACON (R535): Every BEACON_MS a transmit profile sends a beacon. -/
def execSealBeacon (p i : Nat) (fault : Bool) (s : State) : Host.Outcome State Fault Refusal :=
  Act.go (Act.when (p < s.x ∧ i < 4096 ∧ s.prismUp = true) (sealBeacon p i fault)) s
end Sys2Proof.Machine
end

