-- ==== Sys2Proof/Machine/ExecEthernet.lean ====
section
/-! DEFINITION. The meanings of the commands of the Ethernet facets: each is one operation, made where the part it names is there. -/

namespace Sys2Proof.Machine

/-- ETH_RECEIVE (R353): The MAC examines a received frame and discards, consumes or offers it for lookup. -/
def execEthReceive (p f : Nat) (bytes : List Byte) (errAt : Option Nat) (fault : Bool) (fixed lost : Nat) (s : State) : Host.Outcome State Fault Refusal :=
  Act.go (Act.when (p < s.x ∧ f < 32 ∧ s.prismUp = true) (ethArrive p f bytes errAt fault fixed lost)) s

/-- PAUSE_RECEIVE (R366): A received PAUSE or PFC frame pauses its classes for the given quanta. -/
def execPauseReceive (p f : Nat) (bytes : List Byte) (s : State) : Host.Outcome State Fault Refusal :=
  Act.go (Act.when (p < s.x ∧ f < 32 ∧ s.prismUp = true) (pauseReceive p f bytes)) s

/-- PAUSE_EXPIRE (R366): A pause time runs out and its class becomes eligible again. -/
def execPauseExpire (p f c : Nat) (s : State) : Host.Outcome State Fault Refusal :=
  Act.go (Act.when (p < s.x ∧ f < 32 ∧ c < 8 ∧ s.prismUp = true) (pauseExpire p f c)) s

/-- PAUSE_LIMIT (R367): A class paused for LIMIT_MS is released and OVERRIDE is set. -/
def execPauseLimit (p f c : Nat) (s : State) : Host.Outcome State Fault Refusal :=
  Act.go (Act.when (p < s.x ∧ f < 32 ∧ c < 8 ∧ s.prismUp = true) (pauseLimit p f c)) s

/-- XOFF_CROSS (R364): Receive-buffer occupancy rises to XOFF or XOFF_TOTAL: a PAUSE or PFC frame is sent. -/
def execXoffCross (p f : Nat) (s : State) : Host.Outcome State Fault Refusal :=
  Act.go (Act.when (p < s.x ∧ f < 32 ∧ s.prismUp = true) (xoffCross p f)) s

/-- XON_CROSS (R364): Occupancy falls to XON: a PAUSE or PFC frame with time 0 is sent. -/
def execXonCross (p f : Nat) (s : State) : Host.Outcome State Fault Refusal :=
  Act.go (Act.when (p < s.x ∧ f < 32 ∧ s.prismUp = true) (xonCross p f)) s

/-- PAUSE_REFRESH (R364): Every QUANTA/2 quanta above XON the PAUSE or PFC frame is sent again. -/
def execPauseRefresh (p f : Nat) (s : State) : Host.Outcome State Fault Refusal :=
  Act.go (Act.when (p < s.x ∧ f < 32 ∧ s.prismUp = true) (pauseRefresh p f)) s

/-- ETH_TRANSMIT (R358): The egress facet sends a frame with tag handling, padding and FCS. -/
def execEthTransmit (p f coll : Nat) (late fault : Bool) (s : State) : Host.Outcome State Fault Refusal :=
  Act.go (Act.when (p < s.x ∧ f < 32 ∧ s.prismUp = true) (ethSend p f coll late fault)) s

/-- TX_ABORT (R360): A frame in transmission is aborted and ended with an inverted FCS. -/
def execTxAbort (p f n : Nat) (underrun : Bool) (s : State) : Host.Outcome State Fault Refusal :=
  Act.go (Act.when (p < s.x ∧ f < 32 ∧ s.prismUp = true) (txAbort p f n underrun)) s

/-- LINK_UP (R351): RAW_OK has been 1 for UP_HOLD_MS: the facet reports link up. -/
def execLinkUp (p f : Nat) (held : Bool) (s : State) : Host.Outcome State Fault Refusal :=
  Act.go (Act.when (p < s.x ∧ f < 32 ∧ s.prismUp = true) (ethLinkUp p f held)) s

/-- LINK_DOWN (R351): RAW_OK has been 0 for LINK_HOLD_MS, or the facet is disabled: link down. -/
def execLinkDown (p f : Nat) (lf rf held : Bool) (s : State) : Host.Outcome State Fault Refusal :=
  Act.go (Act.when (p < s.x ∧ f < 32 ∧ s.prismUp = true) (ethLinkDown p f lf rf held)) s

/-- PLCA_BEACON_LOST (R348): No BEACON for 400 µs: the T1S facet falls back to CSMA/CD and sets PLCA_LOST. -/
def execPlcaBeaconLost (p f : Nat) (s : State) : Host.Outcome State Fault Refusal :=
  Act.go (Act.when (p < s.x ∧ f < 32 ∧ s.prismUp = true) (plcaBeaconLost p f)) s

/-- PLCA_BEACON (R348): A BEACON arrives and the facet returns to PLCA. -/
def execPlcaBeacon (p f : Nat) (s : State) : Host.Outcome State Fault Refusal :=
  Act.go (Act.when (p < s.x ∧ f < 32 ∧ s.prismUp = true) (plcaBeacon p f)) s

/-- MDIO_C45_ADDRESS (R383): ETH.MDIO OP 1 issues a Clause 45 address frame. -/
def execMdioC45Address (w : Sender) (p f v : Nat) (s : State) : Host.Outcome State Fault Refusal :=
  Act.go (Act.when (p < 4 ∧ f < 32) (Act.order w (ETH.MDIO p f) v ETH.MDIO.OP 1)) s

/-- MDIO_C45_WRITE (R383): ETH.MDIO OP 2 issues a Clause 45 write frame. -/
def execMdioC45Write (w : Sender) (p f v : Nat) (s : State) : Host.Outcome State Fault Refusal :=
  Act.go (Act.when (p < 4 ∧ f < 32) (Act.order w (ETH.MDIO p f) v ETH.MDIO.OP 2)) s

/-- MDIO_C45_READ (R383): ETH.MDIO OP 3 issues a Clause 45 read frame. -/
def execMdioC45Read (w : Sender) (p f v : Nat) (s : State) : Host.Outcome State Fault Refusal :=
  Act.go (Act.when (p < 4 ∧ f < 32) (Act.order w (ETH.MDIO p f) v ETH.MDIO.OP 3)) s

/-- MDIO_C22_WRITE (R383): ETH.MDIO OP 4 issues a Clause 22 write frame. -/
def execMdioC22Write (w : Sender) (p f v : Nat) (s : State) : Host.Outcome State Fault Refusal :=
  Act.go (Act.when (p < 4 ∧ f < 32) (Act.order w (ETH.MDIO p f) v ETH.MDIO.OP 4)) s

/-- MDIO_C22_READ (R383): ETH.MDIO OP 5 issues a Clause 22 read frame. -/
def execMdioC22Read (w : Sender) (p f v : Nat) (s : State) : Host.Outcome State Fault Refusal :=
  Act.go (Act.when (p < 4 ∧ f < 32) (Act.order w (ETH.MDIO p f) v ETH.MDIO.OP 5)) s

/-- MDIO_DONE (R349): An MDIO frame completes with its RESULT. -/
def execMdioDone (p bus data : Nat) (turnaround : Bool) (s : State) : Host.Outcome State Fault Refusal :=
  Act.go (Act.when (p < s.x ∧ bus < 2 ∧ data < 65536 ∧ s.prismUp = true) (mdioDone p bus data turnaround)) s

/-- SNAP (R370): ETH.CTRL.SNAP copies all 53 counters into the snapshot bank. -/
def execSnap (w : Sender) (p f v : Nat) (s : State) : Host.Outcome State Fault Refusal :=
  Act.go (Act.when (p < 4 ∧ f < 32) (Act.order w (ETH.CTRL p f) v ETH.CTRL.SNAP 1)) s

/-- RESTART_AN (R380): ETH.CTRL.RESTART_AN restarts Clause 37 auto-negotiation. -/
def execRestartAn (w : Sender) (p f v : Nat) (s : State) : Host.Outcome State Fault Refusal :=
  Act.go (Act.when (p < 4 ∧ f < 32) (Act.order w (ETH.CTRL p f) v ETH.CTRL.RESTART_AN 1)) s

/-- TXTS_POP (R375): A read of TXTS_B returns and removes the oldest egress timestamp entry. -/
def execTxtsPop (w : Sender) (p f : Nat) (s : State) : Host.Outcome State Fault Refusal :=
  Act.go (Act.when (p < 4 ∧ f < 32) (Act.fetch w (ETH.TXTS_B p f))) s

/-- PAUSE_OVERRIDE_END (R367): A class with OVERRIDE set receives no pause from the partner for 1 ms: OVERRIDE clears and pauses are
honoured again. -/
def execPauseOverrideEnd (p f c : Nat) (s : State) : Host.Outcome State Fault Refusal :=
  Act.go (Act.when (p < s.x ∧ f < 32 ∧ c < 8 ∧ s.prismUp = true) (pauseOverrideEnd p f c)) s
end Sys2Proof.Machine
end

