-- ==== Sys2Proof/Machine/ExecEyepiece.lean ====
section
/-! DEFINITION. The meanings of the commands of Eyepiece commands, pending entries, posted writes and register writes: each is one operation, made where the part it names is there. -/

namespace Sys2Proof.Machine

/-- NOP (R170): An Eyepiece NOP returns STATUS only. -/
def execNop (tag : Nat) (s : State) : Host.Outcome State Fault Refusal :=
  Act.go (Act.when (tag < 256) (eyeSpi { op := 0x00, tag := tag })) s

/-- READ (R170): An Eyepiece READ returns a register in DATA, or RETRY with a pending entry for slow-domain and remote reads. -/
def execRead (tag addr data : Nat) (s : State) : Host.Outcome State Fault Refusal :=
  Act.go (Act.when (tag < 256 ∧ addr < 2 ^ 40) (eyeSpi { op := 0x01, tag := tag, addr := addr, data := data })) s

/-- WRITE (R170): An Eyepiece WRITE writes DATA to a register under the Kind rules. -/
def execWrite (tag addr data : Nat) (s : State) : Host.Outcome State Fault Refusal :=
  Act.go (Act.when (tag < 256 ∧ addr < 2 ^ 40) (eyeSpi { op := 0x02, tag := tag, addr := addr, data := data })) s

/-- PEER_STATUS (R170): An Eyepiece PEER_STATUS returns the attention bits of the addressed device. -/
def execPeerStatus (tag addr data : Nat) (s : State) : Host.Outcome State Fault Refusal :=
  Act.go (Act.when (tag < 256 ∧ addr < 2 ^ 40) (eyeSpi { op := 0x03, tag := tag, addr := addr, data := data })) s

/-- RESET (R171): An Eyepiece RESET with the key resets the package with warm scope after the reply completes. -/
def execReset (tag addr data : Nat) (s : State) : Host.Outcome State Fault Refusal :=
  Act.go (Act.when (tag < 256 ∧ addr < 2 ^ 40) (eyeSpi { op := 0x08, tag := tag, addr := addr, data := data })) s

/-- IMAGE_BEGIN (R172): Starts a host image load while LOADER is 8. -/
def execImageBegin (tag addr data : Nat) (s : State) : Host.Outcome State Fault Refusal :=
  Act.go (Act.when (tag < 256 ∧ addr < 2 ^ 40) (eyeSpi { op := 0x10, tag := tag, addr := addr, data := data })) s

/-- IMAGE_DATA (R172): Delivers image words from a word index during a host image load. -/
def execImageData (tag addr : Nat) (payload : List Byte) (s : State) : Host.Outcome State Fault Refusal :=
  Act.go (Act.when (tag < 256 ∧ addr < 2 ^ 40) (eyeSpi { op := 0x11, tag := tag, addr := addr, data := payload.length, payload := payload })) s

/-- IMAGE_END (R172): Ends a host image load, and the lead die checks the image. -/
def execImageEnd (tag addr data : Nat) (s : State) : Host.Outcome State Fault Refusal :=
  Act.go (Act.when (tag < 256 ∧ addr < 2 ^ 40) (eyeSpi { op := 0x12, tag := tag, addr := addr, data := data })) s

/-- FLASH_ERASE (R173): Starts erasing an aligned 4 KiB flash sector. -/
def execFlashErase (tag addr data : Nat) (s : State) : Host.Outcome State Fault Refusal :=
  Act.go (Act.when (tag < 256 ∧ addr < 2 ^ 40) (eyeSpi { op := 0x18, tag := tag, addr := addr, data := data })) s

/-- FLASH_PROGRAM (R173): Starts programming up to 256 bytes within one flash page. -/
def execFlashProgram (tag addr : Nat) (payload : List Byte) (s : State) : Host.Outcome State Fault Refusal :=
  Act.go (Act.when (tag < 256 ∧ addr < 2 ^ 40) (eyeSpi { op := 0x19, tag := tag, addr := addr, data := payload.length, payload := payload })) s

/-- FLASH_READ (R173): Reads up to 256 flash bytes through a pending entry. -/
def execFlashRead (tag addr len : Nat) (s : State) : Host.Outcome State Fault Refusal :=
  Act.go (Act.when (tag < 256 ∧ addr < 2 ^ 40 ∧ len < 65536) (eyeSpi { op := 0x1A, tag := tag, addr := addr, data := len })) s

/-- FLASH_OP_DONE (R173): A flash erase, program or read completes and EYE.FLASH reports the outcome. -/
def execFlashOpDone (good : Bool) (s : State) : Host.Outcome State Fault Refusal :=
  Act.go (Act.when (s.prismUp = true) (flashOpDone good)) s

/-- BAD_FRAME (R169): An Eyepiece host part with a wrong CRC, length or opcode is not executed and receives BAD_FRAME. -/
def execBadFrame (bytes : List Byte) (s : State) : Host.Outcome State Fault Refusal :=
  Act.go (badFrame bytes) s

/-- SPI_ABORTED_COMMAND (R169): EYE_CS_N rises before the host part ends: the command is discarded and no reply is sent. -/
def execSpiAbortedCommand (bytes : List Byte) (s : State) : Host.Outcome State Fault Refusal :=
  Act.go (spiAborted bytes) s

/-- EYEPIECE_ETH_REQUEST (R178): An Eyepiece Ethernet frame is accepted, authenticated and its records executed in order, with a reply
frame. -/
def execEyepieceEthRequest (s : State) : Host.Outcome State Fault Refusal :=
  Act.go (Act.when (s.prismUp = true) eyeRequest) s

/-- SLOW_FETCH_DONE (R157): At the second slow-clock edge the value of a native slow-domain read is fetched into its pending entry. -/
def execSlowFetchDone (i n : Nat) (s : State) : Host.Outcome State Fault Refusal :=
  Act.go (Act.when (i < 2 ∧ s.prismUp = true) (slowFetchDone i n)) s

/-- PENDING_ENTRY_EXPIRE (R162): A completed pending entry not collected within 10 ms is freed. -/
def execPendingEntryExpire (i n : Nat) (s : State) : Host.Outcome State Fault Refusal :=
  Act.go (Act.when (i < 2 ∧ s.prismUp = true) (pendingEntryExpire i n)) s

/-- REMOTE_TIMEOUT (R174): No answer to a remote command arrives within REMOTE_TO: its entry completes with TIMEOUT. -/
def execRemoteTimeout (i n : Nat) (s : State) : Host.Outcome State Fault Refusal :=
  Act.go (Act.when (i < 2 ∧ s.prismUp = true) (remoteTimeout i n)) s

/-- POSTED_WRITE_EFFECT (R155): At the second slow-clock edge after acceptance a posted write takes effect or is refused, and BUSY
returns to 0. -/
def execPostedWriteEffect (d b : Nat) (s : State) : Host.Outcome State Fault Refusal :=
  Act.go (Act.when (d < 8 ∧ b < 256) (postedWriteEffect d b)) s

/-- COMPAT_VIEW_REFRESH (R158): At every slow-clock edge the lead die refreshes its copy of every slow-domain register. -/
def execCompatViewRefresh (s : State) : Host.Outcome State Fault Refusal :=
  Act.go (Act.when (s.prismUp = true) compatRefresh) s

/-- BLOCK_ENABLE (R145): A write of 1 to BLK_CTRL.ENABLE enables the block once every CF register passes parity. -/
def execBlockEnable (w : Sender) (d b v : Nat) (s : State) : Host.Outcome State Fault Refusal :=
  Act.go (Act.when (d < 8 ∧ b < 256) (Act.order w (BLK_CTRL d b) v BLK_CTRL.ENABLE 1)) s

/-- BLOCK_DISABLE (R145): A write of 0 to BLK_CTRL.ENABLE takes the block to its disabled safe state. -/
def execBlockDisable (w : Sender) (d b v : Nat) (s : State) : Host.Outcome State Fault Refusal :=
  Act.go (Act.when (d < 8 ∧ b < 256) (Act.order w (BLK_CTRL d b) v BLK_CTRL.ENABLE 0)) s

/-- CLEAR_BY_SEQUENCE (R163): A write of SEQ to an SC register clears the events up to that sequence, or sets STALE_SEQ. -/
def execClearBySequence (w : Sender) (a seq : Nat) (s : State) : Host.Outcome State Fault Refusal :=
  Act.go (Act.when (a < 2 ^ 24 ∧ seq < 256) (clearBySequence w a seq)) s

/-- REGISTER_WRITE (R148): A write to a register with no row of its own takes effect or is refused under its Kind. -/
def execRegisterWrite (w : Sender) (a v : Nat) (s : State) : Host.Outcome State Fault Refusal :=
  Act.go (Act.when (a < 2 ^ 24) (Act.send w a (BitVec.ofNat 48 v))) s

/-- SUP_MINMAX_CLEAR (R95): SUP.CTRL.MINMAX_CLR restarts VBAT MIN and MAX from NOW. -/
def execSupMinmaxClear (w : Sender) (d v : Nat) (s : State) : Host.Outcome State Fault Refusal :=
  Act.go (Act.when (d < 4) (Act.order w (SUP.CTRL d) v SUP.CTRL.MINMAX_CLR 1)) s

/-- VBAT_SAMPLE (R94): At every slow-clock edge SUP.VBAT NOW, MIN and MAX are updated. -/
def execVbatSample (d v : Nat) (s : State) : Host.Outcome State Fault Refusal :=
  Act.go (Act.when (d < s.y) (vbatSample d v)) s
end Sys2Proof.Machine
end

