-- ==== Sys2Proof/Machine/ExecFabric.lean ====
section
/-! DEFINITION. The meanings of the commands of the Prism fabric and its queues: each is one operation, made where the part it names is there. -/

namespace Sys2Proof.Machine

/-- FRAME_ADMISSION (R257): The fabric asks the queue manager to admit a frame, which is admitted, discarded or refused. -/
def execFrameAdmission (p f : Nat) (s : State) : Host.Outcome State Fault Refusal :=
  Act.go (Act.when (p < s.x ∧ f < 64 ∧ s.prismUp = true) (admitted p f (frameAdmission p f))) s

/-- ADMISSION_RETRY (R199): A refused frame requests admission again when the pool's free count rises. -/
def execAdmissionRetry (p f c : Nat) (s : State) : Host.Outcome State Fault Refusal :=
  Act.go (Act.when (p < s.x ∧ f < 64 ∧ c < 8 ∧ s.prismUp = true) (admitted p f (admissionRetry p f c))) s

/-- FRAME_ENTRY (R202): An admitted frame is granted entry and its cells transit the fabric into the egress queue. -/
def execFrameEntry (p : Nat) (s : State) : Host.Outcome State Fault Refusal :=
  Act.go (Act.when (p < s.x ∧ s.prismUp = true) (frameEntry p)) s

/-- D2D_CELL_RECEIVE (R222): A cell arrives over a die-to-die link and waits for admission on the receiving die. -/
def execD2dCellReceive (p j c : Nat) (s : State) : Host.Outcome State Fault Refusal :=
  Act.go (Act.when (p < s.x ∧ j < 3 ∧ c < 8 ∧ s.prismUp = true) (d2dCellReceive p j c)) s

/-- D2D_CREDIT_RETURN (R222): Credit units return to the sending die when a cell leaves the receive buffer. -/
def execD2dCreditReturn (p j c : Nat) (s : State) : Host.Outcome State Fault Refusal :=
  Act.go (Act.when (p < s.x ∧ j < 3 ∧ c < 8 ∧ s.prismUp = true) (d2dCreditReturn p j c)) s

/-- D2D_CREDIT_VIOLATION (R234): A cell arrives without enough credit: the frame aborts and both dies resynchronise their credits. -/
def execD2dCreditViolation (p j c : Nat) (s : State) : Host.Outcome State Fault Refusal :=
  Act.go (Act.when (p < s.x ∧ j < 3 ∧ c < 8 ∧ s.prismUp = true) (d2dCreditViolation p j c)) s

/-- CELL_CHECK_FAILURE (R234): A cell fails CHECK or its code: its frame is marked ABORT. -/
def execCellCheckFailure (p f c place k flip : Nat) (code : Bool) (s : State) : Host.Outcome State Fault Refusal :=
  Act.go (Act.when (p < s.x ∧ f < 64 ∧ c < 8 ∧ place < 4 ∧ k < 36 ∧ s.prismUp = true) (cellCheckFailure p f c place k flip code)) s

/-- STORM_TIMEOUT (R215): A pause-storm guard timer reaches STORM_MS: the candidate is discarded and the class goes into drain. -/
def execStormTimeout (p f c : Nat) (s : State) : Host.Outcome State Fault Refusal :=
  Act.go (Act.when (p < s.x ∧ f < 64 ∧ c < 8 ∧ s.prismUp = true) (admitted p f (stormTimeout p f c))) s

/-- STALLED_CELL (R234): An admitted frame is not fully written within 1 ms: FAB.EVT.STALL is set. -/
def execStalledCell (p : Nat) (s : State) : Host.Outcome State Fault Refusal :=
  Act.go (Act.when (p < s.x ∧ s.prismUp = true) (stalledCell p)) s

/-- PACE_SAMPLE (R233): At each slow-clock edge the pace monitor updates PACE.NOW and sets PACE_LOW below 1,024. -/
def execPaceSample (p v : Nat) (s : State) : Host.Outcome State Fault Refusal :=
  Act.go (Act.when (p < s.x ∧ s.prismUp = true) (paceSample p v)) s

/-- REP_CMD_READ (R244): FAB.REP_CMD OP 1 copies a replication entry into REP_W0 and REP_W1. -/
def execRepCmdRead (w : Sender) (p v : Nat) (s : State) : Host.Outcome State Fault Refusal :=
  Act.go (Act.when (p < 4) (Act.order w (FAB.REP_CMD p) v FAB.REP_CMD.OP 1)) s

/-- REP_CMD_WRITE (R229): FAB.REP_CMD OP 2 writes a replication entry, or refuses it. -/
def execRepCmdWrite (w : Sender) (p v : Nat) (s : State) : Host.Outcome State Fault Refusal :=
  Act.go (Act.when (p < 4) (Act.order w (FAB.REP_CMD p) v FAB.REP_CMD.OP 2)) s

/-- FAB_CLR_MAX (R240): FAB.CTRL.CLR_MAX resets PACE.MIN, HELD_MAX_MS and HOLD_MAX. -/
def execFabClrMax (w : Sender) (p v : Nat) (s : State) : Host.Outcome State Fault Refusal :=
  Act.go (Act.when (p < 4) (Act.order w (FAB.CTRL p) v FAB.CTRL.CLR_MAX 1)) s

/-- EGRESS_SELECT (R261): The egress scheduler selects the next frame for a facet by class and deficit round robin. -/
def execEgressSelect (p f : Nat) (s : State) : Host.Outcome State Fault Refusal :=
  Act.go (Act.when (p < s.x ∧ f < 64 ∧ s.prismUp = true) (egressSelect p f)) s

/-- FACET_DOWN_FLUSH (R264): An egress facet goes down: its queues are flushed and later references are discarded. -/
def execFacetDownFlush (p f : Nat) (s : State) : Host.Outcome State Fault Refusal :=
  Act.go (Act.when (p < s.x ∧ f < 64 ∧ s.prismUp = true) (facetDownFlush p f)) s

/-- FLUSH_CMD (R265): QMGR.FLUSH_CMD START removes frame references from a queue, class or facet. -/
def execFlushCmd (w : Sender) (p v : Nat) (s : State) : Host.Outcome State Fault Refusal :=
  Act.go (Act.when (p < 4) (Act.order w (QMGR.FLUSH_CMD p) v QMGR.FLUSH_CMD.START 1)) s

/-- FLUSH_DONE (R265): A flush completes, with its count in REMOVED and FLUSH_DONE set. -/
def execFlushDone (p : Nat) (s : State) : Host.Outcome State Fault Refusal :=
  Act.go (Act.when (p < s.x ∧ s.prismUp = true) (flushDone p)) s

/-- SPILL_BLOCK (R268): The spill engine moves a block of 8 cells of a deep queue to LPDDR5. -/
def execSpillBlock (p q : Nat) (err : Bool) (s : State) : Host.Outcome State Fault Refusal :=
  Act.go (Act.when (p < s.x ∧ q < 16384 ∧ s.prismUp = true) (spillBlock p q err)) s

/-- FETCH_BLOCK (R268): The spill engine fetches the oldest spilled block back to a queue's head window. -/
def execFetchBlock (p q err cell : Nat) (s : State) : Host.Outcome State Fault Refusal :=
  Act.go (Act.when (p < s.x ∧ q < 16384 ∧ err < 3 ∧ cell < 8 ∧ s.prismUp = true) (fetchBlock p q err cell)) s

/-- CQ_DATA_READ (R277): A read of CQ_DATA_n by the owner returns and consumes the next word of a consumer port. -/
def execCqDataRead (w : Sender) (p n : Nat) (s : State) : Host.Outcome State Fault Refusal :=
  Act.go (Act.when (p < 4 ∧ n < 64) (Act.fetch w (QMGR.CQ_DATA p n))) s

/-- DROP_REST (R278): CQ_CMD.DROP_REST drops the remaining words of the current frame. -/
def execDropRest (w : Sender) (p n v : Nat) (s : State) : Host.Outcome State Fault Refusal :=
  Act.go (Act.when (p < 4 ∧ n < 64) (Act.order w (QMGR.CQ_CMD p n) v QMGR.CQ_CMD.DROP_REST 1)) s

/-- Q_CMD_READ (R285): QMGR.Q_CMD OP 1 copies a queue's profile and accounting into Q_W0 to Q_W2. -/
def execQCmdRead (w : Sender) (p v : Nat) (s : State) : Host.Outcome State Fault Refusal :=
  Act.go (Act.when (p < 4) (Act.order w (QMGR.Q_CMD p) v QMGR.Q_CMD.OP 1)) s

/-- Q_CMD_WRITE (R253): QMGR.Q_CMD OP 2 sets a queue's profile while QMGR is disabled. -/
def execQCmdWrite (w : Sender) (p v : Nat) (s : State) : Host.Outcome State Fault Refusal :=
  Act.go (Act.when (p < 4) (Act.order w (QMGR.Q_CMD p) v QMGR.Q_CMD.OP 2)) s
end Sys2Proof.Machine
end

