-- ==== Sys2Proof/Machine/ExecFleet.lean ====
section
/-! DEFINITION. The meanings of the commands of the Ezsor fleet: each is one operation, made where the part it names is there. -/

namespace Sys2Proof.Machine

/-- KEEPALIVE_SEND (R701): Every KA_MS the domain engine sends a keep-alive on its facets. -/
def execKeepaliveSend (s : State) : Host.Outcome State Fault Refusal :=
  Act.go (Act.when (s.prismUp = true) keepaliveSend) s

/-- KEEPALIVE_RECEIVE (R699): A keep-alive is checked and updates the domain table and census. -/
def execKeepaliveReceive (past : Bool) (s : State) : Host.Outcome State Fault Refusal :=
  Act.go (Act.when (s.prismUp = true) (keepaliveReceive past)) s

/-- CENSUS_AGE (R707): A member no longer heard leaves its census entry. -/
def execCensusAge (s : State) : Host.Outcome State Fault Refusal :=
  Act.go (Act.when (s.prismUp = true) censusAge) s

/-- CAN_KEEPALIVE_RECEIVE (R702): A CAN keep-alive counts for PN membership and checks its fold. -/
def execCanKeepaliveReceive (p c : Nat) (bytes : List Byte) (s : State) : Host.Outcome State Fault Refusal :=
  Act.go (Act.when (p < s.x ∧ c < 16 ∧ s.prismUp = true) (canKeepaliveReceive p c bytes)) s

/-- HELLO (R703): A HELLO is sent every 1 ms or received, completing the Ezsor handshake. -/
def execHello (p f : Nat) (recv : Bool) (s : State) : Host.Outcome State Fault Refusal :=
  Act.go (Act.when (p < s.x ∧ f < 64 ∧ s.prismUp = true) (if recv then helloReceive p f else helloSend p f)) s

/-- HELLO_LOSS (R703): 10 ms without a HELLO makes RAW_OK fall. -/
def execHelloLoss (p f : Nat) (s : State) : Host.Outcome State Fault Refusal :=
  Act.go (Act.when (p < s.x ∧ f < 64 ∧ s.prismUp = true) (helloLoss p f)) s

/-- CREDIT (R704): A CREDIT message reports cumulative freed cells per class. -/
def execCredit (p f : Nat) (recv : Bool) (s : State) : Host.Outcome State Fault Refusal :=
  Act.go (Act.when (p < s.x ∧ f < 64 ∧ s.prismUp = true) (if recv then creditReceive p f else creditSend p f)) s

/-- REQUEST (R705): A REQUEST message carries a remote command to its target, which executes it. -/
def execRequest (past : Bool) (s : State) : Host.Outcome State Fault Refusal :=
  Act.go (Act.when (s.prismUp = true) (requestReceived past)) s

/-- REPLY (R705): A REPLY returns a remote command's code and data to the requester. -/
def execReply (past : Bool) (s : State) : Host.Outcome State Fault Refusal :=
  Act.go (Act.when (s.prismUp = true) (replyReceived past)) s

/-- BOOT_REQ (R706): A BOOT_REQ is answered with a BOOT_OFFER when the server can serve it. -/
def execBootReq (past : Bool) (s : State) : Host.Outcome State Fault Refusal :=
  Act.go (Act.when (s.prismUp = true) (bootReq past)) s

/-- BOOT_OFFER (R706): The requester follows the first offer and starts pulling chunks. -/
def execBootOffer (s : State) : Host.Outcome State Fault Refusal :=
  Act.go (Act.when (s.prismUp = true) bootOffer) s

/-- CHUNK_REQ (R706): A serving device answers a CHUNK_REQ with a CHUNK. -/
def execChunkReq (past : Bool) (s : State) : Host.Outcome State Fault Refusal :=
  Act.go (Act.when (s.prismUp = true) (chunkReq past)) s

/-- CHUNK (R706): A CHUNK delivers image words to the requester. -/
def execChunk (s : State) : Host.Outcome State Fault Refusal :=
  Act.go (Act.when (s.prismUp = true) chunkReceived) s

/-- CHUNK_TIMEOUT (R706): A chunk request unanswered for 20 ms is repeated, and after 10 repeats the image is abandoned. -/
def execChunkTimeout (i : Nat) (s : State) : Host.Outcome State Fault Refusal :=
  Act.go (Act.when (s.prismUp = true) (chunkTimeout i)) s

/-- DT_CMD_READ (R713): PLX.DT_CMD OP 1 reads a domain-table entry. -/
def execDtCmdRead (w : Sender) (v : Nat) (s : State) : Host.Outcome State Fault Refusal :=
  Act.go (Act.order w (PLX.DT_CMD 0) v PLX.DT_CMD.OP 1) s

/-- DT_CMD_REMOVE (R713): PLX.DT_CMD OP 2 removes a domain-table entry. -/
def execDtCmdRemove (w : Sender) (v : Nat) (s : State) : Host.Outcome State Fault Refusal :=
  Act.go (Act.order w (PLX.DT_CMD 0) v PLX.DT_CMD.OP 2) s
end Sys2Proof.Machine
end

