-- ==== Sys2Proof/Machine/ExecGateway.lean ====
section
/-! DEFINITION. The meanings of the commands of the signal gateway: each is one operation, made where the part it names is there. -/

namespace Sys2Proof.Machine

/-- SGW_FRAME (R441): The signal engine takes a frame, looks it up in Beam, verifies seals, extracts signals and composes routed copies. -/
def execSgwFrame (p : Nat) (fault : Bool) (s : State) : Host.Outcome State Fault Refusal :=
  Act.go (Act.when (p < s.x ∧ s.prismUp = true) (sgwFrame p fault)) s

/-- TP_TIMER_EXPIRE (R470): A transport session timer expires: the session closes and an abort is sent. -/
def execTpTimerExpire (p c sa da proto : Nat) (s : State) : Host.Outcome State Fault Refusal :=
  Act.go (Act.when (p < s.x ∧ c < 16 ∧ sa < 256 ∧ da < 256 ∧ s.prismUp = true) (tpTimerExpire p c sa da proto)) s

/-- PDU_CADENCE (R459): At a cadence instant a PDU is composed from stored signals. -/
def execPduCadence (p i : Nat) (fault : Bool) (s : State) : Host.Outcome State Fault Refusal :=
  Act.go (Act.when (p < s.x ∧ i < 4096 ∧ s.prismUp = true) (pduCadence p i fault)) s

/-- PDU_CHANGE_COMPOSE (R459): After MIN_GAP a change-triggered composition runs. -/
def execPduChangeCompose (p i : Nat) (fault : Bool) (s : State) : Host.Outcome State Fault Refusal :=
  Act.go (Act.when (p < s.x ∧ i < 4096 ∧ s.prismUp = true) (pduChangeCompose p i fault)) s

/-- TUNNEL_SEND (R465): A tunnel sends its AVTPDU when full or after MAX_WAIT. -/
def execTunnelSend (p t : Nat) (s : State) : Host.Outcome State Fault Refusal :=
  Act.go (Act.when (p < s.x ∧ t < 256 ∧ s.prismUp = true) (tunnelSend p t)) s

/-- MEASUREMENT_WRITE (R639): A drive die writes a measurement into the signal store. -/
def execMeasurementWrite (d item : Nat) (v : Int) (s : State) : Host.Outcome State Fault Refusal :=
  Act.go (Act.when (d < s.y) (measurementWrite d item v)) s

/-- SIGNAL_SWEEP (R456): The sweep sets TS to 0 for signals unwritten for 2^46 ns. -/
def execSignalSweep (p : Nat) (s : State) : Host.Outcome State Fault Refusal :=
  Act.go (Act.when (p < s.x ∧ s.prismUp = true) (signalSweep p)) s

/-- BEAM_CMD_READ (R475): SGW.BEAM_CMD OP 1 reads a Beam entry. -/
def execBeamCmdRead (w : Sender) (p v : Nat) (s : State) : Host.Outcome State Fault Refusal :=
  Act.go (Act.when (p < 4) (Act.order w (SGW.BEAM_CMD p) v SGW.BEAM_CMD.OP 1)) s

/-- BEAM_CMD_FIND (R475): SGW.BEAM_CMD OP 2 finds a Beam key. -/
def execBeamCmdFind (w : Sender) (p v : Nat) (s : State) : Host.Outcome State Fault Refusal :=
  Act.go (Act.when (p < 4) (Act.order w (SGW.BEAM_CMD p) v SGW.BEAM_CMD.OP 2)) s

/-- BEAM_CMD_INSERT (R447): SGW.BEAM_CMD OP 3 inserts or replaces a Beam entry. -/
def execBeamCmdInsert (w : Sender) (p v : Nat) (s : State) : Host.Outcome State Fault Refusal :=
  Act.go (Act.when (p < 4) (Act.order w (SGW.BEAM_CMD p) v SGW.BEAM_CMD.OP 3)) s

/-- BEAM_CMD_DELETE (R475): SGW.BEAM_CMD OP 4 deletes a Beam key. -/
def execBeamCmdDelete (w : Sender) (p v : Nat) (s : State) : Host.Outcome State Fault Refusal :=
  Act.go (Act.when (p < 4) (Act.order w (SGW.BEAM_CMD p) v SGW.BEAM_CMD.OP 4)) s

/-- TBL_CMD_READ (R476): SGW.TBL_CMD OP 1 reads an entry of tables 0x4D–0x51. -/
def execTblCmdRead (w : Sender) (p v : Nat) (s : State) : Host.Outcome State Fault Refusal :=
  Act.go (Act.when (p < 4) (Act.order w (SGW.TBL_CMD p) v SGW.TBL_CMD.OP 1)) s

/-- TBL_CMD_WRITE (R476): SGW.TBL_CMD OP 2 writes an entry of tables 0x4D–0x51. -/
def execTblCmdWrite (w : Sender) (p v : Nat) (s : State) : Host.Outcome State Fault Refusal :=
  Act.go (Act.when (p < 4) (Act.order w (SGW.TBL_CMD p) v SGW.TBL_CMD.OP 2)) s

/-- SIG_CMD_READ (R477): SGW.SIG_CMD OP 1 reads a signal's VALUE and TS together. -/
def execSigCmdRead (w : Sender) (p v : Nat) (s : State) : Host.Outcome State Fault Refusal :=
  Act.go (Act.when (p < 4) (Act.order w (SGW.SIG_CMD p) v SGW.SIG_CMD.OP 1)) s

/-- SIG_CMD_WRITE (R477): SGW.SIG_CMD OP 2 writes a signal value with TS the die time. -/
def execSigCmdWrite (w : Sender) (p v : Nat) (s : State) : Host.Outcome State Fault Refusal :=
  Act.go (Act.when (p < 4) (Act.order w (SGW.SIG_CMD p) v SGW.SIG_CMD.OP 2)) s
end Sys2Proof.Machine
end

