-- ==== Sys2Proof/Machine/ExecKeys.lean ====
section
/-! DEFINITION. The meanings of the commands of keys, randomness, tamper and provisioning: each is one operation, made where the part it names is there. -/

namespace Sys2Proof.Machine

/-- KEY_DEMAND (R503): A use of an EMPTY image-blob slot fails NOT_READY and starts loading the slot. -/
def execKeyDemand (p n : Nat) (s : State) : Host.Outcome State Fault Refusal :=
  Act.go (Act.when (p < s.x ∧ n < 1024 ∧ s.prismUp = true) (keyDemand p n)) s

/-- KEY_LOAD_DONE (R503): A blob unwraps into its slot, which becomes LOADED or BAD. -/
def execKeyLoadDone (p n : Nat) (s : State) : Host.Outcome State Fault Refusal :=
  Act.go (Act.when (p < s.x ∧ n < 1024 ∧ s.prismUp = true) (keyLoadDone p n)) s

/-- KEY_PRELOAD (R503): From step 11 PRELOAD slots are loaded in the background. -/
def execKeyPreload (p : Nat) (s : State) : Host.Outcome State Fault Refusal :=
  Act.go (Act.when (p < s.x ∧ s.prismUp = true) (keyPreload p)) s

/-- LOAD (R505): KEYS.OP_CMD OP 1 loads a slot from its KEYBLOB entry. -/
def execLoad (w : Sender) (p v : Nat) (s : State) : Host.Outcome State Fault Refusal :=
  Act.go (Act.when (p < 4) (Act.order w (KEYS.OP_CMD p) v KEYS.OP_CMD.OP 1)) s

/-- DERIVE (R507): KEYS.OP_CMD OP 2 derives a key under SOURCE. -/
def execDerive (w : Sender) (p v : Nat) (s : State) : Host.Outcome State Fault Refusal :=
  Act.go (Act.when (p < 4) (Act.order w (KEYS.OP_CMD p) v KEYS.OP_CMD.OP 2)) s

/-- UNWRAP (R505): KEYS.OP_CMD OP 3 unwraps a blob into TARGET. -/
def execUnwrap (w : Sender) (p v : Nat) (s : State) : Host.Outcome State Fault Refusal :=
  Act.go (Act.when (p < 4) (Act.order w (KEYS.OP_CMD p) v KEYS.OP_CMD.OP 3)) s

/-- WRAP (R505): KEYS.OP_CMD OP 4 wraps TARGET under SOURCE into OP_BUF. -/
def execWrap (w : Sender) (p v : Nat) (s : State) : Host.Outcome State Fault Refusal :=
  Act.go (Act.when (p < 4) (Act.order w (KEYS.OP_CMD p) v KEYS.OP_CMD.OP 4)) s

/-- GENERATE (R505): KEYS.OP_CMD OP 5 fills TARGET from the DRBG. -/
def execGenerate (w : Sender) (p v : Nat) (s : State) : Host.Outcome State Fault Refusal :=
  Act.go (Act.when (p < 4) (Act.order w (KEYS.OP_CMD p) v KEYS.OP_CMD.OP 5)) s

/-- CLEAR (R505): KEYS.OP_CMD OP 6 zeroises TARGET. -/
def execClear (w : Sender) (p v : Nat) (s : State) : Host.Outcome State Fault Refusal :=
  Act.go (Act.when (p < 4) (Act.order w (KEYS.OP_CMD p) v KEYS.OP_CMD.OP 6)) s

/-- WRAP_ROOT (R505): KEYS.OP_CMD OP 7 wraps TARGET under the root key. -/
def execWrapRoot (w : Sender) (p v : Nat) (s : State) : Host.Outcome State Fault Refusal :=
  Act.go (Act.when (p < 4) (Act.order w (KEYS.OP_CMD p) v KEYS.OP_CMD.OP 7)) s

/-- KEY_OP_DONE (R506): A key operation ends and sets OP_DONE. -/
def execKeyOpDone (p : Nat) (s : State) : Host.Outcome State Fault Refusal :=
  Act.go (Act.when (p < s.x ∧ s.prismUp = true) (keyOpDone p)) s

/-- RESILVER_PASS (R508): Every RESILVER_MS the key store re-randomises every loaded slot's shares. -/
def execResilverPass (p : Nat) (s : State) : Host.Outcome State Fault Refusal :=
  Act.go (Act.when (p < s.x ∧ s.prismUp = true) (resilverPass p)) s

/-- RESILVER_SLOT_USES (R508): After 2^20 uses a slot's shares are re-randomised before its next use. -/
def execResilverSlotUses (p n : Nat) (s : State) : Host.Outcome State Fault Refusal :=
  Act.go (Act.when (p < s.x ∧ n < 1024 ∧ s.prismUp = true) (resilverSlotUses p n)) s

/-- RNG_HEALTH_FAIL (R510): An entropy health test fails: the source stops and RNG_FAIL is set. -/
def execRngHealthFail (p : Nat) (s : State) : Host.Outcome State Fault Refusal :=
  Act.go (Act.when (p < s.x ∧ s.prismUp = true) (rngHealthFail p)) s

/-- RNG_STOP (R510): The DRBG's reseed falls due without a working source: the DRBG stops. -/
def execRngStop (p : Nat) (s : State) : Host.Outcome State Fault Refusal :=
  Act.go (Act.when (p < s.x ∧ s.prismUp = true) (rngStop p)) s

/-- RNG_RESTART (R510): Every 100 ms the source restarts and, when its start-up tests pass, the DRBG reseeds. -/
def execRngRestart (p : Nat) (pass : Bool) (s : State) : Host.Outcome State Fault Refusal :=
  Act.go (Act.when (p < s.x ∧ s.prismUp = true) (rngRestart p pass)) s

/-- DRBG_RESEED (R509): The DRBG reseeds at least once a second. -/
def execDrbgReseed (p : Nat) (s : State) : Host.Outcome State Fault Refusal :=
  Act.go (Act.when (p < s.x ∧ s.prismUp = true) (drbgReseed p)) s

/-- TAMPER_ASSERT (R513): An armed tamper input asserts: keys are zeroised, root shares destroyed and the package reset. -/
def execTamperAssert (m : Nat) (s : State) : Host.Outcome State Fault Refusal :=
  Act.go (Act.when (m < 8 ∧ s.prismUp = true) (tamperAssert m)) s

/-- TAMPER_SEEN (R512): An unarmed tamper input asserts: TAMPER_SEEN is set. -/
def execTamperSeen (m : Nat) (s : State) : Host.Outcome State Fault Refusal :=
  Act.go (Act.when (m < 8 ∧ s.prismUp = true) (tamperSeen m)) s

/-- PROVISION (R515): KEYS.PROV_CMD OP 1 wraps and writes the image key and blows PROV_DONE. -/
def execProvision (w : Sender) (p v : Nat) (s : State) : Host.Outcome State Fault Refusal :=
  Act.go (Act.when (p < 4) (Act.order w (KEYS.PROV_CMD p) v KEYS.PROV_CMD.OP 1)) s

/-- RESTORE (R515): KEYS.PROV_CMD OP 2 writes a verified root-wrapped blob back to the key area. -/
def execRestore (w : Sender) (p v : Nat) (s : State) : Host.Outcome State Fault Refusal :=
  Act.go (Act.when (p < 4) (Act.order w (KEYS.PROV_CMD p) v KEYS.PROV_CMD.OP 2)) s

/-- REKEY (R515): KEYS.PROV_CMD OP 3 replaces the image key for the next start. -/
def execRekey (w : Sender) (p v : Nat) (s : State) : Host.Outcome State Fault Refusal :=
  Act.go (Act.when (p < 4) (Act.order w (KEYS.PROV_CMD p) v KEYS.PROV_CMD.OP 3)) s

/-- RENEW (R515): KEYS.PROV_CMD OP 4 writes an epoch record with a greater RENEWAL and EPOCH 0. -/
def execRenew (w : Sender) (p v : Nat) (s : State) : Host.Outcome State Fault Refusal :=
  Act.go (Act.when (p < 4) (Act.order w (KEYS.PROV_CMD p) v KEYS.PROV_CMD.OP 4)) s

/-- PROV_CMD_DONE (R515): A provisioning command completes with its RESULT. -/
def execProvCmdDone (p : Nat) (answers erase first second : Bool) (s : State) : Host.Outcome State Fault Refusal :=
  Act.go (Act.when (p < s.x ∧ s.prismUp = true) (provCmdDone p ⟨answers, erase, first, second⟩)) s
end Sys2Proof.Machine
end

