-- ==== Sys2Proof/Machine/ExecLin.lean ====
section
/-! DEFINITION. The meanings of the commands of the LIN controllers: each is one operation, made where the part it names is there. -/

namespace Sys2Proof.Machine

/-- LIN_SLOT (R422): A LIN schedule slot begins and the commander sends its header and response as the entry type says. -/
def execLinSlot (p c rb late : Nat) (overrun : Bool) (s : State) : Host.Outcome State Fault Refusal :=
  Act.go (Act.when (p < s.x ∧ c < 8 ∧ s.prismUp = true) (linSlot p c rb late overrun)) s

/-- LIN_RESPONSE (R422): A response completes or times out and is delivered or counted as an error. -/
def execLinResponse (p c fault : Nat) (data : List Byte) (ago : Nat) (s : State) : Host.Outcome State Fault Refusal :=
  Act.go (Act.when (p < s.x ∧ c < 8 ∧ s.prismUp = true) (linResponse p c fault data ago)) s

/-- LIN_BUS_FAULT (R423): Read-back fails in 4 headers or the bus is stuck dominant: BUS_FAULT. -/
def execLinBusFault (p c : Nat) (stuck : Bool) (s : State) : Host.Outcome State Fault Refusal :=
  Act.go (Act.when (p < s.x ∧ c < 8 ∧ s.prismUp = true) (linBusFault p c stuck)) s

/-- LIN_PUBLISH (R421): A LIN bus frame in the egress queue is copied into its publish buffer. -/
def execLinPublish (p c : Nat) (s : State) : Host.Outcome State Fault Refusal :=
  Act.go (Act.when (p < s.x ∧ c < 8 ∧ s.prismUp = true) (linPublish p c)) s

/-- LIN_SWITCH (R420): LIN.CMD.SWITCH starts a table at the next slot boundary. -/
def execLinSwitch (w : Sender) (p c v : Nat) (s : State) : Host.Outcome State Fault Refusal :=
  Act.go (Act.when (p < 4 ∧ c < 8) (Act.order w (LIN.CMD p c) v LIN.CMD.SWITCH 1)) s

/-- LIN_STOP (R420): LIN.CMD.STOP ends the schedule at the next slot boundary. -/
def execLinStop (w : Sender) (p c v : Nat) (s : State) : Host.Outcome State Fault Refusal :=
  Act.go (Act.when (p < 4 ∧ c < 8) (Act.order w (LIN.CMD p c) v LIN.CMD.STOP 1)) s

/-- LIN_GOTOSLEEP (R420): LIN.CMD.GOTOSLEEP sends the go-to-sleep command and enters SLEEP. -/
def execLinGotosleep (w : Sender) (p c v : Nat) (s : State) : Host.Outcome State Fault Refusal :=
  Act.go (Act.when (p < 4 ∧ c < 8) (Act.order w (LIN.CMD p c) v LIN.CMD.GOTOSLEEP 1)) s

/-- SCHED_CMD_READ (R436): LIN.SCHED_CMD OP 1 reads a schedule entry. -/
def execSchedCmdRead (w : Sender) (p c v : Nat) (s : State) : Host.Outcome State Fault Refusal :=
  Act.go (Act.when (p < 4 ∧ c < 8) (Act.order w (LIN.SCHED_CMD p c) v LIN.SCHED_CMD.OP 1)) s

/-- SCHED_CMD_WRITE (R436): LIN.SCHED_CMD OP 2 writes a schedule entry. -/
def execSchedCmdWrite (w : Sender) (p c v : Nat) (s : State) : Host.Outcome State Fault Refusal :=
  Act.go (Act.when (p < 4 ∧ c < 8) (Act.order w (LIN.SCHED_CMD p c) v LIN.SCHED_CMD.OP 2)) s

/-- PUB_CMD_READ (R436): LIN.PUB_CMD OP 1 reads a publish buffer. -/
def execPubCmdRead (w : Sender) (p c v : Nat) (s : State) : Host.Outcome State Fault Refusal :=
  Act.go (Act.when (p < 4 ∧ c < 8) (Act.order w (LIN.PUB_CMD p c) v LIN.PUB_CMD.OP 1)) s

/-- PUB_CMD_WRITE (R436): LIN.PUB_CMD OP 2 writes a publish buffer as a frame. -/
def execPubCmdWrite (w : Sender) (p c v : Nat) (s : State) : Host.Outcome State Fault Refusal :=
  Act.go (Act.when (p < 4 ∧ c < 8) (Act.order w (LIN.PUB_CMD p c) v LIN.PUB_CMD.OP 2)) s
end Sys2Proof.Machine
end

