-- ==== Sys2Proof/Machine/ExecLookup.lean ====
section
/-! DEFINITION. The meanings of the commands of lookup, tables and time-aware gates: each is one operation, made where the part it names is there. -/

namespace Sys2Proof.Machine

/-- FRAME_LOOKUP (R295): The ingress die decides a frame's egress queue or replication index, with VLAN, filters, meters, learning and
routing. -/
def execFrameLookup (p f : Nat) (busy : Bool) (s : State) : Host.Outcome State Fault Refusal :=
  Act.go (Act.when (p < s.x ∧ f < 64 ∧ s.prismUp = true) (lookedUp p f busy)) s

/-- LEARN_NOTICE_RECEIVE (R309): A learn or delete notice from another Prism die is applied to the table. -/
def execLearnNoticeReceive (p j : Nat) (busy : Bool) (s : State) : Host.Outcome State Fault Refusal :=
  Act.go (Act.when (p < s.x ∧ j < 3 ∧ s.prismUp = true) (learnNoticeReceive p j busy)) s

/-- AGEING_SWEEP (R307): Every AGE_S/2 s the sweep raises AGE of learned entries and removes those that reach 3. -/
def execAgeingSweep (p : Nat) (s : State) : Host.Outcome State Fault Refusal :=
  Act.go (Act.when (p < s.x ∧ s.prismUp = true) (ageingSweep p)) s

/-- LPM_INSERT (R316): LPM.CMD OP 1 inserts a route, evicting where needed. -/
def execLpmInsert (w : Sender) (p v : Nat) (s : State) : Host.Outcome State Fault Refusal :=
  Act.go (Act.when (p < 4) (Act.order w (LPM.CMD p) v LPM.CMD.OP 1)) s

/-- LPM_DELETE (R316): LPM.CMD OP 2 deletes a route. -/
def execLpmDelete (w : Sender) (p v : Nat) (s : State) : Host.Outcome State Fault Refusal :=
  Act.go (Act.when (p < 4) (Act.order w (LPM.CMD p) v LPM.CMD.OP 2)) s

/-- LPM_FIND (R316): LPM.CMD OP 3 finds the entry a lookup would choose. -/
def execLpmFind (w : Sender) (p v : Nat) (s : State) : Host.Outcome State Fault Refusal :=
  Act.go (Act.when (p < 4) (Act.order w (LPM.CMD p) v LPM.CMD.OP 3)) s

/-- TDMA_READ (R328): A TDMA job with OP 1 reads table entries into the buffer or memory. -/
def execTdmaRead (w : Sender) (mem : List (Nat × Nat)) (p k v : Nat) (s : State) : Host.Outcome State Fault Refusal :=
  Act.go (Act.when (p < 4 ∧ k < 4) (Act.seq (Act.hartMem w mem) (Act.order w (TDMA.JOB p k) v TDMA.JOB.OP 1))) s

/-- TDMA_WRITE (R328): A TDMA job with OP 2 writes table entries. -/
def execTdmaWrite (w : Sender) (mem : List (Nat × Nat)) (p k v : Nat) (s : State) : Host.Outcome State Fault Refusal :=
  Act.go (Act.when (p < 4 ∧ k < 4) (Act.seq (Act.hartMem w mem) (Act.order w (TDMA.JOB p k) v TDMA.JOB.OP 2))) s

/-- TDMA_FIND (R328): A TDMA job with OP 3 finds a MAC entry by key. -/
def execTdmaFind (w : Sender) (mem : List (Nat × Nat)) (p k v : Nat) (s : State) : Host.Outcome State Fault Refusal :=
  Act.go (Act.when (p < 4 ∧ k < 4) (Act.seq (Act.hartMem w mem) (Act.order w (TDMA.JOB p k) v TDMA.JOB.OP 3))) s

/-- TDMA_INSERT (R328): A TDMA job with OP 4 inserts a MAC entry by key. -/
def execTdmaInsert (w : Sender) (mem : List (Nat × Nat)) (p k v : Nat) (s : State) : Host.Outcome State Fault Refusal :=
  Act.go (Act.when (p < 4 ∧ k < 4) (Act.seq (Act.hartMem w mem) (Act.order w (TDMA.JOB p k) v TDMA.JOB.OP 4))) s

/-- TDMA_DELETE (R328): A TDMA job with OP 5 deletes a MAC entry by key. -/
def execTdmaDelete (w : Sender) (mem : List (Nat × Nat)) (p k v : Nat) (s : State) : Host.Outcome State Fault Refusal :=
  Act.go (Act.when (p < 4 ∧ k < 4) (Act.seq (Act.hartMem w mem) (Act.order w (TDMA.JOB p k) v TDMA.JOB.OP 5))) s

/-- TDMA_JOB_DONE (R328): A TDMA job ends and reports its result. -/
def execTdmaJobDone (p j : Nat) (s : State) : Host.Outcome State Fault Refusal :=
  Act.go (Act.when (p < s.x ∧ j < 4 ∧ s.prismUp = true) (tdmaJobDone p j)) s

/-- TDMA_LOCK_EXPIRE (R330): A region lock held for LOCK_MAX_MS is cleared and LOCK_EXPIRED is set. -/
def execTdmaLockExpire (p t r : Nat) (s : State) : Host.Outcome State Fault Refusal :=
  Act.go (Act.when (p < s.x ∧ t < 8 ∧ r < 32 ∧ s.prismUp = true) (tdmaLockExpire p t r)) s

/-- GCL_CONFIG_CHANGE (R325): GCL_CTRL.CONFIG_CHANGE schedules the admin gate list for its change time. -/
def execGclConfigChange (w : Sender) (p f v : Nat) (s : State) : Host.Outcome State Fault Refusal :=
  Act.go (Act.when (p < 4 ∧ f < 32) (Act.order w (PSFP.GCL_CTRL p f) v PSFP.GCL_CTRL.CONFIG_CHANGE 1)) s

/-- GCL_SWITCH (R325): At the change time the admin bank becomes the operating bank. -/
def execGclSwitch (p f : Nat) (s : State) : Host.Outcome State Fault Refusal :=
  Act.go (Act.when (p < s.x ∧ f < 32 ∧ s.prismUp = true) (gclSwitch p f)) s

/-- GATE_ENTRY_BEGIN (R323): A gate-list entry begins and opens its classes. -/
def execGateEntryBegin (p f : Nat) (s : State) : Host.Outcome State Fault Refusal :=
  Act.go (Act.when (p < s.x ∧ f < 32 ∧ s.prismUp = true) (gateEntryBegin p f)) s
end Sys2Proof.Machine
end

