-- ==== Sys2Proof/Machine/ExecPair.lean ====
section
/-! DEFINITION. The meanings of the commands of paired operation: each is one operation, made where the part it names is there. -/

namespace Sys2Proof.Machine

/-- PAIR_HEARTBEAT_SEND (R552): Every 1 ms the lead die sends a pair heartbeat on each pair-link facet. -/
def execPairHeartbeatSend (s : State) : Host.Outcome State Fault Refusal :=
  Act.go (Act.when (s.prismUp = true) pairHeartbeatSend) s

/-- PAIR_HEARTBEAT_RECEIVE (R552): A pair heartbeat arrives and updates link state and offset. -/
def execPairHeartbeatReceive (past : Bool) (s : State) : Host.Outcome State Fault Refusal :=
  Act.go (Act.when (s.prismUp = true) (pairHeartbeatReceive past)) s

/-- PAIR_LINK_LOSS (R555): No valid heartbeat for LINK_LOSS_MS while JOINED: the decision table is applied. -/
def execPairLinkLoss (line : Bool) (s : State) : Host.Outcome State Fault Refusal :=
  Act.go (Act.when (s.prismUp = true) (pairLinkLoss line)) s

/-- PAIR_JOIN (R555): The pair link has been up for 100 ms: JOINED and ownership reconciled. -/
def execPairJoin (line : Bool) (s : State) : Host.Outcome State Fault Refusal :=
  Act.go (Act.when (s.prismUp = true) (pairJoin line)) s

/-- WITNESS_SEND (R571): Every WIT_MS the lead die sends a witness CAN frame. -/
def execWitnessSend (s : State) : Host.Outcome State Fault Refusal :=
  Act.go (Act.when (s.prismUp = true) witnessSend) s

/-- WITNESS_RECEIVE (R571): A partner witness frame is passed to the PAIR block. -/
def execWitnessReceive (p c : Nat) (bytes : List Byte) (s : State) : Host.Outcome State Fault Refusal :=
  Act.go (Act.when (p < s.x ∧ c < 16 ∧ s.prismUp = true) (witnessReceive p c bytes)) s

/-- PAIR_DECIDE (R570): Every WIT_MS with the pair link down, the decision table sets state and claims. -/
def execPairDecide (line : Bool) (s : State) : Host.Outcome State Fault Refusal :=
  Act.go (Act.when (s.prismUp = true) (pairDecide line)) s

/-- CLAIM_WAIT_END (R566): The claim wait ends with the line released: the unit pulls PAIR_OWN and starts probes. -/
def execClaimWaitEnd (line : Bool) (s : State) : Host.Outcome State Fault Refusal :=
  Act.go (Act.when (s.prismUp = true) (claimWaitEnd line)) s

/-- CLAIM_PROBE (R566): A claim probe releases PAIR_OWN for 2 µs and samples it. -/
def execClaimProbe (line : Bool) (s : State) : Host.Outcome State Fault Refusal :=
  Act.go (Act.when (s.prismUp = true) (claimProbe line)) s

/-- HANDOVER (R567): PAIR.CMD.HANDOVER, or AUTO_HANDOVER, makes the owner send a GRANT. -/
def execHandover (w : Sender) (auto : Bool) (v : Nat) (s : State) : Host.Outcome State Fault Refusal :=
  Act.go (if auto then autoHandover else Act.order w (PAIR.CMD 0) v PAIR.CMD.HANDOVER 1) s

/-- GRANT_RECEIVE (R568): The partner checks a GRANT, requests admission and replies ACCEPT or DECLINE. -/
def execGrantReceive (past : Bool) (s : State) : Host.Outcome State Fault Refusal :=
  Act.go (Act.when (s.prismUp = true) (grantReceive past)) s

/-- HANDOVER_SWITCH (R568): At t_s the new owner pulls PAIR_OWN and applies the paired commands. -/
def execHandoverSwitch (s : State) : Host.Outcome State Fault Refusal :=
  Act.go (Act.when (s.prismUp = true) handoverSwitch) s

/-- HANDOVER_PROBE (R568): At t_s + OVERLAP_US the old owner probes and releases or keeps ownership. -/
def execHandoverProbe (line : Bool) (s : State) : Host.Outcome State Fault Refusal :=
  Act.go (Act.when (s.prismUp = true) (handoverProbe line)) s

/-- PATH_SILENT_SWEEP (R561): Every 10 ms the sweep checks recovery entries for a silent path. -/
def execPathSilentSweep (p : Nat) (s : State) : Host.Outcome State Fault Refusal :=
  Act.go (Act.when (p < s.x ∧ s.prismUp = true) (pathSilentSweep p)) s

/-- PAIR_TBL_READ (R578): PAIR.TBL_CMD OP 1 reads a pairing table entry. -/
def execPairTblRead (w : Sender) (p v : Nat) (s : State) : Host.Outcome State Fault Refusal :=
  Act.go (Act.when (p < 4) (Act.order w (PAIR.TBL_CMD p) v PAIR.TBL_CMD.OP 1)) s

/-- PAIR_TBL_WRITE (R578): PAIR.TBL_CMD OP 2 writes a pairing table entry. -/
def execPairTblWrite (w : Sender) (p v : Nat) (s : State) : Host.Outcome State Fault Refusal :=
  Act.go (Act.when (p < 4) (Act.order w (PAIR.TBL_CMD p) v PAIR.TBL_CMD.OP 2)) s
end Sys2Proof.Machine
end

