-- ==== Sys2Proof/Machine/ExecPartition.lean ====
section
/-! DEFINITION. The meanings of the commands of partitions, watchdogs, management views and interrupts: each is one operation, made where the part it names is there. -/

namespace Sys2Proof.Machine

/-- PARTITION_START (R664): A LOADING partition whose sections passed starts RUNNING. -/
def execPartitionStart (p k : Nat) (s : State) : Host.Outcome State Fault Refusal :=
  Act.go (Act.when (p < s.x ∧ k < 16 ∧ s.prismUp = true) (partitionStart p k)) s

/-- SLOT_SWITCH (R663): At a slot boundary the core switches to the next slot's partition. -/
def execSlotSwitch (p c : Nat) (s : State) : Host.Outcome State Fault Refusal :=
  Act.go (Act.when (p < s.x ∧ c < 7 ∧ s.prismUp = true) (slotSwitch p c)) s

/-- PARTITION_HALT (R665): A halt trigger halts the partition and takes the halt actions. -/
def execPartitionHalt (p k cause : Nat) (s : State) : Host.Outcome State Fault Refusal :=
  Act.go (Act.when (p < s.x ∧ k < 16 ∧ s.prismUp = true) (partitionHalt p k cause)) s

/-- PARTITION_RESTART (R666): A restart streams the partition's sections again and restarts its harts. -/
def execPartitionRestart (p k : Nat) (answers : Bool) (s : State) : Host.Outcome State Fault Refusal :=
  Act.go (Act.when (p < s.x ∧ k < 16 ∧ s.prismUp = true) (partitionRestart p k answers)) s

/-- PCMD_HALT (R667): CPU.PCMD OP 1 halts a partition. -/
def execPcmdHalt (w : Sender) (p v : Nat) (s : State) : Host.Outcome State Fault Refusal :=
  Act.go (Act.when (p < 4) (Act.order w (CPU.PCMD p) v CPU.PCMD.OP 1)) s

/-- PCMD_RESTART (R667): CPU.PCMD OP 2 restarts a partition. -/
def execPcmdRestart (w : Sender) (p v : Nat) (s : State) : Host.Outcome State Fault Refusal :=
  Act.go (Act.when (p < 4) (Act.order w (CPU.PCMD p) v CPU.PCMD.OP 2)) s

/-- WATCHDOG_KICK (R668): A write of NEXT into KICK_p.KEY restarts the partition watchdog. -/
def execWatchdogKick (w : Sender) (p k v : Nat) (s : State) : Host.Outcome State Fault Refusal :=
  Act.go (Act.when (p < 4 ∧ k < 16) (Act.send w (CPU.KICK p k) (BitVec.ofNat 48 v))) s

/-- WATCHDOG_EXPIRY (R668): A partition watchdog expires: restart or halt. -/
def execWatchdogExpiry (p k : Nat) (s : State) : Host.Outcome State Fault Refusal :=
  Act.go (Act.when (p < s.x ∧ k < 16 ∧ s.prismUp = true) (watchdogExpiry p k)) s

/-- SKICK (R669): A write to CPU.SKICK from core 0 kicks the safety-pair watchdog. -/
def execSkick (w : Sender) (p v : Nat) (s : State) : Host.Outcome State Fault Refusal :=
  Act.go (Act.when (p < 4) (Act.send w (CPU.SKICK p) (BitVec.ofNat 48 v))) s

/-- SAFETY_WDT_EXPIRY (R669): The safety-pair watchdog expires: package reset. -/
def execSafetyWdtExpiry (p : Nat) (s : State) : Host.Outcome State Fault Refusal :=
  Act.go (Act.when (p < s.x ∧ s.prismUp = true) (safetyWdtExpiry p)) s

/-- LOCKSTEP_MISMATCH (R656): The safety pair's comparator mismatches: the pair halts and SAFE partitions halt. -/
def execLockstepMismatch (p : Nat) (s : State) : Host.Outcome State Fault Refusal :=
  Act.go (Act.when (p < s.x ∧ s.prismUp = true) (lockstepMismatch p)) s

/-- MGMT_LOAD (R658): A hart load from the management view reads a register. -/
def execMgmtLoad (p c hart loc width : Nat) (s : State) : Host.Outcome State Fault Refusal :=
  Act.go (Act.when (p < s.x ∧ c < 7 ∧ s.prismUp = true) (mgmtLoad p c hart loc width)) s

/-- MGMT_STORE (R659): A hart store to the management view passes its aperture and is posted. -/
def execMgmtStore (p c hart loc width v : Nat) (s : State) : Host.Outcome State Fault Refusal :=
  Act.go (Act.when (p < s.x ∧ c < 7 ∧ s.prismUp = true) (mgmtStore p c hart loc width v)) s

/-- SIGNAL_VIEW_LOAD (R657): A hart load from the signal view returns a signal's VALUE or TS. -/
def execSignalViewLoad (p c hart loc width : Nat) (s : State) : Host.Outcome State Fault Refusal :=
  Act.go (Act.when (p < s.x ∧ c < 7 ∧ s.prismUp = true) (signalViewLoad p c hart loc width)) s

/-- TX_RING_PROD (R670): A write of TXR_B.PROD gives descriptors to the transmit path. -/
def execTxRingProd (w : Sender) (mem : List (Nat × Nat)) (p k v : Nat) (s : State) : Host.Outcome State Fault Refusal :=
  Act.go (Act.when (p < 4 ∧ k < 16) (Act.seq (Act.hartMem w mem) (Act.send w (CPU.TXR_B p k) (BitVec.ofNat 48 v)))) s

/-- TX_DESCRIPTOR (R671): The transmit path serves one descriptor, checks its aperture and offers the frame. -/
def execTxDescriptor (p : Nat) (s : State) : Host.Outcome State Fault Refusal :=
  Act.go (Act.when (p < s.x ∧ s.prismUp = true) (txDescriptor p)) s

/-- MAX_ON_EXPIRE (R678): A channel ON for MAX_ON_MS is forced open by the aperture. -/
def execMaxOnExpire (p n : Nat) (s : State) : Host.Outcome State Fault Refusal :=
  Act.go (Act.when (p < s.x ∧ n < 128 ∧ s.prismUp = true) (maxOnExpire p n)) s

/-- INTERRUPT_DELIVERY (R684): A routed or directed interrupt record enters a partition's FIFO. -/
def execInterruptDelivery (p : Nat) (s : State) : Host.Outcome State Fault Refusal :=
  Act.go (Act.when (p < s.x ∧ s.prismUp = true) (interruptDelivery p)) s

/-- IRQ_POP (R684): A load of CPU.IRQ_POP_p removes the oldest interrupt record. -/
def execIrqPop (w : Sender) (p k : Nat) (s : State) : Host.Outcome State Fault Refusal :=
  Act.go (Act.when (p < 4 ∧ k < 16) (Act.fetch w (CPU.IRQ_POP p k))) s

/-- APR_RD (R686): A write of APR_RD.INDEX copies an aperture entry into APR_W. -/
def execAprRd (w : Sender) (p v : Nat) (s : State) : Host.Outcome State Fault Refusal :=
  Act.go (Act.when (p < 4) (Act.send w (CPU.APR_RD p) (BitVec.ofNat 48 v))) s
end Sys2Proof.Machine
end

