-- ==== Sys2Proof/Machine/Sources.lean ====
section
/-! DEFINITION. The sources that a Loupe monitor samples, and the samples it takes (R250, R292, R387, R439, R480, R550, R653, R715, R718,
R721). A source sampled at each slow-clock edge is read from the state; a source sampled at an event has offered its value
(Sample.lean); a time that only the hardware's own pipeline or bus shows comes with the command (log entry 136). -/

namespace Sys2Proof.Machine

/-- A number of bytes that passed in one slow-clock period, in 0.01 Gbit/s (R387). -/
def rateUnits (n : Nat) : Nat := n * 8 * 32768 / 10000000

/-- The value that a source sampled at each slow-clock edge of die p has now; none for the other sources, and for a clamp level while
the drive link that would carry it is lost (R250, R292, R387, R480, R550, R653, R718, R721). -/
def State.edgeSource (s : State) (p src arg : Nat) : Option Int :=
  let told := Sparse.get (fun _ => 0) s.mon.tallied (sourceKey p src arg)
  let any := Sparse.get (fun _ => 0) s.mon.tallied (sourceKey p src 0)
  if src = 0x019 then some (s.paceNow p)
  else if src = 0x01A then some (s.thruCells p - s.resFree p : Nat)
  else if src = 0x01B then some any
  else if src = 0x021 then some (s.queue (globalQueue p arg)).spilled
  else if src = 0x022 then some (s.sharedFree p)
  else if src = 0x023 then some (spillUnits ((s.rate p).2.2.1 + (s.rate p).2.2.2))
  else if src = 0x031 ∨ src = 0x032 then some (rateUnits told)
  else if src = 0x053 then some (s.sess p).length
  else if src = 0x062 then some (s.loadedSlots p).length
  else if src = 0x073 then
    let d := arg / 32
    if d < s.y ∧ s.attachedTo d = p ∧ arg % 32 < 28 ∧ s.dlinkDown d = false then some (s.chLevel d (arg % 32) / 1000000) else none
  else if src = 0x080 then some (any / 1024 : Nat)
  else none

/-- Is a source sampled at slow-clock edges (R250, R292, R387, R480, R550, R653, R721)? -/
def edgeSampled (src : Nat) : Bool :=
  [0x019, 0x01A, 0x01B, 0x021, 0x022, 0x023, 0x031, 0x032, 0x053, 0x062, 0x073, 0x080].contains src

/-- Does the value of a source come with the command: the transit of a class, the load of a bus, the engine's time for a frame (R250,
R439, R480, log entry 136)? -/
def measuredSource (src : Nat) : Bool := (decide (0x010 ≤ src) && decide (src ≤ 0x017)) || src == 0x040 || src == 0x050

/-- LOUPE_SAMPLE: monitor m of die p takes a sample of its source, or, where taken is false, cannot take it (R715, R718). v is the
value of a source that only the command can bring. -/
def loupeSample (p m : Nat) (v : Word) (taken : Bool) : Act :=
  Act.get fun s =>
    let src := s.mcfg p m LOUPE.MCFG_A.SRC
    if edgeSampled src then
      Act.opt (s.edgeSource p src (s.mcfg p m LOUPE.MCFG_A.ARG)) fun n => Act.sample p m (BitVec.ofInt 48 n) taken
    else if measuredSource src then Act.sample p m v taken
    else
      Act.opt (s.mon.offered.find? fun e => e.1 == monKey p m) fun e =>
        Act.seq (Act.upd fun t => { t with mon := { t.mon with offered := t.mon.offered.erase e } }) (Act.sample p m e.2 taken)

end Sys2Proof.Machine
end

