-- ==== Sys2Proof/Machine/ExecRecord.lean ====
section
/-! DEFINITION. The meanings of the commands of the loupe and the periscope: each is one operation, made where the part it names is there. -/

namespace Sys2Proof.Machine

/-- LOUPE_SAMPLE (R716): A monitor takes a sample into MIN, MAX, COUNT, SUM and its bin. -/
def execLoupeSample (p m v : Nat) (taken : Bool) (s : State) : Host.Outcome State Fault Refusal :=
  Act.go (Act.when (p < s.x ∧ m < 256 ∧ s.prismUp = true) (loupeSample p m (BitVec.ofNat 48 v) taken)) s

/-- SNAP_CMD_SNAPSHOT (R719): LOUPE.SNAP_CMD OP 1 copies a monitor into a snapshot bank. -/
def execSnapCmdSnapshot (w : Sender) (p v : Nat) (s : State) : Host.Outcome State Fault Refusal :=
  Act.go (Act.when (p < 4) (Act.order w (LOUPE.SNAP_CMD p) v LOUPE.SNAP_CMD.OP 1)) s

/-- SNAP_CMD_SNAPSHOT_CLEAR (R719): LOUPE.SNAP_CMD OP 2 copies and clears a monitor. -/
def execSnapCmdSnapshotClear (w : Sender) (p v : Nat) (s : State) : Host.Outcome State Fault Refusal :=
  Act.go (Act.when (p < 4) (Act.order w (LOUPE.SNAP_CMD p) v LOUPE.SNAP_CMD.OP 2)) s

/-- FEED_VAL (R721): A write to LOUPE.FEED_VAL offers a sample to matching monitors. -/
def execFeedVal (w : Sender) (p v : Nat) (s : State) : Host.Outcome State Fault Refusal :=
  Act.go (Act.when (p < 4) (Act.send w (LOUPE.FEED_VAL p) (BitVec.ofNat 48 v))) s

/-- MCFG_WRITE (R741): A write to a monitor's MCFG registers resets it. -/
def execMcfgWrite (w : Sender) (p m j v : Nat) (s : State) : Host.Outcome State Fault Refusal :=
  Act.go (Act.when (p < 4 ∧ m < 256 ∧ j < 4) (Act.send w (ra p 0x80 (0x100 + 4 * m + j)) (BitVec.ofNat 48 v))) s

/-- RECORDER_LINK_UP (R726): The PCIe link comes up and the recorder initialises the controller. -/
def execRecorderLinkUp (p width speed : Nat) (s : State) : Host.Outcome State Fault Refusal :=
  Act.go (Act.when (p < s.x ∧ s.prismUp = true) (recorderLinkUp p width speed)) s

/-- RECORDER_LINK_TIMEOUT (R726): No link within 100 ms sends the recorder to ERROR. -/
def execRecorderLinkTimeout (p : Nat) (s : State) : Host.Outcome State Fault Refusal :=
  Act.go (Act.when (p < s.x ∧ s.prismUp = true) (recorderLinkTimeout p)) s

/-- RECORDER_INIT_DONE (R728): Controller checks pass and the recorder resumes, or fails into ERROR. -/
def execRecorderInitDone (p : Nat) (ready : Bool) (lba blocks : Nat) (s : State) : Host.Outcome State Fault Refusal :=
  Act.go (Act.when (p < s.x ∧ s.prismUp = true) (recorderInitDone p ready lba blocks)) s

/-- RECORDER_RESUME (R736): The recorder restores WPTR and episodes from the superblock and starts RUNNING. -/
def execRecorderResume (p : Nat) (a b : List Byte) (heads : List (List Byte)) (s : State) : Host.Outcome State Fault Refusal :=
  Act.go (Act.when (p < s.x ∧ s.prismUp = true) (recorderResume p a b heads)) s

/-- RECORD_TAKE (R732): The recorder takes a frame from facet 62 and forms its record. -/
def execRecordTake (p : Nat) (s : State) : Host.Outcome State Fault Refusal :=
  Act.go (Act.when (p < s.x ∧ s.prismUp = true) (recordTake p)) s

/-- CHUNK_WRITE (R731): A full chunk is written to the drive. -/
def execChunkWrite (p : Nat) (s : State) : Host.Outcome State Fault Refusal :=
  Act.go (Act.when (p < s.x ∧ s.prismUp = true) (chunkWrite p)) s

/-- RECORDER_FLUSH (R731): After FLUSH_MS a partial chunk is padded, written, flushed and the superblock updated. -/
def execRecorderFlush (p : Nat) (s : State) : Host.Outcome State Fault Refusal :=
  Act.go (Act.when (p < s.x ∧ s.prismUp = true) (recorderFlush p)) s

/-- NVME_COMPLETION (R726): An NVMe command completes, or fails or times out into ERROR. -/
def execNvmeCompletion (p i kind status : Nat) (s : State) : Host.Outcome State Fault Refusal :=
  Act.go (Act.when (p < s.x ∧ s.prismUp = true) (nvmeCompletion p i kind status)) s

/-- TRIGGER_TAKE (R737): At the next slow-clock edge a trigger opens an episode, merges, or is refused. -/
def execTriggerTake (p : Nat) (s : State) : Host.Outcome State Fault Refusal :=
  Act.go (Act.when (p < s.x ∧ s.prismUp = true) (triggerTake p)) s

/-- EPISODE_CLOSE (R738): POST_MS after the trigger, the episode closes and is flushed. -/
def execEpisodeClose (p : Nat) (s : State) : Host.Outcome State Fault Refusal :=
  Act.go (Act.when (p < s.x ∧ s.prismUp = true) (episodeClose p)) s

/-- TRIGGER (R737): PSCP.CMD.TRIGGER requests a recorder trigger. -/
def execTrigger (w : Sender) (p v : Nat) (s : State) : Host.Outcome State Fault Refusal :=
  Act.go (Act.when (p < 4) (Act.order w (PSCP.CMD p) v PSCP.CMD.TRIGGER 1)) s

/-- RESTART (R726): PSCP.CMD.RESTART restarts the recorder from LINK. -/
def execRestart (w : Sender) (p v : Nat) (s : State) : Host.Outcome State Fault Refusal :=
  Act.go (Act.when (p < 4) (Act.order w (PSCP.CMD p) v PSCP.CMD.RESTART 1)) s

/-- RELEASE (R738): PSCP.CMD.RELEASE frees a closed episode. -/
def execRelease (w : Sender) (p v : Nat) (s : State) : Host.Outcome State Fault Refusal :=
  Act.go (Act.when (p < 4) (Act.order w (PSCP.CMD p) v PSCP.CMD.RELEASE 1)) s

/-- RD_CMD (R739): PSCP.RD_CMD START reads bytes from the recorder region. -/
def execRdCmd (w : Sender) (p v : Nat) (s : State) : Host.Outcome State Fault Refusal :=
  Act.go (Act.when (p < 4) (Act.order w (PSCP.RD_CMD p) v PSCP.RD_CMD.START 1)) s

/-- RD_CMD_DONE (R739): A recorder read completes or fails with its RESULT. -/
def execRdCmdDone (p : Nat) (ok : Bool) (data : List Byte) (s : State) : Host.Outcome State Fault Refusal :=
  Act.go (Act.when (p < s.x ∧ s.prismUp = true) (rdCmdDone p ok data)) s

/-- RECORDER_LINK_LOST (R726): The PCIe link to the recorder's NVMe drive drops in RUNNING or POST and the recorder enters ERROR with
LAST_ERR.KIND 7. -/
def execRecorderLinkLost (p : Nat) (s : State) : Host.Outcome State Fault Refusal :=
  Act.go (Act.when (p < s.x ∧ s.prismUp = true) (recorderLinkLost p)) s
end Sys2Proof.Machine
end

