-- ==== Sys2Proof/Machine/Scrub.lean ====
section
/-! DEFINITION. The scrubbers: upsets of registers that carry parity, and errors of the table memories (R150, R151, R682, the faults
of the lookup, gateway and aperture chapters). -/

namespace Sys2Proof.Machine

/-- The counter ECC_FIXED that a table's corrected errors count in (R335, R338, R339, R479). -/
def eccFixed (p t : Nat) : Option Nat :=
  if t = 0x42 ∨ t = 0x43 then some (CLS.CNT p 10)
  else if t = 0x44 ∨ t = 0x45 then some (LPM.CNT p 5)
  else if 0x46 ≤ t ∧ t ≤ 0x49 then some (PSFP.CNT p 2)
  else if 0x4C ≤ t ∧ t ≤ 0x52 then some (SGW.CNT p 20)
  else none

/-- Make entry i of a table invalid: every word zero; a next hop takes the ACTION that no write stores, a signal the TS 0, a route
leaves all its slots (log entry 129). -/
def Act.eccInvalid (p t i : Nat) : Act :=
  Act.get fun s =>
    if t = 0x44 then
      Act.opt ((s.routes p).find? fun r => decide (r.slot ≤ i ∧ i < r.slot + r.slots)) (Act.dropRoute p)
    else if t = 0x45 then Act.setTblWords p t i [0, word [(⟨20, 2⟩, 3)]]
    else if t = 0x52 then Act.modSig (sigKey p i) fun v => (v.1, 0)
    else Act.dropTbls fun k => k / 8 != tblKey p t i 0 / 8

/-- Report an uncorrectable error of entry i of a table: the ECC_ERR event of its block, and the table and index where the block has
fields for them (R334, R338, R339, R474, R682). -/
def Act.eccEvent (p t i : Nat) : Act :=
  if t = 0x42 ∨ t = 0x43 then Act.event (CLS.EVT p) 4
  else if t = 0x44 ∨ t = 0x45 then Act.event (LPM.EVT p) 3
  else if 0x46 ≤ t ∧ t ≤ 0x49 then Act.event (PSFP.EVT p) 5
  else if t = 0x79 then Act.seq (Act.event (CPU.EVT p) 6) (Act.setFld (CPU.ALAST p) CPU.ALAST.ENTRY i)
  else Act.seq (Act.sgwEvent p 5) (Act.setFlds (SGW.LAST p) [(SGW.LAST.TABLE, t), (SGW.LAST.INDEX, i)])

/-- A table that is held with error correction: those of CLS, LPM, PSFP and SGW, the signal store under 0x52, the aperture entries
under the block number 0x79. -/
def eccTable (t : Nat) : Bool := decide ((0x42 ≤ t ∧ t ≤ 0x49) ∨ (0x4C ≤ t ∧ t ≤ 0x52) ∨ t = 0x79)

/-- An error in an entry of a table memory, corrected or not. An error is an entry's die, table and index. -/
def Act.eccError (fixed : Bool) (e : Nat × Nat × Nat) : Act :=
  Act.get fun s =>
    Act.when (e.1 < s.x ∧ eccTable e.2.1 = true ∧ e.2.2 < 2 ^ 20)
      (if fixed then Act.opt (eccFixed e.1 e.2.1) Act.count
       else Act.seq (Act.eccInvalid e.1 e.2.1 e.2.2) (Act.eccEvent e.1 e.2.1 e.2.2))

/-- PARITY_SCRUB: upsets that came about are found by one pass of the scrubbers over every register that carries parity (R150,
R151), and with them the errors of the table memories, corrected and uncorrectable (log entry 129). Each upset is an address, the
data bits and the hidden parity bits it flips. -/
def parityScrub (l fixed lost : List (Nat × Nat × Nat)) : Act :=
  Act.all [
    Act.each l (fun e => Act.upset e.1 (BitVec.ofNat 48 e.2.1) e.2.2),
    Act.get (fun s => Act.each (s.upsets.map (·.1)) Act.check),
    Act.each fixed (Act.eccError true),
    Act.each lost (Act.eccError false)]

end Sys2Proof.Machine
end

