-- ==== Sys2Proof/Machine/ExecStart.lean ====
section
/-! DEFINITION. The meanings of the commands of parity, the start sequence and image loading: each is one operation, made where the part it names is there. -/

namespace Sys2Proof.Machine

/-- PARITY_SCRUB (R151): The scrubber checks each CF register within every 32 slow-clock edges and handles any mismatch. -/
def execParityScrub (l fixed lost : List (Nat × Nat × Nat)) (s : State) : Host.Outcome State Fault Refusal :=
  Act.go (parityScrub l fixed lost) s

/-- IMAGE_KEY_UNWRAP (R107): At the start of step 8 the lead die unwraps the image-key blob into key slot 0. -/
def execImageKeyUnwrap (answers : Bool) (s : State) : Host.Outcome State Fault Refusal :=
  Act.go (imageKeyUnwrap answers) s

/-- EPOCH_AREA_READ (R121): At the start of step 8 the lead die reads the epoch area and chooses the current record. -/
def execEpochAreaRead (answers : Bool) (s : State) : Host.Outcome State Fault Refusal :=
  Act.go (epochAreaRead answers) s

/-- SLOT_EXAMINE (R108): The lead die reads and checks an image slot's header, directory and configuration sections, falling back to the
other slot on failure. -/
def execSlotExamine (answers : Bool) (s : State) : Host.Outcome State Fault Refusal :=
  Act.go (slotExamine answers) s

/-- CONFIG_DISTRIBUTION (R114): Configuration sections are applied at every die, and at the end of step 9 blocks are enabled and locks
applied. -/
def execConfigDistribution (s : State) : Host.Outcome State Fault Refusal :=
  Act.go configDistribution s

/-- EPOCH_WRITE (R123): In step 10 the lead die writes the next epoch record and, on success, allows sealed transmission. -/
def execEpochWrite (answers erase first second : Bool) (s : State) : Host.Outcome State Fault Refusal :=
  Act.go (epochWrite ⟨answers, erase, first, second⟩) s

/-- OTHER_SLOT_CHECK (R112): After step 9 the lead die checks the header, directory and structure of the slot it did not examine. -/
def execOtherSlotCheck (answers : Bool) (s : State) : Host.Outcome State Fault Refusal :=
  Act.go (otherSlotCheck answers) s

/-- CAN_LIN_ENABLE (R114): At step 11 the CAN, LIN, signal engine and Beam enables written by the image take effect. -/
def execCanLinEnable (s : State) : Host.Outcome State Fault Refusal :=
  Act.go canLinEnable s

/-- ETHERNET_ENABLE (R114): At step 12 the Ethernet facets and forwarding enables take effect. -/
def execEthernetEnable (s : State) : Host.Outcome State Fault Refusal :=
  Act.go ethernetEnable s

/-- FW_SECTION_DONE (R116): A FIRMWARE section finishes streaming and its tag is checked; a partition starts when all its sections pass. -/
def execFwSectionDone (answers : Bool) (s : State) : Host.Outcome State Fault Refusal :=
  Act.go (fwSectionDone answers) s

/-- SERVICE_ENTRY (R77): Steps 10–13 are done: service begins with STEP 15, and RESET attention is raised if any cause bit is set. -/
def execServiceEntry (s : State) : Host.Outcome State Fault Refusal :=
  Act.go serviceEntry s

/-- EPOCH_BACKGROUND_ERASE (R125): In service, with the current sector holding 256 or more records, the other sector is erased. -/
def execEpochBackgroundErase (good : Bool) (s : State) : Host.Outcome State Fault Refusal :=
  Act.go (epochBackgroundErase good) s

/-- IMG_CMD_RAISE_FLOOR (R137): IMG.CMD OP 1 writes an epoch record with the generation floor raised to ARG. -/
def execImgCmdRaiseFloor (w : Sender) (v : Nat) (s : State) : Host.Outcome State Fault Refusal :=
  Act.go (Act.order w (IMG.CMD 0) v IMG.CMD.OP 1) s

/-- IMG_CMD_SET_PREFER (R137): IMG.CMD OP 2 writes an epoch record with PREFER set to ARG. -/
def execImgCmdSetPrefer (w : Sender) (v : Nat) (s : State) : Host.Outcome State Fault Refusal :=
  Act.go (Act.order w (IMG.CMD 0) v IMG.CMD.OP 2) s

/-- IMG_CMD_DONE (R126): An IMG.CMD command ends with its RESULT and sets CMD_DONE. -/
def execImgCmdDone (answers erase first second : Bool) (s : State) : Host.Outcome State Fault Refusal :=
  Act.go (imgCmdDone ⟨answers, erase, first, second⟩) s

/-- NET_BOOT_REQUEST (R128): Every 100 ms in network boot the lead die sends an image request on its fast lanes. -/
def execNetBootRequest (s : State) : Host.Outcome State Fault Refusal :=
  Act.go netBootRequest s

/-- NET_BOOT_OFF (R128): Network boot cannot run: the lead die sets NET_BOOT_OFF and waits for the host. -/
def execNetBootOff (s : State) : Host.Outcome State Fault Refusal :=
  Act.go netBootOff s

/-- NET_IMAGE_RECEIVED (R128): A complete image answer is received, checked and applied, or discarded so that requests resume. -/
def execNetImageReceived (s : State) : Host.Outcome State Fault Refusal :=
  Act.go netImageReceived s
end Sys2Proof.Machine
end

