-- ==== Sys2Proof/Machine/ExecSupply.lean ====
section
/-! DEFINITION. The meanings of the commands of the supply, the regulators, resets, clocks and links: each is one operation, made where the part it names is there. -/

namespace Sys2Proof.Machine

/-- POWER_ON (R77): VBAT rises to 4.0 V or more: the always-on islands start and drive die 0 drives the slow-edge line. -/
def execPowerOn (d v boot clk : Nat) (s : State) : Host.Outcome State Fault Refusal :=
  Act.go (Act.when (d < s.y ∧ boot < 4 ∧ clk < 4) (powerOn d v boot clk)) s

/-- POWER_ON_RESET (R84): VBAT falls below 4.0 V for 5 µs: the always-on island enters power-on reset and its state returns to defaults. -/
def execPowerOnReset (d v : Nat) (s : State) : Host.Outcome State Fault Refusal :=
  Act.go (Act.when (d < s.y) (powerOnReset d v)) s

/-- VBAT_RESET_RELEASE (R77): VBAT has been at or above the reset threshold plus 0.3 V for 2 ms: fuses load and the channel-control
islands start (start step 2). -/
def execVbatResetRelease (v : Nat) (s : State) : Host.Outcome State Fault Refusal :=
  Act.go (vbatResetRelease v) s

/-- VBAT_LOW (R58): VBAT stays below the reset threshold for 20 µs: package reset with cause VBAT below threshold, cold scope. -/
def execVbatLow (v : Nat) (s : State) : Host.Outcome State Fault Refusal :=
  Act.go (vbatLow v) s

/-- SAG_WARNING (R58): VBAT stays below SAG_TH for 20 µs on a drive die: SUP.EVT.SAG is set and SUPPLY attention is raised. -/
def execSagWarning (d v : Nat) (s : State) : Host.Outcome State Fault Refusal :=
  Act.go (Act.when (d < s.y) (sagWarning d v)) s

/-- SAG_END (R58): VBAT stays at or above SAG_TH plus 0.3 V for 20 µs: the sag warning ends and SUP.EVT.SAG_END is set. -/
def execSagEnd (d v : Nat) (s : State) : Host.Outcome State Fault Refusal :=
  Act.go (Act.when (d < s.y) (sagEnd d v)) s

/-- OV_WARN (R58): VBAT stays above 62 V for 20 µs: SUP.EVT.OV_WARN is set and SUPPLY attention is raised. -/
def execOvWarn (d v : Nat) (s : State) : Host.Outcome State Fault Refusal :=
  Act.go (Act.when (d < s.y) (ovWarn d v)) s

/-- OV_WARN_END (R58): VBAT stays at or below 61 V for 20 µs: the overvoltage warning ends. -/
def execOvWarnEnd (d v : Nat) (s : State) : Host.Outcome State Fault Refusal :=
  Act.go (Act.when (d < s.y) (ovWarnEnd d v)) s

/-- OV_OPEN (R61): VBAT stays above 66 V for 2 µs: the drive die opens all its channels, Pinhole channels included, and drives pre-
driver gates off. -/
def execOvOpen (d v : Nat) (s : State) : Host.Outcome State Fault Refusal :=
  Act.go (Act.when (d < s.y) (ovOpen d v)) s

/-- OV_END (R61): VBAT stays at or below 61 V for 10 ms: the overvoltage-open condition ends and channels return to their commands
through guarded soft-start. -/
def execOvEnd (d v : Nat) (s : State) : Host.Outcome State Fault Refusal :=
  Act.go (Act.when (d < s.y) (ovEnd d v)) s

/-- STAGE_SUCCESS (R65): The power-good input of a regulator stage has been high for 0.5 ms: the next stage begins, or t0 is reached
after the last stage. -/
def execStageSuccess (t : Nat) (s : State) : Host.Outcome State Fault Refusal :=
  Act.go (stageSuccess t) s

/-- STAGE_FAIL (R66): A stage has no stable power-good within 20 ms, or an earlier power-good falls before t0: enables go low, and after
the fourth failed attempt the latch is set. -/
def execStageFail (k : Nat) (s : State) : Host.Outcome State Fault Refusal :=
  Act.go (Act.when (k < 4) (stageFail k)) s

/-- REGULATOR_RETRY (R66): 100 ms after all enables went low, drive die 0 begins a new attempt from the CORE stage. -/
def execRegulatorRetry (s : State) : Host.Outcome State Fault Refusal :=
  Act.go regulatorRetry s

/-- PG_LOST (R67): A power-good input stays low for more than 10 µs from t0 onward: all channels open and the package resets with cause
regulator failure. -/
def execPgLost (k : Nat) (s : State) : Host.Outcome State Fault Refusal :=
  Act.go (Act.when (k < 4) (pgLost k)) s

/-- CORE_DROOP (R44): VCORE stays below 0.70 V for 1 µs: DEV.EVT.CORE_DROOP is set and SUPPLY attention is raised. -/
def execCoreDroop (p mv : Nat) (s : State) : Host.Outcome State Fault Refusal :=
  Act.go (Act.when (p < s.x) (coreDroop p mv)) s

/-- CORE_DROOP_END (R44): VCORE stays at or above 0.70 V for 1 µs: the droop condition ends. -/
def execCoreDroopEnd (p mv : Nat) (s : State) : Host.Outcome State Fault Refusal :=
  Act.go (Act.when (p < s.x) (coreDroopEnd p mv)) s

/-- VCORE_REGULATOR_FAIL (R67): VCORE of a Prism die stays below 0.58 V for 1 µs: the die signals regulator failure and drive die 0
resets the package. -/
def execVcoreRegulatorFail (p mv : Nat) (s : State) : Host.Outcome State Fault Refusal :=
  Act.go (Act.when (p < s.x) (vcoreRegulatorFail p mv)) s

/-- RESET_N_ASSERT (R82): The RESET_N ball of drive die 0 is low for more than 1 µs: warm reset, held while the ball stays low, and the
regulator latch clears. -/
def execResetNAssert (s : State) : Host.Outcome State Fault Refusal :=
  Act.go resetNAssert s

/-- RESET_N_RELEASE (R85): RESET_N returns high: the start sequence continues from step 6. -/
def execResetNRelease (boot clk : Nat) (s : State) : Host.Outcome State Fault Refusal :=
  Act.go (Act.when (boot < 4 ∧ clk < 4) (resetNRelease boot clk)) s

/-- PRISM_THERMAL_SHUTDOWN (R83): A Prism die's Tj stays above 135 °C for 100 µs: warm reset, and every Prism die is held in reset. -/
def execPrismThermalShutdown (p : Nat) (s : State) : Host.Outcome State Fault Refusal :=
  Act.go (Act.when (p < s.x) (prismThermalShutdown p)) s

/-- THERMAL_HOLD_END (R83): Every Prism die's sensor reads below 110 °C: the start continues from step 6. -/
def execThermalHoldEnd (s : State) : Host.Outcome State Fault Refusal :=
  Act.go thermalHoldEnd s

/-- PRISM_THERMAL_WARN (R82): A Prism die's Tj stays above 125 °C for 100 µs: THERMAL attention is raised. -/
def execPrismThermalWarn (p : Nat) (s : State) : Host.Outcome State Fault Refusal :=
  Act.go (Act.when (p < s.x) (prismThermalWarn p)) s

/-- PRISM_THERMAL_WARN_END (R82): A Prism die's Tj falls below 120 °C: its THERMAL attention clears. -/
def execPrismThermalWarnEnd (p : Nat) (s : State) : Host.Outcome State Fault Refusal :=
  Act.go (Act.when (p < s.x) (prismThermalWarnEnd p)) s

/-- CLOCK_READY (R70): The external source has been within ±0.5% of nominal for 1 ms: the clock source is ready. -/
def execClockReady (s : State) : Host.Outcome State Fault Refusal :=
  Act.go clockReady s

/-- CLOCK_TIMEOUT (R70): The external source is not ready within 10 ms of reset release: internal-only mode, CLK_REASON set, FAULT
attention. -/
def execClockTimeout (s : State) : Host.Outcome State Fault Refusal :=
  Act.go clockTimeout s

/-- CLOCK_LOST (R72): The external source shows no edge for 2 µs in service: islands switch to the internal oscillator and the stopped
islands halt. -/
def execClockLost (s : State) : Host.Outcome State Fault Refusal :=
  Act.go clockLost s

/-- DIE_TO_DIE_LINK_LOST (R38): No transition on a die-to-die link for 50 µs: package reset with cause die-to-die link loss. -/
def execDieToDieLinkLost (p j : Nat) (s : State) : Host.Outcome State Fault Refusal :=
  Act.go (Act.when (p < s.x ∧ j < 3) (dieToDieLinkLost p j)) s

/-- DRIVE_LINK_LOST (R38): No transition on a drive link for 50 µs: accesses complete with TIMEOUT, load commands are discarded and
DLINK_LOST is set. -/
def execDriveLinkLost (d : Nat) (seen : Bool) (s : State) : Host.Outcome State Fault Refusal :=
  Act.go (Act.when (d < s.y) (driveLinkLost d seen)) s

/-- DRIVE_LINK_RESUME (R38): Transitions return on a lost drive link: DLINK.UP returns to 1. -/
def execDriveLinkResume (d : Nat) (s : State) : Host.Outcome State Fault Refusal :=
  Act.go (Act.when (d < s.y) (driveLinkResume d)) s

/-- SLOW_EDGE_LOST (R38): No slow-clock edge for 244 µs: each die runs its management plane on a substitute edge. -/
def execSlowEdgeLost (mask : Nat) (s : State) : Host.Outcome State Fault Refusal :=
  Act.go (Act.when (mask < 256) (slowEdgeLost mask)) s
end Sys2Proof.Machine
end

