-- ==== Sys2Proof/Machine/ExecTime.lean ====
section
/-! DEFINITION. The meanings of the commands of die time and PTP: each is one operation, made where the part it names is there. -/

namespace Sys2Proof.Machine

/-- TIME_MARK (R372): Every 32nd slow-clock edge the Prism dies latch die time and align to the lead die. -/
def execTimeMark (drift : List Int) (s : State) : Host.Outcome State Fault Refusal :=
  Act.go (Act.when (s.prismUp = true) (timeMark drift)) s

/-- TIME_RATE_WRITE (R373): A write to TIME.RATE schedules a rate adjustment. -/
def execTimeRateWrite (w : Sender) (p v : Nat) (s : State) : Host.Outcome State Fault Refusal :=
  Act.go (Act.when (p < 4) (Act.send w (TIME.RATE p) (BitVec.ofNat 48 v))) s

/-- TIME_STEP_WRITE (R373): A write to TIME.STEP schedules a step of die time. -/
def execTimeStepWrite (w : Sender) (p v : Nat) (s : State) : Host.Outcome State Fault Refusal :=
  Act.go (Act.when (p < 4) (Act.send w (TIME.STEP p) (BitVec.ofNat 48 v))) s

/-- COMMIT (R376): TIME.CTRL.COMMIT makes the three PTP shadow registers take effect together. -/
def execCommit (w : Sender) (p v : Nat) (s : State) : Host.Outcome State Fault Refusal :=
  Act.go (Act.when (p < 4) (Act.order w (TIME.CTRL p) v TIME.CTRL.COMMIT 1)) s

/-- PTP_NOW_READ (R386): A read of PTP_NOW_SEC latches the matching nanoseconds into PTP_NOW_NS. -/
def execPtpNowRead (w : Sender) (p : Nat) (s : State) : Host.Outcome State Fault Refusal :=
  Act.go (Act.when (p < 4) (Act.fetch w (TIME.PTP_NOW_SEC p))) s

/-- TIME_CAPTURE (R376): A selected edge on TIME_CAP latches die time into TIME.CAP. -/
def execTimeCapture (falling : Bool) (s : State) : Host.Outcome State Fault Refusal :=
  Act.go (Act.when (s.prismUp = true) (timeCapture falling)) s

/-- PPS_PULSE (R376): At each instant PTP nanoseconds pass 0 the lead die drives TIME_PPS high for 1 ms. -/
def execPpsPulse (s : State) : Host.Outcome State Fault Refusal :=
  Act.go (Act.when (s.prismUp = true) ppsPulse) s
end Sys2Proof.Machine
end

