-- ==== Sys2Proof/Machine/ExecWake.lean ====
section
/-! DEFINITION. The meanings of the commands of partial networks, sleep and wake: each is one operation, made where the part it names is there. -/

namespace Sys2Proof.Machine

/-- WAKE_REQ_WRITE (R604): A write to WAKE.REQ_k sets or clears PN requests and STAY. -/
def execWakeReqWrite (w : Sender) (p k v : Nat) (s : State) : Host.Outcome State Fault Refusal :=
  Act.go (Act.when (p < 4 ∧ k < 17) (Act.send w (WAKE.REQ p k) (BitVec.ofNat 48 v))) s

/-- PN_WAKE (R582): An ASLEEP PN becomes AWAKE on request, keep-alive, transceiver wake or traffic. -/
def execPnWake (k : Nat) (s : State) : Host.Outcome State Fault Refusal :=
  Act.go (Act.when (k < 16 ∧ s.prismUp = true) (pnWake k)) s

/-- PN_SLEEP (R582): An AWAKE PN with silence for SILENCE_MS falls ASLEEP and its members sleep. -/
def execPnSleep (k : Nat) (s : State) : Host.Outcome State Fault Refusal :=
  Act.go (Act.when (k < 16 ∧ s.prismUp = true) (pnSleep k)) s

/-- KEEPALIVE_PN_SEND (R583): Every KA_PERIOD_MS a keep-alive is sent on awake member facets of a requested PN. -/
def execKeepalivePnSend (k : Nat) (s : State) : Host.Outcome State Fault Refusal :=
  Act.go (Act.when (k < 16 ∧ s.prismUp = true) (keepalivePnSend k)) s

/-- KEEPALIVE_PN_SEEN (R581): A requesting keep-alive on a member facet resets the silence timer. -/
def execKeepalivePnSeen (gf m : Nat) (s : State) : Host.Outcome State Fault Refusal :=
  Act.go (Act.when (gf < 256 ∧ s.prismUp = true) (keepalivePnSeen gf m)) s

/-- TOKEN_ORIGINATE (R586): Every ROUND_MS the originating lead die starts a consent round. -/
def execTokenOriginate (s : State) : Host.Outcome State Fault Refusal :=
  Act.go (Act.when (s.prismUp = true) tokenOriginate) s

/-- TOKEN_PASS (R585): A member receives the token, sets or clears its consent bit and passes it on. -/
def execTokenPass (s : State) : Host.Outcome State Fault Refusal :=
  Act.go (Act.when (s.prismUp = true) tokenPass) s

/-- TOKEN_RETURN (R588): A round returns to the origin, which advances the phase or aborts. -/
def execTokenReturn (s : State) : Host.Outcome State Fault Refusal :=
  Act.go (Act.when (s.prismUp = true) tokenReturn) s

/-- TOKEN_LOST (R586): No round returns in ROUND_MS, or no token for TOKEN_LOST_MS: a new token after back-off. -/
def execTokenLost (s : State) : Host.Outcome State Fault Refusal :=
  Act.go (Act.when (s.prismUp = true) tokenLost) s

/-- NOTICE_END (R588): NOTICE_MS after COMMIT returned, the GO round starts. -/
def execNoticeEnd (s : State) : Host.Outcome State Fault Refusal :=
  Act.go (Act.when (s.prismUp = true) noticeEnd) s

/-- SLEEP_ENTRY (R589): The SLEEP token makes each member enter sleep as it passes it on. -/
def execSleepEntry (s : State) : Host.Outcome State Fault Refusal :=
  Act.go (Act.when (s.prismUp = true) sleepEntry) s

/-- SLEEP_OFF (R589): OFF at drive die 0 holds the Prism dies in reset and turns the regulators off. -/
def execSleepOff (s : State) : Host.Outcome State Fault Refusal :=
  Act.go (Act.when (s.prismUp = true) sleepOff) s

/-- WAKE_SOURCE (R593): An enabled wake source asserts: it is latched and the wake line is driven. -/
def execWakeSource (d src : Nat) (on : Bool) (s : State) : Host.Outcome State Fault Refusal :=
  Act.go (Act.when (d < s.y ∧ src < 40) (wakeSource d src on)) s

/-- WAKE_START (R593): Once supply and off-time conditions and jitter pass, a cold start begins. -/
def execWakeStart (v : Nat) (s : State) : Host.Outcome State Fault Refusal :=
  Act.go (wakeStart v) s

/-- WAKE_TIMER (R590): The wake timer expires after TIMER.SECONDS of sleep. -/
def execWakeTimer (s : State) : Host.Outcome State Fault Refusal :=
  Act.go wakeTimer s

/-- XCVR_WAKE_DETECT (R591): A transceiver in standby detects WUP or WUF. -/
def execXcvrWakeDetect (d u kind rate : Nat) (bytes : List Byte) (s : State) : Host.Outcome State Fault Refusal :=
  Act.go (Act.when (d < s.y ∧ u < 12 ∧ kind < 3) (xcvrWakeDetect d u kind rate bytes)) s

/-- WAKE_FAILSAFE (R594): No confirmation within 150 ms returns the transceiver to standby and counts the wake invalid. -/
def execWakeFailsafe (d u : Nat) (s : State) : Host.Outcome State Fault Refusal :=
  Act.go (Act.when (d < s.y ∧ u < 12) (wakeFailsafe d u)) s

/-- CONFIRM (R595): WAKE.CMD.CONFIRM marks the pending wake valid. -/
def execConfirm (w : Sender) (p v : Nat) (s : State) : Host.Outcome State Fault Refusal :=
  Act.go (Act.when (p < 4) (Act.order w (WAKE.CMD p) v WAKE.CMD.CONFIRM 1)) s

/-- WAKE_VALIDITY_TIMEOUT (R595): CONFIRM_MS passes without a valid-making event: the wake is invalid. -/
def execWakeValidityTimeout (s : State) : Host.Outcome State Fault Refusal :=
  Act.go wakeValidityTimeout s

/-- SOURCE_REARM (R596): 1,800 s after disarm the source rearms. -/
def execSourceRearm (d src : Nat) (s : State) : Host.Outcome State Fault Refusal :=
  Act.go (Act.when (d < s.y ∧ src < 40) (sourceRearm d src)) s

/-- REARM (R596): WKP.CMD.REARM rearms every source and clears the histories. -/
def execRearm (w : Sender) (d v : Nat) (s : State) : Host.Outcome State Fault Refusal :=
  Act.go (Act.when (d < 4) (Act.order w (WKP.CMD d) v WKP.CMD.REARM 1)) s

/-- WAKE_PATTERN_SLOT (R597): A wake-pattern slot begins and the next waiting facet starts its pattern. -/
def execWakePatternSlot (s : State) : Host.Outcome State Fault Refusal :=
  Act.go (Act.when (s.prismUp = true) wakePatternSlot) s

/-- WAKE_REPORT_TIMEOUT (R595): A drive die receives no validity report for a wake within 10 s and counts the wake as invalid in its
source's history. -/
def execWakeReportTimeout (d : Nat) (s : State) : Host.Outcome State Fault Refusal :=
  Act.go (Act.when (d < s.y) (wakeReportTimeout d)) s

/-- LIN_WAKE_SCHEDULE_RESTART (R584): 100 ms after a LIN member's wake pulse ends, its controller restarts its schedule from the first
entry. -/
def execLinWakeScheduleRestart (p c : Nat) (s : State) : Host.Outcome State Fault Refusal :=
  Act.go (Act.when (p < s.x ∧ c < 8 ∧ s.prismUp = true) (linWakeScheduleRestart p c)) s
end Sys2Proof.Machine
end

