-- ==== Sys2Proof/Machine/ExecXcvr.lean ====
section
/-! DEFINITION. The meanings of the commands of the integrated transceivers: each is one operation, made where the part it names is there. -/

namespace Sys2Proof.Machine

/-- TXD_TIMEOUT (R427): A transceiver's transmit input is dominant too long: the driver is released. -/
def execTxdTimeout (d u : Nat) (recessive : Bool) (s : State) : Host.Outcome State Fault Refusal :=
  Act.go (Act.when (d < s.y ∧ u < 12) (txdTimeout d u recessive)) s

/-- BUS_DOM (R427): A CAN bus stays dominant for more than 4 ms: BUS_DOM is set. -/
def execBusDom (d u : Nat) (s : State) : Host.Outcome State Fault Refusal :=
  Act.go (Act.when (d < s.y ∧ u < 12) (busDom d u)) s

/-- XCVR_THERMAL (R427): A transceiver overheats: its driver turns off until it cools. -/
def execXcvrThermal (d u : Nat) (s : State) : Host.Outcome State Fault Refusal :=
  Act.go (Act.when (d < s.y ∧ u < 12) (xcvrThermal d u)) s

/-- LIN_SUP_HIGH (R765): LIN_SUP stays above 36 V for 20 µs: LIN drivers are released. -/
def execLinSupHigh (d : Nat) (s : State) : Host.Outcome State Fault Refusal :=
  Act.go (Act.when (d < s.y) (linSupHigh d)) s

/-- LIN_SUP_OK (R765): LIN_SUP stays at or below 35 V for 1 ms: the LIN transceivers resume. -/
def execLinSupOk (d : Nat) (s : State) : Host.Outcome State Fault Refusal :=
  Act.go (Act.when (d < s.y) (linSupOk d)) s

/-- XCVR_MODE_CHANGE (R425): A transceiver follows its controller's state into its mode. -/
def execXcvrModeChange (d u : Nat) (s : State) : Host.Outcome State Fault Refusal :=
  Act.go (Act.when (d < s.y ∧ u < 12) (xcvrModeChange d u)) s

/-- XCVR_THERMAL_RELEASE (R427): A transceiver that shut its driver for overtemperature cools below its release threshold of 150 °C and
drives again. -/
def execXcvrThermalRelease (d u : Nat) (s : State) : Host.Outcome State Fault Refusal :=
  Act.go (Act.when (d < s.y ∧ u < 12) (xcvrThermalRelease d u)) s
end Sys2Proof.Machine
end

