-- ==== Sys2Proof/Machine/Dispatch.lean ====
section
/-! DEFINITION. One arm per command: its meaning. -/

namespace Sys2Proof.Machine

/-- The effect of a command on everything but the queue. -/
def exec (i : Instr) (s : State) : Host.Outcome State Fault Refusal :=
  match i with
  | .powerOn d v boot clk => Sys2Proof.Machine.execPowerOn d v boot clk s
  | .powerOnReset d v => Sys2Proof.Machine.execPowerOnReset d v s
  | .vbatResetRelease v => Sys2Proof.Machine.execVbatResetRelease v s
  | .vbatLow v => Sys2Proof.Machine.execVbatLow v s
  | .sagWarning d v => Sys2Proof.Machine.execSagWarning d v s
  | .sagEnd d v => Sys2Proof.Machine.execSagEnd d v s
  | .ovWarn d v => Sys2Proof.Machine.execOvWarn d v s
  | .ovWarnEnd d v => Sys2Proof.Machine.execOvWarnEnd d v s
  | .ovOpen d v => Sys2Proof.Machine.execOvOpen d v s
  | .ovEnd d v => Sys2Proof.Machine.execOvEnd d v s
  | .stageSuccess t => Sys2Proof.Machine.execStageSuccess t s
  | .stageFail k => Sys2Proof.Machine.execStageFail k s
  | .regulatorRetry => Sys2Proof.Machine.execRegulatorRetry s
  | .pgLost k => Sys2Proof.Machine.execPgLost k s
  | .coreDroop p mv => Sys2Proof.Machine.execCoreDroop p mv s
  | .coreDroopEnd p mv => Sys2Proof.Machine.execCoreDroopEnd p mv s
  | .vcoreRegulatorFail p mv => Sys2Proof.Machine.execVcoreRegulatorFail p mv s
  | .resetNAssert => Sys2Proof.Machine.execResetNAssert s
  | .resetNRelease boot clk => Sys2Proof.Machine.execResetNRelease boot clk s
  | .prismThermalShutdown p => Sys2Proof.Machine.execPrismThermalShutdown p s
  | .thermalHoldEnd => Sys2Proof.Machine.execThermalHoldEnd s
  | .prismThermalWarn p => Sys2Proof.Machine.execPrismThermalWarn p s
  | .prismThermalWarnEnd p => Sys2Proof.Machine.execPrismThermalWarnEnd p s
  | .clockReady => Sys2Proof.Machine.execClockReady s
  | .clockTimeout => Sys2Proof.Machine.execClockTimeout s
  | .clockLost => Sys2Proof.Machine.execClockLost s
  | .dieToDieLinkLost p j => Sys2Proof.Machine.execDieToDieLinkLost p j s
  | .driveLinkLost d seen => Sys2Proof.Machine.execDriveLinkLost d seen s
  | .driveLinkResume d => Sys2Proof.Machine.execDriveLinkResume d s
  | .slowEdgeLost mask => Sys2Proof.Machine.execSlowEdgeLost mask s
  | .parityScrub l fixed lost => Sys2Proof.Machine.execParityScrub l fixed lost s
  | .imageKeyUnwrap answers => Sys2Proof.Machine.execImageKeyUnwrap answers s
  | .epochAreaRead answers => Sys2Proof.Machine.execEpochAreaRead answers s
  | .slotExamine answers => Sys2Proof.Machine.execSlotExamine answers s
  | .configDistribution => Sys2Proof.Machine.execConfigDistribution s
  | .epochWrite answers erase first second => Sys2Proof.Machine.execEpochWrite answers erase first second s
  | .otherSlotCheck answers => Sys2Proof.Machine.execOtherSlotCheck answers s
  | .canLinEnable => Sys2Proof.Machine.execCanLinEnable s
  | .ethernetEnable => Sys2Proof.Machine.execEthernetEnable s
  | .fwSectionDone answers => Sys2Proof.Machine.execFwSectionDone answers s
  | .serviceEntry => Sys2Proof.Machine.execServiceEntry s
  | .epochBackgroundErase good => Sys2Proof.Machine.execEpochBackgroundErase good s
  | .imgCmdRaiseFloor w v => Sys2Proof.Machine.execImgCmdRaiseFloor w v s
  | .imgCmdSetPrefer w v => Sys2Proof.Machine.execImgCmdSetPrefer w v s
  | .imgCmdDone answers erase first second => Sys2Proof.Machine.execImgCmdDone answers erase first second s
  | .netBootRequest => Sys2Proof.Machine.execNetBootRequest s
  | .netBootOff => Sys2Proof.Machine.execNetBootOff s
  | .netImageReceived => Sys2Proof.Machine.execNetImageReceived s
  | .nop tag => Sys2Proof.Machine.execNop tag s
  | .read tag addr data => Sys2Proof.Machine.execRead tag addr data s
  | .write tag addr data => Sys2Proof.Machine.execWrite tag addr data s
  | .peerStatus tag addr data => Sys2Proof.Machine.execPeerStatus tag addr data s
  | .reset tag addr data => Sys2Proof.Machine.execReset tag addr data s
  | .imageBegin tag addr data => Sys2Proof.Machine.execImageBegin tag addr data s
  | .imageData tag addr payload => Sys2Proof.Machine.execImageData tag addr payload s
  | .imageEnd tag addr data => Sys2Proof.Machine.execImageEnd tag addr data s
  | .flashErase tag addr data => Sys2Proof.Machine.execFlashErase tag addr data s
  | .flashProgram tag addr payload => Sys2Proof.Machine.execFlashProgram tag addr payload s
  | .flashRead tag addr len => Sys2Proof.Machine.execFlashRead tag addr len s
  | .flashOpDone good => Sys2Proof.Machine.execFlashOpDone good s
  | .badFrame bytes => Sys2Proof.Machine.execBadFrame bytes s
  | .spiAbortedCommand bytes => Sys2Proof.Machine.execSpiAbortedCommand bytes s
  | .eyepieceEthRequest => Sys2Proof.Machine.execEyepieceEthRequest s
  | .slowFetchDone idx n => Sys2Proof.Machine.execSlowFetchDone idx n s
  | .pendingEntryExpire idx n => Sys2Proof.Machine.execPendingEntryExpire idx n s
  | .remoteTimeout idx n => Sys2Proof.Machine.execRemoteTimeout idx n s
  | .postedWriteEffect d b => Sys2Proof.Machine.execPostedWriteEffect d b s
  | .compatViewRefresh => Sys2Proof.Machine.execCompatViewRefresh s
  | .blockEnable w d b v => Sys2Proof.Machine.execBlockEnable w d b v s
  | .blockDisable w d b v => Sys2Proof.Machine.execBlockDisable w d b v s
  | .clearBySequence w a seq => Sys2Proof.Machine.execClearBySequence w a seq s
  | .registerWrite w a v => Sys2Proof.Machine.execRegisterWrite w a v s
  | .supMinmaxClear w d v => Sys2Proof.Machine.execSupMinmaxClear w d v s
  | .vbatSample d v => Sys2Proof.Machine.execVbatSample d v s
  | .frameAdmission p f => Sys2Proof.Machine.execFrameAdmission p f s
  | .admissionRetry p f c => Sys2Proof.Machine.execAdmissionRetry p f c s
  | .frameEntry p => Sys2Proof.Machine.execFrameEntry p s
  | .d2dCellReceive p j c => Sys2Proof.Machine.execD2dCellReceive p j c s
  | .d2dCreditReturn p j c => Sys2Proof.Machine.execD2dCreditReturn p j c s
  | .d2dCreditViolation p j c => Sys2Proof.Machine.execD2dCreditViolation p j c s
  | .cellCheckFailure p f c place k flip code => Sys2Proof.Machine.execCellCheckFailure p f c place k flip code s
  | .stormTimeout p f c => Sys2Proof.Machine.execStormTimeout p f c s
  | .stalledCell p => Sys2Proof.Machine.execStalledCell p s
  | .paceSample p v => Sys2Proof.Machine.execPaceSample p v s
  | .repCmdRead w p v => Sys2Proof.Machine.execRepCmdRead w p v s
  | .repCmdWrite w p v => Sys2Proof.Machine.execRepCmdWrite w p v s
  | .fabClrMax w p v => Sys2Proof.Machine.execFabClrMax w p v s
  | .egressSelect p f => Sys2Proof.Machine.execEgressSelect p f s
  | .facetDownFlush p f => Sys2Proof.Machine.execFacetDownFlush p f s
  | .flushCmd w p v => Sys2Proof.Machine.execFlushCmd w p v s
  | .flushDone p => Sys2Proof.Machine.execFlushDone p s
  | .spillBlock p q err => Sys2Proof.Machine.execSpillBlock p q err s
  | .fetchBlock p q err cell => Sys2Proof.Machine.execFetchBlock p q err cell s
  | .cqDataRead w p n => Sys2Proof.Machine.execCqDataRead w p n s
  | .dropRest w p n v => Sys2Proof.Machine.execDropRest w p n v s
  | .qCmdRead w p v => Sys2Proof.Machine.execQCmdRead w p v s
  | .qCmdWrite w p v => Sys2Proof.Machine.execQCmdWrite w p v s
  | .frameLookup p f busy => Sys2Proof.Machine.execFrameLookup p f busy s
  | .learnNoticeReceive p j busy => Sys2Proof.Machine.execLearnNoticeReceive p j busy s
  | .ageingSweep p => Sys2Proof.Machine.execAgeingSweep p s
  | .lpmInsert w p v => Sys2Proof.Machine.execLpmInsert w p v s
  | .lpmDelete w p v => Sys2Proof.Machine.execLpmDelete w p v s
  | .lpmFind w p v => Sys2Proof.Machine.execLpmFind w p v s
  | .tdmaRead w mem p k v => Sys2Proof.Machine.execTdmaRead w mem p k v s
  | .tdmaWrite w mem p k v => Sys2Proof.Machine.execTdmaWrite w mem p k v s
  | .tdmaFind w mem p k v => Sys2Proof.Machine.execTdmaFind w mem p k v s
  | .tdmaInsert w mem p k v => Sys2Proof.Machine.execTdmaInsert w mem p k v s
  | .tdmaDelete w mem p k v => Sys2Proof.Machine.execTdmaDelete w mem p k v s
  | .tdmaJobDone p j => Sys2Proof.Machine.execTdmaJobDone p j s
  | .tdmaLockExpire p t r => Sys2Proof.Machine.execTdmaLockExpire p t r s
  | .gclConfigChange w p f v => Sys2Proof.Machine.execGclConfigChange w p f v s
  | .gclSwitch p f => Sys2Proof.Machine.execGclSwitch p f s
  | .gateEntryBegin p f => Sys2Proof.Machine.execGateEntryBegin p f s
  | .ethReceive p f bytes errAt fault fixed lost => Sys2Proof.Machine.execEthReceive p f bytes errAt fault fixed lost s
  | .pauseReceive p f bytes => Sys2Proof.Machine.execPauseReceive p f bytes s
  | .pauseExpire p f c => Sys2Proof.Machine.execPauseExpire p f c s
  | .pauseLimit p f c => Sys2Proof.Machine.execPauseLimit p f c s
  | .xoffCross p f => Sys2Proof.Machine.execXoffCross p f s
  | .xonCross p f => Sys2Proof.Machine.execXonCross p f s
  | .pauseRefresh p f => Sys2Proof.Machine.execPauseRefresh p f s
  | .ethTransmit p f coll late fault => Sys2Proof.Machine.execEthTransmit p f coll late fault s
  | .txAbort p f n underrun => Sys2Proof.Machine.execTxAbort p f n underrun s
  | .linkUp p f held => Sys2Proof.Machine.execLinkUp p f held s
  | .linkDown p f lf rf held => Sys2Proof.Machine.execLinkDown p f lf rf held s
  | .plcaBeaconLost p f => Sys2Proof.Machine.execPlcaBeaconLost p f s
  | .plcaBeacon p f => Sys2Proof.Machine.execPlcaBeacon p f s
  | .mdioC45Address w p f v => Sys2Proof.Machine.execMdioC45Address w p f v s
  | .mdioC45Write w p f v => Sys2Proof.Machine.execMdioC45Write w p f v s
  | .mdioC45Read w p f v => Sys2Proof.Machine.execMdioC45Read w p f v s
  | .mdioC22Write w p f v => Sys2Proof.Machine.execMdioC22Write w p f v s
  | .mdioC22Read w p f v => Sys2Proof.Machine.execMdioC22Read w p f v s
  | .mdioDone p bus data turnaround => Sys2Proof.Machine.execMdioDone p bus data turnaround s
  | .snap w p f v => Sys2Proof.Machine.execSnap w p f v s
  | .restartAn w p f v => Sys2Proof.Machine.execRestartAn w p f v s
  | .txtsPop w p f => Sys2Proof.Machine.execTxtsPop w p f s
  | .timeMark drift => Sys2Proof.Machine.execTimeMark drift s
  | .timeRateWrite w p v => Sys2Proof.Machine.execTimeRateWrite w p v s
  | .timeStepWrite w p v => Sys2Proof.Machine.execTimeStepWrite w p v s
  | .commit w p v => Sys2Proof.Machine.execCommit w p v s
  | .ptpNowRead w p => Sys2Proof.Machine.execPtpNowRead w p s
  | .timeCapture falling => Sys2Proof.Machine.execTimeCapture falling s
  | .ppsPulse => Sys2Proof.Machine.execPpsPulse s
  | .canReceive p c bytes res ago => Sys2Proof.Machine.execCanReceive p c bytes res ago s
  | .canTransmitDone p c tdcv ago => Sys2Proof.Machine.execCanTransmitDone p c tdcv ago s
  | .canArbitrationLost p c => Sys2Proof.Machine.execCanArbitrationLost p c s
  | .canError p c kind phase tx eights exempt tdcv => Sys2Proof.Machine.execCanError p c kind phase tx eights exempt tdcv s
  | .canIntegrated p c => Sys2Proof.Machine.execCanIntegrated p c s
  | .canRecover w p c v => Sys2Proof.Machine.execCanRecover w p c v s
  | .canRecoveryDone p c => Sys2Proof.Machine.execCanRecoveryDone p c s
  | .abortTx w p c v => Sys2Proof.Machine.execAbortTx w p c v s
  | .filtCmdRead w p c v => Sys2Proof.Machine.execFiltCmdRead w p c v s
  | .filtCmdWrite w p c v => Sys2Proof.Machine.execFiltCmdWrite w p c v s
  | .acCmdRead w p c v => Sys2Proof.Machine.execAcCmdRead w p c v s
  | .acCmdFind w p c v => Sys2Proof.Machine.execAcCmdFind w p c v s
  | .acCmdEmpty w p c v => Sys2Proof.Machine.execAcCmdEmpty w p c v s
  | .acAgeSweep p c => Sys2Proof.Machine.execAcAgeSweep p c s
  | .linSlot p c rb late overrun => Sys2Proof.Machine.execLinSlot p c rb late overrun s
  | .linResponse p c fault data ago => Sys2Proof.Machine.execLinResponse p c fault data ago s
  | .linBusFault p c stuck => Sys2Proof.Machine.execLinBusFault p c stuck s
  | .linPublish p c => Sys2Proof.Machine.execLinPublish p c s
  | .linSwitch w p c v => Sys2Proof.Machine.execLinSwitch w p c v s
  | .linStop w p c v => Sys2Proof.Machine.execLinStop w p c v s
  | .linGotosleep w p c v => Sys2Proof.Machine.execLinGotosleep w p c v s
  | .schedCmdRead w p c v => Sys2Proof.Machine.execSchedCmdRead w p c v s
  | .schedCmdWrite w p c v => Sys2Proof.Machine.execSchedCmdWrite w p c v s
  | .pubCmdRead w p c v => Sys2Proof.Machine.execPubCmdRead w p c v s
  | .pubCmdWrite w p c v => Sys2Proof.Machine.execPubCmdWrite w p c v s
  | .txdTimeout d u recessive => Sys2Proof.Machine.execTxdTimeout d u recessive s
  | .busDom d u => Sys2Proof.Machine.execBusDom d u s
  | .xcvrThermal d u => Sys2Proof.Machine.execXcvrThermal d u s
  | .linSupHigh d => Sys2Proof.Machine.execLinSupHigh d s
  | .linSupOk d => Sys2Proof.Machine.execLinSupOk d s
  | .xcvrModeChange d u => Sys2Proof.Machine.execXcvrModeChange d u s
  | .sgwFrame p fault => Sys2Proof.Machine.execSgwFrame p fault s
  | .tpTimerExpire p c sa da proto => Sys2Proof.Machine.execTpTimerExpire p c sa da proto s
  | .pduCadence p idx fault => Sys2Proof.Machine.execPduCadence p idx fault s
  | .pduChangeCompose p idx fault => Sys2Proof.Machine.execPduChangeCompose p idx fault s
  | .tunnelSend p t => Sys2Proof.Machine.execTunnelSend p t s
  | .measurementWrite d item v => Sys2Proof.Machine.execMeasurementWrite d item v s
  | .signalSweep p => Sys2Proof.Machine.execSignalSweep p s
  | .beamCmdRead w p v => Sys2Proof.Machine.execBeamCmdRead w p v s
  | .beamCmdFind w p v => Sys2Proof.Machine.execBeamCmdFind w p v s
  | .beamCmdInsert w p v => Sys2Proof.Machine.execBeamCmdInsert w p v s
  | .beamCmdDelete w p v => Sys2Proof.Machine.execBeamCmdDelete w p v s
  | .tblCmdRead w p v => Sys2Proof.Machine.execTblCmdRead w p v s
  | .tblCmdWrite w p v => Sys2Proof.Machine.execTblCmdWrite w p v s
  | .sigCmdRead w p v => Sys2Proof.Machine.execSigCmdRead w p v s
  | .sigCmdWrite w p v => Sys2Proof.Machine.execSigCmdWrite w p v s
  | .windowLoad p c hart n k aligned fast => Sys2Proof.Machine.execWindowLoad p c hart n k aligned fast s
  | .windowStore p c hart n k aligned lock v => Sys2Proof.Machine.execWindowStore p c hart n k aligned lock v s
  | .windowReadReply p idx late => Sys2Proof.Machine.execWindowReadReply p idx late s
  | .postedWriteDone p idx late => Sys2Proof.Machine.execPostedWriteDone p idx late s
  | .lockedRead p c hart n k aligned fast => Sys2Proof.Machine.execLockedRead p c hart n k aligned fast s
  | .windowLockExpire p n other => Sys2Proof.Machine.execWindowLockExpire p n other s
  | .windowPendingExpire p idx => Sys2Proof.Machine.execWindowPendingExpire p idx s
  | .keyDemand p n => Sys2Proof.Machine.execKeyDemand p n s
  | .keyLoadDone p n => Sys2Proof.Machine.execKeyLoadDone p n s
  | .keyPreload p => Sys2Proof.Machine.execKeyPreload p s
  | .load w p v => Sys2Proof.Machine.execLoad w p v s
  | .derive w p v => Sys2Proof.Machine.execDerive w p v s
  | .unwrap w p v => Sys2Proof.Machine.execUnwrap w p v s
  | .wrap w p v => Sys2Proof.Machine.execWrap w p v s
  | .generate w p v => Sys2Proof.Machine.execGenerate w p v s
  | .clear w p v => Sys2Proof.Machine.execClear w p v s
  | .wrapRoot w p v => Sys2Proof.Machine.execWrapRoot w p v s
  | .keyOpDone p => Sys2Proof.Machine.execKeyOpDone p s
  | .resilverPass p => Sys2Proof.Machine.execResilverPass p s
  | .resilverSlotUses p n => Sys2Proof.Machine.execResilverSlotUses p n s
  | .rngHealthFail p => Sys2Proof.Machine.execRngHealthFail p s
  | .rngStop p => Sys2Proof.Machine.execRngStop p s
  | .rngRestart p pass => Sys2Proof.Machine.execRngRestart p pass s
  | .drbgReseed p => Sys2Proof.Machine.execDrbgReseed p s
  | .tamperAssert m => Sys2Proof.Machine.execTamperAssert m s
  | .tamperSeen m => Sys2Proof.Machine.execTamperSeen m s
  | .provision w p v => Sys2Proof.Machine.execProvision w p v s
  | .restore w p v => Sys2Proof.Machine.execRestore w p v s
  | .rekey w p v => Sys2Proof.Machine.execRekey w p v s
  | .renew w p v => Sys2Proof.Machine.execRenew w p v s
  | .provCmdDone p answers erase first second => Sys2Proof.Machine.execProvCmdDone p answers erase first second s
  | .ciphJobStart w mem p k v => Sys2Proof.Machine.execCiphJobStart w mem p k v s
  | .ciphJobDone p c fault => Sys2Proof.Machine.execCiphJobDone p c fault s
  | .cipherFlow p fault => Sys2Proof.Machine.execCipherFlow p fault s
  | .saCmdRead w p v => Sys2Proof.Machine.execSaCmdRead w p v s
  | .saCmdWrite w p v => Sys2Proof.Machine.execSaCmdWrite w p v s
  | .profCmdRead w p v => Sys2Proof.Machine.execProfCmdRead w p v s
  | .profCmdWrite w p v => Sys2Proof.Machine.execProfCmdWrite w p v s
  | .fvCmdRead w p v => Sys2Proof.Machine.execFvCmdRead w p v s
  | .fvCmdClearRef w p v => Sys2Proof.Machine.execFvCmdClearRef w p v s
  | .sealBeacon p idx fault => Sys2Proof.Machine.execSealBeacon p idx fault s
  | .pairHeartbeatSend => Sys2Proof.Machine.execPairHeartbeatSend s
  | .pairHeartbeatReceive past => Sys2Proof.Machine.execPairHeartbeatReceive past s
  | .pairLinkLoss line => Sys2Proof.Machine.execPairLinkLoss line s
  | .pairJoin line => Sys2Proof.Machine.execPairJoin line s
  | .witnessSend => Sys2Proof.Machine.execWitnessSend s
  | .witnessReceive p c bytes => Sys2Proof.Machine.execWitnessReceive p c bytes s
  | .pairDecide line => Sys2Proof.Machine.execPairDecide line s
  | .claimWaitEnd line => Sys2Proof.Machine.execClaimWaitEnd line s
  | .claimProbe line => Sys2Proof.Machine.execClaimProbe line s
  | .handover w auto v => Sys2Proof.Machine.execHandover w auto v s
  | .grantReceive past => Sys2Proof.Machine.execGrantReceive past s
  | .handoverSwitch => Sys2Proof.Machine.execHandoverSwitch s
  | .handoverProbe line => Sys2Proof.Machine.execHandoverProbe line s
  | .pathSilentSweep p => Sys2Proof.Machine.execPathSilentSweep p s
  | .pairTblRead w p v => Sys2Proof.Machine.execPairTblRead w p v s
  | .pairTblWrite w p v => Sys2Proof.Machine.execPairTblWrite w p v s
  | .wakeReqWrite w p k v => Sys2Proof.Machine.execWakeReqWrite w p k v s
  | .pnWake k => Sys2Proof.Machine.execPnWake k s
  | .pnSleep k => Sys2Proof.Machine.execPnSleep k s
  | .keepalivePnSend k => Sys2Proof.Machine.execKeepalivePnSend k s
  | .keepalivePnSeen gf m => Sys2Proof.Machine.execKeepalivePnSeen gf m s
  | .tokenOriginate => Sys2Proof.Machine.execTokenOriginate s
  | .tokenPass => Sys2Proof.Machine.execTokenPass s
  | .tokenReturn => Sys2Proof.Machine.execTokenReturn s
  | .tokenLost => Sys2Proof.Machine.execTokenLost s
  | .noticeEnd => Sys2Proof.Machine.execNoticeEnd s
  | .sleepEntry => Sys2Proof.Machine.execSleepEntry s
  | .sleepOff => Sys2Proof.Machine.execSleepOff s
  | .wakeSource d src on => Sys2Proof.Machine.execWakeSource d src on s
  | .wakeStart v => Sys2Proof.Machine.execWakeStart v s
  | .wakeTimer => Sys2Proof.Machine.execWakeTimer s
  | .xcvrWakeDetect d u kind rate bytes => Sys2Proof.Machine.execXcvrWakeDetect d u kind rate bytes s
  | .wakeFailsafe d u => Sys2Proof.Machine.execWakeFailsafe d u s
  | .confirm w p v => Sys2Proof.Machine.execConfirm w p v s
  | .wakeValidityTimeout => Sys2Proof.Machine.execWakeValidityTimeout s
  | .sourceRearm d src => Sys2Proof.Machine.execSourceRearm d src s
  | .rearm w d v => Sys2Proof.Machine.execRearm w d v s
  | .wakePatternSlot => Sys2Proof.Machine.execWakePatternSlot s
  | .admissionRequest d c => Sys2Proof.Machine.execAdmissionRequest d c s
  | .admissionWindowExpire => Sys2Proof.Machine.execAdmissionWindowExpire s
  | .admSlow => Sys2Proof.Machine.execAdmSlow s
  | .chnCmd w d c v => Sys2Proof.Machine.execChnCmd w d c v s
  | .channelGrant d c => Sys2Proof.Machine.execChannelGrant d c s
  | .rampDone d c => Sys2Proof.Machine.execRampDone d c s
  | .shortDetect d c => Sys2Proof.Machine.execShortDetect d c s
  | .limitHeld d c => Sys2Proof.Machine.execLimitHeld d c s
  | .retryBackoffEnd d c => Sys2Proof.Machine.execRetryBackoffEnd d c s
  | .dtTrip d c => Sys2Proof.Machine.execDtTrip d c s
  | .guardWarn d c => Sys2Proof.Machine.execGuardWarn d c s
  | .guardTrip d c => Sys2Proof.Machine.execGuardTrip d c s
  | .coolEnd d c tj => Sys2Proof.Machine.execCoolEnd d c tj s
  | .guardEnd d ch => Sys2Proof.Machine.execGuardEnd d ch s
  | .hardTrip d c => Sys2Proof.Machine.execHardTrip d c s
  | .logicHot d => Sys2Proof.Machine.execLogicHot d s
  | .caseFault d a b => Sys2Proof.Machine.execCaseFault d a b s
  | .caseFaultEnd d a b => Sys2Proof.Machine.execCaseFaultEnd d a b s
  | .clampEventEnd d c e => Sys2Proof.Machine.execClampEventEnd d c e s
  | .clampRefill d => Sys2Proof.Machine.execClampRefill d s
  | .clearFault w d c v => Sys2Proof.Machine.execClearFault w d c v s
  | .unlock w d c v => Sys2Proof.Machine.execUnlock w d c v s
  | .selftest w d c v => Sys2Proof.Machine.execSelftest w d c v s
  | .selftestEnd d c pass => Sys2Proof.Machine.execSelftestEnd d c pass s
  | .cal w d c v => Sys2Proof.Machine.execCal w d c v s
  | .calDone d c mean vary => Sys2Proof.Machine.execCalDone d c mean vary s
  | .openLoad d c onset => Sys2Proof.Machine.execOpenLoad d c onset s
  | .currentSample d c idx tj a b lim => Sys2Proof.Machine.execCurrentSample d c idx tj a b lim s
  | .diePowerEstimate d => Sys2Proof.Machine.execDiePowerEstimate d s
  | .inputStateChange d idx mv entry => Sys2Proof.Machine.execInputStateChange d idx mv entry s
  | .wetFault d idx => Sys2Proof.Machine.execWetFault d idx s
  | .limpNAssert d => Sys2Proof.Machine.execLimpNAssert d s
  | .heartbeatLost d => Sys2Proof.Machine.execHeartbeatLost d s
  | .pinholeTurnOn d => Sys2Proof.Machine.execPinholeTurnOn d s
  | .ack w d v => Sys2Proof.Machine.execAck w d v s
  | .takeoverHoldEnd d c => Sys2Proof.Machine.execTakeoverHoldEnd d c s
  | .partitionStart p k => Sys2Proof.Machine.execPartitionStart p k s
  | .slotSwitch p c => Sys2Proof.Machine.execSlotSwitch p c s
  | .partitionHalt p k cause => Sys2Proof.Machine.execPartitionHalt p k cause s
  | .partitionRestart p k answers => Sys2Proof.Machine.execPartitionRestart p k answers s
  | .pcmdHalt w p v => Sys2Proof.Machine.execPcmdHalt w p v s
  | .pcmdRestart w p v => Sys2Proof.Machine.execPcmdRestart w p v s
  | .watchdogKick w p k v => Sys2Proof.Machine.execWatchdogKick w p k v s
  | .watchdogExpiry p k => Sys2Proof.Machine.execWatchdogExpiry p k s
  | .skick w p v => Sys2Proof.Machine.execSkick w p v s
  | .safetyWdtExpiry p => Sys2Proof.Machine.execSafetyWdtExpiry p s
  | .lockstepMismatch p => Sys2Proof.Machine.execLockstepMismatch p s
  | .mgmtLoad p c hart loc width => Sys2Proof.Machine.execMgmtLoad p c hart loc width s
  | .mgmtStore p c hart loc width v => Sys2Proof.Machine.execMgmtStore p c hart loc width v s
  | .signalViewLoad p c hart loc width => Sys2Proof.Machine.execSignalViewLoad p c hart loc width s
  | .txRingProd w mem p k v => Sys2Proof.Machine.execTxRingProd w mem p k v s
  | .txDescriptor p => Sys2Proof.Machine.execTxDescriptor p s
  | .maxOnExpire p n => Sys2Proof.Machine.execMaxOnExpire p n s
  | .interruptDelivery p => Sys2Proof.Machine.execInterruptDelivery p s
  | .irqPop w p k => Sys2Proof.Machine.execIrqPop w p k s
  | .aprRd w p v => Sys2Proof.Machine.execAprRd w p v s
  | .keepaliveSend => Sys2Proof.Machine.execKeepaliveSend s
  | .keepaliveReceive past => Sys2Proof.Machine.execKeepaliveReceive past s
  | .censusAge => Sys2Proof.Machine.execCensusAge s
  | .canKeepaliveReceive p c bytes => Sys2Proof.Machine.execCanKeepaliveReceive p c bytes s
  | .hello p f recv => Sys2Proof.Machine.execHello p f recv s
  | .helloLoss p f => Sys2Proof.Machine.execHelloLoss p f s
  | .credit p f recv => Sys2Proof.Machine.execCredit p f recv s
  | .request past => Sys2Proof.Machine.execRequest past s
  | .reply past => Sys2Proof.Machine.execReply past s
  | .bootReq past => Sys2Proof.Machine.execBootReq past s
  | .bootOffer => Sys2Proof.Machine.execBootOffer s
  | .chunkReq past => Sys2Proof.Machine.execChunkReq past s
  | .chunk => Sys2Proof.Machine.execChunk s
  | .chunkTimeout idx => Sys2Proof.Machine.execChunkTimeout idx s
  | .dtCmdRead w v => Sys2Proof.Machine.execDtCmdRead w v s
  | .dtCmdRemove w v => Sys2Proof.Machine.execDtCmdRemove w v s
  | .loupeSample p m v taken => Sys2Proof.Machine.execLoupeSample p m v taken s
  | .snapCmdSnapshot w p v => Sys2Proof.Machine.execSnapCmdSnapshot w p v s
  | .snapCmdSnapshotClear w p v => Sys2Proof.Machine.execSnapCmdSnapshotClear w p v s
  | .feedVal w p v => Sys2Proof.Machine.execFeedVal w p v s
  | .mcfgWrite w p m j v => Sys2Proof.Machine.execMcfgWrite w p m j v s
  | .recorderLinkUp p width speed => Sys2Proof.Machine.execRecorderLinkUp p width speed s
  | .recorderLinkTimeout p => Sys2Proof.Machine.execRecorderLinkTimeout p s
  | .recorderInitDone p ready lba blocks => Sys2Proof.Machine.execRecorderInitDone p ready lba blocks s
  | .recorderResume p a b heads => Sys2Proof.Machine.execRecorderResume p a b heads s
  | .recordTake p => Sys2Proof.Machine.execRecordTake p s
  | .chunkWrite p => Sys2Proof.Machine.execChunkWrite p s
  | .recorderFlush p => Sys2Proof.Machine.execRecorderFlush p s
  | .nvmeCompletion p idx kind status => Sys2Proof.Machine.execNvmeCompletion p idx kind status s
  | .triggerTake p => Sys2Proof.Machine.execTriggerTake p s
  | .episodeClose p => Sys2Proof.Machine.execEpisodeClose p s
  | .trigger w p v => Sys2Proof.Machine.execTrigger w p v s
  | .restart w p v => Sys2Proof.Machine.execRestart w p v s
  | .release w p v => Sys2Proof.Machine.execRelease w p v s
  | .rdCmd w p v => Sys2Proof.Machine.execRdCmd w p v s
  | .rdCmdDone p ok data => Sys2Proof.Machine.execRdCmdDone p ok data s
  | .prismHeartbeat d => Sys2Proof.Machine.execPrismHeartbeat d s
  | .limpNRelease d => Sys2Proof.Machine.execLimpNRelease d s
  | .pauseOverrideEnd p f c => Sys2Proof.Machine.execPauseOverrideEnd p f c s
  | .xcvrThermalRelease d u => Sys2Proof.Machine.execXcvrThermalRelease d u s
  | .recorderLinkLost p => Sys2Proof.Machine.execRecorderLinkLost p s
  | .wakeReportTimeout d => Sys2Proof.Machine.execWakeReportTimeout d s
  | .retryCountReset d c => Sys2Proof.Machine.execRetryCountReset d c s
  | .linWakeScheduleRestart p c => Sys2Proof.Machine.execLinWakeScheduleRestart p c s

end Sys2Proof.Machine
end

