-- ==== Sys2Proof/Machine/Idle.lean ====
section
/-! DEFINITION. What the block does with no command waiting: one edge of the slow clock passes (log entry 101). -/

namespace Sys2Proof.Machine

/-- The blocks spilled and fetched in the slow-clock period that ends become those of the last period (R289). -/
def Act.rollRate (p : Nat) : Act := Act.modRate p fun u => (0, 0, u.1, u.2.1)

/-- VCORE of Prism die p, measured at a slow-clock edge: the spec fixes no voltage, so it is a free value; NOW takes it, and MIN is
the least since the last reset (R191, log entry 1). -/
def Act.measureVcore (p : Nat) : Act :=
  Act.freeBelow 65536 fun mv => Act.setPsup p fun u => { u with vcore := mv, vcoreMin := min u.vcoreMin mv }

/-- One slow-clock edge: the edge count rises; from step 6 the die times advance by one period (R371) and VCORE is measured
(R191). -/
def idle : Act :=
  Act.seq (Act.upd fun s => { s with edges := s.edges + 1 })
    (Act.get fun s =>
      Act.when (6 ≤ s.start.step)
        (Act.all [
          Act.passEdge,
          Act.rollTallies,
          Act.each s.prismDies (fun p => Act.all [Act.cadencesSettle p, Act.rollRate p, Act.measureVcore p])]))

end Sys2Proof.Machine
end

