-- ==== Sys2Proof/WellFormed.lean ====
section
/-! DEFINITION. The commands that name a part of the device: dies, facets, controllers, slots and values within the ranges that the
spec gives them. A command outside them has no effect (log entry 100). -/

namespace Sys2Proof

/-- The sender's numbers lie in their ranges (R654). -/
def Sender.ok : Sender → Bool
  | .hart p c h => decide (p < 4) && decide (c < 7) && decide (h < 7)
  | _ => true

/-- The operands of a command lie in their ranges. -/
def Instr.wellFormed : Instr → Bool
  | .powerOn d _ boot clk => decide (d < 4) && decide (boot < 4) && decide (clk < 4)
  | .powerOnReset d _ => decide (d < 4)
  | .vbatResetRelease _ => true
  | .vbatLow _ => true
  | .sagWarning d _ => decide (d < 4)
  | .sagEnd d _ => decide (d < 4)
  | .ovWarn d _ => decide (d < 4)
  | .ovWarnEnd d _ => decide (d < 4)
  | .ovOpen d _ => decide (d < 4)
  | .ovEnd d _ => decide (d < 4)
  | .stageSuccess _ => true
  | .stageFail k => decide (k < 4)
  | .regulatorRetry => true
  | .pgLost k => decide (k < 4)
  | .coreDroop p _ => decide (p < 4)
  | .coreDroopEnd p _ => decide (p < 4)
  | .vcoreRegulatorFail p _ => decide (p < 4)
  | .resetNAssert => true
  | .resetNRelease boot clk => decide (boot < 4) && decide (clk < 4)
  | .prismThermalShutdown p => decide (p < 4)
  | .thermalHoldEnd => true
  | .prismThermalWarn p => decide (p < 4)
  | .prismThermalWarnEnd p => decide (p < 4)
  | .clockReady => true
  | .clockTimeout => true
  | .clockLost => true
  | .dieToDieLinkLost p j => decide (p < 4) && decide (j < 3)
  | .driveLinkLost d _ => decide (d < 4)
  | .driveLinkResume d => decide (d < 4)
  | .slowEdgeLost mask => decide (mask < 256)
  | .parityScrub _ _ _ => true
  | .imageKeyUnwrap _ => true
  | .epochAreaRead _ => true
  | .slotExamine _ => true
  | .configDistribution => true
  | .epochWrite _ _ _ _ => true
  | .otherSlotCheck _ => true
  | .canLinEnable => true
  | .ethernetEnable => true
  | .fwSectionDone _ => true
  | .serviceEntry => true
  | .epochBackgroundErase _ => true
  | .imgCmdRaiseFloor w v => w.ok && decide (v < 2 ^ 48)
  | .imgCmdSetPrefer w v => w.ok && decide (v < 2 ^ 48)
  | .imgCmdDone _ _ _ _ => true
  | .netBootRequest => true
  | .netBootOff => true
  | .netImageReceived => true
  | .nop tag => decide (tag < 256)
  | .read tag addr data => decide (tag < 256) && decide (addr < 2 ^ 40) && decide (data < 2 ^ 48)
  | .write tag addr data => decide (tag < 256) && decide (addr < 2 ^ 40) && decide (data < 2 ^ 48)
  | .peerStatus tag addr data => decide (tag < 256) && decide (addr < 2 ^ 40) && decide (data < 2 ^ 48)
  | .reset tag addr data => decide (tag < 256) && decide (addr < 2 ^ 40) && decide (data < 2 ^ 48)
  | .imageBegin tag addr data => decide (tag < 256) && decide (addr < 2 ^ 40) && decide (data < 2 ^ 48)
  | .imageData tag addr _ => decide (tag < 256) && decide (addr < 2 ^ 40)
  | .imageEnd tag addr data => decide (tag < 256) && decide (addr < 2 ^ 40) && decide (data < 2 ^ 48)
  | .flashErase tag addr data => decide (tag < 256) && decide (addr < 2 ^ 40) && decide (data < 2 ^ 48)
  | .flashProgram tag addr _ => decide (tag < 256) && decide (addr < 2 ^ 40)
  | .flashRead tag addr len => decide (tag < 256) && decide (addr < 2 ^ 40) && decide (len < 65536)
  | .flashOpDone _ => true
  | .badFrame _ => true
  | .spiAbortedCommand _ => true
  | .eyepieceEthRequest => true
  | .slowFetchDone i _ => decide (i < 2)
  | .pendingEntryExpire i _ => decide (i < 2)
  | .remoteTimeout i _ => decide (i < 2)
  | .postedWriteEffect d b => decide (d < 8) && decide (b < 256)
  | .compatViewRefresh => true
  | .blockEnable w d b v => w.ok && decide (d < 8) && decide (b < 256) && decide (v < 2 ^ 48)
  | .blockDisable w d b v => w.ok && decide (d < 8) && decide (b < 256) && decide (v < 2 ^ 48)
  | .clearBySequence w a seq => w.ok && decide (a < 2 ^ 24) && decide (seq < 256)
  | .registerWrite w a v => w.ok && decide (a < 2 ^ 24) && decide (v < 2 ^ 48)
  | .supMinmaxClear w d v => w.ok && decide (d < 4) && decide (v < 2 ^ 48)
  | .vbatSample d _ => decide (d < 4)
  | .frameAdmission p f => decide (p < 4) && decide (f < 64)
  | .admissionRetry p f c => decide (p < 4) && decide (f < 64) && decide (c < 8)
  | .frameEntry p => decide (p < 4)
  | .d2dCellReceive p j c => decide (p < 4) && decide (j < 3) && decide (c < 8)
  | .d2dCreditReturn p j c => decide (p < 4) && decide (j < 3) && decide (c < 8)
  | .d2dCreditViolation p j c => decide (p < 4) && decide (j < 3) && decide (c < 8)
  | .cellCheckFailure p f c place k _ _ => decide (p < 4) && decide (f < 64) && decide (c < 8) && decide (place < 4) && decide (k < 36)
  | .stormTimeout p f c => decide (p < 4) && decide (f < 64) && decide (c < 8)
  | .stalledCell p => decide (p < 4)
  | .paceSample p _ => decide (p < 4)
  | .repCmdRead w p v => w.ok && decide (p < 4) && decide (v < 2 ^ 48)
  | .repCmdWrite w p v => w.ok && decide (p < 4) && decide (v < 2 ^ 48)
  | .fabClrMax w p v => w.ok && decide (p < 4) && decide (v < 2 ^ 48)
  | .egressSelect p f => decide (p < 4) && decide (f < 64)
  | .facetDownFlush p f => decide (p < 4) && decide (f < 64)
  | .flushCmd w p v => w.ok && decide (p < 4) && decide (v < 2 ^ 48)
  | .flushDone p => decide (p < 4)
  | .spillBlock p q _ => decide (p < 4) && decide (q < 16384)
  | .fetchBlock p q err cell => decide (p < 4) && decide (q < 16384) && decide (err < 3) && decide (cell < 8)
  | .cqDataRead w p n => w.ok && decide (p < 4) && decide (n < 64)
  | .dropRest w p n v => w.ok && decide (p < 4) && decide (n < 64) && decide (v < 2 ^ 48)
  | .qCmdRead w p v => w.ok && decide (p < 4) && decide (v < 2 ^ 48)
  | .qCmdWrite w p v => w.ok && decide (p < 4) && decide (v < 2 ^ 48)
  | .frameLookup p f _ => decide (p < 4) && decide (f < 64)
  | .learnNoticeReceive p j _ => decide (p < 4) && decide (j < 3)
  | .ageingSweep p => decide (p < 4)
  | .lpmInsert w p v => w.ok && decide (p < 4) && decide (v < 2 ^ 48)
  | .lpmDelete w p v => w.ok && decide (p < 4) && decide (v < 2 ^ 48)
  | .lpmFind w p v => w.ok && decide (p < 4) && decide (v < 2 ^ 48)
  | .tdmaRead w mem p k v => w.ok && (mem.all fun e => decide (e.1 < 2 ^ 64) && decide (e.2 < 2 ^ 64)) && decide (p < 4) && decide (k < 4) && decide (v < 2 ^ 48)
  | .tdmaWrite w mem p k v => w.ok && (mem.all fun e => decide (e.1 < 2 ^ 64) && decide (e.2 < 2 ^ 64)) && decide (p < 4) && decide (k < 4) && decide (v < 2 ^ 48)
  | .tdmaFind w mem p k v => w.ok && (mem.all fun e => decide (e.1 < 2 ^ 64) && decide (e.2 < 2 ^ 64)) && decide (p < 4) && decide (k < 4) && decide (v < 2 ^ 48)
  | .tdmaInsert w mem p k v => w.ok && (mem.all fun e => decide (e.1 < 2 ^ 64) && decide (e.2 < 2 ^ 64)) && decide (p < 4) && decide (k < 4) && decide (v < 2 ^ 48)
  | .tdmaDelete w mem p k v => w.ok && (mem.all fun e => decide (e.1 < 2 ^ 64) && decide (e.2 < 2 ^ 64)) && decide (p < 4) && decide (k < 4) && decide (v < 2 ^ 48)
  | .tdmaJobDone p j => decide (p < 4) && decide (j < 4)
  | .tdmaLockExpire p t r => decide (p < 4) && decide (t < 8) && decide (r < 32)
  | .gclConfigChange w p f v => w.ok && decide (p < 4) && decide (f < 32) && decide (v < 2 ^ 48)
  | .gclSwitch p f => decide (p < 4) && decide (f < 32)
  | .gateEntryBegin p f => decide (p < 4) && decide (f < 32)
  | .ethReceive p f _ _ _ _ _ => decide (p < 4) && decide (f < 32)
  | .pauseReceive p f _ => decide (p < 4) && decide (f < 32)
  | .pauseExpire p f c => decide (p < 4) && decide (f < 32) && decide (c < 8)
  | .pauseLimit p f c => decide (p < 4) && decide (f < 32) && decide (c < 8)
  | .xoffCross p f => decide (p < 4) && decide (f < 32)
  | .xonCross p f => decide (p < 4) && decide (f < 32)
  | .pauseRefresh p f => decide (p < 4) && decide (f < 32)
  | .ethTransmit p f _ _ _ => decide (p < 4) && decide (f < 32)
  | .txAbort p f _ _ => decide (p < 4) && decide (f < 32)
  | .linkUp p f _ => decide (p < 4) && decide (f < 32)
  | .linkDown p f _ _ _ => decide (p < 4) && decide (f < 32)
  | .plcaBeaconLost p f => decide (p < 4) && decide (f < 32)
  | .plcaBeacon p f => decide (p < 4) && decide (f < 32)
  | .mdioC45Address w p f v => w.ok && decide (p < 4) && decide (f < 32) && decide (v < 2 ^ 48)
  | .mdioC45Write w p f v => w.ok && decide (p < 4) && decide (f < 32) && decide (v < 2 ^ 48)
  | .mdioC45Read w p f v => w.ok && decide (p < 4) && decide (f < 32) && decide (v < 2 ^ 48)
  | .mdioC22Write w p f v => w.ok && decide (p < 4) && decide (f < 32) && decide (v < 2 ^ 48)
  | .mdioC22Read w p f v => w.ok && decide (p < 4) && decide (f < 32) && decide (v < 2 ^ 48)
  | .mdioDone p bus data _ => decide (p < 4) && decide (bus < 2) && decide (data < 65536)
  | .snap w p f v => w.ok && decide (p < 4) && decide (f < 32) && decide (v < 2 ^ 48)
  | .restartAn w p f v => w.ok && decide (p < 4) && decide (f < 32) && decide (v < 2 ^ 48)
  | .txtsPop w p f => w.ok && decide (p < 4) && decide (f < 32)
  | .timeMark _ => true
  | .timeRateWrite w p v => w.ok && decide (p < 4) && decide (v < 2 ^ 48)
  | .timeStepWrite w p v => w.ok && decide (p < 4) && decide (v < 2 ^ 48)
  | .commit w p v => w.ok && decide (p < 4) && decide (v < 2 ^ 48)
  | .ptpNowRead w p => w.ok && decide (p < 4)
  | .timeCapture _ => true
  | .ppsPulse => true
  | .canReceive p c _ _ _ => decide (p < 4) && decide (c < 16)
  | .canTransmitDone p c _ _ => decide (p < 4) && decide (c < 16)
  | .canArbitrationLost p c => decide (p < 4) && decide (c < 16)
  | .canError p c _ _ _ _ _ _ => decide (p < 4) && decide (c < 16)
  | .canIntegrated p c => decide (p < 4) && decide (c < 16)
  | .canRecover w p c v => w.ok && decide (p < 4) && decide (c < 16) && decide (v < 2 ^ 48)
  | .canRecoveryDone p c => decide (p < 4) && decide (c < 16)
  | .abortTx w p c v => w.ok && decide (p < 4) && decide (c < 16) && decide (v < 2 ^ 48)
  | .filtCmdRead w p c v => w.ok && decide (p < 4) && decide (c < 16) && decide (v < 2 ^ 48)
  | .filtCmdWrite w p c v => w.ok && decide (p < 4) && decide (c < 16) && decide (v < 2 ^ 48)
  | .acCmdRead w p c v => w.ok && decide (p < 4) && decide (c < 16) && decide (v < 2 ^ 48)
  | .acCmdFind w p c v => w.ok && decide (p < 4) && decide (c < 16) && decide (v < 2 ^ 48)
  | .acCmdEmpty w p c v => w.ok && decide (p < 4) && decide (c < 16) && decide (v < 2 ^ 48)
  | .acAgeSweep p c => decide (p < 4) && decide (c < 16)
  | .linSlot p c _ _ _ => decide (p < 4) && decide (c < 8)
  | .linResponse p c _ _ _ => decide (p < 4) && decide (c < 8)
  | .linBusFault p c _ => decide (p < 4) && decide (c < 8)
  | .linPublish p c => decide (p < 4) && decide (c < 8)
  | .linSwitch w p c v => w.ok && decide (p < 4) && decide (c < 8) && decide (v < 2 ^ 48)
  | .linStop w p c v => w.ok && decide (p < 4) && decide (c < 8) && decide (v < 2 ^ 48)
  | .linGotosleep w p c v => w.ok && decide (p < 4) && decide (c < 8) && decide (v < 2 ^ 48)
  | .schedCmdRead w p c v => w.ok && decide (p < 4) && decide (c < 8) && decide (v < 2 ^ 48)
  | .schedCmdWrite w p c v => w.ok && decide (p < 4) && decide (c < 8) && decide (v < 2 ^ 48)
  | .pubCmdRead w p c v => w.ok && decide (p < 4) && decide (c < 8) && decide (v < 2 ^ 48)
  | .pubCmdWrite w p c v => w.ok && decide (p < 4) && decide (c < 8) && decide (v < 2 ^ 48)
  | .txdTimeout d u _ => decide (d < 4) && decide (u < 12)
  | .busDom d u => decide (d < 4) && decide (u < 12)
  | .xcvrThermal d u => decide (d < 4) && decide (u < 12)
  | .linSupHigh d => decide (d < 4)
  | .linSupOk d => decide (d < 4)
  | .xcvrModeChange d u => decide (d < 4) && decide (u < 12)
  | .sgwFrame p _ => decide (p < 4)
  | .tpTimerExpire p c sa da _ => decide (p < 4) && decide (c < 16) && decide (sa < 256) && decide (da < 256)
  | .pduCadence p i _ => decide (p < 4) && decide (i < 4096)
  | .pduChangeCompose p i _ => decide (p < 4) && decide (i < 4096)
  | .tunnelSend p t => decide (p < 4) && decide (t < 256)
  | .measurementWrite d _ _ => decide (d < 4)
  | .signalSweep p => decide (p < 4)
  | .beamCmdRead w p v => w.ok && decide (p < 4) && decide (v < 2 ^ 48)
  | .beamCmdFind w p v => w.ok && decide (p < 4) && decide (v < 2 ^ 48)
  | .beamCmdInsert w p v => w.ok && decide (p < 4) && decide (v < 2 ^ 48)
  | .beamCmdDelete w p v => w.ok && decide (p < 4) && decide (v < 2 ^ 48)
  | .tblCmdRead w p v => w.ok && decide (p < 4) && decide (v < 2 ^ 48)
  | .tblCmdWrite w p v => w.ok && decide (p < 4) && decide (v < 2 ^ 48)
  | .sigCmdRead w p v => w.ok && decide (p < 4) && decide (v < 2 ^ 48)
  | .sigCmdWrite w p v => w.ok && decide (p < 4) && decide (v < 2 ^ 48)
  | .windowLoad p c _ n k _ _ => decide (p < 4) && decide (c < 7) && decide (n < 256) && decide (k < 8192)
  | .windowStore p c _ n k _ _ v => decide (p < 4) && decide (c < 7) && decide (n < 256) && decide (k < 8192) && decide (v < 2 ^ 48)
  | .windowReadReply p _ _ => decide (p < 4)
  | .postedWriteDone p _ _ => decide (p < 4)
  | .lockedRead p c _ n k _ _ => decide (p < 4) && decide (c < 7) && decide (n < 256) && decide (k < 8192)
  | .windowLockExpire p _ _ => decide (p < 4)
  | .windowPendingExpire p _ => decide (p < 4)
  | .keyDemand p n => decide (p < 4) && decide (n < 1024)
  | .keyLoadDone p n => decide (p < 4) && decide (n < 1024)
  | .keyPreload p => decide (p < 4)
  | .load w p v => w.ok && decide (p < 4) && decide (v < 2 ^ 48)
  | .derive w p v => w.ok && decide (p < 4) && decide (v < 2 ^ 48)
  | .unwrap w p v => w.ok && decide (p < 4) && decide (v < 2 ^ 48)
  | .wrap w p v => w.ok && decide (p < 4) && decide (v < 2 ^ 48)
  | .generate w p v => w.ok && decide (p < 4) && decide (v < 2 ^ 48)
  | .clear w p v => w.ok && decide (p < 4) && decide (v < 2 ^ 48)
  | .wrapRoot w p v => w.ok && decide (p < 4) && decide (v < 2 ^ 48)
  | .keyOpDone p => decide (p < 4)
  | .resilverPass p => decide (p < 4)
  | .resilverSlotUses p n => decide (p < 4) && decide (n < 1024)
  | .rngHealthFail p => decide (p < 4)
  | .rngStop p => decide (p < 4)
  | .rngRestart p _ => decide (p < 4)
  | .drbgReseed p => decide (p < 4)
  | .tamperAssert m => decide (m < 8)
  | .tamperSeen m => decide (m < 8)
  | .provision w p v => w.ok && decide (p < 4) && decide (v < 2 ^ 48)
  | .restore w p v => w.ok && decide (p < 4) && decide (v < 2 ^ 48)
  | .rekey w p v => w.ok && decide (p < 4) && decide (v < 2 ^ 48)
  | .renew w p v => w.ok && decide (p < 4) && decide (v < 2 ^ 48)
  | .provCmdDone p _ _ _ _ => decide (p < 4)
  | .ciphJobStart w mem p k v => w.ok && (mem.all fun e => decide (e.1 < 2 ^ 64) && decide (e.2 < 2 ^ 64)) && decide (p < 4) && decide (k < 4) && decide (v < 2 ^ 48)
  | .ciphJobDone p c _ => decide (p < 4) && decide (c < 4)
  | .cipherFlow p _ => decide (p < 4)
  | .saCmdRead w p v => w.ok && decide (p < 4) && decide (v < 2 ^ 48)
  | .saCmdWrite w p v => w.ok && decide (p < 4) && decide (v < 2 ^ 48)
  | .profCmdRead w p v => w.ok && decide (p < 4) && decide (v < 2 ^ 48)
  | .profCmdWrite w p v => w.ok && decide (p < 4) && decide (v < 2 ^ 48)
  | .fvCmdRead w p v => w.ok && decide (p < 4) && decide (v < 2 ^ 48)
  | .fvCmdClearRef w p v => w.ok && decide (p < 4) && decide (v < 2 ^ 48)
  | .sealBeacon p i _ => decide (p < 4) && decide (i < 4096)
  | .pairHeartbeatSend => true
  | .pairHeartbeatReceive _ => true
  | .pairLinkLoss _ => true
  | .pairJoin _ => true
  | .witnessSend => true
  | .witnessReceive p c _ => decide (p < 4) && decide (c < 16)
  | .pairDecide _ => true
  | .claimWaitEnd _ => true
  | .claimProbe _ => true
  | .handover w _ v => w.ok && decide (v < 2 ^ 48)
  | .grantReceive _ => true
  | .handoverSwitch => true
  | .handoverProbe _ => true
  | .pathSilentSweep p => decide (p < 4)
  | .pairTblRead w p v => w.ok && decide (p < 4) && decide (v < 2 ^ 48)
  | .pairTblWrite w p v => w.ok && decide (p < 4) && decide (v < 2 ^ 48)
  | .wakeReqWrite w p k v => w.ok && decide (p < 4) && decide (k < 17) && decide (v < 2 ^ 48)
  | .pnWake k => decide (k < 16)
  | .pnSleep k => decide (k < 16)
  | .keepalivePnSend k => decide (k < 16)
  | .keepalivePnSeen gf _ => decide (gf < 256)
  | .tokenOriginate => true
  | .tokenPass => true
  | .tokenReturn => true
  | .tokenLost => true
  | .noticeEnd => true
  | .sleepEntry => true
  | .sleepOff => true
  | .wakeSource d src _ => decide (d < 4) && decide (src < 40)
  | .wakeStart _ => true
  | .wakeTimer => true
  | .xcvrWakeDetect d u kind _ _ => decide (d < 4) && decide (u < 12) && decide (kind < 3)
  | .wakeFailsafe d u => decide (d < 4) && decide (u < 12)
  | .confirm w p v => w.ok && decide (p < 4) && decide (v < 2 ^ 48)
  | .wakeValidityTimeout => true
  | .sourceRearm d src => decide (d < 4) && decide (src < 40)
  | .rearm w d v => w.ok && decide (d < 4) && decide (v < 2 ^ 48)
  | .wakePatternSlot => true
  | .admissionRequest d c => decide (d < 4) && decide (c < 28)
  | .admissionWindowExpire => true
  | .admSlow => true
  | .chnCmd w d c v => w.ok && decide (d < 4) && decide (c < 28) && decide (v < 2 ^ 48)
  | .channelGrant d c => decide (d < 4) && decide (c < 28)
  | .rampDone d c => decide (d < 4) && decide (c < 28)
  | .shortDetect d c => decide (d < 4) && decide (c < 28)
  | .limitHeld d c => decide (d < 4) && decide (c < 28)
  | .retryBackoffEnd d c => decide (d < 4) && decide (c < 28)
  | .dtTrip d c => decide (d < 4) && decide (c < 28)
  | .guardWarn d c => decide (d < 4) && decide (c < 28)
  | .guardTrip d c => decide (d < 4) && decide (c < 28)
  | .coolEnd d c _ => decide (d < 4) && decide (c < 28)
  | .guardEnd d _ => decide (d < 4)
  | .hardTrip d c => decide (d < 4) && decide (c < 28)
  | .logicHot d => decide (d < 4)
  | .caseFault d _ _ => decide (d < 4)
  | .caseFaultEnd d _ _ => decide (d < 4)
  | .clampEventEnd d c _ => decide (d < 4) && decide (c < 28)
  | .clampRefill d => decide (d < 4)
  | .clearFault w d c v => w.ok && decide (d < 4) && decide (c < 28) && decide (v < 2 ^ 48)
  | .unlock w d c v => w.ok && decide (d < 4) && decide (c < 28) && decide (v < 2 ^ 48)
  | .selftest w d c v => w.ok && decide (d < 4) && decide (c < 28) && decide (v < 2 ^ 48)
  | .selftestEnd d c _ => decide (d < 4) && decide (c < 28)
  | .cal w d c v => w.ok && decide (d < 4) && decide (c < 28) && decide (v < 2 ^ 48)
  | .calDone d c _ _ => decide (d < 4) && decide (c < 28)
  | .openLoad d c _ => decide (d < 4) && decide (c < 28)
  | .currentSample d c _ _ _ _ _ => decide (d < 4) && decide (c < 28)
  | .diePowerEstimate d => decide (d < 4)
  | .inputStateChange d i _ _ => decide (d < 4) && decide (i < 32)
  | .wetFault d i => decide (d < 4) && decide (i < 32)
  | .limpNAssert d => decide (d < 4)
  | .heartbeatLost d => decide (d < 4)
  | .pinholeTurnOn d => decide (d < 4)
  | .ack w d v => w.ok && decide (d < 4) && decide (v < 2 ^ 48)
  | .takeoverHoldEnd d c => decide (d < 4) && decide (c < 28)
  | .partitionStart p k => decide (p < 4) && decide (k < 16)
  | .slotSwitch p c => decide (p < 4) && decide (c < 7)
  | .partitionHalt p k _ => decide (p < 4) && decide (k < 16)
  | .partitionRestart p k _ => decide (p < 4) && decide (k < 16)
  | .pcmdHalt w p v => w.ok && decide (p < 4) && decide (v < 2 ^ 48)
  | .pcmdRestart w p v => w.ok && decide (p < 4) && decide (v < 2 ^ 48)
  | .watchdogKick w p k v => w.ok && decide (p < 4) && decide (k < 16) && decide (v < 2 ^ 48)
  | .watchdogExpiry p k => decide (p < 4) && decide (k < 16)
  | .skick w p v => w.ok && decide (p < 4) && decide (v < 2 ^ 48)
  | .safetyWdtExpiry p => decide (p < 4)
  | .lockstepMismatch p => decide (p < 4)
  | .mgmtLoad p c _ _ _ => decide (p < 4) && decide (c < 7)
  | .mgmtStore p c _ _ _ _ => decide (p < 4) && decide (c < 7)
  | .signalViewLoad p c _ _ _ => decide (p < 4) && decide (c < 7)
  | .txRingProd w mem p k v => w.ok && (mem.all fun e => decide (e.1 < 2 ^ 64) && decide (e.2 < 2 ^ 64)) && decide (p < 4) && decide (k < 16) && decide (v < 2 ^ 48)
  | .txDescriptor p => decide (p < 4)
  | .maxOnExpire p n => decide (p < 4) && decide (n < 128)
  | .interruptDelivery p => decide (p < 4)
  | .irqPop w p k => w.ok && decide (p < 4) && decide (k < 16)
  | .aprRd w p v => w.ok && decide (p < 4) && decide (v < 2 ^ 48)
  | .keepaliveSend => true
  | .keepaliveReceive _ => true
  | .censusAge => true
  | .canKeepaliveReceive p c _ => decide (p < 4) && decide (c < 16)
  | .hello p f _ => decide (p < 4) && decide (f < 64)
  | .helloLoss p f => decide (p < 4) && decide (f < 64)
  | .credit p f _ => decide (p < 4) && decide (f < 64)
  | .request _ => true
  | .reply _ => true
  | .bootReq _ => true
  | .bootOffer => true
  | .chunkReq _ => true
  | .chunk => true
  | .chunkTimeout _ => true
  | .dtCmdRead w v => w.ok && decide (v < 2 ^ 48)
  | .dtCmdRemove w v => w.ok && decide (v < 2 ^ 48)
  | .loupeSample p m v _ => decide (p < 4) && decide (m < 256) && decide (v < 2 ^ 48)
  | .snapCmdSnapshot w p v => w.ok && decide (p < 4) && decide (v < 2 ^ 48)
  | .snapCmdSnapshotClear w p v => w.ok && decide (p < 4) && decide (v < 2 ^ 48)
  | .feedVal w p v => w.ok && decide (p < 4) && decide (v < 2 ^ 48)
  | .mcfgWrite w p m j v => w.ok && decide (p < 4) && decide (m < 256) && decide (j < 4) && decide (v < 2 ^ 48)
  | .recorderLinkUp p _ _ => decide (p < 4)
  | .recorderLinkTimeout p => decide (p < 4)
  | .recorderInitDone p _ _ _ => decide (p < 4)
  | .recorderResume p _ _ _ => decide (p < 4)
  | .recordTake p => decide (p < 4)
  | .chunkWrite p => decide (p < 4)
  | .recorderFlush p => decide (p < 4)
  | .nvmeCompletion p _ _ _ => decide (p < 4)
  | .triggerTake p => decide (p < 4)
  | .episodeClose p => decide (p < 4)
  | .trigger w p v => w.ok && decide (p < 4) && decide (v < 2 ^ 48)
  | .restart w p v => w.ok && decide (p < 4) && decide (v < 2 ^ 48)
  | .release w p v => w.ok && decide (p < 4) && decide (v < 2 ^ 48)
  | .rdCmd w p v => w.ok && decide (p < 4) && decide (v < 2 ^ 48)
  | .rdCmdDone p _ _ => decide (p < 4)
  | .prismHeartbeat d => decide (d < 4)
  | .limpNRelease d => decide (d < 4)
  | .pauseOverrideEnd p f c => decide (p < 4) && decide (f < 32) && decide (c < 8)
  | .xcvrThermalRelease d u => decide (d < 4) && decide (u < 12)
  | .recorderLinkLost p => decide (p < 4)
  | .wakeReportTimeout d => decide (d < 4)
  | .retryCountReset d c => decide (d < 4) && decide (c < 28)
  | .linWakeScheduleRestart p c => decide (p < 4) && decide (c < 8)

end Sys2Proof
end

