-- ==== Sys2Proof/Safety.lean ====
section
/-! DEFINITION. What the statements speak of: a command that gives a next state, the invariant of the package, a host's
access that passes every check, the parts of the state that a command leaves alone. -/

namespace Sys2Proof.Machine

/-- The command gives a next state, and P holds of it. -/
def Gives (i : Instr) (s : State) (P : State → Prop) : Prop := ∃ t, exec i s = .next t ∧ P t

/-- The invariant: the register file, the tables, the firmware memory and the flash are in their canonical form, and every
reserved bit of every register is zero (R20). -/
structure State.Inv (s : State) : Prop where
  regs : regsOk s.regs = true
  tbls : Sparse.canon tblBlank s.tbls = true
  flash : Sparse.canon flashBlank s.flash = true
  mem : Sparse.canon memBlank s.mem = true

/-! ## Parts of the state -/

/-- The parts of the state that the frames speak of: the fields of State but the queue. -/
inductive Part where
  | fuse | regs | tbls | mem | flash | flashSize | evtNo | lockedRegs | onceRegs | upsets | mismatches | posted | compat | pends | eyeReset | irqs | seq | sup | prism | start | clk | ld | edges | sw | nets | gw | mon | sec | plx | io | cpu | out | freeCount
  deriving DecidableEq, Repr

/-- A part of the state is the same in two states. -/
def Part.Same : Part → State → State → Prop
  | .fuse, s, t => t.fuse = s.fuse
  | .regs, s, t => t.regs = s.regs
  | .tbls, s, t => t.tbls = s.tbls
  | .mem, s, t => t.mem = s.mem
  | .flash, s, t => t.flash = s.flash
  | .flashSize, s, t => t.flashSize = s.flashSize
  | .evtNo, s, t => t.evtNo = s.evtNo
  | .lockedRegs, s, t => t.lockedRegs = s.lockedRegs
  | .onceRegs, s, t => t.onceRegs = s.onceRegs
  | .upsets, s, t => t.upsets = s.upsets
  | .mismatches, s, t => t.mismatches = s.mismatches
  | .posted, s, t => t.posted = s.posted
  | .compat, s, t => t.compat = s.compat
  | .pends, s, t => t.pends = s.pends
  | .eyeReset, s, t => t.eyeReset = s.eyeReset
  | .irqs, s, t => t.irqs = s.irqs
  | .seq, s, t => t.seq = s.seq
  | .sup, s, t => t.sup = s.sup
  | .prism, s, t => t.prism = s.prism
  | .start, s, t => t.start = s.start
  | .clk, s, t => t.clk = s.clk
  | .ld, s, t => t.ld = s.ld
  | .edges, s, t => t.edges = s.edges
  | .sw, s, t => t.sw = s.sw
  | .nets, s, t => t.nets = s.nets
  | .gw, s, t => t.gw = s.gw
  | .mon, s, t => t.mon = s.mon
  | .sec, s, t => t.sec = s.sec
  | .plx, s, t => t.plx = s.plx
  | .io, s, t => t.io = s.io
  | .cpu, s, t => t.cpu = s.cpu
  | .out, s, t => t.out = s.out
  | .freeCount, s, t => t.freeCount = s.freeCount

/-- Every part but some. -/
def Part.allBut (l : List Part) : List Part :=
  [.fuse, .regs, .tbls, .mem, .flash, .flashSize, .evtNo, .lockedRegs, .onceRegs, .upsets, .mismatches, .posted, .compat, .pends, .eyeReset, .irqs, .seq, .sup, .prism, .start, .clk, .ld, .edges, .sw, .nets, .gw, .mon, .sec, .plx, .io, .cpu, .out, .freeCount].filter
    fun p => !l.contains p

/-- Each of some parts is among others. -/
abbrev Part.Sub (A B : List Part) : Prop := ∀ p ∈ A, p ∈ B

/-- No register but those listed changes. -/
def OnlyRegs (l : List Nat) (s t : State) : Prop := ∀ a, a ∉ l → t.reg a = s.reg a

/-- Register a holds v, reserved bits as zero (R20). -/
def Holds (t : State) (a : Nat) (v : Word) : Prop := t.reg a = v &&& regMask a

/-- The word of SC register a after an event in bit i: the bit set, SEQ one higher modulo 256 (R163). -/
def eventWord (s : State) (a i : Nat) : Word := fset (setBit (s.reg a) i) scSeq ((s.evtCount a + 1) % 256)

/-- Event i has been recorded in SC register a: its bit and SEQ as R163 says, and the bit remembers the event's number. -/
def Logged (a i : Nat) (s t : State) : Prop :=
  Holds t a (eventWord s a i) ∧ t.evtCount a = s.evtCount a + 1 ∧ t.evt a i = s.evtCount a + 1

/-- Statistics counter a stands n higher, modulo 2^48 (R243). -/
def Counted (a n : Nat) (s t : State) : Prop := Holds t a (s.reg a + BitVec.ofNat 48 n)

/-! ## A write that reaches its register -/

/-- Does a write of v to register a by an agent pass the checks that come before those of the register's Kind (R142, R155, R156,
R160, R176, R487, R782): a register there, no denial, no start in progress, its block not held by a lock, its drive link there, its
block's posted write done? -/
def State.gated (s : State) (ag : Agent) (a : Nat) (v : Word) : Bool :=
  s.regIs a && !s.denies ag a v && !(ag.outer && s.startBusy) && !(a == IMG.CMD 0 && s.start.step != 15) &&
    !(ag.outer && s.blockHeld (aDie a) (aBlk a)) && !s.writeCut a &&
    !(decide (4 ≤ aDie a) && blockSlow (aBlk a) && (s.postedAt (aDie a) (aBlk a)).isSome)

/-- Does it pass every check that comes before acceptance (R148, R153)? -/
def State.lands (s : State) (ag : Agent) (a : Nat) (v : Word) : Bool :=
  s.gated ag a v && !s.regLocked a && !((regRow a).any (fun w => w.kind == .cf) && s.enabled (aDie a) (aBlk a)) && !ignores a

/-- The agent of a host whose write is served at all: on SPI from step 6, on Ethernet once it is up and the rights allow writes. -/
def State.hostWriter (s : State) (w : Sender) : Option Agent :=
  match w with
  | .spi => if 6 ≤ s.start.step then some .spi else none
  | .eth => if s.start.ethDone = true ∧ s.ethAllows 2 = true then some .eth else none
  | .hart _ _ _ => none

/-- Bit i of the BLK_ERR of a's block has been set by an agent's access, with the register and the source, and no other register
has changed (R146). -/
def Flagged (a i : Nat) (ag : Agent) (s t : State) : Prop :=
  let e := BLK_ERR (aDie a) (aBlk a)
  Holds t e (fset (fset (eventWord s e i) BLK_ERR.REG (aReg a)) BLK_ERR.SRC ag.src) ∧ t.evtCount e = s.evtCount e + 1 ∧
    t.evt e i = s.evtCount e + 1 ∧ OnlyRegs [e] s t

/-- The BLOCK entry by which a store of v to register a by partition k of die p passes (R672, R674, R679): the first that matches,
its bucket not empty, its mask allowing v. -/
def State.blockEntry (s : State) (p k a : Nat) (v : Word) : Option Nat :=
  ((s.aprOf p k 4).find? fun e =>
    let w := s.apr p e 1
    fget w ⟨0, 3⟩ == aDie a && decide (fget w ⟨3, 8⟩ ≤ aBlk a) && decide (aBlk a ≤ fget w ⟨11, 8⟩) &&
      decide (fget w ⟨19, 13⟩ ≤ aReg a) && decide (aReg a ≤ fget w ⟨32, 13⟩) && !bit w 45).filter fun e =>
    (s.aprRate p e == 0 || decide (0 < s.aprNow p e)) && v &&& ~~~ s.apr p e 2 == 0

/-- The state after an action of cost 1 has passed entry e of die p: its bucket, where it has one, holds one action less (R674). -/
def State.charged (s : State) (p e : Nat) : State :=
  if s.aprRate p e = 0 then s
  else (Act.setAprLevel (4096 * p + e) (some (s.aprNow p e - (1 * 10 ^ 9 : Nat), s.time p))).run s

/-- The agent of a write of v to register a, and the state in which the write arrives, where it passes every check: the
state as it is for a host, and for a register that is the partition's own; with the entry's bucket charged for another store of
a hart. Stores to CHN.CMD and writing stores to SGW.SIG_CMD have rules of their own (R677, R679). -/
def State.arrives (s : State) (w : Sender) (a : Nat) (v : Word) : Option (Agent × State) :=
  match w with
  | .spi => if 6 ≤ s.start.step ∧ s.lands .spi a v = true then some (.spi, s) else none
  | .eth => if s.start.ethDone = true ∧ s.ethAllows 2 = true ∧ s.lands .eth a v = true then some (.eth, s) else none
  | .hart p c h =>
    match s.onCore p c with
    | none => none
    | some k =>
      if storeFree p c k a then (if s.lands (.fw p k c h) a v = true then some (.fw p k c h, s) else none)
      else if (loadTarget a).isSome = true ∨ (aBlk a = 0x60 ∧ aDie a < 4 ∧ aReg a = 0x18 ∧ fget v SGW.SIG_CMD.OP = 2) then none
      else
        match s.blockEntry p k a v with
        | none => none
        | some e => if (s.charged p e).lands (.fw p k c h) a v = true then some (.fw p k c h, s.charged p e) else none

/-- The agent of a write to register a, and the state in which it comes to the register's own checks: the state as it is for a host,
and for a register that is the partition's own; with the entry's bucket charged for another store of a hart that passes a BLOCK
entry. Stores to CHN.CMD and writing stores to SGW.SIG_CMD have rules of their own (R677, R679). -/
def State.offered (s : State) (w : Sender) (a : Nat) (v : Word) : Option (Agent × State) :=
  match w with
  | .spi => if 6 ≤ s.start.step then some (.spi, s) else none
  | .eth => if s.start.ethDone = true ∧ s.ethAllows 2 = true then some (.eth, s) else none
  | .hart p c h =>
    match s.onCore p c with
    | none => none
    | some k =>
      if storeFree p c k a then some (.fw p k c h, s)
      else if (loadTarget a).isSome = true ∨ (aBlk a = 0x60 ∧ aDie a < 4 ∧ aReg a = 0x18 ∧ fget v SGW.SIG_CMD.OP = 2) then none
      else (s.blockEntry p k a v).map fun e => (.fw p k c h, s.charged p e)

/-- What leaves the block when a write ends: a reply to a host, nothing to a hart. -/
def endOut (w : Sender) (c : Code) (l : List Out) : List Out :=
  match w with
  | .spi => .reply .spi c 0 :: l
  | .eth => .reply .eth c 0 :: l
  | .hart _ _ _ => l

/-- The agent of a read of register a where it reaches the register: the address names one, the drive link is there, no parity
check fails (R142, R151, R782), and a hart's load is allowed (R658, R673). -/
def State.reads (s : State) (w : Sender) (a : Nat) : Option Agent :=
  let ok := s.regIs a && !(decide (4 ≤ aDie a) && s.dlinkDown (aDie a - 4) && !isBlkStat a) && !s.parityBad a
  match w with
  | .spi => if 6 ≤ s.start.step ∧ ok = true then some .spi else none
  | .eth => if s.start.ethDone = true ∧ ok = true then some .eth else none
  | .hart p c h =>
    match s.onCore p c with
    | none => none
    | some k =>
      if ok = true ∧ (s.pdef p k CPU.PDEF.MGMT_READ = 1 ∨ s.loadFree p k a (.fw p k c h) = true) then some (.fw p k c h) else none

/-- What a package reset leaves at the Prism dies (R84): no table, no firmware memory, no lock, nothing in progress, every record of
the fabric, the networks' controllers, the gateway, the monitors and the fleet as at the start, and every register of a Prism die at
its reset value, but for the reset record, for the fused trims and for those that step 6 or the opening of the channels writes
afterwards. Where the clock pins choose internal-only mode the loader is already at the headers (R70, R77). -/
structure ResetLeaves (t : State) : Prop where
  tbls : t.tbls = []
  mem : t.mem = []
  lockedRegs : t.lockedRegs = []
  mismatches : t.mismatches = []
  posted : t.posted = []
  compat : t.compat = []
  pends : t.pends = []
  eyeReset : t.eyeReset = none
  ld : t.ld = { st := if t.start.step = 8 then .headers else .before }
  sw : t.sw = { fabOffs := t.sw.fabOffs }
  gw : t.gw = {}
  mon : t.mon = {}
  plx : t.plx = {}
  cpu : t.cpu = {}
  regs : ∀ a, aDie a < 4 →
    a ∉ [RSTC.CAUSE 0, RSTC.DETAIL 0, RSTC.STRAP 0, WAKE.CAUSE 0, KEYS.EVT 0, WAKE.EVT 0, WAKE.CNT 0 9, WAKE.CNT 0 11, PAIR.EVT 0] →
    (∀ p, a ≠ DEV.EVT p ∧ a ≠ DEV.CNT_LAST p) → (∀ p f, a ≠ ETH.TS p f ∧ a ≠ CAN.TDC p f) → t.reg a = regReset a

/-- A package reset whose source has bit b of the reset record (R82): the record holds the bit, and the device is as a reset leaves
it. -/
def ResetBy (b : Nat) (t : State) : Prop := bit (t.reg (RSTC.CAUSE 0)) b = true ∧ ResetLeaves t

/-! ## The frame that an engine takes -/

/-- The local queue and the reference that the scheduler of facet f of die p picks now, where head names the head of a queue that may
leave (R261). -/
def State.pick (s : State) (p f : Nat) (head : Nat → Queue → Option Ref) : Option (Nat × Ref) :=
  ([7, 6, 5, 4, 3, 2, 1, 0].find? fun c => (s.headsOf p f c head).any Option.isSome).bind fun c =>
    let heads := s.headsOf p f c head
    let el := (List.range 32).map fun g =>
      (heads.getD g none).map fun r => (r.fr.data.length, 256 * max 1 (s.profA p (queueNo f c g) QMGR.PROF_A.WEIGHT))
    let d := (List.range 32).map fun g => (s.queue (globalQueue p (queueNo f c g))).deficit
    let g := (drr el 2048 (s.robin (ck p f c)).cur (s.robin (ck p f c)).begun d).1
    (heads.getD g none).map fun h => (queueNo f c g, h)

/-- The queue and the reference that an engine draining facet f of die p takes now (R251). -/
def State.waits (s : State) (p f : Nat) (flowOk : Nat → Bool) : Option (Nat × Ref) :=
  s.pick p f fun q u => if flowOk (qFlow q) then u.front else none

/-- The state once the engine has taken it: the queue without it, its charge returned, copies for Periscope made. -/
def State.afterTake (s : State) (p f : Nat) (flowOk : Nat → Bool) : State := (Act.take p f flowOk fun _ _ => Act.skip).run s

/-! ## The Ezsor message that the domain engine takes -/

/-- The first message of the inbox is e, of a known form and of type ty; rest waits behind it (R696). -/
def State.ezFirst (s : State) (ty : Nat) (e : Nat × Nat × List Byte) (rest : List (Nat × Nat × List Byte)) : Prop :=
  s.plx.inbox = e :: rest ∧ (ezParse e).bad = false ∧ (ezParse e).type = ty

/-- Is the TAG of message m right under KEY_SLOT, and its freshness the greatest that its sender has shown (R698, R699)? -/
def State.ezProved (s : State) (m : EzMsg) : Prop :=
  m.noFresh = false ∧ m.auth = true ∧ s.ezSlot ≠ 0 ∧
    (∃ key, s.keyUse 0 s.ezSlot 5 (some 1) none none = .ok key ∧
      (cmac key (nats (m.bytes.take (20 + m.hdr 10 2)))).take 8 = nats ((m.bytes.drop (20 + m.hdr 10 2)).take 8)) ∧
    ∃ u, s.member m.src = some u ∧ u.freshness m = .greater

/-- Does message m of type ty pass the checks of the running domain engine (R694, R697 to R700)? -/
def State.ezTakes (s : State) (ty : Nat) (m : EzMsg) : Prop :=
  s.plxOn = true ∧ m.hdr 8 2 = s.fld (PLX.CFG 0) PLX.CFG.DOMAIN ∧ m.src ≠ s.devId ∧ (s.ezAuth ty = true → s.ezProved m)

/-- The state once it has passed them: out of the inbox, its key used once, its freshness its sender's (R508, R699). -/
def State.ezTaken (s : State) (ty : Nat) (m : EzMsg) (rest : List (Nat × Nat × List Byte)) : State :=
  let t := { s with plx := { s.plx with inbox := rest } }
  if s.ezAuth ty then
    (Act.seq (Act.useKey 0 s.ezSlot 5 (some 1) none none 5 fun _ => Act.skip) (Act.modMem m.src fun u => u.accept m)).run t
  else t

/-! ## What each command may change -/

/-- A set of registers: one register, or the registers of one name. -/
inductive RegSet where
  | r0 (a : Nat)
  | r1 (f : Nat → Nat)
  | r2 (f : Nat → Nat → Nat)
  | r3 (f : Nat → Nat → Nat → Nat)
  | r4 (f : Nat → Nat → Nat → Nat → Nat)

/-- Is a register of the set? -/
def RegSet.has : RegSet → Nat → Prop
  | .r0 b, a => a = b
  | .r1 f, a => ∃ x, a = f x
  | .r2 f, a => ∃ x y, a = f x y
  | .r3 f, a => ∃ x y z, a = f x y z
  | .r4 f, a => ∃ x y z u, a = f x y z u

/-- No register outside the sets changes. -/
def OnlySets (l : List RegSet) (s t : State) : Prop := ∀ a, (∀ r ∈ l, ¬ r.has a) → t.reg a = s.reg a

/-- The register write that a command is, where its row is a write of one register: sender, address and value, the row's field in
it. -/
def regWrite (i : Instr) : Option (Sender × Nat × Word) :=
  match i with
  | .imgCmdRaiseFloor w v => some (w, (IMG.CMD 0), fset (BitVec.ofNat 48 v) IMG.CMD.OP 1)
  | .imgCmdSetPrefer w v => some (w, (IMG.CMD 0), fset (BitVec.ofNat 48 v) IMG.CMD.OP 2)
  | .blockEnable w d b v => some (w, (BLK_CTRL d b), fset (BitVec.ofNat 48 v) BLK_CTRL.ENABLE 1)
  | .blockDisable w d b v => some (w, (BLK_CTRL d b), fset (BitVec.ofNat 48 v) BLK_CTRL.ENABLE 0)
  | .supMinmaxClear w d v => some (w, (SUP.CTRL d), fset (BitVec.ofNat 48 v) SUP.CTRL.MINMAX_CLR 1)
  | .repCmdRead w p v => some (w, (FAB.REP_CMD p), fset (BitVec.ofNat 48 v) FAB.REP_CMD.OP 1)
  | .repCmdWrite w p v => some (w, (FAB.REP_CMD p), fset (BitVec.ofNat 48 v) FAB.REP_CMD.OP 2)
  | .fabClrMax w p v => some (w, (FAB.CTRL p), fset (BitVec.ofNat 48 v) FAB.CTRL.CLR_MAX 1)
  | .flushCmd w p v => some (w, (QMGR.FLUSH_CMD p), fset (BitVec.ofNat 48 v) QMGR.FLUSH_CMD.START 1)
  | .dropRest w p n v => some (w, (QMGR.CQ_CMD p n), fset (BitVec.ofNat 48 v) QMGR.CQ_CMD.DROP_REST 1)
  | .qCmdRead w p v => some (w, (QMGR.Q_CMD p), fset (BitVec.ofNat 48 v) QMGR.Q_CMD.OP 1)
  | .qCmdWrite w p v => some (w, (QMGR.Q_CMD p), fset (BitVec.ofNat 48 v) QMGR.Q_CMD.OP 2)
  | .lpmInsert w p v => some (w, (LPM.CMD p), fset (BitVec.ofNat 48 v) LPM.CMD.OP 1)
  | .lpmDelete w p v => some (w, (LPM.CMD p), fset (BitVec.ofNat 48 v) LPM.CMD.OP 2)
  | .lpmFind w p v => some (w, (LPM.CMD p), fset (BitVec.ofNat 48 v) LPM.CMD.OP 3)
  | .tdmaRead w _ p k v => some (w, (TDMA.JOB p k), fset (BitVec.ofNat 48 v) TDMA.JOB.OP 1)
  | .tdmaWrite w _ p k v => some (w, (TDMA.JOB p k), fset (BitVec.ofNat 48 v) TDMA.JOB.OP 2)
  | .tdmaFind w _ p k v => some (w, (TDMA.JOB p k), fset (BitVec.ofNat 48 v) TDMA.JOB.OP 3)
  | .tdmaInsert w _ p k v => some (w, (TDMA.JOB p k), fset (BitVec.ofNat 48 v) TDMA.JOB.OP 4)
  | .tdmaDelete w _ p k v => some (w, (TDMA.JOB p k), fset (BitVec.ofNat 48 v) TDMA.JOB.OP 5)
  | .gclConfigChange w p f v => some (w, (PSFP.GCL_CTRL p f), fset (BitVec.ofNat 48 v) PSFP.GCL_CTRL.CONFIG_CHANGE 1)
  | .mdioC45Address w p f v => some (w, (ETH.MDIO p f), fset (BitVec.ofNat 48 v) ETH.MDIO.OP 1)
  | .mdioC45Write w p f v => some (w, (ETH.MDIO p f), fset (BitVec.ofNat 48 v) ETH.MDIO.OP 2)
  | .mdioC45Read w p f v => some (w, (ETH.MDIO p f), fset (BitVec.ofNat 48 v) ETH.MDIO.OP 3)
  | .mdioC22Write w p f v => some (w, (ETH.MDIO p f), fset (BitVec.ofNat 48 v) ETH.MDIO.OP 4)
  | .mdioC22Read w p f v => some (w, (ETH.MDIO p f), fset (BitVec.ofNat 48 v) ETH.MDIO.OP 5)
  | .snap w p f v => some (w, (ETH.CTRL p f), fset (BitVec.ofNat 48 v) ETH.CTRL.SNAP 1)
  | .restartAn w p f v => some (w, (ETH.CTRL p f), fset (BitVec.ofNat 48 v) ETH.CTRL.RESTART_AN 1)
  | .timeRateWrite w p v => some (w, (TIME.RATE p), BitVec.ofNat 48 v)
  | .timeStepWrite w p v => some (w, (TIME.STEP p), BitVec.ofNat 48 v)
  | .commit w p v => some (w, (TIME.CTRL p), fset (BitVec.ofNat 48 v) TIME.CTRL.COMMIT 1)
  | .canRecover w p c v => some (w, (CAN.CMD p c), fset (BitVec.ofNat 48 v) CAN.CMD.RECOVER 1)
  | .abortTx w p c v => some (w, (CAN.CMD p c), fset (BitVec.ofNat 48 v) CAN.CMD.ABORT_TX 1)
  | .filtCmdRead w p c v => some (w, (CAN.FILT_CMD p c), fset (BitVec.ofNat 48 v) CAN.FILT_CMD.OP 1)
  | .filtCmdWrite w p c v => some (w, (CAN.FILT_CMD p c), fset (BitVec.ofNat 48 v) CAN.FILT_CMD.OP 2)
  | .acCmdRead w p c v => some (w, (CAN.AC_CMD p c), fset (BitVec.ofNat 48 v) CAN.AC_CMD.OP 1)
  | .acCmdFind w p c v => some (w, (CAN.AC_CMD p c), fset (BitVec.ofNat 48 v) CAN.AC_CMD.OP 2)
  | .acCmdEmpty w p c v => some (w, (CAN.AC_CMD p c), fset (BitVec.ofNat 48 v) CAN.AC_CMD.OP 3)
  | .linSwitch w p c v => some (w, (LIN.CMD p c), fset (BitVec.ofNat 48 v) LIN.CMD.SWITCH 1)
  | .linStop w p c v => some (w, (LIN.CMD p c), fset (BitVec.ofNat 48 v) LIN.CMD.STOP 1)
  | .linGotosleep w p c v => some (w, (LIN.CMD p c), fset (BitVec.ofNat 48 v) LIN.CMD.GOTOSLEEP 1)
  | .schedCmdRead w p c v => some (w, (LIN.SCHED_CMD p c), fset (BitVec.ofNat 48 v) LIN.SCHED_CMD.OP 1)
  | .schedCmdWrite w p c v => some (w, (LIN.SCHED_CMD p c), fset (BitVec.ofNat 48 v) LIN.SCHED_CMD.OP 2)
  | .pubCmdRead w p c v => some (w, (LIN.PUB_CMD p c), fset (BitVec.ofNat 48 v) LIN.PUB_CMD.OP 1)
  | .pubCmdWrite w p c v => some (w, (LIN.PUB_CMD p c), fset (BitVec.ofNat 48 v) LIN.PUB_CMD.OP 2)
  | .beamCmdRead w p v => some (w, (SGW.BEAM_CMD p), fset (BitVec.ofNat 48 v) SGW.BEAM_CMD.OP 1)
  | .beamCmdFind w p v => some (w, (SGW.BEAM_CMD p), fset (BitVec.ofNat 48 v) SGW.BEAM_CMD.OP 2)
  | .beamCmdInsert w p v => some (w, (SGW.BEAM_CMD p), fset (BitVec.ofNat 48 v) SGW.BEAM_CMD.OP 3)
  | .beamCmdDelete w p v => some (w, (SGW.BEAM_CMD p), fset (BitVec.ofNat 48 v) SGW.BEAM_CMD.OP 4)
  | .tblCmdRead w p v => some (w, (SGW.TBL_CMD p), fset (BitVec.ofNat 48 v) SGW.TBL_CMD.OP 1)
  | .tblCmdWrite w p v => some (w, (SGW.TBL_CMD p), fset (BitVec.ofNat 48 v) SGW.TBL_CMD.OP 2)
  | .sigCmdRead w p v => some (w, (SGW.SIG_CMD p), fset (BitVec.ofNat 48 v) SGW.SIG_CMD.OP 1)
  | .sigCmdWrite w p v => some (w, (SGW.SIG_CMD p), fset (BitVec.ofNat 48 v) SGW.SIG_CMD.OP 2)
  | .load w p v => some (w, (KEYS.OP_CMD p), fset (BitVec.ofNat 48 v) KEYS.OP_CMD.OP 1)
  | .derive w p v => some (w, (KEYS.OP_CMD p), fset (BitVec.ofNat 48 v) KEYS.OP_CMD.OP 2)
  | .unwrap w p v => some (w, (KEYS.OP_CMD p), fset (BitVec.ofNat 48 v) KEYS.OP_CMD.OP 3)
  | .wrap w p v => some (w, (KEYS.OP_CMD p), fset (BitVec.ofNat 48 v) KEYS.OP_CMD.OP 4)
  | .generate w p v => some (w, (KEYS.OP_CMD p), fset (BitVec.ofNat 48 v) KEYS.OP_CMD.OP 5)
  | .clear w p v => some (w, (KEYS.OP_CMD p), fset (BitVec.ofNat 48 v) KEYS.OP_CMD.OP 6)
  | .wrapRoot w p v => some (w, (KEYS.OP_CMD p), fset (BitVec.ofNat 48 v) KEYS.OP_CMD.OP 7)
  | .provision w p v => some (w, (KEYS.PROV_CMD p), fset (BitVec.ofNat 48 v) KEYS.PROV_CMD.OP 1)
  | .restore w p v => some (w, (KEYS.PROV_CMD p), fset (BitVec.ofNat 48 v) KEYS.PROV_CMD.OP 2)
  | .rekey w p v => some (w, (KEYS.PROV_CMD p), fset (BitVec.ofNat 48 v) KEYS.PROV_CMD.OP 3)
  | .renew w p v => some (w, (KEYS.PROV_CMD p), fset (BitVec.ofNat 48 v) KEYS.PROV_CMD.OP 4)
  | .ciphJobStart w _ p k v => some (w, (CIPH.JOB p k), fset (BitVec.ofNat 48 v) CIPH.JOB.START 1)
  | .saCmdRead w p v => some (w, (MSEC.SA_CMD p), fset (BitVec.ofNat 48 v) MSEC.SA_CMD.OP 1)
  | .saCmdWrite w p v => some (w, (MSEC.SA_CMD p), fset (BitVec.ofNat 48 v) MSEC.SA_CMD.OP 2)
  | .profCmdRead w p v => some (w, (SEAL.PROF_CMD p), fset (BitVec.ofNat 48 v) SEAL.PROF_CMD.OP 1)
  | .profCmdWrite w p v => some (w, (SEAL.PROF_CMD p), fset (BitVec.ofNat 48 v) SEAL.PROF_CMD.OP 2)
  | .fvCmdRead w p v => some (w, (SEAL.FV_CMD p), fset (BitVec.ofNat 48 v) SEAL.FV_CMD.OP 1)
  | .fvCmdClearRef w p v => some (w, (SEAL.FV_CMD p), fset (BitVec.ofNat 48 v) SEAL.FV_CMD.OP 2)
  | .handover w auto v => if auto then none else some (w, (PAIR.CMD 0), fset (BitVec.ofNat 48 v) PAIR.CMD.HANDOVER 1)
  | .pairTblRead w p v => some (w, (PAIR.TBL_CMD p), fset (BitVec.ofNat 48 v) PAIR.TBL_CMD.OP 1)
  | .pairTblWrite w p v => some (w, (PAIR.TBL_CMD p), fset (BitVec.ofNat 48 v) PAIR.TBL_CMD.OP 2)
  | .wakeReqWrite w p k v => some (w, (WAKE.REQ p k), BitVec.ofNat 48 v)
  | .confirm w p v => some (w, (WAKE.CMD p), fset (BitVec.ofNat 48 v) WAKE.CMD.CONFIRM 1)
  | .rearm w d v => some (w, (WKP.CMD d), fset (BitVec.ofNat 48 v) WKP.CMD.REARM 1)
  | .chnCmd w d c v => some (w, (CHN.CMD d c), BitVec.ofNat 48 v)
  | .clearFault w d c v => some (w, (CHN.CTRL d c), fset (BitVec.ofNat 48 v) CHN.CTRL.CLEAR_FAULT 1)
  | .unlock w d c v => some (w, (CHN.CTRL d c), fset (BitVec.ofNat 48 v) CHN.CTRL.UNLOCK 1)
  | .selftest w d c v => some (w, (CHN.CTRL d c), fset (BitVec.ofNat 48 v) CHN.CTRL.SELFTEST 1)
  | .cal w d c v => some (w, (CHN.CTRL d c), fset (BitVec.ofNat 48 v) CHN.CTRL.CAL 1)
  | .ack w d v => some (w, (PIN.CMD d), fset (BitVec.ofNat 48 v) PIN.CMD.ACK 1)
  | .pcmdHalt w p v => some (w, (CPU.PCMD p), fset (BitVec.ofNat 48 v) CPU.PCMD.OP 1)
  | .pcmdRestart w p v => some (w, (CPU.PCMD p), fset (BitVec.ofNat 48 v) CPU.PCMD.OP 2)
  | .watchdogKick w p k v => some (w, (CPU.KICK p k), BitVec.ofNat 48 v)
  | .skick w p v => some (w, (CPU.SKICK p), BitVec.ofNat 48 v)
  | .txRingProd w _ p k v => some (w, (CPU.TXR_B p k), BitVec.ofNat 48 v)
  | .aprRd w p v => some (w, (CPU.APR_RD p), BitVec.ofNat 48 v)
  | .dtCmdRead w v => some (w, (PLX.DT_CMD 0), fset (BitVec.ofNat 48 v) PLX.DT_CMD.OP 1)
  | .dtCmdRemove w v => some (w, (PLX.DT_CMD 0), fset (BitVec.ofNat 48 v) PLX.DT_CMD.OP 2)
  | .snapCmdSnapshot w p v => some (w, (LOUPE.SNAP_CMD p), fset (BitVec.ofNat 48 v) LOUPE.SNAP_CMD.OP 1)
  | .snapCmdSnapshotClear w p v => some (w, (LOUPE.SNAP_CMD p), fset (BitVec.ofNat 48 v) LOUPE.SNAP_CMD.OP 2)
  | .feedVal w p v => some (w, (LOUPE.FEED_VAL p), BitVec.ofNat 48 v)
  | .mcfgWrite w p m j v => some (w, (ra p 0x80 (0x100 + 4 * m + j)), BitVec.ofNat 48 v)
  | .trigger w p v => some (w, (PSCP.CMD p), fset (BitVec.ofNat 48 v) PSCP.CMD.TRIGGER 1)
  | .restart w p v => some (w, (PSCP.CMD p), fset (BitVec.ofNat 48 v) PSCP.CMD.RESTART 1)
  | .release w p v => some (w, (PSCP.CMD p), fset (BitVec.ofNat 48 v) PSCP.CMD.RELEASE 1)
  | .rdCmd w p v => some (w, (PSCP.RD_CMD p), fset (BitVec.ofNat 48 v) PSCP.RD_CMD.START 1)
  | _ => none

/-- The register read that a command is, where its row is a read of one register: sender and address. -/
def regRead (i : Instr) : Option (Sender × Nat) :=
  match i with
  | .cqDataRead w p n => some (w, (QMGR.CQ_DATA p n))
  | .txtsPop w p f => some (w, (ETH.TXTS_B p f))
  | .ptpNowRead w p => some (w, (TIME.PTP_NOW_SEC p))
  | .irqPop w p k => some (w, (CPU.IRQ_POP p k))
  | _ => none

/-- The stores that a hart makes to its own memory before a command, as the command brings them. -/
def hartStores (i : Instr) : List (Nat × Nat) :=
  match i with
  | .tdmaRead _ mem _ _ _ => mem
  | .tdmaWrite _ mem _ _ _ => mem
  | .tdmaFind _ mem _ _ _ => mem
  | .tdmaInsert _ mem _ _ _ => mem
  | .tdmaDelete _ mem _ _ _ => mem
  | .ciphJobStart _ mem _ _ _ => mem
  | .txRingProd _ mem _ _ _ => mem
  | _ => []

/-- The register write that command i is reaches its register: the command is well-formed, its stores to memory are made, the write
passes every check that comes before its acceptance and arrives in state u with agent ag, and the register, where its write is not a
posted one, takes the value. -/
def Reaches (i : Instr) (s : State) (ag : Agent) (u : State) : Prop :=
  i.wellFormed = true ∧ ∃ w a v, regWrite i = some (w, a, v) ∧ ((Act.hartMem w (hartStores i)).run s).arrives w a v = some (ag, u) ∧
    (posts a = true ∨ u.refuses a v = false)

/-- The parts that a command may change: by its own effect, for a register write or read that reaches its register. -/
def mayTouch (i : Instr) : List Part :=
  match i with
  | .spiAbortedCommand _
    => []
  | .compatViewRefresh
    => [.compat]
  | .slotSwitch _ _
    => [.cpu]
  | .drbgReseed _
    => [.freeCount]
  | .signalSweep _ | .windowPendingExpire _ _
    => [.gw]
  | .witnessReceive _ _ _ | .claimWaitEnd _ | .tokenOriginate | .noticeEnd | .rampDone _ _ | .coolEnd _ _ _ | .caseFaultEnd _ _
    _ | .clampRefill _ | .currentSample _ _ _ _ _ _ _ | .limpNRelease _ | .retryCountReset _ _
    => [.io]
  | .recorderLinkUp _ _ _
    => [.mon]
  | .linSupOk _ | .xcvrModeChange _ _ | .xcvrThermalRelease _ _
    => [.nets]
  | .badFrame _ | .ppsPulse
    => [.out]
  | .pendingEntryExpire _ _
    => [.pends]
  | .censusAge
    => [.plx]
  | .coreDroopEnd _ _ | .prismThermalWarn _ | .prismThermalWarnEnd _ | .driveLinkResume _
    => [.prism]
  | .rngRestart _ _
    => [.sec]
  | .ovWarnEnd _ _ | .vbatSample _ _
    => [.sup]
  | .d2dCreditReturn _ _ _ | .pauseOverrideEnd _ _ _
    => [.sw]
  | .signalViewLoad _ _ _ _ _
    => [.cpu, .out]
  | .linWakeScheduleRestart _ _
    => [.nets, .io]
  | .resilverSlotUses _ _
    => [.sec, .freeCount]
  | .prismHeartbeat _
    => [.sup, .io]
  | .pauseExpire _ _ _
    => [.sw, .mon]
  | .canRecover _ _ _ _ | .abortTx _ _ _ _
    => [.irqs, .nets, .out]
  | .netBootRequest | .chunkTimeout _
    => [.ld, .sw, .out]
  | .supMinmaxClear _ _ _ | .rearm _ _ _ | .ack _ _ _
    => [.posted, .irqs, .out]
  | .stalledCell _ | .tdmaLockExpire _ _ _ | .timeCapture _ | .busDom _ _ | .wetFault _ _
    => [.regs, .evtNo, .upsets]
  | .partitionStart _ _
    => [.regs, .upsets, .cpu]
  | .keyDemand _ _ | .keyPreload _
    => [.regs, .upsets, .sec]
  | .windowLockExpire _ _ _
    => [.regs, .evtNo, .upsets, .gw]
  | .wakeSource _ _ _ | .wakeTimer | .sourceRearm _ _ | .guardEnd _ _ | .caseFault _ _ _ | .diePowerEstimate _ |
    .wakeReportTimeout _
    => [.regs, .evtNo, .upsets, .io]
  | .guardWarn _ _
    => [.regs, .evtNo, .upsets, .irqs]
  | .epochAreaRead _ | .netBootOff
    => [.regs, .evtNo, .upsets, .ld]
  | .recorderLinkTimeout _ | .recorderInitDone _ _ _ _ | .recorderLinkLost _
    => [.regs, .evtNo, .upsets, .mon]
  | .txdTimeout _ _ _ | .xcvrThermal _ _ | .linSupHigh _
    => [.regs, .evtNo, .upsets, .nets]
  | .remoteTimeout _ _
    => [.regs, .evtNo, .upsets, .pends]
  | .coreDroop _ _ | .driveLinkLost _ _
    => [.regs, .evtNo, .upsets, .prism]
  | .rngStop _
    => [.regs, .evtNo, .upsets, .sec]
  | .ovWarn _ _
    => [.regs, .evtNo, .upsets, .sup]
  | .d2dCreditViolation _ _ _ | .paceSample _ _ | .plcaBeaconLost _ _
    => [.regs, .evtNo, .upsets, .sw]
  | .measurementWrite _ _ _
    => [.regs, .upsets, .gw, .mon]
  | .fabClrMax _ _ _ | .aprRd _ _ _
    => [.regs, .upsets, .irqs, .out]
  | .otherSlotCheck _
    => [.regs, .upsets, .ld, .freeCount]
  | .plcaBeacon _ _ | .mdioDone _ _ _ _
    => [.regs, .upsets, .sw, .out]
  | .interruptDelivery _
    => [.regs, .evtNo, .upsets, .irqs, .cpu]
  | .pairLinkLoss _ | .pairJoin _ | .pairDecide _ | .claimProbe _ | .handoverSwitch | .keepalivePnSeen _ _ | .tokenLost |
    .wakeValidityTimeout | .admissionRequest _ _ | .admissionWindowExpire | .admSlow | .channelGrant _ _ | .shortDetect _ _ |
    .limitHeld _ _ | .retryBackoffEnd _ _ | .dtTrip _ _ | .guardTrip _ _ | .hardTrip _ _ | .logicHot _ | .selftestEnd _ _ _ |
    .calDone _ _ _ _ | .openLoad _ _ _ | .inputStateChange _ _ _ _ | .pinholeTurnOn _ | .takeoverHoldEnd _ _ |
    .canKeepaliveReceive _ _ _
    => [.regs, .evtNo, .upsets, .irqs, .io]
  | .loupeSample _ _ _ _ | .nvmeCompletion _ _ _ _
    => [.regs, .evtNo, .upsets, .irqs, .mon]
  | .acAgeSweep _ _ | .linBusFault _ _ _
    => [.regs, .evtNo, .upsets, .irqs, .nets]
  | .txRingProd _ _ _ _ _
    => [.regs, .evtNo, .upsets, .irqs, .out]
  | .rngHealthFail _
    => [.regs, .evtNo, .upsets, .irqs, .sec]
  | .sagWarning _ _
    => [.regs, .evtNo, .upsets, .irqs, .sup]
  | .cellCheckFailure _ _ _ _ _ _ _ | .facetDownFlush _ _ | .flushDone _ | .spillBlock _ _ _ | .fetchBlock _ _ _ _ | .gclSwitch
    _ _ | .gateEntryBegin _ _ | .linkUp _ _ _ | .linkDown _ _ _ _ _ | .pathSilentSweep _ | .helloLoss _ _
    => [.regs, .evtNo, .upsets, .irqs, .sw]
  | .xcvrWakeDetect _ _ _ _ _
    => [.regs, .evtNo, .upsets, .nets, .io]
  | .slowEdgeLost _
    => [.regs, .evtNo, .upsets, .sup, .prism]
  | .pauseLimit _ _ _
    => [.regs, .evtNo, .upsets, .sw, .mon]
  | .epochBackgroundErase _
    => [.regs, .flash, .upsets, .ld, .freeCount]
  | .linSwitch _ _ _ _ | .linStop _ _ _ _ | .linGotosleep _ _ _ _
    => [.regs, .upsets, .irqs, .nets, .out]
  | .imageKeyUnwrap _
    => [.regs, .upsets, .ld, .sec, .freeCount]
  | .netImageReceived
    => [.regs, .upsets, .start, .ld, .freeCount]
  | .provCmdDone _ _ _ _ _
    => [.fuse, .regs, .flash, .upsets, .sec, .freeCount]
  | .sigCmdRead _ _ _ | .sigCmdWrite _ _ _
    => [.regs, .evtNo, .upsets, .irqs, .gw, .out]
  | .wakeReqWrite _ _ _ _ | .confirm _ _ _ | .chnCmd _ _ _ _ | .clearFault _ _ _ _ | .unlock _ _ _ _ | .selftest _ _ _ _ | .cal
    _ _ _ _
    => [.regs, .evtNo, .upsets, .irqs, .io, .out]
  | .imgCmdRaiseFloor _ _ | .imgCmdSetPrefer _ _
    => [.regs, .evtNo, .upsets, .irqs, .ld, .out]
  | .clampEventEnd _ _ _
    => [.regs, .evtNo, .upsets, .irqs, .mon, .io]
  | .pauseRefresh _ _ | .snapCmdSnapshot _ _ _ | .snapCmdSnapshotClear _ _ _ | .feedVal _ _ _ | .mcfgWrite _ _ _ _ _ |
    .recorderResume _ _ _ _ | .chunkWrite _ | .recorderFlush _ | .triggerTake _ | .episodeClose _ | .trigger _ _ _ | .restart _
    _ _ | .release _ _ _ | .rdCmd _ _ _
    => [.regs, .evtNo, .upsets, .irqs, .mon, .out]
  | .pnWake _ | .wakeFailsafe _ _
    => [.regs, .evtNo, .upsets, .irqs, .nets, .io]
  | .acCmdRead _ _ _ _ | .acCmdFind _ _ _ _ | .acCmdEmpty _ _ _ _ | .pubCmdRead _ _ _ _ | .pubCmdWrite _ _ _ _
    => [.regs, .evtNo, .upsets, .irqs, .nets, .out]
  | .dtCmdRead _ _ | .dtCmdRemove _ _
    => [.regs, .evtNo, .upsets, .irqs, .plx, .out]
  | .resilverPass _
    => [.regs, .evtNo, .upsets, .irqs, .sec, .freeCount]
  | .provision _ _ _ | .restore _ _ _ | .rekey _ _ _ | .renew _ _ _ | .ciphJobStart _ _ _ _ _ | .fvCmdRead _ _ _ |
    .fvCmdClearRef _ _ _
    => [.regs, .evtNo, .upsets, .irqs, .sec, .out]
  | .serviceEntry
    => [.regs, .evtNo, .upsets, .irqs, .start, .io]
  | .sagEnd _ _ | .ovOpen _ _ | .ovEnd _ _
    => [.regs, .evtNo, .upsets, .irqs, .sup, .io]
  | .tpTimerExpire _ _ _ _ _ | .tunnelSend _ _
    => [.regs, .evtNo, .upsets, .irqs, .sw, .gw]
  | .witnessSend
    => [.regs, .evtNo, .upsets, .irqs, .sw, .io]
  | .frameEntry _ | .d2dCellReceive _ _ _
    => [.regs, .evtNo, .upsets, .irqs, .sw, .mon]
  | .canArbitrationLost _ _ | .canIntegrated _ _
    => [.regs, .evtNo, .upsets, .irqs, .sw, .nets]
  | .flushCmd _ _ _ | .tdmaRead _ _ _ _ _ | .tdmaWrite _ _ _ _ _ | .tdmaFind _ _ _ _ _ | .tdmaInsert _ _ _ _ _ | .tdmaDelete _ _
    _ _ _ | .gclConfigChange _ _ _ _ | .mdioC45Address _ _ _ _ | .mdioC45Write _ _ _ _ | .mdioC45Read _ _ _ _ | .mdioC22Write _
    _ _ _ | .mdioC22Read _ _ _ _ | .snap _ _ _ _ | .restartAn _ _ _ _ | .timeRateWrite _ _ _ | .timeStepWrite _ _ _ | .commit _
    _ _
    => [.regs, .evtNo, .upsets, .irqs, .sw, .out]
  | .slotExamine _
    => [.regs, .evtNo, .upsets, .start, .ld, .freeCount]
  | .imgCmdDone _ _ _ _
    => [.regs, .flash, .evtNo, .upsets, .ld, .freeCount]
  | .flashOpDone _
    => [.regs, .flash, .upsets, .pends, .ld, .freeCount]
  | .rdCmdDone _ _ _
    => [.regs, .mem, .evtNo, .upsets, .irqs, .mon]
  | .repCmdRead _ _ _ | .repCmdWrite _ _ _ | .filtCmdRead _ _ _ _ | .filtCmdWrite _ _ _ _ | .schedCmdRead _ _ _ _ |
    .schedCmdWrite _ _ _ _ | .beamCmdRead _ _ _ | .beamCmdFind _ _ _ | .beamCmdInsert _ _ _ | .beamCmdDelete _ _ _ | .tblCmdRead
    _ _ _ | .tblCmdWrite _ _ _ | .saCmdRead _ _ _ | .saCmdWrite _ _ _
    => [.regs, .tbls, .evtNo, .upsets, .irqs, .out]
  | .ageingSweep _
    => [.regs, .tbls, .evtNo, .upsets, .irqs, .sw]
  | .epochWrite _ _ _ _
    => [.fuse, .regs, .flash, .evtNo, .upsets, .start, .freeCount]
  | .partitionHalt _ _ _ | .lockstepMismatch _ | .maxOnExpire _ _
    => [.regs, .evtNo, .upsets, .irqs, .gw, .io, .cpu]
  | .keyLoadDone _ _ | .keyOpDone _
    => [.regs, .evtNo, .upsets, .irqs, .mon, .sec, .freeCount]
  | .linSlot _ _ _ _ _
    => [.regs, .evtNo, .upsets, .irqs, .nets, .mon, .out]
  | .load _ _ _ | .derive _ _ _ | .unwrap _ _ _ | .wrap _ _ _ | .generate _ _ _ | .clear _ _ _ | .wrapRoot _ _ _
    => [.regs, .evtNo, .upsets, .irqs, .sec, .out, .freeCount]
  | .vbatResetRelease _ | .regulatorRetry
    => [.regs, .evtNo, .upsets, .irqs, .seq, .sup, .io]
  | .powerOn _ _ _ _
    => [.regs, .evtNo, .upsets, .irqs, .sup, .clk, .io]
  | .limpNAssert _ | .heartbeatLost _
    => [.regs, .evtNo, .upsets, .irqs, .sup, .nets, .io]
  | .xoffCross _ _ | .xonCross _ _
    => [.regs, .evtNo, .upsets, .irqs, .sw, .mon, .out]
  | .pnSleep _
    => [.regs, .evtNo, .upsets, .irqs, .sw, .nets, .io]
  | .canRecoveryDone _ _ | .linResponse _ _ _ _ _
    => [.regs, .evtNo, .upsets, .irqs, .sw, .nets, .mon]
  | .hello _ _ _ | .credit _ _ _
    => [.regs, .evtNo, .upsets, .irqs, .sw, .plx, .out]
  | .sealBeacon _ _ _
    => [.regs, .evtNo, .upsets, .irqs, .sw, .sec, .freeCount]
  | .timeMark _
    => [.regs, .evtNo, .upsets, .sw, .gw, .mon, .cpu]
  | .partitionRestart _ _ _
    => [.regs, .mem, .evtNo, .upsets, .ld, .cpu, .freeCount]
  | .profCmdRead _ _ _ | .profCmdWrite _ _ _
    => [.regs, .tbls, .evtNo, .upsets, .irqs, .sec, .out]
  | .learnNoticeReceive _ _ _
    => [.regs, .tbls, .evtNo, .upsets, .irqs, .sw, .freeCount]
  | .qCmdRead _ _ _ | .qCmdWrite _ _ _ | .pairTblRead _ _ _ | .pairTblWrite _ _ _
    => [.regs, .tbls, .evtNo, .upsets, .irqs, .sw, .out]
  | .clockReady | .clockTimeout
    => [.regs, .upsets, .start, .clk, .ld, .sec, .freeCount]
  | .clockLost
    => [.regs, .evtNo, .upsets, .irqs, .clk, .sw, .nets, .mon]
  | .bootOffer | .chunk
    => [.regs, .evtNo, .upsets, .irqs, .ld, .sw, .plx, .out]
  | .pairHeartbeatReceive _ | .handoverProbe _ | .tokenReturn
    => [.regs, .evtNo, .upsets, .irqs, .sec, .plx, .io, .freeCount]
  | .wakeStart _
    => [.regs, .evtNo, .upsets, .irqs, .seq, .sup, .io, .freeCount]
  | .watchdogExpiry _ _
    => [.regs, .evtNo, .upsets, .irqs, .sw, .gw, .io, .cpu]
  | .dropRest _ _ _ _ | .recordTake _
    => [.regs, .evtNo, .upsets, .irqs, .sw, .mon, .io, .out]
  | .egressSelect _ _ | .linPublish _ _
    => [.regs, .evtNo, .upsets, .irqs, .sw, .nets, .mon, .io]
  | .canError _ _ _ _ _ _ _ _
    => [.regs, .evtNo, .upsets, .irqs, .sw, .nets, .mon, .out]
  | .keepaliveSend | .bootReq _ | .chunkReq _
    => [.regs, .evtNo, .upsets, .irqs, .sw, .sec, .plx, .freeCount]
  | .ciphJobDone _ _ _
    => [.regs, .mem, .evtNo, .upsets, .irqs, .mon, .sec, .freeCount]
  | .stormTimeout _ _ _
    => [.regs, .mem, .evtNo, .upsets, .irqs, .sw, .cpu, .freeCount]
  | .fwSectionDone _
    => [.regs, .mem, .evtNo, .upsets, .start, .ld, .cpu, .freeCount]
  | .lpmInsert _ _ _ | .lpmDelete _ _ _ | .lpmFind _ _ _
    => [.regs, .tbls, .evtNo, .upsets, .irqs, .sw, .out, .freeCount]
  | .tdmaJobDone _ _
    => [.regs, .tbls, .mem, .evtNo, .upsets, .irqs, .sw, .freeCount]
  | .pcmdHalt _ _ _ | .pcmdRestart _ _ _ | .watchdogKick _ _ _ _
    => [.regs, .evtNo, .upsets, .irqs, .sw, .gw, .io, .cpu, .out]
  | .pduCadence _ _ _ | .pduChangeCompose _ _ _
    => [.regs, .evtNo, .upsets, .irqs, .sw, .gw, .mon, .sec, .freeCount]
  | .cipherFlow _ _
    => [.regs, .evtNo, .upsets, .irqs, .sw, .mon, .sec, .io, .freeCount]
  | .canTransmitDone _ _ _ _
    => [.regs, .evtNo, .upsets, .irqs, .sw, .nets, .mon, .io, .out]
  | .pairHeartbeatSend | .grantReceive _ | .keepalivePnSend _ | .keepaliveReceive _
    => [.regs, .evtNo, .upsets, .irqs, .sw, .sec, .plx, .io, .freeCount]
  | .txAbort _ _ _ _
    => [.regs, .tbls, .evtNo, .upsets, .irqs, .sw, .sec, .out, .freeCount]
  | .sgwFrame _ _
    => [.regs, .evtNo, .upsets, .irqs, .sw, .gw, .mon, .sec, .io, .freeCount]
  | .blockEnable _ _ _ _ | .blockDisable _ _ _ _
    => [.regs, .evtNo, .upsets, .irqs, .sw, .nets, .gw, .mon, .io, .out]
  | .canReceive _ _ _ _ _
    => [.regs, .evtNo, .upsets, .irqs, .sw, .nets, .mon, .io, .out, .freeCount]
  | .handover _ _ _ | .tokenPass | .wakePatternSlot
    => [.regs, .evtNo, .upsets, .irqs, .sw, .sec, .plx, .io, .out, .freeCount]
  | .thermalHoldEnd
    => [.regs, .evtNo, .upsets, .start, .clk, .ld, .sw, .sec, .io, .freeCount]
  | .txDescriptor _
    => [.regs, .mem, .evtNo, .upsets, .irqs, .sw, .gw, .io, .cpu, .freeCount]
  | .frameAdmission _ _ | .admissionRetry _ _ _
    => [.regs, .mem, .evtNo, .upsets, .irqs, .sw, .mon, .io, .cpu, .freeCount]
  | .ethReceive _ _ _ _ _ _ _ | .pauseReceive _ _ _
    => [.regs, .tbls, .evtNo, .upsets, .irqs, .sw, .mon, .sec, .plx, .freeCount]
  | .windowStore _ _ _ _ _ _ _ _
    => [.regs, .evtNo, .upsets, .irqs, .sw, .gw, .sec, .plx, .io, .cpu, .freeCount]
  | .reply _
    => [.regs, .evtNo, .upsets, .pends, .irqs, .sw, .gw, .mon, .sec, .plx, .freeCount]
  | .stageSuccess _
    => [.regs, .evtNo, .upsets, .seq, .start, .clk, .ld, .sw, .sec, .io, .freeCount]
  | .frameLookup _ _ _
    => [.regs, .tbls, .mem, .evtNo, .upsets, .irqs, .sw, .gw, .io, .cpu, .freeCount]
  | .canLinEnable | .ethernetEnable
    => [.regs, .evtNo, .upsets, .irqs, .start, .ld, .sw, .nets, .gw, .mon, .io, .out]
  | .resetNRelease _ _
    => [.regs, .evtNo, .upsets, .irqs, .seq, .sup, .start, .clk, .ld, .sw, .sec, .io, .freeCount]
  | .sleepEntry
    => [.regs, .evtNo, .upsets, .irqs, .sup, .sw, .nets, .gw, .sec, .plx, .io, .out, .freeCount]
  | .prismThermalShutdown _ | .dieToDieLinkLost _ _ | .safetyWdtExpiry _
    => Part.allBut [.fuse, .flashSize, .seq, .edges, .out]
  | .tamperAssert _ | .tamperSeen _
    => Part.allBut [.flashSize, .seq, .edges, .out]
  | .powerOnReset _ _ | .vbatLow _ | .stageFail _ | .pgLost _ | .vcoreRegulatorFail _ _ | .resetNAssert | .sleepOff
    => Part.allBut [.fuse, .flashSize, .edges, .out]
  | .parityScrub _ _ _ | .nop _ | .read _ _ _ | .write _ _ _ | .peerStatus _ _ _ | .reset _ _ _ | .imageBegin _ _ _ | .imageData
    _ _ _ | .imageEnd _ _ _ | .flashErase _ _ _ | .flashProgram _ _ _ | .flashRead _ _ _ | .eyepieceEthRequest | .slowFetchDone
    _ _ | .postedWriteEffect _ _ | .clearBySequence _ _ _ | .registerWrite _ _ _ | .cqDataRead _ _ _ | .ethTransmit _ _ _ _ _ |
    .txtsPop _ _ _ | .ptpNowRead _ _ | .windowLoad _ _ _ _ _ _ _ | .windowReadReply _ _ _ | .postedWriteDone _ _ _ | .lockedRead
    _ _ _ _ _ _ _ | .skick _ _ _ | .mgmtLoad _ _ _ _ _ | .mgmtStore _ _ _ _ _ _ | .irqPop _ _ _ | .request _
    => Part.allBut [.fuse, .flashSize, .seq, .edges]
  | .configDistribution
    => Part.allBut [.flashSize, .seq, .edges]

/-- The registers that a command may change, where its row names them all: by its own effect, for a register write that reaches its
register. -/
def mayWrite (i : Instr) : Option (List RegSet) :=
  match i with
  | .ovWarnEnd _ _ | .coreDroopEnd _ _ | .prismThermalWarn _ | .prismThermalWarnEnd _ | .driveLinkResume _ | .netBootRequest |
    .badFrame _ | .spiAbortedCommand _ | .pendingEntryExpire _ _ | .compatViewRefresh | .supMinmaxClear _ _ _ | .vbatSample _ _
    | .d2dCreditReturn _ _ _ | .pauseExpire _ _ _ | .ppsPulse | .canRecover _ _ _ _ | .abortTx _ _ _ _ | .linSupOk _ |
    .xcvrModeChange _ _ | .signalSweep _ | .windowPendingExpire _ _ | .resilverSlotUses _ _ | .rngRestart _ _ | .drbgReseed _ |
    .witnessReceive _ _ _ | .claimWaitEnd _ | .tokenOriginate | .noticeEnd | .rearm _ _ _ | .rampDone _ _ | .coolEnd _ _ _ |
    .caseFaultEnd _ _ _ | .clampRefill _ | .currentSample _ _ _ _ _ _ _ | .ack _ _ _ | .slotSwitch _ _ | .signalViewLoad _ _ _ _
    _ | .censusAge | .chunkTimeout _ | .recorderLinkUp _ _ _ | .prismHeartbeat _ | .limpNRelease _ | .pauseOverrideEnd _ _ _ |
    .xcvrThermalRelease _ _ | .retryCountReset _ _ | .linWakeScheduleRestart _ _
    => some []
  | .acAgeSweep p c
    => some [.r0 (CAN.EVT p c)]
  | .guardWarn d c
    => some [.r0 (CHN.EVT d c)]
  | .partitionStart p k
    => some [.r0 (CPU.KICK p k)]
  | .coreDroop p _
    => some [.r0 (DEV.EVT p)]
  | .pauseLimit p f _
    => some [.r0 (ETH.EVT p f)]
  | .plcaBeaconLost p f
    => some [.r0 (ETH.EVT p f)]
  | .plcaBeacon p f
    => some [.r0 (ETH.PLCA_STAT p f)]
  | .remoteTimeout _ _
    => some [.r0 (EYE.EVT 0)]
  | .flashOpDone _
    => some [.r0 (EYE.FLASH 0)]
  | .stalledCell p
    => some [.r0 (FAB.EVT p)]
  | .epochBackgroundErase _
    => some [.r0 (IMG.EPOCH_STAT 0)]
  | .wetFault d _
    => some [.r0 (IN.EVT d)]
  | .measurementWrite d item _
    => some [.r0 (IN.VAL d (item - 64))]
  | .rngStop p
    => some [.r0 (KEYS.EVT p)]
  | .keyDemand p n
    => some [.r0 (KEYS.SLOT p n)]
  | .linSwitch _ p c _
    => some [.r0 (LIN.CMD p c)]
  | .linStop _ p c _
    => some [.r0 (LIN.CMD p c)]
  | .linGotosleep _ p c _
    => some [.r0 (LIN.CMD p c)]
  | .clockReady | .clockTimeout
    => some [.r0 (RSTC.STRAP 0)]
  | .sagWarning d _
    => some [.r0 (SUP.EVT d)]
  | .ovWarn d _
    => some [.r0 (SUP.EVT d)]
  | .guardEnd d _
    => some [.r0 (THM.EVT d)]
  | .caseFault d _ _
    => some [.r0 (THM.EVT d)]
  | .admSlow
    => some [.r0 (WAKE.EVT 0)]
  | .windowLockExpire p _ _
    => some [.r0 (WBR.EVT p)]
  | .sourceRearm d _
    => some [.r0 (WKP.EVT d)]
  | .wakeReportTimeout d
    => some [.r0 (WKP.EVT d)]
  | .linSupHigh d
    => some [.r0 (XCVR.EVT d)]
  | .mdioDone p _ _ _
    => some [.r1 (fun x0 => ETH.MDIO p x0)]
  | .keyPreload p
    => some [.r1 (fun x0 => KEYS.SLOT p x0)]
  | .otherSlotCheck _
    => some [.r1 slotReg]
  | .mdioC45Address _ p f _
    => some [.r0 (BLK_ERR (aDie (ETH.MDIO p f)) (aBlk (ETH.MDIO p f))), .r0 (ETH.MDIO p f)]
  | .mdioC45Write _ p f _
    => some [.r0 (BLK_ERR (aDie (ETH.MDIO p f)) (aBlk (ETH.MDIO p f))), .r0 (ETH.MDIO p f)]
  | .mdioC45Read _ p f _
    => some [.r0 (BLK_ERR (aDie (ETH.MDIO p f)) (aBlk (ETH.MDIO p f))), .r0 (ETH.MDIO p f)]
  | .mdioC22Write _ p f _
    => some [.r0 (BLK_ERR (aDie (ETH.MDIO p f)) (aBlk (ETH.MDIO p f))), .r0 (ETH.MDIO p f)]
  | .mdioC22Read _ p f _
    => some [.r0 (BLK_ERR (aDie (ETH.MDIO p f)) (aBlk (ETH.MDIO p f))), .r0 (ETH.MDIO p f)]
  | .imgCmdRaiseFloor _ _ | .imgCmdSetPrefer _ _
    => some [.r0 (BLK_ERR (aDie (IMG.CMD 0)) (aBlk (IMG.CMD 0))), .r0 (IMG.CMD 0)]
  | .mcfgWrite _ p m j _
    => some [.r0 (BLK_ERR (aDie (LOUPE.MCFG_A p m + j)) (aBlk (LOUPE.MCFG_A p m + j))), .r0 (LOUPE.MCFG_A p m + j)]
  | .commit _ p _
    => some [.r0 (BLK_ERR (aDie (TIME.CTRL p)) (aBlk (TIME.CTRL p))), .r1 TIME.CTRL]
  | .timeRateWrite _ p _
    => some [.r0 (BLK_ERR (aDie (TIME.RATE p)) (aBlk (TIME.RATE p))), .r0 (TIME.RATE p)]
  | .timeStepWrite _ p _
    => some [.r0 (BLK_ERR (aDie (TIME.STEP p)) (aBlk (TIME.STEP p))), .r0 (TIME.STEP p)]
  | .calDone d c _ _
    => some [.r0 (CHN.CAL d c), .r0 (CHN.EVT d c)]
  | .aprRd _ p _
    => some [.r0 (CPU.APR_RD p), .r1 (fun x0 => CPU.APR_W p x0)]
  | .paceSample p _
    => some [.r0 (FAB.EVT p), .r0 (FAB.PACE p)]
  | .netBootOff
    => some [.r0 (IMG.EVT 0), .r0 (RSTC.START 0)]
  | .imageKeyUnwrap _
    => some [.r0 (IMG.STAT 0), .r1 (fun x0 => KEYS.SLOT x0 0)]
  | .loupeSample p _ _ _
    => some [.r0 (LOUPE.EVT p), .r0 (LOUPE.LAST p)]
  | .pathSilentSweep p
    => some [.r0 (PAIR.EVT p), .r0 (PAIR.SILENT_LAST p)]
  | .tdmaLockExpire p t _
    => some [.r0 (TDMA.EVT p), .r0 (TDMA.LOCK p (t % 8))]
  | .diePowerEstimate d
    => some [.r0 (THM.EVT d), .r0 (THM.STAT d)]
  | .timeCapture _
    => some [.r0 (TIME.CAP 0), .r0 (TIME.EVT 0)]
  | .wakeTimer
    => some [.r0 (WKP.EVT 0), .r1 WKP.CAUSE]
  | .wakeSource d _ _
    => some [.r0 (WKP.EVT d), .r1 WKP.CAUSE]
  | .xcvrWakeDetect d _ _ _ _
    => some [.r0 (WKP.EVT d), .r1 WKP.CAUSE]
  | .txdTimeout d _ _
    => some [.r0 (XCVR.EVT d), .r0 (XCVR.LAST d)]
  | .busDom d _
    => some [.r0 (XCVR.EVT d), .r0 (XCVR.LAST d)]
  | .xcvrThermal d _
    => some [.r0 (XCVR.EVT d), .r0 (XCVR.LAST d)]
  | .driveLinkLost _ _
    => some [.r1 DEV.DLINK, .r1 DEV.EVT]
  | .clearFault _ d c _
    => some [.r0 (BLK_ERR (aDie (CHN.CTRL d c)) (aBlk (CHN.CTRL d c))), .r0 (CHN.CAL d c), .r0 (CHN.CTRL d c)]
  | .unlock _ d c _
    => some [.r0 (BLK_ERR (aDie (CHN.CTRL d c)) (aBlk (CHN.CTRL d c))), .r0 (CHN.CAL d c), .r0 (CHN.CTRL d c)]
  | .selftest _ d c _
    => some [.r0 (BLK_ERR (aDie (CHN.CTRL d c)) (aBlk (CHN.CTRL d c))), .r0 (CHN.CAL d c), .r0 (CHN.CTRL d c)]
  | .cal _ d c _
    => some [.r0 (BLK_ERR (aDie (CHN.CTRL d c)) (aBlk (CHN.CTRL d c))), .r0 (CHN.CAL d c), .r0 (CHN.CTRL d c)]
  | .ciphJobStart _ _ p k _
    => some [.r0 (BLK_ERR (aDie (CIPH.JOB p k)) (aBlk (CIPH.JOB p k))), .r0 (CIPH.JOB p k), .r0 (CIPH.JOB_STAT p k)]
  | .provision _ p _
    => some [.r0 (BLK_ERR (aDie (KEYS.PROV_CMD p)) (aBlk (KEYS.PROV_CMD p))), .r0 (KEYS.PROV_CMD p), .r1 (fun x0 => KEYS.PROV p
      x0)]
  | .restore _ p _
    => some [.r0 (BLK_ERR (aDie (KEYS.PROV_CMD p)) (aBlk (KEYS.PROV_CMD p))), .r0 (KEYS.PROV_CMD p), .r1 (fun x0 => KEYS.PROV p
      x0)]
  | .rekey _ p _
    => some [.r0 (BLK_ERR (aDie (KEYS.PROV_CMD p)) (aBlk (KEYS.PROV_CMD p))), .r0 (KEYS.PROV_CMD p), .r1 (fun x0 => KEYS.PROV p
      x0)]
  | .renew _ p _
    => some [.r0 (BLK_ERR (aDie (KEYS.PROV_CMD p)) (aBlk (KEYS.PROV_CMD p))), .r0 (KEYS.PROV_CMD p), .r1 (fun x0 => KEYS.PROV p
      x0)]
  | .schedCmdRead _ p c _
    => some [.r0 (BLK_ERR (aDie (LIN.SCHED_CMD p c)) (aBlk (LIN.SCHED_CMD p c))), .r0 (LIN.SCHED_CMD p c), .r0 (LIN.SCHED_W p
      c)]
  | .schedCmdWrite _ p c _
    => some [.r0 (BLK_ERR (aDie (LIN.SCHED_CMD p c)) (aBlk (LIN.SCHED_CMD p c))), .r0 (LIN.SCHED_CMD p c), .r0 (LIN.SCHED_W p
      c)]
  | .pairTblRead _ p _
    => some [.r0 (BLK_ERR (aDie (PAIR.TBL_CMD p)) (aBlk (PAIR.TBL_CMD p))), .r0 (PAIR.TBL_CMD p), .r1 (fun x0 => PAIR.TBL_W p
      x0)]
  | .pairTblWrite _ p _
    => some [.r0 (BLK_ERR (aDie (PAIR.TBL_CMD p)) (aBlk (PAIR.TBL_CMD p))), .r0 (PAIR.TBL_CMD p), .r1 (fun x0 => PAIR.TBL_W p
      x0)]
  | .gclConfigChange _ p f _
    => some [.r0 (BLK_ERR (aDie (PSFP.GCL_CTRL p f)) (aBlk (PSFP.GCL_CTRL p f))), .r0 (PSFP.GCL_CTRL p f), .r0 (PSFP.GCL_STAT p
      f)]
  | .flushCmd _ p _
    => some [.r0 (BLK_ERR (aDie (QMGR.FLUSH_CMD p)) (aBlk (QMGR.FLUSH_CMD p))), .r0 (QMGR.EVT p), .r0 (QMGR.FLUSH_CMD p)]
  | .fvCmdRead _ p _
    => some [.r0 (BLK_ERR (aDie (SEAL.FV_CMD p)) (aBlk (SEAL.FV_CMD p))), .r0 (SEAL.FV_CMD p), .r0 (SEAL.FV_W p)]
  | .fvCmdClearRef _ p _
    => some [.r0 (BLK_ERR (aDie (SEAL.FV_CMD p)) (aBlk (SEAL.FV_CMD p))), .r0 (SEAL.FV_CMD p), .r0 (SEAL.FV_W p)]
  | .beamCmdRead _ p _
    => some [.r0 (BLK_ERR (aDie (SGW.BEAM_CMD p)) (aBlk (SGW.BEAM_CMD p))), .r0 (SGW.BEAM_CMD p), .r1 (fun x0 => SGW.BEAM_W p
      x0)]
  | .beamCmdFind _ p _
    => some [.r0 (BLK_ERR (aDie (SGW.BEAM_CMD p)) (aBlk (SGW.BEAM_CMD p))), .r0 (SGW.BEAM_CMD p), .r1 (fun x0 => SGW.BEAM_W p
      x0)]
  | .beamCmdInsert _ p _
    => some [.r0 (BLK_ERR (aDie (SGW.BEAM_CMD p)) (aBlk (SGW.BEAM_CMD p))), .r0 (SGW.BEAM_CMD p), .r1 (fun x0 => SGW.BEAM_W p
      x0)]
  | .beamCmdDelete _ p _
    => some [.r0 (BLK_ERR (aDie (SGW.BEAM_CMD p)) (aBlk (SGW.BEAM_CMD p))), .r0 (SGW.BEAM_CMD p), .r1 (fun x0 => SGW.BEAM_W p
      x0)]
  | .tblCmdRead _ p _
    => some [.r0 (BLK_ERR (aDie (SGW.TBL_CMD p)) (aBlk (SGW.TBL_CMD p))), .r0 (SGW.TBL_CMD p), .r1 (fun x0 => SGW.TBL_W p x0)]
  | .tblCmdWrite _ p _
    => some [.r0 (BLK_ERR (aDie (SGW.TBL_CMD p)) (aBlk (SGW.TBL_CMD p))), .r0 (SGW.TBL_CMD p), .r1 (fun x0 => SGW.TBL_W p x0)]
  | .tdmaRead _ _ p k _
    => some [.r0 (BLK_ERR (aDie (TDMA.JOB p k)) (aBlk (TDMA.JOB p k))), .r0 (TDMA.JOB p k), .r0 (TDMA.JOB_STAT p k)]
  | .tdmaWrite _ _ p k _
    => some [.r0 (BLK_ERR (aDie (TDMA.JOB p k)) (aBlk (TDMA.JOB p k))), .r0 (TDMA.JOB p k), .r0 (TDMA.JOB_STAT p k)]
  | .tdmaFind _ _ p k _
    => some [.r0 (BLK_ERR (aDie (TDMA.JOB p k)) (aBlk (TDMA.JOB p k))), .r0 (TDMA.JOB p k), .r0 (TDMA.JOB_STAT p k)]
  | .tdmaInsert _ _ p k _
    => some [.r0 (BLK_ERR (aDie (TDMA.JOB p k)) (aBlk (TDMA.JOB p k))), .r0 (TDMA.JOB p k), .r0 (TDMA.JOB_STAT p k)]
  | .tdmaDelete _ _ p k _
    => some [.r0 (BLK_ERR (aDie (TDMA.JOB p k)) (aBlk (TDMA.JOB p k))), .r0 (TDMA.JOB p k), .r0 (TDMA.JOB_STAT p k)]
  | .channelGrant d c
    => some [.r0 (CHN.CNT d c 0), .r1 DEV.CNT_LAST, .r1 DEV.EVT]
  | .retryBackoffEnd d c
    => some [.r0 (CHN.CNT d c 5), .r1 DEV.CNT_LAST, .r1 DEV.EVT]
  | .d2dCreditViolation p j _
    => some [.r0 (D2D.EVT (d2dFar p j) (d2dLink (d2dFar p j) p)), .r0 (D2D.EVT p j), .r1 QMGR.EVT]
  | .helloLoss p f
    => some [.r0 (ETH.CNT p f 9), .r1 DEV.CNT_LAST, .r1 DEV.EVT]
  | .fabClrMax _ p _
    => some [.r0 (FAB.PACE p), .r1 (fun x0 => D2D.HOLD_MAX p x0), .r1 (fun x0 => FAB.FACET p x0)]
  | .imgCmdDone _ _ _ _
    => some [.r0 (IMG.CMD 0), .r0 (IMG.EPOCH_STAT 0), .r0 (IMG.EVT 0)]
  | .provCmdDone p _ _ _ _
    => some [.r0 (IMG.EPOCH_STAT 0), .r0 (KEYS.PROV_CMD p), .r1 (fun x0 => KEYS.PROV p x0)]
  | .feedVal _ p _
    => some [.r0 (LOUPE.EVT p), .r0 (LOUPE.FEED_VAL p), .r0 (LOUPE.LAST p)]
  | .witnessSend
    => some [.r0 (PAIR.CNT 0 13), .r1 DEV.CNT_LAST, .r1 DEV.EVT]
  | .credit _ _ _ | .bootOffer | .chunk
    => some [.r0 (PLX.CNT 0 10), .r1 DEV.CNT_LAST, .r1 DEV.EVT]
  | .chunkWrite p
    => some [.r0 (PSCP.CNT p 8), .r1 DEV.CNT_LAST, .r1 DEV.EVT]
  | .recorderLinkTimeout p
    => some [.r0 (PSCP.EVT p), .r0 (PSCP.LAST_ERR p), .r0 (PSCP.RD_CMD p)]
  | .recorderInitDone p _ _ _
    => some [.r0 (PSCP.EVT p), .r0 (PSCP.LAST_ERR p), .r0 (PSCP.RD_CMD p)]
  | .recorderLinkLost p
    => some [.r0 (PSCP.EVT p), .r0 (PSCP.LAST_ERR p), .r0 (PSCP.RD_CMD p)]
  | .tunnelSend p _
    => some [.r0 (SGW.CNT p 11), .r1 DEV.CNT_LAST, .r1 DEV.EVT]
  | .pinholeTurnOn d
    => some [.r1 (fun x0 => CHN.CNT d x0 0), .r1 DEV.CNT_LAST, .r1 DEV.EVT]
  | .slowEdgeLost _
    => some [.r1 DEV.EVT, .r1 SUP.EVT, .r1 TIME.EVT]
  | .timeMark _
    => some [.r1 TIME.EVT, .r1 TIME.SYNC, .r2 PSFP.GCL_STAT]
  | .acCmdRead _ p c _
    => some [.r0 (BLK_ERR (aDie (CAN.AC_CMD p c)) (aBlk (CAN.AC_CMD p c))), .r0 (CAN.AC_CMD p c), .r0 (CAN.AC_W0 p c), .r0
      (CAN.AC_W1 p c)]
  | .acCmdFind _ p c _
    => some [.r0 (BLK_ERR (aDie (CAN.AC_CMD p c)) (aBlk (CAN.AC_CMD p c))), .r0 (CAN.AC_CMD p c), .r0 (CAN.AC_W0 p c), .r0
      (CAN.AC_W1 p c)]
  | .acCmdEmpty _ p c _
    => some [.r0 (BLK_ERR (aDie (CAN.AC_CMD p c)) (aBlk (CAN.AC_CMD p c))), .r0 (CAN.AC_CMD p c), .r0 (CAN.AC_W0 p c), .r0
      (CAN.AC_W1 p c)]
  | .filtCmdRead _ p c _
    => some [.r0 (BLK_ERR (aDie (CAN.FILT_CMD p c)) (aBlk (CAN.FILT_CMD p c))), .r0 (CAN.FILT_CMD p c), .r0 (CAN.FILT_W0 p c),
      .r0 (CAN.FILT_W1 p c)]
  | .filtCmdWrite _ p c _
    => some [.r0 (BLK_ERR (aDie (CAN.FILT_CMD p c)) (aBlk (CAN.FILT_CMD p c))), .r0 (CAN.FILT_CMD p c), .r0 (CAN.FILT_W0 p c),
      .r0 (CAN.FILT_W1 p c)]
  | .repCmdRead _ p _
    => some [.r0 (BLK_ERR (aDie (FAB.REP_CMD p)) (aBlk (FAB.REP_CMD p))), .r0 (FAB.REP_CMD p), .r0 (FAB.REP_W0 p), .r0
      (FAB.REP_W1 p)]
  | .repCmdWrite _ p _
    => some [.r0 (BLK_ERR (aDie (FAB.REP_CMD p)) (aBlk (FAB.REP_CMD p))), .r0 (FAB.REP_CMD p), .r0 (FAB.REP_W0 p), .r0
      (FAB.REP_W1 p)]
  | .sigCmdRead _ p _
    => some [.r0 (BLK_ERR (aDie (SGW.SIG_CMD p)) (aBlk (SGW.SIG_CMD p))), .r0 (SGW.SIG_CMD p), .r0 (SGW.SIG_TS p), .r0
      (SGW.SIG_VAL p)]
  | .sigCmdWrite _ p _
    => some [.r0 (BLK_ERR (aDie (SGW.SIG_CMD p)) (aBlk (SGW.SIG_CMD p))), .r0 (SGW.SIG_CMD p), .r0 (SGW.SIG_TS p), .r0
      (SGW.SIG_VAL p)]
  | .canIntegrated p c
    => some [.r0 (CAN.CNT p c 11), .r0 (QMGR.EVT p), .r1 DEV.CNT_LAST, .r1 DEV.EVT]
  | .openLoad d c _
    => some [.r0 (CHN.CNT d c 8), .r0 (CHN.EVT d c), .r1 DEV.CNT_LAST, .r1 DEV.EVT]
  | .learnNoticeReceive p _ _
    => some [.r0 (CLS.EVT p), .r1 (fun x0 => CLS.CNT p x0), .r1 DEV.CNT_LAST, .r1 DEV.EVT]
  | .interruptDelivery p
    => some [.r0 (CPU.EVT p), .r1 (fun x0 => CPU.CNT p x0), .r1 DEV.CNT_LAST, .r1 DEV.EVT]
  | .partitionRestart p k _
    => some [.r0 (CPU.KICK p k), .r0 (IMG.EVT 0), .r0 (IMG.FW_STAT 0), .r2 CPU.PSTAT]
  | .linkUp p f _
    => some [.r0 (ETH.CNT p f 9), .r0 (ETH.EVT p f), .r1 DEV.CNT_LAST, .r1 DEV.EVT]
  | .hello p f _
    => some [.r0 (ETH.CNT p f 9), .r0 (PLX.CNT 0 10), .r1 DEV.CNT_LAST, .r1 DEV.EVT]
  | .snap _ p f _
    => some [.r0 (ETH.CNT p f 9), .r1 (fun x0 => ETH.SNAPCNT p f x0), .r1 DEV.CNT_LAST, .r1 DEV.EVT]
  | .restartAn _ p f _
    => some [.r0 (ETH.CNT p f 9), .r1 (fun x0 => ETH.SNAPCNT p f x0), .r1 DEV.CNT_LAST, .r1 DEV.EVT]
  | .epochAreaRead _ | .epochWrite _ _ _ _
    => some [.r0 (IMG.EPOCH 0), .r0 (IMG.EPOCH_STAT 0), .r0 (IMG.EVT 0), .r0 (RSTC.START 0)]
  | .resilverPass p
    => some [.r0 (KEYS.CNT p 5), .r0 (KEYS.EVT p), .r1 DEV.CNT_LAST, .r1 DEV.EVT]
  | .rngHealthFail p
    => some [.r0 (KEYS.CNT p 7), .r0 (KEYS.EVT p), .r1 DEV.CNT_LAST, .r1 DEV.EVT]
  | .linBusFault p c _
    => some [.r0 (LIN.CNT p c 12), .r0 (LIN.EVT p c), .r1 DEV.CNT_LAST, .r1 DEV.EVT]
  | .episodeClose p
    => some [.r0 (PSCP.CNT p 8), .r0 (PSCP.EVT p), .r1 DEV.CNT_LAST, .r1 DEV.EVT]
  | .tokenLost
    => some [.r0 (WAKE.CNT 0 6), .r0 (WAKE.EVT 0), .r1 DEV.CNT_LAST, .r1 DEV.EVT]
  | .snapCmdSnapshot _ p _
    => some [.r0 (BLK_ERR (aDie (LOUPE.SNAP_CMD p)) (aBlk (LOUPE.SNAP_CMD p))), .r0 (LOUPE.SNAP_CMD p), .r1 (fun x0 =>
      LOUPE.SNAP_HDR p x0), .r2 (fun x0 n => LOUPE.SNAP_HDR p x0 + n), .r2 (fun x0 x1 => snapBin p x0 x1)]
  | .snapCmdSnapshotClear _ p _
    => some [.r0 (BLK_ERR (aDie (LOUPE.SNAP_CMD p)) (aBlk (LOUPE.SNAP_CMD p))), .r0 (LOUPE.SNAP_CMD p), .r1 (fun x0 =>
      LOUPE.SNAP_HDR p x0), .r2 (fun x0 n => LOUPE.SNAP_HDR p x0 + n), .r2 (fun x0 x1 => snapBin p x0 x1)]
  | .trigger _ p _
    => some [.r0 (BLK_ERR (aDie (PSCP.CMD p)) (aBlk (PSCP.CMD p))), .r0 (PSCP.CMD p), .r0 (PSCP.CNT p 8), .r1 DEV.CNT_LAST, .r1
      DEV.EVT]
  | .restart _ p _
    => some [.r0 (BLK_ERR (aDie (PSCP.CMD p)) (aBlk (PSCP.CMD p))), .r0 (PSCP.CMD p), .r0 (PSCP.CNT p 8), .r1 DEV.CNT_LAST, .r1
      DEV.EVT]
  | .release _ p _
    => some [.r0 (BLK_ERR (aDie (PSCP.CMD p)) (aBlk (PSCP.CMD p))), .r0 (PSCP.CMD p), .r0 (PSCP.CNT p 8), .r1 DEV.CNT_LAST, .r1
      DEV.EVT]
  | .profCmdRead _ p _
    => some [.r0 (BLK_ERR (aDie (SEAL.PROF_CMD p)) (aBlk (SEAL.PROF_CMD p))), .r0 (SEAL.PROF_CMD p), .r0 (SEAL.PROF_W0 p), .r0
      (SEAL.PROF_W1 p), .r0 (SEAL.PROF_W2 p)]
  | .profCmdWrite _ p _
    => some [.r0 (BLK_ERR (aDie (SEAL.PROF_CMD p)) (aBlk (SEAL.PROF_CMD p))), .r0 (SEAL.PROF_CMD p), .r0 (SEAL.PROF_W0 p), .r0
      (SEAL.PROF_W1 p), .r0 (SEAL.PROF_W2 p)]
  | .ageingSweep p
    => some [.r0 (CLS.CNT p 3), .r0 (CLS.CNT p 8), .r0 (CLS.EVT p), .r1 DEV.CNT_LAST, .r1 DEV.EVT]
  | .linkDown p f _ _ _
    => some [.r0 (ETH.CNT p f 52), .r0 (ETH.CNT p f 9), .r0 (ETH.EVT p f), .r1 DEV.CNT_LAST, .r1 DEV.EVT]
  | .fwSectionDone _
    => some [.r0 (IMG.EVT 0), .r0 (IMG.FW_STAT 0), .r0 (RSTC.START 0), .r0 (RSTC.TIME_B 0), .r2 CPU.PSTAT]
  | .stageSuccess _ | .thermalHoldEnd
    => some [.r0 (KEYS.EVT 0), .r0 (RSTC.STRAP 0), .r0 (WAKE.CAUSE 0), .r2 CAN.TDC, .r2 ETH.TS]
  | .linSlot p c _ _ _
    => some [.r0 (LIN.EVT p c), .r0 (LIN.LAST p c), .r1 (fun x0 => LIN.CNT p c x0), .r1 DEV.CNT_LAST, .r1 DEV.EVT]
  | .linResponse p c _ _ _
    => some [.r0 (LIN.EVT p c), .r0 (LIN.LAST p c), .r1 (fun x0 => LIN.CNT p c x0), .r1 DEV.CNT_LAST, .r1 DEV.EVT]
  | .pairLinkLoss _ | .pairDecide _
    => some [.r0 (PAIR.CNT 0 11), .r0 (PAIR.CNT 0 12), .r0 (PAIR.EVT 0), .r1 DEV.CNT_LAST, .r1 DEV.EVT]
  | .rdCmdDone p _ _
    => some [.r0 (PSCP.CNT p 9), .r0 (PSCP.RD_CMD p), .r1 (fun x0 => PSCP.RD_BUF p x0), .r1 DEV.CNT_LAST, .r1 DEV.EVT]
  | .gateEntryBegin p _
    => some [.r0 (PSFP.CNT p 0), .r0 (PSFP.EVT p), .r0 (PSFP.LAST p), .r1 DEV.CNT_LAST, .r1 DEV.EVT]
  | .facetDownFlush p _
    => some [.r0 (QMGR.CNT p 5), .r0 (QMGR.EVT p), .r0 (QMGR.FLUSH_CMD p), .r1 DEV.CNT_LAST, .r1 DEV.EVT]
  | .flushDone p
    => some [.r0 (QMGR.CNT p 5), .r0 (QMGR.EVT p), .r0 (QMGR.FLUSH_CMD p), .r1 DEV.CNT_LAST, .r1 DEV.EVT]
  | .tpTimerExpire p _ _ _ _
    => some [.r0 (SGW.CNT p 17), .r0 (SGW.EVT p), .r0 (SGW.LAST p), .r1 DEV.CNT_LAST, .r1 DEV.EVT]
  | .powerOn _ _ _ _ | .vbatResetRelease _ | .regulatorRetry | .admissionWindowExpire | .takeoverHoldEnd _ _
    => some [.r0 (WAKE.CNT 0 11), .r0 (WAKE.CNT 0 9), .r0 (WAKE.EVT 0), .r1 DEV.CNT_LAST, .r1 DEV.EVT]
  | .rdCmd _ p _
    => some [.r0 (BLK_ERR (aDie (PSCP.RD_CMD p)) (aBlk (PSCP.RD_CMD p))), .r0 (PSCP.CNT p 10), .r0 (PSCP.CNT p 8), .r0
      (PSCP.RD_CMD p), .r1 DEV.CNT_LAST, .r1 DEV.EVT]
  | .qCmdRead _ p _
    => some [.r0 (BLK_ERR (aDie (QMGR.Q_CMD p)) (aBlk (QMGR.Q_CMD p))), .r0 (QMGR.EVT p), .r0 (QMGR.Q_CMD p), .r0 (QMGR.Q_W0 p),
      .r0 (QMGR.Q_W1 p), .r0 (QMGR.Q_W2 p)]
  | .qCmdWrite _ p _
    => some [.r0 (BLK_ERR (aDie (QMGR.Q_CMD p)) (aBlk (QMGR.Q_CMD p))), .r0 (QMGR.EVT p), .r0 (QMGR.Q_CMD p), .r0 (QMGR.Q_W0 p),
      .r0 (QMGR.Q_W1 p), .r0 (QMGR.Q_W2 p)]
  | .canArbitrationLost p c
    => some [.r0 (CAN.CNT p c 10), .r0 (CAN.CNT p c 11), .r0 (CAN.CNT p c 9), .r0 (QMGR.EVT p), .r1 DEV.CNT_LAST, .r1 DEV.EVT]
  | .canRecoveryDone p c
    => some [.r0 (CAN.CNT p c 11), .r0 (CAN.CNT p c 18), .r0 (CAN.EVT p c), .r0 (QMGR.EVT p), .r1 DEV.CNT_LAST, .r1 DEV.EVT]
  | .selftestEnd d c _
    => some [.r0 (CHN.EVT d c), .r0 (WAKE.CNT 0 11), .r0 (WAKE.CNT 0 9), .r0 (WAKE.EVT 0), .r1 DEV.CNT_LAST, .r1 DEV.EVT]
  | .pairHeartbeatSend
    => some [.r0 (KEYS.CNT 0 6), .r0 (KEYS.EVT 0), .r0 (KEYS.LAST 0), .r1 (fun x0 => KEYS.SLOT 0 x0), .r1 DEV.CNT_LAST, .r1
      DEV.EVT]
  | .keyLoadDone p n
    => some [.r0 (KEYS.CNT p 0), .r0 (KEYS.EVT p), .r0 (KEYS.LAST p), .r0 (KEYS.SLOT p n), .r1 DEV.CNT_LAST, .r1 DEV.EVT]
  | .pairJoin _
    => some [.r0 (PAIR.EVT 0), .r0 (WAKE.CNT 0 11), .r0 (WAKE.CNT 0 9), .r0 (WAKE.EVT 0), .r1 DEV.CNT_LAST, .r1 DEV.EVT]
  | .recorderResume p _ _ _
    => some [.r0 (PSCP.CNT p 0), .r0 (PSCP.CNT p 1), .r0 (PSCP.CNT p 8), .r0 (PSCP.EVT p), .r1 DEV.CNT_LAST, .r1 DEV.EVT]
  | .nvmeCompletion p _ _ _
    => some [.r0 (PSCP.CNT p 9), .r0 (PSCP.EVT p), .r0 (PSCP.LAST_ERR p), .r0 (PSCP.RD_CMD p), .r1 DEV.CNT_LAST, .r1 DEV.EVT]
  | .gclSwitch p f
    => some [.r0 (PSFP.CNT p 0), .r0 (PSFP.EVT p), .r0 (PSFP.GCL_STAT p f), .r0 (PSFP.LAST p), .r1 DEV.CNT_LAST, .r1 DEV.EVT]
  | .spillBlock p _ _
    => some [.r0 (QMGR.EVT p), .r0 (SPILL.CNT p 0), .r0 (SPILL.CNT p 3), .r0 (SPILL.EVT p), .r1 DEV.CNT_LAST, .r1 DEV.EVT]
  | .sagEnd d _
    => some [.r0 (SUP.EVT d), .r0 (WAKE.CNT 0 11), .r0 (WAKE.CNT 0 9), .r0 (WAKE.EVT 0), .r1 DEV.CNT_LAST, .r1 DEV.EVT]
  | .ovOpen d _
    => some [.r0 (SUP.EVT d), .r0 (WAKE.CNT 0 11), .r0 (WAKE.CNT 0 9), .r0 (WAKE.EVT 0), .r1 DEV.CNT_LAST, .r1 DEV.EVT]
  | .ovEnd d _
    => some [.r0 (SUP.EVT d), .r0 (WAKE.CNT 0 11), .r0 (WAKE.CNT 0 9), .r0 (WAKE.EVT 0), .r1 DEV.CNT_LAST, .r1 DEV.EVT]
  | .wakeFailsafe _ _ | .confirm _ _ _ | .wakeValidityTimeout
    => some [.r0 (WAKE.CAUSE 0), .r0 (WAKE.CNT 0 5), .r0 (WAKE.EVT 0), .r1 DEV.CNT_LAST, .r1 DEV.EVT, .r1 WKP.EVT]
  | .admissionRequest _ _
    => some [.r0 (WAKE.CNT 0 10), .r0 (WAKE.CNT 0 11), .r0 (WAKE.CNT 0 9), .r0 (WAKE.EVT 0), .r1 DEV.CNT_LAST, .r1 DEV.EVT]
  | .wakeStart _
    => some [.r0 (WAKE.CNT 0 11), .r0 (WAKE.CNT 0 9), .r0 (WAKE.EVT 0), .r0 (WKP.EVT 0), .r1 DEV.CNT_LAST, .r1 DEV.EVT]
  | .pubCmdRead _ p c _
    => some [.r0 (BLK_ERR (aDie (LIN.PUB_CMD p c)) (aBlk (LIN.PUB_CMD p c))), .r0 (LIN.CNT p c 10), .r0 (LIN.PUB_CMD p c), .r0
      (LIN.PUB_W0 p c), .r0 (LIN.PUB_W1 p c), .r1 DEV.CNT_LAST, .r1 DEV.EVT]
  | .pubCmdWrite _ p c _
    => some [.r0 (BLK_ERR (aDie (LIN.PUB_CMD p c)) (aBlk (LIN.PUB_CMD p c))), .r0 (LIN.CNT p c 10), .r0 (LIN.PUB_CMD p c), .r0
      (LIN.PUB_W0 p c), .r0 (LIN.PUB_W1 p c), .r1 DEV.CNT_LAST, .r1 DEV.EVT]
  | .dtCmdRead _ _ | .dtCmdRemove _ _
    => some [.r0 (BLK_ERR (aDie (PLX.DT_CMD 0)) (aBlk (PLX.DT_CMD 0))), .r0 (PLX.DT_CMD 0), .r0 (PLX.DT_W0 0), .r0 (PLX.DT_W1
      0), .r0 (PLX.DT_W2 0), .r0 (PLX.DT_W3 0), .r0 (PLX.DT_W4 0)]
  | .dtTrip d c
    => some [.r0 (CHN.CNT d c 1), .r0 (CHN.EVT d c), .r0 (WAKE.CNT 0 11), .r0 (WAKE.CNT 0 9), .r0 (WAKE.EVT 0), .r1
      DEV.CNT_LAST, .r1 DEV.EVT]
  | .guardTrip d c
    => some [.r0 (CHN.CNT d c 2), .r0 (CHN.EVT d c), .r0 (WAKE.CNT 0 11), .r0 (WAKE.CNT 0 9), .r0 (WAKE.EVT 0), .r1
      DEV.CNT_LAST, .r1 DEV.EVT]
  | .hardTrip d c
    => some [.r0 (CHN.CNT d c 3), .r0 (CHN.EVT d c), .r0 (WAKE.CNT 0 11), .r0 (WAKE.CNT 0 9), .r0 (WAKE.EVT 0), .r1
      DEV.CNT_LAST, .r1 DEV.EVT]
  | .shortDetect d c
    => some [.r0 (CHN.CNT d c 4), .r0 (CHN.EVT d c), .r0 (WAKE.CNT 0 11), .r0 (WAKE.CNT 0 9), .r0 (WAKE.EVT 0), .r1
      DEV.CNT_LAST, .r1 DEV.EVT]
  | .limitHeld d c
    => some [.r0 (CHN.CNT d c 4), .r0 (CHN.EVT d c), .r0 (WAKE.CNT 0 11), .r0 (WAKE.CNT 0 9), .r0 (WAKE.EVT 0), .r1
      DEV.CNT_LAST, .r1 DEV.EVT]
  | .tdmaJobDone p j
    => some [.r0 (CLS.CNT p 2), .r0 (CLS.EVT p), .r0 (TDMA.EVT p), .r0 (TDMA.JOB_STAT p j), .r1 (fun x0 => TDMA.BUF p x0), .r1
      DEV.CNT_LAST, .r1 DEV.EVT]
  | .frameEntry p
    => some [.r0 (FAB.CNT p 0), .r0 (FAB.CNT p 1), .r0 (FAB.CNT p 2), .r0 (QMGR.EVT p), .r1 (fun x0 => ETH.CNT p x0 16), .r1
      DEV.CNT_LAST, .r1 DEV.EVT]
  | .slotExamine _
    => some [.r0 (IMG.DIGEST 0), .r0 (IMG.EVT 0), .r0 (IMG.ID 0), .r0 (IMG.STAT 0), .r0 (RSTC.START 0), .r0 (RSTC.TIME_A 0), .r1
      slotReg]
  | .netImageReceived
    => some [.r0 (IMG.DIGEST 0), .r0 (IMG.ID 0), .r0 (IMG.STAT 0), .r0 (IMG.XFER 0), .r0 (RSTC.START 0), .r0 (RSTC.TIME_A 0),
      .r0 (slotReg 2)]
  | .inputStateChange d _ _ _
    => some [.r0 (IN.EVT d), .r0 (IN.LAST d), .r0 (WAKE.CNT 0 11), .r0 (WAKE.CNT 0 9), .r0 (WAKE.EVT 0), .r1 DEV.CNT_LAST, .r1
      DEV.EVT]
  | .keyOpDone p
    => some [.r0 (KEYS.CNT p 0), .r0 (KEYS.EVT p), .r0 (KEYS.LAST p), .r0 (KEYS.OP_CMD p), .r1 (fun x0 => KEYS.SLOT p x0), .r1
      DEV.CNT_LAST, .r1 DEV.EVT]
  | .heartbeatLost d
    => some [.r0 (PAIR.EVT 0), .r0 (PIN.EVT d), .r0 (WAKE.CNT 0 11), .r0 (WAKE.CNT 0 9), .r0 (WAKE.EVT 0), .r1 DEV.CNT_LAST, .r1
      DEV.EVT]
  | .handoverSwitch
    => some [.r0 (PAIR.EVT 0), .r0 (WAKE.CNT 0 11), .r0 (WAKE.CNT 0 9), .r0 (WAKE.EVT 0), .r1 DEV.CNT_LAST, .r1 DEV.EVT, .r2
      (fun x0 x1 => CHN.CNT x0 x1 0)]
  | .recorderFlush p
    => some [.r0 (PSCP.CNT p 0), .r0 (PSCP.CNT p 1), .r0 (PSCP.CNT p 2), .r0 (PSCP.CNT p 8), .r0 (PSCP.EVT p), .r1 DEV.CNT_LAST,
      .r1 DEV.EVT]
  | .fetchBlock p _ _ _
    => some [.r0 (QMGR.EVT p), .r0 (SPILL.CNT p 1), .r0 (SPILL.CNT p 2), .r0 (SPILL.CNT p 3), .r0 (SPILL.EVT p), .r1
      DEV.CNT_LAST, .r1 DEV.EVT]
  | .serviceEntry
    => some [.r0 (WAKE.CAUSE 0), .r0 (WAKE.CNT 0 1), .r0 (WAKE.CNT 0 5), .r0 (WAKE.EVT 0), .r1 DEV.CNT_LAST, .r1 DEV.EVT, .r1
      WKP.EVT]
  | .handover _ _ _
    => some [.r0 (BLK_ERR (aDie (PAIR.CMD 0)) (aBlk (PAIR.CMD 0))), .r0 (KEYS.CNT 0 6), .r0 (KEYS.EVT 0), .r0 (KEYS.LAST 0), .r0
      (PAIR.CMD 0), .r1 (fun x0 => KEYS.SLOT 0 x0), .r1 DEV.CNT_LAST, .r1 DEV.EVT]
  | .d2dCellReceive p j _
    => some [.r0 (D2D.CELLS_RX p j), .r0 (D2D.CELLS_TX (d2dFar p j) (d2dLink (d2dFar p j) p)), .r0 (D2D.HOLD_MAX (d2dFar p j)
      (d2dLink (d2dFar p j) p)), .r0 (FAB.CELL_ERR_LAST p), .r0 (FAB.CNT p 6), .r0 (FAB.EVT p), .r1 DEV.CNT_LAST, .r1 DEV.EVT]
  | .cellCheckFailure p f _ _ _ _ _
    => some [.r0 (D2D.CHECK_ERRS p (f - 56)), .r0 (D2D.EVT p (f - 56)), .r0 (FAB.CELL_ERR_LAST p), .r0 (FAB.CNT p 6), .r0
      (FAB.EVT p), .r1 DEV.CNT_LAST, .r1 DEV.EVT, .r1 QMGR.EVT]
  | .xoffCross p f
    => some [.r0 (ETH.CNT p f (28 + daKind 1652522221569)), .r0 (ETH.CNT p f (39 + bandOf 64)), .r0 (ETH.CNT p f 26), .r0
      (ETH.CNT p f 27), .r0 (ETH.CNT p f 31), .r0 (ETH.CNT p f 32), .r1 DEV.CNT_LAST, .r1 DEV.EVT]
  | .xonCross p f
    => some [.r0 (ETH.CNT p f (28 + daKind 1652522221569)), .r0 (ETH.CNT p f (39 + bandOf 64)), .r0 (ETH.CNT p f 26), .r0
      (ETH.CNT p f 27), .r0 (ETH.CNT p f 31), .r0 (ETH.CNT p f 32), .r1 DEV.CNT_LAST, .r1 DEV.EVT]
  | .pauseRefresh p f
    => some [.r0 (ETH.CNT p f (28 + daKind 1652522221569)), .r0 (ETH.CNT p f (39 + bandOf 64)), .r0 (ETH.CNT p f 26), .r0
      (ETH.CNT p f 27), .r0 (ETH.CNT p f 31), .r0 (ETH.CNT p f 32), .r1 DEV.CNT_LAST, .r1 DEV.EVT]
  | .keepalivePnSend _ | .keepaliveSend
    => some [.r0 (KEYS.CNT 0 6), .r0 (KEYS.EVT 0), .r0 (KEYS.LAST 0), .r0 (PLX.CNT 0 0), .r0 (WAKE.CNT 0 7), .r1 (fun x0 =>
      KEYS.SLOT 0 x0), .r1 DEV.CNT_LAST, .r1 DEV.EVT]
  | .bootReq _
    => some [.r0 (KEYS.CNT 0 6), .r0 (KEYS.EVT 0), .r0 (KEYS.LAST 0), .r0 (PLX.CNT 0 10), .r0 (PLX.CNT 0 12), .r1 (fun x0 =>
      KEYS.SLOT 0 x0), .r1 DEV.CNT_LAST, .r1 DEV.EVT]
  | .claimProbe _
    => some [.r0 (PAIR.CNT 0 10), .r0 (PAIR.CNT 0 9), .r0 (PAIR.EVT 0), .r0 (WAKE.CNT 0 11), .r0 (WAKE.CNT 0 9), .r0 (WAKE.EVT
      0), .r1 DEV.CNT_LAST, .r1 DEV.EVT]
  | .logicHot d
    => some [.r0 (THM.EVT d), .r0 (WAKE.CNT 0 11), .r0 (WAKE.CNT 0 9), .r0 (WAKE.EVT 0), .r1 (fun x0 => CHN.CNT d x0 3), .r1
      (fun x0 => CHN.EVT d x0), .r1 DEV.CNT_LAST, .r1 DEV.EVT]
  | .pnWake _
    => some [.r0 (WAKE.CAUSE 0), .r0 (WAKE.CNT 0 2), .r0 (WAKE.CNT 0 5), .r0 (WAKE.EVT 0), .r1 DEV.CNT_LAST, .r1 DEV.EVT, .r1
      WKP.EVT, .r2 BLK_CTRL]
  | .keepalivePnSeen _ _
    => some [.r0 (WAKE.CAUSE 0), .r0 (WAKE.CNT 0 5), .r0 (WAKE.CNT 0 8), .r0 (WAKE.EVT 0), .r1 (fun x0 => WAKE.PN_STAT 0 x0),
      .r1 DEV.CNT_LAST, .r1 DEV.EVT, .r1 WKP.EVT]
  | .chnCmd _ d c _
    => some [.r0 (BLK_ERR (aDie (CHN.CMD d c)) (aBlk (CHN.CMD d c))), .r0 (CHN.CMD d c), .r0 (CHN.CNT d c 10), .r0 (CHN.CNT d c
      9), .r0 (WAKE.CNT 0 11), .r0 (WAKE.CNT 0 9), .r0 (WAKE.EVT 0), .r1 DEV.CNT_LAST, .r1 DEV.EVT]
  | .lpmInsert _ p _
    => some [.r0 (BLK_ERR (aDie (LPM.CMD p)) (aBlk (LPM.CMD p))), .r0 (LPM.CMD p), .r0 (LPM.CNT p 4), .r0 (LPM.EVT p), .r0
      (LPM.KEY_0 p), .r0 (LPM.KEY_1 p), .r0 (LPM.KEY_2 p), .r1 DEV.CNT_LAST, .r1 DEV.EVT]
  | .lpmDelete _ p _
    => some [.r0 (BLK_ERR (aDie (LPM.CMD p)) (aBlk (LPM.CMD p))), .r0 (LPM.CMD p), .r0 (LPM.CNT p 4), .r0 (LPM.EVT p), .r0
      (LPM.KEY_0 p), .r0 (LPM.KEY_1 p), .r0 (LPM.KEY_2 p), .r1 DEV.CNT_LAST, .r1 DEV.EVT]
  | .lpmFind _ p _
    => some [.r0 (BLK_ERR (aDie (LPM.CMD p)) (aBlk (LPM.CMD p))), .r0 (LPM.CMD p), .r0 (LPM.CNT p 4), .r0 (LPM.EVT p), .r0
      (LPM.KEY_0 p), .r0 (LPM.KEY_1 p), .r0 (LPM.KEY_2 p), .r1 DEV.CNT_LAST, .r1 DEV.EVT]
  | .clampEventEnd d c _
    => some [.r0 (CHN.CLAMP d c), .r0 (CHN.CNT d c 6), .r0 (CHN.CNT d c 7), .r0 (CHN.EVT d c), .r0 (WAKE.CNT 0 11), .r0
      (WAKE.CNT 0 9), .r0 (WAKE.EVT 0), .r1 DEV.CNT_LAST, .r1 DEV.EVT]
  | .wakePatternSlot
    => some [.r0 (KEYS.CNT 0 6), .r0 (KEYS.EVT 0), .r0 (KEYS.LAST 0), .r0 (PLX.CNT 0 0), .r0 (WAKE.CNT 0 7), .r1 (fun x0 =>
      KEYS.SLOT 0 x0), .r1 DEV.CNT_LAST, .r1 DEV.EVT, .r2 BLK_CTRL]
  | .chunkReq _
    => some [.r0 (KEYS.CNT 0 6), .r0 (KEYS.EVT 0), .r0 (KEYS.LAST 0), .r0 (PLX.CNT 0 10), .r0 (PLX.CNT 0 11), .r0 (PLX.CNT 0
      12), .r1 (fun x0 => KEYS.SLOT 0 x0), .r1 DEV.CNT_LAST, .r1 DEV.EVT]
  | .limpNAssert d
    => some [.r0 (PAIR.EVT 0), .r0 (PIN.EVT d), .r0 (WAKE.CNT 0 11), .r0 (WAKE.CNT 0 9), .r0 (WAKE.EVT 0), .r0 (WKP.EVT d), .r1
      DEV.CNT_LAST, .r1 DEV.EVT, .r1 WKP.CAUSE]
  | .triggerTake p
    => some [.r0 (PSCP.CNT p 0), .r0 (PSCP.CNT p 1), .r0 (PSCP.CNT p 5), .r0 (PSCP.CNT p 6), .r0 (PSCP.CNT p 7), .r0 (PSCP.CNT p
      8), .r0 (PSCP.EVT p), .r1 DEV.CNT_LAST, .r1 DEV.EVT]
  | .stormTimeout p f _
    => some [.r0 (D2D.EVT p (f - 56)), .r0 (FAB.CNT p 5), .r0 (FAB.EVT p), .r0 (FAB.STORM_CNT p f), .r0 (FAB.STORM_LAST p), .r0
      (FAB.STORM_TIME p), .r1 (fun x0 => CPU.CNT p x0), .r1 (fun x0 => CPU.TXR_B p x0), .r1 DEV.CNT_LAST, .r1 DEV.EVT]
  | .resetNRelease _ _
    => some [.r0 (KEYS.EVT 0), .r0 (RSTC.STRAP 0), .r0 (WAKE.CAUSE 0), .r0 (WAKE.CNT 0 11), .r0 (WAKE.CNT 0 9), .r0 (WAKE.EVT
      0), .r1 DEV.CNT_LAST, .r1 DEV.EVT, .r2 CAN.TDC, .r2 ETH.TS]
  | .canKeepaliveReceive _ _ _
    => some [.r0 (PLX.EVT 0), .r0 (PLX.LAST 0), .r0 (WAKE.CAUSE 0), .r0 (WAKE.CNT 0 5), .r0 (WAKE.CNT 0 8), .r0 (WAKE.EVT 0),
      .r1 (fun x0 => WAKE.PN_STAT 0 x0), .r1 DEV.CNT_LAST, .r1 DEV.EVT, .r1 WKP.EVT]
  | .pnSleep _
    => some [.r0 (WAKE.CNT 0 3), .r0 (WAKE.EVT 0), .r1 DEV.CNT_LAST, .r1 DEV.EVT, .r1 QMGR.EVT, .r2 (fun x0 x1 => CAN.CNT x0 x1
      11), .r2 (fun x0 x1 => ETH.CNT x0 x1 52), .r2 (fun x0 x1 => ETH.CNT x0 x1 9), .r2 BLK_CTRL, .r2 ETH.EVT]
  | .canError p c kind _ _ _ _ _
    => some [.r0 (CAN.CNT p c (12 + kind)), .r0 (CAN.CNT p c 10), .r0 (CAN.CNT p c 11), .r0 (CAN.CNT p c 18), .r0 (CAN.CNT p c
      19), .r0 (CAN.EVT p c), .r0 (CAN.LAST_ERR p c), .r0 (CAN.LAST_ERR_TIME p c), .r0 (QMGR.EVT p), .r1 DEV.CNT_LAST, .r1
      DEV.EVT]
  | .ciphJobDone p c _
    => some [.r0 (CIPH.CNT p 0), .r0 (CIPH.CNT p 1), .r0 (CIPH.CNT p 6), .r0 (CIPH.EVT p), .r0 (CIPH.JOB_STAT p c), .r0
      (CIPH.LAST p), .r0 (KEYS.CNT p 6), .r0 (KEYS.EVT p), .r0 (KEYS.LAST p), .r1 (fun x0 => KEYS.SLOT p x0), .r1 DEV.CNT_LAST,
      .r1 DEV.EVT]
  | .dropRest _ p _ _
    => some [.r0 (FAB.CNT p 3), .r0 (FAB.CNT p 4), .r0 (FAB.EVT p), .r0 (QMGR.CNT p 2), .r0 (QMGR.CNT p 3), .r0 (QMGR.CNT p 4),
      .r0 (QMGR.DROP_LAST p), .r0 (QMGR.EVT p), .r0 (ra p 129 515), .r1 (fun x0 => QMGR.LIMIT_DROPS p x0), .r1 DEV.CNT_LAST, .r1
      DEV.EVT]
  | .load _ p _
    => some [.r0 (BLK_ERR (aDie (KEYS.OP_CMD p)) (aBlk (KEYS.OP_CMD p))), .r0 (KEYS.CNT p 1), .r0 (KEYS.CNT p 2), .r0 (KEYS.CNT
      p 3), .r0 (KEYS.CNT p 4), .r0 (KEYS.CNT p 6), .r0 (KEYS.EVT p), .r0 (KEYS.LAST p), .r0 (KEYS.OP_CMD p), .r1 (fun x0 =>
      KEYS.OP_BUF p x0), .r1 (fun x0 => KEYS.SLOT p x0), .r1 DEV.CNT_LAST, .r1 DEV.EVT]
  | .derive _ p _
    => some [.r0 (BLK_ERR (aDie (KEYS.OP_CMD p)) (aBlk (KEYS.OP_CMD p))), .r0 (KEYS.CNT p 1), .r0 (KEYS.CNT p 2), .r0 (KEYS.CNT
      p 3), .r0 (KEYS.CNT p 4), .r0 (KEYS.CNT p 6), .r0 (KEYS.EVT p), .r0 (KEYS.LAST p), .r0 (KEYS.OP_CMD p), .r1 (fun x0 =>
      KEYS.OP_BUF p x0), .r1 (fun x0 => KEYS.SLOT p x0), .r1 DEV.CNT_LAST, .r1 DEV.EVT]
  | .unwrap _ p _
    => some [.r0 (BLK_ERR (aDie (KEYS.OP_CMD p)) (aBlk (KEYS.OP_CMD p))), .r0 (KEYS.CNT p 1), .r0 (KEYS.CNT p 2), .r0 (KEYS.CNT
      p 3), .r0 (KEYS.CNT p 4), .r0 (KEYS.CNT p 6), .r0 (KEYS.EVT p), .r0 (KEYS.LAST p), .r0 (KEYS.OP_CMD p), .r1 (fun x0 =>
      KEYS.OP_BUF p x0), .r1 (fun x0 => KEYS.SLOT p x0), .r1 DEV.CNT_LAST, .r1 DEV.EVT]
  | .wrap _ p _
    => some [.r0 (BLK_ERR (aDie (KEYS.OP_CMD p)) (aBlk (KEYS.OP_CMD p))), .r0 (KEYS.CNT p 1), .r0 (KEYS.CNT p 2), .r0 (KEYS.CNT
      p 3), .r0 (KEYS.CNT p 4), .r0 (KEYS.CNT p 6), .r0 (KEYS.EVT p), .r0 (KEYS.LAST p), .r0 (KEYS.OP_CMD p), .r1 (fun x0 =>
      KEYS.OP_BUF p x0), .r1 (fun x0 => KEYS.SLOT p x0), .r1 DEV.CNT_LAST, .r1 DEV.EVT]
  | .generate _ p _
    => some [.r0 (BLK_ERR (aDie (KEYS.OP_CMD p)) (aBlk (KEYS.OP_CMD p))), .r0 (KEYS.CNT p 1), .r0 (KEYS.CNT p 2), .r0 (KEYS.CNT
      p 3), .r0 (KEYS.CNT p 4), .r0 (KEYS.CNT p 6), .r0 (KEYS.EVT p), .r0 (KEYS.LAST p), .r0 (KEYS.OP_CMD p), .r1 (fun x0 =>
      KEYS.OP_BUF p x0), .r1 (fun x0 => KEYS.SLOT p x0), .r1 DEV.CNT_LAST, .r1 DEV.EVT]
  | .clear _ p _
    => some [.r0 (BLK_ERR (aDie (KEYS.OP_CMD p)) (aBlk (KEYS.OP_CMD p))), .r0 (KEYS.CNT p 1), .r0 (KEYS.CNT p 2), .r0 (KEYS.CNT
      p 3), .r0 (KEYS.CNT p 4), .r0 (KEYS.CNT p 6), .r0 (KEYS.EVT p), .r0 (KEYS.LAST p), .r0 (KEYS.OP_CMD p), .r1 (fun x0 =>
      KEYS.OP_BUF p x0), .r1 (fun x0 => KEYS.SLOT p x0), .r1 DEV.CNT_LAST, .r1 DEV.EVT]
  | .wrapRoot _ p _
    => some [.r0 (BLK_ERR (aDie (KEYS.OP_CMD p)) (aBlk (KEYS.OP_CMD p))), .r0 (KEYS.CNT p 1), .r0 (KEYS.CNT p 2), .r0 (KEYS.CNT
      p 3), .r0 (KEYS.CNT p 4), .r0 (KEYS.CNT p 6), .r0 (KEYS.EVT p), .r0 (KEYS.LAST p), .r0 (KEYS.OP_CMD p), .r1 (fun x0 =>
      KEYS.OP_BUF p x0), .r1 (fun x0 => KEYS.SLOT p x0), .r1 DEV.CNT_LAST, .r1 DEV.EVT]
  | .canReceive p c _ _ _
    => some [.r0 (CAN.EVT p c), .r0 (CAN.LAST_ERR p c), .r0 (CAN.LAST_ERR_TIME p c), .r0 (QMGR.EVT p), .r0 (WAKE.CAUSE 0), .r0
      (WAKE.CNT 0 5), .r0 (WAKE.CNT 0 8), .r0 (WAKE.EVT 0), .r1 (fun x0 => CAN.CNT p c x0), .r1 (fun x0 => WAKE.PN_STAT 0 x0),
      .r1 DEV.CNT_LAST, .r1 DEV.EVT, .r1 WKP.EVT]
  | .linPublish p c
    => some [.r0 (FAB.CNT p 3), .r0 (FAB.CNT p 4), .r0 (FAB.EVT p), .r0 (LIN.CNT p c 10), .r0 (QMGR.CNT p 2), .r0 (QMGR.CNT p
      3), .r0 (QMGR.CNT p 4), .r0 (QMGR.DROP_LAST p), .r0 (QMGR.EVT p), .r0 (ra p 129 515), .r1 (fun x0 => QMGR.LIMIT_DROPS p
      x0), .r1 DEV.CNT_LAST, .r1 DEV.EVT]
  | .sealBeacon _ _ _
    => some [.r1 (fun x0 => CIPH.CNT x0 6), .r1 (fun x0 => KEYS.CNT x0 6), .r1 (fun x0 => SEAL.CNT x0 1), .r1 (fun x0 =>
      SEAL.CNT x0 6), .r1 CIPH.EVT, .r1 CIPH.LAST, .r1 DEV.CNT_LAST, .r1 DEV.EVT, .r1 KEYS.EVT, .r1 KEYS.LAST, .r1 SEAL.EVT, .r1
      SEAL.LAST, .r2 KEYS.SLOT]
  | .canTransmitDone p c _ _
    => some [.r0 (CAN.EVT p c), .r0 (FAB.CNT p 3), .r0 (FAB.CNT p 4), .r0 (FAB.EVT p), .r0 (QMGR.CNT p 2), .r0 (QMGR.CNT p 3),
      .r0 (QMGR.CNT p 4), .r0 (QMGR.DROP_LAST p), .r0 (QMGR.EVT p), .r0 (ra p 129 515), .r1 (fun x0 => CAN.CNT p c x0), .r1 (fun
      x0 => QMGR.LIMIT_DROPS p x0), .r1 DEV.CNT_LAST, .r1 DEV.EVT]
  | .txAbort p f _ _
    => some [.r0 (CIPH.CNT p 6), .r0 (CIPH.EVT p), .r0 (CIPH.LAST p), .r0 (ETH.CNT p f 33), .r0 (ETH.CNT p f 34), .r0 (KEYS.CNT
      p 6), .r0 (KEYS.EVT p), .r0 (KEYS.LAST p), .r0 (MSEC.EVT p), .r0 (MSEC.LAST p), .r1 (fun x0 => KEYS.SLOT p x0), .r1 (fun
      x0 => MSEC.CNT p x0), .r1 DEV.CNT_LAST, .r1 DEV.EVT]
  | .ethReceive p f _ _ _ _ _
    => some [.r0 (CIPH.CNT p 6), .r0 (CIPH.EVT p), .r0 (CIPH.LAST p), .r0 (ETH.EVT p f), .r0 (KEYS.CNT p 6), .r0 (KEYS.EVT p),
      .r0 (KEYS.LAST p), .r0 (MSEC.EVT p), .r0 (MSEC.LAST p), .r1 (fun x0 => ETH.CNT p f x0), .r1 (fun x0 => KEYS.SLOT p x0),
      .r1 (fun x0 => MSEC.CNT p x0), .r1 DEV.CNT_LAST, .r1 DEV.EVT]
  | .pauseReceive p f _
    => some [.r0 (CIPH.CNT p 6), .r0 (CIPH.EVT p), .r0 (CIPH.LAST p), .r0 (ETH.EVT p f), .r0 (KEYS.CNT p 6), .r0 (KEYS.EVT p),
      .r0 (KEYS.LAST p), .r0 (MSEC.EVT p), .r0 (MSEC.LAST p), .r1 (fun x0 => ETH.CNT p f x0), .r1 (fun x0 => KEYS.SLOT p x0),
      .r1 (fun x0 => MSEC.CNT p x0), .r1 DEV.CNT_LAST, .r1 DEV.EVT]
  | .reply _
    => some [.r0 (KEYS.CNT 0 6), .r0 (KEYS.EVT 0), .r0 (KEYS.LAST 0), .r0 (PLX.EVT 0), .r0 (PLX.LAST 0), .r1 (fun x0 =>
      KEYS.SLOT 0 x0), .r1 (fun x0 => PLX.CNT 0 x0), .r1 (fun x0 => WBR.CNT x0 3), .r1 (fun x0 => WBR.CNT x0 5), .r1
      DEV.CNT_LAST, .r1 DEV.EVT, .r1 WBR.EVT, .r1 WBR.POST_ERR_ADDR, .r1 WBR.POST_ERR_INFO]
  | .blockEnable _ d b _
    => some [.r0 (BLK_ERR (aDie (BLK_CTRL d b)) (aBlk (BLK_CTRL d b))), .r0 (CAN.CNT d (b - 64) 11), .r0 (ETH.CNT d (b - 32)
      52), .r0 (ETH.CNT d (b - 32) 9), .r0 (ETH.EVT d (b - 32)), .r0 (PAIR.EVT 0), .r0 (PSCP.CNT d 8), .r0 (PSCP.RD_CMD d), .r0
      (QMGR.EVT d), .r0 (WAKE.CNT 0 11), .r0 (WAKE.CNT 0 9), .r0 (WAKE.EVT 0), .r1 DEV.CNT_LAST, .r1 DEV.EVT, .r2 BLK_CTRL]
  | .blockDisable _ d b _
    => some [.r0 (BLK_ERR (aDie (BLK_CTRL d b)) (aBlk (BLK_CTRL d b))), .r0 (CAN.CNT d (b - 64) 11), .r0 (ETH.CNT d (b - 32)
      52), .r0 (ETH.CNT d (b - 32) 9), .r0 (ETH.EVT d (b - 32)), .r0 (PAIR.EVT 0), .r0 (PSCP.CNT d 8), .r0 (PSCP.RD_CMD d), .r0
      (QMGR.EVT d), .r0 (WAKE.CNT 0 11), .r0 (WAKE.CNT 0 9), .r0 (WAKE.EVT 0), .r1 DEV.CNT_LAST, .r1 DEV.EVT, .r2 BLK_CTRL]
  | .partitionHalt p k _
    => some [.r0 (CPU.CNT p (16 * k + 7)), .r0 (CPU.EVT p), .r0 (CPU.PSTAT p k), .r0 (WAKE.CNT 0 11), .r0 (WAKE.CNT 0 9), .r0
      (WAKE.EVT 0), .r0 (WAKE.REQ p k), .r1 (fun x0 => APR.CH p x0), .r1 DEV.CNT_LAST, .r1 DEV.EVT, .r2 (fun x0 x1 => CHN.CNT x0
      x1 10), .r2 (fun x0 x1 => CHN.CNT x0 x1 9), .r2 BLK_ERR, .r2 CHN.CMD, .r2 DEV.DLINK_DROPS]
  | .lockstepMismatch p
    => some [.r0 (CPU.EVT p), .r0 (WAKE.CNT 0 11), .r0 (WAKE.CNT 0 9), .r0 (WAKE.EVT 0), .r1 (fun x0 => APR.CH p x0), .r1 (fun
      x0 => CPU.CNT p x0), .r1 (fun x0 => CPU.PSTAT p x0), .r1 (fun x0 => WAKE.REQ p x0), .r1 DEV.CNT_LAST, .r1 DEV.EVT, .r2
      (fun x0 x1 => CHN.CNT x0 x1 10), .r2 (fun x0 x1 => CHN.CNT x0 x1 9), .r2 BLK_ERR, .r2 CHN.CMD, .r2 DEV.DLINK_DROPS]
  | .keepaliveReceive _
    => some [.r0 (KEYS.CNT 0 6), .r0 (KEYS.EVT 0), .r0 (KEYS.LAST 0), .r0 (PLX.EVT 0), .r0 (PLX.LAST 0), .r0 (WAKE.CAUSE 0), .r0
      (WAKE.CNT 0 5), .r0 (WAKE.CNT 0 8), .r0 (WAKE.EVT 0), .r1 (fun x0 => KEYS.SLOT 0 x0), .r1 (fun x0 => PLX.CNT 0 x0), .r1
      (fun x0 => WAKE.PN_STAT 0 x0), .r1 DEV.CNT_LAST, .r1 DEV.EVT, .r1 WKP.EVT]
  | .clockLost
    => some [.r0 (RSTC.STRAP 0), .r1 DEV.CNT_LAST, .r1 DEV.EVT, .r1 PSCP.EVT, .r1 PSCP.LAST_ERR, .r1 PSCP.RD_CMD, .r1 QMGR.EVT,
      .r2 (fun x0 x1 => CAN.CNT x0 x1 21), .r2 (fun x0 x1 => ETH.CNT x0 x1 52), .r2 (fun x0 x1 => ETH.CNT x0 x1 9), .r2 (fun x0
      x1 => LIN.CNT x0 x1 13), .r2 BLK_CTRL, .r2 CAN.EVT, .r2 ETH.EVT, .r2 LIN.EVT]
  | .maxOnExpire p _
    => some [.r0 (CPU.ALAST p), .r0 (CPU.EVT p), .r0 (WAKE.CNT 0 11), .r0 (WAKE.CNT 0 9), .r0 (WAKE.EVT 0), .r1 (fun x0 =>
      APR.CH p x0), .r1 (fun x0 => CPU.CNT p x0), .r1 (fun x0 => CPU.PSTAT p x0), .r1 (fun x0 => WAKE.REQ p x0), .r1
      DEV.CNT_LAST, .r1 DEV.EVT, .r2 (fun x0 x1 => CHN.CNT x0 x1 10), .r2 (fun x0 x1 => CHN.CNT x0 x1 9), .r2 BLK_ERR, .r2
      CHN.CMD, .r2 DEV.DLINK_DROPS]
  | .pairHeartbeatReceive _
    => some [.r0 (KEYS.CNT 0 6), .r0 (KEYS.EVT 0), .r0 (KEYS.LAST 0), .r0 (PAIR.EVT 0), .r0 (PAIR.OFFSET 0), .r0 (PLX.CNT 0 10),
      .r0 (PLX.CNT 0 12), .r0 (PLX.CNT 0 2), .r0 (PLX.CNT 0 3), .r0 (PLX.CNT 0 4), .r0 (PLX.CNT 0 5), .r0 (PLX.EVT 0), .r0
      (PLX.LAST 0), .r1 (fun x0 => KEYS.SLOT 0 x0), .r1 DEV.CNT_LAST, .r1 DEV.EVT]
  | .tokenPass | .tokenReturn
    => some [.r0 (KEYS.CNT 0 6), .r0 (KEYS.EVT 0), .r0 (KEYS.LAST 0), .r0 (PLX.CNT 0 10), .r0 (PLX.CNT 0 12), .r0 (PLX.CNT 0 2),
      .r0 (PLX.CNT 0 3), .r0 (PLX.CNT 0 4), .r0 (PLX.CNT 0 5), .r0 (PLX.EVT 0), .r0 (PLX.LAST 0), .r0 (WAKE.CNT 0 4), .r0
      (WAKE.EVT 0), .r1 (fun x0 => KEYS.SLOT 0 x0), .r1 DEV.CNT_LAST, .r1 DEV.EVT]
  | .sleepEntry
    => some [.r0 (KEYS.CNT 0 6), .r0 (KEYS.EVT 0), .r0 (KEYS.LAST 0), .r0 (WAKE.CNT 0 0), .r0 (WAKE.CNT 0 4), .r0 (WAKE.EVT 0),
      .r1 (fun x0 => KEYS.SLOT 0 x0), .r1 DEV.CNT_LAST, .r1 DEV.EVT, .r1 QMGR.EVT, .r1 WKP.CAUSE, .r2 (fun x0 x1 => CAN.CNT x0
      x1 11), .r2 (fun x0 x1 => ETH.CNT x0 x1 52), .r2 (fun x0 x1 => ETH.CNT x0 x1 9), .r2 BLK_CTRL, .r2 ETH.EVT]
  | .egressSelect p f
    => some [.r0 (CAN.CNT p (f - 32) 12), .r0 (ETH.CNT p f 35), .r0 (FAB.CNT p 3), .r0 (FAB.CNT p 4), .r0 (FAB.EVT p), .r0
      (PSFP.CNT p 1), .r0 (PSFP.EVT p), .r0 (PSFP.LAST p), .r0 (QMGR.CNT p 2), .r0 (QMGR.CNT p 3), .r0 (QMGR.CNT p 4), .r0
      (QMGR.DROP_LAST p), .r0 (QMGR.EVT p), .r0 (ra p 129 515), .r1 (fun x0 => QMGR.LIMIT_DROPS p x0), .r1 DEV.CNT_LAST, .r1
      DEV.EVT]
  | .txDescriptor p
    => some [.r0 (CPU.ALAST p), .r0 (CPU.EVT p), .r0 (WAKE.CNT 0 11), .r0 (WAKE.CNT 0 9), .r0 (WAKE.EVT 0), .r1 (fun x0 =>
      APR.CH p x0), .r1 (fun x0 => CPU.CNT p x0), .r1 (fun x0 => CPU.PSTAT p x0), .r1 (fun x0 => CPU.TXR_B p x0), .r1 (fun x0 =>
      WAKE.REQ p x0), .r1 DEV.CNT_LAST, .r1 DEV.EVT, .r2 (fun x0 x1 => CHN.CNT x0 x1 10), .r2 (fun x0 x1 => CHN.CNT x0 x1 9),
      .r2 BLK_ERR, .r2 CHN.CMD, .r2 DEV.DLINK_DROPS]
  | .pcmdHalt _ p _
    => some [.r0 (CPU.EVT p), .r0 (CPU.PCMD p), .r0 (WAKE.CNT 0 11), .r0 (WAKE.CNT 0 9), .r0 (WAKE.EVT 0), .r1 (fun x0 => APR.CH
      p x0), .r1 (fun x0 => CPU.CNT p x0), .r1 (fun x0 => CPU.KICK p x0), .r1 (fun x0 => CPU.PSTAT p x0), .r1 (fun x0 =>
      WAKE.REQ p x0), .r1 DEV.CNT_LAST, .r1 DEV.EVT, .r2 (fun x0 x1 => CHN.CNT x0 x1 10), .r2 (fun x0 x1 => CHN.CNT x0 x1 9),
      .r2 BLK_ERR, .r2 CHN.CMD, .r2 DEV.DLINK_DROPS]
  | .pcmdRestart _ p _
    => some [.r0 (CPU.EVT p), .r0 (CPU.PCMD p), .r0 (WAKE.CNT 0 11), .r0 (WAKE.CNT 0 9), .r0 (WAKE.EVT 0), .r1 (fun x0 => APR.CH
      p x0), .r1 (fun x0 => CPU.CNT p x0), .r1 (fun x0 => CPU.KICK p x0), .r1 (fun x0 => CPU.PSTAT p x0), .r1 (fun x0 =>
      WAKE.REQ p x0), .r1 DEV.CNT_LAST, .r1 DEV.EVT, .r2 (fun x0 x1 => CHN.CNT x0 x1 10), .r2 (fun x0 x1 => CHN.CNT x0 x1 9),
      .r2 BLK_ERR, .r2 CHN.CMD, .r2 DEV.DLINK_DROPS]
  | .canLinEnable
    => some [.r0 (IMG.EVT 0), .r0 (PAIR.EVT 0), .r0 (RSTC.TIME_A 0), .r0 (WAKE.CNT 0 11), .r0 (WAKE.CNT 0 9), .r0 (WAKE.EVT 0),
      .r1 (fun x0 => PSCP.CNT x0 8), .r1 DEV.CNT_LAST, .r1 DEV.EVT, .r1 PSCP.RD_CMD, .r1 QMGR.EVT, .r2 (fun x0 x1 => CAN.CNT x0
      x1 11), .r2 (fun x0 x1 => ETH.CNT x0 x1 52), .r2 (fun x0 x1 => ETH.CNT x0 x1 9), .r2 BLK_CTRL, .r2 BLK_ERR, .r2 ETH.EVT]
  | .ethernetEnable
    => some [.r0 (IMG.EVT 0), .r0 (PAIR.EVT 0), .r0 (RSTC.TIME_B 0), .r0 (WAKE.CNT 0 11), .r0 (WAKE.CNT 0 9), .r0 (WAKE.EVT 0),
      .r1 (fun x0 => PSCP.CNT x0 8), .r1 DEV.CNT_LAST, .r1 DEV.EVT, .r1 PSCP.RD_CMD, .r1 QMGR.EVT, .r2 (fun x0 x1 => CAN.CNT x0
      x1 11), .r2 (fun x0 x1 => ETH.CNT x0 x1 52), .r2 (fun x0 x1 => ETH.CNT x0 x1 9), .r2 BLK_CTRL, .r2 BLK_ERR, .r2 ETH.EVT]
  | .watchdogKick _ p k _
    => some [.r0 (CPU.CNT p (16 * k + 5)), .r0 (CPU.CNT p (16 * k + 6)), .r0 (CPU.CNT p (16 * k + 7)), .r0 (CPU.EVT p), .r0
      (CPU.KICK p k), .r0 (CPU.PSTAT p k), .r0 (WAKE.CNT 0 11), .r0 (WAKE.CNT 0 9), .r0 (WAKE.EVT 0), .r0 (WAKE.REQ p k), .r1
      (fun x0 => APR.CH p x0), .r1 DEV.CNT_LAST, .r1 DEV.EVT, .r2 (fun x0 x1 => CHN.CNT x0 x1 10), .r2 (fun x0 x1 => CHN.CNT x0
      x1 9), .r2 BLK_ERR, .r2 CHN.CMD, .r2 DEV.DLINK_DROPS]
  | .watchdogExpiry p k
    => some [.r0 (CPU.CNT p (16 * k + 5)), .r0 (CPU.CNT p (16 * k + 6)), .r0 (CPU.CNT p (16 * k + 7)), .r0 (CPU.EVT p), .r0
      (CPU.KICK p k), .r0 (CPU.PSTAT p k), .r0 (WAKE.CNT 0 11), .r0 (WAKE.CNT 0 9), .r0 (WAKE.EVT 0), .r0 (WAKE.REQ p k), .r1
      (fun x0 => APR.CH p x0), .r1 DEV.CNT_LAST, .r1 DEV.EVT, .r2 (fun x0 x1 => CHN.CNT x0 x1 10), .r2 (fun x0 x1 => CHN.CNT x0
      x1 9), .r2 BLK_ERR, .r2 CHN.CMD, .r2 DEV.DLINK_DROPS]
  | .recordTake p
    => some [.r0 (FAB.CNT p 3), .r0 (FAB.CNT p 4), .r0 (FAB.EVT p), .r0 (PSCP.CNT p 0), .r0 (PSCP.CNT p 1), .r0 (PSCP.CNT p 2),
      .r0 (PSCP.CNT p 4), .r0 (PSCP.CNT p 8), .r0 (PSCP.EVT p), .r0 (QMGR.CNT p 2), .r0 (QMGR.CNT p 3), .r0 (QMGR.CNT p 4), .r0
      (QMGR.DROP_LAST p), .r0 (QMGR.EVT p), .r0 (ra p 129 515), .r1 (fun x0 => QMGR.LIMIT_DROPS p x0), .r1 DEV.CNT_LAST, .r1
      DEV.EVT]
  | .grantReceive _
    => some [.r0 (KEYS.CNT 0 6), .r0 (KEYS.EVT 0), .r0 (KEYS.LAST 0), .r0 (PLX.CNT 0 10), .r0 (PLX.CNT 0 12), .r0 (PLX.CNT 0 2),
      .r0 (PLX.CNT 0 3), .r0 (PLX.CNT 0 4), .r0 (PLX.CNT 0 5), .r0 (PLX.EVT 0), .r0 (PLX.LAST 0), .r0 (WAKE.CNT 0 10), .r0
      (WAKE.CNT 0 11), .r0 (WAKE.CNT 0 9), .r0 (WAKE.EVT 0), .r1 (fun x0 => KEYS.SLOT 0 x0), .r1 DEV.CNT_LAST, .r1 DEV.EVT]
  | .pduCadence p _ _
    => some [.r0 (CIPH.CNT p 6), .r0 (CIPH.EVT p), .r0 (CIPH.LAST p), .r0 (KEYS.CNT p 6), .r0 (KEYS.EVT p), .r0 (KEYS.LAST p),
      .r0 (SEAL.CNT p 0), .r0 (SEAL.CNT p 6), .r0 (SEAL.EVT p), .r0 (SEAL.LAST p), .r0 (SGW.CNT p 10), .r0 (SGW.CNT p 11), .r0
      (SGW.CNT p 4), .r0 (SGW.CNT p 7), .r0 (SGW.CNT p 8), .r0 (SGW.EVT p), .r1 (fun x0 => KEYS.SLOT p x0), .r1 DEV.CNT_LAST,
      .r1 DEV.EVT]
  | .pduChangeCompose p _ _
    => some [.r0 (CIPH.CNT p 6), .r0 (CIPH.EVT p), .r0 (CIPH.LAST p), .r0 (KEYS.CNT p 6), .r0 (KEYS.EVT p), .r0 (KEYS.LAST p),
      .r0 (SEAL.CNT p 0), .r0 (SEAL.CNT p 6), .r0 (SEAL.EVT p), .r0 (SEAL.LAST p), .r0 (SGW.CNT p 10), .r0 (SGW.CNT p 11), .r0
      (SGW.CNT p 4), .r0 (SGW.CNT p 7), .r0 (SGW.CNT p 8), .r0 (SGW.EVT p), .r1 (fun x0 => KEYS.SLOT p x0), .r1 DEV.CNT_LAST,
      .r1 DEV.EVT]
  | .handoverProbe _
    => some [.r0 (KEYS.CNT 0 6), .r0 (KEYS.EVT 0), .r0 (KEYS.LAST 0), .r0 (PAIR.CMD 0), .r0 (PAIR.CNT 0 7), .r0 (PAIR.CNT 0 8),
      .r0 (PAIR.EVT 0), .r0 (PLX.CNT 0 10), .r0 (PLX.CNT 0 12), .r0 (PLX.CNT 0 2), .r0 (PLX.CNT 0 3), .r0 (PLX.CNT 0 4), .r0
      (PLX.CNT 0 5), .r0 (PLX.EVT 0), .r0 (PLX.LAST 0), .r0 (WAKE.CNT 0 11), .r0 (WAKE.CNT 0 9), .r0 (WAKE.EVT 0), .r1 (fun x0
      => KEYS.SLOT 0 x0), .r1 DEV.CNT_LAST, .r1 DEV.EVT]
  | .frameAdmission p f
    => some [.r0 (D2D.EVT p (f - 56)), .r0 (FAB.CNT p 3), .r0 (FAB.CNT p 4), .r0 (FAB.CNT p 5), .r0 (FAB.CNT p 7), .r0 (FAB.EVT
      p), .r0 (FAB.FACET p f), .r0 (FAB.STORM_CNT p f), .r0 (FAB.STORM_LAST p), .r0 (FAB.STORM_TIME p), .r0 (QMGR.CNT p 0), .r0
      (QMGR.CNT p 1), .r0 (QMGR.CNT p 2), .r0 (QMGR.CNT p 3), .r0 (QMGR.CNT p 4), .r0 (QMGR.DROP_LAST p), .r0 (QMGR.EVT p), .r0
      (ra p 129 515), .r1 (fun x0 => CPU.CNT p x0), .r1 (fun x0 => CPU.TXR_B p x0), .r1 (fun x0 => QMGR.LIMIT_DROPS p x0), .r1
      DEV.CNT_LAST, .r1 DEV.EVT]
  | .admissionRetry p f _
    => some [.r0 (D2D.EVT p (f - 56)), .r0 (FAB.CNT p 3), .r0 (FAB.CNT p 4), .r0 (FAB.CNT p 5), .r0 (FAB.CNT p 7), .r0 (FAB.EVT
      p), .r0 (FAB.FACET p f), .r0 (FAB.STORM_CNT p f), .r0 (FAB.STORM_LAST p), .r0 (FAB.STORM_TIME p), .r0 (QMGR.CNT p 0), .r0
      (QMGR.CNT p 1), .r0 (QMGR.CNT p 2), .r0 (QMGR.CNT p 3), .r0 (QMGR.CNT p 4), .r0 (QMGR.DROP_LAST p), .r0 (QMGR.EVT p), .r0
      (ra p 129 515), .r1 (fun x0 => CPU.CNT p x0), .r1 (fun x0 => CPU.TXR_B p x0), .r1 (fun x0 => QMGR.LIMIT_DROPS p x0), .r1
      DEV.CNT_LAST, .r1 DEV.EVT]
  | .windowStore p _ _ _ _ _ _ _
    => some [.r0 (KEYS.CNT 0 6), .r0 (KEYS.EVT 0), .r0 (KEYS.LAST 0), .r0 (PLX.CNT 0 7), .r0 (PLX.CNT 0 8), .r0 (PLX.EVT 0), .r0
      (PLX.LAST 0), .r0 (WAKE.CNT 0 11), .r0 (WAKE.CNT 0 9), .r0 (WAKE.EVT 0), .r0 (WBR.CNT p 1), .r1 (fun x0 => KEYS.SLOT 0
      x0), .r1 (fun x0 => WBR.CNT x0 3), .r1 CPU.ALAST, .r1 CPU.EVT, .r1 DEV.CNT_LAST, .r1 DEV.EVT, .r1 WBR.EVT, .r1
      WBR.POST_ERR_ADDR, .r1 WBR.POST_ERR_INFO, .r2 (fun x0 x1 => CHN.CNT x0 x1 10), .r2 (fun x0 x1 => CHN.CNT x0 x1 9), .r2
      APR.CH, .r2 BLK_ERR, .r2 CHN.CMD, .r2 CPU.CNT, .r2 CPU.PSTAT, .r2 DEV.DLINK_DROPS, .r2 WAKE.REQ]
  | .sgwFrame p _
    => some [.r0 (CIPH.CNT p 6), .r0 (CIPH.EVT p), .r0 (CIPH.LAST p), .r0 (FAB.CNT p 3), .r0 (FAB.CNT p 4), .r0 (FAB.EVT p), .r0
      (KEYS.CNT p 6), .r0 (KEYS.EVT p), .r0 (KEYS.LAST p), .r0 (PAIR.CNT p 5), .r0 (PAIR.CNT p 6), .r0 (PLX.CNT 0 9), .r0
      (PLX.EVT 0), .r0 (PLX.LAST 0), .r0 (QMGR.CNT p 2), .r0 (QMGR.CNT p 3), .r0 (QMGR.CNT p 4), .r0 (QMGR.DROP_LAST p), .r0
      (QMGR.EVT p), .r0 (SEAL.EVT p), .r0 (SEAL.LAST p), .r0 (SGW.EVT p), .r0 (SGW.LAST p), .r0 (ra p 129 515), .r1 (fun x0 =>
      KEYS.SLOT p x0), .r1 (fun x0 => QMGR.LIMIT_DROPS p x0), .r1 (fun x0 => SEAL.CNT p x0), .r1 (fun x0 => SGW.CNT p x0), .r1
      DEV.CNT_LAST, .r1 DEV.EVT]
  | .cipherFlow p _
    => some [.r0 (CIPH.CNT p 2), .r0 (CIPH.CNT p 3), .r0 (CIPH.CNT p 4), .r0 (CIPH.CNT p 5), .r0 (CIPH.CNT p 6), .r0 (CIPH.EVT
      p), .r0 (CIPH.LAST p), .r0 (FAB.CNT p 3), .r0 (FAB.CNT p 4), .r0 (FAB.EVT p), .r0 (KEYS.CNT p 6), .r0 (KEYS.EVT p), .r0
      (KEYS.LAST p), .r0 (PAIR.CNT p 5), .r0 (PAIR.CNT p 6), .r0 (PLX.CNT 0 9), .r0 (PLX.EVT 0), .r0 (PLX.LAST 0), .r0 (QMGR.CNT
      p 2), .r0 (QMGR.CNT p 3), .r0 (QMGR.CNT p 4), .r0 (QMGR.DROP_LAST p), .r0 (QMGR.EVT p), .r0 (SEAL.EVT p), .r0 (SEAL.LAST
      p), .r0 (ra p 129 515), .r1 (fun x0 => KEYS.SLOT p x0), .r1 (fun x0 => QMGR.LIMIT_DROPS p x0), .r1 (fun x0 => SEAL.CNT p
      x0), .r1 DEV.CNT_LAST, .r1 DEV.EVT]
  | .frameLookup p _ _
    => some [.r0 (CLS.DROP_LAST p), .r0 (CLS.EVT p), .r0 (EYE.ETH_STAT 0), .r0 (LPM.CNT p 0), .r0 (LPM.CNT p 1), .r0 (LPM.CNT p
      2), .r0 (LPM.CNT p 3), .r0 (LPM.EVT p), .r0 (PAIR.CNT p 0), .r0 (PAIR.CNT p 1), .r0 (PAIR.CNT p 2), .r0 (PAIR.CNT p 3),
      .r0 (PAIR.CNT p 4), .r0 (PAIR.EVT p), .r0 (PSFP.CNT_HALF_LAST p), .r0 (PSFP.EVT p), .r0 (PSFP.LAST p), .r0 (WAKE.CNT 0
      11), .r0 (WAKE.CNT 0 9), .r0 (WAKE.EVT 0), .r1 (fun x0 => CLS.CNT p x0), .r1 (fun x0 => CPU.TXR_B p x0), .r1 CPU.ALAST,
      .r1 CPU.EVT, .r1 DEV.CNT_LAST, .r1 DEV.EVT, .r2 (fun x0 x1 => CHN.CNT x0 x1 10), .r2 (fun x0 x1 => CHN.CNT x0 x1 9), .r2
      APR.CH, .r2 BLK_ERR, .r2 CHN.CMD, .r2 CPU.CNT, .r2 CPU.PSTAT, .r2 DEV.DLINK_DROPS, .r2 WAKE.REQ]
  | _ => none

end Sys2Proof.Machine
end

