-- ==== Sys2Proof/Certificates/Slice0/Obligations.lean ====
section
/-! DEFINITION. The statements: what the commands do, each with the rules of the spec it rests on. In them a command that "gives" a
next state completes; the state in which a register write arrives is State.arrives (Sys2Proof/Safety.lean). -/

open Sys2Proof Sys2Proof.Machine

/-- A step runs the command at the front of the queue on the state with the queue's rest, whatever it answers (log entry 101). -/
def Obligations.StepRunsFrontCommand : Prop :=
  ∀ (i : Instr) (s : State), step { s with pending := i :: s.pending } = exec i s

/-- On an empty queue one slow-clock edge passes (log entry 101, the model's choice): the edge count rises by one; before step 6
nothing else changes; from step 6 only the records of die time, of the signal engine's cadences, of the spill rate, of the monitors'
tallies and of VCORE move besides it, and free values are drawn for VCORE. -/
def Obligations.EmptyQueuePassesOneEdge : Prop :=
  ∀ s : State, s.pending = [] →
    (s.start.step < 6 → step s = .next { s with edges := s.edges + 1 }) ∧
    (6 ≤ s.start.step → ∃ t, step s = .next t ∧ t.edges = s.edges + 1 ∧ t.pending = [] ∧
      ∀ p : Part, p ∉ [Part.edges, .sw, .gw, .mon, .prism, .freeCount] → Part.Same p s t)

/-- The invariant holds at reset: nothing is listed. -/
def Obligations.InvariantAtReset : Prop := State.reset.Inv

/-- Every step keeps the invariant: registers, tables, flash and memory stay in their canonical form, and every reserved bit of
every register stays 0 (R20). -/
def Obligations.EveryStepKeepsInvariant : Prop := ∀ s t : State, s.Inv → step s = .next t → t.Inv

/-- Every command gives a next state, in every state; it leaves the waiting commands alone. What is fixed at manufacture stays, and
what happens once in the life of the device is never undone. -/
def Obligations.EveryCommandGivesNext : Prop :=
  ∀ (i : Instr) (s : State), Gives i s fun t =>
    t.pending = s.pending ∧ t.x = s.x ∧ t.y = s.y ∧ t.fuse.serial = s.fuse.serial ∧
    (s.fuse.provDone = true → t.fuse.provDone = true) ∧ (s.fuse.epochInit = true → t.fuse.epochInit = true) ∧
    s.freeCount ≤ t.freeCount

/-- The frame of every command that is no access of a sender: no part of the state changes that mayTouch does not list for it, and
no register that mayWrite, where it lists them, does not. -/
def Obligations.FrameOfEveryEvent : Prop :=
  ∀ (i : Instr) (s t : State), regWrite i = none → regRead i = none → exec i s = .next t →
    (∀ p : Part, p ∉ mayTouch i → Part.Same p s t) ∧ ∀ l, mayWrite i = some l → OnlySets l s t

/-- The frame of every command that is a register write which reaches its register: against the state in which it arrives, no part
changes that mayTouch does not list for the command, and no register that mayWrite, where it lists them, does not. -/
def Obligations.FrameOfEveryRegisterWrite : Prop :=
  ∀ (i : Instr) (s t u : State) (ag : Agent), Reaches i s ag u → exec i s = .next t →
    (∀ p : Part, p ∉ mayTouch i → Part.Same p u t) ∧ ∀ l, mayWrite i = some l → OnlySets l u t

/-- A command that is a write of one register, its field set as its row says, does what REGISTER_WRITE of that register with that
value does. -/
def Obligations.RegisterRowsAreWrites : Prop :=
  ∀ (i : Instr) (w : Sender) (a : Nat) (v : Word) (s : State), i.wellFormed = true → hartStores i = [] →
    regWrite i = some (w, a, v) → exec i s = exec (.registerWrite w a v.toNat) s

/-- A write by a host to an address that names no register is answered NO_SUCH, one that the register denies to it DENIED, and nothing
changes but that reply (R142, R176). -/
def Obligations.WriteOfNoRegister : Prop :=
  ∀ (s : State) (w : Sender) (ag : Agent) (a v : Nat), a < 2 ^ 24 → v < 2 ^ 48 → s.hostWriter w = some ag →
    (s.regIs a = false → exec (.registerWrite w a v) s = .next { s with out := .reply ag .noSuch 0 :: s.out }) ∧
    (s.regIs a = true → s.denies ag a (BitVec.ofNat 48 v) = true →
      exec (.registerWrite w a v) s = .next { s with out := .reply ag .denied 0 :: s.out })

/-- A write to a WO1 register already written, or to a register that is locked, is ignored: BLK_ERR.LOCKED_WRITE is set with the
register and the source, the reply to a host is LOCKED, and no other register changes (R153, R146). -/
def Obligations.LockedWriteIgnored : Prop :=
  ∀ (s u : State) (w : Sender) (ag : Agent) (a v : Nat), a < 2 ^ 24 → v < 2 ^ 48 →
    s.offered w a (BitVec.ofNat 48 v) = some (ag, u) → u.gated ag a (BitVec.ofNat 48 v) = true → u.regLocked a = true →
    Gives (.registerWrite w a v) s fun t => Flagged a 1 ag u t ∧ t.out = endOut w .locked u.out

/-- A write to a CF register while its block's ENABLED is 1 is ignored: BLK_ERR.WRITE_REJECT is set with the register and the source,
the reply to a host is REJECTED_ENABLED, and no other register changes (R148, R146). -/
def Obligations.EnabledWriteRejected : Prop :=
  ∀ (s u : State) (w : Sender) (ag : Agent) (a v : Nat), a < 2 ^ 24 → v < 2 ^ 48 →
    s.offered w a (BitVec.ofNat 48 v) = some (ag, u) → u.gated ag a (BitVec.ofNat 48 v) = true → u.regLocked a = false →
    ((regRow a).any fun r => r.kind == .cf) = true → u.enabled (aDie a) (aBlk a) = true → ignores a = false →
    Gives (.registerWrite w a v) s fun t => Flagged a 0 ag u t ∧ t.out = endOut w .rejectedEnabled u.out

/-- A write to a register of a slow-domain block while its BUSY is 1 is ignored: BLK_ERR.BUSY_WRITE is set with the register and the
source, the reply to a host is BUSY, and no other register changes (R156, R146). -/
def Obligations.BusyWriteIgnored : Prop :=
  ∀ (s u : State) (w : Sender) (ag : Agent) (a v : Nat), a < 2 ^ 24 → v < 2 ^ 48 →
    s.offered w a (BitVec.ofNat 48 v) = some (ag, u) → u.regIs a = true → u.denies ag a (BitVec.ofNat 48 v) = false →
    u.startBusy = false → u.blockHeld (aDie a) (aBlk a) = false → 4 ≤ aDie a → u.writeCut a = false →
    blockSlow (aBlk a) = true → (u.postedAt (aDie a) (aBlk a)).isSome = true →
    Gives (.registerWrite w a v) s fun t => Flagged a 3 ag u t ∧ t.out = endOut w .busy u.out

/-- A write of a register of a Prism die that passes every check and whose value the register refuses does not take effect:
BLK_ERR.WRITE_REJECT is set with the register and the source, and the reply to a host is BAD_VALUE (R154, R146). -/
def Obligations.RefusedValueWritesNothing : Prop :=
  ∀ (s u : State) (w : Sender) (ag : Agent) (a v : Nat), a < 2 ^ 24 → v < 2 ^ 48 → aDie a < 4 → aReg a ≠ 0x1FFF →
    ((regRow a).any fun r => r.kind == .sc) = false → s.arrives w a (BitVec.ofNat 48 v) = some (ag, u) →
    u.refuses a (BitVec.ofNat 48 v) = true →
    Gives (.registerWrite w a v) s fun t => Flagged a 0 ag u t ∧ t.out = endOut w .badValue u.out

/-- A write that passes every check to a PW or SC register of a slow-domain block is posted: the reply to a host is OK at once, the block is
busy with it, and no register changes; at the second slow-clock edge (POSTED_WRITE_EFFECT) the block is not busy any more, whether
the value is taken or refused (R154, R155). -/
def Obligations.PostedWriteWaits : Prop :=
  ∀ (s z : State) (w : Sender) (ag : Agent) (a v : Nat), a < 2 ^ 24 → v < 2 ^ 48 →
    s.arrives w a (BitVec.ofNat 48 v) = some (ag, z) → posts a = true →
    Gives (.registerWrite w a v) s fun t => OnlyRegs [] z t ∧ t.out = endOut w .ok z.out ∧
      t.postedAt (aDie a) (aBlk a) = some { addr := a, value := BitVec.ofNat 48 v, agent := ag } ∧
      (∀ d b, d < 8 → b < 256 → (d, b) ≠ (aDie a, aBlk a) → t.postedAt d b = z.postedAt d b) ∧
      Gives (.postedWriteEffect (aDie a) (aBlk a)) t fun u => u.postedAt (aDie a) (aBlk a) = none

/-- CLEAR_BY_SEQUENCE on an SC register of a Prism die: the written value s is admissible when (c - s) mod 256 is at most 127, where
c is the current SEQ; it then clears every event bit with (s - e) mod 256 at most 127 and every one whose e lies 128 or more events
behind, and leaves every other bit of the register; a value that is not admissible clears nothing and sets BLK_ERR.STALE_SEQ. The
values written in the event-bit positions are ignored. No other register changes (R163). -/
def Obligations.ClearBySequence : Prop :=
  ∀ (s u : State) (w : Sender) (ag : Agent) (a q : Nat), a < 2 ^ 24 → q < 256 → aDie a < 4 → aReg a ≠ 0x1FFF →
    ((regRow a).any fun r => r.kind == .sc) = true → s.arrives w a (fset 0 scSeq q) = some (ag, u) →
    ((u.evtCount a % 256 + 256 - q) % 256 ≤ 127 →
      Gives (.clearBySequence w a q) s fun t => OnlyRegs [a] u t ∧ t.out = endOut w .ok u.out ∧
        ∀ i < 48, bit (t.reg a) i = (bit (u.reg a) i && bit (regMask a) i &&
          !(decide (i ∈ evtBits a) && (decide ((q + 256 - u.evt a i % 256) % 256 ≤ 127) || decide (u.evt a i + 128 ≤ u.evtCount a))))) ∧
    (127 < (u.evtCount a % 256 + 256 - q) % 256 →
      Gives (.clearBySequence w a q) s fun t => Flagged a 4 ag u t ∧ t.out = endOut w .ok u.out) ∧
    (∀ v < 2 ^ 48, fget (BitVec.ofNat 48 v) scSeq = q → s.arrives w a (BitVec.ofNat 48 v) = some (ag, u) →
      exec (.registerWrite w a v) s = exec (.clearBySequence w a q) s)

/-- BLK_CTRL of a block with a CF register: BLOCK_DISABLE takes the block to its disabled safe state, BLOCK_ENABLE enables it where
every CF register passes its parity check and the block's own conditions hold, and is ignored with reply PARITY where a register
fails (R145, R149, R152; log entry 47). -/
def Obligations.BlocksAreEnabledAndDisabled : Prop :=
  ∀ (s u : State) (w : Sender) (ag : Agent) (d b v : Nat), blockHasCf (decide (4 ≤ d)) b = true →
    (Reaches (.blockDisable w d b v) s ag u → Gives (.blockDisable w d b v) s fun t => t.enabled d b = false ∧ ∃ l, t.out = endOut w .ok l) ∧
    (Reaches (.blockEnable w d b v) s ag u → u.enableBad d b = false → u.parityNow d b = false →
      Gives (.blockEnable w d b v) s fun t => t.enabled d b = true ∧ t.out = endOut w .ok u.out) ∧
    (Reaches (.blockEnable w d b v) s ag u → u.enableBad d b = false → u.parityNow d b = true →
      Gives (.blockEnable w d b v) s fun t => OnlyRegs [] u t ∧ t.out = endOut w .parity u.out)

/-- VBAT events of a drive die (R58, R61): each changes the condition it names and sets its event where R58 names one; VBAT_SAMPLE takes the
measurement with its least and its greatest value (R94). Nothing else of the die's supply record changes.
SAG_WARNING, OV_WARN, OV_WARN_END and VBAT_SAMPLE change no register but the event named. -/
def Obligations.SupplyMonitorEvents : Prop :=
  ∀ (s : State) (d v : Nat), d < s.y → d < 4 → (s.supply d).alive = true →
    ((s.supply d).sag = false → v < s.fld (SUP.THRESH d) SUP.THRESH.SAG_TH * 10 →
      Gives (.sagWarning d v) s fun t =>
        t.supply d = { s.supply d with sag := true } ∧ Logged (SUP.EVT d) 0 s t ∧ OnlyRegs [SUP.EVT d] s t) ∧
    ((s.supply d).sag = true → (s.fld (SUP.THRESH d) SUP.THRESH.SAG_TH + 3) * 10 ≤ v →
      Gives (.sagEnd d v) s fun t =>
        t.supply d = { s.supply d with sag := false } ∧ Holds t (SUP.EVT d) (eventWord s (SUP.EVT d) 1)) ∧
    ((s.supply d).ovWarn = false → 6200 < v →
      Gives (.ovWarn d v) s fun t =>
        t.supply d = { s.supply d with ovWarn := true } ∧ Logged (SUP.EVT d) 2 s t ∧ OnlyRegs [SUP.EVT d] s t) ∧
    ((s.supply d).ovWarn = true → v ≤ 6100 →
      Gives (.ovWarnEnd d v) s fun t => t.supply d = { s.supply d with ovWarn := false } ∧ OnlyRegs [] s t) ∧
    ((s.supply d).ovOpen = false → 6600 < v →
      Gives (.ovOpen d v) s fun t =>
        t.supply d = { s.supply d with ovOpen := true } ∧ Holds t (SUP.EVT d) (eventWord s (SUP.EVT d) 3)) ∧
    ((s.supply d).ovOpen = true → v ≤ 6100 →
      Gives (.ovEnd d v) s fun t =>
        t.supply d = { s.supply d with ovOpen := false } ∧ Holds t (SUP.EVT d) (eventWord s (SUP.EVT d) 4)) ∧
    Gives (.vbatSample d v) s fun t =>
      t.supply d = { s.supply d with vbat := sat 65535 v, vmin := min (s.supply d).vmin (sat 65535 v)
                                     vmax := max (s.supply d).vmax (sat 65535 v) } ∧ OnlyRegs [] s t

/-- Power-on of a drive die: its island starts with the first measurement of VBAT, on drive die 0 with the straps; a power-on reset
takes the drive die's record to its default and every register of the die to its reset value, and on drive die 0 takes the
sequencer and the start sequence back as well (R58, R77, R84). -/
def Obligations.PowerOnAndPowerOnReset : Prop :=
  ∀ (s : State) (d v boot clk : Nat), d < s.y → d < 4 → boot < 4 → clk < 4 →
    ((s.supply d).alive = false → 400 ≤ v →
      Gives (.powerOn d v boot clk) s fun t =>
        (t.supply d).alive = true ∧ (t.supply d).vbat = sat 65535 v ∧ (t.supply d).vmin = sat 65535 v ∧ (t.supply d).vmax = sat 65535 v ∧
          (d = 0 → t.clk.bootPins = boot ∧ t.clk.clkPins = clk)) ∧
    ((s.supply d).alive = true → v < 400 →
      Gives (.powerOnReset d v) s fun t =>
        t.supply d = {} ∧ (∀ a, aDie a = 4 + d → t.reg a = regReset a) ∧
          (d = 0 → t.seq = {} ∧ t.start = {} ∧ t.clk = {} ∧ t.io.stage = .awake ∧ t.tbls = [] ∧ t.mem = []))

/-- The regulator sequencer: release of VBAT, each stage's success and the retry begin the next stage with its enable; the last
stage's success is t0; a failed stage, a lost power-good and a failed VCORE take every enable low, reset the package with bit 2 and
count the failure, the fourth of a series latching (R58, R63 to R68, R82). -/
def Obligations.RegulatorSequence : Prop :=
  ∀ (s : State) (v n k p : Nat),
    ((s.supply 0).alive = true → s.seq.stage = .off → s.io.stage = .awake →
      (s.fld (SUP.THRESH 0) SUP.THRESH.RESET_TH + 3) * 10 ≤ v →
      Gives (.vbatResetRelease v) s fun t =>
        t.seq.stage = .core ∧ t.seq.enCore = true ∧ t.seq.attempt = s.seq.failed % 4 ∧ (t.supply 0).good = true) ∧
    (s.seq.stage = .core → Gives (.stageSuccess n) s fun t => t.seq.stage = .io ∧ t.seq.enIo = true ∧ t.seq.tCore = sat 254 n) ∧
    (s.seq.stage = .io → s.fuse.memUsed = true →
      Gives (.stageSuccess n) s fun t => t.seq.stage = .mem ∧ t.seq.enMem = true ∧ t.seq.tIo = sat 254 n) ∧
    (s.seq.stage = .io → s.fuse.memUsed = false → Gives (.stageSuccess n) s fun t => t.seq.stage = .ready ∧ t.seq.tIo = sat 254 n) ∧
    (s.seq.stage = .mem → Gives (.stageSuccess n) s fun t => t.seq.stage = .ready ∧ t.seq.tMem = sat 254 n) ∧
    (s.seq.stage = .between → (s.seq.lastFail.all fun e => s.pastMs e 100) = true →
      Gives .regulatorRetry s fun t => t.seq.stage = .core ∧ t.seq.enCore = true) ∧
    let series := if s.seq.lastFail.any fun e => decide (s.edges - e < 327680) then s.seq.failed + 1 else 1
    let failed := fun (t : State) =>
      t.seq.stage = (if 4 ≤ series then .latched else .between) ∧ t.seq.enCore = false ∧ t.seq.enIo = false ∧ t.seq.enMem = false ∧
        t.seq.failed = series ∧ t.seq.lastFail = some s.edges ∧ ResetBy 2 t
    (1 ≤ k → k ≤ s.seq.stage.pending → Gives (.stageFail k) s failed) ∧
    (s.seq.stage = .ready → 1 ≤ k → k ≤ (if s.fuse.memUsed then 3 else 2) → Gives (.pgLost k) s failed) ∧
    (s.seq.stage = .ready → p < s.x → p < 4 → s.prismUp = true → v < 580 → Gives (.vcoreRegulatorFail p v) s failed)

/-- Package resets: VBAT below the reset threshold (bit 0) also takes the sequencer to its reset state, and with it the latch and the
attempt count; RESET_N low (bit 1) clears the latch and the count and leaves the ball's hold set; a thermal shutdown (bit 8) leaves its
hold set and records the die; a lost die-to-die link sets bit 6 (R38, R68, R82 to R84). -/
def Obligations.PackageResets : Prop :=
  ∀ (s : State) (v p j : Nat),
    ((s.supply 0).alive = true → v < s.fld (SUP.THRESH 0) SUP.THRESH.RESET_TH * 10 → s.seq.stage ≠ .off →
      Gives (.vbatLow v) s fun t => t.seq = {} ∧ (t.supply 0).good = false ∧ t.start.step = 0 ∧ ResetBy 0 t) ∧
    ((s.supply 0).alive = true → s.start.pinLow = false →
      Gives .resetNAssert s fun t => t.start.pinLow = true ∧ t.start.step = 0 ∧ t.seq.stage ≠ .latched ∧ t.seq.failed = 0 ∧ ResetBy 1 t) ∧
    (p < s.x → p < 4 → s.prismUp = true →
      Gives (.prismThermalShutdown p) s fun t =>
        t.start.thermHold = true ∧ t.start.step = 0 ∧ t.fld (RSTC.DETAIL 0) RSTC.DETAIL.THERM_DIE = p ∧ ResetBy 8 t) ∧
    (p < s.x → p < 4 → j < 3 → d2dFar p j < s.x → s.prismUp = true → Gives (.dieToDieLinkLost p j) s fun t => ResetBy 6 t)

/-- What ends a hold: RESET_N high samples the straps anew, and the thermal hold ends; the start continues from step 6 where nothing
else holds it (R73, R83, R85). -/
def Obligations.HoldsEnd : Prop :=
  ∀ (s : State) (boot clk : Nat), boot < 4 → clk < 4 →
    (s.start.pinLow = true →
      Gives (.resetNRelease boot clk) s fun t =>
        t.start.pinLow = false ∧ t.clk.bootPins = boot ∧ t.clk.clkPins = clk ∧
          (s.seq.stage = .ready → s.start.step = 0 → s.start.thermHold = false → s.io.stage = .awake → t.start.step = (if 2 ≤ clk then 8 else 7))) ∧
    (s.start.thermHold = true →
      Gives .thermalHoldEnd s fun t =>
        t.start.thermHold = false ∧
          (s.seq.stage = .ready → s.start.step = 0 → s.start.pinLow = false → s.io.stage = .awake →
            t.start.step = (if 2 ≤ s.clk.clkPins then 8 else 7)))

/-- Conditions of a Prism die: a VCORE droop and its end, the thermal warning and its end; each changes that die's record, and the
droop sets DEV.EVT bit 0 (R44, R82). -/
def Obligations.PrismDieConditions : Prop :=
  ∀ (s : State) (p mv : Nat), p < s.x → p < 4 →
    (s.prismUp = true → (s.psup p).droop = false → mv < 700 →
      Gives (.coreDroop p mv) s fun t =>
        t.psup p = { s.psup p with droop := true } ∧ Logged (DEV.EVT p) 0 s t ∧ OnlyRegs [DEV.EVT p] s t) ∧
    ((s.psup p).droop = true → 700 ≤ mv →
      Gives (.coreDroopEnd p mv) s fun t => t.psup p = { s.psup p with droop := false } ∧ OnlyRegs [] s t) ∧
    (s.prismUp = true → Gives (.prismThermalWarn p) s fun t => (t.psup p).hot = true ∧ OnlyRegs [] s t) ∧
    Gives (.prismThermalWarnEnd p) s fun t => (t.psup p).hot = false ∧ OnlyRegs [] s t

/-- Clocks and internal links: the external clock ready, late or lost chooses the source, and the start goes on from step 7 to
step 8; a drive link found lost is recorded with its rank, at the onset it fails without a record (log entry 114), and it is up again
when transitions return; a die that misses the
slow-clock edge runs on a substitute edge (R38, R70 to R72). -/
def Obligations.ClocksAndLinks : Prop :=
  ∀ (s : State) (d m : Nat),
    (s.start.step = 7 → Gives .clockReady s fun t =>
      t.start.step = 8 ∧ t.clk.source ≠ .internal ∧ t.fld (RSTC.STRAP 0) RSTC.STRAP.CLK_REASON = 0 ∧ OnlyRegs [RSTC.STRAP 0] s t) ∧
    (s.start.step = 7 → Gives .clockTimeout s fun t =>
      t.start.step = 8 ∧ t.clk.internalOnly = true ∧ t.clk.source = .internal ∧
        t.fld (RSTC.STRAP 0) RSTC.STRAP.CLK_REASON = (3 + s.fld (RSTC.STRAP 0) RSTC.STRAP.CLKMODE) % 8 ∧ OnlyRegs [RSTC.STRAP 0] s t) ∧
    (8 ≤ s.start.step → s.clk.source ≠ .internal → Gives .clockLost s fun t => t.clk.source = .internal ∧ t.clk.internalOnly = true) ∧
    (d < s.y → d < 4 → s.prismUp = true → s.dlinkLost d = false →
      Gives (.driveLinkLost d true) s (fun t => t.dlinkLost d = true ∧ t.dlinkDown d = true ∧
        t.fld (DEV.DLINK (s.attachedTo d)) DEV.DLINK.LAST_RANK = s.rankOf d ∧
        OnlyRegs [DEV.EVT (s.attachedTo d), DEV.DLINK (s.attachedTo d)] s t) ∧
      Gives (.driveLinkLost d false) s fun t => t.dlinkLost d = false ∧ t.dlinkDown d = true ∧ OnlyRegs [] s t) ∧
    (d < s.y → d < 4 → Gives (.driveLinkResume d) s fun t => t.dlinkLost d = false ∧ t.dlinkDown d = false ∧ OnlyRegs [] s t) ∧
    (m < 256 → Gives (.slowEdgeLost m) s fun t =>
      (∀ p, p < s.x → p < 4 → m / 2 ^ p % 2 = 1 → s.prismUp = true → (t.psup p).subst = true) ∧
      (∀ d, d ≠ 0 → d < s.y → d < 4 → m / 2 ^ (4 + d) % 2 = 1 → (s.supply d).alive = true → (t.supply d).subst = true))

/-- PARITY_SCRUB: a pass that finds no upset and no memory error changes nothing; an upset that leaves an odd number of ones in a lane of
a CF register, in a block that does not escalate and with fewer than three mismatches of its die counted in the last second, takes the
block to its disabled safe state, sets BLK_ERR.PARITY with the register and source 3, and counts the mismatch once (R82, R150, R151). A
corrected error of a lookup or filter table counts in its block's ECC_FIXED, an uncorrectable one makes its entry empty and sets its
block's ECC_ERR (R334, R335, R338, R339; that such errors come with this command is the model's choice, log entry 129). -/
def Obligations.ParityScrub : Prop :=
  ∀ (s : State), s.upsets = [] →
    exec (.parityScrub [] [] []) s = .next s ∧
    (∀ (a m par : Nat) (w : RegRow), a < 2 ^ 24 → m < 2 ^ 48 → par < 8 → regRow a = some w → w.kind = .cf →
      escalates (aDie a) (aBlk a) = false → blockHasCf (decide (4 ≤ aDie a)) (aBlk a) = true →
      Nat.xor (oddLanes (BitVec.ofNat 48 m &&& BitVec.ofNat 48 (w.mask - Nat.land w.mask w.live))) par ≠ 0 →
      ((s.mismatches.filter fun e => decide (s.edges - e.2 < 32768)).filter fun e => e.1 == aDie a).length < 3 →
      Gives (.parityScrub [(a, m, par)] [] []) s fun t =>
        t.enabled (aDie a) (aBlk a) = false ∧ bit (t.reg (BLK_ERR (aDie a) (aBlk a))) 2 = true ∧
          t.fld (BLK_ERR (aDie a) (aBlk a)) BLK_ERR.REG = aReg a ∧ t.fld (BLK_ERR (aDie a) (aBlk a)) BLK_ERR.SRC = 3 ∧
          t.mismatches = (s.mismatches.filter fun e => decide (s.edges - e.2 < 32768)) ++ [(aDie a, s.edges)]) ∧
    ∀ (p t i : Nat), p < s.x → p < 4 → i < 2 ^ 20 →
      (∀ c, eccTable t = true → eccFixed p t = some c → Gives (.parityScrub [] [(p, t, i)] []) s fun u => Counted c 1 s u ∧ u.tbls = s.tbls) ∧
      (∀ a n, (a, n) = (CLS.EVT p, 4) ∧ (t = 0x42 ∨ t = 0x43) ∨ (a, n) = (PSFP.EVT p, 5) ∧ 0x46 ≤ t ∧ t ≤ 0x49 →
        Gives (.parityScrub [] [] [(p, t, i)]) s fun u => Logged a n s u ∧ OnlyRegs [a] s u ∧ ∀ w < 8, u.tbl p t i w = 0)

/-- Step 8, image choice, and a peer's image. The image key is tried once: where the flash answers, the root key is there and the blob
unwraps, slot 0 of every Prism die with a root key holds the key and KEY_OK is 1, else no register changes; the epoch area is read
once, and strap values 2 and 3 hold the start; a slot that passes is taken and step 9 begins, after a failed one with FALLBACK and
its event; when both fail the start holds; the slot not examined is looked at afterwards; requests leave every 100 ms while nothing is pulled, and
a complete answer is taken, or is counted and dropped (R73, R80, R107, R108, R111, R112, R121, R128). -/
def Obligations.ImageIsChosen : Prop :=
  ∀ (s : State) (answers : Bool),
    (s.start.step = 8 → s.ld.keyTried = false →
      (∀ key, answers = true → (s.kstore 0).rootOk = true →
        keyUnwrap (kwSlot 0) rootKey (nats (s.flashRead 0x2000 40)) = some key →
        Gives (.imageKeyUnwrap answers) s fun t => t.ld.keyTried = true ∧ t.fld (IMG.STAT 0) IMG.STAT.KEY_OK = 1 ∧
          ∀ p ∈ s.prismDies, (s.kstore p).rootOk = true → (t.kslot (sk p 0)).key = key) ∧
      (answers = false ∨ (s.kstore 0).rootOk = false →
        Gives (.imageKeyUnwrap answers) s fun t => t.ld.keyTried = true ∧ OnlyRegs [] s t)) ∧
    (s.start.step = 8 → s.ld.epochRead = false →
      Gives (.epochAreaRead answers) s fun t => t.ld.epochRead = true ∧ t.ld.flashAnswers = answers ∧
        (s.bootMode < 2 → t.ld.st = s.ld.st ∧
          ∀ c, answers = true → s.curRec = some c → t.fld (IMG.EPOCH 0) IMG.EPOCH.FLOOR = c.floor % 65536 ∧
            t.fld (IMG.EPOCH_STAT 0) IMG.EPOCH_STAT.RECORDS = s.recsIn c.sector % 512) ∧
        (s.bootMode = 2 → t.ld.st = (if s.lanesOff = true then .holdHost else .holdPeer) ∧ t.fld (RSTC.START 0) RSTC.START.IMG_HOLD = 1) ∧
        (s.bootMode = 3 → t.ld.st = .holdHost ∧ t.fld (RSTC.START 0) RSTC.START.IMG_HOLD = 1)) ∧
    (s.start.step = 8 → s.ld.keyTried = true → s.ld.epochRead = true → s.ld.st = .headers →
      let i := if s.ld.examined ≠ [] then 1 - s.firstSlot else s.firstSlot
      let r : SlotReport := if answers then s.examine i true else { state := 8 }
      (r.state = 1 → Gives (.slotExamine answers) s fun t =>
        t.start.step = 9 ∧ t.ld.st = .distributing ∧ t.ld.slot = i ∧ t.ld.dir = s.imgDir i ∧ t.ld.examined = s.ld.examined ++ [i] ∧
          Holds t (IMG.DIGEST 0) (s.imgWord i 2) ∧
          (s.ld.examined ≠ [] → t.fld (RSTC.START 0) RSTC.START.FALLBACK = 1 ∧ Logged (IMG.EVT 0) 0 s t)) ∧
      (r.state ≠ 1 → s.ld.examined = [] → Gives (.slotExamine answers) s fun t =>
        t.start = s.start ∧ t.ld.st = .headers ∧ t.ld.examined = [i] ∧ OnlyRegs [slotReg i] s t) ∧
      (r.state ≠ 1 → s.ld.examined ≠ [] → Gives (.slotExamine answers) s fun t =>
        t.ld.st = .holdBad ∧ t.start.heartbeat = false ∧ t.start.step = 8 ∧ t.fld (RSTC.START 0) RSTC.START.IMG_HOLD = 1)) ∧
    (10 ≤ s.start.step → s.ld.examined = [s.ld.slot] →
      Gives (.otherSlotCheck answers) s fun t => t.ld.examined = [s.ld.slot, 1 - s.ld.slot] ∧ OnlyRegs [slotReg (1 - s.ld.slot)] s t) ∧
    (s.ld.st = .holdPeer → s.lanesOff = true →
      Gives .netBootOff s fun t =>
        t.ld.st = .holdHost ∧ t.fld (RSTC.START 0) RSTC.START.IMG_HOLD = 1 ∧ Logged (IMG.EVT 0) 7 s t ∧ OnlyRegs [IMG.EVT 0, RSTC.START 0] s t) ∧
    (s.ld.st = .holdPeer → s.lanesOff = false → s.ld.pull = none → (s.ld.asked.all fun e => s.pastMs e 100) = true →
      Gives .netBootRequest s fun t => OnlyRegs [] s t ∧ ∀ f, f < 4 → (s.eth (fk 0 f)).up = true →
        s.ezOk 0 f { data := ezFrame 0 0 (s.ezHeader 6 0 0 0xFFFF 0 (beBytes 6 s.fuse.serial ++
          beBytes 2 (s.fld (IMG.EPOCH 0) IMG.EPOCH.FLOOR) ++ beBytes 1 (s.x + 16 * s.y))) } = true → ∃ b, Out.eth 0 f b ∈ t.out) ∧
    (∀ u, s.ld.st = .holdPeer → s.ld.pull = some u → u.chunks ≤ u.next → u.asked = [] →
      ((s.examine 2 true).state = 1 → Gives .netImageReceived s fun t =>
        t.start.step = 9 ∧ t.ld.st = .distributing ∧ t.ld.slot = 2 ∧ t.ld.pull = none) ∧
      ((s.examine 2 true).state ≠ 1 → Gives .netImageReceived s fun t =>
        t.start = s.start ∧ t.ld.st = .holdPeer ∧ t.ld.pull = none ∧ t.ld.rxWords = [] ∧
          t.fld (IMG.XFER 0) IMG.XFER.ATTEMPTS = sat 255 (s.fld (IMG.XFER 0) IMG.XFER.ATTEMPTS + 1)))

/-- Steps 9 to 15: the configuration is applied and step 10 begins with the FIRMWARE sections left, or an armed lid switch resets the
package; enables of step 11 and 12 are done once; each FIRMWARE section leaves the list as it ends, once no erase of step 10 is due, and a failed one is counted; service
begins when steps 10 to 13 are done (R77, R113 to R118, R125, R514). -/
def Obligations.StartGoesOn : Prop :=
  ∀ (s : State) (answers : Bool),
    (s.start.step = 9 →
      let left := (List.range s.ld.dir.length).filter fun n => !(s.ld.dir.getD n {}).isConfig
      Gives .configDistribution s fun t => 
        ((t.start.step = 10 ∧ t.ld.fwLeft = left) ∨ ResetBy 5 t) ∧
          (s.sec.tamperSeen ≠ 2 → s.ld.dir.filter Section.isConfig = [] → t.start.step = 10 ∧ t.ld.fwLeft = left)) ∧
    (s.start.step = 10 → s.start.canDone = false →
      Gives .canLinEnable s fun t => t.start = { s.start with canDone := true } ∧ t.ld.deferred = s.ld.deferred.filter fun a => !atEleven a) ∧
    (s.start.step = 10 → s.start.ethDone = false →
      Gives .ethernetEnable s fun t => t.start = { s.start with ethDone := true } ∧ t.ld.deferred = s.ld.deferred.filter fun a => !atTwelve a) ∧
    (∀ n l, 10 ≤ s.start.step → s.eraseAtTen = false → s.ld.fwLeft = n :: l →
      Gives (.fwSectionDone answers) s fun t => t.ld.fwLeft = l ∧ (l = [] → t.start.fwDone = true ∧ t.ld.st = .done) ∧
        (((answers || s.ld.slot == 2) && s.secTagOk s.ld.slot n) = true →
          t.fld (IMG.FW_STAT 0) IMG.FW_STAT.PASSED = sat (2 ^ IMG.FW_STAT.PASSED.w - 1) (s.fld (IMG.FW_STAT 0) IMG.FW_STAT.PASSED + 1) ∧
            t.ld.fwBad = s.ld.fwBad) ∧
        (((answers || s.ld.slot == 2) && s.secTagOk s.ld.slot n) = false →
          t.fld (IMG.FW_STAT 0) IMG.FW_STAT.FAILED = sat (2 ^ IMG.FW_STAT.FAILED.w - 1) (s.fld (IMG.FW_STAT 0) IMG.FW_STAT.FAILED + 1) ∧
            Logged (IMG.EVT 0) 2 s t ∧
            t.ld.fwBad = s.ld.fwBad ++ [16 * (s.ld.dir.getD n {}).target + (s.ld.dir.getD n {}).partition])) ∧
    (s.start.step = 10 → s.start.epochDone = true → s.start.canDone = true → s.start.ethDone = true → s.start.fwDone = true →
      Gives .serviceEntry s fun t => t.start = { s.start with step := 15, served := true })

/-- The epoch area: step 10 writes the next record where a free position follows the current one and shows its outcome; with no
record, with the last epoch, or with a flash that does not answer it shows that; in service the other sector is erased when 256
records stand; IMG.CMD is accepted in service while none runs and ends with its RESULT and its event (R121 to R126, R135, R137). -/
def Obligations.EpochRecords : Prop :=
  ∀ (s : State) (answers erase second : Bool),
    let epoch := fun (t : State) => (t.fld (IMG.EPOCH_STAT 0) IMG.EPOCH_STAT.STATE, t.fld (IMG.EPOCH 0) IMG.EPOCH.EPOCH)
    (s.start.step = 10 → s.start.epochDone = false →
      (∀ c i, s.ld.flashAnswers = true → s.curRec = some c → c.epoch < 0xFFFE → s.freeFrom c.sector (c.pos + 1) = some i →
        Gives (.epochWrite true erase true second) s fun t =>
          t.start.epochDone = true ∧ epoch t = (1, c.epoch + 1) ∧ t.fld (RSTC.START 0) RSTC.START.EPOCH_OK = 1 ∧
            t.flashRead (recAt c.sector i) 12 = EpochRec.bytes { c with epoch := c.epoch + 1 } ∧
            bit (t.reg (IMG.EVT 0)) 4 = (bit (s.reg (IMG.EVT 0)) 4 || decide (0xFFF0 ≤ c.epoch + 1))) ∧
      (∀ c, s.ld.flashAnswers = true → s.curRec = some c → c.epoch < 0xFFFE →
        Gives (.epochWrite false erase true second) s fun t =>
          t.start.epochDone = true ∧ epoch t = (2, c.epoch) ∧ t.flash = s.flash ∧ Logged (IMG.EVT 0) 3 s t) ∧
      (∀ c, s.ld.flashAnswers = true → s.curRec = some c → c.epoch = 0xFFFF →
        Gives (.epochWrite answers erase true second) s fun t =>
          t.start.epochDone = true ∧ epoch t = (4, 0xFFFF) ∧ t.flash = s.flash ∧ Logged (IMG.EVT 0) 5 s t) ∧
      (s.ld.flashAnswers = true → s.curRec = none → s.fuse.epochInit = true →
        Gives (.epochWrite answers erase true second) s fun t =>
          t.start.epochDone = true ∧ epoch t = (3, 0) ∧ t.flash = s.flash ∧ Logged (IMG.EVT 0) 3 s t) ∧
      (∀ i, s.ld.flashAnswers = true → s.curRec = none → s.fuse.epochInit = false → s.freeFrom 0 0 = some i →
        Gives (.epochWrite true erase true second) s fun t =>
          t.start.epochDone = true ∧ epoch t = (1, 1) ∧ t.fuse.epochInit = true ∧
            t.flashRead (recAt 0 i) 12 = EpochRec.bytes { epoch := 1 }) ∧
      (s.ld.flashAnswers = false →
        Gives (.epochWrite answers erase true second) s fun t =>
          t.start.epochDone = true ∧ epoch t = (5, 0) ∧ t.flash = s.flash ∧ Logged (IMG.EVT 0) 3 s t)) ∧
    (∀ k, s.ld.erasing = some k →
      Gives (.epochBackgroundErase true) s fun t =>
        t.ld.erasing = none ∧ t.fld (IMG.EPOCH_STAT 0) IMG.EPOCH_STAT.ERASE_PEND = 0 ∧
          ∀ a, t.flashByte a = if a / 4096 = k then 0xFF else s.flashByte a) ∧
    (∀ c, s.ld.erasing = none → s.curRec = some c → s.start.step = 15 → s.flag (RSTC.START 0) RSTC.START.FW_DONE = true →
      s.ld.flashAnswers = true → 256 ≤ s.recsIn c.sector → s.sectorErased (1 - c.sector) = false →
      Gives (.epochBackgroundErase answers) s fun t =>
        t.ld.erasing = some (1 - c.sector) ∧ t.fld (IMG.EPOCH_STAT 0) IMG.EPOCH_STAT.ERASE_PEND = 1 ∧ t.flash = s.flash) ∧
    (∀ (w : Sender) (ag : Agent) (u : State) (v : Nat), u.start.step = 15 → u.fld (IMG.CMD 0) IMG.CMD.RESULT ≠ 1 →
      let arg := fget (BitVec.ofNat 48 v) IMG.CMD.ARG
      (Reaches (.imgCmdRaiseFloor w v) s ag u → Gives (.imgCmdRaiseFloor w v) s fun t =>
        t.ld = { u.ld with cmdBusy := some (1, arg) } ∧ t.fld (IMG.CMD 0) IMG.CMD.RESULT = 1 ∧ OnlyRegs [IMG.CMD 0] u t ∧
          t.out = endOut w .ok u.out) ∧
      (Reaches (.imgCmdSetPrefer w v) s ag u → Gives (.imgCmdSetPrefer w v) s fun t =>
        t.ld = { u.ld with cmdBusy := some (2, arg) } ∧ t.fld (IMG.CMD 0) IMG.CMD.RESULT = 1 ∧ OnlyRegs [IMG.CMD 0] u t ∧
          t.out = endOut w .ok u.out)) ∧
    (∀ op arg, s.ld.cmdBusy = some (op, arg) → s.ld.erasing = none →
      let refused := (op = 1 ∧ (arg < (s.curRec.map fun c => c.floor).getD 0 ∨ s.fld (IMG.ID 0) IMG.ID.GEN < arg)) ∨ (op = 2 ∧ 2 < arg)
      let ends := fun (n : Nat) (t : State) =>
        t.ld.cmdBusy = none ∧ t.fld (IMG.CMD 0) IMG.CMD.RESULT = n ∧ Logged (IMG.EVT 0) 6 s t
      (refused → Gives (.imgCmdDone answers erase true second) s fun t => ends 3 t ∧ t.flash = s.flash) ∧
      (¬refused → s.ld.flashAnswers = false → Gives (.imgCmdDone answers erase true second) s fun t => ends 4 t ∧ t.flash = s.flash) ∧
      (¬refused → s.ld.flashAnswers = true → s.curRec = none →
        Gives (.imgCmdDone answers erase true second) s fun t => ends 6 t ∧ t.flash = s.flash) ∧
      (∀ c, ¬refused → s.ld.flashAnswers = true → s.curRec = some c → c.epoch = 0xFFFF →
        Gives (.imgCmdDone answers erase true second) s fun t => ends 5 t ∧ t.flash = s.flash) ∧
      (∀ c i, ¬refused → s.ld.flashAnswers = true → s.curRec = some c → c.epoch ≠ 0xFFFF → s.freeFrom c.sector (c.pos + 1) = some i →
        Gives (.imgCmdDone true erase true second) s fun t =>
          ends 2 t ∧ t.flashRead (recAt c.sector i) 12 =
            EpochRec.bytes { c with
              epoch := c.epoch + 1, floor := if op = 1 then arg else c.floor, prefer := if op = 2 then arg else c.prefer }))

/-- Eyepiece commands on the SPI path, from step 6, with no entry waiting that they match: each is answered with its code, its data and
the STATUS of the attention bits; NOP, PEER_STATUS, a read that completes, one of no register and a RESET without its key change
nothing else; a native slow-domain read receives RETRY and opens an entry, the compatible view gives the copy; a write of a plain
register of blocks DEV, RSTC, EYE or D2D stores its writable bits; RESET with its key resets the package; an image is received between BEGIN and
END; a flash command starts, or is denied or turned away (R157 to R161, R165 to R173). -/
def Obligations.EyepieceOnSpi : Prop :=
  ∀ (s : State) (tag addr v : Nat) (l : List Byte), 6 ≤ s.start.step → tag < 256 → addr < 2 ^ 24 → v < 2 ^ 48 →
    let cmd := fun (op n : Nat) (payload : List Byte) =>
      ({ op := op, tag := tag, addr := addr, data := n, payload := payload } : EyeCmd)
    let said := fun (op n : Nat) (payload : List Byte) (c : Code) (data : List Byte) =>
      Out.spi (spiReply (cmd op n payload) s.attn c data) :: s.out
    (∀ e ∈ s.pendsAt 0, ∀ op n, (cmd op n []).matches e = false) →
    exec (.nop tag) s = .next { s with out := .spi (spiReply { op := 0, tag := tag } s.attn .ok []) :: s.out } ∧
    exec (.peerStatus tag addr v) s = .next { s with out := said 3 v [] .ok (beBytes 6 s.attn) } ∧
    (s.regIs addr = false → exec (.read tag addr v) s = .next { s with out := said 1 v [] .noSuch (wordBytes 0) }) ∧
    (s.regIs addr = true → (4 ≤ aDie addr ∨ (aBlk addr ∉ [0x09, 0x78, 0x82] ∧ (aBlk addr < 0x20 ∨ 0x40 ≤ aBlk addr))) →
      slowRead addr = false → (4 ≤ aDie addr → isBlkStat addr = false → s.dlinkDown (aDie addr - 4) = false) →
      s.parityBad addr = false →
      exec (.read tag addr v) s = .next { s with out := said 1 v [] .ok (wordBytes (s.live addr)) }) ∧
    (s.regIs addr = true → slowRead addr = true → s.dlinkLost (aDie addr - 4) = false →
      (s.flag (EYE.CTRL 0) EYE.CTRL.COMPAT_SPI = true →
        exec (.read tag addr v) s = .next { s with out := said 1 v [] .ok (wordBytes (Sparse.get regReset s.compat addr)) }) ∧
      (s.flag (EYE.CTRL 0) EYE.CTRL.COMPAT_SPI = false → Gives (.read tag addr v) s fun t =>
        t.out = said 1 v [] .retry [] ∧ OnlyRegs [] s t ∧
          t.pendsAt 0 = ((s.pendsAt 0 ++ [({ opcode := 1, addr := addr, data := v, st := .fetch s.edges } : Pend)]).drop
            ((s.pendsAt 0).length + 1 - 16)))) ∧
    (aDie addr < 4 → (aBlk addr < 3 ∨ (0x58 ≤ aBlk addr ∧ aBlk addr ≤ 0x5A)) → aReg addr ≠ 0x1FFF →
      ((regRow addr).any fun w => w.kind == .sc) = false → s.lands .spi addr (BitVec.ofNat 48 v) = true →
      s.refuses addr (BitVec.ofNat 48 v) = false →
      Gives (.write tag addr v) s fun t => t.out = said 2 v [] .ok [] ∧ OnlyRegs [addr] s t ∧
        ∀ w, regRow addr = some w → Holds t addr
          ((s.reg addr &&& ~~~ BitVec.ofNat 48 w.wmask) ||| (BitVec.ofNat 48 v &&& BitVec.ofNat 48 w.wmask))) ∧
    (s.regIs addr = false → exec (.write tag addr v) s = .next { s with out := said 2 v [] .noSuch [] }) ∧
    Gives (.reset tag addr 0xA55A) s (ResetBy 4) ∧
    (v ≠ 0xA55A → exec (.reset tag addr v) s = .next { s with out := said 8 v [] .denied [] }) ∧
    (s.ld.st = .holdHost → 6 * (v % 2 ^ 32) ≤ s.rxRoom →
      exec (.imageBegin tag addr v) s = .next { s with
        ld := { s.ld with rxWords := [], rxNext := 0, rxTotal := v % 2 ^ 32, rxOpen := true, pull := none }
        out := said 0x10 v [] .ok [] }) ∧
    (s.ld.st ≠ .holdHost → exec (.imageBegin tag addr v) s = .next { s with out := said 0x10 v [] .denied [] }) ∧
    (∀ j, s.ld.st = .holdHost → s.ld.rxOpen = true → addr ≤ s.ld.rxNext → 6 ≤ l.length → l.length ≤ 1536 → l.length = 6 * j →
      addr + j ≤ s.ld.rxTotal →
      Gives (.imageData tag addr l) s fun t => t.out = said 0x11 l.length l .ok [] ∧ t.ld.rxNext = max s.ld.rxNext (addr + j) ∧
        OnlyRegs [] s t ∧
        ∀ i, Sparse.get (fun _ => (0 : Word)) t.ld.rxWords i =
          if addr ≤ i ∧ i < addr + j then (bytesToWords j l).getD (i - addr) 0 else Sparse.get (fun _ => 0) s.ld.rxWords i) ∧
    (s.ld.st = .holdHost → s.ld.rxOpen = true → s.ld.rxNext = s.ld.rxTotal → (s.examine 2 true).state = 1 →
      Gives (.imageEnd tag addr v) s fun t =>
        t.out = said 0x12 v [] .ok [] ∧ t.start.step = 9 ∧ t.ld.st = .distributing ∧ t.ld.slot = 2) ∧
    (s.eyeFlashBusy = false →
      (s.flashDenied 0x18 addr 4096 = false → Gives (.flashErase tag addr v) s fun t =>
        t.out = said 0x18 v [] .ok [] ∧ t.ld = { s.ld with flashOp := .erase addr } ∧ OnlyRegs [EYE.FLASH 0] s t ∧
          t.fld (EYE.FLASH 0) EYE.FLASH.RESULT = 1) ∧
      (1 ≤ l.length → l.length ≤ 256 → s.flashDenied 0x19 addr l.length = false → Gives (.flashProgram tag addr l) s fun t =>
        t.out = said 0x19 l.length l .ok [] ∧ t.ld = { s.ld with flashOp := .program addr l } ∧ OnlyRegs [EYE.FLASH 0] s t ∧
          t.fld (EYE.FLASH 0) EYE.FLASH.RESULT = 1) ∧
      (1 ≤ v → v ≤ 256 → s.flashDenied 0x1A addr v = false → Gives (.flashRead tag addr v) s fun t =>
        t.out = said 0x1A v [] .retry [] ∧ t.ld = { s.ld with flashOp := .read addr v } ∧ OnlyRegs [EYE.FLASH 0] s t ∧
          ({ opcode := 0x1A, addr := addr, data := v, st := .flash } : Pend) ∈ t.pendsAt 0)) ∧
    (s.flashDenied 0x18 addr 4096 = true → exec (.flashErase tag addr v) s = .next { s with out := said 0x18 v [] .denied [] }) ∧
    (s.flashDenied 0x18 addr 4096 = false → s.eyeFlashBusy = true →
      exec (.flashErase tag addr v) s = .next { s with out := said 0x18 v [] .busy [] })

/-- What follows an Eyepiece command: the flash operation ends with its effect and RESULT; a bad frame is answered BAD_FRAME and not
executed, an aborted one leaves no trace; an entry is fetched, expires, or times out; the compatible view takes the live values; a
write that reaches a plain register stores its writable bits; the extremes of VBAT restart; a request on Ethernet is counted and its
records executed, one that is malformed or not authentic is counted as dropped (R155, R157, R158, R162, R169, R173, R174, R178, R179,
R184, R186). -/
def Obligations.EyepieceGoesOn : Prop :=
  ∀ (s : State) (i n : Nat),
    (s.prismUp = true →
      (∀ a, s.ld.flashOp = .erase a → Gives (.flashOpDone true) s fun t =>
        t.fld (EYE.FLASH 0) EYE.FLASH.RESULT = 2 ∧ t.ld.flashOp = .none ∧
          ∀ b, t.flashByte b = if b / 4096 = a / 4096 then 0xFF else s.flashByte b) ∧
      (∀ a l, s.ld.flashOp = .program a l → Gives (.flashOpDone true) s fun t =>
        t.ld.flashOp = .none ∧ (t.fld (EYE.FLASH 0) EYE.FLASH.RESULT = if t.flashRead a l.length = l then 2 else 3) ∧
          ∀ b, t.flashByte b = if a ≤ b ∧ b < a + l.length then s.flashByte b &&& l.getD (b - a) 0 else s.flashByte b) ∧
      (∀ a k, s.ld.flashOp = .read a k → Gives (.flashOpDone true) s fun t =>
        t.fld (EYE.FLASH 0) EYE.FLASH.RESULT = 2 ∧ t.ld.flashOp = .none ∧ t.flash = s.flash ∧
          ∀ j, j < 2 → t.pendsAt j = (s.pendsAt j).map fun e =>
            if e.st = .flash then { e with st := .ready .ok (s.flashRead a k) s.edges } else e)) ∧
    (∀ b : List Byte, 6 ≤ s.start.step → 3 ≤ b.length → hostLength b ≤ b.length → hostBad b = true →
      exec (.badFrame b) s = .next { s with
        out := .spi (spiReply { op := bytesAt b 0 1, tag := bytesAt b 1 1 } s.attn .badFrame []) :: s.out }) ∧
    (∀ b : List Byte, exec (.spiAbortedCommand b) s = .next s) ∧
    (∀ e : Pend, i < 2 → s.prismUp = true → (s.pendsAt i)[n]? = some e →
      let into := fun (st : PendState) (t : State) => t.pendsAt i = (s.pendsAt i).modify n fun x => { x with st := st }
      let a := e.addr % 2 ^ 24
      (∀ since, e.st = .fetch since → s.regIs a = true → slowRead a = true → s.parityBad a = false →
        Gives (.slowFetchDone i n) s fun t => OnlyRegs [] s t ∧
          into (if s.dlinkDown (aDie a - 4) = true then .ready .timeout (wordBytes 0) s.edges
            else .ready .ok (wordBytes (s.live a)) s.edges) t) ∧
      (∀ c d since, e.st = .ready c d since → s.pastMs since 10 = true →
        Gives (.pendingEntryExpire i n) s fun t => t.pendsAt i = (s.pendsAt i).eraseIdx n ∧ OnlyRegs [] s t) ∧
      (∀ g since, e.st = .remote g since → s.pastMs since (s.fld (EYE.CTRL 0) EYE.CTRL.REMOTE_TO) = true →
        Gives (.remoteTimeout i n) s fun t =>
          into (.ready .timeout [] s.edges) t ∧ Logged (EYE.EVT 0) 3 s t ∧ OnlyRegs [EYE.EVT 0] s t)) ∧
    (s.prismUp = true → Gives .compatViewRefresh s fun t => OnlyRegs [] s t ∧
      ∀ a, Sparse.get regReset t.compat a = if a ∈ s.slowRegs then s.live a else Sparse.get regReset s.compat a) ∧
    (∀ (w : Sender) (ag : Agent) (a v : Nat) (x : RegRow), s.hostWriter w = some ag → a < 2 ^ 24 → v < 2 ^ 48 → aDie a < 4 →
      (aBlk a < 3 ∨ (0x58 ≤ aBlk a ∧ aBlk a ≤ 0x5A)) → aReg a ≠ 0x1FFF → regRow a = some x → x.kind ≠ .sc →
      s.lands ag a (BitVec.ofNat 48 v) = true → s.refuses a (BitVec.ofNat 48 v) = false →
      Gives (.registerWrite w a v) s fun t => OnlyRegs [a] s t ∧ t.out = .reply ag .ok 0 :: s.out ∧
        Holds t a ((s.reg a &&& ~~~ BitVec.ofNat 48 x.wmask) ||| (BitVec.ofNat 48 v &&& BitVec.ofNat 48 x.wmask))) ∧
    (∀ (w : Sender) (ag : Agent) (u : State) (d v : Nat), d < 4 → Reaches (.supMinmaxClear w d v) s ag u →
      Gives (.supMinmaxClear w d v) s fun t => OnlyRegs [] u t ∧ t.out = endOut w .ok u.out ∧
        (t.dlinkLost d = false → Gives (.postedWriteEffect (4 + d) 1) t fun z =>
          (z.supply d).vmin = (u.supply d).vbat ∧ (z.supply d).vmax = (u.supply d).vbat ∧ (z.supply d).vbat = (u.supply d).vbat)) ∧
    (∀ q r, s.prismUp = true → s.start.ethDone = true → s.waits 0 63 (fun g => g == 0) = some (q, r) →
      let u := s.afterTake 0 63 fun g => g == 0
      let b := frBody (r.fr.data.take (r.fr.data.length - 4))
      let k := bytesAt b 2 2
      let flags := bytesAt b 1 1
      let formed := bytesAt b 0 1 = 1 ∧ r.fr.data.length ≤ 1518 ∧ flags % 2 = 0 ∧ flags < 4 ∧ 1 ≤ k ∧ k ≤ 100
      let counted := fun (f : Fld) (t : State) => t.fld (EYE.ETH_STAT 0) f = sat (2 ^ f.w - 1) (u.fld (EYE.ETH_STAT 0) f + 1)
      (¬formed ∨ parseRecords k (b.drop 10) = none → Gives .eyepieceEthRequest s fun t =>
        counted EYE.ETH_STAT.OTHER_DROP t ∧ Logged (EYE.EVT 0) 4 u t ∧ OnlyRegs [EYE.ETH_STAT 0, EYE.EVT 0] u t) ∧
      (∀ l rest, formed → parseRecords k (b.drop 10) = some (l, rest) → u.flag (EYE.ETH 0) EYE.ETH.AUTH = true → flags < 2 →
        Gives .eyepieceEthRequest s fun t =>
          counted EYE.ETH_STAT.AUTH_DROP t ∧ Logged (EYE.EVT 0) 0 u t ∧ OnlyRegs [EYE.ETH_STAT 0, EYE.EVT 0] u t) ∧
      (∀ l rest, formed → parseRecords k (b.drop 10) = some (l, rest) → u.flag (EYE.ETH 0) EYE.ETH.AUTH = false →
        (∀ c ∈ l, c.op = 0) →
        Gives .eyepieceEthRequest s fun t =>
          counted EYE.ETH_STAT.ACCEPTED t ∧ OnlyRegs [EYE.ETH_STAT 0] u t ∧
            ∃ x : RxFrame, t.buf (fk 0 63) = u.buf (fk 0 63) ++ [x] ∧ x.looked = true))

/-- Admission. A candidate of one destination, no part of which is admitted, offered or retried, is granted, discarded or refused as its
one verdict says: granted, its frame is admitted, its reference joins its queue and a hold of its class ends; discarded, it leaves the
buffer; refused, it stays and its class is held from that edge. The guard of a class held for STORM_MS, or for 100 ms where FAB is
disabled, goes into drain and discards the candidate (R198, R199, R201, R213 to R216, R235, R257). -/
def Obligations.FramesAreAdmitted : Prop :=
  ∀ (s : State) (p f c : Nat) (r : RxFrame) (o : Offer), p < s.x → p < 4 → f < 64 → f ≠ 60 → c < 8 → s.prismUp = true →
    s.enabled p 0x81 = false → candidate (s.buf (fk p f)) c = some r → r.id = none → r.fr.kind = 0 → (r.fr.hop = true → qDie r.fr.dest = p) → s.offers p f r = [o] →
    let n := s.askCells p f r.fr
    let both := fun (P : State → Prop) =>
      (s.offerClass p f = some c → Gives (.frameAdmission p f) s P) ∧
      ((s.hold (ck p f c)).held = true → Gives (.admissionRetry p f c) s P)
    let out := replaceCand c [] (s.buf (fk p f))
    let on := s.enabled p 0x08 = true ∧ s.enabled p 0x09 = true
    (∀ m sh x, on → s.verdict p o n 0 0 = .take m sh x → both fun t =>
      t.buf (fk p f) = out ∧
        t.adm (fk p f) = s.adm (fk p f) ++ [{ id := s.sw.nextRef, fr := r.fr, cells := n, got := r.got, since := s.edges }] ∧
        (t.queue (globalQueue p o.q)).refs = (s.queue (globalQueue p o.q)).refs ++
          [{ id := s.sw.nextRef, fr := o.fr, cells := n, minC := m, shC := sh, resC := x, wrote := s.time p }] ∧
        (t.hold (ck p f c)).held = false ∧ (t.hold (ck p f c)).drain = false ∧ Counted (QMGR.CNT p 0) 1 s t) ∧
    (∀ k, on → s.verdict p o n 0 0 = .drop k → both fun t =>
      t.buf (fk p f) = out ∧ t.adm (fk p f) = s.adm (fk p f) ∧
        (t.queue (globalQueue p o.q)).refs = (s.queue (globalQueue p o.q)).refs) ∧
    (on → s.verdict p o n 0 0 = .refuse → (s.hold (ck p f c)).drain = false → ¬(r.fr.cut = true ∧ r.fr.abort = true) → both fun t =>
      t.buf (fk p f) = replaceCand c
        [{ r with fr := { r.fr with cut := false }, since := some (r.since.getD (s.time p)) }] (s.buf (fk p f)) ∧
      t.adm (fk p f) = s.adm (fk p f) ∧ t.queue (globalQueue p o.q) = s.queue (globalQueue p o.q) ∧
      t.hold (ck p f c) = (if (s.hold (ck p f c)).held = true then s.hold (ck p f c) else { held := true, drain := false, since := s.edges }) ∧
      Counted (QMGR.CNT p 1) 1 s t) ∧
    (let h := s.holdNow p f c
     h.held = true → h.drain = false → h.told = false → s.pastMs h.since (if s.enabled p 0x08 = true then s.fld (FAB.CFG p) FAB.CFG.STORM_MS else 100) = true →
      Gives (.stormTimeout p f c) s fun t =>
        t.buf (fk p f) = out ∧ (t.hold (ck p f c)).drain = true ∧ Counted (FAB.STORM_CNT p f) 1 s t ∧ Counted (FAB.CNT p 5) 1 s t ∧
          Logged (FAB.EVT p) 0 s t ∧ t.fld (FAB.STORM_LAST p) FAB.STORM_LAST.FACET = f ∧ t.fld (FAB.STORM_LAST p) FAB.STORM_LAST.CLASS = c)

/-- Entry, links and errors. A frame of facets 24 to 55 enters before any other; the frame whose turn it is enters with the cells that
have come; a cell crosses a link for its credit and brings its frame, or waits without; units return; a violation and a failed check
are recorded and their frame is aborted; a frame not written within 1 ms is an event; the pace monitor and FAB's commands do what R229,
R233, R239, R240 and R244 say (R196, R202, R205, R222, R234). -/
def Obligations.FramesCrossTheFabric : Prop :=
  ∀ (s : State) (p f c j : Nat), p < s.x → p < 4 → f < 64 → c < 8 → j < 3 → s.prismUp = true →
    (∀ g, 24 ≤ g → g < 56 → (s.entering p g).isSome = true → ∃ h, s.entryFacet p = some h ∧ 24 ≤ h ∧ h < 56) ∧
    (∀ a, s.entryFacet p = some f → s.entering p f = some a → a.fr.abort = false →
      Gives (.frameEntry p) s fun t =>
        t.adm (fk p f) = (if a.got = a.fr.cells then (s.adm (fk p f)).filter fun x => x.id != a.id
          else (s.adm (fk p f)).map fun x => if x.id = a.id then { x with entered := x.got } else x) ∧
          Counted (FAB.CNT p 0) (a.got - a.entered) s t ∧
          (a.entered = 0 → Counted (FAB.CNT p 1) 1 s t ∧ Counted (FAB.CNT p 2) a.members s t)) ∧
    (let q := d2dFar p j
     let k := 4 * q + d2dLink q p
     (∀ e fr n, (s.link k).sending.find? (fun e => e.1 == c) = some (e, fr, n) → s.enabled p (0x58 + j) = true →
        s.enabled q (0x58 + d2dLink q p) = true → (s.link k).up = true →
        ((s.link k).credit.getD c 0 < fr.units n → Gives (.d2dCellReceive p j c) s fun t =>
          (t.link k).noCredit.any (fun e => e.1 == c) = true ∧ (t.link k).sending = (s.link k).sending ∧ OnlyRegs [] s t) ∧
        (fr.units n ≤ (s.link k).credit.getD c 0 → n = 0 → fr.crossesAgain p = false → Gives (.d2dCellReceive p j c) s fun t =>
          (t.link k).credit = (s.link k).credit.modify c (· - fr.units n) ∧ (t.link k).noCredit.any (fun e => e.1 == c) = false ∧
            t.buf (fk p (56 + j)) = s.buf (fk p (56 + j)) ++
              [{ fr := { fr with hop := true, link := none, cut := false }, bufCls := c, looked := true, got := 1 }] ∧
            Counted (D2D.CELLS_TX q (d2dLink q p)) 1 s t ∧ Counted (D2D.CELLS_RX p j) 1 s t)) ∧
     Gives (.d2dCreditReturn p j c) s (fun t =>
       (t.link (4 * p + j)).credit = (s.link (4 * p + j)).credit.modify c (· + (s.link k).back.getD c 0) ∧
         (t.link k).back = (s.link k).back.set c 0 ∧ OnlyRegs [] s t) ∧
     Gives (.d2dCreditViolation p j c) s (fun t =>
       bit (t.reg (D2D.EVT p j)) 1 = true ∧ bit (t.reg (D2D.EVT p j)) 2 = true ∧ bit (t.reg (D2D.EVT q (d2dLink q p))) 2 = true ∧
         (t.link k).sending = (s.link k).sending.filter (fun e => e.1 != c) ∧ (t.link (4 * p + j)).noCredit = [] ∧
         OnlyRegs [D2D.EVT p j, D2D.EVT q (d2dLink q p), QMGR.EVT p] s t)) ∧
    (∀ i flip code a place, place < 3 → (s.adm (fk p f)).find? (fun a => a.fr.cls == c) = some a → i < a.fr.cells → i < 36 →
      (code = true ∨ a.fr.cellFails a.cells i flip = true) →
      Gives (.cellCheckFailure p f c place i flip code) s fun t =>
        t.adm (fk p f) = (s.adm (fk p f)).erase a ∧ Counted (FAB.CNT p 6) 1 s t ∧ Logged (FAB.EVT p) 2 s t ∧
          t.fld (FAB.CELL_ERR_LAST p) FAB.CELL_ERR_LAST.CLASS = c ∧ t.fld (FAB.CELL_ERR_LAST p) FAB.CELL_ERR_LAST.WHERE = place % 2) ∧
    (∀ i flip code r, (s.buf (fk p (56 + j))).reverse.find? (fun r => r.fr.cls == c) = some r → i < r.fr.cells → i < 36 →
      (code = true ∨ r.fr.cellFails r.fr.cells i flip = true) →
      Gives (.cellCheckFailure p (56 + j) c 3 i flip code) s fun t =>
        Logged (D2D.EVT p j) 0 s t ∧ Counted (D2D.CHECK_ERRS p j) 1 s t ∧
          t.buf (fk p (56 + j)) = ((s.buf (fk p (56 + j))).reverse.erase r).reverse) ∧
    (∀ a, a ∈ s.adm (fk p f) → s.pastMs a.since 1 = true →
      Gives (.stalledCell p) s fun t => Logged (FAB.EVT p) 5 s t ∧ OnlyRegs [FAB.EVT p] s t) ∧
    (∀ v, v < 65536 → Gives (.paceSample p v) s fun t =>
      t.paceNow p = v ∧ t.fld (FAB.PACE p) FAB.PACE.MIN = min (s.fld (FAB.PACE p) FAB.PACE.MIN) v ∧ OnlyRegs [FAB.EVT p, FAB.PACE p] s t ∧
        (v < 1024 → 1024 ≤ s.paceNow p → Logged (FAB.EVT p) 4 s t) ∧
        (1024 ≤ v ∨ s.paceNow p < 1024 → t.reg (FAB.EVT p) = s.reg (FAB.EVT p))) ∧
    (∀ (w : Sender) (ag : Agent) (u : State) (v : Nat),
      let i := fget (BitVec.ofNat 48 v) FAB.REP_CMD.INDEX
      (Reaches (.repCmdRead w p v) s ag u → Gives (.repCmdRead w p v) s fun t =>
        t.reg (FAB.REP_W0 p) = (u.repEntry p i).1 &&& regMask (FAB.REP_W0 p) ∧
          t.reg (FAB.REP_W1 p) = (u.repEntry p i).2 &&& regMask (FAB.REP_W1 p) ∧ t.fld (FAB.REP_CMD p) FAB.REP_CMD.RESULT = 0 ∧
          OnlyRegs [FAB.REP_CMD p, FAB.REP_W0 p, FAB.REP_W1 p] u t ∧ t.out = endOut w .ok u.out) ∧
      (Reaches (.repCmdWrite w p v) s ag u → u.repBad p (u.reg (FAB.REP_W1 p)) = false → Gives (.repCmdWrite w p v) s fun t =>
        t.repEntry p i = (u.reg (FAB.REP_W0 p), u.reg (FAB.REP_W1 p)) ∧ t.fld (FAB.REP_CMD p) FAB.REP_CMD.RESULT = 0 ∧
          OnlyRegs [FAB.REP_CMD p] u t ∧ t.out = endOut w .ok u.out) ∧
      (Reaches (.repCmdWrite w p v) s ag u → u.repBad p (u.reg (FAB.REP_W1 p)) = true → Gives (.repCmdWrite w p v) s fun t =>
        t.tbls = u.tbls ∧ t.fld (FAB.REP_CMD p) FAB.REP_CMD.RESULT = 2) ∧
      (Reaches (.fabClrMax w p v) s ag u → Gives (.fabClrMax w p v) s fun t =>
        t.fld (FAB.PACE p) FAB.PACE.MIN = 0xFFFF ∧ (∀ g, g < 64 → t.fld (FAB.FACET p g) FAB.FACET.HELD_MAX_MS = 0) ∧
          (∀ g, g < 3 → t.reg (D2D.HOLD_MAX p g) = 0) ∧ t.out = endOut w .ok u.out))

/-- Egress and flushes. The frame that the scheduler picks begins transmission or its way over a link; a facet that is down has its
queues flushed; FLUSH_CMD empties what it covers and FLUSH_DONE reports it (R261, R264, R265, R282, R284). -/
def Obligations.QueuesSendAndFlush : Prop :=
  ∀ (s : State) (p f j : Nat), p < s.x → p < 4 → s.prismUp = true →
    (f < 32 → s.facetDown p f = false → (s.eth (fk p f)).tx = none → s.plcaShut p f = false →
      let u := (Act.shape p).run s
      (∀ i, i < 256 → u.ethTooLong p f (queueNo f 0 0 + i) (u.queue (globalQueue p (queueNo f 0 0 + i))) = none) →
      ∀ q r, u.pick p f (fun q v => u.ethEligible p f q v) = some (q, r) →
        Gives (.egressSelect p f) s fun t => (t.eth (fk p f)).tx = some r.fr) ∧
    (j < 3 → (s.link (4 * p + j)).up = true → s.enabled p (0x58 + j) = true →
      ∀ q r, s.pick p (56 + j) (fun _ u => u.front.filter fun r =>
          !((s.link (4 * p + j)).sending.any fun e => e.1 == r.fr.cls) &&
            decide (r.fr.units 0 ≤ (s.link (4 * p + j)).credit.getD r.fr.cls 0)) = some (q, r) →
        Gives (.egressSelect p (56 + j)) s fun t =>
          (t.link (4 * p + j)).sending = (s.link (4 * p + j)).sending ++ [(r.fr.cls, r.fr, 0)]) ∧
    (f ≤ 55 → s.facetDown p f = true →
      Gives (.facetDownFlush p f) s fun t =>
        (∀ q, q < 16384 → qFacet q = f → (t.queue (globalQueue p q)).refs = []) ∧
          (∀ q, q < 16384 → qFacet q ≠ f → (t.queue (globalQueue p q)).refs = (s.queue (globalQueue p q)).refs) ∧
          bit (t.reg (QMGR.EVT p)) 4 = true) ∧
    (∀ (w : Sender) (ag : Agent) (u : State) (v : Nat),
      let target := fget (BitVec.ofNat 48 v) QMGR.FLUSH_CMD.TARGET
      let scope := fget (BitVec.ofNat 48 v) QMGR.FLUSH_CMD.SCOPE
      Reaches (.flushCmd w p v) s ag u → u.fld (QMGR.FLUSH_CMD p) QMGR.FLUSH_CMD.RESULT ≠ 1 →
      (scope < 3 → Gives (.flushCmd w p v) s fun t =>
        t.fld (QMGR.FLUSH_CMD p) QMGR.FLUSH_CMD.RESULT = 1 ∧
          t.flush p = some { target := target, scope := scope, removed := u.flushCount p target scope fun g => u.heldQueue p g } ∧
          (∀ q, q < 16384 → flushCovers target scope q = true → u.heldQueue p (qFacet q) ≠ some q → (t.queue (globalQueue p q)).refs = []) ∧
          (∀ q, q < 16384 → flushCovers target scope q = false →
            (t.queue (globalQueue p q)).refs = (u.queue (globalQueue p q)).refs) ∧
          t.out = endOut w .ok u.out) ∧
      (scope = 3 → Gives (.flushCmd w p v) s fun t => t.sw = u.sw ∧ t.fld (QMGR.FLUSH_CMD p) QMGR.FLUSH_CMD.RESULT =
        u.fld (QMGR.FLUSH_CMD p) QMGR.FLUSH_CMD.RESULT ∧ t.out = endOut w .badValue u.out)) ∧
    (∀ u, s.flush p = some u → Gives (.flushDone p) s fun t =>
      t.flush p = none ∧ t.fld (QMGR.FLUSH_CMD p) QMGR.FLUSH_CMD.RESULT = 2 ∧
        t.fld (QMGR.FLUSH_CMD p) QMGR.FLUSH_CMD.REMOVED = sat 0xFFFFFF u.removed ∧ Counted (QMGR.CNT p 5) u.removed s t ∧
        Logged (QMGR.EVT p) 4 s t)

/-- Spilling and consumer ports. A due queue spills a block of eight cells and gives back their charge, stops where its region is full,
and fetches its oldest block back; a failed access is an event and aborts the frames of the block; a port's owner reads a frame word by word and may drop its rest, no other agent may; Q_CMD reads a
queue and sets its profile while QMGR is disabled (R252, R253, R268 to R270, R273, R275 to R279, R285). -/
def Obligations.QueuesSpillAndServePorts : Prop :=
  ∀ (s : State) (p q n : Nat), p < s.x → p < 4 → q < 16384 → n < 64 → s.prismUp = true →
    (let u := s.queue (globalQueue p q)
     let keep := 8 * s.spillFld p q QMGR.PROF_B.HEAD_KEEP
     let start := if u.spilled = 0 then keep else u.head + u.spilled
     (s.spillOn p = true → s.spillFld p q QMGR.PROF_B.SPILL = 1 → 8 * s.spillFld p q QMGR.PROF_B.SPILL_TRIG < u.cells - u.spilled →
        start + 8 ≤ u.cells → (Queue.placed 0 u.refs).all (fun e => e.2.done || decide (start + 8 ≤ e.1 + s.writtenOf p e.2.id)) = true →
        let full := s.freeBlocks p = 0 ∨ s.spillFld p q QMGR.PROF_B.SPILL_MAX * 64 ≤ blocksOf u.spilled
        (full → u.full = false → Gives (.spillBlock p q false) s fun t =>
          (t.queue (globalQueue p q)).full = true ∧ Logged (SPILL.EVT p) 0 s t ∧ OnlyRegs [SPILL.EVT p] s t) ∧
        (¬full → Gives (.spillBlock p q false) s fun t =>
          (t.queue (globalQueue p q)).spilled = u.spilled + 8 ∧ (t.queue (globalQueue p q)).refs = (u.releaseCells start (start + 8)).refs ∧
            Counted (SPILL.CNT p 0) 1 s t) ∧
        (¬full → Gives (.spillBlock p q true) s fun t =>
          Logged (SPILL.EVT p) 2 s t ∧ Counted (SPILL.CNT p 3) (u.refsIn start (start + 8)).length s t)) ∧
     (∀ cell, cell < 8 → 0 < u.spilled → u.head < max keep ((u.refs.head?.map (·.cells)).getD 0) →
        Gives (.fetchBlock p q 2 cell) s fun t =>
          Logged (SPILL.EVT p) 2 s t ∧ Counted (SPILL.CNT p 3) (u.refsIn u.head (u.head + min 8 u.spilled)).length s t) ∧
     (∀ refs, 0 < u.spilled → u.head < max keep ((u.refs.head?.map (·.cells)).getD 0) →
        rechargeAll u.head (u.head + min 8 u.spilled) (Queue.placed 0 u.refs) (s.profA p q QMGR.PROF_A.QMIN - u.minC) (s.sharedFree p)
          (min (s.resFree p) (s.fld (FAB.HOP p) FAB.HOP.THRU_QMAX - u.resC)) = some refs →
        Gives (.fetchBlock p q 0 0) s fun t =>
          (t.queue (globalQueue p q)).spilled = u.spilled - min 8 u.spilled ∧ (t.queue (globalQueue p q)).refs = refs ∧
            Counted (SPILL.CNT p 1) 1 s t)) ∧
    (∀ (w : Sender) (ag : Agent), s.reads w (QMGR.CQ_DATA p n) = some ag →
      (s.portOwner p n ag = true → ∀ x y l, (s.port (64 * p + n)).words = x :: y :: l → Gives (.cqDataRead w p n) s fun t =>
        t.out = .reply ag .ok x :: s.out ∧ t.port (64 * p + n) = { words := y :: l, last := x } ∧ OnlyRegs [] s t) ∧
      (s.portOwner p n ag = true → (s.port (64 * p + n)).words = [] →
        ∀ r, (s.queue (globalQueue p (s.portQueue p n))).front = some r → Gives (.cqDataRead w p n) s fun t =>
          (t.port (64 * p + n)).words = (portWords r.fr).drop 1 ∧ t.out = .reply ag .ok ((portWords r.fr).getD 0 0) :: s.out ∧ OnlyRegs [] s t)) ∧
    (∀ (w : Sender) (ag : Agent) (u : State) (v : Nat),
      let i := fget (BitVec.ofNat 48 v) QMGR.Q_CMD.INDEX
      (Reaches (.dropRest w p n v) s ag u → ∀ r l, (u.port (64 * p + n)).words ≠ [] →
        (u.queue (globalQueue p (u.portQueue p n))).refs = r :: l → u.enabled p 0x81 = false → Gives (.dropRest w p n v) s fun t =>
          (t.port (64 * p + n)).words = [] ∧ (t.queue (globalQueue p (u.portQueue p n))).refs = l ∧ t.out = endOut w .ok u.out) ∧
      (Reaches (.qCmdRead w p v) s ag u → Gives (.qCmdRead w p v) s fun t =>
        t.fld (QMGR.Q_W0 p) QMGR.Q_W0.PROFILE = u.profOf p i ∧
          t.fld (QMGR.Q_W0 p) QMGR.Q_W0.FRAMES = sat 0x3FFFF (u.queue (globalQueue p i)).refs.length ∧
          t.fld (QMGR.Q_CMD p) QMGR.Q_CMD.RESULT = 0 ∧
          OnlyRegs [QMGR.Q_CMD p, QMGR.Q_W0 p, QMGR.Q_W1 p, QMGR.Q_W2 p] u t ∧ t.out = endOut w .ok u.out) ∧
      (Reaches (.qCmdWrite w p v) s ag u → u.enabled p 0x09 = false → Gives (.qCmdWrite w p v) s fun t =>
        t.profOf p i = u.fld (QMGR.Q_W0 p) QMGR.Q_W0.PROFILE ∧ t.fld (QMGR.Q_CMD p) QMGR.Q_CMD.RESULT = 0 ∧
          OnlyRegs [QMGR.Q_CMD p] u t ∧ t.out = endOut w .ok u.out) ∧
      (Reaches (.qCmdWrite w p v) s ag u → u.enabled p 0x09 = true → Gives (.qCmdWrite w p v) s fun t =>
        t.tbls = u.tbls ∧ t.fld (QMGR.Q_CMD p) QMGR.Q_CMD.RESULT = 2 ∧ t.out = endOut w .ok u.out))

/-- Lookup. A frame of a facet that CLS or LPM turned off leaves holds its class; an Eyepiece frame goes to facet 63; a frame that its
facet's ACCEPT rule refuses is discarded and counted; a frame to a known address, unlearned, unfiltered and unrouted, becomes a
candidate for that address's facet, tagged; a notice is applied, or counted as lost where the table engine is busy; the sweep ages what it may, and the commands of the longest-prefix
memory insert, delete and find (R295 to R302, R307 to R309, R313, R316). -/
def Obligations.LookupDecides : Prop :=
  ∀ (s : State) (p f j : Nat), p < s.x → p < 4 → f < 32 → j < 3 → s.prismUp = true →
    (∀ busy r, (s.buf (fk p f)).find? (fun r => !r.looked) = some r →
      let b := r.fr.data
      let e := s.tagUsed p f b
      let vid := e.2.2
      let on := s.enabled p 0x10 = true ∧ s.enabled p 0x11 = true
      (¬on → (s.hold (ck p f r.bufCls)).held = false → Gives (.frameLookup p f busy) s fun t =>
        t.hold (ck p f r.bufCls) = { held := true, drain := false, since := s.edges } ∧ t.buf (fk p f) = s.buf (fk p f) ∧ OnlyRegs [] s t) ∧
      (on → s.toEye b = true → bit (s.reg (EYE.ETH_FACETS 0 p)) f = true → Gives (.frameLookup p f busy) s fun t =>
        OnlyRegs [] s t ∧ t.buf (fk p f) = replaceFirst
          { r with looked := true, fr := { r.fr with
              cls := s.pcpClass p f e.1, flow := 0, kind := 0, dest := globalQueue 0 (queueNo 63 (s.pcpClass p f e.1) 0) } }
          (s.buf (fk p f))) ∧
      (on → s.toEye b = false → s.acceptBad p f b = true → Gives (.frameLookup p f busy) s fun t =>
        t.buf (fk p f) = dropFirst (s.buf (fk p f)) ∧ Counted (CLS.CNT p 5) 1 s t ∧ t.fld (CLS.DROP_LAST p) CLS.DROP_LAST.FACET = f ∧
          t.fld (CLS.DROP_LAST p) CLS.DROP_LAST.REASON = 0) ∧
      (∀ i, on → s.toEye b = false → s.acceptBad p f b = false → s.vlanBad p f vid = false →
        (frTagged b = false → b.length + 4 ≤ 9216) → isGroup (frSa b) = false →
        let tagged := if frTagged b && frTci b % 4096 != 0 then b else setTag b e.1 0 vid
        s.clsPort p f CLS.PORT.LEARN = 0 → s.seqMatch p 0x56 vid tagged = none → s.seqMatch p 0x55 vid tagged = none →
        (s.filters p).find? (fun i => s.filtHit p i f vid e.1 tagged) = none → s.routed p vid tagged = false →
        frDa b / 16 ≠ 0x0180C200000 → frDa tagged ≠ bcast →
        s.macFind p (s.vlan p vid 1 ⟨32, 12⟩) (frDa tagged) = some i → fget (s.mac1 p i) MacE.KIND = 0 →
        let d := fget (s.mac1 p i) MacE.DEST % 256
        let cls := s.pcpClass p f e.1
        let flow := s.clsPort p f CLS.PORT.FLOW
        d ≠ globalFacet p f → Gives (.frameLookup p f busy) s fun t =>
          OnlyRegs [] s t ∧ t.buf (fk p f) = replaceFirst
            { r with looked := true, filt := none, got := cellsOf tagged.length, fr := { r.fr with
                cls := cls, flow := flow, kind := 0, dest := globalQueue (d / 64) (queueNo (d % 64) cls flow), data := tagged } }
            (s.buf (fk p f)))) ∧
    (let k := 4 * d2dFar p j + d2dLink (d2dFar p j) p
     ∀ fid mac facet l i, (s.link k).notices = (false, fid, mac, facet) :: l → s.macFind p fid mac = some i →
      s.tblLocked p 0x43 i 262144 = false →
      (Gives (.learnNoticeReceive p j false) s fun t =>
        (t.link k).notices = l ∧ OnlyRegs [] s t ∧
          (t.mac1 p i = if fget (s.mac1 p i) MacE.REMOTE = 1 ∧ fget (s.mac1 p i) MacE.DEST = facet then 0 else s.mac1 p i)) ∧
      (Gives (.learnNoticeReceive p j true) s fun t =>
        (t.link k).notices = l ∧ t.tbls = s.tbls ∧ Counted (CLS.CNT p 9) 1 s t)) ∧
    (Sparse.canon tblBlank s.tbls = true → Gives (.ageingSweep p) s fun t => ∀ i, i < 262144 →
      let swept := i ∈ s.macEntries p ∧ fget (s.mac1 p i) MacE.STATIC = 0 ∧ s.tblLocked p 0x43 i 262144 = false
      let age := fget (s.mac1 p i) MacE.AGE
      (swept → age < 2 → t.mac1 p i = fset (s.mac1 p i) MacE.AGE (age + 1)) ∧
      (swept → 2 ≤ age → fget (s.mac1 p i) MacE.REMOTE = 1 → t.mac1 p i = 0) ∧
      (¬swept → t.mac1 p i = s.mac1 p i)) ∧
    (∀ (w : Sender) (ag : Agent) (u : State) (v : Nat),
      let x := BitVec.ofNat 48 v
      let v6 := fget x LPM.CMD.V6 == 1
      let len := fget x LPM.CMD.LEN
      let hop := fget x LPM.CMD.NEXT_HOP
      let ends := fun (n : Nat) (t : State) => t.fld (LPM.CMD p) LPM.CMD.RESULT = n ∧ t.out = endOut w .ok u.out
      len ≤ (if v6 then 128 else 32) →
      (Reaches (.lpmInsert w p v) s ag u →
        (u.lpmLocked p = true → Gives (.lpmInsert w p v) s fun t => ends 5 t ∧ t.tbls = u.tbls) ∧
        (∀ r, u.lpmLocked p = false → u.lpmFind p v6 len = some r → Gives (.lpmInsert w p v) s fun t =>
          ends 2 t ∧ t.fld (LPM.CMD p) LPM.CMD.SLOT = r.slot % 16384 ∧ fget (t.tbl p 0x44 r.slot 0) ⟨10, 12⟩ = hop) ∧
        (let r : Route := { v6 := v6, len := len, hop := hop, stamp := u.lpmSeq p % 65536, addr := u.lpmAddr p v6 }
         let lo := ((u.routes p).filter fun x => Nat.ble r.len x.len).reverse.head?.elim 0 fun x => x.slot + x.slots
         let hi := ((u.routes p).filter fun x => Nat.blt x.len r.len).head?.elim 16384 fun x => x.slot
         u.lpmLocked p = false → u.lpmFind p v6 len = none → routeSlots (u.routes p) + r.slots ≤ 16384 → lo + r.slots ≤ hi →
         Gives (.lpmInsert w p v) s fun t => ends 2 t ∧ t.fld (LPM.CMD p) LPM.CMD.SLOT = lo % 16384 ∧
          ∀ k, k < r.slots → t.tblWords p 0x44 (lo + k) 2 = { r with slot := lo }.slotWords k)) ∧
      (Reaches (.lpmDelete w p v) s ag u →
        (u.lpmLocked p = true → Gives (.lpmDelete w p v) s fun t => ends 5 t ∧ t.tbls = u.tbls) ∧
        (u.lpmLocked p = false → u.lpmFind p v6 len = none → Gives (.lpmDelete w p v) s fun t => ends 3 t ∧ t.tbls = u.tbls) ∧
        (∀ r, u.lpmLocked p = false → u.lpmFind p v6 len = some r → Gives (.lpmDelete w p v) s fun t =>
          ends 2 t ∧ ∀ k, k < r.slots → t.tblWords p 0x44 (r.slot + k) 2 = [0, 0])) ∧
      (Reaches (.lpmFind w p v) s ag u →
        (∀ r, u.routeOf p v6 (u.lpmAddr p v6) = some r → Gives (.lpmFind w p v) s fun t =>
          ends 2 t ∧ t.fld (LPM.CMD p) LPM.CMD.SLOT = r.slot % 16384 ∧ t.fld (LPM.CMD p) LPM.CMD.NEXT_HOP = r.hop % 4096 ∧
            OnlyRegs [LPM.CMD p] u t ∧ t.tbls = u.tbls) ∧
        (u.routeOf p v6 (u.lpmAddr p v6) = none → Gives (.lpmFind w p v) s fun t =>
          ends 3 t ∧ OnlyRegs [LPM.CMD p] u t ∧ t.tbls = u.tbls)))

/-- Table DMA and gates. A job is accepted, or noted as refused. When it ends, with no job on the other channels: a refused one has moved
nothing; READ and WRITE have moved the entries before the first that its memory windows do not cover, or all; FIND, INSERT and DELETE
have worked on the entry of the key in the buffer. A lock held too long is cleared. A gate-list change is scheduled, becomes the
operating list, and its entries begin in turn (R323 to R330). -/
def Obligations.TablesMoveAndGatesSwitch : Prop :=
  ∀ (s u : State) (w : Sender) (ag : Agent) (mem : List (Nat × Nat)) (p j f v : Nat), p < 4 →
    (let x := BitVec.ofNat 48 v
     let tb := fget x TDMA.JOB.TABLE
     let i := fget x TDMA.JOB.INDEX
     let n := fget x TDMA.JOB.COUNT + 1
     let place := if fget x TDMA.JOB.MEM = 1 then some (u.fld (TDMA.JOB_MEM p j) TDMA.JOB_MEM.ADDR) else none
     let takes := fun (c : Instr) (op : Nat) => Reaches c s ag u → Gives c s fun t =>
       t.tjob (4 * p + j) = some (if u.tdmaRefused p tb op i n place = true then { result := 4 }
         else { op := op, table := tb, first := i, left := n, mem := place, part := ag.partOr }) ∧
       t.fld (TDMA.JOB_STAT p j) TDMA.JOB_STAT.RESULT = 1 ∧ t.tbls = u.tbls ∧ t.mem = u.mem ∧ t.out = endOut w .ok u.out
     u.fld (TDMA.JOB_STAT p j) TDMA.JOB_STAT.RESULT ≠ 1 → 0x42 ≤ tb → tb ≤ 0x49 → (fget x TDMA.JOB.MEM = 1 → ag.isHost = false) →
     takes (.tdmaRead w mem p j v) 1 ∧ takes (.tdmaWrite w mem p j v) 2 ∧ takes (.tdmaFind w mem p j v) 3 ∧
       takes (.tdmaInsert w mem p j v) 4 ∧ takes (.tdmaDelete w mem p j v) 5) ∧
    (p < s.x → s.prismUp = true →
      (∀ y, j < 4 → s.enabled p 0x13 = true → s.tjob (4 * p + j) = some y → (∀ i, i < 4 → i ≠ j → s.tjob (4 * p + i) = none) →
        let ends := fun (result moved index : Nat) (t : State) =>
          t.tjob (4 * p + j) = none ∧ t.reg (TDMA.JOB_STAT p j) =
              word [(TDMA.JOB_STAT.RESULT, result), (TDMA.JOB_STAT.DONE_COUNT, moved - 1), (TDMA.JOB_STAT.INDEX, index)] &&&
                regMask (TDMA.JOB_STAT p j) ∧
            bit (t.reg (TDMA.EVT p)) 0 = true ∧ (4 ≤ result → result ≤ 6 → bit (t.reg (TDMA.EVT p)) 1 = true)
        let mac := (s.tdmaBuf p 0).toNat
        let fid := fget (s.tdmaBuf p 1) MacE.FID
        let words := tblEntryWords y.table
        (y = { result := 4 } → Gives (.tdmaJobDone p j) s fun t =>
          ends 4 0 0 t ∧ t.tbls = s.tbls ∧ t.mem = s.mem ∧ OnlyRegs [TDMA.JOB_STAT p j, TDMA.EVT p] s t) ∧
        (∀ m, y.moved = 0 → y.result = 2 → y.index = 0 → m ≤ y.left → (∀ e, e < m → s.tdmaReach p e y = true) →
          (m = y.left ∨ s.tdmaReach p m y = false) →
          (y.op = 1 → (y.mem = none → y.left * words ≤ 64) → Gives (.tdmaJobDone p j) s fun t =>
            ends (if m = y.left then 2 else 5) m 0 t ∧ t.tbls = s.tbls ∧
              ∀ e k, e < m → k < words →
                (y.mem = none → Holds t (TDMA.BUF p (e * words + k)) ((s.tblRead p y.table (y.first + e)).getD k 0)) ∧
                (∀ a, y.mem = some a →
                  t.memWord p (a + 8 * (e * words + k)) = ((s.tblRead p y.table (y.first + e)).getD k 0).toNat)) ∧
          (y.op = 2 → 0x42 ≤ y.table → y.table ≤ 0x49 → y.table ≠ 0x43 → y.first + y.left ≤ tblSize y.table →
            Gives (.tdmaJobDone p j) s fun t =>
              ends (if m = y.left then 2 else 5) m 0 t ∧ t.mem = s.mem ∧
                ∀ e k, e < m → k < words →
                  t.tbl p y.table (y.first + e) k = (s.tdmaSrc p y.table e y.mem).getD k 0 &&& tblMask y.table k)) ∧
        (0 < y.left →
          (∀ z, y.op = 3 → s.macFind p fid mac = some z → Gives (.tdmaJobDone p j) s fun t =>
            ends 2 1 z t ∧ t.tbls = s.tbls ∧ Holds t (TDMA.BUF p 0) (s.tbl p 0x43 z 0) ∧ Holds t (TDMA.BUF p 1) (s.mac1 p z)) ∧
          (y.op = 3 ∨ y.op = 5 → s.macFind p fid mac = none → Gives (.tdmaJobDone p j) s fun t => ends 3 0 0 t ∧ t.tbls = s.tbls) ∧
          (∀ z, y.op = 4 → (s.macFind p fid mac = some z ∨ (s.macFind p fid mac = none ∧
              ((List.range 8).map fun k => s.bucket p fid mac * 8 + k).find? (fun i => fget (s.mac1 p i) MacE.VALID == 0) = some z)) →
            Gives (.tdmaJobDone p j) s fun t =>
              ends 2 1 z t ∧ t.tbl p 0x43 z 0 = s.tdmaBuf p 0 ∧ t.mac1 p z = s.tdmaBuf p 1 &&& tblMask 0x43 1) ∧
          (∀ z, y.op = 5 → s.macFind p fid mac = some z → Gives (.tdmaJobDone p j) s fun t => ends 2 1 0 t ∧ t.mac1 p z = 0))) ∧
      (∀ tb r, tb < 8 → r < 32 → bit (s.reg (TDMA.LOCK p tb)) r = true →
        s.pastMs (s.lockedAt ((8 * p + tb) * 32 + r)) (s.fld (TDMA.CFG p) TDMA.CFG.LOCK_MAX_MS) = true →
        Gives (.tdmaLockExpire p tb r) s fun t =>
          Holds t (TDMA.LOCK p tb) (clearBit (s.reg (TDMA.LOCK p tb)) r) ∧ Logged (TDMA.EVT p) 2 s t ∧
            OnlyRegs [TDMA.LOCK p tb, TDMA.EVT p] s t) ∧
      (f < 32 → s.flag (PSFP.GCL_STAT p f) PSFP.GCL_STAT.CONFIG_PENDING = true →
        notBefore (s.time p) (s.gate (fk p f)).changeAt = true → Gives (.gclSwitch p f) s fun t =>
          t.fld (PSFP.GCL_STAT p f) PSFP.GCL_STAT.OPER_BANK = 1 - s.fld (PSFP.GCL_STAT p f) PSFP.GCL_STAT.OPER_BANK ∧
            t.fld (PSFP.GCL_STAT p f) PSFP.GCL_STAT.CONFIG_PENDING = 0 ∧
            t.fld (PSFP.GCL_STAT p f) PSFP.GCL_STAT.OPER_LEN = s.fld (PSFP.GCL_CTRL p f) PSFP.GCL_CTRL.ADMIN_LEN ∧
            (t.gate (fk p f)).pos = 0 ∧ (t.gate (fk p f)).began = (s.gate (fk p f)).changeAt ∧
            (t.gate (fk p f)).cycle = s.fld (PSFP.GCL_CYCLE p f) PSFP.GCL_CYCLE.ADMIN_CYCLE) ∧
      (f < 32 → (s.gate (fk p f)).pos + 1 < (s.gateList p f).length → Gives (.gateEntryBegin p f) s fun t =>
        (t.gate (fk p f)).pos = (s.gate (fk p f)).pos + 1 ∧
          (t.gate (fk p f)).gates = ((s.gateList p f).getD ((s.gate (fk p f)).pos + 1) (255, 0)).1) ∧
      (f < 32 → (s.gateList p f).length ≤ (s.gate (fk p f)).pos + 1 → ∀ e l, s.gateList p f = e :: l →
        s.extended p f (((s.gate (fk p f)).began + (s.gate (fk p f)).cycle) % 2 ^ 48) = false → Gives (.gateEntryBegin p f) s fun t =>
          (t.gate (fk p f)).pos = 0 ∧ (t.gate (fk p f)).gates = e.1 ∧
            (t.gate (fk p f)).began = ((s.gate (fk p f)).began + (s.gate (fk p f)).cycle) % 2 ^ 48)) ∧
    (Reaches (.gclConfigChange w p f v) s ag u →
      let len := fget (BitVec.ofNat 48 v) PSFP.GCL_CTRL.ADMIN_LEN
      let cyc := u.fld (PSFP.GCL_CYCLE p f) PSFP.GCL_CYCLE.ADMIN_CYCLE
      let good := u.flag (PSFP.GCL_STAT p f) PSFP.GCL_STAT.CONFIG_PENDING = false ∧ 1 ≤ len ∧ len ≤ 256 ∧ 1000 ≤ cyc
      (good → fget (BitVec.ofNat 48 v) PSFP.GCL_CTRL.ENABLE = 1 → Gives (.gclConfigChange w p f v) s fun t =>
        t.fld (PSFP.GCL_STAT p f) PSFP.GCL_STAT.CONFIG_PENDING = 1 ∧ t.fld (PSFP.GCL_CTRL p f) PSFP.GCL_CTRL.ADMIN_LEN = len ∧
          (t.gate (fk p f)).changeAt = firstCycle (u.reg (PSFP.GCL_BASE p f)).toNat cyc ((u.time p + 2000) % 2 ^ 48) ∧
          t.out = endOut w .ok u.out) ∧
      (¬good → Gives (.gclConfigChange w p f v) s fun t => t.sw = u.sw ∧ t.reg (PSFP.GCL_STAT p f) = u.reg (PSFP.GCL_STAT p f) ∧
        t.out = endOut w .badValue u.out))

/-- Ethernet frames. A good frame without MACsec that the address filter passes enters the receive buffer whole and is counted; an
overflow, a failed frame and a filtered one are counted; PAUSE frames pause classes and end their pauses, which also run out, end at
LIMIT_MS or stay overridden; crossing XOFF and XON and the refresh send PAUSE frames; the frame in transmission is sent with tag
handling, padding and FCS, or ended by collisions, or aborted with an inverted FCS (R299, R348, R353, R356 to R360, R363 to R367). -/
def Obligations.EthernetFramesPass : Prop :=
  ∀ (s : State) (p f : Nat) (b : List Byte), p < s.x → p < 4 → f < 32 → s.prismUp = true →
    (let c := s.bufClass p f b
     let maxLen := s.fld (ETH.MODE p f) ETH.MODE.MAX_LEN
     s.enabled p (0x20 + f) = true → s.booting p f = false →
      (s.rxOverflow p f c (cellsOf b.length) = true → ∀ errAt fault fixed lost, Gives (.ethReceive p f b errAt fault fixed lost) s fun t =>
        Counted (ETH.CNT p f 14) 1 s t ∧ Logged (ETH.EVT p f) 2 s t) ∧
      (∀ errAt fault fixed lost i, s.rxOverflow p f c (cellsOf b.length) = false → rxFailure b errAt.isSome maxLen = some i →
        Gives (.ethReceive p f b errAt fault fixed lost) s fun t => Counted (ETH.CNT p f i) 1 s t) ∧
      (∀ fault fixed lost, s.rxOverflow p f c (cellsOf b.length) = false → rxFailure b false maxLen = none → s.isMacControl p f b = false →
        (s.filterOk p f (frDa b) = false → Gives (.ethReceive p f b none fault fixed lost) s fun t =>
          Counted (ETH.CNT p f 15) 1 s t ∧ t.buf (fk p f) = s.buf (fk p f)) ∧
        (s.filterOk p f (frDa b) = true → s.macsec p f = false → s.isEzsor p f b = false → Gives (.ethReceive p f b none fault fixed lost) s fun t =>
          Counted (ETH.CNT p f 0) 1 s t ∧ Counted (ETH.CNT p f 1) b.length s t ∧
            (s.hasFec p f = true → Counted (ETH.CNT p f 49) fixed s t ∧ Counted (ETH.CNT p f 50) lost s t) ∧
            t.buf (fk p f) = s.buf (fk p f) ++
              [{ fr := { cls := c, ts := s.rxStamp p f b.length
                         cut := decide (f < 12) && s.flag (ETH.MODE p f) ETH.MODE.CUT_RX && decide (128 ≤ b.length)
                         attn := if frType b = 0x88B5 then s.attn else 0, data := b, src := globalFacet p f, fid := s.fidNo (ck p f c) }, bufCls := c }])) ∧
      (s.rxOverflow p f c (cellsOf b.length) = false → rxFailure b false maxLen = none → s.isMacControl p f b = true →
        bytesAt b 14 2 = 1 → (∀ x ∈ (s.eth (fk p f)).pauses, x.2.prio = 8) → s.fld (ETH.FLOW p f) ETH.FLOW.FC_MODE = 1 → s.flag (ETH.FLOW p f) ETH.FLOW.HONOUR = true →
        Gives (.pauseReceive p f b) s fun t => Counted (ETH.CNT p f 5) 1 s t ∧ t.buf (fk p f) = s.buf (fk p f) ∧
          ∀ q, q < 8 →
            let old := (s.eth (fk p f)).pauses.find? fun x => x.1 == q
            let ovr := fun (u : State) => (u.eth (fk p f)).override.any fun x => x.1 == q
            (bytesAt b 16 2 = 0 → ovr t = false ∧
              (ovr s = false → (t.eth (fk p f)).pauses.find? (fun x => x.1 == q) = none)) ∧
            (bytesAt b 16 2 ≠ 0 → ovr s = false →
              (t.eth (fk p f)).pauses.find? (fun x => x.1 == q) =
                some (q, { stop := (s.time p + quantaNs (bytesAt b 16 2) (s.lineRate p f)) % 2 ^ 48
                           since := (old.map fun x => x.2.since).getD (s.time p), prio := 8 })))) ∧
    (∀ c, c < 8 →
      (Gives (.pauseExpire p f c) s fun t => OnlyRegs [] s t ∧
        (t.eth (fk p f)).pauses = (s.eth (fk p f)).pauses.filter fun x => !(x.1 == c && notBefore (s.time p) x.2.stop)) ∧
      (∀ x, (s.eth (fk p f)).pauses.find? (fun x => x.1 == c) = some x →
        s.fld (ETH.FLOW p f) ETH.FLOW.LIMIT_MS * 1000000 ≤ since x.2.since (s.time p) → Gives (.pauseLimit p f c) s fun t =>
          (∀ y ∈ (t.eth (fk p f)).pauses, y.1 ≠ c) ∧ (t.eth (fk p f)).override.any (fun x => x.1 == c) = true ∧ Logged (ETH.EVT p f) 3 s t ∧
            OnlyRegs [ETH.EVT p f] s t) ∧
      (Gives (.pauseOverrideEnd p f c) s fun t =>
        (t.eth (fk p f)).override = ((s.eth (fk p f)).override.filter fun x => !(x.1 == c && s.pastMs x.2 1)) ∧ (t.eth (fk p f)).pauses = (s.eth (fk p f)).pauses ∧
        OnlyRegs [] s t)) ∧
    (s.enabled p (0x20 + f) = true → s.fld (ETH.FLOW p f) ETH.FLOW.FC_MODE = 1 →
      let e := s.eth (fk p f)
      let sends := fun (time : Nat) (t : State) => Counted (ETH.CNT p f 31) 1 s t ∧
        t.out = .eth p f (macFrame (s.reg (ETH.MATCH p f 0)).toNat 1 (beBytes 2 time)) :: s.out
      (e.xoff = [] → e.xoffAll = false → s.flag (ETH.FLOW p f) ETH.FLOW.SEND = true →
        s.fld (ETH.RXBUF p f) ETH.RXBUF.XOFF ≤ s.rxCells p f → Gives (.xoffCross p f) s fun t =>
          (t.eth (fk p f)).xoff = [0, 1, 2, 3, 4, 5, 6, 7] ∧ sends (s.fld (ETH.FLOW p f) ETH.FLOW.QUANTA) t) ∧
      (e.xoff = [0, 1, 2, 3, 4, 5, 6, 7] → e.xoffAll = false → s.rxCells p f ≤ s.fld (ETH.RXBUF p f) ETH.RXBUF.XON →
        Gives (.xonCross p f) s fun t => (t.eth (fk p f)).xoff = [] ∧ sends 0 t) ∧
      (e.xoff = [0, 1, 2, 3, 4, 5, 6, 7] → e.xoffAll = false → Gives (.pauseRefresh p f) s fun t =>
        t.eth (fk p f) = e ∧ sends (s.fld (ETH.FLOW p f) ETH.FLOW.QUANTA) t)) ∧
    (∀ fr, (s.eth (fk p f)).tx = some fr →
      let body := s.egressBody p f fr
      (∀ coll late fault, fr.abort = false → s.facetDown p f = false → s.macsec p f = false → f < 24 → s.resetFrame fr = false →
        let x := padTo (max 60 body.length) body
        Gives (.ethTransmit p f coll late fault) s fun t =>
          t.out = .eth p f (x ++ fcsOf x) :: s.out ∧ (t.eth (fk p f)).tx = none ∧ Counted (ETH.CNT p f 26) 1 s t ∧
            Counted (ETH.CNT p f 27) (x.length + 4) s t) ∧
      (∀ coll fault, fr.abort = false → s.facetDown p f = false → 24 ≤ f → s.flag (ETH.PLCA p f) ETH.PLCA.EN = false →
        s.resetFrame fr = false → Gives (.ethTransmit p f coll true fault) s fun t =>
          t.out = s.out ∧ (t.eth (fk p f)).tx = none ∧ Counted (ETH.CNT p f 38) 1 s t ∧ Counted (ETH.CNT p f 36) coll s t) ∧
      (∀ n underrun, fr.abort = true ∨ underrun = true ∨ s.facetDown p f = true → Gives (.txAbort p f n underrun) s fun t =>
        (t.eth (fk p f)).tx = none ∧ Counted (ETH.CNT p f 33) 1 s t ∧ (underrun = true → Counted (ETH.CNT p f 34) 1 s t) ∧
          (s.macsec p f = false →
            let x := (padTo (max 60 body.length) body).take n
            t.out = .eth p f (x ++ leBytes 4 (crc32 x ^^^ 0xFFFFFFFF)) :: s.out)))

/-- Ethernet links and registers. The raw status of a lane follows its condition; a facet reports link up and down once it has held for
the time set; PLCA falls back and returns, and a BEACON gives the facet its opportunities; MDIO frames go onto their bus in order
and complete with a result; SNAP copies the counters, RESTART_AN restarts auto-negotiation, a read of TXTS_B removes the oldest
timestamp (R348 to R351, R370, R375, R380, R382, R383). -/
def Obligations.EthernetLinksAndRegisters : Prop :=
  ∀ (s u : State) (w : Sender) (ag : Agent) (p f v : Nat), p < 4 → f < 32 →
    (p < s.x → s.prismUp = true →
      (let e := s.eth (fk p f)
       let m := ETH.MODE p f
       (s.lineOn p f = true → s.ezsorMode p f = false → Gives (.linkUp p f false) s fun t =>
          (t.eth (fk p f)).raw = true ∧ (e.raw = false → (t.eth (fk p f)).rawAt = s.edges) ∧ (t.eth (fk p f)).up = e.up ∧
            (e.raw = false → e.up = true → Counted (ETH.CNT p f 9) 1 s t) ∧ (e.raw = true ∨ e.up = false → OnlyRegs [] s t)) ∧
       (s.lineOn p f = true → e.raw = true → e.up = false → s.pastMs e.rawAt (s.fld m ETH.MODE.UP_HOLD_MS) = true →
        Gives (.linkUp p f true) s fun t =>
          (t.eth (fk p f)).up = true ∧ Logged (ETH.EVT p f) 1 s t ∧ OnlyRegs [ETH.EVT p f] s t) ∧
       (∀ lf rf, Gives (.linkDown p f lf rf false) s fun t =>
          (t.eth (fk p f)).raw = false ∧ (e.raw = true → (t.eth (fk p f)).rawAt = s.edges) ∧ (t.eth (fk p f)).up = e.up ∧
            (t.eth (fk p f)).localFault = lf ∧ (t.eth (fk p f)).remoteFault = rf ∧ OnlyRegs [] s t) ∧
       (∀ lf rf, e.raw = false → e.up = true → s.pastMs e.rawAt (s.fld m ETH.MODE.LINK_HOLD_MS) = true →
        Gives (.linkDown p f lf rf true) s fun t =>
          (t.eth (fk p f)).up = false ∧ (∀ fr, e.tx = some fr → (t.eth (fk p f)).tx = some { fr with abort := true }) ∧
            Logged (ETH.EVT p f) 0 s t ∧ Counted (ETH.CNT p f 52) 1 s t)) ∧
      (24 ≤ f → s.enabled p (0x20 + f) = true → s.flag (ETH.PLCA p f) ETH.PLCA.EN = true →
        ((s.eth (fk p f)).plcaOk = true → Gives (.plcaBeaconLost p f) s fun t =>
          (t.eth (fk p f)).plcaOk = false ∧ Logged (ETH.EVT p f) 5 s t ∧ OnlyRegs [ETH.EVT p f] s t) ∧
        Gives (.plcaBeacon p f) s fun t => (t.eth (fk p f)).plcaOk = true ∧
          (t.eth (fk p f)).oppLeft = 1 + s.fld (ETH.PLCA p f) ETH.PLCA.BURST_COUNT ∧
          (s.fld (ETH.PLCA p f) ETH.PLCA.NODE_ID = 0 →
            t.out = .beacon p f (s.fld (ETH.PLCA p f) ETH.PLCA.NODE_COUNT) :: s.out) ∧
          t.fld (ETH.PLCA_STAT p f) ETH.PLCA_STAT.BEACONS =
            sat (2 ^ ETH.PLCA_STAT.BEACONS.w - 1) (s.fld (ETH.PLCA_STAT p f) ETH.PLCA_STAT.BEACONS + 1) ∧
          OnlyRegs [ETH.PLCA_STAT p f] s t) ∧
      (∀ bus data op rest turnaround, bus < 2 → data < 65536 → s.bus (2 * p + bus) = (f, op) :: rest →
        Gives (.mdioDone p bus data turnaround) s fun t => t.bus (2 * p + bus) = rest ∧
          ((op = 3 ∨ op = 5) → turnaround = true → t.fld (ETH.MDIO p f) ETH.MDIO.DATA = data) ∧
          t.fld (ETH.MDIO p f) ETH.MDIO.RESULT = (if (op = 3 ∨ op = 5) ∧ turnaround = false then 3 else 2) ∧
          OnlyRegs [ETH.MDIO p f] s t ∧ (rest = [] → t.out = s.out))) ∧
    (∀ i op, (i, op) ∈ [(Instr.mdioC45Address w p f v, 1), (.mdioC45Write w p f v, 2), (.mdioC45Read w p f v, 3),
        (.mdioC22Write w p f v, 4), (.mdioC22Read w p f v, 5)] →
      Reaches i s ag u → u.fld (ETH.MDIO p f) ETH.MDIO.RESULT ≠ 1 → Gives i s fun t =>
        let x := BitVec.ofNat 48 v
        t.fld (ETH.MDIO p f) ETH.MDIO.RESULT = 1 ∧ OnlyRegs [ETH.MDIO p f] u t ∧
          t.bus (2 * p + mdioBus f) = u.bus (2 * p + mdioBus f) ++ [(f, op)] ∧
          (u.bus (2 * p + mdioBus f) = [] → t.out = endOut w .ok
            (.mdio p f op (fget x ETH.MDIO.PRTAD) (fget x ETH.MDIO.DEVAD) (fget x ETH.MDIO.DATA) :: u.out)) ∧
          (u.bus (2 * p + mdioBus f) ≠ [] → t.out = endOut w .ok u.out)) ∧
    (Reaches (.snap w p f v) s ag u → Gives (.snap w p f v) s fun t =>
      (∀ i, i < 53 → Holds t (ETH.SNAPCNT p f i) (u.reg (ETH.CNT p f i)) ∧ t.reg (ETH.CNT p f i) = u.reg (ETH.CNT p f i)) ∧
        t.out = endOut w .ok u.out) ∧
    (Reaches (.restartAn w p f v) s ag u → u.hasAn p f = true → Gives (.restartAn w p f v) s fun t =>
      (t.eth (fk p f)).anDone = false ∧ (t.eth (fk p f)).raw = false ∧ t.out = endOut w .ok u.out) ∧
    (s.reads w (ETH.TXTS_B p f) = some ag → Gives (.txtsPop w p f) s fun t =>
      (t.eth (fk p f)).stamps = (s.eth (fk p f)).stamps.drop 1 ∧ OnlyRegs [] s t ∧
        t.out = .reply ag .ok (txtsB (s.eth (fk p f)).stamps) :: s.out)

/-- Die time. At a mark the rate and the step that wait take effect and every other Prism die reports its offset; RATE and STEP are
written on the lead die only; COMMIT makes the PTP mapping, whose nanoseconds a read of PTP_NOW_SEC latches; an edge on TIME_CAP latches
die time; a pulse leaves TIME_PPS (R371 to R373, R376, R384 to R386). -/
def Obligations.DieTimeMarksAndSteps : Prop :=
  ∀ (s u : State) (w : Sender) (ag : Agent) (p v : Nat), p < 4 →
    (s.prismUp = true →
      (∀ drift, (s.psup 0).subst = false → Gives (.timeMark drift) s fun t =>
        (∀ q, 0 < q → q < s.x → q < 4 → t.fld (TIME.SYNC q) TIME.SYNC.OFFSET = ofSigned 16 (sat16 (timeDiff (t.time q) (t.time 0)))) ∧
        (∀ r e, (s.tim 0).rateAt = some (r, e) → 4 ≤ s.edges - e → (t.tim 0).rate = toSigned 32 r ∧ (t.tim 0).rateAt = none) ∧
        (∀ r e, (s.tim 0).rateAt = some (r, e) → s.edges - e < 4 → (t.tim 0).rate = (s.tim 0).rate ∧ (t.tim 0).rateAt = some (r, e)) ∧
        (∀ i e, (s.tim 0).step = some (i, e) → 4 ≤ s.edges - e → 0 < s.x → (t.tim 0).step = none ∧
          (t.time 0 : Int) = ((s.time 0 : Int) + toSigned 48 i) % 2 ^ 48 ∧ ∀ q, q < s.x → q < 4 → bit (t.reg (TIME.EVT q)) 0 = true) ∧
        ((s.tim 0).step = none → t.time 0 = s.time 0)) ∧
      (∀ falling, s.flag (TIME.CTRL 0) TIME.CTRL.CAP_FALL = falling → Gives (.timeCapture falling) s fun t =>
        Holds t (TIME.CAP 0) (BitVec.ofNat 48 (s.time 0)) ∧ Logged (TIME.EVT 0) 2 s t ∧ OnlyRegs [TIME.CAP 0, TIME.EVT 0] s t) ∧
      (s.flag (TIME.CTRL 0) TIME.CTRL.PPS_EN = true → s.mapped = true → Gives .ppsPulse s fun t =>
        t.out = .pps false :: .pps true :: s.out ∧ OnlyRegs [] s t)) ∧
    (Reaches (.timeRateWrite w p v) s ag u → Gives (.timeRateWrite w p v) s fun t =>
      let x := BitVec.ofNat 48 v
      (p = 0 ∧ (toSigned 32 x.toNat).natAbs ≤ 1000000000 →
        (t.tim 0).rateAt = some (x.toNat % 2 ^ 32, u.edges) ∧ (t.tim 0).rate = (u.tim 0).rate ∧ t.out = endOut w .ok u.out) ∧
      (¬(p = 0 ∧ (toSigned 32 x.toNat).natAbs ≤ 1000000000) →
        Flagged (TIME.RATE p) 0 ag u t ∧ t.sw = u.sw ∧ t.out = endOut w .badValue u.out)) ∧
    (Reaches (.timeStepWrite w p v) s ag u → Gives (.timeStepWrite w p v) s fun t =>
      (p = 0 → (t.tim 0).step = some ((BitVec.ofNat 48 v).toNat, u.edges) ∧ t.time 0 = u.time 0 ∧ t.out = endOut w .ok u.out) ∧
      (p ≠ 0 → Flagged (TIME.STEP p) 0 ag u t ∧ t.sw = u.sw ∧ t.out = endOut w .badValue u.out)) ∧
    (Reaches (.commit w p v) s ag u → Gives (.commit w p v) s fun t =>
      (p = 0 → (t.tim 0).ptpSec = (u.reg (TIME.PTP_SEC 0)).toNat ∧ (t.tim 0).ptpNs = u.fld (TIME.PTP_NS 0) TIME.PTP_NS.NS ∧
        (t.tim 0).ptpRef = (u.reg (TIME.PTP_REF 0)).toNat ∧ (∀ q, q < u.x → q < 4 → t.fld (TIME.CTRL q) TIME.CTRL.MAPPED = 1) ∧
        t.out = endOut w .ok u.out) ∧
      (p ≠ 0 → Flagged (TIME.CTRL p) 0 ag u t ∧ t.sw = u.sw ∧ t.out = endOut w .badValue u.out)) ∧
    (s.reads w (TIME.PTP_NOW_SEC p) = some ag → Gives (.ptpNowRead w p) s fun t =>
      let now := if s.mapped then s.ptpOf (s.time p) else (0, 0)
      (t.tim p).nowNs = now.2 ∧ t.out = .reply ag .ok (BitVec.ofNat 48 now.1) :: s.out ∧ OnlyRegs [] s t)

/-- CAN frames and errors. A valid frame of another node, at a controller of no partial network, is acknowledged, filtered and offered to the fabric or counted, an address claim
takes its entry; the pending frame leaves when sent, with its bit times, and returns to its queue when arbitration is lost; an error is
signalled where the controller signals errors, recorded, moves the counters and with them the state; integration and recovery end; the
tracker ages (R393 to R398, R403 to R405, R407, R408, R411, R414, R416, R425). -/
def Obligations.CanFramesAndErrors : Prop :=
  ∀ (s : State) (p c : Nat) (b : List Byte) (ago : Nat), p < s.x → p < 4 → c < 16 → s.prismUp = true →
    let k := canKey p c
    let u := s.can k
    (u.st = .active → u.tec ≤ 127 → u.recv ≤ 127 → s.fld (CAN.CFG p c) CAN.CFG.MODE ≠ 3 → s.canHears p c = true →
      s.pnOf (globalFacet p (32 + c)) = none →
      (bfFormat b = 0 ∨ (bfFormat b = 1 ∧ s.flag (CAN.CFG p c) CAN.CFG.FD_EN = true) ∨
        (bfFormat b = 2 ∧ s.flag (CAN.CFG p c) CAN.CFG.XL_EN = true)) → bfLenOk b = true →
      Gives (.canReceive p c b false ago) s fun t =>
        (t.can k).st = .active ∧ (t.can k).recv = u.recv - 1 ∧ (t.can k).tec = u.tec ∧
        (s.fld (CAN.CFG p c) CAN.CFG.MODE ≠ 1 → s.canDrives p c = true → Out.canAck p c ∈ t.out) ∧
        (s.canFilter p c (bfSetFlag b 2 false) = none →
          t.buf (fk p (32 + c)) = s.buf (fk p (32 + c)) ∧ Counted (CAN.CNT p c 5) 1 s t) ∧
        (∀ i, s.canFilter p c (bfSetFlag b 2 false) = some i → 24 < s.busCells p (32 + c) + cellsOf (bfSetFlag b 2 false).length →
          t.buf (fk p (32 + c)) = s.buf (fk p (32 + c)) ∧ Counted (CAN.CNT p c 6) 1 s t ∧ bit (t.reg (CAN.EVT p c)) 4 = true) ∧
        (∀ i, s.canFilter p c (bfSetFlag b 2 false) = some i → s.busCells p (32 + c) + cellsOf (bfSetFlag b 2 false).length ≤ 24 →
          let data := bfSetFilter (bfSetFlag b 2 false) i
          let d := s.fld (CLS.BUS_DEST p c) CLS.BUS_DEST.QUEUE
          Counted (CAN.CNT p c 0) 1 s t ∧
            t.buf (fk p (32 + c)) = s.buf (fk p (32 + c)) ++
              [{ fr := { dest := d, cls := qClass d, flow := qFlow d, ts := (s.time p + 2 ^ 48 - ago % 2 ^ 48) % 2 ^ 48, bus := true
                         data := data, src := globalFacet p (32 + c), fid := s.fidNo (ck p (32 + c) (qClass d)) }
                 bufCls := qClass d, looked := true, got := cellsOf data.length }]) ∧
        (s.flag (CAN.AC_CFG p c) CAN.AC_CFG.EN = true → isClaim b = true → bfFormat b = 0 → bfId b % 256 ≤ 253 → s.trkName p c (bfId b % 256) = none →
          ∀ a, a < 254 → t.trk (trkKey p c a) =
            if a = bfId b % 256 then some (leNat (bfData b), 0)
            else if s.trkName p c a = some (leNat (bfData b)) then none else s.trk (trkKey p c a))) ∧
    (∀ q r l tdcv, u.pend = some q → (s.queue (globalQueue p q)).refs = r :: l → (u.st = .active ∨ u.st = .passive) →
      (u.tec ≤ 127 → u.recv ≤ 127 → u.st = .active → s.fld (CAN.CFG p c) CAN.CFG.MODE ≠ 3 → s.canDrives p c = true →
        Gives (.canTransmitDone p c tdcv ago) s fun t =>
          let b := bfAsSent r.fr.data false
          t.out = .can p c (s.nominalBit p c) (t.dataPhase p c (bfFormat b) (bfSwitches b)) b :: s.out ∧ (t.can k).pend = none ∧ (t.can k).tec = u.tec - 1 ∧
            Counted (CAN.CNT p c 7) 1 s t ∧ (s.enabled p 0x81 = false → (t.queue (globalQueue p q)).refs = l)) ∧
      (s.flag (CAN.CFG p c) CAN.CFG.ONE_SHOT = false → u.abort = false → Gives (.canArbitrationLost p c) s fun t =>
        (t.can k).pend = none ∧ (t.queue (globalQueue p q)).refs = r :: l ∧
          (t.queue (globalQueue p q)).deficit = (s.queue (globalQueue p q)).deficit + r.fr.data.length ∧ Counted (CAN.CNT p c 9) 1 s t) ∧
      (s.flag (CAN.CFG p c) CAN.CFG.ONE_SHOT = true ∨ u.abort = true → Gives (.canArbitrationLost p c) s fun t =>
        (t.can k).pend = none ∧ (t.queue (globalQueue p q)).refs = l ∧ Counted (CAN.CNT p c 9) 1 s t ∧
          Counted (CAN.CNT p c 11) 1 s t)) ∧
    (∀ kind phase tx eights exempt tdcv, 1 ≤ kind → kind ≤ 5 → u.st = .active → u.tec ≤ 255 →
      Gives (.canError p c kind phase tx eights exempt tdcv) s fun t =>
        let flag := s.canSignals p c phase
        let more := if flag = true then 8 * eights else 0
        let tec := u.tec + (if tx = true then (if exempt = true then 0 else 8) + more else 0)
        let recv := u.recv + (if tx = true then 0 else 1 + more)
        t.out = (if flag = true then .canFlag p c true :: s.out else s.out) ∧
        Counted (CAN.CNT p c (12 + kind)) 1 s t ∧
          Holds t (CAN.LAST_ERR p c) (word [(CAN.LAST_ERR.KIND, kind), (CAN.LAST_ERR.PHASE, phase), (CAN.LAST_ERR.DIR, b2n tx)]) ∧
          Holds t (CAN.LAST_ERR_TIME p c) (BitVec.ofNat 48 (s.time p)) ∧ (t.can k).tec = tec ∧ (t.can k).recv = min 255 recv ∧
          (t.can k).st = (if 255 < tec then .busOff else if 127 < tec ∨ 127 < recv then .passive else .active)) ∧
    (u.st = .integrating → Gives (.canIntegrated p c) s fun t => (t.can k).st = u.held) ∧
    (u.st = .recovering → Gives (.canRecoveryDone p c) s fun t =>
      (t.can k).st = .active ∧ (t.can k).tec = 0 ∧ (t.can k).recv = 0 ∧ Logged (CAN.EVT p c) 3 s t) ∧
    (let age := s.fld (CAN.AC_CFG p c) CAN.AC_CFG.AGE_S
     age ≠ 0 → Gives (.acAgeSweep p c) s fun t => ∀ a n i, a < 254 → s.trk (trkKey p c a) = some (n, i) →
       t.trk (trkKey p c a) = if age ≤ i + 1 then none else some (n, min 65535 (i + 1)))

/-- CAN commands. RECOVER, ABORT_TX, the filter element commands and the tracker commands do what their operation says, or are
refused (R400, R401, R405, R412, R416, R432, R433). -/
def Obligations.CanCommands : Prop :=
  ∀ (s u : State) (w : Sender) (ag : Agent) (p c v : Nat), p < 4 → c < 16 →
    let x := BitVec.ofNat 48 v
    let k := canKey p c
    let e := u.fld (CAN.FILT_CFG p c) CAN.FILT_CFG.BASE + fget x CAN.FILT_CMD.INDEX
    let count := u.fld (CAN.FILT_CFG p c) CAN.FILT_CFG.COUNT
    let i := fget x CAN.AC_CMD.INDEX
    (Reaches (.canRecover w p c v) s ag u → Gives (.canRecover w p c v) s fun t =>
      ((u.can k).st = .busOff → (t.can k).st = .recovering) ∧ ((u.can k).st ≠ .busOff → (t.can k).st = (u.can k).st) ∧
        t.out = endOut w .ok u.out) ∧
    (Reaches (.abortTx w p c v) s ag u → Gives (.abortTx w p c v) s fun t =>
      (t.can k).abort = (u.can k).pend.isSome ∧ (t.can k).pend = (u.can k).pend ∧ t.out = endOut w .ok u.out) ∧
    (Reaches (.filtCmdRead w p c v) s ag u →
      (fget x CAN.FILT_CMD.INDEX < count → Gives (.filtCmdRead w p c v) s fun t =>
        Holds t (CAN.FILT_W0 p c) (u.tbl p 0x4A e 0) ∧ Holds t (CAN.FILT_W1 p c) (u.tbl p 0x4A e 1) ∧
          t.fld (CAN.FILT_CMD p c) CAN.FILT_CMD.RESULT = 0 ∧
          OnlyRegs [CAN.FILT_CMD p c, CAN.FILT_W0 p c, CAN.FILT_W1 p c] u t ∧ t.out = endOut w .ok u.out) ∧
      (count ≤ fget x CAN.FILT_CMD.INDEX → Gives (.filtCmdRead w p c v) s fun t =>
        t.fld (CAN.FILT_CMD p c) CAN.FILT_CMD.RESULT = 2 ∧ t.tbls = u.tbls ∧ t.out = endOut w .badValue u.out)) ∧
    (Reaches (.filtCmdWrite w p c v) s ag u →
      let w0 := u.reg (CAN.FILT_W0 p c)
      let w1 := u.reg (CAN.FILT_W1 p c)
      (fget x CAN.FILT_CMD.INDEX < count → filtBad w0 w1 = false → Gives (.filtCmdWrite w p c v) s fun t =>
        t.tbl p 0x4A e 0 = w0 ∧ t.tbl p 0x4A e 1 = w1 ∧ t.fld (CAN.FILT_CMD p c) CAN.FILT_CMD.RESULT = 0 ∧
          OnlyRegs [CAN.FILT_CMD p c] u t ∧ t.out = endOut w .ok u.out) ∧
      (count ≤ fget x CAN.FILT_CMD.INDEX ∨ filtBad w0 w1 = true → Gives (.filtCmdWrite w p c v) s fun t =>
        t.tbls = u.tbls ∧ t.fld (CAN.FILT_CMD p c) CAN.FILT_CMD.RESULT = 2 ∧ t.out = endOut w .badValue u.out)) ∧
    (i ≤ 253 →
      (Reaches (.acCmdRead w p c v) s ag u → Gives (.acCmdRead w p c v) s fun t =>
        let n := (((u.trk (trkKey p c i)).map (·.1)).getD 0)
        Holds t (CAN.AC_W0 p c) (BitVec.ofNat 48 n) ∧
          Holds t (CAN.AC_W1 p c) (word [(CAN.AC_W1.NAME_H, n / 2 ^ 48), (CAN.AC_W1.VALID, b2n (u.trk (trkKey p c i)).isSome),
            (CAN.AC_W1.IDLE_S, ((u.trk (trkKey p c i)).map (·.2)).getD 0)]) ∧
          t.fld (CAN.AC_CMD p c) CAN.AC_CMD.RESULT = 0 ∧ t.out = endOut w .ok u.out) ∧
      (Reaches (.acCmdFind w p c v) s ag u → Gives (.acCmdFind w p c v) s fun t =>
        let n := (u.reg (CAN.AC_W0 p c)).toNat + 2 ^ 48 * u.fld (CAN.AC_W1 p c) CAN.AC_W1.NAME_H
        (∀ y, (u.holders p c n).head? = some y →
          t.fld (CAN.AC_CMD p c) CAN.AC_CMD.INDEX = y ∧ t.fld (CAN.AC_CMD p c) CAN.AC_CMD.RESULT = 0) ∧
        (u.holders p c n = [] → t.fld (CAN.AC_CMD p c) CAN.AC_CMD.RESULT = 2) ∧
        OnlyRegs [CAN.AC_CMD p c] u t ∧ t.out = endOut w .ok u.out) ∧
      (Reaches (.acCmdEmpty w p c v) s ag u → Gives (.acCmdEmpty w p c v) s fun t =>
        (∀ a, a < 254 → t.trk (trkKey p c a) = none) ∧ t.fld (CAN.AC_CMD p c) CAN.AC_CMD.RESULT = 0 ∧
          OnlyRegs [CAN.AC_CMD p c] u t ∧ t.out = endOut w .ok u.out))

/-- LIN slots and responses. A slot goes to sleep, stops, ends at an empty table, or runs the next entry: a publish entry sends the
buffer with its checksum, another sends its header and waits; a header that cannot be read back is an error; a response is checked and
delivered or counted as an error, a collision starts its resolving table; a faulty bus is reported; a frame in the queue fills its
publish buffer (R389, R393, R417 to R423, R425). -/
def Obligations.LinSlotsAndResponses : Prop :=
  ∀ (s : State) (p c : Nat), p < s.x → p < 4 → c < 8 → s.prismUp = true →
    let k := linKey p c
    let u := s.lin k
    let n := s.linNext p c
    let w := s.linEntry p c n.1 n.2.1
    let bus := fun (id : Nat) (data : List Byte) =>
      Out.lin p c (s.fld (LIN.CFG p c) LIN.CFG.BREAK) (s.fld (LIN.CFG p c) LIN.CFG.BIT_TIME) (linPid id) data
    (∀ late, u.st = .running →
      (u.goSleep = true → s.linDrives p c = true → Gives (.linSlot p c 0 late false) s fun t =>
        let data : List Byte := [0x00, 0xFF, 0xFF, 0xFF, 0xFF, 0xFF, 0xFF, 0xFF]
        (t.lin k).st = .sleep ∧ t.out = bus 0x3C (data ++ [linCheck 0x3C false data]) :: s.out) ∧
      (u.goSleep = false → u.stop = true → Gives (.linSlot p c 0 late false) s fun t =>
        (t.lin k).st = .stopped ∧ t.out = s.out ∧ OnlyRegs [] s t) ∧
      (u.goSleep = false → u.stop = false → s.linTblLen p c n.1 = 0 → Gives (.linSlot p c 0 late false) s fun t =>
        (t.lin k).st = .stopped ∧ t.out = s.out ∧ OnlyRegs [] s t) ∧
      (u.goSleep = false → u.stop = false → s.linTblLen p c n.1 ≠ 0 →
        let runs := fun (t : State) => (t.lin k).st = .running ∧ (t.lin k).table = n.1 ∧ (t.lin k).entry = n.2.1 ∧
          (t.lin k).next = n.2.1 + 1 ∧ (t.lin k).resolving = n.2.2
        (s.linDrives p c = true → linType w = 0 ∨ linType w = 4 ∨ (linType w = 3 ∧ (s.pub (pubKey p c (linId w))).2 = true) →
          let data := (beBytes 8 (s.pub (pubKey p c (linId w))).1).take (linLen w)
          Gives (.linSlot p c 0 late false) s fun t => runs t ∧ (t.lin k).waiting = none ∧
            t.out = bus (linId w) (if data.isEmpty then [] else data ++ [linCheck (linId w) (linEnh w) data]) :: s.out ∧
            (t.pub (pubKey p c (linId w))).2 = false ∧ Counted (LIN.CNT p c 0) 1 s t ∧ Counted (LIN.CNT p c 1) 1 s t) ∧
        (linType w = 3 ∧ (s.pub (pubKey p c (linId w))).2 = false ∨ linType w = 6 → Gives (.linSlot p c 0 late false) s fun t =>
          runs t ∧ t.out = s.out ∧ OnlyRegs [] s t) ∧
        (s.linDrives p c = true → linType w = 1 ∨ linType w = 2 ∨ linType w = 5 → Gives (.linSlot p c 0 late false) s fun t =>
          runs t ∧ (t.lin k).waiting = some w.toNat ∧ t.out = bus (linId w) [] :: s.out ∧ Counted (LIN.CNT p c 0) 1 s t) ∧
        (∀ rb, rb = 1 ∨ s.linDrives p c = false → linType w ≠ 3 → linType w ≠ 6 → Gives (.linSlot p c rb late false) s fun t =>
          runs t ∧ (t.lin k).badHeads = u.badHeads + 1 ∧ t.out = s.out ∧ (t.lin k).waiting = none ∧
            Counted (LIN.CNT p c 7) 1 s t ∧ Logged (LIN.EVT p c) 0 s t))) ∧
    (∀ (x fault ago : Nat) (raw : List Byte), u.waiting = some x →
      let e : Word := BitVec.ofNat 48 x
      let err := linFault e fault (if s.linHears p c = true then raw else [])
      let frame := linFrame (linId e) (linEnh e) (raw.take (linLen e))
      let d := s.fld (CLS.BUS_DEST p (16 + c)) CLS.BUS_DEST.QUEUE
      (4 < s.busCells p (48 + c) + 1 → err = 0 → Gives (.linResponse p c fault raw ago) s fun t => (t.lin k).waiting = none ∧
        Counted (LIN.CNT p c 11) 1 s t ∧ Logged (LIN.EVT p c) 4 s t ∧ t.buf (fk p (48 + c)) = s.buf (fk p (48 + c))) ∧
      (s.busCells p (48 + c) + 1 ≤ 4 → err = 0 → Gives (.linResponse p c fault raw ago) s fun t => (t.lin k).waiting = none ∧
        Counted (LIN.CNT p c 2) 1 s t ∧
          t.buf (fk p (48 + c)) = s.buf (fk p (48 + c)) ++
            [{ fr := { dest := d, cls := qClass d, flow := qFlow d, ts := (s.time p + 2 ^ 48 - ago % 2 ^ 48) % 2 ^ 48, bus := true
                       data := frame, src := globalFacet p (48 + c), fid := s.fidNo (ck p (48 + c) (qClass d)) }
               bufCls := qClass d, looked := true, got := cellsOf frame.length }]) ∧
      (linType e ≠ 2 → err ≠ 0 → Gives (.linResponse p c fault raw ago) s fun t => (t.lin k).waiting = none ∧
        Counted (LIN.CNT p c ([7, 3, 4, 6, 5].getD (err - 1) 0)) 1 s t ∧ Logged (LIN.EVT p c) 0 s t ∧
          Holds t (LIN.LAST p c) (word [(LIN.LAST.ID, linId e), (LIN.LAST.ERR, err)])) ∧
      (linType e = 2 → err = 2 → Gives (.linResponse p c fault raw ago) s fun t => (t.lin k).waiting = none ∧ OnlyRegs [] s t) ∧
      (linType e = 2 → err ≠ 0 → err ≠ 2 → Gives (.linResponse p c fault raw ago) s fun t => (t.lin k).waiting = none ∧
        Counted (LIN.CNT p c 8) 1 s t ∧ Logged (LIN.EVT p c) 1 s t ∧
          (bit e 30 = true → u.resolving = none → (t.lin k).resolveNext = some (fget e ⟨31, 3⟩)))) ∧
    (∀ stuck, (u.st = .running ∧ 4 ≤ u.badHeads) ∨ ((u.st = .running ∨ u.st = .stopped) ∧ stuck = true) →
      Gives (.linBusFault p c stuck) s fun t =>
        (t.lin k).st = .busFault ∧ Counted (LIN.CNT p c 12) 1 s t ∧ Logged (LIN.EVT p c) 3 s t) ∧
    (∀ q r, s.waits p (48 + c) (fun _ => true) = some (q, r) →
      let b := r.fr.data
      let z := s.afterTake p (48 + c) fun _ => true
      let id := bfId b % 64
      (bfFormat b = 3 → z.linPublishes p c id = true → Gives (.linPublish p c) s fun t =>
        t.pub (pubKey p c id) = (beNat (padTo 8 (bfData b)), true) ∧ t.regs = z.regs) ∧
      (bfFormat b ≠ 3 ∨ z.linPublishes p c id = false → Gives (.linPublish p c) s fun t =>
        Counted (LIN.CNT p c 10) 1 z t ∧ t.pub (pubKey p c id) = z.pub (pubKey p c id)))

/-- LIN commands and transceivers. SWITCH, STOP and GOTOSLEEP wait for the slot boundary; SCHED_CMD and PUB_CMD read and write an
entry and a buffer, or refuse; a transceiver's faults are recorded, its driver released and driven again, its mode follows its
controller where the drive link or the die itself carries it (R417, R420, R421, R424, R425, R427, R435, R436, R438, R765). -/
def Obligations.LinCommandsAndTransceivers : Prop :=
  ∀ (s u : State) (w : Sender) (ag : Agent) (p c v : Nat), p < 4 → c < 8 →
    let x := BitVec.ofNat 48 v
    let k := linKey p c
    let ok := fun (t : State) => t.out = endOut w .ok u.out
    (Reaches (.linSwitch w p c v) s ag u → Gives (.linSwitch w p c v) s fun t => ok t ∧
      ((u.lin k).st ≠ .off → (t.lin k).switchTo = some (fget x LIN.CMD.TABLE % 8)) ∧ ((u.lin k).st = .off → t = { u with out := t.out })) ∧
    (Reaches (.linStop w p c v) s ag u → Gives (.linStop w p c v) s fun t => ok t ∧
      ((u.lin k).st = .running ∨ (u.lin k).st = .busFault → (t.lin k).stop = true) ∧ ((u.lin k).st = .off → t = { u with out := t.out })) ∧
    (Reaches (.linGotosleep w p c v) s ag u → Gives (.linGotosleep w p c v) s fun t => ok t ∧
      ((u.lin k).st ≠ .off → (u.lin k).st ≠ .sleep → (t.lin k).goSleep = true) ∧ ((u.lin k).st = .off → t = { u with out := t.out })) ∧
    (let i := fget x LIN.SCHED_CMD.INDEX
     (Reaches (.schedCmdRead w p c v) s ag u → Gives (.schedCmdRead w p c v) s fun t => ok t ∧
       Holds t (LIN.SCHED_W p c) (u.schedEntry p i) ∧ t.fld (LIN.SCHED_CMD p c) LIN.SCHED_CMD.RESULT = 0 ∧
         OnlyRegs [LIN.SCHED_CMD p c, LIN.SCHED_W p c] u t) ∧
     (Reaches (.schedCmdWrite w p c v) s ag u →
       (schedBad (u.reg (LIN.SCHED_W p c)) = false → Gives (.schedCmdWrite w p c v) s fun t => ok t ∧
         t.schedEntry p i = u.reg (LIN.SCHED_W p c) ∧ t.fld (LIN.SCHED_CMD p c) LIN.SCHED_CMD.RESULT = 0 ∧
           OnlyRegs [LIN.SCHED_CMD p c] u t) ∧
       (schedBad (u.reg (LIN.SCHED_W p c)) = true → Gives (.schedCmdWrite w p c v) s fun t =>
         t.tbls = u.tbls ∧ t.fld (LIN.SCHED_CMD p c) LIN.SCHED_CMD.RESULT = 2 ∧ t.out = endOut w .badValue u.out))) ∧
    (let id := fget x LIN.PUB_CMD.ID
     let b := u.pub (pubKey p c id)
     (Reaches (.pubCmdRead w p c v) s ag u → Gives (.pubCmdRead w p c v) s fun t => ok t ∧
       Holds t (LIN.PUB_W0 p c) (BitVec.ofNat 48 (b.1 / 2 ^ 16)) ∧
         Holds t (LIN.PUB_W1 p c) (word [(LIN.PUB_W1.DATA, b.1 % 2 ^ 16), (LIN.PUB_W1.PENDING, b2n b.2)]) ∧
         t.fld (LIN.PUB_CMD p c) LIN.PUB_CMD.RESULT = 0 ∧ t.pub (pubKey p c id) = b) ∧
     (Reaches (.pubCmdWrite w p c v) s ag u →
       (u.linPublishes p c id = true → Gives (.pubCmdWrite w p c v) s fun t => ok t ∧
         t.pub (pubKey p c id) = (beNat (padTo 8 (beBytes 6 (u.reg (LIN.PUB_W0 p c)).toNat ++
           beBytes 2 (u.fld (LIN.PUB_W1 p c) LIN.PUB_W1.DATA))), true) ∧ t.fld (LIN.PUB_CMD p c) LIN.PUB_CMD.RESULT = 0) ∧
       (u.linPublishes p c id = false → Gives (.pubCmdWrite w p c v) s fun t => t.pub (pubKey p c id) = b ∧
         t.fld (LIN.PUB_CMD p c) LIN.PUB_CMD.RESULT = 2 ∧ Counted (LIN.CNT p c 10) 1 u t ∧ t.out = endOut w .badValue u.out))) ∧
    (∀ d n, d < s.y → d < 4 → n < 12 →
      let z := s.xcvr (xKey d n)
      (Gives (.txdTimeout d n true) s fun t => t.xcvr (xKey d n) = { z with stuck := false } ∧ OnlyRegs [] s t) ∧
      (Gives (.txdTimeout d n false) s fun t => t.xcvr (xKey d n) = { z with stuck := true } ∧ Logged (XCVR.EVT d) (if n < 8 then 0 else 2) s t ∧ t.fld (XCVR.LAST d) XCVR.LAST.UNIT = n ∧
        OnlyRegs [XCVR.EVT d, XCVR.LAST d] s t) ∧
      (n < 8 → Gives (.busDom d n) s fun t => Logged (XCVR.EVT d) 1 s t ∧ t.fld (XCVR.LAST d) XCVR.LAST.UNIT = n ∧
        OnlyRegs [XCVR.EVT d, XCVR.LAST d] s t) ∧
      (Gives (.xcvrThermal d n) s fun t => t.xcvr (xKey d n) = { z with hot := true } ∧ Logged (XCVR.EVT d) 3 s t ∧
        t.fld (XCVR.LAST d) XCVR.LAST.UNIT = n ∧ OnlyRegs [XCVR.EVT d, XCVR.LAST d] s t) ∧
      (Gives (.xcvrThermalRelease d n) s fun t => t.xcvr (xKey d n) = { z with hot := false } ∧ OnlyRegs [] s t) ∧
      (Gives (.linSupHigh d) s fun t => t.linOver d = true ∧ Logged (XCVR.EVT d) 4 s t ∧ OnlyRegs [XCVR.EVT d] s t) ∧
      (Gives (.linSupOk d) s fun t => t.linOver d = false ∧ OnlyRegs [] s t) ∧
      ((s.supply d).chanOn = true → (s.supply d).hbLost = true ∨ (s.drv d).pin = true ∨ s.dlinkDown d = false →
        Gives (.xcvrModeChange d n) s fun t => (t.xcvr (xKey d n)).mode = s.xcvrWanted d n ∧
        (t.xcvr (xKey d n)).woken = (z.woken && s.xcvrAuto d n == .standby && s.xcvrWanted d n != .off) ∧ OnlyRegs [] s t))

/-- The signal engine. A frame under an unsealed entry has its signals stored and its copy sent, one without an entry is counted; a
session whose timer runs out closes with an abort; a PDU is composed at its cadence and after its gap; a tunnel sends; a measurement is
stored; the sweep clears old timestamps (R441, R444, R448 to R451, R454 to R456, R459 to R461, R465, R470, R639). -/
def Obligations.SignalEngineWorks : Prop :=
  ∀ (s : State) (p : Nat) (fault : Bool), p < s.x → p < 4 → s.prismUp = true →
    (∀ q r, s.enabled p 0x60 = true → s.waits p 59 (fun _ => true) = some (q, r) → r.fr.bus = true →
      let z := s.afterTake p 59 fun _ => true
      let f := r.fr.src % 64
      let here := r.fr.src / 64 == p
      let g : Ingress :=
        { src := if here = true ∧ 32 ≤ f ∧ f ≤ 55 then f else 0xFF
          ctl := if here = true ∧ 32 ≤ f ∧ f ≤ 47 then some (f - 32) else none
          facet := r.fr.src, ts := r.fr.ts, cls := r.fr.cls }
      let b := r.fr.data
      z.flag (SGW.CFG p) SGW.CFG.TP_EN = false →
      (z.beamHit p (z.probes p g b) = none → z.flag (SGW.CFG p) SGW.CFG.MISS_ACTION = false → Gives (.sgwFrame p fault) s fun t =>
        Counted (SGW.CNT p 0) 1 z t ∧ Counted (SGW.CNT p 2) 1 z t ∧ t.gw = z.gw ∧ t.buf (fk p 59) = z.buf (fk p 59)) ∧
      (∀ e, z.beamHit p (z.probes p g b) = some e →
        let w2 := z.beamW p e 2
        let w3 := z.beamW p e 3
        let first := fget (z.beamW p e 4) ⟨0, 18⟩
        bit w2 44 = false → bit w2 45 = false → bit w2 46 = false → fget w2 ⟨24, 8⟩ = 0 → fget w2 ⟨32, 8⟩ = 0 →
        (∀ i, i < 24 → fget w2 ⟨0, 24⟩ = 2 ^ i → Gives (.sgwFrame p fault) s fun t =>
          Counted (SGW.CNT p 0) 1 z t ∧ Counted (SGW.CNT p 1) 1 z t ∧
          (∀ j raw, first ≤ j → j < first + fget w3 ⟨30, 7⟩ → j < 262144 → z.rawSig p j (bfData b) = some (some raw) →
            t.sig (sigKey p j) = (z.sigValue p j raw, max 1 r.fr.ts)) ∧
          (routeCopy w2 w3 (decide (48 ≤ 32 + i)) false (z.fld (SGW.CFG p) SGW.CFG.PAD) b = none →
            t.buf (fk p 59) = z.buf (fk p 59) ∧ Counted (SGW.CNT p 4) 1 z t) ∧
          (∀ copy, routeCopy w2 w3 (decide (48 ≤ 32 + i)) false (z.fld (SGW.CFG p) SGW.CFG.PAD) b = some copy →
            let dest := globalQueue p (queueNo (32 + i) r.fr.cls 0)
            Counted (SGW.CNT p 3) 1 z t ∧ t.buf (fk p 59) = z.buf (fk p 59) ++
              [{ fr := { dest := dest, cls := qClass dest, flow := qFlow dest, src := r.fr.src, ts := r.fr.ts
                         fid := z.fidNo (ck p 59 (qClass dest)), bus := true, data := copy }
                 bufCls := qClass dest, looked := true, got := cellsOf copy.length }])))) ∧
    (∀ c sa da proto x, c < 16 → sa < 256 → da < 256 → (s.sess p).find? (fun y => y.is c sa da proto && s.pastMs y.since y.wait) = some x →
      (proto = 0 → Gives (.tpTimerExpire p c sa da proto) s fun t =>
        t.sess p = (s.sess p).filter (fun y => !y.is c sa da proto) ∧ OnlyRegs [] s t) ∧
      (proto ≠ 0 → Gives (.tpTimerExpire p c sa da proto) s fun t =>
        t.sess p = (s.sess p).filter (fun y => !y.is c sa da proto) ∧ Counted (SGW.CNT p 17) 1 s t ∧ Logged (SGW.EVT p) 3 s t ∧
          t.fld (SGW.LAST p) SGW.LAST.ABORT_REASON = 3 ∧
          ∃ rx, t.buf (fk p 59) = s.buf (fk p 59) ++ [rx] ∧ rx.fr.data = mkBus 0
            (7 * 2 ^ 26 + (if proto = 2 then 0xC8 else 0xEC) * 65536 + sa * 256 + da) 128 8 0 0 0 0
            ([255, 3, 0xFF, 0xFF, 0xFF] ++ leBytes 3 x.pgn))) ∧
    (∀ i, i < 4096 → s.composes p i = true → bit (s.pduW p i 3) 24 = true → bit (s.pduW p i 0) 47 = false →
      fget (s.pduW p i 1) ⟨16, 8⟩ = 0 →
      let sent := fun (t : State) => Counted (SGW.CNT p 7) 1 s t ∧ (t.pdu (pduKey p i)).last = some (s.time p) ∧
        ∃ rx, t.buf (fk p 59) = s.buf (fk p 59) ++ [rx] ∧ rx.fr.data = s.pduFrame p i (s.pduData p i (s.time p)) ∧
          rx.fr.dest = fget (s.pduW p i 1) ⟨0, 16⟩ ∧ rx.fr.bus = true
      (∀ age, s.cadenceAge p i = some age → (s.pdu (pduKey p i)).cad ≠ some (s.time p - age) →
        Gives (.pduCadence p i fault) s fun t => sent t ∧ (t.pdu (pduKey p i)).cad = some (s.time p - age) ∧
          (100000 < age → Counted (SGW.CNT p 8) 1 s t ∧ Logged (SGW.EVT p) 2 s t)) ∧
      (∀ age, s.changeAge p i = some age → Gives (.pduChangeCompose p i fault) s fun t => sent t ∧ (t.pdu (pduKey p i)).due = none ∧
        (100000 < age → Counted (SGW.CNT p 8) 1 s t ∧ Logged (SGW.EVT p) 2 s t))) ∧
    (∀ n, n < 256 → s.enabled p 0x60 = true →
      let u := s.tun (tunKey p n)
      let w2 := s.tunW p n 2
      let w3 := s.tunW p n 3
      u.msgs ≠ [] → (fget w3 ⟨8, 5⟩ ≤ u.msgs.length ∨ fget w3 ⟨13, 16⟩ * 1000 ≤ (s.time p + 2 ^ 48 - u.since) % 2 ^ 48) →
      Gives (.tunnelSend p n) s fun t => t.tun (tunKey p n) = { u with msgs := [], tx := (u.tx + 1) % 256 } ∧
        Counted (SGW.CNT p 11) u.msgs.length s t ∧
        ∃ rx, t.buf (fk p 59) = s.buf (fk p 59) ++ [rx] ∧ (rx.fr.data.drop 30).take u.msgs.flatten.length = u.msgs.flatten ∧
          rx.fr.dest = globalQueue (fget w2 ⟨40, 8⟩ / 64)
            (queueNo (fget w2 ⟨40, 8⟩ % 64) (fget w3 ⟨0, 3⟩) (fget w3 ⟨3, 5⟩))) ∧
    (∀ d item v n, d < s.y → d < 4 → (s.supply d).chanOn = true → s.dlinkDown d = false → s.measured d item v = some n →
      Gives (.measurementWrite d item v) s fun t =>
        t.sig (sigKey (s.attachedTo d) (0x3F000 + 0x400 * s.rankOf d + item)) =
          (ofSigned 48 n, max 1 (s.time (s.attachedTo d)))) ∧
    (Sparse.canon sigBlank s.gw.sigs = true → Gives (.signalSweep p) s fun t => OnlyRegs [] s t ∧ ∀ i, i < 262144 →
      let v := s.sig (sigKey p i)
      (v.2 ≠ 0 → fget (s.desc p i 1) ⟨0, 16⟩ ≠ 0 → 2 ^ 46 ≤ (s.time p + 2 ^ 48 - v.2) % 2 ^ 48 → t.sig (sigKey p i) = (v.1, 0)) ∧
      (v.2 = 0 ∨ fget (s.desc p i 1) ⟨0, 16⟩ = 0 ∨ (s.time p + 2 ^ 48 - v.2) % 2 ^ 48 < 2 ^ 46 → t.sig (sigKey p i) = v))

/-- Commands of the signal gateway. BEAM_CMD reads, finds, inserts and deletes an entry; TBL_CMD reads and writes an entry; SIG_CMD
reads and writes a signal; a refused one changes no table and no signal (R446, R447, R451, R457, R475 to R477). -/
def Obligations.GatewayCommands : Prop :=
  ∀ (s u : State) (w : Sender) (ag : Agent) (p v : Nat), p < 4 →
    let x := BitVec.ofNat 48 v
    let ok := fun (t : State) => t.out = endOut w .ok u.out
    let bad := fun (t : State) => t.out = endOut w .badValue u.out
    (let i := fget x SGW.BEAM_CMD.INDEX
     let regs := (List.range 5).map fun j => u.reg (SGW.BEAM_W p j)
     let key := keyOf (u.reg (SGW.BEAM_W p 0)) (u.reg (SGW.BEAM_W p 1))
     let result := fun (n : Nat) (t : State) => t.fld (SGW.BEAM_CMD p) SGW.BEAM_CMD.RESULT = n
     (Reaches (.beamCmdRead w p v) s ag u → Gives (.beamCmdRead w p v) s fun t => ok t ∧ result 0 t ∧
       ∀ j, j < 5 → Holds t (SGW.BEAM_W p j) (u.beamW p i j)) ∧
     (Reaches (.beamCmdFind w p v) s ag u → Gives (.beamCmdFind w p v) s fun t => ok t ∧ OnlyRegs [SGW.BEAM_CMD p] u t ∧
       (∀ j, u.beamFind p key = some j → result 0 t ∧ t.fld (SGW.BEAM_CMD p) SGW.BEAM_CMD.INDEX = j) ∧
       (u.beamFind p key = none → result 2 t)) ∧
     (Reaches (.beamCmdInsert w p v) s ag u →
       (∀ j, u.beamBad p regs = false → u.beamPlace p key = some j → Gives (.beamCmdInsert w p v) s fun t => ok t ∧ result 0 t ∧
         t.fld (SGW.BEAM_CMD p) SGW.BEAM_CMD.INDEX = j ∧ ∀ k, k < 5 → t.beamW p j k = u.reg (SGW.BEAM_W p k)) ∧
       (u.beamBad p regs = true → Gives (.beamCmdInsert w p v) s fun t => bad t ∧ result 4 t ∧ t.tbls = u.tbls) ∧
       (u.beamBad p regs = false → u.beamPlace p key = none → Gives (.beamCmdInsert w p v) s fun t => bad t ∧ result 3 t ∧
         t.tbls = u.tbls)) ∧
     (Reaches (.beamCmdDelete w p v) s ag u →
       (∀ j, u.beamFind p key = some j → Gives (.beamCmdDelete w p v) s fun t => ok t ∧ result 0 t ∧
         ∀ k, k < 5 → t.beamW p j k = 0) ∧
       (u.beamFind p key = none → Gives (.beamCmdDelete w p v) s fun t => ok t ∧ result 2 t ∧ t.tbls = u.tbls))) ∧
    (∀ n m, sgwTable (fget x SGW.TBL_CMD.TABLE) = some (n, m) →
      let tb := fget x SGW.TBL_CMD.TABLE
      let i := fget x SGW.TBL_CMD.INDEX
      let regs := (List.range m).map fun j => u.reg (SGW.TBL_W p j)
      (Reaches (.tblCmdRead w p v) s ag u → i < n → Gives (.tblCmdRead w p v) s fun t => ok t ∧
        t.fld (SGW.TBL_CMD p) SGW.TBL_CMD.RESULT = 0 ∧ ∀ j, j < m → Holds t (SGW.TBL_W p j) (u.tbl p tb i j)) ∧
      (Reaches (.tblCmdRead w p v) s ag u → n ≤ i → Gives (.tblCmdRead w p v) s fun t => bad t ∧ OnlyRegs [] u t) ∧
      (Reaches (.tblCmdWrite w p v) s ag u →
        (i < n → u.sgwBad p tb i regs = false → Gives (.tblCmdWrite w p v) s fun t => ok t ∧
          t.fld (SGW.TBL_CMD p) SGW.TBL_CMD.RESULT = 0 ∧ ∀ j, j < m → t.tbl p tb i j = u.reg (SGW.TBL_W p j)) ∧
        (n ≤ i ∨ u.sgwBad p tb i regs = true → Gives (.tblCmdWrite w p v) s fun t => bad t ∧
          t.fld (SGW.TBL_CMD p) SGW.TBL_CMD.RESULT = 2 ∧ t.tbls = u.tbls))) ∧
    (let i := fget x SGW.SIG_CMD.INDEX
     (Reaches (.sigCmdRead w p v) s ag u → Gives (.sigCmdRead w p v) s fun t => ok t ∧
       t.fld (SGW.SIG_CMD p) SGW.SIG_CMD.RESULT = 0 ∧ Holds t (SGW.SIG_VAL p) (BitVec.ofNat 48 (u.sig (sigKey p i)).1) ∧
         Holds t (SGW.SIG_TS p) (BitVec.ofNat 48 (u.sig (sigKey p i)).2) ∧ t.gw = u.gw) ∧
     (Reaches (.sigCmdWrite w p v) s ag u →
       (i < 258048 → Gives (.sigCmdWrite w p v) s fun t => ok t ∧ t.fld (SGW.SIG_CMD p) SGW.SIG_CMD.RESULT = 0 ∧
         t.sig (sigKey p i) = ((u.reg (SGW.SIG_VAL p)).toNat, max 1 (u.time p)) ∧
           ∀ j, j ≠ sigKey p i → t.sig j = u.sig j) ∧
       (258048 ≤ i → Gives (.sigCmdWrite w p v) s fun t => bad t ∧ t.fld (SGW.SIG_CMD p) SGW.SIG_CMD.RESULT = 2 ∧ t.gw = u.gw)))

/-- The window bridge. A load through a window is denied, names no register, collects its result, reads the register, or receives RETRY
with a pending entry; a store is posted or fails and is logged; a result and a posted write complete or time out; a lock-view load
locks the block; a lock and an uncollected entry expire (R481 to R487, R492, R494). -/
def Obligations.WindowsReachRegisters : Prop :=
  ∀ (s : State) (p c h n k v part : Nat), p < s.x → p < 4 → c < 7 → n < 256 → k < 8192 → s.prismUp = true →
    s.onCore p c = some part →
    let ag : Agent := .fw p part c h
    let a := s.winAddr p n k
    let said := fun (code : Code) (x : Word) => Out.reply ag code x :: s.out
    let mine := fun (lock : Bool) (e : WinPend) => e.part == part && e.win == n && e.lock == lock && e.loc == k
    let entry := fun (lock sent : Bool) =>
      ({ part := part, core := c, hart := h, win := n, lock := lock, loc := k, sent := sent, asked := s.edges } : WinPend)
    let beyond := s.winA p n WBR.WIN_A.VALID = 1 ∧ s.winBeyond p n k = true
    let z := (Act.winCount p 0).run s
    let reads := fun (z : State) => z.regIs a = true ∧ (4 ≤ aDie a ∨ (aBlk a ∉ [0x09, 0x78, 0x82] ∧ (aBlk a < 0x20 ∨ 0x40 ≤ aBlk a))) ∧
      slowRead a = false ∧ (4 ≤ aDie a → z.dlinkDown (aDie a - 4) = false) ∧ z.parityBad a = false
    let quiet := fun (lock : Bool) => s.winDenied p part n true lock = false ∧ s.winBeyond p n k = false ∧
      (s.wpend p).find? (mine lock) = none
    (∀ aligned fast, beyond → Gives (.windowLoad p c h n k aligned fast) s fun t =>
      t.out = said .noSuch 0 ∧ OnlyRegs [] s t ∧ t.gw = s.gw) ∧
    (∀ aligned fast, ¬beyond → s.winDenied p part n aligned false = true → Gives (.windowLoad p c h n k aligned fast) s fun t =>
      t.out = said .denied 0 ∧ OnlyRegs [] s t ∧ t.gw = s.gw) ∧
    (∀ fast e r, s.winDenied p part n true false = false → s.winBeyond p n k = false → (s.wpend p).find? (mine false) = some e →
      e.done = some r → Gives (.windowLoad p c h n k true fast) s fun t => t.out = said r.1 r.2.1 ∧ Counted (WBR.CNT p 0) 1 s t ∧
        t.wpend p = (s.wpend p).filter fun x => !mine false x) ∧
    (quiet false → (s.winBusy p n = true → ∀ fast, Gives (.windowLoad p c h n k true fast) s fun t => t.out = said .retry 0 ∧
        t.wpend p = (s.wpend p ++ [entry false false]).drop ((s.wpend p).length + 1 - 32) ∧ Counted (WBR.CNT p 2) 1 s t) ∧
      (s.winBusy p n = false → s.winDev p n = none →
        (Gives (.windowLoad p c h n k true false) s fun t => t.out = said .retry 0 ∧
          t.wpend p = (s.wpend p ++ [entry false true]).drop ((s.wpend p).length + 1 - 32) ∧ Counted (WBR.CNT p 2) 1 s t) ∧
        (reads z → Gives (.windowLoad p c h n k true true) s fun t => t.out = said .ok (z.live a) ∧ Counted (WBR.CNT p 0) 1 s t ∧
          t.gw = s.gw))) ∧
    (quiet true → s.winBusy p n = false → s.winDev p n = none → s.winLock p n = none → reads z → s.lockOf a = none →
      (4 ≤ aDie a → blockSlow (aBlk a) = false) → Gives (.lockedRead p c h n k true true) s fun t =>
        t.out = said .ok (z.live a) ∧ (t.lockOf a).isSome = true ∧ t.winLock p n = some { die := p, win := n, loc := k, since := s.edges } ∧
          t.blockHeld (aDie a) (aBlk a) = true) ∧
    (∀ aligned lock, beyond → Gives (.windowStore p c h n k aligned lock v) s fun t => Counted (WBR.CNT p 3) 1 s t ∧
      Logged (WBR.EVT p) 0 s t ∧ t.wpost p = s.wpost p ∧ (s.flag (WBR.EVT p) WBR.EVT.POST_ERR = false →
        t.fld (WBR.POST_ERR_ADDR p) WBR.POST_ERR_ADDR.CODE = Code.noSuch.num)) ∧
    (∀ aligned lock, ¬beyond → s.enabled p 0x61 = false ∨ s.winA p n WBR.WIN_A.VALID = 0 ∨ aligned = false →
      Gives (.windowStore p c h n k aligned lock v) s fun t => Counted (WBR.CNT p 3) 1 s t ∧ Logged (WBR.EVT p) 0 s t ∧
        t.wpost p = s.wpost p ∧ (s.flag (WBR.EVT p) WBR.EVT.POST_ERR = false →
          t.fld (WBR.POST_ERR_ADDR p) WBR.POST_ERR_ADDR.CODE = Code.denied.num ∧
          t.fld (WBR.POST_ERR_INFO p) WBR.POST_ERR_INFO.WINDOW = n)) ∧
    (∀ lock e, s.enabled p 0x61 = true → s.winA p n WBR.WIN_A.VALID ≠ 0 → s.winBeyond p n k = false → s.winDev p n = none →
      loadTarget a = none → s.blockEntry p part a (BitVec.ofNat 48 v) = some e → (lock = true → bit (s.apr p e 1) 46 = true) →
      bit (s.reg (WBR.WIN_B p n)) part = true → s.winB p n WBR.WIN_B.WRITE ≠ 0 → (lock = true → s.winB p n WBR.WIN_B.LOCK ≠ 0) →
      Gives (.windowStore p c h n k true lock v) s fun t => Counted (WBR.CNT p 1) 1 s t ∧ t.out = s.out ∧
        t.wpost p = s.wpost p ++
          [{ part := part, core := c, hart := h, win := n, lock := lock, loc := k, value := BitVec.ofNat 48 v
             asked := s.edges }]) ∧
    (∀ i e, (s.wpend p)[i]? = some e → e.done = none →
      (s.pastUs e.asked (10 * s.winB p e.win WBR.WIN_B.TIMEOUT) = true → Gives (.windowReadReply p i true) s fun t => Counted (WBR.CNT p 4) 1 s t ∧ Logged (WBR.EVT p) 1 s t ∧
        (t.wpend p)[i]? = some { e with sent := true, tag := none, done := some (.timeout, 0, s.edges) }) ∧
      (e.sent = true → s.winDev p e.win = none → e.lock = false → s.winAddr p e.win e.loc = a → reads s →
        Gives (.windowReadReply p i false) s fun t => OnlyRegs [] s t ∧
          (t.wpend p)[i]? = some { e with sent := true, tag := none, done := some (.ok, s.live a, s.edges) })) ∧
    (∀ i x, (s.wpost p)[i]? = some x → (((s.wpost p).take i).all fun y => y.win != x.win) = true → s.winDev p x.win = none →
      (s.pastUs x.asked (10 * s.winB p x.win WBR.WIN_B.TIMEOUT) = true → Gives (.postedWriteDone p i true) s fun t => t.wpost p = (s.wpost p).eraseIdx i ∧ Counted (WBR.CNT p 4) 1 s t ∧
        Counted (WBR.CNT p 3) 1 s t ∧ Logged (WBR.EVT p) 0 s t) ∧
      (let dst := s.winAddr p x.win x.loc
       x.lock = false → aDie dst < 4 → (aBlk dst < 3 ∨ (0x58 ≤ aBlk dst ∧ aBlk dst ≤ 0x5A)) → aReg dst ≠ 0x1FFF →
        ((regRow dst).any fun r => r.kind == .sc) = false → s.lands (.fw p x.part x.core x.hart) dst x.value = true →
        s.refuses dst x.value = false → Gives (.postedWriteDone p i false) s fun t => t.wpost p = (s.wpost p).eraseIdx i ∧
          OnlyRegs [dst] s t ∧ ∀ r, regRow dst = some r → Holds t dst
            ((s.reg dst &&& ~~~ BitVec.ofNat 48 r.wmask) ||| (x.value &&& BitVec.ofNat 48 r.wmask)))) ∧
    (∀ l, s.winLock p n = some l → s.pastUs l.since (s.fld (WBR.CFG p) WBR.CFG.LOCK_US) = true → Gives (.windowLockExpire p n false) s fun t => t.winLock p n = none ∧ Logged (WBR.EVT p) 2 s t ∧
      ∀ y ∈ t.gw.blockLocks, y ∈ s.gw.blockLocks ∧ ¬(y.dev = none ∧ y.die = p ∧ y.win = n)) ∧
    (∀ i e r, (s.wpend p)[i]? = some e → e.done = some r → s.pastMs r.2.2 10 = true → Gives (.windowPendingExpire p i) s fun t =>
      t.wpend p = (s.wpend p).eraseIdx i ∧ OnlyRegs [] s t)

/-- The key store by itself. A used slot of the image loads, a load ends loaded or BAD, a key operation reports its result; resilvering
keeps every key; the random source stops and restarts; an armed tamper input destroys the root shares and resets the package, another
is recorded (R500, R503, R504, R506, R508 to R513). -/
def Obligations.KeyStoreWorks : Prop :=
  ∀ (s : State) (p n : Nat), p < s.x → p < 4 → n < 1024 → s.prismUp = true →
    let slot := fun (n st : Nat) (t : State) => t.slotState p n = st
    let blob := (s.kslot (sk p n)).blob
    (s.slotState p n = 0 → blob.isSome = true → Gives (.keyDemand p n) s fun t => slot n 1 t ∧ OnlyRegs [KEYS.SLOT p n] s t) ∧
    (s.start.canDone = true →
      ((List.range 1024).find? fun n => s.slotState p n == 0 && (s.kslot (sk p n)).blob.isSome &&
        s.flag (KEYS.POL p n) KEYS.POL.PRELOAD) = some n →
      Gives (.keyPreload p) s fun t => slot n 1 t ∧ OnlyRegs [KEYS.SLOT p n] s t) ∧
    (s.slotState p n = 1 →
      (∀ key, s.blobKey p n = some key → Gives (.keyLoadDone p n) s fun t => slot n 2 t ∧ (t.kslot (sk p n)).key = key ∧
        t.fld (KEYS.SLOT p n) KEYS.SLOT.SOURCE = (if (blob.map (·.1)) = some 1 then 2 else 1) ∧ Counted (KEYS.CNT p 0) 1 s t) ∧
      (s.blobKey p n = none → Gives (.keyLoadDone p n) s fun t => slot n 3 t ∧ Logged (KEYS.EVT p) 0 s t ∧
        t.fld (KEYS.LAST p) KEYS.LAST.SLOT = n ∧ t.fld (KEYS.LAST p) KEYS.LAST.WHAT = 1)) ∧
    (∀ o, (s.kstore p).op = some o →
      (o.result ≠ 1 → Gives (.keyOpDone p) s fun t => (t.kstore p).op = none ∧ Logged (KEYS.EVT p) 6 s t ∧
        t.fld (KEYS.OP_CMD p) KEYS.OP_CMD.RESULT = o.result % 16 ∧ t.fld (KEYS.OP_CMD p) KEYS.OP_CMD.OUT_LEN = o.outLen % 128) ∧
      (o.result = 1 → o.op = 1 → o.target = n → n ≠ 0 → (s.slotState p n = 1 ∨ s.slotState p n = 2) →
        Gives (.keyOpDone p) s fun t => (t.kstore p).op = none ∧ bit (t.reg (KEYS.EVT p)) 6 = true ∧
          (∀ key, s.blobKey p n = some key → slot n 2 t ∧ (t.kslot (sk p n)).key = key ∧
            t.fld (KEYS.OP_CMD p) KEYS.OP_CMD.RESULT = 2) ∧
          (s.blobKey p n = none → slot n 3 t ∧ t.fld (KEYS.OP_CMD p) KEYS.OP_CMD.RESULT = 4))) ∧
    (let due := s.pastMs (s.kstore p).passAt (s.fld (KEYS.CFG p) KEYS.CFG.RESILVER_MS) = true
     (due → (s.kstore p).rng ≠ 2 → Gives (.resilverPass p) s fun t => OnlyRegs [] s t ∧ (t.kstore p).passAt = s.edges ∧ ∀ m, m < 1024 →
      (t.kslot (sk p m)).key = (s.kslot (sk p m)).key ∧ (s.slotState p m = 2 → (t.kslot (sk p m)).since = 0) ∧
        (s.slotState p m ≠ 2 → t.kslot (sk p m) = s.kslot (sk p m))) ∧
     (due → (s.kstore p).rng = 2 → Gives (.resilverPass p) s fun t => Logged (KEYS.EVT p) 5 s t ∧ Counted (KEYS.CNT p 5) 1 s t ∧
       ∀ m, t.kslot (sk p m) = s.kslot (sk p m))) ∧
    (s.slotState p n = 2 → 2 ^ 20 ≤ (s.kslot (sk p n)).since → (s.kstore p).rng ≠ 2 → Gives (.resilverSlotUses p n) s fun t =>
      OnlyRegs [] s t ∧ (t.kslot (sk p n)).key = (s.kslot (sk p n)).key ∧ (t.kslot (sk p n)).since = 0) ∧
    (Gives (.rngHealthFail p) s fun t => Logged (KEYS.EVT p) 2 s t ∧ Counted (KEYS.CNT p 7) 1 s t ∧
      (t.kstore p).rng = if (s.kstore p).rng = 0 then 1 else (s.kstore p).rng) ∧
    ((s.kstore p).rng = 1 → Gives (.rngStop p) s fun t => (t.kstore p).rng = 2 ∧ Logged (KEYS.EVT p) 3 s t ∧
      OnlyRegs [KEYS.EVT p] s t) ∧
    (∀ pass, (s.kstore p).rng ≠ 0 → s.pastMs (s.kstore p).rngAt 100 = true → Gives (.rngRestart p pass) s fun t => OnlyRegs [] s t ∧
      (t.kstore p).rng = (if pass = true then 0 else (s.kstore p).rng) ∧ (t.kstore p).rngAt = s.edges) ∧
    ((s.kstore p).rng = 0 → exec (.drbgReseed p) s = .next { s with freeCount := s.freeCount + 1 }) ∧
    (∀ m, m < 8 →
      let new := Nat.land m (15 - (s.kstore 0).tamperNow)
      (Nat.land new s.tamperArm ≠ 0 → Gives (.tamperAssert m) s fun t => ResetBy 5 t ∧ t.fuse = { s.fuse with sharesGone := true }) ∧
      (new ≠ 0 → Nat.land new s.tamperArm = 0 → Gives (.tamperSeen m) s fun t => Logged (KEYS.EVT 0) 4 s t ∧
        (t.kstore 0).tamperNow = m ∧ OnlyRegs [KEYS.EVT 0] s t))

/-- Key operations and provisioning. Firmware's OP_CMD loads, derives, unwraps, wraps, generates, clears or wraps for the root within
the policies, and is denied otherwise; the host's PROV_CMD starts or is refused, and ends with the key area written or its failure
reported (R497, R500, R505 to R507, R515, R541). -/
def Obligations.KeyOperationsAndProvisioning : Prop :=
  ∀ (s u : State) (w : Sender) (ag : Agent) (p v q : Nat), p < 4 →
    let x := BitVec.ofNat 48 v
    let tgt := fget x KEYS.OP_CMD.TARGET
    let src := fget x KEYS.OP_CMD.SOURCE
    let len := fget x KEYS.OP_CMD.LEN
    let kt := u.kslot (sk p tgt)
    let busy := fun (op result outLen : Nat) (t : State) => t.fld (KEYS.OP_CMD p) KEYS.OP_CMD.RESULT = 1 ∧
      (t.kstore p).op = some { op := op, target := tgt, result := result, outLen := outLen, part := some q } ∧
      t.out = endOut w .ok u.out
    let filled := fun (source : Nat) (key : List Nat) (t : State) => (t.kslot (sk p tgt)).key = key ∧ t.slotState p tgt = 2 ∧
      t.fld (KEYS.SLOT p tgt) KEYS.SLOT.SOURCE = source ∧ (t.kslot (sk p tgt)).mark = 1
    let buffer := fun (l : List Byte) (t : State) =>
      ∀ i, i < 11 → Holds t (KEYS.OP_BUF p i) (BitVec.ofNat 48 (bytesAt l (6 * i) 6))
    ((u.kstore p).op = none → ag.part? = some q →
      (∀ i op, (i, op) ∈ [(Instr.load w p v, 1), (.derive w p v, 2), (.unwrap w p v, 3), (.wrap w p v, 4), (.generate w p v, 5),
          (.clear w p v, 6), (.wrapRoot w p v, 7)] → Reaches i s ag u → (tgt = 0 ∨ u.partOk p tgt (some q) = false) →
        Gives i s fun t => busy op 3 0 t ∧ Logged (KEYS.EVT p) 1 u t ∧ Counted (KEYS.CNT p 6) 1 u t) ∧
      (tgt ≠ 0 → u.partOk p tgt (some q) = true →
        (Reaches (.load w p v) s ag u → kt.blob.isSome = true → Gives (.load w p v) s fun t => busy 1 1 0 t ∧
          (u.slotState p tgt = 0 → t.slotState p tgt = 1)) ∧
        (Reaches (.derive w p v) s ag u → 1 ≤ len → len ≤ 64 → u.polBit p tgt KEYS.POL.FILL 1 = true →
          ∀ key, u.keyUse p src 6 none none (some q) = .ok key → Gives (.derive w p v) s fun t => busy 2 2 0 t ∧
            filled 3 (kdf key (nats ((u.opBuf p).take len)) (u.klen p tgt)) t ∧ Counted (KEYS.CNT p 1) 1 u t) ∧
        (Reaches (.unwrap w p v) s ag u → len = (if u.klen p tgt = 1 then 40 else 24) → u.polBit p tgt KEYS.POL.FILL 2 = true →
          ∀ kek, u.keyUse p src 7 (some 1) none (some q) = .ok kek → Gives (.unwrap w p v) s fun t =>
            (∀ key, keyUnwrap kwDefault kek (nats ((u.opBuf p).take len)) = some key → busy 3 2 0 t ∧ filled 4 key t ∧
              Counted (KEYS.CNT p 2) 1 u t) ∧
            (keyUnwrap kwDefault kek (nats ((u.opBuf p).take len)) = none → busy 3 4 0 t ∧ (t.kslot (sk p tgt)).key = kt.key)) ∧
        (Reaches (.wrap w p v) s ag u → u.flag (KEYS.POL p tgt) KEYS.POL.EXPORT = true → u.slotState p tgt = 2 →
          ∀ kek, u.keyUse p src 7 (some 0) none (some q) = .ok kek → Gives (.wrap w p v) s fun t =>
            let out := octets (keyWrap kwDefault kek kt.key)
            busy 4 2 out.length t ∧ buffer out t ∧ Counted (KEYS.CNT p 3) 1 u t) ∧
        (Reaches (.generate w p v) s ag u → u.polBit p tgt KEYS.POL.FILL 3 = true → (u.kstore p).rng ≠ 2 →
          Gives (.generate w p v) s fun t => busy 5 2 0 t ∧ Counted (KEYS.CNT p 4) 1 u t ∧
            ∃ l : List Byte, l.length = (if u.klen p tgt = 1 then 32 else 16) ∧ filled 5 (nats l) t) ∧
        (Reaches (.clear w p v) s ag u → Gives (.clear w p v) s fun t => busy 6 2 0 t ∧ (t.kslot (sk p tgt)).key = [] ∧
          t.slotState p tgt = 0 ∧ t.fld (KEYS.SLOT p tgt) KEYS.SLOT.SOURCE = 0) ∧
        (Reaches (.wrapRoot w p v) s ag u → u.polBit p tgt KEYS.POL.FILL 0 = true → u.slotState p tgt = 2 →
          (u.kstore p).rootOk = true → Gives (.wrapRoot w p v) s fun t =>
            let out := octets (keyWrap (kwSlot tgt) rootKey (key32 kt.key))
            busy 7 2 out.length t ∧ buffer out t ∧ Counted (KEYS.CNT p 3) 1 u t))) ∧
    (∀ i op, (i, op) ∈ [(Instr.provision w p v, 1), (.restore w p v, 2), (.rekey w p v, 3), (.renew w p v, 4)] →
      Reaches i s .spi u → (u.kstore p).prov = none →
      (u.provMay p op = true → Gives i s fun t => t.fld (KEYS.PROV_CMD p) KEYS.PROV_CMD.RESULT = 1 ∧
        (t.kstore p).prov = some (op, nats (u.provBytes p), fget x KEYS.PROV_CMD.ARG) ∧ t.out = endOut w .ok u.out) ∧
      (u.provMay p op = false → Gives i s fun t => t.fld (KEYS.PROV_CMD p) KEYS.PROV_CMD.RESULT = 3 ∧
        (∀ j, j < 7 → t.reg (KEYS.PROV p j) = 0) ∧ (t.kstore p).prov = none ∧ t.out = endOut w .ok u.out)) ∧
    (p < s.x → s.prismUp = true → s.ld.erasing = none → ∀ op data arg, (s.kstore p).prov = some (op, data, arg) →
      let ends := fun (n : Nat) (t : State) => t.fld (KEYS.PROV_CMD p) KEYS.PROV_CMD.RESULT = n ∧
        (∀ j, j < 7 → t.reg (KEYS.PROV p j) = 0) ∧ (t.kstore p).prov = none
      let writes := fun (key : List Nat) (t : State) =>
        ends 2 t ∧ ∀ j, j < 40 → t.flashByte (0x2000 + j) =
          if j < (keyWrap (kwSlot 0) rootKey key).length then (octets (keyWrap (kwSlot 0) rootKey key)).getD j 0 else 0xFF
      (op = 1 → Gives (.provCmdDone p true true true true) s fun t => writes (data.take 32) t ∧ t.fuse.provDone = true) ∧
      (op = 1 → Gives (.provCmdDone p false true true true) s fun t => ends 5 t ∧ t.flash = s.flash) ∧
      (op = 2 → keyUnwrap (kwSlot 0) rootKey (data.take 40) = none → Gives (.provCmdDone p true true true true) s fun t =>
        ends 4 t ∧ t.flash = s.flash) ∧
      (∀ key, op = 2 → keyUnwrap (kwSlot 0) rootKey (data.take 40) = some key →
        Gives (.provCmdDone p true true true true) s fun t => writes key t) ∧
      (∀ key, op = 3 → keyUnwrap kwDefault (s.kslot (sk 0 0)).key (data.take 40) = some key →
        Gives (.provCmdDone p true true true true) s fun t => writes key t) ∧
      (op = 4 → arg = 0 → s.curRec = none → Gives (.provCmdDone p true true true true) s fun t => ends 6 t ∧ t.flash = s.flash))

/-- Cipher jobs, flows, seals and the command registers of MACsec and the seals. A job starts for the hart that stores START, ends with
its result, denied where its window is; a CMAC job stores its tag; a flow seals the frame and sends it on; SA_CMD, PROF_CMD and FV_CMD
read and write an entry; a beacon takes the next freshness value (R520, R523 to R525, R531 to R535, R547 to R549). -/
def Obligations.CiphersAndSeals : Prop :=
  ∀ (s u : State) (w : Sender) (ag : Agent) (mem : List (Nat × Nat)) (p c i v : Nat), p < 4 → c < 4 → i < 4096 →
    let x := BitVec.ofNat 48 v
    let ok := fun (t : State) => t.out = endOut w .ok u.out
    let bad := fun (t : State) => t.out = endOut w .badValue u.out
    (∀ q co h, ag = .fw p q co h → Reaches (.ciphJobStart w mem p c v) s ag u →
      u.job (jobKey p c) = none → fget x CIPH.JOB.DESC % 64 = 0 → u.enabled p 0x69 = true →
      Gives (.ciphJobStart w mem p c v) s fun t => ok t ∧
        t.job (jobKey p c) = some { desc := fget x CIPH.JOB.DESC, part := q, core := co, asked := u.edges } ∧
        Holds t (CIPH.JOB_STAT p c) (word [(CIPH.JOB_STAT.RESULT, 1), (CIPH.JOB_STAT.PART, q)])) ∧
    (p < s.x → s.prismUp = true → ∀ (j : CipherJob) (fault : Bool), s.job (jobKey p c) = some j →
      let ends := fun (n : Nat) (t : State) => t.job (jobKey p c) = none ∧ t.fld (CIPH.JOB_STAT p c) CIPH.JOB_STAT.RESULT = n ∧
        Counted (CIPH.CNT p 0) 1 s t ∧ bit (t.reg (CIPH.EVT p)) 2 = true
      let d := fun n => s.memWord p (j.desc + 8 * n) % 2 ^ 48
      let w0 := BitVec.ofNat 48 (d 0)
      let slot := fget w0 ⟨3, 10⟩
      let n := fget w0 ⟨29, 16⟩
      let tag := if fget w0 ⟨13, 4⟩ = 0 then 16 else fget w0 ⟨13, 4⟩
      (s.windowOk p j.part j.desc 64 45 = false → Gives (.ciphJobDone p c fault) s fun t => ends 9 t ∧ t.mem = s.mem) ∧
      (s.windowOk p j.part j.desc 64 45 = true → (fget w0 ⟨0, 3⟩ = 0 ∨ fget w0 ⟨0, 3⟩ = 7) → Gives (.ciphJobDone p c fault) s fun t =>
        ends 5 t ∧ t.mem = s.mem) ∧
      (∀ key, s.windowOk p j.part j.desc 64 45 = true → fget w0 ⟨0, 3⟩ = 5 → 4 ≤ tag → fget w0 ⟨18, 11⟩ = 0 →
        s.keyUse p slot 0 (some 0) none (some j.part) = .ok key → s.jobMem p j.part (d 2 % 2 ^ 40) n 45 = true →
        s.jobMem p j.part (d 4 % 2 ^ 40) tag 46 = true →
        (Gives (.ciphJobDone p c true) s fun t => ends 8 t ∧ t.mem = s.mem) ∧
        Gives (.ciphJobDone p c false) s fun t => ends 2 t ∧
          let l := octets ((cmac key (nats (s.memRead p (d 2 % 2 ^ 40) n))).take tag)
          ∀ a, t.memByte p a = if d 4 % 2 ^ 40 ≤ a ∧ a < d 4 % 2 ^ 40 + l.length then l.getD (a - d 4 % 2 ^ 40) 0 else s.memByte p a)) ∧
    (p < s.x → s.prismUp = true → s.enabled p 0x69 = true → ∀ q r, s.waits p 61 (fun _ => true) = some (q, r) →
      let z := s.afterTake p 61 fun _ => true
      let g := qFlow q
      let prof := s.fld (CIPH.FLOW p g) CIPH.FLOW.PROFILE
      let e := z.fresh (pk p prof)
      let payload := (r.fr.data.drop 18).take (r.fr.data.length - 22)
      let f := z.epoch * 2 ^ 32 + e.ctr
      (s.fld (CIPH.FLOW p g) CIPH.FLOW.OP = 0 → ∀ fault, Gives (.cipherFlow p fault) s fun t =>
        Counted (CIPH.CNT p 5) 1 z t ∧ t.sec = z.sec ∧ t.buf (fk p 61) = z.buf (fk p 61)) ∧
      (s.fld (CIPH.FLOW p g) CIPH.FLOW.OP = 1 → r.fr.bus = true ∨ s.flowProf p prof = false → ∀ fault,
        Gives (.cipherFlow p fault) s fun t => Counted (CIPH.CNT p 4) 1 z t ∧ t.sec = z.sec ∧ t.buf (fk p 61) = z.buf (fk p 61)) ∧
      (∀ key, s.fld (CIPH.FLOW p g) CIPH.FLOW.OP = 1 → r.fr.bus = false → s.flowProf p prof = true → z.enabled p 0x6B = true →
        z.profUse p prof 0 = true → z.epochOk = true → e.ctr < 2 ^ 32 - 1 →
        z.keyUse p (fget (z.prof p prof 0) SEAL.PROF_W0.SLOT) 1 (some 0) none none = .ok key →
        Gives (.cipherFlow p false) s fun t => Counted (CIPH.CNT p 2) 1 z t ∧ Counted (SEAL.CNT p 0) 1 z t ∧
          t.fresh (pk p prof) = { e with ctr := e.ctr + 1 } ∧
          let tag := (cmac key (sealMessage (fget (z.prof p prof 1) SEAL.PROF_W1.DATA_ID) 0 f payload)).take (z.profTag p prof)
          let b := r.fr.data.take 18 ++ (payload ++ octets (sealTrailer 16 32 f ++ tag))
          ∃ rx, t.buf (fk p 61) = z.buf (fk p 61) ++ [rx] ∧ rx.fr.data = b ++ fcsOf b)) ∧
    (let n := fget x MSEC.SA_CMD.INDEX
     let sc := fget x MSEC.SA_CMD.SC = 1
     let regs := [u.reg (MSEC.SA_W0 p), u.reg (MSEC.SA_W1 p), u.reg (MSEC.SA_W2 p), u.reg (MSEC.SA_W3 p), u.reg (MSEC.SA_W4 p)]
     let result := fun (n : Nat) (t : State) => t.fld (MSEC.SA_CMD p) MSEC.SA_CMD.RESULT = n
     (Reaches (.saCmdRead w p v) s ag u →
       (n < (if sc then 108 else 432) → Gives (.saCmdRead w p v) s fun t => ok t ∧ result 0 t ∧ t.tbls = u.tbls ∧
         Holds t (MSEC.SA_W0 p) (u.tbl p (if sc then scTbl else saTbl) n 0) ∧
         Holds t (MSEC.SA_W1 p) (u.tbl p (if sc then scTbl else saTbl) n 1) ∧
         (¬sc → Holds t (MSEC.SA_W2 p) (u.tbl p saTbl n 2) ∧ Holds t (MSEC.SA_W3 p) (u.tbl p saTbl n 3) ∧
           Holds t (MSEC.SA_W4 p) (u.tbl p saTbl n 4))) ∧
       ((if sc then 108 else 432) ≤ n → Gives (.saCmdRead w p v) s fun t => bad t ∧ result 2 t ∧ t.tbls = u.tbls)) ∧
     (Reaches (.saCmdWrite w p v) s ag u →
       (sc → n < 108 → Gives (.saCmdWrite w p v) s fun t => ok t ∧ result 0 t ∧ t.tbl p scTbl n 0 = u.reg (MSEC.SA_W0 p) ∧
         t.tbl p scTbl n 1 = u.reg (MSEC.SA_W1 p) &&& 0x1FFFF) ∧
       (¬sc → n < 432 → u.saRefused p n regs = false → Gives (.saCmdWrite w p v) s fun t => ok t ∧ result 0 t ∧
         t.tbl p saTbl n 0 = u.reg (MSEC.SA_W0 p) &&& 0xFFFFFFFF07FF ∧ t.tbl p saTbl n 1 = u.reg (MSEC.SA_W1 p) ∧
         t.tbl p saTbl n 2 = u.reg (MSEC.SA_W2 p) &&& 0xFFFF ∧ t.tbl p saTbl n 3 = u.reg (MSEC.SA_W3 p) ∧
         t.tbl p saTbl n 4 = u.reg (MSEC.SA_W4 p)) ∧
       ((if sc then 108 else 432) ≤ n ∨ (¬sc ∧ u.saRefused p n regs = true) → Gives (.saCmdWrite w p v) s fun t => bad t ∧ result 2 t ∧
         t.tbls = u.tbls))) ∧
    (let n := fget x SEAL.PROF_CMD.INDEX
     let w0 := u.reg (SEAL.PROF_W0 p)
     let w1 := u.reg (SEAL.PROF_W1 p)
     let w2 := u.reg (SEAL.PROF_W2 p)
     (Reaches (.profCmdRead w p v) s ag u → Gives (.profCmdRead w p v) s fun t => ok t ∧
       t.fld (SEAL.PROF_CMD p) SEAL.PROF_CMD.RESULT = 0 ∧ Holds t (SEAL.PROF_W0 p) (u.prof p n 0) ∧
       Holds t (SEAL.PROF_W1 p) (u.prof p n 1) ∧ Holds t (SEAL.PROF_W2 p) (u.prof p n 2) ∧ t.tbls = u.tbls) ∧
     (Reaches (.profCmdWrite w p v) s ag u →
       (u.profRefused p w0 w1 w2 = false → Gives (.profCmdWrite w p v) s fun t => ok t ∧
         t.fld (SEAL.PROF_CMD p) SEAL.PROF_CMD.RESULT = 0 ∧ t.prof p n 0 = w0 ∧ t.prof p n 1 = w1 ∧ t.prof p n 2 = w2 ∧
         t.fresh (pk p n) = { u.fresh (pk p n) with ref := none, seen := [] }) ∧
       (u.profRefused p w0 w1 w2 = true → Gives (.profCmdWrite w p v) s fun t => bad t ∧
         t.fld (SEAL.PROF_CMD p) SEAL.PROF_CMD.RESULT = 2 ∧ t.tbls = u.tbls ∧ t.sec = u.sec))) ∧
    (let n := fget x SEAL.FV_CMD.INDEX
     let e := u.fresh (pk p n)
     let rx := fget (u.prof p n 0) SEAL.PROF_W0.DIR = 1
     (Reaches (.fvCmdRead w p v) s ag u → Gives (.fvCmdRead w p v) s fun t => ok t ∧
       t.fld (SEAL.FV_CMD p) SEAL.FV_CMD.RESULT = 0 ∧
       (rx → t.fld (SEAL.FV_CMD p) SEAL.FV_CMD.HAVE_REF = b2n e.ref.isSome ∧ Holds t (SEAL.FV_W p) (BitVec.ofNat 48 (e.ref.getD 0))) ∧
       (¬rx → t.fld (SEAL.FV_CMD p) SEAL.FV_CMD.HAVE_REF = 0 ∧
         Holds t (SEAL.FV_W p) (BitVec.ofNat 48 (u.epoch * 2 ^ 32 + e.ctr)))) ∧
     (Reaches (.fvCmdClearRef w p v) s ag u →
       (rx → Gives (.fvCmdClearRef w p v) s fun t => ok t ∧ t.fresh (pk p n) = { e with ref := none, seen := [] } ∧
         t.fld (SEAL.FV_CMD p) SEAL.FV_CMD.RESULT = 0) ∧
       (¬rx → Gives (.fvCmdClearRef w p v) s fun t => bad t ∧ t.sec = u.sec ∧ t.fld (SEAL.FV_CMD p) SEAL.FV_CMD.RESULT = 2))) ∧
    (let e := s.fresh (pk p i)
     ∀ key, p < s.x → s.prismUp = true → s.start.canDone = true → s.profUse p i 0 = true → bit (s.prof p i 0) 27 = true →
       s.enabled p 0x6B = true → s.epochOk = true → e.ctr < 2 ^ 32 - 1 →
       e.beaconAt.all (fun t => s.pastMs t (fget (s.prof p i 1) SEAL.PROF_W1.BEACON_MS)) = true →
       s.keyUse p (fget (s.prof p i 0) SEAL.PROF_W0.SLOT) 3 (some 0) none none = .ok key →
       Gives (.sealBeacon p i false) s fun t => t.fresh (pk p i) = { e with ctr := e.ctr + 1, beaconAt := some s.edges } ∧ Counted (SEAL.CNT p 1) 1 s t ∧
         let f := s.epoch * 2 ^ 32 + e.ctr
         let tag := (cmac key (sealMessage (fget (s.prof p i 1) SEAL.PROF_W1.DATA_ID) 1 f [])).take (s.profTag p i)
         ∃ rx, t.buf (fk p 59) = s.buf (fk p 59) ++ [rx] ∧ rx.fr.dest = fget (s.prof p i 2) SEAL.PROF_W2.BEACON_DEST ∧
           (rx.fr.data.drop 16).take (6 + tag.length) = octets (bytesOf 6 f ++ tag))

/-- Supervision and ownership of a pair. Every up link facet carries a heartbeat; one received sets what PAIR knows of its partner; the
loss of the link and the decision table set the state and the claims, PAIR_JOIN ends them; a claim waits, pulls the line and probes;
witnesses leave and are taken (R552, R554, R555, R565, R566, R570, R571). -/
def Obligations.PairSupervision : Prop :=
  ∀ s : State, s.prismUp = true →
    let u := s.io.pair
    let now := s.time 0
    let partner := s.fld (PAIR.CFG 0) PAIR.CFG.PARTNER
    let apart := u.st = .alone ∨ u.st = .split ∨ u.st = .partnerLost
    let bits := fun (l : List Nat) (t : State) => ∀ i ∈ l, bit (t.reg (PAIR.EVT 0)) i = true
    -- the decision table (R570): does the unit claim, and is it SPLIT?
    let claims := fun (line : Bool) =>
      !u.pulls && !line && (if s.witnessHeard then s.role == 0 else true)
    let split := fun (line : Bool) => if s.witnessHeard then true else !u.pulls && line
    let decided := fun (line : Bool) (st : PairSt) (t : State) =>
      t.io.pair.st = st ∧ t.io.pair.theirs = (line && !u.pulls) ∧ t.io.pair.owner = u.owner ∧
        (u.claim = .none → t.io.pair.claim = if claims line = true ∧ u.owner = false then .wait now else .none) ∧
        (∀ x, u.claim = .wait x → t.io.pair.claim = if claims line = true then .wait x else .none)
    (let up := s.pairFacets.filter fun g => !s.facetDown (g / 64) (g % 64)
     let beat := u.lastBeat.getD (0, 0)
     let h := s.ezHeader 5 1 0 partner (s.plx.sent % 2 ^ 32)
       (beBytes 1 0 ++ beBytes 2 s.devId ++ beBytes 1 (s.role + 2 * u.st.code + 16 * b2n u.owner) ++ beBytes 6 now ++
         beBytes 6 beat.1 ++ beBytes 6 beat.2)
     ∀ g rest da key, up = g :: rest → (∀ i ∈ up, i % 64 < 32) → s.pairOn = true → s.plxOn = true → s.epochOk = true →
       s.partnerMac = some da → s.ezSlot ≠ 0 → s.keyUse 0 s.ezSlot 5 (some 0) none none = .ok key →
       u.beatAt.all (fun x => Nat.ble 1000000 (s.leadNs x)) = true →
       Gives .pairHeartbeatSend s fun t => t.plx.sent = s.plx.sent + up.length ∧ t.io.pair = { u with beatAt := some now } ∧
         ∃ rx more, t.buf (fk 0 63) = s.buf (fk 0 63) ++ rx :: more ∧ more.length = rest.length ∧
           rx.fr.data = ezFrame da (s.reg (ETH.MATCH (g / 64) (g % 64) 0)).toNat (h ++ octets ((cmac key (nats h)).take 8))) ∧
    (∀ e rest, let m := ezParse e
      let z := s.ezTaken 5 m rest
      let l0 := s.fld (PAIR.CFG 0) PAIR.CFG.LINK_FACET_0
      let l1 := s.fld (PAIR.CFG 0) PAIR.CFG.LINK_FACET_1
      s.ezFirst 5 e rest → s.ezTakes 5 m → s.epochOk = true → s.pairOn = true → m.at 0 1 = 0 → m.at 1 2 = partner →
      (m.facet = l0 ∨ m.facet = l1) →
      (m.at 3 1 % 2 = s.role → Gives (.pairHeartbeatReceive false) s fun t => Logged (PAIR.EVT 0) 10 z t ∧ t.io.pair = u) ∧
      (m.at 3 1 % 2 ≠ s.role → Gives (.pairHeartbeatReceive false) s fun t =>
        (m.facet = l0 → t.io.pair.link0 = some now) ∧ (m.facet = l1 → t.io.pair.link1 = some now) ∧
        t.io.pair.lastBeat = some (m.at 4 6, m.ts) ∧ t.io.pair.pState = m.at 3 1 / 2 % 8 ∧
        t.io.pair.pOwner = (m.at 3 1 / 16 % 2 == 1) ∧
        (exchange (m.at 10 6) (m.at 16 6) (m.at 4 6) m.ts = none → t.io.pair.trips = u.trips) ∧
        ∀ x, exchange (m.at 10 6) (m.at 16 6) (m.at 4 6) m.ts = some x →
          t.io.pair.trips.getLast? = some (now, x.1, x.2) ∧ Holds t (PAIR.OFFSET 0) (BitVec.ofNat 48 (ofSigned 48 x.2)))) ∧
    (∀ line, u.st = .joined → s.pairUp = false → Gives (.pairLinkLoss line) s fun t =>
      decided line (if split line then .split else .partnerLost) t ∧ t.io.pair.upSince = none ∧
        bits [0, if split line then 1 else 2] t ∧ Counted (PAIR.CNT 0 (if split line then 11 else 12)) 1 s t) ∧
    (∀ line, apart → s.pairUp = false → Gives (.pairDecide line) s fun t =>
      decided line (if u.st = .alone then .alone else if split line then .split else .partnerLost) t) ∧
    (∀ line x, apart → s.pairUp = true → u.upSince = some x → 100000000 ≤ s.leadNs x → Gives (.pairJoin line) s fun t =>
      t.io.pair.st = .joined ∧ bits [3] t ∧
        (u.owner = true → u.pOwner = true → s.role = 1 → t.io.pair.owner = false ∧ t.io.pair.pulls = false ∧ bits [5, 6] t) ∧
        (u.owner = true → (u.pOwner = false ∨ s.role = 0) → t.io.pair.owner = true) ∧
        (u.owner = false → u.pOwner = false → u.pulls = false → line = false → s.role = 0 →
          t.io.pair.pulls = true ∧ t.io.pair.claim = .pulled now 0 false)) ∧
    (∀ x, u.claim = .wait x →
      let wait := s.fld (PAIR.TIMING 0) PAIR.TIMING.CLAIM_MS + 20 * s.role
      (Gives (.claimWaitEnd true) s fun t => t.io.pair = { u with theirs := !u.pulls, claim := .none }) ∧
      (wait * 1000000 ≤ s.leadNs x → Gives (.claimWaitEnd false) s fun t =>
        t.io.pair = { u with theirs := false, pulls := true, claim := .pulled now 0 false }) ∧
      (s.leadNs x < wait * 1000000 → Gives (.claimWaitEnd false) s fun t => t.io.pair = u)) ∧
    (∀ x n low, u.claim = .pulled x n low →
      (low = true ∨ n = 3 → Gives (.claimProbe false) s fun t =>
        t.io.pair.owner = true ∧ t.io.pair.pulls = true ∧ t.io.pair.claim = .none ∧ bits [4] t ∧ Counted (PAIR.CNT 0 9) 1 s t) ∧
      (low = false → n ≠ 3 → Gives (.claimProbe false) s fun t => t.io.pair = { u with claim := .pulled x (n + 1) false }) ∧
      (s.role = 1 → Gives (.claimProbe true) s fun t => t.io.pair = { u with pulls := false, theirs := true, claim := .none } ∧
        Logged (PAIR.EVT 0) 6 s t ∧ Counted (PAIR.CNT 0 10) 1 s t) ∧
      (s.role = 0 → low = true → 10000000 ≤ s.leadNs x → Gives (.claimProbe true) s fun t =>
        t.io.pair = { u with pulls := false, theirs := true, claim := .wait now } ∧ Logged (PAIR.EVT 0) 6 s t) ∧
      (s.role = 0 → low = false ∨ s.leadNs x < 10000000 → Gives (.claimProbe true) s fun t =>
        t.io.pair = { u with claim := .pulled (if low then x else now) n true })) ∧
    (let g := s.fld (PAIR.WIT 0) PAIR.WIT.WIT_FACET
     let id := s.fld (PAIR.WIT 0) PAIR.WIT.WIT_ID
     s.pairOn = true → g ≠ 0 →
     (u.witAt.all (fun x => Nat.ble s.witNs (s.leadNs x)) = true → Gives .witnessSend s fun t =>
       t.io.pair = { u with witNo := u.witNo + 1, witAt := some now } ∧ Counted (PAIR.CNT 0 13) 1 s t ∧
       ∃ rx, t.buf (fk 0 63) = s.buf (fk 0 63) ++ [rx] ∧ rx.fr.bus = true ∧ rx.fr.dest = globalQueue (g / 64) (queueNo (g % 64) 7 30) ∧
         rx.fr.data = mkBus 0 (id + s.role) 128 8 0 0 0 0
           (beBytes 2 s.devId ++ beBytes 1 u.st.code ++ beBytes 1 (b2n u.owner) ++ beBytes 4 (u.witNo % 2 ^ 32))) ∧
     ∀ p c b, p < s.x → c < 16 → globalFacet p (32 + c) = g → bfFormat b = 0 → bfFlag b 7 = true →
       bfId b = id + (1 - s.role) → bytesAt (bfData b) 0 2 = partner →
       Gives (.witnessReceive p c b) s fun t => t.io.pair = { u with witness := some now } ∧ t.regs = s.regs)

/-- Handover, silent paths and the pairing tables. HANDOVER and AUTO_HANDOVER send a GRANT where the owner may; the partner answers it;
at t_s it owns, and the old owner probes the line and keeps or leaves ownership; a sweep finds the silent path of an armed entry;
TBL_CMD reads and writes an entry (R561, R567, R568, R576, R578). -/
def Obligations.HandoverAndPairTables : Prop :=
  ∀ (s a : State) (w : Sender) (ag : Agent) (p v : Nat), p < 4 →
    let x := BitVec.ofNat 48 v
    let u := s.io.pair
    let now := s.time 0
    let bits := fun (l : List Nat) (t : State) => ∀ i ∈ l, bit (t.reg (PAIR.EVT 0)) i = true
    let offers := fun (r : State) (t : State) =>
      t.io.pair.hand = .gives ((r.time 0 + r.fld (PAIR.TIMING 0) PAIR.TIMING.LEAD_US * 1000) % 2 ^ 48) false ∧
        t.fld (PAIR.CMD 0) PAIR.CMD.RESULT = 1 ∧ t.io.pair.wants = false
    (Reaches (.handover w false v) s ag a →
      (a.fld (PAIR.CMD 0) PAIR.CMD.RESULT = 1 → Gives (.handover w false v) s fun t =>
        t.out = endOut w .badValue a.out ∧ t.io.pair = a.io.pair ∧ t.reg (PAIR.CMD 0) = a.reg (PAIR.CMD 0)) ∧
      (a.fld (PAIR.CMD 0) PAIR.CMD.RESULT ≠ 1 → a.mayHand = true → Gives (.handover w false v) s fun t =>
        t.out = endOut w .ok a.out ∧ offers a t) ∧
      (a.fld (PAIR.CMD 0) PAIR.CMD.RESULT ≠ 1 → a.mayHand = false → Gives (.handover w false v) s fun t =>
        t.out = endOut w .ok a.out ∧ t.io.pair = a.io.pair ∧ t.fld (PAIR.CMD 0) PAIR.CMD.RESULT = 3)) ∧
    (u.wants = true →
      let auto := s.mayHand = true ∧ s.flag (PAIR.CFG 0) PAIR.CFG.AUTO_HANDOVER = true ∧ s.fld (PAIR.CMD 0) PAIR.CMD.RESULT ≠ 1
      (auto → Gives (.handover w true v) s (offers s)) ∧
      (¬auto → Gives (.handover w true v) s fun t => t.io.pair = { u with wants := false } ∧ t.regs = s.regs)) ∧
    (s.prismUp = true →
      (∀ e rest, let m := ezParse e
        let z := s.ezTaken 5 m rest
        let theirs := m.at 1 6
        let ts := (theirs + 2 ^ 48 - (s.reg (PAIR.OFFSET 0)).toNat) % 2 ^ 48
        let may := u.st = .joined ∧ u.owner = false ∧ s.offsetValid = true ∧ u.hand = .none ∧ 20000 ≤ s.untilNs ts
        let claim := (s.pairedTurnOns.map fun i => s.chClaim i.1 i.2).sum
        let granted := claim = 0 ∨ s.admOn = false ∨ (s.io.waits = [] ∧ s.admits claim = true)
        s.ezFirst 5 e rest → s.ezTakes 5 m → s.epochOk = true → s.pairOn = true → m.at 0 1 = 1 →
        (may → granted → Gives (.grantReceive false) s fun t => t.io.pair = { u with hand := .takes ts theirs true true }) ∧
        (may → ¬granted → Gives (.grantReceive false) s fun t => t.io.pair = { u with hand := .takes ts theirs false false } ∧
          t.io.waits = s.io.waits ++ [{ chan := none, claim := claim, since := now }] ∧ Counted (WAKE.CNT 0 10) 1 z t) ∧
        (¬may → u.hand = .none → Gives (.grantReceive false) s fun t => t.io.pair = u ∧ t.io.waits = s.io.waits)) ∧
      (∀ ts theirs granted, u.hand = .takes ts theirs granted true → s.untilNs ts ≤ 0 → Gives .handoverSwitch s fun t =>
        t.io.pair.owner = true ∧ t.io.pair.pulls = true ∧ t.io.pair.theirs = false ∧ t.io.pair.claim = .none ∧
          t.io.pair.hand = .none ∧ bits [4] t ∧
          ∀ i ∈ s.pairedTurnOns, (s.supply i.1).ovOpen = false → s.enabled (4 + i.1) (8 + i.2) = true →
            (t.chan (xc i.1 i.2)).drives = true) ∧
      (∀ ts declined, u.hand = .gives ts declined →
        s.untilNs ts + (s.fld (PAIR.TIMING 0) PAIR.TIMING.OVERLAP_US : Int) * 1000 ≤ 0 →
        let keeps := fun (r : Nat) (t : State) => t.io.pair = { u with hand := .none } ∧ bits [7] t ∧
          t.fld (PAIR.CMD 0) PAIR.CMD.RESULT = r
        (s.plx.inbox = [] → (Gives (.handoverProbe true) s fun t =>
            t.io.pair.owner = false ∧ t.io.pair.pulls = false ∧ t.io.pair.theirs = true ∧ t.io.pair.hand = .none ∧
              (u.owner = true → bits [5] t) ∧ Counted (PAIR.CNT 0 7) 1 s t ∧ t.fld (PAIR.CMD 0) PAIR.CMD.RESULT = 2) ∧
          Gives (.handoverProbe false) s fun t => keeps (if declined then 4 else 5) t ∧ Counted (PAIR.CNT 0 8) 1 s t) ∧
        ∀ e, let m := ezParse e
          s.ezFirst 5 e [] → s.ezTakes 5 m → s.epochOk = true → s.pairOn = true → m.at 0 1 = 3 → m.at 1 6 = ts →
          Gives (.handoverProbe false) s (keeps 4)) ∧
      (p < s.x →
        let l := (s.seqEntries p 0x56).filter fun i => bit (s.tbl p 0x56 i 1) 32
        l.Nodup → ∀ i ∈ l,
          let r := s.rcv (1024 * p + i)
          let na := (s.tbl p 0x57 i 0).toNat
          let nb := (s.tbl p 0x57 i 1).toNat
          let ageA := if na = r.seenA then r.ageA + 1 else 0
          let ageB := if nb = r.seenB then r.ageB + 1 else 0
          let n := fget (s.tbl p 0x56 i 1) ⟨33, 10⟩
          let newA := n ≤ ageA ∧ ageB < ageA ∧ (r.toldA && na == r.seenA) = false
          let newB := n ≤ ageB ∧ ageA < ageB ∧ (r.toldB && nb == r.seenB) = false
          Gives (.pathSilentSweep p) s fun t =>
            (t.rcv (1024 * p + i)).seenA = na ∧ (t.rcv (1024 * p + i)).seenB = nb ∧
              (t.rcv (1024 * p + i)).ageA = ageA ∧ (t.rcv (1024 * p + i)).ageB = ageB ∧
              (newA → (t.rcv (1024 * p + i)).toldA = true ∧ bit (t.reg (PAIR.EVT p)) 8 = true) ∧
              (newB → (t.rcv (1024 * p + i)).toldB = true ∧ bit (t.reg (PAIR.EVT p)) 8 = true) ∧
              (l = [i] → (newA → Holds t (PAIR.SILENT_LAST p) (word [(PAIR.SILENT_LAST.ENTRY, i), (PAIR.SILENT_LAST.PATH, 0)])) ∧
                (newB → Holds t (PAIR.SILENT_LAST p) (word [(PAIR.SILENT_LAST.ENTRY, i), (PAIR.SILENT_LAST.PATH, 1)])) ∧
                (¬newA → ¬newB → t.regs = s.regs)))) ∧
    (let tab := fget x PAIR.TBL_CMD.TABLE
     let i := fget x PAIR.TBL_CMD.INDEX
     let result := fun (n : Nat) (t : State) => t.fld (PAIR.TBL_CMD p) PAIR.TBL_CMD.RESULT = n
     (Reaches (.pairTblRead w p v) s ag a →
       (∀ n m, pairTable tab = some (n, m) → i < n → Gives (.pairTblRead w p v) s fun t =>
         (∀ j, j < m → Holds t (PAIR.TBL_W p j) (a.tbl p tab i j)) ∧ t.tbls = a.tbls ∧ result 0 t ∧ t.out = endOut w .ok a.out) ∧
       ((pairTable tab).all (fun e => decide (e.1 ≤ i)) = true → Gives (.pairTblRead w p v) s fun t => t.tbls = a.tbls ∧
         (∀ j, j < 4 → t.reg (PAIR.TBL_W p j) = a.reg (PAIR.TBL_W p j)) ∧ t.out = endOut w .badValue a.out)) ∧
     (Reaches (.pairTblWrite w p v) s ag a →
       (∀ n m, pairTable tab = some (n, m) →
         let e := (List.range m).map fun j => a.reg (PAIR.TBL_W p j)
         (i < n → pairTblBad p tab e = false → Gives (.pairTblWrite w p v) s fun t =>
           (∀ j, j < m → t.tbl p tab i j =
             if tab = 0x55 ∧ j = 2 then 0 else a.reg (PAIR.TBL_W p j) &&& BitVec.ofNat 48 (pairTblMask tab j)) ∧
             (tab = 0x56 → t.rcv (1024 * p + i) = {}) ∧ result 0 t ∧ t.out = endOut w .ok a.out) ∧
         (n ≤ i ∨ pairTblBad p tab e = true → Gives (.pairTblWrite w p v) s fun t =>
           t.tbls = a.tbls ∧ t.sw = a.sw ∧ result 2 t ∧ t.out = endOut w .badValue a.out)) ∧
       (pairTable tab = none → Gives (.pairTblWrite w p v) s fun t => t.tbls = a.tbls ∧ t.out = endOut w .badValue a.out)))

/-- Partial networks. A network wakes on a request or on what is due and falls asleep with its members; keep-alives leave for it and
are seen; a wake-pattern slot serves the first waiting facet; a LIN schedule restarts after its pulse; the request words are written by
those whose they are (R581 to R584, R597, R604). -/
def Obligations.NetworksWakeAndSleep : Prop :=
  ∀ s : State,
    (∀ (u : State) (w : Sender) (ag : Agent) (p k v : Nat), p < 4 → k < 17 → Reaches (.wakeReqWrite w p k v) s ag u →
      let mine := (∃ c h, ag = .fw p k c h ∧ k < 16) ∨ ((ag = .spi ∨ ag = .eth) ∧ k = 16)
      (mine → Gives (.wakeReqWrite w p k v) s fun t => t.out = endOut w .ok u.out ∧
        ∀ i, i < 17 → bit (t.reg (WAKE.REQ p k)) i = bit (BitVec.ofNat 48 v) i) ∧
      (¬mine → Gives (.wakeReqWrite w p k v) s fun t => t.out = endOut w .badValue u.out ∧
        t.reg (WAKE.REQ p k) = u.reg (WAKE.REQ p k) ∧ t.io = u.io)) ∧
    (s.prismUp = true → ∀ k, k < 16 → s.pnOn k = true →
      let n := s.pnet k
      let z := s.io.doze
      let wakes := fun (t : State) => (t.pnet k).awake = true ∧ (t.pnet k).silence = s.edges ∧ (t.pnet k).due = none ∧
        Logged (WAKE.EVT 0) 1 s t ∧ Counted (WAKE.CNT 0 2) 1 s t
      (n.awake = false → s.pnAsked k = true ∨ n.due = some .traffic → Gives (.pnWake k) s fun t => wakes t ∧
        (t.pnet k).hold = n.hold ∧ t.io.doze.patterns = z.patterns ++ (s.pnMembers k).filter s.needsPattern) ∧
      (∀ c, n.awake = false → s.pnAsked k = false → n.due = some c → c ≠ .traffic → Gives (.pnWake k) s fun t => wakes t ∧
        (t.pnet k).hold = some s.edges ∧ t.io.doze.patterns = z.patterns ∧
          ∀ gf ∈ s.pnMembers k, gf % 64 < 32 → z.ethOff.contains gf = true →
            bit (t.reg (BLK_CTRL (gf / 64) (0x20 + gf % 64))) 1 = true) ∧
      (n.awake = true → s.pnAsked k = false → s.pnHeld k = false →
        s.pastMs n.silence (s.fld (WAKE.CFG 0) WAKE.CFG.SILENCE_MS) = true → Gives (.pnSleep k) s fun t =>
          (t.pnet k).awake = false ∧ Logged (WAKE.EVT 0) 2 s t ∧ Counted (WAKE.CNT 0 3) 1 s t ∧
          ∀ gf ∈ s.pnMembers k,
            let p := gf / 64
            let f := gf % 64
            (f < 32 → s.flag (WAKE.PN_CFG 0 k) WAKE.PN_CFG.ETH_OFF = true → s.enabled p (0x20 + f) = true →
              t.enabled p (0x20 + f) = false ∧ t.io.doze.ethOff.contains gf = true) ∧
            (32 ≤ f → f < 48 → (s.can (canKey p (f - 32))).st ≠ .off → (t.can (canKey p (f - 32))).st = .sleep) ∧
            (48 ≤ f → (s.lin (linKey p (f - 48))).st ≠ .off →
              (t.lin (linKey p (f - 48))).goSleep = ((s.lin (linKey p (f - 48))).st != .sleep))) ∧
      (let l := ((s.pnMembers k).filter fun g => s.memberAwake g && !s.slotWait g).filter fun g => !s.facetDown (g / 64) (g % 64)
       s.pnAsked k = true → s.plxOn = true →
       n.kaAt.all (fun x => s.pastMs x (s.fld (WAKE.CFG 0) WAKE.CFG.KA_PERIOD_MS)) = true →
       (∀ gf, l = [gf] → 32 ≤ gf % 64 → s.flag (PLX.CAN_KA 0) PLX.CAN_KA.EN = true → Gives (.keepalivePnSend k) s fun t =>
         Counted (WAKE.CNT 0 7) 1 s t ∧ Counted (PLX.CNT 0 0) 1 s t ∧ ∃ rx, t.buf (fk 0 63) = s.buf (fk 0 63) ++ [rx] ∧
           rx.fr.dest = globalQueue (gf / 64) (queueNo (gf % 64) 7 29) ∧ rx.fr.bus = true ∧ rx.fr.data = s.kaCan) ∧
       (∀ gf da, l = [gf] → gf % 64 < 32 → s.groupMac = some da → s.ezAuth 1 = false → s.epochOk = true →
         Gives (.keepalivePnSend k) s fun t => Counted (WAKE.CNT 0 7) 1 s t ∧ Counted (PLX.CNT 0 0) 1 s t ∧
           ∃ rx, t.buf (fk 0 63) = s.buf (fk 0 63) ++ [rx] ∧
             rx.fr.data = ezFrame da (s.reg (ETH.MATCH (gf / 64) (gf % 64) 0)).toNat
               (s.ezHeader 1 0 (s.fld (PLX.CFG 0) PLX.CFG.HOPS) 0xFFFF (s.plx.sent % 2 ^ 32) s.kaBody))) ∧
      (∀ gf m, gf < 256 → s.pnOf gf = some k → m / 2 ^ k % 2 = 1 → s.memberAwake gf = true → Gives (.keepalivePnSeen gf m) s fun t =>
        Counted (WAKE.CNT 0 8) 1 s t ∧ t.fld (WAKE.PN_STAT 0 k) WAKE.PN_STAT.LAST_KA = gf ∧
          (n.awake = true → (t.pnet k).awake = true ∧ (t.pnet k).silence = s.edges) ∧
          (n.awake = false → (t.pnet k).awake = false ∧ (t.pnet k).due = some (n.due.getD .keepAlive)))) ∧
    (s.prismUp = true → ∀ gf rest, s.io.doze.patterns = gf :: rest →
      let slot := s.time 0 / (s.fld (WAKE.ADM 0) WAKE.ADM.SLOT_MS * 1000000)
      s.io.doze.slot ≠ some slot →
      (s.sagNow = true → Gives .wakePatternSlot s fun t => t.io.doze = { s.io.doze with slot := some slot } ∧ t.regs = s.regs ∧
        t.out = s.out) ∧
      (s.sagNow = false → Gives .wakePatternSlot s fun t => t.io.doze.patterns = rest ∧
        (gf % 64 < 32 → s.io.doze.ethOff.contains gf = true →
          bit (t.reg (BLK_CTRL (gf / 64) (0x20 + gf % 64))) 1 = true ∧ t.io.doze.ethOff.contains gf = false) ∧
        (48 ≤ gf % 64 → t.io.doze.pulses = s.io.doze.pulses ++ [(gf, s.edges)] ∧
          t.out = .linWake (gf / 64) (gf % 64 - 48) (100 * s.fld (WAKE.CFG_B 0) WAKE.CFG_B.LIN_PULSE_US) :: s.out))) ∧
    (s.prismUp = true → ∀ p c n, p < s.x → c < 8 → (globalFacet p (48 + c), n) ∈ s.io.doze.pulses → s.pastMs n 100 = true →
      Gives (.linWakeScheduleRestart p c) s fun t =>
        (∀ e ∈ t.io.doze.pulses, e.1 ≠ globalFacet p (48 + c)) ∧
          ((s.lin (linKey p c)).st = .sleep → (t.lin (linKey p c)).entry = 0 ∧
            (t.lin (linKey p c)).st = if s.linTblLen p c (s.lin (linKey p c)).table = 0 then .stopped else .running))

/-- The consent ring and the entry into sleep. Rounds start, the member that holds the token marks its consent and passes it on, the
origin acts on its return, a lost token is made anew, the SLEEP token puts each member to sleep, and OFF ends service (R585 to R589). -/
def Obligations.ConsentAndSleep : Prop :=
  ∀ s : State, s.prismUp = true →
    let g := s.io.doze.ring
    let starts := fun (ph : Phase) (mask : Nat) (t : State) => t.io.doze.ring =
      { g with
        origin := true, flight := some s.edges, last := some s.edges, phase := some ph, notice := none
        round := (g.round + 1) % 256, consent := mask
        token := some { origin := s.role, round := (g.round + 1) % 256, phase := ph, mask := 0, pos := 0 } }
    let round := s.fld (WAKE.CFG_B 0) WAKE.CFG_B.ROUND_MS
    let own := s.ringDies.length
    (s.ringOn = true → g.flight = none → g.notice = none →
      g.last = none ∨ (∃ n, g.origin = true ∧ g.last = some n ∧ s.pastMs n round = true) →
      Gives .tokenOriginate s fun t => starts .poll g.consent t ∧ t.regs = s.regs) ∧
    (s.ringOn = true →
      (∃ n, g.origin = true ∧ g.flight = some n ∧ s.pastMs n round = true) ∨
        (∃ n, g.origin = false ∧ g.last = some n ∧ s.pastMs n (s.fld (WAKE.CFG_B 0) WAKE.CFG_B.TOKEN_LOST_MS) = true) →
      Gives .tokenLost s fun t => starts .poll g.consent t ∧ Logged (WAKE.EVT 0) 6 s t ∧ Counted (WAKE.CNT 0 6) 1 s t) ∧
    (∀ n, g.origin = true → g.notice = some n → s.pastMs n (s.fld (WAKE.CFG_B 0) WAKE.CFG_B.NOTICE_MS) = true →
      Gives .noticeEnd s fun t => starts .go g.consent t ∧ t.regs = s.regs) ∧
    (∀ tok f, g.token = some tok → tok.phase ≠ .sleep → tok.pos < own → s.ringDies[tok.pos]? = some f →
      let ok := s.consents f
      (4 ≤ f → s.dlinkDown (f - 4) = true → Gives .tokenPass s fun t => t.io.doze.ring = { g with token := none } ∧ t.regs = s.regs) ∧
      ((4 ≤ f → s.dlinkDown (f - 4) = false) →
      let ph := if ok = false ∧ (tok.phase = .commit ∨ tok.phase = .go) then .abort else tok.phase
      Gives .tokenPass s fun t =>
        (tok.pos + 1 < own ∨ s.io.pair.st ≠ .joined →
          t.io.doze.ring.token = some { tok with mask := putBit tok.mask (s.ringBit f) ok, phase := ph, pos := tok.pos + 1 }) ∧
        (tok.pos + 1 = own → s.io.pair.st = .joined → t.io.doze.ring.token = none) ∧
        (f = 0 → t.io.doze.ring.round = tok.round ∧ t.io.doze.ring.last = some s.edges ∧
          t.io.doze.ring.phase = (if ph = .abort then none else some ph) ∧ (ph = .commit → Logged (WAKE.EVT 0) 3 s t) ∧
          (ph = .abort → Logged (WAKE.EVT 0) 4 s t ∧ Counted (WAKE.CNT 0 4) 1 s t)) ∧
        (f ≠ 0 → tok.pos + 1 < own → t.regs = s.regs))) ∧
    (∀ e rest, let m := ezParse e
      s.ezFirst 5 e rest → s.ezTakes 5 m → s.epochOk = true → s.pairOn = true → m.at 0 1 = 4 → g.token = none →
      (s.role = 1 → m.at 1 1 ≠ 1 → Gives .tokenPass s fun t => t.io.doze.ring.origin = false ∧ t.io.doze.ring.flight = none ∧
        (m.token.phase = .sleep → t.io.doze.ring.token = some m.token)) ∧
      (m.at 1 1 = s.role → g.origin = true → m.token.round = g.round → Gives .tokenReturn s fun t =>
        t.io.doze.ring.consent = m.token.mask)) ∧
    (∀ tok, g.token = some tok → tok.pos = own → tok.origin = s.role →
      let whole := Nat.land tok.mask s.ringPresent = s.ringPresent
      let back := { g with token := none, flight := none, consent := tok.mask }
      (whole → tok.phase = .poll → Gives .tokenReturn s (starts .commit tok.mask)) ∧
      (whole → tok.phase = .commit → Gives .tokenReturn s fun t => t.io.doze.ring = { back with notice := some s.edges }) ∧
      (whole → tok.phase = .go → Gives .tokenReturn s (starts .sleep tok.mask)) ∧
      (¬whole → (tok.phase = .poll ∨ tok.phase = .commit ∨ tok.phase = .go) → Gives .tokenReturn s fun t =>
        t.io.doze.ring = { back with phase := none }) ∧
      (tok.phase = .abort → g.phase ≠ none → Gives .tokenReturn s fun t =>
        t.io.doze.ring = { back with phase := none, notice := none } ∧ Logged (WAKE.EVT 0) 4 s t ∧
          Counted (WAKE.CNT 0 4) 1 s t)) ∧
    (∀ tok f, g.token = some tok → tok.phase = .sleep → s.ringDies[tok.pos]? = some f → s.io.stage ≠ .asleep →
      (4 ≤ f → s.dlinkDown (f - 4) = false) → Gives .sleepEntry s fun t =>
        (f = 0 → Counted (WAKE.CNT 0 0) 1 s t) ∧
        (f < 4 → (∀ i, i < 32 → bit (t.reg (BLK_CTRL f (0x20 + i))) 1 = false) ∧ t.wpost f = []) ∧
        (4 ≤ f → (t.supply (f - 4)).chanOn = false ∧ t.reg (WKP.CAUSE (f - 4)) = 0 ∧ (t.drv (f - 4)).hbTimer = none ∧
          (t.drv (f - 4)).seen = 0) ∧
        (tok.pos + 1 < own → t.io.doze.ring.token = some { tok with pos := tok.pos + 1 } ∧
          t.io.stage = if f = 0 then .entering else s.io.stage) ∧
        (tok.pos + 1 = own → t.io.stage = .passed)) ∧
    (s.io.stage = .passed → Gives .sleepOff s fun t => t.io.stage = .asleep ∧ t.io.offAt = s.edges ∧ t.seq.stage = .off ∧
      t.seq.enCore = false ∧ t.seq.enIo = false ∧ t.seq.enMem = false ∧ t.tbls = [] ∧ t.mem = [] ∧ t.lockedRegs = [] ∧
      t.reg (RSTC.CAUSE 0) = s.reg (RSTC.CAUSE 0))

/-- Wake sources. A source that asserts is latched and wakes a sleeping package; a transceiver looks for its pattern or frame; the cold
start waits for the supply; a wake is confirmed or judged invalid, and a source with many invalid wakes is disarmed until it rearms
(R590, R591, R593 to R596). -/
def Obligations.WakeSourcesAndValidity : Prop :=
  ∀ s : State,
    let now := s.edges
    let asleep := s.io.stage ≠ .awake
    let latched := fun (d src : Nat) (t : State) =>
      (s.flag (WKP.CAUSE d) WKP.CAUSE.VALID = false →
        Holds t (WKP.CAUSE d) (word [(WKP.CAUSE.SRC, src), (WKP.CAUSE.DIE, 0), (WKP.CAUSE.VALID, 1)])) ∧
      (d ≠ 0 → s.flag (WKP.CAUSE 0) WKP.CAUSE.VALID = false →
        Holds t (WKP.CAUSE 0) (word [(WKP.CAUSE.SRC, src), (WKP.CAUSE.DIE, d), (WKP.CAUSE.VALID, 1)])) ∧
      (asleep → Logged (WKP.EVT d) 0 s t ∧ t.io.wakeUp = true)
    (∀ d src, d < s.y → src = 12 ∨ src = 13 ∨ (16 ≤ src ∧ src < 40) →
      (s.srcArmed d src = true → Gives (.wakeSource d src true) s fun t => latched d src t ∧
        (t.drv d).asserted = putBit (s.drv d).asserted src true ∧ (t.drv d).seen = putBit (s.drv d).seen src true) ∧
      (s.srcArmed d src = false → Gives (.wakeSource d src true) s fun t =>
        (t.drv d).asserted = putBit (s.drv d).asserted src true ∧ t.regs = s.regs ∧ t.io.wakeUp = s.io.wakeUp) ∧
      (Gives (.wakeSource d src false) s fun t =>
        (t.drv d).asserted = putBit (s.drv d).asserted src false ∧ t.regs = s.regs ∧ t.io.wakeUp = s.io.wakeUp)) ∧
    (let n := s.fld (WKP.TIMER 0) WKP.TIMER.SECONDS
     s.io.stage = .asleep → n ≠ 0 → s.io.offAt + n * 32768 ≤ now → s.srcArmed 0 14 = true → Gives .wakeTimer s (latched 0 14)) ∧
    (∀ v, s.io.stage = .asleep → s.io.wakeUp = true →
      let th := s.fld (WKP.START 0) WKP.START.START_TH
      let low := (if th = 0 then s.fld (SUP.THRESH 0) SUP.THRESH.SAG_TH else th) * 10
      (v < low → bit (s.reg (WKP.EVT 0)) 4 = false → Gives (.wakeStart v) s fun t => Logged (WKP.EVT 0) 4 s t ∧ t.io = s.io) ∧
      (low ≤ v → s.pastMs s.io.offAt 10 = false → Gives (.wakeStart v) s fun t => t = s) ∧
      (low ≤ v → s.pastMs s.io.offAt 10 = true →
        let starts := fun (t : State) => t.io.stage = .awake ∧ t.io.jitter = none ∧ t.seq.stage = .core ∧ t.seq.enCore = true
        let most := s.fld (WKP.START 0) WKP.START.JITTER_MS
        (∀ a n, s.io.jitter = some (a, n) → s.pastMs a n = true → Gives (.wakeStart v) s starts) ∧
        (∀ a n, s.io.jitter = some (a, n) → s.pastMs a n = false → Gives (.wakeStart v) s fun t => t = s) ∧
        (s.io.jitter = none → Gives (.wakeStart v) s fun t => ∃ n, n ≤ most ∧
          (n = 0 → starts t) ∧ (n ≠ 0 → t.io = { s.io with jitter := some (now, n) } ∧ t.regs = s.regs)))) ∧
    (∀ d u kind rate b, d < s.y → u < 12 → kind < 3 → s.xcvrHeld d u = false → s.srcArmed d u = true →
      (s.xcvr (xKey d u)).mode = .standby → (s.xcvr (xKey d u)).woken = false →
      let x := s.xcvr (xKey d u)
      let mode := if u < 8 then s.fld (WKP.XCVR_WAKE d) ⟨2 * u, 2⟩ else 1
      let def_ := s.wuf d mode
      let woken := fun (t : State) => latched d u t ∧ (t.xcvr (xKey d u)).woken = true ∧ (t.xcvr (xKey d u)).wokeAt = now
      let limit := s.fld (WKP.XCVR_WAKE d) WKP.XCVR_WAKE.ERR_LIMIT
      (mode = 1 → kind = 0 → Gives (.xcvrWakeDetect d u kind rate b) s woken) ∧
      (2 ≤ mode → kind = 1 → bfFormat b = 0 → wufMatches def_ rate b = true → Gives (.xcvrWakeDetect d u kind rate b) s woken) ∧
      (2 ≤ mode → kind = 1 → bfFormat b = 0 → wufMatches def_ rate b = false → Gives (.xcvrWakeDetect d u kind rate b) s fun t =>
        t.xcvr (xKey d u) = { x with errs := x.errs - 1 } ∧ t.regs = s.regs) ∧
      (2 ≤ mode → kind = 2 → x.errs + 1 ≤ limit → Gives (.xcvrWakeDetect d u kind rate b) s fun t =>
        t.xcvr (xKey d u) = { x with errs := x.errs + 1 } ∧ t.regs = s.regs) ∧
      (2 ≤ mode → kind = 2 → limit < x.errs + 1 → Gives (.xcvrWakeDetect d u kind rate b) s woken)) ∧
    (∀ d u, d < s.y → u < 12 → (s.xcvr (xKey d u)).woken = true → s.pastMs (s.xcvr (xKey d u)).wokeAt 150 = true →
      Gives (.wakeFailsafe d u) s fun t => (t.xcvr (xKey d u)).mode = .standby ∧ (t.xcvr (xKey d u)).woken = false ∧
        bit (t.reg (WKP.EVT d)) 1 = true ∧ (∀ e ∈ (t.drv d).awaited, e.1 ≠ u) ∧
        ∀ j ∈ t.io.doze.judges, ¬(j.die = d ∧ j.src = u)) ∧
    (∀ (a : State) (w : Sender) (ag : Agent) (p v : Nat), p < 4 → Reaches (.confirm w p v) s ag a →
      Gives (.confirm w p v) s fun t => t.out = endOut w .ok a.out ∧ t.io.doze.judges = [] ∧
        ((∃ j ∈ a.io.doze.judges, j.pn = none) → t.fld (WAKE.CAUSE 0) WAKE.CAUSE.VALID_STATE = 1)) ∧
    (let late := fun (j : WakeJudge) => s.pastMs j.since (s.fld (WAKE.CFG_B 0) WAKE.CFG_B.CONFIRM_MS)
     Gives .wakeValidityTimeout s fun t => t.io.doze.judges = s.io.doze.judges.filter (fun j => !late j) ∧
       Counted (WAKE.CNT 0 5) (s.io.doze.judges.filter late).length s t ∧
       (∀ j ∈ s.io.doze.judges, late j = true → bit (t.reg (WAKE.EVT 0)) 5 = true ∧
         (j.pn = none → t.fld (WAKE.CAUSE 0) WAKE.CAUSE.VALID_STATE = 2))) ∧
    (∀ d src n, d < s.y → src < 40 → (src, n) ∈ (s.drv d).disarmed → 1800 ≤ now / 32768 - n / 32768 →
      Gives (.sourceRearm d src) s fun t => (t.drv d).disarmed = (s.drv d).disarmed.filter (fun e => e.1 != src) ∧
        Logged (WKP.EVT d) 3 s t) ∧
    (∀ (a : State) (w : Sender) (ag : Agent) (d v : Nat), d < 4 → Reaches (.rearm w d v) s ag a →
      Gives (.rearm w d v) s fun t => OnlyRegs [] a t ∧ t.out = endOut w .ok a.out ∧
        (t.dlinkDown d = false → Gives (.postedWriteEffect (4 + d) (aBlk (WKP.CMD d))) t fun z =>
          (z.drv d).disarmed = [] ∧ (z.drv d).invalid = [])) ∧
    (∀ d src n, d < s.y → (s.drv d).awaited.filter (fun e => s.pastMs e.2 10000) = [(src, n)] →
      let old := (s.drv d).invalid.filter fun e => e.1 != src || decide (now / 32768 - e.2 / 32768 ≤ 600)
      let count := (old.filter fun e => e.1 == src).length + 1
      Gives (.wakeReportTimeout d) s fun t => (∀ e ∈ (t.drv d).awaited, e.1 ≠ src) ∧
        (src ≠ 14 → src ≠ 15 → bit (s.reg (WKP.NO_DISARM d)) src = false → (∀ e ∈ (s.drv d).disarmed, e.1 ≠ src) →
          (count < 8 → (t.drv d).invalid = old ++ [(src, now)] ∧ (t.drv d).disarmed = (s.drv d).disarmed) ∧
          (8 ≤ count → (t.drv d).disarmed = (s.drv d).disarmed ++ [(src, now)] ∧ Logged (WKP.EVT d) 2 s t ∧
            ∀ e ∈ (t.drv d).invalid, e.1 ≠ src)))

/-- Admission, turn-ons and the commands of a channel. A turn-on asks for admission and is granted or waits; a command sets what the
channel follows; a grant begins it, the ramp ends in DRIVE, a short ends in RETRY_WAIT or LATCHED; CHN.CTRL clears latches and starts
self-test and calibration; samples and open loads are noted (R598, R599, R611 to R613, R616 to R622, R626, R633, R635, R784). -/
def Obligations.TurnOnsAndCommands : Prop :=
  ∀ s : State,
    let live := fun (e : Nat × Nat) => decide (s.leadNs e.1 < s.admWindow)
    let fits := fun (claim : Nat) => s.admOn = false ∨ s.admits claim = true
    (s.prismUp = true →
      (Gives .admissionWindowExpire s fun t =>
        (s.io.waits = [] → t.io.window = s.io.window.filter live ∧ t.regs = s.regs) ∧
        ∀ r rest, s.io.waits = r :: rest →
          (¬fits r.claim → t.io.waits = s.io.waits ∧ t.io.window = s.io.window.filter live ∧ t.regs = s.regs) ∧
          (∀ k, fits r.claim → r.chan = some k → (t.chan k).adm = .granted)) ∧
      (let late := fun (r : AdmReq) => !r.told && decide (s.fld (WAKE.ADM 0) WAKE.ADM.WAIT_WARN_MS * 1000000 ≤ s.leadNs r.since)
       Gives .admSlow s fun t =>
        t.io.waits = s.io.waits.map (fun r => if late r then { r with told := true } else r) ∧
          ((∃ r ∈ s.io.waits, late r = true) → bit (t.reg (WAKE.EVT 0)) 7 = true) ∧
          ((∀ r ∈ s.io.waits, late r = false) → t.regs = s.regs))) ∧
    (∀ d c, d < 4 → c < 28 →
      let k := xc d c
      let u := s.chan k
      let event := fun (i : Nat) (t : State) => Logged (CHN.EVT d c) i s t
      let counted := fun (i : Nat) (t : State) => Counted (CHN.CNT d c i) 1 s t
      (s.chIs d c = true →
        (u.st = .waitAdmit ∨ (u.st = .selftest ∧ u.test = 3) → u.adm = .unsent → (s.drv d).pin = false → s.dlinkDown d = false →
          let claim := s.chClaim d c
          let granted := s.admOn = false ∨ (s.io.waits = [] ∧ s.admits claim = true)
          (granted → Gives (.admissionRequest d c) s fun t => (t.chan k).adm = .granted ∧ Counted (WAKE.CNT 0 9) 1 s t ∧
            t.io.window = s.io.window.filter live ++ [(s.time 0, claim)] ∧
            (s.admOn = true → s.admFits claim = false → Counted (WAKE.CNT 0 11) 1 s t ∧ Logged (WAKE.EVT 0) 8 s t)) ∧
          (¬granted → Gives (.admissionRequest d c) s fun t => (t.chan k).adm = .waiting ∧ Counted (WAKE.CNT 0 10) 1 s t ∧
            t.io.waits = s.io.waits ++ [{ chan := some k, claim := claim, since := s.time 0 }] ∧ t.io.window = s.io.window)) ∧
        (u.adm = .granted → s.dlinkDown d = false →
          (u.st = .waitAdmit → Gives (.channelGrant d c) s fun t =>
            t.chan k = { u with st := if s.chRamp d c ≠ 0 then .ramp else .drive, adm := .unsent, since := s.edges } ∧
              counted 0 t) ∧
          (u.st ≠ .waitAdmit → Gives (.channelGrant d c) s fun t => t.chan k = { u with adm := .unsent, test := 3 } ∧
            t.regs = s.regs)) ∧
        (∀ i tj a b lim,
          let ref := (s.fld (CHN.CAL d c) CHN.CAL.I_CAL_MA : Int)
          let used := s.flag (CHN.CAL d c) CHN.CAL.VALID = true ∧ ref ≤ 4 * i ∧ i ≤ 4 * ref ∧
            (tj - toSigned 12 (s.fld (CHN.CAL d c) CHN.CAL.T_CAL)).natAbs ≤ 200
          Gives (.currentSample d c i tj a b lim) s fun t =>
            (used → (t.chan k).cur = i * (u.calRef : Int) / u.calMean ∧ (t.chan k).factory = false) ∧
            (¬used → (t.chan k).cur = i ∧ (t.chan k).factory = true) ∧ (t.chan k).tj = (if c < 24 then tj else 0) ∧
            (t.chan k).inLimit = lim ∧ (t.chan k).limAt = (if u.inLimit then u.limAt else s.edges) ∧ (t.drv d).caseA = a ∧ (t.drv d).caseB = b ∧ t.regs = s.regs) ∧
        (u.openLoad = false →
          (u.st = .drive ∧ u.cur < s.chFld d c (CHN.CFG_B d c) CHN.CFG_B.OPEN_ON_MA none) ∨
            (u.st = .openSt ∧ s.chFld d c (CHN.CFG d c) CHN.CFG.OFF_DIAG none = 1) →
          Gives (.openLoad d c true) s fun t => t.chan k = { u with openLoad := true } ∧ event 7 t ∧ counted 8 t)) ∧
      (d < s.y →
        (Gives (.openLoad d c false) s fun t => t.chan k = { u with openLoad := false } ∧ t.regs = s.regs) ∧
        (u.st = .ramp → Gives (.rampDone d c) s fun t => t.chan k = { u with st := .drive, since := s.edges } ∧ t.regs = s.regs) ∧
        (∀ i, (i = Instr.shortDetect d c ∧ u.st = .ramp) ∨ (i = .limitHeld d c ∧ c < 24 ∧ u.st = .drive ∧ u.inLimit = true ∧
              s.pastUs u.limAt (1000 * s.chFld d c (CHN.CFG d c) CHN.CFG.LIMIT_MS none) = true) ∨
            (i = .limitHeld d c ∧ 24 ≤ c ∧ (u.st = .drive ∨ u.st = .ramp)) →
          (u.retry < s.chRetries d c → Gives i s fun t => (t.chan k).st = .retryWait ∧ event 4 t ∧ counted 4 t) ∧
          (s.chRetries d c ≤ u.retry → Gives i s fun t => (t.chan k).st = .latched ∧
            (t.chan k).latches = u.latches.filter (· != 2) ++ [2] ∧ counted 4 t ∧
            bit (t.reg (CHN.EVT d c)) 4 = true ∧ bit (t.reg (CHN.EVT d c)) 5 = true)) ∧
        (u.st = .retryWait → s.pastUs u.since (10000 * 2 ^ u.retry) = true → Gives (.retryBackoffEnd d c) s fun t => (t.chan k).st = .waitAdmit ∧ (t.chan k).retry = u.retry + 1 ∧
          (t.chan k).guard = true ∧ counted 5 t) ∧
        (u.st = .drive → u.since + 32768 ≤ s.edges → Gives (.retryCountReset d c) s fun t => t.chan k = { u with retry := 0 } ∧
          t.regs = s.regs) ∧
        (∀ pass, u.st = .selftest → Gives (.selftestEnd d c pass) s fun t => (t.chan k).test = (if pass then 1 else 2) ∧
          (t.chan k).st ≠ .selftest ∧ (pass = false → event 8 t)) ∧
        (∀ mean vary, s.fld (CHN.CAL d c) CHN.CAL.RESULT = 1 →
          (vary = true ∨ mean = 0 ∨ u.st ≠ .drive → Gives (.calDone d c mean vary) s fun t =>
            t.fld (CHN.CAL d c) CHN.CAL.RESULT = 3 ∧ t.chan k = u) ∧
          (vary = false → mean ≠ 0 → u.st = .drive → Gives (.calDone d c mean vary) s fun t =>
            let ref := s.fld (CHN.CTRL d c) CHN.CTRL.CAL_REF_MA
            t.fld (CHN.CAL d c) CHN.CAL.RESULT = 2 ∧ t.fld (CHN.CAL d c) CHN.CAL.VALID = 1 ∧
              t.fld (CHN.CAL d c) CHN.CAL.I_CAL_MA = ref ∧ t.chan k = { u with calRef := ref, calMean := mean } ∧ event 9 t))) ∧
      (∀ (w : Sender) (ag : Agent) (z : State) (v : Nat),
        let x := BitVec.ofNat 48 v
        let n := z.chan k
        (Reaches (.chnCmd w d c v) s ag z →
          (fget x CHN.CMD.OUT = 3 ∨ 1000 < fget x CHN.CMD.DUTY → Gives (.chnCmd w d c v) s fun t =>
            t.out = endOut w .badValue z.out ∧ t.reg (CHN.CMD d c) = z.reg (CHN.CMD d c) ∧ t.io = z.io) ∧
          (fget x CHN.CMD.OUT ≠ 3 → fget x CHN.CMD.DUTY ≤ 1000 → n.st ≠ .latched → (z.drv d).pin = true → Gives (.chnCmd w d c v) s fun t =>
            t.out = endOut w .ok z.out ∧ t.reg (CHN.CMD d c) = z.reg (CHN.CMD d c) ∧ t.io = z.io ∧ Counted (CHN.CNT d c 10) 1 z t) ∧
          (fget x CHN.CMD.OUT ≠ 3 → fget x CHN.CMD.DUTY ≤ 1000 → n.st = .latched ∨ (z.drv d).pin = false →
            Gives (.chnCmd w d c v) s fun t =>
            t.out = endOut w .ok z.out ∧ t.fld (CHN.CMD d c) CHN.CMD.OUT = fget x CHN.CMD.OUT ∧
            t.fld (CHN.CMD d c) CHN.CMD.DUTY = fget x CHN.CMD.DUTY ∧ (t.chan k).src = ag.cmdSrc ∧ (t.chan k).takeover = none ∧
            (n.st = .latched ∨ z.chHeld d c ≠ 0 → (t.chan k).st = n.st ∧ Counted (CHN.CNT d c 9) 1 z t) ∧
            (n.st ≠ .latched → n.st ≠ .selftest → z.chHeld d c = 0 → fget x CHN.CMD.OUT = 0 → (t.chan k).st = .openSt) ∧
            (n.st = .openSt → n.latches = [] → z.chHeld d c = 0 → fget x CHN.CMD.OUT ≠ 0 → (t.chan k).st = .waitAdmit ∧
              (t.chan k).adm = .unsent))) ∧
        (∀ i f, (i, f) ∈ [(Instr.clearFault w d c v, CHN.CTRL.CLEAR_FAULT), (.unlock w d c v, CHN.CTRL.UNLOCK),
            (.selftest w d c v, CHN.CTRL.SELFTEST), (.cal w d c v, CHN.CTRL.CAL)] →
          Reaches i s ag z →
          (z.ctrlBad d c (fset x f 1) = true → Gives i s fun t => t.out = endOut w .badValue z.out ∧ t.io = z.io ∧
            t.reg (CHN.CTRL d c) = z.reg (CHN.CTRL d c)) ∧
          (z.ctrlBad d c (fset x f 1) = false → Gives i s fun t => t.out = endOut w .ok z.out ∧
            t.fld (CHN.CTRL d c) CHN.CTRL.CAL_REF_MA = fget x CHN.CTRL.CAL_REF_MA ∧
            (i = .clearFault w d c v → n.st = .latched → 1 ∉ (t.chan k).latches ∧ 2 ∉ (t.chan k).latches ∧
              (n.latches ≠ [] → (∀ j ∈ n.latches, j = 1 ∨ j = 2) → (t.chan k).st ≠ .latched)) ∧
            (i = .unlock w d c v → n.st = .latched → 3 ∉ (t.chan k).latches) ∧
            (i = .selftest w d c v → (t.chan k).st = .selftest ∧ (t.chan k).adm = .unsent ∧ (t.chan k).test = 3) ∧
            (i = .cal w d c v → t.fld (CHN.CAL d c) CHN.CAL.RESULT = 1)))))

/-- Heat, clamp energy, inputs and Pinhole mode. A thermal trip opens a channel into COOL, a hard trip or a hot die latches it, guarded
periods end; a clamp event takes from the level and the refill gives it back; inputs and wetting faults are reported; LIMP_N and the
lost heartbeat begin Pinhole mode, ACK ends it (R623 to R627, R629 to R632, R636, R637, R640 to R644). -/
def Obligations.HeatClampAndPinhole : Prop :=
  ∀ (s : State) (d : Nat), d < s.y → d < 4 →
    let v := s.drv d
    (∀ c, c < 28 →
      let k := xc d c
      let u := s.chan k
      let event := fun (i : Nat) (t : State) => Logged (CHN.EVT d c) i s t
      let counted := fun (i : Nat) (t : State) => Counted (CHN.CNT d c i) 1 s t
      (c < 24 → u.drives = true → s.chGuarded d c = false →
        (s.chDtMax d c : Int) * 10 < u.tj - (v.caseA + v.caseB) / 2 → Gives (.dtTrip d c) s fun t =>
        (t.chan k).st = .cool ∧ (t.chan k).hotTrip = false ∧ event 0 t ∧ counted 1 t) ∧
      (c < 24 → s.chIs d c = true → s.chGuarded d c = true → 1500 ≤ u.tj → Gives (.guardWarn d c) s fun t => event 1 t ∧ t.io = s.io) ∧
      (c < 24 → u.drives = true → s.chGuarded d c = true → 1700 ≤ u.tj → Gives (.guardTrip d c) s fun t =>
        (t.chan k).st = .cool ∧ (t.chan k).hotTrip = true ∧ event 2 t ∧ counted 2 t) ∧
      (∀ tj, u.st = .cool →
        let cool := if u.hotTrip = true then tj < 1500 else tj - (v.caseA + v.caseB) / 2 < ((s.chDtMax d c : Int) - 15) * 10
        (cool → Gives (.coolEnd d c tj) s fun t => (t.chan k).st = .waitAdmit ∧ (t.chan k).adm = .unsent ∧
          (t.chan k).guard = true ∧ (t.chan k).tj = tj ∧ t.regs = s.regs) ∧
        (¬cool → Gives (.coolEnd d c tj) s fun t => t.io = s.io ∧ t.regs = s.regs)) ∧
      (u.st = .drive → u.since + 16384 ≤ s.edges → Gives (.guardEnd d (some c)) s fun t => t.chan k = { u with guard := false } ∧
        t.regs = s.regs) ∧
      (c < 24 → s.chIs d c = true → u.st ≠ .openSt → Gives (.hardTrip d c) s fun t => (t.chan k).st = .latched ∧
        (t.chan k).latches = u.latches.filter (· != 1) ++ [1] ∧ event 3 t ∧ counted 3 t) ∧
      (∀ e : Nat, s.chIs d c = true →
        let n := max (-(s.chBudget d c : Int) * 1000000000) (s.chLevel d c - (e : Int) * 1000000)
        Gives (.clampEventEnd d c e) s fun t => counted 6 t ∧ t.fld (CHN.CLAMP d c) CHN.CLAMP.LAST = sat (2 ^ 24 - 1) e ∧
          (c < 24 → t.chLevel d c = n) ∧
          (c < 24 → n ≤ 0 → (t.chan k).st = .latched ∧ 3 ∈ (t.chan k).latches ∧ event 6 t ∧ counted 7 t) ∧
          (24 ≤ c ∨ 0 < n → (t.chan k).st = u.st ∧ (t.chan k).latches = u.latches)) ∧
      (∀ n, u.takeover = some n → s.pastMs n 1000 = true → Gives (.takeoverHoldEnd d c) s fun t =>
        (t.chan k).st = .openSt ∧ (t.chan k).takeover = none ∧ (t.chan k).retry = 0)) ∧
    (∀ n, v.coldFrom = some n → n + 16384 ≤ s.edges → v.caseSt = 1 → Gives (.guardEnd d none) s fun t =>
      (t.drv d).coldFrom = none ∧ Logged (THM.EVT d) 3 s t) ∧
    ((s.supply d).chanOn = true →
      (1500 < (v.caseA + v.caseB) / 2 → Gives (.logicHot d) s fun t => Logged (THM.EVT d) 2 s t ∧ ∀ c, c < 28 → (s.chan (xc d c)).drives = true →
        (t.chan (xc d c)).st = .latched ∧ 1 ∈ (t.chan (xc d c)).latches ∧ bit (t.reg (CHN.EVT d c)) 3 = true) ∧
      (Gives (.clampRefill d) s fun t => t.regs = s.regs ∧ ∀ c, c < 24 → t.chLevel d c =
        if s.chLevel d c < (s.chBudget d c : Int) * 1000000000 then
          min ((s.chBudget d c : Int) * 1000000000) (s.chLevel d c + (s.chRefill d c : Int) * 30520)
        else s.chLevel d c) ∧
      (let sum := v.powerSum + s.diePower d
       let past := 12 * 10 ^ 12 < sum / 32768
       (v.powerN + 1 < 32768 → Gives (.diePowerEstimate d) s fun t => t.drv d = { v with powerSum := sum, powerN := v.powerN + 1 } ∧
         t.regs = s.regs) ∧
       (32768 ≤ v.powerN + 1 → Gives (.diePowerEstimate d) s fun t =>
         t.fld (THM.STAT d) THM.STAT.POWER = sat 4095 (sum / 32768 / 10 ^ 10) ∧ (t.drv d).overPower = decide past ∧
           (t.drv d).powerSum = 0 ∧ (t.drv d).powerN = 0 ∧ (past → v.overPower = false → Logged (THM.EVT d) 1 s t)))) ∧
    (∀ a b : Int,
      (100 < (a - b).natAbs → Gives (.caseFault d a b) s fun t => (t.drv d).caseSt = 2 ∧ (t.drv d).caseA = a ∧
        (t.drv d).caseB = b ∧ Logged (THM.EVT d) 0 s t) ∧
      ((a - b).natAbs ≤ 50 → Gives (.caseFaultEnd d a b) s fun t => t.drv d = { v with caseA := a, caseB := b, caseSt := 1 } ∧
        t.regs = s.regs)) ∧
    (∀ i mv, i < 32 →
      let lo := 100 * s.fld (IN.CFG d i) IN.CFG.TH_LO
      let hi := 100 * s.fld (IN.CFG d i) IN.CFG.TH_HI
      (∀ rose : Bool, s.inputOn d i = true → (v.inputs / 2 ^ i % 2 == 1) ≠ rose →
        (if rose = true then hi ≤ mv else mv ≤ lo ∧ mv < hi) → Gives (.inputStateChange d i mv none) s fun t =>
          (t.drv d).inputs = putBit v.inputs i rose ∧ Logged (IN.EVT d) 0 s t ∧
            Holds t (IN.LAST d) (word [(IN.LAST.INPUT, i), (IN.LAST.DIR, b2n rose)])) ∧
      (s.inputOn d i = true → lo < mv → mv < hi → Gives (.inputStateChange d i mv none) s fun t => t = s) ∧
      (∀ j, j < 8 → s.fuseFld (FUSE.PMAP d j) FUSE.PMAP.VALID = 1 → s.fuseFld (FUSE.PMAP d j) FUSE.PMAP.INPUT = i →
        ∀ rose : Bool, (let th := comparatorMv (s.fuseFld (FUSE.PMAP d j) FUSE.PMAP.TH)
            if rose = true then th ≤ mv else mv ≤ th * 9 / 10 ∧ mv < th) →
          Gives (.inputStateChange d i mv (some j)) s fun t => (t.drv d).mapIn = putBit v.mapIn j rose ∧ (t.drv d).inputs = v.inputs) ∧
      (s.inputOn d i = true → s.fld (IN.CFG d i) IN.CFG.WET ≠ 0 → Gives (.wetFault d i) s fun t => Logged (IN.EVT d) 1 s t ∧
        t.io = s.io)) ∧
    (let entered := fun (t : State) => (t.drv d).pin = true ∧
       (v.pin = false → (t.drv d).entries = sat 65535 (v.entries + 1) ∧ Logged (PIN.EVT d) 0 s t ∧ (t.supply d).chanOn = true)
     ((s.supply d).alive = true → v.limpLow = false → Gives (.limpNAssert d) s fun t => entered t ∧ (t.drv d).limpLow = true ∧
       (s.flag (WKP.CAUSE d) WKP.CAUSE.VALID = false →
         Holds t (WKP.CAUSE d) (word [(WKP.CAUSE.SRC, 15), (WKP.CAUSE.DIE, 0), (WKP.CAUSE.VALID, 1)]))) ∧
     (∀ n, v.hbTimer = some n → s.pastMs n (s.hbTimeout d) = true → Gives (.heartbeatLost d) s fun t => entered t ∧
       (t.supply d).hbLost = true)) ∧
    (v.limpLow = true → Gives (.limpNRelease d) s fun t => (t.drv d).limpLow = false ∧ (t.drv d).limpRise = s.edges ∧
      (t.drv d).pin = v.pin ∧ t.regs = s.regs) ∧
    (s.start.heartbeat = true → v.hbTimer.isSome = true → s.dlinkDown d = false → Gives (.prismHeartbeat d) s fun t =>
      (t.drv d).hbTimer = some s.edges ∧ (t.supply d).hbLost = false ∧
        (∀ a b, v.hbRun = some (a, b) → (t.drv d).hbRun =
          some (if 10 * 32768 < (s.edges - b) * 1000 then s.edges else a, s.edges)) ∧
        (v.hbRun = none → (t.drv d).hbRun = some (s.edges, s.edges))) ∧
    (let waits := (List.range 8).filterMap fun j =>
       let c := s.fuseFld (FUSE.PMAP d j) FUSE.PMAP.CHANNEL
       if s.mapOf d c = some j ∧ (s.chan (xc d c)).st = .waitAdmit then some c else none
     ∀ c rest, waits = c :: rest → v.pin = true → (s.supply d).sag = false → (v.mapGrant.all fun n => s.pastMs n 10) = true →
       Gives (.pinholeTurnOn d) s fun t => (t.drv d).mapGrant = some s.edges ∧ Counted (CHN.CNT d c 0) 1 s t ∧
         (t.chan (xc d c)).st = if s.chRamp d c ≠ 0 then .ramp else .drive) ∧
    (∀ (z : State) (w : Sender) (ag : Agent) (n : Nat), Reaches (.ack w d n) s ag z → Gives (.ack w d n) s fun t =>
      OnlyRegs [] z t ∧ t.out = endOut w .ok z.out ∧ (t.dlinkDown d = false →
        (t.pinExitOk d = true → Gives (.postedWriteEffect (4 + d) (aBlk (PIN.CMD d))) t fun r => (r.drv d).pin = false ∧
          Logged (PIN.EVT d) 1 t r) ∧
        (t.pinExitOk d = false → Gives (.postedWriteEffect (4 + d) (aBlk (PIN.CMD d))) t fun r => (r.drv d).pin = (t.drv d).pin ∧
          Logged (PIN.EVT d) 2 t r)))

/-- Partitions, their schedule and their watchdogs. A partition starts with its sections, halts with its cause and restarts; the slot of
a core moves to the next valid one; a right kick restarts a watchdog, a wrong or missing one halts or restarts the partition; the safety
pair's watchdog resets the package, its mismatch halts the SAFE partitions (R656, R662 to R669). -/
def Obligations.PartitionsAndWatchdogs : Prop :=
  ∀ (s : State) (p k : Nat), p < 4 → k < 16 →
    let now := s.edges
    let part := fun (t : State) => t.part (ptk p k)
    let u := part s
    let halted := fun (cause : Nat) (z t : State) => (part t).st = .halted ∧ t.fld (CPU.PSTAT p k) CPU.PSTAT.CAUSE = cause ∧
      Counted (CPU.CNT p (16 * k + 7)) 1 z t ∧ bit (t.reg (CPU.EVT p)) 3 = true ∧ t.reg (WAKE.REQ p k) = 0 ∧
      (∀ e ∈ t.wpend p, e.part ≠ k) ∧
      (z.pdef p k CPU.PDEF.SAFE_OPEN = 1 → ∀ n ∈ z.onUnder p k, t.fld (APR.CH p n) APR.CH.ON = 0)
    let restarts := fun (cause : Nat) (l : List Nat) (z t : State) =>
      part t = { st := .restarting, restarts := l } ∧ t.fld (CPU.PSTAT p k) CPU.PSTAT.CAUSE = cause ∧
      Counted (CPU.CNT p (16 * k + 6)) 1 z t ∧ t.reg (WAKE.REQ p k) = 0 ∧ Holds t (CPU.KICK p k) (regReset (CPU.KICK p k))
    let runs := fun (t : State) => part t = { u with st := .running, kick := now, first := true, harts := s.startHarts p k } ∧
      Holds t (CPU.KICK p k) (regReset (CPU.KICK p k)) ∧
      (s.pdef p k CPU.PDEF.SAFE = 1 → (s.safePair p).wdt = none → (t.safePair p).wdt = some now ∧ (t.safePair p).first = true)
    let expired := fun (z t : State) => bit (t.reg (CPU.EVT p)) 2 = true ∧ Counted (CPU.CNT p (16 * k + 5)) 1 z t ∧
      (z.fld (WDT.P p k) WDT.P.ACTION = 1 → halted 1 z t) ∧
      (z.fld (WDT.P p k) WDT.P.ACTION ≠ 1 → (z.recentRestarts p k).length < z.pdef p k CPU.PDEF.RESTART_MAX →
        restarts 1 (z.recentRestarts p k ++ [z.edges]) z t) ∧
      (z.fld (WDT.P p k) WDT.P.ACTION ≠ 1 → z.pdef p k CPU.PDEF.RESTART_MAX ≤ (z.recentRestarts p k).length → halted 4 z t)
    (∀ i c, (s.partCores p k)[i]? = some c → (s.startHarts p k)[i]? = some
      ({ core := c, entry := s.fld (CPU.PENTRY p k) CPU.PENTRY.ENTRY, a0 := k, a1 := i, a2 := (s.partCores p k).length } : Hart)) ∧
    (s.timeCsr p).setWidth 48 = BitVec.ofNat 48 (s.time p) ∧
    (p < s.x → s.prismUp = true →
      (s.partIn p k .loading = true → (∀ n ∈ s.partSections p k, n ∉ s.ld.fwLeft) → Gives (.partitionStart p k) s runs) ∧
      (∀ c i, c < 7 → s.enabled p 0x78 = true → s.slotOver p c = true →
        (((s.validSlots p c).find? fun j => decide (s.slotOf (8 * p + c) < j)) = some i ∨
          ((∀ j ∈ s.validSlots p c, j ≤ s.slotOf (8 * p + c)) ∧ (s.validSlots p c).head? = some i)) →
        Gives (.slotSwitch p c) s fun t => t.slotOf (8 * p + c) = i ∧ t.slotEdge (8 * p + c) = now ∧ t.regs = s.regs) ∧
      (∀ cause, 1 ≤ cause → cause ≤ 5 → u.st = .running → Gives (.partitionHalt p k cause) s (halted cause s)) ∧
      (∀ answers, u.st = .restarting →
        let good := fun (n : Nat) => (answers || s.ld.slot == 2) && s.secTagOk s.ld.slot n
        let l := s.partSections p k
        (l ≠ [] → (∀ n ∈ l, good n = true) → Gives (.partitionRestart p k answers) s runs) ∧
        ((l = [] ∨ ∃ n ∈ l, good n = false) → Gives (.partitionRestart p k answers) s fun t => (part t).st = .failed ∧
          t.fld (CPU.PSTAT p k) CPU.PSTAT.CAUSE = 6)) ∧
      (s.wdtOn p k = true → s.pastMs u.kick (s.wdtMs p k) = true → Gives (.watchdogExpiry p k) s (expired s)) ∧
      (∀ n, (s.safePair p).wdt = some n → s.pastMs n (s.safeMs p) = true → Gives (.safetyWdtExpiry p) s fun t => ResetBy 3 t) ∧
      ((s.safePair p).halted = false → Gives (.lockstepMismatch p) s fun t => (t.safePair p).halted = true ∧
        bit (t.reg (CPU.EVT p)) 4 = true ∧
        (s.pdef p k CPU.PDEF.SAFE = 1 → s.pdef p k CPU.PDEF.EN = 1 →
          u.st = .loading ∨ u.st = .running ∨ u.st = .restarting → (part t).st = .halted ∧
            t.fld (CPU.PSTAT p k) CPU.PSTAT.CAUSE = 5))) ∧
    (∀ (w : Sender) (ag : Agent) (z : State) (v : Nat),
      let x := BitVec.ofNat 48 v
      let ok := fun (t : State) => t.out = endOut w .ok z.out
      let may := ∀ d a c h, ag = .fw d a c h → z.pdef d a CPU.PDEF.CONTROL = 1
      let result := fun (n : Nat) (t : State) => t.fld (CPU.PCMD p) CPU.PCMD.RESULT = n
      (fget x CPU.PCMD.TARGET = k →
        (Reaches (.pcmdHalt w p v) s ag z → may →
          ((part z).st = .running → Gives (.pcmdHalt w p v) s fun t => ok t ∧ result 2 t ∧ halted 3 z t) ∧
          ((part z).st ≠ .running → Gives (.pcmdHalt w p v) s fun t => ok t ∧ result 3 t ∧ part t = part z)) ∧
        (Reaches (.pcmdRestart w p v) s ag z → may →
          ((part z).st = .halted ∨ (part z).st = .running ∨ (part z).st = .failed → Gives (.pcmdRestart w p v) s fun t =>
            ok t ∧ result 2 t ∧
              ((∃ d a c h, ag = .fw d a c h) → restarts 3 (z.recentRestarts p k ++ [z.edges]) z t) ∧
              ((∀ d a c h, ag ≠ .fw d a c h) → restarts 3 [] z t)) ∧
          ((part z).st ≠ .halted → (part z).st ≠ .running → (part z).st ≠ .failed → Gives (.pcmdRestart w p v) s fun t =>
            ok t ∧ result 3 t ∧ part t = part z))) ∧
      (Reaches (.watchdogKick w p k v) s ag z →
        let next := z.fld (CPU.KICK p k) CPU.KICK.NEXT
        let good := fget x CPU.KICK.KEY = next ∧
          ((part z).first = true ∨ z.pastMs (part z).kick (z.fld (WDT.P p k) WDT.P.WIN_MS) = true)
        (∀ c h, ag = .fw p k c h →
          (z.wdtOn p k = true → good → Gives (.watchdogKick w p k v) s fun t => ok t ∧
            part t = { part z with kick := z.edges, first := false } ∧ t.fld (CPU.KICK p k) CPU.KICK.NEXT = lfsrNext next % 2 ^ 16) ∧
          (z.wdtOn p k = true → ¬good → Gives (.watchdogKick w p k v) s fun t => ok t ∧ expired z t) ∧
          (z.wdtOn p k = false → Gives (.watchdogKick w p k v) s fun t => ok t ∧ part t = part z ∧ t.regs = z.regs))) ∧
      (s.hostWriter w = some ag → v < 2 ^ 48 →
        (s.regIs (CPU.KICK p k) = true → exec (.watchdogKick w p k v) s = .next { s with out := .reply ag .denied 0 :: s.out }) ∧
        (s.regIs (CPU.SKICK p) = true → exec (.skick w p v) s = .next { s with out := .reply ag .denied 0 :: s.out })) ∧
      (Reaches (.skick w p v) s ag z →
        let next := z.fld (CPU.SKICK p) CPU.SKICK.NEXT
        (∀ a h n, ag = .fw p a 0 h → (z.safePair p).wdt = some n →
          let good := fget x CPU.SKICK.KEY = next ∧
            ((z.safePair p).first = true ∨ z.pastMs n (z.fld (WDT.SAFE p) WDT.SAFE.WIN_MS) = true)
          (good → Gives (.skick w p v) s fun t => ok t ∧ (t.safePair p).wdt = some z.edges ∧ (t.safePair p).first = false ∧
            t.fld (CPU.SKICK p) CPU.SKICK.NEXT = lfsrNext next % 2 ^ 16) ∧
          (¬good → Gives (.skick w p v) s fun t => ResetBy 3 t))))

/-- What firmware does at its own die. Loads and stores of the management view pass their checks or are refused; the signal view shows
a signal; a ring's producer gives descriptors, which are offered or completed with their result; a channel on for too long is opened;
interrupts enter a partition's FIFO and are taken from it; APR_RD shows an entry (R455, R657 to R659, R670, R672 to R674, R678, R680,
R683, R684, R686). -/
def Obligations.FirmwareAtItsDie : Prop :=
  ∀ (s : State) (p k : Nat), p < 4 → k < 16 →
    let part := fun (t : State) => t.part (ptk p k)
    (p < s.x → s.prismUp = true → ∀ c hart loc width, c < 7 → s.onCore p c = some k →
      let ag : Agent := .fw p k c hart
      let trapped := fun (cause : Nat) (t : State) => part t = { part s with harts := (part s).harts.map fun h =>
        if h.core = c then { h with mode := .hs, traps := h.traps ++ [(cause, loc)] } else h }
      let denied := fun (cause : Nat) (t : State) => t.out = .reply ag .denied 0 :: s.out ∧ t.regs = s.regs ∧ trapped cause t
      (mgmtAddr loc width = none → Gives (.mgmtLoad p c hart loc width) s (denied 5)) ∧
      (∀ a, mgmtAddr loc width = some a →
        (s.pdef p k CPU.PDEF.MGMT_READ ≠ 1 → s.loadFree p k a ag = false → Gives (.mgmtLoad p c hart loc width) s (denied 5)) ∧
        (s.pdef p k CPU.PDEF.MGMT_READ = 1 ∨ s.loadFree p k a ag = true → s.regIs a = false →
          Gives (.mgmtLoad p c hart loc width) s fun t => t.out = .reply ag .noSuch 0 :: s.out ∧ trapped 5 t ∧
            Holds t (CPU.PFAULT p k) (word [(CPU.PFAULT.ADDR, loc), (CPU.PFAULT.CODE, Code.noSuch.num)])) ∧
        (s.reads (.hart p c hart) a = some ag → 4 ≤ aDie a ∨ aBlk a ≤ 0x08 ∨ (0x40 ≤ aBlk a ∧ aBlk a < 0x78) →
          Gives (.mgmtLoad p c hart loc width) s fun t => t.out = .reply ag .ok (s.live a) :: s.out ∧ t.regs = s.regs)) ∧
      (∀ v, mgmtAddr loc width = none → Gives (.mgmtStore p c hart loc width v) s (denied 7)) ∧
      (∀ v a row z, mgmtAddr loc width = some a → s.arrives (.hart p c hart) a (BitVec.ofNat 48 v) = some (ag, z) →
        aDie a < 4 → aBlk a < 3 ∨ (0x58 ≤ aBlk a ∧ aBlk a ≤ 0x5A) → aReg a ≠ 0x1FFF → regRow a = some row → row.kind ≠ .sc →
        z.refuses a (BitVec.ofNat 48 v) = false → Gives (.mgmtStore p c hart loc width v) s fun t => OnlyRegs [a] z t ∧
          t.out = s.out ∧
          Holds t a ((s.reg a &&& ~~~ BitVec.ofNat 48 row.wmask) ||| (BitVec.ofNat 48 v &&& BitVec.ofNat 48 row.wmask))) ∧
      (∀ v a, mgmtAddr loc width = some a → storeFree p c k a = false → loadTarget a = none →
        ¬(aBlk a = 0x60 ∧ aDie a < 4 ∧ aReg a = 0x18) → s.aprOf p k 4 = [] → s.pdef p k CPU.PDEF.NOMATCH_HALT ≠ 1 →
        Gives (.mgmtStore p c hart loc width v) s fun t => t.out = s.out ∧ Counted (CPU.CNT p (16 * k)) 1 s t ∧
          Logged (CPU.EVT p) 0 s t ∧ Holds t (CPU.ALAST p) (word [(CPU.ALAST.PART, k), (CPU.ALAST.ENTRY, 0), (CPU.ALAST.KIND, 4),
            (CPU.ALAST.REASON, 0), (CPU.ALAST.TARGET, a % 2 ^ 24)])) ∧
      (let o := loc - 3 * 2 ^ 32
       let may := width = 8 ∧ loc % 8 = 0 ∧ 3 * 2 ^ 32 ≤ loc ∧ o < 2 ^ 22 ∧ s.pdef p k CPU.PDEF.SIG_READ = 1
       let e := s.sig (sigKey p (o / 16))
       (may → Gives (.signalViewLoad p c hart loc width) s fun t =>
         t.out = .reply ag .ok (BitVec.ofNat 48 (if o % 16 = 0 then e.1 else e.2)) :: s.out ∧ t.regs = s.regs) ∧
       (¬may → Gives (.signalViewLoad p c hart loc width) s (denied 5)))) ∧
    (∀ (w : Sender) (mem : List (Nat × Nat)) (ag : Agent) (z : State) (v : Nat),
      let x := BitVec.ofNat 48 v
      (Reaches (.txRingProd w mem p k v) s ag z →
        (∀ c h, ag = .fw p k c h → Gives (.txRingProd w mem p k v) s fun t => t.out = endOut w .ok z.out ∧
          t.fld (CPU.TXR_B p k) CPU.TXR_B.PROD = fget x CPU.TXR_B.PROD ∧ t.fld (CPU.TXR_B p k) CPU.TXR_B.CONS =
            z.fld (CPU.TXR_B p k) CPU.TXR_B.CONS ∧ OnlyRegs [CPU.TXR_B p k] z t) ∧
        ((∀ c h, ag ≠ .fw p k c h) → Gives (.txRingProd w mem p k v) s fun t => t.out = endOut w .badValue z.out ∧
          t.reg (CPU.TXR_B p k) = z.reg (CPU.TXR_B p k))) ∧
      (Reaches (.aprRd w p v) s ag z → Gives (.aprRd w p v) s fun t => t.out = endOut w .ok z.out ∧
        t.fld (CPU.APR_RD p) CPU.APR_RD.INDEX = fget x CPU.APR_RD.INDEX ∧
        ∀ i, i < 4 → Holds t (CPU.APR_W p i) (z.apr p (fget x CPU.APR_RD.INDEX) i)) ∧
      (s.reads w (CPU.IRQ_POP p k) = some ag →
        (∀ c h, ag = .fw p k c h →
          ((part s).fifo = [] → Gives (.irqPop w p k) s fun t => t.out = .reply ag .ok 0 :: s.out ∧ part t = part s) ∧
          (∀ r rest, (part s).fifo = r :: rest → Gives (.irqPop w p k) s fun t =>
            part t = { part s with fifo := rest, lost := false } ∧
            t.out = .reply ag .ok (word [(CPU.IRQ_POP.VALID, 1), (CPU.IRQ_POP.DIRECT, b2n r.direct), (CPU.IRQ_POP.CODE, r.code),
              (CPU.IRQ_POP.ARG, r.arg), (CPU.IRQ_POP.OVERFLOW, b2n (part s).lost), (CPU.IRQ_POP.LEFT, rest.length)]) :: s.out)) ∧
        (ag = .spi ∨ ag = .eth → Gives (.irqPop w p k) s fun t => t.out = .reply ag .denied 0 :: s.out ∧ t.cpu = s.cpu))) ∧
    (p < s.x → s.prismUp = true → (∀ i, i < 16 → (s.ring (ptk p i)).busy = false) →
      (((List.range 16).map fun i => (s.servedRing p + 1 + i) % 16).find? fun i => s.ringReady p i) = some k →
      let a := s.ringDesc p k
      let w0 := BitVec.ofNat 48 (s.memWord p a)
      let n := fget w0 ⟨0, 14⟩
      let at1 := s.memWord p (a + 8) % 2 ^ 40
      let bad := s.txBad (bit w0 14) (bit w0 15) (fget w0 ⟨16, 16⟩) n (s.memRead p at1 16)
      let next := (s.fld (CPU.TXR_B p k) CPU.TXR_B.CONS + 1) % s.ringSize p k % 2 ^ 12
      let ends := fun (r : Nat) (t : State) => t.fld (CPU.TXR_B p k) CPU.TXR_B.CONS = next ∧ (t.ring (ptk p k)).busy = false ∧
        t.servedRing p = k ∧ (s.windowOk p k (a + 16) 8 46 = true → t.memWord p (a + 16) = 1 + 2 * r)
      (s.windowOk p k a 32 45 = false → Gives (.txDescriptor p) s (ends 2)) ∧
      (s.windowOk p k a 32 45 = true → bad = true → Gives (.txDescriptor p) s fun t => ends 3 t ∧
        Counted (CPU.CNT p (16 * k + 9)) 1 s t) ∧
      (s.windowOk p k a 32 45 = true → bad = false → s.windowOk p k at1 n 45 = false → Gives (.txDescriptor p) s (ends 2)) ∧
      (s.windowOk p k a 32 45 = true → bad = false → s.windowOk p k at1 n 45 = true → bit w0 14 = false → bit w0 15 = false →
        Gives (.txDescriptor p) s fun t => t.ring (ptk p k) = { busy := true, irq := bit w0 32 } ∧ t.servedRing p = k ∧
          ∃ x, t.buf (fk p 60) = s.buf (fk p 60) ++ [x] ∧ x.ring = some (k, false) ∧ x.looked = false ∧
            x.fr.src = globalFacet p 60 ∧ x.fr.data = s.memRead p at1 n ++ List.replicate 4 0)) ∧
    (p < s.x → s.prismUp = true →
      (∀ n, n < 128 →
        let ch := APR.CH p n
        let e := s.fld ch APR.CH.ENTRY
        let by_ := fget (s.apr p e 0) ⟨3, 4⟩
        let limit := fget (s.apr p e 2) ⟨0, 24⟩
        s.fld ch APR.CH.ON = 1 → limit ≠ 0 → s.pastMs (s.aprAt (128 * p + n)) limit = true →
        Gives (.maxOnExpire p n) s fun t => t.fld ch APR.CH.ON = 0 ∧ t.fld ch APR.CH.FORCED = 1 ∧ t.fld ch APR.CH.PART = by_ ∧
          Counted (CPU.CNT p (16 * by_ + 2)) 1 s t ∧
          (n / 32 < s.y → n % 32 < 28 → s.dlinkDown (n / 32) = false → (s.drv (n / 32)).pin = false →
            t.fld (CHN.CMD (n / 32) (n % 32)) CHN.CMD.OUT = 0)) ∧
      (∀ kind arg rest, Sparse.get (fun _ => []) s.irqs p = .direct k kind arg :: rest →
        ((part s).fifo.length < 64 → Gives (.interruptDelivery p) s fun t => Counted (CPU.CNT p (16 * k + 10)) 1 s t ∧
          (part t).fifo = (part s).fifo ++ [{ direct := true, code := kind, arg := arg }]) ∧
        (64 ≤ (part s).fifo.length → Gives (.interruptDelivery p) s fun t => Counted (CPU.CNT p (16 * k + 11)) 1 s t ∧
          Logged (CPU.EVT p) 5 s t ∧ part t = { part s with lost := true })) ∧
      (∀ l rest, Sparse.get (fun _ => []) s.irqs p = .line l :: rest → Gives (.interruptDelivery p) s fun t =>
        (bit (s.reg (CPU.IROUTE p l)) k = false → part t = part s) ∧
        (bit (s.reg (CPU.IROUTE p l)) k = true → (∃ r ∈ (part s).fifo, r.direct = false ∧ r.code = l) → part t = part s) ∧
        (bit (s.reg (CPU.IROUTE p l)) k = true → (∀ r ∈ (part s).fifo, r.direct = true ∨ r.code ≠ l) →
          (part s).fifo.length < 64 → (part t).fifo = (part s).fifo ++ [{ code := l }])))

/-- The domain engine. Keep-alives leave and are taken into the domain table, or discarded and counted; the census forgets who is not
heard; HELLO and CREDIT make and keep an Ezsor link; requests are executed and answered or relayed, replies complete what waits; an
image is offered, asked for and delivered; DT_CMD reads and removes an entry (R695 to R707, R712, R713). -/
def Obligations.DomainEngineWorks : Prop :=
  ∀ s : State,
    let now := s.time 0
    let domain := s.fld (PLX.CFG 0) PLX.CFG.DOMAIN
    let hops := s.fld (PLX.CFG 0) PLX.CFG.HOPS
    let sends := fun (z : State) (gf da : Nat) (b : List Byte) (t : State) => ∃ rx, t.buf (fk 0 63) = z.buf (fk 0 63) ++ [rx] ∧
      rx.fr.data = ezFrame da (s.reg (ETH.MATCH (gf / 64) (gf % 64) 0)).toNat b
    (s.prismUp = true →
      (∀ g rest da key, s.ezFacets = g :: rest → s.plxOn = true → s.groupMac = some da → s.epochOk = true →
        (s.ezAuth 1 = true → s.ezSlot ≠ 0 ∧ s.keyUse 0 s.ezSlot 5 (some 0) none none = .ok key) →
        let h := s.ezHeader 1 (b2n (s.ezAuth 1)) hops 0xFFFF (s.plx.sent % 2 ^ 32) s.kaBody
        let tag := if s.ezAuth 1 then octets ((cmac key (nats h)).take 8) else []
        (s.plx.kaAt.all fun x => s.pastMs x (s.fld (PLX.TIMING 0) PLX.TIMING.KA_MS)) = true →
        Gives .keepaliveSend s fun t => t.plx.kaAt = some s.edges ∧ Counted (PLX.CNT 0 0) (rest.length + 1) s t ∧
          t.plx.sent = s.plx.sent + (if s.ezAuth 1 then rest.length + 1 else 0) ∧
          ∃ rx more, t.buf (fk 0 63) = s.buf (fk 0 63) ++ rx :: more ∧ more.length = rest.length ∧
            rx.fr.data = ezFrame da (s.reg (ETH.MATCH (g / 64) (g % 64) 0)).toNat (h ++ tag)) ∧
      (∀ e rest, let m := ezParse e
        let z := s.ezTaken 1 m rest
        s.ezFirst 1 e rest → s.plxOn = true →
        (Gives (.keepaliveReceive true) s fun t => Counted (PLX.CNT 0 12) 1 s t ∧ t.plx.inbox = rest ∧ t.plx.members = s.plx.members) ∧
        (m.hdr 8 2 ≠ domain → Gives (.keepaliveReceive false) s fun t => Counted (PLX.CNT 0 5) 1 s t ∧ t.plx.inbox = rest ∧
          t.plx.members = s.plx.members) ∧
        (s.ezTakes 1 m → dupId s m = true → s.ezAuth 1 = false → Gives (.keepaliveReceive false) s fun t =>
          Logged (PLX.EVT 0) 2 s t ∧ t.plx.members = s.plx.members ∧
            Holds t (PLX.LAST 0) (word [(PLX.LAST.DEVICE, m.src), (PLX.LAST.KIND, 2), (PLX.LAST.FACET, m.facet)])) ∧
        (s.ezTakes 1 m → dupId s m = false → Gives (.keepaliveReceive false) s fun t => Counted (PLX.CNT 0 1) 1 z t ∧
          ∃ u, t.member m.src = some u ∧ u.serial = m.at 0 6 ∧ u.digest = m.at 6 6 ∧ u.gen = m.at 12 2 ∧ u.last = now ∧
            u.heard = true ∧ u.dies = buildMask (m.at 18 1) ∧
            (m.noFresh = false → u.route = some (m.facet, m.mac, hops - m.hdr 3 1)))) ∧
      (s.enabled 0 0x72 = true → ∀ id u, s.member id = some u → u.heard = true → s.memberHeard u = false →
        Gives .censusAge s fun t => ∃ r, t.member id = some r ∧ r.heard = false ∧ r.census = none ∧ r.serial = u.serial) ∧
      (∀ p c b, p < s.x → c < 16 →
        let base := s.fld (PLX.CAN_KA 0) PLX.CAN_KA.ID
        let takes := s.plxOn = true ∧ s.flag (PLX.CAN_KA 0) PLX.CAN_KA.EN = true ∧ bfFormat b = 0 ∧ bfFlag b 7 = true ∧
          base < bfId b ∧ bfId b ≤ base + 16383
        (takes → bytesAt (bfData b) 6 2 ≠ foldDigest s.ownDigest → Gives (.canKeepaliveReceive p c b) s fun t =>
          Logged (PLX.EVT 0) 0 s t ∧ Holds t (PLX.LAST 0)
            (word [(PLX.LAST.DEVICE, bfId b - base), (PLX.LAST.KIND, 8), (PLX.LAST.FACET, globalFacet p (32 + c))])) ∧
        (takes → bytesAt (bfData b) 6 2 = foldDigest s.ownDigest → Gives (.canKeepaliveReceive p c b) s fun t =>
          t.reg (PLX.EVT 0) = s.reg (PLX.EVT 0) ∧ t.reg (PLX.LAST 0) = s.reg (PLX.LAST 0))) ∧
      (∀ p f, p < s.x → f < 64 → s.ezLane p f = true →
        let l := s.eth (fk p f)
        let sa := (s.reg (ETH.MATCH p f 0)).toNat
        (s.pastMs l.helloAt 1 = true → Gives (.hello p f false) s fun t => (t.eth (fk p f)).helloAt = s.edges ∧ ∃ b, t.out = .eth p f b :: s.out ∧
          b.take 50 = (ezFrame (s.linkMac p f) sa (s.ezHeader 0 0 0 0xFFFF 0
            (beBytes 2 s.devId ++ beBytes 2 (s.helloDomain p f) ++ beBytes 6 s.serial ++ beBytes 6 l.heard))).take 50) ∧
        (∀ e rest, let m := ezParse e
          s.ezFirst 0 e rest → m.facet = globalFacet p f → Gives (.hello p f true) s fun t =>
            let shook := l.shook || ((s.booting p f || m.at 2 2 == s.helloDomain p f || m.at 2 2 == 0) && m.at 10 6 == s.serial)
            (t.eth (fk p f)).heard = m.at 4 6 ∧ (t.eth (fk p f)).heardMac = m.mac ∧ (t.eth (fk p f)).hello = some now ∧
              (t.eth (fk p f)).shook = shook ∧ (t.eth (fk p f)).raw = (l.lane && shook) ∧
              ((l.lane && shook) = l.raw → t.regs = s.regs)) ∧
        ((∀ n, l.hello = some n → 10000000 ≤ s.leadAge n) → Gives (.helloLoss p f) s fun t =>
          (t.eth (fk p f)).raw = false ∧ (t.eth (fk p f)).shook = false ∧ (t.eth (fk p f)).hello = none ∧
            (t.eth (fk p f)).up = l.up ∧ t.regs = s.regs) ∧
        (let freed := (List.range 8).map fun c => s.ezFreed p f c
         l.up = true → l.ezTold ≠ freed → Gives (.credit p f false) s fun t => (t.eth (fk p f)).ezTold = freed ∧
          t.out = .eth p f (ezFrame (s.linkMac p f) sa (s.ezHeader 2 0 0 0xFFFF 0 (freed.flatMap fun n => beBytes 4 n))) :: s.out) ∧
        (∀ e rest, let m := ezParse e
          s.ezFirst 2 e rest → m.facet = globalFacet p f → Gives (.credit p f true) s fun t =>
            t.eth (fk p f) = { l with ezAck := (List.range 8).map fun c => m.at (4 * c) 4 } ∧ t.regs = s.regs)) ∧
      (∀ e rest, let m := ezParse e
        let z := s.ezTaken 3 m rest
        let dst := m.hdr 6 2
        let mine := dst = s.devId ∨ dst = 0xFFFF
        let a := m.at 2 3
        let v := BitVec.ofNat 48 (m.at 5 6)
        s.ezFirst 3 e rest → s.ezTakes 3 m →
        (∀ r key, mine → m.at 11 1 = 0 → m.at 0 1 = 3 → z.ezRoute m.src = some r → r.1 % 64 < 32 → z.epochOk = true →
          z.ezSlot ≠ 0 → z.keyUse 0 z.ezSlot 5 (some 0) none none = .ok key →
          let h := z.ezHeader 4 1 hops m.src (z.plx.sent % 2 ^ 32)
            (beBytes 1 (m.at 1 1) ++ beBytes 1 0 ++ wordBytes (BitVec.ofNat 48 z.attn))
          Gives (.request false) s (sends z r.1 r.2 (h ++ octets ((cmac key (nats h)).take 8)))) ∧
        (∀ row, mine → m.at 11 1 = 0 → m.at 0 1 = 2 → s.fld (PLX.CFG 0) PLX.CFG.REMOTE_RIGHTS ≠ 0 →
          z.lands (.remote m.src) a v = true → z.refuses a v = false → aDie a < 4 →
          aBlk a < 3 ∨ (0x58 ≤ aBlk a ∧ aBlk a ≤ 0x5A) → aReg a ≠ 0x1FFF → regRow a = some row → row.kind ≠ .sc →
          Gives (.request false) s fun t =>
            Holds t a ((z.reg a &&& ~~~ BitVec.ofNat 48 row.wmask) ||| (v &&& BitVec.ofNat 48 row.wmask))) ∧
        (∀ r, ¬mine → z.ezRelays m = true → z.ezRoute (dst % 2 ^ 14) = some r → Gives (.request false) s fun t =>
          Counted (PLX.CNT 0 6) 1 z t)) ∧
      (∀ e rest c, let m := ezParse e
        s.ezFirst 4 e rest → s.ezTakes 4 m → m.hdr 6 2 = s.devId → codeOf (m.at 1 1) = some c →
        Gives (.reply false) s fun t => ∀ i, i < 2 → t.pendsAt i = (s.pendsAt i).map fun e =>
          match e.st with
          | .remote u _ =>
            if u = m.at 0 1 ∧ e.addr / 2 ^ 24 % 2 ^ 14 = m.src then { e with st := .ready c ((m.body.drop 2).take 6) s.edges } else e
          | _ => e) ∧
      (∀ e rest, let m := ezParse e
        let z := { s with plx := { s.plx with inbox := rest } }
        let w1 := s.stagedWord 1
        let serial := m.at 0 6
        let want := s.fld (PLX.SERVE_SERIAL 0) PLX.SERVE_SERIAL.SERIAL
        s.ezFirst 6 e rest →
        (Gives (.bootReq true) s fun t => Counted (PLX.CNT 0 12) 1 s t ∧ t.plx.serving = s.plx.serving) ∧
        (s.serves m.facet = true → m.facet % 64 < 32 → s.serveBusy m.facet serial = false → want = 0 ∨ want = serial →
          fget (s.stagedWord 0) ⟨16, 32⟩ = 0xFA1D1A6E → fget w1 ⟨32, 3⟩ = m.at 8 1 % 8 → fget w1 ⟨36, 3⟩ = m.at 8 1 / 16 % 8 →
          m.at 6 2 ≤ fget w1 ⟨0, 16⟩ → Gives (.bootReq false) s fun t => t.plx.serving = some (m.facet, serial, now) ∧
            sends z m.facet m.mac (s.ezHeader 7 0 0 0xFFFF (if s.epochOk then s.plx.sent % 2 ^ 32 else 0)
              (beBytes 2 (fget w1 ⟨0, 16⟩) ++ beBytes 4 (fget (s.stagedWord 3) ⟨0, 32⟩))) t)) ∧
      (∀ e rest owner, let m := ezParse e
        let z := { s with plx := { s.plx with inbox := rest } }
        let i := m.at 0 4
        let n := min 200 (s.fld (PLX.SERVE 0) PLX.SERVE.WORDS - 200 * i)
        s.ezFirst 8 e rest → s.plx.serving = some owner → owner.1 = m.facet → m.facet % 64 < 32 → s.serves m.facet = true → n ≠ 0 →
        Gives (.chunkReq false) s fun t => Counted (PLX.CNT 0 11) 1 s t ∧
          t.plx.serving = some (owner.1, owner.2.1, now) ∧
          sends z m.facet m.mac (s.ezHeader 9 0 0 0xFFFF (if s.epochOk then s.plx.sent % 2 ^ 32 else 0)
            (beBytes 4 i ++ s.stagedBytes (200 * i) n)) t) ∧
      (∀ e rest, let m := ezParse e
        let total := m.at 2 4
        s.ezFirst 7 e rest → s.ld.st = .holdPeer → s.lanesOff = false → s.ld.pull = none → m.facet < 4 → 6 * total ≤ s.rxRoom →
        Gives .bootOffer s fun t => t.ld.rxTotal = total ∧ t.ld.rxWords = [] ∧
          ∃ u, t.ld.pull = some u ∧ u.facet = m.facet ∧ u.total = total ∧ u.next = min 16 (cdiv total 200) ∧
            u.asked = (List.range u.next).map fun j => (j, s.edges, 0)) ∧
      (∀ e rest u, let m := ezParse e
        let i := m.at 0 4
        let n := min 200 (u.total - 200 * i)
        s.ezFirst 9 e rest → s.ld.st = .holdPeer → s.lanesOff = false → s.ld.pull = some u → m.facet = u.facet →
        (∃ x ∈ u.asked, x.1 = i) → 4 + 6 * n ≤ m.body.length → Gives .chunk s fun t =>
          ∀ j, Sparse.get (fun _ => 0) t.ld.rxWords j =
            if 200 * i ≤ j ∧ j < 200 * i + n then (bytesToWords n (m.body.drop 4)).getD (j - 200 * i) 0
            else Sparse.get (fun _ => 0) s.ld.rxWords j) ∧
      (∀ i u x, s.ld.st = .holdPeer → s.lanesOff = false → s.ld.pull = some u → u.asked.find? (fun e => e.1 == i) = some x → s.pastMs x.2.1 20 = true →
        (10 ≤ x.2.2 → Gives (.chunkTimeout i) s fun t => t.ld.pull = none ∧ t.ld.rxWords = [] ∧ t.ld.st = s.ld.st) ∧
        (x.2.2 < 10 → Gives (.chunkTimeout i) s fun t => t.ld.pull = some
          { u with asked := u.asked.map fun y => if y.1 = i then (i, s.edges, y.2.2 + 1) else y }))) ∧
    (∀ (w : Sender) (ag : Agent) (z : State) (v : Nat),
      let id := fget (BitVec.ofNat 48 v) PLX.DT_CMD.ID
      let ends := fun (n : Nat) (t : State) => t.out = endOut w .ok z.out ∧ t.fld (PLX.DT_CMD 0) PLX.DT_CMD.RESULT = n ∧
        t.fld (PLX.DT_CMD 0) PLX.DT_CMD.ID = id
      (Reaches (.dtCmdRead w v) s ag z →
        (z.member id = none → Gives (.dtCmdRead w v) s fun t => ends 2 t ∧ OnlyRegs [PLX.DT_CMD 0] z t) ∧
        (∀ u, z.member id = some u → Gives (.dtCmdRead w v) s fun t => ends 0 t ∧ t.plx = z.plx ∧
          Holds t (PLX.DT_W0 0) (BitVec.ofNat 48 u.serial) ∧
          Holds t (PLX.DT_W1 0) (BitVec.ofNat 48 (u.route.getD (0, 0, 0)).2.1) ∧
          t.fld (PLX.DT_W2 0) PLX.DT_W2.HEARD = b2n (z.memberHeard u) ∧
          Holds t (PLX.DT_W3 0) (word [(PLX.DT_W3.RENEWAL, u.renewal), (PLX.DT_W3.EPOCH, u.epoch)]) ∧
          Holds t (PLX.DT_W4 0) (word [(PLX.DT_W4.SEQ, u.seq)]))) ∧
      (Reaches (.dtCmdRemove w v) s ag z →
        (z.member id = none → Gives (.dtCmdRemove w v) s fun t => ends 2 t ∧ t.plx = z.plx) ∧
        (z.member id ≠ none → Gives (.dtCmdRemove w v) s fun t => ends 0 t ∧ t.member id = none)))

/-- Monitors. A sample, which is its source's value at a slow-clock edge, the oldest value offered to the monitor, or a value that only the
command brings (log entry 136), goes into MIN, MAX, COUNT, SUM, its bin, UNDER and OVER, and a crossing of the threshold is an event; a
monitor that cannot take it counts it; where the source has no value, nothing changes; a snapshot copies a monitor whole, and OP 2 clears
it; FEED_VAL feeds the monitors that name it; an MCFG write clears its monitor (R715 to R721, R740 to R742). -/
def Obligations.MonitorsSampleAndSnapshot : Prop :=
  ∀ (s : State) (p m : Nat), p < 4 → m < 256 →
    let mon := fun (t : State) => t.mtr (monKey p m)
    let on := fun (z : State) => z.enabled p 0x80 = true ∧ z.mcfg p m LOUPE.MCFG_A.EN = 1
    let top := 2 ^ 48 - 1
    let clear := fun (z t : State) => mon t = { seq := ((mon z).seq + 1) % 65536, fromT := z.time p }
    let src := fun (z : State) => z.mcfg p m LOUPE.MCFG_A.SRC
    let value := fun (z : State) (v : Nat) (w : Word) =>
      if edgeSampled (src z) = true then (z.edgeSource p (src z) (z.mcfg p m LOUPE.MCFG_A.ARG)).map (BitVec.ofInt 48) = some w
      else if measuredSource (src z) = true then w = BitVec.ofNat 48 v
      else z.mon.offered.find? (fun e => e.1 == monKey p m) = some (monKey p m, w)
    (p < s.x → s.prismUp = true → ∀ v w, value s v w →
      let u := mon s
      let taken := fun (t : State) =>
        if edgeSampled (src s) = true ∨ measuredSource (src s) = true then t.mon.offered = s.mon.offered
        else t.mon.offered = s.mon.offered.erase (monKey p m, w)
      let g := decide (s.mcfg p m LOUPE.MCFG_A.SIGNED = 1)
      let log := s.mcfg p m LOUPE.MCFG_A.LOG = 1
      let width := s.fld (LOUPE.MCFG_C p m) LOUPE.MCFG_C.WIDTH
      let thresh := sampleInt g (s.reg (LOUPE.MCFG_D p m))
      let a := sampleInt g w
      let d := a - sampleInt g (s.reg (LOUPE.MCFG_B p m))
      let lo : Int := if g then -(2 ^ 47) else 0
      let hi : Int := if g then 2 ^ 47 - 1 else 2 ^ 48 - 1
      let bin := if d < 0 then 0 else if log then (if d = 0 then 0 else min 63 (Nat.log2 d.toNat + 1))
        else if d < 64 * width then d.toNat / width else 63
      let passes := if s.mcfg p m LOUPE.MCFG_A.THR_DIR = 1 then a < thresh else thresh < a
      let crosses := s.mcfg p m LOUPE.MCFG_A.THR_EN = 1 ∧ passes ∧ u.passed = false
      (on s → Gives (.loupeSample p m v true) s fun t =>
        (mon t).none = false ∧
        (mon t).low = (if u.none = true ∨ a < sampleInt g u.low then w else u.low) ∧
        (mon t).high = (if u.none = true ∨ sampleInt g u.high < a then w else u.high) ∧
        (mon t).count = min (u.count + 1) top ∧
        (mon t).sum = max lo (min hi (u.sum + a)) ∧
        ((mon t).sumSat = true ↔ u.sumSat = true ∨ u.sum + a < lo ∨ hi < u.sum + a) ∧
        (mon t).under = min (u.under + if d < 0 then 1 else 0) top ∧
        (mon t).past = min (u.past + if ¬log ∧ 0 ≤ d ∧ 64 * width ≤ d then 1 else 0) top ∧
        (mon t).skipped = u.skipped ∧ (mon t).seq = u.seq ∧ (mon t).fromT = u.fromT ∧
        (∀ j, Sparse.get (fun _ => 0) (mon t).bins j =
          if j = bin then min (Sparse.get (fun _ => 0) u.bins j + 1) top else Sparse.get (fun _ => 0) u.bins j) ∧
        ((mon t).passed = true ↔ passes) ∧
        (crosses → Logged (LOUPE.EVT p) 0 s t ∧ Holds t (LOUPE.LAST p) (word [(LOUPE.LAST.MON, m)]) ∧
          (s.mcfg p m LOUPE.MCFG_A.TRIG = 1 → (t.recorder p).trigs = (s.recorder p).trigs ++ [(2, s.time p)])) ∧
        (¬crosses → t.regs = s.regs ∧ t.recorder p = s.recorder p) ∧ taken t) ∧
      (on s → Gives (.loupeSample p m v false) s fun t =>
        mon t = { u with skipped := min (u.skipped + 1) top } ∧ t.regs = s.regs ∧ taken t) ∧
      (¬on s → ∀ b, Gives (.loupeSample p m v b) s fun t => mon t = u ∧ t.regs = s.regs ∧ taken t)) ∧
    (p < s.x → s.prismUp = true → ∀ v b, (∀ w, ¬value s v w) → Gives (.loupeSample p m v b) s fun t => t = s) ∧
    (∀ (w : Sender) (ag : Agent) (z : State) (v : Nat),
      let x := BitVec.ofNat 48 v
      let ok := fun (t : State) => t.out = endOut w .ok z.out
      let u := mon z
      let held := fun (b : Nat) (t : State) =>
        Holds t (LOUPE.SNAP_HDR p b) (word [(LOUPE.SNAP_HDR.MON, m), (LOUPE.SNAP_HDR.SEQ, u.seq),
          (LOUPE.SNAP_HDR.NO_SAMPLE, b2n u.none), (LOUPE.SNAP_HDR.SUM_SAT, b2n u.sumSat),
          (LOUPE.SNAP_HDR.SIGNED, z.mcfg p m LOUPE.MCFG_A.SIGNED), (LOUPE.SNAP_HDR.LOG, z.mcfg p m LOUPE.MCFG_A.LOG),
          (LOUPE.SNAP_HDR.VALID, 1), (LOUPE.SNAP_HDR.SRC, z.mcfg p m LOUPE.MCFG_A.SRC)]) ∧
        Holds t (LOUPE.SNAP_MIN p b) u.low ∧ Holds t (LOUPE.SNAP_MAX p b) u.high ∧
        Holds t (LOUPE.SNAP_COUNT p b) (BitVec.ofNat 48 u.count) ∧ Holds t (LOUPE.SNAP_SUM p b) (BitVec.ofInt 48 u.sum) ∧
        Holds t (LOUPE.SNAP_UNDER p b) (BitVec.ofNat 48 u.under) ∧ Holds t (LOUPE.SNAP_OVER p b) (BitVec.ofNat 48 u.past) ∧
        Holds t (LOUPE.SNAP_SKIPPED p b) (BitVec.ofNat 48 u.skipped) ∧ Holds t (LOUPE.SNAP_T_SNAP p b) (BitVec.ofNat 48 (z.time p)) ∧
        Holds t (LOUPE.SNAP_T_FROM p b) (BitVec.ofNat 48 u.fromT) ∧
        ∀ i, i < 64 → Holds t (snapBin p b i) (BitVec.ofNat 48 (Sparse.get (fun _ => 0) u.bins i))
      (fget x LOUPE.SNAP_CMD.MON = m →
        (Reaches (.snapCmdSnapshot w p v) s ag z → Gives (.snapCmdSnapshot w p v) s fun t => ok t ∧
          held (fget x LOUPE.SNAP_CMD.BANK) t ∧ mon t = u) ∧
        (Reaches (.snapCmdSnapshotClear w p v) s ag z → Gives (.snapCmdSnapshotClear w p v) s fun t => ok t ∧
          held (fget x LOUPE.SNAP_CMD.BANK) t ∧ clear z t)) ∧
      (Reaches (.feedVal w p v) s ag z → Gives (.feedVal w p v) s fun t => ok t ∧ Holds t (LOUPE.FEED_VAL p) x ∧
        let fed := on z ∧ z.mcfg p m LOUPE.MCFG_A.SRC = 0x0FF ∧
          z.mcfg p m LOUPE.MCFG_A.ARG = z.fld (LOUPE.FEED_ARG p) LOUPE.FEED_ARG.ARG
        (fed → (mon t).count = min (u.count + 1) top ∧ (mon t).none = false) ∧ (¬fed → mon t = u)) ∧
      (∀ j, j < 4 → Reaches (.mcfgWrite w p m j v) s ag z →
        let a := ra p 0x80 (0x100 + 4 * m + j)
        ((j = 0 → (∃ r, sourceArgs (fget x LOUPE.MCFG_A.SRC) = some r ∧ r.1 ≤ fget x LOUPE.MCFG_A.ARG ∧ fget x LOUPE.MCFG_A.ARG < r.2) ∧
            (fget x LOUPE.MCFG_A.LOG = 1 ∨ z.fld (LOUPE.MCFG_C p m) LOUPE.MCFG_C.WIDTH ≠ 0)) →
          (j = 2 → fget x LOUPE.MCFG_C.WIDTH ≠ 0 ∨ z.mcfg p m LOUPE.MCFG_A.LOG = 1) →
          Gives (.mcfgWrite w p m j v) s fun t => ok t ∧ Holds t a x ∧ OnlyRegs [a] z t ∧ clear z t ∧
            t.mon.offered = z.mon.offered.filter fun e => e.1 != monKey p m) ∧
        ((j = 0 ∧ sourceArgs (fget x LOUPE.MCFG_A.SRC) = none ∧ fget x LOUPE.MCFG_A.SRC ≠ 0) ∨
            (j = 2 ∧ fget x LOUPE.MCFG_C.WIDTH = 0 ∧ z.mcfg p m LOUPE.MCFG_A.LOG = 0) →
          Gives (.mcfgWrite w p m j v) s fun t => Flagged a 0 ag z t ∧ t.out = endOut w .badValue z.out ∧ mon t = u)))

/-- The recorder. It comes up over its link and its checks, restores its ring from the superblock and runs; it takes frames into records,
writes full chunks, and flushes; a failure of the drive ends it in ERROR; triggers open, merge into or are refused an episode, which
closes after its window and is released; read-back reads the drive into RD_BUF or firmware memory (R726 to R732, R734 to R739, R744,
R747). -/
def Obligations.RecorderRunsItsRing : Prop :=
  ∀ (s : State) (p : Nat), p < 4 →
    let rec1 := fun (t : State) => t.recorder p
    let base := fun (z : State) => z.fld (PSCP.RING p) PSCP.RING.BASE * 2 ^ 30
    let size := fun (z : State) => z.fld (PSCP.RING p) PSCP.RING.SIZE * 2 ^ 30
    let result := fun (n : Nat) (t : State) => t.fld (PSCP.RD_CMD p) PSCP.RD_CMD.RESULT = n
    (p < s.x → s.prismUp = true →
      let u := rec1 s
      let cnt := fun (i n : Nat) (t : State) => Counted (PSCP.CNT p i) n s t
      let fails := fun (kind status : Nat) (t : State) => (rec1 t).st = .error ∧ Logged (PSCP.EVT p) 0 s t ∧
        Holds t (PSCP.LAST_ERR p) (word [(PSCP.LAST_ERR.KIND, kind), (PSCP.LAST_ERR.STATUS, status)])
      let super := fun (sb : List Byte) => sbValid sb = true ∧ bytesAt sb 4 6 = (u.sbSeq + 1) % 2 ^ 48
      let sbAddr := base s + 4096 * (1 - u.sbAt)
      (∀ width speed, u.st = .link → width = 1 ∨ width = 2 ∨ width = 4 → 1 ≤ speed → speed ≤ 4 →
        Gives (.recorderLinkUp p width speed) s fun t => rec1 t = { u with st := .init, width := width, speed := speed } ∧
          t.regs = s.regs) ∧
      (u.st = .link → s.pastMs u.linkAt 100 = true → Gives (.recorderLinkTimeout p) s (fails 1 0)) ∧
      (∀ ready lba blocks, u.st = .init → size s ≠ 0 →
        let good := lba = 512 ∨ lba = 4096
        let fits := (s.reg (PSCP.NS_OFFSET p)).toNat + size s / lba ≤ blocks
        (ready = false → Gives (.recorderInitDone p ready lba blocks) s (fails 2 0)) ∧
        (ready = true → ¬good → Gives (.recorderInitDone p ready lba blocks) s (fails 3 0)) ∧
        (ready = true → good → ¬fits → Gives (.recorderInitDone p ready lba blocks) s (fails 4 0)) ∧
        (ready = true → good → fits → Gives (.recorderInitDone p ready lba blocks) s fun t => rec1 t = { u with st := .resume })) ∧
      (∀ a b heads, u.st = .resume →
        (sbValid a = false → sbValid b = false → Gives (.recorderResume p a b heads) s fun t => (rec1 t).st = .running ∧
          (rec1 t).eps = [] ∧ cnt 0 1 t ∧ (u.cur = [] → (rec1 t).fill = base s + 2 ^ 20 ∧ (rec1 t).chunkNo = 0) ∧
          ((∃ h l, heads = h :: l ∧ bytesAt h 0 4 = 0x7E5C0C42) → Logged (PSCP.EVT p) 3 s t)) ∧
        (∀ c i, (c = a ∧ i = 0 ∧ sbValid a = true ∧ (sbValid b = false ∨ bytesAt b 4 6 ≤ bytesAt a 4 6)) ∨
            (c = b ∧ i = 1 ∧ sbValid b = true ∧ (sbValid a = false ∨ bytesAt a 4 6 < bytesAt b 4 6)) → u.cur = [] →
          let r0 : Recorder := { u with
            fill := bytesAt c 10 6, chunkNo := bytesAt c 16 6, sbSeq := bytesAt c 4 6, sbAt := i, openEp := none
            eps := (List.range 16).map (sbEpisode c) }
          let r1 := s.walkChunks p (bytesAt c 22 2) heads r0
          Gives (.recorderResume p a b heads) s fun t => (rec1 t).st = .running ∧ cnt 0 1 t ∧ (rec1 t).fill = r1.fill ∧
            (rec1 t).chunkNo = r1.chunkNo ∧ (heads = [] → r1 = r0) ∧
            (∀ j, j < 16 → (rec1 t).eps.getD j none = (sbEpisode c j).map fun e =>
              if e.closed then e else { e with stop := r1.fill, closed := true, trunc := true }) ∧
            ((∃ j e, j < 16 ∧ sbEpisode c j = some e ∧ (e.closed = false ∨ e.trunc = true)) →
              (rec1 t).sbAt = 1 - i ∧ (rec1 t).sbSeq = bytesAt c 4 6 + 1 ∧
              ∃ sb, t.out = .nvme p 0 (base s + 4096 * (1 - i)) 540 sb :: s.out))) ∧
      (∀ q r, s.enabled p 0x81 = true → s.waits p 62 (fun _ => true) = some (q, r) →
        let z := s.afterTake p 62 fun _ => true
        let n := z.recLost (globalQueue p q)
        (u.st = .error → Gives (.recordTake p) s fun t => Counted (PSCP.CNT p 4) 1 z t ∧ t.sw = z.sw ∧ rec1 t = rec1 z) ∧
        ((u.st = .running ∨ u.st = .post) → s.recBlocked p = false → Gives (.recordTake p) s fun t => t.sw = z.sw ∧
          Counted (PSCP.CNT p 0) (if n = 0 then 1 else 2) z t ∧ t.recLost (globalQueue p q) = 0 ∧
          (n ≠ 0 → Counted (PSCP.CNT p 2) 1 z t) ∧
          (let fr := r.fr
           let c := fr.copy.getD {}
           let body := if fr.bus then fr.data else fr.data.take (fr.data.length - 4)
           let cap := if c.snap = 0 then body else body.take c.snap
           let len := 8 * cdiv (32 + cap.length) 8
           let time := if z.mapped then z.ptpOf c.time else (0, c.time % 2 ^ 32)
           n = 0 → (rec1 z).cur.length + len < 131040 → (rec1 t).cur = (rec1 z).cur ++
            (beBytes 1 1 ++
              beBytes 1 (b2n c.egress + 2 * b2n (decide (cap.length < body.length)) + 4 * b2n (!z.mapped)) ++
              beBytes 2 len ++ beBytes 6 time.1 ++ beBytes 4 time.2 ++ beBytes 1 fr.src ++ beBytes 1 fr.cls ++ beBytes 1 c.sel ++
              beBytes 1 0 ++ beBytes 2 (if c.egress then c.queue else 0) ++ beBytes 2 body.length ++ beBytes 2 fr.fid ++
              beBytes 2 cap.length ++ beBytes 6 0) ++ padTo (len - 32) cap))) ∧
      (∀ c l, u.cmds.length < 64 → u.full = c :: l → Gives (.chunkWrite p) s fun t =>
        t.out = .nvme p 0 c.1 131072 c.2 :: s.out ∧ rec1 t = { u with full := l, cmds := u.cmds ++ [(.write, s.edges)] } ∧ cnt 8 1 t) ∧
      (∀ t0, (u.st = .running ∨ u.st = .post) → s.recBlocked p = false → u.since = some t0 →
        s.fld (PSCP.CFG p) PSCP.CFG.FLUSH_MS * 1000000 ≤ (s.time p + 2 ^ 48 - t0) % 2 ^ 48 →
        (∀ q, s.recLost q = 0) → u.cur ≠ [] → u.cur.length < 131040 → u.full = [] → u.cmds.length < 64 → u.openEp = none →
        Gives (.recorderFlush p) s fun t => (rec1 t).cur = [] ∧ (rec1 t).full = [] ∧ (rec1 t).chunkNo = u.chunkNo + 1 ∧
          ∃ chunk sb, t.out = .nvme p 0 sbAddr 540 sb :: .nvme p 2 0 0 [] :: .nvme p 0 u.fill 131072 chunk :: s.out ∧ super sb ∧
            chunk.length = 131072 ∧
            chunk.take (32 + u.cur.length) = beBytes 4 0x7E5C0C42 ++ beBytes 1 1 ++ beBytes 1 p ++
              beBytes 2 (s.fld (IMG.ID 0) IMG.ID.DEVICE_ID) ++ beBytes 2 (s.fld (IMG.EPOCH 0) IMG.EPOCH.EPOCH) ++
              beBytes 6 u.chunkNo ++ beBytes 4 (if u.first = 0 ∧ u.cur.length ≤ 131008 then 32 + u.cur.length else u.first) ++
              beBytes 12 0 ++ u.cur) ∧
      (∀ i kind status c, u.cmds[i]? = some c → c.1 ≠ .read → (kind = 6 → s.pastMs c.2 2000 = true) →
        let runs := u.st = .running ∨ u.st = .post
        let bad := kind = 5 ∨ kind = 6 ∨ kind = 8
        (¬bad → Gives (.nvmeCompletion p i kind status) s fun t => rec1 t = { u with cmds := u.cmds.eraseIdx i } ∧ t.regs = s.regs) ∧
        (bad → runs → Gives (.nvmeCompletion p i kind status) s fun t => fails kind (status % 32768) t ∧ cnt 9 1 t) ∧
        (bad → ¬runs → Gives (.nvmeCompletion p i kind status) s fun t => rec1 t = { u with cmds := u.cmds.eraseIdx i } ∧ cnt 9 1 t)) ∧
      ((u.st = .running ∨ u.st = .post) → Gives (.recorderLinkLost p) s fun t => fails 7 0 t ∧ (rec1 t).width = 0 ∧
        (rec1 t).speed = 0) ∧
      (∀ src t0, s.enabled p 0x81 = true → u.trigs = [(src, t0)] → 1 ≤ src → src ≤ 4 →
        let w := { u with trigs := [] }
        let opens := fun (r : Recorder) (t : State) => (rec1 t).st = .post ∧ (rec1 t).trigs = [] ∧ cnt 5 1 t ∧ cnt 0 1 t ∧
          ∃ i e, i < 16 ∧ r.eps.getD i none = none ∧ (rec1 t).eps.getD i none = some e ∧ (rec1 t).openEp = some (i, s.time p) ∧
            e.closed = false ∧ e.source = src ∧ e.trig = r.fill + 32 + r.cur.length
        (u.st = .running → s.epRoom p w = true → u.cur.length + 32 < 131040 → Gives (.triggerTake p) s (opens w)) ∧
        (u.st = .running → s.epRoom p w = false → s.fld (PSCP.CFG p) PSCP.CFG.FULL_ACTION = 1 →
          s.epRoom p (s.makeRoom p 16 w) = true → u.cur.length + 32 < 131040 →
          Gives (.triggerTake p) s (opens (s.makeRoom p 16 w))) ∧
        (u.st = .running → s.epRoom p w = false → s.fld (PSCP.CFG p) PSCP.CFG.FULL_ACTION = 0 →
          Gives (.triggerTake p) s fun t => rec1 t = w ∧ cnt 7 1 t ∧ Logged (PSCP.EVT p) 2 s t) ∧
        (u.st = .post → u.cur.length + 32 < 131040 → Gives (.triggerTake p) s fun t => cnt 6 1 t ∧ cnt 0 1 t ∧
          (rec1 t).st = .post ∧ (rec1 t).openEp = u.openEp ∧ (rec1 t).eps = u.eps ∧ (rec1 t).trigs = []) ∧
        (u.st ≠ .running → u.st ≠ .post → Gives (.triggerTake p) s fun t => rec1 t = w ∧ cnt 7 1 t ∧
          t.reg (PSCP.EVT p) = s.reg (PSCP.EVT p))) ∧
      (∀ i t0 e, u.openEp = some (i, t0) → u.st = .post → u.eps.getD i none = some e →
        s.fld (PSCP.TRIG p) PSCP.TRIG.POST_MS * 1000000 ≤ (s.time p + 2 ^ 48 - t0) % 2 ^ 48 →
        Gives (.episodeClose p) s fun t => Logged (PSCP.EVT p) 1 s t ∧ (rec1 t).openEp = none ∧
          (rec1 t).st = (if s.fld (PSCP.CFG p) PSCP.CFG.MODE = 1 then .stopped else .running) ∧
          (∃ f, (rec1 t).eps.getD i none = some { e with stop := f, closed := true, trunc := false } ∧ (u.cur = [] → f = u.fill)) ∧
          ∃ sb l, t.out = .nvme p 0 sbAddr 540 sb :: .nvme p 2 0 0 [] :: l ∧ super sb) ∧
      (∀ ok data,
        let n := s.fld (PSCP.RD_CMD p) PSCP.RD_CMD.LEN
        let b := padTo n data
        let dest := s.fld (PSCP.RD_MEM p) PSCP.RD_MEM.ADDR
        result 1 s →
        (ok = false → Gives (.rdCmdDone p ok data) s fun t => result 4 t ∧ cnt 9 1 t ∧ t.mem = s.mem) ∧
        (ok = true → u.rdPart = none → n ≤ 384 → Gives (.rdCmdDone p ok data) s fun t => result 2 t ∧ t.mem = s.mem ∧
          ∀ i, 6 * i + 6 ≤ n → Holds t (PSCP.RD_BUF p i) (bytesWord ((b.drop (6 * i)).take 6))) ∧
        (∀ k, ok = true → u.rdPart = some k →
          (s.windowOk p k dest n 46 = true → Gives (.rdCmdDone p ok data) s fun t => result 2 t ∧
            ∀ a, t.memByte p a = if dest ≤ a ∧ a < dest + n then b.getD (a - dest) 0 else s.memByte p a) ∧
          (s.windowOk p k dest n 46 = false → Gives (.rdCmdDone p ok data) s fun t => result 5 t ∧ t.mem = s.mem)))) ∧
    (∀ (w : Sender) (ag : Agent) (z : State) (v : Nat),
      let x := BitVec.ofNat 48 v
      let u := rec1 z
      let ok := fun (t : State) => t.out = endOut w .ok z.out
      let i := fget x PSCP.CMD.EPI
      let closed := ∃ e, u.eps.getD i none = some e ∧ e.closed = true
      (Reaches (.trigger w p v) s ag z → (fget x PSCP.CMD.RELEASE = 1 → closed) → Gives (.trigger w p v) s fun t =>
        (rec1 t).trigs = u.trigs ++ [(1, z.time p)] ∧ Holds t (PSCP.CMD p) (word [(PSCP.CMD.EPI, i)])) ∧
      (Reaches (.restart w p v) s ag z → (fget x PSCP.CMD.RELEASE = 1 → closed) →
        (u.st = .error ∨ u.st = .stopped → z.clk.internalOnly = false → z.enabled p 0x81 = true →
          Gives (.restart w p v) s fun t => (rec1 t).st = .link ∧ (rec1 t).linkAt = z.edges ∧ (rec1 t).width = 0 ∧
            (rec1 t).speed = 0) ∧
        (u.st ≠ .error → u.st ≠ .stopped → Gives (.restart w p v) s fun t => (rec1 t).st = u.st)) ∧
      (Reaches (.release w p v) s ag z →
        (closed → Gives (.release w p v) s fun t => ∀ j, (rec1 t).eps.getD j none = if j = i then none else u.eps.getD j none) ∧
        (¬closed → Gives (.release w p v) s fun t => Flagged (PSCP.CMD p) 0 ag z t ∧ t.out = endOut w .badValue z.out ∧
          rec1 t = u)) ∧
      (s.hostWriter w = some ag → s.regIs (PSCP.RD_CMD p) = true → v < 2 ^ 48 → fget x PSCP.RD_CMD.START = 1 → fget x PSCP.RD_CMD.MEM = 1 →
        exec (.rdCmd w p v) s = .next { s with out := .reply ag .denied 0 :: s.out }) ∧
      (Reaches (.rdCmd w p v) s ag z →
        let n := fget x PSCP.RD_CMD.LEN
        let at1 := (z.reg (PSCP.RD_ADDR p)).toNat
        let mem := fget x PSCP.RD_CMD.MEM = 1
        let legal := (u.st = .running ∨ u.st = .post ∨ u.st = .stopped) ∧ 1 ≤ n ∧ n ≤ (if mem then 1048576 else 384) ∧
          base z ≤ at1 ∧ at1 + n ≤ base z + size z
        (result 1 z → Gives (.rdCmd w p v) s fun t => Flagged (PSCP.RD_CMD p) 0 ag z t ∧ t.out = endOut w .badValue z.out ∧
          rec1 t = u) ∧
        (∀ part, ¬result 1 z → (¬mem ∧ part = none) ∨ (mem ∧ ∃ k c h, ag = .fw p k c h ∧ part = some k) →
          (legal → u.full = [] → Gives (.rdCmd w p v) s fun t => result 1 t ∧ Counted (PSCP.CNT p 10) 1 z t ∧
            rec1 t = { u with rdPart := part, cmds := u.cmds ++ [(.read, z.edges)] } ∧ t.out = endOut w .ok (.nvme p 1 at1 n [] :: z.out)) ∧
          (¬legal → Gives (.rdCmd w p v) s fun t => result 3 t ∧ ok t ∧ rec1 t = u))))
end

