-- ==== Sys2Proof/Laws/Run.lean ====
section
/-! SUPPORT. How actions run: one lemma per combinator, and what a chain of actions keeps when each of them keeps it. -/

namespace Sys2Proof.Machine

/-- An outcome is a next state exactly of the action's result. -/
@[simp] theorem Act.go_eq (a : Act) (s : State) : Act.go a s = .next (a.run s) := rfl

@[simp] theorem Act.skip_run (s : State) : Act.skip.run s = s := rfl

@[simp] theorem Act.seq_run (a b : Act) (s : State) : (Act.seq a b).run s = b.run (a.run s) := rfl

@[simp] theorem Act.get_run (k : State → Act) (s : State) : (Act.get k).run s = (k s).run s := rfl

@[simp] theorem Act.all_nil (s : State) : (Act.all []).run s = s := rfl

@[simp] theorem Act.all_cons (a : Act) (l : List Act) (s : State) : (Act.all (a :: l)).run s = (Act.all l).run (a.run s) := rfl

@[simp] theorem Act.each_nil {α : Type} (f : α → Act) (s : State) : (Act.each [] f).run s = s := rfl

@[simp] theorem Act.each_cons {α : Type} (x : α) (l : List α) (f : α → Act) (s : State) :
    (Act.each (x :: l) f).run s = (Act.each l f).run ((f x).run s) := rfl

@[simp] theorem Act.opt_none {α : Type} (f : α → Act) : Act.opt none f = Act.skip := rfl

@[simp] theorem Act.opt_some {α : Type} (x : α) (f : α → Act) : Act.opt (some x) f = f x := rfl

@[simp] theorem Act.upd_run (f : State → State) (h : ∀ s, Quiet s (f s)) (s : State) : (Act.upd f h).run s = f s := rfl

@[simp] theorem Act.when_run (c : Prop) [Decidable c] (a : Act) (s : State) :
    (Act.when c a).run s = if c then a.run s else s := by
  unfold Act.when
  split <;> rfl

/-- A choice between two actions runs the chosen one. -/
@[simp] theorem Act.ite_run (c : Prop) [Decidable c] (a b : Act) (s : State) :
    (if c then a else b).run s = if c then a.run s else b.run s := by
  split <;> rfl

@[simp] theorem Act.free_run (k : Nat → Act) (s : State) : (Act.free k).run s = (k s.freeCount).run (bumpFree s) := rfl

@[simp] theorem Act.setReg_run (a : Nat) (v : Word) (s : State) : (Act.setReg a v).run s = storeReg a v s := rfl

/-- What every action of a list keeps, running the list keeps. -/
theorem Act.all_keeps {β : Type} (f : State → β) (l : List Act) (h : ∀ a ∈ l, ∀ s, f (a.run s) = f s) :
    ∀ s, f ((Act.all l).run s) = f s := by
  induction l with
  | nil => intro s; rfl
  | cons a l ih =>
    intro s
    rw [Act.all_cons, ih (fun b hb => h b (List.mem_cons_of_mem _ hb)), h a (List.mem_cons_self ..)]

/-- What the action of every element keeps, running them all keeps. -/
theorem Act.each_keeps {α β : Type} (f : State → β) (l : List α) (g : α → Act)
    (h : ∀ x ∈ l, ∀ s, f ((g x).run s) = f s) (s : State) : f ((Act.each l g).run s) = f s := by
  refine Act.all_keeps f (l.map g) ?_ s
  intro a ha
  obtain ⟨x, hx, rfl⟩ := List.mem_map.mp ha
  exact h x hx

/-! ## Registers -/

/-- Reading a register after one was set: the register set gives its value without reserved bits (R20), every other one is as
before. -/
theorem State.reg_storeReg (a : Nat) (v : Word) (s : State) (b : Nat) :
    (storeReg a v s).reg b = if b = a then v &&& regMask a else s.reg b := by
  simp only [State.reg, storeReg, Sparse.get_put]

/-- An action that leaves the registers alone. -/
theorem State.reg_upd (f : State → State) (h : ∀ s, Quiet s (f s)) (s : State) (b : Nat) : (f s).reg b = s.reg b := by
  simp only [State.reg, (h s).regs]

end Sys2Proof.Machine
end

