-- ==== Sys2Proof/Laws/Access.lean ====
section
/-! SUPPORT. A write that passes every check has its register's effect; a read that reaches its register is answered. -/

namespace Sys2Proof.Machine

/-- How a write of a sender ends: the firmware's interrupt, and the reply to a host. -/
def Act.ends (w : Sender) (ag : Agent) (a : Nat) (c : Code) : Act :=
  Act.seq (Act.fwFail ag a c)
    (match w with
     | .spi => Act.replied .spi c
     | .eth => Act.replied .eth c
     | .hart _ _ _ => Act.skip)

/-- A write that is accepted: posted where its register is a posted one, with its effect otherwise (R155). -/
def Act.accepted (ag : Agent) (a : Nat) (v : Word) (k : Code → Act) : Act :=
  if posts a = true ∧ ag.outer = true then
    Act.seq (Act.setPosted (aDie a) (aBlk a) (some { addr := a, value := v, agent := ag })) (k .ok)
  else Act.effect ag a v k

/-- A write that passes every check is accepted. -/
theorem write_lands (s : State) (ag : Agent) (a : Nat) (v : Word) (k : Code → Act) (h : s.lands ag a v = true) :
    (Act.write ag false a v k).run s = (Act.accepted ag a v fun c => Act.seq (Act.fwFail ag a c) (k c)).run s := by
  simp only [State.lands, State.gated, Bool.and_eq_true, Bool.not_eq_true', Bool.and_eq_false_iff, bne_eq_false_iff_eq, beq_eq_false_iff_ne,
    decide_eq_false_iff_not] at h
  obtain ⟨⟨⟨⟨⟨⟨⟨⟨⟨h1, h2⟩, h3⟩, h4⟩, h5⟩, h6⟩, h7⟩, h8⟩, h9⟩, h10⟩ := h
  have e3 : ¬ (ag.outer = true ∧ s.startBusy = true) := by rcases h3 with h | h <;> simp [h]
  have e4 : ¬ (a = IMG.CMD 0 ∧ s.start.step ≠ 15) := by rcases h4 with h | h <;> simp [h]
  have e5 : ¬ (ag.outer = true ∧ True ∧ s.blockHeld (aDie a) (aBlk a) = true) := by rcases h5 with h | h <;> simp [h]
  have e7 : ¬ (4 ≤ aDie a ∧ blockSlow (aBlk a) = true ∧ (s.postedAt (aDie a) (aBlk a)).isSome = true) := by
    rcases h7 with (h | h) | h <;> simp [h]
  have e9 : ¬ (((regRow a).any fun w => w.kind == .cf) = true ∧ s.enabled (aDie a) (aBlk a) = true ∧ ignores a = false) := by
    rcases h9 with h | h <;> simp [h]
  unfold Act.write
  simp only [Act.get_run]
  rw [if_neg (by simp [h1]), if_neg (by simp [h2]), if_neg e3, if_neg e4, if_neg e5, if_neg (by simp [h6]), if_neg e7]
  unfold Act.writeKind
  simp only [Act.get_run]
  rw [if_neg (by simp [h8]), if_neg e9, if_neg (by simp [h10])]
  rfl

/-- A write that arrives is accepted in the state in which it arrives. -/
theorem send_accepted {s u : State} {w : Sender} {ag : Agent} {a : Nat} {v : Word} (h : s.arrives w a v = some (ag, u)) :
    (Act.send w a v).run s = (Act.accepted ag a v (Act.ends w ag a)).run u := by
  unfold State.arrives at h
  unfold Act.send
  simp only [Act.get_run]
  split at h
  · split at h
    · rename_i hc
      cases h
      simp only [Act.when_run, hc.1, if_true]
      exact write_lands s .spi a v _ hc.2
    · cases h
  · split at h
    · rename_i hc
      cases h
      simp only [Act.when_run, hc.1, hc.2.1, if_true]
      exact write_lands s .eth a v _ hc.2.2
    · cases h
  · rename_i p c hh
    split at h
    · cases h
    · rename_i k hk
      simp only [hk, Act.opt_some]
      unfold Act.hartStore
      split at h
      · rename_i hf
        split at h
        · rename_i hl
          cases h
          rw [if_pos hf]
          exact write_lands s _ a v _ hl
        · cases h
      · rename_i hf
        rw [if_neg hf]
        split at h
        · cases h
        · rename_i hn
          have hl : loadTarget a = none := by
            cases hx : loadTarget a with
            | none => rfl
            | some n => exact absurd (Or.inl (by simp [hx])) hn
          unfold Act.storeChecked
          simp only [hl]
          rw [if_neg (fun q => hn (Or.inr q))]
          split at h
          · cases h
          · rename_i e he
            split at h
            · rename_i hl2
              cases h
              unfold Act.aprBlock Act.aperture
              simp only [State.blockEntry, Option.filter_eq_some_iff, Bool.and_eq_true, Bool.or_eq_true,
                beq_iff_eq, decide_eq_true_eq] at he
              obtain ⟨he1, he2, he3⟩ := he
              simp only [Act.get_run, Option.isSome_none, Bool.and_true, beq_false]
              rw [he1]
              simp only
              by_cases hr : s.aprRate p e = 0
              · simp only [hr, if_true]
                simp only [State.charged, hr, if_true] at hl2 ⊢
                rw [if_neg (by simp [he3])]
                simp only [Act.when_run, if_true]
                exact write_lands s _ a v _ hl2
              · simp only [hr, false_or, if_false] at he2 ⊢
                simp only [State.charged, hr, if_false] at hl2 ⊢
                rw [if_pos he2, if_neg (by simp [he3])]
                simp only [Act.seq_run, Act.when_run, if_true]
                exact write_lands _ _ a v _ hl2
            · cases h

/-- The end of a write that is answered OK. -/
@[simp] theorem Act.ends_ok (w : Sender) (ag : Agent) (a : Nat) (s : State) :
    (Act.ends w ag a .ok).run s = { s with out := endOut w .ok s.out } := by
  cases w <;> cases ag <;> rfl

/-- A write that arrives at a register that is not a posted one has its register's effect in the state in which it arrives. -/
theorem send_arrives {s u : State} {w : Sender} {ag : Agent} {a : Nat} {v : Word} (h : s.arrives w a v = some (ag, u))
    (hp : posts a = false) : (Act.send w a v).run s = (Act.effect ag a v (Act.ends w ag a)).run u := by
  rw [send_accepted h]
  unfold Act.accepted
  simp [hp]

end Sys2Proof.Machine
end

