-- ==== Sys2Proof/Laws/Bits.lean ====
section
/-! SUPPORT. Bits and fields of words: what reading one gives after another has been set. -/

namespace Sys2Proof.Machine

/-- A bit of a word with a bit set. -/
theorem bit_setBit (v : Word) (i j : Nat) : bit (setBit v i) j = (bit v j || decide (j = i ∧ j < 48)) := by
  unfold bit setBit
  simp only [BitVec.getLsbD_or, BitVec.getLsbD_ofNat, Nat.one_shiftLeft, Nat.testBit_two_pow]
  congr 1
  by_cases h : i = j
  · subst h
    simp
  · simp [h, Ne.symm h]

/-- A bit of a word with a bit cleared. -/
theorem bit_clearBit (v : Word) (i j : Nat) : bit (clearBit v i) j = (bit v j && !decide (j = i)) := by
  unfold bit clearBit
  simp only [BitVec.getLsbD_and, BitVec.getLsbD_not, BitVec.getLsbD_ofNat, Nat.one_shiftLeft, Nat.testBit_two_pow]
  by_cases hj : j < 48
  · by_cases h : i = j
    · subst h
      simp [hj]
    · simp [hj, h, Ne.symm h]
  · simp [BitVec.getLsbD_of_ge v j (by omega)]

/-- A bit of a word with several bits cleared. -/
theorem bit_clearBits (v : Word) (l : List Nat) (j : Nat) : bit (clearBits v l) j = (bit v j && !decide (j ∈ l)) := by
  unfold clearBits
  induction l generalizing v with
  | nil => simp
  | cons i l ih =>
    rw [List.foldl_cons, ih, bit_clearBit]
    by_cases h : j = i <;> simp [h]

/-- A bit of a word with a field set. -/
theorem bit_fset (v : Word) (f : Fld) (n j : Nat) (hj : j < 48) :
    bit (fset v f n) j = if f.lo ≤ j ∧ j < f.lo + f.w then n.testBit (j - f.lo) else bit v j := by
  unfold bit fset fmask
  simp only [BitVec.getLsbD_or, BitVec.getLsbD_and, BitVec.getLsbD_not, BitVec.getLsbD_ofNat, hj, decide_true, Bool.true_and,
    Nat.testBit_shiftLeft, Nat.testBit_mod_two_pow, Nat.testBit_two_pow_sub_one, ge_iff_le]
  by_cases h : f.lo ≤ j
  · by_cases h2 : j < f.lo + f.w
    · have : j - f.lo < f.w := by omega
      simp [h, h2, this]
    · have : ¬ j - f.lo < f.w := by omega
      simp [h, h2, this]
  · simp [h]

/-- A bit of a field of a word. -/
theorem testBit_fget (v : Word) (f : Fld) (j : Nat) : (fget v f).testBit j = (decide (j < f.w) && bit v (f.lo + j)) := by
  unfold fget bit
  rw [Nat.testBit_mod_two_pow, Nat.testBit_shiftRight]
  rfl

/-- A field that has been set reads as what it was set to. -/
theorem fget_fset (v : Word) (f : Fld) (n : Nat) (h : f.lo + f.w ≤ 48) : fget (fset v f n) f = n % 2 ^ f.w := by
  apply Nat.eq_of_testBit_eq
  intro j
  rw [testBit_fget, Nat.testBit_mod_two_pow]
  by_cases hj : j < f.w
  · rw [bit_fset _ _ _ _ (by omega), if_pos (by omega)]
    simp
  · simp [hj]

/-- A field reads as before after another has been set. -/
theorem fget_fset_other (v : Word) (f g : Fld) (n : Nat) (hg : g.lo + g.w ≤ 48) (h : f.lo + f.w ≤ g.lo ∨ g.lo + g.w ≤ f.lo) :
    fget (fset v f n) g = fget v g := by
  apply Nat.eq_of_testBit_eq
  intro j
  rw [testBit_fget, testBit_fget]
  by_cases hj : j < g.w
  · rw [bit_fset _ _ _ _ (by omega), if_neg (by omega)]
  · simp [hj]

/-- A bit of the word whose bits are masked. -/
theorem bit_and (v m : Word) (j : Nat) : bit (v &&& m) j = (bit v j && bit m j) := by
  unfold bit
  exact BitVec.getLsbD_and

end Sys2Proof.Machine
end

