-- ==== Sys2Proof/Laws/Map.lean ====
section
/-! SUPPORT. The parts of an address, and the map's row of a register by die and unit. -/

namespace Sys2Proof.Machine

theorem aDie_ra {d b r : Nat} (hb : b < 256) (hr : r < 8192) : aDie (ra d b r) = d := by
  simp only [aDie, ra]; omega

theorem aBlk_ra {d b r : Nat} (hb : b < 256) (hr : r < 8192) : aBlk (ra d b r) = b := by
  simp only [aBlk, ra]; omega

theorem aReg_ra {d b r : Nat} (hr : r < 8192) : aReg (ra d b r) = r := by
  simp only [aReg, ra]; omega

/-- Two registers are the same only with the same die, block and number. -/
theorem ra_inj {d b r d' b' r' : Nat} (hb : b < 256) (hr : r < 8192) (hb' : b' < 256) (hr' : r' < 8192) :
    ra d b r = ra d' b' r' ↔ d = d' ∧ b = b' ∧ r = r' := by
  simp only [ra]; omega

/-- The row of a register, by its rows and number. -/
def rowAt (o : Option (List RegRow)) (r : Nat) : Option RegRow :=
  match o with
  | none => none
  | some rows => (rowsCommon ++ rows).find? fun w => w.holds r

theorem regRow_prismAt {p b r : Nat} (hp : p < 4) (hb : b < 256) (hr : r < 8192) : regRow (ra p b r) = rowAt (rowsPrism b) r := by
  have h : blockRows (ra p b r) = rowsPrism b := by
    unfold blockRows
    rw [aDie_ra hb hr, aBlk_ra hb hr, if_pos hp]
  unfold regRow rowAt
  rw [h, aReg_ra hr]
  all_goals (cases rowsPrism b <;> rfl)

theorem regRow_driveAt {d b r : Nat} (hd : d < 4) (hb : b < 256) (hr : r < 8192) : regRow (ra (4 + d) b r) = rowAt (rowsDrive b) r := by
  have h : blockRows (ra (4 + d) b r) = rowsDrive b := by
    unfold blockRows
    rw [aDie_ra hb hr, aBlk_ra hb hr, if_neg (by omega), if_pos (by omega)]
  unfold regRow rowAt
  rw [h, aReg_ra hr]
  all_goals (cases rowsDrive b <;> rfl)

theorem rowsPrism_eth {f : Nat} (hf : f < 32) : rowsPrism (0x20 + f) = rowsPrism 0x20 := by
  have : ∀ f < 32, rowsPrism (0x20 + f) = rowsPrism 0x20 := by decide
  exact this f hf

theorem rowsPrism_can {c : Nat} (hc : c < 16) : rowsPrism (0x40 + c) = rowsPrism 0x40 := by
  have : ∀ c < 16, rowsPrism (0x40 + c) = rowsPrism 0x40 := by decide
  exact this c hc

theorem rowsPrism_lin {c : Nat} (hc : c < 8) : rowsPrism (0x50 + c) = rowsPrism 0x50 := by
  have : ∀ c < 8, rowsPrism (0x50 + c) = rowsPrism 0x50 := by decide
  exact this c hc

theorem rowsDrive_chn {c : Nat} (hc : c < 28) : rowsDrive (0x08 + c) = rowsDrive 0x08 := by
  have : ∀ c < 28, rowsDrive (0x08 + c) = rowsDrive 0x08 := by decide
  exact this c hc

theorem regRow_eth {p f r : Nat} (hp : p < 4) (hf : f < 32) (hr : r < 8192) : regRow (ra p (0x20 + f) r) = rowAt (rowsPrism 0x20) r := by
  rw [regRow_prismAt hp (by omega) hr, rowsPrism_eth hf]

theorem regRow_can {p c r : Nat} (hp : p < 4) (hc : c < 16) (hr : r < 8192) : regRow (ra p (0x40 + c) r) = rowAt (rowsPrism 0x40) r := by
  rw [regRow_prismAt hp (by omega) hr, rowsPrism_can hc]

theorem regRow_lin {p c r : Nat} (hp : p < 4) (hc : c < 8) (hr : r < 8192) : regRow (ra p (0x50 + c) r) = rowAt (rowsPrism 0x50) r := by
  rw [regRow_prismAt hp (by omega) hr, rowsPrism_lin hc]

theorem regRow_chn {d c r : Nat} (hd : d < 4) (hc : c < 28) (hr : r < 8192) :
    regRow (ra (4 + d) (0x08 + c) r) = rowAt (rowsDrive 0x08) r := by
  rw [regRow_driveAt hd (by omega) hr, rowsDrive_chn hc]

end Sys2Proof.Machine
end

