-- ==== Sys2Proof/Laws/Effect.lean ====
section
/-! SUPPORT. What a write of each command register does once it is accepted: its operation, or the refusal of its value. -/

namespace Sys2Proof.Machine

theorem effect_FAB_REP_CMD {p : Nat} (hp : p < 4) (ag : Agent) (v : Word) (k : Code → Act) (s : State) :
    (Act.effect ag (FAB.REP_CMD p) v k).run s =
      if s.refuses (FAB.REP_CMD p) v = true then (Act.badValue (FAB.REP_CMD p) ag k).run s else (repCmd ag p v k).run s := by
  have e1 : (regRow (FAB.REP_CMD p)).any (fun w => w.kind == .sc) = false := by
    unfold FAB.REP_CMD
    rw [regRow_prismAt hp (by omega) (by omega)]
    decide
  have e2 : aDie (FAB.REP_CMD p) = p := aDie_ra (by omega) (by omega)
  have e3 : aBlk (FAB.REP_CMD p) = 0x08 := aBlk_ra (by omega) (by omega)
  have e4 : aReg (FAB.REP_CMD p) = 0x18 := aReg_ra (by omega)
  unfold Act.effect
  simp only [Act.get_run, e1, e2, e3, e4]
  rw [if_neg (by omega), if_neg (by decide)]
  by_cases hr : s.refuses (FAB.REP_CMD p) v = true
  · rw [if_pos hr, if_pos hr]
  · rw [if_neg hr, if_neg hr, if_neg (by omega)]
    rw [if_neg (by decide), if_pos (by decide)]
    simp [Act.effectFab]

theorem effect_FAB_CTRL {p : Nat} (hp : p < 4) (ag : Agent) (v : Word) (k : Code → Act) (s : State) :
    (Act.effect ag (FAB.CTRL p) v k).run s =
      if s.refuses (FAB.CTRL p) v = true then (Act.badValue (FAB.CTRL p) ag k).run s else (Act.seq (Act.when (bit v 0 = true) (fabClrMax p)) (k .ok)).run s := by
  have e1 : (regRow (FAB.CTRL p)).any (fun w => w.kind == .sc) = false := by
    unfold FAB.CTRL
    rw [regRow_prismAt hp (by omega) (by omega)]
    decide
  have e2 : aDie (FAB.CTRL p) = p := aDie_ra (by omega) (by omega)
  have e3 : aBlk (FAB.CTRL p) = 0x08 := aBlk_ra (by omega) (by omega)
  have e4 : aReg (FAB.CTRL p) = 0x4 := aReg_ra (by omega)
  unfold Act.effect
  simp only [Act.get_run, e1, e2, e3, e4]
  rw [if_neg (by omega), if_neg (by decide)]
  by_cases hr : s.refuses (FAB.CTRL p) v = true
  · rw [if_pos hr, if_pos hr]
  · rw [if_neg hr, if_neg hr, if_neg (by omega)]
    rw [if_neg (by decide), if_pos (by decide)]
    simp [Act.effectFab]

theorem effect_QMGR_FLUSH_CMD {p : Nat} (hp : p < 4) (ag : Agent) (v : Word) (k : Code → Act) (s : State) :
    (Act.effect ag (QMGR.FLUSH_CMD p) v k).run s =
      if s.refuses (QMGR.FLUSH_CMD p) v = true then (Act.badValue (QMGR.FLUSH_CMD p) ag k).run s else (flushCmd ag p (fun s f => s.heldQueue p f) v k).run s := by
  have e1 : (regRow (QMGR.FLUSH_CMD p)).any (fun w => w.kind == .sc) = false := by
    unfold QMGR.FLUSH_CMD
    rw [regRow_prismAt hp (by omega) (by omega)]
    decide
  have e2 : aDie (QMGR.FLUSH_CMD p) = p := aDie_ra (by omega) (by omega)
  have e3 : aBlk (QMGR.FLUSH_CMD p) = 0x09 := aBlk_ra (by omega) (by omega)
  have e4 : aReg (QMGR.FLUSH_CMD p) = 0x5 := aReg_ra (by omega)
  unfold Act.effect
  simp only [Act.get_run, e1, e2, e3, e4]
  rw [if_neg (by omega), if_neg (by decide)]
  by_cases hr : s.refuses (QMGR.FLUSH_CMD p) v = true
  · rw [if_pos hr, if_pos hr]
  · rw [if_neg hr, if_neg hr, if_neg (by omega)]
    rw [if_neg (by decide), if_pos (by decide)]
    simp [Act.effectFab]

theorem effect_QMGR_Q_CMD {p : Nat} (hp : p < 4) (ag : Agent) (v : Word) (k : Code → Act) (s : State) :
    (Act.effect ag (QMGR.Q_CMD p) v k).run s =
      if s.refuses (QMGR.Q_CMD p) v = true then (Act.badValue (QMGR.Q_CMD p) ag k).run s else (qCmd ag p v k).run s := by
  have e1 : (regRow (QMGR.Q_CMD p)).any (fun w => w.kind == .sc) = false := by
    unfold QMGR.Q_CMD
    rw [regRow_prismAt hp (by omega) (by omega)]
    decide
  have e2 : aDie (QMGR.Q_CMD p) = p := aDie_ra (by omega) (by omega)
  have e3 : aBlk (QMGR.Q_CMD p) = 0x09 := aBlk_ra (by omega) (by omega)
  have e4 : aReg (QMGR.Q_CMD p) = 0x6 := aReg_ra (by omega)
  unfold Act.effect
  simp only [Act.get_run, e1, e2, e3, e4]
  rw [if_neg (by omega), if_neg (by decide)]
  by_cases hr : s.refuses (QMGR.Q_CMD p) v = true
  · rw [if_pos hr, if_pos hr]
  · rw [if_neg hr, if_neg hr, if_neg (by omega)]
    rw [if_neg (by decide), if_pos (by decide)]
    simp [Act.effectFab]

theorem effect_LPM_CMD {p : Nat} (hp : p < 4) (ag : Agent) (v : Word) (k : Code → Act) (s : State) :
    (Act.effect ag (LPM.CMD p) v k).run s =
      if s.refuses (LPM.CMD p) v = true then (Act.badValue (LPM.CMD p) ag k).run s else (lpmCmd ag p v k).run s := by
  have e1 : (regRow (LPM.CMD p)).any (fun w => w.kind == .sc) = false := by
    unfold LPM.CMD
    rw [regRow_prismAt hp (by omega) (by omega)]
    decide
  have e2 : aDie (LPM.CMD p) = p := aDie_ra (by omega) (by omega)
  have e3 : aBlk (LPM.CMD p) = 0x11 := aBlk_ra (by omega) (by omega)
  have e4 : aReg (LPM.CMD p) = 0x1 := aReg_ra (by omega)
  unfold Act.effect
  simp only [Act.get_run, e1, e2, e3, e4]
  rw [if_neg (by omega), if_neg (by decide)]
  by_cases hr : s.refuses (LPM.CMD p) v = true
  · rw [if_pos hr, if_pos hr]
  · rw [if_neg hr, if_neg hr, if_neg (by omega)]
    rw [if_neg (by decide), if_pos (by decide)]
    simp [Act.effectFab]

theorem effect_SGW_BEAM_CMD {p : Nat} (hp : p < 4) (ag : Agent) (v : Word) (k : Code → Act) (s : State) :
    (Act.effect ag (SGW.BEAM_CMD p) v k).run s =
      if s.refuses (SGW.BEAM_CMD p) v = true then (Act.badValue (SGW.BEAM_CMD p) ag k).run s else (beamCmd ag p v k).run s := by
  have e1 : (regRow (SGW.BEAM_CMD p)).any (fun w => w.kind == .sc) = false := by
    unfold SGW.BEAM_CMD
    rw [regRow_prismAt hp (by omega) (by omega)]
    decide
  have e2 : aDie (SGW.BEAM_CMD p) = p := aDie_ra (by omega) (by omega)
  have e3 : aBlk (SGW.BEAM_CMD p) = 0x60 := aBlk_ra (by omega) (by omega)
  have e4 : aReg (SGW.BEAM_CMD p) = 0x8 := aReg_ra (by omega)
  unfold Act.effect
  simp only [Act.get_run, e1, e2, e3, e4]
  rw [if_neg (by omega), if_neg (by decide)]
  by_cases hr : s.refuses (SGW.BEAM_CMD p) v = true
  · rw [if_pos hr, if_pos hr]
  · rw [if_neg hr, if_neg hr, if_neg (by omega)]
    rw [if_neg (by decide), if_neg (by decide), if_neg (by decide), if_pos (by decide)]
    simp [Act.effectSec]

theorem effect_SGW_TBL_CMD {p : Nat} (hp : p < 4) (ag : Agent) (v : Word) (k : Code → Act) (s : State) :
    (Act.effect ag (SGW.TBL_CMD p) v k).run s =
      if s.refuses (SGW.TBL_CMD p) v = true then (Act.badValue (SGW.TBL_CMD p) ag k).run s else (sgwTblCmd ag p v k).run s := by
  have e1 : (regRow (SGW.TBL_CMD p)).any (fun w => w.kind == .sc) = false := by
    unfold SGW.TBL_CMD
    rw [regRow_prismAt hp (by omega) (by omega)]
    decide
  have e2 : aDie (SGW.TBL_CMD p) = p := aDie_ra (by omega) (by omega)
  have e3 : aBlk (SGW.TBL_CMD p) = 0x60 := aBlk_ra (by omega) (by omega)
  have e4 : aReg (SGW.TBL_CMD p) = 0x10 := aReg_ra (by omega)
  unfold Act.effect
  simp only [Act.get_run, e1, e2, e3, e4]
  rw [if_neg (by omega), if_neg (by decide)]
  by_cases hr : s.refuses (SGW.TBL_CMD p) v = true
  · rw [if_pos hr, if_pos hr]
  · rw [if_neg hr, if_neg hr, if_neg (by omega)]
    rw [if_neg (by decide), if_neg (by decide), if_neg (by decide), if_pos (by decide)]
    simp [Act.effectSec]

theorem effect_SGW_SIG_CMD {p : Nat} (hp : p < 4) (ag : Agent) (v : Word) (k : Code → Act) (s : State) :
    (Act.effect ag (SGW.SIG_CMD p) v k).run s =
      if s.refuses (SGW.SIG_CMD p) v = true then (Act.badValue (SGW.SIG_CMD p) ag k).run s else (sigCmd ag p v k).run s := by
  have e1 : (regRow (SGW.SIG_CMD p)).any (fun w => w.kind == .sc) = false := by
    unfold SGW.SIG_CMD
    rw [regRow_prismAt hp (by omega) (by omega)]
    decide
  have e2 : aDie (SGW.SIG_CMD p) = p := aDie_ra (by omega) (by omega)
  have e3 : aBlk (SGW.SIG_CMD p) = 0x60 := aBlk_ra (by omega) (by omega)
  have e4 : aReg (SGW.SIG_CMD p) = 0x18 := aReg_ra (by omega)
  unfold Act.effect
  simp only [Act.get_run, e1, e2, e3, e4]
  rw [if_neg (by omega), if_neg (by decide)]
  by_cases hr : s.refuses (SGW.SIG_CMD p) v = true
  · rw [if_pos hr, if_pos hr]
  · rw [if_neg hr, if_neg hr, if_neg (by omega)]
    rw [if_neg (by decide), if_neg (by decide), if_neg (by decide), if_pos (by decide)]
    simp [Act.effectSec]

theorem effect_KEYS_OP_CMD {p : Nat} (hp : p < 4) (ag : Agent) (v : Word) (k : Code → Act) (s : State) :
    (Act.effect ag (KEYS.OP_CMD p) v k).run s =
      if s.refuses (KEYS.OP_CMD p) v = true then (Act.badValue (KEYS.OP_CMD p) ag k).run s else (opCmd ag p v k).run s := by
  have e1 : (regRow (KEYS.OP_CMD p)).any (fun w => w.kind == .sc) = false := by
    unfold KEYS.OP_CMD
    rw [regRow_prismAt hp (by omega) (by omega)]
    decide
  have e2 : aDie (KEYS.OP_CMD p) = p := aDie_ra (by omega) (by omega)
  have e3 : aBlk (KEYS.OP_CMD p) = 0x68 := aBlk_ra (by omega) (by omega)
  have e4 : aReg (KEYS.OP_CMD p) = 0x5 := aReg_ra (by omega)
  unfold Act.effect
  simp only [Act.get_run, e1, e2, e3, e4]
  rw [if_neg (by omega), if_neg (by decide)]
  by_cases hr : s.refuses (KEYS.OP_CMD p) v = true
  · rw [if_pos hr, if_pos hr]
  · rw [if_neg hr, if_neg hr, if_neg (by omega)]
    rw [if_neg (by decide), if_neg (by decide), if_neg (by decide), if_pos (by decide)]
    simp [Act.effectSec]

theorem effect_KEYS_PROV_CMD {p : Nat} (hp : p < 4) (ag : Agent) (v : Word) (k : Code → Act) (s : State) :
    (Act.effect ag (KEYS.PROV_CMD p) v k).run s =
      if s.refuses (KEYS.PROV_CMD p) v = true then (Act.badValue (KEYS.PROV_CMD p) ag k).run s else (provCmd ag p v k).run s := by
  have e1 : (regRow (KEYS.PROV_CMD p)).any (fun w => w.kind == .sc) = false := by
    unfold KEYS.PROV_CMD
    rw [regRow_prismAt hp (by omega) (by omega)]
    decide
  have e2 : aDie (KEYS.PROV_CMD p) = p := aDie_ra (by omega) (by omega)
  have e3 : aBlk (KEYS.PROV_CMD p) = 0x68 := aBlk_ra (by omega) (by omega)
  have e4 : aReg (KEYS.PROV_CMD p) = 0x18 := aReg_ra (by omega)
  unfold Act.effect
  simp only [Act.get_run, e1, e2, e3, e4]
  rw [if_neg (by omega), if_neg (by decide)]
  by_cases hr : s.refuses (KEYS.PROV_CMD p) v = true
  · rw [if_pos hr, if_pos hr]
  · rw [if_neg hr, if_neg hr, if_neg (by omega)]
    rw [if_neg (by decide), if_neg (by decide), if_neg (by decide), if_pos (by decide)]
    simp [Act.effectSec]

theorem effect_MSEC_SA_CMD {p : Nat} (hp : p < 4) (ag : Agent) (v : Word) (k : Code → Act) (s : State) :
    (Act.effect ag (MSEC.SA_CMD p) v k).run s =
      if s.refuses (MSEC.SA_CMD p) v = true then (Act.badValue (MSEC.SA_CMD p) ag k).run s else (saCmd ag p v k).run s := by
  have e1 : (regRow (MSEC.SA_CMD p)).any (fun w => w.kind == .sc) = false := by
    unfold MSEC.SA_CMD
    rw [regRow_prismAt hp (by omega) (by omega)]
    decide
  have e2 : aDie (MSEC.SA_CMD p) = p := aDie_ra (by omega) (by omega)
  have e3 : aBlk (MSEC.SA_CMD p) = 0x6A := aBlk_ra (by omega) (by omega)
  have e4 : aReg (MSEC.SA_CMD p) = 0x20 := aReg_ra (by omega)
  unfold Act.effect
  simp only [Act.get_run, e1, e2, e3, e4]
  rw [if_neg (by omega), if_neg (by decide)]
  by_cases hr : s.refuses (MSEC.SA_CMD p) v = true
  · rw [if_pos hr, if_pos hr]
  · rw [if_neg hr, if_neg hr, if_neg (by omega)]
    rw [if_neg (by decide), if_neg (by decide), if_neg (by decide), if_pos (by decide)]
    simp [Act.effectSec]

theorem effect_SEAL_PROF_CMD {p : Nat} (hp : p < 4) (ag : Agent) (v : Word) (k : Code → Act) (s : State) :
    (Act.effect ag (SEAL.PROF_CMD p) v k).run s =
      if s.refuses (SEAL.PROF_CMD p) v = true then (Act.badValue (SEAL.PROF_CMD p) ag k).run s else (profCmd ag p v k).run s := by
  have e1 : (regRow (SEAL.PROF_CMD p)).any (fun w => w.kind == .sc) = false := by
    unfold SEAL.PROF_CMD
    rw [regRow_prismAt hp (by omega) (by omega)]
    decide
  have e2 : aDie (SEAL.PROF_CMD p) = p := aDie_ra (by omega) (by omega)
  have e3 : aBlk (SEAL.PROF_CMD p) = 0x6B := aBlk_ra (by omega) (by omega)
  have e4 : aReg (SEAL.PROF_CMD p) = 0x0 := aReg_ra (by omega)
  unfold Act.effect
  simp only [Act.get_run, e1, e2, e3, e4]
  rw [if_neg (by omega), if_neg (by decide)]
  by_cases hr : s.refuses (SEAL.PROF_CMD p) v = true
  · rw [if_pos hr, if_pos hr]
  · rw [if_neg hr, if_neg hr, if_neg (by omega)]
    rw [if_neg (by decide), if_neg (by decide), if_neg (by decide), if_pos (by decide)]
    simp [Act.effectSec]

theorem effect_SEAL_FV_CMD {p : Nat} (hp : p < 4) (ag : Agent) (v : Word) (k : Code → Act) (s : State) :
    (Act.effect ag (SEAL.FV_CMD p) v k).run s =
      if s.refuses (SEAL.FV_CMD p) v = true then (Act.badValue (SEAL.FV_CMD p) ag k).run s else (fvCmd ag p v k).run s := by
  have e1 : (regRow (SEAL.FV_CMD p)).any (fun w => w.kind == .sc) = false := by
    unfold SEAL.FV_CMD
    rw [regRow_prismAt hp (by omega) (by omega)]
    decide
  have e2 : aDie (SEAL.FV_CMD p) = p := aDie_ra (by omega) (by omega)
  have e3 : aBlk (SEAL.FV_CMD p) = 0x6B := aBlk_ra (by omega) (by omega)
  have e4 : aReg (SEAL.FV_CMD p) = 0x4 := aReg_ra (by omega)
  unfold Act.effect
  simp only [Act.get_run, e1, e2, e3, e4]
  rw [if_neg (by omega), if_neg (by decide)]
  by_cases hr : s.refuses (SEAL.FV_CMD p) v = true
  · rw [if_pos hr, if_pos hr]
  · rw [if_neg hr, if_neg hr, if_neg (by omega)]
    rw [if_neg (by decide), if_neg (by decide), if_neg (by decide), if_pos (by decide)]
    simp [Act.effectSec]

theorem effect_PAIR_CMD {p : Nat} (hp : p < 4) (ag : Agent) (v : Word) (k : Code → Act) (s : State) :
    (Act.effect ag (PAIR.CMD p) v k).run s =
      if s.refuses (PAIR.CMD p) v = true then (Act.badValue (PAIR.CMD p) ag k).run s else (pairCmd ag v k).run s := by
  have e1 : (regRow (PAIR.CMD p)).any (fun w => w.kind == .sc) = false := by
    unfold PAIR.CMD
    rw [regRow_prismAt hp (by omega) (by omega)]
    decide
  have e2 : aDie (PAIR.CMD p) = p := aDie_ra (by omega) (by omega)
  have e3 : aBlk (PAIR.CMD p) = 0x70 := aBlk_ra (by omega) (by omega)
  have e4 : aReg (PAIR.CMD p) = 0x9 := aReg_ra (by omega)
  unfold Act.effect
  simp only [Act.get_run, e1, e2, e3, e4]
  rw [if_neg (by omega), if_neg (by decide)]
  by_cases hr : s.refuses (PAIR.CMD p) v = true
  · rw [if_pos hr, if_pos hr]
  · rw [if_neg hr, if_neg hr, if_neg (by omega)]
    rw [if_neg (by decide), if_neg (by decide), if_neg (by decide), if_neg (by decide), if_pos (by decide)]
    simp [Act.effectDomain]

theorem effect_PAIR_TBL_CMD {p : Nat} (hp : p < 4) (ag : Agent) (v : Word) (k : Code → Act) (s : State) :
    (Act.effect ag (PAIR.TBL_CMD p) v k).run s =
      if s.refuses (PAIR.TBL_CMD p) v = true then (Act.badValue (PAIR.TBL_CMD p) ag k).run s else (pairTblCmd ag p v k).run s := by
  have e1 : (regRow (PAIR.TBL_CMD p)).any (fun w => w.kind == .sc) = false := by
    unfold PAIR.TBL_CMD
    rw [regRow_prismAt hp (by omega) (by omega)]
    decide
  have e2 : aDie (PAIR.TBL_CMD p) = p := aDie_ra (by omega) (by omega)
  have e3 : aBlk (PAIR.TBL_CMD p) = 0x70 := aBlk_ra (by omega) (by omega)
  have e4 : aReg (PAIR.TBL_CMD p) = 0x10 := aReg_ra (by omega)
  unfold Act.effect
  simp only [Act.get_run, e1, e2, e3, e4]
  rw [if_neg (by omega), if_neg (by decide)]
  by_cases hr : s.refuses (PAIR.TBL_CMD p) v = true
  · rw [if_pos hr, if_pos hr]
  · rw [if_neg hr, if_neg hr, if_neg (by omega)]
    rw [if_neg (by decide), if_neg (by decide), if_neg (by decide), if_neg (by decide), if_pos (by decide)]
    simp [Act.effectDomain]

theorem effect_WAKE_CMD {p : Nat} (hp : p < 4) (ag : Agent) (v : Word) (k : Code → Act) (s : State) :
    (Act.effect ag (WAKE.CMD p) v k).run s =
      if s.refuses (WAKE.CMD p) v = true then (Act.badValue (WAKE.CMD p) ag k).run s else (Act.seq (Act.when (bit v 0 = true) wakeConfirm) (k .ok)).run s := by
  have e1 : (regRow (WAKE.CMD p)).any (fun w => w.kind == .sc) = false := by
    unfold WAKE.CMD
    rw [regRow_prismAt hp (by omega) (by omega)]
    decide
  have e2 : aDie (WAKE.CMD p) = p := aDie_ra (by omega) (by omega)
  have e3 : aBlk (WAKE.CMD p) = 0x71 := aBlk_ra (by omega) (by omega)
  have e4 : aReg (WAKE.CMD p) = 0x6 := aReg_ra (by omega)
  unfold Act.effect
  simp only [Act.get_run, e1, e2, e3, e4]
  rw [if_neg (by omega), if_neg (by decide)]
  by_cases hr : s.refuses (WAKE.CMD p) v = true
  · rw [if_pos hr, if_pos hr]
  · rw [if_neg hr, if_neg hr, if_neg (by omega)]
    rw [if_neg (by decide), if_neg (by decide), if_neg (by decide), if_neg (by decide), if_pos (by decide)]
    simp [Act.effectDomain]

theorem effect_PLX_DT_CMD {p : Nat} (hp : p < 4) (ag : Agent) (v : Word) (k : Code → Act) (s : State) :
    (Act.effect ag (PLX.DT_CMD p) v k).run s =
      if s.refuses (PLX.DT_CMD p) v = true then (Act.badValue (PLX.DT_CMD p) ag k).run s else (dtCmd ag v k).run s := by
  have e1 : (regRow (PLX.DT_CMD p)).any (fun w => w.kind == .sc) = false := by
    unfold PLX.DT_CMD
    rw [regRow_prismAt hp (by omega) (by omega)]
    decide
  have e2 : aDie (PLX.DT_CMD p) = p := aDie_ra (by omega) (by omega)
  have e3 : aBlk (PLX.DT_CMD p) = 0x72 := aBlk_ra (by omega) (by omega)
  have e4 : aReg (PLX.DT_CMD p) = 0xD := aReg_ra (by omega)
  unfold Act.effect
  simp only [Act.get_run, e1, e2, e3, e4]
  rw [if_neg (by omega), if_neg (by decide)]
  by_cases hr : s.refuses (PLX.DT_CMD p) v = true
  · rw [if_pos hr, if_pos hr]
  · rw [if_neg hr, if_neg hr, if_neg (by omega)]
    rw [if_neg (by decide), if_neg (by decide), if_neg (by decide), if_neg (by decide), if_pos (by decide)]
    simp [Act.effectDomain]

theorem effect_CPU_PCMD {p : Nat} (hp : p < 4) (ag : Agent) (v : Word) (k : Code → Act) (s : State) :
    (Act.effect ag (CPU.PCMD p) v k).run s =
      if s.refuses (CPU.PCMD p) v = true then (Act.badValue (CPU.PCMD p) ag k).run s else (pcmdWrite ag p v k).run s := by
  have e1 : (regRow (CPU.PCMD p)).any (fun w => w.kind == .sc) = false := by
    unfold CPU.PCMD
    rw [regRow_prismAt hp (by omega) (by omega)]
    decide
  have e2 : aDie (CPU.PCMD p) = p := aDie_ra (by omega) (by omega)
  have e3 : aBlk (CPU.PCMD p) = 0x78 := aBlk_ra (by omega) (by omega)
  have e4 : aReg (CPU.PCMD p) = 0x3 := aReg_ra (by omega)
  unfold Act.effect
  simp only [Act.get_run, e1, e2, e3, e4]
  rw [if_neg (by omega), if_neg (by decide)]
  by_cases hr : s.refuses (CPU.PCMD p) v = true
  · rw [if_pos hr, if_pos hr]
  · rw [if_neg hr, if_neg hr, if_neg (by omega)]
    rw [if_neg (by decide), if_neg (by decide), if_neg (by decide), if_neg (by decide), if_neg (by decide)]
    simp [Act.effectCpu]

theorem effect_CPU_SKICK {p : Nat} (hp : p < 4) (ag : Agent) (v : Word) (k : Code → Act) (s : State) :
    (Act.effect ag (CPU.SKICK p) v k).run s =
      if s.refuses (CPU.SKICK p) v = true then (Act.badValue (CPU.SKICK p) ag k).run s else (skickWrite ag p v k).run s := by
  have e1 : (regRow (CPU.SKICK p)).any (fun w => w.kind == .sc) = false := by
    unfold CPU.SKICK
    rw [regRow_prismAt hp (by omega) (by omega)]
    decide
  have e2 : aDie (CPU.SKICK p) = p := aDie_ra (by omega) (by omega)
  have e3 : aBlk (CPU.SKICK p) = 0x78 := aBlk_ra (by omega) (by omega)
  have e4 : aReg (CPU.SKICK p) = 0x9 := aReg_ra (by omega)
  unfold Act.effect
  simp only [Act.get_run, e1, e2, e3, e4]
  rw [if_neg (by omega), if_neg (by decide)]
  by_cases hr : s.refuses (CPU.SKICK p) v = true
  · rw [if_pos hr, if_pos hr]
  · rw [if_neg hr, if_neg hr, if_neg (by omega)]
    rw [if_neg (by decide), if_neg (by decide), if_neg (by decide), if_neg (by decide), if_neg (by decide)]
    simp [Act.effectCpu]

theorem effect_CPU_APR_RD {p : Nat} (hp : p < 4) (ag : Agent) (v : Word) (k : Code → Act) (s : State) :
    (Act.effect ag (CPU.APR_RD p) v k).run s =
      if s.refuses (CPU.APR_RD p) v = true then (Act.badValue (CPU.APR_RD p) ag k).run s else (aprRead p v k).run s := by
  have e1 : (regRow (CPU.APR_RD p)).any (fun w => w.kind == .sc) = false := by
    unfold CPU.APR_RD
    rw [regRow_prismAt hp (by omega) (by omega)]
    decide
  have e2 : aDie (CPU.APR_RD p) = p := aDie_ra (by omega) (by omega)
  have e3 : aBlk (CPU.APR_RD p) = 0x78 := aBlk_ra (by omega) (by omega)
  have e4 : aReg (CPU.APR_RD p) = 0x4 := aReg_ra (by omega)
  unfold Act.effect
  simp only [Act.get_run, e1, e2, e3, e4]
  rw [if_neg (by omega), if_neg (by decide)]
  by_cases hr : s.refuses (CPU.APR_RD p) v = true
  · rw [if_pos hr, if_pos hr]
  · rw [if_neg hr, if_neg hr, if_neg (by omega)]
    rw [if_neg (by decide), if_neg (by decide), if_neg (by decide), if_neg (by decide), if_neg (by decide)]
    simp [Act.effectCpu]

theorem effect_LOUPE_SNAP_CMD {p : Nat} (hp : p < 4) (ag : Agent) (v : Word) (k : Code → Act) (s : State) :
    (Act.effect ag (LOUPE.SNAP_CMD p) v k).run s =
      if s.refuses (LOUPE.SNAP_CMD p) v = true then (Act.badValue (LOUPE.SNAP_CMD p) ag k).run s else (snapCmd ag p v k).run s := by
  have e1 : (regRow (LOUPE.SNAP_CMD p)).any (fun w => w.kind == .sc) = false := by
    unfold LOUPE.SNAP_CMD
    rw [regRow_prismAt hp (by omega) (by omega)]
    decide
  have e2 : aDie (LOUPE.SNAP_CMD p) = p := aDie_ra (by omega) (by omega)
  have e3 : aBlk (LOUPE.SNAP_CMD p) = 0x80 := aBlk_ra (by omega) (by omega)
  have e4 : aReg (LOUPE.SNAP_CMD p) = 0x2 := aReg_ra (by omega)
  unfold Act.effect
  simp only [Act.get_run, e1, e2, e3, e4]
  rw [if_neg (by omega), if_neg (by decide)]
  by_cases hr : s.refuses (LOUPE.SNAP_CMD p) v = true
  · rw [if_pos hr, if_pos hr]
  · rw [if_neg hr, if_neg hr, if_neg (by omega)]
    rw [if_neg (by decide), if_neg (by decide), if_neg (by decide), if_neg (by decide), if_neg (by decide)]
    simp [Act.effectCpu]

theorem effect_LOUPE_FEED_VAL {p : Nat} (hp : p < 4) (ag : Agent) (v : Word) (k : Code → Act) (s : State) :
    (Act.effect ag (LOUPE.FEED_VAL p) v k).run s =
      if s.refuses (LOUPE.FEED_VAL p) v = true then (Act.badValue (LOUPE.FEED_VAL p) ag k).run s else (feedVal p v k).run s := by
  have e1 : (regRow (LOUPE.FEED_VAL p)).any (fun w => w.kind == .sc) = false := by
    unfold LOUPE.FEED_VAL
    rw [regRow_prismAt hp (by omega) (by omega)]
    decide
  have e2 : aDie (LOUPE.FEED_VAL p) = p := aDie_ra (by omega) (by omega)
  have e3 : aBlk (LOUPE.FEED_VAL p) = 0x80 := aBlk_ra (by omega) (by omega)
  have e4 : aReg (LOUPE.FEED_VAL p) = 0x4 := aReg_ra (by omega)
  unfold Act.effect
  simp only [Act.get_run, e1, e2, e3, e4]
  rw [if_neg (by omega), if_neg (by decide)]
  by_cases hr : s.refuses (LOUPE.FEED_VAL p) v = true
  · rw [if_pos hr, if_pos hr]
  · rw [if_neg hr, if_neg hr, if_neg (by omega)]
    rw [if_neg (by decide), if_neg (by decide), if_neg (by decide), if_neg (by decide), if_neg (by decide)]
    simp [Act.effectCpu]

theorem effect_PSCP_CMD {p : Nat} (hp : p < 4) (ag : Agent) (v : Word) (k : Code → Act) (s : State) :
    (Act.effect ag (PSCP.CMD p) v k).run s =
      if s.refuses (PSCP.CMD p) v = true then (Act.badValue (PSCP.CMD p) ag k).run s else (pscpCmd ag p v k).run s := by
  have e1 : (regRow (PSCP.CMD p)).any (fun w => w.kind == .sc) = false := by
    unfold PSCP.CMD
    rw [regRow_prismAt hp (by omega) (by omega)]
    decide
  have e2 : aDie (PSCP.CMD p) = p := aDie_ra (by omega) (by omega)
  have e3 : aBlk (PSCP.CMD p) = 0x81 := aBlk_ra (by omega) (by omega)
  have e4 : aReg (PSCP.CMD p) = 0x8 := aReg_ra (by omega)
  unfold Act.effect
  simp only [Act.get_run, e1, e2, e3, e4]
  rw [if_neg (by omega), if_neg (by decide)]
  by_cases hr : s.refuses (PSCP.CMD p) v = true
  · rw [if_pos hr, if_pos hr]
  · rw [if_neg hr, if_neg hr, if_neg (by omega)]
    rw [if_neg (by decide), if_neg (by decide), if_neg (by decide), if_neg (by decide), if_neg (by decide)]
    simp [Act.effectCpu]

theorem effect_PSCP_RD_CMD {p : Nat} (hp : p < 4) (ag : Agent) (v : Word) (k : Code → Act) (s : State) :
    (Act.effect ag (PSCP.RD_CMD p) v k).run s =
      if s.refuses (PSCP.RD_CMD p) v = true then (Act.badValue (PSCP.RD_CMD p) ag k).run s else (rdCmd ag p v k).run s := by
  have e1 : (regRow (PSCP.RD_CMD p)).any (fun w => w.kind == .sc) = false := by
    unfold PSCP.RD_CMD
    rw [regRow_prismAt hp (by omega) (by omega)]
    decide
  have e2 : aDie (PSCP.RD_CMD p) = p := aDie_ra (by omega) (by omega)
  have e3 : aBlk (PSCP.RD_CMD p) = 0x81 := aBlk_ra (by omega) (by omega)
  have e4 : aReg (PSCP.RD_CMD p) = 0x100 := aReg_ra (by omega)
  unfold Act.effect
  simp only [Act.get_run, e1, e2, e3, e4]
  rw [if_neg (by omega), if_neg (by decide)]
  by_cases hr : s.refuses (PSCP.RD_CMD p) v = true
  · rw [if_pos hr, if_pos hr]
  · rw [if_neg hr, if_neg hr, if_neg (by omega)]
    rw [if_neg (by decide), if_neg (by decide), if_neg (by decide), if_neg (by decide), if_neg (by decide)]
    simp [Act.effectCpu]

theorem effect_TIME_RATE {p : Nat} (hp : p < 4) (ag : Agent) (v : Word) (k : Code → Act) (s : State) :
    (Act.effect ag (TIME.RATE p) v k).run s =
      if s.refuses (TIME.RATE p) v = true then (Act.badValue (TIME.RATE p) ag k).run s else (timeRateWrite ag p v k).run s := by
  have e1 : (regRow (TIME.RATE p)).any (fun w => w.kind == .sc) = false := by
    unfold TIME.RATE
    rw [regRow_prismAt hp (by omega) (by omega)]
    decide
  have e2 : aDie (TIME.RATE p) = p := aDie_ra (by omega) (by omega)
  have e3 : aBlk (TIME.RATE p) = 0x82 := aBlk_ra (by omega) (by omega)
  have e4 : aReg (TIME.RATE p) = 0x1 := aReg_ra (by omega)
  unfold Act.effect
  simp only [Act.get_run, e1, e2, e3, e4]
  rw [if_neg (by omega), if_neg (by decide)]
  by_cases hr : s.refuses (TIME.RATE p) v = true
  · rw [if_pos hr, if_pos hr]
  · rw [if_neg hr, if_neg hr, if_neg (by omega)]
    rw [if_neg (by decide), if_neg (by decide), if_neg (by decide), if_neg (by decide), if_neg (by decide)]
    simp [Act.effectCpu]

theorem effect_TIME_STEP {p : Nat} (hp : p < 4) (ag : Agent) (v : Word) (k : Code → Act) (s : State) :
    (Act.effect ag (TIME.STEP p) v k).run s =
      if s.refuses (TIME.STEP p) v = true then (Act.badValue (TIME.STEP p) ag k).run s else (timeStepWrite ag p v k).run s := by
  have e1 : (regRow (TIME.STEP p)).any (fun w => w.kind == .sc) = false := by
    unfold TIME.STEP
    rw [regRow_prismAt hp (by omega) (by omega)]
    decide
  have e2 : aDie (TIME.STEP p) = p := aDie_ra (by omega) (by omega)
  have e3 : aBlk (TIME.STEP p) = 0x82 := aBlk_ra (by omega) (by omega)
  have e4 : aReg (TIME.STEP p) = 0x2 := aReg_ra (by omega)
  unfold Act.effect
  simp only [Act.get_run, e1, e2, e3, e4]
  rw [if_neg (by omega), if_neg (by decide)]
  by_cases hr : s.refuses (TIME.STEP p) v = true
  · rw [if_pos hr, if_pos hr]
  · rw [if_neg hr, if_neg hr, if_neg (by omega)]
    rw [if_neg (by decide), if_neg (by decide), if_neg (by decide), if_neg (by decide), if_neg (by decide)]
    simp [Act.effectCpu]

theorem effect_TIME_CTRL {p : Nat} (hp : p < 4) (ag : Agent) (v : Word) (k : Code → Act) (s : State) :
    (Act.effect ag (TIME.CTRL p) v k).run s =
      if s.refuses (TIME.CTRL p) v = true then (Act.badValue (TIME.CTRL p) ag k).run s else (timeCtrl ag p v k).run s := by
  have e1 : (regRow (TIME.CTRL p)).any (fun w => w.kind == .sc) = false := by
    unfold TIME.CTRL
    rw [regRow_prismAt hp (by omega) (by omega)]
    decide
  have e2 : aDie (TIME.CTRL p) = p := aDie_ra (by omega) (by omega)
  have e3 : aBlk (TIME.CTRL p) = 0x82 := aBlk_ra (by omega) (by omega)
  have e4 : aReg (TIME.CTRL p) = 0x7 := aReg_ra (by omega)
  unfold Act.effect
  simp only [Act.get_run, e1, e2, e3, e4]
  rw [if_neg (by omega), if_neg (by decide)]
  by_cases hr : s.refuses (TIME.CTRL p) v = true
  · rw [if_pos hr, if_pos hr]
  · rw [if_neg hr, if_neg hr, if_neg (by omega)]
    rw [if_neg (by decide), if_neg (by decide), if_neg (by decide), if_neg (by decide), if_neg (by decide)]
    simp [Act.effectCpu]

theorem effect_IMG_CMD {p : Nat} (hp : p < 4) (ag : Agent) (v : Word) (k : Code → Act) (s : State) :
    (Act.effect ag (IMG.CMD p) v k).run s =
      if s.refuses (IMG.CMD p) v = true then (Act.badValue (IMG.CMD p) ag k).run s else (imgCmd ag v k).run s := by
  have e1 : (regRow (IMG.CMD p)).any (fun w => w.kind == .sc) = false := by
    unfold IMG.CMD
    rw [regRow_prismAt hp (by omega) (by omega)]
    decide
  have e2 : aDie (IMG.CMD p) = p := aDie_ra (by omega) (by omega)
  have e3 : aBlk (IMG.CMD p) = 0x03 := aBlk_ra (by omega) (by omega)
  have e4 : aReg (IMG.CMD p) = 0x8 := aReg_ra (by omega)
  unfold Act.effect
  simp only [Act.get_run, e1, e2, e3, e4]
  rw [if_neg (by omega), if_neg (by decide)]
  by_cases hr : s.refuses (IMG.CMD p) v = true
  · rw [if_pos hr, if_pos hr]
  · rw [if_neg hr, if_neg hr, if_neg (by omega)]
    simp

theorem effect_ETH_MDIO {p c : Nat} (hp : p < 4) (hc : c < 32) (ag : Agent) (v : Word) (k : Code → Act) (s : State) :
    (Act.effect ag (ETH.MDIO p c) v k).run s =
      if s.refuses (ETH.MDIO p c) v = true then (Act.badValue (ETH.MDIO p c) ag k).run s else (mdioWrite ag p c v k).run s := by
  have e1 : (regRow (ETH.MDIO p c)).any (fun w => w.kind == .sc) = false := by
    unfold ETH.MDIO
    rw [regRow_eth hp hc (by omega)]
    decide
  have e2 : aDie (ETH.MDIO p c) = p := aDie_ra (by omega) (by omega)
  have e3 : aBlk (ETH.MDIO p c) = (0x20 + c) := aBlk_ra (by omega) (by omega)
  have e4 : aReg (ETH.MDIO p c) = 0xF := aReg_ra (by omega)
  unfold Act.effect
  simp only [Act.get_run, e1, e2, e3, e4]
  rw [if_neg (by omega), if_neg (by decide)]
  by_cases hr : s.refuses (ETH.MDIO p c) v = true
  · rw [if_pos hr, if_pos hr]
  · rw [if_neg hr, if_neg hr, if_neg (by omega)]
    rw [if_neg (by omega), if_neg (by omega), if_pos (by omega)]
    unfold Act.effectFacet
    simp only []
    repeat (first | rw [if_pos (by omega)] | rw [if_neg (by omega)])
    simp

theorem effect_ETH_CTRL {p c : Nat} (hp : p < 4) (hc : c < 32) (ag : Agent) (v : Word) (k : Code → Act) (s : State) :
    (Act.effect ag (ETH.CTRL p c) v k).run s =
      if s.refuses (ETH.CTRL p c) v = true then (Act.badValue (ETH.CTRL p c) ag k).run s else (ethCtrl p c v k).run s := by
  have e1 : (regRow (ETH.CTRL p c)).any (fun w => w.kind == .sc) = false := by
    unfold ETH.CTRL
    rw [regRow_eth hp hc (by omega)]
    decide
  have e2 : aDie (ETH.CTRL p c) = p := aDie_ra (by omega) (by omega)
  have e3 : aBlk (ETH.CTRL p c) = (0x20 + c) := aBlk_ra (by omega) (by omega)
  have e4 : aReg (ETH.CTRL p c) = 0xE := aReg_ra (by omega)
  unfold Act.effect
  simp only [Act.get_run, e1, e2, e3, e4]
  rw [if_neg (by omega), if_neg (by decide)]
  by_cases hr : s.refuses (ETH.CTRL p c) v = true
  · rw [if_pos hr, if_pos hr]
  · rw [if_neg hr, if_neg hr, if_neg (by omega)]
    rw [if_neg (by omega), if_neg (by omega), if_pos (by omega)]
    unfold Act.effectFacet
    simp only []
    repeat (first | rw [if_pos (by omega)] | rw [if_neg (by omega)])
    simp

theorem effect_CAN_CMD {p c : Nat} (hp : p < 4) (hc : c < 16) (ag : Agent) (v : Word) (k : Code → Act) (s : State) :
    (Act.effect ag (CAN.CMD p c) v k).run s =
      if s.refuses (CAN.CMD p c) v = true then (Act.badValue (CAN.CMD p c) ag k).run s else (canCmd p c v k).run s := by
  have e1 : (regRow (CAN.CMD p c)).any (fun w => w.kind == .sc) = false := by
    unfold CAN.CMD
    rw [regRow_can hp hc (by omega)]
    decide
  have e2 : aDie (CAN.CMD p c) = p := aDie_ra (by omega) (by omega)
  have e3 : aBlk (CAN.CMD p c) = (0x40 + c) := aBlk_ra (by omega) (by omega)
  have e4 : aReg (CAN.CMD p c) = 0x7 := aReg_ra (by omega)
  unfold Act.effect
  simp only [Act.get_run, e1, e2, e3, e4]
  rw [if_neg (by omega), if_neg (by decide)]
  by_cases hr : s.refuses (CAN.CMD p c) v = true
  · rw [if_pos hr, if_pos hr]
  · rw [if_neg hr, if_neg hr, if_neg (by omega)]
    rw [if_neg (by omega), if_neg (by omega), if_pos (by omega)]
    unfold Act.effectFacet
    simp only []
    repeat (first | rw [if_pos (by omega)] | rw [if_neg (by omega)])
    simp

theorem effect_CAN_FILT_CMD {p c : Nat} (hp : p < 4) (hc : c < 16) (ag : Agent) (v : Word) (k : Code → Act) (s : State) :
    (Act.effect ag (CAN.FILT_CMD p c) v k).run s =
      if s.refuses (CAN.FILT_CMD p c) v = true then (Act.badValue (CAN.FILT_CMD p c) ag k).run s else (filtCmd ag p c v k).run s := by
  have e1 : (regRow (CAN.FILT_CMD p c)).any (fun w => w.kind == .sc) = false := by
    unfold CAN.FILT_CMD
    rw [regRow_can hp hc (by omega)]
    decide
  have e2 : aDie (CAN.FILT_CMD p c) = p := aDie_ra (by omega) (by omega)
  have e3 : aBlk (CAN.FILT_CMD p c) = (0x40 + c) := aBlk_ra (by omega) (by omega)
  have e4 : aReg (CAN.FILT_CMD p c) = 0xB := aReg_ra (by omega)
  unfold Act.effect
  simp only [Act.get_run, e1, e2, e3, e4]
  rw [if_neg (by omega), if_neg (by decide)]
  by_cases hr : s.refuses (CAN.FILT_CMD p c) v = true
  · rw [if_pos hr, if_pos hr]
  · rw [if_neg hr, if_neg hr, if_neg (by omega)]
    rw [if_neg (by omega), if_neg (by omega), if_pos (by omega)]
    unfold Act.effectFacet
    simp only []
    repeat (first | rw [if_pos (by omega)] | rw [if_neg (by omega)])
    simp

theorem effect_CAN_AC_CMD {p c : Nat} (hp : p < 4) (hc : c < 16) (ag : Agent) (v : Word) (k : Code → Act) (s : State) :
    (Act.effect ag (CAN.AC_CMD p c) v k).run s =
      if s.refuses (CAN.AC_CMD p c) v = true then (Act.badValue (CAN.AC_CMD p c) ag k).run s else (acCmd ag p c v k).run s := by
  have e1 : (regRow (CAN.AC_CMD p c)).any (fun w => w.kind == .sc) = false := by
    unfold CAN.AC_CMD
    rw [regRow_can hp hc (by omega)]
    decide
  have e2 : aDie (CAN.AC_CMD p c) = p := aDie_ra (by omega) (by omega)
  have e3 : aBlk (CAN.AC_CMD p c) = (0x40 + c) := aBlk_ra (by omega) (by omega)
  have e4 : aReg (CAN.AC_CMD p c) = 0xF := aReg_ra (by omega)
  unfold Act.effect
  simp only [Act.get_run, e1, e2, e3, e4]
  rw [if_neg (by omega), if_neg (by decide)]
  by_cases hr : s.refuses (CAN.AC_CMD p c) v = true
  · rw [if_pos hr, if_pos hr]
  · rw [if_neg hr, if_neg hr, if_neg (by omega)]
    rw [if_neg (by omega), if_neg (by omega), if_pos (by omega)]
    unfold Act.effectFacet
    simp only []
    repeat (first | rw [if_pos (by omega)] | rw [if_neg (by omega)])
    simp

theorem effect_LIN_CMD {p c : Nat} (hp : p < 4) (hc : c < 8) (ag : Agent) (v : Word) (k : Code → Act) (s : State) :
    (Act.effect ag (LIN.CMD p c) v k).run s =
      if s.refuses (LIN.CMD p c) v = true then (Act.badValue (LIN.CMD p c) ag k).run s else (linCmd p c v k).run s := by
  have e1 : (regRow (LIN.CMD p c)).any (fun w => w.kind == .sc) = false := by
    unfold LIN.CMD
    rw [regRow_lin hp hc (by omega)]
    decide
  have e2 : aDie (LIN.CMD p c) = p := aDie_ra (by omega) (by omega)
  have e3 : aBlk (LIN.CMD p c) = (0x50 + c) := aBlk_ra (by omega) (by omega)
  have e4 : aReg (LIN.CMD p c) = 0x3 := aReg_ra (by omega)
  unfold Act.effect
  simp only [Act.get_run, e1, e2, e3, e4]
  rw [if_neg (by omega), if_neg (by decide)]
  by_cases hr : s.refuses (LIN.CMD p c) v = true
  · rw [if_pos hr, if_pos hr]
  · rw [if_neg hr, if_neg hr, if_neg (by omega)]
    rw [if_neg (by omega), if_neg (by omega), if_pos (by omega)]
    unfold Act.effectFacet
    simp only []
    repeat (first | rw [if_pos (by omega)] | rw [if_neg (by omega)])
    simp

theorem effect_LIN_SCHED_CMD {p c : Nat} (hp : p < 4) (hc : c < 8) (ag : Agent) (v : Word) (k : Code → Act) (s : State) :
    (Act.effect ag (LIN.SCHED_CMD p c) v k).run s =
      if s.refuses (LIN.SCHED_CMD p c) v = true then (Act.badValue (LIN.SCHED_CMD p c) ag k).run s else (schedCmd ag p c v k).run s := by
  have e1 : (regRow (LIN.SCHED_CMD p c)).any (fun w => w.kind == .sc) = false := by
    unfold LIN.SCHED_CMD
    rw [regRow_lin hp hc (by omega)]
    decide
  have e2 : aDie (LIN.SCHED_CMD p c) = p := aDie_ra (by omega) (by omega)
  have e3 : aBlk (LIN.SCHED_CMD p c) = (0x50 + c) := aBlk_ra (by omega) (by omega)
  have e4 : aReg (LIN.SCHED_CMD p c) = 0x18 := aReg_ra (by omega)
  unfold Act.effect
  simp only [Act.get_run, e1, e2, e3, e4]
  rw [if_neg (by omega), if_neg (by decide)]
  by_cases hr : s.refuses (LIN.SCHED_CMD p c) v = true
  · rw [if_pos hr, if_pos hr]
  · rw [if_neg hr, if_neg hr, if_neg (by omega)]
    rw [if_neg (by omega), if_neg (by omega), if_pos (by omega)]
    unfold Act.effectFacet
    simp only []
    repeat (first | rw [if_pos (by omega)] | rw [if_neg (by omega)])
    simp

theorem effect_LIN_PUB_CMD {p c : Nat} (hp : p < 4) (hc : c < 8) (ag : Agent) (v : Word) (k : Code → Act) (s : State) :
    (Act.effect ag (LIN.PUB_CMD p c) v k).run s =
      if s.refuses (LIN.PUB_CMD p c) v = true then (Act.badValue (LIN.PUB_CMD p c) ag k).run s else (pubCmd ag p c v k).run s := by
  have e1 : (regRow (LIN.PUB_CMD p c)).any (fun w => w.kind == .sc) = false := by
    unfold LIN.PUB_CMD
    rw [regRow_lin hp hc (by omega)]
    decide
  have e2 : aDie (LIN.PUB_CMD p c) = p := aDie_ra (by omega) (by omega)
  have e3 : aBlk (LIN.PUB_CMD p c) = (0x50 + c) := aBlk_ra (by omega) (by omega)
  have e4 : aReg (LIN.PUB_CMD p c) = 0x1A := aReg_ra (by omega)
  unfold Act.effect
  simp only [Act.get_run, e1, e2, e3, e4]
  rw [if_neg (by omega), if_neg (by decide)]
  by_cases hr : s.refuses (LIN.PUB_CMD p c) v = true
  · rw [if_pos hr, if_pos hr]
  · rw [if_neg hr, if_neg hr, if_neg (by omega)]
    rw [if_neg (by omega), if_neg (by omega), if_pos (by omega)]
    unfold Act.effectFacet
    simp only []
    repeat (first | rw [if_pos (by omega)] | rw [if_neg (by omega)])
    simp

theorem effect_QMGR_CQ_CMD {p c : Nat} (hp : p < 4) (hc : c < 64) (ag : Agent) (v : Word) (k : Code → Act) (s : State) :
    (Act.effect ag (QMGR.CQ_CMD p c) v k).run s =
      if s.refuses (QMGR.CQ_CMD p c) v = true then (Act.badValue (QMGR.CQ_CMD p c) ag k).run s else (Act.seq (Act.when (bit v 0 = true) (dropRest p c)) (k .ok)).run s := by
  have e1 : (regRow (QMGR.CQ_CMD p c)).any (fun w => w.kind == .sc) = false := by
    have hh : ∀ c < 64, (rowAt (rowsPrism 0x09) (0x403 + 4 * c)).any (fun w => w.kind == .sc) = false := by decide
    unfold QMGR.CQ_CMD
    rw [regRow_prismAt hp (by omega) (by omega)]
    exact hh c hc
  have e2 : aDie (QMGR.CQ_CMD p c) = p := aDie_ra (by omega) (by omega)
  have e3 : aBlk (QMGR.CQ_CMD p c) = 0x09 := aBlk_ra (by omega) (by omega)
  have e4 : aReg (QMGR.CQ_CMD p c) = (0x403 + 4 * c) := aReg_ra (by omega)
  unfold Act.effect
  simp only [Act.get_run, e1, e2, e3, e4]
  rw [if_neg (by omega), if_neg (by decide)]
  by_cases hr : s.refuses (QMGR.CQ_CMD p c) v = true
  · rw [if_pos hr, if_pos hr]
  · rw [if_neg hr, if_neg hr, if_neg (by omega)]
    rw [if_neg (by decide), if_pos (by decide)]
    unfold Act.effectFab
    simp only []
    repeat (first | rw [if_pos (by omega)] | rw [if_neg (by omega)])
    rw [show cqOf (1027 + 4 * c) = c by unfold cqOf; omega]

theorem effect_TDMA_JOB {p c : Nat} (hp : p < 4) (hc : c < 4) (ag : Agent) (v : Word) (k : Code → Act) (s : State) :
    (Act.effect ag (TDMA.JOB p c) v k).run s =
      if s.refuses (TDMA.JOB p c) v = true then (Act.badValue (TDMA.JOB p c) ag k).run s else (tdmaJob ag p c v k).run s := by
  have e1 : (regRow (TDMA.JOB p c)).any (fun w => w.kind == .sc) = false := by
    have hh : ∀ c < 4, (rowAt (rowsPrism 0x13) (0x20 + 4 * c)).any (fun w => w.kind == .sc) = false := by decide
    unfold TDMA.JOB
    rw [regRow_prismAt hp (by omega) (by omega)]
    exact hh c hc
  have e2 : aDie (TDMA.JOB p c) = p := aDie_ra (by omega) (by omega)
  have e3 : aBlk (TDMA.JOB p c) = 0x13 := aBlk_ra (by omega) (by omega)
  have e4 : aReg (TDMA.JOB p c) = (0x20 + 4 * c) := aReg_ra (by omega)
  unfold Act.effect
  simp only [Act.get_run, e1, e2, e3, e4]
  rw [if_neg (by omega), if_neg (by decide)]
  by_cases hr : s.refuses (TDMA.JOB p c) v = true
  · rw [if_pos hr, if_pos hr]
  · rw [if_neg hr, if_neg hr, if_neg (by omega)]
    rw [if_neg (by decide), if_pos (by decide)]
    unfold Act.effectFab
    simp only []
    repeat (first | rw [if_pos (by omega)] | rw [if_neg (by omega)])
    simp

theorem effect_PSFP_GCL_CTRL {p c : Nat} (hp : p < 4) (hc : c < 32) (ag : Agent) (v : Word) (k : Code → Act) (s : State) :
    (Act.effect ag (PSFP.GCL_CTRL p c) v k).run s =
      if s.refuses (PSFP.GCL_CTRL p c) v = true then (Act.badValue (PSFP.GCL_CTRL p c) ag k).run s else (gclCtrl ag p c v k).run s := by
  have e1 : (regRow (PSFP.GCL_CTRL p c)).any (fun w => w.kind == .sc) = false := by
    have hh : ∀ c < 32, (rowAt (rowsPrism 0x12) (0x1100 + 4 * c)).any (fun w => w.kind == .sc) = false := by decide
    unfold PSFP.GCL_CTRL
    rw [regRow_prismAt hp (by omega) (by omega)]
    exact hh c hc
  have e2 : aDie (PSFP.GCL_CTRL p c) = p := aDie_ra (by omega) (by omega)
  have e3 : aBlk (PSFP.GCL_CTRL p c) = 0x12 := aBlk_ra (by omega) (by omega)
  have e4 : aReg (PSFP.GCL_CTRL p c) = (0x1100 + 4 * c) := aReg_ra (by omega)
  unfold Act.effect
  simp only [Act.get_run, e1, e2, e3, e4]
  rw [if_neg (by omega), if_neg (by decide)]
  by_cases hr : s.refuses (PSFP.GCL_CTRL p c) v = true
  · rw [if_pos hr, if_pos hr]
  · rw [if_neg hr, if_neg hr, if_neg (by omega)]
    rw [if_neg (by decide), if_pos (by decide)]
    unfold Act.effectFab
    simp only []
    repeat (first | rw [if_pos (by omega)] | rw [if_neg (by omega)])
    simp

theorem effect_CIPH_JOB {p c : Nat} (hp : p < 4) (hc : c < 4) (ag : Agent) (v : Word) (k : Code → Act) (s : State) :
    (Act.effect ag (CIPH.JOB p c) v k).run s =
      if s.refuses (CIPH.JOB p c) v = true then (Act.badValue (CIPH.JOB p c) ag k).run s else (jobCmd ag p c v k).run s := by
  have e1 : (regRow (CIPH.JOB p c)).any (fun w => w.kind == .sc) = false := by
    have hh : ∀ c < 4, (rowAt (rowsPrism 0x69) (0x10 + 2 * c)).any (fun w => w.kind == .sc) = false := by decide
    unfold CIPH.JOB
    rw [regRow_prismAt hp (by omega) (by omega)]
    exact hh c hc
  have e2 : aDie (CIPH.JOB p c) = p := aDie_ra (by omega) (by omega)
  have e3 : aBlk (CIPH.JOB p c) = 0x69 := aBlk_ra (by omega) (by omega)
  have e4 : aReg (CIPH.JOB p c) = (0x10 + 2 * c) := aReg_ra (by omega)
  unfold Act.effect
  simp only [Act.get_run, e1, e2, e3, e4]
  rw [if_neg (by omega), if_neg (by decide)]
  by_cases hr : s.refuses (CIPH.JOB p c) v = true
  · rw [if_pos hr, if_pos hr]
  · rw [if_neg hr, if_neg hr, if_neg (by omega)]
    rw [if_neg (by decide), if_neg (by decide), if_neg (by decide), if_pos (by decide)]
    unfold Act.effectSec
    simp only []
    repeat (first | rw [if_pos (by omega)] | rw [if_neg (by omega)])
    simp

theorem effect_WAKE_REQ {p c : Nat} (hp : p < 4) (hc : c < 17) (ag : Agent) (v : Word) (k : Code → Act) (s : State) :
    (Act.effect ag (WAKE.REQ p c) v k).run s =
      if s.refuses (WAKE.REQ p c) v = true then (Act.badValue (WAKE.REQ p c) ag k).run s else (reqWrite ag p c v k).run s := by
  have e1 : (regRow (WAKE.REQ p c)).any (fun w => w.kind == .sc) = false := by
    have hh : ∀ c < 17, (rowAt (rowsPrism 0x71) (0x20 + c)).any (fun w => w.kind == .sc) = false := by decide
    unfold WAKE.REQ
    rw [regRow_prismAt hp (by omega) (by omega)]
    exact hh c hc
  have e2 : aDie (WAKE.REQ p c) = p := aDie_ra (by omega) (by omega)
  have e3 : aBlk (WAKE.REQ p c) = 0x71 := aBlk_ra (by omega) (by omega)
  have e4 : aReg (WAKE.REQ p c) = (0x20 + c) := aReg_ra (by omega)
  unfold Act.effect
  simp only [Act.get_run, e1, e2, e3, e4]
  rw [if_neg (by omega), if_neg (by decide)]
  by_cases hr : s.refuses (WAKE.REQ p c) v = true
  · rw [if_pos hr, if_pos hr]
  · rw [if_neg hr, if_neg hr, if_neg (by omega)]
    rw [if_neg (by decide), if_neg (by decide), if_neg (by decide), if_neg (by decide), if_pos (by decide)]
    unfold Act.effectDomain
    simp only []
    repeat (first | rw [if_pos (by omega)] | rw [if_neg (by omega)])
    simp

theorem effect_CPU_KICK {p c : Nat} (hp : p < 4) (hc : c < 16) (ag : Agent) (v : Word) (k : Code → Act) (s : State) :
    (Act.effect ag (CPU.KICK p c) v k).run s =
      if s.refuses (CPU.KICK p c) v = true then (Act.badValue (CPU.KICK p c) ag k).run s else (kickWrite ag p c v k).run s := by
  have e1 : (regRow (CPU.KICK p c)).any (fun w => w.kind == .sc) = false := by
    have hh : ∀ c < 16, (rowAt (rowsPrism 0x78) (0x20 + c)).any (fun w => w.kind == .sc) = false := by decide
    unfold CPU.KICK
    rw [regRow_prismAt hp (by omega) (by omega)]
    exact hh c hc
  have e2 : aDie (CPU.KICK p c) = p := aDie_ra (by omega) (by omega)
  have e3 : aBlk (CPU.KICK p c) = 0x78 := aBlk_ra (by omega) (by omega)
  have e4 : aReg (CPU.KICK p c) = (0x20 + c) := aReg_ra (by omega)
  unfold Act.effect
  simp only [Act.get_run, e1, e2, e3, e4]
  rw [if_neg (by omega), if_neg (by decide)]
  by_cases hr : s.refuses (CPU.KICK p c) v = true
  · rw [if_pos hr, if_pos hr]
  · rw [if_neg hr, if_neg hr, if_neg (by omega)]
    rw [if_neg (by decide), if_neg (by decide), if_neg (by decide), if_neg (by decide), if_neg (by decide)]
    unfold Act.effectCpu
    simp only []
    repeat (first | rw [if_pos (by omega)] | rw [if_neg (by omega)])
    simp

theorem effect_CPU_TXR_B {p c : Nat} (hp : p < 4) (hc : c < 16) (ag : Agent) (v : Word) (k : Code → Act) (s : State) :
    (Act.effect ag (CPU.TXR_B p c) v k).run s =
      if s.refuses (CPU.TXR_B p c) v = true then (Act.badValue (CPU.TXR_B p c) ag k).run s else (txrWrite ag p c true v k).run s := by
  have e1 : (regRow (CPU.TXR_B p c)).any (fun w => w.kind == .sc) = false := by
    have hh : ∀ c < 16, (rowAt (rowsPrism 0x78) (0x51 + 2 * c)).any (fun w => w.kind == .sc) = false := by decide
    unfold CPU.TXR_B
    rw [regRow_prismAt hp (by omega) (by omega)]
    exact hh c hc
  have e2 : aDie (CPU.TXR_B p c) = p := aDie_ra (by omega) (by omega)
  have e3 : aBlk (CPU.TXR_B p c) = 0x78 := aBlk_ra (by omega) (by omega)
  have e4 : aReg (CPU.TXR_B p c) = (0x51 + 2 * c) := aReg_ra (by omega)
  unfold Act.effect
  simp only [Act.get_run, e1, e2, e3, e4]
  rw [if_neg (by omega), if_neg (by decide)]
  by_cases hr : s.refuses (CPU.TXR_B p c) v = true
  · rw [if_pos hr, if_pos hr]
  · rw [if_neg hr, if_neg hr, if_neg (by omega)]
    rw [if_neg (by decide), if_neg (by decide), if_neg (by decide), if_neg (by decide), if_neg (by decide)]
    unfold Act.effectCpu
    simp only []
    repeat (first | rw [if_pos (by omega)] | rw [if_neg (by omega)])
    rw [show (81 + 2 * c - 80) / 2 = c by omega, show ((81 + 2 * c) % 2 == 1) = true by simp]

theorem effect_BLK_CTRL {d b : Nat} (hb : b < 256) (ag : Agent) (v : Word) (k : Code → Act) (s : State) :
    (Act.effect ag (BLK_CTRL d b) v k).run s = (blkCtrl ag d b v k).run s := by
  have e2 : aDie (BLK_CTRL d b) = d := aDie_ra hb (by omega)
  have e3 : aBlk (BLK_CTRL d b) = b := aBlk_ra hb (by omega)
  have e4 : aReg (BLK_CTRL d b) = 0x1FFF := aReg_ra (by omega)
  unfold Act.effect
  simp only [Act.get_run, e2, e3, e4]
  rw [if_pos trivial]

theorem effect_CHN_CMD {d c : Nat} (hd : d < 4) (hc : c < 28) (ag : Agent) (v : Word) (k : Code → Act) (s : State) :
    (Act.effect ag (CHN.CMD d c) v k).run s =
      if s.refuses (CHN.CMD d c) v = true then (Act.badValue (CHN.CMD d c) ag k).run s else (chnCmd ag d c v k).run s := by
  have e1 : (regRow (CHN.CMD d c)).any (fun w => w.kind == .sc) = false := by
    unfold CHN.CMD
    rw [regRow_chn hd hc (by omega)]
    decide
  have e2 : aDie (CHN.CMD d c) = 4 + d := aDie_ra (by omega) (by omega)
  have e3 : aBlk (CHN.CMD d c) = 0x08 + c := aBlk_ra (by omega) (by omega)
  have e4 : aReg (CHN.CMD d c) = 2 := aReg_ra (by omega)
  unfold Act.effect
  simp only [Act.get_run, e1, e2, e3, e4]
  rw [if_neg (by omega), if_neg (by decide)]
  by_cases hr : s.refuses (CHN.CMD d c) v = true
  · rw [if_pos hr, if_pos hr]
  · rw [if_neg hr, if_neg hr, if_pos (by omega)]
    unfold Act.effectDrive
    rw [if_pos (by omega), show 4 + d - 4 = d by omega, show 0x08 + c - 8 = c by omega]
    rfl

theorem effect_CHN_CTRL {d c : Nat} (hd : d < 4) (hc : c < 28) (ag : Agent) (v : Word) (k : Code → Act) (s : State) :
    (Act.effect ag (CHN.CTRL d c) v k).run s =
      if s.refuses (CHN.CTRL d c) v = true then (Act.badValue (CHN.CTRL d c) ag k).run s else (chnCtrl ag d c v k).run s := by
  have e1 : (regRow (CHN.CTRL d c)).any (fun w => w.kind == .sc) = false := by
    unfold CHN.CTRL
    rw [regRow_chn hd hc (by omega)]
    decide
  have e2 : aDie (CHN.CTRL d c) = 4 + d := aDie_ra (by omega) (by omega)
  have e3 : aBlk (CHN.CTRL d c) = 0x08 + c := aBlk_ra (by omega) (by omega)
  have e4 : aReg (CHN.CTRL d c) = 3 := aReg_ra (by omega)
  unfold Act.effect
  simp only [Act.get_run, e1, e2, e3, e4]
  rw [if_neg (by omega), if_neg (by decide)]
  by_cases hr : s.refuses (CHN.CTRL d c) v = true
  · rw [if_pos hr, if_pos hr]
  · rw [if_neg hr, if_neg hr, if_pos (by omega)]
    unfold Act.effectDrive
    rw [if_pos (by omega), show 4 + d - 4 = d by omega, show 0x08 + c - 8 = c by omega]
    rfl

theorem effect_MCFG {p m j : Nat} (hp : p < 4) (hm : m < 256) (hj : j < 4) (ag : Agent) (v : Word) (k : Code → Act) (s : State) :
    (Act.effect ag (ra p 0x80 (0x100 + 4 * m + j)) v k).run s =
      if s.refuses (ra p 0x80 (0x100 + 4 * m + j)) v = true then (Act.badValue (ra p 0x80 (0x100 + 4 * m + j)) ag k).run s
      else (mcfgWrite ag p m j v k).run s := by
  have e1 : (regRow (ra p 0x80 (0x100 + 4 * m + j))).any (fun w => w.kind == .sc) = false := by
    rw [regRow_prismAt hp (by omega) (by omega)]
    have e : rowAt (rowsPrism 0x80) (0x100 + 4 * m + j) = rowAt (rowsPrism 0x80) (0x100 + j) := by
      have h0 : ∀ i < 4, ∀ n < 256, (rowAt (rowsPrism 0x80) (0x100 + 4 * n + i)) = rowAt (rowsPrism 0x80) (0x100 + i) := by decide +kernel
      exact h0 j hj m hm
    rw [e]
    have h : ∀ i < 4, ((rowAt (rowsPrism 0x80) (0x100 + i)).any fun w => w.kind == .sc) = false := by decide
    exact h j hj
  have e2 : aDie (ra p 0x80 (0x100 + 4 * m + j)) = p := aDie_ra (by omega) (by omega)
  have e3 : aBlk (ra p 0x80 (0x100 + 4 * m + j)) = 0x80 := aBlk_ra (by omega) (by omega)
  have e4 : aReg (ra p 0x80 (0x100 + 4 * m + j)) = 0x100 + 4 * m + j := aReg_ra (by omega)
  unfold Act.effect
  simp only [Act.get_run, e1, e2, e3, e4]
  rw [if_neg (by omega), if_neg (by decide)]
  by_cases hr : s.refuses (ra p 0x80 (0x100 + 4 * m + j)) v = true
  · rw [if_pos hr, if_pos hr]
  · rw [if_neg hr, if_neg hr, if_neg (by omega), if_neg (by omega), if_neg (by omega), if_neg (by omega), if_neg (by omega), if_neg (by omega)]
    unfold Act.effectCpu
    simp only []
    rw [if_neg (by omega), if_neg (by omega), if_pos (by omega), show (0x100 + 4 * m + j - 0x100) / 4 = m by omega,
      show (0x100 + 4 * m + j) % 4 = j by omega]

/-- Act on drive die d: SUP.CTRL, PIN.CMD and WKP.CMD. -/
theorem effect_SUP_CTRL {d : Nat} (hd : d < 4) (ag : Agent) (v : Word) (k : Code → Act) (s : State) :
    (Act.effect ag (SUP.CTRL d) v k).run s =
      if s.refuses (SUP.CTRL d) v = true then (Act.badValue (SUP.CTRL d) ag k).run s
      else (Act.seq (Act.when (bit v 0 = true) (Act.minmaxClear d)) (k .ok)).run s := by
  have e1 : (regRow (SUP.CTRL d)).any (fun w => w.kind == .sc) = false := by
    unfold SUP.CTRL
    rw [regRow_driveAt hd (by omega) (by omega)]
    decide
  have e2 : aDie (SUP.CTRL d) = 4 + d := aDie_ra (by omega) (by omega)
  have e3 : aBlk (SUP.CTRL d) = 0x01 := aBlk_ra (by omega) (by omega)
  have e4 : aReg (SUP.CTRL d) = 3 := aReg_ra (by omega)
  unfold Act.effect
  simp only [Act.get_run, e1, e2, e3, e4]
  rw [if_neg (by omega), if_neg (by decide)]
  by_cases hr : s.refuses (SUP.CTRL d) v = true
  · rw [if_pos hr, if_pos hr]
  · rw [if_neg hr, if_neg hr, if_pos (by omega), show 4 + d - 4 = d by omega]
    rfl

theorem effect_PIN_CMD {d : Nat} (hd : d < 4) (ag : Agent) (v : Word) (k : Code → Act) (s : State) :
    (Act.effect ag (PIN.CMD d) v k).run s =
      if s.refuses (PIN.CMD d) v = true then (Act.badValue (PIN.CMD d) ag k).run s
      else (Act.seq (Act.when (bit v 0 = true) (Act.pinAck d ag)) (k .ok)).run s := by
  have e1 : (regRow (PIN.CMD d)).any (fun w => w.kind == .sc) = false := by
    unfold PIN.CMD
    rw [regRow_driveAt hd (by omega) (by omega)]
    decide
  have e2 : aDie (PIN.CMD d) = 4 + d := aDie_ra (by omega) (by omega)
  have e3 : aBlk (PIN.CMD d) = 0x29 := aBlk_ra (by omega) (by omega)
  have e4 : aReg (PIN.CMD d) = 0xA := aReg_ra (by omega)
  unfold Act.effect
  simp only [Act.get_run, e1, e2, e3, e4]
  rw [if_neg (by omega), if_neg (by decide)]
  by_cases hr : s.refuses (PIN.CMD d) v = true
  · rw [if_pos hr, if_pos hr]
  · rw [if_neg hr, if_neg hr, if_pos (by omega), show 4 + d - 4 = d by omega]
    rfl

theorem effect_WKP_CMD {d : Nat} (hd : d < 4) (ag : Agent) (v : Word) (k : Code → Act) (s : State) :
    (Act.effect ag (WKP.CMD d) v k).run s =
      if s.refuses (WKP.CMD d) v = true then (Act.badValue (WKP.CMD d) ag k).run s
      else (Act.seq (Act.when (bit v 0 = true) (wkpRearm d)) (k .ok)).run s := by
  have e1 : (regRow (WKP.CMD d)).any (fun w => w.kind == .sc) = false := by
    unfold WKP.CMD
    rw [regRow_driveAt hd (by omega) (by omega)]
    decide
  have e2 : aDie (WKP.CMD d) = 4 + d := aDie_ra (by omega) (by omega)
  have e3 : aBlk (WKP.CMD d) = 0x2C := aBlk_ra (by omega) (by omega)
  have e4 : aReg (WKP.CMD d) = 0x14 := aReg_ra (by omega)
  unfold Act.effect
  simp only [Act.get_run, e1, e2, e3, e4]
  rw [if_neg (by omega), if_neg (by decide)]
  by_cases hr : s.refuses (WKP.CMD d) v = true
  · rw [if_pos hr, if_pos hr]
  · rw [if_neg hr, if_neg hr, if_pos (by omega), show 4 + d - 4 = d by omega]
    rfl

/-- How a read of a sender ends. -/
def Act.readEnds (w : Sender) (p k a : Nat) (ag : Agent) (c : Code) (v : Word) : Act :=
  match w with
  | .spi => Act.reply .spi c v
  | .eth => Act.reply .eth c v
  | .hart _ n _ => Act.loadEnds p k n (mgmtBase + 8 * a) ag c v

/-- A read that reaches its register is the register's read. -/
theorem fetch_reads {s : State} {w : Sender} {ag : Agent} {a : Nat} (h : s.reads w a = some ag) :
    ∃ p k, (Act.fetch w a).run s = (Act.readReg ag a (Act.readEnds w p k a ag)).run s := by
  unfold State.reads at h
  have hread : ∀ (g : Agent) (kk : Code → Word → Act),
      (s.regIs a && !(decide (4 ≤ aDie a) && s.dlinkDown (aDie a - 4) && !isBlkStat a) && !s.parityBad a) = true →
      (Act.read g a kk).run s = (Act.readReg g a kk).run s := by
    intro g kk hok
    simp only [Bool.and_eq_true, Bool.not_eq_true', Bool.and_eq_false_iff, decide_eq_false_iff_not] at hok
    obtain ⟨⟨h1, h2⟩, h3⟩ := hok
    unfold Act.read
    simp only [Act.get_run]
    have e2 : ¬ (4 ≤ aDie a ∧ s.dlinkDown (aDie a - 4) = true ∧ isBlkStat a = false) := by
      rcases h2 with (h | h) | h
      · exact fun q => h q.1
      · simp [h]
      · rw [Bool.not_eq_false'] at h
        simp [h]
    rw [if_neg (by simp [h1]), if_neg e2, if_neg (by simp [h3])]
  unfold Act.fetch
  simp only [Act.get_run]
  cases w with
  | spi =>
    simp only at h
    split at h
    · rename_i hc
      cases h
      exact ⟨0, 0, by simp only [Act.when_run, hc.1, if_true]; exact hread _ _ hc.2⟩
    · cases h
  | eth =>
    simp only at h
    split at h
    · rename_i hc
      cases h
      exact ⟨0, 0, by simp only [Act.when_run, hc.1, if_true]; exact hread _ _ hc.2⟩
    · cases h
  | hart p c n =>
    simp only at h
    split at h
    · cases h
    · rename_i k hk
      split at h
      · rename_i hc
        cases h
        refine ⟨p, k, ?_⟩
        simp only [hk, Act.opt_some, Act.hartLoad, Act.get_run, hc.2, if_true]
        exact hread _ _ hc.1
      · cases h

end Sys2Proof.Machine
end

