-- ==== Sys2Proof/Laws/Frame/Core.lean ====
section
/-! SUPPORT. Which parts of the state an action may change: every other part is as before. -/

namespace Sys2Proof.Machine

/-- An action changes no part of the state outside a list. -/
structure Touches (A : Act) (S : List Part) : Prop where
  same : ∀ s p, p ∉ S → Part.Same p s (A.run s)

theorem Part.Sub.trans {A B C : List Part} (h : Part.Sub A B) (k : Part.Sub B C) : Part.Sub A C := fun p hp => k p (h p hp)

theorem Part.Same.rfl {p : Part} {s : State} : Part.Same p s s := by cases p <;> exact Eq.refl _

theorem Part.Same.trans {p : Part} {s t u : State} (h : Part.Same p s t) (k : Part.Same p t u) : Part.Same p s u := by
  cases p <;> exact Eq.trans k h

theorem Touches.mono {A : Act} {S T : List Part} (h : Touches A S) (k : Part.Sub S T) : Touches A T :=
  ⟨fun s p hp => h.same s p fun q => hp (k p q)⟩

theorem Touches.skip {S : List Part} : Touches Act.skip S := ⟨fun _ _ _ => Part.Same.rfl⟩

theorem Touches.seq {A B : Act} {S : List Part} (h : Touches A S) (k : Touches B S) : Touches (Act.seq A B) S :=
  ⟨fun s p hp => (h.same s p hp).trans (k.same _ p hp)⟩

theorem Touches.all_nil {S : List Part} : Touches (Act.all []) S := Touches.skip

theorem Touches.all_cons {A : Act} {l : List Act} {S : List Part} (h : Touches A S) (k : Touches (Act.all l) S) :
    Touches (Act.all (A :: l)) S := Touches.seq h k

theorem Touches.get {k : State → Act} {S : List Part} (h : ∀ s, Touches (k s) S) : Touches (Act.get k) S :=
  ⟨fun s p hp => (h s).same s p hp⟩

theorem Touches.when {c : Prop} [Decidable c] {A : Act} {S : List Part} (h : Touches A S) : Touches (Act.when c A) S := by
  unfold Act.when
  split
  · exact h
  · exact Touches.skip

theorem Touches.ite {c : Prop} [Decidable c] {A B : Act} {S : List Part} (h : Touches A S) (k : Touches B S) :
    Touches (if c then A else B) S := by
  split
  · exact h
  · exact k

theorem Touches.each {α : Type} {l : List α} {g : α → Act} {S : List Part} (h : ∀ x, Touches (g x) S) :
    Touches (Act.each l g) S := by
  induction l with
  | nil => exact Touches.skip
  | cons x l ih => exact Touches.seq (h x) ih

theorem Touches.all_map {α : Type} {l : List α} {g : α → Act} {S : List Part} (h : ∀ x, Touches (g x) S) :
    Touches (Act.all (l.map g)) S := Touches.each h

theorem Touches.opt {α : Type} {o : Option α} {f : α → Act} {S : List Part} (h : ∀ x, Touches (f x) S) :
    Touches (Act.opt o f) S := by
  cases o with
  | none => exact Touches.skip
  | some x => exact h x

theorem Touches.upd {f : State → State} {q : ∀ s, Quiet s (f s)} {S : List Part} (h : ∀ s p, p ∉ S → Part.Same p s (f s)) :
    Touches (Act.upd f q) S := ⟨h⟩

/-- A change of the state leaves every part outside a list as it is. -/
def SameOff (f : State → State) (B : List Part) : Prop := ∀ s p, p ∉ B → Part.Same p s (f s)

theorem Touches.upd_of {f : State → State} {q : ∀ s, Quiet s (f s)} {B S : List Part} (hS : Part.Sub B S)
    (h : SameOff f B) : Touches (Act.upd f q) S := ⟨fun s p hp => h s p fun k => hp (hS p k)⟩

theorem Touches.setReg {a : Nat} {v : Word} (S : List Part) (h : Part.Sub [.regs, .upsets] S) : Touches (Act.setReg a v) S := by
  constructor
  intro s p hp
  cases p <;> first | exact Eq.refl _ | exact absurd (h _ (by decide)) hp

theorem Touches.resetRegs {q : Nat → Bool} (S : List Part) (h : Part.Sub [.regs, .upsets] S) : Touches (Act.resetRegs q) S := by
  constructor
  intro s p hp
  cases p <;> first | exact Eq.refl _ | exact absurd (h _ (by decide)) hp

theorem Touches.setTbl {a : Nat} {v : Word} (S : List Part) (h : Part.Sub [.tbls] S) : Touches (Act.setTbl a v) S := by
  constructor
  intro s p hp
  cases p <;> first | exact Eq.refl _ | exact absurd (h _ (by decide)) hp

theorem Touches.dropTbls {q : Nat → Bool} (S : List Part) (h : Part.Sub [.tbls] S) : Touches (Act.dropTbls q) S := by
  constructor
  intro s p hp
  cases p <;> first | exact Eq.refl _ | exact absurd (h _ (by decide)) hp

theorem Touches.setFlash {a : Nat} {v : Byte} (S : List Part) (h : Part.Sub [.flash] S) : Touches (Act.setFlash a v) S := by
  constructor
  intro s p hp
  cases p <;> first | exact Eq.refl _ | exact absurd (h _ (by decide)) hp

theorem Touches.eraseFlash {q : Nat → Bool} (S : List Part) (h : Part.Sub [.flash] S) : Touches (Act.eraseFlash q) S := by
  constructor
  intro s p hp
  cases p <;> first | exact Eq.refl _ | exact absurd (h _ (by decide)) hp

theorem Touches.setMem {a : Nat} {v : Byte} (S : List Part) (h : Part.Sub [.mem] S) : Touches (Act.setMem a v) S := by
  constructor
  intro s p hp
  cases p <;> first | exact Eq.refl _ | exact absurd (h _ (by decide)) hp

theorem Touches.dropMem  (S : List Part) (h : Part.Sub [.mem] S) : Touches (Act.dropMem ) S := by
  constructor
  intro s p hp
  cases p <;> first | exact Eq.refl _ | exact absurd (h _ (by decide)) hp

theorem Touches.blowEpochInit  (S : List Part) (h : Part.Sub [.fuse] S) : Touches (Act.blowEpochInit ) S := by
  constructor
  intro s p hp
  cases p <;> first | exact Eq.refl _ | exact absurd (h _ (by decide)) hp

theorem Touches.blowProvDone  (S : List Part) (h : Part.Sub [.fuse] S) : Touches (Act.blowProvDone ) S := by
  constructor
  intro s p hp
  cases p <;> first | exact Eq.refl _ | exact absurd (h _ (by decide)) hp

theorem Touches.destroyShares  (S : List Part) (h : Part.Sub [.fuse] S) : Touches (Act.destroyShares ) S := by
  constructor
  intro s p hp
  cases p <;> first | exact Eq.refl _ | exact absurd (h _ (by decide)) hp

theorem Touches.free {k : Nat → Act} (S : List Part) (h : Part.Sub [.freeCount] S) (hk : ∀ c, Touches (k c) S) : Touches (Act.free k) S := by
  constructor
  intro s p hp
  refine Part.Same.trans (t := bumpFree s) ?_ ((hk s.freeCount).same (bumpFree s) p hp)
  cases p <;> first | exact Eq.refl _ | exact absurd (h _ (by decide)) hp

end Sys2Proof.Machine
end

