-- ==== Sys2Proof/Laws/Frame/Group1.lean ====
section
/-! SUPPORT. Which parts of the state the operations of Act, Store, Ops, Facet, PartNets, Sample, Pool, Shape may change. -/

set_option linter.unusedTactic false
set_option linter.unreachableTactic false

namespace Sys2Proof.Machine

/-! ## Act -/

theorem touches_Act_freeBelow {n : Nat} {k : Nat → Act} {S : List Part} (hS : Part.Sub [.freeCount] S) (hk_k : ∀ x0, Touches (k x0) S) : Touches (Act.freeBelow n k) S := by
  unfold Act.freeBelow
  try dsimp only
  repeat' (with_reducible first | exact hk_k _ | apply Touches.free | exact Part.Sub.trans (by decide) hS | intro _ | dsimp only)

theorem touches_Act_freeBytes {n : Nat} {k : List Byte → Act} {S : List Part} (hS : Part.Sub [.freeCount] S) (hk_k : ∀ x0, Touches (k x0) S) : Touches (Act.freeBytes n k) S := by
  unfold Act.freeBytes
  try dsimp only
  repeat' (with_reducible first | exact hk_k _ | apply Touches.free | apply Touches.all_map | exact Part.Sub.trans (by decide) hS | intro _ | dsimp only)

theorem touches_Act_emit {o : Out} {S : List Part} (hS : Part.Sub [.out] S) : Touches (Act.emit o) S := by
  unfold Act.emit
  try dsimp only
  repeat' (with_reducible first | apply Touches.upd_of hS | exact Part.Sub.trans (by decide) hS | intro _ | dsimp only)
  all_goals (intro s p hp; cases p <;> first | rfl | exact absurd (by decide) hp)

/-! ## Store -/

theorem touches_Act_setBuf {k : Nat} {v : List RxFrame} {S : List Part} (hS : Part.Sub [.sw] S) : Touches (Act.setBuf k v) S := by
  unfold Act.setBuf
  try dsimp only
  repeat' (with_reducible first | apply Touches.upd_of hS | exact Part.Sub.trans (by decide) hS | intro _ | dsimp only)
  all_goals (intro s p hp; cases p <;> first | rfl | exact absurd (by decide) hp)

theorem touches_Act_modBuf {k : Nat} {f : List RxFrame → List RxFrame} {S : List Part} (hS : Part.Sub [.sw] S) : Touches (Act.modBuf k f) S := by
  unfold Act.modBuf
  try dsimp only
  repeat' (with_reducible first | apply touches_Act_setBuf | apply Touches.get | exact Part.Sub.trans (by decide) hS | intro _ | dsimp only)

theorem touches_Act_setAdm {k : Nat} {v : List Admitted} {S : List Part} (hS : Part.Sub [.sw] S) : Touches (Act.setAdm k v) S := by
  unfold Act.setAdm
  try dsimp only
  repeat' (with_reducible first | apply Touches.upd_of hS | exact Part.Sub.trans (by decide) hS | intro _ | dsimp only)
  all_goals (intro s p hp; cases p <;> first | rfl | exact absurd (by decide) hp)

theorem touches_Act_modAdm {k : Nat} {f : List Admitted → List Admitted} {S : List Part} (hS : Part.Sub [.sw] S) : Touches (Act.modAdm k f) S := by
  unfold Act.modAdm
  try dsimp only
  repeat' (with_reducible first | apply touches_Act_setAdm | apply Touches.get | exact Part.Sub.trans (by decide) hS | intro _ | dsimp only)

theorem touches_Act_setHold {k : Nat} {v : Hold} {S : List Part} (hS : Part.Sub [.sw] S) : Touches (Act.setHold k v) S := by
  unfold Act.setHold
  try dsimp only
  repeat' (with_reducible first | apply Touches.upd_of hS | exact Part.Sub.trans (by decide) hS | intro _ | dsimp only)
  all_goals (intro s p hp; cases p <;> first | rfl | exact absurd (by decide) hp)

theorem touches_Act_modHold {k : Nat} {f : Hold → Hold} {S : List Part} (hS : Part.Sub [.sw] S) : Touches (Act.modHold k f) S := by
  unfold Act.modHold
  try dsimp only
  repeat' (with_reducible first | apply touches_Act_setHold | apply Touches.get | exact Part.Sub.trans (by decide) hS | intro _ | dsimp only)

theorem touches_Act_setQueue {k : Nat} {v : Queue} {S : List Part} (hS : Part.Sub [.sw] S) : Touches (Act.setQueue k v) S := by
  unfold Act.setQueue
  try dsimp only
  repeat' (with_reducible first | apply Touches.upd_of hS | exact Part.Sub.trans (by decide) hS | intro _ | dsimp only)
  all_goals (intro s p hp; cases p <;> first | rfl | exact absurd (by decide) hp)

theorem touches_Act_modQueue {k : Nat} {f : Queue → Queue} {S : List Part} (hS : Part.Sub [.sw] S) : Touches (Act.modQueue k f) S := by
  unfold Act.modQueue
  try dsimp only
  repeat' (with_reducible first | apply touches_Act_setQueue | apply Touches.get | exact Part.Sub.trans (by decide) hS | intro _ | dsimp only)

theorem touches_Act_setPort {k : Nat} {v : Port} {S : List Part} (hS : Part.Sub [.sw] S) : Touches (Act.setPort k v) S := by
  unfold Act.setPort
  try dsimp only
  repeat' (with_reducible first | apply Touches.upd_of hS | exact Part.Sub.trans (by decide) hS | intro _ | dsimp only)
  all_goals (intro s p hp; cases p <;> first | rfl | exact absurd (by decide) hp)

theorem touches_Act_modPort {k : Nat} {f : Port → Port} {S : List Part} (hS : Part.Sub [.sw] S) : Touches (Act.modPort k f) S := by
  unfold Act.modPort
  try dsimp only
  repeat' (with_reducible first | apply touches_Act_setPort | apply Touches.get | exact Part.Sub.trans (by decide) hS | intro _ | dsimp only)

theorem touches_Act_setRobin {k : Nat} {v : Robin} {S : List Part} (hS : Part.Sub [.sw] S) : Touches (Act.setRobin k v) S := by
  unfold Act.setRobin
  try dsimp only
  repeat' (with_reducible first | apply Touches.upd_of hS | exact Part.Sub.trans (by decide) hS | intro _ | dsimp only)
  all_goals (intro s p hp; cases p <;> first | rfl | exact absurd (by decide) hp)

theorem touches_Act_modRobin {k : Nat} {f : Robin → Robin} {S : List Part} (hS : Part.Sub [.sw] S) : Touches (Act.modRobin k f) S := by
  unfold Act.modRobin
  try dsimp only
  repeat' (with_reducible first | apply touches_Act_setRobin | apply Touches.get | exact Part.Sub.trans (by decide) hS | intro _ | dsimp only)

theorem touches_Act_setFlush {k : Nat} {v : Option Flush} {S : List Part} (hS : Part.Sub [.sw] S) : Touches (Act.setFlush k v) S := by
  unfold Act.setFlush
  try dsimp only
  repeat' (with_reducible first | apply Touches.upd_of hS | exact Part.Sub.trans (by decide) hS | intro _ | dsimp only)
  all_goals (intro s p hp; cases p <;> first | rfl | exact absurd (by decide) hp)

theorem touches_Act_modFlush {k : Nat} {f : Option Flush → Option Flush} {S : List Part} (hS : Part.Sub [.sw] S) : Touches (Act.modFlush k f) S := by
  unfold Act.modFlush
  try dsimp only
  repeat' (with_reducible first | apply touches_Act_setFlush | apply Touches.get | exact Part.Sub.trans (by decide) hS | intro _ | dsimp only)

theorem touches_Act_setLink {k : Nat} {v : D2dLink} {S : List Part} (hS : Part.Sub [.sw] S) : Touches (Act.setLink k v) S := by
  unfold Act.setLink
  try dsimp only
  repeat' (with_reducible first | apply Touches.upd_of hS | exact Part.Sub.trans (by decide) hS | intro _ | dsimp only)
  all_goals (intro s p hp; cases p <;> first | rfl | exact absurd (by decide) hp)

theorem touches_Act_modLink {k : Nat} {f : D2dLink → D2dLink} {S : List Part} (hS : Part.Sub [.sw] S) : Touches (Act.modLink k f) S := by
  unfold Act.modLink
  try dsimp only
  repeat' (with_reducible first | apply touches_Act_setLink | apply Touches.get | exact Part.Sub.trans (by decide) hS | intro _ | dsimp only)

theorem touches_Act_setLow {k : Nat} {v : Bool} {S : List Part} (hS : Part.Sub [.sw] S) : Touches (Act.setLow k v) S := by
  unfold Act.setLow
  try dsimp only
  repeat' (with_reducible first | apply Touches.upd_of hS | exact Part.Sub.trans (by decide) hS | intro _ | dsimp only)
  all_goals (intro s p hp; cases p <;> first | rfl | exact absurd (by decide) hp)

theorem touches_Act_modLow {k : Nat} {f : Bool → Bool} {S : List Part} (hS : Part.Sub [.sw] S) : Touches (Act.modLow k f) S := by
  unfold Act.modLow
  try dsimp only
  repeat' (with_reducible first | apply touches_Act_setLow | apply Touches.get | exact Part.Sub.trans (by decide) hS | intro _ | dsimp only)

theorem touches_Act_setPaceNow {k : Nat} {v : Nat} {S : List Part} (hS : Part.Sub [.sw] S) : Touches (Act.setPaceNow k v) S := by
  unfold Act.setPaceNow
  try dsimp only
  repeat' (with_reducible first | apply Touches.upd_of hS | exact Part.Sub.trans (by decide) hS | intro _ | dsimp only)
  all_goals (intro s p hp; cases p <;> first | rfl | exact absurd (by decide) hp)

theorem touches_Act_modPaceNow {k : Nat} {f : Nat → Nat} {S : List Part} (hS : Part.Sub [.sw] S) : Touches (Act.modPaceNow k f) S := by
  unfold Act.modPaceNow
  try dsimp only
  repeat' (with_reducible first | apply touches_Act_setPaceNow | apply Touches.get | exact Part.Sub.trans (by decide) hS | intro _ | dsimp only)

theorem touches_Act_setRate {k : Nat} {v : Nat × Nat × Nat × Nat} {S : List Part} (hS : Part.Sub [.sw] S) : Touches (Act.setRate k v) S := by
  unfold Act.setRate
  try dsimp only
  repeat' (with_reducible first | apply Touches.upd_of hS | exact Part.Sub.trans (by decide) hS | intro _ | dsimp only)
  all_goals (intro s p hp; cases p <;> first | rfl | exact absurd (by decide) hp)

theorem touches_Act_modRate {k : Nat} {f : Nat × Nat × Nat × Nat → Nat × Nat × Nat × Nat} {S : List Part} (hS : Part.Sub [.sw] S) : Touches (Act.modRate k f) S := by
  unfold Act.modRate
  try dsimp only
  repeat' (with_reducible first | apply touches_Act_setRate | apply Touches.get | exact Part.Sub.trans (by decide) hS | intro _ | dsimp only)

theorem touches_Act_setFlood {k : Nat} {v : Bucket} {S : List Part} (hS : Part.Sub [.sw] S) : Touches (Act.setFlood k v) S := by
  unfold Act.setFlood
  try dsimp only
  repeat' (with_reducible first | apply Touches.upd_of hS | exact Part.Sub.trans (by decide) hS | intro _ | dsimp only)
  all_goals (intro s p hp; cases p <;> first | rfl | exact absurd (by decide) hp)

theorem touches_Act_modFlood {k : Nat} {f : Bucket → Bucket} {S : List Part} (hS : Part.Sub [.sw] S) : Touches (Act.modFlood k f) S := by
  unfold Act.modFlood
  try dsimp only
  repeat' (with_reducible first | apply touches_Act_setFlood | apply Touches.get | exact Part.Sub.trans (by decide) hS | intro _ | dsimp only)

theorem touches_Act_setMtrC {k : Nat} {v : Bucket} {S : List Part} (hS : Part.Sub [.sw] S) : Touches (Act.setMtrC k v) S := by
  unfold Act.setMtrC
  try dsimp only
  repeat' (with_reducible first | apply Touches.upd_of hS | exact Part.Sub.trans (by decide) hS | intro _ | dsimp only)
  all_goals (intro s p hp; cases p <;> first | rfl | exact absurd (by decide) hp)

theorem touches_Act_modMtrC {k : Nat} {f : Bucket → Bucket} {S : List Part} (hS : Part.Sub [.sw] S) : Touches (Act.modMtrC k f) S := by
  unfold Act.modMtrC
  try dsimp only
  repeat' (with_reducible first | apply touches_Act_setMtrC | apply Touches.get | exact Part.Sub.trans (by decide) hS | intro _ | dsimp only)

theorem touches_Act_setMtrE {k : Nat} {v : Bucket} {S : List Part} (hS : Part.Sub [.sw] S) : Touches (Act.setMtrE k v) S := by
  unfold Act.setMtrE
  try dsimp only
  repeat' (with_reducible first | apply Touches.upd_of hS | exact Part.Sub.trans (by decide) hS | intro _ | dsimp only)
  all_goals (intro s p hp; cases p <;> first | rfl | exact absurd (by decide) hp)

theorem touches_Act_modMtrE {k : Nat} {f : Bucket → Bucket} {S : List Part} (hS : Part.Sub [.sw] S) : Touches (Act.modMtrE k f) S := by
  unfold Act.modMtrE
  try dsimp only
  repeat' (with_reducible first | apply touches_Act_setMtrE | apply Touches.get | exact Part.Sub.trans (by decide) hS | intro _ | dsimp only)

theorem touches_Act_setShaper {k : Nat} {v : Shaper} {S : List Part} (hS : Part.Sub [.sw] S) : Touches (Act.setShaper k v) S := by
  unfold Act.setShaper
  try dsimp only
  repeat' (with_reducible first | apply Touches.upd_of hS | exact Part.Sub.trans (by decide) hS | intro _ | dsimp only)
  all_goals (intro s p hp; cases p <;> first | rfl | exact absurd (by decide) hp)

theorem touches_Act_modShaper {k : Nat} {f : Shaper → Shaper} {S : List Part} (hS : Part.Sub [.sw] S) : Touches (Act.modShaper k f) S := by
  unfold Act.modShaper
  try dsimp only
  repeat' (with_reducible first | apply touches_Act_setShaper | apply Touches.get | exact Part.Sub.trans (by decide) hS | intro _ | dsimp only)

theorem touches_Act_setGate {k : Nat} {v : Gates} {S : List Part} (hS : Part.Sub [.sw] S) : Touches (Act.setGate k v) S := by
  unfold Act.setGate
  try dsimp only
  repeat' (with_reducible first | apply Touches.upd_of hS | exact Part.Sub.trans (by decide) hS | intro _ | dsimp only)
  all_goals (intro s p hp; cases p <;> first | rfl | exact absurd (by decide) hp)

theorem touches_Act_modGate {k : Nat} {f : Gates → Gates} {S : List Part} (hS : Part.Sub [.sw] S) : Touches (Act.modGate k f) S := by
  unfold Act.modGate
  try dsimp only
  repeat' (with_reducible first | apply touches_Act_setGate | apply Touches.get | exact Part.Sub.trans (by decide) hS | intro _ | dsimp only)

theorem touches_Act_setRcv {k : Nat} {v : Recovery} {S : List Part} (hS : Part.Sub [.sw] S) : Touches (Act.setRcv k v) S := by
  unfold Act.setRcv
  try dsimp only
  repeat' (with_reducible first | apply Touches.upd_of hS | exact Part.Sub.trans (by decide) hS | intro _ | dsimp only)
  all_goals (intro s p hp; cases p <;> first | rfl | exact absurd (by decide) hp)

theorem touches_Act_modRcv {k : Nat} {f : Recovery → Recovery} {S : List Part} (hS : Part.Sub [.sw] S) : Touches (Act.modRcv k f) S := by
  unfold Act.modRcv
  try dsimp only
  repeat' (with_reducible first | apply touches_Act_setRcv | apply Touches.get | exact Part.Sub.trans (by decide) hS | intro _ | dsimp only)

theorem touches_Act_setLockedAt {k : Nat} {v : Nat} {S : List Part} (hS : Part.Sub [.sw] S) : Touches (Act.setLockedAt k v) S := by
  unfold Act.setLockedAt
  try dsimp only
  repeat' (with_reducible first | apply Touches.upd_of hS | exact Part.Sub.trans (by decide) hS | intro _ | dsimp only)
  all_goals (intro s p hp; cases p <;> first | rfl | exact absurd (by decide) hp)

theorem touches_Act_modLockedAt {k : Nat} {f : Nat → Nat} {S : List Part} (hS : Part.Sub [.sw] S) : Touches (Act.modLockedAt k f) S := by
  unfold Act.modLockedAt
  try dsimp only
  repeat' (with_reducible first | apply touches_Act_setLockedAt | apply Touches.get | exact Part.Sub.trans (by decide) hS | intro _ | dsimp only)

theorem touches_Act_setEth {k : Nat} {v : EthFacet} {S : List Part} (hS : Part.Sub [.sw] S) : Touches (Act.setEth k v) S := by
  unfold Act.setEth
  try dsimp only
  repeat' (with_reducible first | apply Touches.upd_of hS | exact Part.Sub.trans (by decide) hS | intro _ | dsimp only)
  all_goals (intro s p hp; cases p <;> first | rfl | exact absurd (by decide) hp)

theorem touches_Act_modEth {k : Nat} {f : EthFacet → EthFacet} {S : List Part} (hS : Part.Sub [.sw] S) : Touches (Act.modEth k f) S := by
  unfold Act.modEth
  try dsimp only
  repeat' (with_reducible first | apply touches_Act_setEth | apply Touches.get | exact Part.Sub.trans (by decide) hS | intro _ | dsimp only)

theorem touches_Act_setTim {k : Nat} {v : DieTime} {S : List Part} (hS : Part.Sub [.sw] S) : Touches (Act.setTim k v) S := by
  unfold Act.setTim
  try dsimp only
  repeat' (with_reducible first | apply Touches.upd_of hS | exact Part.Sub.trans (by decide) hS | intro _ | dsimp only)
  all_goals (intro s p hp; cases p <;> first | rfl | exact absurd (by decide) hp)

theorem touches_Act_modTim {k : Nat} {f : DieTime → DieTime} {S : List Part} (hS : Part.Sub [.sw] S) : Touches (Act.modTim k f) S := by
  unfold Act.modTim
  try dsimp only
  repeat' (with_reducible first | apply touches_Act_setTim | apply Touches.get | exact Part.Sub.trans (by decide) hS | intro _ | dsimp only)

theorem touches_Act_setBus {k : Nat} {v : List (Nat × Nat)} {S : List Part} (hS : Part.Sub [.sw] S) : Touches (Act.setBus k v) S := by
  unfold Act.setBus
  try dsimp only
  repeat' (with_reducible first | apply Touches.upd_of hS | exact Part.Sub.trans (by decide) hS | intro _ | dsimp only)
  all_goals (intro s p hp; cases p <;> first | rfl | exact absurd (by decide) hp)

theorem touches_Act_modBus {k : Nat} {f : List (Nat × Nat) → List (Nat × Nat)} {S : List Part} (hS : Part.Sub [.sw] S) : Touches (Act.modBus k f) S := by
  unfold Act.modBus
  try dsimp only
  repeat' (with_reducible first | apply touches_Act_setBus | apply Touches.get | exact Part.Sub.trans (by decide) hS | intro _ | dsimp only)

theorem touches_Act_setDie {k : Nat} {v : Nat} {S : List Part} (hS : Part.Sub [.sw] S) : Touches (Act.setDie k v) S := by
  unfold Act.setDie
  try dsimp only
  repeat' (with_reducible first | apply Touches.upd_of hS | exact Part.Sub.trans (by decide) hS | intro _ | dsimp only)
  all_goals (intro s p hp; cases p <;> first | rfl | exact absurd (by decide) hp)

theorem touches_Act_modDie {k : Nat} {f : Nat → Nat} {S : List Part} (hS : Part.Sub [.sw] S) : Touches (Act.modDie k f) S := by
  unfold Act.modDie
  try dsimp only
  repeat' (with_reducible first | apply touches_Act_setDie | apply Touches.get | exact Part.Sub.trans (by decide) hS | intro _ | dsimp only)

theorem touches_Act_setFidNo {k : Nat} {v : Nat} {S : List Part} (hS : Part.Sub [.sw] S) : Touches (Act.setFidNo k v) S := by
  unfold Act.setFidNo
  try dsimp only
  repeat' (with_reducible first | apply Touches.upd_of hS | exact Part.Sub.trans (by decide) hS | intro _ | dsimp only)
  all_goals (intro s p hp; cases p <;> first | rfl | exact absurd (by decide) hp)

theorem touches_Act_modFidNo {k : Nat} {f : Nat → Nat} {S : List Part} (hS : Part.Sub [.sw] S) : Touches (Act.modFidNo k f) S := by
  unfold Act.modFidNo
  try dsimp only
  repeat' (with_reducible first | apply touches_Act_setFidNo | apply Touches.get | exact Part.Sub.trans (by decide) hS | intro _ | dsimp only)

theorem touches_Act_setRecorder {k : Nat} {v : Recorder} {S : List Part} (hS : Part.Sub [.mon] S) : Touches (Act.setRecorder k v) S := by
  unfold Act.setRecorder
  try dsimp only
  repeat' (with_reducible first | apply Touches.upd_of hS | exact Part.Sub.trans (by decide) hS | intro _ | dsimp only)
  all_goals (intro s p hp; cases p <;> first | rfl | exact absurd (by decide) hp)

theorem touches_Act_modRecorder {k : Nat} {f : Recorder → Recorder} {S : List Part} (hS : Part.Sub [.mon] S) : Touches (Act.modRecorder k f) S := by
  unfold Act.modRecorder
  try dsimp only
  repeat' (with_reducible first | apply touches_Act_setRecorder | apply Touches.get | exact Part.Sub.trans (by decide) hS | intro _ | dsimp only)

theorem touches_Act_setRecLost {k : Nat} {v : Nat} {S : List Part} (hS : Part.Sub [.mon] S) : Touches (Act.setRecLost k v) S := by
  unfold Act.setRecLost
  try dsimp only
  repeat' (with_reducible first | apply Touches.upd_of hS | exact Part.Sub.trans (by decide) hS | intro _ | dsimp only)
  all_goals (intro s p hp; cases p <;> first | rfl | exact absurd (by decide) hp)

theorem touches_Act_modRecLost {k : Nat} {f : Nat → Nat} {S : List Part} (hS : Part.Sub [.mon] S) : Touches (Act.modRecLost k f) S := by
  unfold Act.modRecLost
  try dsimp only
  repeat' (with_reducible first | apply touches_Act_setRecLost | apply Touches.get | exact Part.Sub.trans (by decide) hS | intro _ | dsimp only)

theorem touches_Act_setKslot {k : Nat} {v : KeySlot} {S : List Part} (hS : Part.Sub [.sec] S) : Touches (Act.setKslot k v) S := by
  unfold Act.setKslot
  try dsimp only
  repeat' (with_reducible first | apply Touches.upd_of hS | exact Part.Sub.trans (by decide) hS | intro _ | dsimp only)
  all_goals (intro s p hp; cases p <;> first | rfl | exact absurd (by decide) hp)

theorem touches_Act_modKslot {k : Nat} {f : KeySlot → KeySlot} {S : List Part} (hS : Part.Sub [.sec] S) : Touches (Act.modKslot k f) S := by
  unfold Act.modKslot
  try dsimp only
  repeat' (with_reducible first | apply touches_Act_setKslot | apply Touches.get | exact Part.Sub.trans (by decide) hS | intro _ | dsimp only)

theorem touches_Act_setKstore {k : Nat} {v : KeyStore} {S : List Part} (hS : Part.Sub [.sec] S) : Touches (Act.setKstore k v) S := by
  unfold Act.setKstore
  try dsimp only
  repeat' (with_reducible first | apply Touches.upd_of hS | exact Part.Sub.trans (by decide) hS | intro _ | dsimp only)
  all_goals (intro s p hp; cases p <;> first | rfl | exact absurd (by decide) hp)

theorem touches_Act_modKstore {k : Nat} {f : KeyStore → KeyStore} {S : List Part} (hS : Part.Sub [.sec] S) : Touches (Act.modKstore k f) S := by
  unfold Act.modKstore
  try dsimp only
  repeat' (with_reducible first | apply touches_Act_setKstore | apply Touches.get | exact Part.Sub.trans (by decide) hS | intro _ | dsimp only)

theorem touches_Act_setFresh {k : Nat} {v : Fresh} {S : List Part} (hS : Part.Sub [.sec] S) : Touches (Act.setFresh k v) S := by
  unfold Act.setFresh
  try dsimp only
  repeat' (with_reducible first | apply Touches.upd_of hS | exact Part.Sub.trans (by decide) hS | intro _ | dsimp only)
  all_goals (intro s p hp; cases p <;> first | rfl | exact absurd (by decide) hp)

theorem touches_Act_modFresh {k : Nat} {f : Fresh → Fresh} {S : List Part} (hS : Part.Sub [.sec] S) : Touches (Act.modFresh k f) S := by
  unfold Act.modFresh
  try dsimp only
  repeat' (with_reducible first | apply touches_Act_setFresh | apply Touches.get | exact Part.Sub.trans (by decide) hS | intro _ | dsimp only)

theorem touches_Act_setJob {k : Nat} {v : Option CipherJob} {S : List Part} (hS : Part.Sub [.sec] S) : Touches (Act.setJob k v) S := by
  unfold Act.setJob
  try dsimp only
  repeat' (with_reducible first | apply Touches.upd_of hS | exact Part.Sub.trans (by decide) hS | intro _ | dsimp only)
  all_goals (intro s p hp; cases p <;> first | rfl | exact absurd (by decide) hp)

theorem touches_Act_modJob {k : Nat} {f : Option CipherJob → Option CipherJob} {S : List Part} (hS : Part.Sub [.sec] S) : Touches (Act.modJob k f) S := by
  unfold Act.modJob
  try dsimp only
  repeat' (with_reducible first | apply touches_Act_setJob | apply Touches.get | exact Part.Sub.trans (by decide) hS | intro _ | dsimp only)

theorem touches_Act_setLpmSeq {k : Nat} {v : Nat} {S : List Part} (hS : Part.Sub [.sw] S) : Touches (Act.setLpmSeq k v) S := by
  unfold Act.setLpmSeq
  try dsimp only
  repeat' (with_reducible first | apply Touches.upd_of hS | exact Part.Sub.trans (by decide) hS | intro _ | dsimp only)
  all_goals (intro s p hp; cases p <;> first | rfl | exact absurd (by decide) hp)

theorem touches_Act_modLpmSeq {k : Nat} {f : Nat → Nat} {S : List Part} (hS : Part.Sub [.sw] S) : Touches (Act.modLpmSeq k f) S := by
  unfold Act.modLpmSeq
  try dsimp only
  repeat' (with_reducible first | apply touches_Act_setLpmSeq | apply Touches.get | exact Part.Sub.trans (by decide) hS | intro _ | dsimp only)

theorem touches_Act_setTjob {k : Nat} {v : Option TdmaJob} {S : List Part} (hS : Part.Sub [.sw] S) : Touches (Act.setTjob k v) S := by
  unfold Act.setTjob
  try dsimp only
  repeat' (with_reducible first | apply Touches.upd_of hS | exact Part.Sub.trans (by decide) hS | intro _ | dsimp only)
  all_goals (intro s p hp; cases p <;> first | rfl | exact absurd (by decide) hp)

theorem touches_Act_modTjob {k : Nat} {f : Option TdmaJob → Option TdmaJob} {S : List Part} (hS : Part.Sub [.sw] S) : Touches (Act.modTjob k f) S := by
  unfold Act.modTjob
  try dsimp only
  repeat' (with_reducible first | apply touches_Act_setTjob | apply Touches.get | exact Part.Sub.trans (by decide) hS | intro _ | dsimp only)

theorem touches_Act_setCan {k : Nat} {v : CanCtl} {S : List Part} (hS : Part.Sub [.nets] S) : Touches (Act.setCan k v) S := by
  unfold Act.setCan
  try dsimp only
  repeat' (with_reducible first | apply Touches.upd_of hS | exact Part.Sub.trans (by decide) hS | intro _ | dsimp only)
  all_goals (intro s p hp; cases p <;> first | rfl | exact absurd (by decide) hp)

theorem touches_Act_modCan {k : Nat} {f : CanCtl → CanCtl} {S : List Part} (hS : Part.Sub [.nets] S) : Touches (Act.modCan k f) S := by
  unfold Act.modCan
  try dsimp only
  repeat' (with_reducible first | apply touches_Act_setCan | apply Touches.get | exact Part.Sub.trans (by decide) hS | intro _ | dsimp only)

theorem touches_Act_setTrk {k : Nat} {v : Option (Nat × Nat)} {S : List Part} (hS : Part.Sub [.nets] S) : Touches (Act.setTrk k v) S := by
  unfold Act.setTrk
  try dsimp only
  repeat' (with_reducible first | apply Touches.upd_of hS | exact Part.Sub.trans (by decide) hS | intro _ | dsimp only)
  all_goals (intro s p hp; cases p <;> first | rfl | exact absurd (by decide) hp)

theorem touches_Act_modTrk {k : Nat} {f : Option (Nat × Nat) → Option (Nat × Nat)} {S : List Part} (hS : Part.Sub [.nets] S) : Touches (Act.modTrk k f) S := by
  unfold Act.modTrk
  try dsimp only
  repeat' (with_reducible first | apply touches_Act_setTrk | apply Touches.get | exact Part.Sub.trans (by decide) hS | intro _ | dsimp only)

theorem touches_Act_setLin {k : Nat} {v : LinCtl} {S : List Part} (hS : Part.Sub [.nets] S) : Touches (Act.setLin k v) S := by
  unfold Act.setLin
  try dsimp only
  repeat' (with_reducible first | apply Touches.upd_of hS | exact Part.Sub.trans (by decide) hS | intro _ | dsimp only)
  all_goals (intro s p hp; cases p <;> first | rfl | exact absurd (by decide) hp)

theorem touches_Act_modLin {k : Nat} {f : LinCtl → LinCtl} {S : List Part} (hS : Part.Sub [.nets] S) : Touches (Act.modLin k f) S := by
  unfold Act.modLin
  try dsimp only
  repeat' (with_reducible first | apply touches_Act_setLin | apply Touches.get | exact Part.Sub.trans (by decide) hS | intro _ | dsimp only)

theorem touches_Act_setPub {k : Nat} {v : Nat × Bool} {S : List Part} (hS : Part.Sub [.nets] S) : Touches (Act.setPub k v) S := by
  unfold Act.setPub
  try dsimp only
  repeat' (with_reducible first | apply Touches.upd_of hS | exact Part.Sub.trans (by decide) hS | intro _ | dsimp only)
  all_goals (intro s p hp; cases p <;> first | rfl | exact absurd (by decide) hp)

theorem touches_Act_modPub {k : Nat} {f : Nat × Bool → Nat × Bool} {S : List Part} (hS : Part.Sub [.nets] S) : Touches (Act.modPub k f) S := by
  unfold Act.modPub
  try dsimp only
  repeat' (with_reducible first | apply touches_Act_setPub | apply Touches.get | exact Part.Sub.trans (by decide) hS | intro _ | dsimp only)

theorem touches_Act_setXcvr {k : Nat} {v : Xcvr} {S : List Part} (hS : Part.Sub [.nets] S) : Touches (Act.setXcvr k v) S := by
  unfold Act.setXcvr
  try dsimp only
  repeat' (with_reducible first | apply Touches.upd_of hS | exact Part.Sub.trans (by decide) hS | intro _ | dsimp only)
  all_goals (intro s p hp; cases p <;> first | rfl | exact absurd (by decide) hp)

theorem touches_Act_modXcvr {k : Nat} {f : Xcvr → Xcvr} {S : List Part} (hS : Part.Sub [.nets] S) : Touches (Act.modXcvr k f) S := by
  unfold Act.modXcvr
  try dsimp only
  repeat' (with_reducible first | apply touches_Act_setXcvr | apply Touches.get | exact Part.Sub.trans (by decide) hS | intro _ | dsimp only)

theorem touches_Act_setLinOver {k : Nat} {v : Bool} {S : List Part} (hS : Part.Sub [.nets] S) : Touches (Act.setLinOver k v) S := by
  unfold Act.setLinOver
  try dsimp only
  repeat' (with_reducible first | apply Touches.upd_of hS | exact Part.Sub.trans (by decide) hS | intro _ | dsimp only)
  all_goals (intro s p hp; cases p <;> first | rfl | exact absurd (by decide) hp)

theorem touches_Act_modLinOver {k : Nat} {f : Bool → Bool} {S : List Part} (hS : Part.Sub [.nets] S) : Touches (Act.modLinOver k f) S := by
  unfold Act.modLinOver
  try dsimp only
  repeat' (with_reducible first | apply touches_Act_setLinOver | apply Touches.get | exact Part.Sub.trans (by decide) hS | intro _ | dsimp only)

theorem touches_Act_setSig {k : Nat} {v : Nat × Nat} {S : List Part} (hS : Part.Sub [.gw] S) : Touches (Act.setSig k v) S := by
  unfold Act.setSig
  try dsimp only
  repeat' (with_reducible first | apply Touches.upd_of hS | exact Part.Sub.trans (by decide) hS | intro _ | dsimp only)
  all_goals (intro s p hp; cases p <;> first | rfl | exact absurd (by decide) hp)

theorem touches_Act_modSig {k : Nat} {f : Nat × Nat → Nat × Nat} {S : List Part} (hS : Part.Sub [.gw] S) : Touches (Act.modSig k f) S := by
  unfold Act.modSig
  try dsimp only
  repeat' (with_reducible first | apply touches_Act_setSig | apply Touches.get | exact Part.Sub.trans (by decide) hS | intro _ | dsimp only)

theorem touches_Act_setPdu {k : Nat} {v : PduRun} {S : List Part} (hS : Part.Sub [.gw] S) : Touches (Act.setPdu k v) S := by
  unfold Act.setPdu
  try dsimp only
  repeat' (with_reducible first | apply Touches.upd_of hS | exact Part.Sub.trans (by decide) hS | intro _ | dsimp only)
  all_goals (intro s p hp; cases p <;> first | rfl | exact absurd (by decide) hp)

theorem touches_Act_modPdu {k : Nat} {f : PduRun → PduRun} {S : List Part} (hS : Part.Sub [.gw] S) : Touches (Act.modPdu k f) S := by
  unfold Act.modPdu
  try dsimp only
  repeat' (with_reducible first | apply touches_Act_setPdu | apply Touches.get | exact Part.Sub.trans (by decide) hS | intro _ | dsimp only)

theorem touches_Act_setCad {k : Nat} {v : Option Nat} {S : List Part} (hS : Part.Sub [.gw] S) : Touches (Act.setCad k v) S := by
  unfold Act.setCad
  try dsimp only
  repeat' (with_reducible first | apply Touches.upd_of hS | exact Part.Sub.trans (by decide) hS | intro _ | dsimp only)
  all_goals (intro s p hp; cases p <;> first | rfl | exact absurd (by decide) hp)

theorem touches_Act_modCad {k : Nat} {f : Option Nat → Option Nat} {S : List Part} (hS : Part.Sub [.gw] S) : Touches (Act.modCad k f) S := by
  unfold Act.modCad
  try dsimp only
  repeat' (with_reducible first | apply touches_Act_setCad | apply Touches.get | exact Part.Sub.trans (by decide) hS | intro _ | dsimp only)

theorem touches_Act_setTun {k : Nat} {v : Tunnel} {S : List Part} (hS : Part.Sub [.gw] S) : Touches (Act.setTun k v) S := by
  unfold Act.setTun
  try dsimp only
  repeat' (with_reducible first | apply Touches.upd_of hS | exact Part.Sub.trans (by decide) hS | intro _ | dsimp only)
  all_goals (intro s p hp; cases p <;> first | rfl | exact absurd (by decide) hp)

theorem touches_Act_modTun {k : Nat} {f : Tunnel → Tunnel} {S : List Part} (hS : Part.Sub [.gw] S) : Touches (Act.modTun k f) S := by
  unfold Act.modTun
  try dsimp only
  repeat' (with_reducible first | apply touches_Act_setTun | apply Touches.get | exact Part.Sub.trans (by decide) hS | intro _ | dsimp only)

theorem touches_Act_setSess {k : Nat} {v : List Session} {S : List Part} (hS : Part.Sub [.gw] S) : Touches (Act.setSess k v) S := by
  unfold Act.setSess
  try dsimp only
  repeat' (with_reducible first | apply Touches.upd_of hS | exact Part.Sub.trans (by decide) hS | intro _ | dsimp only)
  all_goals (intro s p hp; cases p <;> first | rfl | exact absurd (by decide) hp)

theorem touches_Act_modSess {k : Nat} {f : List Session → List Session} {S : List Part} (hS : Part.Sub [.gw] S) : Touches (Act.modSess k f) S := by
  unfold Act.modSess
  try dsimp only
  repeat' (with_reducible first | apply touches_Act_setSess | apply Touches.get | exact Part.Sub.trans (by decide) hS | intro _ | dsimp only)

theorem touches_Act_setByp {k : Nat} {v : List Bypass} {S : List Part} (hS : Part.Sub [.gw] S) : Touches (Act.setByp k v) S := by
  unfold Act.setByp
  try dsimp only
  repeat' (with_reducible first | apply Touches.upd_of hS | exact Part.Sub.trans (by decide) hS | intro _ | dsimp only)
  all_goals (intro s p hp; cases p <;> first | rfl | exact absurd (by decide) hp)

theorem touches_Act_modByp {k : Nat} {f : List Bypass → List Bypass} {S : List Part} (hS : Part.Sub [.gw] S) : Touches (Act.modByp k f) S := by
  unfold Act.modByp
  try dsimp only
  repeat' (with_reducible first | apply touches_Act_setByp | apply Touches.get | exact Part.Sub.trans (by decide) hS | intro _ | dsimp only)

theorem touches_Act_setWpend {k : Nat} {v : List WinPend} {S : List Part} (hS : Part.Sub [.gw] S) : Touches (Act.setWpend k v) S := by
  unfold Act.setWpend
  try dsimp only
  repeat' (with_reducible first | apply Touches.upd_of hS | exact Part.Sub.trans (by decide) hS | intro _ | dsimp only)
  all_goals (intro s p hp; cases p <;> first | rfl | exact absurd (by decide) hp)

theorem touches_Act_modWpend {k : Nat} {f : List WinPend → List WinPend} {S : List Part} (hS : Part.Sub [.gw] S) : Touches (Act.modWpend k f) S := by
  unfold Act.modWpend
  try dsimp only
  repeat' (with_reducible first | apply touches_Act_setWpend | apply Touches.get | exact Part.Sub.trans (by decide) hS | intro _ | dsimp only)

theorem touches_Act_setWpost {k : Nat} {v : List WinPost} {S : List Part} (hS : Part.Sub [.gw] S) : Touches (Act.setWpost k v) S := by
  unfold Act.setWpost
  try dsimp only
  repeat' (with_reducible first | apply Touches.upd_of hS | exact Part.Sub.trans (by decide) hS | intro _ | dsimp only)
  all_goals (intro s p hp; cases p <;> first | rfl | exact absurd (by decide) hp)

theorem touches_Act_modWpost {k : Nat} {f : List WinPost → List WinPost} {S : List Part} (hS : Part.Sub [.gw] S) : Touches (Act.modWpost k f) S := by
  unfold Act.modWpost
  try dsimp only
  repeat' (with_reducible first | apply touches_Act_setWpost | apply Touches.get | exact Part.Sub.trans (by decide) hS | intro _ | dsimp only)

theorem touches_Act_setMember {k : Nat} {v : Option Member} {S : List Part} (hS : Part.Sub [.plx] S) : Touches (Act.setMember k v) S := by
  unfold Act.setMember
  try dsimp only
  repeat' (with_reducible first | apply Touches.upd_of hS | exact Part.Sub.trans (by decide) hS | intro _ | dsimp only)
  all_goals (intro s p hp; cases p <;> first | rfl | exact absurd (by decide) hp)

theorem touches_Act_modMember {k : Nat} {f : Option Member → Option Member} {S : List Part} (hS : Part.Sub [.plx] S) : Touches (Act.modMember k f) S := by
  unfold Act.modMember
  try dsimp only
  repeat' (with_reducible first | apply touches_Act_setMember | apply Touches.get | exact Part.Sub.trans (by decide) hS | intro _ | dsimp only)

theorem touches_Act_setCens {k : Nat} {v : Option (Nat × Nat)} {S : List Part} (hS : Part.Sub [.plx] S) : Touches (Act.setCens k v) S := by
  unfold Act.setCens
  try dsimp only
  repeat' (with_reducible first | apply Touches.upd_of hS | exact Part.Sub.trans (by decide) hS | intro _ | dsimp only)
  all_goals (intro s p hp; cases p <;> first | rfl | exact absurd (by decide) hp)

theorem touches_Act_modCens {k : Nat} {f : Option (Nat × Nat) → Option (Nat × Nat)} {S : List Part} (hS : Part.Sub [.plx] S) : Touches (Act.modCens k f) S := by
  unfold Act.modCens
  try dsimp only
  repeat' (with_reducible first | apply touches_Act_setCens | apply Touches.get | exact Part.Sub.trans (by decide) hS | intro _ | dsimp only)

theorem touches_Act_setChan {k : Nat} {v : Channel} {S : List Part} (hS : Part.Sub [.io] S) : Touches (Act.setChan k v) S := by
  unfold Act.setChan
  try dsimp only
  repeat' (with_reducible first | apply Touches.upd_of hS | exact Part.Sub.trans (by decide) hS | intro _ | dsimp only)
  all_goals (intro s p hp; cases p <;> first | rfl | exact absurd (by decide) hp)

theorem touches_Act_modChan {k : Nat} {f : Channel → Channel} {S : List Part} (hS : Part.Sub [.io] S) : Touches (Act.modChan k f) S := by
  unfold Act.modChan
  try dsimp only
  repeat' (with_reducible first | apply touches_Act_setChan | apply Touches.get | exact Part.Sub.trans (by decide) hS | intro _ | dsimp only)

theorem touches_Act_setDrv {k : Nat} {v : DriveDie} {S : List Part} (hS : Part.Sub [.io] S) : Touches (Act.setDrv k v) S := by
  unfold Act.setDrv
  try dsimp only
  repeat' (with_reducible first | apply Touches.upd_of hS | exact Part.Sub.trans (by decide) hS | intro _ | dsimp only)
  all_goals (intro s p hp; cases p <;> first | rfl | exact absurd (by decide) hp)

theorem touches_Act_modDrv {k : Nat} {f : DriveDie → DriveDie} {S : List Part} (hS : Part.Sub [.io] S) : Touches (Act.modDrv k f) S := by
  unfold Act.modDrv
  try dsimp only
  repeat' (with_reducible first | apply touches_Act_setDrv | apply Touches.get | exact Part.Sub.trans (by decide) hS | intro _ | dsimp only)

theorem touches_Act_setPnet {k : Nat} {v : PartNet} {S : List Part} (hS : Part.Sub [.io] S) : Touches (Act.setPnet k v) S := by
  unfold Act.setPnet
  try dsimp only
  repeat' (with_reducible first | apply Touches.upd_of hS | exact Part.Sub.trans (by decide) hS | intro _ | dsimp only)
  all_goals (intro s p hp; cases p <;> first | rfl | exact absurd (by decide) hp)

theorem touches_Act_modPnet {k : Nat} {f : PartNet → PartNet} {S : List Part} (hS : Part.Sub [.io] S) : Touches (Act.modPnet k f) S := by
  unfold Act.modPnet
  try dsimp only
  repeat' (with_reducible first | apply touches_Act_setPnet | apply Touches.get | exact Part.Sub.trans (by decide) hS | intro _ | dsimp only)

theorem touches_Act_setPart {k : Nat} {v : Partition} {S : List Part} (hS : Part.Sub [.cpu] S) : Touches (Act.setPart k v) S := by
  unfold Act.setPart
  try dsimp only
  repeat' (with_reducible first | apply Touches.upd_of hS | exact Part.Sub.trans (by decide) hS | intro _ | dsimp only)
  all_goals (intro s p hp; cases p <;> first | rfl | exact absurd (by decide) hp)

theorem touches_Act_modPart {k : Nat} {f : Partition → Partition} {S : List Part} (hS : Part.Sub [.cpu] S) : Touches (Act.modPart k f) S := by
  unfold Act.modPart
  try dsimp only
  repeat' (with_reducible first | apply touches_Act_setPart | apply Touches.get | exact Part.Sub.trans (by decide) hS | intro _ | dsimp only)

theorem touches_Act_setSafePair {k : Nat} {v : SafePair} {S : List Part} (hS : Part.Sub [.cpu] S) : Touches (Act.setSafePair k v) S := by
  unfold Act.setSafePair
  try dsimp only
  repeat' (with_reducible first | apply Touches.upd_of hS | exact Part.Sub.trans (by decide) hS | intro _ | dsimp only)
  all_goals (intro s p hp; cases p <;> first | rfl | exact absurd (by decide) hp)

theorem touches_Act_modSafePair {k : Nat} {f : SafePair → SafePair} {S : List Part} (hS : Part.Sub [.cpu] S) : Touches (Act.modSafePair k f) S := by
  unfold Act.modSafePair
  try dsimp only
  repeat' (with_reducible first | apply touches_Act_setSafePair | apply Touches.get | exact Part.Sub.trans (by decide) hS | intro _ | dsimp only)

theorem touches_Act_setSlotOf {k : Nat} {v : Nat} {S : List Part} (hS : Part.Sub [.cpu] S) : Touches (Act.setSlotOf k v) S := by
  unfold Act.setSlotOf
  try dsimp only
  repeat' (with_reducible first | apply Touches.upd_of hS | exact Part.Sub.trans (by decide) hS | intro _ | dsimp only)
  all_goals (intro s p hp; cases p <;> first | rfl | exact absurd (by decide) hp)

theorem touches_Act_modSlotOf {k : Nat} {f : Nat → Nat} {S : List Part} (hS : Part.Sub [.cpu] S) : Touches (Act.modSlotOf k f) S := by
  unfold Act.modSlotOf
  try dsimp only
  repeat' (with_reducible first | apply touches_Act_setSlotOf | apply Touches.get | exact Part.Sub.trans (by decide) hS | intro _ | dsimp only)

theorem touches_Act_setRing {k : Nat} {v : TxRing} {S : List Part} (hS : Part.Sub [.cpu] S) : Touches (Act.setRing k v) S := by
  unfold Act.setRing
  try dsimp only
  repeat' (with_reducible first | apply Touches.upd_of hS | exact Part.Sub.trans (by decide) hS | intro _ | dsimp only)
  all_goals (intro s p hp; cases p <;> first | rfl | exact absurd (by decide) hp)

theorem touches_Act_modRing {k : Nat} {f : TxRing → TxRing} {S : List Part} (hS : Part.Sub [.cpu] S) : Touches (Act.modRing k f) S := by
  unfold Act.modRing
  try dsimp only
  repeat' (with_reducible first | apply touches_Act_setRing | apply Touches.get | exact Part.Sub.trans (by decide) hS | intro _ | dsimp only)

theorem touches_Act_setAprLevel {k : Nat} {v : Option (Int × Nat)} {S : List Part} (hS : Part.Sub [.cpu] S) : Touches (Act.setAprLevel k v) S := by
  unfold Act.setAprLevel
  try dsimp only
  repeat' (with_reducible first | apply Touches.upd_of hS | exact Part.Sub.trans (by decide) hS | intro _ | dsimp only)
  all_goals (intro s p hp; cases p <;> first | rfl | exact absurd (by decide) hp)

theorem touches_Act_modAprLevel {k : Nat} {f : Option (Int × Nat) → Option (Int × Nat)} {S : List Part} (hS : Part.Sub [.cpu] S) : Touches (Act.modAprLevel k f) S := by
  unfold Act.modAprLevel
  try dsimp only
  repeat' (with_reducible first | apply touches_Act_setAprLevel | apply Touches.get | exact Part.Sub.trans (by decide) hS | intro _ | dsimp only)

theorem touches_Act_setAprAt {k : Nat} {v : Nat} {S : List Part} (hS : Part.Sub [.cpu] S) : Touches (Act.setAprAt k v) S := by
  unfold Act.setAprAt
  try dsimp only
  repeat' (with_reducible first | apply Touches.upd_of hS | exact Part.Sub.trans (by decide) hS | intro _ | dsimp only)
  all_goals (intro s p hp; cases p <;> first | rfl | exact absurd (by decide) hp)

theorem touches_Act_modAprAt {k : Nat} {f : Nat → Nat} {S : List Part} (hS : Part.Sub [.cpu] S) : Touches (Act.modAprAt k f) S := by
  unfold Act.modAprAt
  try dsimp only
  repeat' (with_reducible first | apply touches_Act_setAprAt | apply Touches.get | exact Part.Sub.trans (by decide) hS | intro _ | dsimp only)

theorem touches_Act_setServedRing {k : Nat} {v : Nat} {S : List Part} (hS : Part.Sub [.cpu] S) : Touches (Act.setServedRing k v) S := by
  unfold Act.setServedRing
  try dsimp only
  repeat' (with_reducible first | apply Touches.upd_of hS | exact Part.Sub.trans (by decide) hS | intro _ | dsimp only)
  all_goals (intro s p hp; cases p <;> first | rfl | exact absurd (by decide) hp)

theorem touches_Act_modServedRing {k : Nat} {f : Nat → Nat} {S : List Part} (hS : Part.Sub [.cpu] S) : Touches (Act.modServedRing k f) S := by
  unfold Act.modServedRing
  try dsimp only
  repeat' (with_reducible first | apply touches_Act_setServedRing | apply Touches.get | exact Part.Sub.trans (by decide) hS | intro _ | dsimp only)

theorem touches_Act_setMtr {k : Nat} {v : Monitor} {S : List Part} (hS : Part.Sub [.mon] S) : Touches (Act.setMtr k v) S := by
  unfold Act.setMtr
  try dsimp only
  repeat' (with_reducible first | apply Touches.upd_of hS | exact Part.Sub.trans (by decide) hS | intro _ | dsimp only)
  all_goals (intro s p hp; cases p <;> first | rfl | exact absurd (by decide) hp)

theorem touches_Act_modMtr {k : Nat} {f : Monitor → Monitor} {S : List Part} (hS : Part.Sub [.mon] S) : Touches (Act.modMtr k f) S := by
  unfold Act.modMtr
  try dsimp only
  repeat' (with_reducible first | apply touches_Act_setMtr | apply Touches.get | exact Part.Sub.trans (by decide) hS | intro _ | dsimp only)

theorem touches_Act_setFabOff {k : Nat} {v : Nat} {S : List Part} (hS : Part.Sub [.sw] S) : Touches (Act.setFabOff k v) S := by
  unfold Act.setFabOff
  try dsimp only
  repeat' (with_reducible first | apply Touches.upd_of hS | exact Part.Sub.trans (by decide) hS | intro _ | dsimp only)
  all_goals (intro s p hp; cases p <;> first | rfl | exact absurd (by decide) hp)

theorem touches_Act_modFabOff {k : Nat} {f : Nat → Nat} {S : List Part} (hS : Part.Sub [.sw] S) : Touches (Act.modFabOff k f) S := by
  unfold Act.modFabOff
  try dsimp only
  repeat' (with_reducible first | apply touches_Act_setFabOff | apply Touches.get | exact Part.Sub.trans (by decide) hS | intro _ | dsimp only)

theorem touches_Act_setTurn {k : Nat} {v : Nat} {S : List Part} (hS : Part.Sub [.sw] S) : Touches (Act.setTurn k v) S := by
  unfold Act.setTurn
  try dsimp only
  repeat' (with_reducible first | apply Touches.upd_of hS | exact Part.Sub.trans (by decide) hS | intro _ | dsimp only)
  all_goals (intro s p hp; cases p <;> first | rfl | exact absurd (by decide) hp)

theorem touches_Act_modTurn {k : Nat} {f : Nat → Nat} {S : List Part} (hS : Part.Sub [.sw] S) : Touches (Act.modTurn k f) S := by
  unfold Act.modTurn
  try dsimp only
  repeat' (with_reducible first | apply touches_Act_setTurn | apply Touches.get | exact Part.Sub.trans (by decide) hS | intro _ | dsimp only)

theorem touches_Act_setTurnNow {k : Nat} {v : Nat} {S : List Part} (hS : Part.Sub [.sw] S) : Touches (Act.setTurnNow k v) S := by
  unfold Act.setTurnNow
  try dsimp only
  repeat' (with_reducible first | apply Touches.upd_of hS | exact Part.Sub.trans (by decide) hS | intro _ | dsimp only)
  all_goals (intro s p hp; cases p <;> first | rfl | exact absurd (by decide) hp)

theorem touches_Act_modTurnNow {k : Nat} {f : Nat → Nat} {S : List Part} (hS : Part.Sub [.sw] S) : Touches (Act.modTurnNow k f) S := by
  unfold Act.modTurnNow
  try dsimp only
  repeat' (with_reducible first | apply touches_Act_setTurnNow | apply Touches.get | exact Part.Sub.trans (by decide) hS | intro _ | dsimp only)

theorem touches_Act_setTallied {k : Nat} {v : Nat} {S : List Part} (hS : Part.Sub [.mon] S) : Touches (Act.setTallied k v) S := by
  unfold Act.setTallied
  try dsimp only
  repeat' (with_reducible first | apply Touches.upd_of hS | exact Part.Sub.trans (by decide) hS | intro _ | dsimp only)
  all_goals (intro s p hp; cases p <;> first | rfl | exact absurd (by decide) hp)

theorem touches_Act_modTallied {k : Nat} {f : Nat → Nat} {S : List Part} (hS : Part.Sub [.mon] S) : Touches (Act.modTallied k f) S := by
  unfold Act.modTallied
  try dsimp only
  repeat' (with_reducible first | apply touches_Act_setTallied | apply Touches.get | exact Part.Sub.trans (by decide) hS | intro _ | dsimp only)

theorem touches_Act_setTally {k : Nat} {v : Nat} {S : List Part} (hS : Part.Sub [.mon] S) : Touches (Act.setTally k v) S := by
  unfold Act.setTally
  try dsimp only
  repeat' (with_reducible first | apply Touches.upd_of hS | exact Part.Sub.trans (by decide) hS | intro _ | dsimp only)
  all_goals (intro s p hp; cases p <;> first | rfl | exact absurd (by decide) hp)

theorem touches_Act_modTally {k : Nat} {f : Nat → Nat} {S : List Part} (hS : Part.Sub [.mon] S) : Touches (Act.modTally k f) S := by
  unfold Act.modTally
  try dsimp only
  repeat' (with_reducible first | apply touches_Act_setTally | apply Touches.get | exact Part.Sub.trans (by decide) hS | intro _ | dsimp only)

theorem touches_Act_setSlotEdge {k : Nat} {v : Nat} {S : List Part} (hS : Part.Sub [.cpu] S) : Touches (Act.setSlotEdge k v) S := by
  unfold Act.setSlotEdge
  try dsimp only
  repeat' (with_reducible first | apply Touches.upd_of hS | exact Part.Sub.trans (by decide) hS | intro _ | dsimp only)
  all_goals (intro s p hp; cases p <;> first | rfl | exact absurd (by decide) hp)

theorem touches_Act_modSlotEdge {k : Nat} {f : Nat → Nat} {S : List Part} (hS : Part.Sub [.cpu] S) : Touches (Act.modSlotEdge k f) S := by
  unfold Act.modSlotEdge
  try dsimp only
  repeat' (with_reducible first | apply touches_Act_setSlotEdge | apply Touches.get | exact Part.Sub.trans (by decide) hS | intro _ | dsimp only)

/-! ## Ops -/

theorem touches_Act_setFld {a : Nat} {f : Fld} {n : Nat} {S : List Part} (hS : Part.Sub [.regs, .upsets] S) : Touches (Act.setFld a f n) S := by
  unfold Act.setFld
  try dsimp only
  repeat' (with_reducible first | apply Touches.setReg | apply Touches.get | exact Part.Sub.trans (by decide) hS | intro _ | dsimp only)

theorem touches_Act_setFlds {a : Nat} {l : List (Fld × Nat)} {S : List Part} (hS : Part.Sub [.regs, .upsets] S) : Touches (Act.setFlds a l) S := by
  unfold Act.setFlds
  try dsimp only
  repeat' (with_reducible first | apply Touches.setReg | apply Touches.get | exact Part.Sub.trans (by decide) hS | intro _ | dsimp only)

theorem touches_Act_bumpFld {a : Nat} {f : Fld} {n : Nat} {S : List Part} (hS : Part.Sub [.regs, .upsets] S) : Touches (Act.bumpFld a f n) S := by
  unfold Act.bumpFld
  try dsimp only
  repeat' (with_reducible first | apply touches_Act_setFld | apply Touches.get | exact Part.Sub.trans (by decide) hS | intro _ | dsimp only)

theorem touches_Act_maxFld {a : Nat} {f : Fld} {n : Nat} {S : List Part} (hS : Part.Sub [.regs, .upsets] S) : Touches (Act.maxFld a f n) S := by
  unfold Act.maxFld
  try dsimp only
  repeat' (with_reducible first | apply touches_Act_setFld | apply Touches.get | exact Part.Sub.trans (by decide) hS | intro _ | dsimp only)

theorem touches_Act_noteEvt {a i n : Nat} {S : List Part} (hS : Part.Sub [.evtNo] S) : Touches (Act.noteEvt a i n) S := by
  unfold Act.noteEvt
  try dsimp only
  repeat' (with_reducible first | apply Touches.upd_of hS | exact Part.Sub.trans (by decide) hS | intro _ | dsimp only)
  all_goals (intro s p hp; cases p <;> first | rfl | exact absurd (by decide) hp)

theorem touches_Act_event {a i : Nat} {S : List Part} (hS : Part.Sub [.regs, .evtNo, .upsets] S) : Touches (Act.event a i) S := by
  unfold Act.event
  try dsimp only
  repeat' (with_reducible first | apply touches_Act_noteEvt | apply Touches.setReg | apply Touches.all_cons | apply Touches.all_nil | apply Touches.get | exact Part.Sub.trans (by decide) hS | intro _ | dsimp only)

theorem touches_Act_clearSeq {a q : Nat} {S : List Part} (hS : Part.Sub [.regs, .upsets] S) : Touches (Act.clearSeq a q) S := by
  unfold Act.clearSeq
  try dsimp only
  repeat' (with_reducible first | apply Touches.setReg | apply Touches.get | exact Part.Sub.trans (by decide) hS | intro _ | dsimp only)

theorem touches_Act_irq {p : Nat} {i : Irq} {S : List Part} (hS : Part.Sub [.irqs] S) : Touches (Act.irq p i) S := by
  unfold Act.irq
  try dsimp only
  repeat' (with_reducible first | apply Touches.upd_of hS | exact Part.Sub.trans (by decide) hS | intro _ | dsimp only)
  all_goals (intro s p hp; cases p <;> first | rfl | exact absurd (by decide) hp)

theorem touches_Act_irqBlk {die blk : Nat} {S : List Part} (hS : Part.Sub [.irqs] S) : Touches (Act.irqBlk die blk) S := by
  unfold Act.irqBlk
  try dsimp only
  repeat' (with_reducible first | apply touches_Act_irq | apply Touches.get | exact Part.Sub.trans (by decide) hS | intro _ | dsimp only)

theorem touches_Act_eventIrq {a i : Nat} {S : List Part} (hS : Part.Sub [.regs, .evtNo, .upsets, .irqs] S) : Touches (Act.eventIrq a i) S := by
  unfold Act.eventIrq
  try dsimp only
  repeat' (with_reducible first | apply touches_Act_event | apply touches_Act_irqBlk | apply Touches.seq | exact Part.Sub.trans (by decide) hS | intro _ | dsimp only)

theorem touches_Act_passedHalf {a : Nat} {S : List Part} (hS : Part.Sub [.regs, .evtNo, .upsets, .irqs] S) : Touches (Act.passedHalf a) S := by
  unfold Act.passedHalf
  try dsimp only
  repeat' (with_reducible first | apply touches_Act_event | apply touches_Act_irqBlk | apply Touches.setReg | apply Touches.all_cons | apply Touches.all_nil | apply Touches.get | exact Part.Sub.trans (by decide) hS | intro _ | dsimp only)

theorem touches_Act_countBy {a n : Nat} {S : List Part} (hS : Part.Sub [.regs, .evtNo, .upsets, .irqs] S) : Touches (Act.countBy a n) S := by
  unfold Act.countBy
  try dsimp only
  repeat' (with_reducible first | apply touches_Act_passedHalf | apply Touches.setReg | apply Touches.seq | apply Touches.get | apply Touches.when | exact Part.Sub.trans (by decide) hS | intro _ | dsimp only)

theorem touches_Act_count {a : Nat} {S : List Part} (hS : Part.Sub [.regs, .evtNo, .upsets, .irqs] S) : Touches (Act.count a) S := by
  unfold Act.count
  try dsimp only
  repeat' (with_reducible first | apply touches_Act_countBy | exact Part.Sub.trans (by decide) hS | intro _ | dsimp only)

theorem touches_Act_blkErr {a i : Nat} {ag : Agent} {S : List Part} (hS : Part.Sub [.regs, .evtNo, .upsets] S) : Touches (Act.blkErr a i ag) S := by
  unfold Act.blkErr
  try dsimp only
  repeat' (with_reducible first | apply touches_Act_setFlds | apply touches_Act_event | apply Touches.all_cons | apply Touches.all_nil | exact Part.Sub.trans (by decide) hS | intro _ | dsimp only)

theorem touches_Act_setSup {d : Nat} {f : Supply → Supply} {S : List Part} (hS : Part.Sub [.sup] S) : Touches (Act.setSup d f) S := by
  unfold Act.setSup
  try dsimp only
  repeat' (with_reducible first | apply Touches.upd_of hS | exact Part.Sub.trans (by decide) hS | intro _ | dsimp only)
  all_goals (intro s p hp; cases p <;> first | rfl | exact absurd (by decide) hp)

theorem touches_Act_setPsup {p : Nat} {f : PrismSupply → PrismSupply} {S : List Part} (hS : Part.Sub [.prism] S) : Touches (Act.setPsup p f) S := by
  unfold Act.setPsup
  try dsimp only
  repeat' (with_reducible first | apply Touches.upd_of hS | exact Part.Sub.trans (by decide) hS | intro _ | dsimp only)
  all_goals (intro s p hp; cases p <;> first | rfl | exact absurd (by decide) hp)

theorem touches_Act_setStart {f : Start → Start} {S : List Part} (hS : Part.Sub [.start] S) : Touches (Act.setStart f) S := by
  unfold Act.setStart
  try dsimp only
  repeat' (with_reducible first | apply Touches.upd_of hS | exact Part.Sub.trans (by decide) hS | intro _ | dsimp only)
  all_goals (intro s p hp; cases p <;> first | rfl | exact absurd (by decide) hp)

theorem touches_Act_setTblWords {die tbl idx : Nat} {l : List Word} {S : List Part} (hS : Part.Sub [.tbls] S) : Touches (Act.setTblWords die tbl idx l) S := by
  unfold Act.setTblWords
  try dsimp only
  repeat' (with_reducible first | apply Touches.setTbl | apply Touches.all_cons | apply Touches.all_nil | apply Touches.all_map | exact Part.Sub.trans (by decide) hS | intro _ | dsimp only)

theorem touches_Act_badValue {a : Nat} {ag : Agent} {k : Code → Act} {S : List Part} (hS : Part.Sub [.regs, .evtNo, .upsets] S) (hk_k : ∀ x0, Touches (k x0) S) : Touches (Act.badValue a ag k) S := by
  unfold Act.badValue
  try dsimp only
  repeat' (with_reducible first | exact hk_k _ | apply touches_Act_blkErr | apply Touches.seq | exact Part.Sub.trans (by decide) hS | intro _ | dsimp only)

theorem touches_Act_store {a : Nat} {v : Word} {S : List Part} (hS : Part.Sub [.regs, .upsets] S) : Touches (Act.store a v) S := by
  unfold Act.store
  try dsimp only
  repeat' (with_reducible first | apply Touches.setReg | apply Touches.get | apply Touches.skip | exact Part.Sub.trans (by decide) hS | intro _ | split | dsimp only)

/-! ## Facet -/

theorem touches_Act_intake {p f : Nat} {r : RxFrame} {S : List Part} (hS : Part.Sub [.sw] S) : Touches (Act.intake p f r) S := by
  unfold Act.intake
  try dsimp only
  repeat' (with_reducible first | apply touches_Act_modBuf | apply touches_Act_setFidNo | apply Touches.all_cons | apply Touches.all_nil | apply Touches.get | exact Part.Sub.trans (by decide) hS | intro _ | dsimp only)

theorem touches_Act_offer {p f : Nat} {dest : Nat} {data : List Byte} {ts : Nat} {S : List Part} (hS : Part.Sub [.sw] S) : Touches (Act.offer p f dest data ts) S := by
  unfold Act.offer
  try dsimp only
  repeat' (with_reducible first | apply touches_Act_intake | exact Part.Sub.trans (by decide) hS | intro _ | dsimp only)

/-! ## PartNets -/

theorem touches_Act_updDoze {f : Doze → Doze} {S : List Part} (hS : Part.Sub [.io] S) : Touches (Act.updDoze f) S := by
  unfold Act.updDoze
  try dsimp only
  repeat' (with_reducible first | apply Touches.upd_of hS | exact Part.Sub.trans (by decide) hS | intro _ | dsimp only)
  all_goals (intro s p hp; cases p <;> first | rfl | exact absurd (by decide) hp)

theorem touches_Act_pnDue {k : Nat} {c : PnCause} {S : List Part} (hS : Part.Sub [.io] S) : Touches (Act.pnDue k c) S := by
  unfold Act.pnDue
  try dsimp only
  repeat' (with_reducible first | apply touches_Act_modPnet | apply Touches.ite | exact Part.Sub.trans (by decide) hS | intro _ | split | dsimp only)

theorem touches_Act_pnTraffic {p f : Nat} {S : List Part} (hS : Part.Sub [.io] S) : Touches (Act.pnTraffic p f) S := by
  unfold Act.pnTraffic
  try dsimp only
  repeat' (with_reducible first | apply touches_Act_pnDue | apply Touches.get | apply Touches.when | apply Touches.opt | exact Part.Sub.trans (by decide) hS | intro _ | dsimp only)

/-! ## Sample -/

theorem touches_Act_offerMon {p src arg : Nat} {v : Int} {S : List Part} (hS : Part.Sub [.mon] S) : Touches (Act.offerMon p src arg v) S := by
  unfold Act.offerMon
  try dsimp only
  repeat' (with_reducible first | apply Touches.upd_of hS | apply Touches.get | apply Touches.when | apply Touches.all_map | exact Part.Sub.trans (by decide) hS | intro _ | dsimp only)
  all_goals (intro s p hp; cases p <;> first | rfl | exact absurd (by decide) hp)

theorem touches_Act_tallyMon {p src arg n : Nat} {S : List Part} (hS : Part.Sub [.mon] S) : Touches (Act.tallyMon p src arg n) S := by
  unfold Act.tallyMon
  try dsimp only
  repeat' (with_reducible first | apply touches_Act_modTally | apply Touches.get | apply Touches.when | exact Part.Sub.trans (by decide) hS | intro _ | dsimp only)

theorem touches_Act_rollTallies  {S : List Part} (hS : Part.Sub [.mon] S) : Touches (Act.rollTallies ) S := by
  unfold Act.rollTallies
  try dsimp only
  repeat' (with_reducible first | apply Touches.upd_of hS | exact Part.Sub.trans (by decide) hS | intro _ | dsimp only)
  all_goals (intro s p hp; cases p <;> first | rfl | exact absurd (by decide) hp)

/-! ## Pool -/

theorem touches_Act_spillResume {p : Nat} {S : List Part} (hS : Part.Sub [.sw] S) : Touches (Act.spillResume p) S := by
  unfold Act.spillResume
  try dsimp only
  repeat' (with_reducible first | apply touches_Act_modQueue | apply Touches.get | apply Touches.each | exact Part.Sub.trans (by decide) hS | intro _ | dsimp only)

theorem touches_Act_checkShared {p : Nat} {S : List Part} (hS : Part.Sub [.regs, .evtNo, .upsets, .sw] S) : Touches (Act.checkShared p) S := by
  unfold Act.checkShared
  try dsimp only
  repeat' (with_reducible first | apply touches_Act_setLow | apply touches_Act_event | apply touches_Act_spillResume | apply Touches.all_cons | apply Touches.all_nil | apply Touches.get | apply Touches.when | exact Part.Sub.trans (by decide) hS | intro _ | dsimp only)

theorem touches_Act_dropRef {p q reason : Nat} {S : List Part} (hS : Part.Sub [.regs, .evtNo, .upsets, .irqs, .io] S) : Touches (Act.dropRef p q reason) S := by
  unfold Act.dropRef
  try dsimp only
  repeat' (with_reducible first | apply touches_Act_setFlds | apply touches_Act_event | apply touches_Act_count | apply touches_Act_pnTraffic | apply Touches.all_cons | apply Touches.all_nil | exact Part.Sub.trans (by decide) hS | intro _ | split | dsimp only)

theorem touches_Act_offerDepth {p q : Nat} {S : List Part} (hS : Part.Sub [.mon] S) : Touches (Act.offerDepth p q) S := by
  unfold Act.offerDepth
  try dsimp only
  repeat' (with_reducible first | apply touches_Act_offerMon | apply Touches.get | exact Part.Sub.trans (by decide) hS | intro _ | dsimp only)

theorem touches_Act_addRef {p q : Nat} {r : Ref} {S : List Part} (hS : Part.Sub [.sw, .mon] S) : Touches (Act.addRef p q r) S := by
  unfold Act.addRef
  try dsimp only
  repeat' (with_reducible first | apply touches_Act_modQueue | apply touches_Act_offerDepth | apply Touches.seq | apply Touches.get | apply Touches.ite | exact Part.Sub.trans (by decide) hS | intro _ | split | dsimp only)

theorem touches_Act_eachQueue {p : Nat} {f : Nat → Queue → Queue} {S : List Part} (hS : Part.Sub [.sw] S) : Touches (Act.eachQueue p f) S := by
  unfold Act.eachQueue
  try dsimp only
  repeat' (with_reducible first | apply touches_Act_modQueue | apply Touches.get | apply Touches.each | exact Part.Sub.trans (by decide) hS | intro _ | dsimp only)

theorem touches_Act_removeId {p id : Nat} {S : List Part} (hS : Part.Sub [.sw] S) : Touches (Act.removeId p id) S := by
  unfold Act.removeId
  try dsimp only
  repeat' (with_reducible first | apply touches_Act_eachQueue | apply Touches.each | exact Part.Sub.trans (by decide) hS | intro _ | dsimp only)

/-! ## Shape -/

theorem touches_Act_shape {p : Nat} {S : List Part} (hS : Part.Sub [.sw] S) : Touches (Act.shape p) S := by
  unfold Act.shape
  try dsimp only
  repeat' (with_reducible first | apply touches_Act_setShaper | apply Touches.get | apply Touches.each | exact Part.Sub.trans (by decide) hS | intro _ | dsimp only)

theorem touches_cbsWrite {ag : Agent} {p i : Nat} {v : Word} {k : Code → Act} {S : List Part} (hS : Part.Sub [.regs, .evtNo, .upsets, .sw] S) (hk_k : ∀ x0, Touches (k x0) S) : Touches (cbsWrite ag p i v k) S := by
  unfold cbsWrite
  try dsimp only
  repeat' (with_reducible first | exact hk_k _ | apply touches_Act_setShaper | apply touches_Act_badValue | apply touches_Act_store | apply Touches.all_cons | apply Touches.all_nil | apply Touches.get | apply Touches.ite | exact Part.Sub.trans (by decide) hS | intro _ | split | dsimp only)

theorem touches_Act_gateOverrun {p f : Nat} {S : List Part} (hS : Part.Sub [.regs, .evtNo, .upsets, .irqs] S) : Touches (Act.gateOverrun p f) S := by
  unfold Act.gateOverrun
  try dsimp only
  repeat' (with_reducible first | apply touches_Act_setFlds | apply touches_Act_event | apply touches_Act_count | apply Touches.all_cons | apply Touches.all_nil | apply Touches.get | apply Touches.when | apply Touches.opt | exact Part.Sub.trans (by decide) hS | intro _ | dsimp only)

theorem touches_Act_setGates {p f : Nat} {g : Gates → Gates} {S : List Part} (hS : Part.Sub [.regs, .evtNo, .upsets, .irqs, .sw] S) : Touches (Act.setGates p f g) S := by
  unfold Act.setGates
  try dsimp only
  repeat' (with_reducible first | apply touches_Act_modGate | apply touches_Act_shape | apply touches_Act_gateOverrun | apply Touches.all_cons | apply Touches.all_nil | apply Touches.get | apply Touches.when | exact Part.Sub.trans (by decide) hS | intro _ | dsimp only)

theorem touches_gclCtrl {ag : Agent} {p f : Nat} {v : Word} {k : Code → Act} {S : List Part} (hS : Part.Sub [.regs, .evtNo, .upsets, .sw] S) (hk_k : ∀ x0, Touches (k x0) S) : Touches (gclCtrl ag p f v k) S := by
  unfold gclCtrl
  try dsimp only
  repeat' (with_reducible first | exact hk_k _ | apply touches_Act_modGate | apply touches_Act_setFld | apply touches_Act_badValue | apply touches_Act_store | apply touches_Act_shape | apply Touches.all_cons | apply Touches.all_nil | apply Touches.get | apply Touches.ite | exact Part.Sub.trans (by decide) hS | intro _ | split | dsimp only)

theorem touches_gclSwitch {p f : Nat} {S : List Part} (hS : Part.Sub [.regs, .evtNo, .upsets, .irqs, .sw] S) : Touches (gclSwitch p f) S := by
  unfold gclSwitch
  try dsimp only
  repeat' (with_reducible first | apply touches_Act_modGate | apply touches_Act_setFlds | apply touches_Act_shape | apply touches_Act_gateOverrun | apply Touches.all_cons | apply Touches.all_nil | apply Touches.get | apply Touches.when | apply Touches.opt | exact Part.Sub.trans (by decide) hS | intro _ | dsimp only)

theorem touches_gateEntryBegin {p f : Nat} {S : List Part} (hS : Part.Sub [.regs, .evtNo, .upsets, .irqs, .sw] S) : Touches (gateEntryBegin p f) S := by
  unfold gateEntryBegin
  try dsimp only
  repeat' (with_reducible first | apply touches_Act_setGates | apply Touches.get | apply Touches.opt | apply Touches.skip | apply Touches.ite | exact Part.Sub.trans (by decide) hS | intro _ | split | dsimp only)

theorem touches_Act_gatesStepped {p : Nat} {S : List Part} (hS : Part.Sub [.regs, .upsets, .sw] S) : Touches (Act.gatesStepped p) S := by
  unfold Act.gatesStepped
  try dsimp only
  repeat' (with_reducible first | apply touches_Act_modGate | apply touches_Act_bumpFld | apply Touches.seq | apply Touches.get | apply Touches.each | exact Part.Sub.trans (by decide) hS | intro _ | dsimp only)

end Sys2Proof.Machine
end

