-- ==== Sys2Proof/Laws/Frame/Group2.lean ====
section
/-! SUPPORT. Which parts of the state the operations of Fabric, Queue, Can, Lookup, KeyStore, Msec may change. -/

set_option linter.unusedTactic false
set_option linter.unreachableTactic false

namespace Sys2Proof.Machine

/-! ## Fabric -/

theorem touches_Act_portIrq {p n : Nat} {S : List Part} (hS : Part.Sub [.irqs] S) : Touches (Act.portIrq p n) S := by
  unfold Act.portIrq
  try dsimp only
  repeat' (with_reducible first | apply touches_Act_irq | apply Touches.get | apply Touches.when | exact Part.Sub.trans (by decide) hS | intro _ | dsimp only)

theorem touches_Act_portsIrq {p id : Nat} {S : List Part} (hS : Part.Sub [.irqs] S) : Touches (Act.portsIrq p id) S := by
  unfold Act.portsIrq
  try dsimp only
  repeat' (with_reducible first | apply touches_Act_portIrq | apply Touches.get | apply Touches.each | exact Part.Sub.trans (by decide) hS | intro _ | dsimp only)

theorem touches_Act_mirrorRef {p id n : Nat} {done : Bool} {fr : Frame} {S : List Part} (hS : Part.Sub [.regs, .evtNo, .upsets, .irqs, .sw, .mon, .io] S) : Touches (Act.mirrorRef p id n done fr) S := by
  unfold Act.mirrorRef
  try dsimp only
  repeat' (with_reducible first | apply touches_Act_setRecLost | apply touches_Act_event | apply touches_Act_count | apply touches_Act_dropRef | apply touches_Act_addRef | apply touches_Act_portsIrq | apply Touches.all_cons | apply Touches.all_nil | apply Touches.seq | apply Touches.get | apply Touches.when | exact Part.Sub.trans (by decide) hS | intro _ | split | dsimp only)

theorem touches_Act_periscope {p id n : Nat} {done adm : Bool} {f q : Nat} {filt : Option Nat} {fr : Frame} {S : List Part} (hS : Part.Sub [.regs, .evtNo, .upsets, .irqs, .sw, .mon, .io] S) : Touches (Act.periscope p id n done adm f q filt fr) S := by
  unfold Act.periscope
  try dsimp only
  repeat' (with_reducible first | apply touches_Act_modRecorder | apply touches_Act_count | apply touches_Act_mirrorRef | apply Touches.all_cons | apply Touches.all_nil | apply Touches.get | apply Touches.each | apply Touches.opt | apply Touches.skip | apply Touches.ite | exact Part.Sub.trans (by decide) hS | intro _ | split | dsimp only)

theorem touches_Act_unitsBack {p f : Nat} {fr : Frame} {first last : Nat} {S : List Part} (hS : Part.Sub [.sw] S) : Touches (Act.unitsBack p f fr first last) S := by
  unfold Act.unitsBack
  try dsimp only
  repeat' (with_reducible first | apply touches_Act_modLink | apply Touches.skip | apply Touches.ite | apply Touches.all_map | exact Part.Sub.trans (by decide) hS | intro _ | split | dsimp only)

theorem touches_Act_ringDenied {p : Nat} {r : RxFrame} {S : List Part} (hS : Part.Sub [.regs, .evtNo, .upsets, .irqs] S) : Touches (Act.ringDenied p r) S := by
  unfold Act.ringDenied
  try dsimp only
  repeat' (with_reducible first | apply touches_Act_count | apply Touches.when | apply Touches.opt | exact Part.Sub.trans (by decide) hS | intro _ | dsimp only)

theorem touches_Act_ringEntered {p : Nat} {r : RxFrame} {S : List Part} (hS : Part.Sub [.cpu] S) : Touches (Act.ringEntered p r) S := by
  unfold Act.ringEntered
  try dsimp only
  repeat' (with_reducible first | apply touches_Act_modRing | apply Touches.opt | exact Part.Sub.trans (by decide) hS | intro _ | dsimp only)

theorem touches_Act_discardCand {p f c : Nat} {r : RxFrame} {S : List Part} (hS : Part.Sub [.regs, .evtNo, .upsets, .irqs, .sw] S) : Touches (Act.discardCand p f c r) S := by
  unfold Act.discardCand
  try dsimp only
  repeat' (with_reducible first | apply touches_Act_modBuf | apply touches_Act_unitsBack | apply touches_Act_ringDenied | apply Touches.all_cons | apply Touches.all_nil | exact Part.Sub.trans (by decide) hS | intro _ | dsimp only)

theorem touches_Act_stormOwn {p f : Nat} {S : List Part} (hS : Part.Sub [.regs, .evtNo, .upsets] S) : Touches (Act.stormOwn p f) S := by
  unfold Act.stormOwn
  try dsimp only
  repeat' (with_reducible first | apply touches_Act_event | apply Touches.skip | apply Touches.ite | exact Part.Sub.trans (by decide) hS | intro _ | split | dsimp only)

theorem touches_Act_stormDiscard {p f c : Nat} {r : RxFrame} {S : List Part} (hS : Part.Sub [.regs, .evtNo, .upsets, .irqs, .sw] S) : Touches (Act.stormDiscard p f c r) S := by
  unfold Act.stormDiscard
  try dsimp only
  repeat' (with_reducible first | apply touches_Act_modHold | apply touches_Act_setFlds | apply touches_Act_event | apply touches_Act_count | apply touches_Act_discardCand | apply touches_Act_stormOwn | apply Touches.setReg | apply Touches.all_cons | apply Touches.all_nil | apply Touches.get | apply Touches.when | exact Part.Sub.trans (by decide) hS | intro _ | dsimp only)

theorem touches_Act_refuseCand {p f c : Nat} {r : RxFrame} {S : List Part} (hS : Part.Sub [.regs, .evtNo, .upsets, .irqs, .sw] S) : Touches (Act.refuseCand p f c r) S := by
  unfold Act.refuseCand
  try dsimp only
  repeat' (with_reducible first | apply touches_Act_modBuf | apply touches_Act_setHold | apply touches_Act_count | apply touches_Act_discardCand | apply touches_Act_stormDiscard | apply Touches.all_cons | apply Touches.all_nil | apply Touches.seq | apply Touches.get | apply Touches.ite | exact Part.Sub.trans (by decide) hS | intro _ | split | dsimp only)

theorem touches_Act_endHold {p f c : Nat} {S : List Part} (hS : Part.Sub [.regs, .upsets, .sw] S) : Touches (Act.endHold p f c) S := by
  unfold Act.endHold
  try dsimp only
  repeat' (with_reducible first | apply touches_Act_setHold | apply touches_Act_maxFld | apply Touches.seq | apply Touches.get | apply Touches.skip | apply Touches.ite | exact Part.Sub.trans (by decide) hS | intro _ | split | dsimp only)

theorem touches_Act_cellErr {p src cls place : Nat} {S : List Part} (hS : Part.Sub [.regs, .evtNo, .upsets, .irqs] S) : Touches (Act.cellErr p src cls place) S := by
  unfold Act.cellErr
  try dsimp only
  repeat' (with_reducible first | apply touches_Act_setFlds | apply touches_Act_event | apply touches_Act_count | apply Touches.all_cons | apply Touches.all_nil | exact Part.Sub.trans (by decide) hS | intro _ | dsimp only)

theorem touches_Act_repMiss {p : Nat} {S : List Part} (hS : Part.Sub [.regs, .evtNo, .upsets, .irqs] S) : Touches (Act.repMiss p) S := by
  unfold Act.repMiss
  try dsimp only
  repeat' (with_reducible first | apply touches_Act_event | apply touches_Act_count | apply Touches.seq | exact Part.Sub.trans (by decide) hS | intro _ | dsimp only)

theorem touches_Act_grant {p f c n : Nat} {r : RxFrame} {links : List RxFrame} {plan : List (Offer × Verdict)} {S : List Part} (hS : Part.Sub [.regs, .evtNo, .upsets, .irqs, .sw, .mon, .io, .cpu] S) : Touches (Act.grant p f c n r links plan) S := by
  unfold Act.grant
  try dsimp only
  repeat' (with_reducible first | apply touches_Act_modBuf | apply touches_Act_modAdm | apply touches_Act_count | apply touches_Act_offerMon | apply touches_Act_checkShared | apply touches_Act_dropRef | apply touches_Act_addRef | apply touches_Act_shape | apply touches_Act_periscope | apply touches_Act_unitsBack | apply touches_Act_ringDenied | apply touches_Act_ringEntered | apply touches_Act_endHold | apply Touches.upd_of hS | apply Touches.all_cons | apply Touches.all_nil | apply Touches.seq | apply Touches.get | apply Touches.when | apply Touches.each | apply Touches.skip | apply Touches.ite | apply Touches.all_map | exact Part.Sub.trans (by decide) hS | intro _ | split | dsimp only)
  all_goals (intro s p hp; cases p <;> first | rfl | exact absurd (by decide) hp)

theorem touches_Act_mirrorNoRoom {p f c : Nat} {r : RxFrame} {S : List Part} (hS : Part.Sub [.regs, .evtNo, .upsets, .irqs, .sw] S) : Touches (Act.mirrorNoRoom p f c r) S := by
  unfold Act.mirrorNoRoom
  try dsimp only
  repeat' (with_reducible first | apply touches_Act_event | apply touches_Act_count | apply touches_Act_discardCand | apply Touches.all_cons | apply Touches.all_nil | apply Touches.when | exact Part.Sub.trans (by decide) hS | intro _ | dsimp only)

theorem touches_Act_request {p f c : Nat} {r : RxFrame} {S : List Part} (hS : Part.Sub [.regs, .evtNo, .upsets, .irqs, .sw, .mon, .io, .cpu] S) : Touches (Act.request p f c r) S := by
  unfold Act.request
  try dsimp only
  repeat' (with_reducible first | apply touches_Act_modBuf | apply touches_Act_discardCand | apply touches_Act_refuseCand | apply touches_Act_repMiss | apply touches_Act_grant | apply touches_Act_mirrorNoRoom | apply Touches.seq | apply Touches.get | apply Touches.ite | exact Part.Sub.trans (by decide) hS | intro _ | split | dsimp only)

theorem touches_frameAdmission {p f : Nat} {S : List Part} (hS : Part.Sub [.regs, .evtNo, .upsets, .irqs, .sw, .mon, .io, .cpu] S) : Touches (frameAdmission p f) S := by
  unfold frameAdmission
  try dsimp only
  repeat' (with_reducible first | apply touches_Act_request | apply Touches.get | apply Touches.opt | exact Part.Sub.trans (by decide) hS | intro _ | dsimp only)

theorem touches_admissionRetry {p f c : Nat} {S : List Part} (hS : Part.Sub [.regs, .evtNo, .upsets, .irqs, .sw, .mon, .io, .cpu] S) : Touches (admissionRetry p f c) S := by
  unfold admissionRetry
  try dsimp only
  repeat' (with_reducible first | apply touches_Act_request | apply Touches.get | apply Touches.when | apply Touches.opt | exact Part.Sub.trans (by decide) hS | intro _ | dsimp only)

theorem touches_stormTimeout {p f c : Nat} {S : List Part} (hS : Part.Sub [.regs, .evtNo, .upsets, .irqs, .sw] S) : Touches (stormTimeout p f c) S := by
  unfold stormTimeout
  try dsimp only
  repeat' (with_reducible first | apply touches_Act_setHold | apply touches_Act_stormDiscard | apply Touches.seq | apply Touches.get | apply Touches.when | apply Touches.opt | exact Part.Sub.trans (by decide) hS | intro _ | dsimp only)

theorem touches_Act_complete {p id n : Nat} {S : List Part} (hS : Part.Sub [.sw] S) : Touches (Act.complete p id n) S := by
  unfold Act.complete
  try dsimp only
  repeat' (with_reducible first | apply touches_Act_eachQueue | apply Touches.each | apply Touches.ite | apply Touches.all_map | exact Part.Sub.trans (by decide) hS | intro _ | split | dsimp only)

theorem touches_Act_abortTx {p : Nat} {fr : Frame} {S : List Part} (hS : Part.Sub [.sw] S) : Touches (Act.abortTx p fr) S := by
  unfold Act.abortTx
  try dsimp only
  repeat' (with_reducible first | apply touches_Act_modEth | apply Touches.get | apply Touches.when | apply Touches.each | apply Touches.all_map | exact Part.Sub.trans (by decide) hS | intro _ | dsimp only)

theorem touches_Act_entryServed {p f n : Nat} {S : List Part} (hS : Part.Sub [.sw] S) : Touches (Act.entryServed p f n) S := by
  unfold Act.entryServed
  try dsimp only
  repeat' (with_reducible first | apply touches_Act_setTurn | apply touches_Act_setTurnNow | apply Touches.seq | apply Touches.get | exact Part.Sub.trans (by decide) hS | intro _ | dsimp only)

theorem touches_Act_enter {p f : Nat} {a : Admitted} {S : List Part} (hS : Part.Sub [.regs, .evtNo, .upsets, .irqs, .sw, .mon] S) : Touches (Act.enter p f a) S := by
  unfold Act.enter
  try dsimp only
  repeat' (with_reducible first | apply touches_Act_modAdm | apply touches_Act_countBy | apply touches_Act_count | apply touches_Act_tallyMon | apply touches_Act_checkShared | apply touches_Act_eachQueue | apply touches_Act_removeId | apply touches_Act_shape | apply touches_Act_portsIrq | apply touches_Act_unitsBack | apply touches_Act_complete | apply touches_Act_abortTx | apply touches_Act_entryServed | apply Touches.all_cons | apply Touches.all_nil | apply Touches.get | apply Touches.when | apply Touches.each | apply Touches.ite | apply Touches.all_map | exact Part.Sub.trans (by decide) hS | intro _ | split | dsimp only)

theorem touches_frameEntry {p : Nat} {S : List Part} (hS : Part.Sub [.regs, .evtNo, .upsets, .irqs, .sw, .mon] S) : Touches (frameEntry p) S := by
  unfold frameEntry
  try dsimp only
  repeat' (with_reducible first | apply touches_Act_enter | apply Touches.get | apply Touches.opt | exact Part.Sub.trans (by decide) hS | intro _ | dsimp only)

theorem touches_Act_d2dExchange {p j : Nat} {S : List Part} (hS : Part.Sub [.sw] S) : Touches (Act.d2dExchange p j) S := by
  unfold Act.d2dExchange
  try dsimp only
  repeat' (with_reducible first | apply touches_Act_modLink | apply Touches.seq | apply Touches.get | apply Touches.when | apply Touches.all_map | exact Part.Sub.trans (by decide) hS | intro _ | dsimp only)

theorem touches_Act_moreCells {p f c : Nat} {fr : Frame} {i : Nat} {S : List Part} (hS : Part.Sub [.sw] S) : Touches (Act.moreCells p f c fr i) S := by
  unfold Act.moreCells
  try dsimp only
  repeat' (with_reducible first | apply touches_Act_modBuf | apply touches_Act_modAdm | apply touches_Act_unitsBack | apply Touches.get | apply Touches.ite | apply Touches.all_map | exact Part.Sub.trans (by decide) hS | intro _ | split | dsimp only)

theorem touches_Act_creditWait {p j c : Nat} {S : List Part} (hS : Part.Sub [.sw] S) : Touches (Act.creditWait p j c) S := by
  unfold Act.creditWait
  try dsimp only
  repeat' (with_reducible first | apply touches_Act_modLink | apply Touches.get | apply Touches.ite | exact Part.Sub.trans (by decide) hS | intro _ | split | dsimp only)

theorem touches_Act_creditGot {p j c : Nat} {S : List Part} (hS : Part.Sub [.regs, .upsets, .sw, .mon] S) : Touches (Act.creditGot p j c) S := by
  unfold Act.creditGot
  try dsimp only
  repeat' (with_reducible first | apply touches_Act_modLink | apply touches_Act_offerMon | apply Touches.setReg | apply Touches.all_cons | apply Touches.all_nil | apply Touches.get | exact Part.Sub.trans (by decide) hS | intro _ | dsimp only)

theorem touches_d2dCellReceive {p j c : Nat} {S : List Part} (hS : Part.Sub [.regs, .evtNo, .upsets, .irqs, .sw, .mon] S) : Touches (d2dCellReceive p j c) S := by
  unfold d2dCellReceive
  try dsimp only
  repeat' (with_reducible first | apply touches_Act_modBuf | apply touches_Act_modLink | apply touches_Act_count | apply touches_Act_unitsBack | apply touches_Act_cellErr | apply touches_Act_moreCells | apply touches_Act_creditWait | apply touches_Act_creditGot | apply Touches.all_cons | apply Touches.all_nil | apply Touches.seq | apply Touches.get | apply Touches.skip | apply Touches.ite | apply Touches.all_map | exact Part.Sub.trans (by decide) hS | intro _ | split | dsimp only)

theorem touches_d2dCreditReturn {p j c : Nat} {S : List Part} (hS : Part.Sub [.sw] S) : Touches (d2dCreditReturn p j c) S := by
  unfold d2dCreditReturn
  try dsimp only
  repeat' (with_reducible first | apply touches_Act_modLink | apply Touches.seq | apply Touches.get | exact Part.Sub.trans (by decide) hS | intro _ | dsimp only)

theorem touches_Act_abortArrival {p f c : Nat} {S : List Part} (hS : Part.Sub [.regs, .evtNo, .upsets, .sw] S) : Touches (Act.abortArrival p f c) S := by
  unfold Act.abortArrival
  try dsimp only
  repeat' (with_reducible first | apply touches_Act_modBuf | apply touches_Act_modAdm | apply touches_Act_checkShared | apply touches_Act_removeId | apply touches_Act_unitsBack | apply Touches.all_cons | apply Touches.all_nil | apply Touches.seq | apply Touches.get | apply Touches.skip | exact Part.Sub.trans (by decide) hS | intro _ | split | dsimp only)

theorem touches_Act_resync {p j : Nat} {S : List Part} (hS : Part.Sub [.sw] S) : Touches (Act.resync p j) S := by
  unfold Act.resync
  try dsimp only
  repeat' (with_reducible first | apply touches_Act_modLink | apply Touches.seq | apply Touches.get | apply Touches.all_map | exact Part.Sub.trans (by decide) hS | intro _ | dsimp only)

theorem touches_d2dCreditViolation {p j c : Nat} {S : List Part} (hS : Part.Sub [.regs, .evtNo, .upsets, .sw] S) : Touches (d2dCreditViolation p j c) S := by
  unfold d2dCreditViolation
  try dsimp only
  repeat' (with_reducible first | apply touches_Act_modLink | apply touches_Act_event | apply touches_Act_abortArrival | apply touches_Act_resync | apply Touches.all_cons | apply Touches.all_nil | apply Touches.get | apply Touches.when | exact Part.Sub.trans (by decide) hS | intro _ | dsimp only)

theorem touches_cellCheckFailure {p f c place i flip : Nat} {code : Bool} {S : List Part} (hS : Part.Sub [.regs, .evtNo, .upsets, .irqs, .sw] S) : Touches (cellCheckFailure p f c place i flip code) S := by
  unfold cellCheckFailure
  try dsimp only
  repeat' (with_reducible first | apply touches_Act_modAdm | apply touches_Act_event | apply touches_Act_count | apply touches_Act_checkShared | apply touches_Act_removeId | apply touches_Act_unitsBack | apply touches_Act_cellErr | apply touches_Act_abortTx | apply touches_Act_abortArrival | apply Touches.all_cons | apply Touches.all_nil | apply Touches.get | apply Touches.when | apply Touches.opt | apply Touches.ite | apply Touches.all_map | exact Part.Sub.trans (by decide) hS | intro _ | split | dsimp only)

theorem touches_stalledCell {p : Nat} {S : List Part} (hS : Part.Sub [.regs, .evtNo, .upsets] S) : Touches (stalledCell p) S := by
  unfold stalledCell
  try dsimp only
  repeat' (with_reducible first | apply touches_Act_event | apply Touches.get | apply Touches.when | exact Part.Sub.trans (by decide) hS | intro _ | dsimp only)

theorem touches_paceSample {p v : Nat} {S : List Part} (hS : Part.Sub [.regs, .evtNo, .upsets, .sw] S) : Touches (paceSample p v) S := by
  unfold paceSample
  try dsimp only
  repeat' (with_reducible first | apply touches_Act_setPaceNow | apply touches_Act_setFld | apply touches_Act_event | apply Touches.all_cons | apply Touches.all_nil | apply Touches.get | apply Touches.when | exact Part.Sub.trans (by decide) hS | intro _ | dsimp only)

theorem touches_repCmd {ag : Agent} {p : Nat} {v : Word} {k : Code → Act} {S : List Part} (hS : Part.Sub [.regs, .tbls, .evtNo, .upsets] S) (hk_k : ∀ x0, Touches (k x0) S) : Touches (repCmd ag p v k) S := by
  unfold repCmd
  try dsimp only
  repeat' (with_reducible first | exact hk_k _ | apply touches_Act_setFld | apply touches_Act_setTblWords | apply touches_Act_badValue | apply touches_Act_store | apply Touches.setReg | apply Touches.all_cons | apply Touches.all_nil | apply Touches.seq | apply Touches.get | apply Touches.ite | exact Part.Sub.trans (by decide) hS | intro _ | split | dsimp only)

theorem touches_fabClrMax {p : Nat} {S : List Part} (hS : Part.Sub [.regs, .upsets] S) : Touches (fabClrMax p) S := by
  unfold fabClrMax
  try dsimp only
  repeat' (with_reducible first | apply touches_Act_setFld | apply Touches.setReg | apply Touches.all_cons | apply Touches.all_nil | apply Touches.each | exact Part.Sub.trans (by decide) hS | intro _ | dsimp only)

/-! ## Queue -/

theorem touches_Act_reply {ag : Agent} {code : Code} {data : Word} {S : List Part} (hS : Part.Sub [.out] S) : Touches (Act.reply ag code data) S := by
  unfold Act.reply
  try dsimp only
  repeat' (with_reducible first | apply touches_Act_emit | exact Part.Sub.trans (by decide) hS | intro _ | dsimp only)

theorem touches_Act_replied {ag : Agent} {code : Code} {S : List Part} (hS : Part.Sub [.out] S) : Touches (Act.replied ag code) S := by
  unfold Act.replied
  try dsimp only
  repeat' (with_reducible first | apply touches_Act_reply | exact Part.Sub.trans (by decide) hS | intro _ | dsimp only)

theorem touches_Act_schedule {p f : Nat} {head : Nat → Queue → Option Ref} {k : Nat → Ref → Act} {S : List Part} (hS : Part.Sub [.sw] S) (hk_k : ∀ x0 x1, Touches (k x0 x1) S) : Touches (Act.schedule p f head k) S := by
  unfold Act.schedule
  try dsimp only
  repeat' (with_reducible first | exact hk_k _ _ | apply touches_Act_modQueue | apply touches_Act_setRobin | apply Touches.all_cons | apply Touches.all_nil | apply Touches.get | apply Touches.each | apply Touches.opt | apply Touches.all_map | exact Part.Sub.trans (by decide) hS | intro _ | dsimp only)

theorem touches_Act_depart {p q : Nat} {r : Ref} {S : List Part} (hS : Part.Sub [.regs, .evtNo, .upsets, .irqs, .sw, .mon, .io] S) : Touches (Act.depart p q r) S := by
  unfold Act.depart
  try dsimp only
  repeat' (with_reducible first | apply touches_Act_modQueue | apply touches_Act_offerMon | apply touches_Act_checkShared | apply touches_Act_offerDepth | apply touches_Act_shape | apply touches_Act_periscope | apply Touches.all_cons | apply Touches.all_nil | apply Touches.get | exact Part.Sub.trans (by decide) hS | intro _ | dsimp only)

theorem touches_Act_take {p f : Nat} {flowOk : Nat → Bool} {k : Nat → Ref → Act} {S : List Part} (hS : Part.Sub [.regs, .evtNo, .upsets, .irqs, .sw, .mon, .io] S) (hk_k : ∀ x0 x1, Touches (k x0 x1) S) : Touches (Act.take p f flowOk k) S := by
  unfold Act.take
  try dsimp only
  repeat' (with_reducible first | exact hk_k _ _ | apply touches_Act_schedule | apply touches_Act_depart | apply Touches.seq | apply Touches.ite | exact Part.Sub.trans (by decide) hS | intro _ | split | dsimp only)

theorem touches_Act_flushOut {p target scope : Nat} {held : Nat → Option Nat} {S : List Part} (hS : Part.Sub [.regs, .evtNo, .upsets, .sw] S) : Touches (Act.flushOut p target scope held) S := by
  unfold Act.flushOut
  try dsimp only
  repeat' (with_reducible first | apply touches_Act_modQueue | apply touches_Act_modPort | apply touches_Act_checkShared | apply touches_Act_shape | apply Touches.all_cons | apply Touches.all_nil | apply Touches.get | apply Touches.each | apply Touches.ite | exact Part.Sub.trans (by decide) hS | intro _ | split | dsimp only)

theorem touches_Act_flushEnd {p n : Nat} {S : List Part} (hS : Part.Sub [.regs, .evtNo, .upsets, .irqs] S) : Touches (Act.flushEnd p n) S := by
  unfold Act.flushEnd
  try dsimp only
  repeat' (with_reducible first | apply touches_Act_setFld | apply touches_Act_event | apply touches_Act_countBy | apply Touches.all_cons | apply Touches.all_nil | exact Part.Sub.trans (by decide) hS | intro _ | dsimp only)

theorem touches_flushCmd {ag : Agent} {p : Nat} {held : State → Nat → Option Nat} {v : Word} {k : Code → Act} {S : List Part} (hS : Part.Sub [.regs, .evtNo, .upsets, .sw] S) (hk_k : ∀ x0, Touches (k x0) S) : Touches (flushCmd ag p held v k) S := by
  unfold flushCmd
  try dsimp only
  repeat' (with_reducible first | exact hk_k _ | apply touches_Act_setFlush | apply touches_Act_setFld | apply touches_Act_setFlds | apply touches_Act_badValue | apply touches_Act_flushOut | apply Touches.all_cons | apply Touches.all_nil | apply Touches.seq | apply Touches.get | apply Touches.ite | exact Part.Sub.trans (by decide) hS | intro _ | split | dsimp only)

theorem touches_flushDone {p : Nat} {S : List Part} (hS : Part.Sub [.regs, .evtNo, .upsets, .irqs, .sw] S) : Touches (flushDone p) S := by
  unfold flushDone
  try dsimp only
  repeat' (with_reducible first | apply touches_Act_setFlush | apply touches_Act_setFld | apply touches_Act_flushEnd | apply Touches.all_cons | apply Touches.all_nil | apply Touches.get | apply Touches.opt | exact Part.Sub.trans (by decide) hS | intro _ | dsimp only)

theorem touches_Act_bumpRate {p o i : Nat} {S : List Part} (hS : Part.Sub [.sw] S) : Touches (Act.bumpRate p o i) S := by
  unfold Act.bumpRate
  try dsimp only
  repeat' (with_reducible first | apply touches_Act_modRate | exact Part.Sub.trans (by decide) hS | intro _ | dsimp only)

theorem touches_Act_abortIn {p q : Nat} {ids : List Nat} {S : List Part} (hS : Part.Sub [.regs, .evtNo, .upsets, .sw] S) : Touches (Act.abortIn p q ids) S := by
  unfold Act.abortIn
  try dsimp only
  repeat' (with_reducible first | apply touches_Act_modQueue | apply touches_Act_checkShared | apply Touches.seq | exact Part.Sub.trans (by decide) hS | intro _ | dsimp only)

theorem touches_Act_abortSpilled {p q : Nat} {ids : List Nat} {S : List Part} (hS : Part.Sub [.regs, .evtNo, .upsets, .irqs, .sw] S) : Touches (Act.abortSpilled p q ids) S := by
  unfold Act.abortSpilled
  try dsimp only
  repeat' (with_reducible first | apply touches_Act_countBy | apply touches_Act_abortIn | apply Touches.seq | exact Part.Sub.trans (by decide) hS | intro _ | dsimp only)

theorem touches_Act_spillFull {p q : Nat} {S : List Part} (hS : Part.Sub [.regs, .evtNo, .upsets, .sw] S) : Touches (Act.spillFull p q) S := by
  unfold Act.spillFull
  try dsimp only
  repeat' (with_reducible first | apply touches_Act_modQueue | apply touches_Act_event | apply Touches.seq | apply Touches.get | apply Touches.when | exact Part.Sub.trans (by decide) hS | intro _ | dsimp only)

theorem touches_spillBlock {p q : Nat} {err : Bool} {S : List Part} (hS : Part.Sub [.regs, .evtNo, .upsets, .irqs, .sw] S) : Touches (spillBlock p q err) S := by
  unfold spillBlock
  try dsimp only
  repeat' (with_reducible first | apply touches_Act_setQueue | apply touches_Act_event | apply touches_Act_count | apply touches_Act_checkShared | apply touches_Act_bumpRate | apply touches_Act_abortSpilled | apply touches_Act_spillFull | apply Touches.all_cons | apply Touches.all_nil | apply Touches.seq | apply Touches.get | apply Touches.when | apply Touches.ite | apply Touches.all_map | exact Part.Sub.trans (by decide) hS | intro _ | split | dsimp only)

theorem touches_fetchBlock {p q err cell : Nat} {S : List Part} (hS : Part.Sub [.regs, .evtNo, .upsets, .irqs, .sw] S) : Touches (fetchBlock p q err cell) S := by
  unfold fetchBlock
  try dsimp only
  repeat' (with_reducible first | apply touches_Act_setQueue | apply touches_Act_event | apply touches_Act_count | apply touches_Act_checkShared | apply touches_Act_bumpRate | apply touches_Act_abortIn | apply touches_Act_abortSpilled | apply Touches.all_cons | apply Touches.all_nil | apply Touches.seq | apply Touches.get | apply Touches.when | apply Touches.skip | apply Touches.ite | apply Touches.all_map | exact Part.Sub.trans (by decide) hS | intro _ | split | dsimp only)

theorem touches_Act_portDone {p n : Nat} {S : List Part} (hS : Part.Sub [.regs, .evtNo, .upsets, .irqs, .sw, .mon, .io] S) : Touches (Act.portDone p n) S := by
  unfold Act.portDone
  try dsimp only
  repeat' (with_reducible first | apply touches_Act_depart | apply Touches.get | apply Touches.opt | exact Part.Sub.trans (by decide) hS | intro _ | dsimp only)

theorem touches_cqDataRead {ag : Agent} {p n : Nat} {k : Code → Word → Act} {S : List Part} (hS : Part.Sub [.regs, .evtNo, .upsets, .irqs, .sw, .mon, .io] S) (hk_k : ∀ x0 x1, Touches (k x0 x1) S) : Touches (cqDataRead ag p n k) S := by
  unfold cqDataRead
  try dsimp only
  repeat' (with_reducible first | exact hk_k _ _ | apply touches_Act_setPort | apply touches_Act_event | apply touches_Act_portIrq | apply touches_Act_portDone | apply Touches.all_cons | apply Touches.all_nil | apply Touches.seq | apply Touches.get | apply Touches.when | apply Touches.ite | exact Part.Sub.trans (by decide) hS | intro _ | split | dsimp only)

theorem touches_dropRest {p n : Nat} {S : List Part} (hS : Part.Sub [.regs, .evtNo, .upsets, .irqs, .sw, .mon, .io] S) : Touches (dropRest p n) S := by
  unfold dropRest
  try dsimp only
  repeat' (with_reducible first | apply touches_Act_setPort | apply touches_Act_portDone | apply Touches.seq | apply Touches.get | apply Touches.skip | apply Touches.ite | exact Part.Sub.trans (by decide) hS | intro _ | split | dsimp only)

theorem touches_qCmd {ag : Agent} {p : Nat} {v : Word} {k : Code → Act} {S : List Part} (hS : Part.Sub [.regs, .tbls, .evtNo, .upsets, .sw] S) (hk_k : ∀ x0, Touches (k x0) S) : Touches (qCmd ag p v k) S := by
  unfold qCmd
  try dsimp only
  repeat' (with_reducible first | exact hk_k _ | apply touches_Act_setFld | apply touches_Act_badValue | apply touches_Act_store | apply touches_Act_checkShared | apply Touches.setReg | apply Touches.setTbl | apply Touches.all_cons | apply Touches.all_nil | apply Touches.seq | apply Touches.get | apply Touches.ite | exact Part.Sub.trans (by decide) hS | intro _ | split | dsimp only)

/-! ## Can -/

theorem touches_Act_canCount {p c i : Nat} {S : List Part} (hS : Part.Sub [.regs, .evtNo, .upsets, .irqs] S) : Touches (Act.canCount p c i) S := by
  unfold Act.canCount
  try dsimp only
  repeat' (with_reducible first | apply touches_Act_count | exact Part.Sub.trans (by decide) hS | intro _ | dsimp only)

theorem touches_Act_canEvent {p c i : Nat} {S : List Part} (hS : Part.Sub [.regs, .evtNo, .upsets, .irqs] S) : Touches (Act.canEvent p c i) S := by
  unfold Act.canEvent
  try dsimp only
  repeat' (with_reducible first | apply touches_Act_eventIrq | exact Part.Sub.trans (by decide) hS | intro _ | dsimp only)

theorem touches_Act_canDropPend {p c i : Nat} {S : List Part} (hS : Part.Sub [.regs, .evtNo, .upsets, .irqs, .sw, .nets] S) : Touches (Act.canDropPend p c i) S := by
  unfold Act.canDropPend
  try dsimp only
  repeat' (with_reducible first | apply touches_Act_modQueue | apply touches_Act_modCan | apply touches_Act_checkShared | apply touches_Act_shape | apply touches_Act_canCount | apply Touches.all_cons | apply Touches.all_nil | apply Touches.get | apply Touches.opt | exact Part.Sub.trans (by decide) hS | intro _ | dsimp only)

theorem touches_Act_canRelease {p c : Nat} {S : List Part} (hS : Part.Sub [.sw, .nets] S) : Touches (Act.canRelease p c) S := by
  unfold Act.canRelease
  try dsimp only
  repeat' (with_reducible first | apply touches_Act_modQueue | apply touches_Act_modCan | apply Touches.seq | apply Touches.get | apply Touches.opt | apply Touches.all_map | exact Part.Sub.trans (by decide) hS | intro _ | dsimp only)

theorem touches_Act_canEnter {p c : Nat} {st : CanSt} {S : List Part} (hS : Part.Sub [.regs, .evtNo, .upsets, .irqs, .sw, .nets] S) : Touches (Act.canEnter p c st) S := by
  unfold Act.canEnter
  try dsimp only
  repeat' (with_reducible first | apply touches_Act_modCan | apply touches_Act_canDropPend | apply Touches.seq | apply Touches.when | exact Part.Sub.trans (by decide) hS | intro _ | dsimp only)

theorem touches_Act_canFailed {p c : Nat} {retry : Bool} {S : List Part} (hS : Part.Sub [.regs, .evtNo, .upsets, .irqs, .sw, .nets] S) : Touches (Act.canFailed p c retry) S := by
  unfold Act.canFailed
  try dsimp only
  repeat' (with_reducible first | apply touches_Act_canCount | apply touches_Act_canDropPend | apply touches_Act_canRelease | apply Touches.seq | apply Touches.get | apply Touches.when | apply Touches.skip | apply Touches.ite | exact Part.Sub.trans (by decide) hS | intro _ | split | dsimp only)

theorem touches_Act_canCounters {p c tec recv : Nat} {S : List Part} (hS : Part.Sub [.regs, .evtNo, .upsets, .irqs, .sw, .nets, .mon] S) : Touches (Act.canCounters p c tec recv) S := by
  unfold Act.canCounters
  try dsimp only
  repeat' (with_reducible first | apply touches_Act_modCan | apply touches_Act_offerMon | apply touches_Act_canCount | apply touches_Act_canEvent | apply touches_Act_canEnter | apply Touches.all_cons | apply Touches.all_nil | apply Touches.seq | apply Touches.get | apply Touches.when | apply Touches.skip | apply Touches.ite | exact Part.Sub.trans (by decide) hS | intro _ | split | dsimp only)

theorem touches_Act_canException {p c : Nat} {S : List Part} (hS : Part.Sub [.regs, .evtNo, .upsets, .irqs, .nets] S) : Touches (Act.canException p c) S := by
  unfold Act.canException
  try dsimp only
  repeat' (with_reducible first | apply touches_Act_modCan | apply touches_Act_canCount | apply touches_Act_canEvent | apply Touches.all_cons | apply Touches.all_nil | exact Part.Sub.trans (by decide) hS | intro _ | dsimp only)

theorem touches_Act_tdcMeasure {p c tdcv : Nat} {b : List Byte} {S : List Part} (hS : Part.Sub [.regs, .evtNo, .upsets, .irqs, .nets, .mon] S) : Touches (Act.tdcMeasure p c tdcv b) S := by
  unfold Act.tdcMeasure
  try dsimp only
  repeat' (with_reducible first | apply touches_Act_modCan | apply touches_Act_offerMon | apply touches_Act_canCount | apply touches_Act_canEvent | apply Touches.seq | apply Touches.get | apply Touches.ite | exact Part.Sub.trans (by decide) hS | intro _ | split | dsimp only)

theorem touches_canError {p c kind phase : Nat} {tx : Bool} {eights : Nat} {exempt : Bool} {tdcv : Option Nat} {S : List Part} (hS : Part.Sub [.regs, .evtNo, .upsets, .irqs, .sw, .nets, .mon, .out] S) : Touches (canError p c kind phase tx eights exempt tdcv) S := by
  unfold canError
  try dsimp only
  repeat' (with_reducible first | apply touches_Act_emit | apply touches_Act_canCount | apply touches_Act_canFailed | apply touches_Act_canCounters | apply touches_Act_tdcMeasure | apply Touches.setReg | apply Touches.all_cons | apply Touches.all_nil | apply Touches.get | apply Touches.when | apply Touches.opt | apply Touches.ite | exact Part.Sub.trans (by decide) hS | intro _ | split | dsimp only)

theorem touches_Act_trkDrop {p c n keep : Nat} {S : List Part} (hS : Part.Sub [.nets] S) : Touches (Act.trkDrop p c n keep) S := by
  unfold Act.trkDrop
  try dsimp only
  repeat' (with_reducible first | apply touches_Act_setTrk | apply Touches.get | apply Touches.each | exact Part.Sub.trans (by decide) hS | intro _ | dsimp only)

theorem touches_Act_canTrack {p c : Nat} {own : Bool} {b : List Byte} {S : List Part} (hS : Part.Sub [.regs, .evtNo, .upsets, .irqs, .nets] S) : Touches (Act.canTrack p c own b) S := by
  unfold Act.canTrack
  try dsimp only
  repeat' (with_reducible first | apply touches_Act_setTrk | apply touches_Act_modTrk | apply touches_Act_canCount | apply touches_Act_canEvent | apply touches_Act_trkDrop | apply Touches.all_cons | apply Touches.all_nil | apply Touches.seq | apply Touches.get | apply Touches.when | apply Touches.skip | apply Touches.ite | apply Touches.all_map | exact Part.Sub.trans (by decide) hS | intro _ | split | dsimp only)

theorem touches_acAgeSweep {p c : Nat} {S : List Part} (hS : Part.Sub [.regs, .evtNo, .upsets, .irqs, .nets] S) : Touches (acAgeSweep p c) S := by
  unfold acAgeSweep
  try dsimp only
  repeat' (with_reducible first | apply touches_Act_modTrk | apply touches_Act_canEvent | apply Touches.all_cons | apply Touches.all_nil | apply Touches.get | apply Touches.when | apply Touches.each | apply Touches.ite | apply Touches.all_map | exact Part.Sub.trans (by decide) hS | intro _ | split | dsimp only)

theorem touches_Act_trkEmpty {p c : Nat} {S : List Part} (hS : Part.Sub [.nets] S) : Touches (Act.trkEmpty p c) S := by
  unfold Act.trkEmpty
  try dsimp only
  repeat' (with_reducible first | apply touches_Act_setTrk | apply Touches.get | apply Touches.each | exact Part.Sub.trans (by decide) hS | intro _ | dsimp only)

theorem touches_acCmd {ag : Agent} {p c : Nat} {v : Word} {k : Code → Act} {S : List Part} (hS : Part.Sub [.regs, .evtNo, .upsets, .nets] S) (hk_k : ∀ x0, Touches (k x0) S) : Touches (acCmd ag p c v k) S := by
  unfold acCmd
  try dsimp only
  repeat' (with_reducible first | exact hk_k _ | apply touches_Act_badValue | apply touches_Act_store | apply touches_Act_trkEmpty | apply Touches.setReg | apply Touches.all_cons | apply Touches.all_nil | apply Touches.seq | apply Touches.get | apply Touches.ite | apply Touches.all_map | exact Part.Sub.trans (by decide) hS | intro _ | split | dsimp only)

theorem touches_Act_busOffer {p f : Nat} {b : List Byte} {ts : Nat} {S : List Part} (hS : Part.Sub [.sw] S) : Touches (Act.busOffer p f b ts) S := by
  unfold Act.busOffer
  try dsimp only
  repeat' (with_reducible first | apply touches_Act_intake | apply Touches.get | exact Part.Sub.trans (by decide) hS | intro _ | dsimp only)

theorem touches_Act_canAccept {p c : Nat} {b : List Byte} {ts : Nat} {S : List Part} (hS : Part.Sub [.regs, .evtNo, .upsets, .irqs, .sw, .mon] S) : Touches (Act.canAccept p c b ts) S := by
  unfold Act.canAccept
  try dsimp only
  repeat' (with_reducible first | apply touches_Act_countBy | apply touches_Act_offerMon | apply touches_Act_canCount | apply touches_Act_canEvent | apply touches_Act_busOffer | apply Touches.all_cons | apply Touches.all_nil | apply Touches.seq | apply Touches.get | apply Touches.ite | exact Part.Sub.trans (by decide) hS | intro _ | split | dsimp only)

theorem touches_Act_recvGood {p c : Nat} {S : List Part} (hS : Part.Sub [.regs, .evtNo, .upsets, .irqs, .sw, .nets, .mon, .freeCount] S) : Touches (Act.recvGood p c) S := by
  unfold Act.recvGood
  try dsimp only
  repeat' (with_reducible first | apply touches_Act_freeBelow | apply touches_Act_canCounters | apply Touches.get | apply Touches.ite | exact Part.Sub.trans (by decide) hS | intro _ | split | dsimp only)

theorem touches_canReceive {p c : Nat} {b : List Byte} {res : Bool} {ago : Nat} {S : List Part} (hS : Part.Sub [.regs, .evtNo, .upsets, .irqs, .sw, .nets, .mon, .out, .freeCount] S) : Touches (canReceive p c b res ago) S := by
  unfold canReceive
  try dsimp only
  repeat' (with_reducible first | apply touches_Act_emit | apply touches_Act_canException | apply touches_canError | apply touches_Act_canTrack | apply touches_Act_canAccept | apply touches_Act_recvGood | apply Touches.all_cons | apply Touches.all_nil | apply Touches.get | apply Touches.when | apply Touches.skip | apply Touches.ite | exact Part.Sub.trans (by decide) hS | intro _ | split | dsimp only)

theorem touches_canTransmitDone {p c tdcv ago : Nat} {S : List Part} (hS : Part.Sub [.regs, .evtNo, .upsets, .irqs, .sw, .nets, .mon, .io, .out] S) : Touches (canTransmitDone p c tdcv ago) S := by
  unfold canTransmitDone
  try dsimp only
  repeat' (with_reducible first | apply touches_Act_emit | apply touches_Act_modCan | apply touches_Act_countBy | apply touches_Act_offerMon | apply touches_Act_depart | apply touches_Act_canCount | apply touches_Act_canCounters | apply touches_Act_tdcMeasure | apply touches_Act_canTrack | apply touches_Act_canAccept | apply Touches.all_cons | apply Touches.all_nil | apply Touches.get | apply Touches.when | apply Touches.opt | apply Touches.skip | apply Touches.ite | exact Part.Sub.trans (by decide) hS | intro _ | split | dsimp only)

theorem touches_canArbitrationLost {p c : Nat} {S : List Part} (hS : Part.Sub [.regs, .evtNo, .upsets, .irqs, .sw, .nets] S) : Touches (canArbitrationLost p c) S := by
  unfold canArbitrationLost
  try dsimp only
  repeat' (with_reducible first | apply touches_Act_canCount | apply touches_Act_canFailed | apply Touches.seq | apply Touches.get | apply Touches.when | exact Part.Sub.trans (by decide) hS | intro _ | dsimp only)

theorem touches_Act_canTake {p c : Nat} {z0 : Nat} {S : List Part} (hS : Part.Sub [.regs, .evtNo, .upsets, .irqs, .sw, .nets] S) : Touches (Act.canTake p c z0) S := by
  induction z0 with
  | zero =>
    unfold Act.canTake
    exact Touches.skip
  | succ z0 ih =>
    unfold Act.canTake
    try dsimp only
    repeat' (with_reducible first | exact ih | apply touches_Act_modQueue | apply touches_Act_modCan | apply touches_Act_checkShared | apply touches_Act_schedule | apply touches_Act_canCount | apply Touches.all_cons | apply Touches.all_nil | apply Touches.get | apply Touches.skip | apply Touches.ite | exact Part.Sub.trans (by decide) hS | intro _ | split | dsimp only)

theorem touches_Act_canSelect {p c : Nat} {S : List Part} (hS : Part.Sub [.regs, .evtNo, .upsets, .irqs, .sw, .nets] S) : Touches (Act.canSelect p c) S := by
  unfold Act.canSelect
  try dsimp only
  repeat' (with_reducible first | apply touches_Act_canTake | apply Touches.get | apply Touches.skip | apply Touches.ite | exact Part.Sub.trans (by decide) hS | intro _ | split | dsimp only)

theorem touches_canIntegrated {p c : Nat} {S : List Part} (hS : Part.Sub [.regs, .evtNo, .upsets, .irqs, .sw, .nets] S) : Touches (canIntegrated p c) S := by
  unfold canIntegrated
  try dsimp only
  repeat' (with_reducible first | apply touches_Act_canEnter | apply Touches.get | apply Touches.when | exact Part.Sub.trans (by decide) hS | intro _ | dsimp only)

theorem touches_canRecoveryDone {p c : Nat} {S : List Part} (hS : Part.Sub [.regs, .evtNo, .upsets, .irqs, .sw, .nets, .mon] S) : Touches (canRecoveryDone p c) S := by
  unfold canRecoveryDone
  try dsimp only
  repeat' (with_reducible first | apply touches_Act_canEvent | apply touches_Act_canEnter | apply touches_Act_canCounters | apply Touches.all_cons | apply Touches.all_nil | apply Touches.get | apply Touches.when | exact Part.Sub.trans (by decide) hS | intro _ | dsimp only)

theorem touches_canRecover {p c : Nat} {S : List Part} (hS : Part.Sub [.nets] S) : Touches (canRecover p c) S := by
  unfold canRecover
  try dsimp only
  repeat' (with_reducible first | apply touches_Act_modCan | apply Touches.ite | exact Part.Sub.trans (by decide) hS | intro _ | split | dsimp only)

theorem touches_canAbortTx {p c : Nat} {S : List Part} (hS : Part.Sub [.nets] S) : Touches (canAbortTx p c) S := by
  unfold canAbortTx
  try dsimp only
  repeat' (with_reducible first | apply touches_Act_modCan | exact Part.Sub.trans (by decide) hS | intro _ | dsimp only)

theorem touches_canCmd {p c : Nat} {v : Word} {k : Code → Act} {S : List Part} (hS : Part.Sub [.nets] S) (hk_k : ∀ x0, Touches (k x0) S) : Touches (canCmd p c v k) S := by
  unfold canCmd
  try dsimp only
  repeat' (with_reducible first | exact hk_k _ | apply touches_canRecover | apply touches_canAbortTx | apply Touches.all_cons | apply Touches.all_nil | apply Touches.when | exact Part.Sub.trans (by decide) hS | intro _ | dsimp only)

theorem touches_Act_canEnable {p c : Nat} {S : List Part} (hS : Part.Sub [.nets] S) : Touches (Act.canEnable p c) S := by
  unfold Act.canEnable
  try dsimp only
  repeat' (with_reducible first | apply touches_Act_modCan | exact Part.Sub.trans (by decide) hS | intro _ | dsimp only)

theorem touches_Act_canOff {p c : Nat} {S : List Part} (hS : Part.Sub [.regs, .evtNo, .upsets, .irqs, .sw, .nets] S) : Touches (Act.canOff p c) S := by
  unfold Act.canOff
  try dsimp only
  repeat' (with_reducible first | apply touches_Act_canEnter | exact Part.Sub.trans (by decide) hS | intro _ | dsimp only)

theorem touches_Act_canClockLost {p c : Nat} {S : List Part} (hS : Part.Sub [.regs, .evtNo, .upsets, .irqs, .sw, .nets] S) : Touches (Act.canClockLost p c) S := by
  unfold Act.canClockLost
  try dsimp only
  repeat' (with_reducible first | apply touches_Act_setBuf | apply touches_Act_modCan | apply touches_Act_countBy | apply touches_Act_canEvent | apply touches_Act_canDropPend | apply Touches.all_cons | apply Touches.all_nil | apply Touches.get | apply Touches.ite | exact Part.Sub.trans (by decide) hS | intro _ | split | dsimp only)

theorem touches_Act_canSleep {p c : Nat} {S : List Part} (hS : Part.Sub [.regs, .evtNo, .upsets, .irqs, .sw, .nets] S) : Touches (Act.canSleep p c) S := by
  unfold Act.canSleep
  try dsimp only
  repeat' (with_reducible first | apply touches_Act_modCan | apply touches_Act_canEnter | apply Touches.seq | apply Touches.get | apply Touches.skip | apply Touches.ite | exact Part.Sub.trans (by decide) hS | intro _ | split | dsimp only)

theorem touches_Act_canWake {p c : Nat} {S : List Part} (hS : Part.Sub [.nets] S) : Touches (Act.canWake p c) S := by
  unfold Act.canWake
  try dsimp only
  repeat' (with_reducible first | apply touches_Act_modCan | apply Touches.ite | exact Part.Sub.trans (by decide) hS | intro _ | split | dsimp only)

theorem touches_filtCmd {ag : Agent} {p c : Nat} {v : Word} {k : Code → Act} {S : List Part} (hS : Part.Sub [.regs, .tbls, .evtNo, .upsets] S) (hk_k : ∀ x0, Touches (k x0) S) : Touches (filtCmd ag p c v k) S := by
  unfold filtCmd
  try dsimp only
  repeat' (with_reducible first | exact hk_k _ | apply touches_Act_setFld | apply touches_Act_setTblWords | apply touches_Act_badValue | apply touches_Act_store | apply Touches.setReg | apply Touches.all_cons | apply Touches.all_nil | apply Touches.seq | apply Touches.get | apply Touches.ite | exact Part.Sub.trans (by decide) hS | intro _ | split | dsimp only)

/-! ## Lookup -/

theorem touches_Act_clsDrop {p f reason : Nat} {S : List Part} (hS : Part.Sub [.regs, .evtNo, .upsets, .irqs, .sw] S) : Touches (Act.clsDrop p f reason) S := by
  unfold Act.clsDrop
  try dsimp only
  repeat' (with_reducible first | apply touches_Act_modBuf | apply touches_Act_setFlds | apply touches_Act_count | apply Touches.all_cons | apply Touches.all_nil | apply Touches.ite | exact Part.Sub.trans (by decide) hS | intro _ | split | dsimp only)

theorem touches_Act_notice {p : Nat} {learn : Bool} {fid mac facet : Nat} {S : List Part} (hS : Part.Sub [.sw] S) : Touches (Act.notice p learn fid mac facet) S := by
  unfold Act.notice
  try dsimp only
  repeat' (with_reducible first | apply touches_Act_modLink | apply Touches.get | apply Touches.each | exact Part.Sub.trans (by decide) hS | intro _ | dsimp only)

theorem touches_Act_learnOverrun {p : Nat} {S : List Part} (hS : Part.Sub [.regs, .evtNo, .upsets, .irqs] S) : Touches (Act.learnOverrun p) S := by
  unfold Act.learnOverrun
  try dsimp only
  repeat' (with_reducible first | apply touches_Act_event | apply touches_Act_count | apply Touches.seq | exact Part.Sub.trans (by decide) hS | intro _ | dsimp only)

theorem touches_Act_macRemove {p i : Nat} {S : List Part} (hS : Part.Sub [.tbls, .sw] S) : Touches (Act.macRemove p i) S := by
  unfold Act.macRemove
  try dsimp only
  repeat' (with_reducible first | apply touches_Act_setTblWords | apply touches_Act_notice | apply Touches.seq | apply Touches.get | apply Touches.when | exact Part.Sub.trans (by decide) hS | intro _ | dsimp only)

theorem touches_Act_macVictim {p bucket : Nat} {k : Option Nat → Act} {S : List Part} (hS : Part.Sub [.freeCount] S) (hk_k : ∀ x0, Touches (k x0) S) : Touches (Act.macVictim p bucket k) S := by
  unfold Act.macVictim
  try dsimp only
  repeat' (with_reducible first | exact hk_k _ | apply touches_Act_freeBelow | apply Touches.get | apply Touches.ite | apply Touches.all_map | exact Part.Sub.trans (by decide) hS | intro _ | split | dsimp only)

theorem touches_Act_macEvict {p i : Nat} {S : List Part} (hS : Part.Sub [.regs, .tbls, .evtNo, .upsets, .irqs, .sw] S) : Touches (Act.macEvict p i) S := by
  unfold Act.macEvict
  try dsimp only
  repeat' (with_reducible first | apply touches_Act_event | apply touches_Act_count | apply touches_Act_macRemove | apply Touches.all_cons | apply Touches.all_nil | apply Touches.get | apply Touches.when | exact Part.Sub.trans (by decide) hS | intro _ | dsimp only)

theorem touches_Act_macRoom {p fid mac : Nat} {k : Option Nat → Act} {S : List Part} (hS : Part.Sub [.freeCount] S) (hk_k : ∀ x0, Touches (k x0) S) : Touches (Act.macRoom p fid mac k) S := by
  unfold Act.macRoom
  try dsimp only
  repeat' (with_reducible first | exact hk_k _ | apply touches_Act_macVictim | apply Touches.get | apply Touches.all_map | exact Part.Sub.trans (by decide) hS | intro _ | split | dsimp only)

theorem touches_Act_macLearn {p fid mac facet : Nat} {remote : Bool} {S : List Part} (hS : Part.Sub [.regs, .tbls, .evtNo, .upsets, .irqs, .sw, .freeCount] S) : Touches (Act.macLearn p fid mac facet remote) S := by
  unfold Act.macLearn
  try dsimp only
  repeat' (with_reducible first | apply touches_Act_event | apply touches_Act_count | apply touches_Act_setTblWords | apply touches_Act_notice | apply touches_Act_learnOverrun | apply touches_Act_macEvict | apply touches_Act_macRoom | apply Touches.setTbl | apply Touches.all_cons | apply Touches.all_nil | apply Touches.seq | apply Touches.get | apply Touches.when | apply Touches.skip | apply Touches.ite | exact Part.Sub.trans (by decide) hS | intro _ | split | dsimp only)

theorem touches_learnNoticeReceive {p j : Nat} {busy : Bool} {S : List Part} (hS : Part.Sub [.regs, .tbls, .evtNo, .upsets, .irqs, .sw, .freeCount] S) : Touches (learnNoticeReceive p j busy) S := by
  unfold learnNoticeReceive
  try dsimp only
  repeat' (with_reducible first | apply touches_Act_modLink | apply touches_Act_count | apply touches_Act_setTblWords | apply touches_Act_macLearn | apply Touches.seq | apply Touches.get | apply Touches.when | apply Touches.skip | apply Touches.ite | exact Part.Sub.trans (by decide) hS | intro _ | split | dsimp only)

theorem touches_ageingSweep {p : Nat} {S : List Part} (hS : Part.Sub [.regs, .tbls, .evtNo, .upsets, .irqs, .sw] S) : Touches (ageingSweep p) S := by
  unfold ageingSweep
  try dsimp only
  repeat' (with_reducible first | apply touches_Act_count | apply touches_Act_learnOverrun | apply touches_Act_macRemove | apply Touches.setTbl | apply Touches.seq | apply Touches.get | apply Touches.each | apply Touches.ite | exact Part.Sub.trans (by decide) hS | intro _ | split | dsimp only)

theorem touches_Act_floodPolice {p f n : Nat} {k : Bool → Act} {S : List Part} (hS : Part.Sub [.sw] S) (hk_k : ∀ x0, Touches (k x0) S) : Touches (Act.floodPolice p f n k) S := by
  unfold Act.floodPolice
  try dsimp only
  repeat' (with_reducible first | exact hk_k _ | apply touches_Act_setFlood | apply Touches.seq | apply Touches.get | apply Touches.ite | exact Part.Sub.trans (by decide) hS | intro _ | split | dsimp only)

theorem touches_Act_filtCount {p i c : Nat} {S : List Part} (hS : Part.Sub [.regs, .tbls, .evtNo, .upsets, .irqs] S) : Touches (Act.filtCount p i c) S := by
  unfold Act.filtCount
  try dsimp only
  repeat' (with_reducible first | apply touches_Act_setFld | apply touches_Act_event | apply touches_Act_passedHalf | apply Touches.setTbl | apply Touches.all_cons | apply Touches.all_nil | apply Touches.seq | apply Touches.get | apply Touches.when | exact Part.Sub.trans (by decide) hS | intro _ | dsimp only)

theorem touches_Act_meter {p m n : Nat} {dei : Bool} {k : Metered → Act} {S : List Part} (hS : Part.Sub [.regs, .tbls, .evtNo, .upsets, .sw] S) (hk_k : ∀ x0, Touches (k x0) S) : Touches (Act.meter p m n dei k) S := by
  unfold Act.meter
  try dsimp only
  repeat' (with_reducible first | exact hk_k _ | apply touches_Act_setMtrC | apply touches_Act_setMtrE | apply touches_Act_setFld | apply touches_Act_event | apply Touches.setTbl | apply Touches.all_cons | apply Touches.all_nil | apply Touches.seq | apply Touches.get | apply Touches.when | apply Touches.ite | exact Part.Sub.trans (by decide) hS | intro _ | split | dsimp only)

theorem touches_Act_filter {p i n : Nat} {dei : Bool} {k : Metered → Act} {S : List Part} (hS : Part.Sub [.regs, .tbls, .evtNo, .upsets, .irqs, .sw] S) (hk_k : ∀ x0, Touches (k x0) S) : Touches (Act.filter p i n dei k) S := by
  unfold Act.filter
  try dsimp only
  repeat' (with_reducible first | exact hk_k _ | apply touches_Act_setFld | apply touches_Act_event | apply touches_Act_filtCount | apply touches_Act_meter | apply Touches.setTbl | apply Touches.all_cons | apply Touches.all_nil | apply Touches.seq | apply Touches.get | apply Touches.when | apply Touches.ite | exact Part.Sub.trans (by decide) hS | intro _ | split | dsimp only)

theorem touches_Act_recCount {p i w : Nat} {S : List Part} (hS : Part.Sub [.regs, .tbls, .evtNo, .upsets, .irqs] S) : Touches (Act.recCount p i w) S := by
  unfold Act.recCount
  try dsimp only
  repeat' (with_reducible first | apply touches_Act_passedHalf | apply Touches.setTbl | apply Touches.seq | apply Touches.get | apply Touches.when | exact Part.Sub.trans (by decide) hS | intro _ | dsimp only)

theorem touches_Act_recover {p f vid : Nat} {b : List Byte} {k : Option (List Byte) → Act} {S : List Part} (hS : Part.Sub [.regs, .tbls, .evtNo, .upsets, .irqs, .sw] S) (hk_k : ∀ x0, Touches (k x0) S) : Touches (Act.recover p f vid b k) S := by
  unfold Act.recover
  try dsimp only
  repeat' (with_reducible first | exact hk_k _ | apply touches_Act_setRcv | apply touches_Act_event | apply touches_Act_count | apply touches_Act_recCount | apply Touches.all_cons | apply Touches.all_nil | apply Touches.seq | apply Touches.get | apply Touches.when | apply Touches.ite | exact Part.Sub.trans (by decide) hS | intro _ | split | dsimp only)

theorem touches_Act_decideTo {p f : Nat} {r : RxFrame} {cls flow : Nat} {filt : Option Nat} {hold : Bool} {b : List Byte} {g : Goal} {S : List Part} (hS : Part.Sub [.regs, .evtNo, .upsets, .irqs, .sw] S) : Touches (Act.decideTo p f r cls flow filt hold b g) S := by
  unfold Act.decideTo
  try dsimp only
  repeat' (with_reducible first | apply touches_Act_modBuf | apply touches_Act_clsDrop | apply Touches.ite | exact Part.Sub.trans (by decide) hS | intro _ | split | dsimp only)

theorem touches_Act_step8 {p f : Nat} {r : RxFrame} {vid cls flow : Nat} {filt : Option Nat} {hold : Bool} {b : List Byte} {g : Goal} {S : List Part} (hS : Part.Sub [.regs, .tbls, .evtNo, .upsets, .irqs, .sw] S) : Touches (Act.step8 p f r vid cls flow filt hold b g) S := by
  unfold Act.step8
  try dsimp only
  repeat' (with_reducible first | apply touches_Act_count | apply touches_Act_decideTo | apply Touches.setTbl | apply Touches.all_cons | apply Touches.all_nil | apply Touches.get | exact Part.Sub.trans (by decide) hS | intro _ | split | dsimp only)

theorem touches_Act_floodTo {p f vid kind n : Nat} {k : Goal → Act} {S : List Part} (hS : Part.Sub [.regs, .evtNo, .upsets, .irqs, .sw] S) (hk_k : ∀ x0, Touches (k x0) S) : Touches (Act.floodTo p f vid kind n k) S := by
  unfold Act.floodTo
  try dsimp only
  repeat' (with_reducible first | exact hk_k _ | apply touches_Act_event | apply touches_Act_clsDrop | apply touches_Act_floodPolice | apply Touches.seq | apply Touches.get | apply Touches.ite | exact Part.Sub.trans (by decide) hS | intro _ | split | dsimp only)

theorem touches_Act_macGoal {p f vid n : Nat} {b : List Byte} {k : Goal → Act} {S : List Part} (hS : Part.Sub [.regs, .evtNo, .upsets, .irqs, .sw] S) (hk_k : ∀ x0, Touches (k x0) S) : Touches (Act.macGoal p f vid n b k) S := by
  unfold Act.macGoal
  try dsimp only
  repeat' (with_reducible first | exact hk_k _ | apply touches_Act_clsDrop | apply touches_Act_floodTo | apply Touches.get | apply Touches.ite | exact Part.Sub.trans (by decide) hS | intro _ | split | dsimp only)

theorem touches_Act_route {p f : Nat} {b : List Byte} {k : List Byte → Goal → Act} {S : List Part} (hS : Part.Sub [.regs, .evtNo, .upsets, .irqs, .sw] S) (hk_k : ∀ x0 x1, Touches (k x0 x1) S) : Touches (Act.route p f b k) S := by
  unfold Act.route
  try dsimp only
  repeat' (with_reducible first | exact hk_k _ _ | apply touches_Act_modBuf | apply touches_Act_event | apply touches_Act_count | apply Touches.all_cons | apply Touches.all_nil | apply Touches.seq | apply Touches.get | apply Touches.ite | exact Part.Sub.trans (by decide) hS | intro _ | split | dsimp only)

theorem touches_Act_learnSa {p f vid : Nat} {busy : Bool} {b : List Byte} {S : List Part} (hS : Part.Sub [.regs, .tbls, .evtNo, .upsets, .irqs, .sw, .freeCount] S) : Touches (Act.learnSa p f vid busy b) S := by
  unfold Act.learnSa
  try dsimp only
  repeat' (with_reducible first | apply touches_Act_learnOverrun | apply touches_Act_macLearn | apply Touches.get | apply Touches.when | apply Touches.ite | exact Part.Sub.trans (by decide) hS | intro _ | split | dsimp only)

theorem touches_Act_steps4to8 {p f : Nat} {r : RxFrame} {vid pcp : Nat} {dei busy : Bool} {b : List Byte} {S : List Part} (hS : Part.Sub [.regs, .tbls, .evtNo, .upsets, .irqs, .sw, .freeCount] S) : Touches (Act.steps4to8 p f r vid pcp dei busy b) S := by
  unfold Act.steps4to8
  try dsimp only
  repeat' (with_reducible first | apply touches_Act_modBuf | apply touches_Act_filter | apply touches_Act_recover | apply touches_Act_step8 | apply touches_Act_macGoal | apply touches_Act_route | apply touches_Act_learnSa | apply Touches.seq | apply Touches.get | apply Touches.ite | exact Part.Sub.trans (by decide) hS | intro _ | split | dsimp only)

theorem touches_Act_eyeFrame {p f : Nat} {r : RxFrame} {b : List Byte} {S : List Part} (hS : Part.Sub [.regs, .upsets, .sw] S) : Touches (Act.eyeFrame p f r b) S := by
  unfold Act.eyeFrame
  try dsimp only
  repeat' (with_reducible first | apply touches_Act_modBuf | apply touches_Act_bumpFld | apply Touches.seq | apply Touches.get | apply Touches.ite | exact Part.Sub.trans (by decide) hS | intro _ | split | dsimp only)

theorem touches_Act_steps2to8 {p f : Nat} {r : RxFrame} {busy : Bool} {S : List Part} (hS : Part.Sub [.regs, .tbls, .evtNo, .upsets, .irqs, .sw, .freeCount] S) : Touches (Act.steps2to8 p f r busy) S := by
  unfold Act.steps2to8
  try dsimp only
  repeat' (with_reducible first | apply touches_Act_clsDrop | apply touches_Act_decideTo | apply touches_Act_steps4to8 | apply Touches.get | apply Touches.ite | exact Part.Sub.trans (by decide) hS | intro _ | split | dsimp only)

theorem touches_frameLookup {p f : Nat} {busy : Bool} {S : List Part} (hS : Part.Sub [.regs, .tbls, .evtNo, .upsets, .irqs, .sw, .freeCount] S) : Touches (frameLookup p f busy) S := by
  unfold frameLookup
  try dsimp only
  repeat' (with_reducible first | apply touches_Act_setHold | apply touches_Act_eyeFrame | apply touches_Act_steps2to8 | apply Touches.get | apply Touches.when | apply Touches.opt | apply Touches.skip | apply Touches.ite | exact Part.Sub.trans (by decide) hS | intro _ | split | dsimp only)

/-! ## KeyStore -/

theorem touches_Act_denyKey {p n user part : Nat} {S : List Part} (hS : Part.Sub [.regs, .evtNo, .upsets, .irqs] S) : Touches (Act.denyKey p n user part) S := by
  unfold Act.denyKey
  try dsimp only
  repeat' (with_reducible first | apply touches_Act_setFlds | apply touches_Act_event | apply touches_Act_count | apply Touches.all_cons | apply Touches.all_nil | exact Part.Sub.trans (by decide) hS | intro _ | dsimp only)

theorem touches_Act_demand {p n : Nat} {S : List Part} (hS : Part.Sub [.regs, .upsets, .sec] S) : Touches (Act.demand p n) S := by
  unfold Act.demand
  try dsimp only
  repeat' (with_reducible first | apply touches_Act_modKslot | apply touches_Act_setFld | apply Touches.seq | apply Touches.get | apply Touches.when | exact Part.Sub.trans (by decide) hS | intro _ | dsimp only)

theorem touches_Act_remask {p n : Nat} {S : List Part} (hS : Part.Sub [.sec, .freeCount] S) : Touches (Act.remask p n) S := by
  unfold Act.remask
  try dsimp only
  repeat' (with_reducible first | apply touches_Act_freeBytes | apply touches_Act_modKslot | apply Touches.get | exact Part.Sub.trans (by decide) hS | intro _ | dsimp only)

theorem touches_Act_useKey {p n use : Nat} {dir klen part : Option Nat} {user : Nat} {k : KeyUse → Act} {S : List Part} (hS : Part.Sub [.regs, .evtNo, .upsets, .irqs, .sec, .freeCount] S) (hk_k : ∀ x0, Touches (k x0) S) : Touches (Act.useKey p n use dir klen part user k) S := by
  unfold Act.useKey
  try dsimp only
  repeat' (with_reducible first | exact hk_k _ | apply touches_Act_modKslot | apply touches_Act_bumpFld | apply touches_Act_denyKey | apply touches_Act_demand | apply touches_Act_remask | apply Touches.all_cons | apply Touches.all_nil | apply Touches.seq | apply Touches.get | apply Touches.when | exact Part.Sub.trans (by decide) hS | intro _ | split | dsimp only)

theorem touches_Act_fillSlot {p n source : Nat} {key : List Nat} {S : List Part} (hS : Part.Sub [.regs, .upsets, .sec, .freeCount] S) : Touches (Act.fillSlot p n source key) S := by
  unfold Act.fillSlot
  try dsimp only
  repeat' (with_reducible first | apply touches_Act_freeBytes | apply touches_Act_modKslot | apply touches_Act_setFlds | apply Touches.seq | exact Part.Sub.trans (by decide) hS | intro _ | dsimp only)

theorem touches_Act_clearSlot {p n : Nat} {S : List Part} (hS : Part.Sub [.regs, .upsets, .sec] S) : Touches (Act.clearSlot p n) S := by
  unfold Act.clearSlot
  try dsimp only
  repeat' (with_reducible first | apply touches_Act_modKslot | apply touches_Act_setFlds | apply Touches.seq | exact Part.Sub.trans (by decide) hS | intro _ | dsimp only)

theorem touches_keyDemand {p n : Nat} {S : List Part} (hS : Part.Sub [.regs, .upsets, .sec] S) : Touches (keyDemand p n) S := by
  unfold keyDemand
  try dsimp only
  repeat' (with_reducible first | apply touches_Act_demand | exact Part.Sub.trans (by decide) hS | intro _ | dsimp only)

theorem touches_keyLoadDone {p n : Nat} {S : List Part} (hS : Part.Sub [.regs, .evtNo, .upsets, .irqs, .mon, .sec, .freeCount] S) : Touches (keyLoadDone p n) S := by
  unfold keyLoadDone
  try dsimp only
  repeat' (with_reducible first | apply touches_Act_setFld | apply touches_Act_setFlds | apply touches_Act_event | apply touches_Act_count | apply touches_Act_offerMon | apply touches_Act_fillSlot | apply Touches.all_cons | apply Touches.all_nil | apply Touches.seq | apply Touches.get | apply Touches.when | exact Part.Sub.trans (by decide) hS | intro _ | split | dsimp only)

theorem touches_keyPreload {p : Nat} {S : List Part} (hS : Part.Sub [.regs, .upsets, .sec] S) : Touches (keyPreload p) S := by
  unfold keyPreload
  try dsimp only
  repeat' (with_reducible first | apply touches_Act_demand | apply Touches.get | apply Touches.when | apply Touches.opt | exact Part.Sub.trans (by decide) hS | intro _ | dsimp only)

theorem touches_Act_rootMask {p : Nat} {S : List Part} (hS : Part.Sub [.sec, .freeCount] S) : Touches (Act.rootMask p) S := by
  unfold Act.rootMask
  try dsimp only
  repeat' (with_reducible first | apply touches_Act_freeBytes | apply touches_Act_modKstore | exact Part.Sub.trans (by decide) hS | intro _ | dsimp only)

theorem touches_resilverPass {p : Nat} {S : List Part} (hS : Part.Sub [.regs, .evtNo, .upsets, .irqs, .sec, .freeCount] S) : Touches (resilverPass p) S := by
  unfold resilverPass
  try dsimp only
  repeat' (with_reducible first | apply touches_Act_modKstore | apply touches_Act_event | apply touches_Act_count | apply touches_Act_remask | apply touches_Act_rootMask | apply Touches.seq | apply Touches.get | apply Touches.when | apply Touches.each | apply Touches.ite | exact Part.Sub.trans (by decide) hS | intro _ | split | dsimp only)

theorem touches_resilverSlotUses {p n : Nat} {S : List Part} (hS : Part.Sub [.sec, .freeCount] S) : Touches (resilverSlotUses p n) S := by
  unfold resilverSlotUses
  try dsimp only
  repeat' (with_reducible first | apply touches_Act_remask | apply Touches.get | apply Touches.when | exact Part.Sub.trans (by decide) hS | intro _ | dsimp only)

theorem touches_rngHealthFail {p : Nat} {S : List Part} (hS : Part.Sub [.regs, .evtNo, .upsets, .irqs, .sec] S) : Touches (rngHealthFail p) S := by
  unfold rngHealthFail
  try dsimp only
  repeat' (with_reducible first | apply touches_Act_modKstore | apply touches_Act_event | apply touches_Act_count | apply Touches.all_cons | apply Touches.all_nil | apply Touches.get | apply Touches.when | exact Part.Sub.trans (by decide) hS | intro _ | dsimp only)

theorem touches_rngStop {p : Nat} {S : List Part} (hS : Part.Sub [.regs, .evtNo, .upsets, .sec] S) : Touches (rngStop p) S := by
  unfold rngStop
  try dsimp only
  repeat' (with_reducible first | apply touches_Act_modKstore | apply touches_Act_event | apply Touches.seq | apply Touches.get | apply Touches.when | exact Part.Sub.trans (by decide) hS | intro _ | dsimp only)

theorem touches_rngRestart {p : Nat} {pass : Bool} {S : List Part} (hS : Part.Sub [.sec] S) : Touches (rngRestart p pass) S := by
  unfold rngRestart
  try dsimp only
  repeat' (with_reducible first | apply touches_Act_modKstore | apply Touches.get | apply Touches.when | apply Touches.ite | exact Part.Sub.trans (by decide) hS | intro _ | split | dsimp only)

theorem touches_drbgReseed {p : Nat} {S : List Part} (hS : Part.Sub [.freeCount] S) : Touches (drbgReseed p) S := by
  unfold drbgReseed
  try dsimp only
  repeat' (with_reducible first | apply Touches.free | apply Touches.get | apply Touches.when | apply Touches.skip | exact Part.Sub.trans (by decide) hS | intro _ | dsimp only)

/-! ## Msec -/

theorem touches_Act_setPn {p i n : Nat} {S : List Part} (hS : Part.Sub [.tbls] S) : Touches (Act.setPn p i n) S := by
  unfold Act.setPn
  try dsimp only
  repeat' (with_reducible first | apply Touches.setTbl | apply Touches.seq | exact Part.Sub.trans (by decide) hS | intro _ | dsimp only)

theorem touches_Act_msecEvent {p i f sc an : Nat} {S : List Part} (hS : Part.Sub [.regs, .evtNo, .upsets] S) : Touches (Act.msecEvent p i f sc an) S := by
  unfold Act.msecEvent
  try dsimp only
  repeat' (with_reducible first | apply touches_Act_setFlds | apply touches_Act_event | apply Touches.seq | exact Part.Sub.trans (by decide) hS | intro _ | dsimp only)

theorem touches_Act_msecCount {p f i : Nat} {S : List Part} (hS : Part.Sub [.regs, .evtNo, .upsets, .irqs] S) : Touches (Act.msecCount p f i) S := by
  unfold Act.msecCount
  try dsimp only
  repeat' (with_reducible first | apply touches_Act_count | exact Part.Sub.trans (by decide) hS | intro _ | dsimp only)

theorem touches_Act_datapathFault {p unit index : Nat} {S : List Part} (hS : Part.Sub [.regs, .evtNo, .upsets, .irqs] S) : Touches (Act.datapathFault p unit index) S := by
  unfold Act.datapathFault
  try dsimp only
  repeat' (with_reducible first | apply touches_Act_setFlds | apply touches_Act_event | apply touches_Act_count | apply Touches.all_cons | apply Touches.all_nil | exact Part.Sub.trans (by decide) hS | intro _ | dsimp only)

theorem touches_Act_macsecTransmit {p f : Nat} {fault : Bool} {body : List Byte} {k : MacOut → Act} {S : List Part} (hS : Part.Sub [.regs, .tbls, .evtNo, .upsets, .irqs, .sec, .freeCount] S) (hk_k : ∀ x0, Touches (k x0) S) : Touches (Act.macsecTransmit p f fault body k) S := by
  unfold Act.macsecTransmit
  try dsimp only
  repeat' (with_reducible first | exact hk_k _ | apply touches_Act_modKslot | apply touches_Act_useKey | apply touches_Act_setPn | apply touches_Act_msecEvent | apply touches_Act_msecCount | apply touches_Act_datapathFault | apply Touches.all_cons | apply Touches.all_nil | apply Touches.seq | apply Touches.get | apply Touches.when | apply Touches.ite | exact Part.Sub.trans (by decide) hS | intro _ | split | dsimp only)

theorem touches_Act_macsecReceive {p f : Nat} {fault : Bool} {body : List Byte} {k : Option (List Byte) → Act} {S : List Part} (hS : Part.Sub [.regs, .tbls, .evtNo, .upsets, .irqs, .sec, .freeCount] S) (hk_k : ∀ x0, Touches (k x0) S) : Touches (Act.macsecReceive p f fault body k) S := by
  unfold Act.macsecReceive
  try dsimp only
  repeat' (with_reducible first | exact hk_k _ | apply touches_Act_useKey | apply touches_Act_setPn | apply touches_Act_msecEvent | apply touches_Act_msecCount | apply touches_Act_datapathFault | apply Touches.all_cons | apply Touches.all_nil | apply Touches.seq | apply Touches.get | apply Touches.ite | exact Part.Sub.trans (by decide) hS | intro _ | split | dsimp only)

theorem touches_saCmd {ag : Agent} {p : Nat} {v : Word} {k : Code → Act} {S : List Part} (hS : Part.Sub [.regs, .tbls, .evtNo, .upsets] S) (hk_k : ∀ x0, Touches (k x0) S) : Touches (saCmd ag p v k) S := by
  unfold saCmd
  try dsimp only
  repeat' (with_reducible first | exact hk_k _ | apply touches_Act_blkErr | apply touches_Act_setTblWords | apply touches_Act_badValue | apply Touches.setReg | apply Touches.all_cons | apply Touches.all_nil | apply Touches.seq | apply Touches.get | apply Touches.each | apply Touches.ite | apply Touches.all_map | exact Part.Sub.trans (by decide) hS | intro _ | split | dsimp only)

end Sys2Proof.Machine
end

