-- ==== Sys2Proof/Laws/Frame/Group3.lean ====
section
/-! SUPPORT. Which parts of the state the operations of Eth, Time, Seal, Domain, Signal, Lin, Egress, Ezsor, Admit may change. -/

set_option linter.unusedTactic false
set_option linter.unreachableTactic false

namespace Sys2Proof.Machine

/-! ## Eth -/

theorem touches_Act_ethCount {p f i : Nat} {S : List Part} (hS : Part.Sub [.regs, .evtNo, .upsets, .irqs] S) : Touches (Act.ethCount p f i) S := by
  unfold Act.ethCount
  try dsimp only
  repeat' (with_reducible first | apply touches_Act_count | exact Part.Sub.trans (by decide) hS | intro _ | dsimp only)

theorem touches_Act_countRx {p f da n : Nat} {S : List Part} (hS : Part.Sub [.regs, .evtNo, .upsets, .irqs, .mon] S) : Touches (Act.countRx p f da n) S := by
  unfold Act.countRx
  try dsimp only
  repeat' (with_reducible first | apply touches_Act_countBy | apply touches_Act_tallyMon | apply touches_Act_ethCount | apply Touches.all_cons | apply Touches.all_nil | exact Part.Sub.trans (by decide) hS | intro _ | dsimp only)

theorem touches_Act_countTx {p f da n : Nat} {S : List Part} (hS : Part.Sub [.regs, .evtNo, .upsets, .irqs, .mon] S) : Touches (Act.countTx p f da n) S := by
  unfold Act.countTx
  try dsimp only
  repeat' (with_reducible first | apply touches_Act_countBy | apply touches_Act_tallyMon | apply touches_Act_ethCount | apply Touches.all_cons | apply Touches.all_nil | exact Part.Sub.trans (by decide) hS | intro _ | dsimp only)

theorem touches_Act_setPauses {p f : Nat} {l : List (Nat × Pause)} {S : List Part} (hS : Part.Sub [.sw, .mon] S) : Touches (Act.setPauses p f l) S := by
  unfold Act.setPauses
  try dsimp only
  repeat' (with_reducible first | apply touches_Act_modEth | apply touches_Act_offerMon | apply Touches.seq | apply Touches.get | apply Touches.when | apply Touches.each | apply Touches.opt | exact Part.Sub.trans (by decide) hS | intro _ | dsimp only)

theorem touches_Act_pauseCls {p f c : Nat} {l : List (Nat × Nat)} {S : List Part} (hS : Part.Sub [.regs, .evtNo, .upsets, .irqs, .sw, .mon] S) : Touches (Act.pauseCls p f c l) S := by
  unfold Act.pauseCls
  try dsimp only
  repeat' (with_reducible first | apply touches_Act_modEth | apply touches_Act_ethCount | apply touches_Act_setPauses | apply Touches.seq | apply Touches.get | apply Touches.ite | apply Touches.all_map | exact Part.Sub.trans (by decide) hS | intro _ | split | dsimp only)

theorem touches_Act_macControl {p f : Nat} {b : List Byte} {S : List Part} (hS : Part.Sub [.regs, .evtNo, .upsets, .irqs, .sw, .mon] S) : Touches (Act.macControl p f b) S := by
  unfold Act.macControl
  try dsimp only
  repeat' (with_reducible first | apply touches_Act_ethCount | apply touches_Act_pauseCls | apply Touches.seq | apply Touches.get | apply Touches.when | apply Touches.each | apply Touches.ite | exact Part.Sub.trans (by decide) hS | intro _ | split | dsimp only)

theorem touches_pauseExpire {p f c : Nat} {S : List Part} (hS : Part.Sub [.sw, .mon] S) : Touches (pauseExpire p f c) S := by
  unfold pauseExpire
  try dsimp only
  repeat' (with_reducible first | apply touches_Act_setPauses | apply Touches.get | exact Part.Sub.trans (by decide) hS | intro _ | dsimp only)

theorem touches_pauseLimit {p f c : Nat} {S : List Part} (hS : Part.Sub [.regs, .evtNo, .upsets, .sw, .mon] S) : Touches (pauseLimit p f c) S := by
  unfold pauseLimit
  try dsimp only
  repeat' (with_reducible first | apply touches_Act_modEth | apply touches_Act_event | apply touches_Act_setPauses | apply Touches.all_cons | apply Touches.all_nil | apply Touches.get | apply Touches.when | apply Touches.opt | exact Part.Sub.trans (by decide) hS | intro _ | dsimp only)

theorem touches_pauseOverrideEnd {p f c : Nat} {S : List Part} (hS : Part.Sub [.sw] S) : Touches (pauseOverrideEnd p f c) S := by
  unfold pauseOverrideEnd
  try dsimp only
  repeat' (with_reducible first | apply touches_Act_modEth | apply Touches.get | exact Part.Sub.trans (by decide) hS | intro _ | dsimp only)

theorem touches_Act_sendPause {p f : Nat} {classes : List Nat} {time : Nat} {S : List Part} (hS : Part.Sub [.regs, .evtNo, .upsets, .irqs, .mon, .out] S) : Touches (Act.sendPause p f classes time) S := by
  unfold Act.sendPause
  try dsimp only
  repeat' (with_reducible first | apply touches_Act_emit | apply touches_Act_ethCount | apply touches_Act_countTx | apply Touches.all_cons | apply Touches.all_nil | apply Touches.get | apply Touches.ite | apply Touches.all_map | exact Part.Sub.trans (by decide) hS | intro _ | split | dsimp only)

theorem touches_xoffCross {p f : Nat} {S : List Part} (hS : Part.Sub [.regs, .evtNo, .upsets, .irqs, .sw, .mon, .out] S) : Touches (xoffCross p f) S := by
  unfold xoffCross
  try dsimp only
  repeat' (with_reducible first | apply touches_Act_setEth | apply touches_Act_sendPause | apply Touches.seq | apply Touches.get | apply Touches.when | exact Part.Sub.trans (by decide) hS | intro _ | dsimp only)

theorem touches_xonCross {p f : Nat} {S : List Part} (hS : Part.Sub [.regs, .evtNo, .upsets, .irqs, .sw, .mon, .out] S) : Touches (xonCross p f) S := by
  unfold xonCross
  try dsimp only
  repeat' (with_reducible first | apply touches_Act_setEth | apply touches_Act_sendPause | apply Touches.seq | apply Touches.get | apply Touches.when | exact Part.Sub.trans (by decide) hS | intro _ | dsimp only)

theorem touches_pauseRefresh {p f : Nat} {S : List Part} (hS : Part.Sub [.regs, .evtNo, .upsets, .irqs, .mon, .out] S) : Touches (pauseRefresh p f) S := by
  unfold pauseRefresh
  try dsimp only
  repeat' (with_reducible first | apply touches_Act_sendPause | apply Touches.get | apply Touches.when | exact Part.Sub.trans (by decide) hS | intro _ | dsimp only)

theorem touches_Act_acceptFrame {p f c : Nat} {cut abort : Bool} {b : List Byte} {ts status : Nat} {S : List Part} (hS : Part.Sub [.sw, .plx] S) : Touches (Act.acceptFrame p f c cut abort b ts status) S := by
  unfold Act.acceptFrame
  try dsimp only
  repeat' (with_reducible first | apply touches_Act_modEth | apply touches_Act_intake | apply Touches.upd_of hS | apply Touches.seq | apply Touches.get | apply Touches.ite | exact Part.Sub.trans (by decide) hS | intro _ | split | dsimp only)
  all_goals (intro s p hp; cases p <;> first | rfl | exact absurd (by decide) hp)

theorem touches_ethReceive {p f : Nat} {b : List Byte} {errAt : Option Nat} {fault : Bool} {fixed lost status : Nat} {S : List Part} (hS : Part.Sub [.regs, .tbls, .evtNo, .upsets, .irqs, .sw, .mon, .sec, .plx, .freeCount] S) : Touches (ethReceive p f b errAt fault fixed lost status) S := by
  unfold ethReceive
  try dsimp only
  repeat' (with_reducible first | apply touches_Act_event | apply touches_Act_countBy | apply touches_Act_offerMon | apply touches_Act_macsecReceive | apply touches_Act_ethCount | apply touches_Act_countRx | apply touches_Act_macControl | apply touches_Act_acceptFrame | apply Touches.seq | apply Touches.get | apply Touches.when | apply Touches.opt | apply Touches.skip | apply Touches.ite | exact Part.Sub.trans (by decide) hS | intro _ | split | dsimp only)

theorem touches_pauseReceive {p f : Nat} {b : List Byte} {S : List Part} (hS : Part.Sub [.regs, .tbls, .evtNo, .upsets, .irqs, .sw, .mon, .sec, .plx, .freeCount] S) : Touches (pauseReceive p f b) S := by
  unfold pauseReceive
  try dsimp only
  repeat' (with_reducible first | apply touches_ethReceive | apply Touches.get | apply Touches.when | exact Part.Sub.trans (by decide) hS | intro _ | dsimp only)

theorem touches_Act_txFree {p f : Nat} {S : List Part} (hS : Part.Sub [.sw] S) : Touches (Act.txFree p f) S := by
  unfold Act.txFree
  try dsimp only
  repeat' (with_reducible first | apply touches_Act_modEth | apply touches_Act_shape | apply Touches.seq | apply Touches.get | exact Part.Sub.trans (by decide) hS | intro _ | dsimp only)

theorem touches_Act_txStamp {p f : Nat} {b : List Byte} {S : List Part} (hS : Part.Sub [.regs, .evtNo, .upsets, .irqs, .sw] S) : Touches (Act.txStamp p f b) S := by
  unfold Act.txStamp
  try dsimp only
  repeat' (with_reducible first | apply touches_Act_setEth | apply touches_Act_event | apply touches_Act_ethCount | apply Touches.seq | apply Touches.get | apply Touches.opt | apply Touches.skip | apply Touches.ite | exact Part.Sub.trans (by decide) hS | intro _ | split | dsimp only)

theorem touches_Act_endAborted {p f n : Nat} {body : List Byte} {S : List Part} (hS : Part.Sub [.regs, .evtNo, .upsets, .irqs, .sw, .out] S) : Touches (Act.endAborted p f n body) S := by
  unfold Act.endAborted
  try dsimp only
  repeat' (with_reducible first | apply touches_Act_emit | apply touches_Act_ethCount | apply touches_Act_txFree | apply Touches.all_cons | apply Touches.all_nil | exact Part.Sub.trans (by decide) hS | intro _ | dsimp only)

theorem touches_ethTransmit {p f coll : Nat} {late fault : Bool} {S : List Part} (hS : Part.Sub [.regs, .tbls, .evtNo, .upsets, .irqs, .sw, .mon, .sec, .out, .freeCount] S) : Touches (ethTransmit p f coll late fault) S := by
  unfold ethTransmit
  try dsimp only
  repeat' (with_reducible first | apply touches_Act_emit | apply touches_Act_countBy | apply touches_Act_macsecTransmit | apply touches_Act_ethCount | apply touches_Act_countTx | apply touches_Act_txFree | apply touches_Act_txStamp | apply touches_Act_endAborted | apply Touches.all_cons | apply Touches.all_nil | apply Touches.seq | apply Touches.get | apply Touches.when | apply Touches.opt | apply Touches.skip | apply Touches.ite | exact Part.Sub.trans (by decide) hS | intro _ | split | dsimp only)

theorem touches_txAbort {p f n : Nat} {underrun : Bool} {S : List Part} (hS : Part.Sub [.regs, .tbls, .evtNo, .upsets, .irqs, .sw, .sec, .out, .freeCount] S) : Touches (txAbort p f n underrun) S := by
  unfold txAbort
  try dsimp only
  repeat' (with_reducible first | apply touches_Act_macsecTransmit | apply touches_Act_ethCount | apply touches_Act_endAborted | apply Touches.seq | apply Touches.get | apply Touches.when | apply Touches.opt | exact Part.Sub.trans (by decide) hS | intro _ | split | dsimp only)

theorem touches_Act_rawIs {p f : Nat} {on : Bool} {S : List Part} (hS : Part.Sub [.regs, .evtNo, .upsets, .irqs, .sw] S) : Touches (Act.rawIs p f on) S := by
  unfold Act.rawIs
  try dsimp only
  repeat' (with_reducible first | apply touches_Act_modEth | apply touches_Act_ethCount | apply Touches.seq | apply Touches.get | apply Touches.when | exact Part.Sub.trans (by decide) hS | intro _ | dsimp only)

theorem touches_Act_linkDown {p f : Nat} {lf rf : Bool} {S : List Part} (hS : Part.Sub [.regs, .evtNo, .upsets, .irqs, .sw] S) : Touches (Act.linkDown p f lf rf) S := by
  unfold Act.linkDown
  try dsimp only
  repeat' (with_reducible first | apply touches_Act_modEth | apply touches_Act_event | apply touches_Act_ethCount | apply touches_Act_rawIs | apply Touches.all_cons | apply Touches.all_nil | apply Touches.seq | apply Touches.get | apply Touches.when | apply Touches.all_map | exact Part.Sub.trans (by decide) hS | intro _ | dsimp only)

theorem touches_ethLinkDown {p f : Nat} {lf rf held : Bool} {S : List Part} (hS : Part.Sub [.regs, .evtNo, .upsets, .irqs, .sw] S) : Touches (ethLinkDown p f lf rf held) S := by
  unfold ethLinkDown
  try dsimp only
  repeat' (with_reducible first | apply touches_Act_modEth | apply touches_Act_rawIs | apply touches_Act_linkDown | apply Touches.seq | apply Touches.get | apply Touches.when | apply Touches.ite | exact Part.Sub.trans (by decide) hS | intro _ | split | dsimp only)

theorem touches_ethLinkUp {p f : Nat} {held : Bool} {S : List Part} (hS : Part.Sub [.regs, .evtNo, .upsets, .irqs, .sw] S) : Touches (ethLinkUp p f held) S := by
  unfold ethLinkUp
  try dsimp only
  repeat' (with_reducible first | apply touches_Act_setEth | apply touches_Act_modEth | apply touches_Act_event | apply touches_Act_rawIs | apply Touches.seq | apply Touches.get | apply Touches.when | apply Touches.ite | exact Part.Sub.trans (by decide) hS | intro _ | split | dsimp only)

theorem touches_Act_ethEnable {p f : Nat} {S : List Part} (hS : Part.Sub [.regs, .evtNo, .upsets, .irqs, .sw] S) : Touches (Act.ethEnable p f) S := by
  unfold Act.ethEnable
  try dsimp only
  repeat' (with_reducible first | apply touches_Act_modEth | apply touches_Act_rawIs | apply Touches.seq | exact Part.Sub.trans (by decide) hS | intro _ | dsimp only)

theorem touches_plcaBeaconLost {p f : Nat} {S : List Part} (hS : Part.Sub [.regs, .evtNo, .upsets, .sw] S) : Touches (plcaBeaconLost p f) S := by
  unfold plcaBeaconLost
  try dsimp only
  repeat' (with_reducible first | apply touches_Act_modEth | apply touches_Act_event | apply Touches.seq | apply Touches.get | apply Touches.when | exact Part.Sub.trans (by decide) hS | intro _ | dsimp only)

theorem touches_plcaBeacon {p f : Nat} {S : List Part} (hS : Part.Sub [.regs, .upsets, .sw, .out] S) : Touches (plcaBeacon p f) S := by
  unfold plcaBeacon
  try dsimp only
  repeat' (with_reducible first | apply touches_Act_emit | apply touches_Act_modEth | apply touches_Act_bumpFld | apply Touches.all_cons | apply Touches.all_nil | apply Touches.get | apply Touches.when | exact Part.Sub.trans (by decide) hS | intro _ | dsimp only)

theorem touches_Act_mdioIssue {p f op : Nat} {S : List Part} (hS : Part.Sub [.out] S) : Touches (Act.mdioIssue p f op) S := by
  unfold Act.mdioIssue
  try dsimp only
  repeat' (with_reducible first | apply touches_Act_emit | apply Touches.get | exact Part.Sub.trans (by decide) hS | intro _ | dsimp only)

theorem touches_mdioWrite {ag : Agent} {p f : Nat} {v : Word} {k : Code → Act} {S : List Part} (hS : Part.Sub [.regs, .evtNo, .upsets, .sw, .out] S) (hk_k : ∀ x0, Touches (k x0) S) : Touches (mdioWrite ag p f v k) S := by
  unfold mdioWrite
  try dsimp only
  repeat' (with_reducible first | exact hk_k _ | apply touches_Act_modBus | apply touches_Act_setFld | apply touches_Act_badValue | apply touches_Act_store | apply touches_Act_mdioIssue | apply Touches.all_cons | apply Touches.all_nil | apply Touches.seq | apply Touches.get | apply Touches.when | apply Touches.ite | exact Part.Sub.trans (by decide) hS | intro _ | split | dsimp only)

theorem touches_mdioDone {p b data : Nat} {turnaround : Bool} {S : List Part} (hS : Part.Sub [.regs, .upsets, .sw, .out] S) : Touches (mdioDone p b data turnaround) S := by
  unfold mdioDone
  try dsimp only
  repeat' (with_reducible first | apply touches_Act_setBus | apply touches_Act_setFld | apply touches_Act_mdioIssue | apply Touches.all_cons | apply Touches.all_nil | apply Touches.get | apply Touches.when | apply Touches.opt | apply Touches.skip | apply Touches.ite | exact Part.Sub.trans (by decide) hS | intro _ | split | dsimp only)

theorem touches_ethSnap {p f : Nat} {S : List Part} (hS : Part.Sub [.regs, .upsets] S) : Touches (ethSnap p f) S := by
  unfold ethSnap
  try dsimp only
  repeat' (with_reducible first | apply Touches.setReg | apply Touches.get | apply Touches.each | exact Part.Sub.trans (by decide) hS | intro _ | dsimp only)

theorem touches_restartAn {p f : Nat} {S : List Part} (hS : Part.Sub [.regs, .evtNo, .upsets, .irqs, .sw] S) : Touches (restartAn p f) S := by
  unfold restartAn
  try dsimp only
  repeat' (with_reducible first | apply touches_Act_modEth | apply touches_Act_rawIs | apply Touches.seq | apply Touches.get | apply Touches.when | exact Part.Sub.trans (by decide) hS | intro _ | dsimp only)

theorem touches_ethCtrl {p f : Nat} {v : Word} {k : Code → Act} {S : List Part} (hS : Part.Sub [.regs, .evtNo, .upsets, .irqs, .sw] S) (hk_k : ∀ x0, Touches (k x0) S) : Touches (ethCtrl p f v k) S := by
  unfold ethCtrl
  try dsimp only
  repeat' (with_reducible first | exact hk_k _ | apply touches_ethSnap | apply touches_restartAn | apply Touches.all_cons | apply Touches.all_nil | apply Touches.when | exact Part.Sub.trans (by decide) hS | intro _ | dsimp only)

theorem touches_txtsPop {p f : Nat} {k : Code → Word → Act} {S : List Part} (hS : Part.Sub [.sw] S) (hk_k : ∀ x0 x1, Touches (k x0 x1) S) : Touches (txtsPop p f k) S := by
  unfold txtsPop
  try dsimp only
  repeat' (with_reducible first | exact hk_k _ _ | apply touches_Act_modEth | apply Touches.seq | apply Touches.get | exact Part.Sub.trans (by decide) hS | intro _ | dsimp only)

/-! ## Time -/

theorem touches_Act_addTime {p : Nat} {i : Int} {S : List Part} (hS : Part.Sub [.sw] S) : Touches (Act.addTime p i) S := by
  unfold Act.addTime
  try dsimp only
  repeat' (with_reducible first | apply touches_Act_modDie | exact Part.Sub.trans (by decide) hS | intro _ | dsimp only)

theorem touches_Act_moveMoments {p : Nat} {i : Int} {S : List Part} (hS : Part.Sub [.sw, .cpu] S) : Touches (Act.moveMoments p i) S := by
  unfold Act.moveMoments
  try dsimp only
  repeat' (with_reducible first | apply touches_Act_modFlood | apply touches_Act_modMtrC | apply touches_Act_modMtrE | apply touches_Act_modShaper | apply touches_Act_modRcv | apply touches_Act_modEth | apply touches_Act_modAprLevel | apply Touches.all_cons | apply Touches.all_nil | apply Touches.get | apply Touches.each | apply Touches.all_map | exact Part.Sub.trans (by decide) hS | intro _ | dsimp only)

theorem touches_Act_stepTime {p : Nat} {i : Int} {S : List Part} (hS : Part.Sub [.regs, .upsets, .sw, .gw, .cpu] S) : Touches (Act.stepTime p i) S := by
  unfold Act.stepTime
  try dsimp only
  repeat' (with_reducible first | apply touches_Act_setCad | apply touches_Act_shape | apply touches_Act_gatesStepped | apply touches_Act_addTime | apply touches_Act_moveMoments | apply Touches.all_cons | apply Touches.all_nil | apply Touches.get | exact Part.Sub.trans (by decide) hS | intro _ | dsimp only)

theorem touches_Act_passEdge  {S : List Part} (hS : Part.Sub [.sw] S) : Touches (Act.passEdge ) S := by
  unfold Act.passEdge
  try dsimp only
  repeat' (with_reducible first | apply touches_Act_modDie | apply touches_Act_shape | apply Touches.seq | apply Touches.get | apply Touches.each | apply Touches.ite | exact Part.Sub.trans (by decide) hS | intro _ | split | dsimp only)

theorem touches_Act_applyCorr {p : Nat} {S : List Part} (hS : Part.Sub [.regs, .upsets, .sw, .gw, .cpu] S) : Touches (Act.applyCorr p) S := by
  unfold Act.applyCorr
  try dsimp only
  repeat' (with_reducible first | apply touches_Act_modTim | apply touches_Act_addTime | apply touches_Act_stepTime | apply Touches.seq | apply Touches.get | apply Touches.ite | exact Part.Sub.trans (by decide) hS | intro _ | split | dsimp only)

theorem touches_Act_measure {p : Nat} {S : List Part} (hS : Part.Sub [.regs, .evtNo, .upsets, .sw, .mon] S) : Touches (Act.measure p) S := by
  unfold Act.measure
  try dsimp only
  repeat' (with_reducible first | apply touches_Act_setTim | apply touches_Act_setFlds | apply touches_Act_event | apply touches_Act_offerMon | apply Touches.all_cons | apply Touches.all_nil | apply Touches.get | apply Touches.when | apply Touches.ite | exact Part.Sub.trans (by decide) hS | intro _ | split | dsimp only)

theorem touches_timeMark {drift : List Int} {S : List Part} (hS : Part.Sub [.regs, .evtNo, .upsets, .sw, .gw, .mon, .cpu] S) : Touches (timeMark drift) S := by
  unfold timeMark
  try dsimp only
  repeat' (with_reducible first | apply touches_Act_modTim | apply touches_Act_event | apply touches_Act_addTime | apply touches_Act_stepTime | apply touches_Act_applyCorr | apply touches_Act_measure | apply Touches.all_cons | apply Touches.all_nil | apply Touches.seq | apply Touches.get | apply Touches.when | apply Touches.each | apply Touches.opt | exact Part.Sub.trans (by decide) hS | intro _ | dsimp only)

theorem touches_timeRateWrite {ag : Agent} {p : Nat} {v : Word} {k : Code → Act} {S : List Part} (hS : Part.Sub [.regs, .evtNo, .upsets, .sw] S) (hk_k : ∀ x0, Touches (k x0) S) : Touches (timeRateWrite ag p v k) S := by
  unfold timeRateWrite
  try dsimp only
  repeat' (with_reducible first | exact hk_k _ | apply touches_Act_modTim | apply touches_Act_badValue | apply touches_Act_store | apply Touches.all_cons | apply Touches.all_nil | apply Touches.get | apply Touches.ite | exact Part.Sub.trans (by decide) hS | intro _ | split | dsimp only)

theorem touches_timeStepWrite {ag : Agent} {p : Nat} {v : Word} {k : Code → Act} {S : List Part} (hS : Part.Sub [.regs, .evtNo, .upsets, .sw] S) (hk_k : ∀ x0, Touches (k x0) S) : Touches (timeStepWrite ag p v k) S := by
  unfold timeStepWrite
  try dsimp only
  repeat' (with_reducible first | exact hk_k _ | apply touches_Act_modTim | apply touches_Act_badValue | apply touches_Act_store | apply Touches.all_cons | apply Touches.all_nil | apply Touches.get | apply Touches.ite | exact Part.Sub.trans (by decide) hS | intro _ | split | dsimp only)

theorem touches_ptpCommit  {S : List Part} (hS : Part.Sub [.regs, .upsets, .sw] S) : Touches (ptpCommit ) S := by
  unfold ptpCommit
  try dsimp only
  repeat' (with_reducible first | apply touches_Act_modTim | apply touches_Act_setFld | apply Touches.seq | apply Touches.get | apply Touches.each | exact Part.Sub.trans (by decide) hS | intro _ | dsimp only)

theorem touches_timeCtrl {ag : Agent} {p : Nat} {v : Word} {k : Code → Act} {S : List Part} (hS : Part.Sub [.regs, .evtNo, .upsets, .sw] S) (hk_k : ∀ x0, Touches (k x0) S) : Touches (timeCtrl ag p v k) S := by
  unfold timeCtrl
  try dsimp only
  repeat' (with_reducible first | exact hk_k _ | apply touches_Act_badValue | apply touches_Act_store | apply touches_ptpCommit | apply Touches.all_cons | apply Touches.all_nil | apply Touches.when | apply Touches.ite | exact Part.Sub.trans (by decide) hS | intro _ | split | dsimp only)

theorem touches_ptpNowRead {p : Nat} {k : Code → Word → Act} {S : List Part} (hS : Part.Sub [.sw] S) (hk_k : ∀ x0 x1, Touches (k x0 x1) S) : Touches (ptpNowRead p k) S := by
  unfold ptpNowRead
  try dsimp only
  repeat' (with_reducible first | exact hk_k _ _ | apply touches_Act_modTim | apply Touches.seq | apply Touches.get | apply Touches.ite | apply Touches.all_map | exact Part.Sub.trans (by decide) hS | intro _ | split | dsimp only)

theorem touches_timeCapture {falling : Bool} {S : List Part} (hS : Part.Sub [.regs, .evtNo, .upsets] S) : Touches (timeCapture falling) S := by
  unfold timeCapture
  try dsimp only
  repeat' (with_reducible first | apply touches_Act_event | apply Touches.setReg | apply Touches.seq | apply Touches.get | apply Touches.when | exact Part.Sub.trans (by decide) hS | intro _ | dsimp only)

theorem touches_ppsPulse  {S : List Part} (hS : Part.Sub [.out] S) : Touches (ppsPulse ) S := by
  unfold ppsPulse
  try dsimp only
  repeat' (with_reducible first | apply touches_Act_emit | apply Touches.seq | apply Touches.get | apply Touches.when | apply Touches.all_map | exact Part.Sub.trans (by decide) hS | intro _ | dsimp only)

/-! ## Seal -/

theorem touches_Act_sealEvent {p i prof : Nat} {S : List Part} (hS : Part.Sub [.regs, .evtNo, .upsets] S) : Touches (Act.sealEvent p i prof) S := by
  unfold Act.sealEvent
  try dsimp only
  repeat' (with_reducible first | apply touches_Act_setFld | apply touches_Act_event | apply Touches.seq | exact Part.Sub.trans (by decide) hS | intro _ | dsimp only)

theorem touches_Act_sealTag {p i kind use user : Nat} {fault : Option (Nat × Nat)} {payload : List Byte} {k : Sealed → Act} {S : List Part} (hS : Part.Sub [.regs, .evtNo, .upsets, .irqs, .sec, .freeCount] S) (hk_k : ∀ x0, Touches (k x0) S) : Touches (Act.sealTag p i kind use user fault payload k) S := by
  unfold Act.sealTag
  try dsimp only
  repeat' (with_reducible first | exact hk_k _ | apply touches_Act_setFresh | apply touches_Act_count | apply touches_Act_useKey | apply touches_Act_datapathFault | apply touches_Act_sealEvent | apply Touches.all_cons | apply Touches.all_nil | apply Touches.seq | apply Touches.get | apply Touches.when | apply Touches.ite | exact Part.Sub.trans (by decide) hS | intro _ | split | dsimp only)

theorem touches_Act_sealPdu {p i use user : Nat} {fault : Option (Nat × Nat)} {data : List Byte} {k : Option (List Byte) → Act} {S : List Part} (hS : Part.Sub [.regs, .evtNo, .upsets, .irqs, .sec, .freeCount] S) (hk_k : ∀ x0, Touches (k x0) S) : Touches (Act.sealPdu p i use user fault data k) S := by
  unfold Act.sealPdu
  try dsimp only
  repeat' (with_reducible first | exact hk_k _ | apply touches_Act_count | apply touches_Act_sealTag | apply Touches.seq | apply Touches.get | apply Touches.ite | exact Part.Sub.trans (by decide) hS | intro _ | split | dsimp only)

theorem touches_Act_verifySeal {p i use user : Nat} {beacon : Bool} {fault : Option (Nat × Nat)} {data : List Byte} {k : Verified → Act} {S : List Part} (hS : Part.Sub [.regs, .evtNo, .upsets, .irqs, .sec, .freeCount] S) (hk_k : ∀ x0, Touches (k x0) S) : Touches (Act.verifySeal p i use user beacon fault data k) S := by
  unfold Act.verifySeal
  try dsimp only
  repeat' (with_reducible first | exact hk_k _ | apply touches_Act_count | apply touches_Act_useKey | apply touches_Act_datapathFault | apply touches_Act_sealEvent | apply Touches.all_cons | apply Touches.all_nil | apply Touches.seq | apply Touches.get | apply Touches.ite | exact Part.Sub.trans (by decide) hS | intro _ | split | dsimp only)

theorem touches_Act_sealReplay {p i : Nat} {S : List Part} (hS : Part.Sub [.regs, .evtNo, .upsets, .irqs] S) : Touches (Act.sealReplay p i) S := by
  unfold Act.sealReplay
  try dsimp only
  repeat' (with_reducible first | apply touches_Act_count | apply touches_Act_sealEvent | apply Touches.seq | exact Part.Sub.trans (by decide) hS | intro _ | dsimp only)

theorem touches_Act_sealAccept {p i : Nat} {beacon : Bool} {f : Nat} {S : List Part} (hS : Part.Sub [.regs, .evtNo, .upsets, .irqs, .mon, .sec] S) : Touches (Act.sealAccept p i beacon f) S := by
  unfold Act.sealAccept
  try dsimp only
  repeat' (with_reducible first | apply touches_Act_modFresh | apply touches_Act_count | apply touches_Act_offerMon | apply Touches.seq | apply Touches.get | apply Touches.opt | apply Touches.ite | exact Part.Sub.trans (by decide) hS | intro _ | split | dsimp only)

theorem touches_profCmd {ag : Agent} {p : Nat} {v : Word} {k : Code → Act} {S : List Part} (hS : Part.Sub [.regs, .tbls, .evtNo, .upsets, .sec] S) (hk_k : ∀ x0, Touches (k x0) S) : Touches (profCmd ag p v k) S := by
  unfold profCmd
  try dsimp only
  repeat' (with_reducible first | exact hk_k _ | apply touches_Act_modFresh | apply touches_Act_setTblWords | apply touches_Act_badValue | apply touches_Act_store | apply Touches.setReg | apply Touches.all_cons | apply Touches.all_nil | apply Touches.seq | apply Touches.get | apply Touches.ite | exact Part.Sub.trans (by decide) hS | intro _ | split | dsimp only)

theorem touches_fvCmd {ag : Agent} {p : Nat} {v : Word} {k : Code → Act} {S : List Part} (hS : Part.Sub [.regs, .evtNo, .upsets, .sec] S) (hk_k : ∀ x0, Touches (k x0) S) : Touches (fvCmd ag p v k) S := by
  unfold fvCmd
  try dsimp only
  repeat' (with_reducible first | exact hk_k _ | apply touches_Act_modFresh | apply touches_Act_badValue | apply touches_Act_store | apply Touches.setReg | apply Touches.all_cons | apply Touches.all_nil | apply Touches.seq | apply Touches.get | apply Touches.ite | exact Part.Sub.trans (by decide) hS | intro _ | split | dsimp only)

/-! ## Domain -/

theorem touches_Act_plxEvent {i dev facet : Nat} {S : List Part} (hS : Part.Sub [.regs, .evtNo, .upsets, .irqs] S) : Touches (Act.plxEvent i dev facet) S := by
  unfold Act.plxEvent
  try dsimp only
  repeat' (with_reducible first | apply touches_Act_event | apply touches_Act_irqBlk | apply Touches.setReg | apply Touches.all_cons | apply Touches.all_nil | apply Touches.when | exact Part.Sub.trans (by decide) hS | intro _ | dsimp only)

theorem touches_Act_modMem {id : Nat} {f : Member → Member} {S : List Part} (hS : Part.Sub [.plx] S) : Touches (Act.modMem id f) S := by
  unfold Act.modMem
  try dsimp only
  repeat' (with_reducible first | apply touches_Act_modMember | apply Touches.all_map | exact Part.Sub.trans (by decide) hS | intro _ | dsimp only)

theorem touches_Act_censusLeave {id : Nat} {S : List Part} (hS : Part.Sub [.plx] S) : Touches (Act.censusLeave id) S := by
  unfold Act.censusLeave
  try dsimp only
  repeat' (with_reducible first | apply touches_Act_setCens | apply touches_Act_modMem | apply Touches.seq | apply Touches.get | apply Touches.when | apply Touches.opt | exact Part.Sub.trans (by decide) hS | intro _ | dsimp only)

theorem touches_Act_censusJoin {id facet : Nat} {S : List Part} (hS : Part.Sub [.regs, .evtNo, .upsets, .irqs, .plx] S) : Touches (Act.censusJoin id facet) S := by
  unfold Act.censusJoin
  try dsimp only
  repeat' (with_reducible first | apply touches_Act_setCens | apply touches_Act_plxEvent | apply touches_Act_modMem | apply Touches.all_cons | apply Touches.all_nil | apply Touches.seq | apply Touches.get | apply Touches.when | apply Touches.opt | exact Part.Sub.trans (by decide) hS | intro _ | split | dsimp only)

theorem touches_Act_censusUpdate {id facet : Nat} {S : List Part} (hS : Part.Sub [.regs, .evtNo, .upsets, .irqs, .plx] S) : Touches (Act.censusUpdate id facet) S := by
  unfold Act.censusUpdate
  try dsimp only
  repeat' (with_reducible first | apply touches_Act_censusLeave | apply touches_Act_censusJoin | apply Touches.seq | apply Touches.get | apply Touches.opt | apply Touches.skip | apply Touches.ite | exact Part.Sub.trans (by decide) hS | intro _ | split | dsimp only)

theorem touches_censusAge  {S : List Part} (hS : Part.Sub [.plx] S) : Touches (censusAge ) S := by
  unfold censusAge
  try dsimp only
  repeat' (with_reducible first | apply touches_Act_modMem | apply touches_Act_censusLeave | apply Touches.seq | apply Touches.get | apply Touches.when | apply Touches.each | exact Part.Sub.trans (by decide) hS | intro _ | dsimp only)

/-! ## Signal -/

theorem touches_Act_engineOut {p f dest src ts : Nat} {bus : Bool} {data : List Byte} {S : List Part} (hS : Part.Sub [.sw] S) : Touches (Act.engineOut p f dest src ts bus data) S := by
  unfold Act.engineOut
  try dsimp only
  repeat' (with_reducible first | apply touches_Act_modBuf | apply touches_Act_setFidNo | apply Touches.seq | apply Touches.get | exact Part.Sub.trans (by decide) hS | intro _ | dsimp only)

theorem touches_Act_sgwEvent {p i : Nat} {S : List Part} (hS : Part.Sub [.regs, .evtNo, .upsets, .irqs] S) : Touches (Act.sgwEvent p i) S := by
  unfold Act.sgwEvent
  try dsimp only
  repeat' (with_reducible first | apply touches_Act_eventIrq | exact Part.Sub.trans (by decide) hS | intro _ | dsimp only)

theorem touches_Act_sgwCount {p i : Nat} {S : List Part} (hS : Part.Sub [.regs, .evtNo, .upsets, .irqs] S) : Touches (Act.sgwCount p i) S := by
  unfold Act.sgwCount
  try dsimp only
  repeat' (with_reducible first | apply touches_Act_count | exact Part.Sub.trans (by decide) hS | intro _ | dsimp only)

theorem touches_Act_trigger {p i : Nat} {S : List Part} (hS : Part.Sub [.gw] S) : Touches (Act.trigger p i) S := by
  unfold Act.trigger
  try dsimp only
  repeat' (with_reducible first | apply touches_Act_modPdu | apply Touches.get | apply Touches.when | exact Part.Sub.trans (by decide) hS | intro _ | dsimp only)

theorem touches_Act_sigWrite {p : Nat} {l : List (Nat × Nat)} {ts : Nat} {S : List Part} (hS : Part.Sub [.gw] S) : Touches (Act.sigWrite p l ts) S := by
  unfold Act.sigWrite
  try dsimp only
  repeat' (with_reducible first | apply touches_Act_setSig | apply touches_Act_trigger | apply Touches.seq | apply Touches.get | apply Touches.each | exact Part.Sub.trans (by decide) hS | intro _ | dsimp only)

theorem touches_Act_extract {p first n : Nat} {mux : Bool} {b : List Byte} {ts : Nat} {S : List Part} (hS : Part.Sub [.regs, .evtNo, .upsets, .irqs, .gw] S) : Touches (Act.extract p first n mux b ts) S := by
  unfold Act.extract
  try dsimp only
  repeat' (with_reducible first | apply touches_Act_countBy | apply touches_Act_sigWrite | apply Touches.all_cons | apply Touches.all_nil | apply Touches.get | apply Touches.ite | apply Touches.all_map | exact Part.Sub.trans (by decide) hS | intro _ | split | dsimp only)

theorem touches_signalSweep {p : Nat} {S : List Part} (hS : Part.Sub [.gw] S) : Touches (signalSweep p) S := by
  unfold signalSweep
  try dsimp only
  repeat' (with_reducible first | apply touches_Act_setSig | apply Touches.get | apply Touches.each | exact Part.Sub.trans (by decide) hS | intro _ | dsimp only)

theorem touches_sigCmd {ag : Agent} {p : Nat} {v : Word} {k : Code → Act} {S : List Part} (hS : Part.Sub [.regs, .evtNo, .upsets, .gw] S) (hk_k : ∀ x0, Touches (k x0) S) : Touches (sigCmd ag p v k) S := by
  unfold sigCmd
  try dsimp only
  repeat' (with_reducible first | exact hk_k _ | apply touches_Act_badValue | apply touches_Act_store | apply touches_Act_sigWrite | apply Touches.setReg | apply Touches.all_cons | apply Touches.all_nil | apply Touches.seq | apply Touches.get | apply Touches.ite | exact Part.Sub.trans (by decide) hS | intro _ | split | dsimp only)

theorem touches_Act_sendTunnel {p t : Nat} {S : List Part} (hS : Part.Sub [.regs, .evtNo, .upsets, .irqs, .sw, .gw] S) : Touches (Act.sendTunnel p t) S := by
  unfold Act.sendTunnel
  try dsimp only
  repeat' (with_reducible first | apply touches_Act_setTun | apply touches_Act_countBy | apply touches_Act_engineOut | apply Touches.all_cons | apply Touches.all_nil | apply Touches.get | apply Touches.when | exact Part.Sub.trans (by decide) hS | intro _ | dsimp only)

theorem touches_tunnelSend {p t : Nat} {S : List Part} (hS : Part.Sub [.regs, .evtNo, .upsets, .irqs, .sw, .gw] S) : Touches (tunnelSend p t) S := by
  unfold tunnelSend
  try dsimp only
  repeat' (with_reducible first | apply touches_Act_sendTunnel | apply Touches.get | apply Touches.when | exact Part.Sub.trans (by decide) hS | intro _ | dsimp only)

theorem touches_Act_tunnelAdd {p t busId ts : Nat} {b : List Byte} {S : List Part} (hS : Part.Sub [.regs, .evtNo, .upsets, .irqs, .sw, .gw] S) : Touches (Act.tunnelAdd p t busId ts b) S := by
  unfold Act.tunnelAdd
  try dsimp only
  repeat' (with_reducible first | apply touches_Act_modTun | apply touches_Act_sgwCount | apply touches_Act_sendTunnel | apply Touches.all_cons | apply Touches.all_nil | apply Touches.get | apply Touches.when | apply Touches.ite | apply Touches.all_map | exact Part.Sub.trans (by decide) hS | intro _ | split | dsimp only)

theorem touches_Act_pduOut {p i : Nat} {data : List Byte} {S : List Part} (hS : Part.Sub [.regs, .evtNo, .upsets, .irqs, .sw, .gw] S) : Touches (Act.pduOut p i data) S := by
  unfold Act.pduOut
  try dsimp only
  repeat' (with_reducible first | apply touches_Act_engineOut | apply touches_Act_tunnelAdd | apply Touches.get | apply Touches.ite | exact Part.Sub.trans (by decide) hS | intro _ | split | dsimp only)

theorem touches_Act_compose {p i late : Nat} {fault : Bool} {S : List Part} (hS : Part.Sub [.regs, .evtNo, .upsets, .irqs, .sw, .gw, .mon, .sec, .freeCount] S) : Touches (Act.compose p i late fault) S := by
  unfold Act.compose
  try dsimp only
  repeat' (with_reducible first | apply touches_Act_modPdu | apply touches_Act_offerMon | apply touches_Act_sealPdu | apply touches_Act_sgwEvent | apply touches_Act_sgwCount | apply touches_Act_pduOut | apply Touches.all_cons | apply Touches.all_nil | apply Touches.seq | apply Touches.get | apply Touches.when | apply Touches.opt | apply Touches.skip | apply Touches.ite | exact Part.Sub.trans (by decide) hS | intro _ | split | dsimp only)

theorem touches_pduCadence {p i : Nat} {fault : Bool} {S : List Part} (hS : Part.Sub [.regs, .evtNo, .upsets, .irqs, .sw, .gw, .mon, .sec, .freeCount] S) : Touches (pduCadence p i fault) S := by
  unfold pduCadence
  try dsimp only
  repeat' (with_reducible first | apply touches_Act_modPdu | apply touches_Act_offerMon | apply touches_Act_compose | apply Touches.all_cons | apply Touches.all_nil | apply Touches.get | apply Touches.when | apply Touches.opt | exact Part.Sub.trans (by decide) hS | intro _ | dsimp only)

theorem touches_pduChangeCompose {p i : Nat} {fault : Bool} {S : List Part} (hS : Part.Sub [.regs, .evtNo, .upsets, .irqs, .sw, .gw, .mon, .sec, .freeCount] S) : Touches (pduChangeCompose p i fault) S := by
  unfold pduChangeCompose
  try dsimp only
  repeat' (with_reducible first | apply touches_Act_modPdu | apply touches_Act_compose | apply Touches.seq | apply Touches.get | apply Touches.when | apply Touches.opt | exact Part.Sub.trans (by decide) hS | intro _ | dsimp only)

theorem touches_Act_cadencesFrom {p : Nat} {S : List Part} (hS : Part.Sub [.gw] S) : Touches (Act.cadencesFrom p) S := by
  unfold Act.cadencesFrom
  try dsimp only
  repeat' (with_reducible first | apply touches_Act_setCad | apply Touches.get | exact Part.Sub.trans (by decide) hS | intro _ | dsimp only)

theorem touches_Act_cadencesSettle {p : Nat} {S : List Part} (hS : Part.Sub [.gw] S) : Touches (Act.cadencesSettle p) S := by
  unfold Act.cadencesSettle
  try dsimp only
  repeat' (with_reducible first | apply touches_Act_setPdu | apply touches_Act_setCad | apply Touches.seq | apply Touches.get | apply Touches.when | apply Touches.each | exact Part.Sub.trans (by decide) hS | intro _ | dsimp only)

/-! ## Lin -/

theorem touches_Act_linCount {p c i : Nat} {S : List Part} (hS : Part.Sub [.regs, .evtNo, .upsets, .irqs] S) : Touches (Act.linCount p c i) S := by
  unfold Act.linCount
  try dsimp only
  repeat' (with_reducible first | apply touches_Act_count | exact Part.Sub.trans (by decide) hS | intro _ | dsimp only)

theorem touches_Act_linError {p c id kind : Nat} {S : List Part} (hS : Part.Sub [.regs, .evtNo, .upsets, .irqs] S) : Touches (Act.linError p c id kind) S := by
  unfold Act.linError
  try dsimp only
  repeat' (with_reducible first | apply touches_Act_event | apply touches_Act_linCount | apply Touches.setReg | apply Touches.all_cons | apply Touches.all_nil | apply Touches.ite | exact Part.Sub.trans (by decide) hS | intro _ | split | dsimp only)

theorem touches_Act_linOut {p c id : Nat} {enh : Bool} {data : List Byte} {S : List Part} (hS : Part.Sub [.out] S) : Touches (Act.linOut p c id enh data) S := by
  unfold Act.linOut
  try dsimp only
  repeat' (with_reducible first | apply touches_Act_emit | apply Touches.get | apply Touches.ite | exact Part.Sub.trans (by decide) hS | intro _ | split | dsimp only)

theorem touches_Act_linHeader {p c id late : Nat} {good : Bool} {S : List Part} (hS : Part.Sub [.regs, .evtNo, .upsets, .irqs, .nets, .mon] S) : Touches (Act.linHeader p c id late good) S := by
  unfold Act.linHeader
  try dsimp only
  repeat' (with_reducible first | apply touches_Act_modLin | apply touches_Act_offerMon | apply touches_Act_linCount | apply touches_Act_linError | apply Touches.seq | apply Touches.ite | exact Part.Sub.trans (by decide) hS | intro _ | split | dsimp only)

theorem touches_Act_linSend {p c id : Nat} {enh : Bool} {data : List Byte} {good : Bool} {S : List Part} (hS : Part.Sub [.regs, .evtNo, .upsets, .irqs, .out] S) : Touches (Act.linSend p c id enh data good) S := by
  unfold Act.linSend
  try dsimp only
  repeat' (with_reducible first | apply touches_Act_linCount | apply touches_Act_linError | apply touches_Act_linOut | apply Touches.seq | apply Touches.ite | exact Part.Sub.trans (by decide) hS | intro _ | split | dsimp only)

theorem touches_Act_linSlotEntry {p c : Nat} {w : Word} {rb late : Nat} {S : List Part} (hS : Part.Sub [.regs, .evtNo, .upsets, .irqs, .nets, .mon, .out] S) : Touches (Act.linSlotEntry p c w rb late) S := by
  unfold Act.linSlotEntry
  try dsimp only
  repeat' (with_reducible first | apply touches_Act_modLin | apply touches_Act_setPub | apply touches_Act_linOut | apply touches_Act_linHeader | apply touches_Act_linSend | apply Touches.seq | apply Touches.get | apply Touches.when | apply Touches.skip | apply Touches.ite | exact Part.Sub.trans (by decide) hS | intro _ | split | dsimp only)

theorem touches_linSlot {p c readBack late : Nat} {overrun : Bool} {S : List Part} (hS : Part.Sub [.regs, .evtNo, .upsets, .irqs, .nets, .mon, .out] S) : Touches (linSlot p c readBack late overrun) S := by
  unfold linSlot
  try dsimp only
  repeat' (with_reducible first | apply touches_Act_modLin | apply touches_Act_event | apply touches_Act_linCount | apply touches_Act_linHeader | apply touches_Act_linSend | apply touches_Act_linSlotEntry | apply Touches.all_cons | apply Touches.all_nil | apply Touches.seq | apply Touches.get | apply Touches.when | apply Touches.ite | exact Part.Sub.trans (by decide) hS | intro _ | split | dsimp only)

theorem touches_linResponse {p c fault : Nat} {raw : List Byte} {ago : Nat} {S : List Part} (hS : Part.Sub [.regs, .evtNo, .upsets, .irqs, .sw, .nets, .mon] S) : Touches (linResponse p c fault raw ago) S := by
  unfold linResponse
  try dsimp only
  repeat' (with_reducible first | apply touches_Act_modLin | apply touches_Act_event | apply touches_Act_offerMon | apply touches_Act_busOffer | apply touches_Act_linCount | apply touches_Act_linError | apply Touches.all_cons | apply Touches.all_nil | apply Touches.seq | apply Touches.get | apply Touches.when | apply Touches.opt | apply Touches.skip | apply Touches.ite | exact Part.Sub.trans (by decide) hS | intro _ | split | dsimp only)

theorem touches_linBusFault {p c : Nat} {stuck : Bool} {S : List Part} (hS : Part.Sub [.regs, .evtNo, .upsets, .irqs, .nets] S) : Touches (linBusFault p c stuck) S := by
  unfold linBusFault
  try dsimp only
  repeat' (with_reducible first | apply touches_Act_modLin | apply touches_Act_event | apply touches_Act_linCount | apply Touches.all_cons | apply Touches.all_nil | apply Touches.get | apply Touches.when | exact Part.Sub.trans (by decide) hS | intro _ | dsimp only)

theorem touches_Act_linBuffer {p c id : Nat} {data : List Byte} {S : List Part} (hS : Part.Sub [.nets] S) : Touches (Act.linBuffer p c id data) S := by
  unfold Act.linBuffer
  try dsimp only
  repeat' (with_reducible first | apply touches_Act_setPub | exact Part.Sub.trans (by decide) hS | intro _ | dsimp only)

theorem touches_linPublish {p c : Nat} {S : List Part} (hS : Part.Sub [.regs, .evtNo, .upsets, .irqs, .sw, .nets, .mon, .io] S) : Touches (linPublish p c) S := by
  unfold linPublish
  try dsimp only
  repeat' (with_reducible first | apply touches_Act_take | apply touches_Act_linCount | apply touches_Act_linBuffer | apply Touches.get | apply Touches.ite | exact Part.Sub.trans (by decide) hS | intro _ | split | dsimp only)

theorem touches_linSwitch {p c t : Nat} {S : List Part} (hS : Part.Sub [.nets] S) : Touches (linSwitch p c t) S := by
  unfold linSwitch
  try dsimp only
  repeat' (with_reducible first | apply touches_Act_modLin | exact Part.Sub.trans (by decide) hS | intro _ | dsimp only)

theorem touches_linStop {p c : Nat} {S : List Part} (hS : Part.Sub [.nets] S) : Touches (linStop p c) S := by
  unfold linStop
  try dsimp only
  repeat' (with_reducible first | apply touches_Act_modLin | exact Part.Sub.trans (by decide) hS | intro _ | dsimp only)

theorem touches_linGotosleep {p c : Nat} {S : List Part} (hS : Part.Sub [.nets] S) : Touches (linGotosleep p c) S := by
  unfold linGotosleep
  try dsimp only
  repeat' (with_reducible first | apply touches_Act_modLin | exact Part.Sub.trans (by decide) hS | intro _ | dsimp only)

theorem touches_linCmd {p c : Nat} {v : Word} {k : Code → Act} {S : List Part} (hS : Part.Sub [.regs, .upsets, .nets] S) (hk_k : ∀ x0, Touches (k x0) S) : Touches (linCmd p c v k) S := by
  unfold linCmd
  try dsimp only
  repeat' (with_reducible first | exact hk_k _ | apply touches_linSwitch | apply touches_linStop | apply touches_linGotosleep | apply Touches.setReg | apply Touches.all_cons | apply Touches.all_nil | apply Touches.get | apply Touches.when | apply Touches.ite | exact Part.Sub.trans (by decide) hS | intro _ | split | dsimp only)

theorem touches_schedCmd {ag : Agent} {p c : Nat} {v : Word} {k : Code → Act} {S : List Part} (hS : Part.Sub [.regs, .tbls, .evtNo, .upsets] S) (hk_k : ∀ x0, Touches (k x0) S) : Touches (schedCmd ag p c v k) S := by
  unfold schedCmd
  try dsimp only
  repeat' (with_reducible first | exact hk_k _ | apply touches_Act_setFld | apply touches_Act_badValue | apply touches_Act_store | apply Touches.setReg | apply Touches.setTbl | apply Touches.all_cons | apply Touches.all_nil | apply Touches.seq | apply Touches.get | apply Touches.ite | exact Part.Sub.trans (by decide) hS | intro _ | split | dsimp only)

theorem touches_pubCmd {ag : Agent} {p c : Nat} {v : Word} {k : Code → Act} {S : List Part} (hS : Part.Sub [.regs, .evtNo, .upsets, .irqs, .nets] S) (hk_k : ∀ x0, Touches (k x0) S) : Touches (pubCmd ag p c v k) S := by
  unfold pubCmd
  try dsimp only
  repeat' (with_reducible first | exact hk_k _ | apply touches_Act_badValue | apply touches_Act_store | apply touches_Act_linCount | apply touches_Act_linBuffer | apply Touches.setReg | apply Touches.all_cons | apply Touches.all_nil | apply Touches.seq | apply Touches.get | apply Touches.ite | exact Part.Sub.trans (by decide) hS | intro _ | split | dsimp only)

theorem touches_Act_linEnable {p c : Nat} {S : List Part} (hS : Part.Sub [.nets] S) : Touches (Act.linEnable p c) S := by
  unfold Act.linEnable
  try dsimp only
  repeat' (with_reducible first | apply touches_Act_modLin | apply Touches.get | apply Touches.ite | exact Part.Sub.trans (by decide) hS | intro _ | split | dsimp only)

theorem touches_Act_linOff {p c : Nat} {S : List Part} (hS : Part.Sub [.nets] S) : Touches (Act.linOff p c) S := by
  unfold Act.linOff
  try dsimp only
  repeat' (with_reducible first | apply touches_Act_modLin | exact Part.Sub.trans (by decide) hS | intro _ | dsimp only)

theorem touches_Act_linClockLost {p c : Nat} {S : List Part} (hS : Part.Sub [.regs, .evtNo, .upsets, .irqs, .sw, .nets] S) : Touches (Act.linClockLost p c) S := by
  unfold Act.linClockLost
  try dsimp only
  repeat' (with_reducible first | apply touches_Act_setBuf | apply touches_Act_modLin | apply touches_Act_event | apply touches_Act_countBy | apply Touches.all_cons | apply Touches.all_nil | apply Touches.get | apply Touches.ite | exact Part.Sub.trans (by decide) hS | intro _ | split | dsimp only)

/-! ## Egress -/

theorem touches_Act_ethDiscards {p f : Nat} {z0 : Nat} {S : List Part} (hS : Part.Sub [.regs, .evtNo, .upsets, .irqs, .sw] S) : Touches (Act.ethDiscards p f z0) S := by
  induction z0 with
  | zero =>
    unfold Act.ethDiscards
    exact Touches.skip
  | succ z0 ih =>
    unfold Act.ethDiscards
    try dsimp only
    repeat' (with_reducible first | exact ih | apply touches_Act_modQueue | apply touches_Act_setFlds | apply touches_Act_event | apply touches_Act_count | apply touches_Act_checkShared | apply touches_Act_ethCount | apply Touches.all_cons | apply Touches.all_nil | apply Touches.get | apply Touches.opt | apply Touches.skip | apply Touches.ite | exact Part.Sub.trans (by decide) hS | intro _ | split | dsimp only)

theorem touches_Act_ethSelect {p f : Nat} {S : List Part} (hS : Part.Sub [.regs, .evtNo, .upsets, .irqs, .sw, .mon, .io] S) : Touches (Act.ethSelect p f) S := by
  unfold Act.ethSelect
  try dsimp only
  repeat' (with_reducible first | apply touches_Act_modEth | apply touches_Act_shape | apply touches_Act_schedule | apply touches_Act_depart | apply touches_Act_ethDiscards | apply Touches.all_cons | apply Touches.all_nil | apply Touches.get | apply Touches.skip | apply Touches.ite | exact Part.Sub.trans (by decide) hS | intro _ | split | dsimp only)

theorem touches_Act_d2dSelect {p j : Nat} {S : List Part} (hS : Part.Sub [.regs, .evtNo, .upsets, .irqs, .sw, .mon, .io] S) : Touches (Act.d2dSelect p j) S := by
  unfold Act.d2dSelect
  try dsimp only
  repeat' (with_reducible first | apply touches_Act_modLink | apply touches_Act_creditWait | apply touches_Act_schedule | apply touches_Act_depart | apply Touches.seq | apply Touches.get | apply Touches.each | apply Touches.skip | apply Touches.ite | exact Part.Sub.trans (by decide) hS | intro _ | split | dsimp only)

theorem touches_egressSelect {p f : Nat} {S : List Part} (hS : Part.Sub [.regs, .evtNo, .upsets, .irqs, .sw, .nets, .mon, .io] S) : Touches (egressSelect p f) S := by
  unfold egressSelect
  try dsimp only
  repeat' (with_reducible first | apply touches_Act_canSelect | apply touches_Act_ethSelect | apply touches_Act_d2dSelect | apply Touches.skip | apply Touches.ite | exact Part.Sub.trans (by decide) hS | intro _ | split | dsimp only)

theorem touches_facetDownFlush {p f : Nat} {S : List Part} (hS : Part.Sub [.regs, .evtNo, .upsets, .irqs, .sw] S) : Touches (facetDownFlush p f) S := by
  unfold facetDownFlush
  try dsimp only
  repeat' (with_reducible first | apply touches_Act_flushOut | apply touches_Act_flushEnd | apply Touches.seq | apply Touches.get | apply Touches.when | exact Part.Sub.trans (by decide) hS | intro _ | dsimp only)

/-! ## Ezsor -/

theorem touches_Act_ezTagOk {m : EzMsg} {k : Bool → Act} {S : List Part} (hS : Part.Sub [.regs, .evtNo, .upsets, .irqs, .sec, .freeCount] S) (hk_k : ∀ x0, Touches (k x0) S) : Touches (Act.ezTagOk m k) S := by
  unfold Act.ezTagOk
  try dsimp only
  repeat' (with_reducible first | exact hk_k _ | apply touches_Act_useKey | apply Touches.get | apply Touches.ite | exact Part.Sub.trans (by decide) hS | intro _ | split | dsimp only)

theorem touches_Act_plxCount {i : Nat} {S : List Part} (hS : Part.Sub [.regs, .evtNo, .upsets, .irqs] S) : Touches (Act.plxCount i) S := by
  unfold Act.plxCount
  try dsimp only
  repeat' (with_reducible first | apply touches_Act_count | exact Part.Sub.trans (by decide) hS | intro _ | dsimp only)

theorem touches_Act_ezAuthFail {m : EzMsg} {S : List Part} (hS : Part.Sub [.regs, .evtNo, .upsets, .irqs] S) : Touches (Act.ezAuthFail m) S := by
  unfold Act.ezAuthFail
  try dsimp only
  repeat' (with_reducible first | apply touches_Act_plxEvent | apply touches_Act_plxCount | apply Touches.seq | exact Part.Sub.trans (by decide) hS | intro _ | dsimp only)

theorem touches_Act_ezReplay {m : EzMsg} {S : List Part} (hS : Part.Sub [.regs, .evtNo, .upsets, .irqs] S) : Touches (Act.ezReplay m) S := by
  unfold Act.ezReplay
  try dsimp only
  repeat' (with_reducible first | apply touches_Act_plxEvent | apply touches_Act_plxCount | apply Touches.seq | exact Part.Sub.trans (by decide) hS | intro _ | dsimp only)

theorem touches_Act_ezFreshness {m : EzMsg} {k : Bool → Act} {S : List Part} (hS : Part.Sub [.regs, .evtNo, .upsets, .irqs, .plx] S) (hk_k : ∀ x0, Touches (k x0) S) : Touches (Act.ezFreshness m k) S := by
  unfold Act.ezFreshness
  try dsimp only
  repeat' (with_reducible first | exact hk_k _ | apply touches_Act_modMem | apply touches_Act_plxCount | apply touches_Act_ezReplay | apply Touches.seq | apply Touches.get | apply Touches.ite | exact Part.Sub.trans (by decide) hS | intro _ | split | dsimp only)

theorem touches_Act_ezPurge  {z0 : Nat} {S : List Part} (hS : Part.Sub [.regs, .evtNo, .upsets, .irqs, .plx] S) : Touches (Act.ezPurge z0) S := by
  induction z0 with
  | zero =>
    unfold Act.ezPurge
    exact Touches.skip
  | succ z0 ih =>
    unfold Act.ezPurge
    try dsimp only
    repeat' (with_reducible first | exact ih | apply touches_Act_plxCount | apply Touches.upd_of hS | apply Touches.all_cons | apply Touches.all_nil | apply Touches.get | apply Touches.skip | apply Touches.ite | exact Part.Sub.trans (by decide) hS | intro _ | split | dsimp only)
    all_goals (intro s p hp; cases p <;> first | rfl | exact absurd (by decide) hp)

theorem touches_Act_ezTake {p : EzMsg → Bool} {k : EzMsg → Act} {S : List Part} (hS : Part.Sub [.regs, .evtNo, .upsets, .irqs, .plx] S) (hk_k : ∀ x0, Touches (k x0) S) : Touches (Act.ezTake p k) S := by
  unfold Act.ezTake
  try dsimp only
  repeat' (with_reducible first | exact hk_k _ | apply touches_Act_ezPurge | apply Touches.upd_of hS | apply Touches.seq | apply Touches.get | apply Touches.opt | exact Part.Sub.trans (by decide) hS | intro _ | dsimp only)
  all_goals (intro s p hp; cases p <;> first | rfl | exact absurd (by decide) hp)

theorem touches_Act_ezMember {ty : Nat} {p : EzMsg → Bool} {past : Bool} {own : EzMsg → Act} {dup : State → EzMsg → Bool} {k : EzMsg → Bool → Act} {S : List Part} (hS : Part.Sub [.regs, .evtNo, .upsets, .irqs, .sec, .plx, .freeCount] S) (hk_own : ∀ x0, Touches (own x0) S) (hk_k : ∀ x0 x1, Touches (k x0 x1) S) : Touches (Act.ezMember ty p past own dup k) S := by
  unfold Act.ezMember
  try dsimp only
  repeat' (with_reducible first | exact hk_own _ | exact hk_k _ _ | apply touches_Act_plxEvent | apply touches_Act_ezTagOk | apply touches_Act_plxCount | apply touches_Act_ezAuthFail | apply touches_Act_ezReplay | apply touches_Act_ezFreshness | apply touches_Act_ezTake | apply Touches.get | apply Touches.skip | apply Touches.ite | exact Part.Sub.trans (by decide) hS | intro _ | split | dsimp only)

theorem touches_Act_ezTagged {b : List Byte} {k : List Byte → Act} {S : List Part} (hS : Part.Sub [.regs, .evtNo, .upsets, .irqs, .sec, .freeCount] S) (hk_k : ∀ x0, Touches (k x0) S) : Touches (Act.ezTagged b k) S := by
  unfold Act.ezTagged
  try dsimp only
  repeat' (with_reducible first | exact hk_k _ | apply touches_Act_useKey | apply Touches.get | apply Touches.skip | apply Touches.ite | exact Part.Sub.trans (by decide) hS | intro _ | split | dsimp only)

theorem touches_Act_ezMake {ty hops dst : Nat} {body : List Byte} {k : List Byte → Act} {S : List Part} (hS : Part.Sub [.regs, .evtNo, .upsets, .irqs, .sec, .plx, .freeCount] S) (hk_k : ∀ x0, Touches (k x0) S) : Touches (Act.ezMake ty hops dst body k) S := by
  unfold Act.ezMake
  try dsimp only
  repeat' (with_reducible first | exact hk_k _ | apply touches_Act_ezTagged | apply Touches.upd_of hS | apply Touches.seq | apply Touches.get | apply Touches.when | apply Touches.skip | apply Touches.ite | exact Part.Sub.trans (by decide) hS | intro _ | split | dsimp only)
  all_goals (intro s p hp; cases p <;> first | rfl | exact absurd (by decide) hp)

theorem touches_Act_ezPost {gf da : Nat} {b : List Byte} {S : List Part} (hS : Part.Sub [.sw] S) : Touches (Act.ezPost gf da b) S := by
  unfold Act.ezPost
  try dsimp only
  repeat' (with_reducible first | apply touches_Act_engineOut | apply Touches.get | apply Touches.when | exact Part.Sub.trans (by decide) hS | intro _ | dsimp only)

theorem touches_Act_ezRelayed {m : EzMsg} {k : List Byte → Act} {S : List Part} (hS : Part.Sub [.regs, .evtNo, .upsets, .irqs, .sec, .freeCount] S) (hk_k : ∀ x0, Touches (k x0) S) : Touches (Act.ezRelayed m k) S := by
  unfold Act.ezRelayed
  try dsimp only
  repeat' (with_reducible first | exact hk_k _ | apply touches_Act_plxCount | apply touches_Act_ezTagged | apply Touches.seq | apply Touches.ite | exact Part.Sub.trans (by decide) hS | intro _ | split | dsimp only)

theorem touches_Act_linkSend {p f ty : Nat} {body : List Byte} {S : List Part} (hS : Part.Sub [.out] S) : Touches (Act.linkSend p f ty body) S := by
  unfold Act.linkSend
  try dsimp only
  repeat' (with_reducible first | apply touches_Act_emit | apply Touches.get | apply Touches.ite | exact Part.Sub.trans (by decide) hS | intro _ | split | dsimp only)

theorem touches_helloSend {p f : Nat} {S : List Part} (hS : Part.Sub [.sw, .out] S) : Touches (helloSend p f) S := by
  unfold helloSend
  try dsimp only
  repeat' (with_reducible first | apply touches_Act_modEth | apply touches_Act_linkSend | apply Touches.seq | apply Touches.get | apply Touches.when | exact Part.Sub.trans (by decide) hS | intro _ | dsimp only)

theorem touches_helloReceive {p f : Nat} {S : List Part} (hS : Part.Sub [.regs, .evtNo, .upsets, .irqs, .sw, .plx] S) : Touches (helloReceive p f) S := by
  unfold helloReceive
  try dsimp only
  repeat' (with_reducible first | apply touches_Act_modEth | apply touches_Act_rawIs | apply touches_Act_ezTake | apply Touches.seq | apply Touches.get | apply Touches.when | exact Part.Sub.trans (by decide) hS | intro _ | dsimp only)

theorem touches_helloLoss {p f : Nat} {S : List Part} (hS : Part.Sub [.regs, .evtNo, .upsets, .irqs, .sw] S) : Touches (helloLoss p f) S := by
  unfold helloLoss
  try dsimp only
  repeat' (with_reducible first | apply touches_Act_setEth | apply touches_Act_rawIs | apply Touches.seq | apply Touches.get | apply Touches.when | exact Part.Sub.trans (by decide) hS | intro _ | dsimp only)

theorem touches_creditSend {p f : Nat} {S : List Part} (hS : Part.Sub [.sw, .out] S) : Touches (creditSend p f) S := by
  unfold creditSend
  try dsimp only
  repeat' (with_reducible first | apply touches_Act_modEth | apply touches_Act_linkSend | apply Touches.seq | apply Touches.get | apply Touches.when | apply Touches.all_map | exact Part.Sub.trans (by decide) hS | intro _ | dsimp only)

theorem touches_creditReceive {p f : Nat} {S : List Part} (hS : Part.Sub [.regs, .evtNo, .upsets, .irqs, .sw, .plx] S) : Touches (creditReceive p f) S := by
  unfold creditReceive
  try dsimp only
  repeat' (with_reducible first | apply touches_Act_modEth | apply touches_Act_ezTake | apply Touches.get | apply Touches.when | apply Touches.all_map | exact Part.Sub.trans (by decide) hS | intro _ | dsimp only)

theorem touches_Act_bootSend {f ty : Nat} {body : List Byte} {S : List Part} (hS : Part.Sub [.sw, .out] S) : Touches (Act.bootSend f ty body) S := by
  unfold Act.bootSend
  try dsimp only
  repeat' (with_reducible first | apply touches_Act_modEth | apply touches_Act_linkSend | apply Touches.seq | apply Touches.get | apply Touches.when | exact Part.Sub.trans (by decide) hS | intro _ | dsimp only)

/-! ## Admit -/

theorem touches_Act_wakeEvent {i : Nat} {S : List Part} (hS : Part.Sub [.regs, .evtNo, .upsets, .irqs] S) : Touches (Act.wakeEvent i) S := by
  unfold Act.wakeEvent
  try dsimp only
  repeat' (with_reducible first | apply touches_Act_eventIrq | exact Part.Sub.trans (by decide) hS | intro _ | dsimp only)

theorem touches_Act_wakeCount {i : Nat} {S : List Part} (hS : Part.Sub [.regs, .evtNo, .upsets, .irqs] S) : Touches (Act.wakeCount i) S := by
  unfold Act.wakeCount
  try dsimp only
  repeat' (with_reducible first | apply touches_Act_count | exact Part.Sub.trans (by decide) hS | intro _ | dsimp only)

theorem touches_Act_updIo {f : Machine → Machine} {S : List Part} (hS : Part.Sub [.io] S) : Touches (Act.updIo f) S := by
  unfold Act.updIo
  try dsimp only
  repeat' (with_reducible first | apply Touches.upd_of hS | exact Part.Sub.trans (by decide) hS | intro _ | dsimp only)
  all_goals (intro s p hp; cases p <;> first | rfl | exact absurd (by decide) hp)

theorem touches_Act_admEnter {t claim : Nat} {S : List Part} (hS : Part.Sub [.io] S) : Touches (Act.admEnter t claim) S := by
  unfold Act.admEnter
  try dsimp only
  repeat' (with_reducible first | apply touches_Act_updIo | apply Touches.upd_of hS | apply Touches.get | exact Part.Sub.trans (by decide) hS | intro _ | dsimp only)
  all_goals (intro s p hp; cases p <;> first | rfl | exact absurd (by decide) hp)

theorem touches_Act_admGrant {chan : Option Nat} {claim : Nat} {S : List Part} (hS : Part.Sub [.regs, .evtNo, .upsets, .irqs, .io] S) : Touches (Act.admGrant chan claim) S := by
  unfold Act.admGrant
  try dsimp only
  repeat' (with_reducible first | apply touches_Act_modChan | apply touches_Act_wakeEvent | apply touches_Act_wakeCount | apply touches_Act_updIo | apply touches_Act_admEnter | apply Touches.upd_of hS | apply Touches.all_cons | apply Touches.all_nil | apply Touches.seq | apply Touches.get | apply Touches.when | exact Part.Sub.trans (by decide) hS | intro _ | split | dsimp only)
  all_goals (intro s p hp; cases p <;> first | rfl | exact absurd (by decide) hp)

theorem touches_Act_admDecide  {z0 : Nat} {S : List Part} (hS : Part.Sub [.regs, .evtNo, .upsets, .irqs, .io] S) : Touches (Act.admDecide z0) S := by
  induction z0 with
  | zero =>
    unfold Act.admDecide
    exact Touches.skip
  | succ z0 ih =>
    unfold Act.admDecide
    try dsimp only
    repeat' (with_reducible first | exact ih | apply touches_Act_updIo | apply touches_Act_admGrant | apply Touches.upd_of hS | apply Touches.all_cons | apply Touches.all_nil | apply Touches.get | apply Touches.skip | apply Touches.ite | exact Part.Sub.trans (by decide) hS | intro _ | split | dsimp only)
    all_goals (intro s p hp; cases p <;> first | rfl | exact absurd (by decide) hp)

theorem touches_Act_admSettle  {S : List Part} (hS : Part.Sub [.regs, .evtNo, .upsets, .irqs, .io] S) : Touches (Act.admSettle ) S := by
  unfold Act.admSettle
  try dsimp only
  repeat' (with_reducible first | apply touches_Act_admDecide | apply Touches.get | exact Part.Sub.trans (by decide) hS | intro _ | dsimp only)

theorem touches_Act_admRequest {chan : Option Nat} {claim : Nat} {S : List Part} (hS : Part.Sub [.regs, .evtNo, .upsets, .irqs, .io] S) : Touches (Act.admRequest chan claim) S := by
  unfold Act.admRequest
  try dsimp only
  repeat' (with_reducible first | apply touches_Act_modChan | apply touches_Act_wakeCount | apply touches_Act_updIo | apply touches_Act_admGrant | apply Touches.upd_of hS | apply Touches.all_cons | apply Touches.all_nil | apply Touches.get | apply Touches.opt | apply Touches.ite | exact Part.Sub.trans (by decide) hS | intro _ | split | dsimp only)
  all_goals (intro s p hp; cases p <;> first | rfl | exact absurd (by decide) hp)

theorem touches_Act_admWithdraw {chan : Option Nat} {S : List Part} (hS : Part.Sub [.regs, .evtNo, .upsets, .irqs, .io] S) : Touches (Act.admWithdraw chan) S := by
  unfold Act.admWithdraw
  try dsimp only
  repeat' (with_reducible first | apply touches_Act_updIo | apply touches_Act_admSettle | apply Touches.upd_of hS | apply Touches.seq | apply Touches.get | apply Touches.when | exact Part.Sub.trans (by decide) hS | intro _ | dsimp only)
  all_goals (intro s p hp; cases p <;> first | rfl | exact absurd (by decide) hp)

theorem touches_admissionWindowExpire  {S : List Part} (hS : Part.Sub [.regs, .evtNo, .upsets, .irqs, .io] S) : Touches (admissionWindowExpire ) S := by
  unfold admissionWindowExpire
  try dsimp only
  repeat' (with_reducible first | apply touches_Act_updIo | apply touches_Act_admSettle | apply Touches.upd_of hS | apply Touches.seq | apply Touches.get | exact Part.Sub.trans (by decide) hS | intro _ | dsimp only)
  all_goals (intro s p hp; cases p <;> first | rfl | exact absurd (by decide) hp)

theorem touches_admSlow  {S : List Part} (hS : Part.Sub [.regs, .evtNo, .upsets, .irqs, .io] S) : Touches (admSlow ) S := by
  unfold admSlow
  try dsimp only
  repeat' (with_reducible first | apply touches_Act_wakeEvent | apply touches_Act_updIo | apply Touches.upd_of hS | apply Touches.seq | apply Touches.get | apply Touches.each | apply Touches.ite | apply Touches.all_map | exact Part.Sub.trans (by decide) hS | intro _ | split | dsimp only)
  all_goals (intro s p hp; cases p <;> first | rfl | exact absurd (by decide) hp)

end Sys2Proof.Machine
end

