-- ==== Sys2Proof/Laws/Frame/Group4.lean ====
section
/-! SUPPORT. Which parts of the state the operations of Channel, Pair, Xcvr, Wake may change. -/

set_option linter.unusedTactic false
set_option linter.unreachableTactic false

namespace Sys2Proof.Machine

/-! ## Channel -/

theorem touches_Act_chEvent {d c i : Nat} {S : List Part} (hS : Part.Sub [.regs, .evtNo, .upsets, .irqs] S) : Touches (Act.chEvent d c i) S := by
  unfold Act.chEvent
  try dsimp only
  repeat' (with_reducible first | apply touches_Act_eventIrq | exact Part.Sub.trans (by decide) hS | intro _ | dsimp only)

theorem touches_Act_chCount {d c i : Nat} {S : List Part} (hS : Part.Sub [.regs, .evtNo, .upsets, .irqs] S) : Touches (Act.chCount d c i) S := by
  unfold Act.chCount
  try dsimp only
  repeat' (with_reducible first | apply touches_Act_count | exact Part.Sub.trans (by decide) hS | intro _ | dsimp only)

theorem touches_Act_chOff {d c : Nat} {st : ChSt} {S : List Part} (hS : Part.Sub [.regs, .evtNo, .upsets, .irqs, .io] S) : Touches (Act.chOff d c st) S := by
  unfold Act.chOff
  try dsimp only
  repeat' (with_reducible first | apply touches_Act_modChan | apply touches_Act_admWithdraw | apply Touches.seq | apply Touches.ite | exact Part.Sub.trans (by decide) hS | intro _ | split | dsimp only)

theorem touches_Act_chAsk {d c : Nat} {guarded : Bool} {S : List Part} (hS : Part.Sub [.io] S) : Touches (Act.chAsk d c guarded) S := by
  unfold Act.chAsk
  try dsimp only
  repeat' (with_reducible first | apply touches_Act_modChan | exact Part.Sub.trans (by decide) hS | intro _ | dsimp only)

theorem touches_Act_chApply {d c : Nat} {guarded : Bool} {S : List Part} (hS : Part.Sub [.io] S) : Touches (Act.chApply d c guarded) S := by
  unfold Act.chApply
  try dsimp only
  repeat' (with_reducible first | apply touches_Act_chAsk | apply Touches.get | apply Touches.when | exact Part.Sub.trans (by decide) hS | intro _ | dsimp only)

theorem touches_Act_chSettle {d c : Nat} {guarded : Bool} {S : List Part} (hS : Part.Sub [.regs, .evtNo, .upsets, .irqs, .io] S) : Touches (Act.chSettle d c guarded) S := by
  unfold Act.chSettle
  try dsimp only
  repeat' (with_reducible first | apply touches_Act_modChan | apply touches_Act_chOff | apply touches_Act_chApply | apply Touches.seq | apply Touches.get | apply Touches.when | apply Touches.ite | exact Part.Sub.trans (by decide) hS | intro _ | split | dsimp only)

theorem touches_Act_chSettleAll {d : Nat} {guarded : Bool} {S : List Part} (hS : Part.Sub [.regs, .evtNo, .upsets, .irqs, .io] S) : Touches (Act.chSettleAll d guarded) S := by
  unfold Act.chSettleAll
  try dsimp only
  repeat' (with_reducible first | apply touches_Act_chSettle | apply Touches.each | exact Part.Sub.trans (by decide) hS | intro _ | dsimp only)

theorem touches_Act_chStop {d c : Nat} {S : List Part} (hS : Part.Sub [.regs, .evtNo, .upsets, .irqs, .io] S) : Touches (Act.chStop d c) S := by
  unfold Act.chStop
  try dsimp only
  repeat' (with_reducible first | apply touches_Act_modChan | apply touches_Act_chOff | apply Touches.seq | apply Touches.get | apply Touches.skip | exact Part.Sub.trans (by decide) hS | intro _ | split | dsimp only)

theorem touches_Act_chFollow {d c : Nat} {guarded : Bool} {S : List Part} (hS : Part.Sub [.regs, .evtNo, .upsets, .irqs, .io] S) : Touches (Act.chFollow d c guarded) S := by
  unfold Act.chFollow
  try dsimp only
  repeat' (with_reducible first | apply touches_Act_chApply | apply touches_Act_chStop | apply Touches.get | apply Touches.ite | exact Part.Sub.trans (by decide) hS | intro _ | split | dsimp only)

theorem touches_Act_chLatch {d c n : Nat} {S : List Part} (hS : Part.Sub [.regs, .evtNo, .upsets, .irqs, .io] S) : Touches (Act.chLatch d c n) S := by
  unfold Act.chLatch
  try dsimp only
  repeat' (with_reducible first | apply touches_Act_modChan | apply touches_Act_updIo | apply touches_Act_chOff | apply Touches.upd_of hS | apply Touches.all_cons | apply Touches.all_nil | apply Touches.get | apply Touches.when | exact Part.Sub.trans (by decide) hS | intro _ | dsimp only)
  all_goals (intro s p hp; cases p <;> first | rfl | exact absurd (by decide) hp)

theorem touches_Act_chShort {d c : Nat} {S : List Part} (hS : Part.Sub [.regs, .evtNo, .upsets, .irqs, .io] S) : Touches (Act.chShort d c) S := by
  unfold Act.chShort
  try dsimp only
  repeat' (with_reducible first | apply touches_Act_modChan | apply touches_Act_chEvent | apply touches_Act_chCount | apply touches_Act_chOff | apply touches_Act_chLatch | apply Touches.all_cons | apply Touches.all_nil | apply Touches.seq | apply Touches.get | apply Touches.ite | exact Part.Sub.trans (by decide) hS | intro _ | split | dsimp only)

theorem touches_chnCmd {ag : Agent} {d c : Nat} {v : Word} {k : Code → Act} {S : List Part} (hS : Part.Sub [.regs, .evtNo, .upsets, .irqs, .io] S) (hk_k : ∀ x0, Touches (k x0) S) : Touches (chnCmd ag d c v k) S := by
  unfold chnCmd
  try dsimp only
  repeat' (with_reducible first | exact hk_k _ | apply touches_Act_modChan | apply touches_Act_badValue | apply touches_Act_store | apply touches_Act_chCount | apply touches_Act_chApply | apply touches_Act_chStop | apply Touches.all_cons | apply Touches.all_nil | apply Touches.seq | apply Touches.get | apply Touches.ite | exact Part.Sub.trans (by decide) hS | intro _ | split | dsimp only)

theorem touches_Act_setLevel {d c : Nat} {n : Int} {S : List Part} (hS : Part.Sub [.io] S) : Touches (Act.setLevel d c n) S := by
  unfold Act.setLevel
  try dsimp only
  repeat' (with_reducible first | apply touches_Act_modChan | apply Touches.get | exact Part.Sub.trans (by decide) hS | intro _ | dsimp only)

theorem touches_Act_chUnlatch {d c : Nat} {l : List Nat} {S : List Part} (hS : Part.Sub [.io] S) : Touches (Act.chUnlatch d c l) S := by
  unfold Act.chUnlatch
  try dsimp only
  repeat' (with_reducible first | apply touches_Act_modChan | apply touches_Act_chApply | apply Touches.seq | apply Touches.get | apply Touches.when | apply Touches.ite | exact Part.Sub.trans (by decide) hS | intro _ | split | dsimp only)

theorem touches_chnCtrl {ag : Agent} {d c : Nat} {v : Word} {k : Code → Act} {S : List Part} (hS : Part.Sub [.regs, .evtNo, .upsets, .io] S) (hk_k : ∀ x0, Touches (k x0) S) : Touches (chnCtrl ag d c v k) S := by
  unfold chnCtrl
  try dsimp only
  repeat' (with_reducible first | exact hk_k _ | apply touches_Act_modChan | apply touches_Act_setFld | apply touches_Act_badValue | apply touches_Act_chUnlatch | apply Touches.setReg | apply Touches.all_cons | apply Touches.all_nil | apply Touches.get | apply Touches.when | apply Touches.ite | exact Part.Sub.trans (by decide) hS | intro _ | split | dsimp only)

theorem touches_Act_setCfgB {d c : Nat} {v : Word} {S : List Part} (hS : Part.Sub [.regs, .upsets, .io] S) : Touches (Act.setCfgB d c v) S := by
  unfold Act.setCfgB
  try dsimp only
  repeat' (with_reducible first | apply touches_Act_modChan | apply touches_Act_store | apply Touches.seq | apply Touches.get | apply Touches.when | exact Part.Sub.trans (by decide) hS | intro _ | dsimp only)

theorem touches_admissionRequest {d c : Nat} {S : List Part} (hS : Part.Sub [.regs, .evtNo, .upsets, .irqs, .io] S) : Touches (admissionRequest d c) S := by
  unfold admissionRequest
  try dsimp only
  repeat' (with_reducible first | apply touches_Act_admRequest | apply Touches.get | apply Touches.when | exact Part.Sub.trans (by decide) hS | intro _ | dsimp only)

theorem touches_Act_chBegin {d c : Nat} {S : List Part} (hS : Part.Sub [.regs, .evtNo, .upsets, .irqs, .io] S) : Touches (Act.chBegin d c) S := by
  unfold Act.chBegin
  try dsimp only
  repeat' (with_reducible first | apply touches_Act_modChan | apply touches_Act_chCount | apply Touches.seq | apply Touches.get | apply Touches.ite | exact Part.Sub.trans (by decide) hS | intro _ | split | dsimp only)

theorem touches_channelGrant {d c : Nat} {S : List Part} (hS : Part.Sub [.regs, .evtNo, .upsets, .irqs, .io] S) : Touches (channelGrant d c) S := by
  unfold channelGrant
  try dsimp only
  repeat' (with_reducible first | apply touches_Act_modChan | apply touches_Act_chBegin | apply Touches.get | apply Touches.skip | apply Touches.ite | exact Part.Sub.trans (by decide) hS | intro _ | split | dsimp only)

theorem touches_rampDone {d c : Nat} {S : List Part} (hS : Part.Sub [.io] S) : Touches (rampDone d c) S := by
  unfold rampDone
  try dsimp only
  repeat' (with_reducible first | apply touches_Act_modChan | apply Touches.get | apply Touches.when | exact Part.Sub.trans (by decide) hS | intro _ | dsimp only)

theorem touches_shortDetect {d c : Nat} {S : List Part} (hS : Part.Sub [.regs, .evtNo, .upsets, .irqs, .io] S) : Touches (shortDetect d c) S := by
  unfold shortDetect
  try dsimp only
  repeat' (with_reducible first | apply touches_Act_chShort | apply Touches.get | apply Touches.when | exact Part.Sub.trans (by decide) hS | intro _ | dsimp only)

theorem touches_limitHeld {d c : Nat} {S : List Part} (hS : Part.Sub [.regs, .evtNo, .upsets, .irqs, .io] S) : Touches (limitHeld d c) S := by
  unfold limitHeld
  try dsimp only
  repeat' (with_reducible first | apply touches_Act_chShort | apply Touches.get | apply Touches.when | apply Touches.ite | exact Part.Sub.trans (by decide) hS | intro _ | split | dsimp only)

theorem touches_retryBackoffEnd {d c : Nat} {S : List Part} (hS : Part.Sub [.regs, .evtNo, .upsets, .irqs, .io] S) : Touches (retryBackoffEnd d c) S := by
  unfold retryBackoffEnd
  try dsimp only
  repeat' (with_reducible first | apply touches_Act_modChan | apply touches_Act_chCount | apply touches_Act_chAsk | apply Touches.all_cons | apply Touches.all_nil | apply Touches.get | apply Touches.when | exact Part.Sub.trans (by decide) hS | intro _ | dsimp only)

theorem touches_retryCountReset {d c : Nat} {S : List Part} (hS : Part.Sub [.io] S) : Touches (retryCountReset d c) S := by
  unfold retryCountReset
  try dsimp only
  repeat' (with_reducible first | apply touches_Act_modChan | apply Touches.get | apply Touches.when | exact Part.Sub.trans (by decide) hS | intro _ | dsimp only)

theorem touches_Act_chTrip {d c : Nat} {guarded : Bool} {i n : Nat} {S : List Part} (hS : Part.Sub [.regs, .evtNo, .upsets, .irqs, .io] S) : Touches (Act.chTrip d c guarded i n) S := by
  unfold Act.chTrip
  try dsimp only
  repeat' (with_reducible first | apply touches_Act_modChan | apply touches_Act_chEvent | apply touches_Act_chCount | apply touches_Act_chOff | apply Touches.all_cons | apply Touches.all_nil | exact Part.Sub.trans (by decide) hS | intro _ | dsimp only)

theorem touches_dtTrip {d c : Nat} {S : List Part} (hS : Part.Sub [.regs, .evtNo, .upsets, .irqs, .io] S) : Touches (dtTrip d c) S := by
  unfold dtTrip
  try dsimp only
  repeat' (with_reducible first | apply touches_Act_chTrip | apply Touches.get | apply Touches.when | exact Part.Sub.trans (by decide) hS | intro _ | dsimp only)

theorem touches_guardWarn {d c : Nat} {S : List Part} (hS : Part.Sub [.regs, .evtNo, .upsets, .irqs] S) : Touches (guardWarn d c) S := by
  unfold guardWarn
  try dsimp only
  repeat' (with_reducible first | apply touches_Act_chEvent | apply Touches.get | apply Touches.when | exact Part.Sub.trans (by decide) hS | intro _ | dsimp only)

theorem touches_guardTrip {d c : Nat} {S : List Part} (hS : Part.Sub [.regs, .evtNo, .upsets, .irqs, .io] S) : Touches (guardTrip d c) S := by
  unfold guardTrip
  try dsimp only
  repeat' (with_reducible first | apply touches_Act_chTrip | apply Touches.get | apply Touches.when | exact Part.Sub.trans (by decide) hS | intro _ | dsimp only)

theorem touches_coolEnd {d c : Nat} {tj : Int} {S : List Part} (hS : Part.Sub [.io] S) : Touches (coolEnd d c tj) S := by
  unfold coolEnd
  try dsimp only
  repeat' (with_reducible first | apply touches_Act_modChan | apply touches_Act_chAsk | apply Touches.seq | apply Touches.get | apply Touches.when | apply Touches.ite | exact Part.Sub.trans (by decide) hS | intro _ | split | dsimp only)

theorem touches_guardEnd {d : Nat} {ch : Option Nat} {S : List Part} (hS : Part.Sub [.regs, .evtNo, .upsets, .io] S) : Touches (guardEnd d ch) S := by
  unfold guardEnd
  try dsimp only
  repeat' (with_reducible first | apply touches_Act_modChan | apply touches_Act_modDrv | apply touches_Act_event | apply Touches.seq | apply Touches.get | apply Touches.when | exact Part.Sub.trans (by decide) hS | intro _ | split | dsimp only)

theorem touches_Act_chHard {d c : Nat} {S : List Part} (hS : Part.Sub [.regs, .evtNo, .upsets, .irqs, .io] S) : Touches (Act.chHard d c) S := by
  unfold Act.chHard
  try dsimp only
  repeat' (with_reducible first | apply touches_Act_chEvent | apply touches_Act_chCount | apply touches_Act_chLatch | apply Touches.all_cons | apply Touches.all_nil | exact Part.Sub.trans (by decide) hS | intro _ | dsimp only)

theorem touches_hardTrip {d c : Nat} {S : List Part} (hS : Part.Sub [.regs, .evtNo, .upsets, .irqs, .io] S) : Touches (hardTrip d c) S := by
  unfold hardTrip
  try dsimp only
  repeat' (with_reducible first | apply touches_Act_chHard | apply Touches.get | apply Touches.when | exact Part.Sub.trans (by decide) hS | intro _ | dsimp only)

theorem touches_logicHot {d : Nat} {S : List Part} (hS : Part.Sub [.regs, .evtNo, .upsets, .irqs, .io] S) : Touches (logicHot d) S := by
  unfold logicHot
  try dsimp only
  repeat' (with_reducible first | apply touches_Act_event | apply touches_Act_chHard | apply Touches.seq | apply Touches.get | apply Touches.when | apply Touches.each | exact Part.Sub.trans (by decide) hS | intro _ | dsimp only)

theorem touches_Act_caseRead {d : Nat} {a b : Int} {S : List Part} (hS : Part.Sub [.io] S) : Touches (Act.caseRead d a b) S := by
  unfold Act.caseRead
  try dsimp only
  repeat' (with_reducible first | apply touches_Act_modDrv | exact Part.Sub.trans (by decide) hS | intro _ | dsimp only)

theorem touches_caseFault {d : Nat} {a b : Int} {S : List Part} (hS : Part.Sub [.regs, .evtNo, .upsets, .io] S) : Touches (caseFault d a b) S := by
  unfold caseFault
  try dsimp only
  repeat' (with_reducible first | apply touches_Act_modDrv | apply touches_Act_event | apply touches_Act_caseRead | apply Touches.all_cons | apply Touches.all_nil | apply Touches.get | apply Touches.when | exact Part.Sub.trans (by decide) hS | intro _ | dsimp only)

theorem touches_caseFaultEnd {d : Nat} {a b : Int} {S : List Part} (hS : Part.Sub [.io] S) : Touches (caseFaultEnd d a b) S := by
  unfold caseFaultEnd
  try dsimp only
  repeat' (with_reducible first | apply touches_Act_modDrv | apply touches_Act_caseRead | apply Touches.seq | apply Touches.get | apply Touches.when | exact Part.Sub.trans (by decide) hS | intro _ | dsimp only)

theorem touches_clampEventEnd {d c e : Nat} {S : List Part} (hS : Part.Sub [.regs, .evtNo, .upsets, .irqs, .mon, .io] S) : Touches (clampEventEnd d c e) S := by
  unfold clampEventEnd
  try dsimp only
  repeat' (with_reducible first | apply touches_Act_setFld | apply touches_Act_offerMon | apply touches_Act_chEvent | apply touches_Act_chCount | apply touches_Act_chLatch | apply touches_Act_setLevel | apply Touches.all_cons | apply Touches.all_nil | apply Touches.seq | apply Touches.get | apply Touches.when | exact Part.Sub.trans (by decide) hS | intro _ | dsimp only)

theorem touches_clampRefill {d : Nat} {S : List Part} (hS : Part.Sub [.io] S) : Touches (clampRefill d) S := by
  unfold clampRefill
  try dsimp only
  repeat' (with_reducible first | apply touches_Act_setLevel | apply Touches.get | apply Touches.when | apply Touches.each | exact Part.Sub.trans (by decide) hS | intro _ | dsimp only)

theorem touches_selftestEnd {d c : Nat} {pass : Bool} {S : List Part} (hS : Part.Sub [.regs, .evtNo, .upsets, .irqs, .io] S) : Touches (selftestEnd d c pass) S := by
  unfold selftestEnd
  try dsimp only
  repeat' (with_reducible first | apply touches_Act_modChan | apply touches_Act_chEvent | apply touches_Act_chOff | apply touches_Act_chApply | apply Touches.all_cons | apply Touches.all_nil | apply Touches.get | apply Touches.when | apply Touches.ite | exact Part.Sub.trans (by decide) hS | intro _ | split | dsimp only)

theorem touches_currentSample {d c : Nat} {i tj a b : Int} {lim : Bool} {S : List Part} (hS : Part.Sub [.io] S) : Touches (currentSample d c i tj a b lim) S := by
  unfold currentSample
  try dsimp only
  repeat' (with_reducible first | apply touches_Act_setChan | apply touches_Act_modDrv | apply touches_Act_caseRead | apply Touches.all_cons | apply Touches.all_nil | apply Touches.get | apply Touches.when | apply Touches.ite | exact Part.Sub.trans (by decide) hS | intro _ | split | dsimp only)

theorem touches_calDone {d c : Nat} {mean : Int} {vary : Bool} {S : List Part} (hS : Part.Sub [.regs, .evtNo, .upsets, .irqs, .io] S) : Touches (calDone d c mean vary) S := by
  unfold calDone
  try dsimp only
  repeat' (with_reducible first | apply touches_Act_modChan | apply touches_Act_setFld | apply touches_Act_setFlds | apply touches_Act_chEvent | apply Touches.all_cons | apply Touches.all_nil | apply Touches.get | apply Touches.when | apply Touches.ite | exact Part.Sub.trans (by decide) hS | intro _ | split | dsimp only)

theorem touches_openLoad {d c : Nat} {onset : Bool} {S : List Part} (hS : Part.Sub [.regs, .evtNo, .upsets, .irqs, .io] S) : Touches (openLoad d c onset) S := by
  unfold openLoad
  try dsimp only
  repeat' (with_reducible first | apply touches_Act_modChan | apply touches_Act_chEvent | apply touches_Act_chCount | apply Touches.all_cons | apply Touches.all_nil | apply Touches.get | apply Touches.when | apply Touches.ite | exact Part.Sub.trans (by decide) hS | intro _ | split | dsimp only)

theorem touches_diePowerEstimate {d : Nat} {S : List Part} (hS : Part.Sub [.regs, .evtNo, .upsets, .io] S) : Touches (diePowerEstimate d) S := by
  unfold diePowerEstimate
  try dsimp only
  repeat' (with_reducible first | apply touches_Act_setDrv | apply touches_Act_setFld | apply touches_Act_event | apply Touches.all_cons | apply Touches.all_nil | apply Touches.get | apply Touches.when | apply Touches.ite | exact Part.Sub.trans (by decide) hS | intro _ | split | dsimp only)

theorem touches_Act_inputTakes {d i : Nat} {v : Bool} {S : List Part} (hS : Part.Sub [.regs, .evtNo, .upsets, .irqs, .io] S) : Touches (Act.inputTakes d i v) S := by
  unfold Act.inputTakes
  try dsimp only
  repeat' (with_reducible first | apply touches_Act_modDrv | apply touches_Act_eventIrq | apply Touches.setReg | apply Touches.all_cons | apply Touches.all_nil | apply Touches.get | apply Touches.when | exact Part.Sub.trans (by decide) hS | intro _ | dsimp only)

theorem touches_Act_mapTakes {d j : Nat} {v : Bool} {S : List Part} (hS : Part.Sub [.regs, .evtNo, .upsets, .irqs, .io] S) : Touches (Act.mapTakes d j v) S := by
  unfold Act.mapTakes
  try dsimp only
  repeat' (with_reducible first | apply touches_Act_modDrv | apply touches_Act_chFollow | apply Touches.seq | apply Touches.get | apply Touches.when | apply Touches.all_map | exact Part.Sub.trans (by decide) hS | intro _ | dsimp only)

theorem touches_inputStateChange {d i mv : Nat} {entry : Option Nat} {S : List Part} (hS : Part.Sub [.regs, .evtNo, .upsets, .irqs, .io] S) : Touches (inputStateChange d i mv entry) S := by
  unfold inputStateChange
  try dsimp only
  repeat' (with_reducible first | apply touches_Act_inputTakes | apply touches_Act_mapTakes | apply Touches.get | apply Touches.when | apply Touches.opt | apply Touches.all_map | exact Part.Sub.trans (by decide) hS | intro _ | split | dsimp only)

theorem touches_wetFault {d i : Nat} {S : List Part} (hS : Part.Sub [.regs, .evtNo, .upsets] S) : Touches (wetFault d i) S := by
  unfold wetFault
  try dsimp only
  repeat' (with_reducible first | apply touches_Act_event | apply Touches.get | apply Touches.when | exact Part.Sub.trans (by decide) hS | intro _ | dsimp only)

theorem touches_measurementWrite {d item : Nat} {v : Int} {S : List Part} (hS : Part.Sub [.regs, .upsets, .gw, .mon] S) : Touches (measurementWrite d item v) S := by
  unfold measurementWrite
  try dsimp only
  repeat' (with_reducible first | apply touches_Act_setFld | apply touches_Act_offerMon | apply touches_Act_sigWrite | apply Touches.seq | apply Touches.get | apply Touches.when | apply Touches.opt | exact Part.Sub.trans (by decide) hS | intro _ | dsimp only)

theorem touches_Act_pairSettle  {S : List Part} (hS : Part.Sub [.regs, .evtNo, .upsets, .irqs, .io] S) : Touches (Act.pairSettle ) S := by
  unfold Act.pairSettle
  try dsimp only
  repeat' (with_reducible first | apply touches_Act_chSettleAll | apply Touches.get | apply Touches.each | exact Part.Sub.trans (by decide) hS | intro _ | dsimp only)

theorem touches_Act_dropOwner  {S : List Part} (hS : Part.Sub [.regs, .evtNo, .upsets, .irqs, .io] S) : Touches (Act.dropOwner ) S := by
  unfold Act.dropOwner
  try dsimp only
  repeat' (with_reducible first | apply touches_Act_eventIrq | apply touches_Act_updIo | apply touches_Act_pairSettle | apply Touches.upd_of hS | apply Touches.all_cons | apply Touches.all_nil | apply Touches.seq | apply Touches.get | apply Touches.when | exact Part.Sub.trans (by decide) hS | intro _ | dsimp only)
  all_goals (intro s p hp; cases p <;> first | rfl | exact absurd (by decide) hp)

/-! ## Pair -/

theorem touches_Act_updPair {f : Pair → Pair} {S : List Part} (hS : Part.Sub [.io] S) : Touches (Act.updPair f) S := by
  unfold Act.updPair
  try dsimp only
  repeat' (with_reducible first | apply touches_Act_updIo | apply Touches.upd_of hS | exact Part.Sub.trans (by decide) hS | intro _ | dsimp only)
  all_goals (intro s p hp; cases p <;> first | rfl | exact absurd (by decide) hp)

theorem touches_Act_pairEvent {i : Nat} {S : List Part} (hS : Part.Sub [.regs, .evtNo, .upsets, .irqs] S) : Touches (Act.pairEvent i) S := by
  unfold Act.pairEvent
  try dsimp only
  repeat' (with_reducible first | apply touches_Act_eventIrq | exact Part.Sub.trans (by decide) hS | intro _ | dsimp only)

theorem touches_Act_pairCount {i : Nat} {S : List Part} (hS : Part.Sub [.regs, .evtNo, .upsets, .irqs] S) : Touches (Act.pairCount i) S := by
  unfold Act.pairCount
  try dsimp only
  repeat' (with_reducible first | apply touches_Act_count | exact Part.Sub.trans (by decide) hS | intro _ | dsimp only)

theorem touches_Act_pairStart  {S : List Part} (hS : Part.Sub [.regs, .evtNo, .upsets, .irqs, .io] S) : Touches (Act.pairStart ) S := by
  unfold Act.pairStart
  try dsimp only
  repeat' (with_reducible first | apply touches_Act_pairSettle | apply touches_Act_updPair | apply Touches.upd_of hS | apply Touches.seq | apply Touches.get | apply Touches.when | exact Part.Sub.trans (by decide) hS | intro _ | dsimp only)
  all_goals (intro s p hp; cases p <;> first | rfl | exact absurd (by decide) hp)

theorem touches_Act_pairStop  {S : List Part} (hS : Part.Sub [.regs, .evtNo, .upsets, .irqs, .io] S) : Touches (Act.pairStop ) S := by
  unfold Act.pairStop
  try dsimp only
  repeat' (with_reducible first | apply touches_Act_admWithdraw | apply touches_Act_pairSettle | apply touches_Act_dropOwner | apply touches_Act_updPair | apply Touches.upd_of hS | apply Touches.all_cons | apply Touches.all_nil | exact Part.Sub.trans (by decide) hS | intro _ | dsimp only)
  all_goals (intro s p hp; cases p <;> first | rfl | exact absurd (by decide) hp)

theorem touches_Act_pairSend {gf : Nat} {body : List Byte} {S : List Part} (hS : Part.Sub [.regs, .evtNo, .upsets, .irqs, .sw, .sec, .plx, .freeCount] S) : Touches (Act.pairSend gf body) S := by
  unfold Act.pairSend
  try dsimp only
  repeat' (with_reducible first | apply touches_Act_ezMake | apply touches_Act_ezPost | apply Touches.get | apply Touches.when | apply Touches.opt | exact Part.Sub.trans (by decide) hS | intro _ | dsimp only)

theorem touches_Act_pairTell {body : List Byte} {S : List Part} (hS : Part.Sub [.regs, .evtNo, .upsets, .irqs, .sw, .sec, .plx, .freeCount] S) : Touches (Act.pairTell body) S := by
  unfold Act.pairTell
  try dsimp only
  repeat' (with_reducible first | apply touches_Act_pairSend | apply Touches.get | apply Touches.opt | exact Part.Sub.trans (by decide) hS | intro _ | dsimp only)

theorem touches_pairHeartbeatSend  {S : List Part} (hS : Part.Sub [.regs, .evtNo, .upsets, .irqs, .sw, .sec, .plx, .io, .freeCount] S) : Touches (pairHeartbeatSend ) S := by
  unfold pairHeartbeatSend
  try dsimp only
  repeat' (with_reducible first | apply touches_Act_updPair | apply touches_Act_pairSend | apply Touches.upd_of hS | apply Touches.seq | apply Touches.get | apply Touches.when | apply Touches.each | exact Part.Sub.trans (by decide) hS | intro _ | dsimp only)
  all_goals (intro s p hp; cases p <;> first | rfl | exact absurd (by decide) hp)

theorem touches_Act_pairMsg {p : EzMsg → Bool} {past : Bool} {k : EzMsg → Act} {S : List Part} (hS : Part.Sub [.regs, .evtNo, .upsets, .irqs, .sec, .plx, .freeCount] S) (hk_k : ∀ x0, Touches (k x0) S) : Touches (Act.pairMsg p past k) S := by
  unfold Act.pairMsg
  try dsimp only
  repeat' (with_reducible first | exact hk_k _ | apply touches_Act_ezTake | apply touches_Act_ezMember | apply Touches.get | apply Touches.when | apply Touches.skip | apply Touches.ite | exact Part.Sub.trans (by decide) hS | intro _ | split | dsimp only)

theorem touches_Act_pairTake {p : Nat → Bool} {past : Bool} {k : EzMsg → Act} {S : List Part} (hS : Part.Sub [.regs, .evtNo, .upsets, .irqs, .sec, .plx, .freeCount] S) (hk_k : ∀ x0, Touches (k x0) S) : Touches (Act.pairTake p past k) S := by
  unfold Act.pairTake
  try dsimp only
  repeat' (with_reducible first | exact hk_k _ | apply touches_Act_pairMsg | exact Part.Sub.trans (by decide) hS | intro _ | dsimp only)

theorem touches_pairHeartbeatReceive {past : Bool} {S : List Part} (hS : Part.Sub [.regs, .evtNo, .upsets, .irqs, .sec, .plx, .io, .freeCount] S) : Touches (pairHeartbeatReceive past) S := by
  unfold pairHeartbeatReceive
  try dsimp only
  repeat' (with_reducible first | apply touches_Act_updPair | apply touches_Act_pairEvent | apply touches_Act_pairTake | apply Touches.setReg | apply Touches.upd_of hS | apply Touches.seq | apply Touches.get | apply Touches.opt | apply Touches.skip | apply Touches.ite | exact Part.Sub.trans (by decide) hS | intro _ | split | dsimp only)
  all_goals (intro s p hp; cases p <;> first | rfl | exact absurd (by decide) hp)

theorem touches_Act_gainOwner  {S : List Part} (hS : Part.Sub [.regs, .evtNo, .upsets, .irqs, .io] S) : Touches (Act.gainOwner ) S := by
  unfold Act.gainOwner
  try dsimp only
  repeat' (with_reducible first | apply touches_Act_pairSettle | apply touches_Act_updPair | apply touches_Act_pairEvent | apply touches_Act_pairCount | apply Touches.upd_of hS | apply Touches.all_cons | apply Touches.all_nil | exact Part.Sub.trans (by decide) hS | intro _ | dsimp only)
  all_goals (intro s p hp; cases p <;> first | rfl | exact absurd (by decide) hp)

theorem touches_Act_seeLine {held : Bool} {S : List Part} (hS : Part.Sub [.io] S) : Touches (Act.seeLine held) S := by
  unfold Act.seeLine
  try dsimp only
  repeat' (with_reducible first | apply touches_Act_updPair | apply Touches.upd_of hS | exact Part.Sub.trans (by decide) hS | intro _ | dsimp only)
  all_goals (intro s p hp; cases p <;> first | rfl | exact absurd (by decide) hp)

theorem touches_Act_pairApply {count : Bool} {S : List Part} (hS : Part.Sub [.regs, .evtNo, .upsets, .irqs, .io] S) : Touches (Act.pairApply count) S := by
  unfold Act.pairApply
  try dsimp only
  repeat' (with_reducible first | apply touches_Act_updPair | apply touches_Act_pairEvent | apply touches_Act_pairCount | apply Touches.upd_of hS | apply Touches.all_cons | apply Touches.all_nil | apply Touches.seq | apply Touches.get | apply Touches.when | apply Touches.ite | exact Part.Sub.trans (by decide) hS | intro _ | split | dsimp only)
  all_goals (intro s p hp; cases p <;> first | rfl | exact absurd (by decide) hp)

theorem touches_pairLinkLoss {line : Bool} {S : List Part} (hS : Part.Sub [.regs, .evtNo, .upsets, .irqs, .io] S) : Touches (pairLinkLoss line) S := by
  unfold pairLinkLoss
  try dsimp only
  repeat' (with_reducible first | apply touches_Act_updPair | apply touches_Act_pairEvent | apply touches_Act_seeLine | apply touches_Act_pairApply | apply Touches.upd_of hS | apply Touches.all_cons | apply Touches.all_nil | apply Touches.get | apply Touches.when | exact Part.Sub.trans (by decide) hS | intro _ | dsimp only)
  all_goals (intro s p hp; cases p <;> first | rfl | exact absurd (by decide) hp)

theorem touches_pairDecide {line : Bool} {S : List Part} (hS : Part.Sub [.regs, .evtNo, .upsets, .irqs, .io] S) : Touches (pairDecide line) S := by
  unfold pairDecide
  try dsimp only
  repeat' (with_reducible first | apply touches_Act_seeLine | apply touches_Act_pairApply | apply Touches.seq | apply Touches.get | apply Touches.when | exact Part.Sub.trans (by decide) hS | intro _ | dsimp only)

theorem touches_pairJoin {line : Bool} {S : List Part} (hS : Part.Sub [.regs, .evtNo, .upsets, .irqs, .io] S) : Touches (pairJoin line) S := by
  unfold pairJoin
  try dsimp only
  repeat' (with_reducible first | apply touches_Act_dropOwner | apply touches_Act_updPair | apply touches_Act_pairEvent | apply touches_Act_seeLine | apply Touches.upd_of hS | apply Touches.all_cons | apply Touches.all_nil | apply Touches.seq | apply Touches.get | apply Touches.when | apply Touches.ite | exact Part.Sub.trans (by decide) hS | intro _ | split | dsimp only)
  all_goals (intro s p hp; cases p <;> first | rfl | exact absurd (by decide) hp)

theorem touches_claimWaitEnd {line : Bool} {S : List Part} (hS : Part.Sub [.io] S) : Touches (claimWaitEnd line) S := by
  unfold claimWaitEnd
  try dsimp only
  repeat' (with_reducible first | apply touches_Act_updPair | apply touches_Act_seeLine | apply Touches.upd_of hS | apply Touches.seq | apply Touches.get | apply Touches.when | apply Touches.skip | apply Touches.ite | exact Part.Sub.trans (by decide) hS | intro _ | split | dsimp only)
  all_goals (intro s p hp; cases p <;> first | rfl | exact absurd (by decide) hp)

theorem touches_claimProbe {line : Bool} {S : List Part} (hS : Part.Sub [.regs, .evtNo, .upsets, .irqs, .io] S) : Touches (claimProbe line) S := by
  unfold claimProbe
  try dsimp only
  repeat' (with_reducible first | apply touches_Act_updPair | apply touches_Act_pairEvent | apply touches_Act_pairCount | apply touches_Act_gainOwner | apply Touches.upd_of hS | apply Touches.all_cons | apply Touches.all_nil | apply Touches.seq | apply Touches.get | apply Touches.skip | apply Touches.ite | exact Part.Sub.trans (by decide) hS | intro _ | split | dsimp only)
  all_goals (intro s p hp; cases p <;> first | rfl | exact absurd (by decide) hp)

theorem touches_witnessSend  {S : List Part} (hS : Part.Sub [.regs, .evtNo, .upsets, .irqs, .sw, .io] S) : Touches (witnessSend ) S := by
  unfold witnessSend
  try dsimp only
  repeat' (with_reducible first | apply touches_Act_engineOut | apply touches_Act_updPair | apply touches_Act_pairCount | apply Touches.upd_of hS | apply Touches.all_cons | apply Touches.all_nil | apply Touches.get | apply Touches.when | exact Part.Sub.trans (by decide) hS | intro _ | dsimp only)
  all_goals (intro s p hp; cases p <;> first | rfl | exact absurd (by decide) hp)

theorem touches_witnessReceive {p c : Nat} {b : List Byte} {S : List Part} (hS : Part.Sub [.io] S) : Touches (witnessReceive p c b) S := by
  unfold witnessReceive
  try dsimp only
  repeat' (with_reducible first | apply touches_Act_updPair | apply Touches.upd_of hS | apply Touches.get | apply Touches.when | exact Part.Sub.trans (by decide) hS | intro _ | dsimp only)
  all_goals (intro s p hp; cases p <;> first | rfl | exact absurd (by decide) hp)

theorem touches_Act_handResult {n : Nat} {S : List Part} (hS : Part.Sub [.regs, .upsets] S) : Touches (Act.handResult n) S := by
  unfold Act.handResult
  try dsimp only
  repeat' (with_reducible first | apply Touches.setReg | exact Part.Sub.trans (by decide) hS | intro _ | dsimp only)

theorem touches_Act_sendGrant  {S : List Part} (hS : Part.Sub [.regs, .evtNo, .upsets, .irqs, .sw, .sec, .plx, .io, .freeCount] S) : Touches (Act.sendGrant ) S := by
  unfold Act.sendGrant
  try dsimp only
  repeat' (with_reducible first | apply touches_Act_updPair | apply touches_Act_pairTell | apply touches_Act_handResult | apply Touches.upd_of hS | apply Touches.all_cons | apply Touches.all_nil | apply Touches.get | exact Part.Sub.trans (by decide) hS | intro _ | dsimp only)
  all_goals (intro s p hp; cases p <;> first | rfl | exact absurd (by decide) hp)

theorem touches_pairCmd {ag : Agent} {v : Word} {k : Code → Act} {S : List Part} (hS : Part.Sub [.regs, .evtNo, .upsets, .irqs, .sw, .sec, .plx, .io, .freeCount] S) (hk_k : ∀ x0, Touches (k x0) S) : Touches (pairCmd ag v k) S := by
  unfold pairCmd
  try dsimp only
  repeat' (with_reducible first | exact hk_k _ | apply touches_Act_badValue | apply touches_Act_handResult | apply touches_Act_sendGrant | apply Touches.seq | apply Touches.get | apply Touches.ite | exact Part.Sub.trans (by decide) hS | intro _ | split | dsimp only)

theorem touches_autoHandover  {S : List Part} (hS : Part.Sub [.regs, .evtNo, .upsets, .irqs, .sw, .sec, .plx, .io, .freeCount] S) : Touches (autoHandover ) S := by
  unfold autoHandover
  try dsimp only
  repeat' (with_reducible first | apply touches_Act_updPair | apply touches_Act_sendGrant | apply Touches.upd_of hS | apply Touches.get | apply Touches.when | apply Touches.ite | exact Part.Sub.trans (by decide) hS | intro _ | split | dsimp only)
  all_goals (intro s p hp; cases p <;> first | rfl | exact absurd (by decide) hp)

theorem touches_Act_declineGrant {theirs : Nat} {S : List Part} (hS : Part.Sub [.regs, .evtNo, .upsets, .irqs, .sw, .sec, .plx, .io, .freeCount] S) : Touches (Act.declineGrant theirs) S := by
  unfold Act.declineGrant
  try dsimp only
  repeat' (with_reducible first | apply touches_Act_admWithdraw | apply touches_Act_updPair | apply touches_Act_pairTell | apply Touches.upd_of hS | apply Touches.all_cons | apply Touches.all_nil | exact Part.Sub.trans (by decide) hS | intro _ | dsimp only)
  all_goals (intro s p hp; cases p <;> first | rfl | exact absurd (by decide) hp)

theorem touches_Act_answerGrant  {S : List Part} (hS : Part.Sub [.regs, .evtNo, .upsets, .irqs, .sw, .sec, .plx, .io, .freeCount] S) : Touches (Act.answerGrant ) S := by
  unfold Act.answerGrant
  try dsimp only
  repeat' (with_reducible first | apply touches_Act_updPair | apply touches_Act_pairTell | apply touches_Act_declineGrant | apply Touches.upd_of hS | apply Touches.seq | apply Touches.get | apply Touches.when | apply Touches.skip | apply Touches.ite | exact Part.Sub.trans (by decide) hS | intro _ | split | dsimp only)
  all_goals (intro s p hp; cases p <;> first | rfl | exact absurd (by decide) hp)

theorem touches_grantReceive {past : Bool} {S : List Part} (hS : Part.Sub [.regs, .evtNo, .upsets, .irqs, .sw, .sec, .plx, .io, .freeCount] S) : Touches (grantReceive past) S := by
  unfold grantReceive
  try dsimp only
  repeat' (with_reducible first | apply touches_Act_admRequest | apply touches_Act_updPair | apply touches_Act_pairTell | apply touches_Act_pairTake | apply touches_Act_answerGrant | apply Touches.upd_of hS | apply Touches.seq | apply Touches.get | apply Touches.when | apply Touches.ite | apply Touches.all_map | exact Part.Sub.trans (by decide) hS | intro _ | split | dsimp only)
  all_goals (intro s p hp; cases p <;> first | rfl | exact absurd (by decide) hp)

theorem touches_handoverSwitch  {S : List Part} (hS : Part.Sub [.regs, .evtNo, .upsets, .irqs, .io] S) : Touches (handoverSwitch ) S := by
  unfold handoverSwitch
  try dsimp only
  repeat' (with_reducible first | apply touches_Act_modChan | apply touches_Act_chBegin | apply touches_Act_pairSettle | apply touches_Act_updPair | apply touches_Act_pairEvent | apply Touches.upd_of hS | apply Touches.all_cons | apply Touches.all_nil | apply Touches.seq | apply Touches.get | apply Touches.when | apply Touches.each | apply Touches.skip | exact Part.Sub.trans (by decide) hS | intro _ | split | dsimp only)
  all_goals (intro s p hp; cases p <;> first | rfl | exact absurd (by decide) hp)

theorem touches_Act_grantAnswers  {z0 : Nat} {S : List Part} (hS : Part.Sub [.regs, .evtNo, .upsets, .irqs, .sec, .plx, .io, .freeCount] S) : Touches (Act.grantAnswers z0) S := by
  induction z0 with
  | zero =>
    unfold Act.grantAnswers
    exact Touches.skip
  | succ z0 ih =>
    unfold Act.grantAnswers
    try dsimp only
    repeat' (with_reducible first | exact ih | apply touches_Act_updPair | apply touches_Act_pairTake | apply Touches.upd_of hS | apply Touches.seq | apply Touches.skip | exact Part.Sub.trans (by decide) hS | intro _ | split | dsimp only)
    all_goals (intro s p hp; cases p <;> first | rfl | exact absurd (by decide) hp)

theorem touches_handoverProbe {line : Bool} {S : List Part} (hS : Part.Sub [.regs, .evtNo, .upsets, .irqs, .sec, .plx, .io, .freeCount] S) : Touches (handoverProbe line) S := by
  unfold handoverProbe
  try dsimp only
  repeat' (with_reducible first | apply touches_Act_dropOwner | apply touches_Act_updPair | apply touches_Act_pairEvent | apply touches_Act_pairCount | apply touches_Act_handResult | apply touches_Act_grantAnswers | apply Touches.upd_of hS | apply Touches.all_cons | apply Touches.all_nil | apply Touches.seq | apply Touches.get | apply Touches.when | apply Touches.skip | apply Touches.ite | exact Part.Sub.trans (by decide) hS | intro _ | split | dsimp only)
  all_goals (intro s p hp; cases p <;> first | rfl | exact absurd (by decide) hp)

theorem touches_Act_pathSilent {p i path : Nat} {S : List Part} (hS : Part.Sub [.regs, .evtNo, .upsets, .irqs] S) : Touches (Act.pathSilent p i path) S := by
  unfold Act.pathSilent
  try dsimp only
  repeat' (with_reducible first | apply touches_Act_eventIrq | apply Touches.setReg | apply Touches.seq | exact Part.Sub.trans (by decide) hS | intro _ | dsimp only)

theorem touches_pathSilentSweep {p : Nat} {S : List Part} (hS : Part.Sub [.regs, .evtNo, .upsets, .irqs, .sw] S) : Touches (pathSilentSweep p) S := by
  unfold pathSilentSweep
  try dsimp only
  repeat' (with_reducible first | apply touches_Act_setRcv | apply touches_Act_pathSilent | apply Touches.all_cons | apply Touches.all_nil | apply Touches.get | apply Touches.when | apply Touches.each | apply Touches.ite | exact Part.Sub.trans (by decide) hS | intro _ | split | dsimp only)

theorem touches_Act_pairTblPut {p t i : Nat} {w : List Word} {S : List Part} (hS : Part.Sub [.tbls, .sw] S) : Touches (Act.pairTblPut p t i w) S := by
  unfold Act.pairTblPut
  try dsimp only
  repeat' (with_reducible first | apply touches_Act_setRcv | apply touches_Act_setTblWords | apply Touches.seq | apply Touches.when | apply Touches.ite | apply Touches.all_map | exact Part.Sub.trans (by decide) hS | intro _ | split | dsimp only)

theorem touches_pairTblCmd {ag : Agent} {p : Nat} {v : Word} {k : Code → Act} {S : List Part} (hS : Part.Sub [.regs, .tbls, .evtNo, .upsets, .sw] S) (hk_k : ∀ x0, Touches (k x0) S) : Touches (pairTblCmd ag p v k) S := by
  unfold pairTblCmd
  try dsimp only
  repeat' (with_reducible first | exact hk_k _ | apply touches_Act_badValue | apply touches_Act_store | apply touches_Act_pairTblPut | apply Touches.setReg | apply Touches.all_cons | apply Touches.all_nil | apply Touches.seq | apply Touches.get | apply Touches.each | apply Touches.ite | apply Touches.all_map | exact Part.Sub.trans (by decide) hS | intro _ | split | dsimp only)

/-! ## Xcvr -/

theorem touches_xcvrModeChange {d u : Nat} {S : List Part} (hS : Part.Sub [.nets] S) : Touches (xcvrModeChange d u) S := by
  unfold xcvrModeChange
  try dsimp only
  repeat' (with_reducible first | apply touches_Act_modXcvr | apply Touches.get | apply Touches.when | exact Part.Sub.trans (by decide) hS | intro _ | dsimp only)

theorem touches_Act_xcvrEvent {d i u : Nat} {S : List Part} (hS : Part.Sub [.regs, .evtNo, .upsets] S) : Touches (Act.xcvrEvent d i u) S := by
  unfold Act.xcvrEvent
  try dsimp only
  repeat' (with_reducible first | apply touches_Act_setFld | apply touches_Act_event | apply Touches.seq | exact Part.Sub.trans (by decide) hS | intro _ | dsimp only)

theorem touches_txdTimeout {d u : Nat} {recessive : Bool} {S : List Part} (hS : Part.Sub [.regs, .evtNo, .upsets, .nets] S) : Touches (txdTimeout d u recessive) S := by
  unfold txdTimeout
  try dsimp only
  repeat' (with_reducible first | apply touches_Act_modXcvr | apply touches_Act_xcvrEvent | apply Touches.seq | apply Touches.get | apply Touches.when | apply Touches.ite | exact Part.Sub.trans (by decide) hS | intro _ | split | dsimp only)

theorem touches_busDom {d u : Nat} {S : List Part} (hS : Part.Sub [.regs, .evtNo, .upsets] S) : Touches (busDom d u) S := by
  unfold busDom
  try dsimp only
  repeat' (with_reducible first | apply touches_Act_xcvrEvent | apply Touches.get | apply Touches.when | exact Part.Sub.trans (by decide) hS | intro _ | dsimp only)

theorem touches_xcvrThermal {d u : Nat} {S : List Part} (hS : Part.Sub [.regs, .evtNo, .upsets, .nets] S) : Touches (xcvrThermal d u) S := by
  unfold xcvrThermal
  try dsimp only
  repeat' (with_reducible first | apply touches_Act_modXcvr | apply touches_Act_xcvrEvent | apply Touches.seq | apply Touches.get | apply Touches.when | exact Part.Sub.trans (by decide) hS | intro _ | dsimp only)

theorem touches_xcvrThermalRelease {d u : Nat} {S : List Part} (hS : Part.Sub [.nets] S) : Touches (xcvrThermalRelease d u) S := by
  unfold xcvrThermalRelease
  try dsimp only
  repeat' (with_reducible first | apply touches_Act_modXcvr | exact Part.Sub.trans (by decide) hS | intro _ | dsimp only)

theorem touches_linSupHigh {d : Nat} {S : List Part} (hS : Part.Sub [.regs, .evtNo, .upsets, .nets] S) : Touches (linSupHigh d) S := by
  unfold linSupHigh
  try dsimp only
  repeat' (with_reducible first | apply touches_Act_setLinOver | apply touches_Act_event | apply Touches.seq | apply Touches.get | apply Touches.when | exact Part.Sub.trans (by decide) hS | intro _ | dsimp only)

theorem touches_linSupOk {d : Nat} {S : List Part} (hS : Part.Sub [.nets] S) : Touches (linSupOk d) S := by
  unfold linSupOk
  try dsimp only
  repeat' (with_reducible first | apply touches_Act_setLinOver | exact Part.Sub.trans (by decide) hS | intro _ | dsimp only)

/-! ## Wake -/

theorem touches_Act_pnFacetSleeps {k gf : Nat} {S : List Part} (hS : Part.Sub [.regs, .evtNo, .upsets, .irqs, .sw, .nets, .io] S) : Touches (Act.pnFacetSleeps k gf) S := by
  unfold Act.pnFacetSleeps
  try dsimp only
  repeat' (with_reducible first | apply touches_Act_updDoze | apply touches_Act_canSleep | apply touches_Act_linkDown | apply touches_linGotosleep | apply Touches.setReg | apply Touches.upd_of hS | apply Touches.all_cons | apply Touches.all_nil | apply Touches.get | apply Touches.when | apply Touches.ite | exact Part.Sub.trans (by decide) hS | intro _ | split | dsimp only)
  all_goals (intro s p hp; cases p <;> first | rfl | exact absurd (by decide) hp)

theorem touches_Act_pnEthOn {gf : Nat} {S : List Part} (hS : Part.Sub [.regs, .upsets, .io] S) : Touches (Act.pnEthOn gf) S := by
  unfold Act.pnEthOn
  try dsimp only
  repeat' (with_reducible first | apply touches_Act_updDoze | apply Touches.setReg | apply Touches.upd_of hS | apply Touches.seq | apply Touches.get | apply Touches.when | exact Part.Sub.trans (by decide) hS | intro _ | dsimp only)
  all_goals (intro s p hp; cases p <;> first | rfl | exact absurd (by decide) hp)

theorem touches_Act_pnLinRestart {gf : Nat} {S : List Part} (hS : Part.Sub [.io] S) : Touches (Act.pnLinRestart gf) S := by
  unfold Act.pnLinRestart
  try dsimp only
  repeat' (with_reducible first | apply touches_Act_updDoze | apply Touches.upd_of hS | apply Touches.get | exact Part.Sub.trans (by decide) hS | intro _ | dsimp only)
  all_goals (intro s p hp; cases p <;> first | rfl | exact absurd (by decide) hp)

theorem touches_Act_pnFacetWakes {gf : Nat} {pattern : Bool} {S : List Part} (hS : Part.Sub [.regs, .upsets, .nets, .io] S) : Touches (Act.pnFacetWakes gf pattern) S := by
  unfold Act.pnFacetWakes
  try dsimp only
  repeat' (with_reducible first | apply touches_Act_modLin | apply touches_Act_canWake | apply touches_Act_pnEthOn | apply touches_Act_pnLinRestart | apply Touches.seq | apply Touches.get | apply Touches.when | apply Touches.ite | exact Part.Sub.trans (by decide) hS | intro _ | split | dsimp only)

theorem touches_Act_drvInvalid {d src : Nat} {S : List Part} (hS : Part.Sub [.regs, .evtNo, .upsets, .io] S) : Touches (Act.drvInvalid d src) S := by
  unfold Act.drvInvalid
  try dsimp only
  repeat' (with_reducible first | apply touches_Act_modDrv | apply touches_Act_event | apply Touches.seq | apply Touches.get | apply Touches.when | apply Touches.ite | exact Part.Sub.trans (by decide) hS | intro _ | split | dsimp only)

theorem touches_Act_dropAwait {d src : Nat} {S : List Part} (hS : Part.Sub [.io] S) : Touches (Act.dropAwait d src) S := by
  unfold Act.dropAwait
  try dsimp only
  repeat' (with_reducible first | apply touches_Act_modDrv | exact Part.Sub.trans (by decide) hS | intro _ | dsimp only)

theorem touches_Act_judged {j : WakeJudge} {valid : Bool} {S : List Part} (hS : Part.Sub [.regs, .evtNo, .upsets, .irqs, .io] S) : Touches (Act.judged j valid) S := by
  unfold Act.judged
  try dsimp only
  repeat' (with_reducible first | apply touches_Act_setFld | apply touches_Act_updDoze | apply touches_Act_wakeEvent | apply touches_Act_wakeCount | apply touches_Act_drvInvalid | apply touches_Act_dropAwait | apply Touches.upd_of hS | apply Touches.all_cons | apply Touches.all_nil | apply Touches.seq | apply Touches.get | apply Touches.when | apply Touches.ite | exact Part.Sub.trans (by decide) hS | intro _ | split | dsimp only)
  all_goals (intro s p hp; cases p <;> first | rfl | exact absurd (by decide) hp)

theorem touches_Act_judgeSettle  {S : List Part} (hS : Part.Sub [.regs, .evtNo, .upsets, .irqs, .io] S) : Touches (Act.judgeSettle ) S := by
  unfold Act.judgeSettle
  try dsimp only
  repeat' (with_reducible first | apply touches_Act_judged | apply Touches.get | apply Touches.each | exact Part.Sub.trans (by decide) hS | intro _ | dsimp only)

theorem touches_Act_judgeOpen {pn : Option Nat} {d src : Nat} {S : List Part} (hS : Part.Sub [.regs, .evtNo, .upsets, .irqs, .io] S) : Touches (Act.judgeOpen pn d src) S := by
  unfold Act.judgeOpen
  try dsimp only
  repeat' (with_reducible first | apply touches_Act_updDoze | apply touches_Act_judgeSettle | apply Touches.upd_of hS | apply Touches.seq | apply Touches.get | exact Part.Sub.trans (by decide) hS | intro _ | dsimp only)
  all_goals (intro s p hp; cases p <;> first | rfl | exact absurd (by decide) hp)

theorem touches_Act_pnWakes {k : Nat} {c : Option PnCause} {S : List Part} (hS : Part.Sub [.regs, .evtNo, .upsets, .irqs, .nets, .io] S) : Touches (Act.pnWakes k c) S := by
  unfold Act.pnWakes
  try dsimp only
  repeat' (with_reducible first | apply touches_Act_modPnet | apply touches_Act_updDoze | apply touches_Act_wakeEvent | apply touches_Act_wakeCount | apply touches_Act_pnFacetWakes | apply touches_Act_judgeOpen | apply Touches.upd_of hS | apply Touches.all_cons | apply Touches.all_nil | apply Touches.get | apply Touches.when | apply Touches.each | apply Touches.skip | apply Touches.ite | exact Part.Sub.trans (by decide) hS | intro _ | split | dsimp only)
  all_goals (intro s p hp; cases p <;> first | rfl | exact absurd (by decide) hp)

theorem touches_pnWake {k : Nat} {S : List Part} (hS : Part.Sub [.regs, .evtNo, .upsets, .irqs, .nets, .io] S) : Touches (pnWake k) S := by
  unfold pnWake
  try dsimp only
  repeat' (with_reducible first | apply touches_Act_pnWakes | apply Touches.get | apply Touches.when | apply Touches.ite | exact Part.Sub.trans (by decide) hS | intro _ | split | dsimp only)

theorem touches_pnSleep {k : Nat} {S : List Part} (hS : Part.Sub [.regs, .evtNo, .upsets, .irqs, .sw, .nets, .io] S) : Touches (pnSleep k) S := by
  unfold pnSleep
  try dsimp only
  repeat' (with_reducible first | apply touches_Act_modPnet | apply touches_Act_updDoze | apply touches_Act_wakeEvent | apply touches_Act_wakeCount | apply touches_Act_pnFacetSleeps | apply Touches.upd_of hS | apply Touches.all_cons | apply Touches.all_nil | apply Touches.get | apply Touches.when | apply Touches.each | exact Part.Sub.trans (by decide) hS | intro _ | dsimp only)
  all_goals (intro s p hp; cases p <;> first | rfl | exact absurd (by decide) hp)

theorem touches_Act_pnHeard {k gf : Nat} {S : List Part} (hS : Part.Sub [.regs, .evtNo, .upsets, .irqs, .io] S) : Touches (Act.pnHeard k gf) S := by
  unfold Act.pnHeard
  try dsimp only
  repeat' (with_reducible first | apply touches_Act_modPnet | apply touches_Act_setFld | apply touches_Act_wakeCount | apply touches_Act_judged | apply Touches.all_cons | apply Touches.all_nil | apply Touches.get | apply Touches.each | apply Touches.ite | exact Part.Sub.trans (by decide) hS | intro _ | split | dsimp only)

theorem touches_Act_pnSeen {gf m : Nat} {S : List Part} (hS : Part.Sub [.regs, .evtNo, .upsets, .irqs, .io] S) : Touches (Act.pnSeen gf m) S := by
  unfold Act.pnSeen
  try dsimp only
  repeat' (with_reducible first | apply touches_Act_pnHeard | apply Touches.get | apply Touches.when | apply Touches.opt | exact Part.Sub.trans (by decide) hS | intro _ | dsimp only)

theorem touches_keepalivePnSeen {gf m : Nat} {S : List Part} (hS : Part.Sub [.regs, .evtNo, .upsets, .irqs, .io] S) : Touches (keepalivePnSeen gf m) S := by
  unfold keepalivePnSeen
  try dsimp only
  repeat' (with_reducible first | apply touches_Act_pnSeen | exact Part.Sub.trans (by decide) hS | intro _ | dsimp only)

theorem touches_Act_pnForeign {p c : Nat} {b : List Byte} {S : List Part} (hS : Part.Sub [.regs, .evtNo, .upsets, .irqs, .io] S) : Touches (Act.pnForeign p c b) S := by
  unfold Act.pnForeign
  try dsimp only
  repeat' (with_reducible first | apply touches_Act_pnHeard | apply Touches.get | apply Touches.when | apply Touches.opt | exact Part.Sub.trans (by decide) hS | intro _ | dsimp only)

theorem touches_reqWrite {ag : Agent} {p k : Nat} {v : Word} {cont : Code → Act} {S : List Part} (hS : Part.Sub [.regs, .evtNo, .upsets, .irqs, .io] S) (hk_cont : ∀ x0, Touches (cont x0) S) : Touches (reqWrite ag p k v cont) S := by
  unfold reqWrite
  try dsimp only
  repeat' (with_reducible first | exact hk_cont _ | apply touches_Act_badValue | apply touches_Act_store | apply touches_Act_judgeSettle | apply Touches.all_cons | apply Touches.all_nil | apply Touches.ite | exact Part.Sub.trans (by decide) hS | intro _ | split | dsimp only)

theorem touches_Act_kaSend {gf : Nat} {pn : Bool} {S : List Part} (hS : Part.Sub [.regs, .evtNo, .upsets, .irqs, .sw, .sec, .plx, .freeCount] S) : Touches (Act.kaSend gf pn) S := by
  unfold Act.kaSend
  try dsimp only
  repeat' (with_reducible first | apply touches_Act_engineOut | apply touches_Act_plxCount | apply touches_Act_ezMake | apply touches_Act_ezPost | apply touches_Act_wakeCount | apply Touches.all_cons | apply Touches.all_nil | apply Touches.seq | apply Touches.get | apply Touches.when | apply Touches.opt | apply Touches.ite | exact Part.Sub.trans (by decide) hS | intro _ | split | dsimp only)

theorem touches_keepalivePnSend {k : Nat} {S : List Part} (hS : Part.Sub [.regs, .evtNo, .upsets, .irqs, .sw, .sec, .plx, .io, .freeCount] S) : Touches (keepalivePnSend k) S := by
  unfold keepalivePnSend
  try dsimp only
  repeat' (with_reducible first | apply touches_Act_modPnet | apply touches_Act_kaSend | apply Touches.seq | apply Touches.get | apply Touches.when | apply Touches.each | exact Part.Sub.trans (by decide) hS | intro _ | dsimp only)

theorem touches_wakePatternSlot  {S : List Part} (hS : Part.Sub [.regs, .evtNo, .upsets, .irqs, .sw, .sec, .plx, .io, .out, .freeCount] S) : Touches (wakePatternSlot ) S := by
  unfold wakePatternSlot
  try dsimp only
  repeat' (with_reducible first | apply touches_Act_emit | apply touches_Act_updDoze | apply touches_Act_pnEthOn | apply touches_Act_pnLinRestart | apply touches_Act_kaSend | apply Touches.upd_of hS | apply Touches.seq | apply Touches.get | apply Touches.when | apply Touches.skip | apply Touches.ite | exact Part.Sub.trans (by decide) hS | intro _ | split | dsimp only)
  all_goals (intro s p hp; cases p <;> first | rfl | exact absurd (by decide) hp)

theorem touches_linWakeScheduleRestart {p c : Nat} {S : List Part} (hS : Part.Sub [.nets, .io] S) : Touches (linWakeScheduleRestart p c) S := by
  unfold linWakeScheduleRestart
  try dsimp only
  repeat' (with_reducible first | apply touches_Act_modLin | apply touches_Act_updDoze | apply Touches.upd_of hS | apply Touches.seq | apply Touches.get | apply Touches.when | apply Touches.ite | exact Part.Sub.trans (by decide) hS | intro _ | split | dsimp only)
  all_goals (intro s p hp; cases p <;> first | rfl | exact absurd (by decide) hp)

theorem touches_Act_updRing {f : Ring → Ring} {S : List Part} (hS : Part.Sub [.io] S) : Touches (Act.updRing f) S := by
  unfold Act.updRing
  try dsimp only
  repeat' (with_reducible first | apply touches_Act_updDoze | apply Touches.upd_of hS | exact Part.Sub.trans (by decide) hS | intro _ | dsimp only)
  all_goals (intro s p hp; cases p <;> first | rfl | exact absurd (by decide) hp)

theorem touches_Act_ringStart {ph : Phase} {S : List Part} (hS : Part.Sub [.io] S) : Touches (Act.ringStart ph) S := by
  unfold Act.ringStart
  try dsimp only
  repeat' (with_reducible first | apply touches_Act_updRing | apply Touches.upd_of hS | apply Touches.get | exact Part.Sub.trans (by decide) hS | intro _ | dsimp only)
  all_goals (intro s p hp; cases p <;> first | rfl | exact absurd (by decide) hp)

theorem touches_tokenOriginate  {S : List Part} (hS : Part.Sub [.io] S) : Touches (tokenOriginate ) S := by
  unfold tokenOriginate
  try dsimp only
  repeat' (with_reducible first | apply touches_Act_ringStart | apply Touches.get | apply Touches.when | exact Part.Sub.trans (by decide) hS | intro _ | dsimp only)

theorem touches_tokenLost  {S : List Part} (hS : Part.Sub [.regs, .evtNo, .upsets, .irqs, .io] S) : Touches (tokenLost ) S := by
  unfold tokenLost
  try dsimp only
  repeat' (with_reducible first | apply touches_Act_wakeEvent | apply touches_Act_wakeCount | apply touches_Act_ringStart | apply Touches.all_cons | apply Touches.all_nil | apply Touches.get | apply Touches.when | apply Touches.ite | exact Part.Sub.trans (by decide) hS | intro _ | split | dsimp only)

theorem touches_Act_sleepNotice  {S : List Part} (hS : Part.Sub [.regs, .evtNo, .upsets, .irqs] S) : Touches (Act.sleepNotice ) S := by
  unfold Act.sleepNotice
  try dsimp only
  repeat' (with_reducible first | apply touches_Act_irq | apply touches_Act_wakeEvent | apply Touches.seq | apply Touches.get | apply Touches.each | exact Part.Sub.trans (by decide) hS | intro _ | dsimp only)

theorem touches_Act_ringAborted  {S : List Part} (hS : Part.Sub [.regs, .evtNo, .upsets, .irqs, .io] S) : Touches (Act.ringAborted ) S := by
  unfold Act.ringAborted
  try dsimp only
  repeat' (with_reducible first | apply touches_Act_wakeEvent | apply touches_Act_wakeCount | apply touches_Act_updRing | apply Touches.upd_of hS | apply Touches.all_cons | apply Touches.all_nil | exact Part.Sub.trans (by decide) hS | intro _ | dsimp only)
  all_goals (intro s p hp; cases p <;> first | rfl | exact absurd (by decide) hp)

theorem touches_Act_ringLead {t : Token} {S : List Part} (hS : Part.Sub [.regs, .evtNo, .upsets, .irqs, .io] S) : Touches (Act.ringLead t) S := by
  unfold Act.ringLead
  try dsimp only
  repeat' (with_reducible first | apply touches_Act_updRing | apply touches_Act_sleepNotice | apply touches_Act_ringAborted | apply Touches.upd_of hS | apply Touches.all_cons | apply Touches.all_nil | apply Touches.get | apply Touches.when | apply Touches.ite | exact Part.Sub.trans (by decide) hS | intro _ | split | dsimp only)
  all_goals (intro s p hp; cases p <;> first | rfl | exact absurd (by decide) hp)

theorem touches_Act_pairLast {body : List Byte} {S : List Part} (hS : Part.Sub [.regs, .evtNo, .upsets, .irqs, .sec, .plx, .out, .freeCount] S) : Touches (Act.pairLast body) S := by
  unfold Act.pairLast
  try dsimp only
  repeat' (with_reducible first | apply touches_Act_emit | apply touches_Act_ezMake | apply Touches.get | apply Touches.opt | exact Part.Sub.trans (by decide) hS | intro _ | dsimp only)

theorem touches_Act_ringLeave {t : Token} {S : List Part} (hS : Part.Sub [.regs, .evtNo, .upsets, .irqs, .sw, .sec, .plx, .io, .out, .freeCount] S) : Touches (Act.ringLeave t) S := by
  unfold Act.ringLeave
  try dsimp only
  repeat' (with_reducible first | apply touches_Act_pairTell | apply touches_Act_updRing | apply touches_Act_ringAborted | apply touches_Act_pairLast | apply Touches.upd_of hS | apply Touches.seq | apply Touches.get | apply Touches.when | apply Touches.ite | exact Part.Sub.trans (by decide) hS | intro _ | split | dsimp only)
  all_goals (intro s p hp; cases p <;> first | rfl | exact absurd (by decide) hp)

theorem touches_Act_ringStep {t : Token} {S : List Part} (hS : Part.Sub [.regs, .evtNo, .upsets, .irqs, .sw, .sec, .plx, .io, .out, .freeCount] S) : Touches (Act.ringStep t) S := by
  unfold Act.ringStep
  try dsimp only
  repeat' (with_reducible first | apply touches_Act_updRing | apply touches_Act_ringLead | apply touches_Act_ringLeave | apply Touches.upd_of hS | apply Touches.seq | apply Touches.get | apply Touches.when | apply Touches.opt | apply Touches.ite | exact Part.Sub.trans (by decide) hS | intro _ | split | dsimp only)
  all_goals (intro s p hp; cases p <;> first | rfl | exact absurd (by decide) hp)

theorem touches_tokenPass  {S : List Part} (hS : Part.Sub [.regs, .evtNo, .upsets, .irqs, .sw, .sec, .plx, .io, .out, .freeCount] S) : Touches (tokenPass ) S := by
  unfold tokenPass
  try dsimp only
  repeat' (with_reducible first | apply touches_Act_pairMsg | apply touches_Act_updRing | apply touches_Act_ringStep | apply Touches.upd_of hS | apply Touches.seq | apply Touches.get | apply Touches.when | exact Part.Sub.trans (by decide) hS | intro _ | split | dsimp only)
  all_goals (intro s p hp; cases p <;> first | rfl | exact absurd (by decide) hp)

theorem touches_Act_ringBack {t : Token} {S : List Part} (hS : Part.Sub [.regs, .evtNo, .upsets, .irqs, .io] S) : Touches (Act.ringBack t) S := by
  unfold Act.ringBack
  try dsimp only
  repeat' (with_reducible first | apply touches_Act_updRing | apply touches_Act_ringStart | apply touches_Act_ringAborted | apply Touches.upd_of hS | apply Touches.seq | apply Touches.get | apply Touches.when | apply Touches.skip | apply Touches.ite | exact Part.Sub.trans (by decide) hS | intro _ | split | dsimp only)
  all_goals (intro s p hp; cases p <;> first | rfl | exact absurd (by decide) hp)

theorem touches_tokenReturn  {S : List Part} (hS : Part.Sub [.regs, .evtNo, .upsets, .irqs, .sec, .plx, .io, .freeCount] S) : Touches (tokenReturn ) S := by
  unfold tokenReturn
  try dsimp only
  repeat' (with_reducible first | apply touches_Act_pairMsg | apply touches_Act_ringBack | apply Touches.get | apply Touches.when | exact Part.Sub.trans (by decide) hS | intro _ | split | dsimp only)

theorem touches_noticeEnd  {S : List Part} (hS : Part.Sub [.io] S) : Touches (noticeEnd ) S := by
  unfold noticeEnd
  try dsimp only
  repeat' (with_reducible first | apply touches_Act_ringStart | apply Touches.get | apply Touches.when | exact Part.Sub.trans (by decide) hS | intro _ | dsimp only)

theorem touches_Act_prismSleeps {p : Nat} {S : List Part} (hS : Part.Sub [.regs, .evtNo, .upsets, .irqs, .sw, .nets, .gw] S) : Touches (Act.prismSleeps p) S := by
  unfold Act.prismSleeps
  try dsimp only
  repeat' (with_reducible first | apply touches_Act_setWpost | apply touches_Act_canOff | apply touches_Act_linkDown | apply touches_Act_linOff | apply Touches.setReg | apply Touches.all_cons | apply Touches.all_nil | apply Touches.seq | apply Touches.get | apply Touches.each | exact Part.Sub.trans (by decide) hS | intro _ | dsimp only)

theorem touches_Act_driveSleeps {d : Nat} {S : List Part} (hS : Part.Sub [.regs, .upsets, .sup, .nets, .io] S) : Touches (Act.driveSleeps d) S := by
  unfold Act.driveSleeps
  try dsimp only
  repeat' (with_reducible first | apply touches_Act_modXcvr | apply touches_Act_modDrv | apply touches_Act_setSup | apply Touches.setReg | apply Touches.all_cons | apply Touches.all_nil | apply Touches.get | apply Touches.when | apply Touches.each | exact Part.Sub.trans (by decide) hS | intro _ | dsimp only)

theorem touches_sleepEntry  {S : List Part} (hS : Part.Sub [.regs, .evtNo, .upsets, .irqs, .sup, .sw, .nets, .gw, .sec, .plx, .io, .out, .freeCount] S) : Touches (sleepEntry ) S := by
  unfold sleepEntry
  try dsimp only
  repeat' (with_reducible first | apply touches_Act_wakeCount | apply touches_Act_updIo | apply touches_Act_updRing | apply touches_Act_ringLead | apply touches_Act_ringLeave | apply touches_Act_prismSleeps | apply touches_Act_driveSleeps | apply Touches.upd_of hS | apply Touches.all_cons | apply Touches.all_nil | apply Touches.seq | apply Touches.get | apply Touches.when | apply Touches.opt | apply Touches.ite | exact Part.Sub.trans (by decide) hS | intro _ | split | dsimp only)
  all_goals (intro s p hp; cases p <;> first | rfl | exact absurd (by decide) hp)

theorem touches_Act_wakeLatch {d src : Nat} {S : List Part} (hS : Part.Sub [.regs, .evtNo, .upsets, .io] S) : Touches (Act.wakeLatch d src) S := by
  unfold Act.wakeLatch
  try dsimp only
  repeat' (with_reducible first | apply touches_Act_modDrv | apply touches_Act_event | apply touches_Act_updIo | apply Touches.setReg | apply Touches.upd_of hS | apply Touches.all_cons | apply Touches.all_nil | apply Touches.get | apply Touches.when | apply Touches.ite | exact Part.Sub.trans (by decide) hS | intro _ | split | dsimp only)
  all_goals (intro s p hp; cases p <;> first | rfl | exact absurd (by decide) hp)

theorem touches_wakeSource {d src : Nat} {on : Bool} {S : List Part} (hS : Part.Sub [.regs, .evtNo, .upsets, .io] S) : Touches (wakeSource d src on) S := by
  unfold wakeSource
  try dsimp only
  repeat' (with_reducible first | apply touches_Act_modDrv | apply touches_Act_wakeLatch | apply Touches.seq | apply Touches.get | apply Touches.when | exact Part.Sub.trans (by decide) hS | intro _ | dsimp only)

theorem touches_wakeTimer  {S : List Part} (hS : Part.Sub [.regs, .evtNo, .upsets, .io] S) : Touches (wakeTimer ) S := by
  unfold wakeTimer
  try dsimp only
  repeat' (with_reducible first | apply touches_Act_wakeLatch | apply Touches.get | apply Touches.when | exact Part.Sub.trans (by decide) hS | intro _ | dsimp only)

theorem touches_Act_xcvrWakes {d u : Nat} {S : List Part} (hS : Part.Sub [.regs, .evtNo, .upsets, .nets, .io] S) : Touches (Act.xcvrWakes d u) S := by
  unfold Act.xcvrWakes
  try dsimp only
  repeat' (with_reducible first | apply touches_Act_modXcvr | apply touches_Act_pnDue | apply touches_Act_wakeLatch | apply Touches.all_cons | apply Touches.all_nil | apply Touches.get | apply Touches.when | apply Touches.opt | exact Part.Sub.trans (by decide) hS | intro _ | dsimp only)

theorem touches_xcvrWakeDetect {d u kind rate : Nat} {b : List Byte} {S : List Part} (hS : Part.Sub [.regs, .evtNo, .upsets, .nets, .io] S) : Touches (xcvrWakeDetect d u kind rate b) S := by
  unfold xcvrWakeDetect
  try dsimp only
  repeat' (with_reducible first | apply touches_Act_modXcvr | apply touches_Act_xcvrWakes | apply Touches.get | apply Touches.when | apply Touches.skip | apply Touches.ite | exact Part.Sub.trans (by decide) hS | intro _ | split | dsimp only)

theorem touches_wakeFailsafe {d u : Nat} {S : List Part} (hS : Part.Sub [.regs, .evtNo, .upsets, .irqs, .nets, .io] S) : Touches (wakeFailsafe d u) S := by
  unfold wakeFailsafe
  try dsimp only
  repeat' (with_reducible first | apply touches_Act_modXcvr | apply touches_Act_event | apply touches_Act_drvInvalid | apply touches_Act_dropAwait | apply touches_Act_judged | apply Touches.all_cons | apply Touches.all_nil | apply Touches.get | apply Touches.when | apply Touches.each | exact Part.Sub.trans (by decide) hS | intro _ | dsimp only)

theorem touches_wakeConfirm  {S : List Part} (hS : Part.Sub [.regs, .evtNo, .upsets, .irqs, .io] S) : Touches (wakeConfirm ) S := by
  unfold wakeConfirm
  try dsimp only
  repeat' (with_reducible first | apply touches_Act_judged | apply Touches.get | apply Touches.each | exact Part.Sub.trans (by decide) hS | intro _ | dsimp only)

theorem touches_wakeValidityTimeout  {S : List Part} (hS : Part.Sub [.regs, .evtNo, .upsets, .irqs, .io] S) : Touches (wakeValidityTimeout ) S := by
  unfold wakeValidityTimeout
  try dsimp only
  repeat' (with_reducible first | apply touches_Act_judged | apply Touches.get | apply Touches.each | exact Part.Sub.trans (by decide) hS | intro _ | dsimp only)

theorem touches_wakeReportTimeout {d : Nat} {S : List Part} (hS : Part.Sub [.regs, .evtNo, .upsets, .io] S) : Touches (wakeReportTimeout d) S := by
  unfold wakeReportTimeout
  try dsimp only
  repeat' (with_reducible first | apply touches_Act_drvInvalid | apply touches_Act_dropAwait | apply Touches.seq | apply Touches.get | apply Touches.each | exact Part.Sub.trans (by decide) hS | intro _ | dsimp only)

theorem touches_sourceRearm {d src : Nat} {S : List Part} (hS : Part.Sub [.regs, .evtNo, .upsets, .io] S) : Touches (sourceRearm d src) S := by
  unfold sourceRearm
  try dsimp only
  repeat' (with_reducible first | apply touches_Act_modDrv | apply touches_Act_event | apply Touches.seq | apply Touches.get | apply Touches.when | exact Part.Sub.trans (by decide) hS | intro _ | dsimp only)

theorem touches_wkpRearm {d : Nat} {S : List Part} (hS : Part.Sub [.io] S) : Touches (wkpRearm d) S := by
  unfold wkpRearm
  try dsimp only
  repeat' (with_reducible first | apply touches_Act_modDrv | exact Part.Sub.trans (by decide) hS | intro _ | dsimp only)

theorem touches_Act_pnAllAwake  {S : List Part} (hS : Part.Sub [.io] S) : Touches (Act.pnAllAwake ) S := by
  unfold Act.pnAllAwake
  try dsimp only
  repeat' (with_reducible first | apply touches_Act_setPnet | apply Touches.get | apply Touches.each | exact Part.Sub.trans (by decide) hS | intro _ | dsimp only)

theorem touches_Act_wakeEnable  {S : List Part} (hS : Part.Sub [.io] S) : Touches (Act.wakeEnable ) S := by
  unfold Act.wakeEnable
  try dsimp only
  repeat' (with_reducible first | apply touches_Act_admEnter | apply touches_Act_pnAllAwake | apply Touches.seq | apply Touches.get | apply Touches.when | apply Touches.each | exact Part.Sub.trans (by decide) hS | intro _ | dsimp only)

theorem touches_Act_wakeDisable  {S : List Part} (hS : Part.Sub [.regs, .evtNo, .upsets, .irqs, .nets, .io] S) : Touches (Act.wakeDisable ) S := by
  unfold Act.wakeDisable
  try dsimp only
  repeat' (with_reducible first | apply touches_Act_setPnet | apply touches_Act_updDoze | apply touches_Act_admSettle | apply touches_Act_pnFacetWakes | apply Touches.upd_of hS | apply Touches.all_cons | apply Touches.all_nil | apply Touches.get | apply Touches.each | exact Part.Sub.trans (by decide) hS | intro _ | dsimp only)
  all_goals (intro s p hp; cases p <;> first | rfl | exact absurd (by decide) hp)

theorem touches_Act_wakeService  {S : List Part} (hS : Part.Sub [.regs, .evtNo, .upsets, .irqs, .io] S) : Touches (Act.wakeService ) S := by
  unfold Act.wakeService
  try dsimp only
  repeat' (with_reducible first | apply touches_Act_updDoze | apply touches_Act_wakeEvent | apply touches_Act_wakeCount | apply touches_Act_judgeOpen | apply touches_Act_pnAllAwake | apply Touches.upd_of hS | apply Touches.all_cons | apply Touches.all_nil | apply Touches.get | apply Touches.when | exact Part.Sub.trans (by decide) hS | intro _ | dsimp only)
  all_goals (intro s p hp; cases p <;> first | rfl | exact absurd (by decide) hp)

end Sys2Proof.Machine
end

