-- ==== Sys2Proof/Laws/Frame/Group5.lean ====
section
/-! SUPPORT. Which parts of the state the operations of Pinhole, Loupe, Mem, Recorder, Fleet, Partition, Aperture, Transmit, Reset may change. -/

set_option linter.unusedTactic false
set_option linter.unreachableTactic false

namespace Sys2Proof.Machine

/-! ## Pinhole -/

theorem touches_Act_pinEvent {d i : Nat} {S : List Part} (hS : Part.Sub [.regs, .evtNo, .upsets] S) : Touches (Act.pinEvent d i) S := by
  unfold Act.pinEvent
  try dsimp only
  repeat' (with_reducible first | apply touches_Act_event | exact Part.Sub.trans (by decide) hS | intro _ | dsimp only)

theorem touches_Act_pinEnter {d : Nat} {S : List Part} (hS : Part.Sub [.regs, .evtNo, .upsets, .irqs, .sup, .nets, .io] S) : Touches (Act.pinEnter d) S := by
  unfold Act.pinEnter
  try dsimp only
  repeat' (with_reducible first | apply touches_Act_modChan | apply touches_Act_modDrv | apply touches_Act_setSup | apply touches_Act_chOff | apply touches_Act_chSettle | apply touches_Act_chFollow | apply touches_Act_dropOwner | apply touches_xcvrModeChange | apply touches_Act_pinEvent | apply Touches.all_cons | apply Touches.all_nil | apply Touches.seq | apply Touches.get | apply Touches.when | apply Touches.each | apply Touches.ite | apply Touches.all_map | exact Part.Sub.trans (by decide) hS | intro _ | split | dsimp only)

theorem touches_limpAssert {d : Nat} {S : List Part} (hS : Part.Sub [.regs, .evtNo, .upsets, .irqs, .sup, .nets, .io] S) : Touches (limpAssert d) S := by
  unfold limpAssert
  try dsimp only
  repeat' (with_reducible first | apply touches_Act_modDrv | apply touches_Act_wakeLatch | apply touches_Act_pinEnter | apply Touches.all_cons | apply Touches.all_nil | apply Touches.get | apply Touches.when | exact Part.Sub.trans (by decide) hS | intro _ | dsimp only)

theorem touches_limpRelease {d : Nat} {S : List Part} (hS : Part.Sub [.io] S) : Touches (limpRelease d) S := by
  unfold limpRelease
  try dsimp only
  repeat' (with_reducible first | apply touches_Act_modDrv | apply Touches.get | apply Touches.when | exact Part.Sub.trans (by decide) hS | intro _ | dsimp only)

theorem touches_heartbeatLost {d : Nat} {S : List Part} (hS : Part.Sub [.regs, .evtNo, .upsets, .irqs, .sup, .nets, .io] S) : Touches (heartbeatLost d) S := by
  unfold heartbeatLost
  try dsimp only
  repeat' (with_reducible first | apply touches_Act_setSup | apply touches_Act_pinEnter | apply Touches.seq | apply Touches.get | apply Touches.when | exact Part.Sub.trans (by decide) hS | intro _ | dsimp only)

theorem touches_prismHeartbeat {d : Nat} {S : List Part} (hS : Part.Sub [.sup, .io] S) : Touches (prismHeartbeat d) S := by
  unfold prismHeartbeat
  try dsimp only
  repeat' (with_reducible first | apply touches_Act_modDrv | apply touches_Act_setSup | apply Touches.seq | apply Touches.get | apply Touches.when | apply Touches.ite | exact Part.Sub.trans (by decide) hS | intro _ | split | dsimp only)

theorem touches_pinholeTurnOn {d : Nat} {S : List Part} (hS : Part.Sub [.regs, .evtNo, .upsets, .irqs, .io] S) : Touches (pinholeTurnOn d) S := by
  unfold pinholeTurnOn
  try dsimp only
  repeat' (with_reducible first | apply touches_Act_modDrv | apply touches_Act_chBegin | apply Touches.seq | apply Touches.get | apply Touches.when | apply Touches.opt | apply Touches.ite | apply Touches.all_map | exact Part.Sub.trans (by decide) hS | intro _ | split | dsimp only)

theorem touches_Act_pinExit {d : Nat} {S : List Part} (hS : Part.Sub [.regs, .evtNo, .upsets, .irqs, .nets, .io] S) : Touches (Act.pinExit d) S := by
  unfold Act.pinExit
  try dsimp only
  repeat' (with_reducible first | apply touches_Act_modChan | apply touches_Act_modDrv | apply touches_Act_chOff | apply touches_Act_chSettleAll | apply touches_xcvrModeChange | apply touches_Act_pinEvent | apply Touches.setReg | apply Touches.all_cons | apply Touches.all_nil | apply Touches.seq | apply Touches.get | apply Touches.when | apply Touches.each | apply Touches.ite | apply Touches.all_map | exact Part.Sub.trans (by decide) hS | intro _ | split | dsimp only)

theorem touches_Act_pinAck {d : Nat} {ag : Agent} {S : List Part} (hS : Part.Sub [.regs, .evtNo, .upsets, .irqs, .nets, .io] S) : Touches (Act.pinAck d ag) S := by
  unfold Act.pinAck
  try dsimp only
  repeat' (with_reducible first | apply touches_Act_blkErr | apply touches_Act_pinEvent | apply touches_Act_pinExit | apply Touches.seq | apply Touches.get | apply Touches.ite | exact Part.Sub.trans (by decide) hS | intro _ | split | dsimp only)

theorem touches_takeoverHoldEnd {d c : Nat} {S : List Part} (hS : Part.Sub [.regs, .evtNo, .upsets, .irqs, .io] S) : Touches (takeoverHoldEnd d c) S := by
  unfold takeoverHoldEnd
  try dsimp only
  repeat' (with_reducible first | apply touches_Act_modChan | apply touches_Act_chOff | apply Touches.seq | apply Touches.get | apply Touches.when | exact Part.Sub.trans (by decide) hS | intro _ | dsimp only)

/-! ## Loupe -/

theorem touches_Act_crossing {p m : Nat} {S : List Part} (hS : Part.Sub [.regs, .evtNo, .upsets, .irqs, .mon] S) : Touches (Act.crossing p m) S := by
  unfold Act.crossing
  try dsimp only
  repeat' (with_reducible first | apply touches_Act_modRecorder | apply touches_Act_eventIrq | apply Touches.setReg | apply Touches.all_cons | apply Touches.all_nil | apply Touches.get | apply Touches.when | exact Part.Sub.trans (by decide) hS | intro _ | dsimp only)

theorem touches_Act_sample {p m : Nat} {v : Word} {taken : Bool} {S : List Part} (hS : Part.Sub [.regs, .evtNo, .upsets, .irqs, .mon] S) : Touches (Act.sample p m v taken) S := by
  unfold Act.sample
  try dsimp only
  repeat' (with_reducible first | apply touches_Act_modMtr | apply touches_Act_crossing | apply Touches.seq | apply Touches.get | apply Touches.when | apply Touches.ite | exact Part.Sub.trans (by decide) hS | intro _ | split | dsimp only)

theorem touches_feedVal {p : Nat} {v : Word} {k : Code → Act} {S : List Part} (hS : Part.Sub [.regs, .evtNo, .upsets, .irqs, .mon] S) (hk_k : ∀ x0, Touches (k x0) S) : Touches (feedVal p v k) S := by
  unfold feedVal
  try dsimp only
  repeat' (with_reducible first | exact hk_k _ | apply touches_Act_store | apply touches_Act_sample | apply Touches.all_cons | apply Touches.all_nil | apply Touches.get | apply Touches.each | exact Part.Sub.trans (by decide) hS | intro _ | dsimp only)

theorem touches_mcfgWrite {ag : Agent} {p m j : Nat} {v : Word} {k : Code → Act} {S : List Part} (hS : Part.Sub [.regs, .evtNo, .upsets, .mon] S) (hk_k : ∀ x0, Touches (k x0) S) : Touches (mcfgWrite ag p m j v k) S := by
  unfold mcfgWrite
  try dsimp only
  repeat' (with_reducible first | exact hk_k _ | apply touches_Act_modMtr | apply touches_Act_badValue | apply touches_Act_store | apply Touches.upd_of hS | apply Touches.all_cons | apply Touches.all_nil | apply Touches.get | apply Touches.ite | exact Part.Sub.trans (by decide) hS | intro _ | split | dsimp only)
  all_goals (intro s p hp; cases p <;> first | rfl | exact absurd (by decide) hp)

theorem touches_Act_snapshot {p m b : Nat} {S : List Part} (hS : Part.Sub [.regs, .upsets] S) : Touches (Act.snapshot p m b) S := by
  unfold Act.snapshot
  try dsimp only
  repeat' (with_reducible first | apply Touches.setReg | apply Touches.all_cons | apply Touches.all_nil | apply Touches.get | apply Touches.each | exact Part.Sub.trans (by decide) hS | intro _ | dsimp only)

theorem touches_snapCmd {ag : Agent} {p : Nat} {v : Word} {k : Code → Act} {S : List Part} (hS : Part.Sub [.regs, .evtNo, .upsets, .mon] S) (hk_k : ∀ x0, Touches (k x0) S) : Touches (snapCmd ag p v k) S := by
  unfold snapCmd
  try dsimp only
  repeat' (with_reducible first | exact hk_k _ | apply touches_Act_modMtr | apply touches_Act_badValue | apply touches_Act_snapshot | apply Touches.setReg | apply Touches.all_cons | apply Touches.all_nil | apply Touches.get | apply Touches.when | apply Touches.ite | exact Part.Sub.trans (by decide) hS | intro _ | split | dsimp only)

/-! ## Mem -/

theorem touches_Act_memWrite {p a : Nat} {l : List Byte} {S : List Part} (hS : Part.Sub [.mem] S) : Touches (Act.memWrite p a l) S := by
  unfold Act.memWrite
  try dsimp only
  repeat' (with_reducible first | apply Touches.setMem | apply Touches.all_cons | apply Touches.all_nil | apply Touches.all_map | exact Part.Sub.trans (by decide) hS | intro _ | dsimp only)

theorem touches_Act_memSetWord {p a : Nat} {v : Word} {S : List Part} (hS : Part.Sub [.mem] S) : Touches (Act.memSetWord p a v) S := by
  unfold Act.memSetWord
  try dsimp only
  repeat' (with_reducible first | apply touches_Act_memWrite | exact Part.Sub.trans (by decide) hS | intro _ | dsimp only)

/-! ## Recorder -/

theorem touches_Act_putRecord {p : Nat} {h : RecHead} {t : Nat} {body : List Byte} {S : List Part} (hS : Part.Sub [.regs, .evtNo, .upsets, .irqs, .mon] S) : Touches (Act.putRecord p h t body) S := by
  unfold Act.putRecord
  try dsimp only
  repeat' (with_reducible first | apply touches_Act_modRecorder | apply touches_Act_countBy | apply touches_Act_count | apply Touches.all_cons | apply Touches.all_nil | apply Touches.get | exact Part.Sub.trans (by decide) hS | intro _ | dsimp only)

theorem touches_Act_endChunk {p : Nat} {S : List Part} (hS : Part.Sub [.mon] S) : Touches (Act.endChunk p) S := by
  unfold Act.endChunk
  try dsimp only
  repeat' (with_reducible first | apply touches_Act_modRecorder | apply Touches.get | apply Touches.when | exact Part.Sub.trans (by decide) hS | intro _ | dsimp only)

theorem touches_Act_nvme {p : Nat} {c : NvCmd} {addr len : Nat} {b : List Byte} {S : List Part} (hS : Part.Sub [.mon, .out] S) : Touches (Act.nvme p c addr len b) S := by
  unfold Act.nvme
  try dsimp only
  repeat' (with_reducible first | apply touches_Act_emit | apply touches_Act_modRecorder | apply Touches.seq | apply Touches.get | exact Part.Sub.trans (by decide) hS | intro _ | split | dsimp only)

theorem touches_chunkWrite {p : Nat} {S : List Part} (hS : Part.Sub [.regs, .evtNo, .upsets, .irqs, .mon, .out] S) : Touches (chunkWrite p) S := by
  unfold chunkWrite
  try dsimp only
  repeat' (with_reducible first | apply touches_Act_modRecorder | apply touches_Act_count | apply touches_Act_tallyMon | apply touches_Act_nvme | apply Touches.all_cons | apply Touches.all_nil | apply Touches.get | apply Touches.when | apply Touches.opt | exact Part.Sub.trans (by decide) hS | intro _ | dsimp only)

theorem touches_Act_writeOut {p : Nat} {z0 : Nat} {S : List Part} (hS : Part.Sub [.regs, .evtNo, .upsets, .irqs, .mon, .out] S) : Touches (Act.writeOut p z0) S := by
  induction z0 with
  | zero =>
    unfold Act.writeOut
    exact Touches.skip
  | succ z0 ih =>
    unfold Act.writeOut
    try dsimp only
    repeat' (with_reducible first | exact ih | apply touches_chunkWrite | apply Touches.seq | apply Touches.skip | exact Part.Sub.trans (by decide) hS | intro _ | split | dsimp only)

theorem touches_Act_writeSuper {p : Nat} {S : List Part} (hS : Part.Sub [.regs, .evtNo, .upsets, .irqs, .mon, .out] S) : Touches (Act.writeSuper p) S := by
  unfold Act.writeSuper
  try dsimp only
  repeat' (with_reducible first | apply touches_Act_modRecorder | apply touches_Act_count | apply touches_Act_nvme | apply Touches.all_cons | apply Touches.all_nil | apply Touches.get | exact Part.Sub.trans (by decide) hS | intro _ | dsimp only)

theorem touches_Act_recFlush {p : Nat} {S : List Part} (hS : Part.Sub [.regs, .evtNo, .upsets, .irqs, .mon, .out] S) : Touches (Act.recFlush p) S := by
  unfold Act.recFlush
  try dsimp only
  repeat' (with_reducible first | apply touches_Act_endChunk | apply touches_Act_nvme | apply touches_Act_writeOut | apply touches_Act_writeSuper | apply Touches.all_cons | apply Touches.all_nil | apply Touches.seq | apply Touches.get | exact Part.Sub.trans (by decide) hS | intro _ | dsimp only)

theorem touches_Act_rdEnd {p result : Nat} {S : List Part} (hS : Part.Sub [.regs, .upsets, .mon] S) : Touches (Act.rdEnd p result) S := by
  unfold Act.rdEnd
  try dsimp only
  repeat' (with_reducible first | apply touches_Act_modRecorder | apply touches_Act_setFld | apply Touches.seq | apply Touches.get | apply Touches.when | exact Part.Sub.trans (by decide) hS | intro _ | dsimp only)

theorem touches_Act_recFail {p kind status : Nat} {S : List Part} (hS : Part.Sub [.regs, .evtNo, .upsets, .mon] S) : Touches (Act.recFail p kind status) S := by
  unfold Act.recFail
  try dsimp only
  repeat' (with_reducible first | apply touches_Act_modRecorder | apply touches_Act_event | apply touches_Act_rdEnd | apply Touches.setReg | apply Touches.all_cons | apply Touches.all_nil | apply Touches.ite | exact Part.Sub.trans (by decide) hS | intro _ | split | dsimp only)

theorem touches_Act_recEnable {p : Nat} {S : List Part} (hS : Part.Sub [.mon] S) : Touches (Act.recEnable p) S := by
  unfold Act.recEnable
  try dsimp only
  repeat' (with_reducible first | apply touches_Act_modRecorder | apply Touches.get | apply Touches.when | exact Part.Sub.trans (by decide) hS | intro _ | dsimp only)

theorem touches_Act_recDisable {p : Nat} {S : List Part} (hS : Part.Sub [.regs, .evtNo, .upsets, .irqs, .mon, .out] S) : Touches (Act.recDisable p) S := by
  unfold Act.recDisable
  try dsimp only
  repeat' (with_reducible first | apply touches_Act_modRecorder | apply touches_Act_recFlush | apply touches_Act_rdEnd | apply Touches.all_cons | apply Touches.all_nil | apply Touches.get | apply Touches.when | exact Part.Sub.trans (by decide) hS | intro _ | dsimp only)

theorem touches_Act_recClockLost {p : Nat} {S : List Part} (hS : Part.Sub [.regs, .evtNo, .upsets, .mon] S) : Touches (Act.recClockLost p) S := by
  unfold Act.recClockLost
  try dsimp only
  repeat' (with_reducible first | apply touches_Act_recFail | apply Touches.get | apply Touches.when | exact Part.Sub.trans (by decide) hS | intro _ | dsimp only)

theorem touches_recorderLinkUp {p width speed : Nat} {S : List Part} (hS : Part.Sub [.mon] S) : Touches (recorderLinkUp p width speed) S := by
  unfold recorderLinkUp
  try dsimp only
  repeat' (with_reducible first | apply touches_Act_modRecorder | apply Touches.get | apply Touches.when | exact Part.Sub.trans (by decide) hS | intro _ | dsimp only)

theorem touches_recorderLinkTimeout {p : Nat} {S : List Part} (hS : Part.Sub [.regs, .evtNo, .upsets, .mon] S) : Touches (recorderLinkTimeout p) S := by
  unfold recorderLinkTimeout
  try dsimp only
  repeat' (with_reducible first | apply touches_Act_recFail | apply Touches.get | apply Touches.when | exact Part.Sub.trans (by decide) hS | intro _ | dsimp only)

theorem touches_recorderInitDone {p : Nat} {ready : Bool} {lba blocks : Nat} {S : List Part} (hS : Part.Sub [.regs, .evtNo, .upsets, .mon] S) : Touches (recorderInitDone p ready lba blocks) S := by
  unfold recorderInitDone
  try dsimp only
  repeat' (with_reducible first | apply touches_Act_modRecorder | apply touches_Act_recFail | apply Touches.get | apply Touches.when | apply Touches.ite | exact Part.Sub.trans (by decide) hS | intro _ | split | dsimp only)

theorem touches_recorderResume {p : Nat} {a b : List Byte} {heads : List (List Byte)} {S : List Part} (hS : Part.Sub [.regs, .evtNo, .upsets, .irqs, .mon, .out] S) : Touches (recorderResume p a b heads) S := by
  unfold recorderResume
  try dsimp only
  repeat' (with_reducible first | apply touches_Act_modRecorder | apply touches_Act_event | apply touches_Act_putRecord | apply touches_Act_writeSuper | apply Touches.all_cons | apply Touches.all_nil | apply Touches.seq | apply Touches.get | apply Touches.when | apply Touches.ite | apply Touches.all_map | exact Part.Sub.trans (by decide) hS | intro _ | split | dsimp only)

theorem touches_Act_lossRecord {p q : Nat} {S : List Part} (hS : Part.Sub [.regs, .evtNo, .upsets, .irqs, .mon] S) : Touches (Act.lossRecord p q) S := by
  unfold Act.lossRecord
  try dsimp only
  repeat' (with_reducible first | apply touches_Act_setRecLost | apply touches_Act_count | apply touches_Act_putRecord | apply Touches.all_cons | apply Touches.all_nil | apply Touches.get | apply Touches.when | exact Part.Sub.trans (by decide) hS | intro _ | dsimp only)

theorem touches_Act_frameRecord {p : Nat} {fr : Frame} {S : List Part} (hS : Part.Sub [.regs, .evtNo, .upsets, .irqs, .mon] S) : Touches (Act.frameRecord p fr) S := by
  unfold Act.frameRecord
  try dsimp only
  repeat' (with_reducible first | apply touches_Act_putRecord | apply Touches.ite | exact Part.Sub.trans (by decide) hS | intro _ | split | dsimp only)

theorem touches_Act_closeEpisode {p : Nat} {trunc : Bool} {S : List Part} (hS : Part.Sub [.regs, .evtNo, .upsets, .irqs, .mon, .out] S) : Touches (Act.closeEpisode p trunc) S := by
  unfold Act.closeEpisode
  try dsimp only
  repeat' (with_reducible first | apply touches_Act_modRecorder | apply touches_Act_eventIrq | apply touches_Act_endChunk | apply touches_Act_nvme | apply touches_Act_writeOut | apply touches_Act_writeSuper | apply Touches.all_cons | apply Touches.all_nil | apply Touches.get | apply Touches.when | apply Touches.opt | apply Touches.ite | apply Touches.all_map | exact Part.Sub.trans (by decide) hS | intro _ | split | dsimp only)

theorem touches_Act_checkReach {p was : Nat} {S : List Part} (hS : Part.Sub [.regs, .evtNo, .upsets, .irqs, .mon, .out] S) : Touches (Act.checkReach p was) S := by
  unfold Act.checkReach
  try dsimp only
  repeat' (with_reducible first | apply touches_Act_closeEpisode | apply Touches.get | apply Touches.when | apply Touches.opt | exact Part.Sub.trans (by decide) hS | intro _ | dsimp only)

theorem touches_recordTake {p : Nat} {S : List Part} (hS : Part.Sub [.regs, .evtNo, .upsets, .irqs, .sw, .mon, .io, .out] S) : Touches (recordTake p) S := by
  unfold recordTake
  try dsimp only
  repeat' (with_reducible first | apply touches_Act_count | apply touches_Act_take | apply touches_Act_lossRecord | apply touches_Act_frameRecord | apply touches_Act_checkReach | apply Touches.all_cons | apply Touches.all_nil | apply Touches.get | apply Touches.when | apply Touches.skip | apply Touches.ite | exact Part.Sub.trans (by decide) hS | intro _ | split | dsimp only)

theorem touches_recorderFlush {p : Nat} {S : List Part} (hS : Part.Sub [.regs, .evtNo, .upsets, .irqs, .mon, .out] S) : Touches (recorderFlush p) S := by
  unfold recorderFlush
  try dsimp only
  repeat' (with_reducible first | apply touches_Act_recFlush | apply touches_Act_lossRecord | apply touches_Act_checkReach | apply Touches.all_cons | apply Touches.all_nil | apply Touches.get | apply Touches.when | apply Touches.each | apply Touches.all_map | exact Part.Sub.trans (by decide) hS | intro _ | dsimp only)

theorem touches_nvmeCompletion {p i kind status : Nat} {S : List Part} (hS : Part.Sub [.regs, .evtNo, .upsets, .irqs, .mon] S) : Touches (nvmeCompletion p i kind status) S := by
  unfold nvmeCompletion
  try dsimp only
  repeat' (with_reducible first | apply touches_Act_modRecorder | apply touches_Act_count | apply touches_Act_offerMon | apply touches_Act_recFail | apply Touches.seq | apply Touches.get | apply Touches.when | apply Touches.opt | apply Touches.skip | apply Touches.ite | exact Part.Sub.trans (by decide) hS | intro _ | split | dsimp only)

theorem touches_recorderLinkLost {p : Nat} {S : List Part} (hS : Part.Sub [.regs, .evtNo, .upsets, .mon] S) : Touches (recorderLinkLost p) S := by
  unfold recorderLinkLost
  try dsimp only
  repeat' (with_reducible first | apply touches_Act_recFail | apply Touches.get | apply Touches.when | exact Part.Sub.trans (by decide) hS | intro _ | dsimp only)

theorem touches_Act_openEpisode {p src t : Nat} {S : List Part} (hS : Part.Sub [.regs, .evtNo, .upsets, .irqs, .mon, .out] S) : Touches (Act.openEpisode p src t) S := by
  unfold Act.openEpisode
  try dsimp only
  repeat' (with_reducible first | apply touches_Act_modRecorder | apply touches_Act_count | apply touches_Act_putRecord | apply touches_Act_writeSuper | apply touches_Act_checkReach | apply Touches.all_cons | apply Touches.all_nil | apply Touches.get | apply Touches.ite | apply Touches.all_map | exact Part.Sub.trans (by decide) hS | intro _ | split | dsimp only)

theorem touches_Act_takeTrigger {p src t : Nat} {S : List Part} (hS : Part.Sub [.regs, .evtNo, .upsets, .irqs, .mon, .out] S) : Touches (Act.takeTrigger p src t) S := by
  unfold Act.takeTrigger
  try dsimp only
  repeat' (with_reducible first | apply touches_Act_modRecorder | apply touches_Act_event | apply touches_Act_count | apply touches_Act_putRecord | apply touches_Act_checkReach | apply touches_Act_openEpisode | apply Touches.all_cons | apply Touches.all_nil | apply Touches.seq | apply Touches.get | apply Touches.ite | apply Touches.all_map | exact Part.Sub.trans (by decide) hS | intro _ | split | dsimp only)

theorem touches_triggerTake {p : Nat} {S : List Part} (hS : Part.Sub [.regs, .evtNo, .upsets, .irqs, .mon, .out] S) : Touches (triggerTake p) S := by
  unfold triggerTake
  try dsimp only
  repeat' (with_reducible first | apply touches_Act_modRecorder | apply touches_Act_takeTrigger | apply Touches.seq | apply Touches.get | apply Touches.when | apply Touches.each | exact Part.Sub.trans (by decide) hS | intro _ | dsimp only)

theorem touches_episodeClose {p : Nat} {S : List Part} (hS : Part.Sub [.regs, .evtNo, .upsets, .irqs, .mon, .out] S) : Touches (episodeClose p) S := by
  unfold episodeClose
  try dsimp only
  repeat' (with_reducible first | apply touches_Act_closeEpisode | apply Touches.get | apply Touches.when | apply Touches.opt | exact Part.Sub.trans (by decide) hS | intro _ | dsimp only)

theorem touches_pscpCmd {ag : Agent} {p : Nat} {v : Word} {k : Code → Act} {S : List Part} (hS : Part.Sub [.regs, .evtNo, .upsets, .irqs, .mon, .out] S) (hk_k : ∀ x0, Touches (k x0) S) : Touches (pscpCmd ag p v k) S := by
  unfold pscpCmd
  try dsimp only
  repeat' (with_reducible first | exact hk_k _ | apply touches_Act_modRecorder | apply touches_Act_badValue | apply touches_Act_writeSuper | apply Touches.setReg | apply Touches.all_cons | apply Touches.all_nil | apply Touches.seq | apply Touches.get | apply Touches.when | apply Touches.ite | exact Part.Sub.trans (by decide) hS | intro _ | split | dsimp only)

theorem touches_rdCmd {ag : Agent} {p : Nat} {v : Word} {k : Code → Act} {S : List Part} (hS : Part.Sub [.regs, .evtNo, .upsets, .irqs, .mon, .out] S) (hk_k : ∀ x0, Touches (k x0) S) : Touches (rdCmd ag p v k) S := by
  unfold rdCmd
  try dsimp only
  repeat' (with_reducible first | exact hk_k _ | apply touches_Act_modRecorder | apply touches_Act_count | apply touches_Act_badValue | apply touches_Act_nvme | apply touches_Act_writeOut | apply Touches.setReg | apply Touches.all_cons | apply Touches.all_nil | apply Touches.seq | apply Touches.get | apply Touches.ite | exact Part.Sub.trans (by decide) hS | intro _ | split | dsimp only)

theorem touches_rdCmdDone {p : Nat} {ok : Bool} {data : List Byte} {S : List Part} (hS : Part.Sub [.regs, .mem, .evtNo, .upsets, .irqs, .mon] S) : Touches (rdCmdDone p ok data) S := by
  unfold rdCmdDone
  try dsimp only
  repeat' (with_reducible first | apply touches_Act_count | apply touches_Act_memWrite | apply touches_Act_rdEnd | apply Touches.setReg | apply Touches.seq | apply Touches.get | apply Touches.when | apply Touches.each | apply Touches.ite | exact Part.Sub.trans (by decide) hS | intro _ | split | dsimp only)

theorem touches_selWrite {ag : Agent} {p i : Nat} {second : Bool} {v : Word} {k : Code → Act} {S : List Part} (hS : Part.Sub [.regs, .evtNo, .upsets, .mon] S) (hk_k : ∀ x0, Touches (k x0) S) : Touches (selWrite ag p i second v k) S := by
  unfold selWrite
  try dsimp only
  repeat' (with_reducible first | exact hk_k _ | apply touches_Act_modRecorder | apply touches_Act_badValue | apply touches_Act_store | apply Touches.all_cons | apply Touches.all_nil | apply Touches.get | apply Touches.ite | exact Part.Sub.trans (by decide) hS | intro _ | split | dsimp only)

/-! ## Fleet -/

theorem touches_keepaliveSend  {S : List Part} (hS : Part.Sub [.regs, .evtNo, .upsets, .irqs, .sw, .sec, .plx, .freeCount] S) : Touches (keepaliveSend ) S := by
  unfold keepaliveSend
  try dsimp only
  repeat' (with_reducible first | apply touches_Act_kaSend | apply Touches.upd_of hS | apply Touches.seq | apply Touches.get | apply Touches.when | apply Touches.each | exact Part.Sub.trans (by decide) hS | intro _ | dsimp only)
  all_goals (intro s p hp; cases p <;> first | rfl | exact absurd (by decide) hp)

theorem touches_Act_kaRelay {m : EzMsg} {S : List Part} (hS : Part.Sub [.regs, .evtNo, .upsets, .irqs, .sw, .sec, .freeCount] S) : Touches (Act.kaRelay m) S := by
  unfold Act.kaRelay
  try dsimp only
  repeat' (with_reducible first | apply touches_Act_ezPost | apply touches_Act_ezRelayed | apply Touches.get | apply Touches.when | apply Touches.each | apply Touches.opt | exact Part.Sub.trans (by decide) hS | intro _ | dsimp only)

theorem touches_Act_kaAccept {m : EzMsg} {first : Bool} {S : List Part} (hS : Part.Sub [.regs, .evtNo, .upsets, .irqs, .sw, .sec, .plx, .io, .freeCount] S) : Touches (Act.kaAccept m first) S := by
  unfold Act.kaAccept
  try dsimp only
  repeat' (with_reducible first | apply touches_Act_setMember | apply touches_Act_censusUpdate | apply touches_Act_plxCount | apply touches_Act_pnSeen | apply touches_Act_kaRelay | apply Touches.all_cons | apply Touches.all_nil | apply Touches.get | apply Touches.ite | exact Part.Sub.trans (by decide) hS | intro _ | split | dsimp only)

theorem touches_keepaliveReceive {past : Bool} {S : List Part} (hS : Part.Sub [.regs, .evtNo, .upsets, .irqs, .sw, .sec, .plx, .io, .freeCount] S) : Touches (keepaliveReceive past) S := by
  unfold keepaliveReceive
  try dsimp only
  repeat' (with_reducible first | apply touches_Act_plxEvent | apply touches_Act_ezMember | apply touches_Act_kaAccept | apply Touches.get | apply Touches.when | exact Part.Sub.trans (by decide) hS | intro _ | dsimp only)

theorem touches_canKeepaliveReceive {p c : Nat} {b : List Byte} {S : List Part} (hS : Part.Sub [.regs, .evtNo, .upsets, .irqs, .io] S) : Touches (canKeepaliveReceive p c b) S := by
  unfold canKeepaliveReceive
  try dsimp only
  repeat' (with_reducible first | apply touches_Act_event | apply touches_Act_pnSeen | apply Touches.setReg | apply Touches.seq | apply Touches.get | apply Touches.when | exact Part.Sub.trans (by decide) hS | intro _ | dsimp only)

theorem touches_Act_ezRequest {dev opcode addr data origin : Nat} {k : Option Nat → Act} {S : List Part} (hS : Part.Sub [.regs, .evtNo, .upsets, .irqs, .sw, .sec, .plx, .freeCount] S) (hk_k : ∀ x0, Touches (k x0) S) : Touches (Act.ezRequest dev opcode addr data origin k) S := by
  unfold Act.ezRequest
  try dsimp only
  repeat' (with_reducible first | exact hk_k _ | apply touches_Act_plxEvent | apply touches_Act_plxCount | apply touches_Act_ezMake | apply touches_Act_ezPost | apply Touches.all_cons | apply Touches.all_nil | apply Touches.get | apply Touches.ite | exact Part.Sub.trans (by decide) hS | intro _ | split | dsimp only)

theorem touches_Act_ezReply {dev tag code : Nat} {data : List Byte} {S : List Part} (hS : Part.Sub [.regs, .evtNo, .upsets, .irqs, .sw, .sec, .plx, .freeCount] S) : Touches (Act.ezReply dev tag code data) S := by
  unfold Act.ezReply
  try dsimp only
  repeat' (with_reducible first | apply touches_Act_ezMake | apply touches_Act_ezPost | apply Touches.get | apply Touches.opt | exact Part.Sub.trans (by decide) hS | intro _ | dsimp only)

theorem touches_Act_ezForward {m : EzMsg} {S : List Part} (hS : Part.Sub [.regs, .evtNo, .upsets, .irqs, .sw, .sec, .freeCount] S) : Touches (Act.ezForward m) S := by
  unfold Act.ezForward
  try dsimp only
  repeat' (with_reducible first | apply touches_Act_ezPost | apply touches_Act_ezRelayed | apply Touches.get | apply Touches.when | apply Touches.opt | exact Part.Sub.trans (by decide) hS | intro _ | dsimp only)

theorem touches_Act_ezCommand {ty : Nat} {past : Bool} {k : EzMsg → Act} {S : List Part} (hS : Part.Sub [.regs, .evtNo, .upsets, .irqs, .sw, .sec, .plx, .freeCount] S) (hk_k : ∀ x0, Touches (k x0) S) : Touches (Act.ezCommand ty past k) S := by
  unfold Act.ezCommand
  try dsimp only
  repeat' (with_reducible first | exact hk_k _ | apply touches_Act_ezMember | apply touches_Act_ezForward | apply Touches.get | apply Touches.skip | apply Touches.ite | exact Part.Sub.trans (by decide) hS | intro _ | split | dsimp only)

theorem touches_dtCmd {ag : Agent} {v : Word} {k : Code → Act} {S : List Part} (hS : Part.Sub [.regs, .evtNo, .upsets, .plx] S) (hk_k : ∀ x0, Touches (k x0) S) : Touches (dtCmd ag v k) S := by
  unfold dtCmd
  try dsimp only
  repeat' (with_reducible first | exact hk_k _ | apply touches_Act_setMember | apply touches_Act_badValue | apply touches_Act_censusLeave | apply Touches.setReg | apply Touches.all_cons | apply Touches.all_nil | apply Touches.seq | apply Touches.get | apply Touches.ite | exact Part.Sub.trans (by decide) hS | intro _ | split | dsimp only)

theorem touches_Act_serveNote {gf serial : Nat} {S : List Part} (hS : Part.Sub [.plx] S) : Touches (Act.serveNote gf serial) S := by
  unfold Act.serveNote
  try dsimp only
  repeat' (with_reducible first | apply Touches.upd_of hS | exact Part.Sub.trans (by decide) hS | intro _ | dsimp only)
  all_goals (intro s p hp; cases p <;> first | rfl | exact absurd (by decide) hp)

theorem touches_bootReq {past : Bool} {S : List Part} (hS : Part.Sub [.regs, .evtNo, .upsets, .irqs, .sw, .sec, .plx, .freeCount] S) : Touches (bootReq past) S := by
  unfold bootReq
  try dsimp only
  repeat' (with_reducible first | apply touches_Act_plxCount | apply touches_Act_ezTake | apply touches_Act_ezMake | apply touches_Act_ezPost | apply touches_Act_serveNote | apply Touches.seq | apply Touches.get | apply Touches.when | apply Touches.ite | exact Part.Sub.trans (by decide) hS | intro _ | split | dsimp only)

theorem touches_chunkReq {past : Bool} {S : List Part} (hS : Part.Sub [.regs, .evtNo, .upsets, .irqs, .sw, .sec, .plx, .freeCount] S) : Touches (chunkReq past) S := by
  unfold chunkReq
  try dsimp only
  repeat' (with_reducible first | apply touches_Act_plxCount | apply touches_Act_ezTake | apply touches_Act_ezMake | apply touches_Act_ezPost | apply touches_Act_serveNote | apply Touches.all_cons | apply Touches.all_nil | apply Touches.get | apply Touches.when | apply Touches.opt | apply Touches.ite | exact Part.Sub.trans (by decide) hS | intro _ | split | dsimp only)

/-! ## Partition -/

theorem touches_Act_cpuCount {p k i : Nat} {S : List Part} (hS : Part.Sub [.regs, .evtNo, .upsets, .irqs] S) : Touches (Act.cpuCount p k i) S := by
  unfold Act.cpuCount
  try dsimp only
  repeat' (with_reducible first | apply touches_Act_count | exact Part.Sub.trans (by decide) hS | intro _ | dsimp only)

theorem touches_Act_slotEnter {p c i : Nat} {S : List Part} (hS : Part.Sub [.cpu] S) : Touches (Act.slotEnter p c i) S := by
  unfold Act.slotEnter
  try dsimp only
  repeat' (with_reducible first | apply touches_Act_setSlotOf | apply touches_Act_setSlotEdge | apply Touches.seq | apply Touches.get | exact Part.Sub.trans (by decide) hS | intro _ | dsimp only)

theorem touches_slotSwitch {p c : Nat} {S : List Part} (hS : Part.Sub [.cpu] S) : Touches (slotSwitch p c) S := by
  unfold slotSwitch
  try dsimp only
  repeat' (with_reducible first | apply touches_Act_slotEnter | apply Touches.get | apply Touches.when | apply Touches.opt | exact Part.Sub.trans (by decide) hS | intro _ | dsimp only)

theorem touches_Act_framesBegin {p : Nat} {S : List Part} (hS : Part.Sub [.cpu] S) : Touches (Act.framesBegin p) S := by
  unfold Act.framesBegin
  try dsimp only
  repeat' (with_reducible first | apply touches_Act_slotEnter | apply Touches.get | apply Touches.each | apply Touches.opt | exact Part.Sub.trans (by decide) hS | intro _ | dsimp only)

theorem touches_Act_dlinkDrop {d : Nat} {S : List Part} (hS : Part.Sub [.regs, .evtNo, .upsets, .irqs] S) : Touches (Act.dlinkDrop d) S := by
  unfold Act.dlinkDrop
  try dsimp only
  repeat' (with_reducible first | apply touches_Act_count | apply Touches.get | exact Part.Sub.trans (by decide) hS | intro _ | dsimp only)

theorem touches_Act_loadCmd {p k n : Nat} {v : Word} {S : List Part} (hS : Part.Sub [.regs, .evtNo, .upsets, .irqs, .io] S) : Touches (Act.loadCmd p k n v) S := by
  unfold Act.loadCmd
  try dsimp only
  repeat' (with_reducible first | apply touches_chnCmd | apply touches_Act_dlinkDrop | apply Touches.get | apply Touches.when | apply Touches.skip | apply Touches.ite | exact Part.Sub.trans (by decide) hS | intro _ | split | dsimp only)

theorem touches_Act_chFirmware {p n : Nat} {l : List (Fld × Nat)} {S : List Part} (hS : Part.Sub [.regs, .upsets, .cpu] S) : Touches (Act.chFirmware p n l) S := by
  unfold Act.chFirmware
  try dsimp only
  repeat' (with_reducible first | apply touches_Act_setAprAt | apply touches_Act_setFlds | apply Touches.seq | apply Touches.get | apply Touches.when | exact Part.Sub.trans (by decide) hS | intro _ | dsimp only)

theorem touches_Act_partStop {p k : Nat} {S : List Part} (hS : Part.Sub [.regs, .evtNo, .upsets, .irqs, .gw, .io, .cpu] S) : Touches (Act.partStop p k) S := by
  unfold Act.partStop
  try dsimp only
  repeat' (with_reducible first | apply touches_Act_modWpend | apply touches_Act_loadCmd | apply touches_Act_chFirmware | apply Touches.setReg | apply Touches.all_cons | apply Touches.all_nil | apply Touches.seq | apply Touches.get | apply Touches.when | apply Touches.each | exact Part.Sub.trans (by decide) hS | intro _ | dsimp only)

theorem touches_Act_partHalt {p k cause : Nat} {S : List Part} (hS : Part.Sub [.regs, .evtNo, .upsets, .irqs, .gw, .io, .cpu] S) : Touches (Act.partHalt p k cause) S := by
  unfold Act.partHalt
  try dsimp only
  repeat' (with_reducible first | apply touches_Act_modPart | apply touches_Act_setFld | apply touches_Act_event | apply touches_Act_cpuCount | apply touches_Act_partStop | apply Touches.all_cons | apply Touches.all_nil | exact Part.Sub.trans (by decide) hS | intro _ | dsimp only)

theorem touches_partitionHalt {p k cause : Nat} {S : List Part} (hS : Part.Sub [.regs, .evtNo, .upsets, .irqs, .gw, .io, .cpu] S) : Touches (partitionHalt p k cause) S := by
  unfold partitionHalt
  try dsimp only
  repeat' (with_reducible first | apply touches_Act_partHalt | apply Touches.get | apply Touches.when | exact Part.Sub.trans (by decide) hS | intro _ | dsimp only)

theorem touches_Act_partRestart {p k cause : Nat} {forget : Bool} {S : List Part} (hS : Part.Sub [.regs, .evtNo, .upsets, .irqs, .sw, .gw, .io, .cpu] S) : Touches (Act.partRestart p k cause forget) S := by
  unfold Act.partRestart
  try dsimp only
  repeat' (with_reducible first | apply touches_Act_modBuf | apply touches_Act_modPart | apply touches_Act_setRing | apply touches_Act_setFld | apply touches_Act_cpuCount | apply touches_Act_partStop | apply Touches.setReg | apply Touches.all_cons | apply Touches.all_nil | apply Touches.get | apply Touches.ite | exact Part.Sub.trans (by decide) hS | intro _ | split | dsimp only)

theorem touches_Act_safeStart {p k : Nat} {S : List Part} (hS : Part.Sub [.cpu] S) : Touches (Act.safeStart p k) S := by
  unfold Act.safeStart
  try dsimp only
  repeat' (with_reducible first | apply touches_Act_modSafePair | apply Touches.get | apply Touches.when | exact Part.Sub.trans (by decide) hS | intro _ | dsimp only)

theorem touches_Act_hartTrap {p k c cause loc : Nat} {S : List Part} (hS : Part.Sub [.cpu] S) : Touches (Act.hartTrap p k c cause loc) S := by
  unfold Act.hartTrap
  try dsimp only
  repeat' (with_reducible first | apply touches_Act_modPart | apply Touches.ite | apply Touches.all_map | exact Part.Sub.trans (by decide) hS | intro _ | split | dsimp only)

theorem touches_Act_partRun {p k : Nat} {S : List Part} (hS : Part.Sub [.regs, .upsets, .cpu] S) : Touches (Act.partRun p k) S := by
  unfold Act.partRun
  try dsimp only
  repeat' (with_reducible first | apply touches_Act_modPart | apply touches_Act_safeStart | apply Touches.setReg | apply Touches.all_cons | apply Touches.all_nil | apply Touches.get | exact Part.Sub.trans (by decide) hS | intro _ | dsimp only)

theorem touches_Act_partFail {p k : Nat} {S : List Part} (hS : Part.Sub [.regs, .upsets, .cpu] S) : Touches (Act.partFail p k) S := by
  unfold Act.partFail
  try dsimp only
  repeat' (with_reducible first | apply touches_Act_modPart | apply touches_Act_setFld | apply Touches.seq | exact Part.Sub.trans (by decide) hS | intro _ | dsimp only)

theorem touches_pcmdWrite {ag : Agent} {p : Nat} {v : Word} {cont : Code → Act} {S : List Part} (hS : Part.Sub [.regs, .evtNo, .upsets, .irqs, .sw, .gw, .io, .cpu] S) (hk_cont : ∀ x0, Touches (cont x0) S) : Touches (pcmdWrite ag p v cont) S := by
  unfold pcmdWrite
  try dsimp only
  repeat' (with_reducible first | exact hk_cont _ | apply touches_Act_badValue | apply touches_Act_partHalt | apply touches_Act_partRestart | apply Touches.setReg | apply Touches.all_cons | apply Touches.all_nil | apply Touches.seq | apply Touches.get | apply Touches.ite | exact Part.Sub.trans (by decide) hS | intro _ | split | dsimp only)

theorem touches_Act_wdtExpire {p k : Nat} {S : List Part} (hS : Part.Sub [.regs, .evtNo, .upsets, .irqs, .sw, .gw, .io, .cpu] S) : Touches (Act.wdtExpire p k) S := by
  unfold Act.wdtExpire
  try dsimp only
  repeat' (with_reducible first | apply touches_Act_event | apply touches_Act_cpuCount | apply touches_Act_partHalt | apply touches_Act_partRestart | apply Touches.all_cons | apply Touches.all_nil | apply Touches.get | apply Touches.ite | exact Part.Sub.trans (by decide) hS | intro _ | split | dsimp only)

theorem touches_kickWrite {ag : Agent} {p k : Nat} {v : Word} {cont : Code → Act} {S : List Part} (hS : Part.Sub [.regs, .evtNo, .upsets, .irqs, .sw, .gw, .io, .cpu] S) (hk_cont : ∀ x0, Touches (cont x0) S) : Touches (kickWrite ag p k v cont) S := by
  unfold kickWrite
  try dsimp only
  repeat' (with_reducible first | exact hk_cont _ | apply touches_Act_modPart | apply touches_Act_setFld | apply touches_Act_wdtExpire | apply Touches.seq | apply Touches.get | apply Touches.when | apply Touches.ite | exact Part.Sub.trans (by decide) hS | intro _ | split | dsimp only)

theorem touches_watchdogExpiry {p k : Nat} {S : List Part} (hS : Part.Sub [.regs, .evtNo, .upsets, .irqs, .sw, .gw, .io, .cpu] S) : Touches (watchdogExpiry p k) S := by
  unfold watchdogExpiry
  try dsimp only
  repeat' (with_reducible first | apply touches_Act_wdtExpire | apply Touches.get | apply Touches.when | exact Part.Sub.trans (by decide) hS | intro _ | dsimp only)

theorem touches_lockstepMismatch {p : Nat} {S : List Part} (hS : Part.Sub [.regs, .evtNo, .upsets, .irqs, .gw, .io, .cpu] S) : Touches (lockstepMismatch p) S := by
  unfold lockstepMismatch
  try dsimp only
  repeat' (with_reducible first | apply touches_Act_modSafePair | apply touches_Act_event | apply touches_Act_partHalt | apply Touches.all_cons | apply Touches.all_nil | apply Touches.get | apply Touches.when | apply Touches.each | exact Part.Sub.trans (by decide) hS | intro _ | dsimp only)

theorem touches_Act_irqEnter {p k : Nat} {r : IrqRec} {S : List Part} (hS : Part.Sub [.regs, .evtNo, .upsets, .irqs, .cpu] S) : Touches (Act.irqEnter p k r) S := by
  unfold Act.irqEnter
  try dsimp only
  repeat' (with_reducible first | apply touches_Act_modPart | apply touches_Act_event | apply touches_Act_cpuCount | apply Touches.all_cons | apply Touches.all_nil | apply Touches.seq | apply Touches.get | apply Touches.skip | apply Touches.ite | exact Part.Sub.trans (by decide) hS | intro _ | split | dsimp only)

theorem touches_interruptDelivery {p : Nat} {S : List Part} (hS : Part.Sub [.regs, .evtNo, .upsets, .irqs, .cpu] S) : Touches (interruptDelivery p) S := by
  unfold interruptDelivery
  try dsimp only
  repeat' (with_reducible first | apply touches_Act_irqEnter | apply Touches.upd_of hS | apply Touches.seq | apply Touches.get | apply Touches.each | apply Touches.skip | exact Part.Sub.trans (by decide) hS | intro _ | split | dsimp only)
  all_goals (intro s p hp; cases p <;> first | rfl | exact absurd (by decide) hp)

theorem touches_irqPop {ag : Agent} {p k : Nat} {cont : Code → Word → Act} {S : List Part} (hS : Part.Sub [.cpu] S) (hk_cont : ∀ x0 x1, Touches (cont x0 x1) S) : Touches (irqPop ag p k cont) S := by
  unfold irqPop
  try dsimp only
  repeat' (with_reducible first | exact hk_cont _ _ | apply touches_Act_modPart | apply Touches.seq | apply Touches.get | apply Touches.ite | exact Part.Sub.trans (by decide) hS | intro _ | split | dsimp only)

/-! ## Aperture -/

theorem touches_Act_aprViolate {p part kind entry reason target : Nat} {halt : Bool} {S : List Part} (hS : Part.Sub [.regs, .evtNo, .upsets, .irqs, .gw, .io, .cpu] S) : Touches (Act.aprViolate p part kind entry reason target halt) S := by
  unfold Act.aprViolate
  try dsimp only
  repeat' (with_reducible first | apply touches_Act_event | apply touches_Act_irq | apply touches_Act_cpuCount | apply touches_Act_partHalt | apply Touches.setReg | apply Touches.all_cons | apply Touches.all_nil | apply Touches.get | apply Touches.when | apply Touches.ite | exact Part.Sub.trans (by decide) hS | intro _ | split | dsimp only)

theorem touches_Act_aperture {p part kind target cost : Nat} {hit : Nat → Bool} {k : Option Nat → Act} {S : List Part} (hS : Part.Sub [.regs, .evtNo, .upsets, .irqs, .gw, .io, .cpu] S) (hk_k : ∀ x0, Touches (k x0) S) : Touches (Act.aperture p part kind target cost hit k) S := by
  unfold Act.aperture
  try dsimp only
  repeat' (with_reducible first | exact hk_k _ | apply touches_Act_setAprLevel | apply touches_Act_aprViolate | apply Touches.seq | apply Touches.get | apply Touches.ite | exact Part.Sub.trans (by decide) hS | intro _ | split | dsimp only)

theorem touches_Act_aprLimit {p part kind e target : Nat} {S : List Part} (hS : Part.Sub [.regs, .evtNo, .upsets, .irqs, .gw, .io, .cpu] S) : Touches (Act.aprLimit p part kind e target) S := by
  unfold Act.aprLimit
  try dsimp only
  repeat' (with_reducible first | apply touches_Act_aprViolate | apply Touches.get | exact Part.Sub.trans (by decide) hS | intro _ | dsimp only)

theorem touches_Act_aprClamp {p part kind e target : Nat} {S : List Part} (hS : Part.Sub [.regs, .evtNo, .upsets, .irqs, .gw, .io, .cpu] S) : Touches (Act.aprClamp p part kind e target) S := by
  unfold Act.aprClamp
  try dsimp only
  repeat' (with_reducible first | apply touches_Act_aprViolate | exact Part.Sub.trans (by decide) hS | intro _ | dsimp only)

theorem touches_Act_aprBlock {p part a : Nat} {v : Word} {dev : Option Nat} {lockv : Bool} {k : Bool → Act} {S : List Part} (hS : Part.Sub [.regs, .evtNo, .upsets, .irqs, .gw, .io, .cpu] S) (hk_k : ∀ x0, Touches (k x0) S) : Touches (Act.aprBlock p part a v dev lockv k) S := by
  unfold Act.aprBlock
  try dsimp only
  repeat' (with_reducible first | exact hk_k _ | apply touches_Act_aperture | apply touches_Act_aprLimit | apply Touches.seq | apply Touches.get | apply Touches.ite | exact Part.Sub.trans (by decide) hS | intro _ | split | dsimp only)

theorem touches_Act_aprSignal {p part a idx : Nat} {v : Word} {k : Option Word → Act} {S : List Part} (hS : Part.Sub [.regs, .evtNo, .upsets, .irqs, .gw, .io, .cpu] S) (hk_k : ∀ x0, Touches (k x0) S) : Touches (Act.aprSignal p part a idx v k) S := by
  unfold Act.aprSignal
  try dsimp only
  repeat' (with_reducible first | exact hk_k _ | apply touches_Act_aperture | apply touches_Act_aprClamp | apply Touches.seq | apply Touches.get | apply Touches.ite | exact Part.Sub.trans (by decide) hS | intro _ | split | dsimp only)

theorem touches_Act_chnPassed {p part n e : Nat} {v : Word} {S : List Part} (hS : Part.Sub [.regs, .upsets, .cpu] S) : Touches (Act.chnPassed p part n e v) S := by
  unfold Act.chnPassed
  try dsimp only
  repeat' (with_reducible first | apply touches_Act_chFirmware | apply Touches.get | apply Touches.ite | exact Part.Sub.trans (by decide) hS | intro _ | split | dsimp only)

theorem touches_Act_aprLoad {p part n : Nat} {v : Word} {k : Option Word → Act} {S : List Part} (hS : Part.Sub [.regs, .evtNo, .upsets, .irqs, .gw, .io, .cpu] S) (hk_k : ∀ x0, Touches (k x0) S) : Touches (Act.aprLoad p part n v k) S := by
  unfold Act.aprLoad
  try dsimp only
  repeat' (with_reducible first | exact hk_k _ | apply touches_Act_aperture | apply touches_Act_aprLimit | apply touches_Act_aprClamp | apply touches_Act_chnPassed | apply Touches.all_cons | apply Touches.all_nil | apply Touches.seq | apply Touches.get | apply Touches.when | apply Touches.ite | exact Part.Sub.trans (by decide) hS | intro _ | split | dsimp only)

theorem touches_maxOnExpire {p n : Nat} {S : List Part} (hS : Part.Sub [.regs, .evtNo, .upsets, .irqs, .gw, .io, .cpu] S) : Touches (maxOnExpire p n) S := by
  unfold maxOnExpire
  try dsimp only
  repeat' (with_reducible first | apply touches_Act_loadCmd | apply touches_Act_chFirmware | apply touches_Act_aprLimit | apply Touches.all_cons | apply Touches.all_nil | apply Touches.get | apply Touches.when | exact Part.Sub.trans (by decide) hS | intro _ | dsimp only)

theorem touches_aprRead {p : Nat} {v : Word} {k : Code → Act} {S : List Part} (hS : Part.Sub [.regs, .upsets] S) (hk_k : ∀ x0, Touches (k x0) S) : Touches (aprRead p v k) S := by
  unfold aprRead
  try dsimp only
  repeat' (with_reducible first | exact hk_k _ | apply Touches.setReg | apply Touches.all_cons | apply Touches.all_nil | apply Touches.get | apply Touches.each | exact Part.Sub.trans (by decide) hS | intro _ | dsimp only)

theorem touches_Act_aprFrame {p part : Nat} {named : Bool} {fr : Frame} {k : Option (Frame × Bool) → Act} {S : List Part} (hS : Part.Sub [.regs, .evtNo, .upsets, .irqs, .gw, .io, .cpu] S) (hk_k : ∀ x0, Touches (k x0) S) : Touches (Act.aprFrame p part named fr k) S := by
  unfold Act.aprFrame
  try dsimp only
  repeat' (with_reducible first | exact hk_k _ | apply touches_Act_aperture | apply touches_Act_aprClamp | apply Touches.seq | apply Touches.get | apply Touches.ite | exact Part.Sub.trans (by decide) hS | intro _ | split | dsimp only)

theorem touches_Act_aprBus {p part q : Nat} {b : List Byte} {k : Bool → Act} {S : List Part} (hS : Part.Sub [.regs, .evtNo, .upsets, .irqs, .gw, .io, .cpu] S) (hk_k : ∀ x0, Touches (k x0) S) : Touches (Act.aprBus p part q b k) S := by
  unfold Act.aprBus
  try dsimp only
  repeat' (with_reducible first | exact hk_k _ | apply touches_Act_aperture | apply touches_Act_aprLimit | apply Touches.seq | apply Touches.get | apply Touches.ite | exact Part.Sub.trans (by decide) hS | intro _ | split | dsimp only)

/-! ## Transmit -/

theorem touches_Act_txComplete {p k result : Nat} {clamped irq : Bool} {S : List Part} (hS : Part.Sub [.regs, .mem, .upsets, .irqs, .cpu] S) : Touches (Act.txComplete p k result clamped irq) S := by
  unfold Act.txComplete
  try dsimp only
  repeat' (with_reducible first | apply touches_Act_setRing | apply touches_Act_setFld | apply touches_Act_irq | apply touches_Act_memSetWord | apply Touches.all_cons | apply Touches.all_nil | apply Touches.get | apply Touches.when | exact Part.Sub.trans (by decide) hS | intro _ | dsimp only)

theorem touches_Act_txSettleRing {p k : Nat} {S : List Part} (hS : Part.Sub [.regs, .mem, .evtNo, .upsets, .irqs, .cpu, .freeCount] S) : Touches (Act.txSettleRing p k) S := by
  unfold Act.txSettleRing
  try dsimp only
  repeat' (with_reducible first | apply touches_Act_freeBelow | apply touches_Act_cpuCount | apply touches_Act_txComplete | apply Touches.seq | apply Touches.get | apply Touches.when | apply Touches.ite | exact Part.Sub.trans (by decide) hS | intro _ | split | dsimp only)

theorem touches_Act_txSettle {p : Nat} {S : List Part} (hS : Part.Sub [.regs, .mem, .evtNo, .upsets, .irqs, .cpu, .freeCount] S) : Touches (Act.txSettle p) S := by
  unfold Act.txSettle
  try dsimp only
  repeat' (with_reducible first | apply touches_Act_txSettleRing | apply Touches.each | exact Part.Sub.trans (by decide) hS | intro _ | dsimp only)

theorem touches_Act_txOffer {p k : Nat} {irq clamped : Bool} {fr : Frame} {looked : Bool} {S : List Part} (hS : Part.Sub [.sw, .cpu] S) : Touches (Act.txOffer p k irq clamped fr looked) S := by
  unfold Act.txOffer
  try dsimp only
  repeat' (with_reducible first | apply touches_Act_setRing | apply touches_Act_intake | apply Touches.seq | apply Touches.get | exact Part.Sub.trans (by decide) hS | intro _ | dsimp only)

theorem touches_Act_txServe {p k : Nat} {S : List Part} (hS : Part.Sub [.regs, .mem, .evtNo, .upsets, .irqs, .sw, .gw, .io, .cpu] S) : Touches (Act.txServe p k) S := by
  unfold Act.txServe
  try dsimp only
  repeat' (with_reducible first | apply touches_Act_cpuCount | apply touches_Act_aprFrame | apply touches_Act_aprBus | apply touches_Act_txComplete | apply touches_Act_txOffer | apply Touches.seq | apply Touches.get | apply Touches.ite | exact Part.Sub.trans (by decide) hS | intro _ | split | dsimp only)

theorem touches_txDescriptor {p : Nat} {S : List Part} (hS : Part.Sub [.regs, .mem, .evtNo, .upsets, .irqs, .sw, .gw, .io, .cpu, .freeCount] S) : Touches (txDescriptor p) S := by
  unfold txDescriptor
  try dsimp only
  repeat' (with_reducible first | apply touches_Act_setServedRing | apply touches_Act_txSettle | apply touches_Act_txServe | apply Touches.seq | apply Touches.get | apply Touches.opt | apply Touches.all_map | exact Part.Sub.trans (by decide) hS | intro _ | dsimp only)

theorem touches_Act_txChecked {p : Nat} {S : List Part} (hS : Part.Sub [.regs, .evtNo, .upsets, .irqs, .sw, .gw, .io, .cpu] S) : Touches (Act.txChecked p) S := by
  unfold Act.txChecked
  try dsimp only
  repeat' (with_reducible first | apply touches_Act_modBuf | apply touches_Act_modRing | apply touches_Act_aprFrame | apply Touches.seq | apply Touches.get | apply Touches.opt | apply Touches.ite | exact Part.Sub.trans (by decide) hS | intro _ | split | dsimp only)

theorem touches_lookedUp {p f : Nat} {busy : Bool} {S : List Part} (hS : Part.Sub [.regs, .tbls, .mem, .evtNo, .upsets, .irqs, .sw, .gw, .io, .cpu, .freeCount] S) : Touches (lookedUp p f busy) S := by
  unfold lookedUp
  try dsimp only
  repeat' (with_reducible first | apply touches_frameLookup | apply touches_Act_txSettle | apply touches_Act_txChecked | apply Touches.seq | apply Touches.when | exact Part.Sub.trans (by decide) hS | intro _ | dsimp only)

theorem touches_admitted {p f : Nat} {a : Act} {S : List Part} (hS : Part.Sub [.regs, .mem, .evtNo, .upsets, .irqs, .cpu, .freeCount] S) (hk_a : Touches (a) S) : Touches (admitted p f a) S := by
  unfold admitted
  try dsimp only
  repeat' (with_reducible first | exact hk_a | apply touches_Act_txSettle | apply Touches.seq | apply Touches.when | exact Part.Sub.trans (by decide) hS | intro _ | dsimp only)

theorem touches_txrWrite {ag : Agent} {p k : Nat} {second : Bool} {v : Word} {cont : Code → Act} {S : List Part} (hS : Part.Sub [.regs, .evtNo, .upsets] S) (hk_cont : ∀ x0, Touches (cont x0) S) : Touches (txrWrite ag p k second v cont) S := by
  unfold txrWrite
  try dsimp only
  repeat' (with_reducible first | exact hk_cont _ | apply touches_Act_badValue | apply touches_Act_store | apply Touches.seq | apply Touches.get | apply Touches.ite | exact Part.Sub.trans (by decide) hS | intro _ | split | dsimp only)

/-! ## Reset -/

theorem touches_Act_islandOff {d : Nat} {S : List Part} (hS : Part.Sub [.regs, .evtNo, .upsets, .sup, .io] S) : Touches (Act.islandOff d) S := by
  unfold Act.islandOff
  try dsimp only
  repeat' (with_reducible first | apply touches_Act_setChan | apply touches_Act_modDrv | apply touches_Act_setSup | apply Touches.resetRegs | apply Touches.upd_of hS | apply Touches.all_cons | apply Touches.all_nil | apply Touches.each | exact Part.Sub.trans (by decide) hS | intro _ | dsimp only)
  all_goals (intro s p hp; cases p <;> first | rfl | exact absurd (by decide) hp)

theorem touches_Act_islandOn {d : Nat} {S : List Part} (hS : Part.Sub [.regs, .evtNo, .upsets, .irqs, .sup, .io] S) : Touches (Act.islandOn d) S := by
  unfold Act.islandOn
  try dsimp only
  repeat' (with_reducible first | apply touches_Act_modDrv | apply touches_Act_setSup | apply touches_Act_chSettleAll | apply touches_Act_chFollow | apply Touches.all_cons | apply Touches.all_nil | apply Touches.get | apply Touches.when | apply Touches.each | apply Touches.all_map | exact Part.Sub.trans (by decide) hS | intro _ | dsimp only)

theorem touches_Act_chanWarm {d c : Nat} {S : List Part} (hS : Part.Sub [.regs, .upsets, .io] S) : Touches (Act.chanWarm d c) S := by
  unfold Act.chanWarm
  try dsimp only
  repeat' (with_reducible first | apply touches_Act_modChan | apply Touches.setReg | apply Touches.seq | apply Touches.get | apply Touches.ite | apply Touches.all_map | exact Part.Sub.trans (by decide) hS | intro _ | split | dsimp only)

theorem touches_Act_drivesReset {cold : Bool} {S : List Part} (hS : Part.Sub [.regs, .evtNo, .upsets, .irqs, .sup, .io] S) : Touches (Act.drivesReset cold) S := by
  unfold Act.drivesReset
  try dsimp only
  repeat' (with_reducible first | apply touches_Act_chSettleAll | apply touches_Act_islandOff | apply touches_Act_chanWarm | apply Touches.seq | apply Touches.get | apply Touches.when | apply Touches.each | apply Touches.ite | exact Part.Sub.trans (by decide) hS | intro _ | split | dsimp only)

theorem touches_Act_flashUndefined {a n : Nat} {S : List Part} (hS : Part.Sub [.flash, .freeCount] S) : Touches (Act.flashUndefined a n) S := by
  unfold Act.flashUndefined
  try dsimp only
  repeat' (with_reducible first | apply touches_Act_freeBytes | apply Touches.setFlash | apply Touches.all_cons | apply Touches.all_nil | apply Touches.all_map | exact Part.Sub.trans (by decide) hS | intro _ | dsimp only)

theorem touches_Act_flashCut  {S : List Part} (hS : Part.Sub [.flash, .freeCount] S) : Touches (Act.flashCut ) S := by
  unfold Act.flashCut
  try dsimp only
  repeat' (with_reducible first | apply touches_Act_flashUndefined | apply Touches.seq | apply Touches.get | apply Touches.opt | apply Touches.skip | exact Part.Sub.trans (by decide) hS | intro _ | split | dsimp only)

theorem touches_Act_resetAll {cold : Bool} {S : List Part} (hS : Part.Sub [.regs, .tbls, .mem, .flash, .evtNo, .lockedRegs, .onceRegs, .upsets, .mismatches, .posted, .compat, .pends, .eyeReset, .irqs, .sup, .prism, .start, .clk, .ld, .sw, .nets, .gw, .mon, .sec, .plx, .io, .cpu, .freeCount] S) : Touches (Act.resetAll cold) S := by
  unfold Act.resetAll
  try dsimp only
  repeat' (with_reducible first | apply touches_Act_drivesReset | apply touches_Act_flashCut | apply Touches.resetRegs | apply Touches.dropTbls | apply Touches.dropMem | apply Touches.upd_of hS | apply Touches.all_cons | apply Touches.all_nil | exact Part.Sub.trans (by decide) hS | intro _ | dsimp only)
  all_goals (intro s p hp; cases p <;> first | rfl | exact absurd (by decide) hp)

theorem touches_Act_recordReset {b : Nat} {l : List (Fld × Nat)} {S : List Part} (hS : Part.Sub [.regs, .evtNo, .upsets, .start] S) : Touches (Act.recordReset b l) S := by
  unfold Act.recordReset
  try dsimp only
  repeat' (with_reducible first | apply touches_Act_setFld | apply touches_Act_setFlds | apply touches_Act_bumpFld | apply touches_Act_noteEvt | apply touches_Act_event | apply touches_Act_setStart | apply Touches.setReg | apply Touches.all_cons | apply Touches.all_nil | apply Touches.seq | apply Touches.get | apply Touches.when | apply Touches.ite | exact Part.Sub.trans (by decide) hS | intro _ | split | dsimp only)

theorem touches_Act_internalOnly {reason : Nat} {S : List Part} (hS : Part.Sub [.regs, .upsets, .clk] S) : Touches (Act.internalOnly reason) S := by
  unfold Act.internalOnly
  try dsimp only
  repeat' (with_reducible first | apply touches_Act_setFld | apply Touches.upd_of hS | apply Touches.seq | exact Part.Sub.trans (by decide) hS | intro _ | dsimp only)
  all_goals (intro s p hp; cases p <;> first | rfl | exact absurd (by decide) hp)

theorem touches_Act_stepEight  {S : List Part} (hS : Part.Sub [.start, .ld, .sec, .freeCount] S) : Touches (Act.stepEight ) S := by
  unfold Act.stepEight
  try dsimp only
  repeat' (with_reducible first | apply touches_Act_freeBytes | apply touches_Act_modKstore | apply touches_Act_setStart | apply Touches.upd_of hS | apply Touches.all_cons | apply Touches.all_nil | apply Touches.get | apply Touches.each | apply Touches.ite | exact Part.Sub.trans (by decide) hS | intro _ | split | dsimp only)
  all_goals (intro s p hp; cases p <;> first | rfl | exact absurd (by decide) hp)

theorem touches_Act_lidSample  {S : List Part} (hS : Part.Sub [.regs, .evtNo, .upsets, .sec] S) : Touches (Act.lidSample ) S := by
  unfold Act.lidSample
  try dsimp only
  repeat' (with_reducible first | apply touches_Act_event | apply Touches.upd_of hS | apply Touches.seq | apply Touches.get | apply Touches.when | apply Touches.ite | exact Part.Sub.trans (by decide) hS | intro _ | split | dsimp only)
  all_goals (intro s p hp; cases p <;> first | rfl | exact absurd (by decide) hp)

theorem touches_Act_fuseTrims  {S : List Part} (hS : Part.Sub [.regs, .upsets] S) : Touches (Act.fuseTrims ) S := by
  unfold Act.fuseTrims
  try dsimp only
  repeat' (with_reducible first | apply touches_Act_setFld | apply touches_Act_setFlds | apply Touches.get | apply Touches.each | apply Touches.skip | apply Touches.ite | exact Part.Sub.trans (by decide) hS | intro _ | split | dsimp only)

theorem touches_Act_stepSix  {S : List Part} (hS : Part.Sub [.regs, .evtNo, .upsets, .start, .clk, .ld, .sw, .sec, .io, .freeCount] S) : Touches (Act.stepSix ) S := by
  unfold Act.stepSix
  try dsimp only
  repeat' (with_reducible first | apply touches_Act_modDrv | apply touches_Act_setFabOff | apply touches_Act_setFlds | apply touches_Act_setStart | apply touches_Act_updIo | apply touches_Act_internalOnly | apply touches_Act_stepEight | apply touches_Act_lidSample | apply touches_Act_fuseTrims | apply Touches.setReg | apply Touches.upd_of hS | apply Touches.all_cons | apply Touches.all_nil | apply Touches.seq | apply Touches.get | apply Touches.when | apply Touches.each | exact Part.Sub.trans (by decide) hS | intro _ | dsimp only)
  all_goals (intro s p hp; cases p <;> first | rfl | exact absurd (by decide) hp)

theorem touches_Act_resume  {S : List Part} (hS : Part.Sub [.regs, .evtNo, .upsets, .start, .clk, .ld, .sw, .sec, .io, .freeCount] S) : Touches (Act.resume ) S := by
  unfold Act.resume
  try dsimp only
  repeat' (with_reducible first | apply touches_Act_stepSix | apply Touches.get | apply Touches.when | exact Part.Sub.trans (by decide) hS | intro _ | dsimp only)

theorem touches_Act_packageReset {cold : Bool} {b : Nat} {l : List (Fld × Nat)} {S : List Part} (hS : Part.Sub [.regs, .tbls, .mem, .flash, .evtNo, .lockedRegs, .onceRegs, .upsets, .mismatches, .posted, .compat, .pends, .eyeReset, .irqs, .sup, .prism, .start, .clk, .ld, .sw, .nets, .gw, .mon, .sec, .plx, .io, .cpu, .freeCount] S) : Touches (Act.packageReset cold b l) S := by
  unfold Act.packageReset
  try dsimp only
  repeat' (with_reducible first | apply touches_Act_updIo | apply touches_Act_resetAll | apply touches_Act_recordReset | apply touches_Act_resume | apply Touches.upd_of hS | apply Touches.all_cons | apply Touches.all_nil | apply Touches.ite | exact Part.Sub.trans (by decide) hS | intro _ | split | dsimp only)
  all_goals (intro s p hp; cases p <;> first | rfl | exact absurd (by decide) hp)

theorem touches_Act_setSeq {f : Sequencer → Sequencer} {S : List Part} (hS : Part.Sub [.seq] S) : Touches (Act.setSeq f) S := by
  unfold Act.setSeq
  try dsimp only
  repeat' (with_reducible first | apply Touches.upd_of hS | exact Part.Sub.trans (by decide) hS | intro _ | dsimp only)
  all_goals (intro s p hp; cases p <;> first | rfl | exact absurd (by decide) hp)

theorem touches_Act_stageOn {st : Stage} {S : List Part} (hS : Part.Sub [.seq] S) : Touches (Act.stageOn st) S := by
  unfold Act.stageOn
  try dsimp only
  repeat' (with_reducible first | apply touches_Act_setSeq | apply Touches.get | exact Part.Sub.trans (by decide) hS | intro _ | dsimp only)

theorem touches_Act_attempt  {S : List Part} (hS : Part.Sub [.regs, .evtNo, .upsets, .irqs, .seq, .sup, .io] S) : Touches (Act.attempt ) S := by
  unfold Act.attempt
  try dsimp only
  repeat' (with_reducible first | apply touches_Act_islandOn | apply touches_Act_setSeq | apply touches_Act_stageOn | apply Touches.all_cons | apply Touches.all_nil | apply Touches.get | apply Touches.each | exact Part.Sub.trans (by decide) hS | intro _ | dsimp only)

theorem touches_Act_enablesOff {st : Stage} {S : List Part} (hS : Part.Sub [.seq] S) : Touches (Act.enablesOff st) S := by
  unfold Act.enablesOff
  try dsimp only
  repeat' (with_reducible first | apply touches_Act_setSeq | exact Part.Sub.trans (by decide) hS | intro _ | dsimp only)

theorem touches_Act_regFail {k kind : Nat} {S : List Part} (hS : Part.Sub [.regs, .tbls, .mem, .flash, .evtNo, .lockedRegs, .onceRegs, .upsets, .mismatches, .posted, .compat, .pends, .eyeReset, .irqs, .seq, .sup, .prism, .start, .clk, .ld, .sw, .nets, .gw, .mon, .sec, .plx, .io, .cpu, .freeCount] S) : Touches (Act.regFail k kind) S := by
  unfold Act.regFail
  try dsimp only
  repeat' (with_reducible first | apply touches_Act_pinEnter | apply touches_Act_islandOn | apply touches_Act_packageReset | apply touches_Act_setSeq | apply touches_Act_enablesOff | apply Touches.all_cons | apply Touches.all_nil | apply Touches.seq | apply Touches.get | apply Touches.when | apply Touches.each | apply Touches.ite | exact Part.Sub.trans (by decide) hS | intro _ | split | dsimp only)

end Sys2Proof.Machine
end

