-- ==== Sys2Proof/Laws/Frame/Group6.lean ====
section
/-! SUPPORT. Which parts of the state the operations of Supply, Gateway, Keys, Cipher, Tables, Blocks, Watch may change. -/

set_option linter.unusedTactic false
set_option linter.unreachableTactic false

namespace Sys2Proof.Machine

/-! ## Supply -/

theorem touches_Act_vbatIs {d v : Nat} {S : List Part} (hS : Part.Sub [.sup] S) : Touches (Act.vbatIs d v) S := by
  unfold Act.vbatIs
  try dsimp only
  repeat' (with_reducible first | apply touches_Act_setSup | exact Part.Sub.trans (by decide) hS | intro _ | dsimp only)

theorem touches_vbatSample {d v : Nat} {S : List Part} (hS : Part.Sub [.sup] S) : Touches (vbatSample d v) S := by
  unfold vbatSample
  try dsimp only
  repeat' (with_reducible first | apply touches_Act_vbatIs | apply Touches.get | apply Touches.when | exact Part.Sub.trans (by decide) hS | intro _ | dsimp only)

theorem touches_Act_minmaxClear {d : Nat} {S : List Part} (hS : Part.Sub [.sup] S) : Touches (Act.minmaxClear d) S := by
  unfold Act.minmaxClear
  try dsimp only
  repeat' (with_reducible first | apply touches_Act_setSup | exact Part.Sub.trans (by decide) hS | intro _ | dsimp only)

theorem touches_powerOn {d v boot clk : Nat} {S : List Part} (hS : Part.Sub [.regs, .evtNo, .upsets, .irqs, .sup, .clk, .io] S) : Touches (powerOn d v boot clk) S := by
  unfold powerOn
  try dsimp only
  repeat' (with_reducible first | apply touches_Act_setSup | apply touches_Act_islandOn | apply Touches.upd_of hS | apply Touches.all_cons | apply Touches.all_nil | apply Touches.get | apply Touches.when | exact Part.Sub.trans (by decide) hS | intro _ | dsimp only)
  all_goals (intro s p hp; cases p <;> first | rfl | exact absurd (by decide) hp)

theorem touches_Act_dieDefaults {d : Nat} {S : List Part} (hS : Part.Sub [.regs, .evtNo, .onceRegs, .upsets, .posted, .compat, .sup, .nets, .io] S) : Touches (Act.dieDefaults d) S := by
  unfold Act.dieDefaults
  try dsimp only
  repeat' (with_reducible first | apply touches_Act_setXcvr | apply touches_Act_setChan | apply touches_Act_setDrv | apply touches_Act_setSup | apply Touches.resetRegs | apply Touches.upd_of hS | apply Touches.all_cons | apply Touches.all_nil | apply Touches.each | exact Part.Sub.trans (by decide) hS | intro _ | dsimp only)
  all_goals (intro s p hp; cases p <;> first | rfl | exact absurd (by decide) hp)

theorem touches_powerOnReset {d v : Nat} {S : List Part} (hS : Part.Sub [.regs, .tbls, .mem, .flash, .evtNo, .lockedRegs, .onceRegs, .upsets, .mismatches, .posted, .compat, .pends, .eyeReset, .irqs, .seq, .sup, .prism, .start, .clk, .ld, .sw, .nets, .gw, .mon, .sec, .plx, .io, .cpu, .freeCount] S) : Touches (powerOnReset d v) S := by
  unfold powerOnReset
  try dsimp only
  repeat' (with_reducible first | apply touches_Act_setSup | apply touches_Act_resetAll | apply touches_Act_dieDefaults | apply Touches.resetRegs | apply Touches.upd_of hS | apply Touches.all_cons | apply Touches.all_nil | apply Touches.get | apply Touches.when | apply Touches.each | apply Touches.ite | exact Part.Sub.trans (by decide) hS | intro _ | split | dsimp only)
  all_goals (intro s p hp; cases p <;> first | rfl | exact absurd (by decide) hp)

theorem touches_vbatResetRelease {v : Nat} {S : List Part} (hS : Part.Sub [.regs, .evtNo, .upsets, .irqs, .seq, .sup, .io] S) : Touches (vbatResetRelease v) S := by
  unfold vbatResetRelease
  try dsimp only
  repeat' (with_reducible first | apply touches_Act_setSup | apply touches_Act_attempt | apply Touches.seq | apply Touches.get | apply Touches.when | exact Part.Sub.trans (by decide) hS | intro _ | dsimp only)

theorem touches_vbatLow {v : Nat} {S : List Part} (hS : Part.Sub [.regs, .tbls, .mem, .flash, .evtNo, .lockedRegs, .onceRegs, .upsets, .mismatches, .posted, .compat, .pends, .eyeReset, .irqs, .seq, .sup, .prism, .start, .clk, .ld, .sw, .nets, .gw, .mon, .sec, .plx, .io, .cpu, .freeCount] S) : Touches (vbatLow v) S := by
  unfold vbatLow
  try dsimp only
  repeat' (with_reducible first | apply touches_Act_setSup | apply touches_Act_packageReset | apply touches_Act_setSeq | apply Touches.all_cons | apply Touches.all_nil | apply Touches.get | apply Touches.when | exact Part.Sub.trans (by decide) hS | intro _ | dsimp only)

theorem touches_sagWarning {d v : Nat} {S : List Part} (hS : Part.Sub [.regs, .evtNo, .upsets, .irqs, .sup] S) : Touches (sagWarning d v) S := by
  unfold sagWarning
  try dsimp only
  repeat' (with_reducible first | apply touches_Act_eventIrq | apply touches_Act_setSup | apply Touches.all_cons | apply Touches.all_nil | apply Touches.get | apply Touches.when | exact Part.Sub.trans (by decide) hS | intro _ | dsimp only)

theorem touches_sagEnd {d v : Nat} {S : List Part} (hS : Part.Sub [.regs, .evtNo, .upsets, .irqs, .sup, .io] S) : Touches (sagEnd d v) S := by
  unfold sagEnd
  try dsimp only
  repeat' (with_reducible first | apply touches_Act_eventIrq | apply touches_Act_setSup | apply touches_Act_admSettle | apply Touches.all_cons | apply Touches.all_nil | apply Touches.get | apply Touches.when | exact Part.Sub.trans (by decide) hS | intro _ | dsimp only)

theorem touches_ovWarn {d v : Nat} {S : List Part} (hS : Part.Sub [.regs, .evtNo, .upsets, .sup] S) : Touches (ovWarn d v) S := by
  unfold ovWarn
  try dsimp only
  repeat' (with_reducible first | apply touches_Act_event | apply touches_Act_setSup | apply Touches.all_cons | apply Touches.all_nil | apply Touches.get | apply Touches.when | exact Part.Sub.trans (by decide) hS | intro _ | dsimp only)

theorem touches_ovWarnEnd {d v : Nat} {S : List Part} (hS : Part.Sub [.sup] S) : Touches (ovWarnEnd d v) S := by
  unfold ovWarnEnd
  try dsimp only
  repeat' (with_reducible first | apply touches_Act_setSup | apply Touches.get | apply Touches.when | exact Part.Sub.trans (by decide) hS | intro _ | dsimp only)

theorem touches_ovOpen {d v : Nat} {S : List Part} (hS : Part.Sub [.regs, .evtNo, .upsets, .irqs, .sup, .io] S) : Touches (ovOpen d v) S := by
  unfold ovOpen
  try dsimp only
  repeat' (with_reducible first | apply touches_Act_event | apply touches_Act_setSup | apply touches_Act_chSettleAll | apply Touches.all_cons | apply Touches.all_nil | apply Touches.get | apply Touches.when | exact Part.Sub.trans (by decide) hS | intro _ | dsimp only)

theorem touches_ovEnd {d v : Nat} {S : List Part} (hS : Part.Sub [.regs, .evtNo, .upsets, .irqs, .sup, .io] S) : Touches (ovEnd d v) S := by
  unfold ovEnd
  try dsimp only
  repeat' (with_reducible first | apply touches_Act_event | apply touches_Act_setSup | apply touches_Act_chSettleAll | apply Touches.all_cons | apply Touches.all_nil | apply Touches.get | apply Touches.when | exact Part.Sub.trans (by decide) hS | intro _ | dsimp only)

theorem touches_stageSuccess {t : Nat} {S : List Part} (hS : Part.Sub [.regs, .evtNo, .upsets, .seq, .start, .clk, .ld, .sw, .sec, .io, .freeCount] S) : Touches (stageSuccess t) S := by
  unfold stageSuccess
  try dsimp only
  repeat' (with_reducible first | apply touches_Act_resume | apply touches_Act_setSeq | apply touches_Act_stageOn | apply Touches.seq | apply Touches.get | apply Touches.skip | apply Touches.ite | exact Part.Sub.trans (by decide) hS | intro _ | split | dsimp only)

theorem touches_stageFail {k : Nat} {S : List Part} (hS : Part.Sub [.regs, .tbls, .mem, .flash, .evtNo, .lockedRegs, .onceRegs, .upsets, .mismatches, .posted, .compat, .pends, .eyeReset, .irqs, .seq, .sup, .prism, .start, .clk, .ld, .sw, .nets, .gw, .mon, .sec, .plx, .io, .cpu, .freeCount] S) : Touches (stageFail k) S := by
  unfold stageFail
  try dsimp only
  repeat' (with_reducible first | apply touches_Act_regFail | apply Touches.get | apply Touches.when | exact Part.Sub.trans (by decide) hS | intro _ | dsimp only)

theorem touches_regulatorRetry  {S : List Part} (hS : Part.Sub [.regs, .evtNo, .upsets, .irqs, .seq, .sup, .io] S) : Touches (regulatorRetry ) S := by
  unfold regulatorRetry
  try dsimp only
  repeat' (with_reducible first | apply touches_Act_attempt | apply Touches.get | apply Touches.when | exact Part.Sub.trans (by decide) hS | intro _ | dsimp only)

theorem touches_pgLost {k : Nat} {S : List Part} (hS : Part.Sub [.regs, .tbls, .mem, .flash, .evtNo, .lockedRegs, .onceRegs, .upsets, .mismatches, .posted, .compat, .pends, .eyeReset, .irqs, .seq, .sup, .prism, .start, .clk, .ld, .sw, .nets, .gw, .mon, .sec, .plx, .io, .cpu, .freeCount] S) : Touches (pgLost k) S := by
  unfold pgLost
  try dsimp only
  repeat' (with_reducible first | apply touches_Act_event | apply touches_Act_regFail | apply Touches.seq | apply Touches.get | apply Touches.when | apply Touches.ite | exact Part.Sub.trans (by decide) hS | intro _ | split | dsimp only)

theorem touches_coreDroop {p mv : Nat} {S : List Part} (hS : Part.Sub [.regs, .evtNo, .upsets, .prism] S) : Touches (coreDroop p mv) S := by
  unfold coreDroop
  try dsimp only
  repeat' (with_reducible first | apply touches_Act_event | apply touches_Act_setPsup | apply Touches.seq | apply Touches.get | apply Touches.when | exact Part.Sub.trans (by decide) hS | intro _ | dsimp only)

theorem touches_coreDroopEnd {p mv : Nat} {S : List Part} (hS : Part.Sub [.prism] S) : Touches (coreDroopEnd p mv) S := by
  unfold coreDroopEnd
  try dsimp only
  repeat' (with_reducible first | apply touches_Act_setPsup | apply Touches.get | apply Touches.when | exact Part.Sub.trans (by decide) hS | intro _ | dsimp only)

theorem touches_vcoreRegulatorFail {p mv : Nat} {S : List Part} (hS : Part.Sub [.regs, .tbls, .mem, .flash, .evtNo, .lockedRegs, .onceRegs, .upsets, .mismatches, .posted, .compat, .pends, .eyeReset, .irqs, .seq, .sup, .prism, .start, .clk, .ld, .sw, .nets, .gw, .mon, .sec, .plx, .io, .cpu, .freeCount] S) : Touches (vcoreRegulatorFail p mv) S := by
  unfold vcoreRegulatorFail
  try dsimp only
  repeat' (with_reducible first | apply touches_Act_regFail | apply Touches.get | apply Touches.when | exact Part.Sub.trans (by decide) hS | intro _ | dsimp only)

theorem touches_resetNAssert  {S : List Part} (hS : Part.Sub [.regs, .tbls, .mem, .flash, .evtNo, .lockedRegs, .onceRegs, .upsets, .mismatches, .posted, .compat, .pends, .eyeReset, .irqs, .seq, .sup, .prism, .start, .clk, .ld, .sw, .nets, .gw, .mon, .sec, .plx, .io, .cpu, .freeCount] S) : Touches (resetNAssert ) S := by
  unfold resetNAssert
  try dsimp only
  repeat' (with_reducible first | apply touches_Act_setStart | apply touches_Act_packageReset | apply touches_Act_setSeq | apply Touches.all_cons | apply Touches.all_nil | apply Touches.get | apply Touches.when | apply Touches.ite | exact Part.Sub.trans (by decide) hS | intro _ | split | dsimp only)

theorem touches_resetNRelease {boot clk : Nat} {S : List Part} (hS : Part.Sub [.regs, .evtNo, .upsets, .irqs, .seq, .sup, .start, .clk, .ld, .sw, .sec, .io, .freeCount] S) : Touches (resetNRelease boot clk) S := by
  unfold resetNRelease
  try dsimp only
  repeat' (with_reducible first | apply touches_Act_setStart | apply touches_Act_resume | apply touches_Act_attempt | apply Touches.upd_of hS | apply Touches.all_cons | apply Touches.all_nil | apply Touches.get | apply Touches.when | apply Touches.ite | exact Part.Sub.trans (by decide) hS | intro _ | split | dsimp only)
  all_goals (intro s p hp; cases p <;> first | rfl | exact absurd (by decide) hp)

theorem touches_prismThermalShutdown {p : Nat} {S : List Part} (hS : Part.Sub [.regs, .tbls, .mem, .flash, .evtNo, .lockedRegs, .onceRegs, .upsets, .mismatches, .posted, .compat, .pends, .eyeReset, .irqs, .sup, .prism, .start, .clk, .ld, .sw, .nets, .gw, .mon, .sec, .plx, .io, .cpu, .freeCount] S) : Touches (prismThermalShutdown p) S := by
  unfold prismThermalShutdown
  try dsimp only
  repeat' (with_reducible first | apply touches_Act_setStart | apply touches_Act_packageReset | apply Touches.seq | apply Touches.get | apply Touches.when | exact Part.Sub.trans (by decide) hS | intro _ | dsimp only)

theorem touches_thermalHoldEnd  {S : List Part} (hS : Part.Sub [.regs, .evtNo, .upsets, .start, .clk, .ld, .sw, .sec, .io, .freeCount] S) : Touches (thermalHoldEnd ) S := by
  unfold thermalHoldEnd
  try dsimp only
  repeat' (with_reducible first | apply touches_Act_setStart | apply touches_Act_resume | apply Touches.seq | apply Touches.get | apply Touches.when | exact Part.Sub.trans (by decide) hS | intro _ | dsimp only)

theorem touches_prismThermalWarn {p : Nat} {S : List Part} (hS : Part.Sub [.prism] S) : Touches (prismThermalWarn p) S := by
  unfold prismThermalWarn
  try dsimp only
  repeat' (with_reducible first | apply touches_Act_setPsup | apply Touches.get | apply Touches.when | exact Part.Sub.trans (by decide) hS | intro _ | dsimp only)

theorem touches_prismThermalWarnEnd {p : Nat} {S : List Part} (hS : Part.Sub [.prism] S) : Touches (prismThermalWarnEnd p) S := by
  unfold prismThermalWarnEnd
  try dsimp only
  repeat' (with_reducible first | apply touches_Act_setPsup | apply Touches.get | apply Touches.when | exact Part.Sub.trans (by decide) hS | intro _ | dsimp only)

theorem touches_clockReady  {S : List Part} (hS : Part.Sub [.regs, .upsets, .start, .clk, .ld, .sec, .freeCount] S) : Touches (clockReady ) S := by
  unfold clockReady
  try dsimp only
  repeat' (with_reducible first | apply touches_Act_setFld | apply touches_Act_stepEight | apply Touches.upd_of hS | apply Touches.all_cons | apply Touches.all_nil | apply Touches.get | apply Touches.when | apply Touches.ite | exact Part.Sub.trans (by decide) hS | intro _ | split | dsimp only)
  all_goals (intro s p hp; cases p <;> first | rfl | exact absurd (by decide) hp)

theorem touches_clockTimeout  {S : List Part} (hS : Part.Sub [.regs, .upsets, .start, .clk, .ld, .sec, .freeCount] S) : Touches (clockTimeout ) S := by
  unfold clockTimeout
  try dsimp only
  repeat' (with_reducible first | apply touches_Act_internalOnly | apply touches_Act_stepEight | apply Touches.seq | apply Touches.get | apply Touches.when | exact Part.Sub.trans (by decide) hS | intro _ | dsimp only)

theorem touches_clockLost  {S : List Part} (hS : Part.Sub [.regs, .evtNo, .upsets, .irqs, .clk, .sw, .nets, .mon] S) : Touches (clockLost ) S := by
  unfold clockLost
  try dsimp only
  repeat' (with_reducible first | apply touches_Act_canClockLost | apply touches_Act_linkDown | apply touches_Act_linClockLost | apply touches_Act_recClockLost | apply touches_Act_internalOnly | apply Touches.setReg | apply Touches.all_cons | apply Touches.all_nil | apply Touches.seq | apply Touches.get | apply Touches.when | apply Touches.each | exact Part.Sub.trans (by decide) hS | intro _ | dsimp only)

theorem touches_dieToDieLinkLost {p j : Nat} {S : List Part} (hS : Part.Sub [.regs, .tbls, .mem, .flash, .evtNo, .lockedRegs, .onceRegs, .upsets, .mismatches, .posted, .compat, .pends, .eyeReset, .irqs, .sup, .prism, .start, .clk, .ld, .sw, .nets, .gw, .mon, .sec, .plx, .io, .cpu, .freeCount] S) : Touches (dieToDieLinkLost p j) S := by
  unfold dieToDieLinkLost
  try dsimp only
  repeat' (with_reducible first | apply touches_Act_packageReset | apply Touches.get | apply Touches.when | exact Part.Sub.trans (by decide) hS | intro _ | dsimp only)

theorem touches_driveLinkLost {d : Nat} {seen : Bool} {S : List Part} (hS : Part.Sub [.regs, .evtNo, .upsets, .prism] S) : Touches (driveLinkLost d seen) S := by
  unfold driveLinkLost
  try dsimp only
  repeat' (with_reducible first | apply touches_Act_setFld | apply touches_Act_event | apply touches_Act_setPsup | apply Touches.all_cons | apply Touches.all_nil | apply Touches.get | apply Touches.when | apply Touches.ite | exact Part.Sub.trans (by decide) hS | intro _ | split | dsimp only)

theorem touches_driveLinkResume {d : Nat} {S : List Part} (hS : Part.Sub [.prism] S) : Touches (driveLinkResume d) S := by
  unfold driveLinkResume
  try dsimp only
  repeat' (with_reducible first | apply touches_Act_setPsup | apply Touches.get | apply Touches.when | exact Part.Sub.trans (by decide) hS | intro _ | dsimp only)

theorem touches_slowEdgeLost {mask : Nat} {S : List Part} (hS : Part.Sub [.regs, .evtNo, .upsets, .sup, .prism] S) : Touches (slowEdgeLost mask) S := by
  unfold slowEdgeLost
  try dsimp only
  repeat' (with_reducible first | apply touches_Act_event | apply touches_Act_setSup | apply touches_Act_setPsup | apply Touches.all_cons | apply Touches.all_nil | apply Touches.seq | apply Touches.get | apply Touches.each | exact Part.Sub.trans (by decide) hS | intro _ | dsimp only)

theorem touches_sleepOff  {S : List Part} (hS : Part.Sub [.regs, .tbls, .mem, .flash, .evtNo, .lockedRegs, .onceRegs, .upsets, .mismatches, .posted, .compat, .pends, .eyeReset, .irqs, .seq, .sup, .prism, .start, .clk, .ld, .sw, .nets, .gw, .mon, .sec, .plx, .io, .cpu, .freeCount] S) : Touches (sleepOff ) S := by
  unfold sleepOff
  try dsimp only
  repeat' (with_reducible first | apply touches_Act_updIo | apply touches_Act_islandOff | apply touches_Act_resetAll | apply touches_Act_enablesOff | apply Touches.upd_of hS | apply Touches.all_cons | apply Touches.all_nil | apply Touches.get | apply Touches.when | apply Touches.each | exact Part.Sub.trans (by decide) hS | intro _ | dsimp only)
  all_goals (intro s p hp; cases p <;> first | rfl | exact absurd (by decide) hp)

theorem touches_wakeStart {v : Nat} {S : List Part} (hS : Part.Sub [.regs, .evtNo, .upsets, .irqs, .seq, .sup, .io, .freeCount] S) : Touches (wakeStart v) S := by
  unfold wakeStart
  try dsimp only
  repeat' (with_reducible first | apply touches_Act_freeBelow | apply touches_Act_event | apply touches_Act_updIo | apply touches_Act_attempt | apply Touches.upd_of hS | apply Touches.seq | apply Touches.get | apply Touches.when | apply Touches.ite | exact Part.Sub.trans (by decide) hS | intro _ | split | dsimp only)
  all_goals (intro s p hp; cases p <;> first | rfl | exact absurd (by decide) hp)

/-! ## Gateway -/

theorem touches_Act_routeTo {p d f : Nat} {w2 w3 : Word} {g : Ingress} {b : List Byte} {S : List Part} (hS : Part.Sub [.regs, .evtNo, .upsets, .irqs, .sw] S) : Touches (Act.routeTo p d f w2 w3 g b) S := by
  unfold Act.routeTo
  try dsimp only
  repeat' (with_reducible first | apply touches_Act_engineOut | apply touches_Act_sgwCount | apply Touches.seq | apply Touches.get | exact Part.Sub.trans (by decide) hS | intro _ | split | dsimp only)

theorem touches_Act_routes {p : Nat} {w2 w3 : Word} {g : Ingress} {b : List Byte} {S : List Part} (hS : Part.Sub [.regs, .evtNo, .upsets, .irqs, .sw, .gw, .freeCount] S) : Touches (Act.routes p w2 w3 g b) S := by
  unfold Act.routes
  try dsimp only
  repeat' (with_reducible first | apply touches_Act_freeBelow | apply touches_Act_sgwCount | apply touches_Act_tunnelAdd | apply touches_Act_routeTo | apply Touches.all_cons | apply Touches.all_nil | apply Touches.seq | apply Touches.get | apply Touches.when | apply Touches.each | apply Touches.ite | exact Part.Sub.trans (by decide) hS | intro _ | split | dsimp only)

theorem touches_Act_toFw {p : Nat} {g : Ingress} {bus : Bool} {b : List Byte} {S : List Part} (hS : Part.Sub [.sw] S) : Touches (Act.toFw p g bus b) S := by
  unfold Act.toFw
  try dsimp only
  repeat' (with_reducible first | apply touches_Act_engineOut | apply Touches.get | exact Part.Sub.trans (by decide) hS | intro _ | dsimp only)

theorem touches_Act_verified {p prof use user : Nat} {id : Option Nat} {fault : Option (Nat × Nat)} {data : List Byte} {onFail : Act} {k : List Byte → Act} {S : List Part} (hS : Part.Sub [.regs, .evtNo, .upsets, .irqs, .mon, .sec, .freeCount] S) (hk_onFail : Touches (onFail) S) (hk_k : ∀ x0, Touches (k x0) S) : Touches (Act.verified p prof use user id fault data onFail k) S := by
  unfold Act.verified
  try dsimp only
  repeat' (with_reducible first | exact hk_onFail | exact hk_k _ | apply touches_Act_count | apply touches_Act_verifySeal | apply touches_Act_sealReplay | apply touches_Act_sealAccept | apply touches_Act_plxEvent | apply Touches.seq | apply Touches.get | apply Touches.skip | apply Touches.ite | exact Part.Sub.trans (by decide) hS | intro _ | split | dsimp only)

theorem touches_Act_underEntry {p e : Nat} {g : Ingress} {id : Option Nat} {fault : Bool} {data : List Byte} {copies fw : Act} {S : List Part} (hS : Part.Sub [.regs, .evtNo, .upsets, .irqs, .gw, .mon, .sec, .freeCount] S) (hk_copies : Touches (copies) S) (hk_fw : Touches (fw) S) : Touches (Act.underEntry p e g id fault data copies fw) S := by
  unfold Act.underEntry
  try dsimp only
  repeat' (with_reducible first | exact hk_copies | exact hk_fw | apply touches_Act_sgwEvent | apply touches_Act_sgwCount | apply touches_Act_extract | apply touches_Act_verified | apply Touches.all_cons | apply Touches.all_nil | apply Touches.seq | apply Touches.get | apply Touches.when | apply Touches.ite | exact Part.Sub.trans (by decide) hS | intro _ | split | dsimp only)

theorem touches_Act_beamMiss {p : Nat} {toFw : Act} {S : List Part} (hS : Part.Sub [.regs, .evtNo, .upsets, .irqs] S) (hk_toFw : Touches (toFw) S) : Touches (Act.beamMiss p toFw) S := by
  unfold Act.beamMiss
  try dsimp only
  repeat' (with_reducible first | exact hk_toFw | apply touches_Act_sgwCount | apply Touches.get | apply Touches.ite | exact Part.Sub.trans (by decide) hS | intro _ | split | dsimp only)

theorem touches_Act_lookupBus {p : Nat} {g : Ingress} {fault : Bool} {b : List Byte} {S : List Part} (hS : Part.Sub [.regs, .evtNo, .upsets, .irqs, .sw, .gw, .mon, .sec, .freeCount] S) : Touches (Act.lookupBus p g fault b) S := by
  unfold Act.lookupBus
  try dsimp only
  repeat' (with_reducible first | apply touches_Act_sgwCount | apply touches_Act_routes | apply touches_Act_toFw | apply touches_Act_underEntry | apply touches_Act_beamMiss | apply Touches.seq | apply Touches.get | exact Part.Sub.trans (by decide) hS | intro _ | split | dsimp only)

theorem touches_Act_tpClose {p : Nat} {x : Session} {S : List Part} (hS : Part.Sub [.gw] S) : Touches (Act.tpClose p x) S := by
  unfold Act.tpClose
  try dsimp only
  repeat' (with_reducible first | apply touches_Act_modSess | exact Part.Sub.trans (by decide) hS | intro _ | dsimp only)

theorem touches_Act_tpPut {p : Nat} {x : Session} {S : List Part} (hS : Part.Sub [.gw] S) : Touches (Act.tpPut p x) S := by
  unfold Act.tpPut
  try dsimp only
  repeat' (with_reducible first | apply touches_Act_modSess | apply Touches.ite | apply Touches.all_map | exact Part.Sub.trans (by decide) hS | intro _ | split | dsimp only)

theorem touches_Act_tpSend {p : Nat} {x : Session} {bytes : List Byte} {S : List Part} (hS : Part.Sub [.sw] S) : Touches (Act.tpSend p x bytes) S := by
  unfold Act.tpSend
  try dsimp only
  repeat' (with_reducible first | apply touches_Act_engineOut | apply Touches.get | apply Touches.ite | exact Part.Sub.trans (by decide) hS | intro _ | split | dsimp only)

theorem touches_Act_tpAborted {p c reason : Nat} {S : List Part} (hS : Part.Sub [.regs, .evtNo, .upsets, .irqs] S) : Touches (Act.tpAborted p c reason) S := by
  unfold Act.tpAborted
  try dsimp only
  repeat' (with_reducible first | apply touches_Act_setFlds | apply touches_Act_sgwEvent | apply touches_Act_sgwCount | apply Touches.all_cons | apply Touches.all_nil | exact Part.Sub.trans (by decide) hS | intro _ | dsimp only)

theorem touches_Act_tpAbort {p : Nat} {x : Session} {reason : Nat} {S : List Part} (hS : Part.Sub [.regs, .evtNo, .upsets, .irqs, .sw] S) : Touches (Act.tpAbort p x reason) S := by
  unfold Act.tpAbort
  try dsimp only
  repeat' (with_reducible first | apply touches_Act_tpSend | apply touches_Act_tpAborted | apply Touches.seq | exact Part.Sub.trans (by decide) hS | intro _ | dsimp only)

theorem touches_Act_tpCts {p : Nat} {x : Session} {S : List Part} (hS : Part.Sub [.sw, .gw] S) : Touches (Act.tpCts p x) S := by
  unfold Act.tpCts
  try dsimp only
  repeat' (with_reducible first | apply touches_Act_tpPut | apply touches_Act_tpSend | apply Touches.seq | apply Touches.get | apply Touches.ite | exact Part.Sub.trans (by decide) hS | intro _ | split | dsimp only)

theorem touches_Act_tpOpen {p : Nat} {x : Session} {S : List Part} (hS : Part.Sub [.regs, .evtNo, .upsets, .irqs, .sw, .gw] S) : Touches (Act.tpOpen p x) S := by
  unfold Act.tpOpen
  try dsimp only
  repeat' (with_reducible first | apply touches_Act_modSess | apply touches_Act_sgwEvent | apply touches_Act_sgwCount | apply touches_Act_tpClose | apply touches_Act_tpAbort | apply touches_Act_tpCts | apply Touches.all_cons | apply Touches.all_nil | apply Touches.seq | apply Touches.get | apply Touches.when | apply Touches.ite | exact Part.Sub.trans (by decide) hS | intro _ | split | dsimp only)

theorem touches_Act_tpDeliver {p : Nat} {g : Ingress} {fault : Bool} {x : Session} {S : List Part} (hS : Part.Sub [.regs, .evtNo, .upsets, .irqs, .sw, .gw, .mon, .sec, .freeCount] S) : Touches (Act.tpDeliver p g fault x) S := by
  unfold Act.tpDeliver
  try dsimp only
  repeat' (with_reducible first | apply touches_Act_engineOut | apply touches_Act_sgwCount | apply touches_Act_underEntry | apply touches_Act_beamMiss | apply Touches.seq | apply Touches.get | apply Touches.each | apply Touches.skip | exact Part.Sub.trans (by decide) hS | intro _ | split | dsimp only)

theorem touches_Act_tpData {p : Nat} {g : Ingress} {fault : Bool} {x : Session} {d : List Byte} {S : List Part} (hS : Part.Sub [.regs, .evtNo, .upsets, .irqs, .sw, .gw, .mon, .sec, .freeCount] S) : Touches (Act.tpData p g fault x d) S := by
  unfold Act.tpData
  try dsimp only
  repeat' (with_reducible first | apply touches_Act_tpClose | apply touches_Act_tpPut | apply touches_Act_tpSend | apply touches_Act_tpAbort | apply touches_Act_tpCts | apply touches_Act_tpDeliver | apply Touches.all_cons | apply Touches.all_nil | apply Touches.seq | apply Touches.get | apply Touches.when | apply Touches.ite | apply Touches.all_map | exact Part.Sub.trans (by decide) hS | intro _ | split | dsimp only)

theorem touches_Act_bypassed {p : Nat} {g : Ingress} {y : Bypass} {cm : Bool} {b : List Byte} {S : List Part} (hS : Part.Sub [.sw, .gw] S) : Touches (Act.bypassed p g y cm b) S := by
  unfold Act.bypassed
  try dsimp only
  repeat' (with_reducible first | apply touches_Act_setByp | apply touches_Act_toFw | apply Touches.seq | apply Touches.get | apply Touches.ite | exact Part.Sub.trans (by decide) hS | intro _ | split | dsimp only)

theorem touches_Act_transport {p c : Nat} {g : Ingress} {fault : Bool} {b : List Byte} {k : Act} {S : List Part} (hS : Part.Sub [.regs, .evtNo, .upsets, .irqs, .sw, .gw, .mon, .sec, .freeCount] S) (hk_k : Touches (k) S) : Touches (Act.transport p c g fault b k) S := by
  unfold Act.transport
  try dsimp only
  repeat' (with_reducible first | exact hk_k | apply touches_Act_modByp | apply touches_Act_toFw | apply touches_Act_tpClose | apply touches_Act_tpPut | apply touches_Act_tpAborted | apply touches_Act_tpOpen | apply touches_Act_tpData | apply touches_Act_bypassed | apply Touches.seq | apply Touches.get | apply Touches.ite | exact Part.Sub.trans (by decide) hS | intro _ | split | dsimp only)

theorem touches_tpTimerExpire {p c sa da proto : Nat} {S : List Part} (hS : Part.Sub [.regs, .evtNo, .upsets, .irqs, .sw, .gw] S) : Touches (tpTimerExpire p c sa da proto) S := by
  unfold tpTimerExpire
  try dsimp only
  repeat' (with_reducible first | apply touches_Act_modByp | apply touches_Act_tpClose | apply touches_Act_tpAbort | apply Touches.seq | apply Touches.get | apply Touches.when | apply Touches.opt | exact Part.Sub.trans (by decide) hS | intro _ | dsimp only)

theorem touches_Act_busIn {p : Nat} {g : Ingress} {fault : Bool} {b : List Byte} {S : List Part} (hS : Part.Sub [.regs, .evtNo, .upsets, .irqs, .sw, .gw, .mon, .sec, .freeCount] S) : Touches (Act.busIn p g fault b) S := by
  unfold Act.busIn
  try dsimp only
  repeat' (with_reducible first | apply touches_Act_lookupBus | apply touches_Act_transport | exact Part.Sub.trans (by decide) hS | intro _ | split | dsimp only)

theorem touches_Act_lookupStream {p : Nat} {g : Ingress} {fault : Bool} {frame pdu : List Byte} {S : List Part} (hS : Part.Sub [.regs, .evtNo, .upsets, .irqs, .sw, .gw, .mon, .sec, .freeCount] S) : Touches (Act.lookupStream p g fault frame pdu) S := by
  unfold Act.lookupStream
  try dsimp only
  repeat' (with_reducible first | apply touches_Act_sgwCount | apply touches_Act_toFw | apply touches_Act_underEntry | apply touches_Act_beamMiss | apply Touches.seq | apply Touches.get | apply Touches.skip | apply Touches.all_map | exact Part.Sub.trans (by decide) hS | intro _ | split | dsimp only)

theorem touches_Act_avtpIn {p : Nat} {g : Ingress} {fault : Bool} {frame pdu : List Byte} {S : List Part} (hS : Part.Sub [.regs, .evtNo, .upsets, .irqs, .sw, .gw, .mon, .sec, .freeCount] S) : Touches (Act.avtpIn p g fault frame pdu) S := by
  unfold Act.avtpIn
  try dsimp only
  repeat' (with_reducible first | apply touches_Act_modTun | apply touches_Act_sgwEvent | apply touches_Act_sgwCount | apply touches_Act_busIn | apply touches_Act_lookupStream | apply Touches.all_cons | apply Touches.all_nil | apply Touches.seq | apply Touches.get | apply Touches.when | apply Touches.each | apply Touches.ite | exact Part.Sub.trans (by decide) hS | intro _ | split | dsimp only)

theorem touches_sgwFrame {p : Nat} {fault : Bool} {S : List Part} (hS : Part.Sub [.regs, .evtNo, .upsets, .irqs, .sw, .gw, .mon, .sec, .io, .freeCount] S) : Touches (sgwFrame p fault) S := by
  unfold sgwFrame
  try dsimp only
  repeat' (with_reducible first | apply touches_Act_take | apply touches_Act_sgwCount | apply touches_Act_busIn | apply touches_Act_avtpIn | apply Touches.seq | apply Touches.get | apply Touches.when | apply Touches.ite | exact Part.Sub.trans (by decide) hS | intro _ | split | dsimp only)

theorem touches_Act_beamRead {p i : Nat} {S : List Part} (hS : Part.Sub [.regs, .upsets] S) : Touches (Act.beamRead p i) S := by
  unfold Act.beamRead
  try dsimp only
  repeat' (with_reducible first | apply Touches.setReg | apply Touches.get | apply Touches.each | exact Part.Sub.trans (by decide) hS | intro _ | dsimp only)

theorem touches_beamCmd {ag : Agent} {p : Nat} {v : Word} {k : Code → Act} {S : List Part} (hS : Part.Sub [.regs, .tbls, .evtNo, .upsets] S) (hk_k : ∀ x0, Touches (k x0) S) : Touches (beamCmd ag p v k) S := by
  unfold beamCmd
  try dsimp only
  repeat' (with_reducible first | exact hk_k _ | apply touches_Act_setTblWords | apply touches_Act_badValue | apply touches_Act_store | apply touches_Act_beamRead | apply Touches.setReg | apply Touches.all_cons | apply Touches.all_nil | apply Touches.seq | apply Touches.get | apply Touches.ite | apply Touches.all_map | exact Part.Sub.trans (by decide) hS | intro _ | split | dsimp only)

theorem touches_sgwTblCmd {ag : Agent} {p : Nat} {v : Word} {k : Code → Act} {S : List Part} (hS : Part.Sub [.regs, .tbls, .evtNo, .upsets] S) (hk_k : ∀ x0, Touches (k x0) S) : Touches (sgwTblCmd ag p v k) S := by
  unfold sgwTblCmd
  try dsimp only
  repeat' (with_reducible first | exact hk_k _ | apply touches_Act_setTblWords | apply touches_Act_badValue | apply touches_Act_store | apply Touches.setReg | apply Touches.all_cons | apply Touches.all_nil | apply Touches.seq | apply Touches.get | apply Touches.each | apply Touches.ite | apply Touches.all_map | exact Part.Sub.trans (by decide) hS | intro _ | split | dsimp only)

theorem touches_Act_sgwOn {p : Nat} {S : List Part} (hS : Part.Sub [.gw] S) : Touches (Act.sgwOn p) S := by
  unfold Act.sgwOn
  try dsimp only
  repeat' (with_reducible first | apply touches_Act_cadencesFrom | exact Part.Sub.trans (by decide) hS | intro _ | dsimp only)

theorem touches_Act_sgwOff {p : Nat} {S : List Part} (hS : Part.Sub [.gw] S) : Touches (Act.sgwOff p) S := by
  unfold Act.sgwOff
  try dsimp only
  repeat' (with_reducible first | apply touches_Act_setSess | apply touches_Act_setByp | apply Touches.seq | exact Part.Sub.trans (by decide) hS | intro _ | dsimp only)

/-! ## Keys -/

theorem touches_Act_setOpBuf {p : Nat} {b : List Byte} {S : List Part} (hS : Part.Sub [.regs, .upsets] S) : Touches (Act.setOpBuf p b) S := by
  unfold Act.setOpBuf
  try dsimp only
  repeat' (with_reducible first | apply Touches.setReg | apply Touches.each | exact Part.Sub.trans (by decide) hS | intro _ | dsimp only)

theorem touches_Act_opDenied {p n : Nat} {part : Option Nat} {k : Nat → Nat → Act} {S : List Part} (hS : Part.Sub [.regs, .evtNo, .upsets, .irqs] S) (hk_k : ∀ x0 x1, Touches (k x0 x1) S) : Touches (Act.opDenied p n part k) S := by
  unfold Act.opDenied
  try dsimp only
  repeat' (with_reducible first | exact hk_k _ _ | apply touches_Act_denyKey | apply Touches.seq | exact Part.Sub.trans (by decide) hS | intro _ | dsimp only)

theorem touches_Act_opSource {p src use : Nat} {dir part : Option Nat} {k : Nat → Nat → Act} {go : List Nat → Act} {S : List Part} (hS : Part.Sub [.regs, .evtNo, .upsets, .irqs, .sec, .freeCount] S) (hk_k : ∀ x0 x1, Touches (k x0 x1) S) (hk_go : ∀ x0, Touches (go x0) S) : Touches (Act.opSource p src use dir part k go) S := by
  unfold Act.opSource
  try dsimp only
  repeat' (with_reducible first | exact hk_k _ _ | exact hk_go _ | apply touches_Act_useKey | exact Part.Sub.trans (by decide) hS | intro _ | split | dsimp only)

theorem touches_keyLoad {p tgt : Nat} {part : Option Nat} {k : Nat → Nat → Act} {S : List Part} (hS : Part.Sub [.regs, .evtNo, .upsets, .irqs, .sec] S) (hk_k : ∀ x0 x1, Touches (k x0 x1) S) : Touches (keyLoad p tgt part k) S := by
  unfold keyLoad
  try dsimp only
  repeat' (with_reducible first | exact hk_k _ _ | apply touches_Act_demand | apply touches_Act_opDenied | apply Touches.seq | apply Touches.get | apply Touches.ite | exact Part.Sub.trans (by decide) hS | intro _ | split | dsimp only)

theorem touches_keyDerive {p tgt src len : Nat} {part : Option Nat} {k : Nat → Nat → Act} {S : List Part} (hS : Part.Sub [.regs, .evtNo, .upsets, .irqs, .sec, .freeCount] S) (hk_k : ∀ x0 x1, Touches (k x0 x1) S) : Touches (keyDerive p tgt src len part k) S := by
  unfold keyDerive
  try dsimp only
  repeat' (with_reducible first | exact hk_k _ _ | apply touches_Act_count | apply touches_Act_fillSlot | apply touches_Act_opDenied | apply touches_Act_opSource | apply Touches.all_cons | apply Touches.all_nil | apply Touches.get | apply Touches.ite | exact Part.Sub.trans (by decide) hS | intro _ | split | dsimp only)

theorem touches_keyUnwrapOp {p tgt src len : Nat} {part : Option Nat} {k : Nat → Nat → Act} {S : List Part} (hS : Part.Sub [.regs, .evtNo, .upsets, .irqs, .sec, .freeCount] S) (hk_k : ∀ x0 x1, Touches (k x0 x1) S) : Touches (keyUnwrapOp p tgt src len part k) S := by
  unfold keyUnwrapOp
  try dsimp only
  repeat' (with_reducible first | exact hk_k _ _ | apply touches_Act_count | apply touches_Act_fillSlot | apply touches_Act_opDenied | apply touches_Act_opSource | apply Touches.all_cons | apply Touches.all_nil | apply Touches.get | apply Touches.ite | exact Part.Sub.trans (by decide) hS | intro _ | split | dsimp only)

theorem touches_keyWrapOp {p tgt src : Nat} {part : Option Nat} {k : Nat → Nat → Act} {S : List Part} (hS : Part.Sub [.regs, .evtNo, .upsets, .irqs, .sec, .freeCount] S) (hk_k : ∀ x0 x1, Touches (k x0 x1) S) : Touches (keyWrapOp p tgt src part k) S := by
  unfold keyWrapOp
  try dsimp only
  repeat' (with_reducible first | exact hk_k _ _ | apply touches_Act_count | apply touches_Act_setOpBuf | apply touches_Act_opDenied | apply touches_Act_opSource | apply Touches.all_cons | apply Touches.all_nil | apply Touches.get | apply Touches.ite | exact Part.Sub.trans (by decide) hS | intro _ | split | dsimp only)

theorem touches_keyGenerate {p tgt : Nat} {part : Option Nat} {k : Nat → Nat → Act} {S : List Part} (hS : Part.Sub [.regs, .evtNo, .upsets, .irqs, .sec, .freeCount] S) (hk_k : ∀ x0 x1, Touches (k x0 x1) S) : Touches (keyGenerate p tgt part k) S := by
  unfold keyGenerate
  try dsimp only
  repeat' (with_reducible first | exact hk_k _ _ | apply touches_Act_freeBytes | apply touches_Act_count | apply touches_Act_fillSlot | apply touches_Act_opDenied | apply Touches.all_cons | apply Touches.all_nil | apply Touches.get | apply Touches.ite | exact Part.Sub.trans (by decide) hS | intro _ | split | dsimp only)

theorem touches_keyClear {p tgt : Nat} {k : Nat → Nat → Act} {S : List Part} (hS : Part.Sub [.regs, .upsets, .sec] S) (hk_k : ∀ x0 x1, Touches (k x0 x1) S) : Touches (keyClear p tgt k) S := by
  unfold keyClear
  try dsimp only
  repeat' (with_reducible first | exact hk_k _ _ | apply touches_Act_clearSlot | apply Touches.seq | exact Part.Sub.trans (by decide) hS | intro _ | dsimp only)

theorem touches_keyWrapRoot {p tgt : Nat} {part : Option Nat} {k : Nat → Nat → Act} {S : List Part} (hS : Part.Sub [.regs, .evtNo, .upsets, .irqs] S) (hk_k : ∀ x0 x1, Touches (k x0 x1) S) : Touches (keyWrapRoot p tgt part k) S := by
  unfold keyWrapRoot
  try dsimp only
  repeat' (with_reducible first | exact hk_k _ _ | apply touches_Act_count | apply touches_Act_setOpBuf | apply touches_Act_opDenied | apply Touches.all_cons | apply Touches.all_nil | apply Touches.get | apply Touches.ite | exact Part.Sub.trans (by decide) hS | intro _ | split | dsimp only)

theorem touches_Act_keyOp {p op tgt src len : Nat} {part : Option Nat} {k : Nat → Nat → Act} {S : List Part} (hS : Part.Sub [.regs, .evtNo, .upsets, .irqs, .sec, .freeCount] S) (hk_k : ∀ x0 x1, Touches (k x0 x1) S) : Touches (Act.keyOp p op tgt src len part k) S := by
  unfold Act.keyOp
  try dsimp only
  repeat' (with_reducible first | exact hk_k _ _ | apply touches_Act_opDenied | apply touches_keyLoad | apply touches_keyDerive | apply touches_keyUnwrapOp | apply touches_keyWrapOp | apply touches_keyGenerate | apply touches_keyClear | apply touches_keyWrapRoot | apply Touches.get | apply Touches.ite | exact Part.Sub.trans (by decide) hS | intro _ | split | dsimp only)

theorem touches_opCmd {ag : Agent} {p : Nat} {v : Word} {k : Code → Act} {S : List Part} (hS : Part.Sub [.regs, .evtNo, .upsets, .irqs, .sec, .freeCount] S) (hk_k : ∀ x0, Touches (k x0) S) : Touches (opCmd ag p v k) S := by
  unfold opCmd
  try dsimp only
  repeat' (with_reducible first | exact hk_k _ | apply touches_Act_modKstore | apply touches_Act_badValue | apply touches_Act_store | apply touches_Act_setOpBuf | apply touches_Act_keyOp | apply Touches.setReg | apply Touches.all_cons | apply Touches.all_nil | apply Touches.seq | apply Touches.get | apply Touches.ite | exact Part.Sub.trans (by decide) hS | intro _ | split | dsimp only)

theorem touches_Act_loadEnd {p tgt : Nat} {S : List Part} (hS : Part.Sub [.regs, .evtNo, .upsets, .irqs, .mon, .sec, .freeCount] S) : Touches (Act.loadEnd p tgt) S := by
  unfold Act.loadEnd
  try dsimp only
  repeat' (with_reducible first | apply touches_Act_setFld | apply touches_keyLoadDone | apply Touches.seq | apply Touches.get | apply Touches.ite | exact Part.Sub.trans (by decide) hS | intro _ | split | dsimp only)

theorem touches_keyOpDone {p : Nat} {S : List Part} (hS : Part.Sub [.regs, .evtNo, .upsets, .irqs, .mon, .sec, .freeCount] S) : Touches (keyOpDone p) S := by
  unfold keyOpDone
  try dsimp only
  repeat' (with_reducible first | apply touches_Act_modKstore | apply touches_Act_setFlds | apply touches_Act_event | apply touches_Act_irq | apply touches_Act_loadEnd | apply Touches.all_cons | apply Touches.all_nil | apply Touches.get | apply Touches.when | apply Touches.opt | apply Touches.ite | exact Part.Sub.trans (by decide) hS | intro _ | split | dsimp only)

/-! ## Cipher -/

theorem touches_jobCmd {ag : Agent} {p c : Nat} {v : Word} {k : Code → Act} {S : List Part} (hS : Part.Sub [.regs, .evtNo, .upsets, .sec] S) (hk_k : ∀ x0, Touches (k x0) S) : Touches (jobCmd ag p c v k) S := by
  unfold jobCmd
  try dsimp only
  repeat' (with_reducible first | exact hk_k _ | apply touches_Act_setJob | apply touches_Act_badValue | apply touches_Act_store | apply Touches.setReg | apply Touches.all_cons | apply Touches.all_nil | apply Touches.seq | apply Touches.get | apply Touches.ite | exact Part.Sub.trans (by decide) hS | intro _ | split | dsimp only)

theorem touches_Act_jobRun {p desc : Nat} {w : List Nat} {key iv : List Nat} {k : Nat → Act} {S : List Part} (hS : Part.Sub [.regs, .mem, .evtNo, .upsets, .irqs, .sec] S) (hk_k : ∀ x0, Touches (k x0) S) : Touches (Act.jobRun p desc w key iv k) S := by
  unfold Act.jobRun
  try dsimp only
  repeat' (with_reducible first | exact hk_k _ | apply touches_Act_modKslot | apply touches_Act_count | apply touches_Act_memWrite | apply touches_Act_memSetWord | apply Touches.all_cons | apply Touches.all_nil | apply Touches.seq | apply Touches.get | apply Touches.when | apply Touches.skip | apply Touches.ite | exact Part.Sub.trans (by decide) hS | intro _ | split | dsimp only)

theorem touches_Act_jobEnd {p c : Nat} {j : CipherJob} {fault : Bool} {k : Nat → Act} {S : List Part} (hS : Part.Sub [.regs, .mem, .evtNo, .upsets, .irqs, .sec, .freeCount] S) (hk_k : ∀ x0, Touches (k x0) S) : Touches (Act.jobEnd p c j fault k) S := by
  unfold Act.jobEnd
  try dsimp only
  repeat' (with_reducible first | exact hk_k _ | apply touches_Act_useKey | apply touches_Act_datapathFault | apply touches_Act_jobRun | apply Touches.seq | apply Touches.get | apply Touches.ite | apply Touches.all_map | exact Part.Sub.trans (by decide) hS | intro _ | split | dsimp only)

theorem touches_ciphJobDone {p c : Nat} {fault : Bool} {S : List Part} (hS : Part.Sub [.regs, .mem, .evtNo, .upsets, .irqs, .mon, .sec, .freeCount] S) : Touches (ciphJobDone p c fault) S := by
  unfold ciphJobDone
  try dsimp only
  repeat' (with_reducible first | apply touches_Act_setJob | apply touches_Act_setFld | apply touches_Act_event | apply touches_Act_irq | apply touches_Act_count | apply touches_Act_offerMon | apply touches_Act_jobEnd | apply Touches.all_cons | apply Touches.all_nil | apply Touches.get | apply Touches.opt | exact Part.Sub.trans (by decide) hS | intro _ | dsimp only)

theorem touches_Act_flowOut {p g : Nat} {fr : Frame} {payload : List Byte} {S : List Part} (hS : Part.Sub [.sw] S) : Touches (Act.flowOut p g fr payload) S := by
  unfold Act.flowOut
  try dsimp only
  repeat' (with_reducible first | apply touches_Act_engineOut | apply Touches.get | exact Part.Sub.trans (by decide) hS | intro _ | dsimp only)

theorem touches_cipherFlow {p : Nat} {fault : Bool} {S : List Part} (hS : Part.Sub [.regs, .evtNo, .upsets, .irqs, .sw, .mon, .sec, .io, .freeCount] S) : Touches (cipherFlow p fault) S := by
  unfold cipherFlow
  try dsimp only
  repeat' (with_reducible first | apply touches_Act_event | apply touches_Act_count | apply touches_Act_take | apply touches_Act_sealPdu | apply touches_Act_verified | apply touches_Act_flowOut | apply Touches.seq | apply Touches.get | apply Touches.when | apply Touches.ite | exact Part.Sub.trans (by decide) hS | intro _ | split | dsimp only)

theorem touches_sealBeacon {p i : Nat} {fault : Bool} {S : List Part} (hS : Part.Sub [.regs, .evtNo, .upsets, .irqs, .sw, .sec, .freeCount] S) : Touches (sealBeacon p i fault) S := by
  unfold sealBeacon
  try dsimp only
  repeat' (with_reducible first | apply touches_Act_modFresh | apply touches_Act_count | apply touches_Act_sealTag | apply touches_Act_engineOut | apply Touches.seq | apply Touches.get | apply Touches.when | apply Touches.opt | apply Touches.ite | exact Part.Sub.trans (by decide) hS | intro _ | split | dsimp only)

/-! ## Tables -/

theorem touches_Act_putRoute {p : Nat} {r : Route} {S : List Part} (hS : Part.Sub [.tbls] S) : Touches (Act.putRoute p r) S := by
  unfold Act.putRoute
  try dsimp only
  repeat' (with_reducible first | apply touches_Act_setTblWords | apply Touches.each | exact Part.Sub.trans (by decide) hS | intro _ | dsimp only)

theorem touches_Act_dropRoute {p : Nat} {r : Route} {S : List Part} (hS : Part.Sub [.tbls] S) : Touches (Act.dropRoute p r) S := by
  unfold Act.dropRoute
  try dsimp only
  repeat' (with_reducible first | apply touches_Act_setTblWords | apply Touches.each | exact Part.Sub.trans (by decide) hS | intro _ | dsimp only)

theorem touches_Act_lpmKey {p : Nat} {r : Route} {S : List Part} (hS : Part.Sub [.regs, .upsets] S) : Touches (Act.lpmKey p r) S := by
  unfold Act.lpmKey
  try dsimp only
  repeat' (with_reducible first | apply touches_Act_setFlds | apply Touches.setReg | apply Touches.all_cons | apply Touches.all_nil | exact Part.Sub.trans (by decide) hS | intro _ | dsimp only)

theorem touches_Act_lpmEvict {p : Nat} {r : Route} {S : List Part} (hS : Part.Sub [.regs, .tbls, .evtNo, .upsets, .irqs] S) : Touches (Act.lpmEvict p r) S := by
  unfold Act.lpmEvict
  try dsimp only
  repeat' (with_reducible first | apply touches_Act_event | apply touches_Act_count | apply touches_Act_dropRoute | apply touches_Act_lpmKey | apply Touches.all_cons | apply Touches.all_nil | exact Part.Sub.trans (by decide) hS | intro _ | dsimp only)

theorem touches_Act_lpmRoom {p n : Nat} {z0 : Nat} {S : List Part} (hS : Part.Sub [.regs, .tbls, .evtNo, .upsets, .irqs, .freeCount] S) : Touches (Act.lpmRoom p n z0) S := by
  induction z0 with
  | zero =>
    unfold Act.lpmRoom
    exact Touches.skip
  | succ z0 ih =>
    unfold Act.lpmRoom
    try dsimp only
    repeat' (with_reducible first | exact ih | apply touches_Act_freeBelow | apply touches_Act_lpmEvict | apply Touches.seq | apply Touches.get | apply Touches.opt | apply Touches.skip | apply Touches.ite | exact Part.Sub.trans (by decide) hS | intro _ | split | dsimp only)

theorem touches_Act_placeRoute {p : Nat} {r : Route} {S : List Part} (hS : Part.Sub [.regs, .tbls, .upsets] S) : Touches (Act.placeRoute p r) S := by
  unfold Act.placeRoute
  try dsimp only
  repeat' (with_reducible first | apply touches_Act_setFld | apply touches_Act_putRoute | apply touches_Act_dropRoute | apply Touches.all_cons | apply Touches.all_nil | apply Touches.get | apply Touches.each | exact Part.Sub.trans (by decide) hS | intro _ | dsimp only)

theorem touches_Act_lpmResult {p n : Nat} {S : List Part} (hS : Part.Sub [.regs, .upsets] S) : Touches (Act.lpmResult p n) S := by
  unfold Act.lpmResult
  try dsimp only
  repeat' (with_reducible first | apply touches_Act_setFld | exact Part.Sub.trans (by decide) hS | intro _ | dsimp only)

theorem touches_Act_lpmInsert {p : Nat} {v6 : Bool} {len hop : Nat} {S : List Part} (hS : Part.Sub [.regs, .tbls, .evtNo, .upsets, .irqs, .sw, .freeCount] S) : Touches (Act.lpmInsert p v6 len hop) S := by
  unfold Act.lpmInsert
  try dsimp only
  repeat' (with_reducible first | apply touches_Act_setLpmSeq | apply touches_Act_setFld | apply touches_Act_putRoute | apply touches_Act_lpmRoom | apply touches_Act_placeRoute | apply touches_Act_lpmResult | apply Touches.all_cons | apply Touches.all_nil | apply Touches.get | apply Touches.ite | exact Part.Sub.trans (by decide) hS | intro _ | split | dsimp only)

theorem touches_Act_lpmDelete {p : Nat} {v6 : Bool} {len : Nat} {S : List Part} (hS : Part.Sub [.regs, .tbls, .upsets] S) : Touches (Act.lpmDelete p v6 len) S := by
  unfold Act.lpmDelete
  try dsimp only
  repeat' (with_reducible first | apply touches_Act_dropRoute | apply touches_Act_lpmResult | apply Touches.seq | apply Touches.get | apply Touches.ite | exact Part.Sub.trans (by decide) hS | intro _ | split | dsimp only)

theorem touches_Act_lpmLookup {p : Nat} {v6 : Bool} {S : List Part} (hS : Part.Sub [.regs, .upsets] S) : Touches (Act.lpmLookup p v6) S := by
  unfold Act.lpmLookup
  try dsimp only
  repeat' (with_reducible first | apply touches_Act_setFlds | apply touches_Act_lpmResult | apply Touches.get | exact Part.Sub.trans (by decide) hS | intro _ | split | dsimp only)

theorem touches_lpmCmd {ag : Agent} {p : Nat} {v : Word} {k : Code → Act} {S : List Part} (hS : Part.Sub [.regs, .tbls, .evtNo, .upsets, .irqs, .sw, .freeCount] S) (hk_k : ∀ x0, Touches (k x0) S) : Touches (lpmCmd ag p v k) S := by
  unfold lpmCmd
  try dsimp only
  repeat' (with_reducible first | exact hk_k _ | apply touches_Act_badValue | apply touches_Act_store | apply touches_Act_lpmInsert | apply touches_Act_lpmDelete | apply touches_Act_lpmLookup | apply Touches.all_cons | apply Touches.all_nil | apply Touches.skip | apply Touches.ite | exact Part.Sub.trans (by decide) hS | intro _ | split | dsimp only)

theorem touches_Act_macPut {p i : Nat} {w0 w1 : Word} {S : List Part} (hS : Part.Sub [.tbls, .sw] S) : Touches (Act.macPut p i w0 w1) S := by
  unfold Act.macPut
  try dsimp only
  repeat' (with_reducible first | apply touches_Act_setTblWords | apply touches_Act_notice | apply touches_Act_macRemove | apply Touches.all_cons | apply Touches.all_nil | apply Touches.get | apply Touches.when | apply Touches.each | exact Part.Sub.trans (by decide) hS | intro _ | dsimp only)

theorem touches_Act_fillMeter {p m : Nat} {S : List Part} (hS : Part.Sub [.sw] S) : Touches (Act.fillMeter p m) S := by
  unfold Act.fillMeter
  try dsimp only
  repeat' (with_reducible first | apply touches_Act_setMtrC | apply touches_Act_setMtrE | apply Touches.seq | apply Touches.get | exact Part.Sub.trans (by decide) hS | intro _ | dsimp only)

theorem touches_Act_tblPut {p t i : Nat} {l : List Word} {S : List Part} (hS : Part.Sub [.tbls, .sw] S) : Touches (Act.tblPut p t i l) S := by
  unfold Act.tblPut
  try dsimp only
  repeat' (with_reducible first | apply touches_Act_setTblWords | apply touches_Act_macPut | apply touches_Act_fillMeter | apply Touches.seq | apply Touches.ite | apply Touches.all_map | exact Part.Sub.trans (by decide) hS | intro _ | split | dsimp only)

theorem touches_Act_tdmaDst {p t e : Nat} {l : List Word} {mem : Option Nat} {S : List Part} (hS : Part.Sub [.regs, .mem, .upsets] S) : Touches (Act.tdmaDst p t e l mem) S := by
  unfold Act.tdmaDst
  try dsimp only
  repeat' (with_reducible first | apply touches_Act_memSetWord | apply Touches.setReg | apply Touches.each | exact Part.Sub.trans (by decide) hS | intro _ | split | dsimp only)

theorem touches_Act_tdmaKeyed {p j : Nat} {u : TdmaJob} {S : List Part} (hS : Part.Sub [.regs, .tbls, .evtNo, .upsets, .irqs, .sw, .freeCount] S) : Touches (Act.tdmaKeyed p j u) S := by
  unfold Act.tdmaKeyed
  try dsimp only
  repeat' (with_reducible first | apply touches_Act_setTjob | apply touches_Act_macRemove | apply touches_Act_macEvict | apply touches_Act_macRoom | apply touches_Act_tblPut | apply Touches.setReg | apply Touches.all_cons | apply Touches.all_nil | apply Touches.seq | apply Touches.get | exact Part.Sub.trans (by decide) hS | intro _ | split | dsimp only)

theorem touches_Act_tdmaStep {p j : Nat} {S : List Part} (hS : Part.Sub [.regs, .tbls, .mem, .evtNo, .upsets, .irqs, .sw, .freeCount] S) : Touches (Act.tdmaStep p j) S := by
  unfold Act.tdmaStep
  try dsimp only
  repeat' (with_reducible first | apply touches_Act_setTjob | apply touches_Act_tblPut | apply touches_Act_tdmaDst | apply touches_Act_tdmaKeyed | apply Touches.seq | apply Touches.get | apply Touches.opt | apply Touches.skip | apply Touches.ite | exact Part.Sub.trans (by decide) hS | intro _ | split | dsimp only)

theorem touches_Act_tdmaRounds {p : Nat} {z0 : Nat} {S : List Part} (hS : Part.Sub [.regs, .tbls, .mem, .evtNo, .upsets, .irqs, .sw, .freeCount] S) : Touches (Act.tdmaRounds p z0) S := by
  induction z0 with
  | zero =>
    unfold Act.tdmaRounds
    exact Touches.skip
  | succ z0 ih =>
    unfold Act.tdmaRounds
    try dsimp only
    repeat' (with_reducible first | exact ih | apply touches_Act_tdmaStep | apply Touches.seq | apply Touches.each | apply Touches.skip | exact Part.Sub.trans (by decide) hS | intro _ | split | dsimp only)

theorem touches_Act_tdmaStart {p j part t op i n : Nat} {mem : Option Nat} {S : List Part} (hS : Part.Sub [.sw] S) : Touches (Act.tdmaStart p j part t op i n mem) S := by
  unfold Act.tdmaStart
  try dsimp only
  repeat' (with_reducible first | apply touches_Act_setTjob | apply Touches.get | apply Touches.ite | exact Part.Sub.trans (by decide) hS | intro _ | split | dsimp only)

theorem touches_tdmaJob {ag : Agent} {p j : Nat} {v : Word} {k : Code → Act} {S : List Part} (hS : Part.Sub [.regs, .evtNo, .upsets, .sw] S) (hk_k : ∀ x0, Touches (k x0) S) : Touches (tdmaJob ag p j v k) S := by
  unfold tdmaJob
  try dsimp only
  repeat' (with_reducible first | exact hk_k _ | apply touches_Act_badValue | apply touches_Act_store | apply touches_Act_tdmaStart | apply Touches.setReg | apply Touches.all_cons | apply Touches.all_nil | apply Touches.seq | apply Touches.get | apply Touches.ite | exact Part.Sub.trans (by decide) hS | intro _ | split | dsimp only)

theorem touches_tdmaJobDone {p j : Nat} {S : List Part} (hS : Part.Sub [.regs, .tbls, .mem, .evtNo, .upsets, .irqs, .sw, .freeCount] S) : Touches (tdmaJobDone p j) S := by
  unfold tdmaJobDone
  try dsimp only
  repeat' (with_reducible first | apply touches_Act_setTjob | apply touches_Act_event | apply touches_Act_tdmaRounds | apply Touches.setReg | apply Touches.all_cons | apply Touches.all_nil | apply Touches.seq | apply Touches.get | apply Touches.when | apply Touches.opt | exact Part.Sub.trans (by decide) hS | intro _ | dsimp only)

theorem touches_tdmaLock {p t : Nat} {v : Word} {k : Code → Act} {S : List Part} (hS : Part.Sub [.regs, .upsets, .sw] S) (hk_k : ∀ x0, Touches (k x0) S) : Touches (tdmaLock p t v k) S := by
  unfold tdmaLock
  try dsimp only
  repeat' (with_reducible first | exact hk_k _ | apply touches_Act_setLockedAt | apply touches_Act_store | apply Touches.all_cons | apply Touches.all_nil | apply Touches.get | apply Touches.each | exact Part.Sub.trans (by decide) hS | intro _ | dsimp only)

theorem touches_tdmaLockExpire {p t r : Nat} {S : List Part} (hS : Part.Sub [.regs, .evtNo, .upsets] S) : Touches (tdmaLockExpire p t r) S := by
  unfold tdmaLockExpire
  try dsimp only
  repeat' (with_reducible first | apply touches_Act_event | apply Touches.setReg | apply Touches.seq | apply Touches.get | apply Touches.when | exact Part.Sub.trans (by decide) hS | intro _ | dsimp only)

/-! ## Blocks -/

theorem touches_Act_blockOn {d b : Nat} {S : List Part} (hS : Part.Sub [.regs, .evtNo, .upsets, .irqs, .sw, .nets, .gw, .mon, .io] S) : Touches (Act.blockOn d b) S := by
  unfold Act.blockOn
  try dsimp only
  repeat' (with_reducible first | apply touches_Act_d2dExchange | apply touches_Act_canEnable | apply touches_Act_ethEnable | apply touches_Act_linEnable | apply touches_Act_chSettle | apply touches_Act_pairStart | apply touches_Act_wakeEnable | apply touches_Act_recEnable | apply touches_Act_sgwOn | apply Touches.when | apply Touches.skip | apply Touches.ite | exact Part.Sub.trans (by decide) hS | intro _ | split | dsimp only)

theorem touches_Act_wbrOff {p : Nat} {S : List Part} (hS : Part.Sub [.gw] S) : Touches (Act.wbrOff p) S := by
  unfold Act.wbrOff
  try dsimp only
  repeat' (with_reducible first | apply Touches.upd_of hS | exact Part.Sub.trans (by decide) hS | intro _ | dsimp only)
  all_goals (intro s p hp; cases p <;> first | rfl | exact absurd (by decide) hp)

theorem touches_Act_blockOff {d b : Nat} {S : List Part} (hS : Part.Sub [.regs, .evtNo, .upsets, .irqs, .sw, .nets, .gw, .mon, .io, .out] S) : Touches (Act.blockOff d b) S := by
  unfold Act.blockOff
  try dsimp only
  repeat' (with_reducible first | apply touches_Act_modDrv | apply touches_Act_setFabOff | apply touches_Act_canOff | apply touches_Act_linkDown | apply touches_Act_linOff | apply touches_Act_chSettle | apply touches_Act_pairStop | apply touches_Act_wakeDisable | apply touches_Act_recDisable | apply touches_Act_sgwOff | apply touches_Act_wbrOff | apply Touches.get | apply Touches.when | apply Touches.skip | apply Touches.ite | exact Part.Sub.trans (by decide) hS | intro _ | split | dsimp only)

theorem touches_Act_setEnable {d b : Nat} {on : Bool} {S : List Part} (hS : Part.Sub [.regs, .evtNo, .upsets, .irqs, .sw, .nets, .gw, .mon, .io, .out] S) : Touches (Act.setEnable d b on) S := by
  unfold Act.setEnable
  try dsimp only
  repeat' (with_reducible first | apply touches_Act_blockOn | apply touches_Act_blockOff | apply Touches.setReg | apply Touches.seq | apply Touches.get | apply Touches.skip | apply Touches.ite | exact Part.Sub.trans (by decide) hS | intro _ | split | dsimp only)

theorem touches_blkCtrl {ag : Agent} {d b : Nat} {v : Word} {k : Code → Act} {S : List Part} (hS : Part.Sub [.regs, .evtNo, .upsets, .irqs, .sw, .nets, .gw, .mon, .io, .out] S) (hk_k : ∀ x0, Touches (k x0) S) : Touches (blkCtrl ag d b v k) S := by
  unfold blkCtrl
  try dsimp only
  repeat' (with_reducible first | exact hk_k _ | apply touches_Act_badValue | apply touches_Act_setEnable | apply Touches.seq | apply Touches.get | apply Touches.ite | exact Part.Sub.trans (by decide) hS | intro _ | split | dsimp only)

theorem touches_Act_upset {a : Nat} {m : Word} {par : Nat} {S : List Part} (hS : Part.Sub [.regs, .upsets] S) : Touches (Act.upset a m par) S := by
  unfold Act.upset
  try dsimp only
  repeat' (with_reducible first | apply Touches.setReg | apply Touches.upd_of hS | apply Touches.seq | apply Touches.get | apply Touches.when | apply Touches.skip | apply Touches.ite | exact Part.Sub.trans (by decide) hS | intro _ | split | dsimp only)
  all_goals (intro s p hp; cases p <;> first | rfl | exact absurd (by decide) hp)

theorem touches_Act_countMismatch {a : Nat} {S : List Part} (hS : Part.Sub [.regs, .tbls, .mem, .flash, .evtNo, .lockedRegs, .onceRegs, .upsets, .mismatches, .posted, .compat, .pends, .eyeReset, .irqs, .sup, .prism, .start, .clk, .ld, .sw, .nets, .gw, .mon, .sec, .plx, .io, .cpu, .freeCount] S) : Touches (Act.countMismatch a) S := by
  unfold Act.countMismatch
  try dsimp only
  repeat' (with_reducible first | apply touches_Act_packageReset | apply Touches.upd_of hS | apply Touches.seq | apply Touches.get | apply Touches.when | apply Touches.ite | exact Part.Sub.trans (by decide) hS | intro _ | split | dsimp only)
  all_goals (intro s p hp; cases p <;> first | rfl | exact absurd (by decide) hp)

theorem touches_Act_mismatch {a : Nat} {S : List Part} (hS : Part.Sub [.regs, .tbls, .mem, .flash, .evtNo, .lockedRegs, .onceRegs, .upsets, .mismatches, .posted, .compat, .pends, .eyeReset, .irqs, .sup, .prism, .start, .clk, .ld, .sw, .nets, .gw, .mon, .sec, .plx, .io, .cpu, .out, .freeCount] S) : Touches (Act.mismatch a) S := by
  unfold Act.mismatch
  try dsimp only
  repeat' (with_reducible first | apply touches_Act_blkErr | apply touches_Act_setEnable | apply touches_Act_countMismatch | apply Touches.all_cons | apply Touches.all_nil | apply Touches.when | exact Part.Sub.trans (by decide) hS | intro _ | dsimp only)

theorem touches_Act_check {a : Nat} {S : List Part} (hS : Part.Sub [.regs, .tbls, .mem, .flash, .evtNo, .lockedRegs, .onceRegs, .upsets, .mismatches, .posted, .compat, .pends, .eyeReset, .irqs, .sup, .prism, .start, .clk, .ld, .sw, .nets, .gw, .mon, .sec, .plx, .io, .cpu, .out, .freeCount] S) : Touches (Act.check a) S := by
  unfold Act.check
  try dsimp only
  repeat' (with_reducible first | apply touches_Act_mismatch | apply Touches.get | apply Touches.when | exact Part.Sub.trans (by decide) hS | intro _ | dsimp only)

/-! ## Watch -/

theorem touches_Act_safeExpire  {S : List Part} (hS : Part.Sub [.regs, .tbls, .mem, .flash, .evtNo, .lockedRegs, .onceRegs, .upsets, .mismatches, .posted, .compat, .pends, .eyeReset, .irqs, .sup, .prism, .start, .clk, .ld, .sw, .nets, .gw, .mon, .sec, .plx, .io, .cpu, .freeCount] S) : Touches (Act.safeExpire ) S := by
  unfold Act.safeExpire
  try dsimp only
  repeat' (with_reducible first | apply touches_Act_packageReset | exact Part.Sub.trans (by decide) hS | intro _ | dsimp only)

theorem touches_skickWrite {ag : Agent} {p : Nat} {v : Word} {cont : Code → Act} {S : List Part} (hS : Part.Sub [.regs, .tbls, .mem, .flash, .evtNo, .lockedRegs, .onceRegs, .upsets, .mismatches, .posted, .compat, .pends, .eyeReset, .irqs, .sup, .prism, .start, .clk, .ld, .sw, .nets, .gw, .mon, .sec, .plx, .io, .cpu, .freeCount] S) (hk_cont : ∀ x0, Touches (cont x0) S) : Touches (skickWrite ag p v cont) S := by
  unfold skickWrite
  try dsimp only
  repeat' (with_reducible first | exact hk_cont _ | apply touches_Act_modSafePair | apply touches_Act_setFld | apply touches_Act_safeExpire | apply Touches.all_cons | apply Touches.all_nil | apply Touches.seq | apply Touches.get | apply Touches.ite | exact Part.Sub.trans (by decide) hS | intro _ | split | dsimp only)

theorem touches_safetyWdtExpiry {p : Nat} {S : List Part} (hS : Part.Sub [.regs, .tbls, .mem, .flash, .evtNo, .lockedRegs, .onceRegs, .upsets, .mismatches, .posted, .compat, .pends, .eyeReset, .irqs, .sup, .prism, .start, .clk, .ld, .sw, .nets, .gw, .mon, .sec, .plx, .io, .cpu, .freeCount] S) : Touches (safetyWdtExpiry p) S := by
  unfold safetyWdtExpiry
  try dsimp only
  repeat' (with_reducible first | apply touches_Act_safeExpire | apply Touches.get | apply Touches.when | exact Part.Sub.trans (by decide) hS | intro _ | dsimp only)

theorem touches_Act_zeroise  {S : List Part} (hS : Part.Sub [.regs, .upsets, .sec, .freeCount] S) : Touches (Act.zeroise ) S := by
  unfold Act.zeroise
  try dsimp only
  repeat' (with_reducible first | apply touches_Act_modKstore | apply touches_Act_clearSlot | apply touches_Act_setOpBuf | apply Touches.setReg | apply Touches.free | apply Touches.all_cons | apply Touches.all_nil | apply Touches.get | apply Touches.each | apply Touches.skip | exact Part.Sub.trans (by decide) hS | intro _ | dsimp only)

theorem touches_Act_tamper {m : Nat} {S : List Part} (hS : Part.Sub [.fuse, .regs, .tbls, .mem, .flash, .evtNo, .lockedRegs, .onceRegs, .upsets, .mismatches, .posted, .compat, .pends, .eyeReset, .irqs, .sup, .prism, .start, .clk, .ld, .sw, .nets, .gw, .mon, .sec, .plx, .io, .cpu, .freeCount] S) : Touches (Act.tamper m) S := by
  unfold Act.tamper
  try dsimp only
  repeat' (with_reducible first | apply touches_Act_packageReset | apply touches_Act_zeroise | apply Touches.destroyShares | apply Touches.all_cons | apply Touches.all_nil | exact Part.Sub.trans (by decide) hS | intro _ | dsimp only)

theorem touches_Act_tamperInputs {m : Nat} {S : List Part} (hS : Part.Sub [.fuse, .regs, .tbls, .mem, .flash, .evtNo, .lockedRegs, .onceRegs, .upsets, .mismatches, .posted, .compat, .pends, .eyeReset, .irqs, .sup, .prism, .start, .clk, .ld, .sw, .nets, .gw, .mon, .sec, .plx, .io, .cpu, .freeCount] S) : Touches (Act.tamperInputs m) S := by
  unfold Act.tamperInputs
  try dsimp only
  repeat' (with_reducible first | apply touches_Act_modKstore | apply touches_Act_event | apply touches_Act_tamper | apply Touches.seq | apply Touches.get | apply Touches.when | exact Part.Sub.trans (by decide) hS | intro _ | dsimp only)

theorem touches_tamperAssert {m : Nat} {S : List Part} (hS : Part.Sub [.fuse, .regs, .tbls, .mem, .flash, .evtNo, .lockedRegs, .onceRegs, .upsets, .mismatches, .posted, .compat, .pends, .eyeReset, .irqs, .sup, .prism, .start, .clk, .ld, .sw, .nets, .gw, .mon, .sec, .plx, .io, .cpu, .freeCount] S) : Touches (tamperAssert m) S := by
  unfold tamperAssert
  try dsimp only
  repeat' (with_reducible first | apply touches_Act_tamperInputs | exact Part.Sub.trans (by decide) hS | intro _ | dsimp only)

theorem touches_tamperSeen {m : Nat} {S : List Part} (hS : Part.Sub [.fuse, .regs, .tbls, .mem, .flash, .evtNo, .lockedRegs, .onceRegs, .upsets, .mismatches, .posted, .compat, .pends, .eyeReset, .irqs, .sup, .prism, .start, .clk, .ld, .sw, .nets, .gw, .mon, .sec, .plx, .io, .cpu, .freeCount] S) : Touches (tamperSeen m) S := by
  unfold tamperSeen
  try dsimp only
  repeat' (with_reducible first | apply touches_Act_tamperInputs | exact Part.Sub.trans (by decide) hS | intro _ | dsimp only)

end Sys2Proof.Machine
end

