-- ==== Sys2Proof/Laws/Frame/Group7.lean ====
section
/-! SUPPORT. Which parts of the state the operations of Epoch, Access, Mgmt, Image, Load, Eyepiece may change. -/

set_option linter.unusedTactic false
set_option linter.unreachableTactic false

namespace Sys2Proof.Machine

/-! ## Epoch -/

theorem touches_Act_flashProgram {a : Nat} {l : List Byte} {S : List Part} (hS : Part.Sub [.flash] S) : Touches (Act.flashProgram a l) S := by
  unfold Act.flashProgram
  try dsimp only
  repeat' (with_reducible first | apply Touches.setFlash | apply Touches.all_cons | apply Touches.all_nil | apply Touches.get | apply Touches.all_map | exact Part.Sub.trans (by decide) hS | intro _ | dsimp only)

theorem touches_Act_flashErase {a : Nat} {S : List Part} (hS : Part.Sub [.flash] S) : Touches (Act.flashErase a) S := by
  unfold Act.flashErase
  try dsimp only
  repeat' (with_reducible first | apply Touches.eraseFlash | exact Part.Sub.trans (by decide) hS | intro _ | dsimp only)

theorem touches_Act_burnRecord {k i : Nat} {r : EpochRec} {good : Bool} {cont : Bool → Act} {S : List Part} (hS : Part.Sub [.flash, .freeCount] S) (hk_cont : ∀ x0, Touches (cont x0) S) : Touches (Act.burnRecord k i r good cont) S := by
  unfold Act.burnRecord
  try dsimp only
  repeat' (with_reducible first | exact hk_cont _ | apply touches_Act_flashUndefined | apply touches_Act_flashProgram | apply Touches.seq | apply Touches.ite | exact Part.Sub.trans (by decide) hS | intro _ | split | dsimp only)

theorem touches_Act_placeRecord {k i : Nat} {r : EpochRec} {b : Burn} {cont : Bool → Act} {S : List Part} (hS : Part.Sub [.flash, .freeCount] S) (hk_cont : ∀ x0, Touches (cont x0) S) : Touches (Act.placeRecord k i r b cont) S := by
  unfold Act.placeRecord
  try dsimp only
  repeat' (with_reducible first | exact hk_cont _ | apply touches_Act_burnRecord | apply Touches.get | apply Touches.ite | exact Part.Sub.trans (by decide) hS | intro _ | split | dsimp only)

theorem touches_Act_putErased {k : Nat} {r : EpochRec} {b : Burn} {cont : Bool → Act} {S : List Part} (hS : Part.Sub [.flash, .freeCount] S) (hk_cont : ∀ x0, Touches (cont x0) S) : Touches (Act.putErased k r b cont) S := by
  unfold Act.putErased
  try dsimp only
  repeat' (with_reducible first | exact hk_cont _ | apply touches_Act_flashUndefined | apply touches_Act_flashErase | apply touches_Act_placeRecord | apply Touches.seq | apply Touches.get | apply Touches.ite | exact Part.Sub.trans (by decide) hS | intro _ | split | dsimp only)

theorem touches_Act_epochShow  {S : List Part} (hS : Part.Sub [.regs, .upsets] S) : Touches (Act.epochShow ) S := by
  unfold Act.epochShow
  try dsimp only
  repeat' (with_reducible first | apply touches_Act_setFlds | apply Touches.get | exact Part.Sub.trans (by decide) hS | intro _ | split | dsimp only)

theorem touches_Act_writeRecord {r : EpochRec} {b : Burn} {cont : Bool → Act} {S : List Part} (hS : Part.Sub [.regs, .flash, .upsets, .freeCount] S) (hk_cont : ∀ x0, Touches (cont x0) S) : Touches (Act.writeRecord r b cont) S := by
  unfold Act.writeRecord
  try dsimp only
  repeat' (with_reducible first | exact hk_cont _ | apply touches_Act_placeRecord | apply touches_Act_putErased | apply touches_Act_epochShow | apply Touches.seq | apply Touches.get | apply Touches.ite | exact Part.Sub.trans (by decide) hS | intro _ | split | dsimp only)

theorem touches_Act_setLd {f : LoaderState → LoaderState} {S : List Part} (hS : Part.Sub [.ld] S) : Touches (Act.setLd f) S := by
  unfold Act.setLd
  try dsimp only
  repeat' (with_reducible first | apply Touches.upd_of hS | exact Part.Sub.trans (by decide) hS | intro _ | dsimp only)
  all_goals (intro s p hp; cases p <;> first | rfl | exact absurd (by decide) hp)

theorem touches_Act_epochOutcome {st epoch : Nat} {c : EpochRec} {events : List Nat} {S : List Part} (hS : Part.Sub [.regs, .evtNo, .upsets] S) : Touches (Act.epochOutcome st epoch c events) S := by
  unfold Act.epochOutcome
  try dsimp only
  repeat' (with_reducible first | apply touches_Act_setFld | apply touches_Act_setFlds | apply touches_Act_event | apply Touches.all_cons | apply Touches.all_nil | apply Touches.when | apply Touches.each | exact Part.Sub.trans (by decide) hS | intro _ | dsimp only)

theorem touches_epochWrite {b : Burn} {S : List Part} (hS : Part.Sub [.fuse, .regs, .flash, .evtNo, .upsets, .start, .freeCount] S) : Touches (epochWrite b) S := by
  unfold epochWrite
  try dsimp only
  repeat' (with_reducible first | apply touches_Act_setStart | apply touches_Act_writeRecord | apply touches_Act_epochOutcome | apply Touches.blowEpochInit | apply Touches.seq | apply Touches.get | apply Touches.when | apply Touches.ite | exact Part.Sub.trans (by decide) hS | intro _ | split | dsimp only)

theorem touches_epochBackgroundErase {good : Bool} {S : List Part} (hS : Part.Sub [.regs, .flash, .upsets, .ld, .freeCount] S) : Touches (epochBackgroundErase good) S := by
  unfold epochBackgroundErase
  try dsimp only
  repeat' (with_reducible first | apply touches_Act_setFld | apply touches_Act_flashUndefined | apply touches_Act_flashErase | apply touches_Act_setLd | apply Touches.all_cons | apply Touches.all_nil | apply Touches.seq | apply Touches.get | apply Touches.when | apply Touches.opt | apply Touches.ite | exact Part.Sub.trans (by decide) hS | intro _ | split | dsimp only)

theorem touches_imgCmd {ag : Agent} {v : Word} {k : Code → Act} {S : List Part} (hS : Part.Sub [.regs, .evtNo, .upsets, .ld] S) (hk_k : ∀ x0, Touches (k x0) S) : Touches (imgCmd ag v k) S := by
  unfold imgCmd
  try dsimp only
  repeat' (with_reducible first | exact hk_k _ | apply touches_Act_badValue | apply touches_Act_setLd | apply Touches.setReg | apply Touches.all_cons | apply Touches.all_nil | apply Touches.get | apply Touches.ite | exact Part.Sub.trans (by decide) hS | intro _ | split | dsimp only)

theorem touches_imgCmdDone {b : Burn} {S : List Part} (hS : Part.Sub [.regs, .flash, .evtNo, .upsets, .ld, .freeCount] S) : Touches (imgCmdDone b) S := by
  unfold imgCmdDone
  try dsimp only
  repeat' (with_reducible first | apply touches_Act_setFld | apply touches_Act_event | apply touches_Act_writeRecord | apply touches_Act_setLd | apply Touches.all_cons | apply Touches.all_nil | apply Touches.get | apply Touches.when | apply Touches.opt | apply Touches.ite | apply Touches.all_map | exact Part.Sub.trans (by decide) hS | intro _ | split | dsimp only)

theorem touches_Act_provEnd {p result : Nat} {S : List Part} (hS : Part.Sub [.regs, .upsets, .sec] S) : Touches (Act.provEnd p result) S := by
  unfold Act.provEnd
  try dsimp only
  repeat' (with_reducible first | apply touches_Act_modKstore | apply touches_Act_setFld | apply Touches.setReg | apply Touches.all_cons | apply Touches.all_nil | apply Touches.each | exact Part.Sub.trans (by decide) hS | intro _ | dsimp only)

theorem touches_provCmd {ag : Agent} {p : Nat} {v : Word} {k : Code → Act} {S : List Part} (hS : Part.Sub [.regs, .evtNo, .upsets, .sec] S) (hk_k : ∀ x0, Touches (k x0) S) : Touches (provCmd ag p v k) S := by
  unfold provCmd
  try dsimp only
  repeat' (with_reducible first | exact hk_k _ | apply touches_Act_modKstore | apply touches_Act_badValue | apply touches_Act_provEnd | apply Touches.setReg | apply Touches.seq | apply Touches.get | apply Touches.ite | exact Part.Sub.trans (by decide) hS | intro _ | split | dsimp only)

theorem touches_Act_burnBlob {blob : List Nat} {b : Burn} {k : Bool → Act} {S : List Part} (hS : Part.Sub [.flash, .freeCount] S) (hk_k : ∀ x0, Touches (k x0) S) : Touches (Act.burnBlob blob b k) S := by
  unfold Act.burnBlob
  try dsimp only
  repeat' (with_reducible first | exact hk_k _ | apply touches_Act_flashUndefined | apply touches_Act_flashProgram | apply touches_Act_flashErase | apply Touches.seq | apply Touches.ite | exact Part.Sub.trans (by decide) hS | intro _ | split | dsimp only)

theorem touches_Act_burnKey {p : Nat} {key : List Nat} {b : Burn} {good : Act} {S : List Part} (hS : Part.Sub [.regs, .flash, .upsets, .sec, .freeCount] S) (hk_good : Touches (good) S) : Touches (Act.burnKey p key b good) S := by
  unfold Act.burnKey
  try dsimp only
  repeat' (with_reducible first | exact hk_good | apply touches_Act_provEnd | apply touches_Act_burnBlob | apply Touches.seq | apply Touches.ite | exact Part.Sub.trans (by decide) hS | intro _ | split | dsimp only)

theorem touches_Act_provRenew {p arg : Nat} {b : Burn} {S : List Part} (hS : Part.Sub [.regs, .flash, .upsets, .sec, .freeCount] S) : Touches (Act.provRenew p arg b) S := by
  unfold Act.provRenew
  try dsimp only
  repeat' (with_reducible first | apply touches_Act_freeBelow | apply touches_Act_writeRecord | apply touches_Act_provEnd | apply Touches.get | apply Touches.ite | exact Part.Sub.trans (by decide) hS | intro _ | split | dsimp only)

theorem touches_provCmdDone {p : Nat} {b : Burn} {S : List Part} (hS : Part.Sub [.fuse, .regs, .flash, .upsets, .sec, .freeCount] S) : Touches (provCmdDone p b) S := by
  unfold provCmdDone
  try dsimp only
  repeat' (with_reducible first | apply touches_Act_provEnd | apply touches_Act_burnKey | apply touches_Act_provRenew | apply Touches.blowProvDone | apply Touches.get | apply Touches.when | apply Touches.opt | apply Touches.skip | exact Part.Sub.trans (by decide) hS | intro _ | split | dsimp only)

/-! ## Access -/

theorem touches_Act_fwFail {ag : Agent} {a : Nat} {c : Code} {S : List Part} (hS : Part.Sub [.irqs] S) : Touches (Act.fwFail ag a c) S := by
  unfold Act.fwFail
  try dsimp only
  repeat' (with_reducible first | apply touches_Act_irq | apply Touches.skip | exact Part.Sub.trans (by decide) hS | intro _ | split | dsimp only)

theorem touches_Act_setPosted {d b : Nat} {o : Option Posted} {S : List Part} (hS : Part.Sub [.posted] S) : Touches (Act.setPosted d b o) S := by
  unfold Act.setPosted
  try dsimp only
  repeat' (with_reducible first | apply Touches.upd_of hS | exact Part.Sub.trans (by decide) hS | intro _ | dsimp only)
  all_goals (intro s p hp; cases p <;> first | rfl | exact absurd (by decide) hp)

theorem touches_Act_put {a : Nat} {v : Word} {k : Code → Act} {S : List Part} (hS : Part.Sub [.regs, .upsets] S) (hk_k : ∀ x0, Touches (k x0) S) : Touches (Act.put a v k) S := by
  unfold Act.put
  try dsimp only
  repeat' (with_reducible first | exact hk_k _ | apply touches_Act_store | apply Touches.seq | exact Part.Sub.trans (by decide) hS | intro _ | dsimp only)

theorem touches_Act_clearing {ag : Agent} {a : Nat} {v : Word} {k : Code → Act} {S : List Part} (hS : Part.Sub [.regs, .evtNo, .upsets] S) (hk_k : ∀ x0, Touches (k x0) S) : Touches (Act.clearing ag a v k) S := by
  unfold Act.clearing
  try dsimp only
  repeat' (with_reducible first | exact hk_k _ | apply touches_Act_clearSeq | apply touches_Act_blkErr | apply Touches.seq | apply Touches.get | apply Touches.ite | exact Part.Sub.trans (by decide) hS | intro _ | split | dsimp only)

theorem touches_Act_effectFab {ag : Agent} {p b r a : Nat} {v : Word} {k : Code → Act} {S : List Part} (hS : Part.Sub [.regs, .tbls, .evtNo, .upsets, .irqs, .sw, .mon, .io, .freeCount] S) (hk_k : ∀ x0, Touches (k x0) S) : Touches (Act.effectFab ag p b r a v k) S := by
  unfold Act.effectFab
  try dsimp only
  repeat' (with_reducible first | exact hk_k _ | apply touches_Act_store | apply touches_Act_checkShared | apply touches_cbsWrite | apply touches_gclCtrl | apply touches_repCmd | apply touches_fabClrMax | apply touches_flushCmd | apply touches_dropRest | apply touches_qCmd | apply touches_lpmCmd | apply touches_tdmaJob | apply touches_tdmaLock | apply touches_Act_put | apply Touches.all_cons | apply Touches.all_nil | apply Touches.seq | apply Touches.when | apply Touches.ite | exact Part.Sub.trans (by decide) hS | intro _ | split | dsimp only)

theorem touches_Act_effectFacet {ag : Agent} {p b r a : Nat} {v : Word} {k : Code → Act} {S : List Part} (hS : Part.Sub [.regs, .tbls, .evtNo, .upsets, .irqs, .sw, .nets, .out] S) (hk_k : ∀ x0, Touches (k x0) S) : Touches (Act.effectFacet ag p b r a v k) S := by
  unfold Act.effectFacet
  try dsimp only
  repeat' (with_reducible first | exact hk_k _ | apply touches_acCmd | apply touches_canCmd | apply touches_filtCmd | apply touches_mdioWrite | apply touches_ethCtrl | apply touches_linCmd | apply touches_schedCmd | apply touches_pubCmd | apply touches_Act_put | apply Touches.get | apply Touches.ite | exact Part.Sub.trans (by decide) hS | intro _ | split | dsimp only)

theorem touches_Act_effectSec {ag : Agent} {p b r a : Nat} {v : Word} {k : Code → Act} {S : List Part} (hS : Part.Sub [.regs, .tbls, .evtNo, .onceRegs, .upsets, .irqs, .gw, .sec, .freeCount] S) (hk_k : ∀ x0, Touches (k x0) S) : Touches (Act.effectSec ag p b r a v k) S := by
  unfold Act.effectSec
  try dsimp only
  repeat' (with_reducible first | exact hk_k _ | apply touches_saCmd | apply touches_profCmd | apply touches_fvCmd | apply touches_sigCmd | apply touches_beamCmd | apply touches_sgwTblCmd | apply touches_opCmd | apply touches_jobCmd | apply touches_provCmd | apply touches_Act_put | apply Touches.upd_of hS | apply Touches.seq | apply Touches.ite | exact Part.Sub.trans (by decide) hS | intro _ | split | dsimp only)
  all_goals (intro s p hp; cases p <;> first | rfl | exact absurd (by decide) hp)

theorem touches_Act_effectDomain {ag : Agent} {p b r a : Nat} {v : Word} {k : Code → Act} {S : List Part} (hS : Part.Sub [.regs, .tbls, .evtNo, .upsets, .irqs, .sw, .sec, .plx, .io, .freeCount] S) (hk_k : ∀ x0, Touches (k x0) S) : Touches (Act.effectDomain ag p b r a v k) S := by
  unfold Act.effectDomain
  try dsimp only
  repeat' (with_reducible first | exact hk_k _ | apply touches_pairCmd | apply touches_pairTblCmd | apply touches_reqWrite | apply touches_wakeConfirm | apply touches_dtCmd | apply touches_Act_put | apply Touches.seq | apply Touches.when | apply Touches.ite | exact Part.Sub.trans (by decide) hS | intro _ | split | dsimp only)

theorem touches_Act_effectCpu {ag : Agent} {p b r a : Nat} {v : Word} {k : Code → Act} {S : List Part} (hS : Part.Sub [.regs, .tbls, .mem, .flash, .evtNo, .lockedRegs, .onceRegs, .upsets, .mismatches, .posted, .compat, .pends, .eyeReset, .irqs, .sup, .prism, .start, .clk, .ld, .sw, .nets, .gw, .mon, .sec, .plx, .io, .cpu, .out, .freeCount] S) (hk_k : ∀ x0, Touches (k x0) S) : Touches (Act.effectCpu ag p b r a v k) S := by
  unfold Act.effectCpu
  try dsimp only
  repeat' (with_reducible first | exact hk_k _ | apply touches_Act_badValue | apply touches_timeRateWrite | apply touches_timeStepWrite | apply touches_timeCtrl | apply touches_feedVal | apply touches_mcfgWrite | apply touches_snapCmd | apply touches_pscpCmd | apply touches_rdCmd | apply touches_selWrite | apply touches_pcmdWrite | apply touches_kickWrite | apply touches_aprRead | apply touches_txrWrite | apply touches_skickWrite | apply touches_Act_put | apply Touches.ite | exact Part.Sub.trans (by decide) hS | intro _ | split | dsimp only)

theorem touches_Act_effectDrive {ag : Agent} {d b r a : Nat} {v : Word} {k : Code → Act} {S : List Part} (hS : Part.Sub [.regs, .evtNo, .upsets, .irqs, .sup, .nets, .io] S) (hk_k : ∀ x0, Touches (k x0) S) : Touches (Act.effectDrive ag d b r a v k) S := by
  unfold Act.effectDrive
  try dsimp only
  repeat' (with_reducible first | exact hk_k _ | apply touches_Act_setFld | apply touches_chnCmd | apply touches_chnCtrl | apply touches_Act_setCfgB | apply touches_wkpRearm | apply touches_Act_pinAck | apply touches_Act_minmaxClear | apply touches_Act_put | apply Touches.seq | apply Touches.when | apply Touches.ite | exact Part.Sub.trans (by decide) hS | intro _ | split | dsimp only)

theorem touches_Act_effect {ag : Agent} {a : Nat} {v : Word} {k : Code → Act} {S : List Part} (hS : Part.Sub [.regs, .tbls, .mem, .flash, .evtNo, .lockedRegs, .onceRegs, .upsets, .mismatches, .posted, .compat, .pends, .eyeReset, .irqs, .sup, .prism, .start, .clk, .ld, .sw, .nets, .gw, .mon, .sec, .plx, .io, .cpu, .out, .freeCount] S) (hk_k : ∀ x0, Touches (k x0) S) : Touches (Act.effect ag a v k) S := by
  unfold Act.effect
  try dsimp only
  repeat' (with_reducible first | exact hk_k _ | apply touches_Act_badValue | apply touches_blkCtrl | apply touches_imgCmd | apply touches_Act_put | apply touches_Act_clearing | apply touches_Act_effectFab | apply touches_Act_effectFacet | apply touches_Act_effectSec | apply touches_Act_effectDomain | apply touches_Act_effectCpu | apply touches_Act_effectDrive | apply Touches.get | apply Touches.ite | exact Part.Sub.trans (by decide) hS | intro _ | split | dsimp only)

theorem touches_Act_writeKind {ag : Agent} {a : Nat} {v : Word} {k : Code → Act} {S : List Part} (hS : Part.Sub [.regs, .tbls, .mem, .flash, .evtNo, .lockedRegs, .onceRegs, .upsets, .mismatches, .posted, .compat, .pends, .eyeReset, .irqs, .sup, .prism, .start, .clk, .ld, .sw, .nets, .gw, .mon, .sec, .plx, .io, .cpu, .out, .freeCount] S) (hk_k : ∀ x0, Touches (k x0) S) : Touches (Act.writeKind ag a v k) S := by
  unfold Act.writeKind
  try dsimp only
  repeat' (with_reducible first | exact hk_k _ | apply touches_Act_blkErr | apply touches_Act_setPosted | apply touches_Act_effect | apply Touches.seq | apply Touches.get | apply Touches.ite | exact Part.Sub.trans (by decide) hS | intro _ | split | dsimp only)

theorem touches_Act_write {ag : Agent} {own : Bool} {a : Nat} {v : Word} {k0 : Code → Act} {S : List Part} (hS : Part.Sub [.regs, .tbls, .mem, .flash, .evtNo, .lockedRegs, .onceRegs, .upsets, .mismatches, .posted, .compat, .pends, .eyeReset, .irqs, .sup, .prism, .start, .clk, .ld, .sw, .nets, .gw, .mon, .sec, .plx, .io, .cpu, .out, .freeCount] S) (hk_k0 : ∀ x0, Touches (k0 x0) S) : Touches (Act.write ag own a v k0) S := by
  unfold Act.write
  try dsimp only
  repeat' (with_reducible first | exact hk_k0 _ | apply touches_Act_blkErr | apply touches_Act_dlinkDrop | apply touches_Act_fwFail | apply touches_Act_writeKind | apply Touches.seq | apply Touches.get | apply Touches.when | apply Touches.ite | exact Part.Sub.trans (by decide) hS | intro _ | split | dsimp only)

theorem touches_postedWriteEffect {d b : Nat} {S : List Part} (hS : Part.Sub [.regs, .tbls, .mem, .flash, .evtNo, .lockedRegs, .onceRegs, .upsets, .mismatches, .posted, .compat, .pends, .eyeReset, .irqs, .sup, .prism, .start, .clk, .ld, .sw, .nets, .gw, .mon, .sec, .plx, .io, .cpu, .out, .freeCount] S) : Touches (postedWriteEffect d b) S := by
  unfold postedWriteEffect
  try dsimp only
  repeat' (with_reducible first | apply touches_Act_setPosted | apply touches_Act_effect | apply Touches.seq | apply Touches.get | apply Touches.when | apply Touches.opt | apply Touches.skip | exact Part.Sub.trans (by decide) hS | intro _ | dsimp only)

theorem touches_Act_readReg {ag : Agent} {a : Nat} {k : Code → Word → Act} {S : List Part} (hS : Part.Sub [.regs, .evtNo, .upsets, .irqs, .sw, .mon, .io, .cpu] S) (hk_k : ∀ x0 x1, Touches (k x0 x1) S) : Touches (Act.readReg ag a k) S := by
  unfold Act.readReg
  try dsimp only
  repeat' (with_reducible first | exact hk_k _ _ | apply touches_cqDataRead | apply touches_txtsPop | apply touches_ptpNowRead | apply touches_irqPop | apply Touches.get | apply Touches.ite | exact Part.Sub.trans (by decide) hS | intro _ | split | dsimp only)

theorem touches_Act_read {ag : Agent} {a : Nat} {k : Code → Word → Act} {S : List Part} (hS : Part.Sub [.regs, .tbls, .mem, .flash, .evtNo, .lockedRegs, .onceRegs, .upsets, .mismatches, .posted, .compat, .pends, .eyeReset, .irqs, .sup, .prism, .start, .clk, .ld, .sw, .nets, .gw, .mon, .sec, .plx, .io, .cpu, .out, .freeCount] S) (hk_k : ∀ x0 x1, Touches (k x0 x1) S) : Touches (Act.read ag a k) S := by
  unfold Act.read
  try dsimp only
  repeat' (with_reducible first | exact hk_k _ _ | apply touches_Act_mismatch | apply touches_Act_readReg | apply Touches.seq | apply Touches.get | apply Touches.ite | exact Part.Sub.trans (by decide) hS | intro _ | split | dsimp only)

/-! ## Mgmt -/

theorem touches_Act_hartFault {p k c cause loc : Nat} {ag : Agent} {S : List Part} (hS : Part.Sub [.cpu, .out] S) : Touches (Act.hartFault p k c cause loc ag) S := by
  unfold Act.hartFault
  try dsimp only
  repeat' (with_reducible first | apply touches_Act_reply | apply touches_Act_hartTrap | apply Touches.seq | exact Part.Sub.trans (by decide) hS | intro _ | dsimp only)

theorem touches_Act_loadEnds {p k c loc : Nat} {ag : Agent} {code : Code} {v : Word} {S : List Part} (hS : Part.Sub [.regs, .upsets, .cpu, .out] S) : Touches (Act.loadEnds p k c loc ag code v) S := by
  unfold Act.loadEnds
  try dsimp only
  repeat' (with_reducible first | apply touches_Act_reply | apply touches_Act_hartTrap | apply Touches.setReg | apply Touches.all_cons | apply Touches.all_nil | apply Touches.ite | exact Part.Sub.trans (by decide) hS | intro _ | split | dsimp only)

theorem touches_Act_hartLoad {p k c loc a : Nat} {ag : Agent} {S : List Part} (hS : Part.Sub [.regs, .tbls, .mem, .flash, .evtNo, .lockedRegs, .onceRegs, .upsets, .mismatches, .posted, .compat, .pends, .eyeReset, .irqs, .sup, .prism, .start, .clk, .ld, .sw, .nets, .gw, .mon, .sec, .plx, .io, .cpu, .out, .freeCount] S) : Touches (Act.hartLoad p k c loc a ag) S := by
  unfold Act.hartLoad
  try dsimp only
  repeat' (with_reducible first | apply touches_Act_read | apply touches_Act_hartFault | apply touches_Act_loadEnds | apply Touches.get | apply Touches.ite | exact Part.Sub.trans (by decide) hS | intro _ | split | dsimp only)

theorem touches_mgmtLoad {p c hart loc width : Nat} {S : List Part} (hS : Part.Sub [.regs, .tbls, .mem, .flash, .evtNo, .lockedRegs, .onceRegs, .upsets, .mismatches, .posted, .compat, .pends, .eyeReset, .irqs, .sup, .prism, .start, .clk, .ld, .sw, .nets, .gw, .mon, .sec, .plx, .io, .cpu, .out, .freeCount] S) : Touches (mgmtLoad p c hart loc width) S := by
  unfold mgmtLoad
  try dsimp only
  repeat' (with_reducible first | apply touches_Act_hartFault | apply touches_Act_hartLoad | apply Touches.get | apply Touches.opt | exact Part.Sub.trans (by decide) hS | intro _ | split | dsimp only)

theorem touches_signalViewLoad {p c hart loc width : Nat} {S : List Part} (hS : Part.Sub [.cpu, .out] S) : Touches (signalViewLoad p c hart loc width) S := by
  unfold signalViewLoad
  try dsimp only
  repeat' (with_reducible first | apply touches_Act_reply | apply touches_Act_hartFault | apply Touches.get | apply Touches.opt | apply Touches.ite | exact Part.Sub.trans (by decide) hS | intro _ | split | dsimp only)

theorem touches_Act_storeChecked {p part a : Nat} {v : Word} {send : Word → Act} {S : List Part} (hS : Part.Sub [.regs, .evtNo, .upsets, .irqs, .gw, .io, .cpu] S) (hk_send : ∀ x0, Touches (send x0) S) : Touches (Act.storeChecked p part a v send) S := by
  unfold Act.storeChecked
  try dsimp only
  repeat' (with_reducible first | exact hk_send _ | apply touches_Act_aprBlock | apply touches_Act_aprSignal | apply touches_Act_aprLoad | apply Touches.setReg | apply Touches.all_cons | apply Touches.all_nil | apply Touches.get | apply Touches.when | apply Touches.opt | apply Touches.ite | exact Part.Sub.trans (by decide) hS | intro _ | split | dsimp only)

theorem touches_Act_hartStore {p c k a : Nat} {ag : Agent} {v : Word} {S : List Part} (hS : Part.Sub [.regs, .tbls, .mem, .flash, .evtNo, .lockedRegs, .onceRegs, .upsets, .mismatches, .posted, .compat, .pends, .eyeReset, .irqs, .sup, .prism, .start, .clk, .ld, .sw, .nets, .gw, .mon, .sec, .plx, .io, .cpu, .out, .freeCount] S) : Touches (Act.hartStore p c k a ag v) S := by
  unfold Act.hartStore
  try dsimp only
  repeat' (with_reducible first | apply touches_Act_write | apply touches_Act_storeChecked | apply Touches.skip | apply Touches.ite | exact Part.Sub.trans (by decide) hS | intro _ | split | dsimp only)

theorem touches_mgmtStore {p c hart loc width v : Nat} {S : List Part} (hS : Part.Sub [.regs, .tbls, .mem, .flash, .evtNo, .lockedRegs, .onceRegs, .upsets, .mismatches, .posted, .compat, .pends, .eyeReset, .irqs, .sup, .prism, .start, .clk, .ld, .sw, .nets, .gw, .mon, .sec, .plx, .io, .cpu, .out, .freeCount] S) : Touches (mgmtStore p c hart loc width v) S := by
  unfold mgmtStore
  try dsimp only
  repeat' (with_reducible first | apply touches_Act_hartFault | apply touches_Act_hartStore | apply Touches.get | apply Touches.opt | exact Part.Sub.trans (by decide) hS | intro _ | split | dsimp only)

/-! ## Image -/

theorem touches_Act_loadReject {c : Code} {S : List Part} (hS : Part.Sub [.regs, .evtNo, .upsets] S) : Touches (Act.loadReject c) S := by
  unfold Act.loadReject
  try dsimp only
  repeat' (with_reducible first | apply touches_Act_event | apply Touches.when | exact Part.Sub.trans (by decide) hS | intro _ | dsimp only)

theorem touches_Act_postWait {a : Nat} {S : List Part} (hS : Part.Sub [.regs, .tbls, .mem, .flash, .evtNo, .lockedRegs, .onceRegs, .upsets, .mismatches, .posted, .compat, .pends, .eyeReset, .irqs, .sup, .prism, .start, .clk, .ld, .sw, .nets, .gw, .mon, .sec, .plx, .io, .cpu, .out, .freeCount] S) : Touches (Act.postWait a) S := by
  unfold Act.postWait
  try dsimp only
  repeat' (with_reducible first | apply touches_postedWriteEffect | apply Touches.when | exact Part.Sub.trans (by decide) hS | intro _ | dsimp only)

theorem touches_Act_imgWrite {a : Nat} {v : Word} {S : List Part} (hS : Part.Sub [.regs, .tbls, .mem, .flash, .evtNo, .lockedRegs, .onceRegs, .upsets, .mismatches, .posted, .compat, .pends, .eyeReset, .irqs, .sup, .prism, .start, .clk, .ld, .sw, .nets, .gw, .mon, .sec, .plx, .io, .cpu, .out, .freeCount] S) : Touches (Act.imgWrite a v) S := by
  unfold Act.imgWrite
  try dsimp only
  repeat' (with_reducible first | apply touches_Act_setLd | apply touches_Act_write | apply touches_Act_loadReject | apply touches_Act_postWait | apply Touches.seq | apply Touches.ite | exact Part.Sub.trans (by decide) hS | intro _ | split | dsimp only)

theorem touches_Act_lockPut {w : Word} {S : List Part} (hS : Part.Sub [.lockedRegs] S) : Touches (Act.lockPut w) S := by
  unfold Act.lockPut
  try dsimp only
  repeat' (with_reducible first | apply Touches.upd_of hS | apply Touches.ite | exact Part.Sub.trans (by decide) hS | intro _ | split | dsimp only)
  all_goals (intro s p hp; cases p <;> first | rfl | exact absurd (by decide) hp)

theorem touches_Act_imgEntry {p t i : Nat} {w : List Word} {S : List Part} (hS : Part.Sub [.tbls, .sw, .sec] S) : Touches (Act.imgEntry p t i w) S := by
  unfold Act.imgEntry
  try dsimp only
  repeat' (with_reducible first | apply touches_Act_modFresh | apply touches_Act_setTblWords | apply touches_Act_pairTblPut | apply touches_Act_tblPut | apply Touches.seq | apply Touches.get | apply Touches.when | apply Touches.opt | apply Touches.ite | exact Part.Sub.trans (by decide) hS | intro _ | split | dsimp only)

theorem touches_Act_imgRoutes {p : Nat} {l : List Route} {S : List Part} (hS : Part.Sub [.tbls] S) : Touches (Act.imgRoutes p l) S := by
  unfold Act.imgRoutes
  try dsimp only
  repeat' (with_reducible first | apply touches_Act_putRoute | apply Touches.get | apply Touches.each | exact Part.Sub.trans (by decide) hS | intro _ | dsimp only)

theorem touches_Act_tableApply {p : Nat} {l : List Word} {S : List Part} (hS : Part.Sub [.tbls, .sw, .sec] S) : Touches (Act.tableApply p l) S := by
  unfold Act.tableApply
  try dsimp only
  repeat' (with_reducible first | apply touches_Act_imgEntry | apply touches_Act_imgRoutes | apply Touches.setTbl | apply Touches.each | apply Touches.opt | apply Touches.ite | exact Part.Sub.trans (by decide) hS | intro _ | split | dsimp only)

theorem touches_Act_aprPut {p : Nat} {e : Nat × List Word} {S : List Part} (hS : Part.Sub [.tbls] S) : Touches (Act.aprPut p e) S := by
  unfold Act.aprPut
  try dsimp only
  repeat' (with_reducible first | apply touches_Act_setTblWords | exact Part.Sub.trans (by decide) hS | intro _ | dsimp only)

theorem touches_Act_partPut {p : Nat} {w : List Word} {S : List Part} (hS : Part.Sub [.regs, .tbls, .mem, .flash, .evtNo, .lockedRegs, .onceRegs, .upsets, .mismatches, .posted, .compat, .pends, .eyeReset, .irqs, .sup, .prism, .start, .clk, .ld, .sw, .nets, .gw, .mon, .sec, .plx, .io, .cpu, .out, .freeCount] S) : Touches (Act.partPut p w) S := by
  unfold Act.partPut
  try dsimp only
  repeat' (with_reducible first | apply touches_Act_imgWrite | apply Touches.each | exact Part.Sub.trans (by decide) hS | intro _ | dsimp only)

theorem touches_Act_blobPut {p : Nat} {w : List Word} {S : List Part} (hS : Part.Sub [.sec] S) : Touches (Act.blobPut p w) S := by
  unfold Act.blobPut
  try dsimp only
  repeat' (with_reducible first | apply touches_Act_modKslot | exact Part.Sub.trans (by decide) hS | intro _ | dsimp only)

theorem touches_Act_compatPut {l : List Word} {S : List Part} (hS : Part.Sub [.plx] S) : Touches (Act.compatPut l) S := by
  unfold Act.compatPut
  try dsimp only
  repeat' (with_reducible first | apply Touches.upd_of hS | exact Part.Sub.trans (by decide) hS | intro _ | dsimp only)
  all_goals (intro s p hp; cases p <;> first | rfl | exact absurd (by decide) hp)

theorem touches_Act_sectionApply {u : Section} {l : List Word} {S : List Part} (hS : Part.Sub [.regs, .tbls, .mem, .flash, .evtNo, .lockedRegs, .onceRegs, .upsets, .mismatches, .posted, .compat, .pends, .eyeReset, .irqs, .sup, .prism, .start, .clk, .ld, .sw, .nets, .gw, .mon, .sec, .plx, .io, .cpu, .out, .freeCount] S) : Touches (Act.sectionApply u l) S := by
  unfold Act.sectionApply
  try dsimp only
  repeat' (with_reducible first | apply touches_Act_imgWrite | apply touches_Act_tableApply | apply touches_Act_aprPut | apply touches_Act_partPut | apply touches_Act_blobPut | apply touches_Act_compatPut | apply Touches.each | apply Touches.opt | apply Touches.skip | exact Part.Sub.trans (by decide) hS | intro _ | split | dsimp only)

/-! ## Load -/

theorem touches_imageKeyUnwrap {answers : Bool} {S : List Part} (hS : Part.Sub [.regs, .upsets, .ld, .sec, .freeCount] S) : Touches (imageKeyUnwrap answers) S := by
  unfold imageKeyUnwrap
  try dsimp only
  repeat' (with_reducible first | apply touches_Act_setFld | apply touches_Act_fillSlot | apply touches_Act_setLd | apply Touches.seq | apply Touches.get | apply Touches.when | apply Touches.each | apply Touches.opt | apply Touches.ite | exact Part.Sub.trans (by decide) hS | intro _ | split | dsimp only)

theorem touches_Act_loaderTo {st : Loader} {S : List Part} (hS : Part.Sub [.ld] S) : Touches (Act.loaderTo st) S := by
  unfold Act.loaderTo
  try dsimp only
  repeat' (with_reducible first | apply touches_Act_setLd | exact Part.Sub.trans (by decide) hS | intro _ | dsimp only)

theorem touches_Act_imgHold {st : Loader} {S : List Part} (hS : Part.Sub [.regs, .upsets, .ld] S) : Touches (Act.imgHold st) S := by
  unfold Act.imgHold
  try dsimp only
  repeat' (with_reducible first | apply touches_Act_setFld | apply touches_Act_loaderTo | apply Touches.seq | exact Part.Sub.trans (by decide) hS | intro _ | dsimp only)

theorem touches_Act_netOff  {S : List Part} (hS : Part.Sub [.regs, .evtNo, .upsets, .ld] S) : Touches (Act.netOff ) S := by
  unfold Act.netOff
  try dsimp only
  repeat' (with_reducible first | apply touches_Act_event | apply touches_Act_setLd | apply touches_Act_imgHold | apply Touches.all_cons | apply Touches.all_nil | exact Part.Sub.trans (by decide) hS | intro _ | dsimp only)

theorem touches_epochAreaRead {answers : Bool} {S : List Part} (hS : Part.Sub [.regs, .evtNo, .upsets, .ld] S) : Touches (epochAreaRead answers) S := by
  unfold epochAreaRead
  try dsimp only
  repeat' (with_reducible first | apply touches_Act_setFlds | apply touches_Act_epochShow | apply touches_Act_setLd | apply touches_Act_imgHold | apply touches_Act_netOff | apply Touches.all_cons | apply Touches.all_nil | apply Touches.seq | apply Touches.get | apply Touches.when | apply Touches.opt | apply Touches.skip | apply Touches.ite | exact Part.Sub.trans (by decide) hS | intro _ | split | dsimp only)

theorem touches_netBootOff  {S : List Part} (hS : Part.Sub [.regs, .evtNo, .upsets, .ld] S) : Touches (netBootOff ) S := by
  unfold netBootOff
  try dsimp only
  repeat' (with_reducible first | apply touches_Act_netOff | apply Touches.get | apply Touches.when | exact Part.Sub.trans (by decide) hS | intro _ | dsimp only)

theorem touches_Act_slotReport {i : Nat} {r : SlotReport} {S : List Part} (hS : Part.Sub [.regs, .upsets, .freeCount] S) : Touches (Act.slotReport i r) S := by
  unfold Act.slotReport
  try dsimp only
  repeat' (with_reducible first | apply touches_Act_freeBelow | apply touches_Act_setFlds | apply Touches.get | apply Touches.ite | exact Part.Sub.trans (by decide) hS | intro _ | split | dsimp only)

theorem touches_Act_slotTaken {i : Nat} {S : List Part} (hS : Part.Sub [.regs, .upsets, .start, .ld] S) : Touches (Act.slotTaken i) S := by
  unfold Act.slotTaken
  try dsimp only
  repeat' (with_reducible first | apply touches_Act_setFld | apply touches_Act_setFlds | apply touches_Act_setStart | apply touches_Act_setLd | apply Touches.setReg | apply Touches.all_cons | apply Touches.all_nil | apply Touches.get | exact Part.Sub.trans (by decide) hS | intro _ | dsimp only)

theorem touches_slotExamine {answers : Bool} {S : List Part} (hS : Part.Sub [.regs, .evtNo, .upsets, .start, .ld, .freeCount] S) : Touches (slotExamine answers) S := by
  unfold slotExamine
  try dsimp only
  repeat' (with_reducible first | apply touches_Act_setFld | apply touches_Act_event | apply touches_Act_setStart | apply touches_Act_setLd | apply touches_Act_imgHold | apply touches_Act_slotReport | apply touches_Act_slotTaken | apply Touches.all_cons | apply Touches.all_nil | apply Touches.seq | apply Touches.get | apply Touches.when | apply Touches.ite | exact Part.Sub.trans (by decide) hS | intro _ | split | dsimp only)

theorem touches_otherSlotCheck {answers : Bool} {S : List Part} (hS : Part.Sub [.regs, .upsets, .ld, .freeCount] S) : Touches (otherSlotCheck answers) S := by
  unfold otherSlotCheck
  try dsimp only
  repeat' (with_reducible first | apply touches_Act_setLd | apply touches_Act_slotReport | apply Touches.seq | apply Touches.get | apply Touches.when | apply Touches.ite | exact Part.Sub.trans (by decide) hS | intro _ | split | dsimp only)

theorem touches_Act_enableNow {p : Nat → Bool} {S : List Part} (hS : Part.Sub [.regs, .evtNo, .upsets, .irqs, .ld, .sw, .nets, .gw, .mon, .io, .out] S) : Touches (Act.enableNow p) S := by
  unfold Act.enableNow
  try dsimp only
  repeat' (with_reducible first | apply touches_blkCtrl | apply touches_Act_setLd | apply touches_Act_loadReject | apply Touches.seq | apply Touches.get | apply Touches.each | exact Part.Sub.trans (by decide) hS | intro _ | dsimp only)

theorem touches_Act_imgGates  {S : List Part} (hS : Part.Sub [.regs, .evtNo, .upsets, .sw] S) : Touches (Act.imgGates ) S := by
  unfold Act.imgGates
  try dsimp only
  repeat' (with_reducible first | apply touches_Act_setFld | apply touches_gclCtrl | apply touches_Act_loadReject | apply Touches.seq | apply Touches.get | apply Touches.when | apply Touches.each | exact Part.Sub.trans (by decide) hS | intro _ | dsimp only)

theorem touches_Act_imgLocks  {S : List Part} (hS : Part.Sub [.regs, .lockedRegs, .upsets] S) : Touches (Act.imgLocks ) S := by
  unfold Act.imgLocks
  try dsimp only
  repeat' (with_reducible first | apply touches_Act_setFld | apply touches_Act_lockPut | apply Touches.seq | apply Touches.get | apply Touches.each | exact Part.Sub.trans (by decide) hS | intro _ | dsimp only)

theorem touches_Act_partLoad {p k : Nat} {S : List Part} (hS : Part.Sub [.regs, .upsets, .cpu] S) : Touches (Act.partLoad p k) S := by
  unfold Act.partLoad
  try dsimp only
  repeat' (with_reducible first | apply touches_Act_modPart | apply touches_Act_partFail | apply Touches.get | apply Touches.when | apply Touches.ite | exact Part.Sub.trans (by decide) hS | intro _ | split | dsimp only)

theorem touches_Act_partsLoad  {S : List Part} (hS : Part.Sub [.regs, .upsets, .cpu] S) : Touches (Act.partsLoad ) S := by
  unfold Act.partsLoad
  try dsimp only
  repeat' (with_reducible first | apply touches_Act_framesBegin | apply touches_Act_partLoad | apply Touches.seq | apply Touches.get | apply Touches.each | exact Part.Sub.trans (by decide) hS | intro _ | dsimp only)

theorem touches_Act_fwDone  {S : List Part} (hS : Part.Sub [.regs, .upsets, .start, .ld] S) : Touches (Act.fwDone ) S := by
  unfold Act.fwDone
  try dsimp only
  repeat' (with_reducible first | apply touches_Act_setFld | apply touches_Act_setStart | apply touches_Act_loaderTo | apply Touches.all_cons | apply Touches.all_nil | apply Touches.get | exact Part.Sub.trans (by decide) hS | intro _ | dsimp only)

theorem touches_configDistribution  {S : List Part} (hS : Part.Sub [.fuse, .regs, .tbls, .mem, .flash, .evtNo, .lockedRegs, .onceRegs, .upsets, .mismatches, .posted, .compat, .pends, .eyeReset, .irqs, .sup, .prism, .start, .clk, .ld, .sw, .nets, .gw, .mon, .sec, .plx, .io, .cpu, .out, .freeCount] S) : Touches (configDistribution ) S := by
  unfold configDistribution
  try dsimp only
  repeat' (with_reducible first | apply touches_Act_setStart | apply touches_Act_tamper | apply touches_Act_setLd | apply touches_Act_sectionApply | apply touches_Act_enableNow | apply touches_Act_imgGates | apply touches_Act_imgLocks | apply touches_Act_partsLoad | apply touches_Act_fwDone | apply Touches.all_cons | apply Touches.all_nil | apply Touches.get | apply Touches.when | apply Touches.each | apply Touches.ite | exact Part.Sub.trans (by decide) hS | intro _ | split | dsimp only)

theorem touches_canLinEnable  {S : List Part} (hS : Part.Sub [.regs, .evtNo, .upsets, .irqs, .start, .ld, .sw, .nets, .gw, .mon, .io, .out] S) : Touches (canLinEnable ) S := by
  unfold canLinEnable
  try dsimp only
  repeat' (with_reducible first | apply touches_Act_setFld | apply touches_Act_setStart | apply touches_Act_enableNow | apply Touches.all_cons | apply Touches.all_nil | apply Touches.get | apply Touches.when | exact Part.Sub.trans (by decide) hS | intro _ | dsimp only)

theorem touches_ethernetEnable  {S : List Part} (hS : Part.Sub [.regs, .evtNo, .upsets, .irqs, .start, .ld, .sw, .nets, .gw, .mon, .io, .out] S) : Touches (ethernetEnable ) S := by
  unfold ethernetEnable
  try dsimp only
  repeat' (with_reducible first | apply touches_Act_setFld | apply touches_Act_setStart | apply touches_Act_enableNow | apply Touches.all_cons | apply Touches.all_nil | apply Touches.get | apply Touches.when | exact Part.Sub.trans (by decide) hS | intro _ | dsimp only)

theorem touches_Act_fwLand {n : Nat} {answers : Bool} {S : List Part} (hS : Part.Sub [.mem, .freeCount] S) : Touches (Act.fwLand n answers) S := by
  unfold Act.fwLand
  try dsimp only
  repeat' (with_reducible first | apply touches_Act_freeBelow | apply touches_Act_memWrite | apply Touches.get | apply Touches.ite | exact Part.Sub.trans (by decide) hS | intro _ | split | dsimp only)

theorem touches_Act_fwFailed {n : Nat} {S : List Part} (hS : Part.Sub [.regs, .evtNo, .upsets, .ld, .cpu] S) : Touches (Act.fwFailed n) S := by
  unfold Act.fwFailed
  try dsimp only
  repeat' (with_reducible first | apply touches_Act_setFld | apply touches_Act_bumpFld | apply touches_Act_event | apply touches_Act_partFail | apply touches_Act_setLd | apply Touches.all_cons | apply Touches.all_nil | apply Touches.get | apply Touches.when | exact Part.Sub.trans (by decide) hS | intro _ | dsimp only)

theorem touches_fwSectionDone {answers : Bool} {S : List Part} (hS : Part.Sub [.regs, .mem, .evtNo, .upsets, .start, .ld, .cpu, .freeCount] S) : Touches (fwSectionDone answers) S := by
  unfold fwSectionDone
  try dsimp only
  repeat' (with_reducible first | apply touches_Act_bumpFld | apply touches_Act_setLd | apply touches_Act_fwDone | apply touches_Act_fwLand | apply touches_Act_fwFailed | apply Touches.all_cons | apply Touches.all_nil | apply Touches.get | apply Touches.when | apply Touches.opt | apply Touches.ite | exact Part.Sub.trans (by decide) hS | intro _ | split | dsimp only)

theorem touches_partitionStart {p k : Nat} {S : List Part} (hS : Part.Sub [.regs, .upsets, .cpu] S) : Touches (partitionStart p k) S := by
  unfold partitionStart
  try dsimp only
  repeat' (with_reducible first | apply touches_Act_partRun | apply Touches.get | apply Touches.when | exact Part.Sub.trans (by decide) hS | intro _ | dsimp only)

theorem touches_partitionRestart {p k : Nat} {answers : Bool} {S : List Part} (hS : Part.Sub [.regs, .mem, .evtNo, .upsets, .ld, .cpu, .freeCount] S) : Touches (partitionRestart p k answers) S := by
  unfold partitionRestart
  try dsimp only
  repeat' (with_reducible first | apply touches_Act_partRun | apply touches_Act_partFail | apply touches_Act_fwLand | apply touches_Act_fwFailed | apply Touches.seq | apply Touches.get | apply Touches.when | apply Touches.each | apply Touches.ite | exact Part.Sub.trans (by decide) hS | intro _ | split | dsimp only)

theorem touches_serviceEntry  {S : List Part} (hS : Part.Sub [.regs, .evtNo, .upsets, .irqs, .start, .io] S) : Touches (serviceEntry ) S := by
  unfold serviceEntry
  try dsimp only
  repeat' (with_reducible first | apply touches_Act_setStart | apply touches_Act_wakeService | apply Touches.seq | apply Touches.get | apply Touches.when | exact Part.Sub.trans (by decide) hS | intro _ | dsimp only)

theorem touches_Act_rxDrop  {S : List Part} (hS : Part.Sub [.ld] S) : Touches (Act.rxDrop ) S := by
  unfold Act.rxDrop
  try dsimp only
  repeat' (with_reducible first | apply touches_Act_setLd | exact Part.Sub.trans (by decide) hS | intro _ | dsimp only)

theorem touches_Act_received  {S : List Part} (hS : Part.Sub [.regs, .upsets, .start, .ld, .freeCount] S) : Touches (Act.received ) S := by
  unfold Act.received
  try dsimp only
  repeat' (with_reducible first | apply touches_Act_setFld | apply touches_Act_slotReport | apply touches_Act_slotTaken | apply touches_Act_rxDrop | apply Touches.seq | apply Touches.get | apply Touches.ite | exact Part.Sub.trans (by decide) hS | intro _ | split | dsimp only)

theorem touches_netBootRequest  {S : List Part} (hS : Part.Sub [.ld, .sw, .out] S) : Touches (netBootRequest ) S := by
  unfold netBootRequest
  try dsimp only
  repeat' (with_reducible first | apply touches_Act_bootSend | apply touches_Act_setLd | apply Touches.seq | apply Touches.get | apply Touches.when | apply Touches.each | exact Part.Sub.trans (by decide) hS | intro _ | dsimp only)

theorem touches_Act_askChunk  {S : List Part} (hS : Part.Sub [.ld, .sw, .out] S) : Touches (Act.askChunk ) S := by
  unfold Act.askChunk
  try dsimp only
  repeat' (with_reducible first | apply touches_Act_bootSend | apply touches_Act_setLd | apply Touches.seq | apply Touches.get | apply Touches.when | apply Touches.opt | exact Part.Sub.trans (by decide) hS | intro _ | dsimp only)

theorem touches_Act_askChunks  {S : List Part} (hS : Part.Sub [.ld, .sw, .out] S) : Touches (Act.askChunks ) S := by
  unfold Act.askChunks
  try dsimp only
  repeat' (with_reducible first | apply touches_Act_askChunk | apply Touches.each | exact Part.Sub.trans (by decide) hS | intro _ | dsimp only)

theorem touches_bootOffer  {S : List Part} (hS : Part.Sub [.regs, .evtNo, .upsets, .irqs, .ld, .sw, .plx, .out] S) : Touches (bootOffer ) S := by
  unfold bootOffer
  try dsimp only
  repeat' (with_reducible first | apply touches_Act_ezTake | apply touches_Act_setLd | apply touches_Act_askChunks | apply Touches.seq | apply Touches.get | apply Touches.when | exact Part.Sub.trans (by decide) hS | intro _ | dsimp only)

theorem touches_chunkReceived  {S : List Part} (hS : Part.Sub [.regs, .evtNo, .upsets, .irqs, .ld, .sw, .plx, .out] S) : Touches (chunkReceived ) S := by
  unfold chunkReceived
  try dsimp only
  repeat' (with_reducible first | apply touches_Act_ezTake | apply touches_Act_setLd | apply touches_Act_askChunks | apply Touches.seq | apply Touches.get | apply Touches.when | apply Touches.opt | exact Part.Sub.trans (by decide) hS | intro _ | dsimp only)

theorem touches_chunkTimeout {i : Nat} {S : List Part} (hS : Part.Sub [.ld, .sw, .out] S) : Touches (chunkTimeout i) S := by
  unfold chunkTimeout
  try dsimp only
  repeat' (with_reducible first | apply touches_Act_bootSend | apply touches_Act_setLd | apply touches_Act_rxDrop | apply Touches.seq | apply Touches.get | apply Touches.when | apply Touches.opt | apply Touches.ite | apply Touches.all_map | exact Part.Sub.trans (by decide) hS | intro _ | split | dsimp only)

theorem touches_netImageReceived  {S : List Part} (hS : Part.Sub [.regs, .upsets, .start, .ld, .freeCount] S) : Touches (netImageReceived ) S := by
  unfold netImageReceived
  try dsimp only
  repeat' (with_reducible first | apply touches_Act_received | apply Touches.get | apply Touches.when | apply Touches.opt | exact Part.Sub.trans (by decide) hS | intro _ | dsimp only)

theorem touches_imageBegin {n : Nat} {k : Code → Act} {S : List Part} (hS : Part.Sub [.ld] S) (hk_k : ∀ x0, Touches (k x0) S) : Touches (imageBegin n k) S := by
  unfold imageBegin
  try dsimp only
  repeat' (with_reducible first | exact hk_k _ | apply touches_Act_setLd | apply touches_Act_rxDrop | apply Touches.all_cons | apply Touches.all_nil | apply Touches.get | apply Touches.ite | exact Part.Sub.trans (by decide) hS | intro _ | split | dsimp only)

theorem touches_imageData {i : Nat} {l : List Word} {k : Code → Act} {S : List Part} (hS : Part.Sub [.ld] S) (hk_k : ∀ x0, Touches (k x0) S) : Touches (imageData i l k) S := by
  unfold imageData
  try dsimp only
  repeat' (with_reducible first | exact hk_k _ | apply touches_Act_setLd | apply Touches.seq | apply Touches.get | apply Touches.ite | exact Part.Sub.trans (by decide) hS | intro _ | split | dsimp only)

theorem touches_imageEnd {k : Code → Act} {S : List Part} (hS : Part.Sub [.regs, .upsets, .start, .ld, .freeCount] S) (hk_k : ∀ x0, Touches (k x0) S) : Touches (imageEnd k) S := by
  unfold imageEnd
  try dsimp only
  repeat' (with_reducible first | exact hk_k _ | apply touches_Act_received | apply Touches.seq | apply Touches.get | apply Touches.ite | exact Part.Sub.trans (by decide) hS | intro _ | split | dsimp only)

/-! ## Eyepiece -/

theorem touches_Act_setPends {i : Nat} {l : List Pend} {S : List Part} (hS : Part.Sub [.pends] S) : Touches (Act.setPends i l) S := by
  unfold Act.setPends
  try dsimp only
  repeat' (with_reducible first | apply Touches.upd_of hS | exact Part.Sub.trans (by decide) hS | intro _ | dsimp only)
  all_goals (intro s p hp; cases p <;> first | rfl | exact absurd (by decide) hp)

theorem touches_Act_openPend {i : Nat} {c : EyeCmd} {st : PendState} {S : List Part} (hS : Part.Sub [.pends] S) : Touches (Act.openPend i c st) S := by
  unfold Act.openPend
  try dsimp only
  repeat' (with_reducible first | apply touches_Act_setPends | apply Touches.get | exact Part.Sub.trans (by decide) hS | intro _ | dsimp only)

theorem touches_Act_collect {i : Nat} {c : EyeCmd} {k : Code → List Byte → Act} {start : Act} {S : List Part} (hS : Part.Sub [.pends] S) (hk_k : ∀ x0 x1, Touches (k x0 x1) S) (hk_start : Touches (start) S) : Touches (Act.collect i c k start) S := by
  unfold Act.collect
  try dsimp only
  repeat' (with_reducible first | exact hk_k _ _ | exact hk_start | apply touches_Act_setPends | apply Touches.seq | apply Touches.get | exact Part.Sub.trans (by decide) hS | intro _ | split | dsimp only)

theorem touches_Act_modPend {i n : Nat} {f : PendState → PendState} {S : List Part} (hS : Part.Sub [.pends] S) : Touches (Act.modPend i n f) S := by
  unfold Act.modPend
  try dsimp only
  repeat' (with_reducible first | apply touches_Act_setPends | apply Touches.get | exact Part.Sub.trans (by decide) hS | intro _ | dsimp only)

theorem touches_slowFetchDone {i n : Nat} {S : List Part} (hS : Part.Sub [.regs, .tbls, .mem, .flash, .evtNo, .lockedRegs, .onceRegs, .upsets, .mismatches, .posted, .compat, .pends, .eyeReset, .irqs, .sup, .prism, .start, .clk, .ld, .sw, .nets, .gw, .mon, .sec, .plx, .io, .cpu, .out, .freeCount] S) : Touches (slowFetchDone i n) S := by
  unfold slowFetchDone
  try dsimp only
  repeat' (with_reducible first | apply touches_Act_read | apply touches_Act_modPend | apply Touches.get | apply Touches.opt | apply Touches.skip | apply Touches.ite | exact Part.Sub.trans (by decide) hS | intro _ | split | dsimp only)

theorem touches_pendingEntryExpire {i n : Nat} {S : List Part} (hS : Part.Sub [.pends] S) : Touches (pendingEntryExpire i n) S := by
  unfold pendingEntryExpire
  try dsimp only
  repeat' (with_reducible first | apply touches_Act_setPends | apply Touches.get | apply Touches.when | apply Touches.opt | apply Touches.skip | exact Part.Sub.trans (by decide) hS | intro _ | split | dsimp only)

theorem touches_remoteTimeout {i n : Nat} {S : List Part} (hS : Part.Sub [.regs, .evtNo, .upsets, .pends] S) : Touches (remoteTimeout i n) S := by
  unfold remoteTimeout
  try dsimp only
  repeat' (with_reducible first | apply touches_Act_event | apply touches_Act_modPend | apply Touches.seq | apply Touches.get | apply Touches.when | apply Touches.opt | apply Touches.skip | exact Part.Sub.trans (by decide) hS | intro _ | split | dsimp only)

theorem touches_compatRefresh  {S : List Part} (hS : Part.Sub [.compat] S) : Touches (compatRefresh ) S := by
  unfold compatRefresh
  try dsimp only
  repeat' (with_reducible first | apply Touches.upd_of hS | exact Part.Sub.trans (by decide) hS | intro _ | dsimp only)
  all_goals (intro s p hp; cases p <;> first | rfl | exact absurd (by decide) hp)

theorem touches_eyeRead {path : Path} {c : EyeCmd} {k : Code → List Byte → Act} {S : List Part} (hS : Part.Sub [.regs, .tbls, .mem, .flash, .evtNo, .lockedRegs, .onceRegs, .upsets, .mismatches, .posted, .compat, .pends, .eyeReset, .irqs, .sup, .prism, .start, .clk, .ld, .sw, .nets, .gw, .mon, .sec, .plx, .io, .cpu, .out, .freeCount] S) (hk_k : ∀ x0 x1, Touches (k x0 x1) S) : Touches (eyeRead path c k) S := by
  unfold eyeRead
  try dsimp only
  repeat' (with_reducible first | exact hk_k _ _ | apply touches_Act_read | apply touches_Act_openPend | apply Touches.seq | apply Touches.get | apply Touches.ite | exact Part.Sub.trans (by decide) hS | intro _ | split | dsimp only)

theorem touches_eyeFlash {path : Path} {c : EyeCmd} {k : Code → List Byte → Act} {S : List Part} (hS : Part.Sub [.regs, .upsets, .pends, .ld] S) (hk_k : ∀ x0 x1, Touches (k x0 x1) S) : Touches (eyeFlash path c k) S := by
  unfold eyeFlash
  try dsimp only
  repeat' (with_reducible first | exact hk_k _ _ | apply touches_Act_setLd | apply touches_Act_openPend | apply Touches.setReg | apply Touches.all_cons | apply Touches.all_nil | apply Touches.seq | apply Touches.get | apply Touches.ite | exact Part.Sub.trans (by decide) hS | intro _ | split | dsimp only)

theorem touches_Act_flashAnswer {code : Code} {data : List Byte} {S : List Part} (hS : Part.Sub [.pends] S) : Touches (Act.flashAnswer code data) S := by
  unfold Act.flashAnswer
  try dsimp only
  repeat' (with_reducible first | apply touches_Act_setPends | apply Touches.get | apply Touches.each | apply Touches.ite | apply Touches.all_map | exact Part.Sub.trans (by decide) hS | intro _ | split | dsimp only)

theorem touches_flashOpDone {good : Bool} {S : List Part} (hS : Part.Sub [.regs, .flash, .upsets, .pends, .ld, .freeCount] S) : Touches (flashOpDone good) S := by
  unfold flashOpDone
  try dsimp only
  repeat' (with_reducible first | apply touches_Act_setFld | apply touches_Act_flashUndefined | apply touches_Act_flashProgram | apply touches_Act_flashErase | apply touches_Act_setLd | apply touches_Act_flashAnswer | apply Touches.seq | apply Touches.get | apply Touches.skip | apply Touches.ite | exact Part.Sub.trans (by decide) hS | intro _ | split | dsimp only)

theorem touches_eyeLocal {path : Path} {c : EyeCmd} {k : Code → List Byte → Act} {S : List Part} (hS : Part.Sub [.regs, .tbls, .mem, .flash, .evtNo, .lockedRegs, .onceRegs, .upsets, .mismatches, .posted, .compat, .pends, .eyeReset, .irqs, .sup, .prism, .start, .clk, .ld, .sw, .nets, .gw, .mon, .sec, .plx, .io, .cpu, .out, .freeCount] S) (hk_k : ∀ x0 x1, Touches (k x0 x1) S) : Touches (eyeLocal path c k) S := by
  unfold eyeLocal
  try dsimp only
  repeat' (with_reducible first | exact hk_k _ _ | apply touches_Act_write | apply touches_imageBegin | apply touches_imageData | apply touches_imageEnd | apply touches_eyeRead | apply touches_eyeFlash | apply Touches.get | apply Touches.ite | exact Part.Sub.trans (by decide) hS | intro _ | split | dsimp only)

theorem touches_eyeRemote {path : Path} {c : EyeCmd} {k : Code → List Byte → Act} {S : List Part} (hS : Part.Sub [.regs, .evtNo, .upsets, .pends, .irqs, .sw, .sec, .plx, .freeCount] S) (hk_k : ∀ x0 x1, Touches (k x0 x1) S) : Touches (eyeRemote path c k) S := by
  unfold eyeRemote
  try dsimp only
  repeat' (with_reducible first | exact hk_k _ _ | apply touches_Act_ezRequest | apply touches_Act_openPend | apply Touches.seq | apply Touches.get | exact Part.Sub.trans (by decide) hS | intro _ | split | dsimp only)

theorem touches_eyeRun {path : Path} {c : EyeCmd} {k : Code → List Byte → Act} {S : List Part} (hS : Part.Sub [.regs, .tbls, .mem, .flash, .evtNo, .lockedRegs, .onceRegs, .upsets, .mismatches, .posted, .compat, .pends, .eyeReset, .irqs, .sup, .prism, .start, .clk, .ld, .sw, .nets, .gw, .mon, .sec, .plx, .io, .cpu, .out, .freeCount] S) (hk_k : ∀ x0 x1, Touches (k x0 x1) S) : Touches (eyeRun path c k) S := by
  unfold eyeRun
  try dsimp only
  repeat' (with_reducible first | exact hk_k _ _ | apply touches_Act_collect | apply touches_eyeLocal | apply touches_eyeRemote | apply Touches.get | apply Touches.ite | exact Part.Sub.trans (by decide) hS | intro _ | split | dsimp only)

theorem touches_eyeSpi {c : EyeCmd} {S : List Part} (hS : Part.Sub [.regs, .tbls, .mem, .flash, .evtNo, .lockedRegs, .onceRegs, .upsets, .mismatches, .posted, .compat, .pends, .eyeReset, .irqs, .sup, .prism, .start, .clk, .ld, .sw, .nets, .gw, .mon, .sec, .plx, .io, .cpu, .out, .freeCount] S) : Touches (eyeSpi c) S := by
  unfold eyeSpi
  try dsimp only
  repeat' (with_reducible first | apply touches_Act_emit | apply touches_Act_packageReset | apply touches_eyeRun | apply Touches.seq | apply Touches.get | apply Touches.when | exact Part.Sub.trans (by decide) hS | intro _ | dsimp only)

theorem touches_badFrame {b : List Byte} {S : List Part} (hS : Part.Sub [.out] S) : Touches (badFrame b) S := by
  unfold badFrame
  try dsimp only
  repeat' (with_reducible first | apply touches_Act_emit | apply Touches.get | apply Touches.when | exact Part.Sub.trans (by decide) hS | intro _ | dsimp only)

theorem touches_eyeRecord {c : EyeCmd} {k : Code → List Byte → Act} {S : List Part} (hS : Part.Sub [.regs, .tbls, .mem, .flash, .evtNo, .lockedRegs, .onceRegs, .upsets, .mismatches, .posted, .compat, .pends, .eyeReset, .irqs, .sup, .prism, .start, .clk, .ld, .sw, .nets, .gw, .mon, .sec, .plx, .io, .cpu, .out, .freeCount] S) (hk_k : ∀ x0 x1, Touches (k x0 x1) S) : Touches (eyeRecord c k) S := by
  unfold eyeRecord
  try dsimp only
  repeat' (with_reducible first | exact hk_k _ _ | apply touches_eyeRun | apply Touches.get | apply Touches.ite | exact Part.Sub.trans (by decide) hS | intro _ | split | dsimp only)

theorem touches_eyeRecords {attn : Nat} {l : List EyeCmd} {S : List Part} (hS : Part.Sub [.regs, .tbls, .mem, .flash, .evtNo, .lockedRegs, .onceRegs, .upsets, .mismatches, .posted, .compat, .pends, .eyeReset, .irqs, .sup, .prism, .start, .clk, .ld, .sw, .nets, .gw, .mon, .sec, .plx, .io, .cpu, .out, .freeCount] S) {acc : List Byte} {rst : Bool} {k : List Byte → Bool → Act} (hk : ∀ x y, Touches (k x y) S) : Touches (eyeRecords attn l acc rst k) S := by
  induction l generalizing acc rst with
  | nil => exact hk _ _
  | cons c l ih =>
    unfold eyeRecords
    refine touches_eyeRecord (Part.Sub.trans (by decide) hS) ?_
    intro x y
    refine Touches.get ?_
    intro s
    exact ih

theorem touches_Act_eyeTag {dir : Nat} {b : List Byte} {k : Option (List Byte) → Act} {S : List Part} (hS : Part.Sub [.regs, .evtNo, .upsets, .irqs, .sec, .freeCount] S) (hk_k : ∀ x0, Touches (k x0) S) : Touches (Act.eyeTag dir b k) S := by
  unfold Act.eyeTag
  try dsimp only
  repeat' (with_reducible first | exact hk_k _ | apply touches_Act_useKey | apply Touches.get | apply Touches.ite | exact Part.Sub.trans (by decide) hS | intro _ | split | dsimp only)

theorem touches_Act_resetAfter {cls : Nat} {a : Act} {S : List Part} (hS : Part.Sub [.eyeReset] S) (hk_a : Touches (a) S) : Touches (Act.resetAfter cls a) S := by
  unfold Act.resetAfter
  try dsimp only
  repeat' (with_reducible first | exact hk_a | apply Touches.upd_of hS | apply Touches.seq | apply Touches.get | apply Touches.when | exact Part.Sub.trans (by decide) hS | intro _ | dsimp only)
  all_goals (intro s p hp; cases p <;> first | rfl | exact absurd (by decide) hp)

theorem touches_Act_eyeReplyFrame {g : Nat} {b : List Byte} {count : Nat} {recs : List Byte} {rst : Bool} {S : List Part} (hS : Part.Sub [.regs, .evtNo, .upsets, .eyeReset, .irqs, .sw, .sec, .freeCount] S) : Touches (Act.eyeReplyFrame g b count recs rst) S := by
  unfold Act.eyeReplyFrame
  try dsimp only
  repeat' (with_reducible first | apply touches_Act_engineOut | apply touches_Act_eyeTag | apply touches_Act_resetAfter | apply Touches.get | apply Touches.opt | apply Touches.ite | exact Part.Sub.trans (by decide) hS | intro _ | split | dsimp only)

theorem touches_Act_eyeDrop  {S : List Part} (hS : Part.Sub [.regs, .evtNo, .upsets] S) : Touches (Act.eyeDrop ) S := by
  unfold Act.eyeDrop
  try dsimp only
  repeat' (with_reducible first | apply touches_Act_bumpFld | apply touches_Act_event | apply Touches.seq | exact Part.Sub.trans (by decide) hS | intro _ | dsimp only)

theorem touches_Act_authDrop {i : Nat} {S : List Part} (hS : Part.Sub [.regs, .evtNo, .upsets] S) : Touches (Act.authDrop i) S := by
  unfold Act.authDrop
  try dsimp only
  repeat' (with_reducible first | apply touches_Act_bumpFld | apply touches_Act_event | apply Touches.seq | exact Part.Sub.trans (by decide) hS | intro _ | dsimp only)

theorem touches_Act_eyeFresh {g : Nat} {b : List Byte} {l : List EyeCmd} {attn : Nat} {go : Act} {S : List Part} (hS : Part.Sub [.regs, .evtNo, .upsets, .eyeReset, .irqs, .sw, .sec, .freeCount] S) (hk_go : Touches (go) S) : Touches (Act.eyeFresh g b l attn go) S := by
  unfold Act.eyeFresh
  try dsimp only
  repeat' (with_reducible first | exact hk_go | apply touches_Act_event | apply touches_Act_eyeReplyFrame | apply touches_Act_authDrop | apply Touches.setReg | apply Touches.seq | apply Touches.get | apply Touches.ite | exact Part.Sub.trans (by decide) hS | intro _ | split | dsimp only)

theorem touches_eyeRequest  {S : List Part} (hS : Part.Sub [.regs, .tbls, .mem, .flash, .evtNo, .lockedRegs, .onceRegs, .upsets, .mismatches, .posted, .compat, .pends, .eyeReset, .irqs, .sup, .prism, .start, .clk, .ld, .sw, .nets, .gw, .mon, .sec, .plx, .io, .cpu, .out, .freeCount] S) : Touches (eyeRequest ) S := by
  unfold eyeRequest
  try dsimp only
  repeat' (with_reducible first | apply touches_Act_bumpFld | apply touches_Act_take | apply touches_eyeRecords | apply touches_Act_eyeTag | apply touches_Act_eyeReplyFrame | apply touches_Act_eyeDrop | apply touches_Act_authDrop | apply touches_Act_eyeFresh | apply Touches.seq | apply Touches.get | apply Touches.when | apply Touches.ite | exact Part.Sub.trans (by decide) hS | intro _ | split | dsimp only)

theorem touches_ethArrive {p f : Nat} {b : List Byte} {errAt : Option Nat} {fault : Bool} {fixed lost : Nat} {S : List Part} (hS : Part.Sub [.regs, .tbls, .evtNo, .upsets, .irqs, .sw, .mon, .sec, .plx, .freeCount] S) : Touches (ethArrive p f b errAt fault fixed lost) S := by
  unfold ethArrive
  try dsimp only
  repeat' (with_reducible first | apply touches_ethReceive | apply Touches.get | exact Part.Sub.trans (by decide) hS | intro _ | dsimp only)

theorem touches_ethSend {p f coll : Nat} {late fault : Bool} {S : List Part} (hS : Part.Sub [.regs, .tbls, .mem, .flash, .evtNo, .lockedRegs, .onceRegs, .upsets, .mismatches, .posted, .compat, .pends, .eyeReset, .irqs, .sup, .prism, .start, .clk, .ld, .sw, .nets, .gw, .mon, .sec, .plx, .io, .cpu, .out, .freeCount] S) : Touches (ethSend p f coll late fault) S := by
  unfold ethSend
  try dsimp only
  repeat' (with_reducible first | apply touches_ethTransmit | apply touches_Act_packageReset | apply Touches.seq | apply Touches.get | apply Touches.when | exact Part.Sub.trans (by decide) hS | intro _ | dsimp only)

end Sys2Proof.Machine
end

