-- ==== Sys2Proof/Laws/Frame/Group8.lean ====
section
/-! SUPPORT. Which parts of the state the operations of Bridge, Send, Sources, Scrub, Idle may change. -/

set_option linter.unusedTactic false
set_option linter.unreachableTactic false

namespace Sys2Proof.Machine

/-! ## Bridge -/

theorem touches_Act_winCount {p i : Nat} {S : List Part} (hS : Part.Sub [.regs, .evtNo, .upsets, .irqs] S) : Touches (Act.winCount p i) S := by
  unfold Act.winCount
  try dsimp only
  repeat' (with_reducible first | apply touches_Act_count | exact Part.Sub.trans (by decide) hS | intro _ | dsimp only)

theorem touches_Act_setLocks {f : List BlockLock → List BlockLock} {g : List WinLock → List WinLock} {S : List Part} (hS : Part.Sub [.gw] S) : Touches (Act.setLocks f g) S := by
  unfold Act.setLocks
  try dsimp only
  repeat' (with_reducible first | apply Touches.upd_of hS | exact Part.Sub.trans (by decide) hS | intro _ | dsimp only)
  all_goals (intro s p hp; cases p <;> first | rfl | exact absurd (by decide) hp)

theorem touches_Act_postFail {p part win loc : Nat} {c : Code} {S : List Part} (hS : Part.Sub [.regs, .evtNo, .upsets, .irqs] S) : Touches (Act.postFail p part win loc c) S := by
  unfold Act.postFail
  try dsimp only
  repeat' (with_reducible first | apply touches_Act_setFld | apply touches_Act_event | apply touches_Act_irq | apply touches_Act_winCount | apply Touches.setReg | apply Touches.all_cons | apply Touches.all_nil | apply Touches.seq | apply Touches.get | apply Touches.ite | exact Part.Sub.trans (by decide) hS | intro _ | split | dsimp only)

theorem touches_Act_lockedRead {ag : Agent} {a : Nat} {l : BlockLock} {k : Code → Word → Act} {S : List Part} (hS : Part.Sub [.regs, .tbls, .mem, .flash, .evtNo, .lockedRegs, .onceRegs, .upsets, .mismatches, .posted, .compat, .pends, .eyeReset, .irqs, .sup, .prism, .start, .clk, .ld, .sw, .nets, .gw, .mon, .sec, .plx, .io, .cpu, .out, .freeCount] S) (hk_k : ∀ x0 x1, Touches (k x0 x1) S) : Touches (Act.lockedRead ag a l k) S := by
  unfold Act.lockedRead
  try dsimp only
  repeat' (with_reducible first | exact hk_k _ _ | apply touches_Act_read | apply touches_Act_setLocks | apply Touches.seq | apply Touches.get | apply Touches.ite | exact Part.Sub.trans (by decide) hS | intro _ | split | dsimp only)

theorem touches_Act_winRead {p part core hart n k : Nat} {lock : Bool} {done : Code → Word → Act} {S : List Part} (hS : Part.Sub [.regs, .tbls, .mem, .flash, .evtNo, .lockedRegs, .onceRegs, .upsets, .mismatches, .posted, .compat, .pends, .eyeReset, .irqs, .sup, .prism, .start, .clk, .ld, .sw, .nets, .gw, .mon, .sec, .plx, .io, .cpu, .out, .freeCount] S) (hk_done : ∀ x0 x1, Touches (done x0 x1) S) : Touches (Act.winRead p part core hart n k lock done) S := by
  unfold Act.winRead
  try dsimp only
  repeat' (with_reducible first | exact hk_done _ _ | apply touches_Act_read | apply touches_Act_setLocks | apply touches_Act_lockedRead | apply Touches.seq | apply Touches.get | apply Touches.ite | exact Part.Sub.trans (by decide) hS | intro _ | split | dsimp only)

theorem touches_Act_winAsk {p dev n k : Nat} {lock : Bool} {done : Option Nat → Act} {S : List Part} (hS : Part.Sub [.regs, .evtNo, .upsets, .irqs, .sw, .sec, .plx, .freeCount] S) (hk_done : ∀ x0, Touches (done x0) S) : Touches (Act.winAsk p dev n k lock done) S := by
  unfold Act.winAsk
  try dsimp only
  repeat' (with_reducible first | exact hk_done _ | apply touches_Act_ezRequest | apply Touches.get | apply Touches.ite | exact Part.Sub.trans (by decide) hS | intro _ | split | dsimp only)

theorem touches_Act_winOpen {p : Nat} {e : WinPend} {S : List Part} (hS : Part.Sub [.gw] S) : Touches (Act.winOpen p e) S := by
  unfold Act.winOpen
  try dsimp only
  repeat' (with_reducible first | apply touches_Act_setWpend | apply Touches.get | exact Part.Sub.trans (by decide) hS | intro _ | dsimp only)

theorem touches_Act_winStart {p part core hart n k : Nat} {lock fast : Bool} {ret : Code → Word → Act} {S : List Part} (hS : Part.Sub [.regs, .tbls, .mem, .flash, .evtNo, .lockedRegs, .onceRegs, .upsets, .mismatches, .posted, .compat, .pends, .eyeReset, .irqs, .sup, .prism, .start, .clk, .ld, .sw, .nets, .gw, .mon, .sec, .plx, .io, .cpu, .out, .freeCount] S) (hk_ret : ∀ x0 x1, Touches (ret x0 x1) S) : Touches (Act.winStart p part core hart n k lock fast ret) S := by
  unfold Act.winStart
  try dsimp only
  repeat' (with_reducible first | exact hk_ret _ _ | apply touches_Act_offerMon | apply touches_Act_winCount | apply touches_Act_winRead | apply touches_Act_winAsk | apply touches_Act_winOpen | apply Touches.all_cons | apply Touches.all_nil | apply Touches.seq | apply Touches.get | apply Touches.ite | exact Part.Sub.trans (by decide) hS | intro _ | split | dsimp only)

theorem touches_Act_winLoad {p c hart n k : Nat} {aligned lock fast : Bool} {S : List Part} (hS : Part.Sub [.regs, .tbls, .mem, .flash, .evtNo, .lockedRegs, .onceRegs, .upsets, .mismatches, .posted, .compat, .pends, .eyeReset, .irqs, .sup, .prism, .start, .clk, .ld, .sw, .nets, .gw, .mon, .sec, .plx, .io, .cpu, .out, .freeCount] S) : Touches (Act.winLoad p c hart n k aligned lock fast) S := by
  unfold Act.winLoad
  try dsimp only
  repeat' (with_reducible first | apply touches_Act_setWpend | apply touches_Act_reply | apply touches_Act_winCount | apply touches_Act_winStart | apply Touches.seq | apply Touches.get | apply Touches.opt | apply Touches.ite | exact Part.Sub.trans (by decide) hS | intro _ | split | dsimp only)

theorem touches_windowLoad {p c hart n k : Nat} {aligned fast : Bool} {S : List Part} (hS : Part.Sub [.regs, .tbls, .mem, .flash, .evtNo, .lockedRegs, .onceRegs, .upsets, .mismatches, .posted, .compat, .pends, .eyeReset, .irqs, .sup, .prism, .start, .clk, .ld, .sw, .nets, .gw, .mon, .sec, .plx, .io, .cpu, .out, .freeCount] S) : Touches (windowLoad p c hart n k aligned fast) S := by
  unfold windowLoad
  try dsimp only
  repeat' (with_reducible first | apply touches_Act_winLoad | exact Part.Sub.trans (by decide) hS | intro _ | dsimp only)

theorem touches_lockedReadLoad {p c hart n k : Nat} {aligned fast : Bool} {S : List Part} (hS : Part.Sub [.regs, .tbls, .mem, .flash, .evtNo, .lockedRegs, .onceRegs, .upsets, .mismatches, .posted, .compat, .pends, .eyeReset, .irqs, .sup, .prism, .start, .clk, .ld, .sw, .nets, .gw, .mon, .sec, .plx, .io, .cpu, .out, .freeCount] S) : Touches (lockedReadLoad p c hart n k aligned fast) S := by
  unfold lockedReadLoad
  try dsimp only
  repeat' (with_reducible first | apply touches_Act_winLoad | exact Part.Sub.trans (by decide) hS | intro _ | dsimp only)

theorem touches_Act_winDone {p i : Nat} {c : Code} {v : Word} {S : List Part} (hS : Part.Sub [.gw, .mon] S) : Touches (Act.winDone p i c v) S := by
  unfold Act.winDone
  try dsimp only
  repeat' (with_reducible first | apply touches_Act_setWpend | apply touches_Act_offerMon | apply Touches.seq | apply Touches.get | apply Touches.opt | exact Part.Sub.trans (by decide) hS | intro _ | dsimp only)

theorem touches_windowReadReply {p i : Nat} {late : Bool} {S : List Part} (hS : Part.Sub [.regs, .tbls, .mem, .flash, .evtNo, .lockedRegs, .onceRegs, .upsets, .mismatches, .posted, .compat, .pends, .eyeReset, .irqs, .sup, .prism, .start, .clk, .ld, .sw, .nets, .gw, .mon, .sec, .plx, .io, .cpu, .out, .freeCount] S) : Touches (windowReadReply p i late) S := by
  unfold windowReadReply
  try dsimp only
  repeat' (with_reducible first | apply touches_Act_setWpend | apply touches_Act_event | apply touches_Act_winCount | apply touches_Act_winRead | apply touches_Act_winAsk | apply touches_Act_winDone | apply Touches.all_cons | apply Touches.all_nil | apply Touches.get | apply Touches.when | apply Touches.opt | apply Touches.skip | apply Touches.ite | exact Part.Sub.trans (by decide) hS | intro _ | split | dsimp only)

theorem touches_windowPendingExpire {p i : Nat} {S : List Part} (hS : Part.Sub [.gw] S) : Touches (windowPendingExpire p i) S := by
  unfold windowPendingExpire
  try dsimp only
  repeat' (with_reducible first | apply touches_Act_setWpend | apply Touches.get | apply Touches.when | apply Touches.opt | apply Touches.skip | exact Part.Sub.trans (by decide) hS | intro _ | split | dsimp only)

theorem touches_Act_postSend {p n : Nat} {S : List Part} (hS : Part.Sub [.regs, .evtNo, .upsets, .irqs, .sw, .gw, .sec, .plx, .freeCount] S) : Touches (Act.postSend p n) S := by
  unfold Act.postSend
  try dsimp only
  repeat' (with_reducible first | apply touches_Act_setWpost | apply touches_Act_ezRequest | apply touches_Act_postFail | apply Touches.seq | apply Touches.get | apply Touches.when | apply Touches.opt | apply Touches.ite | exact Part.Sub.trans (by decide) hS | intro _ | split | dsimp only)

theorem touches_Act_winChecked {p part n a : Nat} {v : Word} {lock : Bool} {send : Word → Act} {S : List Part} (hS : Part.Sub [.regs, .evtNo, .upsets, .irqs, .gw, .io, .cpu] S) (hk_send : ∀ x0, Touches (send x0) S) : Touches (Act.winChecked p part n a v lock send) S := by
  unfold Act.winChecked
  try dsimp only
  repeat' (with_reducible first | exact hk_send _ | apply touches_Act_aprBlock | apply touches_Act_aprLoad | apply Touches.get | apply Touches.when | apply Touches.opt | exact Part.Sub.trans (by decide) hS | intro _ | split | dsimp only)

theorem touches_windowStore {p c hart n k : Nat} {aligned lock : Bool} {v : Nat} {S : List Part} (hS : Part.Sub [.regs, .evtNo, .upsets, .irqs, .sw, .gw, .sec, .plx, .io, .cpu, .freeCount] S) : Touches (windowStore p c hart n k aligned lock v) S := by
  unfold windowStore
  try dsimp only
  repeat' (with_reducible first | apply touches_Act_setWpost | apply touches_Act_winCount | apply touches_Act_postFail | apply touches_Act_postSend | apply touches_Act_winChecked | apply Touches.all_cons | apply Touches.all_nil | apply Touches.get | apply Touches.opt | apply Touches.ite | exact Part.Sub.trans (by decide) hS | intro _ | split | dsimp only)

theorem touches_Act_winRelease {p n : Nat} {S : List Part} (hS : Part.Sub [.gw] S) : Touches (Act.winRelease p n) S := by
  unfold Act.winRelease
  try dsimp only
  repeat' (with_reducible first | apply touches_Act_setLocks | exact Part.Sub.trans (by decide) hS | intro _ | dsimp only)

theorem touches_Act_postArrives {p : Nat} {w : WinPost} {S : List Part} (hS : Part.Sub [.regs, .tbls, .mem, .flash, .evtNo, .lockedRegs, .onceRegs, .upsets, .mismatches, .posted, .compat, .pends, .eyeReset, .irqs, .sup, .prism, .start, .clk, .ld, .sw, .nets, .gw, .mon, .sec, .plx, .io, .cpu, .out, .freeCount] S) : Touches (Act.postArrives p w) S := by
  unfold Act.postArrives
  try dsimp only
  repeat' (with_reducible first | apply touches_Act_write | apply touches_Act_winCount | apply touches_Act_postFail | apply touches_Act_winRelease | apply Touches.all_cons | apply Touches.all_nil | apply Touches.get | apply Touches.when | apply Touches.ite | exact Part.Sub.trans (by decide) hS | intro _ | split | dsimp only)

theorem touches_postedWriteDone {p i : Nat} {late : Bool} {S : List Part} (hS : Part.Sub [.regs, .tbls, .mem, .flash, .evtNo, .lockedRegs, .onceRegs, .upsets, .mismatches, .posted, .compat, .pends, .eyeReset, .irqs, .sup, .prism, .start, .clk, .ld, .sw, .nets, .gw, .mon, .sec, .plx, .io, .cpu, .out, .freeCount] S) : Touches (postedWriteDone p i late) S := by
  unfold postedWriteDone
  try dsimp only
  repeat' (with_reducible first | apply touches_Act_setWpost | apply touches_Act_winCount | apply touches_Act_postFail | apply touches_Act_postSend | apply touches_Act_postArrives | apply Touches.all_cons | apply Touches.all_nil | apply Touches.get | apply Touches.when | apply Touches.opt | apply Touches.ite | exact Part.Sub.trans (by decide) hS | intro _ | split | dsimp only)

theorem touches_windowLockExpire {p n : Nat} {other : Bool} {S : List Part} (hS : Part.Sub [.regs, .evtNo, .upsets, .gw] S) : Touches (windowLockExpire p n other) S := by
  unfold windowLockExpire
  try dsimp only
  repeat' (with_reducible first | apply touches_Act_event | apply touches_Act_setLocks | apply touches_Act_winRelease | apply Touches.seq | apply Touches.get | apply Touches.when | apply Touches.opt | apply Touches.ite | exact Part.Sub.trans (by decide) hS | intro _ | split | dsimp only)

theorem touches_remoteEyepiece {dev op a data : Nat} {k : Code → Word → Act} {S : List Part} (hS : Part.Sub [.regs, .tbls, .mem, .flash, .evtNo, .lockedRegs, .onceRegs, .upsets, .mismatches, .posted, .compat, .pends, .eyeReset, .irqs, .sup, .prism, .start, .clk, .ld, .sw, .nets, .gw, .mon, .sec, .plx, .io, .cpu, .out, .freeCount] S) (hk_k : ∀ x0 x1, Touches (k x0 x1) S) : Touches (remoteEyepiece dev op a data k) S := by
  unfold remoteEyepiece
  try dsimp only
  repeat' (with_reducible first | exact hk_k _ _ | apply touches_Act_write | apply touches_Act_read | apply Touches.get | apply Touches.ite | exact Part.Sub.trans (by decide) hS | intro _ | split | dsimp only)

theorem touches_remoteWindow {dev op a data : Nat} {k : Code → Word → Act} {S : List Part} (hS : Part.Sub [.regs, .tbls, .mem, .flash, .evtNo, .lockedRegs, .onceRegs, .upsets, .mismatches, .posted, .compat, .pends, .eyeReset, .irqs, .sup, .prism, .start, .clk, .ld, .sw, .nets, .gw, .mon, .sec, .plx, .io, .cpu, .out, .freeCount] S) (hk_k : ∀ x0 x1, Touches (k x0 x1) S) : Touches (remoteWindow dev op a data k) S := by
  unfold remoteWindow
  try dsimp only
  repeat' (with_reducible first | exact hk_k _ _ | apply touches_Act_write | apply touches_Act_read | apply touches_Act_setLocks | apply touches_Act_lockedRead | apply Touches.seq | apply Touches.get | apply Touches.ite | exact Part.Sub.trans (by decide) hS | intro _ | split | dsimp only)

theorem touches_requestReceived {past : Bool} {S : List Part} (hS : Part.Sub [.regs, .tbls, .mem, .flash, .evtNo, .lockedRegs, .onceRegs, .upsets, .mismatches, .posted, .compat, .pends, .eyeReset, .irqs, .sup, .prism, .start, .clk, .ld, .sw, .nets, .gw, .mon, .sec, .plx, .io, .cpu, .out, .freeCount] S) : Touches (requestReceived past) S := by
  unfold requestReceived
  try dsimp only
  repeat' (with_reducible first | apply touches_Act_ezReply | apply touches_Act_ezCommand | apply touches_Act_resetAfter | apply touches_remoteEyepiece | apply touches_remoteWindow | apply Touches.get | apply Touches.ite | exact Part.Sub.trans (by decide) hS | intro _ | split | dsimp only)

theorem touches_Act_replyPend {dev t : Nat} {c : Code} {data : List Byte} {S : List Part} (hS : Part.Sub [.pends] S) : Touches (Act.replyPend dev t c data) S := by
  unfold Act.replyPend
  try dsimp only
  repeat' (with_reducible first | apply touches_Act_setPends | apply Touches.get | apply Touches.each | apply Touches.ite | apply Touches.all_map | exact Part.Sub.trans (by decide) hS | intro _ | split | dsimp only)

theorem touches_Act_replyWindow {p dev t : Nat} {c : Code} {v : Word} {S : List Part} (hS : Part.Sub [.regs, .evtNo, .upsets, .irqs, .sw, .gw, .mon, .sec, .plx, .freeCount] S) : Touches (Act.replyWindow p dev t c v) S := by
  unfold Act.replyWindow
  try dsimp only
  repeat' (with_reducible first | apply touches_Act_setWpost | apply touches_Act_winCount | apply touches_Act_setLocks | apply touches_Act_postFail | apply touches_Act_winDone | apply touches_Act_postSend | apply touches_Act_winRelease | apply Touches.all_cons | apply Touches.all_nil | apply Touches.seq | apply Touches.get | apply Touches.when | apply Touches.opt | exact Part.Sub.trans (by decide) hS | intro _ | dsimp only)

theorem touches_replyReceived {past : Bool} {S : List Part} (hS : Part.Sub [.regs, .evtNo, .upsets, .pends, .irqs, .sw, .gw, .mon, .sec, .plx, .freeCount] S) : Touches (replyReceived past) S := by
  unfold replyReceived
  try dsimp only
  repeat' (with_reducible first | apply touches_Act_ezCommand | apply touches_Act_replyPend | apply touches_Act_replyWindow | apply Touches.seq | apply Touches.get | apply Touches.each | apply Touches.opt | exact Part.Sub.trans (by decide) hS | intro _ | dsimp only)

/-! ## Send -/

theorem touches_Act_send {w : Sender} {a : Nat} {v : Word} {S : List Part} (hS : Part.Sub [.regs, .tbls, .mem, .flash, .evtNo, .lockedRegs, .onceRegs, .upsets, .mismatches, .posted, .compat, .pends, .eyeReset, .irqs, .sup, .prism, .start, .clk, .ld, .sw, .nets, .gw, .mon, .sec, .plx, .io, .cpu, .out, .freeCount] S) : Touches (Act.send w a v) S := by
  unfold Act.send
  try dsimp only
  repeat' (with_reducible first | apply touches_Act_replied | apply touches_Act_write | apply touches_Act_hartStore | apply Touches.get | apply Touches.when | apply Touches.opt | apply Touches.ite | exact Part.Sub.trans (by decide) hS | intro _ | split | dsimp only)

theorem touches_Act_fetch {w : Sender} {a : Nat} {S : List Part} (hS : Part.Sub [.regs, .tbls, .mem, .flash, .evtNo, .lockedRegs, .onceRegs, .upsets, .mismatches, .posted, .compat, .pends, .eyeReset, .irqs, .sup, .prism, .start, .clk, .ld, .sw, .nets, .gw, .mon, .sec, .plx, .io, .cpu, .out, .freeCount] S) : Touches (Act.fetch w a) S := by
  unfold Act.fetch
  try dsimp only
  repeat' (with_reducible first | apply touches_Act_reply | apply touches_Act_read | apply touches_Act_hartLoad | apply Touches.get | apply Touches.when | apply Touches.opt | exact Part.Sub.trans (by decide) hS | intro _ | split | dsimp only)

theorem touches_Act_order {w : Sender} {a : Nat} {v : Nat} {f : Fld} {n : Nat} {S : List Part} (hS : Part.Sub [.regs, .tbls, .mem, .flash, .evtNo, .lockedRegs, .onceRegs, .upsets, .mismatches, .posted, .compat, .pends, .eyeReset, .irqs, .sup, .prism, .start, .clk, .ld, .sw, .nets, .gw, .mon, .sec, .plx, .io, .cpu, .out, .freeCount] S) : Touches (Act.order w a v f n) S := by
  unfold Act.order
  try dsimp only
  repeat' (with_reducible first | apply touches_Act_send | exact Part.Sub.trans (by decide) hS | intro _ | dsimp only)

theorem touches_Act_hartMem {w : Sender} {l : List (Nat × Nat)} {S : List Part} (hS : Part.Sub [.regs, .mem, .evtNo, .upsets, .irqs] S) : Touches (Act.hartMem w l) S := by
  unfold Act.hartMem
  try dsimp only
  repeat' (with_reducible first | apply touches_Act_memWrite | apply touches_Act_cpuCount | apply Touches.get | apply Touches.each | apply Touches.opt | apply Touches.skip | apply Touches.ite | exact Part.Sub.trans (by decide) hS | intro _ | split | dsimp only)

theorem touches_clearBySequence {w : Sender} {a n : Nat} {S : List Part} (hS : Part.Sub [.regs, .tbls, .mem, .flash, .evtNo, .lockedRegs, .onceRegs, .upsets, .mismatches, .posted, .compat, .pends, .eyeReset, .irqs, .sup, .prism, .start, .clk, .ld, .sw, .nets, .gw, .mon, .sec, .plx, .io, .cpu, .out, .freeCount] S) : Touches (clearBySequence w a n) S := by
  unfold clearBySequence
  try dsimp only
  repeat' (with_reducible first | apply touches_Act_send | apply Touches.when | exact Part.Sub.trans (by decide) hS | intro _ | dsimp only)

theorem touches_spiAborted {_bytes : List Byte} {S : List Part} (hS : Part.Sub [] S) : Touches (spiAborted _bytes) S := by
  unfold spiAborted
  try dsimp only
  repeat' (with_reducible first | apply Touches.skip | exact Part.Sub.trans (by decide) hS | intro _ | dsimp only)

/-! ## Sources -/

theorem touches_loupeSample {p m : Nat} {v : Word} {taken : Bool} {S : List Part} (hS : Part.Sub [.regs, .evtNo, .upsets, .irqs, .mon] S) : Touches (loupeSample p m v taken) S := by
  unfold loupeSample
  try dsimp only
  repeat' (with_reducible first | apply touches_Act_sample | apply Touches.upd_of hS | apply Touches.seq | apply Touches.get | apply Touches.opt | apply Touches.ite | exact Part.Sub.trans (by decide) hS | intro _ | split | dsimp only)
  all_goals (intro s p hp; cases p <;> first | rfl | exact absurd (by decide) hp)

/-! ## Scrub -/

theorem touches_Act_eccInvalid {p t i : Nat} {S : List Part} (hS : Part.Sub [.tbls, .gw] S) : Touches (Act.eccInvalid p t i) S := by
  unfold Act.eccInvalid
  try dsimp only
  repeat' (with_reducible first | apply touches_Act_modSig | apply touches_Act_setTblWords | apply touches_Act_dropRoute | apply Touches.dropTbls | apply Touches.get | apply Touches.opt | apply Touches.ite | exact Part.Sub.trans (by decide) hS | intro _ | split | dsimp only)

theorem touches_Act_eccEvent {p t i : Nat} {S : List Part} (hS : Part.Sub [.regs, .evtNo, .upsets, .irqs] S) : Touches (Act.eccEvent p t i) S := by
  unfold Act.eccEvent
  try dsimp only
  repeat' (with_reducible first | apply touches_Act_setFld | apply touches_Act_setFlds | apply touches_Act_event | apply touches_Act_sgwEvent | apply Touches.seq | apply Touches.ite | exact Part.Sub.trans (by decide) hS | intro _ | split | dsimp only)

theorem touches_Act_eccError {fixed : Bool} {e : Nat × Nat × Nat} {S : List Part} (hS : Part.Sub [.regs, .tbls, .evtNo, .upsets, .irqs, .gw] S) : Touches (Act.eccError fixed e) S := by
  unfold Act.eccError
  try dsimp only
  repeat' (with_reducible first | apply touches_Act_count | apply touches_Act_eccInvalid | apply touches_Act_eccEvent | apply Touches.seq | apply Touches.get | apply Touches.when | apply Touches.opt | apply Touches.ite | exact Part.Sub.trans (by decide) hS | intro _ | split | dsimp only)

theorem touches_parityScrub {l fixed lost : List (Nat × Nat × Nat)} {S : List Part} (hS : Part.Sub [.regs, .tbls, .mem, .flash, .evtNo, .lockedRegs, .onceRegs, .upsets, .mismatches, .posted, .compat, .pends, .eyeReset, .irqs, .sup, .prism, .start, .clk, .ld, .sw, .nets, .gw, .mon, .sec, .plx, .io, .cpu, .out, .freeCount] S) : Touches (parityScrub l fixed lost) S := by
  unfold parityScrub
  try dsimp only
  repeat' (with_reducible first | apply touches_Act_upset | apply touches_Act_check | apply touches_Act_eccError | apply Touches.all_cons | apply Touches.all_nil | apply Touches.get | apply Touches.each | apply Touches.all_map | exact Part.Sub.trans (by decide) hS | intro _ | dsimp only)

/-! ## Idle -/

theorem touches_Act_rollRate {p : Nat} {S : List Part} (hS : Part.Sub [.sw] S) : Touches (Act.rollRate p) S := by
  unfold Act.rollRate
  try dsimp only
  repeat' (with_reducible first | apply touches_Act_modRate | exact Part.Sub.trans (by decide) hS | intro _ | dsimp only)

theorem touches_Act_measureVcore {p : Nat} {S : List Part} (hS : Part.Sub [.prism, .freeCount] S) : Touches (Act.measureVcore p) S := by
  unfold Act.measureVcore
  try dsimp only
  repeat' (with_reducible first | apply touches_Act_freeBelow | apply touches_Act_setPsup | exact Part.Sub.trans (by decide) hS | intro _ | dsimp only)

theorem touches_idle  {S : List Part} (hS : Part.Sub [.prism, .edges, .sw, .gw, .mon, .freeCount] S) : Touches (idle ) S := by
  unfold idle
  try dsimp only
  repeat' (with_reducible first | apply touches_Act_rollTallies | apply touches_Act_passEdge | apply touches_Act_cadencesSettle | apply touches_Act_rollRate | apply touches_Act_measureVcore | apply Touches.upd_of hS | apply Touches.all_cons | apply Touches.all_nil | apply Touches.seq | apply Touches.get | apply Touches.when | apply Touches.each | exact Part.Sub.trans (by decide) hS | intro _ | dsimp only)
  all_goals (intro s p hp; cases p <;> first | rfl | exact absurd (by decide) hp)

end Sys2Proof.Machine
end

