-- ==== Sys2Proof/Laws/State.lean ====
section
/-! SUPPORT. What each update of the state leaves in each field: one lemma per field per update. -/

namespace Sys2Proof.Machine

@[simp] theorem Act_setReg_fuse (a : Nat) (v : Word) (s : State) : ((Act.setReg a v).run s).fuse = s.fuse := rfl
@[simp] theorem Act_setReg_regs (a : Nat) (v : Word) (s : State) : ((Act.setReg a v).run s).regs = Sparse.put regReset a (v &&& regMask a) s.regs := rfl
@[simp] theorem Act_setReg_tbls (a : Nat) (v : Word) (s : State) : ((Act.setReg a v).run s).tbls = s.tbls := rfl
@[simp] theorem Act_setReg_mem (a : Nat) (v : Word) (s : State) : ((Act.setReg a v).run s).mem = s.mem := rfl
@[simp] theorem Act_setReg_flash (a : Nat) (v : Word) (s : State) : ((Act.setReg a v).run s).flash = s.flash := rfl
@[simp] theorem Act_setReg_flashSize (a : Nat) (v : Word) (s : State) : ((Act.setReg a v).run s).flashSize = s.flashSize := rfl
@[simp] theorem Act_setReg_evtNo (a : Nat) (v : Word) (s : State) : ((Act.setReg a v).run s).evtNo = s.evtNo := rfl
@[simp] theorem Act_setReg_lockedRegs (a : Nat) (v : Word) (s : State) : ((Act.setReg a v).run s).lockedRegs = s.lockedRegs := rfl
@[simp] theorem Act_setReg_onceRegs (a : Nat) (v : Word) (s : State) : ((Act.setReg a v).run s).onceRegs = s.onceRegs := rfl
@[simp] theorem Act_setReg_upsets (a : Nat) (v : Word) (s : State) : ((Act.setReg a v).run s).upsets = Sparse.put (fun _ => {}) a {} s.upsets := rfl
@[simp] theorem Act_setReg_mismatches (a : Nat) (v : Word) (s : State) : ((Act.setReg a v).run s).mismatches = s.mismatches := rfl
@[simp] theorem Act_setReg_posted (a : Nat) (v : Word) (s : State) : ((Act.setReg a v).run s).posted = s.posted := rfl
@[simp] theorem Act_setReg_compat (a : Nat) (v : Word) (s : State) : ((Act.setReg a v).run s).compat = s.compat := rfl
@[simp] theorem Act_setReg_pends (a : Nat) (v : Word) (s : State) : ((Act.setReg a v).run s).pends = s.pends := rfl
@[simp] theorem Act_setReg_eyeReset (a : Nat) (v : Word) (s : State) : ((Act.setReg a v).run s).eyeReset = s.eyeReset := rfl
@[simp] theorem Act_setReg_irqs (a : Nat) (v : Word) (s : State) : ((Act.setReg a v).run s).irqs = s.irqs := rfl
@[simp] theorem Act_setReg_seq (a : Nat) (v : Word) (s : State) : ((Act.setReg a v).run s).seq = s.seq := rfl
@[simp] theorem Act_setReg_sup (a : Nat) (v : Word) (s : State) : ((Act.setReg a v).run s).sup = s.sup := rfl
@[simp] theorem Act_setReg_prism (a : Nat) (v : Word) (s : State) : ((Act.setReg a v).run s).prism = s.prism := rfl
@[simp] theorem Act_setReg_start (a : Nat) (v : Word) (s : State) : ((Act.setReg a v).run s).start = s.start := rfl
@[simp] theorem Act_setReg_clk (a : Nat) (v : Word) (s : State) : ((Act.setReg a v).run s).clk = s.clk := rfl
@[simp] theorem Act_setReg_ld (a : Nat) (v : Word) (s : State) : ((Act.setReg a v).run s).ld = s.ld := rfl
@[simp] theorem Act_setReg_edges (a : Nat) (v : Word) (s : State) : ((Act.setReg a v).run s).edges = s.edges := rfl
@[simp] theorem Act_setReg_sw (a : Nat) (v : Word) (s : State) : ((Act.setReg a v).run s).sw = s.sw := rfl
@[simp] theorem Act_setReg_nets (a : Nat) (v : Word) (s : State) : ((Act.setReg a v).run s).nets = s.nets := rfl
@[simp] theorem Act_setReg_gw (a : Nat) (v : Word) (s : State) : ((Act.setReg a v).run s).gw = s.gw := rfl
@[simp] theorem Act_setReg_mon (a : Nat) (v : Word) (s : State) : ((Act.setReg a v).run s).mon = s.mon := rfl
@[simp] theorem Act_setReg_sec (a : Nat) (v : Word) (s : State) : ((Act.setReg a v).run s).sec = s.sec := rfl
@[simp] theorem Act_setReg_plx (a : Nat) (v : Word) (s : State) : ((Act.setReg a v).run s).plx = s.plx := rfl
@[simp] theorem Act_setReg_io (a : Nat) (v : Word) (s : State) : ((Act.setReg a v).run s).io = s.io := rfl
@[simp] theorem Act_setReg_cpu (a : Nat) (v : Word) (s : State) : ((Act.setReg a v).run s).cpu = s.cpu := rfl
@[simp] theorem Act_setReg_out (a : Nat) (v : Word) (s : State) : ((Act.setReg a v).run s).out = s.out := rfl
@[simp] theorem Act_setReg_freeCount (a : Nat) (v : Word) (s : State) : ((Act.setReg a v).run s).freeCount = s.freeCount := rfl
@[simp] theorem Act_setReg_pending (a : Nat) (v : Word) (s : State) : ((Act.setReg a v).run s).pending = s.pending := rfl

@[simp] theorem Act_noteEvt_fuse (a i n : Nat) (s : State) : ((Act.noteEvt a i n).run s).fuse = s.fuse := rfl
@[simp] theorem Act_noteEvt_regs (a i n : Nat) (s : State) : ((Act.noteEvt a i n).run s).regs = s.regs := rfl
@[simp] theorem Act_noteEvt_tbls (a i n : Nat) (s : State) : ((Act.noteEvt a i n).run s).tbls = s.tbls := rfl
@[simp] theorem Act_noteEvt_mem (a i n : Nat) (s : State) : ((Act.noteEvt a i n).run s).mem = s.mem := rfl
@[simp] theorem Act_noteEvt_flash (a i n : Nat) (s : State) : ((Act.noteEvt a i n).run s).flash = s.flash := rfl
@[simp] theorem Act_noteEvt_flashSize (a i n : Nat) (s : State) : ((Act.noteEvt a i n).run s).flashSize = s.flashSize := rfl
@[simp] theorem Act_noteEvt_evtNo (a i n : Nat) (s : State) : ((Act.noteEvt a i n).run s).evtNo = Sparse.put evtBlank (i + 64 * a) n s.evtNo := rfl
@[simp] theorem Act_noteEvt_lockedRegs (a i n : Nat) (s : State) : ((Act.noteEvt a i n).run s).lockedRegs = s.lockedRegs := rfl
@[simp] theorem Act_noteEvt_onceRegs (a i n : Nat) (s : State) : ((Act.noteEvt a i n).run s).onceRegs = s.onceRegs := rfl
@[simp] theorem Act_noteEvt_upsets (a i n : Nat) (s : State) : ((Act.noteEvt a i n).run s).upsets = s.upsets := rfl
@[simp] theorem Act_noteEvt_mismatches (a i n : Nat) (s : State) : ((Act.noteEvt a i n).run s).mismatches = s.mismatches := rfl
@[simp] theorem Act_noteEvt_posted (a i n : Nat) (s : State) : ((Act.noteEvt a i n).run s).posted = s.posted := rfl
@[simp] theorem Act_noteEvt_compat (a i n : Nat) (s : State) : ((Act.noteEvt a i n).run s).compat = s.compat := rfl
@[simp] theorem Act_noteEvt_pends (a i n : Nat) (s : State) : ((Act.noteEvt a i n).run s).pends = s.pends := rfl
@[simp] theorem Act_noteEvt_eyeReset (a i n : Nat) (s : State) : ((Act.noteEvt a i n).run s).eyeReset = s.eyeReset := rfl
@[simp] theorem Act_noteEvt_irqs (a i n : Nat) (s : State) : ((Act.noteEvt a i n).run s).irqs = s.irqs := rfl
@[simp] theorem Act_noteEvt_seq (a i n : Nat) (s : State) : ((Act.noteEvt a i n).run s).seq = s.seq := rfl
@[simp] theorem Act_noteEvt_sup (a i n : Nat) (s : State) : ((Act.noteEvt a i n).run s).sup = s.sup := rfl
@[simp] theorem Act_noteEvt_prism (a i n : Nat) (s : State) : ((Act.noteEvt a i n).run s).prism = s.prism := rfl
@[simp] theorem Act_noteEvt_start (a i n : Nat) (s : State) : ((Act.noteEvt a i n).run s).start = s.start := rfl
@[simp] theorem Act_noteEvt_clk (a i n : Nat) (s : State) : ((Act.noteEvt a i n).run s).clk = s.clk := rfl
@[simp] theorem Act_noteEvt_ld (a i n : Nat) (s : State) : ((Act.noteEvt a i n).run s).ld = s.ld := rfl
@[simp] theorem Act_noteEvt_edges (a i n : Nat) (s : State) : ((Act.noteEvt a i n).run s).edges = s.edges := rfl
@[simp] theorem Act_noteEvt_sw (a i n : Nat) (s : State) : ((Act.noteEvt a i n).run s).sw = s.sw := rfl
@[simp] theorem Act_noteEvt_nets (a i n : Nat) (s : State) : ((Act.noteEvt a i n).run s).nets = s.nets := rfl
@[simp] theorem Act_noteEvt_gw (a i n : Nat) (s : State) : ((Act.noteEvt a i n).run s).gw = s.gw := rfl
@[simp] theorem Act_noteEvt_mon (a i n : Nat) (s : State) : ((Act.noteEvt a i n).run s).mon = s.mon := rfl
@[simp] theorem Act_noteEvt_sec (a i n : Nat) (s : State) : ((Act.noteEvt a i n).run s).sec = s.sec := rfl
@[simp] theorem Act_noteEvt_plx (a i n : Nat) (s : State) : ((Act.noteEvt a i n).run s).plx = s.plx := rfl
@[simp] theorem Act_noteEvt_io (a i n : Nat) (s : State) : ((Act.noteEvt a i n).run s).io = s.io := rfl
@[simp] theorem Act_noteEvt_cpu (a i n : Nat) (s : State) : ((Act.noteEvt a i n).run s).cpu = s.cpu := rfl
@[simp] theorem Act_noteEvt_out (a i n : Nat) (s : State) : ((Act.noteEvt a i n).run s).out = s.out := rfl
@[simp] theorem Act_noteEvt_freeCount (a i n : Nat) (s : State) : ((Act.noteEvt a i n).run s).freeCount = s.freeCount := rfl
@[simp] theorem Act_noteEvt_pending (a i n : Nat) (s : State) : ((Act.noteEvt a i n).run s).pending = s.pending := rfl

@[simp] theorem Act_event_fuse (a i : Nat) (s : State) : ((Act.event a i).run s).fuse = s.fuse := rfl
@[simp] theorem Act_event_regs (a i : Nat) (s : State) : ((Act.event a i).run s).regs = Sparse.put regReset a (eventWord s a i &&& regMask a) s.regs := rfl
@[simp] theorem Act_event_tbls (a i : Nat) (s : State) : ((Act.event a i).run s).tbls = s.tbls := rfl
@[simp] theorem Act_event_mem (a i : Nat) (s : State) : ((Act.event a i).run s).mem = s.mem := rfl
@[simp] theorem Act_event_flash (a i : Nat) (s : State) : ((Act.event a i).run s).flash = s.flash := rfl
@[simp] theorem Act_event_flashSize (a i : Nat) (s : State) : ((Act.event a i).run s).flashSize = s.flashSize := rfl
@[simp] theorem Act_event_evtNo (a i : Nat) (s : State) : ((Act.event a i).run s).evtNo = Sparse.put evtBlank (63 + 64 * a) (s.evtCount a + 1) (Sparse.put evtBlank (i + 64 * a) (s.evtCount a + 1) s.evtNo) := rfl
@[simp] theorem Act_event_lockedRegs (a i : Nat) (s : State) : ((Act.event a i).run s).lockedRegs = s.lockedRegs := rfl
@[simp] theorem Act_event_onceRegs (a i : Nat) (s : State) : ((Act.event a i).run s).onceRegs = s.onceRegs := rfl
@[simp] theorem Act_event_upsets (a i : Nat) (s : State) : ((Act.event a i).run s).upsets = Sparse.put (fun _ => {}) a {} s.upsets := rfl
@[simp] theorem Act_event_mismatches (a i : Nat) (s : State) : ((Act.event a i).run s).mismatches = s.mismatches := rfl
@[simp] theorem Act_event_posted (a i : Nat) (s : State) : ((Act.event a i).run s).posted = s.posted := rfl
@[simp] theorem Act_event_compat (a i : Nat) (s : State) : ((Act.event a i).run s).compat = s.compat := rfl
@[simp] theorem Act_event_pends (a i : Nat) (s : State) : ((Act.event a i).run s).pends = s.pends := rfl
@[simp] theorem Act_event_eyeReset (a i : Nat) (s : State) : ((Act.event a i).run s).eyeReset = s.eyeReset := rfl
@[simp] theorem Act_event_irqs (a i : Nat) (s : State) : ((Act.event a i).run s).irqs = s.irqs := rfl
@[simp] theorem Act_event_seq (a i : Nat) (s : State) : ((Act.event a i).run s).seq = s.seq := rfl
@[simp] theorem Act_event_sup (a i : Nat) (s : State) : ((Act.event a i).run s).sup = s.sup := rfl
@[simp] theorem Act_event_prism (a i : Nat) (s : State) : ((Act.event a i).run s).prism = s.prism := rfl
@[simp] theorem Act_event_start (a i : Nat) (s : State) : ((Act.event a i).run s).start = s.start := rfl
@[simp] theorem Act_event_clk (a i : Nat) (s : State) : ((Act.event a i).run s).clk = s.clk := rfl
@[simp] theorem Act_event_ld (a i : Nat) (s : State) : ((Act.event a i).run s).ld = s.ld := rfl
@[simp] theorem Act_event_edges (a i : Nat) (s : State) : ((Act.event a i).run s).edges = s.edges := rfl
@[simp] theorem Act_event_sw (a i : Nat) (s : State) : ((Act.event a i).run s).sw = s.sw := rfl
@[simp] theorem Act_event_nets (a i : Nat) (s : State) : ((Act.event a i).run s).nets = s.nets := rfl
@[simp] theorem Act_event_gw (a i : Nat) (s : State) : ((Act.event a i).run s).gw = s.gw := rfl
@[simp] theorem Act_event_mon (a i : Nat) (s : State) : ((Act.event a i).run s).mon = s.mon := rfl
@[simp] theorem Act_event_sec (a i : Nat) (s : State) : ((Act.event a i).run s).sec = s.sec := rfl
@[simp] theorem Act_event_plx (a i : Nat) (s : State) : ((Act.event a i).run s).plx = s.plx := rfl
@[simp] theorem Act_event_io (a i : Nat) (s : State) : ((Act.event a i).run s).io = s.io := rfl
@[simp] theorem Act_event_cpu (a i : Nat) (s : State) : ((Act.event a i).run s).cpu = s.cpu := rfl
@[simp] theorem Act_event_out (a i : Nat) (s : State) : ((Act.event a i).run s).out = s.out := rfl
@[simp] theorem Act_event_freeCount (a i : Nat) (s : State) : ((Act.event a i).run s).freeCount = s.freeCount := rfl
@[simp] theorem Act_event_pending (a i : Nat) (s : State) : ((Act.event a i).run s).pending = s.pending := rfl

@[simp] theorem Act_irq_fuse (p : Nat) (i : Irq) (s : State) : ((Act.irq p i).run s).fuse = s.fuse := rfl
@[simp] theorem Act_irq_regs (p : Nat) (i : Irq) (s : State) : ((Act.irq p i).run s).regs = s.regs := rfl
@[simp] theorem Act_irq_tbls (p : Nat) (i : Irq) (s : State) : ((Act.irq p i).run s).tbls = s.tbls := rfl
@[simp] theorem Act_irq_mem (p : Nat) (i : Irq) (s : State) : ((Act.irq p i).run s).mem = s.mem := rfl
@[simp] theorem Act_irq_flash (p : Nat) (i : Irq) (s : State) : ((Act.irq p i).run s).flash = s.flash := rfl
@[simp] theorem Act_irq_flashSize (p : Nat) (i : Irq) (s : State) : ((Act.irq p i).run s).flashSize = s.flashSize := rfl
@[simp] theorem Act_irq_evtNo (p : Nat) (i : Irq) (s : State) : ((Act.irq p i).run s).evtNo = s.evtNo := rfl
@[simp] theorem Act_irq_lockedRegs (p : Nat) (i : Irq) (s : State) : ((Act.irq p i).run s).lockedRegs = s.lockedRegs := rfl
@[simp] theorem Act_irq_onceRegs (p : Nat) (i : Irq) (s : State) : ((Act.irq p i).run s).onceRegs = s.onceRegs := rfl
@[simp] theorem Act_irq_upsets (p : Nat) (i : Irq) (s : State) : ((Act.irq p i).run s).upsets = s.upsets := rfl
@[simp] theorem Act_irq_mismatches (p : Nat) (i : Irq) (s : State) : ((Act.irq p i).run s).mismatches = s.mismatches := rfl
@[simp] theorem Act_irq_posted (p : Nat) (i : Irq) (s : State) : ((Act.irq p i).run s).posted = s.posted := rfl
@[simp] theorem Act_irq_compat (p : Nat) (i : Irq) (s : State) : ((Act.irq p i).run s).compat = s.compat := rfl
@[simp] theorem Act_irq_pends (p : Nat) (i : Irq) (s : State) : ((Act.irq p i).run s).pends = s.pends := rfl
@[simp] theorem Act_irq_eyeReset (p : Nat) (i : Irq) (s : State) : ((Act.irq p i).run s).eyeReset = s.eyeReset := rfl
@[simp] theorem Act_irq_irqs (p : Nat) (i : Irq) (s : State) : ((Act.irq p i).run s).irqs = Sparse.put (fun _ => []) p (irqAdd (Sparse.get (fun _ => []) s.irqs p) i) s.irqs := rfl
@[simp] theorem Act_irq_seq (p : Nat) (i : Irq) (s : State) : ((Act.irq p i).run s).seq = s.seq := rfl
@[simp] theorem Act_irq_sup (p : Nat) (i : Irq) (s : State) : ((Act.irq p i).run s).sup = s.sup := rfl
@[simp] theorem Act_irq_prism (p : Nat) (i : Irq) (s : State) : ((Act.irq p i).run s).prism = s.prism := rfl
@[simp] theorem Act_irq_start (p : Nat) (i : Irq) (s : State) : ((Act.irq p i).run s).start = s.start := rfl
@[simp] theorem Act_irq_clk (p : Nat) (i : Irq) (s : State) : ((Act.irq p i).run s).clk = s.clk := rfl
@[simp] theorem Act_irq_ld (p : Nat) (i : Irq) (s : State) : ((Act.irq p i).run s).ld = s.ld := rfl
@[simp] theorem Act_irq_edges (p : Nat) (i : Irq) (s : State) : ((Act.irq p i).run s).edges = s.edges := rfl
@[simp] theorem Act_irq_sw (p : Nat) (i : Irq) (s : State) : ((Act.irq p i).run s).sw = s.sw := rfl
@[simp] theorem Act_irq_nets (p : Nat) (i : Irq) (s : State) : ((Act.irq p i).run s).nets = s.nets := rfl
@[simp] theorem Act_irq_gw (p : Nat) (i : Irq) (s : State) : ((Act.irq p i).run s).gw = s.gw := rfl
@[simp] theorem Act_irq_mon (p : Nat) (i : Irq) (s : State) : ((Act.irq p i).run s).mon = s.mon := rfl
@[simp] theorem Act_irq_sec (p : Nat) (i : Irq) (s : State) : ((Act.irq p i).run s).sec = s.sec := rfl
@[simp] theorem Act_irq_plx (p : Nat) (i : Irq) (s : State) : ((Act.irq p i).run s).plx = s.plx := rfl
@[simp] theorem Act_irq_io (p : Nat) (i : Irq) (s : State) : ((Act.irq p i).run s).io = s.io := rfl
@[simp] theorem Act_irq_cpu (p : Nat) (i : Irq) (s : State) : ((Act.irq p i).run s).cpu = s.cpu := rfl
@[simp] theorem Act_irq_out (p : Nat) (i : Irq) (s : State) : ((Act.irq p i).run s).out = s.out := rfl
@[simp] theorem Act_irq_freeCount (p : Nat) (i : Irq) (s : State) : ((Act.irq p i).run s).freeCount = s.freeCount := rfl
@[simp] theorem Act_irq_pending (p : Nat) (i : Irq) (s : State) : ((Act.irq p i).run s).pending = s.pending := rfl

@[simp] theorem Act_irqBlk_fuse (d b : Nat) (s : State) : ((Act.irqBlk d b).run s).fuse = s.fuse := rfl
@[simp] theorem Act_irqBlk_regs (d b : Nat) (s : State) : ((Act.irqBlk d b).run s).regs = s.regs := rfl
@[simp] theorem Act_irqBlk_tbls (d b : Nat) (s : State) : ((Act.irqBlk d b).run s).tbls = s.tbls := rfl
@[simp] theorem Act_irqBlk_mem (d b : Nat) (s : State) : ((Act.irqBlk d b).run s).mem = s.mem := rfl
@[simp] theorem Act_irqBlk_flash (d b : Nat) (s : State) : ((Act.irqBlk d b).run s).flash = s.flash := rfl
@[simp] theorem Act_irqBlk_flashSize (d b : Nat) (s : State) : ((Act.irqBlk d b).run s).flashSize = s.flashSize := rfl
@[simp] theorem Act_irqBlk_evtNo (d b : Nat) (s : State) : ((Act.irqBlk d b).run s).evtNo = s.evtNo := rfl
@[simp] theorem Act_irqBlk_lockedRegs (d b : Nat) (s : State) : ((Act.irqBlk d b).run s).lockedRegs = s.lockedRegs := rfl
@[simp] theorem Act_irqBlk_onceRegs (d b : Nat) (s : State) : ((Act.irqBlk d b).run s).onceRegs = s.onceRegs := rfl
@[simp] theorem Act_irqBlk_upsets (d b : Nat) (s : State) : ((Act.irqBlk d b).run s).upsets = s.upsets := rfl
@[simp] theorem Act_irqBlk_mismatches (d b : Nat) (s : State) : ((Act.irqBlk d b).run s).mismatches = s.mismatches := rfl
@[simp] theorem Act_irqBlk_posted (d b : Nat) (s : State) : ((Act.irqBlk d b).run s).posted = s.posted := rfl
@[simp] theorem Act_irqBlk_compat (d b : Nat) (s : State) : ((Act.irqBlk d b).run s).compat = s.compat := rfl
@[simp] theorem Act_irqBlk_pends (d b : Nat) (s : State) : ((Act.irqBlk d b).run s).pends = s.pends := rfl
@[simp] theorem Act_irqBlk_eyeReset (d b : Nat) (s : State) : ((Act.irqBlk d b).run s).eyeReset = s.eyeReset := rfl
@[simp] theorem Act_irqBlk_seq (d b : Nat) (s : State) : ((Act.irqBlk d b).run s).seq = s.seq := rfl
@[simp] theorem Act_irqBlk_sup (d b : Nat) (s : State) : ((Act.irqBlk d b).run s).sup = s.sup := rfl
@[simp] theorem Act_irqBlk_prism (d b : Nat) (s : State) : ((Act.irqBlk d b).run s).prism = s.prism := rfl
@[simp] theorem Act_irqBlk_start (d b : Nat) (s : State) : ((Act.irqBlk d b).run s).start = s.start := rfl
@[simp] theorem Act_irqBlk_clk (d b : Nat) (s : State) : ((Act.irqBlk d b).run s).clk = s.clk := rfl
@[simp] theorem Act_irqBlk_ld (d b : Nat) (s : State) : ((Act.irqBlk d b).run s).ld = s.ld := rfl
@[simp] theorem Act_irqBlk_edges (d b : Nat) (s : State) : ((Act.irqBlk d b).run s).edges = s.edges := rfl
@[simp] theorem Act_irqBlk_sw (d b : Nat) (s : State) : ((Act.irqBlk d b).run s).sw = s.sw := rfl
@[simp] theorem Act_irqBlk_nets (d b : Nat) (s : State) : ((Act.irqBlk d b).run s).nets = s.nets := rfl
@[simp] theorem Act_irqBlk_gw (d b : Nat) (s : State) : ((Act.irqBlk d b).run s).gw = s.gw := rfl
@[simp] theorem Act_irqBlk_mon (d b : Nat) (s : State) : ((Act.irqBlk d b).run s).mon = s.mon := rfl
@[simp] theorem Act_irqBlk_sec (d b : Nat) (s : State) : ((Act.irqBlk d b).run s).sec = s.sec := rfl
@[simp] theorem Act_irqBlk_plx (d b : Nat) (s : State) : ((Act.irqBlk d b).run s).plx = s.plx := rfl
@[simp] theorem Act_irqBlk_io (d b : Nat) (s : State) : ((Act.irqBlk d b).run s).io = s.io := rfl
@[simp] theorem Act_irqBlk_cpu (d b : Nat) (s : State) : ((Act.irqBlk d b).run s).cpu = s.cpu := rfl
@[simp] theorem Act_irqBlk_out (d b : Nat) (s : State) : ((Act.irqBlk d b).run s).out = s.out := rfl
@[simp] theorem Act_irqBlk_freeCount (d b : Nat) (s : State) : ((Act.irqBlk d b).run s).freeCount = s.freeCount := rfl
@[simp] theorem Act_irqBlk_pending (d b : Nat) (s : State) : ((Act.irqBlk d b).run s).pending = s.pending := rfl

@[simp] theorem Act_setFld_fuse (a : Nat) (f : Fld) (n : Nat) (s : State) : ((Act.setFld a f n).run s).fuse = s.fuse := rfl
@[simp] theorem Act_setFld_regs (a : Nat) (f : Fld) (n : Nat) (s : State) : ((Act.setFld a f n).run s).regs = Sparse.put regReset a (fset (s.reg a) f n &&& regMask a) s.regs := rfl
@[simp] theorem Act_setFld_tbls (a : Nat) (f : Fld) (n : Nat) (s : State) : ((Act.setFld a f n).run s).tbls = s.tbls := rfl
@[simp] theorem Act_setFld_mem (a : Nat) (f : Fld) (n : Nat) (s : State) : ((Act.setFld a f n).run s).mem = s.mem := rfl
@[simp] theorem Act_setFld_flash (a : Nat) (f : Fld) (n : Nat) (s : State) : ((Act.setFld a f n).run s).flash = s.flash := rfl
@[simp] theorem Act_setFld_flashSize (a : Nat) (f : Fld) (n : Nat) (s : State) : ((Act.setFld a f n).run s).flashSize = s.flashSize := rfl
@[simp] theorem Act_setFld_evtNo (a : Nat) (f : Fld) (n : Nat) (s : State) : ((Act.setFld a f n).run s).evtNo = s.evtNo := rfl
@[simp] theorem Act_setFld_lockedRegs (a : Nat) (f : Fld) (n : Nat) (s : State) : ((Act.setFld a f n).run s).lockedRegs = s.lockedRegs := rfl
@[simp] theorem Act_setFld_onceRegs (a : Nat) (f : Fld) (n : Nat) (s : State) : ((Act.setFld a f n).run s).onceRegs = s.onceRegs := rfl
@[simp] theorem Act_setFld_upsets (a : Nat) (f : Fld) (n : Nat) (s : State) : ((Act.setFld a f n).run s).upsets = Sparse.put (fun _ => {}) a {} s.upsets := rfl
@[simp] theorem Act_setFld_mismatches (a : Nat) (f : Fld) (n : Nat) (s : State) : ((Act.setFld a f n).run s).mismatches = s.mismatches := rfl
@[simp] theorem Act_setFld_posted (a : Nat) (f : Fld) (n : Nat) (s : State) : ((Act.setFld a f n).run s).posted = s.posted := rfl
@[simp] theorem Act_setFld_compat (a : Nat) (f : Fld) (n : Nat) (s : State) : ((Act.setFld a f n).run s).compat = s.compat := rfl
@[simp] theorem Act_setFld_pends (a : Nat) (f : Fld) (n : Nat) (s : State) : ((Act.setFld a f n).run s).pends = s.pends := rfl
@[simp] theorem Act_setFld_eyeReset (a : Nat) (f : Fld) (n : Nat) (s : State) : ((Act.setFld a f n).run s).eyeReset = s.eyeReset := rfl
@[simp] theorem Act_setFld_irqs (a : Nat) (f : Fld) (n : Nat) (s : State) : ((Act.setFld a f n).run s).irqs = s.irqs := rfl
@[simp] theorem Act_setFld_seq (a : Nat) (f : Fld) (n : Nat) (s : State) : ((Act.setFld a f n).run s).seq = s.seq := rfl
@[simp] theorem Act_setFld_sup (a : Nat) (f : Fld) (n : Nat) (s : State) : ((Act.setFld a f n).run s).sup = s.sup := rfl
@[simp] theorem Act_setFld_prism (a : Nat) (f : Fld) (n : Nat) (s : State) : ((Act.setFld a f n).run s).prism = s.prism := rfl
@[simp] theorem Act_setFld_start (a : Nat) (f : Fld) (n : Nat) (s : State) : ((Act.setFld a f n).run s).start = s.start := rfl
@[simp] theorem Act_setFld_clk (a : Nat) (f : Fld) (n : Nat) (s : State) : ((Act.setFld a f n).run s).clk = s.clk := rfl
@[simp] theorem Act_setFld_ld (a : Nat) (f : Fld) (n : Nat) (s : State) : ((Act.setFld a f n).run s).ld = s.ld := rfl
@[simp] theorem Act_setFld_edges (a : Nat) (f : Fld) (n : Nat) (s : State) : ((Act.setFld a f n).run s).edges = s.edges := rfl
@[simp] theorem Act_setFld_sw (a : Nat) (f : Fld) (n : Nat) (s : State) : ((Act.setFld a f n).run s).sw = s.sw := rfl
@[simp] theorem Act_setFld_nets (a : Nat) (f : Fld) (n : Nat) (s : State) : ((Act.setFld a f n).run s).nets = s.nets := rfl
@[simp] theorem Act_setFld_gw (a : Nat) (f : Fld) (n : Nat) (s : State) : ((Act.setFld a f n).run s).gw = s.gw := rfl
@[simp] theorem Act_setFld_mon (a : Nat) (f : Fld) (n : Nat) (s : State) : ((Act.setFld a f n).run s).mon = s.mon := rfl
@[simp] theorem Act_setFld_sec (a : Nat) (f : Fld) (n : Nat) (s : State) : ((Act.setFld a f n).run s).sec = s.sec := rfl
@[simp] theorem Act_setFld_plx (a : Nat) (f : Fld) (n : Nat) (s : State) : ((Act.setFld a f n).run s).plx = s.plx := rfl
@[simp] theorem Act_setFld_io (a : Nat) (f : Fld) (n : Nat) (s : State) : ((Act.setFld a f n).run s).io = s.io := rfl
@[simp] theorem Act_setFld_cpu (a : Nat) (f : Fld) (n : Nat) (s : State) : ((Act.setFld a f n).run s).cpu = s.cpu := rfl
@[simp] theorem Act_setFld_out (a : Nat) (f : Fld) (n : Nat) (s : State) : ((Act.setFld a f n).run s).out = s.out := rfl
@[simp] theorem Act_setFld_freeCount (a : Nat) (f : Fld) (n : Nat) (s : State) : ((Act.setFld a f n).run s).freeCount = s.freeCount := rfl
@[simp] theorem Act_setFld_pending (a : Nat) (f : Fld) (n : Nat) (s : State) : ((Act.setFld a f n).run s).pending = s.pending := rfl

@[simp] theorem Act_setFlds_fuse (a : Nat) (l : List (Fld × Nat)) (s : State) : ((Act.setFlds a l).run s).fuse = s.fuse := rfl
@[simp] theorem Act_setFlds_regs (a : Nat) (l : List (Fld × Nat)) (s : State) : ((Act.setFlds a l).run s).regs = Sparse.put regReset a (l.foldl (fun v e => fset v e.1 e.2) (s.reg a) &&& regMask a) s.regs := rfl
@[simp] theorem Act_setFlds_tbls (a : Nat) (l : List (Fld × Nat)) (s : State) : ((Act.setFlds a l).run s).tbls = s.tbls := rfl
@[simp] theorem Act_setFlds_mem (a : Nat) (l : List (Fld × Nat)) (s : State) : ((Act.setFlds a l).run s).mem = s.mem := rfl
@[simp] theorem Act_setFlds_flash (a : Nat) (l : List (Fld × Nat)) (s : State) : ((Act.setFlds a l).run s).flash = s.flash := rfl
@[simp] theorem Act_setFlds_flashSize (a : Nat) (l : List (Fld × Nat)) (s : State) : ((Act.setFlds a l).run s).flashSize = s.flashSize := rfl
@[simp] theorem Act_setFlds_evtNo (a : Nat) (l : List (Fld × Nat)) (s : State) : ((Act.setFlds a l).run s).evtNo = s.evtNo := rfl
@[simp] theorem Act_setFlds_lockedRegs (a : Nat) (l : List (Fld × Nat)) (s : State) : ((Act.setFlds a l).run s).lockedRegs = s.lockedRegs := rfl
@[simp] theorem Act_setFlds_onceRegs (a : Nat) (l : List (Fld × Nat)) (s : State) : ((Act.setFlds a l).run s).onceRegs = s.onceRegs := rfl
@[simp] theorem Act_setFlds_upsets (a : Nat) (l : List (Fld × Nat)) (s : State) : ((Act.setFlds a l).run s).upsets = Sparse.put (fun _ => {}) a {} s.upsets := rfl
@[simp] theorem Act_setFlds_mismatches (a : Nat) (l : List (Fld × Nat)) (s : State) : ((Act.setFlds a l).run s).mismatches = s.mismatches := rfl
@[simp] theorem Act_setFlds_posted (a : Nat) (l : List (Fld × Nat)) (s : State) : ((Act.setFlds a l).run s).posted = s.posted := rfl
@[simp] theorem Act_setFlds_compat (a : Nat) (l : List (Fld × Nat)) (s : State) : ((Act.setFlds a l).run s).compat = s.compat := rfl
@[simp] theorem Act_setFlds_pends (a : Nat) (l : List (Fld × Nat)) (s : State) : ((Act.setFlds a l).run s).pends = s.pends := rfl
@[simp] theorem Act_setFlds_eyeReset (a : Nat) (l : List (Fld × Nat)) (s : State) : ((Act.setFlds a l).run s).eyeReset = s.eyeReset := rfl
@[simp] theorem Act_setFlds_irqs (a : Nat) (l : List (Fld × Nat)) (s : State) : ((Act.setFlds a l).run s).irqs = s.irqs := rfl
@[simp] theorem Act_setFlds_seq (a : Nat) (l : List (Fld × Nat)) (s : State) : ((Act.setFlds a l).run s).seq = s.seq := rfl
@[simp] theorem Act_setFlds_sup (a : Nat) (l : List (Fld × Nat)) (s : State) : ((Act.setFlds a l).run s).sup = s.sup := rfl
@[simp] theorem Act_setFlds_prism (a : Nat) (l : List (Fld × Nat)) (s : State) : ((Act.setFlds a l).run s).prism = s.prism := rfl
@[simp] theorem Act_setFlds_start (a : Nat) (l : List (Fld × Nat)) (s : State) : ((Act.setFlds a l).run s).start = s.start := rfl
@[simp] theorem Act_setFlds_clk (a : Nat) (l : List (Fld × Nat)) (s : State) : ((Act.setFlds a l).run s).clk = s.clk := rfl
@[simp] theorem Act_setFlds_ld (a : Nat) (l : List (Fld × Nat)) (s : State) : ((Act.setFlds a l).run s).ld = s.ld := rfl
@[simp] theorem Act_setFlds_edges (a : Nat) (l : List (Fld × Nat)) (s : State) : ((Act.setFlds a l).run s).edges = s.edges := rfl
@[simp] theorem Act_setFlds_sw (a : Nat) (l : List (Fld × Nat)) (s : State) : ((Act.setFlds a l).run s).sw = s.sw := rfl
@[simp] theorem Act_setFlds_nets (a : Nat) (l : List (Fld × Nat)) (s : State) : ((Act.setFlds a l).run s).nets = s.nets := rfl
@[simp] theorem Act_setFlds_gw (a : Nat) (l : List (Fld × Nat)) (s : State) : ((Act.setFlds a l).run s).gw = s.gw := rfl
@[simp] theorem Act_setFlds_mon (a : Nat) (l : List (Fld × Nat)) (s : State) : ((Act.setFlds a l).run s).mon = s.mon := rfl
@[simp] theorem Act_setFlds_sec (a : Nat) (l : List (Fld × Nat)) (s : State) : ((Act.setFlds a l).run s).sec = s.sec := rfl
@[simp] theorem Act_setFlds_plx (a : Nat) (l : List (Fld × Nat)) (s : State) : ((Act.setFlds a l).run s).plx = s.plx := rfl
@[simp] theorem Act_setFlds_io (a : Nat) (l : List (Fld × Nat)) (s : State) : ((Act.setFlds a l).run s).io = s.io := rfl
@[simp] theorem Act_setFlds_cpu (a : Nat) (l : List (Fld × Nat)) (s : State) : ((Act.setFlds a l).run s).cpu = s.cpu := rfl
@[simp] theorem Act_setFlds_out (a : Nat) (l : List (Fld × Nat)) (s : State) : ((Act.setFlds a l).run s).out = s.out := rfl
@[simp] theorem Act_setFlds_freeCount (a : Nat) (l : List (Fld × Nat)) (s : State) : ((Act.setFlds a l).run s).freeCount = s.freeCount := rfl
@[simp] theorem Act_setFlds_pending (a : Nat) (l : List (Fld × Nat)) (s : State) : ((Act.setFlds a l).run s).pending = s.pending := rfl

@[simp] theorem Act_setSup_fuse (d : Nat) (f : Supply → Supply) (s : State) : ((Act.setSup d f).run s).fuse = s.fuse := rfl
@[simp] theorem Act_setSup_regs (d : Nat) (f : Supply → Supply) (s : State) : ((Act.setSup d f).run s).regs = s.regs := rfl
@[simp] theorem Act_setSup_tbls (d : Nat) (f : Supply → Supply) (s : State) : ((Act.setSup d f).run s).tbls = s.tbls := rfl
@[simp] theorem Act_setSup_mem (d : Nat) (f : Supply → Supply) (s : State) : ((Act.setSup d f).run s).mem = s.mem := rfl
@[simp] theorem Act_setSup_flash (d : Nat) (f : Supply → Supply) (s : State) : ((Act.setSup d f).run s).flash = s.flash := rfl
@[simp] theorem Act_setSup_flashSize (d : Nat) (f : Supply → Supply) (s : State) : ((Act.setSup d f).run s).flashSize = s.flashSize := rfl
@[simp] theorem Act_setSup_evtNo (d : Nat) (f : Supply → Supply) (s : State) : ((Act.setSup d f).run s).evtNo = s.evtNo := rfl
@[simp] theorem Act_setSup_lockedRegs (d : Nat) (f : Supply → Supply) (s : State) : ((Act.setSup d f).run s).lockedRegs = s.lockedRegs := rfl
@[simp] theorem Act_setSup_onceRegs (d : Nat) (f : Supply → Supply) (s : State) : ((Act.setSup d f).run s).onceRegs = s.onceRegs := rfl
@[simp] theorem Act_setSup_upsets (d : Nat) (f : Supply → Supply) (s : State) : ((Act.setSup d f).run s).upsets = s.upsets := rfl
@[simp] theorem Act_setSup_mismatches (d : Nat) (f : Supply → Supply) (s : State) : ((Act.setSup d f).run s).mismatches = s.mismatches := rfl
@[simp] theorem Act_setSup_posted (d : Nat) (f : Supply → Supply) (s : State) : ((Act.setSup d f).run s).posted = s.posted := rfl
@[simp] theorem Act_setSup_compat (d : Nat) (f : Supply → Supply) (s : State) : ((Act.setSup d f).run s).compat = s.compat := rfl
@[simp] theorem Act_setSup_pends (d : Nat) (f : Supply → Supply) (s : State) : ((Act.setSup d f).run s).pends = s.pends := rfl
@[simp] theorem Act_setSup_eyeReset (d : Nat) (f : Supply → Supply) (s : State) : ((Act.setSup d f).run s).eyeReset = s.eyeReset := rfl
@[simp] theorem Act_setSup_irqs (d : Nat) (f : Supply → Supply) (s : State) : ((Act.setSup d f).run s).irqs = s.irqs := rfl
@[simp] theorem Act_setSup_seq (d : Nat) (f : Supply → Supply) (s : State) : ((Act.setSup d f).run s).seq = s.seq := rfl
@[simp] theorem Act_setSup_sup (d : Nat) (f : Supply → Supply) (s : State) : ((Act.setSup d f).run s).sup = Sparse.put (fun _ => {}) d (f (s.supply d)) s.sup := rfl
@[simp] theorem Act_setSup_prism (d : Nat) (f : Supply → Supply) (s : State) : ((Act.setSup d f).run s).prism = s.prism := rfl
@[simp] theorem Act_setSup_start (d : Nat) (f : Supply → Supply) (s : State) : ((Act.setSup d f).run s).start = s.start := rfl
@[simp] theorem Act_setSup_clk (d : Nat) (f : Supply → Supply) (s : State) : ((Act.setSup d f).run s).clk = s.clk := rfl
@[simp] theorem Act_setSup_ld (d : Nat) (f : Supply → Supply) (s : State) : ((Act.setSup d f).run s).ld = s.ld := rfl
@[simp] theorem Act_setSup_edges (d : Nat) (f : Supply → Supply) (s : State) : ((Act.setSup d f).run s).edges = s.edges := rfl
@[simp] theorem Act_setSup_sw (d : Nat) (f : Supply → Supply) (s : State) : ((Act.setSup d f).run s).sw = s.sw := rfl
@[simp] theorem Act_setSup_nets (d : Nat) (f : Supply → Supply) (s : State) : ((Act.setSup d f).run s).nets = s.nets := rfl
@[simp] theorem Act_setSup_gw (d : Nat) (f : Supply → Supply) (s : State) : ((Act.setSup d f).run s).gw = s.gw := rfl
@[simp] theorem Act_setSup_mon (d : Nat) (f : Supply → Supply) (s : State) : ((Act.setSup d f).run s).mon = s.mon := rfl
@[simp] theorem Act_setSup_sec (d : Nat) (f : Supply → Supply) (s : State) : ((Act.setSup d f).run s).sec = s.sec := rfl
@[simp] theorem Act_setSup_plx (d : Nat) (f : Supply → Supply) (s : State) : ((Act.setSup d f).run s).plx = s.plx := rfl
@[simp] theorem Act_setSup_io (d : Nat) (f : Supply → Supply) (s : State) : ((Act.setSup d f).run s).io = s.io := rfl
@[simp] theorem Act_setSup_cpu (d : Nat) (f : Supply → Supply) (s : State) : ((Act.setSup d f).run s).cpu = s.cpu := rfl
@[simp] theorem Act_setSup_out (d : Nat) (f : Supply → Supply) (s : State) : ((Act.setSup d f).run s).out = s.out := rfl
@[simp] theorem Act_setSup_freeCount (d : Nat) (f : Supply → Supply) (s : State) : ((Act.setSup d f).run s).freeCount = s.freeCount := rfl
@[simp] theorem Act_setSup_pending (d : Nat) (f : Supply → Supply) (s : State) : ((Act.setSup d f).run s).pending = s.pending := rfl

@[simp] theorem Act_setPsup_fuse (d : Nat) (f : PrismSupply → PrismSupply) (s : State) : ((Act.setPsup d f).run s).fuse = s.fuse := rfl
@[simp] theorem Act_setPsup_regs (d : Nat) (f : PrismSupply → PrismSupply) (s : State) : ((Act.setPsup d f).run s).regs = s.regs := rfl
@[simp] theorem Act_setPsup_tbls (d : Nat) (f : PrismSupply → PrismSupply) (s : State) : ((Act.setPsup d f).run s).tbls = s.tbls := rfl
@[simp] theorem Act_setPsup_mem (d : Nat) (f : PrismSupply → PrismSupply) (s : State) : ((Act.setPsup d f).run s).mem = s.mem := rfl
@[simp] theorem Act_setPsup_flash (d : Nat) (f : PrismSupply → PrismSupply) (s : State) : ((Act.setPsup d f).run s).flash = s.flash := rfl
@[simp] theorem Act_setPsup_flashSize (d : Nat) (f : PrismSupply → PrismSupply) (s : State) : ((Act.setPsup d f).run s).flashSize = s.flashSize := rfl
@[simp] theorem Act_setPsup_evtNo (d : Nat) (f : PrismSupply → PrismSupply) (s : State) : ((Act.setPsup d f).run s).evtNo = s.evtNo := rfl
@[simp] theorem Act_setPsup_lockedRegs (d : Nat) (f : PrismSupply → PrismSupply) (s : State) : ((Act.setPsup d f).run s).lockedRegs = s.lockedRegs := rfl
@[simp] theorem Act_setPsup_onceRegs (d : Nat) (f : PrismSupply → PrismSupply) (s : State) : ((Act.setPsup d f).run s).onceRegs = s.onceRegs := rfl
@[simp] theorem Act_setPsup_upsets (d : Nat) (f : PrismSupply → PrismSupply) (s : State) : ((Act.setPsup d f).run s).upsets = s.upsets := rfl
@[simp] theorem Act_setPsup_mismatches (d : Nat) (f : PrismSupply → PrismSupply) (s : State) : ((Act.setPsup d f).run s).mismatches = s.mismatches := rfl
@[simp] theorem Act_setPsup_posted (d : Nat) (f : PrismSupply → PrismSupply) (s : State) : ((Act.setPsup d f).run s).posted = s.posted := rfl
@[simp] theorem Act_setPsup_compat (d : Nat) (f : PrismSupply → PrismSupply) (s : State) : ((Act.setPsup d f).run s).compat = s.compat := rfl
@[simp] theorem Act_setPsup_pends (d : Nat) (f : PrismSupply → PrismSupply) (s : State) : ((Act.setPsup d f).run s).pends = s.pends := rfl
@[simp] theorem Act_setPsup_eyeReset (d : Nat) (f : PrismSupply → PrismSupply) (s : State) : ((Act.setPsup d f).run s).eyeReset = s.eyeReset := rfl
@[simp] theorem Act_setPsup_irqs (d : Nat) (f : PrismSupply → PrismSupply) (s : State) : ((Act.setPsup d f).run s).irqs = s.irqs := rfl
@[simp] theorem Act_setPsup_seq (d : Nat) (f : PrismSupply → PrismSupply) (s : State) : ((Act.setPsup d f).run s).seq = s.seq := rfl
@[simp] theorem Act_setPsup_sup (d : Nat) (f : PrismSupply → PrismSupply) (s : State) : ((Act.setPsup d f).run s).sup = s.sup := rfl
@[simp] theorem Act_setPsup_prism (d : Nat) (f : PrismSupply → PrismSupply) (s : State) : ((Act.setPsup d f).run s).prism = Sparse.put (fun _ => {}) d (f (s.psup d)) s.prism := rfl
@[simp] theorem Act_setPsup_start (d : Nat) (f : PrismSupply → PrismSupply) (s : State) : ((Act.setPsup d f).run s).start = s.start := rfl
@[simp] theorem Act_setPsup_clk (d : Nat) (f : PrismSupply → PrismSupply) (s : State) : ((Act.setPsup d f).run s).clk = s.clk := rfl
@[simp] theorem Act_setPsup_ld (d : Nat) (f : PrismSupply → PrismSupply) (s : State) : ((Act.setPsup d f).run s).ld = s.ld := rfl
@[simp] theorem Act_setPsup_edges (d : Nat) (f : PrismSupply → PrismSupply) (s : State) : ((Act.setPsup d f).run s).edges = s.edges := rfl
@[simp] theorem Act_setPsup_sw (d : Nat) (f : PrismSupply → PrismSupply) (s : State) : ((Act.setPsup d f).run s).sw = s.sw := rfl
@[simp] theorem Act_setPsup_nets (d : Nat) (f : PrismSupply → PrismSupply) (s : State) : ((Act.setPsup d f).run s).nets = s.nets := rfl
@[simp] theorem Act_setPsup_gw (d : Nat) (f : PrismSupply → PrismSupply) (s : State) : ((Act.setPsup d f).run s).gw = s.gw := rfl
@[simp] theorem Act_setPsup_mon (d : Nat) (f : PrismSupply → PrismSupply) (s : State) : ((Act.setPsup d f).run s).mon = s.mon := rfl
@[simp] theorem Act_setPsup_sec (d : Nat) (f : PrismSupply → PrismSupply) (s : State) : ((Act.setPsup d f).run s).sec = s.sec := rfl
@[simp] theorem Act_setPsup_plx (d : Nat) (f : PrismSupply → PrismSupply) (s : State) : ((Act.setPsup d f).run s).plx = s.plx := rfl
@[simp] theorem Act_setPsup_io (d : Nat) (f : PrismSupply → PrismSupply) (s : State) : ((Act.setPsup d f).run s).io = s.io := rfl
@[simp] theorem Act_setPsup_cpu (d : Nat) (f : PrismSupply → PrismSupply) (s : State) : ((Act.setPsup d f).run s).cpu = s.cpu := rfl
@[simp] theorem Act_setPsup_out (d : Nat) (f : PrismSupply → PrismSupply) (s : State) : ((Act.setPsup d f).run s).out = s.out := rfl
@[simp] theorem Act_setPsup_freeCount (d : Nat) (f : PrismSupply → PrismSupply) (s : State) : ((Act.setPsup d f).run s).freeCount = s.freeCount := rfl
@[simp] theorem Act_setPsup_pending (d : Nat) (f : PrismSupply → PrismSupply) (s : State) : ((Act.setPsup d f).run s).pending = s.pending := rfl

@[simp] theorem Act_setStart_fuse (f : Start → Start) (s : State) : ((Act.setStart f).run s).fuse = s.fuse := rfl
@[simp] theorem Act_setStart_regs (f : Start → Start) (s : State) : ((Act.setStart f).run s).regs = s.regs := rfl
@[simp] theorem Act_setStart_tbls (f : Start → Start) (s : State) : ((Act.setStart f).run s).tbls = s.tbls := rfl
@[simp] theorem Act_setStart_mem (f : Start → Start) (s : State) : ((Act.setStart f).run s).mem = s.mem := rfl
@[simp] theorem Act_setStart_flash (f : Start → Start) (s : State) : ((Act.setStart f).run s).flash = s.flash := rfl
@[simp] theorem Act_setStart_flashSize (f : Start → Start) (s : State) : ((Act.setStart f).run s).flashSize = s.flashSize := rfl
@[simp] theorem Act_setStart_evtNo (f : Start → Start) (s : State) : ((Act.setStart f).run s).evtNo = s.evtNo := rfl
@[simp] theorem Act_setStart_lockedRegs (f : Start → Start) (s : State) : ((Act.setStart f).run s).lockedRegs = s.lockedRegs := rfl
@[simp] theorem Act_setStart_onceRegs (f : Start → Start) (s : State) : ((Act.setStart f).run s).onceRegs = s.onceRegs := rfl
@[simp] theorem Act_setStart_upsets (f : Start → Start) (s : State) : ((Act.setStart f).run s).upsets = s.upsets := rfl
@[simp] theorem Act_setStart_mismatches (f : Start → Start) (s : State) : ((Act.setStart f).run s).mismatches = s.mismatches := rfl
@[simp] theorem Act_setStart_posted (f : Start → Start) (s : State) : ((Act.setStart f).run s).posted = s.posted := rfl
@[simp] theorem Act_setStart_compat (f : Start → Start) (s : State) : ((Act.setStart f).run s).compat = s.compat := rfl
@[simp] theorem Act_setStart_pends (f : Start → Start) (s : State) : ((Act.setStart f).run s).pends = s.pends := rfl
@[simp] theorem Act_setStart_eyeReset (f : Start → Start) (s : State) : ((Act.setStart f).run s).eyeReset = s.eyeReset := rfl
@[simp] theorem Act_setStart_irqs (f : Start → Start) (s : State) : ((Act.setStart f).run s).irqs = s.irqs := rfl
@[simp] theorem Act_setStart_seq (f : Start → Start) (s : State) : ((Act.setStart f).run s).seq = s.seq := rfl
@[simp] theorem Act_setStart_sup (f : Start → Start) (s : State) : ((Act.setStart f).run s).sup = s.sup := rfl
@[simp] theorem Act_setStart_prism (f : Start → Start) (s : State) : ((Act.setStart f).run s).prism = s.prism := rfl
@[simp] theorem Act_setStart_start (f : Start → Start) (s : State) : ((Act.setStart f).run s).start = f s.start := rfl
@[simp] theorem Act_setStart_clk (f : Start → Start) (s : State) : ((Act.setStart f).run s).clk = s.clk := rfl
@[simp] theorem Act_setStart_ld (f : Start → Start) (s : State) : ((Act.setStart f).run s).ld = s.ld := rfl
@[simp] theorem Act_setStart_edges (f : Start → Start) (s : State) : ((Act.setStart f).run s).edges = s.edges := rfl
@[simp] theorem Act_setStart_sw (f : Start → Start) (s : State) : ((Act.setStart f).run s).sw = s.sw := rfl
@[simp] theorem Act_setStart_nets (f : Start → Start) (s : State) : ((Act.setStart f).run s).nets = s.nets := rfl
@[simp] theorem Act_setStart_gw (f : Start → Start) (s : State) : ((Act.setStart f).run s).gw = s.gw := rfl
@[simp] theorem Act_setStart_mon (f : Start → Start) (s : State) : ((Act.setStart f).run s).mon = s.mon := rfl
@[simp] theorem Act_setStart_sec (f : Start → Start) (s : State) : ((Act.setStart f).run s).sec = s.sec := rfl
@[simp] theorem Act_setStart_plx (f : Start → Start) (s : State) : ((Act.setStart f).run s).plx = s.plx := rfl
@[simp] theorem Act_setStart_io (f : Start → Start) (s : State) : ((Act.setStart f).run s).io = s.io := rfl
@[simp] theorem Act_setStart_cpu (f : Start → Start) (s : State) : ((Act.setStart f).run s).cpu = s.cpu := rfl
@[simp] theorem Act_setStart_out (f : Start → Start) (s : State) : ((Act.setStart f).run s).out = s.out := rfl
@[simp] theorem Act_setStart_freeCount (f : Start → Start) (s : State) : ((Act.setStart f).run s).freeCount = s.freeCount := rfl
@[simp] theorem Act_setStart_pending (f : Start → Start) (s : State) : ((Act.setStart f).run s).pending = s.pending := rfl

@[simp] theorem Act_setSeq_fuse (f : Sequencer → Sequencer) (s : State) : ((Act.setSeq f).run s).fuse = s.fuse := rfl
@[simp] theorem Act_setSeq_regs (f : Sequencer → Sequencer) (s : State) : ((Act.setSeq f).run s).regs = s.regs := rfl
@[simp] theorem Act_setSeq_tbls (f : Sequencer → Sequencer) (s : State) : ((Act.setSeq f).run s).tbls = s.tbls := rfl
@[simp] theorem Act_setSeq_mem (f : Sequencer → Sequencer) (s : State) : ((Act.setSeq f).run s).mem = s.mem := rfl
@[simp] theorem Act_setSeq_flash (f : Sequencer → Sequencer) (s : State) : ((Act.setSeq f).run s).flash = s.flash := rfl
@[simp] theorem Act_setSeq_flashSize (f : Sequencer → Sequencer) (s : State) : ((Act.setSeq f).run s).flashSize = s.flashSize := rfl
@[simp] theorem Act_setSeq_evtNo (f : Sequencer → Sequencer) (s : State) : ((Act.setSeq f).run s).evtNo = s.evtNo := rfl
@[simp] theorem Act_setSeq_lockedRegs (f : Sequencer → Sequencer) (s : State) : ((Act.setSeq f).run s).lockedRegs = s.lockedRegs := rfl
@[simp] theorem Act_setSeq_onceRegs (f : Sequencer → Sequencer) (s : State) : ((Act.setSeq f).run s).onceRegs = s.onceRegs := rfl
@[simp] theorem Act_setSeq_upsets (f : Sequencer → Sequencer) (s : State) : ((Act.setSeq f).run s).upsets = s.upsets := rfl
@[simp] theorem Act_setSeq_mismatches (f : Sequencer → Sequencer) (s : State) : ((Act.setSeq f).run s).mismatches = s.mismatches := rfl
@[simp] theorem Act_setSeq_posted (f : Sequencer → Sequencer) (s : State) : ((Act.setSeq f).run s).posted = s.posted := rfl
@[simp] theorem Act_setSeq_compat (f : Sequencer → Sequencer) (s : State) : ((Act.setSeq f).run s).compat = s.compat := rfl
@[simp] theorem Act_setSeq_pends (f : Sequencer → Sequencer) (s : State) : ((Act.setSeq f).run s).pends = s.pends := rfl
@[simp] theorem Act_setSeq_eyeReset (f : Sequencer → Sequencer) (s : State) : ((Act.setSeq f).run s).eyeReset = s.eyeReset := rfl
@[simp] theorem Act_setSeq_irqs (f : Sequencer → Sequencer) (s : State) : ((Act.setSeq f).run s).irqs = s.irqs := rfl
@[simp] theorem Act_setSeq_seq (f : Sequencer → Sequencer) (s : State) : ((Act.setSeq f).run s).seq = f s.seq := rfl
@[simp] theorem Act_setSeq_sup (f : Sequencer → Sequencer) (s : State) : ((Act.setSeq f).run s).sup = s.sup := rfl
@[simp] theorem Act_setSeq_prism (f : Sequencer → Sequencer) (s : State) : ((Act.setSeq f).run s).prism = s.prism := rfl
@[simp] theorem Act_setSeq_start (f : Sequencer → Sequencer) (s : State) : ((Act.setSeq f).run s).start = s.start := rfl
@[simp] theorem Act_setSeq_clk (f : Sequencer → Sequencer) (s : State) : ((Act.setSeq f).run s).clk = s.clk := rfl
@[simp] theorem Act_setSeq_ld (f : Sequencer → Sequencer) (s : State) : ((Act.setSeq f).run s).ld = s.ld := rfl
@[simp] theorem Act_setSeq_edges (f : Sequencer → Sequencer) (s : State) : ((Act.setSeq f).run s).edges = s.edges := rfl
@[simp] theorem Act_setSeq_sw (f : Sequencer → Sequencer) (s : State) : ((Act.setSeq f).run s).sw = s.sw := rfl
@[simp] theorem Act_setSeq_nets (f : Sequencer → Sequencer) (s : State) : ((Act.setSeq f).run s).nets = s.nets := rfl
@[simp] theorem Act_setSeq_gw (f : Sequencer → Sequencer) (s : State) : ((Act.setSeq f).run s).gw = s.gw := rfl
@[simp] theorem Act_setSeq_mon (f : Sequencer → Sequencer) (s : State) : ((Act.setSeq f).run s).mon = s.mon := rfl
@[simp] theorem Act_setSeq_sec (f : Sequencer → Sequencer) (s : State) : ((Act.setSeq f).run s).sec = s.sec := rfl
@[simp] theorem Act_setSeq_plx (f : Sequencer → Sequencer) (s : State) : ((Act.setSeq f).run s).plx = s.plx := rfl
@[simp] theorem Act_setSeq_io (f : Sequencer → Sequencer) (s : State) : ((Act.setSeq f).run s).io = s.io := rfl
@[simp] theorem Act_setSeq_cpu (f : Sequencer → Sequencer) (s : State) : ((Act.setSeq f).run s).cpu = s.cpu := rfl
@[simp] theorem Act_setSeq_out (f : Sequencer → Sequencer) (s : State) : ((Act.setSeq f).run s).out = s.out := rfl
@[simp] theorem Act_setSeq_freeCount (f : Sequencer → Sequencer) (s : State) : ((Act.setSeq f).run s).freeCount = s.freeCount := rfl
@[simp] theorem Act_setSeq_pending (f : Sequencer → Sequencer) (s : State) : ((Act.setSeq f).run s).pending = s.pending := rfl

@[simp] theorem Act_setTbl_fuse (k : Nat) (v : Word) (s : State) : ((Act.setTbl k v).run s).fuse = s.fuse := rfl
@[simp] theorem Act_setTbl_regs (k : Nat) (v : Word) (s : State) : ((Act.setTbl k v).run s).regs = s.regs := rfl
@[simp] theorem Act_setTbl_tbls (k : Nat) (v : Word) (s : State) : ((Act.setTbl k v).run s).tbls = Sparse.put tblBlank k v s.tbls := rfl
@[simp] theorem Act_setTbl_mem (k : Nat) (v : Word) (s : State) : ((Act.setTbl k v).run s).mem = s.mem := rfl
@[simp] theorem Act_setTbl_flash (k : Nat) (v : Word) (s : State) : ((Act.setTbl k v).run s).flash = s.flash := rfl
@[simp] theorem Act_setTbl_flashSize (k : Nat) (v : Word) (s : State) : ((Act.setTbl k v).run s).flashSize = s.flashSize := rfl
@[simp] theorem Act_setTbl_evtNo (k : Nat) (v : Word) (s : State) : ((Act.setTbl k v).run s).evtNo = s.evtNo := rfl
@[simp] theorem Act_setTbl_lockedRegs (k : Nat) (v : Word) (s : State) : ((Act.setTbl k v).run s).lockedRegs = s.lockedRegs := rfl
@[simp] theorem Act_setTbl_onceRegs (k : Nat) (v : Word) (s : State) : ((Act.setTbl k v).run s).onceRegs = s.onceRegs := rfl
@[simp] theorem Act_setTbl_upsets (k : Nat) (v : Word) (s : State) : ((Act.setTbl k v).run s).upsets = s.upsets := rfl
@[simp] theorem Act_setTbl_mismatches (k : Nat) (v : Word) (s : State) : ((Act.setTbl k v).run s).mismatches = s.mismatches := rfl
@[simp] theorem Act_setTbl_posted (k : Nat) (v : Word) (s : State) : ((Act.setTbl k v).run s).posted = s.posted := rfl
@[simp] theorem Act_setTbl_compat (k : Nat) (v : Word) (s : State) : ((Act.setTbl k v).run s).compat = s.compat := rfl
@[simp] theorem Act_setTbl_pends (k : Nat) (v : Word) (s : State) : ((Act.setTbl k v).run s).pends = s.pends := rfl
@[simp] theorem Act_setTbl_eyeReset (k : Nat) (v : Word) (s : State) : ((Act.setTbl k v).run s).eyeReset = s.eyeReset := rfl
@[simp] theorem Act_setTbl_irqs (k : Nat) (v : Word) (s : State) : ((Act.setTbl k v).run s).irqs = s.irqs := rfl
@[simp] theorem Act_setTbl_seq (k : Nat) (v : Word) (s : State) : ((Act.setTbl k v).run s).seq = s.seq := rfl
@[simp] theorem Act_setTbl_sup (k : Nat) (v : Word) (s : State) : ((Act.setTbl k v).run s).sup = s.sup := rfl
@[simp] theorem Act_setTbl_prism (k : Nat) (v : Word) (s : State) : ((Act.setTbl k v).run s).prism = s.prism := rfl
@[simp] theorem Act_setTbl_start (k : Nat) (v : Word) (s : State) : ((Act.setTbl k v).run s).start = s.start := rfl
@[simp] theorem Act_setTbl_clk (k : Nat) (v : Word) (s : State) : ((Act.setTbl k v).run s).clk = s.clk := rfl
@[simp] theorem Act_setTbl_ld (k : Nat) (v : Word) (s : State) : ((Act.setTbl k v).run s).ld = s.ld := rfl
@[simp] theorem Act_setTbl_edges (k : Nat) (v : Word) (s : State) : ((Act.setTbl k v).run s).edges = s.edges := rfl
@[simp] theorem Act_setTbl_sw (k : Nat) (v : Word) (s : State) : ((Act.setTbl k v).run s).sw = s.sw := rfl
@[simp] theorem Act_setTbl_nets (k : Nat) (v : Word) (s : State) : ((Act.setTbl k v).run s).nets = s.nets := rfl
@[simp] theorem Act_setTbl_gw (k : Nat) (v : Word) (s : State) : ((Act.setTbl k v).run s).gw = s.gw := rfl
@[simp] theorem Act_setTbl_mon (k : Nat) (v : Word) (s : State) : ((Act.setTbl k v).run s).mon = s.mon := rfl
@[simp] theorem Act_setTbl_sec (k : Nat) (v : Word) (s : State) : ((Act.setTbl k v).run s).sec = s.sec := rfl
@[simp] theorem Act_setTbl_plx (k : Nat) (v : Word) (s : State) : ((Act.setTbl k v).run s).plx = s.plx := rfl
@[simp] theorem Act_setTbl_io (k : Nat) (v : Word) (s : State) : ((Act.setTbl k v).run s).io = s.io := rfl
@[simp] theorem Act_setTbl_cpu (k : Nat) (v : Word) (s : State) : ((Act.setTbl k v).run s).cpu = s.cpu := rfl
@[simp] theorem Act_setTbl_out (k : Nat) (v : Word) (s : State) : ((Act.setTbl k v).run s).out = s.out := rfl
@[simp] theorem Act_setTbl_freeCount (k : Nat) (v : Word) (s : State) : ((Act.setTbl k v).run s).freeCount = s.freeCount := rfl
@[simp] theorem Act_setTbl_pending (k : Nat) (v : Word) (s : State) : ((Act.setTbl k v).run s).pending = s.pending := rfl

@[simp] theorem Act_setMem_fuse (k : Nat) (v : Byte) (s : State) : ((Act.setMem k v).run s).fuse = s.fuse := rfl
@[simp] theorem Act_setMem_regs (k : Nat) (v : Byte) (s : State) : ((Act.setMem k v).run s).regs = s.regs := rfl
@[simp] theorem Act_setMem_tbls (k : Nat) (v : Byte) (s : State) : ((Act.setMem k v).run s).tbls = s.tbls := rfl
@[simp] theorem Act_setMem_mem (k : Nat) (v : Byte) (s : State) : ((Act.setMem k v).run s).mem = Sparse.put memBlank k v s.mem := rfl
@[simp] theorem Act_setMem_flash (k : Nat) (v : Byte) (s : State) : ((Act.setMem k v).run s).flash = s.flash := rfl
@[simp] theorem Act_setMem_flashSize (k : Nat) (v : Byte) (s : State) : ((Act.setMem k v).run s).flashSize = s.flashSize := rfl
@[simp] theorem Act_setMem_evtNo (k : Nat) (v : Byte) (s : State) : ((Act.setMem k v).run s).evtNo = s.evtNo := rfl
@[simp] theorem Act_setMem_lockedRegs (k : Nat) (v : Byte) (s : State) : ((Act.setMem k v).run s).lockedRegs = s.lockedRegs := rfl
@[simp] theorem Act_setMem_onceRegs (k : Nat) (v : Byte) (s : State) : ((Act.setMem k v).run s).onceRegs = s.onceRegs := rfl
@[simp] theorem Act_setMem_upsets (k : Nat) (v : Byte) (s : State) : ((Act.setMem k v).run s).upsets = s.upsets := rfl
@[simp] theorem Act_setMem_mismatches (k : Nat) (v : Byte) (s : State) : ((Act.setMem k v).run s).mismatches = s.mismatches := rfl
@[simp] theorem Act_setMem_posted (k : Nat) (v : Byte) (s : State) : ((Act.setMem k v).run s).posted = s.posted := rfl
@[simp] theorem Act_setMem_compat (k : Nat) (v : Byte) (s : State) : ((Act.setMem k v).run s).compat = s.compat := rfl
@[simp] theorem Act_setMem_pends (k : Nat) (v : Byte) (s : State) : ((Act.setMem k v).run s).pends = s.pends := rfl
@[simp] theorem Act_setMem_eyeReset (k : Nat) (v : Byte) (s : State) : ((Act.setMem k v).run s).eyeReset = s.eyeReset := rfl
@[simp] theorem Act_setMem_irqs (k : Nat) (v : Byte) (s : State) : ((Act.setMem k v).run s).irqs = s.irqs := rfl
@[simp] theorem Act_setMem_seq (k : Nat) (v : Byte) (s : State) : ((Act.setMem k v).run s).seq = s.seq := rfl
@[simp] theorem Act_setMem_sup (k : Nat) (v : Byte) (s : State) : ((Act.setMem k v).run s).sup = s.sup := rfl
@[simp] theorem Act_setMem_prism (k : Nat) (v : Byte) (s : State) : ((Act.setMem k v).run s).prism = s.prism := rfl
@[simp] theorem Act_setMem_start (k : Nat) (v : Byte) (s : State) : ((Act.setMem k v).run s).start = s.start := rfl
@[simp] theorem Act_setMem_clk (k : Nat) (v : Byte) (s : State) : ((Act.setMem k v).run s).clk = s.clk := rfl
@[simp] theorem Act_setMem_ld (k : Nat) (v : Byte) (s : State) : ((Act.setMem k v).run s).ld = s.ld := rfl
@[simp] theorem Act_setMem_edges (k : Nat) (v : Byte) (s : State) : ((Act.setMem k v).run s).edges = s.edges := rfl
@[simp] theorem Act_setMem_sw (k : Nat) (v : Byte) (s : State) : ((Act.setMem k v).run s).sw = s.sw := rfl
@[simp] theorem Act_setMem_nets (k : Nat) (v : Byte) (s : State) : ((Act.setMem k v).run s).nets = s.nets := rfl
@[simp] theorem Act_setMem_gw (k : Nat) (v : Byte) (s : State) : ((Act.setMem k v).run s).gw = s.gw := rfl
@[simp] theorem Act_setMem_mon (k : Nat) (v : Byte) (s : State) : ((Act.setMem k v).run s).mon = s.mon := rfl
@[simp] theorem Act_setMem_sec (k : Nat) (v : Byte) (s : State) : ((Act.setMem k v).run s).sec = s.sec := rfl
@[simp] theorem Act_setMem_plx (k : Nat) (v : Byte) (s : State) : ((Act.setMem k v).run s).plx = s.plx := rfl
@[simp] theorem Act_setMem_io (k : Nat) (v : Byte) (s : State) : ((Act.setMem k v).run s).io = s.io := rfl
@[simp] theorem Act_setMem_cpu (k : Nat) (v : Byte) (s : State) : ((Act.setMem k v).run s).cpu = s.cpu := rfl
@[simp] theorem Act_setMem_out (k : Nat) (v : Byte) (s : State) : ((Act.setMem k v).run s).out = s.out := rfl
@[simp] theorem Act_setMem_freeCount (k : Nat) (v : Byte) (s : State) : ((Act.setMem k v).run s).freeCount = s.freeCount := rfl
@[simp] theorem Act_setMem_pending (k : Nat) (v : Byte) (s : State) : ((Act.setMem k v).run s).pending = s.pending := rfl

@[simp] theorem Act_setFlash_fuse (k : Nat) (v : Byte) (s : State) : ((Act.setFlash k v).run s).fuse = s.fuse := rfl
@[simp] theorem Act_setFlash_regs (k : Nat) (v : Byte) (s : State) : ((Act.setFlash k v).run s).regs = s.regs := rfl
@[simp] theorem Act_setFlash_tbls (k : Nat) (v : Byte) (s : State) : ((Act.setFlash k v).run s).tbls = s.tbls := rfl
@[simp] theorem Act_setFlash_mem (k : Nat) (v : Byte) (s : State) : ((Act.setFlash k v).run s).mem = s.mem := rfl
@[simp] theorem Act_setFlash_flash (k : Nat) (v : Byte) (s : State) : ((Act.setFlash k v).run s).flash = Sparse.put flashBlank k v s.flash := rfl
@[simp] theorem Act_setFlash_flashSize (k : Nat) (v : Byte) (s : State) : ((Act.setFlash k v).run s).flashSize = s.flashSize := rfl
@[simp] theorem Act_setFlash_evtNo (k : Nat) (v : Byte) (s : State) : ((Act.setFlash k v).run s).evtNo = s.evtNo := rfl
@[simp] theorem Act_setFlash_lockedRegs (k : Nat) (v : Byte) (s : State) : ((Act.setFlash k v).run s).lockedRegs = s.lockedRegs := rfl
@[simp] theorem Act_setFlash_onceRegs (k : Nat) (v : Byte) (s : State) : ((Act.setFlash k v).run s).onceRegs = s.onceRegs := rfl
@[simp] theorem Act_setFlash_upsets (k : Nat) (v : Byte) (s : State) : ((Act.setFlash k v).run s).upsets = s.upsets := rfl
@[simp] theorem Act_setFlash_mismatches (k : Nat) (v : Byte) (s : State) : ((Act.setFlash k v).run s).mismatches = s.mismatches := rfl
@[simp] theorem Act_setFlash_posted (k : Nat) (v : Byte) (s : State) : ((Act.setFlash k v).run s).posted = s.posted := rfl
@[simp] theorem Act_setFlash_compat (k : Nat) (v : Byte) (s : State) : ((Act.setFlash k v).run s).compat = s.compat := rfl
@[simp] theorem Act_setFlash_pends (k : Nat) (v : Byte) (s : State) : ((Act.setFlash k v).run s).pends = s.pends := rfl
@[simp] theorem Act_setFlash_eyeReset (k : Nat) (v : Byte) (s : State) : ((Act.setFlash k v).run s).eyeReset = s.eyeReset := rfl
@[simp] theorem Act_setFlash_irqs (k : Nat) (v : Byte) (s : State) : ((Act.setFlash k v).run s).irqs = s.irqs := rfl
@[simp] theorem Act_setFlash_seq (k : Nat) (v : Byte) (s : State) : ((Act.setFlash k v).run s).seq = s.seq := rfl
@[simp] theorem Act_setFlash_sup (k : Nat) (v : Byte) (s : State) : ((Act.setFlash k v).run s).sup = s.sup := rfl
@[simp] theorem Act_setFlash_prism (k : Nat) (v : Byte) (s : State) : ((Act.setFlash k v).run s).prism = s.prism := rfl
@[simp] theorem Act_setFlash_start (k : Nat) (v : Byte) (s : State) : ((Act.setFlash k v).run s).start = s.start := rfl
@[simp] theorem Act_setFlash_clk (k : Nat) (v : Byte) (s : State) : ((Act.setFlash k v).run s).clk = s.clk := rfl
@[simp] theorem Act_setFlash_ld (k : Nat) (v : Byte) (s : State) : ((Act.setFlash k v).run s).ld = s.ld := rfl
@[simp] theorem Act_setFlash_edges (k : Nat) (v : Byte) (s : State) : ((Act.setFlash k v).run s).edges = s.edges := rfl
@[simp] theorem Act_setFlash_sw (k : Nat) (v : Byte) (s : State) : ((Act.setFlash k v).run s).sw = s.sw := rfl
@[simp] theorem Act_setFlash_nets (k : Nat) (v : Byte) (s : State) : ((Act.setFlash k v).run s).nets = s.nets := rfl
@[simp] theorem Act_setFlash_gw (k : Nat) (v : Byte) (s : State) : ((Act.setFlash k v).run s).gw = s.gw := rfl
@[simp] theorem Act_setFlash_mon (k : Nat) (v : Byte) (s : State) : ((Act.setFlash k v).run s).mon = s.mon := rfl
@[simp] theorem Act_setFlash_sec (k : Nat) (v : Byte) (s : State) : ((Act.setFlash k v).run s).sec = s.sec := rfl
@[simp] theorem Act_setFlash_plx (k : Nat) (v : Byte) (s : State) : ((Act.setFlash k v).run s).plx = s.plx := rfl
@[simp] theorem Act_setFlash_io (k : Nat) (v : Byte) (s : State) : ((Act.setFlash k v).run s).io = s.io := rfl
@[simp] theorem Act_setFlash_cpu (k : Nat) (v : Byte) (s : State) : ((Act.setFlash k v).run s).cpu = s.cpu := rfl
@[simp] theorem Act_setFlash_out (k : Nat) (v : Byte) (s : State) : ((Act.setFlash k v).run s).out = s.out := rfl
@[simp] theorem Act_setFlash_freeCount (k : Nat) (v : Byte) (s : State) : ((Act.setFlash k v).run s).freeCount = s.freeCount := rfl
@[simp] theorem Act_setFlash_pending (k : Nat) (v : Byte) (s : State) : ((Act.setFlash k v).run s).pending = s.pending := rfl

@[simp] theorem Act_emit_fuse (o : Out) (s : State) : ((Act.emit o).run s).fuse = s.fuse := rfl
@[simp] theorem Act_emit_regs (o : Out) (s : State) : ((Act.emit o).run s).regs = s.regs := rfl
@[simp] theorem Act_emit_tbls (o : Out) (s : State) : ((Act.emit o).run s).tbls = s.tbls := rfl
@[simp] theorem Act_emit_mem (o : Out) (s : State) : ((Act.emit o).run s).mem = s.mem := rfl
@[simp] theorem Act_emit_flash (o : Out) (s : State) : ((Act.emit o).run s).flash = s.flash := rfl
@[simp] theorem Act_emit_flashSize (o : Out) (s : State) : ((Act.emit o).run s).flashSize = s.flashSize := rfl
@[simp] theorem Act_emit_evtNo (o : Out) (s : State) : ((Act.emit o).run s).evtNo = s.evtNo := rfl
@[simp] theorem Act_emit_lockedRegs (o : Out) (s : State) : ((Act.emit o).run s).lockedRegs = s.lockedRegs := rfl
@[simp] theorem Act_emit_onceRegs (o : Out) (s : State) : ((Act.emit o).run s).onceRegs = s.onceRegs := rfl
@[simp] theorem Act_emit_upsets (o : Out) (s : State) : ((Act.emit o).run s).upsets = s.upsets := rfl
@[simp] theorem Act_emit_mismatches (o : Out) (s : State) : ((Act.emit o).run s).mismatches = s.mismatches := rfl
@[simp] theorem Act_emit_posted (o : Out) (s : State) : ((Act.emit o).run s).posted = s.posted := rfl
@[simp] theorem Act_emit_compat (o : Out) (s : State) : ((Act.emit o).run s).compat = s.compat := rfl
@[simp] theorem Act_emit_pends (o : Out) (s : State) : ((Act.emit o).run s).pends = s.pends := rfl
@[simp] theorem Act_emit_eyeReset (o : Out) (s : State) : ((Act.emit o).run s).eyeReset = s.eyeReset := rfl
@[simp] theorem Act_emit_irqs (o : Out) (s : State) : ((Act.emit o).run s).irqs = s.irqs := rfl
@[simp] theorem Act_emit_seq (o : Out) (s : State) : ((Act.emit o).run s).seq = s.seq := rfl
@[simp] theorem Act_emit_sup (o : Out) (s : State) : ((Act.emit o).run s).sup = s.sup := rfl
@[simp] theorem Act_emit_prism (o : Out) (s : State) : ((Act.emit o).run s).prism = s.prism := rfl
@[simp] theorem Act_emit_start (o : Out) (s : State) : ((Act.emit o).run s).start = s.start := rfl
@[simp] theorem Act_emit_clk (o : Out) (s : State) : ((Act.emit o).run s).clk = s.clk := rfl
@[simp] theorem Act_emit_ld (o : Out) (s : State) : ((Act.emit o).run s).ld = s.ld := rfl
@[simp] theorem Act_emit_edges (o : Out) (s : State) : ((Act.emit o).run s).edges = s.edges := rfl
@[simp] theorem Act_emit_sw (o : Out) (s : State) : ((Act.emit o).run s).sw = s.sw := rfl
@[simp] theorem Act_emit_nets (o : Out) (s : State) : ((Act.emit o).run s).nets = s.nets := rfl
@[simp] theorem Act_emit_gw (o : Out) (s : State) : ((Act.emit o).run s).gw = s.gw := rfl
@[simp] theorem Act_emit_mon (o : Out) (s : State) : ((Act.emit o).run s).mon = s.mon := rfl
@[simp] theorem Act_emit_sec (o : Out) (s : State) : ((Act.emit o).run s).sec = s.sec := rfl
@[simp] theorem Act_emit_plx (o : Out) (s : State) : ((Act.emit o).run s).plx = s.plx := rfl
@[simp] theorem Act_emit_io (o : Out) (s : State) : ((Act.emit o).run s).io = s.io := rfl
@[simp] theorem Act_emit_cpu (o : Out) (s : State) : ((Act.emit o).run s).cpu = s.cpu := rfl
@[simp] theorem Act_emit_out (o : Out) (s : State) : ((Act.emit o).run s).out = o :: s.out := rfl
@[simp] theorem Act_emit_freeCount (o : Out) (s : State) : ((Act.emit o).run s).freeCount = s.freeCount := rfl
@[simp] theorem Act_emit_pending (o : Out) (s : State) : ((Act.emit o).run s).pending = s.pending := rfl

@[simp] theorem Act_reply_fuse (ag : Agent) (c : Code) (v : Word) (s : State) : ((Act.reply ag c v).run s).fuse = s.fuse := rfl
@[simp] theorem Act_reply_regs (ag : Agent) (c : Code) (v : Word) (s : State) : ((Act.reply ag c v).run s).regs = s.regs := rfl
@[simp] theorem Act_reply_tbls (ag : Agent) (c : Code) (v : Word) (s : State) : ((Act.reply ag c v).run s).tbls = s.tbls := rfl
@[simp] theorem Act_reply_mem (ag : Agent) (c : Code) (v : Word) (s : State) : ((Act.reply ag c v).run s).mem = s.mem := rfl
@[simp] theorem Act_reply_flash (ag : Agent) (c : Code) (v : Word) (s : State) : ((Act.reply ag c v).run s).flash = s.flash := rfl
@[simp] theorem Act_reply_flashSize (ag : Agent) (c : Code) (v : Word) (s : State) : ((Act.reply ag c v).run s).flashSize = s.flashSize := rfl
@[simp] theorem Act_reply_evtNo (ag : Agent) (c : Code) (v : Word) (s : State) : ((Act.reply ag c v).run s).evtNo = s.evtNo := rfl
@[simp] theorem Act_reply_lockedRegs (ag : Agent) (c : Code) (v : Word) (s : State) : ((Act.reply ag c v).run s).lockedRegs = s.lockedRegs := rfl
@[simp] theorem Act_reply_onceRegs (ag : Agent) (c : Code) (v : Word) (s : State) : ((Act.reply ag c v).run s).onceRegs = s.onceRegs := rfl
@[simp] theorem Act_reply_upsets (ag : Agent) (c : Code) (v : Word) (s : State) : ((Act.reply ag c v).run s).upsets = s.upsets := rfl
@[simp] theorem Act_reply_mismatches (ag : Agent) (c : Code) (v : Word) (s : State) : ((Act.reply ag c v).run s).mismatches = s.mismatches := rfl
@[simp] theorem Act_reply_posted (ag : Agent) (c : Code) (v : Word) (s : State) : ((Act.reply ag c v).run s).posted = s.posted := rfl
@[simp] theorem Act_reply_compat (ag : Agent) (c : Code) (v : Word) (s : State) : ((Act.reply ag c v).run s).compat = s.compat := rfl
@[simp] theorem Act_reply_pends (ag : Agent) (c : Code) (v : Word) (s : State) : ((Act.reply ag c v).run s).pends = s.pends := rfl
@[simp] theorem Act_reply_eyeReset (ag : Agent) (c : Code) (v : Word) (s : State) : ((Act.reply ag c v).run s).eyeReset = s.eyeReset := rfl
@[simp] theorem Act_reply_irqs (ag : Agent) (c : Code) (v : Word) (s : State) : ((Act.reply ag c v).run s).irqs = s.irqs := rfl
@[simp] theorem Act_reply_seq (ag : Agent) (c : Code) (v : Word) (s : State) : ((Act.reply ag c v).run s).seq = s.seq := rfl
@[simp] theorem Act_reply_sup (ag : Agent) (c : Code) (v : Word) (s : State) : ((Act.reply ag c v).run s).sup = s.sup := rfl
@[simp] theorem Act_reply_prism (ag : Agent) (c : Code) (v : Word) (s : State) : ((Act.reply ag c v).run s).prism = s.prism := rfl
@[simp] theorem Act_reply_start (ag : Agent) (c : Code) (v : Word) (s : State) : ((Act.reply ag c v).run s).start = s.start := rfl
@[simp] theorem Act_reply_clk (ag : Agent) (c : Code) (v : Word) (s : State) : ((Act.reply ag c v).run s).clk = s.clk := rfl
@[simp] theorem Act_reply_ld (ag : Agent) (c : Code) (v : Word) (s : State) : ((Act.reply ag c v).run s).ld = s.ld := rfl
@[simp] theorem Act_reply_edges (ag : Agent) (c : Code) (v : Word) (s : State) : ((Act.reply ag c v).run s).edges = s.edges := rfl
@[simp] theorem Act_reply_sw (ag : Agent) (c : Code) (v : Word) (s : State) : ((Act.reply ag c v).run s).sw = s.sw := rfl
@[simp] theorem Act_reply_nets (ag : Agent) (c : Code) (v : Word) (s : State) : ((Act.reply ag c v).run s).nets = s.nets := rfl
@[simp] theorem Act_reply_gw (ag : Agent) (c : Code) (v : Word) (s : State) : ((Act.reply ag c v).run s).gw = s.gw := rfl
@[simp] theorem Act_reply_mon (ag : Agent) (c : Code) (v : Word) (s : State) : ((Act.reply ag c v).run s).mon = s.mon := rfl
@[simp] theorem Act_reply_sec (ag : Agent) (c : Code) (v : Word) (s : State) : ((Act.reply ag c v).run s).sec = s.sec := rfl
@[simp] theorem Act_reply_plx (ag : Agent) (c : Code) (v : Word) (s : State) : ((Act.reply ag c v).run s).plx = s.plx := rfl
@[simp] theorem Act_reply_io (ag : Agent) (c : Code) (v : Word) (s : State) : ((Act.reply ag c v).run s).io = s.io := rfl
@[simp] theorem Act_reply_cpu (ag : Agent) (c : Code) (v : Word) (s : State) : ((Act.reply ag c v).run s).cpu = s.cpu := rfl
@[simp] theorem Act_reply_out (ag : Agent) (c : Code) (v : Word) (s : State) : ((Act.reply ag c v).run s).out = .reply ag c v :: s.out := rfl
@[simp] theorem Act_reply_freeCount (ag : Agent) (c : Code) (v : Word) (s : State) : ((Act.reply ag c v).run s).freeCount = s.freeCount := rfl
@[simp] theorem Act_reply_pending (ag : Agent) (c : Code) (v : Word) (s : State) : ((Act.reply ag c v).run s).pending = s.pending := rfl

@[simp] theorem Act_updIo_fuse (f : Sys2Proof.Machine.Machine → Sys2Proof.Machine.Machine) (s : State) : ((Act.updIo f).run s).fuse = s.fuse := rfl
@[simp] theorem Act_updIo_regs (f : Sys2Proof.Machine.Machine → Sys2Proof.Machine.Machine) (s : State) : ((Act.updIo f).run s).regs = s.regs := rfl
@[simp] theorem Act_updIo_tbls (f : Sys2Proof.Machine.Machine → Sys2Proof.Machine.Machine) (s : State) : ((Act.updIo f).run s).tbls = s.tbls := rfl
@[simp] theorem Act_updIo_mem (f : Sys2Proof.Machine.Machine → Sys2Proof.Machine.Machine) (s : State) : ((Act.updIo f).run s).mem = s.mem := rfl
@[simp] theorem Act_updIo_flash (f : Sys2Proof.Machine.Machine → Sys2Proof.Machine.Machine) (s : State) : ((Act.updIo f).run s).flash = s.flash := rfl
@[simp] theorem Act_updIo_flashSize (f : Sys2Proof.Machine.Machine → Sys2Proof.Machine.Machine) (s : State) : ((Act.updIo f).run s).flashSize = s.flashSize := rfl
@[simp] theorem Act_updIo_evtNo (f : Sys2Proof.Machine.Machine → Sys2Proof.Machine.Machine) (s : State) : ((Act.updIo f).run s).evtNo = s.evtNo := rfl
@[simp] theorem Act_updIo_lockedRegs (f : Sys2Proof.Machine.Machine → Sys2Proof.Machine.Machine) (s : State) : ((Act.updIo f).run s).lockedRegs = s.lockedRegs := rfl
@[simp] theorem Act_updIo_onceRegs (f : Sys2Proof.Machine.Machine → Sys2Proof.Machine.Machine) (s : State) : ((Act.updIo f).run s).onceRegs = s.onceRegs := rfl
@[simp] theorem Act_updIo_upsets (f : Sys2Proof.Machine.Machine → Sys2Proof.Machine.Machine) (s : State) : ((Act.updIo f).run s).upsets = s.upsets := rfl
@[simp] theorem Act_updIo_mismatches (f : Sys2Proof.Machine.Machine → Sys2Proof.Machine.Machine) (s : State) : ((Act.updIo f).run s).mismatches = s.mismatches := rfl
@[simp] theorem Act_updIo_posted (f : Sys2Proof.Machine.Machine → Sys2Proof.Machine.Machine) (s : State) : ((Act.updIo f).run s).posted = s.posted := rfl
@[simp] theorem Act_updIo_compat (f : Sys2Proof.Machine.Machine → Sys2Proof.Machine.Machine) (s : State) : ((Act.updIo f).run s).compat = s.compat := rfl
@[simp] theorem Act_updIo_pends (f : Sys2Proof.Machine.Machine → Sys2Proof.Machine.Machine) (s : State) : ((Act.updIo f).run s).pends = s.pends := rfl
@[simp] theorem Act_updIo_eyeReset (f : Sys2Proof.Machine.Machine → Sys2Proof.Machine.Machine) (s : State) : ((Act.updIo f).run s).eyeReset = s.eyeReset := rfl
@[simp] theorem Act_updIo_irqs (f : Sys2Proof.Machine.Machine → Sys2Proof.Machine.Machine) (s : State) : ((Act.updIo f).run s).irqs = s.irqs := rfl
@[simp] theorem Act_updIo_seq (f : Sys2Proof.Machine.Machine → Sys2Proof.Machine.Machine) (s : State) : ((Act.updIo f).run s).seq = s.seq := rfl
@[simp] theorem Act_updIo_sup (f : Sys2Proof.Machine.Machine → Sys2Proof.Machine.Machine) (s : State) : ((Act.updIo f).run s).sup = s.sup := rfl
@[simp] theorem Act_updIo_prism (f : Sys2Proof.Machine.Machine → Sys2Proof.Machine.Machine) (s : State) : ((Act.updIo f).run s).prism = s.prism := rfl
@[simp] theorem Act_updIo_start (f : Sys2Proof.Machine.Machine → Sys2Proof.Machine.Machine) (s : State) : ((Act.updIo f).run s).start = s.start := rfl
@[simp] theorem Act_updIo_clk (f : Sys2Proof.Machine.Machine → Sys2Proof.Machine.Machine) (s : State) : ((Act.updIo f).run s).clk = s.clk := rfl
@[simp] theorem Act_updIo_ld (f : Sys2Proof.Machine.Machine → Sys2Proof.Machine.Machine) (s : State) : ((Act.updIo f).run s).ld = s.ld := rfl
@[simp] theorem Act_updIo_edges (f : Sys2Proof.Machine.Machine → Sys2Proof.Machine.Machine) (s : State) : ((Act.updIo f).run s).edges = s.edges := rfl
@[simp] theorem Act_updIo_sw (f : Sys2Proof.Machine.Machine → Sys2Proof.Machine.Machine) (s : State) : ((Act.updIo f).run s).sw = s.sw := rfl
@[simp] theorem Act_updIo_nets (f : Sys2Proof.Machine.Machine → Sys2Proof.Machine.Machine) (s : State) : ((Act.updIo f).run s).nets = s.nets := rfl
@[simp] theorem Act_updIo_gw (f : Sys2Proof.Machine.Machine → Sys2Proof.Machine.Machine) (s : State) : ((Act.updIo f).run s).gw = s.gw := rfl
@[simp] theorem Act_updIo_mon (f : Sys2Proof.Machine.Machine → Sys2Proof.Machine.Machine) (s : State) : ((Act.updIo f).run s).mon = s.mon := rfl
@[simp] theorem Act_updIo_sec (f : Sys2Proof.Machine.Machine → Sys2Proof.Machine.Machine) (s : State) : ((Act.updIo f).run s).sec = s.sec := rfl
@[simp] theorem Act_updIo_plx (f : Sys2Proof.Machine.Machine → Sys2Proof.Machine.Machine) (s : State) : ((Act.updIo f).run s).plx = s.plx := rfl
@[simp] theorem Act_updIo_io (f : Sys2Proof.Machine.Machine → Sys2Proof.Machine.Machine) (s : State) : ((Act.updIo f).run s).io = f s.io := rfl
@[simp] theorem Act_updIo_cpu (f : Sys2Proof.Machine.Machine → Sys2Proof.Machine.Machine) (s : State) : ((Act.updIo f).run s).cpu = s.cpu := rfl
@[simp] theorem Act_updIo_out (f : Sys2Proof.Machine.Machine → Sys2Proof.Machine.Machine) (s : State) : ((Act.updIo f).run s).out = s.out := rfl
@[simp] theorem Act_updIo_freeCount (f : Sys2Proof.Machine.Machine → Sys2Proof.Machine.Machine) (s : State) : ((Act.updIo f).run s).freeCount = s.freeCount := rfl
@[simp] theorem Act_updIo_pending (f : Sys2Proof.Machine.Machine → Sys2Proof.Machine.Machine) (s : State) : ((Act.updIo f).run s).pending = s.pending := rfl

@[simp] theorem Act_setBuf_fuse (k : Nat) (v : List RxFrame) (s : State) : ((Act.setBuf k v).run s).fuse = s.fuse := rfl
@[simp] theorem Act_setBuf_regs (k : Nat) (v : List RxFrame) (s : State) : ((Act.setBuf k v).run s).regs = s.regs := rfl
@[simp] theorem Act_setBuf_tbls (k : Nat) (v : List RxFrame) (s : State) : ((Act.setBuf k v).run s).tbls = s.tbls := rfl
@[simp] theorem Act_setBuf_mem (k : Nat) (v : List RxFrame) (s : State) : ((Act.setBuf k v).run s).mem = s.mem := rfl
@[simp] theorem Act_setBuf_flash (k : Nat) (v : List RxFrame) (s : State) : ((Act.setBuf k v).run s).flash = s.flash := rfl
@[simp] theorem Act_setBuf_evtNo (k : Nat) (v : List RxFrame) (s : State) : ((Act.setBuf k v).run s).evtNo = s.evtNo := rfl
@[simp] theorem Act_setBuf_sup (k : Nat) (v : List RxFrame) (s : State) : ((Act.setBuf k v).run s).sup = s.sup := rfl
@[simp] theorem Act_setBuf_prism (k : Nat) (v : List RxFrame) (s : State) : ((Act.setBuf k v).run s).prism = s.prism := rfl
@[simp] theorem Act_setBuf_start (k : Nat) (v : List RxFrame) (s : State) : ((Act.setBuf k v).run s).start = s.start := rfl
@[simp] theorem Act_setBuf_sw (k : Nat) (v : List RxFrame) (s : State) : ((Act.setBuf k v).run s).sw = { s.sw with bufs := Sparse.put bufBlank k v s.sw.bufs } := rfl
@[simp] theorem Act_setBuf_out (k : Nat) (v : List RxFrame) (s : State) : ((Act.setBuf k v).run s).out = s.out := rfl

@[simp] theorem Act_setAdm_fuse (k : Nat) (v : List Admitted) (s : State) : ((Act.setAdm k v).run s).fuse = s.fuse := rfl
@[simp] theorem Act_setAdm_regs (k : Nat) (v : List Admitted) (s : State) : ((Act.setAdm k v).run s).regs = s.regs := rfl
@[simp] theorem Act_setAdm_tbls (k : Nat) (v : List Admitted) (s : State) : ((Act.setAdm k v).run s).tbls = s.tbls := rfl
@[simp] theorem Act_setAdm_mem (k : Nat) (v : List Admitted) (s : State) : ((Act.setAdm k v).run s).mem = s.mem := rfl
@[simp] theorem Act_setAdm_flash (k : Nat) (v : List Admitted) (s : State) : ((Act.setAdm k v).run s).flash = s.flash := rfl
@[simp] theorem Act_setAdm_evtNo (k : Nat) (v : List Admitted) (s : State) : ((Act.setAdm k v).run s).evtNo = s.evtNo := rfl
@[simp] theorem Act_setAdm_sup (k : Nat) (v : List Admitted) (s : State) : ((Act.setAdm k v).run s).sup = s.sup := rfl
@[simp] theorem Act_setAdm_prism (k : Nat) (v : List Admitted) (s : State) : ((Act.setAdm k v).run s).prism = s.prism := rfl
@[simp] theorem Act_setAdm_start (k : Nat) (v : List Admitted) (s : State) : ((Act.setAdm k v).run s).start = s.start := rfl
@[simp] theorem Act_setAdm_sw (k : Nat) (v : List Admitted) (s : State) : ((Act.setAdm k v).run s).sw = { s.sw with adms := Sparse.put admBlank k v s.sw.adms } := rfl
@[simp] theorem Act_setAdm_out (k : Nat) (v : List Admitted) (s : State) : ((Act.setAdm k v).run s).out = s.out := rfl

@[simp] theorem Act_setHold_fuse (k : Nat) (v : Hold) (s : State) : ((Act.setHold k v).run s).fuse = s.fuse := rfl
@[simp] theorem Act_setHold_regs (k : Nat) (v : Hold) (s : State) : ((Act.setHold k v).run s).regs = s.regs := rfl
@[simp] theorem Act_setHold_tbls (k : Nat) (v : Hold) (s : State) : ((Act.setHold k v).run s).tbls = s.tbls := rfl
@[simp] theorem Act_setHold_mem (k : Nat) (v : Hold) (s : State) : ((Act.setHold k v).run s).mem = s.mem := rfl
@[simp] theorem Act_setHold_flash (k : Nat) (v : Hold) (s : State) : ((Act.setHold k v).run s).flash = s.flash := rfl
@[simp] theorem Act_setHold_evtNo (k : Nat) (v : Hold) (s : State) : ((Act.setHold k v).run s).evtNo = s.evtNo := rfl
@[simp] theorem Act_setHold_sup (k : Nat) (v : Hold) (s : State) : ((Act.setHold k v).run s).sup = s.sup := rfl
@[simp] theorem Act_setHold_prism (k : Nat) (v : Hold) (s : State) : ((Act.setHold k v).run s).prism = s.prism := rfl
@[simp] theorem Act_setHold_start (k : Nat) (v : Hold) (s : State) : ((Act.setHold k v).run s).start = s.start := rfl
@[simp] theorem Act_setHold_sw (k : Nat) (v : Hold) (s : State) : ((Act.setHold k v).run s).sw = { s.sw with holds := Sparse.put holdBlank k v s.sw.holds } := rfl
@[simp] theorem Act_setHold_out (k : Nat) (v : Hold) (s : State) : ((Act.setHold k v).run s).out = s.out := rfl

@[simp] theorem Act_setQueue_fuse (k : Nat) (v : Queue) (s : State) : ((Act.setQueue k v).run s).fuse = s.fuse := rfl
@[simp] theorem Act_setQueue_regs (k : Nat) (v : Queue) (s : State) : ((Act.setQueue k v).run s).regs = s.regs := rfl
@[simp] theorem Act_setQueue_tbls (k : Nat) (v : Queue) (s : State) : ((Act.setQueue k v).run s).tbls = s.tbls := rfl
@[simp] theorem Act_setQueue_mem (k : Nat) (v : Queue) (s : State) : ((Act.setQueue k v).run s).mem = s.mem := rfl
@[simp] theorem Act_setQueue_flash (k : Nat) (v : Queue) (s : State) : ((Act.setQueue k v).run s).flash = s.flash := rfl
@[simp] theorem Act_setQueue_evtNo (k : Nat) (v : Queue) (s : State) : ((Act.setQueue k v).run s).evtNo = s.evtNo := rfl
@[simp] theorem Act_setQueue_sup (k : Nat) (v : Queue) (s : State) : ((Act.setQueue k v).run s).sup = s.sup := rfl
@[simp] theorem Act_setQueue_prism (k : Nat) (v : Queue) (s : State) : ((Act.setQueue k v).run s).prism = s.prism := rfl
@[simp] theorem Act_setQueue_start (k : Nat) (v : Queue) (s : State) : ((Act.setQueue k v).run s).start = s.start := rfl
@[simp] theorem Act_setQueue_sw (k : Nat) (v : Queue) (s : State) : ((Act.setQueue k v).run s).sw = { s.sw with queues := Sparse.put queueBlank k v s.sw.queues } := rfl
@[simp] theorem Act_setQueue_out (k : Nat) (v : Queue) (s : State) : ((Act.setQueue k v).run s).out = s.out := rfl

@[simp] theorem Act_setPort_fuse (k : Nat) (v : Port) (s : State) : ((Act.setPort k v).run s).fuse = s.fuse := rfl
@[simp] theorem Act_setPort_regs (k : Nat) (v : Port) (s : State) : ((Act.setPort k v).run s).regs = s.regs := rfl
@[simp] theorem Act_setPort_tbls (k : Nat) (v : Port) (s : State) : ((Act.setPort k v).run s).tbls = s.tbls := rfl
@[simp] theorem Act_setPort_mem (k : Nat) (v : Port) (s : State) : ((Act.setPort k v).run s).mem = s.mem := rfl
@[simp] theorem Act_setPort_flash (k : Nat) (v : Port) (s : State) : ((Act.setPort k v).run s).flash = s.flash := rfl
@[simp] theorem Act_setPort_evtNo (k : Nat) (v : Port) (s : State) : ((Act.setPort k v).run s).evtNo = s.evtNo := rfl
@[simp] theorem Act_setPort_sup (k : Nat) (v : Port) (s : State) : ((Act.setPort k v).run s).sup = s.sup := rfl
@[simp] theorem Act_setPort_prism (k : Nat) (v : Port) (s : State) : ((Act.setPort k v).run s).prism = s.prism := rfl
@[simp] theorem Act_setPort_start (k : Nat) (v : Port) (s : State) : ((Act.setPort k v).run s).start = s.start := rfl
@[simp] theorem Act_setPort_sw (k : Nat) (v : Port) (s : State) : ((Act.setPort k v).run s).sw = { s.sw with ports := Sparse.put portBlank k v s.sw.ports } := rfl
@[simp] theorem Act_setPort_out (k : Nat) (v : Port) (s : State) : ((Act.setPort k v).run s).out = s.out := rfl

@[simp] theorem Act_setRobin_fuse (k : Nat) (v : Robin) (s : State) : ((Act.setRobin k v).run s).fuse = s.fuse := rfl
@[simp] theorem Act_setRobin_regs (k : Nat) (v : Robin) (s : State) : ((Act.setRobin k v).run s).regs = s.regs := rfl
@[simp] theorem Act_setRobin_tbls (k : Nat) (v : Robin) (s : State) : ((Act.setRobin k v).run s).tbls = s.tbls := rfl
@[simp] theorem Act_setRobin_mem (k : Nat) (v : Robin) (s : State) : ((Act.setRobin k v).run s).mem = s.mem := rfl
@[simp] theorem Act_setRobin_flash (k : Nat) (v : Robin) (s : State) : ((Act.setRobin k v).run s).flash = s.flash := rfl
@[simp] theorem Act_setRobin_evtNo (k : Nat) (v : Robin) (s : State) : ((Act.setRobin k v).run s).evtNo = s.evtNo := rfl
@[simp] theorem Act_setRobin_sup (k : Nat) (v : Robin) (s : State) : ((Act.setRobin k v).run s).sup = s.sup := rfl
@[simp] theorem Act_setRobin_prism (k : Nat) (v : Robin) (s : State) : ((Act.setRobin k v).run s).prism = s.prism := rfl
@[simp] theorem Act_setRobin_start (k : Nat) (v : Robin) (s : State) : ((Act.setRobin k v).run s).start = s.start := rfl
@[simp] theorem Act_setRobin_sw (k : Nat) (v : Robin) (s : State) : ((Act.setRobin k v).run s).sw = { s.sw with robins := Sparse.put robinBlank k v s.sw.robins } := rfl
@[simp] theorem Act_setRobin_out (k : Nat) (v : Robin) (s : State) : ((Act.setRobin k v).run s).out = s.out := rfl

@[simp] theorem Act_setFlush_fuse (k : Nat) (v : Option Flush) (s : State) : ((Act.setFlush k v).run s).fuse = s.fuse := rfl
@[simp] theorem Act_setFlush_regs (k : Nat) (v : Option Flush) (s : State) : ((Act.setFlush k v).run s).regs = s.regs := rfl
@[simp] theorem Act_setFlush_tbls (k : Nat) (v : Option Flush) (s : State) : ((Act.setFlush k v).run s).tbls = s.tbls := rfl
@[simp] theorem Act_setFlush_mem (k : Nat) (v : Option Flush) (s : State) : ((Act.setFlush k v).run s).mem = s.mem := rfl
@[simp] theorem Act_setFlush_flash (k : Nat) (v : Option Flush) (s : State) : ((Act.setFlush k v).run s).flash = s.flash := rfl
@[simp] theorem Act_setFlush_evtNo (k : Nat) (v : Option Flush) (s : State) : ((Act.setFlush k v).run s).evtNo = s.evtNo := rfl
@[simp] theorem Act_setFlush_sup (k : Nat) (v : Option Flush) (s : State) : ((Act.setFlush k v).run s).sup = s.sup := rfl
@[simp] theorem Act_setFlush_prism (k : Nat) (v : Option Flush) (s : State) : ((Act.setFlush k v).run s).prism = s.prism := rfl
@[simp] theorem Act_setFlush_start (k : Nat) (v : Option Flush) (s : State) : ((Act.setFlush k v).run s).start = s.start := rfl
@[simp] theorem Act_setFlush_sw (k : Nat) (v : Option Flush) (s : State) : ((Act.setFlush k v).run s).sw = { s.sw with flushes := Sparse.put flushBlank k v s.sw.flushes } := rfl
@[simp] theorem Act_setFlush_out (k : Nat) (v : Option Flush) (s : State) : ((Act.setFlush k v).run s).out = s.out := rfl

@[simp] theorem Act_setLink_fuse (k : Nat) (v : D2dLink) (s : State) : ((Act.setLink k v).run s).fuse = s.fuse := rfl
@[simp] theorem Act_setLink_regs (k : Nat) (v : D2dLink) (s : State) : ((Act.setLink k v).run s).regs = s.regs := rfl
@[simp] theorem Act_setLink_tbls (k : Nat) (v : D2dLink) (s : State) : ((Act.setLink k v).run s).tbls = s.tbls := rfl
@[simp] theorem Act_setLink_mem (k : Nat) (v : D2dLink) (s : State) : ((Act.setLink k v).run s).mem = s.mem := rfl
@[simp] theorem Act_setLink_flash (k : Nat) (v : D2dLink) (s : State) : ((Act.setLink k v).run s).flash = s.flash := rfl
@[simp] theorem Act_setLink_evtNo (k : Nat) (v : D2dLink) (s : State) : ((Act.setLink k v).run s).evtNo = s.evtNo := rfl
@[simp] theorem Act_setLink_sup (k : Nat) (v : D2dLink) (s : State) : ((Act.setLink k v).run s).sup = s.sup := rfl
@[simp] theorem Act_setLink_prism (k : Nat) (v : D2dLink) (s : State) : ((Act.setLink k v).run s).prism = s.prism := rfl
@[simp] theorem Act_setLink_start (k : Nat) (v : D2dLink) (s : State) : ((Act.setLink k v).run s).start = s.start := rfl
@[simp] theorem Act_setLink_sw (k : Nat) (v : D2dLink) (s : State) : ((Act.setLink k v).run s).sw = { s.sw with d2d := Sparse.put linkBlank k v s.sw.d2d } := rfl
@[simp] theorem Act_setLink_out (k : Nat) (v : D2dLink) (s : State) : ((Act.setLink k v).run s).out = s.out := rfl

@[simp] theorem Act_setLow_fuse (k : Nat) (v : Bool) (s : State) : ((Act.setLow k v).run s).fuse = s.fuse := rfl
@[simp] theorem Act_setLow_regs (k : Nat) (v : Bool) (s : State) : ((Act.setLow k v).run s).regs = s.regs := rfl
@[simp] theorem Act_setLow_tbls (k : Nat) (v : Bool) (s : State) : ((Act.setLow k v).run s).tbls = s.tbls := rfl
@[simp] theorem Act_setLow_mem (k : Nat) (v : Bool) (s : State) : ((Act.setLow k v).run s).mem = s.mem := rfl
@[simp] theorem Act_setLow_flash (k : Nat) (v : Bool) (s : State) : ((Act.setLow k v).run s).flash = s.flash := rfl
@[simp] theorem Act_setLow_evtNo (k : Nat) (v : Bool) (s : State) : ((Act.setLow k v).run s).evtNo = s.evtNo := rfl
@[simp] theorem Act_setLow_sup (k : Nat) (v : Bool) (s : State) : ((Act.setLow k v).run s).sup = s.sup := rfl
@[simp] theorem Act_setLow_prism (k : Nat) (v : Bool) (s : State) : ((Act.setLow k v).run s).prism = s.prism := rfl
@[simp] theorem Act_setLow_start (k : Nat) (v : Bool) (s : State) : ((Act.setLow k v).run s).start = s.start := rfl
@[simp] theorem Act_setLow_sw (k : Nat) (v : Bool) (s : State) : ((Act.setLow k v).run s).sw = { s.sw with sharedLow := Sparse.put lowBlank k v s.sw.sharedLow } := rfl
@[simp] theorem Act_setLow_out (k : Nat) (v : Bool) (s : State) : ((Act.setLow k v).run s).out = s.out := rfl

@[simp] theorem Act_setPaceNow_fuse (k : Nat) (v : Nat) (s : State) : ((Act.setPaceNow k v).run s).fuse = s.fuse := rfl
@[simp] theorem Act_setPaceNow_regs (k : Nat) (v : Nat) (s : State) : ((Act.setPaceNow k v).run s).regs = s.regs := rfl
@[simp] theorem Act_setPaceNow_tbls (k : Nat) (v : Nat) (s : State) : ((Act.setPaceNow k v).run s).tbls = s.tbls := rfl
@[simp] theorem Act_setPaceNow_mem (k : Nat) (v : Nat) (s : State) : ((Act.setPaceNow k v).run s).mem = s.mem := rfl
@[simp] theorem Act_setPaceNow_flash (k : Nat) (v : Nat) (s : State) : ((Act.setPaceNow k v).run s).flash = s.flash := rfl
@[simp] theorem Act_setPaceNow_evtNo (k : Nat) (v : Nat) (s : State) : ((Act.setPaceNow k v).run s).evtNo = s.evtNo := rfl
@[simp] theorem Act_setPaceNow_sup (k : Nat) (v : Nat) (s : State) : ((Act.setPaceNow k v).run s).sup = s.sup := rfl
@[simp] theorem Act_setPaceNow_prism (k : Nat) (v : Nat) (s : State) : ((Act.setPaceNow k v).run s).prism = s.prism := rfl
@[simp] theorem Act_setPaceNow_start (k : Nat) (v : Nat) (s : State) : ((Act.setPaceNow k v).run s).start = s.start := rfl
@[simp] theorem Act_setPaceNow_sw (k : Nat) (v : Nat) (s : State) : ((Act.setPaceNow k v).run s).sw = { s.sw with pace := Sparse.put paceNowBlank k v s.sw.pace } := rfl
@[simp] theorem Act_setPaceNow_out (k : Nat) (v : Nat) (s : State) : ((Act.setPaceNow k v).run s).out = s.out := rfl

@[simp] theorem Act_setRate_fuse (k : Nat) (v : Nat × Nat × Nat × Nat) (s : State) : ((Act.setRate k v).run s).fuse = s.fuse := rfl
@[simp] theorem Act_setRate_regs (k : Nat) (v : Nat × Nat × Nat × Nat) (s : State) : ((Act.setRate k v).run s).regs = s.regs := rfl
@[simp] theorem Act_setRate_tbls (k : Nat) (v : Nat × Nat × Nat × Nat) (s : State) : ((Act.setRate k v).run s).tbls = s.tbls := rfl
@[simp] theorem Act_setRate_mem (k : Nat) (v : Nat × Nat × Nat × Nat) (s : State) : ((Act.setRate k v).run s).mem = s.mem := rfl
@[simp] theorem Act_setRate_flash (k : Nat) (v : Nat × Nat × Nat × Nat) (s : State) : ((Act.setRate k v).run s).flash = s.flash := rfl
@[simp] theorem Act_setRate_evtNo (k : Nat) (v : Nat × Nat × Nat × Nat) (s : State) : ((Act.setRate k v).run s).evtNo = s.evtNo := rfl
@[simp] theorem Act_setRate_sup (k : Nat) (v : Nat × Nat × Nat × Nat) (s : State) : ((Act.setRate k v).run s).sup = s.sup := rfl
@[simp] theorem Act_setRate_prism (k : Nat) (v : Nat × Nat × Nat × Nat) (s : State) : ((Act.setRate k v).run s).prism = s.prism := rfl
@[simp] theorem Act_setRate_start (k : Nat) (v : Nat × Nat × Nat × Nat) (s : State) : ((Act.setRate k v).run s).start = s.start := rfl
@[simp] theorem Act_setRate_sw (k : Nat) (v : Nat × Nat × Nat × Nat) (s : State) : ((Act.setRate k v).run s).sw = { s.sw with spillRate := Sparse.put rateBlank k v s.sw.spillRate } := rfl
@[simp] theorem Act_setRate_out (k : Nat) (v : Nat × Nat × Nat × Nat) (s : State) : ((Act.setRate k v).run s).out = s.out := rfl

@[simp] theorem Act_setFlood_fuse (k : Nat) (v : Bucket) (s : State) : ((Act.setFlood k v).run s).fuse = s.fuse := rfl
@[simp] theorem Act_setFlood_regs (k : Nat) (v : Bucket) (s : State) : ((Act.setFlood k v).run s).regs = s.regs := rfl
@[simp] theorem Act_setFlood_tbls (k : Nat) (v : Bucket) (s : State) : ((Act.setFlood k v).run s).tbls = s.tbls := rfl
@[simp] theorem Act_setFlood_mem (k : Nat) (v : Bucket) (s : State) : ((Act.setFlood k v).run s).mem = s.mem := rfl
@[simp] theorem Act_setFlood_flash (k : Nat) (v : Bucket) (s : State) : ((Act.setFlood k v).run s).flash = s.flash := rfl
@[simp] theorem Act_setFlood_evtNo (k : Nat) (v : Bucket) (s : State) : ((Act.setFlood k v).run s).evtNo = s.evtNo := rfl
@[simp] theorem Act_setFlood_sup (k : Nat) (v : Bucket) (s : State) : ((Act.setFlood k v).run s).sup = s.sup := rfl
@[simp] theorem Act_setFlood_prism (k : Nat) (v : Bucket) (s : State) : ((Act.setFlood k v).run s).prism = s.prism := rfl
@[simp] theorem Act_setFlood_start (k : Nat) (v : Bucket) (s : State) : ((Act.setFlood k v).run s).start = s.start := rfl
@[simp] theorem Act_setFlood_sw (k : Nat) (v : Bucket) (s : State) : ((Act.setFlood k v).run s).sw = { s.sw with floods := Sparse.put floodBlank k v s.sw.floods } := rfl
@[simp] theorem Act_setFlood_out (k : Nat) (v : Bucket) (s : State) : ((Act.setFlood k v).run s).out = s.out := rfl

@[simp] theorem Act_setMtrC_fuse (k : Nat) (v : Bucket) (s : State) : ((Act.setMtrC k v).run s).fuse = s.fuse := rfl
@[simp] theorem Act_setMtrC_regs (k : Nat) (v : Bucket) (s : State) : ((Act.setMtrC k v).run s).regs = s.regs := rfl
@[simp] theorem Act_setMtrC_tbls (k : Nat) (v : Bucket) (s : State) : ((Act.setMtrC k v).run s).tbls = s.tbls := rfl
@[simp] theorem Act_setMtrC_mem (k : Nat) (v : Bucket) (s : State) : ((Act.setMtrC k v).run s).mem = s.mem := rfl
@[simp] theorem Act_setMtrC_flash (k : Nat) (v : Bucket) (s : State) : ((Act.setMtrC k v).run s).flash = s.flash := rfl
@[simp] theorem Act_setMtrC_evtNo (k : Nat) (v : Bucket) (s : State) : ((Act.setMtrC k v).run s).evtNo = s.evtNo := rfl
@[simp] theorem Act_setMtrC_sup (k : Nat) (v : Bucket) (s : State) : ((Act.setMtrC k v).run s).sup = s.sup := rfl
@[simp] theorem Act_setMtrC_prism (k : Nat) (v : Bucket) (s : State) : ((Act.setMtrC k v).run s).prism = s.prism := rfl
@[simp] theorem Act_setMtrC_start (k : Nat) (v : Bucket) (s : State) : ((Act.setMtrC k v).run s).start = s.start := rfl
@[simp] theorem Act_setMtrC_sw (k : Nat) (v : Bucket) (s : State) : ((Act.setMtrC k v).run s).sw = { s.sw with meterC := Sparse.put mtrCBlank k v s.sw.meterC } := rfl
@[simp] theorem Act_setMtrC_out (k : Nat) (v : Bucket) (s : State) : ((Act.setMtrC k v).run s).out = s.out := rfl

@[simp] theorem Act_setMtrE_fuse (k : Nat) (v : Bucket) (s : State) : ((Act.setMtrE k v).run s).fuse = s.fuse := rfl
@[simp] theorem Act_setMtrE_regs (k : Nat) (v : Bucket) (s : State) : ((Act.setMtrE k v).run s).regs = s.regs := rfl
@[simp] theorem Act_setMtrE_tbls (k : Nat) (v : Bucket) (s : State) : ((Act.setMtrE k v).run s).tbls = s.tbls := rfl
@[simp] theorem Act_setMtrE_mem (k : Nat) (v : Bucket) (s : State) : ((Act.setMtrE k v).run s).mem = s.mem := rfl
@[simp] theorem Act_setMtrE_flash (k : Nat) (v : Bucket) (s : State) : ((Act.setMtrE k v).run s).flash = s.flash := rfl
@[simp] theorem Act_setMtrE_evtNo (k : Nat) (v : Bucket) (s : State) : ((Act.setMtrE k v).run s).evtNo = s.evtNo := rfl
@[simp] theorem Act_setMtrE_sup (k : Nat) (v : Bucket) (s : State) : ((Act.setMtrE k v).run s).sup = s.sup := rfl
@[simp] theorem Act_setMtrE_prism (k : Nat) (v : Bucket) (s : State) : ((Act.setMtrE k v).run s).prism = s.prism := rfl
@[simp] theorem Act_setMtrE_start (k : Nat) (v : Bucket) (s : State) : ((Act.setMtrE k v).run s).start = s.start := rfl
@[simp] theorem Act_setMtrE_sw (k : Nat) (v : Bucket) (s : State) : ((Act.setMtrE k v).run s).sw = { s.sw with meterE := Sparse.put mtrEBlank k v s.sw.meterE } := rfl
@[simp] theorem Act_setMtrE_out (k : Nat) (v : Bucket) (s : State) : ((Act.setMtrE k v).run s).out = s.out := rfl

@[simp] theorem Act_setShaper_fuse (k : Nat) (v : Shaper) (s : State) : ((Act.setShaper k v).run s).fuse = s.fuse := rfl
@[simp] theorem Act_setShaper_regs (k : Nat) (v : Shaper) (s : State) : ((Act.setShaper k v).run s).regs = s.regs := rfl
@[simp] theorem Act_setShaper_tbls (k : Nat) (v : Shaper) (s : State) : ((Act.setShaper k v).run s).tbls = s.tbls := rfl
@[simp] theorem Act_setShaper_mem (k : Nat) (v : Shaper) (s : State) : ((Act.setShaper k v).run s).mem = s.mem := rfl
@[simp] theorem Act_setShaper_flash (k : Nat) (v : Shaper) (s : State) : ((Act.setShaper k v).run s).flash = s.flash := rfl
@[simp] theorem Act_setShaper_evtNo (k : Nat) (v : Shaper) (s : State) : ((Act.setShaper k v).run s).evtNo = s.evtNo := rfl
@[simp] theorem Act_setShaper_sup (k : Nat) (v : Shaper) (s : State) : ((Act.setShaper k v).run s).sup = s.sup := rfl
@[simp] theorem Act_setShaper_prism (k : Nat) (v : Shaper) (s : State) : ((Act.setShaper k v).run s).prism = s.prism := rfl
@[simp] theorem Act_setShaper_start (k : Nat) (v : Shaper) (s : State) : ((Act.setShaper k v).run s).start = s.start := rfl
@[simp] theorem Act_setShaper_sw (k : Nat) (v : Shaper) (s : State) : ((Act.setShaper k v).run s).sw = { s.sw with shapers := Sparse.put shaperBlank k v s.sw.shapers } := rfl
@[simp] theorem Act_setShaper_out (k : Nat) (v : Shaper) (s : State) : ((Act.setShaper k v).run s).out = s.out := rfl

@[simp] theorem Act_setGate_fuse (k : Nat) (v : Gates) (s : State) : ((Act.setGate k v).run s).fuse = s.fuse := rfl
@[simp] theorem Act_setGate_regs (k : Nat) (v : Gates) (s : State) : ((Act.setGate k v).run s).regs = s.regs := rfl
@[simp] theorem Act_setGate_tbls (k : Nat) (v : Gates) (s : State) : ((Act.setGate k v).run s).tbls = s.tbls := rfl
@[simp] theorem Act_setGate_mem (k : Nat) (v : Gates) (s : State) : ((Act.setGate k v).run s).mem = s.mem := rfl
@[simp] theorem Act_setGate_flash (k : Nat) (v : Gates) (s : State) : ((Act.setGate k v).run s).flash = s.flash := rfl
@[simp] theorem Act_setGate_evtNo (k : Nat) (v : Gates) (s : State) : ((Act.setGate k v).run s).evtNo = s.evtNo := rfl
@[simp] theorem Act_setGate_sup (k : Nat) (v : Gates) (s : State) : ((Act.setGate k v).run s).sup = s.sup := rfl
@[simp] theorem Act_setGate_prism (k : Nat) (v : Gates) (s : State) : ((Act.setGate k v).run s).prism = s.prism := rfl
@[simp] theorem Act_setGate_start (k : Nat) (v : Gates) (s : State) : ((Act.setGate k v).run s).start = s.start := rfl
@[simp] theorem Act_setGate_sw (k : Nat) (v : Gates) (s : State) : ((Act.setGate k v).run s).sw = { s.sw with gates := Sparse.put gateBlank k v s.sw.gates } := rfl
@[simp] theorem Act_setGate_out (k : Nat) (v : Gates) (s : State) : ((Act.setGate k v).run s).out = s.out := rfl

@[simp] theorem Act_setRcv_fuse (k : Nat) (v : Recovery) (s : State) : ((Act.setRcv k v).run s).fuse = s.fuse := rfl
@[simp] theorem Act_setRcv_regs (k : Nat) (v : Recovery) (s : State) : ((Act.setRcv k v).run s).regs = s.regs := rfl
@[simp] theorem Act_setRcv_tbls (k : Nat) (v : Recovery) (s : State) : ((Act.setRcv k v).run s).tbls = s.tbls := rfl
@[simp] theorem Act_setRcv_mem (k : Nat) (v : Recovery) (s : State) : ((Act.setRcv k v).run s).mem = s.mem := rfl
@[simp] theorem Act_setRcv_flash (k : Nat) (v : Recovery) (s : State) : ((Act.setRcv k v).run s).flash = s.flash := rfl
@[simp] theorem Act_setRcv_evtNo (k : Nat) (v : Recovery) (s : State) : ((Act.setRcv k v).run s).evtNo = s.evtNo := rfl
@[simp] theorem Act_setRcv_sup (k : Nat) (v : Recovery) (s : State) : ((Act.setRcv k v).run s).sup = s.sup := rfl
@[simp] theorem Act_setRcv_prism (k : Nat) (v : Recovery) (s : State) : ((Act.setRcv k v).run s).prism = s.prism := rfl
@[simp] theorem Act_setRcv_start (k : Nat) (v : Recovery) (s : State) : ((Act.setRcv k v).run s).start = s.start := rfl
@[simp] theorem Act_setRcv_sw (k : Nat) (v : Recovery) (s : State) : ((Act.setRcv k v).run s).sw = { s.sw with recov := Sparse.put rcvBlank k v s.sw.recov } := rfl
@[simp] theorem Act_setRcv_out (k : Nat) (v : Recovery) (s : State) : ((Act.setRcv k v).run s).out = s.out := rfl

@[simp] theorem Act_setLockedAt_fuse (k : Nat) (v : Nat) (s : State) : ((Act.setLockedAt k v).run s).fuse = s.fuse := rfl
@[simp] theorem Act_setLockedAt_regs (k : Nat) (v : Nat) (s : State) : ((Act.setLockedAt k v).run s).regs = s.regs := rfl
@[simp] theorem Act_setLockedAt_tbls (k : Nat) (v : Nat) (s : State) : ((Act.setLockedAt k v).run s).tbls = s.tbls := rfl
@[simp] theorem Act_setLockedAt_mem (k : Nat) (v : Nat) (s : State) : ((Act.setLockedAt k v).run s).mem = s.mem := rfl
@[simp] theorem Act_setLockedAt_flash (k : Nat) (v : Nat) (s : State) : ((Act.setLockedAt k v).run s).flash = s.flash := rfl
@[simp] theorem Act_setLockedAt_evtNo (k : Nat) (v : Nat) (s : State) : ((Act.setLockedAt k v).run s).evtNo = s.evtNo := rfl
@[simp] theorem Act_setLockedAt_sup (k : Nat) (v : Nat) (s : State) : ((Act.setLockedAt k v).run s).sup = s.sup := rfl
@[simp] theorem Act_setLockedAt_prism (k : Nat) (v : Nat) (s : State) : ((Act.setLockedAt k v).run s).prism = s.prism := rfl
@[simp] theorem Act_setLockedAt_start (k : Nat) (v : Nat) (s : State) : ((Act.setLockedAt k v).run s).start = s.start := rfl
@[simp] theorem Act_setLockedAt_sw (k : Nat) (v : Nat) (s : State) : ((Act.setLockedAt k v).run s).sw = { s.sw with lockAt := Sparse.put lockedAtBlank k v s.sw.lockAt } := rfl
@[simp] theorem Act_setLockedAt_out (k : Nat) (v : Nat) (s : State) : ((Act.setLockedAt k v).run s).out = s.out := rfl

@[simp] theorem Act_setEth_fuse (k : Nat) (v : EthFacet) (s : State) : ((Act.setEth k v).run s).fuse = s.fuse := rfl
@[simp] theorem Act_setEth_regs (k : Nat) (v : EthFacet) (s : State) : ((Act.setEth k v).run s).regs = s.regs := rfl
@[simp] theorem Act_setEth_tbls (k : Nat) (v : EthFacet) (s : State) : ((Act.setEth k v).run s).tbls = s.tbls := rfl
@[simp] theorem Act_setEth_mem (k : Nat) (v : EthFacet) (s : State) : ((Act.setEth k v).run s).mem = s.mem := rfl
@[simp] theorem Act_setEth_flash (k : Nat) (v : EthFacet) (s : State) : ((Act.setEth k v).run s).flash = s.flash := rfl
@[simp] theorem Act_setEth_evtNo (k : Nat) (v : EthFacet) (s : State) : ((Act.setEth k v).run s).evtNo = s.evtNo := rfl
@[simp] theorem Act_setEth_sup (k : Nat) (v : EthFacet) (s : State) : ((Act.setEth k v).run s).sup = s.sup := rfl
@[simp] theorem Act_setEth_prism (k : Nat) (v : EthFacet) (s : State) : ((Act.setEth k v).run s).prism = s.prism := rfl
@[simp] theorem Act_setEth_start (k : Nat) (v : EthFacet) (s : State) : ((Act.setEth k v).run s).start = s.start := rfl
@[simp] theorem Act_setEth_sw (k : Nat) (v : EthFacet) (s : State) : ((Act.setEth k v).run s).sw = { s.sw with eths := Sparse.put ethBlank k v s.sw.eths } := rfl
@[simp] theorem Act_setEth_out (k : Nat) (v : EthFacet) (s : State) : ((Act.setEth k v).run s).out = s.out := rfl

@[simp] theorem Act_setTim_fuse (k : Nat) (v : DieTime) (s : State) : ((Act.setTim k v).run s).fuse = s.fuse := rfl
@[simp] theorem Act_setTim_regs (k : Nat) (v : DieTime) (s : State) : ((Act.setTim k v).run s).regs = s.regs := rfl
@[simp] theorem Act_setTim_tbls (k : Nat) (v : DieTime) (s : State) : ((Act.setTim k v).run s).tbls = s.tbls := rfl
@[simp] theorem Act_setTim_mem (k : Nat) (v : DieTime) (s : State) : ((Act.setTim k v).run s).mem = s.mem := rfl
@[simp] theorem Act_setTim_flash (k : Nat) (v : DieTime) (s : State) : ((Act.setTim k v).run s).flash = s.flash := rfl
@[simp] theorem Act_setTim_evtNo (k : Nat) (v : DieTime) (s : State) : ((Act.setTim k v).run s).evtNo = s.evtNo := rfl
@[simp] theorem Act_setTim_sup (k : Nat) (v : DieTime) (s : State) : ((Act.setTim k v).run s).sup = s.sup := rfl
@[simp] theorem Act_setTim_prism (k : Nat) (v : DieTime) (s : State) : ((Act.setTim k v).run s).prism = s.prism := rfl
@[simp] theorem Act_setTim_start (k : Nat) (v : DieTime) (s : State) : ((Act.setTim k v).run s).start = s.start := rfl
@[simp] theorem Act_setTim_sw (k : Nat) (v : DieTime) (s : State) : ((Act.setTim k v).run s).sw = { s.sw with times := Sparse.put timBlank k v s.sw.times } := rfl
@[simp] theorem Act_setTim_out (k : Nat) (v : DieTime) (s : State) : ((Act.setTim k v).run s).out = s.out := rfl

@[simp] theorem Act_setBus_fuse (k : Nat) (v : List (Nat × Nat)) (s : State) : ((Act.setBus k v).run s).fuse = s.fuse := rfl
@[simp] theorem Act_setBus_regs (k : Nat) (v : List (Nat × Nat)) (s : State) : ((Act.setBus k v).run s).regs = s.regs := rfl
@[simp] theorem Act_setBus_tbls (k : Nat) (v : List (Nat × Nat)) (s : State) : ((Act.setBus k v).run s).tbls = s.tbls := rfl
@[simp] theorem Act_setBus_mem (k : Nat) (v : List (Nat × Nat)) (s : State) : ((Act.setBus k v).run s).mem = s.mem := rfl
@[simp] theorem Act_setBus_flash (k : Nat) (v : List (Nat × Nat)) (s : State) : ((Act.setBus k v).run s).flash = s.flash := rfl
@[simp] theorem Act_setBus_evtNo (k : Nat) (v : List (Nat × Nat)) (s : State) : ((Act.setBus k v).run s).evtNo = s.evtNo := rfl
@[simp] theorem Act_setBus_sup (k : Nat) (v : List (Nat × Nat)) (s : State) : ((Act.setBus k v).run s).sup = s.sup := rfl
@[simp] theorem Act_setBus_prism (k : Nat) (v : List (Nat × Nat)) (s : State) : ((Act.setBus k v).run s).prism = s.prism := rfl
@[simp] theorem Act_setBus_start (k : Nat) (v : List (Nat × Nat)) (s : State) : ((Act.setBus k v).run s).start = s.start := rfl
@[simp] theorem Act_setBus_sw (k : Nat) (v : List (Nat × Nat)) (s : State) : ((Act.setBus k v).run s).sw = { s.sw with mdio := Sparse.put busBlank k v s.sw.mdio } := rfl
@[simp] theorem Act_setBus_out (k : Nat) (v : List (Nat × Nat)) (s : State) : ((Act.setBus k v).run s).out = s.out := rfl

@[simp] theorem Act_setDie_fuse (k : Nat) (v : Nat) (s : State) : ((Act.setDie k v).run s).fuse = s.fuse := rfl
@[simp] theorem Act_setDie_regs (k : Nat) (v : Nat) (s : State) : ((Act.setDie k v).run s).regs = s.regs := rfl
@[simp] theorem Act_setDie_tbls (k : Nat) (v : Nat) (s : State) : ((Act.setDie k v).run s).tbls = s.tbls := rfl
@[simp] theorem Act_setDie_mem (k : Nat) (v : Nat) (s : State) : ((Act.setDie k v).run s).mem = s.mem := rfl
@[simp] theorem Act_setDie_flash (k : Nat) (v : Nat) (s : State) : ((Act.setDie k v).run s).flash = s.flash := rfl
@[simp] theorem Act_setDie_evtNo (k : Nat) (v : Nat) (s : State) : ((Act.setDie k v).run s).evtNo = s.evtNo := rfl
@[simp] theorem Act_setDie_sup (k : Nat) (v : Nat) (s : State) : ((Act.setDie k v).run s).sup = s.sup := rfl
@[simp] theorem Act_setDie_prism (k : Nat) (v : Nat) (s : State) : ((Act.setDie k v).run s).prism = s.prism := rfl
@[simp] theorem Act_setDie_start (k : Nat) (v : Nat) (s : State) : ((Act.setDie k v).run s).start = s.start := rfl
@[simp] theorem Act_setDie_sw (k : Nat) (v : Nat) (s : State) : ((Act.setDie k v).run s).sw = { s.sw with dieTime := Sparse.put dieBlank k v s.sw.dieTime } := rfl
@[simp] theorem Act_setDie_out (k : Nat) (v : Nat) (s : State) : ((Act.setDie k v).run s).out = s.out := rfl

@[simp] theorem Act_setFidNo_fuse (k : Nat) (v : Nat) (s : State) : ((Act.setFidNo k v).run s).fuse = s.fuse := rfl
@[simp] theorem Act_setFidNo_regs (k : Nat) (v : Nat) (s : State) : ((Act.setFidNo k v).run s).regs = s.regs := rfl
@[simp] theorem Act_setFidNo_tbls (k : Nat) (v : Nat) (s : State) : ((Act.setFidNo k v).run s).tbls = s.tbls := rfl
@[simp] theorem Act_setFidNo_mem (k : Nat) (v : Nat) (s : State) : ((Act.setFidNo k v).run s).mem = s.mem := rfl
@[simp] theorem Act_setFidNo_flash (k : Nat) (v : Nat) (s : State) : ((Act.setFidNo k v).run s).flash = s.flash := rfl
@[simp] theorem Act_setFidNo_evtNo (k : Nat) (v : Nat) (s : State) : ((Act.setFidNo k v).run s).evtNo = s.evtNo := rfl
@[simp] theorem Act_setFidNo_sup (k : Nat) (v : Nat) (s : State) : ((Act.setFidNo k v).run s).sup = s.sup := rfl
@[simp] theorem Act_setFidNo_prism (k : Nat) (v : Nat) (s : State) : ((Act.setFidNo k v).run s).prism = s.prism := rfl
@[simp] theorem Act_setFidNo_start (k : Nat) (v : Nat) (s : State) : ((Act.setFidNo k v).run s).start = s.start := rfl
@[simp] theorem Act_setFidNo_sw (k : Nat) (v : Nat) (s : State) : ((Act.setFidNo k v).run s).sw = { s.sw with fids := Sparse.put fidNoBlank k v s.sw.fids } := rfl
@[simp] theorem Act_setFidNo_out (k : Nat) (v : Nat) (s : State) : ((Act.setFidNo k v).run s).out = s.out := rfl

@[simp] theorem Act_setRecorder_fuse (k : Nat) (v : Recorder) (s : State) : ((Act.setRecorder k v).run s).fuse = s.fuse := rfl
@[simp] theorem Act_setRecorder_regs (k : Nat) (v : Recorder) (s : State) : ((Act.setRecorder k v).run s).regs = s.regs := rfl
@[simp] theorem Act_setRecorder_tbls (k : Nat) (v : Recorder) (s : State) : ((Act.setRecorder k v).run s).tbls = s.tbls := rfl
@[simp] theorem Act_setRecorder_mem (k : Nat) (v : Recorder) (s : State) : ((Act.setRecorder k v).run s).mem = s.mem := rfl
@[simp] theorem Act_setRecorder_flash (k : Nat) (v : Recorder) (s : State) : ((Act.setRecorder k v).run s).flash = s.flash := rfl
@[simp] theorem Act_setRecorder_evtNo (k : Nat) (v : Recorder) (s : State) : ((Act.setRecorder k v).run s).evtNo = s.evtNo := rfl
@[simp] theorem Act_setRecorder_sup (k : Nat) (v : Recorder) (s : State) : ((Act.setRecorder k v).run s).sup = s.sup := rfl
@[simp] theorem Act_setRecorder_prism (k : Nat) (v : Recorder) (s : State) : ((Act.setRecorder k v).run s).prism = s.prism := rfl
@[simp] theorem Act_setRecorder_start (k : Nat) (v : Recorder) (s : State) : ((Act.setRecorder k v).run s).start = s.start := rfl
@[simp] theorem Act_setRecorder_mon (k : Nat) (v : Recorder) (s : State) : ((Act.setRecorder k v).run s).mon = { s.mon with recorders := Sparse.put recorderBlank k v s.mon.recorders } := rfl
@[simp] theorem Act_setRecorder_out (k : Nat) (v : Recorder) (s : State) : ((Act.setRecorder k v).run s).out = s.out := rfl

@[simp] theorem Act_setRecLost_fuse (k : Nat) (v : Nat) (s : State) : ((Act.setRecLost k v).run s).fuse = s.fuse := rfl
@[simp] theorem Act_setRecLost_regs (k : Nat) (v : Nat) (s : State) : ((Act.setRecLost k v).run s).regs = s.regs := rfl
@[simp] theorem Act_setRecLost_tbls (k : Nat) (v : Nat) (s : State) : ((Act.setRecLost k v).run s).tbls = s.tbls := rfl
@[simp] theorem Act_setRecLost_mem (k : Nat) (v : Nat) (s : State) : ((Act.setRecLost k v).run s).mem = s.mem := rfl
@[simp] theorem Act_setRecLost_flash (k : Nat) (v : Nat) (s : State) : ((Act.setRecLost k v).run s).flash = s.flash := rfl
@[simp] theorem Act_setRecLost_evtNo (k : Nat) (v : Nat) (s : State) : ((Act.setRecLost k v).run s).evtNo = s.evtNo := rfl
@[simp] theorem Act_setRecLost_sup (k : Nat) (v : Nat) (s : State) : ((Act.setRecLost k v).run s).sup = s.sup := rfl
@[simp] theorem Act_setRecLost_prism (k : Nat) (v : Nat) (s : State) : ((Act.setRecLost k v).run s).prism = s.prism := rfl
@[simp] theorem Act_setRecLost_start (k : Nat) (v : Nat) (s : State) : ((Act.setRecLost k v).run s).start = s.start := rfl
@[simp] theorem Act_setRecLost_mon (k : Nat) (v : Nat) (s : State) : ((Act.setRecLost k v).run s).mon = { s.mon with recLoss := Sparse.put recLostBlank k v s.mon.recLoss } := rfl
@[simp] theorem Act_setRecLost_out (k : Nat) (v : Nat) (s : State) : ((Act.setRecLost k v).run s).out = s.out := rfl

@[simp] theorem Act_setKslot_fuse (k : Nat) (v : KeySlot) (s : State) : ((Act.setKslot k v).run s).fuse = s.fuse := rfl
@[simp] theorem Act_setKslot_regs (k : Nat) (v : KeySlot) (s : State) : ((Act.setKslot k v).run s).regs = s.regs := rfl
@[simp] theorem Act_setKslot_tbls (k : Nat) (v : KeySlot) (s : State) : ((Act.setKslot k v).run s).tbls = s.tbls := rfl
@[simp] theorem Act_setKslot_mem (k : Nat) (v : KeySlot) (s : State) : ((Act.setKslot k v).run s).mem = s.mem := rfl
@[simp] theorem Act_setKslot_flash (k : Nat) (v : KeySlot) (s : State) : ((Act.setKslot k v).run s).flash = s.flash := rfl
@[simp] theorem Act_setKslot_evtNo (k : Nat) (v : KeySlot) (s : State) : ((Act.setKslot k v).run s).evtNo = s.evtNo := rfl
@[simp] theorem Act_setKslot_sup (k : Nat) (v : KeySlot) (s : State) : ((Act.setKslot k v).run s).sup = s.sup := rfl
@[simp] theorem Act_setKslot_prism (k : Nat) (v : KeySlot) (s : State) : ((Act.setKslot k v).run s).prism = s.prism := rfl
@[simp] theorem Act_setKslot_start (k : Nat) (v : KeySlot) (s : State) : ((Act.setKslot k v).run s).start = s.start := rfl
@[simp] theorem Act_setKslot_sec (k : Nat) (v : KeySlot) (s : State) : ((Act.setKslot k v).run s).sec = { s.sec with slots := Sparse.put kslotBlank k v s.sec.slots } := rfl
@[simp] theorem Act_setKslot_out (k : Nat) (v : KeySlot) (s : State) : ((Act.setKslot k v).run s).out = s.out := rfl

@[simp] theorem Act_setKstore_fuse (k : Nat) (v : KeyStore) (s : State) : ((Act.setKstore k v).run s).fuse = s.fuse := rfl
@[simp] theorem Act_setKstore_regs (k : Nat) (v : KeyStore) (s : State) : ((Act.setKstore k v).run s).regs = s.regs := rfl
@[simp] theorem Act_setKstore_tbls (k : Nat) (v : KeyStore) (s : State) : ((Act.setKstore k v).run s).tbls = s.tbls := rfl
@[simp] theorem Act_setKstore_mem (k : Nat) (v : KeyStore) (s : State) : ((Act.setKstore k v).run s).mem = s.mem := rfl
@[simp] theorem Act_setKstore_flash (k : Nat) (v : KeyStore) (s : State) : ((Act.setKstore k v).run s).flash = s.flash := rfl
@[simp] theorem Act_setKstore_evtNo (k : Nat) (v : KeyStore) (s : State) : ((Act.setKstore k v).run s).evtNo = s.evtNo := rfl
@[simp] theorem Act_setKstore_sup (k : Nat) (v : KeyStore) (s : State) : ((Act.setKstore k v).run s).sup = s.sup := rfl
@[simp] theorem Act_setKstore_prism (k : Nat) (v : KeyStore) (s : State) : ((Act.setKstore k v).run s).prism = s.prism := rfl
@[simp] theorem Act_setKstore_start (k : Nat) (v : KeyStore) (s : State) : ((Act.setKstore k v).run s).start = s.start := rfl
@[simp] theorem Act_setKstore_sec (k : Nat) (v : KeyStore) (s : State) : ((Act.setKstore k v).run s).sec = { s.sec with stores := Sparse.put kstoreBlank k v s.sec.stores } := rfl
@[simp] theorem Act_setKstore_out (k : Nat) (v : KeyStore) (s : State) : ((Act.setKstore k v).run s).out = s.out := rfl

@[simp] theorem Act_setFresh_fuse (k : Nat) (v : Fresh) (s : State) : ((Act.setFresh k v).run s).fuse = s.fuse := rfl
@[simp] theorem Act_setFresh_regs (k : Nat) (v : Fresh) (s : State) : ((Act.setFresh k v).run s).regs = s.regs := rfl
@[simp] theorem Act_setFresh_tbls (k : Nat) (v : Fresh) (s : State) : ((Act.setFresh k v).run s).tbls = s.tbls := rfl
@[simp] theorem Act_setFresh_mem (k : Nat) (v : Fresh) (s : State) : ((Act.setFresh k v).run s).mem = s.mem := rfl
@[simp] theorem Act_setFresh_flash (k : Nat) (v : Fresh) (s : State) : ((Act.setFresh k v).run s).flash = s.flash := rfl
@[simp] theorem Act_setFresh_evtNo (k : Nat) (v : Fresh) (s : State) : ((Act.setFresh k v).run s).evtNo = s.evtNo := rfl
@[simp] theorem Act_setFresh_sup (k : Nat) (v : Fresh) (s : State) : ((Act.setFresh k v).run s).sup = s.sup := rfl
@[simp] theorem Act_setFresh_prism (k : Nat) (v : Fresh) (s : State) : ((Act.setFresh k v).run s).prism = s.prism := rfl
@[simp] theorem Act_setFresh_start (k : Nat) (v : Fresh) (s : State) : ((Act.setFresh k v).run s).start = s.start := rfl
@[simp] theorem Act_setFresh_sec (k : Nat) (v : Fresh) (s : State) : ((Act.setFresh k v).run s).sec = { s.sec with fresh := Sparse.put freshBlank k v s.sec.fresh } := rfl
@[simp] theorem Act_setFresh_out (k : Nat) (v : Fresh) (s : State) : ((Act.setFresh k v).run s).out = s.out := rfl

@[simp] theorem Act_setJob_fuse (k : Nat) (v : Option CipherJob) (s : State) : ((Act.setJob k v).run s).fuse = s.fuse := rfl
@[simp] theorem Act_setJob_regs (k : Nat) (v : Option CipherJob) (s : State) : ((Act.setJob k v).run s).regs = s.regs := rfl
@[simp] theorem Act_setJob_tbls (k : Nat) (v : Option CipherJob) (s : State) : ((Act.setJob k v).run s).tbls = s.tbls := rfl
@[simp] theorem Act_setJob_mem (k : Nat) (v : Option CipherJob) (s : State) : ((Act.setJob k v).run s).mem = s.mem := rfl
@[simp] theorem Act_setJob_flash (k : Nat) (v : Option CipherJob) (s : State) : ((Act.setJob k v).run s).flash = s.flash := rfl
@[simp] theorem Act_setJob_evtNo (k : Nat) (v : Option CipherJob) (s : State) : ((Act.setJob k v).run s).evtNo = s.evtNo := rfl
@[simp] theorem Act_setJob_sup (k : Nat) (v : Option CipherJob) (s : State) : ((Act.setJob k v).run s).sup = s.sup := rfl
@[simp] theorem Act_setJob_prism (k : Nat) (v : Option CipherJob) (s : State) : ((Act.setJob k v).run s).prism = s.prism := rfl
@[simp] theorem Act_setJob_start (k : Nat) (v : Option CipherJob) (s : State) : ((Act.setJob k v).run s).start = s.start := rfl
@[simp] theorem Act_setJob_sec (k : Nat) (v : Option CipherJob) (s : State) : ((Act.setJob k v).run s).sec = { s.sec with jobs := Sparse.put jobBlank k v s.sec.jobs } := rfl
@[simp] theorem Act_setJob_out (k : Nat) (v : Option CipherJob) (s : State) : ((Act.setJob k v).run s).out = s.out := rfl

@[simp] theorem Act_setLpmSeq_fuse (k : Nat) (v : Nat) (s : State) : ((Act.setLpmSeq k v).run s).fuse = s.fuse := rfl
@[simp] theorem Act_setLpmSeq_regs (k : Nat) (v : Nat) (s : State) : ((Act.setLpmSeq k v).run s).regs = s.regs := rfl
@[simp] theorem Act_setLpmSeq_tbls (k : Nat) (v : Nat) (s : State) : ((Act.setLpmSeq k v).run s).tbls = s.tbls := rfl
@[simp] theorem Act_setLpmSeq_mem (k : Nat) (v : Nat) (s : State) : ((Act.setLpmSeq k v).run s).mem = s.mem := rfl
@[simp] theorem Act_setLpmSeq_flash (k : Nat) (v : Nat) (s : State) : ((Act.setLpmSeq k v).run s).flash = s.flash := rfl
@[simp] theorem Act_setLpmSeq_evtNo (k : Nat) (v : Nat) (s : State) : ((Act.setLpmSeq k v).run s).evtNo = s.evtNo := rfl
@[simp] theorem Act_setLpmSeq_sup (k : Nat) (v : Nat) (s : State) : ((Act.setLpmSeq k v).run s).sup = s.sup := rfl
@[simp] theorem Act_setLpmSeq_prism (k : Nat) (v : Nat) (s : State) : ((Act.setLpmSeq k v).run s).prism = s.prism := rfl
@[simp] theorem Act_setLpmSeq_start (k : Nat) (v : Nat) (s : State) : ((Act.setLpmSeq k v).run s).start = s.start := rfl
@[simp] theorem Act_setLpmSeq_sw (k : Nat) (v : Nat) (s : State) : ((Act.setLpmSeq k v).run s).sw = { s.sw with lpmStamp := Sparse.put lpmSeqBlank k v s.sw.lpmStamp } := rfl
@[simp] theorem Act_setLpmSeq_out (k : Nat) (v : Nat) (s : State) : ((Act.setLpmSeq k v).run s).out = s.out := rfl

@[simp] theorem Act_setTjob_fuse (k : Nat) (v : Option TdmaJob) (s : State) : ((Act.setTjob k v).run s).fuse = s.fuse := rfl
@[simp] theorem Act_setTjob_regs (k : Nat) (v : Option TdmaJob) (s : State) : ((Act.setTjob k v).run s).regs = s.regs := rfl
@[simp] theorem Act_setTjob_tbls (k : Nat) (v : Option TdmaJob) (s : State) : ((Act.setTjob k v).run s).tbls = s.tbls := rfl
@[simp] theorem Act_setTjob_mem (k : Nat) (v : Option TdmaJob) (s : State) : ((Act.setTjob k v).run s).mem = s.mem := rfl
@[simp] theorem Act_setTjob_flash (k : Nat) (v : Option TdmaJob) (s : State) : ((Act.setTjob k v).run s).flash = s.flash := rfl
@[simp] theorem Act_setTjob_evtNo (k : Nat) (v : Option TdmaJob) (s : State) : ((Act.setTjob k v).run s).evtNo = s.evtNo := rfl
@[simp] theorem Act_setTjob_sup (k : Nat) (v : Option TdmaJob) (s : State) : ((Act.setTjob k v).run s).sup = s.sup := rfl
@[simp] theorem Act_setTjob_prism (k : Nat) (v : Option TdmaJob) (s : State) : ((Act.setTjob k v).run s).prism = s.prism := rfl
@[simp] theorem Act_setTjob_start (k : Nat) (v : Option TdmaJob) (s : State) : ((Act.setTjob k v).run s).start = s.start := rfl
@[simp] theorem Act_setTjob_sw (k : Nat) (v : Option TdmaJob) (s : State) : ((Act.setTjob k v).run s).sw = { s.sw with tdma := Sparse.put tjobBlank k v s.sw.tdma } := rfl
@[simp] theorem Act_setTjob_out (k : Nat) (v : Option TdmaJob) (s : State) : ((Act.setTjob k v).run s).out = s.out := rfl

@[simp] theorem Act_setCan_fuse (k : Nat) (v : CanCtl) (s : State) : ((Act.setCan k v).run s).fuse = s.fuse := rfl
@[simp] theorem Act_setCan_regs (k : Nat) (v : CanCtl) (s : State) : ((Act.setCan k v).run s).regs = s.regs := rfl
@[simp] theorem Act_setCan_tbls (k : Nat) (v : CanCtl) (s : State) : ((Act.setCan k v).run s).tbls = s.tbls := rfl
@[simp] theorem Act_setCan_mem (k : Nat) (v : CanCtl) (s : State) : ((Act.setCan k v).run s).mem = s.mem := rfl
@[simp] theorem Act_setCan_flash (k : Nat) (v : CanCtl) (s : State) : ((Act.setCan k v).run s).flash = s.flash := rfl
@[simp] theorem Act_setCan_evtNo (k : Nat) (v : CanCtl) (s : State) : ((Act.setCan k v).run s).evtNo = s.evtNo := rfl
@[simp] theorem Act_setCan_sup (k : Nat) (v : CanCtl) (s : State) : ((Act.setCan k v).run s).sup = s.sup := rfl
@[simp] theorem Act_setCan_prism (k : Nat) (v : CanCtl) (s : State) : ((Act.setCan k v).run s).prism = s.prism := rfl
@[simp] theorem Act_setCan_start (k : Nat) (v : CanCtl) (s : State) : ((Act.setCan k v).run s).start = s.start := rfl
@[simp] theorem Act_setCan_nets (k : Nat) (v : CanCtl) (s : State) : ((Act.setCan k v).run s).nets = { s.nets with cans := Sparse.put canBlank k v s.nets.cans } := rfl
@[simp] theorem Act_setCan_out (k : Nat) (v : CanCtl) (s : State) : ((Act.setCan k v).run s).out = s.out := rfl

@[simp] theorem Act_setTrk_fuse (k : Nat) (v : Option (Nat × Nat)) (s : State) : ((Act.setTrk k v).run s).fuse = s.fuse := rfl
@[simp] theorem Act_setTrk_regs (k : Nat) (v : Option (Nat × Nat)) (s : State) : ((Act.setTrk k v).run s).regs = s.regs := rfl
@[simp] theorem Act_setTrk_tbls (k : Nat) (v : Option (Nat × Nat)) (s : State) : ((Act.setTrk k v).run s).tbls = s.tbls := rfl
@[simp] theorem Act_setTrk_mem (k : Nat) (v : Option (Nat × Nat)) (s : State) : ((Act.setTrk k v).run s).mem = s.mem := rfl
@[simp] theorem Act_setTrk_flash (k : Nat) (v : Option (Nat × Nat)) (s : State) : ((Act.setTrk k v).run s).flash = s.flash := rfl
@[simp] theorem Act_setTrk_evtNo (k : Nat) (v : Option (Nat × Nat)) (s : State) : ((Act.setTrk k v).run s).evtNo = s.evtNo := rfl
@[simp] theorem Act_setTrk_sup (k : Nat) (v : Option (Nat × Nat)) (s : State) : ((Act.setTrk k v).run s).sup = s.sup := rfl
@[simp] theorem Act_setTrk_prism (k : Nat) (v : Option (Nat × Nat)) (s : State) : ((Act.setTrk k v).run s).prism = s.prism := rfl
@[simp] theorem Act_setTrk_start (k : Nat) (v : Option (Nat × Nat)) (s : State) : ((Act.setTrk k v).run s).start = s.start := rfl
@[simp] theorem Act_setTrk_nets (k : Nat) (v : Option (Nat × Nat)) (s : State) : ((Act.setTrk k v).run s).nets = { s.nets with trackers := Sparse.put trkBlank k v s.nets.trackers } := rfl
@[simp] theorem Act_setTrk_out (k : Nat) (v : Option (Nat × Nat)) (s : State) : ((Act.setTrk k v).run s).out = s.out := rfl

@[simp] theorem Act_setLin_fuse (k : Nat) (v : LinCtl) (s : State) : ((Act.setLin k v).run s).fuse = s.fuse := rfl
@[simp] theorem Act_setLin_regs (k : Nat) (v : LinCtl) (s : State) : ((Act.setLin k v).run s).regs = s.regs := rfl
@[simp] theorem Act_setLin_tbls (k : Nat) (v : LinCtl) (s : State) : ((Act.setLin k v).run s).tbls = s.tbls := rfl
@[simp] theorem Act_setLin_mem (k : Nat) (v : LinCtl) (s : State) : ((Act.setLin k v).run s).mem = s.mem := rfl
@[simp] theorem Act_setLin_flash (k : Nat) (v : LinCtl) (s : State) : ((Act.setLin k v).run s).flash = s.flash := rfl
@[simp] theorem Act_setLin_evtNo (k : Nat) (v : LinCtl) (s : State) : ((Act.setLin k v).run s).evtNo = s.evtNo := rfl
@[simp] theorem Act_setLin_sup (k : Nat) (v : LinCtl) (s : State) : ((Act.setLin k v).run s).sup = s.sup := rfl
@[simp] theorem Act_setLin_prism (k : Nat) (v : LinCtl) (s : State) : ((Act.setLin k v).run s).prism = s.prism := rfl
@[simp] theorem Act_setLin_start (k : Nat) (v : LinCtl) (s : State) : ((Act.setLin k v).run s).start = s.start := rfl
@[simp] theorem Act_setLin_nets (k : Nat) (v : LinCtl) (s : State) : ((Act.setLin k v).run s).nets = { s.nets with lins := Sparse.put linBlank k v s.nets.lins } := rfl
@[simp] theorem Act_setLin_out (k : Nat) (v : LinCtl) (s : State) : ((Act.setLin k v).run s).out = s.out := rfl

@[simp] theorem Act_setPub_fuse (k : Nat) (v : Nat × Bool) (s : State) : ((Act.setPub k v).run s).fuse = s.fuse := rfl
@[simp] theorem Act_setPub_regs (k : Nat) (v : Nat × Bool) (s : State) : ((Act.setPub k v).run s).regs = s.regs := rfl
@[simp] theorem Act_setPub_tbls (k : Nat) (v : Nat × Bool) (s : State) : ((Act.setPub k v).run s).tbls = s.tbls := rfl
@[simp] theorem Act_setPub_mem (k : Nat) (v : Nat × Bool) (s : State) : ((Act.setPub k v).run s).mem = s.mem := rfl
@[simp] theorem Act_setPub_flash (k : Nat) (v : Nat × Bool) (s : State) : ((Act.setPub k v).run s).flash = s.flash := rfl
@[simp] theorem Act_setPub_evtNo (k : Nat) (v : Nat × Bool) (s : State) : ((Act.setPub k v).run s).evtNo = s.evtNo := rfl
@[simp] theorem Act_setPub_sup (k : Nat) (v : Nat × Bool) (s : State) : ((Act.setPub k v).run s).sup = s.sup := rfl
@[simp] theorem Act_setPub_prism (k : Nat) (v : Nat × Bool) (s : State) : ((Act.setPub k v).run s).prism = s.prism := rfl
@[simp] theorem Act_setPub_start (k : Nat) (v : Nat × Bool) (s : State) : ((Act.setPub k v).run s).start = s.start := rfl
@[simp] theorem Act_setPub_nets (k : Nat) (v : Nat × Bool) (s : State) : ((Act.setPub k v).run s).nets = { s.nets with pubs := Sparse.put pubBlank k v s.nets.pubs } := rfl
@[simp] theorem Act_setPub_out (k : Nat) (v : Nat × Bool) (s : State) : ((Act.setPub k v).run s).out = s.out := rfl

@[simp] theorem Act_setXcvr_fuse (k : Nat) (v : Xcvr) (s : State) : ((Act.setXcvr k v).run s).fuse = s.fuse := rfl
@[simp] theorem Act_setXcvr_regs (k : Nat) (v : Xcvr) (s : State) : ((Act.setXcvr k v).run s).regs = s.regs := rfl
@[simp] theorem Act_setXcvr_tbls (k : Nat) (v : Xcvr) (s : State) : ((Act.setXcvr k v).run s).tbls = s.tbls := rfl
@[simp] theorem Act_setXcvr_mem (k : Nat) (v : Xcvr) (s : State) : ((Act.setXcvr k v).run s).mem = s.mem := rfl
@[simp] theorem Act_setXcvr_flash (k : Nat) (v : Xcvr) (s : State) : ((Act.setXcvr k v).run s).flash = s.flash := rfl
@[simp] theorem Act_setXcvr_evtNo (k : Nat) (v : Xcvr) (s : State) : ((Act.setXcvr k v).run s).evtNo = s.evtNo := rfl
@[simp] theorem Act_setXcvr_sup (k : Nat) (v : Xcvr) (s : State) : ((Act.setXcvr k v).run s).sup = s.sup := rfl
@[simp] theorem Act_setXcvr_prism (k : Nat) (v : Xcvr) (s : State) : ((Act.setXcvr k v).run s).prism = s.prism := rfl
@[simp] theorem Act_setXcvr_start (k : Nat) (v : Xcvr) (s : State) : ((Act.setXcvr k v).run s).start = s.start := rfl
@[simp] theorem Act_setXcvr_nets (k : Nat) (v : Xcvr) (s : State) : ((Act.setXcvr k v).run s).nets = { s.nets with xcvrs := Sparse.put xcvrBlank k v s.nets.xcvrs } := rfl
@[simp] theorem Act_setXcvr_out (k : Nat) (v : Xcvr) (s : State) : ((Act.setXcvr k v).run s).out = s.out := rfl

@[simp] theorem Act_setLinOver_fuse (k : Nat) (v : Bool) (s : State) : ((Act.setLinOver k v).run s).fuse = s.fuse := rfl
@[simp] theorem Act_setLinOver_regs (k : Nat) (v : Bool) (s : State) : ((Act.setLinOver k v).run s).regs = s.regs := rfl
@[simp] theorem Act_setLinOver_tbls (k : Nat) (v : Bool) (s : State) : ((Act.setLinOver k v).run s).tbls = s.tbls := rfl
@[simp] theorem Act_setLinOver_mem (k : Nat) (v : Bool) (s : State) : ((Act.setLinOver k v).run s).mem = s.mem := rfl
@[simp] theorem Act_setLinOver_flash (k : Nat) (v : Bool) (s : State) : ((Act.setLinOver k v).run s).flash = s.flash := rfl
@[simp] theorem Act_setLinOver_evtNo (k : Nat) (v : Bool) (s : State) : ((Act.setLinOver k v).run s).evtNo = s.evtNo := rfl
@[simp] theorem Act_setLinOver_sup (k : Nat) (v : Bool) (s : State) : ((Act.setLinOver k v).run s).sup = s.sup := rfl
@[simp] theorem Act_setLinOver_prism (k : Nat) (v : Bool) (s : State) : ((Act.setLinOver k v).run s).prism = s.prism := rfl
@[simp] theorem Act_setLinOver_start (k : Nat) (v : Bool) (s : State) : ((Act.setLinOver k v).run s).start = s.start := rfl
@[simp] theorem Act_setLinOver_nets (k : Nat) (v : Bool) (s : State) : ((Act.setLinOver k v).run s).nets = { s.nets with linHigh := Sparse.put linOverBlank k v s.nets.linHigh } := rfl
@[simp] theorem Act_setLinOver_out (k : Nat) (v : Bool) (s : State) : ((Act.setLinOver k v).run s).out = s.out := rfl

@[simp] theorem Act_setSig_fuse (k : Nat) (v : Nat × Nat) (s : State) : ((Act.setSig k v).run s).fuse = s.fuse := rfl
@[simp] theorem Act_setSig_regs (k : Nat) (v : Nat × Nat) (s : State) : ((Act.setSig k v).run s).regs = s.regs := rfl
@[simp] theorem Act_setSig_tbls (k : Nat) (v : Nat × Nat) (s : State) : ((Act.setSig k v).run s).tbls = s.tbls := rfl
@[simp] theorem Act_setSig_mem (k : Nat) (v : Nat × Nat) (s : State) : ((Act.setSig k v).run s).mem = s.mem := rfl
@[simp] theorem Act_setSig_flash (k : Nat) (v : Nat × Nat) (s : State) : ((Act.setSig k v).run s).flash = s.flash := rfl
@[simp] theorem Act_setSig_evtNo (k : Nat) (v : Nat × Nat) (s : State) : ((Act.setSig k v).run s).evtNo = s.evtNo := rfl
@[simp] theorem Act_setSig_sup (k : Nat) (v : Nat × Nat) (s : State) : ((Act.setSig k v).run s).sup = s.sup := rfl
@[simp] theorem Act_setSig_prism (k : Nat) (v : Nat × Nat) (s : State) : ((Act.setSig k v).run s).prism = s.prism := rfl
@[simp] theorem Act_setSig_start (k : Nat) (v : Nat × Nat) (s : State) : ((Act.setSig k v).run s).start = s.start := rfl
@[simp] theorem Act_setSig_gw (k : Nat) (v : Nat × Nat) (s : State) : ((Act.setSig k v).run s).gw = { s.gw with sigs := Sparse.put sigBlank k v s.gw.sigs } := rfl
@[simp] theorem Act_setSig_out (k : Nat) (v : Nat × Nat) (s : State) : ((Act.setSig k v).run s).out = s.out := rfl

@[simp] theorem Act_setPdu_fuse (k : Nat) (v : PduRun) (s : State) : ((Act.setPdu k v).run s).fuse = s.fuse := rfl
@[simp] theorem Act_setPdu_regs (k : Nat) (v : PduRun) (s : State) : ((Act.setPdu k v).run s).regs = s.regs := rfl
@[simp] theorem Act_setPdu_tbls (k : Nat) (v : PduRun) (s : State) : ((Act.setPdu k v).run s).tbls = s.tbls := rfl
@[simp] theorem Act_setPdu_mem (k : Nat) (v : PduRun) (s : State) : ((Act.setPdu k v).run s).mem = s.mem := rfl
@[simp] theorem Act_setPdu_flash (k : Nat) (v : PduRun) (s : State) : ((Act.setPdu k v).run s).flash = s.flash := rfl
@[simp] theorem Act_setPdu_evtNo (k : Nat) (v : PduRun) (s : State) : ((Act.setPdu k v).run s).evtNo = s.evtNo := rfl
@[simp] theorem Act_setPdu_sup (k : Nat) (v : PduRun) (s : State) : ((Act.setPdu k v).run s).sup = s.sup := rfl
@[simp] theorem Act_setPdu_prism (k : Nat) (v : PduRun) (s : State) : ((Act.setPdu k v).run s).prism = s.prism := rfl
@[simp] theorem Act_setPdu_start (k : Nat) (v : PduRun) (s : State) : ((Act.setPdu k v).run s).start = s.start := rfl
@[simp] theorem Act_setPdu_gw (k : Nat) (v : PduRun) (s : State) : ((Act.setPdu k v).run s).gw = { s.gw with pdus := Sparse.put pduBlank k v s.gw.pdus } := rfl
@[simp] theorem Act_setPdu_out (k : Nat) (v : PduRun) (s : State) : ((Act.setPdu k v).run s).out = s.out := rfl

@[simp] theorem Act_setCad_fuse (k : Nat) (v : Option Nat) (s : State) : ((Act.setCad k v).run s).fuse = s.fuse := rfl
@[simp] theorem Act_setCad_regs (k : Nat) (v : Option Nat) (s : State) : ((Act.setCad k v).run s).regs = s.regs := rfl
@[simp] theorem Act_setCad_tbls (k : Nat) (v : Option Nat) (s : State) : ((Act.setCad k v).run s).tbls = s.tbls := rfl
@[simp] theorem Act_setCad_mem (k : Nat) (v : Option Nat) (s : State) : ((Act.setCad k v).run s).mem = s.mem := rfl
@[simp] theorem Act_setCad_flash (k : Nat) (v : Option Nat) (s : State) : ((Act.setCad k v).run s).flash = s.flash := rfl
@[simp] theorem Act_setCad_evtNo (k : Nat) (v : Option Nat) (s : State) : ((Act.setCad k v).run s).evtNo = s.evtNo := rfl
@[simp] theorem Act_setCad_sup (k : Nat) (v : Option Nat) (s : State) : ((Act.setCad k v).run s).sup = s.sup := rfl
@[simp] theorem Act_setCad_prism (k : Nat) (v : Option Nat) (s : State) : ((Act.setCad k v).run s).prism = s.prism := rfl
@[simp] theorem Act_setCad_start (k : Nat) (v : Option Nat) (s : State) : ((Act.setCad k v).run s).start = s.start := rfl
@[simp] theorem Act_setCad_gw (k : Nat) (v : Option Nat) (s : State) : ((Act.setCad k v).run s).gw = { s.gw with cadences := Sparse.put cadBlank k v s.gw.cadences } := rfl
@[simp] theorem Act_setCad_out (k : Nat) (v : Option Nat) (s : State) : ((Act.setCad k v).run s).out = s.out := rfl

@[simp] theorem Act_setTun_fuse (k : Nat) (v : Tunnel) (s : State) : ((Act.setTun k v).run s).fuse = s.fuse := rfl
@[simp] theorem Act_setTun_regs (k : Nat) (v : Tunnel) (s : State) : ((Act.setTun k v).run s).regs = s.regs := rfl
@[simp] theorem Act_setTun_tbls (k : Nat) (v : Tunnel) (s : State) : ((Act.setTun k v).run s).tbls = s.tbls := rfl
@[simp] theorem Act_setTun_mem (k : Nat) (v : Tunnel) (s : State) : ((Act.setTun k v).run s).mem = s.mem := rfl
@[simp] theorem Act_setTun_flash (k : Nat) (v : Tunnel) (s : State) : ((Act.setTun k v).run s).flash = s.flash := rfl
@[simp] theorem Act_setTun_evtNo (k : Nat) (v : Tunnel) (s : State) : ((Act.setTun k v).run s).evtNo = s.evtNo := rfl
@[simp] theorem Act_setTun_sup (k : Nat) (v : Tunnel) (s : State) : ((Act.setTun k v).run s).sup = s.sup := rfl
@[simp] theorem Act_setTun_prism (k : Nat) (v : Tunnel) (s : State) : ((Act.setTun k v).run s).prism = s.prism := rfl
@[simp] theorem Act_setTun_start (k : Nat) (v : Tunnel) (s : State) : ((Act.setTun k v).run s).start = s.start := rfl
@[simp] theorem Act_setTun_gw (k : Nat) (v : Tunnel) (s : State) : ((Act.setTun k v).run s).gw = { s.gw with tunnels := Sparse.put tunBlank k v s.gw.tunnels } := rfl
@[simp] theorem Act_setTun_out (k : Nat) (v : Tunnel) (s : State) : ((Act.setTun k v).run s).out = s.out := rfl

@[simp] theorem Act_setSess_fuse (k : Nat) (v : List Session) (s : State) : ((Act.setSess k v).run s).fuse = s.fuse := rfl
@[simp] theorem Act_setSess_regs (k : Nat) (v : List Session) (s : State) : ((Act.setSess k v).run s).regs = s.regs := rfl
@[simp] theorem Act_setSess_tbls (k : Nat) (v : List Session) (s : State) : ((Act.setSess k v).run s).tbls = s.tbls := rfl
@[simp] theorem Act_setSess_mem (k : Nat) (v : List Session) (s : State) : ((Act.setSess k v).run s).mem = s.mem := rfl
@[simp] theorem Act_setSess_flash (k : Nat) (v : List Session) (s : State) : ((Act.setSess k v).run s).flash = s.flash := rfl
@[simp] theorem Act_setSess_evtNo (k : Nat) (v : List Session) (s : State) : ((Act.setSess k v).run s).evtNo = s.evtNo := rfl
@[simp] theorem Act_setSess_sup (k : Nat) (v : List Session) (s : State) : ((Act.setSess k v).run s).sup = s.sup := rfl
@[simp] theorem Act_setSess_prism (k : Nat) (v : List Session) (s : State) : ((Act.setSess k v).run s).prism = s.prism := rfl
@[simp] theorem Act_setSess_start (k : Nat) (v : List Session) (s : State) : ((Act.setSess k v).run s).start = s.start := rfl
@[simp] theorem Act_setSess_gw (k : Nat) (v : List Session) (s : State) : ((Act.setSess k v).run s).gw = { s.gw with sessions := Sparse.put sessBlank k v s.gw.sessions } := rfl
@[simp] theorem Act_setSess_out (k : Nat) (v : List Session) (s : State) : ((Act.setSess k v).run s).out = s.out := rfl

@[simp] theorem Act_setByp_fuse (k : Nat) (v : List Bypass) (s : State) : ((Act.setByp k v).run s).fuse = s.fuse := rfl
@[simp] theorem Act_setByp_regs (k : Nat) (v : List Bypass) (s : State) : ((Act.setByp k v).run s).regs = s.regs := rfl
@[simp] theorem Act_setByp_tbls (k : Nat) (v : List Bypass) (s : State) : ((Act.setByp k v).run s).tbls = s.tbls := rfl
@[simp] theorem Act_setByp_mem (k : Nat) (v : List Bypass) (s : State) : ((Act.setByp k v).run s).mem = s.mem := rfl
@[simp] theorem Act_setByp_flash (k : Nat) (v : List Bypass) (s : State) : ((Act.setByp k v).run s).flash = s.flash := rfl
@[simp] theorem Act_setByp_evtNo (k : Nat) (v : List Bypass) (s : State) : ((Act.setByp k v).run s).evtNo = s.evtNo := rfl
@[simp] theorem Act_setByp_sup (k : Nat) (v : List Bypass) (s : State) : ((Act.setByp k v).run s).sup = s.sup := rfl
@[simp] theorem Act_setByp_prism (k : Nat) (v : List Bypass) (s : State) : ((Act.setByp k v).run s).prism = s.prism := rfl
@[simp] theorem Act_setByp_start (k : Nat) (v : List Bypass) (s : State) : ((Act.setByp k v).run s).start = s.start := rfl
@[simp] theorem Act_setByp_gw (k : Nat) (v : List Bypass) (s : State) : ((Act.setByp k v).run s).gw = { s.gw with bypasses := Sparse.put bypBlank k v s.gw.bypasses } := rfl
@[simp] theorem Act_setByp_out (k : Nat) (v : List Bypass) (s : State) : ((Act.setByp k v).run s).out = s.out := rfl

@[simp] theorem Act_setWpend_fuse (k : Nat) (v : List WinPend) (s : State) : ((Act.setWpend k v).run s).fuse = s.fuse := rfl
@[simp] theorem Act_setWpend_regs (k : Nat) (v : List WinPend) (s : State) : ((Act.setWpend k v).run s).regs = s.regs := rfl
@[simp] theorem Act_setWpend_tbls (k : Nat) (v : List WinPend) (s : State) : ((Act.setWpend k v).run s).tbls = s.tbls := rfl
@[simp] theorem Act_setWpend_mem (k : Nat) (v : List WinPend) (s : State) : ((Act.setWpend k v).run s).mem = s.mem := rfl
@[simp] theorem Act_setWpend_flash (k : Nat) (v : List WinPend) (s : State) : ((Act.setWpend k v).run s).flash = s.flash := rfl
@[simp] theorem Act_setWpend_evtNo (k : Nat) (v : List WinPend) (s : State) : ((Act.setWpend k v).run s).evtNo = s.evtNo := rfl
@[simp] theorem Act_setWpend_sup (k : Nat) (v : List WinPend) (s : State) : ((Act.setWpend k v).run s).sup = s.sup := rfl
@[simp] theorem Act_setWpend_prism (k : Nat) (v : List WinPend) (s : State) : ((Act.setWpend k v).run s).prism = s.prism := rfl
@[simp] theorem Act_setWpend_start (k : Nat) (v : List WinPend) (s : State) : ((Act.setWpend k v).run s).start = s.start := rfl
@[simp] theorem Act_setWpend_gw (k : Nat) (v : List WinPend) (s : State) : ((Act.setWpend k v).run s).gw = { s.gw with winPends := Sparse.put wpendBlank k v s.gw.winPends } := rfl
@[simp] theorem Act_setWpend_out (k : Nat) (v : List WinPend) (s : State) : ((Act.setWpend k v).run s).out = s.out := rfl

@[simp] theorem Act_setWpost_fuse (k : Nat) (v : List WinPost) (s : State) : ((Act.setWpost k v).run s).fuse = s.fuse := rfl
@[simp] theorem Act_setWpost_regs (k : Nat) (v : List WinPost) (s : State) : ((Act.setWpost k v).run s).regs = s.regs := rfl
@[simp] theorem Act_setWpost_tbls (k : Nat) (v : List WinPost) (s : State) : ((Act.setWpost k v).run s).tbls = s.tbls := rfl
@[simp] theorem Act_setWpost_mem (k : Nat) (v : List WinPost) (s : State) : ((Act.setWpost k v).run s).mem = s.mem := rfl
@[simp] theorem Act_setWpost_flash (k : Nat) (v : List WinPost) (s : State) : ((Act.setWpost k v).run s).flash = s.flash := rfl
@[simp] theorem Act_setWpost_evtNo (k : Nat) (v : List WinPost) (s : State) : ((Act.setWpost k v).run s).evtNo = s.evtNo := rfl
@[simp] theorem Act_setWpost_sup (k : Nat) (v : List WinPost) (s : State) : ((Act.setWpost k v).run s).sup = s.sup := rfl
@[simp] theorem Act_setWpost_prism (k : Nat) (v : List WinPost) (s : State) : ((Act.setWpost k v).run s).prism = s.prism := rfl
@[simp] theorem Act_setWpost_start (k : Nat) (v : List WinPost) (s : State) : ((Act.setWpost k v).run s).start = s.start := rfl
@[simp] theorem Act_setWpost_gw (k : Nat) (v : List WinPost) (s : State) : ((Act.setWpost k v).run s).gw = { s.gw with winPosts := Sparse.put wpostBlank k v s.gw.winPosts } := rfl
@[simp] theorem Act_setWpost_out (k : Nat) (v : List WinPost) (s : State) : ((Act.setWpost k v).run s).out = s.out := rfl

@[simp] theorem Act_setMember_fuse (k : Nat) (v : Option Member) (s : State) : ((Act.setMember k v).run s).fuse = s.fuse := rfl
@[simp] theorem Act_setMember_regs (k : Nat) (v : Option Member) (s : State) : ((Act.setMember k v).run s).regs = s.regs := rfl
@[simp] theorem Act_setMember_tbls (k : Nat) (v : Option Member) (s : State) : ((Act.setMember k v).run s).tbls = s.tbls := rfl
@[simp] theorem Act_setMember_mem (k : Nat) (v : Option Member) (s : State) : ((Act.setMember k v).run s).mem = s.mem := rfl
@[simp] theorem Act_setMember_flash (k : Nat) (v : Option Member) (s : State) : ((Act.setMember k v).run s).flash = s.flash := rfl
@[simp] theorem Act_setMember_evtNo (k : Nat) (v : Option Member) (s : State) : ((Act.setMember k v).run s).evtNo = s.evtNo := rfl
@[simp] theorem Act_setMember_sup (k : Nat) (v : Option Member) (s : State) : ((Act.setMember k v).run s).sup = s.sup := rfl
@[simp] theorem Act_setMember_prism (k : Nat) (v : Option Member) (s : State) : ((Act.setMember k v).run s).prism = s.prism := rfl
@[simp] theorem Act_setMember_start (k : Nat) (v : Option Member) (s : State) : ((Act.setMember k v).run s).start = s.start := rfl
@[simp] theorem Act_setMember_plx (k : Nat) (v : Option Member) (s : State) : ((Act.setMember k v).run s).plx = { s.plx with members := Sparse.put memberBlank k v s.plx.members } := rfl
@[simp] theorem Act_setMember_out (k : Nat) (v : Option Member) (s : State) : ((Act.setMember k v).run s).out = s.out := rfl

@[simp] theorem Act_setCens_fuse (k : Nat) (v : Option (Nat × Nat)) (s : State) : ((Act.setCens k v).run s).fuse = s.fuse := rfl
@[simp] theorem Act_setCens_regs (k : Nat) (v : Option (Nat × Nat)) (s : State) : ((Act.setCens k v).run s).regs = s.regs := rfl
@[simp] theorem Act_setCens_tbls (k : Nat) (v : Option (Nat × Nat)) (s : State) : ((Act.setCens k v).run s).tbls = s.tbls := rfl
@[simp] theorem Act_setCens_mem (k : Nat) (v : Option (Nat × Nat)) (s : State) : ((Act.setCens k v).run s).mem = s.mem := rfl
@[simp] theorem Act_setCens_flash (k : Nat) (v : Option (Nat × Nat)) (s : State) : ((Act.setCens k v).run s).flash = s.flash := rfl
@[simp] theorem Act_setCens_evtNo (k : Nat) (v : Option (Nat × Nat)) (s : State) : ((Act.setCens k v).run s).evtNo = s.evtNo := rfl
@[simp] theorem Act_setCens_sup (k : Nat) (v : Option (Nat × Nat)) (s : State) : ((Act.setCens k v).run s).sup = s.sup := rfl
@[simp] theorem Act_setCens_prism (k : Nat) (v : Option (Nat × Nat)) (s : State) : ((Act.setCens k v).run s).prism = s.prism := rfl
@[simp] theorem Act_setCens_start (k : Nat) (v : Option (Nat × Nat)) (s : State) : ((Act.setCens k v).run s).start = s.start := rfl
@[simp] theorem Act_setCens_plx (k : Nat) (v : Option (Nat × Nat)) (s : State) : ((Act.setCens k v).run s).plx = { s.plx with census := Sparse.put censBlank k v s.plx.census } := rfl
@[simp] theorem Act_setCens_out (k : Nat) (v : Option (Nat × Nat)) (s : State) : ((Act.setCens k v).run s).out = s.out := rfl

@[simp] theorem Act_setChan_fuse (k : Nat) (v : Channel) (s : State) : ((Act.setChan k v).run s).fuse = s.fuse := rfl
@[simp] theorem Act_setChan_regs (k : Nat) (v : Channel) (s : State) : ((Act.setChan k v).run s).regs = s.regs := rfl
@[simp] theorem Act_setChan_tbls (k : Nat) (v : Channel) (s : State) : ((Act.setChan k v).run s).tbls = s.tbls := rfl
@[simp] theorem Act_setChan_mem (k : Nat) (v : Channel) (s : State) : ((Act.setChan k v).run s).mem = s.mem := rfl
@[simp] theorem Act_setChan_flash (k : Nat) (v : Channel) (s : State) : ((Act.setChan k v).run s).flash = s.flash := rfl
@[simp] theorem Act_setChan_evtNo (k : Nat) (v : Channel) (s : State) : ((Act.setChan k v).run s).evtNo = s.evtNo := rfl
@[simp] theorem Act_setChan_sup (k : Nat) (v : Channel) (s : State) : ((Act.setChan k v).run s).sup = s.sup := rfl
@[simp] theorem Act_setChan_prism (k : Nat) (v : Channel) (s : State) : ((Act.setChan k v).run s).prism = s.prism := rfl
@[simp] theorem Act_setChan_start (k : Nat) (v : Channel) (s : State) : ((Act.setChan k v).run s).start = s.start := rfl
@[simp] theorem Act_setChan_io (k : Nat) (v : Channel) (s : State) : ((Act.setChan k v).run s).io = { s.io with chans := Sparse.put chanBlank k v s.io.chans } := rfl
@[simp] theorem Act_setChan_out (k : Nat) (v : Channel) (s : State) : ((Act.setChan k v).run s).out = s.out := rfl

@[simp] theorem Act_setDrv_fuse (k : Nat) (v : DriveDie) (s : State) : ((Act.setDrv k v).run s).fuse = s.fuse := rfl
@[simp] theorem Act_setDrv_regs (k : Nat) (v : DriveDie) (s : State) : ((Act.setDrv k v).run s).regs = s.regs := rfl
@[simp] theorem Act_setDrv_tbls (k : Nat) (v : DriveDie) (s : State) : ((Act.setDrv k v).run s).tbls = s.tbls := rfl
@[simp] theorem Act_setDrv_mem (k : Nat) (v : DriveDie) (s : State) : ((Act.setDrv k v).run s).mem = s.mem := rfl
@[simp] theorem Act_setDrv_flash (k : Nat) (v : DriveDie) (s : State) : ((Act.setDrv k v).run s).flash = s.flash := rfl
@[simp] theorem Act_setDrv_evtNo (k : Nat) (v : DriveDie) (s : State) : ((Act.setDrv k v).run s).evtNo = s.evtNo := rfl
@[simp] theorem Act_setDrv_sup (k : Nat) (v : DriveDie) (s : State) : ((Act.setDrv k v).run s).sup = s.sup := rfl
@[simp] theorem Act_setDrv_prism (k : Nat) (v : DriveDie) (s : State) : ((Act.setDrv k v).run s).prism = s.prism := rfl
@[simp] theorem Act_setDrv_start (k : Nat) (v : DriveDie) (s : State) : ((Act.setDrv k v).run s).start = s.start := rfl
@[simp] theorem Act_setDrv_io (k : Nat) (v : DriveDie) (s : State) : ((Act.setDrv k v).run s).io = { s.io with drives := Sparse.put drvBlank k v s.io.drives } := rfl
@[simp] theorem Act_setDrv_out (k : Nat) (v : DriveDie) (s : State) : ((Act.setDrv k v).run s).out = s.out := rfl

@[simp] theorem Act_setPnet_fuse (k : Nat) (v : PartNet) (s : State) : ((Act.setPnet k v).run s).fuse = s.fuse := rfl
@[simp] theorem Act_setPnet_regs (k : Nat) (v : PartNet) (s : State) : ((Act.setPnet k v).run s).regs = s.regs := rfl
@[simp] theorem Act_setPnet_tbls (k : Nat) (v : PartNet) (s : State) : ((Act.setPnet k v).run s).tbls = s.tbls := rfl
@[simp] theorem Act_setPnet_mem (k : Nat) (v : PartNet) (s : State) : ((Act.setPnet k v).run s).mem = s.mem := rfl
@[simp] theorem Act_setPnet_flash (k : Nat) (v : PartNet) (s : State) : ((Act.setPnet k v).run s).flash = s.flash := rfl
@[simp] theorem Act_setPnet_evtNo (k : Nat) (v : PartNet) (s : State) : ((Act.setPnet k v).run s).evtNo = s.evtNo := rfl
@[simp] theorem Act_setPnet_sup (k : Nat) (v : PartNet) (s : State) : ((Act.setPnet k v).run s).sup = s.sup := rfl
@[simp] theorem Act_setPnet_prism (k : Nat) (v : PartNet) (s : State) : ((Act.setPnet k v).run s).prism = s.prism := rfl
@[simp] theorem Act_setPnet_start (k : Nat) (v : PartNet) (s : State) : ((Act.setPnet k v).run s).start = s.start := rfl
@[simp] theorem Act_setPnet_io (k : Nat) (v : PartNet) (s : State) : ((Act.setPnet k v).run s).io = { s.io with pnets := Sparse.put pnetBlank k v s.io.pnets } := rfl
@[simp] theorem Act_setPnet_out (k : Nat) (v : PartNet) (s : State) : ((Act.setPnet k v).run s).out = s.out := rfl

@[simp] theorem Act_setPart_fuse (k : Nat) (v : Partition) (s : State) : ((Act.setPart k v).run s).fuse = s.fuse := rfl
@[simp] theorem Act_setPart_regs (k : Nat) (v : Partition) (s : State) : ((Act.setPart k v).run s).regs = s.regs := rfl
@[simp] theorem Act_setPart_tbls (k : Nat) (v : Partition) (s : State) : ((Act.setPart k v).run s).tbls = s.tbls := rfl
@[simp] theorem Act_setPart_mem (k : Nat) (v : Partition) (s : State) : ((Act.setPart k v).run s).mem = s.mem := rfl
@[simp] theorem Act_setPart_flash (k : Nat) (v : Partition) (s : State) : ((Act.setPart k v).run s).flash = s.flash := rfl
@[simp] theorem Act_setPart_evtNo (k : Nat) (v : Partition) (s : State) : ((Act.setPart k v).run s).evtNo = s.evtNo := rfl
@[simp] theorem Act_setPart_sup (k : Nat) (v : Partition) (s : State) : ((Act.setPart k v).run s).sup = s.sup := rfl
@[simp] theorem Act_setPart_prism (k : Nat) (v : Partition) (s : State) : ((Act.setPart k v).run s).prism = s.prism := rfl
@[simp] theorem Act_setPart_start (k : Nat) (v : Partition) (s : State) : ((Act.setPart k v).run s).start = s.start := rfl
@[simp] theorem Act_setPart_cpu (k : Nat) (v : Partition) (s : State) : ((Act.setPart k v).run s).cpu = { s.cpu with parts := Sparse.put partBlank k v s.cpu.parts } := rfl
@[simp] theorem Act_setPart_out (k : Nat) (v : Partition) (s : State) : ((Act.setPart k v).run s).out = s.out := rfl

@[simp] theorem Act_setSafePair_fuse (k : Nat) (v : SafePair) (s : State) : ((Act.setSafePair k v).run s).fuse = s.fuse := rfl
@[simp] theorem Act_setSafePair_regs (k : Nat) (v : SafePair) (s : State) : ((Act.setSafePair k v).run s).regs = s.regs := rfl
@[simp] theorem Act_setSafePair_tbls (k : Nat) (v : SafePair) (s : State) : ((Act.setSafePair k v).run s).tbls = s.tbls := rfl
@[simp] theorem Act_setSafePair_mem (k : Nat) (v : SafePair) (s : State) : ((Act.setSafePair k v).run s).mem = s.mem := rfl
@[simp] theorem Act_setSafePair_flash (k : Nat) (v : SafePair) (s : State) : ((Act.setSafePair k v).run s).flash = s.flash := rfl
@[simp] theorem Act_setSafePair_evtNo (k : Nat) (v : SafePair) (s : State) : ((Act.setSafePair k v).run s).evtNo = s.evtNo := rfl
@[simp] theorem Act_setSafePair_sup (k : Nat) (v : SafePair) (s : State) : ((Act.setSafePair k v).run s).sup = s.sup := rfl
@[simp] theorem Act_setSafePair_prism (k : Nat) (v : SafePair) (s : State) : ((Act.setSafePair k v).run s).prism = s.prism := rfl
@[simp] theorem Act_setSafePair_start (k : Nat) (v : SafePair) (s : State) : ((Act.setSafePair k v).run s).start = s.start := rfl
@[simp] theorem Act_setSafePair_cpu (k : Nat) (v : SafePair) (s : State) : ((Act.setSafePair k v).run s).cpu = { s.cpu with pairs := Sparse.put safePairBlank k v s.cpu.pairs } := rfl
@[simp] theorem Act_setSafePair_out (k : Nat) (v : SafePair) (s : State) : ((Act.setSafePair k v).run s).out = s.out := rfl

@[simp] theorem Act_setSlotOf_fuse (k : Nat) (v : Nat) (s : State) : ((Act.setSlotOf k v).run s).fuse = s.fuse := rfl
@[simp] theorem Act_setSlotOf_regs (k : Nat) (v : Nat) (s : State) : ((Act.setSlotOf k v).run s).regs = s.regs := rfl
@[simp] theorem Act_setSlotOf_tbls (k : Nat) (v : Nat) (s : State) : ((Act.setSlotOf k v).run s).tbls = s.tbls := rfl
@[simp] theorem Act_setSlotOf_mem (k : Nat) (v : Nat) (s : State) : ((Act.setSlotOf k v).run s).mem = s.mem := rfl
@[simp] theorem Act_setSlotOf_flash (k : Nat) (v : Nat) (s : State) : ((Act.setSlotOf k v).run s).flash = s.flash := rfl
@[simp] theorem Act_setSlotOf_evtNo (k : Nat) (v : Nat) (s : State) : ((Act.setSlotOf k v).run s).evtNo = s.evtNo := rfl
@[simp] theorem Act_setSlotOf_sup (k : Nat) (v : Nat) (s : State) : ((Act.setSlotOf k v).run s).sup = s.sup := rfl
@[simp] theorem Act_setSlotOf_prism (k : Nat) (v : Nat) (s : State) : ((Act.setSlotOf k v).run s).prism = s.prism := rfl
@[simp] theorem Act_setSlotOf_start (k : Nat) (v : Nat) (s : State) : ((Act.setSlotOf k v).run s).start = s.start := rfl
@[simp] theorem Act_setSlotOf_cpu (k : Nat) (v : Nat) (s : State) : ((Act.setSlotOf k v).run s).cpu = { s.cpu with coreSlots := Sparse.put slotOfBlank k v s.cpu.coreSlots } := rfl
@[simp] theorem Act_setSlotOf_out (k : Nat) (v : Nat) (s : State) : ((Act.setSlotOf k v).run s).out = s.out := rfl

@[simp] theorem Act_setRing_fuse (k : Nat) (v : TxRing) (s : State) : ((Act.setRing k v).run s).fuse = s.fuse := rfl
@[simp] theorem Act_setRing_regs (k : Nat) (v : TxRing) (s : State) : ((Act.setRing k v).run s).regs = s.regs := rfl
@[simp] theorem Act_setRing_tbls (k : Nat) (v : TxRing) (s : State) : ((Act.setRing k v).run s).tbls = s.tbls := rfl
@[simp] theorem Act_setRing_mem (k : Nat) (v : TxRing) (s : State) : ((Act.setRing k v).run s).mem = s.mem := rfl
@[simp] theorem Act_setRing_flash (k : Nat) (v : TxRing) (s : State) : ((Act.setRing k v).run s).flash = s.flash := rfl
@[simp] theorem Act_setRing_evtNo (k : Nat) (v : TxRing) (s : State) : ((Act.setRing k v).run s).evtNo = s.evtNo := rfl
@[simp] theorem Act_setRing_sup (k : Nat) (v : TxRing) (s : State) : ((Act.setRing k v).run s).sup = s.sup := rfl
@[simp] theorem Act_setRing_prism (k : Nat) (v : TxRing) (s : State) : ((Act.setRing k v).run s).prism = s.prism := rfl
@[simp] theorem Act_setRing_start (k : Nat) (v : TxRing) (s : State) : ((Act.setRing k v).run s).start = s.start := rfl
@[simp] theorem Act_setRing_cpu (k : Nat) (v : TxRing) (s : State) : ((Act.setRing k v).run s).cpu = { s.cpu with rings := Sparse.put ringBlank k v s.cpu.rings } := rfl
@[simp] theorem Act_setRing_out (k : Nat) (v : TxRing) (s : State) : ((Act.setRing k v).run s).out = s.out := rfl

@[simp] theorem Act_setAprLevel_fuse (k : Nat) (v : Option (Int × Nat)) (s : State) : ((Act.setAprLevel k v).run s).fuse = s.fuse := rfl
@[simp] theorem Act_setAprLevel_regs (k : Nat) (v : Option (Int × Nat)) (s : State) : ((Act.setAprLevel k v).run s).regs = s.regs := rfl
@[simp] theorem Act_setAprLevel_tbls (k : Nat) (v : Option (Int × Nat)) (s : State) : ((Act.setAprLevel k v).run s).tbls = s.tbls := rfl
@[simp] theorem Act_setAprLevel_mem (k : Nat) (v : Option (Int × Nat)) (s : State) : ((Act.setAprLevel k v).run s).mem = s.mem := rfl
@[simp] theorem Act_setAprLevel_flash (k : Nat) (v : Option (Int × Nat)) (s : State) : ((Act.setAprLevel k v).run s).flash = s.flash := rfl
@[simp] theorem Act_setAprLevel_evtNo (k : Nat) (v : Option (Int × Nat)) (s : State) : ((Act.setAprLevel k v).run s).evtNo = s.evtNo := rfl
@[simp] theorem Act_setAprLevel_sup (k : Nat) (v : Option (Int × Nat)) (s : State) : ((Act.setAprLevel k v).run s).sup = s.sup := rfl
@[simp] theorem Act_setAprLevel_prism (k : Nat) (v : Option (Int × Nat)) (s : State) : ((Act.setAprLevel k v).run s).prism = s.prism := rfl
@[simp] theorem Act_setAprLevel_start (k : Nat) (v : Option (Int × Nat)) (s : State) : ((Act.setAprLevel k v).run s).start = s.start := rfl
@[simp] theorem Act_setAprLevel_cpu (k : Nat) (v : Option (Int × Nat)) (s : State) : ((Act.setAprLevel k v).run s).cpu = { s.cpu with aprLevels := Sparse.put aprLevelBlank k v s.cpu.aprLevels } := rfl
@[simp] theorem Act_setAprLevel_out (k : Nat) (v : Option (Int × Nat)) (s : State) : ((Act.setAprLevel k v).run s).out = s.out := rfl

@[simp] theorem Act_setAprAt_fuse (k : Nat) (v : Nat) (s : State) : ((Act.setAprAt k v).run s).fuse = s.fuse := rfl
@[simp] theorem Act_setAprAt_regs (k : Nat) (v : Nat) (s : State) : ((Act.setAprAt k v).run s).regs = s.regs := rfl
@[simp] theorem Act_setAprAt_tbls (k : Nat) (v : Nat) (s : State) : ((Act.setAprAt k v).run s).tbls = s.tbls := rfl
@[simp] theorem Act_setAprAt_mem (k : Nat) (v : Nat) (s : State) : ((Act.setAprAt k v).run s).mem = s.mem := rfl
@[simp] theorem Act_setAprAt_flash (k : Nat) (v : Nat) (s : State) : ((Act.setAprAt k v).run s).flash = s.flash := rfl
@[simp] theorem Act_setAprAt_evtNo (k : Nat) (v : Nat) (s : State) : ((Act.setAprAt k v).run s).evtNo = s.evtNo := rfl
@[simp] theorem Act_setAprAt_sup (k : Nat) (v : Nat) (s : State) : ((Act.setAprAt k v).run s).sup = s.sup := rfl
@[simp] theorem Act_setAprAt_prism (k : Nat) (v : Nat) (s : State) : ((Act.setAprAt k v).run s).prism = s.prism := rfl
@[simp] theorem Act_setAprAt_start (k : Nat) (v : Nat) (s : State) : ((Act.setAprAt k v).run s).start = s.start := rfl
@[simp] theorem Act_setAprAt_cpu (k : Nat) (v : Nat) (s : State) : ((Act.setAprAt k v).run s).cpu = { s.cpu with aprSince := Sparse.put aprAtBlank k v s.cpu.aprSince } := rfl
@[simp] theorem Act_setAprAt_out (k : Nat) (v : Nat) (s : State) : ((Act.setAprAt k v).run s).out = s.out := rfl

@[simp] theorem Act_setServedRing_fuse (k : Nat) (v : Nat) (s : State) : ((Act.setServedRing k v).run s).fuse = s.fuse := rfl
@[simp] theorem Act_setServedRing_regs (k : Nat) (v : Nat) (s : State) : ((Act.setServedRing k v).run s).regs = s.regs := rfl
@[simp] theorem Act_setServedRing_tbls (k : Nat) (v : Nat) (s : State) : ((Act.setServedRing k v).run s).tbls = s.tbls := rfl
@[simp] theorem Act_setServedRing_mem (k : Nat) (v : Nat) (s : State) : ((Act.setServedRing k v).run s).mem = s.mem := rfl
@[simp] theorem Act_setServedRing_flash (k : Nat) (v : Nat) (s : State) : ((Act.setServedRing k v).run s).flash = s.flash := rfl
@[simp] theorem Act_setServedRing_evtNo (k : Nat) (v : Nat) (s : State) : ((Act.setServedRing k v).run s).evtNo = s.evtNo := rfl
@[simp] theorem Act_setServedRing_sup (k : Nat) (v : Nat) (s : State) : ((Act.setServedRing k v).run s).sup = s.sup := rfl
@[simp] theorem Act_setServedRing_prism (k : Nat) (v : Nat) (s : State) : ((Act.setServedRing k v).run s).prism = s.prism := rfl
@[simp] theorem Act_setServedRing_start (k : Nat) (v : Nat) (s : State) : ((Act.setServedRing k v).run s).start = s.start := rfl
@[simp] theorem Act_setServedRing_cpu (k : Nat) (v : Nat) (s : State) : ((Act.setServedRing k v).run s).cpu = { s.cpu with served := Sparse.put servedRingBlank k v s.cpu.served } := rfl
@[simp] theorem Act_setServedRing_out (k : Nat) (v : Nat) (s : State) : ((Act.setServedRing k v).run s).out = s.out := rfl

@[simp] theorem Act_setMtr_fuse (k : Nat) (v : Monitor) (s : State) : ((Act.setMtr k v).run s).fuse = s.fuse := rfl
@[simp] theorem Act_setMtr_regs (k : Nat) (v : Monitor) (s : State) : ((Act.setMtr k v).run s).regs = s.regs := rfl
@[simp] theorem Act_setMtr_tbls (k : Nat) (v : Monitor) (s : State) : ((Act.setMtr k v).run s).tbls = s.tbls := rfl
@[simp] theorem Act_setMtr_mem (k : Nat) (v : Monitor) (s : State) : ((Act.setMtr k v).run s).mem = s.mem := rfl
@[simp] theorem Act_setMtr_flash (k : Nat) (v : Monitor) (s : State) : ((Act.setMtr k v).run s).flash = s.flash := rfl
@[simp] theorem Act_setMtr_evtNo (k : Nat) (v : Monitor) (s : State) : ((Act.setMtr k v).run s).evtNo = s.evtNo := rfl
@[simp] theorem Act_setMtr_sup (k : Nat) (v : Monitor) (s : State) : ((Act.setMtr k v).run s).sup = s.sup := rfl
@[simp] theorem Act_setMtr_prism (k : Nat) (v : Monitor) (s : State) : ((Act.setMtr k v).run s).prism = s.prism := rfl
@[simp] theorem Act_setMtr_start (k : Nat) (v : Monitor) (s : State) : ((Act.setMtr k v).run s).start = s.start := rfl
@[simp] theorem Act_setMtr_mon (k : Nat) (v : Monitor) (s : State) : ((Act.setMtr k v).run s).mon = { s.mon with monitors := Sparse.put mtrBlank k v s.mon.monitors } := rfl
@[simp] theorem Act_setMtr_out (k : Nat) (v : Monitor) (s : State) : ((Act.setMtr k v).run s).out = s.out := rfl

@[simp] theorem Act_setFabOff_fuse (k : Nat) (v : Nat) (s : State) : ((Act.setFabOff k v).run s).fuse = s.fuse := rfl
@[simp] theorem Act_setFabOff_regs (k : Nat) (v : Nat) (s : State) : ((Act.setFabOff k v).run s).regs = s.regs := rfl
@[simp] theorem Act_setFabOff_tbls (k : Nat) (v : Nat) (s : State) : ((Act.setFabOff k v).run s).tbls = s.tbls := rfl
@[simp] theorem Act_setFabOff_mem (k : Nat) (v : Nat) (s : State) : ((Act.setFabOff k v).run s).mem = s.mem := rfl
@[simp] theorem Act_setFabOff_flash (k : Nat) (v : Nat) (s : State) : ((Act.setFabOff k v).run s).flash = s.flash := rfl
@[simp] theorem Act_setFabOff_evtNo (k : Nat) (v : Nat) (s : State) : ((Act.setFabOff k v).run s).evtNo = s.evtNo := rfl
@[simp] theorem Act_setFabOff_sup (k : Nat) (v : Nat) (s : State) : ((Act.setFabOff k v).run s).sup = s.sup := rfl
@[simp] theorem Act_setFabOff_prism (k : Nat) (v : Nat) (s : State) : ((Act.setFabOff k v).run s).prism = s.prism := rfl
@[simp] theorem Act_setFabOff_start (k : Nat) (v : Nat) (s : State) : ((Act.setFabOff k v).run s).start = s.start := rfl
@[simp] theorem Act_setFabOff_sw (k : Nat) (v : Nat) (s : State) : ((Act.setFabOff k v).run s).sw = { s.sw with fabOffs := Sparse.put fabOffBlank k v s.sw.fabOffs } := rfl
@[simp] theorem Act_setFabOff_out (k : Nat) (v : Nat) (s : State) : ((Act.setFabOff k v).run s).out = s.out := rfl

@[simp] theorem Act_setTurn_fuse (k : Nat) (v : Nat) (s : State) : ((Act.setTurn k v).run s).fuse = s.fuse := rfl
@[simp] theorem Act_setTurn_regs (k : Nat) (v : Nat) (s : State) : ((Act.setTurn k v).run s).regs = s.regs := rfl
@[simp] theorem Act_setTurn_tbls (k : Nat) (v : Nat) (s : State) : ((Act.setTurn k v).run s).tbls = s.tbls := rfl
@[simp] theorem Act_setTurn_mem (k : Nat) (v : Nat) (s : State) : ((Act.setTurn k v).run s).mem = s.mem := rfl
@[simp] theorem Act_setTurn_flash (k : Nat) (v : Nat) (s : State) : ((Act.setTurn k v).run s).flash = s.flash := rfl
@[simp] theorem Act_setTurn_evtNo (k : Nat) (v : Nat) (s : State) : ((Act.setTurn k v).run s).evtNo = s.evtNo := rfl
@[simp] theorem Act_setTurn_sup (k : Nat) (v : Nat) (s : State) : ((Act.setTurn k v).run s).sup = s.sup := rfl
@[simp] theorem Act_setTurn_prism (k : Nat) (v : Nat) (s : State) : ((Act.setTurn k v).run s).prism = s.prism := rfl
@[simp] theorem Act_setTurn_start (k : Nat) (v : Nat) (s : State) : ((Act.setTurn k v).run s).start = s.start := rfl
@[simp] theorem Act_setTurn_sw (k : Nat) (v : Nat) (s : State) : ((Act.setTurn k v).run s).sw = { s.sw with turns := Sparse.put turnBlank k v s.sw.turns } := rfl
@[simp] theorem Act_setTurn_out (k : Nat) (v : Nat) (s : State) : ((Act.setTurn k v).run s).out = s.out := rfl

@[simp] theorem Act_setTurnNow_fuse (k : Nat) (v : Nat) (s : State) : ((Act.setTurnNow k v).run s).fuse = s.fuse := rfl
@[simp] theorem Act_setTurnNow_regs (k : Nat) (v : Nat) (s : State) : ((Act.setTurnNow k v).run s).regs = s.regs := rfl
@[simp] theorem Act_setTurnNow_tbls (k : Nat) (v : Nat) (s : State) : ((Act.setTurnNow k v).run s).tbls = s.tbls := rfl
@[simp] theorem Act_setTurnNow_mem (k : Nat) (v : Nat) (s : State) : ((Act.setTurnNow k v).run s).mem = s.mem := rfl
@[simp] theorem Act_setTurnNow_flash (k : Nat) (v : Nat) (s : State) : ((Act.setTurnNow k v).run s).flash = s.flash := rfl
@[simp] theorem Act_setTurnNow_evtNo (k : Nat) (v : Nat) (s : State) : ((Act.setTurnNow k v).run s).evtNo = s.evtNo := rfl
@[simp] theorem Act_setTurnNow_sup (k : Nat) (v : Nat) (s : State) : ((Act.setTurnNow k v).run s).sup = s.sup := rfl
@[simp] theorem Act_setTurnNow_prism (k : Nat) (v : Nat) (s : State) : ((Act.setTurnNow k v).run s).prism = s.prism := rfl
@[simp] theorem Act_setTurnNow_start (k : Nat) (v : Nat) (s : State) : ((Act.setTurnNow k v).run s).start = s.start := rfl
@[simp] theorem Act_setTurnNow_sw (k : Nat) (v : Nat) (s : State) : ((Act.setTurnNow k v).run s).sw = { s.sw with turnNows := Sparse.put turnNowBlank k v s.sw.turnNows } := rfl
@[simp] theorem Act_setTurnNow_out (k : Nat) (v : Nat) (s : State) : ((Act.setTurnNow k v).run s).out = s.out := rfl

@[simp] theorem Act_setTallied_fuse (k : Nat) (v : Nat) (s : State) : ((Act.setTallied k v).run s).fuse = s.fuse := rfl
@[simp] theorem Act_setTallied_regs (k : Nat) (v : Nat) (s : State) : ((Act.setTallied k v).run s).regs = s.regs := rfl
@[simp] theorem Act_setTallied_tbls (k : Nat) (v : Nat) (s : State) : ((Act.setTallied k v).run s).tbls = s.tbls := rfl
@[simp] theorem Act_setTallied_mem (k : Nat) (v : Nat) (s : State) : ((Act.setTallied k v).run s).mem = s.mem := rfl
@[simp] theorem Act_setTallied_flash (k : Nat) (v : Nat) (s : State) : ((Act.setTallied k v).run s).flash = s.flash := rfl
@[simp] theorem Act_setTallied_evtNo (k : Nat) (v : Nat) (s : State) : ((Act.setTallied k v).run s).evtNo = s.evtNo := rfl
@[simp] theorem Act_setTallied_sup (k : Nat) (v : Nat) (s : State) : ((Act.setTallied k v).run s).sup = s.sup := rfl
@[simp] theorem Act_setTallied_prism (k : Nat) (v : Nat) (s : State) : ((Act.setTallied k v).run s).prism = s.prism := rfl
@[simp] theorem Act_setTallied_start (k : Nat) (v : Nat) (s : State) : ((Act.setTallied k v).run s).start = s.start := rfl
@[simp] theorem Act_setTallied_mon (k : Nat) (v : Nat) (s : State) : ((Act.setTallied k v).run s).mon = { s.mon with tallied := Sparse.put talliedBlank k v s.mon.tallied } := rfl
@[simp] theorem Act_setTallied_out (k : Nat) (v : Nat) (s : State) : ((Act.setTallied k v).run s).out = s.out := rfl

@[simp] theorem Act_setTally_fuse (k : Nat) (v : Nat) (s : State) : ((Act.setTally k v).run s).fuse = s.fuse := rfl
@[simp] theorem Act_setTally_regs (k : Nat) (v : Nat) (s : State) : ((Act.setTally k v).run s).regs = s.regs := rfl
@[simp] theorem Act_setTally_tbls (k : Nat) (v : Nat) (s : State) : ((Act.setTally k v).run s).tbls = s.tbls := rfl
@[simp] theorem Act_setTally_mem (k : Nat) (v : Nat) (s : State) : ((Act.setTally k v).run s).mem = s.mem := rfl
@[simp] theorem Act_setTally_flash (k : Nat) (v : Nat) (s : State) : ((Act.setTally k v).run s).flash = s.flash := rfl
@[simp] theorem Act_setTally_evtNo (k : Nat) (v : Nat) (s : State) : ((Act.setTally k v).run s).evtNo = s.evtNo := rfl
@[simp] theorem Act_setTally_sup (k : Nat) (v : Nat) (s : State) : ((Act.setTally k v).run s).sup = s.sup := rfl
@[simp] theorem Act_setTally_prism (k : Nat) (v : Nat) (s : State) : ((Act.setTally k v).run s).prism = s.prism := rfl
@[simp] theorem Act_setTally_start (k : Nat) (v : Nat) (s : State) : ((Act.setTally k v).run s).start = s.start := rfl
@[simp] theorem Act_setTally_mon (k : Nat) (v : Nat) (s : State) : ((Act.setTally k v).run s).mon = { s.mon with tallies := Sparse.put tallyBlank k v s.mon.tallies } := rfl
@[simp] theorem Act_setTally_out (k : Nat) (v : Nat) (s : State) : ((Act.setTally k v).run s).out = s.out := rfl

@[simp] theorem Act_setSlotEdge_fuse (k : Nat) (v : Nat) (s : State) : ((Act.setSlotEdge k v).run s).fuse = s.fuse := rfl
@[simp] theorem Act_setSlotEdge_regs (k : Nat) (v : Nat) (s : State) : ((Act.setSlotEdge k v).run s).regs = s.regs := rfl
@[simp] theorem Act_setSlotEdge_tbls (k : Nat) (v : Nat) (s : State) : ((Act.setSlotEdge k v).run s).tbls = s.tbls := rfl
@[simp] theorem Act_setSlotEdge_mem (k : Nat) (v : Nat) (s : State) : ((Act.setSlotEdge k v).run s).mem = s.mem := rfl
@[simp] theorem Act_setSlotEdge_flash (k : Nat) (v : Nat) (s : State) : ((Act.setSlotEdge k v).run s).flash = s.flash := rfl
@[simp] theorem Act_setSlotEdge_evtNo (k : Nat) (v : Nat) (s : State) : ((Act.setSlotEdge k v).run s).evtNo = s.evtNo := rfl
@[simp] theorem Act_setSlotEdge_sup (k : Nat) (v : Nat) (s : State) : ((Act.setSlotEdge k v).run s).sup = s.sup := rfl
@[simp] theorem Act_setSlotEdge_prism (k : Nat) (v : Nat) (s : State) : ((Act.setSlotEdge k v).run s).prism = s.prism := rfl
@[simp] theorem Act_setSlotEdge_start (k : Nat) (v : Nat) (s : State) : ((Act.setSlotEdge k v).run s).start = s.start := rfl
@[simp] theorem Act_setSlotEdge_cpu (k : Nat) (v : Nat) (s : State) : ((Act.setSlotEdge k v).run s).cpu = { s.cpu with slotEdges := Sparse.put slotEdgeBlank k v s.cpu.slotEdges } := rfl
@[simp] theorem Act_setSlotEdge_out (k : Nat) (v : Nat) (s : State) : ((Act.setSlotEdge k v).run s).out = s.out := rfl

end Sys2Proof.Machine
end

