-- ==== Sys2Proof/Laws/Host.lean ====
section
/-! SUPPORT. What a host's register write does at each of its checks. -/

namespace Sys2Proof.Machine
/-- A host's write is a write by its agent, whose replies it gets. -/
theorem host_send {s : State} {w : Sender} {ag : Agent} (h : s.hostWriter w = some ag) (a : Nat) (v : Word) :
    (Act.send w a v).run s = (Act.write ag false a v (Act.replied ag)).run s ∧ ag.outer = true ∧ ag.part? = none ∧ (∀ a c, Act.fwFail ag a c = Act.skip) := by
  unfold State.hostWriter at h
  cases w with
  | spi =>
    simp only at h; split at h
    · cases h; rename_i hc; exact ⟨by simp [Act.send, hc], rfl, rfl, fun a c => by cases c <;> rfl⟩
    · cases h
  | eth =>
    simp only at h; split at h
    · cases h; rename_i hc; exact ⟨by simp [Act.send, hc], rfl, rfl, fun a c => by cases c <;> rfl⟩
    · cases h
  | hart p c n => cases h

/-- REGISTER_WRITE is a write by its sender. -/
theorem exec_registerWrite (s : State) (w : Sender) (a v : Nat) (ha : a < 2 ^ 24) : exec (.registerWrite w a v) s = .next ((Act.send w a (BitVec.ofNat 48 v)).run s) := by
  have e0 : exec (.registerWrite w a v) s = execRegisterWrite w a v s := rfl
  rw [e0, execRegisterWrite]
  rw [Act.go_eq, Act.when_run, if_pos ha]

/-- A host's write that passes the host_gated is judged by its register's Kind. -/
theorem host_gated {s : State} {w : Sender} {ag : Agent} (hw : s.hostWriter w = some ag) {a : Nat} {v : Word} (h : s.gated ag a v = true) :
    (Act.send w a v).run s = (Act.writeKind ag a v (Act.replied ag)).run s := by
  obtain ⟨e, ho, hp, hf⟩ := host_send hw a v
  rw [e]
  simp only [State.gated, Bool.and_eq_true, Bool.not_eq_true', Bool.and_eq_false_iff, bne_eq_false_iff_eq, beq_eq_false_iff_ne,
    decide_eq_false_iff_not] at h
  obtain ⟨⟨⟨⟨⟨⟨h1, h2⟩, h3⟩, h4⟩, h5⟩, h6⟩, h7⟩ := h
  have e3 : ¬ (ag.outer = true ∧ s.startBusy = true) := by rcases h3 with h | h <;> simp [h]
  have e4 : ¬ (a = IMG.CMD 0 ∧ s.start.step ≠ 15) := by rcases h4 with h | h <;> simp [h]
  have e5 : ¬ (ag.outer = true ∧ True ∧ s.blockHeld (aDie a) (aBlk a) = true) := by rcases h5 with h | h <;> simp [h]
  have e7 : ¬ (4 ≤ aDie a ∧ blockSlow (aBlk a) = true ∧ (s.postedAt (aDie a) (aBlk a)).isSome = true) := by
    rcases h7 with (h | h) | h <;> simp [h]
  unfold Act.write
  simp only [Act.get_run]
  rw [if_neg (by simp [h1]), if_neg (by simp [h2]), if_neg e3, if_neg e4, if_neg e5, if_neg (by simp [h6]), if_neg e7]
  simp only [hf]
  rfl

/-- Two fields set in a masked word, masked. -/
theorem fset_fset_masked (x m : Word) (f g : Fld) (n k : Nat) : fset (fset (x &&& m) f n) g k &&& m = fset (fset x f n) g k &&& m := by
  unfold fset
  ext i hi
  simp only [BitVec.getElem_and, BitVec.getElem_or, BitVec.getElem_not]
  cases m[i] <;> simp

/-- What recording a block error leaves (R146). -/
theorem blkErr_flagged (a i : Nat) (ag : Agent) (s : State) : Flagged a i ag s ((Act.blkErr a i ag).run s) := by
  unfold Flagged
  simp only [Act.blkErr, Act.all_cons, Act.all_nil, Act.event, Act.get_run, Act.setFlds, Act.setReg_run, Act.noteEvt, Act.upd_run, List.foldl]
  refine ⟨?_, ?_, ?_, ?_⟩
  · simp only [Holds, State.reg_storeReg, if_true]
    simp only [State.reg, storeReg, Sparse.get_put, if_true, eventWord]
    exact fset_fset_masked _ _ _ _ _ _
  · simp [State.evtCount, Sparse.get_put, storeReg]
  · simp [State.evtCount, State.evt, Sparse.get_put, storeReg]
  · intro b hb
    simp only [List.mem_singleton] at hb
    simp [State.reg_storeReg, hb]
    simp [State.reg, Sparse.get_put, hb, storeReg]

/-- Recording a block error sends nothing. -/
theorem blkErr_out (a i : Nat) (ag : Agent) (s : State) : ((Act.blkErr a i ag).run s).out = s.out :=
  (touches_Act_blkErr (a := a) (i := i) (ag := ag) (S := [.regs, .evtNo, .upsets]) (by decide)).same s .out (by decide)

/-- A host's write that passes every check is accepted. -/
theorem host_lands {s : State} {w : Sender} {ag : Agent} (hw : s.hostWriter w = some ag) {a : Nat} {v : Word} (h : s.lands ag a v = true) :
    (Act.send w a v).run s = (Act.accepted ag a v (Act.replied ag)).run s := by
  have h' := h
  simp only [State.lands, Bool.and_eq_true, Bool.not_eq_true', Bool.and_eq_false_iff] at h'
  obtain ⟨⟨⟨h1, h2⟩, h3⟩, h4⟩ := h'
  rw [host_gated hw h1]
  have e9 : ¬ (((regRow a).any fun w => w.kind == .cf) = true ∧ s.enabled (aDie a) (aBlk a) = true ∧ ignores a = false) := by
    rcases h3 with h | h <;> simp [h]
  simp only [Act.writeKind, Act.get_run]
  rw [if_neg (by simp [h2]), if_neg e9, if_neg (by simp [h4])]
  rfl

end Sys2Proof.Machine
end

