-- ==== Sys2Proof/Laws/Reach.lean ====
section
/-! SUPPORT. What each command that is a register write does where it reaches its register, and each that is a read. -/

set_option linter.unusedSimpArgs false

namespace Sys2Proof.Machine

/-- A register of a Prism die is no posted one. -/
theorem posts_prism {p b r : Nat} (hp : p < 4) (hb : b < 256) (hr : r < 8192) : posts (ra p b r) = false := by
  unfold posts
  rw [aDie_ra hb hr]
  simp
  omega

/-- The rows of a channel hold no posted register but in the blocks of the slow domain. -/
theorem posts_chn {d c r : Nat} (hc : c < 28) (hr : r < 8192) : posts (ra (4 + d) (0x08 + c) r) = false := by
  unfold posts
  rw [aDie_ra (by omega) hr, aBlk_ra (by omega) hr]
  simp [blockSlow]
  omega

/-- BLK_CTRL is no posted register. -/
theorem posts_ctrl {d b : Nat} (hb : b < 256) : posts (BLK_CTRL d b) = false := by
  unfold posts BLK_CTRL
  rw [aDie_ra hb (by omega), aBlk_ra hb (by omega)]
  have h : ((regRow (ra d b 0x1FFF)).any fun w => w.kind == .pw || w.kind == .sc) = false := by
    unfold regRow
    rw [aReg_ra (by omega)]
    cases blockRows (ra d b 0x1FFF) with
    | none => rfl
    | some rows => rfl
  rw [h]
  simp

/-- The value of a posted register is looked at when it takes effect. -/
theorem posts_slow {d b r : Nat} (hd : d < 4) (hb : b < 256) (hr : r < 8192) (hs : blockSlow b = true)
    (h : ((rowAt (rowsDrive b) r).any fun w => w.kind == .pw || w.kind == .sc) = true) : posts (ra (4 + d) b r) = true := by
  unfold posts
  rw [aDie_ra hb hr, aBlk_ra hb hr, regRow_driveAt hd hb hr, h, hs]
  simp

theorem triple_inj {w w' : Sender} {a a' : Nat} {v v' : Word} (e : some (w, a, v) = some (w', a', v')) : w = w' ∧ a = a' ∧ v = v' := by
  cases e
  exact ⟨rfl, rfl, rfl⟩

/-- A command without stores stores nothing. -/
theorem hartMem_nil (w : Sender) (s : State) : (Act.hartMem w []).run s = s := by
  cases w with
  | spi => rfl
  | eth => rfl
  | hart p c n =>
    show (Act.opt (s.onCore p c) fun k => Act.skip).run s = s
    cases s.onCore p c <;> rfl

/-- What a write that arrives at a posted register of a host or firmware does: it waits for its edge (R155). -/
theorem send_posted {s u : State} {w : Sender} {ag : Agent} {a : Nat} {v : Word} (h : s.arrives w a v = some (ag, u))
    (hp : posts a = true) :
    (Act.send w a v).run s =
      (Act.seq (Act.setPosted (aDie a) (aBlk a) (some { addr := a, value := v, agent := ag })) (Act.ends w ag a .ok)).run u := by
  rw [send_accepted h]
  have ho : ag.outer = true := by
    unfold State.arrives at h
    split at h
    · split at h
      · cases h; rfl
      · cases h
    · split at h
      · cases h; rfl
      · cases h
    · split at h
      · cases h
      · split at h
        · split at h
          · cases h; rfl
          · cases h
        · split at h
          · cases h
          · split at h
            · cases h
            · split at h
              · cases h; rfl
              · cases h
  unfold Act.accepted
  rw [if_pos ⟨hp, ho⟩]

theorem reach_imgCmdRaiseFloor {w : Sender} {v : Nat} {s u : State} {ag : Agent} (h : Reaches (.imgCmdRaiseFloor w v) s ag u) :
    exec (.imgCmdRaiseFloor w v) s = .next (((imgCmd ag (fset (BitVec.ofNat 48 v) IMG.CMD.OP 1) (Act.ends w ag (IMG.CMD 0))).run u)) := by
  obtain ⟨hw, w', a', v', he, ha, hr⟩ := h
  obtain ⟨rfl, rfl, rfl⟩ := triple_inj (show some (w, (IMG.CMD 0), fset (BitVec.ofNat 48 v) IMG.CMD.OP 1) = some _ from he)
  replace ha := (congrArg (State.arrives · _ _ _) (hartMem_nil _ s)).symm.trans ha
  replace hw : (w.ok && decide (v < 2 ^ 48)) = true := hw
  simp only [Bool.and_eq_true, decide_eq_true_eq] at hw
  have e0 : exec (.imgCmdRaiseFloor w v) s = execImgCmdRaiseFloor w v s := rfl
  rw [e0, execImgCmdRaiseFloor, Act.go_eq]
  have hp : posts (IMG.CMD 0) = false := posts_prism (by omega) (by omega) (by omega)
  have hn : u.refuses (IMG.CMD 0) (fset (BitVec.ofNat 48 v) IMG.CMD.OP 1) = false := hr.resolve_left (by rw [hp]; decide)
  have hq := (send_arrives ha hp).trans (effect_IMG_CMD (by omega) _ _ _ _)
  rw [if_neg (by rw [hn]; decide)] at hq
  refine congrArg Host.Outcome.next ?_
  simp only [Act.when_run, hw, and_self, if_true, Act.order, Act.seq_run, Bool.false_eq_true, if_false]
  exact hq

theorem reach_imgCmdSetPrefer {w : Sender} {v : Nat} {s u : State} {ag : Agent} (h : Reaches (.imgCmdSetPrefer w v) s ag u) :
    exec (.imgCmdSetPrefer w v) s = .next (((imgCmd ag (fset (BitVec.ofNat 48 v) IMG.CMD.OP 2) (Act.ends w ag (IMG.CMD 0))).run u)) := by
  obtain ⟨hw, w', a', v', he, ha, hr⟩ := h
  obtain ⟨rfl, rfl, rfl⟩ := triple_inj (show some (w, (IMG.CMD 0), fset (BitVec.ofNat 48 v) IMG.CMD.OP 2) = some _ from he)
  replace ha := (congrArg (State.arrives · _ _ _) (hartMem_nil _ s)).symm.trans ha
  replace hw : (w.ok && decide (v < 2 ^ 48)) = true := hw
  simp only [Bool.and_eq_true, decide_eq_true_eq] at hw
  have e0 : exec (.imgCmdSetPrefer w v) s = execImgCmdSetPrefer w v s := rfl
  rw [e0, execImgCmdSetPrefer, Act.go_eq]
  have hp : posts (IMG.CMD 0) = false := posts_prism (by omega) (by omega) (by omega)
  have hn : u.refuses (IMG.CMD 0) (fset (BitVec.ofNat 48 v) IMG.CMD.OP 2) = false := hr.resolve_left (by rw [hp]; decide)
  have hq := (send_arrives ha hp).trans (effect_IMG_CMD (by omega) _ _ _ _)
  rw [if_neg (by rw [hn]; decide)] at hq
  refine congrArg Host.Outcome.next ?_
  simp only [Act.when_run, hw, and_self, if_true, Act.order, Act.seq_run, Bool.false_eq_true, if_false]
  exact hq

theorem reach_blockEnable {w : Sender} {d b v : Nat} {s u : State} {ag : Agent} (h : Reaches (.blockEnable w d b v) s ag u) :
    exec (.blockEnable w d b v) s = .next (((blkCtrl ag d b (fset (BitVec.ofNat 48 v) BLK_CTRL.ENABLE 1) (Act.ends w ag (BLK_CTRL d b))).run u)) := by
  obtain ⟨hw, w', a', v', he, ha, hr⟩ := h
  obtain ⟨rfl, rfl, rfl⟩ := triple_inj (show some (w, (BLK_CTRL d b), fset (BitVec.ofNat 48 v) BLK_CTRL.ENABLE 1) = some _ from he)
  replace ha := (congrArg (State.arrives · _ _ _) (hartMem_nil _ s)).symm.trans ha
  replace hw : (w.ok && decide (d < 8) && decide (b < 256) && decide (v < 2 ^ 48)) = true := hw
  simp only [Bool.and_eq_true, decide_eq_true_eq] at hw
  have e0 : exec (.blockEnable w d b v) s = execBlockEnable w d b v s := rfl
  rw [e0, execBlockEnable, Act.go_eq]
  have hp : posts (BLK_CTRL d b) = false := posts_ctrl (by omega)
  have hq := (send_arrives ha hp).trans (effect_BLK_CTRL (by omega) _ _ _ _)
  refine congrArg Host.Outcome.next ?_
  simp only [Act.when_run, hw, and_self, if_true, Act.order, Act.seq_run, Bool.false_eq_true, if_false]
  exact hq

theorem reach_blockDisable {w : Sender} {d b v : Nat} {s u : State} {ag : Agent} (h : Reaches (.blockDisable w d b v) s ag u) :
    exec (.blockDisable w d b v) s = .next (((blkCtrl ag d b (fset (BitVec.ofNat 48 v) BLK_CTRL.ENABLE 0) (Act.ends w ag (BLK_CTRL d b))).run u)) := by
  obtain ⟨hw, w', a', v', he, ha, hr⟩ := h
  obtain ⟨rfl, rfl, rfl⟩ := triple_inj (show some (w, (BLK_CTRL d b), fset (BitVec.ofNat 48 v) BLK_CTRL.ENABLE 0) = some _ from he)
  replace ha := (congrArg (State.arrives · _ _ _) (hartMem_nil _ s)).symm.trans ha
  replace hw : (w.ok && decide (d < 8) && decide (b < 256) && decide (v < 2 ^ 48)) = true := hw
  simp only [Bool.and_eq_true, decide_eq_true_eq] at hw
  have e0 : exec (.blockDisable w d b v) s = execBlockDisable w d b v s := rfl
  rw [e0, execBlockDisable, Act.go_eq]
  have hp : posts (BLK_CTRL d b) = false := posts_ctrl (by omega)
  have hq := (send_arrives ha hp).trans (effect_BLK_CTRL (by omega) _ _ _ _)
  refine congrArg Host.Outcome.next ?_
  simp only [Act.when_run, hw, and_self, if_true, Act.order, Act.seq_run, Bool.false_eq_true, if_false]
  exact hq

theorem reach_supMinmaxClear {w : Sender} {d v : Nat} {s u : State} {ag : Agent} (h : Reaches (.supMinmaxClear w d v) s ag u) :
    exec (.supMinmaxClear w d v) s = .next (((Act.seq (Act.setPosted (4 + d) (aBlk (SUP.CTRL d)) (some { addr := SUP.CTRL d, value := fset (BitVec.ofNat 48 v) SUP.CTRL.MINMAX_CLR 1, agent := ag })) (Act.ends w ag (SUP.CTRL d) .ok)).run u)) := by
  obtain ⟨hw, w', a', v', he, ha, hr⟩ := h
  obtain ⟨rfl, rfl, rfl⟩ := triple_inj (show some (w, (SUP.CTRL d), fset (BitVec.ofNat 48 v) SUP.CTRL.MINMAX_CLR 1) = some _ from he)
  replace ha := (congrArg (State.arrives · _ _ _) (hartMem_nil _ s)).symm.trans ha
  replace hw : (w.ok && decide (d < 4) && decide (v < 2 ^ 48)) = true := hw
  simp only [Bool.and_eq_true, decide_eq_true_eq] at hw
  have e0 : exec (.supMinmaxClear w d v) s = execSupMinmaxClear w d v s := rfl
  rw [e0, execSupMinmaxClear, Act.go_eq]
  have hp : posts (SUP.CTRL d) = true := posts_slow (by omega) (by omega) (by omega) (by decide) (by decide)
  have e2 : aDie (SUP.CTRL d) = 4 + d := aDie_ra (by omega) (by omega)
  have hq := send_posted ha hp
  rw [e2] at hq
  refine congrArg Host.Outcome.next ?_
  simp only [Act.when_run, hw, and_self, if_true, Act.order]
  exact hq

theorem reach_repCmdRead {w : Sender} {p v : Nat} {s u : State} {ag : Agent} (h : Reaches (.repCmdRead w p v) s ag u) :
    exec (.repCmdRead w p v) s = .next (((repCmd ag p (fset (BitVec.ofNat 48 v) FAB.REP_CMD.OP 1) (Act.ends w ag (FAB.REP_CMD p))).run u)) := by
  obtain ⟨hw, w', a', v', he, ha, hr⟩ := h
  obtain ⟨rfl, rfl, rfl⟩ := triple_inj (show some (w, (FAB.REP_CMD p), fset (BitVec.ofNat 48 v) FAB.REP_CMD.OP 1) = some _ from he)
  replace ha := (congrArg (State.arrives · _ _ _) (hartMem_nil _ s)).symm.trans ha
  replace hw : (w.ok && decide (p < 4) && decide (v < 2 ^ 48)) = true := hw
  simp only [Bool.and_eq_true, decide_eq_true_eq] at hw
  have e0 : exec (.repCmdRead w p v) s = execRepCmdRead w p v s := rfl
  rw [e0, execRepCmdRead, Act.go_eq]
  have hp : posts (FAB.REP_CMD p) = false := posts_prism (by omega) (by omega) (by omega)
  have hn : u.refuses (FAB.REP_CMD p) (fset (BitVec.ofNat 48 v) FAB.REP_CMD.OP 1) = false := hr.resolve_left (by rw [hp]; decide)
  have hq := (send_arrives ha hp).trans (effect_FAB_REP_CMD (by omega) _ _ _ _)
  rw [if_neg (by rw [hn]; decide)] at hq
  refine congrArg Host.Outcome.next ?_
  simp only [Act.when_run, hw, and_self, if_true, Act.order, Act.seq_run, Bool.false_eq_true, if_false]
  exact hq

theorem reach_repCmdWrite {w : Sender} {p v : Nat} {s u : State} {ag : Agent} (h : Reaches (.repCmdWrite w p v) s ag u) :
    exec (.repCmdWrite w p v) s = .next (((repCmd ag p (fset (BitVec.ofNat 48 v) FAB.REP_CMD.OP 2) (Act.ends w ag (FAB.REP_CMD p))).run u)) := by
  obtain ⟨hw, w', a', v', he, ha, hr⟩ := h
  obtain ⟨rfl, rfl, rfl⟩ := triple_inj (show some (w, (FAB.REP_CMD p), fset (BitVec.ofNat 48 v) FAB.REP_CMD.OP 2) = some _ from he)
  replace ha := (congrArg (State.arrives · _ _ _) (hartMem_nil _ s)).symm.trans ha
  replace hw : (w.ok && decide (p < 4) && decide (v < 2 ^ 48)) = true := hw
  simp only [Bool.and_eq_true, decide_eq_true_eq] at hw
  have e0 : exec (.repCmdWrite w p v) s = execRepCmdWrite w p v s := rfl
  rw [e0, execRepCmdWrite, Act.go_eq]
  have hp : posts (FAB.REP_CMD p) = false := posts_prism (by omega) (by omega) (by omega)
  have hn : u.refuses (FAB.REP_CMD p) (fset (BitVec.ofNat 48 v) FAB.REP_CMD.OP 2) = false := hr.resolve_left (by rw [hp]; decide)
  have hq := (send_arrives ha hp).trans (effect_FAB_REP_CMD (by omega) _ _ _ _)
  rw [if_neg (by rw [hn]; decide)] at hq
  refine congrArg Host.Outcome.next ?_
  simp only [Act.when_run, hw, and_self, if_true, Act.order, Act.seq_run, Bool.false_eq_true, if_false]
  exact hq

theorem reach_fabClrMax {w : Sender} {p v : Nat} {s u : State} {ag : Agent} (h : Reaches (.fabClrMax w p v) s ag u) :
    exec (.fabClrMax w p v) s = .next (((Act.seq (Act.when (bit (fset (BitVec.ofNat 48 v) FAB.CTRL.CLR_MAX 1) 0 = true) (fabClrMax p)) ((Act.ends w ag (FAB.CTRL p)) .ok)).run u)) := by
  obtain ⟨hw, w', a', v', he, ha, hr⟩ := h
  obtain ⟨rfl, rfl, rfl⟩ := triple_inj (show some (w, (FAB.CTRL p), fset (BitVec.ofNat 48 v) FAB.CTRL.CLR_MAX 1) = some _ from he)
  replace ha := (congrArg (State.arrives · _ _ _) (hartMem_nil _ s)).symm.trans ha
  replace hw : (w.ok && decide (p < 4) && decide (v < 2 ^ 48)) = true := hw
  simp only [Bool.and_eq_true, decide_eq_true_eq] at hw
  have e0 : exec (.fabClrMax w p v) s = execFabClrMax w p v s := rfl
  rw [e0, execFabClrMax, Act.go_eq]
  have hp : posts (FAB.CTRL p) = false := posts_prism (by omega) (by omega) (by omega)
  have hn : u.refuses (FAB.CTRL p) (fset (BitVec.ofNat 48 v) FAB.CTRL.CLR_MAX 1) = false := hr.resolve_left (by rw [hp]; decide)
  have hq := (send_arrives ha hp).trans (effect_FAB_CTRL (by omega) _ _ _ _)
  rw [if_neg (by rw [hn]; decide)] at hq
  refine congrArg Host.Outcome.next ?_
  simp only [Act.when_run, hw, and_self, if_true, Act.order, Act.seq_run, Bool.false_eq_true, if_false]
  simp only [Act.seq_run, Act.when_run] at hq
  exact hq

theorem reach_flushCmd {w : Sender} {p v : Nat} {s u : State} {ag : Agent} (h : Reaches (.flushCmd w p v) s ag u) :
    exec (.flushCmd w p v) s = .next (((flushCmd ag p (fun s f => s.heldQueue p f) (fset (BitVec.ofNat 48 v) QMGR.FLUSH_CMD.START 1) (Act.ends w ag (QMGR.FLUSH_CMD p))).run u)) := by
  obtain ⟨hw, w', a', v', he, ha, hr⟩ := h
  obtain ⟨rfl, rfl, rfl⟩ := triple_inj (show some (w, (QMGR.FLUSH_CMD p), fset (BitVec.ofNat 48 v) QMGR.FLUSH_CMD.START 1) = some _ from he)
  replace ha := (congrArg (State.arrives · _ _ _) (hartMem_nil _ s)).symm.trans ha
  replace hw : (w.ok && decide (p < 4) && decide (v < 2 ^ 48)) = true := hw
  simp only [Bool.and_eq_true, decide_eq_true_eq] at hw
  have e0 : exec (.flushCmd w p v) s = execFlushCmd w p v s := rfl
  rw [e0, execFlushCmd, Act.go_eq]
  have hp : posts (QMGR.FLUSH_CMD p) = false := posts_prism (by omega) (by omega) (by omega)
  have hn : u.refuses (QMGR.FLUSH_CMD p) (fset (BitVec.ofNat 48 v) QMGR.FLUSH_CMD.START 1) = false := hr.resolve_left (by rw [hp]; decide)
  have hq := (send_arrives ha hp).trans (effect_QMGR_FLUSH_CMD (by omega) _ _ _ _)
  rw [if_neg (by rw [hn]; decide)] at hq
  refine congrArg Host.Outcome.next ?_
  simp only [Act.when_run, hw, and_self, if_true, Act.order, Act.seq_run, Bool.false_eq_true, if_false]
  exact hq

theorem reach_dropRest {w : Sender} {p n v : Nat} {s u : State} {ag : Agent} (h : Reaches (.dropRest w p n v) s ag u) :
    exec (.dropRest w p n v) s = .next (((Act.seq (Act.when (bit (fset (BitVec.ofNat 48 v) QMGR.CQ_CMD.DROP_REST 1) 0 = true) (dropRest p n)) ((Act.ends w ag (QMGR.CQ_CMD p n)) .ok)).run u)) := by
  obtain ⟨hw, w', a', v', he, ha, hr⟩ := h
  obtain ⟨rfl, rfl, rfl⟩ := triple_inj (show some (w, (QMGR.CQ_CMD p n), fset (BitVec.ofNat 48 v) QMGR.CQ_CMD.DROP_REST 1) = some _ from he)
  replace ha := (congrArg (State.arrives · _ _ _) (hartMem_nil _ s)).symm.trans ha
  replace hw : (w.ok && decide (p < 4) && decide (n < 64) && decide (v < 2 ^ 48)) = true := hw
  simp only [Bool.and_eq_true, decide_eq_true_eq] at hw
  have e0 : exec (.dropRest w p n v) s = execDropRest w p n v s := rfl
  rw [e0, execDropRest, Act.go_eq]
  have hp : posts (QMGR.CQ_CMD p n) = false := posts_prism (by omega) (by omega) (by omega)
  have hn : u.refuses (QMGR.CQ_CMD p n) (fset (BitVec.ofNat 48 v) QMGR.CQ_CMD.DROP_REST 1) = false := hr.resolve_left (by rw [hp]; decide)
  have hq := (send_arrives ha hp).trans (effect_QMGR_CQ_CMD (by omega) (by omega) _ _ _ _)
  rw [if_neg (by rw [hn]; decide)] at hq
  refine congrArg Host.Outcome.next ?_
  simp only [Act.when_run, hw, and_self, if_true, Act.order, Act.seq_run, Bool.false_eq_true, if_false]
  simp only [Act.seq_run, Act.when_run] at hq
  exact hq

theorem reach_qCmdRead {w : Sender} {p v : Nat} {s u : State} {ag : Agent} (h : Reaches (.qCmdRead w p v) s ag u) :
    exec (.qCmdRead w p v) s = .next (((qCmd ag p (fset (BitVec.ofNat 48 v) QMGR.Q_CMD.OP 1) (Act.ends w ag (QMGR.Q_CMD p))).run u)) := by
  obtain ⟨hw, w', a', v', he, ha, hr⟩ := h
  obtain ⟨rfl, rfl, rfl⟩ := triple_inj (show some (w, (QMGR.Q_CMD p), fset (BitVec.ofNat 48 v) QMGR.Q_CMD.OP 1) = some _ from he)
  replace ha := (congrArg (State.arrives · _ _ _) (hartMem_nil _ s)).symm.trans ha
  replace hw : (w.ok && decide (p < 4) && decide (v < 2 ^ 48)) = true := hw
  simp only [Bool.and_eq_true, decide_eq_true_eq] at hw
  have e0 : exec (.qCmdRead w p v) s = execQCmdRead w p v s := rfl
  rw [e0, execQCmdRead, Act.go_eq]
  have hp : posts (QMGR.Q_CMD p) = false := posts_prism (by omega) (by omega) (by omega)
  have hn : u.refuses (QMGR.Q_CMD p) (fset (BitVec.ofNat 48 v) QMGR.Q_CMD.OP 1) = false := hr.resolve_left (by rw [hp]; decide)
  have hq := (send_arrives ha hp).trans (effect_QMGR_Q_CMD (by omega) _ _ _ _)
  rw [if_neg (by rw [hn]; decide)] at hq
  refine congrArg Host.Outcome.next ?_
  simp only [Act.when_run, hw, and_self, if_true, Act.order, Act.seq_run, Bool.false_eq_true, if_false]
  exact hq

theorem reach_qCmdWrite {w : Sender} {p v : Nat} {s u : State} {ag : Agent} (h : Reaches (.qCmdWrite w p v) s ag u) :
    exec (.qCmdWrite w p v) s = .next (((qCmd ag p (fset (BitVec.ofNat 48 v) QMGR.Q_CMD.OP 2) (Act.ends w ag (QMGR.Q_CMD p))).run u)) := by
  obtain ⟨hw, w', a', v', he, ha, hr⟩ := h
  obtain ⟨rfl, rfl, rfl⟩ := triple_inj (show some (w, (QMGR.Q_CMD p), fset (BitVec.ofNat 48 v) QMGR.Q_CMD.OP 2) = some _ from he)
  replace ha := (congrArg (State.arrives · _ _ _) (hartMem_nil _ s)).symm.trans ha
  replace hw : (w.ok && decide (p < 4) && decide (v < 2 ^ 48)) = true := hw
  simp only [Bool.and_eq_true, decide_eq_true_eq] at hw
  have e0 : exec (.qCmdWrite w p v) s = execQCmdWrite w p v s := rfl
  rw [e0, execQCmdWrite, Act.go_eq]
  have hp : posts (QMGR.Q_CMD p) = false := posts_prism (by omega) (by omega) (by omega)
  have hn : u.refuses (QMGR.Q_CMD p) (fset (BitVec.ofNat 48 v) QMGR.Q_CMD.OP 2) = false := hr.resolve_left (by rw [hp]; decide)
  have hq := (send_arrives ha hp).trans (effect_QMGR_Q_CMD (by omega) _ _ _ _)
  rw [if_neg (by rw [hn]; decide)] at hq
  refine congrArg Host.Outcome.next ?_
  simp only [Act.when_run, hw, and_self, if_true, Act.order, Act.seq_run, Bool.false_eq_true, if_false]
  exact hq

theorem reach_lpmInsert {w : Sender} {p v : Nat} {s u : State} {ag : Agent} (h : Reaches (.lpmInsert w p v) s ag u) :
    exec (.lpmInsert w p v) s = .next (((lpmCmd ag p (fset (BitVec.ofNat 48 v) LPM.CMD.OP 1) (Act.ends w ag (LPM.CMD p))).run u)) := by
  obtain ⟨hw, w', a', v', he, ha, hr⟩ := h
  obtain ⟨rfl, rfl, rfl⟩ := triple_inj (show some (w, (LPM.CMD p), fset (BitVec.ofNat 48 v) LPM.CMD.OP 1) = some _ from he)
  replace ha := (congrArg (State.arrives · _ _ _) (hartMem_nil _ s)).symm.trans ha
  replace hw : (w.ok && decide (p < 4) && decide (v < 2 ^ 48)) = true := hw
  simp only [Bool.and_eq_true, decide_eq_true_eq] at hw
  have e0 : exec (.lpmInsert w p v) s = execLpmInsert w p v s := rfl
  rw [e0, execLpmInsert, Act.go_eq]
  have hp : posts (LPM.CMD p) = false := posts_prism (by omega) (by omega) (by omega)
  have hn : u.refuses (LPM.CMD p) (fset (BitVec.ofNat 48 v) LPM.CMD.OP 1) = false := hr.resolve_left (by rw [hp]; decide)
  have hq := (send_arrives ha hp).trans (effect_LPM_CMD (by omega) _ _ _ _)
  rw [if_neg (by rw [hn]; decide)] at hq
  refine congrArg Host.Outcome.next ?_
  simp only [Act.when_run, hw, and_self, if_true, Act.order, Act.seq_run, Bool.false_eq_true, if_false]
  exact hq

theorem reach_lpmDelete {w : Sender} {p v : Nat} {s u : State} {ag : Agent} (h : Reaches (.lpmDelete w p v) s ag u) :
    exec (.lpmDelete w p v) s = .next (((lpmCmd ag p (fset (BitVec.ofNat 48 v) LPM.CMD.OP 2) (Act.ends w ag (LPM.CMD p))).run u)) := by
  obtain ⟨hw, w', a', v', he, ha, hr⟩ := h
  obtain ⟨rfl, rfl, rfl⟩ := triple_inj (show some (w, (LPM.CMD p), fset (BitVec.ofNat 48 v) LPM.CMD.OP 2) = some _ from he)
  replace ha := (congrArg (State.arrives · _ _ _) (hartMem_nil _ s)).symm.trans ha
  replace hw : (w.ok && decide (p < 4) && decide (v < 2 ^ 48)) = true := hw
  simp only [Bool.and_eq_true, decide_eq_true_eq] at hw
  have e0 : exec (.lpmDelete w p v) s = execLpmDelete w p v s := rfl
  rw [e0, execLpmDelete, Act.go_eq]
  have hp : posts (LPM.CMD p) = false := posts_prism (by omega) (by omega) (by omega)
  have hn : u.refuses (LPM.CMD p) (fset (BitVec.ofNat 48 v) LPM.CMD.OP 2) = false := hr.resolve_left (by rw [hp]; decide)
  have hq := (send_arrives ha hp).trans (effect_LPM_CMD (by omega) _ _ _ _)
  rw [if_neg (by rw [hn]; decide)] at hq
  refine congrArg Host.Outcome.next ?_
  simp only [Act.when_run, hw, and_self, if_true, Act.order, Act.seq_run, Bool.false_eq_true, if_false]
  exact hq

theorem reach_lpmFind {w : Sender} {p v : Nat} {s u : State} {ag : Agent} (h : Reaches (.lpmFind w p v) s ag u) :
    exec (.lpmFind w p v) s = .next (((lpmCmd ag p (fset (BitVec.ofNat 48 v) LPM.CMD.OP 3) (Act.ends w ag (LPM.CMD p))).run u)) := by
  obtain ⟨hw, w', a', v', he, ha, hr⟩ := h
  obtain ⟨rfl, rfl, rfl⟩ := triple_inj (show some (w, (LPM.CMD p), fset (BitVec.ofNat 48 v) LPM.CMD.OP 3) = some _ from he)
  replace ha := (congrArg (State.arrives · _ _ _) (hartMem_nil _ s)).symm.trans ha
  replace hw : (w.ok && decide (p < 4) && decide (v < 2 ^ 48)) = true := hw
  simp only [Bool.and_eq_true, decide_eq_true_eq] at hw
  have e0 : exec (.lpmFind w p v) s = execLpmFind w p v s := rfl
  rw [e0, execLpmFind, Act.go_eq]
  have hp : posts (LPM.CMD p) = false := posts_prism (by omega) (by omega) (by omega)
  have hn : u.refuses (LPM.CMD p) (fset (BitVec.ofNat 48 v) LPM.CMD.OP 3) = false := hr.resolve_left (by rw [hp]; decide)
  have hq := (send_arrives ha hp).trans (effect_LPM_CMD (by omega) _ _ _ _)
  rw [if_neg (by rw [hn]; decide)] at hq
  refine congrArg Host.Outcome.next ?_
  simp only [Act.when_run, hw, and_self, if_true, Act.order, Act.seq_run, Bool.false_eq_true, if_false]
  exact hq

theorem reach_tdmaRead {w : Sender} {mem : List (Nat × Nat)} {p k v : Nat} {s u : State} {ag : Agent} (h : Reaches (.tdmaRead w mem p k v) s ag u) :
    exec (.tdmaRead w mem p k v) s = .next (((tdmaJob ag p k (fset (BitVec.ofNat 48 v) TDMA.JOB.OP 1) (Act.ends w ag (TDMA.JOB p k))).run u)) := by
  obtain ⟨hw, w', a', v', he, ha, hr⟩ := h
  obtain ⟨rfl, rfl, rfl⟩ := triple_inj (show some (w, (TDMA.JOB p k), fset (BitVec.ofNat 48 v) TDMA.JOB.OP 1) = some _ from he)
  replace hw : (w.ok && (mem.all fun e => decide (e.1 < 2 ^ 64) && decide (e.2 < 2 ^ 64)) && decide (p < 4) && decide (k < 4) && decide (v < 2 ^ 48)) = true := hw
  simp only [Bool.and_eq_true, decide_eq_true_eq] at hw
  have e0 : exec (.tdmaRead w mem p k v) s = execTdmaRead w mem p k v s := rfl
  rw [e0, execTdmaRead, Act.go_eq]
  have hp : posts (TDMA.JOB p k) = false := posts_prism (by omega) (by omega) (by omega)
  have hn : u.refuses (TDMA.JOB p k) (fset (BitVec.ofNat 48 v) TDMA.JOB.OP 1) = false := hr.resolve_left (by rw [hp]; decide)
  have hq := (send_arrives ha hp).trans (effect_TDMA_JOB (by omega) (by omega) _ _ _ _)
  rw [if_neg (by rw [hn]; decide)] at hq
  refine congrArg Host.Outcome.next ?_
  simp only [Act.when_run, hw, and_self, if_true, Act.order, Act.seq_run, Bool.false_eq_true, if_false]
  exact hq

theorem reach_tdmaWrite {w : Sender} {mem : List (Nat × Nat)} {p k v : Nat} {s u : State} {ag : Agent} (h : Reaches (.tdmaWrite w mem p k v) s ag u) :
    exec (.tdmaWrite w mem p k v) s = .next (((tdmaJob ag p k (fset (BitVec.ofNat 48 v) TDMA.JOB.OP 2) (Act.ends w ag (TDMA.JOB p k))).run u)) := by
  obtain ⟨hw, w', a', v', he, ha, hr⟩ := h
  obtain ⟨rfl, rfl, rfl⟩ := triple_inj (show some (w, (TDMA.JOB p k), fset (BitVec.ofNat 48 v) TDMA.JOB.OP 2) = some _ from he)
  replace hw : (w.ok && (mem.all fun e => decide (e.1 < 2 ^ 64) && decide (e.2 < 2 ^ 64)) && decide (p < 4) && decide (k < 4) && decide (v < 2 ^ 48)) = true := hw
  simp only [Bool.and_eq_true, decide_eq_true_eq] at hw
  have e0 : exec (.tdmaWrite w mem p k v) s = execTdmaWrite w mem p k v s := rfl
  rw [e0, execTdmaWrite, Act.go_eq]
  have hp : posts (TDMA.JOB p k) = false := posts_prism (by omega) (by omega) (by omega)
  have hn : u.refuses (TDMA.JOB p k) (fset (BitVec.ofNat 48 v) TDMA.JOB.OP 2) = false := hr.resolve_left (by rw [hp]; decide)
  have hq := (send_arrives ha hp).trans (effect_TDMA_JOB (by omega) (by omega) _ _ _ _)
  rw [if_neg (by rw [hn]; decide)] at hq
  refine congrArg Host.Outcome.next ?_
  simp only [Act.when_run, hw, and_self, if_true, Act.order, Act.seq_run, Bool.false_eq_true, if_false]
  exact hq

theorem reach_tdmaFind {w : Sender} {mem : List (Nat × Nat)} {p k v : Nat} {s u : State} {ag : Agent} (h : Reaches (.tdmaFind w mem p k v) s ag u) :
    exec (.tdmaFind w mem p k v) s = .next (((tdmaJob ag p k (fset (BitVec.ofNat 48 v) TDMA.JOB.OP 3) (Act.ends w ag (TDMA.JOB p k))).run u)) := by
  obtain ⟨hw, w', a', v', he, ha, hr⟩ := h
  obtain ⟨rfl, rfl, rfl⟩ := triple_inj (show some (w, (TDMA.JOB p k), fset (BitVec.ofNat 48 v) TDMA.JOB.OP 3) = some _ from he)
  replace hw : (w.ok && (mem.all fun e => decide (e.1 < 2 ^ 64) && decide (e.2 < 2 ^ 64)) && decide (p < 4) && decide (k < 4) && decide (v < 2 ^ 48)) = true := hw
  simp only [Bool.and_eq_true, decide_eq_true_eq] at hw
  have e0 : exec (.tdmaFind w mem p k v) s = execTdmaFind w mem p k v s := rfl
  rw [e0, execTdmaFind, Act.go_eq]
  have hp : posts (TDMA.JOB p k) = false := posts_prism (by omega) (by omega) (by omega)
  have hn : u.refuses (TDMA.JOB p k) (fset (BitVec.ofNat 48 v) TDMA.JOB.OP 3) = false := hr.resolve_left (by rw [hp]; decide)
  have hq := (send_arrives ha hp).trans (effect_TDMA_JOB (by omega) (by omega) _ _ _ _)
  rw [if_neg (by rw [hn]; decide)] at hq
  refine congrArg Host.Outcome.next ?_
  simp only [Act.when_run, hw, and_self, if_true, Act.order, Act.seq_run, Bool.false_eq_true, if_false]
  exact hq

theorem reach_tdmaInsert {w : Sender} {mem : List (Nat × Nat)} {p k v : Nat} {s u : State} {ag : Agent} (h : Reaches (.tdmaInsert w mem p k v) s ag u) :
    exec (.tdmaInsert w mem p k v) s = .next (((tdmaJob ag p k (fset (BitVec.ofNat 48 v) TDMA.JOB.OP 4) (Act.ends w ag (TDMA.JOB p k))).run u)) := by
  obtain ⟨hw, w', a', v', he, ha, hr⟩ := h
  obtain ⟨rfl, rfl, rfl⟩ := triple_inj (show some (w, (TDMA.JOB p k), fset (BitVec.ofNat 48 v) TDMA.JOB.OP 4) = some _ from he)
  replace hw : (w.ok && (mem.all fun e => decide (e.1 < 2 ^ 64) && decide (e.2 < 2 ^ 64)) && decide (p < 4) && decide (k < 4) && decide (v < 2 ^ 48)) = true := hw
  simp only [Bool.and_eq_true, decide_eq_true_eq] at hw
  have e0 : exec (.tdmaInsert w mem p k v) s = execTdmaInsert w mem p k v s := rfl
  rw [e0, execTdmaInsert, Act.go_eq]
  have hp : posts (TDMA.JOB p k) = false := posts_prism (by omega) (by omega) (by omega)
  have hn : u.refuses (TDMA.JOB p k) (fset (BitVec.ofNat 48 v) TDMA.JOB.OP 4) = false := hr.resolve_left (by rw [hp]; decide)
  have hq := (send_arrives ha hp).trans (effect_TDMA_JOB (by omega) (by omega) _ _ _ _)
  rw [if_neg (by rw [hn]; decide)] at hq
  refine congrArg Host.Outcome.next ?_
  simp only [Act.when_run, hw, and_self, if_true, Act.order, Act.seq_run, Bool.false_eq_true, if_false]
  exact hq

theorem reach_tdmaDelete {w : Sender} {mem : List (Nat × Nat)} {p k v : Nat} {s u : State} {ag : Agent} (h : Reaches (.tdmaDelete w mem p k v) s ag u) :
    exec (.tdmaDelete w mem p k v) s = .next (((tdmaJob ag p k (fset (BitVec.ofNat 48 v) TDMA.JOB.OP 5) (Act.ends w ag (TDMA.JOB p k))).run u)) := by
  obtain ⟨hw, w', a', v', he, ha, hr⟩ := h
  obtain ⟨rfl, rfl, rfl⟩ := triple_inj (show some (w, (TDMA.JOB p k), fset (BitVec.ofNat 48 v) TDMA.JOB.OP 5) = some _ from he)
  replace hw : (w.ok && (mem.all fun e => decide (e.1 < 2 ^ 64) && decide (e.2 < 2 ^ 64)) && decide (p < 4) && decide (k < 4) && decide (v < 2 ^ 48)) = true := hw
  simp only [Bool.and_eq_true, decide_eq_true_eq] at hw
  have e0 : exec (.tdmaDelete w mem p k v) s = execTdmaDelete w mem p k v s := rfl
  rw [e0, execTdmaDelete, Act.go_eq]
  have hp : posts (TDMA.JOB p k) = false := posts_prism (by omega) (by omega) (by omega)
  have hn : u.refuses (TDMA.JOB p k) (fset (BitVec.ofNat 48 v) TDMA.JOB.OP 5) = false := hr.resolve_left (by rw [hp]; decide)
  have hq := (send_arrives ha hp).trans (effect_TDMA_JOB (by omega) (by omega) _ _ _ _)
  rw [if_neg (by rw [hn]; decide)] at hq
  refine congrArg Host.Outcome.next ?_
  simp only [Act.when_run, hw, and_self, if_true, Act.order, Act.seq_run, Bool.false_eq_true, if_false]
  exact hq

theorem reach_gclConfigChange {w : Sender} {p f v : Nat} {s u : State} {ag : Agent} (h : Reaches (.gclConfigChange w p f v) s ag u) :
    exec (.gclConfigChange w p f v) s = .next (((gclCtrl ag p f (fset (BitVec.ofNat 48 v) PSFP.GCL_CTRL.CONFIG_CHANGE 1) (Act.ends w ag (PSFP.GCL_CTRL p f))).run u)) := by
  obtain ⟨hw, w', a', v', he, ha, hr⟩ := h
  obtain ⟨rfl, rfl, rfl⟩ := triple_inj (show some (w, (PSFP.GCL_CTRL p f), fset (BitVec.ofNat 48 v) PSFP.GCL_CTRL.CONFIG_CHANGE 1) = some _ from he)
  replace ha := (congrArg (State.arrives · _ _ _) (hartMem_nil _ s)).symm.trans ha
  replace hw : (w.ok && decide (p < 4) && decide (f < 32) && decide (v < 2 ^ 48)) = true := hw
  simp only [Bool.and_eq_true, decide_eq_true_eq] at hw
  have e0 : exec (.gclConfigChange w p f v) s = execGclConfigChange w p f v s := rfl
  rw [e0, execGclConfigChange, Act.go_eq]
  have hp : posts (PSFP.GCL_CTRL p f) = false := posts_prism (by omega) (by omega) (by omega)
  have hn : u.refuses (PSFP.GCL_CTRL p f) (fset (BitVec.ofNat 48 v) PSFP.GCL_CTRL.CONFIG_CHANGE 1) = false := hr.resolve_left (by rw [hp]; decide)
  have hq := (send_arrives ha hp).trans (effect_PSFP_GCL_CTRL (by omega) (by omega) _ _ _ _)
  rw [if_neg (by rw [hn]; decide)] at hq
  refine congrArg Host.Outcome.next ?_
  simp only [Act.when_run, hw, and_self, if_true, Act.order, Act.seq_run, Bool.false_eq_true, if_false]
  exact hq

theorem reach_mdioC45Address {w : Sender} {p f v : Nat} {s u : State} {ag : Agent} (h : Reaches (.mdioC45Address w p f v) s ag u) :
    exec (.mdioC45Address w p f v) s = .next (((mdioWrite ag p f (fset (BitVec.ofNat 48 v) ETH.MDIO.OP 1) (Act.ends w ag (ETH.MDIO p f))).run u)) := by
  obtain ⟨hw, w', a', v', he, ha, hr⟩ := h
  obtain ⟨rfl, rfl, rfl⟩ := triple_inj (show some (w, (ETH.MDIO p f), fset (BitVec.ofNat 48 v) ETH.MDIO.OP 1) = some _ from he)
  replace ha := (congrArg (State.arrives · _ _ _) (hartMem_nil _ s)).symm.trans ha
  replace hw : (w.ok && decide (p < 4) && decide (f < 32) && decide (v < 2 ^ 48)) = true := hw
  simp only [Bool.and_eq_true, decide_eq_true_eq] at hw
  have e0 : exec (.mdioC45Address w p f v) s = execMdioC45Address w p f v s := rfl
  rw [e0, execMdioC45Address, Act.go_eq]
  have hp : posts (ETH.MDIO p f) = false := posts_prism (by omega) (by omega) (by omega)
  have hn : u.refuses (ETH.MDIO p f) (fset (BitVec.ofNat 48 v) ETH.MDIO.OP 1) = false := hr.resolve_left (by rw [hp]; decide)
  have hq := (send_arrives ha hp).trans (effect_ETH_MDIO (by omega) (by omega) _ _ _ _)
  rw [if_neg (by rw [hn]; decide)] at hq
  refine congrArg Host.Outcome.next ?_
  simp only [Act.when_run, hw, and_self, if_true, Act.order, Act.seq_run, Bool.false_eq_true, if_false]
  exact hq

theorem reach_mdioC45Write {w : Sender} {p f v : Nat} {s u : State} {ag : Agent} (h : Reaches (.mdioC45Write w p f v) s ag u) :
    exec (.mdioC45Write w p f v) s = .next (((mdioWrite ag p f (fset (BitVec.ofNat 48 v) ETH.MDIO.OP 2) (Act.ends w ag (ETH.MDIO p f))).run u)) := by
  obtain ⟨hw, w', a', v', he, ha, hr⟩ := h
  obtain ⟨rfl, rfl, rfl⟩ := triple_inj (show some (w, (ETH.MDIO p f), fset (BitVec.ofNat 48 v) ETH.MDIO.OP 2) = some _ from he)
  replace ha := (congrArg (State.arrives · _ _ _) (hartMem_nil _ s)).symm.trans ha
  replace hw : (w.ok && decide (p < 4) && decide (f < 32) && decide (v < 2 ^ 48)) = true := hw
  simp only [Bool.and_eq_true, decide_eq_true_eq] at hw
  have e0 : exec (.mdioC45Write w p f v) s = execMdioC45Write w p f v s := rfl
  rw [e0, execMdioC45Write, Act.go_eq]
  have hp : posts (ETH.MDIO p f) = false := posts_prism (by omega) (by omega) (by omega)
  have hn : u.refuses (ETH.MDIO p f) (fset (BitVec.ofNat 48 v) ETH.MDIO.OP 2) = false := hr.resolve_left (by rw [hp]; decide)
  have hq := (send_arrives ha hp).trans (effect_ETH_MDIO (by omega) (by omega) _ _ _ _)
  rw [if_neg (by rw [hn]; decide)] at hq
  refine congrArg Host.Outcome.next ?_
  simp only [Act.when_run, hw, and_self, if_true, Act.order, Act.seq_run, Bool.false_eq_true, if_false]
  exact hq

theorem reach_mdioC45Read {w : Sender} {p f v : Nat} {s u : State} {ag : Agent} (h : Reaches (.mdioC45Read w p f v) s ag u) :
    exec (.mdioC45Read w p f v) s = .next (((mdioWrite ag p f (fset (BitVec.ofNat 48 v) ETH.MDIO.OP 3) (Act.ends w ag (ETH.MDIO p f))).run u)) := by
  obtain ⟨hw, w', a', v', he, ha, hr⟩ := h
  obtain ⟨rfl, rfl, rfl⟩ := triple_inj (show some (w, (ETH.MDIO p f), fset (BitVec.ofNat 48 v) ETH.MDIO.OP 3) = some _ from he)
  replace ha := (congrArg (State.arrives · _ _ _) (hartMem_nil _ s)).symm.trans ha
  replace hw : (w.ok && decide (p < 4) && decide (f < 32) && decide (v < 2 ^ 48)) = true := hw
  simp only [Bool.and_eq_true, decide_eq_true_eq] at hw
  have e0 : exec (.mdioC45Read w p f v) s = execMdioC45Read w p f v s := rfl
  rw [e0, execMdioC45Read, Act.go_eq]
  have hp : posts (ETH.MDIO p f) = false := posts_prism (by omega) (by omega) (by omega)
  have hn : u.refuses (ETH.MDIO p f) (fset (BitVec.ofNat 48 v) ETH.MDIO.OP 3) = false := hr.resolve_left (by rw [hp]; decide)
  have hq := (send_arrives ha hp).trans (effect_ETH_MDIO (by omega) (by omega) _ _ _ _)
  rw [if_neg (by rw [hn]; decide)] at hq
  refine congrArg Host.Outcome.next ?_
  simp only [Act.when_run, hw, and_self, if_true, Act.order, Act.seq_run, Bool.false_eq_true, if_false]
  exact hq

theorem reach_mdioC22Write {w : Sender} {p f v : Nat} {s u : State} {ag : Agent} (h : Reaches (.mdioC22Write w p f v) s ag u) :
    exec (.mdioC22Write w p f v) s = .next (((mdioWrite ag p f (fset (BitVec.ofNat 48 v) ETH.MDIO.OP 4) (Act.ends w ag (ETH.MDIO p f))).run u)) := by
  obtain ⟨hw, w', a', v', he, ha, hr⟩ := h
  obtain ⟨rfl, rfl, rfl⟩ := triple_inj (show some (w, (ETH.MDIO p f), fset (BitVec.ofNat 48 v) ETH.MDIO.OP 4) = some _ from he)
  replace ha := (congrArg (State.arrives · _ _ _) (hartMem_nil _ s)).symm.trans ha
  replace hw : (w.ok && decide (p < 4) && decide (f < 32) && decide (v < 2 ^ 48)) = true := hw
  simp only [Bool.and_eq_true, decide_eq_true_eq] at hw
  have e0 : exec (.mdioC22Write w p f v) s = execMdioC22Write w p f v s := rfl
  rw [e0, execMdioC22Write, Act.go_eq]
  have hp : posts (ETH.MDIO p f) = false := posts_prism (by omega) (by omega) (by omega)
  have hn : u.refuses (ETH.MDIO p f) (fset (BitVec.ofNat 48 v) ETH.MDIO.OP 4) = false := hr.resolve_left (by rw [hp]; decide)
  have hq := (send_arrives ha hp).trans (effect_ETH_MDIO (by omega) (by omega) _ _ _ _)
  rw [if_neg (by rw [hn]; decide)] at hq
  refine congrArg Host.Outcome.next ?_
  simp only [Act.when_run, hw, and_self, if_true, Act.order, Act.seq_run, Bool.false_eq_true, if_false]
  exact hq

theorem reach_mdioC22Read {w : Sender} {p f v : Nat} {s u : State} {ag : Agent} (h : Reaches (.mdioC22Read w p f v) s ag u) :
    exec (.mdioC22Read w p f v) s = .next (((mdioWrite ag p f (fset (BitVec.ofNat 48 v) ETH.MDIO.OP 5) (Act.ends w ag (ETH.MDIO p f))).run u)) := by
  obtain ⟨hw, w', a', v', he, ha, hr⟩ := h
  obtain ⟨rfl, rfl, rfl⟩ := triple_inj (show some (w, (ETH.MDIO p f), fset (BitVec.ofNat 48 v) ETH.MDIO.OP 5) = some _ from he)
  replace ha := (congrArg (State.arrives · _ _ _) (hartMem_nil _ s)).symm.trans ha
  replace hw : (w.ok && decide (p < 4) && decide (f < 32) && decide (v < 2 ^ 48)) = true := hw
  simp only [Bool.and_eq_true, decide_eq_true_eq] at hw
  have e0 : exec (.mdioC22Read w p f v) s = execMdioC22Read w p f v s := rfl
  rw [e0, execMdioC22Read, Act.go_eq]
  have hp : posts (ETH.MDIO p f) = false := posts_prism (by omega) (by omega) (by omega)
  have hn : u.refuses (ETH.MDIO p f) (fset (BitVec.ofNat 48 v) ETH.MDIO.OP 5) = false := hr.resolve_left (by rw [hp]; decide)
  have hq := (send_arrives ha hp).trans (effect_ETH_MDIO (by omega) (by omega) _ _ _ _)
  rw [if_neg (by rw [hn]; decide)] at hq
  refine congrArg Host.Outcome.next ?_
  simp only [Act.when_run, hw, and_self, if_true, Act.order, Act.seq_run, Bool.false_eq_true, if_false]
  exact hq

theorem reach_snap {w : Sender} {p f v : Nat} {s u : State} {ag : Agent} (h : Reaches (.snap w p f v) s ag u) :
    exec (.snap w p f v) s = .next (((ethCtrl p f (fset (BitVec.ofNat 48 v) ETH.CTRL.SNAP 1) (Act.ends w ag (ETH.CTRL p f))).run u)) := by
  obtain ⟨hw, w', a', v', he, ha, hr⟩ := h
  obtain ⟨rfl, rfl, rfl⟩ := triple_inj (show some (w, (ETH.CTRL p f), fset (BitVec.ofNat 48 v) ETH.CTRL.SNAP 1) = some _ from he)
  replace ha := (congrArg (State.arrives · _ _ _) (hartMem_nil _ s)).symm.trans ha
  replace hw : (w.ok && decide (p < 4) && decide (f < 32) && decide (v < 2 ^ 48)) = true := hw
  simp only [Bool.and_eq_true, decide_eq_true_eq] at hw
  have e0 : exec (.snap w p f v) s = execSnap w p f v s := rfl
  rw [e0, execSnap, Act.go_eq]
  have hp : posts (ETH.CTRL p f) = false := posts_prism (by omega) (by omega) (by omega)
  have hn : u.refuses (ETH.CTRL p f) (fset (BitVec.ofNat 48 v) ETH.CTRL.SNAP 1) = false := hr.resolve_left (by rw [hp]; decide)
  have hq := (send_arrives ha hp).trans (effect_ETH_CTRL (by omega) (by omega) _ _ _ _)
  rw [if_neg (by rw [hn]; decide)] at hq
  refine congrArg Host.Outcome.next ?_
  simp only [Act.when_run, hw, and_self, if_true, Act.order, Act.seq_run, Bool.false_eq_true, if_false]
  exact hq

theorem reach_restartAn {w : Sender} {p f v : Nat} {s u : State} {ag : Agent} (h : Reaches (.restartAn w p f v) s ag u) :
    exec (.restartAn w p f v) s = .next (((ethCtrl p f (fset (BitVec.ofNat 48 v) ETH.CTRL.RESTART_AN 1) (Act.ends w ag (ETH.CTRL p f))).run u)) := by
  obtain ⟨hw, w', a', v', he, ha, hr⟩ := h
  obtain ⟨rfl, rfl, rfl⟩ := triple_inj (show some (w, (ETH.CTRL p f), fset (BitVec.ofNat 48 v) ETH.CTRL.RESTART_AN 1) = some _ from he)
  replace ha := (congrArg (State.arrives · _ _ _) (hartMem_nil _ s)).symm.trans ha
  replace hw : (w.ok && decide (p < 4) && decide (f < 32) && decide (v < 2 ^ 48)) = true := hw
  simp only [Bool.and_eq_true, decide_eq_true_eq] at hw
  have e0 : exec (.restartAn w p f v) s = execRestartAn w p f v s := rfl
  rw [e0, execRestartAn, Act.go_eq]
  have hp : posts (ETH.CTRL p f) = false := posts_prism (by omega) (by omega) (by omega)
  have hn : u.refuses (ETH.CTRL p f) (fset (BitVec.ofNat 48 v) ETH.CTRL.RESTART_AN 1) = false := hr.resolve_left (by rw [hp]; decide)
  have hq := (send_arrives ha hp).trans (effect_ETH_CTRL (by omega) (by omega) _ _ _ _)
  rw [if_neg (by rw [hn]; decide)] at hq
  refine congrArg Host.Outcome.next ?_
  simp only [Act.when_run, hw, and_self, if_true, Act.order, Act.seq_run, Bool.false_eq_true, if_false]
  exact hq

theorem reach_timeRateWrite {w : Sender} {p v : Nat} {s u : State} {ag : Agent} (h : Reaches (.timeRateWrite w p v) s ag u) :
    exec (.timeRateWrite w p v) s = .next (((timeRateWrite ag p (BitVec.ofNat 48 v) (Act.ends w ag (TIME.RATE p))).run u)) := by
  obtain ⟨hw, w', a', v', he, ha, hr⟩ := h
  obtain ⟨rfl, rfl, rfl⟩ := triple_inj (show some (w, (TIME.RATE p), BitVec.ofNat 48 v) = some _ from he)
  replace ha := (congrArg (State.arrives · _ _ _) (hartMem_nil _ s)).symm.trans ha
  replace hw : (w.ok && decide (p < 4) && decide (v < 2 ^ 48)) = true := hw
  simp only [Bool.and_eq_true, decide_eq_true_eq] at hw
  have e0 : exec (.timeRateWrite w p v) s = execTimeRateWrite w p v s := rfl
  rw [e0, execTimeRateWrite, Act.go_eq]
  have hp : posts (TIME.RATE p) = false := posts_prism (by omega) (by omega) (by omega)
  have hn : u.refuses (TIME.RATE p) (BitVec.ofNat 48 v) = false := hr.resolve_left (by rw [hp]; decide)
  have hq := (send_arrives ha hp).trans (effect_TIME_RATE (by omega) _ _ _ _)
  rw [if_neg (by rw [hn]; decide)] at hq
  refine congrArg Host.Outcome.next ?_
  simp only [Act.when_run, hw, and_self, if_true, Act.order, Act.seq_run, Bool.false_eq_true, if_false]
  exact hq

theorem reach_timeStepWrite {w : Sender} {p v : Nat} {s u : State} {ag : Agent} (h : Reaches (.timeStepWrite w p v) s ag u) :
    exec (.timeStepWrite w p v) s = .next (((timeStepWrite ag p (BitVec.ofNat 48 v) (Act.ends w ag (TIME.STEP p))).run u)) := by
  obtain ⟨hw, w', a', v', he, ha, hr⟩ := h
  obtain ⟨rfl, rfl, rfl⟩ := triple_inj (show some (w, (TIME.STEP p), BitVec.ofNat 48 v) = some _ from he)
  replace ha := (congrArg (State.arrives · _ _ _) (hartMem_nil _ s)).symm.trans ha
  replace hw : (w.ok && decide (p < 4) && decide (v < 2 ^ 48)) = true := hw
  simp only [Bool.and_eq_true, decide_eq_true_eq] at hw
  have e0 : exec (.timeStepWrite w p v) s = execTimeStepWrite w p v s := rfl
  rw [e0, execTimeStepWrite, Act.go_eq]
  have hp : posts (TIME.STEP p) = false := posts_prism (by omega) (by omega) (by omega)
  have hn : u.refuses (TIME.STEP p) (BitVec.ofNat 48 v) = false := hr.resolve_left (by rw [hp]; decide)
  have hq := (send_arrives ha hp).trans (effect_TIME_STEP (by omega) _ _ _ _)
  rw [if_neg (by rw [hn]; decide)] at hq
  refine congrArg Host.Outcome.next ?_
  simp only [Act.when_run, hw, and_self, if_true, Act.order, Act.seq_run, Bool.false_eq_true, if_false]
  exact hq

theorem reach_commit {w : Sender} {p v : Nat} {s u : State} {ag : Agent} (h : Reaches (.commit w p v) s ag u) :
    exec (.commit w p v) s = .next (((timeCtrl ag p (fset (BitVec.ofNat 48 v) TIME.CTRL.COMMIT 1) (Act.ends w ag (TIME.CTRL p))).run u)) := by
  obtain ⟨hw, w', a', v', he, ha, hr⟩ := h
  obtain ⟨rfl, rfl, rfl⟩ := triple_inj (show some (w, (TIME.CTRL p), fset (BitVec.ofNat 48 v) TIME.CTRL.COMMIT 1) = some _ from he)
  replace ha := (congrArg (State.arrives · _ _ _) (hartMem_nil _ s)).symm.trans ha
  replace hw : (w.ok && decide (p < 4) && decide (v < 2 ^ 48)) = true := hw
  simp only [Bool.and_eq_true, decide_eq_true_eq] at hw
  have e0 : exec (.commit w p v) s = execCommit w p v s := rfl
  rw [e0, execCommit, Act.go_eq]
  have hp : posts (TIME.CTRL p) = false := posts_prism (by omega) (by omega) (by omega)
  have hn : u.refuses (TIME.CTRL p) (fset (BitVec.ofNat 48 v) TIME.CTRL.COMMIT 1) = false := hr.resolve_left (by rw [hp]; decide)
  have hq := (send_arrives ha hp).trans (effect_TIME_CTRL (by omega) _ _ _ _)
  rw [if_neg (by rw [hn]; decide)] at hq
  refine congrArg Host.Outcome.next ?_
  simp only [Act.when_run, hw, and_self, if_true, Act.order, Act.seq_run, Bool.false_eq_true, if_false]
  exact hq

theorem reach_canRecover {w : Sender} {p c v : Nat} {s u : State} {ag : Agent} (h : Reaches (.canRecover w p c v) s ag u) :
    exec (.canRecover w p c v) s = .next (((canCmd p c (fset (BitVec.ofNat 48 v) CAN.CMD.RECOVER 1) (Act.ends w ag (CAN.CMD p c))).run u)) := by
  obtain ⟨hw, w', a', v', he, ha, hr⟩ := h
  obtain ⟨rfl, rfl, rfl⟩ := triple_inj (show some (w, (CAN.CMD p c), fset (BitVec.ofNat 48 v) CAN.CMD.RECOVER 1) = some _ from he)
  replace ha := (congrArg (State.arrives · _ _ _) (hartMem_nil _ s)).symm.trans ha
  replace hw : (w.ok && decide (p < 4) && decide (c < 16) && decide (v < 2 ^ 48)) = true := hw
  simp only [Bool.and_eq_true, decide_eq_true_eq] at hw
  have e0 : exec (.canRecover w p c v) s = execCanRecover w p c v s := rfl
  rw [e0, execCanRecover, Act.go_eq]
  have hp : posts (CAN.CMD p c) = false := posts_prism (by omega) (by omega) (by omega)
  have hn : u.refuses (CAN.CMD p c) (fset (BitVec.ofNat 48 v) CAN.CMD.RECOVER 1) = false := hr.resolve_left (by rw [hp]; decide)
  have hq := (send_arrives ha hp).trans (effect_CAN_CMD (by omega) (by omega) _ _ _ _)
  rw [if_neg (by rw [hn]; decide)] at hq
  refine congrArg Host.Outcome.next ?_
  simp only [Act.when_run, hw, and_self, if_true, Act.order, Act.seq_run, Bool.false_eq_true, if_false]
  exact hq

theorem reach_abortTx {w : Sender} {p c v : Nat} {s u : State} {ag : Agent} (h : Reaches (.abortTx w p c v) s ag u) :
    exec (.abortTx w p c v) s = .next (((canCmd p c (fset (BitVec.ofNat 48 v) CAN.CMD.ABORT_TX 1) (Act.ends w ag (CAN.CMD p c))).run u)) := by
  obtain ⟨hw, w', a', v', he, ha, hr⟩ := h
  obtain ⟨rfl, rfl, rfl⟩ := triple_inj (show some (w, (CAN.CMD p c), fset (BitVec.ofNat 48 v) CAN.CMD.ABORT_TX 1) = some _ from he)
  replace ha := (congrArg (State.arrives · _ _ _) (hartMem_nil _ s)).symm.trans ha
  replace hw : (w.ok && decide (p < 4) && decide (c < 16) && decide (v < 2 ^ 48)) = true := hw
  simp only [Bool.and_eq_true, decide_eq_true_eq] at hw
  have e0 : exec (.abortTx w p c v) s = execAbortTx w p c v s := rfl
  rw [e0, execAbortTx, Act.go_eq]
  have hp : posts (CAN.CMD p c) = false := posts_prism (by omega) (by omega) (by omega)
  have hn : u.refuses (CAN.CMD p c) (fset (BitVec.ofNat 48 v) CAN.CMD.ABORT_TX 1) = false := hr.resolve_left (by rw [hp]; decide)
  have hq := (send_arrives ha hp).trans (effect_CAN_CMD (by omega) (by omega) _ _ _ _)
  rw [if_neg (by rw [hn]; decide)] at hq
  refine congrArg Host.Outcome.next ?_
  simp only [Act.when_run, hw, and_self, if_true, Act.order, Act.seq_run, Bool.false_eq_true, if_false]
  exact hq

theorem reach_filtCmdRead {w : Sender} {p c v : Nat} {s u : State} {ag : Agent} (h : Reaches (.filtCmdRead w p c v) s ag u) :
    exec (.filtCmdRead w p c v) s = .next (((filtCmd ag p c (fset (BitVec.ofNat 48 v) CAN.FILT_CMD.OP 1) (Act.ends w ag (CAN.FILT_CMD p c))).run u)) := by
  obtain ⟨hw, w', a', v', he, ha, hr⟩ := h
  obtain ⟨rfl, rfl, rfl⟩ := triple_inj (show some (w, (CAN.FILT_CMD p c), fset (BitVec.ofNat 48 v) CAN.FILT_CMD.OP 1) = some _ from he)
  replace ha := (congrArg (State.arrives · _ _ _) (hartMem_nil _ s)).symm.trans ha
  replace hw : (w.ok && decide (p < 4) && decide (c < 16) && decide (v < 2 ^ 48)) = true := hw
  simp only [Bool.and_eq_true, decide_eq_true_eq] at hw
  have e0 : exec (.filtCmdRead w p c v) s = execFiltCmdRead w p c v s := rfl
  rw [e0, execFiltCmdRead, Act.go_eq]
  have hp : posts (CAN.FILT_CMD p c) = false := posts_prism (by omega) (by omega) (by omega)
  have hn : u.refuses (CAN.FILT_CMD p c) (fset (BitVec.ofNat 48 v) CAN.FILT_CMD.OP 1) = false := hr.resolve_left (by rw [hp]; decide)
  have hq := (send_arrives ha hp).trans (effect_CAN_FILT_CMD (by omega) (by omega) _ _ _ _)
  rw [if_neg (by rw [hn]; decide)] at hq
  refine congrArg Host.Outcome.next ?_
  simp only [Act.when_run, hw, and_self, if_true, Act.order, Act.seq_run, Bool.false_eq_true, if_false]
  exact hq

theorem reach_filtCmdWrite {w : Sender} {p c v : Nat} {s u : State} {ag : Agent} (h : Reaches (.filtCmdWrite w p c v) s ag u) :
    exec (.filtCmdWrite w p c v) s = .next (((filtCmd ag p c (fset (BitVec.ofNat 48 v) CAN.FILT_CMD.OP 2) (Act.ends w ag (CAN.FILT_CMD p c))).run u)) := by
  obtain ⟨hw, w', a', v', he, ha, hr⟩ := h
  obtain ⟨rfl, rfl, rfl⟩ := triple_inj (show some (w, (CAN.FILT_CMD p c), fset (BitVec.ofNat 48 v) CAN.FILT_CMD.OP 2) = some _ from he)
  replace ha := (congrArg (State.arrives · _ _ _) (hartMem_nil _ s)).symm.trans ha
  replace hw : (w.ok && decide (p < 4) && decide (c < 16) && decide (v < 2 ^ 48)) = true := hw
  simp only [Bool.and_eq_true, decide_eq_true_eq] at hw
  have e0 : exec (.filtCmdWrite w p c v) s = execFiltCmdWrite w p c v s := rfl
  rw [e0, execFiltCmdWrite, Act.go_eq]
  have hp : posts (CAN.FILT_CMD p c) = false := posts_prism (by omega) (by omega) (by omega)
  have hn : u.refuses (CAN.FILT_CMD p c) (fset (BitVec.ofNat 48 v) CAN.FILT_CMD.OP 2) = false := hr.resolve_left (by rw [hp]; decide)
  have hq := (send_arrives ha hp).trans (effect_CAN_FILT_CMD (by omega) (by omega) _ _ _ _)
  rw [if_neg (by rw [hn]; decide)] at hq
  refine congrArg Host.Outcome.next ?_
  simp only [Act.when_run, hw, and_self, if_true, Act.order, Act.seq_run, Bool.false_eq_true, if_false]
  exact hq

theorem reach_acCmdRead {w : Sender} {p c v : Nat} {s u : State} {ag : Agent} (h : Reaches (.acCmdRead w p c v) s ag u) :
    exec (.acCmdRead w p c v) s = .next (((acCmd ag p c (fset (BitVec.ofNat 48 v) CAN.AC_CMD.OP 1) (Act.ends w ag (CAN.AC_CMD p c))).run u)) := by
  obtain ⟨hw, w', a', v', he, ha, hr⟩ := h
  obtain ⟨rfl, rfl, rfl⟩ := triple_inj (show some (w, (CAN.AC_CMD p c), fset (BitVec.ofNat 48 v) CAN.AC_CMD.OP 1) = some _ from he)
  replace ha := (congrArg (State.arrives · _ _ _) (hartMem_nil _ s)).symm.trans ha
  replace hw : (w.ok && decide (p < 4) && decide (c < 16) && decide (v < 2 ^ 48)) = true := hw
  simp only [Bool.and_eq_true, decide_eq_true_eq] at hw
  have e0 : exec (.acCmdRead w p c v) s = execAcCmdRead w p c v s := rfl
  rw [e0, execAcCmdRead, Act.go_eq]
  have hp : posts (CAN.AC_CMD p c) = false := posts_prism (by omega) (by omega) (by omega)
  have hn : u.refuses (CAN.AC_CMD p c) (fset (BitVec.ofNat 48 v) CAN.AC_CMD.OP 1) = false := hr.resolve_left (by rw [hp]; decide)
  have hq := (send_arrives ha hp).trans (effect_CAN_AC_CMD (by omega) (by omega) _ _ _ _)
  rw [if_neg (by rw [hn]; decide)] at hq
  refine congrArg Host.Outcome.next ?_
  simp only [Act.when_run, hw, and_self, if_true, Act.order, Act.seq_run, Bool.false_eq_true, if_false]
  exact hq

theorem reach_acCmdFind {w : Sender} {p c v : Nat} {s u : State} {ag : Agent} (h : Reaches (.acCmdFind w p c v) s ag u) :
    exec (.acCmdFind w p c v) s = .next (((acCmd ag p c (fset (BitVec.ofNat 48 v) CAN.AC_CMD.OP 2) (Act.ends w ag (CAN.AC_CMD p c))).run u)) := by
  obtain ⟨hw, w', a', v', he, ha, hr⟩ := h
  obtain ⟨rfl, rfl, rfl⟩ := triple_inj (show some (w, (CAN.AC_CMD p c), fset (BitVec.ofNat 48 v) CAN.AC_CMD.OP 2) = some _ from he)
  replace ha := (congrArg (State.arrives · _ _ _) (hartMem_nil _ s)).symm.trans ha
  replace hw : (w.ok && decide (p < 4) && decide (c < 16) && decide (v < 2 ^ 48)) = true := hw
  simp only [Bool.and_eq_true, decide_eq_true_eq] at hw
  have e0 : exec (.acCmdFind w p c v) s = execAcCmdFind w p c v s := rfl
  rw [e0, execAcCmdFind, Act.go_eq]
  have hp : posts (CAN.AC_CMD p c) = false := posts_prism (by omega) (by omega) (by omega)
  have hn : u.refuses (CAN.AC_CMD p c) (fset (BitVec.ofNat 48 v) CAN.AC_CMD.OP 2) = false := hr.resolve_left (by rw [hp]; decide)
  have hq := (send_arrives ha hp).trans (effect_CAN_AC_CMD (by omega) (by omega) _ _ _ _)
  rw [if_neg (by rw [hn]; decide)] at hq
  refine congrArg Host.Outcome.next ?_
  simp only [Act.when_run, hw, and_self, if_true, Act.order, Act.seq_run, Bool.false_eq_true, if_false]
  exact hq

theorem reach_acCmdEmpty {w : Sender} {p c v : Nat} {s u : State} {ag : Agent} (h : Reaches (.acCmdEmpty w p c v) s ag u) :
    exec (.acCmdEmpty w p c v) s = .next (((acCmd ag p c (fset (BitVec.ofNat 48 v) CAN.AC_CMD.OP 3) (Act.ends w ag (CAN.AC_CMD p c))).run u)) := by
  obtain ⟨hw, w', a', v', he, ha, hr⟩ := h
  obtain ⟨rfl, rfl, rfl⟩ := triple_inj (show some (w, (CAN.AC_CMD p c), fset (BitVec.ofNat 48 v) CAN.AC_CMD.OP 3) = some _ from he)
  replace ha := (congrArg (State.arrives · _ _ _) (hartMem_nil _ s)).symm.trans ha
  replace hw : (w.ok && decide (p < 4) && decide (c < 16) && decide (v < 2 ^ 48)) = true := hw
  simp only [Bool.and_eq_true, decide_eq_true_eq] at hw
  have e0 : exec (.acCmdEmpty w p c v) s = execAcCmdEmpty w p c v s := rfl
  rw [e0, execAcCmdEmpty, Act.go_eq]
  have hp : posts (CAN.AC_CMD p c) = false := posts_prism (by omega) (by omega) (by omega)
  have hn : u.refuses (CAN.AC_CMD p c) (fset (BitVec.ofNat 48 v) CAN.AC_CMD.OP 3) = false := hr.resolve_left (by rw [hp]; decide)
  have hq := (send_arrives ha hp).trans (effect_CAN_AC_CMD (by omega) (by omega) _ _ _ _)
  rw [if_neg (by rw [hn]; decide)] at hq
  refine congrArg Host.Outcome.next ?_
  simp only [Act.when_run, hw, and_self, if_true, Act.order, Act.seq_run, Bool.false_eq_true, if_false]
  exact hq

theorem reach_linSwitch {w : Sender} {p c v : Nat} {s u : State} {ag : Agent} (h : Reaches (.linSwitch w p c v) s ag u) :
    exec (.linSwitch w p c v) s = .next (((linCmd p c (fset (BitVec.ofNat 48 v) LIN.CMD.SWITCH 1) (Act.ends w ag (LIN.CMD p c))).run u)) := by
  obtain ⟨hw, w', a', v', he, ha, hr⟩ := h
  obtain ⟨rfl, rfl, rfl⟩ := triple_inj (show some (w, (LIN.CMD p c), fset (BitVec.ofNat 48 v) LIN.CMD.SWITCH 1) = some _ from he)
  replace ha := (congrArg (State.arrives · _ _ _) (hartMem_nil _ s)).symm.trans ha
  replace hw : (w.ok && decide (p < 4) && decide (c < 8) && decide (v < 2 ^ 48)) = true := hw
  simp only [Bool.and_eq_true, decide_eq_true_eq] at hw
  have e0 : exec (.linSwitch w p c v) s = execLinSwitch w p c v s := rfl
  rw [e0, execLinSwitch, Act.go_eq]
  have hp : posts (LIN.CMD p c) = false := posts_prism (by omega) (by omega) (by omega)
  have hn : u.refuses (LIN.CMD p c) (fset (BitVec.ofNat 48 v) LIN.CMD.SWITCH 1) = false := hr.resolve_left (by rw [hp]; decide)
  have hq := (send_arrives ha hp).trans (effect_LIN_CMD (by omega) (by omega) _ _ _ _)
  rw [if_neg (by rw [hn]; decide)] at hq
  refine congrArg Host.Outcome.next ?_
  simp only [Act.when_run, hw, and_self, if_true, Act.order, Act.seq_run, Bool.false_eq_true, if_false]
  exact hq

theorem reach_linStop {w : Sender} {p c v : Nat} {s u : State} {ag : Agent} (h : Reaches (.linStop w p c v) s ag u) :
    exec (.linStop w p c v) s = .next (((linCmd p c (fset (BitVec.ofNat 48 v) LIN.CMD.STOP 1) (Act.ends w ag (LIN.CMD p c))).run u)) := by
  obtain ⟨hw, w', a', v', he, ha, hr⟩ := h
  obtain ⟨rfl, rfl, rfl⟩ := triple_inj (show some (w, (LIN.CMD p c), fset (BitVec.ofNat 48 v) LIN.CMD.STOP 1) = some _ from he)
  replace ha := (congrArg (State.arrives · _ _ _) (hartMem_nil _ s)).symm.trans ha
  replace hw : (w.ok && decide (p < 4) && decide (c < 8) && decide (v < 2 ^ 48)) = true := hw
  simp only [Bool.and_eq_true, decide_eq_true_eq] at hw
  have e0 : exec (.linStop w p c v) s = execLinStop w p c v s := rfl
  rw [e0, execLinStop, Act.go_eq]
  have hp : posts (LIN.CMD p c) = false := posts_prism (by omega) (by omega) (by omega)
  have hn : u.refuses (LIN.CMD p c) (fset (BitVec.ofNat 48 v) LIN.CMD.STOP 1) = false := hr.resolve_left (by rw [hp]; decide)
  have hq := (send_arrives ha hp).trans (effect_LIN_CMD (by omega) (by omega) _ _ _ _)
  rw [if_neg (by rw [hn]; decide)] at hq
  refine congrArg Host.Outcome.next ?_
  simp only [Act.when_run, hw, and_self, if_true, Act.order, Act.seq_run, Bool.false_eq_true, if_false]
  exact hq

theorem reach_linGotosleep {w : Sender} {p c v : Nat} {s u : State} {ag : Agent} (h : Reaches (.linGotosleep w p c v) s ag u) :
    exec (.linGotosleep w p c v) s = .next (((linCmd p c (fset (BitVec.ofNat 48 v) LIN.CMD.GOTOSLEEP 1) (Act.ends w ag (LIN.CMD p c))).run u)) := by
  obtain ⟨hw, w', a', v', he, ha, hr⟩ := h
  obtain ⟨rfl, rfl, rfl⟩ := triple_inj (show some (w, (LIN.CMD p c), fset (BitVec.ofNat 48 v) LIN.CMD.GOTOSLEEP 1) = some _ from he)
  replace ha := (congrArg (State.arrives · _ _ _) (hartMem_nil _ s)).symm.trans ha
  replace hw : (w.ok && decide (p < 4) && decide (c < 8) && decide (v < 2 ^ 48)) = true := hw
  simp only [Bool.and_eq_true, decide_eq_true_eq] at hw
  have e0 : exec (.linGotosleep w p c v) s = execLinGotosleep w p c v s := rfl
  rw [e0, execLinGotosleep, Act.go_eq]
  have hp : posts (LIN.CMD p c) = false := posts_prism (by omega) (by omega) (by omega)
  have hn : u.refuses (LIN.CMD p c) (fset (BitVec.ofNat 48 v) LIN.CMD.GOTOSLEEP 1) = false := hr.resolve_left (by rw [hp]; decide)
  have hq := (send_arrives ha hp).trans (effect_LIN_CMD (by omega) (by omega) _ _ _ _)
  rw [if_neg (by rw [hn]; decide)] at hq
  refine congrArg Host.Outcome.next ?_
  simp only [Act.when_run, hw, and_self, if_true, Act.order, Act.seq_run, Bool.false_eq_true, if_false]
  exact hq

theorem reach_schedCmdRead {w : Sender} {p c v : Nat} {s u : State} {ag : Agent} (h : Reaches (.schedCmdRead w p c v) s ag u) :
    exec (.schedCmdRead w p c v) s = .next (((schedCmd ag p c (fset (BitVec.ofNat 48 v) LIN.SCHED_CMD.OP 1) (Act.ends w ag (LIN.SCHED_CMD p c))).run u)) := by
  obtain ⟨hw, w', a', v', he, ha, hr⟩ := h
  obtain ⟨rfl, rfl, rfl⟩ := triple_inj (show some (w, (LIN.SCHED_CMD p c), fset (BitVec.ofNat 48 v) LIN.SCHED_CMD.OP 1) = some _ from he)
  replace ha := (congrArg (State.arrives · _ _ _) (hartMem_nil _ s)).symm.trans ha
  replace hw : (w.ok && decide (p < 4) && decide (c < 8) && decide (v < 2 ^ 48)) = true := hw
  simp only [Bool.and_eq_true, decide_eq_true_eq] at hw
  have e0 : exec (.schedCmdRead w p c v) s = execSchedCmdRead w p c v s := rfl
  rw [e0, execSchedCmdRead, Act.go_eq]
  have hp : posts (LIN.SCHED_CMD p c) = false := posts_prism (by omega) (by omega) (by omega)
  have hn : u.refuses (LIN.SCHED_CMD p c) (fset (BitVec.ofNat 48 v) LIN.SCHED_CMD.OP 1) = false := hr.resolve_left (by rw [hp]; decide)
  have hq := (send_arrives ha hp).trans (effect_LIN_SCHED_CMD (by omega) (by omega) _ _ _ _)
  rw [if_neg (by rw [hn]; decide)] at hq
  refine congrArg Host.Outcome.next ?_
  simp only [Act.when_run, hw, and_self, if_true, Act.order, Act.seq_run, Bool.false_eq_true, if_false]
  exact hq

theorem reach_schedCmdWrite {w : Sender} {p c v : Nat} {s u : State} {ag : Agent} (h : Reaches (.schedCmdWrite w p c v) s ag u) :
    exec (.schedCmdWrite w p c v) s = .next (((schedCmd ag p c (fset (BitVec.ofNat 48 v) LIN.SCHED_CMD.OP 2) (Act.ends w ag (LIN.SCHED_CMD p c))).run u)) := by
  obtain ⟨hw, w', a', v', he, ha, hr⟩ := h
  obtain ⟨rfl, rfl, rfl⟩ := triple_inj (show some (w, (LIN.SCHED_CMD p c), fset (BitVec.ofNat 48 v) LIN.SCHED_CMD.OP 2) = some _ from he)
  replace ha := (congrArg (State.arrives · _ _ _) (hartMem_nil _ s)).symm.trans ha
  replace hw : (w.ok && decide (p < 4) && decide (c < 8) && decide (v < 2 ^ 48)) = true := hw
  simp only [Bool.and_eq_true, decide_eq_true_eq] at hw
  have e0 : exec (.schedCmdWrite w p c v) s = execSchedCmdWrite w p c v s := rfl
  rw [e0, execSchedCmdWrite, Act.go_eq]
  have hp : posts (LIN.SCHED_CMD p c) = false := posts_prism (by omega) (by omega) (by omega)
  have hn : u.refuses (LIN.SCHED_CMD p c) (fset (BitVec.ofNat 48 v) LIN.SCHED_CMD.OP 2) = false := hr.resolve_left (by rw [hp]; decide)
  have hq := (send_arrives ha hp).trans (effect_LIN_SCHED_CMD (by omega) (by omega) _ _ _ _)
  rw [if_neg (by rw [hn]; decide)] at hq
  refine congrArg Host.Outcome.next ?_
  simp only [Act.when_run, hw, and_self, if_true, Act.order, Act.seq_run, Bool.false_eq_true, if_false]
  exact hq

theorem reach_pubCmdRead {w : Sender} {p c v : Nat} {s u : State} {ag : Agent} (h : Reaches (.pubCmdRead w p c v) s ag u) :
    exec (.pubCmdRead w p c v) s = .next (((pubCmd ag p c (fset (BitVec.ofNat 48 v) LIN.PUB_CMD.OP 1) (Act.ends w ag (LIN.PUB_CMD p c))).run u)) := by
  obtain ⟨hw, w', a', v', he, ha, hr⟩ := h
  obtain ⟨rfl, rfl, rfl⟩ := triple_inj (show some (w, (LIN.PUB_CMD p c), fset (BitVec.ofNat 48 v) LIN.PUB_CMD.OP 1) = some _ from he)
  replace ha := (congrArg (State.arrives · _ _ _) (hartMem_nil _ s)).symm.trans ha
  replace hw : (w.ok && decide (p < 4) && decide (c < 8) && decide (v < 2 ^ 48)) = true := hw
  simp only [Bool.and_eq_true, decide_eq_true_eq] at hw
  have e0 : exec (.pubCmdRead w p c v) s = execPubCmdRead w p c v s := rfl
  rw [e0, execPubCmdRead, Act.go_eq]
  have hp : posts (LIN.PUB_CMD p c) = false := posts_prism (by omega) (by omega) (by omega)
  have hn : u.refuses (LIN.PUB_CMD p c) (fset (BitVec.ofNat 48 v) LIN.PUB_CMD.OP 1) = false := hr.resolve_left (by rw [hp]; decide)
  have hq := (send_arrives ha hp).trans (effect_LIN_PUB_CMD (by omega) (by omega) _ _ _ _)
  rw [if_neg (by rw [hn]; decide)] at hq
  refine congrArg Host.Outcome.next ?_
  simp only [Act.when_run, hw, and_self, if_true, Act.order, Act.seq_run, Bool.false_eq_true, if_false]
  exact hq

theorem reach_pubCmdWrite {w : Sender} {p c v : Nat} {s u : State} {ag : Agent} (h : Reaches (.pubCmdWrite w p c v) s ag u) :
    exec (.pubCmdWrite w p c v) s = .next (((pubCmd ag p c (fset (BitVec.ofNat 48 v) LIN.PUB_CMD.OP 2) (Act.ends w ag (LIN.PUB_CMD p c))).run u)) := by
  obtain ⟨hw, w', a', v', he, ha, hr⟩ := h
  obtain ⟨rfl, rfl, rfl⟩ := triple_inj (show some (w, (LIN.PUB_CMD p c), fset (BitVec.ofNat 48 v) LIN.PUB_CMD.OP 2) = some _ from he)
  replace ha := (congrArg (State.arrives · _ _ _) (hartMem_nil _ s)).symm.trans ha
  replace hw : (w.ok && decide (p < 4) && decide (c < 8) && decide (v < 2 ^ 48)) = true := hw
  simp only [Bool.and_eq_true, decide_eq_true_eq] at hw
  have e0 : exec (.pubCmdWrite w p c v) s = execPubCmdWrite w p c v s := rfl
  rw [e0, execPubCmdWrite, Act.go_eq]
  have hp : posts (LIN.PUB_CMD p c) = false := posts_prism (by omega) (by omega) (by omega)
  have hn : u.refuses (LIN.PUB_CMD p c) (fset (BitVec.ofNat 48 v) LIN.PUB_CMD.OP 2) = false := hr.resolve_left (by rw [hp]; decide)
  have hq := (send_arrives ha hp).trans (effect_LIN_PUB_CMD (by omega) (by omega) _ _ _ _)
  rw [if_neg (by rw [hn]; decide)] at hq
  refine congrArg Host.Outcome.next ?_
  simp only [Act.when_run, hw, and_self, if_true, Act.order, Act.seq_run, Bool.false_eq_true, if_false]
  exact hq

theorem reach_beamCmdRead {w : Sender} {p v : Nat} {s u : State} {ag : Agent} (h : Reaches (.beamCmdRead w p v) s ag u) :
    exec (.beamCmdRead w p v) s = .next (((beamCmd ag p (fset (BitVec.ofNat 48 v) SGW.BEAM_CMD.OP 1) (Act.ends w ag (SGW.BEAM_CMD p))).run u)) := by
  obtain ⟨hw, w', a', v', he, ha, hr⟩ := h
  obtain ⟨rfl, rfl, rfl⟩ := triple_inj (show some (w, (SGW.BEAM_CMD p), fset (BitVec.ofNat 48 v) SGW.BEAM_CMD.OP 1) = some _ from he)
  replace ha := (congrArg (State.arrives · _ _ _) (hartMem_nil _ s)).symm.trans ha
  replace hw : (w.ok && decide (p < 4) && decide (v < 2 ^ 48)) = true := hw
  simp only [Bool.and_eq_true, decide_eq_true_eq] at hw
  have e0 : exec (.beamCmdRead w p v) s = execBeamCmdRead w p v s := rfl
  rw [e0, execBeamCmdRead, Act.go_eq]
  have hp : posts (SGW.BEAM_CMD p) = false := posts_prism (by omega) (by omega) (by omega)
  have hn : u.refuses (SGW.BEAM_CMD p) (fset (BitVec.ofNat 48 v) SGW.BEAM_CMD.OP 1) = false := hr.resolve_left (by rw [hp]; decide)
  have hq := (send_arrives ha hp).trans (effect_SGW_BEAM_CMD (by omega) _ _ _ _)
  rw [if_neg (by rw [hn]; decide)] at hq
  refine congrArg Host.Outcome.next ?_
  simp only [Act.when_run, hw, and_self, if_true, Act.order, Act.seq_run, Bool.false_eq_true, if_false]
  exact hq

theorem reach_beamCmdFind {w : Sender} {p v : Nat} {s u : State} {ag : Agent} (h : Reaches (.beamCmdFind w p v) s ag u) :
    exec (.beamCmdFind w p v) s = .next (((beamCmd ag p (fset (BitVec.ofNat 48 v) SGW.BEAM_CMD.OP 2) (Act.ends w ag (SGW.BEAM_CMD p))).run u)) := by
  obtain ⟨hw, w', a', v', he, ha, hr⟩ := h
  obtain ⟨rfl, rfl, rfl⟩ := triple_inj (show some (w, (SGW.BEAM_CMD p), fset (BitVec.ofNat 48 v) SGW.BEAM_CMD.OP 2) = some _ from he)
  replace ha := (congrArg (State.arrives · _ _ _) (hartMem_nil _ s)).symm.trans ha
  replace hw : (w.ok && decide (p < 4) && decide (v < 2 ^ 48)) = true := hw
  simp only [Bool.and_eq_true, decide_eq_true_eq] at hw
  have e0 : exec (.beamCmdFind w p v) s = execBeamCmdFind w p v s := rfl
  rw [e0, execBeamCmdFind, Act.go_eq]
  have hp : posts (SGW.BEAM_CMD p) = false := posts_prism (by omega) (by omega) (by omega)
  have hn : u.refuses (SGW.BEAM_CMD p) (fset (BitVec.ofNat 48 v) SGW.BEAM_CMD.OP 2) = false := hr.resolve_left (by rw [hp]; decide)
  have hq := (send_arrives ha hp).trans (effect_SGW_BEAM_CMD (by omega) _ _ _ _)
  rw [if_neg (by rw [hn]; decide)] at hq
  refine congrArg Host.Outcome.next ?_
  simp only [Act.when_run, hw, and_self, if_true, Act.order, Act.seq_run, Bool.false_eq_true, if_false]
  exact hq

theorem reach_beamCmdInsert {w : Sender} {p v : Nat} {s u : State} {ag : Agent} (h : Reaches (.beamCmdInsert w p v) s ag u) :
    exec (.beamCmdInsert w p v) s = .next (((beamCmd ag p (fset (BitVec.ofNat 48 v) SGW.BEAM_CMD.OP 3) (Act.ends w ag (SGW.BEAM_CMD p))).run u)) := by
  obtain ⟨hw, w', a', v', he, ha, hr⟩ := h
  obtain ⟨rfl, rfl, rfl⟩ := triple_inj (show some (w, (SGW.BEAM_CMD p), fset (BitVec.ofNat 48 v) SGW.BEAM_CMD.OP 3) = some _ from he)
  replace ha := (congrArg (State.arrives · _ _ _) (hartMem_nil _ s)).symm.trans ha
  replace hw : (w.ok && decide (p < 4) && decide (v < 2 ^ 48)) = true := hw
  simp only [Bool.and_eq_true, decide_eq_true_eq] at hw
  have e0 : exec (.beamCmdInsert w p v) s = execBeamCmdInsert w p v s := rfl
  rw [e0, execBeamCmdInsert, Act.go_eq]
  have hp : posts (SGW.BEAM_CMD p) = false := posts_prism (by omega) (by omega) (by omega)
  have hn : u.refuses (SGW.BEAM_CMD p) (fset (BitVec.ofNat 48 v) SGW.BEAM_CMD.OP 3) = false := hr.resolve_left (by rw [hp]; decide)
  have hq := (send_arrives ha hp).trans (effect_SGW_BEAM_CMD (by omega) _ _ _ _)
  rw [if_neg (by rw [hn]; decide)] at hq
  refine congrArg Host.Outcome.next ?_
  simp only [Act.when_run, hw, and_self, if_true, Act.order, Act.seq_run, Bool.false_eq_true, if_false]
  exact hq

theorem reach_beamCmdDelete {w : Sender} {p v : Nat} {s u : State} {ag : Agent} (h : Reaches (.beamCmdDelete w p v) s ag u) :
    exec (.beamCmdDelete w p v) s = .next (((beamCmd ag p (fset (BitVec.ofNat 48 v) SGW.BEAM_CMD.OP 4) (Act.ends w ag (SGW.BEAM_CMD p))).run u)) := by
  obtain ⟨hw, w', a', v', he, ha, hr⟩ := h
  obtain ⟨rfl, rfl, rfl⟩ := triple_inj (show some (w, (SGW.BEAM_CMD p), fset (BitVec.ofNat 48 v) SGW.BEAM_CMD.OP 4) = some _ from he)
  replace ha := (congrArg (State.arrives · _ _ _) (hartMem_nil _ s)).symm.trans ha
  replace hw : (w.ok && decide (p < 4) && decide (v < 2 ^ 48)) = true := hw
  simp only [Bool.and_eq_true, decide_eq_true_eq] at hw
  have e0 : exec (.beamCmdDelete w p v) s = execBeamCmdDelete w p v s := rfl
  rw [e0, execBeamCmdDelete, Act.go_eq]
  have hp : posts (SGW.BEAM_CMD p) = false := posts_prism (by omega) (by omega) (by omega)
  have hn : u.refuses (SGW.BEAM_CMD p) (fset (BitVec.ofNat 48 v) SGW.BEAM_CMD.OP 4) = false := hr.resolve_left (by rw [hp]; decide)
  have hq := (send_arrives ha hp).trans (effect_SGW_BEAM_CMD (by omega) _ _ _ _)
  rw [if_neg (by rw [hn]; decide)] at hq
  refine congrArg Host.Outcome.next ?_
  simp only [Act.when_run, hw, and_self, if_true, Act.order, Act.seq_run, Bool.false_eq_true, if_false]
  exact hq

theorem reach_tblCmdRead {w : Sender} {p v : Nat} {s u : State} {ag : Agent} (h : Reaches (.tblCmdRead w p v) s ag u) :
    exec (.tblCmdRead w p v) s = .next (((sgwTblCmd ag p (fset (BitVec.ofNat 48 v) SGW.TBL_CMD.OP 1) (Act.ends w ag (SGW.TBL_CMD p))).run u)) := by
  obtain ⟨hw, w', a', v', he, ha, hr⟩ := h
  obtain ⟨rfl, rfl, rfl⟩ := triple_inj (show some (w, (SGW.TBL_CMD p), fset (BitVec.ofNat 48 v) SGW.TBL_CMD.OP 1) = some _ from he)
  replace ha := (congrArg (State.arrives · _ _ _) (hartMem_nil _ s)).symm.trans ha
  replace hw : (w.ok && decide (p < 4) && decide (v < 2 ^ 48)) = true := hw
  simp only [Bool.and_eq_true, decide_eq_true_eq] at hw
  have e0 : exec (.tblCmdRead w p v) s = execTblCmdRead w p v s := rfl
  rw [e0, execTblCmdRead, Act.go_eq]
  have hp : posts (SGW.TBL_CMD p) = false := posts_prism (by omega) (by omega) (by omega)
  have hn : u.refuses (SGW.TBL_CMD p) (fset (BitVec.ofNat 48 v) SGW.TBL_CMD.OP 1) = false := hr.resolve_left (by rw [hp]; decide)
  have hq := (send_arrives ha hp).trans (effect_SGW_TBL_CMD (by omega) _ _ _ _)
  rw [if_neg (by rw [hn]; decide)] at hq
  refine congrArg Host.Outcome.next ?_
  simp only [Act.when_run, hw, and_self, if_true, Act.order, Act.seq_run, Bool.false_eq_true, if_false]
  exact hq

theorem reach_tblCmdWrite {w : Sender} {p v : Nat} {s u : State} {ag : Agent} (h : Reaches (.tblCmdWrite w p v) s ag u) :
    exec (.tblCmdWrite w p v) s = .next (((sgwTblCmd ag p (fset (BitVec.ofNat 48 v) SGW.TBL_CMD.OP 2) (Act.ends w ag (SGW.TBL_CMD p))).run u)) := by
  obtain ⟨hw, w', a', v', he, ha, hr⟩ := h
  obtain ⟨rfl, rfl, rfl⟩ := triple_inj (show some (w, (SGW.TBL_CMD p), fset (BitVec.ofNat 48 v) SGW.TBL_CMD.OP 2) = some _ from he)
  replace ha := (congrArg (State.arrives · _ _ _) (hartMem_nil _ s)).symm.trans ha
  replace hw : (w.ok && decide (p < 4) && decide (v < 2 ^ 48)) = true := hw
  simp only [Bool.and_eq_true, decide_eq_true_eq] at hw
  have e0 : exec (.tblCmdWrite w p v) s = execTblCmdWrite w p v s := rfl
  rw [e0, execTblCmdWrite, Act.go_eq]
  have hp : posts (SGW.TBL_CMD p) = false := posts_prism (by omega) (by omega) (by omega)
  have hn : u.refuses (SGW.TBL_CMD p) (fset (BitVec.ofNat 48 v) SGW.TBL_CMD.OP 2) = false := hr.resolve_left (by rw [hp]; decide)
  have hq := (send_arrives ha hp).trans (effect_SGW_TBL_CMD (by omega) _ _ _ _)
  rw [if_neg (by rw [hn]; decide)] at hq
  refine congrArg Host.Outcome.next ?_
  simp only [Act.when_run, hw, and_self, if_true, Act.order, Act.seq_run, Bool.false_eq_true, if_false]
  exact hq

theorem reach_sigCmdRead {w : Sender} {p v : Nat} {s u : State} {ag : Agent} (h : Reaches (.sigCmdRead w p v) s ag u) :
    exec (.sigCmdRead w p v) s = .next (((sigCmd ag p (fset (BitVec.ofNat 48 v) SGW.SIG_CMD.OP 1) (Act.ends w ag (SGW.SIG_CMD p))).run u)) := by
  obtain ⟨hw, w', a', v', he, ha, hr⟩ := h
  obtain ⟨rfl, rfl, rfl⟩ := triple_inj (show some (w, (SGW.SIG_CMD p), fset (BitVec.ofNat 48 v) SGW.SIG_CMD.OP 1) = some _ from he)
  replace ha := (congrArg (State.arrives · _ _ _) (hartMem_nil _ s)).symm.trans ha
  replace hw : (w.ok && decide (p < 4) && decide (v < 2 ^ 48)) = true := hw
  simp only [Bool.and_eq_true, decide_eq_true_eq] at hw
  have e0 : exec (.sigCmdRead w p v) s = execSigCmdRead w p v s := rfl
  rw [e0, execSigCmdRead, Act.go_eq]
  have hp : posts (SGW.SIG_CMD p) = false := posts_prism (by omega) (by omega) (by omega)
  have hn : u.refuses (SGW.SIG_CMD p) (fset (BitVec.ofNat 48 v) SGW.SIG_CMD.OP 1) = false := hr.resolve_left (by rw [hp]; decide)
  have hq := (send_arrives ha hp).trans (effect_SGW_SIG_CMD (by omega) _ _ _ _)
  rw [if_neg (by rw [hn]; decide)] at hq
  refine congrArg Host.Outcome.next ?_
  simp only [Act.when_run, hw, and_self, if_true, Act.order, Act.seq_run, Bool.false_eq_true, if_false]
  exact hq

theorem reach_sigCmdWrite {w : Sender} {p v : Nat} {s u : State} {ag : Agent} (h : Reaches (.sigCmdWrite w p v) s ag u) :
    exec (.sigCmdWrite w p v) s = .next (((sigCmd ag p (fset (BitVec.ofNat 48 v) SGW.SIG_CMD.OP 2) (Act.ends w ag (SGW.SIG_CMD p))).run u)) := by
  obtain ⟨hw, w', a', v', he, ha, hr⟩ := h
  obtain ⟨rfl, rfl, rfl⟩ := triple_inj (show some (w, (SGW.SIG_CMD p), fset (BitVec.ofNat 48 v) SGW.SIG_CMD.OP 2) = some _ from he)
  replace ha := (congrArg (State.arrives · _ _ _) (hartMem_nil _ s)).symm.trans ha
  replace hw : (w.ok && decide (p < 4) && decide (v < 2 ^ 48)) = true := hw
  simp only [Bool.and_eq_true, decide_eq_true_eq] at hw
  have e0 : exec (.sigCmdWrite w p v) s = execSigCmdWrite w p v s := rfl
  rw [e0, execSigCmdWrite, Act.go_eq]
  have hp : posts (SGW.SIG_CMD p) = false := posts_prism (by omega) (by omega) (by omega)
  have hn : u.refuses (SGW.SIG_CMD p) (fset (BitVec.ofNat 48 v) SGW.SIG_CMD.OP 2) = false := hr.resolve_left (by rw [hp]; decide)
  have hq := (send_arrives ha hp).trans (effect_SGW_SIG_CMD (by omega) _ _ _ _)
  rw [if_neg (by rw [hn]; decide)] at hq
  refine congrArg Host.Outcome.next ?_
  simp only [Act.when_run, hw, and_self, if_true, Act.order, Act.seq_run, Bool.false_eq_true, if_false]
  exact hq

theorem reach_load {w : Sender} {p v : Nat} {s u : State} {ag : Agent} (h : Reaches (.load w p v) s ag u) :
    exec (.load w p v) s = .next (((opCmd ag p (fset (BitVec.ofNat 48 v) KEYS.OP_CMD.OP 1) (Act.ends w ag (KEYS.OP_CMD p))).run u)) := by
  obtain ⟨hw, w', a', v', he, ha, hr⟩ := h
  obtain ⟨rfl, rfl, rfl⟩ := triple_inj (show some (w, (KEYS.OP_CMD p), fset (BitVec.ofNat 48 v) KEYS.OP_CMD.OP 1) = some _ from he)
  replace ha := (congrArg (State.arrives · _ _ _) (hartMem_nil _ s)).symm.trans ha
  replace hw : (w.ok && decide (p < 4) && decide (v < 2 ^ 48)) = true := hw
  simp only [Bool.and_eq_true, decide_eq_true_eq] at hw
  have e0 : exec (.load w p v) s = execLoad w p v s := rfl
  rw [e0, execLoad, Act.go_eq]
  have hp : posts (KEYS.OP_CMD p) = false := posts_prism (by omega) (by omega) (by omega)
  have hn : u.refuses (KEYS.OP_CMD p) (fset (BitVec.ofNat 48 v) KEYS.OP_CMD.OP 1) = false := hr.resolve_left (by rw [hp]; decide)
  have hq := (send_arrives ha hp).trans (effect_KEYS_OP_CMD (by omega) _ _ _ _)
  rw [if_neg (by rw [hn]; decide)] at hq
  refine congrArg Host.Outcome.next ?_
  simp only [Act.when_run, hw, and_self, if_true, Act.order, Act.seq_run, Bool.false_eq_true, if_false]
  exact hq

theorem reach_derive {w : Sender} {p v : Nat} {s u : State} {ag : Agent} (h : Reaches (.derive w p v) s ag u) :
    exec (.derive w p v) s = .next (((opCmd ag p (fset (BitVec.ofNat 48 v) KEYS.OP_CMD.OP 2) (Act.ends w ag (KEYS.OP_CMD p))).run u)) := by
  obtain ⟨hw, w', a', v', he, ha, hr⟩ := h
  obtain ⟨rfl, rfl, rfl⟩ := triple_inj (show some (w, (KEYS.OP_CMD p), fset (BitVec.ofNat 48 v) KEYS.OP_CMD.OP 2) = some _ from he)
  replace ha := (congrArg (State.arrives · _ _ _) (hartMem_nil _ s)).symm.trans ha
  replace hw : (w.ok && decide (p < 4) && decide (v < 2 ^ 48)) = true := hw
  simp only [Bool.and_eq_true, decide_eq_true_eq] at hw
  have e0 : exec (.derive w p v) s = execDerive w p v s := rfl
  rw [e0, execDerive, Act.go_eq]
  have hp : posts (KEYS.OP_CMD p) = false := posts_prism (by omega) (by omega) (by omega)
  have hn : u.refuses (KEYS.OP_CMD p) (fset (BitVec.ofNat 48 v) KEYS.OP_CMD.OP 2) = false := hr.resolve_left (by rw [hp]; decide)
  have hq := (send_arrives ha hp).trans (effect_KEYS_OP_CMD (by omega) _ _ _ _)
  rw [if_neg (by rw [hn]; decide)] at hq
  refine congrArg Host.Outcome.next ?_
  simp only [Act.when_run, hw, and_self, if_true, Act.order, Act.seq_run, Bool.false_eq_true, if_false]
  exact hq

theorem reach_unwrap {w : Sender} {p v : Nat} {s u : State} {ag : Agent} (h : Reaches (.unwrap w p v) s ag u) :
    exec (.unwrap w p v) s = .next (((opCmd ag p (fset (BitVec.ofNat 48 v) KEYS.OP_CMD.OP 3) (Act.ends w ag (KEYS.OP_CMD p))).run u)) := by
  obtain ⟨hw, w', a', v', he, ha, hr⟩ := h
  obtain ⟨rfl, rfl, rfl⟩ := triple_inj (show some (w, (KEYS.OP_CMD p), fset (BitVec.ofNat 48 v) KEYS.OP_CMD.OP 3) = some _ from he)
  replace ha := (congrArg (State.arrives · _ _ _) (hartMem_nil _ s)).symm.trans ha
  replace hw : (w.ok && decide (p < 4) && decide (v < 2 ^ 48)) = true := hw
  simp only [Bool.and_eq_true, decide_eq_true_eq] at hw
  have e0 : exec (.unwrap w p v) s = execUnwrap w p v s := rfl
  rw [e0, execUnwrap, Act.go_eq]
  have hp : posts (KEYS.OP_CMD p) = false := posts_prism (by omega) (by omega) (by omega)
  have hn : u.refuses (KEYS.OP_CMD p) (fset (BitVec.ofNat 48 v) KEYS.OP_CMD.OP 3) = false := hr.resolve_left (by rw [hp]; decide)
  have hq := (send_arrives ha hp).trans (effect_KEYS_OP_CMD (by omega) _ _ _ _)
  rw [if_neg (by rw [hn]; decide)] at hq
  refine congrArg Host.Outcome.next ?_
  simp only [Act.when_run, hw, and_self, if_true, Act.order, Act.seq_run, Bool.false_eq_true, if_false]
  exact hq

theorem reach_wrap {w : Sender} {p v : Nat} {s u : State} {ag : Agent} (h : Reaches (.wrap w p v) s ag u) :
    exec (.wrap w p v) s = .next (((opCmd ag p (fset (BitVec.ofNat 48 v) KEYS.OP_CMD.OP 4) (Act.ends w ag (KEYS.OP_CMD p))).run u)) := by
  obtain ⟨hw, w', a', v', he, ha, hr⟩ := h
  obtain ⟨rfl, rfl, rfl⟩ := triple_inj (show some (w, (KEYS.OP_CMD p), fset (BitVec.ofNat 48 v) KEYS.OP_CMD.OP 4) = some _ from he)
  replace ha := (congrArg (State.arrives · _ _ _) (hartMem_nil _ s)).symm.trans ha
  replace hw : (w.ok && decide (p < 4) && decide (v < 2 ^ 48)) = true := hw
  simp only [Bool.and_eq_true, decide_eq_true_eq] at hw
  have e0 : exec (.wrap w p v) s = execWrap w p v s := rfl
  rw [e0, execWrap, Act.go_eq]
  have hp : posts (KEYS.OP_CMD p) = false := posts_prism (by omega) (by omega) (by omega)
  have hn : u.refuses (KEYS.OP_CMD p) (fset (BitVec.ofNat 48 v) KEYS.OP_CMD.OP 4) = false := hr.resolve_left (by rw [hp]; decide)
  have hq := (send_arrives ha hp).trans (effect_KEYS_OP_CMD (by omega) _ _ _ _)
  rw [if_neg (by rw [hn]; decide)] at hq
  refine congrArg Host.Outcome.next ?_
  simp only [Act.when_run, hw, and_self, if_true, Act.order, Act.seq_run, Bool.false_eq_true, if_false]
  exact hq

theorem reach_generate {w : Sender} {p v : Nat} {s u : State} {ag : Agent} (h : Reaches (.generate w p v) s ag u) :
    exec (.generate w p v) s = .next (((opCmd ag p (fset (BitVec.ofNat 48 v) KEYS.OP_CMD.OP 5) (Act.ends w ag (KEYS.OP_CMD p))).run u)) := by
  obtain ⟨hw, w', a', v', he, ha, hr⟩ := h
  obtain ⟨rfl, rfl, rfl⟩ := triple_inj (show some (w, (KEYS.OP_CMD p), fset (BitVec.ofNat 48 v) KEYS.OP_CMD.OP 5) = some _ from he)
  replace ha := (congrArg (State.arrives · _ _ _) (hartMem_nil _ s)).symm.trans ha
  replace hw : (w.ok && decide (p < 4) && decide (v < 2 ^ 48)) = true := hw
  simp only [Bool.and_eq_true, decide_eq_true_eq] at hw
  have e0 : exec (.generate w p v) s = execGenerate w p v s := rfl
  rw [e0, execGenerate, Act.go_eq]
  have hp : posts (KEYS.OP_CMD p) = false := posts_prism (by omega) (by omega) (by omega)
  have hn : u.refuses (KEYS.OP_CMD p) (fset (BitVec.ofNat 48 v) KEYS.OP_CMD.OP 5) = false := hr.resolve_left (by rw [hp]; decide)
  have hq := (send_arrives ha hp).trans (effect_KEYS_OP_CMD (by omega) _ _ _ _)
  rw [if_neg (by rw [hn]; decide)] at hq
  refine congrArg Host.Outcome.next ?_
  simp only [Act.when_run, hw, and_self, if_true, Act.order, Act.seq_run, Bool.false_eq_true, if_false]
  exact hq

theorem reach_clear {w : Sender} {p v : Nat} {s u : State} {ag : Agent} (h : Reaches (.clear w p v) s ag u) :
    exec (.clear w p v) s = .next (((opCmd ag p (fset (BitVec.ofNat 48 v) KEYS.OP_CMD.OP 6) (Act.ends w ag (KEYS.OP_CMD p))).run u)) := by
  obtain ⟨hw, w', a', v', he, ha, hr⟩ := h
  obtain ⟨rfl, rfl, rfl⟩ := triple_inj (show some (w, (KEYS.OP_CMD p), fset (BitVec.ofNat 48 v) KEYS.OP_CMD.OP 6) = some _ from he)
  replace ha := (congrArg (State.arrives · _ _ _) (hartMem_nil _ s)).symm.trans ha
  replace hw : (w.ok && decide (p < 4) && decide (v < 2 ^ 48)) = true := hw
  simp only [Bool.and_eq_true, decide_eq_true_eq] at hw
  have e0 : exec (.clear w p v) s = execClear w p v s := rfl
  rw [e0, execClear, Act.go_eq]
  have hp : posts (KEYS.OP_CMD p) = false := posts_prism (by omega) (by omega) (by omega)
  have hn : u.refuses (KEYS.OP_CMD p) (fset (BitVec.ofNat 48 v) KEYS.OP_CMD.OP 6) = false := hr.resolve_left (by rw [hp]; decide)
  have hq := (send_arrives ha hp).trans (effect_KEYS_OP_CMD (by omega) _ _ _ _)
  rw [if_neg (by rw [hn]; decide)] at hq
  refine congrArg Host.Outcome.next ?_
  simp only [Act.when_run, hw, and_self, if_true, Act.order, Act.seq_run, Bool.false_eq_true, if_false]
  exact hq

theorem reach_wrapRoot {w : Sender} {p v : Nat} {s u : State} {ag : Agent} (h : Reaches (.wrapRoot w p v) s ag u) :
    exec (.wrapRoot w p v) s = .next (((opCmd ag p (fset (BitVec.ofNat 48 v) KEYS.OP_CMD.OP 7) (Act.ends w ag (KEYS.OP_CMD p))).run u)) := by
  obtain ⟨hw, w', a', v', he, ha, hr⟩ := h
  obtain ⟨rfl, rfl, rfl⟩ := triple_inj (show some (w, (KEYS.OP_CMD p), fset (BitVec.ofNat 48 v) KEYS.OP_CMD.OP 7) = some _ from he)
  replace ha := (congrArg (State.arrives · _ _ _) (hartMem_nil _ s)).symm.trans ha
  replace hw : (w.ok && decide (p < 4) && decide (v < 2 ^ 48)) = true := hw
  simp only [Bool.and_eq_true, decide_eq_true_eq] at hw
  have e0 : exec (.wrapRoot w p v) s = execWrapRoot w p v s := rfl
  rw [e0, execWrapRoot, Act.go_eq]
  have hp : posts (KEYS.OP_CMD p) = false := posts_prism (by omega) (by omega) (by omega)
  have hn : u.refuses (KEYS.OP_CMD p) (fset (BitVec.ofNat 48 v) KEYS.OP_CMD.OP 7) = false := hr.resolve_left (by rw [hp]; decide)
  have hq := (send_arrives ha hp).trans (effect_KEYS_OP_CMD (by omega) _ _ _ _)
  rw [if_neg (by rw [hn]; decide)] at hq
  refine congrArg Host.Outcome.next ?_
  simp only [Act.when_run, hw, and_self, if_true, Act.order, Act.seq_run, Bool.false_eq_true, if_false]
  exact hq

theorem reach_provision {w : Sender} {p v : Nat} {s u : State} {ag : Agent} (h : Reaches (.provision w p v) s ag u) :
    exec (.provision w p v) s = .next (((provCmd ag p (fset (BitVec.ofNat 48 v) KEYS.PROV_CMD.OP 1) (Act.ends w ag (KEYS.PROV_CMD p))).run u)) := by
  obtain ⟨hw, w', a', v', he, ha, hr⟩ := h
  obtain ⟨rfl, rfl, rfl⟩ := triple_inj (show some (w, (KEYS.PROV_CMD p), fset (BitVec.ofNat 48 v) KEYS.PROV_CMD.OP 1) = some _ from he)
  replace ha := (congrArg (State.arrives · _ _ _) (hartMem_nil _ s)).symm.trans ha
  replace hw : (w.ok && decide (p < 4) && decide (v < 2 ^ 48)) = true := hw
  simp only [Bool.and_eq_true, decide_eq_true_eq] at hw
  have e0 : exec (.provision w p v) s = execProvision w p v s := rfl
  rw [e0, execProvision, Act.go_eq]
  have hp : posts (KEYS.PROV_CMD p) = false := posts_prism (by omega) (by omega) (by omega)
  have hn : u.refuses (KEYS.PROV_CMD p) (fset (BitVec.ofNat 48 v) KEYS.PROV_CMD.OP 1) = false := hr.resolve_left (by rw [hp]; decide)
  have hq := (send_arrives ha hp).trans (effect_KEYS_PROV_CMD (by omega) _ _ _ _)
  rw [if_neg (by rw [hn]; decide)] at hq
  refine congrArg Host.Outcome.next ?_
  simp only [Act.when_run, hw, and_self, if_true, Act.order, Act.seq_run, Bool.false_eq_true, if_false]
  exact hq

theorem reach_restore {w : Sender} {p v : Nat} {s u : State} {ag : Agent} (h : Reaches (.restore w p v) s ag u) :
    exec (.restore w p v) s = .next (((provCmd ag p (fset (BitVec.ofNat 48 v) KEYS.PROV_CMD.OP 2) (Act.ends w ag (KEYS.PROV_CMD p))).run u)) := by
  obtain ⟨hw, w', a', v', he, ha, hr⟩ := h
  obtain ⟨rfl, rfl, rfl⟩ := triple_inj (show some (w, (KEYS.PROV_CMD p), fset (BitVec.ofNat 48 v) KEYS.PROV_CMD.OP 2) = some _ from he)
  replace ha := (congrArg (State.arrives · _ _ _) (hartMem_nil _ s)).symm.trans ha
  replace hw : (w.ok && decide (p < 4) && decide (v < 2 ^ 48)) = true := hw
  simp only [Bool.and_eq_true, decide_eq_true_eq] at hw
  have e0 : exec (.restore w p v) s = execRestore w p v s := rfl
  rw [e0, execRestore, Act.go_eq]
  have hp : posts (KEYS.PROV_CMD p) = false := posts_prism (by omega) (by omega) (by omega)
  have hn : u.refuses (KEYS.PROV_CMD p) (fset (BitVec.ofNat 48 v) KEYS.PROV_CMD.OP 2) = false := hr.resolve_left (by rw [hp]; decide)
  have hq := (send_arrives ha hp).trans (effect_KEYS_PROV_CMD (by omega) _ _ _ _)
  rw [if_neg (by rw [hn]; decide)] at hq
  refine congrArg Host.Outcome.next ?_
  simp only [Act.when_run, hw, and_self, if_true, Act.order, Act.seq_run, Bool.false_eq_true, if_false]
  exact hq

theorem reach_rekey {w : Sender} {p v : Nat} {s u : State} {ag : Agent} (h : Reaches (.rekey w p v) s ag u) :
    exec (.rekey w p v) s = .next (((provCmd ag p (fset (BitVec.ofNat 48 v) KEYS.PROV_CMD.OP 3) (Act.ends w ag (KEYS.PROV_CMD p))).run u)) := by
  obtain ⟨hw, w', a', v', he, ha, hr⟩ := h
  obtain ⟨rfl, rfl, rfl⟩ := triple_inj (show some (w, (KEYS.PROV_CMD p), fset (BitVec.ofNat 48 v) KEYS.PROV_CMD.OP 3) = some _ from he)
  replace ha := (congrArg (State.arrives · _ _ _) (hartMem_nil _ s)).symm.trans ha
  replace hw : (w.ok && decide (p < 4) && decide (v < 2 ^ 48)) = true := hw
  simp only [Bool.and_eq_true, decide_eq_true_eq] at hw
  have e0 : exec (.rekey w p v) s = execRekey w p v s := rfl
  rw [e0, execRekey, Act.go_eq]
  have hp : posts (KEYS.PROV_CMD p) = false := posts_prism (by omega) (by omega) (by omega)
  have hn : u.refuses (KEYS.PROV_CMD p) (fset (BitVec.ofNat 48 v) KEYS.PROV_CMD.OP 3) = false := hr.resolve_left (by rw [hp]; decide)
  have hq := (send_arrives ha hp).trans (effect_KEYS_PROV_CMD (by omega) _ _ _ _)
  rw [if_neg (by rw [hn]; decide)] at hq
  refine congrArg Host.Outcome.next ?_
  simp only [Act.when_run, hw, and_self, if_true, Act.order, Act.seq_run, Bool.false_eq_true, if_false]
  exact hq

theorem reach_renew {w : Sender} {p v : Nat} {s u : State} {ag : Agent} (h : Reaches (.renew w p v) s ag u) :
    exec (.renew w p v) s = .next (((provCmd ag p (fset (BitVec.ofNat 48 v) KEYS.PROV_CMD.OP 4) (Act.ends w ag (KEYS.PROV_CMD p))).run u)) := by
  obtain ⟨hw, w', a', v', he, ha, hr⟩ := h
  obtain ⟨rfl, rfl, rfl⟩ := triple_inj (show some (w, (KEYS.PROV_CMD p), fset (BitVec.ofNat 48 v) KEYS.PROV_CMD.OP 4) = some _ from he)
  replace ha := (congrArg (State.arrives · _ _ _) (hartMem_nil _ s)).symm.trans ha
  replace hw : (w.ok && decide (p < 4) && decide (v < 2 ^ 48)) = true := hw
  simp only [Bool.and_eq_true, decide_eq_true_eq] at hw
  have e0 : exec (.renew w p v) s = execRenew w p v s := rfl
  rw [e0, execRenew, Act.go_eq]
  have hp : posts (KEYS.PROV_CMD p) = false := posts_prism (by omega) (by omega) (by omega)
  have hn : u.refuses (KEYS.PROV_CMD p) (fset (BitVec.ofNat 48 v) KEYS.PROV_CMD.OP 4) = false := hr.resolve_left (by rw [hp]; decide)
  have hq := (send_arrives ha hp).trans (effect_KEYS_PROV_CMD (by omega) _ _ _ _)
  rw [if_neg (by rw [hn]; decide)] at hq
  refine congrArg Host.Outcome.next ?_
  simp only [Act.when_run, hw, and_self, if_true, Act.order, Act.seq_run, Bool.false_eq_true, if_false]
  exact hq

theorem reach_ciphJobStart {w : Sender} {mem : List (Nat × Nat)} {p k v : Nat} {s u : State} {ag : Agent} (h : Reaches (.ciphJobStart w mem p k v) s ag u) :
    exec (.ciphJobStart w mem p k v) s = .next (((jobCmd ag p k (fset (BitVec.ofNat 48 v) CIPH.JOB.START 1) (Act.ends w ag (CIPH.JOB p k))).run u)) := by
  obtain ⟨hw, w', a', v', he, ha, hr⟩ := h
  obtain ⟨rfl, rfl, rfl⟩ := triple_inj (show some (w, (CIPH.JOB p k), fset (BitVec.ofNat 48 v) CIPH.JOB.START 1) = some _ from he)
  replace hw : (w.ok && (mem.all fun e => decide (e.1 < 2 ^ 64) && decide (e.2 < 2 ^ 64)) && decide (p < 4) && decide (k < 4) && decide (v < 2 ^ 48)) = true := hw
  simp only [Bool.and_eq_true, decide_eq_true_eq] at hw
  have e0 : exec (.ciphJobStart w mem p k v) s = execCiphJobStart w mem p k v s := rfl
  rw [e0, execCiphJobStart, Act.go_eq]
  have hp : posts (CIPH.JOB p k) = false := posts_prism (by omega) (by omega) (by omega)
  have hn : u.refuses (CIPH.JOB p k) (fset (BitVec.ofNat 48 v) CIPH.JOB.START 1) = false := hr.resolve_left (by rw [hp]; decide)
  have hq := (send_arrives ha hp).trans (effect_CIPH_JOB (by omega) (by omega) _ _ _ _)
  rw [if_neg (by rw [hn]; decide)] at hq
  refine congrArg Host.Outcome.next ?_
  simp only [Act.when_run, hw, and_self, if_true, Act.order, Act.seq_run, Bool.false_eq_true, if_false]
  exact hq

theorem reach_saCmdRead {w : Sender} {p v : Nat} {s u : State} {ag : Agent} (h : Reaches (.saCmdRead w p v) s ag u) :
    exec (.saCmdRead w p v) s = .next (((saCmd ag p (fset (BitVec.ofNat 48 v) MSEC.SA_CMD.OP 1) (Act.ends w ag (MSEC.SA_CMD p))).run u)) := by
  obtain ⟨hw, w', a', v', he, ha, hr⟩ := h
  obtain ⟨rfl, rfl, rfl⟩ := triple_inj (show some (w, (MSEC.SA_CMD p), fset (BitVec.ofNat 48 v) MSEC.SA_CMD.OP 1) = some _ from he)
  replace ha := (congrArg (State.arrives · _ _ _) (hartMem_nil _ s)).symm.trans ha
  replace hw : (w.ok && decide (p < 4) && decide (v < 2 ^ 48)) = true := hw
  simp only [Bool.and_eq_true, decide_eq_true_eq] at hw
  have e0 : exec (.saCmdRead w p v) s = execSaCmdRead w p v s := rfl
  rw [e0, execSaCmdRead, Act.go_eq]
  have hp : posts (MSEC.SA_CMD p) = false := posts_prism (by omega) (by omega) (by omega)
  have hn : u.refuses (MSEC.SA_CMD p) (fset (BitVec.ofNat 48 v) MSEC.SA_CMD.OP 1) = false := hr.resolve_left (by rw [hp]; decide)
  have hq := (send_arrives ha hp).trans (effect_MSEC_SA_CMD (by omega) _ _ _ _)
  rw [if_neg (by rw [hn]; decide)] at hq
  refine congrArg Host.Outcome.next ?_
  simp only [Act.when_run, hw, and_self, if_true, Act.order, Act.seq_run, Bool.false_eq_true, if_false]
  exact hq

theorem reach_saCmdWrite {w : Sender} {p v : Nat} {s u : State} {ag : Agent} (h : Reaches (.saCmdWrite w p v) s ag u) :
    exec (.saCmdWrite w p v) s = .next (((saCmd ag p (fset (BitVec.ofNat 48 v) MSEC.SA_CMD.OP 2) (Act.ends w ag (MSEC.SA_CMD p))).run u)) := by
  obtain ⟨hw, w', a', v', he, ha, hr⟩ := h
  obtain ⟨rfl, rfl, rfl⟩ := triple_inj (show some (w, (MSEC.SA_CMD p), fset (BitVec.ofNat 48 v) MSEC.SA_CMD.OP 2) = some _ from he)
  replace ha := (congrArg (State.arrives · _ _ _) (hartMem_nil _ s)).symm.trans ha
  replace hw : (w.ok && decide (p < 4) && decide (v < 2 ^ 48)) = true := hw
  simp only [Bool.and_eq_true, decide_eq_true_eq] at hw
  have e0 : exec (.saCmdWrite w p v) s = execSaCmdWrite w p v s := rfl
  rw [e0, execSaCmdWrite, Act.go_eq]
  have hp : posts (MSEC.SA_CMD p) = false := posts_prism (by omega) (by omega) (by omega)
  have hn : u.refuses (MSEC.SA_CMD p) (fset (BitVec.ofNat 48 v) MSEC.SA_CMD.OP 2) = false := hr.resolve_left (by rw [hp]; decide)
  have hq := (send_arrives ha hp).trans (effect_MSEC_SA_CMD (by omega) _ _ _ _)
  rw [if_neg (by rw [hn]; decide)] at hq
  refine congrArg Host.Outcome.next ?_
  simp only [Act.when_run, hw, and_self, if_true, Act.order, Act.seq_run, Bool.false_eq_true, if_false]
  exact hq

theorem reach_profCmdRead {w : Sender} {p v : Nat} {s u : State} {ag : Agent} (h : Reaches (.profCmdRead w p v) s ag u) :
    exec (.profCmdRead w p v) s = .next (((profCmd ag p (fset (BitVec.ofNat 48 v) SEAL.PROF_CMD.OP 1) (Act.ends w ag (SEAL.PROF_CMD p))).run u)) := by
  obtain ⟨hw, w', a', v', he, ha, hr⟩ := h
  obtain ⟨rfl, rfl, rfl⟩ := triple_inj (show some (w, (SEAL.PROF_CMD p), fset (BitVec.ofNat 48 v) SEAL.PROF_CMD.OP 1) = some _ from he)
  replace ha := (congrArg (State.arrives · _ _ _) (hartMem_nil _ s)).symm.trans ha
  replace hw : (w.ok && decide (p < 4) && decide (v < 2 ^ 48)) = true := hw
  simp only [Bool.and_eq_true, decide_eq_true_eq] at hw
  have e0 : exec (.profCmdRead w p v) s = execProfCmdRead w p v s := rfl
  rw [e0, execProfCmdRead, Act.go_eq]
  have hp : posts (SEAL.PROF_CMD p) = false := posts_prism (by omega) (by omega) (by omega)
  have hn : u.refuses (SEAL.PROF_CMD p) (fset (BitVec.ofNat 48 v) SEAL.PROF_CMD.OP 1) = false := hr.resolve_left (by rw [hp]; decide)
  have hq := (send_arrives ha hp).trans (effect_SEAL_PROF_CMD (by omega) _ _ _ _)
  rw [if_neg (by rw [hn]; decide)] at hq
  refine congrArg Host.Outcome.next ?_
  simp only [Act.when_run, hw, and_self, if_true, Act.order, Act.seq_run, Bool.false_eq_true, if_false]
  exact hq

theorem reach_profCmdWrite {w : Sender} {p v : Nat} {s u : State} {ag : Agent} (h : Reaches (.profCmdWrite w p v) s ag u) :
    exec (.profCmdWrite w p v) s = .next (((profCmd ag p (fset (BitVec.ofNat 48 v) SEAL.PROF_CMD.OP 2) (Act.ends w ag (SEAL.PROF_CMD p))).run u)) := by
  obtain ⟨hw, w', a', v', he, ha, hr⟩ := h
  obtain ⟨rfl, rfl, rfl⟩ := triple_inj (show some (w, (SEAL.PROF_CMD p), fset (BitVec.ofNat 48 v) SEAL.PROF_CMD.OP 2) = some _ from he)
  replace ha := (congrArg (State.arrives · _ _ _) (hartMem_nil _ s)).symm.trans ha
  replace hw : (w.ok && decide (p < 4) && decide (v < 2 ^ 48)) = true := hw
  simp only [Bool.and_eq_true, decide_eq_true_eq] at hw
  have e0 : exec (.profCmdWrite w p v) s = execProfCmdWrite w p v s := rfl
  rw [e0, execProfCmdWrite, Act.go_eq]
  have hp : posts (SEAL.PROF_CMD p) = false := posts_prism (by omega) (by omega) (by omega)
  have hn : u.refuses (SEAL.PROF_CMD p) (fset (BitVec.ofNat 48 v) SEAL.PROF_CMD.OP 2) = false := hr.resolve_left (by rw [hp]; decide)
  have hq := (send_arrives ha hp).trans (effect_SEAL_PROF_CMD (by omega) _ _ _ _)
  rw [if_neg (by rw [hn]; decide)] at hq
  refine congrArg Host.Outcome.next ?_
  simp only [Act.when_run, hw, and_self, if_true, Act.order, Act.seq_run, Bool.false_eq_true, if_false]
  exact hq

theorem reach_fvCmdRead {w : Sender} {p v : Nat} {s u : State} {ag : Agent} (h : Reaches (.fvCmdRead w p v) s ag u) :
    exec (.fvCmdRead w p v) s = .next (((fvCmd ag p (fset (BitVec.ofNat 48 v) SEAL.FV_CMD.OP 1) (Act.ends w ag (SEAL.FV_CMD p))).run u)) := by
  obtain ⟨hw, w', a', v', he, ha, hr⟩ := h
  obtain ⟨rfl, rfl, rfl⟩ := triple_inj (show some (w, (SEAL.FV_CMD p), fset (BitVec.ofNat 48 v) SEAL.FV_CMD.OP 1) = some _ from he)
  replace ha := (congrArg (State.arrives · _ _ _) (hartMem_nil _ s)).symm.trans ha
  replace hw : (w.ok && decide (p < 4) && decide (v < 2 ^ 48)) = true := hw
  simp only [Bool.and_eq_true, decide_eq_true_eq] at hw
  have e0 : exec (.fvCmdRead w p v) s = execFvCmdRead w p v s := rfl
  rw [e0, execFvCmdRead, Act.go_eq]
  have hp : posts (SEAL.FV_CMD p) = false := posts_prism (by omega) (by omega) (by omega)
  have hn : u.refuses (SEAL.FV_CMD p) (fset (BitVec.ofNat 48 v) SEAL.FV_CMD.OP 1) = false := hr.resolve_left (by rw [hp]; decide)
  have hq := (send_arrives ha hp).trans (effect_SEAL_FV_CMD (by omega) _ _ _ _)
  rw [if_neg (by rw [hn]; decide)] at hq
  refine congrArg Host.Outcome.next ?_
  simp only [Act.when_run, hw, and_self, if_true, Act.order, Act.seq_run, Bool.false_eq_true, if_false]
  exact hq

theorem reach_fvCmdClearRef {w : Sender} {p v : Nat} {s u : State} {ag : Agent} (h : Reaches (.fvCmdClearRef w p v) s ag u) :
    exec (.fvCmdClearRef w p v) s = .next (((fvCmd ag p (fset (BitVec.ofNat 48 v) SEAL.FV_CMD.OP 2) (Act.ends w ag (SEAL.FV_CMD p))).run u)) := by
  obtain ⟨hw, w', a', v', he, ha, hr⟩ := h
  obtain ⟨rfl, rfl, rfl⟩ := triple_inj (show some (w, (SEAL.FV_CMD p), fset (BitVec.ofNat 48 v) SEAL.FV_CMD.OP 2) = some _ from he)
  replace ha := (congrArg (State.arrives · _ _ _) (hartMem_nil _ s)).symm.trans ha
  replace hw : (w.ok && decide (p < 4) && decide (v < 2 ^ 48)) = true := hw
  simp only [Bool.and_eq_true, decide_eq_true_eq] at hw
  have e0 : exec (.fvCmdClearRef w p v) s = execFvCmdClearRef w p v s := rfl
  rw [e0, execFvCmdClearRef, Act.go_eq]
  have hp : posts (SEAL.FV_CMD p) = false := posts_prism (by omega) (by omega) (by omega)
  have hn : u.refuses (SEAL.FV_CMD p) (fset (BitVec.ofNat 48 v) SEAL.FV_CMD.OP 2) = false := hr.resolve_left (by rw [hp]; decide)
  have hq := (send_arrives ha hp).trans (effect_SEAL_FV_CMD (by omega) _ _ _ _)
  rw [if_neg (by rw [hn]; decide)] at hq
  refine congrArg Host.Outcome.next ?_
  simp only [Act.when_run, hw, and_self, if_true, Act.order, Act.seq_run, Bool.false_eq_true, if_false]
  exact hq

theorem reach_handover {w : Sender} {v : Nat} {s u : State} {ag : Agent} (h : Reaches (.handover w false v) s ag u) :
    exec (.handover w false v) s = .next (((pairCmd ag (fset (BitVec.ofNat 48 v) PAIR.CMD.HANDOVER 1) (Act.ends w ag (PAIR.CMD 0))).run u)) := by
  obtain ⟨hw, w', a', v', he, ha, hr⟩ := h
  obtain ⟨rfl, rfl, rfl⟩ := triple_inj (show some (w, (PAIR.CMD 0), fset (BitVec.ofNat 48 v) PAIR.CMD.HANDOVER 1) = some _ from he)
  replace ha := (congrArg (State.arrives · _ _ _) (hartMem_nil _ s)).symm.trans ha
  replace hw : (w.ok && decide (v < 2 ^ 48)) = true := hw
  simp only [Bool.and_eq_true, decide_eq_true_eq] at hw
  have e0 : exec (.handover w false v) s = execHandover w false v s := rfl
  rw [e0, execHandover, Act.go_eq]
  have hp : posts (PAIR.CMD 0) = false := posts_prism (by omega) (by omega) (by omega)
  have hn : u.refuses (PAIR.CMD 0) (fset (BitVec.ofNat 48 v) PAIR.CMD.HANDOVER 1) = false := hr.resolve_left (by rw [hp]; decide)
  have hq := (send_arrives ha hp).trans (effect_PAIR_CMD (by omega) _ _ _ _)
  rw [if_neg (by rw [hn]; decide)] at hq
  refine congrArg Host.Outcome.next ?_
  simp only [Act.when_run, hw, and_self, if_true, Act.order, Act.seq_run, Bool.false_eq_true, if_false]
  exact hq

theorem reach_pairTblRead {w : Sender} {p v : Nat} {s u : State} {ag : Agent} (h : Reaches (.pairTblRead w p v) s ag u) :
    exec (.pairTblRead w p v) s = .next (((pairTblCmd ag p (fset (BitVec.ofNat 48 v) PAIR.TBL_CMD.OP 1) (Act.ends w ag (PAIR.TBL_CMD p))).run u)) := by
  obtain ⟨hw, w', a', v', he, ha, hr⟩ := h
  obtain ⟨rfl, rfl, rfl⟩ := triple_inj (show some (w, (PAIR.TBL_CMD p), fset (BitVec.ofNat 48 v) PAIR.TBL_CMD.OP 1) = some _ from he)
  replace ha := (congrArg (State.arrives · _ _ _) (hartMem_nil _ s)).symm.trans ha
  replace hw : (w.ok && decide (p < 4) && decide (v < 2 ^ 48)) = true := hw
  simp only [Bool.and_eq_true, decide_eq_true_eq] at hw
  have e0 : exec (.pairTblRead w p v) s = execPairTblRead w p v s := rfl
  rw [e0, execPairTblRead, Act.go_eq]
  have hp : posts (PAIR.TBL_CMD p) = false := posts_prism (by omega) (by omega) (by omega)
  have hn : u.refuses (PAIR.TBL_CMD p) (fset (BitVec.ofNat 48 v) PAIR.TBL_CMD.OP 1) = false := hr.resolve_left (by rw [hp]; decide)
  have hq := (send_arrives ha hp).trans (effect_PAIR_TBL_CMD (by omega) _ _ _ _)
  rw [if_neg (by rw [hn]; decide)] at hq
  refine congrArg Host.Outcome.next ?_
  simp only [Act.when_run, hw, and_self, if_true, Act.order, Act.seq_run, Bool.false_eq_true, if_false]
  exact hq

theorem reach_pairTblWrite {w : Sender} {p v : Nat} {s u : State} {ag : Agent} (h : Reaches (.pairTblWrite w p v) s ag u) :
    exec (.pairTblWrite w p v) s = .next (((pairTblCmd ag p (fset (BitVec.ofNat 48 v) PAIR.TBL_CMD.OP 2) (Act.ends w ag (PAIR.TBL_CMD p))).run u)) := by
  obtain ⟨hw, w', a', v', he, ha, hr⟩ := h
  obtain ⟨rfl, rfl, rfl⟩ := triple_inj (show some (w, (PAIR.TBL_CMD p), fset (BitVec.ofNat 48 v) PAIR.TBL_CMD.OP 2) = some _ from he)
  replace ha := (congrArg (State.arrives · _ _ _) (hartMem_nil _ s)).symm.trans ha
  replace hw : (w.ok && decide (p < 4) && decide (v < 2 ^ 48)) = true := hw
  simp only [Bool.and_eq_true, decide_eq_true_eq] at hw
  have e0 : exec (.pairTblWrite w p v) s = execPairTblWrite w p v s := rfl
  rw [e0, execPairTblWrite, Act.go_eq]
  have hp : posts (PAIR.TBL_CMD p) = false := posts_prism (by omega) (by omega) (by omega)
  have hn : u.refuses (PAIR.TBL_CMD p) (fset (BitVec.ofNat 48 v) PAIR.TBL_CMD.OP 2) = false := hr.resolve_left (by rw [hp]; decide)
  have hq := (send_arrives ha hp).trans (effect_PAIR_TBL_CMD (by omega) _ _ _ _)
  rw [if_neg (by rw [hn]; decide)] at hq
  refine congrArg Host.Outcome.next ?_
  simp only [Act.when_run, hw, and_self, if_true, Act.order, Act.seq_run, Bool.false_eq_true, if_false]
  exact hq

theorem reach_wakeReqWrite {w : Sender} {p k v : Nat} {s u : State} {ag : Agent} (h : Reaches (.wakeReqWrite w p k v) s ag u) :
    exec (.wakeReqWrite w p k v) s = .next (((reqWrite ag p k (BitVec.ofNat 48 v) (Act.ends w ag (WAKE.REQ p k))).run u)) := by
  obtain ⟨hw, w', a', v', he, ha, hr⟩ := h
  obtain ⟨rfl, rfl, rfl⟩ := triple_inj (show some (w, (WAKE.REQ p k), BitVec.ofNat 48 v) = some _ from he)
  replace ha := (congrArg (State.arrives · _ _ _) (hartMem_nil _ s)).symm.trans ha
  replace hw : (w.ok && decide (p < 4) && decide (k < 17) && decide (v < 2 ^ 48)) = true := hw
  simp only [Bool.and_eq_true, decide_eq_true_eq] at hw
  have e0 : exec (.wakeReqWrite w p k v) s = execWakeReqWrite w p k v s := rfl
  rw [e0, execWakeReqWrite, Act.go_eq]
  have hp : posts (WAKE.REQ p k) = false := posts_prism (by omega) (by omega) (by omega)
  have hn : u.refuses (WAKE.REQ p k) (BitVec.ofNat 48 v) = false := hr.resolve_left (by rw [hp]; decide)
  have hq := (send_arrives ha hp).trans (effect_WAKE_REQ (by omega) (by omega) _ _ _ _)
  rw [if_neg (by rw [hn]; decide)] at hq
  refine congrArg Host.Outcome.next ?_
  simp only [Act.when_run, hw, and_self, if_true, Act.order, Act.seq_run, Bool.false_eq_true, if_false]
  exact hq

theorem reach_confirm {w : Sender} {p v : Nat} {s u : State} {ag : Agent} (h : Reaches (.confirm w p v) s ag u) :
    exec (.confirm w p v) s = .next (((Act.seq (Act.when (bit (fset (BitVec.ofNat 48 v) WAKE.CMD.CONFIRM 1) 0 = true) wakeConfirm) ((Act.ends w ag (WAKE.CMD p)) .ok)).run u)) := by
  obtain ⟨hw, w', a', v', he, ha, hr⟩ := h
  obtain ⟨rfl, rfl, rfl⟩ := triple_inj (show some (w, (WAKE.CMD p), fset (BitVec.ofNat 48 v) WAKE.CMD.CONFIRM 1) = some _ from he)
  replace ha := (congrArg (State.arrives · _ _ _) (hartMem_nil _ s)).symm.trans ha
  replace hw : (w.ok && decide (p < 4) && decide (v < 2 ^ 48)) = true := hw
  simp only [Bool.and_eq_true, decide_eq_true_eq] at hw
  have e0 : exec (.confirm w p v) s = execConfirm w p v s := rfl
  rw [e0, execConfirm, Act.go_eq]
  have hp : posts (WAKE.CMD p) = false := posts_prism (by omega) (by omega) (by omega)
  have hn : u.refuses (WAKE.CMD p) (fset (BitVec.ofNat 48 v) WAKE.CMD.CONFIRM 1) = false := hr.resolve_left (by rw [hp]; decide)
  have hq := (send_arrives ha hp).trans (effect_WAKE_CMD (by omega) _ _ _ _)
  rw [if_neg (by rw [hn]; decide)] at hq
  refine congrArg Host.Outcome.next ?_
  simp only [Act.when_run, hw, and_self, if_true, Act.order, Act.seq_run, Bool.false_eq_true, if_false]
  simp only [Act.seq_run, Act.when_run] at hq
  exact hq

theorem reach_rearm {w : Sender} {d v : Nat} {s u : State} {ag : Agent} (h : Reaches (.rearm w d v) s ag u) :
    exec (.rearm w d v) s = .next (((Act.seq (Act.setPosted (4 + d) (aBlk (WKP.CMD d)) (some { addr := WKP.CMD d, value := fset (BitVec.ofNat 48 v) WKP.CMD.REARM 1, agent := ag })) (Act.ends w ag (WKP.CMD d) .ok)).run u)) := by
  obtain ⟨hw, w', a', v', he, ha, hr⟩ := h
  obtain ⟨rfl, rfl, rfl⟩ := triple_inj (show some (w, (WKP.CMD d), fset (BitVec.ofNat 48 v) WKP.CMD.REARM 1) = some _ from he)
  replace ha := (congrArg (State.arrives · _ _ _) (hartMem_nil _ s)).symm.trans ha
  replace hw : (w.ok && decide (d < 4) && decide (v < 2 ^ 48)) = true := hw
  simp only [Bool.and_eq_true, decide_eq_true_eq] at hw
  have e0 : exec (.rearm w d v) s = execRearm w d v s := rfl
  rw [e0, execRearm, Act.go_eq]
  have hp : posts (WKP.CMD d) = true := posts_slow (by omega) (by omega) (by omega) (by decide) (by decide)
  have e2 : aDie (WKP.CMD d) = 4 + d := aDie_ra (by omega) (by omega)
  have hq := send_posted ha hp
  rw [e2] at hq
  refine congrArg Host.Outcome.next ?_
  simp only [Act.when_run, hw, and_self, if_true, Act.order]
  exact hq

theorem reach_chnCmd {w : Sender} {d c v : Nat} {s u : State} {ag : Agent} (h : Reaches (.chnCmd w d c v) s ag u) :
    exec (.chnCmd w d c v) s = .next (((chnCmd ag d c (BitVec.ofNat 48 v) (Act.ends w ag (CHN.CMD d c))).run u)) := by
  obtain ⟨hw, w', a', v', he, ha, hr⟩ := h
  obtain ⟨rfl, rfl, rfl⟩ := triple_inj (show some (w, (CHN.CMD d c), BitVec.ofNat 48 v) = some _ from he)
  replace ha := (congrArg (State.arrives · _ _ _) (hartMem_nil _ s)).symm.trans ha
  replace hw : (w.ok && decide (d < 4) && decide (c < 28) && decide (v < 2 ^ 48)) = true := hw
  simp only [Bool.and_eq_true, decide_eq_true_eq] at hw
  have e0 : exec (.chnCmd w d c v) s = execChnCmd w d c v s := rfl
  rw [e0, execChnCmd, Act.go_eq]
  have hp : posts (CHN.CMD d c) = false := posts_chn (by omega) (by omega)
  have hn : u.refuses (CHN.CMD d c) (BitVec.ofNat 48 v) = false := hr.resolve_left (by rw [hp]; decide)
  have hq := (send_arrives ha hp).trans (effect_CHN_CMD (by omega) (by omega) _ _ _ _)
  rw [if_neg (by rw [hn]; decide)] at hq
  refine congrArg Host.Outcome.next ?_
  simp only [Act.when_run, hw, and_self, if_true, Act.order, Act.seq_run, Bool.false_eq_true, if_false]
  exact hq

theorem reach_clearFault {w : Sender} {d c v : Nat} {s u : State} {ag : Agent} (h : Reaches (.clearFault w d c v) s ag u) :
    exec (.clearFault w d c v) s = .next (((chnCtrl ag d c (fset (BitVec.ofNat 48 v) CHN.CTRL.CLEAR_FAULT 1) (Act.ends w ag (CHN.CTRL d c))).run u)) := by
  obtain ⟨hw, w', a', v', he, ha, hr⟩ := h
  obtain ⟨rfl, rfl, rfl⟩ := triple_inj (show some (w, (CHN.CTRL d c), fset (BitVec.ofNat 48 v) CHN.CTRL.CLEAR_FAULT 1) = some _ from he)
  replace ha := (congrArg (State.arrives · _ _ _) (hartMem_nil _ s)).symm.trans ha
  replace hw : (w.ok && decide (d < 4) && decide (c < 28) && decide (v < 2 ^ 48)) = true := hw
  simp only [Bool.and_eq_true, decide_eq_true_eq] at hw
  have e0 : exec (.clearFault w d c v) s = execClearFault w d c v s := rfl
  rw [e0, execClearFault, Act.go_eq]
  have hp : posts (CHN.CTRL d c) = false := posts_chn (by omega) (by omega)
  have hn : u.refuses (CHN.CTRL d c) (fset (BitVec.ofNat 48 v) CHN.CTRL.CLEAR_FAULT 1) = false := hr.resolve_left (by rw [hp]; decide)
  have hq := (send_arrives ha hp).trans (effect_CHN_CTRL (by omega) (by omega) _ _ _ _)
  rw [if_neg (by rw [hn]; decide)] at hq
  refine congrArg Host.Outcome.next ?_
  simp only [Act.when_run, hw, and_self, if_true, Act.order, Act.seq_run, Bool.false_eq_true, if_false]
  exact hq

theorem reach_unlock {w : Sender} {d c v : Nat} {s u : State} {ag : Agent} (h : Reaches (.unlock w d c v) s ag u) :
    exec (.unlock w d c v) s = .next (((chnCtrl ag d c (fset (BitVec.ofNat 48 v) CHN.CTRL.UNLOCK 1) (Act.ends w ag (CHN.CTRL d c))).run u)) := by
  obtain ⟨hw, w', a', v', he, ha, hr⟩ := h
  obtain ⟨rfl, rfl, rfl⟩ := triple_inj (show some (w, (CHN.CTRL d c), fset (BitVec.ofNat 48 v) CHN.CTRL.UNLOCK 1) = some _ from he)
  replace ha := (congrArg (State.arrives · _ _ _) (hartMem_nil _ s)).symm.trans ha
  replace hw : (w.ok && decide (d < 4) && decide (c < 28) && decide (v < 2 ^ 48)) = true := hw
  simp only [Bool.and_eq_true, decide_eq_true_eq] at hw
  have e0 : exec (.unlock w d c v) s = execUnlock w d c v s := rfl
  rw [e0, execUnlock, Act.go_eq]
  have hp : posts (CHN.CTRL d c) = false := posts_chn (by omega) (by omega)
  have hn : u.refuses (CHN.CTRL d c) (fset (BitVec.ofNat 48 v) CHN.CTRL.UNLOCK 1) = false := hr.resolve_left (by rw [hp]; decide)
  have hq := (send_arrives ha hp).trans (effect_CHN_CTRL (by omega) (by omega) _ _ _ _)
  rw [if_neg (by rw [hn]; decide)] at hq
  refine congrArg Host.Outcome.next ?_
  simp only [Act.when_run, hw, and_self, if_true, Act.order, Act.seq_run, Bool.false_eq_true, if_false]
  exact hq

theorem reach_selftest {w : Sender} {d c v : Nat} {s u : State} {ag : Agent} (h : Reaches (.selftest w d c v) s ag u) :
    exec (.selftest w d c v) s = .next (((chnCtrl ag d c (fset (BitVec.ofNat 48 v) CHN.CTRL.SELFTEST 1) (Act.ends w ag (CHN.CTRL d c))).run u)) := by
  obtain ⟨hw, w', a', v', he, ha, hr⟩ := h
  obtain ⟨rfl, rfl, rfl⟩ := triple_inj (show some (w, (CHN.CTRL d c), fset (BitVec.ofNat 48 v) CHN.CTRL.SELFTEST 1) = some _ from he)
  replace ha := (congrArg (State.arrives · _ _ _) (hartMem_nil _ s)).symm.trans ha
  replace hw : (w.ok && decide (d < 4) && decide (c < 28) && decide (v < 2 ^ 48)) = true := hw
  simp only [Bool.and_eq_true, decide_eq_true_eq] at hw
  have e0 : exec (.selftest w d c v) s = execSelftest w d c v s := rfl
  rw [e0, execSelftest, Act.go_eq]
  have hp : posts (CHN.CTRL d c) = false := posts_chn (by omega) (by omega)
  have hn : u.refuses (CHN.CTRL d c) (fset (BitVec.ofNat 48 v) CHN.CTRL.SELFTEST 1) = false := hr.resolve_left (by rw [hp]; decide)
  have hq := (send_arrives ha hp).trans (effect_CHN_CTRL (by omega) (by omega) _ _ _ _)
  rw [if_neg (by rw [hn]; decide)] at hq
  refine congrArg Host.Outcome.next ?_
  simp only [Act.when_run, hw, and_self, if_true, Act.order, Act.seq_run, Bool.false_eq_true, if_false]
  exact hq

theorem reach_cal {w : Sender} {d c v : Nat} {s u : State} {ag : Agent} (h : Reaches (.cal w d c v) s ag u) :
    exec (.cal w d c v) s = .next (((chnCtrl ag d c (fset (BitVec.ofNat 48 v) CHN.CTRL.CAL 1) (Act.ends w ag (CHN.CTRL d c))).run u)) := by
  obtain ⟨hw, w', a', v', he, ha, hr⟩ := h
  obtain ⟨rfl, rfl, rfl⟩ := triple_inj (show some (w, (CHN.CTRL d c), fset (BitVec.ofNat 48 v) CHN.CTRL.CAL 1) = some _ from he)
  replace ha := (congrArg (State.arrives · _ _ _) (hartMem_nil _ s)).symm.trans ha
  replace hw : (w.ok && decide (d < 4) && decide (c < 28) && decide (v < 2 ^ 48)) = true := hw
  simp only [Bool.and_eq_true, decide_eq_true_eq] at hw
  have e0 : exec (.cal w d c v) s = execCal w d c v s := rfl
  rw [e0, execCal, Act.go_eq]
  have hp : posts (CHN.CTRL d c) = false := posts_chn (by omega) (by omega)
  have hn : u.refuses (CHN.CTRL d c) (fset (BitVec.ofNat 48 v) CHN.CTRL.CAL 1) = false := hr.resolve_left (by rw [hp]; decide)
  have hq := (send_arrives ha hp).trans (effect_CHN_CTRL (by omega) (by omega) _ _ _ _)
  rw [if_neg (by rw [hn]; decide)] at hq
  refine congrArg Host.Outcome.next ?_
  simp only [Act.when_run, hw, and_self, if_true, Act.order, Act.seq_run, Bool.false_eq_true, if_false]
  exact hq

theorem reach_ack {w : Sender} {d v : Nat} {s u : State} {ag : Agent} (h : Reaches (.ack w d v) s ag u) :
    exec (.ack w d v) s = .next (((Act.seq (Act.setPosted (4 + d) (aBlk (PIN.CMD d)) (some { addr := PIN.CMD d, value := fset (BitVec.ofNat 48 v) PIN.CMD.ACK 1, agent := ag })) (Act.ends w ag (PIN.CMD d) .ok)).run u)) := by
  obtain ⟨hw, w', a', v', he, ha, hr⟩ := h
  obtain ⟨rfl, rfl, rfl⟩ := triple_inj (show some (w, (PIN.CMD d), fset (BitVec.ofNat 48 v) PIN.CMD.ACK 1) = some _ from he)
  replace ha := (congrArg (State.arrives · _ _ _) (hartMem_nil _ s)).symm.trans ha
  replace hw : (w.ok && decide (d < 4) && decide (v < 2 ^ 48)) = true := hw
  simp only [Bool.and_eq_true, decide_eq_true_eq] at hw
  have e0 : exec (.ack w d v) s = execAck w d v s := rfl
  rw [e0, execAck, Act.go_eq]
  have hp : posts (PIN.CMD d) = true := posts_slow (by omega) (by omega) (by omega) (by decide) (by decide)
  have e2 : aDie (PIN.CMD d) = 4 + d := aDie_ra (by omega) (by omega)
  have hq := send_posted ha hp
  rw [e2] at hq
  refine congrArg Host.Outcome.next ?_
  simp only [Act.when_run, hw, and_self, if_true, Act.order]
  exact hq

theorem reach_pcmdHalt {w : Sender} {p v : Nat} {s u : State} {ag : Agent} (h : Reaches (.pcmdHalt w p v) s ag u) :
    exec (.pcmdHalt w p v) s = .next (((pcmdWrite ag p (fset (BitVec.ofNat 48 v) CPU.PCMD.OP 1) (Act.ends w ag (CPU.PCMD p))).run u)) := by
  obtain ⟨hw, w', a', v', he, ha, hr⟩ := h
  obtain ⟨rfl, rfl, rfl⟩ := triple_inj (show some (w, (CPU.PCMD p), fset (BitVec.ofNat 48 v) CPU.PCMD.OP 1) = some _ from he)
  replace ha := (congrArg (State.arrives · _ _ _) (hartMem_nil _ s)).symm.trans ha
  replace hw : (w.ok && decide (p < 4) && decide (v < 2 ^ 48)) = true := hw
  simp only [Bool.and_eq_true, decide_eq_true_eq] at hw
  have e0 : exec (.pcmdHalt w p v) s = execPcmdHalt w p v s := rfl
  rw [e0, execPcmdHalt, Act.go_eq]
  have hp : posts (CPU.PCMD p) = false := posts_prism (by omega) (by omega) (by omega)
  have hn : u.refuses (CPU.PCMD p) (fset (BitVec.ofNat 48 v) CPU.PCMD.OP 1) = false := hr.resolve_left (by rw [hp]; decide)
  have hq := (send_arrives ha hp).trans (effect_CPU_PCMD (by omega) _ _ _ _)
  rw [if_neg (by rw [hn]; decide)] at hq
  refine congrArg Host.Outcome.next ?_
  simp only [Act.when_run, hw, and_self, if_true, Act.order, Act.seq_run, Bool.false_eq_true, if_false]
  exact hq

theorem reach_pcmdRestart {w : Sender} {p v : Nat} {s u : State} {ag : Agent} (h : Reaches (.pcmdRestart w p v) s ag u) :
    exec (.pcmdRestart w p v) s = .next (((pcmdWrite ag p (fset (BitVec.ofNat 48 v) CPU.PCMD.OP 2) (Act.ends w ag (CPU.PCMD p))).run u)) := by
  obtain ⟨hw, w', a', v', he, ha, hr⟩ := h
  obtain ⟨rfl, rfl, rfl⟩ := triple_inj (show some (w, (CPU.PCMD p), fset (BitVec.ofNat 48 v) CPU.PCMD.OP 2) = some _ from he)
  replace ha := (congrArg (State.arrives · _ _ _) (hartMem_nil _ s)).symm.trans ha
  replace hw : (w.ok && decide (p < 4) && decide (v < 2 ^ 48)) = true := hw
  simp only [Bool.and_eq_true, decide_eq_true_eq] at hw
  have e0 : exec (.pcmdRestart w p v) s = execPcmdRestart w p v s := rfl
  rw [e0, execPcmdRestart, Act.go_eq]
  have hp : posts (CPU.PCMD p) = false := posts_prism (by omega) (by omega) (by omega)
  have hn : u.refuses (CPU.PCMD p) (fset (BitVec.ofNat 48 v) CPU.PCMD.OP 2) = false := hr.resolve_left (by rw [hp]; decide)
  have hq := (send_arrives ha hp).trans (effect_CPU_PCMD (by omega) _ _ _ _)
  rw [if_neg (by rw [hn]; decide)] at hq
  refine congrArg Host.Outcome.next ?_
  simp only [Act.when_run, hw, and_self, if_true, Act.order, Act.seq_run, Bool.false_eq_true, if_false]
  exact hq

theorem reach_watchdogKick {w : Sender} {p k v : Nat} {s u : State} {ag : Agent} (h : Reaches (.watchdogKick w p k v) s ag u) :
    exec (.watchdogKick w p k v) s = .next (((kickWrite ag p k (BitVec.ofNat 48 v) (Act.ends w ag (CPU.KICK p k))).run u)) := by
  obtain ⟨hw, w', a', v', he, ha, hr⟩ := h
  obtain ⟨rfl, rfl, rfl⟩ := triple_inj (show some (w, (CPU.KICK p k), BitVec.ofNat 48 v) = some _ from he)
  replace ha := (congrArg (State.arrives · _ _ _) (hartMem_nil _ s)).symm.trans ha
  replace hw : (w.ok && decide (p < 4) && decide (k < 16) && decide (v < 2 ^ 48)) = true := hw
  simp only [Bool.and_eq_true, decide_eq_true_eq] at hw
  have e0 : exec (.watchdogKick w p k v) s = execWatchdogKick w p k v s := rfl
  rw [e0, execWatchdogKick, Act.go_eq]
  have hp : posts (CPU.KICK p k) = false := posts_prism (by omega) (by omega) (by omega)
  have hn : u.refuses (CPU.KICK p k) (BitVec.ofNat 48 v) = false := hr.resolve_left (by rw [hp]; decide)
  have hq := (send_arrives ha hp).trans (effect_CPU_KICK (by omega) (by omega) _ _ _ _)
  rw [if_neg (by rw [hn]; decide)] at hq
  refine congrArg Host.Outcome.next ?_
  simp only [Act.when_run, hw, and_self, if_true, Act.order, Act.seq_run, Bool.false_eq_true, if_false]
  exact hq

theorem reach_skick {w : Sender} {p v : Nat} {s u : State} {ag : Agent} (h : Reaches (.skick w p v) s ag u) :
    exec (.skick w p v) s = .next (((skickWrite ag p (BitVec.ofNat 48 v) (Act.ends w ag (CPU.SKICK p))).run u)) := by
  obtain ⟨hw, w', a', v', he, ha, hr⟩ := h
  obtain ⟨rfl, rfl, rfl⟩ := triple_inj (show some (w, (CPU.SKICK p), BitVec.ofNat 48 v) = some _ from he)
  replace ha := (congrArg (State.arrives · _ _ _) (hartMem_nil _ s)).symm.trans ha
  replace hw : (w.ok && decide (p < 4) && decide (v < 2 ^ 48)) = true := hw
  simp only [Bool.and_eq_true, decide_eq_true_eq] at hw
  have e0 : exec (.skick w p v) s = execSkick w p v s := rfl
  rw [e0, execSkick, Act.go_eq]
  have hp : posts (CPU.SKICK p) = false := posts_prism (by omega) (by omega) (by omega)
  have hn : u.refuses (CPU.SKICK p) (BitVec.ofNat 48 v) = false := hr.resolve_left (by rw [hp]; decide)
  have hq := (send_arrives ha hp).trans (effect_CPU_SKICK (by omega) _ _ _ _)
  rw [if_neg (by rw [hn]; decide)] at hq
  refine congrArg Host.Outcome.next ?_
  simp only [Act.when_run, hw, and_self, if_true, Act.order, Act.seq_run, Bool.false_eq_true, if_false]
  exact hq

theorem reach_txRingProd {w : Sender} {mem : List (Nat × Nat)} {p k v : Nat} {s u : State} {ag : Agent} (h : Reaches (.txRingProd w mem p k v) s ag u) :
    exec (.txRingProd w mem p k v) s = .next (((txrWrite ag p k true (BitVec.ofNat 48 v) (Act.ends w ag (CPU.TXR_B p k))).run u)) := by
  obtain ⟨hw, w', a', v', he, ha, hr⟩ := h
  obtain ⟨rfl, rfl, rfl⟩ := triple_inj (show some (w, (CPU.TXR_B p k), BitVec.ofNat 48 v) = some _ from he)
  replace hw : (w.ok && (mem.all fun e => decide (e.1 < 2 ^ 64) && decide (e.2 < 2 ^ 64)) && decide (p < 4) && decide (k < 16) && decide (v < 2 ^ 48)) = true := hw
  simp only [Bool.and_eq_true, decide_eq_true_eq] at hw
  have e0 : exec (.txRingProd w mem p k v) s = execTxRingProd w mem p k v s := rfl
  rw [e0, execTxRingProd, Act.go_eq]
  have hp : posts (CPU.TXR_B p k) = false := posts_prism (by omega) (by omega) (by omega)
  have hn : u.refuses (CPU.TXR_B p k) (BitVec.ofNat 48 v) = false := hr.resolve_left (by rw [hp]; decide)
  have hq := (send_arrives ha hp).trans (effect_CPU_TXR_B (by omega) (by omega) _ _ _ _)
  rw [if_neg (by rw [hn]; decide)] at hq
  refine congrArg Host.Outcome.next ?_
  simp only [Act.when_run, hw, and_self, if_true, Act.order, Act.seq_run, Bool.false_eq_true, if_false]
  exact hq

theorem reach_aprRd {w : Sender} {p v : Nat} {s u : State} {ag : Agent} (h : Reaches (.aprRd w p v) s ag u) :
    exec (.aprRd w p v) s = .next (((aprRead p (BitVec.ofNat 48 v) (Act.ends w ag (CPU.APR_RD p))).run u)) := by
  obtain ⟨hw, w', a', v', he, ha, hr⟩ := h
  obtain ⟨rfl, rfl, rfl⟩ := triple_inj (show some (w, (CPU.APR_RD p), BitVec.ofNat 48 v) = some _ from he)
  replace ha := (congrArg (State.arrives · _ _ _) (hartMem_nil _ s)).symm.trans ha
  replace hw : (w.ok && decide (p < 4) && decide (v < 2 ^ 48)) = true := hw
  simp only [Bool.and_eq_true, decide_eq_true_eq] at hw
  have e0 : exec (.aprRd w p v) s = execAprRd w p v s := rfl
  rw [e0, execAprRd, Act.go_eq]
  have hp : posts (CPU.APR_RD p) = false := posts_prism (by omega) (by omega) (by omega)
  have hn : u.refuses (CPU.APR_RD p) (BitVec.ofNat 48 v) = false := hr.resolve_left (by rw [hp]; decide)
  have hq := (send_arrives ha hp).trans (effect_CPU_APR_RD (by omega) _ _ _ _)
  rw [if_neg (by rw [hn]; decide)] at hq
  refine congrArg Host.Outcome.next ?_
  simp only [Act.when_run, hw, and_self, if_true, Act.order, Act.seq_run, Bool.false_eq_true, if_false]
  exact hq

theorem reach_dtCmdRead {w : Sender} {v : Nat} {s u : State} {ag : Agent} (h : Reaches (.dtCmdRead w v) s ag u) :
    exec (.dtCmdRead w v) s = .next (((dtCmd ag (fset (BitVec.ofNat 48 v) PLX.DT_CMD.OP 1) (Act.ends w ag (PLX.DT_CMD 0))).run u)) := by
  obtain ⟨hw, w', a', v', he, ha, hr⟩ := h
  obtain ⟨rfl, rfl, rfl⟩ := triple_inj (show some (w, (PLX.DT_CMD 0), fset (BitVec.ofNat 48 v) PLX.DT_CMD.OP 1) = some _ from he)
  replace ha := (congrArg (State.arrives · _ _ _) (hartMem_nil _ s)).symm.trans ha
  replace hw : (w.ok && decide (v < 2 ^ 48)) = true := hw
  simp only [Bool.and_eq_true, decide_eq_true_eq] at hw
  have e0 : exec (.dtCmdRead w v) s = execDtCmdRead w v s := rfl
  rw [e0, execDtCmdRead, Act.go_eq]
  have hp : posts (PLX.DT_CMD 0) = false := posts_prism (by omega) (by omega) (by omega)
  have hn : u.refuses (PLX.DT_CMD 0) (fset (BitVec.ofNat 48 v) PLX.DT_CMD.OP 1) = false := hr.resolve_left (by rw [hp]; decide)
  have hq := (send_arrives ha hp).trans (effect_PLX_DT_CMD (by omega) _ _ _ _)
  rw [if_neg (by rw [hn]; decide)] at hq
  refine congrArg Host.Outcome.next ?_
  simp only [Act.when_run, hw, and_self, if_true, Act.order, Act.seq_run, Bool.false_eq_true, if_false]
  exact hq

theorem reach_dtCmdRemove {w : Sender} {v : Nat} {s u : State} {ag : Agent} (h : Reaches (.dtCmdRemove w v) s ag u) :
    exec (.dtCmdRemove w v) s = .next (((dtCmd ag (fset (BitVec.ofNat 48 v) PLX.DT_CMD.OP 2) (Act.ends w ag (PLX.DT_CMD 0))).run u)) := by
  obtain ⟨hw, w', a', v', he, ha, hr⟩ := h
  obtain ⟨rfl, rfl, rfl⟩ := triple_inj (show some (w, (PLX.DT_CMD 0), fset (BitVec.ofNat 48 v) PLX.DT_CMD.OP 2) = some _ from he)
  replace ha := (congrArg (State.arrives · _ _ _) (hartMem_nil _ s)).symm.trans ha
  replace hw : (w.ok && decide (v < 2 ^ 48)) = true := hw
  simp only [Bool.and_eq_true, decide_eq_true_eq] at hw
  have e0 : exec (.dtCmdRemove w v) s = execDtCmdRemove w v s := rfl
  rw [e0, execDtCmdRemove, Act.go_eq]
  have hp : posts (PLX.DT_CMD 0) = false := posts_prism (by omega) (by omega) (by omega)
  have hn : u.refuses (PLX.DT_CMD 0) (fset (BitVec.ofNat 48 v) PLX.DT_CMD.OP 2) = false := hr.resolve_left (by rw [hp]; decide)
  have hq := (send_arrives ha hp).trans (effect_PLX_DT_CMD (by omega) _ _ _ _)
  rw [if_neg (by rw [hn]; decide)] at hq
  refine congrArg Host.Outcome.next ?_
  simp only [Act.when_run, hw, and_self, if_true, Act.order, Act.seq_run, Bool.false_eq_true, if_false]
  exact hq

theorem reach_snapCmdSnapshot {w : Sender} {p v : Nat} {s u : State} {ag : Agent} (h : Reaches (.snapCmdSnapshot w p v) s ag u) :
    exec (.snapCmdSnapshot w p v) s = .next (((snapCmd ag p (fset (BitVec.ofNat 48 v) LOUPE.SNAP_CMD.OP 1) (Act.ends w ag (LOUPE.SNAP_CMD p))).run u)) := by
  obtain ⟨hw, w', a', v', he, ha, hr⟩ := h
  obtain ⟨rfl, rfl, rfl⟩ := triple_inj (show some (w, (LOUPE.SNAP_CMD p), fset (BitVec.ofNat 48 v) LOUPE.SNAP_CMD.OP 1) = some _ from he)
  replace ha := (congrArg (State.arrives · _ _ _) (hartMem_nil _ s)).symm.trans ha
  replace hw : (w.ok && decide (p < 4) && decide (v < 2 ^ 48)) = true := hw
  simp only [Bool.and_eq_true, decide_eq_true_eq] at hw
  have e0 : exec (.snapCmdSnapshot w p v) s = execSnapCmdSnapshot w p v s := rfl
  rw [e0, execSnapCmdSnapshot, Act.go_eq]
  have hp : posts (LOUPE.SNAP_CMD p) = false := posts_prism (by omega) (by omega) (by omega)
  have hn : u.refuses (LOUPE.SNAP_CMD p) (fset (BitVec.ofNat 48 v) LOUPE.SNAP_CMD.OP 1) = false := hr.resolve_left (by rw [hp]; decide)
  have hq := (send_arrives ha hp).trans (effect_LOUPE_SNAP_CMD (by omega) _ _ _ _)
  rw [if_neg (by rw [hn]; decide)] at hq
  refine congrArg Host.Outcome.next ?_
  simp only [Act.when_run, hw, and_self, if_true, Act.order, Act.seq_run, Bool.false_eq_true, if_false]
  exact hq

theorem reach_snapCmdSnapshotClear {w : Sender} {p v : Nat} {s u : State} {ag : Agent} (h : Reaches (.snapCmdSnapshotClear w p v) s ag u) :
    exec (.snapCmdSnapshotClear w p v) s = .next (((snapCmd ag p (fset (BitVec.ofNat 48 v) LOUPE.SNAP_CMD.OP 2) (Act.ends w ag (LOUPE.SNAP_CMD p))).run u)) := by
  obtain ⟨hw, w', a', v', he, ha, hr⟩ := h
  obtain ⟨rfl, rfl, rfl⟩ := triple_inj (show some (w, (LOUPE.SNAP_CMD p), fset (BitVec.ofNat 48 v) LOUPE.SNAP_CMD.OP 2) = some _ from he)
  replace ha := (congrArg (State.arrives · _ _ _) (hartMem_nil _ s)).symm.trans ha
  replace hw : (w.ok && decide (p < 4) && decide (v < 2 ^ 48)) = true := hw
  simp only [Bool.and_eq_true, decide_eq_true_eq] at hw
  have e0 : exec (.snapCmdSnapshotClear w p v) s = execSnapCmdSnapshotClear w p v s := rfl
  rw [e0, execSnapCmdSnapshotClear, Act.go_eq]
  have hp : posts (LOUPE.SNAP_CMD p) = false := posts_prism (by omega) (by omega) (by omega)
  have hn : u.refuses (LOUPE.SNAP_CMD p) (fset (BitVec.ofNat 48 v) LOUPE.SNAP_CMD.OP 2) = false := hr.resolve_left (by rw [hp]; decide)
  have hq := (send_arrives ha hp).trans (effect_LOUPE_SNAP_CMD (by omega) _ _ _ _)
  rw [if_neg (by rw [hn]; decide)] at hq
  refine congrArg Host.Outcome.next ?_
  simp only [Act.when_run, hw, and_self, if_true, Act.order, Act.seq_run, Bool.false_eq_true, if_false]
  exact hq

theorem reach_feedVal {w : Sender} {p v : Nat} {s u : State} {ag : Agent} (h : Reaches (.feedVal w p v) s ag u) :
    exec (.feedVal w p v) s = .next (((feedVal p (BitVec.ofNat 48 v) (Act.ends w ag (LOUPE.FEED_VAL p))).run u)) := by
  obtain ⟨hw, w', a', v', he, ha, hr⟩ := h
  obtain ⟨rfl, rfl, rfl⟩ := triple_inj (show some (w, (LOUPE.FEED_VAL p), BitVec.ofNat 48 v) = some _ from he)
  replace ha := (congrArg (State.arrives · _ _ _) (hartMem_nil _ s)).symm.trans ha
  replace hw : (w.ok && decide (p < 4) && decide (v < 2 ^ 48)) = true := hw
  simp only [Bool.and_eq_true, decide_eq_true_eq] at hw
  have e0 : exec (.feedVal w p v) s = execFeedVal w p v s := rfl
  rw [e0, execFeedVal, Act.go_eq]
  have hp : posts (LOUPE.FEED_VAL p) = false := posts_prism (by omega) (by omega) (by omega)
  have hn : u.refuses (LOUPE.FEED_VAL p) (BitVec.ofNat 48 v) = false := hr.resolve_left (by rw [hp]; decide)
  have hq := (send_arrives ha hp).trans (effect_LOUPE_FEED_VAL (by omega) _ _ _ _)
  rw [if_neg (by rw [hn]; decide)] at hq
  refine congrArg Host.Outcome.next ?_
  simp only [Act.when_run, hw, and_self, if_true, Act.order, Act.seq_run, Bool.false_eq_true, if_false]
  exact hq

theorem reach_mcfgWrite {w : Sender} {p m j v : Nat} {s u : State} {ag : Agent} (h : Reaches (.mcfgWrite w p m j v) s ag u) :
    exec (.mcfgWrite w p m j v) s = .next (((mcfgWrite ag p m j (BitVec.ofNat 48 v) (Act.ends w ag (ra p 0x80 (0x100 + 4 * m + j)))).run u)) := by
  obtain ⟨hw, w', a', v', he, ha, hr⟩ := h
  obtain ⟨rfl, rfl, rfl⟩ := triple_inj (show some (w, (ra p 0x80 (0x100 + 4 * m + j)), BitVec.ofNat 48 v) = some _ from he)
  replace ha := (congrArg (State.arrives · _ _ _) (hartMem_nil _ s)).symm.trans ha
  replace hw : (w.ok && decide (p < 4) && decide (m < 256) && decide (j < 4) && decide (v < 2 ^ 48)) = true := hw
  simp only [Bool.and_eq_true, decide_eq_true_eq] at hw
  have e0 : exec (.mcfgWrite w p m j v) s = execMcfgWrite w p m j v s := rfl
  rw [e0, execMcfgWrite, Act.go_eq]
  have hp : posts (ra p 0x80 (0x100 + 4 * m + j)) = false := posts_prism (by omega) (by omega) (by omega)
  have hn : u.refuses (ra p 0x80 (0x100 + 4 * m + j)) (BitVec.ofNat 48 v) = false := hr.resolve_left (by rw [hp]; decide)
  have hq := (send_arrives ha hp).trans (effect_MCFG (by omega) (by omega) (by omega) _ _ _ _)
  rw [if_neg (by rw [hn]; decide)] at hq
  refine congrArg Host.Outcome.next ?_
  simp only [Act.when_run, hw, and_self, if_true, Act.order, Act.seq_run, Bool.false_eq_true, if_false]
  exact hq

theorem reach_trigger {w : Sender} {p v : Nat} {s u : State} {ag : Agent} (h : Reaches (.trigger w p v) s ag u) :
    exec (.trigger w p v) s = .next (((pscpCmd ag p (fset (BitVec.ofNat 48 v) PSCP.CMD.TRIGGER 1) (Act.ends w ag (PSCP.CMD p))).run u)) := by
  obtain ⟨hw, w', a', v', he, ha, hr⟩ := h
  obtain ⟨rfl, rfl, rfl⟩ := triple_inj (show some (w, (PSCP.CMD p), fset (BitVec.ofNat 48 v) PSCP.CMD.TRIGGER 1) = some _ from he)
  replace ha := (congrArg (State.arrives · _ _ _) (hartMem_nil _ s)).symm.trans ha
  replace hw : (w.ok && decide (p < 4) && decide (v < 2 ^ 48)) = true := hw
  simp only [Bool.and_eq_true, decide_eq_true_eq] at hw
  have e0 : exec (.trigger w p v) s = execTrigger w p v s := rfl
  rw [e0, execTrigger, Act.go_eq]
  have hp : posts (PSCP.CMD p) = false := posts_prism (by omega) (by omega) (by omega)
  have hn : u.refuses (PSCP.CMD p) (fset (BitVec.ofNat 48 v) PSCP.CMD.TRIGGER 1) = false := hr.resolve_left (by rw [hp]; decide)
  have hq := (send_arrives ha hp).trans (effect_PSCP_CMD (by omega) _ _ _ _)
  rw [if_neg (by rw [hn]; decide)] at hq
  refine congrArg Host.Outcome.next ?_
  simp only [Act.when_run, hw, and_self, if_true, Act.order, Act.seq_run, Bool.false_eq_true, if_false]
  exact hq

theorem reach_restart {w : Sender} {p v : Nat} {s u : State} {ag : Agent} (h : Reaches (.restart w p v) s ag u) :
    exec (.restart w p v) s = .next (((pscpCmd ag p (fset (BitVec.ofNat 48 v) PSCP.CMD.RESTART 1) (Act.ends w ag (PSCP.CMD p))).run u)) := by
  obtain ⟨hw, w', a', v', he, ha, hr⟩ := h
  obtain ⟨rfl, rfl, rfl⟩ := triple_inj (show some (w, (PSCP.CMD p), fset (BitVec.ofNat 48 v) PSCP.CMD.RESTART 1) = some _ from he)
  replace ha := (congrArg (State.arrives · _ _ _) (hartMem_nil _ s)).symm.trans ha
  replace hw : (w.ok && decide (p < 4) && decide (v < 2 ^ 48)) = true := hw
  simp only [Bool.and_eq_true, decide_eq_true_eq] at hw
  have e0 : exec (.restart w p v) s = execRestart w p v s := rfl
  rw [e0, execRestart, Act.go_eq]
  have hp : posts (PSCP.CMD p) = false := posts_prism (by omega) (by omega) (by omega)
  have hn : u.refuses (PSCP.CMD p) (fset (BitVec.ofNat 48 v) PSCP.CMD.RESTART 1) = false := hr.resolve_left (by rw [hp]; decide)
  have hq := (send_arrives ha hp).trans (effect_PSCP_CMD (by omega) _ _ _ _)
  rw [if_neg (by rw [hn]; decide)] at hq
  refine congrArg Host.Outcome.next ?_
  simp only [Act.when_run, hw, and_self, if_true, Act.order, Act.seq_run, Bool.false_eq_true, if_false]
  exact hq

theorem reach_release {w : Sender} {p v : Nat} {s u : State} {ag : Agent} (h : Reaches (.release w p v) s ag u) :
    exec (.release w p v) s = .next (((pscpCmd ag p (fset (BitVec.ofNat 48 v) PSCP.CMD.RELEASE 1) (Act.ends w ag (PSCP.CMD p))).run u)) := by
  obtain ⟨hw, w', a', v', he, ha, hr⟩ := h
  obtain ⟨rfl, rfl, rfl⟩ := triple_inj (show some (w, (PSCP.CMD p), fset (BitVec.ofNat 48 v) PSCP.CMD.RELEASE 1) = some _ from he)
  replace ha := (congrArg (State.arrives · _ _ _) (hartMem_nil _ s)).symm.trans ha
  replace hw : (w.ok && decide (p < 4) && decide (v < 2 ^ 48)) = true := hw
  simp only [Bool.and_eq_true, decide_eq_true_eq] at hw
  have e0 : exec (.release w p v) s = execRelease w p v s := rfl
  rw [e0, execRelease, Act.go_eq]
  have hp : posts (PSCP.CMD p) = false := posts_prism (by omega) (by omega) (by omega)
  have hn : u.refuses (PSCP.CMD p) (fset (BitVec.ofNat 48 v) PSCP.CMD.RELEASE 1) = false := hr.resolve_left (by rw [hp]; decide)
  have hq := (send_arrives ha hp).trans (effect_PSCP_CMD (by omega) _ _ _ _)
  rw [if_neg (by rw [hn]; decide)] at hq
  refine congrArg Host.Outcome.next ?_
  simp only [Act.when_run, hw, and_self, if_true, Act.order, Act.seq_run, Bool.false_eq_true, if_false]
  exact hq

theorem reach_rdCmd {w : Sender} {p v : Nat} {s u : State} {ag : Agent} (h : Reaches (.rdCmd w p v) s ag u) :
    exec (.rdCmd w p v) s = .next (((rdCmd ag p (fset (BitVec.ofNat 48 v) PSCP.RD_CMD.START 1) (Act.ends w ag (PSCP.RD_CMD p))).run u)) := by
  obtain ⟨hw, w', a', v', he, ha, hr⟩ := h
  obtain ⟨rfl, rfl, rfl⟩ := triple_inj (show some (w, (PSCP.RD_CMD p), fset (BitVec.ofNat 48 v) PSCP.RD_CMD.START 1) = some _ from he)
  replace ha := (congrArg (State.arrives · _ _ _) (hartMem_nil _ s)).symm.trans ha
  replace hw : (w.ok && decide (p < 4) && decide (v < 2 ^ 48)) = true := hw
  simp only [Bool.and_eq_true, decide_eq_true_eq] at hw
  have e0 : exec (.rdCmd w p v) s = execRdCmd w p v s := rfl
  rw [e0, execRdCmd, Act.go_eq]
  have hp : posts (PSCP.RD_CMD p) = false := posts_prism (by omega) (by omega) (by omega)
  have hn : u.refuses (PSCP.RD_CMD p) (fset (BitVec.ofNat 48 v) PSCP.RD_CMD.START 1) = false := hr.resolve_left (by rw [hp]; decide)
  have hq := (send_arrives ha hp).trans (effect_PSCP_RD_CMD (by omega) _ _ _ _)
  rw [if_neg (by rw [hn]; decide)] at hq
  refine congrArg Host.Outcome.next ?_
  simp only [Act.when_run, hw, and_self, if_true, Act.order, Act.seq_run, Bool.false_eq_true, if_false]
  exact hq

end Sys2Proof.Machine
end

