-- ==== Sys2Proof/Laws/Writes/Core.lean ====
section
/-! SUPPORT. Which registers an action may write: every other register is as before. -/

namespace Sys2Proof.Machine

/-- An action changes no register outside a set. -/
structure Writes (A : Act) (P : Nat → Prop) : Prop where
  same : ∀ s a, ¬ P a → (A.run s).reg a = s.reg a

theorem Writes.mono {A : Act} {P Q : Nat → Prop} (h : Writes A P) (k : ∀ a, P a → Q a) : Writes A Q :=
  ⟨fun s a ha => h.same s a fun q => ha (k a q)⟩

theorem Writes.skip {P : Nat → Prop} : Writes Act.skip P := ⟨fun _ _ _ => rfl⟩

theorem Writes.seq {A B : Act} {P : Nat → Prop} (h : Writes A P) (k : Writes B P) : Writes (Act.seq A B) P :=
  ⟨fun s a ha => (k.same _ a ha).trans (h.same s a ha)⟩

theorem Writes.all_nil {P : Nat → Prop} : Writes (Act.all []) P := Writes.skip

theorem Writes.all_cons {A : Act} {l : List Act} {P : Nat → Prop} (h : Writes A P) (k : Writes (Act.all l) P) :
    Writes (Act.all (A :: l)) P := Writes.seq h k

theorem Writes.get {k : State → Act} {P : Nat → Prop} (h : ∀ s, Writes (k s) P) : Writes (Act.get k) P :=
  ⟨fun s a ha => (h s).same s a ha⟩

theorem Writes.when {c : Prop} [Decidable c] {A : Act} {P : Nat → Prop} (h : Writes A P) : Writes (Act.when c A) P := by
  unfold Act.when
  split
  · exact h
  · exact Writes.skip

theorem Writes.ite {c : Prop} [Decidable c] {A B : Act} {P : Nat → Prop} (h : Writes A P) (k : Writes B P) :
    Writes (if c then A else B) P := by
  split
  · exact h
  · exact k

theorem Writes.each {α : Type} {l : List α} {g : α → Act} {P : Nat → Prop} (h : ∀ x, Writes (g x) P) :
    Writes (Act.each l g) P := by
  induction l with
  | nil => exact Writes.skip
  | cons x l ih => exact Writes.seq (h x) ih

theorem Writes.all_map {α : Type} {l : List α} {g : α → Act} {P : Nat → Prop} (h : ∀ x, Writes (g x) P) :
    Writes (Act.all (l.map g)) P := Writes.each h

theorem Writes.opt {α : Type} {o : Option α} {f : α → Act} {P : Nat → Prop} (h : ∀ x, Writes (f x) P) :
    Writes (Act.opt o f) P := by
  cases o with
  | none => exact Writes.skip
  | some x => exact h x

theorem Writes.upd {f : State → State} {q : ∀ s, Quiet s (f s)} {P : Nat → Prop} : Writes (Act.upd f q) P :=
  ⟨fun s a _ => State.reg_upd f q s a⟩

theorem Writes.setReg {a : Nat} {v : Word} {P : Nat → Prop} (h : P a) : Writes (Act.setReg a v) P := by
  constructor
  intro s b hb
  rw [Act.setReg_run, State.reg_storeReg]
  exact if_neg (fun e : b = a => hb (e ▸ h))

theorem Writes.free {k : Nat → Act} {P : Nat → Prop} (h : ∀ c, Writes (k c) P) : Writes (Act.free k) P :=
  ⟨fun s a ha => (h s.freeCount).same (bumpFree s) a ha⟩

theorem Writes.setTbl {a : Nat} {v : Word} {P : Nat → Prop} : Writes (Act.setTbl a v) P := ⟨fun _ _ _ => rfl⟩

theorem Writes.dropTbls {q : Nat → Bool} {P : Nat → Prop} : Writes (Act.dropTbls q) P := ⟨fun _ _ _ => rfl⟩

theorem Writes.setFlash {a : Nat} {v : Byte} {P : Nat → Prop} : Writes (Act.setFlash a v) P := ⟨fun _ _ _ => rfl⟩

theorem Writes.eraseFlash {q : Nat → Bool} {P : Nat → Prop} : Writes (Act.eraseFlash q) P := ⟨fun _ _ _ => rfl⟩

theorem Writes.setMem {a : Nat} {v : Byte} {P : Nat → Prop} : Writes (Act.setMem a v) P := ⟨fun _ _ _ => rfl⟩

theorem Writes.dropMem {P : Nat → Prop} : Writes (Act.dropMem) P := ⟨fun _ _ _ => rfl⟩

theorem Writes.blowEpochInit {P : Nat → Prop} : Writes (Act.blowEpochInit) P := ⟨fun _ _ _ => rfl⟩

theorem Writes.blowProvDone {P : Nat → Prop} : Writes (Act.blowProvDone) P := ⟨fun _ _ _ => rfl⟩

theorem Writes.destroyShares {P : Nat → Prop} : Writes (Act.destroyShares) P := ⟨fun _ _ _ => rfl⟩

end Sys2Proof.Machine
end

