-- ==== Sys2Proof/Laws/Writes/Group1.lean ====
section
/-! SUPPORT. Which registers the operations of Act, Store, Ops, Facet, PartNets, Sample, Pool, Shape may write. -/

set_option linter.unusedTactic false
set_option linter.unreachableTactic false

namespace Sys2Proof.Machine

/-! ## Act -/

theorem writes_Act_freeBelow {n : Nat} {k : Nat → Act} {P : Nat → Prop} (hk_k : ∀ x0, Writes (k x0) P) : Writes (Act.freeBelow n k) P := by
  unfold Act.freeBelow
  try dsimp only
  repeat' (with_reducible first | exact hk_k _ | apply Writes.free | intro _ | dsimp only)

theorem writes_Act_freeBytes {n : Nat} {k : List Byte → Act} {P : Nat → Prop} (hk_k : ∀ x0, Writes (k x0) P) : Writes (Act.freeBytes n k) P := by
  unfold Act.freeBytes
  try dsimp only
  repeat' (with_reducible first | exact hk_k _ | apply Writes.free | apply Writes.all_map | intro _ | dsimp only)

theorem writes_Act_emit {o : Out} {P : Nat → Prop} : Writes (Act.emit o) P := by
  unfold Act.emit
  try dsimp only
  repeat' (with_reducible first | apply Writes.upd | intro _ | dsimp only)

/-! ## Store -/

theorem writes_Act_setBuf {k : Nat} {v : List RxFrame} {P : Nat → Prop} : Writes (Act.setBuf k v) P := by
  unfold Act.setBuf
  try dsimp only
  repeat' (with_reducible first | apply Writes.upd | intro _ | dsimp only)

theorem writes_Act_modBuf {k : Nat} {f : List RxFrame → List RxFrame} {P : Nat → Prop} : Writes (Act.modBuf k f) P := by
  unfold Act.modBuf
  try dsimp only
  repeat' (with_reducible first | apply writes_Act_setBuf | apply Writes.get | intro _ | dsimp only)

theorem writes_Act_setAdm {k : Nat} {v : List Admitted} {P : Nat → Prop} : Writes (Act.setAdm k v) P := by
  unfold Act.setAdm
  try dsimp only
  repeat' (with_reducible first | apply Writes.upd | intro _ | dsimp only)

theorem writes_Act_modAdm {k : Nat} {f : List Admitted → List Admitted} {P : Nat → Prop} : Writes (Act.modAdm k f) P := by
  unfold Act.modAdm
  try dsimp only
  repeat' (with_reducible first | apply writes_Act_setAdm | apply Writes.get | intro _ | dsimp only)

theorem writes_Act_setHold {k : Nat} {v : Hold} {P : Nat → Prop} : Writes (Act.setHold k v) P := by
  unfold Act.setHold
  try dsimp only
  repeat' (with_reducible first | apply Writes.upd | intro _ | dsimp only)

theorem writes_Act_modHold {k : Nat} {f : Hold → Hold} {P : Nat → Prop} : Writes (Act.modHold k f) P := by
  unfold Act.modHold
  try dsimp only
  repeat' (with_reducible first | apply writes_Act_setHold | apply Writes.get | intro _ | dsimp only)

theorem writes_Act_setQueue {k : Nat} {v : Queue} {P : Nat → Prop} : Writes (Act.setQueue k v) P := by
  unfold Act.setQueue
  try dsimp only
  repeat' (with_reducible first | apply Writes.upd | intro _ | dsimp only)

theorem writes_Act_modQueue {k : Nat} {f : Queue → Queue} {P : Nat → Prop} : Writes (Act.modQueue k f) P := by
  unfold Act.modQueue
  try dsimp only
  repeat' (with_reducible first | apply writes_Act_setQueue | apply Writes.get | intro _ | dsimp only)

theorem writes_Act_setPort {k : Nat} {v : Port} {P : Nat → Prop} : Writes (Act.setPort k v) P := by
  unfold Act.setPort
  try dsimp only
  repeat' (with_reducible first | apply Writes.upd | intro _ | dsimp only)

theorem writes_Act_modPort {k : Nat} {f : Port → Port} {P : Nat → Prop} : Writes (Act.modPort k f) P := by
  unfold Act.modPort
  try dsimp only
  repeat' (with_reducible first | apply writes_Act_setPort | apply Writes.get | intro _ | dsimp only)

theorem writes_Act_setRobin {k : Nat} {v : Robin} {P : Nat → Prop} : Writes (Act.setRobin k v) P := by
  unfold Act.setRobin
  try dsimp only
  repeat' (with_reducible first | apply Writes.upd | intro _ | dsimp only)

theorem writes_Act_modRobin {k : Nat} {f : Robin → Robin} {P : Nat → Prop} : Writes (Act.modRobin k f) P := by
  unfold Act.modRobin
  try dsimp only
  repeat' (with_reducible first | apply writes_Act_setRobin | apply Writes.get | intro _ | dsimp only)

theorem writes_Act_setFlush {k : Nat} {v : Option Flush} {P : Nat → Prop} : Writes (Act.setFlush k v) P := by
  unfold Act.setFlush
  try dsimp only
  repeat' (with_reducible first | apply Writes.upd | intro _ | dsimp only)

theorem writes_Act_modFlush {k : Nat} {f : Option Flush → Option Flush} {P : Nat → Prop} : Writes (Act.modFlush k f) P := by
  unfold Act.modFlush
  try dsimp only
  repeat' (with_reducible first | apply writes_Act_setFlush | apply Writes.get | intro _ | dsimp only)

theorem writes_Act_setLink {k : Nat} {v : D2dLink} {P : Nat → Prop} : Writes (Act.setLink k v) P := by
  unfold Act.setLink
  try dsimp only
  repeat' (with_reducible first | apply Writes.upd | intro _ | dsimp only)

theorem writes_Act_modLink {k : Nat} {f : D2dLink → D2dLink} {P : Nat → Prop} : Writes (Act.modLink k f) P := by
  unfold Act.modLink
  try dsimp only
  repeat' (with_reducible first | apply writes_Act_setLink | apply Writes.get | intro _ | dsimp only)

theorem writes_Act_setLow {k : Nat} {v : Bool} {P : Nat → Prop} : Writes (Act.setLow k v) P := by
  unfold Act.setLow
  try dsimp only
  repeat' (with_reducible first | apply Writes.upd | intro _ | dsimp only)

theorem writes_Act_modLow {k : Nat} {f : Bool → Bool} {P : Nat → Prop} : Writes (Act.modLow k f) P := by
  unfold Act.modLow
  try dsimp only
  repeat' (with_reducible first | apply writes_Act_setLow | apply Writes.get | intro _ | dsimp only)

theorem writes_Act_setPaceNow {k : Nat} {v : Nat} {P : Nat → Prop} : Writes (Act.setPaceNow k v) P := by
  unfold Act.setPaceNow
  try dsimp only
  repeat' (with_reducible first | apply Writes.upd | intro _ | dsimp only)

theorem writes_Act_modPaceNow {k : Nat} {f : Nat → Nat} {P : Nat → Prop} : Writes (Act.modPaceNow k f) P := by
  unfold Act.modPaceNow
  try dsimp only
  repeat' (with_reducible first | apply writes_Act_setPaceNow | apply Writes.get | intro _ | dsimp only)

theorem writes_Act_setRate {k : Nat} {v : Nat × Nat × Nat × Nat} {P : Nat → Prop} : Writes (Act.setRate k v) P := by
  unfold Act.setRate
  try dsimp only
  repeat' (with_reducible first | apply Writes.upd | intro _ | dsimp only)

theorem writes_Act_modRate {k : Nat} {f : Nat × Nat × Nat × Nat → Nat × Nat × Nat × Nat} {P : Nat → Prop} : Writes (Act.modRate k f) P := by
  unfold Act.modRate
  try dsimp only
  repeat' (with_reducible first | apply writes_Act_setRate | apply Writes.get | intro _ | dsimp only)

theorem writes_Act_setFlood {k : Nat} {v : Bucket} {P : Nat → Prop} : Writes (Act.setFlood k v) P := by
  unfold Act.setFlood
  try dsimp only
  repeat' (with_reducible first | apply Writes.upd | intro _ | dsimp only)

theorem writes_Act_modFlood {k : Nat} {f : Bucket → Bucket} {P : Nat → Prop} : Writes (Act.modFlood k f) P := by
  unfold Act.modFlood
  try dsimp only
  repeat' (with_reducible first | apply writes_Act_setFlood | apply Writes.get | intro _ | dsimp only)

theorem writes_Act_setMtrC {k : Nat} {v : Bucket} {P : Nat → Prop} : Writes (Act.setMtrC k v) P := by
  unfold Act.setMtrC
  try dsimp only
  repeat' (with_reducible first | apply Writes.upd | intro _ | dsimp only)

theorem writes_Act_modMtrC {k : Nat} {f : Bucket → Bucket} {P : Nat → Prop} : Writes (Act.modMtrC k f) P := by
  unfold Act.modMtrC
  try dsimp only
  repeat' (with_reducible first | apply writes_Act_setMtrC | apply Writes.get | intro _ | dsimp only)

theorem writes_Act_setMtrE {k : Nat} {v : Bucket} {P : Nat → Prop} : Writes (Act.setMtrE k v) P := by
  unfold Act.setMtrE
  try dsimp only
  repeat' (with_reducible first | apply Writes.upd | intro _ | dsimp only)

theorem writes_Act_modMtrE {k : Nat} {f : Bucket → Bucket} {P : Nat → Prop} : Writes (Act.modMtrE k f) P := by
  unfold Act.modMtrE
  try dsimp only
  repeat' (with_reducible first | apply writes_Act_setMtrE | apply Writes.get | intro _ | dsimp only)

theorem writes_Act_setShaper {k : Nat} {v : Shaper} {P : Nat → Prop} : Writes (Act.setShaper k v) P := by
  unfold Act.setShaper
  try dsimp only
  repeat' (with_reducible first | apply Writes.upd | intro _ | dsimp only)

theorem writes_Act_modShaper {k : Nat} {f : Shaper → Shaper} {P : Nat → Prop} : Writes (Act.modShaper k f) P := by
  unfold Act.modShaper
  try dsimp only
  repeat' (with_reducible first | apply writes_Act_setShaper | apply Writes.get | intro _ | dsimp only)

theorem writes_Act_setGate {k : Nat} {v : Gates} {P : Nat → Prop} : Writes (Act.setGate k v) P := by
  unfold Act.setGate
  try dsimp only
  repeat' (with_reducible first | apply Writes.upd | intro _ | dsimp only)

theorem writes_Act_modGate {k : Nat} {f : Gates → Gates} {P : Nat → Prop} : Writes (Act.modGate k f) P := by
  unfold Act.modGate
  try dsimp only
  repeat' (with_reducible first | apply writes_Act_setGate | apply Writes.get | intro _ | dsimp only)

theorem writes_Act_setRcv {k : Nat} {v : Recovery} {P : Nat → Prop} : Writes (Act.setRcv k v) P := by
  unfold Act.setRcv
  try dsimp only
  repeat' (with_reducible first | apply Writes.upd | intro _ | dsimp only)

theorem writes_Act_modRcv {k : Nat} {f : Recovery → Recovery} {P : Nat → Prop} : Writes (Act.modRcv k f) P := by
  unfold Act.modRcv
  try dsimp only
  repeat' (with_reducible first | apply writes_Act_setRcv | apply Writes.get | intro _ | dsimp only)

theorem writes_Act_setLockedAt {k : Nat} {v : Nat} {P : Nat → Prop} : Writes (Act.setLockedAt k v) P := by
  unfold Act.setLockedAt
  try dsimp only
  repeat' (with_reducible first | apply Writes.upd | intro _ | dsimp only)

theorem writes_Act_modLockedAt {k : Nat} {f : Nat → Nat} {P : Nat → Prop} : Writes (Act.modLockedAt k f) P := by
  unfold Act.modLockedAt
  try dsimp only
  repeat' (with_reducible first | apply writes_Act_setLockedAt | apply Writes.get | intro _ | dsimp only)

theorem writes_Act_setEth {k : Nat} {v : EthFacet} {P : Nat → Prop} : Writes (Act.setEth k v) P := by
  unfold Act.setEth
  try dsimp only
  repeat' (with_reducible first | apply Writes.upd | intro _ | dsimp only)

theorem writes_Act_modEth {k : Nat} {f : EthFacet → EthFacet} {P : Nat → Prop} : Writes (Act.modEth k f) P := by
  unfold Act.modEth
  try dsimp only
  repeat' (with_reducible first | apply writes_Act_setEth | apply Writes.get | intro _ | dsimp only)

theorem writes_Act_setTim {k : Nat} {v : DieTime} {P : Nat → Prop} : Writes (Act.setTim k v) P := by
  unfold Act.setTim
  try dsimp only
  repeat' (with_reducible first | apply Writes.upd | intro _ | dsimp only)

theorem writes_Act_modTim {k : Nat} {f : DieTime → DieTime} {P : Nat → Prop} : Writes (Act.modTim k f) P := by
  unfold Act.modTim
  try dsimp only
  repeat' (with_reducible first | apply writes_Act_setTim | apply Writes.get | intro _ | dsimp only)

theorem writes_Act_setBus {k : Nat} {v : List (Nat × Nat)} {P : Nat → Prop} : Writes (Act.setBus k v) P := by
  unfold Act.setBus
  try dsimp only
  repeat' (with_reducible first | apply Writes.upd | intro _ | dsimp only)

theorem writes_Act_modBus {k : Nat} {f : List (Nat × Nat) → List (Nat × Nat)} {P : Nat → Prop} : Writes (Act.modBus k f) P := by
  unfold Act.modBus
  try dsimp only
  repeat' (with_reducible first | apply writes_Act_setBus | apply Writes.get | intro _ | dsimp only)

theorem writes_Act_setDie {k : Nat} {v : Nat} {P : Nat → Prop} : Writes (Act.setDie k v) P := by
  unfold Act.setDie
  try dsimp only
  repeat' (with_reducible first | apply Writes.upd | intro _ | dsimp only)

theorem writes_Act_modDie {k : Nat} {f : Nat → Nat} {P : Nat → Prop} : Writes (Act.modDie k f) P := by
  unfold Act.modDie
  try dsimp only
  repeat' (with_reducible first | apply writes_Act_setDie | apply Writes.get | intro _ | dsimp only)

theorem writes_Act_setFidNo {k : Nat} {v : Nat} {P : Nat → Prop} : Writes (Act.setFidNo k v) P := by
  unfold Act.setFidNo
  try dsimp only
  repeat' (with_reducible first | apply Writes.upd | intro _ | dsimp only)

theorem writes_Act_modFidNo {k : Nat} {f : Nat → Nat} {P : Nat → Prop} : Writes (Act.modFidNo k f) P := by
  unfold Act.modFidNo
  try dsimp only
  repeat' (with_reducible first | apply writes_Act_setFidNo | apply Writes.get | intro _ | dsimp only)

theorem writes_Act_setRecorder {k : Nat} {v : Recorder} {P : Nat → Prop} : Writes (Act.setRecorder k v) P := by
  unfold Act.setRecorder
  try dsimp only
  repeat' (with_reducible first | apply Writes.upd | intro _ | dsimp only)

theorem writes_Act_modRecorder {k : Nat} {f : Recorder → Recorder} {P : Nat → Prop} : Writes (Act.modRecorder k f) P := by
  unfold Act.modRecorder
  try dsimp only
  repeat' (with_reducible first | apply writes_Act_setRecorder | apply Writes.get | intro _ | dsimp only)

theorem writes_Act_setRecLost {k : Nat} {v : Nat} {P : Nat → Prop} : Writes (Act.setRecLost k v) P := by
  unfold Act.setRecLost
  try dsimp only
  repeat' (with_reducible first | apply Writes.upd | intro _ | dsimp only)

theorem writes_Act_modRecLost {k : Nat} {f : Nat → Nat} {P : Nat → Prop} : Writes (Act.modRecLost k f) P := by
  unfold Act.modRecLost
  try dsimp only
  repeat' (with_reducible first | apply writes_Act_setRecLost | apply Writes.get | intro _ | dsimp only)

theorem writes_Act_setKslot {k : Nat} {v : KeySlot} {P : Nat → Prop} : Writes (Act.setKslot k v) P := by
  unfold Act.setKslot
  try dsimp only
  repeat' (with_reducible first | apply Writes.upd | intro _ | dsimp only)

theorem writes_Act_modKslot {k : Nat} {f : KeySlot → KeySlot} {P : Nat → Prop} : Writes (Act.modKslot k f) P := by
  unfold Act.modKslot
  try dsimp only
  repeat' (with_reducible first | apply writes_Act_setKslot | apply Writes.get | intro _ | dsimp only)

theorem writes_Act_setKstore {k : Nat} {v : KeyStore} {P : Nat → Prop} : Writes (Act.setKstore k v) P := by
  unfold Act.setKstore
  try dsimp only
  repeat' (with_reducible first | apply Writes.upd | intro _ | dsimp only)

theorem writes_Act_modKstore {k : Nat} {f : KeyStore → KeyStore} {P : Nat → Prop} : Writes (Act.modKstore k f) P := by
  unfold Act.modKstore
  try dsimp only
  repeat' (with_reducible first | apply writes_Act_setKstore | apply Writes.get | intro _ | dsimp only)

theorem writes_Act_setFresh {k : Nat} {v : Fresh} {P : Nat → Prop} : Writes (Act.setFresh k v) P := by
  unfold Act.setFresh
  try dsimp only
  repeat' (with_reducible first | apply Writes.upd | intro _ | dsimp only)

theorem writes_Act_modFresh {k : Nat} {f : Fresh → Fresh} {P : Nat → Prop} : Writes (Act.modFresh k f) P := by
  unfold Act.modFresh
  try dsimp only
  repeat' (with_reducible first | apply writes_Act_setFresh | apply Writes.get | intro _ | dsimp only)

theorem writes_Act_setJob {k : Nat} {v : Option CipherJob} {P : Nat → Prop} : Writes (Act.setJob k v) P := by
  unfold Act.setJob
  try dsimp only
  repeat' (with_reducible first | apply Writes.upd | intro _ | dsimp only)

theorem writes_Act_modJob {k : Nat} {f : Option CipherJob → Option CipherJob} {P : Nat → Prop} : Writes (Act.modJob k f) P := by
  unfold Act.modJob
  try dsimp only
  repeat' (with_reducible first | apply writes_Act_setJob | apply Writes.get | intro _ | dsimp only)

theorem writes_Act_setLpmSeq {k : Nat} {v : Nat} {P : Nat → Prop} : Writes (Act.setLpmSeq k v) P := by
  unfold Act.setLpmSeq
  try dsimp only
  repeat' (with_reducible first | apply Writes.upd | intro _ | dsimp only)

theorem writes_Act_modLpmSeq {k : Nat} {f : Nat → Nat} {P : Nat → Prop} : Writes (Act.modLpmSeq k f) P := by
  unfold Act.modLpmSeq
  try dsimp only
  repeat' (with_reducible first | apply writes_Act_setLpmSeq | apply Writes.get | intro _ | dsimp only)

theorem writes_Act_setTjob {k : Nat} {v : Option TdmaJob} {P : Nat → Prop} : Writes (Act.setTjob k v) P := by
  unfold Act.setTjob
  try dsimp only
  repeat' (with_reducible first | apply Writes.upd | intro _ | dsimp only)

theorem writes_Act_modTjob {k : Nat} {f : Option TdmaJob → Option TdmaJob} {P : Nat → Prop} : Writes (Act.modTjob k f) P := by
  unfold Act.modTjob
  try dsimp only
  repeat' (with_reducible first | apply writes_Act_setTjob | apply Writes.get | intro _ | dsimp only)

theorem writes_Act_setCan {k : Nat} {v : CanCtl} {P : Nat → Prop} : Writes (Act.setCan k v) P := by
  unfold Act.setCan
  try dsimp only
  repeat' (with_reducible first | apply Writes.upd | intro _ | dsimp only)

theorem writes_Act_modCan {k : Nat} {f : CanCtl → CanCtl} {P : Nat → Prop} : Writes (Act.modCan k f) P := by
  unfold Act.modCan
  try dsimp only
  repeat' (with_reducible first | apply writes_Act_setCan | apply Writes.get | intro _ | dsimp only)

theorem writes_Act_setTrk {k : Nat} {v : Option (Nat × Nat)} {P : Nat → Prop} : Writes (Act.setTrk k v) P := by
  unfold Act.setTrk
  try dsimp only
  repeat' (with_reducible first | apply Writes.upd | intro _ | dsimp only)

theorem writes_Act_modTrk {k : Nat} {f : Option (Nat × Nat) → Option (Nat × Nat)} {P : Nat → Prop} : Writes (Act.modTrk k f) P := by
  unfold Act.modTrk
  try dsimp only
  repeat' (with_reducible first | apply writes_Act_setTrk | apply Writes.get | intro _ | dsimp only)

theorem writes_Act_setLin {k : Nat} {v : LinCtl} {P : Nat → Prop} : Writes (Act.setLin k v) P := by
  unfold Act.setLin
  try dsimp only
  repeat' (with_reducible first | apply Writes.upd | intro _ | dsimp only)

theorem writes_Act_modLin {k : Nat} {f : LinCtl → LinCtl} {P : Nat → Prop} : Writes (Act.modLin k f) P := by
  unfold Act.modLin
  try dsimp only
  repeat' (with_reducible first | apply writes_Act_setLin | apply Writes.get | intro _ | dsimp only)

theorem writes_Act_setPub {k : Nat} {v : Nat × Bool} {P : Nat → Prop} : Writes (Act.setPub k v) P := by
  unfold Act.setPub
  try dsimp only
  repeat' (with_reducible first | apply Writes.upd | intro _ | dsimp only)

theorem writes_Act_modPub {k : Nat} {f : Nat × Bool → Nat × Bool} {P : Nat → Prop} : Writes (Act.modPub k f) P := by
  unfold Act.modPub
  try dsimp only
  repeat' (with_reducible first | apply writes_Act_setPub | apply Writes.get | intro _ | dsimp only)

theorem writes_Act_setXcvr {k : Nat} {v : Xcvr} {P : Nat → Prop} : Writes (Act.setXcvr k v) P := by
  unfold Act.setXcvr
  try dsimp only
  repeat' (with_reducible first | apply Writes.upd | intro _ | dsimp only)

theorem writes_Act_modXcvr {k : Nat} {f : Xcvr → Xcvr} {P : Nat → Prop} : Writes (Act.modXcvr k f) P := by
  unfold Act.modXcvr
  try dsimp only
  repeat' (with_reducible first | apply writes_Act_setXcvr | apply Writes.get | intro _ | dsimp only)

theorem writes_Act_setLinOver {k : Nat} {v : Bool} {P : Nat → Prop} : Writes (Act.setLinOver k v) P := by
  unfold Act.setLinOver
  try dsimp only
  repeat' (with_reducible first | apply Writes.upd | intro _ | dsimp only)

theorem writes_Act_modLinOver {k : Nat} {f : Bool → Bool} {P : Nat → Prop} : Writes (Act.modLinOver k f) P := by
  unfold Act.modLinOver
  try dsimp only
  repeat' (with_reducible first | apply writes_Act_setLinOver | apply Writes.get | intro _ | dsimp only)

theorem writes_Act_setSig {k : Nat} {v : Nat × Nat} {P : Nat → Prop} : Writes (Act.setSig k v) P := by
  unfold Act.setSig
  try dsimp only
  repeat' (with_reducible first | apply Writes.upd | intro _ | dsimp only)

theorem writes_Act_modSig {k : Nat} {f : Nat × Nat → Nat × Nat} {P : Nat → Prop} : Writes (Act.modSig k f) P := by
  unfold Act.modSig
  try dsimp only
  repeat' (with_reducible first | apply writes_Act_setSig | apply Writes.get | intro _ | dsimp only)

theorem writes_Act_setPdu {k : Nat} {v : PduRun} {P : Nat → Prop} : Writes (Act.setPdu k v) P := by
  unfold Act.setPdu
  try dsimp only
  repeat' (with_reducible first | apply Writes.upd | intro _ | dsimp only)

theorem writes_Act_modPdu {k : Nat} {f : PduRun → PduRun} {P : Nat → Prop} : Writes (Act.modPdu k f) P := by
  unfold Act.modPdu
  try dsimp only
  repeat' (with_reducible first | apply writes_Act_setPdu | apply Writes.get | intro _ | dsimp only)

theorem writes_Act_setCad {k : Nat} {v : Option Nat} {P : Nat → Prop} : Writes (Act.setCad k v) P := by
  unfold Act.setCad
  try dsimp only
  repeat' (with_reducible first | apply Writes.upd | intro _ | dsimp only)

theorem writes_Act_modCad {k : Nat} {f : Option Nat → Option Nat} {P : Nat → Prop} : Writes (Act.modCad k f) P := by
  unfold Act.modCad
  try dsimp only
  repeat' (with_reducible first | apply writes_Act_setCad | apply Writes.get | intro _ | dsimp only)

theorem writes_Act_setTun {k : Nat} {v : Tunnel} {P : Nat → Prop} : Writes (Act.setTun k v) P := by
  unfold Act.setTun
  try dsimp only
  repeat' (with_reducible first | apply Writes.upd | intro _ | dsimp only)

theorem writes_Act_modTun {k : Nat} {f : Tunnel → Tunnel} {P : Nat → Prop} : Writes (Act.modTun k f) P := by
  unfold Act.modTun
  try dsimp only
  repeat' (with_reducible first | apply writes_Act_setTun | apply Writes.get | intro _ | dsimp only)

theorem writes_Act_setSess {k : Nat} {v : List Session} {P : Nat → Prop} : Writes (Act.setSess k v) P := by
  unfold Act.setSess
  try dsimp only
  repeat' (with_reducible first | apply Writes.upd | intro _ | dsimp only)

theorem writes_Act_modSess {k : Nat} {f : List Session → List Session} {P : Nat → Prop} : Writes (Act.modSess k f) P := by
  unfold Act.modSess
  try dsimp only
  repeat' (with_reducible first | apply writes_Act_setSess | apply Writes.get | intro _ | dsimp only)

theorem writes_Act_setByp {k : Nat} {v : List Bypass} {P : Nat → Prop} : Writes (Act.setByp k v) P := by
  unfold Act.setByp
  try dsimp only
  repeat' (with_reducible first | apply Writes.upd | intro _ | dsimp only)

theorem writes_Act_modByp {k : Nat} {f : List Bypass → List Bypass} {P : Nat → Prop} : Writes (Act.modByp k f) P := by
  unfold Act.modByp
  try dsimp only
  repeat' (with_reducible first | apply writes_Act_setByp | apply Writes.get | intro _ | dsimp only)

theorem writes_Act_setWpend {k : Nat} {v : List WinPend} {P : Nat → Prop} : Writes (Act.setWpend k v) P := by
  unfold Act.setWpend
  try dsimp only
  repeat' (with_reducible first | apply Writes.upd | intro _ | dsimp only)

theorem writes_Act_modWpend {k : Nat} {f : List WinPend → List WinPend} {P : Nat → Prop} : Writes (Act.modWpend k f) P := by
  unfold Act.modWpend
  try dsimp only
  repeat' (with_reducible first | apply writes_Act_setWpend | apply Writes.get | intro _ | dsimp only)

theorem writes_Act_setWpost {k : Nat} {v : List WinPost} {P : Nat → Prop} : Writes (Act.setWpost k v) P := by
  unfold Act.setWpost
  try dsimp only
  repeat' (with_reducible first | apply Writes.upd | intro _ | dsimp only)

theorem writes_Act_modWpost {k : Nat} {f : List WinPost → List WinPost} {P : Nat → Prop} : Writes (Act.modWpost k f) P := by
  unfold Act.modWpost
  try dsimp only
  repeat' (with_reducible first | apply writes_Act_setWpost | apply Writes.get | intro _ | dsimp only)

theorem writes_Act_setMember {k : Nat} {v : Option Member} {P : Nat → Prop} : Writes (Act.setMember k v) P := by
  unfold Act.setMember
  try dsimp only
  repeat' (with_reducible first | apply Writes.upd | intro _ | dsimp only)

theorem writes_Act_modMember {k : Nat} {f : Option Member → Option Member} {P : Nat → Prop} : Writes (Act.modMember k f) P := by
  unfold Act.modMember
  try dsimp only
  repeat' (with_reducible first | apply writes_Act_setMember | apply Writes.get | intro _ | dsimp only)

theorem writes_Act_setCens {k : Nat} {v : Option (Nat × Nat)} {P : Nat → Prop} : Writes (Act.setCens k v) P := by
  unfold Act.setCens
  try dsimp only
  repeat' (with_reducible first | apply Writes.upd | intro _ | dsimp only)

theorem writes_Act_modCens {k : Nat} {f : Option (Nat × Nat) → Option (Nat × Nat)} {P : Nat → Prop} : Writes (Act.modCens k f) P := by
  unfold Act.modCens
  try dsimp only
  repeat' (with_reducible first | apply writes_Act_setCens | apply Writes.get | intro _ | dsimp only)

theorem writes_Act_setChan {k : Nat} {v : Channel} {P : Nat → Prop} : Writes (Act.setChan k v) P := by
  unfold Act.setChan
  try dsimp only
  repeat' (with_reducible first | apply Writes.upd | intro _ | dsimp only)

theorem writes_Act_modChan {k : Nat} {f : Channel → Channel} {P : Nat → Prop} : Writes (Act.modChan k f) P := by
  unfold Act.modChan
  try dsimp only
  repeat' (with_reducible first | apply writes_Act_setChan | apply Writes.get | intro _ | dsimp only)

theorem writes_Act_setDrv {k : Nat} {v : DriveDie} {P : Nat → Prop} : Writes (Act.setDrv k v) P := by
  unfold Act.setDrv
  try dsimp only
  repeat' (with_reducible first | apply Writes.upd | intro _ | dsimp only)

theorem writes_Act_modDrv {k : Nat} {f : DriveDie → DriveDie} {P : Nat → Prop} : Writes (Act.modDrv k f) P := by
  unfold Act.modDrv
  try dsimp only
  repeat' (with_reducible first | apply writes_Act_setDrv | apply Writes.get | intro _ | dsimp only)

theorem writes_Act_setPnet {k : Nat} {v : PartNet} {P : Nat → Prop} : Writes (Act.setPnet k v) P := by
  unfold Act.setPnet
  try dsimp only
  repeat' (with_reducible first | apply Writes.upd | intro _ | dsimp only)

theorem writes_Act_modPnet {k : Nat} {f : PartNet → PartNet} {P : Nat → Prop} : Writes (Act.modPnet k f) P := by
  unfold Act.modPnet
  try dsimp only
  repeat' (with_reducible first | apply writes_Act_setPnet | apply Writes.get | intro _ | dsimp only)

theorem writes_Act_setPart {k : Nat} {v : Partition} {P : Nat → Prop} : Writes (Act.setPart k v) P := by
  unfold Act.setPart
  try dsimp only
  repeat' (with_reducible first | apply Writes.upd | intro _ | dsimp only)

theorem writes_Act_modPart {k : Nat} {f : Partition → Partition} {P : Nat → Prop} : Writes (Act.modPart k f) P := by
  unfold Act.modPart
  try dsimp only
  repeat' (with_reducible first | apply writes_Act_setPart | apply Writes.get | intro _ | dsimp only)

theorem writes_Act_setSafePair {k : Nat} {v : SafePair} {P : Nat → Prop} : Writes (Act.setSafePair k v) P := by
  unfold Act.setSafePair
  try dsimp only
  repeat' (with_reducible first | apply Writes.upd | intro _ | dsimp only)

theorem writes_Act_modSafePair {k : Nat} {f : SafePair → SafePair} {P : Nat → Prop} : Writes (Act.modSafePair k f) P := by
  unfold Act.modSafePair
  try dsimp only
  repeat' (with_reducible first | apply writes_Act_setSafePair | apply Writes.get | intro _ | dsimp only)

theorem writes_Act_setSlotOf {k : Nat} {v : Nat} {P : Nat → Prop} : Writes (Act.setSlotOf k v) P := by
  unfold Act.setSlotOf
  try dsimp only
  repeat' (with_reducible first | apply Writes.upd | intro _ | dsimp only)

theorem writes_Act_modSlotOf {k : Nat} {f : Nat → Nat} {P : Nat → Prop} : Writes (Act.modSlotOf k f) P := by
  unfold Act.modSlotOf
  try dsimp only
  repeat' (with_reducible first | apply writes_Act_setSlotOf | apply Writes.get | intro _ | dsimp only)

theorem writes_Act_setRing {k : Nat} {v : TxRing} {P : Nat → Prop} : Writes (Act.setRing k v) P := by
  unfold Act.setRing
  try dsimp only
  repeat' (with_reducible first | apply Writes.upd | intro _ | dsimp only)

theorem writes_Act_modRing {k : Nat} {f : TxRing → TxRing} {P : Nat → Prop} : Writes (Act.modRing k f) P := by
  unfold Act.modRing
  try dsimp only
  repeat' (with_reducible first | apply writes_Act_setRing | apply Writes.get | intro _ | dsimp only)

theorem writes_Act_setAprLevel {k : Nat} {v : Option (Int × Nat)} {P : Nat → Prop} : Writes (Act.setAprLevel k v) P := by
  unfold Act.setAprLevel
  try dsimp only
  repeat' (with_reducible first | apply Writes.upd | intro _ | dsimp only)

theorem writes_Act_modAprLevel {k : Nat} {f : Option (Int × Nat) → Option (Int × Nat)} {P : Nat → Prop} : Writes (Act.modAprLevel k f) P := by
  unfold Act.modAprLevel
  try dsimp only
  repeat' (with_reducible first | apply writes_Act_setAprLevel | apply Writes.get | intro _ | dsimp only)

theorem writes_Act_setAprAt {k : Nat} {v : Nat} {P : Nat → Prop} : Writes (Act.setAprAt k v) P := by
  unfold Act.setAprAt
  try dsimp only
  repeat' (with_reducible first | apply Writes.upd | intro _ | dsimp only)

theorem writes_Act_modAprAt {k : Nat} {f : Nat → Nat} {P : Nat → Prop} : Writes (Act.modAprAt k f) P := by
  unfold Act.modAprAt
  try dsimp only
  repeat' (with_reducible first | apply writes_Act_setAprAt | apply Writes.get | intro _ | dsimp only)

theorem writes_Act_setServedRing {k : Nat} {v : Nat} {P : Nat → Prop} : Writes (Act.setServedRing k v) P := by
  unfold Act.setServedRing
  try dsimp only
  repeat' (with_reducible first | apply Writes.upd | intro _ | dsimp only)

theorem writes_Act_modServedRing {k : Nat} {f : Nat → Nat} {P : Nat → Prop} : Writes (Act.modServedRing k f) P := by
  unfold Act.modServedRing
  try dsimp only
  repeat' (with_reducible first | apply writes_Act_setServedRing | apply Writes.get | intro _ | dsimp only)

theorem writes_Act_setMtr {k : Nat} {v : Monitor} {P : Nat → Prop} : Writes (Act.setMtr k v) P := by
  unfold Act.setMtr
  try dsimp only
  repeat' (with_reducible first | apply Writes.upd | intro _ | dsimp only)

theorem writes_Act_modMtr {k : Nat} {f : Monitor → Monitor} {P : Nat → Prop} : Writes (Act.modMtr k f) P := by
  unfold Act.modMtr
  try dsimp only
  repeat' (with_reducible first | apply writes_Act_setMtr | apply Writes.get | intro _ | dsimp only)

theorem writes_Act_setFabOff {k : Nat} {v : Nat} {P : Nat → Prop} : Writes (Act.setFabOff k v) P := by
  unfold Act.setFabOff
  try dsimp only
  repeat' (with_reducible first | apply Writes.upd | intro _ | dsimp only)

theorem writes_Act_modFabOff {k : Nat} {f : Nat → Nat} {P : Nat → Prop} : Writes (Act.modFabOff k f) P := by
  unfold Act.modFabOff
  try dsimp only
  repeat' (with_reducible first | apply writes_Act_setFabOff | apply Writes.get | intro _ | dsimp only)

theorem writes_Act_setTurn {k : Nat} {v : Nat} {P : Nat → Prop} : Writes (Act.setTurn k v) P := by
  unfold Act.setTurn
  try dsimp only
  repeat' (with_reducible first | apply Writes.upd | intro _ | dsimp only)

theorem writes_Act_modTurn {k : Nat} {f : Nat → Nat} {P : Nat → Prop} : Writes (Act.modTurn k f) P := by
  unfold Act.modTurn
  try dsimp only
  repeat' (with_reducible first | apply writes_Act_setTurn | apply Writes.get | intro _ | dsimp only)

theorem writes_Act_setTurnNow {k : Nat} {v : Nat} {P : Nat → Prop} : Writes (Act.setTurnNow k v) P := by
  unfold Act.setTurnNow
  try dsimp only
  repeat' (with_reducible first | apply Writes.upd | intro _ | dsimp only)

theorem writes_Act_modTurnNow {k : Nat} {f : Nat → Nat} {P : Nat → Prop} : Writes (Act.modTurnNow k f) P := by
  unfold Act.modTurnNow
  try dsimp only
  repeat' (with_reducible first | apply writes_Act_setTurnNow | apply Writes.get | intro _ | dsimp only)

theorem writes_Act_setTallied {k : Nat} {v : Nat} {P : Nat → Prop} : Writes (Act.setTallied k v) P := by
  unfold Act.setTallied
  try dsimp only
  repeat' (with_reducible first | apply Writes.upd | intro _ | dsimp only)

theorem writes_Act_modTallied {k : Nat} {f : Nat → Nat} {P : Nat → Prop} : Writes (Act.modTallied k f) P := by
  unfold Act.modTallied
  try dsimp only
  repeat' (with_reducible first | apply writes_Act_setTallied | apply Writes.get | intro _ | dsimp only)

theorem writes_Act_setTally {k : Nat} {v : Nat} {P : Nat → Prop} : Writes (Act.setTally k v) P := by
  unfold Act.setTally
  try dsimp only
  repeat' (with_reducible first | apply Writes.upd | intro _ | dsimp only)

theorem writes_Act_modTally {k : Nat} {f : Nat → Nat} {P : Nat → Prop} : Writes (Act.modTally k f) P := by
  unfold Act.modTally
  try dsimp only
  repeat' (with_reducible first | apply writes_Act_setTally | apply Writes.get | intro _ | dsimp only)

theorem writes_Act_setSlotEdge {k : Nat} {v : Nat} {P : Nat → Prop} : Writes (Act.setSlotEdge k v) P := by
  unfold Act.setSlotEdge
  try dsimp only
  repeat' (with_reducible first | apply Writes.upd | intro _ | dsimp only)

theorem writes_Act_modSlotEdge {k : Nat} {f : Nat → Nat} {P : Nat → Prop} : Writes (Act.modSlotEdge k f) P := by
  unfold Act.modSlotEdge
  try dsimp only
  repeat' (with_reducible first | apply writes_Act_setSlotEdge | apply Writes.get | intro _ | dsimp only)

/-! ## Ops -/

theorem writes_Act_setFld {a : Nat} {f : Fld} {n : Nat} {P : Nat → Prop} (r_a : P a) : Writes (Act.setFld a f n) P := by
  unfold Act.setFld
  try dsimp only
  repeat' (with_reducible first | exact r_a | apply Writes.setReg | apply Writes.get | intro _ | dsimp only)
  all_goals first | exact r_a

theorem writes_Act_setFlds {a : Nat} {l : List (Fld × Nat)} {P : Nat → Prop} (r_a : P a) : Writes (Act.setFlds a l) P := by
  unfold Act.setFlds
  try dsimp only
  repeat' (with_reducible first | exact r_a | apply Writes.setReg | apply Writes.get | intro _ | dsimp only)
  all_goals first | exact r_a

theorem writes_Act_bumpFld {a : Nat} {f : Fld} {n : Nat} {P : Nat → Prop} (r_a : P a) : Writes (Act.bumpFld a f n) P := by
  unfold Act.bumpFld
  try dsimp only
  repeat' (with_reducible first | exact r_a | apply writes_Act_setFld | apply Writes.get | intro _ | dsimp only)
  all_goals first | exact r_a

theorem writes_Act_maxFld {a : Nat} {f : Fld} {n : Nat} {P : Nat → Prop} (r_a : P a) : Writes (Act.maxFld a f n) P := by
  unfold Act.maxFld
  try dsimp only
  repeat' (with_reducible first | exact r_a | apply writes_Act_setFld | apply Writes.get | intro _ | dsimp only)
  all_goals first | exact r_a

theorem writes_Act_noteEvt {a i n : Nat} {P : Nat → Prop} : Writes (Act.noteEvt a i n) P := by
  unfold Act.noteEvt
  try dsimp only
  repeat' (with_reducible first | apply Writes.upd | intro _ | dsimp only)

theorem writes_Act_event {a i : Nat} {P : Nat → Prop} (r_a : P a) : Writes (Act.event a i) P := by
  unfold Act.event
  try dsimp only
  repeat' (with_reducible first | exact r_a | apply writes_Act_noteEvt | apply Writes.setReg | apply Writes.all_cons | apply Writes.all_nil | apply Writes.get | intro _ | dsimp only)
  all_goals first | exact r_a

theorem writes_Act_clearSeq {a q : Nat} {P : Nat → Prop} (r_a : P a) : Writes (Act.clearSeq a q) P := by
  unfold Act.clearSeq
  try dsimp only
  repeat' (with_reducible first | exact r_a | apply Writes.setReg | apply Writes.get | intro _ | dsimp only)
  all_goals first | exact r_a

theorem writes_Act_irq {p : Nat} {i : Irq} {P : Nat → Prop} : Writes (Act.irq p i) P := by
  unfold Act.irq
  try dsimp only
  repeat' (with_reducible first | apply Writes.upd | intro _ | dsimp only)

theorem writes_Act_irqBlk {die blk : Nat} {P : Nat → Prop} : Writes (Act.irqBlk die blk) P := by
  unfold Act.irqBlk
  try dsimp only
  repeat' (with_reducible first | apply writes_Act_irq | apply Writes.get | intro _ | dsimp only)

theorem writes_Act_eventIrq {a i : Nat} {P : Nat → Prop} (r_a : P a) : Writes (Act.eventIrq a i) P := by
  unfold Act.eventIrq
  try dsimp only
  repeat' (with_reducible first | exact r_a | apply writes_Act_event | apply writes_Act_irqBlk | apply Writes.seq | intro _ | dsimp only)
  all_goals first | exact r_a

theorem writes_Act_passedHalf {a : Nat} {P : Nat → Prop} (r_DEV_CNT_LAST : ∀ x0, P (DEV.CNT_LAST x0)) (r_DEV_EVT : ∀ x0, P (DEV.EVT x0)) : Writes (Act.passedHalf a) P := by
  unfold Act.passedHalf
  try dsimp only
  repeat' (with_reducible first | exact r_DEV_CNT_LAST _ | exact r_DEV_EVT _ | apply writes_Act_event | apply writes_Act_irqBlk | apply Writes.setReg | apply Writes.all_cons | apply Writes.all_nil | apply Writes.get | intro _ | dsimp only)
  all_goals first | exact r_DEV_CNT_LAST _ | exact r_DEV_EVT _

theorem writes_Act_countBy {a n : Nat} {P : Nat → Prop} (r_a : P a) (r_DEV_CNT_LAST : ∀ x0, P (DEV.CNT_LAST x0)) (r_DEV_EVT : ∀ x0, P (DEV.EVT x0)) : Writes (Act.countBy a n) P := by
  unfold Act.countBy
  try dsimp only
  repeat' (with_reducible first | exact r_a | exact r_DEV_CNT_LAST _ | exact r_DEV_EVT _ | apply writes_Act_passedHalf | apply Writes.setReg | apply Writes.seq | apply Writes.get | apply Writes.when | intro _ | dsimp only)
  all_goals first | exact r_a | exact r_DEV_CNT_LAST _ | exact r_DEV_EVT _

theorem writes_Act_count {a : Nat} {P : Nat → Prop} (r_a : P a) (r_DEV_CNT_LAST : ∀ x0, P (DEV.CNT_LAST x0)) (r_DEV_EVT : ∀ x0, P (DEV.EVT x0)) : Writes (Act.count a) P := by
  unfold Act.count
  try dsimp only
  repeat' (with_reducible first | exact r_a | exact r_DEV_CNT_LAST _ | exact r_DEV_EVT _ | apply writes_Act_countBy | intro _ | dsimp only)
  all_goals first | exact r_a | exact r_DEV_CNT_LAST _ | exact r_DEV_EVT _

theorem writes_Act_blkErr {a i : Nat} {ag : Agent} {P : Nat → Prop} (r_BLK_ERR : P (BLK_ERR (aDie a) (aBlk a))) : Writes (Act.blkErr a i ag) P := by
  unfold Act.blkErr
  try dsimp only
  repeat' (with_reducible first | exact r_BLK_ERR | apply writes_Act_setFlds | apply writes_Act_event | apply Writes.all_cons | apply Writes.all_nil | intro _ | dsimp only)
  all_goals first | exact r_BLK_ERR

theorem writes_Act_setSup {d : Nat} {f : Supply → Supply} {P : Nat → Prop} : Writes (Act.setSup d f) P := by
  unfold Act.setSup
  try dsimp only
  repeat' (with_reducible first | apply Writes.upd | intro _ | dsimp only)

theorem writes_Act_setPsup {p : Nat} {f : PrismSupply → PrismSupply} {P : Nat → Prop} : Writes (Act.setPsup p f) P := by
  unfold Act.setPsup
  try dsimp only
  repeat' (with_reducible first | apply Writes.upd | intro _ | dsimp only)

theorem writes_Act_setStart {f : Start → Start} {P : Nat → Prop} : Writes (Act.setStart f) P := by
  unfold Act.setStart
  try dsimp only
  repeat' (with_reducible first | apply Writes.upd | intro _ | dsimp only)

theorem writes_Act_setTblWords {die tbl idx : Nat} {l : List Word} {P : Nat → Prop} : Writes (Act.setTblWords die tbl idx l) P := by
  unfold Act.setTblWords
  try dsimp only
  repeat' (with_reducible first | apply Writes.setTbl | apply Writes.all_cons | apply Writes.all_nil | apply Writes.all_map | intro _ | dsimp only)

theorem writes_Act_badValue {a : Nat} {ag : Agent} {k : Code → Act} {P : Nat → Prop} (r_BLK_ERR : P (BLK_ERR (aDie a) (aBlk a))) (hk_k : ∀ x0, Writes (k x0) P) : Writes (Act.badValue a ag k) P := by
  unfold Act.badValue
  try dsimp only
  repeat' (with_reducible first | exact r_BLK_ERR | exact hk_k _ | apply writes_Act_blkErr | apply Writes.seq | intro _ | dsimp only)
  all_goals first | exact r_BLK_ERR

theorem writes_Act_store {a : Nat} {v : Word} {P : Nat → Prop} (r_a : P a) : Writes (Act.store a v) P := by
  unfold Act.store
  try dsimp only
  repeat' (with_reducible first | exact r_a | apply Writes.setReg | apply Writes.get | apply Writes.skip | intro _ | split | dsimp only)
  all_goals first | exact r_a

/-! ## Facet -/

theorem writes_Act_intake {p f : Nat} {r : RxFrame} {P : Nat → Prop} : Writes (Act.intake p f r) P := by
  unfold Act.intake
  try dsimp only
  repeat' (with_reducible first | apply writes_Act_modBuf | apply writes_Act_setFidNo | apply Writes.all_cons | apply Writes.all_nil | apply Writes.get | intro _ | dsimp only)

theorem writes_Act_offer {p f : Nat} {dest : Nat} {data : List Byte} {ts : Nat} {P : Nat → Prop} : Writes (Act.offer p f dest data ts) P := by
  unfold Act.offer
  try dsimp only
  repeat' (with_reducible first | apply writes_Act_intake | intro _ | dsimp only)

/-! ## PartNets -/

theorem writes_Act_updDoze {f : Doze → Doze} {P : Nat → Prop} : Writes (Act.updDoze f) P := by
  unfold Act.updDoze
  try dsimp only
  repeat' (with_reducible first | apply Writes.upd | intro _ | dsimp only)

theorem writes_Act_pnDue {k : Nat} {c : PnCause} {P : Nat → Prop} : Writes (Act.pnDue k c) P := by
  unfold Act.pnDue
  try dsimp only
  repeat' (with_reducible first | apply writes_Act_modPnet | apply Writes.ite | intro _ | split | dsimp only)

theorem writes_Act_pnTraffic {p f : Nat} {P : Nat → Prop} : Writes (Act.pnTraffic p f) P := by
  unfold Act.pnTraffic
  try dsimp only
  repeat' (with_reducible first | apply writes_Act_pnDue | apply Writes.get | apply Writes.when | apply Writes.opt | intro _ | dsimp only)

/-! ## Sample -/

theorem writes_Act_offerMon {p src arg : Nat} {v : Int} {P : Nat → Prop} : Writes (Act.offerMon p src arg v) P := by
  unfold Act.offerMon
  try dsimp only
  repeat' (with_reducible first | apply Writes.upd | apply Writes.get | apply Writes.when | apply Writes.all_map | intro _ | dsimp only)

theorem writes_Act_tallyMon {p src arg n : Nat} {P : Nat → Prop} : Writes (Act.tallyMon p src arg n) P := by
  unfold Act.tallyMon
  try dsimp only
  repeat' (with_reducible first | apply writes_Act_modTally | apply Writes.get | apply Writes.when | intro _ | dsimp only)

theorem writes_Act_rollTallies  {P : Nat → Prop} : Writes (Act.rollTallies ) P := by
  unfold Act.rollTallies
  try dsimp only
  repeat' (with_reducible first | apply Writes.upd | intro _ | dsimp only)

/-! ## Pool -/

theorem writes_Act_spillResume {p : Nat} {P : Nat → Prop} : Writes (Act.spillResume p) P := by
  unfold Act.spillResume
  try dsimp only
  repeat' (with_reducible first | apply writes_Act_modQueue | apply Writes.get | apply Writes.each | intro _ | dsimp only)

theorem writes_Act_checkShared {p : Nat} {P : Nat → Prop} (r_QMGR_EVT : P (QMGR.EVT p)) : Writes (Act.checkShared p) P := by
  unfold Act.checkShared
  try dsimp only
  repeat' (with_reducible first | exact r_QMGR_EVT | apply writes_Act_setLow | apply writes_Act_event | apply writes_Act_spillResume | apply Writes.all_cons | apply Writes.all_nil | apply Writes.get | apply Writes.when | intro _ | dsimp only)
  all_goals first | exact r_QMGR_EVT

theorem writes_Act_dropRef {p q reason : Nat} {P : Nat → Prop} (r_QMGR_DROP_LAST : P (QMGR.DROP_LAST p)) (r_QMGR_EVT : P (QMGR.EVT p)) (r_QMGR_CNT : P (QMGR.CNT p 2)) (r_DEV_CNT_LAST : ∀ x0, P (DEV.CNT_LAST x0)) (r_DEV_EVT : ∀ x0, P (DEV.EVT x0)) (r_QMGR_LIMIT_DROPS : P (QMGR.LIMIT_DROPS p (qFacet q))) (r_QMGR_CNT_2 : P (QMGR.CNT p 3)) (r_QMGR_CNT_3 : P (QMGR.CNT p 4)) : Writes (Act.dropRef p q reason) P := by
  unfold Act.dropRef
  try dsimp only
  repeat' (with_reducible first | exact r_QMGR_DROP_LAST | exact r_QMGR_EVT | exact r_QMGR_CNT | exact r_DEV_CNT_LAST _ | exact r_DEV_EVT _ | exact r_QMGR_LIMIT_DROPS | exact r_QMGR_CNT_2 | exact r_QMGR_CNT_3 | apply writes_Act_setFlds | apply writes_Act_event | apply writes_Act_count | apply writes_Act_pnTraffic | apply Writes.all_cons | apply Writes.all_nil | intro _ | split | dsimp only)
  all_goals first | exact r_QMGR_DROP_LAST | exact r_QMGR_EVT | exact r_QMGR_CNT | exact r_DEV_CNT_LAST _ | exact r_DEV_EVT _ | exact r_QMGR_LIMIT_DROPS | exact r_QMGR_CNT_2 | exact r_QMGR_CNT_3

theorem writes_Act_offerDepth {p q : Nat} {P : Nat → Prop} : Writes (Act.offerDepth p q) P := by
  unfold Act.offerDepth
  try dsimp only
  repeat' (with_reducible first | apply writes_Act_offerMon | apply Writes.get | intro _ | dsimp only)

theorem writes_Act_addRef {p q : Nat} {r : Ref} {P : Nat → Prop} : Writes (Act.addRef p q r) P := by
  unfold Act.addRef
  try dsimp only
  repeat' (with_reducible first | apply writes_Act_modQueue | apply writes_Act_offerDepth | apply Writes.seq | apply Writes.get | apply Writes.ite | intro _ | split | dsimp only)

theorem writes_Act_eachQueue {p : Nat} {f : Nat → Queue → Queue} {P : Nat → Prop} : Writes (Act.eachQueue p f) P := by
  unfold Act.eachQueue
  try dsimp only
  repeat' (with_reducible first | apply writes_Act_modQueue | apply Writes.get | apply Writes.each | intro _ | dsimp only)

theorem writes_Act_removeId {p id : Nat} {P : Nat → Prop} : Writes (Act.removeId p id) P := by
  unfold Act.removeId
  try dsimp only
  repeat' (with_reducible first | apply writes_Act_eachQueue | apply Writes.each | intro _ | dsimp only)

/-! ## Shape -/

theorem writes_Act_shape {p : Nat} {P : Nat → Prop} : Writes (Act.shape p) P := by
  unfold Act.shape
  try dsimp only
  repeat' (with_reducible first | apply writes_Act_setShaper | apply Writes.get | apply Writes.each | intro _ | dsimp only)

theorem writes_cbsWrite {ag : Agent} {p i : Nat} {v : Word} {k : Code → Act} {P : Nat → Prop} (r_BLK_ERR : P (BLK_ERR (aDie (PSFP.CBS p i)) (aBlk (PSFP.CBS p i)))) (r_PSFP_CBS : P (PSFP.CBS p i)) (hk_k : ∀ x0, Writes (k x0) P) : Writes (cbsWrite ag p i v k) P := by
  unfold cbsWrite
  try dsimp only
  repeat' (with_reducible first | exact r_BLK_ERR | exact r_PSFP_CBS | exact hk_k _ | apply writes_Act_setShaper | apply writes_Act_badValue | apply writes_Act_store | apply Writes.all_cons | apply Writes.all_nil | apply Writes.get | apply Writes.ite | intro _ | split | dsimp only)
  all_goals first | exact r_BLK_ERR | exact r_PSFP_CBS

theorem writes_Act_gateOverrun {p f : Nat} {P : Nat → Prop} (r_PSFP_LAST : P (PSFP.LAST p)) (r_PSFP_EVT : P (PSFP.EVT p)) (r_PSFP_CNT : P (PSFP.CNT p 0)) (r_DEV_CNT_LAST : ∀ x0, P (DEV.CNT_LAST x0)) (r_DEV_EVT : ∀ x0, P (DEV.EVT x0)) : Writes (Act.gateOverrun p f) P := by
  unfold Act.gateOverrun
  try dsimp only
  repeat' (with_reducible first | exact r_PSFP_LAST | exact r_PSFP_EVT | exact r_PSFP_CNT | exact r_DEV_CNT_LAST _ | exact r_DEV_EVT _ | apply writes_Act_setFlds | apply writes_Act_event | apply writes_Act_count | apply Writes.all_cons | apply Writes.all_nil | apply Writes.get | apply Writes.when | apply Writes.opt | intro _ | dsimp only)
  all_goals first | exact r_PSFP_LAST | exact r_PSFP_EVT | exact r_PSFP_CNT | exact r_DEV_CNT_LAST _ | exact r_DEV_EVT _

theorem writes_Act_setGates {p f : Nat} {g : Gates → Gates} {P : Nat → Prop} (r_PSFP_LAST : P (PSFP.LAST p)) (r_PSFP_EVT : P (PSFP.EVT p)) (r_PSFP_CNT : P (PSFP.CNT p 0)) (r_DEV_CNT_LAST : ∀ x0, P (DEV.CNT_LAST x0)) (r_DEV_EVT : ∀ x0, P (DEV.EVT x0)) : Writes (Act.setGates p f g) P := by
  unfold Act.setGates
  try dsimp only
  repeat' (with_reducible first | exact r_PSFP_LAST | exact r_PSFP_EVT | exact r_PSFP_CNT | exact r_DEV_CNT_LAST _ | exact r_DEV_EVT _ | apply writes_Act_modGate | apply writes_Act_shape | apply writes_Act_gateOverrun | apply Writes.all_cons | apply Writes.all_nil | apply Writes.get | apply Writes.when | intro _ | dsimp only)
  all_goals first | exact r_PSFP_LAST | exact r_PSFP_EVT | exact r_PSFP_CNT | exact r_DEV_CNT_LAST _ | exact r_DEV_EVT _

theorem writes_gclCtrl {ag : Agent} {p f : Nat} {v : Word} {k : Code → Act} {P : Nat → Prop} (r_PSFP_GCL_STAT : P (PSFP.GCL_STAT p f)) (r_BLK_ERR : P (BLK_ERR (aDie (PSFP.GCL_CTRL p f)) (aBlk (PSFP.GCL_CTRL p f)))) (r_PSFP_GCL_CTRL : P (PSFP.GCL_CTRL p f)) (hk_k : ∀ x0, Writes (k x0) P) : Writes (gclCtrl ag p f v k) P := by
  unfold gclCtrl
  try dsimp only
  repeat' (with_reducible first | exact r_PSFP_GCL_STAT | exact r_BLK_ERR | exact r_PSFP_GCL_CTRL | exact hk_k _ | apply writes_Act_modGate | apply writes_Act_setFld | apply writes_Act_badValue | apply writes_Act_store | apply writes_Act_shape | apply Writes.all_cons | apply Writes.all_nil | apply Writes.get | apply Writes.ite | intro _ | split | dsimp only)
  all_goals first | exact r_PSFP_GCL_STAT | exact r_BLK_ERR | exact r_PSFP_GCL_CTRL

theorem writes_gclSwitch {p f : Nat} {P : Nat → Prop} (r_PSFP_GCL_STAT : P (PSFP.GCL_STAT p f)) (r_PSFP_LAST : P (PSFP.LAST p)) (r_PSFP_EVT : P (PSFP.EVT p)) (r_PSFP_CNT : P (PSFP.CNT p 0)) (r_DEV_CNT_LAST : ∀ x0, P (DEV.CNT_LAST x0)) (r_DEV_EVT : ∀ x0, P (DEV.EVT x0)) : Writes (gclSwitch p f) P := by
  unfold gclSwitch
  try dsimp only
  repeat' (with_reducible first | exact r_PSFP_GCL_STAT | exact r_PSFP_LAST | exact r_PSFP_EVT | exact r_PSFP_CNT | exact r_DEV_CNT_LAST _ | exact r_DEV_EVT _ | apply writes_Act_modGate | apply writes_Act_setFlds | apply writes_Act_shape | apply writes_Act_gateOverrun | apply Writes.all_cons | apply Writes.all_nil | apply Writes.get | apply Writes.when | apply Writes.opt | intro _ | dsimp only)
  all_goals first | exact r_PSFP_GCL_STAT | exact r_PSFP_LAST | exact r_PSFP_EVT | exact r_PSFP_CNT | exact r_DEV_CNT_LAST _ | exact r_DEV_EVT _

theorem writes_gateEntryBegin {p f : Nat} {P : Nat → Prop} (r_PSFP_LAST : P (PSFP.LAST p)) (r_PSFP_EVT : P (PSFP.EVT p)) (r_PSFP_CNT : P (PSFP.CNT p 0)) (r_DEV_CNT_LAST : ∀ x0, P (DEV.CNT_LAST x0)) (r_DEV_EVT : ∀ x0, P (DEV.EVT x0)) : Writes (gateEntryBegin p f) P := by
  unfold gateEntryBegin
  try dsimp only
  repeat' (with_reducible first | exact r_PSFP_LAST | exact r_PSFP_EVT | exact r_PSFP_CNT | exact r_DEV_CNT_LAST _ | exact r_DEV_EVT _ | apply writes_Act_setGates | apply Writes.get | apply Writes.opt | apply Writes.skip | apply Writes.ite | intro _ | split | dsimp only)
  all_goals first | exact r_PSFP_LAST | exact r_PSFP_EVT | exact r_PSFP_CNT | exact r_DEV_CNT_LAST _ | exact r_DEV_EVT _

theorem writes_Act_gatesStepped {p : Nat} {P : Nat → Prop} (r_PSFP_GCL_STAT : ∀ x0, P (PSFP.GCL_STAT p x0)) : Writes (Act.gatesStepped p) P := by
  unfold Act.gatesStepped
  try dsimp only
  repeat' (with_reducible first | exact r_PSFP_GCL_STAT _ | apply writes_Act_modGate | apply writes_Act_bumpFld | apply Writes.seq | apply Writes.get | apply Writes.each | intro _ | dsimp only)
  all_goals first | exact r_PSFP_GCL_STAT _

end Sys2Proof.Machine
end

