-- ==== Sys2Proof/Laws/Writes/Group2.lean ====
section
/-! SUPPORT. Which registers the operations of Fabric, Queue, Can may write. -/

set_option linter.unusedTactic false
set_option linter.unreachableTactic false

namespace Sys2Proof.Machine

/-! ## Fabric -/

theorem writes_Act_portIrq {p n : Nat} {P : Nat → Prop} : Writes (Act.portIrq p n) P := by
  unfold Act.portIrq
  try dsimp only
  repeat' (with_reducible first | apply writes_Act_irq | apply Writes.get | apply Writes.when | intro _ | dsimp only)

theorem writes_Act_portsIrq {p id : Nat} {P : Nat → Prop} : Writes (Act.portsIrq p id) P := by
  unfold Act.portsIrq
  try dsimp only
  repeat' (with_reducible first | apply writes_Act_portIrq | apply Writes.get | apply Writes.each | intro _ | dsimp only)

theorem writes_Act_mirrorRef {p id n : Nat} {done : Bool} {fr : Frame} {P : Nat → Prop} (r_FAB_EVT : P (FAB.EVT p)) (r_FAB_CNT : P (FAB.CNT p 3)) (r_DEV_CNT_LAST : ∀ x0, P (DEV.CNT_LAST x0)) (r_DEV_EVT : ∀ x0, P (DEV.EVT x0)) (r_FAB_CNT_2 : P (FAB.CNT p 4)) (r_QMGR_DROP_LAST : P (QMGR.DROP_LAST p)) (r_QMGR_EVT : P (QMGR.EVT p)) (r_QMGR_CNT : P (QMGR.CNT p 2)) (r_QMGR_LIMIT_DROPS : ∀ x0, P (QMGR.LIMIT_DROPS p x0)) (r_QMGR_CNT_2 : P (QMGR.CNT p 3)) (r_QMGR_CNT_3 : P (QMGR.CNT p 4)) : Writes (Act.mirrorRef p id n done fr) P := by
  unfold Act.mirrorRef
  try dsimp only
  repeat' (with_reducible first | exact r_FAB_EVT | exact r_FAB_CNT | exact r_DEV_CNT_LAST _ | exact r_DEV_EVT _ | exact r_FAB_CNT_2 | exact r_QMGR_DROP_LAST | exact r_QMGR_EVT | exact r_QMGR_CNT | exact r_QMGR_LIMIT_DROPS _ | exact r_QMGR_CNT_2 | exact r_QMGR_CNT_3 | apply writes_Act_setRecLost | apply writes_Act_event | apply writes_Act_count | apply writes_Act_dropRef | apply writes_Act_addRef | apply writes_Act_portsIrq | apply Writes.all_cons | apply Writes.all_nil | apply Writes.seq | apply Writes.get | apply Writes.when | intro _ | split | dsimp only)
  all_goals first | exact r_FAB_EVT | exact r_FAB_CNT | exact r_DEV_CNT_LAST _ | exact r_DEV_EVT _ | exact r_FAB_CNT_2 | exact r_QMGR_DROP_LAST | exact r_QMGR_EVT | exact r_QMGR_CNT | exact r_QMGR_LIMIT_DROPS _ | exact r_QMGR_CNT_2 | exact r_QMGR_CNT_3

theorem writes_Act_periscope {p id n : Nat} {done adm : Bool} {f q : Nat} {filt : Option Nat} {fr : Frame} {P : Nat → Prop} (r_ra : P (ra p 129 515)) (r_DEV_CNT_LAST : ∀ x0, P (DEV.CNT_LAST x0)) (r_DEV_EVT : ∀ x0, P (DEV.EVT x0)) (r_FAB_EVT : P (FAB.EVT p)) (r_FAB_CNT : P (FAB.CNT p 3)) (r_FAB_CNT_2 : P (FAB.CNT p 4)) (r_QMGR_DROP_LAST : P (QMGR.DROP_LAST p)) (r_QMGR_EVT : P (QMGR.EVT p)) (r_QMGR_CNT : P (QMGR.CNT p 2)) (r_QMGR_LIMIT_DROPS : ∀ x0, P (QMGR.LIMIT_DROPS p x0)) (r_QMGR_CNT_2 : P (QMGR.CNT p 3)) (r_QMGR_CNT_3 : P (QMGR.CNT p 4)) : Writes (Act.periscope p id n done adm f q filt fr) P := by
  unfold Act.periscope
  try dsimp only
  repeat' (with_reducible first | exact r_ra | exact r_DEV_CNT_LAST _ | exact r_DEV_EVT _ | exact r_FAB_EVT | exact r_FAB_CNT | exact r_FAB_CNT_2 | exact r_QMGR_DROP_LAST | exact r_QMGR_EVT | exact r_QMGR_CNT | exact r_QMGR_LIMIT_DROPS _ | exact r_QMGR_CNT_2 | exact r_QMGR_CNT_3 | apply writes_Act_modRecorder | apply writes_Act_count | apply writes_Act_mirrorRef | apply Writes.all_cons | apply Writes.all_nil | apply Writes.get | apply Writes.each | apply Writes.opt | apply Writes.skip | apply Writes.ite | intro _ | split | dsimp only)
  all_goals first | exact r_ra | exact r_DEV_CNT_LAST _ | exact r_DEV_EVT _ | exact r_FAB_EVT | exact r_FAB_CNT | exact r_FAB_CNT_2 | exact r_QMGR_DROP_LAST | exact r_QMGR_EVT | exact r_QMGR_CNT | exact r_QMGR_LIMIT_DROPS _ | exact r_QMGR_CNT_2 | exact r_QMGR_CNT_3

theorem writes_Act_unitsBack {p f : Nat} {fr : Frame} {first last : Nat} {P : Nat → Prop} : Writes (Act.unitsBack p f fr first last) P := by
  unfold Act.unitsBack
  try dsimp only
  repeat' (with_reducible first | apply writes_Act_modLink | apply Writes.skip | apply Writes.ite | apply Writes.all_map | intro _ | split | dsimp only)

theorem writes_Act_ringDenied {p : Nat} {r : RxFrame} {P : Nat → Prop} (r_CPU_CNT : ∀ x0, P (CPU.CNT p x0)) (r_DEV_CNT_LAST : ∀ x0, P (DEV.CNT_LAST x0)) (r_DEV_EVT : ∀ x0, P (DEV.EVT x0)) : Writes (Act.ringDenied p r) P := by
  unfold Act.ringDenied
  try dsimp only
  repeat' (with_reducible first | exact r_CPU_CNT _ | exact r_DEV_CNT_LAST _ | exact r_DEV_EVT _ | apply writes_Act_count | apply Writes.when | apply Writes.opt | intro _ | dsimp only)
  all_goals first | exact r_CPU_CNT _ | exact r_DEV_CNT_LAST _ | exact r_DEV_EVT _

theorem writes_Act_ringEntered {p : Nat} {r : RxFrame} {P : Nat → Prop} : Writes (Act.ringEntered p r) P := by
  unfold Act.ringEntered
  try dsimp only
  repeat' (with_reducible first | apply writes_Act_modRing | apply Writes.opt | intro _ | dsimp only)

theorem writes_Act_discardCand {p f c : Nat} {r : RxFrame} {P : Nat → Prop} (r_CPU_CNT : ∀ x0, P (CPU.CNT p x0)) (r_DEV_CNT_LAST : ∀ x0, P (DEV.CNT_LAST x0)) (r_DEV_EVT : ∀ x0, P (DEV.EVT x0)) : Writes (Act.discardCand p f c r) P := by
  unfold Act.discardCand
  try dsimp only
  repeat' (with_reducible first | exact r_CPU_CNT _ | exact r_DEV_CNT_LAST _ | exact r_DEV_EVT _ | apply writes_Act_modBuf | apply writes_Act_unitsBack | apply writes_Act_ringDenied | apply Writes.all_cons | apply Writes.all_nil | intro _ | dsimp only)
  all_goals first | exact r_CPU_CNT _ | exact r_DEV_CNT_LAST _ | exact r_DEV_EVT _

theorem writes_Act_stormOwn {p f : Nat} {P : Nat → Prop} (r_D2D_EVT : P (D2D.EVT p (f - 56))) : Writes (Act.stormOwn p f) P := by
  unfold Act.stormOwn
  try dsimp only
  repeat' (with_reducible first | exact r_D2D_EVT | apply writes_Act_event | apply Writes.skip | apply Writes.ite | intro _ | split | dsimp only)
  all_goals first | exact r_D2D_EVT

theorem writes_Act_stormDiscard {p f c : Nat} {r : RxFrame} {P : Nat → Prop} (r_FAB_STORM_TIME : P (FAB.STORM_TIME p)) (r_FAB_STORM_LAST : P (FAB.STORM_LAST p)) (r_FAB_EVT : P (FAB.EVT p)) (r_FAB_STORM_CNT : P (FAB.STORM_CNT p f)) (r_DEV_CNT_LAST : ∀ x0, P (DEV.CNT_LAST x0)) (r_DEV_EVT : ∀ x0, P (DEV.EVT x0)) (r_FAB_CNT : P (FAB.CNT p 5)) (r_CPU_CNT : ∀ x0, P (CPU.CNT p x0)) (r_D2D_EVT : P (D2D.EVT p (f - 56))) : Writes (Act.stormDiscard p f c r) P := by
  unfold Act.stormDiscard
  try dsimp only
  repeat' (with_reducible first | exact r_FAB_STORM_TIME | exact r_FAB_STORM_LAST | exact r_FAB_EVT | exact r_FAB_STORM_CNT | exact r_DEV_CNT_LAST _ | exact r_DEV_EVT _ | exact r_FAB_CNT | exact r_CPU_CNT _ | exact r_D2D_EVT | apply writes_Act_modHold | apply writes_Act_setFlds | apply writes_Act_event | apply writes_Act_count | apply writes_Act_discardCand | apply writes_Act_stormOwn | apply Writes.setReg | apply Writes.all_cons | apply Writes.all_nil | apply Writes.get | apply Writes.when | intro _ | dsimp only)
  all_goals first | exact r_FAB_STORM_TIME | exact r_FAB_STORM_LAST | exact r_FAB_EVT | exact r_FAB_STORM_CNT | exact r_DEV_CNT_LAST _ | exact r_DEV_EVT _ | exact r_FAB_CNT | exact r_CPU_CNT _ | exact r_D2D_EVT

theorem writes_Act_refuseCand {p f c : Nat} {r : RxFrame} {P : Nat → Prop} (r_QMGR_CNT : P (QMGR.CNT p 1)) (r_DEV_CNT_LAST : ∀ x0, P (DEV.CNT_LAST x0)) (r_DEV_EVT : ∀ x0, P (DEV.EVT x0)) (r_CPU_CNT : ∀ x0, P (CPU.CNT p x0)) (r_FAB_STORM_TIME : P (FAB.STORM_TIME p)) (r_FAB_STORM_LAST : P (FAB.STORM_LAST p)) (r_FAB_EVT : P (FAB.EVT p)) (r_FAB_STORM_CNT : P (FAB.STORM_CNT p f)) (r_FAB_CNT : P (FAB.CNT p 5)) (r_D2D_EVT : P (D2D.EVT p (f - 56))) : Writes (Act.refuseCand p f c r) P := by
  unfold Act.refuseCand
  try dsimp only
  repeat' (with_reducible first | exact r_QMGR_CNT | exact r_DEV_CNT_LAST _ | exact r_DEV_EVT _ | exact r_CPU_CNT _ | exact r_FAB_STORM_TIME | exact r_FAB_STORM_LAST | exact r_FAB_EVT | exact r_FAB_STORM_CNT | exact r_FAB_CNT | exact r_D2D_EVT | apply writes_Act_modBuf | apply writes_Act_setHold | apply writes_Act_count | apply writes_Act_discardCand | apply writes_Act_stormDiscard | apply Writes.all_cons | apply Writes.all_nil | apply Writes.seq | apply Writes.get | apply Writes.ite | intro _ | split | dsimp only)
  all_goals first | exact r_QMGR_CNT | exact r_DEV_CNT_LAST _ | exact r_DEV_EVT _ | exact r_CPU_CNT _ | exact r_FAB_STORM_TIME | exact r_FAB_STORM_LAST | exact r_FAB_EVT | exact r_FAB_STORM_CNT | exact r_FAB_CNT | exact r_D2D_EVT

theorem writes_Act_endHold {p f c : Nat} {P : Nat → Prop} (r_FAB_FACET : P (FAB.FACET p f)) : Writes (Act.endHold p f c) P := by
  unfold Act.endHold
  try dsimp only
  repeat' (with_reducible first | exact r_FAB_FACET | apply writes_Act_setHold | apply writes_Act_maxFld | apply Writes.seq | apply Writes.get | apply Writes.skip | apply Writes.ite | intro _ | split | dsimp only)
  all_goals first | exact r_FAB_FACET

theorem writes_Act_cellErr {p src cls place : Nat} {P : Nat → Prop} (r_FAB_CELL_ERR_LAST : P (FAB.CELL_ERR_LAST p)) (r_FAB_EVT : P (FAB.EVT p)) (r_FAB_CNT : P (FAB.CNT p 6)) (r_DEV_CNT_LAST : ∀ x0, P (DEV.CNT_LAST x0)) (r_DEV_EVT : ∀ x0, P (DEV.EVT x0)) : Writes (Act.cellErr p src cls place) P := by
  unfold Act.cellErr
  try dsimp only
  repeat' (with_reducible first | exact r_FAB_CELL_ERR_LAST | exact r_FAB_EVT | exact r_FAB_CNT | exact r_DEV_CNT_LAST _ | exact r_DEV_EVT _ | apply writes_Act_setFlds | apply writes_Act_event | apply writes_Act_count | apply Writes.all_cons | apply Writes.all_nil | intro _ | dsimp only)
  all_goals first | exact r_FAB_CELL_ERR_LAST | exact r_FAB_EVT | exact r_FAB_CNT | exact r_DEV_CNT_LAST _ | exact r_DEV_EVT _

theorem writes_Act_repMiss {p : Nat} {P : Nat → Prop} (r_FAB_EVT : P (FAB.EVT p)) (r_FAB_CNT : P (FAB.CNT p 7)) (r_DEV_CNT_LAST : ∀ x0, P (DEV.CNT_LAST x0)) (r_DEV_EVT : ∀ x0, P (DEV.EVT x0)) : Writes (Act.repMiss p) P := by
  unfold Act.repMiss
  try dsimp only
  repeat' (with_reducible first | exact r_FAB_EVT | exact r_FAB_CNT | exact r_DEV_CNT_LAST _ | exact r_DEV_EVT _ | apply writes_Act_event | apply writes_Act_count | apply Writes.seq | intro _ | dsimp only)
  all_goals first | exact r_FAB_EVT | exact r_FAB_CNT | exact r_DEV_CNT_LAST _ | exact r_DEV_EVT _

theorem writes_Act_grant {p f c n : Nat} {r : RxFrame} {links : List RxFrame} {plan : List (Offer × Verdict)} {P : Nat → Prop} (r_QMGR_CNT : P (QMGR.CNT p 0)) (r_DEV_CNT_LAST : ∀ x0, P (DEV.CNT_LAST x0)) (r_DEV_EVT : ∀ x0, P (DEV.EVT x0)) (r_QMGR_EVT : P (QMGR.EVT p)) (r_QMGR_DROP_LAST : P (QMGR.DROP_LAST p)) (r_QMGR_CNT_2 : P (QMGR.CNT p 2)) (r_QMGR_LIMIT_DROPS : ∀ x0, P (QMGR.LIMIT_DROPS p x0)) (r_QMGR_CNT_3 : P (QMGR.CNT p 3)) (r_QMGR_CNT_4 : P (QMGR.CNT p 4)) (r_ra : P (ra p 129 515)) (r_FAB_EVT : P (FAB.EVT p)) (r_FAB_CNT : P (FAB.CNT p 3)) (r_FAB_CNT_2 : P (FAB.CNT p 4)) (r_CPU_CNT : ∀ x0, P (CPU.CNT p x0)) (r_FAB_FACET : P (FAB.FACET p f)) : Writes (Act.grant p f c n r links plan) P := by
  unfold Act.grant
  try dsimp only
  repeat' (with_reducible first | exact r_QMGR_CNT | exact r_DEV_CNT_LAST _ | exact r_DEV_EVT _ | exact r_QMGR_EVT | exact r_QMGR_DROP_LAST | exact r_QMGR_CNT_2 | exact r_QMGR_LIMIT_DROPS _ | exact r_QMGR_CNT_3 | exact r_QMGR_CNT_4 | exact r_ra | exact r_FAB_EVT | exact r_FAB_CNT | exact r_FAB_CNT_2 | exact r_CPU_CNT _ | exact r_FAB_FACET | apply writes_Act_modBuf | apply writes_Act_modAdm | apply writes_Act_count | apply writes_Act_offerMon | apply writes_Act_checkShared | apply writes_Act_dropRef | apply writes_Act_addRef | apply writes_Act_shape | apply writes_Act_periscope | apply writes_Act_unitsBack | apply writes_Act_ringDenied | apply writes_Act_ringEntered | apply writes_Act_endHold | apply Writes.upd | apply Writes.all_cons | apply Writes.all_nil | apply Writes.seq | apply Writes.get | apply Writes.when | apply Writes.each | apply Writes.skip | apply Writes.ite | apply Writes.all_map | intro _ | split | dsimp only)
  all_goals first | exact r_QMGR_CNT | exact r_DEV_CNT_LAST _ | exact r_DEV_EVT _ | exact r_QMGR_EVT | exact r_QMGR_DROP_LAST | exact r_QMGR_CNT_2 | exact r_QMGR_LIMIT_DROPS _ | exact r_QMGR_CNT_3 | exact r_QMGR_CNT_4 | exact r_ra | exact r_FAB_EVT | exact r_FAB_CNT | exact r_FAB_CNT_2 | exact r_CPU_CNT _ | exact r_FAB_FACET

theorem writes_Act_mirrorNoRoom {p f c : Nat} {r : RxFrame} {P : Nat → Prop} (r_FAB_EVT : P (FAB.EVT p)) (r_D2D_EVT : P (D2D.EVT p (f - 56))) (r_QMGR_CNT : P (QMGR.CNT p 1)) (r_DEV_CNT_LAST : ∀ x0, P (DEV.CNT_LAST x0)) (r_DEV_EVT : ∀ x0, P (DEV.EVT x0)) (r_FAB_CNT : P (FAB.CNT p 4)) (r_CPU_CNT : ∀ x0, P (CPU.CNT p x0)) : Writes (Act.mirrorNoRoom p f c r) P := by
  unfold Act.mirrorNoRoom
  try dsimp only
  repeat' (with_reducible first | exact r_FAB_EVT | exact r_D2D_EVT | exact r_QMGR_CNT | exact r_DEV_CNT_LAST _ | exact r_DEV_EVT _ | exact r_FAB_CNT | exact r_CPU_CNT _ | apply writes_Act_event | apply writes_Act_count | apply writes_Act_discardCand | apply Writes.all_cons | apply Writes.all_nil | apply Writes.when | intro _ | dsimp only)
  all_goals first | exact r_FAB_EVT | exact r_D2D_EVT | exact r_QMGR_CNT | exact r_DEV_CNT_LAST _ | exact r_DEV_EVT _ | exact r_FAB_CNT | exact r_CPU_CNT _

theorem writes_Act_request {p f c : Nat} {r : RxFrame} {P : Nat → Prop} (r_CPU_CNT : ∀ x0, P (CPU.CNT p x0)) (r_DEV_CNT_LAST : ∀ x0, P (DEV.CNT_LAST x0)) (r_DEV_EVT : ∀ x0, P (DEV.EVT x0)) (r_QMGR_CNT : P (QMGR.CNT p 1)) (r_FAB_STORM_TIME : P (FAB.STORM_TIME p)) (r_FAB_STORM_LAST : P (FAB.STORM_LAST p)) (r_FAB_EVT : P (FAB.EVT p)) (r_FAB_STORM_CNT : P (FAB.STORM_CNT p f)) (r_FAB_CNT : P (FAB.CNT p 5)) (r_D2D_EVT : P (D2D.EVT p (f - 56))) (r_FAB_CNT_2 : P (FAB.CNT p 7)) (r_QMGR_CNT_2 : P (QMGR.CNT p 0)) (r_QMGR_EVT : P (QMGR.EVT p)) (r_QMGR_DROP_LAST : P (QMGR.DROP_LAST p)) (r_QMGR_CNT_3 : P (QMGR.CNT p 2)) (r_QMGR_LIMIT_DROPS : ∀ x0, P (QMGR.LIMIT_DROPS p x0)) (r_QMGR_CNT_4 : P (QMGR.CNT p 3)) (r_QMGR_CNT_5 : P (QMGR.CNT p 4)) (r_ra : P (ra p 129 515)) (r_FAB_CNT_3 : P (FAB.CNT p 3)) (r_FAB_CNT_4 : P (FAB.CNT p 4)) (r_FAB_FACET : P (FAB.FACET p f)) : Writes (Act.request p f c r) P := by
  unfold Act.request
  try dsimp only
  repeat' (with_reducible first | exact r_CPU_CNT _ | exact r_DEV_CNT_LAST _ | exact r_DEV_EVT _ | exact r_QMGR_CNT | exact r_FAB_STORM_TIME | exact r_FAB_STORM_LAST | exact r_FAB_EVT | exact r_FAB_STORM_CNT | exact r_FAB_CNT | exact r_D2D_EVT | exact r_FAB_CNT_2 | exact r_QMGR_CNT_2 | exact r_QMGR_EVT | exact r_QMGR_DROP_LAST | exact r_QMGR_CNT_3 | exact r_QMGR_LIMIT_DROPS _ | exact r_QMGR_CNT_4 | exact r_QMGR_CNT_5 | exact r_ra | exact r_FAB_CNT_3 | exact r_FAB_CNT_4 | exact r_FAB_FACET | apply writes_Act_modBuf | apply writes_Act_discardCand | apply writes_Act_refuseCand | apply writes_Act_repMiss | apply writes_Act_grant | apply writes_Act_mirrorNoRoom | apply Writes.seq | apply Writes.get | apply Writes.ite | intro _ | split | dsimp only)
  all_goals first | exact r_CPU_CNT _ | exact r_DEV_CNT_LAST _ | exact r_DEV_EVT _ | exact r_QMGR_CNT | exact r_FAB_STORM_TIME | exact r_FAB_STORM_LAST | exact r_FAB_EVT | exact r_FAB_STORM_CNT | exact r_FAB_CNT | exact r_D2D_EVT | exact r_FAB_CNT_2 | exact r_QMGR_CNT_2 | exact r_QMGR_EVT | exact r_QMGR_DROP_LAST | exact r_QMGR_CNT_3 | exact r_QMGR_LIMIT_DROPS _ | exact r_QMGR_CNT_4 | exact r_QMGR_CNT_5 | exact r_ra | exact r_FAB_CNT_3 | exact r_FAB_CNT_4 | exact r_FAB_FACET

theorem writes_frameAdmission {p f : Nat} {P : Nat → Prop} (r_CPU_CNT : ∀ x0, P (CPU.CNT p x0)) (r_DEV_CNT_LAST : ∀ x0, P (DEV.CNT_LAST x0)) (r_DEV_EVT : ∀ x0, P (DEV.EVT x0)) (r_QMGR_CNT : P (QMGR.CNT p 1)) (r_FAB_STORM_TIME : P (FAB.STORM_TIME p)) (r_FAB_STORM_LAST : P (FAB.STORM_LAST p)) (r_FAB_EVT : P (FAB.EVT p)) (r_FAB_STORM_CNT : P (FAB.STORM_CNT p f)) (r_FAB_CNT : P (FAB.CNT p 5)) (r_D2D_EVT : P (D2D.EVT p (f - 56))) (r_FAB_CNT_2 : P (FAB.CNT p 7)) (r_QMGR_CNT_2 : P (QMGR.CNT p 0)) (r_QMGR_EVT : P (QMGR.EVT p)) (r_QMGR_DROP_LAST : P (QMGR.DROP_LAST p)) (r_QMGR_CNT_3 : P (QMGR.CNT p 2)) (r_QMGR_LIMIT_DROPS : ∀ x0, P (QMGR.LIMIT_DROPS p x0)) (r_QMGR_CNT_4 : P (QMGR.CNT p 3)) (r_QMGR_CNT_5 : P (QMGR.CNT p 4)) (r_ra : P (ra p 129 515)) (r_FAB_CNT_3 : P (FAB.CNT p 3)) (r_FAB_CNT_4 : P (FAB.CNT p 4)) (r_FAB_FACET : P (FAB.FACET p f)) : Writes (frameAdmission p f) P := by
  unfold frameAdmission
  try dsimp only
  repeat' (with_reducible first | exact r_CPU_CNT _ | exact r_DEV_CNT_LAST _ | exact r_DEV_EVT _ | exact r_QMGR_CNT | exact r_FAB_STORM_TIME | exact r_FAB_STORM_LAST | exact r_FAB_EVT | exact r_FAB_STORM_CNT | exact r_FAB_CNT | exact r_D2D_EVT | exact r_FAB_CNT_2 | exact r_QMGR_CNT_2 | exact r_QMGR_EVT | exact r_QMGR_DROP_LAST | exact r_QMGR_CNT_3 | exact r_QMGR_LIMIT_DROPS _ | exact r_QMGR_CNT_4 | exact r_QMGR_CNT_5 | exact r_ra | exact r_FAB_CNT_3 | exact r_FAB_CNT_4 | exact r_FAB_FACET | apply writes_Act_request | apply Writes.get | apply Writes.opt | intro _ | dsimp only)
  all_goals first | exact r_CPU_CNT _ | exact r_DEV_CNT_LAST _ | exact r_DEV_EVT _ | exact r_QMGR_CNT | exact r_FAB_STORM_TIME | exact r_FAB_STORM_LAST | exact r_FAB_EVT | exact r_FAB_STORM_CNT | exact r_FAB_CNT | exact r_D2D_EVT | exact r_FAB_CNT_2 | exact r_QMGR_CNT_2 | exact r_QMGR_EVT | exact r_QMGR_DROP_LAST | exact r_QMGR_CNT_3 | exact r_QMGR_LIMIT_DROPS _ | exact r_QMGR_CNT_4 | exact r_QMGR_CNT_5 | exact r_ra | exact r_FAB_CNT_3 | exact r_FAB_CNT_4 | exact r_FAB_FACET

theorem writes_admissionRetry {p f c : Nat} {P : Nat → Prop} (r_CPU_CNT : ∀ x0, P (CPU.CNT p x0)) (r_DEV_CNT_LAST : ∀ x0, P (DEV.CNT_LAST x0)) (r_DEV_EVT : ∀ x0, P (DEV.EVT x0)) (r_QMGR_CNT : P (QMGR.CNT p 1)) (r_FAB_STORM_TIME : P (FAB.STORM_TIME p)) (r_FAB_STORM_LAST : P (FAB.STORM_LAST p)) (r_FAB_EVT : P (FAB.EVT p)) (r_FAB_STORM_CNT : P (FAB.STORM_CNT p f)) (r_FAB_CNT : P (FAB.CNT p 5)) (r_D2D_EVT : P (D2D.EVT p (f - 56))) (r_FAB_CNT_2 : P (FAB.CNT p 7)) (r_QMGR_CNT_2 : P (QMGR.CNT p 0)) (r_QMGR_EVT : P (QMGR.EVT p)) (r_QMGR_DROP_LAST : P (QMGR.DROP_LAST p)) (r_QMGR_CNT_3 : P (QMGR.CNT p 2)) (r_QMGR_LIMIT_DROPS : ∀ x0, P (QMGR.LIMIT_DROPS p x0)) (r_QMGR_CNT_4 : P (QMGR.CNT p 3)) (r_QMGR_CNT_5 : P (QMGR.CNT p 4)) (r_ra : P (ra p 129 515)) (r_FAB_CNT_3 : P (FAB.CNT p 3)) (r_FAB_CNT_4 : P (FAB.CNT p 4)) (r_FAB_FACET : P (FAB.FACET p f)) : Writes (admissionRetry p f c) P := by
  unfold admissionRetry
  try dsimp only
  repeat' (with_reducible first | exact r_CPU_CNT _ | exact r_DEV_CNT_LAST _ | exact r_DEV_EVT _ | exact r_QMGR_CNT | exact r_FAB_STORM_TIME | exact r_FAB_STORM_LAST | exact r_FAB_EVT | exact r_FAB_STORM_CNT | exact r_FAB_CNT | exact r_D2D_EVT | exact r_FAB_CNT_2 | exact r_QMGR_CNT_2 | exact r_QMGR_EVT | exact r_QMGR_DROP_LAST | exact r_QMGR_CNT_3 | exact r_QMGR_LIMIT_DROPS _ | exact r_QMGR_CNT_4 | exact r_QMGR_CNT_5 | exact r_ra | exact r_FAB_CNT_3 | exact r_FAB_CNT_4 | exact r_FAB_FACET | apply writes_Act_request | apply Writes.get | apply Writes.when | apply Writes.opt | intro _ | dsimp only)
  all_goals first | exact r_CPU_CNT _ | exact r_DEV_CNT_LAST _ | exact r_DEV_EVT _ | exact r_QMGR_CNT | exact r_FAB_STORM_TIME | exact r_FAB_STORM_LAST | exact r_FAB_EVT | exact r_FAB_STORM_CNT | exact r_FAB_CNT | exact r_D2D_EVT | exact r_FAB_CNT_2 | exact r_QMGR_CNT_2 | exact r_QMGR_EVT | exact r_QMGR_DROP_LAST | exact r_QMGR_CNT_3 | exact r_QMGR_LIMIT_DROPS _ | exact r_QMGR_CNT_4 | exact r_QMGR_CNT_5 | exact r_ra | exact r_FAB_CNT_3 | exact r_FAB_CNT_4 | exact r_FAB_FACET

theorem writes_stormTimeout {p f c : Nat} {P : Nat → Prop} (r_FAB_STORM_TIME : P (FAB.STORM_TIME p)) (r_FAB_STORM_LAST : P (FAB.STORM_LAST p)) (r_FAB_EVT : P (FAB.EVT p)) (r_FAB_STORM_CNT : P (FAB.STORM_CNT p f)) (r_DEV_CNT_LAST : ∀ x0, P (DEV.CNT_LAST x0)) (r_DEV_EVT : ∀ x0, P (DEV.EVT x0)) (r_FAB_CNT : P (FAB.CNT p 5)) (r_CPU_CNT : ∀ x0, P (CPU.CNT p x0)) (r_D2D_EVT : P (D2D.EVT p (f - 56))) : Writes (stormTimeout p f c) P := by
  unfold stormTimeout
  try dsimp only
  repeat' (with_reducible first | exact r_FAB_STORM_TIME | exact r_FAB_STORM_LAST | exact r_FAB_EVT | exact r_FAB_STORM_CNT | exact r_DEV_CNT_LAST _ | exact r_DEV_EVT _ | exact r_FAB_CNT | exact r_CPU_CNT _ | exact r_D2D_EVT | apply writes_Act_setHold | apply writes_Act_stormDiscard | apply Writes.seq | apply Writes.get | apply Writes.when | apply Writes.opt | intro _ | dsimp only)
  all_goals first | exact r_FAB_STORM_TIME | exact r_FAB_STORM_LAST | exact r_FAB_EVT | exact r_FAB_STORM_CNT | exact r_DEV_CNT_LAST _ | exact r_DEV_EVT _ | exact r_FAB_CNT | exact r_CPU_CNT _ | exact r_D2D_EVT

theorem writes_Act_complete {p id n : Nat} {P : Nat → Prop} : Writes (Act.complete p id n) P := by
  unfold Act.complete
  try dsimp only
  repeat' (with_reducible first | apply writes_Act_eachQueue | apply Writes.each | apply Writes.ite | apply Writes.all_map | intro _ | split | dsimp only)

theorem writes_Act_abortTx {p : Nat} {fr : Frame} {P : Nat → Prop} : Writes (Act.abortTx p fr) P := by
  unfold Act.abortTx
  try dsimp only
  repeat' (with_reducible first | apply writes_Act_modEth | apply Writes.get | apply Writes.when | apply Writes.each | apply Writes.all_map | intro _ | dsimp only)

theorem writes_Act_entryServed {p f n : Nat} {P : Nat → Prop} : Writes (Act.entryServed p f n) P := by
  unfold Act.entryServed
  try dsimp only
  repeat' (with_reducible first | apply writes_Act_setTurn | apply writes_Act_setTurnNow | apply Writes.seq | apply Writes.get | intro _ | dsimp only)

theorem writes_Act_enter {p f : Nat} {a : Admitted} {P : Nat → Prop} (r_FAB_CNT : P (FAB.CNT p 0)) (r_DEV_CNT_LAST : ∀ x0, P (DEV.CNT_LAST x0)) (r_DEV_EVT : ∀ x0, P (DEV.EVT x0)) (r_FAB_CNT_2 : P (FAB.CNT p 2)) (r_FAB_CNT_3 : P (FAB.CNT p 1)) (r_ETH_CNT : P (ETH.CNT p f 16)) (r_QMGR_EVT : P (QMGR.EVT p)) : Writes (Act.enter p f a) P := by
  unfold Act.enter
  try dsimp only
  repeat' (with_reducible first | exact r_FAB_CNT | exact r_DEV_CNT_LAST _ | exact r_DEV_EVT _ | exact r_FAB_CNT_2 | exact r_FAB_CNT_3 | exact r_ETH_CNT | exact r_QMGR_EVT | apply writes_Act_modAdm | apply writes_Act_countBy | apply writes_Act_count | apply writes_Act_tallyMon | apply writes_Act_checkShared | apply writes_Act_eachQueue | apply writes_Act_removeId | apply writes_Act_shape | apply writes_Act_portsIrq | apply writes_Act_unitsBack | apply writes_Act_complete | apply writes_Act_abortTx | apply writes_Act_entryServed | apply Writes.all_cons | apply Writes.all_nil | apply Writes.get | apply Writes.when | apply Writes.each | apply Writes.ite | apply Writes.all_map | intro _ | split | dsimp only)
  all_goals first | exact r_FAB_CNT | exact r_DEV_CNT_LAST _ | exact r_DEV_EVT _ | exact r_FAB_CNT_2 | exact r_FAB_CNT_3 | exact r_ETH_CNT | exact r_QMGR_EVT

theorem writes_frameEntry {p : Nat} {P : Nat → Prop} (r_FAB_CNT : P (FAB.CNT p 0)) (r_DEV_CNT_LAST : ∀ x0, P (DEV.CNT_LAST x0)) (r_DEV_EVT : ∀ x0, P (DEV.EVT x0)) (r_FAB_CNT_2 : P (FAB.CNT p 2)) (r_FAB_CNT_3 : P (FAB.CNT p 1)) (r_ETH_CNT : ∀ x0, P (ETH.CNT p x0 16)) (r_QMGR_EVT : P (QMGR.EVT p)) : Writes (frameEntry p) P := by
  unfold frameEntry
  try dsimp only
  repeat' (with_reducible first | exact r_FAB_CNT | exact r_DEV_CNT_LAST _ | exact r_DEV_EVT _ | exact r_FAB_CNT_2 | exact r_FAB_CNT_3 | exact r_ETH_CNT _ | exact r_QMGR_EVT | apply writes_Act_enter | apply Writes.get | apply Writes.opt | intro _ | dsimp only)
  all_goals first | exact r_FAB_CNT | exact r_DEV_CNT_LAST _ | exact r_DEV_EVT _ | exact r_FAB_CNT_2 | exact r_FAB_CNT_3 | exact r_ETH_CNT _ | exact r_QMGR_EVT

theorem writes_Act_d2dExchange {p j : Nat} {P : Nat → Prop} : Writes (Act.d2dExchange p j) P := by
  unfold Act.d2dExchange
  try dsimp only
  repeat' (with_reducible first | apply writes_Act_modLink | apply Writes.seq | apply Writes.get | apply Writes.when | apply Writes.all_map | intro _ | dsimp only)

theorem writes_Act_moreCells {p f c : Nat} {fr : Frame} {i : Nat} {P : Nat → Prop} : Writes (Act.moreCells p f c fr i) P := by
  unfold Act.moreCells
  try dsimp only
  repeat' (with_reducible first | apply writes_Act_modBuf | apply writes_Act_modAdm | apply writes_Act_unitsBack | apply Writes.get | apply Writes.ite | apply Writes.all_map | intro _ | split | dsimp only)

theorem writes_Act_creditWait {p j c : Nat} {P : Nat → Prop} : Writes (Act.creditWait p j c) P := by
  unfold Act.creditWait
  try dsimp only
  repeat' (with_reducible first | apply writes_Act_modLink | apply Writes.get | apply Writes.ite | intro _ | split | dsimp only)

theorem writes_Act_creditGot {p j c : Nat} {P : Nat → Prop} (r_D2D_HOLD_MAX : P (D2D.HOLD_MAX p j)) : Writes (Act.creditGot p j c) P := by
  unfold Act.creditGot
  try dsimp only
  repeat' (with_reducible first | exact r_D2D_HOLD_MAX | apply writes_Act_modLink | apply writes_Act_offerMon | apply Writes.setReg | apply Writes.all_cons | apply Writes.all_nil | apply Writes.get | intro _ | dsimp only)
  all_goals first | exact r_D2D_HOLD_MAX

theorem writes_d2dCellReceive {p j c : Nat} {P : Nat → Prop} (r_D2D_CELLS_TX : P (D2D.CELLS_TX (d2dFar p j) (d2dLink (d2dFar p j) p))) (r_DEV_CNT_LAST : ∀ x0, P (DEV.CNT_LAST x0)) (r_DEV_EVT : ∀ x0, P (DEV.EVT x0)) (r_D2D_CELLS_RX : P (D2D.CELLS_RX p j)) (r_FAB_CELL_ERR_LAST : P (FAB.CELL_ERR_LAST p)) (r_FAB_EVT : P (FAB.EVT p)) (r_FAB_CNT : P (FAB.CNT p 6)) (r_D2D_HOLD_MAX : P (D2D.HOLD_MAX (d2dFar p j) (d2dLink (d2dFar p j) p))) : Writes (d2dCellReceive p j c) P := by
  unfold d2dCellReceive
  try dsimp only
  repeat' (with_reducible first | exact r_D2D_CELLS_TX | exact r_DEV_CNT_LAST _ | exact r_DEV_EVT _ | exact r_D2D_CELLS_RX | exact r_FAB_CELL_ERR_LAST | exact r_FAB_EVT | exact r_FAB_CNT | exact r_D2D_HOLD_MAX | apply writes_Act_modBuf | apply writes_Act_modLink | apply writes_Act_count | apply writes_Act_unitsBack | apply writes_Act_cellErr | apply writes_Act_moreCells | apply writes_Act_creditWait | apply writes_Act_creditGot | apply Writes.all_cons | apply Writes.all_nil | apply Writes.seq | apply Writes.get | apply Writes.skip | apply Writes.ite | apply Writes.all_map | intro _ | split | dsimp only)
  all_goals first | exact r_D2D_CELLS_TX | exact r_DEV_CNT_LAST _ | exact r_DEV_EVT _ | exact r_D2D_CELLS_RX | exact r_FAB_CELL_ERR_LAST | exact r_FAB_EVT | exact r_FAB_CNT | exact r_D2D_HOLD_MAX

theorem writes_d2dCreditReturn {p j c : Nat} {P : Nat → Prop} : Writes (d2dCreditReturn p j c) P := by
  unfold d2dCreditReturn
  try dsimp only
  repeat' (with_reducible first | apply writes_Act_modLink | apply Writes.seq | apply Writes.get | intro _ | dsimp only)

theorem writes_Act_abortArrival {p f c : Nat} {P : Nat → Prop} (r_QMGR_EVT : ∀ x0, P (QMGR.EVT x0)) : Writes (Act.abortArrival p f c) P := by
  unfold Act.abortArrival
  try dsimp only
  repeat' (with_reducible first | exact r_QMGR_EVT _ | apply writes_Act_modBuf | apply writes_Act_modAdm | apply writes_Act_checkShared | apply writes_Act_removeId | apply writes_Act_unitsBack | apply Writes.all_cons | apply Writes.all_nil | apply Writes.seq | apply Writes.get | apply Writes.skip | intro _ | split | dsimp only)
  all_goals first | exact r_QMGR_EVT _

theorem writes_Act_resync {p j : Nat} {P : Nat → Prop} : Writes (Act.resync p j) P := by
  unfold Act.resync
  try dsimp only
  repeat' (with_reducible first | apply writes_Act_modLink | apply Writes.seq | apply Writes.get | apply Writes.all_map | intro _ | dsimp only)

theorem writes_d2dCreditViolation {p j c : Nat} {P : Nat → Prop} (r_D2D_EVT : P (D2D.EVT p j)) (r_D2D_EVT_2 : P (D2D.EVT (d2dFar p j) (d2dLink (d2dFar p j) p))) (r_QMGR_EVT : ∀ x0, P (QMGR.EVT x0)) : Writes (d2dCreditViolation p j c) P := by
  unfold d2dCreditViolation
  try dsimp only
  repeat' (with_reducible first | exact r_D2D_EVT | exact r_D2D_EVT_2 | exact r_QMGR_EVT _ | apply writes_Act_modLink | apply writes_Act_event | apply writes_Act_abortArrival | apply writes_Act_resync | apply Writes.all_cons | apply Writes.all_nil | apply Writes.get | apply Writes.when | intro _ | dsimp only)
  all_goals first | exact r_D2D_EVT | exact r_D2D_EVT_2 | exact r_QMGR_EVT _

theorem writes_cellCheckFailure {p f c place i flip : Nat} {code : Bool} {P : Nat → Prop} (r_D2D_EVT : P (D2D.EVT p (f - 56))) (r_D2D_CHECK_ERRS : P (D2D.CHECK_ERRS p (f - 56))) (r_DEV_CNT_LAST : ∀ x0, P (DEV.CNT_LAST x0)) (r_DEV_EVT : ∀ x0, P (DEV.EVT x0)) (r_FAB_CELL_ERR_LAST : P (FAB.CELL_ERR_LAST p)) (r_FAB_EVT : P (FAB.EVT p)) (r_FAB_CNT : P (FAB.CNT p 6)) (r_QMGR_EVT : ∀ x0, P (QMGR.EVT x0)) : Writes (cellCheckFailure p f c place i flip code) P := by
  unfold cellCheckFailure
  try dsimp only
  repeat' (with_reducible first | exact r_D2D_EVT | exact r_D2D_CHECK_ERRS | exact r_DEV_CNT_LAST _ | exact r_DEV_EVT _ | exact r_FAB_CELL_ERR_LAST | exact r_FAB_EVT | exact r_FAB_CNT | exact r_QMGR_EVT _ | apply writes_Act_modAdm | apply writes_Act_event | apply writes_Act_count | apply writes_Act_checkShared | apply writes_Act_removeId | apply writes_Act_unitsBack | apply writes_Act_cellErr | apply writes_Act_abortTx | apply writes_Act_abortArrival | apply Writes.all_cons | apply Writes.all_nil | apply Writes.get | apply Writes.when | apply Writes.opt | apply Writes.ite | apply Writes.all_map | intro _ | split | dsimp only)
  all_goals first | exact r_D2D_EVT | exact r_D2D_CHECK_ERRS | exact r_DEV_CNT_LAST _ | exact r_DEV_EVT _ | exact r_FAB_CELL_ERR_LAST | exact r_FAB_EVT | exact r_FAB_CNT | exact r_QMGR_EVT _

theorem writes_stalledCell {p : Nat} {P : Nat → Prop} (r_FAB_EVT : P (FAB.EVT p)) : Writes (stalledCell p) P := by
  unfold stalledCell
  try dsimp only
  repeat' (with_reducible first | exact r_FAB_EVT | apply writes_Act_event | apply Writes.get | apply Writes.when | intro _ | dsimp only)
  all_goals first | exact r_FAB_EVT

theorem writes_paceSample {p v : Nat} {P : Nat → Prop} (r_FAB_PACE : P (FAB.PACE p)) (r_FAB_EVT : P (FAB.EVT p)) : Writes (paceSample p v) P := by
  unfold paceSample
  try dsimp only
  repeat' (with_reducible first | exact r_FAB_PACE | exact r_FAB_EVT | apply writes_Act_setPaceNow | apply writes_Act_setFld | apply writes_Act_event | apply Writes.all_cons | apply Writes.all_nil | apply Writes.get | apply Writes.when | intro _ | dsimp only)
  all_goals first | exact r_FAB_PACE | exact r_FAB_EVT

theorem writes_repCmd {ag : Agent} {p : Nat} {v : Word} {k : Code → Act} {P : Nat → Prop} (r_FAB_REP_W0 : P (FAB.REP_W0 p)) (r_FAB_REP_W1 : P (FAB.REP_W1 p)) (r_FAB_REP_CMD : P (FAB.REP_CMD p)) (r_BLK_ERR : P (BLK_ERR (aDie (FAB.REP_CMD p)) (aBlk (FAB.REP_CMD p)))) (hk_k : ∀ x0, Writes (k x0) P) : Writes (repCmd ag p v k) P := by
  unfold repCmd
  try dsimp only
  repeat' (with_reducible first | exact r_FAB_REP_W0 | exact r_FAB_REP_W1 | exact r_FAB_REP_CMD | exact r_BLK_ERR | exact hk_k _ | apply writes_Act_setFld | apply writes_Act_setTblWords | apply writes_Act_badValue | apply writes_Act_store | apply Writes.setReg | apply Writes.all_cons | apply Writes.all_nil | apply Writes.seq | apply Writes.get | apply Writes.ite | intro _ | split | dsimp only)
  all_goals first | exact r_FAB_REP_W0 | exact r_FAB_REP_W1 | exact r_FAB_REP_CMD | exact r_BLK_ERR

theorem writes_fabClrMax {p : Nat} {P : Nat → Prop} (r_D2D_HOLD_MAX : ∀ x0, P (D2D.HOLD_MAX p x0)) (r_FAB_PACE : P (FAB.PACE p)) (r_FAB_FACET : ∀ x0, P (FAB.FACET p x0)) : Writes (fabClrMax p) P := by
  unfold fabClrMax
  try dsimp only
  repeat' (with_reducible first | exact r_D2D_HOLD_MAX _ | exact r_FAB_PACE | exact r_FAB_FACET _ | apply writes_Act_setFld | apply Writes.setReg | apply Writes.all_cons | apply Writes.all_nil | apply Writes.each | intro _ | dsimp only)
  all_goals first | exact r_D2D_HOLD_MAX _ | exact r_FAB_PACE | exact r_FAB_FACET _

/-! ## Queue -/

theorem writes_Act_reply {ag : Agent} {code : Code} {data : Word} {P : Nat → Prop} : Writes (Act.reply ag code data) P := by
  unfold Act.reply
  try dsimp only
  repeat' (with_reducible first | apply writes_Act_emit | intro _ | dsimp only)

theorem writes_Act_replied {ag : Agent} {code : Code} {P : Nat → Prop} : Writes (Act.replied ag code) P := by
  unfold Act.replied
  try dsimp only
  repeat' (with_reducible first | apply writes_Act_reply | intro _ | dsimp only)

theorem writes_Act_schedule {p f : Nat} {head : Nat → Queue → Option Ref} {k : Nat → Ref → Act} {P : Nat → Prop} (hk_k : ∀ x0 x1, Writes (k x0 x1) P) : Writes (Act.schedule p f head k) P := by
  unfold Act.schedule
  try dsimp only
  repeat' (with_reducible first | exact hk_k _ _ | apply writes_Act_modQueue | apply writes_Act_setRobin | apply Writes.all_cons | apply Writes.all_nil | apply Writes.get | apply Writes.each | apply Writes.opt | apply Writes.all_map | intro _ | dsimp only)

theorem writes_Act_depart {p q : Nat} {r : Ref} {P : Nat → Prop} (r_QMGR_EVT : P (QMGR.EVT p)) (r_ra : P (ra p 129 515)) (r_DEV_CNT_LAST : ∀ x0, P (DEV.CNT_LAST x0)) (r_DEV_EVT : ∀ x0, P (DEV.EVT x0)) (r_FAB_EVT : P (FAB.EVT p)) (r_FAB_CNT : P (FAB.CNT p 3)) (r_FAB_CNT_2 : P (FAB.CNT p 4)) (r_QMGR_DROP_LAST : P (QMGR.DROP_LAST p)) (r_QMGR_CNT : P (QMGR.CNT p 2)) (r_QMGR_LIMIT_DROPS : ∀ x0, P (QMGR.LIMIT_DROPS p x0)) (r_QMGR_CNT_2 : P (QMGR.CNT p 3)) (r_QMGR_CNT_3 : P (QMGR.CNT p 4)) : Writes (Act.depart p q r) P := by
  unfold Act.depart
  try dsimp only
  repeat' (with_reducible first | exact r_QMGR_EVT | exact r_ra | exact r_DEV_CNT_LAST _ | exact r_DEV_EVT _ | exact r_FAB_EVT | exact r_FAB_CNT | exact r_FAB_CNT_2 | exact r_QMGR_DROP_LAST | exact r_QMGR_CNT | exact r_QMGR_LIMIT_DROPS _ | exact r_QMGR_CNT_2 | exact r_QMGR_CNT_3 | apply writes_Act_modQueue | apply writes_Act_offerMon | apply writes_Act_checkShared | apply writes_Act_offerDepth | apply writes_Act_shape | apply writes_Act_periscope | apply Writes.all_cons | apply Writes.all_nil | apply Writes.get | intro _ | dsimp only)
  all_goals first | exact r_QMGR_EVT | exact r_ra | exact r_DEV_CNT_LAST _ | exact r_DEV_EVT _ | exact r_FAB_EVT | exact r_FAB_CNT | exact r_FAB_CNT_2 | exact r_QMGR_DROP_LAST | exact r_QMGR_CNT | exact r_QMGR_LIMIT_DROPS _ | exact r_QMGR_CNT_2 | exact r_QMGR_CNT_3

theorem writes_Act_take {p f : Nat} {flowOk : Nat → Bool} {k : Nat → Ref → Act} {P : Nat → Prop} (r_QMGR_EVT : P (QMGR.EVT p)) (r_ra : P (ra p 129 515)) (r_DEV_CNT_LAST : ∀ x0, P (DEV.CNT_LAST x0)) (r_DEV_EVT : ∀ x0, P (DEV.EVT x0)) (r_FAB_EVT : P (FAB.EVT p)) (r_FAB_CNT : P (FAB.CNT p 3)) (r_FAB_CNT_2 : P (FAB.CNT p 4)) (r_QMGR_DROP_LAST : P (QMGR.DROP_LAST p)) (r_QMGR_CNT : P (QMGR.CNT p 2)) (r_QMGR_LIMIT_DROPS : ∀ x0, P (QMGR.LIMIT_DROPS p x0)) (r_QMGR_CNT_2 : P (QMGR.CNT p 3)) (r_QMGR_CNT_3 : P (QMGR.CNT p 4)) (hk_k : ∀ x0 x1, Writes (k x0 x1) P) : Writes (Act.take p f flowOk k) P := by
  unfold Act.take
  try dsimp only
  repeat' (with_reducible first | exact r_QMGR_EVT | exact r_ra | exact r_DEV_CNT_LAST _ | exact r_DEV_EVT _ | exact r_FAB_EVT | exact r_FAB_CNT | exact r_FAB_CNT_2 | exact r_QMGR_DROP_LAST | exact r_QMGR_CNT | exact r_QMGR_LIMIT_DROPS _ | exact r_QMGR_CNT_2 | exact r_QMGR_CNT_3 | exact hk_k _ _ | apply writes_Act_schedule | apply writes_Act_depart | apply Writes.seq | apply Writes.ite | intro _ | split | dsimp only)
  all_goals first | exact r_QMGR_EVT | exact r_ra | exact r_DEV_CNT_LAST _ | exact r_DEV_EVT _ | exact r_FAB_EVT | exact r_FAB_CNT | exact r_FAB_CNT_2 | exact r_QMGR_DROP_LAST | exact r_QMGR_CNT | exact r_QMGR_LIMIT_DROPS _ | exact r_QMGR_CNT_2 | exact r_QMGR_CNT_3

theorem writes_Act_flushOut {p target scope : Nat} {held : Nat → Option Nat} {P : Nat → Prop} (r_QMGR_EVT : P (QMGR.EVT p)) : Writes (Act.flushOut p target scope held) P := by
  unfold Act.flushOut
  try dsimp only
  repeat' (with_reducible first | exact r_QMGR_EVT | apply writes_Act_modQueue | apply writes_Act_modPort | apply writes_Act_checkShared | apply writes_Act_shape | apply Writes.all_cons | apply Writes.all_nil | apply Writes.get | apply Writes.each | apply Writes.ite | intro _ | split | dsimp only)
  all_goals first | exact r_QMGR_EVT

theorem writes_Act_flushEnd {p n : Nat} {P : Nat → Prop} (r_QMGR_FLUSH_CMD : P (QMGR.FLUSH_CMD p)) (r_QMGR_EVT : P (QMGR.EVT p)) (r_QMGR_CNT : P (QMGR.CNT p 5)) (r_DEV_CNT_LAST : ∀ x0, P (DEV.CNT_LAST x0)) (r_DEV_EVT : ∀ x0, P (DEV.EVT x0)) : Writes (Act.flushEnd p n) P := by
  unfold Act.flushEnd
  try dsimp only
  repeat' (with_reducible first | exact r_QMGR_FLUSH_CMD | exact r_QMGR_EVT | exact r_QMGR_CNT | exact r_DEV_CNT_LAST _ | exact r_DEV_EVT _ | apply writes_Act_setFld | apply writes_Act_event | apply writes_Act_countBy | apply Writes.all_cons | apply Writes.all_nil | intro _ | dsimp only)
  all_goals first | exact r_QMGR_FLUSH_CMD | exact r_QMGR_EVT | exact r_QMGR_CNT | exact r_DEV_CNT_LAST _ | exact r_DEV_EVT _

theorem writes_flushCmd {ag : Agent} {p : Nat} {held : State → Nat → Option Nat} {v : Word} {k : Code → Act} {P : Nat → Prop} (r_QMGR_FLUSH_CMD : P (QMGR.FLUSH_CMD p)) (r_BLK_ERR : P (BLK_ERR (aDie (QMGR.FLUSH_CMD p)) (aBlk (QMGR.FLUSH_CMD p)))) (r_QMGR_EVT : P (QMGR.EVT p)) (hk_k : ∀ x0, Writes (k x0) P) : Writes (flushCmd ag p held v k) P := by
  unfold flushCmd
  try dsimp only
  repeat' (with_reducible first | exact r_QMGR_FLUSH_CMD | exact r_BLK_ERR | exact r_QMGR_EVT | exact hk_k _ | apply writes_Act_setFlush | apply writes_Act_setFld | apply writes_Act_setFlds | apply writes_Act_badValue | apply writes_Act_flushOut | apply Writes.all_cons | apply Writes.all_nil | apply Writes.seq | apply Writes.get | apply Writes.ite | intro _ | split | dsimp only)
  all_goals first | exact r_QMGR_FLUSH_CMD | exact r_BLK_ERR | exact r_QMGR_EVT

theorem writes_flushDone {p : Nat} {P : Nat → Prop} (r_QMGR_FLUSH_CMD : P (QMGR.FLUSH_CMD p)) (r_QMGR_EVT : P (QMGR.EVT p)) (r_QMGR_CNT : P (QMGR.CNT p 5)) (r_DEV_CNT_LAST : ∀ x0, P (DEV.CNT_LAST x0)) (r_DEV_EVT : ∀ x0, P (DEV.EVT x0)) : Writes (flushDone p) P := by
  unfold flushDone
  try dsimp only
  repeat' (with_reducible first | exact r_QMGR_FLUSH_CMD | exact r_QMGR_EVT | exact r_QMGR_CNT | exact r_DEV_CNT_LAST _ | exact r_DEV_EVT _ | apply writes_Act_setFlush | apply writes_Act_setFld | apply writes_Act_flushEnd | apply Writes.all_cons | apply Writes.all_nil | apply Writes.get | apply Writes.opt | intro _ | dsimp only)
  all_goals first | exact r_QMGR_FLUSH_CMD | exact r_QMGR_EVT | exact r_QMGR_CNT | exact r_DEV_CNT_LAST _ | exact r_DEV_EVT _

theorem writes_Act_bumpRate {p o i : Nat} {P : Nat → Prop} : Writes (Act.bumpRate p o i) P := by
  unfold Act.bumpRate
  try dsimp only
  repeat' (with_reducible first | apply writes_Act_modRate | intro _ | dsimp only)

theorem writes_Act_abortIn {p q : Nat} {ids : List Nat} {P : Nat → Prop} (r_QMGR_EVT : P (QMGR.EVT p)) : Writes (Act.abortIn p q ids) P := by
  unfold Act.abortIn
  try dsimp only
  repeat' (with_reducible first | exact r_QMGR_EVT | apply writes_Act_modQueue | apply writes_Act_checkShared | apply Writes.seq | intro _ | dsimp only)
  all_goals first | exact r_QMGR_EVT

theorem writes_Act_abortSpilled {p q : Nat} {ids : List Nat} {P : Nat → Prop} (r_SPILL_CNT : P (SPILL.CNT p 3)) (r_DEV_CNT_LAST : ∀ x0, P (DEV.CNT_LAST x0)) (r_DEV_EVT : ∀ x0, P (DEV.EVT x0)) (r_QMGR_EVT : P (QMGR.EVT p)) : Writes (Act.abortSpilled p q ids) P := by
  unfold Act.abortSpilled
  try dsimp only
  repeat' (with_reducible first | exact r_SPILL_CNT | exact r_DEV_CNT_LAST _ | exact r_DEV_EVT _ | exact r_QMGR_EVT | apply writes_Act_countBy | apply writes_Act_abortIn | apply Writes.seq | intro _ | dsimp only)
  all_goals first | exact r_SPILL_CNT | exact r_DEV_CNT_LAST _ | exact r_DEV_EVT _ | exact r_QMGR_EVT

theorem writes_Act_spillFull {p q : Nat} {P : Nat → Prop} (r_SPILL_EVT : P (SPILL.EVT p)) : Writes (Act.spillFull p q) P := by
  unfold Act.spillFull
  try dsimp only
  repeat' (with_reducible first | exact r_SPILL_EVT | apply writes_Act_modQueue | apply writes_Act_event | apply Writes.seq | apply Writes.get | apply Writes.when | intro _ | dsimp only)
  all_goals first | exact r_SPILL_EVT

theorem writes_spillBlock {p q : Nat} {err : Bool} {P : Nat → Prop} (r_SPILL_EVT : P (SPILL.EVT p)) (r_SPILL_CNT : P (SPILL.CNT p 0)) (r_DEV_CNT_LAST : ∀ x0, P (DEV.CNT_LAST x0)) (r_DEV_EVT : ∀ x0, P (DEV.EVT x0)) (r_QMGR_EVT : P (QMGR.EVT p)) (r_SPILL_CNT_2 : P (SPILL.CNT p 3)) : Writes (spillBlock p q err) P := by
  unfold spillBlock
  try dsimp only
  repeat' (with_reducible first | exact r_SPILL_EVT | exact r_SPILL_CNT | exact r_DEV_CNT_LAST _ | exact r_DEV_EVT _ | exact r_QMGR_EVT | exact r_SPILL_CNT_2 | apply writes_Act_setQueue | apply writes_Act_event | apply writes_Act_count | apply writes_Act_checkShared | apply writes_Act_bumpRate | apply writes_Act_abortSpilled | apply writes_Act_spillFull | apply Writes.all_cons | apply Writes.all_nil | apply Writes.seq | apply Writes.get | apply Writes.when | apply Writes.ite | apply Writes.all_map | intro _ | split | dsimp only)
  all_goals first | exact r_SPILL_EVT | exact r_SPILL_CNT | exact r_DEV_CNT_LAST _ | exact r_DEV_EVT _ | exact r_QMGR_EVT | exact r_SPILL_CNT_2

theorem writes_fetchBlock {p q err cell : Nat} {P : Nat → Prop} (r_SPILL_EVT : P (SPILL.EVT p)) (r_SPILL_CNT : P (SPILL.CNT p 1)) (r_DEV_CNT_LAST : ∀ x0, P (DEV.CNT_LAST x0)) (r_DEV_EVT : ∀ x0, P (DEV.EVT x0)) (r_SPILL_CNT_2 : P (SPILL.CNT p 2)) (r_QMGR_EVT : P (QMGR.EVT p)) (r_SPILL_CNT_3 : P (SPILL.CNT p 3)) : Writes (fetchBlock p q err cell) P := by
  unfold fetchBlock
  try dsimp only
  repeat' (with_reducible first | exact r_SPILL_EVT | exact r_SPILL_CNT | exact r_DEV_CNT_LAST _ | exact r_DEV_EVT _ | exact r_SPILL_CNT_2 | exact r_QMGR_EVT | exact r_SPILL_CNT_3 | apply writes_Act_setQueue | apply writes_Act_event | apply writes_Act_count | apply writes_Act_checkShared | apply writes_Act_bumpRate | apply writes_Act_abortIn | apply writes_Act_abortSpilled | apply Writes.all_cons | apply Writes.all_nil | apply Writes.seq | apply Writes.get | apply Writes.when | apply Writes.skip | apply Writes.ite | apply Writes.all_map | intro _ | split | dsimp only)
  all_goals first | exact r_SPILL_EVT | exact r_SPILL_CNT | exact r_DEV_CNT_LAST _ | exact r_DEV_EVT _ | exact r_SPILL_CNT_2 | exact r_QMGR_EVT | exact r_SPILL_CNT_3

theorem writes_Act_portDone {p n : Nat} {P : Nat → Prop} (r_QMGR_EVT : P (QMGR.EVT p)) (r_ra : P (ra p 129 515)) (r_DEV_CNT_LAST : ∀ x0, P (DEV.CNT_LAST x0)) (r_DEV_EVT : ∀ x0, P (DEV.EVT x0)) (r_FAB_EVT : P (FAB.EVT p)) (r_FAB_CNT : P (FAB.CNT p 3)) (r_FAB_CNT_2 : P (FAB.CNT p 4)) (r_QMGR_DROP_LAST : P (QMGR.DROP_LAST p)) (r_QMGR_CNT : P (QMGR.CNT p 2)) (r_QMGR_LIMIT_DROPS : ∀ x0, P (QMGR.LIMIT_DROPS p x0)) (r_QMGR_CNT_2 : P (QMGR.CNT p 3)) (r_QMGR_CNT_3 : P (QMGR.CNT p 4)) : Writes (Act.portDone p n) P := by
  unfold Act.portDone
  try dsimp only
  repeat' (with_reducible first | exact r_QMGR_EVT | exact r_ra | exact r_DEV_CNT_LAST _ | exact r_DEV_EVT _ | exact r_FAB_EVT | exact r_FAB_CNT | exact r_FAB_CNT_2 | exact r_QMGR_DROP_LAST | exact r_QMGR_CNT | exact r_QMGR_LIMIT_DROPS _ | exact r_QMGR_CNT_2 | exact r_QMGR_CNT_3 | apply writes_Act_depart | apply Writes.get | apply Writes.opt | intro _ | dsimp only)
  all_goals first | exact r_QMGR_EVT | exact r_ra | exact r_DEV_CNT_LAST _ | exact r_DEV_EVT _ | exact r_FAB_EVT | exact r_FAB_CNT | exact r_FAB_CNT_2 | exact r_QMGR_DROP_LAST | exact r_QMGR_CNT | exact r_QMGR_LIMIT_DROPS _ | exact r_QMGR_CNT_2 | exact r_QMGR_CNT_3

theorem writes_cqDataRead {ag : Agent} {p n : Nat} {k : Code → Word → Act} {P : Nat → Prop} (r_QMGR_CQ_STAT : P (QMGR.CQ_STAT p n)) (r_QMGR_EVT : P (QMGR.EVT p)) (r_ra : P (ra p 129 515)) (r_DEV_CNT_LAST : ∀ x0, P (DEV.CNT_LAST x0)) (r_DEV_EVT : ∀ x0, P (DEV.EVT x0)) (r_FAB_EVT : P (FAB.EVT p)) (r_FAB_CNT : P (FAB.CNT p 3)) (r_FAB_CNT_2 : P (FAB.CNT p 4)) (r_QMGR_DROP_LAST : P (QMGR.DROP_LAST p)) (r_QMGR_CNT : P (QMGR.CNT p 2)) (r_QMGR_LIMIT_DROPS : ∀ x0, P (QMGR.LIMIT_DROPS p x0)) (r_QMGR_CNT_2 : P (QMGR.CNT p 3)) (r_QMGR_CNT_3 : P (QMGR.CNT p 4)) (hk_k : ∀ x0 x1, Writes (k x0 x1) P) : Writes (cqDataRead ag p n k) P := by
  unfold cqDataRead
  try dsimp only
  repeat' (with_reducible first | exact r_QMGR_CQ_STAT | exact r_QMGR_EVT | exact r_ra | exact r_DEV_CNT_LAST _ | exact r_DEV_EVT _ | exact r_FAB_EVT | exact r_FAB_CNT | exact r_FAB_CNT_2 | exact r_QMGR_DROP_LAST | exact r_QMGR_CNT | exact r_QMGR_LIMIT_DROPS _ | exact r_QMGR_CNT_2 | exact r_QMGR_CNT_3 | exact hk_k _ _ | apply writes_Act_setPort | apply writes_Act_event | apply writes_Act_portIrq | apply writes_Act_portDone | apply Writes.all_cons | apply Writes.all_nil | apply Writes.seq | apply Writes.get | apply Writes.when | apply Writes.ite | intro _ | split | dsimp only)
  all_goals first | exact r_QMGR_CQ_STAT | exact r_QMGR_EVT | exact r_ra | exact r_DEV_CNT_LAST _ | exact r_DEV_EVT _ | exact r_FAB_EVT | exact r_FAB_CNT | exact r_FAB_CNT_2 | exact r_QMGR_DROP_LAST | exact r_QMGR_CNT | exact r_QMGR_LIMIT_DROPS _ | exact r_QMGR_CNT_2 | exact r_QMGR_CNT_3

theorem writes_dropRest {p n : Nat} {P : Nat → Prop} (r_QMGR_EVT : P (QMGR.EVT p)) (r_ra : P (ra p 129 515)) (r_DEV_CNT_LAST : ∀ x0, P (DEV.CNT_LAST x0)) (r_DEV_EVT : ∀ x0, P (DEV.EVT x0)) (r_FAB_EVT : P (FAB.EVT p)) (r_FAB_CNT : P (FAB.CNT p 3)) (r_FAB_CNT_2 : P (FAB.CNT p 4)) (r_QMGR_DROP_LAST : P (QMGR.DROP_LAST p)) (r_QMGR_CNT : P (QMGR.CNT p 2)) (r_QMGR_LIMIT_DROPS : ∀ x0, P (QMGR.LIMIT_DROPS p x0)) (r_QMGR_CNT_2 : P (QMGR.CNT p 3)) (r_QMGR_CNT_3 : P (QMGR.CNT p 4)) : Writes (dropRest p n) P := by
  unfold dropRest
  try dsimp only
  repeat' (with_reducible first | exact r_QMGR_EVT | exact r_ra | exact r_DEV_CNT_LAST _ | exact r_DEV_EVT _ | exact r_FAB_EVT | exact r_FAB_CNT | exact r_FAB_CNT_2 | exact r_QMGR_DROP_LAST | exact r_QMGR_CNT | exact r_QMGR_LIMIT_DROPS _ | exact r_QMGR_CNT_2 | exact r_QMGR_CNT_3 | apply writes_Act_setPort | apply writes_Act_portDone | apply Writes.seq | apply Writes.get | apply Writes.skip | apply Writes.ite | intro _ | split | dsimp only)
  all_goals first | exact r_QMGR_EVT | exact r_ra | exact r_DEV_CNT_LAST _ | exact r_DEV_EVT _ | exact r_FAB_EVT | exact r_FAB_CNT | exact r_FAB_CNT_2 | exact r_QMGR_DROP_LAST | exact r_QMGR_CNT | exact r_QMGR_LIMIT_DROPS _ | exact r_QMGR_CNT_2 | exact r_QMGR_CNT_3

theorem writes_qCmd {ag : Agent} {p : Nat} {v : Word} {k : Code → Act} {P : Nat → Prop} (r_QMGR_Q_CMD : P (QMGR.Q_CMD p)) (r_QMGR_Q_W0 : P (QMGR.Q_W0 p)) (r_QMGR_Q_W1 : P (QMGR.Q_W1 p)) (r_QMGR_Q_W2 : P (QMGR.Q_W2 p)) (r_BLK_ERR : P (BLK_ERR (aDie (QMGR.Q_CMD p)) (aBlk (QMGR.Q_CMD p)))) (r_QMGR_EVT : P (QMGR.EVT p)) (hk_k : ∀ x0, Writes (k x0) P) : Writes (qCmd ag p v k) P := by
  unfold qCmd
  try dsimp only
  repeat' (with_reducible first | exact r_QMGR_Q_CMD | exact r_QMGR_Q_W0 | exact r_QMGR_Q_W1 | exact r_QMGR_Q_W2 | exact r_BLK_ERR | exact r_QMGR_EVT | exact hk_k _ | apply writes_Act_setFld | apply writes_Act_badValue | apply writes_Act_store | apply writes_Act_checkShared | apply Writes.setReg | apply Writes.setTbl | apply Writes.all_cons | apply Writes.all_nil | apply Writes.seq | apply Writes.get | apply Writes.ite | intro _ | split | dsimp only)
  all_goals first | exact r_QMGR_Q_CMD | exact r_QMGR_Q_W0 | exact r_QMGR_Q_W1 | exact r_QMGR_Q_W2 | exact r_BLK_ERR | exact r_QMGR_EVT

/-! ## Can -/

theorem writes_Act_canCount {p c i : Nat} {P : Nat → Prop} (r_CAN_CNT : P (CAN.CNT p c i)) (r_DEV_CNT_LAST : ∀ x0, P (DEV.CNT_LAST x0)) (r_DEV_EVT : ∀ x0, P (DEV.EVT x0)) : Writes (Act.canCount p c i) P := by
  unfold Act.canCount
  try dsimp only
  repeat' (with_reducible first | exact r_CAN_CNT | exact r_DEV_CNT_LAST _ | exact r_DEV_EVT _ | apply writes_Act_count | intro _ | dsimp only)
  all_goals first | exact r_CAN_CNT | exact r_DEV_CNT_LAST _ | exact r_DEV_EVT _

theorem writes_Act_canEvent {p c i : Nat} {P : Nat → Prop} (r_CAN_EVT : P (CAN.EVT p c)) : Writes (Act.canEvent p c i) P := by
  unfold Act.canEvent
  try dsimp only
  repeat' (with_reducible first | exact r_CAN_EVT | apply writes_Act_eventIrq | intro _ | dsimp only)
  all_goals first | exact r_CAN_EVT

theorem writes_Act_canDropPend {p c i : Nat} {P : Nat → Prop} (r_QMGR_EVT : P (QMGR.EVT p)) (r_CAN_CNT : P (CAN.CNT p c i)) (r_DEV_CNT_LAST : ∀ x0, P (DEV.CNT_LAST x0)) (r_DEV_EVT : ∀ x0, P (DEV.EVT x0)) : Writes (Act.canDropPend p c i) P := by
  unfold Act.canDropPend
  try dsimp only
  repeat' (with_reducible first | exact r_QMGR_EVT | exact r_CAN_CNT | exact r_DEV_CNT_LAST _ | exact r_DEV_EVT _ | apply writes_Act_modQueue | apply writes_Act_modCan | apply writes_Act_checkShared | apply writes_Act_shape | apply writes_Act_canCount | apply Writes.all_cons | apply Writes.all_nil | apply Writes.get | apply Writes.opt | intro _ | dsimp only)
  all_goals first | exact r_QMGR_EVT | exact r_CAN_CNT | exact r_DEV_CNT_LAST _ | exact r_DEV_EVT _

theorem writes_Act_canRelease {p c : Nat} {P : Nat → Prop} : Writes (Act.canRelease p c) P := by
  unfold Act.canRelease
  try dsimp only
  repeat' (with_reducible first | apply writes_Act_modQueue | apply writes_Act_modCan | apply Writes.seq | apply Writes.get | apply Writes.opt | apply Writes.all_map | intro _ | dsimp only)

theorem writes_Act_canEnter {p c : Nat} {st : CanSt} {P : Nat → Prop} (r_QMGR_EVT : P (QMGR.EVT p)) (r_CAN_CNT : P (CAN.CNT p c 11)) (r_DEV_CNT_LAST : ∀ x0, P (DEV.CNT_LAST x0)) (r_DEV_EVT : ∀ x0, P (DEV.EVT x0)) : Writes (Act.canEnter p c st) P := by
  unfold Act.canEnter
  try dsimp only
  repeat' (with_reducible first | exact r_QMGR_EVT | exact r_CAN_CNT | exact r_DEV_CNT_LAST _ | exact r_DEV_EVT _ | apply writes_Act_modCan | apply writes_Act_canDropPend | apply Writes.seq | apply Writes.when | intro _ | dsimp only)
  all_goals first | exact r_QMGR_EVT | exact r_CAN_CNT | exact r_DEV_CNT_LAST _ | exact r_DEV_EVT _

theorem writes_Act_canFailed {p c : Nat} {retry : Bool} {P : Nat → Prop} (r_CAN_CNT : P (CAN.CNT p c 10)) (r_DEV_CNT_LAST : ∀ x0, P (DEV.CNT_LAST x0)) (r_DEV_EVT : ∀ x0, P (DEV.EVT x0)) (r_QMGR_EVT : P (QMGR.EVT p)) (r_CAN_CNT_2 : P (CAN.CNT p c 11)) : Writes (Act.canFailed p c retry) P := by
  unfold Act.canFailed
  try dsimp only
  repeat' (with_reducible first | exact r_CAN_CNT | exact r_DEV_CNT_LAST _ | exact r_DEV_EVT _ | exact r_QMGR_EVT | exact r_CAN_CNT_2 | apply writes_Act_canCount | apply writes_Act_canDropPend | apply writes_Act_canRelease | apply Writes.seq | apply Writes.get | apply Writes.when | apply Writes.skip | apply Writes.ite | intro _ | split | dsimp only)
  all_goals first | exact r_CAN_CNT | exact r_DEV_CNT_LAST _ | exact r_DEV_EVT _ | exact r_QMGR_EVT | exact r_CAN_CNT_2

theorem writes_Act_canCounters {p c tec recv : Nat} {P : Nat → Prop} (r_CAN_CNT : P (CAN.CNT p c 18)) (r_DEV_CNT_LAST : ∀ x0, P (DEV.CNT_LAST x0)) (r_DEV_EVT : ∀ x0, P (DEV.EVT x0)) (r_CAN_EVT : P (CAN.EVT p c)) (r_QMGR_EVT : P (QMGR.EVT p)) (r_CAN_CNT_2 : P (CAN.CNT p c 11)) : Writes (Act.canCounters p c tec recv) P := by
  unfold Act.canCounters
  try dsimp only
  repeat' (with_reducible first | exact r_CAN_CNT | exact r_DEV_CNT_LAST _ | exact r_DEV_EVT _ | exact r_CAN_EVT | exact r_QMGR_EVT | exact r_CAN_CNT_2 | apply writes_Act_modCan | apply writes_Act_offerMon | apply writes_Act_canCount | apply writes_Act_canEvent | apply writes_Act_canEnter | apply Writes.all_cons | apply Writes.all_nil | apply Writes.seq | apply Writes.get | apply Writes.when | apply Writes.skip | apply Writes.ite | intro _ | split | dsimp only)
  all_goals first | exact r_CAN_CNT | exact r_DEV_CNT_LAST _ | exact r_DEV_EVT _ | exact r_CAN_EVT | exact r_QMGR_EVT | exact r_CAN_CNT_2

theorem writes_Act_canException {p c : Nat} {P : Nat → Prop} (r_CAN_CNT : P (CAN.CNT p c 20)) (r_DEV_CNT_LAST : ∀ x0, P (DEV.CNT_LAST x0)) (r_DEV_EVT : ∀ x0, P (DEV.EVT x0)) (r_CAN_EVT : P (CAN.EVT p c)) : Writes (Act.canException p c) P := by
  unfold Act.canException
  try dsimp only
  repeat' (with_reducible first | exact r_CAN_CNT | exact r_DEV_CNT_LAST _ | exact r_DEV_EVT _ | exact r_CAN_EVT | apply writes_Act_modCan | apply writes_Act_canCount | apply writes_Act_canEvent | apply Writes.all_cons | apply Writes.all_nil | intro _ | dsimp only)
  all_goals first | exact r_CAN_CNT | exact r_DEV_CNT_LAST _ | exact r_DEV_EVT _ | exact r_CAN_EVT

theorem writes_Act_tdcMeasure {p c tdcv : Nat} {b : List Byte} {P : Nat → Prop} (r_CAN_CNT : P (CAN.CNT p c 19)) (r_DEV_CNT_LAST : ∀ x0, P (DEV.CNT_LAST x0)) (r_DEV_EVT : ∀ x0, P (DEV.EVT x0)) (r_CAN_EVT : P (CAN.EVT p c)) : Writes (Act.tdcMeasure p c tdcv b) P := by
  unfold Act.tdcMeasure
  try dsimp only
  repeat' (with_reducible first | exact r_CAN_CNT | exact r_DEV_CNT_LAST _ | exact r_DEV_EVT _ | exact r_CAN_EVT | apply writes_Act_modCan | apply writes_Act_offerMon | apply writes_Act_canCount | apply writes_Act_canEvent | apply Writes.seq | apply Writes.get | apply Writes.ite | intro _ | split | dsimp only)
  all_goals first | exact r_CAN_CNT | exact r_DEV_CNT_LAST _ | exact r_DEV_EVT _ | exact r_CAN_EVT

theorem writes_canError {p c kind phase : Nat} {tx : Bool} {eights : Nat} {exempt : Bool} {tdcv : Option Nat} {P : Nat → Prop} (r_CAN_LAST_ERR : P (CAN.LAST_ERR p c)) (r_CAN_LAST_ERR_TIME : P (CAN.LAST_ERR_TIME p c)) (r_CAN_CNT : P (CAN.CNT p c (12 + kind))) (r_DEV_CNT_LAST : ∀ x0, P (DEV.CNT_LAST x0)) (r_DEV_EVT : ∀ x0, P (DEV.EVT x0)) (r_CAN_CNT_2 : P (CAN.CNT p c 10)) (r_QMGR_EVT : P (QMGR.EVT p)) (r_CAN_CNT_3 : P (CAN.CNT p c 11)) (r_CAN_CNT_4 : P (CAN.CNT p c 18)) (r_CAN_EVT : P (CAN.EVT p c)) (r_CAN_CNT_5 : P (CAN.CNT p c 19)) : Writes (canError p c kind phase tx eights exempt tdcv) P := by
  unfold canError
  try dsimp only
  repeat' (with_reducible first | exact r_CAN_LAST_ERR | exact r_CAN_LAST_ERR_TIME | exact r_CAN_CNT | exact r_DEV_CNT_LAST _ | exact r_DEV_EVT _ | exact r_CAN_CNT_2 | exact r_QMGR_EVT | exact r_CAN_CNT_3 | exact r_CAN_CNT_4 | exact r_CAN_EVT | exact r_CAN_CNT_5 | apply writes_Act_emit | apply writes_Act_canCount | apply writes_Act_canFailed | apply writes_Act_canCounters | apply writes_Act_tdcMeasure | apply Writes.setReg | apply Writes.all_cons | apply Writes.all_nil | apply Writes.get | apply Writes.when | apply Writes.opt | apply Writes.ite | intro _ | split | dsimp only)
  all_goals first | exact r_CAN_LAST_ERR | exact r_CAN_LAST_ERR_TIME | exact r_CAN_CNT | exact r_DEV_CNT_LAST _ | exact r_DEV_EVT _ | exact r_CAN_CNT_2 | exact r_QMGR_EVT | exact r_CAN_CNT_3 | exact r_CAN_CNT_4 | exact r_CAN_EVT | exact r_CAN_CNT_5

theorem writes_Act_trkDrop {p c n keep : Nat} {P : Nat → Prop} : Writes (Act.trkDrop p c n keep) P := by
  unfold Act.trkDrop
  try dsimp only
  repeat' (with_reducible first | apply writes_Act_setTrk | apply Writes.get | apply Writes.each | intro _ | dsimp only)

theorem writes_Act_canTrack {p c : Nat} {own : Bool} {b : List Byte} {P : Nat → Prop} (r_CAN_CNT : P (CAN.CNT p c 22)) (r_DEV_CNT_LAST : ∀ x0, P (DEV.CNT_LAST x0)) (r_DEV_EVT : ∀ x0, P (DEV.EVT x0)) (r_CAN_CNT_2 : P (CAN.CNT p c 23)) (r_CAN_EVT : P (CAN.EVT p c)) : Writes (Act.canTrack p c own b) P := by
  unfold Act.canTrack
  try dsimp only
  repeat' (with_reducible first | exact r_CAN_CNT | exact r_DEV_CNT_LAST _ | exact r_DEV_EVT _ | exact r_CAN_CNT_2 | exact r_CAN_EVT | apply writes_Act_setTrk | apply writes_Act_modTrk | apply writes_Act_canCount | apply writes_Act_canEvent | apply writes_Act_trkDrop | apply Writes.all_cons | apply Writes.all_nil | apply Writes.seq | apply Writes.get | apply Writes.when | apply Writes.skip | apply Writes.ite | apply Writes.all_map | intro _ | split | dsimp only)
  all_goals first | exact r_CAN_CNT | exact r_DEV_CNT_LAST _ | exact r_DEV_EVT _ | exact r_CAN_CNT_2 | exact r_CAN_EVT

theorem writes_acAgeSweep {p c : Nat} {P : Nat → Prop} (r_CAN_EVT : P (CAN.EVT p c)) : Writes (acAgeSweep p c) P := by
  unfold acAgeSweep
  try dsimp only
  repeat' (with_reducible first | exact r_CAN_EVT | apply writes_Act_modTrk | apply writes_Act_canEvent | apply Writes.all_cons | apply Writes.all_nil | apply Writes.get | apply Writes.when | apply Writes.each | apply Writes.ite | apply Writes.all_map | intro _ | split | dsimp only)
  all_goals first | exact r_CAN_EVT

theorem writes_Act_trkEmpty {p c : Nat} {P : Nat → Prop} : Writes (Act.trkEmpty p c) P := by
  unfold Act.trkEmpty
  try dsimp only
  repeat' (with_reducible first | apply writes_Act_setTrk | apply Writes.get | apply Writes.each | intro _ | dsimp only)

theorem writes_acCmd {ag : Agent} {p c : Nat} {v : Word} {k : Code → Act} {P : Nat → Prop} (r_CAN_AC_CMD : P (CAN.AC_CMD p c)) (r_CAN_AC_W0 : P (CAN.AC_W0 p c)) (r_CAN_AC_W1 : P (CAN.AC_W1 p c)) (r_BLK_ERR : P (BLK_ERR (aDie (CAN.AC_CMD p c)) (aBlk (CAN.AC_CMD p c)))) (hk_k : ∀ x0, Writes (k x0) P) : Writes (acCmd ag p c v k) P := by
  unfold acCmd
  try dsimp only
  repeat' (with_reducible first | exact r_CAN_AC_CMD | exact r_CAN_AC_W0 | exact r_CAN_AC_W1 | exact r_BLK_ERR | exact hk_k _ | apply writes_Act_badValue | apply writes_Act_store | apply writes_Act_trkEmpty | apply Writes.setReg | apply Writes.all_cons | apply Writes.all_nil | apply Writes.seq | apply Writes.get | apply Writes.ite | apply Writes.all_map | intro _ | split | dsimp only)
  all_goals first | exact r_CAN_AC_CMD | exact r_CAN_AC_W0 | exact r_CAN_AC_W1 | exact r_BLK_ERR

theorem writes_Act_busOffer {p f : Nat} {b : List Byte} {ts : Nat} {P : Nat → Prop} : Writes (Act.busOffer p f b ts) P := by
  unfold Act.busOffer
  try dsimp only
  repeat' (with_reducible first | apply writes_Act_intake | apply Writes.get | intro _ | dsimp only)

theorem writes_Act_canAccept {p c : Nat} {b : List Byte} {ts : Nat} {P : Nat → Prop} (r_DEV_CNT_LAST : ∀ x0, P (DEV.CNT_LAST x0)) (r_DEV_EVT : ∀ x0, P (DEV.EVT x0)) (r_CAN_CNT : ∀ x0, P (CAN.CNT p c x0)) (r_CAN_EVT : P (CAN.EVT p c)) : Writes (Act.canAccept p c b ts) P := by
  unfold Act.canAccept
  try dsimp only
  repeat' (with_reducible first | exact r_DEV_CNT_LAST _ | exact r_DEV_EVT _ | exact r_CAN_CNT _ | exact r_CAN_EVT | apply writes_Act_countBy | apply writes_Act_offerMon | apply writes_Act_canCount | apply writes_Act_canEvent | apply writes_Act_busOffer | apply Writes.all_cons | apply Writes.all_nil | apply Writes.seq | apply Writes.get | apply Writes.ite | intro _ | split | dsimp only)
  all_goals first | exact r_DEV_CNT_LAST _ | exact r_DEV_EVT _ | exact r_CAN_CNT _ | exact r_CAN_EVT

theorem writes_Act_recvGood {p c : Nat} {P : Nat → Prop} (r_CAN_CNT : P (CAN.CNT p c 18)) (r_DEV_CNT_LAST : ∀ x0, P (DEV.CNT_LAST x0)) (r_DEV_EVT : ∀ x0, P (DEV.EVT x0)) (r_CAN_EVT : P (CAN.EVT p c)) (r_QMGR_EVT : P (QMGR.EVT p)) (r_CAN_CNT_2 : P (CAN.CNT p c 11)) : Writes (Act.recvGood p c) P := by
  unfold Act.recvGood
  try dsimp only
  repeat' (with_reducible first | exact r_CAN_CNT | exact r_DEV_CNT_LAST _ | exact r_DEV_EVT _ | exact r_CAN_EVT | exact r_QMGR_EVT | exact r_CAN_CNT_2 | apply writes_Act_freeBelow | apply writes_Act_canCounters | apply Writes.get | apply Writes.ite | intro _ | split | dsimp only)
  all_goals first | exact r_CAN_CNT | exact r_DEV_CNT_LAST _ | exact r_DEV_EVT _ | exact r_CAN_EVT | exact r_QMGR_EVT | exact r_CAN_CNT_2

theorem writes_canReceive {p c : Nat} {b : List Byte} {res : Bool} {ago : Nat} {P : Nat → Prop} (r_DEV_CNT_LAST : ∀ x0, P (DEV.CNT_LAST x0)) (r_DEV_EVT : ∀ x0, P (DEV.EVT x0)) (r_CAN_EVT : P (CAN.EVT p c)) (r_CAN_LAST_ERR : P (CAN.LAST_ERR p c)) (r_CAN_LAST_ERR_TIME : P (CAN.LAST_ERR_TIME p c)) (r_QMGR_EVT : P (QMGR.EVT p)) (r_CAN_CNT : ∀ x0, P (CAN.CNT p c x0)) : Writes (canReceive p c b res ago) P := by
  unfold canReceive
  try dsimp only
  repeat' (with_reducible first | exact r_DEV_CNT_LAST _ | exact r_DEV_EVT _ | exact r_CAN_EVT | exact r_CAN_LAST_ERR | exact r_CAN_LAST_ERR_TIME | exact r_QMGR_EVT | exact r_CAN_CNT _ | apply writes_Act_emit | apply writes_Act_canException | apply writes_canError | apply writes_Act_canTrack | apply writes_Act_canAccept | apply writes_Act_recvGood | apply Writes.all_cons | apply Writes.all_nil | apply Writes.get | apply Writes.when | apply Writes.skip | apply Writes.ite | intro _ | split | dsimp only)
  all_goals first | exact r_DEV_CNT_LAST _ | exact r_DEV_EVT _ | exact r_CAN_EVT | exact r_CAN_LAST_ERR | exact r_CAN_LAST_ERR_TIME | exact r_QMGR_EVT | exact r_CAN_CNT _

theorem writes_canTransmitDone {p c tdcv ago : Nat} {P : Nat → Prop} (r_DEV_CNT_LAST : ∀ x0, P (DEV.CNT_LAST x0)) (r_DEV_EVT : ∀ x0, P (DEV.EVT x0)) (r_QMGR_EVT : P (QMGR.EVT p)) (r_ra : P (ra p 129 515)) (r_FAB_EVT : P (FAB.EVT p)) (r_FAB_CNT : P (FAB.CNT p 3)) (r_FAB_CNT_2 : P (FAB.CNT p 4)) (r_QMGR_DROP_LAST : P (QMGR.DROP_LAST p)) (r_QMGR_CNT : P (QMGR.CNT p 2)) (r_QMGR_LIMIT_DROPS : ∀ x0, P (QMGR.LIMIT_DROPS p x0)) (r_QMGR_CNT_2 : P (QMGR.CNT p 3)) (r_QMGR_CNT_3 : P (QMGR.CNT p 4)) (r_CAN_EVT : P (CAN.EVT p c)) (r_CAN_CNT : ∀ x0, P (CAN.CNT p c x0)) : Writes (canTransmitDone p c tdcv ago) P := by
  unfold canTransmitDone
  try dsimp only
  repeat' (with_reducible first | exact r_DEV_CNT_LAST _ | exact r_DEV_EVT _ | exact r_QMGR_EVT | exact r_ra | exact r_FAB_EVT | exact r_FAB_CNT | exact r_FAB_CNT_2 | exact r_QMGR_DROP_LAST | exact r_QMGR_CNT | exact r_QMGR_LIMIT_DROPS _ | exact r_QMGR_CNT_2 | exact r_QMGR_CNT_3 | exact r_CAN_EVT | exact r_CAN_CNT _ | apply writes_Act_emit | apply writes_Act_modCan | apply writes_Act_countBy | apply writes_Act_offerMon | apply writes_Act_depart | apply writes_Act_canCount | apply writes_Act_canCounters | apply writes_Act_tdcMeasure | apply writes_Act_canTrack | apply writes_Act_canAccept | apply Writes.all_cons | apply Writes.all_nil | apply Writes.get | apply Writes.when | apply Writes.opt | apply Writes.skip | apply Writes.ite | intro _ | split | dsimp only)
  all_goals first | exact r_DEV_CNT_LAST _ | exact r_DEV_EVT _ | exact r_QMGR_EVT | exact r_ra | exact r_FAB_EVT | exact r_FAB_CNT | exact r_FAB_CNT_2 | exact r_QMGR_DROP_LAST | exact r_QMGR_CNT | exact r_QMGR_LIMIT_DROPS _ | exact r_QMGR_CNT_2 | exact r_QMGR_CNT_3 | exact r_CAN_EVT | exact r_CAN_CNT _

theorem writes_canArbitrationLost {p c : Nat} {P : Nat → Prop} (r_CAN_CNT : P (CAN.CNT p c 9)) (r_DEV_CNT_LAST : ∀ x0, P (DEV.CNT_LAST x0)) (r_DEV_EVT : ∀ x0, P (DEV.EVT x0)) (r_CAN_CNT_2 : P (CAN.CNT p c 10)) (r_QMGR_EVT : P (QMGR.EVT p)) (r_CAN_CNT_3 : P (CAN.CNT p c 11)) : Writes (canArbitrationLost p c) P := by
  unfold canArbitrationLost
  try dsimp only
  repeat' (with_reducible first | exact r_CAN_CNT | exact r_DEV_CNT_LAST _ | exact r_DEV_EVT _ | exact r_CAN_CNT_2 | exact r_QMGR_EVT | exact r_CAN_CNT_3 | apply writes_Act_canCount | apply writes_Act_canFailed | apply Writes.seq | apply Writes.get | apply Writes.when | intro _ | dsimp only)
  all_goals first | exact r_CAN_CNT | exact r_DEV_CNT_LAST _ | exact r_DEV_EVT _ | exact r_CAN_CNT_2 | exact r_QMGR_EVT | exact r_CAN_CNT_3

theorem writes_Act_canTake {p c : Nat} {z0 : Nat} {P : Nat → Prop} (r_QMGR_EVT : P (QMGR.EVT p)) (r_CAN_CNT : P (CAN.CNT p c 12)) (r_DEV_CNT_LAST : ∀ x0, P (DEV.CNT_LAST x0)) (r_DEV_EVT : ∀ x0, P (DEV.EVT x0)) : Writes (Act.canTake p c z0) P := by
  induction z0 with
  | zero =>
    unfold Act.canTake
    exact Writes.skip
  | succ z0 ih =>
    unfold Act.canTake
    try dsimp only
    repeat' (with_reducible first | exact ih | exact r_QMGR_EVT | exact r_CAN_CNT | exact r_DEV_CNT_LAST _ | exact r_DEV_EVT _ | apply writes_Act_modQueue | apply writes_Act_modCan | apply writes_Act_checkShared | apply writes_Act_schedule | apply writes_Act_canCount | apply Writes.all_cons | apply Writes.all_nil | apply Writes.get | apply Writes.skip | apply Writes.ite | intro _ | split | dsimp only)
  all_goals first | exact r_QMGR_EVT | exact r_CAN_CNT | exact r_DEV_CNT_LAST _ | exact r_DEV_EVT _

theorem writes_Act_canSelect {p c : Nat} {P : Nat → Prop} (r_QMGR_EVT : P (QMGR.EVT p)) (r_CAN_CNT : P (CAN.CNT p c 12)) (r_DEV_CNT_LAST : ∀ x0, P (DEV.CNT_LAST x0)) (r_DEV_EVT : ∀ x0, P (DEV.EVT x0)) : Writes (Act.canSelect p c) P := by
  unfold Act.canSelect
  try dsimp only
  repeat' (with_reducible first | exact r_QMGR_EVT | exact r_CAN_CNT | exact r_DEV_CNT_LAST _ | exact r_DEV_EVT _ | apply writes_Act_canTake | apply Writes.get | apply Writes.skip | apply Writes.ite | intro _ | split | dsimp only)
  all_goals first | exact r_QMGR_EVT | exact r_CAN_CNT | exact r_DEV_CNT_LAST _ | exact r_DEV_EVT _

theorem writes_canIntegrated {p c : Nat} {P : Nat → Prop} (r_QMGR_EVT : P (QMGR.EVT p)) (r_CAN_CNT : P (CAN.CNT p c 11)) (r_DEV_CNT_LAST : ∀ x0, P (DEV.CNT_LAST x0)) (r_DEV_EVT : ∀ x0, P (DEV.EVT x0)) : Writes (canIntegrated p c) P := by
  unfold canIntegrated
  try dsimp only
  repeat' (with_reducible first | exact r_QMGR_EVT | exact r_CAN_CNT | exact r_DEV_CNT_LAST _ | exact r_DEV_EVT _ | apply writes_Act_canEnter | apply Writes.get | apply Writes.when | intro _ | dsimp only)
  all_goals first | exact r_QMGR_EVT | exact r_CAN_CNT | exact r_DEV_CNT_LAST _ | exact r_DEV_EVT _

theorem writes_canRecoveryDone {p c : Nat} {P : Nat → Prop} (r_CAN_EVT : P (CAN.EVT p c)) (r_QMGR_EVT : P (QMGR.EVT p)) (r_CAN_CNT : P (CAN.CNT p c 11)) (r_DEV_CNT_LAST : ∀ x0, P (DEV.CNT_LAST x0)) (r_DEV_EVT : ∀ x0, P (DEV.EVT x0)) (r_CAN_CNT_2 : P (CAN.CNT p c 18)) : Writes (canRecoveryDone p c) P := by
  unfold canRecoveryDone
  try dsimp only
  repeat' (with_reducible first | exact r_CAN_EVT | exact r_QMGR_EVT | exact r_CAN_CNT | exact r_DEV_CNT_LAST _ | exact r_DEV_EVT _ | exact r_CAN_CNT_2 | apply writes_Act_canEvent | apply writes_Act_canEnter | apply writes_Act_canCounters | apply Writes.all_cons | apply Writes.all_nil | apply Writes.get | apply Writes.when | intro _ | dsimp only)
  all_goals first | exact r_CAN_EVT | exact r_QMGR_EVT | exact r_CAN_CNT | exact r_DEV_CNT_LAST _ | exact r_DEV_EVT _ | exact r_CAN_CNT_2

theorem writes_canRecover {p c : Nat} {P : Nat → Prop} : Writes (canRecover p c) P := by
  unfold canRecover
  try dsimp only
  repeat' (with_reducible first | apply writes_Act_modCan | apply Writes.ite | intro _ | split | dsimp only)

theorem writes_canAbortTx {p c : Nat} {P : Nat → Prop} : Writes (canAbortTx p c) P := by
  unfold canAbortTx
  try dsimp only
  repeat' (with_reducible first | apply writes_Act_modCan | intro _ | dsimp only)

theorem writes_canCmd {p c : Nat} {v : Word} {k : Code → Act} {P : Nat → Prop} (hk_k : ∀ x0, Writes (k x0) P) : Writes (canCmd p c v k) P := by
  unfold canCmd
  try dsimp only
  repeat' (with_reducible first | exact hk_k _ | apply writes_canRecover | apply writes_canAbortTx | apply Writes.all_cons | apply Writes.all_nil | apply Writes.when | intro _ | dsimp only)

theorem writes_Act_canEnable {p c : Nat} {P : Nat → Prop} : Writes (Act.canEnable p c) P := by
  unfold Act.canEnable
  try dsimp only
  repeat' (with_reducible first | apply writes_Act_modCan | intro _ | dsimp only)

theorem writes_Act_canOff {p c : Nat} {P : Nat → Prop} (r_QMGR_EVT : P (QMGR.EVT p)) (r_CAN_CNT : P (CAN.CNT p c 11)) (r_DEV_CNT_LAST : ∀ x0, P (DEV.CNT_LAST x0)) (r_DEV_EVT : ∀ x0, P (DEV.EVT x0)) : Writes (Act.canOff p c) P := by
  unfold Act.canOff
  try dsimp only
  repeat' (with_reducible first | exact r_QMGR_EVT | exact r_CAN_CNT | exact r_DEV_CNT_LAST _ | exact r_DEV_EVT _ | apply writes_Act_canEnter | intro _ | dsimp only)
  all_goals first | exact r_QMGR_EVT | exact r_CAN_CNT | exact r_DEV_CNT_LAST _ | exact r_DEV_EVT _

theorem writes_Act_canClockLost {p c : Nat} {P : Nat → Prop} (r_CAN_CNT : P (CAN.CNT p c 21)) (r_DEV_CNT_LAST : ∀ x0, P (DEV.CNT_LAST x0)) (r_DEV_EVT : ∀ x0, P (DEV.EVT x0)) (r_CAN_EVT : P (CAN.EVT p c)) (r_QMGR_EVT : P (QMGR.EVT p)) : Writes (Act.canClockLost p c) P := by
  unfold Act.canClockLost
  try dsimp only
  repeat' (with_reducible first | exact r_CAN_CNT | exact r_DEV_CNT_LAST _ | exact r_DEV_EVT _ | exact r_CAN_EVT | exact r_QMGR_EVT | apply writes_Act_setBuf | apply writes_Act_modCan | apply writes_Act_countBy | apply writes_Act_canEvent | apply writes_Act_canDropPend | apply Writes.all_cons | apply Writes.all_nil | apply Writes.get | apply Writes.ite | intro _ | split | dsimp only)
  all_goals first | exact r_CAN_CNT | exact r_DEV_CNT_LAST _ | exact r_DEV_EVT _ | exact r_CAN_EVT | exact r_QMGR_EVT

theorem writes_Act_canSleep {p c : Nat} {P : Nat → Prop} (r_QMGR_EVT : P (QMGR.EVT p)) (r_CAN_CNT : P (CAN.CNT p c 11)) (r_DEV_CNT_LAST : ∀ x0, P (DEV.CNT_LAST x0)) (r_DEV_EVT : ∀ x0, P (DEV.EVT x0)) : Writes (Act.canSleep p c) P := by
  unfold Act.canSleep
  try dsimp only
  repeat' (with_reducible first | exact r_QMGR_EVT | exact r_CAN_CNT | exact r_DEV_CNT_LAST _ | exact r_DEV_EVT _ | apply writes_Act_modCan | apply writes_Act_canEnter | apply Writes.seq | apply Writes.get | apply Writes.skip | apply Writes.ite | intro _ | split | dsimp only)
  all_goals first | exact r_QMGR_EVT | exact r_CAN_CNT | exact r_DEV_CNT_LAST _ | exact r_DEV_EVT _

theorem writes_Act_canWake {p c : Nat} {P : Nat → Prop} : Writes (Act.canWake p c) P := by
  unfold Act.canWake
  try dsimp only
  repeat' (with_reducible first | apply writes_Act_modCan | apply Writes.ite | intro _ | split | dsimp only)

theorem writes_filtCmd {ag : Agent} {p c : Nat} {v : Word} {k : Code → Act} {P : Nat → Prop} (r_CAN_FILT_CMD : P (CAN.FILT_CMD p c)) (r_CAN_FILT_W0 : P (CAN.FILT_W0 p c)) (r_CAN_FILT_W1 : P (CAN.FILT_W1 p c)) (r_BLK_ERR : P (BLK_ERR (aDie (CAN.FILT_CMD p c)) (aBlk (CAN.FILT_CMD p c)))) (hk_k : ∀ x0, Writes (k x0) P) : Writes (filtCmd ag p c v k) P := by
  unfold filtCmd
  try dsimp only
  repeat' (with_reducible first | exact r_CAN_FILT_CMD | exact r_CAN_FILT_W0 | exact r_CAN_FILT_W1 | exact r_BLK_ERR | exact hk_k _ | apply writes_Act_setFld | apply writes_Act_setTblWords | apply writes_Act_badValue | apply writes_Act_store | apply Writes.setReg | apply Writes.all_cons | apply Writes.all_nil | apply Writes.seq | apply Writes.get | apply Writes.ite | intro _ | split | dsimp only)
  all_goals first | exact r_CAN_FILT_CMD | exact r_CAN_FILT_W0 | exact r_CAN_FILT_W1 | exact r_BLK_ERR

end Sys2Proof.Machine
end

