-- ==== Sys2Proof/Laws/Writes/Group3.lean ====
section
/-! SUPPORT. Which registers the operations of Lookup, KeyStore, Msec, Eth, Time may write. -/

set_option linter.unusedTactic false
set_option linter.unreachableTactic false

namespace Sys2Proof.Machine

/-! ## Lookup -/

theorem writes_Act_clsDrop {p f reason : Nat} {P : Nat → Prop} (r_CLS_DROP_LAST : P (CLS.DROP_LAST p)) (r_CLS_CNT : ∀ x0, P (CLS.CNT p x0)) (r_DEV_CNT_LAST : ∀ x0, P (DEV.CNT_LAST x0)) (r_DEV_EVT : ∀ x0, P (DEV.EVT x0)) : Writes (Act.clsDrop p f reason) P := by
  unfold Act.clsDrop
  try dsimp only
  repeat' (with_reducible first | exact r_CLS_DROP_LAST | exact r_CLS_CNT _ | exact r_DEV_CNT_LAST _ | exact r_DEV_EVT _ | apply writes_Act_modBuf | apply writes_Act_setFlds | apply writes_Act_count | apply Writes.all_cons | apply Writes.all_nil | apply Writes.ite | intro _ | split | dsimp only)
  all_goals first | exact r_CLS_DROP_LAST | exact r_CLS_CNT _ | exact r_DEV_CNT_LAST _ | exact r_DEV_EVT _

theorem writes_Act_notice {p : Nat} {learn : Bool} {fid mac facet : Nat} {P : Nat → Prop} : Writes (Act.notice p learn fid mac facet) P := by
  unfold Act.notice
  try dsimp only
  repeat' (with_reducible first | apply writes_Act_modLink | apply Writes.get | apply Writes.each | intro _ | dsimp only)

theorem writes_Act_learnOverrun {p : Nat} {P : Nat → Prop} (r_CLS_EVT : P (CLS.EVT p)) (r_CLS_CNT : P (CLS.CNT p 8)) (r_DEV_CNT_LAST : ∀ x0, P (DEV.CNT_LAST x0)) (r_DEV_EVT : ∀ x0, P (DEV.EVT x0)) : Writes (Act.learnOverrun p) P := by
  unfold Act.learnOverrun
  try dsimp only
  repeat' (with_reducible first | exact r_CLS_EVT | exact r_CLS_CNT | exact r_DEV_CNT_LAST _ | exact r_DEV_EVT _ | apply writes_Act_event | apply writes_Act_count | apply Writes.seq | intro _ | dsimp only)
  all_goals first | exact r_CLS_EVT | exact r_CLS_CNT | exact r_DEV_CNT_LAST _ | exact r_DEV_EVT _

theorem writes_Act_macRemove {p i : Nat} {P : Nat → Prop} : Writes (Act.macRemove p i) P := by
  unfold Act.macRemove
  try dsimp only
  repeat' (with_reducible first | apply writes_Act_setTblWords | apply writes_Act_notice | apply Writes.seq | apply Writes.get | apply Writes.when | intro _ | dsimp only)

theorem writes_Act_macVictim {p bucket : Nat} {k : Option Nat → Act} {P : Nat → Prop} (hk_k : ∀ x0, Writes (k x0) P) : Writes (Act.macVictim p bucket k) P := by
  unfold Act.macVictim
  try dsimp only
  repeat' (with_reducible first | exact hk_k _ | apply writes_Act_freeBelow | apply Writes.get | apply Writes.ite | apply Writes.all_map | intro _ | split | dsimp only)

theorem writes_Act_macEvict {p i : Nat} {P : Nat → Prop} (r_CLS_EVT : P (CLS.EVT p)) (r_CLS_CNT : P (CLS.CNT p 2)) (r_DEV_CNT_LAST : ∀ x0, P (DEV.CNT_LAST x0)) (r_DEV_EVT : ∀ x0, P (DEV.EVT x0)) : Writes (Act.macEvict p i) P := by
  unfold Act.macEvict
  try dsimp only
  repeat' (with_reducible first | exact r_CLS_EVT | exact r_CLS_CNT | exact r_DEV_CNT_LAST _ | exact r_DEV_EVT _ | apply writes_Act_event | apply writes_Act_count | apply writes_Act_macRemove | apply Writes.all_cons | apply Writes.all_nil | apply Writes.get | apply Writes.when | intro _ | dsimp only)
  all_goals first | exact r_CLS_EVT | exact r_CLS_CNT | exact r_DEV_CNT_LAST _ | exact r_DEV_EVT _

theorem writes_Act_macRoom {p fid mac : Nat} {k : Option Nat → Act} {P : Nat → Prop} (hk_k : ∀ x0, Writes (k x0) P) : Writes (Act.macRoom p fid mac k) P := by
  unfold Act.macRoom
  try dsimp only
  repeat' (with_reducible first | exact hk_k _ | apply writes_Act_macVictim | apply Writes.get | apply Writes.all_map | intro _ | split | dsimp only)

theorem writes_Act_macLearn {p fid mac facet : Nat} {remote : Bool} {P : Nat → Prop} (r_CLS_EVT : P (CLS.EVT p)) (r_CLS_CNT : ∀ x0, P (CLS.CNT p x0)) (r_DEV_CNT_LAST : ∀ x0, P (DEV.CNT_LAST x0)) (r_DEV_EVT : ∀ x0, P (DEV.EVT x0)) : Writes (Act.macLearn p fid mac facet remote) P := by
  unfold Act.macLearn
  try dsimp only
  repeat' (with_reducible first | exact r_CLS_EVT | exact r_CLS_CNT _ | exact r_DEV_CNT_LAST _ | exact r_DEV_EVT _ | apply writes_Act_event | apply writes_Act_count | apply writes_Act_setTblWords | apply writes_Act_notice | apply writes_Act_learnOverrun | apply writes_Act_macEvict | apply writes_Act_macRoom | apply Writes.setTbl | apply Writes.all_cons | apply Writes.all_nil | apply Writes.seq | apply Writes.get | apply Writes.when | apply Writes.skip | apply Writes.ite | intro _ | split | dsimp only)
  all_goals first | exact r_CLS_EVT | exact r_CLS_CNT _ | exact r_DEV_CNT_LAST _ | exact r_DEV_EVT _

theorem writes_learnNoticeReceive {p j : Nat} {busy : Bool} {P : Nat → Prop} (r_DEV_CNT_LAST : ∀ x0, P (DEV.CNT_LAST x0)) (r_DEV_EVT : ∀ x0, P (DEV.EVT x0)) (r_CLS_EVT : P (CLS.EVT p)) (r_CLS_CNT : ∀ x0, P (CLS.CNT p x0)) : Writes (learnNoticeReceive p j busy) P := by
  unfold learnNoticeReceive
  try dsimp only
  repeat' (with_reducible first | exact r_DEV_CNT_LAST _ | exact r_DEV_EVT _ | exact r_CLS_EVT | exact r_CLS_CNT _ | apply writes_Act_modLink | apply writes_Act_count | apply writes_Act_setTblWords | apply writes_Act_macLearn | apply Writes.seq | apply Writes.get | apply Writes.when | apply Writes.skip | apply Writes.ite | intro _ | split | dsimp only)
  all_goals first | exact r_DEV_CNT_LAST _ | exact r_DEV_EVT _ | exact r_CLS_EVT | exact r_CLS_CNT _

theorem writes_ageingSweep {p : Nat} {P : Nat → Prop} (r_CLS_CNT : P (CLS.CNT p 3)) (r_DEV_CNT_LAST : ∀ x0, P (DEV.CNT_LAST x0)) (r_DEV_EVT : ∀ x0, P (DEV.EVT x0)) (r_CLS_EVT : P (CLS.EVT p)) (r_CLS_CNT_2 : P (CLS.CNT p 8)) : Writes (ageingSweep p) P := by
  unfold ageingSweep
  try dsimp only
  repeat' (with_reducible first | exact r_CLS_CNT | exact r_DEV_CNT_LAST _ | exact r_DEV_EVT _ | exact r_CLS_EVT | exact r_CLS_CNT_2 | apply writes_Act_count | apply writes_Act_learnOverrun | apply writes_Act_macRemove | apply Writes.setTbl | apply Writes.seq | apply Writes.get | apply Writes.each | apply Writes.ite | intro _ | split | dsimp only)
  all_goals first | exact r_CLS_CNT | exact r_DEV_CNT_LAST _ | exact r_DEV_EVT _ | exact r_CLS_EVT | exact r_CLS_CNT_2

theorem writes_Act_floodPolice {p f n : Nat} {k : Bool → Act} {P : Nat → Prop} (hk_k : ∀ x0, Writes (k x0) P) : Writes (Act.floodPolice p f n k) P := by
  unfold Act.floodPolice
  try dsimp only
  repeat' (with_reducible first | exact hk_k _ | apply writes_Act_setFlood | apply Writes.seq | apply Writes.get | apply Writes.ite | intro _ | split | dsimp only)

theorem writes_Act_filtCount {p i c : Nat} {P : Nat → Prop} (r_PSFP_CNT_HALF_LAST : P (PSFP.CNT_HALF_LAST p)) (r_PSFP_EVT : P (PSFP.EVT p)) (r_DEV_CNT_LAST : ∀ x0, P (DEV.CNT_LAST x0)) (r_DEV_EVT : ∀ x0, P (DEV.EVT x0)) : Writes (Act.filtCount p i c) P := by
  unfold Act.filtCount
  try dsimp only
  repeat' (with_reducible first | exact r_PSFP_CNT_HALF_LAST | exact r_PSFP_EVT | exact r_DEV_CNT_LAST _ | exact r_DEV_EVT _ | apply writes_Act_setFld | apply writes_Act_event | apply writes_Act_passedHalf | apply Writes.setTbl | apply Writes.all_cons | apply Writes.all_nil | apply Writes.seq | apply Writes.get | apply Writes.when | intro _ | dsimp only)
  all_goals first | exact r_PSFP_CNT_HALF_LAST | exact r_PSFP_EVT | exact r_DEV_CNT_LAST _ | exact r_DEV_EVT _

theorem writes_Act_meter {p m n : Nat} {dei : Bool} {k : Metered → Act} {P : Nat → Prop} (r_PSFP_LAST : P (PSFP.LAST p)) (r_PSFP_EVT : P (PSFP.EVT p)) (hk_k : ∀ x0, Writes (k x0) P) : Writes (Act.meter p m n dei k) P := by
  unfold Act.meter
  try dsimp only
  repeat' (with_reducible first | exact r_PSFP_LAST | exact r_PSFP_EVT | exact hk_k _ | apply writes_Act_setMtrC | apply writes_Act_setMtrE | apply writes_Act_setFld | apply writes_Act_event | apply Writes.setTbl | apply Writes.all_cons | apply Writes.all_nil | apply Writes.seq | apply Writes.get | apply Writes.when | apply Writes.ite | intro _ | split | dsimp only)
  all_goals first | exact r_PSFP_LAST | exact r_PSFP_EVT

theorem writes_Act_filter {p i n : Nat} {dei : Bool} {k : Metered → Act} {P : Nat → Prop} (r_PSFP_LAST : P (PSFP.LAST p)) (r_PSFP_EVT : P (PSFP.EVT p)) (r_PSFP_CNT_HALF_LAST : P (PSFP.CNT_HALF_LAST p)) (r_DEV_CNT_LAST : ∀ x0, P (DEV.CNT_LAST x0)) (r_DEV_EVT : ∀ x0, P (DEV.EVT x0)) (hk_k : ∀ x0, Writes (k x0) P) : Writes (Act.filter p i n dei k) P := by
  unfold Act.filter
  try dsimp only
  repeat' (with_reducible first | exact r_PSFP_LAST | exact r_PSFP_EVT | exact r_PSFP_CNT_HALF_LAST | exact r_DEV_CNT_LAST _ | exact r_DEV_EVT _ | exact hk_k _ | apply writes_Act_setFld | apply writes_Act_event | apply writes_Act_filtCount | apply writes_Act_meter | apply Writes.setTbl | apply Writes.all_cons | apply Writes.all_nil | apply Writes.seq | apply Writes.get | apply Writes.when | apply Writes.ite | intro _ | split | dsimp only)
  all_goals first | exact r_PSFP_LAST | exact r_PSFP_EVT | exact r_PSFP_CNT_HALF_LAST | exact r_DEV_CNT_LAST _ | exact r_DEV_EVT _

theorem writes_Act_recCount {p i w : Nat} {P : Nat → Prop} (r_DEV_CNT_LAST : ∀ x0, P (DEV.CNT_LAST x0)) (r_DEV_EVT : ∀ x0, P (DEV.EVT x0)) : Writes (Act.recCount p i w) P := by
  unfold Act.recCount
  try dsimp only
  repeat' (with_reducible first | exact r_DEV_CNT_LAST _ | exact r_DEV_EVT _ | apply writes_Act_passedHalf | apply Writes.setTbl | apply Writes.seq | apply Writes.get | apply Writes.when | intro _ | dsimp only)
  all_goals first | exact r_DEV_CNT_LAST _ | exact r_DEV_EVT _

theorem writes_Act_recover {p f vid : Nat} {b : List Byte} {k : Option (List Byte) → Act} {P : Nat → Prop} (r_PAIR_EVT : P (PAIR.EVT p)) (r_PAIR_CNT : P (PAIR.CNT p 1)) (r_DEV_CNT_LAST : ∀ x0, P (DEV.CNT_LAST x0)) (r_DEV_EVT : ∀ x0, P (DEV.EVT x0)) (r_PAIR_CNT_2 : P (PAIR.CNT p 4)) (r_PAIR_CNT_3 : P (PAIR.CNT p 2)) (r_PAIR_CNT_4 : P (PAIR.CNT p 3)) (hk_k : ∀ x0, Writes (k x0) P) : Writes (Act.recover p f vid b k) P := by
  unfold Act.recover
  try dsimp only
  repeat' (with_reducible first | exact r_PAIR_EVT | exact r_PAIR_CNT | exact r_DEV_CNT_LAST _ | exact r_DEV_EVT _ | exact r_PAIR_CNT_2 | exact r_PAIR_CNT_3 | exact r_PAIR_CNT_4 | exact hk_k _ | apply writes_Act_setRcv | apply writes_Act_event | apply writes_Act_count | apply writes_Act_recCount | apply Writes.all_cons | apply Writes.all_nil | apply Writes.seq | apply Writes.get | apply Writes.when | apply Writes.ite | intro _ | split | dsimp only)
  all_goals first | exact r_PAIR_EVT | exact r_PAIR_CNT | exact r_DEV_CNT_LAST _ | exact r_DEV_EVT _ | exact r_PAIR_CNT_2 | exact r_PAIR_CNT_3 | exact r_PAIR_CNT_4

theorem writes_Act_decideTo {p f : Nat} {r : RxFrame} {cls flow : Nat} {filt : Option Nat} {hold : Bool} {b : List Byte} {g : Goal} {P : Nat → Prop} (r_CLS_DROP_LAST : P (CLS.DROP_LAST p)) (r_CLS_CNT : ∀ x0, P (CLS.CNT p x0)) (r_DEV_CNT_LAST : ∀ x0, P (DEV.CNT_LAST x0)) (r_DEV_EVT : ∀ x0, P (DEV.EVT x0)) : Writes (Act.decideTo p f r cls flow filt hold b g) P := by
  unfold Act.decideTo
  try dsimp only
  repeat' (with_reducible first | exact r_CLS_DROP_LAST | exact r_CLS_CNT _ | exact r_DEV_CNT_LAST _ | exact r_DEV_EVT _ | apply writes_Act_modBuf | apply writes_Act_clsDrop | apply Writes.ite | intro _ | split | dsimp only)
  all_goals first | exact r_CLS_DROP_LAST | exact r_CLS_CNT _ | exact r_DEV_CNT_LAST _ | exact r_DEV_EVT _

theorem writes_Act_step8 {p f : Nat} {r : RxFrame} {vid cls flow : Nat} {filt : Option Nat} {hold : Bool} {b : List Byte} {g : Goal} {P : Nat → Prop} (r_PAIR_CNT : P (PAIR.CNT p 0)) (r_DEV_CNT_LAST : ∀ x0, P (DEV.CNT_LAST x0)) (r_DEV_EVT : ∀ x0, P (DEV.EVT x0)) (r_CLS_DROP_LAST : P (CLS.DROP_LAST p)) (r_CLS_CNT : ∀ x0, P (CLS.CNT p x0)) : Writes (Act.step8 p f r vid cls flow filt hold b g) P := by
  unfold Act.step8
  try dsimp only
  repeat' (with_reducible first | exact r_PAIR_CNT | exact r_DEV_CNT_LAST _ | exact r_DEV_EVT _ | exact r_CLS_DROP_LAST | exact r_CLS_CNT _ | apply writes_Act_count | apply writes_Act_decideTo | apply Writes.setTbl | apply Writes.all_cons | apply Writes.all_nil | apply Writes.get | intro _ | split | dsimp only)
  all_goals first | exact r_PAIR_CNT | exact r_DEV_CNT_LAST _ | exact r_DEV_EVT _ | exact r_CLS_DROP_LAST | exact r_CLS_CNT _

theorem writes_Act_floodTo {p f vid kind n : Nat} {k : Goal → Act} {P : Nat → Prop} (r_CLS_EVT : P (CLS.EVT p)) (r_CLS_DROP_LAST : P (CLS.DROP_LAST p)) (r_CLS_CNT : ∀ x0, P (CLS.CNT p x0)) (r_DEV_CNT_LAST : ∀ x0, P (DEV.CNT_LAST x0)) (r_DEV_EVT : ∀ x0, P (DEV.EVT x0)) (hk_k : ∀ x0, Writes (k x0) P) : Writes (Act.floodTo p f vid kind n k) P := by
  unfold Act.floodTo
  try dsimp only
  repeat' (with_reducible first | exact r_CLS_EVT | exact r_CLS_DROP_LAST | exact r_CLS_CNT _ | exact r_DEV_CNT_LAST _ | exact r_DEV_EVT _ | exact hk_k _ | apply writes_Act_event | apply writes_Act_clsDrop | apply writes_Act_floodPolice | apply Writes.seq | apply Writes.get | apply Writes.ite | intro _ | split | dsimp only)
  all_goals first | exact r_CLS_EVT | exact r_CLS_DROP_LAST | exact r_CLS_CNT _ | exact r_DEV_CNT_LAST _ | exact r_DEV_EVT _

theorem writes_Act_macGoal {p f vid n : Nat} {b : List Byte} {k : Goal → Act} {P : Nat → Prop} (r_CLS_DROP_LAST : P (CLS.DROP_LAST p)) (r_CLS_CNT : ∀ x0, P (CLS.CNT p x0)) (r_DEV_CNT_LAST : ∀ x0, P (DEV.CNT_LAST x0)) (r_DEV_EVT : ∀ x0, P (DEV.EVT x0)) (r_CLS_EVT : P (CLS.EVT p)) (hk_k : ∀ x0, Writes (k x0) P) : Writes (Act.macGoal p f vid n b k) P := by
  unfold Act.macGoal
  try dsimp only
  repeat' (with_reducible first | exact r_CLS_DROP_LAST | exact r_CLS_CNT _ | exact r_DEV_CNT_LAST _ | exact r_DEV_EVT _ | exact r_CLS_EVT | exact hk_k _ | apply writes_Act_clsDrop | apply writes_Act_floodTo | apply Writes.get | apply Writes.ite | intro _ | split | dsimp only)
  all_goals first | exact r_CLS_DROP_LAST | exact r_CLS_CNT _ | exact r_DEV_CNT_LAST _ | exact r_DEV_EVT _ | exact r_CLS_EVT

theorem writes_Act_route {p f : Nat} {b : List Byte} {k : List Byte → Goal → Act} {P : Nat → Prop} (r_LPM_EVT : P (LPM.EVT p)) (r_LPM_CNT : P (LPM.CNT p 3)) (r_DEV_CNT_LAST : ∀ x0, P (DEV.CNT_LAST x0)) (r_DEV_EVT : ∀ x0, P (DEV.EVT x0)) (r_LPM_CNT_2 : P (LPM.CNT p 2)) (r_LPM_CNT_3 : P (LPM.CNT p 1)) (r_LPM_CNT_4 : P (LPM.CNT p 0)) (hk_k : ∀ x0 x1, Writes (k x0 x1) P) : Writes (Act.route p f b k) P := by
  unfold Act.route
  try dsimp only
  repeat' (with_reducible first | exact r_LPM_EVT | exact r_LPM_CNT | exact r_DEV_CNT_LAST _ | exact r_DEV_EVT _ | exact r_LPM_CNT_2 | exact r_LPM_CNT_3 | exact r_LPM_CNT_4 | exact hk_k _ _ | apply writes_Act_modBuf | apply writes_Act_event | apply writes_Act_count | apply Writes.all_cons | apply Writes.all_nil | apply Writes.seq | apply Writes.get | apply Writes.ite | intro _ | split | dsimp only)
  all_goals first | exact r_LPM_EVT | exact r_LPM_CNT | exact r_DEV_CNT_LAST _ | exact r_DEV_EVT _ | exact r_LPM_CNT_2 | exact r_LPM_CNT_3 | exact r_LPM_CNT_4

theorem writes_Act_learnSa {p f vid : Nat} {busy : Bool} {b : List Byte} {P : Nat → Prop} (r_CLS_EVT : P (CLS.EVT p)) (r_DEV_CNT_LAST : ∀ x0, P (DEV.CNT_LAST x0)) (r_DEV_EVT : ∀ x0, P (DEV.EVT x0)) (r_CLS_CNT : ∀ x0, P (CLS.CNT p x0)) : Writes (Act.learnSa p f vid busy b) P := by
  unfold Act.learnSa
  try dsimp only
  repeat' (with_reducible first | exact r_CLS_EVT | exact r_DEV_CNT_LAST _ | exact r_DEV_EVT _ | exact r_CLS_CNT _ | apply writes_Act_learnOverrun | apply writes_Act_macLearn | apply Writes.get | apply Writes.when | apply Writes.ite | intro _ | split | dsimp only)
  all_goals first | exact r_CLS_EVT | exact r_DEV_CNT_LAST _ | exact r_DEV_EVT _ | exact r_CLS_CNT _

theorem writes_Act_steps4to8 {p f : Nat} {r : RxFrame} {vid pcp : Nat} {dei busy : Bool} {b : List Byte} {P : Nat → Prop} (r_PSFP_LAST : P (PSFP.LAST p)) (r_PSFP_EVT : P (PSFP.EVT p)) (r_PSFP_CNT_HALF_LAST : P (PSFP.CNT_HALF_LAST p)) (r_DEV_CNT_LAST : ∀ x0, P (DEV.CNT_LAST x0)) (r_DEV_EVT : ∀ x0, P (DEV.EVT x0)) (r_PAIR_EVT : P (PAIR.EVT p)) (r_PAIR_CNT : P (PAIR.CNT p 1)) (r_PAIR_CNT_2 : P (PAIR.CNT p 4)) (r_PAIR_CNT_3 : P (PAIR.CNT p 2)) (r_PAIR_CNT_4 : P (PAIR.CNT p 3)) (r_PAIR_CNT_5 : P (PAIR.CNT p 0)) (r_CLS_DROP_LAST : P (CLS.DROP_LAST p)) (r_CLS_CNT : ∀ x0, P (CLS.CNT p x0)) (r_CLS_EVT : P (CLS.EVT p)) (r_LPM_EVT : P (LPM.EVT p)) (r_LPM_CNT : P (LPM.CNT p 3)) (r_LPM_CNT_2 : P (LPM.CNT p 2)) (r_LPM_CNT_3 : P (LPM.CNT p 1)) (r_LPM_CNT_4 : P (LPM.CNT p 0)) : Writes (Act.steps4to8 p f r vid pcp dei busy b) P := by
  unfold Act.steps4to8
  try dsimp only
  repeat' (with_reducible first | exact r_PSFP_LAST | exact r_PSFP_EVT | exact r_PSFP_CNT_HALF_LAST | exact r_DEV_CNT_LAST _ | exact r_DEV_EVT _ | exact r_PAIR_EVT | exact r_PAIR_CNT | exact r_PAIR_CNT_2 | exact r_PAIR_CNT_3 | exact r_PAIR_CNT_4 | exact r_PAIR_CNT_5 | exact r_CLS_DROP_LAST | exact r_CLS_CNT _ | exact r_CLS_EVT | exact r_LPM_EVT | exact r_LPM_CNT | exact r_LPM_CNT_2 | exact r_LPM_CNT_3 | exact r_LPM_CNT_4 | apply writes_Act_modBuf | apply writes_Act_filter | apply writes_Act_recover | apply writes_Act_step8 | apply writes_Act_macGoal | apply writes_Act_route | apply writes_Act_learnSa | apply Writes.seq | apply Writes.get | apply Writes.ite | intro _ | split | dsimp only)
  all_goals first | exact r_PSFP_LAST | exact r_PSFP_EVT | exact r_PSFP_CNT_HALF_LAST | exact r_DEV_CNT_LAST _ | exact r_DEV_EVT _ | exact r_PAIR_EVT | exact r_PAIR_CNT | exact r_PAIR_CNT_2 | exact r_PAIR_CNT_3 | exact r_PAIR_CNT_4 | exact r_PAIR_CNT_5 | exact r_CLS_DROP_LAST | exact r_CLS_CNT _ | exact r_CLS_EVT | exact r_LPM_EVT | exact r_LPM_CNT | exact r_LPM_CNT_2 | exact r_LPM_CNT_3 | exact r_LPM_CNT_4

theorem writes_Act_eyeFrame {p f : Nat} {r : RxFrame} {b : List Byte} {P : Nat → Prop} (r_EYE_ETH_STAT : P (EYE.ETH_STAT 0)) : Writes (Act.eyeFrame p f r b) P := by
  unfold Act.eyeFrame
  try dsimp only
  repeat' (with_reducible first | exact r_EYE_ETH_STAT | apply writes_Act_modBuf | apply writes_Act_bumpFld | apply Writes.seq | apply Writes.get | apply Writes.ite | intro _ | split | dsimp only)
  all_goals first | exact r_EYE_ETH_STAT

theorem writes_Act_steps2to8 {p f : Nat} {r : RxFrame} {busy : Bool} {P : Nat → Prop} (r_CLS_DROP_LAST : P (CLS.DROP_LAST p)) (r_CLS_CNT : ∀ x0, P (CLS.CNT p x0)) (r_DEV_CNT_LAST : ∀ x0, P (DEV.CNT_LAST x0)) (r_DEV_EVT : ∀ x0, P (DEV.EVT x0)) (r_PSFP_LAST : P (PSFP.LAST p)) (r_PSFP_EVT : P (PSFP.EVT p)) (r_PSFP_CNT_HALF_LAST : P (PSFP.CNT_HALF_LAST p)) (r_PAIR_EVT : P (PAIR.EVT p)) (r_PAIR_CNT : P (PAIR.CNT p 1)) (r_PAIR_CNT_2 : P (PAIR.CNT p 4)) (r_PAIR_CNT_3 : P (PAIR.CNT p 2)) (r_PAIR_CNT_4 : P (PAIR.CNT p 3)) (r_PAIR_CNT_5 : P (PAIR.CNT p 0)) (r_CLS_EVT : P (CLS.EVT p)) (r_LPM_EVT : P (LPM.EVT p)) (r_LPM_CNT : P (LPM.CNT p 3)) (r_LPM_CNT_2 : P (LPM.CNT p 2)) (r_LPM_CNT_3 : P (LPM.CNT p 1)) (r_LPM_CNT_4 : P (LPM.CNT p 0)) : Writes (Act.steps2to8 p f r busy) P := by
  unfold Act.steps2to8
  try dsimp only
  repeat' (with_reducible first | exact r_CLS_DROP_LAST | exact r_CLS_CNT _ | exact r_DEV_CNT_LAST _ | exact r_DEV_EVT _ | exact r_PSFP_LAST | exact r_PSFP_EVT | exact r_PSFP_CNT_HALF_LAST | exact r_PAIR_EVT | exact r_PAIR_CNT | exact r_PAIR_CNT_2 | exact r_PAIR_CNT_3 | exact r_PAIR_CNT_4 | exact r_PAIR_CNT_5 | exact r_CLS_EVT | exact r_LPM_EVT | exact r_LPM_CNT | exact r_LPM_CNT_2 | exact r_LPM_CNT_3 | exact r_LPM_CNT_4 | apply writes_Act_clsDrop | apply writes_Act_decideTo | apply writes_Act_steps4to8 | apply Writes.get | apply Writes.ite | intro _ | split | dsimp only)
  all_goals first | exact r_CLS_DROP_LAST | exact r_CLS_CNT _ | exact r_DEV_CNT_LAST _ | exact r_DEV_EVT _ | exact r_PSFP_LAST | exact r_PSFP_EVT | exact r_PSFP_CNT_HALF_LAST | exact r_PAIR_EVT | exact r_PAIR_CNT | exact r_PAIR_CNT_2 | exact r_PAIR_CNT_3 | exact r_PAIR_CNT_4 | exact r_PAIR_CNT_5 | exact r_CLS_EVT | exact r_LPM_EVT | exact r_LPM_CNT | exact r_LPM_CNT_2 | exact r_LPM_CNT_3 | exact r_LPM_CNT_4

theorem writes_frameLookup {p f : Nat} {busy : Bool} {P : Nat → Prop} (r_EYE_ETH_STAT : P (EYE.ETH_STAT 0)) (r_CLS_DROP_LAST : P (CLS.DROP_LAST p)) (r_CLS_CNT : ∀ x0, P (CLS.CNT p x0)) (r_DEV_CNT_LAST : ∀ x0, P (DEV.CNT_LAST x0)) (r_DEV_EVT : ∀ x0, P (DEV.EVT x0)) (r_PSFP_LAST : P (PSFP.LAST p)) (r_PSFP_EVT : P (PSFP.EVT p)) (r_PSFP_CNT_HALF_LAST : P (PSFP.CNT_HALF_LAST p)) (r_PAIR_EVT : P (PAIR.EVT p)) (r_PAIR_CNT : P (PAIR.CNT p 1)) (r_PAIR_CNT_2 : P (PAIR.CNT p 4)) (r_PAIR_CNT_3 : P (PAIR.CNT p 2)) (r_PAIR_CNT_4 : P (PAIR.CNT p 3)) (r_PAIR_CNT_5 : P (PAIR.CNT p 0)) (r_CLS_EVT : P (CLS.EVT p)) (r_LPM_EVT : P (LPM.EVT p)) (r_LPM_CNT : P (LPM.CNT p 3)) (r_LPM_CNT_2 : P (LPM.CNT p 2)) (r_LPM_CNT_3 : P (LPM.CNT p 1)) (r_LPM_CNT_4 : P (LPM.CNT p 0)) : Writes (frameLookup p f busy) P := by
  unfold frameLookup
  try dsimp only
  repeat' (with_reducible first | exact r_EYE_ETH_STAT | exact r_CLS_DROP_LAST | exact r_CLS_CNT _ | exact r_DEV_CNT_LAST _ | exact r_DEV_EVT _ | exact r_PSFP_LAST | exact r_PSFP_EVT | exact r_PSFP_CNT_HALF_LAST | exact r_PAIR_EVT | exact r_PAIR_CNT | exact r_PAIR_CNT_2 | exact r_PAIR_CNT_3 | exact r_PAIR_CNT_4 | exact r_PAIR_CNT_5 | exact r_CLS_EVT | exact r_LPM_EVT | exact r_LPM_CNT | exact r_LPM_CNT_2 | exact r_LPM_CNT_3 | exact r_LPM_CNT_4 | apply writes_Act_setHold | apply writes_Act_eyeFrame | apply writes_Act_steps2to8 | apply Writes.get | apply Writes.when | apply Writes.opt | apply Writes.skip | apply Writes.ite | intro _ | split | dsimp only)
  all_goals first | exact r_EYE_ETH_STAT | exact r_CLS_DROP_LAST | exact r_CLS_CNT _ | exact r_DEV_CNT_LAST _ | exact r_DEV_EVT _ | exact r_PSFP_LAST | exact r_PSFP_EVT | exact r_PSFP_CNT_HALF_LAST | exact r_PAIR_EVT | exact r_PAIR_CNT | exact r_PAIR_CNT_2 | exact r_PAIR_CNT_3 | exact r_PAIR_CNT_4 | exact r_PAIR_CNT_5 | exact r_CLS_EVT | exact r_LPM_EVT | exact r_LPM_CNT | exact r_LPM_CNT_2 | exact r_LPM_CNT_3 | exact r_LPM_CNT_4

/-! ## KeyStore -/

theorem writes_Act_denyKey {p n user part : Nat} {P : Nat → Prop} (r_KEYS_LAST : P (KEYS.LAST p)) (r_KEYS_EVT : P (KEYS.EVT p)) (r_KEYS_CNT : P (KEYS.CNT p 6)) (r_DEV_CNT_LAST : ∀ x0, P (DEV.CNT_LAST x0)) (r_DEV_EVT : ∀ x0, P (DEV.EVT x0)) : Writes (Act.denyKey p n user part) P := by
  unfold Act.denyKey
  try dsimp only
  repeat' (with_reducible first | exact r_KEYS_LAST | exact r_KEYS_EVT | exact r_KEYS_CNT | exact r_DEV_CNT_LAST _ | exact r_DEV_EVT _ | apply writes_Act_setFlds | apply writes_Act_event | apply writes_Act_count | apply Writes.all_cons | apply Writes.all_nil | intro _ | dsimp only)
  all_goals first | exact r_KEYS_LAST | exact r_KEYS_EVT | exact r_KEYS_CNT | exact r_DEV_CNT_LAST _ | exact r_DEV_EVT _

theorem writes_Act_demand {p n : Nat} {P : Nat → Prop} (r_KEYS_SLOT : P (KEYS.SLOT p n)) : Writes (Act.demand p n) P := by
  unfold Act.demand
  try dsimp only
  repeat' (with_reducible first | exact r_KEYS_SLOT | apply writes_Act_modKslot | apply writes_Act_setFld | apply Writes.seq | apply Writes.get | apply Writes.when | intro _ | dsimp only)
  all_goals first | exact r_KEYS_SLOT

theorem writes_Act_remask {p n : Nat} {P : Nat → Prop} : Writes (Act.remask p n) P := by
  unfold Act.remask
  try dsimp only
  repeat' (with_reducible first | apply writes_Act_freeBytes | apply writes_Act_modKslot | apply Writes.get | intro _ | dsimp only)

theorem writes_Act_useKey {p n use : Nat} {dir klen part : Option Nat} {user : Nat} {k : KeyUse → Act} {P : Nat → Prop} (r_KEYS_SLOT : P (KEYS.SLOT p n)) (r_KEYS_LAST : P (KEYS.LAST p)) (r_KEYS_EVT : P (KEYS.EVT p)) (r_KEYS_CNT : P (KEYS.CNT p 6)) (r_DEV_CNT_LAST : ∀ x0, P (DEV.CNT_LAST x0)) (r_DEV_EVT : ∀ x0, P (DEV.EVT x0)) (hk_k : ∀ x0, Writes (k x0) P) : Writes (Act.useKey p n use dir klen part user k) P := by
  unfold Act.useKey
  try dsimp only
  repeat' (with_reducible first | exact r_KEYS_SLOT | exact r_KEYS_LAST | exact r_KEYS_EVT | exact r_KEYS_CNT | exact r_DEV_CNT_LAST _ | exact r_DEV_EVT _ | exact hk_k _ | apply writes_Act_modKslot | apply writes_Act_bumpFld | apply writes_Act_denyKey | apply writes_Act_demand | apply writes_Act_remask | apply Writes.all_cons | apply Writes.all_nil | apply Writes.seq | apply Writes.get | apply Writes.when | intro _ | split | dsimp only)
  all_goals first | exact r_KEYS_SLOT | exact r_KEYS_LAST | exact r_KEYS_EVT | exact r_KEYS_CNT | exact r_DEV_CNT_LAST _ | exact r_DEV_EVT _

theorem writes_Act_fillSlot {p n source : Nat} {key : List Nat} {P : Nat → Prop} (r_KEYS_SLOT : P (KEYS.SLOT p n)) : Writes (Act.fillSlot p n source key) P := by
  unfold Act.fillSlot
  try dsimp only
  repeat' (with_reducible first | exact r_KEYS_SLOT | apply writes_Act_freeBytes | apply writes_Act_modKslot | apply writes_Act_setFlds | apply Writes.seq | intro _ | dsimp only)
  all_goals first | exact r_KEYS_SLOT

theorem writes_Act_clearSlot {p n : Nat} {P : Nat → Prop} (r_KEYS_SLOT : P (KEYS.SLOT p n)) : Writes (Act.clearSlot p n) P := by
  unfold Act.clearSlot
  try dsimp only
  repeat' (with_reducible first | exact r_KEYS_SLOT | apply writes_Act_modKslot | apply writes_Act_setFlds | apply Writes.seq | intro _ | dsimp only)
  all_goals first | exact r_KEYS_SLOT

theorem writes_keyDemand {p n : Nat} {P : Nat → Prop} (r_KEYS_SLOT : P (KEYS.SLOT p n)) : Writes (keyDemand p n) P := by
  unfold keyDemand
  try dsimp only
  repeat' (with_reducible first | exact r_KEYS_SLOT | apply writes_Act_demand | intro _ | dsimp only)
  all_goals first | exact r_KEYS_SLOT

theorem writes_keyLoadDone {p n : Nat} {P : Nat → Prop} (r_KEYS_SLOT : P (KEYS.SLOT p n)) (r_KEYS_LAST : P (KEYS.LAST p)) (r_KEYS_EVT : P (KEYS.EVT p)) (r_KEYS_CNT : P (KEYS.CNT p 0)) (r_DEV_CNT_LAST : ∀ x0, P (DEV.CNT_LAST x0)) (r_DEV_EVT : ∀ x0, P (DEV.EVT x0)) : Writes (keyLoadDone p n) P := by
  unfold keyLoadDone
  try dsimp only
  repeat' (with_reducible first | exact r_KEYS_SLOT | exact r_KEYS_LAST | exact r_KEYS_EVT | exact r_KEYS_CNT | exact r_DEV_CNT_LAST _ | exact r_DEV_EVT _ | apply writes_Act_setFld | apply writes_Act_setFlds | apply writes_Act_event | apply writes_Act_count | apply writes_Act_offerMon | apply writes_Act_fillSlot | apply Writes.all_cons | apply Writes.all_nil | apply Writes.seq | apply Writes.get | apply Writes.when | intro _ | split | dsimp only)
  all_goals first | exact r_KEYS_SLOT | exact r_KEYS_LAST | exact r_KEYS_EVT | exact r_KEYS_CNT | exact r_DEV_CNT_LAST _ | exact r_DEV_EVT _

theorem writes_keyPreload {p : Nat} {P : Nat → Prop} (r_KEYS_SLOT : ∀ x0, P (KEYS.SLOT p x0)) : Writes (keyPreload p) P := by
  unfold keyPreload
  try dsimp only
  repeat' (with_reducible first | exact r_KEYS_SLOT _ | apply writes_Act_demand | apply Writes.get | apply Writes.when | apply Writes.opt | intro _ | dsimp only)
  all_goals first | exact r_KEYS_SLOT _

theorem writes_Act_rootMask {p : Nat} {P : Nat → Prop} : Writes (Act.rootMask p) P := by
  unfold Act.rootMask
  try dsimp only
  repeat' (with_reducible first | apply writes_Act_freeBytes | apply writes_Act_modKstore | intro _ | dsimp only)

theorem writes_resilverPass {p : Nat} {P : Nat → Prop} (r_KEYS_EVT : P (KEYS.EVT p)) (r_KEYS_CNT : P (KEYS.CNT p 5)) (r_DEV_CNT_LAST : ∀ x0, P (DEV.CNT_LAST x0)) (r_DEV_EVT : ∀ x0, P (DEV.EVT x0)) : Writes (resilverPass p) P := by
  unfold resilverPass
  try dsimp only
  repeat' (with_reducible first | exact r_KEYS_EVT | exact r_KEYS_CNT | exact r_DEV_CNT_LAST _ | exact r_DEV_EVT _ | apply writes_Act_modKstore | apply writes_Act_event | apply writes_Act_count | apply writes_Act_remask | apply writes_Act_rootMask | apply Writes.seq | apply Writes.get | apply Writes.when | apply Writes.each | apply Writes.ite | intro _ | split | dsimp only)
  all_goals first | exact r_KEYS_EVT | exact r_KEYS_CNT | exact r_DEV_CNT_LAST _ | exact r_DEV_EVT _

theorem writes_resilverSlotUses {p n : Nat} {P : Nat → Prop} : Writes (resilverSlotUses p n) P := by
  unfold resilverSlotUses
  try dsimp only
  repeat' (with_reducible first | apply writes_Act_remask | apply Writes.get | apply Writes.when | intro _ | dsimp only)

theorem writes_rngHealthFail {p : Nat} {P : Nat → Prop} (r_KEYS_EVT : P (KEYS.EVT p)) (r_KEYS_CNT : P (KEYS.CNT p 7)) (r_DEV_CNT_LAST : ∀ x0, P (DEV.CNT_LAST x0)) (r_DEV_EVT : ∀ x0, P (DEV.EVT x0)) : Writes (rngHealthFail p) P := by
  unfold rngHealthFail
  try dsimp only
  repeat' (with_reducible first | exact r_KEYS_EVT | exact r_KEYS_CNT | exact r_DEV_CNT_LAST _ | exact r_DEV_EVT _ | apply writes_Act_modKstore | apply writes_Act_event | apply writes_Act_count | apply Writes.all_cons | apply Writes.all_nil | apply Writes.get | apply Writes.when | intro _ | dsimp only)
  all_goals first | exact r_KEYS_EVT | exact r_KEYS_CNT | exact r_DEV_CNT_LAST _ | exact r_DEV_EVT _

theorem writes_rngStop {p : Nat} {P : Nat → Prop} (r_KEYS_EVT : P (KEYS.EVT p)) : Writes (rngStop p) P := by
  unfold rngStop
  try dsimp only
  repeat' (with_reducible first | exact r_KEYS_EVT | apply writes_Act_modKstore | apply writes_Act_event | apply Writes.seq | apply Writes.get | apply Writes.when | intro _ | dsimp only)
  all_goals first | exact r_KEYS_EVT

theorem writes_rngRestart {p : Nat} {pass : Bool} {P : Nat → Prop} : Writes (rngRestart p pass) P := by
  unfold rngRestart
  try dsimp only
  repeat' (with_reducible first | apply writes_Act_modKstore | apply Writes.get | apply Writes.when | apply Writes.ite | intro _ | split | dsimp only)

theorem writes_drbgReseed {p : Nat} {P : Nat → Prop} : Writes (drbgReseed p) P := by
  unfold drbgReseed
  try dsimp only
  repeat' (with_reducible first | apply Writes.free | apply Writes.get | apply Writes.when | apply Writes.skip | intro _ | dsimp only)

/-! ## Msec -/

theorem writes_Act_setPn {p i n : Nat} {P : Nat → Prop} : Writes (Act.setPn p i n) P := by
  unfold Act.setPn
  try dsimp only
  repeat' (with_reducible first | apply Writes.setTbl | apply Writes.seq | intro _ | dsimp only)

theorem writes_Act_msecEvent {p i f sc an : Nat} {P : Nat → Prop} (r_MSEC_LAST : P (MSEC.LAST p)) (r_MSEC_EVT : P (MSEC.EVT p)) : Writes (Act.msecEvent p i f sc an) P := by
  unfold Act.msecEvent
  try dsimp only
  repeat' (with_reducible first | exact r_MSEC_LAST | exact r_MSEC_EVT | apply writes_Act_setFlds | apply writes_Act_event | apply Writes.seq | intro _ | dsimp only)
  all_goals first | exact r_MSEC_LAST | exact r_MSEC_EVT

theorem writes_Act_msecCount {p f i : Nat} {P : Nat → Prop} (r_MSEC_CNT : P (MSEC.CNT p (16 * f + i))) (r_DEV_CNT_LAST : ∀ x0, P (DEV.CNT_LAST x0)) (r_DEV_EVT : ∀ x0, P (DEV.EVT x0)) : Writes (Act.msecCount p f i) P := by
  unfold Act.msecCount
  try dsimp only
  repeat' (with_reducible first | exact r_MSEC_CNT | exact r_DEV_CNT_LAST _ | exact r_DEV_EVT _ | apply writes_Act_count | intro _ | dsimp only)
  all_goals first | exact r_MSEC_CNT | exact r_DEV_CNT_LAST _ | exact r_DEV_EVT _

theorem writes_Act_datapathFault {p unit index : Nat} {P : Nat → Prop} (r_CIPH_LAST : P (CIPH.LAST p)) (r_CIPH_EVT : P (CIPH.EVT p)) (r_CIPH_CNT : P (CIPH.CNT p 6)) (r_DEV_CNT_LAST : ∀ x0, P (DEV.CNT_LAST x0)) (r_DEV_EVT : ∀ x0, P (DEV.EVT x0)) : Writes (Act.datapathFault p unit index) P := by
  unfold Act.datapathFault
  try dsimp only
  repeat' (with_reducible first | exact r_CIPH_LAST | exact r_CIPH_EVT | exact r_CIPH_CNT | exact r_DEV_CNT_LAST _ | exact r_DEV_EVT _ | apply writes_Act_setFlds | apply writes_Act_event | apply writes_Act_count | apply Writes.all_cons | apply Writes.all_nil | intro _ | dsimp only)
  all_goals first | exact r_CIPH_LAST | exact r_CIPH_EVT | exact r_CIPH_CNT | exact r_DEV_CNT_LAST _ | exact r_DEV_EVT _

theorem writes_Act_macsecTransmit {p f : Nat} {fault : Bool} {body : List Byte} {k : MacOut → Act} {P : Nat → Prop} (r_KEYS_SLOT : ∀ x0, P (KEYS.SLOT p x0)) (r_KEYS_LAST : P (KEYS.LAST p)) (r_KEYS_EVT : P (KEYS.EVT p)) (r_KEYS_CNT : P (KEYS.CNT p 6)) (r_DEV_CNT_LAST : ∀ x0, P (DEV.CNT_LAST x0)) (r_DEV_EVT : ∀ x0, P (DEV.EVT x0)) (r_MSEC_LAST : P (MSEC.LAST p)) (r_MSEC_EVT : P (MSEC.EVT p)) (r_MSEC_CNT : ∀ x0, P (MSEC.CNT p x0)) (r_CIPH_LAST : P (CIPH.LAST p)) (r_CIPH_EVT : P (CIPH.EVT p)) (r_CIPH_CNT : P (CIPH.CNT p 6)) (hk_k : ∀ x0, Writes (k x0) P) : Writes (Act.macsecTransmit p f fault body k) P := by
  unfold Act.macsecTransmit
  try dsimp only
  repeat' (with_reducible first | exact r_KEYS_SLOT _ | exact r_KEYS_LAST | exact r_KEYS_EVT | exact r_KEYS_CNT | exact r_DEV_CNT_LAST _ | exact r_DEV_EVT _ | exact r_MSEC_LAST | exact r_MSEC_EVT | exact r_MSEC_CNT _ | exact r_CIPH_LAST | exact r_CIPH_EVT | exact r_CIPH_CNT | exact hk_k _ | apply writes_Act_modKslot | apply writes_Act_useKey | apply writes_Act_setPn | apply writes_Act_msecEvent | apply writes_Act_msecCount | apply writes_Act_datapathFault | apply Writes.all_cons | apply Writes.all_nil | apply Writes.seq | apply Writes.get | apply Writes.when | apply Writes.ite | intro _ | split | dsimp only)
  all_goals first | exact r_KEYS_SLOT _ | exact r_KEYS_LAST | exact r_KEYS_EVT | exact r_KEYS_CNT | exact r_DEV_CNT_LAST _ | exact r_DEV_EVT _ | exact r_MSEC_LAST | exact r_MSEC_EVT | exact r_MSEC_CNT _ | exact r_CIPH_LAST | exact r_CIPH_EVT | exact r_CIPH_CNT

theorem writes_Act_macsecReceive {p f : Nat} {fault : Bool} {body : List Byte} {k : Option (List Byte) → Act} {P : Nat → Prop} (r_KEYS_SLOT : ∀ x0, P (KEYS.SLOT p x0)) (r_KEYS_LAST : P (KEYS.LAST p)) (r_KEYS_EVT : P (KEYS.EVT p)) (r_KEYS_CNT : P (KEYS.CNT p 6)) (r_DEV_CNT_LAST : ∀ x0, P (DEV.CNT_LAST x0)) (r_DEV_EVT : ∀ x0, P (DEV.EVT x0)) (r_MSEC_LAST : P (MSEC.LAST p)) (r_MSEC_EVT : P (MSEC.EVT p)) (r_MSEC_CNT : ∀ x0, P (MSEC.CNT p x0)) (r_CIPH_LAST : P (CIPH.LAST p)) (r_CIPH_EVT : P (CIPH.EVT p)) (r_CIPH_CNT : P (CIPH.CNT p 6)) (hk_k : ∀ x0, Writes (k x0) P) : Writes (Act.macsecReceive p f fault body k) P := by
  unfold Act.macsecReceive
  try dsimp only
  repeat' (with_reducible first | exact r_KEYS_SLOT _ | exact r_KEYS_LAST | exact r_KEYS_EVT | exact r_KEYS_CNT | exact r_DEV_CNT_LAST _ | exact r_DEV_EVT _ | exact r_MSEC_LAST | exact r_MSEC_EVT | exact r_MSEC_CNT _ | exact r_CIPH_LAST | exact r_CIPH_EVT | exact r_CIPH_CNT | exact hk_k _ | apply writes_Act_useKey | apply writes_Act_setPn | apply writes_Act_msecEvent | apply writes_Act_msecCount | apply writes_Act_datapathFault | apply Writes.all_cons | apply Writes.all_nil | apply Writes.seq | apply Writes.get | apply Writes.ite | intro _ | split | dsimp only)
  all_goals first | exact r_KEYS_SLOT _ | exact r_KEYS_LAST | exact r_KEYS_EVT | exact r_KEYS_CNT | exact r_DEV_CNT_LAST _ | exact r_DEV_EVT _ | exact r_MSEC_LAST | exact r_MSEC_EVT | exact r_MSEC_CNT _ | exact r_CIPH_LAST | exact r_CIPH_EVT | exact r_CIPH_CNT

/-! ## Eth -/

theorem writes_Act_ethCount {p f i : Nat} {P : Nat → Prop} (r_ETH_CNT : P (ETH.CNT p f i)) (r_DEV_CNT_LAST : ∀ x0, P (DEV.CNT_LAST x0)) (r_DEV_EVT : ∀ x0, P (DEV.EVT x0)) : Writes (Act.ethCount p f i) P := by
  unfold Act.ethCount
  try dsimp only
  repeat' (with_reducible first | exact r_ETH_CNT | exact r_DEV_CNT_LAST _ | exact r_DEV_EVT _ | apply writes_Act_count | intro _ | dsimp only)
  all_goals first | exact r_ETH_CNT | exact r_DEV_CNT_LAST _ | exact r_DEV_EVT _

theorem writes_Act_countRx {p f da n : Nat} {P : Nat → Prop} (r_ETH_CNT : P (ETH.CNT p f 1)) (r_DEV_CNT_LAST : ∀ x0, P (DEV.CNT_LAST x0)) (r_DEV_EVT : ∀ x0, P (DEV.EVT x0)) (r_ETH_CNT_2 : P (ETH.CNT p f 0)) (r_ETH_CNT_3 : P (ETH.CNT p f (2 + daKind da))) (r_ETH_CNT_4 : P (ETH.CNT p f (17 + bandOf n))) : Writes (Act.countRx p f da n) P := by
  unfold Act.countRx
  try dsimp only
  repeat' (with_reducible first | exact r_ETH_CNT | exact r_DEV_CNT_LAST _ | exact r_DEV_EVT _ | exact r_ETH_CNT_2 | exact r_ETH_CNT_3 | exact r_ETH_CNT_4 | apply writes_Act_countBy | apply writes_Act_tallyMon | apply writes_Act_ethCount | apply Writes.all_cons | apply Writes.all_nil | intro _ | dsimp only)
  all_goals first | exact r_ETH_CNT | exact r_DEV_CNT_LAST _ | exact r_DEV_EVT _ | exact r_ETH_CNT_2 | exact r_ETH_CNT_3 | exact r_ETH_CNT_4

theorem writes_Act_countTx {p f da n : Nat} {P : Nat → Prop} (r_ETH_CNT : P (ETH.CNT p f 27)) (r_DEV_CNT_LAST : ∀ x0, P (DEV.CNT_LAST x0)) (r_DEV_EVT : ∀ x0, P (DEV.EVT x0)) (r_ETH_CNT_2 : P (ETH.CNT p f 26)) (r_ETH_CNT_3 : P (ETH.CNT p f (28 + daKind da))) (r_ETH_CNT_4 : P (ETH.CNT p f (39 + bandOf n))) : Writes (Act.countTx p f da n) P := by
  unfold Act.countTx
  try dsimp only
  repeat' (with_reducible first | exact r_ETH_CNT | exact r_DEV_CNT_LAST _ | exact r_DEV_EVT _ | exact r_ETH_CNT_2 | exact r_ETH_CNT_3 | exact r_ETH_CNT_4 | apply writes_Act_countBy | apply writes_Act_tallyMon | apply writes_Act_ethCount | apply Writes.all_cons | apply Writes.all_nil | intro _ | dsimp only)
  all_goals first | exact r_ETH_CNT | exact r_DEV_CNT_LAST _ | exact r_DEV_EVT _ | exact r_ETH_CNT_2 | exact r_ETH_CNT_3 | exact r_ETH_CNT_4

theorem writes_Act_setPauses {p f : Nat} {l : List (Nat × Pause)} {P : Nat → Prop} : Writes (Act.setPauses p f l) P := by
  unfold Act.setPauses
  try dsimp only
  repeat' (with_reducible first | apply writes_Act_modEth | apply writes_Act_offerMon | apply Writes.seq | apply Writes.get | apply Writes.when | apply Writes.each | apply Writes.opt | intro _ | dsimp only)

theorem writes_Act_pauseCls {p f c : Nat} {l : List (Nat × Nat)} {P : Nat → Prop} (r_ETH_CNT : P (ETH.CNT p f 48)) (r_DEV_CNT_LAST : ∀ x0, P (DEV.CNT_LAST x0)) (r_DEV_EVT : ∀ x0, P (DEV.EVT x0)) : Writes (Act.pauseCls p f c l) P := by
  unfold Act.pauseCls
  try dsimp only
  repeat' (with_reducible first | exact r_ETH_CNT | exact r_DEV_CNT_LAST _ | exact r_DEV_EVT _ | apply writes_Act_modEth | apply writes_Act_ethCount | apply writes_Act_setPauses | apply Writes.seq | apply Writes.get | apply Writes.ite | apply Writes.all_map | intro _ | split | dsimp only)
  all_goals first | exact r_ETH_CNT | exact r_DEV_CNT_LAST _ | exact r_DEV_EVT _

theorem writes_Act_macControl {p f : Nat} {b : List Byte} {P : Nat → Prop} (r_ETH_CNT : P (ETH.CNT p f 5)) (r_DEV_CNT_LAST : ∀ x0, P (DEV.CNT_LAST x0)) (r_DEV_EVT : ∀ x0, P (DEV.EVT x0)) (r_ETH_CNT_2 : P (ETH.CNT p f 6)) (r_ETH_CNT_3 : P (ETH.CNT p f 7)) (r_ETH_CNT_4 : P (ETH.CNT p f 48)) : Writes (Act.macControl p f b) P := by
  unfold Act.macControl
  try dsimp only
  repeat' (with_reducible first | exact r_ETH_CNT | exact r_DEV_CNT_LAST _ | exact r_DEV_EVT _ | exact r_ETH_CNT_2 | exact r_ETH_CNT_3 | exact r_ETH_CNT_4 | apply writes_Act_ethCount | apply writes_Act_pauseCls | apply Writes.seq | apply Writes.get | apply Writes.when | apply Writes.each | apply Writes.ite | intro _ | split | dsimp only)
  all_goals first | exact r_ETH_CNT | exact r_DEV_CNT_LAST _ | exact r_DEV_EVT _ | exact r_ETH_CNT_2 | exact r_ETH_CNT_3 | exact r_ETH_CNT_4

theorem writes_pauseExpire {p f c : Nat} {P : Nat → Prop} : Writes (pauseExpire p f c) P := by
  unfold pauseExpire
  try dsimp only
  repeat' (with_reducible first | apply writes_Act_setPauses | apply Writes.get | intro _ | dsimp only)

theorem writes_pauseLimit {p f c : Nat} {P : Nat → Prop} (r_ETH_EVT : P (ETH.EVT p f)) : Writes (pauseLimit p f c) P := by
  unfold pauseLimit
  try dsimp only
  repeat' (with_reducible first | exact r_ETH_EVT | apply writes_Act_modEth | apply writes_Act_event | apply writes_Act_setPauses | apply Writes.all_cons | apply Writes.all_nil | apply Writes.get | apply Writes.when | apply Writes.opt | intro _ | dsimp only)
  all_goals first | exact r_ETH_EVT

theorem writes_pauseOverrideEnd {p f c : Nat} {P : Nat → Prop} : Writes (pauseOverrideEnd p f c) P := by
  unfold pauseOverrideEnd
  try dsimp only
  repeat' (with_reducible first | apply writes_Act_modEth | apply Writes.get | intro _ | dsimp only)

theorem writes_Act_sendPause {p f : Nat} {classes : List Nat} {time : Nat} {P : Nat → Prop} (r_ETH_CNT : P (ETH.CNT p f 31)) (r_DEV_CNT_LAST : ∀ x0, P (DEV.CNT_LAST x0)) (r_DEV_EVT : ∀ x0, P (DEV.EVT x0)) (r_ETH_CNT_2 : P (ETH.CNT p f 32)) (r_ETH_CNT_3 : P (ETH.CNT p f 27)) (r_ETH_CNT_4 : P (ETH.CNT p f 26)) (r_ETH_CNT_5 : P (ETH.CNT p f (28 + daKind 1652522221569))) (r_ETH_CNT_6 : P (ETH.CNT p f (39 + bandOf 64))) : Writes (Act.sendPause p f classes time) P := by
  unfold Act.sendPause
  try dsimp only
  repeat' (with_reducible first | exact r_ETH_CNT | exact r_DEV_CNT_LAST _ | exact r_DEV_EVT _ | exact r_ETH_CNT_2 | exact r_ETH_CNT_3 | exact r_ETH_CNT_4 | exact r_ETH_CNT_5 | exact r_ETH_CNT_6 | apply writes_Act_emit | apply writes_Act_ethCount | apply writes_Act_countTx | apply Writes.all_cons | apply Writes.all_nil | apply Writes.get | apply Writes.ite | apply Writes.all_map | intro _ | split | dsimp only)
  all_goals first | exact r_ETH_CNT | exact r_DEV_CNT_LAST _ | exact r_DEV_EVT _ | exact r_ETH_CNT_2 | exact r_ETH_CNT_3 | exact r_ETH_CNT_4 | exact r_ETH_CNT_5 | exact r_ETH_CNT_6

theorem writes_xoffCross {p f : Nat} {P : Nat → Prop} (r_ETH_CNT : P (ETH.CNT p f 31)) (r_DEV_CNT_LAST : ∀ x0, P (DEV.CNT_LAST x0)) (r_DEV_EVT : ∀ x0, P (DEV.EVT x0)) (r_ETH_CNT_2 : P (ETH.CNT p f 32)) (r_ETH_CNT_3 : P (ETH.CNT p f 27)) (r_ETH_CNT_4 : P (ETH.CNT p f 26)) (r_ETH_CNT_5 : P (ETH.CNT p f (28 + daKind 1652522221569))) (r_ETH_CNT_6 : P (ETH.CNT p f (39 + bandOf 64))) : Writes (xoffCross p f) P := by
  unfold xoffCross
  try dsimp only
  repeat' (with_reducible first | exact r_ETH_CNT | exact r_DEV_CNT_LAST _ | exact r_DEV_EVT _ | exact r_ETH_CNT_2 | exact r_ETH_CNT_3 | exact r_ETH_CNT_4 | exact r_ETH_CNT_5 | exact r_ETH_CNT_6 | apply writes_Act_setEth | apply writes_Act_sendPause | apply Writes.seq | apply Writes.get | apply Writes.when | intro _ | dsimp only)
  all_goals first | exact r_ETH_CNT | exact r_DEV_CNT_LAST _ | exact r_DEV_EVT _ | exact r_ETH_CNT_2 | exact r_ETH_CNT_3 | exact r_ETH_CNT_4 | exact r_ETH_CNT_5 | exact r_ETH_CNT_6

theorem writes_xonCross {p f : Nat} {P : Nat → Prop} (r_ETH_CNT : P (ETH.CNT p f 31)) (r_DEV_CNT_LAST : ∀ x0, P (DEV.CNT_LAST x0)) (r_DEV_EVT : ∀ x0, P (DEV.EVT x0)) (r_ETH_CNT_2 : P (ETH.CNT p f 32)) (r_ETH_CNT_3 : P (ETH.CNT p f 27)) (r_ETH_CNT_4 : P (ETH.CNT p f 26)) (r_ETH_CNT_5 : P (ETH.CNT p f (28 + daKind 1652522221569))) (r_ETH_CNT_6 : P (ETH.CNT p f (39 + bandOf 64))) : Writes (xonCross p f) P := by
  unfold xonCross
  try dsimp only
  repeat' (with_reducible first | exact r_ETH_CNT | exact r_DEV_CNT_LAST _ | exact r_DEV_EVT _ | exact r_ETH_CNT_2 | exact r_ETH_CNT_3 | exact r_ETH_CNT_4 | exact r_ETH_CNT_5 | exact r_ETH_CNT_6 | apply writes_Act_setEth | apply writes_Act_sendPause | apply Writes.seq | apply Writes.get | apply Writes.when | intro _ | dsimp only)
  all_goals first | exact r_ETH_CNT | exact r_DEV_CNT_LAST _ | exact r_DEV_EVT _ | exact r_ETH_CNT_2 | exact r_ETH_CNT_3 | exact r_ETH_CNT_4 | exact r_ETH_CNT_5 | exact r_ETH_CNT_6

theorem writes_pauseRefresh {p f : Nat} {P : Nat → Prop} (r_ETH_CNT : P (ETH.CNT p f 31)) (r_DEV_CNT_LAST : ∀ x0, P (DEV.CNT_LAST x0)) (r_DEV_EVT : ∀ x0, P (DEV.EVT x0)) (r_ETH_CNT_2 : P (ETH.CNT p f 32)) (r_ETH_CNT_3 : P (ETH.CNT p f 27)) (r_ETH_CNT_4 : P (ETH.CNT p f 26)) (r_ETH_CNT_5 : P (ETH.CNT p f (28 + daKind 1652522221569))) (r_ETH_CNT_6 : P (ETH.CNT p f (39 + bandOf 64))) : Writes (pauseRefresh p f) P := by
  unfold pauseRefresh
  try dsimp only
  repeat' (with_reducible first | exact r_ETH_CNT | exact r_DEV_CNT_LAST _ | exact r_DEV_EVT _ | exact r_ETH_CNT_2 | exact r_ETH_CNT_3 | exact r_ETH_CNT_4 | exact r_ETH_CNT_5 | exact r_ETH_CNT_6 | apply writes_Act_sendPause | apply Writes.get | apply Writes.when | intro _ | dsimp only)
  all_goals first | exact r_ETH_CNT | exact r_DEV_CNT_LAST _ | exact r_DEV_EVT _ | exact r_ETH_CNT_2 | exact r_ETH_CNT_3 | exact r_ETH_CNT_4 | exact r_ETH_CNT_5 | exact r_ETH_CNT_6

theorem writes_Act_acceptFrame {p f c : Nat} {cut abort : Bool} {b : List Byte} {ts status : Nat} {P : Nat → Prop} : Writes (Act.acceptFrame p f c cut abort b ts status) P := by
  unfold Act.acceptFrame
  try dsimp only
  repeat' (with_reducible first | apply writes_Act_modEth | apply writes_Act_intake | apply Writes.upd | apply Writes.seq | apply Writes.get | apply Writes.ite | intro _ | split | dsimp only)

theorem writes_ethReceive {p f : Nat} {b : List Byte} {errAt : Option Nat} {fault : Bool} {fixed lost status : Nat} {P : Nat → Prop} (r_ETH_EVT : P (ETH.EVT p f)) (r_DEV_CNT_LAST : ∀ x0, P (DEV.CNT_LAST x0)) (r_DEV_EVT : ∀ x0, P (DEV.EVT x0)) (r_KEYS_SLOT : ∀ x0, P (KEYS.SLOT p x0)) (r_KEYS_LAST : P (KEYS.LAST p)) (r_KEYS_EVT : P (KEYS.EVT p)) (r_KEYS_CNT : P (KEYS.CNT p 6)) (r_MSEC_LAST : P (MSEC.LAST p)) (r_MSEC_EVT : P (MSEC.EVT p)) (r_MSEC_CNT : ∀ x0, P (MSEC.CNT p x0)) (r_CIPH_LAST : P (CIPH.LAST p)) (r_CIPH_EVT : P (CIPH.EVT p)) (r_CIPH_CNT : P (CIPH.CNT p 6)) (r_ETH_CNT : ∀ x0, P (ETH.CNT p f x0)) : Writes (ethReceive p f b errAt fault fixed lost status) P := by
  unfold ethReceive
  try dsimp only
  repeat' (with_reducible first | exact r_ETH_EVT | exact r_DEV_CNT_LAST _ | exact r_DEV_EVT _ | exact r_KEYS_SLOT _ | exact r_KEYS_LAST | exact r_KEYS_EVT | exact r_KEYS_CNT | exact r_MSEC_LAST | exact r_MSEC_EVT | exact r_MSEC_CNT _ | exact r_CIPH_LAST | exact r_CIPH_EVT | exact r_CIPH_CNT | exact r_ETH_CNT _ | apply writes_Act_event | apply writes_Act_countBy | apply writes_Act_offerMon | apply writes_Act_macsecReceive | apply writes_Act_ethCount | apply writes_Act_countRx | apply writes_Act_macControl | apply writes_Act_acceptFrame | apply Writes.seq | apply Writes.get | apply Writes.when | apply Writes.opt | apply Writes.skip | apply Writes.ite | intro _ | split | dsimp only)
  all_goals first | exact r_ETH_EVT | exact r_DEV_CNT_LAST _ | exact r_DEV_EVT _ | exact r_KEYS_SLOT _ | exact r_KEYS_LAST | exact r_KEYS_EVT | exact r_KEYS_CNT | exact r_MSEC_LAST | exact r_MSEC_EVT | exact r_MSEC_CNT _ | exact r_CIPH_LAST | exact r_CIPH_EVT | exact r_CIPH_CNT | exact r_ETH_CNT _

theorem writes_pauseReceive {p f : Nat} {b : List Byte} {P : Nat → Prop} (r_ETH_EVT : P (ETH.EVT p f)) (r_DEV_CNT_LAST : ∀ x0, P (DEV.CNT_LAST x0)) (r_DEV_EVT : ∀ x0, P (DEV.EVT x0)) (r_KEYS_SLOT : ∀ x0, P (KEYS.SLOT p x0)) (r_KEYS_LAST : P (KEYS.LAST p)) (r_KEYS_EVT : P (KEYS.EVT p)) (r_KEYS_CNT : P (KEYS.CNT p 6)) (r_MSEC_LAST : P (MSEC.LAST p)) (r_MSEC_EVT : P (MSEC.EVT p)) (r_MSEC_CNT : ∀ x0, P (MSEC.CNT p x0)) (r_CIPH_LAST : P (CIPH.LAST p)) (r_CIPH_EVT : P (CIPH.EVT p)) (r_CIPH_CNT : P (CIPH.CNT p 6)) (r_ETH_CNT : ∀ x0, P (ETH.CNT p f x0)) : Writes (pauseReceive p f b) P := by
  unfold pauseReceive
  try dsimp only
  repeat' (with_reducible first | exact r_ETH_EVT | exact r_DEV_CNT_LAST _ | exact r_DEV_EVT _ | exact r_KEYS_SLOT _ | exact r_KEYS_LAST | exact r_KEYS_EVT | exact r_KEYS_CNT | exact r_MSEC_LAST | exact r_MSEC_EVT | exact r_MSEC_CNT _ | exact r_CIPH_LAST | exact r_CIPH_EVT | exact r_CIPH_CNT | exact r_ETH_CNT _ | apply writes_ethReceive | apply Writes.get | apply Writes.when | intro _ | dsimp only)
  all_goals first | exact r_ETH_EVT | exact r_DEV_CNT_LAST _ | exact r_DEV_EVT _ | exact r_KEYS_SLOT _ | exact r_KEYS_LAST | exact r_KEYS_EVT | exact r_KEYS_CNT | exact r_MSEC_LAST | exact r_MSEC_EVT | exact r_MSEC_CNT _ | exact r_CIPH_LAST | exact r_CIPH_EVT | exact r_CIPH_CNT | exact r_ETH_CNT _

theorem writes_Act_txFree {p f : Nat} {P : Nat → Prop} : Writes (Act.txFree p f) P := by
  unfold Act.txFree
  try dsimp only
  repeat' (with_reducible first | apply writes_Act_modEth | apply writes_Act_shape | apply Writes.seq | apply Writes.get | intro _ | dsimp only)

theorem writes_Act_txStamp {p f : Nat} {b : List Byte} {P : Nat → Prop} (r_ETH_EVT : P (ETH.EVT p f)) (r_ETH_CNT : P (ETH.CNT p f 51)) (r_DEV_CNT_LAST : ∀ x0, P (DEV.CNT_LAST x0)) (r_DEV_EVT : ∀ x0, P (DEV.EVT x0)) : Writes (Act.txStamp p f b) P := by
  unfold Act.txStamp
  try dsimp only
  repeat' (with_reducible first | exact r_ETH_EVT | exact r_ETH_CNT | exact r_DEV_CNT_LAST _ | exact r_DEV_EVT _ | apply writes_Act_setEth | apply writes_Act_event | apply writes_Act_ethCount | apply Writes.seq | apply Writes.get | apply Writes.opt | apply Writes.skip | apply Writes.ite | intro _ | split | dsimp only)
  all_goals first | exact r_ETH_EVT | exact r_ETH_CNT | exact r_DEV_CNT_LAST _ | exact r_DEV_EVT _

theorem writes_Act_endAborted {p f n : Nat} {body : List Byte} {P : Nat → Prop} (r_ETH_CNT : P (ETH.CNT p f 33)) (r_DEV_CNT_LAST : ∀ x0, P (DEV.CNT_LAST x0)) (r_DEV_EVT : ∀ x0, P (DEV.EVT x0)) : Writes (Act.endAborted p f n body) P := by
  unfold Act.endAborted
  try dsimp only
  repeat' (with_reducible first | exact r_ETH_CNT | exact r_DEV_CNT_LAST _ | exact r_DEV_EVT _ | apply writes_Act_emit | apply writes_Act_ethCount | apply writes_Act_txFree | apply Writes.all_cons | apply Writes.all_nil | intro _ | dsimp only)
  all_goals first | exact r_ETH_CNT | exact r_DEV_CNT_LAST _ | exact r_DEV_EVT _

theorem writes_ethTransmit {p f coll : Nat} {late fault : Bool} {P : Nat → Prop} (r_DEV_CNT_LAST : ∀ x0, P (DEV.CNT_LAST x0)) (r_DEV_EVT : ∀ x0, P (DEV.EVT x0)) (r_KEYS_SLOT : ∀ x0, P (KEYS.SLOT p x0)) (r_KEYS_LAST : P (KEYS.LAST p)) (r_KEYS_EVT : P (KEYS.EVT p)) (r_KEYS_CNT : P (KEYS.CNT p 6)) (r_MSEC_LAST : P (MSEC.LAST p)) (r_MSEC_EVT : P (MSEC.EVT p)) (r_MSEC_CNT : ∀ x0, P (MSEC.CNT p x0)) (r_CIPH_LAST : P (CIPH.LAST p)) (r_CIPH_EVT : P (CIPH.EVT p)) (r_CIPH_CNT : P (CIPH.CNT p 6)) (r_ETH_CNT : ∀ x0, P (ETH.CNT p f x0)) (r_ETH_EVT : P (ETH.EVT p f)) : Writes (ethTransmit p f coll late fault) P := by
  unfold ethTransmit
  try dsimp only
  repeat' (with_reducible first | exact r_DEV_CNT_LAST _ | exact r_DEV_EVT _ | exact r_KEYS_SLOT _ | exact r_KEYS_LAST | exact r_KEYS_EVT | exact r_KEYS_CNT | exact r_MSEC_LAST | exact r_MSEC_EVT | exact r_MSEC_CNT _ | exact r_CIPH_LAST | exact r_CIPH_EVT | exact r_CIPH_CNT | exact r_ETH_CNT _ | exact r_ETH_EVT | apply writes_Act_emit | apply writes_Act_countBy | apply writes_Act_macsecTransmit | apply writes_Act_ethCount | apply writes_Act_countTx | apply writes_Act_txFree | apply writes_Act_txStamp | apply writes_Act_endAborted | apply Writes.all_cons | apply Writes.all_nil | apply Writes.seq | apply Writes.get | apply Writes.when | apply Writes.opt | apply Writes.skip | apply Writes.ite | intro _ | split | dsimp only)
  all_goals first | exact r_DEV_CNT_LAST _ | exact r_DEV_EVT _ | exact r_KEYS_SLOT _ | exact r_KEYS_LAST | exact r_KEYS_EVT | exact r_KEYS_CNT | exact r_MSEC_LAST | exact r_MSEC_EVT | exact r_MSEC_CNT _ | exact r_CIPH_LAST | exact r_CIPH_EVT | exact r_CIPH_CNT | exact r_ETH_CNT _ | exact r_ETH_EVT

theorem writes_txAbort {p f n : Nat} {underrun : Bool} {P : Nat → Prop} (r_KEYS_SLOT : ∀ x0, P (KEYS.SLOT p x0)) (r_KEYS_LAST : P (KEYS.LAST p)) (r_KEYS_EVT : P (KEYS.EVT p)) (r_KEYS_CNT : P (KEYS.CNT p 6)) (r_DEV_CNT_LAST : ∀ x0, P (DEV.CNT_LAST x0)) (r_DEV_EVT : ∀ x0, P (DEV.EVT x0)) (r_MSEC_LAST : P (MSEC.LAST p)) (r_MSEC_EVT : P (MSEC.EVT p)) (r_MSEC_CNT : ∀ x0, P (MSEC.CNT p x0)) (r_CIPH_LAST : P (CIPH.LAST p)) (r_CIPH_EVT : P (CIPH.EVT p)) (r_CIPH_CNT : P (CIPH.CNT p 6)) (r_ETH_CNT : P (ETH.CNT p f 34)) (r_ETH_CNT_2 : P (ETH.CNT p f 33)) : Writes (txAbort p f n underrun) P := by
  unfold txAbort
  try dsimp only
  repeat' (with_reducible first | exact r_KEYS_SLOT _ | exact r_KEYS_LAST | exact r_KEYS_EVT | exact r_KEYS_CNT | exact r_DEV_CNT_LAST _ | exact r_DEV_EVT _ | exact r_MSEC_LAST | exact r_MSEC_EVT | exact r_MSEC_CNT _ | exact r_CIPH_LAST | exact r_CIPH_EVT | exact r_CIPH_CNT | exact r_ETH_CNT | exact r_ETH_CNT_2 | apply writes_Act_macsecTransmit | apply writes_Act_ethCount | apply writes_Act_endAborted | apply Writes.seq | apply Writes.get | apply Writes.when | apply Writes.opt | intro _ | split | dsimp only)
  all_goals first | exact r_KEYS_SLOT _ | exact r_KEYS_LAST | exact r_KEYS_EVT | exact r_KEYS_CNT | exact r_DEV_CNT_LAST _ | exact r_DEV_EVT _ | exact r_MSEC_LAST | exact r_MSEC_EVT | exact r_MSEC_CNT _ | exact r_CIPH_LAST | exact r_CIPH_EVT | exact r_CIPH_CNT | exact r_ETH_CNT | exact r_ETH_CNT_2

theorem writes_Act_rawIs {p f : Nat} {on : Bool} {P : Nat → Prop} (r_ETH_CNT : P (ETH.CNT p f 9)) (r_DEV_CNT_LAST : ∀ x0, P (DEV.CNT_LAST x0)) (r_DEV_EVT : ∀ x0, P (DEV.EVT x0)) : Writes (Act.rawIs p f on) P := by
  unfold Act.rawIs
  try dsimp only
  repeat' (with_reducible first | exact r_ETH_CNT | exact r_DEV_CNT_LAST _ | exact r_DEV_EVT _ | apply writes_Act_modEth | apply writes_Act_ethCount | apply Writes.seq | apply Writes.get | apply Writes.when | intro _ | dsimp only)
  all_goals first | exact r_ETH_CNT | exact r_DEV_CNT_LAST _ | exact r_DEV_EVT _

theorem writes_Act_linkDown {p f : Nat} {lf rf : Bool} {P : Nat → Prop} (r_ETH_EVT : P (ETH.EVT p f)) (r_ETH_CNT : P (ETH.CNT p f 52)) (r_DEV_CNT_LAST : ∀ x0, P (DEV.CNT_LAST x0)) (r_DEV_EVT : ∀ x0, P (DEV.EVT x0)) (r_ETH_CNT_2 : P (ETH.CNT p f 9)) : Writes (Act.linkDown p f lf rf) P := by
  unfold Act.linkDown
  try dsimp only
  repeat' (with_reducible first | exact r_ETH_EVT | exact r_ETH_CNT | exact r_DEV_CNT_LAST _ | exact r_DEV_EVT _ | exact r_ETH_CNT_2 | apply writes_Act_modEth | apply writes_Act_event | apply writes_Act_ethCount | apply writes_Act_rawIs | apply Writes.all_cons | apply Writes.all_nil | apply Writes.seq | apply Writes.get | apply Writes.when | apply Writes.all_map | intro _ | dsimp only)
  all_goals first | exact r_ETH_EVT | exact r_ETH_CNT | exact r_DEV_CNT_LAST _ | exact r_DEV_EVT _ | exact r_ETH_CNT_2

theorem writes_ethLinkDown {p f : Nat} {lf rf held : Bool} {P : Nat → Prop} (r_ETH_CNT : P (ETH.CNT p f 9)) (r_DEV_CNT_LAST : ∀ x0, P (DEV.CNT_LAST x0)) (r_DEV_EVT : ∀ x0, P (DEV.EVT x0)) (r_ETH_EVT : P (ETH.EVT p f)) (r_ETH_CNT_2 : P (ETH.CNT p f 52)) : Writes (ethLinkDown p f lf rf held) P := by
  unfold ethLinkDown
  try dsimp only
  repeat' (with_reducible first | exact r_ETH_CNT | exact r_DEV_CNT_LAST _ | exact r_DEV_EVT _ | exact r_ETH_EVT | exact r_ETH_CNT_2 | apply writes_Act_modEth | apply writes_Act_rawIs | apply writes_Act_linkDown | apply Writes.seq | apply Writes.get | apply Writes.when | apply Writes.ite | intro _ | split | dsimp only)
  all_goals first | exact r_ETH_CNT | exact r_DEV_CNT_LAST _ | exact r_DEV_EVT _ | exact r_ETH_EVT | exact r_ETH_CNT_2

theorem writes_ethLinkUp {p f : Nat} {held : Bool} {P : Nat → Prop} (r_ETH_EVT : P (ETH.EVT p f)) (r_ETH_CNT : P (ETH.CNT p f 9)) (r_DEV_CNT_LAST : ∀ x0, P (DEV.CNT_LAST x0)) (r_DEV_EVT : ∀ x0, P (DEV.EVT x0)) : Writes (ethLinkUp p f held) P := by
  unfold ethLinkUp
  try dsimp only
  repeat' (with_reducible first | exact r_ETH_EVT | exact r_ETH_CNT | exact r_DEV_CNT_LAST _ | exact r_DEV_EVT _ | apply writes_Act_setEth | apply writes_Act_modEth | apply writes_Act_event | apply writes_Act_rawIs | apply Writes.seq | apply Writes.get | apply Writes.when | apply Writes.ite | intro _ | split | dsimp only)
  all_goals first | exact r_ETH_EVT | exact r_ETH_CNT | exact r_DEV_CNT_LAST _ | exact r_DEV_EVT _

theorem writes_Act_ethEnable {p f : Nat} {P : Nat → Prop} (r_ETH_CNT : P (ETH.CNT p f 9)) (r_DEV_CNT_LAST : ∀ x0, P (DEV.CNT_LAST x0)) (r_DEV_EVT : ∀ x0, P (DEV.EVT x0)) : Writes (Act.ethEnable p f) P := by
  unfold Act.ethEnable
  try dsimp only
  repeat' (with_reducible first | exact r_ETH_CNT | exact r_DEV_CNT_LAST _ | exact r_DEV_EVT _ | apply writes_Act_modEth | apply writes_Act_rawIs | apply Writes.seq | intro _ | dsimp only)
  all_goals first | exact r_ETH_CNT | exact r_DEV_CNT_LAST _ | exact r_DEV_EVT _

theorem writes_plcaBeaconLost {p f : Nat} {P : Nat → Prop} (r_ETH_EVT : P (ETH.EVT p f)) : Writes (plcaBeaconLost p f) P := by
  unfold plcaBeaconLost
  try dsimp only
  repeat' (with_reducible first | exact r_ETH_EVT | apply writes_Act_modEth | apply writes_Act_event | apply Writes.seq | apply Writes.get | apply Writes.when | intro _ | dsimp only)
  all_goals first | exact r_ETH_EVT

theorem writes_plcaBeacon {p f : Nat} {P : Nat → Prop} (r_ETH_PLCA_STAT : P (ETH.PLCA_STAT p f)) : Writes (plcaBeacon p f) P := by
  unfold plcaBeacon
  try dsimp only
  repeat' (with_reducible first | exact r_ETH_PLCA_STAT | apply writes_Act_emit | apply writes_Act_modEth | apply writes_Act_bumpFld | apply Writes.all_cons | apply Writes.all_nil | apply Writes.get | apply Writes.when | intro _ | dsimp only)
  all_goals first | exact r_ETH_PLCA_STAT

theorem writes_Act_mdioIssue {p f op : Nat} {P : Nat → Prop} : Writes (Act.mdioIssue p f op) P := by
  unfold Act.mdioIssue
  try dsimp only
  repeat' (with_reducible first | apply writes_Act_emit | apply Writes.get | intro _ | dsimp only)

theorem writes_mdioWrite {ag : Agent} {p f : Nat} {v : Word} {k : Code → Act} {P : Nat → Prop} (r_ETH_MDIO : P (ETH.MDIO p f)) (r_BLK_ERR : P (BLK_ERR (aDie (ETH.MDIO p f)) (aBlk (ETH.MDIO p f)))) (hk_k : ∀ x0, Writes (k x0) P) : Writes (mdioWrite ag p f v k) P := by
  unfold mdioWrite
  try dsimp only
  repeat' (with_reducible first | exact r_ETH_MDIO | exact r_BLK_ERR | exact hk_k _ | apply writes_Act_modBus | apply writes_Act_setFld | apply writes_Act_badValue | apply writes_Act_store | apply writes_Act_mdioIssue | apply Writes.all_cons | apply Writes.all_nil | apply Writes.seq | apply Writes.get | apply Writes.when | apply Writes.ite | intro _ | split | dsimp only)
  all_goals first | exact r_ETH_MDIO | exact r_BLK_ERR

theorem writes_mdioDone {p b data : Nat} {turnaround : Bool} {P : Nat → Prop} (r_ETH_MDIO : ∀ x0, P (ETH.MDIO p x0)) : Writes (mdioDone p b data turnaround) P := by
  unfold mdioDone
  try dsimp only
  repeat' (with_reducible first | exact r_ETH_MDIO _ | apply writes_Act_setBus | apply writes_Act_setFld | apply writes_Act_mdioIssue | apply Writes.all_cons | apply Writes.all_nil | apply Writes.get | apply Writes.when | apply Writes.opt | apply Writes.skip | apply Writes.ite | intro _ | split | dsimp only)
  all_goals first | exact r_ETH_MDIO _

theorem writes_ethSnap {p f : Nat} {P : Nat → Prop} (r_ETH_SNAPCNT : ∀ x0, P (ETH.SNAPCNT p f x0)) : Writes (ethSnap p f) P := by
  unfold ethSnap
  try dsimp only
  repeat' (with_reducible first | exact r_ETH_SNAPCNT _ | apply Writes.setReg | apply Writes.get | apply Writes.each | intro _ | dsimp only)
  all_goals first | exact r_ETH_SNAPCNT _

theorem writes_restartAn {p f : Nat} {P : Nat → Prop} (r_ETH_CNT : P (ETH.CNT p f 9)) (r_DEV_CNT_LAST : ∀ x0, P (DEV.CNT_LAST x0)) (r_DEV_EVT : ∀ x0, P (DEV.EVT x0)) : Writes (restartAn p f) P := by
  unfold restartAn
  try dsimp only
  repeat' (with_reducible first | exact r_ETH_CNT | exact r_DEV_CNT_LAST _ | exact r_DEV_EVT _ | apply writes_Act_modEth | apply writes_Act_rawIs | apply Writes.seq | apply Writes.get | apply Writes.when | intro _ | dsimp only)
  all_goals first | exact r_ETH_CNT | exact r_DEV_CNT_LAST _ | exact r_DEV_EVT _

theorem writes_ethCtrl {p f : Nat} {v : Word} {k : Code → Act} {P : Nat → Prop} (r_ETH_SNAPCNT : ∀ x0, P (ETH.SNAPCNT p f x0)) (r_ETH_CNT : P (ETH.CNT p f 9)) (r_DEV_CNT_LAST : ∀ x0, P (DEV.CNT_LAST x0)) (r_DEV_EVT : ∀ x0, P (DEV.EVT x0)) (hk_k : ∀ x0, Writes (k x0) P) : Writes (ethCtrl p f v k) P := by
  unfold ethCtrl
  try dsimp only
  repeat' (with_reducible first | exact r_ETH_SNAPCNT _ | exact r_ETH_CNT | exact r_DEV_CNT_LAST _ | exact r_DEV_EVT _ | exact hk_k _ | apply writes_ethSnap | apply writes_restartAn | apply Writes.all_cons | apply Writes.all_nil | apply Writes.when | intro _ | dsimp only)
  all_goals first | exact r_ETH_SNAPCNT _ | exact r_ETH_CNT | exact r_DEV_CNT_LAST _ | exact r_DEV_EVT _

theorem writes_txtsPop {p f : Nat} {k : Code → Word → Act} {P : Nat → Prop} (hk_k : ∀ x0 x1, Writes (k x0 x1) P) : Writes (txtsPop p f k) P := by
  unfold txtsPop
  try dsimp only
  repeat' (with_reducible first | exact hk_k _ _ | apply writes_Act_modEth | apply Writes.seq | apply Writes.get | intro _ | dsimp only)

/-! ## Time -/

theorem writes_Act_addTime {p : Nat} {i : Int} {P : Nat → Prop} : Writes (Act.addTime p i) P := by
  unfold Act.addTime
  try dsimp only
  repeat' (with_reducible first | apply writes_Act_modDie | intro _ | dsimp only)

theorem writes_Act_moveMoments {p : Nat} {i : Int} {P : Nat → Prop} : Writes (Act.moveMoments p i) P := by
  unfold Act.moveMoments
  try dsimp only
  repeat' (with_reducible first | apply writes_Act_modFlood | apply writes_Act_modMtrC | apply writes_Act_modMtrE | apply writes_Act_modShaper | apply writes_Act_modRcv | apply writes_Act_modEth | apply writes_Act_modAprLevel | apply Writes.all_cons | apply Writes.all_nil | apply Writes.get | apply Writes.each | apply Writes.all_map | intro _ | dsimp only)

theorem writes_Act_stepTime {p : Nat} {i : Int} {P : Nat → Prop} (r_PSFP_GCL_STAT : ∀ x0, P (PSFP.GCL_STAT p x0)) : Writes (Act.stepTime p i) P := by
  unfold Act.stepTime
  try dsimp only
  repeat' (with_reducible first | exact r_PSFP_GCL_STAT _ | apply writes_Act_setCad | apply writes_Act_shape | apply writes_Act_gatesStepped | apply writes_Act_addTime | apply writes_Act_moveMoments | apply Writes.all_cons | apply Writes.all_nil | apply Writes.get | intro _ | dsimp only)
  all_goals first | exact r_PSFP_GCL_STAT _

theorem writes_Act_passEdge  {P : Nat → Prop} : Writes (Act.passEdge ) P := by
  unfold Act.passEdge
  try dsimp only
  repeat' (with_reducible first | apply writes_Act_modDie | apply writes_Act_shape | apply Writes.seq | apply Writes.get | apply Writes.each | apply Writes.ite | intro _ | split | dsimp only)

theorem writes_Act_applyCorr {p : Nat} {P : Nat → Prop} (r_PSFP_GCL_STAT : ∀ x0, P (PSFP.GCL_STAT p x0)) : Writes (Act.applyCorr p) P := by
  unfold Act.applyCorr
  try dsimp only
  repeat' (with_reducible first | exact r_PSFP_GCL_STAT _ | apply writes_Act_modTim | apply writes_Act_addTime | apply writes_Act_stepTime | apply Writes.seq | apply Writes.get | apply Writes.ite | intro _ | split | dsimp only)
  all_goals first | exact r_PSFP_GCL_STAT _

theorem writes_Act_measure {p : Nat} {P : Nat → Prop} (r_TIME_SYNC : P (TIME.SYNC p)) (r_TIME_EVT : P (TIME.EVT p)) : Writes (Act.measure p) P := by
  unfold Act.measure
  try dsimp only
  repeat' (with_reducible first | exact r_TIME_SYNC | exact r_TIME_EVT | apply writes_Act_setTim | apply writes_Act_setFlds | apply writes_Act_event | apply writes_Act_offerMon | apply Writes.all_cons | apply Writes.all_nil | apply Writes.get | apply Writes.when | apply Writes.ite | intro _ | split | dsimp only)
  all_goals first | exact r_TIME_SYNC | exact r_TIME_EVT

theorem writes_timeMark {drift : List Int} {P : Nat → Prop} (r_TIME_EVT : ∀ x0, P (TIME.EVT x0)) (r_PSFP_GCL_STAT : ∀ x0 x1, P (PSFP.GCL_STAT x0 x1)) (r_TIME_SYNC : ∀ x0, P (TIME.SYNC x0)) : Writes (timeMark drift) P := by
  unfold timeMark
  try dsimp only
  repeat' (with_reducible first | exact r_TIME_EVT _ | exact r_PSFP_GCL_STAT _ _ | exact r_TIME_SYNC _ | apply writes_Act_modTim | apply writes_Act_event | apply writes_Act_addTime | apply writes_Act_stepTime | apply writes_Act_applyCorr | apply writes_Act_measure | apply Writes.all_cons | apply Writes.all_nil | apply Writes.seq | apply Writes.get | apply Writes.when | apply Writes.each | apply Writes.opt | intro _ | dsimp only)
  all_goals first | exact r_TIME_EVT _ | exact r_PSFP_GCL_STAT _ _ | exact r_TIME_SYNC _

theorem writes_timeRateWrite {ag : Agent} {p : Nat} {v : Word} {k : Code → Act} {P : Nat → Prop} (r_BLK_ERR : P (BLK_ERR (aDie (TIME.RATE p)) (aBlk (TIME.RATE p)))) (r_TIME_RATE : P (TIME.RATE p)) (hk_k : ∀ x0, Writes (k x0) P) : Writes (timeRateWrite ag p v k) P := by
  unfold timeRateWrite
  try dsimp only
  repeat' (with_reducible first | exact r_BLK_ERR | exact r_TIME_RATE | exact hk_k _ | apply writes_Act_modTim | apply writes_Act_badValue | apply writes_Act_store | apply Writes.all_cons | apply Writes.all_nil | apply Writes.get | apply Writes.ite | intro _ | split | dsimp only)
  all_goals first | exact r_BLK_ERR | exact r_TIME_RATE

theorem writes_timeStepWrite {ag : Agent} {p : Nat} {v : Word} {k : Code → Act} {P : Nat → Prop} (r_BLK_ERR : P (BLK_ERR (aDie (TIME.STEP p)) (aBlk (TIME.STEP p)))) (r_TIME_STEP : P (TIME.STEP p)) (hk_k : ∀ x0, Writes (k x0) P) : Writes (timeStepWrite ag p v k) P := by
  unfold timeStepWrite
  try dsimp only
  repeat' (with_reducible first | exact r_BLK_ERR | exact r_TIME_STEP | exact hk_k _ | apply writes_Act_modTim | apply writes_Act_badValue | apply writes_Act_store | apply Writes.all_cons | apply Writes.all_nil | apply Writes.get | apply Writes.ite | intro _ | split | dsimp only)
  all_goals first | exact r_BLK_ERR | exact r_TIME_STEP

theorem writes_ptpCommit  {P : Nat → Prop} (r_TIME_CTRL : ∀ x0, P (TIME.CTRL x0)) : Writes (ptpCommit ) P := by
  unfold ptpCommit
  try dsimp only
  repeat' (with_reducible first | exact r_TIME_CTRL _ | apply writes_Act_modTim | apply writes_Act_setFld | apply Writes.seq | apply Writes.get | apply Writes.each | intro _ | dsimp only)
  all_goals first | exact r_TIME_CTRL _

theorem writes_timeCtrl {ag : Agent} {p : Nat} {v : Word} {k : Code → Act} {P : Nat → Prop} (r_BLK_ERR : P (BLK_ERR (aDie (TIME.CTRL p)) (aBlk (TIME.CTRL p)))) (r_TIME_CTRL : ∀ x0, P (TIME.CTRL x0)) (hk_k : ∀ x0, Writes (k x0) P) : Writes (timeCtrl ag p v k) P := by
  unfold timeCtrl
  try dsimp only
  repeat' (with_reducible first | exact r_BLK_ERR | exact r_TIME_CTRL _ | exact hk_k _ | apply writes_Act_badValue | apply writes_Act_store | apply writes_ptpCommit | apply Writes.all_cons | apply Writes.all_nil | apply Writes.when | apply Writes.ite | intro _ | split | dsimp only)
  all_goals first | exact r_BLK_ERR | exact r_TIME_CTRL _

theorem writes_ptpNowRead {p : Nat} {k : Code → Word → Act} {P : Nat → Prop} (hk_k : ∀ x0 x1, Writes (k x0 x1) P) : Writes (ptpNowRead p k) P := by
  unfold ptpNowRead
  try dsimp only
  repeat' (with_reducible first | exact hk_k _ _ | apply writes_Act_modTim | apply Writes.seq | apply Writes.get | apply Writes.ite | apply Writes.all_map | intro _ | split | dsimp only)

theorem writes_timeCapture {falling : Bool} {P : Nat → Prop} (r_TIME_CAP : P (TIME.CAP 0)) (r_TIME_EVT : P (TIME.EVT 0)) : Writes (timeCapture falling) P := by
  unfold timeCapture
  try dsimp only
  repeat' (with_reducible first | exact r_TIME_CAP | exact r_TIME_EVT | apply writes_Act_event | apply Writes.setReg | apply Writes.seq | apply Writes.get | apply Writes.when | intro _ | dsimp only)
  all_goals first | exact r_TIME_CAP | exact r_TIME_EVT

theorem writes_ppsPulse  {P : Nat → Prop} : Writes (ppsPulse ) P := by
  unfold ppsPulse
  try dsimp only
  repeat' (with_reducible first | apply writes_Act_emit | apply Writes.seq | apply Writes.get | apply Writes.when | apply Writes.all_map | intro _ | dsimp only)

end Sys2Proof.Machine
end

