-- ==== Sys2Proof/Laws/Writes/Group4.lean ====
section
/-! SUPPORT. Which registers the operations of Seal, Domain, Signal, Lin, Egress, Ezsor, Admit may write. -/

set_option linter.unusedTactic false
set_option linter.unreachableTactic false

namespace Sys2Proof.Machine

/-! ## Seal -/

theorem writes_Act_sealEvent {p i prof : Nat} {P : Nat → Prop} (r_SEAL_LAST : P (SEAL.LAST p)) (r_SEAL_EVT : P (SEAL.EVT p)) : Writes (Act.sealEvent p i prof) P := by
  unfold Act.sealEvent
  try dsimp only
  repeat' (with_reducible first | exact r_SEAL_LAST | exact r_SEAL_EVT | apply writes_Act_setFld | apply writes_Act_event | apply Writes.seq | intro _ | dsimp only)
  all_goals first | exact r_SEAL_LAST | exact r_SEAL_EVT

theorem writes_Act_sealTag {p i kind use user : Nat} {fault : Option (Nat × Nat)} {payload : List Byte} {k : Sealed → Act} {P : Nat → Prop} (r_SEAL_CNT : P (SEAL.CNT p 6)) (r_DEV_CNT_LAST : ∀ x0, P (DEV.CNT_LAST x0)) (r_DEV_EVT : ∀ x0, P (DEV.EVT x0)) (r_KEYS_SLOT : ∀ x0, P (KEYS.SLOT p x0)) (r_KEYS_LAST : P (KEYS.LAST p)) (r_KEYS_EVT : P (KEYS.EVT p)) (r_KEYS_CNT : P (KEYS.CNT p 6)) (r_CIPH_LAST : P (CIPH.LAST p)) (r_CIPH_EVT : P (CIPH.EVT p)) (r_CIPH_CNT : P (CIPH.CNT p 6)) (r_SEAL_LAST : P (SEAL.LAST p)) (r_SEAL_EVT : P (SEAL.EVT p)) (hk_k : ∀ x0, Writes (k x0) P) : Writes (Act.sealTag p i kind use user fault payload k) P := by
  unfold Act.sealTag
  try dsimp only
  repeat' (with_reducible first | exact r_SEAL_CNT | exact r_DEV_CNT_LAST _ | exact r_DEV_EVT _ | exact r_KEYS_SLOT _ | exact r_KEYS_LAST | exact r_KEYS_EVT | exact r_KEYS_CNT | exact r_CIPH_LAST | exact r_CIPH_EVT | exact r_CIPH_CNT | exact r_SEAL_LAST | exact r_SEAL_EVT | exact hk_k _ | apply writes_Act_setFresh | apply writes_Act_count | apply writes_Act_useKey | apply writes_Act_datapathFault | apply writes_Act_sealEvent | apply Writes.all_cons | apply Writes.all_nil | apply Writes.seq | apply Writes.get | apply Writes.when | apply Writes.ite | intro _ | split | dsimp only)
  all_goals first | exact r_SEAL_CNT | exact r_DEV_CNT_LAST _ | exact r_DEV_EVT _ | exact r_KEYS_SLOT _ | exact r_KEYS_LAST | exact r_KEYS_EVT | exact r_KEYS_CNT | exact r_CIPH_LAST | exact r_CIPH_EVT | exact r_CIPH_CNT | exact r_SEAL_LAST | exact r_SEAL_EVT

theorem writes_Act_sealPdu {p i use user : Nat} {fault : Option (Nat × Nat)} {data : List Byte} {k : Option (List Byte) → Act} {P : Nat → Prop} (r_SEAL_CNT : P (SEAL.CNT p 0)) (r_DEV_CNT_LAST : ∀ x0, P (DEV.CNT_LAST x0)) (r_DEV_EVT : ∀ x0, P (DEV.EVT x0)) (r_SEAL_CNT_2 : P (SEAL.CNT p 6)) (r_KEYS_SLOT : ∀ x0, P (KEYS.SLOT p x0)) (r_KEYS_LAST : P (KEYS.LAST p)) (r_KEYS_EVT : P (KEYS.EVT p)) (r_KEYS_CNT : P (KEYS.CNT p 6)) (r_CIPH_LAST : P (CIPH.LAST p)) (r_CIPH_EVT : P (CIPH.EVT p)) (r_CIPH_CNT : P (CIPH.CNT p 6)) (r_SEAL_LAST : P (SEAL.LAST p)) (r_SEAL_EVT : P (SEAL.EVT p)) (hk_k : ∀ x0, Writes (k x0) P) : Writes (Act.sealPdu p i use user fault data k) P := by
  unfold Act.sealPdu
  try dsimp only
  repeat' (with_reducible first | exact r_SEAL_CNT | exact r_DEV_CNT_LAST _ | exact r_DEV_EVT _ | exact r_SEAL_CNT_2 | exact r_KEYS_SLOT _ | exact r_KEYS_LAST | exact r_KEYS_EVT | exact r_KEYS_CNT | exact r_CIPH_LAST | exact r_CIPH_EVT | exact r_CIPH_CNT | exact r_SEAL_LAST | exact r_SEAL_EVT | exact hk_k _ | apply writes_Act_count | apply writes_Act_sealTag | apply Writes.seq | apply Writes.get | apply Writes.ite | intro _ | split | dsimp only)
  all_goals first | exact r_SEAL_CNT | exact r_DEV_CNT_LAST _ | exact r_DEV_EVT _ | exact r_SEAL_CNT_2 | exact r_KEYS_SLOT _ | exact r_KEYS_LAST | exact r_KEYS_EVT | exact r_KEYS_CNT | exact r_CIPH_LAST | exact r_CIPH_EVT | exact r_CIPH_CNT | exact r_SEAL_LAST | exact r_SEAL_EVT

theorem writes_Act_verifySeal {p i use user : Nat} {beacon : Bool} {fault : Option (Nat × Nat)} {data : List Byte} {k : Verified → Act} {P : Nat → Prop} (r_SEAL_CNT : P (SEAL.CNT p 4)) (r_DEV_CNT_LAST : ∀ x0, P (DEV.CNT_LAST x0)) (r_DEV_EVT : ∀ x0, P (DEV.EVT x0)) (r_KEYS_SLOT : ∀ x0, P (KEYS.SLOT p x0)) (r_KEYS_LAST : P (KEYS.LAST p)) (r_KEYS_EVT : P (KEYS.EVT p)) (r_KEYS_CNT : P (KEYS.CNT p 6)) (r_CIPH_LAST : P (CIPH.LAST p)) (r_CIPH_EVT : P (CIPH.EVT p)) (r_CIPH_CNT : P (CIPH.CNT p 6)) (r_SEAL_LAST : P (SEAL.LAST p)) (r_SEAL_EVT : P (SEAL.EVT p)) (hk_k : ∀ x0, Writes (k x0) P) : Writes (Act.verifySeal p i use user beacon fault data k) P := by
  unfold Act.verifySeal
  try dsimp only
  repeat' (with_reducible first | exact r_SEAL_CNT | exact r_DEV_CNT_LAST _ | exact r_DEV_EVT _ | exact r_KEYS_SLOT _ | exact r_KEYS_LAST | exact r_KEYS_EVT | exact r_KEYS_CNT | exact r_CIPH_LAST | exact r_CIPH_EVT | exact r_CIPH_CNT | exact r_SEAL_LAST | exact r_SEAL_EVT | exact hk_k _ | apply writes_Act_count | apply writes_Act_useKey | apply writes_Act_datapathFault | apply writes_Act_sealEvent | apply Writes.all_cons | apply Writes.all_nil | apply Writes.seq | apply Writes.get | apply Writes.ite | intro _ | split | dsimp only)
  all_goals first | exact r_SEAL_CNT | exact r_DEV_CNT_LAST _ | exact r_DEV_EVT _ | exact r_KEYS_SLOT _ | exact r_KEYS_LAST | exact r_KEYS_EVT | exact r_KEYS_CNT | exact r_CIPH_LAST | exact r_CIPH_EVT | exact r_CIPH_CNT | exact r_SEAL_LAST | exact r_SEAL_EVT

theorem writes_Act_sealReplay {p i : Nat} {P : Nat → Prop} (r_SEAL_CNT : P (SEAL.CNT p 5)) (r_DEV_CNT_LAST : ∀ x0, P (DEV.CNT_LAST x0)) (r_DEV_EVT : ∀ x0, P (DEV.EVT x0)) (r_SEAL_LAST : P (SEAL.LAST p)) (r_SEAL_EVT : P (SEAL.EVT p)) : Writes (Act.sealReplay p i) P := by
  unfold Act.sealReplay
  try dsimp only
  repeat' (with_reducible first | exact r_SEAL_CNT | exact r_DEV_CNT_LAST _ | exact r_DEV_EVT _ | exact r_SEAL_LAST | exact r_SEAL_EVT | apply writes_Act_count | apply writes_Act_sealEvent | apply Writes.seq | intro _ | dsimp only)
  all_goals first | exact r_SEAL_CNT | exact r_DEV_CNT_LAST _ | exact r_DEV_EVT _ | exact r_SEAL_LAST | exact r_SEAL_EVT

theorem writes_Act_sealAccept {p i : Nat} {beacon : Bool} {f : Nat} {P : Nat → Prop} (r_SEAL_CNT : ∀ x0, P (SEAL.CNT p x0)) (r_DEV_CNT_LAST : ∀ x0, P (DEV.CNT_LAST x0)) (r_DEV_EVT : ∀ x0, P (DEV.EVT x0)) : Writes (Act.sealAccept p i beacon f) P := by
  unfold Act.sealAccept
  try dsimp only
  repeat' (with_reducible first | exact r_SEAL_CNT _ | exact r_DEV_CNT_LAST _ | exact r_DEV_EVT _ | apply writes_Act_modFresh | apply writes_Act_count | apply writes_Act_offerMon | apply Writes.seq | apply Writes.get | apply Writes.opt | apply Writes.ite | intro _ | split | dsimp only)
  all_goals first | exact r_SEAL_CNT _ | exact r_DEV_CNT_LAST _ | exact r_DEV_EVT _

theorem writes_profCmd {ag : Agent} {p : Nat} {v : Word} {k : Code → Act} {P : Nat → Prop} (r_SEAL_PROF_CMD : P (SEAL.PROF_CMD p)) (r_SEAL_PROF_W0 : P (SEAL.PROF_W0 p)) (r_SEAL_PROF_W1 : P (SEAL.PROF_W1 p)) (r_SEAL_PROF_W2 : P (SEAL.PROF_W2 p)) (r_BLK_ERR : P (BLK_ERR (aDie (SEAL.PROF_CMD p)) (aBlk (SEAL.PROF_CMD p)))) (hk_k : ∀ x0, Writes (k x0) P) : Writes (profCmd ag p v k) P := by
  unfold profCmd
  try dsimp only
  repeat' (with_reducible first | exact r_SEAL_PROF_CMD | exact r_SEAL_PROF_W0 | exact r_SEAL_PROF_W1 | exact r_SEAL_PROF_W2 | exact r_BLK_ERR | exact hk_k _ | apply writes_Act_modFresh | apply writes_Act_setTblWords | apply writes_Act_badValue | apply writes_Act_store | apply Writes.setReg | apply Writes.all_cons | apply Writes.all_nil | apply Writes.seq | apply Writes.get | apply Writes.ite | intro _ | split | dsimp only)
  all_goals first | exact r_SEAL_PROF_CMD | exact r_SEAL_PROF_W0 | exact r_SEAL_PROF_W1 | exact r_SEAL_PROF_W2 | exact r_BLK_ERR

theorem writes_fvCmd {ag : Agent} {p : Nat} {v : Word} {k : Code → Act} {P : Nat → Prop} (r_SEAL_FV_CMD : P (SEAL.FV_CMD p)) (r_SEAL_FV_W : P (SEAL.FV_W p)) (r_BLK_ERR : P (BLK_ERR (aDie (SEAL.FV_CMD p)) (aBlk (SEAL.FV_CMD p)))) (hk_k : ∀ x0, Writes (k x0) P) : Writes (fvCmd ag p v k) P := by
  unfold fvCmd
  try dsimp only
  repeat' (with_reducible first | exact r_SEAL_FV_CMD | exact r_SEAL_FV_W | exact r_BLK_ERR | exact hk_k _ | apply writes_Act_modFresh | apply writes_Act_badValue | apply writes_Act_store | apply Writes.setReg | apply Writes.all_cons | apply Writes.all_nil | apply Writes.seq | apply Writes.get | apply Writes.ite | intro _ | split | dsimp only)
  all_goals first | exact r_SEAL_FV_CMD | exact r_SEAL_FV_W | exact r_BLK_ERR

/-! ## Domain -/

theorem writes_Act_plxEvent {i dev facet : Nat} {P : Nat → Prop} (r_PLX_LAST : P (PLX.LAST 0)) (r_PLX_EVT : P (PLX.EVT 0)) : Writes (Act.plxEvent i dev facet) P := by
  unfold Act.plxEvent
  try dsimp only
  repeat' (with_reducible first | exact r_PLX_LAST | exact r_PLX_EVT | apply writes_Act_event | apply writes_Act_irqBlk | apply Writes.setReg | apply Writes.all_cons | apply Writes.all_nil | apply Writes.when | intro _ | dsimp only)
  all_goals first | exact r_PLX_LAST | exact r_PLX_EVT

theorem writes_Act_modMem {id : Nat} {f : Member → Member} {P : Nat → Prop} : Writes (Act.modMem id f) P := by
  unfold Act.modMem
  try dsimp only
  repeat' (with_reducible first | apply writes_Act_modMember | apply Writes.all_map | intro _ | dsimp only)

theorem writes_Act_censusLeave {id : Nat} {P : Nat → Prop} : Writes (Act.censusLeave id) P := by
  unfold Act.censusLeave
  try dsimp only
  repeat' (with_reducible first | apply writes_Act_setCens | apply writes_Act_modMem | apply Writes.seq | apply Writes.get | apply Writes.when | apply Writes.opt | intro _ | dsimp only)

theorem writes_Act_censusJoin {id facet : Nat} {P : Nat → Prop} (r_PLX_LAST : P (PLX.LAST 0)) (r_PLX_EVT : P (PLX.EVT 0)) : Writes (Act.censusJoin id facet) P := by
  unfold Act.censusJoin
  try dsimp only
  repeat' (with_reducible first | exact r_PLX_LAST | exact r_PLX_EVT | apply writes_Act_setCens | apply writes_Act_plxEvent | apply writes_Act_modMem | apply Writes.all_cons | apply Writes.all_nil | apply Writes.seq | apply Writes.get | apply Writes.when | apply Writes.opt | intro _ | split | dsimp only)
  all_goals first | exact r_PLX_LAST | exact r_PLX_EVT

theorem writes_Act_censusUpdate {id facet : Nat} {P : Nat → Prop} (r_PLX_LAST : P (PLX.LAST 0)) (r_PLX_EVT : P (PLX.EVT 0)) : Writes (Act.censusUpdate id facet) P := by
  unfold Act.censusUpdate
  try dsimp only
  repeat' (with_reducible first | exact r_PLX_LAST | exact r_PLX_EVT | apply writes_Act_censusLeave | apply writes_Act_censusJoin | apply Writes.seq | apply Writes.get | apply Writes.opt | apply Writes.skip | apply Writes.ite | intro _ | split | dsimp only)
  all_goals first | exact r_PLX_LAST | exact r_PLX_EVT

theorem writes_censusAge  {P : Nat → Prop} : Writes (censusAge ) P := by
  unfold censusAge
  try dsimp only
  repeat' (with_reducible first | apply writes_Act_modMem | apply writes_Act_censusLeave | apply Writes.seq | apply Writes.get | apply Writes.when | apply Writes.each | intro _ | dsimp only)

/-! ## Signal -/

theorem writes_Act_engineOut {p f dest src ts : Nat} {bus : Bool} {data : List Byte} {P : Nat → Prop} : Writes (Act.engineOut p f dest src ts bus data) P := by
  unfold Act.engineOut
  try dsimp only
  repeat' (with_reducible first | apply writes_Act_modBuf | apply writes_Act_setFidNo | apply Writes.seq | apply Writes.get | intro _ | dsimp only)

theorem writes_Act_sgwEvent {p i : Nat} {P : Nat → Prop} (r_SGW_EVT : P (SGW.EVT p)) : Writes (Act.sgwEvent p i) P := by
  unfold Act.sgwEvent
  try dsimp only
  repeat' (with_reducible first | exact r_SGW_EVT | apply writes_Act_eventIrq | intro _ | dsimp only)
  all_goals first | exact r_SGW_EVT

theorem writes_Act_sgwCount {p i : Nat} {P : Nat → Prop} (r_SGW_CNT : P (SGW.CNT p i)) (r_DEV_CNT_LAST : ∀ x0, P (DEV.CNT_LAST x0)) (r_DEV_EVT : ∀ x0, P (DEV.EVT x0)) : Writes (Act.sgwCount p i) P := by
  unfold Act.sgwCount
  try dsimp only
  repeat' (with_reducible first | exact r_SGW_CNT | exact r_DEV_CNT_LAST _ | exact r_DEV_EVT _ | apply writes_Act_count | intro _ | dsimp only)
  all_goals first | exact r_SGW_CNT | exact r_DEV_CNT_LAST _ | exact r_DEV_EVT _

theorem writes_Act_trigger {p i : Nat} {P : Nat → Prop} : Writes (Act.trigger p i) P := by
  unfold Act.trigger
  try dsimp only
  repeat' (with_reducible first | apply writes_Act_modPdu | apply Writes.get | apply Writes.when | intro _ | dsimp only)

theorem writes_Act_sigWrite {p : Nat} {l : List (Nat × Nat)} {ts : Nat} {P : Nat → Prop} : Writes (Act.sigWrite p l ts) P := by
  unfold Act.sigWrite
  try dsimp only
  repeat' (with_reducible first | apply writes_Act_setSig | apply writes_Act_trigger | apply Writes.seq | apply Writes.get | apply Writes.each | intro _ | dsimp only)

theorem writes_Act_extract {p first n : Nat} {mux : Bool} {b : List Byte} {ts : Nat} {P : Nat → Prop} (r_SGW_CNT : P (SGW.CNT p 6)) (r_DEV_CNT_LAST : ∀ x0, P (DEV.CNT_LAST x0)) (r_DEV_EVT : ∀ x0, P (DEV.EVT x0)) (r_SGW_CNT_2 : P (SGW.CNT p 5)) : Writes (Act.extract p first n mux b ts) P := by
  unfold Act.extract
  try dsimp only
  repeat' (with_reducible first | exact r_SGW_CNT | exact r_DEV_CNT_LAST _ | exact r_DEV_EVT _ | exact r_SGW_CNT_2 | apply writes_Act_countBy | apply writes_Act_sigWrite | apply Writes.all_cons | apply Writes.all_nil | apply Writes.get | apply Writes.ite | apply Writes.all_map | intro _ | split | dsimp only)
  all_goals first | exact r_SGW_CNT | exact r_DEV_CNT_LAST _ | exact r_DEV_EVT _ | exact r_SGW_CNT_2

theorem writes_signalSweep {p : Nat} {P : Nat → Prop} : Writes (signalSweep p) P := by
  unfold signalSweep
  try dsimp only
  repeat' (with_reducible first | apply writes_Act_setSig | apply Writes.get | apply Writes.each | intro _ | dsimp only)

theorem writes_sigCmd {ag : Agent} {p : Nat} {v : Word} {k : Code → Act} {P : Nat → Prop} (r_SGW_SIG_CMD : P (SGW.SIG_CMD p)) (r_SGW_SIG_VAL : P (SGW.SIG_VAL p)) (r_SGW_SIG_TS : P (SGW.SIG_TS p)) (r_BLK_ERR : P (BLK_ERR (aDie (SGW.SIG_CMD p)) (aBlk (SGW.SIG_CMD p)))) (hk_k : ∀ x0, Writes (k x0) P) : Writes (sigCmd ag p v k) P := by
  unfold sigCmd
  try dsimp only
  repeat' (with_reducible first | exact r_SGW_SIG_CMD | exact r_SGW_SIG_VAL | exact r_SGW_SIG_TS | exact r_BLK_ERR | exact hk_k _ | apply writes_Act_badValue | apply writes_Act_store | apply writes_Act_sigWrite | apply Writes.setReg | apply Writes.all_cons | apply Writes.all_nil | apply Writes.seq | apply Writes.get | apply Writes.ite | intro _ | split | dsimp only)
  all_goals first | exact r_SGW_SIG_CMD | exact r_SGW_SIG_VAL | exact r_SGW_SIG_TS | exact r_BLK_ERR

theorem writes_Act_sendTunnel {p t : Nat} {P : Nat → Prop} (r_SGW_CNT : P (SGW.CNT p 11)) (r_DEV_CNT_LAST : ∀ x0, P (DEV.CNT_LAST x0)) (r_DEV_EVT : ∀ x0, P (DEV.EVT x0)) : Writes (Act.sendTunnel p t) P := by
  unfold Act.sendTunnel
  try dsimp only
  repeat' (with_reducible first | exact r_SGW_CNT | exact r_DEV_CNT_LAST _ | exact r_DEV_EVT _ | apply writes_Act_setTun | apply writes_Act_countBy | apply writes_Act_engineOut | apply Writes.all_cons | apply Writes.all_nil | apply Writes.get | apply Writes.when | intro _ | dsimp only)
  all_goals first | exact r_SGW_CNT | exact r_DEV_CNT_LAST _ | exact r_DEV_EVT _

theorem writes_tunnelSend {p t : Nat} {P : Nat → Prop} (r_SGW_CNT : P (SGW.CNT p 11)) (r_DEV_CNT_LAST : ∀ x0, P (DEV.CNT_LAST x0)) (r_DEV_EVT : ∀ x0, P (DEV.EVT x0)) : Writes (tunnelSend p t) P := by
  unfold tunnelSend
  try dsimp only
  repeat' (with_reducible first | exact r_SGW_CNT | exact r_DEV_CNT_LAST _ | exact r_DEV_EVT _ | apply writes_Act_sendTunnel | apply Writes.get | apply Writes.when | intro _ | dsimp only)
  all_goals first | exact r_SGW_CNT | exact r_DEV_CNT_LAST _ | exact r_DEV_EVT _

theorem writes_Act_tunnelAdd {p t busId ts : Nat} {b : List Byte} {P : Nat → Prop} (r_SGW_CNT : P (SGW.CNT p 4)) (r_DEV_CNT_LAST : ∀ x0, P (DEV.CNT_LAST x0)) (r_DEV_EVT : ∀ x0, P (DEV.EVT x0)) (r_SGW_CNT_2 : P (SGW.CNT p 11)) : Writes (Act.tunnelAdd p t busId ts b) P := by
  unfold Act.tunnelAdd
  try dsimp only
  repeat' (with_reducible first | exact r_SGW_CNT | exact r_DEV_CNT_LAST _ | exact r_DEV_EVT _ | exact r_SGW_CNT_2 | apply writes_Act_modTun | apply writes_Act_sgwCount | apply writes_Act_sendTunnel | apply Writes.all_cons | apply Writes.all_nil | apply Writes.get | apply Writes.when | apply Writes.ite | apply Writes.all_map | intro _ | split | dsimp only)
  all_goals first | exact r_SGW_CNT | exact r_DEV_CNT_LAST _ | exact r_DEV_EVT _ | exact r_SGW_CNT_2

theorem writes_Act_pduOut {p i : Nat} {data : List Byte} {P : Nat → Prop} (r_SGW_CNT : P (SGW.CNT p 4)) (r_DEV_CNT_LAST : ∀ x0, P (DEV.CNT_LAST x0)) (r_DEV_EVT : ∀ x0, P (DEV.EVT x0)) (r_SGW_CNT_2 : P (SGW.CNT p 11)) : Writes (Act.pduOut p i data) P := by
  unfold Act.pduOut
  try dsimp only
  repeat' (with_reducible first | exact r_SGW_CNT | exact r_DEV_CNT_LAST _ | exact r_DEV_EVT _ | exact r_SGW_CNT_2 | apply writes_Act_engineOut | apply writes_Act_tunnelAdd | apply Writes.get | apply Writes.ite | intro _ | split | dsimp only)
  all_goals first | exact r_SGW_CNT | exact r_DEV_CNT_LAST _ | exact r_DEV_EVT _ | exact r_SGW_CNT_2

theorem writes_Act_compose {p i late : Nat} {fault : Bool} {P : Nat → Prop} (r_SEAL_CNT : P (SEAL.CNT p 0)) (r_DEV_CNT_LAST : ∀ x0, P (DEV.CNT_LAST x0)) (r_DEV_EVT : ∀ x0, P (DEV.EVT x0)) (r_SEAL_CNT_2 : P (SEAL.CNT p 6)) (r_KEYS_SLOT : ∀ x0, P (KEYS.SLOT p x0)) (r_KEYS_LAST : P (KEYS.LAST p)) (r_KEYS_EVT : P (KEYS.EVT p)) (r_KEYS_CNT : P (KEYS.CNT p 6)) (r_CIPH_LAST : P (CIPH.LAST p)) (r_CIPH_EVT : P (CIPH.EVT p)) (r_CIPH_CNT : P (CIPH.CNT p 6)) (r_SEAL_LAST : P (SEAL.LAST p)) (r_SEAL_EVT : P (SEAL.EVT p)) (r_SGW_EVT : P (SGW.EVT p)) (r_SGW_CNT : P (SGW.CNT p 7)) (r_SGW_CNT_2 : P (SGW.CNT p 8)) (r_SGW_CNT_3 : P (SGW.CNT p 10)) (r_SGW_CNT_4 : P (SGW.CNT p 4)) (r_SGW_CNT_5 : P (SGW.CNT p 11)) : Writes (Act.compose p i late fault) P := by
  unfold Act.compose
  try dsimp only
  repeat' (with_reducible first | exact r_SEAL_CNT | exact r_DEV_CNT_LAST _ | exact r_DEV_EVT _ | exact r_SEAL_CNT_2 | exact r_KEYS_SLOT _ | exact r_KEYS_LAST | exact r_KEYS_EVT | exact r_KEYS_CNT | exact r_CIPH_LAST | exact r_CIPH_EVT | exact r_CIPH_CNT | exact r_SEAL_LAST | exact r_SEAL_EVT | exact r_SGW_EVT | exact r_SGW_CNT | exact r_SGW_CNT_2 | exact r_SGW_CNT_3 | exact r_SGW_CNT_4 | exact r_SGW_CNT_5 | apply writes_Act_modPdu | apply writes_Act_offerMon | apply writes_Act_sealPdu | apply writes_Act_sgwEvent | apply writes_Act_sgwCount | apply writes_Act_pduOut | apply Writes.all_cons | apply Writes.all_nil | apply Writes.seq | apply Writes.get | apply Writes.when | apply Writes.opt | apply Writes.skip | apply Writes.ite | intro _ | split | dsimp only)
  all_goals first | exact r_SEAL_CNT | exact r_DEV_CNT_LAST _ | exact r_DEV_EVT _ | exact r_SEAL_CNT_2 | exact r_KEYS_SLOT _ | exact r_KEYS_LAST | exact r_KEYS_EVT | exact r_KEYS_CNT | exact r_CIPH_LAST | exact r_CIPH_EVT | exact r_CIPH_CNT | exact r_SEAL_LAST | exact r_SEAL_EVT | exact r_SGW_EVT | exact r_SGW_CNT | exact r_SGW_CNT_2 | exact r_SGW_CNT_3 | exact r_SGW_CNT_4 | exact r_SGW_CNT_5

theorem writes_pduCadence {p i : Nat} {fault : Bool} {P : Nat → Prop} (r_SEAL_CNT : P (SEAL.CNT p 0)) (r_DEV_CNT_LAST : ∀ x0, P (DEV.CNT_LAST x0)) (r_DEV_EVT : ∀ x0, P (DEV.EVT x0)) (r_SEAL_CNT_2 : P (SEAL.CNT p 6)) (r_KEYS_SLOT : ∀ x0, P (KEYS.SLOT p x0)) (r_KEYS_LAST : P (KEYS.LAST p)) (r_KEYS_EVT : P (KEYS.EVT p)) (r_KEYS_CNT : P (KEYS.CNT p 6)) (r_CIPH_LAST : P (CIPH.LAST p)) (r_CIPH_EVT : P (CIPH.EVT p)) (r_CIPH_CNT : P (CIPH.CNT p 6)) (r_SEAL_LAST : P (SEAL.LAST p)) (r_SEAL_EVT : P (SEAL.EVT p)) (r_SGW_EVT : P (SGW.EVT p)) (r_SGW_CNT : P (SGW.CNT p 7)) (r_SGW_CNT_2 : P (SGW.CNT p 8)) (r_SGW_CNT_3 : P (SGW.CNT p 10)) (r_SGW_CNT_4 : P (SGW.CNT p 4)) (r_SGW_CNT_5 : P (SGW.CNT p 11)) : Writes (pduCadence p i fault) P := by
  unfold pduCadence
  try dsimp only
  repeat' (with_reducible first | exact r_SEAL_CNT | exact r_DEV_CNT_LAST _ | exact r_DEV_EVT _ | exact r_SEAL_CNT_2 | exact r_KEYS_SLOT _ | exact r_KEYS_LAST | exact r_KEYS_EVT | exact r_KEYS_CNT | exact r_CIPH_LAST | exact r_CIPH_EVT | exact r_CIPH_CNT | exact r_SEAL_LAST | exact r_SEAL_EVT | exact r_SGW_EVT | exact r_SGW_CNT | exact r_SGW_CNT_2 | exact r_SGW_CNT_3 | exact r_SGW_CNT_4 | exact r_SGW_CNT_5 | apply writes_Act_modPdu | apply writes_Act_offerMon | apply writes_Act_compose | apply Writes.all_cons | apply Writes.all_nil | apply Writes.get | apply Writes.when | apply Writes.opt | intro _ | dsimp only)
  all_goals first | exact r_SEAL_CNT | exact r_DEV_CNT_LAST _ | exact r_DEV_EVT _ | exact r_SEAL_CNT_2 | exact r_KEYS_SLOT _ | exact r_KEYS_LAST | exact r_KEYS_EVT | exact r_KEYS_CNT | exact r_CIPH_LAST | exact r_CIPH_EVT | exact r_CIPH_CNT | exact r_SEAL_LAST | exact r_SEAL_EVT | exact r_SGW_EVT | exact r_SGW_CNT | exact r_SGW_CNT_2 | exact r_SGW_CNT_3 | exact r_SGW_CNT_4 | exact r_SGW_CNT_5

theorem writes_pduChangeCompose {p i : Nat} {fault : Bool} {P : Nat → Prop} (r_SEAL_CNT : P (SEAL.CNT p 0)) (r_DEV_CNT_LAST : ∀ x0, P (DEV.CNT_LAST x0)) (r_DEV_EVT : ∀ x0, P (DEV.EVT x0)) (r_SEAL_CNT_2 : P (SEAL.CNT p 6)) (r_KEYS_SLOT : ∀ x0, P (KEYS.SLOT p x0)) (r_KEYS_LAST : P (KEYS.LAST p)) (r_KEYS_EVT : P (KEYS.EVT p)) (r_KEYS_CNT : P (KEYS.CNT p 6)) (r_CIPH_LAST : P (CIPH.LAST p)) (r_CIPH_EVT : P (CIPH.EVT p)) (r_CIPH_CNT : P (CIPH.CNT p 6)) (r_SEAL_LAST : P (SEAL.LAST p)) (r_SEAL_EVT : P (SEAL.EVT p)) (r_SGW_EVT : P (SGW.EVT p)) (r_SGW_CNT : P (SGW.CNT p 7)) (r_SGW_CNT_2 : P (SGW.CNT p 8)) (r_SGW_CNT_3 : P (SGW.CNT p 10)) (r_SGW_CNT_4 : P (SGW.CNT p 4)) (r_SGW_CNT_5 : P (SGW.CNT p 11)) : Writes (pduChangeCompose p i fault) P := by
  unfold pduChangeCompose
  try dsimp only
  repeat' (with_reducible first | exact r_SEAL_CNT | exact r_DEV_CNT_LAST _ | exact r_DEV_EVT _ | exact r_SEAL_CNT_2 | exact r_KEYS_SLOT _ | exact r_KEYS_LAST | exact r_KEYS_EVT | exact r_KEYS_CNT | exact r_CIPH_LAST | exact r_CIPH_EVT | exact r_CIPH_CNT | exact r_SEAL_LAST | exact r_SEAL_EVT | exact r_SGW_EVT | exact r_SGW_CNT | exact r_SGW_CNT_2 | exact r_SGW_CNT_3 | exact r_SGW_CNT_4 | exact r_SGW_CNT_5 | apply writes_Act_modPdu | apply writes_Act_compose | apply Writes.seq | apply Writes.get | apply Writes.when | apply Writes.opt | intro _ | dsimp only)
  all_goals first | exact r_SEAL_CNT | exact r_DEV_CNT_LAST _ | exact r_DEV_EVT _ | exact r_SEAL_CNT_2 | exact r_KEYS_SLOT _ | exact r_KEYS_LAST | exact r_KEYS_EVT | exact r_KEYS_CNT | exact r_CIPH_LAST | exact r_CIPH_EVT | exact r_CIPH_CNT | exact r_SEAL_LAST | exact r_SEAL_EVT | exact r_SGW_EVT | exact r_SGW_CNT | exact r_SGW_CNT_2 | exact r_SGW_CNT_3 | exact r_SGW_CNT_4 | exact r_SGW_CNT_5

theorem writes_Act_cadencesFrom {p : Nat} {P : Nat → Prop} : Writes (Act.cadencesFrom p) P := by
  unfold Act.cadencesFrom
  try dsimp only
  repeat' (with_reducible first | apply writes_Act_setCad | apply Writes.get | intro _ | dsimp only)

theorem writes_Act_cadencesSettle {p : Nat} {P : Nat → Prop} : Writes (Act.cadencesSettle p) P := by
  unfold Act.cadencesSettle
  try dsimp only
  repeat' (with_reducible first | apply writes_Act_setPdu | apply writes_Act_setCad | apply Writes.seq | apply Writes.get | apply Writes.when | apply Writes.each | intro _ | dsimp only)

/-! ## Lin -/

theorem writes_Act_linCount {p c i : Nat} {P : Nat → Prop} (r_LIN_CNT : P (LIN.CNT p c i)) (r_DEV_CNT_LAST : ∀ x0, P (DEV.CNT_LAST x0)) (r_DEV_EVT : ∀ x0, P (DEV.EVT x0)) : Writes (Act.linCount p c i) P := by
  unfold Act.linCount
  try dsimp only
  repeat' (with_reducible first | exact r_LIN_CNT | exact r_DEV_CNT_LAST _ | exact r_DEV_EVT _ | apply writes_Act_count | intro _ | dsimp only)
  all_goals first | exact r_LIN_CNT | exact r_DEV_CNT_LAST _ | exact r_DEV_EVT _

theorem writes_Act_linError {p c id kind : Nat} {P : Nat → Prop} (r_LIN_LAST : P (LIN.LAST p c)) (r_LIN_EVT : P (LIN.EVT p c)) (r_LIN_CNT : P (LIN.CNT p c 7)) (r_DEV_CNT_LAST : ∀ x0, P (DEV.CNT_LAST x0)) (r_DEV_EVT : ∀ x0, P (DEV.EVT x0)) (r_LIN_CNT_2 : P (LIN.CNT p c 3)) (r_LIN_CNT_3 : P (LIN.CNT p c 4)) (r_LIN_CNT_4 : P (LIN.CNT p c 6)) (r_LIN_CNT_5 : P (LIN.CNT p c 5)) (r_LIN_CNT_6 : P (LIN.CNT p c 8)) : Writes (Act.linError p c id kind) P := by
  unfold Act.linError
  try dsimp only
  repeat' (with_reducible first | exact r_LIN_LAST | exact r_LIN_EVT | exact r_LIN_CNT | exact r_DEV_CNT_LAST _ | exact r_DEV_EVT _ | exact r_LIN_CNT_2 | exact r_LIN_CNT_3 | exact r_LIN_CNT_4 | exact r_LIN_CNT_5 | exact r_LIN_CNT_6 | apply writes_Act_event | apply writes_Act_linCount | apply Writes.setReg | apply Writes.all_cons | apply Writes.all_nil | apply Writes.ite | intro _ | split | dsimp only)
  all_goals first | exact r_LIN_LAST | exact r_LIN_EVT | exact r_LIN_CNT | exact r_DEV_CNT_LAST _ | exact r_DEV_EVT _ | exact r_LIN_CNT_2 | exact r_LIN_CNT_3 | exact r_LIN_CNT_4 | exact r_LIN_CNT_5 | exact r_LIN_CNT_6

theorem writes_Act_linOut {p c id : Nat} {enh : Bool} {data : List Byte} {P : Nat → Prop} : Writes (Act.linOut p c id enh data) P := by
  unfold Act.linOut
  try dsimp only
  repeat' (with_reducible first | apply writes_Act_emit | apply Writes.get | apply Writes.ite | intro _ | split | dsimp only)

theorem writes_Act_linHeader {p c id late : Nat} {good : Bool} {P : Nat → Prop} (r_LIN_CNT : ∀ x0, P (LIN.CNT p c x0)) (r_DEV_CNT_LAST : ∀ x0, P (DEV.CNT_LAST x0)) (r_DEV_EVT : ∀ x0, P (DEV.EVT x0)) (r_LIN_LAST : P (LIN.LAST p c)) (r_LIN_EVT : P (LIN.EVT p c)) : Writes (Act.linHeader p c id late good) P := by
  unfold Act.linHeader
  try dsimp only
  repeat' (with_reducible first | exact r_LIN_CNT _ | exact r_DEV_CNT_LAST _ | exact r_DEV_EVT _ | exact r_LIN_LAST | exact r_LIN_EVT | apply writes_Act_modLin | apply writes_Act_offerMon | apply writes_Act_linCount | apply writes_Act_linError | apply Writes.seq | apply Writes.ite | intro _ | split | dsimp only)
  all_goals first | exact r_LIN_CNT _ | exact r_DEV_CNT_LAST _ | exact r_DEV_EVT _ | exact r_LIN_LAST | exact r_LIN_EVT

theorem writes_Act_linSend {p c id : Nat} {enh : Bool} {data : List Byte} {good : Bool} {P : Nat → Prop} (r_LIN_CNT : ∀ x0, P (LIN.CNT p c x0)) (r_DEV_CNT_LAST : ∀ x0, P (DEV.CNT_LAST x0)) (r_DEV_EVT : ∀ x0, P (DEV.EVT x0)) (r_LIN_LAST : P (LIN.LAST p c)) (r_LIN_EVT : P (LIN.EVT p c)) : Writes (Act.linSend p c id enh data good) P := by
  unfold Act.linSend
  try dsimp only
  repeat' (with_reducible first | exact r_LIN_CNT _ | exact r_DEV_CNT_LAST _ | exact r_DEV_EVT _ | exact r_LIN_LAST | exact r_LIN_EVT | apply writes_Act_linCount | apply writes_Act_linError | apply writes_Act_linOut | apply Writes.seq | apply Writes.ite | intro _ | split | dsimp only)
  all_goals first | exact r_LIN_CNT _ | exact r_DEV_CNT_LAST _ | exact r_DEV_EVT _ | exact r_LIN_LAST | exact r_LIN_EVT

theorem writes_Act_linSlotEntry {p c : Nat} {w : Word} {rb late : Nat} {P : Nat → Prop} (r_LIN_CNT : ∀ x0, P (LIN.CNT p c x0)) (r_DEV_CNT_LAST : ∀ x0, P (DEV.CNT_LAST x0)) (r_DEV_EVT : ∀ x0, P (DEV.EVT x0)) (r_LIN_LAST : P (LIN.LAST p c)) (r_LIN_EVT : P (LIN.EVT p c)) : Writes (Act.linSlotEntry p c w rb late) P := by
  unfold Act.linSlotEntry
  try dsimp only
  repeat' (with_reducible first | exact r_LIN_CNT _ | exact r_DEV_CNT_LAST _ | exact r_DEV_EVT _ | exact r_LIN_LAST | exact r_LIN_EVT | apply writes_Act_modLin | apply writes_Act_setPub | apply writes_Act_linOut | apply writes_Act_linHeader | apply writes_Act_linSend | apply Writes.seq | apply Writes.get | apply Writes.when | apply Writes.skip | apply Writes.ite | intro _ | split | dsimp only)
  all_goals first | exact r_LIN_CNT _ | exact r_DEV_CNT_LAST _ | exact r_DEV_EVT _ | exact r_LIN_LAST | exact r_LIN_EVT

theorem writes_linSlot {p c readBack late : Nat} {overrun : Bool} {P : Nat → Prop} (r_LIN_EVT : P (LIN.EVT p c)) (r_DEV_CNT_LAST : ∀ x0, P (DEV.CNT_LAST x0)) (r_DEV_EVT : ∀ x0, P (DEV.EVT x0)) (r_LIN_CNT : ∀ x0, P (LIN.CNT p c x0)) (r_LIN_LAST : P (LIN.LAST p c)) : Writes (linSlot p c readBack late overrun) P := by
  unfold linSlot
  try dsimp only
  repeat' (with_reducible first | exact r_LIN_EVT | exact r_DEV_CNT_LAST _ | exact r_DEV_EVT _ | exact r_LIN_CNT _ | exact r_LIN_LAST | apply writes_Act_modLin | apply writes_Act_event | apply writes_Act_linCount | apply writes_Act_linHeader | apply writes_Act_linSend | apply writes_Act_linSlotEntry | apply Writes.all_cons | apply Writes.all_nil | apply Writes.seq | apply Writes.get | apply Writes.when | apply Writes.ite | intro _ | split | dsimp only)
  all_goals first | exact r_LIN_EVT | exact r_DEV_CNT_LAST _ | exact r_DEV_EVT _ | exact r_LIN_CNT _ | exact r_LIN_LAST

theorem writes_linResponse {p c fault : Nat} {raw : List Byte} {ago : Nat} {P : Nat → Prop} (r_LIN_EVT : P (LIN.EVT p c)) (r_LIN_CNT : ∀ x0, P (LIN.CNT p c x0)) (r_DEV_CNT_LAST : ∀ x0, P (DEV.CNT_LAST x0)) (r_DEV_EVT : ∀ x0, P (DEV.EVT x0)) (r_LIN_LAST : P (LIN.LAST p c)) : Writes (linResponse p c fault raw ago) P := by
  unfold linResponse
  try dsimp only
  repeat' (with_reducible first | exact r_LIN_EVT | exact r_LIN_CNT _ | exact r_DEV_CNT_LAST _ | exact r_DEV_EVT _ | exact r_LIN_LAST | apply writes_Act_modLin | apply writes_Act_event | apply writes_Act_offerMon | apply writes_Act_busOffer | apply writes_Act_linCount | apply writes_Act_linError | apply Writes.all_cons | apply Writes.all_nil | apply Writes.seq | apply Writes.get | apply Writes.when | apply Writes.opt | apply Writes.skip | apply Writes.ite | intro _ | split | dsimp only)
  all_goals first | exact r_LIN_EVT | exact r_LIN_CNT _ | exact r_DEV_CNT_LAST _ | exact r_DEV_EVT _ | exact r_LIN_LAST

theorem writes_linBusFault {p c : Nat} {stuck : Bool} {P : Nat → Prop} (r_LIN_EVT : P (LIN.EVT p c)) (r_LIN_CNT : P (LIN.CNT p c 12)) (r_DEV_CNT_LAST : ∀ x0, P (DEV.CNT_LAST x0)) (r_DEV_EVT : ∀ x0, P (DEV.EVT x0)) : Writes (linBusFault p c stuck) P := by
  unfold linBusFault
  try dsimp only
  repeat' (with_reducible first | exact r_LIN_EVT | exact r_LIN_CNT | exact r_DEV_CNT_LAST _ | exact r_DEV_EVT _ | apply writes_Act_modLin | apply writes_Act_event | apply writes_Act_linCount | apply Writes.all_cons | apply Writes.all_nil | apply Writes.get | apply Writes.when | intro _ | dsimp only)
  all_goals first | exact r_LIN_EVT | exact r_LIN_CNT | exact r_DEV_CNT_LAST _ | exact r_DEV_EVT _

theorem writes_Act_linBuffer {p c id : Nat} {data : List Byte} {P : Nat → Prop} : Writes (Act.linBuffer p c id data) P := by
  unfold Act.linBuffer
  try dsimp only
  repeat' (with_reducible first | apply writes_Act_setPub | intro _ | dsimp only)

theorem writes_linPublish {p c : Nat} {P : Nat → Prop} (r_QMGR_EVT : P (QMGR.EVT p)) (r_ra : P (ra p 129 515)) (r_DEV_CNT_LAST : ∀ x0, P (DEV.CNT_LAST x0)) (r_DEV_EVT : ∀ x0, P (DEV.EVT x0)) (r_FAB_EVT : P (FAB.EVT p)) (r_FAB_CNT : P (FAB.CNT p 3)) (r_FAB_CNT_2 : P (FAB.CNT p 4)) (r_QMGR_DROP_LAST : P (QMGR.DROP_LAST p)) (r_QMGR_CNT : P (QMGR.CNT p 2)) (r_QMGR_LIMIT_DROPS : ∀ x0, P (QMGR.LIMIT_DROPS p x0)) (r_QMGR_CNT_2 : P (QMGR.CNT p 3)) (r_QMGR_CNT_3 : P (QMGR.CNT p 4)) (r_LIN_CNT : P (LIN.CNT p c 10)) : Writes (linPublish p c) P := by
  unfold linPublish
  try dsimp only
  repeat' (with_reducible first | exact r_QMGR_EVT | exact r_ra | exact r_DEV_CNT_LAST _ | exact r_DEV_EVT _ | exact r_FAB_EVT | exact r_FAB_CNT | exact r_FAB_CNT_2 | exact r_QMGR_DROP_LAST | exact r_QMGR_CNT | exact r_QMGR_LIMIT_DROPS _ | exact r_QMGR_CNT_2 | exact r_QMGR_CNT_3 | exact r_LIN_CNT | apply writes_Act_take | apply writes_Act_linCount | apply writes_Act_linBuffer | apply Writes.get | apply Writes.ite | intro _ | split | dsimp only)
  all_goals first | exact r_QMGR_EVT | exact r_ra | exact r_DEV_CNT_LAST _ | exact r_DEV_EVT _ | exact r_FAB_EVT | exact r_FAB_CNT | exact r_FAB_CNT_2 | exact r_QMGR_DROP_LAST | exact r_QMGR_CNT | exact r_QMGR_LIMIT_DROPS _ | exact r_QMGR_CNT_2 | exact r_QMGR_CNT_3 | exact r_LIN_CNT

theorem writes_linSwitch {p c t : Nat} {P : Nat → Prop} : Writes (linSwitch p c t) P := by
  unfold linSwitch
  try dsimp only
  repeat' (with_reducible first | apply writes_Act_modLin | intro _ | dsimp only)

theorem writes_linStop {p c : Nat} {P : Nat → Prop} : Writes (linStop p c) P := by
  unfold linStop
  try dsimp only
  repeat' (with_reducible first | apply writes_Act_modLin | intro _ | dsimp only)

theorem writes_linGotosleep {p c : Nat} {P : Nat → Prop} : Writes (linGotosleep p c) P := by
  unfold linGotosleep
  try dsimp only
  repeat' (with_reducible first | apply writes_Act_modLin | intro _ | dsimp only)

theorem writes_linCmd {p c : Nat} {v : Word} {k : Code → Act} {P : Nat → Prop} (r_LIN_CMD : P (LIN.CMD p c)) (hk_k : ∀ x0, Writes (k x0) P) : Writes (linCmd p c v k) P := by
  unfold linCmd
  try dsimp only
  repeat' (with_reducible first | exact r_LIN_CMD | exact hk_k _ | apply writes_linSwitch | apply writes_linStop | apply writes_linGotosleep | apply Writes.setReg | apply Writes.all_cons | apply Writes.all_nil | apply Writes.get | apply Writes.when | apply Writes.ite | intro _ | split | dsimp only)
  all_goals first | exact r_LIN_CMD

theorem writes_schedCmd {ag : Agent} {p c : Nat} {v : Word} {k : Code → Act} {P : Nat → Prop} (r_LIN_SCHED_CMD : P (LIN.SCHED_CMD p c)) (r_LIN_SCHED_W : P (LIN.SCHED_W p c)) (r_BLK_ERR : P (BLK_ERR (aDie (LIN.SCHED_CMD p c)) (aBlk (LIN.SCHED_CMD p c)))) (hk_k : ∀ x0, Writes (k x0) P) : Writes (schedCmd ag p c v k) P := by
  unfold schedCmd
  try dsimp only
  repeat' (with_reducible first | exact r_LIN_SCHED_CMD | exact r_LIN_SCHED_W | exact r_BLK_ERR | exact hk_k _ | apply writes_Act_setFld | apply writes_Act_badValue | apply writes_Act_store | apply Writes.setReg | apply Writes.setTbl | apply Writes.all_cons | apply Writes.all_nil | apply Writes.seq | apply Writes.get | apply Writes.ite | intro _ | split | dsimp only)
  all_goals first | exact r_LIN_SCHED_CMD | exact r_LIN_SCHED_W | exact r_BLK_ERR

theorem writes_pubCmd {ag : Agent} {p c : Nat} {v : Word} {k : Code → Act} {P : Nat → Prop} (r_LIN_PUB_CMD : P (LIN.PUB_CMD p c)) (r_LIN_PUB_W0 : P (LIN.PUB_W0 p c)) (r_LIN_PUB_W1 : P (LIN.PUB_W1 p c)) (r_BLK_ERR : P (BLK_ERR (aDie (LIN.PUB_CMD p c)) (aBlk (LIN.PUB_CMD p c)))) (r_LIN_CNT : P (LIN.CNT p c 10)) (r_DEV_CNT_LAST : ∀ x0, P (DEV.CNT_LAST x0)) (r_DEV_EVT : ∀ x0, P (DEV.EVT x0)) (hk_k : ∀ x0, Writes (k x0) P) : Writes (pubCmd ag p c v k) P := by
  unfold pubCmd
  try dsimp only
  repeat' (with_reducible first | exact r_LIN_PUB_CMD | exact r_LIN_PUB_W0 | exact r_LIN_PUB_W1 | exact r_BLK_ERR | exact r_LIN_CNT | exact r_DEV_CNT_LAST _ | exact r_DEV_EVT _ | exact hk_k _ | apply writes_Act_badValue | apply writes_Act_store | apply writes_Act_linCount | apply writes_Act_linBuffer | apply Writes.setReg | apply Writes.all_cons | apply Writes.all_nil | apply Writes.seq | apply Writes.get | apply Writes.ite | intro _ | split | dsimp only)
  all_goals first | exact r_LIN_PUB_CMD | exact r_LIN_PUB_W0 | exact r_LIN_PUB_W1 | exact r_BLK_ERR | exact r_LIN_CNT | exact r_DEV_CNT_LAST _ | exact r_DEV_EVT _

theorem writes_Act_linEnable {p c : Nat} {P : Nat → Prop} : Writes (Act.linEnable p c) P := by
  unfold Act.linEnable
  try dsimp only
  repeat' (with_reducible first | apply writes_Act_modLin | apply Writes.get | apply Writes.ite | intro _ | split | dsimp only)

theorem writes_Act_linOff {p c : Nat} {P : Nat → Prop} : Writes (Act.linOff p c) P := by
  unfold Act.linOff
  try dsimp only
  repeat' (with_reducible first | apply writes_Act_modLin | intro _ | dsimp only)

theorem writes_Act_linClockLost {p c : Nat} {P : Nat → Prop} (r_LIN_EVT : P (LIN.EVT p c)) (r_LIN_CNT : P (LIN.CNT p c 13)) (r_DEV_CNT_LAST : ∀ x0, P (DEV.CNT_LAST x0)) (r_DEV_EVT : ∀ x0, P (DEV.EVT x0)) : Writes (Act.linClockLost p c) P := by
  unfold Act.linClockLost
  try dsimp only
  repeat' (with_reducible first | exact r_LIN_EVT | exact r_LIN_CNT | exact r_DEV_CNT_LAST _ | exact r_DEV_EVT _ | apply writes_Act_setBuf | apply writes_Act_modLin | apply writes_Act_event | apply writes_Act_countBy | apply Writes.all_cons | apply Writes.all_nil | apply Writes.get | apply Writes.ite | intro _ | split | dsimp only)
  all_goals first | exact r_LIN_EVT | exact r_LIN_CNT | exact r_DEV_CNT_LAST _ | exact r_DEV_EVT _

/-! ## Egress -/

theorem writes_Act_ethDiscards {p f : Nat} {z0 : Nat} {P : Nat → Prop} (r_PSFP_LAST : P (PSFP.LAST p)) (r_PSFP_EVT : P (PSFP.EVT p)) (r_PSFP_CNT : P (PSFP.CNT p 1)) (r_DEV_CNT_LAST : ∀ x0, P (DEV.CNT_LAST x0)) (r_DEV_EVT : ∀ x0, P (DEV.EVT x0)) (r_QMGR_EVT : P (QMGR.EVT p)) (r_ETH_CNT : P (ETH.CNT p f 35)) : Writes (Act.ethDiscards p f z0) P := by
  induction z0 with
  | zero =>
    unfold Act.ethDiscards
    exact Writes.skip
  | succ z0 ih =>
    unfold Act.ethDiscards
    try dsimp only
    repeat' (with_reducible first | exact ih | exact r_PSFP_LAST | exact r_PSFP_EVT | exact r_PSFP_CNT | exact r_DEV_CNT_LAST _ | exact r_DEV_EVT _ | exact r_QMGR_EVT | exact r_ETH_CNT | apply writes_Act_modQueue | apply writes_Act_setFlds | apply writes_Act_event | apply writes_Act_count | apply writes_Act_checkShared | apply writes_Act_ethCount | apply Writes.all_cons | apply Writes.all_nil | apply Writes.get | apply Writes.opt | apply Writes.skip | apply Writes.ite | intro _ | split | dsimp only)
  all_goals first | exact r_PSFP_LAST | exact r_PSFP_EVT | exact r_PSFP_CNT | exact r_DEV_CNT_LAST _ | exact r_DEV_EVT _ | exact r_QMGR_EVT | exact r_ETH_CNT

theorem writes_Act_ethSelect {p f : Nat} {P : Nat → Prop} (r_QMGR_EVT : P (QMGR.EVT p)) (r_ra : P (ra p 129 515)) (r_DEV_CNT_LAST : ∀ x0, P (DEV.CNT_LAST x0)) (r_DEV_EVT : ∀ x0, P (DEV.EVT x0)) (r_FAB_EVT : P (FAB.EVT p)) (r_FAB_CNT : P (FAB.CNT p 3)) (r_FAB_CNT_2 : P (FAB.CNT p 4)) (r_QMGR_DROP_LAST : P (QMGR.DROP_LAST p)) (r_QMGR_CNT : P (QMGR.CNT p 2)) (r_QMGR_LIMIT_DROPS : ∀ x0, P (QMGR.LIMIT_DROPS p x0)) (r_QMGR_CNT_2 : P (QMGR.CNT p 3)) (r_QMGR_CNT_3 : P (QMGR.CNT p 4)) (r_PSFP_LAST : P (PSFP.LAST p)) (r_PSFP_EVT : P (PSFP.EVT p)) (r_PSFP_CNT : P (PSFP.CNT p 1)) (r_ETH_CNT : P (ETH.CNT p f 35)) : Writes (Act.ethSelect p f) P := by
  unfold Act.ethSelect
  try dsimp only
  repeat' (with_reducible first | exact r_QMGR_EVT | exact r_ra | exact r_DEV_CNT_LAST _ | exact r_DEV_EVT _ | exact r_FAB_EVT | exact r_FAB_CNT | exact r_FAB_CNT_2 | exact r_QMGR_DROP_LAST | exact r_QMGR_CNT | exact r_QMGR_LIMIT_DROPS _ | exact r_QMGR_CNT_2 | exact r_QMGR_CNT_3 | exact r_PSFP_LAST | exact r_PSFP_EVT | exact r_PSFP_CNT | exact r_ETH_CNT | apply writes_Act_modEth | apply writes_Act_shape | apply writes_Act_schedule | apply writes_Act_depart | apply writes_Act_ethDiscards | apply Writes.all_cons | apply Writes.all_nil | apply Writes.get | apply Writes.skip | apply Writes.ite | intro _ | split | dsimp only)
  all_goals first | exact r_QMGR_EVT | exact r_ra | exact r_DEV_CNT_LAST _ | exact r_DEV_EVT _ | exact r_FAB_EVT | exact r_FAB_CNT | exact r_FAB_CNT_2 | exact r_QMGR_DROP_LAST | exact r_QMGR_CNT | exact r_QMGR_LIMIT_DROPS _ | exact r_QMGR_CNT_2 | exact r_QMGR_CNT_3 | exact r_PSFP_LAST | exact r_PSFP_EVT | exact r_PSFP_CNT | exact r_ETH_CNT

theorem writes_Act_d2dSelect {p j : Nat} {P : Nat → Prop} (r_QMGR_EVT : P (QMGR.EVT p)) (r_ra : P (ra p 129 515)) (r_DEV_CNT_LAST : ∀ x0, P (DEV.CNT_LAST x0)) (r_DEV_EVT : ∀ x0, P (DEV.EVT x0)) (r_FAB_EVT : P (FAB.EVT p)) (r_FAB_CNT : P (FAB.CNT p 3)) (r_FAB_CNT_2 : P (FAB.CNT p 4)) (r_QMGR_DROP_LAST : P (QMGR.DROP_LAST p)) (r_QMGR_CNT : P (QMGR.CNT p 2)) (r_QMGR_LIMIT_DROPS : ∀ x0, P (QMGR.LIMIT_DROPS p x0)) (r_QMGR_CNT_2 : P (QMGR.CNT p 3)) (r_QMGR_CNT_3 : P (QMGR.CNT p 4)) : Writes (Act.d2dSelect p j) P := by
  unfold Act.d2dSelect
  try dsimp only
  repeat' (with_reducible first | exact r_QMGR_EVT | exact r_ra | exact r_DEV_CNT_LAST _ | exact r_DEV_EVT _ | exact r_FAB_EVT | exact r_FAB_CNT | exact r_FAB_CNT_2 | exact r_QMGR_DROP_LAST | exact r_QMGR_CNT | exact r_QMGR_LIMIT_DROPS _ | exact r_QMGR_CNT_2 | exact r_QMGR_CNT_3 | apply writes_Act_modLink | apply writes_Act_creditWait | apply writes_Act_schedule | apply writes_Act_depart | apply Writes.seq | apply Writes.get | apply Writes.each | apply Writes.skip | apply Writes.ite | intro _ | split | dsimp only)
  all_goals first | exact r_QMGR_EVT | exact r_ra | exact r_DEV_CNT_LAST _ | exact r_DEV_EVT _ | exact r_FAB_EVT | exact r_FAB_CNT | exact r_FAB_CNT_2 | exact r_QMGR_DROP_LAST | exact r_QMGR_CNT | exact r_QMGR_LIMIT_DROPS _ | exact r_QMGR_CNT_2 | exact r_QMGR_CNT_3

theorem writes_egressSelect {p f : Nat} {P : Nat → Prop} (r_QMGR_EVT : P (QMGR.EVT p)) (r_CAN_CNT : P (CAN.CNT p (f - 32) 12)) (r_DEV_CNT_LAST : ∀ x0, P (DEV.CNT_LAST x0)) (r_DEV_EVT : ∀ x0, P (DEV.EVT x0)) (r_ra : P (ra p 129 515)) (r_FAB_EVT : P (FAB.EVT p)) (r_FAB_CNT : P (FAB.CNT p 3)) (r_FAB_CNT_2 : P (FAB.CNT p 4)) (r_QMGR_DROP_LAST : P (QMGR.DROP_LAST p)) (r_QMGR_CNT : P (QMGR.CNT p 2)) (r_QMGR_LIMIT_DROPS : ∀ x0, P (QMGR.LIMIT_DROPS p x0)) (r_QMGR_CNT_2 : P (QMGR.CNT p 3)) (r_QMGR_CNT_3 : P (QMGR.CNT p 4)) (r_PSFP_LAST : P (PSFP.LAST p)) (r_PSFP_EVT : P (PSFP.EVT p)) (r_PSFP_CNT : P (PSFP.CNT p 1)) (r_ETH_CNT : P (ETH.CNT p f 35)) : Writes (egressSelect p f) P := by
  unfold egressSelect
  try dsimp only
  repeat' (with_reducible first | exact r_QMGR_EVT | exact r_CAN_CNT | exact r_DEV_CNT_LAST _ | exact r_DEV_EVT _ | exact r_ra | exact r_FAB_EVT | exact r_FAB_CNT | exact r_FAB_CNT_2 | exact r_QMGR_DROP_LAST | exact r_QMGR_CNT | exact r_QMGR_LIMIT_DROPS _ | exact r_QMGR_CNT_2 | exact r_QMGR_CNT_3 | exact r_PSFP_LAST | exact r_PSFP_EVT | exact r_PSFP_CNT | exact r_ETH_CNT | apply writes_Act_canSelect | apply writes_Act_ethSelect | apply writes_Act_d2dSelect | apply Writes.skip | apply Writes.ite | intro _ | split | dsimp only)
  all_goals first | exact r_QMGR_EVT | exact r_CAN_CNT | exact r_DEV_CNT_LAST _ | exact r_DEV_EVT _ | exact r_ra | exact r_FAB_EVT | exact r_FAB_CNT | exact r_FAB_CNT_2 | exact r_QMGR_DROP_LAST | exact r_QMGR_CNT | exact r_QMGR_LIMIT_DROPS _ | exact r_QMGR_CNT_2 | exact r_QMGR_CNT_3 | exact r_PSFP_LAST | exact r_PSFP_EVT | exact r_PSFP_CNT | exact r_ETH_CNT

theorem writes_facetDownFlush {p f : Nat} {P : Nat → Prop} (r_QMGR_EVT : P (QMGR.EVT p)) (r_QMGR_FLUSH_CMD : P (QMGR.FLUSH_CMD p)) (r_QMGR_CNT : P (QMGR.CNT p 5)) (r_DEV_CNT_LAST : ∀ x0, P (DEV.CNT_LAST x0)) (r_DEV_EVT : ∀ x0, P (DEV.EVT x0)) : Writes (facetDownFlush p f) P := by
  unfold facetDownFlush
  try dsimp only
  repeat' (with_reducible first | exact r_QMGR_EVT | exact r_QMGR_FLUSH_CMD | exact r_QMGR_CNT | exact r_DEV_CNT_LAST _ | exact r_DEV_EVT _ | apply writes_Act_flushOut | apply writes_Act_flushEnd | apply Writes.seq | apply Writes.get | apply Writes.when | intro _ | dsimp only)
  all_goals first | exact r_QMGR_EVT | exact r_QMGR_FLUSH_CMD | exact r_QMGR_CNT | exact r_DEV_CNT_LAST _ | exact r_DEV_EVT _

/-! ## Ezsor -/

theorem writes_Act_ezTagOk {m : EzMsg} {k : Bool → Act} {P : Nat → Prop} (r_KEYS_SLOT : ∀ x0, P (KEYS.SLOT 0 x0)) (r_KEYS_LAST : P (KEYS.LAST 0)) (r_KEYS_EVT : P (KEYS.EVT 0)) (r_KEYS_CNT : P (KEYS.CNT 0 6)) (r_DEV_CNT_LAST : ∀ x0, P (DEV.CNT_LAST x0)) (r_DEV_EVT : ∀ x0, P (DEV.EVT x0)) (hk_k : ∀ x0, Writes (k x0) P) : Writes (Act.ezTagOk m k) P := by
  unfold Act.ezTagOk
  try dsimp only
  repeat' (with_reducible first | exact r_KEYS_SLOT _ | exact r_KEYS_LAST | exact r_KEYS_EVT | exact r_KEYS_CNT | exact r_DEV_CNT_LAST _ | exact r_DEV_EVT _ | exact hk_k _ | apply writes_Act_useKey | apply Writes.get | apply Writes.ite | intro _ | split | dsimp only)
  all_goals first | exact r_KEYS_SLOT _ | exact r_KEYS_LAST | exact r_KEYS_EVT | exact r_KEYS_CNT | exact r_DEV_CNT_LAST _ | exact r_DEV_EVT _

theorem writes_Act_plxCount {i : Nat} {P : Nat → Prop} (r_PLX_CNT : P (PLX.CNT 0 i)) (r_DEV_CNT_LAST : ∀ x0, P (DEV.CNT_LAST x0)) (r_DEV_EVT : ∀ x0, P (DEV.EVT x0)) : Writes (Act.plxCount i) P := by
  unfold Act.plxCount
  try dsimp only
  repeat' (with_reducible first | exact r_PLX_CNT | exact r_DEV_CNT_LAST _ | exact r_DEV_EVT _ | apply writes_Act_count | intro _ | dsimp only)
  all_goals first | exact r_PLX_CNT | exact r_DEV_CNT_LAST _ | exact r_DEV_EVT _

theorem writes_Act_ezAuthFail {m : EzMsg} {P : Nat → Prop} (r_PLX_LAST : P (PLX.LAST 0)) (r_PLX_EVT : P (PLX.EVT 0)) (r_PLX_CNT : P (PLX.CNT 0 3)) (r_DEV_CNT_LAST : ∀ x0, P (DEV.CNT_LAST x0)) (r_DEV_EVT : ∀ x0, P (DEV.EVT x0)) : Writes (Act.ezAuthFail m) P := by
  unfold Act.ezAuthFail
  try dsimp only
  repeat' (with_reducible first | exact r_PLX_LAST | exact r_PLX_EVT | exact r_PLX_CNT | exact r_DEV_CNT_LAST _ | exact r_DEV_EVT _ | apply writes_Act_plxEvent | apply writes_Act_plxCount | apply Writes.seq | intro _ | dsimp only)
  all_goals first | exact r_PLX_LAST | exact r_PLX_EVT | exact r_PLX_CNT | exact r_DEV_CNT_LAST _ | exact r_DEV_EVT _

theorem writes_Act_ezReplay {m : EzMsg} {P : Nat → Prop} (r_PLX_LAST : P (PLX.LAST 0)) (r_PLX_EVT : P (PLX.EVT 0)) (r_PLX_CNT : P (PLX.CNT 0 4)) (r_DEV_CNT_LAST : ∀ x0, P (DEV.CNT_LAST x0)) (r_DEV_EVT : ∀ x0, P (DEV.EVT x0)) : Writes (Act.ezReplay m) P := by
  unfold Act.ezReplay
  try dsimp only
  repeat' (with_reducible first | exact r_PLX_LAST | exact r_PLX_EVT | exact r_PLX_CNT | exact r_DEV_CNT_LAST _ | exact r_DEV_EVT _ | apply writes_Act_plxEvent | apply writes_Act_plxCount | apply Writes.seq | intro _ | dsimp only)
  all_goals first | exact r_PLX_LAST | exact r_PLX_EVT | exact r_PLX_CNT | exact r_DEV_CNT_LAST _ | exact r_DEV_EVT _

theorem writes_Act_ezFreshness {m : EzMsg} {k : Bool → Act} {P : Nat → Prop} (r_PLX_CNT : P (PLX.CNT 0 2)) (r_DEV_CNT_LAST : ∀ x0, P (DEV.CNT_LAST x0)) (r_DEV_EVT : ∀ x0, P (DEV.EVT x0)) (r_PLX_LAST : P (PLX.LAST 0)) (r_PLX_EVT : P (PLX.EVT 0)) (r_PLX_CNT_2 : P (PLX.CNT 0 4)) (hk_k : ∀ x0, Writes (k x0) P) : Writes (Act.ezFreshness m k) P := by
  unfold Act.ezFreshness
  try dsimp only
  repeat' (with_reducible first | exact r_PLX_CNT | exact r_DEV_CNT_LAST _ | exact r_DEV_EVT _ | exact r_PLX_LAST | exact r_PLX_EVT | exact r_PLX_CNT_2 | exact hk_k _ | apply writes_Act_modMem | apply writes_Act_plxCount | apply writes_Act_ezReplay | apply Writes.seq | apply Writes.get | apply Writes.ite | intro _ | split | dsimp only)
  all_goals first | exact r_PLX_CNT | exact r_DEV_CNT_LAST _ | exact r_DEV_EVT _ | exact r_PLX_LAST | exact r_PLX_EVT | exact r_PLX_CNT_2

theorem writes_Act_ezPurge  {z0 : Nat} {P : Nat → Prop} (r_PLX_CNT : P (PLX.CNT 0 10)) (r_DEV_CNT_LAST : ∀ x0, P (DEV.CNT_LAST x0)) (r_DEV_EVT : ∀ x0, P (DEV.EVT x0)) : Writes (Act.ezPurge z0) P := by
  induction z0 with
  | zero =>
    unfold Act.ezPurge
    exact Writes.skip
  | succ z0 ih =>
    unfold Act.ezPurge
    try dsimp only
    repeat' (with_reducible first | exact ih | exact r_PLX_CNT | exact r_DEV_CNT_LAST _ | exact r_DEV_EVT _ | apply writes_Act_plxCount | apply Writes.upd | apply Writes.all_cons | apply Writes.all_nil | apply Writes.get | apply Writes.skip | apply Writes.ite | intro _ | split | dsimp only)
  all_goals first | exact r_PLX_CNT | exact r_DEV_CNT_LAST _ | exact r_DEV_EVT _

theorem writes_Act_ezTake {p : EzMsg → Bool} {k : EzMsg → Act} {P : Nat → Prop} (r_PLX_CNT : P (PLX.CNT 0 10)) (r_DEV_CNT_LAST : ∀ x0, P (DEV.CNT_LAST x0)) (r_DEV_EVT : ∀ x0, P (DEV.EVT x0)) (hk_k : ∀ x0, Writes (k x0) P) : Writes (Act.ezTake p k) P := by
  unfold Act.ezTake
  try dsimp only
  repeat' (with_reducible first | exact r_PLX_CNT | exact r_DEV_CNT_LAST _ | exact r_DEV_EVT _ | exact hk_k _ | apply writes_Act_ezPurge | apply Writes.upd | apply Writes.seq | apply Writes.get | apply Writes.opt | intro _ | dsimp only)
  all_goals first | exact r_PLX_CNT | exact r_DEV_CNT_LAST _ | exact r_DEV_EVT _

theorem writes_Act_ezMember {ty : Nat} {p : EzMsg → Bool} {past : Bool} {own : EzMsg → Act} {dup : State → EzMsg → Bool} {k : EzMsg → Bool → Act} {P : Nat → Prop} (r_PLX_LAST : P (PLX.LAST 0)) (r_PLX_EVT : P (PLX.EVT 0)) (r_KEYS_SLOT : ∀ x0, P (KEYS.SLOT 0 x0)) (r_KEYS_LAST : P (KEYS.LAST 0)) (r_KEYS_EVT : P (KEYS.EVT 0)) (r_KEYS_CNT : P (KEYS.CNT 0 6)) (r_DEV_CNT_LAST : ∀ x0, P (DEV.CNT_LAST x0)) (r_DEV_EVT : ∀ x0, P (DEV.EVT x0)) (r_PLX_CNT : P (PLX.CNT 0 12)) (r_PLX_CNT_2 : P (PLX.CNT 0 5)) (r_PLX_CNT_3 : P (PLX.CNT 0 3)) (r_PLX_CNT_4 : P (PLX.CNT 0 4)) (r_PLX_CNT_5 : P (PLX.CNT 0 2)) (r_PLX_CNT_6 : P (PLX.CNT 0 10)) (hk_own : ∀ x0, Writes (own x0) P) (hk_k : ∀ x0 x1, Writes (k x0 x1) P) : Writes (Act.ezMember ty p past own dup k) P := by
  unfold Act.ezMember
  try dsimp only
  repeat' (with_reducible first | exact r_PLX_LAST | exact r_PLX_EVT | exact r_KEYS_SLOT _ | exact r_KEYS_LAST | exact r_KEYS_EVT | exact r_KEYS_CNT | exact r_DEV_CNT_LAST _ | exact r_DEV_EVT _ | exact r_PLX_CNT | exact r_PLX_CNT_2 | exact r_PLX_CNT_3 | exact r_PLX_CNT_4 | exact r_PLX_CNT_5 | exact r_PLX_CNT_6 | exact hk_own _ | exact hk_k _ _ | apply writes_Act_plxEvent | apply writes_Act_ezTagOk | apply writes_Act_plxCount | apply writes_Act_ezAuthFail | apply writes_Act_ezReplay | apply writes_Act_ezFreshness | apply writes_Act_ezTake | apply Writes.get | apply Writes.skip | apply Writes.ite | intro _ | split | dsimp only)
  all_goals first | exact r_PLX_LAST | exact r_PLX_EVT | exact r_KEYS_SLOT _ | exact r_KEYS_LAST | exact r_KEYS_EVT | exact r_KEYS_CNT | exact r_DEV_CNT_LAST _ | exact r_DEV_EVT _ | exact r_PLX_CNT | exact r_PLX_CNT_2 | exact r_PLX_CNT_3 | exact r_PLX_CNT_4 | exact r_PLX_CNT_5 | exact r_PLX_CNT_6

theorem writes_Act_ezTagged {b : List Byte} {k : List Byte → Act} {P : Nat → Prop} (r_KEYS_SLOT : ∀ x0, P (KEYS.SLOT 0 x0)) (r_KEYS_LAST : P (KEYS.LAST 0)) (r_KEYS_EVT : P (KEYS.EVT 0)) (r_KEYS_CNT : P (KEYS.CNT 0 6)) (r_DEV_CNT_LAST : ∀ x0, P (DEV.CNT_LAST x0)) (r_DEV_EVT : ∀ x0, P (DEV.EVT x0)) (hk_k : ∀ x0, Writes (k x0) P) : Writes (Act.ezTagged b k) P := by
  unfold Act.ezTagged
  try dsimp only
  repeat' (with_reducible first | exact r_KEYS_SLOT _ | exact r_KEYS_LAST | exact r_KEYS_EVT | exact r_KEYS_CNT | exact r_DEV_CNT_LAST _ | exact r_DEV_EVT _ | exact hk_k _ | apply writes_Act_useKey | apply Writes.get | apply Writes.skip | apply Writes.ite | intro _ | split | dsimp only)
  all_goals first | exact r_KEYS_SLOT _ | exact r_KEYS_LAST | exact r_KEYS_EVT | exact r_KEYS_CNT | exact r_DEV_CNT_LAST _ | exact r_DEV_EVT _

theorem writes_Act_ezMake {ty hops dst : Nat} {body : List Byte} {k : List Byte → Act} {P : Nat → Prop} (r_KEYS_SLOT : ∀ x0, P (KEYS.SLOT 0 x0)) (r_KEYS_LAST : P (KEYS.LAST 0)) (r_KEYS_EVT : P (KEYS.EVT 0)) (r_KEYS_CNT : P (KEYS.CNT 0 6)) (r_DEV_CNT_LAST : ∀ x0, P (DEV.CNT_LAST x0)) (r_DEV_EVT : ∀ x0, P (DEV.EVT x0)) (hk_k : ∀ x0, Writes (k x0) P) : Writes (Act.ezMake ty hops dst body k) P := by
  unfold Act.ezMake
  try dsimp only
  repeat' (with_reducible first | exact r_KEYS_SLOT _ | exact r_KEYS_LAST | exact r_KEYS_EVT | exact r_KEYS_CNT | exact r_DEV_CNT_LAST _ | exact r_DEV_EVT _ | exact hk_k _ | apply writes_Act_ezTagged | apply Writes.upd | apply Writes.seq | apply Writes.get | apply Writes.when | apply Writes.skip | apply Writes.ite | intro _ | split | dsimp only)
  all_goals first | exact r_KEYS_SLOT _ | exact r_KEYS_LAST | exact r_KEYS_EVT | exact r_KEYS_CNT | exact r_DEV_CNT_LAST _ | exact r_DEV_EVT _

theorem writes_Act_ezPost {gf da : Nat} {b : List Byte} {P : Nat → Prop} : Writes (Act.ezPost gf da b) P := by
  unfold Act.ezPost
  try dsimp only
  repeat' (with_reducible first | apply writes_Act_engineOut | apply Writes.get | apply Writes.when | intro _ | dsimp only)

theorem writes_Act_ezRelayed {m : EzMsg} {k : List Byte → Act} {P : Nat → Prop} (r_PLX_CNT : P (PLX.CNT 0 6)) (r_DEV_CNT_LAST : ∀ x0, P (DEV.CNT_LAST x0)) (r_DEV_EVT : ∀ x0, P (DEV.EVT x0)) (r_KEYS_SLOT : ∀ x0, P (KEYS.SLOT 0 x0)) (r_KEYS_LAST : P (KEYS.LAST 0)) (r_KEYS_EVT : P (KEYS.EVT 0)) (r_KEYS_CNT : P (KEYS.CNT 0 6)) (hk_k : ∀ x0, Writes (k x0) P) : Writes (Act.ezRelayed m k) P := by
  unfold Act.ezRelayed
  try dsimp only
  repeat' (with_reducible first | exact r_PLX_CNT | exact r_DEV_CNT_LAST _ | exact r_DEV_EVT _ | exact r_KEYS_SLOT _ | exact r_KEYS_LAST | exact r_KEYS_EVT | exact r_KEYS_CNT | exact hk_k _ | apply writes_Act_plxCount | apply writes_Act_ezTagged | apply Writes.seq | apply Writes.ite | intro _ | split | dsimp only)
  all_goals first | exact r_PLX_CNT | exact r_DEV_CNT_LAST _ | exact r_DEV_EVT _ | exact r_KEYS_SLOT _ | exact r_KEYS_LAST | exact r_KEYS_EVT | exact r_KEYS_CNT

theorem writes_Act_linkSend {p f ty : Nat} {body : List Byte} {P : Nat → Prop} : Writes (Act.linkSend p f ty body) P := by
  unfold Act.linkSend
  try dsimp only
  repeat' (with_reducible first | apply writes_Act_emit | apply Writes.get | apply Writes.ite | intro _ | split | dsimp only)

theorem writes_helloSend {p f : Nat} {P : Nat → Prop} : Writes (helloSend p f) P := by
  unfold helloSend
  try dsimp only
  repeat' (with_reducible first | apply writes_Act_modEth | apply writes_Act_linkSend | apply Writes.seq | apply Writes.get | apply Writes.when | intro _ | dsimp only)

theorem writes_helloReceive {p f : Nat} {P : Nat → Prop} (r_ETH_CNT : P (ETH.CNT p f 9)) (r_DEV_CNT_LAST : ∀ x0, P (DEV.CNT_LAST x0)) (r_DEV_EVT : ∀ x0, P (DEV.EVT x0)) (r_PLX_CNT : P (PLX.CNT 0 10)) : Writes (helloReceive p f) P := by
  unfold helloReceive
  try dsimp only
  repeat' (with_reducible first | exact r_ETH_CNT | exact r_DEV_CNT_LAST _ | exact r_DEV_EVT _ | exact r_PLX_CNT | apply writes_Act_modEth | apply writes_Act_rawIs | apply writes_Act_ezTake | apply Writes.seq | apply Writes.get | apply Writes.when | intro _ | dsimp only)
  all_goals first | exact r_ETH_CNT | exact r_DEV_CNT_LAST _ | exact r_DEV_EVT _ | exact r_PLX_CNT

theorem writes_helloLoss {p f : Nat} {P : Nat → Prop} (r_ETH_CNT : P (ETH.CNT p f 9)) (r_DEV_CNT_LAST : ∀ x0, P (DEV.CNT_LAST x0)) (r_DEV_EVT : ∀ x0, P (DEV.EVT x0)) : Writes (helloLoss p f) P := by
  unfold helloLoss
  try dsimp only
  repeat' (with_reducible first | exact r_ETH_CNT | exact r_DEV_CNT_LAST _ | exact r_DEV_EVT _ | apply writes_Act_setEth | apply writes_Act_rawIs | apply Writes.seq | apply Writes.get | apply Writes.when | intro _ | dsimp only)
  all_goals first | exact r_ETH_CNT | exact r_DEV_CNT_LAST _ | exact r_DEV_EVT _

theorem writes_creditSend {p f : Nat} {P : Nat → Prop} : Writes (creditSend p f) P := by
  unfold creditSend
  try dsimp only
  repeat' (with_reducible first | apply writes_Act_modEth | apply writes_Act_linkSend | apply Writes.seq | apply Writes.get | apply Writes.when | apply Writes.all_map | intro _ | dsimp only)

theorem writes_creditReceive {p f : Nat} {P : Nat → Prop} (r_PLX_CNT : P (PLX.CNT 0 10)) (r_DEV_CNT_LAST : ∀ x0, P (DEV.CNT_LAST x0)) (r_DEV_EVT : ∀ x0, P (DEV.EVT x0)) : Writes (creditReceive p f) P := by
  unfold creditReceive
  try dsimp only
  repeat' (with_reducible first | exact r_PLX_CNT | exact r_DEV_CNT_LAST _ | exact r_DEV_EVT _ | apply writes_Act_modEth | apply writes_Act_ezTake | apply Writes.get | apply Writes.when | apply Writes.all_map | intro _ | dsimp only)
  all_goals first | exact r_PLX_CNT | exact r_DEV_CNT_LAST _ | exact r_DEV_EVT _

theorem writes_Act_bootSend {f ty : Nat} {body : List Byte} {P : Nat → Prop} : Writes (Act.bootSend f ty body) P := by
  unfold Act.bootSend
  try dsimp only
  repeat' (with_reducible first | apply writes_Act_modEth | apply writes_Act_linkSend | apply Writes.seq | apply Writes.get | apply Writes.when | intro _ | dsimp only)

/-! ## Admit -/

theorem writes_Act_wakeEvent {i : Nat} {P : Nat → Prop} (r_WAKE_EVT : P (WAKE.EVT 0)) : Writes (Act.wakeEvent i) P := by
  unfold Act.wakeEvent
  try dsimp only
  repeat' (with_reducible first | exact r_WAKE_EVT | apply writes_Act_eventIrq | intro _ | dsimp only)
  all_goals first | exact r_WAKE_EVT

theorem writes_Act_wakeCount {i : Nat} {P : Nat → Prop} (r_WAKE_CNT : P (WAKE.CNT 0 i)) (r_DEV_CNT_LAST : ∀ x0, P (DEV.CNT_LAST x0)) (r_DEV_EVT : ∀ x0, P (DEV.EVT x0)) : Writes (Act.wakeCount i) P := by
  unfold Act.wakeCount
  try dsimp only
  repeat' (with_reducible first | exact r_WAKE_CNT | exact r_DEV_CNT_LAST _ | exact r_DEV_EVT _ | apply writes_Act_count | intro _ | dsimp only)
  all_goals first | exact r_WAKE_CNT | exact r_DEV_CNT_LAST _ | exact r_DEV_EVT _

theorem writes_Act_updIo {f : Machine → Machine} {P : Nat → Prop} : Writes (Act.updIo f) P := by
  unfold Act.updIo
  try dsimp only
  repeat' (with_reducible first | apply Writes.upd | intro _ | dsimp only)

theorem writes_Act_admEnter {t claim : Nat} {P : Nat → Prop} : Writes (Act.admEnter t claim) P := by
  unfold Act.admEnter
  try dsimp only
  repeat' (with_reducible first | apply writes_Act_updIo | apply Writes.upd | apply Writes.get | intro _ | dsimp only)

theorem writes_Act_admGrant {chan : Option Nat} {claim : Nat} {P : Nat → Prop} (r_WAKE_EVT : P (WAKE.EVT 0)) (r_WAKE_CNT : P (WAKE.CNT 0 9)) (r_DEV_CNT_LAST : ∀ x0, P (DEV.CNT_LAST x0)) (r_DEV_EVT : ∀ x0, P (DEV.EVT x0)) (r_WAKE_CNT_2 : P (WAKE.CNT 0 11)) : Writes (Act.admGrant chan claim) P := by
  unfold Act.admGrant
  try dsimp only
  repeat' (with_reducible first | exact r_WAKE_EVT | exact r_WAKE_CNT | exact r_DEV_CNT_LAST _ | exact r_DEV_EVT _ | exact r_WAKE_CNT_2 | apply writes_Act_modChan | apply writes_Act_wakeEvent | apply writes_Act_wakeCount | apply writes_Act_updIo | apply writes_Act_admEnter | apply Writes.upd | apply Writes.all_cons | apply Writes.all_nil | apply Writes.seq | apply Writes.get | apply Writes.when | intro _ | split | dsimp only)
  all_goals first | exact r_WAKE_EVT | exact r_WAKE_CNT | exact r_DEV_CNT_LAST _ | exact r_DEV_EVT _ | exact r_WAKE_CNT_2

theorem writes_Act_admDecide  {z0 : Nat} {P : Nat → Prop} (r_WAKE_EVT : P (WAKE.EVT 0)) (r_WAKE_CNT : P (WAKE.CNT 0 9)) (r_DEV_CNT_LAST : ∀ x0, P (DEV.CNT_LAST x0)) (r_DEV_EVT : ∀ x0, P (DEV.EVT x0)) (r_WAKE_CNT_2 : P (WAKE.CNT 0 11)) : Writes (Act.admDecide z0) P := by
  induction z0 with
  | zero =>
    unfold Act.admDecide
    exact Writes.skip
  | succ z0 ih =>
    unfold Act.admDecide
    try dsimp only
    repeat' (with_reducible first | exact ih | exact r_WAKE_EVT | exact r_WAKE_CNT | exact r_DEV_CNT_LAST _ | exact r_DEV_EVT _ | exact r_WAKE_CNT_2 | apply writes_Act_updIo | apply writes_Act_admGrant | apply Writes.upd | apply Writes.all_cons | apply Writes.all_nil | apply Writes.get | apply Writes.skip | apply Writes.ite | intro _ | split | dsimp only)
  all_goals first | exact r_WAKE_EVT | exact r_WAKE_CNT | exact r_DEV_CNT_LAST _ | exact r_DEV_EVT _ | exact r_WAKE_CNT_2

theorem writes_Act_admSettle  {P : Nat → Prop} (r_WAKE_EVT : P (WAKE.EVT 0)) (r_WAKE_CNT : P (WAKE.CNT 0 9)) (r_DEV_CNT_LAST : ∀ x0, P (DEV.CNT_LAST x0)) (r_DEV_EVT : ∀ x0, P (DEV.EVT x0)) (r_WAKE_CNT_2 : P (WAKE.CNT 0 11)) : Writes (Act.admSettle ) P := by
  unfold Act.admSettle
  try dsimp only
  repeat' (with_reducible first | exact r_WAKE_EVT | exact r_WAKE_CNT | exact r_DEV_CNT_LAST _ | exact r_DEV_EVT _ | exact r_WAKE_CNT_2 | apply writes_Act_admDecide | apply Writes.get | intro _ | dsimp only)
  all_goals first | exact r_WAKE_EVT | exact r_WAKE_CNT | exact r_DEV_CNT_LAST _ | exact r_DEV_EVT _ | exact r_WAKE_CNT_2

theorem writes_Act_admRequest {chan : Option Nat} {claim : Nat} {P : Nat → Prop} (r_WAKE_CNT : P (WAKE.CNT 0 10)) (r_DEV_CNT_LAST : ∀ x0, P (DEV.CNT_LAST x0)) (r_DEV_EVT : ∀ x0, P (DEV.EVT x0)) (r_WAKE_EVT : P (WAKE.EVT 0)) (r_WAKE_CNT_2 : P (WAKE.CNT 0 9)) (r_WAKE_CNT_3 : P (WAKE.CNT 0 11)) : Writes (Act.admRequest chan claim) P := by
  unfold Act.admRequest
  try dsimp only
  repeat' (with_reducible first | exact r_WAKE_CNT | exact r_DEV_CNT_LAST _ | exact r_DEV_EVT _ | exact r_WAKE_EVT | exact r_WAKE_CNT_2 | exact r_WAKE_CNT_3 | apply writes_Act_modChan | apply writes_Act_wakeCount | apply writes_Act_updIo | apply writes_Act_admGrant | apply Writes.upd | apply Writes.all_cons | apply Writes.all_nil | apply Writes.get | apply Writes.opt | apply Writes.ite | intro _ | split | dsimp only)
  all_goals first | exact r_WAKE_CNT | exact r_DEV_CNT_LAST _ | exact r_DEV_EVT _ | exact r_WAKE_EVT | exact r_WAKE_CNT_2 | exact r_WAKE_CNT_3

theorem writes_Act_admWithdraw {chan : Option Nat} {P : Nat → Prop} (r_WAKE_EVT : P (WAKE.EVT 0)) (r_WAKE_CNT : P (WAKE.CNT 0 9)) (r_DEV_CNT_LAST : ∀ x0, P (DEV.CNT_LAST x0)) (r_DEV_EVT : ∀ x0, P (DEV.EVT x0)) (r_WAKE_CNT_2 : P (WAKE.CNT 0 11)) : Writes (Act.admWithdraw chan) P := by
  unfold Act.admWithdraw
  try dsimp only
  repeat' (with_reducible first | exact r_WAKE_EVT | exact r_WAKE_CNT | exact r_DEV_CNT_LAST _ | exact r_DEV_EVT _ | exact r_WAKE_CNT_2 | apply writes_Act_updIo | apply writes_Act_admSettle | apply Writes.upd | apply Writes.seq | apply Writes.get | apply Writes.when | intro _ | dsimp only)
  all_goals first | exact r_WAKE_EVT | exact r_WAKE_CNT | exact r_DEV_CNT_LAST _ | exact r_DEV_EVT _ | exact r_WAKE_CNT_2

theorem writes_admissionWindowExpire  {P : Nat → Prop} (r_WAKE_EVT : P (WAKE.EVT 0)) (r_WAKE_CNT : P (WAKE.CNT 0 9)) (r_DEV_CNT_LAST : ∀ x0, P (DEV.CNT_LAST x0)) (r_DEV_EVT : ∀ x0, P (DEV.EVT x0)) (r_WAKE_CNT_2 : P (WAKE.CNT 0 11)) : Writes (admissionWindowExpire ) P := by
  unfold admissionWindowExpire
  try dsimp only
  repeat' (with_reducible first | exact r_WAKE_EVT | exact r_WAKE_CNT | exact r_DEV_CNT_LAST _ | exact r_DEV_EVT _ | exact r_WAKE_CNT_2 | apply writes_Act_updIo | apply writes_Act_admSettle | apply Writes.upd | apply Writes.seq | apply Writes.get | intro _ | dsimp only)
  all_goals first | exact r_WAKE_EVT | exact r_WAKE_CNT | exact r_DEV_CNT_LAST _ | exact r_DEV_EVT _ | exact r_WAKE_CNT_2

theorem writes_admSlow  {P : Nat → Prop} (r_WAKE_EVT : P (WAKE.EVT 0)) : Writes (admSlow ) P := by
  unfold admSlow
  try dsimp only
  repeat' (with_reducible first | exact r_WAKE_EVT | apply writes_Act_wakeEvent | apply writes_Act_updIo | apply Writes.upd | apply Writes.seq | apply Writes.get | apply Writes.each | apply Writes.ite | apply Writes.all_map | intro _ | split | dsimp only)
  all_goals first | exact r_WAKE_EVT

end Sys2Proof.Machine
end

