-- ==== Sys2Proof/Laws/Writes/Group5.lean ====
section
/-! SUPPORT. Which registers the operations of Channel, Pair, Xcvr may write. -/

set_option linter.unusedTactic false
set_option linter.unreachableTactic false

namespace Sys2Proof.Machine

/-! ## Channel -/

theorem writes_Act_chEvent {d c i : Nat} {P : Nat → Prop} (r_CHN_EVT : P (CHN.EVT d c)) : Writes (Act.chEvent d c i) P := by
  unfold Act.chEvent
  try dsimp only
  repeat' (with_reducible first | exact r_CHN_EVT | apply writes_Act_eventIrq | intro _ | dsimp only)
  all_goals first | exact r_CHN_EVT

theorem writes_Act_chCount {d c i : Nat} {P : Nat → Prop} (r_CHN_CNT : P (CHN.CNT d c i)) (r_DEV_CNT_LAST : ∀ x0, P (DEV.CNT_LAST x0)) (r_DEV_EVT : ∀ x0, P (DEV.EVT x0)) : Writes (Act.chCount d c i) P := by
  unfold Act.chCount
  try dsimp only
  repeat' (with_reducible first | exact r_CHN_CNT | exact r_DEV_CNT_LAST _ | exact r_DEV_EVT _ | apply writes_Act_count | intro _ | dsimp only)
  all_goals first | exact r_CHN_CNT | exact r_DEV_CNT_LAST _ | exact r_DEV_EVT _

theorem writes_Act_chOff {d c : Nat} {st : ChSt} {P : Nat → Prop} (r_WAKE_EVT : P (WAKE.EVT 0)) (r_WAKE_CNT : P (WAKE.CNT 0 9)) (r_DEV_CNT_LAST : ∀ x0, P (DEV.CNT_LAST x0)) (r_DEV_EVT : ∀ x0, P (DEV.EVT x0)) (r_WAKE_CNT_2 : P (WAKE.CNT 0 11)) : Writes (Act.chOff d c st) P := by
  unfold Act.chOff
  try dsimp only
  repeat' (with_reducible first | exact r_WAKE_EVT | exact r_WAKE_CNT | exact r_DEV_CNT_LAST _ | exact r_DEV_EVT _ | exact r_WAKE_CNT_2 | apply writes_Act_modChan | apply writes_Act_admWithdraw | apply Writes.seq | apply Writes.ite | intro _ | split | dsimp only)
  all_goals first | exact r_WAKE_EVT | exact r_WAKE_CNT | exact r_DEV_CNT_LAST _ | exact r_DEV_EVT _ | exact r_WAKE_CNT_2

theorem writes_Act_chAsk {d c : Nat} {guarded : Bool} {P : Nat → Prop} : Writes (Act.chAsk d c guarded) P := by
  unfold Act.chAsk
  try dsimp only
  repeat' (with_reducible first | apply writes_Act_modChan | intro _ | dsimp only)

theorem writes_Act_chApply {d c : Nat} {guarded : Bool} {P : Nat → Prop} : Writes (Act.chApply d c guarded) P := by
  unfold Act.chApply
  try dsimp only
  repeat' (with_reducible first | apply writes_Act_chAsk | apply Writes.get | apply Writes.when | intro _ | dsimp only)

theorem writes_Act_chSettle {d c : Nat} {guarded : Bool} {P : Nat → Prop} (r_WAKE_EVT : P (WAKE.EVT 0)) (r_WAKE_CNT : P (WAKE.CNT 0 9)) (r_DEV_CNT_LAST : ∀ x0, P (DEV.CNT_LAST x0)) (r_DEV_EVT : ∀ x0, P (DEV.EVT x0)) (r_WAKE_CNT_2 : P (WAKE.CNT 0 11)) : Writes (Act.chSettle d c guarded) P := by
  unfold Act.chSettle
  try dsimp only
  repeat' (with_reducible first | exact r_WAKE_EVT | exact r_WAKE_CNT | exact r_DEV_CNT_LAST _ | exact r_DEV_EVT _ | exact r_WAKE_CNT_2 | apply writes_Act_modChan | apply writes_Act_chOff | apply writes_Act_chApply | apply Writes.seq | apply Writes.get | apply Writes.when | apply Writes.ite | intro _ | split | dsimp only)
  all_goals first | exact r_WAKE_EVT | exact r_WAKE_CNT | exact r_DEV_CNT_LAST _ | exact r_DEV_EVT _ | exact r_WAKE_CNT_2

theorem writes_Act_chSettleAll {d : Nat} {guarded : Bool} {P : Nat → Prop} (r_WAKE_EVT : P (WAKE.EVT 0)) (r_WAKE_CNT : P (WAKE.CNT 0 9)) (r_DEV_CNT_LAST : ∀ x0, P (DEV.CNT_LAST x0)) (r_DEV_EVT : ∀ x0, P (DEV.EVT x0)) (r_WAKE_CNT_2 : P (WAKE.CNT 0 11)) : Writes (Act.chSettleAll d guarded) P := by
  unfold Act.chSettleAll
  try dsimp only
  repeat' (with_reducible first | exact r_WAKE_EVT | exact r_WAKE_CNT | exact r_DEV_CNT_LAST _ | exact r_DEV_EVT _ | exact r_WAKE_CNT_2 | apply writes_Act_chSettle | apply Writes.each | intro _ | dsimp only)
  all_goals first | exact r_WAKE_EVT | exact r_WAKE_CNT | exact r_DEV_CNT_LAST _ | exact r_DEV_EVT _ | exact r_WAKE_CNT_2

theorem writes_Act_chStop {d c : Nat} {P : Nat → Prop} (r_WAKE_EVT : P (WAKE.EVT 0)) (r_WAKE_CNT : P (WAKE.CNT 0 9)) (r_DEV_CNT_LAST : ∀ x0, P (DEV.CNT_LAST x0)) (r_DEV_EVT : ∀ x0, P (DEV.EVT x0)) (r_WAKE_CNT_2 : P (WAKE.CNT 0 11)) : Writes (Act.chStop d c) P := by
  unfold Act.chStop
  try dsimp only
  repeat' (with_reducible first | exact r_WAKE_EVT | exact r_WAKE_CNT | exact r_DEV_CNT_LAST _ | exact r_DEV_EVT _ | exact r_WAKE_CNT_2 | apply writes_Act_modChan | apply writes_Act_chOff | apply Writes.seq | apply Writes.get | apply Writes.skip | intro _ | split | dsimp only)
  all_goals first | exact r_WAKE_EVT | exact r_WAKE_CNT | exact r_DEV_CNT_LAST _ | exact r_DEV_EVT _ | exact r_WAKE_CNT_2

theorem writes_Act_chFollow {d c : Nat} {guarded : Bool} {P : Nat → Prop} (r_WAKE_EVT : P (WAKE.EVT 0)) (r_WAKE_CNT : P (WAKE.CNT 0 9)) (r_DEV_CNT_LAST : ∀ x0, P (DEV.CNT_LAST x0)) (r_DEV_EVT : ∀ x0, P (DEV.EVT x0)) (r_WAKE_CNT_2 : P (WAKE.CNT 0 11)) : Writes (Act.chFollow d c guarded) P := by
  unfold Act.chFollow
  try dsimp only
  repeat' (with_reducible first | exact r_WAKE_EVT | exact r_WAKE_CNT | exact r_DEV_CNT_LAST _ | exact r_DEV_EVT _ | exact r_WAKE_CNT_2 | apply writes_Act_chApply | apply writes_Act_chStop | apply Writes.get | apply Writes.ite | intro _ | split | dsimp only)
  all_goals first | exact r_WAKE_EVT | exact r_WAKE_CNT | exact r_DEV_CNT_LAST _ | exact r_DEV_EVT _ | exact r_WAKE_CNT_2

theorem writes_Act_chLatch {d c n : Nat} {P : Nat → Prop} (r_WAKE_EVT : P (WAKE.EVT 0)) (r_WAKE_CNT : P (WAKE.CNT 0 9)) (r_DEV_CNT_LAST : ∀ x0, P (DEV.CNT_LAST x0)) (r_DEV_EVT : ∀ x0, P (DEV.EVT x0)) (r_WAKE_CNT_2 : P (WAKE.CNT 0 11)) : Writes (Act.chLatch d c n) P := by
  unfold Act.chLatch
  try dsimp only
  repeat' (with_reducible first | exact r_WAKE_EVT | exact r_WAKE_CNT | exact r_DEV_CNT_LAST _ | exact r_DEV_EVT _ | exact r_WAKE_CNT_2 | apply writes_Act_modChan | apply writes_Act_updIo | apply writes_Act_chOff | apply Writes.upd | apply Writes.all_cons | apply Writes.all_nil | apply Writes.get | apply Writes.when | intro _ | dsimp only)
  all_goals first | exact r_WAKE_EVT | exact r_WAKE_CNT | exact r_DEV_CNT_LAST _ | exact r_DEV_EVT _ | exact r_WAKE_CNT_2

theorem writes_Act_chShort {d c : Nat} {P : Nat → Prop} (r_CHN_EVT : P (CHN.EVT d c)) (r_CHN_CNT : P (CHN.CNT d c 4)) (r_DEV_CNT_LAST : ∀ x0, P (DEV.CNT_LAST x0)) (r_DEV_EVT : ∀ x0, P (DEV.EVT x0)) (r_WAKE_EVT : P (WAKE.EVT 0)) (r_WAKE_CNT : P (WAKE.CNT 0 9)) (r_WAKE_CNT_2 : P (WAKE.CNT 0 11)) : Writes (Act.chShort d c) P := by
  unfold Act.chShort
  try dsimp only
  repeat' (with_reducible first | exact r_CHN_EVT | exact r_CHN_CNT | exact r_DEV_CNT_LAST _ | exact r_DEV_EVT _ | exact r_WAKE_EVT | exact r_WAKE_CNT | exact r_WAKE_CNT_2 | apply writes_Act_modChan | apply writes_Act_chEvent | apply writes_Act_chCount | apply writes_Act_chOff | apply writes_Act_chLatch | apply Writes.all_cons | apply Writes.all_nil | apply Writes.seq | apply Writes.get | apply Writes.ite | intro _ | split | dsimp only)
  all_goals first | exact r_CHN_EVT | exact r_CHN_CNT | exact r_DEV_CNT_LAST _ | exact r_DEV_EVT _ | exact r_WAKE_EVT | exact r_WAKE_CNT | exact r_WAKE_CNT_2

theorem writes_chnCmd {ag : Agent} {d c : Nat} {v : Word} {k : Code → Act} {P : Nat → Prop} (r_BLK_ERR : P (BLK_ERR (aDie (CHN.CMD d c)) (aBlk (CHN.CMD d c)))) (r_CHN_CMD : P (CHN.CMD d c)) (r_CHN_CNT : P (CHN.CNT d c 10)) (r_DEV_CNT_LAST : ∀ x0, P (DEV.CNT_LAST x0)) (r_DEV_EVT : ∀ x0, P (DEV.EVT x0)) (r_CHN_CNT_2 : P (CHN.CNT d c 9)) (r_WAKE_EVT : P (WAKE.EVT 0)) (r_WAKE_CNT : P (WAKE.CNT 0 9)) (r_WAKE_CNT_2 : P (WAKE.CNT 0 11)) (hk_k : ∀ x0, Writes (k x0) P) : Writes (chnCmd ag d c v k) P := by
  unfold chnCmd
  try dsimp only
  repeat' (with_reducible first | exact r_BLK_ERR | exact r_CHN_CMD | exact r_CHN_CNT | exact r_DEV_CNT_LAST _ | exact r_DEV_EVT _ | exact r_CHN_CNT_2 | exact r_WAKE_EVT | exact r_WAKE_CNT | exact r_WAKE_CNT_2 | exact hk_k _ | apply writes_Act_modChan | apply writes_Act_badValue | apply writes_Act_store | apply writes_Act_chCount | apply writes_Act_chApply | apply writes_Act_chStop | apply Writes.all_cons | apply Writes.all_nil | apply Writes.seq | apply Writes.get | apply Writes.ite | intro _ | split | dsimp only)
  all_goals first | exact r_BLK_ERR | exact r_CHN_CMD | exact r_CHN_CNT | exact r_DEV_CNT_LAST _ | exact r_DEV_EVT _ | exact r_CHN_CNT_2 | exact r_WAKE_EVT | exact r_WAKE_CNT | exact r_WAKE_CNT_2

theorem writes_Act_setLevel {d c : Nat} {n : Int} {P : Nat → Prop} : Writes (Act.setLevel d c n) P := by
  unfold Act.setLevel
  try dsimp only
  repeat' (with_reducible first | apply writes_Act_modChan | apply Writes.get | intro _ | dsimp only)

theorem writes_Act_chUnlatch {d c : Nat} {l : List Nat} {P : Nat → Prop} : Writes (Act.chUnlatch d c l) P := by
  unfold Act.chUnlatch
  try dsimp only
  repeat' (with_reducible first | apply writes_Act_modChan | apply writes_Act_chApply | apply Writes.seq | apply Writes.get | apply Writes.when | apply Writes.ite | intro _ | split | dsimp only)

theorem writes_chnCtrl {ag : Agent} {d c : Nat} {v : Word} {k : Code → Act} {P : Nat → Prop} (r_CHN_CTRL : P (CHN.CTRL d c)) (r_CHN_CAL : P (CHN.CAL d c)) (r_BLK_ERR : P (BLK_ERR (aDie (CHN.CTRL d c)) (aBlk (CHN.CTRL d c)))) (hk_k : ∀ x0, Writes (k x0) P) : Writes (chnCtrl ag d c v k) P := by
  unfold chnCtrl
  try dsimp only
  repeat' (with_reducible first | exact r_CHN_CTRL | exact r_CHN_CAL | exact r_BLK_ERR | exact hk_k _ | apply writes_Act_modChan | apply writes_Act_setFld | apply writes_Act_badValue | apply writes_Act_chUnlatch | apply Writes.setReg | apply Writes.all_cons | apply Writes.all_nil | apply Writes.get | apply Writes.when | apply Writes.ite | intro _ | split | dsimp only)
  all_goals first | exact r_CHN_CTRL | exact r_CHN_CAL | exact r_BLK_ERR

theorem writes_Act_setCfgB {d c : Nat} {v : Word} {P : Nat → Prop} (r_CHN_CFG_B : P (CHN.CFG_B d c)) : Writes (Act.setCfgB d c v) P := by
  unfold Act.setCfgB
  try dsimp only
  repeat' (with_reducible first | exact r_CHN_CFG_B | apply writes_Act_modChan | apply writes_Act_store | apply Writes.seq | apply Writes.get | apply Writes.when | intro _ | dsimp only)
  all_goals first | exact r_CHN_CFG_B

theorem writes_admissionRequest {d c : Nat} {P : Nat → Prop} (r_WAKE_CNT : P (WAKE.CNT 0 10)) (r_DEV_CNT_LAST : ∀ x0, P (DEV.CNT_LAST x0)) (r_DEV_EVT : ∀ x0, P (DEV.EVT x0)) (r_WAKE_EVT : P (WAKE.EVT 0)) (r_WAKE_CNT_2 : P (WAKE.CNT 0 9)) (r_WAKE_CNT_3 : P (WAKE.CNT 0 11)) : Writes (admissionRequest d c) P := by
  unfold admissionRequest
  try dsimp only
  repeat' (with_reducible first | exact r_WAKE_CNT | exact r_DEV_CNT_LAST _ | exact r_DEV_EVT _ | exact r_WAKE_EVT | exact r_WAKE_CNT_2 | exact r_WAKE_CNT_3 | apply writes_Act_admRequest | apply Writes.get | apply Writes.when | intro _ | dsimp only)
  all_goals first | exact r_WAKE_CNT | exact r_DEV_CNT_LAST _ | exact r_DEV_EVT _ | exact r_WAKE_EVT | exact r_WAKE_CNT_2 | exact r_WAKE_CNT_3

theorem writes_Act_chBegin {d c : Nat} {P : Nat → Prop} (r_CHN_CNT : P (CHN.CNT d c 0)) (r_DEV_CNT_LAST : ∀ x0, P (DEV.CNT_LAST x0)) (r_DEV_EVT : ∀ x0, P (DEV.EVT x0)) : Writes (Act.chBegin d c) P := by
  unfold Act.chBegin
  try dsimp only
  repeat' (with_reducible first | exact r_CHN_CNT | exact r_DEV_CNT_LAST _ | exact r_DEV_EVT _ | apply writes_Act_modChan | apply writes_Act_chCount | apply Writes.seq | apply Writes.get | apply Writes.ite | intro _ | split | dsimp only)
  all_goals first | exact r_CHN_CNT | exact r_DEV_CNT_LAST _ | exact r_DEV_EVT _

theorem writes_channelGrant {d c : Nat} {P : Nat → Prop} (r_CHN_CNT : P (CHN.CNT d c 0)) (r_DEV_CNT_LAST : ∀ x0, P (DEV.CNT_LAST x0)) (r_DEV_EVT : ∀ x0, P (DEV.EVT x0)) : Writes (channelGrant d c) P := by
  unfold channelGrant
  try dsimp only
  repeat' (with_reducible first | exact r_CHN_CNT | exact r_DEV_CNT_LAST _ | exact r_DEV_EVT _ | apply writes_Act_modChan | apply writes_Act_chBegin | apply Writes.get | apply Writes.skip | apply Writes.ite | intro _ | split | dsimp only)
  all_goals first | exact r_CHN_CNT | exact r_DEV_CNT_LAST _ | exact r_DEV_EVT _

theorem writes_rampDone {d c : Nat} {P : Nat → Prop} : Writes (rampDone d c) P := by
  unfold rampDone
  try dsimp only
  repeat' (with_reducible first | apply writes_Act_modChan | apply Writes.get | apply Writes.when | intro _ | dsimp only)

theorem writes_shortDetect {d c : Nat} {P : Nat → Prop} (r_CHN_EVT : P (CHN.EVT d c)) (r_CHN_CNT : P (CHN.CNT d c 4)) (r_DEV_CNT_LAST : ∀ x0, P (DEV.CNT_LAST x0)) (r_DEV_EVT : ∀ x0, P (DEV.EVT x0)) (r_WAKE_EVT : P (WAKE.EVT 0)) (r_WAKE_CNT : P (WAKE.CNT 0 9)) (r_WAKE_CNT_2 : P (WAKE.CNT 0 11)) : Writes (shortDetect d c) P := by
  unfold shortDetect
  try dsimp only
  repeat' (with_reducible first | exact r_CHN_EVT | exact r_CHN_CNT | exact r_DEV_CNT_LAST _ | exact r_DEV_EVT _ | exact r_WAKE_EVT | exact r_WAKE_CNT | exact r_WAKE_CNT_2 | apply writes_Act_chShort | apply Writes.get | apply Writes.when | intro _ | dsimp only)
  all_goals first | exact r_CHN_EVT | exact r_CHN_CNT | exact r_DEV_CNT_LAST _ | exact r_DEV_EVT _ | exact r_WAKE_EVT | exact r_WAKE_CNT | exact r_WAKE_CNT_2

theorem writes_limitHeld {d c : Nat} {P : Nat → Prop} (r_CHN_EVT : P (CHN.EVT d c)) (r_CHN_CNT : P (CHN.CNT d c 4)) (r_DEV_CNT_LAST : ∀ x0, P (DEV.CNT_LAST x0)) (r_DEV_EVT : ∀ x0, P (DEV.EVT x0)) (r_WAKE_EVT : P (WAKE.EVT 0)) (r_WAKE_CNT : P (WAKE.CNT 0 9)) (r_WAKE_CNT_2 : P (WAKE.CNT 0 11)) : Writes (limitHeld d c) P := by
  unfold limitHeld
  try dsimp only
  repeat' (with_reducible first | exact r_CHN_EVT | exact r_CHN_CNT | exact r_DEV_CNT_LAST _ | exact r_DEV_EVT _ | exact r_WAKE_EVT | exact r_WAKE_CNT | exact r_WAKE_CNT_2 | apply writes_Act_chShort | apply Writes.get | apply Writes.when | apply Writes.ite | intro _ | split | dsimp only)
  all_goals first | exact r_CHN_EVT | exact r_CHN_CNT | exact r_DEV_CNT_LAST _ | exact r_DEV_EVT _ | exact r_WAKE_EVT | exact r_WAKE_CNT | exact r_WAKE_CNT_2

theorem writes_retryBackoffEnd {d c : Nat} {P : Nat → Prop} (r_CHN_CNT : P (CHN.CNT d c 5)) (r_DEV_CNT_LAST : ∀ x0, P (DEV.CNT_LAST x0)) (r_DEV_EVT : ∀ x0, P (DEV.EVT x0)) : Writes (retryBackoffEnd d c) P := by
  unfold retryBackoffEnd
  try dsimp only
  repeat' (with_reducible first | exact r_CHN_CNT | exact r_DEV_CNT_LAST _ | exact r_DEV_EVT _ | apply writes_Act_modChan | apply writes_Act_chCount | apply writes_Act_chAsk | apply Writes.all_cons | apply Writes.all_nil | apply Writes.get | apply Writes.when | intro _ | dsimp only)
  all_goals first | exact r_CHN_CNT | exact r_DEV_CNT_LAST _ | exact r_DEV_EVT _

theorem writes_retryCountReset {d c : Nat} {P : Nat → Prop} : Writes (retryCountReset d c) P := by
  unfold retryCountReset
  try dsimp only
  repeat' (with_reducible first | apply writes_Act_modChan | apply Writes.get | apply Writes.when | intro _ | dsimp only)

theorem writes_Act_chTrip {d c : Nat} {guarded : Bool} {i n : Nat} {P : Nat → Prop} (r_CHN_EVT : P (CHN.EVT d c)) (r_CHN_CNT : P (CHN.CNT d c n)) (r_DEV_CNT_LAST : ∀ x0, P (DEV.CNT_LAST x0)) (r_DEV_EVT : ∀ x0, P (DEV.EVT x0)) (r_WAKE_EVT : P (WAKE.EVT 0)) (r_WAKE_CNT : P (WAKE.CNT 0 9)) (r_WAKE_CNT_2 : P (WAKE.CNT 0 11)) : Writes (Act.chTrip d c guarded i n) P := by
  unfold Act.chTrip
  try dsimp only
  repeat' (with_reducible first | exact r_CHN_EVT | exact r_CHN_CNT | exact r_DEV_CNT_LAST _ | exact r_DEV_EVT _ | exact r_WAKE_EVT | exact r_WAKE_CNT | exact r_WAKE_CNT_2 | apply writes_Act_modChan | apply writes_Act_chEvent | apply writes_Act_chCount | apply writes_Act_chOff | apply Writes.all_cons | apply Writes.all_nil | intro _ | dsimp only)
  all_goals first | exact r_CHN_EVT | exact r_CHN_CNT | exact r_DEV_CNT_LAST _ | exact r_DEV_EVT _ | exact r_WAKE_EVT | exact r_WAKE_CNT | exact r_WAKE_CNT_2

theorem writes_dtTrip {d c : Nat} {P : Nat → Prop} (r_CHN_EVT : P (CHN.EVT d c)) (r_CHN_CNT : P (CHN.CNT d c 1)) (r_DEV_CNT_LAST : ∀ x0, P (DEV.CNT_LAST x0)) (r_DEV_EVT : ∀ x0, P (DEV.EVT x0)) (r_WAKE_EVT : P (WAKE.EVT 0)) (r_WAKE_CNT : P (WAKE.CNT 0 9)) (r_WAKE_CNT_2 : P (WAKE.CNT 0 11)) : Writes (dtTrip d c) P := by
  unfold dtTrip
  try dsimp only
  repeat' (with_reducible first | exact r_CHN_EVT | exact r_CHN_CNT | exact r_DEV_CNT_LAST _ | exact r_DEV_EVT _ | exact r_WAKE_EVT | exact r_WAKE_CNT | exact r_WAKE_CNT_2 | apply writes_Act_chTrip | apply Writes.get | apply Writes.when | intro _ | dsimp only)
  all_goals first | exact r_CHN_EVT | exact r_CHN_CNT | exact r_DEV_CNT_LAST _ | exact r_DEV_EVT _ | exact r_WAKE_EVT | exact r_WAKE_CNT | exact r_WAKE_CNT_2

theorem writes_guardWarn {d c : Nat} {P : Nat → Prop} (r_CHN_EVT : P (CHN.EVT d c)) : Writes (guardWarn d c) P := by
  unfold guardWarn
  try dsimp only
  repeat' (with_reducible first | exact r_CHN_EVT | apply writes_Act_chEvent | apply Writes.get | apply Writes.when | intro _ | dsimp only)
  all_goals first | exact r_CHN_EVT

theorem writes_guardTrip {d c : Nat} {P : Nat → Prop} (r_CHN_EVT : P (CHN.EVT d c)) (r_CHN_CNT : P (CHN.CNT d c 2)) (r_DEV_CNT_LAST : ∀ x0, P (DEV.CNT_LAST x0)) (r_DEV_EVT : ∀ x0, P (DEV.EVT x0)) (r_WAKE_EVT : P (WAKE.EVT 0)) (r_WAKE_CNT : P (WAKE.CNT 0 9)) (r_WAKE_CNT_2 : P (WAKE.CNT 0 11)) : Writes (guardTrip d c) P := by
  unfold guardTrip
  try dsimp only
  repeat' (with_reducible first | exact r_CHN_EVT | exact r_CHN_CNT | exact r_DEV_CNT_LAST _ | exact r_DEV_EVT _ | exact r_WAKE_EVT | exact r_WAKE_CNT | exact r_WAKE_CNT_2 | apply writes_Act_chTrip | apply Writes.get | apply Writes.when | intro _ | dsimp only)
  all_goals first | exact r_CHN_EVT | exact r_CHN_CNT | exact r_DEV_CNT_LAST _ | exact r_DEV_EVT _ | exact r_WAKE_EVT | exact r_WAKE_CNT | exact r_WAKE_CNT_2

theorem writes_coolEnd {d c : Nat} {tj : Int} {P : Nat → Prop} : Writes (coolEnd d c tj) P := by
  unfold coolEnd
  try dsimp only
  repeat' (with_reducible first | apply writes_Act_modChan | apply writes_Act_chAsk | apply Writes.seq | apply Writes.get | apply Writes.when | apply Writes.ite | intro _ | split | dsimp only)

theorem writes_guardEnd {d : Nat} {ch : Option Nat} {P : Nat → Prop} (r_THM_EVT : P (THM.EVT d)) : Writes (guardEnd d ch) P := by
  unfold guardEnd
  try dsimp only
  repeat' (with_reducible first | exact r_THM_EVT | apply writes_Act_modChan | apply writes_Act_modDrv | apply writes_Act_event | apply Writes.seq | apply Writes.get | apply Writes.when | intro _ | split | dsimp only)
  all_goals first | exact r_THM_EVT

theorem writes_Act_chHard {d c : Nat} {P : Nat → Prop} (r_CHN_EVT : P (CHN.EVT d c)) (r_CHN_CNT : P (CHN.CNT d c 3)) (r_DEV_CNT_LAST : ∀ x0, P (DEV.CNT_LAST x0)) (r_DEV_EVT : ∀ x0, P (DEV.EVT x0)) (r_WAKE_EVT : P (WAKE.EVT 0)) (r_WAKE_CNT : P (WAKE.CNT 0 9)) (r_WAKE_CNT_2 : P (WAKE.CNT 0 11)) : Writes (Act.chHard d c) P := by
  unfold Act.chHard
  try dsimp only
  repeat' (with_reducible first | exact r_CHN_EVT | exact r_CHN_CNT | exact r_DEV_CNT_LAST _ | exact r_DEV_EVT _ | exact r_WAKE_EVT | exact r_WAKE_CNT | exact r_WAKE_CNT_2 | apply writes_Act_chEvent | apply writes_Act_chCount | apply writes_Act_chLatch | apply Writes.all_cons | apply Writes.all_nil | intro _ | dsimp only)
  all_goals first | exact r_CHN_EVT | exact r_CHN_CNT | exact r_DEV_CNT_LAST _ | exact r_DEV_EVT _ | exact r_WAKE_EVT | exact r_WAKE_CNT | exact r_WAKE_CNT_2

theorem writes_hardTrip {d c : Nat} {P : Nat → Prop} (r_CHN_EVT : P (CHN.EVT d c)) (r_CHN_CNT : P (CHN.CNT d c 3)) (r_DEV_CNT_LAST : ∀ x0, P (DEV.CNT_LAST x0)) (r_DEV_EVT : ∀ x0, P (DEV.EVT x0)) (r_WAKE_EVT : P (WAKE.EVT 0)) (r_WAKE_CNT : P (WAKE.CNT 0 9)) (r_WAKE_CNT_2 : P (WAKE.CNT 0 11)) : Writes (hardTrip d c) P := by
  unfold hardTrip
  try dsimp only
  repeat' (with_reducible first | exact r_CHN_EVT | exact r_CHN_CNT | exact r_DEV_CNT_LAST _ | exact r_DEV_EVT _ | exact r_WAKE_EVT | exact r_WAKE_CNT | exact r_WAKE_CNT_2 | apply writes_Act_chHard | apply Writes.get | apply Writes.when | intro _ | dsimp only)
  all_goals first | exact r_CHN_EVT | exact r_CHN_CNT | exact r_DEV_CNT_LAST _ | exact r_DEV_EVT _ | exact r_WAKE_EVT | exact r_WAKE_CNT | exact r_WAKE_CNT_2

theorem writes_logicHot {d : Nat} {P : Nat → Prop} (r_THM_EVT : P (THM.EVT d)) (r_CHN_EVT : ∀ x0, P (CHN.EVT d x0)) (r_CHN_CNT : ∀ x0, P (CHN.CNT d x0 3)) (r_DEV_CNT_LAST : ∀ x0, P (DEV.CNT_LAST x0)) (r_DEV_EVT : ∀ x0, P (DEV.EVT x0)) (r_WAKE_EVT : P (WAKE.EVT 0)) (r_WAKE_CNT : P (WAKE.CNT 0 9)) (r_WAKE_CNT_2 : P (WAKE.CNT 0 11)) : Writes (logicHot d) P := by
  unfold logicHot
  try dsimp only
  repeat' (with_reducible first | exact r_THM_EVT | exact r_CHN_EVT _ | exact r_CHN_CNT _ | exact r_DEV_CNT_LAST _ | exact r_DEV_EVT _ | exact r_WAKE_EVT | exact r_WAKE_CNT | exact r_WAKE_CNT_2 | apply writes_Act_event | apply writes_Act_chHard | apply Writes.seq | apply Writes.get | apply Writes.when | apply Writes.each | intro _ | dsimp only)
  all_goals first | exact r_THM_EVT | exact r_CHN_EVT _ | exact r_CHN_CNT _ | exact r_DEV_CNT_LAST _ | exact r_DEV_EVT _ | exact r_WAKE_EVT | exact r_WAKE_CNT | exact r_WAKE_CNT_2

theorem writes_Act_caseRead {d : Nat} {a b : Int} {P : Nat → Prop} : Writes (Act.caseRead d a b) P := by
  unfold Act.caseRead
  try dsimp only
  repeat' (with_reducible first | apply writes_Act_modDrv | intro _ | dsimp only)

theorem writes_caseFault {d : Nat} {a b : Int} {P : Nat → Prop} (r_THM_EVT : P (THM.EVT d)) : Writes (caseFault d a b) P := by
  unfold caseFault
  try dsimp only
  repeat' (with_reducible first | exact r_THM_EVT | apply writes_Act_modDrv | apply writes_Act_event | apply writes_Act_caseRead | apply Writes.all_cons | apply Writes.all_nil | apply Writes.get | apply Writes.when | intro _ | dsimp only)
  all_goals first | exact r_THM_EVT

theorem writes_caseFaultEnd {d : Nat} {a b : Int} {P : Nat → Prop} : Writes (caseFaultEnd d a b) P := by
  unfold caseFaultEnd
  try dsimp only
  repeat' (with_reducible first | apply writes_Act_modDrv | apply writes_Act_caseRead | apply Writes.seq | apply Writes.get | apply Writes.when | intro _ | dsimp only)

theorem writes_clampEventEnd {d c e : Nat} {P : Nat → Prop} (r_CHN_CLAMP : P (CHN.CLAMP d c)) (r_CHN_EVT : P (CHN.EVT d c)) (r_CHN_CNT : P (CHN.CNT d c 6)) (r_DEV_CNT_LAST : ∀ x0, P (DEV.CNT_LAST x0)) (r_DEV_EVT : ∀ x0, P (DEV.EVT x0)) (r_CHN_CNT_2 : P (CHN.CNT d c 7)) (r_WAKE_EVT : P (WAKE.EVT 0)) (r_WAKE_CNT : P (WAKE.CNT 0 9)) (r_WAKE_CNT_2 : P (WAKE.CNT 0 11)) : Writes (clampEventEnd d c e) P := by
  unfold clampEventEnd
  try dsimp only
  repeat' (with_reducible first | exact r_CHN_CLAMP | exact r_CHN_EVT | exact r_CHN_CNT | exact r_DEV_CNT_LAST _ | exact r_DEV_EVT _ | exact r_CHN_CNT_2 | exact r_WAKE_EVT | exact r_WAKE_CNT | exact r_WAKE_CNT_2 | apply writes_Act_setFld | apply writes_Act_offerMon | apply writes_Act_chEvent | apply writes_Act_chCount | apply writes_Act_chLatch | apply writes_Act_setLevel | apply Writes.all_cons | apply Writes.all_nil | apply Writes.seq | apply Writes.get | apply Writes.when | intro _ | dsimp only)
  all_goals first | exact r_CHN_CLAMP | exact r_CHN_EVT | exact r_CHN_CNT | exact r_DEV_CNT_LAST _ | exact r_DEV_EVT _ | exact r_CHN_CNT_2 | exact r_WAKE_EVT | exact r_WAKE_CNT | exact r_WAKE_CNT_2

theorem writes_clampRefill {d : Nat} {P : Nat → Prop} : Writes (clampRefill d) P := by
  unfold clampRefill
  try dsimp only
  repeat' (with_reducible first | apply writes_Act_setLevel | apply Writes.get | apply Writes.when | apply Writes.each | intro _ | dsimp only)

theorem writes_selftestEnd {d c : Nat} {pass : Bool} {P : Nat → Prop} (r_CHN_EVT : P (CHN.EVT d c)) (r_WAKE_EVT : P (WAKE.EVT 0)) (r_WAKE_CNT : P (WAKE.CNT 0 9)) (r_DEV_CNT_LAST : ∀ x0, P (DEV.CNT_LAST x0)) (r_DEV_EVT : ∀ x0, P (DEV.EVT x0)) (r_WAKE_CNT_2 : P (WAKE.CNT 0 11)) : Writes (selftestEnd d c pass) P := by
  unfold selftestEnd
  try dsimp only
  repeat' (with_reducible first | exact r_CHN_EVT | exact r_WAKE_EVT | exact r_WAKE_CNT | exact r_DEV_CNT_LAST _ | exact r_DEV_EVT _ | exact r_WAKE_CNT_2 | apply writes_Act_modChan | apply writes_Act_chEvent | apply writes_Act_chOff | apply writes_Act_chApply | apply Writes.all_cons | apply Writes.all_nil | apply Writes.get | apply Writes.when | apply Writes.ite | intro _ | split | dsimp only)
  all_goals first | exact r_CHN_EVT | exact r_WAKE_EVT | exact r_WAKE_CNT | exact r_DEV_CNT_LAST _ | exact r_DEV_EVT _ | exact r_WAKE_CNT_2

theorem writes_currentSample {d c : Nat} {i tj a b : Int} {lim : Bool} {P : Nat → Prop} : Writes (currentSample d c i tj a b lim) P := by
  unfold currentSample
  try dsimp only
  repeat' (with_reducible first | apply writes_Act_setChan | apply writes_Act_modDrv | apply writes_Act_caseRead | apply Writes.all_cons | apply Writes.all_nil | apply Writes.get | apply Writes.when | apply Writes.ite | intro _ | split | dsimp only)

theorem writes_calDone {d c : Nat} {mean : Int} {vary : Bool} {P : Nat → Prop} (r_CHN_CAL : P (CHN.CAL d c)) (r_CHN_EVT : P (CHN.EVT d c)) : Writes (calDone d c mean vary) P := by
  unfold calDone
  try dsimp only
  repeat' (with_reducible first | exact r_CHN_CAL | exact r_CHN_EVT | apply writes_Act_modChan | apply writes_Act_setFld | apply writes_Act_setFlds | apply writes_Act_chEvent | apply Writes.all_cons | apply Writes.all_nil | apply Writes.get | apply Writes.when | apply Writes.ite | intro _ | split | dsimp only)
  all_goals first | exact r_CHN_CAL | exact r_CHN_EVT

theorem writes_openLoad {d c : Nat} {onset : Bool} {P : Nat → Prop} (r_CHN_EVT : P (CHN.EVT d c)) (r_CHN_CNT : P (CHN.CNT d c 8)) (r_DEV_CNT_LAST : ∀ x0, P (DEV.CNT_LAST x0)) (r_DEV_EVT : ∀ x0, P (DEV.EVT x0)) : Writes (openLoad d c onset) P := by
  unfold openLoad
  try dsimp only
  repeat' (with_reducible first | exact r_CHN_EVT | exact r_CHN_CNT | exact r_DEV_CNT_LAST _ | exact r_DEV_EVT _ | apply writes_Act_modChan | apply writes_Act_chEvent | apply writes_Act_chCount | apply Writes.all_cons | apply Writes.all_nil | apply Writes.get | apply Writes.when | apply Writes.ite | intro _ | split | dsimp only)
  all_goals first | exact r_CHN_EVT | exact r_CHN_CNT | exact r_DEV_CNT_LAST _ | exact r_DEV_EVT _

theorem writes_diePowerEstimate {d : Nat} {P : Nat → Prop} (r_THM_STAT : P (THM.STAT d)) (r_THM_EVT : P (THM.EVT d)) : Writes (diePowerEstimate d) P := by
  unfold diePowerEstimate
  try dsimp only
  repeat' (with_reducible first | exact r_THM_STAT | exact r_THM_EVT | apply writes_Act_setDrv | apply writes_Act_setFld | apply writes_Act_event | apply Writes.all_cons | apply Writes.all_nil | apply Writes.get | apply Writes.when | apply Writes.ite | intro _ | split | dsimp only)
  all_goals first | exact r_THM_STAT | exact r_THM_EVT

theorem writes_Act_inputTakes {d i : Nat} {v : Bool} {P : Nat → Prop} (r_IN_LAST : P (IN.LAST d)) (r_IN_EVT : P (IN.EVT d)) : Writes (Act.inputTakes d i v) P := by
  unfold Act.inputTakes
  try dsimp only
  repeat' (with_reducible first | exact r_IN_LAST | exact r_IN_EVT | apply writes_Act_modDrv | apply writes_Act_eventIrq | apply Writes.setReg | apply Writes.all_cons | apply Writes.all_nil | apply Writes.get | apply Writes.when | intro _ | dsimp only)
  all_goals first | exact r_IN_LAST | exact r_IN_EVT

theorem writes_Act_mapTakes {d j : Nat} {v : Bool} {P : Nat → Prop} (r_WAKE_EVT : P (WAKE.EVT 0)) (r_WAKE_CNT : P (WAKE.CNT 0 9)) (r_DEV_CNT_LAST : ∀ x0, P (DEV.CNT_LAST x0)) (r_DEV_EVT : ∀ x0, P (DEV.EVT x0)) (r_WAKE_CNT_2 : P (WAKE.CNT 0 11)) : Writes (Act.mapTakes d j v) P := by
  unfold Act.mapTakes
  try dsimp only
  repeat' (with_reducible first | exact r_WAKE_EVT | exact r_WAKE_CNT | exact r_DEV_CNT_LAST _ | exact r_DEV_EVT _ | exact r_WAKE_CNT_2 | apply writes_Act_modDrv | apply writes_Act_chFollow | apply Writes.seq | apply Writes.get | apply Writes.when | apply Writes.all_map | intro _ | dsimp only)
  all_goals first | exact r_WAKE_EVT | exact r_WAKE_CNT | exact r_DEV_CNT_LAST _ | exact r_DEV_EVT _ | exact r_WAKE_CNT_2

theorem writes_inputStateChange {d i mv : Nat} {entry : Option Nat} {P : Nat → Prop} (r_IN_LAST : P (IN.LAST d)) (r_IN_EVT : P (IN.EVT d)) (r_WAKE_EVT : P (WAKE.EVT 0)) (r_WAKE_CNT : P (WAKE.CNT 0 9)) (r_DEV_CNT_LAST : ∀ x0, P (DEV.CNT_LAST x0)) (r_DEV_EVT : ∀ x0, P (DEV.EVT x0)) (r_WAKE_CNT_2 : P (WAKE.CNT 0 11)) : Writes (inputStateChange d i mv entry) P := by
  unfold inputStateChange
  try dsimp only
  repeat' (with_reducible first | exact r_IN_LAST | exact r_IN_EVT | exact r_WAKE_EVT | exact r_WAKE_CNT | exact r_DEV_CNT_LAST _ | exact r_DEV_EVT _ | exact r_WAKE_CNT_2 | apply writes_Act_inputTakes | apply writes_Act_mapTakes | apply Writes.get | apply Writes.when | apply Writes.opt | apply Writes.all_map | intro _ | split | dsimp only)
  all_goals first | exact r_IN_LAST | exact r_IN_EVT | exact r_WAKE_EVT | exact r_WAKE_CNT | exact r_DEV_CNT_LAST _ | exact r_DEV_EVT _ | exact r_WAKE_CNT_2

theorem writes_wetFault {d i : Nat} {P : Nat → Prop} (r_IN_EVT : P (IN.EVT d)) : Writes (wetFault d i) P := by
  unfold wetFault
  try dsimp only
  repeat' (with_reducible first | exact r_IN_EVT | apply writes_Act_event | apply Writes.get | apply Writes.when | intro _ | dsimp only)
  all_goals first | exact r_IN_EVT

theorem writes_measurementWrite {d item : Nat} {v : Int} {P : Nat → Prop} (r_IN_VAL : P (IN.VAL d (item - 64))) : Writes (measurementWrite d item v) P := by
  unfold measurementWrite
  try dsimp only
  repeat' (with_reducible first | exact r_IN_VAL | apply writes_Act_setFld | apply writes_Act_offerMon | apply writes_Act_sigWrite | apply Writes.seq | apply Writes.get | apply Writes.when | apply Writes.opt | intro _ | dsimp only)
  all_goals first | exact r_IN_VAL

theorem writes_Act_pairSettle  {P : Nat → Prop} (r_WAKE_EVT : P (WAKE.EVT 0)) (r_WAKE_CNT : P (WAKE.CNT 0 9)) (r_DEV_CNT_LAST : ∀ x0, P (DEV.CNT_LAST x0)) (r_DEV_EVT : ∀ x0, P (DEV.EVT x0)) (r_WAKE_CNT_2 : P (WAKE.CNT 0 11)) : Writes (Act.pairSettle ) P := by
  unfold Act.pairSettle
  try dsimp only
  repeat' (with_reducible first | exact r_WAKE_EVT | exact r_WAKE_CNT | exact r_DEV_CNT_LAST _ | exact r_DEV_EVT _ | exact r_WAKE_CNT_2 | apply writes_Act_chSettleAll | apply Writes.get | apply Writes.each | intro _ | dsimp only)
  all_goals first | exact r_WAKE_EVT | exact r_WAKE_CNT | exact r_DEV_CNT_LAST _ | exact r_DEV_EVT _ | exact r_WAKE_CNT_2

theorem writes_Act_dropOwner  {P : Nat → Prop} (r_PAIR_EVT : P (PAIR.EVT 0)) (r_WAKE_EVT : P (WAKE.EVT 0)) (r_WAKE_CNT : P (WAKE.CNT 0 9)) (r_DEV_CNT_LAST : ∀ x0, P (DEV.CNT_LAST x0)) (r_DEV_EVT : ∀ x0, P (DEV.EVT x0)) (r_WAKE_CNT_2 : P (WAKE.CNT 0 11)) : Writes (Act.dropOwner ) P := by
  unfold Act.dropOwner
  try dsimp only
  repeat' (with_reducible first | exact r_PAIR_EVT | exact r_WAKE_EVT | exact r_WAKE_CNT | exact r_DEV_CNT_LAST _ | exact r_DEV_EVT _ | exact r_WAKE_CNT_2 | apply writes_Act_eventIrq | apply writes_Act_updIo | apply writes_Act_pairSettle | apply Writes.upd | apply Writes.all_cons | apply Writes.all_nil | apply Writes.seq | apply Writes.get | apply Writes.when | intro _ | dsimp only)
  all_goals first | exact r_PAIR_EVT | exact r_WAKE_EVT | exact r_WAKE_CNT | exact r_DEV_CNT_LAST _ | exact r_DEV_EVT _ | exact r_WAKE_CNT_2

/-! ## Pair -/

theorem writes_Act_updPair {f : Pair → Pair} {P : Nat → Prop} : Writes (Act.updPair f) P := by
  unfold Act.updPair
  try dsimp only
  repeat' (with_reducible first | apply writes_Act_updIo | apply Writes.upd | intro _ | dsimp only)

theorem writes_Act_pairEvent {i : Nat} {P : Nat → Prop} (r_PAIR_EVT : P (PAIR.EVT 0)) : Writes (Act.pairEvent i) P := by
  unfold Act.pairEvent
  try dsimp only
  repeat' (with_reducible first | exact r_PAIR_EVT | apply writes_Act_eventIrq | intro _ | dsimp only)
  all_goals first | exact r_PAIR_EVT

theorem writes_Act_pairCount {i : Nat} {P : Nat → Prop} (r_PAIR_CNT : P (PAIR.CNT 0 i)) (r_DEV_CNT_LAST : ∀ x0, P (DEV.CNT_LAST x0)) (r_DEV_EVT : ∀ x0, P (DEV.EVT x0)) : Writes (Act.pairCount i) P := by
  unfold Act.pairCount
  try dsimp only
  repeat' (with_reducible first | exact r_PAIR_CNT | exact r_DEV_CNT_LAST _ | exact r_DEV_EVT _ | apply writes_Act_count | intro _ | dsimp only)
  all_goals first | exact r_PAIR_CNT | exact r_DEV_CNT_LAST _ | exact r_DEV_EVT _

theorem writes_Act_pairStart  {P : Nat → Prop} (r_WAKE_EVT : P (WAKE.EVT 0)) (r_WAKE_CNT : P (WAKE.CNT 0 9)) (r_DEV_CNT_LAST : ∀ x0, P (DEV.CNT_LAST x0)) (r_DEV_EVT : ∀ x0, P (DEV.EVT x0)) (r_WAKE_CNT_2 : P (WAKE.CNT 0 11)) : Writes (Act.pairStart ) P := by
  unfold Act.pairStart
  try dsimp only
  repeat' (with_reducible first | exact r_WAKE_EVT | exact r_WAKE_CNT | exact r_DEV_CNT_LAST _ | exact r_DEV_EVT _ | exact r_WAKE_CNT_2 | apply writes_Act_pairSettle | apply writes_Act_updPair | apply Writes.upd | apply Writes.seq | apply Writes.get | apply Writes.when | intro _ | dsimp only)
  all_goals first | exact r_WAKE_EVT | exact r_WAKE_CNT | exact r_DEV_CNT_LAST _ | exact r_DEV_EVT _ | exact r_WAKE_CNT_2

theorem writes_Act_pairStop  {P : Nat → Prop} (r_WAKE_EVT : P (WAKE.EVT 0)) (r_WAKE_CNT : P (WAKE.CNT 0 9)) (r_DEV_CNT_LAST : ∀ x0, P (DEV.CNT_LAST x0)) (r_DEV_EVT : ∀ x0, P (DEV.EVT x0)) (r_WAKE_CNT_2 : P (WAKE.CNT 0 11)) (r_PAIR_EVT : P (PAIR.EVT 0)) : Writes (Act.pairStop ) P := by
  unfold Act.pairStop
  try dsimp only
  repeat' (with_reducible first | exact r_WAKE_EVT | exact r_WAKE_CNT | exact r_DEV_CNT_LAST _ | exact r_DEV_EVT _ | exact r_WAKE_CNT_2 | exact r_PAIR_EVT | apply writes_Act_admWithdraw | apply writes_Act_pairSettle | apply writes_Act_dropOwner | apply writes_Act_updPair | apply Writes.upd | apply Writes.all_cons | apply Writes.all_nil | intro _ | dsimp only)
  all_goals first | exact r_WAKE_EVT | exact r_WAKE_CNT | exact r_DEV_CNT_LAST _ | exact r_DEV_EVT _ | exact r_WAKE_CNT_2 | exact r_PAIR_EVT

theorem writes_Act_pairSend {gf : Nat} {body : List Byte} {P : Nat → Prop} (r_KEYS_SLOT : ∀ x0, P (KEYS.SLOT 0 x0)) (r_KEYS_LAST : P (KEYS.LAST 0)) (r_KEYS_EVT : P (KEYS.EVT 0)) (r_KEYS_CNT : P (KEYS.CNT 0 6)) (r_DEV_CNT_LAST : ∀ x0, P (DEV.CNT_LAST x0)) (r_DEV_EVT : ∀ x0, P (DEV.EVT x0)) : Writes (Act.pairSend gf body) P := by
  unfold Act.pairSend
  try dsimp only
  repeat' (with_reducible first | exact r_KEYS_SLOT _ | exact r_KEYS_LAST | exact r_KEYS_EVT | exact r_KEYS_CNT | exact r_DEV_CNT_LAST _ | exact r_DEV_EVT _ | apply writes_Act_ezMake | apply writes_Act_ezPost | apply Writes.get | apply Writes.when | apply Writes.opt | intro _ | dsimp only)
  all_goals first | exact r_KEYS_SLOT _ | exact r_KEYS_LAST | exact r_KEYS_EVT | exact r_KEYS_CNT | exact r_DEV_CNT_LAST _ | exact r_DEV_EVT _

theorem writes_Act_pairTell {body : List Byte} {P : Nat → Prop} (r_KEYS_SLOT : ∀ x0, P (KEYS.SLOT 0 x0)) (r_KEYS_LAST : P (KEYS.LAST 0)) (r_KEYS_EVT : P (KEYS.EVT 0)) (r_KEYS_CNT : P (KEYS.CNT 0 6)) (r_DEV_CNT_LAST : ∀ x0, P (DEV.CNT_LAST x0)) (r_DEV_EVT : ∀ x0, P (DEV.EVT x0)) : Writes (Act.pairTell body) P := by
  unfold Act.pairTell
  try dsimp only
  repeat' (with_reducible first | exact r_KEYS_SLOT _ | exact r_KEYS_LAST | exact r_KEYS_EVT | exact r_KEYS_CNT | exact r_DEV_CNT_LAST _ | exact r_DEV_EVT _ | apply writes_Act_pairSend | apply Writes.get | apply Writes.opt | intro _ | dsimp only)
  all_goals first | exact r_KEYS_SLOT _ | exact r_KEYS_LAST | exact r_KEYS_EVT | exact r_KEYS_CNT | exact r_DEV_CNT_LAST _ | exact r_DEV_EVT _

theorem writes_pairHeartbeatSend  {P : Nat → Prop} (r_KEYS_SLOT : ∀ x0, P (KEYS.SLOT 0 x0)) (r_KEYS_LAST : P (KEYS.LAST 0)) (r_KEYS_EVT : P (KEYS.EVT 0)) (r_KEYS_CNT : P (KEYS.CNT 0 6)) (r_DEV_CNT_LAST : ∀ x0, P (DEV.CNT_LAST x0)) (r_DEV_EVT : ∀ x0, P (DEV.EVT x0)) : Writes (pairHeartbeatSend ) P := by
  unfold pairHeartbeatSend
  try dsimp only
  repeat' (with_reducible first | exact r_KEYS_SLOT _ | exact r_KEYS_LAST | exact r_KEYS_EVT | exact r_KEYS_CNT | exact r_DEV_CNT_LAST _ | exact r_DEV_EVT _ | apply writes_Act_updPair | apply writes_Act_pairSend | apply Writes.upd | apply Writes.seq | apply Writes.get | apply Writes.when | apply Writes.each | intro _ | dsimp only)
  all_goals first | exact r_KEYS_SLOT _ | exact r_KEYS_LAST | exact r_KEYS_EVT | exact r_KEYS_CNT | exact r_DEV_CNT_LAST _ | exact r_DEV_EVT _

theorem writes_Act_pairMsg {p : EzMsg → Bool} {past : Bool} {k : EzMsg → Act} {P : Nat → Prop} (r_PLX_CNT : P (PLX.CNT 0 10)) (r_DEV_CNT_LAST : ∀ x0, P (DEV.CNT_LAST x0)) (r_DEV_EVT : ∀ x0, P (DEV.EVT x0)) (r_PLX_LAST : P (PLX.LAST 0)) (r_PLX_EVT : P (PLX.EVT 0)) (r_KEYS_SLOT : ∀ x0, P (KEYS.SLOT 0 x0)) (r_KEYS_LAST : P (KEYS.LAST 0)) (r_KEYS_EVT : P (KEYS.EVT 0)) (r_KEYS_CNT : P (KEYS.CNT 0 6)) (r_PLX_CNT_2 : P (PLX.CNT 0 12)) (r_PLX_CNT_3 : P (PLX.CNT 0 5)) (r_PLX_CNT_4 : P (PLX.CNT 0 3)) (r_PLX_CNT_5 : P (PLX.CNT 0 4)) (r_PLX_CNT_6 : P (PLX.CNT 0 2)) (hk_k : ∀ x0, Writes (k x0) P) : Writes (Act.pairMsg p past k) P := by
  unfold Act.pairMsg
  try dsimp only
  repeat' (with_reducible first | exact r_PLX_CNT | exact r_DEV_CNT_LAST _ | exact r_DEV_EVT _ | exact r_PLX_LAST | exact r_PLX_EVT | exact r_KEYS_SLOT _ | exact r_KEYS_LAST | exact r_KEYS_EVT | exact r_KEYS_CNT | exact r_PLX_CNT_2 | exact r_PLX_CNT_3 | exact r_PLX_CNT_4 | exact r_PLX_CNT_5 | exact r_PLX_CNT_6 | exact hk_k _ | apply writes_Act_ezTake | apply writes_Act_ezMember | apply Writes.get | apply Writes.when | apply Writes.skip | apply Writes.ite | intro _ | split | dsimp only)
  all_goals first | exact r_PLX_CNT | exact r_DEV_CNT_LAST _ | exact r_DEV_EVT _ | exact r_PLX_LAST | exact r_PLX_EVT | exact r_KEYS_SLOT _ | exact r_KEYS_LAST | exact r_KEYS_EVT | exact r_KEYS_CNT | exact r_PLX_CNT_2 | exact r_PLX_CNT_3 | exact r_PLX_CNT_4 | exact r_PLX_CNT_5 | exact r_PLX_CNT_6

theorem writes_Act_pairTake {p : Nat → Bool} {past : Bool} {k : EzMsg → Act} {P : Nat → Prop} (r_PLX_CNT : P (PLX.CNT 0 10)) (r_DEV_CNT_LAST : ∀ x0, P (DEV.CNT_LAST x0)) (r_DEV_EVT : ∀ x0, P (DEV.EVT x0)) (r_PLX_LAST : P (PLX.LAST 0)) (r_PLX_EVT : P (PLX.EVT 0)) (r_KEYS_SLOT : ∀ x0, P (KEYS.SLOT 0 x0)) (r_KEYS_LAST : P (KEYS.LAST 0)) (r_KEYS_EVT : P (KEYS.EVT 0)) (r_KEYS_CNT : P (KEYS.CNT 0 6)) (r_PLX_CNT_2 : P (PLX.CNT 0 12)) (r_PLX_CNT_3 : P (PLX.CNT 0 5)) (r_PLX_CNT_4 : P (PLX.CNT 0 3)) (r_PLX_CNT_5 : P (PLX.CNT 0 4)) (r_PLX_CNT_6 : P (PLX.CNT 0 2)) (hk_k : ∀ x0, Writes (k x0) P) : Writes (Act.pairTake p past k) P := by
  unfold Act.pairTake
  try dsimp only
  repeat' (with_reducible first | exact r_PLX_CNT | exact r_DEV_CNT_LAST _ | exact r_DEV_EVT _ | exact r_PLX_LAST | exact r_PLX_EVT | exact r_KEYS_SLOT _ | exact r_KEYS_LAST | exact r_KEYS_EVT | exact r_KEYS_CNT | exact r_PLX_CNT_2 | exact r_PLX_CNT_3 | exact r_PLX_CNT_4 | exact r_PLX_CNT_5 | exact r_PLX_CNT_6 | exact hk_k _ | apply writes_Act_pairMsg | intro _ | dsimp only)
  all_goals first | exact r_PLX_CNT | exact r_DEV_CNT_LAST _ | exact r_DEV_EVT _ | exact r_PLX_LAST | exact r_PLX_EVT | exact r_KEYS_SLOT _ | exact r_KEYS_LAST | exact r_KEYS_EVT | exact r_KEYS_CNT | exact r_PLX_CNT_2 | exact r_PLX_CNT_3 | exact r_PLX_CNT_4 | exact r_PLX_CNT_5 | exact r_PLX_CNT_6

theorem writes_pairHeartbeatReceive {past : Bool} {P : Nat → Prop} (r_PAIR_OFFSET : P (PAIR.OFFSET 0)) (r_PAIR_EVT : P (PAIR.EVT 0)) (r_PLX_CNT : P (PLX.CNT 0 10)) (r_DEV_CNT_LAST : ∀ x0, P (DEV.CNT_LAST x0)) (r_DEV_EVT : ∀ x0, P (DEV.EVT x0)) (r_PLX_LAST : P (PLX.LAST 0)) (r_PLX_EVT : P (PLX.EVT 0)) (r_KEYS_SLOT : ∀ x0, P (KEYS.SLOT 0 x0)) (r_KEYS_LAST : P (KEYS.LAST 0)) (r_KEYS_EVT : P (KEYS.EVT 0)) (r_KEYS_CNT : P (KEYS.CNT 0 6)) (r_PLX_CNT_2 : P (PLX.CNT 0 12)) (r_PLX_CNT_3 : P (PLX.CNT 0 5)) (r_PLX_CNT_4 : P (PLX.CNT 0 3)) (r_PLX_CNT_5 : P (PLX.CNT 0 4)) (r_PLX_CNT_6 : P (PLX.CNT 0 2)) : Writes (pairHeartbeatReceive past) P := by
  unfold pairHeartbeatReceive
  try dsimp only
  repeat' (with_reducible first | exact r_PAIR_OFFSET | exact r_PAIR_EVT | exact r_PLX_CNT | exact r_DEV_CNT_LAST _ | exact r_DEV_EVT _ | exact r_PLX_LAST | exact r_PLX_EVT | exact r_KEYS_SLOT _ | exact r_KEYS_LAST | exact r_KEYS_EVT | exact r_KEYS_CNT | exact r_PLX_CNT_2 | exact r_PLX_CNT_3 | exact r_PLX_CNT_4 | exact r_PLX_CNT_5 | exact r_PLX_CNT_6 | apply writes_Act_updPair | apply writes_Act_pairEvent | apply writes_Act_pairTake | apply Writes.setReg | apply Writes.upd | apply Writes.seq | apply Writes.get | apply Writes.opt | apply Writes.skip | apply Writes.ite | intro _ | split | dsimp only)
  all_goals first | exact r_PAIR_OFFSET | exact r_PAIR_EVT | exact r_PLX_CNT | exact r_DEV_CNT_LAST _ | exact r_DEV_EVT _ | exact r_PLX_LAST | exact r_PLX_EVT | exact r_KEYS_SLOT _ | exact r_KEYS_LAST | exact r_KEYS_EVT | exact r_KEYS_CNT | exact r_PLX_CNT_2 | exact r_PLX_CNT_3 | exact r_PLX_CNT_4 | exact r_PLX_CNT_5 | exact r_PLX_CNT_6

theorem writes_Act_gainOwner  {P : Nat → Prop} (r_WAKE_EVT : P (WAKE.EVT 0)) (r_WAKE_CNT : P (WAKE.CNT 0 9)) (r_DEV_CNT_LAST : ∀ x0, P (DEV.CNT_LAST x0)) (r_DEV_EVT : ∀ x0, P (DEV.EVT x0)) (r_WAKE_CNT_2 : P (WAKE.CNT 0 11)) (r_PAIR_EVT : P (PAIR.EVT 0)) (r_PAIR_CNT : P (PAIR.CNT 0 9)) : Writes (Act.gainOwner ) P := by
  unfold Act.gainOwner
  try dsimp only
  repeat' (with_reducible first | exact r_WAKE_EVT | exact r_WAKE_CNT | exact r_DEV_CNT_LAST _ | exact r_DEV_EVT _ | exact r_WAKE_CNT_2 | exact r_PAIR_EVT | exact r_PAIR_CNT | apply writes_Act_pairSettle | apply writes_Act_updPair | apply writes_Act_pairEvent | apply writes_Act_pairCount | apply Writes.upd | apply Writes.all_cons | apply Writes.all_nil | intro _ | dsimp only)
  all_goals first | exact r_WAKE_EVT | exact r_WAKE_CNT | exact r_DEV_CNT_LAST _ | exact r_DEV_EVT _ | exact r_WAKE_CNT_2 | exact r_PAIR_EVT | exact r_PAIR_CNT

theorem writes_Act_seeLine {held : Bool} {P : Nat → Prop} : Writes (Act.seeLine held) P := by
  unfold Act.seeLine
  try dsimp only
  repeat' (with_reducible first | apply writes_Act_updPair | apply Writes.upd | intro _ | dsimp only)

theorem writes_Act_pairApply {count : Bool} {P : Nat → Prop} (r_PAIR_EVT : P (PAIR.EVT 0)) (r_PAIR_CNT : P (PAIR.CNT 0 11)) (r_DEV_CNT_LAST : ∀ x0, P (DEV.CNT_LAST x0)) (r_DEV_EVT : ∀ x0, P (DEV.EVT x0)) (r_PAIR_CNT_2 : P (PAIR.CNT 0 12)) : Writes (Act.pairApply count) P := by
  unfold Act.pairApply
  try dsimp only
  repeat' (with_reducible first | exact r_PAIR_EVT | exact r_PAIR_CNT | exact r_DEV_CNT_LAST _ | exact r_DEV_EVT _ | exact r_PAIR_CNT_2 | apply writes_Act_updPair | apply writes_Act_pairEvent | apply writes_Act_pairCount | apply Writes.upd | apply Writes.all_cons | apply Writes.all_nil | apply Writes.seq | apply Writes.get | apply Writes.when | apply Writes.ite | intro _ | split | dsimp only)
  all_goals first | exact r_PAIR_EVT | exact r_PAIR_CNT | exact r_DEV_CNT_LAST _ | exact r_DEV_EVT _ | exact r_PAIR_CNT_2

theorem writes_pairLinkLoss {line : Bool} {P : Nat → Prop} (r_PAIR_EVT : P (PAIR.EVT 0)) (r_PAIR_CNT : P (PAIR.CNT 0 11)) (r_DEV_CNT_LAST : ∀ x0, P (DEV.CNT_LAST x0)) (r_DEV_EVT : ∀ x0, P (DEV.EVT x0)) (r_PAIR_CNT_2 : P (PAIR.CNT 0 12)) : Writes (pairLinkLoss line) P := by
  unfold pairLinkLoss
  try dsimp only
  repeat' (with_reducible first | exact r_PAIR_EVT | exact r_PAIR_CNT | exact r_DEV_CNT_LAST _ | exact r_DEV_EVT _ | exact r_PAIR_CNT_2 | apply writes_Act_updPair | apply writes_Act_pairEvent | apply writes_Act_seeLine | apply writes_Act_pairApply | apply Writes.upd | apply Writes.all_cons | apply Writes.all_nil | apply Writes.get | apply Writes.when | intro _ | dsimp only)
  all_goals first | exact r_PAIR_EVT | exact r_PAIR_CNT | exact r_DEV_CNT_LAST _ | exact r_DEV_EVT _ | exact r_PAIR_CNT_2

theorem writes_pairDecide {line : Bool} {P : Nat → Prop} (r_PAIR_EVT : P (PAIR.EVT 0)) (r_PAIR_CNT : P (PAIR.CNT 0 11)) (r_DEV_CNT_LAST : ∀ x0, P (DEV.CNT_LAST x0)) (r_DEV_EVT : ∀ x0, P (DEV.EVT x0)) (r_PAIR_CNT_2 : P (PAIR.CNT 0 12)) : Writes (pairDecide line) P := by
  unfold pairDecide
  try dsimp only
  repeat' (with_reducible first | exact r_PAIR_EVT | exact r_PAIR_CNT | exact r_DEV_CNT_LAST _ | exact r_DEV_EVT _ | exact r_PAIR_CNT_2 | apply writes_Act_seeLine | apply writes_Act_pairApply | apply Writes.seq | apply Writes.get | apply Writes.when | intro _ | dsimp only)
  all_goals first | exact r_PAIR_EVT | exact r_PAIR_CNT | exact r_DEV_CNT_LAST _ | exact r_DEV_EVT _ | exact r_PAIR_CNT_2

theorem writes_pairJoin {line : Bool} {P : Nat → Prop} (r_PAIR_EVT : P (PAIR.EVT 0)) (r_WAKE_EVT : P (WAKE.EVT 0)) (r_WAKE_CNT : P (WAKE.CNT 0 9)) (r_DEV_CNT_LAST : ∀ x0, P (DEV.CNT_LAST x0)) (r_DEV_EVT : ∀ x0, P (DEV.EVT x0)) (r_WAKE_CNT_2 : P (WAKE.CNT 0 11)) : Writes (pairJoin line) P := by
  unfold pairJoin
  try dsimp only
  repeat' (with_reducible first | exact r_PAIR_EVT | exact r_WAKE_EVT | exact r_WAKE_CNT | exact r_DEV_CNT_LAST _ | exact r_DEV_EVT _ | exact r_WAKE_CNT_2 | apply writes_Act_dropOwner | apply writes_Act_updPair | apply writes_Act_pairEvent | apply writes_Act_seeLine | apply Writes.upd | apply Writes.all_cons | apply Writes.all_nil | apply Writes.seq | apply Writes.get | apply Writes.when | apply Writes.ite | intro _ | split | dsimp only)
  all_goals first | exact r_PAIR_EVT | exact r_WAKE_EVT | exact r_WAKE_CNT | exact r_DEV_CNT_LAST _ | exact r_DEV_EVT _ | exact r_WAKE_CNT_2

theorem writes_claimWaitEnd {line : Bool} {P : Nat → Prop} : Writes (claimWaitEnd line) P := by
  unfold claimWaitEnd
  try dsimp only
  repeat' (with_reducible first | apply writes_Act_updPair | apply writes_Act_seeLine | apply Writes.upd | apply Writes.seq | apply Writes.get | apply Writes.when | apply Writes.skip | apply Writes.ite | intro _ | split | dsimp only)

theorem writes_claimProbe {line : Bool} {P : Nat → Prop} (r_PAIR_EVT : P (PAIR.EVT 0)) (r_PAIR_CNT : P (PAIR.CNT 0 10)) (r_DEV_CNT_LAST : ∀ x0, P (DEV.CNT_LAST x0)) (r_DEV_EVT : ∀ x0, P (DEV.EVT x0)) (r_WAKE_EVT : P (WAKE.EVT 0)) (r_WAKE_CNT : P (WAKE.CNT 0 9)) (r_WAKE_CNT_2 : P (WAKE.CNT 0 11)) (r_PAIR_CNT_2 : P (PAIR.CNT 0 9)) : Writes (claimProbe line) P := by
  unfold claimProbe
  try dsimp only
  repeat' (with_reducible first | exact r_PAIR_EVT | exact r_PAIR_CNT | exact r_DEV_CNT_LAST _ | exact r_DEV_EVT _ | exact r_WAKE_EVT | exact r_WAKE_CNT | exact r_WAKE_CNT_2 | exact r_PAIR_CNT_2 | apply writes_Act_updPair | apply writes_Act_pairEvent | apply writes_Act_pairCount | apply writes_Act_gainOwner | apply Writes.upd | apply Writes.all_cons | apply Writes.all_nil | apply Writes.seq | apply Writes.get | apply Writes.skip | apply Writes.ite | intro _ | split | dsimp only)
  all_goals first | exact r_PAIR_EVT | exact r_PAIR_CNT | exact r_DEV_CNT_LAST _ | exact r_DEV_EVT _ | exact r_WAKE_EVT | exact r_WAKE_CNT | exact r_WAKE_CNT_2 | exact r_PAIR_CNT_2

theorem writes_witnessSend  {P : Nat → Prop} (r_PAIR_CNT : P (PAIR.CNT 0 13)) (r_DEV_CNT_LAST : ∀ x0, P (DEV.CNT_LAST x0)) (r_DEV_EVT : ∀ x0, P (DEV.EVT x0)) : Writes (witnessSend ) P := by
  unfold witnessSend
  try dsimp only
  repeat' (with_reducible first | exact r_PAIR_CNT | exact r_DEV_CNT_LAST _ | exact r_DEV_EVT _ | apply writes_Act_engineOut | apply writes_Act_updPair | apply writes_Act_pairCount | apply Writes.upd | apply Writes.all_cons | apply Writes.all_nil | apply Writes.get | apply Writes.when | intro _ | dsimp only)
  all_goals first | exact r_PAIR_CNT | exact r_DEV_CNT_LAST _ | exact r_DEV_EVT _

theorem writes_witnessReceive {p c : Nat} {b : List Byte} {P : Nat → Prop} : Writes (witnessReceive p c b) P := by
  unfold witnessReceive
  try dsimp only
  repeat' (with_reducible first | apply writes_Act_updPair | apply Writes.upd | apply Writes.get | apply Writes.when | intro _ | dsimp only)

theorem writes_Act_handResult {n : Nat} {P : Nat → Prop} (r_PAIR_CMD : P (PAIR.CMD 0)) : Writes (Act.handResult n) P := by
  unfold Act.handResult
  try dsimp only
  repeat' (with_reducible first | exact r_PAIR_CMD | apply Writes.setReg | intro _ | dsimp only)
  all_goals first | exact r_PAIR_CMD

theorem writes_Act_sendGrant  {P : Nat → Prop} (r_KEYS_SLOT : ∀ x0, P (KEYS.SLOT 0 x0)) (r_KEYS_LAST : P (KEYS.LAST 0)) (r_KEYS_EVT : P (KEYS.EVT 0)) (r_KEYS_CNT : P (KEYS.CNT 0 6)) (r_DEV_CNT_LAST : ∀ x0, P (DEV.CNT_LAST x0)) (r_DEV_EVT : ∀ x0, P (DEV.EVT x0)) (r_PAIR_CMD : P (PAIR.CMD 0)) : Writes (Act.sendGrant ) P := by
  unfold Act.sendGrant
  try dsimp only
  repeat' (with_reducible first | exact r_KEYS_SLOT _ | exact r_KEYS_LAST | exact r_KEYS_EVT | exact r_KEYS_CNT | exact r_DEV_CNT_LAST _ | exact r_DEV_EVT _ | exact r_PAIR_CMD | apply writes_Act_updPair | apply writes_Act_pairTell | apply writes_Act_handResult | apply Writes.upd | apply Writes.all_cons | apply Writes.all_nil | apply Writes.get | intro _ | dsimp only)
  all_goals first | exact r_KEYS_SLOT _ | exact r_KEYS_LAST | exact r_KEYS_EVT | exact r_KEYS_CNT | exact r_DEV_CNT_LAST _ | exact r_DEV_EVT _ | exact r_PAIR_CMD

theorem writes_pairCmd {ag : Agent} {v : Word} {k : Code → Act} {P : Nat → Prop} (r_BLK_ERR : P (BLK_ERR (aDie (PAIR.CMD 0)) (aBlk (PAIR.CMD 0)))) (r_PAIR_CMD : P (PAIR.CMD 0)) (r_KEYS_SLOT : ∀ x0, P (KEYS.SLOT 0 x0)) (r_KEYS_LAST : P (KEYS.LAST 0)) (r_KEYS_EVT : P (KEYS.EVT 0)) (r_KEYS_CNT : P (KEYS.CNT 0 6)) (r_DEV_CNT_LAST : ∀ x0, P (DEV.CNT_LAST x0)) (r_DEV_EVT : ∀ x0, P (DEV.EVT x0)) (hk_k : ∀ x0, Writes (k x0) P) : Writes (pairCmd ag v k) P := by
  unfold pairCmd
  try dsimp only
  repeat' (with_reducible first | exact r_BLK_ERR | exact r_PAIR_CMD | exact r_KEYS_SLOT _ | exact r_KEYS_LAST | exact r_KEYS_EVT | exact r_KEYS_CNT | exact r_DEV_CNT_LAST _ | exact r_DEV_EVT _ | exact hk_k _ | apply writes_Act_badValue | apply writes_Act_handResult | apply writes_Act_sendGrant | apply Writes.seq | apply Writes.get | apply Writes.ite | intro _ | split | dsimp only)
  all_goals first | exact r_BLK_ERR | exact r_PAIR_CMD | exact r_KEYS_SLOT _ | exact r_KEYS_LAST | exact r_KEYS_EVT | exact r_KEYS_CNT | exact r_DEV_CNT_LAST _ | exact r_DEV_EVT _

theorem writes_autoHandover  {P : Nat → Prop} (r_KEYS_SLOT : ∀ x0, P (KEYS.SLOT 0 x0)) (r_KEYS_LAST : P (KEYS.LAST 0)) (r_KEYS_EVT : P (KEYS.EVT 0)) (r_KEYS_CNT : P (KEYS.CNT 0 6)) (r_DEV_CNT_LAST : ∀ x0, P (DEV.CNT_LAST x0)) (r_DEV_EVT : ∀ x0, P (DEV.EVT x0)) (r_PAIR_CMD : P (PAIR.CMD 0)) : Writes (autoHandover ) P := by
  unfold autoHandover
  try dsimp only
  repeat' (with_reducible first | exact r_KEYS_SLOT _ | exact r_KEYS_LAST | exact r_KEYS_EVT | exact r_KEYS_CNT | exact r_DEV_CNT_LAST _ | exact r_DEV_EVT _ | exact r_PAIR_CMD | apply writes_Act_updPair | apply writes_Act_sendGrant | apply Writes.upd | apply Writes.get | apply Writes.when | apply Writes.ite | intro _ | split | dsimp only)
  all_goals first | exact r_KEYS_SLOT _ | exact r_KEYS_LAST | exact r_KEYS_EVT | exact r_KEYS_CNT | exact r_DEV_CNT_LAST _ | exact r_DEV_EVT _ | exact r_PAIR_CMD

theorem writes_Act_declineGrant {theirs : Nat} {P : Nat → Prop} (r_WAKE_EVT : P (WAKE.EVT 0)) (r_WAKE_CNT : P (WAKE.CNT 0 9)) (r_DEV_CNT_LAST : ∀ x0, P (DEV.CNT_LAST x0)) (r_DEV_EVT : ∀ x0, P (DEV.EVT x0)) (r_WAKE_CNT_2 : P (WAKE.CNT 0 11)) (r_KEYS_SLOT : ∀ x0, P (KEYS.SLOT 0 x0)) (r_KEYS_LAST : P (KEYS.LAST 0)) (r_KEYS_EVT : P (KEYS.EVT 0)) (r_KEYS_CNT : P (KEYS.CNT 0 6)) : Writes (Act.declineGrant theirs) P := by
  unfold Act.declineGrant
  try dsimp only
  repeat' (with_reducible first | exact r_WAKE_EVT | exact r_WAKE_CNT | exact r_DEV_CNT_LAST _ | exact r_DEV_EVT _ | exact r_WAKE_CNT_2 | exact r_KEYS_SLOT _ | exact r_KEYS_LAST | exact r_KEYS_EVT | exact r_KEYS_CNT | apply writes_Act_admWithdraw | apply writes_Act_updPair | apply writes_Act_pairTell | apply Writes.upd | apply Writes.all_cons | apply Writes.all_nil | intro _ | dsimp only)
  all_goals first | exact r_WAKE_EVT | exact r_WAKE_CNT | exact r_DEV_CNT_LAST _ | exact r_DEV_EVT _ | exact r_WAKE_CNT_2 | exact r_KEYS_SLOT _ | exact r_KEYS_LAST | exact r_KEYS_EVT | exact r_KEYS_CNT

theorem writes_Act_answerGrant  {P : Nat → Prop} (r_KEYS_SLOT : ∀ x0, P (KEYS.SLOT 0 x0)) (r_KEYS_LAST : P (KEYS.LAST 0)) (r_KEYS_EVT : P (KEYS.EVT 0)) (r_KEYS_CNT : P (KEYS.CNT 0 6)) (r_DEV_CNT_LAST : ∀ x0, P (DEV.CNT_LAST x0)) (r_DEV_EVT : ∀ x0, P (DEV.EVT x0)) (r_WAKE_EVT : P (WAKE.EVT 0)) (r_WAKE_CNT : P (WAKE.CNT 0 9)) (r_WAKE_CNT_2 : P (WAKE.CNT 0 11)) : Writes (Act.answerGrant ) P := by
  unfold Act.answerGrant
  try dsimp only
  repeat' (with_reducible first | exact r_KEYS_SLOT _ | exact r_KEYS_LAST | exact r_KEYS_EVT | exact r_KEYS_CNT | exact r_DEV_CNT_LAST _ | exact r_DEV_EVT _ | exact r_WAKE_EVT | exact r_WAKE_CNT | exact r_WAKE_CNT_2 | apply writes_Act_updPair | apply writes_Act_pairTell | apply writes_Act_declineGrant | apply Writes.upd | apply Writes.seq | apply Writes.get | apply Writes.when | apply Writes.skip | apply Writes.ite | intro _ | split | dsimp only)
  all_goals first | exact r_KEYS_SLOT _ | exact r_KEYS_LAST | exact r_KEYS_EVT | exact r_KEYS_CNT | exact r_DEV_CNT_LAST _ | exact r_DEV_EVT _ | exact r_WAKE_EVT | exact r_WAKE_CNT | exact r_WAKE_CNT_2

theorem writes_grantReceive {past : Bool} {P : Nat → Prop} (r_WAKE_CNT : P (WAKE.CNT 0 10)) (r_DEV_CNT_LAST : ∀ x0, P (DEV.CNT_LAST x0)) (r_DEV_EVT : ∀ x0, P (DEV.EVT x0)) (r_WAKE_EVT : P (WAKE.EVT 0)) (r_WAKE_CNT_2 : P (WAKE.CNT 0 9)) (r_WAKE_CNT_3 : P (WAKE.CNT 0 11)) (r_KEYS_SLOT : ∀ x0, P (KEYS.SLOT 0 x0)) (r_KEYS_LAST : P (KEYS.LAST 0)) (r_KEYS_EVT : P (KEYS.EVT 0)) (r_KEYS_CNT : P (KEYS.CNT 0 6)) (r_PLX_CNT : P (PLX.CNT 0 10)) (r_PLX_LAST : P (PLX.LAST 0)) (r_PLX_EVT : P (PLX.EVT 0)) (r_PLX_CNT_2 : P (PLX.CNT 0 12)) (r_PLX_CNT_3 : P (PLX.CNT 0 5)) (r_PLX_CNT_4 : P (PLX.CNT 0 3)) (r_PLX_CNT_5 : P (PLX.CNT 0 4)) (r_PLX_CNT_6 : P (PLX.CNT 0 2)) : Writes (grantReceive past) P := by
  unfold grantReceive
  try dsimp only
  repeat' (with_reducible first | exact r_WAKE_CNT | exact r_DEV_CNT_LAST _ | exact r_DEV_EVT _ | exact r_WAKE_EVT | exact r_WAKE_CNT_2 | exact r_WAKE_CNT_3 | exact r_KEYS_SLOT _ | exact r_KEYS_LAST | exact r_KEYS_EVT | exact r_KEYS_CNT | exact r_PLX_CNT | exact r_PLX_LAST | exact r_PLX_EVT | exact r_PLX_CNT_2 | exact r_PLX_CNT_3 | exact r_PLX_CNT_4 | exact r_PLX_CNT_5 | exact r_PLX_CNT_6 | apply writes_Act_admRequest | apply writes_Act_updPair | apply writes_Act_pairTell | apply writes_Act_pairTake | apply writes_Act_answerGrant | apply Writes.upd | apply Writes.seq | apply Writes.get | apply Writes.when | apply Writes.ite | apply Writes.all_map | intro _ | split | dsimp only)
  all_goals first | exact r_WAKE_CNT | exact r_DEV_CNT_LAST _ | exact r_DEV_EVT _ | exact r_WAKE_EVT | exact r_WAKE_CNT_2 | exact r_WAKE_CNT_3 | exact r_KEYS_SLOT _ | exact r_KEYS_LAST | exact r_KEYS_EVT | exact r_KEYS_CNT | exact r_PLX_CNT | exact r_PLX_LAST | exact r_PLX_EVT | exact r_PLX_CNT_2 | exact r_PLX_CNT_3 | exact r_PLX_CNT_4 | exact r_PLX_CNT_5 | exact r_PLX_CNT_6

theorem writes_handoverSwitch  {P : Nat → Prop} (r_CHN_CNT : ∀ x0 x1, P (CHN.CNT x0 x1 0)) (r_DEV_CNT_LAST : ∀ x0, P (DEV.CNT_LAST x0)) (r_DEV_EVT : ∀ x0, P (DEV.EVT x0)) (r_WAKE_EVT : P (WAKE.EVT 0)) (r_WAKE_CNT : P (WAKE.CNT 0 9)) (r_WAKE_CNT_2 : P (WAKE.CNT 0 11)) (r_PAIR_EVT : P (PAIR.EVT 0)) : Writes (handoverSwitch ) P := by
  unfold handoverSwitch
  try dsimp only
  repeat' (with_reducible first | exact r_CHN_CNT _ _ | exact r_DEV_CNT_LAST _ | exact r_DEV_EVT _ | exact r_WAKE_EVT | exact r_WAKE_CNT | exact r_WAKE_CNT_2 | exact r_PAIR_EVT | apply writes_Act_modChan | apply writes_Act_chBegin | apply writes_Act_pairSettle | apply writes_Act_updPair | apply writes_Act_pairEvent | apply Writes.upd | apply Writes.all_cons | apply Writes.all_nil | apply Writes.seq | apply Writes.get | apply Writes.when | apply Writes.each | apply Writes.skip | intro _ | split | dsimp only)
  all_goals first | exact r_CHN_CNT _ _ | exact r_DEV_CNT_LAST _ | exact r_DEV_EVT _ | exact r_WAKE_EVT | exact r_WAKE_CNT | exact r_WAKE_CNT_2 | exact r_PAIR_EVT

theorem writes_Act_grantAnswers  {z0 : Nat} {P : Nat → Prop} (r_PLX_CNT : P (PLX.CNT 0 10)) (r_DEV_CNT_LAST : ∀ x0, P (DEV.CNT_LAST x0)) (r_DEV_EVT : ∀ x0, P (DEV.EVT x0)) (r_PLX_LAST : P (PLX.LAST 0)) (r_PLX_EVT : P (PLX.EVT 0)) (r_KEYS_SLOT : ∀ x0, P (KEYS.SLOT 0 x0)) (r_KEYS_LAST : P (KEYS.LAST 0)) (r_KEYS_EVT : P (KEYS.EVT 0)) (r_KEYS_CNT : P (KEYS.CNT 0 6)) (r_PLX_CNT_2 : P (PLX.CNT 0 12)) (r_PLX_CNT_3 : P (PLX.CNT 0 5)) (r_PLX_CNT_4 : P (PLX.CNT 0 3)) (r_PLX_CNT_5 : P (PLX.CNT 0 4)) (r_PLX_CNT_6 : P (PLX.CNT 0 2)) : Writes (Act.grantAnswers z0) P := by
  induction z0 with
  | zero =>
    unfold Act.grantAnswers
    exact Writes.skip
  | succ z0 ih =>
    unfold Act.grantAnswers
    try dsimp only
    repeat' (with_reducible first | exact ih | exact r_PLX_CNT | exact r_DEV_CNT_LAST _ | exact r_DEV_EVT _ | exact r_PLX_LAST | exact r_PLX_EVT | exact r_KEYS_SLOT _ | exact r_KEYS_LAST | exact r_KEYS_EVT | exact r_KEYS_CNT | exact r_PLX_CNT_2 | exact r_PLX_CNT_3 | exact r_PLX_CNT_4 | exact r_PLX_CNT_5 | exact r_PLX_CNT_6 | apply writes_Act_updPair | apply writes_Act_pairTake | apply Writes.upd | apply Writes.seq | apply Writes.skip | intro _ | split | dsimp only)
  all_goals first | exact r_PLX_CNT | exact r_DEV_CNT_LAST _ | exact r_DEV_EVT _ | exact r_PLX_LAST | exact r_PLX_EVT | exact r_KEYS_SLOT _ | exact r_KEYS_LAST | exact r_KEYS_EVT | exact r_KEYS_CNT | exact r_PLX_CNT_2 | exact r_PLX_CNT_3 | exact r_PLX_CNT_4 | exact r_PLX_CNT_5 | exact r_PLX_CNT_6

theorem writes_handoverProbe {line : Bool} {P : Nat → Prop} (r_PAIR_EVT : P (PAIR.EVT 0)) (r_WAKE_EVT : P (WAKE.EVT 0)) (r_WAKE_CNT : P (WAKE.CNT 0 9)) (r_DEV_CNT_LAST : ∀ x0, P (DEV.CNT_LAST x0)) (r_DEV_EVT : ∀ x0, P (DEV.EVT x0)) (r_WAKE_CNT_2 : P (WAKE.CNT 0 11)) (r_PAIR_CNT : P (PAIR.CNT 0 7)) (r_PAIR_CNT_2 : P (PAIR.CNT 0 8)) (r_PAIR_CMD : P (PAIR.CMD 0)) (r_PLX_CNT : P (PLX.CNT 0 10)) (r_PLX_LAST : P (PLX.LAST 0)) (r_PLX_EVT : P (PLX.EVT 0)) (r_KEYS_SLOT : ∀ x0, P (KEYS.SLOT 0 x0)) (r_KEYS_LAST : P (KEYS.LAST 0)) (r_KEYS_EVT : P (KEYS.EVT 0)) (r_KEYS_CNT : P (KEYS.CNT 0 6)) (r_PLX_CNT_2 : P (PLX.CNT 0 12)) (r_PLX_CNT_3 : P (PLX.CNT 0 5)) (r_PLX_CNT_4 : P (PLX.CNT 0 3)) (r_PLX_CNT_5 : P (PLX.CNT 0 4)) (r_PLX_CNT_6 : P (PLX.CNT 0 2)) : Writes (handoverProbe line) P := by
  unfold handoverProbe
  try dsimp only
  repeat' (with_reducible first | exact r_PAIR_EVT | exact r_WAKE_EVT | exact r_WAKE_CNT | exact r_DEV_CNT_LAST _ | exact r_DEV_EVT _ | exact r_WAKE_CNT_2 | exact r_PAIR_CNT | exact r_PAIR_CNT_2 | exact r_PAIR_CMD | exact r_PLX_CNT | exact r_PLX_LAST | exact r_PLX_EVT | exact r_KEYS_SLOT _ | exact r_KEYS_LAST | exact r_KEYS_EVT | exact r_KEYS_CNT | exact r_PLX_CNT_2 | exact r_PLX_CNT_3 | exact r_PLX_CNT_4 | exact r_PLX_CNT_5 | exact r_PLX_CNT_6 | apply writes_Act_dropOwner | apply writes_Act_updPair | apply writes_Act_pairEvent | apply writes_Act_pairCount | apply writes_Act_handResult | apply writes_Act_grantAnswers | apply Writes.upd | apply Writes.all_cons | apply Writes.all_nil | apply Writes.seq | apply Writes.get | apply Writes.when | apply Writes.skip | apply Writes.ite | intro _ | split | dsimp only)
  all_goals first | exact r_PAIR_EVT | exact r_WAKE_EVT | exact r_WAKE_CNT | exact r_DEV_CNT_LAST _ | exact r_DEV_EVT _ | exact r_WAKE_CNT_2 | exact r_PAIR_CNT | exact r_PAIR_CNT_2 | exact r_PAIR_CMD | exact r_PLX_CNT | exact r_PLX_LAST | exact r_PLX_EVT | exact r_KEYS_SLOT _ | exact r_KEYS_LAST | exact r_KEYS_EVT | exact r_KEYS_CNT | exact r_PLX_CNT_2 | exact r_PLX_CNT_3 | exact r_PLX_CNT_4 | exact r_PLX_CNT_5 | exact r_PLX_CNT_6

theorem writes_Act_pathSilent {p i path : Nat} {P : Nat → Prop} (r_PAIR_SILENT_LAST : P (PAIR.SILENT_LAST p)) (r_PAIR_EVT : P (PAIR.EVT p)) : Writes (Act.pathSilent p i path) P := by
  unfold Act.pathSilent
  try dsimp only
  repeat' (with_reducible first | exact r_PAIR_SILENT_LAST | exact r_PAIR_EVT | apply writes_Act_eventIrq | apply Writes.setReg | apply Writes.seq | intro _ | dsimp only)
  all_goals first | exact r_PAIR_SILENT_LAST | exact r_PAIR_EVT

theorem writes_pathSilentSweep {p : Nat} {P : Nat → Prop} (r_PAIR_SILENT_LAST : P (PAIR.SILENT_LAST p)) (r_PAIR_EVT : P (PAIR.EVT p)) : Writes (pathSilentSweep p) P := by
  unfold pathSilentSweep
  try dsimp only
  repeat' (with_reducible first | exact r_PAIR_SILENT_LAST | exact r_PAIR_EVT | apply writes_Act_setRcv | apply writes_Act_pathSilent | apply Writes.all_cons | apply Writes.all_nil | apply Writes.get | apply Writes.when | apply Writes.each | apply Writes.ite | intro _ | split | dsimp only)
  all_goals first | exact r_PAIR_SILENT_LAST | exact r_PAIR_EVT

theorem writes_Act_pairTblPut {p t i : Nat} {w : List Word} {P : Nat → Prop} : Writes (Act.pairTblPut p t i w) P := by
  unfold Act.pairTblPut
  try dsimp only
  repeat' (with_reducible first | apply writes_Act_setRcv | apply writes_Act_setTblWords | apply Writes.seq | apply Writes.when | apply Writes.ite | apply Writes.all_map | intro _ | split | dsimp only)

theorem writes_pairTblCmd {ag : Agent} {p : Nat} {v : Word} {k : Code → Act} {P : Nat → Prop} (r_PAIR_TBL_CMD : P (PAIR.TBL_CMD p)) (r_PAIR_TBL_W : ∀ x0, P (PAIR.TBL_W p x0)) (r_BLK_ERR : P (BLK_ERR (aDie (PAIR.TBL_CMD p)) (aBlk (PAIR.TBL_CMD p)))) (hk_k : ∀ x0, Writes (k x0) P) : Writes (pairTblCmd ag p v k) P := by
  unfold pairTblCmd
  try dsimp only
  repeat' (with_reducible first | exact r_PAIR_TBL_CMD | exact r_PAIR_TBL_W _ | exact r_BLK_ERR | exact hk_k _ | apply writes_Act_badValue | apply writes_Act_store | apply writes_Act_pairTblPut | apply Writes.setReg | apply Writes.all_cons | apply Writes.all_nil | apply Writes.seq | apply Writes.get | apply Writes.each | apply Writes.ite | apply Writes.all_map | intro _ | split | dsimp only)
  all_goals first | exact r_PAIR_TBL_CMD | exact r_PAIR_TBL_W _ | exact r_BLK_ERR

/-! ## Xcvr -/

theorem writes_xcvrModeChange {d u : Nat} {P : Nat → Prop} : Writes (xcvrModeChange d u) P := by
  unfold xcvrModeChange
  try dsimp only
  repeat' (with_reducible first | apply writes_Act_modXcvr | apply Writes.get | apply Writes.when | intro _ | dsimp only)

theorem writes_Act_xcvrEvent {d i u : Nat} {P : Nat → Prop} (r_XCVR_LAST : P (XCVR.LAST d)) (r_XCVR_EVT : P (XCVR.EVT d)) : Writes (Act.xcvrEvent d i u) P := by
  unfold Act.xcvrEvent
  try dsimp only
  repeat' (with_reducible first | exact r_XCVR_LAST | exact r_XCVR_EVT | apply writes_Act_setFld | apply writes_Act_event | apply Writes.seq | intro _ | dsimp only)
  all_goals first | exact r_XCVR_LAST | exact r_XCVR_EVT

theorem writes_txdTimeout {d u : Nat} {recessive : Bool} {P : Nat → Prop} (r_XCVR_LAST : P (XCVR.LAST d)) (r_XCVR_EVT : P (XCVR.EVT d)) : Writes (txdTimeout d u recessive) P := by
  unfold txdTimeout
  try dsimp only
  repeat' (with_reducible first | exact r_XCVR_LAST | exact r_XCVR_EVT | apply writes_Act_modXcvr | apply writes_Act_xcvrEvent | apply Writes.seq | apply Writes.get | apply Writes.when | apply Writes.ite | intro _ | split | dsimp only)
  all_goals first | exact r_XCVR_LAST | exact r_XCVR_EVT

theorem writes_busDom {d u : Nat} {P : Nat → Prop} (r_XCVR_LAST : P (XCVR.LAST d)) (r_XCVR_EVT : P (XCVR.EVT d)) : Writes (busDom d u) P := by
  unfold busDom
  try dsimp only
  repeat' (with_reducible first | exact r_XCVR_LAST | exact r_XCVR_EVT | apply writes_Act_xcvrEvent | apply Writes.get | apply Writes.when | intro _ | dsimp only)
  all_goals first | exact r_XCVR_LAST | exact r_XCVR_EVT

theorem writes_xcvrThermal {d u : Nat} {P : Nat → Prop} (r_XCVR_LAST : P (XCVR.LAST d)) (r_XCVR_EVT : P (XCVR.EVT d)) : Writes (xcvrThermal d u) P := by
  unfold xcvrThermal
  try dsimp only
  repeat' (with_reducible first | exact r_XCVR_LAST | exact r_XCVR_EVT | apply writes_Act_modXcvr | apply writes_Act_xcvrEvent | apply Writes.seq | apply Writes.get | apply Writes.when | intro _ | dsimp only)
  all_goals first | exact r_XCVR_LAST | exact r_XCVR_EVT

theorem writes_xcvrThermalRelease {d u : Nat} {P : Nat → Prop} : Writes (xcvrThermalRelease d u) P := by
  unfold xcvrThermalRelease
  try dsimp only
  repeat' (with_reducible first | apply writes_Act_modXcvr | intro _ | dsimp only)

theorem writes_linSupHigh {d : Nat} {P : Nat → Prop} (r_XCVR_EVT : P (XCVR.EVT d)) : Writes (linSupHigh d) P := by
  unfold linSupHigh
  try dsimp only
  repeat' (with_reducible first | exact r_XCVR_EVT | apply writes_Act_setLinOver | apply writes_Act_event | apply Writes.seq | apply Writes.get | apply Writes.when | intro _ | dsimp only)
  all_goals first | exact r_XCVR_EVT

theorem writes_linSupOk {d : Nat} {P : Nat → Prop} : Writes (linSupOk d) P := by
  unfold linSupOk
  try dsimp only
  repeat' (with_reducible first | apply writes_Act_setLinOver | intro _ | dsimp only)

end Sys2Proof.Machine
end

