-- ==== Sys2Proof/Laws/Writes/Group6.lean ====
section
/-! SUPPORT. Which registers the operations of Wake, Pinhole, Loupe, Mem may write. -/

set_option linter.unusedTactic false
set_option linter.unreachableTactic false

namespace Sys2Proof.Machine

/-! ## Wake -/

theorem writes_Act_pnFacetSleeps {k gf : Nat} {P : Nat → Prop} (r_BLK_CTRL : P (BLK_CTRL (gf / 64) (32 + (gf % 64)))) (r_QMGR_EVT : P (QMGR.EVT (gf / 64))) (r_CAN_CNT : P (CAN.CNT (gf / 64) ((gf % 64) - 32) 11)) (r_DEV_CNT_LAST : ∀ x0, P (DEV.CNT_LAST x0)) (r_DEV_EVT : ∀ x0, P (DEV.EVT x0)) (r_ETH_EVT : P (ETH.EVT (gf / 64) (gf % 64))) (r_ETH_CNT : P (ETH.CNT (gf / 64) (gf % 64) 52)) (r_ETH_CNT_2 : P (ETH.CNT (gf / 64) (gf % 64) 9)) : Writes (Act.pnFacetSleeps k gf) P := by
  unfold Act.pnFacetSleeps
  try dsimp only
  repeat' (with_reducible first | exact r_BLK_CTRL | exact r_QMGR_EVT | exact r_CAN_CNT | exact r_DEV_CNT_LAST _ | exact r_DEV_EVT _ | exact r_ETH_EVT | exact r_ETH_CNT | exact r_ETH_CNT_2 | apply writes_Act_updDoze | apply writes_Act_canSleep | apply writes_Act_linkDown | apply writes_linGotosleep | apply Writes.setReg | apply Writes.upd | apply Writes.all_cons | apply Writes.all_nil | apply Writes.get | apply Writes.when | apply Writes.ite | intro _ | split | dsimp only)
  all_goals first | exact r_BLK_CTRL | exact r_QMGR_EVT | exact r_CAN_CNT | exact r_DEV_CNT_LAST _ | exact r_DEV_EVT _ | exact r_ETH_EVT | exact r_ETH_CNT | exact r_ETH_CNT_2

theorem writes_Act_pnEthOn {gf : Nat} {P : Nat → Prop} (r_BLK_CTRL : P (BLK_CTRL (gf / 64) (32 + gf % 64))) : Writes (Act.pnEthOn gf) P := by
  unfold Act.pnEthOn
  try dsimp only
  repeat' (with_reducible first | exact r_BLK_CTRL | apply writes_Act_updDoze | apply Writes.setReg | apply Writes.upd | apply Writes.seq | apply Writes.get | apply Writes.when | intro _ | dsimp only)
  all_goals first | exact r_BLK_CTRL

theorem writes_Act_pnLinRestart {gf : Nat} {P : Nat → Prop} : Writes (Act.pnLinRestart gf) P := by
  unfold Act.pnLinRestart
  try dsimp only
  repeat' (with_reducible first | apply writes_Act_updDoze | apply Writes.upd | apply Writes.get | intro _ | dsimp only)

theorem writes_Act_pnFacetWakes {gf : Nat} {pattern : Bool} {P : Nat → Prop} (r_BLK_CTRL : P (BLK_CTRL (gf / 64) (32 + gf % 64))) : Writes (Act.pnFacetWakes gf pattern) P := by
  unfold Act.pnFacetWakes
  try dsimp only
  repeat' (with_reducible first | exact r_BLK_CTRL | apply writes_Act_modLin | apply writes_Act_canWake | apply writes_Act_pnEthOn | apply writes_Act_pnLinRestart | apply Writes.seq | apply Writes.get | apply Writes.when | apply Writes.ite | intro _ | split | dsimp only)
  all_goals first | exact r_BLK_CTRL

theorem writes_Act_drvInvalid {d src : Nat} {P : Nat → Prop} (r_WKP_EVT : P (WKP.EVT d)) : Writes (Act.drvInvalid d src) P := by
  unfold Act.drvInvalid
  try dsimp only
  repeat' (with_reducible first | exact r_WKP_EVT | apply writes_Act_modDrv | apply writes_Act_event | apply Writes.seq | apply Writes.get | apply Writes.when | apply Writes.ite | intro _ | split | dsimp only)
  all_goals first | exact r_WKP_EVT

theorem writes_Act_dropAwait {d src : Nat} {P : Nat → Prop} : Writes (Act.dropAwait d src) P := by
  unfold Act.dropAwait
  try dsimp only
  repeat' (with_reducible first | apply writes_Act_modDrv | intro _ | dsimp only)

theorem writes_Act_judged {j : WakeJudge} {valid : Bool} {P : Nat → Prop} (r_WAKE_CAUSE : P (WAKE.CAUSE 0)) (r_WAKE_EVT : P (WAKE.EVT 0)) (r_WAKE_CNT : P (WAKE.CNT 0 5)) (r_DEV_CNT_LAST : ∀ x0, P (DEV.CNT_LAST x0)) (r_DEV_EVT : ∀ x0, P (DEV.EVT x0)) (r_WKP_EVT : ∀ x0, P (WKP.EVT x0)) : Writes (Act.judged j valid) P := by
  unfold Act.judged
  try dsimp only
  repeat' (with_reducible first | exact r_WAKE_CAUSE | exact r_WAKE_EVT | exact r_WAKE_CNT | exact r_DEV_CNT_LAST _ | exact r_DEV_EVT _ | exact r_WKP_EVT _ | apply writes_Act_setFld | apply writes_Act_updDoze | apply writes_Act_wakeEvent | apply writes_Act_wakeCount | apply writes_Act_drvInvalid | apply writes_Act_dropAwait | apply Writes.upd | apply Writes.all_cons | apply Writes.all_nil | apply Writes.seq | apply Writes.get | apply Writes.when | apply Writes.ite | intro _ | split | dsimp only)
  all_goals first | exact r_WAKE_CAUSE | exact r_WAKE_EVT | exact r_WAKE_CNT | exact r_DEV_CNT_LAST _ | exact r_DEV_EVT _ | exact r_WKP_EVT _

theorem writes_Act_judgeSettle  {P : Nat → Prop} (r_WAKE_CAUSE : P (WAKE.CAUSE 0)) (r_WAKE_EVT : P (WAKE.EVT 0)) (r_WAKE_CNT : P (WAKE.CNT 0 5)) (r_DEV_CNT_LAST : ∀ x0, P (DEV.CNT_LAST x0)) (r_DEV_EVT : ∀ x0, P (DEV.EVT x0)) (r_WKP_EVT : ∀ x0, P (WKP.EVT x0)) : Writes (Act.judgeSettle ) P := by
  unfold Act.judgeSettle
  try dsimp only
  repeat' (with_reducible first | exact r_WAKE_CAUSE | exact r_WAKE_EVT | exact r_WAKE_CNT | exact r_DEV_CNT_LAST _ | exact r_DEV_EVT _ | exact r_WKP_EVT _ | apply writes_Act_judged | apply Writes.get | apply Writes.each | intro _ | dsimp only)
  all_goals first | exact r_WAKE_CAUSE | exact r_WAKE_EVT | exact r_WAKE_CNT | exact r_DEV_CNT_LAST _ | exact r_DEV_EVT _ | exact r_WKP_EVT _

theorem writes_Act_judgeOpen {pn : Option Nat} {d src : Nat} {P : Nat → Prop} (r_WAKE_CAUSE : P (WAKE.CAUSE 0)) (r_WAKE_EVT : P (WAKE.EVT 0)) (r_WAKE_CNT : P (WAKE.CNT 0 5)) (r_DEV_CNT_LAST : ∀ x0, P (DEV.CNT_LAST x0)) (r_DEV_EVT : ∀ x0, P (DEV.EVT x0)) (r_WKP_EVT : ∀ x0, P (WKP.EVT x0)) : Writes (Act.judgeOpen pn d src) P := by
  unfold Act.judgeOpen
  try dsimp only
  repeat' (with_reducible first | exact r_WAKE_CAUSE | exact r_WAKE_EVT | exact r_WAKE_CNT | exact r_DEV_CNT_LAST _ | exact r_DEV_EVT _ | exact r_WKP_EVT _ | apply writes_Act_updDoze | apply writes_Act_judgeSettle | apply Writes.upd | apply Writes.seq | apply Writes.get | intro _ | dsimp only)
  all_goals first | exact r_WAKE_CAUSE | exact r_WAKE_EVT | exact r_WAKE_CNT | exact r_DEV_CNT_LAST _ | exact r_DEV_EVT _ | exact r_WKP_EVT _

theorem writes_Act_pnWakes {k : Nat} {c : Option PnCause} {P : Nat → Prop} (r_WAKE_EVT : P (WAKE.EVT 0)) (r_WAKE_CNT : P (WAKE.CNT 0 2)) (r_DEV_CNT_LAST : ∀ x0, P (DEV.CNT_LAST x0)) (r_DEV_EVT : ∀ x0, P (DEV.EVT x0)) (r_BLK_CTRL : ∀ x0 x1, P (BLK_CTRL x0 x1)) (r_WAKE_CAUSE : P (WAKE.CAUSE 0)) (r_WAKE_CNT_2 : P (WAKE.CNT 0 5)) (r_WKP_EVT : ∀ x0, P (WKP.EVT x0)) : Writes (Act.pnWakes k c) P := by
  unfold Act.pnWakes
  try dsimp only
  repeat' (with_reducible first | exact r_WAKE_EVT | exact r_WAKE_CNT | exact r_DEV_CNT_LAST _ | exact r_DEV_EVT _ | exact r_BLK_CTRL _ _ | exact r_WAKE_CAUSE | exact r_WAKE_CNT_2 | exact r_WKP_EVT _ | apply writes_Act_modPnet | apply writes_Act_updDoze | apply writes_Act_wakeEvent | apply writes_Act_wakeCount | apply writes_Act_pnFacetWakes | apply writes_Act_judgeOpen | apply Writes.upd | apply Writes.all_cons | apply Writes.all_nil | apply Writes.get | apply Writes.when | apply Writes.each | apply Writes.skip | apply Writes.ite | intro _ | split | dsimp only)
  all_goals first | exact r_WAKE_EVT | exact r_WAKE_CNT | exact r_DEV_CNT_LAST _ | exact r_DEV_EVT _ | exact r_BLK_CTRL _ _ | exact r_WAKE_CAUSE | exact r_WAKE_CNT_2 | exact r_WKP_EVT _

theorem writes_pnWake {k : Nat} {P : Nat → Prop} (r_WAKE_EVT : P (WAKE.EVT 0)) (r_WAKE_CNT : P (WAKE.CNT 0 2)) (r_DEV_CNT_LAST : ∀ x0, P (DEV.CNT_LAST x0)) (r_DEV_EVT : ∀ x0, P (DEV.EVT x0)) (r_BLK_CTRL : ∀ x0 x1, P (BLK_CTRL x0 x1)) (r_WAKE_CAUSE : P (WAKE.CAUSE 0)) (r_WAKE_CNT_2 : P (WAKE.CNT 0 5)) (r_WKP_EVT : ∀ x0, P (WKP.EVT x0)) : Writes (pnWake k) P := by
  unfold pnWake
  try dsimp only
  repeat' (with_reducible first | exact r_WAKE_EVT | exact r_WAKE_CNT | exact r_DEV_CNT_LAST _ | exact r_DEV_EVT _ | exact r_BLK_CTRL _ _ | exact r_WAKE_CAUSE | exact r_WAKE_CNT_2 | exact r_WKP_EVT _ | apply writes_Act_pnWakes | apply Writes.get | apply Writes.when | apply Writes.ite | intro _ | split | dsimp only)
  all_goals first | exact r_WAKE_EVT | exact r_WAKE_CNT | exact r_DEV_CNT_LAST _ | exact r_DEV_EVT _ | exact r_BLK_CTRL _ _ | exact r_WAKE_CAUSE | exact r_WAKE_CNT_2 | exact r_WKP_EVT _

theorem writes_pnSleep {k : Nat} {P : Nat → Prop} (r_WAKE_EVT : P (WAKE.EVT 0)) (r_WAKE_CNT : P (WAKE.CNT 0 3)) (r_DEV_CNT_LAST : ∀ x0, P (DEV.CNT_LAST x0)) (r_DEV_EVT : ∀ x0, P (DEV.EVT x0)) (r_BLK_CTRL : ∀ x0 x1, P (BLK_CTRL x0 x1)) (r_QMGR_EVT : ∀ x0, P (QMGR.EVT x0)) (r_CAN_CNT : ∀ x0 x1, P (CAN.CNT x0 x1 11)) (r_ETH_EVT : ∀ x0 x1, P (ETH.EVT x0 x1)) (r_ETH_CNT : ∀ x0 x1, P (ETH.CNT x0 x1 52)) (r_ETH_CNT_2 : ∀ x0 x1, P (ETH.CNT x0 x1 9)) : Writes (pnSleep k) P := by
  unfold pnSleep
  try dsimp only
  repeat' (with_reducible first | exact r_WAKE_EVT | exact r_WAKE_CNT | exact r_DEV_CNT_LAST _ | exact r_DEV_EVT _ | exact r_BLK_CTRL _ _ | exact r_QMGR_EVT _ | exact r_CAN_CNT _ _ | exact r_ETH_EVT _ _ | exact r_ETH_CNT _ _ | exact r_ETH_CNT_2 _ _ | apply writes_Act_modPnet | apply writes_Act_updDoze | apply writes_Act_wakeEvent | apply writes_Act_wakeCount | apply writes_Act_pnFacetSleeps | apply Writes.upd | apply Writes.all_cons | apply Writes.all_nil | apply Writes.get | apply Writes.when | apply Writes.each | intro _ | dsimp only)
  all_goals first | exact r_WAKE_EVT | exact r_WAKE_CNT | exact r_DEV_CNT_LAST _ | exact r_DEV_EVT _ | exact r_BLK_CTRL _ _ | exact r_QMGR_EVT _ | exact r_CAN_CNT _ _ | exact r_ETH_EVT _ _ | exact r_ETH_CNT _ _ | exact r_ETH_CNT_2 _ _

theorem writes_Act_pnHeard {k gf : Nat} {P : Nat → Prop} (r_WAKE_PN_STAT : P (WAKE.PN_STAT 0 k)) (r_WAKE_CNT : P (WAKE.CNT 0 8)) (r_DEV_CNT_LAST : ∀ x0, P (DEV.CNT_LAST x0)) (r_DEV_EVT : ∀ x0, P (DEV.EVT x0)) (r_WAKE_CAUSE : P (WAKE.CAUSE 0)) (r_WAKE_EVT : P (WAKE.EVT 0)) (r_WAKE_CNT_2 : P (WAKE.CNT 0 5)) (r_WKP_EVT : ∀ x0, P (WKP.EVT x0)) : Writes (Act.pnHeard k gf) P := by
  unfold Act.pnHeard
  try dsimp only
  repeat' (with_reducible first | exact r_WAKE_PN_STAT | exact r_WAKE_CNT | exact r_DEV_CNT_LAST _ | exact r_DEV_EVT _ | exact r_WAKE_CAUSE | exact r_WAKE_EVT | exact r_WAKE_CNT_2 | exact r_WKP_EVT _ | apply writes_Act_modPnet | apply writes_Act_setFld | apply writes_Act_wakeCount | apply writes_Act_judged | apply Writes.all_cons | apply Writes.all_nil | apply Writes.get | apply Writes.each | apply Writes.ite | intro _ | split | dsimp only)
  all_goals first | exact r_WAKE_PN_STAT | exact r_WAKE_CNT | exact r_DEV_CNT_LAST _ | exact r_DEV_EVT _ | exact r_WAKE_CAUSE | exact r_WAKE_EVT | exact r_WAKE_CNT_2 | exact r_WKP_EVT _

theorem writes_Act_pnSeen {gf m : Nat} {P : Nat → Prop} (r_WAKE_PN_STAT : ∀ x0, P (WAKE.PN_STAT 0 x0)) (r_WAKE_CNT : P (WAKE.CNT 0 8)) (r_DEV_CNT_LAST : ∀ x0, P (DEV.CNT_LAST x0)) (r_DEV_EVT : ∀ x0, P (DEV.EVT x0)) (r_WAKE_CAUSE : P (WAKE.CAUSE 0)) (r_WAKE_EVT : P (WAKE.EVT 0)) (r_WAKE_CNT_2 : P (WAKE.CNT 0 5)) (r_WKP_EVT : ∀ x0, P (WKP.EVT x0)) : Writes (Act.pnSeen gf m) P := by
  unfold Act.pnSeen
  try dsimp only
  repeat' (with_reducible first | exact r_WAKE_PN_STAT _ | exact r_WAKE_CNT | exact r_DEV_CNT_LAST _ | exact r_DEV_EVT _ | exact r_WAKE_CAUSE | exact r_WAKE_EVT | exact r_WAKE_CNT_2 | exact r_WKP_EVT _ | apply writes_Act_pnHeard | apply Writes.get | apply Writes.when | apply Writes.opt | intro _ | dsimp only)
  all_goals first | exact r_WAKE_PN_STAT _ | exact r_WAKE_CNT | exact r_DEV_CNT_LAST _ | exact r_DEV_EVT _ | exact r_WAKE_CAUSE | exact r_WAKE_EVT | exact r_WAKE_CNT_2 | exact r_WKP_EVT _

theorem writes_keepalivePnSeen {gf m : Nat} {P : Nat → Prop} (r_WAKE_PN_STAT : ∀ x0, P (WAKE.PN_STAT 0 x0)) (r_WAKE_CNT : P (WAKE.CNT 0 8)) (r_DEV_CNT_LAST : ∀ x0, P (DEV.CNT_LAST x0)) (r_DEV_EVT : ∀ x0, P (DEV.EVT x0)) (r_WAKE_CAUSE : P (WAKE.CAUSE 0)) (r_WAKE_EVT : P (WAKE.EVT 0)) (r_WAKE_CNT_2 : P (WAKE.CNT 0 5)) (r_WKP_EVT : ∀ x0, P (WKP.EVT x0)) : Writes (keepalivePnSeen gf m) P := by
  unfold keepalivePnSeen
  try dsimp only
  repeat' (with_reducible first | exact r_WAKE_PN_STAT _ | exact r_WAKE_CNT | exact r_DEV_CNT_LAST _ | exact r_DEV_EVT _ | exact r_WAKE_CAUSE | exact r_WAKE_EVT | exact r_WAKE_CNT_2 | exact r_WKP_EVT _ | apply writes_Act_pnSeen | intro _ | dsimp only)
  all_goals first | exact r_WAKE_PN_STAT _ | exact r_WAKE_CNT | exact r_DEV_CNT_LAST _ | exact r_DEV_EVT _ | exact r_WAKE_CAUSE | exact r_WAKE_EVT | exact r_WAKE_CNT_2 | exact r_WKP_EVT _

theorem writes_Act_pnForeign {p c : Nat} {b : List Byte} {P : Nat → Prop} (r_WAKE_PN_STAT : ∀ x0, P (WAKE.PN_STAT 0 x0)) (r_WAKE_CNT : P (WAKE.CNT 0 8)) (r_DEV_CNT_LAST : ∀ x0, P (DEV.CNT_LAST x0)) (r_DEV_EVT : ∀ x0, P (DEV.EVT x0)) (r_WAKE_CAUSE : P (WAKE.CAUSE 0)) (r_WAKE_EVT : P (WAKE.EVT 0)) (r_WAKE_CNT_2 : P (WAKE.CNT 0 5)) (r_WKP_EVT : ∀ x0, P (WKP.EVT x0)) : Writes (Act.pnForeign p c b) P := by
  unfold Act.pnForeign
  try dsimp only
  repeat' (with_reducible first | exact r_WAKE_PN_STAT _ | exact r_WAKE_CNT | exact r_DEV_CNT_LAST _ | exact r_DEV_EVT _ | exact r_WAKE_CAUSE | exact r_WAKE_EVT | exact r_WAKE_CNT_2 | exact r_WKP_EVT _ | apply writes_Act_pnHeard | apply Writes.get | apply Writes.when | apply Writes.opt | intro _ | dsimp only)
  all_goals first | exact r_WAKE_PN_STAT _ | exact r_WAKE_CNT | exact r_DEV_CNT_LAST _ | exact r_DEV_EVT _ | exact r_WAKE_CAUSE | exact r_WAKE_EVT | exact r_WAKE_CNT_2 | exact r_WKP_EVT _

theorem writes_Act_kaSend {gf : Nat} {pn : Bool} {P : Nat → Prop} (r_PLX_CNT : P (PLX.CNT 0 0)) (r_DEV_CNT_LAST : ∀ x0, P (DEV.CNT_LAST x0)) (r_DEV_EVT : ∀ x0, P (DEV.EVT x0)) (r_KEYS_SLOT : ∀ x0, P (KEYS.SLOT 0 x0)) (r_KEYS_LAST : P (KEYS.LAST 0)) (r_KEYS_EVT : P (KEYS.EVT 0)) (r_KEYS_CNT : P (KEYS.CNT 0 6)) (r_WAKE_CNT : P (WAKE.CNT 0 7)) : Writes (Act.kaSend gf pn) P := by
  unfold Act.kaSend
  try dsimp only
  repeat' (with_reducible first | exact r_PLX_CNT | exact r_DEV_CNT_LAST _ | exact r_DEV_EVT _ | exact r_KEYS_SLOT _ | exact r_KEYS_LAST | exact r_KEYS_EVT | exact r_KEYS_CNT | exact r_WAKE_CNT | apply writes_Act_engineOut | apply writes_Act_plxCount | apply writes_Act_ezMake | apply writes_Act_ezPost | apply writes_Act_wakeCount | apply Writes.all_cons | apply Writes.all_nil | apply Writes.seq | apply Writes.get | apply Writes.when | apply Writes.opt | apply Writes.ite | intro _ | split | dsimp only)
  all_goals first | exact r_PLX_CNT | exact r_DEV_CNT_LAST _ | exact r_DEV_EVT _ | exact r_KEYS_SLOT _ | exact r_KEYS_LAST | exact r_KEYS_EVT | exact r_KEYS_CNT | exact r_WAKE_CNT

theorem writes_keepalivePnSend {k : Nat} {P : Nat → Prop} (r_PLX_CNT : P (PLX.CNT 0 0)) (r_DEV_CNT_LAST : ∀ x0, P (DEV.CNT_LAST x0)) (r_DEV_EVT : ∀ x0, P (DEV.EVT x0)) (r_KEYS_SLOT : ∀ x0, P (KEYS.SLOT 0 x0)) (r_KEYS_LAST : P (KEYS.LAST 0)) (r_KEYS_EVT : P (KEYS.EVT 0)) (r_KEYS_CNT : P (KEYS.CNT 0 6)) (r_WAKE_CNT : P (WAKE.CNT 0 7)) : Writes (keepalivePnSend k) P := by
  unfold keepalivePnSend
  try dsimp only
  repeat' (with_reducible first | exact r_PLX_CNT | exact r_DEV_CNT_LAST _ | exact r_DEV_EVT _ | exact r_KEYS_SLOT _ | exact r_KEYS_LAST | exact r_KEYS_EVT | exact r_KEYS_CNT | exact r_WAKE_CNT | apply writes_Act_modPnet | apply writes_Act_kaSend | apply Writes.seq | apply Writes.get | apply Writes.when | apply Writes.each | intro _ | dsimp only)
  all_goals first | exact r_PLX_CNT | exact r_DEV_CNT_LAST _ | exact r_DEV_EVT _ | exact r_KEYS_SLOT _ | exact r_KEYS_LAST | exact r_KEYS_EVT | exact r_KEYS_CNT | exact r_WAKE_CNT

theorem writes_wakePatternSlot  {P : Nat → Prop} (r_BLK_CTRL : ∀ x0 x1, P (BLK_CTRL x0 x1)) (r_PLX_CNT : P (PLX.CNT 0 0)) (r_DEV_CNT_LAST : ∀ x0, P (DEV.CNT_LAST x0)) (r_DEV_EVT : ∀ x0, P (DEV.EVT x0)) (r_KEYS_SLOT : ∀ x0, P (KEYS.SLOT 0 x0)) (r_KEYS_LAST : P (KEYS.LAST 0)) (r_KEYS_EVT : P (KEYS.EVT 0)) (r_KEYS_CNT : P (KEYS.CNT 0 6)) (r_WAKE_CNT : P (WAKE.CNT 0 7)) : Writes (wakePatternSlot ) P := by
  unfold wakePatternSlot
  try dsimp only
  repeat' (with_reducible first | exact r_BLK_CTRL _ _ | exact r_PLX_CNT | exact r_DEV_CNT_LAST _ | exact r_DEV_EVT _ | exact r_KEYS_SLOT _ | exact r_KEYS_LAST | exact r_KEYS_EVT | exact r_KEYS_CNT | exact r_WAKE_CNT | apply writes_Act_emit | apply writes_Act_updDoze | apply writes_Act_pnEthOn | apply writes_Act_pnLinRestart | apply writes_Act_kaSend | apply Writes.upd | apply Writes.seq | apply Writes.get | apply Writes.when | apply Writes.skip | apply Writes.ite | intro _ | split | dsimp only)
  all_goals first | exact r_BLK_CTRL _ _ | exact r_PLX_CNT | exact r_DEV_CNT_LAST _ | exact r_DEV_EVT _ | exact r_KEYS_SLOT _ | exact r_KEYS_LAST | exact r_KEYS_EVT | exact r_KEYS_CNT | exact r_WAKE_CNT

theorem writes_linWakeScheduleRestart {p c : Nat} {P : Nat → Prop} : Writes (linWakeScheduleRestart p c) P := by
  unfold linWakeScheduleRestart
  try dsimp only
  repeat' (with_reducible first | apply writes_Act_modLin | apply writes_Act_updDoze | apply Writes.upd | apply Writes.seq | apply Writes.get | apply Writes.when | apply Writes.ite | intro _ | split | dsimp only)

theorem writes_Act_updRing {f : Ring → Ring} {P : Nat → Prop} : Writes (Act.updRing f) P := by
  unfold Act.updRing
  try dsimp only
  repeat' (with_reducible first | apply writes_Act_updDoze | apply Writes.upd | intro _ | dsimp only)

theorem writes_Act_ringStart {ph : Phase} {P : Nat → Prop} : Writes (Act.ringStart ph) P := by
  unfold Act.ringStart
  try dsimp only
  repeat' (with_reducible first | apply writes_Act_updRing | apply Writes.upd | apply Writes.get | intro _ | dsimp only)

theorem writes_tokenOriginate  {P : Nat → Prop} : Writes (tokenOriginate ) P := by
  unfold tokenOriginate
  try dsimp only
  repeat' (with_reducible first | apply writes_Act_ringStart | apply Writes.get | apply Writes.when | intro _ | dsimp only)

theorem writes_tokenLost  {P : Nat → Prop} (r_WAKE_EVT : P (WAKE.EVT 0)) (r_WAKE_CNT : P (WAKE.CNT 0 6)) (r_DEV_CNT_LAST : ∀ x0, P (DEV.CNT_LAST x0)) (r_DEV_EVT : ∀ x0, P (DEV.EVT x0)) : Writes (tokenLost ) P := by
  unfold tokenLost
  try dsimp only
  repeat' (with_reducible first | exact r_WAKE_EVT | exact r_WAKE_CNT | exact r_DEV_CNT_LAST _ | exact r_DEV_EVT _ | apply writes_Act_wakeEvent | apply writes_Act_wakeCount | apply writes_Act_ringStart | apply Writes.all_cons | apply Writes.all_nil | apply Writes.get | apply Writes.when | apply Writes.ite | intro _ | split | dsimp only)
  all_goals first | exact r_WAKE_EVT | exact r_WAKE_CNT | exact r_DEV_CNT_LAST _ | exact r_DEV_EVT _

theorem writes_Act_sleepNotice  {P : Nat → Prop} (r_WAKE_EVT : P (WAKE.EVT 0)) : Writes (Act.sleepNotice ) P := by
  unfold Act.sleepNotice
  try dsimp only
  repeat' (with_reducible first | exact r_WAKE_EVT | apply writes_Act_irq | apply writes_Act_wakeEvent | apply Writes.seq | apply Writes.get | apply Writes.each | intro _ | dsimp only)
  all_goals first | exact r_WAKE_EVT

theorem writes_Act_ringAborted  {P : Nat → Prop} (r_WAKE_EVT : P (WAKE.EVT 0)) (r_WAKE_CNT : P (WAKE.CNT 0 4)) (r_DEV_CNT_LAST : ∀ x0, P (DEV.CNT_LAST x0)) (r_DEV_EVT : ∀ x0, P (DEV.EVT x0)) : Writes (Act.ringAborted ) P := by
  unfold Act.ringAborted
  try dsimp only
  repeat' (with_reducible first | exact r_WAKE_EVT | exact r_WAKE_CNT | exact r_DEV_CNT_LAST _ | exact r_DEV_EVT _ | apply writes_Act_wakeEvent | apply writes_Act_wakeCount | apply writes_Act_updRing | apply Writes.upd | apply Writes.all_cons | apply Writes.all_nil | intro _ | dsimp only)
  all_goals first | exact r_WAKE_EVT | exact r_WAKE_CNT | exact r_DEV_CNT_LAST _ | exact r_DEV_EVT _

theorem writes_Act_ringLead {t : Token} {P : Nat → Prop} (r_WAKE_EVT : P (WAKE.EVT 0)) (r_WAKE_CNT : P (WAKE.CNT 0 4)) (r_DEV_CNT_LAST : ∀ x0, P (DEV.CNT_LAST x0)) (r_DEV_EVT : ∀ x0, P (DEV.EVT x0)) : Writes (Act.ringLead t) P := by
  unfold Act.ringLead
  try dsimp only
  repeat' (with_reducible first | exact r_WAKE_EVT | exact r_WAKE_CNT | exact r_DEV_CNT_LAST _ | exact r_DEV_EVT _ | apply writes_Act_updRing | apply writes_Act_sleepNotice | apply writes_Act_ringAborted | apply Writes.upd | apply Writes.all_cons | apply Writes.all_nil | apply Writes.get | apply Writes.when | apply Writes.ite | intro _ | split | dsimp only)
  all_goals first | exact r_WAKE_EVT | exact r_WAKE_CNT | exact r_DEV_CNT_LAST _ | exact r_DEV_EVT _

theorem writes_Act_pairLast {body : List Byte} {P : Nat → Prop} (r_KEYS_SLOT : ∀ x0, P (KEYS.SLOT 0 x0)) (r_KEYS_LAST : P (KEYS.LAST 0)) (r_KEYS_EVT : P (KEYS.EVT 0)) (r_KEYS_CNT : P (KEYS.CNT 0 6)) (r_DEV_CNT_LAST : ∀ x0, P (DEV.CNT_LAST x0)) (r_DEV_EVT : ∀ x0, P (DEV.EVT x0)) : Writes (Act.pairLast body) P := by
  unfold Act.pairLast
  try dsimp only
  repeat' (with_reducible first | exact r_KEYS_SLOT _ | exact r_KEYS_LAST | exact r_KEYS_EVT | exact r_KEYS_CNT | exact r_DEV_CNT_LAST _ | exact r_DEV_EVT _ | apply writes_Act_emit | apply writes_Act_ezMake | apply Writes.get | apply Writes.opt | intro _ | dsimp only)
  all_goals first | exact r_KEYS_SLOT _ | exact r_KEYS_LAST | exact r_KEYS_EVT | exact r_KEYS_CNT | exact r_DEV_CNT_LAST _ | exact r_DEV_EVT _

theorem writes_Act_ringLeave {t : Token} {P : Nat → Prop} (r_KEYS_SLOT : ∀ x0, P (KEYS.SLOT 0 x0)) (r_KEYS_LAST : P (KEYS.LAST 0)) (r_KEYS_EVT : P (KEYS.EVT 0)) (r_KEYS_CNT : P (KEYS.CNT 0 6)) (r_DEV_CNT_LAST : ∀ x0, P (DEV.CNT_LAST x0)) (r_DEV_EVT : ∀ x0, P (DEV.EVT x0)) (r_WAKE_EVT : P (WAKE.EVT 0)) (r_WAKE_CNT : P (WAKE.CNT 0 4)) : Writes (Act.ringLeave t) P := by
  unfold Act.ringLeave
  try dsimp only
  repeat' (with_reducible first | exact r_KEYS_SLOT _ | exact r_KEYS_LAST | exact r_KEYS_EVT | exact r_KEYS_CNT | exact r_DEV_CNT_LAST _ | exact r_DEV_EVT _ | exact r_WAKE_EVT | exact r_WAKE_CNT | apply writes_Act_pairTell | apply writes_Act_updRing | apply writes_Act_ringAborted | apply writes_Act_pairLast | apply Writes.upd | apply Writes.seq | apply Writes.get | apply Writes.when | apply Writes.ite | intro _ | split | dsimp only)
  all_goals first | exact r_KEYS_SLOT _ | exact r_KEYS_LAST | exact r_KEYS_EVT | exact r_KEYS_CNT | exact r_DEV_CNT_LAST _ | exact r_DEV_EVT _ | exact r_WAKE_EVT | exact r_WAKE_CNT

theorem writes_Act_ringStep {t : Token} {P : Nat → Prop} (r_WAKE_EVT : P (WAKE.EVT 0)) (r_WAKE_CNT : P (WAKE.CNT 0 4)) (r_DEV_CNT_LAST : ∀ x0, P (DEV.CNT_LAST x0)) (r_DEV_EVT : ∀ x0, P (DEV.EVT x0)) (r_KEYS_SLOT : ∀ x0, P (KEYS.SLOT 0 x0)) (r_KEYS_LAST : P (KEYS.LAST 0)) (r_KEYS_EVT : P (KEYS.EVT 0)) (r_KEYS_CNT : P (KEYS.CNT 0 6)) : Writes (Act.ringStep t) P := by
  unfold Act.ringStep
  try dsimp only
  repeat' (with_reducible first | exact r_WAKE_EVT | exact r_WAKE_CNT | exact r_DEV_CNT_LAST _ | exact r_DEV_EVT _ | exact r_KEYS_SLOT _ | exact r_KEYS_LAST | exact r_KEYS_EVT | exact r_KEYS_CNT | apply writes_Act_updRing | apply writes_Act_ringLead | apply writes_Act_ringLeave | apply Writes.upd | apply Writes.seq | apply Writes.get | apply Writes.when | apply Writes.opt | apply Writes.ite | intro _ | split | dsimp only)
  all_goals first | exact r_WAKE_EVT | exact r_WAKE_CNT | exact r_DEV_CNT_LAST _ | exact r_DEV_EVT _ | exact r_KEYS_SLOT _ | exact r_KEYS_LAST | exact r_KEYS_EVT | exact r_KEYS_CNT

theorem writes_tokenPass  {P : Nat → Prop} (r_PLX_CNT : P (PLX.CNT 0 10)) (r_DEV_CNT_LAST : ∀ x0, P (DEV.CNT_LAST x0)) (r_DEV_EVT : ∀ x0, P (DEV.EVT x0)) (r_PLX_LAST : P (PLX.LAST 0)) (r_PLX_EVT : P (PLX.EVT 0)) (r_KEYS_SLOT : ∀ x0, P (KEYS.SLOT 0 x0)) (r_KEYS_LAST : P (KEYS.LAST 0)) (r_KEYS_EVT : P (KEYS.EVT 0)) (r_KEYS_CNT : P (KEYS.CNT 0 6)) (r_PLX_CNT_2 : P (PLX.CNT 0 12)) (r_PLX_CNT_3 : P (PLX.CNT 0 5)) (r_PLX_CNT_4 : P (PLX.CNT 0 3)) (r_PLX_CNT_5 : P (PLX.CNT 0 4)) (r_PLX_CNT_6 : P (PLX.CNT 0 2)) (r_WAKE_EVT : P (WAKE.EVT 0)) (r_WAKE_CNT : P (WAKE.CNT 0 4)) : Writes (tokenPass ) P := by
  unfold tokenPass
  try dsimp only
  repeat' (with_reducible first | exact r_PLX_CNT | exact r_DEV_CNT_LAST _ | exact r_DEV_EVT _ | exact r_PLX_LAST | exact r_PLX_EVT | exact r_KEYS_SLOT _ | exact r_KEYS_LAST | exact r_KEYS_EVT | exact r_KEYS_CNT | exact r_PLX_CNT_2 | exact r_PLX_CNT_3 | exact r_PLX_CNT_4 | exact r_PLX_CNT_5 | exact r_PLX_CNT_6 | exact r_WAKE_EVT | exact r_WAKE_CNT | apply writes_Act_pairMsg | apply writes_Act_updRing | apply writes_Act_ringStep | apply Writes.upd | apply Writes.seq | apply Writes.get | apply Writes.when | intro _ | split | dsimp only)
  all_goals first | exact r_PLX_CNT | exact r_DEV_CNT_LAST _ | exact r_DEV_EVT _ | exact r_PLX_LAST | exact r_PLX_EVT | exact r_KEYS_SLOT _ | exact r_KEYS_LAST | exact r_KEYS_EVT | exact r_KEYS_CNT | exact r_PLX_CNT_2 | exact r_PLX_CNT_3 | exact r_PLX_CNT_4 | exact r_PLX_CNT_5 | exact r_PLX_CNT_6 | exact r_WAKE_EVT | exact r_WAKE_CNT

theorem writes_Act_ringBack {t : Token} {P : Nat → Prop} (r_WAKE_EVT : P (WAKE.EVT 0)) (r_WAKE_CNT : P (WAKE.CNT 0 4)) (r_DEV_CNT_LAST : ∀ x0, P (DEV.CNT_LAST x0)) (r_DEV_EVT : ∀ x0, P (DEV.EVT x0)) : Writes (Act.ringBack t) P := by
  unfold Act.ringBack
  try dsimp only
  repeat' (with_reducible first | exact r_WAKE_EVT | exact r_WAKE_CNT | exact r_DEV_CNT_LAST _ | exact r_DEV_EVT _ | apply writes_Act_updRing | apply writes_Act_ringStart | apply writes_Act_ringAborted | apply Writes.upd | apply Writes.seq | apply Writes.get | apply Writes.when | apply Writes.skip | apply Writes.ite | intro _ | split | dsimp only)
  all_goals first | exact r_WAKE_EVT | exact r_WAKE_CNT | exact r_DEV_CNT_LAST _ | exact r_DEV_EVT _

theorem writes_tokenReturn  {P : Nat → Prop} (r_PLX_CNT : P (PLX.CNT 0 10)) (r_DEV_CNT_LAST : ∀ x0, P (DEV.CNT_LAST x0)) (r_DEV_EVT : ∀ x0, P (DEV.EVT x0)) (r_PLX_LAST : P (PLX.LAST 0)) (r_PLX_EVT : P (PLX.EVT 0)) (r_KEYS_SLOT : ∀ x0, P (KEYS.SLOT 0 x0)) (r_KEYS_LAST : P (KEYS.LAST 0)) (r_KEYS_EVT : P (KEYS.EVT 0)) (r_KEYS_CNT : P (KEYS.CNT 0 6)) (r_PLX_CNT_2 : P (PLX.CNT 0 12)) (r_PLX_CNT_3 : P (PLX.CNT 0 5)) (r_PLX_CNT_4 : P (PLX.CNT 0 3)) (r_PLX_CNT_5 : P (PLX.CNT 0 4)) (r_PLX_CNT_6 : P (PLX.CNT 0 2)) (r_WAKE_EVT : P (WAKE.EVT 0)) (r_WAKE_CNT : P (WAKE.CNT 0 4)) : Writes (tokenReturn ) P := by
  unfold tokenReturn
  try dsimp only
  repeat' (with_reducible first | exact r_PLX_CNT | exact r_DEV_CNT_LAST _ | exact r_DEV_EVT _ | exact r_PLX_LAST | exact r_PLX_EVT | exact r_KEYS_SLOT _ | exact r_KEYS_LAST | exact r_KEYS_EVT | exact r_KEYS_CNT | exact r_PLX_CNT_2 | exact r_PLX_CNT_3 | exact r_PLX_CNT_4 | exact r_PLX_CNT_5 | exact r_PLX_CNT_6 | exact r_WAKE_EVT | exact r_WAKE_CNT | apply writes_Act_pairMsg | apply writes_Act_ringBack | apply Writes.get | apply Writes.when | intro _ | split | dsimp only)
  all_goals first | exact r_PLX_CNT | exact r_DEV_CNT_LAST _ | exact r_DEV_EVT _ | exact r_PLX_LAST | exact r_PLX_EVT | exact r_KEYS_SLOT _ | exact r_KEYS_LAST | exact r_KEYS_EVT | exact r_KEYS_CNT | exact r_PLX_CNT_2 | exact r_PLX_CNT_3 | exact r_PLX_CNT_4 | exact r_PLX_CNT_5 | exact r_PLX_CNT_6 | exact r_WAKE_EVT | exact r_WAKE_CNT

theorem writes_noticeEnd  {P : Nat → Prop} : Writes (noticeEnd ) P := by
  unfold noticeEnd
  try dsimp only
  repeat' (with_reducible first | apply writes_Act_ringStart | apply Writes.get | apply Writes.when | intro _ | dsimp only)

theorem writes_Act_prismSleeps {p : Nat} {P : Nat → Prop} (r_BLK_CTRL : ∀ x0, P (BLK_CTRL p x0)) (r_QMGR_EVT : P (QMGR.EVT p)) (r_CAN_CNT : ∀ x0, P (CAN.CNT p x0 11)) (r_DEV_CNT_LAST : ∀ x0, P (DEV.CNT_LAST x0)) (r_DEV_EVT : ∀ x0, P (DEV.EVT x0)) (r_ETH_EVT : ∀ x0, P (ETH.EVT p x0)) (r_ETH_CNT : ∀ x0, P (ETH.CNT p x0 52)) (r_ETH_CNT_2 : ∀ x0, P (ETH.CNT p x0 9)) : Writes (Act.prismSleeps p) P := by
  unfold Act.prismSleeps
  try dsimp only
  repeat' (with_reducible first | exact r_BLK_CTRL _ | exact r_QMGR_EVT | exact r_CAN_CNT _ | exact r_DEV_CNT_LAST _ | exact r_DEV_EVT _ | exact r_ETH_EVT _ | exact r_ETH_CNT _ | exact r_ETH_CNT_2 _ | apply writes_Act_setWpost | apply writes_Act_canOff | apply writes_Act_linkDown | apply writes_Act_linOff | apply Writes.setReg | apply Writes.all_cons | apply Writes.all_nil | apply Writes.seq | apply Writes.get | apply Writes.each | intro _ | dsimp only)
  all_goals first | exact r_BLK_CTRL _ | exact r_QMGR_EVT | exact r_CAN_CNT _ | exact r_DEV_CNT_LAST _ | exact r_DEV_EVT _ | exact r_ETH_EVT _ | exact r_ETH_CNT _ | exact r_ETH_CNT_2 _

theorem writes_Act_driveSleeps {d : Nat} {P : Nat → Prop} (r_WKP_CAUSE : P (WKP.CAUSE d)) : Writes (Act.driveSleeps d) P := by
  unfold Act.driveSleeps
  try dsimp only
  repeat' (with_reducible first | exact r_WKP_CAUSE | apply writes_Act_modXcvr | apply writes_Act_modDrv | apply writes_Act_setSup | apply Writes.setReg | apply Writes.all_cons | apply Writes.all_nil | apply Writes.get | apply Writes.when | apply Writes.each | intro _ | dsimp only)
  all_goals first | exact r_WKP_CAUSE

theorem writes_sleepEntry  {P : Nat → Prop} (r_WAKE_CNT : P (WAKE.CNT 0 0)) (r_DEV_CNT_LAST : ∀ x0, P (DEV.CNT_LAST x0)) (r_DEV_EVT : ∀ x0, P (DEV.EVT x0)) (r_WAKE_EVT : P (WAKE.EVT 0)) (r_WAKE_CNT_2 : P (WAKE.CNT 0 4)) (r_KEYS_SLOT : ∀ x0, P (KEYS.SLOT 0 x0)) (r_KEYS_LAST : P (KEYS.LAST 0)) (r_KEYS_EVT : P (KEYS.EVT 0)) (r_KEYS_CNT : P (KEYS.CNT 0 6)) (r_BLK_CTRL : ∀ x0 x1, P (BLK_CTRL x0 x1)) (r_QMGR_EVT : ∀ x0, P (QMGR.EVT x0)) (r_CAN_CNT : ∀ x0 x1, P (CAN.CNT x0 x1 11)) (r_ETH_EVT : ∀ x0 x1, P (ETH.EVT x0 x1)) (r_ETH_CNT : ∀ x0 x1, P (ETH.CNT x0 x1 52)) (r_ETH_CNT_2 : ∀ x0 x1, P (ETH.CNT x0 x1 9)) (r_WKP_CAUSE : ∀ x0, P (WKP.CAUSE x0)) : Writes (sleepEntry ) P := by
  unfold sleepEntry
  try dsimp only
  repeat' (with_reducible first | exact r_WAKE_CNT | exact r_DEV_CNT_LAST _ | exact r_DEV_EVT _ | exact r_WAKE_EVT | exact r_WAKE_CNT_2 | exact r_KEYS_SLOT _ | exact r_KEYS_LAST | exact r_KEYS_EVT | exact r_KEYS_CNT | exact r_BLK_CTRL _ _ | exact r_QMGR_EVT _ | exact r_CAN_CNT _ _ | exact r_ETH_EVT _ _ | exact r_ETH_CNT _ _ | exact r_ETH_CNT_2 _ _ | exact r_WKP_CAUSE _ | apply writes_Act_wakeCount | apply writes_Act_updIo | apply writes_Act_updRing | apply writes_Act_ringLead | apply writes_Act_ringLeave | apply writes_Act_prismSleeps | apply writes_Act_driveSleeps | apply Writes.upd | apply Writes.all_cons | apply Writes.all_nil | apply Writes.seq | apply Writes.get | apply Writes.when | apply Writes.opt | apply Writes.ite | intro _ | split | dsimp only)
  all_goals first | exact r_WAKE_CNT | exact r_DEV_CNT_LAST _ | exact r_DEV_EVT _ | exact r_WAKE_EVT | exact r_WAKE_CNT_2 | exact r_KEYS_SLOT _ | exact r_KEYS_LAST | exact r_KEYS_EVT | exact r_KEYS_CNT | exact r_BLK_CTRL _ _ | exact r_QMGR_EVT _ | exact r_CAN_CNT _ _ | exact r_ETH_EVT _ _ | exact r_ETH_CNT _ _ | exact r_ETH_CNT_2 _ _ | exact r_WKP_CAUSE _

theorem writes_Act_wakeLatch {d src : Nat} {P : Nat → Prop} (r_WKP_CAUSE : ∀ x0, P (WKP.CAUSE x0)) (r_WKP_EVT : P (WKP.EVT d)) : Writes (Act.wakeLatch d src) P := by
  unfold Act.wakeLatch
  try dsimp only
  repeat' (with_reducible first | exact r_WKP_CAUSE _ | exact r_WKP_EVT | apply writes_Act_modDrv | apply writes_Act_event | apply writes_Act_updIo | apply Writes.setReg | apply Writes.upd | apply Writes.all_cons | apply Writes.all_nil | apply Writes.get | apply Writes.when | apply Writes.ite | intro _ | split | dsimp only)
  all_goals first | exact r_WKP_CAUSE _ | exact r_WKP_EVT

theorem writes_wakeSource {d src : Nat} {on : Bool} {P : Nat → Prop} (r_WKP_CAUSE : ∀ x0, P (WKP.CAUSE x0)) (r_WKP_EVT : P (WKP.EVT d)) : Writes (wakeSource d src on) P := by
  unfold wakeSource
  try dsimp only
  repeat' (with_reducible first | exact r_WKP_CAUSE _ | exact r_WKP_EVT | apply writes_Act_modDrv | apply writes_Act_wakeLatch | apply Writes.seq | apply Writes.get | apply Writes.when | intro _ | dsimp only)
  all_goals first | exact r_WKP_CAUSE _ | exact r_WKP_EVT

theorem writes_wakeTimer  {P : Nat → Prop} (r_WKP_CAUSE : ∀ x0, P (WKP.CAUSE x0)) (r_WKP_EVT : P (WKP.EVT 0)) : Writes (wakeTimer ) P := by
  unfold wakeTimer
  try dsimp only
  repeat' (with_reducible first | exact r_WKP_CAUSE _ | exact r_WKP_EVT | apply writes_Act_wakeLatch | apply Writes.get | apply Writes.when | intro _ | dsimp only)
  all_goals first | exact r_WKP_CAUSE _ | exact r_WKP_EVT

theorem writes_Act_xcvrWakes {d u : Nat} {P : Nat → Prop} (r_WKP_CAUSE : ∀ x0, P (WKP.CAUSE x0)) (r_WKP_EVT : P (WKP.EVT d)) : Writes (Act.xcvrWakes d u) P := by
  unfold Act.xcvrWakes
  try dsimp only
  repeat' (with_reducible first | exact r_WKP_CAUSE _ | exact r_WKP_EVT | apply writes_Act_modXcvr | apply writes_Act_pnDue | apply writes_Act_wakeLatch | apply Writes.all_cons | apply Writes.all_nil | apply Writes.get | apply Writes.when | apply Writes.opt | intro _ | dsimp only)
  all_goals first | exact r_WKP_CAUSE _ | exact r_WKP_EVT

theorem writes_xcvrWakeDetect {d u kind rate : Nat} {b : List Byte} {P : Nat → Prop} (r_WKP_CAUSE : ∀ x0, P (WKP.CAUSE x0)) (r_WKP_EVT : P (WKP.EVT d)) : Writes (xcvrWakeDetect d u kind rate b) P := by
  unfold xcvrWakeDetect
  try dsimp only
  repeat' (with_reducible first | exact r_WKP_CAUSE _ | exact r_WKP_EVT | apply writes_Act_modXcvr | apply writes_Act_xcvrWakes | apply Writes.get | apply Writes.when | apply Writes.skip | apply Writes.ite | intro _ | split | dsimp only)
  all_goals first | exact r_WKP_CAUSE _ | exact r_WKP_EVT

theorem writes_wakeFailsafe {d u : Nat} {P : Nat → Prop} (r_WAKE_CAUSE : P (WAKE.CAUSE 0)) (r_WAKE_EVT : P (WAKE.EVT 0)) (r_WAKE_CNT : P (WAKE.CNT 0 5)) (r_DEV_CNT_LAST : ∀ x0, P (DEV.CNT_LAST x0)) (r_DEV_EVT : ∀ x0, P (DEV.EVT x0)) (r_WKP_EVT : ∀ x0, P (WKP.EVT x0)) : Writes (wakeFailsafe d u) P := by
  unfold wakeFailsafe
  try dsimp only
  repeat' (with_reducible first | exact r_WAKE_CAUSE | exact r_WAKE_EVT | exact r_WAKE_CNT | exact r_DEV_CNT_LAST _ | exact r_DEV_EVT _ | exact r_WKP_EVT _ | apply writes_Act_modXcvr | apply writes_Act_event | apply writes_Act_drvInvalid | apply writes_Act_dropAwait | apply writes_Act_judged | apply Writes.all_cons | apply Writes.all_nil | apply Writes.get | apply Writes.when | apply Writes.each | intro _ | dsimp only)
  all_goals first | exact r_WAKE_CAUSE | exact r_WAKE_EVT | exact r_WAKE_CNT | exact r_DEV_CNT_LAST _ | exact r_DEV_EVT _ | exact r_WKP_EVT _

theorem writes_wakeConfirm  {P : Nat → Prop} (r_WAKE_CAUSE : P (WAKE.CAUSE 0)) (r_WAKE_EVT : P (WAKE.EVT 0)) (r_WAKE_CNT : P (WAKE.CNT 0 5)) (r_DEV_CNT_LAST : ∀ x0, P (DEV.CNT_LAST x0)) (r_DEV_EVT : ∀ x0, P (DEV.EVT x0)) (r_WKP_EVT : ∀ x0, P (WKP.EVT x0)) : Writes (wakeConfirm ) P := by
  unfold wakeConfirm
  try dsimp only
  repeat' (with_reducible first | exact r_WAKE_CAUSE | exact r_WAKE_EVT | exact r_WAKE_CNT | exact r_DEV_CNT_LAST _ | exact r_DEV_EVT _ | exact r_WKP_EVT _ | apply writes_Act_judged | apply Writes.get | apply Writes.each | intro _ | dsimp only)
  all_goals first | exact r_WAKE_CAUSE | exact r_WAKE_EVT | exact r_WAKE_CNT | exact r_DEV_CNT_LAST _ | exact r_DEV_EVT _ | exact r_WKP_EVT _

theorem writes_wakeValidityTimeout  {P : Nat → Prop} (r_WAKE_CAUSE : P (WAKE.CAUSE 0)) (r_WAKE_EVT : P (WAKE.EVT 0)) (r_WAKE_CNT : P (WAKE.CNT 0 5)) (r_DEV_CNT_LAST : ∀ x0, P (DEV.CNT_LAST x0)) (r_DEV_EVT : ∀ x0, P (DEV.EVT x0)) (r_WKP_EVT : ∀ x0, P (WKP.EVT x0)) : Writes (wakeValidityTimeout ) P := by
  unfold wakeValidityTimeout
  try dsimp only
  repeat' (with_reducible first | exact r_WAKE_CAUSE | exact r_WAKE_EVT | exact r_WAKE_CNT | exact r_DEV_CNT_LAST _ | exact r_DEV_EVT _ | exact r_WKP_EVT _ | apply writes_Act_judged | apply Writes.get | apply Writes.each | intro _ | dsimp only)
  all_goals first | exact r_WAKE_CAUSE | exact r_WAKE_EVT | exact r_WAKE_CNT | exact r_DEV_CNT_LAST _ | exact r_DEV_EVT _ | exact r_WKP_EVT _

theorem writes_wakeReportTimeout {d : Nat} {P : Nat → Prop} (r_WKP_EVT : P (WKP.EVT d)) : Writes (wakeReportTimeout d) P := by
  unfold wakeReportTimeout
  try dsimp only
  repeat' (with_reducible first | exact r_WKP_EVT | apply writes_Act_drvInvalid | apply writes_Act_dropAwait | apply Writes.seq | apply Writes.get | apply Writes.each | intro _ | dsimp only)
  all_goals first | exact r_WKP_EVT

theorem writes_sourceRearm {d src : Nat} {P : Nat → Prop} (r_WKP_EVT : P (WKP.EVT d)) : Writes (sourceRearm d src) P := by
  unfold sourceRearm
  try dsimp only
  repeat' (with_reducible first | exact r_WKP_EVT | apply writes_Act_modDrv | apply writes_Act_event | apply Writes.seq | apply Writes.get | apply Writes.when | intro _ | dsimp only)
  all_goals first | exact r_WKP_EVT

theorem writes_wkpRearm {d : Nat} {P : Nat → Prop} : Writes (wkpRearm d) P := by
  unfold wkpRearm
  try dsimp only
  repeat' (with_reducible first | apply writes_Act_modDrv | intro _ | dsimp only)

theorem writes_Act_pnAllAwake  {P : Nat → Prop} : Writes (Act.pnAllAwake ) P := by
  unfold Act.pnAllAwake
  try dsimp only
  repeat' (with_reducible first | apply writes_Act_setPnet | apply Writes.get | apply Writes.each | intro _ | dsimp only)

theorem writes_Act_wakeEnable  {P : Nat → Prop} : Writes (Act.wakeEnable ) P := by
  unfold Act.wakeEnable
  try dsimp only
  repeat' (with_reducible first | apply writes_Act_admEnter | apply writes_Act_pnAllAwake | apply Writes.seq | apply Writes.get | apply Writes.when | apply Writes.each | intro _ | dsimp only)

theorem writes_Act_wakeDisable  {P : Nat → Prop} (r_WAKE_EVT : P (WAKE.EVT 0)) (r_WAKE_CNT : P (WAKE.CNT 0 9)) (r_DEV_CNT_LAST : ∀ x0, P (DEV.CNT_LAST x0)) (r_DEV_EVT : ∀ x0, P (DEV.EVT x0)) (r_WAKE_CNT_2 : P (WAKE.CNT 0 11)) (r_BLK_CTRL : ∀ x0 x1, P (BLK_CTRL x0 x1)) : Writes (Act.wakeDisable ) P := by
  unfold Act.wakeDisable
  try dsimp only
  repeat' (with_reducible first | exact r_WAKE_EVT | exact r_WAKE_CNT | exact r_DEV_CNT_LAST _ | exact r_DEV_EVT _ | exact r_WAKE_CNT_2 | exact r_BLK_CTRL _ _ | apply writes_Act_setPnet | apply writes_Act_updDoze | apply writes_Act_admSettle | apply writes_Act_pnFacetWakes | apply Writes.upd | apply Writes.all_cons | apply Writes.all_nil | apply Writes.get | apply Writes.each | intro _ | dsimp only)
  all_goals first | exact r_WAKE_EVT | exact r_WAKE_CNT | exact r_DEV_CNT_LAST _ | exact r_DEV_EVT _ | exact r_WAKE_CNT_2 | exact r_BLK_CTRL _ _

theorem writes_Act_wakeService  {P : Nat → Prop} (r_WAKE_EVT : P (WAKE.EVT 0)) (r_WAKE_CNT : P (WAKE.CNT 0 1)) (r_DEV_CNT_LAST : ∀ x0, P (DEV.CNT_LAST x0)) (r_DEV_EVT : ∀ x0, P (DEV.EVT x0)) (r_WAKE_CAUSE : P (WAKE.CAUSE 0)) (r_WAKE_CNT_2 : P (WAKE.CNT 0 5)) (r_WKP_EVT : ∀ x0, P (WKP.EVT x0)) : Writes (Act.wakeService ) P := by
  unfold Act.wakeService
  try dsimp only
  repeat' (with_reducible first | exact r_WAKE_EVT | exact r_WAKE_CNT | exact r_DEV_CNT_LAST _ | exact r_DEV_EVT _ | exact r_WAKE_CAUSE | exact r_WAKE_CNT_2 | exact r_WKP_EVT _ | apply writes_Act_updDoze | apply writes_Act_wakeEvent | apply writes_Act_wakeCount | apply writes_Act_judgeOpen | apply writes_Act_pnAllAwake | apply Writes.upd | apply Writes.all_cons | apply Writes.all_nil | apply Writes.get | apply Writes.when | intro _ | dsimp only)
  all_goals first | exact r_WAKE_EVT | exact r_WAKE_CNT | exact r_DEV_CNT_LAST _ | exact r_DEV_EVT _ | exact r_WAKE_CAUSE | exact r_WAKE_CNT_2 | exact r_WKP_EVT _

/-! ## Pinhole -/

theorem writes_Act_pinEvent {d i : Nat} {P : Nat → Prop} (r_PIN_EVT : P (PIN.EVT d)) : Writes (Act.pinEvent d i) P := by
  unfold Act.pinEvent
  try dsimp only
  repeat' (with_reducible first | exact r_PIN_EVT | apply writes_Act_event | intro _ | dsimp only)
  all_goals first | exact r_PIN_EVT

theorem writes_Act_pinEnter {d : Nat} {P : Nat → Prop} (r_WAKE_EVT : P (WAKE.EVT 0)) (r_WAKE_CNT : P (WAKE.CNT 0 9)) (r_DEV_CNT_LAST : ∀ x0, P (DEV.CNT_LAST x0)) (r_DEV_EVT : ∀ x0, P (DEV.EVT x0)) (r_WAKE_CNT_2 : P (WAKE.CNT 0 11)) (r_PAIR_EVT : P (PAIR.EVT 0)) (r_PIN_EVT : P (PIN.EVT d)) : Writes (Act.pinEnter d) P := by
  unfold Act.pinEnter
  try dsimp only
  repeat' (with_reducible first | exact r_WAKE_EVT | exact r_WAKE_CNT | exact r_DEV_CNT_LAST _ | exact r_DEV_EVT _ | exact r_WAKE_CNT_2 | exact r_PAIR_EVT | exact r_PIN_EVT | apply writes_Act_modChan | apply writes_Act_modDrv | apply writes_Act_setSup | apply writes_Act_chOff | apply writes_Act_chSettle | apply writes_Act_chFollow | apply writes_Act_dropOwner | apply writes_xcvrModeChange | apply writes_Act_pinEvent | apply Writes.all_cons | apply Writes.all_nil | apply Writes.seq | apply Writes.get | apply Writes.when | apply Writes.each | apply Writes.ite | apply Writes.all_map | intro _ | split | dsimp only)
  all_goals first | exact r_WAKE_EVT | exact r_WAKE_CNT | exact r_DEV_CNT_LAST _ | exact r_DEV_EVT _ | exact r_WAKE_CNT_2 | exact r_PAIR_EVT | exact r_PIN_EVT

theorem writes_limpAssert {d : Nat} {P : Nat → Prop} (r_WKP_CAUSE : ∀ x0, P (WKP.CAUSE x0)) (r_WKP_EVT : P (WKP.EVT d)) (r_WAKE_EVT : P (WAKE.EVT 0)) (r_WAKE_CNT : P (WAKE.CNT 0 9)) (r_DEV_CNT_LAST : ∀ x0, P (DEV.CNT_LAST x0)) (r_DEV_EVT : ∀ x0, P (DEV.EVT x0)) (r_WAKE_CNT_2 : P (WAKE.CNT 0 11)) (r_PAIR_EVT : P (PAIR.EVT 0)) (r_PIN_EVT : P (PIN.EVT d)) : Writes (limpAssert d) P := by
  unfold limpAssert
  try dsimp only
  repeat' (with_reducible first | exact r_WKP_CAUSE _ | exact r_WKP_EVT | exact r_WAKE_EVT | exact r_WAKE_CNT | exact r_DEV_CNT_LAST _ | exact r_DEV_EVT _ | exact r_WAKE_CNT_2 | exact r_PAIR_EVT | exact r_PIN_EVT | apply writes_Act_modDrv | apply writes_Act_wakeLatch | apply writes_Act_pinEnter | apply Writes.all_cons | apply Writes.all_nil | apply Writes.get | apply Writes.when | intro _ | dsimp only)
  all_goals first | exact r_WKP_CAUSE _ | exact r_WKP_EVT | exact r_WAKE_EVT | exact r_WAKE_CNT | exact r_DEV_CNT_LAST _ | exact r_DEV_EVT _ | exact r_WAKE_CNT_2 | exact r_PAIR_EVT | exact r_PIN_EVT

theorem writes_limpRelease {d : Nat} {P : Nat → Prop} : Writes (limpRelease d) P := by
  unfold limpRelease
  try dsimp only
  repeat' (with_reducible first | apply writes_Act_modDrv | apply Writes.get | apply Writes.when | intro _ | dsimp only)

theorem writes_heartbeatLost {d : Nat} {P : Nat → Prop} (r_WAKE_EVT : P (WAKE.EVT 0)) (r_WAKE_CNT : P (WAKE.CNT 0 9)) (r_DEV_CNT_LAST : ∀ x0, P (DEV.CNT_LAST x0)) (r_DEV_EVT : ∀ x0, P (DEV.EVT x0)) (r_WAKE_CNT_2 : P (WAKE.CNT 0 11)) (r_PAIR_EVT : P (PAIR.EVT 0)) (r_PIN_EVT : P (PIN.EVT d)) : Writes (heartbeatLost d) P := by
  unfold heartbeatLost
  try dsimp only
  repeat' (with_reducible first | exact r_WAKE_EVT | exact r_WAKE_CNT | exact r_DEV_CNT_LAST _ | exact r_DEV_EVT _ | exact r_WAKE_CNT_2 | exact r_PAIR_EVT | exact r_PIN_EVT | apply writes_Act_setSup | apply writes_Act_pinEnter | apply Writes.seq | apply Writes.get | apply Writes.when | intro _ | dsimp only)
  all_goals first | exact r_WAKE_EVT | exact r_WAKE_CNT | exact r_DEV_CNT_LAST _ | exact r_DEV_EVT _ | exact r_WAKE_CNT_2 | exact r_PAIR_EVT | exact r_PIN_EVT

theorem writes_prismHeartbeat {d : Nat} {P : Nat → Prop} : Writes (prismHeartbeat d) P := by
  unfold prismHeartbeat
  try dsimp only
  repeat' (with_reducible first | apply writes_Act_modDrv | apply writes_Act_setSup | apply Writes.seq | apply Writes.get | apply Writes.when | apply Writes.ite | intro _ | split | dsimp only)

theorem writes_pinholeTurnOn {d : Nat} {P : Nat → Prop} (r_CHN_CNT : ∀ x0, P (CHN.CNT d x0 0)) (r_DEV_CNT_LAST : ∀ x0, P (DEV.CNT_LAST x0)) (r_DEV_EVT : ∀ x0, P (DEV.EVT x0)) : Writes (pinholeTurnOn d) P := by
  unfold pinholeTurnOn
  try dsimp only
  repeat' (with_reducible first | exact r_CHN_CNT _ | exact r_DEV_CNT_LAST _ | exact r_DEV_EVT _ | apply writes_Act_modDrv | apply writes_Act_chBegin | apply Writes.seq | apply Writes.get | apply Writes.when | apply Writes.opt | apply Writes.ite | apply Writes.all_map | intro _ | split | dsimp only)
  all_goals first | exact r_CHN_CNT _ | exact r_DEV_CNT_LAST _ | exact r_DEV_EVT _

theorem writes_Act_pinExit {d : Nat} {P : Nat → Prop} (r_CHN_CMD : ∀ x0, P (CHN.CMD d x0)) (r_WAKE_EVT : P (WAKE.EVT 0)) (r_WAKE_CNT : P (WAKE.CNT 0 9)) (r_DEV_CNT_LAST : ∀ x0, P (DEV.CNT_LAST x0)) (r_DEV_EVT : ∀ x0, P (DEV.EVT x0)) (r_WAKE_CNT_2 : P (WAKE.CNT 0 11)) (r_PIN_EVT : P (PIN.EVT d)) : Writes (Act.pinExit d) P := by
  unfold Act.pinExit
  try dsimp only
  repeat' (with_reducible first | exact r_CHN_CMD _ | exact r_WAKE_EVT | exact r_WAKE_CNT | exact r_DEV_CNT_LAST _ | exact r_DEV_EVT _ | exact r_WAKE_CNT_2 | exact r_PIN_EVT | apply writes_Act_modChan | apply writes_Act_modDrv | apply writes_Act_chOff | apply writes_Act_chSettleAll | apply writes_xcvrModeChange | apply writes_Act_pinEvent | apply Writes.setReg | apply Writes.all_cons | apply Writes.all_nil | apply Writes.seq | apply Writes.get | apply Writes.when | apply Writes.each | apply Writes.ite | apply Writes.all_map | intro _ | split | dsimp only)
  all_goals first | exact r_CHN_CMD _ | exact r_WAKE_EVT | exact r_WAKE_CNT | exact r_DEV_CNT_LAST _ | exact r_DEV_EVT _ | exact r_WAKE_CNT_2 | exact r_PIN_EVT

theorem writes_Act_pinAck {d : Nat} {ag : Agent} {P : Nat → Prop} (r_BLK_ERR : P (BLK_ERR (aDie (PIN.CMD d)) (aBlk (PIN.CMD d)))) (r_PIN_EVT : P (PIN.EVT d)) (r_CHN_CMD : ∀ x0, P (CHN.CMD d x0)) (r_WAKE_EVT : P (WAKE.EVT 0)) (r_WAKE_CNT : P (WAKE.CNT 0 9)) (r_DEV_CNT_LAST : ∀ x0, P (DEV.CNT_LAST x0)) (r_DEV_EVT : ∀ x0, P (DEV.EVT x0)) (r_WAKE_CNT_2 : P (WAKE.CNT 0 11)) : Writes (Act.pinAck d ag) P := by
  unfold Act.pinAck
  try dsimp only
  repeat' (with_reducible first | exact r_BLK_ERR | exact r_PIN_EVT | exact r_CHN_CMD _ | exact r_WAKE_EVT | exact r_WAKE_CNT | exact r_DEV_CNT_LAST _ | exact r_DEV_EVT _ | exact r_WAKE_CNT_2 | apply writes_Act_blkErr | apply writes_Act_pinEvent | apply writes_Act_pinExit | apply Writes.seq | apply Writes.get | apply Writes.ite | intro _ | split | dsimp only)
  all_goals first | exact r_BLK_ERR | exact r_PIN_EVT | exact r_CHN_CMD _ | exact r_WAKE_EVT | exact r_WAKE_CNT | exact r_DEV_CNT_LAST _ | exact r_DEV_EVT _ | exact r_WAKE_CNT_2

theorem writes_takeoverHoldEnd {d c : Nat} {P : Nat → Prop} (r_WAKE_EVT : P (WAKE.EVT 0)) (r_WAKE_CNT : P (WAKE.CNT 0 9)) (r_DEV_CNT_LAST : ∀ x0, P (DEV.CNT_LAST x0)) (r_DEV_EVT : ∀ x0, P (DEV.EVT x0)) (r_WAKE_CNT_2 : P (WAKE.CNT 0 11)) : Writes (takeoverHoldEnd d c) P := by
  unfold takeoverHoldEnd
  try dsimp only
  repeat' (with_reducible first | exact r_WAKE_EVT | exact r_WAKE_CNT | exact r_DEV_CNT_LAST _ | exact r_DEV_EVT _ | exact r_WAKE_CNT_2 | apply writes_Act_modChan | apply writes_Act_chOff | apply Writes.seq | apply Writes.get | apply Writes.when | intro _ | dsimp only)
  all_goals first | exact r_WAKE_EVT | exact r_WAKE_CNT | exact r_DEV_CNT_LAST _ | exact r_DEV_EVT _ | exact r_WAKE_CNT_2

/-! ## Loupe -/

theorem writes_Act_crossing {p m : Nat} {P : Nat → Prop} (r_LOUPE_LAST : P (LOUPE.LAST p)) (r_LOUPE_EVT : P (LOUPE.EVT p)) : Writes (Act.crossing p m) P := by
  unfold Act.crossing
  try dsimp only
  repeat' (with_reducible first | exact r_LOUPE_LAST | exact r_LOUPE_EVT | apply writes_Act_modRecorder | apply writes_Act_eventIrq | apply Writes.setReg | apply Writes.all_cons | apply Writes.all_nil | apply Writes.get | apply Writes.when | intro _ | dsimp only)
  all_goals first | exact r_LOUPE_LAST | exact r_LOUPE_EVT

theorem writes_Act_sample {p m : Nat} {v : Word} {taken : Bool} {P : Nat → Prop} (r_LOUPE_LAST : P (LOUPE.LAST p)) (r_LOUPE_EVT : P (LOUPE.EVT p)) : Writes (Act.sample p m v taken) P := by
  unfold Act.sample
  try dsimp only
  repeat' (with_reducible first | exact r_LOUPE_LAST | exact r_LOUPE_EVT | apply writes_Act_modMtr | apply writes_Act_crossing | apply Writes.seq | apply Writes.get | apply Writes.when | apply Writes.ite | intro _ | split | dsimp only)
  all_goals first | exact r_LOUPE_LAST | exact r_LOUPE_EVT

theorem writes_feedVal {p : Nat} {v : Word} {k : Code → Act} {P : Nat → Prop} (r_LOUPE_FEED_VAL : P (LOUPE.FEED_VAL p)) (r_LOUPE_LAST : P (LOUPE.LAST p)) (r_LOUPE_EVT : P (LOUPE.EVT p)) (hk_k : ∀ x0, Writes (k x0) P) : Writes (feedVal p v k) P := by
  unfold feedVal
  try dsimp only
  repeat' (with_reducible first | exact r_LOUPE_FEED_VAL | exact r_LOUPE_LAST | exact r_LOUPE_EVT | exact hk_k _ | apply writes_Act_store | apply writes_Act_sample | apply Writes.all_cons | apply Writes.all_nil | apply Writes.get | apply Writes.each | intro _ | dsimp only)
  all_goals first | exact r_LOUPE_FEED_VAL | exact r_LOUPE_LAST | exact r_LOUPE_EVT

theorem writes_mcfgWrite {ag : Agent} {p m j : Nat} {v : Word} {k : Code → Act} {P : Nat → Prop} (r_BLK_ERR : P (BLK_ERR (aDie (LOUPE.MCFG_A p m + j)) (aBlk (LOUPE.MCFG_A p m + j)))) (r_LOUPE_MCFG_A : P (LOUPE.MCFG_A p m + j)) (hk_k : ∀ x0, Writes (k x0) P) : Writes (mcfgWrite ag p m j v k) P := by
  unfold mcfgWrite
  try dsimp only
  repeat' (with_reducible first | exact r_BLK_ERR | exact r_LOUPE_MCFG_A | exact hk_k _ | apply writes_Act_modMtr | apply writes_Act_badValue | apply writes_Act_store | apply Writes.upd | apply Writes.all_cons | apply Writes.all_nil | apply Writes.get | apply Writes.ite | intro _ | split | dsimp only)
  all_goals first | exact r_BLK_ERR | exact r_LOUPE_MCFG_A

theorem writes_Act_snapshot {p m b : Nat} {P : Nat → Prop} (r_LOUPE_SNAP_HDR : ∀ n, P (LOUPE.SNAP_HDR p b + n)) (r_LOUPE_SNAP_HDR_2 : P (LOUPE.SNAP_HDR p b)) (r_snapBin : ∀ x0, P (snapBin p b x0)) : Writes (Act.snapshot p m b) P := by
  unfold Act.snapshot
  try dsimp only
  repeat' (with_reducible first | exact r_LOUPE_SNAP_HDR _ | exact r_LOUPE_SNAP_HDR_2 | exact r_snapBin _ | apply Writes.setReg | apply Writes.all_cons | apply Writes.all_nil | apply Writes.get | apply Writes.each | intro _ | dsimp only)
  all_goals first | exact r_LOUPE_SNAP_HDR _ | exact r_LOUPE_SNAP_HDR_2 | exact r_snapBin _

theorem writes_snapCmd {ag : Agent} {p : Nat} {v : Word} {k : Code → Act} {P : Nat → Prop} (r_LOUPE_SNAP_CMD : P (LOUPE.SNAP_CMD p)) (r_BLK_ERR : P (BLK_ERR (aDie (LOUPE.SNAP_CMD p)) (aBlk (LOUPE.SNAP_CMD p)))) (r_LOUPE_SNAP_HDR : ∀ x0 n, P (LOUPE.SNAP_HDR p x0 + n)) (r_LOUPE_SNAP_HDR_2 : ∀ x0, P (LOUPE.SNAP_HDR p x0)) (r_snapBin : ∀ x0 x1, P (snapBin p x0 x1)) (hk_k : ∀ x0, Writes (k x0) P) : Writes (snapCmd ag p v k) P := by
  unfold snapCmd
  try dsimp only
  repeat' (with_reducible first | exact r_LOUPE_SNAP_CMD | exact r_BLK_ERR | exact r_LOUPE_SNAP_HDR _ _ | exact r_LOUPE_SNAP_HDR_2 _ | exact r_snapBin _ _ | exact hk_k _ | apply writes_Act_modMtr | apply writes_Act_badValue | apply writes_Act_snapshot | apply Writes.setReg | apply Writes.all_cons | apply Writes.all_nil | apply Writes.get | apply Writes.when | apply Writes.ite | intro _ | split | dsimp only)
  all_goals first | exact r_LOUPE_SNAP_CMD | exact r_BLK_ERR | exact r_LOUPE_SNAP_HDR _ _ | exact r_LOUPE_SNAP_HDR_2 _ | exact r_snapBin _ _

/-! ## Mem -/

theorem writes_Act_memWrite {p a : Nat} {l : List Byte} {P : Nat → Prop} : Writes (Act.memWrite p a l) P := by
  unfold Act.memWrite
  try dsimp only
  repeat' (with_reducible first | apply Writes.setMem | apply Writes.all_cons | apply Writes.all_nil | apply Writes.all_map | intro _ | dsimp only)

theorem writes_Act_memSetWord {p a : Nat} {v : Word} {P : Nat → Prop} : Writes (Act.memSetWord p a v) P := by
  unfold Act.memSetWord
  try dsimp only
  repeat' (with_reducible first | apply writes_Act_memWrite | intro _ | dsimp only)

end Sys2Proof.Machine
end

