-- ==== Sys2Proof/Laws/Writes/Group7.lean ====
section
/-! SUPPORT. Which registers the operations of Recorder, Fleet, Partition may write. -/

set_option linter.unusedTactic false
set_option linter.unreachableTactic false

namespace Sys2Proof.Machine

/-! ## Recorder -/

theorem writes_Act_putRecord {p : Nat} {h : RecHead} {t : Nat} {body : List Byte} {P : Nat → Prop} (r_PSCP_CNT : P (PSCP.CNT p 1)) (r_DEV_CNT_LAST : ∀ x0, P (DEV.CNT_LAST x0)) (r_DEV_EVT : ∀ x0, P (DEV.EVT x0)) (r_PSCP_CNT_2 : P (PSCP.CNT p 0)) : Writes (Act.putRecord p h t body) P := by
  unfold Act.putRecord
  try dsimp only
  repeat' (with_reducible first | exact r_PSCP_CNT | exact r_DEV_CNT_LAST _ | exact r_DEV_EVT _ | exact r_PSCP_CNT_2 | apply writes_Act_modRecorder | apply writes_Act_countBy | apply writes_Act_count | apply Writes.all_cons | apply Writes.all_nil | apply Writes.get | intro _ | dsimp only)
  all_goals first | exact r_PSCP_CNT | exact r_DEV_CNT_LAST _ | exact r_DEV_EVT _ | exact r_PSCP_CNT_2

theorem writes_Act_endChunk {p : Nat} {P : Nat → Prop} : Writes (Act.endChunk p) P := by
  unfold Act.endChunk
  try dsimp only
  repeat' (with_reducible first | apply writes_Act_modRecorder | apply Writes.get | apply Writes.when | intro _ | dsimp only)

theorem writes_Act_nvme {p : Nat} {c : NvCmd} {addr len : Nat} {b : List Byte} {P : Nat → Prop} : Writes (Act.nvme p c addr len b) P := by
  unfold Act.nvme
  try dsimp only
  repeat' (with_reducible first | apply writes_Act_emit | apply writes_Act_modRecorder | apply Writes.seq | apply Writes.get | intro _ | split | dsimp only)

theorem writes_chunkWrite {p : Nat} {P : Nat → Prop} (r_PSCP_CNT : P (PSCP.CNT p 8)) (r_DEV_CNT_LAST : ∀ x0, P (DEV.CNT_LAST x0)) (r_DEV_EVT : ∀ x0, P (DEV.EVT x0)) : Writes (chunkWrite p) P := by
  unfold chunkWrite
  try dsimp only
  repeat' (with_reducible first | exact r_PSCP_CNT | exact r_DEV_CNT_LAST _ | exact r_DEV_EVT _ | apply writes_Act_modRecorder | apply writes_Act_count | apply writes_Act_tallyMon | apply writes_Act_nvme | apply Writes.all_cons | apply Writes.all_nil | apply Writes.get | apply Writes.when | apply Writes.opt | intro _ | dsimp only)
  all_goals first | exact r_PSCP_CNT | exact r_DEV_CNT_LAST _ | exact r_DEV_EVT _

theorem writes_Act_writeOut {p : Nat} {z0 : Nat} {P : Nat → Prop} (r_PSCP_CNT : P (PSCP.CNT p 8)) (r_DEV_CNT_LAST : ∀ x0, P (DEV.CNT_LAST x0)) (r_DEV_EVT : ∀ x0, P (DEV.EVT x0)) : Writes (Act.writeOut p z0) P := by
  induction z0 with
  | zero =>
    unfold Act.writeOut
    exact Writes.skip
  | succ z0 ih =>
    unfold Act.writeOut
    try dsimp only
    repeat' (with_reducible first | exact ih | exact r_PSCP_CNT | exact r_DEV_CNT_LAST _ | exact r_DEV_EVT _ | apply writes_chunkWrite | apply Writes.seq | apply Writes.skip | intro _ | split | dsimp only)
  all_goals first | exact r_PSCP_CNT | exact r_DEV_CNT_LAST _ | exact r_DEV_EVT _

theorem writes_Act_writeSuper {p : Nat} {P : Nat → Prop} (r_PSCP_CNT : P (PSCP.CNT p 8)) (r_DEV_CNT_LAST : ∀ x0, P (DEV.CNT_LAST x0)) (r_DEV_EVT : ∀ x0, P (DEV.EVT x0)) : Writes (Act.writeSuper p) P := by
  unfold Act.writeSuper
  try dsimp only
  repeat' (with_reducible first | exact r_PSCP_CNT | exact r_DEV_CNT_LAST _ | exact r_DEV_EVT _ | apply writes_Act_modRecorder | apply writes_Act_count | apply writes_Act_nvme | apply Writes.all_cons | apply Writes.all_nil | apply Writes.get | intro _ | dsimp only)
  all_goals first | exact r_PSCP_CNT | exact r_DEV_CNT_LAST _ | exact r_DEV_EVT _

theorem writes_Act_recFlush {p : Nat} {P : Nat → Prop} (r_PSCP_CNT : P (PSCP.CNT p 8)) (r_DEV_CNT_LAST : ∀ x0, P (DEV.CNT_LAST x0)) (r_DEV_EVT : ∀ x0, P (DEV.EVT x0)) : Writes (Act.recFlush p) P := by
  unfold Act.recFlush
  try dsimp only
  repeat' (with_reducible first | exact r_PSCP_CNT | exact r_DEV_CNT_LAST _ | exact r_DEV_EVT _ | apply writes_Act_endChunk | apply writes_Act_nvme | apply writes_Act_writeOut | apply writes_Act_writeSuper | apply Writes.all_cons | apply Writes.all_nil | apply Writes.seq | apply Writes.get | intro _ | dsimp only)
  all_goals first | exact r_PSCP_CNT | exact r_DEV_CNT_LAST _ | exact r_DEV_EVT _

theorem writes_Act_rdEnd {p result : Nat} {P : Nat → Prop} (r_PSCP_RD_CMD : P (PSCP.RD_CMD p)) : Writes (Act.rdEnd p result) P := by
  unfold Act.rdEnd
  try dsimp only
  repeat' (with_reducible first | exact r_PSCP_RD_CMD | apply writes_Act_modRecorder | apply writes_Act_setFld | apply Writes.seq | apply Writes.get | apply Writes.when | intro _ | dsimp only)
  all_goals first | exact r_PSCP_RD_CMD

theorem writes_Act_recFail {p kind status : Nat} {P : Nat → Prop} (r_PSCP_LAST_ERR : P (PSCP.LAST_ERR p)) (r_PSCP_EVT : P (PSCP.EVT p)) (r_PSCP_RD_CMD : P (PSCP.RD_CMD p)) : Writes (Act.recFail p kind status) P := by
  unfold Act.recFail
  try dsimp only
  repeat' (with_reducible first | exact r_PSCP_LAST_ERR | exact r_PSCP_EVT | exact r_PSCP_RD_CMD | apply writes_Act_modRecorder | apply writes_Act_event | apply writes_Act_rdEnd | apply Writes.setReg | apply Writes.all_cons | apply Writes.all_nil | apply Writes.ite | intro _ | split | dsimp only)
  all_goals first | exact r_PSCP_LAST_ERR | exact r_PSCP_EVT | exact r_PSCP_RD_CMD

theorem writes_Act_recEnable {p : Nat} {P : Nat → Prop} : Writes (Act.recEnable p) P := by
  unfold Act.recEnable
  try dsimp only
  repeat' (with_reducible first | apply writes_Act_modRecorder | apply Writes.get | apply Writes.when | intro _ | dsimp only)

theorem writes_Act_recDisable {p : Nat} {P : Nat → Prop} (r_PSCP_CNT : P (PSCP.CNT p 8)) (r_DEV_CNT_LAST : ∀ x0, P (DEV.CNT_LAST x0)) (r_DEV_EVT : ∀ x0, P (DEV.EVT x0)) (r_PSCP_RD_CMD : P (PSCP.RD_CMD p)) : Writes (Act.recDisable p) P := by
  unfold Act.recDisable
  try dsimp only
  repeat' (with_reducible first | exact r_PSCP_CNT | exact r_DEV_CNT_LAST _ | exact r_DEV_EVT _ | exact r_PSCP_RD_CMD | apply writes_Act_modRecorder | apply writes_Act_recFlush | apply writes_Act_rdEnd | apply Writes.all_cons | apply Writes.all_nil | apply Writes.get | apply Writes.when | intro _ | dsimp only)
  all_goals first | exact r_PSCP_CNT | exact r_DEV_CNT_LAST _ | exact r_DEV_EVT _ | exact r_PSCP_RD_CMD

theorem writes_Act_recClockLost {p : Nat} {P : Nat → Prop} (r_PSCP_LAST_ERR : P (PSCP.LAST_ERR p)) (r_PSCP_EVT : P (PSCP.EVT p)) (r_PSCP_RD_CMD : P (PSCP.RD_CMD p)) : Writes (Act.recClockLost p) P := by
  unfold Act.recClockLost
  try dsimp only
  repeat' (with_reducible first | exact r_PSCP_LAST_ERR | exact r_PSCP_EVT | exact r_PSCP_RD_CMD | apply writes_Act_recFail | apply Writes.get | apply Writes.when | intro _ | dsimp only)
  all_goals first | exact r_PSCP_LAST_ERR | exact r_PSCP_EVT | exact r_PSCP_RD_CMD

theorem writes_recorderLinkUp {p width speed : Nat} {P : Nat → Prop} : Writes (recorderLinkUp p width speed) P := by
  unfold recorderLinkUp
  try dsimp only
  repeat' (with_reducible first | apply writes_Act_modRecorder | apply Writes.get | apply Writes.when | intro _ | dsimp only)

theorem writes_recorderLinkTimeout {p : Nat} {P : Nat → Prop} (r_PSCP_LAST_ERR : P (PSCP.LAST_ERR p)) (r_PSCP_EVT : P (PSCP.EVT p)) (r_PSCP_RD_CMD : P (PSCP.RD_CMD p)) : Writes (recorderLinkTimeout p) P := by
  unfold recorderLinkTimeout
  try dsimp only
  repeat' (with_reducible first | exact r_PSCP_LAST_ERR | exact r_PSCP_EVT | exact r_PSCP_RD_CMD | apply writes_Act_recFail | apply Writes.get | apply Writes.when | intro _ | dsimp only)
  all_goals first | exact r_PSCP_LAST_ERR | exact r_PSCP_EVT | exact r_PSCP_RD_CMD

theorem writes_recorderInitDone {p : Nat} {ready : Bool} {lba blocks : Nat} {P : Nat → Prop} (r_PSCP_LAST_ERR : P (PSCP.LAST_ERR p)) (r_PSCP_EVT : P (PSCP.EVT p)) (r_PSCP_RD_CMD : P (PSCP.RD_CMD p)) : Writes (recorderInitDone p ready lba blocks) P := by
  unfold recorderInitDone
  try dsimp only
  repeat' (with_reducible first | exact r_PSCP_LAST_ERR | exact r_PSCP_EVT | exact r_PSCP_RD_CMD | apply writes_Act_modRecorder | apply writes_Act_recFail | apply Writes.get | apply Writes.when | apply Writes.ite | intro _ | split | dsimp only)
  all_goals first | exact r_PSCP_LAST_ERR | exact r_PSCP_EVT | exact r_PSCP_RD_CMD

theorem writes_recorderResume {p : Nat} {a b : List Byte} {heads : List (List Byte)} {P : Nat → Prop} (r_PSCP_EVT : P (PSCP.EVT p)) (r_PSCP_CNT : P (PSCP.CNT p 1)) (r_DEV_CNT_LAST : ∀ x0, P (DEV.CNT_LAST x0)) (r_DEV_EVT : ∀ x0, P (DEV.EVT x0)) (r_PSCP_CNT_2 : P (PSCP.CNT p 0)) (r_PSCP_CNT_3 : P (PSCP.CNT p 8)) : Writes (recorderResume p a b heads) P := by
  unfold recorderResume
  try dsimp only
  repeat' (with_reducible first | exact r_PSCP_EVT | exact r_PSCP_CNT | exact r_DEV_CNT_LAST _ | exact r_DEV_EVT _ | exact r_PSCP_CNT_2 | exact r_PSCP_CNT_3 | apply writes_Act_modRecorder | apply writes_Act_event | apply writes_Act_putRecord | apply writes_Act_writeSuper | apply Writes.all_cons | apply Writes.all_nil | apply Writes.seq | apply Writes.get | apply Writes.when | apply Writes.ite | apply Writes.all_map | intro _ | split | dsimp only)
  all_goals first | exact r_PSCP_EVT | exact r_PSCP_CNT | exact r_DEV_CNT_LAST _ | exact r_DEV_EVT _ | exact r_PSCP_CNT_2 | exact r_PSCP_CNT_3

theorem writes_Act_lossRecord {p q : Nat} {P : Nat → Prop} (r_PSCP_CNT : P (PSCP.CNT p 2)) (r_DEV_CNT_LAST : ∀ x0, P (DEV.CNT_LAST x0)) (r_DEV_EVT : ∀ x0, P (DEV.EVT x0)) (r_PSCP_CNT_2 : P (PSCP.CNT p 1)) (r_PSCP_CNT_3 : P (PSCP.CNT p 0)) : Writes (Act.lossRecord p q) P := by
  unfold Act.lossRecord
  try dsimp only
  repeat' (with_reducible first | exact r_PSCP_CNT | exact r_DEV_CNT_LAST _ | exact r_DEV_EVT _ | exact r_PSCP_CNT_2 | exact r_PSCP_CNT_3 | apply writes_Act_setRecLost | apply writes_Act_count | apply writes_Act_putRecord | apply Writes.all_cons | apply Writes.all_nil | apply Writes.get | apply Writes.when | intro _ | dsimp only)
  all_goals first | exact r_PSCP_CNT | exact r_DEV_CNT_LAST _ | exact r_DEV_EVT _ | exact r_PSCP_CNT_2 | exact r_PSCP_CNT_3

theorem writes_Act_frameRecord {p : Nat} {fr : Frame} {P : Nat → Prop} (r_PSCP_CNT : P (PSCP.CNT p 1)) (r_DEV_CNT_LAST : ∀ x0, P (DEV.CNT_LAST x0)) (r_DEV_EVT : ∀ x0, P (DEV.EVT x0)) (r_PSCP_CNT_2 : P (PSCP.CNT p 0)) : Writes (Act.frameRecord p fr) P := by
  unfold Act.frameRecord
  try dsimp only
  repeat' (with_reducible first | exact r_PSCP_CNT | exact r_DEV_CNT_LAST _ | exact r_DEV_EVT _ | exact r_PSCP_CNT_2 | apply writes_Act_putRecord | apply Writes.ite | intro _ | split | dsimp only)
  all_goals first | exact r_PSCP_CNT | exact r_DEV_CNT_LAST _ | exact r_DEV_EVT _ | exact r_PSCP_CNT_2

theorem writes_Act_closeEpisode {p : Nat} {trunc : Bool} {P : Nat → Prop} (r_PSCP_EVT : P (PSCP.EVT p)) (r_PSCP_CNT : P (PSCP.CNT p 8)) (r_DEV_CNT_LAST : ∀ x0, P (DEV.CNT_LAST x0)) (r_DEV_EVT : ∀ x0, P (DEV.EVT x0)) : Writes (Act.closeEpisode p trunc) P := by
  unfold Act.closeEpisode
  try dsimp only
  repeat' (with_reducible first | exact r_PSCP_EVT | exact r_PSCP_CNT | exact r_DEV_CNT_LAST _ | exact r_DEV_EVT _ | apply writes_Act_modRecorder | apply writes_Act_eventIrq | apply writes_Act_endChunk | apply writes_Act_nvme | apply writes_Act_writeOut | apply writes_Act_writeSuper | apply Writes.all_cons | apply Writes.all_nil | apply Writes.get | apply Writes.when | apply Writes.opt | apply Writes.ite | apply Writes.all_map | intro _ | split | dsimp only)
  all_goals first | exact r_PSCP_EVT | exact r_PSCP_CNT | exact r_DEV_CNT_LAST _ | exact r_DEV_EVT _

theorem writes_Act_checkReach {p was : Nat} {P : Nat → Prop} (r_PSCP_EVT : P (PSCP.EVT p)) (r_PSCP_CNT : P (PSCP.CNT p 8)) (r_DEV_CNT_LAST : ∀ x0, P (DEV.CNT_LAST x0)) (r_DEV_EVT : ∀ x0, P (DEV.EVT x0)) : Writes (Act.checkReach p was) P := by
  unfold Act.checkReach
  try dsimp only
  repeat' (with_reducible first | exact r_PSCP_EVT | exact r_PSCP_CNT | exact r_DEV_CNT_LAST _ | exact r_DEV_EVT _ | apply writes_Act_closeEpisode | apply Writes.get | apply Writes.when | apply Writes.opt | intro _ | dsimp only)
  all_goals first | exact r_PSCP_EVT | exact r_PSCP_CNT | exact r_DEV_CNT_LAST _ | exact r_DEV_EVT _

theorem writes_recordTake {p : Nat} {P : Nat → Prop} (r_PSCP_CNT : P (PSCP.CNT p 4)) (r_DEV_CNT_LAST : ∀ x0, P (DEV.CNT_LAST x0)) (r_DEV_EVT : ∀ x0, P (DEV.EVT x0)) (r_QMGR_EVT : P (QMGR.EVT p)) (r_ra : P (ra p 129 515)) (r_FAB_EVT : P (FAB.EVT p)) (r_FAB_CNT : P (FAB.CNT p 3)) (r_FAB_CNT_2 : P (FAB.CNT p 4)) (r_QMGR_DROP_LAST : P (QMGR.DROP_LAST p)) (r_QMGR_CNT : P (QMGR.CNT p 2)) (r_QMGR_LIMIT_DROPS : ∀ x0, P (QMGR.LIMIT_DROPS p x0)) (r_QMGR_CNT_2 : P (QMGR.CNT p 3)) (r_QMGR_CNT_3 : P (QMGR.CNT p 4)) (r_PSCP_CNT_2 : P (PSCP.CNT p 2)) (r_PSCP_CNT_3 : P (PSCP.CNT p 1)) (r_PSCP_CNT_4 : P (PSCP.CNT p 0)) (r_PSCP_EVT : P (PSCP.EVT p)) (r_PSCP_CNT_5 : P (PSCP.CNT p 8)) : Writes (recordTake p) P := by
  unfold recordTake
  try dsimp only
  repeat' (with_reducible first | exact r_PSCP_CNT | exact r_DEV_CNT_LAST _ | exact r_DEV_EVT _ | exact r_QMGR_EVT | exact r_ra | exact r_FAB_EVT | exact r_FAB_CNT | exact r_FAB_CNT_2 | exact r_QMGR_DROP_LAST | exact r_QMGR_CNT | exact r_QMGR_LIMIT_DROPS _ | exact r_QMGR_CNT_2 | exact r_QMGR_CNT_3 | exact r_PSCP_CNT_2 | exact r_PSCP_CNT_3 | exact r_PSCP_CNT_4 | exact r_PSCP_EVT | exact r_PSCP_CNT_5 | apply writes_Act_count | apply writes_Act_take | apply writes_Act_lossRecord | apply writes_Act_frameRecord | apply writes_Act_checkReach | apply Writes.all_cons | apply Writes.all_nil | apply Writes.get | apply Writes.when | apply Writes.skip | apply Writes.ite | intro _ | split | dsimp only)
  all_goals first | exact r_PSCP_CNT | exact r_DEV_CNT_LAST _ | exact r_DEV_EVT _ | exact r_QMGR_EVT | exact r_ra | exact r_FAB_EVT | exact r_FAB_CNT | exact r_FAB_CNT_2 | exact r_QMGR_DROP_LAST | exact r_QMGR_CNT | exact r_QMGR_LIMIT_DROPS _ | exact r_QMGR_CNT_2 | exact r_QMGR_CNT_3 | exact r_PSCP_CNT_2 | exact r_PSCP_CNT_3 | exact r_PSCP_CNT_4 | exact r_PSCP_EVT | exact r_PSCP_CNT_5

theorem writes_recorderFlush {p : Nat} {P : Nat → Prop} (r_PSCP_CNT : P (PSCP.CNT p 8)) (r_DEV_CNT_LAST : ∀ x0, P (DEV.CNT_LAST x0)) (r_DEV_EVT : ∀ x0, P (DEV.EVT x0)) (r_PSCP_CNT_2 : P (PSCP.CNT p 2)) (r_PSCP_CNT_3 : P (PSCP.CNT p 1)) (r_PSCP_CNT_4 : P (PSCP.CNT p 0)) (r_PSCP_EVT : P (PSCP.EVT p)) : Writes (recorderFlush p) P := by
  unfold recorderFlush
  try dsimp only
  repeat' (with_reducible first | exact r_PSCP_CNT | exact r_DEV_CNT_LAST _ | exact r_DEV_EVT _ | exact r_PSCP_CNT_2 | exact r_PSCP_CNT_3 | exact r_PSCP_CNT_4 | exact r_PSCP_EVT | apply writes_Act_recFlush | apply writes_Act_lossRecord | apply writes_Act_checkReach | apply Writes.all_cons | apply Writes.all_nil | apply Writes.get | apply Writes.when | apply Writes.each | apply Writes.all_map | intro _ | dsimp only)
  all_goals first | exact r_PSCP_CNT | exact r_DEV_CNT_LAST _ | exact r_DEV_EVT _ | exact r_PSCP_CNT_2 | exact r_PSCP_CNT_3 | exact r_PSCP_CNT_4 | exact r_PSCP_EVT

theorem writes_nvmeCompletion {p i kind status : Nat} {P : Nat → Prop} (r_PSCP_CNT : P (PSCP.CNT p 9)) (r_DEV_CNT_LAST : ∀ x0, P (DEV.CNT_LAST x0)) (r_DEV_EVT : ∀ x0, P (DEV.EVT x0)) (r_PSCP_LAST_ERR : P (PSCP.LAST_ERR p)) (r_PSCP_EVT : P (PSCP.EVT p)) (r_PSCP_RD_CMD : P (PSCP.RD_CMD p)) : Writes (nvmeCompletion p i kind status) P := by
  unfold nvmeCompletion
  try dsimp only
  repeat' (with_reducible first | exact r_PSCP_CNT | exact r_DEV_CNT_LAST _ | exact r_DEV_EVT _ | exact r_PSCP_LAST_ERR | exact r_PSCP_EVT | exact r_PSCP_RD_CMD | apply writes_Act_modRecorder | apply writes_Act_count | apply writes_Act_offerMon | apply writes_Act_recFail | apply Writes.seq | apply Writes.get | apply Writes.when | apply Writes.opt | apply Writes.skip | apply Writes.ite | intro _ | split | dsimp only)
  all_goals first | exact r_PSCP_CNT | exact r_DEV_CNT_LAST _ | exact r_DEV_EVT _ | exact r_PSCP_LAST_ERR | exact r_PSCP_EVT | exact r_PSCP_RD_CMD

theorem writes_recorderLinkLost {p : Nat} {P : Nat → Prop} (r_PSCP_LAST_ERR : P (PSCP.LAST_ERR p)) (r_PSCP_EVT : P (PSCP.EVT p)) (r_PSCP_RD_CMD : P (PSCP.RD_CMD p)) : Writes (recorderLinkLost p) P := by
  unfold recorderLinkLost
  try dsimp only
  repeat' (with_reducible first | exact r_PSCP_LAST_ERR | exact r_PSCP_EVT | exact r_PSCP_RD_CMD | apply writes_Act_recFail | apply Writes.get | apply Writes.when | intro _ | dsimp only)
  all_goals first | exact r_PSCP_LAST_ERR | exact r_PSCP_EVT | exact r_PSCP_RD_CMD

theorem writes_Act_openEpisode {p src t : Nat} {P : Nat → Prop} (r_PSCP_CNT : P (PSCP.CNT p 5)) (r_DEV_CNT_LAST : ∀ x0, P (DEV.CNT_LAST x0)) (r_DEV_EVT : ∀ x0, P (DEV.EVT x0)) (r_PSCP_CNT_2 : P (PSCP.CNT p 1)) (r_PSCP_CNT_3 : P (PSCP.CNT p 0)) (r_PSCP_CNT_4 : P (PSCP.CNT p 8)) (r_PSCP_EVT : P (PSCP.EVT p)) : Writes (Act.openEpisode p src t) P := by
  unfold Act.openEpisode
  try dsimp only
  repeat' (with_reducible first | exact r_PSCP_CNT | exact r_DEV_CNT_LAST _ | exact r_DEV_EVT _ | exact r_PSCP_CNT_2 | exact r_PSCP_CNT_3 | exact r_PSCP_CNT_4 | exact r_PSCP_EVT | apply writes_Act_modRecorder | apply writes_Act_count | apply writes_Act_putRecord | apply writes_Act_writeSuper | apply writes_Act_checkReach | apply Writes.all_cons | apply Writes.all_nil | apply Writes.get | apply Writes.ite | apply Writes.all_map | intro _ | split | dsimp only)
  all_goals first | exact r_PSCP_CNT | exact r_DEV_CNT_LAST _ | exact r_DEV_EVT _ | exact r_PSCP_CNT_2 | exact r_PSCP_CNT_3 | exact r_PSCP_CNT_4 | exact r_PSCP_EVT

theorem writes_Act_takeTrigger {p src t : Nat} {P : Nat → Prop} (r_PSCP_EVT : P (PSCP.EVT p)) (r_PSCP_CNT : P (PSCP.CNT p 7)) (r_DEV_CNT_LAST : ∀ x0, P (DEV.CNT_LAST x0)) (r_DEV_EVT : ∀ x0, P (DEV.EVT x0)) (r_PSCP_CNT_2 : P (PSCP.CNT p 6)) (r_PSCP_CNT_3 : P (PSCP.CNT p 1)) (r_PSCP_CNT_4 : P (PSCP.CNT p 0)) (r_PSCP_CNT_5 : P (PSCP.CNT p 8)) (r_PSCP_CNT_6 : P (PSCP.CNT p 5)) : Writes (Act.takeTrigger p src t) P := by
  unfold Act.takeTrigger
  try dsimp only
  repeat' (with_reducible first | exact r_PSCP_EVT | exact r_PSCP_CNT | exact r_DEV_CNT_LAST _ | exact r_DEV_EVT _ | exact r_PSCP_CNT_2 | exact r_PSCP_CNT_3 | exact r_PSCP_CNT_4 | exact r_PSCP_CNT_5 | exact r_PSCP_CNT_6 | apply writes_Act_modRecorder | apply writes_Act_event | apply writes_Act_count | apply writes_Act_putRecord | apply writes_Act_checkReach | apply writes_Act_openEpisode | apply Writes.all_cons | apply Writes.all_nil | apply Writes.seq | apply Writes.get | apply Writes.ite | apply Writes.all_map | intro _ | split | dsimp only)
  all_goals first | exact r_PSCP_EVT | exact r_PSCP_CNT | exact r_DEV_CNT_LAST _ | exact r_DEV_EVT _ | exact r_PSCP_CNT_2 | exact r_PSCP_CNT_3 | exact r_PSCP_CNT_4 | exact r_PSCP_CNT_5 | exact r_PSCP_CNT_6

theorem writes_triggerTake {p : Nat} {P : Nat → Prop} (r_PSCP_EVT : P (PSCP.EVT p)) (r_PSCP_CNT : P (PSCP.CNT p 7)) (r_DEV_CNT_LAST : ∀ x0, P (DEV.CNT_LAST x0)) (r_DEV_EVT : ∀ x0, P (DEV.EVT x0)) (r_PSCP_CNT_2 : P (PSCP.CNT p 6)) (r_PSCP_CNT_3 : P (PSCP.CNT p 1)) (r_PSCP_CNT_4 : P (PSCP.CNT p 0)) (r_PSCP_CNT_5 : P (PSCP.CNT p 8)) (r_PSCP_CNT_6 : P (PSCP.CNT p 5)) : Writes (triggerTake p) P := by
  unfold triggerTake
  try dsimp only
  repeat' (with_reducible first | exact r_PSCP_EVT | exact r_PSCP_CNT | exact r_DEV_CNT_LAST _ | exact r_DEV_EVT _ | exact r_PSCP_CNT_2 | exact r_PSCP_CNT_3 | exact r_PSCP_CNT_4 | exact r_PSCP_CNT_5 | exact r_PSCP_CNT_6 | apply writes_Act_modRecorder | apply writes_Act_takeTrigger | apply Writes.seq | apply Writes.get | apply Writes.when | apply Writes.each | intro _ | dsimp only)
  all_goals first | exact r_PSCP_EVT | exact r_PSCP_CNT | exact r_DEV_CNT_LAST _ | exact r_DEV_EVT _ | exact r_PSCP_CNT_2 | exact r_PSCP_CNT_3 | exact r_PSCP_CNT_4 | exact r_PSCP_CNT_5 | exact r_PSCP_CNT_6

theorem writes_episodeClose {p : Nat} {P : Nat → Prop} (r_PSCP_EVT : P (PSCP.EVT p)) (r_PSCP_CNT : P (PSCP.CNT p 8)) (r_DEV_CNT_LAST : ∀ x0, P (DEV.CNT_LAST x0)) (r_DEV_EVT : ∀ x0, P (DEV.EVT x0)) : Writes (episodeClose p) P := by
  unfold episodeClose
  try dsimp only
  repeat' (with_reducible first | exact r_PSCP_EVT | exact r_PSCP_CNT | exact r_DEV_CNT_LAST _ | exact r_DEV_EVT _ | apply writes_Act_closeEpisode | apply Writes.get | apply Writes.when | apply Writes.opt | intro _ | dsimp only)
  all_goals first | exact r_PSCP_EVT | exact r_PSCP_CNT | exact r_DEV_CNT_LAST _ | exact r_DEV_EVT _

theorem writes_pscpCmd {ag : Agent} {p : Nat} {v : Word} {k : Code → Act} {P : Nat → Prop} (r_PSCP_CMD : P (PSCP.CMD p)) (r_BLK_ERR : P (BLK_ERR (aDie (PSCP.CMD p)) (aBlk (PSCP.CMD p)))) (r_PSCP_CNT : P (PSCP.CNT p 8)) (r_DEV_CNT_LAST : ∀ x0, P (DEV.CNT_LAST x0)) (r_DEV_EVT : ∀ x0, P (DEV.EVT x0)) (hk_k : ∀ x0, Writes (k x0) P) : Writes (pscpCmd ag p v k) P := by
  unfold pscpCmd
  try dsimp only
  repeat' (with_reducible first | exact r_PSCP_CMD | exact r_BLK_ERR | exact r_PSCP_CNT | exact r_DEV_CNT_LAST _ | exact r_DEV_EVT _ | exact hk_k _ | apply writes_Act_modRecorder | apply writes_Act_badValue | apply writes_Act_writeSuper | apply Writes.setReg | apply Writes.all_cons | apply Writes.all_nil | apply Writes.seq | apply Writes.get | apply Writes.when | apply Writes.ite | intro _ | split | dsimp only)
  all_goals first | exact r_PSCP_CMD | exact r_BLK_ERR | exact r_PSCP_CNT | exact r_DEV_CNT_LAST _ | exact r_DEV_EVT _

theorem writes_rdCmd {ag : Agent} {p : Nat} {v : Word} {k : Code → Act} {P : Nat → Prop} (r_PSCP_RD_CMD : P (PSCP.RD_CMD p)) (r_PSCP_CNT : P (PSCP.CNT p 10)) (r_DEV_CNT_LAST : ∀ x0, P (DEV.CNT_LAST x0)) (r_DEV_EVT : ∀ x0, P (DEV.EVT x0)) (r_BLK_ERR : P (BLK_ERR (aDie (PSCP.RD_CMD p)) (aBlk (PSCP.RD_CMD p)))) (r_PSCP_CNT_2 : P (PSCP.CNT p 8)) (hk_k : ∀ x0, Writes (k x0) P) : Writes (rdCmd ag p v k) P := by
  unfold rdCmd
  try dsimp only
  repeat' (with_reducible first | exact r_PSCP_RD_CMD | exact r_PSCP_CNT | exact r_DEV_CNT_LAST _ | exact r_DEV_EVT _ | exact r_BLK_ERR | exact r_PSCP_CNT_2 | exact hk_k _ | apply writes_Act_modRecorder | apply writes_Act_count | apply writes_Act_badValue | apply writes_Act_nvme | apply writes_Act_writeOut | apply Writes.setReg | apply Writes.all_cons | apply Writes.all_nil | apply Writes.seq | apply Writes.get | apply Writes.ite | intro _ | split | dsimp only)
  all_goals first | exact r_PSCP_RD_CMD | exact r_PSCP_CNT | exact r_DEV_CNT_LAST _ | exact r_DEV_EVT _ | exact r_BLK_ERR | exact r_PSCP_CNT_2

theorem writes_rdCmdDone {p : Nat} {ok : Bool} {data : List Byte} {P : Nat → Prop} (r_PSCP_RD_BUF : ∀ x0, P (PSCP.RD_BUF p x0)) (r_PSCP_CNT : P (PSCP.CNT p 9)) (r_DEV_CNT_LAST : ∀ x0, P (DEV.CNT_LAST x0)) (r_DEV_EVT : ∀ x0, P (DEV.EVT x0)) (r_PSCP_RD_CMD : P (PSCP.RD_CMD p)) : Writes (rdCmdDone p ok data) P := by
  unfold rdCmdDone
  try dsimp only
  repeat' (with_reducible first | exact r_PSCP_RD_BUF _ | exact r_PSCP_CNT | exact r_DEV_CNT_LAST _ | exact r_DEV_EVT _ | exact r_PSCP_RD_CMD | apply writes_Act_count | apply writes_Act_memWrite | apply writes_Act_rdEnd | apply Writes.setReg | apply Writes.seq | apply Writes.get | apply Writes.when | apply Writes.each | apply Writes.ite | intro _ | split | dsimp only)
  all_goals first | exact r_PSCP_RD_BUF _ | exact r_PSCP_CNT | exact r_DEV_CNT_LAST _ | exact r_DEV_EVT _ | exact r_PSCP_RD_CMD

/-! ## Fleet -/

theorem writes_keepaliveSend  {P : Nat → Prop} (r_PLX_CNT : P (PLX.CNT 0 0)) (r_DEV_CNT_LAST : ∀ x0, P (DEV.CNT_LAST x0)) (r_DEV_EVT : ∀ x0, P (DEV.EVT x0)) (r_KEYS_SLOT : ∀ x0, P (KEYS.SLOT 0 x0)) (r_KEYS_LAST : P (KEYS.LAST 0)) (r_KEYS_EVT : P (KEYS.EVT 0)) (r_KEYS_CNT : P (KEYS.CNT 0 6)) (r_WAKE_CNT : P (WAKE.CNT 0 7)) : Writes (keepaliveSend ) P := by
  unfold keepaliveSend
  try dsimp only
  repeat' (with_reducible first | exact r_PLX_CNT | exact r_DEV_CNT_LAST _ | exact r_DEV_EVT _ | exact r_KEYS_SLOT _ | exact r_KEYS_LAST | exact r_KEYS_EVT | exact r_KEYS_CNT | exact r_WAKE_CNT | apply writes_Act_kaSend | apply Writes.upd | apply Writes.seq | apply Writes.get | apply Writes.when | apply Writes.each | intro _ | dsimp only)
  all_goals first | exact r_PLX_CNT | exact r_DEV_CNT_LAST _ | exact r_DEV_EVT _ | exact r_KEYS_SLOT _ | exact r_KEYS_LAST | exact r_KEYS_EVT | exact r_KEYS_CNT | exact r_WAKE_CNT

theorem writes_Act_kaRelay {m : EzMsg} {P : Nat → Prop} (r_PLX_CNT : P (PLX.CNT 0 6)) (r_DEV_CNT_LAST : ∀ x0, P (DEV.CNT_LAST x0)) (r_DEV_EVT : ∀ x0, P (DEV.EVT x0)) (r_KEYS_SLOT : ∀ x0, P (KEYS.SLOT 0 x0)) (r_KEYS_LAST : P (KEYS.LAST 0)) (r_KEYS_EVT : P (KEYS.EVT 0)) (r_KEYS_CNT : P (KEYS.CNT 0 6)) : Writes (Act.kaRelay m) P := by
  unfold Act.kaRelay
  try dsimp only
  repeat' (with_reducible first | exact r_PLX_CNT | exact r_DEV_CNT_LAST _ | exact r_DEV_EVT _ | exact r_KEYS_SLOT _ | exact r_KEYS_LAST | exact r_KEYS_EVT | exact r_KEYS_CNT | apply writes_Act_ezPost | apply writes_Act_ezRelayed | apply Writes.get | apply Writes.when | apply Writes.each | apply Writes.opt | intro _ | dsimp only)
  all_goals first | exact r_PLX_CNT | exact r_DEV_CNT_LAST _ | exact r_DEV_EVT _ | exact r_KEYS_SLOT _ | exact r_KEYS_LAST | exact r_KEYS_EVT | exact r_KEYS_CNT

theorem writes_Act_kaAccept {m : EzMsg} {first : Bool} {P : Nat → Prop} (r_PLX_LAST : P (PLX.LAST 0)) (r_PLX_EVT : P (PLX.EVT 0)) (r_PLX_CNT : P (PLX.CNT 0 1)) (r_DEV_CNT_LAST : ∀ x0, P (DEV.CNT_LAST x0)) (r_DEV_EVT : ∀ x0, P (DEV.EVT x0)) (r_WAKE_PN_STAT : ∀ x0, P (WAKE.PN_STAT 0 x0)) (r_WAKE_CNT : P (WAKE.CNT 0 8)) (r_WAKE_CAUSE : P (WAKE.CAUSE 0)) (r_WAKE_EVT : P (WAKE.EVT 0)) (r_WAKE_CNT_2 : P (WAKE.CNT 0 5)) (r_WKP_EVT : ∀ x0, P (WKP.EVT x0)) (r_PLX_CNT_2 : P (PLX.CNT 0 6)) (r_KEYS_SLOT : ∀ x0, P (KEYS.SLOT 0 x0)) (r_KEYS_LAST : P (KEYS.LAST 0)) (r_KEYS_EVT : P (KEYS.EVT 0)) (r_KEYS_CNT : P (KEYS.CNT 0 6)) : Writes (Act.kaAccept m first) P := by
  unfold Act.kaAccept
  try dsimp only
  repeat' (with_reducible first | exact r_PLX_LAST | exact r_PLX_EVT | exact r_PLX_CNT | exact r_DEV_CNT_LAST _ | exact r_DEV_EVT _ | exact r_WAKE_PN_STAT _ | exact r_WAKE_CNT | exact r_WAKE_CAUSE | exact r_WAKE_EVT | exact r_WAKE_CNT_2 | exact r_WKP_EVT _ | exact r_PLX_CNT_2 | exact r_KEYS_SLOT _ | exact r_KEYS_LAST | exact r_KEYS_EVT | exact r_KEYS_CNT | apply writes_Act_setMember | apply writes_Act_censusUpdate | apply writes_Act_plxCount | apply writes_Act_pnSeen | apply writes_Act_kaRelay | apply Writes.all_cons | apply Writes.all_nil | apply Writes.get | apply Writes.ite | intro _ | split | dsimp only)
  all_goals first | exact r_PLX_LAST | exact r_PLX_EVT | exact r_PLX_CNT | exact r_DEV_CNT_LAST _ | exact r_DEV_EVT _ | exact r_WAKE_PN_STAT _ | exact r_WAKE_CNT | exact r_WAKE_CAUSE | exact r_WAKE_EVT | exact r_WAKE_CNT_2 | exact r_WKP_EVT _ | exact r_PLX_CNT_2 | exact r_KEYS_SLOT _ | exact r_KEYS_LAST | exact r_KEYS_EVT | exact r_KEYS_CNT

theorem writes_keepaliveReceive {past : Bool} {P : Nat → Prop} (r_PLX_LAST : P (PLX.LAST 0)) (r_PLX_EVT : P (PLX.EVT 0)) (r_KEYS_SLOT : ∀ x0, P (KEYS.SLOT 0 x0)) (r_KEYS_LAST : P (KEYS.LAST 0)) (r_KEYS_EVT : P (KEYS.EVT 0)) (r_KEYS_CNT : P (KEYS.CNT 0 6)) (r_DEV_CNT_LAST : ∀ x0, P (DEV.CNT_LAST x0)) (r_DEV_EVT : ∀ x0, P (DEV.EVT x0)) (r_PLX_CNT : ∀ x0, P (PLX.CNT 0 x0)) (r_WAKE_PN_STAT : ∀ x0, P (WAKE.PN_STAT 0 x0)) (r_WAKE_CNT : P (WAKE.CNT 0 8)) (r_WAKE_CAUSE : P (WAKE.CAUSE 0)) (r_WAKE_EVT : P (WAKE.EVT 0)) (r_WAKE_CNT_2 : P (WAKE.CNT 0 5)) (r_WKP_EVT : ∀ x0, P (WKP.EVT x0)) : Writes (keepaliveReceive past) P := by
  unfold keepaliveReceive
  try dsimp only
  repeat' (with_reducible first | exact r_PLX_LAST | exact r_PLX_EVT | exact r_KEYS_SLOT _ | exact r_KEYS_LAST | exact r_KEYS_EVT | exact r_KEYS_CNT | exact r_DEV_CNT_LAST _ | exact r_DEV_EVT _ | exact r_PLX_CNT _ | exact r_WAKE_PN_STAT _ | exact r_WAKE_CNT | exact r_WAKE_CAUSE | exact r_WAKE_EVT | exact r_WAKE_CNT_2 | exact r_WKP_EVT _ | apply writes_Act_plxEvent | apply writes_Act_ezMember | apply writes_Act_kaAccept | apply Writes.get | apply Writes.when | intro _ | dsimp only)
  all_goals first | exact r_PLX_LAST | exact r_PLX_EVT | exact r_KEYS_SLOT _ | exact r_KEYS_LAST | exact r_KEYS_EVT | exact r_KEYS_CNT | exact r_DEV_CNT_LAST _ | exact r_DEV_EVT _ | exact r_PLX_CNT _ | exact r_WAKE_PN_STAT _ | exact r_WAKE_CNT | exact r_WAKE_CAUSE | exact r_WAKE_EVT | exact r_WAKE_CNT_2 | exact r_WKP_EVT _

theorem writes_canKeepaliveReceive {p c : Nat} {b : List Byte} {P : Nat → Prop} (r_PLX_LAST : P (PLX.LAST 0)) (r_PLX_EVT : P (PLX.EVT 0)) (r_WAKE_PN_STAT : ∀ x0, P (WAKE.PN_STAT 0 x0)) (r_WAKE_CNT : P (WAKE.CNT 0 8)) (r_DEV_CNT_LAST : ∀ x0, P (DEV.CNT_LAST x0)) (r_DEV_EVT : ∀ x0, P (DEV.EVT x0)) (r_WAKE_CAUSE : P (WAKE.CAUSE 0)) (r_WAKE_EVT : P (WAKE.EVT 0)) (r_WAKE_CNT_2 : P (WAKE.CNT 0 5)) (r_WKP_EVT : ∀ x0, P (WKP.EVT x0)) : Writes (canKeepaliveReceive p c b) P := by
  unfold canKeepaliveReceive
  try dsimp only
  repeat' (with_reducible first | exact r_PLX_LAST | exact r_PLX_EVT | exact r_WAKE_PN_STAT _ | exact r_WAKE_CNT | exact r_DEV_CNT_LAST _ | exact r_DEV_EVT _ | exact r_WAKE_CAUSE | exact r_WAKE_EVT | exact r_WAKE_CNT_2 | exact r_WKP_EVT _ | apply writes_Act_event | apply writes_Act_pnSeen | apply Writes.setReg | apply Writes.seq | apply Writes.get | apply Writes.when | intro _ | dsimp only)
  all_goals first | exact r_PLX_LAST | exact r_PLX_EVT | exact r_WAKE_PN_STAT _ | exact r_WAKE_CNT | exact r_DEV_CNT_LAST _ | exact r_DEV_EVT _ | exact r_WAKE_CAUSE | exact r_WAKE_EVT | exact r_WAKE_CNT_2 | exact r_WKP_EVT _

theorem writes_Act_ezRequest {dev opcode addr data origin : Nat} {k : Option Nat → Act} {P : Nat → Prop} (r_PLX_LAST : P (PLX.LAST 0)) (r_PLX_EVT : P (PLX.EVT 0)) (r_PLX_CNT : P (PLX.CNT 0 8)) (r_DEV_CNT_LAST : ∀ x0, P (DEV.CNT_LAST x0)) (r_DEV_EVT : ∀ x0, P (DEV.EVT x0)) (r_PLX_CNT_2 : P (PLX.CNT 0 7)) (r_KEYS_SLOT : ∀ x0, P (KEYS.SLOT 0 x0)) (r_KEYS_LAST : P (KEYS.LAST 0)) (r_KEYS_EVT : P (KEYS.EVT 0)) (r_KEYS_CNT : P (KEYS.CNT 0 6)) (hk_k : ∀ x0, Writes (k x0) P) : Writes (Act.ezRequest dev opcode addr data origin k) P := by
  unfold Act.ezRequest
  try dsimp only
  repeat' (with_reducible first | exact r_PLX_LAST | exact r_PLX_EVT | exact r_PLX_CNT | exact r_DEV_CNT_LAST _ | exact r_DEV_EVT _ | exact r_PLX_CNT_2 | exact r_KEYS_SLOT _ | exact r_KEYS_LAST | exact r_KEYS_EVT | exact r_KEYS_CNT | exact hk_k _ | apply writes_Act_plxEvent | apply writes_Act_plxCount | apply writes_Act_ezMake | apply writes_Act_ezPost | apply Writes.all_cons | apply Writes.all_nil | apply Writes.get | apply Writes.ite | intro _ | split | dsimp only)
  all_goals first | exact r_PLX_LAST | exact r_PLX_EVT | exact r_PLX_CNT | exact r_DEV_CNT_LAST _ | exact r_DEV_EVT _ | exact r_PLX_CNT_2 | exact r_KEYS_SLOT _ | exact r_KEYS_LAST | exact r_KEYS_EVT | exact r_KEYS_CNT

theorem writes_Act_ezReply {dev tag code : Nat} {data : List Byte} {P : Nat → Prop} (r_KEYS_SLOT : ∀ x0, P (KEYS.SLOT 0 x0)) (r_KEYS_LAST : P (KEYS.LAST 0)) (r_KEYS_EVT : P (KEYS.EVT 0)) (r_KEYS_CNT : P (KEYS.CNT 0 6)) (r_DEV_CNT_LAST : ∀ x0, P (DEV.CNT_LAST x0)) (r_DEV_EVT : ∀ x0, P (DEV.EVT x0)) : Writes (Act.ezReply dev tag code data) P := by
  unfold Act.ezReply
  try dsimp only
  repeat' (with_reducible first | exact r_KEYS_SLOT _ | exact r_KEYS_LAST | exact r_KEYS_EVT | exact r_KEYS_CNT | exact r_DEV_CNT_LAST _ | exact r_DEV_EVT _ | apply writes_Act_ezMake | apply writes_Act_ezPost | apply Writes.get | apply Writes.opt | intro _ | dsimp only)
  all_goals first | exact r_KEYS_SLOT _ | exact r_KEYS_LAST | exact r_KEYS_EVT | exact r_KEYS_CNT | exact r_DEV_CNT_LAST _ | exact r_DEV_EVT _

theorem writes_Act_ezForward {m : EzMsg} {P : Nat → Prop} (r_PLX_CNT : P (PLX.CNT 0 6)) (r_DEV_CNT_LAST : ∀ x0, P (DEV.CNT_LAST x0)) (r_DEV_EVT : ∀ x0, P (DEV.EVT x0)) (r_KEYS_SLOT : ∀ x0, P (KEYS.SLOT 0 x0)) (r_KEYS_LAST : P (KEYS.LAST 0)) (r_KEYS_EVT : P (KEYS.EVT 0)) (r_KEYS_CNT : P (KEYS.CNT 0 6)) : Writes (Act.ezForward m) P := by
  unfold Act.ezForward
  try dsimp only
  repeat' (with_reducible first | exact r_PLX_CNT | exact r_DEV_CNT_LAST _ | exact r_DEV_EVT _ | exact r_KEYS_SLOT _ | exact r_KEYS_LAST | exact r_KEYS_EVT | exact r_KEYS_CNT | apply writes_Act_ezPost | apply writes_Act_ezRelayed | apply Writes.get | apply Writes.when | apply Writes.opt | intro _ | dsimp only)
  all_goals first | exact r_PLX_CNT | exact r_DEV_CNT_LAST _ | exact r_DEV_EVT _ | exact r_KEYS_SLOT _ | exact r_KEYS_LAST | exact r_KEYS_EVT | exact r_KEYS_CNT

theorem writes_Act_ezCommand {ty : Nat} {past : Bool} {k : EzMsg → Act} {P : Nat → Prop} (r_PLX_LAST : P (PLX.LAST 0)) (r_PLX_EVT : P (PLX.EVT 0)) (r_KEYS_SLOT : ∀ x0, P (KEYS.SLOT 0 x0)) (r_KEYS_LAST : P (KEYS.LAST 0)) (r_KEYS_EVT : P (KEYS.EVT 0)) (r_KEYS_CNT : P (KEYS.CNT 0 6)) (r_DEV_CNT_LAST : ∀ x0, P (DEV.CNT_LAST x0)) (r_DEV_EVT : ∀ x0, P (DEV.EVT x0)) (r_PLX_CNT : ∀ x0, P (PLX.CNT 0 x0)) (hk_k : ∀ x0, Writes (k x0) P) : Writes (Act.ezCommand ty past k) P := by
  unfold Act.ezCommand
  try dsimp only
  repeat' (with_reducible first | exact r_PLX_LAST | exact r_PLX_EVT | exact r_KEYS_SLOT _ | exact r_KEYS_LAST | exact r_KEYS_EVT | exact r_KEYS_CNT | exact r_DEV_CNT_LAST _ | exact r_DEV_EVT _ | exact r_PLX_CNT _ | exact hk_k _ | apply writes_Act_ezMember | apply writes_Act_ezForward | apply Writes.get | apply Writes.skip | apply Writes.ite | intro _ | split | dsimp only)
  all_goals first | exact r_PLX_LAST | exact r_PLX_EVT | exact r_KEYS_SLOT _ | exact r_KEYS_LAST | exact r_KEYS_EVT | exact r_KEYS_CNT | exact r_DEV_CNT_LAST _ | exact r_DEV_EVT _ | exact r_PLX_CNT _

theorem writes_dtCmd {ag : Agent} {v : Word} {k : Code → Act} {P : Nat → Prop} (r_PLX_DT_CMD : P (PLX.DT_CMD 0)) (r_PLX_DT_W0 : P (PLX.DT_W0 0)) (r_PLX_DT_W1 : P (PLX.DT_W1 0)) (r_PLX_DT_W2 : P (PLX.DT_W2 0)) (r_PLX_DT_W3 : P (PLX.DT_W3 0)) (r_PLX_DT_W4 : P (PLX.DT_W4 0)) (r_BLK_ERR : P (BLK_ERR (aDie (PLX.DT_CMD 0)) (aBlk (PLX.DT_CMD 0)))) (hk_k : ∀ x0, Writes (k x0) P) : Writes (dtCmd ag v k) P := by
  unfold dtCmd
  try dsimp only
  repeat' (with_reducible first | exact r_PLX_DT_CMD | exact r_PLX_DT_W0 | exact r_PLX_DT_W1 | exact r_PLX_DT_W2 | exact r_PLX_DT_W3 | exact r_PLX_DT_W4 | exact r_BLK_ERR | exact hk_k _ | apply writes_Act_setMember | apply writes_Act_badValue | apply writes_Act_censusLeave | apply Writes.setReg | apply Writes.all_cons | apply Writes.all_nil | apply Writes.seq | apply Writes.get | apply Writes.ite | intro _ | split | dsimp only)
  all_goals first | exact r_PLX_DT_CMD | exact r_PLX_DT_W0 | exact r_PLX_DT_W1 | exact r_PLX_DT_W2 | exact r_PLX_DT_W3 | exact r_PLX_DT_W4 | exact r_BLK_ERR

theorem writes_Act_serveNote {gf serial : Nat} {P : Nat → Prop} : Writes (Act.serveNote gf serial) P := by
  unfold Act.serveNote
  try dsimp only
  repeat' (with_reducible first | apply Writes.upd | intro _ | dsimp only)

theorem writes_bootReq {past : Bool} {P : Nat → Prop} (r_PLX_CNT : P (PLX.CNT 0 12)) (r_DEV_CNT_LAST : ∀ x0, P (DEV.CNT_LAST x0)) (r_DEV_EVT : ∀ x0, P (DEV.EVT x0)) (r_PLX_CNT_2 : P (PLX.CNT 0 10)) (r_KEYS_SLOT : ∀ x0, P (KEYS.SLOT 0 x0)) (r_KEYS_LAST : P (KEYS.LAST 0)) (r_KEYS_EVT : P (KEYS.EVT 0)) (r_KEYS_CNT : P (KEYS.CNT 0 6)) : Writes (bootReq past) P := by
  unfold bootReq
  try dsimp only
  repeat' (with_reducible first | exact r_PLX_CNT | exact r_DEV_CNT_LAST _ | exact r_DEV_EVT _ | exact r_PLX_CNT_2 | exact r_KEYS_SLOT _ | exact r_KEYS_LAST | exact r_KEYS_EVT | exact r_KEYS_CNT | apply writes_Act_plxCount | apply writes_Act_ezTake | apply writes_Act_ezMake | apply writes_Act_ezPost | apply writes_Act_serveNote | apply Writes.seq | apply Writes.get | apply Writes.when | apply Writes.ite | intro _ | split | dsimp only)
  all_goals first | exact r_PLX_CNT | exact r_DEV_CNT_LAST _ | exact r_DEV_EVT _ | exact r_PLX_CNT_2 | exact r_KEYS_SLOT _ | exact r_KEYS_LAST | exact r_KEYS_EVT | exact r_KEYS_CNT

theorem writes_chunkReq {past : Bool} {P : Nat → Prop} (r_PLX_CNT : P (PLX.CNT 0 12)) (r_DEV_CNT_LAST : ∀ x0, P (DEV.CNT_LAST x0)) (r_DEV_EVT : ∀ x0, P (DEV.EVT x0)) (r_PLX_CNT_2 : P (PLX.CNT 0 11)) (r_PLX_CNT_3 : P (PLX.CNT 0 10)) (r_KEYS_SLOT : ∀ x0, P (KEYS.SLOT 0 x0)) (r_KEYS_LAST : P (KEYS.LAST 0)) (r_KEYS_EVT : P (KEYS.EVT 0)) (r_KEYS_CNT : P (KEYS.CNT 0 6)) : Writes (chunkReq past) P := by
  unfold chunkReq
  try dsimp only
  repeat' (with_reducible first | exact r_PLX_CNT | exact r_DEV_CNT_LAST _ | exact r_DEV_EVT _ | exact r_PLX_CNT_2 | exact r_PLX_CNT_3 | exact r_KEYS_SLOT _ | exact r_KEYS_LAST | exact r_KEYS_EVT | exact r_KEYS_CNT | apply writes_Act_plxCount | apply writes_Act_ezTake | apply writes_Act_ezMake | apply writes_Act_ezPost | apply writes_Act_serveNote | apply Writes.all_cons | apply Writes.all_nil | apply Writes.get | apply Writes.when | apply Writes.opt | apply Writes.ite | intro _ | split | dsimp only)
  all_goals first | exact r_PLX_CNT | exact r_DEV_CNT_LAST _ | exact r_DEV_EVT _ | exact r_PLX_CNT_2 | exact r_PLX_CNT_3 | exact r_KEYS_SLOT _ | exact r_KEYS_LAST | exact r_KEYS_EVT | exact r_KEYS_CNT

/-! ## Partition -/

theorem writes_Act_cpuCount {p k i : Nat} {P : Nat → Prop} (r_CPU_CNT : P (CPU.CNT p (16 * k + i))) (r_DEV_CNT_LAST : ∀ x0, P (DEV.CNT_LAST x0)) (r_DEV_EVT : ∀ x0, P (DEV.EVT x0)) : Writes (Act.cpuCount p k i) P := by
  unfold Act.cpuCount
  try dsimp only
  repeat' (with_reducible first | exact r_CPU_CNT | exact r_DEV_CNT_LAST _ | exact r_DEV_EVT _ | apply writes_Act_count | intro _ | dsimp only)
  all_goals first | exact r_CPU_CNT | exact r_DEV_CNT_LAST _ | exact r_DEV_EVT _

theorem writes_Act_slotEnter {p c i : Nat} {P : Nat → Prop} : Writes (Act.slotEnter p c i) P := by
  unfold Act.slotEnter
  try dsimp only
  repeat' (with_reducible first | apply writes_Act_setSlotOf | apply writes_Act_setSlotEdge | apply Writes.seq | apply Writes.get | intro _ | dsimp only)

theorem writes_slotSwitch {p c : Nat} {P : Nat → Prop} : Writes (slotSwitch p c) P := by
  unfold slotSwitch
  try dsimp only
  repeat' (with_reducible first | apply writes_Act_slotEnter | apply Writes.get | apply Writes.when | apply Writes.opt | intro _ | dsimp only)

theorem writes_Act_framesBegin {p : Nat} {P : Nat → Prop} : Writes (Act.framesBegin p) P := by
  unfold Act.framesBegin
  try dsimp only
  repeat' (with_reducible first | apply writes_Act_slotEnter | apply Writes.get | apply Writes.each | apply Writes.opt | intro _ | dsimp only)

theorem writes_Act_dlinkDrop {d : Nat} {P : Nat → Prop} (r_DEV_DLINK_DROPS : ∀ x0 x1, P (DEV.DLINK_DROPS x0 x1)) (r_DEV_CNT_LAST : ∀ x0, P (DEV.CNT_LAST x0)) (r_DEV_EVT : ∀ x0, P (DEV.EVT x0)) : Writes (Act.dlinkDrop d) P := by
  unfold Act.dlinkDrop
  try dsimp only
  repeat' (with_reducible first | exact r_DEV_DLINK_DROPS _ _ | exact r_DEV_CNT_LAST _ | exact r_DEV_EVT _ | apply writes_Act_count | apply Writes.get | intro _ | dsimp only)
  all_goals first | exact r_DEV_DLINK_DROPS _ _ | exact r_DEV_CNT_LAST _ | exact r_DEV_EVT _

theorem writes_Act_loadCmd {p k n : Nat} {v : Word} {P : Nat → Prop} (r_BLK_ERR : P (BLK_ERR (aDie (CHN.CMD (n / 32) (n % 32))) (aBlk (CHN.CMD (n / 32) (n % 32))))) (r_CHN_CMD : P (CHN.CMD (n / 32) (n % 32))) (r_CHN_CNT : P (CHN.CNT (n / 32) (n % 32) 10)) (r_DEV_CNT_LAST : ∀ x0, P (DEV.CNT_LAST x0)) (r_DEV_EVT : ∀ x0, P (DEV.EVT x0)) (r_CHN_CNT_2 : P (CHN.CNT (n / 32) (n % 32) 9)) (r_WAKE_EVT : P (WAKE.EVT 0)) (r_WAKE_CNT : P (WAKE.CNT 0 9)) (r_WAKE_CNT_2 : P (WAKE.CNT 0 11)) (r_DEV_DLINK_DROPS : ∀ x0 x1, P (DEV.DLINK_DROPS x0 x1)) : Writes (Act.loadCmd p k n v) P := by
  unfold Act.loadCmd
  try dsimp only
  repeat' (with_reducible first | exact r_BLK_ERR | exact r_CHN_CMD | exact r_CHN_CNT | exact r_DEV_CNT_LAST _ | exact r_DEV_EVT _ | exact r_CHN_CNT_2 | exact r_WAKE_EVT | exact r_WAKE_CNT | exact r_WAKE_CNT_2 | exact r_DEV_DLINK_DROPS _ _ | apply writes_chnCmd | apply writes_Act_dlinkDrop | apply Writes.get | apply Writes.when | apply Writes.skip | apply Writes.ite | intro _ | split | dsimp only)
  all_goals first | exact r_BLK_ERR | exact r_CHN_CMD | exact r_CHN_CNT | exact r_DEV_CNT_LAST _ | exact r_DEV_EVT _ | exact r_CHN_CNT_2 | exact r_WAKE_EVT | exact r_WAKE_CNT | exact r_WAKE_CNT_2 | exact r_DEV_DLINK_DROPS _ _

theorem writes_Act_chFirmware {p n : Nat} {l : List (Fld × Nat)} {P : Nat → Prop} (r_APR_CH : P (APR.CH p n)) : Writes (Act.chFirmware p n l) P := by
  unfold Act.chFirmware
  try dsimp only
  repeat' (with_reducible first | exact r_APR_CH | apply writes_Act_setAprAt | apply writes_Act_setFlds | apply Writes.seq | apply Writes.get | apply Writes.when | intro _ | dsimp only)
  all_goals first | exact r_APR_CH

theorem writes_Act_partStop {p k : Nat} {P : Nat → Prop} (r_WAKE_REQ : P (WAKE.REQ p k)) (r_BLK_ERR : ∀ x0 x1, P (BLK_ERR x0 x1)) (r_CHN_CMD : ∀ x0 x1, P (CHN.CMD x0 x1)) (r_CHN_CNT : ∀ x0 x1, P (CHN.CNT x0 x1 10)) (r_DEV_CNT_LAST : ∀ x0, P (DEV.CNT_LAST x0)) (r_DEV_EVT : ∀ x0, P (DEV.EVT x0)) (r_CHN_CNT_2 : ∀ x0 x1, P (CHN.CNT x0 x1 9)) (r_WAKE_EVT : P (WAKE.EVT 0)) (r_WAKE_CNT : P (WAKE.CNT 0 9)) (r_WAKE_CNT_2 : P (WAKE.CNT 0 11)) (r_DEV_DLINK_DROPS : ∀ x0 x1, P (DEV.DLINK_DROPS x0 x1)) (r_APR_CH : ∀ x0, P (APR.CH p x0)) : Writes (Act.partStop p k) P := by
  unfold Act.partStop
  try dsimp only
  repeat' (with_reducible first | exact r_WAKE_REQ | exact r_BLK_ERR _ _ | exact r_CHN_CMD _ _ | exact r_CHN_CNT _ _ | exact r_DEV_CNT_LAST _ | exact r_DEV_EVT _ | exact r_CHN_CNT_2 _ _ | exact r_WAKE_EVT | exact r_WAKE_CNT | exact r_WAKE_CNT_2 | exact r_DEV_DLINK_DROPS _ _ | exact r_APR_CH _ | apply writes_Act_modWpend | apply writes_Act_loadCmd | apply writes_Act_chFirmware | apply Writes.setReg | apply Writes.all_cons | apply Writes.all_nil | apply Writes.seq | apply Writes.get | apply Writes.when | apply Writes.each | intro _ | dsimp only)
  all_goals first | exact r_WAKE_REQ | exact r_BLK_ERR _ _ | exact r_CHN_CMD _ _ | exact r_CHN_CNT _ _ | exact r_DEV_CNT_LAST _ | exact r_DEV_EVT _ | exact r_CHN_CNT_2 _ _ | exact r_WAKE_EVT | exact r_WAKE_CNT | exact r_WAKE_CNT_2 | exact r_DEV_DLINK_DROPS _ _ | exact r_APR_CH _

theorem writes_Act_partHalt {p k cause : Nat} {P : Nat → Prop} (r_CPU_PSTAT : P (CPU.PSTAT p k)) (r_CPU_EVT : P (CPU.EVT p)) (r_CPU_CNT : P (CPU.CNT p (16 * k + 7))) (r_DEV_CNT_LAST : ∀ x0, P (DEV.CNT_LAST x0)) (r_DEV_EVT : ∀ x0, P (DEV.EVT x0)) (r_WAKE_REQ : P (WAKE.REQ p k)) (r_BLK_ERR : ∀ x0 x1, P (BLK_ERR x0 x1)) (r_CHN_CMD : ∀ x0 x1, P (CHN.CMD x0 x1)) (r_CHN_CNT : ∀ x0 x1, P (CHN.CNT x0 x1 10)) (r_CHN_CNT_2 : ∀ x0 x1, P (CHN.CNT x0 x1 9)) (r_WAKE_EVT : P (WAKE.EVT 0)) (r_WAKE_CNT : P (WAKE.CNT 0 9)) (r_WAKE_CNT_2 : P (WAKE.CNT 0 11)) (r_DEV_DLINK_DROPS : ∀ x0 x1, P (DEV.DLINK_DROPS x0 x1)) (r_APR_CH : ∀ x0, P (APR.CH p x0)) : Writes (Act.partHalt p k cause) P := by
  unfold Act.partHalt
  try dsimp only
  repeat' (with_reducible first | exact r_CPU_PSTAT | exact r_CPU_EVT | exact r_CPU_CNT | exact r_DEV_CNT_LAST _ | exact r_DEV_EVT _ | exact r_WAKE_REQ | exact r_BLK_ERR _ _ | exact r_CHN_CMD _ _ | exact r_CHN_CNT _ _ | exact r_CHN_CNT_2 _ _ | exact r_WAKE_EVT | exact r_WAKE_CNT | exact r_WAKE_CNT_2 | exact r_DEV_DLINK_DROPS _ _ | exact r_APR_CH _ | apply writes_Act_modPart | apply writes_Act_setFld | apply writes_Act_event | apply writes_Act_cpuCount | apply writes_Act_partStop | apply Writes.all_cons | apply Writes.all_nil | intro _ | dsimp only)
  all_goals first | exact r_CPU_PSTAT | exact r_CPU_EVT | exact r_CPU_CNT | exact r_DEV_CNT_LAST _ | exact r_DEV_EVT _ | exact r_WAKE_REQ | exact r_BLK_ERR _ _ | exact r_CHN_CMD _ _ | exact r_CHN_CNT _ _ | exact r_CHN_CNT_2 _ _ | exact r_WAKE_EVT | exact r_WAKE_CNT | exact r_WAKE_CNT_2 | exact r_DEV_DLINK_DROPS _ _ | exact r_APR_CH _

theorem writes_partitionHalt {p k cause : Nat} {P : Nat → Prop} (r_CPU_PSTAT : P (CPU.PSTAT p k)) (r_CPU_EVT : P (CPU.EVT p)) (r_CPU_CNT : P (CPU.CNT p (16 * k + 7))) (r_DEV_CNT_LAST : ∀ x0, P (DEV.CNT_LAST x0)) (r_DEV_EVT : ∀ x0, P (DEV.EVT x0)) (r_WAKE_REQ : P (WAKE.REQ p k)) (r_BLK_ERR : ∀ x0 x1, P (BLK_ERR x0 x1)) (r_CHN_CMD : ∀ x0 x1, P (CHN.CMD x0 x1)) (r_CHN_CNT : ∀ x0 x1, P (CHN.CNT x0 x1 10)) (r_CHN_CNT_2 : ∀ x0 x1, P (CHN.CNT x0 x1 9)) (r_WAKE_EVT : P (WAKE.EVT 0)) (r_WAKE_CNT : P (WAKE.CNT 0 9)) (r_WAKE_CNT_2 : P (WAKE.CNT 0 11)) (r_DEV_DLINK_DROPS : ∀ x0 x1, P (DEV.DLINK_DROPS x0 x1)) (r_APR_CH : ∀ x0, P (APR.CH p x0)) : Writes (partitionHalt p k cause) P := by
  unfold partitionHalt
  try dsimp only
  repeat' (with_reducible first | exact r_CPU_PSTAT | exact r_CPU_EVT | exact r_CPU_CNT | exact r_DEV_CNT_LAST _ | exact r_DEV_EVT _ | exact r_WAKE_REQ | exact r_BLK_ERR _ _ | exact r_CHN_CMD _ _ | exact r_CHN_CNT _ _ | exact r_CHN_CNT_2 _ _ | exact r_WAKE_EVT | exact r_WAKE_CNT | exact r_WAKE_CNT_2 | exact r_DEV_DLINK_DROPS _ _ | exact r_APR_CH _ | apply writes_Act_partHalt | apply Writes.get | apply Writes.when | intro _ | dsimp only)
  all_goals first | exact r_CPU_PSTAT | exact r_CPU_EVT | exact r_CPU_CNT | exact r_DEV_CNT_LAST _ | exact r_DEV_EVT _ | exact r_WAKE_REQ | exact r_BLK_ERR _ _ | exact r_CHN_CMD _ _ | exact r_CHN_CNT _ _ | exact r_CHN_CNT_2 _ _ | exact r_WAKE_EVT | exact r_WAKE_CNT | exact r_WAKE_CNT_2 | exact r_DEV_DLINK_DROPS _ _ | exact r_APR_CH _

theorem writes_Act_partRestart {p k cause : Nat} {forget : Bool} {P : Nat → Prop} (r_CPU_KICK : P (CPU.KICK p k)) (r_CPU_PSTAT : P (CPU.PSTAT p k)) (r_CPU_CNT : P (CPU.CNT p (16 * k + 6))) (r_DEV_CNT_LAST : ∀ x0, P (DEV.CNT_LAST x0)) (r_DEV_EVT : ∀ x0, P (DEV.EVT x0)) (r_WAKE_REQ : P (WAKE.REQ p k)) (r_BLK_ERR : ∀ x0 x1, P (BLK_ERR x0 x1)) (r_CHN_CMD : ∀ x0 x1, P (CHN.CMD x0 x1)) (r_CHN_CNT : ∀ x0 x1, P (CHN.CNT x0 x1 10)) (r_CHN_CNT_2 : ∀ x0 x1, P (CHN.CNT x0 x1 9)) (r_WAKE_EVT : P (WAKE.EVT 0)) (r_WAKE_CNT : P (WAKE.CNT 0 9)) (r_WAKE_CNT_2 : P (WAKE.CNT 0 11)) (r_DEV_DLINK_DROPS : ∀ x0 x1, P (DEV.DLINK_DROPS x0 x1)) (r_APR_CH : ∀ x0, P (APR.CH p x0)) : Writes (Act.partRestart p k cause forget) P := by
  unfold Act.partRestart
  try dsimp only
  repeat' (with_reducible first | exact r_CPU_KICK | exact r_CPU_PSTAT | exact r_CPU_CNT | exact r_DEV_CNT_LAST _ | exact r_DEV_EVT _ | exact r_WAKE_REQ | exact r_BLK_ERR _ _ | exact r_CHN_CMD _ _ | exact r_CHN_CNT _ _ | exact r_CHN_CNT_2 _ _ | exact r_WAKE_EVT | exact r_WAKE_CNT | exact r_WAKE_CNT_2 | exact r_DEV_DLINK_DROPS _ _ | exact r_APR_CH _ | apply writes_Act_modBuf | apply writes_Act_modPart | apply writes_Act_setRing | apply writes_Act_setFld | apply writes_Act_cpuCount | apply writes_Act_partStop | apply Writes.setReg | apply Writes.all_cons | apply Writes.all_nil | apply Writes.get | apply Writes.ite | intro _ | split | dsimp only)
  all_goals first | exact r_CPU_KICK | exact r_CPU_PSTAT | exact r_CPU_CNT | exact r_DEV_CNT_LAST _ | exact r_DEV_EVT _ | exact r_WAKE_REQ | exact r_BLK_ERR _ _ | exact r_CHN_CMD _ _ | exact r_CHN_CNT _ _ | exact r_CHN_CNT_2 _ _ | exact r_WAKE_EVT | exact r_WAKE_CNT | exact r_WAKE_CNT_2 | exact r_DEV_DLINK_DROPS _ _ | exact r_APR_CH _

theorem writes_Act_safeStart {p k : Nat} {P : Nat → Prop} : Writes (Act.safeStart p k) P := by
  unfold Act.safeStart
  try dsimp only
  repeat' (with_reducible first | apply writes_Act_modSafePair | apply Writes.get | apply Writes.when | intro _ | dsimp only)

theorem writes_Act_hartTrap {p k c cause loc : Nat} {P : Nat → Prop} : Writes (Act.hartTrap p k c cause loc) P := by
  unfold Act.hartTrap
  try dsimp only
  repeat' (with_reducible first | apply writes_Act_modPart | apply Writes.ite | apply Writes.all_map | intro _ | split | dsimp only)

theorem writes_Act_partRun {p k : Nat} {P : Nat → Prop} (r_CPU_KICK : P (CPU.KICK p k)) : Writes (Act.partRun p k) P := by
  unfold Act.partRun
  try dsimp only
  repeat' (with_reducible first | exact r_CPU_KICK | apply writes_Act_modPart | apply writes_Act_safeStart | apply Writes.setReg | apply Writes.all_cons | apply Writes.all_nil | apply Writes.get | intro _ | dsimp only)
  all_goals first | exact r_CPU_KICK

theorem writes_Act_partFail {p k : Nat} {P : Nat → Prop} (r_CPU_PSTAT : P (CPU.PSTAT p k)) : Writes (Act.partFail p k) P := by
  unfold Act.partFail
  try dsimp only
  repeat' (with_reducible first | exact r_CPU_PSTAT | apply writes_Act_modPart | apply writes_Act_setFld | apply Writes.seq | intro _ | dsimp only)
  all_goals first | exact r_CPU_PSTAT

theorem writes_pcmdWrite {ag : Agent} {p : Nat} {v : Word} {cont : Code → Act} {P : Nat → Prop} (r_CPU_PCMD : P (CPU.PCMD p)) (r_CPU_PSTAT : ∀ x0, P (CPU.PSTAT p x0)) (r_CPU_EVT : P (CPU.EVT p)) (r_CPU_CNT : ∀ x0, P (CPU.CNT p x0)) (r_DEV_CNT_LAST : ∀ x0, P (DEV.CNT_LAST x0)) (r_DEV_EVT : ∀ x0, P (DEV.EVT x0)) (r_WAKE_REQ : ∀ x0, P (WAKE.REQ p x0)) (r_BLK_ERR : ∀ x0 x1, P (BLK_ERR x0 x1)) (r_CHN_CMD : ∀ x0 x1, P (CHN.CMD x0 x1)) (r_CHN_CNT : ∀ x0 x1, P (CHN.CNT x0 x1 10)) (r_CHN_CNT_2 : ∀ x0 x1, P (CHN.CNT x0 x1 9)) (r_WAKE_EVT : P (WAKE.EVT 0)) (r_WAKE_CNT : P (WAKE.CNT 0 9)) (r_WAKE_CNT_2 : P (WAKE.CNT 0 11)) (r_DEV_DLINK_DROPS : ∀ x0 x1, P (DEV.DLINK_DROPS x0 x1)) (r_APR_CH : ∀ x0, P (APR.CH p x0)) (r_CPU_KICK : ∀ x0, P (CPU.KICK p x0)) (hk_cont : ∀ x0, Writes (cont x0) P) : Writes (pcmdWrite ag p v cont) P := by
  unfold pcmdWrite
  try dsimp only
  repeat' (with_reducible first | exact r_CPU_PCMD | exact r_CPU_PSTAT _ | exact r_CPU_EVT | exact r_CPU_CNT _ | exact r_DEV_CNT_LAST _ | exact r_DEV_EVT _ | exact r_WAKE_REQ _ | exact r_BLK_ERR _ _ | exact r_CHN_CMD _ _ | exact r_CHN_CNT _ _ | exact r_CHN_CNT_2 _ _ | exact r_WAKE_EVT | exact r_WAKE_CNT | exact r_WAKE_CNT_2 | exact r_DEV_DLINK_DROPS _ _ | exact r_APR_CH _ | exact r_CPU_KICK _ | exact hk_cont _ | apply writes_Act_badValue | apply writes_Act_partHalt | apply writes_Act_partRestart | apply Writes.setReg | apply Writes.all_cons | apply Writes.all_nil | apply Writes.seq | apply Writes.get | apply Writes.ite | intro _ | split | dsimp only)
  all_goals first | exact r_CPU_PCMD | exact r_CPU_PSTAT _ | exact r_CPU_EVT | exact r_CPU_CNT _ | exact r_DEV_CNT_LAST _ | exact r_DEV_EVT _ | exact r_WAKE_REQ _ | exact r_BLK_ERR _ _ | exact r_CHN_CMD _ _ | exact r_CHN_CNT _ _ | exact r_CHN_CNT_2 _ _ | exact r_WAKE_EVT | exact r_WAKE_CNT | exact r_WAKE_CNT_2 | exact r_DEV_DLINK_DROPS _ _ | exact r_APR_CH _ | exact r_CPU_KICK _

theorem writes_Act_wdtExpire {p k : Nat} {P : Nat → Prop} (r_CPU_EVT : P (CPU.EVT p)) (r_CPU_CNT : P (CPU.CNT p (16 * k + 5))) (r_DEV_CNT_LAST : ∀ x0, P (DEV.CNT_LAST x0)) (r_DEV_EVT : ∀ x0, P (DEV.EVT x0)) (r_CPU_PSTAT : P (CPU.PSTAT p k)) (r_CPU_CNT_2 : P (CPU.CNT p (16 * k + 7))) (r_WAKE_REQ : P (WAKE.REQ p k)) (r_BLK_ERR : ∀ x0 x1, P (BLK_ERR x0 x1)) (r_CHN_CMD : ∀ x0 x1, P (CHN.CMD x0 x1)) (r_CHN_CNT : ∀ x0 x1, P (CHN.CNT x0 x1 10)) (r_CHN_CNT_2 : ∀ x0 x1, P (CHN.CNT x0 x1 9)) (r_WAKE_EVT : P (WAKE.EVT 0)) (r_WAKE_CNT : P (WAKE.CNT 0 9)) (r_WAKE_CNT_2 : P (WAKE.CNT 0 11)) (r_DEV_DLINK_DROPS : ∀ x0 x1, P (DEV.DLINK_DROPS x0 x1)) (r_APR_CH : ∀ x0, P (APR.CH p x0)) (r_CPU_KICK : P (CPU.KICK p k)) (r_CPU_CNT_3 : P (CPU.CNT p (16 * k + 6))) : Writes (Act.wdtExpire p k) P := by
  unfold Act.wdtExpire
  try dsimp only
  repeat' (with_reducible first | exact r_CPU_EVT | exact r_CPU_CNT | exact r_DEV_CNT_LAST _ | exact r_DEV_EVT _ | exact r_CPU_PSTAT | exact r_CPU_CNT_2 | exact r_WAKE_REQ | exact r_BLK_ERR _ _ | exact r_CHN_CMD _ _ | exact r_CHN_CNT _ _ | exact r_CHN_CNT_2 _ _ | exact r_WAKE_EVT | exact r_WAKE_CNT | exact r_WAKE_CNT_2 | exact r_DEV_DLINK_DROPS _ _ | exact r_APR_CH _ | exact r_CPU_KICK | exact r_CPU_CNT_3 | apply writes_Act_event | apply writes_Act_cpuCount | apply writes_Act_partHalt | apply writes_Act_partRestart | apply Writes.all_cons | apply Writes.all_nil | apply Writes.get | apply Writes.ite | intro _ | split | dsimp only)
  all_goals first | exact r_CPU_EVT | exact r_CPU_CNT | exact r_DEV_CNT_LAST _ | exact r_DEV_EVT _ | exact r_CPU_PSTAT | exact r_CPU_CNT_2 | exact r_WAKE_REQ | exact r_BLK_ERR _ _ | exact r_CHN_CMD _ _ | exact r_CHN_CNT _ _ | exact r_CHN_CNT_2 _ _ | exact r_WAKE_EVT | exact r_WAKE_CNT | exact r_WAKE_CNT_2 | exact r_DEV_DLINK_DROPS _ _ | exact r_APR_CH _ | exact r_CPU_KICK | exact r_CPU_CNT_3

theorem writes_kickWrite {ag : Agent} {p k : Nat} {v : Word} {cont : Code → Act} {P : Nat → Prop} (r_CPU_KICK : P (CPU.KICK p k)) (r_CPU_EVT : P (CPU.EVT p)) (r_CPU_CNT : P (CPU.CNT p (16 * k + 5))) (r_DEV_CNT_LAST : ∀ x0, P (DEV.CNT_LAST x0)) (r_DEV_EVT : ∀ x0, P (DEV.EVT x0)) (r_CPU_PSTAT : P (CPU.PSTAT p k)) (r_CPU_CNT_2 : P (CPU.CNT p (16 * k + 7))) (r_WAKE_REQ : P (WAKE.REQ p k)) (r_BLK_ERR : ∀ x0 x1, P (BLK_ERR x0 x1)) (r_CHN_CMD : ∀ x0 x1, P (CHN.CMD x0 x1)) (r_CHN_CNT : ∀ x0 x1, P (CHN.CNT x0 x1 10)) (r_CHN_CNT_2 : ∀ x0 x1, P (CHN.CNT x0 x1 9)) (r_WAKE_EVT : P (WAKE.EVT 0)) (r_WAKE_CNT : P (WAKE.CNT 0 9)) (r_WAKE_CNT_2 : P (WAKE.CNT 0 11)) (r_DEV_DLINK_DROPS : ∀ x0 x1, P (DEV.DLINK_DROPS x0 x1)) (r_APR_CH : ∀ x0, P (APR.CH p x0)) (r_CPU_CNT_3 : P (CPU.CNT p (16 * k + 6))) (hk_cont : ∀ x0, Writes (cont x0) P) : Writes (kickWrite ag p k v cont) P := by
  unfold kickWrite
  try dsimp only
  repeat' (with_reducible first | exact r_CPU_KICK | exact r_CPU_EVT | exact r_CPU_CNT | exact r_DEV_CNT_LAST _ | exact r_DEV_EVT _ | exact r_CPU_PSTAT | exact r_CPU_CNT_2 | exact r_WAKE_REQ | exact r_BLK_ERR _ _ | exact r_CHN_CMD _ _ | exact r_CHN_CNT _ _ | exact r_CHN_CNT_2 _ _ | exact r_WAKE_EVT | exact r_WAKE_CNT | exact r_WAKE_CNT_2 | exact r_DEV_DLINK_DROPS _ _ | exact r_APR_CH _ | exact r_CPU_CNT_3 | exact hk_cont _ | apply writes_Act_modPart | apply writes_Act_setFld | apply writes_Act_wdtExpire | apply Writes.seq | apply Writes.get | apply Writes.when | apply Writes.ite | intro _ | split | dsimp only)
  all_goals first | exact r_CPU_KICK | exact r_CPU_EVT | exact r_CPU_CNT | exact r_DEV_CNT_LAST _ | exact r_DEV_EVT _ | exact r_CPU_PSTAT | exact r_CPU_CNT_2 | exact r_WAKE_REQ | exact r_BLK_ERR _ _ | exact r_CHN_CMD _ _ | exact r_CHN_CNT _ _ | exact r_CHN_CNT_2 _ _ | exact r_WAKE_EVT | exact r_WAKE_CNT | exact r_WAKE_CNT_2 | exact r_DEV_DLINK_DROPS _ _ | exact r_APR_CH _ | exact r_CPU_CNT_3

theorem writes_watchdogExpiry {p k : Nat} {P : Nat → Prop} (r_CPU_EVT : P (CPU.EVT p)) (r_CPU_CNT : P (CPU.CNT p (16 * k + 5))) (r_DEV_CNT_LAST : ∀ x0, P (DEV.CNT_LAST x0)) (r_DEV_EVT : ∀ x0, P (DEV.EVT x0)) (r_CPU_PSTAT : P (CPU.PSTAT p k)) (r_CPU_CNT_2 : P (CPU.CNT p (16 * k + 7))) (r_WAKE_REQ : P (WAKE.REQ p k)) (r_BLK_ERR : ∀ x0 x1, P (BLK_ERR x0 x1)) (r_CHN_CMD : ∀ x0 x1, P (CHN.CMD x0 x1)) (r_CHN_CNT : ∀ x0 x1, P (CHN.CNT x0 x1 10)) (r_CHN_CNT_2 : ∀ x0 x1, P (CHN.CNT x0 x1 9)) (r_WAKE_EVT : P (WAKE.EVT 0)) (r_WAKE_CNT : P (WAKE.CNT 0 9)) (r_WAKE_CNT_2 : P (WAKE.CNT 0 11)) (r_DEV_DLINK_DROPS : ∀ x0 x1, P (DEV.DLINK_DROPS x0 x1)) (r_APR_CH : ∀ x0, P (APR.CH p x0)) (r_CPU_KICK : P (CPU.KICK p k)) (r_CPU_CNT_3 : P (CPU.CNT p (16 * k + 6))) : Writes (watchdogExpiry p k) P := by
  unfold watchdogExpiry
  try dsimp only
  repeat' (with_reducible first | exact r_CPU_EVT | exact r_CPU_CNT | exact r_DEV_CNT_LAST _ | exact r_DEV_EVT _ | exact r_CPU_PSTAT | exact r_CPU_CNT_2 | exact r_WAKE_REQ | exact r_BLK_ERR _ _ | exact r_CHN_CMD _ _ | exact r_CHN_CNT _ _ | exact r_CHN_CNT_2 _ _ | exact r_WAKE_EVT | exact r_WAKE_CNT | exact r_WAKE_CNT_2 | exact r_DEV_DLINK_DROPS _ _ | exact r_APR_CH _ | exact r_CPU_KICK | exact r_CPU_CNT_3 | apply writes_Act_wdtExpire | apply Writes.get | apply Writes.when | intro _ | dsimp only)
  all_goals first | exact r_CPU_EVT | exact r_CPU_CNT | exact r_DEV_CNT_LAST _ | exact r_DEV_EVT _ | exact r_CPU_PSTAT | exact r_CPU_CNT_2 | exact r_WAKE_REQ | exact r_BLK_ERR _ _ | exact r_CHN_CMD _ _ | exact r_CHN_CNT _ _ | exact r_CHN_CNT_2 _ _ | exact r_WAKE_EVT | exact r_WAKE_CNT | exact r_WAKE_CNT_2 | exact r_DEV_DLINK_DROPS _ _ | exact r_APR_CH _ | exact r_CPU_KICK | exact r_CPU_CNT_3

theorem writes_lockstepMismatch {p : Nat} {P : Nat → Prop} (r_CPU_EVT : P (CPU.EVT p)) (r_CPU_PSTAT : ∀ x0, P (CPU.PSTAT p x0)) (r_CPU_CNT : ∀ x0, P (CPU.CNT p x0)) (r_DEV_CNT_LAST : ∀ x0, P (DEV.CNT_LAST x0)) (r_DEV_EVT : ∀ x0, P (DEV.EVT x0)) (r_WAKE_REQ : ∀ x0, P (WAKE.REQ p x0)) (r_BLK_ERR : ∀ x0 x1, P (BLK_ERR x0 x1)) (r_CHN_CMD : ∀ x0 x1, P (CHN.CMD x0 x1)) (r_CHN_CNT : ∀ x0 x1, P (CHN.CNT x0 x1 10)) (r_CHN_CNT_2 : ∀ x0 x1, P (CHN.CNT x0 x1 9)) (r_WAKE_EVT : P (WAKE.EVT 0)) (r_WAKE_CNT : P (WAKE.CNT 0 9)) (r_WAKE_CNT_2 : P (WAKE.CNT 0 11)) (r_DEV_DLINK_DROPS : ∀ x0 x1, P (DEV.DLINK_DROPS x0 x1)) (r_APR_CH : ∀ x0, P (APR.CH p x0)) : Writes (lockstepMismatch p) P := by
  unfold lockstepMismatch
  try dsimp only
  repeat' (with_reducible first | exact r_CPU_EVT | exact r_CPU_PSTAT _ | exact r_CPU_CNT _ | exact r_DEV_CNT_LAST _ | exact r_DEV_EVT _ | exact r_WAKE_REQ _ | exact r_BLK_ERR _ _ | exact r_CHN_CMD _ _ | exact r_CHN_CNT _ _ | exact r_CHN_CNT_2 _ _ | exact r_WAKE_EVT | exact r_WAKE_CNT | exact r_WAKE_CNT_2 | exact r_DEV_DLINK_DROPS _ _ | exact r_APR_CH _ | apply writes_Act_modSafePair | apply writes_Act_event | apply writes_Act_partHalt | apply Writes.all_cons | apply Writes.all_nil | apply Writes.get | apply Writes.when | apply Writes.each | intro _ | dsimp only)
  all_goals first | exact r_CPU_EVT | exact r_CPU_PSTAT _ | exact r_CPU_CNT _ | exact r_DEV_CNT_LAST _ | exact r_DEV_EVT _ | exact r_WAKE_REQ _ | exact r_BLK_ERR _ _ | exact r_CHN_CMD _ _ | exact r_CHN_CNT _ _ | exact r_CHN_CNT_2 _ _ | exact r_WAKE_EVT | exact r_WAKE_CNT | exact r_WAKE_CNT_2 | exact r_DEV_DLINK_DROPS _ _ | exact r_APR_CH _

theorem writes_Act_irqEnter {p k : Nat} {r : IrqRec} {P : Nat → Prop} (r_CPU_EVT : P (CPU.EVT p)) (r_CPU_CNT : P (CPU.CNT p (16 * k + 11))) (r_DEV_CNT_LAST : ∀ x0, P (DEV.CNT_LAST x0)) (r_DEV_EVT : ∀ x0, P (DEV.EVT x0)) (r_CPU_CNT_2 : P (CPU.CNT p (16 * k + 10))) : Writes (Act.irqEnter p k r) P := by
  unfold Act.irqEnter
  try dsimp only
  repeat' (with_reducible first | exact r_CPU_EVT | exact r_CPU_CNT | exact r_DEV_CNT_LAST _ | exact r_DEV_EVT _ | exact r_CPU_CNT_2 | apply writes_Act_modPart | apply writes_Act_event | apply writes_Act_cpuCount | apply Writes.all_cons | apply Writes.all_nil | apply Writes.seq | apply Writes.get | apply Writes.skip | apply Writes.ite | intro _ | split | dsimp only)
  all_goals first | exact r_CPU_EVT | exact r_CPU_CNT | exact r_DEV_CNT_LAST _ | exact r_DEV_EVT _ | exact r_CPU_CNT_2

theorem writes_interruptDelivery {p : Nat} {P : Nat → Prop} (r_CPU_EVT : P (CPU.EVT p)) (r_CPU_CNT : ∀ x0, P (CPU.CNT p x0)) (r_DEV_CNT_LAST : ∀ x0, P (DEV.CNT_LAST x0)) (r_DEV_EVT : ∀ x0, P (DEV.EVT x0)) : Writes (interruptDelivery p) P := by
  unfold interruptDelivery
  try dsimp only
  repeat' (with_reducible first | exact r_CPU_EVT | exact r_CPU_CNT _ | exact r_DEV_CNT_LAST _ | exact r_DEV_EVT _ | apply writes_Act_irqEnter | apply Writes.upd | apply Writes.seq | apply Writes.get | apply Writes.each | apply Writes.skip | intro _ | split | dsimp only)
  all_goals first | exact r_CPU_EVT | exact r_CPU_CNT _ | exact r_DEV_CNT_LAST _ | exact r_DEV_EVT _

theorem writes_irqPop {ag : Agent} {p k : Nat} {cont : Code → Word → Act} {P : Nat → Prop} (hk_cont : ∀ x0 x1, Writes (cont x0 x1) P) : Writes (irqPop ag p k cont) P := by
  unfold irqPop
  try dsimp only
  repeat' (with_reducible first | exact hk_cont _ _ | apply writes_Act_modPart | apply Writes.seq | apply Writes.get | apply Writes.ite | intro _ | split | dsimp only)

end Sys2Proof.Machine
end

