-- ==== Sys2Proof/Laws/Writes/Group8.lean ====
section
/-! SUPPORT. Which registers the operations of Aperture, Transmit, Reset, Supply may write. -/

set_option linter.unusedTactic false
set_option linter.unreachableTactic false

namespace Sys2Proof.Machine

/-! ## Aperture -/

theorem writes_Act_aprViolate {p part kind entry reason target : Nat} {halt : Bool} {P : Nat → Prop} (r_CPU_ALAST : P (CPU.ALAST p)) (r_CPU_EVT : P (CPU.EVT p)) (r_CPU_CNT : P (CPU.CNT p (16 * part + reason))) (r_DEV_CNT_LAST : ∀ x0, P (DEV.CNT_LAST x0)) (r_DEV_EVT : ∀ x0, P (DEV.EVT x0)) (r_CPU_PSTAT : P (CPU.PSTAT p part)) (r_CPU_CNT_2 : P (CPU.CNT p (16 * part + 7))) (r_WAKE_REQ : P (WAKE.REQ p part)) (r_BLK_ERR : ∀ x0 x1, P (BLK_ERR x0 x1)) (r_CHN_CMD : ∀ x0 x1, P (CHN.CMD x0 x1)) (r_CHN_CNT : ∀ x0 x1, P (CHN.CNT x0 x1 10)) (r_CHN_CNT_2 : ∀ x0 x1, P (CHN.CNT x0 x1 9)) (r_WAKE_EVT : P (WAKE.EVT 0)) (r_WAKE_CNT : P (WAKE.CNT 0 9)) (r_WAKE_CNT_2 : P (WAKE.CNT 0 11)) (r_DEV_DLINK_DROPS : ∀ x0 x1, P (DEV.DLINK_DROPS x0 x1)) (r_APR_CH : ∀ x0, P (APR.CH p x0)) : Writes (Act.aprViolate p part kind entry reason target halt) P := by
  unfold Act.aprViolate
  try dsimp only
  repeat' (with_reducible first | exact r_CPU_ALAST | exact r_CPU_EVT | exact r_CPU_CNT | exact r_DEV_CNT_LAST _ | exact r_DEV_EVT _ | exact r_CPU_PSTAT | exact r_CPU_CNT_2 | exact r_WAKE_REQ | exact r_BLK_ERR _ _ | exact r_CHN_CMD _ _ | exact r_CHN_CNT _ _ | exact r_CHN_CNT_2 _ _ | exact r_WAKE_EVT | exact r_WAKE_CNT | exact r_WAKE_CNT_2 | exact r_DEV_DLINK_DROPS _ _ | exact r_APR_CH _ | apply writes_Act_event | apply writes_Act_irq | apply writes_Act_cpuCount | apply writes_Act_partHalt | apply Writes.setReg | apply Writes.all_cons | apply Writes.all_nil | apply Writes.get | apply Writes.when | apply Writes.ite | intro _ | split | dsimp only)
  all_goals first | exact r_CPU_ALAST | exact r_CPU_EVT | exact r_CPU_CNT | exact r_DEV_CNT_LAST _ | exact r_DEV_EVT _ | exact r_CPU_PSTAT | exact r_CPU_CNT_2 | exact r_WAKE_REQ | exact r_BLK_ERR _ _ | exact r_CHN_CMD _ _ | exact r_CHN_CNT _ _ | exact r_CHN_CNT_2 _ _ | exact r_WAKE_EVT | exact r_WAKE_CNT | exact r_WAKE_CNT_2 | exact r_DEV_DLINK_DROPS _ _ | exact r_APR_CH _

theorem writes_Act_aperture {p part kind target cost : Nat} {hit : Nat → Bool} {k : Option Nat → Act} {P : Nat → Prop} (r_CPU_ALAST : P (CPU.ALAST p)) (r_CPU_EVT : P (CPU.EVT p)) (r_CPU_CNT : P (CPU.CNT p (16 * part + 0))) (r_DEV_CNT_LAST : ∀ x0, P (DEV.CNT_LAST x0)) (r_DEV_EVT : ∀ x0, P (DEV.EVT x0)) (r_CPU_PSTAT : P (CPU.PSTAT p part)) (r_CPU_CNT_2 : P (CPU.CNT p (16 * part + 7))) (r_WAKE_REQ : P (WAKE.REQ p part)) (r_BLK_ERR : ∀ x0 x1, P (BLK_ERR x0 x1)) (r_CHN_CMD : ∀ x0 x1, P (CHN.CMD x0 x1)) (r_CHN_CNT : ∀ x0 x1, P (CHN.CNT x0 x1 10)) (r_CHN_CNT_2 : ∀ x0 x1, P (CHN.CNT x0 x1 9)) (r_WAKE_EVT : P (WAKE.EVT 0)) (r_WAKE_CNT : P (WAKE.CNT 0 9)) (r_WAKE_CNT_2 : P (WAKE.CNT 0 11)) (r_DEV_DLINK_DROPS : ∀ x0 x1, P (DEV.DLINK_DROPS x0 x1)) (r_APR_CH : ∀ x0, P (APR.CH p x0)) (r_CPU_CNT_3 : P (CPU.CNT p (16 * part + 1))) (hk_k : ∀ x0, Writes (k x0) P) : Writes (Act.aperture p part kind target cost hit k) P := by
  unfold Act.aperture
  try dsimp only
  repeat' (with_reducible first | exact r_CPU_ALAST | exact r_CPU_EVT | exact r_CPU_CNT | exact r_DEV_CNT_LAST _ | exact r_DEV_EVT _ | exact r_CPU_PSTAT | exact r_CPU_CNT_2 | exact r_WAKE_REQ | exact r_BLK_ERR _ _ | exact r_CHN_CMD _ _ | exact r_CHN_CNT _ _ | exact r_CHN_CNT_2 _ _ | exact r_WAKE_EVT | exact r_WAKE_CNT | exact r_WAKE_CNT_2 | exact r_DEV_DLINK_DROPS _ _ | exact r_APR_CH _ | exact r_CPU_CNT_3 | exact hk_k _ | apply writes_Act_setAprLevel | apply writes_Act_aprViolate | apply Writes.seq | apply Writes.get | apply Writes.ite | intro _ | split | dsimp only)
  all_goals first | exact r_CPU_ALAST | exact r_CPU_EVT | exact r_CPU_CNT | exact r_DEV_CNT_LAST _ | exact r_DEV_EVT _ | exact r_CPU_PSTAT | exact r_CPU_CNT_2 | exact r_WAKE_REQ | exact r_BLK_ERR _ _ | exact r_CHN_CMD _ _ | exact r_CHN_CNT _ _ | exact r_CHN_CNT_2 _ _ | exact r_WAKE_EVT | exact r_WAKE_CNT | exact r_WAKE_CNT_2 | exact r_DEV_DLINK_DROPS _ _ | exact r_APR_CH _ | exact r_CPU_CNT_3

theorem writes_Act_aprLimit {p part kind e target : Nat} {P : Nat → Prop} (r_CPU_ALAST : P (CPU.ALAST p)) (r_CPU_EVT : P (CPU.EVT p)) (r_CPU_CNT : P (CPU.CNT p (16 * part + 2))) (r_DEV_CNT_LAST : ∀ x0, P (DEV.CNT_LAST x0)) (r_DEV_EVT : ∀ x0, P (DEV.EVT x0)) (r_CPU_PSTAT : P (CPU.PSTAT p part)) (r_CPU_CNT_2 : P (CPU.CNT p (16 * part + 7))) (r_WAKE_REQ : P (WAKE.REQ p part)) (r_BLK_ERR : ∀ x0 x1, P (BLK_ERR x0 x1)) (r_CHN_CMD : ∀ x0 x1, P (CHN.CMD x0 x1)) (r_CHN_CNT : ∀ x0 x1, P (CHN.CNT x0 x1 10)) (r_CHN_CNT_2 : ∀ x0 x1, P (CHN.CNT x0 x1 9)) (r_WAKE_EVT : P (WAKE.EVT 0)) (r_WAKE_CNT : P (WAKE.CNT 0 9)) (r_WAKE_CNT_2 : P (WAKE.CNT 0 11)) (r_DEV_DLINK_DROPS : ∀ x0 x1, P (DEV.DLINK_DROPS x0 x1)) (r_APR_CH : ∀ x0, P (APR.CH p x0)) : Writes (Act.aprLimit p part kind e target) P := by
  unfold Act.aprLimit
  try dsimp only
  repeat' (with_reducible first | exact r_CPU_ALAST | exact r_CPU_EVT | exact r_CPU_CNT | exact r_DEV_CNT_LAST _ | exact r_DEV_EVT _ | exact r_CPU_PSTAT | exact r_CPU_CNT_2 | exact r_WAKE_REQ | exact r_BLK_ERR _ _ | exact r_CHN_CMD _ _ | exact r_CHN_CNT _ _ | exact r_CHN_CNT_2 _ _ | exact r_WAKE_EVT | exact r_WAKE_CNT | exact r_WAKE_CNT_2 | exact r_DEV_DLINK_DROPS _ _ | exact r_APR_CH _ | apply writes_Act_aprViolate | apply Writes.get | intro _ | dsimp only)
  all_goals first | exact r_CPU_ALAST | exact r_CPU_EVT | exact r_CPU_CNT | exact r_DEV_CNT_LAST _ | exact r_DEV_EVT _ | exact r_CPU_PSTAT | exact r_CPU_CNT_2 | exact r_WAKE_REQ | exact r_BLK_ERR _ _ | exact r_CHN_CMD _ _ | exact r_CHN_CNT _ _ | exact r_CHN_CNT_2 _ _ | exact r_WAKE_EVT | exact r_WAKE_CNT | exact r_WAKE_CNT_2 | exact r_DEV_DLINK_DROPS _ _ | exact r_APR_CH _

theorem writes_Act_aprClamp {p part kind e target : Nat} {P : Nat → Prop} (r_CPU_ALAST : P (CPU.ALAST p)) (r_CPU_EVT : P (CPU.EVT p)) (r_CPU_CNT : P (CPU.CNT p (16 * part + 3))) (r_DEV_CNT_LAST : ∀ x0, P (DEV.CNT_LAST x0)) (r_DEV_EVT : ∀ x0, P (DEV.EVT x0)) (r_CPU_PSTAT : P (CPU.PSTAT p part)) (r_CPU_CNT_2 : P (CPU.CNT p (16 * part + 7))) (r_WAKE_REQ : P (WAKE.REQ p part)) (r_BLK_ERR : ∀ x0 x1, P (BLK_ERR x0 x1)) (r_CHN_CMD : ∀ x0 x1, P (CHN.CMD x0 x1)) (r_CHN_CNT : ∀ x0 x1, P (CHN.CNT x0 x1 10)) (r_CHN_CNT_2 : ∀ x0 x1, P (CHN.CNT x0 x1 9)) (r_WAKE_EVT : P (WAKE.EVT 0)) (r_WAKE_CNT : P (WAKE.CNT 0 9)) (r_WAKE_CNT_2 : P (WAKE.CNT 0 11)) (r_DEV_DLINK_DROPS : ∀ x0 x1, P (DEV.DLINK_DROPS x0 x1)) (r_APR_CH : ∀ x0, P (APR.CH p x0)) : Writes (Act.aprClamp p part kind e target) P := by
  unfold Act.aprClamp
  try dsimp only
  repeat' (with_reducible first | exact r_CPU_ALAST | exact r_CPU_EVT | exact r_CPU_CNT | exact r_DEV_CNT_LAST _ | exact r_DEV_EVT _ | exact r_CPU_PSTAT | exact r_CPU_CNT_2 | exact r_WAKE_REQ | exact r_BLK_ERR _ _ | exact r_CHN_CMD _ _ | exact r_CHN_CNT _ _ | exact r_CHN_CNT_2 _ _ | exact r_WAKE_EVT | exact r_WAKE_CNT | exact r_WAKE_CNT_2 | exact r_DEV_DLINK_DROPS _ _ | exact r_APR_CH _ | apply writes_Act_aprViolate | intro _ | dsimp only)
  all_goals first | exact r_CPU_ALAST | exact r_CPU_EVT | exact r_CPU_CNT | exact r_DEV_CNT_LAST _ | exact r_DEV_EVT _ | exact r_CPU_PSTAT | exact r_CPU_CNT_2 | exact r_WAKE_REQ | exact r_BLK_ERR _ _ | exact r_CHN_CMD _ _ | exact r_CHN_CNT _ _ | exact r_CHN_CNT_2 _ _ | exact r_WAKE_EVT | exact r_WAKE_CNT | exact r_WAKE_CNT_2 | exact r_DEV_DLINK_DROPS _ _ | exact r_APR_CH _

theorem writes_Act_aprBlock {p part a : Nat} {v : Word} {dev : Option Nat} {lockv : Bool} {k : Bool → Act} {P : Nat → Prop} (r_CPU_ALAST : P (CPU.ALAST p)) (r_CPU_EVT : P (CPU.EVT p)) (r_CPU_CNT : P (CPU.CNT p (16 * part + 0))) (r_DEV_CNT_LAST : ∀ x0, P (DEV.CNT_LAST x0)) (r_DEV_EVT : ∀ x0, P (DEV.EVT x0)) (r_CPU_PSTAT : P (CPU.PSTAT p part)) (r_CPU_CNT_2 : P (CPU.CNT p (16 * part + 7))) (r_WAKE_REQ : P (WAKE.REQ p part)) (r_BLK_ERR : ∀ x0 x1, P (BLK_ERR x0 x1)) (r_CHN_CMD : ∀ x0 x1, P (CHN.CMD x0 x1)) (r_CHN_CNT : ∀ x0 x1, P (CHN.CNT x0 x1 10)) (r_CHN_CNT_2 : ∀ x0 x1, P (CHN.CNT x0 x1 9)) (r_WAKE_EVT : P (WAKE.EVT 0)) (r_WAKE_CNT : P (WAKE.CNT 0 9)) (r_WAKE_CNT_2 : P (WAKE.CNT 0 11)) (r_DEV_DLINK_DROPS : ∀ x0 x1, P (DEV.DLINK_DROPS x0 x1)) (r_APR_CH : ∀ x0, P (APR.CH p x0)) (r_CPU_CNT_3 : P (CPU.CNT p (16 * part + 1))) (r_CPU_CNT_4 : P (CPU.CNT p (16 * part + 2))) (hk_k : ∀ x0, Writes (k x0) P) : Writes (Act.aprBlock p part a v dev lockv k) P := by
  unfold Act.aprBlock
  try dsimp only
  repeat' (with_reducible first | exact r_CPU_ALAST | exact r_CPU_EVT | exact r_CPU_CNT | exact r_DEV_CNT_LAST _ | exact r_DEV_EVT _ | exact r_CPU_PSTAT | exact r_CPU_CNT_2 | exact r_WAKE_REQ | exact r_BLK_ERR _ _ | exact r_CHN_CMD _ _ | exact r_CHN_CNT _ _ | exact r_CHN_CNT_2 _ _ | exact r_WAKE_EVT | exact r_WAKE_CNT | exact r_WAKE_CNT_2 | exact r_DEV_DLINK_DROPS _ _ | exact r_APR_CH _ | exact r_CPU_CNT_3 | exact r_CPU_CNT_4 | exact hk_k _ | apply writes_Act_aperture | apply writes_Act_aprLimit | apply Writes.seq | apply Writes.get | apply Writes.ite | intro _ | split | dsimp only)
  all_goals first | exact r_CPU_ALAST | exact r_CPU_EVT | exact r_CPU_CNT | exact r_DEV_CNT_LAST _ | exact r_DEV_EVT _ | exact r_CPU_PSTAT | exact r_CPU_CNT_2 | exact r_WAKE_REQ | exact r_BLK_ERR _ _ | exact r_CHN_CMD _ _ | exact r_CHN_CNT _ _ | exact r_CHN_CNT_2 _ _ | exact r_WAKE_EVT | exact r_WAKE_CNT | exact r_WAKE_CNT_2 | exact r_DEV_DLINK_DROPS _ _ | exact r_APR_CH _ | exact r_CPU_CNT_3 | exact r_CPU_CNT_4

theorem writes_Act_aprSignal {p part a idx : Nat} {v : Word} {k : Option Word → Act} {P : Nat → Prop} (r_CPU_ALAST : P (CPU.ALAST p)) (r_CPU_EVT : P (CPU.EVT p)) (r_CPU_CNT : P (CPU.CNT p (16 * part + 0))) (r_DEV_CNT_LAST : ∀ x0, P (DEV.CNT_LAST x0)) (r_DEV_EVT : ∀ x0, P (DEV.EVT x0)) (r_CPU_PSTAT : P (CPU.PSTAT p part)) (r_CPU_CNT_2 : P (CPU.CNT p (16 * part + 7))) (r_WAKE_REQ : P (WAKE.REQ p part)) (r_BLK_ERR : ∀ x0 x1, P (BLK_ERR x0 x1)) (r_CHN_CMD : ∀ x0 x1, P (CHN.CMD x0 x1)) (r_CHN_CNT : ∀ x0 x1, P (CHN.CNT x0 x1 10)) (r_CHN_CNT_2 : ∀ x0 x1, P (CHN.CNT x0 x1 9)) (r_WAKE_EVT : P (WAKE.EVT 0)) (r_WAKE_CNT : P (WAKE.CNT 0 9)) (r_WAKE_CNT_2 : P (WAKE.CNT 0 11)) (r_DEV_DLINK_DROPS : ∀ x0 x1, P (DEV.DLINK_DROPS x0 x1)) (r_APR_CH : ∀ x0, P (APR.CH p x0)) (r_CPU_CNT_3 : P (CPU.CNT p (16 * part + 1))) (r_CPU_CNT_4 : P (CPU.CNT p (16 * part + 3))) (hk_k : ∀ x0, Writes (k x0) P) : Writes (Act.aprSignal p part a idx v k) P := by
  unfold Act.aprSignal
  try dsimp only
  repeat' (with_reducible first | exact r_CPU_ALAST | exact r_CPU_EVT | exact r_CPU_CNT | exact r_DEV_CNT_LAST _ | exact r_DEV_EVT _ | exact r_CPU_PSTAT | exact r_CPU_CNT_2 | exact r_WAKE_REQ | exact r_BLK_ERR _ _ | exact r_CHN_CMD _ _ | exact r_CHN_CNT _ _ | exact r_CHN_CNT_2 _ _ | exact r_WAKE_EVT | exact r_WAKE_CNT | exact r_WAKE_CNT_2 | exact r_DEV_DLINK_DROPS _ _ | exact r_APR_CH _ | exact r_CPU_CNT_3 | exact r_CPU_CNT_4 | exact hk_k _ | apply writes_Act_aperture | apply writes_Act_aprClamp | apply Writes.seq | apply Writes.get | apply Writes.ite | intro _ | split | dsimp only)
  all_goals first | exact r_CPU_ALAST | exact r_CPU_EVT | exact r_CPU_CNT | exact r_DEV_CNT_LAST _ | exact r_DEV_EVT _ | exact r_CPU_PSTAT | exact r_CPU_CNT_2 | exact r_WAKE_REQ | exact r_BLK_ERR _ _ | exact r_CHN_CMD _ _ | exact r_CHN_CNT _ _ | exact r_CHN_CNT_2 _ _ | exact r_WAKE_EVT | exact r_WAKE_CNT | exact r_WAKE_CNT_2 | exact r_DEV_DLINK_DROPS _ _ | exact r_APR_CH _ | exact r_CPU_CNT_3 | exact r_CPU_CNT_4

theorem writes_Act_chnPassed {p part n e : Nat} {v : Word} {P : Nat → Prop} (r_APR_CH : P (APR.CH p n)) : Writes (Act.chnPassed p part n e v) P := by
  unfold Act.chnPassed
  try dsimp only
  repeat' (with_reducible first | exact r_APR_CH | apply writes_Act_chFirmware | apply Writes.get | apply Writes.ite | intro _ | split | dsimp only)
  all_goals first | exact r_APR_CH

theorem writes_Act_aprLoad {p part n : Nat} {v : Word} {k : Option Word → Act} {P : Nat → Prop} (r_CPU_ALAST : P (CPU.ALAST p)) (r_CPU_EVT : P (CPU.EVT p)) (r_CPU_CNT : P (CPU.CNT p (16 * part + 0))) (r_DEV_CNT_LAST : ∀ x0, P (DEV.CNT_LAST x0)) (r_DEV_EVT : ∀ x0, P (DEV.EVT x0)) (r_CPU_PSTAT : P (CPU.PSTAT p part)) (r_CPU_CNT_2 : P (CPU.CNT p (16 * part + 7))) (r_WAKE_REQ : P (WAKE.REQ p part)) (r_BLK_ERR : ∀ x0 x1, P (BLK_ERR x0 x1)) (r_CHN_CMD : ∀ x0 x1, P (CHN.CMD x0 x1)) (r_CHN_CNT : ∀ x0 x1, P (CHN.CNT x0 x1 10)) (r_CHN_CNT_2 : ∀ x0 x1, P (CHN.CNT x0 x1 9)) (r_WAKE_EVT : P (WAKE.EVT 0)) (r_WAKE_CNT : P (WAKE.CNT 0 9)) (r_WAKE_CNT_2 : P (WAKE.CNT 0 11)) (r_DEV_DLINK_DROPS : ∀ x0 x1, P (DEV.DLINK_DROPS x0 x1)) (r_APR_CH : ∀ x0, P (APR.CH p x0)) (r_CPU_CNT_3 : P (CPU.CNT p (16 * part + 1))) (r_CPU_CNT_4 : P (CPU.CNT p (16 * part + 2))) (r_CPU_CNT_5 : P (CPU.CNT p (16 * part + 3))) (hk_k : ∀ x0, Writes (k x0) P) : Writes (Act.aprLoad p part n v k) P := by
  unfold Act.aprLoad
  try dsimp only
  repeat' (with_reducible first | exact r_CPU_ALAST | exact r_CPU_EVT | exact r_CPU_CNT | exact r_DEV_CNT_LAST _ | exact r_DEV_EVT _ | exact r_CPU_PSTAT | exact r_CPU_CNT_2 | exact r_WAKE_REQ | exact r_BLK_ERR _ _ | exact r_CHN_CMD _ _ | exact r_CHN_CNT _ _ | exact r_CHN_CNT_2 _ _ | exact r_WAKE_EVT | exact r_WAKE_CNT | exact r_WAKE_CNT_2 | exact r_DEV_DLINK_DROPS _ _ | exact r_APR_CH _ | exact r_CPU_CNT_3 | exact r_CPU_CNT_4 | exact r_CPU_CNT_5 | exact hk_k _ | apply writes_Act_aperture | apply writes_Act_aprLimit | apply writes_Act_aprClamp | apply writes_Act_chnPassed | apply Writes.all_cons | apply Writes.all_nil | apply Writes.seq | apply Writes.get | apply Writes.when | apply Writes.ite | intro _ | split | dsimp only)
  all_goals first | exact r_CPU_ALAST | exact r_CPU_EVT | exact r_CPU_CNT | exact r_DEV_CNT_LAST _ | exact r_DEV_EVT _ | exact r_CPU_PSTAT | exact r_CPU_CNT_2 | exact r_WAKE_REQ | exact r_BLK_ERR _ _ | exact r_CHN_CMD _ _ | exact r_CHN_CNT _ _ | exact r_CHN_CNT_2 _ _ | exact r_WAKE_EVT | exact r_WAKE_CNT | exact r_WAKE_CNT_2 | exact r_DEV_DLINK_DROPS _ _ | exact r_APR_CH _ | exact r_CPU_CNT_3 | exact r_CPU_CNT_4 | exact r_CPU_CNT_5

theorem writes_maxOnExpire {p n : Nat} {P : Nat → Prop} (r_DEV_CNT_LAST : ∀ x0, P (DEV.CNT_LAST x0)) (r_DEV_EVT : ∀ x0, P (DEV.EVT x0)) (r_WAKE_EVT : P (WAKE.EVT 0)) (r_WAKE_CNT : P (WAKE.CNT 0 9)) (r_WAKE_CNT_2 : P (WAKE.CNT 0 11)) (r_DEV_DLINK_DROPS : ∀ x0 x1, P (DEV.DLINK_DROPS x0 x1)) (r_CPU_ALAST : P (CPU.ALAST p)) (r_CPU_EVT : P (CPU.EVT p)) (r_CPU_CNT : ∀ x0, P (CPU.CNT p x0)) (r_CPU_PSTAT : ∀ x0, P (CPU.PSTAT p x0)) (r_WAKE_REQ : ∀ x0, P (WAKE.REQ p x0)) (r_BLK_ERR : ∀ x0 x1, P (BLK_ERR x0 x1)) (r_CHN_CMD : ∀ x0 x1, P (CHN.CMD x0 x1)) (r_CHN_CNT : ∀ x0 x1, P (CHN.CNT x0 x1 10)) (r_CHN_CNT_2 : ∀ x0 x1, P (CHN.CNT x0 x1 9)) (r_APR_CH : ∀ x0, P (APR.CH p x0)) : Writes (maxOnExpire p n) P := by
  unfold maxOnExpire
  try dsimp only
  repeat' (with_reducible first | exact r_DEV_CNT_LAST _ | exact r_DEV_EVT _ | exact r_WAKE_EVT | exact r_WAKE_CNT | exact r_WAKE_CNT_2 | exact r_DEV_DLINK_DROPS _ _ | exact r_CPU_ALAST | exact r_CPU_EVT | exact r_CPU_CNT _ | exact r_CPU_PSTAT _ | exact r_WAKE_REQ _ | exact r_BLK_ERR _ _ | exact r_CHN_CMD _ _ | exact r_CHN_CNT _ _ | exact r_CHN_CNT_2 _ _ | exact r_APR_CH _ | apply writes_Act_loadCmd | apply writes_Act_chFirmware | apply writes_Act_aprLimit | apply Writes.all_cons | apply Writes.all_nil | apply Writes.get | apply Writes.when | intro _ | dsimp only)
  all_goals first | exact r_DEV_CNT_LAST _ | exact r_DEV_EVT _ | exact r_WAKE_EVT | exact r_WAKE_CNT | exact r_WAKE_CNT_2 | exact r_DEV_DLINK_DROPS _ _ | exact r_CPU_ALAST | exact r_CPU_EVT | exact r_CPU_CNT _ | exact r_CPU_PSTAT _ | exact r_WAKE_REQ _ | exact r_BLK_ERR _ _ | exact r_CHN_CMD _ _ | exact r_CHN_CNT _ _ | exact r_CHN_CNT_2 _ _ | exact r_APR_CH _

theorem writes_aprRead {p : Nat} {v : Word} {k : Code → Act} {P : Nat → Prop} (r_CPU_APR_RD : P (CPU.APR_RD p)) (r_CPU_APR_W : ∀ x0, P (CPU.APR_W p x0)) (hk_k : ∀ x0, Writes (k x0) P) : Writes (aprRead p v k) P := by
  unfold aprRead
  try dsimp only
  repeat' (with_reducible first | exact r_CPU_APR_RD | exact r_CPU_APR_W _ | exact hk_k _ | apply Writes.setReg | apply Writes.all_cons | apply Writes.all_nil | apply Writes.get | apply Writes.each | intro _ | dsimp only)
  all_goals first | exact r_CPU_APR_RD | exact r_CPU_APR_W _

theorem writes_Act_aprFrame {p part : Nat} {named : Bool} {fr : Frame} {k : Option (Frame × Bool) → Act} {P : Nat → Prop} (r_CPU_ALAST : P (CPU.ALAST p)) (r_CPU_EVT : P (CPU.EVT p)) (r_CPU_CNT : P (CPU.CNT p (16 * part + 0))) (r_DEV_CNT_LAST : ∀ x0, P (DEV.CNT_LAST x0)) (r_DEV_EVT : ∀ x0, P (DEV.EVT x0)) (r_CPU_PSTAT : P (CPU.PSTAT p part)) (r_CPU_CNT_2 : P (CPU.CNT p (16 * part + 7))) (r_WAKE_REQ : P (WAKE.REQ p part)) (r_BLK_ERR : ∀ x0 x1, P (BLK_ERR x0 x1)) (r_CHN_CMD : ∀ x0 x1, P (CHN.CMD x0 x1)) (r_CHN_CNT : ∀ x0 x1, P (CHN.CNT x0 x1 10)) (r_CHN_CNT_2 : ∀ x0 x1, P (CHN.CNT x0 x1 9)) (r_WAKE_EVT : P (WAKE.EVT 0)) (r_WAKE_CNT : P (WAKE.CNT 0 9)) (r_WAKE_CNT_2 : P (WAKE.CNT 0 11)) (r_DEV_DLINK_DROPS : ∀ x0 x1, P (DEV.DLINK_DROPS x0 x1)) (r_APR_CH : ∀ x0, P (APR.CH p x0)) (r_CPU_CNT_3 : P (CPU.CNT p (16 * part + 1))) (r_CPU_CNT_4 : P (CPU.CNT p (16 * part + 3))) (hk_k : ∀ x0, Writes (k x0) P) : Writes (Act.aprFrame p part named fr k) P := by
  unfold Act.aprFrame
  try dsimp only
  repeat' (with_reducible first | exact r_CPU_ALAST | exact r_CPU_EVT | exact r_CPU_CNT | exact r_DEV_CNT_LAST _ | exact r_DEV_EVT _ | exact r_CPU_PSTAT | exact r_CPU_CNT_2 | exact r_WAKE_REQ | exact r_BLK_ERR _ _ | exact r_CHN_CMD _ _ | exact r_CHN_CNT _ _ | exact r_CHN_CNT_2 _ _ | exact r_WAKE_EVT | exact r_WAKE_CNT | exact r_WAKE_CNT_2 | exact r_DEV_DLINK_DROPS _ _ | exact r_APR_CH _ | exact r_CPU_CNT_3 | exact r_CPU_CNT_4 | exact hk_k _ | apply writes_Act_aperture | apply writes_Act_aprClamp | apply Writes.seq | apply Writes.get | apply Writes.ite | intro _ | split | dsimp only)
  all_goals first | exact r_CPU_ALAST | exact r_CPU_EVT | exact r_CPU_CNT | exact r_DEV_CNT_LAST _ | exact r_DEV_EVT _ | exact r_CPU_PSTAT | exact r_CPU_CNT_2 | exact r_WAKE_REQ | exact r_BLK_ERR _ _ | exact r_CHN_CMD _ _ | exact r_CHN_CNT _ _ | exact r_CHN_CNT_2 _ _ | exact r_WAKE_EVT | exact r_WAKE_CNT | exact r_WAKE_CNT_2 | exact r_DEV_DLINK_DROPS _ _ | exact r_APR_CH _ | exact r_CPU_CNT_3 | exact r_CPU_CNT_4

theorem writes_Act_aprBus {p part q : Nat} {b : List Byte} {k : Bool → Act} {P : Nat → Prop} (r_CPU_ALAST : P (CPU.ALAST p)) (r_CPU_EVT : P (CPU.EVT p)) (r_CPU_CNT : P (CPU.CNT p (16 * part + 0))) (r_DEV_CNT_LAST : ∀ x0, P (DEV.CNT_LAST x0)) (r_DEV_EVT : ∀ x0, P (DEV.EVT x0)) (r_CPU_PSTAT : P (CPU.PSTAT p part)) (r_CPU_CNT_2 : P (CPU.CNT p (16 * part + 7))) (r_WAKE_REQ : P (WAKE.REQ p part)) (r_BLK_ERR : ∀ x0 x1, P (BLK_ERR x0 x1)) (r_CHN_CMD : ∀ x0 x1, P (CHN.CMD x0 x1)) (r_CHN_CNT : ∀ x0 x1, P (CHN.CNT x0 x1 10)) (r_CHN_CNT_2 : ∀ x0 x1, P (CHN.CNT x0 x1 9)) (r_WAKE_EVT : P (WAKE.EVT 0)) (r_WAKE_CNT : P (WAKE.CNT 0 9)) (r_WAKE_CNT_2 : P (WAKE.CNT 0 11)) (r_DEV_DLINK_DROPS : ∀ x0 x1, P (DEV.DLINK_DROPS x0 x1)) (r_APR_CH : ∀ x0, P (APR.CH p x0)) (r_CPU_CNT_3 : P (CPU.CNT p (16 * part + 1))) (r_CPU_CNT_4 : P (CPU.CNT p (16 * part + 2))) (hk_k : ∀ x0, Writes (k x0) P) : Writes (Act.aprBus p part q b k) P := by
  unfold Act.aprBus
  try dsimp only
  repeat' (with_reducible first | exact r_CPU_ALAST | exact r_CPU_EVT | exact r_CPU_CNT | exact r_DEV_CNT_LAST _ | exact r_DEV_EVT _ | exact r_CPU_PSTAT | exact r_CPU_CNT_2 | exact r_WAKE_REQ | exact r_BLK_ERR _ _ | exact r_CHN_CMD _ _ | exact r_CHN_CNT _ _ | exact r_CHN_CNT_2 _ _ | exact r_WAKE_EVT | exact r_WAKE_CNT | exact r_WAKE_CNT_2 | exact r_DEV_DLINK_DROPS _ _ | exact r_APR_CH _ | exact r_CPU_CNT_3 | exact r_CPU_CNT_4 | exact hk_k _ | apply writes_Act_aperture | apply writes_Act_aprLimit | apply Writes.seq | apply Writes.get | apply Writes.ite | intro _ | split | dsimp only)
  all_goals first | exact r_CPU_ALAST | exact r_CPU_EVT | exact r_CPU_CNT | exact r_DEV_CNT_LAST _ | exact r_DEV_EVT _ | exact r_CPU_PSTAT | exact r_CPU_CNT_2 | exact r_WAKE_REQ | exact r_BLK_ERR _ _ | exact r_CHN_CMD _ _ | exact r_CHN_CNT _ _ | exact r_CHN_CNT_2 _ _ | exact r_WAKE_EVT | exact r_WAKE_CNT | exact r_WAKE_CNT_2 | exact r_DEV_DLINK_DROPS _ _ | exact r_APR_CH _ | exact r_CPU_CNT_3 | exact r_CPU_CNT_4

/-! ## Transmit -/

theorem writes_Act_txComplete {p k result : Nat} {clamped irq : Bool} {P : Nat → Prop} (r_CPU_TXR_B : P (CPU.TXR_B p k)) : Writes (Act.txComplete p k result clamped irq) P := by
  unfold Act.txComplete
  try dsimp only
  repeat' (with_reducible first | exact r_CPU_TXR_B | apply writes_Act_setRing | apply writes_Act_setFld | apply writes_Act_irq | apply writes_Act_memSetWord | apply Writes.all_cons | apply Writes.all_nil | apply Writes.get | apply Writes.when | intro _ | dsimp only)
  all_goals first | exact r_CPU_TXR_B

theorem writes_Act_txSettleRing {p k : Nat} {P : Nat → Prop} (r_CPU_CNT : P (CPU.CNT p (16 * k + 8))) (r_DEV_CNT_LAST : ∀ x0, P (DEV.CNT_LAST x0)) (r_DEV_EVT : ∀ x0, P (DEV.EVT x0)) (r_CPU_TXR_B : P (CPU.TXR_B p k)) : Writes (Act.txSettleRing p k) P := by
  unfold Act.txSettleRing
  try dsimp only
  repeat' (with_reducible first | exact r_CPU_CNT | exact r_DEV_CNT_LAST _ | exact r_DEV_EVT _ | exact r_CPU_TXR_B | apply writes_Act_freeBelow | apply writes_Act_cpuCount | apply writes_Act_txComplete | apply Writes.seq | apply Writes.get | apply Writes.when | apply Writes.ite | intro _ | split | dsimp only)
  all_goals first | exact r_CPU_CNT | exact r_DEV_CNT_LAST _ | exact r_DEV_EVT _ | exact r_CPU_TXR_B

theorem writes_Act_txSettle {p : Nat} {P : Nat → Prop} (r_CPU_CNT : ∀ x0, P (CPU.CNT p x0)) (r_DEV_CNT_LAST : ∀ x0, P (DEV.CNT_LAST x0)) (r_DEV_EVT : ∀ x0, P (DEV.EVT x0)) (r_CPU_TXR_B : ∀ x0, P (CPU.TXR_B p x0)) : Writes (Act.txSettle p) P := by
  unfold Act.txSettle
  try dsimp only
  repeat' (with_reducible first | exact r_CPU_CNT _ | exact r_DEV_CNT_LAST _ | exact r_DEV_EVT _ | exact r_CPU_TXR_B _ | apply writes_Act_txSettleRing | apply Writes.each | intro _ | dsimp only)
  all_goals first | exact r_CPU_CNT _ | exact r_DEV_CNT_LAST _ | exact r_DEV_EVT _ | exact r_CPU_TXR_B _

theorem writes_Act_txOffer {p k : Nat} {irq clamped : Bool} {fr : Frame} {looked : Bool} {P : Nat → Prop} : Writes (Act.txOffer p k irq clamped fr looked) P := by
  unfold Act.txOffer
  try dsimp only
  repeat' (with_reducible first | apply writes_Act_setRing | apply writes_Act_intake | apply Writes.seq | apply Writes.get | intro _ | dsimp only)

theorem writes_Act_txServe {p k : Nat} {P : Nat → Prop} (r_CPU_CNT : P (CPU.CNT p (16 * k + 9))) (r_DEV_CNT_LAST : ∀ x0, P (DEV.CNT_LAST x0)) (r_DEV_EVT : ∀ x0, P (DEV.EVT x0)) (r_CPU_ALAST : P (CPU.ALAST p)) (r_CPU_EVT : P (CPU.EVT p)) (r_CPU_CNT_2 : P (CPU.CNT p (16 * k + 0))) (r_CPU_PSTAT : P (CPU.PSTAT p k)) (r_CPU_CNT_3 : P (CPU.CNT p (16 * k + 7))) (r_WAKE_REQ : P (WAKE.REQ p k)) (r_BLK_ERR : ∀ x0 x1, P (BLK_ERR x0 x1)) (r_CHN_CMD : ∀ x0 x1, P (CHN.CMD x0 x1)) (r_CHN_CNT : ∀ x0 x1, P (CHN.CNT x0 x1 10)) (r_CHN_CNT_2 : ∀ x0 x1, P (CHN.CNT x0 x1 9)) (r_WAKE_EVT : P (WAKE.EVT 0)) (r_WAKE_CNT : P (WAKE.CNT 0 9)) (r_WAKE_CNT_2 : P (WAKE.CNT 0 11)) (r_DEV_DLINK_DROPS : ∀ x0 x1, P (DEV.DLINK_DROPS x0 x1)) (r_APR_CH : ∀ x0, P (APR.CH p x0)) (r_CPU_CNT_4 : P (CPU.CNT p (16 * k + 1))) (r_CPU_CNT_5 : P (CPU.CNT p (16 * k + 3))) (r_CPU_CNT_6 : P (CPU.CNT p (16 * k + 2))) (r_CPU_TXR_B : P (CPU.TXR_B p k)) : Writes (Act.txServe p k) P := by
  unfold Act.txServe
  try dsimp only
  repeat' (with_reducible first | exact r_CPU_CNT | exact r_DEV_CNT_LAST _ | exact r_DEV_EVT _ | exact r_CPU_ALAST | exact r_CPU_EVT | exact r_CPU_CNT_2 | exact r_CPU_PSTAT | exact r_CPU_CNT_3 | exact r_WAKE_REQ | exact r_BLK_ERR _ _ | exact r_CHN_CMD _ _ | exact r_CHN_CNT _ _ | exact r_CHN_CNT_2 _ _ | exact r_WAKE_EVT | exact r_WAKE_CNT | exact r_WAKE_CNT_2 | exact r_DEV_DLINK_DROPS _ _ | exact r_APR_CH _ | exact r_CPU_CNT_4 | exact r_CPU_CNT_5 | exact r_CPU_CNT_6 | exact r_CPU_TXR_B | apply writes_Act_cpuCount | apply writes_Act_aprFrame | apply writes_Act_aprBus | apply writes_Act_txComplete | apply writes_Act_txOffer | apply Writes.seq | apply Writes.get | apply Writes.ite | intro _ | split | dsimp only)
  all_goals first | exact r_CPU_CNT | exact r_DEV_CNT_LAST _ | exact r_DEV_EVT _ | exact r_CPU_ALAST | exact r_CPU_EVT | exact r_CPU_CNT_2 | exact r_CPU_PSTAT | exact r_CPU_CNT_3 | exact r_WAKE_REQ | exact r_BLK_ERR _ _ | exact r_CHN_CMD _ _ | exact r_CHN_CNT _ _ | exact r_CHN_CNT_2 _ _ | exact r_WAKE_EVT | exact r_WAKE_CNT | exact r_WAKE_CNT_2 | exact r_DEV_DLINK_DROPS _ _ | exact r_APR_CH _ | exact r_CPU_CNT_4 | exact r_CPU_CNT_5 | exact r_CPU_CNT_6 | exact r_CPU_TXR_B

theorem writes_txDescriptor {p : Nat} {P : Nat → Prop} (r_CPU_CNT : ∀ x0, P (CPU.CNT p x0)) (r_DEV_CNT_LAST : ∀ x0, P (DEV.CNT_LAST x0)) (r_DEV_EVT : ∀ x0, P (DEV.EVT x0)) (r_CPU_TXR_B : ∀ x0, P (CPU.TXR_B p x0)) (r_CPU_ALAST : P (CPU.ALAST p)) (r_CPU_EVT : P (CPU.EVT p)) (r_CPU_PSTAT : ∀ x0, P (CPU.PSTAT p x0)) (r_WAKE_REQ : ∀ x0, P (WAKE.REQ p x0)) (r_BLK_ERR : ∀ x0 x1, P (BLK_ERR x0 x1)) (r_CHN_CMD : ∀ x0 x1, P (CHN.CMD x0 x1)) (r_CHN_CNT : ∀ x0 x1, P (CHN.CNT x0 x1 10)) (r_CHN_CNT_2 : ∀ x0 x1, P (CHN.CNT x0 x1 9)) (r_WAKE_EVT : P (WAKE.EVT 0)) (r_WAKE_CNT : P (WAKE.CNT 0 9)) (r_WAKE_CNT_2 : P (WAKE.CNT 0 11)) (r_DEV_DLINK_DROPS : ∀ x0 x1, P (DEV.DLINK_DROPS x0 x1)) (r_APR_CH : ∀ x0, P (APR.CH p x0)) : Writes (txDescriptor p) P := by
  unfold txDescriptor
  try dsimp only
  repeat' (with_reducible first | exact r_CPU_CNT _ | exact r_DEV_CNT_LAST _ | exact r_DEV_EVT _ | exact r_CPU_TXR_B _ | exact r_CPU_ALAST | exact r_CPU_EVT | exact r_CPU_PSTAT _ | exact r_WAKE_REQ _ | exact r_BLK_ERR _ _ | exact r_CHN_CMD _ _ | exact r_CHN_CNT _ _ | exact r_CHN_CNT_2 _ _ | exact r_WAKE_EVT | exact r_WAKE_CNT | exact r_WAKE_CNT_2 | exact r_DEV_DLINK_DROPS _ _ | exact r_APR_CH _ | apply writes_Act_setServedRing | apply writes_Act_txSettle | apply writes_Act_txServe | apply Writes.seq | apply Writes.get | apply Writes.opt | apply Writes.all_map | intro _ | dsimp only)
  all_goals first | exact r_CPU_CNT _ | exact r_DEV_CNT_LAST _ | exact r_DEV_EVT _ | exact r_CPU_TXR_B _ | exact r_CPU_ALAST | exact r_CPU_EVT | exact r_CPU_PSTAT _ | exact r_WAKE_REQ _ | exact r_BLK_ERR _ _ | exact r_CHN_CMD _ _ | exact r_CHN_CNT _ _ | exact r_CHN_CNT_2 _ _ | exact r_WAKE_EVT | exact r_WAKE_CNT | exact r_WAKE_CNT_2 | exact r_DEV_DLINK_DROPS _ _ | exact r_APR_CH _

theorem writes_Act_txChecked {p : Nat} {P : Nat → Prop} (r_CPU_ALAST : ∀ x0, P (CPU.ALAST x0)) (r_CPU_EVT : ∀ x0, P (CPU.EVT x0)) (r_CPU_CNT : ∀ x0 x1, P (CPU.CNT x0 x1)) (r_DEV_CNT_LAST : ∀ x0, P (DEV.CNT_LAST x0)) (r_DEV_EVT : ∀ x0, P (DEV.EVT x0)) (r_CPU_PSTAT : ∀ x0 x1, P (CPU.PSTAT x0 x1)) (r_WAKE_REQ : ∀ x0 x1, P (WAKE.REQ x0 x1)) (r_BLK_ERR : ∀ x0 x1, P (BLK_ERR x0 x1)) (r_CHN_CMD : ∀ x0 x1, P (CHN.CMD x0 x1)) (r_CHN_CNT : ∀ x0 x1, P (CHN.CNT x0 x1 10)) (r_CHN_CNT_2 : ∀ x0 x1, P (CHN.CNT x0 x1 9)) (r_WAKE_EVT : P (WAKE.EVT 0)) (r_WAKE_CNT : P (WAKE.CNT 0 9)) (r_WAKE_CNT_2 : P (WAKE.CNT 0 11)) (r_DEV_DLINK_DROPS : ∀ x0 x1, P (DEV.DLINK_DROPS x0 x1)) (r_APR_CH : ∀ x0 x1, P (APR.CH x0 x1)) : Writes (Act.txChecked p) P := by
  unfold Act.txChecked
  try dsimp only
  repeat' (with_reducible first | exact r_CPU_ALAST _ | exact r_CPU_EVT _ | exact r_CPU_CNT _ _ | exact r_DEV_CNT_LAST _ | exact r_DEV_EVT _ | exact r_CPU_PSTAT _ _ | exact r_WAKE_REQ _ _ | exact r_BLK_ERR _ _ | exact r_CHN_CMD _ _ | exact r_CHN_CNT _ _ | exact r_CHN_CNT_2 _ _ | exact r_WAKE_EVT | exact r_WAKE_CNT | exact r_WAKE_CNT_2 | exact r_DEV_DLINK_DROPS _ _ | exact r_APR_CH _ _ | apply writes_Act_modBuf | apply writes_Act_modRing | apply writes_Act_aprFrame | apply Writes.seq | apply Writes.get | apply Writes.opt | apply Writes.ite | intro _ | split | dsimp only)
  all_goals first | exact r_CPU_ALAST _ | exact r_CPU_EVT _ | exact r_CPU_CNT _ _ | exact r_DEV_CNT_LAST _ | exact r_DEV_EVT _ | exact r_CPU_PSTAT _ _ | exact r_WAKE_REQ _ _ | exact r_BLK_ERR _ _ | exact r_CHN_CMD _ _ | exact r_CHN_CNT _ _ | exact r_CHN_CNT_2 _ _ | exact r_WAKE_EVT | exact r_WAKE_CNT | exact r_WAKE_CNT_2 | exact r_DEV_DLINK_DROPS _ _ | exact r_APR_CH _ _

theorem writes_lookedUp {p f : Nat} {busy : Bool} {P : Nat → Prop} (r_EYE_ETH_STAT : P (EYE.ETH_STAT 0)) (r_CLS_DROP_LAST : P (CLS.DROP_LAST p)) (r_CLS_CNT : ∀ x0, P (CLS.CNT p x0)) (r_DEV_CNT_LAST : ∀ x0, P (DEV.CNT_LAST x0)) (r_DEV_EVT : ∀ x0, P (DEV.EVT x0)) (r_PSFP_LAST : P (PSFP.LAST p)) (r_PSFP_EVT : P (PSFP.EVT p)) (r_PSFP_CNT_HALF_LAST : P (PSFP.CNT_HALF_LAST p)) (r_PAIR_EVT : P (PAIR.EVT p)) (r_PAIR_CNT : P (PAIR.CNT p 1)) (r_PAIR_CNT_2 : P (PAIR.CNT p 4)) (r_PAIR_CNT_3 : P (PAIR.CNT p 2)) (r_PAIR_CNT_4 : P (PAIR.CNT p 3)) (r_PAIR_CNT_5 : P (PAIR.CNT p 0)) (r_CLS_EVT : P (CLS.EVT p)) (r_LPM_EVT : P (LPM.EVT p)) (r_LPM_CNT : P (LPM.CNT p 3)) (r_LPM_CNT_2 : P (LPM.CNT p 2)) (r_LPM_CNT_3 : P (LPM.CNT p 1)) (r_LPM_CNT_4 : P (LPM.CNT p 0)) (r_CPU_TXR_B : ∀ x0, P (CPU.TXR_B p x0)) (r_CPU_ALAST : ∀ x0, P (CPU.ALAST x0)) (r_CPU_EVT : ∀ x0, P (CPU.EVT x0)) (r_CPU_CNT : ∀ x0 x1, P (CPU.CNT x0 x1)) (r_CPU_PSTAT : ∀ x0 x1, P (CPU.PSTAT x0 x1)) (r_WAKE_REQ : ∀ x0 x1, P (WAKE.REQ x0 x1)) (r_BLK_ERR : ∀ x0 x1, P (BLK_ERR x0 x1)) (r_CHN_CMD : ∀ x0 x1, P (CHN.CMD x0 x1)) (r_CHN_CNT : ∀ x0 x1, P (CHN.CNT x0 x1 10)) (r_CHN_CNT_2 : ∀ x0 x1, P (CHN.CNT x0 x1 9)) (r_WAKE_EVT : P (WAKE.EVT 0)) (r_WAKE_CNT : P (WAKE.CNT 0 9)) (r_WAKE_CNT_2 : P (WAKE.CNT 0 11)) (r_DEV_DLINK_DROPS : ∀ x0 x1, P (DEV.DLINK_DROPS x0 x1)) (r_APR_CH : ∀ x0 x1, P (APR.CH x0 x1)) : Writes (lookedUp p f busy) P := by
  unfold lookedUp
  try dsimp only
  repeat' (with_reducible first | exact r_EYE_ETH_STAT | exact r_CLS_DROP_LAST | exact r_CLS_CNT _ | exact r_DEV_CNT_LAST _ | exact r_DEV_EVT _ | exact r_PSFP_LAST | exact r_PSFP_EVT | exact r_PSFP_CNT_HALF_LAST | exact r_PAIR_EVT | exact r_PAIR_CNT | exact r_PAIR_CNT_2 | exact r_PAIR_CNT_3 | exact r_PAIR_CNT_4 | exact r_PAIR_CNT_5 | exact r_CLS_EVT | exact r_LPM_EVT | exact r_LPM_CNT | exact r_LPM_CNT_2 | exact r_LPM_CNT_3 | exact r_LPM_CNT_4 | exact r_CPU_TXR_B _ | exact r_CPU_ALAST _ | exact r_CPU_EVT _ | exact r_CPU_CNT _ _ | exact r_CPU_PSTAT _ _ | exact r_WAKE_REQ _ _ | exact r_BLK_ERR _ _ | exact r_CHN_CMD _ _ | exact r_CHN_CNT _ _ | exact r_CHN_CNT_2 _ _ | exact r_WAKE_EVT | exact r_WAKE_CNT | exact r_WAKE_CNT_2 | exact r_DEV_DLINK_DROPS _ _ | exact r_APR_CH _ _ | apply writes_frameLookup | apply writes_Act_txSettle | apply writes_Act_txChecked | apply Writes.seq | apply Writes.when | intro _ | dsimp only)
  all_goals first | exact r_EYE_ETH_STAT | exact r_CLS_DROP_LAST | exact r_CLS_CNT _ | exact r_DEV_CNT_LAST _ | exact r_DEV_EVT _ | exact r_PSFP_LAST | exact r_PSFP_EVT | exact r_PSFP_CNT_HALF_LAST | exact r_PAIR_EVT | exact r_PAIR_CNT | exact r_PAIR_CNT_2 | exact r_PAIR_CNT_3 | exact r_PAIR_CNT_4 | exact r_PAIR_CNT_5 | exact r_CLS_EVT | exact r_LPM_EVT | exact r_LPM_CNT | exact r_LPM_CNT_2 | exact r_LPM_CNT_3 | exact r_LPM_CNT_4 | exact r_CPU_TXR_B _ | exact r_CPU_ALAST _ | exact r_CPU_EVT _ | exact r_CPU_CNT _ _ | exact r_CPU_PSTAT _ _ | exact r_WAKE_REQ _ _ | exact r_BLK_ERR _ _ | exact r_CHN_CMD _ _ | exact r_CHN_CNT _ _ | exact r_CHN_CNT_2 _ _ | exact r_WAKE_EVT | exact r_WAKE_CNT | exact r_WAKE_CNT_2 | exact r_DEV_DLINK_DROPS _ _ | exact r_APR_CH _ _

theorem writes_admitted {p f : Nat} {a : Act} {P : Nat → Prop} (r_CPU_CNT : ∀ x0, P (CPU.CNT p x0)) (r_DEV_CNT_LAST : ∀ x0, P (DEV.CNT_LAST x0)) (r_DEV_EVT : ∀ x0, P (DEV.EVT x0)) (r_CPU_TXR_B : ∀ x0, P (CPU.TXR_B p x0)) (hk_a : Writes (a) P) : Writes (admitted p f a) P := by
  unfold admitted
  try dsimp only
  repeat' (with_reducible first | exact r_CPU_CNT _ | exact r_DEV_CNT_LAST _ | exact r_DEV_EVT _ | exact r_CPU_TXR_B _ | exact hk_a | apply writes_Act_txSettle | apply Writes.seq | apply Writes.when | intro _ | dsimp only)
  all_goals first | exact r_CPU_CNT _ | exact r_DEV_CNT_LAST _ | exact r_DEV_EVT _ | exact r_CPU_TXR_B _

/-! ## Reset -/

theorem writes_Act_islandOn {d : Nat} {P : Nat → Prop} (r_WAKE_EVT : P (WAKE.EVT 0)) (r_WAKE_CNT : P (WAKE.CNT 0 9)) (r_DEV_CNT_LAST : ∀ x0, P (DEV.CNT_LAST x0)) (r_DEV_EVT : ∀ x0, P (DEV.EVT x0)) (r_WAKE_CNT_2 : P (WAKE.CNT 0 11)) : Writes (Act.islandOn d) P := by
  unfold Act.islandOn
  try dsimp only
  repeat' (with_reducible first | exact r_WAKE_EVT | exact r_WAKE_CNT | exact r_DEV_CNT_LAST _ | exact r_DEV_EVT _ | exact r_WAKE_CNT_2 | apply writes_Act_modDrv | apply writes_Act_setSup | apply writes_Act_chSettleAll | apply writes_Act_chFollow | apply Writes.all_cons | apply Writes.all_nil | apply Writes.get | apply Writes.when | apply Writes.each | apply Writes.all_map | intro _ | dsimp only)
  all_goals first | exact r_WAKE_EVT | exact r_WAKE_CNT | exact r_DEV_CNT_LAST _ | exact r_DEV_EVT _ | exact r_WAKE_CNT_2

theorem writes_Act_chanWarm {d c : Nat} {P : Nat → Prop} (r_CHN_CMD : P (CHN.CMD d c)) : Writes (Act.chanWarm d c) P := by
  unfold Act.chanWarm
  try dsimp only
  repeat' (with_reducible first | exact r_CHN_CMD | apply writes_Act_modChan | apply Writes.setReg | apply Writes.seq | apply Writes.get | apply Writes.ite | apply Writes.all_map | intro _ | split | dsimp only)
  all_goals first | exact r_CHN_CMD

theorem writes_Act_flashUndefined {a n : Nat} {P : Nat → Prop} : Writes (Act.flashUndefined a n) P := by
  unfold Act.flashUndefined
  try dsimp only
  repeat' (with_reducible first | apply writes_Act_freeBytes | apply Writes.setFlash | apply Writes.all_cons | apply Writes.all_nil | apply Writes.all_map | intro _ | dsimp only)

theorem writes_Act_flashCut  {P : Nat → Prop} : Writes (Act.flashCut ) P := by
  unfold Act.flashCut
  try dsimp only
  repeat' (with_reducible first | apply writes_Act_flashUndefined | apply Writes.seq | apply Writes.get | apply Writes.opt | apply Writes.skip | intro _ | split | dsimp only)

theorem writes_Act_recordReset {b : Nat} {l : List (Fld × Nat)} {P : Nat → Prop} (r_RSTC_CAUSE : P (RSTC.CAUSE 0)) (r_RSTC_DETAIL : P (RSTC.DETAIL 0)) : Writes (Act.recordReset b l) P := by
  unfold Act.recordReset
  try dsimp only
  repeat' (with_reducible first | exact r_RSTC_CAUSE | exact r_RSTC_DETAIL | apply writes_Act_setFld | apply writes_Act_setFlds | apply writes_Act_bumpFld | apply writes_Act_noteEvt | apply writes_Act_event | apply writes_Act_setStart | apply Writes.setReg | apply Writes.all_cons | apply Writes.all_nil | apply Writes.seq | apply Writes.get | apply Writes.when | apply Writes.ite | intro _ | split | dsimp only)
  all_goals first | exact r_RSTC_CAUSE | exact r_RSTC_DETAIL

theorem writes_Act_internalOnly {reason : Nat} {P : Nat → Prop} (r_RSTC_STRAP : P (RSTC.STRAP 0)) : Writes (Act.internalOnly reason) P := by
  unfold Act.internalOnly
  try dsimp only
  repeat' (with_reducible first | exact r_RSTC_STRAP | apply writes_Act_setFld | apply Writes.upd | apply Writes.seq | intro _ | dsimp only)
  all_goals first | exact r_RSTC_STRAP

theorem writes_Act_stepEight  {P : Nat → Prop} : Writes (Act.stepEight ) P := by
  unfold Act.stepEight
  try dsimp only
  repeat' (with_reducible first | apply writes_Act_freeBytes | apply writes_Act_modKstore | apply writes_Act_setStart | apply Writes.upd | apply Writes.all_cons | apply Writes.all_nil | apply Writes.get | apply Writes.each | apply Writes.ite | intro _ | split | dsimp only)

theorem writes_Act_lidSample  {P : Nat → Prop} (r_KEYS_EVT : P (KEYS.EVT 0)) : Writes (Act.lidSample ) P := by
  unfold Act.lidSample
  try dsimp only
  repeat' (with_reducible first | exact r_KEYS_EVT | apply writes_Act_event | apply Writes.upd | apply Writes.seq | apply Writes.get | apply Writes.when | apply Writes.ite | intro _ | split | dsimp only)
  all_goals first | exact r_KEYS_EVT

theorem writes_Act_fuseTrims  {P : Nat → Prop} (r_CAN_TDC : ∀ x0 x1, P (CAN.TDC x0 x1)) (r_ETH_TS : ∀ x0 x1, P (ETH.TS x0 x1)) : Writes (Act.fuseTrims ) P := by
  unfold Act.fuseTrims
  try dsimp only
  repeat' (with_reducible first | exact r_CAN_TDC _ _ | exact r_ETH_TS _ _ | apply writes_Act_setFld | apply writes_Act_setFlds | apply Writes.get | apply Writes.each | apply Writes.skip | apply Writes.ite | intro _ | split | dsimp only)
  all_goals first | exact r_CAN_TDC _ _ | exact r_ETH_TS _ _

theorem writes_Act_stepSix  {P : Nat → Prop} (r_WAKE_CAUSE : P (WAKE.CAUSE 0)) (r_RSTC_STRAP : P (RSTC.STRAP 0)) (r_KEYS_EVT : P (KEYS.EVT 0)) (r_CAN_TDC : ∀ x0 x1, P (CAN.TDC x0 x1)) (r_ETH_TS : ∀ x0 x1, P (ETH.TS x0 x1)) : Writes (Act.stepSix ) P := by
  unfold Act.stepSix
  try dsimp only
  repeat' (with_reducible first | exact r_WAKE_CAUSE | exact r_RSTC_STRAP | exact r_KEYS_EVT | exact r_CAN_TDC _ _ | exact r_ETH_TS _ _ | apply writes_Act_modDrv | apply writes_Act_setFabOff | apply writes_Act_setFlds | apply writes_Act_setStart | apply writes_Act_updIo | apply writes_Act_internalOnly | apply writes_Act_stepEight | apply writes_Act_lidSample | apply writes_Act_fuseTrims | apply Writes.setReg | apply Writes.upd | apply Writes.all_cons | apply Writes.all_nil | apply Writes.seq | apply Writes.get | apply Writes.when | apply Writes.each | intro _ | dsimp only)
  all_goals first | exact r_WAKE_CAUSE | exact r_RSTC_STRAP | exact r_KEYS_EVT | exact r_CAN_TDC _ _ | exact r_ETH_TS _ _

theorem writes_Act_resume  {P : Nat → Prop} (r_WAKE_CAUSE : P (WAKE.CAUSE 0)) (r_RSTC_STRAP : P (RSTC.STRAP 0)) (r_KEYS_EVT : P (KEYS.EVT 0)) (r_CAN_TDC : ∀ x0 x1, P (CAN.TDC x0 x1)) (r_ETH_TS : ∀ x0 x1, P (ETH.TS x0 x1)) : Writes (Act.resume ) P := by
  unfold Act.resume
  try dsimp only
  repeat' (with_reducible first | exact r_WAKE_CAUSE | exact r_RSTC_STRAP | exact r_KEYS_EVT | exact r_CAN_TDC _ _ | exact r_ETH_TS _ _ | apply writes_Act_stepSix | apply Writes.get | apply Writes.when | intro _ | dsimp only)
  all_goals first | exact r_WAKE_CAUSE | exact r_RSTC_STRAP | exact r_KEYS_EVT | exact r_CAN_TDC _ _ | exact r_ETH_TS _ _

theorem writes_Act_setSeq {f : Sequencer → Sequencer} {P : Nat → Prop} : Writes (Act.setSeq f) P := by
  unfold Act.setSeq
  try dsimp only
  repeat' (with_reducible first | apply Writes.upd | intro _ | dsimp only)

theorem writes_Act_stageOn {st : Stage} {P : Nat → Prop} : Writes (Act.stageOn st) P := by
  unfold Act.stageOn
  try dsimp only
  repeat' (with_reducible first | apply writes_Act_setSeq | apply Writes.get | intro _ | dsimp only)

theorem writes_Act_attempt  {P : Nat → Prop} (r_WAKE_EVT : P (WAKE.EVT 0)) (r_WAKE_CNT : P (WAKE.CNT 0 9)) (r_DEV_CNT_LAST : ∀ x0, P (DEV.CNT_LAST x0)) (r_DEV_EVT : ∀ x0, P (DEV.EVT x0)) (r_WAKE_CNT_2 : P (WAKE.CNT 0 11)) : Writes (Act.attempt ) P := by
  unfold Act.attempt
  try dsimp only
  repeat' (with_reducible first | exact r_WAKE_EVT | exact r_WAKE_CNT | exact r_DEV_CNT_LAST _ | exact r_DEV_EVT _ | exact r_WAKE_CNT_2 | apply writes_Act_islandOn | apply writes_Act_setSeq | apply writes_Act_stageOn | apply Writes.all_cons | apply Writes.all_nil | apply Writes.get | apply Writes.each | intro _ | dsimp only)
  all_goals first | exact r_WAKE_EVT | exact r_WAKE_CNT | exact r_DEV_CNT_LAST _ | exact r_DEV_EVT _ | exact r_WAKE_CNT_2

theorem writes_Act_enablesOff {st : Stage} {P : Nat → Prop} : Writes (Act.enablesOff st) P := by
  unfold Act.enablesOff
  try dsimp only
  repeat' (with_reducible first | apply writes_Act_setSeq | intro _ | dsimp only)

/-! ## Supply -/

theorem writes_Act_vbatIs {d v : Nat} {P : Nat → Prop} : Writes (Act.vbatIs d v) P := by
  unfold Act.vbatIs
  try dsimp only
  repeat' (with_reducible first | apply writes_Act_setSup | intro _ | dsimp only)

theorem writes_vbatSample {d v : Nat} {P : Nat → Prop} : Writes (vbatSample d v) P := by
  unfold vbatSample
  try dsimp only
  repeat' (with_reducible first | apply writes_Act_vbatIs | apply Writes.get | apply Writes.when | intro _ | dsimp only)

theorem writes_Act_minmaxClear {d : Nat} {P : Nat → Prop} : Writes (Act.minmaxClear d) P := by
  unfold Act.minmaxClear
  try dsimp only
  repeat' (with_reducible first | apply writes_Act_setSup | intro _ | dsimp only)

theorem writes_powerOn {d v boot clk : Nat} {P : Nat → Prop} (r_WAKE_EVT : P (WAKE.EVT 0)) (r_WAKE_CNT : P (WAKE.CNT 0 9)) (r_DEV_CNT_LAST : ∀ x0, P (DEV.CNT_LAST x0)) (r_DEV_EVT : ∀ x0, P (DEV.EVT x0)) (r_WAKE_CNT_2 : P (WAKE.CNT 0 11)) : Writes (powerOn d v boot clk) P := by
  unfold powerOn
  try dsimp only
  repeat' (with_reducible first | exact r_WAKE_EVT | exact r_WAKE_CNT | exact r_DEV_CNT_LAST _ | exact r_DEV_EVT _ | exact r_WAKE_CNT_2 | apply writes_Act_setSup | apply writes_Act_islandOn | apply Writes.upd | apply Writes.all_cons | apply Writes.all_nil | apply Writes.get | apply Writes.when | intro _ | dsimp only)
  all_goals first | exact r_WAKE_EVT | exact r_WAKE_CNT | exact r_DEV_CNT_LAST _ | exact r_DEV_EVT _ | exact r_WAKE_CNT_2

theorem writes_vbatResetRelease {v : Nat} {P : Nat → Prop} (r_WAKE_EVT : P (WAKE.EVT 0)) (r_WAKE_CNT : P (WAKE.CNT 0 9)) (r_DEV_CNT_LAST : ∀ x0, P (DEV.CNT_LAST x0)) (r_DEV_EVT : ∀ x0, P (DEV.EVT x0)) (r_WAKE_CNT_2 : P (WAKE.CNT 0 11)) : Writes (vbatResetRelease v) P := by
  unfold vbatResetRelease
  try dsimp only
  repeat' (with_reducible first | exact r_WAKE_EVT | exact r_WAKE_CNT | exact r_DEV_CNT_LAST _ | exact r_DEV_EVT _ | exact r_WAKE_CNT_2 | apply writes_Act_setSup | apply writes_Act_attempt | apply Writes.seq | apply Writes.get | apply Writes.when | intro _ | dsimp only)
  all_goals first | exact r_WAKE_EVT | exact r_WAKE_CNT | exact r_DEV_CNT_LAST _ | exact r_DEV_EVT _ | exact r_WAKE_CNT_2

theorem writes_sagWarning {d v : Nat} {P : Nat → Prop} (r_SUP_EVT : P (SUP.EVT d)) : Writes (sagWarning d v) P := by
  unfold sagWarning
  try dsimp only
  repeat' (with_reducible first | exact r_SUP_EVT | apply writes_Act_eventIrq | apply writes_Act_setSup | apply Writes.all_cons | apply Writes.all_nil | apply Writes.get | apply Writes.when | intro _ | dsimp only)
  all_goals first | exact r_SUP_EVT

theorem writes_sagEnd {d v : Nat} {P : Nat → Prop} (r_SUP_EVT : P (SUP.EVT d)) (r_WAKE_EVT : P (WAKE.EVT 0)) (r_WAKE_CNT : P (WAKE.CNT 0 9)) (r_DEV_CNT_LAST : ∀ x0, P (DEV.CNT_LAST x0)) (r_DEV_EVT : ∀ x0, P (DEV.EVT x0)) (r_WAKE_CNT_2 : P (WAKE.CNT 0 11)) : Writes (sagEnd d v) P := by
  unfold sagEnd
  try dsimp only
  repeat' (with_reducible first | exact r_SUP_EVT | exact r_WAKE_EVT | exact r_WAKE_CNT | exact r_DEV_CNT_LAST _ | exact r_DEV_EVT _ | exact r_WAKE_CNT_2 | apply writes_Act_eventIrq | apply writes_Act_setSup | apply writes_Act_admSettle | apply Writes.all_cons | apply Writes.all_nil | apply Writes.get | apply Writes.when | intro _ | dsimp only)
  all_goals first | exact r_SUP_EVT | exact r_WAKE_EVT | exact r_WAKE_CNT | exact r_DEV_CNT_LAST _ | exact r_DEV_EVT _ | exact r_WAKE_CNT_2

theorem writes_ovWarn {d v : Nat} {P : Nat → Prop} (r_SUP_EVT : P (SUP.EVT d)) : Writes (ovWarn d v) P := by
  unfold ovWarn
  try dsimp only
  repeat' (with_reducible first | exact r_SUP_EVT | apply writes_Act_event | apply writes_Act_setSup | apply Writes.all_cons | apply Writes.all_nil | apply Writes.get | apply Writes.when | intro _ | dsimp only)
  all_goals first | exact r_SUP_EVT

theorem writes_ovWarnEnd {d v : Nat} {P : Nat → Prop} : Writes (ovWarnEnd d v) P := by
  unfold ovWarnEnd
  try dsimp only
  repeat' (with_reducible first | apply writes_Act_setSup | apply Writes.get | apply Writes.when | intro _ | dsimp only)

theorem writes_ovOpen {d v : Nat} {P : Nat → Prop} (r_SUP_EVT : P (SUP.EVT d)) (r_WAKE_EVT : P (WAKE.EVT 0)) (r_WAKE_CNT : P (WAKE.CNT 0 9)) (r_DEV_CNT_LAST : ∀ x0, P (DEV.CNT_LAST x0)) (r_DEV_EVT : ∀ x0, P (DEV.EVT x0)) (r_WAKE_CNT_2 : P (WAKE.CNT 0 11)) : Writes (ovOpen d v) P := by
  unfold ovOpen
  try dsimp only
  repeat' (with_reducible first | exact r_SUP_EVT | exact r_WAKE_EVT | exact r_WAKE_CNT | exact r_DEV_CNT_LAST _ | exact r_DEV_EVT _ | exact r_WAKE_CNT_2 | apply writes_Act_event | apply writes_Act_setSup | apply writes_Act_chSettleAll | apply Writes.all_cons | apply Writes.all_nil | apply Writes.get | apply Writes.when | intro _ | dsimp only)
  all_goals first | exact r_SUP_EVT | exact r_WAKE_EVT | exact r_WAKE_CNT | exact r_DEV_CNT_LAST _ | exact r_DEV_EVT _ | exact r_WAKE_CNT_2

theorem writes_ovEnd {d v : Nat} {P : Nat → Prop} (r_SUP_EVT : P (SUP.EVT d)) (r_WAKE_EVT : P (WAKE.EVT 0)) (r_WAKE_CNT : P (WAKE.CNT 0 9)) (r_DEV_CNT_LAST : ∀ x0, P (DEV.CNT_LAST x0)) (r_DEV_EVT : ∀ x0, P (DEV.EVT x0)) (r_WAKE_CNT_2 : P (WAKE.CNT 0 11)) : Writes (ovEnd d v) P := by
  unfold ovEnd
  try dsimp only
  repeat' (with_reducible first | exact r_SUP_EVT | exact r_WAKE_EVT | exact r_WAKE_CNT | exact r_DEV_CNT_LAST _ | exact r_DEV_EVT _ | exact r_WAKE_CNT_2 | apply writes_Act_event | apply writes_Act_setSup | apply writes_Act_chSettleAll | apply Writes.all_cons | apply Writes.all_nil | apply Writes.get | apply Writes.when | intro _ | dsimp only)
  all_goals first | exact r_SUP_EVT | exact r_WAKE_EVT | exact r_WAKE_CNT | exact r_DEV_CNT_LAST _ | exact r_DEV_EVT _ | exact r_WAKE_CNT_2

theorem writes_stageSuccess {t : Nat} {P : Nat → Prop} (r_WAKE_CAUSE : P (WAKE.CAUSE 0)) (r_RSTC_STRAP : P (RSTC.STRAP 0)) (r_KEYS_EVT : P (KEYS.EVT 0)) (r_CAN_TDC : ∀ x0 x1, P (CAN.TDC x0 x1)) (r_ETH_TS : ∀ x0 x1, P (ETH.TS x0 x1)) : Writes (stageSuccess t) P := by
  unfold stageSuccess
  try dsimp only
  repeat' (with_reducible first | exact r_WAKE_CAUSE | exact r_RSTC_STRAP | exact r_KEYS_EVT | exact r_CAN_TDC _ _ | exact r_ETH_TS _ _ | apply writes_Act_resume | apply writes_Act_setSeq | apply writes_Act_stageOn | apply Writes.seq | apply Writes.get | apply Writes.skip | apply Writes.ite | intro _ | split | dsimp only)
  all_goals first | exact r_WAKE_CAUSE | exact r_RSTC_STRAP | exact r_KEYS_EVT | exact r_CAN_TDC _ _ | exact r_ETH_TS _ _

theorem writes_regulatorRetry  {P : Nat → Prop} (r_WAKE_EVT : P (WAKE.EVT 0)) (r_WAKE_CNT : P (WAKE.CNT 0 9)) (r_DEV_CNT_LAST : ∀ x0, P (DEV.CNT_LAST x0)) (r_DEV_EVT : ∀ x0, P (DEV.EVT x0)) (r_WAKE_CNT_2 : P (WAKE.CNT 0 11)) : Writes (regulatorRetry ) P := by
  unfold regulatorRetry
  try dsimp only
  repeat' (with_reducible first | exact r_WAKE_EVT | exact r_WAKE_CNT | exact r_DEV_CNT_LAST _ | exact r_DEV_EVT _ | exact r_WAKE_CNT_2 | apply writes_Act_attempt | apply Writes.get | apply Writes.when | intro _ | dsimp only)
  all_goals first | exact r_WAKE_EVT | exact r_WAKE_CNT | exact r_DEV_CNT_LAST _ | exact r_DEV_EVT _ | exact r_WAKE_CNT_2

theorem writes_coreDroop {p mv : Nat} {P : Nat → Prop} (r_DEV_EVT : P (DEV.EVT p)) : Writes (coreDroop p mv) P := by
  unfold coreDroop
  try dsimp only
  repeat' (with_reducible first | exact r_DEV_EVT | apply writes_Act_event | apply writes_Act_setPsup | apply Writes.seq | apply Writes.get | apply Writes.when | intro _ | dsimp only)
  all_goals first | exact r_DEV_EVT

theorem writes_coreDroopEnd {p mv : Nat} {P : Nat → Prop} : Writes (coreDroopEnd p mv) P := by
  unfold coreDroopEnd
  try dsimp only
  repeat' (with_reducible first | apply writes_Act_setPsup | apply Writes.get | apply Writes.when | intro _ | dsimp only)

theorem writes_resetNRelease {boot clk : Nat} {P : Nat → Prop} (r_WAKE_CAUSE : P (WAKE.CAUSE 0)) (r_RSTC_STRAP : P (RSTC.STRAP 0)) (r_KEYS_EVT : P (KEYS.EVT 0)) (r_CAN_TDC : ∀ x0 x1, P (CAN.TDC x0 x1)) (r_ETH_TS : ∀ x0 x1, P (ETH.TS x0 x1)) (r_WAKE_EVT : P (WAKE.EVT 0)) (r_WAKE_CNT : P (WAKE.CNT 0 9)) (r_DEV_CNT_LAST : ∀ x0, P (DEV.CNT_LAST x0)) (r_DEV_EVT : ∀ x0, P (DEV.EVT x0)) (r_WAKE_CNT_2 : P (WAKE.CNT 0 11)) : Writes (resetNRelease boot clk) P := by
  unfold resetNRelease
  try dsimp only
  repeat' (with_reducible first | exact r_WAKE_CAUSE | exact r_RSTC_STRAP | exact r_KEYS_EVT | exact r_CAN_TDC _ _ | exact r_ETH_TS _ _ | exact r_WAKE_EVT | exact r_WAKE_CNT | exact r_DEV_CNT_LAST _ | exact r_DEV_EVT _ | exact r_WAKE_CNT_2 | apply writes_Act_setStart | apply writes_Act_resume | apply writes_Act_attempt | apply Writes.upd | apply Writes.all_cons | apply Writes.all_nil | apply Writes.get | apply Writes.when | apply Writes.ite | intro _ | split | dsimp only)
  all_goals first | exact r_WAKE_CAUSE | exact r_RSTC_STRAP | exact r_KEYS_EVT | exact r_CAN_TDC _ _ | exact r_ETH_TS _ _ | exact r_WAKE_EVT | exact r_WAKE_CNT | exact r_DEV_CNT_LAST _ | exact r_DEV_EVT _ | exact r_WAKE_CNT_2

theorem writes_thermalHoldEnd  {P : Nat → Prop} (r_WAKE_CAUSE : P (WAKE.CAUSE 0)) (r_RSTC_STRAP : P (RSTC.STRAP 0)) (r_KEYS_EVT : P (KEYS.EVT 0)) (r_CAN_TDC : ∀ x0 x1, P (CAN.TDC x0 x1)) (r_ETH_TS : ∀ x0 x1, P (ETH.TS x0 x1)) : Writes (thermalHoldEnd ) P := by
  unfold thermalHoldEnd
  try dsimp only
  repeat' (with_reducible first | exact r_WAKE_CAUSE | exact r_RSTC_STRAP | exact r_KEYS_EVT | exact r_CAN_TDC _ _ | exact r_ETH_TS _ _ | apply writes_Act_setStart | apply writes_Act_resume | apply Writes.seq | apply Writes.get | apply Writes.when | intro _ | dsimp only)
  all_goals first | exact r_WAKE_CAUSE | exact r_RSTC_STRAP | exact r_KEYS_EVT | exact r_CAN_TDC _ _ | exact r_ETH_TS _ _

theorem writes_prismThermalWarn {p : Nat} {P : Nat → Prop} : Writes (prismThermalWarn p) P := by
  unfold prismThermalWarn
  try dsimp only
  repeat' (with_reducible first | apply writes_Act_setPsup | apply Writes.get | apply Writes.when | intro _ | dsimp only)

theorem writes_prismThermalWarnEnd {p : Nat} {P : Nat → Prop} : Writes (prismThermalWarnEnd p) P := by
  unfold prismThermalWarnEnd
  try dsimp only
  repeat' (with_reducible first | apply writes_Act_setPsup | apply Writes.get | apply Writes.when | intro _ | dsimp only)

theorem writes_clockReady  {P : Nat → Prop} (r_RSTC_STRAP : P (RSTC.STRAP 0)) : Writes (clockReady ) P := by
  unfold clockReady
  try dsimp only
  repeat' (with_reducible first | exact r_RSTC_STRAP | apply writes_Act_setFld | apply writes_Act_stepEight | apply Writes.upd | apply Writes.all_cons | apply Writes.all_nil | apply Writes.get | apply Writes.when | apply Writes.ite | intro _ | split | dsimp only)
  all_goals first | exact r_RSTC_STRAP

theorem writes_clockTimeout  {P : Nat → Prop} (r_RSTC_STRAP : P (RSTC.STRAP 0)) : Writes (clockTimeout ) P := by
  unfold clockTimeout
  try dsimp only
  repeat' (with_reducible first | exact r_RSTC_STRAP | apply writes_Act_internalOnly | apply writes_Act_stepEight | apply Writes.seq | apply Writes.get | apply Writes.when | intro _ | dsimp only)
  all_goals first | exact r_RSTC_STRAP

theorem writes_clockLost  {P : Nat → Prop} (r_BLK_CTRL : ∀ x0 x1, P (BLK_CTRL x0 x1)) (r_CAN_CNT : ∀ x0 x1, P (CAN.CNT x0 x1 21)) (r_DEV_CNT_LAST : ∀ x0, P (DEV.CNT_LAST x0)) (r_DEV_EVT : ∀ x0, P (DEV.EVT x0)) (r_CAN_EVT : ∀ x0 x1, P (CAN.EVT x0 x1)) (r_QMGR_EVT : ∀ x0, P (QMGR.EVT x0)) (r_ETH_EVT : ∀ x0 x1, P (ETH.EVT x0 x1)) (r_ETH_CNT : ∀ x0 x1, P (ETH.CNT x0 x1 52)) (r_ETH_CNT_2 : ∀ x0 x1, P (ETH.CNT x0 x1 9)) (r_LIN_EVT : ∀ x0 x1, P (LIN.EVT x0 x1)) (r_LIN_CNT : ∀ x0 x1, P (LIN.CNT x0 x1 13)) (r_PSCP_LAST_ERR : ∀ x0, P (PSCP.LAST_ERR x0)) (r_PSCP_EVT : ∀ x0, P (PSCP.EVT x0)) (r_PSCP_RD_CMD : ∀ x0, P (PSCP.RD_CMD x0)) (r_RSTC_STRAP : P (RSTC.STRAP 0)) : Writes (clockLost ) P := by
  unfold clockLost
  try dsimp only
  repeat' (with_reducible first | exact r_BLK_CTRL _ _ | exact r_CAN_CNT _ _ | exact r_DEV_CNT_LAST _ | exact r_DEV_EVT _ | exact r_CAN_EVT _ _ | exact r_QMGR_EVT _ | exact r_ETH_EVT _ _ | exact r_ETH_CNT _ _ | exact r_ETH_CNT_2 _ _ | exact r_LIN_EVT _ _ | exact r_LIN_CNT _ _ | exact r_PSCP_LAST_ERR _ | exact r_PSCP_EVT _ | exact r_PSCP_RD_CMD _ | exact r_RSTC_STRAP | apply writes_Act_canClockLost | apply writes_Act_linkDown | apply writes_Act_linClockLost | apply writes_Act_recClockLost | apply writes_Act_internalOnly | apply Writes.setReg | apply Writes.all_cons | apply Writes.all_nil | apply Writes.seq | apply Writes.get | apply Writes.when | apply Writes.each | intro _ | dsimp only)
  all_goals first | exact r_BLK_CTRL _ _ | exact r_CAN_CNT _ _ | exact r_DEV_CNT_LAST _ | exact r_DEV_EVT _ | exact r_CAN_EVT _ _ | exact r_QMGR_EVT _ | exact r_ETH_EVT _ _ | exact r_ETH_CNT _ _ | exact r_ETH_CNT_2 _ _ | exact r_LIN_EVT _ _ | exact r_LIN_CNT _ _ | exact r_PSCP_LAST_ERR _ | exact r_PSCP_EVT _ | exact r_PSCP_RD_CMD _ | exact r_RSTC_STRAP

theorem writes_driveLinkLost {d : Nat} {seen : Bool} {P : Nat → Prop} (r_DEV_DLINK : ∀ x0, P (DEV.DLINK x0)) (r_DEV_EVT : ∀ x0, P (DEV.EVT x0)) : Writes (driveLinkLost d seen) P := by
  unfold driveLinkLost
  try dsimp only
  repeat' (with_reducible first | exact r_DEV_DLINK _ | exact r_DEV_EVT _ | apply writes_Act_setFld | apply writes_Act_event | apply writes_Act_setPsup | apply Writes.all_cons | apply Writes.all_nil | apply Writes.get | apply Writes.when | apply Writes.ite | intro _ | split | dsimp only)
  all_goals first | exact r_DEV_DLINK _ | exact r_DEV_EVT _

theorem writes_driveLinkResume {d : Nat} {P : Nat → Prop} : Writes (driveLinkResume d) P := by
  unfold driveLinkResume
  try dsimp only
  repeat' (with_reducible first | apply writes_Act_setPsup | apply Writes.get | apply Writes.when | intro _ | dsimp only)

theorem writes_slowEdgeLost {mask : Nat} {P : Nat → Prop} (r_DEV_EVT : ∀ x0, P (DEV.EVT x0)) (r_TIME_EVT : ∀ x0, P (TIME.EVT x0)) (r_SUP_EVT : ∀ x0, P (SUP.EVT x0)) : Writes (slowEdgeLost mask) P := by
  unfold slowEdgeLost
  try dsimp only
  repeat' (with_reducible first | exact r_DEV_EVT _ | exact r_TIME_EVT _ | exact r_SUP_EVT _ | apply writes_Act_event | apply writes_Act_setSup | apply writes_Act_setPsup | apply Writes.all_cons | apply Writes.all_nil | apply Writes.seq | apply Writes.get | apply Writes.each | intro _ | dsimp only)
  all_goals first | exact r_DEV_EVT _ | exact r_TIME_EVT _ | exact r_SUP_EVT _

theorem writes_wakeStart {v : Nat} {P : Nat → Prop} (r_WKP_EVT : P (WKP.EVT 0)) (r_WAKE_EVT : P (WAKE.EVT 0)) (r_WAKE_CNT : P (WAKE.CNT 0 9)) (r_DEV_CNT_LAST : ∀ x0, P (DEV.CNT_LAST x0)) (r_DEV_EVT : ∀ x0, P (DEV.EVT x0)) (r_WAKE_CNT_2 : P (WAKE.CNT 0 11)) : Writes (wakeStart v) P := by
  unfold wakeStart
  try dsimp only
  repeat' (with_reducible first | exact r_WKP_EVT | exact r_WAKE_EVT | exact r_WAKE_CNT | exact r_DEV_CNT_LAST _ | exact r_DEV_EVT _ | exact r_WAKE_CNT_2 | apply writes_Act_freeBelow | apply writes_Act_event | apply writes_Act_updIo | apply writes_Act_attempt | apply Writes.upd | apply Writes.seq | apply Writes.get | apply Writes.when | apply Writes.ite | intro _ | split | dsimp only)
  all_goals first | exact r_WKP_EVT | exact r_WAKE_EVT | exact r_WAKE_CNT | exact r_DEV_CNT_LAST _ | exact r_DEV_EVT _ | exact r_WAKE_CNT_2

end Sys2Proof.Machine
end

