-- ==== Sys2Proof/Laws/Writes/Group9.lean ====
section
/-! SUPPORT. Which registers the operations of Gateway, Keys, Cipher, Tables may write. -/

set_option linter.unusedTactic false
set_option linter.unreachableTactic false

namespace Sys2Proof.Machine

/-! ## Gateway -/

theorem writes_Act_routeTo {p d f : Nat} {w2 w3 : Word} {g : Ingress} {b : List Byte} {P : Nat → Prop} (r_SGW_CNT : P (SGW.CNT p 4)) (r_DEV_CNT_LAST : ∀ x0, P (DEV.CNT_LAST x0)) (r_DEV_EVT : ∀ x0, P (DEV.EVT x0)) (r_SGW_CNT_2 : P (SGW.CNT p 3)) : Writes (Act.routeTo p d f w2 w3 g b) P := by
  unfold Act.routeTo
  try dsimp only
  repeat' (with_reducible first | exact r_SGW_CNT | exact r_DEV_CNT_LAST _ | exact r_DEV_EVT _ | exact r_SGW_CNT_2 | apply writes_Act_engineOut | apply writes_Act_sgwCount | apply Writes.seq | apply Writes.get | intro _ | split | dsimp only)
  all_goals first | exact r_SGW_CNT | exact r_DEV_CNT_LAST _ | exact r_DEV_EVT _ | exact r_SGW_CNT_2

theorem writes_Act_routes {p : Nat} {w2 w3 : Word} {g : Ingress} {b : List Byte} {P : Nat → Prop} (r_SGW_CNT : P (SGW.CNT p 4)) (r_DEV_CNT_LAST : ∀ x0, P (DEV.CNT_LAST x0)) (r_DEV_EVT : ∀ x0, P (DEV.EVT x0)) (r_SGW_CNT_2 : P (SGW.CNT p 3)) (r_SGW_CNT_3 : P (SGW.CNT p 11)) : Writes (Act.routes p w2 w3 g b) P := by
  unfold Act.routes
  try dsimp only
  repeat' (with_reducible first | exact r_SGW_CNT | exact r_DEV_CNT_LAST _ | exact r_DEV_EVT _ | exact r_SGW_CNT_2 | exact r_SGW_CNT_3 | apply writes_Act_freeBelow | apply writes_Act_sgwCount | apply writes_Act_tunnelAdd | apply writes_Act_routeTo | apply Writes.all_cons | apply Writes.all_nil | apply Writes.seq | apply Writes.get | apply Writes.when | apply Writes.each | apply Writes.ite | intro _ | split | dsimp only)
  all_goals first | exact r_SGW_CNT | exact r_DEV_CNT_LAST _ | exact r_DEV_EVT _ | exact r_SGW_CNT_2 | exact r_SGW_CNT_3

theorem writes_Act_toFw {p : Nat} {g : Ingress} {bus : Bool} {b : List Byte} {P : Nat → Prop} : Writes (Act.toFw p g bus b) P := by
  unfold Act.toFw
  try dsimp only
  repeat' (with_reducible first | apply writes_Act_engineOut | apply Writes.get | intro _ | dsimp only)

theorem writes_Act_verified {p prof use user : Nat} {id : Option Nat} {fault : Option (Nat × Nat)} {data : List Byte} {onFail : Act} {k : List Byte → Act} {P : Nat → Prop} (r_PLX_CNT : P (PLX.CNT 0 9)) (r_DEV_CNT_LAST : ∀ x0, P (DEV.CNT_LAST x0)) (r_DEV_EVT : ∀ x0, P (DEV.EVT x0)) (r_PAIR_CNT : P (PAIR.CNT p 5)) (r_PAIR_CNT_2 : P (PAIR.CNT p 6)) (r_KEYS_SLOT : ∀ x0, P (KEYS.SLOT p x0)) (r_KEYS_LAST : P (KEYS.LAST p)) (r_KEYS_EVT : P (KEYS.EVT p)) (r_KEYS_CNT : P (KEYS.CNT p 6)) (r_CIPH_LAST : P (CIPH.LAST p)) (r_CIPH_EVT : P (CIPH.EVT p)) (r_CIPH_CNT : P (CIPH.CNT p 6)) (r_SEAL_LAST : P (SEAL.LAST p)) (r_SEAL_EVT : P (SEAL.EVT p)) (r_SEAL_CNT : ∀ x0, P (SEAL.CNT p x0)) (r_PLX_LAST : P (PLX.LAST 0)) (r_PLX_EVT : P (PLX.EVT 0)) (hk_onFail : Writes (onFail) P) (hk_k : ∀ x0, Writes (k x0) P) : Writes (Act.verified p prof use user id fault data onFail k) P := by
  unfold Act.verified
  try dsimp only
  repeat' (with_reducible first | exact r_PLX_CNT | exact r_DEV_CNT_LAST _ | exact r_DEV_EVT _ | exact r_PAIR_CNT | exact r_PAIR_CNT_2 | exact r_KEYS_SLOT _ | exact r_KEYS_LAST | exact r_KEYS_EVT | exact r_KEYS_CNT | exact r_CIPH_LAST | exact r_CIPH_EVT | exact r_CIPH_CNT | exact r_SEAL_LAST | exact r_SEAL_EVT | exact r_SEAL_CNT _ | exact r_PLX_LAST | exact r_PLX_EVT | exact hk_onFail | exact hk_k _ | apply writes_Act_count | apply writes_Act_verifySeal | apply writes_Act_sealReplay | apply writes_Act_sealAccept | apply writes_Act_plxEvent | apply Writes.seq | apply Writes.get | apply Writes.skip | apply Writes.ite | intro _ | split | dsimp only)
  all_goals first | exact r_PLX_CNT | exact r_DEV_CNT_LAST _ | exact r_DEV_EVT _ | exact r_PAIR_CNT | exact r_PAIR_CNT_2 | exact r_KEYS_SLOT _ | exact r_KEYS_LAST | exact r_KEYS_EVT | exact r_KEYS_CNT | exact r_CIPH_LAST | exact r_CIPH_EVT | exact r_CIPH_CNT | exact r_SEAL_LAST | exact r_SEAL_EVT | exact r_SEAL_CNT _ | exact r_PLX_LAST | exact r_PLX_EVT

theorem writes_Act_underEntry {p e : Nat} {g : Ingress} {id : Option Nat} {fault : Bool} {data : List Byte} {copies fw : Act} {P : Nat → Prop} (r_SGW_EVT : P (SGW.EVT p)) (r_SGW_CNT : P (SGW.CNT p 1)) (r_DEV_CNT_LAST : ∀ x0, P (DEV.CNT_LAST x0)) (r_DEV_EVT : ∀ x0, P (DEV.EVT x0)) (r_SGW_CNT_2 : P (SGW.CNT p 9)) (r_SGW_CNT_3 : P (SGW.CNT p 6)) (r_SGW_CNT_4 : P (SGW.CNT p 5)) (r_PLX_CNT : P (PLX.CNT 0 9)) (r_PAIR_CNT : P (PAIR.CNT p 5)) (r_PAIR_CNT_2 : P (PAIR.CNT p 6)) (r_KEYS_SLOT : ∀ x0, P (KEYS.SLOT p x0)) (r_KEYS_LAST : P (KEYS.LAST p)) (r_KEYS_EVT : P (KEYS.EVT p)) (r_KEYS_CNT : P (KEYS.CNT p 6)) (r_CIPH_LAST : P (CIPH.LAST p)) (r_CIPH_EVT : P (CIPH.EVT p)) (r_CIPH_CNT : P (CIPH.CNT p 6)) (r_SEAL_LAST : P (SEAL.LAST p)) (r_SEAL_EVT : P (SEAL.EVT p)) (r_SEAL_CNT : ∀ x0, P (SEAL.CNT p x0)) (r_PLX_LAST : P (PLX.LAST 0)) (r_PLX_EVT : P (PLX.EVT 0)) (hk_copies : Writes (copies) P) (hk_fw : Writes (fw) P) : Writes (Act.underEntry p e g id fault data copies fw) P := by
  unfold Act.underEntry
  try dsimp only
  repeat' (with_reducible first | exact r_SGW_EVT | exact r_SGW_CNT | exact r_DEV_CNT_LAST _ | exact r_DEV_EVT _ | exact r_SGW_CNT_2 | exact r_SGW_CNT_3 | exact r_SGW_CNT_4 | exact r_PLX_CNT | exact r_PAIR_CNT | exact r_PAIR_CNT_2 | exact r_KEYS_SLOT _ | exact r_KEYS_LAST | exact r_KEYS_EVT | exact r_KEYS_CNT | exact r_CIPH_LAST | exact r_CIPH_EVT | exact r_CIPH_CNT | exact r_SEAL_LAST | exact r_SEAL_EVT | exact r_SEAL_CNT _ | exact r_PLX_LAST | exact r_PLX_EVT | exact hk_copies | exact hk_fw | apply writes_Act_sgwEvent | apply writes_Act_sgwCount | apply writes_Act_extract | apply writes_Act_verified | apply Writes.all_cons | apply Writes.all_nil | apply Writes.seq | apply Writes.get | apply Writes.when | apply Writes.ite | intro _ | split | dsimp only)
  all_goals first | exact r_SGW_EVT | exact r_SGW_CNT | exact r_DEV_CNT_LAST _ | exact r_DEV_EVT _ | exact r_SGW_CNT_2 | exact r_SGW_CNT_3 | exact r_SGW_CNT_4 | exact r_PLX_CNT | exact r_PAIR_CNT | exact r_PAIR_CNT_2 | exact r_KEYS_SLOT _ | exact r_KEYS_LAST | exact r_KEYS_EVT | exact r_KEYS_CNT | exact r_CIPH_LAST | exact r_CIPH_EVT | exact r_CIPH_CNT | exact r_SEAL_LAST | exact r_SEAL_EVT | exact r_SEAL_CNT _ | exact r_PLX_LAST | exact r_PLX_EVT

theorem writes_Act_beamMiss {p : Nat} {toFw : Act} {P : Nat → Prop} (r_SGW_CNT : P (SGW.CNT p 2)) (r_DEV_CNT_LAST : ∀ x0, P (DEV.CNT_LAST x0)) (r_DEV_EVT : ∀ x0, P (DEV.EVT x0)) (hk_toFw : Writes (toFw) P) : Writes (Act.beamMiss p toFw) P := by
  unfold Act.beamMiss
  try dsimp only
  repeat' (with_reducible first | exact r_SGW_CNT | exact r_DEV_CNT_LAST _ | exact r_DEV_EVT _ | exact hk_toFw | apply writes_Act_sgwCount | apply Writes.get | apply Writes.ite | intro _ | split | dsimp only)
  all_goals first | exact r_SGW_CNT | exact r_DEV_CNT_LAST _ | exact r_DEV_EVT _

theorem writes_Act_lookupBus {p : Nat} {g : Ingress} {fault : Bool} {b : List Byte} {P : Nat → Prop} (r_SGW_CNT : ∀ x0, P (SGW.CNT p x0)) (r_DEV_CNT_LAST : ∀ x0, P (DEV.CNT_LAST x0)) (r_DEV_EVT : ∀ x0, P (DEV.EVT x0)) (r_SGW_EVT : P (SGW.EVT p)) (r_PLX_CNT : P (PLX.CNT 0 9)) (r_PAIR_CNT : P (PAIR.CNT p 5)) (r_PAIR_CNT_2 : P (PAIR.CNT p 6)) (r_KEYS_SLOT : ∀ x0, P (KEYS.SLOT p x0)) (r_KEYS_LAST : P (KEYS.LAST p)) (r_KEYS_EVT : P (KEYS.EVT p)) (r_KEYS_CNT : P (KEYS.CNT p 6)) (r_CIPH_LAST : P (CIPH.LAST p)) (r_CIPH_EVT : P (CIPH.EVT p)) (r_CIPH_CNT : P (CIPH.CNT p 6)) (r_SEAL_LAST : P (SEAL.LAST p)) (r_SEAL_EVT : P (SEAL.EVT p)) (r_SEAL_CNT : ∀ x0, P (SEAL.CNT p x0)) (r_PLX_LAST : P (PLX.LAST 0)) (r_PLX_EVT : P (PLX.EVT 0)) : Writes (Act.lookupBus p g fault b) P := by
  unfold Act.lookupBus
  try dsimp only
  repeat' (with_reducible first | exact r_SGW_CNT _ | exact r_DEV_CNT_LAST _ | exact r_DEV_EVT _ | exact r_SGW_EVT | exact r_PLX_CNT | exact r_PAIR_CNT | exact r_PAIR_CNT_2 | exact r_KEYS_SLOT _ | exact r_KEYS_LAST | exact r_KEYS_EVT | exact r_KEYS_CNT | exact r_CIPH_LAST | exact r_CIPH_EVT | exact r_CIPH_CNT | exact r_SEAL_LAST | exact r_SEAL_EVT | exact r_SEAL_CNT _ | exact r_PLX_LAST | exact r_PLX_EVT | apply writes_Act_sgwCount | apply writes_Act_routes | apply writes_Act_toFw | apply writes_Act_underEntry | apply writes_Act_beamMiss | apply Writes.seq | apply Writes.get | intro _ | split | dsimp only)
  all_goals first | exact r_SGW_CNT _ | exact r_DEV_CNT_LAST _ | exact r_DEV_EVT _ | exact r_SGW_EVT | exact r_PLX_CNT | exact r_PAIR_CNT | exact r_PAIR_CNT_2 | exact r_KEYS_SLOT _ | exact r_KEYS_LAST | exact r_KEYS_EVT | exact r_KEYS_CNT | exact r_CIPH_LAST | exact r_CIPH_EVT | exact r_CIPH_CNT | exact r_SEAL_LAST | exact r_SEAL_EVT | exact r_SEAL_CNT _ | exact r_PLX_LAST | exact r_PLX_EVT

theorem writes_Act_tpClose {p : Nat} {x : Session} {P : Nat → Prop} : Writes (Act.tpClose p x) P := by
  unfold Act.tpClose
  try dsimp only
  repeat' (with_reducible first | apply writes_Act_modSess | intro _ | dsimp only)

theorem writes_Act_tpPut {p : Nat} {x : Session} {P : Nat → Prop} : Writes (Act.tpPut p x) P := by
  unfold Act.tpPut
  try dsimp only
  repeat' (with_reducible first | apply writes_Act_modSess | apply Writes.ite | apply Writes.all_map | intro _ | split | dsimp only)

theorem writes_Act_tpSend {p : Nat} {x : Session} {bytes : List Byte} {P : Nat → Prop} : Writes (Act.tpSend p x bytes) P := by
  unfold Act.tpSend
  try dsimp only
  repeat' (with_reducible first | apply writes_Act_engineOut | apply Writes.get | apply Writes.ite | intro _ | split | dsimp only)

theorem writes_Act_tpAborted {p c reason : Nat} {P : Nat → Prop} (r_SGW_LAST : P (SGW.LAST p)) (r_SGW_EVT : P (SGW.EVT p)) (r_SGW_CNT : P (SGW.CNT p 17)) (r_DEV_CNT_LAST : ∀ x0, P (DEV.CNT_LAST x0)) (r_DEV_EVT : ∀ x0, P (DEV.EVT x0)) : Writes (Act.tpAborted p c reason) P := by
  unfold Act.tpAborted
  try dsimp only
  repeat' (with_reducible first | exact r_SGW_LAST | exact r_SGW_EVT | exact r_SGW_CNT | exact r_DEV_CNT_LAST _ | exact r_DEV_EVT _ | apply writes_Act_setFlds | apply writes_Act_sgwEvent | apply writes_Act_sgwCount | apply Writes.all_cons | apply Writes.all_nil | intro _ | dsimp only)
  all_goals first | exact r_SGW_LAST | exact r_SGW_EVT | exact r_SGW_CNT | exact r_DEV_CNT_LAST _ | exact r_DEV_EVT _

theorem writes_Act_tpAbort {p : Nat} {x : Session} {reason : Nat} {P : Nat → Prop} (r_SGW_LAST : P (SGW.LAST p)) (r_SGW_EVT : P (SGW.EVT p)) (r_SGW_CNT : P (SGW.CNT p 17)) (r_DEV_CNT_LAST : ∀ x0, P (DEV.CNT_LAST x0)) (r_DEV_EVT : ∀ x0, P (DEV.EVT x0)) : Writes (Act.tpAbort p x reason) P := by
  unfold Act.tpAbort
  try dsimp only
  repeat' (with_reducible first | exact r_SGW_LAST | exact r_SGW_EVT | exact r_SGW_CNT | exact r_DEV_CNT_LAST _ | exact r_DEV_EVT _ | apply writes_Act_tpSend | apply writes_Act_tpAborted | apply Writes.seq | intro _ | dsimp only)
  all_goals first | exact r_SGW_LAST | exact r_SGW_EVT | exact r_SGW_CNT | exact r_DEV_CNT_LAST _ | exact r_DEV_EVT _

theorem writes_Act_tpCts {p : Nat} {x : Session} {P : Nat → Prop} : Writes (Act.tpCts p x) P := by
  unfold Act.tpCts
  try dsimp only
  repeat' (with_reducible first | apply writes_Act_tpPut | apply writes_Act_tpSend | apply Writes.seq | apply Writes.get | apply Writes.ite | intro _ | split | dsimp only)

theorem writes_Act_tpOpen {p : Nat} {x : Session} {P : Nat → Prop} (r_SGW_EVT : P (SGW.EVT p)) (r_SGW_CNT : P (SGW.CNT p 17)) (r_DEV_CNT_LAST : ∀ x0, P (DEV.CNT_LAST x0)) (r_DEV_EVT : ∀ x0, P (DEV.EVT x0)) (r_SGW_CNT_2 : P (SGW.CNT p 18)) (r_SGW_LAST : P (SGW.LAST p)) : Writes (Act.tpOpen p x) P := by
  unfold Act.tpOpen
  try dsimp only
  repeat' (with_reducible first | exact r_SGW_EVT | exact r_SGW_CNT | exact r_DEV_CNT_LAST _ | exact r_DEV_EVT _ | exact r_SGW_CNT_2 | exact r_SGW_LAST | apply writes_Act_modSess | apply writes_Act_sgwEvent | apply writes_Act_sgwCount | apply writes_Act_tpClose | apply writes_Act_tpAbort | apply writes_Act_tpCts | apply Writes.all_cons | apply Writes.all_nil | apply Writes.seq | apply Writes.get | apply Writes.when | apply Writes.ite | intro _ | split | dsimp only)
  all_goals first | exact r_SGW_EVT | exact r_SGW_CNT | exact r_DEV_CNT_LAST _ | exact r_DEV_EVT _ | exact r_SGW_CNT_2 | exact r_SGW_LAST

theorem writes_Act_tpDeliver {p : Nat} {g : Ingress} {fault : Bool} {x : Session} {P : Nat → Prop} (r_SGW_CNT : ∀ x0, P (SGW.CNT p x0)) (r_DEV_CNT_LAST : ∀ x0, P (DEV.CNT_LAST x0)) (r_DEV_EVT : ∀ x0, P (DEV.EVT x0)) (r_SGW_EVT : P (SGW.EVT p)) (r_PLX_CNT : P (PLX.CNT 0 9)) (r_PAIR_CNT : P (PAIR.CNT p 5)) (r_PAIR_CNT_2 : P (PAIR.CNT p 6)) (r_KEYS_SLOT : ∀ x0, P (KEYS.SLOT p x0)) (r_KEYS_LAST : P (KEYS.LAST p)) (r_KEYS_EVT : P (KEYS.EVT p)) (r_KEYS_CNT : P (KEYS.CNT p 6)) (r_CIPH_LAST : P (CIPH.LAST p)) (r_CIPH_EVT : P (CIPH.EVT p)) (r_CIPH_CNT : P (CIPH.CNT p 6)) (r_SEAL_LAST : P (SEAL.LAST p)) (r_SEAL_EVT : P (SEAL.EVT p)) (r_SEAL_CNT : ∀ x0, P (SEAL.CNT p x0)) (r_PLX_LAST : P (PLX.LAST 0)) (r_PLX_EVT : P (PLX.EVT 0)) : Writes (Act.tpDeliver p g fault x) P := by
  unfold Act.tpDeliver
  try dsimp only
  repeat' (with_reducible first | exact r_SGW_CNT _ | exact r_DEV_CNT_LAST _ | exact r_DEV_EVT _ | exact r_SGW_EVT | exact r_PLX_CNT | exact r_PAIR_CNT | exact r_PAIR_CNT_2 | exact r_KEYS_SLOT _ | exact r_KEYS_LAST | exact r_KEYS_EVT | exact r_KEYS_CNT | exact r_CIPH_LAST | exact r_CIPH_EVT | exact r_CIPH_CNT | exact r_SEAL_LAST | exact r_SEAL_EVT | exact r_SEAL_CNT _ | exact r_PLX_LAST | exact r_PLX_EVT | apply writes_Act_engineOut | apply writes_Act_sgwCount | apply writes_Act_underEntry | apply writes_Act_beamMiss | apply Writes.seq | apply Writes.get | apply Writes.each | apply Writes.skip | intro _ | split | dsimp only)
  all_goals first | exact r_SGW_CNT _ | exact r_DEV_CNT_LAST _ | exact r_DEV_EVT _ | exact r_SGW_EVT | exact r_PLX_CNT | exact r_PAIR_CNT | exact r_PAIR_CNT_2 | exact r_KEYS_SLOT _ | exact r_KEYS_LAST | exact r_KEYS_EVT | exact r_KEYS_CNT | exact r_CIPH_LAST | exact r_CIPH_EVT | exact r_CIPH_CNT | exact r_SEAL_LAST | exact r_SEAL_EVT | exact r_SEAL_CNT _ | exact r_PLX_LAST | exact r_PLX_EVT

theorem writes_Act_tpData {p : Nat} {g : Ingress} {fault : Bool} {x : Session} {d : List Byte} {P : Nat → Prop} (r_SGW_LAST : P (SGW.LAST p)) (r_SGW_EVT : P (SGW.EVT p)) (r_DEV_CNT_LAST : ∀ x0, P (DEV.CNT_LAST x0)) (r_DEV_EVT : ∀ x0, P (DEV.EVT x0)) (r_SGW_CNT : ∀ x0, P (SGW.CNT p x0)) (r_PLX_CNT : P (PLX.CNT 0 9)) (r_PAIR_CNT : P (PAIR.CNT p 5)) (r_PAIR_CNT_2 : P (PAIR.CNT p 6)) (r_KEYS_SLOT : ∀ x0, P (KEYS.SLOT p x0)) (r_KEYS_LAST : P (KEYS.LAST p)) (r_KEYS_EVT : P (KEYS.EVT p)) (r_KEYS_CNT : P (KEYS.CNT p 6)) (r_CIPH_LAST : P (CIPH.LAST p)) (r_CIPH_EVT : P (CIPH.EVT p)) (r_CIPH_CNT : P (CIPH.CNT p 6)) (r_SEAL_LAST : P (SEAL.LAST p)) (r_SEAL_EVT : P (SEAL.EVT p)) (r_SEAL_CNT : ∀ x0, P (SEAL.CNT p x0)) (r_PLX_LAST : P (PLX.LAST 0)) (r_PLX_EVT : P (PLX.EVT 0)) : Writes (Act.tpData p g fault x d) P := by
  unfold Act.tpData
  try dsimp only
  repeat' (with_reducible first | exact r_SGW_LAST | exact r_SGW_EVT | exact r_DEV_CNT_LAST _ | exact r_DEV_EVT _ | exact r_SGW_CNT _ | exact r_PLX_CNT | exact r_PAIR_CNT | exact r_PAIR_CNT_2 | exact r_KEYS_SLOT _ | exact r_KEYS_LAST | exact r_KEYS_EVT | exact r_KEYS_CNT | exact r_CIPH_LAST | exact r_CIPH_EVT | exact r_CIPH_CNT | exact r_SEAL_LAST | exact r_SEAL_EVT | exact r_SEAL_CNT _ | exact r_PLX_LAST | exact r_PLX_EVT | apply writes_Act_tpClose | apply writes_Act_tpPut | apply writes_Act_tpSend | apply writes_Act_tpAbort | apply writes_Act_tpCts | apply writes_Act_tpDeliver | apply Writes.all_cons | apply Writes.all_nil | apply Writes.seq | apply Writes.get | apply Writes.when | apply Writes.ite | apply Writes.all_map | intro _ | split | dsimp only)
  all_goals first | exact r_SGW_LAST | exact r_SGW_EVT | exact r_DEV_CNT_LAST _ | exact r_DEV_EVT _ | exact r_SGW_CNT _ | exact r_PLX_CNT | exact r_PAIR_CNT | exact r_PAIR_CNT_2 | exact r_KEYS_SLOT _ | exact r_KEYS_LAST | exact r_KEYS_EVT | exact r_KEYS_CNT | exact r_CIPH_LAST | exact r_CIPH_EVT | exact r_CIPH_CNT | exact r_SEAL_LAST | exact r_SEAL_EVT | exact r_SEAL_CNT _ | exact r_PLX_LAST | exact r_PLX_EVT

theorem writes_Act_bypassed {p : Nat} {g : Ingress} {y : Bypass} {cm : Bool} {b : List Byte} {P : Nat → Prop} : Writes (Act.bypassed p g y cm b) P := by
  unfold Act.bypassed
  try dsimp only
  repeat' (with_reducible first | apply writes_Act_setByp | apply writes_Act_toFw | apply Writes.seq | apply Writes.get | apply Writes.ite | intro _ | split | dsimp only)

theorem writes_Act_transport {p c : Nat} {g : Ingress} {fault : Bool} {b : List Byte} {k : Act} {P : Nat → Prop} (r_SGW_LAST : P (SGW.LAST p)) (r_SGW_EVT : P (SGW.EVT p)) (r_DEV_CNT_LAST : ∀ x0, P (DEV.CNT_LAST x0)) (r_DEV_EVT : ∀ x0, P (DEV.EVT x0)) (r_SGW_CNT : ∀ x0, P (SGW.CNT p x0)) (r_PLX_CNT : P (PLX.CNT 0 9)) (r_PAIR_CNT : P (PAIR.CNT p 5)) (r_PAIR_CNT_2 : P (PAIR.CNT p 6)) (r_KEYS_SLOT : ∀ x0, P (KEYS.SLOT p x0)) (r_KEYS_LAST : P (KEYS.LAST p)) (r_KEYS_EVT : P (KEYS.EVT p)) (r_KEYS_CNT : P (KEYS.CNT p 6)) (r_CIPH_LAST : P (CIPH.LAST p)) (r_CIPH_EVT : P (CIPH.EVT p)) (r_CIPH_CNT : P (CIPH.CNT p 6)) (r_SEAL_LAST : P (SEAL.LAST p)) (r_SEAL_EVT : P (SEAL.EVT p)) (r_SEAL_CNT : ∀ x0, P (SEAL.CNT p x0)) (r_PLX_LAST : P (PLX.LAST 0)) (r_PLX_EVT : P (PLX.EVT 0)) (hk_k : Writes (k) P) : Writes (Act.transport p c g fault b k) P := by
  unfold Act.transport
  try dsimp only
  repeat' (with_reducible first | exact r_SGW_LAST | exact r_SGW_EVT | exact r_DEV_CNT_LAST _ | exact r_DEV_EVT _ | exact r_SGW_CNT _ | exact r_PLX_CNT | exact r_PAIR_CNT | exact r_PAIR_CNT_2 | exact r_KEYS_SLOT _ | exact r_KEYS_LAST | exact r_KEYS_EVT | exact r_KEYS_CNT | exact r_CIPH_LAST | exact r_CIPH_EVT | exact r_CIPH_CNT | exact r_SEAL_LAST | exact r_SEAL_EVT | exact r_SEAL_CNT _ | exact r_PLX_LAST | exact r_PLX_EVT | exact hk_k | apply writes_Act_modByp | apply writes_Act_toFw | apply writes_Act_tpClose | apply writes_Act_tpPut | apply writes_Act_tpAborted | apply writes_Act_tpOpen | apply writes_Act_tpData | apply writes_Act_bypassed | apply Writes.seq | apply Writes.get | apply Writes.ite | intro _ | split | dsimp only)
  all_goals first | exact r_SGW_LAST | exact r_SGW_EVT | exact r_DEV_CNT_LAST _ | exact r_DEV_EVT _ | exact r_SGW_CNT _ | exact r_PLX_CNT | exact r_PAIR_CNT | exact r_PAIR_CNT_2 | exact r_KEYS_SLOT _ | exact r_KEYS_LAST | exact r_KEYS_EVT | exact r_KEYS_CNT | exact r_CIPH_LAST | exact r_CIPH_EVT | exact r_CIPH_CNT | exact r_SEAL_LAST | exact r_SEAL_EVT | exact r_SEAL_CNT _ | exact r_PLX_LAST | exact r_PLX_EVT

theorem writes_tpTimerExpire {p c sa da proto : Nat} {P : Nat → Prop} (r_SGW_LAST : P (SGW.LAST p)) (r_SGW_EVT : P (SGW.EVT p)) (r_SGW_CNT : P (SGW.CNT p 17)) (r_DEV_CNT_LAST : ∀ x0, P (DEV.CNT_LAST x0)) (r_DEV_EVT : ∀ x0, P (DEV.EVT x0)) : Writes (tpTimerExpire p c sa da proto) P := by
  unfold tpTimerExpire
  try dsimp only
  repeat' (with_reducible first | exact r_SGW_LAST | exact r_SGW_EVT | exact r_SGW_CNT | exact r_DEV_CNT_LAST _ | exact r_DEV_EVT _ | apply writes_Act_modByp | apply writes_Act_tpClose | apply writes_Act_tpAbort | apply Writes.seq | apply Writes.get | apply Writes.when | apply Writes.opt | intro _ | dsimp only)
  all_goals first | exact r_SGW_LAST | exact r_SGW_EVT | exact r_SGW_CNT | exact r_DEV_CNT_LAST _ | exact r_DEV_EVT _

theorem writes_Act_busIn {p : Nat} {g : Ingress} {fault : Bool} {b : List Byte} {P : Nat → Prop} (r_SGW_CNT : ∀ x0, P (SGW.CNT p x0)) (r_DEV_CNT_LAST : ∀ x0, P (DEV.CNT_LAST x0)) (r_DEV_EVT : ∀ x0, P (DEV.EVT x0)) (r_SGW_EVT : P (SGW.EVT p)) (r_PLX_CNT : P (PLX.CNT 0 9)) (r_PAIR_CNT : P (PAIR.CNT p 5)) (r_PAIR_CNT_2 : P (PAIR.CNT p 6)) (r_KEYS_SLOT : ∀ x0, P (KEYS.SLOT p x0)) (r_KEYS_LAST : P (KEYS.LAST p)) (r_KEYS_EVT : P (KEYS.EVT p)) (r_KEYS_CNT : P (KEYS.CNT p 6)) (r_CIPH_LAST : P (CIPH.LAST p)) (r_CIPH_EVT : P (CIPH.EVT p)) (r_CIPH_CNT : P (CIPH.CNT p 6)) (r_SEAL_LAST : P (SEAL.LAST p)) (r_SEAL_EVT : P (SEAL.EVT p)) (r_SEAL_CNT : ∀ x0, P (SEAL.CNT p x0)) (r_PLX_LAST : P (PLX.LAST 0)) (r_PLX_EVT : P (PLX.EVT 0)) (r_SGW_LAST : P (SGW.LAST p)) : Writes (Act.busIn p g fault b) P := by
  unfold Act.busIn
  try dsimp only
  repeat' (with_reducible first | exact r_SGW_CNT _ | exact r_DEV_CNT_LAST _ | exact r_DEV_EVT _ | exact r_SGW_EVT | exact r_PLX_CNT | exact r_PAIR_CNT | exact r_PAIR_CNT_2 | exact r_KEYS_SLOT _ | exact r_KEYS_LAST | exact r_KEYS_EVT | exact r_KEYS_CNT | exact r_CIPH_LAST | exact r_CIPH_EVT | exact r_CIPH_CNT | exact r_SEAL_LAST | exact r_SEAL_EVT | exact r_SEAL_CNT _ | exact r_PLX_LAST | exact r_PLX_EVT | exact r_SGW_LAST | apply writes_Act_lookupBus | apply writes_Act_transport | intro _ | split | dsimp only)
  all_goals first | exact r_SGW_CNT _ | exact r_DEV_CNT_LAST _ | exact r_DEV_EVT _ | exact r_SGW_EVT | exact r_PLX_CNT | exact r_PAIR_CNT | exact r_PAIR_CNT_2 | exact r_KEYS_SLOT _ | exact r_KEYS_LAST | exact r_KEYS_EVT | exact r_KEYS_CNT | exact r_CIPH_LAST | exact r_CIPH_EVT | exact r_CIPH_CNT | exact r_SEAL_LAST | exact r_SEAL_EVT | exact r_SEAL_CNT _ | exact r_PLX_LAST | exact r_PLX_EVT | exact r_SGW_LAST

theorem writes_Act_lookupStream {p : Nat} {g : Ingress} {fault : Bool} {frame pdu : List Byte} {P : Nat → Prop} (r_SGW_CNT : P (SGW.CNT p 19)) (r_DEV_CNT_LAST : ∀ x0, P (DEV.CNT_LAST x0)) (r_DEV_EVT : ∀ x0, P (DEV.EVT x0)) (r_SGW_EVT : P (SGW.EVT p)) (r_SGW_CNT_2 : P (SGW.CNT p 1)) (r_SGW_CNT_3 : P (SGW.CNT p 9)) (r_SGW_CNT_4 : P (SGW.CNT p 6)) (r_SGW_CNT_5 : P (SGW.CNT p 5)) (r_PLX_CNT : P (PLX.CNT 0 9)) (r_PAIR_CNT : P (PAIR.CNT p 5)) (r_PAIR_CNT_2 : P (PAIR.CNT p 6)) (r_KEYS_SLOT : ∀ x0, P (KEYS.SLOT p x0)) (r_KEYS_LAST : P (KEYS.LAST p)) (r_KEYS_EVT : P (KEYS.EVT p)) (r_KEYS_CNT : P (KEYS.CNT p 6)) (r_CIPH_LAST : P (CIPH.LAST p)) (r_CIPH_EVT : P (CIPH.EVT p)) (r_CIPH_CNT : P (CIPH.CNT p 6)) (r_SEAL_LAST : P (SEAL.LAST p)) (r_SEAL_EVT : P (SEAL.EVT p)) (r_SEAL_CNT : ∀ x0, P (SEAL.CNT p x0)) (r_PLX_LAST : P (PLX.LAST 0)) (r_PLX_EVT : P (PLX.EVT 0)) (r_SGW_CNT_6 : P (SGW.CNT p 2)) : Writes (Act.lookupStream p g fault frame pdu) P := by
  unfold Act.lookupStream
  try dsimp only
  repeat' (with_reducible first | exact r_SGW_CNT | exact r_DEV_CNT_LAST _ | exact r_DEV_EVT _ | exact r_SGW_EVT | exact r_SGW_CNT_2 | exact r_SGW_CNT_3 | exact r_SGW_CNT_4 | exact r_SGW_CNT_5 | exact r_PLX_CNT | exact r_PAIR_CNT | exact r_PAIR_CNT_2 | exact r_KEYS_SLOT _ | exact r_KEYS_LAST | exact r_KEYS_EVT | exact r_KEYS_CNT | exact r_CIPH_LAST | exact r_CIPH_EVT | exact r_CIPH_CNT | exact r_SEAL_LAST | exact r_SEAL_EVT | exact r_SEAL_CNT _ | exact r_PLX_LAST | exact r_PLX_EVT | exact r_SGW_CNT_6 | apply writes_Act_sgwCount | apply writes_Act_toFw | apply writes_Act_underEntry | apply writes_Act_beamMiss | apply Writes.seq | apply Writes.get | apply Writes.skip | apply Writes.all_map | intro _ | split | dsimp only)
  all_goals first | exact r_SGW_CNT | exact r_DEV_CNT_LAST _ | exact r_DEV_EVT _ | exact r_SGW_EVT | exact r_SGW_CNT_2 | exact r_SGW_CNT_3 | exact r_SGW_CNT_4 | exact r_SGW_CNT_5 | exact r_PLX_CNT | exact r_PAIR_CNT | exact r_PAIR_CNT_2 | exact r_KEYS_SLOT _ | exact r_KEYS_LAST | exact r_KEYS_EVT | exact r_KEYS_CNT | exact r_CIPH_LAST | exact r_CIPH_EVT | exact r_CIPH_CNT | exact r_SEAL_LAST | exact r_SEAL_EVT | exact r_SEAL_CNT _ | exact r_PLX_LAST | exact r_PLX_EVT | exact r_SGW_CNT_6

theorem writes_Act_avtpIn {p : Nat} {g : Ingress} {fault : Bool} {frame pdu : List Byte} {P : Nat → Prop} (r_SGW_EVT : P (SGW.EVT p)) (r_DEV_CNT_LAST : ∀ x0, P (DEV.CNT_LAST x0)) (r_DEV_EVT : ∀ x0, P (DEV.EVT x0)) (r_SGW_CNT : ∀ x0, P (SGW.CNT p x0)) (r_PLX_CNT : P (PLX.CNT 0 9)) (r_PAIR_CNT : P (PAIR.CNT p 5)) (r_PAIR_CNT_2 : P (PAIR.CNT p 6)) (r_KEYS_SLOT : ∀ x0, P (KEYS.SLOT p x0)) (r_KEYS_LAST : P (KEYS.LAST p)) (r_KEYS_EVT : P (KEYS.EVT p)) (r_KEYS_CNT : P (KEYS.CNT p 6)) (r_CIPH_LAST : P (CIPH.LAST p)) (r_CIPH_EVT : P (CIPH.EVT p)) (r_CIPH_CNT : P (CIPH.CNT p 6)) (r_SEAL_LAST : P (SEAL.LAST p)) (r_SEAL_EVT : P (SEAL.EVT p)) (r_SEAL_CNT : ∀ x0, P (SEAL.CNT p x0)) (r_PLX_LAST : P (PLX.LAST 0)) (r_PLX_EVT : P (PLX.EVT 0)) (r_SGW_LAST : P (SGW.LAST p)) : Writes (Act.avtpIn p g fault frame pdu) P := by
  unfold Act.avtpIn
  try dsimp only
  repeat' (with_reducible first | exact r_SGW_EVT | exact r_DEV_CNT_LAST _ | exact r_DEV_EVT _ | exact r_SGW_CNT _ | exact r_PLX_CNT | exact r_PAIR_CNT | exact r_PAIR_CNT_2 | exact r_KEYS_SLOT _ | exact r_KEYS_LAST | exact r_KEYS_EVT | exact r_KEYS_CNT | exact r_CIPH_LAST | exact r_CIPH_EVT | exact r_CIPH_CNT | exact r_SEAL_LAST | exact r_SEAL_EVT | exact r_SEAL_CNT _ | exact r_PLX_LAST | exact r_PLX_EVT | exact r_SGW_LAST | apply writes_Act_modTun | apply writes_Act_sgwEvent | apply writes_Act_sgwCount | apply writes_Act_busIn | apply writes_Act_lookupStream | apply Writes.all_cons | apply Writes.all_nil | apply Writes.seq | apply Writes.get | apply Writes.when | apply Writes.each | apply Writes.ite | intro _ | split | dsimp only)
  all_goals first | exact r_SGW_EVT | exact r_DEV_CNT_LAST _ | exact r_DEV_EVT _ | exact r_SGW_CNT _ | exact r_PLX_CNT | exact r_PAIR_CNT | exact r_PAIR_CNT_2 | exact r_KEYS_SLOT _ | exact r_KEYS_LAST | exact r_KEYS_EVT | exact r_KEYS_CNT | exact r_CIPH_LAST | exact r_CIPH_EVT | exact r_CIPH_CNT | exact r_SEAL_LAST | exact r_SEAL_EVT | exact r_SEAL_CNT _ | exact r_PLX_LAST | exact r_PLX_EVT | exact r_SGW_LAST

theorem writes_sgwFrame {p : Nat} {fault : Bool} {P : Nat → Prop} (r_QMGR_EVT : P (QMGR.EVT p)) (r_ra : P (ra p 129 515)) (r_DEV_CNT_LAST : ∀ x0, P (DEV.CNT_LAST x0)) (r_DEV_EVT : ∀ x0, P (DEV.EVT x0)) (r_FAB_EVT : P (FAB.EVT p)) (r_FAB_CNT : P (FAB.CNT p 3)) (r_FAB_CNT_2 : P (FAB.CNT p 4)) (r_QMGR_DROP_LAST : P (QMGR.DROP_LAST p)) (r_QMGR_CNT : P (QMGR.CNT p 2)) (r_QMGR_LIMIT_DROPS : ∀ x0, P (QMGR.LIMIT_DROPS p x0)) (r_QMGR_CNT_2 : P (QMGR.CNT p 3)) (r_QMGR_CNT_3 : P (QMGR.CNT p 4)) (r_SGW_CNT : ∀ x0, P (SGW.CNT p x0)) (r_SGW_EVT : P (SGW.EVT p)) (r_PLX_CNT : P (PLX.CNT 0 9)) (r_PAIR_CNT : P (PAIR.CNT p 5)) (r_PAIR_CNT_2 : P (PAIR.CNT p 6)) (r_KEYS_SLOT : ∀ x0, P (KEYS.SLOT p x0)) (r_KEYS_LAST : P (KEYS.LAST p)) (r_KEYS_EVT : P (KEYS.EVT p)) (r_KEYS_CNT : P (KEYS.CNT p 6)) (r_CIPH_LAST : P (CIPH.LAST p)) (r_CIPH_EVT : P (CIPH.EVT p)) (r_CIPH_CNT : P (CIPH.CNT p 6)) (r_SEAL_LAST : P (SEAL.LAST p)) (r_SEAL_EVT : P (SEAL.EVT p)) (r_SEAL_CNT : ∀ x0, P (SEAL.CNT p x0)) (r_PLX_LAST : P (PLX.LAST 0)) (r_PLX_EVT : P (PLX.EVT 0)) (r_SGW_LAST : P (SGW.LAST p)) : Writes (sgwFrame p fault) P := by
  unfold sgwFrame
  try dsimp only
  repeat' (with_reducible first | exact r_QMGR_EVT | exact r_ra | exact r_DEV_CNT_LAST _ | exact r_DEV_EVT _ | exact r_FAB_EVT | exact r_FAB_CNT | exact r_FAB_CNT_2 | exact r_QMGR_DROP_LAST | exact r_QMGR_CNT | exact r_QMGR_LIMIT_DROPS _ | exact r_QMGR_CNT_2 | exact r_QMGR_CNT_3 | exact r_SGW_CNT _ | exact r_SGW_EVT | exact r_PLX_CNT | exact r_PAIR_CNT | exact r_PAIR_CNT_2 | exact r_KEYS_SLOT _ | exact r_KEYS_LAST | exact r_KEYS_EVT | exact r_KEYS_CNT | exact r_CIPH_LAST | exact r_CIPH_EVT | exact r_CIPH_CNT | exact r_SEAL_LAST | exact r_SEAL_EVT | exact r_SEAL_CNT _ | exact r_PLX_LAST | exact r_PLX_EVT | exact r_SGW_LAST | apply writes_Act_take | apply writes_Act_sgwCount | apply writes_Act_busIn | apply writes_Act_avtpIn | apply Writes.seq | apply Writes.get | apply Writes.when | apply Writes.ite | intro _ | split | dsimp only)
  all_goals first | exact r_QMGR_EVT | exact r_ra | exact r_DEV_CNT_LAST _ | exact r_DEV_EVT _ | exact r_FAB_EVT | exact r_FAB_CNT | exact r_FAB_CNT_2 | exact r_QMGR_DROP_LAST | exact r_QMGR_CNT | exact r_QMGR_LIMIT_DROPS _ | exact r_QMGR_CNT_2 | exact r_QMGR_CNT_3 | exact r_SGW_CNT _ | exact r_SGW_EVT | exact r_PLX_CNT | exact r_PAIR_CNT | exact r_PAIR_CNT_2 | exact r_KEYS_SLOT _ | exact r_KEYS_LAST | exact r_KEYS_EVT | exact r_KEYS_CNT | exact r_CIPH_LAST | exact r_CIPH_EVT | exact r_CIPH_CNT | exact r_SEAL_LAST | exact r_SEAL_EVT | exact r_SEAL_CNT _ | exact r_PLX_LAST | exact r_PLX_EVT | exact r_SGW_LAST

theorem writes_Act_beamRead {p i : Nat} {P : Nat → Prop} (r_SGW_BEAM_W : ∀ x0, P (SGW.BEAM_W p x0)) : Writes (Act.beamRead p i) P := by
  unfold Act.beamRead
  try dsimp only
  repeat' (with_reducible first | exact r_SGW_BEAM_W _ | apply Writes.setReg | apply Writes.get | apply Writes.each | intro _ | dsimp only)
  all_goals first | exact r_SGW_BEAM_W _

theorem writes_beamCmd {ag : Agent} {p : Nat} {v : Word} {k : Code → Act} {P : Nat → Prop} (r_SGW_BEAM_CMD : P (SGW.BEAM_CMD p)) (r_BLK_ERR : P (BLK_ERR (aDie (SGW.BEAM_CMD p)) (aBlk (SGW.BEAM_CMD p)))) (r_SGW_BEAM_W : ∀ x0, P (SGW.BEAM_W p x0)) (hk_k : ∀ x0, Writes (k x0) P) : Writes (beamCmd ag p v k) P := by
  unfold beamCmd
  try dsimp only
  repeat' (with_reducible first | exact r_SGW_BEAM_CMD | exact r_BLK_ERR | exact r_SGW_BEAM_W _ | exact hk_k _ | apply writes_Act_setTblWords | apply writes_Act_badValue | apply writes_Act_store | apply writes_Act_beamRead | apply Writes.setReg | apply Writes.all_cons | apply Writes.all_nil | apply Writes.seq | apply Writes.get | apply Writes.ite | apply Writes.all_map | intro _ | split | dsimp only)
  all_goals first | exact r_SGW_BEAM_CMD | exact r_BLK_ERR | exact r_SGW_BEAM_W _

theorem writes_sgwTblCmd {ag : Agent} {p : Nat} {v : Word} {k : Code → Act} {P : Nat → Prop} (r_SGW_TBL_CMD : P (SGW.TBL_CMD p)) (r_SGW_TBL_W : ∀ x0, P (SGW.TBL_W p x0)) (r_BLK_ERR : P (BLK_ERR (aDie (SGW.TBL_CMD p)) (aBlk (SGW.TBL_CMD p)))) (hk_k : ∀ x0, Writes (k x0) P) : Writes (sgwTblCmd ag p v k) P := by
  unfold sgwTblCmd
  try dsimp only
  repeat' (with_reducible first | exact r_SGW_TBL_CMD | exact r_SGW_TBL_W _ | exact r_BLK_ERR | exact hk_k _ | apply writes_Act_setTblWords | apply writes_Act_badValue | apply writes_Act_store | apply Writes.setReg | apply Writes.all_cons | apply Writes.all_nil | apply Writes.seq | apply Writes.get | apply Writes.each | apply Writes.ite | apply Writes.all_map | intro _ | split | dsimp only)
  all_goals first | exact r_SGW_TBL_CMD | exact r_SGW_TBL_W _ | exact r_BLK_ERR

theorem writes_Act_sgwOn {p : Nat} {P : Nat → Prop} : Writes (Act.sgwOn p) P := by
  unfold Act.sgwOn
  try dsimp only
  repeat' (with_reducible first | apply writes_Act_cadencesFrom | intro _ | dsimp only)

theorem writes_Act_sgwOff {p : Nat} {P : Nat → Prop} : Writes (Act.sgwOff p) P := by
  unfold Act.sgwOff
  try dsimp only
  repeat' (with_reducible first | apply writes_Act_setSess | apply writes_Act_setByp | apply Writes.seq | intro _ | dsimp only)

/-! ## Keys -/

theorem writes_Act_setOpBuf {p : Nat} {b : List Byte} {P : Nat → Prop} (r_KEYS_OP_BUF : ∀ x0, P (KEYS.OP_BUF p x0)) : Writes (Act.setOpBuf p b) P := by
  unfold Act.setOpBuf
  try dsimp only
  repeat' (with_reducible first | exact r_KEYS_OP_BUF _ | apply Writes.setReg | apply Writes.each | intro _ | dsimp only)
  all_goals first | exact r_KEYS_OP_BUF _

theorem writes_Act_opDenied {p n : Nat} {part : Option Nat} {k : Nat → Nat → Act} {P : Nat → Prop} (r_KEYS_LAST : P (KEYS.LAST p)) (r_KEYS_EVT : P (KEYS.EVT p)) (r_KEYS_CNT : P (KEYS.CNT p 6)) (r_DEV_CNT_LAST : ∀ x0, P (DEV.CNT_LAST x0)) (r_DEV_EVT : ∀ x0, P (DEV.EVT x0)) (hk_k : ∀ x0 x1, Writes (k x0 x1) P) : Writes (Act.opDenied p n part k) P := by
  unfold Act.opDenied
  try dsimp only
  repeat' (with_reducible first | exact r_KEYS_LAST | exact r_KEYS_EVT | exact r_KEYS_CNT | exact r_DEV_CNT_LAST _ | exact r_DEV_EVT _ | exact hk_k _ _ | apply writes_Act_denyKey | apply Writes.seq | intro _ | dsimp only)
  all_goals first | exact r_KEYS_LAST | exact r_KEYS_EVT | exact r_KEYS_CNT | exact r_DEV_CNT_LAST _ | exact r_DEV_EVT _

theorem writes_Act_opSource {p src use : Nat} {dir part : Option Nat} {k : Nat → Nat → Act} {go : List Nat → Act} {P : Nat → Prop} (r_KEYS_SLOT : P (KEYS.SLOT p src)) (r_KEYS_LAST : P (KEYS.LAST p)) (r_KEYS_EVT : P (KEYS.EVT p)) (r_KEYS_CNT : P (KEYS.CNT p 6)) (r_DEV_CNT_LAST : ∀ x0, P (DEV.CNT_LAST x0)) (r_DEV_EVT : ∀ x0, P (DEV.EVT x0)) (hk_k : ∀ x0 x1, Writes (k x0 x1) P) (hk_go : ∀ x0, Writes (go x0) P) : Writes (Act.opSource p src use dir part k go) P := by
  unfold Act.opSource
  try dsimp only
  repeat' (with_reducible first | exact r_KEYS_SLOT | exact r_KEYS_LAST | exact r_KEYS_EVT | exact r_KEYS_CNT | exact r_DEV_CNT_LAST _ | exact r_DEV_EVT _ | exact hk_k _ _ | exact hk_go _ | apply writes_Act_useKey | intro _ | split | dsimp only)
  all_goals first | exact r_KEYS_SLOT | exact r_KEYS_LAST | exact r_KEYS_EVT | exact r_KEYS_CNT | exact r_DEV_CNT_LAST _ | exact r_DEV_EVT _

theorem writes_keyLoad {p tgt : Nat} {part : Option Nat} {k : Nat → Nat → Act} {P : Nat → Prop} (r_KEYS_SLOT : P (KEYS.SLOT p tgt)) (r_KEYS_LAST : P (KEYS.LAST p)) (r_KEYS_EVT : P (KEYS.EVT p)) (r_KEYS_CNT : P (KEYS.CNT p 6)) (r_DEV_CNT_LAST : ∀ x0, P (DEV.CNT_LAST x0)) (r_DEV_EVT : ∀ x0, P (DEV.EVT x0)) (hk_k : ∀ x0 x1, Writes (k x0 x1) P) : Writes (keyLoad p tgt part k) P := by
  unfold keyLoad
  try dsimp only
  repeat' (with_reducible first | exact r_KEYS_SLOT | exact r_KEYS_LAST | exact r_KEYS_EVT | exact r_KEYS_CNT | exact r_DEV_CNT_LAST _ | exact r_DEV_EVT _ | exact hk_k _ _ | apply writes_Act_demand | apply writes_Act_opDenied | apply Writes.seq | apply Writes.get | apply Writes.ite | intro _ | split | dsimp only)
  all_goals first | exact r_KEYS_SLOT | exact r_KEYS_LAST | exact r_KEYS_EVT | exact r_KEYS_CNT | exact r_DEV_CNT_LAST _ | exact r_DEV_EVT _

theorem writes_keyDerive {p tgt src len : Nat} {part : Option Nat} {k : Nat → Nat → Act} {P : Nat → Prop} (r_KEYS_CNT : P (KEYS.CNT p 1)) (r_DEV_CNT_LAST : ∀ x0, P (DEV.CNT_LAST x0)) (r_DEV_EVT : ∀ x0, P (DEV.EVT x0)) (r_KEYS_SLOT : P (KEYS.SLOT p tgt)) (r_KEYS_LAST : P (KEYS.LAST p)) (r_KEYS_EVT : P (KEYS.EVT p)) (r_KEYS_CNT_2 : P (KEYS.CNT p 6)) (r_KEYS_SLOT_2 : P (KEYS.SLOT p src)) (hk_k : ∀ x0 x1, Writes (k x0 x1) P) : Writes (keyDerive p tgt src len part k) P := by
  unfold keyDerive
  try dsimp only
  repeat' (with_reducible first | exact r_KEYS_CNT | exact r_DEV_CNT_LAST _ | exact r_DEV_EVT _ | exact r_KEYS_SLOT | exact r_KEYS_LAST | exact r_KEYS_EVT | exact r_KEYS_CNT_2 | exact r_KEYS_SLOT_2 | exact hk_k _ _ | apply writes_Act_count | apply writes_Act_fillSlot | apply writes_Act_opDenied | apply writes_Act_opSource | apply Writes.all_cons | apply Writes.all_nil | apply Writes.get | apply Writes.ite | intro _ | split | dsimp only)
  all_goals first | exact r_KEYS_CNT | exact r_DEV_CNT_LAST _ | exact r_DEV_EVT _ | exact r_KEYS_SLOT | exact r_KEYS_LAST | exact r_KEYS_EVT | exact r_KEYS_CNT_2 | exact r_KEYS_SLOT_2

theorem writes_keyUnwrapOp {p tgt src len : Nat} {part : Option Nat} {k : Nat → Nat → Act} {P : Nat → Prop} (r_KEYS_CNT : P (KEYS.CNT p 2)) (r_DEV_CNT_LAST : ∀ x0, P (DEV.CNT_LAST x0)) (r_DEV_EVT : ∀ x0, P (DEV.EVT x0)) (r_KEYS_SLOT : P (KEYS.SLOT p tgt)) (r_KEYS_LAST : P (KEYS.LAST p)) (r_KEYS_EVT : P (KEYS.EVT p)) (r_KEYS_CNT_2 : P (KEYS.CNT p 6)) (r_KEYS_SLOT_2 : P (KEYS.SLOT p src)) (hk_k : ∀ x0 x1, Writes (k x0 x1) P) : Writes (keyUnwrapOp p tgt src len part k) P := by
  unfold keyUnwrapOp
  try dsimp only
  repeat' (with_reducible first | exact r_KEYS_CNT | exact r_DEV_CNT_LAST _ | exact r_DEV_EVT _ | exact r_KEYS_SLOT | exact r_KEYS_LAST | exact r_KEYS_EVT | exact r_KEYS_CNT_2 | exact r_KEYS_SLOT_2 | exact hk_k _ _ | apply writes_Act_count | apply writes_Act_fillSlot | apply writes_Act_opDenied | apply writes_Act_opSource | apply Writes.all_cons | apply Writes.all_nil | apply Writes.get | apply Writes.ite | intro _ | split | dsimp only)
  all_goals first | exact r_KEYS_CNT | exact r_DEV_CNT_LAST _ | exact r_DEV_EVT _ | exact r_KEYS_SLOT | exact r_KEYS_LAST | exact r_KEYS_EVT | exact r_KEYS_CNT_2 | exact r_KEYS_SLOT_2

theorem writes_keyWrapOp {p tgt src : Nat} {part : Option Nat} {k : Nat → Nat → Act} {P : Nat → Prop} (r_KEYS_CNT : P (KEYS.CNT p 3)) (r_DEV_CNT_LAST : ∀ x0, P (DEV.CNT_LAST x0)) (r_DEV_EVT : ∀ x0, P (DEV.EVT x0)) (r_KEYS_OP_BUF : ∀ x0, P (KEYS.OP_BUF p x0)) (r_KEYS_LAST : P (KEYS.LAST p)) (r_KEYS_EVT : P (KEYS.EVT p)) (r_KEYS_CNT_2 : P (KEYS.CNT p 6)) (r_KEYS_SLOT : P (KEYS.SLOT p src)) (hk_k : ∀ x0 x1, Writes (k x0 x1) P) : Writes (keyWrapOp p tgt src part k) P := by
  unfold keyWrapOp
  try dsimp only
  repeat' (with_reducible first | exact r_KEYS_CNT | exact r_DEV_CNT_LAST _ | exact r_DEV_EVT _ | exact r_KEYS_OP_BUF _ | exact r_KEYS_LAST | exact r_KEYS_EVT | exact r_KEYS_CNT_2 | exact r_KEYS_SLOT | exact hk_k _ _ | apply writes_Act_count | apply writes_Act_setOpBuf | apply writes_Act_opDenied | apply writes_Act_opSource | apply Writes.all_cons | apply Writes.all_nil | apply Writes.get | apply Writes.ite | intro _ | split | dsimp only)
  all_goals first | exact r_KEYS_CNT | exact r_DEV_CNT_LAST _ | exact r_DEV_EVT _ | exact r_KEYS_OP_BUF _ | exact r_KEYS_LAST | exact r_KEYS_EVT | exact r_KEYS_CNT_2 | exact r_KEYS_SLOT

theorem writes_keyGenerate {p tgt : Nat} {part : Option Nat} {k : Nat → Nat → Act} {P : Nat → Prop} (r_KEYS_CNT : P (KEYS.CNT p 4)) (r_DEV_CNT_LAST : ∀ x0, P (DEV.CNT_LAST x0)) (r_DEV_EVT : ∀ x0, P (DEV.EVT x0)) (r_KEYS_SLOT : P (KEYS.SLOT p tgt)) (r_KEYS_LAST : P (KEYS.LAST p)) (r_KEYS_EVT : P (KEYS.EVT p)) (r_KEYS_CNT_2 : P (KEYS.CNT p 6)) (hk_k : ∀ x0 x1, Writes (k x0 x1) P) : Writes (keyGenerate p tgt part k) P := by
  unfold keyGenerate
  try dsimp only
  repeat' (with_reducible first | exact r_KEYS_CNT | exact r_DEV_CNT_LAST _ | exact r_DEV_EVT _ | exact r_KEYS_SLOT | exact r_KEYS_LAST | exact r_KEYS_EVT | exact r_KEYS_CNT_2 | exact hk_k _ _ | apply writes_Act_freeBytes | apply writes_Act_count | apply writes_Act_fillSlot | apply writes_Act_opDenied | apply Writes.all_cons | apply Writes.all_nil | apply Writes.get | apply Writes.ite | intro _ | split | dsimp only)
  all_goals first | exact r_KEYS_CNT | exact r_DEV_CNT_LAST _ | exact r_DEV_EVT _ | exact r_KEYS_SLOT | exact r_KEYS_LAST | exact r_KEYS_EVT | exact r_KEYS_CNT_2

theorem writes_keyClear {p tgt : Nat} {k : Nat → Nat → Act} {P : Nat → Prop} (r_KEYS_SLOT : P (KEYS.SLOT p tgt)) (hk_k : ∀ x0 x1, Writes (k x0 x1) P) : Writes (keyClear p tgt k) P := by
  unfold keyClear
  try dsimp only
  repeat' (with_reducible first | exact r_KEYS_SLOT | exact hk_k _ _ | apply writes_Act_clearSlot | apply Writes.seq | intro _ | dsimp only)
  all_goals first | exact r_KEYS_SLOT

theorem writes_keyWrapRoot {p tgt : Nat} {part : Option Nat} {k : Nat → Nat → Act} {P : Nat → Prop} (r_KEYS_CNT : P (KEYS.CNT p 3)) (r_DEV_CNT_LAST : ∀ x0, P (DEV.CNT_LAST x0)) (r_DEV_EVT : ∀ x0, P (DEV.EVT x0)) (r_KEYS_OP_BUF : ∀ x0, P (KEYS.OP_BUF p x0)) (r_KEYS_LAST : P (KEYS.LAST p)) (r_KEYS_EVT : P (KEYS.EVT p)) (r_KEYS_CNT_2 : P (KEYS.CNT p 6)) (hk_k : ∀ x0 x1, Writes (k x0 x1) P) : Writes (keyWrapRoot p tgt part k) P := by
  unfold keyWrapRoot
  try dsimp only
  repeat' (with_reducible first | exact r_KEYS_CNT | exact r_DEV_CNT_LAST _ | exact r_DEV_EVT _ | exact r_KEYS_OP_BUF _ | exact r_KEYS_LAST | exact r_KEYS_EVT | exact r_KEYS_CNT_2 | exact hk_k _ _ | apply writes_Act_count | apply writes_Act_setOpBuf | apply writes_Act_opDenied | apply Writes.all_cons | apply Writes.all_nil | apply Writes.get | apply Writes.ite | intro _ | split | dsimp only)
  all_goals first | exact r_KEYS_CNT | exact r_DEV_CNT_LAST _ | exact r_DEV_EVT _ | exact r_KEYS_OP_BUF _ | exact r_KEYS_LAST | exact r_KEYS_EVT | exact r_KEYS_CNT_2

theorem writes_Act_keyOp {p op tgt src len : Nat} {part : Option Nat} {k : Nat → Nat → Act} {P : Nat → Prop} (r_KEYS_LAST : P (KEYS.LAST p)) (r_KEYS_EVT : P (KEYS.EVT p)) (r_KEYS_CNT : P (KEYS.CNT p 6)) (r_DEV_CNT_LAST : ∀ x0, P (DEV.CNT_LAST x0)) (r_DEV_EVT : ∀ x0, P (DEV.EVT x0)) (r_KEYS_SLOT : P (KEYS.SLOT p tgt)) (r_KEYS_CNT_2 : P (KEYS.CNT p 1)) (r_KEYS_SLOT_2 : P (KEYS.SLOT p src)) (r_KEYS_CNT_3 : P (KEYS.CNT p 2)) (r_KEYS_CNT_4 : P (KEYS.CNT p 3)) (r_KEYS_OP_BUF : ∀ x0, P (KEYS.OP_BUF p x0)) (r_KEYS_CNT_5 : P (KEYS.CNT p 4)) (hk_k : ∀ x0 x1, Writes (k x0 x1) P) : Writes (Act.keyOp p op tgt src len part k) P := by
  unfold Act.keyOp
  try dsimp only
  repeat' (with_reducible first | exact r_KEYS_LAST | exact r_KEYS_EVT | exact r_KEYS_CNT | exact r_DEV_CNT_LAST _ | exact r_DEV_EVT _ | exact r_KEYS_SLOT | exact r_KEYS_CNT_2 | exact r_KEYS_SLOT_2 | exact r_KEYS_CNT_3 | exact r_KEYS_CNT_4 | exact r_KEYS_OP_BUF _ | exact r_KEYS_CNT_5 | exact hk_k _ _ | apply writes_Act_opDenied | apply writes_keyLoad | apply writes_keyDerive | apply writes_keyUnwrapOp | apply writes_keyWrapOp | apply writes_keyGenerate | apply writes_keyClear | apply writes_keyWrapRoot | apply Writes.get | apply Writes.ite | intro _ | split | dsimp only)
  all_goals first | exact r_KEYS_LAST | exact r_KEYS_EVT | exact r_KEYS_CNT | exact r_DEV_CNT_LAST _ | exact r_DEV_EVT _ | exact r_KEYS_SLOT | exact r_KEYS_CNT_2 | exact r_KEYS_SLOT_2 | exact r_KEYS_CNT_3 | exact r_KEYS_CNT_4 | exact r_KEYS_OP_BUF _ | exact r_KEYS_CNT_5

theorem writes_opCmd {ag : Agent} {p : Nat} {v : Word} {k : Code → Act} {P : Nat → Prop} (r_KEYS_OP_CMD : P (KEYS.OP_CMD p)) (r_BLK_ERR : P (BLK_ERR (aDie (KEYS.OP_CMD p)) (aBlk (KEYS.OP_CMD p)))) (r_KEYS_OP_BUF : ∀ x0, P (KEYS.OP_BUF p x0)) (r_KEYS_LAST : P (KEYS.LAST p)) (r_KEYS_EVT : P (KEYS.EVT p)) (r_KEYS_CNT : P (KEYS.CNT p 6)) (r_DEV_CNT_LAST : ∀ x0, P (DEV.CNT_LAST x0)) (r_DEV_EVT : ∀ x0, P (DEV.EVT x0)) (r_KEYS_SLOT : ∀ x0, P (KEYS.SLOT p x0)) (r_KEYS_CNT_2 : P (KEYS.CNT p 1)) (r_KEYS_CNT_3 : P (KEYS.CNT p 2)) (r_KEYS_CNT_4 : P (KEYS.CNT p 3)) (r_KEYS_CNT_5 : P (KEYS.CNT p 4)) (hk_k : ∀ x0, Writes (k x0) P) : Writes (opCmd ag p v k) P := by
  unfold opCmd
  try dsimp only
  repeat' (with_reducible first | exact r_KEYS_OP_CMD | exact r_BLK_ERR | exact r_KEYS_OP_BUF _ | exact r_KEYS_LAST | exact r_KEYS_EVT | exact r_KEYS_CNT | exact r_DEV_CNT_LAST _ | exact r_DEV_EVT _ | exact r_KEYS_SLOT _ | exact r_KEYS_CNT_2 | exact r_KEYS_CNT_3 | exact r_KEYS_CNT_4 | exact r_KEYS_CNT_5 | exact hk_k _ | apply writes_Act_modKstore | apply writes_Act_badValue | apply writes_Act_store | apply writes_Act_setOpBuf | apply writes_Act_keyOp | apply Writes.setReg | apply Writes.all_cons | apply Writes.all_nil | apply Writes.seq | apply Writes.get | apply Writes.ite | intro _ | split | dsimp only)
  all_goals first | exact r_KEYS_OP_CMD | exact r_BLK_ERR | exact r_KEYS_OP_BUF _ | exact r_KEYS_LAST | exact r_KEYS_EVT | exact r_KEYS_CNT | exact r_DEV_CNT_LAST _ | exact r_DEV_EVT _ | exact r_KEYS_SLOT _ | exact r_KEYS_CNT_2 | exact r_KEYS_CNT_3 | exact r_KEYS_CNT_4 | exact r_KEYS_CNT_5

theorem writes_Act_loadEnd {p tgt : Nat} {P : Nat → Prop} (r_KEYS_SLOT : P (KEYS.SLOT p tgt)) (r_KEYS_LAST : P (KEYS.LAST p)) (r_KEYS_EVT : P (KEYS.EVT p)) (r_KEYS_CNT : P (KEYS.CNT p 0)) (r_DEV_CNT_LAST : ∀ x0, P (DEV.CNT_LAST x0)) (r_DEV_EVT : ∀ x0, P (DEV.EVT x0)) : Writes (Act.loadEnd p tgt) P := by
  unfold Act.loadEnd
  try dsimp only
  repeat' (with_reducible first | exact r_KEYS_SLOT | exact r_KEYS_LAST | exact r_KEYS_EVT | exact r_KEYS_CNT | exact r_DEV_CNT_LAST _ | exact r_DEV_EVT _ | apply writes_Act_setFld | apply writes_keyLoadDone | apply Writes.seq | apply Writes.get | apply Writes.ite | intro _ | split | dsimp only)
  all_goals first | exact r_KEYS_SLOT | exact r_KEYS_LAST | exact r_KEYS_EVT | exact r_KEYS_CNT | exact r_DEV_CNT_LAST _ | exact r_DEV_EVT _

theorem writes_keyOpDone {p : Nat} {P : Nat → Prop} (r_KEYS_OP_CMD : P (KEYS.OP_CMD p)) (r_KEYS_EVT : P (KEYS.EVT p)) (r_KEYS_SLOT : ∀ x0, P (KEYS.SLOT p x0)) (r_KEYS_LAST : P (KEYS.LAST p)) (r_KEYS_CNT : P (KEYS.CNT p 0)) (r_DEV_CNT_LAST : ∀ x0, P (DEV.CNT_LAST x0)) (r_DEV_EVT : ∀ x0, P (DEV.EVT x0)) : Writes (keyOpDone p) P := by
  unfold keyOpDone
  try dsimp only
  repeat' (with_reducible first | exact r_KEYS_OP_CMD | exact r_KEYS_EVT | exact r_KEYS_SLOT _ | exact r_KEYS_LAST | exact r_KEYS_CNT | exact r_DEV_CNT_LAST _ | exact r_DEV_EVT _ | apply writes_Act_modKstore | apply writes_Act_setFlds | apply writes_Act_event | apply writes_Act_irq | apply writes_Act_loadEnd | apply Writes.all_cons | apply Writes.all_nil | apply Writes.get | apply Writes.when | apply Writes.opt | apply Writes.ite | intro _ | split | dsimp only)
  all_goals first | exact r_KEYS_OP_CMD | exact r_KEYS_EVT | exact r_KEYS_SLOT _ | exact r_KEYS_LAST | exact r_KEYS_CNT | exact r_DEV_CNT_LAST _ | exact r_DEV_EVT _

/-! ## Cipher -/

theorem writes_jobCmd {ag : Agent} {p c : Nat} {v : Word} {k : Code → Act} {P : Nat → Prop} (r_CIPH_JOB_STAT : P (CIPH.JOB_STAT p c)) (r_BLK_ERR : P (BLK_ERR (aDie (CIPH.JOB p c)) (aBlk (CIPH.JOB p c)))) (r_CIPH_JOB : P (CIPH.JOB p c)) (hk_k : ∀ x0, Writes (k x0) P) : Writes (jobCmd ag p c v k) P := by
  unfold jobCmd
  try dsimp only
  repeat' (with_reducible first | exact r_CIPH_JOB_STAT | exact r_BLK_ERR | exact r_CIPH_JOB | exact hk_k _ | apply writes_Act_setJob | apply writes_Act_badValue | apply writes_Act_store | apply Writes.setReg | apply Writes.all_cons | apply Writes.all_nil | apply Writes.seq | apply Writes.get | apply Writes.ite | intro _ | split | dsimp only)
  all_goals first | exact r_CIPH_JOB_STAT | exact r_BLK_ERR | exact r_CIPH_JOB

theorem writes_Act_jobRun {p desc : Nat} {w : List Nat} {key iv : List Nat} {k : Nat → Act} {P : Nat → Prop} (r_CIPH_CNT : P (CIPH.CNT p 1)) (r_DEV_CNT_LAST : ∀ x0, P (DEV.CNT_LAST x0)) (r_DEV_EVT : ∀ x0, P (DEV.EVT x0)) (hk_k : ∀ x0, Writes (k x0) P) : Writes (Act.jobRun p desc w key iv k) P := by
  unfold Act.jobRun
  try dsimp only
  repeat' (with_reducible first | exact r_CIPH_CNT | exact r_DEV_CNT_LAST _ | exact r_DEV_EVT _ | exact hk_k _ | apply writes_Act_modKslot | apply writes_Act_count | apply writes_Act_memWrite | apply writes_Act_memSetWord | apply Writes.all_cons | apply Writes.all_nil | apply Writes.seq | apply Writes.get | apply Writes.when | apply Writes.skip | apply Writes.ite | intro _ | split | dsimp only)
  all_goals first | exact r_CIPH_CNT | exact r_DEV_CNT_LAST _ | exact r_DEV_EVT _

theorem writes_Act_jobEnd {p c : Nat} {j : CipherJob} {fault : Bool} {k : Nat → Act} {P : Nat → Prop} (r_KEYS_SLOT : ∀ x0, P (KEYS.SLOT p x0)) (r_KEYS_LAST : P (KEYS.LAST p)) (r_KEYS_EVT : P (KEYS.EVT p)) (r_KEYS_CNT : P (KEYS.CNT p 6)) (r_DEV_CNT_LAST : ∀ x0, P (DEV.CNT_LAST x0)) (r_DEV_EVT : ∀ x0, P (DEV.EVT x0)) (r_CIPH_LAST : P (CIPH.LAST p)) (r_CIPH_EVT : P (CIPH.EVT p)) (r_CIPH_CNT : P (CIPH.CNT p 6)) (r_CIPH_CNT_2 : P (CIPH.CNT p 1)) (hk_k : ∀ x0, Writes (k x0) P) : Writes (Act.jobEnd p c j fault k) P := by
  unfold Act.jobEnd
  try dsimp only
  repeat' (with_reducible first | exact r_KEYS_SLOT _ | exact r_KEYS_LAST | exact r_KEYS_EVT | exact r_KEYS_CNT | exact r_DEV_CNT_LAST _ | exact r_DEV_EVT _ | exact r_CIPH_LAST | exact r_CIPH_EVT | exact r_CIPH_CNT | exact r_CIPH_CNT_2 | exact hk_k _ | apply writes_Act_useKey | apply writes_Act_datapathFault | apply writes_Act_jobRun | apply Writes.seq | apply Writes.get | apply Writes.ite | apply Writes.all_map | intro _ | split | dsimp only)
  all_goals first | exact r_KEYS_SLOT _ | exact r_KEYS_LAST | exact r_KEYS_EVT | exact r_KEYS_CNT | exact r_DEV_CNT_LAST _ | exact r_DEV_EVT _ | exact r_CIPH_LAST | exact r_CIPH_EVT | exact r_CIPH_CNT | exact r_CIPH_CNT_2

theorem writes_ciphJobDone {p c : Nat} {fault : Bool} {P : Nat → Prop} (r_CIPH_JOB_STAT : P (CIPH.JOB_STAT p c)) (r_CIPH_EVT : P (CIPH.EVT p)) (r_CIPH_CNT : P (CIPH.CNT p 0)) (r_DEV_CNT_LAST : ∀ x0, P (DEV.CNT_LAST x0)) (r_DEV_EVT : ∀ x0, P (DEV.EVT x0)) (r_KEYS_SLOT : ∀ x0, P (KEYS.SLOT p x0)) (r_KEYS_LAST : P (KEYS.LAST p)) (r_KEYS_EVT : P (KEYS.EVT p)) (r_KEYS_CNT : P (KEYS.CNT p 6)) (r_CIPH_LAST : P (CIPH.LAST p)) (r_CIPH_CNT_2 : P (CIPH.CNT p 6)) (r_CIPH_CNT_3 : P (CIPH.CNT p 1)) : Writes (ciphJobDone p c fault) P := by
  unfold ciphJobDone
  try dsimp only
  repeat' (with_reducible first | exact r_CIPH_JOB_STAT | exact r_CIPH_EVT | exact r_CIPH_CNT | exact r_DEV_CNT_LAST _ | exact r_DEV_EVT _ | exact r_KEYS_SLOT _ | exact r_KEYS_LAST | exact r_KEYS_EVT | exact r_KEYS_CNT | exact r_CIPH_LAST | exact r_CIPH_CNT_2 | exact r_CIPH_CNT_3 | apply writes_Act_setJob | apply writes_Act_setFld | apply writes_Act_event | apply writes_Act_irq | apply writes_Act_count | apply writes_Act_offerMon | apply writes_Act_jobEnd | apply Writes.all_cons | apply Writes.all_nil | apply Writes.get | apply Writes.opt | intro _ | dsimp only)
  all_goals first | exact r_CIPH_JOB_STAT | exact r_CIPH_EVT | exact r_CIPH_CNT | exact r_DEV_CNT_LAST _ | exact r_DEV_EVT _ | exact r_KEYS_SLOT _ | exact r_KEYS_LAST | exact r_KEYS_EVT | exact r_KEYS_CNT | exact r_CIPH_LAST | exact r_CIPH_CNT_2 | exact r_CIPH_CNT_3

theorem writes_Act_flowOut {p g : Nat} {fr : Frame} {payload : List Byte} {P : Nat → Prop} : Writes (Act.flowOut p g fr payload) P := by
  unfold Act.flowOut
  try dsimp only
  repeat' (with_reducible first | apply writes_Act_engineOut | apply Writes.get | intro _ | dsimp only)

theorem writes_cipherFlow {p : Nat} {fault : Bool} {P : Nat → Prop} (r_CIPH_EVT : P (CIPH.EVT p)) (r_CIPH_CNT : P (CIPH.CNT p 4)) (r_DEV_CNT_LAST : ∀ x0, P (DEV.CNT_LAST x0)) (r_DEV_EVT : ∀ x0, P (DEV.EVT x0)) (r_CIPH_CNT_2 : P (CIPH.CNT p 2)) (r_CIPH_CNT_3 : P (CIPH.CNT p 3)) (r_CIPH_CNT_4 : P (CIPH.CNT p 5)) (r_QMGR_EVT : P (QMGR.EVT p)) (r_ra : P (ra p 129 515)) (r_FAB_EVT : P (FAB.EVT p)) (r_FAB_CNT : P (FAB.CNT p 3)) (r_FAB_CNT_2 : P (FAB.CNT p 4)) (r_QMGR_DROP_LAST : P (QMGR.DROP_LAST p)) (r_QMGR_CNT : P (QMGR.CNT p 2)) (r_QMGR_LIMIT_DROPS : ∀ x0, P (QMGR.LIMIT_DROPS p x0)) (r_QMGR_CNT_2 : P (QMGR.CNT p 3)) (r_QMGR_CNT_3 : P (QMGR.CNT p 4)) (r_KEYS_SLOT : ∀ x0, P (KEYS.SLOT p x0)) (r_KEYS_LAST : P (KEYS.LAST p)) (r_KEYS_EVT : P (KEYS.EVT p)) (r_KEYS_CNT : P (KEYS.CNT p 6)) (r_CIPH_LAST : P (CIPH.LAST p)) (r_CIPH_CNT_5 : P (CIPH.CNT p 6)) (r_SEAL_LAST : P (SEAL.LAST p)) (r_SEAL_EVT : P (SEAL.EVT p)) (r_PLX_CNT : P (PLX.CNT 0 9)) (r_PAIR_CNT : P (PAIR.CNT p 5)) (r_PAIR_CNT_2 : P (PAIR.CNT p 6)) (r_SEAL_CNT : ∀ x0, P (SEAL.CNT p x0)) (r_PLX_LAST : P (PLX.LAST 0)) (r_PLX_EVT : P (PLX.EVT 0)) : Writes (cipherFlow p fault) P := by
  unfold cipherFlow
  try dsimp only
  repeat' (with_reducible first | exact r_CIPH_EVT | exact r_CIPH_CNT | exact r_DEV_CNT_LAST _ | exact r_DEV_EVT _ | exact r_CIPH_CNT_2 | exact r_CIPH_CNT_3 | exact r_CIPH_CNT_4 | exact r_QMGR_EVT | exact r_ra | exact r_FAB_EVT | exact r_FAB_CNT | exact r_FAB_CNT_2 | exact r_QMGR_DROP_LAST | exact r_QMGR_CNT | exact r_QMGR_LIMIT_DROPS _ | exact r_QMGR_CNT_2 | exact r_QMGR_CNT_3 | exact r_KEYS_SLOT _ | exact r_KEYS_LAST | exact r_KEYS_EVT | exact r_KEYS_CNT | exact r_CIPH_LAST | exact r_CIPH_CNT_5 | exact r_SEAL_LAST | exact r_SEAL_EVT | exact r_PLX_CNT | exact r_PAIR_CNT | exact r_PAIR_CNT_2 | exact r_SEAL_CNT _ | exact r_PLX_LAST | exact r_PLX_EVT | apply writes_Act_event | apply writes_Act_count | apply writes_Act_take | apply writes_Act_sealPdu | apply writes_Act_verified | apply writes_Act_flowOut | apply Writes.seq | apply Writes.get | apply Writes.when | apply Writes.ite | intro _ | split | dsimp only)
  all_goals first | exact r_CIPH_EVT | exact r_CIPH_CNT | exact r_DEV_CNT_LAST _ | exact r_DEV_EVT _ | exact r_CIPH_CNT_2 | exact r_CIPH_CNT_3 | exact r_CIPH_CNT_4 | exact r_QMGR_EVT | exact r_ra | exact r_FAB_EVT | exact r_FAB_CNT | exact r_FAB_CNT_2 | exact r_QMGR_DROP_LAST | exact r_QMGR_CNT | exact r_QMGR_LIMIT_DROPS _ | exact r_QMGR_CNT_2 | exact r_QMGR_CNT_3 | exact r_KEYS_SLOT _ | exact r_KEYS_LAST | exact r_KEYS_EVT | exact r_KEYS_CNT | exact r_CIPH_LAST | exact r_CIPH_CNT_5 | exact r_SEAL_LAST | exact r_SEAL_EVT | exact r_PLX_CNT | exact r_PAIR_CNT | exact r_PAIR_CNT_2 | exact r_SEAL_CNT _ | exact r_PLX_LAST | exact r_PLX_EVT

theorem writes_sealBeacon {p i : Nat} {fault : Bool} {P : Nat → Prop} (r_SEAL_CNT : ∀ x0, P (SEAL.CNT x0 1)) (r_DEV_CNT_LAST : ∀ x0, P (DEV.CNT_LAST x0)) (r_DEV_EVT : ∀ x0, P (DEV.EVT x0)) (r_SEAL_CNT_2 : ∀ x0, P (SEAL.CNT x0 6)) (r_KEYS_SLOT : ∀ x0 x1, P (KEYS.SLOT x0 x1)) (r_KEYS_LAST : ∀ x0, P (KEYS.LAST x0)) (r_KEYS_EVT : ∀ x0, P (KEYS.EVT x0)) (r_KEYS_CNT : ∀ x0, P (KEYS.CNT x0 6)) (r_CIPH_LAST : ∀ x0, P (CIPH.LAST x0)) (r_CIPH_EVT : ∀ x0, P (CIPH.EVT x0)) (r_CIPH_CNT : ∀ x0, P (CIPH.CNT x0 6)) (r_SEAL_LAST : ∀ x0, P (SEAL.LAST x0)) (r_SEAL_EVT : ∀ x0, P (SEAL.EVT x0)) : Writes (sealBeacon p i fault) P := by
  unfold sealBeacon
  try dsimp only
  repeat' (with_reducible first | exact r_SEAL_CNT _ | exact r_DEV_CNT_LAST _ | exact r_DEV_EVT _ | exact r_SEAL_CNT_2 _ | exact r_KEYS_SLOT _ _ | exact r_KEYS_LAST _ | exact r_KEYS_EVT _ | exact r_KEYS_CNT _ | exact r_CIPH_LAST _ | exact r_CIPH_EVT _ | exact r_CIPH_CNT _ | exact r_SEAL_LAST _ | exact r_SEAL_EVT _ | apply writes_Act_modFresh | apply writes_Act_count | apply writes_Act_sealTag | apply writes_Act_engineOut | apply Writes.seq | apply Writes.get | apply Writes.when | apply Writes.opt | apply Writes.ite | intro _ | split | dsimp only)
  all_goals first | exact r_SEAL_CNT _ | exact r_DEV_CNT_LAST _ | exact r_DEV_EVT _ | exact r_SEAL_CNT_2 _ | exact r_KEYS_SLOT _ _ | exact r_KEYS_LAST _ | exact r_KEYS_EVT _ | exact r_KEYS_CNT _ | exact r_CIPH_LAST _ | exact r_CIPH_EVT _ | exact r_CIPH_CNT _ | exact r_SEAL_LAST _ | exact r_SEAL_EVT _

/-! ## Tables -/

theorem writes_Act_putRoute {p : Nat} {r : Route} {P : Nat → Prop} : Writes (Act.putRoute p r) P := by
  unfold Act.putRoute
  try dsimp only
  repeat' (with_reducible first | apply writes_Act_setTblWords | apply Writes.each | intro _ | dsimp only)

theorem writes_Act_dropRoute {p : Nat} {r : Route} {P : Nat → Prop} : Writes (Act.dropRoute p r) P := by
  unfold Act.dropRoute
  try dsimp only
  repeat' (with_reducible first | apply writes_Act_setTblWords | apply Writes.each | intro _ | dsimp only)

theorem writes_Act_lpmKey {p : Nat} {r : Route} {P : Nat → Prop} (r_LPM_KEY_0 : P (LPM.KEY_0 p)) (r_LPM_KEY_1 : P (LPM.KEY_1 p)) (r_LPM_KEY_2 : P (LPM.KEY_2 p)) (r_LPM_CMD : P (LPM.CMD p)) : Writes (Act.lpmKey p r) P := by
  unfold Act.lpmKey
  try dsimp only
  repeat' (with_reducible first | exact r_LPM_KEY_0 | exact r_LPM_KEY_1 | exact r_LPM_KEY_2 | exact r_LPM_CMD | apply writes_Act_setFlds | apply Writes.setReg | apply Writes.all_cons | apply Writes.all_nil | intro _ | dsimp only)
  all_goals first | exact r_LPM_KEY_0 | exact r_LPM_KEY_1 | exact r_LPM_KEY_2 | exact r_LPM_CMD

theorem writes_Act_lpmEvict {p : Nat} {r : Route} {P : Nat → Prop} (r_LPM_EVT : P (LPM.EVT p)) (r_LPM_CNT : P (LPM.CNT p 4)) (r_DEV_CNT_LAST : ∀ x0, P (DEV.CNT_LAST x0)) (r_DEV_EVT : ∀ x0, P (DEV.EVT x0)) (r_LPM_KEY_0 : P (LPM.KEY_0 p)) (r_LPM_KEY_1 : P (LPM.KEY_1 p)) (r_LPM_KEY_2 : P (LPM.KEY_2 p)) (r_LPM_CMD : P (LPM.CMD p)) : Writes (Act.lpmEvict p r) P := by
  unfold Act.lpmEvict
  try dsimp only
  repeat' (with_reducible first | exact r_LPM_EVT | exact r_LPM_CNT | exact r_DEV_CNT_LAST _ | exact r_DEV_EVT _ | exact r_LPM_KEY_0 | exact r_LPM_KEY_1 | exact r_LPM_KEY_2 | exact r_LPM_CMD | apply writes_Act_event | apply writes_Act_count | apply writes_Act_dropRoute | apply writes_Act_lpmKey | apply Writes.all_cons | apply Writes.all_nil | intro _ | dsimp only)
  all_goals first | exact r_LPM_EVT | exact r_LPM_CNT | exact r_DEV_CNT_LAST _ | exact r_DEV_EVT _ | exact r_LPM_KEY_0 | exact r_LPM_KEY_1 | exact r_LPM_KEY_2 | exact r_LPM_CMD

theorem writes_Act_lpmRoom {p n : Nat} {z0 : Nat} {P : Nat → Prop} (r_LPM_EVT : P (LPM.EVT p)) (r_LPM_CNT : P (LPM.CNT p 4)) (r_DEV_CNT_LAST : ∀ x0, P (DEV.CNT_LAST x0)) (r_DEV_EVT : ∀ x0, P (DEV.EVT x0)) (r_LPM_KEY_0 : P (LPM.KEY_0 p)) (r_LPM_KEY_1 : P (LPM.KEY_1 p)) (r_LPM_KEY_2 : P (LPM.KEY_2 p)) (r_LPM_CMD : P (LPM.CMD p)) : Writes (Act.lpmRoom p n z0) P := by
  induction z0 with
  | zero =>
    unfold Act.lpmRoom
    exact Writes.skip
  | succ z0 ih =>
    unfold Act.lpmRoom
    try dsimp only
    repeat' (with_reducible first | exact ih | exact r_LPM_EVT | exact r_LPM_CNT | exact r_DEV_CNT_LAST _ | exact r_DEV_EVT _ | exact r_LPM_KEY_0 | exact r_LPM_KEY_1 | exact r_LPM_KEY_2 | exact r_LPM_CMD | apply writes_Act_freeBelow | apply writes_Act_lpmEvict | apply Writes.seq | apply Writes.get | apply Writes.opt | apply Writes.skip | apply Writes.ite | intro _ | split | dsimp only)
  all_goals first | exact r_LPM_EVT | exact r_LPM_CNT | exact r_DEV_CNT_LAST _ | exact r_DEV_EVT _ | exact r_LPM_KEY_0 | exact r_LPM_KEY_1 | exact r_LPM_KEY_2 | exact r_LPM_CMD

theorem writes_Act_placeRoute {p : Nat} {r : Route} {P : Nat → Prop} (r_LPM_CMD : P (LPM.CMD p)) : Writes (Act.placeRoute p r) P := by
  unfold Act.placeRoute
  try dsimp only
  repeat' (with_reducible first | exact r_LPM_CMD | apply writes_Act_setFld | apply writes_Act_putRoute | apply writes_Act_dropRoute | apply Writes.all_cons | apply Writes.all_nil | apply Writes.get | apply Writes.each | intro _ | dsimp only)
  all_goals first | exact r_LPM_CMD

theorem writes_Act_lpmResult {p n : Nat} {P : Nat → Prop} (r_LPM_CMD : P (LPM.CMD p)) : Writes (Act.lpmResult p n) P := by
  unfold Act.lpmResult
  try dsimp only
  repeat' (with_reducible first | exact r_LPM_CMD | apply writes_Act_setFld | intro _ | dsimp only)
  all_goals first | exact r_LPM_CMD

theorem writes_Act_lpmInsert {p : Nat} {v6 : Bool} {len hop : Nat} {P : Nat → Prop} (r_LPM_CMD : P (LPM.CMD p)) (r_LPM_EVT : P (LPM.EVT p)) (r_LPM_CNT : P (LPM.CNT p 4)) (r_DEV_CNT_LAST : ∀ x0, P (DEV.CNT_LAST x0)) (r_DEV_EVT : ∀ x0, P (DEV.EVT x0)) (r_LPM_KEY_0 : P (LPM.KEY_0 p)) (r_LPM_KEY_1 : P (LPM.KEY_1 p)) (r_LPM_KEY_2 : P (LPM.KEY_2 p)) : Writes (Act.lpmInsert p v6 len hop) P := by
  unfold Act.lpmInsert
  try dsimp only
  repeat' (with_reducible first | exact r_LPM_CMD | exact r_LPM_EVT | exact r_LPM_CNT | exact r_DEV_CNT_LAST _ | exact r_DEV_EVT _ | exact r_LPM_KEY_0 | exact r_LPM_KEY_1 | exact r_LPM_KEY_2 | apply writes_Act_setLpmSeq | apply writes_Act_setFld | apply writes_Act_putRoute | apply writes_Act_lpmRoom | apply writes_Act_placeRoute | apply writes_Act_lpmResult | apply Writes.all_cons | apply Writes.all_nil | apply Writes.get | apply Writes.ite | intro _ | split | dsimp only)
  all_goals first | exact r_LPM_CMD | exact r_LPM_EVT | exact r_LPM_CNT | exact r_DEV_CNT_LAST _ | exact r_DEV_EVT _ | exact r_LPM_KEY_0 | exact r_LPM_KEY_1 | exact r_LPM_KEY_2

theorem writes_Act_lpmDelete {p : Nat} {v6 : Bool} {len : Nat} {P : Nat → Prop} (r_LPM_CMD : P (LPM.CMD p)) : Writes (Act.lpmDelete p v6 len) P := by
  unfold Act.lpmDelete
  try dsimp only
  repeat' (with_reducible first | exact r_LPM_CMD | apply writes_Act_dropRoute | apply writes_Act_lpmResult | apply Writes.seq | apply Writes.get | apply Writes.ite | intro _ | split | dsimp only)
  all_goals first | exact r_LPM_CMD

theorem writes_Act_lpmLookup {p : Nat} {v6 : Bool} {P : Nat → Prop} (r_LPM_CMD : P (LPM.CMD p)) : Writes (Act.lpmLookup p v6) P := by
  unfold Act.lpmLookup
  try dsimp only
  repeat' (with_reducible first | exact r_LPM_CMD | apply writes_Act_setFlds | apply writes_Act_lpmResult | apply Writes.get | intro _ | split | dsimp only)
  all_goals first | exact r_LPM_CMD

theorem writes_lpmCmd {ag : Agent} {p : Nat} {v : Word} {k : Code → Act} {P : Nat → Prop} (r_BLK_ERR : P (BLK_ERR (aDie (LPM.CMD p)) (aBlk (LPM.CMD p)))) (r_LPM_CMD : P (LPM.CMD p)) (r_LPM_EVT : P (LPM.EVT p)) (r_LPM_CNT : P (LPM.CNT p 4)) (r_DEV_CNT_LAST : ∀ x0, P (DEV.CNT_LAST x0)) (r_DEV_EVT : ∀ x0, P (DEV.EVT x0)) (r_LPM_KEY_0 : P (LPM.KEY_0 p)) (r_LPM_KEY_1 : P (LPM.KEY_1 p)) (r_LPM_KEY_2 : P (LPM.KEY_2 p)) (hk_k : ∀ x0, Writes (k x0) P) : Writes (lpmCmd ag p v k) P := by
  unfold lpmCmd
  try dsimp only
  repeat' (with_reducible first | exact r_BLK_ERR | exact r_LPM_CMD | exact r_LPM_EVT | exact r_LPM_CNT | exact r_DEV_CNT_LAST _ | exact r_DEV_EVT _ | exact r_LPM_KEY_0 | exact r_LPM_KEY_1 | exact r_LPM_KEY_2 | exact hk_k _ | apply writes_Act_badValue | apply writes_Act_store | apply writes_Act_lpmInsert | apply writes_Act_lpmDelete | apply writes_Act_lpmLookup | apply Writes.all_cons | apply Writes.all_nil | apply Writes.skip | apply Writes.ite | intro _ | split | dsimp only)
  all_goals first | exact r_BLK_ERR | exact r_LPM_CMD | exact r_LPM_EVT | exact r_LPM_CNT | exact r_DEV_CNT_LAST _ | exact r_DEV_EVT _ | exact r_LPM_KEY_0 | exact r_LPM_KEY_1 | exact r_LPM_KEY_2

theorem writes_Act_macPut {p i : Nat} {w0 w1 : Word} {P : Nat → Prop} : Writes (Act.macPut p i w0 w1) P := by
  unfold Act.macPut
  try dsimp only
  repeat' (with_reducible first | apply writes_Act_setTblWords | apply writes_Act_notice | apply writes_Act_macRemove | apply Writes.all_cons | apply Writes.all_nil | apply Writes.get | apply Writes.when | apply Writes.each | intro _ | dsimp only)

theorem writes_Act_fillMeter {p m : Nat} {P : Nat → Prop} : Writes (Act.fillMeter p m) P := by
  unfold Act.fillMeter
  try dsimp only
  repeat' (with_reducible first | apply writes_Act_setMtrC | apply writes_Act_setMtrE | apply Writes.seq | apply Writes.get | intro _ | dsimp only)

theorem writes_Act_tblPut {p t i : Nat} {l : List Word} {P : Nat → Prop} : Writes (Act.tblPut p t i l) P := by
  unfold Act.tblPut
  try dsimp only
  repeat' (with_reducible first | apply writes_Act_setTblWords | apply writes_Act_macPut | apply writes_Act_fillMeter | apply Writes.seq | apply Writes.ite | apply Writes.all_map | intro _ | split | dsimp only)

theorem writes_Act_tdmaDst {p t e : Nat} {l : List Word} {mem : Option Nat} {P : Nat → Prop} (r_TDMA_BUF : ∀ x0, P (TDMA.BUF p x0)) : Writes (Act.tdmaDst p t e l mem) P := by
  unfold Act.tdmaDst
  try dsimp only
  repeat' (with_reducible first | exact r_TDMA_BUF _ | apply writes_Act_memSetWord | apply Writes.setReg | apply Writes.each | intro _ | split | dsimp only)
  all_goals first | exact r_TDMA_BUF _

theorem writes_Act_tdmaKeyed {p j : Nat} {u : TdmaJob} {P : Nat → Prop} (r_TDMA_BUF : P (TDMA.BUF p 0)) (r_TDMA_BUF_2 : P (TDMA.BUF p 1)) (r_CLS_EVT : P (CLS.EVT p)) (r_CLS_CNT : P (CLS.CNT p 2)) (r_DEV_CNT_LAST : ∀ x0, P (DEV.CNT_LAST x0)) (r_DEV_EVT : ∀ x0, P (DEV.EVT x0)) : Writes (Act.tdmaKeyed p j u) P := by
  unfold Act.tdmaKeyed
  try dsimp only
  repeat' (with_reducible first | exact r_TDMA_BUF | exact r_TDMA_BUF_2 | exact r_CLS_EVT | exact r_CLS_CNT | exact r_DEV_CNT_LAST _ | exact r_DEV_EVT _ | apply writes_Act_setTjob | apply writes_Act_macRemove | apply writes_Act_macEvict | apply writes_Act_macRoom | apply writes_Act_tblPut | apply Writes.setReg | apply Writes.all_cons | apply Writes.all_nil | apply Writes.seq | apply Writes.get | intro _ | split | dsimp only)
  all_goals first | exact r_TDMA_BUF | exact r_TDMA_BUF_2 | exact r_CLS_EVT | exact r_CLS_CNT | exact r_DEV_CNT_LAST _ | exact r_DEV_EVT _

theorem writes_Act_tdmaStep {p j : Nat} {P : Nat → Prop} (r_TDMA_BUF : ∀ x0, P (TDMA.BUF p x0)) (r_CLS_EVT : P (CLS.EVT p)) (r_CLS_CNT : P (CLS.CNT p 2)) (r_DEV_CNT_LAST : ∀ x0, P (DEV.CNT_LAST x0)) (r_DEV_EVT : ∀ x0, P (DEV.EVT x0)) : Writes (Act.tdmaStep p j) P := by
  unfold Act.tdmaStep
  try dsimp only
  repeat' (with_reducible first | exact r_TDMA_BUF _ | exact r_CLS_EVT | exact r_CLS_CNT | exact r_DEV_CNT_LAST _ | exact r_DEV_EVT _ | apply writes_Act_setTjob | apply writes_Act_tblPut | apply writes_Act_tdmaDst | apply writes_Act_tdmaKeyed | apply Writes.seq | apply Writes.get | apply Writes.opt | apply Writes.skip | apply Writes.ite | intro _ | split | dsimp only)
  all_goals first | exact r_TDMA_BUF _ | exact r_CLS_EVT | exact r_CLS_CNT | exact r_DEV_CNT_LAST _ | exact r_DEV_EVT _

theorem writes_Act_tdmaRounds {p : Nat} {z0 : Nat} {P : Nat → Prop} (r_TDMA_BUF : ∀ x0, P (TDMA.BUF p x0)) (r_CLS_EVT : P (CLS.EVT p)) (r_CLS_CNT : P (CLS.CNT p 2)) (r_DEV_CNT_LAST : ∀ x0, P (DEV.CNT_LAST x0)) (r_DEV_EVT : ∀ x0, P (DEV.EVT x0)) : Writes (Act.tdmaRounds p z0) P := by
  induction z0 with
  | zero =>
    unfold Act.tdmaRounds
    exact Writes.skip
  | succ z0 ih =>
    unfold Act.tdmaRounds
    try dsimp only
    repeat' (with_reducible first | exact ih | exact r_TDMA_BUF _ | exact r_CLS_EVT | exact r_CLS_CNT | exact r_DEV_CNT_LAST _ | exact r_DEV_EVT _ | apply writes_Act_tdmaStep | apply Writes.seq | apply Writes.each | apply Writes.skip | intro _ | split | dsimp only)
  all_goals first | exact r_TDMA_BUF _ | exact r_CLS_EVT | exact r_CLS_CNT | exact r_DEV_CNT_LAST _ | exact r_DEV_EVT _

theorem writes_Act_tdmaStart {p j part t op i n : Nat} {mem : Option Nat} {P : Nat → Prop} : Writes (Act.tdmaStart p j part t op i n mem) P := by
  unfold Act.tdmaStart
  try dsimp only
  repeat' (with_reducible first | apply writes_Act_setTjob | apply Writes.get | apply Writes.ite | intro _ | split | dsimp only)

theorem writes_tdmaJob {ag : Agent} {p j : Nat} {v : Word} {k : Code → Act} {P : Nat → Prop} (r_TDMA_JOB_STAT : P (TDMA.JOB_STAT p j)) (r_BLK_ERR : P (BLK_ERR (aDie (TDMA.JOB p j)) (aBlk (TDMA.JOB p j)))) (r_TDMA_JOB : P (TDMA.JOB p j)) (hk_k : ∀ x0, Writes (k x0) P) : Writes (tdmaJob ag p j v k) P := by
  unfold tdmaJob
  try dsimp only
  repeat' (with_reducible first | exact r_TDMA_JOB_STAT | exact r_BLK_ERR | exact r_TDMA_JOB | exact hk_k _ | apply writes_Act_badValue | apply writes_Act_store | apply writes_Act_tdmaStart | apply Writes.setReg | apply Writes.all_cons | apply Writes.all_nil | apply Writes.seq | apply Writes.get | apply Writes.ite | intro _ | split | dsimp only)
  all_goals first | exact r_TDMA_JOB_STAT | exact r_BLK_ERR | exact r_TDMA_JOB

theorem writes_tdmaJobDone {p j : Nat} {P : Nat → Prop} (r_TDMA_JOB_STAT : P (TDMA.JOB_STAT p j)) (r_TDMA_EVT : P (TDMA.EVT p)) (r_TDMA_BUF : ∀ x0, P (TDMA.BUF p x0)) (r_CLS_EVT : P (CLS.EVT p)) (r_CLS_CNT : P (CLS.CNT p 2)) (r_DEV_CNT_LAST : ∀ x0, P (DEV.CNT_LAST x0)) (r_DEV_EVT : ∀ x0, P (DEV.EVT x0)) : Writes (tdmaJobDone p j) P := by
  unfold tdmaJobDone
  try dsimp only
  repeat' (with_reducible first | exact r_TDMA_JOB_STAT | exact r_TDMA_EVT | exact r_TDMA_BUF _ | exact r_CLS_EVT | exact r_CLS_CNT | exact r_DEV_CNT_LAST _ | exact r_DEV_EVT _ | apply writes_Act_setTjob | apply writes_Act_event | apply writes_Act_tdmaRounds | apply Writes.setReg | apply Writes.all_cons | apply Writes.all_nil | apply Writes.seq | apply Writes.get | apply Writes.when | apply Writes.opt | intro _ | dsimp only)
  all_goals first | exact r_TDMA_JOB_STAT | exact r_TDMA_EVT | exact r_TDMA_BUF _ | exact r_CLS_EVT | exact r_CLS_CNT | exact r_DEV_CNT_LAST _ | exact r_DEV_EVT _

theorem writes_tdmaLock {p t : Nat} {v : Word} {k : Code → Act} {P : Nat → Prop} (r_TDMA_LOCK : P (TDMA.LOCK p t)) (hk_k : ∀ x0, Writes (k x0) P) : Writes (tdmaLock p t v k) P := by
  unfold tdmaLock
  try dsimp only
  repeat' (with_reducible first | exact r_TDMA_LOCK | exact hk_k _ | apply writes_Act_setLockedAt | apply writes_Act_store | apply Writes.all_cons | apply Writes.all_nil | apply Writes.get | apply Writes.each | intro _ | dsimp only)
  all_goals first | exact r_TDMA_LOCK

theorem writes_tdmaLockExpire {p t r : Nat} {P : Nat → Prop} (r_TDMA_LOCK : P (TDMA.LOCK p (t % 8))) (r_TDMA_EVT : P (TDMA.EVT p)) : Writes (tdmaLockExpire p t r) P := by
  unfold tdmaLockExpire
  try dsimp only
  repeat' (with_reducible first | exact r_TDMA_LOCK | exact r_TDMA_EVT | apply writes_Act_event | apply Writes.setReg | apply Writes.seq | apply Writes.get | apply Writes.when | intro _ | dsimp only)
  all_goals first | exact r_TDMA_LOCK | exact r_TDMA_EVT

end Sys2Proof.Machine
end

