-- ==== Sys2Proof/Laws/Writes/Group10.lean ====
section
/-! SUPPORT. Which registers the operations of Blocks, Watch, Epoch, Access, Mgmt, Image, Load, Eyepiece may write. -/

set_option linter.unusedTactic false
set_option linter.unreachableTactic false

namespace Sys2Proof.Machine

/-! ## Blocks -/

theorem writes_Act_blockOn {d b : Nat} {P : Nat → Prop} (r_ETH_CNT : P (ETH.CNT d (b - 32) 9)) (r_DEV_CNT_LAST : ∀ x0, P (DEV.CNT_LAST x0)) (r_DEV_EVT : ∀ x0, P (DEV.EVT x0)) (r_WAKE_EVT : P (WAKE.EVT 0)) (r_WAKE_CNT : P (WAKE.CNT 0 9)) (r_WAKE_CNT_2 : P (WAKE.CNT 0 11)) : Writes (Act.blockOn d b) P := by
  unfold Act.blockOn
  try dsimp only
  repeat' (with_reducible first | exact r_ETH_CNT | exact r_DEV_CNT_LAST _ | exact r_DEV_EVT _ | exact r_WAKE_EVT | exact r_WAKE_CNT | exact r_WAKE_CNT_2 | apply writes_Act_d2dExchange | apply writes_Act_canEnable | apply writes_Act_ethEnable | apply writes_Act_linEnable | apply writes_Act_chSettle | apply writes_Act_pairStart | apply writes_Act_wakeEnable | apply writes_Act_recEnable | apply writes_Act_sgwOn | apply Writes.when | apply Writes.skip | apply Writes.ite | intro _ | split | dsimp only)
  all_goals first | exact r_ETH_CNT | exact r_DEV_CNT_LAST _ | exact r_DEV_EVT _ | exact r_WAKE_EVT | exact r_WAKE_CNT | exact r_WAKE_CNT_2

theorem writes_Act_wbrOff {p : Nat} {P : Nat → Prop} : Writes (Act.wbrOff p) P := by
  unfold Act.wbrOff
  try dsimp only
  repeat' (with_reducible first | apply Writes.upd | intro _ | dsimp only)

theorem writes_Act_blockOff {d b : Nat} {P : Nat → Prop} (r_QMGR_EVT : P (QMGR.EVT d)) (r_CAN_CNT : P (CAN.CNT d (b - 64) 11)) (r_DEV_CNT_LAST : ∀ x0, P (DEV.CNT_LAST x0)) (r_DEV_EVT : ∀ x0, P (DEV.EVT x0)) (r_ETH_EVT : P (ETH.EVT d (b - 32))) (r_ETH_CNT : P (ETH.CNT d (b - 32) 52)) (r_ETH_CNT_2 : P (ETH.CNT d (b - 32) 9)) (r_WAKE_EVT : P (WAKE.EVT 0)) (r_WAKE_CNT : P (WAKE.CNT 0 9)) (r_WAKE_CNT_2 : P (WAKE.CNT 0 11)) (r_PAIR_EVT : P (PAIR.EVT 0)) (r_BLK_CTRL : ∀ x0 x1, P (BLK_CTRL x0 x1)) (r_PSCP_CNT : P (PSCP.CNT d 8)) (r_PSCP_RD_CMD : P (PSCP.RD_CMD d)) : Writes (Act.blockOff d b) P := by
  unfold Act.blockOff
  try dsimp only
  repeat' (with_reducible first | exact r_QMGR_EVT | exact r_CAN_CNT | exact r_DEV_CNT_LAST _ | exact r_DEV_EVT _ | exact r_ETH_EVT | exact r_ETH_CNT | exact r_ETH_CNT_2 | exact r_WAKE_EVT | exact r_WAKE_CNT | exact r_WAKE_CNT_2 | exact r_PAIR_EVT | exact r_BLK_CTRL _ _ | exact r_PSCP_CNT | exact r_PSCP_RD_CMD | apply writes_Act_modDrv | apply writes_Act_setFabOff | apply writes_Act_canOff | apply writes_Act_linkDown | apply writes_Act_linOff | apply writes_Act_chSettle | apply writes_Act_pairStop | apply writes_Act_wakeDisable | apply writes_Act_recDisable | apply writes_Act_sgwOff | apply writes_Act_wbrOff | apply Writes.get | apply Writes.when | apply Writes.skip | apply Writes.ite | intro _ | split | dsimp only)
  all_goals first | exact r_QMGR_EVT | exact r_CAN_CNT | exact r_DEV_CNT_LAST _ | exact r_DEV_EVT _ | exact r_ETH_EVT | exact r_ETH_CNT | exact r_ETH_CNT_2 | exact r_WAKE_EVT | exact r_WAKE_CNT | exact r_WAKE_CNT_2 | exact r_PAIR_EVT | exact r_BLK_CTRL _ _ | exact r_PSCP_CNT | exact r_PSCP_RD_CMD

theorem writes_Act_setEnable {d b : Nat} {on : Bool} {P : Nat → Prop} (r_ETH_CNT : P (ETH.CNT d (b - 32) 9)) (r_DEV_CNT_LAST : ∀ x0, P (DEV.CNT_LAST x0)) (r_DEV_EVT : ∀ x0, P (DEV.EVT x0)) (r_WAKE_EVT : P (WAKE.EVT 0)) (r_WAKE_CNT : P (WAKE.CNT 0 9)) (r_WAKE_CNT_2 : P (WAKE.CNT 0 11)) (r_QMGR_EVT : P (QMGR.EVT d)) (r_CAN_CNT : P (CAN.CNT d (b - 64) 11)) (r_ETH_EVT : P (ETH.EVT d (b - 32))) (r_ETH_CNT_2 : P (ETH.CNT d (b - 32) 52)) (r_PAIR_EVT : P (PAIR.EVT 0)) (r_BLK_CTRL : ∀ x0 x1, P (BLK_CTRL x0 x1)) (r_PSCP_CNT : P (PSCP.CNT d 8)) (r_PSCP_RD_CMD : P (PSCP.RD_CMD d)) : Writes (Act.setEnable d b on) P := by
  unfold Act.setEnable
  try dsimp only
  repeat' (with_reducible first | exact r_ETH_CNT | exact r_DEV_CNT_LAST _ | exact r_DEV_EVT _ | exact r_WAKE_EVT | exact r_WAKE_CNT | exact r_WAKE_CNT_2 | exact r_QMGR_EVT | exact r_CAN_CNT | exact r_ETH_EVT | exact r_ETH_CNT_2 | exact r_PAIR_EVT | exact r_BLK_CTRL _ _ | exact r_PSCP_CNT | exact r_PSCP_RD_CMD | apply writes_Act_blockOn | apply writes_Act_blockOff | apply Writes.setReg | apply Writes.seq | apply Writes.get | apply Writes.skip | apply Writes.ite | intro _ | split | dsimp only)
  all_goals first | exact r_ETH_CNT | exact r_DEV_CNT_LAST _ | exact r_DEV_EVT _ | exact r_WAKE_EVT | exact r_WAKE_CNT | exact r_WAKE_CNT_2 | exact r_QMGR_EVT | exact r_CAN_CNT | exact r_ETH_EVT | exact r_ETH_CNT_2 | exact r_PAIR_EVT | exact r_BLK_CTRL _ _ | exact r_PSCP_CNT | exact r_PSCP_RD_CMD

theorem writes_blkCtrl {ag : Agent} {d b : Nat} {v : Word} {k : Code → Act} {P : Nat → Prop} (r_BLK_ERR : P (BLK_ERR (aDie (BLK_CTRL d b)) (aBlk (BLK_CTRL d b)))) (r_ETH_CNT : P (ETH.CNT d (b - 32) 9)) (r_DEV_CNT_LAST : ∀ x0, P (DEV.CNT_LAST x0)) (r_DEV_EVT : ∀ x0, P (DEV.EVT x0)) (r_WAKE_EVT : P (WAKE.EVT 0)) (r_WAKE_CNT : P (WAKE.CNT 0 9)) (r_WAKE_CNT_2 : P (WAKE.CNT 0 11)) (r_QMGR_EVT : P (QMGR.EVT d)) (r_CAN_CNT : P (CAN.CNT d (b - 64) 11)) (r_ETH_EVT : P (ETH.EVT d (b - 32))) (r_ETH_CNT_2 : P (ETH.CNT d (b - 32) 52)) (r_PAIR_EVT : P (PAIR.EVT 0)) (r_BLK_CTRL : ∀ x0 x1, P (BLK_CTRL x0 x1)) (r_PSCP_CNT : P (PSCP.CNT d 8)) (r_PSCP_RD_CMD : P (PSCP.RD_CMD d)) (hk_k : ∀ x0, Writes (k x0) P) : Writes (blkCtrl ag d b v k) P := by
  unfold blkCtrl
  try dsimp only
  repeat' (with_reducible first | exact r_BLK_ERR | exact r_ETH_CNT | exact r_DEV_CNT_LAST _ | exact r_DEV_EVT _ | exact r_WAKE_EVT | exact r_WAKE_CNT | exact r_WAKE_CNT_2 | exact r_QMGR_EVT | exact r_CAN_CNT | exact r_ETH_EVT | exact r_ETH_CNT_2 | exact r_PAIR_EVT | exact r_BLK_CTRL _ _ | exact r_PSCP_CNT | exact r_PSCP_RD_CMD | exact hk_k _ | apply writes_Act_badValue | apply writes_Act_setEnable | apply Writes.seq | apply Writes.get | apply Writes.ite | intro _ | split | dsimp only)
  all_goals first | exact r_BLK_ERR | exact r_ETH_CNT | exact r_DEV_CNT_LAST _ | exact r_DEV_EVT _ | exact r_WAKE_EVT | exact r_WAKE_CNT | exact r_WAKE_CNT_2 | exact r_QMGR_EVT | exact r_CAN_CNT | exact r_ETH_EVT | exact r_ETH_CNT_2 | exact r_PAIR_EVT | exact r_BLK_CTRL _ _ | exact r_PSCP_CNT | exact r_PSCP_RD_CMD

theorem writes_Act_upset {a : Nat} {m : Word} {par : Nat} {P : Nat → Prop} (r_a : P a) : Writes (Act.upset a m par) P := by
  unfold Act.upset
  try dsimp only
  repeat' (with_reducible first | exact r_a | apply Writes.setReg | apply Writes.upd | apply Writes.seq | apply Writes.get | apply Writes.when | apply Writes.skip | apply Writes.ite | intro _ | split | dsimp only)
  all_goals first | exact r_a

/-! ## Watch -/

theorem writes_Act_zeroise  {P : Nat → Prop} (r_KEYS_PROV : ∀ x0 x1, P (KEYS.PROV x0 x1)) (r_KEYS_SLOT : ∀ x0 x1, P (KEYS.SLOT x0 x1)) (r_KEYS_OP_BUF : ∀ x0 x1, P (KEYS.OP_BUF x0 x1)) : Writes (Act.zeroise ) P := by
  unfold Act.zeroise
  try dsimp only
  repeat' (with_reducible first | exact r_KEYS_PROV _ _ | exact r_KEYS_SLOT _ _ | exact r_KEYS_OP_BUF _ _ | apply writes_Act_modKstore | apply writes_Act_clearSlot | apply writes_Act_setOpBuf | apply Writes.setReg | apply Writes.free | apply Writes.all_cons | apply Writes.all_nil | apply Writes.get | apply Writes.each | apply Writes.skip | intro _ | dsimp only)
  all_goals first | exact r_KEYS_PROV _ _ | exact r_KEYS_SLOT _ _ | exact r_KEYS_OP_BUF _ _

/-! ## Epoch -/

theorem writes_Act_flashProgram {a : Nat} {l : List Byte} {P : Nat → Prop} : Writes (Act.flashProgram a l) P := by
  unfold Act.flashProgram
  try dsimp only
  repeat' (with_reducible first | apply Writes.setFlash | apply Writes.all_cons | apply Writes.all_nil | apply Writes.get | apply Writes.all_map | intro _ | dsimp only)

theorem writes_Act_flashErase {a : Nat} {P : Nat → Prop} : Writes (Act.flashErase a) P := by
  unfold Act.flashErase
  try dsimp only
  repeat' (with_reducible first | apply Writes.eraseFlash | intro _ | dsimp only)

theorem writes_Act_burnRecord {k i : Nat} {r : EpochRec} {good : Bool} {cont : Bool → Act} {P : Nat → Prop} (hk_cont : ∀ x0, Writes (cont x0) P) : Writes (Act.burnRecord k i r good cont) P := by
  unfold Act.burnRecord
  try dsimp only
  repeat' (with_reducible first | exact hk_cont _ | apply writes_Act_flashUndefined | apply writes_Act_flashProgram | apply Writes.seq | apply Writes.ite | intro _ | split | dsimp only)

theorem writes_Act_placeRecord {k i : Nat} {r : EpochRec} {b : Burn} {cont : Bool → Act} {P : Nat → Prop} (hk_cont : ∀ x0, Writes (cont x0) P) : Writes (Act.placeRecord k i r b cont) P := by
  unfold Act.placeRecord
  try dsimp only
  repeat' (with_reducible first | exact hk_cont _ | apply writes_Act_burnRecord | apply Writes.get | apply Writes.ite | intro _ | split | dsimp only)

theorem writes_Act_putErased {k : Nat} {r : EpochRec} {b : Burn} {cont : Bool → Act} {P : Nat → Prop} (hk_cont : ∀ x0, Writes (cont x0) P) : Writes (Act.putErased k r b cont) P := by
  unfold Act.putErased
  try dsimp only
  repeat' (with_reducible first | exact hk_cont _ | apply writes_Act_flashUndefined | apply writes_Act_flashErase | apply writes_Act_placeRecord | apply Writes.seq | apply Writes.get | apply Writes.ite | intro _ | split | dsimp only)

theorem writes_Act_epochShow  {P : Nat → Prop} (r_IMG_EPOCH_STAT : P (IMG.EPOCH_STAT 0)) : Writes (Act.epochShow ) P := by
  unfold Act.epochShow
  try dsimp only
  repeat' (with_reducible first | exact r_IMG_EPOCH_STAT | apply writes_Act_setFlds | apply Writes.get | intro _ | split | dsimp only)
  all_goals first | exact r_IMG_EPOCH_STAT

theorem writes_Act_writeRecord {r : EpochRec} {b : Burn} {cont : Bool → Act} {P : Nat → Prop} (r_IMG_EPOCH_STAT : P (IMG.EPOCH_STAT 0)) (hk_cont : ∀ x0, Writes (cont x0) P) : Writes (Act.writeRecord r b cont) P := by
  unfold Act.writeRecord
  try dsimp only
  repeat' (with_reducible first | exact r_IMG_EPOCH_STAT | exact hk_cont _ | apply writes_Act_placeRecord | apply writes_Act_putErased | apply writes_Act_epochShow | apply Writes.seq | apply Writes.get | apply Writes.ite | intro _ | split | dsimp only)
  all_goals first | exact r_IMG_EPOCH_STAT

theorem writes_Act_setLd {f : LoaderState → LoaderState} {P : Nat → Prop} : Writes (Act.setLd f) P := by
  unfold Act.setLd
  try dsimp only
  repeat' (with_reducible first | apply Writes.upd | intro _ | dsimp only)

theorem writes_Act_epochOutcome {st epoch : Nat} {c : EpochRec} {events : List Nat} {P : Nat → Prop} (r_IMG_EPOCH_STAT : P (IMG.EPOCH_STAT 0)) (r_RSTC_START : P (RSTC.START 0)) (r_IMG_EPOCH : P (IMG.EPOCH 0)) (r_IMG_EVT : P (IMG.EVT 0)) : Writes (Act.epochOutcome st epoch c events) P := by
  unfold Act.epochOutcome
  try dsimp only
  repeat' (with_reducible first | exact r_IMG_EPOCH_STAT | exact r_RSTC_START | exact r_IMG_EPOCH | exact r_IMG_EVT | apply writes_Act_setFld | apply writes_Act_setFlds | apply writes_Act_event | apply Writes.all_cons | apply Writes.all_nil | apply Writes.when | apply Writes.each | intro _ | dsimp only)
  all_goals first | exact r_IMG_EPOCH_STAT | exact r_RSTC_START | exact r_IMG_EPOCH | exact r_IMG_EVT

theorem writes_epochWrite {b : Burn} {P : Nat → Prop} (r_IMG_EPOCH_STAT : P (IMG.EPOCH_STAT 0)) (r_RSTC_START : P (RSTC.START 0)) (r_IMG_EPOCH : P (IMG.EPOCH 0)) (r_IMG_EVT : P (IMG.EVT 0)) : Writes (epochWrite b) P := by
  unfold epochWrite
  try dsimp only
  repeat' (with_reducible first | exact r_IMG_EPOCH_STAT | exact r_RSTC_START | exact r_IMG_EPOCH | exact r_IMG_EVT | apply writes_Act_setStart | apply writes_Act_writeRecord | apply writes_Act_epochOutcome | apply Writes.blowEpochInit | apply Writes.seq | apply Writes.get | apply Writes.when | apply Writes.ite | intro _ | split | dsimp only)
  all_goals first | exact r_IMG_EPOCH_STAT | exact r_RSTC_START | exact r_IMG_EPOCH | exact r_IMG_EVT

theorem writes_epochBackgroundErase {good : Bool} {P : Nat → Prop} (r_IMG_EPOCH_STAT : P (IMG.EPOCH_STAT 0)) : Writes (epochBackgroundErase good) P := by
  unfold epochBackgroundErase
  try dsimp only
  repeat' (with_reducible first | exact r_IMG_EPOCH_STAT | apply writes_Act_setFld | apply writes_Act_flashUndefined | apply writes_Act_flashErase | apply writes_Act_setLd | apply Writes.all_cons | apply Writes.all_nil | apply Writes.seq | apply Writes.get | apply Writes.when | apply Writes.opt | apply Writes.ite | intro _ | split | dsimp only)
  all_goals first | exact r_IMG_EPOCH_STAT

theorem writes_imgCmd {ag : Agent} {v : Word} {k : Code → Act} {P : Nat → Prop} (r_IMG_CMD : P (IMG.CMD 0)) (r_BLK_ERR : P (BLK_ERR (aDie (IMG.CMD 0)) (aBlk (IMG.CMD 0)))) (hk_k : ∀ x0, Writes (k x0) P) : Writes (imgCmd ag v k) P := by
  unfold imgCmd
  try dsimp only
  repeat' (with_reducible first | exact r_IMG_CMD | exact r_BLK_ERR | exact hk_k _ | apply writes_Act_badValue | apply writes_Act_setLd | apply Writes.setReg | apply Writes.all_cons | apply Writes.all_nil | apply Writes.get | apply Writes.ite | intro _ | split | dsimp only)
  all_goals first | exact r_IMG_CMD | exact r_BLK_ERR

theorem writes_imgCmdDone {b : Burn} {P : Nat → Prop} (r_IMG_CMD : P (IMG.CMD 0)) (r_IMG_EVT : P (IMG.EVT 0)) (r_IMG_EPOCH_STAT : P (IMG.EPOCH_STAT 0)) : Writes (imgCmdDone b) P := by
  unfold imgCmdDone
  try dsimp only
  repeat' (with_reducible first | exact r_IMG_CMD | exact r_IMG_EVT | exact r_IMG_EPOCH_STAT | apply writes_Act_setFld | apply writes_Act_event | apply writes_Act_writeRecord | apply writes_Act_setLd | apply Writes.all_cons | apply Writes.all_nil | apply Writes.get | apply Writes.when | apply Writes.opt | apply Writes.ite | apply Writes.all_map | intro _ | split | dsimp only)
  all_goals first | exact r_IMG_CMD | exact r_IMG_EVT | exact r_IMG_EPOCH_STAT

theorem writes_Act_provEnd {p result : Nat} {P : Nat → Prop} (r_KEYS_PROV : ∀ x0, P (KEYS.PROV p x0)) (r_KEYS_PROV_CMD : P (KEYS.PROV_CMD p)) : Writes (Act.provEnd p result) P := by
  unfold Act.provEnd
  try dsimp only
  repeat' (with_reducible first | exact r_KEYS_PROV _ | exact r_KEYS_PROV_CMD | apply writes_Act_modKstore | apply writes_Act_setFld | apply Writes.setReg | apply Writes.all_cons | apply Writes.all_nil | apply Writes.each | intro _ | dsimp only)
  all_goals first | exact r_KEYS_PROV _ | exact r_KEYS_PROV_CMD

theorem writes_provCmd {ag : Agent} {p : Nat} {v : Word} {k : Code → Act} {P : Nat → Prop} (r_KEYS_PROV_CMD : P (KEYS.PROV_CMD p)) (r_BLK_ERR : P (BLK_ERR (aDie (KEYS.PROV_CMD p)) (aBlk (KEYS.PROV_CMD p)))) (r_KEYS_PROV : ∀ x0, P (KEYS.PROV p x0)) (hk_k : ∀ x0, Writes (k x0) P) : Writes (provCmd ag p v k) P := by
  unfold provCmd
  try dsimp only
  repeat' (with_reducible first | exact r_KEYS_PROV_CMD | exact r_BLK_ERR | exact r_KEYS_PROV _ | exact hk_k _ | apply writes_Act_modKstore | apply writes_Act_badValue | apply writes_Act_provEnd | apply Writes.setReg | apply Writes.seq | apply Writes.get | apply Writes.ite | intro _ | split | dsimp only)
  all_goals first | exact r_KEYS_PROV_CMD | exact r_BLK_ERR | exact r_KEYS_PROV _

theorem writes_Act_burnBlob {blob : List Nat} {b : Burn} {k : Bool → Act} {P : Nat → Prop} (hk_k : ∀ x0, Writes (k x0) P) : Writes (Act.burnBlob blob b k) P := by
  unfold Act.burnBlob
  try dsimp only
  repeat' (with_reducible first | exact hk_k _ | apply writes_Act_flashUndefined | apply writes_Act_flashProgram | apply writes_Act_flashErase | apply Writes.seq | apply Writes.ite | intro _ | split | dsimp only)

theorem writes_Act_burnKey {p : Nat} {key : List Nat} {b : Burn} {good : Act} {P : Nat → Prop} (r_KEYS_PROV : ∀ x0, P (KEYS.PROV p x0)) (r_KEYS_PROV_CMD : P (KEYS.PROV_CMD p)) (hk_good : Writes (good) P) : Writes (Act.burnKey p key b good) P := by
  unfold Act.burnKey
  try dsimp only
  repeat' (with_reducible first | exact r_KEYS_PROV _ | exact r_KEYS_PROV_CMD | exact hk_good | apply writes_Act_provEnd | apply writes_Act_burnBlob | apply Writes.seq | apply Writes.ite | intro _ | split | dsimp only)
  all_goals first | exact r_KEYS_PROV _ | exact r_KEYS_PROV_CMD

theorem writes_Act_provRenew {p arg : Nat} {b : Burn} {P : Nat → Prop} (r_IMG_EPOCH_STAT : P (IMG.EPOCH_STAT 0)) (r_KEYS_PROV : ∀ x0, P (KEYS.PROV p x0)) (r_KEYS_PROV_CMD : P (KEYS.PROV_CMD p)) : Writes (Act.provRenew p arg b) P := by
  unfold Act.provRenew
  try dsimp only
  repeat' (with_reducible first | exact r_IMG_EPOCH_STAT | exact r_KEYS_PROV _ | exact r_KEYS_PROV_CMD | apply writes_Act_freeBelow | apply writes_Act_writeRecord | apply writes_Act_provEnd | apply Writes.get | apply Writes.ite | intro _ | split | dsimp only)
  all_goals first | exact r_IMG_EPOCH_STAT | exact r_KEYS_PROV _ | exact r_KEYS_PROV_CMD

theorem writes_provCmdDone {p : Nat} {b : Burn} {P : Nat → Prop} (r_KEYS_PROV : ∀ x0, P (KEYS.PROV p x0)) (r_KEYS_PROV_CMD : P (KEYS.PROV_CMD p)) (r_IMG_EPOCH_STAT : P (IMG.EPOCH_STAT 0)) : Writes (provCmdDone p b) P := by
  unfold provCmdDone
  try dsimp only
  repeat' (with_reducible first | exact r_KEYS_PROV _ | exact r_KEYS_PROV_CMD | exact r_IMG_EPOCH_STAT | apply writes_Act_provEnd | apply writes_Act_burnKey | apply writes_Act_provRenew | apply Writes.blowProvDone | apply Writes.get | apply Writes.when | apply Writes.opt | apply Writes.skip | intro _ | split | dsimp only)
  all_goals first | exact r_KEYS_PROV _ | exact r_KEYS_PROV_CMD | exact r_IMG_EPOCH_STAT

/-! ## Access -/

theorem writes_Act_fwFail {ag : Agent} {a : Nat} {c : Code} {P : Nat → Prop} : Writes (Act.fwFail ag a c) P := by
  unfold Act.fwFail
  try dsimp only
  repeat' (with_reducible first | apply writes_Act_irq | apply Writes.skip | intro _ | split | dsimp only)

theorem writes_Act_setPosted {d b : Nat} {o : Option Posted} {P : Nat → Prop} : Writes (Act.setPosted d b o) P := by
  unfold Act.setPosted
  try dsimp only
  repeat' (with_reducible first | apply Writes.upd | intro _ | dsimp only)

theorem writes_Act_put {a : Nat} {v : Word} {k : Code → Act} {P : Nat → Prop} (r_a : P a) (hk_k : ∀ x0, Writes (k x0) P) : Writes (Act.put a v k) P := by
  unfold Act.put
  try dsimp only
  repeat' (with_reducible first | exact r_a | exact hk_k _ | apply writes_Act_store | apply Writes.seq | intro _ | dsimp only)
  all_goals first | exact r_a

theorem writes_Act_clearing {ag : Agent} {a : Nat} {v : Word} {k : Code → Act} {P : Nat → Prop} (r_a : P a) (r_BLK_ERR : P (BLK_ERR (aDie a) (aBlk a))) (hk_k : ∀ x0, Writes (k x0) P) : Writes (Act.clearing ag a v k) P := by
  unfold Act.clearing
  try dsimp only
  repeat' (with_reducible first | exact r_a | exact r_BLK_ERR | exact hk_k _ | apply writes_Act_clearSeq | apply writes_Act_blkErr | apply Writes.seq | apply Writes.get | apply Writes.ite | intro _ | split | dsimp only)
  all_goals first | exact r_a | exact r_BLK_ERR

theorem writes_Act_effectFab {ag : Agent} {p b r a : Nat} {v : Word} {k : Code → Act} {P : Nat → Prop} (r_a : P a) (r_QMGR_EVT : P (QMGR.EVT p)) (r_BLK_ERR : ∀ x0 x1, P (BLK_ERR x0 x1)) (r_PSFP_CBS : P (PSFP.CBS p (r - 4096))) (r_PSFP_GCL_STAT : P (PSFP.GCL_STAT p ((r - 4352) / 4))) (r_PSFP_GCL_CTRL : P (PSFP.GCL_CTRL p ((r - 4352) / 4))) (r_FAB_REP_W0 : P (FAB.REP_W0 p)) (r_FAB_REP_W1 : P (FAB.REP_W1 p)) (r_FAB_REP_CMD : P (FAB.REP_CMD p)) (r_D2D_HOLD_MAX : ∀ x0, P (D2D.HOLD_MAX p x0)) (r_FAB_PACE : P (FAB.PACE p)) (r_FAB_FACET : ∀ x0, P (FAB.FACET p x0)) (r_QMGR_FLUSH_CMD : P (QMGR.FLUSH_CMD p)) (r_ra : P (ra p 129 515)) (r_DEV_CNT_LAST : ∀ x0, P (DEV.CNT_LAST x0)) (r_DEV_EVT : ∀ x0, P (DEV.EVT x0)) (r_FAB_EVT : P (FAB.EVT p)) (r_FAB_CNT : P (FAB.CNT p 3)) (r_FAB_CNT_2 : P (FAB.CNT p 4)) (r_QMGR_DROP_LAST : P (QMGR.DROP_LAST p)) (r_QMGR_CNT : P (QMGR.CNT p 2)) (r_QMGR_LIMIT_DROPS : ∀ x0, P (QMGR.LIMIT_DROPS p x0)) (r_QMGR_CNT_2 : P (QMGR.CNT p 3)) (r_QMGR_CNT_3 : P (QMGR.CNT p 4)) (r_QMGR_Q_CMD : P (QMGR.Q_CMD p)) (r_QMGR_Q_W0 : P (QMGR.Q_W0 p)) (r_QMGR_Q_W1 : P (QMGR.Q_W1 p)) (r_QMGR_Q_W2 : P (QMGR.Q_W2 p)) (r_LPM_CMD : P (LPM.CMD p)) (r_LPM_EVT : P (LPM.EVT p)) (r_LPM_CNT : P (LPM.CNT p 4)) (r_LPM_KEY_0 : P (LPM.KEY_0 p)) (r_LPM_KEY_1 : P (LPM.KEY_1 p)) (r_LPM_KEY_2 : P (LPM.KEY_2 p)) (r_TDMA_JOB_STAT : P (TDMA.JOB_STAT p ((r - 32) / 4))) (r_TDMA_JOB : P (TDMA.JOB p ((r - 32) / 4))) (r_TDMA_LOCK : P (TDMA.LOCK p (r - 1))) (hk_k : ∀ x0, Writes (k x0) P) : Writes (Act.effectFab ag p b r a v k) P := by
  unfold Act.effectFab
  try dsimp only
  repeat' (with_reducible first | exact r_a | exact r_QMGR_EVT | exact r_BLK_ERR _ _ | exact r_PSFP_CBS | exact r_PSFP_GCL_STAT | exact r_PSFP_GCL_CTRL | exact r_FAB_REP_W0 | exact r_FAB_REP_W1 | exact r_FAB_REP_CMD | exact r_D2D_HOLD_MAX _ | exact r_FAB_PACE | exact r_FAB_FACET _ | exact r_QMGR_FLUSH_CMD | exact r_ra | exact r_DEV_CNT_LAST _ | exact r_DEV_EVT _ | exact r_FAB_EVT | exact r_FAB_CNT | exact r_FAB_CNT_2 | exact r_QMGR_DROP_LAST | exact r_QMGR_CNT | exact r_QMGR_LIMIT_DROPS _ | exact r_QMGR_CNT_2 | exact r_QMGR_CNT_3 | exact r_QMGR_Q_CMD | exact r_QMGR_Q_W0 | exact r_QMGR_Q_W1 | exact r_QMGR_Q_W2 | exact r_LPM_CMD | exact r_LPM_EVT | exact r_LPM_CNT | exact r_LPM_KEY_0 | exact r_LPM_KEY_1 | exact r_LPM_KEY_2 | exact r_TDMA_JOB_STAT | exact r_TDMA_JOB | exact r_TDMA_LOCK | exact hk_k _ | apply writes_Act_store | apply writes_Act_checkShared | apply writes_cbsWrite | apply writes_gclCtrl | apply writes_repCmd | apply writes_fabClrMax | apply writes_flushCmd | apply writes_dropRest | apply writes_qCmd | apply writes_lpmCmd | apply writes_tdmaJob | apply writes_tdmaLock | apply writes_Act_put | apply Writes.all_cons | apply Writes.all_nil | apply Writes.seq | apply Writes.when | apply Writes.ite | intro _ | split | dsimp only)
  all_goals first | exact r_a | exact r_QMGR_EVT | exact r_BLK_ERR _ _ | exact r_PSFP_CBS | exact r_PSFP_GCL_STAT | exact r_PSFP_GCL_CTRL | exact r_FAB_REP_W0 | exact r_FAB_REP_W1 | exact r_FAB_REP_CMD | exact r_D2D_HOLD_MAX _ | exact r_FAB_PACE | exact r_FAB_FACET _ | exact r_QMGR_FLUSH_CMD | exact r_ra | exact r_DEV_CNT_LAST _ | exact r_DEV_EVT _ | exact r_FAB_EVT | exact r_FAB_CNT | exact r_FAB_CNT_2 | exact r_QMGR_DROP_LAST | exact r_QMGR_CNT | exact r_QMGR_LIMIT_DROPS _ | exact r_QMGR_CNT_2 | exact r_QMGR_CNT_3 | exact r_QMGR_Q_CMD | exact r_QMGR_Q_W0 | exact r_QMGR_Q_W1 | exact r_QMGR_Q_W2 | exact r_LPM_CMD | exact r_LPM_EVT | exact r_LPM_CNT | exact r_LPM_KEY_0 | exact r_LPM_KEY_1 | exact r_LPM_KEY_2 | exact r_TDMA_JOB_STAT | exact r_TDMA_JOB | exact r_TDMA_LOCK

theorem writes_Act_effectFacet {ag : Agent} {p b r a : Nat} {v : Word} {k : Code → Act} {P : Nat → Prop} (r_CAN_AC_CMD : ∀ x0, P (CAN.AC_CMD p x0)) (r_CAN_AC_W0 : ∀ x0, P (CAN.AC_W0 p x0)) (r_CAN_AC_W1 : ∀ x0, P (CAN.AC_W1 p x0)) (r_BLK_ERR : ∀ x0 x1, P (BLK_ERR x0 x1)) (r_CAN_FILT_CMD : ∀ x0, P (CAN.FILT_CMD p x0)) (r_CAN_FILT_W0 : ∀ x0, P (CAN.FILT_W0 p x0)) (r_CAN_FILT_W1 : ∀ x0, P (CAN.FILT_W1 p x0)) (r_ETH_MDIO : P (ETH.MDIO p (b - 32))) (r_ETH_SNAPCNT : ∀ x0, P (ETH.SNAPCNT p (b - 32) x0)) (r_ETH_CNT : P (ETH.CNT p (b - 32) 9)) (r_DEV_CNT_LAST : ∀ x0, P (DEV.CNT_LAST x0)) (r_DEV_EVT : ∀ x0, P (DEV.EVT x0)) (r_LIN_CMD : ∀ x0, P (LIN.CMD p x0)) (r_LIN_SCHED_CMD : ∀ x0, P (LIN.SCHED_CMD p x0)) (r_LIN_SCHED_W : ∀ x0, P (LIN.SCHED_W p x0)) (r_LIN_PUB_CMD : ∀ x0, P (LIN.PUB_CMD p x0)) (r_LIN_PUB_W0 : ∀ x0, P (LIN.PUB_W0 p x0)) (r_LIN_PUB_W1 : ∀ x0, P (LIN.PUB_W1 p x0)) (r_LIN_CNT : ∀ x0, P (LIN.CNT p x0 10)) (r_a : P a) (hk_k : ∀ x0, Writes (k x0) P) : Writes (Act.effectFacet ag p b r a v k) P := by
  unfold Act.effectFacet
  try dsimp only
  repeat' (with_reducible first | exact r_CAN_AC_CMD _ | exact r_CAN_AC_W0 _ | exact r_CAN_AC_W1 _ | exact r_BLK_ERR _ _ | exact r_CAN_FILT_CMD _ | exact r_CAN_FILT_W0 _ | exact r_CAN_FILT_W1 _ | exact r_ETH_MDIO | exact r_ETH_SNAPCNT _ | exact r_ETH_CNT | exact r_DEV_CNT_LAST _ | exact r_DEV_EVT _ | exact r_LIN_CMD _ | exact r_LIN_SCHED_CMD _ | exact r_LIN_SCHED_W _ | exact r_LIN_PUB_CMD _ | exact r_LIN_PUB_W0 _ | exact r_LIN_PUB_W1 _ | exact r_LIN_CNT _ | exact r_a | exact hk_k _ | apply writes_acCmd | apply writes_canCmd | apply writes_filtCmd | apply writes_mdioWrite | apply writes_ethCtrl | apply writes_linCmd | apply writes_schedCmd | apply writes_pubCmd | apply writes_Act_put | apply Writes.get | apply Writes.ite | intro _ | split | dsimp only)
  all_goals first | exact r_CAN_AC_CMD _ | exact r_CAN_AC_W0 _ | exact r_CAN_AC_W1 _ | exact r_BLK_ERR _ _ | exact r_CAN_FILT_CMD _ | exact r_CAN_FILT_W0 _ | exact r_CAN_FILT_W1 _ | exact r_ETH_MDIO | exact r_ETH_SNAPCNT _ | exact r_ETH_CNT | exact r_DEV_CNT_LAST _ | exact r_DEV_EVT _ | exact r_LIN_CMD _ | exact r_LIN_SCHED_CMD _ | exact r_LIN_SCHED_W _ | exact r_LIN_PUB_CMD _ | exact r_LIN_PUB_W0 _ | exact r_LIN_PUB_W1 _ | exact r_LIN_CNT _ | exact r_a

theorem writes_Act_effectDrive {ag : Agent} {d b r a : Nat} {v : Word} {k : Code → Act} {P : Nat → Prop} (r_a : P a) (r_BLK_ERR : P (BLK_ERR (aDie (CHN.CMD d (b - 8))) (aBlk (CHN.CMD d (b - 8))))) (r_CHN_CNT : P (CHN.CNT d (b - 8) 10)) (r_DEV_CNT_LAST : ∀ x0, P (DEV.CNT_LAST x0)) (r_DEV_EVT : ∀ x0, P (DEV.EVT x0)) (r_CHN_CNT_2 : P (CHN.CNT d (b - 8) 9)) (r_WAKE_EVT : P (WAKE.EVT 0)) (r_WAKE_CNT : P (WAKE.CNT 0 9)) (r_WAKE_CNT_2 : P (WAKE.CNT 0 11)) (r_CHN_CTRL : P (CHN.CTRL d (b - 8))) (r_CHN_CAL : P (CHN.CAL d (b - 8))) (r_BLK_ERR_2 : P (BLK_ERR (aDie (CHN.CTRL d (b - 8))) (aBlk (CHN.CTRL d (b - 8))))) (r_CHN_CFG_B : P (CHN.CFG_B d (b - 8))) (r_BLK_ERR_3 : P (BLK_ERR (aDie (PIN.CMD d)) (aBlk (PIN.CMD d)))) (r_PIN_EVT : P (PIN.EVT d)) (r_CHN_CMD : ∀ x0, P (CHN.CMD d x0)) (hk_k : ∀ x0, Writes (k x0) P) : Writes (Act.effectDrive ag d b r a v k) P := by
  unfold Act.effectDrive
  try dsimp only
  repeat' (with_reducible first | exact r_a | exact r_BLK_ERR | exact r_CHN_CNT | exact r_DEV_CNT_LAST _ | exact r_DEV_EVT _ | exact r_CHN_CNT_2 | exact r_WAKE_EVT | exact r_WAKE_CNT | exact r_WAKE_CNT_2 | exact r_CHN_CTRL | exact r_CHN_CAL | exact r_BLK_ERR_2 | exact r_CHN_CFG_B | exact r_BLK_ERR_3 | exact r_PIN_EVT | exact r_CHN_CMD _ | exact hk_k _ | apply writes_Act_setFld | apply writes_chnCmd | apply writes_chnCtrl | apply writes_Act_setCfgB | apply writes_wkpRearm | apply writes_Act_pinAck | apply writes_Act_minmaxClear | apply writes_Act_put | apply Writes.seq | apply Writes.when | apply Writes.ite | intro _ | split | dsimp only)
  all_goals first | exact r_a | exact r_BLK_ERR | exact r_CHN_CNT | exact r_DEV_CNT_LAST _ | exact r_DEV_EVT _ | exact r_CHN_CNT_2 | exact r_WAKE_EVT | exact r_WAKE_CNT | exact r_WAKE_CNT_2 | exact r_CHN_CTRL | exact r_CHN_CAL | exact r_BLK_ERR_2 | exact r_CHN_CFG_B | exact r_BLK_ERR_3 | exact r_PIN_EVT | exact r_CHN_CMD _

theorem writes_Act_readReg {ag : Agent} {a : Nat} {k : Code → Word → Act} {P : Nat → Prop} (r_QMGR_CQ_STAT : P (QMGR.CQ_STAT (aDie a) (cqOf (aReg a)))) (r_QMGR_EVT : P (QMGR.EVT (aDie a))) (r_ra : P (ra (aDie a) 129 515)) (r_DEV_CNT_LAST : ∀ x0, P (DEV.CNT_LAST x0)) (r_DEV_EVT : ∀ x0, P (DEV.EVT x0)) (r_FAB_EVT : P (FAB.EVT (aDie a))) (r_FAB_CNT : P (FAB.CNT (aDie a) 3)) (r_FAB_CNT_2 : P (FAB.CNT (aDie a) 4)) (r_QMGR_DROP_LAST : P (QMGR.DROP_LAST (aDie a))) (r_QMGR_CNT : P (QMGR.CNT (aDie a) 2)) (r_QMGR_LIMIT_DROPS : ∀ x0, P (QMGR.LIMIT_DROPS (aDie a) x0)) (r_QMGR_CNT_2 : P (QMGR.CNT (aDie a) 3)) (r_QMGR_CNT_3 : P (QMGR.CNT (aDie a) 4)) (hk_k : ∀ x0 x1, Writes (k x0 x1) P) : Writes (Act.readReg ag a k) P := by
  unfold Act.readReg
  try dsimp only
  repeat' (with_reducible first | exact r_QMGR_CQ_STAT | exact r_QMGR_EVT | exact r_ra | exact r_DEV_CNT_LAST _ | exact r_DEV_EVT _ | exact r_FAB_EVT | exact r_FAB_CNT | exact r_FAB_CNT_2 | exact r_QMGR_DROP_LAST | exact r_QMGR_CNT | exact r_QMGR_LIMIT_DROPS _ | exact r_QMGR_CNT_2 | exact r_QMGR_CNT_3 | exact hk_k _ _ | apply writes_cqDataRead | apply writes_txtsPop | apply writes_ptpNowRead | apply writes_irqPop | apply Writes.get | apply Writes.ite | intro _ | split | dsimp only)
  all_goals first | exact r_QMGR_CQ_STAT | exact r_QMGR_EVT | exact r_ra | exact r_DEV_CNT_LAST _ | exact r_DEV_EVT _ | exact r_FAB_EVT | exact r_FAB_CNT | exact r_FAB_CNT_2 | exact r_QMGR_DROP_LAST | exact r_QMGR_CNT | exact r_QMGR_LIMIT_DROPS _ | exact r_QMGR_CNT_2 | exact r_QMGR_CNT_3

/-! ## Mgmt -/

theorem writes_Act_hartFault {p k c cause loc : Nat} {ag : Agent} {P : Nat → Prop} : Writes (Act.hartFault p k c cause loc ag) P := by
  unfold Act.hartFault
  try dsimp only
  repeat' (with_reducible first | apply writes_Act_reply | apply writes_Act_hartTrap | apply Writes.seq | intro _ | dsimp only)

theorem writes_Act_loadEnds {p k c loc : Nat} {ag : Agent} {code : Code} {v : Word} {P : Nat → Prop} (r_CPU_PFAULT : P (CPU.PFAULT p k)) : Writes (Act.loadEnds p k c loc ag code v) P := by
  unfold Act.loadEnds
  try dsimp only
  repeat' (with_reducible first | exact r_CPU_PFAULT | apply writes_Act_reply | apply writes_Act_hartTrap | apply Writes.setReg | apply Writes.all_cons | apply Writes.all_nil | apply Writes.ite | intro _ | split | dsimp only)
  all_goals first | exact r_CPU_PFAULT

theorem writes_signalViewLoad {p c hart loc width : Nat} {P : Nat → Prop} : Writes (signalViewLoad p c hart loc width) P := by
  unfold signalViewLoad
  try dsimp only
  repeat' (with_reducible first | apply writes_Act_reply | apply writes_Act_hartFault | apply Writes.get | apply Writes.opt | apply Writes.ite | intro _ | split | dsimp only)

theorem writes_Act_storeChecked {p part a : Nat} {v : Word} {send : Word → Act} {P : Nat → Prop} (r_SGW_SIG_VAL : P (SGW.SIG_VAL (aDie a))) (r_CPU_ALAST : ∀ x0, P (CPU.ALAST x0)) (r_CPU_EVT : ∀ x0, P (CPU.EVT x0)) (r_CPU_CNT : ∀ x0 x1, P (CPU.CNT x0 x1)) (r_DEV_CNT_LAST : ∀ x0, P (DEV.CNT_LAST x0)) (r_DEV_EVT : ∀ x0, P (DEV.EVT x0)) (r_CPU_PSTAT : ∀ x0 x1, P (CPU.PSTAT x0 x1)) (r_WAKE_REQ : ∀ x0 x1, P (WAKE.REQ x0 x1)) (r_BLK_ERR : ∀ x0 x1, P (BLK_ERR x0 x1)) (r_CHN_CMD : ∀ x0 x1, P (CHN.CMD x0 x1)) (r_CHN_CNT : ∀ x0 x1, P (CHN.CNT x0 x1 10)) (r_CHN_CNT_2 : ∀ x0 x1, P (CHN.CNT x0 x1 9)) (r_WAKE_EVT : P (WAKE.EVT 0)) (r_WAKE_CNT : P (WAKE.CNT 0 9)) (r_WAKE_CNT_2 : P (WAKE.CNT 0 11)) (r_DEV_DLINK_DROPS : ∀ x0 x1, P (DEV.DLINK_DROPS x0 x1)) (r_APR_CH : ∀ x0 x1, P (APR.CH x0 x1)) (hk_send : ∀ x0, Writes (send x0) P) : Writes (Act.storeChecked p part a v send) P := by
  unfold Act.storeChecked
  try dsimp only
  repeat' (with_reducible first | exact r_SGW_SIG_VAL | exact r_CPU_ALAST _ | exact r_CPU_EVT _ | exact r_CPU_CNT _ _ | exact r_DEV_CNT_LAST _ | exact r_DEV_EVT _ | exact r_CPU_PSTAT _ _ | exact r_WAKE_REQ _ _ | exact r_BLK_ERR _ _ | exact r_CHN_CMD _ _ | exact r_CHN_CNT _ _ | exact r_CHN_CNT_2 _ _ | exact r_WAKE_EVT | exact r_WAKE_CNT | exact r_WAKE_CNT_2 | exact r_DEV_DLINK_DROPS _ _ | exact r_APR_CH _ _ | exact hk_send _ | apply writes_Act_aprBlock | apply writes_Act_aprSignal | apply writes_Act_aprLoad | apply Writes.setReg | apply Writes.all_cons | apply Writes.all_nil | apply Writes.get | apply Writes.when | apply Writes.opt | apply Writes.ite | intro _ | split | dsimp only)
  all_goals first | exact r_SGW_SIG_VAL | exact r_CPU_ALAST _ | exact r_CPU_EVT _ | exact r_CPU_CNT _ _ | exact r_DEV_CNT_LAST _ | exact r_DEV_EVT _ | exact r_CPU_PSTAT _ _ | exact r_WAKE_REQ _ _ | exact r_BLK_ERR _ _ | exact r_CHN_CMD _ _ | exact r_CHN_CNT _ _ | exact r_CHN_CNT_2 _ _ | exact r_WAKE_EVT | exact r_WAKE_CNT | exact r_WAKE_CNT_2 | exact r_DEV_DLINK_DROPS _ _ | exact r_APR_CH _ _

/-! ## Image -/

theorem writes_Act_loadReject {c : Code} {P : Nat → Prop} (r_IMG_EVT : P (IMG.EVT 0)) : Writes (Act.loadReject c) P := by
  unfold Act.loadReject
  try dsimp only
  repeat' (with_reducible first | exact r_IMG_EVT | apply writes_Act_event | apply Writes.when | intro _ | dsimp only)
  all_goals first | exact r_IMG_EVT

theorem writes_Act_lockPut {w : Word} {P : Nat → Prop} : Writes (Act.lockPut w) P := by
  unfold Act.lockPut
  try dsimp only
  repeat' (with_reducible first | apply Writes.upd | apply Writes.ite | intro _ | split | dsimp only)

theorem writes_Act_imgEntry {p t i : Nat} {w : List Word} {P : Nat → Prop} : Writes (Act.imgEntry p t i w) P := by
  unfold Act.imgEntry
  try dsimp only
  repeat' (with_reducible first | apply writes_Act_modFresh | apply writes_Act_setTblWords | apply writes_Act_pairTblPut | apply writes_Act_tblPut | apply Writes.seq | apply Writes.get | apply Writes.when | apply Writes.opt | apply Writes.ite | intro _ | split | dsimp only)

theorem writes_Act_imgRoutes {p : Nat} {l : List Route} {P : Nat → Prop} : Writes (Act.imgRoutes p l) P := by
  unfold Act.imgRoutes
  try dsimp only
  repeat' (with_reducible first | apply writes_Act_putRoute | apply Writes.get | apply Writes.each | intro _ | dsimp only)

theorem writes_Act_tableApply {p : Nat} {l : List Word} {P : Nat → Prop} : Writes (Act.tableApply p l) P := by
  unfold Act.tableApply
  try dsimp only
  repeat' (with_reducible first | apply writes_Act_imgEntry | apply writes_Act_imgRoutes | apply Writes.setTbl | apply Writes.each | apply Writes.opt | apply Writes.ite | intro _ | split | dsimp only)

theorem writes_Act_aprPut {p : Nat} {e : Nat × List Word} {P : Nat → Prop} : Writes (Act.aprPut p e) P := by
  unfold Act.aprPut
  try dsimp only
  repeat' (with_reducible first | apply writes_Act_setTblWords | intro _ | dsimp only)

theorem writes_Act_blobPut {p : Nat} {w : List Word} {P : Nat → Prop} : Writes (Act.blobPut p w) P := by
  unfold Act.blobPut
  try dsimp only
  repeat' (with_reducible first | apply writes_Act_modKslot | intro _ | dsimp only)

theorem writes_Act_compatPut {l : List Word} {P : Nat → Prop} : Writes (Act.compatPut l) P := by
  unfold Act.compatPut
  try dsimp only
  repeat' (with_reducible first | apply Writes.upd | intro _ | dsimp only)

/-! ## Load -/

theorem writes_imageKeyUnwrap {answers : Bool} {P : Nat → Prop} (r_IMG_STAT : P (IMG.STAT 0)) (r_KEYS_SLOT : ∀ x0, P (KEYS.SLOT x0 0)) : Writes (imageKeyUnwrap answers) P := by
  unfold imageKeyUnwrap
  try dsimp only
  repeat' (with_reducible first | exact r_IMG_STAT | exact r_KEYS_SLOT _ | apply writes_Act_setFld | apply writes_Act_fillSlot | apply writes_Act_setLd | apply Writes.seq | apply Writes.get | apply Writes.when | apply Writes.each | apply Writes.opt | apply Writes.ite | intro _ | split | dsimp only)
  all_goals first | exact r_IMG_STAT | exact r_KEYS_SLOT _

theorem writes_Act_loaderTo {st : Loader} {P : Nat → Prop} : Writes (Act.loaderTo st) P := by
  unfold Act.loaderTo
  try dsimp only
  repeat' (with_reducible first | apply writes_Act_setLd | intro _ | dsimp only)

theorem writes_Act_imgHold {st : Loader} {P : Nat → Prop} (r_RSTC_START : P (RSTC.START 0)) : Writes (Act.imgHold st) P := by
  unfold Act.imgHold
  try dsimp only
  repeat' (with_reducible first | exact r_RSTC_START | apply writes_Act_setFld | apply writes_Act_loaderTo | apply Writes.seq | intro _ | dsimp only)
  all_goals first | exact r_RSTC_START

theorem writes_Act_netOff  {P : Nat → Prop} (r_IMG_EVT : P (IMG.EVT 0)) (r_RSTC_START : P (RSTC.START 0)) : Writes (Act.netOff ) P := by
  unfold Act.netOff
  try dsimp only
  repeat' (with_reducible first | exact r_IMG_EVT | exact r_RSTC_START | apply writes_Act_event | apply writes_Act_setLd | apply writes_Act_imgHold | apply Writes.all_cons | apply Writes.all_nil | intro _ | dsimp only)
  all_goals first | exact r_IMG_EVT | exact r_RSTC_START

theorem writes_epochAreaRead {answers : Bool} {P : Nat → Prop} (r_IMG_EPOCH : P (IMG.EPOCH 0)) (r_IMG_EPOCH_STAT : P (IMG.EPOCH_STAT 0)) (r_RSTC_START : P (RSTC.START 0)) (r_IMG_EVT : P (IMG.EVT 0)) : Writes (epochAreaRead answers) P := by
  unfold epochAreaRead
  try dsimp only
  repeat' (with_reducible first | exact r_IMG_EPOCH | exact r_IMG_EPOCH_STAT | exact r_RSTC_START | exact r_IMG_EVT | apply writes_Act_setFlds | apply writes_Act_epochShow | apply writes_Act_setLd | apply writes_Act_imgHold | apply writes_Act_netOff | apply Writes.all_cons | apply Writes.all_nil | apply Writes.seq | apply Writes.get | apply Writes.when | apply Writes.opt | apply Writes.skip | apply Writes.ite | intro _ | split | dsimp only)
  all_goals first | exact r_IMG_EPOCH | exact r_IMG_EPOCH_STAT | exact r_RSTC_START | exact r_IMG_EVT

theorem writes_netBootOff  {P : Nat → Prop} (r_IMG_EVT : P (IMG.EVT 0)) (r_RSTC_START : P (RSTC.START 0)) : Writes (netBootOff ) P := by
  unfold netBootOff
  try dsimp only
  repeat' (with_reducible first | exact r_IMG_EVT | exact r_RSTC_START | apply writes_Act_netOff | apply Writes.get | apply Writes.when | intro _ | dsimp only)
  all_goals first | exact r_IMG_EVT | exact r_RSTC_START

theorem writes_Act_slotReport {i : Nat} {r : SlotReport} {P : Nat → Prop} (r_slotReg : P (slotReg i)) : Writes (Act.slotReport i r) P := by
  unfold Act.slotReport
  try dsimp only
  repeat' (with_reducible first | exact r_slotReg | apply writes_Act_freeBelow | apply writes_Act_setFlds | apply Writes.get | apply Writes.ite | intro _ | split | dsimp only)
  all_goals first | exact r_slotReg

theorem writes_Act_slotTaken {i : Nat} {P : Nat → Prop} (r_IMG_ID : P (IMG.ID 0)) (r_IMG_DIGEST : P (IMG.DIGEST 0)) (r_RSTC_TIME_A : P (RSTC.TIME_A 0)) (r_IMG_STAT : P (IMG.STAT 0)) (r_RSTC_START : P (RSTC.START 0)) : Writes (Act.slotTaken i) P := by
  unfold Act.slotTaken
  try dsimp only
  repeat' (with_reducible first | exact r_IMG_ID | exact r_IMG_DIGEST | exact r_RSTC_TIME_A | exact r_IMG_STAT | exact r_RSTC_START | apply writes_Act_setFld | apply writes_Act_setFlds | apply writes_Act_setStart | apply writes_Act_setLd | apply Writes.setReg | apply Writes.all_cons | apply Writes.all_nil | apply Writes.get | intro _ | dsimp only)
  all_goals first | exact r_IMG_ID | exact r_IMG_DIGEST | exact r_RSTC_TIME_A | exact r_IMG_STAT | exact r_RSTC_START

theorem writes_slotExamine {answers : Bool} {P : Nat → Prop} (r_RSTC_START : P (RSTC.START 0)) (r_IMG_EVT : P (IMG.EVT 0)) (r_slotReg : ∀ x0, P (slotReg x0)) (r_IMG_ID : P (IMG.ID 0)) (r_IMG_DIGEST : P (IMG.DIGEST 0)) (r_RSTC_TIME_A : P (RSTC.TIME_A 0)) (r_IMG_STAT : P (IMG.STAT 0)) : Writes (slotExamine answers) P := by
  unfold slotExamine
  try dsimp only
  repeat' (with_reducible first | exact r_RSTC_START | exact r_IMG_EVT | exact r_slotReg _ | exact r_IMG_ID | exact r_IMG_DIGEST | exact r_RSTC_TIME_A | exact r_IMG_STAT | apply writes_Act_setFld | apply writes_Act_event | apply writes_Act_setStart | apply writes_Act_setLd | apply writes_Act_imgHold | apply writes_Act_slotReport | apply writes_Act_slotTaken | apply Writes.all_cons | apply Writes.all_nil | apply Writes.seq | apply Writes.get | apply Writes.when | apply Writes.ite | intro _ | split | dsimp only)
  all_goals first | exact r_RSTC_START | exact r_IMG_EVT | exact r_slotReg _ | exact r_IMG_ID | exact r_IMG_DIGEST | exact r_RSTC_TIME_A | exact r_IMG_STAT

theorem writes_otherSlotCheck {answers : Bool} {P : Nat → Prop} (r_slotReg : ∀ x0, P (slotReg x0)) : Writes (otherSlotCheck answers) P := by
  unfold otherSlotCheck
  try dsimp only
  repeat' (with_reducible first | exact r_slotReg _ | apply writes_Act_setLd | apply writes_Act_slotReport | apply Writes.seq | apply Writes.get | apply Writes.when | apply Writes.ite | intro _ | split | dsimp only)
  all_goals first | exact r_slotReg _

theorem writes_Act_enableNow {p : Nat → Bool} {P : Nat → Prop} (r_BLK_ERR : ∀ x0 x1, P (BLK_ERR x0 x1)) (r_ETH_CNT : ∀ x0 x1, P (ETH.CNT x0 x1 9)) (r_DEV_CNT_LAST : ∀ x0, P (DEV.CNT_LAST x0)) (r_DEV_EVT : ∀ x0, P (DEV.EVT x0)) (r_WAKE_EVT : P (WAKE.EVT 0)) (r_WAKE_CNT : P (WAKE.CNT 0 9)) (r_WAKE_CNT_2 : P (WAKE.CNT 0 11)) (r_QMGR_EVT : ∀ x0, P (QMGR.EVT x0)) (r_CAN_CNT : ∀ x0 x1, P (CAN.CNT x0 x1 11)) (r_ETH_EVT : ∀ x0 x1, P (ETH.EVT x0 x1)) (r_ETH_CNT_2 : ∀ x0 x1, P (ETH.CNT x0 x1 52)) (r_PAIR_EVT : P (PAIR.EVT 0)) (r_BLK_CTRL : ∀ x0 x1, P (BLK_CTRL x0 x1)) (r_PSCP_CNT : ∀ x0, P (PSCP.CNT x0 8)) (r_PSCP_RD_CMD : ∀ x0, P (PSCP.RD_CMD x0)) (r_IMG_EVT : P (IMG.EVT 0)) : Writes (Act.enableNow p) P := by
  unfold Act.enableNow
  try dsimp only
  repeat' (with_reducible first | exact r_BLK_ERR _ _ | exact r_ETH_CNT _ _ | exact r_DEV_CNT_LAST _ | exact r_DEV_EVT _ | exact r_WAKE_EVT | exact r_WAKE_CNT | exact r_WAKE_CNT_2 | exact r_QMGR_EVT _ | exact r_CAN_CNT _ _ | exact r_ETH_EVT _ _ | exact r_ETH_CNT_2 _ _ | exact r_PAIR_EVT | exact r_BLK_CTRL _ _ | exact r_PSCP_CNT _ | exact r_PSCP_RD_CMD _ | exact r_IMG_EVT | apply writes_blkCtrl | apply writes_Act_setLd | apply writes_Act_loadReject | apply Writes.seq | apply Writes.get | apply Writes.each | intro _ | dsimp only)
  all_goals first | exact r_BLK_ERR _ _ | exact r_ETH_CNT _ _ | exact r_DEV_CNT_LAST _ | exact r_DEV_EVT _ | exact r_WAKE_EVT | exact r_WAKE_CNT | exact r_WAKE_CNT_2 | exact r_QMGR_EVT _ | exact r_CAN_CNT _ _ | exact r_ETH_EVT _ _ | exact r_ETH_CNT_2 _ _ | exact r_PAIR_EVT | exact r_BLK_CTRL _ _ | exact r_PSCP_CNT _ | exact r_PSCP_RD_CMD _ | exact r_IMG_EVT

theorem writes_Act_imgGates  {P : Nat → Prop} (r_PSFP_GCL_STAT : ∀ x0 x1, P (PSFP.GCL_STAT x0 x1)) (r_BLK_ERR : ∀ x0 x1, P (BLK_ERR x0 x1)) (r_PSFP_GCL_CTRL : ∀ x0 x1, P (PSFP.GCL_CTRL x0 x1)) (r_IMG_EVT : P (IMG.EVT 0)) : Writes (Act.imgGates ) P := by
  unfold Act.imgGates
  try dsimp only
  repeat' (with_reducible first | exact r_PSFP_GCL_STAT _ _ | exact r_BLK_ERR _ _ | exact r_PSFP_GCL_CTRL _ _ | exact r_IMG_EVT | apply writes_Act_setFld | apply writes_gclCtrl | apply writes_Act_loadReject | apply Writes.seq | apply Writes.get | apply Writes.when | apply Writes.each | intro _ | dsimp only)
  all_goals first | exact r_PSFP_GCL_STAT _ _ | exact r_BLK_ERR _ _ | exact r_PSFP_GCL_CTRL _ _ | exact r_IMG_EVT

theorem writes_Act_imgLocks  {P : Nat → Prop} (r_DEV_LOCK : ∀ x0, P (DEV.LOCK x0)) : Writes (Act.imgLocks ) P := by
  unfold Act.imgLocks
  try dsimp only
  repeat' (with_reducible first | exact r_DEV_LOCK _ | apply writes_Act_setFld | apply writes_Act_lockPut | apply Writes.seq | apply Writes.get | apply Writes.each | intro _ | dsimp only)
  all_goals first | exact r_DEV_LOCK _

theorem writes_Act_partLoad {p k : Nat} {P : Nat → Prop} (r_CPU_PSTAT : P (CPU.PSTAT p k)) : Writes (Act.partLoad p k) P := by
  unfold Act.partLoad
  try dsimp only
  repeat' (with_reducible first | exact r_CPU_PSTAT | apply writes_Act_modPart | apply writes_Act_partFail | apply Writes.get | apply Writes.when | apply Writes.ite | intro _ | split | dsimp only)
  all_goals first | exact r_CPU_PSTAT

theorem writes_Act_partsLoad  {P : Nat → Prop} (r_CPU_PSTAT : ∀ x0 x1, P (CPU.PSTAT x0 x1)) : Writes (Act.partsLoad ) P := by
  unfold Act.partsLoad
  try dsimp only
  repeat' (with_reducible first | exact r_CPU_PSTAT _ _ | apply writes_Act_framesBegin | apply writes_Act_partLoad | apply Writes.seq | apply Writes.get | apply Writes.each | intro _ | dsimp only)
  all_goals first | exact r_CPU_PSTAT _ _

theorem writes_Act_fwDone  {P : Nat → Prop} (r_RSTC_START : P (RSTC.START 0)) (r_RSTC_TIME_B : P (RSTC.TIME_B 0)) : Writes (Act.fwDone ) P := by
  unfold Act.fwDone
  try dsimp only
  repeat' (with_reducible first | exact r_RSTC_START | exact r_RSTC_TIME_B | apply writes_Act_setFld | apply writes_Act_setStart | apply writes_Act_loaderTo | apply Writes.all_cons | apply Writes.all_nil | apply Writes.get | intro _ | dsimp only)
  all_goals first | exact r_RSTC_START | exact r_RSTC_TIME_B

theorem writes_canLinEnable  {P : Nat → Prop} (r_RSTC_TIME_A : P (RSTC.TIME_A 0)) (r_BLK_ERR : ∀ x0 x1, P (BLK_ERR x0 x1)) (r_ETH_CNT : ∀ x0 x1, P (ETH.CNT x0 x1 9)) (r_DEV_CNT_LAST : ∀ x0, P (DEV.CNT_LAST x0)) (r_DEV_EVT : ∀ x0, P (DEV.EVT x0)) (r_WAKE_EVT : P (WAKE.EVT 0)) (r_WAKE_CNT : P (WAKE.CNT 0 9)) (r_WAKE_CNT_2 : P (WAKE.CNT 0 11)) (r_QMGR_EVT : ∀ x0, P (QMGR.EVT x0)) (r_CAN_CNT : ∀ x0 x1, P (CAN.CNT x0 x1 11)) (r_ETH_EVT : ∀ x0 x1, P (ETH.EVT x0 x1)) (r_ETH_CNT_2 : ∀ x0 x1, P (ETH.CNT x0 x1 52)) (r_PAIR_EVT : P (PAIR.EVT 0)) (r_BLK_CTRL : ∀ x0 x1, P (BLK_CTRL x0 x1)) (r_PSCP_CNT : ∀ x0, P (PSCP.CNT x0 8)) (r_PSCP_RD_CMD : ∀ x0, P (PSCP.RD_CMD x0)) (r_IMG_EVT : P (IMG.EVT 0)) : Writes (canLinEnable ) P := by
  unfold canLinEnable
  try dsimp only
  repeat' (with_reducible first | exact r_RSTC_TIME_A | exact r_BLK_ERR _ _ | exact r_ETH_CNT _ _ | exact r_DEV_CNT_LAST _ | exact r_DEV_EVT _ | exact r_WAKE_EVT | exact r_WAKE_CNT | exact r_WAKE_CNT_2 | exact r_QMGR_EVT _ | exact r_CAN_CNT _ _ | exact r_ETH_EVT _ _ | exact r_ETH_CNT_2 _ _ | exact r_PAIR_EVT | exact r_BLK_CTRL _ _ | exact r_PSCP_CNT _ | exact r_PSCP_RD_CMD _ | exact r_IMG_EVT | apply writes_Act_setFld | apply writes_Act_setStart | apply writes_Act_enableNow | apply Writes.all_cons | apply Writes.all_nil | apply Writes.get | apply Writes.when | intro _ | dsimp only)
  all_goals first | exact r_RSTC_TIME_A | exact r_BLK_ERR _ _ | exact r_ETH_CNT _ _ | exact r_DEV_CNT_LAST _ | exact r_DEV_EVT _ | exact r_WAKE_EVT | exact r_WAKE_CNT | exact r_WAKE_CNT_2 | exact r_QMGR_EVT _ | exact r_CAN_CNT _ _ | exact r_ETH_EVT _ _ | exact r_ETH_CNT_2 _ _ | exact r_PAIR_EVT | exact r_BLK_CTRL _ _ | exact r_PSCP_CNT _ | exact r_PSCP_RD_CMD _ | exact r_IMG_EVT

theorem writes_ethernetEnable  {P : Nat → Prop} (r_RSTC_TIME_B : P (RSTC.TIME_B 0)) (r_BLK_ERR : ∀ x0 x1, P (BLK_ERR x0 x1)) (r_ETH_CNT : ∀ x0 x1, P (ETH.CNT x0 x1 9)) (r_DEV_CNT_LAST : ∀ x0, P (DEV.CNT_LAST x0)) (r_DEV_EVT : ∀ x0, P (DEV.EVT x0)) (r_WAKE_EVT : P (WAKE.EVT 0)) (r_WAKE_CNT : P (WAKE.CNT 0 9)) (r_WAKE_CNT_2 : P (WAKE.CNT 0 11)) (r_QMGR_EVT : ∀ x0, P (QMGR.EVT x0)) (r_CAN_CNT : ∀ x0 x1, P (CAN.CNT x0 x1 11)) (r_ETH_EVT : ∀ x0 x1, P (ETH.EVT x0 x1)) (r_ETH_CNT_2 : ∀ x0 x1, P (ETH.CNT x0 x1 52)) (r_PAIR_EVT : P (PAIR.EVT 0)) (r_BLK_CTRL : ∀ x0 x1, P (BLK_CTRL x0 x1)) (r_PSCP_CNT : ∀ x0, P (PSCP.CNT x0 8)) (r_PSCP_RD_CMD : ∀ x0, P (PSCP.RD_CMD x0)) (r_IMG_EVT : P (IMG.EVT 0)) : Writes (ethernetEnable ) P := by
  unfold ethernetEnable
  try dsimp only
  repeat' (with_reducible first | exact r_RSTC_TIME_B | exact r_BLK_ERR _ _ | exact r_ETH_CNT _ _ | exact r_DEV_CNT_LAST _ | exact r_DEV_EVT _ | exact r_WAKE_EVT | exact r_WAKE_CNT | exact r_WAKE_CNT_2 | exact r_QMGR_EVT _ | exact r_CAN_CNT _ _ | exact r_ETH_EVT _ _ | exact r_ETH_CNT_2 _ _ | exact r_PAIR_EVT | exact r_BLK_CTRL _ _ | exact r_PSCP_CNT _ | exact r_PSCP_RD_CMD _ | exact r_IMG_EVT | apply writes_Act_setFld | apply writes_Act_setStart | apply writes_Act_enableNow | apply Writes.all_cons | apply Writes.all_nil | apply Writes.get | apply Writes.when | intro _ | dsimp only)
  all_goals first | exact r_RSTC_TIME_B | exact r_BLK_ERR _ _ | exact r_ETH_CNT _ _ | exact r_DEV_CNT_LAST _ | exact r_DEV_EVT _ | exact r_WAKE_EVT | exact r_WAKE_CNT | exact r_WAKE_CNT_2 | exact r_QMGR_EVT _ | exact r_CAN_CNT _ _ | exact r_ETH_EVT _ _ | exact r_ETH_CNT_2 _ _ | exact r_PAIR_EVT | exact r_BLK_CTRL _ _ | exact r_PSCP_CNT _ | exact r_PSCP_RD_CMD _ | exact r_IMG_EVT

theorem writes_Act_fwLand {n : Nat} {answers : Bool} {P : Nat → Prop} : Writes (Act.fwLand n answers) P := by
  unfold Act.fwLand
  try dsimp only
  repeat' (with_reducible first | apply writes_Act_freeBelow | apply writes_Act_memWrite | apply Writes.get | apply Writes.ite | intro _ | split | dsimp only)

theorem writes_Act_fwFailed {n : Nat} {P : Nat → Prop} (r_IMG_FW_STAT : P (IMG.FW_STAT 0)) (r_IMG_EVT : P (IMG.EVT 0)) (r_CPU_PSTAT : ∀ x0 x1, P (CPU.PSTAT x0 x1)) : Writes (Act.fwFailed n) P := by
  unfold Act.fwFailed
  try dsimp only
  repeat' (with_reducible first | exact r_IMG_FW_STAT | exact r_IMG_EVT | exact r_CPU_PSTAT _ _ | apply writes_Act_setFld | apply writes_Act_bumpFld | apply writes_Act_event | apply writes_Act_partFail | apply writes_Act_setLd | apply Writes.all_cons | apply Writes.all_nil | apply Writes.get | apply Writes.when | intro _ | dsimp only)
  all_goals first | exact r_IMG_FW_STAT | exact r_IMG_EVT | exact r_CPU_PSTAT _ _

theorem writes_fwSectionDone {answers : Bool} {P : Nat → Prop} (r_IMG_FW_STAT : P (IMG.FW_STAT 0)) (r_RSTC_START : P (RSTC.START 0)) (r_RSTC_TIME_B : P (RSTC.TIME_B 0)) (r_IMG_EVT : P (IMG.EVT 0)) (r_CPU_PSTAT : ∀ x0 x1, P (CPU.PSTAT x0 x1)) : Writes (fwSectionDone answers) P := by
  unfold fwSectionDone
  try dsimp only
  repeat' (with_reducible first | exact r_IMG_FW_STAT | exact r_RSTC_START | exact r_RSTC_TIME_B | exact r_IMG_EVT | exact r_CPU_PSTAT _ _ | apply writes_Act_bumpFld | apply writes_Act_setLd | apply writes_Act_fwDone | apply writes_Act_fwLand | apply writes_Act_fwFailed | apply Writes.all_cons | apply Writes.all_nil | apply Writes.get | apply Writes.when | apply Writes.opt | apply Writes.ite | intro _ | split | dsimp only)
  all_goals first | exact r_IMG_FW_STAT | exact r_RSTC_START | exact r_RSTC_TIME_B | exact r_IMG_EVT | exact r_CPU_PSTAT _ _

theorem writes_partitionStart {p k : Nat} {P : Nat → Prop} (r_CPU_KICK : P (CPU.KICK p k)) : Writes (partitionStart p k) P := by
  unfold partitionStart
  try dsimp only
  repeat' (with_reducible first | exact r_CPU_KICK | apply writes_Act_partRun | apply Writes.get | apply Writes.when | intro _ | dsimp only)
  all_goals first | exact r_CPU_KICK

theorem writes_partitionRestart {p k : Nat} {answers : Bool} {P : Nat → Prop} (r_CPU_KICK : P (CPU.KICK p k)) (r_IMG_FW_STAT : P (IMG.FW_STAT 0)) (r_IMG_EVT : P (IMG.EVT 0)) (r_CPU_PSTAT : ∀ x0 x1, P (CPU.PSTAT x0 x1)) : Writes (partitionRestart p k answers) P := by
  unfold partitionRestart
  try dsimp only
  repeat' (with_reducible first | exact r_CPU_KICK | exact r_IMG_FW_STAT | exact r_IMG_EVT | exact r_CPU_PSTAT _ _ | apply writes_Act_partRun | apply writes_Act_partFail | apply writes_Act_fwLand | apply writes_Act_fwFailed | apply Writes.seq | apply Writes.get | apply Writes.when | apply Writes.each | apply Writes.ite | intro _ | split | dsimp only)
  all_goals first | exact r_CPU_KICK | exact r_IMG_FW_STAT | exact r_IMG_EVT | exact r_CPU_PSTAT _ _

theorem writes_serviceEntry  {P : Nat → Prop} (r_WAKE_EVT : P (WAKE.EVT 0)) (r_WAKE_CNT : P (WAKE.CNT 0 1)) (r_DEV_CNT_LAST : ∀ x0, P (DEV.CNT_LAST x0)) (r_DEV_EVT : ∀ x0, P (DEV.EVT x0)) (r_WAKE_CAUSE : P (WAKE.CAUSE 0)) (r_WAKE_CNT_2 : P (WAKE.CNT 0 5)) (r_WKP_EVT : ∀ x0, P (WKP.EVT x0)) : Writes (serviceEntry ) P := by
  unfold serviceEntry
  try dsimp only
  repeat' (with_reducible first | exact r_WAKE_EVT | exact r_WAKE_CNT | exact r_DEV_CNT_LAST _ | exact r_DEV_EVT _ | exact r_WAKE_CAUSE | exact r_WAKE_CNT_2 | exact r_WKP_EVT _ | apply writes_Act_setStart | apply writes_Act_wakeService | apply Writes.seq | apply Writes.get | apply Writes.when | intro _ | dsimp only)
  all_goals first | exact r_WAKE_EVT | exact r_WAKE_CNT | exact r_DEV_CNT_LAST _ | exact r_DEV_EVT _ | exact r_WAKE_CAUSE | exact r_WAKE_CNT_2 | exact r_WKP_EVT _

theorem writes_Act_rxDrop  {P : Nat → Prop} : Writes (Act.rxDrop ) P := by
  unfold Act.rxDrop
  try dsimp only
  repeat' (with_reducible first | apply writes_Act_setLd | intro _ | dsimp only)

theorem writes_Act_received  {P : Nat → Prop} (r_IMG_XFER : P (IMG.XFER 0)) (r_slotReg : P (slotReg 2)) (r_IMG_ID : P (IMG.ID 0)) (r_IMG_DIGEST : P (IMG.DIGEST 0)) (r_RSTC_TIME_A : P (RSTC.TIME_A 0)) (r_IMG_STAT : P (IMG.STAT 0)) (r_RSTC_START : P (RSTC.START 0)) : Writes (Act.received ) P := by
  unfold Act.received
  try dsimp only
  repeat' (with_reducible first | exact r_IMG_XFER | exact r_slotReg | exact r_IMG_ID | exact r_IMG_DIGEST | exact r_RSTC_TIME_A | exact r_IMG_STAT | exact r_RSTC_START | apply writes_Act_setFld | apply writes_Act_slotReport | apply writes_Act_slotTaken | apply writes_Act_rxDrop | apply Writes.seq | apply Writes.get | apply Writes.ite | intro _ | split | dsimp only)
  all_goals first | exact r_IMG_XFER | exact r_slotReg | exact r_IMG_ID | exact r_IMG_DIGEST | exact r_RSTC_TIME_A | exact r_IMG_STAT | exact r_RSTC_START

theorem writes_netBootRequest  {P : Nat → Prop} : Writes (netBootRequest ) P := by
  unfold netBootRequest
  try dsimp only
  repeat' (with_reducible first | apply writes_Act_bootSend | apply writes_Act_setLd | apply Writes.seq | apply Writes.get | apply Writes.when | apply Writes.each | intro _ | dsimp only)

theorem writes_Act_askChunk  {P : Nat → Prop} : Writes (Act.askChunk ) P := by
  unfold Act.askChunk
  try dsimp only
  repeat' (with_reducible first | apply writes_Act_bootSend | apply writes_Act_setLd | apply Writes.seq | apply Writes.get | apply Writes.when | apply Writes.opt | intro _ | dsimp only)

theorem writes_Act_askChunks  {P : Nat → Prop} : Writes (Act.askChunks ) P := by
  unfold Act.askChunks
  try dsimp only
  repeat' (with_reducible first | apply writes_Act_askChunk | apply Writes.each | intro _ | dsimp only)

theorem writes_bootOffer  {P : Nat → Prop} (r_PLX_CNT : P (PLX.CNT 0 10)) (r_DEV_CNT_LAST : ∀ x0, P (DEV.CNT_LAST x0)) (r_DEV_EVT : ∀ x0, P (DEV.EVT x0)) : Writes (bootOffer ) P := by
  unfold bootOffer
  try dsimp only
  repeat' (with_reducible first | exact r_PLX_CNT | exact r_DEV_CNT_LAST _ | exact r_DEV_EVT _ | apply writes_Act_ezTake | apply writes_Act_setLd | apply writes_Act_askChunks | apply Writes.seq | apply Writes.get | apply Writes.when | intro _ | dsimp only)
  all_goals first | exact r_PLX_CNT | exact r_DEV_CNT_LAST _ | exact r_DEV_EVT _

theorem writes_chunkReceived  {P : Nat → Prop} (r_PLX_CNT : P (PLX.CNT 0 10)) (r_DEV_CNT_LAST : ∀ x0, P (DEV.CNT_LAST x0)) (r_DEV_EVT : ∀ x0, P (DEV.EVT x0)) : Writes (chunkReceived ) P := by
  unfold chunkReceived
  try dsimp only
  repeat' (with_reducible first | exact r_PLX_CNT | exact r_DEV_CNT_LAST _ | exact r_DEV_EVT _ | apply writes_Act_ezTake | apply writes_Act_setLd | apply writes_Act_askChunks | apply Writes.seq | apply Writes.get | apply Writes.when | apply Writes.opt | intro _ | dsimp only)
  all_goals first | exact r_PLX_CNT | exact r_DEV_CNT_LAST _ | exact r_DEV_EVT _

theorem writes_chunkTimeout {i : Nat} {P : Nat → Prop} : Writes (chunkTimeout i) P := by
  unfold chunkTimeout
  try dsimp only
  repeat' (with_reducible first | apply writes_Act_bootSend | apply writes_Act_setLd | apply writes_Act_rxDrop | apply Writes.seq | apply Writes.get | apply Writes.when | apply Writes.opt | apply Writes.ite | apply Writes.all_map | intro _ | split | dsimp only)

theorem writes_netImageReceived  {P : Nat → Prop} (r_IMG_XFER : P (IMG.XFER 0)) (r_slotReg : P (slotReg 2)) (r_IMG_ID : P (IMG.ID 0)) (r_IMG_DIGEST : P (IMG.DIGEST 0)) (r_RSTC_TIME_A : P (RSTC.TIME_A 0)) (r_IMG_STAT : P (IMG.STAT 0)) (r_RSTC_START : P (RSTC.START 0)) : Writes (netImageReceived ) P := by
  unfold netImageReceived
  try dsimp only
  repeat' (with_reducible first | exact r_IMG_XFER | exact r_slotReg | exact r_IMG_ID | exact r_IMG_DIGEST | exact r_RSTC_TIME_A | exact r_IMG_STAT | exact r_RSTC_START | apply writes_Act_received | apply Writes.get | apply Writes.when | apply Writes.opt | intro _ | dsimp only)
  all_goals first | exact r_IMG_XFER | exact r_slotReg | exact r_IMG_ID | exact r_IMG_DIGEST | exact r_RSTC_TIME_A | exact r_IMG_STAT | exact r_RSTC_START

theorem writes_imageBegin {n : Nat} {k : Code → Act} {P : Nat → Prop} (hk_k : ∀ x0, Writes (k x0) P) : Writes (imageBegin n k) P := by
  unfold imageBegin
  try dsimp only
  repeat' (with_reducible first | exact hk_k _ | apply writes_Act_setLd | apply writes_Act_rxDrop | apply Writes.all_cons | apply Writes.all_nil | apply Writes.get | apply Writes.ite | intro _ | split | dsimp only)

theorem writes_imageData {i : Nat} {l : List Word} {k : Code → Act} {P : Nat → Prop} (hk_k : ∀ x0, Writes (k x0) P) : Writes (imageData i l k) P := by
  unfold imageData
  try dsimp only
  repeat' (with_reducible first | exact hk_k _ | apply writes_Act_setLd | apply Writes.seq | apply Writes.get | apply Writes.ite | intro _ | split | dsimp only)

theorem writes_imageEnd {k : Code → Act} {P : Nat → Prop} (r_IMG_XFER : P (IMG.XFER 0)) (r_slotReg : P (slotReg 2)) (r_IMG_ID : P (IMG.ID 0)) (r_IMG_DIGEST : P (IMG.DIGEST 0)) (r_RSTC_TIME_A : P (RSTC.TIME_A 0)) (r_IMG_STAT : P (IMG.STAT 0)) (r_RSTC_START : P (RSTC.START 0)) (hk_k : ∀ x0, Writes (k x0) P) : Writes (imageEnd k) P := by
  unfold imageEnd
  try dsimp only
  repeat' (with_reducible first | exact r_IMG_XFER | exact r_slotReg | exact r_IMG_ID | exact r_IMG_DIGEST | exact r_RSTC_TIME_A | exact r_IMG_STAT | exact r_RSTC_START | exact hk_k _ | apply writes_Act_received | apply Writes.seq | apply Writes.get | apply Writes.ite | intro _ | split | dsimp only)
  all_goals first | exact r_IMG_XFER | exact r_slotReg | exact r_IMG_ID | exact r_IMG_DIGEST | exact r_RSTC_TIME_A | exact r_IMG_STAT | exact r_RSTC_START

/-! ## Eyepiece -/

theorem writes_Act_setPends {i : Nat} {l : List Pend} {P : Nat → Prop} : Writes (Act.setPends i l) P := by
  unfold Act.setPends
  try dsimp only
  repeat' (with_reducible first | apply Writes.upd | intro _ | dsimp only)

theorem writes_Act_openPend {i : Nat} {c : EyeCmd} {st : PendState} {P : Nat → Prop} : Writes (Act.openPend i c st) P := by
  unfold Act.openPend
  try dsimp only
  repeat' (with_reducible first | apply writes_Act_setPends | apply Writes.get | intro _ | dsimp only)

theorem writes_Act_collect {i : Nat} {c : EyeCmd} {k : Code → List Byte → Act} {start : Act} {P : Nat → Prop} (hk_k : ∀ x0 x1, Writes (k x0 x1) P) (hk_start : Writes (start) P) : Writes (Act.collect i c k start) P := by
  unfold Act.collect
  try dsimp only
  repeat' (with_reducible first | exact hk_k _ _ | exact hk_start | apply writes_Act_setPends | apply Writes.seq | apply Writes.get | intro _ | split | dsimp only)

theorem writes_Act_modPend {i n : Nat} {f : PendState → PendState} {P : Nat → Prop} : Writes (Act.modPend i n f) P := by
  unfold Act.modPend
  try dsimp only
  repeat' (with_reducible first | apply writes_Act_setPends | apply Writes.get | intro _ | dsimp only)

theorem writes_pendingEntryExpire {i n : Nat} {P : Nat → Prop} : Writes (pendingEntryExpire i n) P := by
  unfold pendingEntryExpire
  try dsimp only
  repeat' (with_reducible first | apply writes_Act_setPends | apply Writes.get | apply Writes.when | apply Writes.opt | apply Writes.skip | intro _ | split | dsimp only)

theorem writes_remoteTimeout {i n : Nat} {P : Nat → Prop} (r_EYE_EVT : P (EYE.EVT 0)) : Writes (remoteTimeout i n) P := by
  unfold remoteTimeout
  try dsimp only
  repeat' (with_reducible first | exact r_EYE_EVT | apply writes_Act_event | apply writes_Act_modPend | apply Writes.seq | apply Writes.get | apply Writes.when | apply Writes.opt | apply Writes.skip | intro _ | split | dsimp only)
  all_goals first | exact r_EYE_EVT

theorem writes_compatRefresh  {P : Nat → Prop} : Writes (compatRefresh ) P := by
  unfold compatRefresh
  try dsimp only
  repeat' (with_reducible first | apply Writes.upd | intro _ | dsimp only)

theorem writes_eyeFlash {path : Path} {c : EyeCmd} {k : Code → List Byte → Act} {P : Nat → Prop} (r_EYE_FLASH : P (EYE.FLASH 0)) (hk_k : ∀ x0 x1, Writes (k x0 x1) P) : Writes (eyeFlash path c k) P := by
  unfold eyeFlash
  try dsimp only
  repeat' (with_reducible first | exact r_EYE_FLASH | exact hk_k _ _ | apply writes_Act_setLd | apply writes_Act_openPend | apply Writes.setReg | apply Writes.all_cons | apply Writes.all_nil | apply Writes.seq | apply Writes.get | apply Writes.ite | intro _ | split | dsimp only)
  all_goals first | exact r_EYE_FLASH

theorem writes_Act_flashAnswer {code : Code} {data : List Byte} {P : Nat → Prop} : Writes (Act.flashAnswer code data) P := by
  unfold Act.flashAnswer
  try dsimp only
  repeat' (with_reducible first | apply writes_Act_setPends | apply Writes.get | apply Writes.each | apply Writes.ite | apply Writes.all_map | intro _ | split | dsimp only)

theorem writes_flashOpDone {good : Bool} {P : Nat → Prop} (r_EYE_FLASH : P (EYE.FLASH 0)) : Writes (flashOpDone good) P := by
  unfold flashOpDone
  try dsimp only
  repeat' (with_reducible first | exact r_EYE_FLASH | apply writes_Act_setFld | apply writes_Act_flashUndefined | apply writes_Act_flashProgram | apply writes_Act_flashErase | apply writes_Act_setLd | apply writes_Act_flashAnswer | apply Writes.seq | apply Writes.get | apply Writes.skip | apply Writes.ite | intro _ | split | dsimp only)
  all_goals first | exact r_EYE_FLASH

theorem writes_eyeRemote {path : Path} {c : EyeCmd} {k : Code → List Byte → Act} {P : Nat → Prop} (r_PLX_LAST : P (PLX.LAST 0)) (r_PLX_EVT : P (PLX.EVT 0)) (r_PLX_CNT : P (PLX.CNT 0 8)) (r_DEV_CNT_LAST : ∀ x0, P (DEV.CNT_LAST x0)) (r_DEV_EVT : ∀ x0, P (DEV.EVT x0)) (r_PLX_CNT_2 : P (PLX.CNT 0 7)) (r_KEYS_SLOT : ∀ x0, P (KEYS.SLOT 0 x0)) (r_KEYS_LAST : P (KEYS.LAST 0)) (r_KEYS_EVT : P (KEYS.EVT 0)) (r_KEYS_CNT : P (KEYS.CNT 0 6)) (hk_k : ∀ x0 x1, Writes (k x0 x1) P) : Writes (eyeRemote path c k) P := by
  unfold eyeRemote
  try dsimp only
  repeat' (with_reducible first | exact r_PLX_LAST | exact r_PLX_EVT | exact r_PLX_CNT | exact r_DEV_CNT_LAST _ | exact r_DEV_EVT _ | exact r_PLX_CNT_2 | exact r_KEYS_SLOT _ | exact r_KEYS_LAST | exact r_KEYS_EVT | exact r_KEYS_CNT | exact hk_k _ _ | apply writes_Act_ezRequest | apply writes_Act_openPend | apply Writes.seq | apply Writes.get | intro _ | split | dsimp only)
  all_goals first | exact r_PLX_LAST | exact r_PLX_EVT | exact r_PLX_CNT | exact r_DEV_CNT_LAST _ | exact r_DEV_EVT _ | exact r_PLX_CNT_2 | exact r_KEYS_SLOT _ | exact r_KEYS_LAST | exact r_KEYS_EVT | exact r_KEYS_CNT

theorem writes_badFrame {b : List Byte} {P : Nat → Prop} : Writes (badFrame b) P := by
  unfold badFrame
  try dsimp only
  repeat' (with_reducible first | apply writes_Act_emit | apply Writes.get | apply Writes.when | intro _ | dsimp only)

theorem writes_Act_eyeTag {dir : Nat} {b : List Byte} {k : Option (List Byte) → Act} {P : Nat → Prop} (r_KEYS_SLOT : ∀ x0, P (KEYS.SLOT 0 x0)) (r_KEYS_LAST : P (KEYS.LAST 0)) (r_KEYS_EVT : P (KEYS.EVT 0)) (r_KEYS_CNT : P (KEYS.CNT 0 6)) (r_DEV_CNT_LAST : ∀ x0, P (DEV.CNT_LAST x0)) (r_DEV_EVT : ∀ x0, P (DEV.EVT x0)) (hk_k : ∀ x0, Writes (k x0) P) : Writes (Act.eyeTag dir b k) P := by
  unfold Act.eyeTag
  try dsimp only
  repeat' (with_reducible first | exact r_KEYS_SLOT _ | exact r_KEYS_LAST | exact r_KEYS_EVT | exact r_KEYS_CNT | exact r_DEV_CNT_LAST _ | exact r_DEV_EVT _ | exact hk_k _ | apply writes_Act_useKey | apply Writes.get | apply Writes.ite | intro _ | split | dsimp only)
  all_goals first | exact r_KEYS_SLOT _ | exact r_KEYS_LAST | exact r_KEYS_EVT | exact r_KEYS_CNT | exact r_DEV_CNT_LAST _ | exact r_DEV_EVT _

theorem writes_Act_resetAfter {cls : Nat} {a : Act} {P : Nat → Prop} (hk_a : Writes (a) P) : Writes (Act.resetAfter cls a) P := by
  unfold Act.resetAfter
  try dsimp only
  repeat' (with_reducible first | exact hk_a | apply Writes.upd | apply Writes.seq | apply Writes.get | apply Writes.when | intro _ | dsimp only)

theorem writes_Act_eyeReplyFrame {g : Nat} {b : List Byte} {count : Nat} {recs : List Byte} {rst : Bool} {P : Nat → Prop} (r_KEYS_SLOT : ∀ x0, P (KEYS.SLOT 0 x0)) (r_KEYS_LAST : P (KEYS.LAST 0)) (r_KEYS_EVT : P (KEYS.EVT 0)) (r_KEYS_CNT : P (KEYS.CNT 0 6)) (r_DEV_CNT_LAST : ∀ x0, P (DEV.CNT_LAST x0)) (r_DEV_EVT : ∀ x0, P (DEV.EVT x0)) : Writes (Act.eyeReplyFrame g b count recs rst) P := by
  unfold Act.eyeReplyFrame
  try dsimp only
  repeat' (with_reducible first | exact r_KEYS_SLOT _ | exact r_KEYS_LAST | exact r_KEYS_EVT | exact r_KEYS_CNT | exact r_DEV_CNT_LAST _ | exact r_DEV_EVT _ | apply writes_Act_engineOut | apply writes_Act_eyeTag | apply writes_Act_resetAfter | apply Writes.get | apply Writes.opt | apply Writes.ite | intro _ | split | dsimp only)
  all_goals first | exact r_KEYS_SLOT _ | exact r_KEYS_LAST | exact r_KEYS_EVT | exact r_KEYS_CNT | exact r_DEV_CNT_LAST _ | exact r_DEV_EVT _

theorem writes_Act_eyeDrop  {P : Nat → Prop} (r_EYE_ETH_STAT : P (EYE.ETH_STAT 0)) (r_EYE_EVT : P (EYE.EVT 0)) : Writes (Act.eyeDrop ) P := by
  unfold Act.eyeDrop
  try dsimp only
  repeat' (with_reducible first | exact r_EYE_ETH_STAT | exact r_EYE_EVT | apply writes_Act_bumpFld | apply writes_Act_event | apply Writes.seq | intro _ | dsimp only)
  all_goals first | exact r_EYE_ETH_STAT | exact r_EYE_EVT

theorem writes_Act_authDrop {i : Nat} {P : Nat → Prop} (r_EYE_ETH_STAT : P (EYE.ETH_STAT 0)) (r_EYE_EVT : P (EYE.EVT 0)) : Writes (Act.authDrop i) P := by
  unfold Act.authDrop
  try dsimp only
  repeat' (with_reducible first | exact r_EYE_ETH_STAT | exact r_EYE_EVT | apply writes_Act_bumpFld | apply writes_Act_event | apply Writes.seq | intro _ | dsimp only)
  all_goals first | exact r_EYE_ETH_STAT | exact r_EYE_EVT

theorem writes_Act_eyeFresh {g : Nat} {b : List Byte} {l : List EyeCmd} {attn : Nat} {go : Act} {P : Nat → Prop} (r_EYE_LAST_SEQ : P (EYE.LAST_SEQ 0)) (r_EYE_EVT : P (EYE.EVT 0)) (r_KEYS_SLOT : ∀ x0, P (KEYS.SLOT 0 x0)) (r_KEYS_LAST : P (KEYS.LAST 0)) (r_KEYS_EVT : P (KEYS.EVT 0)) (r_KEYS_CNT : P (KEYS.CNT 0 6)) (r_DEV_CNT_LAST : ∀ x0, P (DEV.CNT_LAST x0)) (r_DEV_EVT : ∀ x0, P (DEV.EVT x0)) (r_EYE_ETH_STAT : P (EYE.ETH_STAT 0)) (hk_go : Writes (go) P) : Writes (Act.eyeFresh g b l attn go) P := by
  unfold Act.eyeFresh
  try dsimp only
  repeat' (with_reducible first | exact r_EYE_LAST_SEQ | exact r_EYE_EVT | exact r_KEYS_SLOT _ | exact r_KEYS_LAST | exact r_KEYS_EVT | exact r_KEYS_CNT | exact r_DEV_CNT_LAST _ | exact r_DEV_EVT _ | exact r_EYE_ETH_STAT | exact hk_go | apply writes_Act_event | apply writes_Act_eyeReplyFrame | apply writes_Act_authDrop | apply Writes.setReg | apply Writes.seq | apply Writes.get | apply Writes.ite | intro _ | split | dsimp only)
  all_goals first | exact r_EYE_LAST_SEQ | exact r_EYE_EVT | exact r_KEYS_SLOT _ | exact r_KEYS_LAST | exact r_KEYS_EVT | exact r_KEYS_CNT | exact r_DEV_CNT_LAST _ | exact r_DEV_EVT _ | exact r_EYE_ETH_STAT

theorem writes_ethArrive {p f : Nat} {b : List Byte} {errAt : Option Nat} {fault : Bool} {fixed lost : Nat} {P : Nat → Prop} (r_ETH_EVT : P (ETH.EVT p f)) (r_DEV_CNT_LAST : ∀ x0, P (DEV.CNT_LAST x0)) (r_DEV_EVT : ∀ x0, P (DEV.EVT x0)) (r_KEYS_SLOT : ∀ x0, P (KEYS.SLOT p x0)) (r_KEYS_LAST : P (KEYS.LAST p)) (r_KEYS_EVT : P (KEYS.EVT p)) (r_KEYS_CNT : P (KEYS.CNT p 6)) (r_MSEC_LAST : P (MSEC.LAST p)) (r_MSEC_EVT : P (MSEC.EVT p)) (r_MSEC_CNT : ∀ x0, P (MSEC.CNT p x0)) (r_CIPH_LAST : P (CIPH.LAST p)) (r_CIPH_EVT : P (CIPH.EVT p)) (r_CIPH_CNT : P (CIPH.CNT p 6)) (r_ETH_CNT : ∀ x0, P (ETH.CNT p f x0)) : Writes (ethArrive p f b errAt fault fixed lost) P := by
  unfold ethArrive
  try dsimp only
  repeat' (with_reducible first | exact r_ETH_EVT | exact r_DEV_CNT_LAST _ | exact r_DEV_EVT _ | exact r_KEYS_SLOT _ | exact r_KEYS_LAST | exact r_KEYS_EVT | exact r_KEYS_CNT | exact r_MSEC_LAST | exact r_MSEC_EVT | exact r_MSEC_CNT _ | exact r_CIPH_LAST | exact r_CIPH_EVT | exact r_CIPH_CNT | exact r_ETH_CNT _ | apply writes_ethReceive | apply Writes.get | intro _ | dsimp only)
  all_goals first | exact r_ETH_EVT | exact r_DEV_CNT_LAST _ | exact r_DEV_EVT _ | exact r_KEYS_SLOT _ | exact r_KEYS_LAST | exact r_KEYS_EVT | exact r_KEYS_CNT | exact r_MSEC_LAST | exact r_MSEC_EVT | exact r_MSEC_CNT _ | exact r_CIPH_LAST | exact r_CIPH_EVT | exact r_CIPH_CNT | exact r_ETH_CNT _

end Sys2Proof.Machine
end

