-- ==== Sys2Proof/Laws/Writes/Group11.lean ====
section
/-! SUPPORT. Which registers the operations of Bridge, Send, Sources, Scrub, Idle may write. -/

set_option linter.unusedTactic false
set_option linter.unreachableTactic false

namespace Sys2Proof.Machine

/-! ## Bridge -/

theorem writes_Act_winCount {p i : Nat} {P : Nat → Prop} (r_WBR_CNT : P (WBR.CNT p i)) (r_DEV_CNT_LAST : ∀ x0, P (DEV.CNT_LAST x0)) (r_DEV_EVT : ∀ x0, P (DEV.EVT x0)) : Writes (Act.winCount p i) P := by
  unfold Act.winCount
  try dsimp only
  repeat' (with_reducible first | exact r_WBR_CNT | exact r_DEV_CNT_LAST _ | exact r_DEV_EVT _ | apply writes_Act_count | intro _ | dsimp only)
  all_goals first | exact r_WBR_CNT | exact r_DEV_CNT_LAST _ | exact r_DEV_EVT _

theorem writes_Act_setLocks {f : List BlockLock → List BlockLock} {g : List WinLock → List WinLock} {P : Nat → Prop} : Writes (Act.setLocks f g) P := by
  unfold Act.setLocks
  try dsimp only
  repeat' (with_reducible first | apply Writes.upd | intro _ | dsimp only)

theorem writes_Act_postFail {p part win loc : Nat} {c : Code} {P : Nat → Prop} (r_WBR_POST_ERR_ADDR : P (WBR.POST_ERR_ADDR p)) (r_WBR_POST_ERR_INFO : P (WBR.POST_ERR_INFO p)) (r_WBR_EVT : P (WBR.EVT p)) (r_WBR_CNT : P (WBR.CNT p 3)) (r_DEV_CNT_LAST : ∀ x0, P (DEV.CNT_LAST x0)) (r_DEV_EVT : ∀ x0, P (DEV.EVT x0)) : Writes (Act.postFail p part win loc c) P := by
  unfold Act.postFail
  try dsimp only
  repeat' (with_reducible first | exact r_WBR_POST_ERR_ADDR | exact r_WBR_POST_ERR_INFO | exact r_WBR_EVT | exact r_WBR_CNT | exact r_DEV_CNT_LAST _ | exact r_DEV_EVT _ | apply writes_Act_setFld | apply writes_Act_event | apply writes_Act_irq | apply writes_Act_winCount | apply Writes.setReg | apply Writes.all_cons | apply Writes.all_nil | apply Writes.seq | apply Writes.get | apply Writes.ite | intro _ | split | dsimp only)
  all_goals first | exact r_WBR_POST_ERR_ADDR | exact r_WBR_POST_ERR_INFO | exact r_WBR_EVT | exact r_WBR_CNT | exact r_DEV_CNT_LAST _ | exact r_DEV_EVT _

theorem writes_Act_winAsk {p dev n k : Nat} {lock : Bool} {done : Option Nat → Act} {P : Nat → Prop} (r_PLX_LAST : P (PLX.LAST 0)) (r_PLX_EVT : P (PLX.EVT 0)) (r_PLX_CNT : P (PLX.CNT 0 8)) (r_DEV_CNT_LAST : ∀ x0, P (DEV.CNT_LAST x0)) (r_DEV_EVT : ∀ x0, P (DEV.EVT x0)) (r_PLX_CNT_2 : P (PLX.CNT 0 7)) (r_KEYS_SLOT : ∀ x0, P (KEYS.SLOT 0 x0)) (r_KEYS_LAST : P (KEYS.LAST 0)) (r_KEYS_EVT : P (KEYS.EVT 0)) (r_KEYS_CNT : P (KEYS.CNT 0 6)) (hk_done : ∀ x0, Writes (done x0) P) : Writes (Act.winAsk p dev n k lock done) P := by
  unfold Act.winAsk
  try dsimp only
  repeat' (with_reducible first | exact r_PLX_LAST | exact r_PLX_EVT | exact r_PLX_CNT | exact r_DEV_CNT_LAST _ | exact r_DEV_EVT _ | exact r_PLX_CNT_2 | exact r_KEYS_SLOT _ | exact r_KEYS_LAST | exact r_KEYS_EVT | exact r_KEYS_CNT | exact hk_done _ | apply writes_Act_ezRequest | apply Writes.get | apply Writes.ite | intro _ | split | dsimp only)
  all_goals first | exact r_PLX_LAST | exact r_PLX_EVT | exact r_PLX_CNT | exact r_DEV_CNT_LAST _ | exact r_DEV_EVT _ | exact r_PLX_CNT_2 | exact r_KEYS_SLOT _ | exact r_KEYS_LAST | exact r_KEYS_EVT | exact r_KEYS_CNT

theorem writes_Act_winOpen {p : Nat} {e : WinPend} {P : Nat → Prop} : Writes (Act.winOpen p e) P := by
  unfold Act.winOpen
  try dsimp only
  repeat' (with_reducible first | apply writes_Act_setWpend | apply Writes.get | intro _ | dsimp only)

theorem writes_Act_winDone {p i : Nat} {c : Code} {v : Word} {P : Nat → Prop} : Writes (Act.winDone p i c v) P := by
  unfold Act.winDone
  try dsimp only
  repeat' (with_reducible first | apply writes_Act_setWpend | apply writes_Act_offerMon | apply Writes.seq | apply Writes.get | apply Writes.opt | intro _ | dsimp only)

theorem writes_windowPendingExpire {p i : Nat} {P : Nat → Prop} : Writes (windowPendingExpire p i) P := by
  unfold windowPendingExpire
  try dsimp only
  repeat' (with_reducible first | apply writes_Act_setWpend | apply Writes.get | apply Writes.when | apply Writes.opt | apply Writes.skip | intro _ | split | dsimp only)

theorem writes_Act_postSend {p n : Nat} {P : Nat → Prop} (r_PLX_LAST : P (PLX.LAST 0)) (r_PLX_EVT : P (PLX.EVT 0)) (r_PLX_CNT : P (PLX.CNT 0 8)) (r_DEV_CNT_LAST : ∀ x0, P (DEV.CNT_LAST x0)) (r_DEV_EVT : ∀ x0, P (DEV.EVT x0)) (r_PLX_CNT_2 : P (PLX.CNT 0 7)) (r_KEYS_SLOT : ∀ x0, P (KEYS.SLOT 0 x0)) (r_KEYS_LAST : P (KEYS.LAST 0)) (r_KEYS_EVT : P (KEYS.EVT 0)) (r_KEYS_CNT : P (KEYS.CNT 0 6)) (r_WBR_POST_ERR_ADDR : ∀ x0, P (WBR.POST_ERR_ADDR x0)) (r_WBR_POST_ERR_INFO : ∀ x0, P (WBR.POST_ERR_INFO x0)) (r_WBR_EVT : ∀ x0, P (WBR.EVT x0)) (r_WBR_CNT : ∀ x0, P (WBR.CNT x0 3)) : Writes (Act.postSend p n) P := by
  unfold Act.postSend
  try dsimp only
  repeat' (with_reducible first | exact r_PLX_LAST | exact r_PLX_EVT | exact r_PLX_CNT | exact r_DEV_CNT_LAST _ | exact r_DEV_EVT _ | exact r_PLX_CNT_2 | exact r_KEYS_SLOT _ | exact r_KEYS_LAST | exact r_KEYS_EVT | exact r_KEYS_CNT | exact r_WBR_POST_ERR_ADDR _ | exact r_WBR_POST_ERR_INFO _ | exact r_WBR_EVT _ | exact r_WBR_CNT _ | apply writes_Act_setWpost | apply writes_Act_ezRequest | apply writes_Act_postFail | apply Writes.seq | apply Writes.get | apply Writes.when | apply Writes.opt | apply Writes.ite | intro _ | split | dsimp only)
  all_goals first | exact r_PLX_LAST | exact r_PLX_EVT | exact r_PLX_CNT | exact r_DEV_CNT_LAST _ | exact r_DEV_EVT _ | exact r_PLX_CNT_2 | exact r_KEYS_SLOT _ | exact r_KEYS_LAST | exact r_KEYS_EVT | exact r_KEYS_CNT | exact r_WBR_POST_ERR_ADDR _ | exact r_WBR_POST_ERR_INFO _ | exact r_WBR_EVT _ | exact r_WBR_CNT _

theorem writes_Act_winChecked {p part n a : Nat} {v : Word} {lock : Bool} {send : Word → Act} {P : Nat → Prop} (r_CPU_ALAST : ∀ x0, P (CPU.ALAST x0)) (r_CPU_EVT : ∀ x0, P (CPU.EVT x0)) (r_CPU_CNT : ∀ x0 x1, P (CPU.CNT x0 x1)) (r_DEV_CNT_LAST : ∀ x0, P (DEV.CNT_LAST x0)) (r_DEV_EVT : ∀ x0, P (DEV.EVT x0)) (r_CPU_PSTAT : ∀ x0 x1, P (CPU.PSTAT x0 x1)) (r_WAKE_REQ : ∀ x0 x1, P (WAKE.REQ x0 x1)) (r_BLK_ERR : ∀ x0 x1, P (BLK_ERR x0 x1)) (r_CHN_CMD : ∀ x0 x1, P (CHN.CMD x0 x1)) (r_CHN_CNT : ∀ x0 x1, P (CHN.CNT x0 x1 10)) (r_CHN_CNT_2 : ∀ x0 x1, P (CHN.CNT x0 x1 9)) (r_WAKE_EVT : P (WAKE.EVT 0)) (r_WAKE_CNT : P (WAKE.CNT 0 9)) (r_WAKE_CNT_2 : P (WAKE.CNT 0 11)) (r_DEV_DLINK_DROPS : ∀ x0 x1, P (DEV.DLINK_DROPS x0 x1)) (r_APR_CH : ∀ x0 x1, P (APR.CH x0 x1)) (hk_send : ∀ x0, Writes (send x0) P) : Writes (Act.winChecked p part n a v lock send) P := by
  unfold Act.winChecked
  try dsimp only
  repeat' (with_reducible first | exact r_CPU_ALAST _ | exact r_CPU_EVT _ | exact r_CPU_CNT _ _ | exact r_DEV_CNT_LAST _ | exact r_DEV_EVT _ | exact r_CPU_PSTAT _ _ | exact r_WAKE_REQ _ _ | exact r_BLK_ERR _ _ | exact r_CHN_CMD _ _ | exact r_CHN_CNT _ _ | exact r_CHN_CNT_2 _ _ | exact r_WAKE_EVT | exact r_WAKE_CNT | exact r_WAKE_CNT_2 | exact r_DEV_DLINK_DROPS _ _ | exact r_APR_CH _ _ | exact hk_send _ | apply writes_Act_aprBlock | apply writes_Act_aprLoad | apply Writes.get | apply Writes.when | apply Writes.opt | intro _ | split | dsimp only)
  all_goals first | exact r_CPU_ALAST _ | exact r_CPU_EVT _ | exact r_CPU_CNT _ _ | exact r_DEV_CNT_LAST _ | exact r_DEV_EVT _ | exact r_CPU_PSTAT _ _ | exact r_WAKE_REQ _ _ | exact r_BLK_ERR _ _ | exact r_CHN_CMD _ _ | exact r_CHN_CNT _ _ | exact r_CHN_CNT_2 _ _ | exact r_WAKE_EVT | exact r_WAKE_CNT | exact r_WAKE_CNT_2 | exact r_DEV_DLINK_DROPS _ _ | exact r_APR_CH _ _

theorem writes_windowStore {p c hart n k : Nat} {aligned lock : Bool} {v : Nat} {P : Nat → Prop} (r_WBR_CNT : P (WBR.CNT p 1)) (r_DEV_CNT_LAST : ∀ x0, P (DEV.CNT_LAST x0)) (r_DEV_EVT : ∀ x0, P (DEV.EVT x0)) (r_PLX_LAST : P (PLX.LAST 0)) (r_PLX_EVT : P (PLX.EVT 0)) (r_PLX_CNT : P (PLX.CNT 0 8)) (r_PLX_CNT_2 : P (PLX.CNT 0 7)) (r_KEYS_SLOT : ∀ x0, P (KEYS.SLOT 0 x0)) (r_KEYS_LAST : P (KEYS.LAST 0)) (r_KEYS_EVT : P (KEYS.EVT 0)) (r_KEYS_CNT : P (KEYS.CNT 0 6)) (r_WBR_POST_ERR_ADDR : ∀ x0, P (WBR.POST_ERR_ADDR x0)) (r_WBR_POST_ERR_INFO : ∀ x0, P (WBR.POST_ERR_INFO x0)) (r_WBR_EVT : ∀ x0, P (WBR.EVT x0)) (r_WBR_CNT_2 : ∀ x0, P (WBR.CNT x0 3)) (r_CPU_ALAST : ∀ x0, P (CPU.ALAST x0)) (r_CPU_EVT : ∀ x0, P (CPU.EVT x0)) (r_CPU_CNT : ∀ x0 x1, P (CPU.CNT x0 x1)) (r_CPU_PSTAT : ∀ x0 x1, P (CPU.PSTAT x0 x1)) (r_WAKE_REQ : ∀ x0 x1, P (WAKE.REQ x0 x1)) (r_BLK_ERR : ∀ x0 x1, P (BLK_ERR x0 x1)) (r_CHN_CMD : ∀ x0 x1, P (CHN.CMD x0 x1)) (r_CHN_CNT : ∀ x0 x1, P (CHN.CNT x0 x1 10)) (r_CHN_CNT_2 : ∀ x0 x1, P (CHN.CNT x0 x1 9)) (r_WAKE_EVT : P (WAKE.EVT 0)) (r_WAKE_CNT : P (WAKE.CNT 0 9)) (r_WAKE_CNT_2 : P (WAKE.CNT 0 11)) (r_DEV_DLINK_DROPS : ∀ x0 x1, P (DEV.DLINK_DROPS x0 x1)) (r_APR_CH : ∀ x0 x1, P (APR.CH x0 x1)) : Writes (windowStore p c hart n k aligned lock v) P := by
  unfold windowStore
  try dsimp only
  repeat' (with_reducible first | exact r_WBR_CNT | exact r_DEV_CNT_LAST _ | exact r_DEV_EVT _ | exact r_PLX_LAST | exact r_PLX_EVT | exact r_PLX_CNT | exact r_PLX_CNT_2 | exact r_KEYS_SLOT _ | exact r_KEYS_LAST | exact r_KEYS_EVT | exact r_KEYS_CNT | exact r_WBR_POST_ERR_ADDR _ | exact r_WBR_POST_ERR_INFO _ | exact r_WBR_EVT _ | exact r_WBR_CNT_2 _ | exact r_CPU_ALAST _ | exact r_CPU_EVT _ | exact r_CPU_CNT _ _ | exact r_CPU_PSTAT _ _ | exact r_WAKE_REQ _ _ | exact r_BLK_ERR _ _ | exact r_CHN_CMD _ _ | exact r_CHN_CNT _ _ | exact r_CHN_CNT_2 _ _ | exact r_WAKE_EVT | exact r_WAKE_CNT | exact r_WAKE_CNT_2 | exact r_DEV_DLINK_DROPS _ _ | exact r_APR_CH _ _ | apply writes_Act_setWpost | apply writes_Act_winCount | apply writes_Act_postFail | apply writes_Act_postSend | apply writes_Act_winChecked | apply Writes.all_cons | apply Writes.all_nil | apply Writes.get | apply Writes.opt | apply Writes.ite | intro _ | split | dsimp only)
  all_goals first | exact r_WBR_CNT | exact r_DEV_CNT_LAST _ | exact r_DEV_EVT _ | exact r_PLX_LAST | exact r_PLX_EVT | exact r_PLX_CNT | exact r_PLX_CNT_2 | exact r_KEYS_SLOT _ | exact r_KEYS_LAST | exact r_KEYS_EVT | exact r_KEYS_CNT | exact r_WBR_POST_ERR_ADDR _ | exact r_WBR_POST_ERR_INFO _ | exact r_WBR_EVT _ | exact r_WBR_CNT_2 _ | exact r_CPU_ALAST _ | exact r_CPU_EVT _ | exact r_CPU_CNT _ _ | exact r_CPU_PSTAT _ _ | exact r_WAKE_REQ _ _ | exact r_BLK_ERR _ _ | exact r_CHN_CMD _ _ | exact r_CHN_CNT _ _ | exact r_CHN_CNT_2 _ _ | exact r_WAKE_EVT | exact r_WAKE_CNT | exact r_WAKE_CNT_2 | exact r_DEV_DLINK_DROPS _ _ | exact r_APR_CH _ _

theorem writes_Act_winRelease {p n : Nat} {P : Nat → Prop} : Writes (Act.winRelease p n) P := by
  unfold Act.winRelease
  try dsimp only
  repeat' (with_reducible first | apply writes_Act_setLocks | intro _ | dsimp only)

theorem writes_windowLockExpire {p n : Nat} {other : Bool} {P : Nat → Prop} (r_WBR_EVT : P (WBR.EVT p)) : Writes (windowLockExpire p n other) P := by
  unfold windowLockExpire
  try dsimp only
  repeat' (with_reducible first | exact r_WBR_EVT | apply writes_Act_event | apply writes_Act_setLocks | apply writes_Act_winRelease | apply Writes.seq | apply Writes.get | apply Writes.when | apply Writes.opt | apply Writes.ite | intro _ | split | dsimp only)
  all_goals first | exact r_WBR_EVT

theorem writes_Act_replyPend {dev t : Nat} {c : Code} {data : List Byte} {P : Nat → Prop} : Writes (Act.replyPend dev t c data) P := by
  unfold Act.replyPend
  try dsimp only
  repeat' (with_reducible first | apply writes_Act_setPends | apply Writes.get | apply Writes.each | apply Writes.ite | apply Writes.all_map | intro _ | split | dsimp only)

theorem writes_Act_replyWindow {p dev t : Nat} {c : Code} {v : Word} {P : Nat → Prop} (r_WBR_CNT : P (WBR.CNT p 5)) (r_DEV_CNT_LAST : ∀ x0, P (DEV.CNT_LAST x0)) (r_DEV_EVT : ∀ x0, P (DEV.EVT x0)) (r_PLX_LAST : P (PLX.LAST 0)) (r_PLX_EVT : P (PLX.EVT 0)) (r_PLX_CNT : P (PLX.CNT 0 8)) (r_PLX_CNT_2 : P (PLX.CNT 0 7)) (r_KEYS_SLOT : ∀ x0, P (KEYS.SLOT 0 x0)) (r_KEYS_LAST : P (KEYS.LAST 0)) (r_KEYS_EVT : P (KEYS.EVT 0)) (r_KEYS_CNT : P (KEYS.CNT 0 6)) (r_WBR_POST_ERR_ADDR : ∀ x0, P (WBR.POST_ERR_ADDR x0)) (r_WBR_POST_ERR_INFO : ∀ x0, P (WBR.POST_ERR_INFO x0)) (r_WBR_EVT : ∀ x0, P (WBR.EVT x0)) (r_WBR_CNT_2 : ∀ x0, P (WBR.CNT x0 3)) : Writes (Act.replyWindow p dev t c v) P := by
  unfold Act.replyWindow
  try dsimp only
  repeat' (with_reducible first | exact r_WBR_CNT | exact r_DEV_CNT_LAST _ | exact r_DEV_EVT _ | exact r_PLX_LAST | exact r_PLX_EVT | exact r_PLX_CNT | exact r_PLX_CNT_2 | exact r_KEYS_SLOT _ | exact r_KEYS_LAST | exact r_KEYS_EVT | exact r_KEYS_CNT | exact r_WBR_POST_ERR_ADDR _ | exact r_WBR_POST_ERR_INFO _ | exact r_WBR_EVT _ | exact r_WBR_CNT_2 _ | apply writes_Act_setWpost | apply writes_Act_winCount | apply writes_Act_setLocks | apply writes_Act_postFail | apply writes_Act_winDone | apply writes_Act_postSend | apply writes_Act_winRelease | apply Writes.all_cons | apply Writes.all_nil | apply Writes.seq | apply Writes.get | apply Writes.when | apply Writes.opt | intro _ | dsimp only)
  all_goals first | exact r_WBR_CNT | exact r_DEV_CNT_LAST _ | exact r_DEV_EVT _ | exact r_PLX_LAST | exact r_PLX_EVT | exact r_PLX_CNT | exact r_PLX_CNT_2 | exact r_KEYS_SLOT _ | exact r_KEYS_LAST | exact r_KEYS_EVT | exact r_KEYS_CNT | exact r_WBR_POST_ERR_ADDR _ | exact r_WBR_POST_ERR_INFO _ | exact r_WBR_EVT _ | exact r_WBR_CNT_2 _

theorem writes_replyReceived {past : Bool} {P : Nat → Prop} (r_PLX_LAST : P (PLX.LAST 0)) (r_PLX_EVT : P (PLX.EVT 0)) (r_KEYS_SLOT : ∀ x0, P (KEYS.SLOT 0 x0)) (r_KEYS_LAST : P (KEYS.LAST 0)) (r_KEYS_EVT : P (KEYS.EVT 0)) (r_KEYS_CNT : P (KEYS.CNT 0 6)) (r_DEV_CNT_LAST : ∀ x0, P (DEV.CNT_LAST x0)) (r_DEV_EVT : ∀ x0, P (DEV.EVT x0)) (r_PLX_CNT : ∀ x0, P (PLX.CNT 0 x0)) (r_WBR_CNT : ∀ x0, P (WBR.CNT x0 5)) (r_WBR_POST_ERR_ADDR : ∀ x0, P (WBR.POST_ERR_ADDR x0)) (r_WBR_POST_ERR_INFO : ∀ x0, P (WBR.POST_ERR_INFO x0)) (r_WBR_EVT : ∀ x0, P (WBR.EVT x0)) (r_WBR_CNT_2 : ∀ x0, P (WBR.CNT x0 3)) : Writes (replyReceived past) P := by
  unfold replyReceived
  try dsimp only
  repeat' (with_reducible first | exact r_PLX_LAST | exact r_PLX_EVT | exact r_KEYS_SLOT _ | exact r_KEYS_LAST | exact r_KEYS_EVT | exact r_KEYS_CNT | exact r_DEV_CNT_LAST _ | exact r_DEV_EVT _ | exact r_PLX_CNT _ | exact r_WBR_CNT _ | exact r_WBR_POST_ERR_ADDR _ | exact r_WBR_POST_ERR_INFO _ | exact r_WBR_EVT _ | exact r_WBR_CNT_2 _ | apply writes_Act_ezCommand | apply writes_Act_replyPend | apply writes_Act_replyWindow | apply Writes.seq | apply Writes.get | apply Writes.each | apply Writes.opt | intro _ | dsimp only)
  all_goals first | exact r_PLX_LAST | exact r_PLX_EVT | exact r_KEYS_SLOT _ | exact r_KEYS_LAST | exact r_KEYS_EVT | exact r_KEYS_CNT | exact r_DEV_CNT_LAST _ | exact r_DEV_EVT _ | exact r_PLX_CNT _ | exact r_WBR_CNT _ | exact r_WBR_POST_ERR_ADDR _ | exact r_WBR_POST_ERR_INFO _ | exact r_WBR_EVT _ | exact r_WBR_CNT_2 _

/-! ## Send -/

theorem writes_Act_hartMem {w : Sender} {l : List (Nat × Nat)} {P : Nat → Prop} (r_CPU_CNT : ∀ x0 x1, P (CPU.CNT x0 x1)) (r_DEV_CNT_LAST : ∀ x0, P (DEV.CNT_LAST x0)) (r_DEV_EVT : ∀ x0, P (DEV.EVT x0)) : Writes (Act.hartMem w l) P := by
  unfold Act.hartMem
  try dsimp only
  repeat' (with_reducible first | exact r_CPU_CNT _ _ | exact r_DEV_CNT_LAST _ | exact r_DEV_EVT _ | apply writes_Act_memWrite | apply writes_Act_cpuCount | apply Writes.get | apply Writes.each | apply Writes.opt | apply Writes.skip | apply Writes.ite | intro _ | split | dsimp only)
  all_goals first | exact r_CPU_CNT _ _ | exact r_DEV_CNT_LAST _ | exact r_DEV_EVT _

theorem writes_spiAborted {_bytes : List Byte} {P : Nat → Prop} : Writes (spiAborted _bytes) P := by
  unfold spiAborted
  try dsimp only
  repeat' (with_reducible first | apply Writes.skip | intro _ | dsimp only)

/-! ## Sources -/

theorem writes_loupeSample {p m : Nat} {v : Word} {taken : Bool} {P : Nat → Prop} (r_LOUPE_LAST : P (LOUPE.LAST p)) (r_LOUPE_EVT : P (LOUPE.EVT p)) : Writes (loupeSample p m v taken) P := by
  unfold loupeSample
  try dsimp only
  repeat' (with_reducible first | exact r_LOUPE_LAST | exact r_LOUPE_EVT | apply writes_Act_sample | apply Writes.upd | apply Writes.seq | apply Writes.get | apply Writes.opt | apply Writes.ite | intro _ | split | dsimp only)
  all_goals first | exact r_LOUPE_LAST | exact r_LOUPE_EVT

/-! ## Scrub -/

theorem writes_Act_eccInvalid {p t i : Nat} {P : Nat → Prop} : Writes (Act.eccInvalid p t i) P := by
  unfold Act.eccInvalid
  try dsimp only
  repeat' (with_reducible first | apply writes_Act_modSig | apply writes_Act_setTblWords | apply writes_Act_dropRoute | apply Writes.dropTbls | apply Writes.get | apply Writes.opt | apply Writes.ite | intro _ | split | dsimp only)

theorem writes_Act_eccEvent {p t i : Nat} {P : Nat → Prop} (r_CPU_ALAST : P (CPU.ALAST p)) (r_SGW_LAST : P (SGW.LAST p)) (r_CLS_EVT : P (CLS.EVT p)) (r_LPM_EVT : P (LPM.EVT p)) (r_PSFP_EVT : P (PSFP.EVT p)) (r_CPU_EVT : P (CPU.EVT p)) (r_SGW_EVT : P (SGW.EVT p)) : Writes (Act.eccEvent p t i) P := by
  unfold Act.eccEvent
  try dsimp only
  repeat' (with_reducible first | exact r_CPU_ALAST | exact r_SGW_LAST | exact r_CLS_EVT | exact r_LPM_EVT | exact r_PSFP_EVT | exact r_CPU_EVT | exact r_SGW_EVT | apply writes_Act_setFld | apply writes_Act_setFlds | apply writes_Act_event | apply writes_Act_sgwEvent | apply Writes.seq | apply Writes.ite | intro _ | split | dsimp only)
  all_goals first | exact r_CPU_ALAST | exact r_SGW_LAST | exact r_CLS_EVT | exact r_LPM_EVT | exact r_PSFP_EVT | exact r_CPU_EVT | exact r_SGW_EVT

/-! ## Idle -/

theorem writes_Act_rollRate {p : Nat} {P : Nat → Prop} : Writes (Act.rollRate p) P := by
  unfold Act.rollRate
  try dsimp only
  repeat' (with_reducible first | apply writes_Act_modRate | intro _ | dsimp only)

theorem writes_Act_measureVcore {p : Nat} {P : Nat → Prop} : Writes (Act.measureVcore p) P := by
  unfold Act.measureVcore
  try dsimp only
  repeat' (with_reducible first | apply writes_Act_freeBelow | apply writes_Act_setPsup | intro _ | dsimp only)

theorem writes_idle  {P : Nat → Prop} : Writes (idle ) P := by
  unfold idle
  try dsimp only
  repeat' (with_reducible first | apply writes_Act_rollTallies | apply writes_Act_passEdge | apply writes_Act_cadencesSettle | apply writes_Act_rollRate | apply writes_Act_measureVcore | apply Writes.upd | apply Writes.all_cons | apply Writes.all_nil | apply Writes.seq | apply Writes.get | apply Writes.when | apply Writes.each | intro _ | dsimp only)

end Sys2Proof.Machine
end

