-- ==== Sys2Proof/Laws/Reset.lean ====
section
/-! SUPPORT. What a package reset leaves, and that its source's bit stays in the reset record. -/

namespace Sys2Proof.Machine

/-- The registers that a package reset may leave at other than their reset value: those of the drive dies, the reset record, and
those that step 6 or the opening of the channels writes. -/
def afterReset (a : Nat) : Prop :=
  4 ≤ aDie a ∨
    a ∈ [RSTC.CAUSE 0, RSTC.DETAIL 0, RSTC.STRAP 0, WAKE.CAUSE 0, KEYS.EVT 0, WAKE.EVT 0, WAKE.CNT 0 9, WAKE.CNT 0 11, PAIR.EVT 0] ∨
    (∃ p, a = DEV.EVT p ∨ a = DEV.CNT_LAST p) ∨ ∃ p f, a = ETH.TS p f ∨ a = CAN.TDC p f

/-- Resetting registers writes those it does not keep. -/
theorem Writes.resetRegs {q : Nat → Bool} {P : Nat → Prop} (h : ∀ a, q a = false → P a) : Writes (Act.resetRegs q) P := by
  constructor
  intro s a ha
  show Sparse.get regReset (Sparse.keep q s.regs) a = Sparse.get regReset s.regs a
  rw [Sparse.get_keep]
  have : q a = true := by
    cases hq : q a with
    | true => rfl
    | false => exact absurd (h a hq) ha
  rw [if_pos this]

/-- What an island's end may write: the registers of its drive die. -/
theorem writes_islandOff {d : Nat} {P : Nat → Prop} (h : ∀ a, aDie a = 4 + d → P a) : Writes (Act.islandOff d) P := by
  unfold Act.islandOff
  refine Writes.all_cons (Writes.resetRegs fun a ha => ?_) ?_
  · simp only [Bool.or_eq_false_iff, bne_eq_false_iff_eq] at ha
    exact h a ha.1
  · repeat' (with_reducible first | apply writes_Act_setChan | apply writes_Act_modDrv | apply writes_Act_setSup | apply Writes.upd | apply Writes.all_cons | apply Writes.all_nil | apply Writes.each | intro _)

/-- What the drive dies' reset may write. -/
theorem writes_drivesReset {cold : Bool} : Writes (Act.drivesReset cold) afterReset := by
  have hc : ∀ d c, afterReset (CHN.CMD d c) := fun d c => Or.inl (by unfold CHN.CMD aDie ra; omega)
  unfold Act.drivesReset
  refine Writes.get fun s => Writes.each fun d => Writes.ite ?_ ?_
  · exact writes_islandOff fun a ha => Or.inl (by omega)
  · refine Writes.when (Writes.seq (Writes.each fun c => writes_Act_chanWarm (hc d c)) ?_)
    apply writes_Act_chSettleAll <;> first
      | exact Or.inr (Or.inl (by simp))
      | exact fun p => Or.inr (Or.inr (Or.inl ⟨p, Or.inl rfl⟩))
      | exact fun p => Or.inr (Or.inr (Or.inl ⟨p, Or.inr rfl⟩))

/-- What the start's going on may write. -/
theorem writes_resume : Writes Act.resume afterReset := by
  apply writes_Act_resume <;> first
    | exact Or.inr (Or.inl (by simp))
    | exact fun p f => Or.inr (Or.inr (Or.inr ⟨p, f, Or.inl rfl⟩))
    | exact fun p f => Or.inr (Or.inr (Or.inr ⟨p, f, Or.inr rfl⟩))

/-- A register that nothing after a reset writes is at its reset value. -/
theorem resetAll_reg (cold : Bool) (s : State) (a : Nat) (ha : ¬ afterReset a) : ((Act.resetAll cold).run s).reg a = regReset a := by
  unfold Act.resetAll
  simp only [Act.all_cons, Act.all_nil]
  rw [writes_drivesReset.same _ a ha]
  show Sparse.get regReset (Sparse.keep (keptReg cold) _) a = _
  rw [Sparse.get_keep]
  have : keptReg cold a = false := by
    simp only [afterReset, not_or, List.mem_cons, not_exists] at ha
    unfold keptReg
    rw [if_pos (by omega)]
    simp [ha.2.1.1, ha.2.1.2.1]
  rw [this]
  rfl

/-- The bit of a source in the reset record, where a reset has recorded it. -/
theorem recordReset_bit (b : Nat) (hb : b < 9) (l : List (Fld × Nat)) (s : State) :
    bit (((Act.recordReset b l).run s).reg (RSTC.CAUSE 0)) b = true := by
  have hm : bit (regMask (RSTC.CAUSE 0)) b = true := by
    have h : ∀ b < 9, bit (regMask (RSTC.CAUSE 0)) b = true := by decide +kernel
    exact h b hb
  have hne : RSTC.CAUSE 0 ≠ RSTC.DETAIL 0 := by decide
  have keep : ∀ (q : State) (f : Fld) (n : Nat), 9 ≤ f.lo → bit (q.reg (RSTC.CAUSE 0)) b = true →
      bit (((Act.setFld (RSTC.CAUSE 0) f n).run q).reg (RSTC.CAUSE 0)) b = true := by
    intro q f n hf hq
    rw [Act.setFld, Act.get_run, Act.setReg_run, State.reg_storeReg, if_pos rfl, bit_and, bit_fset _ _ _ _ (by omega), if_neg (by omega), hq, hm]
    rfl
  have other : ∀ (q : State) (A : Act), Writes A (fun a => a ≠ RSTC.CAUSE 0) →
      bit (q.reg (RSTC.CAUSE 0)) b = true → bit ((A.run q).reg (RSTC.CAUSE 0)) b = true := by
    intro q A hA hq
    rw [hA.same q _ (by simp)]
    exact hq
  unfold Act.recordReset
  simp only [Act.get_run, Act.all_cons, Act.all_nil]
  refine other _ _ (writes_Act_setStart) (other _ _ (writes_Act_setFlds hne.symm) (other _ _ (Writes.when (Writes.setReg hne.symm)) (keep _ _ _ (by decide) ?_)))
  split
  · rw [Act.seq_run]
    refine other _ _ writes_Act_noteEvt ?_
    rw [Act.setReg_run, State.reg_storeReg, if_pos rfl, bit_and, bit_setBit, hm]
    simp
    omega
  · simp only [Act.seq_run, Act.bumpFld, Act.get_run, Act.event, Act.all_cons, Act.all_nil]
    refine keep _ _ _ (by decide) (other _ _ writes_Act_noteEvt (other _ _ writes_Act_noteEvt ?_))
    rw [Act.setReg_run, State.reg_storeReg, if_pos rfl, bit_and, bit_fset _ _ _ _ (by omega), if_neg (by simp [scSeq]; omega), bit_setBit, hm]
    simp
    omega

/-- The reset record is kept, and a package reset writes it only where it records its source. -/
theorem packageReset_cause (cold : Bool) (b : Nat) (l : List (Fld × Nat)) (s : State) :
    ((Act.packageReset cold b l).run s).reg (RSTC.CAUSE 0) = ((Act.recordReset b l).run s).reg (RSTC.CAUSE 0) := by
  have hd : ∀ cold, Writes (Act.drivesReset cold) (fun a => a ≠ RSTC.CAUSE 0) := by
    intro cold
    have hc : ∀ d c, CHN.CMD d c ≠ RSTC.CAUSE 0 := fun d c => by simp [CHN.CMD, RSTC.CAUSE, ra]; omega
    unfold Act.drivesReset
    refine Writes.get fun s => Writes.each fun d => Writes.ite ?_ ?_
    · refine writes_islandOff fun a ha h => ?_
      rw [h] at ha
      have : aDie (RSTC.CAUSE 0) = 0 := by decide
      omega
    · refine Writes.when (Writes.seq (Writes.each fun c => writes_Act_chanWarm (hc d c)) ?_)
      apply writes_Act_chSettleAll <;> first
        | decide
        | (intro p; simp [DEV.EVT, DEV.CNT_LAST, RSTC.CAUSE, ra]; omega)
  have hr : Writes Act.resume (fun a => a ≠ RSTC.CAUSE 0) := by
    apply writes_Act_resume <;> first
      | decide
      | (intro p f; simp [ETH.TS, CAN.TDC, RSTC.CAUSE, ra]; omega)
  unfold Act.packageReset Act.resetAll
  simp only [Act.all_cons, Act.all_nil]
  rw [hr.same _ _ (by simp), (writes_Act_updIo (P := fun a => a ≠ RSTC.CAUSE 0)).same _ _ (by simp), (hd cold).same _ _ (by simp)]
  show Sparse.get regReset (Sparse.keep (keptReg cold) _) _ = _
  rw [Sparse.get_keep]
  have : keptReg cold (RSTC.CAUSE 0) = true := by cases cold <;> decide
  rw [if_pos this]
  exact (writes_Act_flashCut (P := fun a => a ≠ RSTC.CAUSE 0)).same _ _ (by simp)

/-- The loader and the data plane while step 6 runs: as the reset left them, but for the record of the dies whose FAB is disabled. -/
def InStepSix (s : State) : Prop := s.ld = {} ∧ s.sw = { fabOffs := s.sw.fabOffs } ∧ s.start.step = 7

/-- What touches neither the loader, the data plane nor the start keeps them. -/
theorem InStepSix.kept {a : Act} {S : List Part} {s : State} (hs : InStepSix s) (h : Touches a S)
    (hS : Part.ld ∉ S ∧ Part.sw ∉ S ∧ Part.start ∉ S) : InStepSix (a.run s) := by
  obtain ⟨h1, h2, h3⟩ := hs
  have e1 : (a.run s).ld = s.ld := h.same s .ld hS.1
  have e2 : (a.run s).sw = s.sw := h.same s .sw hS.2.1
  have e3 : (a.run s).start = s.start := h.same s .start hS.2.2
  exact ⟨e1.trans h1, by rw [e2]; exact h2, by rw [e3]; exact h3⟩

/-- The record of the dies whose FAB is disabled. -/
theorem InStepSix.fabOffs {s : State} (hs : InStepSix s) (l : List Nat) (n : Nat) :
    InStepSix ((Act.each l fun p => Act.setFabOff p n).run s) := by
  induction l generalizing s with
  | nil => exact hs
  | cons p l ih =>
    rw [Act.each_cons]
    refine ih ⟨hs.1, ?_, hs.2.2⟩
    show ({ s.sw with fabOffs := _ } : Switch) = { fabOffs := Sparse.put fabOffBlank p n s.sw.fabOffs }
    rw [hs.2.1]

/-- The loader stands before the headers, or at them where step 8 has begun; nothing of the data plane has begun. -/
def Resumed (s : State) : Prop :=
  s.ld = { st := if s.start.step = 8 then .headers else .before } ∧ s.sw = { fabOffs := s.sw.fabOffs }

/-- What step 6 has left is resumed. -/
theorem InStepSix.resumed {s : State} (h : InStepSix s) : Resumed s := by
  obtain ⟨b1, b2, b3⟩ := h
  exact ⟨by rw [b3, b1]; rfl, b2⟩

/-- Step 8 after it is resumed. -/
theorem InStepSix.stepEight {s : State} (h : InStepSix s) : Resumed (Act.stepEight.run s) := by
  have hk : Touches (Act.each s.prismDies fun p => Act.freeBytes 32 fun m => Act.modKstore p fun k =>
      { k with rootOk := !s.fuse.sharesGone, rootMask := if s.fuse.sharesGone then [] else nats m, passAt := s.edges })
      [.sec, .freeCount] :=
    Touches.each fun p => touches_Act_freeBytes (by decide) fun m => touches_Act_modKstore (by decide)
  unfold Act.stepEight
  simp only [Act.get_run, Act.all_cons, Act.all_nil]
  have g := hk.same ((Act.upd fun s => { s with ld := { s.ld with st := .headers } }).run
    ((Act.setStart fun u => { u with step := 8 }).run s))
  have g1 : (_ : State).start = _ := g .start (by decide)
  have g2 : (_ : State).ld = _ := g .ld (by decide)
  have g3 : (_ : State).sw = _ := g .sw (by decide)
  refine ⟨?_, ?_⟩
  · rw [g1, g2]
    show ({ s.ld with st := _ } : LoaderState) = _
    rw [h.1]
    rfl
  · rw [g3]
    exact h.2.1

/-- Where the start goes on, nothing of the data plane has begun, and the loader has read nothing. -/
theorem resume_leaves (s : State) (h1 : s.ld = {}) (h2 : s.sw = {}) (h3 : s.start.step = 0) : Resumed (Act.resume.run s) := by
  unfold Act.resume
  rw [Act.get_run, Act.when_run]
  split
  · unfold Act.stepSix
    simp only [Act.get_run, Act.all_cons, Act.all_nil]
    have a0 : InStepSix ((Act.setStart fun u => { u with step := 7, heartbeat := true }).run s) :=
      ⟨h1, by show s.sw = { fabOffs := s.sw.fabOffs }; rw [h2], rfl⟩
    have a1 := a0.kept (touches_Act_setFlds (a := RSTC.STRAP 0)
      (l := [(RSTC.STRAP.BOOT, s.clk.bootPins), (RSTC.STRAP.CLKMODE, s.clk.clkPins)]) (S := [.regs, .upsets]) (by decide)) (by decide)
    have a2 := a1.fabOffs s.prismDies s.edges
    have a3 := a2.kept (a := Act.each s.driveDies fun d =>
      Act.when ((s.supply d).chanOn = true) (Act.modDrv d fun v => { v with hbTimer := v.hbTimer.orElse fun _ => some s.edges })) (S := [.io])
      (Touches.each fun d => Touches.when (touches_Act_modDrv (by decide))) (by decide)
    have a4 := a3.kept (touches_Act_fuseTrims (S := [.regs, .upsets]) (by decide)) (by decide)
    have a5 := a4.kept (touches_Act_lidSample (S := [.regs, .evtNo, .upsets, .sec]) (by decide)) (by decide)
    have a6 := a5.kept (a := Act.when (s.io.wakeUp = true)
        (Act.seq
          (Act.setReg (WAKE.CAUSE 0) (word [(WAKE.CAUSE.SRC, fget (s.reg (WKP.CAUSE 0)) WKP.CAUSE.SRC),
            (WAKE.CAUSE.DIE, fget (s.reg (WKP.CAUSE 0)) WKP.CAUSE.DIE),
            (WAKE.CAUSE.PKG_WAKE, 1), (WAKE.CAUSE.SLEEP_S, sat (2 ^ 23 - 1) ((s.edges - s.io.offAt) / 32768))]))
          (Act.updIo fun m => { m with wakeUp := false }))) (S := [.regs, .upsets, .io])
      (Touches.when (Touches.seq (Touches.setReg _ (by decide)) (touches_Act_updIo (by decide)))) (by decide)
    rw [Act.when_run]
    split
    · rw [Act.seq_run]
      exact (a6.kept (touches_Act_internalOnly (reason := s.clk.clkPins - 1) (S := [.regs, .upsets, .clk]) (by decide)) (by decide)).stepEight
    · exact a6.resumed
  · exact ⟨by rw [h3, h1]; rfl, by rw [h2]⟩

/-- What a package reset leaves (R84). -/
theorem packageReset_leaves (cold : Bool) (b : Nat) (hb : b < 9) (l : List (Fld × Nat)) (s : State) :
    ResetBy b ((Act.packageReset cold b l).run s) := by
  refine ⟨by rw [packageReset_cause]; exact recordReset_bit b hb l s, ?_⟩
  have hT : ∀ q : State, ∀ p ∉ [Part.regs, .evtNo, .upsets, .start, .clk, .ld, .sw, .sec, .io, .irqs, .sup, .freeCount],
      Part.Same p q (Act.resume.run ((Act.updIo fun m =>
        { m with stage := if m.stage = .asleep ∧ !cold then .asleep else .awake }).run ((Act.drivesReset cold).run q))) := by
    intro q p hp
    exact ((touches_Act_drivesReset (by decide)).same q p hp).trans
      (((touches_Act_updIo (by decide)).same _ p hp).trans ((touches_Act_resume (by decide)).same _ p hp))
  have hR : ∀ q : State, q.ld = {} → q.sw = {} → q.start.step = 0 →
      Resumed (Act.resume.run ((Act.updIo fun m =>
        { m with stage := if m.stage = .asleep ∧ !cold then .asleep else .awake }).run ((Act.drivesReset cold).run q))) := by
    intro q h1 h2 h3
    have hd : Touches (Act.drivesReset cold) [.regs, .evtNo, .upsets, .irqs, .sup, .io] := touches_Act_drivesReset (by decide)
    have e1 : ((Act.drivesReset cold).run q).ld = q.ld := hd.same q .ld (by decide)
    have e2 : ((Act.drivesReset cold).run q).sw = q.sw := hd.same q .sw (by decide)
    have e3 : ((Act.drivesReset cold).run q).start = q.start := hd.same q .start (by decide)
    refine resume_leaves _ ?_ ?_ ?_
    · exact e1.trans h1
    · exact e2.trans h2
    · exact (congrArg Start.step e3).trans h3
  unfold Act.packageReset Act.resetAll
  simp only [Act.all_cons, Act.all_nil]
  refine { tbls := ?_, mem := ?_, lockedRegs := ?_, mismatches := ?_, posted := ?_, compat := ?_, pends := ?_, eyeReset := ?_, ld := ?_, sw := ?_, gw := ?_, mon := ?_, plx := ?_, cpu := ?_, regs := ?_ }
  · refine Eq.trans (show _ = _ from hT _ .tbls (by decide)) ?_
    show Sparse.keep (fun _ => false) _ = []
    unfold Sparse.keep
    simp
  · exact hT _ .mem (by decide)
  · exact hT _ .lockedRegs (by decide)
  · exact hT _ .mismatches (by decide)
  · exact hT _ .posted (by decide)
  · exact hT _ .compat (by decide)
  · exact hT _ .pends (by decide)
  · exact hT _ .eyeReset (by decide)
  · exact (hR _ rfl rfl rfl).1
  · exact (hR _ rfl rfl rfl).2
  · exact hT _ .gw (by decide)
  · exact hT _ .mon (by decide)
  · exact hT _ .plx (by decide)
  · exact hT _ .cpu (by decide)
  · intro a h4 ha hp hf
    have hna : ¬ afterReset a := by
      unfold afterReset
      rintro (h | h | ⟨p, h | h⟩ | ⟨p, f, h | h⟩)
      · omega
      · exact ha h
      · exact (hp p).1 h
      · exact (hp p).2 h
      · exact (hf p f).1 h
      · exact (hf p f).2 h
    rw [writes_resume.same _ a hna, (writes_Act_updIo (P := afterReset)).same _ a hna]
    exact resetAll_reg cold ((Act.recordReset b l).run s) a hna

end Sys2Proof.Machine
end

