-- ==== Sys2Proof/Laws/Take.lean ====
section
/-! SUPPORT. What an engine that takes a frame does, from the frame that waits. -/

namespace Sys2Proof.Machine

/-- A scheduler that finds no head does nothing. -/
theorem schedule_none {p f : Nat} {head : Nat → Queue → Option Ref} {k : Nat → Ref → Act} {s : State}
    (h : ([7, 6, 5, 4, 3, 2, 1, 0].find? fun c => (s.headsOf p f c head).any Option.isSome) = none) :
    (Act.schedule p f head k).run s = s := by
  unfold Act.schedule
  rw [Act.get_run, h]
  rfl

/-- The scheduler's choice is followed by what its user does with it. -/
theorem schedule_pick {p f q : Nat} {head : Nat → Queue → Option Ref} {k : Nat → Ref → Act} {r : Ref} {s : State}
    (h : s.pick p f head = some (q, r)) :
    (Act.schedule p f head k).run s = (k q r).run ((Act.schedule p f head fun _ _ => Act.skip).run s) := by
  unfold State.pick at h
  obtain ⟨c, hc, h⟩ := Option.bind_eq_some_iff.mp h
  obtain ⟨x, hx, h⟩ := Option.map_eq_some_iff.mp h
  obtain ⟨rfl, rfl⟩ := Prod.mk.inj h
  unfold Act.schedule
  simp only [Act.get_run, hc, Act.opt, hx, Act.all_cons, Act.all_nil, Act.seq_run]
  rfl

/-- An engine with a frame waiting takes it, then goes on with it. -/
theorem take_waits {p f q : Nat} {ok : Nat → Bool} {k : Nat → Ref → Act} {r : Ref} {s : State}
    (h : s.waits p f ok = some (q, r)) : (Act.take p f ok k).run s = (k q r).run (s.afterTake p f ok) := by
  unfold State.afterTake Act.take
  rw [schedule_pick h, schedule_pick (k := fun q r => Act.seq (Act.depart p q r) Act.skip) h]
  rfl

/-! ## Ezsor messages -/

/-- The keys do not depend on the inbox. -/
theorem keyUse_inbox (s : State) (rest : List (Nat × Nat × List Byte)) (p n u : Nat) (d k q : Option Nat) :
    State.keyUse { s with plx := { s.plx with inbox := rest } } p n u d k q = s.keyUse p n u d k q := by
  unfold State.keyUse
  rw [show State.polOk { s with plx := { s.plx with inbox := rest } } p n u d k q = s.polOk p n u d k q from rfl,
    show State.slotState { s with plx := { s.plx with inbox := rest } } p n = s.slotState p n from rfl,
    show State.kstore { s with plx := { s.plx with inbox := rest } } p = s.kstore p from rfl,
    show State.kslot { s with plx := { s.plx with inbox := rest } } (sk p n) = s.kslot (sk p n) from rfl]

/-- The domain table does not depend on a use of a key. -/
theorem member_use (z : State) (n dev : Nat) :
    State.member ((Act.modKslot (sk 0 n) (fun u => { u with since := u.since + 1 })).run
      ((Act.bumpFld (KEYS.SLOT 0 n) KEYS.SLOT.USES 1).run
        ((Act.when (2 ^ 20 ≤ (z.kslot (sk 0 n)).since) (Act.remask 0 n)).run z))) dev = z.member dev := by
  have hm : ((Act.when (2 ^ 20 ≤ (z.kslot (sk 0 n)).since) (Act.remask 0 n)).run z).plx = z.plx := by
    rw [Act.when_run]
    split <;> rfl
  unfold State.member
  rw [Act.modKslot, Act.get_run, show ∀ (k : Nat) (u : KeySlot) (t : State), ((Act.setKslot k u).run t).plx = t.plx from fun _ _ _ => rfl,
    Act.bumpFld, Act.get_run, Act_setFld_plx, hm]

/-- The first message of the inbox, where it is of a known form and the one looked for, is taken. -/
theorem ezTake_first {q : EzMsg → Bool} {k : EzMsg → Act} {e : Nat × Nat × List Byte} {rest : List (Nat × Nat × List Byte)}
    {s : State} (hi : s.plx.inbox = e :: rest) (hb : (ezParse e).bad = false) (hq : q (ezParse e) = true) :
    (Act.ezTake q k).run s = (k (ezParse e)).run { s with plx := { s.plx with inbox := rest } } := by
  have hpurge : (Act.ezPurge s.plx.inbox.length).run s = s := by
    rw [hi, List.length_cons]
    unfold Act.ezPurge
    rw [Act.get_run, hi]
    simp only [hb]
    rfl
  unfold Act.ezTake
  rw [Act.get_run, Act.seq_run, hpurge, Act.get_run, hi]
  simp only [takeFirst, hb, hq, Bool.not_false, Bool.and_self, if_true]
  rfl

/-- The engine takes the first message where it passes every check, then goes on with it. -/
theorem member_takes {ty : Nat} {p : EzMsg → Bool} {own : EzMsg → Act} {dup : State → EzMsg → Bool} {k : EzMsg → Bool → Act}
    {e : Nat × Nat × List Byte} {rest : List (Nat × Nat × List Byte)} {s : State} (hf : s.ezFirst ty e rest)
    (hp : p (ezParse e) = true) (ht : s.ezTakes ty (ezParse e))
    (hd : dup { s with plx := { s.plx with inbox := rest } } (ezParse e) = false) :
    (Act.ezMember ty p false own dup k).run s = (k (ezParse e) true).run (s.ezTaken ty (ezParse e) rest) := by
  obtain ⟨hi, hb, hty⟩ := hf
  obtain ⟨h1, h2, h3, h4⟩ := ht
  unfold Act.ezMember
  rw [ezTake_first hi hb (by rw [hty, hp, BEq.rfl]; rfl)]
  have a0 : s.ezTaken ty (ezParse e) rest = if s.ezAuth ty then
      (Act.seq (Act.useKey 0 s.ezSlot 5 (some 1) none none 5 fun _ => Act.skip)
        (Act.modMem (ezParse e).src fun u => u.accept (ezParse e))).run { s with plx := { s.plx with inbox := rest } }
      else { s with plx := { s.plx with inbox := rest } } := rfl
  have a1 : State.plxOn { s with plx := { s.plx with inbox := rest } } = true := h1
  have a2 : State.fld { s with plx := { s.plx with inbox := rest } } (PLX.CFG 0) PLX.CFG.DOMAIN = s.fld (PLX.CFG 0) PLX.CFG.DOMAIN := rfl
  have a3 : State.devId { s with plx := { s.plx with inbox := rest } } = s.devId := rfl
  have a4 : State.ezAuth { s with plx := { s.plx with inbox := rest } } ty = s.ezAuth ty := rfl
  have a5 : State.ezSlot { s with plx := { s.plx with inbox := rest } } = s.ezSlot := rfl
  have a6 : State.keyUse { s with plx := { s.plx with inbox := rest } } 0 s.ezSlot 5 (some 1) none none =
    s.keyUse 0 s.ezSlot 5 (some 1) none none := keyUse_inbox ..
  have a8 : State.member { s with plx := { s.plx with inbox := rest } } (ezParse e).src = s.member (ezParse e).src := rfl
  rw [a0]
  generalize ({ s with plx := { s.plx with inbox := rest } } : State) = z at *
  generalize ezParse e = m at *
  rw [Act.get_run, if_neg (by rw [a1]; decide), if_neg (by decide), if_neg (by rw [a2]; exact not_not_intro h2),
    if_neg (by rw [a3]; exact fun h => h3 h.1)]
  dsimp only
  rw [a4]
  cases ha : s.ezAuth ty with
  | false =>
    rw [if_neg (by decide), if_neg (by rw [a3]; exact h3), hd, if_neg (by decide), if_neg (by simp), if_neg (by decide), if_neg (by decide)]
  | true =>
    obtain ⟨g1, g2, g3, ⟨key, g4, g5⟩, u, g6, g7⟩ := h4 ha
    rw [if_pos rfl, if_pos rfl]
    unfold Act.ezTagOk
    rw [Act.get_run, if_neg (by rw [g2, a5]; exact fun h => h.elim (fun h => by cases h) g3), a5]
    unfold Act.useKey
    rw [Act.get_run, Act.seq_run, Act.get_run, a6, g4]
    dsimp only
    rw [Act.all_cons, Act.all_cons, Act.all_cons, Act.all_cons, Act.all_nil, g5, BEq.rfl, if_pos rfl, if_neg (by rw [a3]; exact h3), hd,
      if_neg (by decide), if_neg (by rw [g1]; simp), if_pos rfl]
    unfold Act.ezFreshness
    rw [Act.get_run, member_use, a8, g6]
    dsimp only
    rw [g7]
    rfl
end Sys2Proof.Machine
end

