-- ==== Sys2Proof/Machine/Pins.lean ====
section
/-! DEFINITION. What the device shows at its balls: the fused state of a ball until its block uses it, the enables of the regulators,
and the open-drain lines FAULT_N and PAIR_OWN (R63, R66, R76, R564, R642, R760, R775 to R779). -/

namespace Sys2Proof.Machine

/-- The state of a ball: without connection, in one of its fused states, or in the use of its block (R76, R777, R778). -/
inductive Ball where
  | none | highZ | low | high | pullDown | pullUp | inUse
  deriving DecidableEq, Repr

/-- The reset state that a fuse entry names (R778); codes 5 to 7 do not occur. -/
def Ball.ofFuse : Nat → Ball
  | 1 => .low
  | 2 => .high
  | 3 => .pullDown
  | 4 => .pullUp
  | _ => .highZ

/-- Does drive die d drive FAULT_N low? In Pinhole mode; on drive die 0 also while the regulator-failure latch is set (R66, R642). -/
def State.faultLow (s : State) (d : Nat) : Bool := (s.supply d).alive && ((s.drv d).pin || s.seq.stage == .latched)

/-- The balls of groups 8 and 9 of a drive die, in the order of its group table (R776): WAKE0, WAKE1, LIMP_N, FAULT_N, RESET_N,
EN_CORE, PG_CORE, EN_IO, PG_IO, EN_MEM, PG_MEM, PAIR_OWN. Before the fuses load all are high-impedance but the enables, which are low
from power-on; the power-good inputs, RESET_N and LIMP_N are inputs with a pull-up (R76, R760, R778). -/
def State.driveBall (s : State) (d j : Nat) : Ball :=
  let u := s.supply d
  let fused := Ball.ofFuse (s.fuseFld (FUSE.PINST d) ⟨3 * j, 3⟩)
  let en := fun (b : Bool) => if u.alive && b then Ball.high else Ball.low
  if s.y ≤ d ∨ 12 ≤ j ∨ (d ≠ 0 ∧ 4 ≤ j) then .none
  else if j = 5 then en s.seq.enCore
  else if j = 7 then en s.seq.enIo
  else if j = 9 then en s.seq.enMem
  else if u.alive = false then .highZ
  else if j = 3 then (if s.faultLow d then .low else .highZ)
  else if j = 11 then (if s.io.pair.pulls then .low else .highZ)
  else if u.fuses = false then .highZ
  else if j < 2 then (if bit (s.reg (WKP.SRC_EN d)) (12 + j) then .inUse else fused)
  else .pullUp

/-- The block of a Prism die that uses the ball of a pin index (R775, R779): the lanes and ports of the facets, the PCIe port of the
recorder, the CAN and LIN balls, the MDIO balls, then the balls of the lead die and of the memory. None where no enable governs it. -/
def ballBlock (n : Nat) : Option Nat :=
  if n < 48 then some (0x20 + n / 4)
  else if n < 67 then some 0x81
  else if n < 91 then some (0x2C + (n - 67) / 2)
  else if n < 107 then some (0x38 + (n - 91) / 2)
  else if n < 139 then some (0x40 + (n - 107) / 2)
  else if n < 155 then some (0x50 + (n - 139) / 2)
  else if n < 159 then some (if n < 157 then 0x2C else 0x38)
  else if n = 163 ∨ n = 164 then some 0x82
  else none

/-- The ball of a pin index of Prism die p (R76, R775, R777, R779): high-impedance until the die has loaded its fuses in step 6, then in
its fused state until its block is enabled. The Eyepiece balls answer from step 6 and the flash balls are used from step 8 (R77); a
CAN or LIN ball carries signals only with an external transceiver (R390); the lid input has a pull-up (R758). No block's enable governs the memory balls: that they are in use with SPILL and from the end of
step 9 on is the model's choice (log entry 122). -/
def State.prismBall (s : State) (p n : Nat) : Ball :=
  let fused := Ball.ofFuse (s.fuseFld (DEV.PINST p (n / 16)) ⟨3 * (n % 16), 3⟩)
  if s.x ≤ p ∨ 242 ≤ n ∨ (p ≠ 0 ∧ 159 ≤ n ∧ n < 182) then .none
  else if s.start.step < 6 then .highZ
  else
    match ballBlock n with
    | some b =>
      let outside := if 0x40 ≤ b ∧ b < 0x50 then s.flag (CAN.CFG p (b - 0x40)) CAN.CFG.EXT
        else if 0x50 ≤ b ∧ b < 0x58 then s.flag (LIN.CFG p (b - 0x50)) LIN.CFG.EXT else true
      if s.enabled p b && outside then .inUse else fused
    | none =>
      if n < 163 then .inUse
      else if n = 165 then .pullUp
      else if n < 170 then fused
      else if n < 182 then (if 8 ≤ s.start.step then .inUse else fused)
      else if s.enabled p 0x0A || decide (10 ≤ s.start.step) then .inUse else fused

end Sys2Proof.Machine
end

