-- ==== Sys2Proof/Tests/Slice0.lean ====
section
/-! SUPPORT. The model's own tests. Each runs one command on a small state and compares one or two fields of the result with what the
rule of the spec gives, worked out by hand; together they are the witnesses that the hypotheses of the statements can be met. -/

open Sys2Proof Sys2Proof.Machine

namespace Sys2Proof.Tests

set_option Elab.async false

/-! ## Helpers -/

/-- The command gives a next state of which P holds. -/
def gives (i : Instr) (s : State) (P : State → Bool) : Bool :=
  match exec i s with
  | .next t => P t
  | _ => false

/-- The state after a command. -/
def after (i : Instr) (s : State) : State :=
  match exec i s with
  | .next t => t
  | _ => s

/-- A state with registers set. -/
def setRegs (s : State) (l : List (Nat × Nat)) : State := l.foldl (fun s e => (Act.setReg e.1 (BitVec.ofNat 48 e.2)).run s) s

/-- BLK_CTRL of a block that is enabled. -/
def on (d b : Nat) : Nat × Nat := (BLK_CTRL d b, 3)

/-- A package in service, with registers set. -/
def svc (l : List (Nat × Nat)) : State :=
  setRegs { start := { step := 15, epochDone := true, canDone := true, ethDone := true, fwDone := true, served := true }
            seq := { stage := .ready }, ld := { st := .done }
            sup := [(0, { alive := true, chanOn := true, vbat := 2400 }), (1, { alive := true, chanOn := true, vbat := 2400 }),
              (2, { alive := true, chanOn := true, vbat := 2400 }), (3, { alive := true, chanOn := true, vbat := 2400 })]
            clk := { source := .crystal } } l

/-- A word from its fields. -/
def mk (l : List (Fld × Nat)) : Nat := (word l).toNat

/-- Logged, as a truth value. -/
def logged (a i : Nat) (s t : State) : Bool :=
  t.reg a == eventWord s a i &&& regMask a && t.evtCount a == s.evtCount a + 1 && t.evt a i == s.evtCount a + 1

/-- Holds, as a truth value. -/
def holds (t : State) (a : Nat) (v : Word) : Bool := t.reg a == v &&& regMask a

/-- Counted, as a truth value. -/
def counted (a n : Nat) (s t : State) : Bool := holds t a (s.reg a + BitVec.ofNat 48 n)

/-- Flagged, as far as BLK_ERR goes. -/
def flagged (a i : Nat) (ag : Agent) (s t : State) : Bool :=
  let e := BLK_ERR (aDie a) (aBlk a)
  holds t e (fset (fset (eventWord s e i) BLK_ERR.REG (aReg a)) BLK_ERR.SRC ag.src)

/-- Does a register row of the SPI path reach its register? -/
def reaches (i : Instr) (s : State) : Bool :=
  i.wellFormed &&
    match regWrite i with
    | some (.spi, a, v) => decide (6 ≤ s.start.step) && s.lands .spi a v && (posts a || !s.refuses a v)
    | _ => false

/-- Then it Reaches it, in the state as it is. -/
theorem reaches_spec (i : Instr) (s : State) (h : reaches i s = true) : Reaches i s .spi s := by
  unfold reaches at h
  simp only [Bool.and_eq_true] at h
  refine ⟨h.1, ?_⟩
  revert h
  cases hw : regWrite i with
  | none => simp
  | some x =>
    obtain ⟨w, a, v⟩ := x
    cases w with
    | spi =>
      intro h
      simp only [Bool.and_eq_true, Bool.or_eq_true, Bool.not_eq_true', decide_eq_true_eq] at h
      have e : (Act.hartMem .spi (hartStores i)).run s = s := rfl
      exact ⟨_, _, _, rfl, by rw [e]; exact if_pos ⟨h.2.1.1, h.2.1.2⟩, h.2.2⟩
    | eth => simp
    | hart _ _ _ => simp

/-! ## Operands out of their ranges -/

/-- One command for each check, with the checked operand one past its range. -/
theorem test_illFormed : (([
    .powerOn 4 0 0 0, .powerOn 0 0 4 0, .powerOn 0 0 0 4, .stageFail 4, .coreDroop 4 0, .dieToDieLinkLost 0 3, .slowEdgeLost 256,
      .imgCmdRaiseFloor .spi (2 ^ 48), .imgCmdRaiseFloor (.hart 0 7 0) 0, .nop 256, .read 0 (2 ^ 40) 0, .read 0 0 (2 ^ 48), .flashRead 0 0 65536,
      .slowFetchDone 2 0, .postedWriteEffect 8 0, .postedWriteEffect 0 256, .clearBySequence .spi (2 ^ 24) 0, .clearBySequence .spi 0 256,
      .frameAdmission 0 64, .admissionRetry 0 0 8, .cellCheckFailure 0 0 0 4 0 0 false, .cellCheckFailure 0 0 0 0 36 0 false,
      .spillBlock 0 16384 false, .fetchBlock 0 0 3 0, .fetchBlock 0 0 0 8, .cqDataRead .spi 0 64, .tdmaRead .spi [(2 ^ 64, 0)] 0 0 0,
      .tdmaRead .spi [(0, 2 ^ 64)] 0 0 0, .tdmaJobDone 0 4, .tdmaLockExpire 0 8 0, .tdmaLockExpire 0 0 32, .gclConfigChange .spi 0 32 0,
      .mdioDone 0 2 0 false, .mdioDone 0 0 65536 false, .canReceive 0 16 [] false 0, .txdTimeout 0 12 false, .tpTimerExpire 0 0 256 0 0,
      .tpTimerExpire 0 0 0 256 0, .pduCadence 0 4096 false, .tunnelSend 0 256, .windowLoad 0 7 0 0 0 false false,
      .windowLoad 0 0 0 256 0 false false, .windowLoad 0 0 0 0 8192 false false, .keyDemand 0 1024, .tamperAssert 8, .ciphJobDone 0 4 false,
      .wakeReqWrite .spi 0 17 0, .pnWake 16, .keepalivePnSeen 256 0, .wakeSource 0 40 false, .xcvrWakeDetect 0 0 3 0 [], .admissionRequest 0 28,
      .inputStateChange 0 32 0 none, .maxOnExpire 0 128, .loupeSample 0 256 0 false] : List Instr).all fun i => !i.wellFormed) = true := by decide +kernel
/-- The same with the last value within it. -/
theorem test_lastFormed : (([
    .powerOn (4 - 1) 0 0 0, .powerOn 0 0 (4 - 1) 0, .powerOn 0 0 0 (4 - 1), .stageFail (4 - 1), .coreDroop (4 - 1) 0, .dieToDieLinkLost 0 (3 - 1),
      .slowEdgeLost (256 - 1), .imgCmdRaiseFloor .spi (2 ^ 48 - 1), .imgCmdRaiseFloor (.hart 0 6 0) 0, .nop (256 - 1), .read 0 (2 ^ 40 - 1) 0,
      .read 0 0 (2 ^ 48 - 1), .flashRead 0 0 (65536 - 1), .slowFetchDone (2 - 1) 0, .postedWriteEffect (8 - 1) 0, .postedWriteEffect 0 (256 - 1),
      .clearBySequence .spi (2 ^ 24 - 1) 0, .clearBySequence .spi 0 (256 - 1), .frameAdmission 0 (64 - 1), .admissionRetry 0 0 (8 - 1),
      .cellCheckFailure 0 0 0 (4 - 1) 0 0 false, .cellCheckFailure 0 0 0 0 (36 - 1) 0 false, .spillBlock 0 (16384 - 1) false,
      .fetchBlock 0 0 (3 - 1) 0, .fetchBlock 0 0 0 (8 - 1), .cqDataRead .spi 0 (64 - 1), .tdmaJobDone 0 (4 - 1), .tdmaLockExpire 0 (8 - 1) 0,
      .tdmaLockExpire 0 0 (32 - 1), .gclConfigChange .spi 0 (32 - 1) 0, .mdioDone 0 (2 - 1) 0 false, .mdioDone 0 0 (65536 - 1) false,
      .canReceive 0 (16 - 1) [] false 0, .txdTimeout 0 (12 - 1) false, .tpTimerExpire 0 0 (256 - 1) 0 0, .tpTimerExpire 0 0 0 (256 - 1) 0,
      .pduCadence 0 (4096 - 1) false, .tunnelSend 0 (256 - 1), .windowLoad 0 (7 - 1) 0 0 0 false false, .windowLoad 0 0 0 (256 - 1) 0 false false,
      .windowLoad 0 0 0 0 (8192 - 1) false false, .keyDemand 0 (1024 - 1), .tamperAssert (8 - 1), .ciphJobDone 0 (4 - 1) false,
      .wakeReqWrite .spi 0 (17 - 1) 0, .pnWake (16 - 1), .keepalivePnSeen (256 - 1) 0, .wakeSource 0 (40 - 1) false,
      .xcvrWakeDetect 0 0 (3 - 1) 0 [], .admissionRequest 0 (28 - 1), .inputStateChange 0 (32 - 1) 0 none, .maxOnExpire 0 (128 - 1),
      .loupeSample 0 (256 - 1) 0 false] : List Instr).all fun i => i.wellFormed) = true := by decide +kernel
theorem test_illFormed_noEffect : gives (.ovWarn 4 6201) (svc []) (fun t => decide (t = svc [])) = true := by decide +kernel

/-! ## Registers and blocks -/

theorem test_step_front : (match step { svc [] with pending := [.ovWarn 3 6201] } with
      | .next t => (t.supply 3).ovWarn && decide (t.pending = [])
      | _ => false) = true := by
  decide +kernel
theorem test_step_empty :
    (match step State.reset with
      | .next t => t.edges == 1
      | _ => false) = true ∧ State.reset.start.step = 0 ∧ (svc []).start.step = 15 ∧ (svc []).pending = [] := by decide +kernel
/-- The reset state meets the invariant, so that it is no empty hypothesis. -/
theorem test_inv : State.reset.regs = [] ∧ State.reset.tbls = [] ∧ State.reset.mem = [] ∧ State.reset.flash = [] := by decide +kernel
theorem test_event_is_no_access : regWrite (.ovWarn 3 6201) = none ∧ regRead (.ovWarn 3 6201) = none ∧ (mayWrite (.ovWarn 3 6201)).isSome = true := by
  decide +kernel
theorem test_write_reaches : Reaches (.feedVal .spi 0 7) (svc []) .spi (svc []) := reaches_spec _ _ (by decide +kernel)
theorem test_writeOfNoRegister :
    (svc []).hostWriter .spi = some .spi ∧ (svc []).regIs 0xFFFFFF = false ∧
    gives (.registerWrite .spi 0xFFFFFF 7) (svc []) (fun t => decide (t.out = [.reply .spi .noSuch 0] ∧ t.regs = (svc []).regs)) = true ∧
    (svc []).regIs (CPU.SKICK 0) = true ∧ (svc []).denies .spi (CPU.SKICK 0) 7 = true ∧
    gives (.registerWrite .spi (CPU.SKICK 0) 7) (svc []) (fun t => decide (t.out = [.reply .spi .denied 0] ∧ t.regs = (svc []).regs)) = true := by decide +kernel

/-- Is a write of the SPI path offered in the state as it is, and let through to the register's own checks? -/
def offers (a v : Nat) (s : State) : Bool :=
  decide (s.offered .spi a (BitVec.ofNat 48 v) = some (.spi, s)) && s.gated .spi a (BitVec.ofNat 48 v)
theorem test_lockedWrite :
    let s := { svc [] with onceRegs := [(PSCP.RING 3, true)] }
    offers (PSCP.RING 3) 0 s = true ∧ s.regLocked (PSCP.RING 3) = true ∧
    gives (.registerWrite .spi (PSCP.RING 3) 0) s (fun t => flagged (PSCP.RING 3) 1 .spi s t && decide (t.out = [.reply .spi .locked 0])) = true := by
  decide +kernel
theorem test_enabledWrite :
    let s := svc [on 3 0x81]
    offers (PSCP.RING 3) 0 s = true ∧ s.regLocked (PSCP.RING 3) = false ∧ ((regRow (PSCP.RING 3)).any fun r => r.kind == .cf) = true ∧
    s.enabled 3 0x81 = true ∧ ignores (PSCP.RING 3) = false ∧
    gives (.registerWrite .spi (PSCP.RING 3) 0) s (fun t => flagged (PSCP.RING 3) 0 .spi s t && decide (t.out = [.reply .spi .rejectedEnabled 0])) = true := by
  decide +kernel
theorem test_busyWrite :
    let s := { svc [] with posted := [(256 * 7 + 1, some { addr := SUP.THRESH 3, value := 0, agent := .spi })] }
    decide (s.offered .spi (SUP.THRESH 3) 0 = some (.spi, s)) = true ∧ s.denies .spi (SUP.THRESH 3) 0 = false ∧ s.startBusy = false ∧
    s.blockHeld 7 1 = false ∧ s.writeCut (SUP.THRESH 3) = false ∧ blockSlow 1 = true ∧ (s.postedAt 7 1).isSome = true ∧
    gives (.registerWrite .spi (SUP.THRESH 3) 0) s (fun t => flagged (SUP.THRESH 3) 3 .spi s t && decide (t.out = [.reply .spi .busy 0])) = true := by
  decide +kernel
theorem test_refusedValue :
    decide ((svc []).arrives .spi (FAB.CFG 2) (BitVec.ofNat 48 (mk [(FAB.CFG.STORM_MS, 9)])) = some (.spi, svc [])) = true ∧
    (svc []).refuses (FAB.CFG 2) (BitVec.ofNat 48 (mk [(FAB.CFG.STORM_MS, 9)])) = true ∧
    gives (.registerWrite .spi (FAB.CFG 2) (mk [(FAB.CFG.STORM_MS, 9)])) (svc []) (fun t => flagged (FAB.CFG 2) 0 .spi (svc []) t &&
      decide (t.out = [.reply .spi .badValue 0])) = true := by decide +kernel
theorem test_postedWrite :
    decide ((svc []).arrives .spi (SUP.CTRL 3) 1 = some (.spi, svc [])) = true ∧ posts (SUP.CTRL 3) = true ∧
    gives (.registerWrite .spi (SUP.CTRL 3) 1) (svc []) (fun t => decide (t.regs = (svc []).regs ∧ t.out = [.reply .spi .ok 0]) &&
      decide (t.postedAt 7 1 = some { addr := SUP.CTRL 3, value := 1, agent := .spi })) = true := by decide +kernel

/-- Loupe of die 0 with one event logged. -/
def oneEvent : State := (Act.event (LOUPE.EVT 0) 0).run (svc [])
theorem test_clearBySequence :
    decide (oneEvent.arrives .spi (LOUPE.EVT 0) (fset 0 scSeq 1) = some (.spi, oneEvent)) = true ∧
    bit (oneEvent.reg (LOUPE.EVT 0)) 0 = true ∧
    gives (.clearBySequence .spi (LOUPE.EVT 0) 1) oneEvent (fun t => !bit (t.reg (LOUPE.EVT 0)) 0) = true ∧
    gives (.clearBySequence .spi (LOUPE.EVT 0) 0) oneEvent (fun t => bit (t.reg (LOUPE.EVT 0)) 0) = true ∧
    gives (.clearBySequence .spi (LOUPE.EVT 0) 2) oneEvent (fun t => bit (t.reg (LOUPE.EVT 0)) 0 &&
      flagged (LOUPE.EVT 0) 4 .spi oneEvent t) = true := by decide +kernel
theorem test_blockEnable :
    reaches (.blockEnable .spi 2 0x81 1) (svc []) = true ∧ (svc []).enableBad 2 0x81 = false ∧ (svc []).parityNow 2 0x81 = false ∧
    gives (.blockEnable .spi 2 0x81 1) (svc []) (fun t => t.enabled 2 0x81 && decide (t.out = [.reply .spi .ok 0])) = true := by decide +kernel
theorem test_blockEnable_parity :
    let s := { svc [] with upsets := [(PSCP.RING 2, { lanes := 1 })] }
    reaches (.blockEnable .spi 2 0x81 1) s = true ∧ s.parityNow 2 0x81 = true ∧
    gives (.blockEnable .spi 2 0x81 1) s (fun t => !t.enabled 2 0x81 && decide (t.out = [.reply .spi .parity 0])) = true := by decide +kernel
theorem test_blockDisable :
    reaches (.blockDisable .spi 2 0x81 0) (svc [on 2 0x81]) = true ∧
    gives (.blockDisable .spi 2 0x81 0) (svc [on 2 0x81]) (fun t => !t.enabled 2 0x81) = true := by decide +kernel

/-! ## Supply, start and reset -/

/-- Drive die 3 with supply conditions. -/
def sup3 (u : Supply) : State := { svc [] with sup := [(3, { u with alive := true })] }

theorem test_sagWarning :
    (sup3 {}).y = 4 ∧ ((sup3 {}).supply 3).alive = true ∧ 599 < (sup3 {}).fld (SUP.THRESH 3) SUP.THRESH.SAG_TH * 10 ∧
    gives (.sagWarning 3 599) (sup3 {}) (fun t => (t.supply 3).sag && (t.supply 3).vbat == 0 && logged (SUP.EVT 3) 0 (sup3 {}) t) = true := by
  decide +kernel
theorem test_sagEnd : gives (.sagEnd 3 4000) (sup3 { sag := true }) (fun t => !(t.supply 3).sag && bit (t.reg (SUP.EVT 3)) 1) = true := by
  decide +kernel
theorem test_ovWarn : gives (.ovWarn 3 6201) (sup3 {}) (fun t => (t.supply 3).ovWarn && logged (SUP.EVT 3) 2 (sup3 {}) t) = true := by
  decide +kernel
theorem test_ovWarnEnd : gives (.ovWarnEnd 3 6100) (sup3 { ovWarn := true }) (fun t => !(t.supply 3).ovWarn) = true := by decide +kernel
theorem test_ovOpen : gives (.ovOpen 3 6601) (sup3 {}) (fun t => (t.supply 3).ovOpen && bit (t.reg (SUP.EVT 3)) 3) = true := by
  decide +kernel
theorem test_ovEnd : gives (.ovEnd 3 6100) (sup3 { ovOpen := true }) (fun t => !(t.supply 3).ovOpen && bit (t.reg (SUP.EVT 3)) 4) = true := by
  decide +kernel
theorem test_vbatSample :
    gives (.vbatSample 3 70000) (sup3 { vmin := 9, vmax := 9 })
      (fun t => (t.supply 3).vbat == 65535 && (t.supply 3).vmin == 9 && (t.supply 3).vmax == 65535) = true := by decide +kernel
theorem test_powerOn :
    gives (.powerOn 0 400 3 2) State.reset (fun t => (t.supply 0).alive && (t.supply 0).vmin == 400 && t.clk.bootPins == 3 && t.clk.clkPins == 2) = true := by
  decide +kernel
theorem test_powerOn_below : gives (.powerOn 0 399 0 0) State.reset (fun t => !(t.supply 0).alive) = true := by decide +kernel
theorem test_powerOnReset :
    gives (.powerOnReset 0 399) (svc [(RSTC.CAUSE 0, 2)]) (fun t =>
      decide (t.supply 0 = {}) && decide (t.seq = {}) && decide (t.start = {}) && decide (t.tbls = [] ∧ t.mem = [])) = true := by decide +kernel

/-- The sequencer in a stage. -/
def seqIn (q : Sequencer) : State := { svc [] with seq := q, start := {} }

theorem test_vbatResetRelease :
    (seqIn {}).fld (SUP.THRESH 0) SUP.THRESH.RESET_TH = 56 ∧
    gives (.vbatResetRelease 590) (seqIn { failed := 2 }) (fun t => decide (t.seq.stage = .core) && t.seq.enCore && t.seq.attempt == 2) = true := by
  decide +kernel
theorem test_stageSuccess_core :
    gives (.stageSuccess 300) (seqIn { stage := .core }) (fun t => decide (t.seq.stage = .io) && t.seq.enIo && t.seq.tCore == 254) = true := by
  decide +kernel
theorem test_stageSuccess_mem :
    gives (.stageSuccess 7) (seqIn { stage := .mem }) (fun t => decide (t.seq.stage = .ready) && t.seq.tMem == 7) = true := by decide +kernel
theorem test_regulatorRetry :
    gives .regulatorRetry (seqIn { stage := .between }) (fun t => decide (t.seq.stage = .core) && t.seq.enCore) = true := by decide +kernel
/-- A failed stage resets with bit 2 and counts; the fourth of a series latches. -/
def failedAs (st : Stage) (n : Nat) (t : State) : Bool :=
  decide (t.seq.stage = st) && !t.seq.enCore && !t.seq.enIo && !t.seq.enMem && t.seq.failed == n && bit (t.reg (RSTC.CAUSE 0)) 2
theorem test_stageFail :
    gives (.stageFail 2) (seqIn { stage := .io, enCore := true, failed := 3, lastFail := some 0 }) (failedAs .latched 4) = true := by decide +kernel
theorem test_pgLost : gives (.pgLost 3) (svc []) (failedAs .between 1) = true := by decide +kernel
theorem test_vcoreRegulatorFail : gives (.vcoreRegulatorFail 3 579) (svc []) (failedAs .between 1) = true := by decide +kernel
theorem test_vbatLow :
    gives (.vbatLow 559) (svc []) (fun t => decide (t.seq = {}) && t.start.step == 0 && bit (t.reg (RSTC.CAUSE 0)) 0) = true := by decide +kernel
theorem test_resetNAssert :
    gives .resetNAssert { svc [] with seq := { stage := .latched, failed := 4 } } (fun t =>
      t.start.pinLow && t.start.step == 0 && decide (t.seq.stage = .off) && t.seq.failed == 0 && bit (t.reg (RSTC.CAUSE 0)) 1) = true := by
  decide +kernel
theorem test_prismThermalShutdown :
    gives (.prismThermalShutdown 3) (svc []) (fun t => t.start.thermHold && t.start.step == 0 &&
      t.fld (RSTC.DETAIL 0) RSTC.DETAIL.THERM_DIE == 3 && bit (t.reg (RSTC.CAUSE 0)) 8) = true := by decide +kernel
theorem test_dieToDieLinkLost : d2dFar 3 2 < 4 ∧ gives (.dieToDieLinkLost 3 2) (svc []) (fun t => bit (t.reg (RSTC.CAUSE 0)) 6) = true := by
  decide +kernel
theorem test_resetNRelease :
    gives (.resetNRelease 1 2) { svc [] with start := { pinLow := true } } (fun t => !t.start.pinLow && t.clk.bootPins == 1 && t.start.step == 8) = true := by
  decide +kernel
theorem test_thermalHoldEnd :
    gives .thermalHoldEnd { svc [] with start := { thermHold := true } } (fun t => !t.start.thermHold && t.start.step == 7) = true := by decide +kernel
theorem test_coreDroop :
    gives (.coreDroop 3 699) (svc []) (fun t => (t.psup 3).droop && logged (DEV.EVT 3) 0 (svc []) t) = true := by decide +kernel
theorem test_coreDroopEnd :
    gives (.coreDroopEnd 3 700) { svc [] with prism := [(3, { droop := true })] } (fun t => !(t.psup 3).droop) = true := by
  decide +kernel
theorem test_prismThermalWarn : gives (.prismThermalWarn 3) (svc []) (fun t => (t.psup 3).hot) = true := by decide +kernel
theorem test_prismThermalWarnEnd :
    gives (.prismThermalWarnEnd 3) { svc [] with prism := [(3, { hot := true })] } (fun t => !(t.psup 3).hot) = true := by decide +kernel
theorem test_clockReady :
    gives .clockReady { svc [(RSTC.STRAP 0, 0)] with start := { step := 7 } } (fun t => t.start.step == 8 && decide (t.clk.source = .crystal)) = true := by
  decide +kernel
theorem test_clockTimeout :
    gives .clockTimeout { svc [] with start := { step := 7 } } (fun t => t.start.step == 8 && t.clk.internalOnly &&
      t.fld (RSTC.STRAP 0) RSTC.STRAP.CLK_REASON == 3) = true := by decide +kernel
theorem test_clockLost : gives .clockLost (svc []) (fun t => t.clk.internalOnly && decide (t.clk.source = .internal)) = true := by decide +kernel
theorem test_driveLinkLost :
    gives (.driveLinkLost 3 false) (svc []) (fun t => !t.dlinkLost 3 && t.dlinkDown 3) = true ∧
    gives (.driveLinkLost 3 true) (svc []) (fun t => t.dlinkLost 3 && t.fld (DEV.DLINK ((svc []).attachedTo 3)) DEV.DLINK.LAST_RANK == (svc []).rankOf 3) = true := by
  decide +kernel
theorem test_driveLinkResume :
    gives (.driveLinkResume 3) (after (.driveLinkLost 3 true) (svc [])) (fun t => !t.dlinkLost 3) = true := by decide +kernel
theorem test_slowEdgeLost : gives (.slowEdgeLost 0x88) (svc []) (fun t => (t.psup 3).subst && (t.supply 3).subst) = true := by decide +kernel
theorem test_parityScrub :
    escalates 0 0x81 = false ∧ blockHasCf false 0x81 = true ∧
    gives (.parityScrub [(PSCP.RING 0, 1, 0)] [] []) (svc [on 0 0x81]) (fun t => !t.enabled 0 0x81 && bit (t.reg (BLK_ERR 0 0x81)) 2 &&
      t.fld (BLK_ERR 0 0x81) BLK_ERR.REG == 1 && t.fld (BLK_ERR 0 0x81) BLK_ERR.SRC == 3 && decide (t.mismatches = [(0, 0)])) = true := by decide +kernel
theorem test_parityScrub_tables :
    eccFixed 1 0x42 = some (CLS.CNT 1 10) ∧ gives (.parityScrub [] [(1, 0x42, 5)] []) (svc []) (counted (CLS.CNT 1 10) 1 (svc [])) = true ∧
    gives (.parityScrub [] [] [(1, 0x43, 5)]) (svc []) (logged (CLS.EVT 1) 4 (svc [])) = true := by decide +kernel

/-- The state with the start at a step. -/
def atStep (n : Nat) : State := { svc [] with start := { step := n }, ld := {} }

theorem test_imageKeyUnwrap : gives (.imageKeyUnwrap false) (atStep 8) (fun t => t.ld.keyTried && decide (t.regs = (atStep 8).regs)) = true := by
  decide +kernel

/-- Flash with a record of the epoch area at the head of a sector. -/
def recFlash (k : Nat) (r : EpochRec) (s : State) : State := (Act.flashProgram (recAt k 0) r.bytes).run s

theorem test_epochAreaRead :
    let s := recFlash 1 { epoch := 7, floor := 3 } (atStep 8)
    s.bootMode = 0 ∧ s.curRec = some { sector := 1, pos := 0, epoch := 7, floor := 3 } ∧
    gives (.epochAreaRead true) s (fun t => t.ld.epochRead && t.fld (IMG.EPOCH 0) IMG.EPOCH.FLOOR == 3 &&
      t.fld (IMG.EPOCH_STAT 0) IMG.EPOCH_STAT.RECORDS == 1) = true := by decide +kernel
theorem test_epochAreaRead_hold :
    gives (.epochAreaRead true) (setRegs (atStep 8) [(RSTC.STRAP 0, mk [(RSTC.STRAP.BOOT, 2)])]) (fun t => decide (t.ld.st = .holdPeer) &&
      t.fld (RSTC.START 0) RSTC.START.IMG_HOLD == 1) = true := by decide +kernel

/-- A small image of one REGISTER section for this build: FEED_ARG of Prism die 0 becomes 5. Its tags are AES-128 CMACs under sixteen
bytes of 7. -/
def imageWords : List Word :=
  [275002904412161, 292057776137, 77, 4294967318, 0, 0, 0, 0, 0, 0, 0, 0, 0, 0, 12947226465547, 269530228606086, 1310721, 2,
    97116501018782, 79417510855716, 1048579, 5]
/-- The small image in slot A of the flash, by byte address. -/
def imageFlash : Sparse Byte :=
  [(16777216, 250), (16777217, 29), (16777218, 26), (16777219, 110), (16777220, 0), (16777221, 1), (16777222, 0), (16777223, 68), (16777224, 0), (16777225, 0), (16777226, 0)] ++
  [(16777227, 9), (16777228, 0), (16777229, 0), (16777230, 0), (16777231, 0), (16777232, 0), (16777233, 77), (16777234, 0), (16777235, 1), (16777236, 0), (16777237, 0)] ++
  [(16777238, 0), (16777239, 22), (16777240, 0), (16777241, 0), (16777242, 0), (16777243, 0), (16777244, 0), (16777245, 0), (16777246, 0), (16777247, 0), (16777248, 0)] ++
  [(16777249, 0), (16777250, 0), (16777251, 0), (16777252, 0), (16777253, 0), (16777254, 0), (16777255, 0), (16777256, 0), (16777257, 0), (16777258, 0), (16777259, 0)] ++
  [(16777260, 0), (16777261, 0), (16777262, 0), (16777263, 0), (16777264, 0), (16777265, 0), (16777266, 0), (16777267, 0), (16777268, 0), (16777269, 0), (16777270, 0)] ++
  [(16777271, 0), (16777272, 0), (16777273, 0), (16777274, 0), (16777275, 0), (16777276, 0), (16777277, 0), (16777278, 0), (16777279, 0), (16777280, 0), (16777281, 0)] ++
  [(16777282, 0), (16777283, 0), (16777284, 0), (16777285, 0), (16777286, 0), (16777287, 0), (16777288, 0), (16777289, 0), (16777290, 0), (16777291, 0), (16777292, 0)] ++
  [(16777293, 0), (16777294, 0), (16777295, 0), (16777296, 0), (16777297, 0), (16777298, 0), (16777299, 0), (16777300, 11), (16777301, 198), (16777302, 130), (16777303, 213)] ++
  [(16777304, 149), (16777305, 11), (16777306, 245), (16777307, 34), (16777308, 229), (16777309, 136), (16777310, 68), (16777311, 134), (16777312, 0), (16777313, 0), (16777314, 0)] ++
  [(16777315, 20), (16777316, 0), (16777317, 1), (16777318, 0), (16777319, 0), (16777320, 0), (16777321, 0), (16777322, 0), (16777323, 2), (16777324, 88), (16777325, 83)] ++
  [(16777326, 178), (16777327, 139), (16777328, 136), (16777329, 158), (16777330, 72), (16777331, 58), (16777332, 212), (16777333, 134), (16777334, 4), (16777335, 36), (16777336, 0)] ++
  [(16777337, 0), (16777338, 0), (16777339, 16), (16777340, 0), (16777341, 3), (16777342, 0), (16777343, 0), (16777344, 0), (16777345, 0), (16777346, 0), (16777347, 5)]

/-- Slot 0 of the lead die's key store holds an image key. -/
def keyed (s : State) : State :=
  setRegs { s with
    sec := { s.sec with slots := [(sk 0 0, { key := List.replicate 16 7 })], stores := [(0, { rootOk := true })] } }
    [(KEYS.SLOT 0 0, mk [(KEYS.SLOT.STATE, 2)]), (IMG.STAT 0, mk [(IMG.STAT.KEY_OK, 1)])]
/-- Step 8 with the small image in slot A of the flash. -/
def slotA : State := { keyed (atStep 8) with flash := imageFlash, ld := { st := .headers, keyTried := true, epochRead := true } }

theorem test_slotExamine :
    gives (.slotExamine true) slotA (fun t => t.start.step == 9 && decide (t.ld.st = .distributing) && t.ld.slot == 0 && t.ld.dir.length == 1 &&
      holds t (IMG.DIGEST 0) 77) = true := by decide +kernel
theorem test_slotExamine_fails :
    gives (.slotExamine false) slotA (fun t => decide (t.ld.st = .headers) && decide (t.ld.examined = [0]) && t.start.step == 8) = true ∧
    gives (.slotExamine false) { slotA with ld := { slotA.ld with examined := [1] } } (fun t => decide (t.ld.st = .holdBad) && t.start.step == 8) = true := by decide +kernel
theorem test_otherSlotCheck :
    gives (.otherSlotCheck true) { svc [] with ld := { examined := [0] } } (fun t => decide (t.ld.examined = [0, 1])) = true := by decide +kernel
theorem test_netBootOff :
    gives .netBootOff { atStep 8 with ld := { st := .holdPeer }, clk := { internalOnly := true } } (fun t => decide (t.ld.st = .holdHost) &&
      t.fld (RSTC.START 0) RSTC.START.IMG_HOLD == 1 && bit (t.reg (IMG.EVT 0)) 7) = true := by decide +kernel
/-- Network boot on lane 1, whose link is up. -/
def netBoot (u : Option Pull) : State :=
  { atStep 8 with ld := { st := .holdPeer, pull := u }, sw := { eths := [(fk 0 1, { up := true })] } }
theorem test_netBootRequest :
    (netBoot none).lanesOff = false ∧ (netBoot none).ezOk 0 1 { data := ezFrame 0 0 ((netBoot none).ezHeader 6 0 0 0xFFFF 0 (beBytes 6 1 ++ beBytes 2 0 ++ beBytes 1 0x44)) } = true ∧
    gives .netBootRequest (netBoot none) (fun t => t.out.any fun o => match o with
      | .eth 0 1 _ => true
      | _ => false) = true := by decide +kernel
/-- The small image received from a peer. -/
def pulled (l : Sparse Word) : State :=
  { keyed (netBoot none) with ld := { st := .holdPeer, pull := some { facet := 1, total := 22, next := 1 }, rxWords := l, rxTotal := 22 } }
/-- Its words by their index. -/
def imageSparse : Sparse Word :=
  [(0, 275002904412161), (1, 292057776137), (2, 77), (3, 4294967318), (14, 12947226465547), (15, 269530228606086), (16, 1310721), (17, 2),
    (18, 97116501018782), (19, 79417510855716), (20, 1048579), (21, 5)]
theorem test_netImageReceived :
    gives .netImageReceived (pulled imageSparse) (fun t => t.start.step == 9 && decide (t.ld.st = .distributing) &&
      t.ld.slot == 2 && decide (t.ld.pull = none)) = true := by decide +kernel
theorem test_netImageReceived_bad :
    gives .netImageReceived (pulled []) (fun t => t.start.step == 8 && decide (t.ld.st = .holdPeer) && decide (t.ld.pull = none) &&
      t.fld (IMG.XFER 0) IMG.XFER.ATTEMPTS == 1) = true := by decide +kernel

/-- Step 10 with firmware sections left. -/
def step10 (l : List Nat) : State :=
  { atStep 10 with flash := imageFlash, ld := { fwLeft := l, dir := [{ type := 16, target := 1, partition := 2 }], slot := 0 } }
theorem test_canLinEnable : gives .canLinEnable (step10 []) (fun t => t.start.canDone) = true := by decide +kernel
theorem test_ethernetEnable : gives .ethernetEnable (step10 []) (fun t => t.start.ethDone) = true := by decide +kernel
theorem test_fwSectionDone_fails :
    gives (.fwSectionDone true) (step10 [0]) (fun t => decide (t.ld.fwLeft = []) && t.start.fwDone && decide (t.ld.fwBad = [18]) &&
      t.fld (IMG.FW_STAT 0) IMG.FW_STAT.FAILED == 1 && logged (IMG.EVT 0) 2 (step10 [0]) t) = true := by decide +kernel
/-- Step 10 of an image whose section 0 has the right tag. -/
def fwGood : State := { slotA with start := { step := 10 }, ld := { slotA.ld with fwLeft := [0], dir := [{ type := 16, length := 2, offset := 20 }] } }
theorem test_fwSectionDone :
    fwGood.secTagOk 0 0 = true ∧ gives (.fwSectionDone true) fwGood (fun t => t.fld (IMG.FW_STAT 0) IMG.FW_STAT.PASSED == 1) = true := by
  decide +kernel
theorem test_serviceEntry :
    gives .serviceEntry { svc [] with start := { step := 10, epochDone := true, canDone := true, ethDone := true, fwDone := true } }
      (fun t => t.start.step == 15 && t.start.served) = true := by decide +kernel

/-- The epoch area with a record at step 10. -/
def epochAt (r : EpochRec) : State := recFlash 1 r (atStep 10)
/-- STATE and EPOCH as step 10 leaves them. -/
def epochSays (st e : Nat) (t : State) : Bool := t.start.epochDone && t.fld (IMG.EPOCH_STAT 0) IMG.EPOCH_STAT.STATE == st &&
  t.fld (IMG.EPOCH 0) IMG.EPOCH.EPOCH == e
theorem test_epochWrite :
    gives (.epochWrite true false true false) (epochAt { epoch := 7, floor := 3 }) (fun t => epochSays 1 8 t &&
      t.fld (RSTC.START 0) RSTC.START.EPOCH_OK == 1 && decide (t.flashRead (recAt 1 1) 12 = EpochRec.bytes { epoch := 8, floor := 3 })) = true ∧
    gives (.epochWrite false false true false) (epochAt { epoch := 7 }) (epochSays 2 7) = true := by decide +kernel
theorem test_epochWrite_others :
    gives (.epochWrite true false true false) (epochAt { epoch := 0xFFFF }) (epochSays 4 0xFFFF) = true ∧
    gives (.epochWrite true false true false) { atStep 10 with fuse := { epochInit := true } } (epochSays 3 0) = true ∧
    gives (.epochWrite true false true false) (atStep 10) (fun t => epochSays 1 1 t && t.fuse.epochInit) = true ∧
    gives (.epochWrite true false true false) { atStep 10 with ld := { flashAnswers := false } } (epochSays 5 0) = true := by decide +kernel
theorem test_epochBackgroundErase :
    gives (.epochBackgroundErase true) { svc [] with ld := { erasing := some 1 }, flash := [(4096, 0), (8192, 1)] }
      (fun t => decide (t.ld.erasing = none) && decide (t.flash = [(8192, 1)])) = true := by decide +kernel
theorem test_imgCmdRaiseFloor :
    reaches (.imgCmdRaiseFloor .spi (mk [(IMG.CMD.ARG, 9)])) (svc []) = true ∧
    gives (.imgCmdRaiseFloor .spi (mk [(IMG.CMD.ARG, 9)])) (svc []) (fun t => decide (t.ld.cmdBusy = some (1, 9)) &&
      t.fld (IMG.CMD 0) IMG.CMD.RESULT == 1) = true := by decide +kernel
theorem test_imgCmdSetPrefer :
    reaches (.imgCmdSetPrefer .spi (mk [(IMG.CMD.ARG, 2)])) (svc []) = true ∧
    gives (.imgCmdSetPrefer .spi (mk [(IMG.CMD.ARG, 2)])) (svc []) (fun t => decide (t.ld.cmdBusy = some (2, 2))) = true := by decide +kernel
/-- IMG.CMD in progress with a record of the epoch area. -/
def cmdRuns (op arg : Nat) (r : EpochRec) : State :=
  recFlash 1 r { svc [(IMG.ID 0, mk [(IMG.ID.GEN, 9)])] with ld := { cmdBusy := some (op, arg) } }
theorem test_imgCmdDone :
    gives (.imgCmdDone true false true false) (cmdRuns 1 9 { epoch := 7, floor := 3 }) (fun t => decide (t.ld.cmdBusy = none) &&
      t.fld (IMG.CMD 0) IMG.CMD.RESULT == 2 && decide (t.flashRead (recAt 1 1) 12 = EpochRec.bytes { epoch := 8, floor := 9 })) = true ∧
    gives (.imgCmdDone true false true false) (cmdRuns 1 2 { epoch := 7, floor := 3 }) (fun t => t.fld (IMG.CMD 0) IMG.CMD.RESULT == 3) = true := by
  decide +kernel
theorem test_imgCmdDone_others :
    gives (.imgCmdDone true false true false) (cmdRuns 2 1 { epoch := 0xFFFF }) (fun t => t.fld (IMG.CMD 0) IMG.CMD.RESULT == 5) = true ∧
    gives (.imgCmdDone true false true false) { svc [] with ld := { cmdBusy := some (2, 1) } } (fun t => t.fld (IMG.CMD 0) IMG.CMD.RESULT == 6) = true ∧
    gives (.imgCmdDone true false true false) { svc [] with ld := { cmdBusy := some (2, 1), flashAnswers := false } }
      (fun t => t.fld (IMG.CMD 0) IMG.CMD.RESULT == 4) = true := by decide +kernel

/-! ## Eyepiece -/

/-- The code in the STATUS of the newest SPI reply, and its data. -/
def spiCode (t : State) : Option (Byte × List Byte) :=
  match t.out with
  | .spi (b :: l) :: _ => some (b >>> 4, (l.drop 2).take (l.length - 4))
  | _ => none

theorem test_nop : gives (.nop 7) (svc []) (fun t => match t.out with
    | [.spi (8 :: 0 :: 7 :: _)] => true
    | _ => false) = true := by decide +kernel
theorem test_read :
    (svc []).regIs (EYE.MAC 0) = true ∧ slowRead (EYE.MAC 0) = false ∧ (svc []).parityBad (EYE.MAC 0) = false ∧
    gives (.read 1 (EYE.MAC 0) 0) (svc [(EYE.MAC 0, 0x123)]) (fun t => decide (spiCode t = some (0, [0, 0, 0, 0, 1, 0x23]))) = true := by
  decide +kernel
theorem test_read_slow :
    slowRead (SUP.VBAT 2) = true ∧
    gives (.read 1 (SUP.VBAT 2) 0) (svc []) (fun t => decide ((t.pendsAt 0).length = 1) && (spiCode t).any fun e => e.1 == 1) = true ∧
    gives (.read 1 (SUP.VBAT 2) 0) (svc [(EYE.CTRL 0, mk [(EYE.CTRL.COMPAT_SPI, 1)])]) (fun t => t.pendsAt 0 == [] &&
      (spiCode t).any fun e => e.1 == 0) = true := by decide +kernel
theorem test_write :
    (svc []).lands .spi (EYE.ETH 0) 1 = true ∧ (svc []).refuses (EYE.ETH 0) 1 = false ∧
    gives (.write 2 (EYE.ETH 0) (2 ^ 47 + 1)) (svc []) (fun t => t.reg (EYE.ETH 0) == 1 && (spiCode t).any fun e => e.1 == 0) = true := by
  decide +kernel
theorem test_peerStatus :
    gives (.peerStatus 3 0 0) (svc [(RSTC.CAUSE 0, 2)]) (fun t => decide (spiCode t = some (0, [0, 0, 0, 0, 8, 0]))) = true := by decide +kernel
theorem test_reset :
    gives (.reset 4 0 0xA55A) (svc []) (fun t => bit (t.reg (RSTC.CAUSE 0)) 4 && decide (t.ld = {})) = true ∧
    gives (.reset 4 0 0xA55B) (svc []) (fun t => !bit (t.reg (RSTC.CAUSE 0)) 4 && t.start.step == 15) = true := by decide +kernel
/-- Step 8, waiting for an image from the host. -/
def hostHold (l : LoaderState) : State := { keyed (atStep 8) with ld := { l with st := .holdHost, keyTried := true } }
theorem test_imageBegin :
    gives (.imageBegin 5 0 22) (hostHold {}) (fun t => t.ld.rxOpen && t.ld.rxTotal == 22 && (spiCode t).any fun e => e.1 == 0) = true ∧
    gives (.imageBegin 5 0 22) (svc []) (fun t => !t.ld.rxOpen && (spiCode t).any fun e => e.1 == 7) = true := by decide +kernel
theorem test_imageData :
    gives (.imageData 6 1 [0, 0, 0, 0, 0, 1, 0, 0, 0, 0, 0, 2]) (hostHold { rxOpen := true, rxNext := 1, rxTotal := 3 }) (fun t =>
      decide (t.ld.rxWords = [(1, 1), (2, 2)]) && t.ld.rxNext == 3) = true := by decide +kernel
/-- Host boot with a whole image received. -/
def received : State := hostHold { rxOpen := true, rxNext := 22, rxTotal := 22, rxWords := imageSparse }
theorem test_imageEnd : gives (.imageEnd 7 0 0) received (fun t => t.start.step == 9 && t.ld.slot == 2) = true := by decide +kernel
theorem test_flashErase :
    (svc []).flashDenied 0x18 0x4000 4096 = false ∧
    gives (.flashErase 8 0x4000 0) (svc []) (fun t => decide (t.ld.flashOp = .erase 0x4000) && t.fld (EYE.FLASH 0) EYE.FLASH.RESULT == 1) = true ∧
    gives (.flashErase 8 0x2000 0) (svc []) (fun t => decide (t.ld.flashOp = .none)) = true ∧
    gives (.flashErase 8 0x4000 0) { svc [] with ld := { st := .done, flashOp := .erase 0 } } (fun t => (spiCode t).any fun e => e.1 == 5) = true := by
  decide +kernel
theorem test_flashProgram :
    (svc []).flashDenied 0x19 0x40FE 2 = false ∧ (svc []).flashDenied 0x19 0x40FE 3 = true ∧
    gives (.flashProgram 9 0x40FE [1, 2]) (svc []) (fun t => decide (t.ld.flashOp = .program 0x40FE [1, 2])) = true := by decide +kernel
theorem test_flashRead :
    (svc []).flashDenied 0x1A 0 256 = false ∧
    gives (.flashRead 10 0 256) (svc []) (fun t => decide (t.pendsAt 0 = [{ opcode := 0x1A, data := 256 }])) = true := by decide +kernel
theorem test_flashOpDone_program :
    gives (.flashOpDone true) { svc [] with flash := [(7, 0xF0)], ld := { flashOp := .program 6 [1, 2] } } (fun t =>
      t.flashByte 6 == 1 && t.flashByte 7 == 0 && t.fld (EYE.FLASH 0) EYE.FLASH.RESULT == 3) = true := by decide +kernel
theorem test_flashOpDone :
    gives (.flashOpDone true) { svc [] with flash := [(4095, 1), (4096, 2), (8191, 3)], ld := { flashOp := .erase 4096 } } (fun t =>
      decide (t.flash = [(4095, 1)]) && t.fld (EYE.FLASH 0) EYE.FLASH.RESULT == 2) = true ∧
    gives (.flashOpDone true) { svc [] with flash := [(1, 1)], pends := [(0, [{}])], ld := { flashOp := .read 0 2 } } (fun t =>
      decide (t.pendsAt 0 = [{ st := .ready .ok [0xFF, 1] 0 }])) = true := by decide +kernel
theorem test_badFrame :
    hostLength [0, 7, 0, 0] = 4 ∧ hostBad [0, 7, 0, 0] = true ∧
    gives (.badFrame [0, 7, 0, 0]) (svc []) (fun t => decide (spiCode t = some (10, []))) = true := by decide +kernel
theorem test_spiAbortedCommand : gives (.spiAbortedCommand [1, 2]) (svc []) (fun t => decide (t.out = [])) = true := by decide +kernel
/-- A tagged frame with a body. -/
def tagged (ty : Nat) (body : List Byte) : List Byte :=
  List.replicate 12 1 ++ [0x81, 0, 0, 0] ++ beBytes 2 ty ++ body ++ List.replicate 4 0
/-- A queue that holds one frame of one cell, whole. -/
def oneRef (p f g c : Nat) (fr : Frame) : Nat × Queue :=
  let q := globalQueue p (queueNo f c g)
  (q, { refs := [{ id := 1, cells := 1, minC := 1, done := true, fr := { fr with dest := q, cls := c, flow := g, hop := true } }], head := 1 })
/-- A request waits in the queue of facet 63. -/
def eyeAsk (l : List (Nat × Nat)) (body : List Byte) : State :=
  { svc (on 0 9 :: l) with sw := { queues := [oneRef 0 63 0 0 { src := fk 0 5, data := tagged 0x88B5 body }] } }
theorem test_eyepieceEthRequest :
    let s := eyeAsk [(EYE.ETH 0, 0)] ([1, 0, 0, 1, 0, 0, 0, 0, 0, 1] ++ List.replicate 13 0)
    (s.waits 0 63 (fun g => g == 0)).isSome = true ∧
    gives .eyepieceEthRequest s (fun t => t.fld (EYE.ETH_STAT 0) EYE.ETH_STAT.ACCEPTED == 1) = true := by decide +kernel
theorem test_eyepieceEthRequest_drops :
    gives .eyepieceEthRequest (eyeAsk [] [2, 0, 0, 1]) (fun t => t.fld (EYE.ETH_STAT 0) EYE.ETH_STAT.OTHER_DROP == 1) = true ∧
    gives .eyepieceEthRequest (eyeAsk [(EYE.ETH 0, mk [(EYE.ETH.AUTH, 1)])] ([1, 0, 0, 1, 0, 0, 0, 0, 0, 1] ++ List.replicate 13 0))
      (fun t => t.fld (EYE.ETH_STAT 0) EYE.ETH_STAT.AUTH_DROP == 1) = true := by decide +kernel
/-- One pending entry of the SPI path. -/
def waitingOn (e : Pend) : State := { svc [] with pends := [(0, [e])], edges := 4000 }
theorem test_slowFetchDone :
    gives (.slowFetchDone 0 0) (waitingOn { opcode := 1, addr := SUP.VBAT 2, st := .fetch 0 })
      (fun t => decide (t.pendsAt 0 = [{ opcode := 1, addr := SUP.VBAT 2, st := .ready .ok (wordBytes ((svc []).live (SUP.VBAT 2))) 4000 }])) = true := by
  decide +kernel
theorem test_pendingEntryExpire :
    gives (.pendingEntryExpire 0 0) (waitingOn { st := .ready .ok [] 0 }) (fun t => decide (t.pendsAt 0 = [])) = true := by decide +kernel
theorem test_remoteTimeout :
    gives (.remoteTimeout 0 0) (waitingOn { st := .remote 1 0 }) (fun t => decide (t.pendsAt 0 = [{ st := .ready .timeout [] 4000 }]) &&
      logged (EYE.EVT 0) 3 (svc []) t) = true := by decide +kernel
theorem test_registerWrite :
    (svc []).hostWriter .spi = some .spi ∧ (svc []).lands .spi (EYE.ETH 0) 1 = true ∧
    gives (.registerWrite .spi (EYE.ETH 0) 1) (svc []) (fun t => t.reg (EYE.ETH 0) == 1 && decide (t.out = [.reply .spi .ok 0])) = true := by
  decide +kernel
theorem test_registerWrite_refused :
    gives (.registerWrite .spi (2 ^ 24 - 1) 1) (svc []) (fun t => decide (t.out = [.reply .spi .noSuch 0])) = true ∧
    gives (.registerWrite .spi (RSTC.STRAP 0) 1) (svc [(RSTC.START 0, 0)]) (fun t => t.reg (RSTC.STRAP 0) == 0) = true := by decide +kernel
theorem test_supMinmaxClear :
    reaches (.supMinmaxClear .spi 3 1) (svc []) = true ∧
    gives (.supMinmaxClear .spi 3 1) (svc []) (fun t =>
      gives (.postedWriteEffect 7 1) t fun z => (z.supply 3).vmin == 2400 && (z.supply 3).vmax == 2400) = true := by decide +kernel
theorem test_postedWriteEffect :
    gives (.postedWriteEffect 7 1) { svc [] with posted := [(256 * 7 + 1, some { addr := SUP.THRESH 3, value := 0, agent := .spi })] }
      (fun t => (t.postedAt 7 1).isNone) = true := by decide +kernel

/-! ## Fabric -/

/-- The package with a data plane, and FAB and QMGR of die 0 enabled. -/
def sw0 (w : Switch) (l : List (Nat × Nat) := []) : State :=
  { svc ([on 0 8, on 0 9, on 0 0x23] ++ l) with sw := { w with eths := (fk 0 3, { up := true }) :: w.eths }, edges := 4000 }
/-- An untagged frame of 100 bytes in its tagged form. -/
def body100 : List Byte := tagged 0x0800 (List.replicate 78 5)
/-- A frame for queue q that has been looked up, waiting in a receive buffer. -/
def rxTo (q c : Nat) : RxFrame := { fr := { cls := c, dest := q, src := fk 0 1, data := body100 }, bufCls := c, looked := true }
/-- Die 0 with that frame in the buffer of facet 1. -/
def asks (q : Nat) (l : List (Nat × Nat)) : State := sw0 { bufs := [(fk 0 1, [rxTo q 2])] } l
theorem test_frameAdmission :
    let s := asks (queueNo 3 2 0) []
    candidate (s.buf (fk 0 1)) 2 = some (rxTo (queueNo 3 2 0) 2) ∧ (s.offers 0 1 (rxTo (queueNo 3 2 0) 2)).length = 1 ∧
    s.offerClass 0 1 = some 2 ∧
    gives (.frameAdmission 0 1) s (fun t => t.buf (fk 0 1) == [] && (t.adm (fk 0 1)).length == 1 &&
      (t.queue (queueNo 3 2 0)).refs.length == 1 && counted (QMGR.CNT 0 0) 1 s t) = true := by decide +kernel
/-- The same frame held back: class 2 held since an edge, FAB or QMGR disabled. -/
def heldBack (since : Nat) (l : List (Nat × Nat)) : State :=
  { svc (on 0 0x23 :: l) with sw := { eths := [(fk 0 3, { up := true })], bufs := [(fk 0 1, [rxTo (queueNo 3 2 0) 2])], holds := [(ck 0 1 2, { held := true, since := since })] }, edges := 4000 }
theorem test_admissionRetry :
    let s := heldBack 0 [on 0 8, on 0 9]
    gives (.admissionRetry 0 1 2) s (fun t => !(t.hold (ck 0 1 2)).held && (t.queue (queueNo 3 2 0)).refs.length == 1) = true := by decide +kernel
/-- No cell of the shared pool is free, and the frame is for the far die of link 0. -/
def poolFull : State :=
  sw0 { bufs := [(fk 0 1, [{ rxTo 768 2 with fr := { cls := 2, dest := globalQueue (d2dFar 0 0) 768, data := List.replicate 900 1 } }])]
        queues := [(queueNo 9 0 0, { refs := [{ id := 1, cells := 131072, shC := 131072 }], head := 131072 })] }
theorem test_frameAdmission_refused :
    gives (.frameAdmission 0 1) poolFull (fun t => decide (t.hold (ck 0 1 2) = { held := true, since := 4000 }) && (t.buf (fk 0 1)).length == 1 &&
      counted (QMGR.CNT 0 1) 1 poolFull t) = true := by decide +kernel
theorem test_stormTimeout :
    let s := heldBack 100 [on 0 8, on 0 9]
    s.pastMs 100 100 = true ∧
    gives (.stormTimeout 0 1 2) s (fun t => t.buf (fk 0 1) == [] && (t.hold (ck 0 1 2)).drain && counted (FAB.STORM_CNT 0 1) 1 s t &&
      counted (FAB.CNT 0 5) 1 s t && logged (FAB.EVT 0) 0 s t && t.fld (FAB.STORM_LAST 0) FAB.STORM_LAST.CLASS == 2) = true ∧
    gives (.stormTimeout 0 1 2) (heldBack 1000 [on 0 8, on 0 9]) (fun t => !(t.hold (ck 0 1 2)).drain) = true := by decide +kernel
/-- A frame of two cells admitted at facet 30, one cell of which has come, and a whole one at facet 0. -/
def entering : State :=
  sw0 { adms := [(fk 0 0, [{ id := 1, fr := (rxTo 768 2).fr, cells := 1, got := 1, members := 1 }]),
    (fk 0 30, [{ id := 2, fr := { (rxTo 768 2).fr with data := List.replicate 400 1 }, cells := 2, got := 1, members := 1 }])] }
theorem test_frameEntry :
    entering.entryFacet 0 = some 30 ∧ (entering.entering 0 30).isSome = true ∧
    gives (.frameEntry 0) entering (fun t => decide ((t.adm (fk 0 30)).map (·.entered) = [1]) && counted (FAB.CNT 0 0) 1 entering t &&
      counted (FAB.CNT 0 1) 1 entering t && (t.adm (fk 0 0)).length == 1) = true := by decide +kernel
theorem test_frameEntry_whole :
    let s := sw0 { adms := [(fk 0 0, [{ id := 1, fr := (rxTo 768 2).fr, cells := 1, got := 1, members := 1 }])] }
    s.entryFacet 0 = some 0 ∧ gives (.frameEntry 0) s (fun t => t.adm (fk 0 0) == [] && counted (FAB.CNT 0 0) 1 s t) = true := by decide +kernel
/-- A link of die 1 with a frame of class 2 on its way to die 0, and the far units. -/
def crossing (credit : Nat) : State :=
  { svc [on 0 0x58, on 1 (0x58 + d2dLink (d2dFar 0 0) 0)] with
    sw := { d2d := [(4 * d2dFar 0 0 + d2dLink (d2dFar 0 0) 0, { up := true, credit := List.replicate 8 credit, sending := [(2, (rxTo 768 2).fr, 0)], back := [1, 2, 3, 4, 5, 6, 7, 8] })] } }
theorem test_d2dCellReceive :
    (crossing 9).enabled (d2dFar 0 0) (0x58 + d2dLink (d2dFar 0 0) 0) = true ∧
    gives (.d2dCellReceive 0 0 2) (crossing 9) (fun t => (t.buf (fk 0 56)).length == 1 && counted (D2D.CELLS_RX 0 0) 1 (crossing 9) t) = true ∧
    gives (.d2dCellReceive 0 0 2) (crossing 0) (fun t => (t.buf (fk 0 56)).length == 0 && decide (t.regs = (crossing 0).regs) &&
      (t.link (4 * d2dFar 0 0 + d2dLink (d2dFar 0 0) 0)).noCredit.any fun e => e.1 == 2) = true := by decide +kernel
theorem test_d2dCreditReturn :
    gives (.d2dCreditReturn 0 0 2) (crossing 9) (fun t => (t.link 0).credit.getD 2 0 == ((crossing 9).link 0).credit.getD 2 0 + 3 &&
      (t.link (4 * d2dFar 0 0 + d2dLink (d2dFar 0 0) 0)).back.getD 2 9 == 0) = true := by decide +kernel
theorem test_d2dCreditViolation :
    gives (.d2dCreditViolation 0 0 2) (crossing 9) (fun t => bit (t.reg (D2D.EVT 0 0)) 1 && bit (t.reg (D2D.EVT 0 0)) 2 &&
      (t.link (4 * d2dFar 0 0 + d2dLink (d2dFar 0 0) 0)).sending == []) = true := by decide +kernel
theorem test_cellCheckFailure :
    ((rxTo 768 2).fr.cellFails 1 0 1) = true ∧ (rxTo 768 2).fr.cellFails 1 0 0 = false ∧
    gives (.cellCheckFailure 0 0 2 1 0 1 false) entering (fun t => t.adm (fk 0 0) == [] && counted (FAB.CNT 0 6) 1 entering t &&
      logged (FAB.EVT 0) 2 entering t && t.fld (FAB.CELL_ERR_LAST 0) FAB.CELL_ERR_LAST.CLASS == 2) = true := by decide +kernel
theorem test_cellCheckFailure_link :
    let s := sw0 { bufs := [(fk 0 56, [{ rxTo 768 2 with got := 1 }])] }
    gives (.cellCheckFailure 0 56 2 3 0 0 true) s (fun t => t.buf (fk 0 56) == [] && logged (D2D.EVT 0 0) 0 s t &&
      counted (D2D.CHECK_ERRS 0 0) 1 s t) = true := by decide +kernel
theorem test_stalledCell : entering.pastMs 0 1 = true ∧ gives (.stalledCell 0) entering (logged (FAB.EVT 0) 5 entering) = true := by decide +kernel
theorem test_paceSample :
    let s := sw0 { pace := [(0, 1024)] } [(FAB.PACE 0, 0xFFFF00000000)]
    gives (.paceSample 0 1023) s (fun t => t.paceNow 0 == 1023 && logged (FAB.EVT 0) 4 s t) = true ∧
    gives (.paceSample 0 1024) s (fun t => t.paceNow 0 == 1024 && t.reg (FAB.EVT 0) == 0) = true := by decide +kernel
theorem test_repCmdRead :
    reaches (.repCmdRead .spi 0 5) (svc []) = true ∧
    gives (.repCmdRead .spi 0 5) (svc []) (fun t => t.fld (FAB.REP_CMD 0) FAB.REP_CMD.RESULT == 0 && decide (t.out = [.reply .spi .ok 0])) = true := by
  decide +kernel
theorem test_repCmdWrite :
    let s := svc [(FAB.REP_W0 0, 6)]
    reaches (.repCmdWrite .spi 0 5) s = true ∧ s.repBad 0 (s.reg (FAB.REP_W1 0)) = false ∧
    gives (.repCmdWrite .spi 0 5) s (fun t => (t.repEntry 0 5).1 == 6) = true := by decide +kernel
theorem test_fabClrMax :
    reaches (.fabClrMax .spi 0 0) (svc []) = true ∧
    gives (.fabClrMax .spi 0 0) (svc [(D2D.HOLD_MAX 0 0, 9)]) (fun t => t.reg (D2D.HOLD_MAX 0 0) == 0 &&
      t.fld (FAB.PACE 0) FAB.PACE.MIN == 0xFFFF) = true := by decide +kernel

/-! ## Queues -/

/-- One frame waits whole at the head of a queue of facet 3, which is up. -/
def waiting3 : State := sw0 { queues := [oneRef 0 3 0 2 { data := body100 }] }
theorem test_egressSelect :
    waiting3.facetDown 0 3 = false ∧ (waiting3.eth (fk 0 3)).tx = none ∧ waiting3.plcaShut 0 3 = false ∧
    (waiting3.pick 0 3 (fun q v => waiting3.ethEligible 0 3 q v)).isSome = true ∧
    gives (.egressSelect 0 3) waiting3 (fun t => (t.eth (fk 0 3)).tx.any fun fr => fr.cls == 2) = true := by decide +kernel
theorem test_egressSelect_link :
    let s := { svc [on 0 0x58] with sw := { queues := [oneRef 0 56 0 2 { data := body100 }], d2d := [(0, { up := true, credit := List.replicate 8 9 })] } }
    gives (.egressSelect 0 56) s (fun t => (t.link 0).sending.any fun e => e.1 == 2 && e.2.2 == 0) = true := by decide +kernel
theorem test_facetDownFlush :
    let s := { svc [] with sw := { queues := [oneRef 0 3 0 2 { data := body100 }, oneRef 0 5 0 2 { data := body100 }] } }
    s.facetDown 0 3 = true ∧
    gives (.facetDownFlush 0 3) s (fun t => (t.queue (queueNo 3 2 0)).refs == [] && (t.queue (queueNo 5 2 0)).refs.length == 1 &&
      bit (t.reg (QMGR.EVT 0)) 4) = true := by decide +kernel
theorem test_flushCmd :
    let v := mk [(QMGR.FLUSH_CMD.TARGET, 768), (QMGR.FLUSH_CMD.SCOPE, 2)]
    reaches (.flushCmd .spi 0 v) waiting3 = true ∧ flushCovers 768 2 (queueNo 3 2 0) = true ∧ waiting3.heldQueue 0 3 = none ∧
    gives (.flushCmd .spi 0 v) waiting3 (fun t => t.fld (QMGR.FLUSH_CMD 0) QMGR.FLUSH_CMD.RESULT == 1 && (t.queue (queueNo 3 2 0)).refs == [] &&
      (t.flush 0).any fun u => u.removed == 1) = true ∧
    gives (.flushCmd .spi 0 (mk [(QMGR.FLUSH_CMD.SCOPE, 3)])) waiting3 (fun t => (t.flush 0).isNone && decide (t.out = [.reply .spi .badValue 0])) = true := by
  decide +kernel
theorem test_flushDone :
    let s := { svc [(QMGR.FLUSH_CMD 0, mk [(QMGR.FLUSH_CMD.RESULT, 1)])] with sw := { flushes := [(0, some { removed := 5 })] } }
    gives (.flushDone 0) s (fun t => (t.flush 0).isNone && t.fld (QMGR.FLUSH_CMD 0) QMGR.FLUSH_CMD.RESULT == 2 &&
      t.fld (QMGR.FLUSH_CMD 0) QMGR.FLUSH_CMD.REMOVED == 5 && counted (QMGR.CNT 0 5) 5 s t && logged (QMGR.EVT 0) 4 s t) = true := by decide +kernel

/-- A queue of 40 one-cell frames with spilling on after 8 cells, head window 8, no shared cell charged; n cells are spilled already. -/
def spilling (n size : Nat) : State :=
  { sw0 { queues := [(768, { refs := List.replicate 40 { cells := 1, done := true, fr := { dest := 768, data := body100 } }, head := 8, spilled := n })] }
      [on 0 0xA, (SPILL.REGION 0, mk [(SPILL.REGION.SIZE, size)]), (QMGR.PROF_B 0 0, mk [(QMGR.PROF_B.SPILL, 1), (QMGR.PROF_B.SPILL_TRIG, 1), (QMGR.PROF_B.HEAD_KEEP, 1), (QMGR.PROF_B.SPILL_MAX, 1)])] with
    fuse := { memUsed := true } }
theorem test_spillBlock :
    (spilling 0 1).spillOn 0 = true ∧ (spilling 0 1).spillFld 0 768 QMGR.PROF_B.SPILL = 1 ∧
    gives (.spillBlock 0 768 false) (spilling 0 1) (fun t => (t.queue 768).spilled == 8 && counted (SPILL.CNT 0 0) 1 (spilling 0 1) t) = true ∧
    gives (.spillBlock 0 768 true) (spilling 0 1) (fun t => logged (SPILL.EVT 0) 2 (spilling 0 1) t && counted (SPILL.CNT 0 3) 8 (spilling 0 1) t) = true := by
  decide +kernel
theorem test_spillBlock_full :
    let s := setRegs (spilling 0 1) [(QMGR.PROF_B 0 0, mk [(QMGR.PROF_B.SPILL, 1), (QMGR.PROF_B.SPILL_TRIG, 1), (QMGR.PROF_B.HEAD_KEEP, 1)])]
    gives (.spillBlock 0 768 false) s (fun t => (t.queue 768).full && logged (SPILL.EVT 0) 0 s t && (t.queue 768).spilled == 0) = true := by
  decide +kernel
/-- The head window is empty and eight cells are spilled. -/
def fetching : State := { spilling 8 1 with sw := { (spilling 8 1).sw with queues := [(768, { refs := List.replicate 40 { cells := 1, done := true, fr := { dest := 768, data := body100 } }, spilled := 8 })] } }
theorem test_fetchBlock :
    gives (.fetchBlock 0 768 0 0) fetching (fun t => (t.queue 768).spilled == 0 && counted (SPILL.CNT 0 1) 1 fetching t) = true ∧
    gives (.fetchBlock 0 768 2 0) fetching (fun t => logged (SPILL.EVT 0) 2 fetching t && counted (SPILL.CNT 0 3) 8 fetching t) = true := by decide +kernel

/-- Port 7 of die 0, owned by the SPI path and bound to a queue of facet 63, with words of a frame left. -/
def port7 (words : List Word) : State :=
  sw0 { queues := [oneRef 0 63 0 1 { data := body100 }], ports := [(7, { words := words })] }
    [(QMGR.CQ_CFG 0 7, mk [(QMGR.CQ_CFG.OWNER, 1), (QMGR.CQ_CFG.QUEUE, queueNo 63 1 0)])]
theorem test_cqDataRead :
    (port7 []).reads .spi (QMGR.CQ_DATA 0 7) = some .spi ∧ (port7 []).portOwner 0 7 .spi = true ∧
    ((port7 []).queue (globalQueue 0 ((port7 []).portQueue 0 7))).front.isSome = true ∧
    gives (.cqDataRead .spi 0 7) (port7 []) (fun t => (t.port 7).words.length == 17 && decide (t.regs = (port7 []).regs)) = true ∧
    gives (.cqDataRead .spi 0 7) (port7 [4, 5]) (fun t => decide (t.port 7 = { words := [5], last := 4 } ∧ t.out = [.reply .spi .ok 4])) = true := by
  decide +kernel
theorem test_dropRest :
    reaches (.dropRest .spi 0 7 1) (port7 [4, 5]) = true ∧
    gives (.dropRest .spi 0 7 1) (port7 [4, 5]) (fun t => (t.port 7).words == [] && (t.queue (queueNo 63 1 0)).refs == []) = true := by decide +kernel
theorem test_qCmdRead :
    let v := mk [(QMGR.Q_CMD.INDEX, queueNo 63 1 0), (QMGR.Q_CMD.OP, 1)]
    reaches (.qCmdRead .spi 0 v) (port7 []) = true ∧
    gives (.qCmdRead .spi 0 v) (port7 []) (fun t => t.fld (QMGR.Q_W0 0) QMGR.Q_W0.FRAMES == 1 && t.fld (QMGR.Q_CMD 0) QMGR.Q_CMD.RESULT == 0) = true := by
  decide +kernel
theorem test_qCmdWrite :
    let v := mk [(QMGR.Q_CMD.INDEX, 768), (QMGR.Q_CMD.OP, 2)]
    let s := svc [(QMGR.Q_W0 0, mk [(QMGR.Q_W0.PROFILE, 9)])]
    reaches (.qCmdWrite .spi 0 v) s = true ∧ gives (.qCmdWrite .spi 0 v) s (fun t => t.profOf 0 768 == 9) = true ∧
    gives (.qCmdWrite .spi 0 v) (setRegs s [on 0 9]) (fun t => t.profOf 0 768 == 0 && t.fld (QMGR.Q_CMD 0) QMGR.Q_CMD.RESULT == 2) = true := by
  decide +kernel

/-! ## Lookup, table DMA and gates -/

/-- A MAC entry of FID 0 for an address, in way 0 of its bucket. -/
def macAt (mac w1 : Nat) : Sparse Word :=
  let i := State.reset.bucket 0 0 mac * 8
  [(tblKey 0 0x43 i 0, BitVec.ofNat 48 mac), (tblKey 0 0x43 i 1, BitVec.ofNat 48 (mk [(MacE.VALID, 1)] + w1))]
/-- A tagged frame from 02:..:07 to 02:..:09. -/
def toNine : List Byte := beBytes 6 0x020000000009 ++ beBytes 6 0x020000000007 ++ [0x81, 0, 0, 1, 8, 0] ++ List.replicate 50 0
/-- That frame in facet 1's buffer, CLS and LPM on; nothing learned; the address known at facet 5 of die 0. -/
def looks (r : List Byte) (l : List (Nat × Nat)) : State :=
  { sw0 { bufs := [(fk 0 1, [{ fr := { data := r } }])] } ((CLS.PORT 0 1, 0) :: l) with
    tbls := (tblKey 0 0x42 1 1, BitVec.ofNat 48 (2 ^ 44)) :: macAt 0x020000000009 (mk [(MacE.DEST, 5)]) }
theorem test_frameLookup :
    let s := looks toNine [on 0 0x10, on 0 0x11]
    s.toEye toNine = false ∧ s.acceptBad 0 1 toNine = false ∧ s.vlanBad 0 1 1 = false ∧ (s.macFind 0 0 0x020000000009).isSome = true ∧
    gives (.frameLookup 0 1 false) s (fun t => (t.buf (fk 0 1)).any fun r => r.looked && r.fr.dest == queueNo 5 r.fr.cls 0 && r.got == 1) = true := by
  decide +kernel
theorem test_frameLookup_held :
    gives (.frameLookup 0 1 false) (looks toNine []) (fun t => (t.hold (ck 0 1 0)).held && (t.buf (fk 0 1)).any fun r => !r.looked) = true := by
  decide +kernel
theorem test_frameLookup_eye :
    let s := looks (beBytes 6 0x0123 ++ beBytes 6 7 ++ [0x81, 0, 0, 1, 0x88, 0xB5] ++ List.replicate 50 0) [on 0 0x10, on 0 0x11, (EYE.MAC 0, 0x0123), (EYE.ETH_FACETS 0 0, 2)]
    gives (.frameLookup 0 1 false) s (fun t => (t.buf (fk 0 1)).any fun r => r.looked && qFacet r.fr.dest == 63) = true := by decide +kernel
theorem test_frameLookup_accept :
    let s := looks toNine [on 0 0x10, on 0 0x11, (CLS.PORT 0 1, mk [(CLS.PORT.ACCEPT, 2)])]
    s.acceptBad 0 1 toNine = true ∧
    gives (.frameLookup 0 1 false) s (fun t => t.buf (fk 0 1) == [] && counted (CLS.CNT 0 5) 1 s t &&
      t.fld (CLS.DROP_LAST 0) CLS.DROP_LAST.FACET == 1) = true := by decide +kernel
/-- A delete notice for the known address, remote at facet 64, waits at the far end of link 0. -/
def noticed : State :=
  { svc [] with tbls := macAt 9 (mk [(MacE.REMOTE, 1), (MacE.DEST, 64)])
                sw := { d2d := [(4 * d2dFar 0 0 + d2dLink (d2dFar 0 0) 0, { notices := [(false, 0, 9, 64)] })] } }
theorem test_learnNoticeReceive :
    noticed.macFind 0 0 9 = some (State.reset.bucket 0 0 9 * 8) ∧
    gives (.learnNoticeReceive 0 0 false) noticed (fun t => (t.macFind 0 0 9).isNone) = true ∧
    gives (.learnNoticeReceive 0 0 true) noticed (fun t => (t.macFind 0 0 9).isSome && counted (CLS.CNT 0 9) 1 noticed t) = true := by decide +kernel
theorem test_ageingSweep :
    let s := { svc [on 0 0x10] with tbls := macAt 9 (mk [(MacE.DEST, 5)]) }
    Sparse.canon tblBlank s.tbls = true ∧
    gives (.ageingSweep 0) s (fun t => (t.macFind 0 0 9).any fun i => fget (t.mac1 0 i) MacE.AGE == 1) = true := by decide +kernel
theorem test_lpmInsert :
    let v := mk [(LPM.CMD.OP, 1), (LPM.CMD.LEN, 24), (LPM.CMD.NEXT_HOP, 77)]
    let s := svc [(LPM.KEY_0 0, 0x0A000100)]
    reaches (.lpmInsert .spi 0 v) s = true ∧ s.lpmLocked 0 = false ∧ s.lpmFind 0 false 24 = none ∧
    gives (.lpmInsert .spi 0 v) s (fun t => t.fld (LPM.CMD 0) LPM.CMD.RESULT == 2 && fget (t.tbl 0 0x44 0 0) ⟨10, 12⟩ == 77) = true := by decide +kernel
/-- A package with that route. -/
def routed77 : State := (Act.lpmInsert 0 false 24 77).run (svc [(LPM.KEY_0 0, 0x0A000100)])
theorem test_lpmInsert_again :
    gives (.lpmInsert .spi 0 (mk [(LPM.CMD.OP, 1), (LPM.CMD.LEN, 24), (LPM.CMD.NEXT_HOP, 78)])) routed77
      (fun t => fget (t.tbl 0 0x44 0 0) ⟨10, 12⟩ == 78) = true ∧
    gives (.lpmInsert .spi 0 (mk [(LPM.CMD.OP, 1)])) (setRegs routed77 [(TDMA.LOCK 0 2, 1)]) (fun t => t.fld (LPM.CMD 0) LPM.CMD.RESULT == 5) = true := by
  decide +kernel
theorem test_lpmDelete :
    let v := mk [(LPM.CMD.OP, 2), (LPM.CMD.LEN, 24)]
    reaches (.lpmDelete .spi 0 v) routed77 = true ∧ (routed77.lpmFind 0 false 24).isSome = true ∧
    gives (.lpmDelete .spi 0 v) routed77 (fun t => t.fld (LPM.CMD 0) LPM.CMD.RESULT == 2 && decide (t.tblWords 0 0x44 0 2 = [0, 0])) = true ∧
    gives (.lpmDelete .spi 0 v) (svc []) (fun t => t.fld (LPM.CMD 0) LPM.CMD.RESULT == 3) = true := by decide +kernel
theorem test_lpmFind :
    let s := setRegs routed77 [(LPM.KEY_0 0, 0x0A0001FF)]
    reaches (.lpmFind .spi 0 (mk [(LPM.CMD.OP, 3)])) s = true ∧
    gives (.lpmFind .spi 0 (mk [(LPM.CMD.OP, 3)])) s (fun t => t.fld (LPM.CMD 0) LPM.CMD.NEXT_HOP == 77) = true ∧
    gives (.lpmFind .spi 0 (mk [(LPM.CMD.OP, 3)])) (svc []) (fun t => t.fld (LPM.CMD 0) LPM.CMD.RESULT == 3) = true := by decide +kernel

/-- JOB of a table job on one MAC entry. -/
def job (op : Nat) : Nat := mk [(TDMA.JOB.OP, op), (TDMA.JOB.TABLE, 0x43), (TDMA.JOB.INDEX, 8)]
/-- Is a job accepted on channel 2? -/
def accepted (i : Instr) (op : Nat) : Bool :=
  reaches i (svc []) && gives i (svc []) (fun t => decide (t.tjob 2 = some { op := op, table := 0x43, first := 8, left := 1, part := 16 }) &&
    t.fld (TDMA.JOB_STAT 0 2) TDMA.JOB_STAT.RESULT == 1)
theorem test_tdmaRead : accepted (.tdmaRead .spi [] 0 2 (job 1)) 1 = true := by decide +kernel
theorem test_tdmaWrite : accepted (.tdmaWrite .spi [] 0 2 (job 2)) 2 = true := by decide +kernel
theorem test_tdmaFind : accepted (.tdmaFind .spi [] 0 2 (job 3)) 3 = true := by decide +kernel
theorem test_tdmaInsert : accepted (.tdmaInsert .spi [] 0 2 (job 4)) 4 = true := by decide +kernel
theorem test_tdmaDelete : accepted (.tdmaDelete .spi [] 0 2 (job 5)) 5 = true := by decide +kernel
/-- A job at work on channel 2, with the MAC entry of address 9 in the table and its key in the buffer. -/
def jobAt (y : TdmaJob) : State :=
  { svc [on 0 0x13, (TDMA.BUF 0 0, 9), (TDMA.BUF 0 1, mk [(MacE.VALID, 1), (MacE.DEST, 6)])] with
    tbls := macAt 9 (mk [(MacE.DEST, 5)]), sw := { tdma := [(2, some y)] } }
/-- The entry's index. -/
def at9 : Nat := State.reset.bucket 0 0 9 * 8
theorem test_tdmaJobDone :
    gives (.tdmaJobDone 0 2) (jobAt { op := 3, table := 0x43, left := 1 }) (fun t => (t.tjob 2).isNone && t.fld (TDMA.JOB_STAT 0 2) TDMA.JOB_STAT.INDEX == at9 &&
      bit (t.reg (TDMA.EVT 0)) 0) = true ∧
    gives (.tdmaJobDone 0 2) (jobAt { op := 4, table := 0x43, left := 1 }) (fun t => fget (t.mac1 0 at9) MacE.DEST == 6) = true ∧
    gives (.tdmaJobDone 0 2) (jobAt { op := 5, table := 0x43, left := 1 }) (fun t => (t.macFind 0 0 9).isNone) = true ∧
    gives (.tdmaJobDone 0 2) (jobAt { result := 4 }) (fun t => t.fld (TDMA.JOB_STAT 0 2) TDMA.JOB_STAT.RESULT == 4) = true := by decide +kernel
theorem test_tdmaJobDone_moves :
    gives (.tdmaJobDone 0 2) (jobAt { op := 1, table := 0x43, first := at9, left := 1 }) (fun t => holds t (TDMA.BUF 0 0) 9 &&
      t.fld (TDMA.JOB_STAT 0 2) TDMA.JOB_STAT.RESULT == 2) = true ∧
    gives (.tdmaJobDone 0 2) (jobAt { op := 2, table := 0x46, first := 3, left := 1 }) (fun t => t.tbl 0 0x46 3 0 == 9 &&& tblMask 0x46 0) = true ∧
    gives (.tdmaJobDone 0 2) (jobAt { op := 1, table := 0x43, left := 1, mem := some 0, part := 1 }) (fun t =>
      t.fld (TDMA.JOB_STAT 0 2) TDMA.JOB_STAT.RESULT == 5) = true := by decide +kernel
theorem test_tdmaLockExpire :
    let s := { svc [(TDMA.LOCK 0 1, 2), (TDMA.CFG 0, mk [(TDMA.CFG.LOCK_MAX_MS, 1)])] with sw := { dieTime := [(0, 2 ^ 32 * 2000000)] } }
    bit (s.reg (TDMA.LOCK 0 1)) 1 = true ∧ s.pastMs (s.lockedAt 33) (s.fld (TDMA.CFG 0) TDMA.CFG.LOCK_MAX_MS) = false ∧
    gives (.tdmaLockExpire 0 1 1) { s with edges := 4000 } (fun t => t.reg (TDMA.LOCK 0 1) == 0 && logged (TDMA.EVT 0) 2 s t) = true := by decide +kernel
/-- A gate list of two entries at facet 1 with a change pending, in the bank in use. -/
def gated (g : Gates) (l : List (Nat × Nat)) : State :=
  { svc ([(PSFP.GCL_CTRL 0 1, mk [(PSFP.GCL_CTRL.ENABLE, 1), (PSFP.GCL_CTRL.ADMIN_LEN, 2)]), (PSFP.GCL_CYCLE 0 1, 5000)] ++ l) with sw := { gates := [(fk 0 1, g)] } }
theorem test_gclConfigChange :
    let v := mk [(PSFP.GCL_CTRL.ENABLE, 1), (PSFP.GCL_CTRL.ADMIN_LEN, 2), (PSFP.GCL_CTRL.CONFIG_CHANGE, 1)]
    reaches (.gclConfigChange .spi 0 1 v) (gated {} []) = true ∧
    gives (.gclConfigChange .spi 0 1 v) (gated {} []) (fun t => t.flag (PSFP.GCL_STAT 0 1) PSFP.GCL_STAT.CONFIG_PENDING && (t.gate (fk 0 1)).changeAt == 5000) = true ∧
    gives (.gclConfigChange .spi 0 1 (mk [(PSFP.GCL_CTRL.CONFIG_CHANGE, 1)])) (gated {} []) (fun t => decide (t.out = [.reply .spi .badValue 0])) = true := by
  decide +kernel
theorem test_gclSwitch :
    let s := gated { changeAt := 0 } [(PSFP.GCL_STAT 0 1, mk [(PSFP.GCL_STAT.CONFIG_PENDING, 1)])]
    gives (.gclSwitch 0 1) s (fun t => t.fld (PSFP.GCL_STAT 0 1) PSFP.GCL_STAT.OPER_BANK == 1 && t.fld (PSFP.GCL_STAT 0 1) PSFP.GCL_STAT.OPER_LEN == 2 &&
      (t.gate (fk 0 1)).cycle == 5000) = true := by decide +kernel
theorem test_gateEntryBegin :
    let s := gated { cycle := 5000 } [(PSFP.GCL_STAT 0 1, mk [(PSFP.GCL_STAT.OPER_LEN, 2)])]
    (s.gateList 0 1).length = 2 ∧ gives (.gateEntryBegin 0 1) s (fun t => (t.gate (fk 0 1)).pos == 1) = true ∧
    gives (.gateEntryBegin 0 1) { s with sw := { gates := [(fk 0 1, { pos := 1, cycle := 5000 })] } } (fun t =>
      (t.gate (fk 0 1)).pos == 0 && (t.gate (fk 0 1)).began == 5000) = true := by decide +kernel

/-! ## Ethernet -/

/-- Facet f of die 0 enabled, its link up, with receive thresholds, other registers and a facet state. -/
def eth (f : Nat) (l : List (Nat × Nat)) (e : EthFacet) (buf : List RxFrame := []) : State :=
  { svc ([on 0 8, on 0 9, on 0 (0x20 + f), (ETH.RXBUF 0 f, mk [(ETH.RXBUF.XOFF, 3), (ETH.RXBUF.XON, 1), (ETH.RXBUF.XOFF_TOTAL, 900)]),
      (ETH.MODE 0 f, mk [(ETH.MODE.MODE, 1), (ETH.MODE.MAX_LEN, 1522), (ETH.MODE.ADDR_FILTER, 0), (ETH.MODE.LINK_HOLD_MS, 10), (ETH.MODE.UP_HOLD_MS, 10)])] ++ l) with
    sw := { eths := [(fk 0 f, { e with up := true })], bufs := [(fk 0 f, buf)] }, edges := 4000 }
/-- A frame of 64 bytes with a right FCS. -/
def good64 : List Byte := let b := beBytes 6 0x020000000009 ++ beBytes 6 0x020000000007 ++ [8, 0] ++ List.replicate 46 3; b ++ fcsOf b
theorem test_ethReceive :
    let s := eth 3 [] {}
    s.rxOverflow 0 3 (s.bufClass 0 3 good64) 1 = false ∧ rxFailure good64 false 1522 = none ∧ s.isMacControl 0 3 good64 = false ∧
    s.filterOk 0 3 (frDa good64) = true ∧ s.macsec 0 3 = false ∧
    gives (.ethReceive 0 3 good64 none false 0 0) s (fun t => counted (ETH.CNT 0 3 0) 1 s t && counted (ETH.CNT 0 3 1) 64 s t &&
      decide ((t.buf (fk 0 3)).map (fun r => r.fr.data) = [good64])) = true := by decide +kernel
theorem test_ethReceive_fails :
    gives (.ethReceive 0 3 (good64.drop 1) none false 0 0) (eth 3 [] {}) (fun t => counted (ETH.CNT 0 3 11) 1 (eth 3 [] {}) t) = true ∧
    gives (.ethReceive 0 3 good64 (some 9) false 0 0) (eth 3 [] {}) (fun t => counted (ETH.CNT 0 3 9) 1 (eth 3 [] {}) t) = true ∧
    gives (.ethReceive 0 3 (good64 ++ [0]) none false 0 0) (eth 3 [] {}) (fun t => counted (ETH.CNT 0 3 8) 1 (eth 3 [] {}) t) = true := by decide +kernel
theorem test_ethReceive_filtered :
    let s := eth 3 [(ETH.MODE 0 3, mk [(ETH.MODE.MODE, 4), (ETH.MODE.MAX_LEN, 1522), (ETH.MODE.ADDR_FILTER, 2)])] {}
    gives (.ethReceive 0 3 good64 none false 0 0) s (fun t => counted (ETH.CNT 0 3 15) 1 s t && t.buf (fk 0 3) == []) = true := by decide +kernel
theorem test_ethReceive_overflow :
    let s := eth 3 [(ETH.RXBUF 0 3, 0)] {}
    gives (.ethReceive 0 3 good64 none false 0 0) s (fun t => counted (ETH.CNT 0 3 14) 1 s t && logged (ETH.EVT 0 3) 2 s t) = true := by decide +kernel
/-- Flow control by PAUSE, honoured. -/
def flow (more : Nat) : Nat × Nat := (ETH.FLOW 0 3, mk [(ETH.FLOW.FC_MODE, 1), (ETH.FLOW.HONOUR, 1), (ETH.FLOW.QUANTA, 7), (ETH.FLOW.LIMIT_MS, 0)] + more)
theorem test_pauseReceive :
    let s := eth 3 [flow 0] {}
    let b := macFrame 5 1 [0, 9]
    s.isMacControl 0 3 b = true ∧ bytesAt b 14 2 = 1 ∧
    gives (.pauseReceive 0 3 b) s (fun t => counted (ETH.CNT 0 3 5) 1 s t && (t.eth (fk 0 3)).pauses.length == 8 &&
      (t.eth (fk 0 3)).pauses.all fun x => x.2.stop == quantaNs 9 (s.lineRate 0 3)) = true ∧
    gives (.pauseReceive 0 3 (macFrame 5 1 [0, 0])) (eth 3 [flow 0] { pauses := [(2, { stop := 5 })] }) (fun t => (t.eth (fk 0 3)).pauses == []) = true := by
  decide +kernel
theorem test_pauseExpire :
    gives (.pauseExpire 0 3 2) (eth 3 [] { pauses := [(2, { stop := 0 }), (3, { stop := 0 })] }) (fun t => decide ((t.eth (fk 0 3)).pauses.map (·.1) = [3])) = true := by
  decide +kernel
theorem test_pauseLimit :
    let s := eth 3 [flow 0] { pauses := [(2, { stop := 9 })] }
    gives (.pauseLimit 0 3 2) s (fun t => (t.eth (fk 0 3)).pauses == [] && (t.eth (fk 0 3)).override.any (fun x => x.1 == 2) && logged (ETH.EVT 0 3) 3 s t) = true := by
  decide +kernel
theorem test_pauseOverrideEnd :
    gives (.pauseOverrideEnd 0 3 2) (eth 3 [] { override := [(2, 3990), (2, 5)] }) (fun t => decide ((t.eth (fk 0 3)).override = [(2, 3990)])) = true := by decide +kernel
/-- Three cells in the receive buffer of facet 3. -/
def three : List RxFrame := [{ fr := { data := List.replicate 700 1 } }]
theorem test_xoffCross :
    let s := eth 3 [flow 4] {} three
    s.rxCells 0 3 = 3 ∧ gives (.xoffCross 0 3) s (fun t => decide ((t.eth (fk 0 3)).xoff = [0, 1, 2, 3, 4, 5, 6, 7] ∧
      t.out = [.eth 0 3 (macFrame 0 1 [0, 7])]) && counted (ETH.CNT 0 3 31) 1 s t) = true := by decide +kernel
theorem test_xonCross :
    let s := eth 3 [flow 4] { xoff := [0, 1, 2, 3, 4, 5, 6, 7] }
    gives (.xonCross 0 3) s (fun t => decide ((t.eth (fk 0 3)).xoff = [] ∧ t.out = [.eth 0 3 (macFrame 0 1 [0, 0])])) = true := by decide +kernel
theorem test_pauseRefresh :
    let s := eth 3 [flow 4] { xoff := [0, 1, 2, 3, 4, 5, 6, 7] }
    gives (.pauseRefresh 0 3) s (fun t => decide (t.out = [.eth 0 3 (macFrame 0 1 [0, 7])])) = true := by decide +kernel
/-- A frame in transmission at facet 3. -/
def sending3 (f : Nat) (fr : Frame) : State := eth f [] { tx := some fr }
theorem test_ethTransmit :
    let s := sending3 3 { dest := 768, data := body100 }
    s.facetDown 0 3 = false ∧ s.resetFrame { dest := 768, data := body100 } = false ∧
    gives (.ethTransmit 0 3 0 false false) s (fun t => (t.eth (fk 0 3)).tx.isNone && counted (ETH.CNT 0 3 26) 1 s t && match t.out with
      | [.eth 0 3 b] => b.length == 100 && fcsOk b
      | _ => false) = true := by decide +kernel
theorem test_ethTransmit_late :
    let s := sending3 24 { dest := 768, data := body100 }
    gives (.ethTransmit 0 24 2 true false) s (fun t => (t.eth (fk 0 24)).tx.isNone && counted (ETH.CNT 0 24 38) 1 s t && counted (ETH.CNT 0 24 36) 2 s t &&
      decide (t.out = [])) = true := by decide +kernel
theorem test_txAbort :
    let s := sending3 3 { dest := 768, data := body100 }
    gives (.txAbort 0 3 20 true) s (fun t => (t.eth (fk 0 3)).tx.isNone && counted (ETH.CNT 0 3 33) 1 s t && counted (ETH.CNT 0 3 34) 1 s t && match t.out with
      | [.eth 0 3 b] => b.length == 24 && !fcsOk b
      | _ => false) = true := by decide +kernel

theorem test_linkUp :
    let s := { eth 3 [] {} with sw := { eths := [(fk 0 3, {})] } }
    s.lineOn 0 3 = true ∧ gives (.linkUp 0 3 false) s (fun t => (t.eth (fk 0 3)).raw && !(t.eth (fk 0 3)).up && (t.eth (fk 0 3)).rawAt == 4000) = true ∧
    gives (.linkUp 0 3 true) { s with sw := { eths := [(fk 0 3, { raw := true })] } } (fun t => (t.eth (fk 0 3)).up && logged (ETH.EVT 0 3) 1 s t) = true := by
  decide +kernel
theorem test_linkDown :
    let s := eth 3 [] { tx := some {} }
    gives (.linkDown 0 3 true false false) (eth 3 [] { raw := true }) (fun t => !(t.eth (fk 0 3)).raw && (t.eth (fk 0 3)).up && (t.eth (fk 0 3)).localFault) = true ∧
    gives (.linkDown 0 3 false false true) s (fun t => !(t.eth (fk 0 3)).up && (t.eth (fk 0 3)).tx.any (fun fr => fr.abort) && logged (ETH.EVT 0 3) 0 s t &&
      counted (ETH.CNT 0 3 52) 1 s t) = true := by decide +kernel
/-- PLCA on at facet 24. -/
def plca (e : EthFacet) : State := eth 24 [(ETH.PLCA 0 24, mk [(ETH.PLCA.EN, 1), (ETH.PLCA.NODE_COUNT, 8), (ETH.PLCA.BURST_COUNT, 2)])] e
theorem test_plcaBeaconLost :
    gives (.plcaBeaconLost 0 24) (plca { plcaOk := true }) (fun t => !(t.eth (fk 0 24)).plcaOk && logged (ETH.EVT 0 24) 5 (plca {}) t) = true := by decide +kernel
theorem test_plcaBeacon :
    gives (.plcaBeacon 0 24) (plca {}) (fun t => (t.eth (fk 0 24)).plcaOk && (t.eth (fk 0 24)).oppLeft == 3 && decide (t.out = [.beacon 0 24 8]) &&
      t.fld (ETH.PLCA_STAT 0 24) ETH.PLCA_STAT.BEACONS == 1) = true := by decide +kernel
/-- Is an MDIO frame sent with its OP? -/
def mdioSent (i : Instr) (op : Nat) : Bool :=
  reaches i (svc []) && gives i (svc []) (fun t => t.fld (ETH.MDIO 0 3) ETH.MDIO.RESULT == 1 &&
    decide (t.out = [.reply .spi .ok 0, .mdio 0 3 op 4 5 6] ∧ t.bus (mdioBus 3) = [(3, op)]))
/-- PRTAD 4, DEVAD 5, DATA 6. -/
def mdioVal (op : Nat) : Nat := mk [(ETH.MDIO.OP, op), (ETH.MDIO.PRTAD, 4), (ETH.MDIO.DEVAD, 5), (ETH.MDIO.DATA, 6)]
theorem test_mdioC45Address : mdioSent (.mdioC45Address .spi 0 3 (mdioVal 1)) 1 = true := by decide +kernel
theorem test_mdioC45Write : mdioSent (.mdioC45Write .spi 0 3 (mdioVal 2)) 2 = true := by decide +kernel
theorem test_mdioC45Read : mdioSent (.mdioC45Read .spi 0 3 (mdioVal 3)) 3 = true := by decide +kernel
theorem test_mdioC22Write : mdioSent (.mdioC22Write .spi 0 3 (mdioVal 4)) 4 = true := by decide +kernel
theorem test_mdioC22Read : mdioSent (.mdioC22Read .spi 0 3 (mdioVal 5)) 5 = true := by decide +kernel
theorem test_mdioDone :
    let s := { svc [] with sw := { mdio := [(mdioBus 3, [(3, 3)])] } }
    gives (.mdioDone 0 (mdioBus 3) 0x1234 true) s (fun t => t.fld (ETH.MDIO 0 3) ETH.MDIO.DATA == 0x1234 && t.fld (ETH.MDIO 0 3) ETH.MDIO.RESULT == 2 &&
      t.bus (mdioBus 3) == []) = true ∧
    gives (.mdioDone 0 (mdioBus 3) 0x1234 false) s (fun t => t.fld (ETH.MDIO 0 3) ETH.MDIO.RESULT == 3) = true := by decide +kernel
theorem test_snap :
    let s := svc [(ETH.CNT 0 3 7, 99)]
    reaches (.snap .spi 0 3 1) s = true ∧ gives (.snap .spi 0 3 1) s (fun t => holds t (ETH.SNAPCNT 0 3 7) 99 && t.reg (ETH.CNT 0 3 7) == 99) = true := by decide +kernel
theorem test_restartAn :
    let s := eth 5 [(ETH.MODE 0 5, mk [(ETH.MODE.MODE, 4), (ETH.MODE.AUTONEG, 1)])] { raw := true, anDone := true }
    reaches (.restartAn .spi 0 5 2) s = true ∧ s.hasAn 0 5 = true ∧
    gives (.restartAn .spi 0 5 2) s (fun t => !(t.eth (fk 0 5)).anDone && !(t.eth (fk 0 5)).raw) = true := by decide +kernel
theorem test_txtsPop :
    let s := eth 3 [] { stamps := [{ time := 5, seqId := 6 }, { time := 7 }] }
    s.reads .spi (ETH.TXTS_B 0 3) = some .spi ∧ gives (.txtsPop .spi 0 3) s (fun t => decide ((t.eth (fk 0 3)).stamps = [{ time := 7 }])) = true := by decide +kernel

/-! ## Die time -/

/-- The lead die's time with what waits for a mark; the other dies stand at 0. -/
def timed (l : List (Nat × Nat)) (d : DieTime) : State := { svc l with sw := { times := [(0, d)], dieTime := [(0, 2 ^ 32 * 100)] }, edges := 4000 }
theorem test_timeMark :
    gives (.timeMark [0, 0, 0]) (timed [] {}) (fun t => t.time 0 == 100 && t.fld (TIME.SYNC 1) TIME.SYNC.OFFSET == ofSigned 16 (timeDiff (t.time 1) 100)) = true ∧
    gives (.timeMark [0, 0, 0]) (timed [] { step := some (50, 3000) }) (fun t => t.time 0 == 150 && bit (t.reg (TIME.EVT 3)) 0) = true ∧
    gives (.timeMark [0, 0, 0]) (timed [] { rateAt := some (77, 3000) }) (fun t => (t.tim 0).rate == 77 && (t.tim 0).rateAt.isNone) = true ∧
    gives (.timeMark [0, 0, 0]) (timed [] { rateAt := some (77, 3999) }) (fun t => (t.tim 0).rate == 0 && (t.tim 0).rateAt.isSome) = true := by decide +kernel
theorem test_timeRateWrite :
    reaches (.timeRateWrite .spi 0 5) (timed [] {}) = true ∧
    gives (.timeRateWrite .spi 0 5) (timed [] {}) (fun t => decide ((t.tim 0).rateAt = some (5, 4000))) = true ∧
    gives (.timeRateWrite .spi 1 5) (timed [] {}) (fun t => flagged (TIME.RATE 1) 0 .spi (timed [] {}) t && decide (t.out = [.reply .spi .badValue 0])) = true := by
  decide +kernel
theorem test_timeStepWrite :
    reaches (.timeStepWrite .spi 0 9) (timed [] {}) = true ∧
    gives (.timeStepWrite .spi 0 9) (timed [] {}) (fun t => decide ((t.tim 0).step = some (9, 4000)) && t.time 0 == 100) = true ∧
    gives (.timeStepWrite .spi 2 9) (timed [] {}) (fun t => (t.tim 0).step.isNone && decide (t.out = [.reply .spi .badValue 0])) = true := by decide +kernel
theorem test_commit :
    let s := timed [(TIME.PTP_SEC 0, 5), (TIME.PTP_NS 0, 6), (TIME.PTP_REF 0, 7)] {}
    let v := mk [(TIME.CTRL.COMMIT, 1)]
    reaches (.commit .spi 0 v) s = true ∧
    gives (.commit .spi 0 v) s (fun t => (t.tim 0).ptpSec == 5 && (t.tim 0).ptpNs == 6 && (t.tim 0).ptpRef == 7 && t.flag (TIME.CTRL 3) TIME.CTRL.MAPPED) = true ∧
    gives (.commit .spi 1 v) s (fun t => (t.tim 0).ptpSec == 0 && decide (t.out = [.reply .spi .badValue 0])) = true := by decide +kernel
theorem test_ptpNowRead :
    let s := timed [(TIME.CTRL 0, mk [(TIME.CTRL.MAPPED, 1)])] { ptpSec := 5, ptpNs := 999999999, ptpRef := 99 }
    s.reads .spi (TIME.PTP_NOW_SEC 0) = some .spi ∧
    gives (.ptpNowRead .spi 0) s (fun t => (t.tim 0).nowNs == 0 && decide (t.out = [.reply .spi .ok 6])) = true := by decide +kernel
theorem test_timeCapture :
    gives (.timeCapture false) (timed [] {}) (fun t => holds t (TIME.CAP 0) 100 && logged (TIME.EVT 0) 2 (timed [] {}) t) = true := by decide +kernel
theorem test_ppsPulse :
    gives .ppsPulse (timed [(TIME.CTRL 0, mk [(TIME.CTRL.PPS_EN, 1), (TIME.CTRL.MAPPED, 1)])] {}) (fun t => decide (t.out = [.pps false, .pps true])) = true := by
  decide +kernel

/-! ## CAN -/

/-- CAN controller 9 of die 0 with a state, its transceivers outside, and registers. -/
def can9 (u : CanCtl) (l : List (Nat × Nat)) (q : Sparse Queue := []) : State :=
  { svc ([on 0 8, on 0 9, on 0 0x49, (CAN.CFG 0 9, mk [(CAN.CFG.EXT, 1), (CAN.CFG.DEFAULT_ACCEPT, 1)])] ++ l) with
    nets := { cans := [(canKey 0 9, u)] }, sw := { queues := q, dieTime := [(0, 2 ^ 32 * 100)] } }
/-- A classic CAN frame of an identifier with its data. -/
def ccFrame (xtd : Bool) (id : Nat) (data : List Byte) : List Byte :=
  beBytes 4 id ++ [if xtd then 128 else 0, BitVec.ofNat 8 data.length] ++ beBytes 2 data.length ++ List.replicate 8 0 ++ data
theorem test_canReceive :
    let s := can9 { st := .active, recv := 3 } [(CLS.BUS_DEST 0 9, mk [(CLS.BUS_DEST.QUEUE, 77)])]
    let b := ccFrame false 0x123 [1, 2]
    bfFormat b = 0 ∧ bfLenOk b = true ∧ s.canHears 0 9 = true ∧ s.canDrives 0 9 = true ∧ s.pnOf (globalFacet 0 41) = none ∧
    s.canFilter 0 9 (bfSetFlag b 2 false) = some 0xFFFF ∧
    gives (.canReceive 0 9 b false 5) s (fun t => (t.can 9).recv == 2 && decide (t.out = [.canAck 0 9]) && counted (CAN.CNT 0 9 0) 1 s t &&
      (t.buf (fk 0 41)).any fun r => r.fr.dest == 77 && r.fr.ts == 95 && r.fr.data == bfSetFilter b 0xFFFF) = true := by decide +kernel
theorem test_canReceive_refused :
    let s := can9 { st := .active } [(CAN.CFG 0 9, mk [(CAN.CFG.EXT, 1)])]
    gives (.canReceive 0 9 (ccFrame false 1 []) false 0) s (fun t => counted (CAN.CNT 0 9 5) 1 s t && t.buf (fk 0 41) == []) = true := by decide +kernel
theorem test_canReceive_claim :
    let s := can9 { st := .active } [(CAN.AC_CFG 0 9, mk [(CAN.AC_CFG.EN, 1)])]
    let b := ccFrame true 0x18EEFF42 [8, 7, 6, 5, 4, 3, 2, 1]
    isClaim b = true ∧ gives (.canReceive 0 9 b false 0) s (fun t => decide (t.trk (trkKey 0 9 0x42) = some (0x0102030405060708, 0))) = true := by
  decide +kernel
/-- The pending frame of controller 9 heads its queue. -/
def canSends (u : CanCtl) (l : List (Nat × Nat)) : State :=
  can9 { u with st := .active, pend := some (queueNo 41 0 0) } l [oneRef 0 41 0 0 { bus := true, data := ccFrame false 0x55 [1] }]
theorem test_canTransmitDone :
    let s := canSends { tec := 5 } []
    gives (.canTransmitDone 0 9 0 0) s (fun t => (t.can 9).tec == 4 && (t.can 9).pend.isNone && (t.queue (queueNo 41 0 0)).refs == [] &&
      counted (CAN.CNT 0 9 7) 1 s t && match t.out with
        | [.can 0 9 bits .nominal b] => bits == s.nominalBit 0 9 && bfId b == 0x55
        | _ => false) = true := by decide +kernel
theorem test_canArbitrationLost :
    gives (.canArbitrationLost 0 9) (canSends {} []) (fun t => (t.can 9).pend.isNone && (t.queue (queueNo 41 0 0)).refs.length == 1 &&
      counted (CAN.CNT 0 9 9) 1 (canSends {} []) t) = true ∧
    gives (.canArbitrationLost 0 9) (canSends { abort := true } []) (fun t => (t.queue (queueNo 41 0 0)).refs == [] &&
      counted (CAN.CNT 0 9 11) 1 (canSends {} []) t) = true := by decide +kernel
theorem test_canError :
    let s := can9 { st := .active, tec := 124 } []
    s.canSignals 0 9 0 = true ∧
    gives (.canError 0 9 2 0 true 0 false none) s (fun t => (t.can 9).tec == 132 && decide ((t.can 9).st = .passive ∧ t.out = [.canFlag 0 9 true]) &&
      counted (CAN.CNT 0 9 14) 1 s t && holds t (CAN.LAST_ERR_TIME 0 9) 100) = true ∧
    gives (.canError 0 9 2 0 true 0 false none) (can9 { st := .active, tec := 250 } []) (fun t => decide ((t.can 9).st = .busOff)) = true := by decide +kernel
theorem test_canIntegrated :
    gives (.canIntegrated 0 9) (can9 { st := .integrating, held := .passive } []) (fun t => decide ((t.can 9).st = .passive)) = true := by decide +kernel
theorem test_canRecoveryDone :
    gives (.canRecoveryDone 0 9) (can9 { st := .recovering, tec := 9 } []) (fun t => decide ((t.can 9).st = .active) && (t.can 9).tec == 0 &&
      logged (CAN.EVT 0 9) 3 (can9 {} []) t) = true := by decide +kernel
/-- Two tracker entries. -/
def tracked (l : List (Nat × Nat)) : State :=
  { svc l with nets := { trackers := [(trkKey 0 9 5, some (0xABC, 9)), (trkKey 0 9 6, some (0xDEF, 2))] } }
theorem test_acAgeSweep :
    gives (.acAgeSweep 0 9) (tracked [(CAN.AC_CFG 0 9, mk [(CAN.AC_CFG.AGE_S, 10)])]) (fun t =>
      decide (t.trk (trkKey 0 9 5) = none ∧ t.trk (trkKey 0 9 6) = some (0xDEF, 3))) = true := by decide +kernel

theorem test_canRecover :
    reaches (.canRecover .spi 0 9 1) (can9 { st := .busOff } []) = true ∧
    gives (.canRecover .spi 0 9 1) (can9 { st := .busOff } []) (fun t => decide ((t.can 9).st = .recovering)) = true := by decide +kernel
theorem test_abortTx :
    reaches (.abortTx .spi 0 9 2) (canSends {} []) = true ∧ gives (.abortTx .spi 0 9 2) (canSends {} []) (fun t => (t.can 9).abort) = true := by decide +kernel
/-- Two filter elements from 16 on, the second with words. -/
def filters : State :=
  { svc [(CAN.FILT_CFG 0 9, mk [(CAN.FILT_CFG.BASE, 16), (CAN.FILT_CFG.COUNT, 2)]), (CAN.FILT_W0 0 9, 0x41)] with tbls := [(tblKey 0 0x4A 17 0, 0x42), (tblKey 0 0x4A 17 1, 3)] }
theorem test_filtCmdRead :
    let v := mk [(CAN.FILT_CMD.INDEX, 1), (CAN.FILT_CMD.OP, 1)]
    reaches (.filtCmdRead .spi 0 9 v) filters = true ∧
    gives (.filtCmdRead .spi 0 9 v) filters (fun t => holds t (CAN.FILT_W0 0 9) 0x42 && holds t (CAN.FILT_W1 0 9) 3) = true ∧
    gives (.filtCmdRead .spi 0 9 (mk [(CAN.FILT_CMD.INDEX, 2), (CAN.FILT_CMD.OP, 1)])) filters (fun t => t.fld (CAN.FILT_CMD 0 9) CAN.FILT_CMD.RESULT == 2) = true := by
  decide +kernel
theorem test_filtCmdWrite :
    let v := mk [(CAN.FILT_CMD.INDEX, 0), (CAN.FILT_CMD.OP, 2)]
    reaches (.filtCmdWrite .spi 0 9 v) filters = true ∧ filtBad 0x41 0 = false ∧ filtBad 0x80 0 = true ∧
    gives (.filtCmdWrite .spi 0 9 v) filters (fun t => t.tbl 0 0x4A 16 0 == 0x41) = true ∧
    gives (.filtCmdWrite .spi 0 9 v) (setRegs filters [(CAN.FILT_W0 0 9, 0x80)]) (fun t => t.fld (CAN.FILT_CMD 0 9) CAN.FILT_CMD.RESULT == 2) = true := by
  decide +kernel
theorem test_acCmdRead :
    let v := mk [(CAN.AC_CMD.INDEX, 5), (CAN.AC_CMD.OP, 1)]
    reaches (.acCmdRead .spi 0 9 v) (tracked []) = true ∧
    gives (.acCmdRead .spi 0 9 v) (tracked []) (fun t => holds t (CAN.AC_W0 0 9) 0xABC && t.fld (CAN.AC_W1 0 9) CAN.AC_W1.IDLE_S == 9) = true := by decide +kernel
theorem test_acCmdFind :
    let v := mk [(CAN.AC_CMD.OP, 2)]
    reaches (.acCmdFind .spi 0 9 v) (tracked [(CAN.AC_W0 0 9, 0xDEF)]) = true ∧
    gives (.acCmdFind .spi 0 9 v) (tracked [(CAN.AC_W0 0 9, 0xDEF)]) (fun t => t.fld (CAN.AC_CMD 0 9) CAN.AC_CMD.INDEX == 6) = true ∧
    gives (.acCmdFind .spi 0 9 v) (tracked []) (fun t => t.fld (CAN.AC_CMD 0 9) CAN.AC_CMD.RESULT == 2) = true := by decide +kernel
theorem test_acCmdEmpty :
    let v := mk [(CAN.AC_CMD.OP, 3)]
    reaches (.acCmdEmpty .spi 0 9 v) (tracked []) = true ∧ gives (.acCmdEmpty .spi 0 9 v) (tracked []) (fun t => (t.trk (trkKey 0 9 5)).isNone) = true := by
  decide +kernel

/-! ## LIN and transceivers -/

/-- LIN controller 1 of die 0 running table 0, which is the given entry, on its balls. -/
def lin1 (u : LinCtl) (w : Nat) (l : List (Nat × Nat) := []) : State :=
  { svc ([on 0 8, on 0 9, on 0 0x51, (LIN.CFG 0 1, mk [(LIN.CFG.EXT, 1), (LIN.CFG.BREAK, 13), (LIN.CFG.BIT_TIME, 52)]),
      (LIN.TBL 0 1 0, mk [(LIN.TBL.FIRST, 8), (LIN.TBL.LEN, 1)])] ++ l) with
    tbls := [(tblKey 0 0x4B 8 0, BitVec.ofNat 48 w)]
    nets := { lins := [(linKey 0 1, { u with st := .running })], pubs := [(pubKey 0 1 0x10, (0x0102030405060708, true))] } }
/-- An entry of a type for identifier 0x10 and two bytes. -/
def linE (type : Nat) : Nat := type + 8 * 0x10 + 512 * 2 + 2 ^ 14 * 10
theorem test_linSlot :
    let s := lin1 {} (linE 0)
    s.linDrives 0 1 = true ∧ (s.lin (linKey 0 1)).st = .running ∧
    gives (.linSlot 0 1 0 0 false) s (fun t => decide (t.out = [.lin 0 1 13 52 0x50 [1, 2, 0xFC]]) && !(t.pub (pubKey 0 1 0x10)).2 &&
      counted (LIN.CNT 0 1 1) 1 s t) = true := by decide +kernel
theorem test_linSlot_subscribe :
    gives (.linSlot 0 1 0 0 false) (lin1 {} (linE 1)) (fun t => decide (t.out = [.lin 0 1 13 52 0x50 []]) && (t.lin (linKey 0 1)).waiting == some (linE 1)) = true ∧
    gives (.linSlot 0 1 1 0 false) (lin1 {} (linE 1)) (fun t => (t.lin (linKey 0 1)).badHeads == 1 && logged (LIN.EVT 0 1) 0 (svc []) t) = true ∧
    gives (.linSlot 0 1 0 0 false) (lin1 {} (linE 6)) (fun t => decide (t.out = []) && (t.lin (linKey 0 1)).next == 1) = true := by decide +kernel
theorem test_linSlot_boundary :
    gives (.linSlot 0 1 0 0 false) (lin1 { goSleep := true } (linE 0)) (fun t => decide ((t.lin (linKey 0 1)).st = .sleep ∧
      t.out = [.lin 0 1 13 52 0x3C [0, 0xFF, 0xFF, 0xFF, 0xFF, 0xFF, 0xFF, 0xFF, 0]])) = true ∧
    gives (.linSlot 0 1 0 0 false) (lin1 { stop := true } (linE 0)) (fun t => decide ((t.lin (linKey 0 1)).st = .stopped)) = true ∧
    gives (.linSlot 0 1 0 0 false) (lin1 {} 0 [(LIN.TBL 0 1 0, 0)]) (fun t => decide ((t.lin (linKey 0 1)).st = .stopped)) = true := by decide +kernel
/-- Subscribed and waiting. -/
def linWaits (type more : Nat) : State := lin1 { waiting := some (linE type + more) } (linE type)
theorem test_linResponse :
    (linWaits 1 0).linHears 0 1 = true ∧
    gives (.linResponse 0 1 0 [1, 2, 0xFC] 0) (linWaits 1 0) (fun t => counted (LIN.CNT 0 1 2) 1 (linWaits 1 0) t &&
      (t.buf (fk 0 49)).any fun r => bfData r.fr.data == [1, 2] && bfFormat r.fr.data == 3) = true ∧
    gives (.linResponse 0 1 0 [1, 2, 0xFD] 0) (linWaits 1 0) (fun t => counted (LIN.CNT 0 1 5) 1 (linWaits 1 0) t && t.fld (LIN.LAST 0 1) LIN.LAST.ERR == 5) = true := by
  decide +kernel
theorem test_linResponse_collision :
    gives (.linResponse 0 1 0 [1, 2, 0xFD] 0) (linWaits 2 (2 ^ 30 + 2 ^ 31 * 3)) (fun t => (t.lin (linKey 0 1)).resolveNext == some 3 && logged (LIN.EVT 0 1) 1 (svc []) t) = true ∧
    gives (.linResponse 0 1 0 [] 0) (linWaits 2 0) (fun t => (t.lin (linKey 0 1)).waiting.isNone && t.reg (LIN.EVT 0 1) == 0) = true := by decide +kernel
theorem test_linBusFault :
    gives (.linBusFault 0 1 false) (lin1 { badHeads := 4 } 0) (fun t => decide ((t.lin (linKey 0 1)).st = .busFault) && logged (LIN.EVT 0 1) 3 (svc []) t) = true := by
  decide +kernel
theorem test_linPublish :
    let s := { lin1 {} (linE 0) with sw := { queues := [oneRef 0 49 0 0 { bus := true, data := [0x60, 0, 0, 0x10, 0, 0, 0, 2] ++ List.replicate 8 0 ++ [9, 8] }] } }
    (s.waits 0 49 fun _ => true).isSome = true ∧ s.linPublishes 0 1 0x10 = true ∧
    gives (.linPublish 0 1) s (fun t => decide (t.pub (pubKey 0 1 0x10) = (0x0908000000000000, true))) = true := by decide +kernel
theorem test_linSwitch :
    let v := mk [(LIN.CMD.SWITCH, 1), (LIN.CMD.TABLE, 5)]
    reaches (.linSwitch .spi 0 1 v) (lin1 {} 0) = true ∧
    gives (.linSwitch .spi 0 1 v) (lin1 {} 0) (fun t => (t.lin (linKey 0 1)).switchTo == some 5) = true := by decide +kernel
theorem test_linStop :
    reaches (.linStop .spi 0 1 16) (lin1 {} 0) = true ∧ gives (.linStop .spi 0 1 16) (lin1 {} 0) (fun t => (t.lin (linKey 0 1)).stop) = true := by decide +kernel
theorem test_linGotosleep :
    reaches (.linGotosleep .spi 0 1 32) (lin1 {} 0) = true ∧
    gives (.linGotosleep .spi 0 1 32) (lin1 {} 0) (fun t => (t.lin (linKey 0 1)).goSleep) = true := by decide +kernel
theorem test_schedCmdRead :
    let v := mk [(LIN.SCHED_CMD.INDEX, 8), (LIN.SCHED_CMD.OP, 1)]
    reaches (.schedCmdRead .spi 0 1 v) (lin1 {} (linE 0)) = true ∧
    gives (.schedCmdRead .spi 0 1 v) (lin1 {} (linE 0)) (fun t => (t.reg (LIN.SCHED_W 0 1)).toNat == linE 0) = true := by decide +kernel
theorem test_schedCmdWrite :
    let v := mk [(LIN.SCHED_CMD.INDEX, 9), (LIN.SCHED_CMD.OP, 2)]
    let s := svc [(LIN.SCHED_W 0 1, linE 1)]
    reaches (.schedCmdWrite .spi 0 1 v) s = true ∧ schedBad (BitVec.ofNat 48 (linE 1)) = false ∧ schedBad 7 = true ∧
    gives (.schedCmdWrite .spi 0 1 v) s (fun t => (t.schedEntry 0 9).toNat == linE 1) = true ∧
    gives (.schedCmdWrite .spi 0 1 v) (svc [(LIN.SCHED_W 0 1, 7)]) (fun t => t.fld (LIN.SCHED_CMD 0 1) LIN.SCHED_CMD.RESULT == 2) = true := by decide +kernel
theorem test_pubCmdRead :
    let v := mk [(LIN.PUB_CMD.ID, 0x10), (LIN.PUB_CMD.OP, 1)]
    reaches (.pubCmdRead .spi 0 1 v) (lin1 {} 0) = true ∧
    gives (.pubCmdRead .spi 0 1 v) (lin1 {} 0) (fun t => holds t (LIN.PUB_W0 0 1) 0x010203040506 && t.flag (LIN.PUB_W1 0 1) LIN.PUB_W1.PENDING) = true := by
  decide +kernel
theorem test_pubCmdWrite :
    let v := mk [(LIN.PUB_CMD.ID, 0x10), (LIN.PUB_CMD.OP, 2)]
    let s := lin1 {} (linE 0) [(LIN.PUB_W0 0 1, 0x0A0B0C0D0E0F)]
    reaches (.pubCmdWrite .spi 0 1 v) s = true ∧ s.linPublishes 0 1 0x10 = true ∧
    gives (.pubCmdWrite .spi 0 1 v) s (fun t => decide (t.pub (pubKey 0 1 0x10) = (0x0A0B0C0D0E0F0000, true))) = true ∧
    gives (.pubCmdWrite .spi 0 1 v) (lin1 {} (linE 1)) (fun t => t.fld (LIN.PUB_CMD 0 1) LIN.PUB_CMD.RESULT == 2 &&
      counted (LIN.CNT 0 1 10) 1 (svc []) t) = true := by decide +kernel

/-- Drive die 2 with a transceiver. -/
def xvr0 (u : Nat) (x : Xcvr) : State := { svc [] with nets := { xcvrs := [(xKey 2 u, x)] } }
theorem test_txdTimeout :
    gives (.txdTimeout 2 9 false) (svc []) (fun t => (t.xcvr (xKey 2 9)).stuck && logged (XCVR.EVT 2) 2 (svc []) t && t.fld (XCVR.LAST 2) XCVR.LAST.UNIT == 9) = true ∧
    gives (.txdTimeout 2 9 true) (xvr0 9 { stuck := true }) (fun t => !(t.xcvr (xKey 2 9)).stuck) = true := by decide +kernel
theorem test_busDom : gives (.busDom 2 7) (svc []) (fun t => logged (XCVR.EVT 2) 1 (svc []) t && t.fld (XCVR.LAST 2) XCVR.LAST.UNIT == 7) = true := by decide +kernel
theorem test_xcvrThermal :
    gives (.xcvrThermal 2 11) (svc []) (fun t => (t.xcvr (xKey 2 11)).hot && logged (XCVR.EVT 2) 3 (svc []) t) = true := by decide +kernel
theorem test_xcvrThermalRelease : gives (.xcvrThermalRelease 2 11) (xvr0 11 { hot := true }) (fun t => !(t.xcvr (xKey 2 11)).hot) = true := by decide +kernel
theorem test_linSupHigh : gives (.linSupHigh 2) (svc []) (fun t => t.linOver 2 && logged (XCVR.EVT 2) 4 (svc []) t) = true := by decide +kernel
theorem test_linSupOk : gives (.linSupOk 2) { svc [] with nets := { linHigh := [(2, true)] } } (fun t => !t.linOver 2) = true := by decide +kernel
theorem test_xcvrModeChange :
    let s := xvr0 0 { mode := .normal, woken := true }
    (s.supply 2).chanOn = true ∧ s.dlinkDown 2 = false ∧ s.xcvrWanted 2 0 = .silent ∧
    gives (.xcvrModeChange 2 0) s (fun t => decide ((t.xcvr (xKey 2 0)).mode = .silent) && (t.xcvr (xKey 2 0)).woken) = true := by decide +kernel

/-! ## Signal gateway -/

/-- The key of CC identifier 0x55 from CAN controller 9. -/
def key55 : Word × Word := beamKey 1 0 41 0x3FF 0 0x55
/-- The entry's place. -/
def at55 : Nat := State.reset.beamBucket 0 key55 * 8
/-- Beam entry for it: to CAN controller 3, signal 5, which is the first byte. -/
def beam55 : Sparse Word :=
  [(tblKey 0 0x4C at55 0, setBit key55.1 47), (tblKey 0 0x4C at55 1, key55.2), (tblKey 0 0x4C at55 2, 8), (tblKey 0 0x4C at55 3, 2 ^ 30), (tblKey 0 0x4C at55 4, 5),
    (tblKey 0 0x4D 5 0, 8 * 2 ^ 19)]
/-- That frame waits for the engine, with tables. -/
def engine (t : Sparse Word) : State :=
  { sw0 { queues := [oneRef 0 59 0 0 { src := 41, ts := 77, bus := true, data := ccFrame false 0x55 [0xAB, 2] }] } [on 0 0x60] with tbls := t }
theorem test_sgwFrame :
    ((engine beam55).waits 0 59 fun _ => true).isSome = true ∧ (engine beam55).beamFind 0 key55 = some at55 ∧
    gives (.sgwFrame 0 false) (engine beam55) (fun t => decide (t.sig (sigKey 0 5) = (0xAB, 77)) && counted (SGW.CNT 0 3) 1 (engine beam55) t &&
      (t.buf (fk 0 59)).any fun r => r.fr.dest == queueNo 35 0 0 && bfData r.fr.data == [0xAB, 2]) = true := by decide +kernel
theorem test_sgwFrame_miss :
    gives (.sgwFrame 0 false) (engine []) (fun t => counted (SGW.CNT 0 2) 1 (engine []) t && t.buf (fk 0 59) == []) = true := by decide +kernel
/-- Sessions whose timers have run out. -/
def expired : State := { svc [on 0 0x60] with gw := { sessions := [(0, [{ ctl := 9, sa := 1, da := 2, proto := 1, pgn := 0xFE00 }, { ctl := 9, sa := 3 }])] }, edges := 99999 }
theorem test_tpTimerExpire :
    ((expired.sess 0).find? fun y => y.is 9 1 2 1 && expired.pastMs y.since y.wait).isSome = true ∧
    gives (.tpTimerExpire 0 9 1 2 1) expired (fun t => (t.sess 0).length == 1 && counted (SGW.CNT 0 17) 1 expired t && logged (SGW.EVT 0) 3 expired t &&
      (t.buf (fk 0 59)).any fun r => bfData r.fr.data == [255, 3, 255, 255, 255, 0, 0xFE, 0]) = true ∧
    gives (.tpTimerExpire 0 9 3 255 0) expired (fun t => (t.sess 0).length == 1 && t.buf (fk 0 59) == []) = true := by decide +kernel
/-- A PDU entry with a period of 1 ms, 0.2 ms after an instant. -/
def pduAt (u : PduRun) : State :=
  { sw0 { dieTime := [(0, 2 ^ 32 * 1200000)] } [on 0 0x60] with
    tbls := [(tblKey 0 0x4E 4 0, BitVec.ofNat 48 (2 ^ 46)), (tblKey 0 0x4E 4 1, BitVec.ofNat 48 768), (tblKey 0 0x4E 4 2, 10), (tblKey 0 0x4E 4 3, BitVec.ofNat 48 (2 ^ 24))]
    gw := { pdus := [(pduKey 0 4, u)] } }
theorem test_pduCadence :
    (pduAt {}).composes 0 4 = true ∧ (pduAt {}).cadenceAge 0 4 = some 200000 ∧
    gives (.pduCadence 0 4 false) (pduAt {}) (fun t => (t.pdu (pduKey 0 4)).cad == some 1000000 && counted (SGW.CNT 0 7) 1 (pduAt {}) t &&
      counted (SGW.CNT 0 8) 1 (pduAt {}) t && (t.buf (fk 0 59)).any fun r => r.fr.dest == 768) = true := by decide +kernel
theorem test_pduChangeCompose :
    (pduAt { due := some 1190000 }).changeAge 0 4 = some 10000 ∧
    gives (.pduChangeCompose 0 4 false) (pduAt { due := some 1190000 }) (fun t => (t.pdu (pduKey 0 4)).due.isNone && counted (SGW.CNT 0 7) 1 (pduAt {}) t) = true := by
  decide +kernel
theorem test_tunnelSend :
    let s := { sw0 {} [on 0 0x60] with tbls := [(tblKey 0 0x50 7 2, BitVec.ofNat 48 (5 * 2 ^ 40)), (tblKey 0 0x50 7 3, 256)], gw := { tunnels := [(tunKey 0 7, { msgs := [[1, 2, 3, 4]], tx := 255 })] } }
    gives (.tunnelSend 0 7) s (fun t => decide (t.tun (tunKey 0 7) = {}) && counted (SGW.CNT 0 11) 1 s t &&
      (t.buf (fk 0 59)).any fun r => (r.fr.data.drop 30).take 4 == [1, 2, 3, 4] && r.fr.dest == queueNo 5 0 0) = true := by decide +kernel
theorem test_measurementWrite :
    (svc []).dlinkDown 2 = false ∧ (svc []).measured 2 0x60 0 = some 24000 ∧
    gives (.measurementWrite 2 0x60 0) (svc []) (fun t => (t.sig (sigKey (t.attachedTo 2) (0x3F000 + 0x400 * t.rankOf 2 + 0x60))).1 == 24000) = true := by decide +kernel
theorem test_signalSweep :
    let s := { sw0 { dieTime := [(0, 2 ^ 32 * (2 ^ 46 + 9))] } [on 0 0x60] with
      tbls := [(tblKey 0 0x4D 5 1, 7)], gw := { sigs := [(sigKey 0 5, (3, 9)), (sigKey 0 6, (4, 9))] } }
    Sparse.canon sigBlank s.gw.sigs = true ∧
    gives (.signalSweep 0) s (fun t => decide (t.sig (sigKey 0 5) = (3, 0) ∧ t.sig (sigKey 0 6) = (4, 9))) = true := by decide +kernel

/-- The words of that entry stand in BEAM_W. -/
def beamRegs (t : Sparse Word) : State :=
  { svc [(SGW.BEAM_W 0 0, (setBit key55.1 47).toNat), (SGW.BEAM_W 0 1, key55.2.toNat), (SGW.BEAM_W 0 2, 8), (SGW.BEAM_W 0 3, 2 ^ 30), (SGW.BEAM_W 0 4, 5)] with tbls := t }
/-- BEAM_CMD with an operation. -/
def beamOp (op : Nat) : Nat := mk [(SGW.BEAM_CMD.INDEX, at55), (SGW.BEAM_CMD.OP, op)]
theorem test_beamCmdRead :
    reaches (.beamCmdRead .spi 0 (beamOp 1)) (beamRegs beam55) = true ∧
    gives (.beamCmdRead .spi 0 (beamOp 1)) (setRegs (beamRegs beam55) [(SGW.BEAM_W 0 4, 0)]) (fun t => holds t (SGW.BEAM_W 0 4) 5) = true := by decide +kernel
theorem test_beamCmdFind :
    reaches (.beamCmdFind .spi 0 (beamOp 2)) (beamRegs beam55) = true ∧
    gives (.beamCmdFind .spi 0 (beamOp 2)) (beamRegs beam55) (fun t => t.fld (SGW.BEAM_CMD 0) SGW.BEAM_CMD.INDEX == at55 && t.fld (SGW.BEAM_CMD 0) SGW.BEAM_CMD.RESULT == 0) = true ∧
    gives (.beamCmdFind .spi 0 (beamOp 2)) (beamRegs []) (fun t => t.fld (SGW.BEAM_CMD 0) SGW.BEAM_CMD.RESULT == 2) = true := by decide +kernel
theorem test_beamCmdInsert :
    reaches (.beamCmdInsert .spi 0 (beamOp 3)) (beamRegs []) = true ∧ (beamRegs []).beamPlace 0 key55 = some at55 ∧
    gives (.beamCmdInsert .spi 0 (beamOp 3)) (beamRegs []) (fun t => (t.beamFind 0 key55).isSome && t.fld (SGW.BEAM_CMD 0) SGW.BEAM_CMD.RESULT == 0) = true ∧
    gives (.beamCmdInsert .spi 0 (beamOp 3)) (svc []) (fun t => t.fld (SGW.BEAM_CMD 0) SGW.BEAM_CMD.RESULT == 4 && decide (t.out = [.reply .spi .badValue 0])) = true := by
  decide +kernel
theorem test_beamCmdDelete :
    reaches (.beamCmdDelete .spi 0 (beamOp 4)) (beamRegs beam55) = true ∧
    gives (.beamCmdDelete .spi 0 (beamOp 4)) (beamRegs beam55) (fun t => (t.beamFind 0 key55).isNone && t.fld (SGW.BEAM_CMD 0) SGW.BEAM_CMD.RESULT == 0) = true ∧
    gives (.beamCmdDelete .spi 0 (beamOp 4)) (beamRegs []) (fun t => t.fld (SGW.BEAM_CMD 0) SGW.BEAM_CMD.RESULT == 2) = true := by decide +kernel
/-- TBL_CMD on a descriptor. -/
def tblOp (op i : Nat) : Nat := mk [(SGW.TBL_CMD.TABLE, 0x4D), (SGW.TBL_CMD.INDEX, i), (SGW.TBL_CMD.OP, op)]
theorem test_tblCmdRead :
    reaches (.tblCmdRead .spi 0 (tblOp 1 5)) (beamRegs beam55) = true ∧ sgwTable 0x4D = some (262144, 2) ∧
    gives (.tblCmdRead .spi 0 (tblOp 1 5)) (beamRegs beam55) (fun t => holds t (SGW.TBL_W 0 0) (8 * 2 ^ 19)) = true := by decide +kernel
theorem test_tblCmdWrite :
    let s := svc [(SGW.TBL_W 0 0, 8 * 2 ^ 19)]
    reaches (.tblCmdWrite .spi 0 (tblOp 2 6)) s = true ∧
    gives (.tblCmdWrite .spi 0 (tblOp 2 6)) s (fun t => t.desc 0 6 0 == 8 * 2 ^ 19) = true ∧
    gives (.tblCmdWrite .spi 0 (tblOp 2 258048)) s (fun t => t.fld (SGW.TBL_CMD 0) SGW.TBL_CMD.RESULT == 2) = true := by decide +kernel
theorem test_sigCmdRead :
    let s := { svc [] with gw := { sigs := [(sigKey 0 6, (4, 9))] } }
    let v := mk [(SGW.SIG_CMD.INDEX, 6), (SGW.SIG_CMD.OP, 1)]
    reaches (.sigCmdRead .spi 0 v) s = true ∧ gives (.sigCmdRead .spi 0 v) s (fun t => holds t (SGW.SIG_VAL 0) 4 && holds t (SGW.SIG_TS 0) 9) = true := by decide +kernel
theorem test_sigCmdWrite :
    let v := mk [(SGW.SIG_CMD.INDEX, 6), (SGW.SIG_CMD.OP, 2)]
    reaches (.sigCmdWrite .spi 0 v) (svc [(SGW.SIG_VAL 0, 8)]) = true ∧
    gives (.sigCmdWrite .spi 0 v) (svc [(SGW.SIG_VAL 0, 8)]) (fun t => decide (t.sig (sigKey 0 6) = (8, 1))) = true ∧
    gives (.sigCmdWrite .spi 0 (mk [(SGW.SIG_CMD.INDEX, 258048), (SGW.SIG_CMD.OP, 2)])) (svc []) (fun t => t.fld (SGW.SIG_CMD 0) SGW.SIG_CMD.RESULT == 2) = true := by
  decide +kernel

/-! ## Window bridge -/

/-- Partition 2 of die 0 runs on core 1, and window 4 is open to it: eight registers from EYE.ETH on; entry 9 of its apertures allows
stores there. -/
def bridge (g : Gateway) (l : List (Nat × Nat) := []) : State :=
  { svc ([on 0 0x78, on 0 0x61, (CPU.SCHED 0 8, mk [(CPU.SCHED.VALID, 1), (CPU.SCHED.PART, 2)]),
      (WBR.WIN_A 0 4, mk [(WBR.WIN_A.VALID, 1), (WBR.WIN_A.SIZE_LOG, 3), (WBR.WIN_A.FAR_BASE, EYE.ETH 0)]),
      (WBR.WIN_B 0 4, mk [(WBR.WIN_B.PART_MASK, 4), (WBR.WIN_B.WRITE, 1), (WBR.WIN_B.LOCK, 1), (WBR.WIN_B.TIMEOUT, 10)])] ++ l) with
    cpu := { parts := [(ptk 0 2, { st := .running })] }, gw := g, edges := 4000
    tbls := [(tblKey 0 0x79 9 0, BitVec.ofNat 48 (4 + 8 * 2 + 128)),
      (tblKey 0 0x79 9 1, BitVec.ofNat 48 (8 * aBlk (EYE.ETH 0) + 2 ^ 11 * aBlk (EYE.ETH 0) + 2 ^ 32 * 8191 + 2 ^ 46)), (tblKey 0 0x79 9 2, BitVec.ofNat 48 (2 ^ 48 - 1))] }
/-- The agent of hart 0 there. -/
def hart2 : Agent := .fw 0 2 1 0
theorem test_windowLoad :
    let s := bridge {} [(EYE.ETH 0, 1)]
    s.onCore 0 1 = some 2 ∧ s.winAddr 0 4 0 = EYE.ETH 0 ∧ s.winDenied 0 2 4 true false = false ∧ s.winBeyond 0 4 0 = false ∧ s.winBusy 0 4 = false ∧
    gives (.windowLoad 0 1 0 4 0 true true) s (fun t => decide (t.out = [.reply hart2 .ok 1]) && counted (WBR.CNT 0 0) 1 s t) = true ∧
    gives (.windowLoad 0 1 0 4 0 true false) s (fun t => decide (t.out = [.reply hart2 .retry 0]) && (t.wpend 0).length == 1) = true := by decide +kernel
theorem test_windowLoad_stops :
    gives (.windowLoad 0 1 0 4 8 true true) (bridge {}) (fun t => decide (t.out = [.reply hart2 .noSuch 0])) = true ∧
    gives (.windowLoad 0 1 0 4 0 false true) (bridge {}) (fun t => decide (t.out = [.reply hart2 .denied 0])) = true ∧
    gives (.windowLoad 0 1 0 4 0 true true) (bridge { winPosts := [(0, [{ part := 2, core := 1, win := 4 }])] }) (fun t =>
      decide (t.out = [.reply hart2 .retry 0])) = true := by decide +kernel
/-- A pending read of location 0. -/
def pend4 (e : WinPend) : Gateway := { winPends := [(0, [{ e with part := 2, core := 1, win := 4 }])] }
theorem test_windowLoad_collects :
    gives (.windowLoad 0 1 0 4 0 true true) (bridge (pend4 { done := some (.ok, 7, 0) })) (fun t => decide (t.out = [.reply hart2 .ok 7]) && t.wpend 0 == []) = true := by
  decide +kernel
theorem test_lockedRead :
    gives (.lockedRead 0 1 0 4 0 true true) (bridge {} [(EYE.ETH 0, 1)]) (fun t => decide (t.out = [.reply hart2 .ok 1]) && t.blockHeld 0 (aBlk (EYE.ETH 0)) &&
      (t.winLock 0 4).isSome) = true := by decide +kernel
theorem test_windowStore :
    (bridge {}).blockEntry 0 2 (EYE.ETH 0) 1 = some 9 ∧ loadTarget (EYE.ETH 0) = none ∧
    gives (.windowStore 0 1 0 4 0 true false 1) (bridge {}) (fun t => counted (WBR.CNT 0 1) 1 (bridge {}) t && (t.wpost 0).length == 1 && decide (t.out = [])) = true ∧
    gives (.windowStore 0 1 0 4 8 true false 1) (bridge {}) (fun t => t.wpost 0 == [] && t.fld (WBR.POST_ERR_ADDR 0) WBR.POST_ERR_ADDR.CODE == Code.noSuch.num &&
      logged (WBR.EVT 0) 0 (bridge {}) t) = true ∧
    gives (.windowStore 0 1 0 4 0 false false 1) (bridge {}) (fun t => t.fld (WBR.POST_ERR_ADDR 0) WBR.POST_ERR_ADDR.CODE == Code.denied.num) = true := by decide +kernel
theorem test_windowReadReply :
    gives (.windowReadReply 0 0 false) (bridge (pend4 { sent := true }) [(EYE.ETH 0, 1)]) (fun t => (t.wpend 0).any fun e => e.done == some (.ok, 1, 4000)) = true ∧
    (bridge {}).pastUs 0 100 = true ∧
    gives (.windowReadReply 0 0 true) (bridge (pend4 {})) (fun t => ((t.wpend 0).any fun e => e.done == some (.timeout, 0, 4000)) && counted (WBR.CNT 0 4) 1 (bridge {}) t) = true := by
  decide +kernel
/-- A posted write of 1 to EYE.ETH. -/
def post4 : Gateway := { winPosts := [(0, [{ part := 2, core := 1, win := 4, value := 1 }])] }
theorem test_postedWriteDone :
    (bridge post4).lands hart2 (EYE.ETH 0) 1 = true ∧ (bridge post4).refuses (EYE.ETH 0) 1 = false ∧
    gives (.postedWriteDone 0 0 false) (bridge post4) (fun t => t.wpost 0 == [] && t.reg (EYE.ETH 0) == 1) = true ∧
    gives (.postedWriteDone 0 0 true) (bridge post4) (fun t => t.wpost 0 == [] && t.reg (EYE.ETH 0) != 1 && counted (WBR.CNT 0 3) 1 (bridge {}) t) = true := by
  decide +kernel
theorem test_windowLockExpire :
    let s := bridge { winLocks := [{ win := 4 }], blockLocks := [{ blk := 2, win := 4 }] } [(WBR.CFG 0, mk [(WBR.CFG.LOCK_US, 50)])]
    gives (.windowLockExpire 0 4 false) s (fun t => (t.winLock 0 4).isNone && t.gw.blockLocks == [] && logged (WBR.EVT 0) 2 s t) = true := by decide +kernel
theorem test_windowPendingExpire :
    gives (.windowPendingExpire 0 0) (bridge (pend4 { done := some (.ok, 7, 0) })) (fun t => t.wpend 0 == []) = true := by decide +kernel

/-! ## Keys -/

/-- Key slot 5 of die 0 in a state, with a slot record and registers. -/
def slot5 (st : Nat) (k : KeySlot) (l : List (Nat × Nat)) : State :=
  { svc ((KEYS.SLOT 0 5, mk [(KEYS.SLOT.STATE, st)]) :: l) with sec := { slots := [(sk 0 0, { key := List.replicate 16 7 }), (sk 0 5, k)] }, edges := 99999 }
/-- Sixteen nines under the image key, as slot 5's blob. -/
def blob5 : List Nat :=
  [86, 79, 82, 250, 60, 24, 115, 195, 9, 30, 65, 121, 145, 95, 177, 65, 229, 237, 67, 51, 0, 110, 215, 158, 130, 186, 31, 242, 209, 191, 151, 84, 119, 114, 61,
    130, 229, 136, 146, 58]
theorem test_keyDemand : gives (.keyDemand 0 5) (slot5 0 { blob := some (0, blob5) } []) (fun t => t.slotState 0 5 == 1) = true := by decide +kernel
theorem test_keyPreload :
    gives (.keyPreload 0) (slot5 0 { blob := some (0, blob5) } [(KEYS.POL 0 5, mk [(KEYS.POL.PRELOAD, 1)])]) (fun t => t.slotState 0 5 == 1) = true := by decide +kernel
theorem test_keyLoadDone_bad :
    let s := slot5 1 { blob := some (0, []) } [(KEYS.SLOT 0 0, 2)]
    s.blobKey 0 5 = none ∧ gives (.keyLoadDone 0 5) s (fun t => t.slotState 0 5 == 3 && logged (KEYS.EVT 0) 0 s t && t.fld (KEYS.LAST 0) KEYS.LAST.SLOT == 5) = true := by
  decide +kernel
/-- The example of RFC 3394 (4.1), the algorithm of R502. -/
theorem test_keyUnwrap :
    keyUnwrap kwDefault (List.range 16) [0x1F, 0xA6, 0x8B, 0x0A, 0x81, 0x12, 0xB4, 0x47, 0xAE, 0xF3, 0x4B, 0xD8, 0xFB, 0x5A, 0x7B, 0x82, 0x9D, 0x3E, 0x86, 0x23, 0x71,
      0xD2, 0xCF, 0xE5] = some ((List.range 16).map (· * 17)) := by decide +kernel
theorem test_keyUnwrap_bad : keyUnwrap kwDefault (List.range 16) [1, 2] = none ∧ keyUnwrap (kwSlot 0) rootKey ([] : List Nat) = none := by decide +kernel
/-- The key store of die 0 with something in it. -/
def store0 (u : KeyStore) (l : List (Nat × Nat) := []) : State := { slot5 2 { key := List.replicate 16 9, since := 2 ^ 20 } l with
    sec := { slots := [(sk 0 5, { key := List.replicate 16 9, since := 2 ^ 20 })], stores := [(0, u)] } }
theorem test_keyOpDone :
    let s := store0 { op := some { op := 6, target := 5, result := 2, outLen := 9 } }
    gives (.keyOpDone 0) s (fun t => (t.kstore 0).op.isNone && logged (KEYS.EVT 0) 6 s t && t.fld (KEYS.OP_CMD 0) KEYS.OP_CMD.RESULT == 2 &&
      t.fld (KEYS.OP_CMD 0) KEYS.OP_CMD.OUT_LEN == 9) = true := by decide +kernel
theorem test_resilverPass :
    let s := store0 {} [(KEYS.CFG 0, mk [(KEYS.CFG.RESILVER_MS, 10)])]
    s.pastMs 0 10 = true ∧ gives (.resilverPass 0) s (fun t => (t.kstore 0).passAt == 99999 && (t.kslot (sk 0 5)).since == 0 &&
      (t.kslot (sk 0 5)).key == List.replicate 16 9) = true ∧
    gives (.resilverPass 0) { s with sec := { s.sec with stores := [(0, { rng := 2 })] } } (fun t => (t.kslot (sk 0 5)).since == 2 ^ 20 && counted (KEYS.CNT 0 5) 1 s t) = true := by
  decide +kernel
theorem test_resilverSlotUses : gives (.resilverSlotUses 0 5) (store0 {}) (fun t => (t.kslot (sk 0 5)).since == 0) = true := by decide +kernel
theorem test_rngHealthFail :
    gives (.rngHealthFail 0) (store0 {}) (fun t => (t.kstore 0).rng == 1 && logged (KEYS.EVT 0) 2 (store0 {}) t && counted (KEYS.CNT 0 7) 1 (store0 {}) t) = true := by
  decide +kernel
theorem test_rngStop : gives (.rngStop 0) (store0 { rng := 1 }) (fun t => (t.kstore 0).rng == 2 && logged (KEYS.EVT 0) 3 (store0 {}) t) = true := by decide +kernel
theorem test_rngRestart :
    gives (.rngRestart 0 true) (store0 { rng := 2 }) (fun t => (t.kstore 0).rng == 0) = true ∧
    gives (.rngRestart 0 false) (store0 { rng := 2 }) (fun t => (t.kstore 0).rng == 2 && (t.kstore 0).rngAt == 99999) = true := by decide +kernel
theorem test_drbgReseed : gives (.drbgReseed 0) (store0 {}) (fun t => t.freeCount == 1 && decide (t.regs = (store0 {}).regs)) = true := by decide +kernel
theorem test_tamperAssert :
    let s := store0 {} [(KEYS.TAMPER 0, mk [(KEYS.TAMPER.ARM, 2)])]
    Nat.land (Nat.land 2 15) s.tamperArm = 2 ∧
    gives (.tamperAssert 2) s (fun t => t.fuse.sharesGone && bit (t.reg (RSTC.CAUSE 0)) 5) = true := by decide +kernel
theorem test_tamperSeen :
    gives (.tamperSeen 4) (store0 {}) (fun t => logged (KEYS.EVT 0) 4 (store0 {}) t && (t.kstore 0).tamperNow == 4) = true := by decide +kernel

/-- Partition 2 of die 0 runs on core 1; its aperture entry 9 allows stores to block b. -/
def fwAt (b : Nat) (l : List (Nat × Nat)) : State :=
  { svc ([on 0 0x78, (CPU.SCHED 0 8, mk [(CPU.SCHED.VALID, 1), (CPU.SCHED.PART, 2)])] ++ l) with
    cpu := { parts := [(ptk 0 2, { st := .running })] }, edges := 4000
    tbls := [(tblKey 0 0x79 9 0, BitVec.ofNat 48 (4 + 8 * 2 + 128)), (tblKey 0 0x79 9 1, BitVec.ofNat 48 (8 * b + 2 ^ 11 * b + 2 ^ 32 * 8191 + 2 ^ 46)),
      (tblKey 0 0x79 9 2, BitVec.ofNat 48 (2 ^ 48 - 1))] }
/-- Does hart 0's store reach its register, in the state as it is? -/
def reachesFw (i : Instr) (s : State) : Bool :=
  i.wellFormed && match regWrite i with
    | some (.hart 0 1 0, a, v) => (match s.arrives (.hart 0 1 0) a v with
      | some (ag, _) => decide (ag = .fw 0 2 1 0)
      | none => false) && (posts a || !s.refuses a v)
    | _ => false
/-- OP_CMD with an operation on slot 5, source 6. -/
def keyOp (op len : Nat) : Nat := mk [(KEYS.OP_CMD.OP, op), (KEYS.OP_CMD.TARGET, 5), (KEYS.OP_CMD.SOURCE, 6), (KEYS.OP_CMD.LEN, len)]
/-- Slots 5 and 6 with policies for partition 2 that allow every fill, use and direction; slot 6 loaded, slot 5 in a state. -/
def keysFw (st : Nat) : State :=
  { fwAt 0x68 [(KEYS.SLOT 0 5, st), (KEYS.SLOT 0 6, 2), (KEYS.POL 0 5, mk [(KEYS.POL.USE, 255), (KEYS.POL.DIR, 3), (KEYS.POL.FILL, 15), (KEYS.POL.EXPORT, 1), (KEYS.POL.PART_MASK, 4)]),
      (KEYS.POL 0 6, mk [(KEYS.POL.USE, 255), (KEYS.POL.DIR, 3), (KEYS.POL.PART_MASK, 4)])] with
    sec := { slots := [(sk 0 5, { key := List.replicate 16 9, blob := some (0, blob5) }), (sk 0 6, { key := List.range 16 })], stores := [(0, { rootOk := true })] } }
/-- A key operation in progress with a result to report. -/
def opBusy (op result : Nat) (t : State) : Bool :=
  t.fld (KEYS.OP_CMD 0) KEYS.OP_CMD.RESULT == 1 && (t.kstore 0).op.any fun o => o.op == op && o.target == 5 && o.part == some 2 && o.result == result
theorem test_load :
    reachesFw (.load (.hart 0 1 0) 0 (keyOp 1 0)) (keysFw 0) = true ∧ (keysFw 0).partOk 0 5 (some 2) = true ∧
    gives (.load (.hart 0 1 0) 0 (keyOp 1 0)) (keysFw 0) (fun t => opBusy 1 1 t && t.slotState 0 5 == 1) = true := by decide +kernel
theorem test_derive :
    reachesFw (.derive (.hart 0 1 0) 0 (keyOp 2 1)) (keysFw 0) = true ∧ (keysFw 0).polBit 0 5 KEYS.POL.FILL 1 = true ∧
    decide ((keysFw 0).keyUse 0 6 6 none none (some 2) = .ok (List.range 16)) = true ∧
    gives (.derive (.hart 0 1 0) 0 (keyOp 2 1)) (keysFw 0) (fun t => opBusy 2 2 t && t.slotState 0 5 == 2 && t.fld (KEYS.SLOT 0 5) KEYS.SLOT.SOURCE == 3) = true := by
  decide +kernel
theorem test_unwrap :
    reachesFw (.unwrap (.hart 0 1 0) 0 (keyOp 3 24)) (keysFw 0) = true ∧ (keysFw 0).polBit 0 5 KEYS.POL.FILL 2 = true ∧
    decide ((keysFw 0).keyUse 0 6 7 (some 1) none (some 2) = .ok (List.range 16)) = true ∧
    gives (.unwrap (.hart 0 1 0) 0 (keyOp 3 23)) (keysFw 0) (fun t => opBusy 3 6 t) = true := by decide +kernel
theorem test_wrap :
    reachesFw (.wrap (.hart 0 1 0) 0 (keyOp 4 0)) (keysFw 2) = true ∧ (keysFw 2).flag (KEYS.POL 0 5) KEYS.POL.EXPORT = true ∧
    decide ((keysFw 2).keyUse 0 6 7 (some 0) none (some 2) = .ok (List.range 16)) = true ∧
    gives (.wrap (.hart 0 1 0) 0 (keyOp 4 0)) (keysFw 2) (fun t => (t.kstore 0).op.any fun o => o.op == 4 && o.result == 2) = true := by decide +kernel
theorem test_generate :
    reachesFw (.generate (.hart 0 1 0) 0 (keyOp 5 0)) (keysFw 0) = true ∧
    gives (.generate (.hart 0 1 0) 0 (keyOp 5 0)) (keysFw 0) (fun t => (t.kstore 0).op.any fun o => o.op == 5 && o.result == 2) = true := by decide +kernel
theorem test_clear :
    reachesFw (.clear (.hart 0 1 0) 0 (keyOp 6 0)) (keysFw 2) = true ∧
    gives (.clear (.hart 0 1 0) 0 (keyOp 6 0)) (keysFw 2) (fun t => opBusy 6 2 t && t.slotState 0 5 == 0 && (t.kslot (sk 0 5)).key == []) = true := by decide +kernel
theorem test_wrapRoot : reachesFw (.wrapRoot (.hart 0 1 0) 0 (keyOp 7 0)) (keysFw 2) = true ∧ (keysFw 2).polBit 0 5 KEYS.POL.FILL 0 = true := by decide +kernel
theorem test_load_denied :
    let s := setRegs (keysFw 0) [(KEYS.POL 0 5, 0)]
    s.partOk 0 5 (some 2) = false ∧
    gives (.load (.hart 0 1 0) 0 (keyOp 1 0)) s (fun t => opBusy 1 3 t && logged (KEYS.EVT 0) 1 s t && counted (KEYS.CNT 0 6) 1 s t) = true := by decide +kernel
/-- Is a provisioning command started? -/
def provStarts (i : Instr) (op : Nat) (s : State) : Bool :=
  reaches i s && s.provMay 0 op && gives i s fun t => t.fld (KEYS.PROV_CMD 0) KEYS.PROV_CMD.RESULT == 1 && (t.kstore 0).prov.any fun e => e.1 == op
/-- Step 8 in a loader state, the root key good. -/
def provAt (st : Loader) : State := { atStep 8 with ld := { st := st }, sec := { stores := [(0, { rootOk := true })] } }
theorem test_provision : provStarts (.provision .spi 0 (mk [(KEYS.PROV_CMD.OP, 1)])) 1 (provAt .holdHost) = true := by decide +kernel
theorem test_restore : provStarts (.restore .spi 0 (mk [(KEYS.PROV_CMD.OP, 2)])) 2 (provAt .holdBad) = true := by decide +kernel
theorem test_rekey : provStarts (.rekey .spi 0 (mk [(KEYS.PROV_CMD.OP, 3)])) 3 (svc [(IMG.STAT 0, mk [(IMG.STAT.KEY_OK, 1)])]) = true := by decide +kernel
theorem test_renew : provStarts (.renew .spi 0 (mk [(KEYS.PROV_CMD.OP, 4)])) 4 (svc []) = true := by decide +kernel
theorem test_provision_refused :
    (svc []).provMay 0 1 = false ∧
    gives (.provision .spi 0 (mk [(KEYS.PROV_CMD.OP, 1)])) (svc [(KEYS.PROV 0 2, 7)]) (fun t => t.fld (KEYS.PROV_CMD 0) KEYS.PROV_CMD.RESULT == 3 && t.reg (KEYS.PROV 0 2) == 0) = true := by
  decide +kernel
theorem test_provCmdDone :
    gives (.provCmdDone 0 false true true true) (store0 { prov := some (1, [], 0) }) (fun t => t.fld (KEYS.PROV_CMD 0) KEYS.PROV_CMD.RESULT == 5 && (t.kstore 0).prov.isNone) = true ∧
    gives (.provCmdDone 0 true true true true) (store0 { prov := some (2, [], 0) }) (fun t => t.fld (KEYS.PROV_CMD 0) KEYS.PROV_CMD.RESULT == 4) = true ∧
    gives (.provCmdDone 0 true true true true) (store0 { prov := some (4, [], 0) }) (fun t => t.fld (KEYS.PROV_CMD 0) KEYS.PROV_CMD.RESULT == 6) = true := by decide +kernel

/-! ## Cipher jobs, flows and seals -/

/-- The state of keysFw for block b, all slots loaded, and what else is set. -/
def ciph (b : Nat) (l : List (Nat × Nat)) : State :=
  let s := keysFw 2
  setRegs { fwAt b [] with regs := s.regs, sec := s.sec } ([on 0 0x69, on 0 0x6B, on 0 0x6A, (CPU.SCHED 0 8, mk [(CPU.SCHED.VALID, 1), (CPU.SCHED.PART, 2)]),
    (CPU.MWIN 0 16, mk [(CPU.MWIN.SIZE, 1)] + 2 ^ 45 + 2 ^ 46)] ++ l)
theorem test_ciphJobStart :
    let i := Instr.ciphJobStart (.hart 0 1 0) [] 0 0 (mk [(CIPH.JOB.DESC, 64), (CIPH.JOB.START, 1)])
    reachesFw i (ciph 0x69 []) = true ∧
    gives i (ciph 0x69 []) (fun t => decide (t.job 0 = some { desc := 64, part := 2, core := 1, asked := 4000 }) &&
      holds t (CIPH.JOB_STAT 0 0) (word [(CIPH.JOB_STAT.RESULT, 1), (CIPH.JOB_STAT.PART, 2)])) = true := by decide +kernel
/-- A job at work on a descriptor of word 0 w0 and destination 256. -/
def jobOf (w0 : Nat) (size : Nat) : State :=
  let s := ciph 0x69 [(CPU.MWIN 0 16, mk [(CPU.MWIN.SIZE, size)] + 2 ^ 45 + 2 ^ 46)]
  (Act.memSetWord 0 32 256).run ((Act.memSetWord 0 0 (BitVec.ofNat 48 w0)).run { s with sec := { s.sec with jobs := [(0, some { desc := 0, part := 2, core := 1 })] } })
/-- The job has ended with a RESULT. -/
def jobEnds (n : Nat) (t : State) : Bool := (t.job 0).isNone && t.fld (CIPH.JOB_STAT 0 0) CIPH.JOB_STAT.RESULT == n
theorem test_ciphJobDone :
    gives (.ciphJobDone 0 0 false) (jobOf 0 0) (jobEnds 9) = true ∧ gives (.ciphJobDone 0 0 false) (jobOf 0 1) (jobEnds 5) = true := by decide +kernel
theorem test_ciphJobDone_cmac :
    let s := jobOf (5 + 8 * 6) 1
    decide (s.keyUse 0 6 0 (some 0) none (some 2) = .ok (List.range 16)) = true ∧ s.jobMem 0 2 256 16 46 = true ∧
    gives (.ciphJobDone 0 0 true) s (jobEnds 8) = true ∧ gives (.ciphJobDone 0 0 false) s (jobEnds 2) = true := by decide +kernel
/-- Profile 3 of table 0x53: slot 6, a tag of 8 bytes, 16 bits of epoch and 32 of counter, direction d, beacons. -/
def prof3 (d : Nat) : List (Nat × Word) :=
  [(tblKey 0 0x53 3 0, word [(SEAL.PROF_W0.SLOT, 6), (SEAL.PROF_W0.DIR, d), (SEAL.PROF_W0.VALID, 1), (SEAL.PROF_W0.TAG_BYTES, 8), (SEAL.PROF_W0.EPOCH_BITS, 16),
    (SEAL.PROF_W0.CTR_BITS, 32), (SEAL.PROF_W0.BEACON_EN, 1)]), (tblKey 0 0x53 3 1, word [(SEAL.PROF_W1.DATA_ID, 9), (SEAL.PROF_W1.BEACON_MS, 10)])]
/-- Flow 0 of the cipher engine with OP op, a frame waiting, the slots open to blocks of the package. -/
def flowAt (op : Nat) (bus : Bool) : State :=
  let s := ciph 0x69 [(CIPH.FLOW 0 0, mk [(CIPH.FLOW.OP, op), (CIPH.FLOW.PROFILE, 3), (CIPH.FLOW.NEXT_FACET, 5)]), (RSTC.START 0, mk [(RSTC.START.EPOCH_OK, 1)]),
    (KEYS.POL 0 6, mk [(KEYS.POL.USE, 255), (KEYS.POL.DIR, 3), (KEYS.POL.PART_MASK, 65535)])]
  { s with tbls := prof3 0, sw := { queues := [oneRef 0 61 0 0 { src := fk 0 5, bus := bus, data := tagged 0x1234 [1, 2] }] } }
theorem test_cipherFlow :
    let z := (flowAt 1 false).afterTake 0 61 fun _ => true
    ((flowAt 1 false).waits 0 61 fun _ => true).isSome = true ∧ (flowAt 1 false).flowProf 0 3 = true ∧ z.enabled 0 0x6B = true ∧ z.profUse 0 3 0 = true ∧
    z.epochOk = true ∧ decide (z.keyUse 0 6 1 (some 0) none none = .ok (List.range 16)) = true ∧
    gives (.cipherFlow 0 true) (flowAt 0 false) (fun t => counted (CIPH.CNT 0 5) 1 (flowAt 0 false) t) = true ∧
    gives (.cipherFlow 0 true) (flowAt 1 true) (fun t => counted (CIPH.CNT 0 4) 1 (flowAt 1 true) t) = true := by decide +kernel
theorem test_sealBeacon :
    let s := flowAt 1 false
    s.profUse 0 3 0 = true ∧ bit (s.prof 0 3 0) 27 = true ∧ decide (s.keyUse 0 6 3 (some 0) none none = .ok (List.range 16)) = true ∧
    gives (.sealBeacon 0 3 false) s (fun t => (t.fresh (pk 0 3)).ctr == 1 && (t.fresh (pk 0 3)).beaconAt == some 4000 && counted (SEAL.CNT 0 1) 1 s t) = true := by
  decide +kernel
/-- SA_CMD of an SA (sc 0) or SC. -/
def saCmd (i sc op : Nat) : Nat := mk [(MSEC.SA_CMD.INDEX, i), (MSEC.SA_CMD.SC, sc), (MSEC.SA_CMD.OP, op)]
theorem test_saCmdRead :
    let s := { ciph 0x6A [] with tbls := [(tblKey 0 saTbl 4 1, 77)] }
    reaches (.saCmdRead .spi 0 (saCmd 4 0 1)) s = true ∧ gives (.saCmdRead .spi 0 (saCmd 4 0 1)) s (fun t => holds t (MSEC.SA_W1 0) 77) = true ∧
    reaches (.saCmdRead .spi 0 (saCmd 108 1 1)) s = true ∧
    gives (.saCmdRead .spi 0 (saCmd 108 1 1)) s (fun t => t.fld (MSEC.SA_CMD 0) MSEC.SA_CMD.RESULT == 2) = true := by decide +kernel
theorem test_saCmdWrite :
    let s := ciph 0x6A [(MSEC.SA_W0 0, 5), (MSEC.SA_W1 0, 6)]
    reaches (.saCmdWrite .spi 0 (saCmd 4 0 2)) s = true ∧ s.saRefused 0 4 [5, 6, 0, 0, 0] = false ∧
    gives (.saCmdWrite .spi 0 (saCmd 4 0 2)) s (fun t => t.tbl 0 saTbl 4 0 == 5 && t.tbl 0 saTbl 4 1 == 6) = true ∧
    gives (.saCmdWrite .spi 0 (saCmd 107 1 2)) s (fun t => t.tbl 0 scTbl 107 0 == 5) = true ∧
    gives (.saCmdWrite .spi 0 (saCmd 432 0 2)) s (fun t => t.fld (MSEC.SA_CMD 0) MSEC.SA_CMD.RESULT == 2 && decide (t.tbls = s.tbls)) = true := by decide +kernel
/-- INDEX 3 with an OP. -/
def at3 (op : Nat) : Nat := mk [(SEAL.PROF_CMD.INDEX, 3), (SEAL.PROF_CMD.OP, op)]
theorem test_profCmdRead :
    let s := { ciph 0x6B [] with tbls := prof3 0 }
    reaches (.profCmdRead .spi 0 (at3 1)) s = true ∧ gives (.profCmdRead .spi 0 (at3 1)) s (fun t => holds t (SEAL.PROF_W0 0) (s.prof 0 3 0)) = true := by decide +kernel
theorem test_profCmdWrite :
    let s := ciph 0x6B [(SEAL.PROF_W1 0, 9)]
    let b := ciph 0x6B [(SEAL.PROF_W0 0, mk [(SEAL.PROF_W0.VALID, 1)])]
    reaches (.profCmdWrite .spi 0 (at3 2)) s = true ∧ s.profRefused 0 0 9 0 = false ∧
    gives (.profCmdWrite .spi 0 (at3 2)) s (fun t => t.prof 0 3 1 == 9) = true ∧ reaches (.profCmdWrite .spi 0 (at3 2)) b = true ∧
    gives (.profCmdWrite .spi 0 (at3 2)) b (fun t => t.fld (SEAL.PROF_CMD 0) SEAL.PROF_CMD.RESULT == 2 && t.prof 0 3 0 == 0) = true := by decide +kernel
/-- Profile 3 receives, with a reference. -/
def ref3 (d : Nat) : State :=
  let s := ciph 0x6B []
  { s with tbls := prof3 d, sec := { s.sec with fresh := [(pk 0 3, { ctr := 8, ref := some 44 })] } }
theorem test_fvCmdRead :
    reaches (.fvCmdRead .spi 0 (at3 1)) (ref3 1) = true ∧
    gives (.fvCmdRead .spi 0 (at3 1)) (ref3 1) (fun t => t.fld (SEAL.FV_CMD 0) SEAL.FV_CMD.HAVE_REF == 1 && holds t (SEAL.FV_W 0) 44) = true ∧
    gives (.fvCmdRead .spi 0 (at3 1)) (ref3 0) (fun t => t.fld (SEAL.FV_CMD 0) SEAL.FV_CMD.HAVE_REF == 0 && holds t (SEAL.FV_W 0) 8) = true := by decide +kernel
theorem test_fvCmdClearRef :
    reaches (.fvCmdClearRef .spi 0 (at3 2)) (ref3 1) = true ∧
    gives (.fvCmdClearRef .spi 0 (at3 2)) (ref3 1) (fun t => decide ((t.fresh (pk 0 3)).ref = none) && (t.fresh (pk 0 3)).ctr == 8) = true ∧
    gives (.fvCmdClearRef .spi 0 (at3 2)) (ref3 0) (fun t => t.fld (SEAL.FV_CMD 0) SEAL.FV_CMD.RESULT == 2 && (t.fresh (pk 0 3)).ref == some 44) = true := by decide +kernel

/-! ## The pair -/

/-- Device 1 with partner 9 on link facet 3 at die time 1 s, the domain engine on, member 9 heard there, slot 6 its key. -/
def unit (role : Nat) (u : Pair) (l : List (Nat × Nat) := []) : State :=
  { svc ([on 0 0x70, on 0 0x71, on 0 0x72, on 0 8, on 0 9, on 0 0x23, (IMG.ID 0, mk [(IMG.ID.DEVICE_ID, 1)]), (RSTC.START 0, mk [(RSTC.START.EPOCH_OK, 1)]),
      (PAIR.CFG 0, mk [(PAIR.CFG.EN, 1), (PAIR.CFG.ROLE, role), (PAIR.CFG.PARTNER, 9), (PAIR.CFG.LINK_FACET_0, 3), (PAIR.CFG.LINK_FACET_1, 3)]),
      (PLX.CFG 0, mk [(PLX.CFG.EN, 1), (PLX.CFG.KEY_SLOT, 6), (PLX.CFG.HOPS, 4)]), (KEYS.SLOT 0 6, 2), (PLX.GROUP_MAC 0, 0x030000000001),
      (KEYS.POL 0 6, mk [(KEYS.POL.USE, 255), (KEYS.POL.DIR, 3), (KEYS.POL.PART_MASK, 65535)])] ++ l) with
    io := { pair := u }, edges := 99999, plx := { members := [(9, some { heard := true, last := 1000000000, route := some (3, 7, 0) })] }
    sw := { dieTime := [(0, 2 ^ 32 * 1000000000)], eths := [(fk 0 3, { up := true })] }, sec := { slots := [(sk 0 6, { key := List.range 16 })] } }
/-- A message of device 9 under epoch 1 and sequence number 5, its TAG appended. -/
def msg9 (ty flags : Nat) (body tag : List Byte) : Nat × Nat × List Byte :=
  (3, 77, List.replicate 14 0 ++ [1, BitVec.ofNat 8 ty, BitVec.ofNat 8 flags, 0, 0, 9, 0, 1, 0, 0] ++ beBytes 2 body.length ++ [0, 0, 0, 1, 0, 0, 0, 5] ++ body ++ tag)
/-- A state with one message in the inbox. -/
def inbox (e : Nat × Nat × List Byte) (s : State) : State := { s with plx := { s.plx with inbox := [e] } }
/-- The partner's heartbeat: role 1, JOINED, owner, sent at 7. -/
def beat9 : Nat × Nat × List Byte := msg9 5 1 ([0, 0, 9, 21] ++ beBytes 6 7 ++ List.replicate 12 0) [252, 67, 196, 140, 106, 122, 208, 27]
theorem test_pairHeartbeatSend :
    let s := unit 0 { st := .joined }
    s.pairFacets = [3] ∧ s.facetDown 0 3 = false ∧ s.pairOn = true ∧ s.plxOn = true ∧ s.epochOk = true ∧ s.partnerMac = some 7 ∧
    decide (s.keyUse 0 6 5 (some 0) none none = .ok (List.range 16)) = true ∧
    gives .pairHeartbeatSend s (fun t => t.plx.sent == 1 && t.io.pair.beatAt == some 1000000000) = true := by decide +kernel
theorem test_ezProved :
    let s := inbox beat9 (unit 0 { st := .joined })
    let m := ezParse beat9
    m.bad = false ∧ m.type = 5 ∧ m.src = 9 ∧ m.auth = true ∧ (s.member 9).isSome = true ∧ (s.member 9).all (fun u => decide (u.freshness m = .greater)) = true ∧
    (cmac (List.range 16) (nats (m.bytes.take 42))).take 8 = nats ((m.bytes.drop 42).take 8) := by decide +kernel
theorem test_pairHeartbeatReceive :
    gives (.pairHeartbeatReceive false) (inbox beat9 (unit 0 { st := .joined })) (fun t => t.io.pair.link0 == some 1000000000 && t.io.pair.pState == 2 &&
      t.io.pair.pOwner && t.io.pair.lastBeat == some (7, 77)) = true := by decide +kernel
theorem test_pairLinkLoss :
    let s := unit 0 { st := .joined }
    s.pairUp = false ∧
    gives (.pairLinkLoss true) s (fun t => decide (t.io.pair.st = .split ∧ t.io.pair.claim = .none) && bit (t.reg (PAIR.EVT 0)) 1 && counted (PAIR.CNT 0 11) 1 s t) = true ∧
    gives (.pairLinkLoss false) s (fun t => decide (t.io.pair.st = .partnerLost ∧ t.io.pair.claim = .wait 1000000000) && bit (t.reg (PAIR.EVT 0)) 2) = true := by
  decide +kernel
theorem test_pairDecide :
    gives (.pairDecide false) (unit 0 { st := .alone }) (fun t => decide (t.io.pair.st = .alone ∧ t.io.pair.claim = .wait 1000000000)) = true ∧
    gives (.pairDecide true) (unit 0 { st := .partnerLost, claim := .wait 5 }) (fun t => decide (t.io.pair.st = .split ∧ t.io.pair.claim = .none)) = true := by
  decide +kernel
theorem test_pairJoin :
    let u : Pair := { st := .alone, link0 := some 999999000, upSince := some 800000000 }
    (unit 0 u).pairUp = true ∧
    gives (.pairJoin false) (unit 0 u) (fun t => decide (t.io.pair.st = .joined ∧ t.io.pair.claim = .pulled 1000000000 0 false) && bit (t.reg (PAIR.EVT 0)) 3) = true ∧
    gives (.pairJoin false) (unit 1 { u with owner := true, pOwner := true }) (fun t => !t.io.pair.owner && bit (t.reg (PAIR.EVT 0)) 6) = true := by decide +kernel
theorem test_claimWaitEnd :
    gives (.claimWaitEnd false) (unit 0 { st := .alone, claim := .wait 0 }) (fun t => t.io.pair.pulls && decide (t.io.pair.claim = .pulled 1000000000 0 false)) = true ∧
    gives (.claimWaitEnd false) (unit 0 { st := .alone, claim := .wait 1000000000 } [(PAIR.TIMING 0, mk [(PAIR.TIMING.CLAIM_MS, 10)])]) (fun t => !t.io.pair.pulls) = true ∧
    gives (.claimWaitEnd true) (unit 0 { st := .alone, claim := .wait 0 }) (fun t => t.io.pair.theirs && decide (t.io.pair.claim = .none)) = true := by decide +kernel
theorem test_claimProbe :
    let u : Pair := { st := .alone, pulls := true }
    gives (.claimProbe false) (unit 0 { u with claim := .pulled 0 3 false }) (fun t => t.io.pair.owner && bit (t.reg (PAIR.EVT 0)) 4) = true ∧
    gives (.claimProbe false) (unit 0 { u with claim := .pulled 0 2 false }) (fun t => decide (t.io.pair.claim = .pulled 0 3 false)) = true ∧
    gives (.claimProbe true) (unit 1 { u with claim := .pulled 0 0 false }) (fun t => !t.io.pair.pulls && bit (t.reg (PAIR.EVT 0)) 6) = true ∧
    gives (.claimProbe true) (unit 0 { u with claim := .pulled 0 0 true }) (fun t => decide (t.io.pair.claim = .wait 1000000000)) = true ∧
    gives (.claimProbe true) (unit 0 { u with claim := .pulled 0 0 false }) (fun t => decide (t.io.pair.claim = .pulled 1000000000 0 true)) = true := by decide +kernel
/-- Witnesses on CAN controller 9 with identifier 0x40. -/
def wit : Nat × Nat := (PAIR.WIT 0, mk [(PAIR.WIT.WIT_FACET, 41), (PAIR.WIT.WIT_ID, 0x40), (PAIR.WIT.WIT_MS, 10)])
theorem test_witnessSend :
    gives .witnessSend (unit 0 { st := .joined } [wit]) (fun t => t.io.pair.witNo == 1 && (t.buf (fk 0 63)).any fun r =>
      bfId r.fr.data == 0x40 && bfData r.fr.data == [0, 1, 2, 0, 0, 0, 0, 0]) = true := by decide +kernel
theorem test_witnessReceive :
    gives (.witnessReceive 0 9 (ccFrame true 0x41 [0, 9])) (unit 0 { st := .joined } [wit]) (fun t => t.io.pair.witness == some 1000000000) = true := by decide +kernel
/-- The owner may hand over: four exchanges of small trips. -/
def handing (l : List (Nat × Nat)) : State := unit 0 { st := .joined, owner := true, trips := List.replicate 4 (999999999, 100, 5) } l
theorem test_handover :
    let v := mk [(PAIR.CMD.HANDOVER, 1)]
    reaches (.handover .spi false v) (handing []) = true ∧ (handing []).mayHand = true ∧
    gives (.handover .spi false v) (handing [(PAIR.TIMING 0, mk [(PAIR.TIMING.LEAD_US, 10)])]) (fun t => decide (t.io.pair.hand = .gives 1000010000 false) &&
      t.fld (PAIR.CMD 0) PAIR.CMD.RESULT == 1) = true ∧
    gives (.handover .spi false v) (unit 0 { st := .joined }) (fun t => t.fld (PAIR.CMD 0) PAIR.CMD.RESULT == 3) = true ∧
    gives (.handover .spi false v) (handing [(PAIR.CMD 0, mk [(PAIR.CMD.RESULT, 1)])]) (fun t => decide (t.io.pair.hand = .none)) = true := by decide +kernel
theorem test_handover_auto :
    gives (.handover .spi true 0) (unit 0 { st := .joined, wants := true }) (fun t => !t.io.pair.wants) = true := by decide +kernel
theorem test_grantReceive :
    let e := msg9 5 1 ([1] ++ beBytes 6 1100000000) [136, 110, 213, 222, 4, 55, 18, 148]
    let s := inbox e (unit 1 { st := .joined, trips := List.replicate 4 (999999999, 100, 0) })
    s.offsetValid = true ∧ s.pairedTurnOns = [] ∧
    gives (.grantReceive false) s (fun t => decide (t.io.pair.hand = .takes 1100000000 1100000000 true true)) = true := by decide +kernel
theorem test_handoverSwitch :
    gives .handoverSwitch (unit 1 { st := .joined, hand := .takes 999999999 5 true true }) (fun t => t.io.pair.owner && t.io.pair.pulls && bit (t.reg (PAIR.EVT 0)) 4) = true := by
  decide +kernel
theorem test_handoverProbe :
    let u : Pair := { st := .joined, owner := true, pulls := true }
    gives (.handoverProbe true) (unit 0 { u with hand := .gives 999000000 false }) (fun t => !t.io.pair.owner && t.io.pair.theirs && t.fld (PAIR.CMD 0) PAIR.CMD.RESULT == 2) = true ∧
    gives (.handoverProbe false) (unit 0 { u with hand := .gives 999000000 false }) (fun t => t.io.pair.owner && t.fld (PAIR.CMD 0) PAIR.CMD.RESULT == 5) = true ∧
    gives (.handoverProbe false) (unit 0 { u with hand := .gives 999000000 true }) (fun t => t.fld (PAIR.CMD 0) PAIR.CMD.RESULT == 4) = true := by decide +kernel
/-- Recovery entry 7 armed for silence of one interval, path A not moving. -/
def silent : State :=
  { unit 0 {} with tbls := [(tblKey 0 0x56 7 1, BitVec.ofNat 48 (2 ^ 13 + 2 ^ 32 + 2 ^ 33)), (tblKey 0 0x57 7 0, 5), (tblKey 0 0x57 7 1, 9)]
                   sw := { recov := [(7, { seenA := 5, seenB := 8 })] } }
theorem test_pathSilentSweep :
    (silent.seqEntries 0 0x56).filter (fun i => bit (silent.tbl 0 0x56 i 1) 32) = [7] ∧
    gives (.pathSilentSweep 0) silent (fun t => (t.rcv 7).ageA == 1 && (t.rcv 7).ageB == 0 && (t.rcv 7).toldA && bit (t.reg (PAIR.EVT 0)) 8 &&
      holds t (PAIR.SILENT_LAST 0) (word [(PAIR.SILENT_LAST.ENTRY, 7)])) = true := by decide +kernel
/-- TBL_CMD on entry i of table 0x54. -/
def pairTbl (i op : Nat) : Nat := mk [(PAIR.TBL_CMD.TABLE, 0x54), (PAIR.TBL_CMD.OP, op), (PAIR.TBL_CMD.INDEX, i)]
theorem test_pairTblRead :
    let s := { unit 0 {} with tbls := [(tblKey 0 0x54 255 0, 66)] }
    reaches (.pairTblRead .spi 0 (pairTbl 255 1)) s = true ∧ gives (.pairTblRead .spi 0 (pairTbl 255 1)) s (fun t => holds t (PAIR.TBL_W 0 0) 66) = true ∧
    reaches (.pairTblRead .spi 0 (pairTbl 256 1)) s = true ∧ gives (.pairTblRead .spi 0 (pairTbl 256 1)) s (fun t => t.reg (PAIR.TBL_W 0 0) == 0) = true := by
  decide +kernel
theorem test_pairTblWrite :
    let s := unit 0 {} [(PAIR.TBL_W 0 0, 66)]
    reaches (.pairTblWrite .spi 0 (pairTbl 255 2)) s = true ∧ pairTblBad 0 0x54 [66] = false ∧
    gives (.pairTblWrite .spi 0 (pairTbl 255 2)) s (fun t => t.tbl 0 0x54 255 0 == 66) = true ∧
    gives (.pairTblWrite .spi 0 (pairTbl 256 2)) s (fun t => t.fld (PAIR.TBL_CMD 0) PAIR.TBL_CMD.RESULT == 2) = true := by decide +kernel

/-! ## Sleep and wake -/

/-- Partial network 2 of CAN controller 9 and Ethernet facet 3. -/
def pn2 (n : PartNet) (l : List (Nat × Nat) := []) (z : Doze := {}) : State :=
  let s := unit 0 {} ([(WAKE.PN_CFG 0 2, mk [(WAKE.PN_CFG.EN, 1), (WAKE.PN_CFG.ETH_OFF, 1)]), (WAKE.PN_MEMB_A 0 8, 8), (WAKE.PN_MEMB_B 0 8, 2 ^ 9),
    (WAKE.CFG 0, mk [(WAKE.CFG.SILENCE_MS, 1000), (WAKE.CFG.KA_PERIOD_MS, 100)]), (WAKE.CFG_B 0, mk [(WAKE.CFG_B.ROUND_MS, 10), (WAKE.CFG_B.TOKEN_LOST_MS, 100),
      (WAKE.CFG_B.NOTICE_MS, 100), (WAKE.CFG_B.CONFIRM_MS, 100), (WAKE.CFG_B.LIN_PULSE_US, 50)]), (WAKE.ADM 0, mk [(WAKE.ADM.SLOT_MS, 5)])] ++ l)
  { s with io := { pnets := [(2, n)], doze := z }, nets := { cans := [(canKey 0 9, { st := .active })] } }
theorem test_wakeReqWrite :
    let s := fwAt 0x71 [on 0 0x71]
    reachesFw (.wakeReqWrite (.hart 0 1 0) 0 2 0x10005) s = true ∧ gives (.wakeReqWrite (.hart 0 1 0) 0 2 0x10005) s (fun t => t.reg (WAKE.REQ 0 2) == 0x10005) = true ∧
    reaches (.wakeReqWrite .spi 0 16 4) (pn2 {}) = true ∧ gives (.wakeReqWrite .spi 0 16 4) (pn2 {}) (fun t => t.reg (WAKE.REQ 0 16) == 4) = true ∧
    reaches (.wakeReqWrite .spi 0 1 4) (pn2 {}) = true ∧ gives (.wakeReqWrite .spi 0 1 4) (pn2 {}) (fun t => t.reg (WAKE.REQ 0 1) == 0) = true := by decide +kernel
theorem test_pnWake :
    (pn2 {}).pnOn 2 = true ∧ (pn2 {} [(WAKE.REQ 0 1, 4)]).pnAsked 2 = true ∧ (pn2 {}).pnMembers 2 = [3, 41] ∧
    gives (.pnWake 2) (pn2 {} [(WAKE.REQ 0 1, 4)]) (fun t => (t.pnet 2).awake && (t.pnet 2).silence == 99999 && bit (t.reg (WAKE.EVT 0)) 1) = true ∧
    gives (.pnWake 2) (pn2 { due := some .keepAlive }) (fun t => (t.pnet 2).awake && (t.pnet 2).hold == some 99999) = true := by decide +kernel
theorem test_pnSleep :
    let s := pn2 { awake := true }
    s.pnHeld 2 = false ∧ s.pastMs 0 1000 = true ∧
    gives (.pnSleep 2) s (fun t => !(t.pnet 2).awake && !t.enabled 0 0x23 && t.io.doze.ethOff == [3] && decide ((t.can 9).st = .sleep) && logged (WAKE.EVT 0) 2 s t &&
      counted (WAKE.CNT 0 3) 1 s t) = true := by decide +kernel
theorem test_keepalivePnSend :
    let s := setRegs (pn2 { awake := true } [(PLX.CAN_KA 0, mk [(PLX.CAN_KA.EN, 1)]), (WAKE.REQ 0 1, 4)]) [(WAKE.PN_MEMB_A 0 8, 0)]
    s.pnMembers 2 = [41] ∧ s.memberAwake 41 = true ∧ s.facetDown 0 41 = false ∧
    gives (.keepalivePnSend 2) s (fun t => counted (WAKE.CNT 0 7) 1 s t && counted (PLX.CNT 0 0) 1 s t && (t.buf (fk 0 63)).any fun r => r.fr.bus) = true ∧
    gives (.keepalivePnSend 2) (setRegs s [(WAKE.PN_MEMB_A 0 8, 8), (WAKE.PN_MEMB_B 0 8, 0)]) (fun t => counted (PLX.CNT 0 0) 1 s t && (t.buf (fk 0 63)).any fun r => !r.fr.bus) =
      true := by decide +kernel
theorem test_keepalivePnSeen :
    (pn2 {}).pnOf 41 = some 2 ∧ (pn2 {}).memberAwake 41 = true ∧
    gives (.keepalivePnSeen 41 4) (pn2 { awake := true }) (fun t => (t.pnet 2).silence == 99999 && counted (WAKE.CNT 0 8) 1 (pn2 {}) t &&
      t.fld (WAKE.PN_STAT 0 2) WAKE.PN_STAT.LAST_KA == 41) = true ∧
    gives (.keepalivePnSeen 41 4) (pn2 {}) (fun t => !(t.pnet 2).awake && decide ((t.pnet 2).due = some .keepAlive)) = true := by decide +kernel
theorem test_wakePatternSlot :
    let s := pn2 {} [] { patterns := [3, 50], ethOff := [3] }
    s.sagNow = false ∧ gives .wakePatternSlot (setRegs s [(BLK_CTRL 0 0x23, 0)]) (fun t => t.io.doze.patterns == [50] && t.io.doze.ethOff == [] && bit (t.reg (BLK_CTRL 0 0x23)) 1) = true ∧
    gives .wakePatternSlot (pn2 {} [] { patterns := [50] }) (fun t => t.io.doze.pulses == [(50, 99999)] && decide (t.out = [.linWake 0 2 5000])) = true ∧
    gives .wakePatternSlot { s with sup := [(0, { alive := true, sag := true })] } (fun t => t.io.doze.patterns == [3, 50] && t.io.doze.slot.isSome) = true := by decide +kernel
theorem test_linWakeScheduleRestart :
    let s := { pn2 {} [(LIN.TBL 0 2 0, mk [(LIN.TBL.FIRST, 8), (LIN.TBL.LEN, 1)])] { pulses := [(50, 0)] } with nets := { lins := [(linKey 0 2, { st := .sleep, entry := 4 })] } }
    gives (.linWakeScheduleRestart 0 2) s (fun t => t.io.doze.pulses == [] && (t.lin (linKey 0 2)).entry == 0 && decide ((t.lin (linKey 0 2)).st = .running)) = true := by
  decide +kernel
/-- The ring of this package in a state. -/
def ring (g : Ring) : State := pn2 {} [] { ring := g }
/-- A round begins with a phase. -/
def begins (ph : Phase) (t : State) : Bool := t.io.doze.ring.origin && decide (t.io.doze.ring.phase = some ph) && t.io.doze.ring.token.any fun k => decide (k.phase = ph) && k.pos == 0
theorem test_tokenOriginate : (ring {}).ringOn = true ∧ gives .tokenOriginate (ring {}) (begins .poll) = true := by decide +kernel
theorem test_tokenLost :
    gives .tokenLost (ring { origin := true, flight := some 0 }) (fun t => begins .poll t && logged (WAKE.EVT 0) 6 (ring {}) t && counted (WAKE.CNT 0 6) 1 (ring {}) t) = true ∧
    gives .tokenLost (ring { last := some 0 }) (begins .poll) = true := by decide +kernel
theorem test_noticeEnd : gives .noticeEnd (ring { origin := true, notice := some 0 }) (begins .go) = true := by decide +kernel
theorem test_tokenPass :
    (ring {}).ringDies = [0, 1, 2, 3, 4, 5, 6, 7] ∧ (ring {}).consents 0 = false ∧
    gives .tokenPass (ring { token := some { phase := .commit, pos := 0, round := 9 } }) (fun t => t.io.doze.ring.token == some { phase := .abort, pos := 1, round := 9 } &&
      t.io.doze.ring.round == 9 && logged (WAKE.EVT 0) 4 (ring {}) t) = true ∧
    gives .tokenPass (ring { token := some { pos := 1 } }) (fun t => t.io.doze.ring.token == some { pos := 2, mask := 2 }) = true ∧
    gives .tokenPass { ring { token := some { pos := 4 } } with prism := [(0, { cutRank := [0] })] } (fun t => t.io.doze.ring.token.isNone) = true := by decide +kernel
theorem test_tokenPass_partner :
    let s := inbox (msg9 5 1 [4, 0, 0, 3, 0, 0] [6, 190, 218, 106, 109, 218, 81, 253]) (unit 1 { st := .joined })
    gives .tokenPass { s with io := { s.io with doze := { ring := { origin := true, flight := some 4 } } } } (fun t => !t.io.doze.ring.origin && t.io.doze.ring.flight.isNone) = true := by
  decide +kernel
theorem test_tokenReturn :
    let k := fun (ph : Phase) => some ({ pos := 8, mask := 255, phase := ph } : Token)
    (ring {}).ringPresent = 255 ∧
    gives .tokenReturn (ring { origin := true, token := k .poll }) (begins .commit) = true ∧
    gives .tokenReturn (ring { origin := true, token := k .commit }) (fun t => t.io.doze.ring.notice == some 99999) = true ∧
    gives .tokenReturn (ring { origin := true, token := k .go }) (begins .sleep) = true ∧
    gives .tokenReturn (ring { origin := true, token := some { pos := 8, mask := 254 } }) (fun t => t.io.doze.ring.token.isNone && decide (t.io.doze.ring.phase = none) &&
      t.io.doze.ring.consent == 254) = true ∧
    gives .tokenReturn (ring { origin := true, phase := some .commit, token := k .abort }) (fun t => logged (WAKE.EVT 0) 4 (ring {}) t && counted (WAKE.CNT 0 4) 1 (ring {}) t) = true := by
  decide +kernel
theorem test_sleepEntry :
    let k := fun (n : Nat) => ring { token := some { pos := n, phase := .sleep } }
    gives .sleepEntry (k 0) (fun t => counted (WAKE.CNT 0 0) 1 (ring {}) t && !t.enabled 0 0x23 && decide (t.io.stage = .entering) && t.io.doze.ring.token.any (·.pos == 1)) = true ∧
    gives .sleepEntry (k 7) (fun t => decide (t.io.stage = .passed) && !(t.supply 3).chanOn && t.reg (WKP.CAUSE 3) == 0) = true := by decide +kernel
theorem test_sleepOff :
    let s := ring {}
    gives .sleepOff { s with io := { s.io with stage := .passed } } (fun t => decide (t.io.stage = .asleep ∧ t.seq.stage = .off) && t.io.offAt == 99999 && !t.seq.enCore) = true := by
  decide +kernel
/-- The package asleep, sources of drive die 0 armed. -/
def asleep (m : Machine) (l : List (Nat × Nat) := []) : State :=
  { unit 0 {} ([(WKP.SRC_EN 0, 0xFFFFFFFFFF), (WKP.SRC_EN 1, 0xFFFFFFFFFF)] ++ l) with io := { m with stage := .asleep }, seq := {} }
theorem test_wakeSource :
    (asleep {}).srcArmed 1 16 = true ∧
    gives (.wakeSource 1 16 true) (asleep {}) (fun t => holds t (WKP.CAUSE 1) (word [(WKP.CAUSE.SRC, 16), (WKP.CAUSE.VALID, 1)]) &&
      holds t (WKP.CAUSE 0) (word [(WKP.CAUSE.SRC, 16), (WKP.CAUSE.DIE, 1), (WKP.CAUSE.VALID, 1)]) && t.io.wakeUp && (t.drv 1).asserted == 2 ^ 16) = true ∧
    gives (.wakeSource 2 39 true) (asleep {}) (fun t => (t.drv 2).asserted == 2 ^ 39 && !t.io.wakeUp) = true ∧
    gives (.wakeSource 1 16 false) (asleep { drives := [(1, { asserted := 2 ^ 16 })] }) (fun t => (t.drv 1).asserted == 0) = true := by decide +kernel
theorem test_wakeTimer :
    gives .wakeTimer (asleep {} [(WKP.TIMER 0, 3)]) (fun t => t.io.wakeUp && t.fld (WKP.CAUSE 0) WKP.CAUSE.SRC == 14) = true := by decide +kernel
theorem test_wakeStart :
    let s := asleep { wakeUp := true } [(WKP.START 0, mk [(WKP.START.START_TH, 50), (WKP.START.JITTER_MS, 10)])]
    gives (.wakeStart 499) s (fun t => logged (WKP.EVT 0) 4 s t && decide (t.io = s.io)) = true ∧
    gives (.wakeStart 500) (asleep { wakeUp := true, offAt := 99999 } [(WKP.START 0, mk [(WKP.START.START_TH, 50)])]) (fun t => decide (t.io.stage = .asleep)) = true ∧
    gives (.wakeStart 500) { s with io := { s.io with jitter := some (0, 10) } } (fun t => decide (t.io.stage = .awake ∧ t.seq.stage = .core) && t.seq.enCore) = true ∧
    gives (.wakeStart 500) { s with io := { s.io with jitter := some (99999, 10) } } (fun t => decide (t.io.stage = .asleep)) = true := by decide +kernel
/-- Transceiver 2 of drive die 0 in standby under a wake mode. -/
def standby (mode errs : Nat) : State :=
  { asleep {} [(WKP.XCVR_WAKE 0, mode * 16 + mk [(WKP.XCVR_WAKE.ERR_LIMIT, 3)]), (WKP.WUF_A_ID 0, mk [(WKP.WUF_A_ID.ID, 0x77), (WKP.WUF_A_ID.DLC, 2)]), (WKP.WUF_A_MASK 0, 0x7FF)] with
    nets := { xcvrs := [(xKey 0 2, { mode := .standby, errs := errs })] } }
theorem test_xcvrWakeDetect :
    (standby 1 0).xcvrHeld 0 2 = false ∧
    gives (.xcvrWakeDetect 0 2 0 0 []) (standby 1 0) (fun t => t.io.wakeUp && (t.xcvr (xKey 0 2)).woken && (t.xcvr (xKey 0 2)).wokeAt == 99999) = true ∧
    gives (.xcvrWakeDetect 0 2 1 0 (ccFrame false 0x77 [1, 2])) (standby 2 1) (fun t => (t.xcvr (xKey 0 2)).woken) = true ∧
    gives (.xcvrWakeDetect 0 2 1 0 (ccFrame false 0x78 [1, 2])) (standby 2 1) (fun t => !(t.xcvr (xKey 0 2)).woken && (t.xcvr (xKey 0 2)).errs == 0) = true ∧
    gives (.xcvrWakeDetect 0 2 2 0 []) (standby 2 2) (fun t => !(t.xcvr (xKey 0 2)).woken && (t.xcvr (xKey 0 2)).errs == 3) = true ∧
    gives (.xcvrWakeDetect 0 2 2 0 []) (standby 2 3) (fun t => (t.xcvr (xKey 0 2)).woken) = true := by decide +kernel
theorem test_wakeFailsafe :
    let s := { asleep { drives := [(0, { awaited := [(2, 5), (3, 5)] })] } with nets := { xcvrs := [(xKey 0 2, { mode := .silent, woken := true })] } }
    gives (.wakeFailsafe 0 2) s (fun t => decide ((t.xcvr (xKey 0 2)).mode = .standby) && !(t.xcvr (xKey 0 2)).woken && (t.drv 0).awaited == [(3, 5)] &&
      bit (t.reg (WKP.EVT 0)) 1) = true := by decide +kernel
/-- A package wake is being judged. -/
def judging : State := pn2 {} [] { judges := [{ src := 2 }, { pn := some 2, since := 99999 }] }
theorem test_confirm :
    let v := mk [(WAKE.CMD.CONFIRM, 1)]
    reaches (.confirm .spi 0 v) judging = true ∧ gives (.confirm .spi 0 v) judging (fun t => t.io.doze.judges == [] && t.fld (WAKE.CAUSE 0) WAKE.CAUSE.VALID_STATE == 1) = true := by
  decide +kernel
theorem test_wakeValidityTimeout :
    gives .wakeValidityTimeout judging (fun t => t.io.doze.judges == [{ pn := some 2, since := 99999 }] && counted (WAKE.CNT 0 5) 1 judging t && bit (t.reg (WAKE.EVT 0)) 5 &&
      t.fld (WAKE.CAUSE 0) WAKE.CAUSE.VALID_STATE == 2) = true := by decide +kernel
theorem test_sourceRearm :
    let s := { asleep { drives := [(0, { disarmed := [(2, 0), (3, 0)] })] } with edges := 1800 * 32768 }
    gives (.sourceRearm 0 2) s (fun t => (t.drv 0).disarmed == [(3, 0)] && logged (WKP.EVT 0) 3 s t) = true := by decide +kernel
theorem test_rearm :
    let v := mk [(WKP.CMD.REARM, 1)]
    let s := { svc [] with io := { drives := [(0, { disarmed := [(2, 0)], invalid := [(1, 1)] })] } }
    reaches (.rearm .spi 0 v) s = true ∧ gives (.rearm .spi 0 v) s (fun t => t.dlinkDown 0 == false && (t.drv 0).disarmed == [(2, 0)] &&
      gives (.postedWriteEffect 4 0x2C) t fun z => (z.drv 0).disarmed == [] && (z.drv 0).invalid == []) = true := by decide +kernel
theorem test_wakeReportTimeout :
    let s := fun (n : Nat) => { asleep { drives := [(0, { awaited := [(2, 0)], invalid := List.replicate n (2, 400000) })] } with edges := 400000 }
    gives (.wakeReportTimeout 0) (s 6) (fun t => (t.drv 0).awaited == [] && (t.drv 0).invalid.length == 7) = true ∧
    gives (.wakeReportTimeout 0) (s 7) (fun t => (t.drv 0).disarmed == [(2, 400000)] && (t.drv 0).invalid == [] && logged (WKP.EVT 0) 2 (s 7) t) = true := by decide +kernel

/-! ## Channels, inputs and Pinhole mode -/

/-- Channel 5 of drive die 0 in a state, its blocks enabled. -/
def chn (u : Channel) (l : List (Nat × Nat) := []) (v : DriveDie := {}) : State :=
  { svc ([on 0 0x71, on 4 13, on 4 0x28, (CHN.CFG 0 5, mk [(CHN.CFG.PEAK, 10), (CHN.CFG.RETRIES, 2), (CHN.CFG.LIMIT_MS, 10)]),
      (CHN.CFG_B 0 5, mk [(CHN.CFG_B.DT_MAX, 60), (CHN.CFG_B.BUDGET_MJ, 100), (CHN.CFG_B.REFILL_MW, 20), (CHN.CFG_B.OPEN_ON_MA, 50)]),
      (WAKE.ADM 0, mk [(WAKE.ADM.BUDGET_A, 20), (WAKE.ADM.WINDOW_MS, 10), (WAKE.ADM.WAIT_WARN_MS, 100)])] ++ l) with
    io := { chans := [(xc 0 5, u)], drives := [(0, v)] }, edges := 99999, sw := { dieTime := [(0, 2 ^ 32 * 1000000000)] } }
theorem test_admissionRequest :
    let s := chn { st := .waitAdmit }
    s.chIs 0 5 = true ∧ s.admOn = true ∧ s.admits (s.chClaim 0 5) = true ∧
    gives (.admissionRequest 0 5) s (fun t => decide ((t.chan (xc 0 5)).adm = .granted ∧ t.io.window = [(1000000000, 10)]) && counted (WAKE.CNT 0 9) 1 s t) = true ∧
    gives (.admissionRequest 0 5) { s with io := { s.io with window := [(999999999, 35)] } } (fun t => decide ((t.chan (xc 0 5)).adm = .waiting) && t.io.waits.length == 1 &&
      counted (WAKE.CNT 0 10) 1 s t) = true := by decide +kernel
theorem test_admissionWindowExpire :
    let s := chn { st := .waitAdmit, adm := .waiting }
    gives .admissionWindowExpire { s with io := { s.io with window := [(1, 35)], waits := [{ chan := some (xc 0 5), claim := 10 }] } } (fun t =>
      decide ((t.chan (xc 0 5)).adm = .granted) && t.io.waits == []) = true ∧
    gives .admissionWindowExpire { s with io := { s.io with window := [(1, 3), (999999999, 35)], waits := [{ chan := some (xc 0 5), claim := 10 }] } } (fun t =>
      t.io.window == [(999999999, 35)] && t.io.waits.length == 1) = true := by decide +kernel
theorem test_admSlow :
    let s := chn {}
    gives .admSlow { s with io := { s.io with waits := [{ claim := 3 }, { claim := 4, since := 1000000000 }] } } (fun t =>
      t.io.waits == [{ claim := 3, told := true }, { claim := 4, since := 1000000000 }] && bit (t.reg (WAKE.EVT 0)) 7) = true := by decide +kernel
theorem test_channelGrant :
    gives (.channelGrant 0 5) (chn { st := .waitAdmit, adm := .granted }) (fun t => decide ((t.chan (xc 0 5)).st = .drive) && counted (CHN.CNT 0 5 0) 1 (chn {}) t) = true ∧
    gives (.channelGrant 0 5) (chn { st := .waitAdmit, adm := .granted } [(CHN.CFG 0 5, mk [(CHN.CFG.RAMP, 3)])]) (fun t => decide ((t.chan (xc 0 5)).st = .ramp)) = true ∧
    gives (.channelGrant 0 5) (chn { st := .selftest, adm := .granted }) (fun t => (t.chan (xc 0 5)).test == 3) = true := by decide +kernel
theorem test_currentSample :
    gives (.currentSample 0 5 100 800 400 420 true) (chn { st := .drive, calRef := 3, calMean := 2 } [(CHN.CAL 0 5, mk [(CHN.CAL.VALID, 1), (CHN.CAL.I_CAL_MA, 100), (CHN.CAL.T_CAL, 800)])])
      (fun t => (t.chan (xc 0 5)).cur == 150 && !(t.chan (xc 0 5)).factory && (t.chan (xc 0 5)).tj == 800 && (t.chan (xc 0 5)).inLimit && (t.drv 0).caseB == 420) = true ∧
    gives (.currentSample 0 5 100 800 400 420 false) (chn { st := .drive }) (fun t => (t.chan (xc 0 5)).cur == 100 && (t.chan (xc 0 5)).factory) = true := by decide +kernel
theorem test_openLoad :
    gives (.openLoad 0 5 true) (chn { st := .drive, cur := 49 }) (fun t => (t.chan (xc 0 5)).openLoad && logged (CHN.EVT 0 5) 7 (chn {}) t) = true ∧
    gives (.openLoad 0 5 true) (chn { st := .openSt } [(CHN.CFG 0 5, mk [(CHN.CFG.OFF_DIAG, 1)])]) (fun t => (t.chan (xc 0 5)).openLoad) = true ∧
    gives (.openLoad 0 5 false) (chn { openLoad := true }) (fun t => !(t.chan (xc 0 5)).openLoad) = true := by decide +kernel
theorem test_rampDone : gives (.rampDone 0 5) (chn { st := .ramp }) (fun t => decide ((t.chan (xc 0 5)).st = .drive) && (t.chan (xc 0 5)).since == 99999) = true := by decide +kernel
theorem test_shortDetect :
    gives (.shortDetect 0 5) (chn { st := .ramp, retry := 1 }) (fun t => decide ((t.chan (xc 0 5)).st = .retryWait) && logged (CHN.EVT 0 5) 4 (chn {}) t) = true ∧
    gives (.shortDetect 0 5) (chn { st := .ramp, retry := 2 }) (fun t => decide ((t.chan (xc 0 5)).st = .latched) && (t.chan (xc 0 5)).latches == [2] && bit (t.reg (CHN.EVT 0 5)) 5) =
      true := by decide +kernel
theorem test_limitHeld :
    gives (.limitHeld 0 5) (chn { st := .drive, inLimit := true }) (fun t => decide ((t.chan (xc 0 5)).st = .retryWait)) = true ∧
    gives (.limitHeld 0 24) { svc [] with io := { chans := [(xc 0 24, { st := .ramp })] } } (fun t => decide ((t.chan (xc 0 24)).st ≠ .ramp)) = true := by decide +kernel
theorem test_retryBackoffEnd :
    gives (.retryBackoffEnd 0 5) (chn { st := .retryWait, retry := 1 }) (fun t => decide ((t.chan (xc 0 5)).st = .waitAdmit) && (t.chan (xc 0 5)).retry == 2 && (t.chan (xc 0 5)).guard) = true := by
  decide +kernel
theorem test_retryCountReset : gives (.retryCountReset 0 5) (chn { st := .drive, retry := 2 }) (fun t => (t.chan (xc 0 5)).retry == 0) = true := by decide +kernel
theorem test_selftestEnd :
    gives (.selftestEnd 0 5 true) (chn { st := .selftest }) (fun t => (t.chan (xc 0 5)).test == 1 && decide ((t.chan (xc 0 5)).st ≠ .selftest)) = true ∧
    gives (.selftestEnd 0 5 false) (chn { st := .selftest }) (fun t => (t.chan (xc 0 5)).test == 2 && logged (CHN.EVT 0 5) 8 (chn {}) t) = true := by decide +kernel
theorem test_calDone :
    let l := [(CHN.CAL 0 5, mk [(CHN.CAL.RESULT, 1)]), (CHN.CTRL 0 5, mk [(CHN.CTRL.CAL_REF_MA, 500)])]
    gives (.calDone 0 5 480 false) (chn { st := .drive } l) (fun t => t.fld (CHN.CAL 0 5) CHN.CAL.RESULT == 2 && (t.chan (xc 0 5)).calRef == 500 && (t.chan (xc 0 5)).calMean == 480) = true ∧
    gives (.calDone 0 5 480 true) (chn { st := .drive } l) (fun t => t.fld (CHN.CAL 0 5) CHN.CAL.RESULT == 3) = true ∧
    gives (.calDone 0 5 480 false) (chn { st := .openSt } l) (fun t => t.fld (CHN.CAL 0 5) CHN.CAL.RESULT == 3) = true := by decide +kernel
/-- CHN.CMD to full on. -/
def full : Nat := mk [(CHN.CMD.OUT, 1)]
theorem test_chnCmd :
    reaches (.chnCmd .spi 0 5 full) (chn {}) = true ∧ (chn {}).chHeld 0 5 = 0 ∧
    gives (.chnCmd .spi 0 5 full) (chn {}) (fun t => decide ((t.chan (xc 0 5)).st = .waitAdmit) && (t.chan (xc 0 5)).src == 16) = true ∧
    gives (.chnCmd .spi 0 5 0) (chn { st := .drive }) (fun t => decide ((t.chan (xc 0 5)).st = .openSt)) = true ∧
    gives (.chnCmd .spi 0 5 full) (chn { st := .latched, latches := [1] } [] { pin := true }) (fun t => decide ((t.chan (xc 0 5)).st = .latched) && counted (CHN.CNT 0 5 9) 1 (chn {}) t) = true ∧
    gives (.chnCmd .spi 0 5 full) (chn {} [] { pin := true }) (fun t => decide ((t.chan (xc 0 5)).st = .openSt) && counted (CHN.CNT 0 5 10) 1 (chn {}) t) = true ∧
    gives (.chnCmd .spi 0 5 (mk [(CHN.CMD.OUT, 3)])) (chn {}) (fun t => t.reg (CHN.CMD 0 5) == 0) = true ∧
    gives (.chnCmd .spi 0 5 (mk [(CHN.CMD.OUT, 2), (CHN.CMD.DUTY, 1001)])) (chn {}) (fun t => t.reg (CHN.CMD 0 5) == 0) = true := by decide +kernel
theorem test_clearFault :
    let s := chn { st := .latched, latches := [1, 2] }
    let v := mk [(CHN.CTRL.CLEAR_FAULT, 1)]
    reaches (.clearFault .spi 0 5 v) s = true ∧ s.ctrlBad 0 5 (BitVec.ofNat 48 v) = false ∧
    gives (.clearFault .spi 0 5 v) s (fun t => (t.chan (xc 0 5)).latches == [] && decide ((t.chan (xc 0 5)).st = .openSt)) = true ∧
    gives (.clearFault .spi 0 5 v) (chn { st := .latched, latches := [1] } [] { pin := true }) (fun t => (t.chan (xc 0 5)).latches == [1]) = true := by decide +kernel
theorem test_unlock :
    let s := chn { st := .latched, latches := [3] }
    let v := mk [(CHN.CTRL.UNLOCK, 1)]
    reaches (.unlock .spi 0 5 v) s = true ∧ gives (.unlock .spi 0 5 v) s (fun t => (t.chan (xc 0 5)).latches == []) = true ∧
    gives (.unlock .spi 0 5 v) (chn { st := .latched, latches := [3], level := -1 }) (fun t => (t.chan (xc 0 5)).latches == [3]) = true := by decide +kernel
theorem test_selftest :
    let v := mk [(CHN.CTRL.SELFTEST, 1)]
    reaches (.selftest .spi 0 5 v) (chn {}) = true ∧ gives (.selftest .spi 0 5 v) (chn {}) (fun t => decide ((t.chan (xc 0 5)).st = .selftest) && (t.chan (xc 0 5)).test == 3) = true ∧
    gives (.selftest .spi 0 5 v) (chn { st := .drive }) (fun t => decide ((t.chan (xc 0 5)).st = .drive)) = true := by decide +kernel
theorem test_cal :
    let v := mk [(CHN.CTRL.CAL, 1), (CHN.CTRL.CAL_REF_MA, 500)]
    reaches (.cal .spi 0 5 v) (chn { st := .drive }) = true ∧
    gives (.cal .spi 0 5 v) (chn { st := .drive }) (fun t => t.fld (CHN.CAL 0 5) CHN.CAL.RESULT == 1 && t.fld (CHN.CTRL 0 5) CHN.CTRL.CAL_REF_MA == 500) = true := by decide +kernel
theorem test_dtTrip :
    gives (.dtTrip 0 5) (chn { st := .drive, tj := 1020 } [] { caseA := 400, caseB := 420, caseSt := 1 }) (fun t => decide ((t.chan (xc 0 5)).st = .cool) && logged (CHN.EVT 0 5) 0 (chn {}) t) = true := by
  decide +kernel
theorem test_guardWarn :
    gives (.guardWarn 0 5) (chn { st := .drive, guard := true, tj := 1500 }) (fun t => logged (CHN.EVT 0 5) 1 (chn {}) t && decide ((t.chan (xc 0 5)).st = .drive)) = true := by decide +kernel
theorem test_guardTrip :
    gives (.guardTrip 0 5) (chn { st := .ramp, guard := true, tj := 1700 }) (fun t => decide ((t.chan (xc 0 5)).st = .cool) && (t.chan (xc 0 5)).hotTrip) = true := by decide +kernel
theorem test_coolEnd :
    gives (.coolEnd 0 5 1499) (chn { st := .cool, hotTrip := true }) (fun t => decide ((t.chan (xc 0 5)).st = .waitAdmit) && (t.chan (xc 0 5)).tj == 1499) = true ∧
    gives (.coolEnd 0 5 1500) (chn { st := .cool, hotTrip := true }) (fun t => decide ((t.chan (xc 0 5)).st = .cool)) = true ∧
    gives (.coolEnd 0 5 449) (chn { st := .cool }) (fun t => decide ((t.chan (xc 0 5)).st = .waitAdmit)) = true := by decide +kernel
theorem test_guardEnd :
    gives (.guardEnd 0 (some 5)) (chn { st := .drive, guard := true }) (fun t => !(t.chan (xc 0 5)).guard) = true ∧
    gives (.guardEnd 0 none) (chn {} [] { coldFrom := some 0, caseSt := 1 }) (fun t => (t.drv 0).coldFrom.isNone && logged (THM.EVT 0) 3 (chn {}) t) = true := by decide +kernel
theorem test_hardTrip :
    gives (.hardTrip 0 5) (chn { st := .drive, latches := [2] }) (fun t => decide ((t.chan (xc 0 5)).st = .latched) && (t.chan (xc 0 5)).latches == [2, 1]) = true := by decide +kernel
theorem test_clampEventEnd :
    gives (.clampEventEnd 0 5 49999) (chn { st := .drive }) (fun t => t.chLevel 0 5 == 1000000 && t.fld (CHN.CLAMP 0 5) CHN.CLAMP.LAST == 49999 && decide ((t.chan (xc 0 5)).st = .drive)) = true ∧
    gives (.clampEventEnd 0 5 50000) (chn { st := .drive }) (fun t => decide ((t.chan (xc 0 5)).st = .latched) && (t.chan (xc 0 5)).latches == [3] && counted (CHN.CNT 0 5 7) 1 (chn {}) t) = true := by
  decide +kernel
theorem test_clampRefill :
    gives (.clampRefill 0) (chn { level := -1000000 }) (fun t => t.chLevel 0 5 == 50000000000 - 1000000 + 20 * 30520) = true ∧
    gives (.clampRefill 0) (chn { level := 50000000000 - 1 }) (fun t => t.chLevel 0 5 == 100000000000) = true := by decide +kernel
theorem test_takeoverHoldEnd :
    gives (.takeoverHoldEnd 0 5) (chn { st := .drive, takeover := some 0, retry := 2 }) (fun t => decide ((t.chan (xc 0 5)).st = .openSt) && (t.chan (xc 0 5)).takeover.isNone) = true := by
  decide +kernel
theorem test_logicHot :
    gives (.logicHot 0) (chn { st := .drive } [] { caseA := 1510, caseB := 1500 }) (fun t => decide ((t.chan (xc 0 5)).st = .latched) && (t.chan (xc 0 5)).latches == [1] &&
      logged (THM.EVT 0) 2 (chn {}) t) = true := by decide +kernel
theorem test_diePowerEstimate :
    gives (.diePowerEstimate 0) (chn {} [] { powerSum := 7 }) (fun t => (t.drv 0).powerN == 1 && (t.drv 0).powerSum == 7) = true ∧
    gives (.diePowerEstimate 0) (chn {} [] { powerSum := 32768 * 13 * 10 ^ 12, powerN := 32767 }) (fun t => (t.drv 0).overPower && t.fld (THM.STAT 0) THM.STAT.POWER == 1300 &&
      logged (THM.EVT 0) 1 (chn {}) t) = true := by decide +kernel
theorem test_caseFault :
    gives (.caseFault 0 501 400) (chn {}) (fun t => (t.drv 0).caseSt == 2 && logged (THM.EVT 0) 0 (chn {}) t) = true ∧
    gives (.caseFaultEnd 0 450 400) (chn {} [] { caseSt := 2 }) (fun t => (t.drv 0).caseSt == 1 && (t.drv 0).caseA == 450) = true := by decide +kernel
/-- Input 7 with thresholds at 2 V and 5 V. -/
def input7 : Nat × Nat := (IN.CFG 0 7, mk [(IN.CFG.EN, 1), (IN.CFG.TH_HI, 50), (IN.CFG.TH_LO, 20), (IN.CFG.WET, 3)])
theorem test_inputStateChange :
    (chn {} [input7]).inputOn 0 7 = true ∧
    gives (.inputStateChange 0 7 5000 none) (chn {} [input7]) (fun t => (t.drv 0).inputs == 128 && logged (IN.EVT 0) 0 (chn {}) t) = true ∧
    gives (.inputStateChange 0 7 4999 none) (chn {} [input7]) (fun t => (t.drv 0).inputs == 0) = true ∧
    gives (.inputStateChange 0 7 2000 none) (chn {} [input7] { inputs := 128 }) (fun t => (t.drv 0).inputs == 0) = true := by decide +kernel
/-- Map entry 0 of drive die 0: channel 5 follows input 7 at 2 V. -/
def mapped (u : Channel) (v : DriveDie) : State :=
  { chn u [] v with fuse := { words := (8404993, 0x10A) :: (FUSE.PMAP 0 0, word [(FUSE.PMAP.VALID, 1), (FUSE.PMAP.CHANNEL, 5), (FUSE.PMAP.INPUT, 7)]) :: [] } }
theorem test_inputStateChange_map :
    (mapped {} {}).mapOf 0 5 = some 0 ∧
    gives (.inputStateChange 0 7 2000 (some 0)) (mapped {} {}) (fun t => (t.drv 0).mapIn == 1 && (t.drv 0).inputs == 0) = true ∧
    gives (.inputStateChange 0 7 1800 (some 0)) (mapped {} { mapIn := 1 }) (fun t => (t.drv 0).mapIn == 0) = true := by decide +kernel
theorem test_wetFault : gives (.wetFault 0 7) (chn {} [input7]) (fun t => logged (IN.EVT 0) 1 (chn {}) t) = true := by decide +kernel
theorem test_limpNAssert :
    gives (.limpNAssert 0) (chn {}) (fun t => (t.drv 0).pin && (t.drv 0).limpLow && (t.drv 0).entries == 1 && logged (PIN.EVT 0) 0 (chn {}) t &&
      t.fld (WKP.CAUSE 0) WKP.CAUSE.SRC == 15) = true := by decide +kernel
theorem test_limpNRelease :
    gives (.limpNRelease 0) (chn {} [] { limpLow := true, pin := true }) (fun t => !(t.drv 0).limpLow && (t.drv 0).limpRise == 99999 && (t.drv 0).pin) = true := by decide +kernel
theorem test_heartbeatLost :
    (chn {}).hbTimeout 0 = 100 ∧ gives (.heartbeatLost 0) (chn {} [] { hbTimer := some 0 }) (fun t => (t.drv 0).pin && (t.supply 0).hbLost && (t.drv 0).entries == 1) = true := by decide +kernel
theorem test_prismHeartbeat :
    let s := fun (v : DriveDie) => { chn {} [] v with start := { step := 15, epochDone := true, heartbeat := true } }
    gives (.prismHeartbeat 0) (s { hbTimer := some 0, hbRun := some (5, 99900) }) (fun t => (t.drv 0).hbTimer == some 99999 && (t.drv 0).hbRun == some (5, 99999)) = true ∧
    gives (.prismHeartbeat 0) (s { hbTimer := some 0, hbRun := some (5, 9) }) (fun t => (t.drv 0).hbRun == some (99999, 99999)) = true ∧
    gives (.prismHeartbeat 0) (s { hbTimer := some 0 }) (fun t => (t.drv 0).hbRun == some (99999, 99999)) = true := by decide +kernel
theorem test_pinholeTurnOn :
    gives (.pinholeTurnOn 0) (mapped { st := .waitAdmit } { pin := true, mapIn := 1 }) (fun t => (t.drv 0).mapGrant == some 99999 && decide ((t.chan (xc 0 5)).st = .drive)) = true := by
  decide +kernel
theorem test_ack :
    let v := mk [(PIN.CMD.ACK, 1)]
    let s := chn {} [] { pin := true, hbRun := some (0, 99999) }
    let b := chn {} [] { pin := true, limpLow := true }
    reaches (.ack .spi 0 v) s = true ∧
    gives (.ack .spi 0 v) s (fun t => t.pinExitOk 0 && gives (.postedWriteEffect 4 0x29) t fun r => !(r.drv 0).pin && logged (PIN.EVT 0) 1 t r) = true ∧
    gives (.ack .spi 0 v) b (fun t => gives (.postedWriteEffect 4 0x29) t fun r => (r.drv 0).pin && logged (PIN.EVT 0) 2 t r) = true := by decide +kernel

/-! ## Partitions and firmware at its die -/

/-- Partition 2 of die 0 in a state, on core 1, with registers. -/
def part2 (u : Partition) (l : List (Nat × Nat)) : State :=
  { fwAt 0x78 ([on 0 0x79, on 0 0x7A, (CPU.PDEF 0 2, mk [(CPU.PDEF.EN, 1), (CPU.PDEF.CONTROL, 1), (CPU.PDEF.MGMT_READ, 1), (CPU.PDEF.SIG_READ, 1), (CPU.PDEF.RESTART_MAX, 1)]),
      (WDT.P 0 2, mk [(WDT.P.TIMEOUT_MS, 100), (WDT.P.WIN_MS, 10), (WDT.P.FIRST_MS, 200)])] ++ l) with cpu := { parts := [(ptk 0 2, u)] }, edges := 99999 }
/-- It runs. -/
def runs2 (l : List (Nat × Nat) := []) : State := part2 { st := .running } l
/-- Its state and cause. -/
def isIn (st : PartSt) (cause : Nat) (t : State) : Bool := decide ((t.part (ptk 0 2)).st = st) && t.fld (CPU.PSTAT 0 2) CPU.PSTAT.CAUSE == cause
theorem test_partitionStart :
    let s := part2 { st := .loading } [(CPU.PENTRY 0 2, 0x1000), (CPU.KICK 0 2, 0)]
    s.partIn 0 2 .loading = true ∧ s.partSections 0 2 = [] ∧
    gives (.partitionStart 0 2) s (fun t => isIn .running 0 t && (t.part (ptk 0 2)).kick == 99999 && decide ((t.part (ptk 0 2)).harts = [{ core := 1, entry := 0x1000, a0 := 2, a1 := 0, a2 := 1 }]) &&
      holds t (CPU.KICK 0 2) (regReset (CPU.KICK 0 2))) = true := by decide +kernel
theorem test_slotSwitch :
    let s := runs2 [(CPU.SCHED 0 9, mk [(CPU.SCHED.VALID, 1), (CPU.SCHED.PART, 3), (CPU.SCHED.LEN, 10)])]
    s.slotOver 0 1 = true ∧ gives (.slotSwitch 0 1) s (fun t => t.slotOf 1 == 1 && t.slotEdge 1 == 99999) = true ∧
    gives (.slotSwitch 0 1) { s with cpu := { s.cpu with coreSlots := [(1, 1)] } } (fun t => t.slotOf 1 == 0) = true := by decide +kernel
theorem test_partitionHalt :
    gives (.partitionHalt 0 2 5) (runs2 [(WAKE.REQ 0 2, 7)]) (fun t => isIn .halted 5 t && counted (CPU.CNT 0 39) 1 (runs2) t && bit (t.reg (CPU.EVT 0)) 3 && t.reg (WAKE.REQ 0 2) == 0) = true := by
  decide +kernel
theorem test_partitionRestart : gives (.partitionRestart 0 2 true) (part2 { st := .restarting } []) (isIn .failed 6) = true := by decide +kernel
theorem test_watchdogExpiry :
    (runs2).wdtOn 0 2 = true ∧ (runs2).wdtMs 0 2 = 200 ∧
    gives (.watchdogExpiry 0 2) (runs2) (fun t => isIn .restarting 1 t && (t.part (ptk 0 2)).restarts == [99999] && bit (t.reg (CPU.EVT 0)) 2) = true ∧
    gives (.watchdogExpiry 0 2) (part2 { st := .running, restarts := [99000] } []) (isIn .halted 4) = true ∧
    gives (.watchdogExpiry 0 2) (runs2 [(WDT.P 0 2, mk [(WDT.P.TIMEOUT_MS, 100), (WDT.P.FIRST_MS, 200), (WDT.P.ACTION, 1)])]) (isIn .halted 1) = true := by decide +kernel
/-- The safety pair of die 0 watched. -/
def safe0 (u : SafePair) : State := { runs2 [(WDT.SAFE 0, mk [(WDT.SAFE.TIMEOUT_MS, 100), (WDT.SAFE.FIRST_MS, 200)])] with cpu := { parts := [(ptk 0 2, { st := .running })], pairs := [(0, u)] } }
theorem test_safetyWdtExpiry : gives (.safetyWdtExpiry 0) (safe0 { wdt := some 0 }) (fun t => bit (t.reg (RSTC.CAUSE 0)) 3) = true := by decide +kernel
theorem test_lockstepMismatch :
    gives (.lockstepMismatch 0) (setRegs (safe0 {}) [(CPU.PDEF 0 2, mk [(CPU.PDEF.EN, 1), (CPU.PDEF.SAFE, 1)])]) (fun t => (t.safePair 0).halted && isIn .halted 5 t &&
      bit (t.reg (CPU.EVT 0)) 4) = true := by decide +kernel
/-- A partition command for partition 2. -/
def pcmd (op : Nat) : Nat := mk [(CPU.PCMD.OP, op), (CPU.PCMD.TARGET, 2)]
theorem test_pcmdHalt :
    reaches (.pcmdHalt .spi 0 (pcmd 1)) (runs2) = true ∧ gives (.pcmdHalt .spi 0 (pcmd 1)) (runs2) (fun t => isIn .halted 3 t && t.fld (CPU.PCMD 0) CPU.PCMD.RESULT == 2) = true ∧
    gives (.pcmdHalt .spi 0 (pcmd 1)) (part2 { st := .failed } []) (fun t => isIn .failed 0 t && t.fld (CPU.PCMD 0) CPU.PCMD.RESULT == 3) = true := by decide +kernel
theorem test_pcmdRestart :
    reaches (.pcmdRestart .spi 0 (pcmd 2)) (runs2) = true ∧
    gives (.pcmdRestart .spi 0 (pcmd 2)) (part2 { st := .failed, restarts := [9] } []) (fun t => isIn .restarting 3 t && (t.part (ptk 0 2)).restarts == []) = true ∧
    gives (.pcmdRestart (.hart 0 1 0) 0 (pcmd 2)) (runs2) (fun t => isIn .restarting 3 t && (t.part (ptk 0 2)).restarts == [99999]) = true ∧
    gives (.pcmdRestart .spi 0 (pcmd 2)) (part2 { st := .loading } []) (fun t => t.fld (CPU.PCMD 0) CPU.PCMD.RESULT == 3) = true := by decide +kernel
theorem test_watchdogKick :
    let v := fun (k : Nat) => mk [(CPU.KICK.KEY, k)]
    reachesFw (.watchdogKick (.hart 0 1 0) 0 2 (v 44257)) (runs2) = true ∧ (runs2).fld (CPU.KICK 0 2) CPU.KICK.NEXT = 44257 ∧
    gives (.watchdogKick (.hart 0 1 0) 0 2 (v 44257)) (runs2) (fun t => !(t.part (ptk 0 2)).first && (t.part (ptk 0 2)).kick == 99999) = true ∧
    gives (.watchdogKick (.hart 0 1 0) 0 2 (v 2)) (runs2) (isIn .restarting 1) = true ∧
    gives (.watchdogKick (.hart 0 1 0) 0 2 (v 44257)) (part2 { st := .running, first := false, kick := 99998 } []) (isIn .restarting 1) = true ∧
    (runs2).hostWriter .spi = some .spi ∧ (runs2).regIs (CPU.KICK 0 2) = true ∧
    gives (.watchdogKick .spi 0 2 (v 44257)) (runs2) (fun t => (t.part (ptk 0 2)).first && decide (t.out = [.reply .spi .denied 0])) = true := by decide +kernel
/-- Partition 2 also runs on core 0. -/
def safeFw (u : SafePair) : State := setRegs (safe0 u) [(CPU.SCHED 0 0, mk [(CPU.SCHED.VALID, 1), (CPU.SCHED.PART, 2)])]
theorem test_skick :
    let v := mk [(CPU.SKICK.KEY, 44257)]
    (safeFw { wdt := some 0 }).onCore 0 0 = some 2 ∧ (safeFw {}).fld (CPU.SKICK 0) CPU.SKICK.NEXT = 44257 ∧
    gives (.skick (.hart 0 0 0) 0 v) (safeFw { wdt := some 0 }) (fun t => (t.safePair 0).wdt == some 99999 && !(t.safePair 0).first) = true ∧
    gives (.skick (.hart 0 0 0) 0 0) (safeFw { wdt := some 0 }) (fun t => bit (t.reg (RSTC.CAUSE 0)) 3) = true ∧
    (safeFw {}).regIs (CPU.SKICK 0) = true ∧ gives (.skick .spi 0 v) (safeFw { wdt := some 0 }) (fun t => (t.safePair 0).wdt == some 0) = true := by decide +kernel
/-- The location of a register in the management view. -/
def mgmt (a : Nat) : Nat := mgmtBase + 8 * a
/-- The traps of partition 2's hart. -/
def traps2 (t : State) : List (Nat × Nat) := (t.part (ptk 0 2)).harts.flatMap (·.traps)
/-- Partition 2 runs with its hart. -/
def hart (l : List (Nat × Nat) := []) : State := part2 { st := .running, harts := [{ core := 1 }] } l
theorem test_mgmtLoad :
    (hart).onCore 0 1 = some 2 ∧
    gives (.mgmtLoad 0 1 0 (mgmt (EYE.ETH 0)) 8) (hart [(EYE.ETH 0, 1)]) (fun t => decide (t.out = [.reply (.fw 0 2 1 0) .ok 1])) = true ∧
    gives (.mgmtLoad 0 1 0 (mgmt (EYE.ETH 0)) 4) (hart) (fun t => decide (t.out = [.reply (.fw 0 2 1 0) .denied 0]) && traps2 t == [(5, mgmt (EYE.ETH 0))]) = true ∧
    gives (.mgmtLoad 0 1 0 (mgmt (EYE.ETH 0)) 8) (hart [(CPU.PDEF 0 2, 1)]) (fun t => decide (t.out = [.reply (.fw 0 2 1 0) .denied 0])) = true ∧
    (hart).regIs 0x1F00 = false ∧ gives (.mgmtLoad 0 1 0 (mgmt 0x1F00) 8) (hart) (fun t => decide (t.out = [.reply (.fw 0 2 1 0) .noSuch 0])) = true := by decide +kernel
theorem test_mgmtStore :
    let s := { hart with tbls := (fwAt (aBlk (EYE.ETH 0)) []).tbls }
    (s.arrives (.hart 0 1 0) (EYE.ETH 0) 5).isSome = true ∧ s.refuses (EYE.ETH 0) 5 = false ∧
    gives (.mgmtStore 0 1 0 (mgmt (EYE.ETH 0)) 8 5) s (fun t => holds t (EYE.ETH 0) 5 && decide (t.out = [])) = true ∧
    gives (.mgmtStore 0 1 0 (mgmt (EYE.ETH 0)) 4 5) s (fun t => traps2 t == [(7, mgmt (EYE.ETH 0))]) = true ∧
    gives (.mgmtStore 0 1 0 (mgmt (EYE.ETH 0)) 8 5) { s with tbls := [] } (fun t => counted (CPU.CNT 0 32) 1 s t && logged (CPU.EVT 0) 0 s t) = true := by decide +kernel
theorem test_signalViewLoad :
    let s := { hart with gw := { sigs := [(sigKey 0 3, (44, 55))] } }
    gives (.signalViewLoad 0 1 0 (3 * 2 ^ 32 + 48) 8) s (fun t => decide (t.out = [.reply (.fw 0 2 1 0) .ok 44])) = true ∧
    gives (.signalViewLoad 0 1 0 (3 * 2 ^ 32 + 56) 8) s (fun t => decide (t.out = [.reply (.fw 0 2 1 0) .ok 55])) = true ∧
    gives (.signalViewLoad 0 1 0 (3 * 2 ^ 32 + 2 ^ 22) 8) s (fun t => decide (t.out = [.reply (.fw 0 2 1 0) .denied 0])) = true := by decide +kernel
theorem test_txRingProd :
    let i := Instr.txRingProd (.hart 0 1 0) [] 0 2 7
    let s := runs2 [(CPU.TXR_B 0 2, 5 * 4096)]
    reachesFw i s = true ∧ gives i s (fun t => t.fld (CPU.TXR_B 0 2) CPU.TXR_B.PROD == 7 && t.fld (CPU.TXR_B 0 2) CPU.TXR_B.CONS == 5) = true ∧
    reaches (.txRingProd .spi [] 0 2 7) s = true ∧ gives (.txRingProd .spi [] 0 2 7) s (fun t => t.fld (CPU.TXR_B 0 2) CPU.TXR_B.PROD == 0) = true := by decide +kernel
theorem test_aprRd :
    reaches (.aprRd .spi 0 9) (runs2) = true ∧ gives (.aprRd .spi 0 9) (runs2) (fun t => t.fld (CPU.APR_RD 0) CPU.APR_RD.INDEX == 9 && holds t (CPU.APR_W 0 0) (t.apr 0 9 0)) = true := by
  decide +kernel
theorem test_irqPop :
    (runs2).reads (.hart 0 1 0) (CPU.IRQ_POP 0 2) = some (.fw 0 2 1 0) ∧
    gives (.irqPop (.hart 0 1 0) 0 2) (runs2) (fun t => decide (t.out = [.reply (.fw 0 2 1 0) .ok 0])) = true ∧
    gives (.irqPop (.hart 0 1 0) 0 2) (part2 { st := .running, fifo := [{ code := 4, arg := 5 }, {}], lost := true } []) (fun t => (t.part (ptk 0 2)).fifo == [{}] &&
      !(t.part (ptk 0 2)).lost) = true ∧
    (runs2).reads .spi (CPU.IRQ_POP 0 2) = some .spi ∧ gives (.irqPop .spi 0 2) (runs2) (fun t => decide (t.out = [.reply .spi .denied 0])) = true := by decide +kernel
/-- Ring 2 has a descriptor at 0 of word 0 w0, its frame at 64; the partition's window covers some pages. -/
def txAt (w0 : Nat) (size : Nat) : State :=
  (Act.memSetWord 0 8 64).run ((Act.memSetWord 0 0 (BitVec.ofNat 48 w0)).run (runs2 [(CPU.TXR_A 0 2, mk [(CPU.TXR_A.SIZE_LOG, 2), (CPU.TXR_A.EN, 1)]), (CPU.TXR_B 0 2, 1),
    (CPU.MWIN 0 16, mk [(CPU.MWIN.SIZE, size)] + 2 ^ 45 + 2 ^ 46), on 0 8, on 0 9]))
/-- The descriptor has ended with a result. -/
def txEnds (r : Nat) (t : State) : Bool := t.fld (CPU.TXR_B 0 2) CPU.TXR_B.CONS == 1 && !(t.ring (ptk 0 2)).busy && (r == 9 || t.memWord 0 16 == 1 + 2 * r)
theorem test_txDescriptor :
    (txAt 60 1).ringReady 0 2 = true ∧ (txAt 60 1).windowOk 0 2 0 32 45 = true ∧
    gives (.txDescriptor 0) (txAt 60 1) (fun t => (t.ring (ptk 0 2)).busy && t.servedRing 0 == 2 && (t.buf (fk 0 60)).any fun x => x.fr.data.length == 64 && x.ring == some (2, false)) = true ∧
    gives (.txDescriptor 0) (txAt 13 1) (fun t => txEnds 3 t && counted (CPU.CNT 0 41) 1 (runs2) t) = true ∧
    gives (.txDescriptor 0) (txAt 5000 1) (txEnds 2) = true ∧ gives (.txDescriptor 0) (txAt 60 0) (txEnds 9) = true := by decide +kernel
theorem test_maxOnExpire :
    let s := runs2 [(APR.CH 0 5, mk [(APR.CH.ON, 1), (APR.CH.ENTRY, 9)]), (CHN.CMD 0 5, 1), on 4 13]
    let t0 := { s with tbls := [(tblKey 0 0x79 9 0, BitVec.ofNat 48 (8 * 2 + 128)), (tblKey 0 0x79 9 2, 100)] }
    gives (.maxOnExpire 0 5) t0 (fun t => t.fld (APR.CH 0 5) APR.CH.ON == 0 && t.fld (APR.CH 0 5) APR.CH.FORCED == 1 && t.fld (CHN.CMD 0 5) CHN.CMD.OUT == 0 &&
      counted (CPU.CNT 0 34) 1 t0 t) = true := by decide +kernel
theorem test_interruptDelivery :
    let s := fun (i : Irq) (u : Partition) => { part2 { u with st := .running } [(CPU.IROUTE 0 9, 4)] with irqs := [(0, [i])] }
    gives (.interruptDelivery 0) (s (.direct 2 6 7) {}) (fun t => (t.part (ptk 0 2)).fifo == [{ direct := true, code := 6, arg := 7 }] && counted (CPU.CNT 0 42) 1 (runs2) t) = true ∧
    gives (.interruptDelivery 0) (s (.direct 2 6 7) { fifo := List.replicate 64 {} }) (fun t => (t.part (ptk 0 2)).lost && logged (CPU.EVT 0) 5 (runs2) t) = true ∧
    gives (.interruptDelivery 0) (s (.line 9) {}) (fun t => (t.part (ptk 0 2)).fifo == [{ code := 9 }]) = true ∧
    gives (.interruptDelivery 0) (s (.line 9) { fifo := [{ code := 9 }] }) (fun t => (t.part (ptk 0 2)).fifo == [{ code := 9 }]) = true ∧
    gives (.interruptDelivery 0) (s (.line 8) {}) (fun t => (t.part (ptk 0 2)).fifo == []) = true := by decide +kernel

/-! ## The domain engine -/

/-- The unit with facet 3 in use by the domain engine; keep-alives of 100 ms, heard for four. -/
def ezs (l : List (Nat × Nat) := []) : State :=
  unit 0 {} ([(PLX.FACETS 0 0, 8), (PLX.TIMING 0, mk [(PLX.TIMING.KA_MS, 100), (PLX.TIMING.AGE_KA, 4)])] ++ l)
/-- A message of device 9 for a destination. -/
def msgTo (dst hops ty flags : Nat) (body tag : List Byte) : Nat × Nat × List Byte :=
  (3, 77, List.replicate 14 0 ++ [1, BitVec.ofNat 8 ty, BitVec.ofNat 8 flags, BitVec.ofNat 8 hops, 0, 9] ++ beBytes 2 dst ++ [0, 0] ++ beBytes 2 body.length ++
    [0, 0, 0, 1, 0, 0, 0, 5] ++ body ++ tag)
theorem test_keepaliveSend :
    (ezs).ezFacets = [3] ∧ (ezs).ezAuth 1 = false ∧ (ezs).groupMac = some 0x030000000001 ∧
    gives .keepaliveSend (ezs) (fun t => t.plx.kaAt == some 99999 && counted (PLX.CNT 0 0) 1 (ezs) t && (t.buf (fk 0 63)).length == 1 && t.plx.sent == 0) = true := by
  decide +kernel
/-- A keep-alive of device 9 with serial number 6, digest 5 and generation 4. -/
def ka9 (serial : Nat) : Nat × Nat × List Byte := msg9 1 0 (beBytes 6 serial ++ beBytes 6 5 ++ beBytes 2 4 ++ List.replicate 30 0) []
theorem test_keepaliveReceive :
    let z := fun (e : Nat × Nat × List Byte) => inbox e (ezs)
    (ezParse (ka9 0)).bad = false ∧ (ezParse (ka9 0)).type = 1 ∧ dupId (ezs) (ezParse (ka9 0)) = false ∧ dupId (ezs) (ezParse (ka9 6)) = true ∧
    gives (.keepaliveReceive false) (z (ka9 0)) (fun t => (t.member 9).any (fun u => u.digest == 5 && u.gen == 4 && u.last == 1000000000 && u.route == some (3, 0, 4)) &&
      counted (PLX.CNT 0 1) 1 (ezs) t) = true ∧
    gives (.keepaliveReceive false) (z (ka9 6)) (fun t => logged (PLX.EVT 0) 2 (ezs) t && t.fld (PLX.LAST 0) PLX.LAST.DEVICE == 9 && t.fld (PLX.LAST 0) PLX.LAST.KIND == 2) = true ∧
    gives (.keepaliveReceive true) (z (ka9 0)) (fun t => counted (PLX.CNT 0 12) 1 (ezs) t && t.plx.inbox == []) = true ∧
    gives (.keepaliveReceive false) (setRegs (z (ka9 0)) [(PLX.CFG 0, mk [(PLX.CFG.EN, 1), (PLX.CFG.DOMAIN, 3)])]) (fun t => counted (PLX.CNT 0 5) 1 (ezs) t) = true := by decide +kernel
theorem test_censusAge :
    let s := { ezs with plx := { members := [(9, some { heard := true, serial := 6, last := 600000000, census := some 2 })] } }
    (s.member 9).all (fun u => !s.memberHeard u) = true ∧ gives .censusAge s (fun t => (t.member 9).any fun r => !r.heard && r.census.isNone && r.serial == 6) = true := by decide +kernel
theorem test_canKeepaliveReceive :
    let s := ezs [(PLX.CAN_KA 0, mk [(PLX.CAN_KA.ID, 0x1000), (PLX.CAN_KA.EN, 1)])]
    foldDigest s.ownDigest = 0 ∧
    gives (.canKeepaliveReceive 0 9 (ccFrame true 0x1009 [0, 0, 0, 0, 0, 0, 0, 1])) s (fun t => logged (PLX.EVT 0) 0 s t && t.fld (PLX.LAST 0) PLX.LAST.KIND == 8 &&
      t.fld (PLX.LAST 0) PLX.LAST.FACET == 41) = true ∧
    gives (.canKeepaliveReceive 0 9 (ccFrame true 0x1009 [0, 0, 0, 0, 0, 0, 0, 0])) s (fun t => t.reg (PLX.EVT 0) == 0) = true := by decide +kernel
/-- Facet 3 as an Ezsor link. -/
def lane (l : EthFacet) : State :=
  let s := ezs [(ETH.MODE 0 3, mk [(ETH.MODE.MODE, 3)])]
  { s with sw := { s.sw with eths := [(fk 0 3, l)] } }
theorem test_hello :
    (lane {}).ezLane 0 3 = true ∧
    gives (.hello 0 3 false) (lane { heard := 6 }) (fun t => (t.eth (fk 0 3)).helloAt == 99999 && t.out.length == 1) = true ∧
    gives (.hello 0 3 true) (inbox (msg9 0 0 (beBytes 2 9 ++ [0, 0] ++ beBytes 6 6 ++ beBytes 6 (lane {}).serial) []) (lane { lane := true })) (fun t =>
      (t.eth (fk 0 3)).heard == 6 && (t.eth (fk 0 3)).shook && (t.eth (fk 0 3)).raw && (t.eth (fk 0 3)).hello == some 1000000000) = true := by decide +kernel
theorem test_helloLoss :
    gives (.helloLoss 0 3) (lane { lane := true, shook := true, raw := true, up := true, hello := some 990000000 }) (fun t => !(t.eth (fk 0 3)).raw && (t.eth (fk 0 3)).up &&
      (t.eth (fk 0 3)).hello.isNone) = true := by decide +kernel
theorem test_credit :
    let s := lane { up := true, ezRx := [4, 0, 0, 0, 0, 0, 0, 0] }
    gives (.credit 0 3 false) s (fun t => (t.eth (fk 0 3)).ezTold.getD 0 9 == 4 && t.out.length == 1) = true ∧
    gives (.credit 0 3 true) (inbox (msg9 2 0 (beBytes 4 7 ++ List.replicate 28 0) []) s) (fun t => (t.eth (fk 0 3)).ezAck == [7, 0, 0, 0, 0, 0, 0, 0]) = true := by decide +kernel
theorem test_request :
    let e := msgTo 1 0 3 1 [3, 9, 0, 0, 0, 0, 0, 0, 0, 0, 0, 0] [238, 9, 189, 7, 255, 131, 176, 146]
    (ezs).ezRoute 9 = some (3, 7) ∧ gives (.request false) (inbox e (ezs)) (fun t => t.plx.inbox == [] && (t.buf (fk 0 63)).length == 1) = true := by decide +kernel
theorem test_request_write :
    let e := msgTo 1 0 3 1 ([2, 9] ++ beBytes 3 (EYE.ETH 0) ++ [0, 0, 0, 0, 0, 1, 0]) [172, 102, 60, 233, 250, 64, 209, 83]
    let s := setRegs (inbox e (ezs)) [(PLX.CFG 0, mk [(PLX.CFG.EN, 1), (PLX.CFG.KEY_SLOT, 6), (PLX.CFG.HOPS, 4), (PLX.CFG.REMOTE_RIGHTS, 2)])]
    s.lands (.remote 9) (EYE.ETH 0) 1 = true ∧ s.refuses (EYE.ETH 0) 1 = false ∧ gives (.request false) s (fun t => t.reg (EYE.ETH 0) == 1) = true := by decide +kernel
theorem test_request_relay :
    let e := msgTo 12 2 3 1 [3, 9, 0, 0, 0, 0, 0, 0, 0, 0, 0, 0] [239, 72, 202, 213, 193, 240, 238, 138]
    let s := setRegs (inbox e (ezs)) [(PLX.CFG 0, mk [(PLX.CFG.EN, 1), (PLX.CFG.KEY_SLOT, 6), (PLX.CFG.HOPS, 4), (PLX.CFG.RELAY, 1)])]
    let z := { s with plx := { s.plx with members := s.plx.members ++ [(12, some { heard := true, last := 1000000000, route := some (3, 8, 0) })] } }
    z.ezRelays (ezParse e) = true ∧ gives (.request false) z (fun t => counted (PLX.CNT 0 6) 1 z t) = true := by decide +kernel
theorem test_reply :
    let s := inbox (msgTo 1 0 4 1 [9, 0, 0, 0, 0, 0, 0, 44] [120, 92, 189, 128, 130, 195, 174, 242]) (ezs)
    gives (.reply false) { s with pends := [(0, [{ addr := 9 * 2 ^ 24 + 5, st := .remote 9 4 }])] } (fun t => decide (t.pendsAt 0 =
      [{ addr := 9 * 2 ^ 24 + 5, st := .ready .ok [0, 0, 0, 0, 0, 44] 99999 }])) = true := by decide +kernel
/-- An image of 22 words of generation 5 is staged for this build and served. -/
def staged (l : List (Nat × Nat) := []) (o : Option (Nat × Nat × Nat) := none) : State :=
  let s := ezs ([(PLX.SERVE 0, mk [(PLX.SERVE.EN, 1), (PLX.SERVE.WORDS, 22)])] ++ l)
  (Act.memWrite 0 0x1000000000 (beBytes 6 (0xFA1D1A6E * 2 ^ 16) ++ beBytes 6 (5 + 2 ^ 32 * 4 + 2 ^ 36 * 4))).run { s with plx := { s.plx with serving := o } }
theorem test_bootReq :
    let e := msg9 6 0 (beBytes 6 6 ++ beBytes 2 3 ++ [0x44]) []
    (staged).serves 3 = true ∧ (staged).serveBusy 3 6 = false ∧
    gives (.bootReq false) (inbox e (staged)) (fun t => t.plx.serving == some (3, 6, 1000000000) && (t.buf (fk 0 63)).length == 1) = true ∧
    gives (.bootReq true) (inbox e (staged)) (fun t => t.plx.serving.isNone && counted (PLX.CNT 0 12) 1 (staged) t) = true := by decide +kernel
theorem test_chunkReq :
    gives (.chunkReq false) (inbox (msg9 8 0 (beBytes 4 0) []) (staged [] (some (3, 6, 5)))) (fun t => t.plx.serving == some (3, 6, 1000000000) && counted (PLX.CNT 0 11) 1 (staged) t &&
      (t.buf (fk 0 63)).length == 1) = true := by decide +kernel
theorem test_bootOffer :
    gives .bootOffer (inbox (msg9 7 0 (beBytes 2 5 ++ beBytes 4 4000) []) (netBoot none)) (fun t => t.ld.rxTotal == 4000 && t.ld.pull.any fun u => u.facet == 3 && u.next == 16 &&
      u.asked.length == 16) = true := by decide +kernel
theorem test_chunk :
    let s := inbox (msg9 9 0 (beBytes 4 1 ++ beBytes 6 8 ++ beBytes 6 9) []) (netBoot (some { facet := 3, total := 202, next := 2, asked := [(1, 0, 0)] }))
    gives .chunk s (fun t => decide (t.ld.rxWords = [(200, 8), (201, 9)])) = true := by decide +kernel
theorem test_chunkTimeout :
    let s := fun (n : Nat) => { netBoot (some { facet := 3, total := 22, next := 1, asked := [(0, 0, n)] }) with edges := 4000 }
    gives (.chunkTimeout 0) (s 9) (fun t => t.ld.pull.any fun u => u.asked == [(0, 4000, 10)]) = true ∧ gives (.chunkTimeout 0) (s 10) (fun t => t.ld.pull.isNone) = true := by decide +kernel
/-- DT_CMD of a device. -/
def dtCmd (id op : Nat) : Nat := mk [(PLX.DT_CMD.ID, id), (PLX.DT_CMD.OP, op)]
theorem test_dtCmdRead :
    reaches (.dtCmdRead .spi (dtCmd 9 1)) (ezs) = true ∧
    gives (.dtCmdRead .spi (dtCmd 9 1)) (ezs) (fun t => t.reg (PLX.DT_W1 0) == 7 && t.fld (PLX.DT_W2 0) PLX.DT_W2.HEARD == 1 && t.fld (PLX.DT_CMD 0) PLX.DT_CMD.RESULT == 0) = true ∧
    gives (.dtCmdRead .spi (dtCmd 8 1)) (ezs) (fun t => t.fld (PLX.DT_CMD 0) PLX.DT_CMD.RESULT == 2) = true := by decide +kernel
theorem test_dtCmdRemove :
    reaches (.dtCmdRemove .spi (dtCmd 9 2)) (ezs) = true ∧ gives (.dtCmdRemove .spi (dtCmd 9 2)) (ezs) (fun t => (t.member 9).isNone) = true ∧
    gives (.dtCmdRemove .spi (dtCmd 8 2)) (ezs) (fun t => (t.member 9).isSome && t.fld (PLX.DT_CMD 0) PLX.DT_CMD.RESULT == 2) = true := by decide +kernel

/-! ## Monitors and the recorder -/

/-- Monitor 7 of die 0 enabled on a source, bins of 10 from 100, threshold 130. -/
def mon7 (src : Nat) (u : Monitor) (offered : List (Nat × Word) := []) : State :=
  { svc [on 0 0x80, (LOUPE.MCFG_A 0 7, mk [(LOUPE.MCFG_A.SRC, src), (LOUPE.MCFG_A.EN, 1), (LOUPE.MCFG_A.THR_EN, 1)]), (LOUPE.MCFG_B 0 7, 100),
      (LOUPE.MCFG_C 0 7, 10), (LOUPE.MCFG_D 0 7, 130)] with mon := { monitors := [(monKey 0 7, u)], offered := offered }, sw := { dieTime := [(0, 2 ^ 32 * 100)] } }
/-- The monitor after a command. -/
def m7 (t : State) : Monitor := t.mtr (monKey 0 7)
theorem test_loupeSample_offered :
    edgeSampled 0x020 = false ∧ measuredSource 0x020 = false ∧
    gives (.loupeSample 0 7 0 true) (mon7 0x020 {} [(monKey 0 7, 131), (monKey 0 7, 5)]) (fun t => (m7 t).low == 131 && (m7 t).high == 131 && (m7 t).count == 1 && (m7 t).sum == 131 &&
      (m7 t).bins == [(3, 1)] && (m7 t).passed && logged (LOUPE.EVT 0) 0 (mon7 0x020 {}) t && t.mon.offered == [(monKey 0 7, 5)]) = true ∧
    gives (.loupeSample 0 7 0 true) (mon7 0x020 {} [(monKey 0 7, 99)]) (fun t => (m7 t).under == 1 && (m7 t).bins == [(0, 1)]) = true ∧
    gives (.loupeSample 0 7 0 true) (mon7 0x020 { passed := true } [(monKey 0 7, 740)]) (fun t => (m7 t).past == 1 && (m7 t).bins == [(63, 1)] && t.reg (LOUPE.EVT 0) == 0) = true ∧
    gives (.loupeSample 0 7 0 false) (mon7 0x020 {} [(monKey 0 7, 740)]) (fun t => (m7 t).skipped == 1 && (m7 t).count == 0 && t.mon.offered == []) = true ∧
    gives (.loupeSample 0 7 0 true) (mon7 0x020 {}) (fun t => (m7 t).count == 0) = true := by decide +kernel
theorem test_loupeSample_sources :
    measuredSource 0x040 = true ∧ edgeSampled 0x022 = true ∧
    gives (.loupeSample 0 7 120 true) (mon7 0x040 {}) (fun t => (m7 t).low == 120) = true ∧
    gives (.loupeSample 0 7 120 true) (mon7 0x022 {}) (fun t => (m7 t).count == 1 && (m7 t).low == BitVec.ofNat 48 (t.sharedFree 0)) = true := by decide +kernel
/-- SNAP_CMD of monitor 7 into bank 2. -/
def snap7 (op : Nat) : Nat := mk [(LOUPE.SNAP_CMD.MON, 7), (LOUPE.SNAP_CMD.BANK, 2), (LOUPE.SNAP_CMD.OP, op)]
theorem test_snapCmd :
    let s := mon7 0x020 { none := false, low := 3, high := 9, count := 2, sum := 12, bins := [(5, 2)], seq := 4 }
    reaches (.snapCmdSnapshot .spi 0 (snap7 1)) s = true ∧ reaches (.snapCmdSnapshotClear .spi 0 (snap7 2)) s = true ∧
    gives (.snapCmdSnapshot .spi 0 (snap7 1)) s (fun t => t.reg (LOUPE.SNAP_MIN 0 2) == 3 && t.reg (LOUPE.SNAP_SUM 0 2) == 12 && t.reg (snapBin 0 2 5) == 2 &&
      t.fld (LOUPE.SNAP_HDR 0 2) LOUPE.SNAP_HDR.SEQ == 4 && decide (m7 t = m7 s)) = true ∧
    gives (.snapCmdSnapshotClear .spi 0 (snap7 2)) s (fun t => t.reg (LOUPE.SNAP_MAX 0 2) == 9 && decide (m7 t = { seq := 5, fromT := 100 })) = true := by decide +kernel
theorem test_feedVal :
    reaches (.feedVal .spi 0 50) (mon7 0x0FF {}) = true ∧ gives (.feedVal .spi 0 50) (mon7 0x0FF {}) (fun t => t.reg (LOUPE.FEED_VAL 0) == 50 && (m7 t).low == 50) = true ∧
    gives (.feedVal .spi 0 50) (mon7 0x020 {}) (fun t => (m7 t).count == 0) = true := by decide +kernel
theorem test_mcfgWrite :
    let v := mk [(LOUPE.MCFG_A.SRC, 0x020), (LOUPE.MCFG_A.ARG, 16383)]
    let s := mon7 0x022 { count := 5, seq := 65535 } [(monKey 0 7, 1), (monKey 0 8, 2)]
    reaches (.mcfgWrite .spi 0 7 0 v) s = true ∧ gives (.mcfgWrite .spi 0 7 0 v) s (fun t => decide (m7 t = { seq := 0, fromT := 100 }) && t.mon.offered == [(monKey 0 8, 2)]) = true ∧
    reaches (.mcfgWrite .spi 0 7 0 (v + 2 ^ 10)) s = true ∧ sourceArgs 0x0F0 = none ∧ reaches (.mcfgWrite .spi 0 7 0 0x0F0) s = true ∧
    gives (.mcfgWrite .spi 0 7 0 0x0F0) s (fun t => (m7 t).count == 5) = true ∧ gives (.mcfgWrite .spi 0 7 2 0) s (fun t => (m7 t).count == 5 && t.reg (LOUPE.MCFG_C 0 7) == 10) = true := by
  decide +kernel

/-- The recorder of die 0 over a ring of 1 GiB from 1 GiB. -/
def recs (u : Recorder) (l : List (Nat × Nat) := []) : State :=
  { svc ([on 0 0x81, (PSCP.RING 0, mk [(PSCP.RING.BASE, 1), (PSCP.RING.SIZE, 1)]), (PSCP.TRIG 0, mk [(PSCP.TRIG.POST_MS, 1)]), (PSCP.CFG 0, mk [(PSCP.CFG.FLUSH_MS, 1)])] ++ l) with
    mon := { recorders := [(0, u)] }, edges := 99999, sw := { dieTime := [(0, 2 ^ 32 * 10000000)] } }
/-- It. -/
def rec0 (t : State) : Recorder := t.recorder 0
/-- It has failed with a kind. -/
def recFails (kind : Nat) (t : State) : Bool := decide ((rec0 t).st = .error) && t.fld (PSCP.LAST_ERR 0) PSCP.LAST_ERR.KIND == kind && logged (PSCP.EVT 0) 0 (recs {}) t
theorem test_recorderLinkUp : gives (.recorderLinkUp 0 4 3) (recs { st := .link }) (fun t => decide ((rec0 t).st = .init) && (rec0 t).width == 4 && (rec0 t).speed == 3) = true := by decide +kernel
theorem test_recorderLinkTimeout : gives (.recorderLinkTimeout 0) (recs { st := .link }) (recFails 1) = true := by decide +kernel
theorem test_recorderLinkLost : gives (.recorderLinkLost 0) (recs { st := .running, width := 4, speed := 3 }) (fun t => recFails 7 t && (rec0 t).width == 0) = true := by decide +kernel
theorem test_recorderInitDone :
    gives (.recorderInitDone 0 true 512 (2 ^ 21)) (recs { st := .init }) (fun t => decide ((rec0 t).st = .resume)) = true ∧
    gives (.recorderInitDone 0 true 512 (2 ^ 21 - 1)) (recs { st := .init }) (recFails 4) = true ∧
    gives (.recorderInitDone 0 true 1024 (2 ^ 30)) (recs { st := .init }) (recFails 3) = true ∧ gives (.recorderInitDone 0 false 0 0) (recs { st := .init }) (recFails 2) = true := by
  decide +kernel
theorem test_recorderResume_blank :
    sbValid [] = false ∧ gives (.recorderResume 0 [] [] []) (recs { st := .resume }) (fun t => decide ((rec0 t).st = .running) && (rec0 t).fill == 2 ^ 30 + 2 ^ 20) = true := by decide +kernel
/-- The head of a superblock: sequence number 8, the filling chunk the third, number 5. -/
def sbHead : List Byte := beBytes 4 0x7E5C0B10 ++ beBytes 6 8 ++ beBytes 6 (2 ^ 30 + 2 ^ 20 + 2 * 131072) ++ beBytes 6 5
/-- The superblock. -/
def sb8 : List Byte := sbHead ++ List.replicate 514 0 ++ beBytes 4 3417160038
/-- CRC-32 over a list of bytes from a value. -/
def crcFrom (c : Nat) (l : List Byte) : Nat := l.foldl (fun c b => crc32Bit (c ^^^ b.toNat) 8) c
theorem test_crcHead : crcFrom 0xFFFFFFFF sbHead = 2609055815 := by decide +kernel
theorem test_crcZeros0 : crcFrom 2609055815 (List.replicate 64 0) = 3528488251 := by decide +kernel
theorem test_crcZeros1 : crcFrom 3528488251 (List.replicate 64 0) = 1035365504 := by decide +kernel
theorem test_crcZeros2 : crcFrom 1035365504 (List.replicate 64 0) = 2816444102 := by decide +kernel
theorem test_crcZeros3 : crcFrom 2816444102 (List.replicate 64 0) = 3110935484 := by decide +kernel
theorem test_crcZeros4 : crcFrom 3110935484 (List.replicate 64 0) = 2381554586 := by decide +kernel
theorem test_crcZeros5 : crcFrom 2381554586 (List.replicate 64 0) = 2947544954 := by decide +kernel
theorem test_crcZeros6 : crcFrom 2947544954 (List.replicate 64 0) = 3001530449 := by decide +kernel
theorem test_crcZeros7 : crcFrom 3001530449 (List.replicate 64 0) = 2625746980 := by decide +kernel
theorem test_crcZeros8 : crcFrom 2625746980 (List.replicate 2 0) = 877807257 := by decide +kernel
theorem test_sbValid : sbValid sb8 = true := by
  have app : ∀ c a b, crcFrom c (a ++ b) = crcFrom (crcFrom c a) b := fun c a b => List.foldl_append
  let z : List Byte := List.replicate 64 0
  have e : sb8.take 536 = sbHead ++ (z ++ (z ++ (z ++ (z ++ (z ++ (z ++ (z ++ (z ++ List.replicate 2 0)))))))) := by decide +kernel
  have c : crc32 (sb8.take 536) = 3417160038 := by
    rw [e]
    show crcFrom 0xFFFFFFFF _ ^^^ 0xFFFFFFFF = _
    rw [app, test_crcHead, app, test_crcZeros0, app, test_crcZeros1, app, test_crcZeros2, app, test_crcZeros3, app, test_crcZeros4, app, test_crcZeros5, app,
      test_crcZeros6, app, test_crcZeros7, test_crcZeros8]
    rfl
  unfold sbValid
  rw [c]
  decide +kernel
/-- A copy waits for the recorder. -/
def copied (u : Recorder) : State :=
  { recs u with sw := { queues := [oneRef 0 62 0 0 { src := fk 0 5, data := body100, copy := some { sel := 3, snap := 20, time := 6 } }], dieTime := [(0, 2 ^ 32 * 10000000)] } }
theorem test_recordTake :
    ((copied {}).waits 0 62 fun _ => true).isSome = true ∧ (copied {}).recBlocked 0 = false ∧
    gives (.recordTake 0) (copied { st := .running, fill := 2 ^ 30 + 2 ^ 20 }) (fun t => (rec0 t).cur.length == 56 && bytesAt (rec0 t).cur 0 4 == 0x01060038 &&
      counted (PSCP.CNT 0 0) 1 (recs {}) t) = true ∧
    gives (.recordTake 0) (copied { st := .error }) (fun t => (rec0 t).cur == [] && counted (PSCP.CNT 0 4) 1 (recs {}) t) = true := by decide +kernel
theorem test_chunkWrite :
    gives (.chunkWrite 0) (recs { st := .running, full := [(77, [1])] }) (fun t => decide (t.out = [.nvme 0 0 77 131072 [1]]) && (rec0 t).full == [] && (rec0 t).cmds.length == 1) = true := by
  decide +kernel
theorem test_recorderFlush :
    let r : Recorder := { st := .running, fill := 2 ^ 30 + 2 ^ 20, since := some 9000000, cur := List.replicate 56 1 }
    (recs r).recBlocked 0 = false ∧ (recs r).fld (PSCP.CFG 0) PSCP.CFG.FLUSH_MS * 1000000 ≤ ((recs r).time 0 + 2 ^ 48 - 9000000) % 2 ^ 48 ∧ r.cur.length < 131040 ∧
    ∀ q, (recs r).recLost q = 0 := ⟨by decide +kernel, by decide +kernel, by decide +kernel, fun _ => rfl⟩
theorem test_nvmeCompletion :
    let r : Recorder := { st := .running, cmds := [(.write, 0)] }
    gives (.nvmeCompletion 0 0 0 0) (recs r) (fun t => decide ((rec0 t).cmds = [] ∧ (rec0 t).st = .running)) = true ∧
    gives (.nvmeCompletion 0 0 5 3) (recs r) (fun t => recFails 5 t && t.fld (PSCP.LAST_ERR 0) PSCP.LAST_ERR.STATUS == 3) = true ∧
    gives (.nvmeCompletion 0 0 6 0) (recs r) (recFails 6) = true ∧ gives (.nvmeCompletion 0 0 8 0) (recs { r with st := .error }) (fun t => decide ((rec0 t).cmds = [])) = true := by
  decide +kernel
theorem test_triggerTake :
    let r : Recorder := { st := .running, fill := 2 ^ 30 + 2 ^ 20, trigs := [(2, 5)] }
    (recs r).epRoom 0 { r with trigs := [] } = true ∧
    gives (.triggerTake 0) (recs r) (fun t => decide ((rec0 t).st = .post) && (rec0 t).openEp == some (0, 10000000) && counted (PSCP.CNT 0 5) 1 (recs {}) t && ((rec0 t).eps.getD 0 none).any
      fun e => e.source == 2 && e.trig == 2 ^ 30 + 2 ^ 20 + 32) = true ∧
    gives (.triggerTake 0) (recs { r with st := .post }) (fun t => counted (PSCP.CNT 0 6) 1 (recs {}) t && (rec0 t).trigs == []) = true ∧
    gives (.triggerTake 0) (recs { r with st := .error }) (fun t => counted (PSCP.CNT 0 7) 1 (recs {}) t && (rec0 t).trigs == []) = true := by decide +kernel
theorem test_triggerTake_full :
    let r : Recorder := { st := .running, fill := 2 ^ 30 + 2 ^ 20, trigs := [(2, 5)], eps := List.replicate 16 (some { start := 2 ^ 30 + 2 ^ 21, stop := 2 ^ 30 + 2 ^ 21, closed := true }) }
    (recs r).epRoom 0 { r with trigs := [] } = false ∧
    gives (.triggerTake 0) (recs r) (fun t => decide ((rec0 t).st = .running) && counted (PSCP.CNT 0 7) 1 (recs {}) t && logged (PSCP.EVT 0) 2 (recs {}) t) = true ∧
    gives (.triggerTake 0) (recs r [(PSCP.CFG 0, mk [(PSCP.CFG.FULL_ACTION, 1)])]) (fun t => decide ((rec0 t).st = .post)) = true := by decide +kernel
theorem test_episodeClose :
    let r : Recorder := { st := .post, fill := 2 ^ 30 + 2 ^ 20, openEp := some (0, 9000000), eps := [some { trig := 7 }] }
    gives (.episodeClose 0) (recs r) (fun t => decide ((rec0 t).st = .running) && (rec0 t).openEp.isNone && logged (PSCP.EVT 0) 1 (recs {}) t && ((rec0 t).eps.getD 0 none).any
      fun e => e.closed && e.trig == 7 && e.stop == 2 ^ 30 + 2 ^ 20) = true ∧
    gives (.episodeClose 0) (recs r [(PSCP.CFG 0, mk [(PSCP.CFG.MODE, 1)])]) (fun t => decide ((rec0 t).st = .stopped)) = true := by decide +kernel
/-- A read-back of n bytes is in progress. -/
def reading (n : Nat) (part : Option Nat) (l : List (Nat × Nat) := []) : State :=
  recs { st := .running, rdPart := part, cmds := [(.read, 0)] } ([(PSCP.RD_CMD 0, mk [(PSCP.RD_CMD.LEN, n), (PSCP.RD_CMD.RESULT, 1)]), (PSCP.RD_MEM 0, 64)] ++ l)
theorem test_rdCmdDone :
    gives (.rdCmdDone 0 true [0, 0, 0, 0, 1, 2]) (reading 6 none) (fun t => t.reg (PSCP.RD_BUF 0 0) == 258 && t.fld (PSCP.RD_CMD 0) PSCP.RD_CMD.RESULT == 2) = true ∧
    gives (.rdCmdDone 0 false []) (reading 6 none) (fun t => t.fld (PSCP.RD_CMD 0) PSCP.RD_CMD.RESULT == 4) = true ∧
    gives (.rdCmdDone 0 true [9]) (reading 1 (some 2)) (fun t => t.fld (PSCP.RD_CMD 0) PSCP.RD_CMD.RESULT == 5 && t.memByte 0 64 == 0) = true ∧
    gives (.rdCmdDone 0 true [9]) (reading 1 (some 2) [(CPU.MWIN 0 16, mk [(CPU.MWIN.SIZE, 1)] + 2 ^ 46)]) (fun t => t.fld (PSCP.RD_CMD 0) PSCP.RD_CMD.RESULT == 2 && t.memByte 0 64 == 9) =
      true := by decide +kernel
theorem test_trigger :
    reaches (.trigger .spi 0 1) (recs { st := .running }) = true ∧ gives (.trigger .spi 0 1) (recs { st := .running }) (fun t => (rec0 t).trigs == [(1, 10000000)]) = true := by decide +kernel
theorem test_restart :
    reaches (.restart .spi 0 2) (recs { st := .error }) = true ∧ gives (.restart .spi 0 2) (recs { st := .stopped }) (fun t => decide ((rec0 t).st = .link) && (rec0 t).linkAt == 99999) = true ∧
    gives (.restart .spi 0 2) (recs { st := .running }) (fun t => decide ((rec0 t).st = .running)) = true := by decide +kernel
theorem test_release :
    let v := mk [(PSCP.CMD.RELEASE, 1), (PSCP.CMD.EPI, 1)]
    let r : Recorder := { st := .running, eps := [some { closed := true }, some { closed := true }] }
    reaches (.release .spi 0 v) (recs r) = true ∧ gives (.release .spi 0 v) (recs r) (fun t => (rec0 t).eps.getD 1 none == none && ((rec0 t).eps.getD 0 none).isSome) = true ∧
    reaches (.release .spi 0 v) (recs {}) = true ∧ gives (.release .spi 0 v) (recs { eps := [none, some {}] }) (fun t => ((rec0 t).eps.getD 1 none).isSome) = true := by decide +kernel
/-- RD_CMD of n bytes. -/
def rd (n mem : Nat) : Nat := mk [(PSCP.RD_CMD.LEN, n), (PSCP.RD_CMD.MEM, mem), (PSCP.RD_CMD.START, 1)]
theorem test_rdCmd :
    let s := recs { st := .running } [(PSCP.RD_ADDR 0, 2 ^ 31 - 384)]
    reaches (.rdCmd .spi 0 (rd 384 0)) s = true ∧
    gives (.rdCmd .spi 0 (rd 384 0)) s (fun t => t.fld (PSCP.RD_CMD 0) PSCP.RD_CMD.RESULT == 1 && (rec0 t).cmds.length == 1 && t.out.length == 2) = true ∧
    gives (.rdCmd .spi 0 (rd 385 0)) s (fun t => t.fld (PSCP.RD_CMD 0) PSCP.RD_CMD.RESULT == 3 && (rec0 t).cmds == []) = true ∧
    gives (.rdCmd .spi 0 (rd 384 1)) s (fun t => decide (t.out = [.reply .spi .denied 0])) = true ∧
    gives (.rdCmd .spi 0 (rd 384 0)) (reading 6 none) (fun t => (rec0 t).cmds.length == 1) = true := by decide +kernel

end Sys2Proof.Tests
end

/-! The invariant of the package: it holds at reset, and every step keeps it, because whatever takes effect in a step is an
action, and every action carries the proof of what it keeps. -/

namespace Sys2Proof.Machine

/-- What every action keeps includes the invariant. -/
theorem Sound.inv {s t : State} (h : Sound s t) (hs : s.Inv) : t.Inv :=
  { regs := h.regs hs.regs
    tbls := h.tbls hs.tbls
    flash := h.flash hs.flash
    mem := h.mem hs.mem }

/-- The invariant does not look at the queue of waiting commands. -/
theorem State.Inv.setPending {s : State} (h : s.Inv) (l : List Instr) : State.Inv { s with pending := l } :=
  { regs := h.regs
    tbls := h.tbls
    flash := h.flash
    mem := h.mem }

/-- The meaning of every command is an action: each of the table's rows is dispatched to one. -/
theorem exec_eq_go (i : Instr) (s : State) : ∃ a : Act, exec i s = Act.go a s := by
  cases i <;> exact ⟨_, rfl⟩

/-- Every command gives a next state, in which what every action keeps has been kept. -/
theorem exec_sound (i : Instr) (s : State) : ∃ t, exec i s = .next t ∧ Sound s t := by
  obtain ⟨a, ha⟩ := exec_eq_go i s
  exact ⟨a.run s, ha, a.ok s⟩

/-- A command keeps the invariant. -/
theorem exec_inv {i : Instr} {s t : State} (hs : s.Inv) (h : exec i s = .next t) : t.Inv := by
  obtain ⟨u, hu, hk⟩ := exec_sound i s
  have e : u = t := Host.Outcome.next.inj (hu.symm.trans h)
  exact e ▸ hk.inv hs

/-- On an empty queue a step is the passing of one slow-clock edge. -/
theorem step_of_empty {s : State} (h : s.pending = []) : step s = .next (idle.run s) := by
  simp only [step, h, Act.go_eq]

/-- With a command waiting a step is that command, on the state with the rest of the queue. -/
theorem step_of_waiting {s : State} {i : Instr} {rest : List Instr} (h : s.pending = i :: rest) :
    step s = exec i { s with pending := rest } := by
  simp only [step, h]

end Sys2Proof.Machine

namespace Sys2Proof.Proofs

open Sys2Proof.Machine

/-- Settles O3: at reset registers, tables, flash and memory list nothing, and an empty list is canonical. -/
theorem invariantAtReset : Obligations.InvariantAtReset := by
  unfold Obligations.InvariantAtReset
  exact { regs := rfl, tbls := rfl, flash := rfl, mem := rfl }

/-- Settles O4: a step is either the idle edge or the command at the front of the queue, and both are actions. -/
theorem everyStepKeepsInvariant : Obligations.EveryStepKeepsInvariant := by
  unfold Obligations.EveryStepKeepsInvariant
  intro s t hs hstep
  cases hq : s.pending with
  | nil =>
    rw [step_of_empty hq] at hstep
    exact Host.Outcome.next.inj hstep ▸ (idle.ok s).inv hs
  | cons i rest =>
    rw [step_of_waiting hq] at hstep
    exact exec_inv (hs.setPending rest) hstep

end Sys2Proof.Proofs

/-! Two planes: the resets of the package, the conditions of a Prism die, the clocks and the internal links (R38, R44, R68 to R72,
R82 to R84). First what the shared operations leave, then what each command does where its condition holds. -/

namespace Sys2Proof.Machine

/-! ## Lists of actions -/

/-- What the action of every element keeps holds after all of them. -/
theorem Act.each_preserves {α : Type} {Q : State → Prop} {g : α → Act} (l : List α) (h : ∀ x s, Q s → Q ((g x).run s)) {s : State}
    (hs : Q s) : Q ((Act.each l g).run s) := by
  induction l generalizing s with
  | nil => exact hs
  | cons x l ih => exact ih (h x s hs)

/-- What one element's action brings about and every element's keeps holds after all of them. -/
theorem Act.each_establishes {α : Type} {Q : State → Prop} {g : α → Act} {l : List α} {x : α} (hx : x ∈ l)
    (hset : ∀ s, Q ((g x).run s)) (hkeep : ∀ y s, Q s → Q ((g y).run s)) (s : State) : Q ((Act.each l g).run s) := by
  induction l generalizing s with
  | nil => cases hx
  | cons y l ih =>
    rw [Act.each_cons]
    cases hx with
    | head => exact Act.each_preserves l hkeep (hset s)
    | tail _ hx => exact ih hx _

/-! ## The records of the dies' supplies -/

/-- Reading a Prism die's supply record after one was changed. -/
theorem psup_setPsup (p : Nat) (f : PrismSupply → PrismSupply) (s : State) (q : Nat) :
    ((Act.setPsup p f).run s).psup q = if q = p then f (s.psup p) else s.psup q := by
  simp only [State.psup, Act_setPsup_prism, Sparse.get_put]

/-- The record that was changed. -/
@[simp] theorem psup_setPsup_same (p : Nat) (f : PrismSupply → PrismSupply) (s : State) :
    ((Act.setPsup p f).run s).psup p = f (s.psup p) := by
  rw [psup_setPsup, if_pos rfl]

/-- Reading a drive die's supply record after one was changed. -/
theorem supply_setSup (d : Nat) (f : Supply → Supply) (s : State) (e : Nat) :
    ((Act.setSup d f).run s).supply e = if e = d then f (s.supply d) else s.supply e := by
  simp only [State.supply, Act_setSup_sup, Sparse.get_put]

@[simp] theorem psup_event (a i : Nat) (s : State) (p : Nat) : ((Act.event a i).run s).psup p = s.psup p := rfl

@[simp] theorem supply_event (a i : Nat) (s : State) (d : Nat) : ((Act.event a i).run s).supply d = s.supply d := rfl

/-- A change of a Prism die's supply record changes no register. -/
theorem onlyRegs_setPsup (p : Nat) (f : PrismSupply → PrismSupply) (s : State) : OnlyRegs [] s ((Act.setPsup p f).run s) :=
  fun _ _ => rfl

/-! ## Events and fields -/

/-- An event is recorded as R163 says. -/
theorem event_logged (a i : Nat) (s : State) : Logged a i s ((Act.event a i).run s) := by
  refine ⟨?_, ?_, ?_⟩
  · simp only [Holds, State.reg, Act_event_regs, Sparse.get_put, if_true]
  · simp only [State.evtCount, Act_event_evtNo, Sparse.get_put, if_true]
  · simp [State.evt, Sparse.get_put]

/-- What an action may write bounds the registers that differ. -/
theorem Writes.onlyRegs {A : Act} {l : List Nat} (h : Writes A fun a => a ∈ l) (s : State) : OnlyRegs l s (A.run s) :=
  fun a ha => h.same s a ha

/-- Does register a implement every bit of field f? -/
def implements (a : Nat) (f : Fld) : Bool := (List.range f.w).all fun j => bit (regMask a) (f.lo + j)

/-- A field that a register implements reads as what it was set to. -/
theorem fld_setFld {a : Nat} {f : Fld} (hf : f.lo + f.w ≤ 48) (h : implements a f = true) (n : Nat) (s : State) :
    ((Act.setFld a f n).run s).fld a f = n % 2 ^ f.w := by
  rw [← fget_fset (s.reg a) f n hf]
  apply Nat.eq_of_testBit_eq
  intro j
  simp only [State.fld, State.reg, Act_setFld_regs, Sparse.get_put, if_true, testBit_fget, bit_and]
  by_cases hj : j < f.w
  · simp [List.all_eq_true.mp h j (List.mem_range.mpr hj)]
  · simp [hj]

/-! ## Package resets (R82 to R84) -/

/-- The package after a reset, before the start goes on. -/
def State.beforeResume (s : State) (cold : Bool) (b : Nat) (l : List (Fld × Nat)) : State :=
  (Act.updIo fun m => { m with stage := if m.stage = .asleep ∧ !cold then .asleep else .awake }).run
    ((Act.resetAll cold).run ((Act.recordReset b l).run s))

/-- A package reset ends with the start going on where nothing holds it. -/
theorem packageReset_run (cold : Bool) (b : Nat) (l : List (Fld × Nat)) (s : State) :
    (Act.packageReset cold b l).run s = Act.resume.run (s.beforeResume cold b l) := rfl

/-- Recording a reset keeps what holds the start: RESET_N and the thermal hold. -/
theorem recordReset_start (b : Nat) (l : List (Fld × Nat)) (s : State) :
    ((Act.recordReset b l).run s).start.pinLow = s.start.pinLow ∧ ((Act.recordReset b l).run s).start.thermHold = s.start.thermHold := by
  have hw : ∀ (A : Act), Touches A [.regs, .evtNo, .upsets] → ∀ q : State, (A.run q).start = q.start :=
    fun A hA q => hA.same q .start (by decide)
  unfold Act.recordReset
  simp only [Act.get_run, Act.all_cons, Act.all_nil, Act_setStart_start, Act_setFlds_start]
  rw [hw _ (Touches.when (Touches.setReg _ (by decide))), Act_setFld_start,
    hw _ (Touches.ite (Touches.seq (Touches.setReg _ (by decide)) (touches_Act_noteEvt (by decide)))
      (Touches.seq (touches_Act_event (by decide)) (touches_Act_bumpFld (by decide))))]
  exact ⟨rfl, rfl⟩

/-- A reset takes the start back to before step 6 and keeps what holds it. -/
theorem beforeResume_start (s : State) (cold : Bool) (b : Nat) (l : List (Fld × Nat)) :
    (s.beforeResume cold b l).start.step = 0 ∧ (s.beforeResume cold b l).start.pinLow = s.start.pinLow ∧
      (s.beforeResume cold b l).start.thermHold = s.start.thermHold := by
  have hd : ∀ q : State, ((Act.drivesReset cold).run q).start = q.start :=
    fun q => (touches_Act_drivesReset (S := [.regs, .evtNo, .upsets, .irqs, .sup, .io]) (by decide)).same q .start (by decide)
  have hf : (Act.flashCut.run ((Act.recordReset b l).run s)).start = ((Act.recordReset b l).run s).start :=
    (touches_Act_flashCut (S := [.flash, .freeCount]) (by decide)).same _ .start (by decide)
  obtain ⟨hpin, htherm⟩ := recordReset_start b l s
  have e : (s.beforeResume cold b l).start = (keptState cold (Act.flashCut.run ((Act.recordReset b l).run s))).start := hd _
  rw [e]
  refine ⟨rfl, ?_, ?_⟩
  · rw [← hpin, ← hf]
    rfl
  · rw [← htherm, ← hf]
    rfl

/-- A reset leaves the sequencer as it is. -/
theorem beforeResume_seq (s : State) (cold : Bool) (b : Nat) (l : List (Fld × Nat)) : (s.beforeResume cold b l).seq = s.seq := by
  have h1 : ((Act.recordReset b l).run s).seq = s.seq :=
    (touches_Act_recordReset (S := [.regs, .evtNo, .upsets, .start]) (by decide)).same s .seq (by decide)
  have h2 : (s.beforeResume cold b l).seq = ((Act.recordReset b l).run s).seq :=
    (touches_Act_resetAll (cold := cold) (fun _ h => h)).same _ .seq (by decide)
  exact h2.trans h1

/-- While the regulators are not ready, RESET_N is low or a thermal hold lasts, the start does not go on. -/
theorem resume_held {s : State} (h : s.seq.stage ≠ .ready ∨ s.start.pinLow = true ∨ s.start.thermHold = true) :
    Act.resume.run s = s := by
  unfold Act.resume
  rw [Act.get_run, Act.when_run, if_neg]
  rintro ⟨hready, -, hpin, htherm, -⟩
  rcases h with h | h | h
  · exact h hready
  · rw [hpin] at h
    cases h
  · rw [htherm] at h
    cases h

/-- A reset of a package that is held leaves it as the reset does. -/
theorem packageReset_held {s : State} (h : s.seq.stage ≠ .ready ∨ s.start.pinLow = true ∨ s.start.thermHold = true) (cold : Bool)
    (b : Nat) (l : List (Fld × Nat)) : (Act.packageReset cold b l).run s = s.beforeResume cold b l := by
  obtain ⟨-, hpin, htherm⟩ := beforeResume_start s cold b l
  rw [packageReset_run, resume_held]
  rw [beforeResume_seq, hpin, htherm]
  exact h

/-- The end of an island leaves whether VBAT is good. -/
theorem islandOff_good (d : Nat) (s : State) (e : Nat) : (((Act.islandOff d).run s).supply e).good = (s.supply e).good := by
  unfold Act.islandOff
  refine Act.all_keeps (fun t => (t.supply e).good) _ (fun a ha q => ?_) s
  simp only [List.mem_cons, List.not_mem_nil, or_false] at ha
  rcases ha with rfl | rfl | rfl | rfl | rfl
  case inl => rfl
  case inr.inl => rfl
  case inr.inr.inl => exact Act.each_keeps (fun t => (t.supply e).good) _ _ (fun _ _ _ => rfl) q
  case inr.inr.inr.inl => rfl
  case inr.inr.inr.inr =>
    rw [supply_setSup]
    split
    · subst e
      rfl
    · rfl

/-- A reset of cold scope leaves whether VBAT is good. -/
theorem beforeResume_good (s : State) (b : Nat) (l : List (Fld × Nat)) (e : Nat) :
    ((s.beforeResume true b l).supply e).good = (s.supply e).good := by
  have hdrives : ∀ q : State, (((Act.drivesReset true).run q).supply e).good = (q.supply e).good := fun q =>
    Act.each_keeps (fun t => (t.supply e).good) q.driveDies Act.islandOff (fun d _ t => islandOff_good d t e) q
  have hflash : (Act.flashCut.run ((Act.recordReset b l).run s)).sup = ((Act.recordReset b l).run s).sup :=
    (touches_Act_flashCut (S := [.flash, .freeCount]) (by decide)).same _ .sup (by decide)
  have hrec : ((Act.recordReset b l).run s).sup = s.sup :=
    (touches_Act_recordReset (S := [.regs, .evtNo, .upsets, .start]) (by decide)).same s .sup (by decide)
  refine Eq.trans (show _ = _ from hdrives _) ?_
  exact congrArg (fun m => (Sparse.get (fun _ => ({} : Supply)) m e).good) (hflash.trans hrec)

/-- The drive dies' reset does not write the details of the reset record. -/
theorem writes_drivesReset_detail {cold : Bool} : Writes (Act.drivesReset cold) fun a => a ≠ RSTC.DETAIL 0 := by
  have hc : ∀ d c, CHN.CMD d c ≠ RSTC.DETAIL 0 := fun d c => by simp [CHN.CMD, RSTC.DETAIL, ra]; omega
  unfold Act.drivesReset
  refine Writes.get fun s => Writes.each fun d => Writes.ite (writes_islandOff fun a ha h => ?_) ?_
  · rw [h, show aDie (RSTC.DETAIL 0) = 0 by decide] at ha
    omega
  · refine Writes.when (Writes.seq (Writes.each fun c => writes_Act_chanWarm (hc d c)) ?_)
    refine writes_Act_chSettleAll (by decide) (by decide) (fun p => ?_) (fun p => ?_) (by decide)
    · simp [DEV.CNT_LAST, RSTC.DETAIL, ra]; omega
    · simp [DEV.EVT, RSTC.DETAIL, ra]; omega

/-- A reset keeps the details that it has recorded. -/
theorem beforeResume_detail (s : State) (cold : Bool) (b : Nat) (l : List (Fld × Nat)) :
    (s.beforeResume cold b l).reg (RSTC.DETAIL 0) = ((Act.recordReset b l).run s).reg (RSTC.DETAIL 0) := by
  have hkept : keptReg cold (RSTC.DETAIL 0) = true := by cases cold <;> decide
  unfold State.beforeResume Act.resetAll
  simp only [Act.all_cons, Act.all_nil]
  rw [(writes_Act_updIo (P := fun a => a ≠ RSTC.DETAIL 0)).same _ _ (by simp), writes_drivesReset_detail.same _ _ (by simp)]
  show Sparse.get regReset (Sparse.keep (keptReg cold) _) _ = _
  rw [Sparse.get_keep, if_pos hkept]
  exact (writes_Act_flashCut (P := fun a => a ≠ RSTC.DETAIL 0)).same _ _ (by simp)

/-- The record of a reset shows its source's detail. -/
theorem recordReset_detail (b : Nat) {f : Fld} (hf : f.lo + f.w ≤ 48) (h : implements (RSTC.DETAIL 0) f = true) (n : Nat) (s : State) :
    ((Act.recordReset b [(f, n)]).run s).fld (RSTC.DETAIL 0) f = n % 2 ^ f.w :=
  fld_setFld hf h n _

/-! ## What the resets' commands do (R68, R82, R83) -/

/-- VBAT_LOW takes the sequencer back and resets the package. -/
theorem exec_vbatLow {s : State} {v : Nat} (ha : (s.supply 0).alive = true)
    (hv : v < s.fld (SUP.THRESH 0) SUP.THRESH.RESET_TH * 10) (hst : s.seq.stage ≠ .off) :
    exec (.vbatLow v) s = .next ((Act.packageReset true 0 []).run
      ((Act.setSeq fun _ => {}).run ((Act.setSup 0 fun u => { u with good := false }).run s))) := by
  show Act.go (vbatLow v) s = _
  rw [Act.go_eq, vbatLow, Act.get_run, Act.when_run, if_pos ⟨ha, hv, Or.inl hst⟩]
  rfl

/-- The sequencer as RESET_N leaves it: the latch and the attempt count cleared (R68). -/
def Sequencer.pinCleared (q : Sequencer) : Sequencer :=
  { q with stage := if q.stage = .latched then .off else q.stage, failed := 0
           lastFail := if q.stage = .between then q.lastFail else none, attempt := 0 }

theorem Sequencer.pinCleared_stage (q : Sequencer) : q.pinCleared.stage ≠ .latched := by
  unfold Sequencer.pinCleared
  split
  · simp
  · assumption

/-- RESET_N low clears the latch and resets the package. -/
theorem exec_resetNAssert {s : State} (ha : (s.supply 0).alive = true) (hp : s.start.pinLow = false) :
    exec .resetNAssert s = .next ((Act.packageReset false 1 []).run
      ((Act.setSeq Sequencer.pinCleared).run ((Act.setStart fun u => { u with pinLow := true }).run s))) := by
  show Act.go resetNAssert s = _
  rw [Act.go_eq, resetNAssert, Act.get_run, Act.when_run, if_pos ⟨ha, hp⟩]
  rfl

/-- A thermal shutdown begins its hold and resets the package. -/
theorem exec_prismThermalShutdown {s : State} {p : Nat} (hp : p < s.x) (hup : s.prismUp = true) :
    exec (.prismThermalShutdown p) s = .next ((Act.packageReset false 8 [(RSTC.DETAIL.THERM_DIE, p)]).run
      ((Act.setStart fun u => { u with thermHold := true }).run s)) := by
  show Act.go (Act.when (p < s.x) (prismThermalShutdown p)) s = _
  rw [Act.go_eq, Act.when_run, if_pos hp, prismThermalShutdown, Act.get_run, Act.when_run, if_pos ⟨hp, hup⟩]
  rfl

/-- A lost die-to-die link resets the package. -/
theorem exec_dieToDieLinkLost {s : State} {p j : Nat} (hp : p < s.x) (hj : j < 3) (hfar : d2dFar p j < s.x) (hup : s.prismUp = true) :
    exec (.dieToDieLinkLost p j) s =
      .next ((Act.packageReset false 6 [(RSTC.DETAIL.D2D_FACET, globalFacet p (56 + j))]).run s) := by
  show Act.go (Act.when (p < s.x ∧ j < 3) (dieToDieLinkLost p j)) s = _
  rw [Act.go_eq, Act.when_run, if_pos ⟨hp, hj⟩, dieToDieLinkLost, Act.get_run, Act.when_run, if_pos ⟨hp, hj, hfar, hup⟩]

/-! ## What the conditions of a Prism die do (R44, R82) -/

theorem exec_coreDroop {s : State} {p mv : Nat} (hp : p < s.x) (hup : s.prismUp = true) (hd : (s.psup p).droop = false)
    (hmv : mv < 700) : exec (.coreDroop p mv) s =
      .next ((Act.event (DEV.EVT p) 0).run ((Act.setPsup p fun u => { u with droop := true }).run s)) := by
  show Act.go (Act.when (p < s.x) (coreDroop p mv)) s = _
  rw [Act.go_eq, Act.when_run, if_pos hp, coreDroop, Act.get_run, Act.when_run, if_pos ⟨hp, hup, hd, hmv⟩]
  rfl

theorem exec_coreDroopEnd {s : State} {p mv : Nat} (hp : p < s.x) (hd : (s.psup p).droop = true) (hmv : 700 ≤ mv) :
    exec (.coreDroopEnd p mv) s = .next ((Act.setPsup p fun u => { u with droop := false }).run s) := by
  show Act.go (Act.when (p < s.x) (coreDroopEnd p mv)) s = _
  rw [Act.go_eq, Act.when_run, if_pos hp, coreDroopEnd, Act.get_run, Act.when_run, if_pos ⟨hp, hd, hmv⟩]

theorem exec_prismThermalWarn {s : State} {p : Nat} (hp : p < s.x) (hup : s.prismUp = true) :
    exec (.prismThermalWarn p) s = .next ((Act.setPsup p fun u => { u with hot := true }).run s) := by
  show Act.go (Act.when (p < s.x) (prismThermalWarn p)) s = _
  rw [Act.go_eq, Act.when_run, if_pos hp, prismThermalWarn, Act.get_run, Act.when_run, if_pos ⟨hp, hup⟩]

theorem exec_prismThermalWarnEnd {s : State} {p : Nat} (hp : p < s.x) :
    exec (.prismThermalWarnEnd p) s = .next ((Act.setPsup p fun u => { u with hot := false }).run s) := by
  show Act.go (Act.when (p < s.x) (prismThermalWarnEnd p)) s = _
  rw [Act.go_eq, Act.when_run, if_pos hp, prismThermalWarnEnd, Act.get_run, Act.when_run, if_pos hp]

/-! ## Clocks (R70 to R72) -/

/-- Step 8 begins. -/
theorem stepEight_step (s : State) : (Act.stepEight.run s).start.step = 8 := by
  have hk : Touches (Act.each s.prismDies fun p => Act.freeBytes 32 fun m => Act.modKstore p fun k =>
      { k with rootOk := !s.fuse.sharesGone, rootMask := if s.fuse.sharesGone then [] else nats m, passAt := s.edges })
      [.sec, .freeCount] :=
    Touches.each fun p => touches_Act_freeBytes (by decide) fun m => touches_Act_modKstore (by decide)
  unfold Act.stepEight
  simp only [Act.get_run, Act.all_cons, Act.all_nil]
  exact congrArg Start.step (hk.same _ .start (by decide))

/-- Step 8 leaves the clocks as they are. -/
theorem stepEight_clk (s : State) : (Act.stepEight.run s).clk = s.clk :=
  (touches_Act_stepEight (S := [.start, .ld, .sec, .freeCount]) (by decide)).same s .clk (by decide)

/-- Step 8 leaves the registers' fields as they are. -/
theorem stepEight_fld (s : State) (a : Nat) (f : Fld) : (Act.stepEight.run s).fld a f = s.fld a f := by
  have h : (Act.stepEight.run s).regs = s.regs :=
    (touches_Act_stepEight (S := [.start, .ld, .sec, .freeCount]) (by decide)).same s .regs (by decide)
  rw [State.fld, State.reg, h]
  rfl

theorem implements_clkReason : implements (RSTC.STRAP 0) RSTC.STRAP.CLK_REASON = true := by decide +kernel

/-- Internal-only mode. -/
theorem internalOnly_clk (n : Nat) (s : State) :
    ((Act.internalOnly n).run s).clk = { s.clk with source := .internal, internalOnly := true } := rfl

/-- The reason for internal-only mode. -/
theorem internalOnly_reason (n : Nat) (s : State) :
    ((Act.internalOnly n).run s).fld (RSTC.STRAP 0) RSTC.STRAP.CLK_REASON = n % 8 := by
  unfold Act.internalOnly
  rw [Act.seq_run, fld_setFld (by decide) implements_clkReason]
  rfl

/-- CLOCK_READY: the source that the straps name is in use, no reason is shown, and step 8 begins. -/
theorem clockReady_run {s : State} (h : s.start.step = 7) :
    clockReady.run s = Act.stepEight.run ((Act.setFld (RSTC.STRAP 0) RSTC.STRAP.CLK_REASON 0).run
      { s with clk := { s.clk with source := if s.fld (RSTC.STRAP 0) RSTC.STRAP.CLKMODE = 0 then .crystal else .reference } }) := by
  rw [clockReady, Act.get_run, Act.when_run, if_pos h]
  rfl

/-- CLOCK_TIMEOUT: internal-only mode, and step 8 begins. -/
theorem clockTimeout_run {s : State} (h : s.start.step = 7) :
    clockTimeout.run s = Act.stepEight.run ((Act.internalOnly (3 + s.fld (RSTC.STRAP 0) RSTC.STRAP.CLKMODE)).run s) := by
  rw [clockTimeout, Act.get_run, Act.when_run, if_pos h]
  rfl

/-- What CLOCK_LOST stops on every Prism die leaves the clocks as internal-only mode sets them. -/
theorem clockLost_clk {s : State} (h8 : 8 ≤ s.start.step) (hsrc : s.clk.source ≠ .internal) :
    (clockLost.run s).clk = { s.clk with source := .internal, internalOnly := true } := by
  unfold clockLost
  rw [Act.get_run, Act.when_run, if_pos ⟨h8, hsrc⟩, Act.seq_run]
  refine Eq.trans (show _ = _ from Touches.same (S := [.regs, .evtNo, .upsets, .irqs, .sw, .nets, .mon]) ?_ _ .clk (by decide)) rfl
  refine Touches.each fun p => Touches.all_cons ?_ (Touches.all_cons ?_ (Touches.all_cons ?_ (Touches.all_cons ?_ Touches.all_nil)))
  · exact Touches.each fun f => Touches.get fun t =>
      Touches.seq (touches_Act_linkDown (by decide)) (Touches.when (Touches.setReg _ (by decide)))
  · exact Touches.each fun c => touches_Act_canClockLost (by decide)
  · exact Touches.each fun c => touches_Act_linClockLost (by decide)
  · exact touches_Act_recClockLost (by decide)

/-- CLOCK_READY chooses an external source. -/
theorem clockReady_gives {s : State} (h : s.start.step = 7) : Gives .clockReady s fun t =>
    t.start.step = 8 ∧ t.clk.source ≠ .internal ∧ t.fld (RSTC.STRAP 0) RSTC.STRAP.CLK_REASON = 0 ∧ OnlyRegs [RSTC.STRAP 0] s t := by
  refine ⟨clockReady.run s, rfl, ?_, ?_, ?_, (writes_clockReady (by simp)).onlyRegs s⟩ <;> rw [clockReady_run h]
  · exact stepEight_step _
  · rw [stepEight_clk, Act_setFld_clk]
    dsimp only
    split <;> decide
  · rw [stepEight_fld, fld_setFld (by decide) implements_clkReason, Nat.zero_mod]

/-- CLOCK_TIMEOUT chooses the internal source, with a reason by the clock pins. -/
theorem clockTimeout_gives {s : State} (h : s.start.step = 7) : Gives .clockTimeout s fun t =>
    t.start.step = 8 ∧ t.clk.internalOnly = true ∧ t.clk.source = .internal ∧
      t.fld (RSTC.STRAP 0) RSTC.STRAP.CLK_REASON = (3 + s.fld (RSTC.STRAP 0) RSTC.STRAP.CLKMODE) % 8 ∧
      OnlyRegs [RSTC.STRAP 0] s t := by
  refine ⟨clockTimeout.run s, rfl, ?_, ?_, ?_, ?_, (writes_clockTimeout (by simp)).onlyRegs s⟩ <;> rw [clockTimeout_run h]
  · exact stepEight_step _
  · rw [stepEight_clk, internalOnly_clk]
  · rw [stepEight_clk, internalOnly_clk]
  · rw [stepEight_fld, internalOnly_reason]

/-- CLOCK_LOST chooses the internal source. -/
theorem clockLost_gives {s : State} (h8 : 8 ≤ s.start.step) (hsrc : s.clk.source ≠ .internal) :
    Gives .clockLost s fun t => t.clk.source = .internal ∧ t.clk.internalOnly = true :=
  ⟨clockLost.run s, rfl, by rw [clockLost_clk h8 hsrc], by rw [clockLost_clk h8 hsrc]⟩

/-! ## Drive links (R38) -/

/-- The link of drive die d is lost where the record of its Prism die lists its rank as lost. -/
theorem dlinkLost_of_psup {s t : State} {d : Nat} {u : PrismSupply} (hf : t.fuse = s.fuse) (hu : t.psup (s.attachedTo d) = u) :
    t.dlinkLost d = u.lostRank.contains (s.rankOf d) := by
  subst hu
  simp only [State.dlinkLost, State.attachedTo, State.rankOf, State.x, hf]

/-- The link of drive die d is down where the record of its Prism die lists its rank as lost or as cut. -/
theorem dlinkDown_of_psup {s t : State} {d : Nat} {u : PrismSupply} (hf : t.fuse = s.fuse) (hu : t.psup (s.attachedTo d) = u) :
    t.dlinkDown d = (u.lostRank.contains (s.rankOf d) || u.cutRank.contains (s.rankOf d)) := by
  subst hu
  simp only [State.dlinkDown, State.attachedTo, State.rankOf, State.x, hf]

/-- The last lost rank is implemented on every Prism die. -/
theorem implements_lastRank {p : Nat} (hp : p < 4) : implements (DEV.DLINK p) DEV.DLINK.LAST_RANK = true := by
  have h : ∀ p < 4, implements (DEV.DLINK p) DEV.DLINK.LAST_RANK = true := by decide +kernel
  exact h p hp

/-- The record of a Prism die that has detected the link of rank k lost. -/
def PrismSupply.linkLost (u : PrismSupply) (k : Nat) : PrismSupply :=
  { u with lostRank := u.lostRank ++ [k], cutRank := u.cutRank.filter (· != k) }

/-- The record of a Prism die at whose link of rank k transitions have ended. -/
def PrismSupply.linkCut (u : PrismSupply) (k : Nat) : PrismSupply := { u with cutRank := u.cutRank.filter (· != k) ++ [k] }

/-- The record of a Prism die at whose link of rank k transitions have returned. -/
def PrismSupply.linkUp (u : PrismSupply) (k : Nat) : PrismSupply :=
  { u with lostRank := u.lostRank.filter (· != k), cutRank := u.cutRank.filter (· != k) }

/-- DRIVE_LINK_LOST, seen: the Prism die records the loss with its rank. -/
theorem exec_driveLinkLost_seen {s : State} {d : Nat} (hd : d < s.y) (hup : s.prismUp = true) (hl : s.dlinkLost d = false) :
    exec (.driveLinkLost d true) s = .next ((Act.setFld (DEV.DLINK (s.attachedTo d)) DEV.DLINK.LAST_RANK (s.rankOf d)).run
      ((Act.event (DEV.EVT (s.attachedTo d)) 2).run ((Act.setPsup (s.attachedTo d) fun u => u.linkLost (s.rankOf d)).run s))) := by
  show Act.go (Act.when (d < s.y) (driveLinkLost d true)) s = _
  rw [Act.go_eq, Act.when_run, if_pos hd, driveLinkLost, Act.get_run, Act.when_run, if_pos ⟨hd, hup, hl⟩]
  rfl

/-- DRIVE_LINK_LOST at its onset: the link is cut, and no loss is recorded yet. -/
theorem exec_driveLinkLost_onset {s : State} {d : Nat} (hd : d < s.y) (hup : s.prismUp = true) (hl : s.dlinkLost d = false) :
    exec (.driveLinkLost d false) s = .next ((Act.setPsup (s.attachedTo d) fun u => u.linkCut (s.rankOf d)).run s) := by
  show Act.go (Act.when (d < s.y) (driveLinkLost d false)) s = _
  rw [Act.go_eq, Act.when_run, if_pos hd, driveLinkLost, Act.get_run, Act.when_run, if_pos ⟨hd, hup, hl⟩]
  rfl

theorem exec_driveLinkResume {s : State} {d : Nat} (hd : d < s.y) :
    exec (.driveLinkResume d) s = .next ((Act.setPsup (s.attachedTo d) fun u => u.linkUp (s.rankOf d)).run s) := by
  show Act.go (Act.when (d < s.y) (driveLinkResume d)) s = _
  rw [Act.go_eq, Act.when_run, if_pos hd, driveLinkResume, Act.get_run, Act.when_run, if_pos hd]
  rfl

/-- DRIVE_LINK_LOST, seen: the link is lost, and its rank is recorded. -/
theorem driveLinkLost_seen_gives {s : State} {d : Nat} (hd : d < s.y) (hd4 : d < 4) (hup : s.prismUp = true)
    (hl : s.dlinkLost d = false) : Gives (.driveLinkLost d true) s fun t => t.dlinkLost d = true ∧ t.dlinkDown d = true ∧
      t.fld (DEV.DLINK (s.attachedTo d)) DEV.DLINK.LAST_RANK = s.rankOf d ∧
      OnlyRegs [DEV.EVT (s.attachedTo d), DEV.DLINK (s.attachedTo d)] s t := by
  have hp4 : s.attachedTo d < 4 := (Nat.mod_le d s.x).trans_lt hd4
  have hk4 : s.rankOf d < 4 := (Nat.div_le_self d s.x).trans_lt hd4
  have hrec := psup_setPsup_same (s.attachedTo d) (fun u => u.linkLost (s.rankOf d)) s
  refine ⟨_, exec_driveLinkLost_seen hd hup hl, ?_, ?_, ?_, fun a ha => ?_⟩
  · refine Eq.trans (dlinkLost_of_psup (s := s) rfl hrec) ?_
    simp [PrismSupply.linkLost]
  · refine Eq.trans (dlinkDown_of_psup (s := s) rfl hrec) ?_
    simp [PrismSupply.linkLost]
  · rw [fld_setFld (by decide) (implements_lastRank hp4)]
    exact Nat.mod_eq_of_lt hk4
  · rw [(writes_Act_setFld (List.mem_cons_of_mem _ (List.mem_singleton_self _))).same _ a ha,
      (writes_Act_event List.mem_cons_self).same _ a ha]
    rfl

/-- DRIVE_LINK_LOST at its onset: the link is down, not lost. -/
theorem driveLinkLost_onset_gives {s : State} {d : Nat} (hd : d < s.y) (hup : s.prismUp = true) (hl : s.dlinkLost d = false) :
    Gives (.driveLinkLost d false) s fun t => t.dlinkLost d = false ∧ t.dlinkDown d = true ∧ OnlyRegs [] s t := by
  refine ⟨_, exec_driveLinkLost_onset hd hup hl, ?_, ?_, onlyRegs_setPsup _ _ _⟩
  · exact Eq.trans (dlinkLost_of_psup (s := s) rfl (psup_setPsup_same ..)) hl
  · refine Eq.trans (dlinkDown_of_psup (s := s) rfl (psup_setPsup_same ..)) ?_
    simp [PrismSupply.linkCut]

/-- DRIVE_LINK_RESUME: the link is up. -/
theorem driveLinkResume_gives {s : State} {d : Nat} (hd : d < s.y) :
    Gives (.driveLinkResume d) s fun t => t.dlinkLost d = false ∧ t.dlinkDown d = false ∧ OnlyRegs [] s t := by
  refine ⟨_, exec_driveLinkResume hd, ?_, ?_, onlyRegs_setPsup _ _ _⟩
  · refine Eq.trans (dlinkLost_of_psup (s := s) rfl (psup_setPsup_same ..)) ?_
    simp [PrismSupply.linkUp]
  · refine Eq.trans (dlinkDown_of_psup (s := s) rfl (psup_setPsup_same ..)) ?_
    simp [PrismSupply.linkUp]

/-! ## The slow-clock edge (R38) -/

/-- Prism die p changes to a substitute edge. -/
def Act.prismSubst (p : Nat) : Act :=
  Act.all [Act.setPsup p (fun u => { u with subst := true }), Act.event (DEV.EVT p) 3, Act.event (TIME.EVT p) 1]

/-- Drive die d changes to a substitute edge. -/
def Act.driveSubst (d : Nat) : Act := Act.seq (Act.setSup d fun u => { u with subst := true }) (Act.event (SUP.EVT d) 6)

theorem psup_prismSubst (p : Nat) (s : State) (q : Nat) :
    ((Act.prismSubst p).run s).psup q = if q = p then { s.psup p with subst := true } else s.psup q := by
  simp only [Act.prismSubst, Act.all_cons, Act.all_nil, psup_event, psup_setPsup]

theorem supply_driveSubst (d : Nat) (s : State) (e : Nat) :
    ((Act.driveSubst d).run s).supply e = if e = d then { s.supply d with subst := true } else s.supply e := by
  simp only [Act.driveSubst, Act.seq_run, supply_event, supply_setSup]

/-- A Prism die on a substitute edge stays on it. -/
theorem prismSubst_keeps {q : Nat} (p : Nat) (s : State) (h : (s.psup q).subst = true) :
    (((Act.prismSubst p).run s).psup q).subst = true := by
  rw [psup_prismSubst]
  split
  · rfl
  · exact h

/-- A drive die on a substitute edge stays on it. -/
theorem driveSubst_keeps {e : Nat} (d : Nat) (s : State) (h : (s.supply e).subst = true) :
    (((Act.driveSubst d).run s).supply e).subst = true := by
  rw [supply_driveSubst]
  split
  · rfl
  · exact h

/-- The Prism dies that detect with a mask that the edge is missing and change to a substitute one. -/
def State.prismsMissing (s : State) (m : Nat) : List Nat :=
  s.prismDies.filter fun p => m / 2 ^ p % 2 == 1 && s.prismUp && !(s.psup p).subst

/-- The drive dies that do. -/
def State.drivesMissing (s : State) (m : Nat) : List Nat :=
  s.driveDies.filter fun d => decide (d ≠ 0) && m / 2 ^ (4 + d) % 2 == 1 && (s.supply d).alive && !(s.supply d).subst

theorem exec_slowEdgeLost {s : State} {m : Nat} (hm : m < 256) :
    exec (.slowEdgeLost m) s = .next ((Act.each (s.drivesMissing m) Act.driveSubst).run
      ((Act.each (s.prismsMissing m) Act.prismSubst).run s)) := by
  show Act.go (Act.when (m < 256) (slowEdgeLost m)) s = _
  rw [Act.go_eq, Act.when_run, if_pos hm]
  rfl

/-- Every running Prism die of the mask is on a substitute edge once those that miss the edge have changed. -/
theorem prismsMissing_subst {s : State} {m p : Nat} (hp : p < s.x) (hm : m / 2 ^ p % 2 = 1) (hup : s.prismUp = true) :
    (((Act.each (s.prismsMissing m) Act.prismSubst).run s).psup p).subst = true := by
  by_cases hs : (s.psup p).subst = true
  · exact Act.each_preserves (Q := fun t => (t.psup p).subst = true) _ prismSubst_keeps hs
  · refine Act.each_establishes (Q := fun t => (t.psup p).subst = true) (x := p) ?_ (fun t => ?_) prismSubst_keeps s
    · simp [State.prismsMissing, State.prismDies, hp, hm, hup, hs]
    · rw [psup_prismSubst, if_pos rfl]

/-- Every live drive die of the mask but drive die 0, which drives the line, is on a substitute edge once those that miss the edge
have changed. -/
theorem drivesMissing_subst {s t : State} (ht : t.sup = s.sup) {m d : Nat} (h0 : d ≠ 0) (hd : d < s.y)
    (hm : m / 2 ^ (4 + d) % 2 = 1) (ha : (s.supply d).alive = true) :
    (((Act.each (s.drivesMissing m) Act.driveSubst).run t).supply d).subst = true := by
  by_cases hs : (s.supply d).subst = true
  · refine Act.each_preserves (Q := fun t => (t.supply d).subst = true) _ driveSubst_keeps ?_
    rw [State.supply, ht]
    exact hs
  · refine Act.each_establishes (Q := fun t => (t.supply d).subst = true) (x := d) ?_ (fun t => ?_) driveSubst_keeps t
    · simp [State.drivesMissing, State.driveDies, h0, hd, hm, ha, hs]
    · rw [supply_driveSubst, if_pos rfl]

/-- The Prism dies' change leaves the drive dies' records as they are. -/
theorem prismSubst_sup (l : List Nat) (s : State) : ((Act.each l Act.prismSubst).run s).sup = s.sup :=
  Act.each_keeps (·.sup) l Act.prismSubst (fun _ _ _ => rfl) s

/-- The drive dies' change leaves the Prism dies' records as they are. -/
theorem driveSubst_prism (l : List Nat) (s : State) : ((Act.each l Act.driveSubst).run s).prism = s.prism :=
  Act.each_keeps (·.prism) l Act.driveSubst (fun _ _ _ => rfl) s

/-- SLOW_EDGE_LOST: the dies of the mask run on a substitute edge. -/
theorem slowEdgeLost_gives {s : State} {m : Nat} (hm : m < 256) : Gives (.slowEdgeLost m) s fun t =>
    (∀ p, p < s.x → p < 4 → m / 2 ^ p % 2 = 1 → s.prismUp = true → (t.psup p).subst = true) ∧
    (∀ d, d ≠ 0 → d < s.y → d < 4 → m / 2 ^ (4 + d) % 2 = 1 → (s.supply d).alive = true → (t.supply d).subst = true) := by
  refine ⟨_, exec_slowEdgeLost hm, fun p hp _ hbit hup => ?_, fun d h0 hd _ hbit ha => ?_⟩
  · rw [State.psup, driveSubst_prism]
    exact prismsMissing_subst hp hbit hup
  · exact drivesMissing_subst (prismSubst_sup _ s) h0 hd hbit ha

end Sys2Proof.Machine

namespace Sys2Proof.Proofs

open Sys2Proof.Machine

/-- Settles O20: each source ends in a package reset. The sequencer is not touched by it; while the sequencer is off, the ball is low
or the thermal hold lasts, the start does not go on, so the state is the one that the reset leaves. -/
theorem packageResets : Obligations.PackageResets := by
  unfold Obligations.PackageResets
  intro s v p j
  refine ⟨fun ha hv hst => ⟨_, exec_vbatLow ha hv hst, ?_⟩, fun ha hpin => ⟨_, exec_resetNAssert ha hpin, ?_⟩,
    fun hp hp4 hup => ⟨_, exec_prismThermalShutdown hp hup, ?_⟩,
    fun hp _ hj hfar hup => ⟨_, exec_dieToDieLinkLost hp hj hfar hup, packageReset_leaves _ _ (by decide) _ _⟩⟩
  · generalize hu : (Act.setSeq fun _ => {}).run ((Act.setSup 0 fun u => { u with good := false }).run s) = u
    have hseq : u.seq = {} := by rw [← hu]; rfl
    have hgood : (u.supply 0).good = false := by
      have h : u.supply 0 = ((Act.setSup 0 fun u => { u with good := false }).run s).supply 0 := by rw [← hu]; rfl
      rw [h, supply_setSup, if_pos rfl]
    have hleaves : ResetBy 0 _ := packageReset_leaves true 0 (by decide) [] u
    rw [packageReset_held (Or.inl (by rw [hseq]; decide))] at hleaves ⊢
    exact ⟨by rw [beforeResume_seq, hseq], by rw [beforeResume_good, hgood], (beforeResume_start ..).1, hleaves⟩
  · generalize hu : (Act.setSeq Sequencer.pinCleared).run ((Act.setStart fun u => { u with pinLow := true }).run s) = u
    have hseq : u.seq = s.seq.pinCleared := by rw [← hu]; rfl
    have hlow : u.start.pinLow = true := by rw [← hu]; rfl
    have hleaves : ResetBy 1 _ := packageReset_leaves false 1 (by decide) [] u
    obtain ⟨hstep, hpinLow, -⟩ := beforeResume_start u false 1 []
    rw [packageReset_held (Or.inr (Or.inl hlow))] at hleaves ⊢
    refine ⟨hpinLow.trans hlow, hstep, ?_, ?_, hleaves⟩
    · rw [beforeResume_seq, hseq]
      exact s.seq.pinCleared_stage
    · rw [beforeResume_seq, hseq]
      rfl
  · generalize hu : (Act.setStart fun u => { u with thermHold := true }).run s = u
    have hhold : u.start.thermHold = true := by rw [← hu]; rfl
    have hleaves : ResetBy 8 _ := packageReset_leaves false 8 (by decide) [(RSTC.DETAIL.THERM_DIE, p)] u
    obtain ⟨hstep, -, htherm⟩ := beforeResume_start u false 8 [(RSTC.DETAIL.THERM_DIE, p)]
    rw [packageReset_held (Or.inr (Or.inr hhold))] at hleaves ⊢
    refine ⟨htherm.trans hhold, hstep, ?_, hleaves⟩
    have hdie := recordReset_detail 8 (f := RSTC.DETAIL.THERM_DIE) (by decide) (by decide +kernel) p u
    rw [State.fld, beforeResume_detail]
    exact hdie.trans (Nat.mod_eq_of_lt hp4)

/-- Settles O22: each condition is a change of the die's own record, and the droop records its event besides. -/
theorem prismDieConditions : Obligations.PrismDieConditions := by
  unfold Obligations.PrismDieConditions
  intro s p mv hp _
  refine ⟨fun hup hd hmv => ⟨_, exec_coreDroop hp hup hd hmv, ?_, ?_, ?_⟩,
    fun hd hmv => ⟨_, exec_coreDroopEnd hp hd hmv, psup_setPsup_same .., onlyRegs_setPsup _ _ _⟩,
    fun hup => ⟨_, exec_prismThermalWarn hp hup, by rw [psup_setPsup_same], onlyRegs_setPsup _ _ _⟩,
    ⟨_, exec_prismThermalWarnEnd hp, by rw [psup_setPsup_same], onlyRegs_setPsup _ _ _⟩⟩
  · rw [psup_event, psup_setPsup_same]
  · exact event_logged (DEV.EVT p) 0 ((Act.setPsup p fun u => { u with droop := true }).run s)
  · exact (writes_Act_event (by simp)).onlyRegs ((Act.setPsup p fun u => { u with droop := true }).run s)

/-- Settles O23: the clock commands set the source and the reason, then step 8 or the stopped islands touch neither; the link commands
change the list of lost and the list of cut ranks of the Prism die; the dies that miss the edge change one by one, and none changes
back. -/
theorem clocksAndLinks : Obligations.ClocksAndLinks := by
  unfold Obligations.ClocksAndLinks
  intro s d m
  exact ⟨clockReady_gives, clockTimeout_gives, clockLost_gives,
    fun hd hd4 hup hl => ⟨driveLinkLost_seen_gives hd hd4 hup hl, driveLinkLost_onset_gives hd hup hl⟩,
    fun hd _ => driveLinkResume_gives hd,
    slowEdgeLost_gives⟩

end Sys2Proof.Proofs

/-! Start, supply and reset: the supply monitor, power-on and power-on reset, the regulator sequencer, the ends of the holds, and the
parity scrubber (R58 to R68, R73, R77, R82 to R85, R94, R150, R151). First what the shared operations leave, then what each command
does where its condition holds. -/

namespace Sys2Proof.Machine

/-! ## What the shared operations leave -/

/-- A command whose operation is guarded twice, where both guards hold. -/
theorem Act.go_guarded {c : Prop} [Decidable c] {g : State → Prop} [∀ t, Decidable (g t)] {A : State → Act} {s : State} (hc : c)
    (hg : g s) : Act.go (Act.when c (Act.get fun t => Act.when (g t) (A t))) s = .next ((A s).run s) := by
  rw [Act.go_eq, Act.when_run, if_pos hc, Act.get_run, Act.when_run, if_pos hg]

/-- What touches no record of a drive die's supply leaves each as it is. -/
theorem Touches.supply {A : Act} {S : List Part} (h : Touches A S) (hS : Part.sup ∉ S) (s : State) (d : Nat) :
    (A.run s).supply d = s.supply d :=
  congrArg (fun m => Sparse.get (fun _ => ({} : Supply)) m d) (h.same s .sup hS)

/-- The record that was changed. -/
@[simp] theorem supply_setSup_same (d : Nat) (f : Supply → Supply) (s : State) :
    ((Act.setSup d f).run s).supply d = f (s.supply d) := by
  rw [supply_setSup, if_pos rfl]

@[simp] theorem supply_eventIrq (a i : Nat) (s : State) (d : Nat) : ((Act.eventIrq a i).run s).supply d = s.supply d := rfl

/-- A change of a drive die's supply record changes no register. -/
theorem onlyRegs_setSup (d : Nat) (f : Supply → Supply) (s : State) : OnlyRegs [] s ((Act.setSup d f).run s) :=
  fun _ _ => rfl

/-- An event that interrupts firmware is recorded as any other. -/
theorem eventIrq_logged (a i : Nat) (s : State) : Logged a i s ((Act.eventIrq a i).run s) := event_logged a i s

/-- The registers that admission may write, and with it whatever opens a channel: the events and counters of WAKE, and the record of
a counter that passes half range (R243, R605). -/
def AdmReg (a : Nat) : Prop :=
  a ∈ [WAKE.EVT 0, WAKE.CNT 0 9, WAKE.CNT 0 11] ∨ ∃ p, a = DEV.CNT_LAST p ∨ a = DEV.EVT p

/-- They are registers of DEV and WAKE, and none controls a block or reports its errors. -/
theorem AdmReg.bounds {a : Nat} (h : AdmReg a) : (aBlk a = 0 ∨ aBlk a = 0x71) ∧ aReg a < 0x1FFE := by
  rcases h with h | ⟨p, rfl | rfl⟩
  · have hw : ∀ b ∈ [WAKE.EVT 0, WAKE.CNT 0 9, WAKE.CNT 0 11], (aBlk b = 0 ∨ aBlk b = 0x71) ∧ aReg b < 0x1FFE := by decide
    exact hw a h
  · refine ⟨Or.inl (aBlk_ra (by decide) (by decide)), ?_⟩
    rw [DEV.CNT_LAST, aReg_ra (by decide)]
    decide
  · refine ⟨Or.inl (aBlk_ra (by decide) (by decide)), ?_⟩
    rw [DEV.EVT, aReg_ra (by decide)]
    decide

theorem admSettle_admReg : Writes Act.admSettle AdmReg :=
  writes_Act_admSettle (Or.inl (by simp)) (Or.inl (by simp)) (fun p => Or.inr ⟨p, Or.inl rfl⟩) (fun p => Or.inr ⟨p, Or.inr rfl⟩)
    (Or.inl (by simp))

theorem chSettleAll_admReg {d : Nat} {guarded : Bool} : Writes (Act.chSettleAll d guarded) AdmReg :=
  writes_Act_chSettleAll (Or.inl (by simp)) (Or.inl (by simp)) (fun p => Or.inr ⟨p, Or.inl rfl⟩) (fun p => Or.inr ⟨p, Or.inr rfl⟩)
    (Or.inl (by simp))

/-! ## The supply monitor (R58, R61, R94) -/

/-- The events of a drive die's supply are no registers of admission. -/
theorem supEvt_not_admReg (d : Nat) : ¬ AdmReg (SUP.EVT d) := by
  intro h
  have hb : aBlk (SUP.EVT d) = 0x01 := aBlk_ra (by decide) (by decide)
  have := h.bounds.1
  omega

theorem exec_sagWarning {s : State} {d v : Nat} (hd : d < s.y) (ha : (s.supply d).alive = true) (hs : (s.supply d).sag = false)
    (hv : v < s.fld (SUP.THRESH d) SUP.THRESH.SAG_TH * 10) :
    exec (.sagWarning d v) s =
      .next ((Act.eventIrq (SUP.EVT d) 0).run ((Act.setSup d fun u => { u with sag := true }).run s)) :=
  Act.go_guarded hd ⟨hd, ha, hs, hv⟩

theorem exec_sagEnd {s : State} {d v : Nat} (hd : d < s.y) (hs : (s.supply d).sag = true)
    (hv : (s.fld (SUP.THRESH d) SUP.THRESH.SAG_TH + 3) * 10 ≤ v) :
    exec (.sagEnd d v) s =
      .next (Act.admSettle.run ((Act.eventIrq (SUP.EVT d) 1).run ((Act.setSup d fun u => { u with sag := false }).run s))) :=
  Act.go_guarded hd ⟨hd, hs, hv⟩

theorem exec_ovWarn {s : State} {d v : Nat} (hd : d < s.y) (ha : (s.supply d).alive = true) (hw : (s.supply d).ovWarn = false)
    (hv : 6200 < v) :
    exec (.ovWarn d v) s = .next ((Act.event (SUP.EVT d) 2).run ((Act.setSup d fun u => { u with ovWarn := true }).run s)) :=
  Act.go_guarded hd ⟨hd, ha, hw, hv⟩

theorem exec_ovWarnEnd {s : State} {d v : Nat} (hd : d < s.y) (hw : (s.supply d).ovWarn = true) (hv : v ≤ 6100) :
    exec (.ovWarnEnd d v) s = .next ((Act.setSup d fun u => { u with ovWarn := false }).run s) :=
  Act.go_guarded hd ⟨hd, hw, hv⟩

theorem exec_ovOpen {s : State} {d v : Nat} (hd : d < s.y) (ha : (s.supply d).alive = true) (ho : (s.supply d).ovOpen = false)
    (hv : 6600 < v) :
    exec (.ovOpen d v) s = .next ((Act.chSettleAll d false).run
      ((Act.event (SUP.EVT d) 3).run ((Act.setSup d fun u => { u with ovOpen := true }).run s))) :=
  (Act.go_guarded hd ⟨hd, ha, ho, hv⟩).trans (by rw [Act.all_cons, Act.all_cons, Act.all_cons, Act.all_nil])

theorem exec_ovEnd {s : State} {d v : Nat} (hd : d < s.y) (ho : (s.supply d).ovOpen = true) (hv : v ≤ 6100) :
    exec (.ovEnd d v) s = .next ((Act.chSettleAll d true).run
      ((Act.event (SUP.EVT d) 4).run ((Act.setSup d fun u => { u with ovOpen := false }).run s))) :=
  (Act.go_guarded hd ⟨hd, ho, hv⟩).trans (by rw [Act.all_cons, Act.all_cons, Act.all_cons, Act.all_nil])

theorem exec_vbatSample {s : State} {d v : Nat} (hd : d < s.y) (ha : (s.supply d).alive = true) :
    exec (.vbatSample d v) s = .next ((Act.vbatIs d v).run s) :=
  Act.go_guarded hd ⟨hd, ha⟩

/-- An event of the supply stays recorded through what writes registers of admission alone. -/
theorem holds_supEvt_after {A : Act} (hA : Writes A AdmReg) (d i : Nat) (s : State) :
    Holds (A.run ((Act.event (SUP.EVT d) i).run s)) (SUP.EVT d) (eventWord s (SUP.EVT d) i) :=
  (hA.same _ _ (supEvt_not_admReg d)).trans (event_logged (SUP.EVT d) i s).1

/-- The end of the sag warning: the record, and the event through what admission decides then. -/
theorem sagEnd_gives {s : State} {d v : Nat} (hd : d < s.y) (hs : (s.supply d).sag = true)
    (hv : (s.fld (SUP.THRESH d) SUP.THRESH.SAG_TH + 3) * 10 ≤ v) :
    Gives (.sagEnd d v) s fun t =>
      t.supply d = { s.supply d with sag := false } ∧ Holds t (SUP.EVT d) (eventWord s (SUP.EVT d) 1) := by
  refine ⟨_, exec_sagEnd hd hs hv, ?_, ?_⟩
  · rw [(touches_Act_admSettle fun _ h => h).supply (by decide), supply_eventIrq, supply_setSup_same]
  · exact (admSettle_admReg.same _ _ (supEvt_not_admReg d)).trans (eventIrq_logged (SUP.EVT d) 1 _).1

/-- A change of a drive die's overvoltage condition: its channels look at it, and the supply keeps the record and the event. -/
theorem ovChange_leaves (s : State) (d i : Nat) (guarded : Bool) (f : Supply → Supply) :
    ((Act.chSettleAll d guarded).run ((Act.event (SUP.EVT d) i).run ((Act.setSup d f).run s))).supply d = f (s.supply d) ∧
      Holds ((Act.chSettleAll d guarded).run ((Act.event (SUP.EVT d) i).run ((Act.setSup d f).run s))) (SUP.EVT d)
        (eventWord s (SUP.EVT d) i) := by
  refine ⟨?_, holds_supEvt_after chSettleAll_admReg d i ((Act.setSup d f).run s)⟩
  rw [(touches_Act_chSettleAll fun _ h => h).supply (by decide), supply_event, supply_setSup_same]

end Sys2Proof.Machine

namespace Sys2Proof.Proofs

open Sys2Proof.Machine

/-- Settles O17: each command is a change of the die's supply record, with its event; what admission and the channels do then
reaches neither. -/
theorem supplyMonitorEvents : Obligations.SupplyMonitorEvents := by
  unfold Obligations.SupplyMonitorEvents
  intro s d v hd _ ha
  refine ⟨fun hs hv => ⟨_, exec_sagWarning hd ha hs hv, ?_, ?_, ?_⟩, sagEnd_gives hd,
    fun hw hv => ⟨_, exec_ovWarn hd ha hw hv, ?_, ?_, ?_⟩,
    fun hw hv => ⟨_, exec_ovWarnEnd hd hw hv, supply_setSup_same .., onlyRegs_setSup _ _ _⟩,
    fun ho hv => ⟨_, exec_ovOpen hd ha ho hv, ovChange_leaves s d 3 false _⟩,
    fun ho hv => ⟨_, exec_ovEnd hd ho hv, ovChange_leaves s d 4 true _⟩,
    ⟨_, exec_vbatSample hd ha, supply_setSup_same .., onlyRegs_setSup _ _ _⟩⟩
  · rw [supply_eventIrq, supply_setSup_same]
  · exact eventIrq_logged (SUP.EVT d) 0 ((Act.setSup d fun u => { u with sag := true }).run s)
  · exact (writes_Act_eventIrq (by simp)).onlyRegs ((Act.setSup d fun u => { u with sag := true }).run s)
  · rw [supply_event, supply_setSup_same]
  · exact event_logged (SUP.EVT d) 2 ((Act.setSup d fun u => { u with ovWarn := true }).run s)
  · exact (writes_Act_event (by simp)).onlyRegs ((Act.setSup d fun u => { u with ovWarn := true }).run s)

end Sys2Proof.Proofs

/-! ## Power-on and power-on reset (R58, R77, R84) -/

namespace Sys2Proof.Machine

/-- The start of a drive die's channel-control island, in the record of its supply. -/
def Supply.islandOn (u : Supply) : Supply :=
  if u.alive = true ∧ u.chanOn = false then { u with chanOn := true, fuses := true } else u

/-- The start of an island changes its own die's record alone. -/
theorem supply_islandOn (d : Nat) (s : State) (e : Nat) :
    ((Act.islandOn d).run s).supply e = if e = d then (s.supply d).islandOn else s.supply e := by
  unfold Act.islandOn
  rw [Act.get_run, Act.when_run]
  by_cases h : (s.supply d).alive = true ∧ (s.supply d).chanOn = false
  · rw [if_pos h]
    simp only [Act.all_cons, Act.all_nil]
    rw [(Touches.each fun c => Touches.get fun t =>
        Touches.when (touches_Act_chFollow (S := [.regs, .evtNo, .upsets, .irqs, .io]) (by decide))).supply (by decide),
      (touches_Act_chSettleAll fun _ h => h).supply (by decide), (touches_Act_modDrv fun _ h => h).supply (by decide),
      supply_setSup, Supply.islandOn, if_pos h]
  · rw [if_neg h, Supply.islandOn, if_neg h]
    split
    · rw [‹e = d›]
    · rfl

/-- The record of a drive die whose always-on island has started, VBAT at v. -/
def Supply.started (v : Nat) : Supply := { alive := true, vbat := sat 65535 v, vmin := sat 65535 v, vmax := sat 65535 v }

/-- The straps are sampled (R73). -/
def Act.strapPins (boot clk : Nat) : Act :=
  Act.upd fun s => { s with clk := { s.clk with bootPins := boot % 4, clkPins := clk % 4 } }

theorem exec_powerOn {s : State} {d v boot clk : Nat} (hd : d < s.y) (hb : boot < 4) (hc : clk < 4)
    (ha : (s.supply d).alive = false) (hv : 400 ≤ v) :
    exec (.powerOn d v boot clk) s = .next ((Act.when (d ≠ 0 ∧ (s.supply 0).chanOn = true) (Act.islandOn d)).run
      ((Act.when (d = 0) (Act.strapPins boot clk)).run ((Act.setSup d fun _ => Supply.started v).run s))) :=
  Act.go_guarded (c := d < s.y ∧ boot < 4 ∧ clk < 4) ⟨hd, hb, hc⟩ ⟨hd, ha, hv⟩

/-- POWER_ON: the island's record, and on drive die 0 the straps. -/
theorem powerOn_gives {s : State} {d v boot clk : Nat} (hd : d < s.y) (hb : boot < 4) (hc : clk < 4)
    (ha : (s.supply d).alive = false) (hv : 400 ≤ v) : Gives (.powerOn d v boot clk) s fun t =>
      (t.supply d).alive = true ∧ (t.supply d).vbat = sat 65535 v ∧ (t.supply d).vmin = sat 65535 v ∧
        (t.supply d).vmax = sat 65535 v ∧ (d = 0 → t.clk.bootPins = boot ∧ t.clk.clkPins = clk) := by
  refine ⟨_, exec_powerOn hd hb hc ha hv, ?_⟩
  by_cases h0 : d = 0
  · rw [Act.when_run, if_neg (fun h => h.1 h0), Act.when_run, if_pos h0]
    generalize hu : (Act.setSup d fun _ => Supply.started v).run s = u
    have hsup : ((Act.strapPins boot clk).run u).supply d = Supply.started v := by
      rw [← hu]
      exact supply_setSup_same d (fun _ => Supply.started v) s
    rw [hsup]
    exact ⟨rfl, rfl, rfl, rfl, fun _ => ⟨Nat.mod_eq_of_lt hb, Nat.mod_eq_of_lt hc⟩⟩
  · rw [Act.when_run, Act.when_run, if_neg h0]
    refine ⟨?_, ?_, ?_, ?_, fun h => absurd h h0⟩ <;> split <;> simp [supply_islandOn, Supply.islandOn, Supply.started]

/-- The defaults of a drive die: its supply's record. -/
theorem dieDefaults_supply (d : Nat) (s : State) : ((Act.dieDefaults d).run s).supply d = {} := by
  unfold Act.dieDefaults
  simp only [Act.all_cons, Act.all_nil]
  rw [supply_setSup_same]

/-- The defaults of a drive die: its registers; what follows their reset writes none. -/
theorem dieDefaults_reg (d : Nat) (s : State) {a : Nat} (ha : aDie a = 4 + d) : ((Act.dieDefaults d).run s).reg a = regReset a := by
  unfold Act.dieDefaults
  rw [Act.all_cons]
  refine (Writes.same (P := fun _ => False) (Writes.all_cons Writes.upd (Writes.all_cons (Writes.each fun c => writes_Act_setChan)
    (Writes.all_cons (Writes.each fun u => writes_Act_setXcvr) (Writes.all_cons writes_Act_setDrv
      (Writes.all_cons writes_Act_setSup Writes.all_nil))))) _ a id).trans ?_
  show Sparse.get regReset (Sparse.keep (fun a => aDie a != 4 + d) s.regs) a = regReset a
  rw [Sparse.get_keep, if_neg (by simp [ha])]

/-- The defaults of a drive die leave how far the package is asleep. -/
theorem dieDefaults_stage (d : Nat) (s : State) : ((Act.dieDefaults d).run s).io.stage = s.io.stage := by
  refine Act.all_keeps (fun t => t.io.stage) _ (fun a ha q => ?_) s
  simp only [List.mem_cons, List.not_mem_nil, or_false] at ha
  rcases ha with rfl | rfl | rfl | rfl | rfl | rfl
  case inr.inr.inl => exact Act.each_keeps (fun t => t.io.stage) _ _ (fun _ _ _ => rfl) q
  case inr.inr.inr.inl => exact Act.each_keeps (fun t => t.io.stage) _ _ (fun _ _ _ => rfl) q
  all_goals rfl

/-- The package after a power-on reset of drive die 0, before the die's own defaults (R84, R87). -/
def State.packageDefaults (s : State) : State :=
  let t := (Act.resetRegs fun a => a != RSTC.CAUSE 0 && a != RSTC.DETAIL 0).run ((Act.resetAll true).run s)
  (Act.each s.driveDies fun e => Act.setSup e fun u => { u with subst := false }).run
    { t with
      evtNo := Sparse.keep (fun k => k / 64 != RSTC.CAUSE 0) t.evtNo
      seq := {}
      start := {}
      prism := []
      clk := {}
      io := { t.io with stage := .awake, offAt := 0, wakeUp := false, jitter := none } }

theorem exec_powerOnReset {s : State} {d v : Nat} (hd : d < s.y) (ha : (s.supply d).alive = true) (hv : v < 400) :
    exec (.powerOnReset d v) s = .next ((Act.dieDefaults d).run (if d = 0 then s.packageDefaults else s)) := by
  refine (Act.go_guarded hd ⟨hd, ha, hv⟩).trans ?_
  by_cases h0 : d = 0
  · subst h0
    rfl
  · rw [if_neg h0, if_neg h0]

/-- A reset empties the tables and the firmware memory (R84; that this memory reads 0 then is log entry 6). -/
theorem resetAll_tbls_mem (cold : Bool) (s : State) : ((Act.resetAll cold).run s).tbls = [] ∧ ((Act.resetAll cold).run s).mem = [] := by
  have hd : ∀ (p : Part), p ∉ [Part.regs, .evtNo, .upsets, .irqs, .sup, .io] → ∀ q : State,
      Part.Same p q ((Act.drivesReset cold).run q) := fun p hp q => (touches_Act_drivesReset fun _ h => h).same q p hp
  unfold Act.resetAll
  simp only [Act.all_cons, Act.all_nil]
  refine ⟨Eq.trans (show _ = _ from hd .tbls (by decide) _) ?_, hd .mem (by decide) _⟩
  show Sparse.keep (fun _ => false) _ = []
  simp [Sparse.keep]

/-- The package's defaults. -/
theorem packageDefaults_parts (s : State) : s.packageDefaults.seq = {} ∧ s.packageDefaults.start = {} ∧ s.packageDefaults.clk = {} ∧
    s.packageDefaults.io.stage = .awake ∧ s.packageDefaults.tbls = [] ∧ s.packageDefaults.mem = [] := by
  obtain ⟨htbls, hmem⟩ := resetAll_tbls_mem true s
  have hs : ∀ (p : Part), p ≠ .sup → ∀ q : State,
      Part.Same p q ((Act.each s.driveDies fun e => Act.setSup e fun u => { u with subst := false }).run q) :=
    fun p hp q => (Touches.each fun e => touches_Act_setSup (S := [.sup]) fun _ h => h).same q p (by simpa using hp)
  exact ⟨hs .seq (by decide) _, hs .start (by decide) _, hs .clk (by decide) _, congrArg (fun m : Machine => m.stage) (hs .io (by decide) _),
    Eq.trans (hs .tbls (by decide) _) htbls, Eq.trans (hs .mem (by decide) _) hmem⟩

end Sys2Proof.Machine

namespace Sys2Proof.Proofs

open Sys2Proof.Machine

/-- Settles O18: the die's defaults are the last thing of a power-on reset, on every drive die; on drive die 0 they leave what the
package's own defaults have set before. -/
theorem powerOnAndPowerOnReset : Obligations.PowerOnAndPowerOnReset := by
  unfold Obligations.PowerOnAndPowerOnReset
  intro s d v boot clk hd _ hb hc
  refine ⟨powerOn_gives hd hb hc, fun ha hv => ⟨_, exec_powerOnReset hd ha hv, dieDefaults_supply d _,
    fun a ha => dieDefaults_reg d _ ha, fun h0 => ?_⟩⟩
  rw [if_pos h0]
  obtain ⟨hseq, hstart, hclk, hstage, htbls, hmem⟩ := packageDefaults_parts s
  have hsame : ∀ p ∉ [Part.regs, .evtNo, .onceRegs, .upsets, .posted, .compat, .sup, .nets, .io],
      Part.Same p s.packageDefaults ((Act.dieDefaults d).run s.packageDefaults) :=
    (touches_Act_dieDefaults fun _ h => h).same s.packageDefaults
  exact ⟨Eq.trans (hsame .seq (by decide)) hseq, Eq.trans (hsame .start (by decide)) hstart, Eq.trans (hsame .clk (by decide)) hclk,
    (dieDefaults_stage d _).trans hstage, Eq.trans (hsame .tbls (by decide)) htbls, Eq.trans (hsame .mem (by decide)) hmem⟩

end Sys2Proof.Proofs

/-! ## The regulator sequencer (R58, R63 to R68, R82) -/

namespace Sys2Proof.Machine

/-- Whether VBAT is good does not depend on the islands that start. -/
theorem islandOn_good (d : Nat) (s : State) (e : Nat) : (((Act.islandOn d).run s).supply e).good = (s.supply e).good := by
  rw [supply_islandOn]
  split
  · subst e
    unfold Supply.islandOn
    split <;> rfl
  · rfl

/-- An attempt begins at the CORE stage, its number that of the failures before it. -/
theorem attempt_seq (s : State) : (Act.attempt.run s).seq.stage = .core ∧ (Act.attempt.run s).seq.enCore = true ∧
    (Act.attempt.run s).seq.attempt = s.seq.failed % 4 := by
  have h : ((Act.each s.driveDies fun d => Act.islandOn d).run s).seq = s.seq :=
    (Touches.each fun d => touches_Act_islandOn fun _ h => h).same s .seq (by decide)
  exact ⟨rfl, rfl, congrArg (fun q : Sequencer => q.failed % 4) h⟩

/-- An attempt leaves whether VBAT is good. -/
theorem attempt_good (s : State) : ((Act.attempt.run s).supply 0).good = (s.supply 0).good :=
  Act.each_keeps (fun t => (t.supply 0).good) s.driveDies Act.islandOn (fun d _ t => islandOn_good d t 0) s

/-- The start's going on leaves the sequencer as it is. -/
theorem resume_seq (s : State) : (Act.resume.run s).seq = s.seq := (touches_Act_resume fun _ h => h).same s .seq (by decide)

theorem exec_vbatResetRelease {s : State} {v : Nat} (ha : (s.supply 0).alive = true) (hst : s.seq.stage = .off)
    (hio : s.io.stage = .awake) (hv : (s.fld (SUP.THRESH 0) SUP.THRESH.RESET_TH + 3) * 10 ≤ v) :
    exec (.vbatResetRelease v) s = .next (Act.attempt.run ((Act.setSup 0 fun u => { u with good := true }).run s)) := by
  show Act.go (vbatResetRelease v) s = _
  rw [Act.go_eq, vbatResetRelease, Act.get_run, Act.when_run, if_pos ⟨ha, hv⟩, Act.seq_run, Act.when_run, if_pos ⟨hst, hio⟩]

/-- The last stage's success: t0, from which the start goes on (R65). -/
def Act.sequenced (s : State) : Act := Act.seq (Act.setSeq fun q => { q with stage := .ready, t0 := s.edges }) Act.resume

theorem sequenced_seq (s q : State) : ((Act.sequenced s).run q).seq = { q.seq with stage := .ready, t0 := s.edges } :=
  resume_seq _

/-- STAGE_SUCCESS by the stage that is pending. -/
theorem exec_stageSuccess (s : State) (n : Nat) : exec (.stageSuccess n) s = .next (
    match s.seq.stage with
    | .core => (Act.stageOn .io).run ((Act.setSeq fun q => { q with tCore := sat 254 n }).run s)
    | .io => (if s.fuse.memUsed then Act.stageOn .mem else Act.sequenced s).run ((Act.setSeq fun q => { q with tIo := sat 254 n }).run s)
    | .mem => (Act.sequenced s).run ((Act.setSeq fun q => { q with tMem := sat 254 n }).run s)
    | _ => s) := by
  show Act.go (stageSuccess n) s = _
  rw [Act.go_eq, stageSuccess, Act.get_run]
  cases s.seq.stage <;> rfl

theorem stageSuccess_core {s : State} {n : Nat} (h : s.seq.stage = .core) : Gives (.stageSuccess n) s fun t =>
    t.seq.stage = .io ∧ t.seq.enIo = true ∧ t.seq.tCore = sat 254 n := by
  refine ⟨_, exec_stageSuccess s n, ?_⟩
  rw [h]
  exact ⟨rfl, Bool.or_true _, rfl⟩

theorem stageSuccess_io_mem {s : State} {n : Nat} (h : s.seq.stage = .io) (hm : s.fuse.memUsed = true) :
    Gives (.stageSuccess n) s fun t => t.seq.stage = .mem ∧ t.seq.enMem = true ∧ t.seq.tIo = sat 254 n := by
  refine ⟨_, exec_stageSuccess s n, ?_⟩
  rw [h]
  dsimp only
  rw [if_pos hm]
  exact ⟨rfl, Bool.or_true _, rfl⟩

theorem stageSuccess_io_last {s : State} {n : Nat} (h : s.seq.stage = .io) (hm : s.fuse.memUsed = false) :
    Gives (.stageSuccess n) s fun t => t.seq.stage = .ready ∧ t.seq.tIo = sat 254 n := by
  refine ⟨_, exec_stageSuccess s n, ?_⟩
  rw [h]
  dsimp only
  rw [if_neg (by simp [hm]), sequenced_seq]
  exact ⟨rfl, rfl⟩

theorem stageSuccess_mem {s : State} {n : Nat} (h : s.seq.stage = .mem) : Gives (.stageSuccess n) s fun t =>
    t.seq.stage = .ready ∧ t.seq.tMem = sat 254 n := by
  refine ⟨_, exec_stageSuccess s n, ?_⟩
  rw [h]
  dsimp only
  rw [sequenced_seq]
  exact ⟨rfl, rfl⟩

theorem exec_regulatorRetry {s : State} (h : s.seq.stage = .between) (ht : (s.seq.lastFail.all fun e => s.pastMs e 100) = true) :
    exec .regulatorRetry s = .next (Act.attempt.run s) := by
  show Act.go regulatorRetry s = _
  rw [Act.go_eq, regulatorRetry, Act.get_run, Act.when_run, if_pos ⟨h, ht⟩]

/-! ### Failures (R66, R67) -/

/-- The count of the series' failures with one now: a series goes on where its last failure is less than 10 s ago (R66). -/
def State.failures (s : State) : Nat :=
  if s.seq.lastFail.any fun e => decide (s.edges - e < 327680) then s.seq.failed + 1 else 1

/-- A regulator failure in state s has left state t: every enable low, the failure counted, the package reset with bit 2. -/
def RegFailed (s t : State) : Prop :=
  t.seq.stage = (if 4 ≤ s.failures then .latched else .between) ∧ t.seq.enCore = false ∧ t.seq.enIo = false ∧ t.seq.enMem = false ∧
    t.seq.failed = s.failures ∧ t.seq.lastFail = some s.edges ∧ ResetBy 2 t

/-- Drive die d in Pinhole mode, its channel-control island running (R66). -/
def Act.pinAlone (d : Nat) : Act := Act.seq (Act.islandOn d) (Act.pinEnter d)

theorem regFail_run (k kind : Nat) (s : State) : (Act.regFail k kind).run s =
    (Act.when (4 ≤ s.failures) (Act.each s.driveDies Act.pinAlone)).run
      ((Act.packageReset true 2
        [(RSTC.DETAIL.REG_STAGE, k), (RSTC.DETAIL.REG_KIND, kind), (RSTC.DETAIL.REG_ATTEMPTS, min 3 s.failures)]).run
        ((Act.setSeq fun q => { q with failed := s.failures, lastFail := some s.edges }).run
          ((Act.enablesOff (if 4 ≤ s.failures then .latched else .between)).run s))) := by
  unfold Act.regFail
  rw [Act.get_run, Act.all_cons, Act.all_cons, Act.all_cons, Act.all_cons, Act.all_nil]
  unfold State.failures
  rfl

/-- The parts that drive dies touch as they enter Pinhole mode. -/
theorem touches_pinAlone {d : Nat} : Touches (Act.pinAlone d) [.regs, .evtNo, .upsets, .irqs, .sup, .nets, .io] :=
  Touches.seq (touches_Act_islandOn (by decide)) (touches_Act_pinEnter (by decide))

/-- The registers that drive dies write as they enter Pinhole mode. -/
theorem writes_pinAlone {d : Nat} : Writes (Act.pinAlone d) fun a => afterReset a ∧ a ≠ RSTC.CAUSE 0 := by
  have hlisted : ∀ a ∈ [WAKE.EVT 0, WAKE.CNT 0 9, WAKE.CNT 0 11, PAIR.EVT 0], afterReset a ∧ a ≠ RSTC.CAUSE 0 := by
    have hmem : ∀ a ∈ [WAKE.EVT 0, WAKE.CNT 0 9, WAKE.CNT 0 11, PAIR.EVT 0],
        a ∈ [RSTC.CAUSE 0, RSTC.DETAIL 0, RSTC.STRAP 0, WAKE.CAUSE 0, KEYS.EVT 0, WAKE.EVT 0, WAKE.CNT 0 9, WAKE.CNT 0 11, PAIR.EVT 0] ∧
          a ≠ RSTC.CAUSE 0 := by decide
    exact fun a ha => ⟨Or.inr (Or.inl (hmem a ha).1), (hmem a ha).2⟩
  have hdev : ∀ p r, 0 < r → r < 8192 → ra p 0 r ≠ RSTC.CAUSE 0 := fun p r h0 h1 => by unfold RSTC.CAUSE ra; omega
  have hlast : ∀ p, afterReset (DEV.CNT_LAST p) ∧ DEV.CNT_LAST p ≠ RSTC.CAUSE 0 := fun p =>
    ⟨Or.inr (Or.inr (Or.inl ⟨p, Or.inr rfl⟩)), hdev p 6 (by decide) (by decide)⟩
  have hevt : ∀ p, afterReset (DEV.EVT p) ∧ DEV.EVT p ≠ RSTC.CAUSE 0 := fun p =>
    ⟨Or.inr (Or.inr (Or.inl ⟨p, Or.inl rfl⟩)), hdev p 4 (by decide) (by decide)⟩
  have hpin : afterReset (PIN.EVT d) ∧ PIN.EVT d ≠ RSTC.CAUSE 0 := by
    have hdie : aDie (PIN.EVT d) = 4 + d := aDie_ra (by decide) (by decide)
    refine ⟨Or.inl (by omega), fun h => ?_⟩
    rw [h, show aDie (RSTC.CAUSE 0) = 0 by decide] at hdie
    omega
  exact Writes.seq
    (writes_Act_islandOn (hlisted _ (by simp)) (hlisted _ (by simp)) hlast hevt (hlisted _ (by simp)))
    (writes_Act_pinEnter (hlisted _ (by simp)) (hlisted _ (by simp)) hlast hevt (hlisted _ (by simp)) (hlisted _ (by simp)) hpin)

/-- A reset stands through what touches the drive dies and writes only what follows a reset. -/
theorem ResetBy.kept {b : Nat} {t : State} {A : Act} (h : ResetBy b t)
    (hT : Touches A [.regs, .evtNo, .upsets, .irqs, .sup, .nets, .io]) (hW : Writes A fun a => afterReset a ∧ a ≠ RSTC.CAUSE 0) :
    ResetBy b (A.run t) := by
  obtain ⟨hbit, hl⟩ := h
  have hsw : (A.run t).sw = t.sw := hT.same t .sw (by decide)
  have hld : (A.run t).ld = t.ld := hT.same t .ld (by decide)
  have hstart : (A.run t).start = t.start := hT.same t .start (by decide)
  refine ⟨by rw [hW.same t _ (fun k => k.2 rfl)]; exact hbit, ?_⟩
  exact {
    tbls := Eq.trans (hT.same t .tbls (by decide)) hl.tbls
    mem := Eq.trans (hT.same t .mem (by decide)) hl.mem
    lockedRegs := Eq.trans (hT.same t .lockedRegs (by decide)) hl.lockedRegs
    mismatches := Eq.trans (hT.same t .mismatches (by decide)) hl.mismatches
    posted := Eq.trans (hT.same t .posted (by decide)) hl.posted
    compat := Eq.trans (hT.same t .compat (by decide)) hl.compat
    pends := Eq.trans (hT.same t .pends (by decide)) hl.pends
    eyeReset := Eq.trans (hT.same t .eyeReset (by decide)) hl.eyeReset
    ld := by rw [hld, hstart]; exact hl.ld
    sw := by rw [hsw]; exact hl.sw
    gw := Eq.trans (hT.same t .gw (by decide)) hl.gw
    mon := Eq.trans (hT.same t .mon (by decide)) hl.mon
    plx := Eq.trans (hT.same t .plx (by decide)) hl.plx
    cpu := Eq.trans (hT.same t .cpu (by decide)) hl.cpu
    regs := fun a h4 ha hp hf => by
      refine (hW.same t a ?_).trans (hl.regs a h4 ha hp hf)
      rintro ⟨h | h | ⟨p, h | h⟩ | ⟨p, f, h | h⟩, -⟩
      · omega
      · exact ha h
      · exact (hp p).1 h
      · exact (hp p).2 h
      · exact (hf p f).1 h
      · exact (hf p f).2 h }

/-- A package reset leaves the sequencer as it is. -/
theorem packageReset_seq (cold : Bool) (b : Nat) (l : List (Fld × Nat)) (s : State) :
    ((Act.packageReset cold b l).run s).seq = s.seq :=
  (touches_Act_packageReset fun _ h => h).same s .seq (by decide)

/-- A regulator failure, whatever names it. -/
theorem regFail_fails (k kind : Nat) (s : State) : RegFailed s ((Act.regFail k kind).run s) := by
  rw [regFail_run]
  generalize hu : (Act.setSeq fun q => { q with failed := s.failures, lastFail := some s.edges }).run
    ((Act.enablesOff (if 4 ≤ s.failures then .latched else .between)).run s) = u
  generalize hl : [(RSTC.DETAIL.REG_STAGE, k), (RSTC.DETAIL.REG_KIND, kind), (RSTC.DETAIL.REG_ATTEMPTS, min 3 s.failures)] = l
  have htouch : Touches (Act.when (4 ≤ s.failures) (Act.each s.driveDies Act.pinAlone))
      [.regs, .evtNo, .upsets, .irqs, .sup, .nets, .io] := Touches.when (Touches.each fun d => touches_pinAlone)
  have hwrite : Writes (Act.when (4 ≤ s.failures) (Act.each s.driveDies Act.pinAlone)) fun a => afterReset a ∧ a ≠ RSTC.CAUSE 0 :=
    Writes.when (Writes.each fun d => writes_pinAlone)
  have hreset : ResetBy 2 _ := (packageReset_leaves true 2 (by decide) l u).kept htouch hwrite
  have hseq : ((Act.when (4 ≤ s.failures) (Act.each s.driveDies Act.pinAlone)).run ((Act.packageReset true 2 l).run u)).seq = u.seq :=
    Eq.trans (htouch.same _ .seq (by decide)) (packageReset_seq true 2 l u)
  unfold RegFailed
  rw [hseq, ← hu]
  rw [← hu] at hreset
  exact ⟨rfl, rfl, rfl, rfl, rfl, rfl, hreset⟩

/-- No stage but the three is pending. -/
theorem Stage.pending_lt (q : Stage) : q.pending < 4 := by cases q <;> decide

theorem exec_stageFail {s : State} {k : Nat} (h1 : 1 ≤ k) (hk : k ≤ s.seq.stage.pending) :
    exec (.stageFail k) s = .next ((Act.regFail k 1).run s) :=
  Act.go_guarded (hk.trans_lt s.seq.stage.pending_lt) ⟨h1, hk⟩

theorem exec_pgLost {s : State} {k : Nat} (h : s.seq.stage = .ready) (h1 : 1 ≤ k) (hk : k ≤ (if s.fuse.memUsed then 3 else 2)) :
    exec (.pgLost k) s = .next ((Act.regFail k 2).run ((Act.event (SUP.EVT 0) 5).run s)) := by
  have h4 : k < 4 := by split at hk <;> omega
  exact Act.go_guarded h4 ⟨h, h1, hk⟩

theorem exec_vcoreRegulatorFail {s : State} {p v : Nat} (h : s.seq.stage = .ready) (hp : p < s.x) (hup : s.prismUp = true)
    (hv : v < 580) : exec (.vcoreRegulatorFail p v) s = .next ((Act.regFail 0 3).run s) :=
  Act.go_guarded hp ⟨hp, hup, h, hv⟩

end Sys2Proof.Machine

namespace Sys2Proof.Proofs

open Sys2Proof.Machine

/-- Settles O19: the stages follow the sequencer's own record; a failure of any kind is one operation, and the drive dies that enter
Pinhole mode after the fourth keep what the reset has left. -/
theorem regulatorSequence : Obligations.RegulatorSequence := by
  unfold Obligations.RegulatorSequence
  intro s v n k p
  refine ⟨fun ha hst hio hv => ⟨_, exec_vbatResetRelease ha hst hio hv, ?_⟩, stageSuccess_core, stageSuccess_io_mem, stageSuccess_io_last,
    stageSuccess_mem, fun h ht => ⟨_, exec_regulatorRetry h ht, ?_⟩,
    fun h1 hk => ⟨_, exec_stageFail h1 hk, regFail_fails k 1 s⟩,
    fun h h1 hk => ⟨_, exec_pgLost h h1 hk, regFail_fails k 2 ((Act.event (SUP.EVT 0) 5).run s)⟩,
    fun h hp _ hup hv => ⟨_, exec_vcoreRegulatorFail h hp hup hv, regFail_fails 0 3 s⟩⟩
  · obtain ⟨hstage, hen, hatt⟩ := attempt_seq ((Act.setSup 0 fun u => { u with good := true }).run s)
    refine ⟨hstage, hen, hatt, ?_⟩
    rw [attempt_good, supply_setSup_same]
  · obtain ⟨hstage, hen, -⟩ := attempt_seq s
    exact ⟨hstage, hen⟩

end Sys2Proof.Proofs

/-! ## The ends of the holds (R73, R83, R85) -/

namespace Sys2Proof.Machine

/-- What step 6 reads of the start's holds and of the straps, and keeps. -/
def State.holdsAndStraps (s : State) : (Bool × Bool) × Nat × Nat := ((s.start.pinLow, s.start.thermHold), s.clk.bootPins, s.clk.clkPins)

/-- What touches neither the start nor the clocks keeps the holds and the straps. -/
theorem Touches.holdsAndStraps {A : Act} {S : List Part} (h : Touches A S) (h1 : Part.start ∉ S) (h2 : Part.clk ∉ S) (s : State) :
    (A.run s).holdsAndStraps = s.holdsAndStraps := by
  have hstart : (A.run s).start = s.start := h.same s .start h1
  have hclk : (A.run s).clk = s.clk := h.same s .clk h2
  rw [State.holdsAndStraps, hstart, hclk]
  rfl

/-- Step 8 keeps the holds and the straps. -/
theorem stepEight_holdsAndStraps (s : State) : (Act.stepEight.run s).holdsAndStraps = s.holdsAndStraps := by
  unfold Act.stepEight
  rw [Act.get_run]
  simp only [Act.all_cons, Act.all_nil]
  rw [(Touches.each fun p => touches_Act_freeBytes (S := [.sec, .freeCount]) (by decide) fun m =>
    touches_Act_modKstore (by decide)).holdsAndStraps (by decide) (by decide)]
  rfl

/-- Internal-only mode keeps the holds and the straps. -/
theorem internalOnly_holdsAndStraps (n : Nat) (s : State) : ((Act.internalOnly n).run s).holdsAndStraps = s.holdsAndStraps := rfl

/-- Step 7 with some holds and straps. -/
def State.AtSeven (s : State) (h : (Bool × Bool) × Nat × Nat) : Prop := s.start.step = 7 ∧ s.holdsAndStraps = h

/-- What touches neither the start nor the clocks stays in step 7. -/
theorem State.AtSeven.kept {A : Act} {S : List Part} {s : State} {h : (Bool × Bool) × Nat × Nat} (hs : s.AtSeven h) (hA : Touches A S)
    (hS : Part.start ∉ S ∧ Part.clk ∉ S) : (A.run s).AtSeven h := by
  have hstart : (A.run s).start = s.start := hA.same s .start hS.1
  exact ⟨by rw [hstart]; exact hs.1, (hA.holdsAndStraps hS.1 hS.2 s).trans hs.2⟩

/-- Step 7 is followed by step 8 at once where the clock pins choose internal-only mode; the holds and the straps stay. -/
theorem State.AtSeven.internal {s : State} {h : (Bool × Bool) × Nat × Nat} (hs : s.AtSeven h) (c n : Nat) :
    ((Act.when (2 ≤ c) (Act.seq (Act.internalOnly n) Act.stepEight)).run s).start.step = (if 2 ≤ c then 8 else 7) ∧
      ((Act.when (2 ≤ c) (Act.seq (Act.internalOnly n) Act.stepEight)).run s).holdsAndStraps = h := by
  rw [Act.when_run]
  by_cases hc : 2 ≤ c
  · rw [if_pos hc, if_pos hc, Act.seq_run, stepEight_holdsAndStraps, internalOnly_holdsAndStraps]
    exact ⟨stepEight_step _, hs.2⟩
  · rw [if_neg hc, if_neg hc]
    exact hs

/-- Step 6 is followed by step 7, or by step 8; the holds and the straps stay. -/
theorem stepSix_start (s : State) : (Act.stepSix.run s).start.step = (if 2 ≤ s.clk.clkPins then 8 else 7) ∧
    (Act.stepSix.run s).holdsAndStraps = s.holdsAndStraps := by
  have h0 : ((Act.setStart fun u => { u with step := 7, heartbeat := true }).run s).AtSeven s.holdsAndStraps := ⟨rfl, rfl⟩
  unfold Act.stepSix
  rw [Act.get_run]
  simp only [Act.all_cons, Act.all_nil]
  refine State.AtSeven.internal ?_ _ _
  refine State.AtSeven.kept (S := [.regs, .upsets, .io]) ?_
    (Touches.when (Touches.seq (Touches.setReg _ (by decide)) (touches_Act_updIo (by decide)))) (by decide)
  refine State.AtSeven.kept ?_ (touches_Act_lidSample fun _ h => h) (by decide)
  refine State.AtSeven.kept ?_ (touches_Act_fuseTrims fun _ h => h) (by decide)
  refine State.AtSeven.kept (S := [.io]) ?_ (Touches.each fun d => Touches.when (touches_Act_modDrv (by decide))) (by decide)
  refine State.AtSeven.kept (S := [.sw]) ?_ (Touches.each fun p => touches_Act_setFabOff (by decide)) (by decide)
  exact h0.kept (touches_Act_setFlds fun _ h => h) (by decide)

/-- The start's going on keeps the holds and the straps. -/
theorem resume_holdsAndStraps (s : State) : (Act.resume.run s).holdsAndStraps = s.holdsAndStraps := by
  unfold Act.resume
  rw [Act.get_run, Act.when_run]
  split
  · exact (stepSix_start s).2
  · rfl

/-- Where nothing holds it, the start goes on from step 6. -/
theorem resume_step {s : State} (hst : s.seq.stage = .ready) (h0 : s.start.step = 0) (hpin : s.start.pinLow = false)
    (htherm : s.start.thermHold = false) (hio : s.io.stage = .awake) :
    (Act.resume.run s).start.step = if 2 ≤ s.clk.clkPins then 8 else 7 := by
  unfold Act.resume
  rw [Act.get_run, Act.when_run, if_pos ⟨hst, h0, hpin, htherm, by rw [hio]; decide⟩]
  exact (stepSix_start s).1

/-- The package once RESET_N is high again, its straps sampled. -/
def State.pinReleased (s : State) (boot clk : Nat) : State :=
  (Act.strapPins boot clk).run ((Act.setStart fun u => { u with pinLow := false }).run s)

theorem exec_resetNRelease {s : State} {boot clk : Nat} (hb : boot < 4) (hc : clk < 4) (hpin : s.start.pinLow = true) :
    exec (.resetNRelease boot clk) s =
      .next ((if s.seq.stage = .off ∧ s.io.stage = .awake ∧ (s.supply 0).good = true then Act.attempt else Act.resume).run
        (s.pinReleased boot clk)) :=
  Act.go_guarded (c := boot < 4 ∧ clk < 4) ⟨hb, hc⟩ hpin

theorem exec_thermalHoldEnd {s : State} (h : s.start.thermHold = true) :
    exec .thermalHoldEnd s = .next (Act.resume.run ((Act.setStart fun u => { u with thermHold := false }).run s)) := by
  show Act.go thermalHoldEnd s = _
  rw [Act.go_eq, thermalHoldEnd, Act.get_run, Act.when_run, if_pos h]
  rfl

/-- RESET_N_RELEASE: the hold has ended and the straps are sampled, whether an attempt begins or the start goes on. -/
theorem resetNRelease_gives {s : State} {boot clk : Nat} (hb : boot < 4) (hc : clk < 4) (hpin : s.start.pinLow = true) :
    Gives (.resetNRelease boot clk) s fun t => t.start.pinLow = false ∧ t.clk.bootPins = boot ∧ t.clk.clkPins = clk ∧
      (s.seq.stage = .ready → s.start.step = 0 → s.start.thermHold = false → s.io.stage = .awake →
        t.start.step = (if 2 ≤ clk then 8 else 7)) := by
  refine ⟨_, exec_resetNRelease hb hc hpin, ?_⟩
  generalize ht : (if s.seq.stage = .off ∧ s.io.stage = .awake ∧ (s.supply 0).good = true then Act.attempt else Act.resume).run
    (s.pinReleased boot clk) = t
  have hkept : t.holdsAndStraps = (s.pinReleased boot clk).holdsAndStraps := by
    rw [← ht]
    split
    · exact (touches_Act_attempt fun _ h => h).holdsAndStraps (by decide) (by decide) _
    · exact resume_holdsAndStraps _
  have hpins : (s.pinReleased boot clk).holdsAndStraps = ((false, s.start.thermHold), boot % 4, clk % 4) := rfl
  rw [hpins, Nat.mod_eq_of_lt hb, Nat.mod_eq_of_lt hc] at hkept
  simp only [State.holdsAndStraps, Prod.mk.injEq] at hkept
  obtain ⟨⟨hlow, -⟩, hboot, hclk⟩ := hkept
  refine ⟨hlow, hboot, hclk, fun hst h0 htherm hio => ?_⟩
  rw [← ht, if_neg (by rw [hst]; simp)]
  refine (resume_step (s := s.pinReleased boot clk) hst h0 rfl htherm hio).trans ?_
  rw [show (s.pinReleased boot clk).clk.clkPins = clk from Nat.mod_eq_of_lt hc]

/-- THERMAL_HOLD_END: the hold has ended, and the start goes on where nothing else holds it. -/
theorem thermalHoldEnd_gives {s : State} (h : s.start.thermHold = true) : Gives .thermalHoldEnd s fun t =>
    t.start.thermHold = false ∧ (s.seq.stage = .ready → s.start.step = 0 → s.start.pinLow = false → s.io.stage = .awake →
      t.start.step = (if 2 ≤ s.clk.clkPins then 8 else 7)) := by
  refine ⟨_, exec_thermalHoldEnd h, ?_, fun hst h0 hpin hio => resume_step hst h0 hpin rfl hio⟩
  exact congrArg (fun x : (Bool × Bool) × Nat × Nat => x.1.2) (resume_holdsAndStraps _)

end Sys2Proof.Machine

namespace Sys2Proof.Proofs

open Sys2Proof.Machine

/-- Settles O21: each end clears its own hold, and what goes on then, an attempt or the start, changes neither hold nor the straps. -/
theorem holdsEnd : Obligations.HoldsEnd := by
  unfold Obligations.HoldsEnd
  intro s boot clk hb hc
  exact ⟨resetNRelease_gives hb hc, thermalHoldEnd_gives⟩

end Sys2Proof.Proofs

/-! ## The parity scrubber (R82, R150, R151)

A mismatch is counted once for each upset. That disabling the block first does not count it rests on this: whatever a block does on
its way into the disabled safe state only writes registers, which ends an upset and counts none. -/

namespace Sys2Proof.Machine

/-- Has the upset of register a been counted? -/
def State.upsetCounted (s : State) (a : Nat) : Bool := (Sparse.get (fun _ => ({} : Upset)) s.upsets a).counted

/-- An action counts no upset. -/
structure CountsNone (A : Act) : Prop where
  keeps : ∀ s a, s.upsetCounted a = false → (A.run s).upsetCounted a = false

/-- What does not touch the upsets counts none. -/
theorem Touches.countsNone {A : Act} {S : List Part} (h : Touches A S) (hS : Part.upsets ∉ S) : CountsNone A :=
  ⟨fun s a ha => by
    have e : (A.run s).upsets = s.upsets := h.same s .upsets hS
    rw [State.upsetCounted, e]
    exact ha⟩

namespace CountsNone

theorem skip : CountsNone Act.skip := ⟨fun _ _ h => h⟩

theorem seq {A B : Act} (h : CountsNone A) (k : CountsNone B) : CountsNone (Act.seq A B) :=
  ⟨fun s a ha => k.keeps _ a (h.keeps s a ha)⟩

theorem each {α : Type} {l : List α} {g : α → Act} (h : ∀ x, CountsNone (g x)) : CountsNone (Act.each l g) := by
  induction l with
  | nil => exact skip
  | cons x l ih => exact seq (h x) ih

theorem all_cons {A : Act} {l : List Act} (h : CountsNone A) (k : CountsNone (Act.all l)) : CountsNone (Act.all (A :: l)) := seq h k

theorem all_nil : CountsNone (Act.all []) := skip

theorem get {k : State → Act} (h : ∀ s, CountsNone (k s)) : CountsNone (Act.get k) := ⟨fun s a ha => (h s).keeps s a ha⟩

theorem ite {c : Prop} [Decidable c] {A B : Act} (h : CountsNone A) (k : CountsNone B) : CountsNone (if c then A else B) := by
  split
  · exact h
  · exact k

theorem when {c : Prop} [Decidable c] {A : Act} (h : CountsNone A) : CountsNone (Act.when c A) := ite h skip

theorem opt {α : Type} {o : Option α} {f : α → Act} (h : ∀ x, CountsNone (f x)) : CountsNone (Act.opt o f) := by
  cases o with
  | none => exact skip
  | some x => exact h x

/-- A write of a register ends its upset (R150). -/
theorem setReg {a : Nat} {v : Word} : CountsNone (Act.setReg a v) := by
  constructor
  intro s b hb
  rw [State.upsetCounted, Act_setReg_upsets, Sparse.get_put]
  split
  · rfl
  · exact hb

/-! ### Registers, events and counters -/

theorem setFld {a : Nat} {f : Fld} {n : Nat} : CountsNone (Act.setFld a f n) := get fun _ => setReg

theorem setFlds {a : Nat} {l : List (Fld × Nat)} : CountsNone (Act.setFlds a l) := get fun _ => setReg

theorem noteEvt {a i n : Nat} : CountsNone (Act.noteEvt a i n) := (touches_Act_noteEvt fun _ h => h).countsNone (by decide)

theorem event {a i : Nat} : CountsNone (Act.event a i) :=
  get fun _ => all_cons setReg (all_cons noteEvt (all_cons noteEvt all_nil))

theorem irqBlk {d b : Nat} : CountsNone (Act.irqBlk d b) := (touches_Act_irqBlk fun _ h => h).countsNone (by decide)

theorem eventIrq {a i : Nat} : CountsNone (Act.eventIrq a i) := seq event irqBlk

theorem count {a : Nat} : CountsNone (Act.count a) :=
  get fun _ => seq setReg (when (get fun _ => all_cons event (all_cons setReg (all_cons irqBlk all_nil))))

theorem blkErr {a i : Nat} {ag : Agent} : CountsNone (Act.blkErr a i ag) := all_cons event (all_cons setFlds all_nil)

/-! ### Admission and the channels -/

theorem updIo {f : Machine → Machine} : CountsNone (Act.updIo f) := (touches_Act_updIo fun _ h => h).countsNone (by decide)

theorem modChan {k : Nat} {f : Channel → Channel} : CountsNone (Act.modChan k f) :=
  (touches_Act_modChan fun _ h => h).countsNone (by decide)

theorem admGrant {chan : Option Nat} {claim : Nat} : CountsNone (Act.admGrant chan claim) := by
  refine get fun s => all_cons count (all_cons (when (seq count eventIrq)) (all_cons ?enter (all_cons ?hold all_nil)))
  case enter => exact (touches_Act_admEnter fun _ h => h).countsNone (by decide)
  case hold =>
    cases chan with
    | none => exact updIo
    | some k => exact modChan

theorem admDecide (n : Nat) : CountsNone (Act.admDecide n) := by
  induction n with
  | zero => exact skip
  | succ n ih =>
    refine get fun s => ?_
    split
    · exact skip
    · exact ite (all_cons updIo (all_cons admGrant (all_cons ih all_nil))) skip

theorem admSettle : CountsNone Act.admSettle := get fun _ => admDecide _

theorem admWithdraw {chan : Option Nat} : CountsNone (Act.admWithdraw chan) := get fun _ => when (seq updIo admSettle)

theorem chOff {d c : Nat} {st : ChSt} : CountsNone (Act.chOff d c st) := seq modChan admWithdraw

theorem chSettle {d c : Nat} {guarded : Bool} : CountsNone (Act.chSettle d c guarded) :=
  get fun _ => seq modChan (ite (when chOff) (when ((touches_Act_chApply fun _ h => h).countsNone (by decide))))

theorem chSettleAll {d : Nat} {guarded : Bool} : CountsNone (Act.chSettleAll d guarded) := each fun _ => chSettle

/-! ### What each block does on its way into the disabled safe state -/

theorem modEth {k : Nat} {f : EthFacet → EthFacet} : CountsNone (Act.modEth k f) :=
  (touches_Act_modEth fun _ h => h).countsNone (by decide)

theorem rawIs {p f : Nat} {on : Bool} : CountsNone (Act.rawIs p f on) := get fun _ => when (seq modEth (when count))

theorem linkDown {p f : Nat} {lf rf : Bool} : CountsNone (Act.linkDown p f lf rf) :=
  get fun _ => all_cons rawIs (all_cons modEth (all_cons (when (seq event count)) all_nil))

theorem modCan {k : Nat} {f : CanCtl → CanCtl} : CountsNone (Act.modCan k f) :=
  (touches_Act_modCan fun _ h => h).countsNone (by decide)

theorem checkShared {p : Nat} : CountsNone (Act.checkShared p) :=
  get fun _ => all_cons (when event) (all_cons ((touches_Act_setLow fun _ h => h).countsNone (by decide))
    (all_cons ((touches_Act_spillResume fun _ h => h).countsNone (by decide)) all_nil))

theorem canDropPend {p c i : Nat} : CountsNone (Act.canDropPend p c i) :=
  get fun _ => opt fun _ => all_cons ((touches_Act_shape fun _ h => h).countsNone (by decide))
    (all_cons ((touches_Act_modQueue fun _ h => h).countsNone (by decide))
      (all_cons modCan (all_cons count (all_cons checkShared all_nil))))

theorem canOff {p c : Nat} : CountsNone (Act.canOff p c) := seq (when canDropPend) modCan

theorem pairSettle : CountsNone Act.pairSettle := get fun _ => each fun _ => chSettleAll

theorem dropOwner : CountsNone Act.dropOwner := get fun _ => all_cons updIo (all_cons (when (seq eventIrq pairSettle)) all_nil)

theorem pairStop : CountsNone Act.pairStop :=
  all_cons dropOwner (all_cons updIo (all_cons admWithdraw (all_cons pairSettle all_nil)))

theorem updDoze {f : Doze → Doze} : CountsNone (Act.updDoze f) := (touches_Act_updDoze fun _ h => h).countsNone (by decide)

theorem pnFacetWakes {gf : Nat} {pattern : Bool} : CountsNone (Act.pnFacetWakes gf pattern) :=
  get fun _ => ite (when (get fun _ => when (seq setReg updDoze)))
    (ite ((touches_Act_canWake fun _ h => h).countsNone (by decide))
      (seq ((touches_Act_modLin fun _ h => h).countsNone (by decide)) (when (get fun _ => updDoze))))

theorem wakeDisable : CountsNone Act.wakeDisable :=
  get fun _ => all_cons updDoze (all_cons (each fun _ => pnFacetWakes)
    (all_cons (each fun _ => (touches_Act_setPnet fun _ h => h).countsNone (by decide)) (all_cons admSettle all_nil)))

theorem modRecorder {k : Nat} {f : Recorder → Recorder} : CountsNone (Act.modRecorder k f) :=
  (touches_Act_modRecorder fun _ h => h).countsNone (by decide)

theorem nvme {p : Nat} {c : NvCmd} {addr len : Nat} {b : List Byte} : CountsNone (Act.nvme p c addr len b) :=
  (touches_Act_nvme fun _ h => h).countsNone (by decide)

theorem chunkWrite {p : Nat} : CountsNone (Machine.chunkWrite p) :=
  get fun _ => when (opt fun _ => all_cons modRecorder (all_cons count
    (all_cons ((touches_Act_tallyMon fun _ h => h).countsNone (by decide)) (all_cons nvme all_nil))))

theorem writeOut (p n : Nat) : CountsNone (Act.writeOut p n) := by
  induction n with
  | zero => exact skip
  | succ n ih => exact seq chunkWrite ih

theorem recFlush {p : Nat} : CountsNone (Act.recFlush p) :=
  seq ((touches_Act_endChunk fun _ h => h).countsNone (by decide))
    (get fun _ => all_cons (writeOut p _) (all_cons nvme (all_cons
      (get fun _ => all_cons modRecorder (all_cons count (all_cons nvme all_nil))) all_nil)))

theorem recDisable {p : Nat} : CountsNone (Act.recDisable p) :=
  get fun _ => all_cons (when recFlush) (all_cons (get fun _ => when (seq setFld modRecorder)) (all_cons modRecorder all_nil))

theorem blockOff {d b : Nat} : CountsNone (Act.blockOff d b) := by
  have hdrv : ∀ {k f}, CountsNone (Act.modDrv k f) := (touches_Act_modDrv fun _ h => h).countsNone (by decide)
  have hfab : CountsNone (Act.get fun s => Act.setFabOff d s.edges) :=
    get fun _ => (touches_Act_setFabOff fun _ h => h).countsNone (by decide)
  have hlin : CountsNone (Act.linOff d (b - 0x50)) := (touches_Act_linOff fun _ h => h).countsNone (by decide)
  have hsgw : CountsNone (Act.sgwOff d) := (touches_Act_sgwOff fun _ h => h).countsNone (by decide)
  have hwbr : CountsNone (Act.wbrOff d) := (touches_Act_wbrOff fun _ h => h).countsNone (by decide)
  exact ite (ite chSettle (when hdrv)) <| ite linkDown <| ite canOff <| ite hlin <| ite hfab <| ite hsgw <| ite hwbr <|
    ite (when pairStop) <| ite (when wakeDisable) <| ite recDisable skip

/-- A block that is disabled counts no upset. -/
theorem disable {d b : Nat} : CountsNone (Act.setEnable d b false) :=
  get fun s => seq setReg (ite skip (by rw [if_neg Bool.false_ne_true]; exact blockOff))

end CountsNone

/-- What each of two actions writes under its own condition, the choice writes. -/
theorem Writes.ite_of {c : Prop} [Decidable c] {A B : Act} {P : Nat → Prop} (h : c → Writes A P) (k : ¬ c → Writes B P) :
    Writes (if c then A else B) P := by
  split
  · exact h ‹_›
  · exact k ‹_›

/-! ### BLK_CTRL of a block that is disabled (R145, R151) -/

/-- A register below BLK_ERR's number controls no block. -/
theorem ra_ne_ctrl {d b d' b' r : Nat} (hr : r < 0x1FFE) : ra d' b' r ≠ BLK_CTRL d b := by
  unfold BLK_CTRL ra
  omega

/-- What a block does on its way into the disabled safe state does not write its own BLK_CTRL: WAKE alone writes such registers, those
of Ethernet facets (R584). -/
theorem writes_blockOff_ctrl {d b : Nat} : Writes (Act.blockOff d b) fun a => a ≠ BLK_CTRL d b := by
  have hset : ∀ {d' c : Nat} {g : Bool}, Writes (Act.chSettle d' c g) fun a => a ≠ BLK_CTRL d b :=
    writes_Act_chSettle (ra_ne_ctrl (by decide)) (ra_ne_ctrl (by decide)) (fun _ => ra_ne_ctrl (by decide))
      (fun _ => ra_ne_ctrl (by decide)) (ra_ne_ctrl (by decide))
  have hlink : Writes (Act.linkDown d (b - 0x20) false false) fun a => a ≠ BLK_CTRL d b :=
    writes_Act_linkDown (ra_ne_ctrl (by decide)) (ra_ne_ctrl (by decide)) (fun _ => ra_ne_ctrl (by decide))
      (fun _ => ra_ne_ctrl (by decide)) (ra_ne_ctrl (by decide))
  have hcan : Writes (Act.canOff d (b - 0x40)) fun a => a ≠ BLK_CTRL d b :=
    writes_Act_canOff (ra_ne_ctrl (by decide)) (ra_ne_ctrl (by decide)) (fun _ => ra_ne_ctrl (by decide))
      (fun _ => ra_ne_ctrl (by decide))
  have hpair : Writes Act.pairStop fun a => a ≠ BLK_CTRL d b :=
    writes_Act_pairStop (ra_ne_ctrl (by decide)) (ra_ne_ctrl (by decide)) (fun _ => ra_ne_ctrl (by decide))
      (fun _ => ra_ne_ctrl (by decide)) (ra_ne_ctrl (by decide)) (ra_ne_ctrl (by decide))
  have hrec : Writes (Act.recDisable d) fun a => a ≠ BLK_CTRL d b :=
    writes_Act_recDisable (ra_ne_ctrl (by decide)) (fun _ => ra_ne_ctrl (by decide)) (fun _ => ra_ne_ctrl (by decide))
      (ra_ne_ctrl (by decide))
  have hwake : b = 0x71 → Writes Act.wakeDisable fun a => a ≠ BLK_CTRL d b := by
    rintro rfl
    refine Writes.get fun s => Writes.all_cons writes_Act_updDoze (Writes.all_cons (Writes.each fun gf => Writes.get fun t =>
      Writes.ite_of (fun hf => Writes.when (writes_Act_pnEthOn ?_)) fun _ => Writes.ite writes_Act_canWake
        (Writes.seq writes_Act_modLin (Writes.when writes_Act_pnLinRestart)))
      (Writes.all_cons (Writes.each fun _ => writes_Act_setPnet) (Writes.all_cons (admSettle_admReg.mono fun a ha h => ?_) Writes.all_nil)))
    · unfold BLK_CTRL ra
      omega
    · have hr := ha.bounds.2
      rw [h, BLK_CTRL, aReg_ra (by decide)] at hr
      omega
  refine Writes.ite (Writes.ite hset (Writes.when writes_Act_modDrv)) <| Writes.ite hlink <| Writes.ite hcan <|
    Writes.ite writes_Act_linOff <| Writes.ite (Writes.get fun _ => writes_Act_setFabOff) <| Writes.ite writes_Act_sgwOff <|
    Writes.ite writes_Act_wbrOff <| Writes.ite (Writes.when hpair) <| Writes.ite_of (fun h => Writes.when (hwake h)) fun _ =>
    Writes.ite hrec Writes.skip

/-- A block that is disabled is not enabled. -/
theorem disable_enabled {d b : Nat} (h : blockHasCf (decide (4 ≤ d)) b = true) (s : State) :
    ((Act.setEnable d b false).run s).enabled d b = false := by
  have hw : Writes (if false = s.enabled d b then Act.skip else if false = true then Act.blockOn d b else Act.blockOff d b)
      fun a => a ≠ BLK_CTRL d b := Writes.ite Writes.skip (by rw [if_neg Bool.false_ne_true]; exact writes_blockOff_ctrl)
  have hreg : ((Act.setEnable d b false).run s).reg (BLK_CTRL d b) = 0 := by
    refine (hw.same ((Act.setReg (BLK_CTRL d b) 0).run s) (BLK_CTRL d b) (fun k => k rfl)).trans ?_
    rw [Act.setReg_run, State.reg_storeReg, if_pos rfl]
    exact BitVec.zero_and
  rw [State.enabled, if_pos h, hreg]
  rfl

/-! ### BLK_ERR (R146) -/

/-- A field that a register implements reads as in the word that was stored. -/
theorem fget_masked {a : Nat} {f : Fld} (h : implements a f = true) (v : Word) : fget (v &&& regMask a) f = fget v f := by
  apply Nat.eq_of_testBit_eq
  intro j
  rw [testBit_fget, testBit_fget, bit_and]
  by_cases hj : j < f.w
  · rw [List.all_eq_true.mp h j (List.mem_range.mpr hj), Bool.and_true]
  · simp [hj]

/-- Every block that the map lists has BLK_ERR, with the bits of its row. -/
theorem regMask_blkErr {a : Nat} {w : RegRow} (h : regRow a = some w) :
    regMask (BLK_ERR (aDie a) (aBlk a)) = BitVec.ofNat 48 0xFFFFFF001F := by
  have hb : aBlk a < 256 := Nat.mod_lt _ (by decide)
  have hrows : blockRows (BLK_ERR (aDie a) (aBlk a)) = blockRows a := by
    unfold blockRows BLK_ERR
    rw [aDie_ra hb (by decide), aBlk_ra hb (by decide)]
  unfold regRow at h
  unfold regMask regRow
  rw [hrows, BLK_ERR, aReg_ra (by decide)]
  cases hr : blockRows a with
  | none =>
    rw [hr] at h
    cases h
  | some rows => rfl

/-- The word of BLK_ERR after a block error. -/
theorem blkErr_reg (a i : Nat) (ag : Agent) (s : State) :
    let e := BLK_ERR (aDie a) (aBlk a)
    ((Act.blkErr a i ag).run s).reg e =
      fset (fset (eventWord s e i &&& regMask e) BLK_ERR.REG (aReg a)) BLK_ERR.SRC ag.src &&& regMask e := by
  intro e
  have hevent : ((Act.event e i).run s).reg e = eventWord s e i &&& regMask e := (event_logged e i s).1
  show ((Act.setFlds e [(BLK_ERR.REG, aReg a), (BLK_ERR.SRC, ag.src)]).run ((Act.event e i).run s)).reg e = _
  simp only [Act.setFlds, Act.get_run, Act.setReg_run, State.reg_storeReg, if_true, List.foldl_cons, List.foldl_nil, hevent]

/-- A block error shows its bit, its register and its source. -/
theorem blkErr_shows {a i : Nat} {w : RegRow} (h : regRow a = some w) (hi : i < 5) (ag : Agent) (s : State) :
    let e := BLK_ERR (aDie a) (aBlk a)
    let t := (Act.blkErr a i ag).run s
    bit (t.reg e) i = true ∧ t.fld e BLK_ERR.REG = aReg a ∧ t.fld e BLK_ERR.SRC = ag.src := by
  intro e t
  have hm : regMask e = BitVec.ofNat 48 0xFFFFFF001F := regMask_blkErr h
  have hbit : bit (regMask e) i = true := by
    rw [hm]
    have hlow : ∀ j < 5, bit (BitVec.ofNat 48 0xFFFFFF001F) j = true := by decide
    exact hlow i hi
  have hREG : implements e BLK_ERR.REG = true := by
    rw [implements, hm]
    decide
  have hSRC : implements e BLK_ERR.SRC = true := by
    rw [implements, hm]
    decide
  have hsrc : ag.src < 4 := by cases ag <;> simp [Agent.src]
  have hnum : aReg a < 8192 := Nat.mod_lt _ (by decide)
  rw [State.fld, State.fld, blkErr_reg a i ag s, fget_masked hREG, fget_masked hSRC]
  refine ⟨?_, ?_, ?_⟩
  · rw [bit_and, bit_fset _ _ _ _ (by omega), if_neg (by simp [BLK_ERR.SRC]; omega), bit_fset _ _ _ _ (by omega),
      if_neg (by simp [BLK_ERR.REG]; omega), bit_and, eventWord, bit_fset _ _ _ _ (by omega), if_neg (by simp [scSeq]; omega),
      bit_setBit, hbit]
    simp
    omega
  · rw [fget_fset_other _ _ _ _ (by decide) (by decide), fget_fset _ _ _ (by decide)]
    exact Nat.mod_eq_of_lt hnum
  · rw [fget_fset _ _ _ (by decide)]
    exact Nat.mod_eq_of_lt hsrc

/-! ### Upsets and mismatches (R150, R151) -/

/-- A first upset that leaves an odd number of ones in a lane is the one upset of the package; nothing else but its register changes. -/
theorem upset_upsets {a par : Nat} {m : Word} {w : RegRow} {s : State} (hw : regRow a = some w) (hp : carriesParity a = true)
    (hs : s.upsets = []) (hl : Nat.xor (oddLanes (m &&& BitVec.ofNat 48 (w.mask - Nat.land w.mask w.live))) (par % 8) ≠ 0) :
    ((Act.upset a m par).run s).upsets =
      [(a, { lanes := Nat.xor (oddLanes (m &&& BitVec.ofNat 48 (w.mask - Nat.land w.mask w.live))) (par % 8) })] := by
  generalize hn : Nat.xor (oddLanes (m &&& BitVec.ofNat 48 (w.mask - Nat.land w.mask w.live))) (par % 8) = n at hl ⊢
  unfold Act.upset
  rw [Act.get_run, hw]
  dsimp only
  rw [Act.when_run, if_pos hp, Act.seq_run, Act.upd_run, Act_setReg_upsets, hs, hn]
  simp [Sparse.get, Sparse.put, Sparse.keep, Sparse.ins, hl]

/-- The mismatches of the last second. -/
def State.recentMismatches (s : State) : List (Nat × Nat) := s.mismatches.filter fun e => decide (s.edges - e.2 < 32768)

theorem recentMismatches_of {s t : State} (hm : t.mismatches = s.mismatches) (he : t.edges = s.edges) :
    t.recentMismatches = s.recentMismatches := by
  rw [State.recentMismatches, hm, he]
  rfl

/-- A mismatch that is not counted yet is counted; with fewer than three of its die before it, in a block that does not escalate, no
reset follows (R82). -/
theorem countMismatch_run {a : Nat} {s : State} (hc : s.upsetCounted a = false) (he : escalates (aDie a) (aBlk a) = false)
    (hfew : (s.recentMismatches.filter fun e => e.1 == aDie a).length < 3) :
    ((Act.countMismatch a).run s).regs = s.regs ∧
      ((Act.countMismatch a).run s).mismatches = s.recentMismatches ++ [(aDie a, s.edges)] := by
  have hcounted : (Sparse.get (fun _ => ({} : Upset)) s.upsets a).counted = false := hc
  have hno : ¬ 4 ≤ ((s.recentMismatches ++ [(aDie a, s.edges)]).filter fun e => e.1 == aDie a).length := by
    rw [List.filter_append, List.length_append]
    simp
    omega
  unfold State.recentMismatches at hno
  unfold Act.countMismatch
  rw [Act.get_run, Act.when_run, if_pos hcounted, Act.seq_run, if_neg (by rw [he]; exact Bool.false_ne_true), Act.when_run, if_neg hno]
  exact ⟨rfl, rfl⟩

/-- The mismatch of register a has been handled from state s to state t: its block disabled, reported, and counted (R151). -/
def MismatchHandled (a : Nat) (s t : State) : Prop :=
  t.enabled (aDie a) (aBlk a) = false ∧ bit (t.reg (BLK_ERR (aDie a) (aBlk a))) 2 = true ∧
    t.fld (BLK_ERR (aDie a) (aBlk a)) BLK_ERR.REG = aReg a ∧ t.fld (BLK_ERR (aDie a) (aBlk a)) BLK_ERR.SRC = 3 ∧
    t.mismatches = s.recentMismatches ++ [(aDie a, s.edges)]

/-- The block of register a is disabled and the failed check reported; what remains of a mismatch is its count (R151). -/
def Act.mismatchReported (a : Nat) : Act := Act.seq (Act.setEnable (aDie a) (aBlk a) false) (Act.blkErr a 2 .device)

theorem mismatch_run {a : Nat} (hcf : blockHasCf (decide (4 ≤ aDie a)) (aBlk a) = true) (s : State) :
    (Act.mismatch a).run s = (Act.countMismatch a).run ((Act.mismatchReported a).run s) := by
  rw [Act.mismatch, Act.all_cons, Act.when_run, if_pos hcf, Act.all_cons, Act.all_cons, Act.all_nil, Act.mismatchReported, Act.seq_run]

/-- The report changes neither the mismatches nor the time, and counts no upset. -/
theorem mismatchReported_keeps (a : Nat) (s : State) :
    ((Act.mismatchReported a).run s).mismatches = s.mismatches ∧ ((Act.mismatchReported a).run s).edges = s.edges ∧
      (s.upsetCounted a = false → ((Act.mismatchReported a).run s).upsetCounted a = false) := by
  have hT : Touches (Act.mismatchReported a) [.regs, .evtNo, .upsets, .irqs, .sw, .nets, .gw, .mon, .io, .out] :=
    Touches.seq (touches_Act_setEnable (by decide)) (touches_Act_blkErr (by decide))
  have hC : CountsNone (Act.mismatchReported a) := CountsNone.disable.seq CountsNone.blkErr
  exact ⟨hT.same s .mismatches (by decide), hT.same s .edges (by decide), hC.keeps s a⟩

/-- The report of a block error leaves the block disabled. -/
theorem mismatchReported_enabled {a : Nat} (hcf : blockHasCf (decide (4 ≤ aDie a)) (aBlk a) = true) (s : State) :
    ((Act.mismatchReported a).run s).enabled (aDie a) (aBlk a) = false := by
  have hne : BLK_ERR (aDie a) (aBlk a) ≠ BLK_CTRL (aDie a) (aBlk a) := by
    unfold BLK_ERR BLK_CTRL ra
    omega
  have hoff := disable_enabled hcf s
  rw [State.enabled, if_pos hcf] at hoff ⊢
  rw [Act.mismatchReported, Act.seq_run, (writes_Act_blkErr (P := fun b => b ≠ BLK_CTRL (aDie a) (aBlk a)) hne).same _ _ (fun k => k rfl)]
  exact hoff

/-- The mismatch of a register whose upset has not been counted, in a block with an enable that does not escalate. -/
theorem mismatch_handled {a : Nat} {w : RegRow} {s : State} (hw : regRow a = some w) (hc : s.upsetCounted a = false)
    (he : escalates (aDie a) (aBlk a) = false) (hcf : blockHasCf (decide (4 ≤ aDie a)) (aBlk a) = true)
    (hfew : (s.recentMismatches.filter fun e => e.1 == aDie a).length < 3) : MismatchHandled a s ((Act.mismatch a).run s) := by
  obtain ⟨hmis, hedges, hkeeps⟩ := mismatchReported_keeps a s
  have hoff := mismatchReported_enabled hcf s
  obtain ⟨hbit, hREG, hSRC⟩ := blkErr_shows hw (i := 2) (by decide) .device ((Act.setEnable (aDie a) (aBlk a) false).run s)
  rw [← Act.seq_run, ← Act.mismatchReported] at hbit hREG hSRC
  generalize hu : (Act.mismatchReported a).run s = u at hmis hedges hkeeps hoff hbit hREG hSRC
  have hrecent := recentMismatches_of hmis hedges
  obtain ⟨hregs, hlist⟩ := countMismatch_run (hkeeps hc) he (by rw [hrecent]; exact hfew)
  have hreg : ∀ b, ((Act.countMismatch a).run u).reg b = u.reg b := fun b => by
    rw [State.reg, hregs]
    rfl
  rw [State.enabled, if_pos hcf] at hoff
  rw [State.fld] at hREG hSRC
  unfold MismatchHandled
  rw [mismatch_run hcf, hu, State.enabled, if_pos hcf, State.fld, State.fld, hreg, hreg, hlist, hrecent, hedges]
  exact ⟨hoff, hbit, hREG, hSRC, rfl⟩

/-- PARITY_SCRUB with an upset: the register's check fails. -/
theorem exec_parityScrub_upset {a m par : Nat} {w : RegRow} {s : State} (hs : s.upsets = []) (hw : regRow a = some w)
    (hp : carriesParity a = true)
    (hl : Nat.xor (oddLanes (BitVec.ofNat 48 m &&& BitVec.ofNat 48 (w.mask - Nat.land w.mask w.live))) (par % 8) ≠ 0) :
    exec (.parityScrub [(a, m, par)] [] []) s = .next ((Act.mismatch a).run ((Act.upset a (BitVec.ofNat 48 m) par).run s)) := by
  have hups := upset_upsets hw hp hs hl
  have hbad : ((Act.upset a (BitVec.ofNat 48 m) par).run s).parityBad a = true := by
    rw [State.parityBad, hups, hp]
    simpa [Sparse.get] using hl
  show Act.go (parityScrub [(a, m, par)] [] []) s = _
  rw [Act.go_eq, parityScrub, Act.all_cons, Act.each_cons, Act.each_nil, Act.all_cons, Act.get_run, hups, List.map_cons, List.map_nil,
    Act.each_cons, Act.each_nil, Act.check, Act.get_run, Act.when_run, if_pos hbad]
  rfl

/-- PARITY_SCRUB with an upset of a CF register, as R151 has it. -/
theorem parityScrub_upset_gives {a m par : Nat} {w : RegRow} {s : State} (hs : s.upsets = []) (hpar : par < 8)
    (hw : regRow a = some w) (hk : w.kind = .cf) (he : escalates (aDie a) (aBlk a) = false)
    (hcf : blockHasCf (decide (4 ≤ aDie a)) (aBlk a) = true)
    (hl : Nat.xor (oddLanes (BitVec.ofNat 48 m &&& BitVec.ofNat 48 (w.mask - Nat.land w.mask w.live))) par ≠ 0)
    (hfew : (s.recentMismatches.filter fun e => e.1 == aDie a).length < 3) :
    Gives (.parityScrub [(a, m, par)] [] []) s (MismatchHandled a s) := by
  have hp : carriesParity a = true := by
    unfold carriesParity
    rw [hw]
    simp [he, hk]
  rw [← Nat.mod_eq_of_lt hpar] at hl
  refine ⟨_, exec_parityScrub_upset hs hw hp hl, ?_⟩
  generalize hu : (Act.upset a (BitVec.ofNat 48 m) par).run s = u
  have hsame : ∀ p ∉ [Part.regs, .upsets], Part.Same p s u := by
    rw [← hu]
    exact (touches_Act_upset fun _ h => h).same s
  have hedges : u.edges = s.edges := hsame .edges (by decide)
  have hrecent := recentMismatches_of (hsame .mismatches (by decide)) hedges
  have hc : u.upsetCounted a = false := by
    rw [State.upsetCounted, ← hu, upset_upsets hw hp hs hl]
    simp [Sparse.get]
  have hhandled := mismatch_handled hw hc he hcf (by rw [hrecent]; exact hfew)
  unfold MismatchHandled at hhandled ⊢
  rw [← hrecent, ← hedges]
  exact hhandled

/-! ### Errors of the table memories (R334, R335, R338, R339) -/

/-- A scrub without upsets is the memory errors it brings. -/
theorem exec_parityScrub_ecc {s : State} (hs : s.upsets = []) (fixed lost : List (Nat × Nat × Nat)) :
    exec (.parityScrub [] fixed lost) s =
      .next ((Act.each lost (Act.eccError false)).run ((Act.each fixed (Act.eccError true)).run s)) := by
  show Act.go (parityScrub [] fixed lost) s = _
  rw [Act.go_eq, parityScrub, Act.all_cons, Act.each_nil, Act.all_cons, Act.get_run, hs, List.map_nil, Act.each_nil]
  rfl

/-- A counter of any block but DEV counts one more (R243). -/
theorem count_counted {c : Nat} (hc : aBlk c ≠ 0) (s : State) : Counted c 1 s ((Act.count c).run s) := by
  have hne : ∀ {p r : Nat}, r < 8192 → ra p 0 r ≠ c := fun hr h => hc (by rw [← h]; exact aBlk_ra (by decide) hr)
  generalize hv : ((s.reg c).toNat + 1) % 2 ^ 48 = v
  have hrun : (Act.count c).run s = (Act.when ((s.reg c).toNat < 2 ^ 47 ∧ 2 ^ 47 ≤ v) (Act.passedHalf c)).run
      ((Act.setReg c (BitVec.ofNat 48 v)).run s) := by
    rw [← hv]
    rfl
  have hw : Writes (Act.when ((s.reg c).toNat < 2 ^ 47 ∧ 2 ^ 47 ≤ v) (Act.passedHalf c)) fun a => a ≠ c :=
    Writes.when (writes_Act_passedHalf (fun _ => hne (by decide)) fun _ => hne (by decide))
  have hword : BitVec.ofNat 48 v = s.reg c + BitVec.ofNat 48 1 := by
    apply BitVec.eq_of_toNat_eq
    rw [← hv]
    simp [BitVec.toNat_add]
  rw [Counted, Holds, hrun, hw.same _ _ (fun h => h rfl), Act.setReg_run, State.reg_storeReg, if_pos rfl, hword]

/-- The counters of corrected errors are in the tables' own blocks. -/
theorem eccFixed_blk {p t c : Nat} (h : eccFixed p t = some c) : aBlk c ≠ 0 := by
  have hb : ∀ {b r : Nat}, b < 256 → r < 8192 → b ≠ 0 → aBlk (ra p b r) ≠ 0 := fun h1 h2 h3 => by rw [aBlk_ra h1 h2]; exact h3
  unfold eccFixed at h
  split_ifs at h <;> cases h <;> exact hb (by decide) (by decide) (by decide)

/-- A corrected error counts, and changes no table. -/
theorem parityScrub_fixed_gives {s : State} {p t i c : Nat} (hs : s.upsets = []) (hp : p < s.x) (hi : i < 2 ^ 20)
    (ht : eccTable t = true) (hc : eccFixed p t = some c) :
    Gives (.parityScrub [] [(p, t, i)] []) s fun u => Counted c 1 s u ∧ u.tbls = s.tbls := by
  have hrun : (Act.each [(p, t, i)] (Act.eccError true)).run s = (Act.count c).run s := by
    rw [Act.each_cons, Act.each_nil, Act.eccError, Act.get_run, Act.when_run, if_pos ⟨hp, ht, hi⟩, if_pos rfl, hc, Act.opt_some]
  refine ⟨_, exec_parityScrub_ecc hs _ _, ?_⟩
  rw [Act.each_nil, hrun]
  exact ⟨count_counted (eccFixed_blk hc) s, (touches_Act_count fun _ h => h).same s .tbls (by decide)⟩

/-- A table of the bridge's lookup, or of the filters, with the event register and the bit of its block's ECC_ERR. -/
def EccReports (p t a n : Nat) : Prop :=
  (a, n) = (CLS.EVT p, 4) ∧ (t = 0x42 ∨ t = 0x43) ∨ (a, n) = (PSFP.EVT p, 5) ∧ 0x46 ≤ t ∧ t ≤ 0x49

/-- An uncorrectable error of such a table empties the entry and sets the event. -/
theorem eccError_lost_run {s : State} {p t i a n : Nat} (hp : p < s.x) (hi : i < 2 ^ 20) (h : EccReports p t a n) :
    (Act.eccError false (p, t, i)).run s =
      (Act.event a n).run ((Act.dropTbls fun k => k / 8 != tblKey p t i 0 / 8).run s) := by
  have ht : (0x42 ≤ t ∧ t ≤ 0x43) ∨ (0x46 ≤ t ∧ t ≤ 0x49) := by
    rcases h with ⟨-, h | h⟩ | ⟨-, h⟩
    · omega
    · omega
    · exact Or.inr h
  have htbl : eccTable t = true := by
    rw [eccTable, decide_eq_true_eq]
    omega
  have hempty : (Act.eccInvalid p t i).run s = (Act.dropTbls fun k => k / 8 != tblKey p t i 0 / 8).run s := by
    rw [Act.eccInvalid, Act.get_run, if_neg (by omega), if_neg (by omega), if_neg (by omega)]
  have hevent : Act.eccEvent p t i = Act.event a n := by
    rcases h with ⟨e, h⟩ | ⟨e, h⟩
    · cases e
      rw [Act.eccEvent, if_pos h]
    · cases e
      rw [Act.eccEvent, if_neg (by omega), if_neg (by omega), if_pos h]
  rw [Act.eccError, Act.get_run, Act.when_run, if_pos ⟨hp, htbl, hi⟩, if_neg Bool.false_ne_true, Act.seq_run, hempty, hevent]

/-- An uncorrectable error: the event, and an entry that reads 0. -/
theorem parityScrub_lost_gives {s : State} {p t i a n : Nat} (hs : s.upsets = []) (hp : p < s.x) (hi : i < 2 ^ 20)
    (h : EccReports p t a n) :
    Gives (.parityScrub [] [] [(p, t, i)]) s fun u => Logged a n s u ∧ OnlyRegs [a] s u ∧ ∀ w < 8, u.tbl p t i w = 0 := by
  refine ⟨_, exec_parityScrub_ecc hs _ _, ?_⟩
  rw [Act.each_nil, Act.each_cons, Act.each_nil, eccError_lost_run hp hi h]
  generalize hu : (Act.dropTbls fun k => k / 8 != tblKey p t i 0 / 8).run s = u
  refine ⟨?_, ?_, fun w hw => ?_⟩
  · rw [← hu]
    exact event_logged a n ((Act.dropTbls fun k => k / 8 != tblKey p t i 0 / 8).run s)
  · rw [← hu]
    exact (writes_Act_event (by simp)).onlyRegs ((Act.dropTbls fun k => k / 8 != tblKey p t i 0 / 8).run s)
  · have hkey : tblKey p t i w / 8 = tblKey p t i 0 / 8 := by
      unfold tblKey
      omega
    rw [← hu]
    show Sparse.get tblBlank (Sparse.keep (fun k => k / 8 != tblKey p t i 0 / 8) s.tbls) (tblKey p t i w) = 0
    rw [Sparse.get_keep, if_neg (by simp [hkey])]
    rfl

end Sys2Proof.Machine

namespace Sys2Proof.Proofs

open Sys2Proof.Machine

/-- Settles O24: a pass without upsets and errors runs nothing; an upset fails one check, whose mismatch is counted once, since
disabling the block has counted none; a memory error is one counter, or one entry and one event. -/
theorem parityScrub : Obligations.ParityScrub := by
  unfold Obligations.ParityScrub
  intro s hs
  exact ⟨exec_parityScrub_ecc hs [] [],
    fun a m par w _ _ hpar hw hk he hcf hl hfew => parityScrub_upset_gives hs hpar hw hk he hcf hl hfew,
    fun p t i hp _ hi => ⟨fun c ht hc => parityScrub_fixed_gives hs hp hi ht hc, fun a n h => parityScrub_lost_gives hs hp hi h⟩⟩

end Sys2Proof.Proofs

/-! ## The epoch area and IMG.CMD (R99, R120 to R126, R135, R137)

A record that stands is read back as its bytes, because its position was free, so that programming, which only clears bits, clears
them to the record's own. What the device shows of a record follows from where it was put; what each command reports is one operation. -/

namespace Sys2Proof.Machine

/-! ### Registers and events through other actions -/

/-- A field of a register that an action does not write reads as before. -/
theorem Writes.fld {A : Act} {P : Nat → Prop} (h : Writes A P) {a : Nat} (ha : ¬ P a) (f : Fld) (s : State) :
    (A.run s).fld a f = s.fld a f := by
  rw [State.fld, h.same s a ha, State.fld]

/-- A field that the word of a register to be set gives, where the register implements it. -/
theorem fld_setReg {a : Nat} {f : Fld} (h : implements a f = true) (v : Word) (s : State) :
    ((Act.setReg a v).run s).fld a f = fget v f := by
  rw [State.fld, Act.setReg_run, State.reg_storeReg, if_pos rfl, fget_masked h]

/-- An event is recorded against an earlier state whose register and count were the same. -/
theorem Logged.since {a i : Nat} {s u t : State} (h : Logged a i u t) (hreg : u.reg a = s.reg a) (hevt : u.evtNo = s.evtNo) :
    Logged a i s t := by
  unfold Logged eventWord State.evtCount at h ⊢
  rw [← hreg, ← hevt]
  exact h

/-- An event stays recorded in a later state whose register and numbers are the same. -/
theorem Logged.until {a i : Nat} {s u t : State} (h : Logged a i s u) (hreg : t.reg a = u.reg a) (hevt : t.evtNo = u.evtNo) :
    Logged a i s t := by
  unfold Logged Holds State.evtCount State.evt at h ⊢
  rw [hreg, hevt]
  exact h

/-- The bit of a recorded event is set, where the register implements it. -/
theorem Logged.bit_set {a i : Nat} {s t : State} (h : Logged a i s t) (hi : i < 16) (hm : bit (regMask a) i = true) :
    bit (t.reg a) i = true := by
  rw [h.1, bit_and, hm, eventWord, bit_fset _ _ _ _ (by omega), if_neg (by simp [scSeq]; omega), bit_setBit,
    decide_eq_true (⟨rfl, by omega⟩ : i = i ∧ i < 48), Bool.or_true, Bool.and_true]

/-! ### Programming and erasing the flash (R99) -/

/-- The bytes that a run of stores from address a sets. -/
theorem setFlash_range_byte (a : Nat) (v : Nat → Byte) (n : Nat) (s : State) (b : Nat) :
    ((Act.all ((List.range n).map fun i => Act.setFlash (a + i) (v i))).run s).flashByte b =
      if a ≤ b ∧ b < a + n then v (b - a) else s.flashByte b := by
  induction n generalizing a v s with
  | zero => rw [if_neg (by omega), List.range_zero, List.map_nil, Act.all_nil]
  | succ n ih =>
    have hset : ((Act.setFlash (a + 0) (v 0)).run s).flashByte b = if b = a then v 0 else s.flashByte b := by
      rw [State.flashByte, Act_setFlash_flash, Sparse.get_put]
      rfl
    have htail : (List.range n).map ((fun i => Act.setFlash (a + i) (v i)) ∘ Nat.succ) =
        (List.range n).map fun i => Act.setFlash (a + 1 + i) (v (i + 1)) := by
      refine List.map_congr_left fun i _ => ?_
      rw [Function.comp_apply, Nat.succ_eq_add_one, show a + (i + 1) = a + 1 + i by omega]
    rw [List.range_succ_eq_map, List.map_cons, List.map_map, htail, Act.all_cons, ih, hset]
    by_cases hb : b = a
    · subst hb
      rw [if_neg (by omega), if_pos rfl, if_pos (by omega), Nat.sub_self]
    · rw [if_neg hb]
      by_cases hin : a ≤ b ∧ b < a + (n + 1)
      · rw [if_pos (by omega), if_pos hin, show b - (a + 1) + 1 = b - a by omega]
      · rw [if_neg (by omega), if_neg hin]

/-- Programming clears bits of the bytes it reaches (log entry 49). -/
theorem flashProgram_byte (a : Nat) (l : List Byte) (s : State) (b : Nat) :
    ((Act.flashProgram a l).run s).flashByte b =
      if a ≤ b ∧ b < a + l.length then s.flashByte b &&& l.getD (b - a) 0 else s.flashByte b := by
  rw [Act.flashProgram, Act.get_run, setFlash_range_byte]
  by_cases h : a ≤ b ∧ b < a + l.length
  · rw [if_pos h, if_pos h, show a + (b - a) = b by omega]
  · rw [if_neg h, if_neg h]

/-- Bytes programmed over erased ones read back. -/
theorem flashProgram_read {a : Nat} {l : List Byte} {s : State} (h : ∀ i < l.length, s.flashByte (a + i) = 0xFF) :
    ((Act.flashProgram a l).run s).flashRead a l.length = l := by
  refine List.ext_getElem (by simp [State.flashRead]) fun i hi hil => ?_
  have hbyte : (0xFF : Byte) &&& l[i] = l[i] := BitVec.allOnes_and
  simp only [State.flashRead, List.getElem_map, List.getElem_range]
  rw [flashProgram_byte, if_pos (by omega), h i hil, Nat.add_sub_cancel_left, List.getD_eq_getElem _ _ hil, hbyte]

/-- Flash that is the same reads the same. -/
theorem flashRead_of {s t : State} (h : t.flash = s.flash) (a n : Nat) : t.flashRead a n = s.flashRead a n := by
  unfold State.flashRead State.flashByte
  rw [h]

/-- An erase leaves every byte of its sector erased and every other one as it was. -/
theorem flashErase_byte (a : Nat) (s : State) (b : Nat) :
    ((Act.flashErase a).run s).flashByte b = if b / 4096 = a / 4096 then 0xFF else s.flashByte b := by
  have e : ((Act.flashErase a).run s).flashByte b = Sparse.get flashBlank (Sparse.keep (fun k => k / 4096 != a / 4096) s.flash) b := rfl
  rw [e, Sparse.get_keep]
  by_cases h : b / 4096 = a / 4096
  · rw [if_pos h, if_neg (by simp [h])]
    rfl
  · rw [if_neg h, if_pos (by simp [h])]
    rfl

/-! ### Writing a record (R120, R122) -/

theorem beBytes_length (k n : Nat) : (beBytes k n).length = k := by
  induction k with
  | zero => rfl
  | succ k ih => rw [beBytes, List.length_cons, ih]

theorem EpochRec.bytes_length (r : EpochRec) : r.bytes.length = 12 := by
  rw [EpochRec.bytes, List.length_append, beBytes_length, beBytes_length]

/-- The bytes of a free position are erased. -/
theorem posFree_byte {s : State} {k i j : Nat} (h : s.posFree k i = true) (hj : j < 12) : s.flashByte (recAt k i + j) = 0xFF := by
  rw [State.posFree, State.flashRead, List.all_map, List.all_eq_true] at h
  exact beq_iff_eq.mp (h j (List.mem_range.mpr hj))

/-- The position found is free. -/
theorem freeFrom_posFree {s : State} {k n i : Nat} (h : s.freeFrom k n = some i) : s.posFree k i = true :=
  List.find?_some (p := fun j => s.posFree k j) h

/-- A record stands at a position, and IMG.EPOCH_STAT shows the current one. -/
def Act.recordStands (k i : Nat) (r : EpochRec) : Act := Act.seq (Act.flashProgram (recAt k i) r.bytes) Act.epochShow

theorem touches_recordStands {k i : Nat} {r : EpochRec} : Touches (Act.recordStands k i r) [.regs, .flash, .upsets] :=
  Touches.seq (touches_Act_flashProgram (by decide)) (touches_Act_epochShow (by decide))

theorem writes_recordStands {k i : Nat} {r : EpochRec} : Writes (Act.recordStands k i r) fun a => a = IMG.EPOCH_STAT 0 :=
  Writes.seq writes_Act_flashProgram (writes_Act_epochShow rfl)

/-- A record written at a free position is read back. -/
theorem recordStands_read {s : State} {k i : Nat} (h : s.posFree k i = true) (r : EpochRec) :
    ((Act.recordStands k i r).run s).flashRead (recAt k i) 12 = r.bytes := by
  have hshow : ∀ u : State, (Act.epochShow.run u).flash = u.flash :=
    fun u => (touches_Act_epochShow fun _ h => h).same u .flash (by decide)
  have hprog := flashProgram_read (a := recAt k i) (l := r.bytes) (s := s) fun j hj =>
    posFree_byte h (by rw [EpochRec.bytes_length] at hj; exact hj)
  rw [EpochRec.bytes_length] at hprog
  rw [Act.recordStands, Act.seq_run, flashRead_of (hshow _), hprog]

/-- A flash that does not answer takes no record. -/
theorem writeRecord_silent {b : Burn} (h : b.answers = false) (r : EpochRec) (cont : Bool → Act) (s : State) :
    (Act.writeRecord r b cont).run s = (cont false).run s := by
  rw [Act.writeRecord, Act.get_run]
  dsimp only
  rw [if_pos h]

/-- A record whose first programming verifies stands at its position. -/
theorem placeRecord_first {b : Burn} (h : b.first = true) (k i : Nat) (r : EpochRec) (cont : Bool → Act) (s : State) :
    (Act.placeRecord k i r b fun ok => Act.seq Act.epochShow (cont ok)).run s = (cont true).run ((Act.recordStands k i r).run s) := by
  rw [Act.placeRecord, Act.burnRecord, if_pos h]
  rfl

/-- The next record stands at the first free position behind the current one. -/
theorem writeRecord_next {b : Burn} {s : State} {c : EpochRec} {i : Nat} (ha : b.answers = true) (hf : b.first = true)
    (hc : s.curRec = some c) (hi : s.freeFrom c.sector (c.pos + 1) = some i) (r : EpochRec) (cont : Bool → Act) :
    (Act.writeRecord r b cont).run s = (cont true).run ((Act.recordStands c.sector i r).run s) := by
  rw [Act.writeRecord, Act.get_run]
  dsimp only
  rw [if_neg (by simp [ha]), hc]
  dsimp only
  rw [hi]
  exact placeRecord_first hf c.sector i r cont s

/-- The first record of all stands at the first free position of sector 0. -/
theorem writeRecord_firstEver {b : Burn} {s : State} {i : Nat} (ha : b.answers = true) (hf : b.first = true)
    (hc : s.curRec = none) (hi : s.freeFrom 0 0 = some i) (r : EpochRec) (cont : Bool → Act) :
    (Act.writeRecord r b cont).run s = (cont true).run ((Act.recordStands 0 i r).run s) := by
  rw [Act.writeRecord, Act.get_run]
  dsimp only
  rw [if_neg (by simp [ha]), hc]
  dsimp only
  rw [hi]
  exact placeRecord_first hf 0 i r cont s

/-! ### The outcome of step 10 (R123, R124, R135) -/

theorem implements_epoch : implements (IMG.EPOCH_STAT 0) IMG.EPOCH_STAT.STATE = true ∧ implements (IMG.EPOCH 0) IMG.EPOCH.EPOCH = true ∧
    implements (RSTC.START 0) RSTC.START.EPOCH_OK = true := by decide +kernel

theorem touches_epochOutcome {st n : Nat} {c : EpochRec} {l : List Nat} :
    Touches (Act.epochOutcome st n c l) [.regs, .evtNo, .upsets] := touches_Act_epochOutcome fun _ h => h

/-- The state in which the events of an outcome are recorded: STATE and the boot epoch are shown. -/
def State.epochShown (s : State) (st n : Nat) (c : EpochRec) : State :=
  (Act.setFlds (IMG.EPOCH 0) [(IMG.EPOCH.EPOCH, n), (IMG.EPOCH.FLOOR, c.floor), (IMG.EPOCH.RENEWAL, c.renewal)]).run
    ((Act.setFld (IMG.EPOCH_STAT 0) IMG.EPOCH_STAT.STATE st).run s)

/-- What ends an outcome: EPOCH_OK, where the record was written. -/
def Act.epochOk (st : Nat) : Act := Act.when (st = 1) (Act.setFld (RSTC.START 0) RSTC.START.EPOCH_OK 1)

theorem epochOutcome_run (st n : Nat) (c : EpochRec) (l : List Nat) (s : State) : (Act.epochOutcome st n c l).run s =
    (Act.epochOk st).run ((Act.each l fun i => Act.event (IMG.EVT 0) i).run (s.epochShown st n c)) := rfl

theorem writes_epochOk {st : Nat} : Writes (Act.epochOk st) fun a => a = RSTC.START 0 := Writes.when (writes_Act_setFld rfl)

/-- The events of an outcome write their own register alone. -/
theorem writes_epochEvents {l : List Nat} : Writes (Act.each l fun i => Act.event (IMG.EVT 0) i) fun a => a = IMG.EVT 0 :=
  Writes.each fun _ => writes_Act_event rfl

/-- STATE and the boot epoch of the start, as the statements read them. -/
def State.epochStat (s : State) : Nat × Nat := (s.fld (IMG.EPOCH_STAT 0) IMG.EPOCH_STAT.STATE, s.fld (IMG.EPOCH 0) IMG.EPOCH.EPOCH)

/-- An outcome shows its STATE and its epoch. -/
theorem epochOutcome_stat {st n : Nat} (hst : st < 8) (hn : n < 65536) (c : EpochRec) (l : List Nat) (s : State) :
    ((Act.epochOutcome st n c l).run s).epochStat = (st, n) := by
  obtain ⟨hstate, hepoch, -⟩ := implements_epoch
  have hfld : ∀ (a : Nat) (f : Fld), a ≠ RSTC.START 0 → a ≠ IMG.EVT 0 →
      ((Act.epochOutcome st n c l).run s).fld a f = (s.epochShown st n c).fld a f := fun a f h1 h2 => by
    rw [epochOutcome_run, writes_epochOk.fld h1, writes_epochEvents.fld h2]
  rw [State.epochStat, hfld _ _ (by decide) (by decide), hfld _ _ (by decide) (by decide), State.epochShown,
    (writes_Act_setFlds (P := fun a => a = IMG.EPOCH 0) rfl).fld (by decide), fld_setFld (by decide) hstate, Act.setFlds, Act.get_run,
    fld_setReg hepoch]
  simp only [List.foldl_cons, List.foldl_nil]
  rw [fget_fset_other _ _ _ _ (by decide) (by decide), fget_fset_other _ _ _ _ (by decide) (by decide), fget_fset _ _ _ (by decide)]
  exact Prod.ext (Nat.mod_eq_of_lt hst) (Nat.mod_eq_of_lt hn)

/-- The one event of an outcome is recorded. -/
theorem epochOutcome_logged (st n : Nat) (c : EpochRec) (i : Nat) (s : State) :
    Logged (IMG.EVT 0) i s ((Act.epochOutcome st n c [i]).run s) := by
  have hshown : (s.epochShown st n c).reg (IMG.EVT 0) = s.reg (IMG.EVT 0) :=
    ((writes_Act_setFlds (P := fun a => a = IMG.EPOCH 0) rfl).same _ _ (by decide)).trans
      ((writes_Act_setFld (P := fun a => a = IMG.EPOCH_STAT 0) rfl).same _ _ (by decide))
  have hok : Touches (Act.epochOk st) [.regs, .upsets] := Touches.when (touches_Act_setFld (by decide))
  rw [epochOutcome_run, Act.each_cons, Act.each_nil]
  exact ((event_logged _ i _).since hshown rfl).until (writes_epochOk.same _ _ (by decide)) (hok.same _ .evtNo (by decide))

/-- An outcome without events records none. -/
theorem epochOutcome_noEvents (st n : Nat) (c : EpochRec) (s : State) :
    ((Act.epochOutcome st n c []).run s).reg (IMG.EVT 0) = s.reg (IMG.EVT 0) := by
  rw [epochOutcome_run, Act.each_nil, writes_epochOk.same _ _ (by decide)]
  exact ((writes_Act_setFlds (P := fun a => a = IMG.EPOCH 0) rfl).same _ _ (by decide)).trans
    ((writes_Act_setFld (P := fun a => a = IMG.EPOCH_STAT 0) rfl).same _ _ (by decide))

/-- The outcome of a record that was written: EPOCH_OK is set, and EPOCH_WARN with the last sixteen epochs. -/
theorem epochOutcome_written (n : Nat) (c : EpochRec) (s : State) :
    let t := (Act.epochOutcome 1 n c (if 0xFFF0 ≤ n then [4] else [])).run s
    t.fld (RSTC.START 0) RSTC.START.EPOCH_OK = 1 ∧ bit (t.reg (IMG.EVT 0)) 4 = (bit (s.reg (IMG.EVT 0)) 4 || decide (0xFFF0 ≤ n)) := by
  obtain ⟨-, -, hok⟩ := implements_epoch
  refine ⟨fld_setFld (by decide) hok 1 _, ?_⟩
  by_cases hn : 0xFFF0 ≤ n
  · rw [if_pos hn, (epochOutcome_logged 1 n c 4 s).bit_set (by decide) (by decide +kernel)]
    simp [hn]
  · rw [if_neg hn, epochOutcome_noEvents]
    simp [hn]

/-! ### EPOCH_WRITE (R122 to R124) -/

/-- Step 10 with its epoch write done, before anything is written. -/
def State.epochBegun (s : State) : State := (Act.setStart fun u => { u with epochDone := true }).run s

section
variable {s : State} (h10 : s.start.step = 10) (hd : s.start.epochDone = false)
include h10 hd

/-- A flash that did not answer in step 8 is not written. -/
theorem exec_epochWrite_silent (hf : s.ld.flashAnswers = false) (answers erase first second : Bool) :
    exec (.epochWrite answers erase first second) s = .next ((Act.epochOutcome 5 0 {} [3]).run s.epochBegun) := by
  show Act.go (epochWrite _) s = _
  simp [epochWrite, State.epochBegun, h10, hd, hf]

/-- Without a record, where one has stood before, the area is lost. -/
theorem exec_epochWrite_lost (hf : s.ld.flashAnswers = true) (hc : s.curRec = none) (hi : s.fuse.epochInit = true)
    (answers erase first second : Bool) :
    exec (.epochWrite answers erase first second) s = .next ((Act.epochOutcome 3 0 {} [3]).run s.epochBegun) := by
  show Act.go (epochWrite _) s = _
  simp [epochWrite, State.epochBegun, h10, hd, hf, hc, hi]

/-- The last epoch is not followed by another. -/
theorem exec_epochWrite_last {c : EpochRec} (hf : s.ld.flashAnswers = true) (hc : s.curRec = some c) (he : c.epoch = 0xFFFF)
    (answers erase first second : Bool) :
    exec (.epochWrite answers erase first second) s = .next ((Act.epochOutcome 4 0xFFFF c [5]).run s.epochBegun) := by
  show Act.go (epochWrite _) s = _
  simp [epochWrite, State.epochBegun, h10, hd, hf, hc, he]

/-- The first record of all is the one of epoch 1, and the fuse is blown. -/
theorem exec_epochWrite_first {i : Nat} (hf : s.ld.flashAnswers = true) (hc : s.curRec = none) (hi : s.fuse.epochInit = false)
    (hp : s.freeFrom 0 0 = some i) (erase second : Bool) :
    exec (.epochWrite true erase true second) s = .next ((Act.epochOutcome 1 1 {} []).run
      (Act.blowEpochInit.run ((Act.recordStands 0 i { epoch := 1 }).run s.epochBegun))) := by
  have hwrite := writeRecord_firstEver (b := ⟨true, erase, true, second⟩) (s := s.epochBegun) rfl rfl hc hp { epoch := 1 }
  have hbegun : (Act.setStart fun u => { u with epochDone := true }).run s = s.epochBegun := rfl
  show Act.go (epochWrite _) s = _
  simp [epochWrite, hbegun, h10, hd, hf, hc, hi, hwrite]

/-- Before the last epoch but one the record of the next epoch is written, and its outcome shown. -/
theorem exec_epochWrite_next {c : EpochRec} (hf : s.ld.flashAnswers = true) (hc : s.curRec = some c) (he : c.epoch < 0xFFFE)
    (answers erase first second : Bool) :
    exec (.epochWrite answers erase first second) s = .next ((Act.writeRecord { c with epoch := c.epoch + 1 }
      ⟨answers, erase, first, second⟩ fun ok =>
        if ok then Act.epochOutcome 1 (c.epoch + 1) c (if 0xFFF0 ≤ c.epoch + 1 then [4] else [])
        else Act.epochOutcome 2 c.epoch c [3]).run s.epochBegun) := by
  have h1 : ¬ c.epoch = 0xFFFF := by omega
  have h2 : ¬ c.epoch = 0xFFFE := by omega
  show Act.go (epochWrite _) s = _
  simp [epochWrite, State.epochBegun, h10, hd, hf, hc, h1, h2]

end

/-- The epoch write of step 10 is done, with a STATE and a boot epoch shown. -/
def EpochEnds (st n : Nat) (t : State) : Prop := t.start.epochDone = true ∧ t.epochStat = (st, n)

/-- An outcome of a state in which the epoch write is done. -/
theorem epochOutcome_ends {st n : Nat} (hst : st < 8) (hn : n < 65536) (c : EpochRec) (l : List Nat) {u : State}
    (hu : u.start.epochDone = true) : EpochEnds st n ((Act.epochOutcome st n c l).run u) := by
  have hstart : ((Act.epochOutcome st n c l).run u).start = u.start := touches_epochOutcome.same u .start (by decide)
  exact ⟨by rw [hstart]; exact hu, epochOutcome_stat hst hn c l u⟩

/-- An outcome without a record that was written: STATE and epoch are shown, the flash stays, and the one event is recorded. -/
theorem epochOutcome_unwritten {st n : Nat} (hst : st < 8) (hn : n < 65536) (c : EpochRec) (i : Nat) (s : State) :
    let t := (Act.epochOutcome st n c [i]).run s.epochBegun
    t.start.epochDone = true ∧ t.epochStat = (st, n) ∧ t.flash = s.flash ∧ Logged (IMG.EVT 0) i s t := by
  obtain ⟨hdone, hstat⟩ := epochOutcome_ends hst hn c [i] (u := s.epochBegun) rfl
  exact ⟨hdone, hstat, touches_epochOutcome.same s.epochBegun .flash (by decide),
    (epochOutcome_logged st n c i s.epochBegun).since rfl rfl⟩

/-- An outcome leaves what the flash reads. -/
theorem epochOutcome_flashRead (st n : Nat) (c : EpochRec) (l : List Nat) (s : State) (a k : Nat) :
    ((Act.epochOutcome st n c l).run s).flashRead a k = s.flashRead a k :=
  flashRead_of (touches_epochOutcome.same s .flash (by decide)) a k

/-- A record that stands leaves the start sequence as it is. -/
theorem recordStands_start (k i : Nat) (r : EpochRec) (s : State) : ((Act.recordStands k i r).run s).start = s.start :=
  touches_recordStands.same s .start (by decide)

/-- EPOCH_WRITE with a free position behind the current record: the record of the next epoch stands there. -/
theorem epochWrite_next_gives {s : State} {c : EpochRec} {i : Nat} (h10 : s.start.step = 10) (hd : s.start.epochDone = false)
    (hf : s.ld.flashAnswers = true) (hc : s.curRec = some c) (he : c.epoch < 0xFFFE)
    (hi : s.freeFrom c.sector (c.pos + 1) = some i) (erase second : Bool) :
    Gives (.epochWrite true erase true second) s fun t =>
      t.start.epochDone = true ∧ t.epochStat = (1, c.epoch + 1) ∧ t.fld (RSTC.START 0) RSTC.START.EPOCH_OK = 1 ∧
        t.flashRead (recAt c.sector i) 12 = EpochRec.bytes { c with epoch := c.epoch + 1 } ∧
        bit (t.reg (IMG.EVT 0)) 4 = (bit (s.reg (IMG.EVT 0)) 4 || decide (0xFFF0 ≤ c.epoch + 1)) := by
  have hwrite := writeRecord_next (b := ⟨true, erase, true, second⟩) (s := s.epochBegun) rfl rfl hc hi
  refine ⟨_, (exec_epochWrite_next h10 hd hf hc he _ _ _ _).trans (congrArg _ (hwrite _ _)), ?_⟩
  rw [if_pos rfl]
  generalize hu : (Act.recordStands c.sector i { c with epoch := c.epoch + 1 }).run s.epochBegun = u
  have hdone : u.start.epochDone = true := by
    rw [← hu, recordStands_start]
    rfl
  have hevt : u.reg (IMG.EVT 0) = s.reg (IMG.EVT 0) := by
    rw [← hu]
    exact writes_recordStands.same s.epochBegun _ (by decide)
  have hread : u.flashRead (recAt c.sector i) 12 = EpochRec.bytes { c with epoch := c.epoch + 1 } := by
    rw [← hu]
    exact recordStands_read (s := s.epochBegun) (freeFrom_posFree hi) _
  obtain ⟨hends, hstat⟩ := epochOutcome_ends (st := 1) (n := c.epoch + 1) (by decide) (by omega) c
    (if 0xFFF0 ≤ c.epoch + 1 then [4] else []) hdone
  obtain ⟨hok, hwarn⟩ := epochOutcome_written (c.epoch + 1) c u
  rw [hevt] at hwarn
  exact ⟨hends, hstat, hok, (epochOutcome_flashRead _ _ _ _ u _ _).trans hread, hwarn⟩

/-- EPOCH_WRITE with a flash that does not answer the write: the epoch of the current record stays. -/
theorem epochWrite_failed_gives {s : State} {c : EpochRec} (h10 : s.start.step = 10) (hd : s.start.epochDone = false)
    (hf : s.ld.flashAnswers = true) (hc : s.curRec = some c) (he : c.epoch < 0xFFFE) (erase second : Bool) :
    Gives (.epochWrite false erase true second) s fun t =>
      t.start.epochDone = true ∧ t.epochStat = (2, c.epoch) ∧ t.flash = s.flash ∧ Logged (IMG.EVT 0) 3 s t := by
  have hwrite := writeRecord_silent (b := ⟨false, erase, true, second⟩) rfl
  refine ⟨_, (exec_epochWrite_next h10 hd hf hc he _ _ _ _).trans (congrArg _ (hwrite _ _ _)), ?_⟩
  exact epochOutcome_unwritten (by decide) (by omega) c 3 s

/-- EPOCH_WRITE of the first record of all. -/
theorem epochWrite_first_gives {s : State} {i : Nat} (h10 : s.start.step = 10) (hd : s.start.epochDone = false)
    (hf : s.ld.flashAnswers = true) (hc : s.curRec = none) (hn : s.fuse.epochInit = false) (hi : s.freeFrom 0 0 = some i)
    (erase second : Bool) :
    Gives (.epochWrite true erase true second) s fun t =>
      t.start.epochDone = true ∧ t.epochStat = (1, 1) ∧ t.fuse.epochInit = true ∧
        t.flashRead (recAt 0 i) 12 = EpochRec.bytes { epoch := 1 } := by
  refine ⟨_, exec_epochWrite_first h10 hd hf hc hn hi erase second, ?_⟩
  have hread := recordStands_read (s := s.epochBegun) (freeFrom_posFree hi) { epoch := 1 }
  have hstart := recordStands_start 0 i { epoch := 1 } s.epochBegun
  generalize (Act.recordStands 0 i { epoch := 1 }).run s.epochBegun = u at hread hstart
  have hdone : (Act.blowEpochInit.run u).start.epochDone = true := by
    show u.start.epochDone = true
    rw [hstart]
    rfl
  obtain ⟨hends, hstat⟩ := epochOutcome_ends (st := 1) (n := 1) (by decide) (by decide) {} [] hdone
  have hfuse : ((Act.epochOutcome 1 1 {} []).run (Act.blowEpochInit.run u)).fuse = (Act.blowEpochInit.run u).fuse :=
    touches_epochOutcome.same _ .fuse (by decide)
  exact ⟨hends, hstat, congrArg Fuses.epochInit hfuse, (epochOutcome_flashRead _ _ _ _ _ _ _).trans hread⟩

/-! ### The background erase (R125) -/

theorem implements_erasePend : implements (IMG.EPOCH_STAT 0) IMG.EPOCH_STAT.ERASE_PEND = true := by decide +kernel

/-- The erase of a sector ends. -/
theorem exec_epochBackgroundErase_end {s : State} {k : Nat} (h : s.ld.erasing = some k) :
    exec (.epochBackgroundErase true) s = .next ((Act.setFld (IMG.EPOCH_STAT 0) IMG.EPOCH_STAT.ERASE_PEND 0).run
      ((Act.setLd fun u => { u with erasing := none }).run ((Act.flashErase (4096 * k)).run s))) := by
  show Act.go (epochBackgroundErase true) s = _
  simp [epochBackgroundErase, h]

/-- The erase of the other sector begins in service where it is due. -/
theorem exec_epochBackgroundErase_begin {s : State} {c : EpochRec} (he : s.ld.erasing = none) (hc : s.curRec = some c)
    (hst : s.start.step = 15) (hfw : s.flag (RSTC.START 0) RSTC.START.FW_DONE = true) (hf : s.ld.flashAnswers = true)
    (hn : 256 ≤ s.recsIn c.sector) (hs : s.sectorErased (1 - c.sector) = false) (good : Bool) :
    exec (.epochBackgroundErase good) s = .next ((Act.setFld (IMG.EPOCH_STAT 0) IMG.EPOCH_STAT.ERASE_PEND 1).run
      ((Act.setLd fun u => { u with erasing := some (1 - c.sector) }).run s)) := by
  show Act.go (epochBackgroundErase good) s = _
  simp [epochBackgroundErase, he, hc, hst, hfw, hf, hn, hs]

/-- EPOCH_BACKGROUND_ERASE at the end of an erase: the sector is erased, and nothing else of the flash changes. -/
theorem epochBackgroundErase_end_gives {s : State} {k : Nat} (h : s.ld.erasing = some k) :
    Gives (.epochBackgroundErase true) s fun t =>
      t.ld.erasing = none ∧ t.fld (IMG.EPOCH_STAT 0) IMG.EPOCH_STAT.ERASE_PEND = 0 ∧
        ∀ a, t.flashByte a = if a / 4096 = k then 0xFF else s.flashByte a := by
  refine ⟨_, exec_epochBackgroundErase_end h, rfl, fld_setFld (by decide) implements_erasePend 0 _, fun a => ?_⟩
  refine (flashErase_byte (4096 * k) s a).trans ?_
  rw [Nat.mul_div_cancel_left k (by decide)]

/-- EPOCH_BACKGROUND_ERASE where an erase is due: it is under way, and the flash is as before. -/
theorem epochBackgroundErase_begin_gives {s : State} {c : EpochRec} (he : s.ld.erasing = none) (hc : s.curRec = some c)
    (hst : s.start.step = 15) (hfw : s.flag (RSTC.START 0) RSTC.START.FW_DONE = true) (hf : s.ld.flashAnswers = true)
    (hn : 256 ≤ s.recsIn c.sector) (hs : s.sectorErased (1 - c.sector) = false) (good : Bool) :
    Gives (.epochBackgroundErase good) s fun t =>
      t.ld.erasing = some (1 - c.sector) ∧ t.fld (IMG.EPOCH_STAT 0) IMG.EPOCH_STAT.ERASE_PEND = 1 ∧ t.flash = s.flash :=
  ⟨_, exec_epochBackgroundErase_begin he hc hst hfw hf hn hs good, rfl, fld_setFld (by decide) implements_erasePend 1 _, rfl⟩

/-! ### IMG.CMD (R126, R137) -/

theorem implements_cmdResult : implements (IMG.CMD 0) IMG.CMD.RESULT = true := by decide +kernel

/-- RESULT of the word that IMG.CMD shows while a command runs. -/
theorem fget_cmdWord (op arg : Nat) :
    fget (word [(IMG.CMD.OP, op), (IMG.CMD.ARG, arg), (IMG.CMD.RESULT, 1)]) IMG.CMD.RESULT = 1 := by
  simp only [word, List.foldl_cons, List.foldl_nil]
  exact fget_fset _ _ 1 (by decide)

/-- An IMG.CMD command of OP 1 or 2 in service, while none runs, is accepted. -/
theorem imgCmd_accepts {u : State} {v : Word} (hst : u.start.step = 15) (hr : u.fld (IMG.CMD 0) IMG.CMD.RESULT ≠ 1)
    (h1 : 1 ≤ fget v IMG.CMD.OP) (h2 : fget v IMG.CMD.OP ≤ 2) (ag : Agent) (k : Code → Act) :
    (imgCmd ag v k).run u = (k .ok).run ((Act.setLd fun q => { q with cmdBusy := some (fget v IMG.CMD.OP, fget v IMG.CMD.ARG) }).run
      ((Act.setReg (IMG.CMD 0)
        (word [(IMG.CMD.OP, fget v IMG.CMD.OP), (IMG.CMD.ARG, fget v IMG.CMD.ARG), (IMG.CMD.RESULT, 1)])).run u)) := by
  rw [imgCmd, Act.get_run, if_neg (by simp [hst, hr]), if_neg (by omega), if_neg (by omega)]
  rfl

/-- A write of IMG.CMD with OP set to 1 or 2 is accepted: the command runs, RESULT shows it, and the sender is answered. -/
theorem imgCmd_accepted {u t : State} {w : Sender} {v : Word} {op : Nat} {ag : Agent} (hst : u.start.step = 15)
    (hr : u.fld (IMG.CMD 0) IMG.CMD.RESULT ≠ 1) (h1 : 1 ≤ op) (h2 : op ≤ 2)
    (ht : (imgCmd ag (fset v IMG.CMD.OP op) (Act.ends w ag (IMG.CMD 0))).run u = t) :
    t.ld = { u.ld with cmdBusy := some (op, fget v IMG.CMD.ARG) } ∧ t.fld (IMG.CMD 0) IMG.CMD.RESULT = 1 ∧ OnlyRegs [IMG.CMD 0] u t ∧
      t.out = endOut w .ok u.out := by
  have hop : fget (fset v IMG.CMD.OP op) IMG.CMD.OP = op :=
    (fget_fset v IMG.CMD.OP op (by decide)).trans (Nat.mod_eq_of_lt (show op < 2 ^ 4 by omega))
  have harg : fget (fset v IMG.CMD.OP op) IMG.CMD.ARG = fget v IMG.CMD.ARG := fget_fset_other _ _ _ _ (by decide) (by decide)
  rw [imgCmd_accepts hst hr (by omega) (by omega), hop, harg, Act.ends_ok] at ht
  subst ht
  refine ⟨rfl, ?_, ?_, rfl⟩
  · exact (fld_setReg implements_cmdResult _ u).trans (fget_cmdWord op _)
  · exact (Writes.setReg (P := fun a => a ∈ [IMG.CMD 0]) (by simp)).onlyRegs u

/-- What ends an IMG.CMD command with a result. -/
def Act.imgCmdEnd (n : Nat) : Act :=
  Act.all [
    Act.setFld (IMG.CMD 0) IMG.CMD.RESULT n,
    Act.setLd (fun u => { u with cmdBusy := none }),
    Act.event (IMG.EVT 0) 6]

/-- An IMG.CMD command has ended with a result and its event from state s to state t. -/
def ImgCmdEnds (n : Nat) (s t : State) : Prop :=
  t.ld.cmdBusy = none ∧ t.fld (IMG.CMD 0) IMG.CMD.RESULT = n ∧ Logged (IMG.EVT 0) 6 s t

theorem imgCmdEnd_ends {n : Nat} (hn : n < 16) (s : State) : ImgCmdEnds n s ((Act.imgCmdEnd n).run s) := by
  have hset : Writes (Act.setFld (IMG.CMD 0) IMG.CMD.RESULT n) fun a => a = IMG.CMD 0 := writes_Act_setFld rfl
  have hlog : Writes (Act.event (IMG.EVT 0) 6) fun a => a = IMG.EVT 0 := writes_Act_event rfl
  have hres := (fld_setFld (by decide) implements_cmdResult n s).trans (Nat.mod_eq_of_lt hn)
  have hevt := hset.same s (IMG.EVT 0) (by decide)
  have hno : ((Act.setFld (IMG.CMD 0) IMG.CMD.RESULT n).run s).evtNo = s.evtNo := rfl
  have hend : (Act.imgCmdEnd n).run s = (Act.event (IMG.EVT 0) 6).run ((Act.setLd fun u => { u with cmdBusy := none }).run
      ((Act.setFld (IMG.CMD 0) IMG.CMD.RESULT n).run s)) := rfl
  rw [hend]
  generalize (Act.setFld (IMG.CMD 0) IMG.CMD.RESULT n).run s = q at hres hevt hno
  exact ⟨rfl, (hlog.fld (a := IMG.CMD 0) (by decide) _ _).trans hres, (event_logged _ 6 _).since hevt hno⟩

/-- The argument of an IMG.CMD command is refused (R137; a floor of 0 where no record exists is log entry 112). -/
def State.imgCmdRefused (s : State) (op arg : Nat) : Prop :=
  (op = 1 ∧ (arg < (s.curRec.map fun c => c.floor).getD 0 ∨ s.fld (IMG.ID 0) IMG.ID.GEN < arg)) ∨ (op = 2 ∧ 2 < arg)

/-- The record that an IMG.CMD command writes (R126). -/
def EpochRec.commanded (c : EpochRec) (op arg : Nat) : EpochRec :=
  { c with epoch := c.epoch + 1, floor := if op = 1 then arg else c.floor, prefer := if op = 2 then arg else c.prefer }

section
variable {s : State} {op arg : Nat} (hb : s.ld.cmdBusy = some (op, arg)) (he : s.ld.erasing = none)
include hb he

/-- A refused argument ends the command with 3, before anything else is judged. -/
theorem exec_imgCmdDone_refused (h : s.imgCmdRefused op arg) (answers erase first second : Bool) :
    exec (.imgCmdDone answers erase first second) s = .next ((Act.imgCmdEnd 3).run s) := by
  show Act.go (imgCmdDone _) s = _
  unfold State.imgCmdRefused at h
  rw [Act.go_eq, imgCmdDone, Act.get_run, hb, Act.opt_some]
  dsimp only
  rw [Act.when_run, if_pos he, if_pos h]
  rfl

variable (h : ¬ s.imgCmdRefused op arg)
include h

/-- A flash that did not answer in step 8 ends the command with 4. -/
theorem exec_imgCmdDone_silent (hf : s.ld.flashAnswers = false) (answers erase first second : Bool) :
    exec (.imgCmdDone answers erase first second) s = .next ((Act.imgCmdEnd 4).run s) := by
  show Act.go (imgCmdDone _) s = _
  unfold State.imgCmdRefused at h
  rw [Act.go_eq, imgCmdDone, Act.get_run, hb, Act.opt_some]
  dsimp only
  rw [Act.when_run, if_pos he, if_neg h, if_pos hf]
  rfl

/-- Without a record the command ends with 6. -/
theorem exec_imgCmdDone_noRecord (hf : s.ld.flashAnswers = true) (hc : s.curRec = none) (answers erase first second : Bool) :
    exec (.imgCmdDone answers erase first second) s = .next ((Act.imgCmdEnd 6).run s) := by
  show Act.go (imgCmdDone _) s = _
  unfold State.imgCmdRefused at h
  rw [Act.go_eq, imgCmdDone, Act.get_run, hb, Act.opt_some]
  dsimp only
  rw [Act.when_run, if_pos he, if_neg h, if_neg (by simp [hf]), hc]
  rfl

/-- With a current record the command ends with 5 behind the last epoch, and otherwise by its record. -/
theorem exec_imgCmdDone_record {c : EpochRec} (hf : s.ld.flashAnswers = true) (hc : s.curRec = some c)
    (answers erase first second : Bool) :
    exec (.imgCmdDone answers erase first second) s =
      .next ((if c.epoch = 0xFFFF then Act.imgCmdEnd 5
        else Act.writeRecord (c.commanded op arg) ⟨answers, erase, first, second⟩ fun ok => Act.imgCmdEnd (if ok then 2 else 4)).run s) := by
  show Act.go (imgCmdDone _) s = _
  unfold State.imgCmdRefused at h
  rw [Act.go_eq, imgCmdDone, Act.get_run, hb, Act.opt_some]
  dsimp only
  rw [Act.when_run, if_pos he, if_neg h, if_neg (by simp [hf]), hc]
  rfl

theorem exec_imgCmdDone_last {c : EpochRec} (hf : s.ld.flashAnswers = true) (hc : s.curRec = some c) (hl : c.epoch = 0xFFFF)
    (answers erase first second : Bool) :
    exec (.imgCmdDone answers erase first second) s = .next ((Act.imgCmdEnd 5).run s) := by
  rw [exec_imgCmdDone_record hb he h hf hc, if_pos hl]

/-- The record of the command stands at the first free position behind the current one. -/
theorem exec_imgCmdDone_written {c : EpochRec} {i : Nat} (hf : s.ld.flashAnswers = true) (hc : s.curRec = some c)
    (hl : c.epoch ≠ 0xFFFF) (hi : s.freeFrom c.sector (c.pos + 1) = some i) (erase second : Bool) :
    exec (.imgCmdDone true erase true second) s =
      .next ((Act.imgCmdEnd 2).run ((Act.recordStands c.sector i (c.commanded op arg)).run s)) := by
  rw [exec_imgCmdDone_record hb he h hf hc, if_neg hl, writeRecord_next rfl rfl hc hi, if_pos rfl]

end

/-- A command that ends without a record leaves the flash as it is. -/
theorem imgCmdEnd_unwritten {n : Nat} (hn : n < 16) (s : State) :
    ImgCmdEnds n s ((Act.imgCmdEnd n).run s) ∧ ((Act.imgCmdEnd n).run s).flash = s.flash := ⟨imgCmdEnd_ends hn s, rfl⟩

/-- IMG_CMD_DONE with a free position: RESULT 2, and the record of the command stands there. -/
theorem imgCmdDone_written_gives {s : State} {op arg : Nat} {c : EpochRec} {i : Nat} (hb : s.ld.cmdBusy = some (op, arg))
    (he : s.ld.erasing = none) (h : ¬ s.imgCmdRefused op arg) (hf : s.ld.flashAnswers = true) (hc : s.curRec = some c)
    (hl : c.epoch ≠ 0xFFFF) (hi : s.freeFrom c.sector (c.pos + 1) = some i) (erase second : Bool) :
    Gives (.imgCmdDone true erase true second) s fun t =>
      ImgCmdEnds 2 s t ∧ t.flashRead (recAt c.sector i) 12 = (c.commanded op arg).bytes := by
  refine ⟨_, exec_imgCmdDone_written hb he h hf hc hl hi erase second, ?_⟩
  have hread := recordStands_read (freeFrom_posFree hi) (c.commanded op arg)
  have hevt : ((Act.recordStands c.sector i (c.commanded op arg)).run s).reg (IMG.EVT 0) = s.reg (IMG.EVT 0) :=
    writes_recordStands.same s _ (by decide)
  have hno : ((Act.recordStands c.sector i (c.commanded op arg)).run s).evtNo = s.evtNo :=
    touches_recordStands.same s .evtNo (by decide)
  generalize (Act.recordStands c.sector i (c.commanded op arg)).run s = u at hread hevt hno ⊢
  obtain ⟨⟨hbusy, hres, hlog⟩, hflash⟩ := imgCmdEnd_unwritten (n := 2) (by decide) u
  exact ⟨⟨hbusy, hres, hlog.since hevt hno⟩, (flashRead_of hflash _ _).trans hread⟩

end Sys2Proof.Machine

namespace Sys2Proof.Proofs

open Sys2Proof.Machine

/-- Settles O27: a record stands because its position was free; every other outcome, of step 10 and of IMG.CMD, is what the flash's
answer, the current record and the argument select, in the order of log entry 112. -/
theorem epochRecords : Obligations.EpochRecords := by
  unfold Obligations.EpochRecords
  intro s answers erase second
  refine ⟨fun h10 hd => ⟨?next, ?failed, ?last, ?lost, ?first, ?silent⟩, fun k => epochBackgroundErase_end_gives, ?erase, ?accept,
    fun op arg hb he => ⟨?refused, ?noAnswer, ?noRecord, ?exhausted, ?written⟩⟩
  case next => exact fun c i hf hc he hi => epochWrite_next_gives h10 hd hf hc he hi erase second
  case failed => exact fun c hf hc he => epochWrite_failed_gives h10 hd hf hc he erase second
  case last =>
    exact fun c hf hc he => ⟨_, exec_epochWrite_last h10 hd hf hc he _ _ _ _, epochOutcome_unwritten (by decide) (by decide) c 5 s⟩
  case lost =>
    exact fun hf hc hi => ⟨_, exec_epochWrite_lost h10 hd hf hc hi _ _ _ _, epochOutcome_unwritten (by decide) (by decide) {} 3 s⟩
  case first => exact fun i hf hc hn hi => epochWrite_first_gives h10 hd hf hc hn hi erase second
  case silent =>
    exact fun hf => ⟨_, exec_epochWrite_silent h10 hd hf _ _ _ _, epochOutcome_unwritten (by decide) (by decide) {} 3 s⟩
  case erase => exact fun c he hc hst hfw hf hn hs => epochBackgroundErase_begin_gives he hc hst hfw hf hn hs answers
  case accept =>
    exact fun w ag u v hst hr =>
      ⟨fun h => ⟨_, reach_imgCmdRaiseFloor h, imgCmd_accepted hst hr (by decide) (by decide) rfl⟩,
        fun h => ⟨_, reach_imgCmdSetPrefer h, imgCmd_accepted hst hr (by decide) (by decide) rfl⟩⟩
  case refused => exact fun h => ⟨_, exec_imgCmdDone_refused hb he h _ _ _ _, imgCmdEnd_unwritten (by decide) s⟩
  case noAnswer => exact fun h hf => ⟨_, exec_imgCmdDone_silent hb he h hf _ _ _ _, imgCmdEnd_unwritten (by decide) s⟩
  case noRecord => exact fun h hf hc => ⟨_, exec_imgCmdDone_noRecord hb he h hf hc _ _ _ _, imgCmdEnd_unwritten (by decide) s⟩
  case exhausted => exact fun c h hf hc hl => ⟨_, exec_imgCmdDone_last hb he h hf hc hl _ _ _ _, imgCmdEnd_unwritten (by decide) s⟩
  case written => exact fun c i h hf hc hl hi => imgCmdDone_written_gives hb he h hf hc hl hi erase second

end Sys2Proof.Proofs

/-! Registers and Eyepiece: register writes at each of their checks (R142 to R163, R176), then what the Eyepiece commands do and what
follows them (R155 to R186). -/

namespace Sys2Proof.Machine

/-! ## A write that comes to its register's checks -/

/-- What the sender of a write is told at its end: a host gets the reply code. -/
def Act.told (w : Sender) (c : Code) : Act :=
  match w with
  | .spi => Act.replied .spi c
  | .eth => Act.replied .eth c
  | .hart _ _ _ => Act.skip

theorem Act.ends_run (w : Sender) (ag : Agent) (a : Nat) (c : Code) (s : State) :
    (Act.ends w ag a c).run s = (Act.told w c).run ((Act.fwFail ag a c).run s) := rfl

theorem told_run (w : Sender) (c : Code) (s : State) : (Act.told w c).run s = { s with out := endOut w c s.out } := by
  cases w <;> rfl

/-- A write that is offered to its register is a write by its agent, in the state in which it comes there. -/
theorem send_offered {s u : State} {w : Sender} {ag : Agent} {a : Nat} {v : Word} (h : s.offered w a v = some (ag, u)) :
    (Act.send w a v).run s = (Act.write ag false a v (Act.told w)).run u := by
  cases w with
  | spi =>
    obtain ⟨hc, rfl, rfl⟩ : 6 ≤ s.start.step ∧ Agent.spi = ag ∧ s = u := by simpa [State.offered] using h
    simp only [Act.send, Act.get_run, Act.when_run, if_pos hc]
    rfl
  | eth =>
    obtain ⟨⟨hd, hr⟩, rfl, rfl⟩ : (s.start.ethDone = true ∧ s.ethAllows 2 = true) ∧ Agent.eth = ag ∧ s = u := by
      simpa [State.offered] using h
    simp only [Act.send, Act.get_run, Act.when_run, if_pos hd, if_pos hr]
    rfl
  | hart p c n =>
    simp only [State.offered] at h
    cases hk : s.onCore p c with
    | none => simp [hk] at h
    | some k =>
      simp only [hk] at h
      have e : (Act.send (.hart p c n) a v).run s = (Act.hartStore p c k a (.fw p k c n) v).run s := by
        simp only [Act.send, Act.get_run, hk, Act.opt_some]
      rw [e, Act.hartStore]
      by_cases hf : storeFree p c k a = true
      · rw [if_pos hf] at h ⊢
        cases h
        rfl
      · rw [if_neg hf] at h ⊢
        split at h
        · cases h
        · rename_i hn
          obtain ⟨hload, hsig⟩ := not_or.mp hn
          obtain ⟨e, he, hx⟩ := Option.map_eq_some_iff.mp h
          cases hx
          have hl : loadTarget a = none := by simpa using hload
          simp only [State.blockEntry, Option.filter_eq_some_iff, Bool.and_eq_true, Bool.or_eq_true, beq_iff_eq,
            decide_eq_true_eq] at he
          obtain ⟨hfind, hrate, hmask⟩ := he
          simp only [Act.storeChecked, hl, if_neg hsig, Act.aprBlock, Act.aperture, Act.get_run, Option.isSome_none, Bool.and_true,
            beq_false, hfind]
          by_cases hr : s.aprRate p e = 0
          · rw [if_pos hr, if_neg (by simp [hmask]), Act.when_run, if_pos trivial, State.charged, if_pos hr]
            rfl
          · rw [if_neg hr, if_pos (hrate.resolve_left hr), Act.seq_run, if_neg (by simp [hmask]), Act.when_run, if_pos trivial,
              State.charged, if_neg hr]
            rfl

/-- A write that passes the checks before those of its register's Kind is judged by that Kind. -/
theorem write_gated {s : State} {ag : Agent} {a : Nat} {v : Word} (h : s.gated ag a v = true) (k : Code → Act) :
    (Act.write ag false a v k).run s = (Act.writeKind ag a v fun c => Act.seq (Act.fwFail ag a c) (k c)).run s := by
  simp only [State.gated, Bool.and_eq_true, Bool.not_eq_true', Bool.and_eq_false_iff, bne_eq_false_iff_eq, beq_eq_false_iff_ne,
    decide_eq_false_iff_not] at h
  obtain ⟨⟨⟨⟨⟨⟨his, hdeny⟩, hbusy⟩, himg⟩, hheld⟩, hcut⟩, hposted⟩ := h
  simp only [Act.write, Act.get_run]
  rw [if_neg (by simp [his]), if_neg (by simp [hdeny]), if_neg (by rintro ⟨x, y⟩; simp [x, y] at hbusy),
    if_neg (by rintro ⟨x, y⟩; exact himg.elim (fun n => n x) y), if_neg (by rintro ⟨x, -, y⟩; simp [x, y] at hheld),
    if_neg (by simp [hcut]), if_neg (by rintro ⟨x, y, z⟩; simp [x, y, z] at hposted)]

/-- REGISTER_WRITE of a write that passes the checks before those of its register's Kind. -/
theorem exec_registerWrite_gated {s u : State} {w : Sender} {ag : Agent} {a v : Nat} (ha : a < 2 ^ 24)
    (h : s.offered w a (BitVec.ofNat 48 v) = some (ag, u)) (hg : u.gated ag a (BitVec.ofNat 48 v) = true) :
    exec (.registerWrite w a v) s = .next ((Act.writeKind ag a (BitVec.ofNat 48 v) (Act.ends w ag a)).run u) := by
  rw [exec_registerWrite s w a v ha, send_offered h, write_gated hg]
  rfl

/-! ## Writes that are turned away (R146, R148, R153, R154, R156) -/

theorem touches_ends (w : Sender) (ag : Agent) (a : Nat) (c : Code) : Touches (Act.ends w ag a c) [.irqs, .out] := by
  refine Touches.seq (touches_Act_fwFail (by decide)) ?_
  cases w with
  | spi => exact touches_Act_replied (by decide)
  | eth => exact touches_Act_replied (by decide)
  | hart p c n => exact Touches.skip

theorem ends_out (w : Sender) (ag : Agent) (a : Nat) (c : Code) (s : State) :
    ((Act.ends w ag a c).run s).out = endOut w c s.out := by
  have hf : Touches (Act.fwFail ag a c) [.irqs] := touches_Act_fwFail (by decide)
  have hout : ((Act.fwFail ag a c).run s).out = s.out := hf.same s .out (by decide)
  rw [Act.ends_run, told_run, hout]

/-- A block error stays recorded where neither registers nor event numbers change. -/
theorem Flagged.until {a i : Nat} {ag : Agent} {s u t : State} (h : Flagged a i ag s u) (hr : t.regs = u.regs)
    (he : t.evtNo = u.evtNo) : Flagged a i ag s t := by
  simp only [Flagged, Holds, OnlyRegs, State.reg, State.evtCount, State.evt, hr, he] at h ⊢
  exact h

/-- A write that is turned away with a block error: the error is recorded, and the sender gets the code. -/
theorem blkErr_ends (a i : Nat) (ag : Agent) (w : Sender) (c : Code) (u : State) :
    Flagged a i ag u ((Act.seq (Act.blkErr a i ag) (Act.ends w ag a c)).run u) ∧
      ((Act.seq (Act.blkErr a i ag) (Act.ends w ag a c)).run u).out = endOut w c u.out := by
  have hk := (touches_ends w ag a c).same ((Act.blkErr a i ag).run u)
  exact ⟨(blkErr_flagged a i ag u).until (hk .regs (by decide)) (hk .evtNo (by decide)), by rw [Act.seq_run, ends_out, blkErr_out]⟩

/-- A write to a locked register is turned away. -/
theorem writeKind_locked {u : State} {a : Nat} (h : u.regLocked a = true) (ag : Agent) (v : Word) (k : Code → Act) :
    (Act.writeKind ag a v k).run u = (Act.seq (Act.blkErr a 1 ag) (k .locked)).run u := by
  rw [Act.writeKind, Act.get_run, if_pos h]

/-- A write to a CF register of an enabled block is turned away. -/
theorem writeKind_enabled {u : State} {a : Nat} (hl : u.regLocked a = false) (hcf : ((regRow a).any fun r => r.kind == .cf) = true)
    (he : u.enabled (aDie a) (aBlk a) = true) (hi : ignores a = false) (ag : Agent) (v : Word) (k : Code → Act) :
    (Act.writeKind ag a v k).run u = (Act.seq (Act.blkErr a 0 ag) (k .rejectedEnabled)).run u := by
  rw [Act.writeKind, Act.get_run, if_neg (by rw [hl]; decide), if_pos ⟨hcf, he, hi⟩]

/-- A write to a block of the slow domain that is busy with a posted write is turned away. -/
theorem write_busy {u : State} {ag : Agent} {a : Nat} {v : Word} (his : u.regIs a = true) (hd : u.denies ag a v = false)
    (hs : u.startBusy = false) (hh : u.blockHeld (aDie a) (aBlk a) = false) (h4 : 4 ≤ aDie a) (hc : u.writeCut a = false)
    (hslow : blockSlow (aBlk a) = true) (hp : (u.postedAt (aDie a) (aBlk a)).isSome = true) (k : Code → Act) :
    (Act.write ag false a v k).run u = (Act.seq (Act.blkErr a 3 ag) (Act.seq (Act.fwFail ag a .busy) (k .busy))).run u := by
  have himg : a ≠ IMG.CMD 0 := by
    rintro rfl
    exact absurd h4 (by decide)
  simp only [Act.write, Act.get_run]
  rw [if_neg (by simp [his]), if_neg (by simp [hd]), if_neg (by simp [hs]), if_neg (fun x => himg x.1), if_neg (by simp [hh]),
    if_neg (by simp [hc]), if_pos ⟨h4, hslow, hp⟩]

/-- A register whose value is refused takes no effect. -/
theorem effect_refused {u : State} {a : Nat} {v : Word} (hr : aReg a ≠ 0x1FFF)
    (hsc : ((regRow a).any fun r => r.kind == .sc) = false) (h : u.refuses a v = true) (ag : Agent) (k : Code → Act) :
    (Act.effect ag a v k).run u = (Act.badValue a ag k).run u := by
  simp only [Act.effect, Act.get_run]
  rw [if_neg hr, if_neg (by rw [hsc]; decide), if_pos h]

/-- A register of a Prism die takes a write at once (R155). -/
theorem posts_prism_die {a : Nat} (h : aDie a < 4) : posts a = false := by
  simp [posts, Nat.not_le.mpr h]

/-- REGISTER_WRITE of a write that arrives at a register that is not a posted one. -/
theorem exec_registerWrite_arrives {s u : State} {w : Sender} {ag : Agent} {a v : Nat} (ha : a < 2 ^ 24)
    (h : s.arrives w a (BitVec.ofNat 48 v) = some (ag, u)) (hp : posts a = false) :
    exec (.registerWrite w a v) s = .next ((Act.effect ag a (BitVec.ofNat 48 v) (Act.ends w ag a)).run u) := by
  rw [exec_registerWrite s w a v ha, send_arrives h hp]

/-! ## Posted writes (R154, R155) -/

theorem postedAt_setPosted (d b : Nat) (o : Option Posted) (s : State) (d' b' : Nat) :
    ((Act.setPosted d b o).run s).postedAt d' b' = if 256 * d' + b' = 256 * d + b then o else s.postedAt d' b' := by
  simp only [State.postedAt, Act.setPosted, Act.upd_run, Sparse.get_put]

/-- REGISTER_WRITE of a write that arrives at a posted register: its block is busy with it (R155). -/
theorem exec_registerWrite_posted {s u : State} {w : Sender} {ag : Agent} {a v : Nat} (ha : a < 2 ^ 24)
    (h : s.arrives w a (BitVec.ofNat 48 v) = some (ag, u)) (hp : posts a = true) :
    exec (.registerWrite w a v) s = .next ((Act.seq (Act.setPosted (aDie a) (aBlk a)
      (some { addr := a, value := BitVec.ofNat 48 v, agent := ag })) (Act.ends w ag a .ok)).run u) := by
  rw [exec_registerWrite s w a v ha, send_posted h hp]

/-- A posted write that has been accepted: only the note of it, and the reply. -/
theorem posted_ends (d b : Nat) (o : Option Posted) (w : Sender) (ag : Agent) (a : Nat) (u : State) :
    let t := (Act.seq (Act.setPosted d b o) (Act.ends w ag a .ok)).run u
    OnlyRegs [] u t ∧ t.out = endOut w .ok u.out ∧
      ∀ d' b', t.postedAt d' b' = if 256 * d' + b' = 256 * d + b then o else u.postedAt d' b' := by
  have hk := (touches_ends w ag a .ok).same ((Act.setPosted d b o).run u)
  refine ⟨fun x _ => ?_, ends_out w ag a .ok _, fun d' b' => ?_⟩
  · exact congrArg (Sparse.get regReset · x) (hk .regs (by decide))
  · exact (congrArg (Sparse.get (fun _ => none) · (256 * d' + b')) (hk .posted (by decide))).trans (postedAt_setPosted ..)

theorem exec_postedWriteEffect {d b : Nat} (hd : d < 8) (hb : b < 256) (s : State) :
    exec (.postedWriteEffect d b) s = .next ((postedWriteEffect d b).run s) := by
  show Act.go (Act.when (d < 8 ∧ b < 256) (postedWriteEffect d b)) s = _
  rw [Act.go_eq, Act.when_run, if_pos ⟨hd, hb⟩]

/-- A write to the drive dies leaves the posted writes: no operation there accepts another one or resets the package. -/
theorem touches_effect_drive {a : Nat} (h : 4 ≤ aDie a) (ag : Agent) (v : Word) :
    Touches (Act.effect ag a v fun _ => Act.skip) [.regs, .evtNo, .upsets, .irqs, .sup, .sw, .nets, .gw, .mon, .io, .out] := by
  have hskip : ∀ _ : Code, Touches Act.skip [.regs, .evtNo, .upsets, .irqs, .sup, .sw, .nets, .gw, .mon, .io, .out] :=
    fun _ => Touches.skip
  refine Touches.get fun s => Touches.ite (touches_blkCtrl (by decide) hskip) <|
    Touches.ite (touches_Act_clearing (by decide) hskip) <| Touches.ite (touches_Act_badValue (by decide) hskip) ?_
  rw [if_pos h]
  exact touches_Act_effectDrive (by decide) hskip

/-- POSTED_WRITE_EFFECT ends the posted write of its block, whatever the write does. -/
theorem postedWriteEffect_ends {s : State} {d b : Nat} {w : Posted} (h : s.postedAt d b = some w) (h4 : 4 ≤ aDie w.addr) :
    ((postedWriteEffect d b).run s).postedAt d b = none := by
  simp only [postedWriteEffect, Act.get_run, h, Act.opt_some, Act.seq_run]
  have hk := (Touches.when (c := 4 ≤ d ∧ s.dlinkDown (d - 4) = false) (touches_effect_drive h4 w.agent w.value)).same
    ((Act.setPosted d b none).run s) .posted (by decide)
  rw [State.postedAt, hk]
  exact (postedAt_setPosted d b none s d b).trans (if_pos rfl)

/-! ## Clearing writes (R163) -/

/-- A clearing write of an SC register that takes effect. -/
theorem effect_clearing {a : Nat} (hr : aReg a ≠ 0x1FFF) (hsc : ((regRow a).any fun r => r.kind == .sc) = true) (ag : Agent) (v : Word)
    (k : Code → Act) (u : State) : (Act.effect ag a v k).run u = (Act.clearing ag a v k).run u := by
  simp only [Act.effect, Act.get_run]
  rw [if_neg hr, if_pos hsc]

theorem exec_clearBySequence {s : State} {w : Sender} {a q : Nat} (ha : a < 2 ^ 24) (hq : q < 256)
    (hsc : ((regRow a).any fun r => r.kind == .sc) = true) :
    exec (.clearBySequence w a q) s = .next ((Act.send w a (fset 0 scSeq q)).run s) := by
  show Act.go (Act.when (a < 2 ^ 24 ∧ q < 256) (clearBySequence w a q)) s = _
  rw [Act.go_eq, Act.when_run, if_pos ⟨ha, hq⟩, clearBySequence, Act.when_run, if_pos hsc]

/-- An admissible clearing write clears the event bits that it reaches and leaves every other bit. -/
theorem clearSeq_bit (a q : Nat) (u : State) (i : Nat) :
    bit (((Act.clearSeq a q).run u).reg a) i =
      (bit (u.reg a) i && bit (regMask a) i && !(decide (i ∈ evtBits a) && u.seqClears a q i)) := by
  simp only [Act.clearSeq, Act.get_run, Act.setReg_run, State.reg_storeReg, if_true, bit_and, bit_clearBits, List.mem_filter]
  rw [Bool.and_right_comm, Bool.decide_and, Bool.decide_eq_true]

/-! ## BLK_CTRL (R145, R149, R152) -/

/-- A block with a CF register has rows, those of its BLK_CTRL among them. -/
theorem blockHasCf_rows {d b : Nat} (hb : b < 256) (h : blockHasCf (decide (4 ≤ d)) b = true) :
    ((if d < 4 then rowsPrism b else rowsDrive b).isSome) = true := by
  have hp : ∀ b < 256, blockHasCf false b = true → (rowsPrism b).isSome = true := by decide +kernel
  have hq : ∀ b < 256, blockHasCf true b = true → (rowsDrive b).isSome = true := by decide +kernel
  by_cases h4 : d < 4
  · rw [if_pos h4]
    rw [decide_eq_false (Nat.not_le.mpr h4)] at h
    exact hp b hb h
  · rw [if_neg h4]
    rw [decide_eq_true (Nat.not_lt.mp h4)] at h
    exact hq b hb h

/-- The bits of BLK_CTRL: ENABLE and ENABLED. -/
theorem regMask_ctrl {d b : Nat} (hd : d < 8) (hb : b < 256) (h : blockHasCf (decide (4 ≤ d)) b = true) :
    regMask (BLK_CTRL d b) = 3 := by
  have hrows : blockRows (BLK_CTRL d b) = if d < 4 then rowsPrism b else rowsDrive b := by
    rw [blockRows, BLK_CTRL, aDie_ra hb (by decide), aBlk_ra hb (by decide), if_pos hd]
  obtain ⟨rows, hr⟩ := Option.isSome_iff_exists.mp (blockHasCf_rows hb h)
  rw [regMask, regRow, hrows, hr, BLK_CTRL, aReg_ra (by decide)]
  rfl

/-- What a block does as it becomes enabled does not write its own BLK_CTRL. -/
theorem writes_blockOn_ctrl {d b : Nat} : Writes (Act.blockOn d b) fun a => a ≠ BLK_CTRL d b :=
  writes_Act_blockOn (ra_ne_ctrl (by decide)) (fun _ => ra_ne_ctrl (by decide)) (fun _ => ra_ne_ctrl (by decide))
    (ra_ne_ctrl (by decide)) (ra_ne_ctrl (by decide)) (ra_ne_ctrl (by decide))

/-- A block that is enabled is enabled, and nothing leaves the device for it. -/
theorem enable_enabled {d b : Nat} (hd : d < 8) (hb : b < 256) (h : blockHasCf (decide (4 ≤ d)) b = true) (s : State) :
    ((Act.setEnable d b true).run s).enabled d b = true ∧ ((Act.setEnable d b true).run s).out = s.out := by
  have hw : Writes (if true = s.enabled d b then Act.skip else if true = true then Act.blockOn d b else Act.blockOff d b)
      fun a => a ≠ BLK_CTRL d b := Writes.ite Writes.skip (by rw [if_pos rfl]; exact writes_blockOn_ctrl)
  have ht : Touches (if true = s.enabled d b then Act.skip else if true = true then Act.blockOn d b else Act.blockOff d b)
      [.regs, .evtNo, .upsets, .irqs, .sw, .nets, .gw, .mon, .io] :=
    Touches.ite Touches.skip (by rw [if_pos rfl]; exact touches_Act_blockOn (by decide))
  have hreg : ((Act.setEnable d b true).run s).reg (BLK_CTRL d b) = 3 := by
    refine (hw.same ((Act.setReg (BLK_CTRL d b) 3).run s) (BLK_CTRL d b) (fun k => k rfl)).trans ?_
    rw [Act.setReg_run, State.reg_storeReg, if_pos rfl, regMask_ctrl hd hb h]
    rfl
  refine ⟨?_, ht.same ((Act.setReg (BLK_CTRL d b) 3).run s) .out (by decide)⟩
  rw [State.enabled, if_pos h, hreg]
  rfl

/-- The end of a write changes no block's enable. -/
theorem ends_enabled (w : Sender) (ag : Agent) (a : Nat) (c : Code) (s : State) (d b : Nat) :
    ((Act.ends w ag a c).run s).enabled d b = s.enabled d b := by
  have hk : ((Act.ends w ag a c).run s).regs = s.regs := (touches_ends w ag a c).same s .regs (by decide)
  simp only [State.enabled, State.reg, hk]

/-- ENABLE of a written word. -/
theorem enable_bit (v : Word) (n : Nat) : bit (fset v BLK_CTRL.ENABLE n) 0 = n.testBit 0 := by
  rw [bit_fset _ _ _ _ (by decide), if_pos (by decide)]
  rfl

/-- A write that reaches BLK_CTRL names a die and a block. -/
theorem reaches_ctrl_range {w : Sender} {d b v : Nat} {s u : State} {ag : Agent}
    (h : Reaches (.blockEnable w d b v) s ag u) : d < 8 ∧ b < 256 := by
  have hw : (w.ok && decide (d < 8) && decide (b < 256) && decide (v < 2 ^ 48)) = true := h.1
  simp only [Bool.and_eq_true, decide_eq_true_eq] at hw
  obtain ⟨⟨⟨-, hd⟩, hb⟩, -⟩ := hw
  exact ⟨hd, hb⟩

end Sys2Proof.Machine

namespace Sys2Proof.Proofs

open Sys2Proof.Machine

/-- Settles O9: a host's write asks first whether there is a register, then whether it is denied; each answer is the whole effect. -/
theorem writeOfNoRegister : Obligations.WriteOfNoRegister := by
  unfold Obligations.WriteOfNoRegister
  intro s w ag a v ha _ hw
  obtain ⟨hsend, -, -, hfail⟩ := host_send hw a (BitVec.ofNat 48 v)
  rw [exec_registerWrite s w a v ha, hsend, Act.write, Act.get_run]
  refine ⟨fun his => ?_, fun his hd => ?_⟩
  · rw [if_pos his]
    simp only [hfail]
    rfl
  · rw [if_neg (by simp [his]), if_pos hd]
    simp only [hfail]
    rfl

/-- Settles O10: the register's lock is the first thing that its Kind asks. -/
theorem lockedWriteIgnored : Obligations.LockedWriteIgnored := by
  unfold Obligations.LockedWriteIgnored
  intro s u w ag a v ha _ ho hg hl
  exact ⟨_, (exec_registerWrite_gated ha ho hg).trans (congrArg _ (writeKind_locked hl ..)), blkErr_ends ..⟩

/-- Settles O11: after the lock comes the enable of the block of a CF register. -/
theorem enabledWriteRejected : Obligations.EnabledWriteRejected := by
  unfold Obligations.EnabledWriteRejected
  intro s u w ag a v ha _ ho hg hl hcf he hi
  exact ⟨_, (exec_registerWrite_gated ha ho hg).trans (congrArg _ (writeKind_enabled hl hcf he hi ..)), blkErr_ends ..⟩

/-- Settles O12: a posted write in progress turns the write away before its register's Kind is asked. -/
theorem busyWriteIgnored : Obligations.BusyWriteIgnored := by
  unfold Obligations.BusyWriteIgnored
  intro s u w ag a v ha _ ho his hd hs hh h4 hc hslow hp
  refine ⟨_, ?_, blkErr_ends ..⟩
  rw [exec_registerWrite s w a v ha, send_offered ho, write_busy his hd hs hh h4 hc hslow hp]
  rfl

/-- Settles O13: a register of a Prism die takes its write at once, and refuses the value before anything else of its effect. -/
theorem refusedValueWritesNothing : Obligations.RefusedValueWritesNothing := by
  unfold Obligations.RefusedValueWritesNothing
  intro s u w ag a v ha _ h4 hr hsc harr href
  exact ⟨_, (exec_registerWrite_arrives ha harr (posts_prism_die h4)).trans (congrArg _ (effect_refused hr hsc href ..)),
    blkErr_ends ..⟩

/-- Settles O14: acceptance only notes the write, and its effect first removes the note; nothing that a register of a drive die does
accepts another. -/
theorem postedWriteWaits : Obligations.PostedWriteWaits := by
  unfold Obligations.PostedWriteWaits
  intro s z w ag a v ha _ harr hp
  have h4 : 4 ≤ aDie a := by
    simp only [posts, Bool.and_eq_true, decide_eq_true_eq] at hp
    obtain ⟨⟨h4, -⟩, -⟩ := hp
    exact h4
  have hd : aDie a < 8 := by unfold aDie; omega
  have hb : aBlk a < 256 := by unfold aBlk; omega
  obtain ⟨hregs, hout, hat⟩ := posted_ends (aDie a) (aBlk a) (some { addr := a, value := BitVec.ofNat 48 v, agent := ag }) w ag a z
  have hown := (hat (aDie a) (aBlk a)).trans (if_pos rfl)
  refine ⟨_, exec_registerWrite_posted ha harr hp, hregs, hout, hown, fun d b _ hb' hne => ?_, _, exec_postedWriteEffect hd hb _,
    postedWriteEffect_ends hown h4⟩
  refine (hat d b).trans (if_neg fun e => hne ?_)
  rw [Prod.mk.injEq]
  omega

/-- Settles O15: a clearing write asks for nothing of its value but SEQ, and clears or reports. -/
theorem clearBySequence : Obligations.ClearBySequence := by
  unfold Obligations.ClearBySequence
  intro s u w ag a q ha hq h4 hr hsc harr
  have hf : fget (fset 0 scSeq q) scSeq = q := (fget_fset 0 scSeq q (by decide)).trans (Nat.mod_eq_of_lt hq)
  have hrun : exec (.clearBySequence w a q) s = .next ((Act.clearing ag a (fset 0 scSeq q) (Act.ends w ag a)).run u) := by
    rw [exec_clearBySequence ha hq hsc, send_arrives harr (posts_prism_die h4), effect_clearing hr hsc]
  have hok : u.seqOk a q = decide ((u.evtCount a % 256 + 256 - q) % 256 ≤ 127) := by
    rw [State.seqOk, decide_eq_decide]
    omega
  simp only [Act.clearing, Act.get_run, hf, hok] at hrun
  refine ⟨fun hin => ⟨_, hrun, ?_⟩, fun hout => ⟨_, hrun, ?_⟩, fun v hv hvq hva => ?_⟩
  · rw [decide_eq_true hin, if_pos rfl, Act.seq_run, Act.ends_ok]
    refine ⟨(writes_Act_clearSeq (List.mem_singleton_self a)).onlyRegs u, ?_, fun i _ => ?_⟩
    · rfl
    · refine (clearSeq_bit a q u i).trans ?_
      rw [State.seqClears, Nat.mod_eq_of_lt hq]
  · rw [decide_eq_false (Nat.not_le.mpr hout), if_neg Bool.false_ne_true]
    exact blkErr_ends a 4 ag w .ok u
  · rw [exec_registerWrite_arrives ha hva (posts_prism_die h4), effect_clearing hr hsc, hrun]
    simp only [Act.clearing, Act.get_run, hvq, hok]

/-- Settles O16: BLK_CTRL takes the value of ENABLE, and what the block does on its way does not write it again. -/
theorem blocksAreEnabledAndDisabled : Obligations.BlocksAreEnabledAndDisabled := by
  unfold Obligations.BlocksAreEnabledAndDisabled
  intro s u w ag d b v hcf
  have hon : ∀ x : Word, bit (fset x BLK_CTRL.ENABLE 1) 0 ≠ false := fun x => by rw [enable_bit]; decide
  refine ⟨fun h => ⟨_, reach_blockDisable h, ?_⟩, fun h hbad hpar => ⟨_, reach_blockEnable h, ?_⟩,
    fun h hbad hpar => ⟨_, reach_blockEnable h, ?_⟩⟩
  · rw [blkCtrl, Act.get_run, if_pos (by rw [enable_bit]; decide), Act.seq_run]
    exact ⟨(ends_enabled ..).trans (disable_enabled hcf u), _, ends_out ..⟩
  · obtain ⟨hd, hb⟩ := reaches_ctrl_range h
    obtain ⟨hen, hout⟩ := enable_enabled hd hb hcf u
    rw [blkCtrl, Act.get_run, if_neg (hon _), if_neg (by simp [hbad]), if_neg (by simp [hpar]), Act.seq_run, ends_enabled, ends_out, hout]
    exact ⟨hen, rfl⟩
  · rw [blkCtrl, Act.get_run, if_neg (hon _), if_neg (by simp [hbad]), if_pos hpar]
    refine ⟨fun x _ => ?_, ends_out ..⟩
    exact congrArg (Sparse.get regReset · x) ((touches_ends w ag (BLK_CTRL d b) .parity).same u .regs (by decide))

end Sys2Proof.Proofs

/-! The write that restarts the extremes of VBAT is a posted one, and a posted write is lost where the drive link has been cut and its
loss is not detected yet (R38, R155, R782). -/

namespace Sys2Proof.Machine

/-- The package in service, the link of drive die 0 cut and not detected lost; its VBAT is 1 and the lowest value so far 5. -/
def linkCutAtOnset : State :=
  { start := { step := 15 }, sup := [(0, { vbat := 1, vmin := 5 })], prism := [(0, { cutRank := [0] })] }

theorem linkCutAtOnset_arrives : linkCutAtOnset.arrives .spi (SUP.CTRL 0) (fset (BitVec.ofNat 48 0) SUP.CTRL.MINMAX_CLR 1) =
    some (.spi, linkCutAtOnset) := by
  rw [State.arrives, if_pos ⟨by decide, by decide +kernel⟩]

theorem linkCutAtOnset_reaches : Reaches (.supMinmaxClear .spi 0 0) linkCutAtOnset .spi linkCutAtOnset :=
  ⟨rfl, _, _, _, rfl, linkCutAtOnset_arrives, .inl rfl⟩

/-- A posted write whose drive link carries nothing is only forgotten. -/
theorem postedWriteEffect_cut {s : State} {d b : Nat} (h : s.dlinkDown (d - 4) = true) (x : Nat) :
    ((postedWriteEffect d b).run s).supply x = s.supply x := by
  simp only [postedWriteEffect, Act.get_run]
  cases s.postedAt d b with
  | none => rfl
  | some w => rw [Act.opt_some, Act.seq_run, Act.when_run, if_neg (by simp [h])]; rfl

end Sys2Proof.Machine

namespace Sys2Proof.Proofs

open Sys2Proof.Machine

/-- Refutes O29: the clause of the extremes of VBAT asks only that the drive link is not detected lost. Where it has been cut and that is
not detected yet, the accepted write is lost without report at its effect (R782), and the lowest value 5 does not become VBAT, which is 1. -/
theorem not_eyepieceGoesOn : ¬ Obligations.EyepieceGoesOn := by
  unfold Obligations.EyepieceGoesOn
  intro h
  obtain ⟨-, -, -, -, -, -, hclear, -⟩ := h linkCutAtOnset 0 0
  obtain ⟨t, ht, -, -, heffect⟩ := hclear .spi .spi linkCutAtOnset 0 0 (by decide) linkCutAtOnset_reaches
  rw [reach_supMinmaxClear linkCutAtOnset_reaches] at ht
  cases ht
  obtain ⟨z, hz, hmin, -, -⟩ := heffect (by decide)
  rw [exec_postedWriteEffect (by decide) (by decide)] at hz
  cases hz
  rw [postedWriteEffect_cut (by decide)] at hmin
  exact absurd hmin (by decide)

end Sys2Proof.Proofs

/-! What has left the device has no part in what it does next (log entry 167): an action changes the rest of the state alike whatever
has left before. The check of a received image writes its REGISTER sections on a trial state, so the fact is needed for every write that
an image can make; it makes the verdict on an image independent of the reply to IMAGE_END that has just left (R129, R172). -/

namespace Sys2Proof.Machine

/-- The state with no record of what has left the device. -/
def State.mute (s : State) : State := { s with out := [] }

/-- An action that changes the rest of the state alike whatever has left the device. -/
structure Blind (A : Act) : Prop where
  same : ∀ s, (A.run s).mute = (A.run s.mute).mute

namespace Blind

/-! ## The building blocks of actions -/

theorem skip : Blind Act.skip := ⟨fun _ => rfl⟩

theorem seq {A B : Act} (h : Blind A) (k : Blind B) : Blind (Act.seq A B) :=
  ⟨fun s => by rw [Act.seq_run, Act.seq_run, k.same, h.same, ← k.same]⟩

theorem all_nil : Blind (Act.all []) := skip

theorem all_cons {A : Act} {l : List Act} (h : Blind A) (k : Blind (Act.all l)) : Blind (Act.all (A :: l)) := seq h k

theorem get {k : State → Act} (hk : ∀ s, k s.mute = k s) (h : ∀ s, Blind (k s)) : Blind (Act.get k) :=
  ⟨fun s => by rw [Act.get_run, Act.get_run, hk, (h s).same]⟩

theorem ite {c : Prop} [Decidable c] {A B : Act} (h : Blind A) (k : Blind B) : Blind (if c then A else B) := by
  split
  · exact h
  · exact k

theorem when {c : Prop} [Decidable c] {A : Act} (h : Blind A) : Blind (Act.when c A) := ite h skip

theorem each {α : Type} {l : List α} {g : α → Act} (h : ∀ x, Blind (g x)) : Blind (Act.each l g) := by
  induction l with
  | nil => exact skip
  | cons x l ih => exact seq (h x) ih

theorem all_map {α : Type} {l : List α} {g : α → Act} (h : ∀ x, Blind (g x)) : Blind (Act.all (l.map g)) := each h

theorem opt {α : Type} {o : Option α} {f : α → Act} (h : ∀ x, Blind (f x)) : Blind (Act.opt o f) := by
  cases o with
  | none => exact skip
  | some x => exact h x

theorem free {k : Nat → Act} (h : ∀ c, Blind (k c)) : Blind (Act.free k) := ⟨fun s => (h s.freeCount).same (bumpFree s)⟩

theorem upd {f : State → State} {q : ∀ s, Quiet s (f s)} (h : ∀ s, (f s).mute = (f s.mute).mute) : Blind (Act.upd f q) := ⟨h⟩

theorem setReg {a : Nat} {v : Word} : Blind (Act.setReg a v) := ⟨fun _ => rfl⟩

theorem resetRegs {p : Nat → Bool} : Blind (Act.resetRegs p) := ⟨fun _ => rfl⟩

theorem setTbl {a : Nat} {v : Word} : Blind (Act.setTbl a v) := ⟨fun _ => rfl⟩

theorem dropTbls {p : Nat → Bool} : Blind (Act.dropTbls p) := ⟨fun _ => rfl⟩

theorem setFlash {a : Nat} {v : Byte} : Blind (Act.setFlash a v) := ⟨fun _ => rfl⟩

theorem dropMem : Blind Act.dropMem := ⟨fun _ => rfl⟩

/-! ## Operations

Each proof follows its definition: the building blocks by their rules, an operation that many others use by its lemma, and one that is
used here only by its own definition. A `get` asks that what follows reads nothing but the rest of the state, which holds by
unfolding. -/

theorem event {a i : Nat} : Blind (Act.event a i) := by
  unfold Act.event
  repeat' first
    | exact rfl
    | (with_reducible first
        | exact setReg | exact all_nil | refine get ?_ ?_ | refine all_cons ?_ ?_ | refine upd ?_ | intro _)
    | dsimp only | unfold Act.noteEvt

theorem count {a : Nat} : Blind (Act.count a) := by
  unfold Act.count
  repeat' first
    | exact rfl
    | (with_reducible first
        | exact event | exact setReg | exact all_nil | refine get ?_ ?_ | refine when ?_ | refine all_cons ?_ ?_ | refine seq ?_ ?_
        | refine upd ?_ | intro _)
    | dsimp only | unfold Act.countBy | unfold Act.passedHalf | unfold Act.irqBlk | unfold Act.irq

theorem blkErr {a i : Nat} {ag : Agent} : Blind (Act.blkErr a i ag) := by
  unfold Act.blkErr
  repeat' first
    | exact rfl
    | (with_reducible first
        | exact event | exact setReg | exact all_nil | refine get ?_ ?_ | refine all_cons ?_ ?_ | intro _)
    | dsimp only | unfold Act.setFlds

theorem badValue {a : Nat} {ag : Agent} {k : Code → Act} (hk : ∀ x0, Blind (k x0)) : Blind (Act.badValue a ag k) := by
  unfold Act.badValue
  repeat' first
    | exact rfl
    | (with_reducible first
        | exact hk _ | exact blkErr | refine seq ?_ ?_)

theorem modRecorder {k : Nat} {f : Recorder → Recorder} : Blind (Act.modRecorder k f) := by
  unfold Act.modRecorder
  repeat' first
    | exact rfl
    | (with_reducible first
        | refine get ?_ ?_ | refine upd ?_ | intro _)
    | unfold Act.setRecorder

theorem eventIrq {a i : Nat} : Blind (Act.eventIrq a i) := by
  unfold Act.eventIrq
  repeat' first
    | exact rfl
    | (with_reducible first
        | exact event | refine get ?_ ?_ | refine seq ?_ ?_ | refine upd ?_ | intro _)
    | unfold Act.irqBlk | unfold Act.irq

theorem admDecide {fuel : Nat} : Blind (Act.admDecide fuel) := by
  induction fuel with
  | zero => exact skip
  | succ fuel ih =>
    unfold Act.admDecide
    repeat' first
      | exact rfl
      | (with_reducible first
          | exact ih | exact eventIrq | exact count | exact skip | exact all_nil | refine get ?_ ?_ | refine ite ?_ ?_ | refine when ?_
          | refine all_cons ?_ ?_ | refine seq ?_ ?_ | refine upd ?_ | intro _)
      | dsimp only | split | unfold Act.admGrant | unfold Act.admEnter | unfold Act.wakeCount | unfold Act.wakeEvent | unfold Act.modChan
      | unfold Act.setChan | unfold Act.updIo

theorem admWithdraw {chan : Option Nat} : Blind (Act.admWithdraw chan) := by
  unfold Act.admWithdraw
  repeat' first
    | exact rfl
    | (with_reducible first
        | exact admDecide | refine get ?_ ?_ | refine when ?_ | refine seq ?_ ?_ | refine upd ?_ | intro _)
    | unfold Act.admSettle | unfold Act.updIo

theorem chOff {d c : Nat} {st : ChSt} : Blind (Act.chOff d c st) := by
  unfold Act.chOff
  repeat' first
    | exact rfl
    | (with_reducible first
        | exact admWithdraw | refine get ?_ ?_ | refine ite ?_ ?_ | refine seq ?_ ?_ | refine upd ?_ | intro _)
    | dsimp only | split | unfold Act.modChan | unfold Act.setChan

theorem chSettle {d c : Nat} {guarded : Bool} : Blind (Act.chSettle d c guarded) := by
  unfold Act.chSettle
  repeat' first
    | exact rfl
    | (with_reducible first
        | exact chOff | refine get ?_ ?_ | refine ite ?_ ?_ | refine when ?_ | refine seq ?_ ?_ | refine upd ?_ | intro _)
    | dsimp only | split | unfold Act.chApply | unfold Act.chAsk | unfold Act.modChan | unfold Act.setChan

theorem chSettleAll {d : Nat} {guarded : Bool} : Blind (Act.chSettleAll d guarded) := by
  unfold Act.chSettleAll
  repeat' first
    | exact rfl
    | (with_reducible first
        | exact chSettle | refine each ?_ | intro _)

theorem packageReset {cold : Bool} {b : Nat} {l : List (Fld × Nat)} : Blind (Act.packageReset cold b l) := by
  unfold Act.packageReset
  repeat' first
    | exact rfl
    | (with_reducible first
        | exact event | exact chSettleAll | exact setReg | exact setFlash | exact resetRegs | exact dropTbls | exact dropMem | exact skip
        | exact all_nil | refine get ?_ ?_ | refine ite ?_ ?_ | refine when ?_ | refine opt ?_ | refine each ?_ | refine all_map ?_
        | refine all_cons ?_ ?_ | refine seq ?_ ?_ | refine upd ?_ | refine free ?_ | intro _)
    | dsimp only | split | unfold Act.resetAll | unfold Act.drivesReset | unfold Act.islandOff | unfold Act.setSup | unfold Act.chanWarm
    | unfold Act.modChan | unfold Act.setChan | unfold Act.flashCut | unfold Act.flashUndefined | unfold Act.resume | unfold Act.stepSix
    | unfold Act.stepEight | unfold Act.freeBytes | unfold Act.modKstore | unfold Act.setKstore | unfold Act.internalOnly
    | unfold Act.modDrv | unfold Act.setDrv | unfold Act.fuseTrims | unfold Act.lidSample | unfold Act.setFabOff | unfold Act.recordReset
    | unfold Act.setStart | unfold Act.bumpFld | unfold Act.updIo | unfold Act.setFld | unfold Act.setFlds | unfold Act.noteEvt

theorem partStop {p k : Nat} : Blind (Act.partStop p k) := by
  unfold Act.partStop
  repeat' first
    | exact rfl
    | (with_reducible first
        | exact count | refine badValue ?_ | exact chOff | exact setReg | exact skip | exact all_nil | refine get ?_ ?_ | refine ite ?_ ?_
        | refine when ?_ | refine each ?_ | refine all_cons ?_ ?_ | refine seq ?_ ?_ | refine upd ?_ | intro _)
    | dsimp only | split | unfold Act.loadCmd | unfold chnCmd | unfold Act.chCount | unfold Act.chStop | unfold Act.chFirmware
    | unfold Act.setAprAt | unfold Act.modWpend | unfold Act.setWpend | unfold Act.chApply | unfold Act.chAsk | unfold Act.modChan
    | unfold Act.setChan | unfold Act.store | unfold Act.setFlds | unfold Act.dlinkDrop

theorem partHalt {p k cause : Nat} : Blind (Act.partHalt p k cause) := by
  unfold Act.partHalt
  repeat' first
    | exact rfl
    | (with_reducible first
        | exact event | exact partStop | exact count | exact setReg | exact all_nil | refine get ?_ ?_ | refine all_cons ?_ ?_
        | refine upd ?_ | intro _)
    | unfold Act.modPart | unfold Act.setPart | unfold Act.cpuCount | unfold Act.setFld

theorem pcmdWrite {ag : Agent} {p : Nat} {v : Word} {cont : Code → Act} (hk : ∀ x0, Blind (cont x0)) :
    Blind (Machine.pcmdWrite ag p v cont) := by
  unfold Machine.pcmdWrite
  repeat' first
    | exact rfl
    | (with_reducible first
        | exact hk _ | refine badValue ?_ | exact partStop | exact count | exact partHalt | exact setReg | exact all_nil
        | refine get ?_ ?_ | refine ite ?_ ?_ | refine all_cons ?_ ?_ | refine seq ?_ ?_ | refine upd ?_ | intro _)
    | dsimp only | split | unfold Act.partRestart | unfold Act.modBuf | unfold Act.setBuf | unfold Act.modPart | unfold Act.setPart
    | unfold Act.cpuCount | unfold Act.setRing | unfold Act.setFld

theorem chunkWrite {p : Nat} : Blind (Machine.chunkWrite p) := by
  unfold Machine.chunkWrite
  repeat' first
    | exact rfl
    | (with_reducible first
        | exact count | exact modRecorder | exact all_nil | refine get ?_ ?_ | refine when ?_ | refine opt ?_ | refine all_cons ?_ ?_
        | refine seq ?_ ?_ | refine upd ?_ | intro _)
    | dsimp only | split | unfold Act.tallyMon | unfold Act.modTally | unfold Act.setTally | unfold Act.nvme | unfold Act.emit

theorem writeOut {p : Nat} {fuel : Nat} : Blind (Act.writeOut p fuel) := by
  induction fuel with
  | zero => exact skip
  | succ fuel ih =>
    unfold Act.writeOut
    repeat' first
      | exact rfl
      | (with_reducible first
          | exact ih | exact chunkWrite | exact skip | refine seq ?_ ?_)

theorem put {a : Nat} {v : Word} {k : Code → Act} (hk : ∀ x0, Blind (k x0)) : Blind (Act.put a v k) := by
  unfold Act.put
  repeat' first
    | exact rfl
    | (with_reducible first
        | exact hk _ | exact setReg | exact skip | refine get ?_ ?_ | refine seq ?_ ?_ | intro _)
    | dsimp only | split | unfold Act.store

theorem effectCpu {ag : Agent} {p b r a : Nat} {v : Word} {k : Code → Act} (hk : ∀ x0, Blind (k x0)) :
    Blind (Act.effectCpu ag p b r a v k) := by
  unfold Act.effectCpu
  repeat' first
    | exact rfl
    | (with_reducible first
        | exact hk _ | refine badValue ?_ | exact modRecorder | exact count | exact packageReset | refine pcmdWrite ?_ | exact writeOut
        | exact eventIrq | refine put ?_ | exact event | exact partStop | exact partHalt | exact setReg | exact skip | exact all_nil
        | refine get ?_ ?_ | refine ite ?_ ?_ | refine when ?_ | refine each ?_ | refine all_cons ?_ ?_ | refine seq ?_ ?_ | refine upd ?_
        | intro _)
    | dsimp only | split | unfold timeRateWrite | unfold kickWrite | unfold Act.wdtExpire | unfold mcfgWrite | unfold selWrite
    | unfold snapCmd | unfold Act.snapshot | unfold timeStepWrite | unfold txrWrite | unfold feedVal | unfold Act.sample
    | unfold Act.crossing | unfold Act.modMtr | unfold Act.setMtr | unfold rdCmd | unfold Act.partRestart | unfold Act.modBuf
    | unfold Act.setBuf | unfold Act.modPart | unfold Act.setPart | unfold Act.cpuCount | unfold Act.setRing | unfold skickWrite
    | unfold Act.safeExpire | unfold Act.modSafePair | unfold Act.setSafePair | unfold timeCtrl | unfold ptpCommit | unfold Act.setFld
    | unfold Act.modTim | unfold Act.setTim | unfold Act.store | unfold aprRead | unfold pscpCmd | unfold Act.writeSuper | unfold Act.nvme
    | unfold Act.emit

theorem setTblWords {die tbl idx : Nat} {l : List Word} : Blind (Act.setTblWords die tbl idx l) := by
  unfold Act.setTblWords
  repeat' first
    | exact rfl
    | (with_reducible first
        | exact setTbl | exact all_nil | refine all_map ?_ | refine all_cons ?_ ?_ | intro _)

theorem beamCmd {ag : Agent} {p : Nat} {v : Word} {k : Code → Act} (hk : ∀ x0, Blind (k x0)) : Blind (Machine.beamCmd ag p v k) := by
  unfold Machine.beamCmd
  repeat' first
    | exact rfl
    | (with_reducible first
        | exact hk _ | refine badValue ?_ | exact setTblWords | exact setReg | exact skip | exact all_nil | refine get ?_ ?_
        | refine ite ?_ ?_ | refine each ?_ | refine all_cons ?_ ?_ | refine seq ?_ ?_ | intro _)
    | dsimp only | split | unfold Act.beamRead | unfold Act.store

theorem sigCmd {ag : Agent} {p : Nat} {v : Word} {k : Code → Act} (hk : ∀ x0, Blind (k x0)) : Blind (Machine.sigCmd ag p v k) := by
  unfold Machine.sigCmd
  repeat' first
    | exact rfl
    | (with_reducible first
        | exact hk _ | refine badValue ?_ | exact setReg | exact skip | exact all_nil | refine get ?_ ?_ | refine ite ?_ ?_
        | refine when ?_ | refine each ?_ | refine all_cons ?_ ?_ | refine seq ?_ ?_ | refine upd ?_ | intro _)
    | dsimp only | split | unfold Act.sigWrite | unfold Act.trigger | unfold Act.modPdu | unfold Act.setPdu | unfold Act.setSig
    | unfold Act.store

theorem jobCmd {ag : Agent} {p c : Nat} {v : Word} {k : Code → Act} (hk : ∀ x0, Blind (k x0)) : Blind (Machine.jobCmd ag p c v k) := by
  unfold Machine.jobCmd
  repeat' first
    | exact rfl
    | (with_reducible first
        | exact hk _ | refine badValue ?_ | exact setReg | exact skip | exact all_nil | refine get ?_ ?_ | refine ite ?_ ?_
        | refine all_cons ?_ ?_ | refine seq ?_ ?_ | refine upd ?_ | intro _)
    | dsimp only | split | unfold Act.setJob | unfold Act.store

theorem sgwTblCmd {ag : Agent} {p : Nat} {v : Word} {k : Code → Act} (hk : ∀ x0, Blind (k x0)) : Blind (Machine.sgwTblCmd ag p v k) := by
  unfold Machine.sgwTblCmd
  repeat' first
    | exact rfl
    | (with_reducible first
        | exact hk _ | refine badValue ?_ | exact setTblWords | exact setReg | exact skip | exact all_nil | refine get ?_ ?_
        | refine ite ?_ ?_ | refine each ?_ | refine all_cons ?_ ?_ | refine seq ?_ ?_ | intro _)
    | dsimp only | split | unfold Act.store

theorem fvCmd {ag : Agent} {p : Nat} {v : Word} {k : Code → Act} (hk : ∀ x0, Blind (k x0)) : Blind (Machine.fvCmd ag p v k) := by
  unfold Machine.fvCmd
  repeat' first
    | exact rfl
    | (with_reducible first
        | exact hk _ | refine badValue ?_ | exact setReg | exact skip | exact all_nil | refine get ?_ ?_ | refine ite ?_ ?_
        | refine all_cons ?_ ?_ | refine seq ?_ ?_ | refine upd ?_ | intro _)
    | dsimp only | split | unfold Act.modFresh | unfold Act.setFresh | unfold Act.store

theorem opDenied {p n : Nat} {part : Option Nat} {k : Nat → Nat → Act} (hk : ∀ x0 x1, Blind (k x0 x1)) :
    Blind (Act.opDenied p n part k) := by
  unfold Act.opDenied
  repeat' first
    | exact rfl
    | (with_reducible first
        | exact hk _ _ | exact event | exact count | exact setReg | exact all_nil | refine get ?_ ?_ | refine all_cons ?_ ?_
        | refine seq ?_ ?_ | intro _)
    | unfold Act.denyKey | unfold Act.setFlds

theorem useKey {p n use : Nat} {dir klen part : Option Nat} {user : Nat} {k : KeyUse → Act} (hk : ∀ x0, Blind (k x0)) :
    Blind (Act.useKey p n use dir klen part user k) := by
  unfold Act.useKey
  repeat' first
    | exact rfl
    | (with_reducible first
        | exact hk _ | exact event | exact count | exact setReg | exact all_nil | refine get ?_ ?_ | refine when ?_
        | refine all_cons ?_ ?_ | refine seq ?_ ?_ | refine upd ?_ | refine free ?_ | intro _)
    | dsimp only | split | unfold Act.remask | unfold Act.demand | unfold Act.modKslot | unfold Act.setKslot | unfold Act.denyKey
    | unfold Act.freeBytes | unfold Act.bumpFld | unfold Act.setFld | unfold Act.setFlds

theorem opSource {p src use : Nat} {dir part : Option Nat} {k : Nat → Nat → Act} {go : List Nat → Act}
    (hk : ∀ x0 x1, Blind (k x0 x1)) (hgo : ∀ x0, Blind (go x0)) : Blind (Act.opSource p src use dir part k go) := by
  unfold Act.opSource
  repeat' first
    | exact rfl
    | (with_reducible first
        | exact hk _ _ | exact hgo _ | refine useKey ?_ | intro _)
    | dsimp only | split

theorem keyOp {p op tgt src len : Nat} {part : Option Nat} {k : Nat → Nat → Act} (hk : ∀ x0 x1, Blind (k x0 x1)) :
    Blind (Act.keyOp p op tgt src len part k) := by
  unfold Act.keyOp
  repeat' first
    | exact rfl
    | (with_reducible first
        | exact hk _ _ | refine opDenied ?_ | exact count | refine opSource ?_ ?_ | exact setReg | exact all_nil | refine get ?_ ?_
        | refine ite ?_ ?_ | refine when ?_ | refine each ?_ | refine all_cons ?_ ?_ | refine seq ?_ ?_ | refine upd ?_ | refine free ?_
        | intro _)
    | dsimp only | split | unfold keyLoad | unfold keyUnwrapOp | unfold keyGenerate | unfold keyWrapOp | unfold keyClear
    | unfold Act.clearSlot | unfold keyWrapRoot | unfold keyDerive | unfold Act.demand | unfold Act.fillSlot | unfold Act.modKslot
    | unfold Act.setKslot | unfold Act.setOpBuf | unfold Act.freeBytes | unfold Act.setFld | unfold Act.setFlds

theorem opCmd {ag : Agent} {p : Nat} {v : Word} {k : Code → Act} (hk : ∀ x0, Blind (k x0)) : Blind (Machine.opCmd ag p v k) := by
  unfold Machine.opCmd
  repeat' first
    | exact rfl
    | (with_reducible first
        | exact hk _ | refine badValue ?_ | refine keyOp ?_ | exact setReg | exact skip | exact all_nil | refine get ?_ ?_
        | refine ite ?_ ?_ | refine each ?_ | refine all_cons ?_ ?_ | refine seq ?_ ?_ | refine upd ?_ | intro _)
    | dsimp only | split | unfold Act.setOpBuf | unfold Act.modKstore | unfold Act.setKstore | unfold Act.store

theorem saCmd {ag : Agent} {p : Nat} {v : Word} {k : Code → Act} (hk : ∀ x0, Blind (k x0)) : Blind (Machine.saCmd ag p v k) := by
  unfold Machine.saCmd
  repeat' first
    | exact rfl
    | (with_reducible first
        | exact hk _ | exact blkErr | refine badValue ?_ | exact setTblWords | exact setReg | exact all_nil | refine get ?_ ?_
        | refine ite ?_ ?_ | refine each ?_ | refine all_cons ?_ ?_ | refine seq ?_ ?_ | intro _)
    | dsimp only | split

theorem profCmd {ag : Agent} {p : Nat} {v : Word} {k : Code → Act} (hk : ∀ x0, Blind (k x0)) : Blind (Machine.profCmd ag p v k) := by
  unfold Machine.profCmd
  repeat' first
    | exact rfl
    | (with_reducible first
        | exact hk _ | refine badValue ?_ | exact setTblWords | exact setReg | exact skip | exact all_nil | refine get ?_ ?_
        | refine ite ?_ ?_ | refine all_cons ?_ ?_ | refine seq ?_ ?_ | refine upd ?_ | intro _)
    | dsimp only | split | unfold Act.modFresh | unfold Act.setFresh | unfold Act.store

theorem effectSec {ag : Agent} {p b r a : Nat} {v : Word} {k : Code → Act} (hk : ∀ x0, Blind (k x0)) :
    Blind (Act.effectSec ag p b r a v k) := by
  unfold Act.effectSec
  repeat' first
    | exact rfl
    | (with_reducible first
        | exact hk _ | refine put ?_ | refine beamCmd ?_ | refine sigCmd ?_ | refine jobCmd ?_ | refine sgwTblCmd ?_ | refine fvCmd ?_
        | refine opCmd ?_ | refine badValue ?_ | refine saCmd ?_ | refine profCmd ?_ | exact setReg | exact all_nil | refine get ?_ ?_
        | refine ite ?_ ?_ | refine each ?_ | refine all_cons ?_ ?_ | refine seq ?_ ?_ | refine upd ?_ | intro _)
    | dsimp only | split | unfold provCmd | unfold Act.provEnd | unfold Act.modKstore | unfold Act.setKstore | unfold Act.setFld

theorem checkShared {p : Nat} : Blind (Act.checkShared p) := by
  unfold Act.checkShared
  repeat' first
    | exact rfl
    | (with_reducible first
        | exact event | exact all_nil | refine get ?_ ?_ | refine when ?_ | refine each ?_ | refine all_cons ?_ ?_ | refine upd ?_
        | intro _)
    | unfold Act.setLow | unfold Act.spillResume | unfold Act.modQueue | unfold Act.setQueue

theorem flushOut {p target scope : Nat} {held : Nat → Option Nat} : Blind (Act.flushOut p target scope held) := by
  unfold Act.flushOut
  repeat' first
    | exact rfl
    | (with_reducible first
        | exact checkShared | exact all_nil | refine get ?_ ?_ | refine ite ?_ ?_ | refine each ?_ | refine all_cons ?_ ?_ | refine upd ?_
        | intro _)
    | dsimp only | split | unfold Act.modQueue | unfold Act.setQueue | unfold Act.shape | unfold Act.setShaper | unfold Act.modPort
    | unfold Act.setPort

theorem tdmaLock {p t : Nat} {v : Word} {k : Code → Act} (hk : ∀ x0, Blind (k x0)) : Blind (Machine.tdmaLock p t v k) := by
  unfold Machine.tdmaLock
  repeat' first
    | exact rfl
    | (with_reducible first
        | exact hk _ | exact setReg | exact skip | exact all_nil | refine get ?_ ?_ | refine each ?_ | refine all_cons ?_ ?_
        | refine upd ?_ | intro _)
    | dsimp only | split | unfold Act.setLockedAt | unfold Act.store

theorem gclCtrl {ag : Agent} {p f : Nat} {v : Word} {k : Code → Act} (hk : ∀ x0, Blind (k x0)) : Blind (Machine.gclCtrl ag p f v k) := by
  unfold Machine.gclCtrl
  repeat' first
    | exact rfl
    | (with_reducible first
        | exact hk _ | refine badValue ?_ | exact setReg | exact skip | exact all_nil | refine get ?_ ?_ | refine ite ?_ ?_
        | refine each ?_ | refine all_cons ?_ ?_ | refine upd ?_ | intro _)
    | dsimp only | split | unfold Act.modGate | unfold Act.setGate | unfold Act.shape | unfold Act.setShaper | unfold Act.setFld
    | unfold Act.store

theorem tdmaJob {ag : Agent} {p j : Nat} {v : Word} {k : Code → Act} (hk : ∀ x0, Blind (k x0)) : Blind (Machine.tdmaJob ag p j v k) := by
  unfold Machine.tdmaJob
  repeat' first
    | exact rfl
    | (with_reducible first
        | exact hk _ | refine badValue ?_ | exact setReg | exact skip | exact all_nil | refine get ?_ ?_ | refine ite ?_ ?_
        | refine all_cons ?_ ?_ | refine seq ?_ ?_ | refine upd ?_ | intro _)
    | dsimp only | split | unfold Act.tdmaStart | unfold Act.setTjob | unfold Act.store

theorem repCmd {ag : Agent} {p : Nat} {v : Word} {k : Code → Act} (hk : ∀ x0, Blind (k x0)) : Blind (Machine.repCmd ag p v k) := by
  unfold Machine.repCmd
  repeat' first
    | exact rfl
    | (with_reducible first
        | exact hk _ | refine badValue ?_ | exact setTblWords | exact setReg | exact skip | exact all_nil | refine get ?_ ?_
        | refine ite ?_ ?_ | refine all_cons ?_ ?_ | refine seq ?_ ?_ | intro _)
    | dsimp only | split | unfold Act.setFld | unfold Act.store

theorem lpmEvict {p : Nat} {r : Route} : Blind (Act.lpmEvict p r) := by
  unfold Act.lpmEvict
  repeat' first
    | exact rfl
    | (with_reducible first
        | exact event | exact count | exact setTblWords | exact setReg | exact all_nil | refine get ?_ ?_ | refine each ?_
        | refine all_cons ?_ ?_ | intro _)
    | unfold Act.lpmKey | unfold Act.dropRoute | unfold Act.setFlds

theorem lpmRoom {p n : Nat} {fuel : Nat} : Blind (Act.lpmRoom p n fuel) := by
  induction fuel with
  | zero => exact skip
  | succ fuel ih =>
    unfold Act.lpmRoom
    repeat' first
      | exact rfl
      | (with_reducible first
          | exact ih | exact lpmEvict | exact skip | refine get ?_ ?_ | refine ite ?_ ?_ | refine opt ?_ | refine seq ?_ ?_
          | refine free ?_ | intro _)
      | dsimp only | split | unfold Act.freeBelow

theorem lpmCmd {ag : Agent} {p : Nat} {v : Word} {k : Code → Act} (hk : ∀ x0, Blind (k x0)) : Blind (Machine.lpmCmd ag p v k) := by
  unfold Machine.lpmCmd
  repeat' first
    | exact rfl
    | (with_reducible first
        | exact hk _ | refine badValue ?_ | exact setTblWords | exact lpmRoom | exact setReg | exact skip | exact all_nil
        | refine get ?_ ?_ | refine ite ?_ ?_ | refine each ?_ | refine all_cons ?_ ?_ | refine seq ?_ ?_ | refine upd ?_ | intro _)
    | dsimp only | split | unfold Act.lpmInsert | unfold Act.placeRoute | unfold Act.setLpmSeq | unfold Act.putRoute | unfold Act.lpmLookup
    | unfold Act.lpmDelete | unfold Act.lpmResult | unfold Act.dropRoute | unfold Act.setFld | unfold Act.store | unfold Act.setFlds

theorem fabClrMax {p : Nat} : Blind (Machine.fabClrMax p) := by
  unfold Machine.fabClrMax
  repeat' first
    | exact rfl
    | (with_reducible first
        | exact setReg | exact all_nil | refine get ?_ ?_ | refine each ?_ | refine all_cons ?_ ?_ | intro _)
    | unfold Act.setFld

theorem dropRef {p q reason : Nat} : Blind (Act.dropRef p q reason) := by
  unfold Act.dropRef
  repeat' first
    | exact rfl
    | (with_reducible first
        | exact event | exact count | exact setReg | exact all_nil | refine get ?_ ?_ | refine ite ?_ ?_ | refine when ?_ | refine opt ?_
        | refine all_cons ?_ ?_ | refine upd ?_ | intro _)
    | dsimp only | split | unfold Act.pnTraffic | unfold Act.pnDue | unfold Act.modPnet | unfold Act.setPnet | unfold Act.setFlds

theorem mirrorRef {p id n : Nat} {done : Bool} {fr : Frame} : Blind (Act.mirrorRef p id n done fr) := by
  unfold Act.mirrorRef
  repeat' first
    | exact rfl
    | (with_reducible first
        | exact event | exact count | exact dropRef | exact all_nil | refine get ?_ ?_ | refine ite ?_ ?_ | refine when ?_
        | refine each ?_ | refine all_cons ?_ ?_ | refine seq ?_ ?_ | refine upd ?_ | intro _)
    | dsimp only | split | unfold Act.setRecLost | unfold Act.addRef | unfold Act.portsIrq | unfold Act.portIrq | unfold Act.offerDepth
    | unfold Act.offerMon | unfold Act.modQueue | unfold Act.setQueue | unfold Act.irq

theorem periscope {p id n : Nat} {done adm : Bool} {f q : Nat} {filt : Option Nat} {fr : Frame} :
    Blind (Act.periscope p id n done adm f q filt fr) := by
  unfold Act.periscope
  repeat' first
    | exact rfl
    | (with_reducible first
        | exact count | exact modRecorder | exact mirrorRef | exact skip | exact all_nil | refine get ?_ ?_ | refine ite ?_ ?_
        | refine opt ?_ | refine each ?_ | refine all_cons ?_ ?_ | intro _)

theorem depart {p q : Nat} {r : Ref} : Blind (Act.depart p q r) := by
  unfold Act.depart
  repeat' first
    | exact rfl
    | (with_reducible first
        | exact checkShared | exact periscope | exact all_nil | refine get ?_ ?_ | refine when ?_ | refine each ?_ | refine all_cons ?_ ?_
        | refine upd ?_ | intro _)
    | unfold Act.offerDepth | unfold Act.offerMon | unfold Act.modQueue | unfold Act.setQueue | unfold Act.shape | unfold Act.setShaper

theorem dropRest {p n : Nat} : Blind (Machine.dropRest p n) := by
  unfold Machine.dropRest
  repeat' first
    | exact rfl
    | (with_reducible first
        | exact depart | exact skip | refine get ?_ ?_ | refine ite ?_ ?_ | refine opt ?_ | refine seq ?_ ?_ | refine upd ?_ | intro _)
    | dsimp only | split | unfold Act.portDone | unfold Act.setPort

theorem qCmd {ag : Agent} {p : Nat} {v : Word} {k : Code → Act} (hk : ∀ x0, Blind (k x0)) : Blind (Machine.qCmd ag p v k) := by
  unfold Machine.qCmd
  repeat' first
    | exact rfl
    | (with_reducible first
        | exact hk _ | refine badValue ?_ | exact checkShared | exact setReg | exact setTbl | exact skip | exact all_nil
        | refine get ?_ ?_ | refine ite ?_ ?_ | refine all_cons ?_ ?_ | refine seq ?_ ?_ | intro _)
    | dsimp only | split | unfold Act.setFld | unfold Act.store

theorem cbsWrite {ag : Agent} {p i : Nat} {v : Word} {k : Code → Act} (hk : ∀ x0, Blind (k x0)) : Blind (Machine.cbsWrite ag p i v k) := by
  unfold Machine.cbsWrite
  repeat' first
    | exact rfl
    | (with_reducible first
        | exact hk _ | refine badValue ?_ | exact setReg | exact skip | exact all_nil | refine get ?_ ?_ | refine ite ?_ ?_
        | refine all_cons ?_ ?_ | refine upd ?_ | intro _)
    | dsimp only | split | unfold Act.setShaper | unfold Act.store

theorem effectFab {ag : Agent} {p b r a : Nat} {v : Word} {k : Code → Act} (hk : ∀ x0, Blind (k x0)) :
    Blind (Act.effectFab ag p b r a v k) := by
  unfold Act.effectFab
  repeat' first
    | exact rfl
    | (with_reducible first
        | exact hk _ | refine put ?_ | exact checkShared | refine badValue ?_ | exact flushOut | refine tdmaLock ?_ | refine gclCtrl ?_
        | refine tdmaJob ?_ | refine repCmd ?_ | refine lpmCmd ?_ | exact fabClrMax | exact dropRest | refine qCmd ?_ | refine cbsWrite ?_
        | exact setReg | exact skip | exact all_nil | refine get ?_ ?_ | refine ite ?_ ?_ | refine when ?_ | refine all_cons ?_ ?_
        | refine seq ?_ ?_ | refine upd ?_ | intro _)
    | dsimp only | split | unfold flushCmd | unfold Act.setFlush | unfold Act.setFld | unfold Act.store | unfold Act.setFlds

theorem pubCmd {ag : Agent} {p c : Nat} {v : Word} {k : Code → Act} (hk : ∀ x0, Blind (k x0)) : Blind (Machine.pubCmd ag p c v k) := by
  unfold Machine.pubCmd
  repeat' first
    | exact rfl
    | (with_reducible first
        | exact hk _ | refine badValue ?_ | exact count | exact setReg | exact skip | exact all_nil | refine get ?_ ?_
        | refine ite ?_ ?_ | refine all_cons ?_ ?_ | refine seq ?_ ?_ | refine upd ?_ | intro _)
    | dsimp only | split | unfold Act.linCount | unfold Act.linBuffer | unfold Act.setPub | unfold Act.store

theorem acCmd {ag : Agent} {p c : Nat} {v : Word} {k : Code → Act} (hk : ∀ x0, Blind (k x0)) : Blind (Machine.acCmd ag p c v k) := by
  unfold Machine.acCmd
  repeat' first
    | exact rfl
    | (with_reducible first
        | exact hk _ | refine badValue ?_ | exact setReg | exact skip | exact all_nil | refine get ?_ ?_ | refine ite ?_ ?_
        | refine each ?_ | refine all_cons ?_ ?_ | refine seq ?_ ?_ | refine upd ?_ | intro _)
    | dsimp only | split | unfold Act.trkEmpty | unfold Act.setTrk | unfold Act.store

theorem modCan {k : Nat} {f : CanCtl → CanCtl} : Blind (Act.modCan k f) := by
  unfold Act.modCan
  repeat' first
    | exact rfl
    | (with_reducible first
        | refine get ?_ ?_ | refine upd ?_ | intro _)
    | unfold Act.setCan

theorem ethCtrl {p f : Nat} {v : Word} {k : Code → Act} (hk : ∀ x0, Blind (k x0)) : Blind (Machine.ethCtrl p f v k) := by
  unfold Machine.ethCtrl
  repeat' first
    | exact rfl
    | (with_reducible first
        | exact hk _ | exact count | exact setReg | exact all_nil | refine get ?_ ?_ | refine when ?_ | refine each ?_
        | refine all_cons ?_ ?_ | refine seq ?_ ?_ | refine upd ?_ | intro _)
    | dsimp only | unfold restartAn | unfold Act.rawIs | unfold Act.modEth | unfold Act.setEth | unfold Act.ethCount | unfold ethSnap

theorem mdioWrite {ag : Agent} {p f : Nat} {v : Word} {k : Code → Act} (hk : ∀ x0, Blind (k x0)) :
    Blind (Machine.mdioWrite ag p f v k) := by
  unfold Machine.mdioWrite
  repeat' first
    | exact rfl
    | (with_reducible first
        | exact hk _ | refine badValue ?_ | exact setReg | exact skip | exact all_nil | refine get ?_ ?_ | refine ite ?_ ?_
        | refine when ?_ | refine all_cons ?_ ?_ | refine seq ?_ ?_ | refine upd ?_ | intro _)
    | dsimp only | split | unfold Act.mdioIssue | unfold Act.modBus | unfold Act.setBus | unfold Act.setFld | unfold Act.store
    | unfold Act.emit

theorem modLin {k : Nat} {f : LinCtl → LinCtl} : Blind (Act.modLin k f) := by
  unfold Act.modLin
  repeat' first
    | exact rfl
    | (with_reducible first
        | refine get ?_ ?_ | refine upd ?_ | intro _)
    | unfold Act.setLin

theorem filtCmd {ag : Agent} {p c : Nat} {v : Word} {k : Code → Act} (hk : ∀ x0, Blind (k x0)) : Blind (Machine.filtCmd ag p c v k) := by
  unfold Machine.filtCmd
  repeat' first
    | exact rfl
    | (with_reducible first
        | exact hk _ | refine badValue ?_ | exact setTblWords | exact setReg | exact skip | exact all_nil | refine get ?_ ?_
        | refine ite ?_ ?_ | refine all_cons ?_ ?_ | refine seq ?_ ?_ | intro _)
    | dsimp only | split | unfold Act.setFld | unfold Act.store

theorem schedCmd {ag : Agent} {p c : Nat} {v : Word} {k : Code → Act} (hk : ∀ x0, Blind (k x0)) : Blind (Machine.schedCmd ag p c v k) := by
  unfold Machine.schedCmd
  repeat' first
    | exact rfl
    | (with_reducible first
        | exact hk _ | refine badValue ?_ | exact setReg | exact setTbl | exact skip | exact all_nil | refine get ?_ ?_
        | refine ite ?_ ?_ | refine all_cons ?_ ?_ | refine seq ?_ ?_ | intro _)
    | dsimp only | split | unfold Act.setFld | unfold Act.store

theorem effectFacet {ag : Agent} {p b r a : Nat} {v : Word} {k : Code → Act} (hk : ∀ x0, Blind (k x0)) :
    Blind (Act.effectFacet ag p b r a v k) := by
  unfold Act.effectFacet
  repeat' first
    | exact rfl
    | (with_reducible first
        | exact hk _ | refine put ?_ | refine pubCmd ?_ | refine acCmd ?_ | exact modCan | refine ethCtrl ?_ | refine mdioWrite ?_
        | exact modLin | refine filtCmd ?_ | refine schedCmd ?_ | exact setReg | exact all_nil | refine get ?_ ?_ | refine ite ?_ ?_
        | refine when ?_ | refine all_cons ?_ ?_ | intro _)
    | dsimp only | split | unfold linCmd | unfold linStop | unfold linGotosleep | unfold linSwitch | unfold canCmd | unfold canAbortTx
    | unfold canRecover

theorem recFlush {p : Nat} : Blind (Act.recFlush p) := by
  unfold Act.recFlush
  repeat' first
    | exact rfl
    | (with_reducible first
        | exact modRecorder | exact count | exact writeOut | exact all_nil | refine get ?_ ?_ | refine when ?_ | refine all_cons ?_ ?_
        | refine seq ?_ ?_ | refine upd ?_ | intro _)
    | dsimp only | split | unfold Act.endChunk | unfold Act.writeSuper | unfold Act.nvme | unfold Act.emit

theorem recDisable {p : Nat} : Blind (Act.recDisable p) := by
  unfold Act.recDisable
  repeat' first
    | exact rfl
    | (with_reducible first
        | exact modRecorder | exact recFlush | exact setReg | exact all_nil | refine get ?_ ?_ | refine when ?_ | refine all_cons ?_ ?_
        | refine seq ?_ ?_ | intro _)
    | dsimp only | unfold Act.rdEnd | unfold Act.setFld

theorem canOff {p c : Nat} : Blind (Act.canOff p c) := by
  unfold Act.canOff
  repeat' first
    | exact rfl
    | (with_reducible first
        | exact modCan | exact checkShared | exact count | exact all_nil | refine get ?_ ?_ | refine when ?_ | refine opt ?_
        | refine each ?_ | refine all_cons ?_ ?_ | refine seq ?_ ?_ | refine upd ?_ | intro _)
    | unfold Act.canEnter | unfold Act.canDropPend | unfold Act.canCount | unfold Act.modQueue | unfold Act.setQueue | unfold Act.shape
    | unfold Act.setShaper

theorem pairSettle  : Blind (Act.pairSettle) := by
  unfold Act.pairSettle
  repeat' first
    | exact rfl
    | (with_reducible first
        | exact chSettleAll | refine get ?_ ?_ | refine each ?_ | intro _)

theorem pairStop  : Blind (Act.pairStop) := by
  unfold Act.pairStop
  repeat' first
    | exact rfl
    | (with_reducible first
        | exact admWithdraw | exact pairSettle | exact eventIrq | exact all_nil | refine get ?_ ?_ | refine when ?_
        | refine all_cons ?_ ?_ | refine seq ?_ ?_ | refine upd ?_ | intro _)
    | dsimp only | unfold Act.updPair | unfold Act.dropOwner | unfold Act.updIo

theorem linkDown {p f : Nat} {lf rf : Bool} : Blind (Act.linkDown p f lf rf) := by
  unfold Act.linkDown
  repeat' first
    | exact rfl
    | (with_reducible first
        | exact event | exact count | exact all_nil | refine get ?_ ?_ | refine when ?_ | refine all_cons ?_ ?_ | refine seq ?_ ?_
        | refine upd ?_ | intro _)
    | dsimp only | unfold Act.rawIs | unfold Act.modEth | unfold Act.setEth | unfold Act.ethCount

theorem wakeDisable  : Blind (Act.wakeDisable) := by
  unfold Act.wakeDisable
  repeat' first
    | exact rfl
    | (with_reducible first
        | exact admDecide | exact modLin | exact modCan | exact setReg | exact all_nil | refine get ?_ ?_ | refine ite ?_ ?_
        | refine when ?_ | refine each ?_ | refine all_cons ?_ ?_ | refine seq ?_ ?_ | refine upd ?_ | intro _)
    | dsimp only | split | unfold Act.pnFacetWakes | unfold Act.canWake | unfold Act.pnLinRestart | unfold Act.pnEthOn | unfold Act.updDoze
    | unfold Act.setPnet | unfold Act.admSettle

theorem blockOff {d b : Nat} : Blind (Act.blockOff d b) := by
  unfold Act.blockOff
  repeat' first
    | exact rfl
    | (with_reducible first
        | exact chSettle | exact modLin | exact recDisable | exact canOff | exact pairStop | exact linkDown | exact wakeDisable
        | exact skip | refine get ?_ ?_ | refine ite ?_ ?_ | refine when ?_ | refine seq ?_ ?_ | refine upd ?_ | intro _)
    | dsimp only | split | unfold Act.sgwOff | unfold Act.setByp | unfold Act.setSess | unfold Act.wbrOff | unfold Act.linOff
    | unfold Act.modDrv | unfold Act.setDrv | unfold Act.setFabOff

theorem blockOn {d b : Nat} : Blind (Act.blockOn d b) := by
  unfold Act.blockOn
  repeat' first
    | exact rfl
    | (with_reducible first
        | exact chSettle | exact modLin | exact modRecorder | exact count | exact modCan | exact pairSettle | exact skip
        | refine get ?_ ?_ | refine ite ?_ ?_ | refine when ?_ | refine each ?_ | refine seq ?_ ?_ | refine upd ?_ | intro _)
    | dsimp only | split | unfold Act.d2dExchange | unfold Act.modLink | unfold Act.setLink | unfold Act.pairStart | unfold Act.wakeEnable
    | unfold Act.pnAllAwake | unfold Act.canEnable | unfold Act.ethEnable | unfold Act.recEnable | unfold Act.linEnable | unfold Act.sgwOn
    | unfold Act.cadencesFrom | unfold Act.setCad | unfold Act.updPair | unfold Act.rawIs | unfold Act.modEth | unfold Act.setEth
    | unfold Act.ethCount | unfold Act.setPnet | unfold Act.admEnter | unfold Act.updIo

theorem setEnable {d b : Nat} {on : Bool} : Blind (Act.setEnable d b on) := by
  unfold Act.setEnable
  repeat' first
    | exact rfl
    | (with_reducible first
        | exact blockOff | exact blockOn | exact setReg | exact skip | refine get ?_ ?_ | refine ite ?_ ?_ | refine seq ?_ ?_ | intro _)

theorem blkCtrl {ag : Agent} {d b : Nat} {v : Word} {k : Code → Act} (hk : ∀ x0, Blind (k x0)) : Blind (Machine.blkCtrl ag d b v k) := by
  unfold Machine.blkCtrl
  repeat' first
    | exact rfl
    | (with_reducible first
        | exact hk _ | refine badValue ?_ | exact setEnable | refine get ?_ ?_ | refine ite ?_ ?_ | refine seq ?_ ?_ | intro _)

theorem pinExit {d : Nat} : Blind (Act.pinExit d) := by
  unfold Act.pinExit
  repeat' first
    | exact rfl
    | (with_reducible first
        | exact chOff | exact chSettleAll | exact event | exact setReg | exact all_nil | refine get ?_ ?_ | refine ite ?_ ?_
        | refine when ?_ | refine each ?_ | refine all_cons ?_ ?_ | refine seq ?_ ?_ | refine upd ?_ | intro _)
    | dsimp only | split | unfold Act.pinEvent | unfold xcvrModeChange | unfold Act.modXcvr | unfold Act.setXcvr | unfold Act.modChan
    | unfold Act.setChan | unfold Act.modDrv | unfold Act.setDrv

theorem effectDrive {ag : Agent} {d b r a : Nat} {v : Word} {k : Code → Act} (hk : ∀ x0, Blind (k x0)) :
    Blind (Act.effectDrive ag d b r a v k) := by
  unfold Act.effectDrive
  repeat' first
    | exact rfl
    | (with_reducible first
        | exact hk _ | refine badValue ?_ | exact chOff | exact count | refine put ?_ | exact blkErr | exact event | exact pinExit
        | exact setReg | exact skip | exact all_nil | refine get ?_ ?_ | refine ite ?_ ?_ | refine when ?_ | refine all_cons ?_ ?_
        | refine seq ?_ ?_ | refine upd ?_ | intro _)
    | dsimp only | split | unfold wkpRearm | unfold Act.minmaxClear | unfold Act.pinAck | unfold Act.pinEvent | unfold Act.setCfgB
    | unfold chnCtrl | unfold Act.chUnlatch | unfold chnCmd | unfold Act.chCount | unfold Act.chStop | unfold Act.setSup
    | unfold Act.chApply | unfold Act.chAsk | unfold Act.modChan | unfold Act.setChan | unfold Act.modDrv | unfold Act.setDrv
    | unfold Act.setFld | unfold Act.store

theorem judged {j : WakeJudge} {valid : Bool} : Blind (Act.judged j valid) := by
  unfold Act.judged
  repeat' first
    | exact rfl
    | (with_reducible first
        | exact eventIrq | exact count | exact event | exact setReg | exact all_nil | refine get ?_ ?_ | refine ite ?_ ?_ | refine when ?_
        | refine all_cons ?_ ?_ | refine seq ?_ ?_ | refine upd ?_ | intro _)
    | dsimp only | split | unfold Act.drvInvalid | unfold Act.dropAwait | unfold Act.updDoze | unfold Act.wakeCount | unfold Act.wakeEvent
    | unfold Act.modDrv | unfold Act.setDrv | unfold Act.setFld

theorem pairSend {gf : Nat} {body : List Byte} : Blind (Act.pairSend gf body) := by
  unfold Act.pairSend
  repeat' first
    | exact rfl
    | (with_reducible first
        | refine useKey ?_ | exact skip | refine get ?_ ?_ | refine ite ?_ ?_ | refine when ?_ | refine opt ?_ | refine seq ?_ ?_
        | refine upd ?_ | intro _)
    | dsimp only | split | unfold Act.ezPost | unfold Act.engineOut | unfold Act.setFidNo | unfold Act.ezMake | unfold Act.ezTagged
    | unfold Act.modBuf | unfold Act.setBuf

theorem effectDomain {ag : Agent} {p b r a : Nat} {v : Word} {k : Code → Act} (hk : ∀ x0, Blind (k x0)) :
    Blind (Act.effectDomain ag p b r a v k) := by
  unfold Act.effectDomain
  repeat' first
    | exact rfl
    | (with_reducible first
        | exact hk _ | refine put ?_ | exact judged | refine badValue ?_ | exact pairSend | exact setTblWords | exact setReg
        | exact skip | exact all_nil | refine get ?_ ?_ | refine ite ?_ ?_ | refine when ?_ | refine opt ?_ | refine each ?_
        | refine all_cons ?_ ?_ | refine seq ?_ ?_ | refine upd ?_ | intro _)
    | dsimp only | split | unfold dtCmd | unfold Act.censusLeave | unfold Act.setCens | unfold Act.modMem | unfold Act.modMember
    | unfold Act.setMember | unfold pairTblCmd | unfold Act.pairTblPut | unfold Act.setRcv | unfold reqWrite | unfold Act.judgeSettle
    | unfold pairCmd | unfold Act.sendGrant | unfold Act.handResult | unfold Act.pairTell | unfold wakeConfirm | unfold Act.updPair
    | unfold Act.updIo | unfold Act.store

theorem effect {ag : Agent} {a : Nat} {v : Word} {k : Code → Act} (hk : ∀ x0, Blind (k x0)) : Blind (Act.effect ag a v k) := by
  unfold Act.effect
  repeat' first
    | exact rfl
    | (with_reducible first
        | exact hk _ | refine badValue ?_ | refine put ?_ | refine effectCpu ?_ | exact blkErr | refine effectSec ?_
        | refine effectFab ?_ | refine effectFacet ?_ | refine blkCtrl ?_ | refine effectDrive ?_ | refine effectDomain ?_ | exact setReg
        | exact all_nil | refine get ?_ ?_ | refine ite ?_ ?_ | refine all_cons ?_ ?_ | refine seq ?_ ?_ | refine upd ?_ | intro _)
    | dsimp only | split | unfold imgCmd | unfold Act.clearing | unfold Act.clearSeq | unfold Act.setLd

theorem write {ag : Agent} {own : Bool} {a : Nat} {v : Word} {k0 : Code → Act} (hk : ∀ x0, Blind (k0 x0)) :
    Blind (Act.write ag own a v k0) := by
  unfold Act.write
  repeat' first
    | exact rfl
    | (with_reducible first
        | exact hk _ | exact count | exact blkErr | refine effect ?_ | exact skip | refine get ?_ ?_ | refine ite ?_ ?_
        | refine when ?_ | refine seq ?_ ?_ | refine upd ?_ | intro _)
    | dsimp only | split | unfold Act.writeKind | unfold Act.setPosted | unfold Act.fwFail | unfold Act.dlinkDrop | unfold Act.irq

theorem postedWriteEffect {d b : Nat} : Blind (Machine.postedWriteEffect d b) := by
  unfold Machine.postedWriteEffect
  repeat' first
    | exact rfl
    | (with_reducible first
        | refine effect ?_ | exact skip | refine get ?_ ?_ | refine when ?_ | refine opt ?_ | refine seq ?_ ?_ | refine upd ?_ | intro _)
    | unfold Act.setPosted

theorem imgWrite {a : Nat} {v : Word} : Blind (Act.imgWrite a v) := by
  unfold Act.imgWrite
  repeat' first
    | exact rfl
    | (with_reducible first
        | refine write ?_ | exact postedWriteEffect | exact event | refine ite ?_ ?_ | refine when ?_ | refine seq ?_ ?_ | refine upd ?_
        | intro _)
    | dsimp only | split | unfold Act.loadReject | unfold Act.postWait | unfold Act.setLd

theorem imgEntry {p t i : Nat} {w : List Word} : Blind (Act.imgEntry p t i w) := by
  unfold Act.imgEntry
  repeat' first
    | exact rfl
    | (with_reducible first
        | exact setTblWords | exact all_nil | refine get ?_ ?_ | refine ite ?_ ?_ | refine when ?_ | refine opt ?_ | refine each ?_
        | refine all_cons ?_ ?_ | refine seq ?_ ?_ | refine upd ?_ | intro _)
    | dsimp only | split | unfold Act.tblPut | unfold Act.macPut | unfold Act.macRemove | unfold Act.notice | unfold Act.fillMeter
    | unfold Act.setMtrE | unfold Act.setMtrC | unfold Act.pairTblPut | unfold Act.setRcv | unfold Act.modLink | unfold Act.setLink
    | unfold Act.modFresh | unfold Act.setFresh

theorem imgRoutes {p : Nat} {l : List Route} : Blind (Act.imgRoutes p l) := by
  unfold Act.imgRoutes
  repeat' first
    | exact rfl
    | (with_reducible first
        | exact setTblWords | refine get ?_ ?_ | refine each ?_ | intro _)
    | unfold Act.putRoute

theorem blobPut {p : Nat} {w : List Word} : Blind (Act.blobPut p w) := by
  unfold Act.blobPut
  repeat' first
    | exact rfl
    | (with_reducible first
        | refine get ?_ ?_ | refine upd ?_ | intro _)
    | unfold Act.modKslot | unfold Act.setKslot

end Blind
end Sys2Proof.Machine


namespace Sys2Proof.Machine

/-! ## The examination of a slot does not look at what has left the device -/

/-- An action leaves the same but for the record, whether that was empty before or not. -/
theorem State.mute_run {A : Act} (h : Blind A) (s : State) : (A.run s.mute).mute = (A.run s).mute := (h.same s).symm

theorem imgBase_mute (s : State) (i : Nat) : (s.mute.imgBase i).mute = (s.imgBase i).mute :=
  State.mute_run (Blind.each fun _ => Blind.each fun _ => Blind.imgWrite) s

theorem scan_mute {α : Type} {bad : State → α → Bool} {put : α → Act} (hb : ∀ s e, bad s.mute e = bad s e) (hp : ∀ e, Blind (put e))
    (l : List α) (s : State) : (State.scan bad put l s.mute).map State.mute = (State.scan bad put l s).map State.mute := by
  induction l generalizing s with
  | nil => rfl
  | cons e l ih =>
    rw [State.scan, State.scan, hb]
    split
    · rfl
    · rw [← ih, State.mute_run (hp e), ih]

theorem tableScan_mute (s : State) (p : Nat) (l : List Word) :
    (s.mute.tableScan p l).map State.mute = (s.tableScan p l).map State.mute := by
  rw [State.tableScan, State.tableScan]
  split
  · split
    · rfl
    · exact congrArg some (State.mute_run (Blind.each fun _ => Blind.setTbl) s)
  · cases tableEntries l with
    | none => rfl
    | some e =>
      simp only [Option.bind_some]
      split
      · cases sectionRoutes e.2.2 with
        | none => rfl
        | some r =>
          simp only [Option.bind_some]
          rw [show s.mute.routes p = s.routes p from rfl]
          split
          · rfl
          · exact congrArg some (State.mute_run Blind.imgRoutes s)
      · exact scan_mute (fun _ _ => rfl) (fun _ => Blind.imgEntry) _ s

theorem sectionScan_mute (s : State) (u : Section) (l : List Word) (before : List Nat) :
    (s.mute.sectionScan u l before).map State.mute = (s.sectionScan u l before).map State.mute := by
  have keep : ∀ (c : Prop) [Decidable c],
      (if c then none else some s.mute).map State.mute = (if c then none else some s).map State.mute := fun c _ => by
    split <;> rfl
  unfold State.sectionScan
  split
  · exact keep ..
  · exact keep ..
  · exact tableScan_mute ..
  · cases aprEntries l with
    | none => rfl
    | some e => exact keep ..
  · exact keep ..
  · cases blobEntries l with
    | none => rfl
    | some m => exact scan_mute (fun _ _ => rfl) (fun _ => Blind.blobPut) m s
  · exact keep ..

/-- A scan of the rest that does not look at what has left the device goes on alike from two states that differ in nothing else. -/
theorem configScan_congr {s : State} {i n : Nat} {l : List Section} {t u : State}
    (ih : ∀ s t : State, s.mute.configScan i n l t.mute = s.configScan i n l t) (h : t.mute = u.mute) :
    s.mute.configScan i n l t = s.configScan i n l u :=
  calc s.mute.configScan i n l t = s.mute.mute.configScan i n l t.mute := (ih s.mute t).symm
    _ = s.mute.configScan i n l u.mute := by rw [h]; rfl
    _ = s.configScan i n l u := ih s u

theorem configScan_mute (s t : State) (i n : Nat) (l : List Section) : s.mute.configScan i n l t.mute = s.configScan i n l t := by
  induction l generalizing n s t with
  | nil => rfl
  | cons u l ih =>
    rw [State.configScan, State.configScan]
    split
    · rw [show s.mute.secTagOk i n = s.secTagOk i n from rfl]
      split
      · rfl
      · have h := sectionScan_mute t u (s.secWords i u)
          ((((s.imgDir i).take n).filter fun v => v.type == 5 && v.target == u.target).flatMap fun v => partNames (s.secWords i v))
        rw [show s.mute.secWords i = s.secWords i from rfl, show s.mute.imgDir i = s.imgDir i from rfl]
        dsimp only
        revert h
        generalize t.mute.sectionScan u _ _ = o
        generalize t.sectionScan u _ _ = o'
        intro h
        match o, o' with
        | none, none => rfl
        | some x, some y => exact configScan_congr (fun s t => ih s t (n + 1)) (Option.some.inj h)
        | none, some y => cases h
        | some x, none => cases h
    · exact ih ..

theorem sectionsVerdict_mute (s : State) (i : Nat) : s.mute.sectionsVerdict i = s.sectionsVerdict i := by
  have h : s.mute.configScan i 0 (s.imgDir i) (s.mute.imgBase i) = s.configScan i 0 (s.imgDir i) (s.imgBase i) :=
    configScan_congr (fun s t => configScan_mute s t i 0 _) (imgBase_mute s i)
  simp only [State.sectionsVerdict]
  rw [show s.mute.imgDir i = s.imgDir i from rfl, h]
  rfl

/-- The verdict on a slot does not look at what has left the device. -/
theorem examine_mute (s : State) (i : Nat) (whole : Bool) : s.mute.examine i whole = s.examine i whole := by
  simp only [State.examine, sectionsVerdict_mute]
  rfl

end Sys2Proof.Machine


namespace Sys2Proof.Machine

/-! ## Eyepiece commands on the SPI path (R157 to R161, R165 to R173) -/

/-- How a command that arrived in state s is answered: the reply leaves, and a RESET with its key takes effect (R165, R171). -/
def Act.spiAnswer (s : State) (c : EyeCmd) (code : Code) (data : List Byte) : Act :=
  Act.seq (Act.emit (.spi (spiReply c s.attn code data)))
    (Act.when (s.resetsHere c code = true) (Act.packageReset false 4 [(RSTC.DETAIL.EYE_PATH, 1)]))

/-- A command that does not reset the package is only answered. -/
theorem spiAnswer_run {s : State} {c : EyeCmd} {code : Code} (h : s.resetsHere c code = false) (data : List Byte) (u : State) :
    (Act.spiAnswer s c code data).run u = { u with out := .spi (spiReply c s.attn code data) :: u.out } := by
  rw [Act.spiAnswer, Act.seq_run, Act.when_run, if_neg (by simp [h])]
  rfl

/-- Only RESET resets, and only where it is answered OK. -/
theorem resetsHere_eq_false {s : State} {c : EyeCmd} {code : Code} (h : c.op ≠ 8 ∨ code ≠ .ok) : s.resetsHere c code = false := by
  rcases h with h | h <;> simp [State.resetsHere, h]

theorem loc_of_lt {c : EyeCmd} (h : c.addr < 2 ^ 24) : c.loc = c.addr := Nat.mod_eq_of_lt h

theorem far_of_lt {c : EyeCmd} (h : c.addr < 2 ^ 24) : c.far = c.addr := Nat.mod_eq_of_lt (by omega)

theorem remote_of_lt {c : EyeCmd} (h : c.addr < 2 ^ 24) : c.remote = false := by
  rw [EyeCmd.remote, Nat.div_eq_of_lt (by omega)]
  rfl

/-- A command that is whole, in range, for this device and matches no entry is executed here. -/
theorem eyeSpi_here {s : State} {c : EyeCmd} (hs : 6 ≤ s.start.step) (hop : opKnown c.op = true) (hlen : lenBad c.op c.data = false)
    (h0 : c.op ≠ 0) (ha : c.addr < 2 ^ 24) (hm : ∀ e ∈ s.pendsAt 0, c.matches e = false) :
    (eyeSpi c).run s = (eyeLocal .spi c (Act.spiAnswer s c)).run s := by
  have hfind : (s.pendsAt Path.spi.num).find? c.matches = none := List.find?_eq_none.mpr fun e he => by simp [hm e he]
  have hr := remote_of_lt ha
  rw [eyeSpi, Act.get_run, Act.when_run, if_pos hs, eyeRun, Act.get_run, if_neg (by simp [hop, hlen]), if_neg h0, if_neg (by simp [hr]),
    Act.collect, Act.get_run, hfind, if_neg (by simp [hr])]
  rfl

/-! ### Reads (R157, R158) -/

/-- A read that does not wait for the slow domain. -/
theorem eyeRead_now {s : State} {c : EyeCmd} (h : slowRead c.loc = false ∨ s.regIs c.loc = false ∨ s.dlinkLost (aDie c.loc - 4) = true)
    (k : Code → List Byte → Act) :
    (eyeRead .spi c k).run s = (Act.read .spi c.loc fun code w => k code (wordBytes w)).run s := by
  rw [eyeRead, Act.get_run, if_pos h]
  rfl

theorem read_noSuch {s : State} {a : Nat} (h : s.regIs a = false) (ag : Agent) (k : Code → Word → Act) :
    (Act.read ag a k).run s = (k .noSuch 0).run s := by
  rw [Act.read, Act.get_run, if_pos h]

/-- A read of a register without a rule of its own for reads gives what it holds, where its parity stands. -/
theorem read_live {s : State} {a : Nat} (his : s.regIs a = true)
    (hplain : 4 ≤ aDie a ∨ (aBlk a ∉ [0x09, 0x78, 0x82] ∧ (aBlk a < 0x20 ∨ 0x40 ≤ aBlk a)))
    (hlink : 4 ≤ aDie a → isBlkStat a = false → s.dlinkDown (aDie a - 4) = false) (hpar : s.parityBad a = false) (ag : Agent)
    (k : Code → Word → Act) : (Act.read ag a k).run s = (k .ok (s.live a)).run s := by
  rw [Act.read, Act.get_run, if_neg (by simp [his]), if_neg fun h => by simp [hlink h.1 h.2.2] at h, if_neg (by simp [hpar]), Act.readReg,
    Act.get_run]
  by_cases h4 : 4 ≤ aDie a
  · rw [if_pos h4]
  · obtain ⟨hb, hf⟩ := hplain.resolve_left h4
    simp only [List.mem_cons, List.not_mem_nil, or_false, not_or] at hb
    obtain ⟨h9, h78, h82⟩ := hb
    rw [if_neg h4, if_neg (fun h => h9 h.1), if_neg (fun h => by omega), if_neg (fun h => h78 h.1), if_neg (fun h => h78 h.1),
      if_neg (fun h => h82 h.1)]

/-- A read of a slow-domain register whose link is not lost: the compatible view gives the copy, the native view opens an entry. -/
theorem eyeRead_slow {s : State} {c : EyeCmd} (hs : slowRead c.loc = true) (his : s.regIs c.loc = true)
    (hl : s.dlinkLost (aDie c.loc - 4) = false) (k : Code → List Byte → Act) :
    (eyeRead .spi c k).run s = (if s.flag (EYE.CTRL 0) EYE.CTRL.COMPAT_SPI = true then k .ok (wordBytes (Sparse.get regReset s.compat c.loc))
      else Act.seq (Act.openPend 0 c (.fetch s.edges)) (k .retry [])).run s := by
  rw [eyeRead, Act.get_run, if_neg (by simp [hs, his, hl])]
  rfl

theorem openPend_run (i : Nat) (c : EyeCmd) (st : PendState) (s : State) :
    (Act.openPend i c st).run s = { s with
      pends := Sparse.put (fun _ => []) i ((s.pendsAt i ++ ([{ opcode := c.op, addr := c.addr, data := c.data, st := st }] : List Pend)).drop
        ((s.pendsAt i).length + 1 - 16)) s.pends } := by
  simp only [Act.openPend, Act.get_run, List.length_append, List.length_singleton]
  rfl

theorem openPend_pendsAt (i : Nat) (c : EyeCmd) (st : PendState) (s : State) :
    ((Act.openPend i c st).run s).pendsAt i =
      (s.pendsAt i ++ ([{ opcode := c.op, addr := c.addr, data := c.data, st := st }] : List Pend)).drop ((s.pendsAt i).length + 1 - 16) := by
  rw [openPend_run, State.pendsAt, Sparse.get_put, if_pos rfl]

/-- The new entry is kept: only older ones are replaced. -/
theorem mem_openPend (i : Nat) (c : EyeCmd) (st : PendState) (s : State) :
    ({ opcode := c.op, addr := c.addr, data := c.data, st := st } : Pend) ∈ ((Act.openPend i c st).run s).pendsAt i := by
  rw [openPend_pendsAt, List.drop_append_of_le_length (by omega)]
  exact List.mem_append_right _ (List.mem_singleton_self _)

/-! ### Writes (R155, R176) -/

theorem fwFail_spi (a : Nat) (c : Code) : Act.fwFail .spi a c = Act.skip := by
  cases c <;> rfl

theorem write_noSuch {s : State} {a : Nat} (h : s.regIs a = false) (own : Bool) (v : Word) (k : Code → Act) :
    (Act.write .spi own a v k).run s = (k .noSuch).run s := by
  rw [Act.write, Act.get_run, if_pos h]
  exact congrArg (fun A => (Act.seq A (k .noSuch)).run s) (fwFail_spi a .noSuch)

/-- A write of a register of blocks DEV, RSTC, EYE and D2D stores it. -/
theorem effect_plain {s : State} {a : Nat} {v : Word} (hd : aDie a < 4) (hb : aBlk a < 3 ∨ (0x58 ≤ aBlk a ∧ aBlk a ≤ 0x5A))
    (hr : aReg a ≠ 0x1FFF) (hsc : ((regRow a).any fun w => w.kind == .sc) = false) (href : s.refuses a v = false) (ag : Agent)
    (k : Code → Act) : (Act.effect ag a v k).run s = (k .ok).run ((Act.store a v).run s) := by
  simp only [Act.effect, Act.get_run]
  rw [if_neg hr, if_neg (by simp [hsc]), if_neg (by simp [href]), if_neg (by omega), if_neg (by omega)]
  rcases hb with hb | hb
  · rw [if_pos (by omega)]
    obtain h | h | h : aBlk a = 0 ∨ aBlk a = 1 ∨ aBlk a = 2 := by omega
    all_goals rw [h]; rfl
  · rw [if_neg (by omega), if_pos (by omega), Act.effectFacet, if_neg (by omega), if_neg (by omega), if_neg (by omega)]
    rfl

theorem store_holds {a : Nat} {w : RegRow} (h : regRow a = some w) (v : Word) (s : State) :
    Holds ((Act.store a v).run s) a ((s.reg a &&& ~~~ BitVec.ofNat 48 w.wmask) ||| (v &&& BitVec.ofNat 48 w.wmask)) := by
  simp only [Holds, Act.store, Act.get_run, h, Act.setReg_run, State.reg_storeReg, if_true]

theorem store_out (a : Nat) (v : Word) (s : State) : ((Act.store a v).run s).out = s.out :=
  (touches_Act_store (S := [.regs, .upsets]) (by decide)).same s .out (by decide)

/-! ### The host's image (R172) -/

theorem get_foldl_put {α : Type} [DecidableEq α] (d : Nat → α) (x : Nat → α) (a n : Nat) (m : Sparse α) (i : Nat) :
    Sparse.get d ((List.range n).foldl (fun r j => Sparse.put d (a + j) (x j) r) m) i =
      if a ≤ i ∧ i < a + n then x (i - a) else Sparse.get d m i := by
  induction n with
  | zero => rw [if_neg (by omega)]; rfl
  | succ n ih =>
    rw [List.range_succ, List.foldl_append, List.foldl_cons, List.foldl_nil, Sparse.get_put, ih]
    by_cases h : i = a + n
    · rw [if_pos h, if_pos (by omega), show i - a = n by omega]
    · rw [if_neg h]
      exact if_congr (by omega) rfl rfl

theorem length_bytesToWords (n : Nat) (l : List Byte) : (bytesToWords n l).length = n := by
  induction n generalizing l with
  | zero => rfl
  | succ n ih => rw [bytesToWords, List.length_cons, ih]

/-- An examination does not look at what has left the device. -/
theorem examine_out (s : State) (o : List Out) (i : Nat) (whole : Bool) : ({ s with out := o } : State).examine i whole = s.examine i whole :=
  (examine_mute { s with out := o } i whole).symm.trans (examine_mute s i whole)

/-- A received image that stands its examination is taken. -/
theorem received_taken {s : State} (h : (s.examine 2 true).state = 1) :
    (Act.received.run s).start.step = 9 ∧ (Act.received.run s).ld.st = .distributing ∧ (Act.received.run s).ld.slot = 2 ∧
      (Act.received.run s).out = s.out := by
  have e : Act.received.run s = (Act.slotTaken 2).run ((Act.slotReport 2 (s.examine 2 true)).run s) := by
    simp only [Act.received, Act.get_run]
    rw [if_pos h, Act.seq_run]
  have hreport : Touches (Act.slotReport 2 (s.examine 2 true)) [.regs, .upsets, .freeCount] := touches_Act_slotReport (by decide)
  have htaken : Touches (Act.slotTaken 2) [.regs, .upsets, .start, .ld] := touches_Act_slotTaken (by decide)
  have hout : ((Act.slotReport 2 (s.examine 2 true)).run s).out = s.out := hreport.same s .out (by decide)
  rw [e]
  refine ⟨rfl, rfl, rfl, ?_⟩
  rw [← hout]
  exact htaken.same _ .out (by decide)

/-! ### Flash commands (R173) -/

/-- The state in which a flash command has started. -/
def State.flashStarted (s : State) (op : Nat) (f : FlashOp) (a : Nat) : State :=
  (Act.setReg (EYE.FLASH 0) (word [(EYE.FLASH.RESULT, 1), (EYE.FLASH.OP, flashOpNum op), (EYE.FLASH.ADDR, a)])).run
    { s with ld := { s.ld with flashOp := f } }

theorem flashStarted_onlyRegs (s : State) (op : Nat) (f : FlashOp) (a : Nat) : OnlyRegs [EYE.FLASH 0] s (s.flashStarted op f a) :=
  fun x hx => (State.reg_storeReg _ _ _ x).trans (if_neg (List.mem_singleton.not.mp hx))

theorem flashStarted_result (s : State) (op : Nat) (f : FlashOp) (a : Nat) : (s.flashStarted op f a).fld (EYE.FLASH 0) EYE.FLASH.RESULT = 1 := by
  rw [State.flashStarted, fld_setReg (by decide)]
  simp only [word, List.foldl_cons, List.foldl_nil]
  rw [fget_fset_other _ _ _ _ (by decide) (by decide), fget_fset_other _ _ _ _ (by decide) (by decide), fget_fset _ _ _ (by decide)]
  rfl

/-- A flash command that is neither denied nor turned away starts, and is then answered. -/
theorem eyeFlash_starts {s : State} {c : EyeCmd} {n : Nat} (hn : (if c.op = 0x18 then 4096 else c.data) = n)
    (hd : s.flashDenied c.op c.far n = false) (hb : s.eyeFlashBusy = false) (k : Code → List Byte → Act) :
    (eyeFlash .spi c k).run s = (if c.op = 0x1A then Act.seq (Act.openPend 0 c .flash) (k .retry []) else k .ok []).run
      (s.flashStarted c.op (if c.op = 0x18 then .erase c.far else if c.op = 0x19 then .program c.far c.payload else .read c.far n) c.far) := by
  subst hn
  rw [eyeFlash, Act.get_run, if_neg (by simp [hd]), if_neg (by simp [hb])]
  rfl

theorem eyeFlash_denied {s : State} {c : EyeCmd} {n : Nat} (hn : (if c.op = 0x18 then 4096 else c.data) = n)
    (hd : s.flashDenied c.op c.far n = true) (k : Code → List Byte → Act) : (eyeFlash .spi c k).run s = (k .denied []).run s := by
  subst hn
  rw [eyeFlash, Act.get_run, if_pos hd]

theorem eyeFlash_busy {s : State} {c : EyeCmd} {n : Nat} (hn : (if c.op = 0x18 then 4096 else c.data) = n)
    (hd : s.flashDenied c.op c.far n = false) (hb : s.eyeFlashBusy = true) (k : Code → List Byte → Act) :
    (eyeFlash .spi c k).run s = (k .busy []).run s := by
  subst hn
  rw [eyeFlash, Act.get_run, if_neg (by simp [hd]), if_pos hb]

/-! ### The commands -/

/-- A command of a host for this device. -/
def hostCmd (tag addr op n : Nat) (payload : List Byte) : EyeCmd := { op := op, tag := tag, addr := addr, data := n, payload := payload }

/-- The SPI path is served, and a command with this TAG and local address matches no entry (R161, R165). -/
structure SpiFree (s : State) (tag addr : Nat) : Prop where
  serves : 6 ≤ s.start.step
  tag_lt : tag < 256
  addr_lt : addr < 2 ^ 24
  unmatched : ∀ e ∈ s.pendsAt 0, ∀ op n, (hostCmd tag addr op n []).matches e = false

/-- State u with the reply to a command that arrived in state s. -/
def State.repliedTo (u s : State) (c : EyeCmd) (code : Code) (data : List Byte) : State :=
  { u with out := .spi (spiReply c s.attn code data) :: u.out }

section
variable {s : State} {tag addr : Nat} (h : SpiFree s tag addr)
include h

theorem SpiFree.inRange : tag < 256 ∧ addr < 2 ^ 40 := ⟨h.tag_lt, h.addr_lt.trans (by decide)⟩

theorem SpiFree.loc (op n : Nat) (p : List Byte) : (hostCmd tag addr op n p).loc = addr := loc_of_lt h.addr_lt

theorem SpiFree.far (op n : Nat) (p : List Byte) : (hostCmd tag addr op n p).far = addr := far_of_lt h.addr_lt

/-- What a command's instruction does. -/
theorem SpiFree.runs {i : Instr} {op n : Nat} {p : List Byte} {P : Prop} [Decidable P]
    (hi : exec i s = Act.go (Act.when P (eyeSpi (hostCmd tag addr op n p))) s) (hP : P) (hop : opKnown op = true)
    (hlen : lenBad op n = false) (h0 : op ≠ 0) :
    exec i s = .next ((eyeLocal .spi (hostCmd tag addr op n p) (Act.spiAnswer s (hostCmd tag addr op n p))).run s) := by
  have hm : ∀ e ∈ s.pendsAt 0, (hostCmd tag addr op n p).matches e = false := fun e he => h.unmatched e he op n
  rw [hi, Act.go_eq, Act.when_run, if_pos hP, eyeSpi_here h.serves hop hlen h0 h.addr_lt hm]

/-- A command that ends with its answer, in state u. -/
theorem SpiFree.answers {i : Instr} {u : State} {op n : Nat} {p : List Byte} {P : Prop} [Decidable P] {code : Code} {data : List Byte}
    (hi : exec i s = Act.go (Act.when P (eyeSpi (hostCmd tag addr op n p))) s) (hP : P) (hop : opKnown op = true)
    (hlen : lenBad op n = false) (h0 : op ≠ 0) (h8 : op ≠ 8 ∨ code ≠ .ok)
    (hrun : (eyeLocal .spi (hostCmd tag addr op n p) (Act.spiAnswer s (hostCmd tag addr op n p))).run s =
      (Act.spiAnswer s (hostCmd tag addr op n p) code data).run u) :
    exec i s = .next (u.repliedTo s (hostCmd tag addr op n p) code data) := by
  rw [h.runs hi hP hop hlen h0, hrun, spiAnswer_run (resetsHere_eq_false h8)]
  rfl

theorem SpiFree.nop : exec (.nop tag) s = .next (s.repliedTo s (hostCmd tag 0 0 0 []) .ok []) := by
  have hi : exec (.nop tag) s = Act.go (Act.when (tag < 256) (eyeSpi (hostCmd tag 0 0 0 []))) s := rfl
  rw [hi, Act.go_eq, Act.when_run, if_pos h.tag_lt, eyeSpi, Act.get_run, Act.when_run, if_pos h.serves, eyeRun, Act.get_run]
  exact congrArg _ (spiAnswer_run (c := hostCmd tag 0 0 0 []) (resetsHere_eq_false (.inl (by simp [hostCmd]))) [] s)

theorem SpiFree.peerStatus (v : Nat) :
    exec (.peerStatus tag addr v) s = .next (s.repliedTo s (hostCmd tag addr 3 v []) .ok (beBytes 6 s.attn)) :=
  h.answers rfl h.inRange rfl rfl (by decide) (.inl (by decide)) rfl

theorem SpiFree.read_noSuch {v : Nat} (his : s.regIs addr = false) :
    exec (.read tag addr v) s = .next (s.repliedTo s (hostCmd tag addr 1 v []) .noSuch (wordBytes 0)) := by
  rw [← h.loc 1 v []] at his
  exact h.answers rfl h.inRange rfl rfl (by decide) (.inl (by decide))
    ((eyeRead_now (.inr (.inl his)) _).trans (Machine.read_noSuch his _ _))

theorem SpiFree.read_live {v : Nat} (his : s.regIs addr = true)
    (hplain : 4 ≤ aDie addr ∨ (aBlk addr ∉ [0x09, 0x78, 0x82] ∧ (aBlk addr < 0x20 ∨ 0x40 ≤ aBlk addr))) (hslow : slowRead addr = false)
    (hlink : 4 ≤ aDie addr → isBlkStat addr = false → s.dlinkDown (aDie addr - 4) = false) (hpar : s.parityBad addr = false) :
    exec (.read tag addr v) s = .next (s.repliedTo s (hostCmd tag addr 1 v []) .ok (wordBytes (s.live addr))) := by
  refine h.answers rfl h.inRange rfl rfl (by decide) (.inl (by decide)) ((eyeRead_now (.inl ?_) _).trans ?_)
  · rw [h.loc]
    exact hslow
  · rw [h.loc]
    exact Machine.read_live his hplain hlink hpar _ _

/-- A read of a slow-domain register in the compatible view (R158). -/
theorem SpiFree.read_compat {v : Nat} (his : s.regIs addr = true) (hslow : slowRead addr = true)
    (hl : s.dlinkLost (aDie addr - 4) = false) (hc : s.flag (EYE.CTRL 0) EYE.CTRL.COMPAT_SPI = true) :
    exec (.read tag addr v) s = .next (s.repliedTo s (hostCmd tag addr 1 v []) .ok (wordBytes (Sparse.get regReset s.compat addr))) := by
  refine h.answers rfl h.inRange rfl rfl (by decide) (.inl (by decide)) ?_
  have hrun := eyeRead_slow (c := hostCmd tag addr 1 v []) (s := s) (by rw [h.loc]; exact hslow) (by rw [h.loc]; exact his)
    (by rw [h.loc]; exact hl) (Act.spiAnswer s (hostCmd tag addr 1 v []))
  rw [if_pos hc, h.loc] at hrun
  exact hrun

/-- A read of a slow-domain register in the native view (R157). -/
theorem SpiFree.read_native {v : Nat} (his : s.regIs addr = true) (hslow : slowRead addr = true)
    (hl : s.dlinkLost (aDie addr - 4) = false) (hc : s.flag (EYE.CTRL 0) EYE.CTRL.COMPAT_SPI = false) :
    exec (.read tag addr v) s = .next
      (((Act.openPend 0 (hostCmd tag addr 1 v []) (.fetch s.edges)).run s).repliedTo s (hostCmd tag addr 1 v []) .retry []) := by
  refine h.answers rfl h.inRange rfl rfl (by decide) (.inl (by decide)) ?_
  have hrun := eyeRead_slow (c := hostCmd tag addr 1 v []) (s := s) (by rw [h.loc]; exact hslow) (by rw [h.loc]; exact his)
    (by rw [h.loc]; exact hl) (Act.spiAnswer s (hostCmd tag addr 1 v []))
  rw [if_neg (by rw [hc]; decide)] at hrun
  exact hrun

/-- A write of a register of blocks DEV, RSTC, EYE and D2D. -/
theorem SpiFree.write_plain {v : Nat} (hd : aDie addr < 4) (hb : aBlk addr < 3 ∨ (0x58 ≤ aBlk addr ∧ aBlk addr ≤ 0x5A))
    (hr : aReg addr ≠ 0x1FFF) (hsc : ((regRow addr).any fun w => w.kind == .sc) = false)
    (hl : s.lands .spi addr (BitVec.ofNat 48 v) = true) (href : s.refuses addr (BitVec.ofNat 48 v) = false) :
    exec (.write tag addr v) s = .next
      (((Act.store addr (BitVec.ofNat 48 v)).run s).repliedTo s (hostCmd tag addr 2 v []) .ok []) := by
  refine h.answers rfl h.inRange rfl rfl (by decide) (.inl (by decide)) ?_
  show (Act.write .spi false (hostCmd tag addr 2 v []).loc (BitVec.ofNat 48 v)
    fun code => Act.spiAnswer s (hostCmd tag addr 2 v []) code []).run s = _
  rw [h.loc, write_lands s .spi addr _ _ hl, Act.accepted, if_neg (by simp [posts_prism_die hd]), effect_plain hd hb hr hsc href]
  rfl

theorem SpiFree.write_noSuch {v : Nat} (his : s.regIs addr = false) :
    exec (.write tag addr v) s = .next (s.repliedTo s (hostCmd tag addr 2 v []) .noSuch []) := by
  rw [← h.loc 2 v []] at his
  exact h.answers rfl h.inRange rfl rfl (by decide) (.inl (by decide)) (Machine.write_noSuch his _ _ _)

/-- RESET with its key: the reply, then the package reset (R171). -/
theorem SpiFree.reset_key : exec (.reset tag addr resetKey) s = .next
    ((Act.packageReset false 4 [(RSTC.DETAIL.EYE_PATH, 1)]).run (s.repliedTo s (hostCmd tag addr 8 resetKey []) .ok [])) := by
  have hr : s.resetsHere (hostCmd tag addr 8 resetKey []) .ok = true := by
    rw [State.resetsHere, remote_of_lt h.addr_lt]
    rfl
  have hrun : (eyeLocal .spi (hostCmd tag addr 8 resetKey []) (Act.spiAnswer s (hostCmd tag addr 8 resetKey []))).run s =
      (Act.spiAnswer s (hostCmd tag addr 8 resetKey []) .ok []).run s := rfl
  rw [h.runs (i := .reset tag addr resetKey) rfl h.inRange rfl rfl (by decide), hrun, Act.spiAnswer, Act.seq_run, Act.when_run, if_pos hr]
  rfl

theorem SpiFree.reset_denied {v : Nat} (hv : v ≠ resetKey) :
    exec (.reset tag addr v) s = .next (s.repliedTo s (hostCmd tag addr 8 v []) .denied []) := by
  refine h.answers rfl h.inRange rfl rfl (by decide) (.inr (by decide)) ?_
  show (if v = resetKey then Act.spiAnswer s (hostCmd tag addr 8 v []) .ok [] else _).run s = _
  rw [if_neg hv]

theorem SpiFree.imageBegin_starts {v : Nat} (hst : s.ld.st = .holdHost) (hroom : 6 * (v % 2 ^ 32) ≤ s.rxRoom) :
    exec (.imageBegin tag addr v) s = .next
      (({ s with ld := { s.ld with rxWords := [], rxNext := 0, rxTotal := v % 2 ^ 32, rxOpen := true, pull := none } } : State).repliedTo s
        (hostCmd tag addr 0x10 v []) .ok []) := by
  refine h.answers rfl h.inRange rfl rfl (by decide) (.inl (by decide)) ?_
  show (imageBegin (v % 2 ^ 32) fun code => Act.spiAnswer s (hostCmd tag addr 0x10 v []) code []).run s = _
  rw [imageBegin, Act.get_run, if_neg (not_or.mpr ⟨not_not.mpr hst, Nat.not_lt.mpr hroom⟩)]
  rfl

theorem SpiFree.imageBegin_denied {v : Nat} (hst : s.ld.st ≠ .holdHost) :
    exec (.imageBegin tag addr v) s = .next (s.repliedTo s (hostCmd tag addr 0x10 v []) .denied []) := by
  refine h.answers rfl h.inRange rfl rfl (by decide) (.inl (by decide)) ?_
  show (imageBegin (v % 2 ^ 32) fun code => Act.spiAnswer s (hostCmd tag addr 0x10 v []) code []).run s = _
  rw [imageBegin, Act.get_run, if_pos (.inl hst)]

/-- The words of an image arrive (R172). -/
theorem SpiFree.imageData_stores {l : List Byte} {j : Nat} (hst : s.ld.st = .holdHost) (hopen : s.ld.rxOpen = true)
    (hnext : addr ≤ s.ld.rxNext) (h6 : 6 ≤ l.length) (hmax : l.length ≤ 1536) (hj : l.length = 6 * j) (htot : addr + j ≤ s.ld.rxTotal) :
    exec (.imageData tag addr l) s = .next
      (({ s with ld := { s.ld with
          rxNext := max s.ld.rxNext (addr + j)
          rxWords := (List.range j).foldl (fun r k => Sparse.put (fun _ => 0) (addr + k) ((bytesToWords j l).getD k 0) r) s.ld.rxWords } } :
        State).repliedTo s (hostCmd tag addr 0x11 l.length l) .ok []) := by
  have hlen : lenBad 0x11 l.length = false := by
    simp only [lenBad, Bool.or_eq_false_iff, decide_eq_false_iff_not, bne_eq_false_iff_eq]
    omega
  refine h.answers rfl h.inRange rfl hlen (by decide) (.inl (by decide)) ?_
  show (imageData (hostCmd tag addr 0x11 l.length l).far (bytesToWords (l.length / 6) l)
    fun code => Act.spiAnswer s (hostCmd tag addr 0x11 l.length l) code []).run s = _
  rw [h.far, show l.length / 6 = j by omega, imageData, Act.get_run, length_bytesToWords, if_neg (by simp [hst, hopen]; omega)]
  rfl

/-- The image is complete and stands its examination: the answer, then the slot is taken (R129, R172). -/
theorem SpiFree.imageEnd_receives {v : Nat} (hst : s.ld.st = .holdHost) (hopen : s.ld.rxOpen = true) (hall : s.ld.rxNext = s.ld.rxTotal) :
    exec (.imageEnd tag addr v) s = .next (Act.received.run (s.repliedTo s (hostCmd tag addr 0x12 v []) .ok [])) := by
  rw [h.runs (i := .imageEnd tag addr v) rfl h.inRange rfl rfl (by decide)]
  show Host.Outcome.next ((imageEnd fun code => Act.spiAnswer s (hostCmd tag addr 0x12 v []) code []).run s) = _
  rw [imageEnd, Act.get_run, if_neg (by simp [hst, hopen, hall]), Act.seq_run,
    spiAnswer_run (resetsHere_eq_false (.inl (by simp [hostCmd])))]
  rfl

/-- A flash command of n bytes. -/
theorem SpiFree.flash_starts {i : Instr} {op n m : Nat} {p : List Byte} {P : Prop} [Decidable P] {f : FlashOp}
    (hi : exec i s = Act.go (Act.when P (eyeSpi (hostCmd tag addr op n p))) s) (hP : P) (hlen : lenBad op n = false)
    (hop : op = 0x18 ∨ op = 0x19) (hn : (if op = 0x18 then 4096 else n) = m) (hd : s.flashDenied op addr m = false)
    (hf : (if op = 0x18 then .erase addr else if op = 0x19 then .program addr p else .read addr m) = f) (hb : s.eyeFlashBusy = false) :
    exec i s = .next ((s.flashStarted op f addr).repliedTo s (hostCmd tag addr op n p) .ok []) := by
  subst hf
  have hrun := eyeFlash_starts (c := hostCmd tag addr op n p) hn (by rw [h.far]; exact hd) hb
    (Act.spiAnswer s (hostCmd tag addr op n p))
  rw [h.far] at hrun
  rcases hop with rfl | rfl
  · exact h.answers hi hP rfl hlen (by decide) (.inl (by decide)) hrun
  · exact h.answers hi hP rfl hlen (by decide) (.inl (by decide)) hrun

/-- A read of the flash opens an entry. -/
theorem SpiFree.flashRead_starts {v : Nat} (h1 : 1 ≤ v) (hmax : v ≤ 256) (hd : s.flashDenied 0x1A addr v = false)
    (hb : s.eyeFlashBusy = false) :
    exec (.flashRead tag addr v) s = .next
      (((Act.openPend 0 (hostCmd tag addr 0x1A v []) .flash).run (s.flashStarted 0x1A (.read addr v) addr)).repliedTo s
        (hostCmd tag addr 0x1A v []) .retry []) := by
  have hlen : lenBad 0x1A v = false := by
    simp only [lenBad, Bool.or_eq_false_iff, decide_eq_false_iff_not]
    omega
  have hrun := eyeFlash_starts (c := hostCmd tag addr 0x1A v []) (n := v) rfl (by rw [h.far]; exact hd) hb
    (Act.spiAnswer s (hostCmd tag addr 0x1A v []))
  rw [h.far] at hrun
  exact h.answers rfl ⟨h.tag_lt, h.addr_lt.trans (by decide), by omega⟩ rfl hlen (by decide) (.inl (by decide)) hrun

theorem SpiFree.flashErase_denied {v : Nat} (hd : s.flashDenied 0x18 addr 4096 = true) :
    exec (.flashErase tag addr v) s = .next (s.repliedTo s (hostCmd tag addr 0x18 v []) .denied []) :=
  h.answers rfl h.inRange rfl rfl (by decide) (.inl (by decide)) (eyeFlash_denied rfl (by rw [h.far]; exact hd) _)

theorem SpiFree.flashErase_busy {v : Nat} (hd : s.flashDenied 0x18 addr 4096 = false) (hb : s.eyeFlashBusy = true) :
    exec (.flashErase tag addr v) s = .next (s.repliedTo s (hostCmd tag addr 0x18 v []) .busy []) :=
  h.answers rfl h.inRange rfl rfl (by decide) (.inl (by decide)) (eyeFlash_busy rfl (by rw [h.far]; exact hd) hb _)

end

end Sys2Proof.Machine

namespace Sys2Proof.Proofs

open Sys2Proof.Machine

/-- Settles O28: each command that matches no entry is executed on the spot, and what it leaves is its own effect with the reply; the
check of a received image does not look at the reply that has just left. -/
theorem eyepieceOnSpi : Obligations.EyepieceOnSpi := by
  unfold Obligations.EyepieceOnSpi
  intro s tag addr v l hs ht ha hv cmd said hm
  have h : SpiFree s tag addr := ⟨hs, ht, ha, hm⟩
  refine ⟨h.nop, h.peerStatus v, h.read_noSuch, h.read_live, fun his hslow hl => ⟨h.read_compat his hslow hl, fun hc => ?native⟩,
    fun hd hb hr hsc hl href => ?plain, h.write_noSuch, ⟨_, h.reset_key, packageReset_leaves false 4 (by decide) _ _⟩, h.reset_denied,
    h.imageBegin_starts, h.imageBegin_denied, fun j hst hopen hnext h6 hmax hj htot => ?words, fun hst hopen hall hex => ?complete,
    fun hb => ⟨fun hd => ?erase, fun h1 hmax hd => ?program, fun h1 hmax hd => ?flashRead⟩, h.flashErase_denied, h.flashErase_busy⟩
  case native =>
    exact ⟨_, h.read_native his hslow hl hc, rfl, fun _ _ => rfl, openPend_pendsAt 0 (hostCmd tag addr 1 v []) (.fetch s.edges) s⟩
  case plain =>
    have hw : Writes (Act.store addr (BitVec.ofNat 48 v)) fun a => a ∈ [addr] := writes_Act_store (List.mem_singleton_self addr)
    refine ⟨_, h.write_plain hd hb hr hsc hl href, ?_, hw.onlyRegs s, fun w hrow => store_holds hrow _ s⟩
    exact congrArg (_ :: ·) (store_out ..)
  case words =>
    exact ⟨_, h.imageData_stores hst hopen hnext h6 hmax hj htot, rfl, rfl, fun _ _ => rfl, get_foldl_put _ _ addr j s.ld.rxWords⟩
  case complete =>
    obtain ⟨hstep, hld, hslot, hout⟩ := received_taken (s := s.repliedTo s (hostCmd tag addr 0x12 v []) .ok [])
      ((congrArg SlotReport.state (examine_out ..)).trans hex)
    exact ⟨_, h.imageEnd_receives hst hopen hall, hout, hstep, hld, hslot⟩
  case erase =>
    exact ⟨_, h.flash_starts (f := .erase addr) rfl h.inRange rfl (.inl rfl) rfl hd rfl hb, rfl, rfl, flashStarted_onlyRegs s 0x18 _ addr,
      flashStarted_result s 0x18 _ addr⟩
  case program =>
    have hlen : lenBad 0x19 l.length = false := by
      simp only [lenBad, Bool.or_eq_false_iff, decide_eq_false_iff_not]
      omega
    exact ⟨_, h.flash_starts (f := .program addr l) rfl h.inRange hlen (.inr rfl) rfl hd rfl hb, rfl, rfl,
      flashStarted_onlyRegs s 0x19 _ addr, flashStarted_result s 0x19 _ addr⟩
  case flashRead =>
    exact ⟨_, h.flashRead_starts h1 hmax hd hb, rfl, rfl, flashStarted_onlyRegs s 0x1A _ addr,
      mem_openPend 0 (hostCmd tag addr 0x1A v []) .flash _⟩

end Sys2Proof.Proofs

/-! Queues: egress and flushes (R261, R264, R265, R282, R284). What the scheduler picks goes on through operations that leave the links
as they are; what a flush covers is emptied and the rest spared, through operations that leave the references of every queue. -/

namespace Sys2Proof.Machine

/-! ### What an action leaves of a reading of the state -/

/-- An action leaves what f reads of the state. -/
structure Keeps {β : Type} (f : State → β) (A : Act) : Prop where
  same : ∀ s, f (A.run s) = f s

namespace Keeps

variable {β : Type} {f : State → β} {A B : Act}

theorem skip : Keeps f Act.skip := ⟨fun _ => rfl⟩

theorem seq (h : Keeps f A) (k : Keeps f B) : Keeps f (Act.seq A B) := ⟨fun s => (k.same _).trans (h.same s)⟩

theorem each {α : Type} {l : List α} {g : α → Act} (h : ∀ x ∈ l, Keeps f (g x)) : Keeps f (Act.each l g) :=
  ⟨Act.each_keeps f l g fun x hx => (h x hx).same⟩

theorem get {k : State → Act} (h : ∀ s, Keeps f (k s)) : Keeps f (Act.get k) := ⟨fun s => (h s).same s⟩

theorem when {c : Prop} [Decidable c] (h : Keeps f A) : Keeps f (Act.when c A) := by
  unfold Act.when
  split
  · exact h
  · exact skip

theorem ite {c : Prop} [Decidable c] (h : Keeps f A) (k : Keeps f B) : Keeps f (if c then A else B) := by
  split
  · exact h
  · exact k

theorem opt {α : Type} {o : Option α} {g : α → Act} (h : ∀ x, Keeps f (g x)) : Keeps f (Act.opt o g) := by
  cases o with
  | none => exact skip
  | some x => exact h x

/-- A reading that no shaper's record enters is left when the credits are brought up to date. -/
theorem shape (h : ∀ k v, Keeps f (Act.setShaper k v)) (p : Nat) : Keeps f (Act.shape p) :=
  get fun _ => each fun _ _ => h _ _

/-- A reading that neither events nor SHARED_LOW_NOW nor the mark of a full queue enter is left when the pool is looked at. -/
theorem checkShared (hevent : ∀ a i, Keeps f (Act.event a i)) (hlow : ∀ k v, Keeps f (Act.setLow k v))
    (hfull : ∀ g, Keeps f (Act.modQueue g fun u => { u with full := false })) (p : Nat) : Keeps f (Act.checkShared p) :=
  get fun _ => seq (when (hevent _ _)) <| seq (hlow _ _) <| seq (get fun _ => each fun _ _ => hfull _) skip

end Keeps

/-- What does not touch the switch leaves the links. -/
theorem Touches.keepsLinks {A : Act} {S : List Part} (h : Touches A S) (hS : Part.sw ∉ S) : Keeps (fun s => s.sw.d2d) A :=
  ⟨fun s => congrArg (·.d2d) (h.same s .sw hS)⟩

/-! ### Queues and links, read after a change -/

theorem queue_modQueue (k : Nat) (f : Queue → Queue) (s : State) (j : Nat) :
    ((Act.modQueue k f).run s).queue j = if j = k then f (s.queue k) else s.queue j := by
  simp only [State.queue, Act.modQueue, Act.get_run, Act_setQueue_sw, Sparse.get_put]

theorem link_modLink (k : Nat) (f : D2dLink → D2dLink) (s : State) (j : Nat) :
    ((Act.modLink k f).run s).link j = if j = k then f (s.link k) else s.link j := by
  simp only [State.link, Act.modLink, Act.get_run, Act_setLink_sw, Sparse.get_put]

theorem eth_modEth (k : Nat) (f : EthFacet → EthFacet) (s : State) : ((Act.modEth k f).run s).eth k = f (s.eth k) := by
  simp only [State.eth, Act.modEth, Act.get_run, Act_setEth_sw, Sparse.get_put, if_true]

/-- A key that is not listed reads as the default. -/
theorem Sparse.get_unlisted {α : Type} (d : Nat → α) {m : Sparse α} {k : Nat} (h : ∀ e ∈ m, e.1 ≠ k) : Sparse.get d m k = d k := by
  induction m with
  | nil => rfl
  | cons e m ih =>
    rw [Sparse.get, if_neg (h e (List.mem_cons_self ..))]
    exact ih fun x hx => h x (List.mem_cons_of_mem _ hx)

/-- A change of a queue that leaves its references leaves those of every queue. -/
theorem modQueue_keeps_refs {F : Queue → Queue} (h : ∀ u, (F u).refs = u.refs) (g k : Nat) :
    Keeps (fun s => (s.queue k).refs) (Act.modQueue g F) := by
  refine ⟨fun s => ?_⟩
  show (((Act.modQueue g F).run s).queue k).refs = (s.queue k).refs
  rw [queue_modQueue]
  split
  · next hk => rw [h, hk]
  · rfl

/-- The references of every queue outlast a look at the pool. -/
theorem checkShared_keeps_refs (p k : Nat) : Keeps (fun s => (s.queue k).refs) (Act.checkShared p) :=
  .checkShared (fun _ _ => ⟨fun _ => rfl⟩) (fun _ _ => ⟨fun _ => rfl⟩) (fun g => modQueue_keeps_refs (fun _ => by rfl) g k) p

/-! ### The scheduler's choice (R261) -/

/-- The scheduler leaves the links but for what follows its choice. -/
theorem schedule_keeps_links {p f : Nat} {head : Nat → Queue → Option Ref} {k : Nat → Ref → Act}
    (h : ∀ q r, Keeps (fun s => s.sw.d2d) (k q r)) : Keeps (fun s => s.sw.d2d) (Act.schedule p f head k) :=
  .get fun _ => .opt fun _ => .seq (.each fun _ _ => ⟨fun _ => rfl⟩) <| .seq ⟨fun _ => rfl⟩ <| .seq (.opt fun _ => h _ _) .skip

/-- A mirror copy leaves the links. -/
theorem mirrorRef_keeps_links (p id n : Nat) (done : Bool) (fr : Frame) : Keeps (fun s => s.sw.d2d) (Act.mirrorRef p id n done fr) := by
  have haddRef : ∀ q r, Keeps (fun s => s.sw.d2d) (Act.addRef p q r) := fun q r =>
    .get fun _ => .seq ⟨fun _ => rfl⟩ ((touches_Act_offerDepth fun _ h => h).keepsLinks (by decide))
  have hlost : ∀ k v, Keeps (fun s => s.sw.d2d) (Act.setRecLost k v) := fun _ _ => ⟨fun _ => rfl⟩
  refine .get fun s => ?_
  dsimp only
  split
  · exact .seq (haddRef _ _) <| .seq (.when ((touches_Act_portsIrq fun _ h => h).keepsLinks (by decide))) <|
      .seq ((touches_Act_count fun _ h => h).keepsLinks (by decide)) .skip
  · exact .seq ((touches_Act_dropRef fun _ h => h).keepsLinks (by decide)) (.when (.get fun _ => hlost _ _))
  · exact .seq ((touches_Act_count fun _ h => h).keepsLinks (by decide)) <| .seq ⟨fun _ => rfl⟩ <|
      .seq (.when (.get fun _ => hlost _ _)) .skip

/-- Periscope leaves the links. -/
theorem periscope_keeps_links (p id n : Nat) (done adm : Bool) (f q : Nat) (filt : Option Nat) (fr : Frame) :
    Keeps (fun s => s.sw.d2d) (Act.periscope p id n done adm f q filt fr) := by
  have hrecord : ∀ c n done fr a, Keeps (fun s => s.sw.d2d) (if c = true then Act.mirrorRef p id n done fr else Act.count a) :=
    fun _ _ _ _ _ => .ite (mirrorRef_keeps_links ..) ((touches_Act_count fun _ h => h).keepsLinks (by decide))
  exact .get fun s => .ite .skip <| .seq (.opt fun _ => mirrorRef_keeps_links ..) <| .seq (.opt fun _ => hrecord _ _ _ _ _) <|
    .seq (.each fun _ _ => ⟨fun _ => rfl⟩) .skip

/-- A departure leaves the links. -/
theorem depart_keeps_links (p q : Nat) (r : Ref) : Keeps (fun s => s.sw.d2d) (Act.depart p q r) :=
  .seq (.shape (fun _ _ => ⟨fun _ => rfl⟩) p) <| .seq (.get fun _ => ⟨fun _ => rfl⟩) <| .seq (periscope_keeps_links ..) <|
    .seq ((touches_Act_offerDepth fun _ h => h).keepsLinks (by decide)) <|
    .seq (.get fun _ => (touches_Act_offerMon fun _ h => h).keepsLinks (by decide)) <|
    .seq (.checkShared (fun _ _ => ⟨fun _ => rfl⟩) (fun _ _ => ⟨fun _ => rfl⟩) (fun _ => ⟨fun _ => rfl⟩) p) .skip

/-! ### EGRESS_SELECT (R261) -/

theorem exec_egressSelect {s : State} {p f : Nat} (hp : p < s.x) (hf : f < 64) (hup : s.prismUp = true) :
    exec (.egressSelect p f) s = .next ((egressSelect p f).run s) := by
  show Act.go (Act.when (p < s.x ∧ f < 64 ∧ s.prismUp = true) (egressSelect p f)) s = _
  rw [Act.go_eq, Act.when_run, if_pos ⟨hp, hf, hup⟩]

/-- Where no head of facet f is too long, none is discarded. -/
theorem ethDiscards_none {s : State} {p f : Nat}
    (h : ∀ i, i < 256 → s.ethTooLong p f (queueNo f 0 0 + i) (s.queue (globalQueue p (queueNo f 0 0 + i))) = none) (n : Nat) :
    (Act.ethDiscards p f n).run s = s := by
  cases n with
  | zero => rfl
  | succ n =>
    have hfind : ((List.range 256).find? fun i =>
        (s.ethTooLong p f (queueNo f 0 0 + i) (s.queue (globalQueue p (queueNo f 0 0 + i)))).isSome) = none :=
      List.find?_eq_none.mpr fun i hi => by simp [h i (List.mem_range.mp hi)]
    rw [Act.ethDiscards, Act.get_run, hfind]
    rfl

/-- An Ethernet facet that is up, free and not shut begins to transmit the frame that its scheduler picks. -/
theorem ethSelect_begins {s : State} {p f q : Nat} {r : Ref} (hup : s.facetDown p f = false) (htx : (s.eth (fk p f)).tx = none)
    (hplca : s.plcaShut p f = false)
    (hlong : ∀ i, i < 256 → ((Act.shape p).run s).ethTooLong p f (queueNo f 0 0 + i)
      (((Act.shape p).run s).queue (globalQueue p (queueNo f 0 0 + i))) = none)
    (hpick : ((Act.shape p).run s).pick p f (fun q v => ((Act.shape p).run s).ethEligible p f q v) = some (q, r)) :
    (((Act.ethSelect p f).run s).eth (fk p f)).tx = some r.fr := by
  have hfree : ¬ (s.facetDown p f = true ∨ (s.eth (fk p f)).tx.isSome = true ∨ s.plcaShut p f = true) := by simp [hup, htx, hplca]
  rw [Act.ethSelect, Act.get_run, if_neg hfree, Act.all_cons, Act.all_cons, Act.all_cons, Act.all_nil, Act.get_run,
    ethDiscards_none hlong, schedule_pick hpick]
  simp only [Act.all_cons, Act.all_nil, eth_modEth]

/-- Noting that cells wait for credit changes nothing that the scheduler looks at. -/
theorem creditWait_keeps_pick (p j c p' f : Nat) (head : Nat → Queue → Option Ref) :
    Keeps (fun s => s.pick p' f head) (Act.creditWait p j c) := ⟨fun _ => rfl⟩

/-- It leaves what a link is sending. -/
theorem creditWait_keeps_sending (p j c k : Nat) : Keeps (fun s => (s.link k).sending) (Act.creditWait p j c) := by
  refine ⟨fun s => ?_⟩
  rw [Act.creditWait, Act.get_run, link_modLink]
  split
  · next hk => rw [hk]
  · rfl

/-- May the head of a queue begin its way over link j of die p: its class is not being sent there, and its first cell has credit
(R222, R261)? -/
def State.linkHead (s : State) (p j : Nat) (u : Queue) : Option Ref :=
  u.front.filter fun r =>
    !((s.link (4 * p + j)).sending.any fun e => e.1 == r.fr.cls) &&
      decide (r.fr.units 0 ≤ (s.link (4 * p + j)).credit.getD r.fr.cls 0)

/-- A link that is up and enabled begins to send the frame that the scheduler of its facet picks. -/
theorem d2dSelect_begins {s : State} {p j q : Nat} {r : Ref} (hup : (s.link (4 * p + j)).up = true)
    (hen : s.enabled p (0x58 + j) = true) (hpick : s.pick p (56 + j) (fun _ u => s.linkHead p j u) = some (q, r)) :
    (((Act.d2dSelect p j).run s).link (4 * p + j)).sending = (s.link (4 * p + j)).sending ++ [(r.fr.cls, r.fr, 0)] := by
  have hon : ¬ ((s.link (4 * p + j)).up = false ∨ s.enabled p (0x58 + j) = false) := by simp [hup, hen]
  rw [Act.d2dSelect, Act.get_run]
  dsimp only
  rw [if_neg hon, Act.seq_run]
  generalize hwait : (Act.each ((List.range 8).filter fun c => s.lacksCredit p j c) fun c => Act.creditWait p j c).run s = w
  have hpick' : w.pick p (56 + j) (fun _ u => s.linkHead p j u) = some (q, r) := by
    rw [← hpick, ← hwait]
    exact (Keeps.each fun c _ => creditWait_keeps_pick p j c p (56 + j) fun _ u => s.linkHead p j u).same s
  have hsending : (w.link (4 * p + j)).sending = (s.link (4 * p + j)).sending := by
    rw [← hwait]
    exact (Keeps.each fun c _ => creditWait_keeps_sending p j c (4 * p + j)).same s
  have hlinks := ((schedule_keeps_links (p := p) (f := 56 + j) (head := fun _ u => s.linkHead p j u) fun _ _ => .skip).seq
    (depart_keeps_links p q r)).same w
  refine Eq.trans ?_ (congrArg (· ++ [(r.fr.cls, r.fr, 0)]) hsending)
  refine (congrArg (fun t => (State.link t (4 * p + j)).sending) (schedule_pick hpick')).trans ?_
  rw [Act.seq_run, link_modLink, if_pos rfl]
  exact congrArg (fun m => (Sparse.get linkBlank m (4 * p + j)).sending ++ [(r.fr.cls, r.fr, 0)]) hlinks

/-! ### What a flush removes (R265, R284) -/

/-- A queue of die p that a flush covers is emptied, but for a frame held in transmission (R265). -/
def Act.flushQueue (held : Nat → Option Nat) (e : Nat × Queue) : Act :=
  let q := e.1 % 16384
  Act.modQueue e.1 fun u =>
    if held (qFacet q) = some q then { u with refs := u.refs.take 1, head := 0, spilled := 0, full := false }
    else { u with refs := [], head := 0, spilled := 0, full := false, deficit := 0 }

/-- The listed queues of die p that a flush covers. -/
def State.coveredQueues (s : State) (p target scope : Nat) : List (Nat × Queue) :=
  (s.dieQueues p).filter fun e => flushCovers target scope (e.1 % 16384)

theorem globalQueue_mod {p q : Nat} (hq : q < 16384) : globalQueue p q % 16384 = q := by
  unfold globalQueue
  omega

theorem globalQueue_div {p q : Nat} (hq : q < 16384) : globalQueue p q / 16384 = p := by
  unfold globalQueue
  omega

/-- The references after a flush are those that it leaves in the queues that it covers. -/
theorem flushOut_refs (p target scope : Nat) (held : Nat → Option Nat) (s : State) (k : Nat) :
    (((Act.flushOut p target scope held).run s).queue k).refs =
      (((Act.each (s.coveredQueues p target scope) (Act.flushQueue held)).run ((Act.shape p).run s)).queue k).refs := by
  rw [Act.flushOut, Act.get_run]
  simp only [Act.all_cons, Act.all_nil]
  refine ((checkShared_keeps_refs p k).same _).trans ?_
  exact (Keeps.each (f := fun s => (s.queue k).refs) fun n _ => ⟨fun _ => rfl⟩).same _

/-- The credits are no part of the queues. -/
theorem shape_queue (p : Nat) (s : State) (k : Nat) : ((Act.shape p).run s).queue k = s.queue k :=
  (Keeps.shape (f := fun s => s.queue k) (fun _ _ => ⟨fun _ => rfl⟩) p).same s

/-- A queue that a flush does not cover keeps its references. -/
theorem flushOut_spares {target scope q : Nat} (hq : q < 16384) (hc : flushCovers target scope q = false) (p : Nat)
    (held : Nat → Option Nat) (s : State) :
    (((Act.flushOut p target scope held).run s).queue (globalQueue p q)).refs = (s.queue (globalQueue p q)).refs := by
  have hother : ∀ e ∈ s.coveredQueues p target scope,
      Keeps (fun s => (s.queue (globalQueue p q)).refs) (Act.flushQueue held e) := by
    refine fun e he => ⟨fun t => ?_⟩
    have hcov : flushCovers target scope (e.1 % 16384) = true := by
      rw [State.coveredQueues, List.mem_filter] at he
      exact he.2
    have hne : globalQueue p q ≠ e.1 := fun h => by
      rw [← h, globalQueue_mod hq, hc] at hcov
      cases hcov
    rw [Act.flushQueue, queue_modQueue, if_neg hne]
  rw [flushOut_refs]
  exact ((Keeps.each hother).same _).trans (congrArg Queue.refs (shape_queue ..))

/-- A queue without references has none after a covered queue has been emptied. -/
theorem flushQueue_keeps_empty {held : Nat → Option Nat} {k : Nat} (e : Nat × Queue) (s : State) (h : (s.queue k).refs = []) :
    (((Act.flushQueue held e).run s).queue k).refs = [] := by
  rw [Act.flushQueue, queue_modQueue]
  split
  · next hk =>
    rw [hk] at h
    split
    · simp [h]
    · rfl
  · exact h

/-- A queue that a flush covers, no frame of it held, has no reference afterwards: it was listed and is emptied, or was not listed. -/
theorem flushOut_empties {target scope q : Nat} {held : Nat → Option Nat} (hq : q < 16384) (hc : flushCovers target scope q = true)
    (hh : held (qFacet q) ≠ some q) (p : Nat) (s : State) :
    (((Act.flushOut p target scope held).run s).queue (globalQueue p q)).refs = [] := by
  rw [flushOut_refs]
  by_cases hl : ∃ e ∈ s.sw.queues, e.1 = globalQueue p q
  · obtain ⟨e, he, hk⟩ := hl
    have hmem : e ∈ s.coveredQueues p target scope := by
      simp only [State.coveredQueues, State.dieQueues, List.mem_filter, hk, globalQueue_div hq, globalQueue_mod hq, BEq.rfl]
      exact ⟨⟨he, trivial⟩, hc⟩
    refine Act.each_establishes (Q := fun t => (t.queue (globalQueue p q)).refs = []) hmem (fun t => ?_) flushQueue_keeps_empty _
    rw [Act.flushQueue, queue_modQueue, if_pos hk.symm, hk, globalQueue_mod hq, if_neg hh]
  · have hblank : (s.queue (globalQueue p q)).refs = [] := by
      rw [State.queue, Sparse.get_unlisted queueBlank fun e he hk => hl ⟨e, he, hk⟩]
      rfl
    exact Act.each_preserves (Q := fun t => (t.queue (globalQueue p q)).refs = []) _ flushQueue_keeps_empty
      (by rw [shape_queue]; exact hblank)

/-- What a flush removes leaves the record of the flush in progress. -/
theorem flushOut_flush (p target scope : Nat) (held : Nat → Option Nat) (s : State) (k : Nat) :
    ((Act.flushOut p target scope held).run s).flush k = s.flush k := by
  have h : Keeps (fun s => s.flush k) (Act.flushOut p target scope held) :=
    .get fun _ => .seq (.shape (fun _ _ => ⟨fun _ => rfl⟩) p) <| .seq (.each fun _ _ => ⟨fun _ => rfl⟩) <|
      .seq (.each fun _ _ => ⟨fun _ => rfl⟩) <|
      .seq (.checkShared (fun _ _ => ⟨fun _ => rfl⟩) (fun _ _ => ⟨fun _ => rfl⟩) (fun _ => ⟨fun _ => rfl⟩) p) .skip
  exact h.same s

/-! ### The registers of a flush (R282, R284) -/

theorem implements_flushCmd {p : Nat} (hp : p < 4) :
    implements (QMGR.FLUSH_CMD p) QMGR.FLUSH_CMD.RESULT = true ∧ implements (QMGR.FLUSH_CMD p) QMGR.FLUSH_CMD.REMOVED = true := by
  have h : ∀ p < 4, implements (QMGR.FLUSH_CMD p) QMGR.FLUSH_CMD.RESULT = true ∧
    implements (QMGR.FLUSH_CMD p) QMGR.FLUSH_CMD.REMOVED = true := by decide +kernel
  exact h p hp

/-- FLUSH_DONE is a bit of QMGR.EVT. -/
theorem regMask_flushDone {p : Nat} (hp : p < 4) : bit (regMask (QMGR.EVT p)) 4 = true := by
  have h : ∀ p < 4, bit (regMask (QMGR.EVT p)) 4 = true := by decide +kernel
  exact h p hp

/-- A field that a register implements reads as before after another of its fields has been set. -/
theorem fld_setFld_other {a : Nat} {f g : Fld} (h : implements a g = true) (hg : g.lo + g.w ≤ 48)
    (hfg : f.lo + f.w ≤ g.lo ∨ g.lo + g.w ≤ f.lo) (n : Nat) (s : State) : ((Act.setFld a f n).run s).fld a g = s.fld a g := by
  rw [Act.setFld, Act.get_run, fld_setReg h, fget_fset_other _ _ _ _ hg hfg, State.fld]

/-- A counter of any block but DEV counts n more (R243); count_counted is the case of one. -/
theorem countBy_counted {c : Nat} (hc : aBlk c ≠ 0) (n : Nat) (s : State) : Counted c n s ((Act.countBy c n).run s) := by
  have hne : ∀ {p r : Nat}, r < 8192 → ra p 0 r ≠ c := fun hr h => hc (by rw [← h]; exact aBlk_ra (by decide) hr)
  have hword : BitVec.ofNat 48 (((s.reg c).toNat + n) % 2 ^ 48) = s.reg c + BitVec.ofNat 48 n := by
    apply BitVec.eq_of_toNat_eq
    simp [BitVec.toNat_add]
  have hhalf : Writes (Act.passedHalf c) fun a => a ≠ c :=
    writes_Act_passedHalf (fun _ => hne (by decide)) fun _ => hne (by decide)
  rw [Counted, Holds, Act.countBy, Act.get_run, Act.seq_run, hhalf.when.same _ _ (fun h => h rfl), Act.setReg_run, State.reg_storeReg,
    if_pos rfl, hword]

/-- Counting, past half range too, leaves the number of events of every register outside DEV. -/
theorem countBy_evtCount {b : Nat} (hb : aBlk b ≠ 0) (c n : Nat) (s : State) :
    ((Act.countBy c n).run s).evtCount b = s.evtCount b := by
  have hne : ∀ p, b ≠ DEV.EVT p := fun p h => hb (by rw [h]; exact aBlk_ra (by decide) (by decide))
  have hevent : ∀ p, Keeps (fun s => s.evtCount b) (Act.event (DEV.EVT p) 1) := fun p => ⟨fun s => by
    have := hne p
    simp only [State.evtCount, Act_event_evtNo, Sparse.get_put]
    rw [if_neg (by omega), if_neg (by omega)]⟩
  have hcount : Keeps (fun s => s.evtCount b) (Act.countBy c n) :=
    .get fun _ => .seq ⟨fun _ => rfl⟩ <| .when <| .get fun _ => .seq (hevent _) ⟨fun _ => rfl⟩
  exact hcount.same s

/-- An event is recorded against an earlier state whose register and number of events were the same. -/
theorem Logged.since_count {a i : Nat} {s u t : State} (h : Logged a i u t) (hreg : u.reg a = s.reg a)
    (hevt : u.evtCount a = s.evtCount a) : Logged a i s t := by
  unfold Logged eventWord at h ⊢
  rw [← hreg, ← hevt]
  exact h

/-- The end of a flush leaves the switch: its records are registers. -/
theorem flushEnd_sw (p n : Nat) (s : State) : ((Act.flushEnd p n).run s).sw = s.sw :=
  (touches_Act_flushEnd fun _ h => h).same s .sw (by decide)

/-- The end of a flush of n frames: REMOVED, the counter, and the event. -/
theorem flushEnd_leaves {p : Nat} (hp : p < 4) (n : Nat) (s : State) :
    ((Act.flushEnd p n).run s).fld (QMGR.FLUSH_CMD p) QMGR.FLUSH_CMD.REMOVED = sat 0xFFFFFF n ∧
      Counted (QMGR.CNT p 5) n s ((Act.flushEnd p n).run s) ∧ Logged (QMGR.EVT p) 4 s ((Act.flushEnd p n).run s) := by
  have hblk : ∀ {r : Nat}, r < 8192 → aBlk (ra p 0x09 r) ≠ 0 := fun hr => by rw [aBlk_ra (by decide) hr]; decide
  have hne : ∀ {r r' : Nat}, r ≠ r' → ra p 0x09 r ≠ ra p 0x09 r' := fun h => by unfold ra; omega
  have hdev : ∀ {p' r r' : Nat}, r < 8192 → r' < 8192 → ra p' 0 r ≠ ra p 0x09 r' := fun hr hr' => by unfold ra; omega
  have hEvent : ∀ a, a ≠ QMGR.EVT p → Writes (Act.event (QMGR.EVT p) 4) fun b => b ≠ a := fun a h => writes_Act_event h.symm
  have hField : ∀ a, a ≠ QMGR.FLUSH_CMD p →
      Writes (Act.setFld (QMGR.FLUSH_CMD p) QMGR.FLUSH_CMD.REMOVED (sat 0xFFFFFF n)) fun b => b ≠ a := fun a h => writes_Act_setFld h.symm
  have hCount : Writes (Act.countBy (QMGR.CNT p 5) n) fun b => b ≠ QMGR.EVT p :=
    writes_Act_countBy (hne (by decide)) (fun _ => hdev (by decide) (by decide)) fun _ => hdev (by decide) (by decide)
  have hsat : sat 0xFFFFFF n % 2 ^ QMGR.FLUSH_CMD.REMOVED.w = sat 0xFFFFFF n :=
    Nat.mod_eq_of_lt (lt_of_le_of_lt (Nat.min_le_right _ _) (by decide))
  obtain ⟨-, hREMOVED⟩ := implements_flushCmd hp
  rw [Act.flushEnd, Act.all_cons, Act.all_cons, Act.all_cons, Act.all_nil]
  refine ⟨?_, ?_, ?_⟩
  · rw [(hEvent (QMGR.FLUSH_CMD p) (hne (by decide))).fld (fun h => h rfl), fld_setFld (by decide) hREMOVED, hsat]
  · rw [Counted, Holds, (hEvent (QMGR.CNT p 5) (hne (by decide))).same _ _ (fun h => h rfl),
      (hField (QMGR.CNT p 5) (hne (by decide))).same _ _ (fun h => h rfl)]
    exact countBy_counted (hblk (by decide)) n s
  · refine (event_logged (QMGR.EVT p) 4 _).since_count ?_ ?_
    · rw [(hField (QMGR.EVT p) (hne (by decide))).same _ _ (fun h => h rfl), hCount.same _ _ (fun h => h rfl)]
    · exact countBy_evtCount (hblk (by decide)) _ n s

/-! ### FACET_DOWN_FLUSH, FLUSH_CMD and FLUSH_DONE (R264, R265, R284) -/

/-- A flush of a whole facet covers the queues of that facet. -/
theorem flushCovers_facet {f : Nat} (hf : f < 64) (q : Nat) : flushCovers (queueNo f 0 0) 2 q = (qFacet q == f) := by
  have h : qFacet (queueNo f 0 0) = f := by
    unfold qFacet queueNo
    omega
  show (qFacet q == qFacet (queueNo f 0 0)) = _
  rw [h]

theorem exec_facetDownFlush {s : State} {p f : Nat} (hp : p < s.x) (hf : f ≤ 55) (hup : s.prismUp = true)
    (hd : s.facetDown p f = true) :
    exec (.facetDownFlush p f) s = .next ((Act.flushEnd p (s.flushCount p (queueNo f 0 0) 2 fun _ => none)).run
      ((Act.flushOut p (queueNo f 0 0) 2 fun _ => none).run s)) := by
  show Act.go (Act.when (p < s.x ∧ f < 64 ∧ s.prismUp = true) (facetDownFlush p f)) s = _
  rw [Act.go_eq, Act.when_run, if_pos ⟨hp, by omega, hup⟩, facetDownFlush, Act.get_run, Act.when_run, if_pos ⟨hf, hd⟩, Act.seq_run]

/-- FACET_DOWN_FLUSH: a flush of the whole facet, ended at once. -/
theorem facetDownFlush_gives {s : State} {p f : Nat} (hp : p < s.x) (hp4 : p < 4) (hup : s.prismUp = true) (hf : f ≤ 55)
    (hd : s.facetDown p f = true) :
    Gives (.facetDownFlush p f) s fun t =>
      (∀ q, q < 16384 → qFacet q = f → (t.queue (globalQueue p q)).refs = []) ∧
        (∀ q, q < 16384 → qFacet q ≠ f → (t.queue (globalQueue p q)).refs = (s.queue (globalQueue p q)).refs) ∧
        bit (t.reg (QMGR.EVT p)) 4 = true := by
  have hcov := flushCovers_facet (f := f) (by omega)
  refine ⟨_, exec_facetDownFlush hp hf hup hd, fun q hq hqf => ?_, fun q hq hqf => ?_, ?_⟩
  · rw [State.queue, flushEnd_sw]
    exact flushOut_empties hq (by rw [hcov]; simpa using hqf) (by simp) p s
  · rw [State.queue, flushEnd_sw]
    exact flushOut_spares hq (by rw [hcov]; simpa using hqf) p _ s
  · obtain ⟨-, -, hlog⟩ := flushEnd_leaves hp4 (s.flushCount p (queueNo f 0 0) 2 fun _ => none)
      ((Act.flushOut p (queueNo f 0 0) 2 fun _ => none).run s)
    exact hlog.bit_set (by decide) (regMask_flushDone hp4)

/-- The state in which a flush has begun on die p: TARGET, SCOPE and RESULT of FLUSH_CMD, and its record with what it removes. -/
def State.flushBegun (u : State) (p target scope : Nat) (held : Nat → Option Nat) : State :=
  (Act.setFlush p (some { target := target, scope := scope, removed := u.flushCount p target scope held })).run
    ((Act.setFld (QMGR.FLUSH_CMD p) QMGR.FLUSH_CMD.RESULT 1).run
      ((Act.setFlds (QMGR.FLUSH_CMD p) [(QMGR.FLUSH_CMD.TARGET, target), (QMGR.FLUSH_CMD.SCOPE, scope)]).run u))

section
variable (u : State) (p target scope : Nat) (held : Nat → Option Nat)

theorem flushBegun_queue (k : Nat) : (u.flushBegun p target scope held).queue k = u.queue k := rfl

theorem flushBegun_out : (u.flushBegun p target scope held).out = u.out := rfl

theorem flushBegun_flush : (u.flushBegun p target scope held).flush p =
    some { target := target, scope := scope, removed := u.flushCount p target scope held } := by
  rw [State.flush, State.flushBegun, Act_setFlush_sw]
  simp only [Sparse.get_put, if_true]

theorem flushBegun_result (hp : p < 4) : (u.flushBegun p target scope held).fld (QMGR.FLUSH_CMD p) QMGR.FLUSH_CMD.RESULT = 1 :=
  fld_setFld (by decide) (implements_flushCmd hp).1 1 _

/-- What a flush removes leaves FLUSH_CMD as it is. -/
theorem flushOut_fld (f : Fld) : ((Act.flushOut p target scope held).run u).fld (QMGR.FLUSH_CMD p) f = u.fld (QMGR.FLUSH_CMD p) f :=
  (writes_Act_flushOut (P := fun a => a ≠ QMGR.FLUSH_CMD p) (by unfold QMGR.EVT QMGR.FLUSH_CMD ra; omega)).fld (fun h => h rfl) f u

/-- Nothing leaves the device for it. -/
theorem flushOut_out : ((Act.flushOut p target scope held).run u).out = u.out :=
  (touches_Act_flushOut fun _ h => h).same u .out (by decide)

/-- A flush has begun and has removed what it covers: FLUSH_CMD and the flush's record show it, each covered queue with no frame held is
empty, and the others keep their references. -/
structure FlushRuns (t : State) : Prop where
  result : t.fld (QMGR.FLUSH_CMD p) QMGR.FLUSH_CMD.RESULT = 1
  flush : t.flush p = some { target := target, scope := scope, removed := u.flushCount p target scope held }
  empties : ∀ q, q < 16384 → flushCovers target scope q = true → held (qFacet q) ≠ some q → (t.queue (globalQueue p q)).refs = []
  spares : ∀ q, q < 16384 → flushCovers target scope q = false →
    (t.queue (globalQueue p q)).refs = (u.queue (globalQueue p q)).refs
  out : t.out = u.out

/-- What a flush removes, from the state in which it has begun. -/
theorem flushOut_flushBegun (hp : p < 4) :
    FlushRuns u p target scope held ((Act.flushOut p target scope held).run (u.flushBegun p target scope held)) where
  result := (flushOut_fld ..).trans (flushBegun_result u p target scope held hp)
  flush := (flushOut_flush ..).trans (flushBegun_flush u p target scope held)
  empties _ hq hc hh := flushOut_empties hq hc hh p _
  spares _ hq hc := (flushOut_spares hq hc p held _).trans (congrArg Queue.refs (flushBegun_queue ..))
  out := (flushOut_out ..).trans (flushBegun_out u p target scope held)

end

/-- A write of FLUSH_CMD with START while no flush runs: the flush begins, and removes at once what it covers. -/
theorem flushCmd_starts {u : State} {p v target scope : Nat} {ag : Agent} {held : State → Nat → Option Nat} {k : Code → Act}
    (hr : u.fld (QMGR.FLUSH_CMD p) QMGR.FLUSH_CMD.RESULT ≠ 1) (ht : fget (BitVec.ofNat 48 v) QMGR.FLUSH_CMD.TARGET = target)
    (hs : fget (BitVec.ofNat 48 v) QMGR.FLUSH_CMD.SCOPE = scope) (h3 : scope ≠ 3) :
    (flushCmd ag p held (fset (BitVec.ofNat 48 v) QMGR.FLUSH_CMD.START 1) k).run u =
      (k .ok).run ((Act.flushOut p target scope (held u)).run (u.flushBegun p target scope (held u))) := by
  have hTARGET : fget (fset (BitVec.ofNat 48 v) QMGR.FLUSH_CMD.START 1) QMGR.FLUSH_CMD.TARGET = target :=
    (fget_fset_other _ _ _ _ (by decide) (by decide)).trans ht
  have hSCOPE : fget (fset (BitVec.ofNat 48 v) QMGR.FLUSH_CMD.START 1) QMGR.FLUSH_CMD.SCOPE = scope :=
    (fget_fset_other _ _ _ _ (by decide) (by decide)).trans hs
  have hSTART : fget (fset (BitVec.ofNat 48 v) QMGR.FLUSH_CMD.START 1) QMGR.FLUSH_CMD.START ≠ 0 := by
    rw [fget_fset _ _ _ (by decide)]
    decide
  rw [flushCmd, Act.get_run, hTARGET, hSCOPE, if_neg (not_or.mpr ⟨hr, h3⟩), if_neg hSTART]
  rfl

/-- FLUSH_CMD with START while no flush runs: the flush runs, and the sender is answered OK. -/
theorem flushCmd_gives {s u : State} {w : Sender} {ag : Agent} {p v : Nat} (hp : p < 4) (h : Reaches (.flushCmd w p v) s ag u)
    (hr : u.fld (QMGR.FLUSH_CMD p) QMGR.FLUSH_CMD.RESULT ≠ 1) {target scope : Nat}
    (ht : fget (BitVec.ofNat 48 v) QMGR.FLUSH_CMD.TARGET = target) (hs : fget (BitVec.ofNat 48 v) QMGR.FLUSH_CMD.SCOPE = scope)
    (h3 : scope < 3) :
    Gives (.flushCmd w p v) s fun t =>
      t.fld (QMGR.FLUSH_CMD p) QMGR.FLUSH_CMD.RESULT = 1 ∧
        t.flush p = some { target := target, scope := scope, removed := u.flushCount p target scope fun g => u.heldQueue p g } ∧
        (∀ q, q < 16384 → flushCovers target scope q = true → u.heldQueue p (qFacet q) ≠ some q → (t.queue (globalQueue p q)).refs = []) ∧
        (∀ q, q < 16384 → flushCovers target scope q = false →
          (t.queue (globalQueue p q)).refs = (u.queue (globalQueue p q)).refs) ∧
        t.out = endOut w .ok u.out := by
  obtain ⟨t, hrun, hresult, hflush, hempty, hspare, hout⟩ :
      ∃ t, exec (.flushCmd w p v) s = .next ((Act.ends w ag (QMGR.FLUSH_CMD p) .ok).run t) ∧
        FlushRuns u p target scope (fun g => u.heldQueue p g) t :=
    ⟨_, (reach_flushCmd h).trans (congrArg _ (flushCmd_starts hr ht hs (Nat.ne_of_lt h3))), flushOut_flushBegun u p target scope _ hp⟩
  rw [Act.ends_ok] at hrun
  exact ⟨_, hrun, hresult, hflush, hempty, hspare, congrArg (endOut w .ok) hout⟩

/-- A write of FLUSH_CMD with SCOPE 3 is refused. -/
theorem flushCmd_refused {s u : State} {w : Sender} {ag : Agent} {p v : Nat} (h : Reaches (.flushCmd w p v) s ag u)
    (hs : fget (BitVec.ofNat 48 v) QMGR.FLUSH_CMD.SCOPE = 3) :
    Gives (.flushCmd w p v) s fun t => t.sw = u.sw ∧ t.fld (QMGR.FLUSH_CMD p) QMGR.FLUSH_CMD.RESULT =
      u.fld (QMGR.FLUSH_CMD p) QMGR.FLUSH_CMD.RESULT ∧ t.out = endOut w .badValue u.out := by
  have hSCOPE : fget (fset (BitVec.ofNat 48 v) QMGR.FLUSH_CMD.START 1) QMGR.FLUSH_CMD.SCOPE = 3 :=
    (fget_fset_other _ _ _ _ (by decide) (by decide)).trans hs
  have hrun : exec (.flushCmd w p v) s = .next
      ((Act.seq (Act.blkErr (QMGR.FLUSH_CMD p) 0 ag) (Act.ends w ag (QMGR.FLUSH_CMD p) .badValue)).run u) := by
    rw [reach_flushCmd h, flushCmd, Act.get_run, if_pos (Or.inr hSCOPE), Act.badValue]
  obtain ⟨⟨-, -, -, hregs⟩, hout⟩ := blkErr_ends (QMGR.FLUSH_CMD p) 0 ag w .badValue u
  have hsw : Touches (Act.seq (Act.blkErr (QMGR.FLUSH_CMD p) 0 ag) (Act.ends w ag (QMGR.FLUSH_CMD p) .badValue))
      [.regs, .evtNo, .upsets, .irqs, .out] :=
    .seq (touches_Act_blkErr (by decide)) ((touches_ends ..).mono (by decide))
  refine ⟨_, hrun, hsw.same u .sw (by decide), congrArg (fget · QMGR.FLUSH_CMD.RESULT) (hregs _ ?_), hout⟩
  rw [List.mem_singleton]
  unfold QMGR.FLUSH_CMD BLK_ERR ra
  omega

theorem exec_flushDone {s : State} {p : Nat} {u : Flush} (hp : p < s.x) (hup : s.prismUp = true) (h : s.flush p = some u) :
    exec (.flushDone p) s = .next ((Act.setFld (QMGR.FLUSH_CMD p) QMGR.FLUSH_CMD.RESULT 2).run
      ((Act.flushEnd p u.removed).run ((Act.setFlush p none).run s))) := by
  show Act.go (Act.when (p < s.x ∧ s.prismUp = true) (flushDone p)) s = _
  rw [Act.go_eq, Act.when_run, if_pos ⟨hp, hup⟩, flushDone, Act.get_run, h]
  rfl

/-- FLUSH_DONE: the record of the flush is gone, its end stands in the registers, and RESULT is written last. -/
theorem flushDone_gives {s : State} {p : Nat} {u : Flush} (hp : p < s.x) (hp4 : p < 4) (hup : s.prismUp = true) (h : s.flush p = some u) :
    Gives (.flushDone p) s fun t =>
      t.flush p = none ∧ t.fld (QMGR.FLUSH_CMD p) QMGR.FLUSH_CMD.RESULT = 2 ∧
        t.fld (QMGR.FLUSH_CMD p) QMGR.FLUSH_CMD.REMOVED = sat 0xFFFFFF u.removed ∧ Counted (QMGR.CNT p 5) u.removed s t ∧
        Logged (QMGR.EVT p) 4 s t := by
  have hne : ∀ {r : Nat}, r ≠ 0x5 → QMGR.FLUSH_CMD p ≠ ra p 0x09 r := fun h => by unfold QMGR.FLUSH_CMD ra; omega
  have hw : ∀ {r : Nat}, r ≠ 0x5 → Writes (Act.setFld (QMGR.FLUSH_CMD p) QMGR.FLUSH_CMD.RESULT 2) fun b => b ≠ ra p 0x09 r :=
    fun h => writes_Act_setFld (hne h)
  obtain ⟨hRESULT, hREMOVED⟩ := implements_flushCmd hp4
  obtain ⟨hremoved, hcount, hlog⟩ := flushEnd_leaves hp4 u.removed ((Act.setFlush p none).run s)
  refine ⟨_, exec_flushDone hp hup h, ?_, fld_setFld (by decide) hRESULT 2 _, ?_, ?_, ?_⟩
  · rw [State.flush, Act_setFld_sw, flushEnd_sw, Act_setFlush_sw]
    simp only [Sparse.get_put, if_true]
  · rw [fld_setFld_other hREMOVED (by decide) (by decide), hremoved]
  · exact ((hw (by decide)).same _ _ fun h => h rfl).trans hcount
  · exact hlog.until ((hw (by decide)).same _ _ fun h => h rfl) rfl

end Sys2Proof.Machine

namespace Sys2Proof.Proofs

open Sys2Proof.Machine

/-- Settles O32: the scheduler's choice survives what runs before it and is the last thing that changes the facet or the link; a flush
empties the listed queues that it covers and leaves the references of every other. -/
theorem queuesSendAndFlush : Obligations.QueuesSendAndFlush := by
  unfold Obligations.QueuesSendAndFlush
  intro s p f j hp hp4 hup
  refine ⟨fun hf hdown htx hplca hlong q r hpick => ?_, fun hj hlink hen q r hpick => ?_, facetDownFlush_gives hp hp4 hup,
    fun w ag u v h hr => ⟨flushCmd_gives hp4 h hr rfl rfl, flushCmd_refused h⟩, fun u h => flushDone_gives hp hp4 hup h⟩
  · refine ⟨_, exec_egressSelect hp (by omega) hup, ?_⟩
    rw [egressSelect, if_pos hf]
    exact ethSelect_begins hdown htx hplca hlong hpick
  · refine ⟨_, exec_egressSelect hp (by omega) hup, ?_⟩
    rw [egressSelect, if_neg (by omega), if_neg (by omega), if_pos (by omega), Nat.add_sub_cancel_left]
    exact d2dSelect_begins hlink hen hpick

end Sys2Proof.Proofs

/-! Lookup (R295 to R302, R307 to R309, R313, R316): what FRAME_LOOKUP makes of a frame, what a delete notice and the ageing sweep do to
the MAC table, and what the commands of LPM write. -/

namespace Sys2Proof.Machine

/-! ### Buffers, holds and link records, read after a change -/

theorem buf_modBuf (k : Nat) (g : List RxFrame → List RxFrame) (s : State) : ((Act.modBuf k g).run s).buf k = g (s.buf k) := by
  simp only [State.buf, Act.modBuf, Act.get_run, Act_setBuf_sw, Sparse.get_put, if_true]

theorem hold_setHold (k : Nat) (v : Hold) (s : State) : ((Act.setHold k v).run s).hold k = v := by
  simp only [State.hold, Act_setHold_sw, Sparse.get_put, if_true]

theorem buf_setHold (k : Nat) (v : Hold) (s : State) (j : Nat) : ((Act.setHold k v).run s).buf j = s.buf j := rfl

theorem onlyRegs_setHold (k : Nat) (v : Hold) (s : State) : OnlyRegs [] s ((Act.setHold k v).run s) := fun _ _ => rfl

/-- A change of a receive buffer changes no register. -/
theorem onlyRegs_modBuf (k : Nat) (g : List RxFrame → List RxFrame) (s : State) : OnlyRegs [] s ((Act.modBuf k g).run s) :=
  fun _ _ => rfl

/-! ### FRAME_LOOKUP (R295 to R302) -/

section
variable {s : State} {p f : Nat} {r : RxFrame} {busy : Bool}

theorem exec_frameLookup (hp : p < s.x) (hf : f < 32) (hup : s.prismUp = true) :
    exec (.frameLookup p f busy) s = .next ((frameLookup p f busy).run s) := by
  show Act.go (Act.when (p < s.x ∧ f < 64 ∧ s.prismUp = true) (lookedUp p f busy)) s = _
  rw [Act.go_eq, Act.when_run, if_pos ⟨hp, by omega, hup⟩, lookedUp, Act.seq_run, Act.when_run, if_neg (by omega)]

/-- With CLS or LPM off the frame stays, and its class is held. -/
theorem frameLookup_off (hr : (s.buf (fk p f)).find? (fun r => !r.looked) = some r)
    (hoff : ¬(s.enabled p 0x10 = true ∧ s.enabled p 0x11 = true)) (hheld : (s.hold (ck p f r.bufCls)).held = false) :
    (frameLookup p f busy).run s = (Act.setHold (ck p f r.bufCls) { held := true, since := s.edges }).run s := by
  have hdown : s.enabled p 0x10 = false ∨ s.enabled p 0x11 = false := by
    rw [← Bool.not_eq_true, ← Bool.not_eq_true]
    exact not_and_or.mp hoff
  rw [frameLookup, Act.get_run, hr, Act.opt_some, if_pos hdown, Act.when_run, if_pos hheld]

/-- An Eyepiece frame of a facet that takes them goes to facet 63 of the lead die. -/
theorem frameLookup_eye (hr : (s.buf (fk p f)).find? (fun r => !r.looked) = some r)
    (hon : s.enabled p 0x10 = true ∧ s.enabled p 0x11 = true) (hf : f < 32) (he : s.toEye r.fr.data = true)
    (hfacet : bit (s.reg (EYE.ETH_FACETS 0 p)) f = true) :
    (frameLookup p f busy).run s = (Act.modBuf (fk p f) (replaceFirst
      { r with looked := true, fr := { r.fr with
          cls := s.pcpClass p f (s.tagUsed p f r.fr.data).1, flow := 0, kind := 0
          dest := globalQueue 0 (queueNo 63 (s.pcpClass p f (s.tagUsed p f r.fr.data).1) 0) } })).run s := by
  rw [frameLookup, Act.get_run, hr, Act.opt_some, if_neg (by simp [hon]), if_pos ⟨hf, he⟩, Act.eyeFrame, Act.get_run, if_pos hfacet]

/-- Every other frame takes steps 2 to 8. -/
theorem frameLookup_steps (hr : (s.buf (fk p f)).find? (fun r => !r.looked) = some r)
    (hon : s.enabled p 0x10 = true ∧ s.enabled p 0x11 = true) (hf : f < 32) (he : s.toEye r.fr.data = false) :
    (frameLookup p f busy).run s = (Act.steps2to8 p f r busy).run s := by
  rw [frameLookup, Act.get_run, hr, Act.opt_some, if_neg (by simp [hon]), if_neg (by simp [he]), if_pos (Or.inl hf)]

/-- The tagged frame that steps 4 to 8 work on. -/
def State.taggedAs (s : State) (p f : Nat) (b : List Byte) : List Byte :=
  if frTagged b && frTci b % 4096 != 0 then b else setTag b (s.tagUsed p f b).1 0 (s.tagUsed p f b).2.2

/-- A frame that the first rules pass, no link-local one and from no group address, takes steps 4 to 8 tagged. -/
theorem steps2to8_passes (ha : s.acceptBad p f r.fr.data = false) (hv : s.vlanBad p f (s.tagUsed p f r.fr.data).2.2 = false)
    (hlen : frTagged r.fr.data = false → r.fr.data.length + 4 ≤ 9216) (hsa : isGroup (frSa r.fr.data) = false)
    (hda : frDa r.fr.data / 16 ≠ 0x0180C200000) :
    (Act.steps2to8 p f r busy).run s = (Act.steps4to8 p f r (s.tagUsed p f r.fr.data).2.2 (s.tagUsed p f r.fr.data).1
      ((s.tagUsed p f r.fr.data).2.1 == 1) busy (s.taggedAs p f r.fr.data)).run s := by
  have hfits : ¬(frTagged r.fr.data = false ∧ 9216 < r.fr.data.length + 4) := fun h => by have := hlen h.1; omega
  simp only [Act.steps2to8, Act.get_run, ha, hv, hsa, Bool.false_eq_true, if_false, if_neg hfits, if_neg hda, State.taggedAs]

/-- A frame that is not to be learned, recovered, filtered or routed is decided by its destination alone. -/
theorem steps4to8_plain {vid pcp : Nat} {dei : Bool} {b : List Byte} (hlearn : s.clsPort p f CLS.PORT.LEARN = 0)
    (hrec : s.seqMatch p 0x56 vid b = none) (hfilt : (s.filters p).find? (fun i => s.filtHit p i f vid pcp b) = none)
    (hroute : s.routed p vid b = false) :
    (Act.steps4to8 p f r vid pcp dei busy b).run s = (Act.macGoal p f vid r.fr.data.length b fun g =>
      Act.step8 p f r vid (s.pcpClass p f pcp) (s.clsPort p f CLS.PORT.FLOW) none false b g).run s := by
  have hsa : (Act.learnSa p f vid busy b).run s = s := by
    rw [Act.learnSa, Act.get_run, Act.when_run, if_neg (by simp [hlearn])]
  rw [Act.steps4to8, Act.get_run, Act.seq_run, hsa, Act.recover, Act.get_run, hrec]
  simp only [hfilt, hroute, Bool.false_eq_true, if_false]

/-- A unicast to a known address of another facet, whose sequence is not generated, becomes a candidate for that facet. -/
theorem macGoal_known {vid cls flow n i : Nat} {b : List Byte} (hda : frDa b ≠ bcast)
    (hi : s.macFind p (s.vlan p vid 1 ⟨32, 12⟩) (frDa b) = some i) (hkind : fget (s.mac1 p i) MacE.KIND = 0)
    (hgen : s.seqMatch p 0x55 vid b = none) (hd : fget (s.mac1 p i) MacE.DEST % 256 ≠ globalFacet p f) :
    (Act.macGoal p f vid n b fun g => Act.step8 p f r vid cls flow none false b g).run s =
      (Act.modBuf (fk p f) (replaceFirst
        { r with looked := true, filt := none, got := cellsOf b.length, fr := { r.fr with
            cls := cls, flow := flow, kind := 0, data := b
            dest := globalQueue (fget (s.mac1 p i) MacE.DEST % 256 / 64)
              (queueNo (fget (s.mac1 p i) MacE.DEST % 256 % 64) cls flow) } })).run s := by
  simp only [Act.macGoal, Act.get_run, if_neg hda, hi, hkind, Act.step8, hgen, Act.decideTo, if_neg hd, Bool.false_eq_true, false_and,
    if_false, Bool.not_false, Bool.and_true]

end

section
variable {s : State} {p f : Nat} {r : RxFrame} {busy : Bool}

/-- FRAME_LOOKUP of a frame to a known address, unlearned, unfiltered and unrouted. -/
theorem frameLookup_known {b : List Byte} {pcp vid i : Nat} (hb : b = s.taggedAs p f r.fr.data) (hpcp : pcp = (s.tagUsed p f r.fr.data).1)
    (hvid : vid = (s.tagUsed p f r.fr.data).2.2) (hr : (s.buf (fk p f)).find? (fun r => !r.looked) = some r)
    (hon : s.enabled p 0x10 = true ∧ s.enabled p 0x11 = true) (hf : f < 32) (he : s.toEye r.fr.data = false)
    (ha : s.acceptBad p f r.fr.data = false) (hv : s.vlanBad p f vid = false)
    (hlen : frTagged r.fr.data = false → r.fr.data.length + 4 ≤ 9216) (hsa : isGroup (frSa r.fr.data) = false)
    (hlearn : s.clsPort p f CLS.PORT.LEARN = 0) (hrec : s.seqMatch p 0x56 vid b = none) (hgen : s.seqMatch p 0x55 vid b = none)
    (hfilt : (s.filters p).find? (fun i => s.filtHit p i f vid pcp b) = none) (hroute : s.routed p vid b = false)
    (hlocal : frDa r.fr.data / 16 ≠ 0x0180C200000) (hda : frDa b ≠ bcast)
    (hi : s.macFind p (s.vlan p vid 1 ⟨32, 12⟩) (frDa b) = some i) (hkind : fget (s.mac1 p i) MacE.KIND = 0)
    (hd : fget (s.mac1 p i) MacE.DEST % 256 ≠ globalFacet p f) :
    (frameLookup p f busy).run s = (Act.modBuf (fk p f) (replaceFirst
      { r with looked := true, filt := none, got := cellsOf b.length, fr := { r.fr with
          cls := s.pcpClass p f pcp, flow := s.clsPort p f CLS.PORT.FLOW, kind := 0, data := b
          dest := globalQueue (fget (s.mac1 p i) MacE.DEST % 256 / 64)
            (queueNo (fget (s.mac1 p i) MacE.DEST % 256 % 64) (s.pcpClass p f pcp) (s.clsPort p f CLS.PORT.FLOW)) } })).run s := by
  subst hb hpcp hvid
  rw [frameLookup_steps hr hon hf he, steps2to8_passes ha hv hlen hsa hlocal, steps4to8_plain hlearn hrec hfilt hroute,
    macGoal_known hda hi hkind hgen hd]

end

/-- A discard by CLS: the frame is gone, counted, and shown with its facet and reason. -/
theorem clsDrop_leaves {p f reason : Nat} (hp : p < 4) (hf : f < 64) (hr : reason < 16) (hne : reason ≠ 5) (s : State) :
    ((Act.clsDrop p f reason).run s).buf (fk p f) = dropFirst (s.buf (fk p f)) ∧
      Counted (CLS.CNT p 5) 1 s ((Act.clsDrop p f reason).run s) ∧
      ((Act.clsDrop p f reason).run s).fld (CLS.DROP_LAST p) CLS.DROP_LAST.FACET = f ∧
      ((Act.clsDrop p f reason).run s).fld (CLS.DROP_LAST p) CLS.DROP_LAST.REASON = reason := by
  have himp : ∀ p < 4, implements (CLS.DROP_LAST p) CLS.DROP_LAST.FACET = true ∧
      implements (CLS.DROP_LAST p) CLS.DROP_LAST.REASON = true := by decide +kernel
  obtain ⟨hFACET, hREASON⟩ := himp p hp
  have hcnt : Touches (Act.count (CLS.CNT p 5)) [.regs, .evtNo, .upsets, .irqs] := touches_Act_count (by decide)
  have hlast : Writes (Act.setFlds (CLS.DROP_LAST p) [(CLS.DROP_LAST.FACET, f), (CLS.DROP_LAST.REASON, reason)]) fun a =>
      a ≠ CLS.CNT p 5 := writes_Act_setFlds (by unfold CLS.DROP_LAST CLS.CNT ra; omega)
  rw [Act.clsDrop, if_neg hne, Act.all_cons, Act.all_cons, Act.all_cons, Act.all_nil]
  refine ⟨?_, ?_, ?_, ?_⟩
  · rw [← buf_modBuf (fk p f) dropFirst s, State.buf, Act_setFlds_sw, hcnt.same _ .sw (by decide), State.buf]
  · rw [Counted, Holds, hlast.same _ _ (fun h => h rfl)]
    exact count_counted (by rw [CLS.CNT, aBlk_ra (by omega) (by omega)]; decide) _
  · simp only [Act.setFlds, Act.get_run, List.foldl]
    rw [fld_setReg hFACET, fget_fset_other _ _ _ _ (by decide) (by decide), fget_fset _ _ _ (by decide)]
    exact Nat.mod_eq_of_lt hf
  · simp only [Act.setFlds, Act.get_run, List.foldl]
    rw [fld_setReg hREASON, fget_fset _ _ _ (by decide)]
    exact Nat.mod_eq_of_lt hr


section
variable {s : State} {p f : Nat} {r : RxFrame} {busy : Bool}

/-- FRAME_LOOKUP of a frame that the ACCEPT rule refuses. -/
theorem steps2to8_refused (ha : s.acceptBad p f r.fr.data = true) : (Act.steps2to8 p f r busy).run s = (Act.clsDrop p f 0).run s := by
  simp only [Act.steps2to8, Act.get_run, ha, if_true]

end

/-! ### Tables, read after a change -/

/-- The key of a table word names its entry and word. -/
theorem tblKey_ne {d t i j w x : Nat} (hw : w < 8) (hx : x < 8) (h : i ≠ j ∨ w ≠ x) : tblKey d t i w ≠ tblKey d t j x := by
  unfold tblKey
  omega

theorem tbl_setTbl (k : Nat) (v : Word) (s : State) (d t i w : Nat) :
    ((Act.setTbl k v).run s).tbl d t i w = if tblKey d t i w = k then v else s.tbl d t i w := by
  simp only [State.tbl, Act_setTbl_tbls, Sparse.get_put]

/-- A word of an entry that was written. -/
theorem tbl_setTblWords {l : List Word} {w : Nat} (hw : w < l.length) (d t i : Nat) (s : State) :
    ((Act.setTblWords d t i l).run s).tbl d t i w = l.getD w 0 := by
  refine Act.each_establishes (Q := fun u => u.tbl d t i w = l.getD w 0) (g := fun x => Act.setTbl (tblKey d t i x) (l.getD x 0))
    (List.mem_range.mpr hw) (fun u => by rw [tbl_setTbl, if_pos rfl]) (fun x u hu => ?_) s
  rw [tbl_setTbl]
  split
  · next hk =>
    have hxw : x = w := by unfold tblKey at hk; omega
    rw [hxw]
  · exact hu

/-- The other entries of the table are as before. -/
theorem tbl_setTblWords_other {l : List Word} {w i j : Nat} (hl : l.length ≤ 8) (hw : w < 8) (h : j ≠ i) (d t : Nat) :
    Keeps (fun s => s.tbl d t j w) (Act.setTblWords d t i l) := by
  refine Keeps.each (g := fun x => Act.setTbl (tblKey d t i x) (l.getD x 0)) fun x hx => ⟨fun s => ?_⟩
  have hx8 : x < 8 := (List.mem_range.mp hx).trans_le hl
  exact (tbl_setTbl ..).trans (if_neg (tblKey_ne hw hx8 (Or.inl h)))

/-! ### Notices (R308, R309) -/

section
variable {s : State} {p j : Nat} {busy : Bool}

/-- The link by which die p is told of what is learned at the far end of its link j. -/
def noticeLink (p j : Nat) : Nat := 4 * d2dFar p j + d2dLink (d2dFar p j) p

theorem exec_learnNoticeReceive (hp : p < s.x) (hj : j < 3) (hup : s.prismUp = true) :
    exec (.learnNoticeReceive p j busy) s = .next ((learnNoticeReceive p j busy).run s) := by
  show Act.go (Act.when (p < s.x ∧ j < 3 ∧ s.prismUp = true) (learnNoticeReceive p j busy)) s = _
  rw [Act.go_eq, Act.when_run, if_pos ⟨hp, hj, hup⟩]

/-- The entry with a key lies in the bucket of the key, so in its region. -/
theorem macFind_region {fid mac i : Nat} (h : s.macFind p fid mac = some i) :
    s.tblLocked p 0x43 (s.bucket p fid mac * 8) 262144 = s.tblLocked p 0x43 i 262144 := by
  obtain ⟨w, hw, rfl⟩ := List.mem_map.mp (List.mem_of_find?_eq_some h)
  have hw8 : w < 8 := List.mem_range.mp hw
  have hreg : s.bucket p fid mac * 8 / (262144 / 32) = (s.bucket p fid mac * 8 + w) / (262144 / 32) := by omega
  rw [State.tblLocked, State.tblLocked, hreg]

variable {fid mac facet : Nat} {l : List (Bool × Nat × Nat × Nat)}

/-- The link's record without its oldest notice. -/
def Act.noticeTaken (p j : Nat) (l : List (Bool × Nat × Nat × Nat)) : Act :=
  Act.modLink (noticeLink p j) fun u => { u with notices := l }

theorem noticeTaken_link : (((Act.noticeTaken p j l).run s).link (noticeLink p j)).notices = l := by
  rw [Act.noticeTaken, link_modLink, if_pos rfl]

/-- A delete notice that the table engine cannot take is lost. -/
theorem learnNoticeReceive_busy (hl : (s.link (noticeLink p j)).notices = (false, fid, mac, facet) :: l) :
    (learnNoticeReceive p j true).run s = (Act.count (CLS.CNT p 9)).run ((Act.noticeTaken p j l).run s) := by
  rw [noticeLink] at hl
  rw [learnNoticeReceive, Act.get_run]
  dsimp only
  rw [hl]
  rfl

/-- A delete notice of an entry whose region is not locked removes it where it is REMOTE and its facet is the one named. -/
theorem learnNoticeReceive_deletes {i : Nat} (hl : (s.link (noticeLink p j)).notices = (false, fid, mac, facet) :: l)
    (hi : s.macFind p fid mac = some i) (hlock : s.tblLocked p 0x43 i 262144 = false) :
    (learnNoticeReceive p j false).run s =
      (Act.when (fget (s.mac1 p i) MacE.REMOTE = 1 ∧ fget (s.mac1 p i) MacE.DEST = facet) (Act.setTblWords p 0x43 i [0, 0])).run
        ((Act.noticeTaken p j l).run s) := by
  rw [← macFind_region hi] at hlock
  rw [noticeLink] at hl
  rw [learnNoticeReceive, Act.get_run]
  dsimp only
  rw [hl]
  simp only [hi, hlock, Bool.false_eq_true, if_false]
  rfl

theorem learnNoticeReceive_gives {i : Nat} (hp : p < s.x) (hj : j < 3) (hup : s.prismUp = true)
    (hl : (s.link (noticeLink p j)).notices = (false, fid, mac, facet) :: l)
    (hi : s.macFind p fid mac = some i) (hlock : s.tblLocked p 0x43 i 262144 = false) :
    Gives (.learnNoticeReceive p j false) s fun t => (t.link (noticeLink p j)).notices = l ∧ OnlyRegs [] s t ∧
      t.mac1 p i = if fget (s.mac1 p i) MacE.REMOTE = 1 ∧ fget (s.mac1 p i) MacE.DEST = facet then 0 else s.mac1 p i := by
  have hput : Touches (Act.setTblWords p 0x43 i [0, 0]) [.tbls] := touches_Act_setTblWords (by decide)
  refine ⟨_, (exec_learnNoticeReceive hp hj hup).trans (congrArg _ (learnNoticeReceive_deletes hl hi hlock)), ?_, fun a _ => ?_, ?_⟩
  · rw [State.link, hput.when.same _ .sw (by decide)]
    exact noticeTaken_link
  · rw [State.reg, hput.when.same _ .regs (by decide)]
    rfl
  · rw [Act.when_run]
    split
    · exact tbl_setTblWords (w := 1) (by decide) _ _ _ _
    · rfl

theorem learnNoticeReceive_busy_gives (hp : p < s.x) (hj : j < 3) (hup : s.prismUp = true)
    (hl : (s.link (noticeLink p j)).notices = (false, fid, mac, facet) :: l) :
    Gives (.learnNoticeReceive p j true) s fun t =>
      (t.link (noticeLink p j)).notices = l ∧ t.tbls = s.tbls ∧ Counted (CLS.CNT p 9) 1 s t := by
  have hcnt : Touches (Act.count (CLS.CNT p 9)) [.regs, .evtNo, .upsets, .irqs] := touches_Act_count (by decide)
  refine ⟨_, (exec_learnNoticeReceive hp hj hup).trans (congrArg _ (learnNoticeReceive_busy hl)), ?_, ?_, ?_⟩
  · rw [State.link, hcnt.same _ .sw (by decide)]
    exact noticeTaken_link
  · rw [hcnt.same _ .tbls (by decide)]
    rfl
  · exact count_counted (by rw [CLS.CNT, aBlk_ra (by omega) (by omega)]; decide) _

end

/-! ### The ageing sweep (R307) -/

/-- What does not touch the tables leaves their words. -/
theorem Touches.keepsTbl {A : Act} {S : List Part} (h : Touches A S) (hS : Part.tbls ∉ S) (d t i w : Nat) :
    Keeps (fun s => s.tbl d t i w) A :=
  ⟨fun s => congrArg (Sparse.get tblBlank · _) (h.same s .tbls hS)⟩

/-- Where an element stands once in a list, what the others leave is as its own action makes it. -/
theorem Act.each_once {α β : Type} {F : State → β} {g : α → Act} {l : List α} {x : α} (hn : l.Nodup) (hx : x ∈ l)
    (hkeep : ∀ y, y ≠ x → Keeps F (g y)) (s : State) : ∃ u, F u = F s ∧ F ((Act.each l g).run s) = F ((g x).run u) := by
  induction l generalizing s with
  | nil => cases hx
  | cons y l ih =>
    obtain ⟨hy, hl⟩ := List.nodup_cons.mp hn
    by_cases hyx : y = x
    · subst hyx
      exact ⟨s, rfl, (Keeps.each fun z hz => hkeep z fun h => hy (h ▸ hz)).same _⟩
    · obtain ⟨u, hu, he⟩ := ih hl ((List.mem_cons.mp hx).resolve_left (Ne.symm hyx)) ((g y).run s)
      exact ⟨u, hu.trans ((hkeep y hyx).same s), he⟩

/-- In a rising list every key lies above the bound and above those before it. -/
theorem Sparse.rises_pairwise {α : Type} {m : Sparse α} {b : Option Nat} (h : Sparse.rises b m = true) :
    (∀ x ∈ b, ∀ e ∈ m, x < e.1) ∧ m.Pairwise fun e e' => e.1 < e'.1 := by
  induction m generalizing b with
  | nil => exact ⟨fun _ _ _ he => (List.not_mem_nil he).elim, .nil⟩
  | cons e m ih =>
    have hrest : Sparse.rises (some e.1) m = true := by
      cases b with
      | none => exact h
      | some b => exact (Bool.and_eq_true_iff.mp h).2
    obtain ⟨habove, hpair⟩ := ih hrest
    refine ⟨fun x hx e' he' => ?_, List.pairwise_cons.mpr ⟨habove _ rfl, hpair⟩⟩
    cases hx
    have hlt : x < e.1 := of_decide_eq_true (Bool.and_eq_true_iff.mp h).1
    rcases List.mem_cons.mp he' with rfl | hm
    · exact hlt
    · exact hlt.trans (habove _ rfl _ hm)

/-- The valid MAC entries are listed once each. -/
theorem macEntries_nodup {s : State} (h : Sparse.canon tblBlank s.tbls = true) (p : Nat) : (s.macEntries p).Nodup := by
  obtain ⟨-, hpair⟩ := Sparse.rises_pairwise (Bool.and_eq_true_iff.mp h).1
  refine List.pairwise_map.mpr ((hpair.filter _).imp_of_mem fun {e e'} he he' hlt => ?_)
  have hkey : ∀ {x : Nat × Word},
      x ∈ s.tbls.filter (fun e => e.1 / 2 ^ 23 == p * 256 + 0x43 && e.1 % 8 == 1 && fget e.2 MacE.VALID == 1) →
        x.1 / 2 ^ 23 = p * 256 + 0x43 ∧ x.1 % 8 = 1 := fun hx => by
    simp only [List.mem_filter, Bool.and_eq_true, beq_iff_eq] at hx
    exact ⟨hx.2.1.1, hx.2.1.2⟩
  have hk := hkey he
  have hk' := hkey he'
  omega

/-- What the sweep does with one entry. -/
def Act.ageEntry (p i : Nat) : Act :=
  Act.get fun t =>
    let w := t.mac1 p i
    if fget w MacE.AGE < 2 then Act.setTbl (tblKey p 0x43 i 1) (fset w MacE.AGE (fget w MacE.AGE + 1))
    else if fget w MacE.REMOTE = 0 ∧ t.noticeRoom p = 0 then Act.learnOverrun p
    else Act.seq (Act.count (CLS.CNT p 3)) (Act.macRemove p i)

/-- The entries that the sweep works on. -/
def State.sweptEntries (s : State) (p : Nat) : List Nat :=
  (s.macEntries p).filter fun i => fget (s.mac1 p i) MacE.STATIC == 0 && !s.tblLocked p 0x43 i 262144

theorem exec_ageingSweep {s : State} {p : Nat} (hp : p < s.x) (hup : s.prismUp = true) :
    exec (.ageingSweep p) s = .next ((Act.each (s.sweptEntries p) (Act.ageEntry p)).run s) := by
  show Act.go (Act.when (p < s.x ∧ s.prismUp = true) (ageingSweep p)) s = _
  rw [Act.go_eq, Act.when_run, if_pos ⟨hp, hup⟩]
  rfl

theorem mem_sweptEntries {s : State} {p i : Nat} : i ∈ s.sweptEntries p ↔
    i ∈ s.macEntries p ∧ fget (s.mac1 p i) MacE.STATIC = 0 ∧ s.tblLocked p 0x43 i 262144 = false := by
  simp only [State.sweptEntries, List.mem_filter, Bool.and_eq_true, beq_iff_eq, Bool.not_eq_true']

/-- Removing a MAC entry empties it. -/
theorem macRemove_mac1 (p i : Nat) (s : State) : ((Act.macRemove p i).run s).mac1 p i = 0 :=
  tbl_setTblWords (l := [0, 0]) (w := 1) (by decide) _ _ _ _

/-- Removing a MAC entry leaves the words of the others. -/
theorem macRemove_other {p i j w : Nat} (hw : w < 8) (h : i ≠ j) : Keeps (fun s => s.tbl p 0x43 i w) (Act.macRemove p j) :=
  .get fun _ => .seq ((touches_Act_notice (S := [.sw]) (by decide)).when.keepsTbl (by decide) ..)
    (tbl_setTblWords_other (by decide) hw h ..)

/-- The sweep's work on an entry leaves the others. -/
theorem ageEntry_other {p i j : Nat} (h : i ≠ j) : Keeps (fun s => s.mac1 p i) (Act.ageEntry p j) := by
  have hcnt : Touches (Act.count (CLS.CNT p 3)) [.regs, .evtNo, .upsets, .irqs] := touches_Act_count (by decide)
  have hover : Touches (Act.learnOverrun p) [.regs, .evtNo, .upsets, .irqs] := touches_Act_learnOverrun (by decide)
  refine .get fun t => .ite ⟨fun s => ?_⟩ <| .ite (hover.keepsTbl (by decide) ..) <|
    .seq (hcnt.keepsTbl (by decide) ..) (macRemove_other (by decide) h)
  exact (tbl_setTbl ..).trans (if_neg (tblKey_ne (by decide) (by decide) (Or.inl h)))

/-- A young entry becomes one older. -/
theorem ageEntry_young {p i : Nat} {s : State} (h : fget (s.mac1 p i) MacE.AGE < 2) :
    ((Act.ageEntry p i).run s).mac1 p i = fset (s.mac1 p i) MacE.AGE (fget (s.mac1 p i) MacE.AGE + 1) := by
  simp only [Act.ageEntry, Act.get_run, if_pos h]
  exact (tbl_setTbl ..).trans (if_pos rfl)

/-- An old REMOTE entry is removed. -/
theorem ageEntry_old {p i : Nat} {s : State} (h : 2 ≤ fget (s.mac1 p i) MacE.AGE) (hr : fget (s.mac1 p i) MacE.REMOTE = 1) :
    ((Act.ageEntry p i).run s).mac1 p i = 0 := by
  simp only [Act.ageEntry, Act.get_run, if_neg (not_lt.mpr h), hr, Nat.one_ne_zero, false_and, if_false, Act.seq_run]
  exact macRemove_mac1 ..

/-- AGEING_SWEEP. -/
theorem ageingSweep_gives {s : State} {p : Nat} (hp : p < s.x) (hup : s.prismUp = true) (hc : Sparse.canon tblBlank s.tbls = true) :
    Gives (.ageingSweep p) s fun t => ∀ i,
      (i ∈ s.sweptEntries p → fget (s.mac1 p i) MacE.AGE < 2 →
        t.mac1 p i = fset (s.mac1 p i) MacE.AGE (fget (s.mac1 p i) MacE.AGE + 1)) ∧
      (i ∈ s.sweptEntries p → 2 ≤ fget (s.mac1 p i) MacE.AGE → fget (s.mac1 p i) MacE.REMOTE = 1 → t.mac1 p i = 0) ∧
      (i ∉ s.sweptEntries p → t.mac1 p i = s.mac1 p i) := by
  have honce {i : Nat} (hi : i ∈ s.sweptEntries p) :=
    Act.each_once (F := fun u => u.mac1 p i) ((macEntries_nodup hc p).filter _) hi (fun _ h => ageEntry_other h.symm) s
  refine ⟨_, exec_ageingSweep hp hup, fun i => ⟨fun hi hage => ?_, fun hi hage hrem => ?_, fun hi => ?_⟩⟩
  · obtain ⟨u, hu, he⟩ := honce hi
    rw [← hu] at hage ⊢
    exact he.trans (ageEntry_young hage)
  · obtain ⟨u, hu, he⟩ := honce hi
    rw [← hu] at hage hrem
    exact he.trans (ageEntry_old hage hrem)
  · exact (Keeps.each fun j hj => ageEntry_other (p := p) (i := i) (j := j) fun h => hi (h ▸ hj)).same s

/-! ### LPM: routes and their slots (R313, R316) -/

theorem fget_lt (v : Word) (f : Fld) : fget v f < 2 ^ f.w := Nat.mod_lt _ (Nat.two_pow_pos _)

/-- The words of an entry that was written. -/
theorem tblWords_setTblWords (d t i : Nat) (l : List Word) (s : State) :
    ((Act.setTblWords d t i l).run s).tblWords d t i l.length = l := by
  refine List.ext_getElem (by simp [State.tblWords]) fun w _ hw => ?_
  simp only [State.tblWords, List.getElem_map, List.getElem_range]
  rw [tbl_setTblWords hw, List.getD_eq_getElem _ _ hw]

/-- The words of the other entries of the table. -/
theorem tblWords_setTblWords_other {l : List Word} {i j n : Nat} (hl : l.length ≤ 8) (hn : n ≤ 8) (h : j ≠ i) (d t : Nat)
    (s : State) : ((Act.setTblWords d t i l).run s).tblWords d t j n = s.tblWords d t j n :=
  List.map_congr_left fun _ hw => (tbl_setTblWords_other hl ((List.mem_range.mp hw).trans_le hn) h d t).same s

/-- The words of a run of entries of two words that was written. -/
theorem tblWords_slots {f : Nat → List Word} (hf : ∀ k, (f k).length = 2) {n k : Nat} (hk : k < n) (p t b : Nat) (s : State) :
    ((Act.each (List.range n) fun k => Act.setTblWords p t (b + k) (f k)).run s).tblWords p t (b + k) 2 = f k := by
  have hset : ∀ u, ((Act.setTblWords p t (b + k) (f k)).run u).tblWords p t (b + k) 2 = f k := fun u => by
    have hall := tblWords_setTblWords p t (b + k) (f k) u
    rwa [hf] at hall
  refine Act.each_establishes (Q := fun u => u.tblWords p t (b + k) 2 = f k) (List.mem_range.mpr hk) hset (fun j u hu => ?_) s
  by_cases hj : j = k
  · rw [hj]
    exact hset u
  · rw [tblWords_setTblWords_other (by rw [hf]; decide) (by decide) (by omega)]
    exact hu

/-- A route that was written stands in its slots. -/
theorem putRoute_words {r : Route} {k : Nat} (hk : k < r.slots) (p : Nat) (s : State) :
    ((Act.putRoute p r).run s).tblWords p 0x44 (r.slot + k) 2 = r.slotWords k :=
  tblWords_slots (fun _ => rfl) hk p 0x44 r.slot s

/-- A route that was removed leaves its slots empty. -/
theorem dropRoute_words {r : Route} {k : Nat} (hk : k < r.slots) (p : Nat) (s : State) :
    ((Act.dropRoute p r).run s).tblWords p 0x44 (r.slot + k) 2 = [0, 0] :=
  tblWords_slots (f := fun _ => [0, 0]) (fun _ => rfl) hk p 0x44 r.slot s

/-- A route that was written shows its next hop. -/
theorem putRoute_hop {r : Route} (hh : r.hop < 4096) (p : Nat) (s : State) :
    fget (((Act.putRoute p r).run s).tbl p 0x44 r.slot 0) ⟨10, 12⟩ = r.hop := by
  have hslots : 0 < r.slots := by
    unfold Route.slots
    split <;> decide
  have hword : ((Act.putRoute p r).run s).tbl p 0x44 r.slot 0 = (r.slotWords 0).getD 0 0 := by
    rw [← putRoute_words hslots p s]
    rfl
  rw [hword, Route.slotWords, List.getD_cons_zero, word]
  simp only [List.foldl, if_true]
  rw [fget_fset_other _ _ _ _ (by decide) (by decide), fget_fset _ _ _ (by decide)]
  exact Nat.mod_eq_of_lt hh

/-- The routes of a die are read from its tables alone. -/
theorem routes_congr {s t : State} (h : t.tbls = s.tbls) (p : Nat) : t.routes p = s.routes p := by
  simp only [State.routes, State.slotAddr, State.tbl, h]

/-- With room for a route nothing is evicted. -/
theorem lpmRoom_fits {s : State} {p n k : Nat} (h : routeSlots (s.routes p) + n ≤ 16384) : (Act.lpmRoom p n k).run s = s := by
  cases k with
  | zero => rfl
  | succ k => rw [Act.lpmRoom, Act.get_run, if_pos h, Act.skip_run]

/-- The entries of a list of routes before the place of a length, the nearest first. -/
def routesBefore (len : Nat) (l : List Route) : List Route := (l.filter fun x => Nat.ble len x.len).reverse

/-- The entries after that place. -/
def routesAfter (len : Nat) (l : List Route) : List Route := l.filter fun x => Nat.blt x.len len

/-- The first slot after the entries before the place. -/
def gapStart (len : Nat) (l : List Route) : Nat := (routesBefore len l).head?.elim 0 fun x => x.slot + x.slots

/-- The first slot of the entries after the place. -/
def gapEnd (len : Nat) (l : List Route) : Nat := (routesAfter len l).head?.elim 16384 fun x => x.slot

/-- Where the gap at its place holds it, a route is put there and no entry moves. -/
theorem placeRoute_fits {s : State} {p : Nat} {r : Route} (h : gapStart r.len (s.routes p) + r.slots ≤ gapEnd r.len (s.routes p)) :
    (Act.placeRoute p r).run s = (Act.setFld (LPM.CMD p) LPM.CMD.SLOT (gapStart r.len (s.routes p))).run
      ((Act.putRoute p { r with slot := gapStart r.len (s.routes p) }).run s) := by
  have hgap : openGap r.slots 4 (routesBefore r.len (s.routes p)) (routesAfter r.len (s.routes p)) =
      (routesBefore r.len (s.routes p), routesAfter r.len (s.routes p)) := by
    rw [openGap]
    exact if_pos h
  have hmem : ∀ x, x ∈ routesBefore r.len (s.routes p) ++ routesAfter r.len (s.routes p) ↔ x ∈ s.routes p := fun x => by
    have hcases : r.len ≤ x.len ∨ x.len < r.len := le_or_gt _ _
    simp only [routesBefore, routesAfter, List.mem_append, List.mem_reverse, List.mem_filter, Nat.ble_eq, Nat.blt_eq]
    tauto
  have hgone : ((s.routes p).filter fun x => !(routesBefore r.len (s.routes p) ++ routesAfter r.len (s.routes p)).contains x) = [] :=
    List.filter_eq_nil_iff.mpr fun x hx => by rw [List.contains_iff_mem.mpr ((hmem x).mpr hx)]; decide
  have hmoved : ((routesBefore r.len (s.routes p) ++ routesAfter r.len (s.routes p)).filter fun x => !(s.routes p).contains x) = [] :=
    List.filter_eq_nil_iff.mpr fun x hx => by rw [List.contains_iff_mem.mpr ((hmem x).mp hx)]; decide
  rw [routesBefore, routesAfter] at hgap hgone hmoved
  simp only [Act.placeRoute, Act.get_run, hgap, hgone, hmoved, Act.all_cons, Act.all_nil, Act.each_nil]
  rfl

/-- Storing a command register leaves every other register as it is. -/
theorem store_other {a b : Nat} (h : b ≠ a) (v : Word) (s : State) : ((Act.store a v).run s).reg b = s.reg b :=
  (writes_Act_store (P := fun x => x = a) rfl).same s b h

/-- What storing a register touches. -/
theorem touches_store (a : Nat) (v : Word) : Touches (Act.store a v) [.regs, .upsets] := touches_Act_store (by decide)

theorem implements_lpmCmd {p : Nat} (hp : p < 4) : implements (LPM.CMD p) LPM.CMD.RESULT = true ∧
    implements (LPM.CMD p) LPM.CMD.SLOT = true ∧ implements (LPM.CMD p) LPM.CMD.NEXT_HOP = true := by
  have h : ∀ p < 4, implements (LPM.CMD p) LPM.CMD.RESULT = true ∧ implements (LPM.CMD p) LPM.CMD.SLOT = true ∧
      implements (LPM.CMD p) LPM.CMD.NEXT_HOP = true := by decide +kernel
  exact h p hp

section
variable {s u : State} {w : Sender} {ag : Agent} {p v len hop : Nat} {v6 : Bool}

/-- The state in which an operation of LPM.CMD starts: the word is stored. -/
def State.lpmStored (u : State) (p : Nat) (x : Word) : State := (Act.store (LPM.CMD p) x).run u

/-- The locks, keys and routes that an operation reads are not in LPM.CMD. -/
theorem lpmStored_reads (u : State) (p : Nat) (x : Word) : (u.lpmStored p x).lpmLocked p = u.lpmLocked p ∧
    (∀ v6, (u.lpmStored p x).lpmAddr p v6 = u.lpmAddr p v6) ∧ (u.lpmStored p x).routes p = u.routes p := by
  have hreg : ∀ {b}, b ≠ LPM.CMD p → (u.lpmStored p x).reg b = u.reg b := fun h => store_other h x u
  refine ⟨?_, fun v6 => ?_, routes_congr ((touches_store _ x).same u .tbls (by decide)) p⟩
  · rw [State.lpmLocked, State.fld, hreg (by unfold TDMA.LOCK LPM.CMD ra; omega)]
    rfl
  · rw [State.lpmAddr, State.lpmAddr, hreg (b := LPM.KEY_0 p) (by unfold LPM.KEY_0 LPM.CMD ra; omega),
      hreg (b := LPM.KEY_1 p) (by unfold LPM.KEY_1 LPM.CMD ra; omega), hreg (b := LPM.KEY_2 p) (by unfold LPM.KEY_2 LPM.CMD ra; omega)]

/-- The route that an insert makes. -/
def State.newRoute (s : State) (p : Nat) (v6 : Bool) (len hop : Nat) : Route :=
  { v6 := v6, len := len, hop := hop, stamp := s.lpmSeq p % 65536, addr := s.lpmAddr p v6 }

theorem lpmStored_newRoute (u : State) (p : Nat) (x : Word) (v6 : Bool) (len hop : Nat) :
    (u.lpmStored p x).newRoute p v6 len hop = u.newRoute p v6 len hop := by
  obtain ⟨-, haddr, -⟩ := lpmStored_reads u p x
  have hseq : (u.lpmStored p x).lpmSeq p = u.lpmSeq p :=
    by rw [State.lpmSeq, show (u.lpmStored p x).sw = u.sw from (touches_store _ x).same u .sw (by decide), State.lpmSeq]
  rw [State.newRoute, haddr, hseq, State.newRoute]

theorem lpmStored_find (u : State) (p : Nat) (x : Word) (v6 : Bool) (len : Nat) :
    (u.lpmStored p x).lpmFind p v6 len = u.lpmFind p v6 len := by
  obtain ⟨-, haddr, hroutes⟩ := lpmStored_reads u p x
  rw [State.lpmFind, haddr, hroutes]
  rfl

/-- The operation that OP names. -/
def Act.lpmOp (p op : Nat) (v6 : Bool) (len hop : Nat) : Act :=
  match op with
  | 1 => Act.lpmInsert p v6 len hop
  | 2 => Act.lpmDelete p v6 len
  | 3 => Act.lpmLookup p v6
  | _ => Act.skip

/-- An accepted command: its word is stored, its operation made, and the reply given. -/
theorem lpmCmd_run {op : Nat} (hop : op < 4) {x : Word} (hlen : fget x LPM.CMD.LEN ≤ (if fget x LPM.CMD.V6 == 1 then 128 else 32))
    (k : Code → Act) : (lpmCmd ag p (fset x LPM.CMD.OP op) k).run u =
      (k .ok).run ((Act.lpmOp p op (fget x LPM.CMD.V6 == 1) (fget x LPM.CMD.LEN) (fget x LPM.CMD.NEXT_HOP)).run
        (u.lpmStored p (fset x LPM.CMD.OP op))) := by
  have hother : ∀ f : Fld, f.lo + f.w ≤ 48 → 2 ≤ f.lo → fget (fset x LPM.CMD.OP op) f = fget x f := fun f hf h =>
    fget_fset_other _ _ _ _ hf (Or.inl h)
  have hOP : fget (fset x LPM.CMD.OP op) LPM.CMD.OP = op := (fget_fset _ _ _ (by decide)).trans (Nat.mod_eq_of_lt hop)
  rw [lpmCmd, hother LPM.CMD.V6 (by decide) (by decide), hother LPM.CMD.LEN (by decide) (by decide),
    hother LPM.CMD.NEXT_HOP (by decide) (by decide), hOP, if_neg (not_lt.mpr hlen), Act.all_cons, Act.all_cons, Act.all_cons, Act.all_nil]
  rfl

/-- The last step of an operation on state s has set RESULT to n and nothing has left the block. -/
structure LpmReports (p n : Nat) (s t : State) : Prop where
  result : t.fld (LPM.CMD p) LPM.CMD.RESULT = n
  out : t.out = s.out

theorem lpmResult_reports (hp : p < 4) {n : Nat} (hn : n < 8) {q : State} (hout : q.out = s.out) :
    LpmReports p n s ((Act.lpmResult p n).run q) :=
  ⟨(fld_setFld (by decide) (implements_lpmCmd hp).1 n q).trans (Nat.mod_eq_of_lt hn), hout⟩

/-- SLOT, set before the result is reported. -/
theorem lpmResult_slot (hp : p < 4) (n slot : Nat) (q : State) :
    ((Act.lpmResult p n).run ((Act.setFld (LPM.CMD p) LPM.CMD.SLOT slot).run q)).fld (LPM.CMD p) LPM.CMD.SLOT = slot % 16384 := by
  obtain ⟨-, hSLOT, -⟩ := implements_lpmCmd hp
  rw [Act.lpmResult, fld_setFld_other hSLOT (by decide) (by decide), fld_setFld (by decide) hSLOT]
  rfl

theorem putRoute_out (p : Nat) (r : Route) (s : State) : ((Act.putRoute p r).run s).out = s.out :=
  (touches_Act_putRoute (S := [.tbls]) (by decide)).same s .out (by decide)

theorem dropRoute_out (p : Nat) (r : Route) (s : State) : ((Act.dropRoute p r).run s).out = s.out :=
  (touches_Act_dropRoute (S := [.tbls]) (by decide)).same s .out (by decide)

/-- A route that is put and shown in SLOT sends nothing. -/
theorem slotPut_out (p n : Nat) (r : Route) (s : State) :
    ((Act.setFld (LPM.CMD p) LPM.CMD.SLOT n).run ((Act.putRoute p r).run s)).out = s.out :=
  (Act_setFld_out ..).trans (putRoute_out ..)

/-- Storing the command's word sends nothing and writes no table. -/
theorem lpmStored_keeps (u : State) (p : Nat) (x : Word) : (u.lpmStored p x).out = u.out ∧ (u.lpmStored p x).tbls = u.tbls :=
  ⟨(touches_store _ x).same u .out (by decide), (touches_store _ x).same u .tbls (by decide)⟩

/-! LPM_INSERT: the operation in its four cases. -/

theorem lpmInsert_locked (h : s.lpmLocked p = true) : (Act.lpmInsert p v6 len hop).run s = (Act.lpmResult p 5).run s := by
  rw [Act.lpmInsert, Act.get_run, if_pos h]

theorem lpmInsert_known {r : Route} (h : s.lpmLocked p = false) (hr : s.lpmFind p v6 len = some r) :
    (Act.lpmInsert p v6 len hop).run s =
      (Act.lpmResult p 2).run ((Act.setFld (LPM.CMD p) LPM.CMD.SLOT r.slot).run ((Act.putRoute p { r with hop := hop }).run s)) := by
  rw [Act.lpmInsert, Act.get_run, if_neg (by rw [h]; decide), hr]
  rfl

theorem lpmInsert_fits (h : s.lpmLocked p = false) (hr : s.lpmFind p v6 len = none)
    (hslots : routeSlots (s.routes p) + (s.newRoute p v6 len hop).slots ≤ 16384)
    (hgap : gapStart len (s.routes p) + (s.newRoute p v6 len hop).slots ≤ gapEnd len (s.routes p)) :
    (Act.lpmInsert p v6 len hop).run s = (Act.lpmResult p 2).run
      ((Act.setFld (LPM.CMD p) LPM.CMD.SLOT (gapStart len (s.routes p))).run
        ((Act.putRoute p { s.newRoute p v6 len hop with slot := gapStart len (s.routes p) }).run
          ((Act.setLpmSeq p ((s.lpmSeq p + 1) % 65536)).run s))) := by
  have hroutes : ((Act.setLpmSeq p ((s.lpmSeq p + 1) % 65536)).run s).routes p = s.routes p := routes_congr rfl p
  have hnotfull : decide (16384 < routeSlots (s.routes p) + (s.newRoute p v6 len hop).slots) = false :=
    decide_eq_false (not_lt.mpr hslots)
  have hplace := placeRoute_fits (s := (Act.setLpmSeq p ((s.lpmSeq p + 1) % 65536)).run s) (p := p) (r := s.newRoute p v6 len hop)
    (by rw [hroutes]; exact hgap)
  rw [hroutes] at hplace
  have hrun : (Act.lpmInsert p v6 len hop).run s = (Act.all [Act.setLpmSeq p ((s.lpmSeq p + 1) % 65536),
      Act.lpmRoom p (s.newRoute p v6 len hop).slots 4, Act.placeRoute p (s.newRoute p v6 len hop), Act.lpmResult p (if
        decide (16384 < routeSlots (s.routes p) + (s.newRoute p v6 len hop).slots) = true then 4 else 2)]).run s := by
    rw [Act.lpmInsert, Act.get_run, if_neg (by rw [h]; decide), hr]
    rfl
  rw [hrun, hnotfull, Act.all_cons, Act.all_cons, Act.all_cons, Act.all_cons, Act.all_nil, lpmRoom_fits (by rw [hroutes]; exact hslots),
    hplace]
  rfl

/-- What the insert of a known route leaves. -/
theorem lpmInsert_known_leaves (hp : p < 4) {r : Route} (hh : hop < 4096) (h : s.lpmLocked p = false)
    (hr : s.lpmFind p v6 len = some r) : LpmReports p 2 s ((Act.lpmInsert p v6 len hop).run s) ∧
      ((Act.lpmInsert p v6 len hop).run s).fld (LPM.CMD p) LPM.CMD.SLOT = r.slot % 16384 ∧
      fget (((Act.lpmInsert p v6 len hop).run s).tbl p 0x44 r.slot 0) ⟨10, 12⟩ = hop := by
  rw [lpmInsert_known h hr]
  exact ⟨lpmResult_reports hp (by decide) (slotPut_out ..), lpmResult_slot hp .., putRoute_hop (r := { r with hop := hop }) hh p s⟩

/-- What the insert of a new route leaves where the gap at its place holds it. -/
theorem lpmInsert_fits_leaves (hp : p < 4) (h : s.lpmLocked p = false) (hr : s.lpmFind p v6 len = none)
    (hslots : routeSlots (s.routes p) + (s.newRoute p v6 len hop).slots ≤ 16384)
    (hgap : gapStart len (s.routes p) + (s.newRoute p v6 len hop).slots ≤ gapEnd len (s.routes p)) :
    LpmReports p 2 s ((Act.lpmInsert p v6 len hop).run s) ∧
      ((Act.lpmInsert p v6 len hop).run s).fld (LPM.CMD p) LPM.CMD.SLOT = gapStart len (s.routes p) % 16384 ∧
      ∀ k, k < (s.newRoute p v6 len hop).slots →
        ((Act.lpmInsert p v6 len hop).run s).tblWords p 0x44 (gapStart len (s.routes p) + k) 2 =
          { s.newRoute p v6 len hop with slot := gapStart len (s.routes p) }.slotWords k := by
  rw [lpmInsert_fits h hr hslots hgap]
  exact ⟨lpmResult_reports hp (by decide) ((slotPut_out ..).trans (Act_setLpmSeq_out ..)), lpmResult_slot hp .., fun k hk =>
    putRoute_words (r := { s.newRoute p v6 len hop with slot := gapStart len (s.routes p) }) hk p _⟩

/-! LPM_DELETE and LPM_FIND. -/

theorem lpmDelete_locked (h : s.lpmLocked p = true) : (Act.lpmDelete p v6 len).run s = (Act.lpmResult p 5).run s := by
  rw [Act.lpmDelete, Act.get_run, if_pos h]

theorem lpmDelete_unknown (h : s.lpmLocked p = false) (hr : s.lpmFind p v6 len = none) :
    (Act.lpmDelete p v6 len).run s = (Act.lpmResult p 3).run s := by
  rw [Act.lpmDelete, Act.get_run, if_neg (by rw [h]; decide), hr]

theorem lpmDelete_known {r : Route} (h : s.lpmLocked p = false) (hr : s.lpmFind p v6 len = some r) :
    (Act.lpmDelete p v6 len).run s = (Act.lpmResult p 2).run ((Act.dropRoute p r).run s) := by
  rw [Act.lpmDelete, Act.get_run, if_neg (by rw [h]; decide), hr]
  rfl

theorem lpmLookup_none (hr : s.routeOf p v6 (s.lpmAddr p v6) = none) :
    (Act.lpmLookup p v6).run s = (Act.lpmResult p 3).run s := by
  rw [Act.lpmLookup, Act.get_run, hr]

theorem lpmLookup_some {r : Route} (hr : s.routeOf p v6 (s.lpmAddr p v6) = some r) : (Act.lpmLookup p v6).run s =
    (Act.setFlds (LPM.CMD p) [(LPM.CMD.SLOT, r.slot), (LPM.CMD.NEXT_HOP, r.hop), (LPM.CMD.RESULT, 2)]).run s := by
  rw [Act.lpmLookup, Act.get_run, hr]

end

/-- A command ends with its reply, on the state that its operation leaves. -/
def LpmEnds (w : Sender) (p : Nat) (u : State) (n : Nat) (t : State) : Prop :=
  t.fld (LPM.CMD p) LPM.CMD.RESULT = n ∧ t.out = endOut w .ok u.out

section
variable {s u : State} {w : Sender} {ag : Agent} {p v : Nat} {v6 : Bool} {len hop : Nat}

/-- What an operation reports and leaves, its command gives. -/
theorem lpm_gives {i : Instr} {A : Act} {q t : State} {n : Nat} {P : State → Prop}
    (hrun : exec i s = .next ((Act.ends w ag (LPM.CMD p) .ok).run (A.run q))) (hA : A.run q = t) (hq : q.out = u.out)
    (h : LpmReports p n q t) (hP : P { t with out := endOut w .ok t.out }) : Gives i s fun t => LpmEnds w p u n t ∧ P t := by
  rw [hA, Act.ends_ok] at hrun
  exact ⟨_, hrun, ⟨h.result, congrArg (endOut w .ok) (h.out.trans hq)⟩, hP⟩

/-- LPM_INSERT. -/
theorem lpmInsert_gives (hp : p < 4) (h : Reaches (.lpmInsert w p v) s ag u) (hv6 : (fget (BitVec.ofNat 48 v) LPM.CMD.V6 == 1) = v6)
    (hl : fget (BitVec.ofNat 48 v) LPM.CMD.LEN = len) (hh : fget (BitVec.ofNat 48 v) LPM.CMD.NEXT_HOP = hop)
    (hlen : len ≤ (if v6 then 128 else 32)) :
    (u.lpmLocked p = true → Gives (.lpmInsert w p v) s fun t => LpmEnds w p u 5 t ∧ t.tbls = u.tbls) ∧
    (∀ r, u.lpmLocked p = false → u.lpmFind p v6 len = some r → Gives (.lpmInsert w p v) s fun t =>
      LpmEnds w p u 2 t ∧ t.fld (LPM.CMD p) LPM.CMD.SLOT = r.slot % 16384 ∧ fget (t.tbl p 0x44 r.slot 0) ⟨10, 12⟩ = hop) ∧
    (u.lpmLocked p = false → u.lpmFind p v6 len = none →
      routeSlots (u.routes p) + (u.newRoute p v6 len hop).slots ≤ 16384 →
      gapStart len (u.routes p) + (u.newRoute p v6 len hop).slots ≤ gapEnd len (u.routes p) →
      Gives (.lpmInsert w p v) s fun t => LpmEnds w p u 2 t ∧ t.fld (LPM.CMD p) LPM.CMD.SLOT = gapStart len (u.routes p) % 16384 ∧
        ∀ k, k < (u.newRoute p v6 len hop).slots → t.tblWords p 0x44 (gapStart len (u.routes p) + k) 2 =
          { u.newRoute p v6 len hop with slot := gapStart len (u.routes p) }.slotWords k) := by
  have hrun := reach_lpmInsert h
  rw [lpmCmd_run (by decide) (by rw [hv6, hl]; exact hlen), hv6, hl, hh, Act.lpmOp] at hrun
  generalize fset (BitVec.ofNat 48 v) LPM.CMD.OP 1 = x at hrun
  obtain ⟨hlocked, -, hroutes⟩ := lpmStored_reads u p x
  have hfind := lpmStored_find u p x v6 len
  obtain ⟨hout, htbls⟩ := lpmStored_keeps u p x
  refine ⟨fun hl => ?_, fun r hl hr => ?_, fun hl hr hslots hgap => ?_⟩
  · exact lpm_gives hrun (lpmInsert_locked (hlocked.trans hl)) hout (lpmResult_reports hp (by decide) rfl) htbls
  · obtain ⟨hrep, hslot, hhop⟩ := lpmInsert_known_leaves hp (hh ▸ fget_lt ..) (hlocked.trans hl) (hfind.trans hr)
    exact lpm_gives hrun rfl hout hrep ⟨hslot, hhop⟩
  · rw [← hroutes, ← lpmStored_newRoute u p x] at hslots hgap ⊢
    obtain ⟨hrep, hslot, hwords⟩ := lpmInsert_fits_leaves hp (hlocked.trans hl) (hfind.trans hr) hslots hgap
    exact lpm_gives hrun rfl hout hrep ⟨hslot, hwords⟩

/-- LPM_DELETE. -/
theorem lpmDelete_gives (hp : p < 4) (h : Reaches (.lpmDelete w p v) s ag u) (hv6 : (fget (BitVec.ofNat 48 v) LPM.CMD.V6 == 1) = v6)
    (hl : fget (BitVec.ofNat 48 v) LPM.CMD.LEN = len) (hlen : len ≤ (if v6 then 128 else 32)) :
    (u.lpmLocked p = true → Gives (.lpmDelete w p v) s fun t => LpmEnds w p u 5 t ∧ t.tbls = u.tbls) ∧
    (u.lpmLocked p = false → u.lpmFind p v6 len = none → Gives (.lpmDelete w p v) s fun t => LpmEnds w p u 3 t ∧ t.tbls = u.tbls) ∧
    (∀ r, u.lpmLocked p = false → u.lpmFind p v6 len = some r → Gives (.lpmDelete w p v) s fun t =>
      LpmEnds w p u 2 t ∧ ∀ k, k < r.slots → t.tblWords p 0x44 (r.slot + k) 2 = [0, 0]) := by
  have hrun := reach_lpmDelete h
  rw [lpmCmd_run (by decide) (by rw [hv6, hl]; exact hlen), hv6, hl, Act.lpmOp] at hrun
  generalize fset (BitVec.ofNat 48 v) LPM.CMD.OP 2 = x at hrun
  obtain ⟨hlocked, -, -⟩ := lpmStored_reads u p x
  have hfind := lpmStored_find u p x v6 len
  obtain ⟨hout, htbls⟩ := lpmStored_keeps u p x
  refine ⟨fun hl => ?_, fun hl hr => ?_, fun r hl hr => ?_⟩
  · exact lpm_gives hrun (lpmDelete_locked (hlocked.trans hl)) hout (lpmResult_reports hp (by decide) rfl) htbls
  · exact lpm_gives hrun (lpmDelete_unknown (hlocked.trans hl) (hfind.trans hr)) hout (lpmResult_reports hp (by decide) rfl) htbls
  · exact lpm_gives hrun (lpmDelete_known (hlocked.trans hl) (hfind.trans hr)) hout
      (lpmResult_reports hp (by decide) (dropRoute_out ..)) fun k hk => dropRoute_words hk p _

/-- The route a lookup reports. -/
theorem lpmLookup_leaves (hp : p < 4) {r : Route} (hr : s.routeOf p v6 (s.lpmAddr p v6) = some r) :
    LpmReports p 2 s ((Act.lpmLookup p v6).run s) ∧
      ((Act.lpmLookup p v6).run s).fld (LPM.CMD p) LPM.CMD.SLOT = r.slot % 16384 ∧
      ((Act.lpmLookup p v6).run s).fld (LPM.CMD p) LPM.CMD.NEXT_HOP = r.hop % 4096 := by
  obtain ⟨hRESULT, hSLOT, hHOP⟩ := implements_lpmCmd hp
  rw [lpmLookup_some hr, Act.setFlds, Act.get_run]
  simp only [List.foldl]
  refine ⟨⟨?_, rfl⟩, ?_, ?_⟩
  · rw [fld_setReg hRESULT, fget_fset _ _ _ (by decide)]
    rfl
  · rw [fld_setReg hSLOT, fget_fset_other _ _ _ _ (by decide) (by decide), fget_fset_other _ _ _ _ (by decide) (by decide),
      fget_fset _ _ _ (by decide)]
    rfl
  · rw [fld_setReg hHOP, fget_fset_other _ _ _ _ (by decide) (by decide), fget_fset _ _ _ (by decide)]
    rfl

/-- LPM_FIND. -/
theorem lpmFind_gives (hp : p < 4) (h : Reaches (.lpmFind w p v) s ag u) (hv6 : (fget (BitVec.ofNat 48 v) LPM.CMD.V6 == 1) = v6)
    (hlen : fget (BitVec.ofNat 48 v) LPM.CMD.LEN ≤ (if v6 then 128 else 32)) :
    (∀ r, u.routeOf p v6 (u.lpmAddr p v6) = some r → Gives (.lpmFind w p v) s fun t => LpmEnds w p u 2 t ∧
      t.fld (LPM.CMD p) LPM.CMD.SLOT = r.slot % 16384 ∧ t.fld (LPM.CMD p) LPM.CMD.NEXT_HOP = r.hop % 4096 ∧
        OnlyRegs [LPM.CMD p] u t ∧ t.tbls = u.tbls) ∧
    (u.routeOf p v6 (u.lpmAddr p v6) = none → Gives (.lpmFind w p v) s fun t =>
      LpmEnds w p u 3 t ∧ OnlyRegs [LPM.CMD p] u t ∧ t.tbls = u.tbls) := by
  have hrun := reach_lpmFind h
  rw [lpmCmd_run (by decide) (by rw [hv6]; exact hlen), hv6, Act.lpmOp] at hrun
  generalize fset (BitVec.ofNat 48 v) LPM.CMD.OP 3 = x at hrun
  obtain ⟨-, haddr, hroutes⟩ := lpmStored_reads u p x
  obtain ⟨hout, htbls⟩ := lpmStored_keeps u p x
  have hroute : (u.lpmStored p x).routeOf p v6 ((u.lpmStored p x).lpmAddr p v6) = u.routeOf p v6 (u.lpmAddr p v6) := by
    rw [State.routeOf, hroutes, haddr]
    rfl
  have hregs : OnlyRegs [LPM.CMD p] u ((Act.lpmLookup p v6).run (u.lpmStored p x)) := fun a ha =>
    ((writes_Act_lpmLookup (P := fun a => a ∈ [LPM.CMD p]) (by simp)).same _ a ha).trans (store_other (by simpa using ha) x u)
  have htables : ((Act.lpmLookup p v6).run (u.lpmStored p x)).tbls = u.tbls :=
    Eq.trans ((touches_Act_lpmLookup (S := [.regs, .upsets]) (by decide)).same _ .tbls (by decide)) htbls
  refine ⟨fun r hr => ?_, fun hr => ?_⟩
  · obtain ⟨hrep, hslot, hhop⟩ := lpmLookup_leaves hp (hroute.trans hr)
    exact lpm_gives hrun rfl hout hrep ⟨hslot, hhop, hregs, htables⟩
  · have hrep : LpmReports p 3 (u.lpmStored p x) ((Act.lpmLookup p v6).run (u.lpmStored p x)) := by
      rw [lpmLookup_none (hroute.trans hr)]
      exact lpmResult_reports hp (by decide) rfl
    exact lpm_gives hrun rfl hout hrep ⟨hregs, htables⟩

end

end Sys2Proof.Machine

namespace Sys2Proof.Proofs

open Sys2Proof.Machine

/-- Settles O34: each lookup runs down to one change of its facet's buffer or hold, a notice and the sweep to writes of entries of the MAC
table, a command of LPM to writes of the slots it names. -/
theorem lookupDecides : Obligations.LookupDecides := by
  unfold Obligations.LookupDecides
  intro s p f j hp hp4 hf hj hup
  refine ⟨?_, ?_, ?_, ?_⟩
  · intro busy r hr b e vid on
    refine ⟨fun hoff hheld => ?_, fun hon heye hfacet => ?_, fun hon heye hacc => ?_, ?_⟩
    · exact ⟨_, (exec_frameLookup hp hf hup).trans (congrArg _ (frameLookup_off hr hoff hheld)), hold_setHold ..,
        buf_setHold .., onlyRegs_setHold _ _ _⟩
    · exact ⟨_, (exec_frameLookup hp hf hup).trans (congrArg _ (frameLookup_eye hr hon hf heye hfacet)), onlyRegs_modBuf _ _ _,
        buf_modBuf ..⟩
    · exact ⟨_, (exec_frameLookup hp hf hup).trans (congrArg _ ((frameLookup_steps hr hon hf heye).trans (steps2to8_refused hacc))),
        clsDrop_leaves hp4 (by omega) (by decide) (by decide) s⟩
    · intro i hon heye hacc hvlan hlen hsa tagged hlearn hrec hgen hfilt hroute hlocal hbcast hfind hkind d cls flow hd
      have hrun := frameLookup_known (busy := busy) (b := tagged) rfl rfl rfl hr hon hf heye hacc hvlan hlen hsa hlearn hrec hgen hfilt
        hroute hlocal hbcast hfind hkind hd
      exact ⟨_, (exec_frameLookup hp hf hup).trans (congrArg _ hrun), onlyRegs_modBuf _ _ _, buf_modBuf ..⟩
  · intro k fid mac facet l i hl hi hlock
    exact ⟨learnNoticeReceive_gives hp hj hup hl hi hlock, learnNoticeReceive_busy_gives hp hj hup hl⟩
  · intro hc
    obtain ⟨t, ht, hswept⟩ := ageingSweep_gives hp hup hc
    refine ⟨t, ht, fun i _ => ?_⟩
    obtain ⟨hyoung, hold, hother⟩ := hswept i
    rw [mem_sweptEntries] at hyoung hold hother
    exact ⟨hyoung, hold, hother⟩
  · intro w ag u v x v6 len hop ends hlen
    exact ⟨fun h => lpmInsert_gives hp4 h rfl rfl rfl hlen, fun h => lpmDelete_gives hp4 h rfl rfl hlen,
      fun h => lpmFind_gives hp4 h rfl hlen⟩

end Sys2Proof.Proofs

/-! Ethernet frames (R299, R348, R353, R356 to R360, R363 to R367): what a received frame, a PAUSE frame, a threshold of the receive buffer
and the end of a transmission leave. -/

namespace Sys2Proof.Machine

/-! ### Counters of a facet (R381) -/

/-- A count stays where its register does. -/
theorem Counted.until {a n : Nat} {s u t : State} (h : Counted a n s u) (hr : t.reg a = u.reg a) : Counted a n s t := hr.trans h

/-- A count stands against an earlier state whose register was the same. -/
theorem Counted.since {a n : Nat} {s u t : State} (h : Counted a n u t) (hr : u.reg a = s.reg a) : Counted a n s t := by
  rw [Counted, ← hr]
  exact h

/-- A register that an action does not write is left. -/
theorem Writes.keeps {A : Act} {a : Nat} (h : Writes A fun b => b ≠ a) : Keeps (fun s => s.reg a) A := ⟨fun s => h.same s a fun q => q rfl⟩

/-- A counter of facet f is in its own block, not in DEV. -/
theorem ethCnt_blk {p f i : Nat} (hf : f < 32) (hi : i < 64) : aBlk (ETH.CNT p f i) ≠ 0 := by
  rw [ETH.CNT, aBlk_ra (by omega) (by omega)]
  omega

theorem ethCnt_ne {p f i j : Nat} (h : i ≠ j) : ETH.CNT p f i ≠ ETH.CNT p f j := by
  unfold ETH.CNT ra
  omega

/-- Counting leaves every register outside DEV but the counter. -/
theorem countBy_keeps {a c : Nat} (ha : aBlk a ≠ 0) (h : c ≠ a) (n : Nat) : Keeps (fun s => s.reg a) (Act.countBy c n) := by
  have hne : ∀ {p r : Nat}, r < 8192 → ra p 0 r ≠ a := fun hr h => ha (by rw [← h]; exact aBlk_ra (by decide) hr)
  exact (writes_Act_countBy (P := fun b => b ≠ a) h (fun _ => hne (by decide)) fun _ => hne (by decide)).keeps

theorem daKind_le (da : Nat) : daKind da ≤ 2 := by
  unfold daKind
  split
  · exact le_rfl
  · split <;> omega

theorem bandOf_le (n : Nat) : bandOf n ≤ 8 := by
  unfold bandOf
  repeat' split
  all_goals omega

/-- What a monitor's tally leaves. -/
theorem tallyMon_keeps (p src arg n a : Nat) : Keeps (fun s => s.reg a) (Act.tallyMon p src arg n) :=
  (writes_Act_tallyMon (P := fun b => b ≠ a)).keeps

section
variable {p f : Nat}

/-- The counters of a good frame received are 0 to 4 and 17 to 25; every other register outside DEV is left. -/
theorem countRx_keeps {a : Nat} (ha : aBlk a ≠ 0) (h : ∀ i, i ≤ 4 ∨ (17 ≤ i ∧ i ≤ 25) → ETH.CNT p f i ≠ a) (da n : Nat) :
    Keeps (fun s => s.reg a) (Act.countRx p f da n) := by
  have hda := daKind_le da
  have hband := bandOf_le n
  exact .seq (countBy_keeps ha (h _ (by omega)) _) <| .seq (countBy_keeps ha (h _ (by omega)) _) <|
    .seq (countBy_keeps ha (h _ (by omega)) _) <| .seq (countBy_keeps ha (h _ (by omega)) _) <| .seq (tallyMon_keeps ..) .skip

/-- The counters of a frame sent are 26 to 30 and 39 to 47; every other register outside DEV is left. -/
theorem countTx_keeps {a : Nat} (ha : aBlk a ≠ 0) (h : ∀ i, (26 ≤ i ∧ i ≤ 30) ∨ (39 ≤ i ∧ i ≤ 47) → ETH.CNT p f i ≠ a) (da n : Nat) :
    Keeps (fun s => s.reg a) (Act.countTx p f da n) := by
  have hda := daKind_le da
  have hband := bandOf_le n
  exact .seq (countBy_keeps ha (h _ (by omega)) _) <| .seq (countBy_keeps ha (h _ (by omega)) _) <|
    .seq (countBy_keeps ha (h _ (by omega)) _) <| .seq (countBy_keeps ha (h _ (by omega)) _) <| .seq (tallyMon_keeps ..) .skip

variable (hf : f < 32)
include hf

/-- Two counts of different counters, one after the other and then what leaves them, both stand. -/
theorem countTwo_counted {i j : Nat} (hi : i < 64) (hj : j < 64) (hij : i ≠ j) (m n : Nat) {A : Act}
    (hAi : Keeps (fun s => s.reg (ETH.CNT p f i)) A) (hAj : Keeps (fun s => s.reg (ETH.CNT p f j)) A) (s : State) :
    Counted (ETH.CNT p f i) m s ((Act.seq (Act.countBy (ETH.CNT p f i) m) (Act.seq (Act.countBy (ETH.CNT p f j) n) A)).run s) ∧
      Counted (ETH.CNT p f j) n s ((Act.seq (Act.countBy (ETH.CNT p f i) m) (Act.seq (Act.countBy (ETH.CNT p f j) n) A)).run s) := by
  constructor
  · exact (countBy_counted (ethCnt_blk hf hi) m s).until
      ((Keeps.seq (countBy_keeps (ethCnt_blk hf hi) (ethCnt_ne hij.symm) n) hAi).same _)
  · exact ((countBy_counted (ethCnt_blk hf hj) n _).until (hAj.same _)).since
      ((countBy_keeps (ethCnt_blk hf hj) (ethCnt_ne hij) m).same s)

/-- A good frame received counts one and its bytes. -/
theorem countRx_counted (da n : Nat) (s : State) :
    Counted (ETH.CNT p f 0) 1 s ((Act.countRx p f da n).run s) ∧ Counted (ETH.CNT p f 1) n s ((Act.countRx p f da n).run s) := by
  have hda := daKind_le da
  have hband := bandOf_le n
  have hrest : ∀ i, i ≤ 1 → Keeps (fun s => s.reg (ETH.CNT p f i))
      (Act.all [Act.ethCount p f (2 + daKind da), Act.ethCount p f (17 + bandOf n), Act.tallyMon p 0x031 f n]) := fun i hi =>
    .seq (countBy_keeps (ethCnt_blk hf (by omega)) (ethCnt_ne (by omega)) _) <|
      .seq (countBy_keeps (ethCnt_blk hf (by omega)) (ethCnt_ne (by omega)) _) <| .seq (tallyMon_keeps ..) .skip
  exact countTwo_counted hf (by decide) (by decide) (by decide) 1 n (hrest 0 (by decide)) (hrest 1 (by decide)) s

/-- A frame sent counts one and its bytes. -/
theorem countTx_counted (da n : Nat) (s : State) :
    Counted (ETH.CNT p f 26) 1 s ((Act.countTx p f da n).run s) ∧ Counted (ETH.CNT p f 27) n s ((Act.countTx p f da n).run s) := by
  have hda := daKind_le da
  have hband := bandOf_le n
  have hrest : ∀ i, i ≤ 27 → 26 ≤ i → Keeps (fun s => s.reg (ETH.CNT p f i))
      (Act.all [Act.ethCount p f (28 + daKind da), Act.ethCount p f (39 + bandOf n), Act.tallyMon p 0x032 f n]) := fun i hi hi' =>
    .seq (countBy_keeps (ethCnt_blk hf (by omega)) (ethCnt_ne (by omega)) _) <|
      .seq (countBy_keeps (ethCnt_blk hf (by omega)) (ethCnt_ne (by omega)) _) <| .seq (tallyMon_keeps ..) .skip
  exact countTwo_counted hf (by decide) (by decide) (by decide) 1 n (hrest 26 (by decide) (by decide)) (hrest 27 (by decide) (by decide)) s

end

/-! ### What a received frame does (R353 to R357, R363) -/

/-- What does not touch the registers leaves each of them. -/
theorem Touches.keepsReg {A : Act} {S : List Part} (h : Touches A S) (hS : Part.regs ∉ S) (a : Nat) : Keeps (fun s => s.reg a) A :=
  ⟨fun s => congrArg (Sparse.get regReset · a) (h.same s .regs hS)⟩

/-- What does not touch the switch leaves each receive buffer. -/
theorem Touches.keepsBuf {A : Act} {S : List Part} (h : Touches A S) (hS : Part.sw ∉ S) (k : Nat) : Keeps (fun s => s.buf k) A :=
  ⟨fun s => congrArg (fun w : Switch => Sparse.get bufBlank w.bufs k) (h.same s .sw hS)⟩

/-- What does not touch the switch leaves the record of each Ethernet facet. -/
theorem Touches.keepsEth {A : Act} {S : List Part} (h : Touches A S) (hS : Part.sw ∉ S) (k : Nat) : Keeps (fun s => s.eth k) A :=
  ⟨fun s => congrArg (fun w : Switch => Sparse.get ethBlank w.eths k) (h.same s .sw hS)⟩

/-- The FEC counts that come before a received frame (R381). -/
def Act.rxFec (p f : Nat) (fec : Bool) (fixed lost : Nat) : Act :=
  Act.when (fec = true) (Act.seq (Act.countBy (ETH.CNT p f 49) fixed) (Act.countBy (ETH.CNT p f 50) lost))

/-- The occupancy of the receive buffer, offered after a received frame (R387). -/
def Act.rxOffer (p f : Nat) : Act := Act.get fun t => Act.offerMon p 0x030 f (t.rxCells p f)

/-- What a received frame does, between the two. -/
def Act.rxAround (p f : Nat) (fec : Bool) (fixed lost : Nat) (A : Act) : Act :=
  Act.seq (Act.rxFec p f fec fixed lost) (Act.seq A (Act.rxOffer p f))

section
variable {s : State} {p f fixed lost status : Nat} {b : List Byte} {errAt : Option Nat} {fault : Bool}

theorem exec_ethReceive (hp : p < s.x) (hf : f < 32) (hup : s.prismUp = true) :
    exec (.ethReceive p f b errAt fault fixed lost) s = .next ((ethReceive p f b errAt fault fixed lost s.attn).run s) := by
  show Act.go (Act.when (p < s.x ∧ f < 32 ∧ s.prismUp = true) (ethArrive p f b errAt fault fixed lost)) s = _
  rw [Act.go_eq, Act.when_run, if_pos ⟨hp, hf, hup⟩, ethArrive, Act.get_run]

variable (hf : f < 32) (hon : s.enabled p (0x20 + f) = true)
include hf hon

/-- An overflow counts and is an event; the facet accepts at most the part that it cut through. -/
theorem ethReceive_overflow (hov : s.rxOverflow p f (s.bufClass p f b) (cellsOf b.length) = true) :
    ∃ A, Touches A [.sw, .plx] ∧ (ethReceive p f b errAt fault fixed lost status).run s =
      (Act.rxAround p f (s.hasFec p f) fixed lost (Act.seq (Act.seq (Act.ethCount p f 14) (Act.event (ETH.EVT p f) 2)) A)).run s := by
  rw [ethReceive, Act.get_run, if_neg (by simp [hon]; omega), if_pos hov]
  unfold Act.rxAround Act.rxFec Act.rxOffer
  exact ⟨_, .when (touches_Act_acceptFrame (by decide)), rfl⟩

/-- A failed frame counts by its row; the facet accepts at most the part that it cut through. -/
theorem ethReceive_fails (hov : s.rxOverflow p f (s.bufClass p f b) (cellsOf b.length) = false) {i : Nat}
    (hfail : rxFailure b errAt.isSome (s.fld (ETH.MODE p f) ETH.MODE.MAX_LEN) = some i) :
    ∃ A, Touches A [.sw, .plx] ∧ (ethReceive p f b errAt fault fixed lost status).run s =
      (Act.rxAround p f (s.hasFec p f) fixed lost (Act.seq (Act.ethCount p f i) A)).run s := by
  rw [ethReceive, Act.get_run, if_neg (by simp [hon]; omega), if_neg (by simp [hov]), hfail]
  unfold Act.rxAround Act.rxFec Act.rxOffer
  exact ⟨_, .when (touches_Act_acceptFrame (by decide)), rfl⟩

variable (hboot : s.booting p f = false) (hov : s.rxOverflow p f (s.bufClass p f b) (cellsOf b.length) = false)
  (hgood : rxFailure b false (s.fld (ETH.MODE p f) ETH.MODE.MAX_LEN) = none)
include hboot hov hgood

/-- A MAC control frame of the facet is consumed by the MAC and counted. -/
theorem ethReceive_control (hctl : s.isMacControl p f b = true) :
    (ethReceive p f b none fault fixed lost status).run s =
      (Act.rxAround p f (s.hasFec p f) fixed lost (Act.seq (Act.macControl p f b) (Act.countRx p f (frDa b) b.length))).run s := by
  rw [ethReceive, Act.get_run, if_neg (by simp [hon]; omega), if_neg (by simp [hov]), Option.isSome_none, hgood]
  dsimp only
  rw [if_neg (by simp [hboot]), if_pos hctl]
  rw [Act.rxAround, Act.rxFec, Act.rxOffer]

variable (hctl : s.isMacControl p f b = false)
include hctl

/-- A frame that the address filter refuses is counted. -/
theorem ethReceive_filtered (hfilter : s.filterOk p f (frDa b) = false) :
    (ethReceive p f b none fault fixed lost status).run s =
      (Act.rxAround p f (s.hasFec p f) fixed lost (Act.ethCount p f 15)).run s := by
  rw [ethReceive, Act.get_run, if_neg (by simp [hon]; omega), if_neg (by simp [hov]), Option.isSome_none, hgood]
  dsimp only
  rw [if_neg (by simp [hboot]), if_neg (by simp [hctl]), if_pos hfilter]
  rw [Act.rxAround, Act.rxFec, Act.rxOffer]

/-- A frame that the filter passes, at a facet without MACsec, is counted and accepted. -/
theorem ethReceive_passes (hfilter : s.filterOk p f (frDa b) = true) (hmacsec : s.macsec p f = false) :
    (ethReceive p f b none fault fixed lost status).run s =
      (Act.rxAround p f (s.hasFec p f) fixed lost (Act.seq (Act.countRx p f (frDa b) b.length)
        (Act.acceptFrame p f (s.bufClass p f b)
          (decide (f < 12) && s.flag (ETH.MODE p f) ETH.MODE.CUT_RX && decide (128 ≤ b.length)) false b
          (s.rxStamp p f b.length) status))).run s := by
  rw [ethReceive, Act.get_run, if_neg (by simp [hon]; omega), if_neg (by simp [hov]), Option.isSome_none, hgood]
  dsimp only
  rw [if_neg (by simp [hboot]), if_neg (by simp [hctl]), if_neg (by simp [hfilter]), if_neg (by simp [hmacsec]), hmacsec, Option.any_none,
    Bool.not_false, Bool.and_true, Bool.and_true]
  rw [Act.rxAround, Act.rxFec, Act.rxOffer]

end

section
variable {p f : Nat}

/-- The FEC counters are counted and nothing else of the registers outside DEV. -/
theorem rxFec_keeps {a : Nat} (ha : aBlk a ≠ 0) (h49 : ETH.CNT p f 49 ≠ a) (h50 : ETH.CNT p f 50 ≠ a) (fec : Bool) (fixed lost : Nat) :
    Keeps (fun s => s.reg a)
      (Act.rxFec p f fec fixed lost) :=
  .when <| .seq (countBy_keeps ha h49 _) (countBy_keeps ha h50 _)

theorem rxFec_touches (fec : Bool) (fixed lost : Nat) : Touches (Act.rxFec p f fec fixed lost) [.regs, .evtNo, .upsets, .irqs] :=
  .when (.seq (touches_Act_countBy fun _ h => h) (touches_Act_countBy fun _ h => h))

theorem rxOffer_touches : Touches (Act.rxOffer p f) [.mon] :=
  .get fun _ => touches_Act_offerMon (by decide)

/-- What the frame counts stands, where it is not an FEC counter. -/
theorem rxAround_counted {i n : Nat} (hf : f < 32) (hi : i < 49) {A : Act} (fec : Bool) (fixed lost : Nat) (s : State)
    (hA : ∀ u, Counted (ETH.CNT p f i) n u (A.run u)) : Counted (ETH.CNT p f i) n s ((Act.rxAround p f fec fixed lost A).run s) := by
  have hfec := (rxFec_keeps (ethCnt_blk (p := p) hf (show i < 64 by omega)) (ethCnt_ne (show 49 ≠ i by omega))
    (ethCnt_ne (show 50 ≠ i by omega)) fec fixed lost).same s
  have hoffer := ((rxOffer_touches (p := p) (f := f)).keepsReg (by decide) (ETH.CNT p f i)).same
  have hframe := hA ((Act.rxFec p f fec fixed lost).run s)
  rw [Act.rxAround, Act.seq_run, Act.seq_run]
  generalize (Act.rxFec p f fec fixed lost).run s = u at *
  generalize A.run u = v at *
  exact (hframe.until (hoffer v)).since hfec

/-- The FEC counters stand, where the frame leaves them. -/
theorem rxAround_fec (hf : f < 32) {A : Act} (fixed lost : Nat) (s : State)
    (hA : ∀ i, 49 ≤ i → i ≤ 50 → Keeps (fun s => s.reg (ETH.CNT p f i)) A) :
    Counted (ETH.CNT p f 49) fixed s ((Act.rxAround p f true fixed lost A).run s) ∧
      Counted (ETH.CNT p f 50) lost s ((Act.rxAround p f true fixed lost A).run s) := by
  have hrest : ∀ i, 49 ≤ i → i ≤ 50 → Keeps (fun s => s.reg (ETH.CNT p f i))
      (Act.seq A (Act.rxOffer p f)) :=
    fun i hi hi' => .seq (hA i hi hi') (rxOffer_touches.keepsReg (by decide) _)
  exact countTwo_counted hf (by decide) (by decide) (by decide) fixed lost (hrest 49 (by decide) (by decide))
    (hrest 50 (by decide) (by decide)) s

/-- What the frame leaves of the switch, all of it leaves. -/
theorem rxAround_buf {A : Act} (fec : Bool) (fixed lost : Nat) (s : State) :
    ∃ u, (∀ a, aBlk a ≠ 0 → ETH.CNT p f 49 ≠ a → ETH.CNT p f 50 ≠ a → u.reg a = s.reg a) ∧ u.sw = s.sw ∧ u.ld = s.ld ∧
      ((Act.rxAround p f fec fixed lost A).run s).sw = (A.run u).sw := by
  have hfec := rxFec_touches (p := p) (f := f) fec fixed lost
  exact ⟨_, fun a ha h49 h50 => (rxFec_keeps ha h49 h50 fec fixed lost).same s, hfec.same s .sw (by decide), hfec.same s .ld (by decide),
    rxOffer_touches.same _ .sw (by decide)⟩

end

/-! ### What a received frame counts and where it goes -/

/-- Whether a frame is a link message is read from the start's state and a few registers. -/
theorem isEzsor_congr {s u : State} {p f : Nat} (b : List Byte) (hld : u.ld = s.ld)
    (hfacets : u.reg (PLX.FACETS 0 p) = s.reg (PLX.FACETS 0 p))
    (hgroup : u.reg (PLX.GROUP_MAC 0) = s.reg (PLX.GROUP_MAC 0)) (hmatch : ∀ i, i < 4 → u.reg (ETH.MATCH p f i) = s.reg (ETH.MATCH p f i)) :
    u.isEzsor p f b = s.isEzsor p f b := by
  have hm : ∀ da, u.isMatch p f da = s.isMatch p f da := fun da => by
    unfold State.isMatch
    congr 1
    simp only [List.range_succ, List.range_zero, List.nil_append, List.any_append, List.any_cons, List.any_nil, hmatch 0 (by decide),
      hmatch 1 (by decide), hmatch 2 (by decide), hmatch 3 (by decide)]
  unfold State.isEzsor State.booting
  rw [hld, hfacets, hgroup, hm]

theorem buf_setFidNo (k v : Nat) (s : State) (j : Nat) : ((Act.setFidNo k v).run s).buf j = s.buf j := rfl

/-- A frame taken in stands at the end of its facet's buffer, with the next number of its class. -/
theorem intake_buf (p f : Nat) (r : RxFrame) (u : State) : ((Act.intake p f r).run u).buf (fk p f) =
    u.buf (fk p f) ++ [{ r with fr := { r.fr with src := globalFacet p f, fid := u.fidNo (ck p f r.fr.cls) } }] := by
  rw [Act.intake, Act.get_run, Act.all_cons, Act.all_cons, Act.all_nil, buf_setFidNo,
    buf_modBuf]

/-- A frame that the MAC does not consume stands at the end of its facet's buffer. -/
theorem acceptFrame_buf {u : State} {p f : Nat} {b : List Byte} (h : u.isEzsor p f b = false) (c : Nat) (cut abort : Bool)
    (ts status : Nat) :
    ((Act.acceptFrame p f c cut abort b ts status).run u).buf (fk p f) = u.buf (fk p f) ++
      [{ fr := { cls := c, ts := ts, cut := cut, abort := abort, attn := if frType b = 0x88B5 then status else 0, data := b
                 src := globalFacet p f, fid := u.fidNo (ck p f c) }, bufCls := c }] := by
  rw [Act.acceptFrame, Act.get_run, if_neg (by simp [h]), Act.seq_run]
  exact intake_buf ..

/-- Counting a received frame leaves every register that is neither a counter of its facet nor in DEV. -/
theorem countRx_keeps_other {p f a : Nat} (ha : aBlk a ≠ 0) (h : ∀ i, i < 64 → ETH.CNT p f i ≠ a) (da n : Nat) :
    Keeps (fun s => s.reg a) (Act.countRx p f da n) := countRx_keeps ha (fun i hi => h i (by omega)) da n

/-- An event that the frame is stands, in a register of another block or kind than the counters'. -/
theorem rxAround_logged {p f a i : Nat} (hblk : aBlk a ≠ 0) (hcnt : ∀ j, j < 64 → ETH.CNT p f j ≠ a) {A : Act} (fec : Bool)
    (fixed lost : Nat) (s : State) (hA : ∀ u, Logged a i u (A.run u)) : Logged a i s ((Act.rxAround p f fec fixed lost A).run s) := by
  have hevts : Keeps (fun s => s.evtCount a) (Act.rxFec p f fec fixed lost) :=
    .when <| .seq ⟨countBy_evtCount hblk _ _⟩ ⟨countBy_evtCount hblk _ _⟩
  have hevt := hevts.same s
  have hfec := (rxFec_keeps hblk (hcnt 49 (by decide)) (hcnt 50 (by decide)) fec fixed lost).same s
  have hoffer := ((rxOffer_touches (p := p) (f := f)).keepsReg (by decide) a).same
  have hofferEvt : ∀ v, ((Act.rxOffer p f).run v).evtNo = v.evtNo := fun v => rxOffer_touches.same v .evtNo (by decide)
  have hframe := hA ((Act.rxFec p f fec fixed lost).run s)
  rw [Act.rxAround, Act.seq_run, Act.seq_run]
  generalize (Act.rxFec p f fec fixed lost).run s = u at *
  generalize A.run u = v at *
  exact (hframe.until (hoffer v) (hofferEvt v)).since_count hfec hevt

/-- A frame's failure is a counter of R353. -/
theorem rxFailure_lt {b : List Byte} {codeErr : Bool} {maxLen i : Nat} (h : rxFailure b codeErr maxLen = some i) : i < 14 := by
  unfold rxFailure at h
  dsimp only at h
  split_ifs at h <;> cases h <;> decide

section
variable {s : State} {p f fixed lost : Nat} {b : List Byte} {errAt : Option Nat} {fault : Bool}
  (hp : p < s.x) (hf : f < 32) (hup : s.prismUp = true) (hon : s.enabled p (0x20 + f) = true)
include hp hf hup hon

theorem ethReceive_overflow_gives (hov : s.rxOverflow p f (s.bufClass p f b) (cellsOf b.length) = true) :
    Gives (.ethReceive p f b errAt fault fixed lost) s fun t => Counted (ETH.CNT p f 14) 1 s t ∧ Logged (ETH.EVT p f) 2 s t := by
  obtain ⟨A, hA, hrun⟩ := ethReceive_overflow (errAt := errAt) (fault := fault) (fixed := fixed) (lost := lost)
    (status := s.attn) hf hon hov
  have hblk : aBlk (ETH.EVT p f) ≠ 0 := by
    rw [ETH.EVT, aBlk_ra (by omega) (by decide)]
    omega
  have hevt : ∀ i, i < 64 → ETH.CNT p f i ≠ ETH.EVT p f := fun i hi => by
    unfold ETH.CNT ETH.EVT ra
    omega
  have hEvent : Keeps (fun s => s.reg (ETH.CNT p f 14)) (Act.event (ETH.EVT p f) 2) :=
    (writes_Act_event (P := fun a => a ≠ ETH.CNT p f 14) (hevt 14 (by decide)).symm).keeps
  refine ⟨_, (exec_ethReceive hp hf hup).trans (congrArg _ hrun), ?_, ?_⟩
  · exact rxAround_counted hf (by decide) _ _ _ s fun u =>
      ((count_counted (ethCnt_blk hf (by decide)) u).until (hEvent.same _)).until ((hA.keepsReg (by decide) _).same _)
  · have hcount : ∀ u, ((Act.ethCount p f 14).run u).reg (ETH.EVT p f) = u.reg (ETH.EVT p f) :=
      (countBy_keeps hblk (hevt 14 (by decide)) 1).same
    exact rxAround_logged hblk hevt _ _ _ s fun u =>
      ((event_logged _ _ _).since_count (hcount u) (countBy_evtCount hblk _ _ u)).until ((hA.keepsReg (by decide) _).same _)
        (hA.same _ .evtNo (by decide))

theorem ethReceive_fails_gives (hov : s.rxOverflow p f (s.bufClass p f b) (cellsOf b.length) = false) {i : Nat}
    (hfail : rxFailure b errAt.isSome (s.fld (ETH.MODE p f) ETH.MODE.MAX_LEN) = some i) :
    Gives (.ethReceive p f b errAt fault fixed lost) s fun t => Counted (ETH.CNT p f i) 1 s t := by
  obtain ⟨A, hA, hrun⟩ := ethReceive_fails (fault := fault) (fixed := fixed) (lost := lost) (status := s.attn) hf hon hov hfail
  have hi := rxFailure_lt hfail
  exact ⟨_, (exec_ethReceive hp hf hup).trans (congrArg _ hrun), rxAround_counted hf (by omega) _ _ _ s fun u =>
    (count_counted (ethCnt_blk hf (by omega)) u).until ((hA.keepsReg (by decide) _).same _)⟩

variable (hboot : s.booting p f = false) (hov : s.rxOverflow p f (s.bufClass p f b) (cellsOf b.length) = false)
  (hgood : rxFailure b false (s.fld (ETH.MODE p f) ETH.MODE.MAX_LEN) = none) (hctl : s.isMacControl p f b = false)
include hboot hov hgood hctl

theorem ethReceive_filtered_gives (hfilter : s.filterOk p f (frDa b) = false) :
    Gives (.ethReceive p f b none fault fixed lost) s fun t => Counted (ETH.CNT p f 15) 1 s t ∧ t.buf (fk p f) = s.buf (fk p f) := by
  have hrun := ethReceive_filtered (fault := fault) (fixed := fixed) (lost := lost) (status := s.attn) hf hon hboot hov hgood hctl hfilter
  refine ⟨_, (exec_ethReceive hp hf hup).trans (congrArg _ hrun), ?_, ?_⟩
  · exact rxAround_counted hf (by decide) _ _ _ s fun u => count_counted (ethCnt_blk hf (by decide)) u
  · obtain ⟨u, -, hsw, -, hend⟩ := rxAround_buf (p := p) (f := f) (A := Act.ethCount p f 15) (s.hasFec p f) fixed lost s
    have hcount := (touches_Act_count (a := ETH.CNT p f 15) fun _ h => h).same u .sw (by decide)
    exact congrArg (fun w : Switch => Sparse.get bufBlank w.bufs (fk p f)) (hend.trans (Eq.trans hcount hsw))

theorem ethReceive_passes_gives (hp4 : p < 4) (hfilter : s.filterOk p f (frDa b) = true) (hmacsec : s.macsec p f = false)
    (hez : s.isEzsor p f b = false) : Gives (.ethReceive p f b none fault fixed lost) s fun t =>
      Counted (ETH.CNT p f 0) 1 s t ∧ Counted (ETH.CNT p f 1) b.length s t ∧
        (s.hasFec p f = true → Counted (ETH.CNT p f 49) fixed s t ∧ Counted (ETH.CNT p f 50) lost s t) ∧
        t.buf (fk p f) = s.buf (fk p f) ++
          [{ fr := { cls := s.bufClass p f b, ts := s.rxStamp p f b.length
                     cut := decide (f < 12) && s.flag (ETH.MODE p f) ETH.MODE.CUT_RX && decide (128 ≤ b.length)
                     attn := if frType b = 0x88B5 then s.attn else 0, data := b, src := globalFacet p f
                     fid := s.fidNo (ck p f (s.bufClass p f b)) }, bufCls := s.bufClass p f b }] := by
  have hrun := ethReceive_passes (fault := fault) (fixed := fixed) (lost := lost) (status := s.attn) hf hon hboot hov hgood hctl
    hfilter hmacsec
  refine ⟨_, (exec_ethReceive hp hf hup).trans (congrArg _ hrun), ?_⟩
  generalize (decide (f < 12) && s.flag (ETH.MODE p f) ETH.MODE.CUT_RX && decide (128 ≤ b.length)) = cut
  generalize s.rxStamp p f b.length = ts
  generalize s.attn = status
  generalize s.bufClass p f b = c
  generalize hA : Act.acceptFrame p f c cut false b ts status = A
  have hAreg : ∀ a, Keeps (fun s => s.reg a) A := by
    rw [← hA]
    exact (touches_Act_acceptFrame (S := [.sw, .plx]) (by decide)).keepsReg (by decide)
  refine ⟨?_, ?_, fun hfec => ?_, ?_⟩
  · exact rxAround_counted hf (by decide) _ _ _ s fun u => (countRx_counted hf _ _ u).1.until ((hAreg _).same _)
  · exact rxAround_counted hf (by decide) _ _ _ s fun u => (countRx_counted hf _ _ u).2.until ((hAreg _).same _)
  · rw [hfec]
    exact rxAround_fec hf fixed lost s fun i hi hi' =>
      .seq (countRx_keeps (ethCnt_blk hf (by omega)) (fun j hj => ethCnt_ne (by omega)) _ _) (hAreg _)
  · obtain ⟨u, hregs, hsw, hld, hend⟩ := rxAround_buf (p := p) (f := f) (A := Act.seq (Act.countRx p f (frDa b) b.length) A)
      (s.hasFec p f) fixed lost s
    rw [Act.seq_run] at hend
    have hcount : Touches (Act.countRx p f (frDa b) b.length) [.regs, .evtNo, .upsets, .irqs, .mon] := touches_Act_countRx fun _ h => h
    have hvsw := Eq.trans (hcount.same u .sw (by decide)) hsw
    have hvld := Eq.trans (hcount.same u .ld (by decide)) hld
    have hvreg : ∀ a, aBlk a ≠ 0 → (∀ i, i < 64 → ETH.CNT p f i ≠ a) →
        ((Act.countRx p f (frDa b) b.length).run u).reg a = s.reg a := fun a ha h =>
      ((countRx_keeps_other ha h _ _).same u).trans (hregs a ha (h 49 (by decide)) (h 50 (by decide)))
    have hvez : ((Act.countRx p f (frDa b) b.length).run u).isEzsor p f b = false := by
      have hplx : ∀ r, r < 8192 → ((Act.countRx p f (frDa b) b.length).run u).reg (ra 0 0x72 r) = s.reg (ra 0 0x72 r) := fun r hr =>
        hvreg _ (by rw [aBlk_ra (by decide) hr]; decide) fun i hi => by
          unfold ETH.CNT ra
          omega
      have hmatch : ∀ i, i < 4 → ((Act.countRx p f (frDa b) b.length).run u).reg (ETH.MATCH p f i) = s.reg (ETH.MATCH p f i) :=
        fun i hi => hvreg _ (by rw [ETH.MATCH, aBlk_ra (by omega) (by omega)]; omega) fun j hj => by unfold ETH.CNT ETH.MATCH ra; omega
      rw [isEzsor_congr b hvld (hplx _ (by omega)) (hplx _ (by decide)) hmatch, hez]
    have hbuf := acceptFrame_buf hvez c cut false ts status
    rw [hA] at hbuf
    generalize (Act.countRx p f (frDa b) b.length).run u = v at hend hvsw hbuf
    have hend' : ((Act.rxAround p f (s.hasFec p f) fixed lost
        (Act.seq (Act.countRx p f (frDa b) b.length) A)).run s).buf (fk p f) = (A.run v).buf (fk p f) :=
      congrArg (fun w : Switch => Sparse.get bufBlank w.bufs (fk p f)) hend
    have hbufs : v.buf (fk p f) = s.buf (fk p f) := congrArg (fun w : Switch => Sparse.get bufBlank w.bufs (fk p f)) hvsw
    have hfid : v.fidNo (ck p f c) = s.fidNo (ck p f c) := congrArg (fun w : Switch => Sparse.get fidNoBlank w.fids (ck p f c)) hvsw
    rw [hend', hbuf, hbufs, hfid]

end

/-! ### Pauses of a facet, class by class (R366, R367) -/

/-- The line rate is read from MODE. -/
theorem lineRate_congr {s u : State} {p f : Nat} (h : u.reg (ETH.MODE p f) = s.reg (ETH.MODE p f)) : u.lineRate p f = s.lineRate p f := by
  have hfld : ∀ g, u.fld (ETH.MODE p f) g = s.fld (ETH.MODE p f) g := fun g => congrArg (fget · g) h
  simp only [State.lineRate, hfld]

/-- What the pauses of class q of facet f depend on: those that run, whether OVERRIDE is set, the time, and the line rate. -/
def State.pauseView (s : State) (p f q : Nat) : List (Nat × Pause) × Bool × Nat × Nat :=
  ((s.eth (fk p f)).pauses.filter (fun x => x.1 == q), (s.eth (fk p f)).override.any (fun x => x.1 == q), s.time p, s.lineRate p f)

theorem pauseView_congr {s u : State} {p f : Nat} (hsw : u.sw = s.sw) (hreg : u.reg (ETH.MODE p f) = s.reg (ETH.MODE p f)) (q : Nat) :
    u.pauseView p f q = s.pauseView p f q := by
  have heth : u.eth (fk p f) = s.eth (fk p f) := congrArg (fun w : Switch => Sparse.get ethBlank w.eths (fk p f)) hsw
  have htime : u.time p = s.time p := congrArg (fun w : Switch => Sparse.get (fun _ => 0) w.dieTime p / 2 ^ 32 % 2 ^ 48) hsw
  rw [State.pauseView, State.pauseView, heth, htime, lineRate_congr hreg]

/-- A change of the facet's record alone changes a view in its pauses and OVERRIDE. -/
theorem pauseView_modEth (p f q : Nat) (g : EthFacet → EthFacet) (s : State) : ((Act.modEth (fk p f) g).run s).pauseView p f q =
    ((g (s.eth (fk p f))).pauses.filter (fun x => x.1 == q), (g (s.eth (fk p f))).override.any (fun x => x.1 == q), s.time p,
      s.lineRate p f) := by
  rw [State.pauseView, eth_modEth]
  rfl

/-- Pauses set anew: beyond the facet's record only durations are offered to the monitors. -/
theorem setPauses_run (p f : Nat) (l : List (Nat × Pause)) (s : State) :
    ((Act.setPauses p f l).run s).sw = ((Act.modEth (fk p f) fun e => { e with pauses := l }).run s).sw ∧
      ((Act.setPauses p f l).run s).regs = s.regs := by
  have hoffers : ∀ old : List (Nat × Pause), Touches (Act.each (List.range 8) fun c => Act.opt (old.find? fun x => x.1 == c) fun x =>
      Act.when (l.all (fun y => y.1 != c) = true) (Act.offerMon p 0x033 f (s.sinceNs p x.2.since / 1000 : Nat))) [.mon] := fun _ =>
    .each fun _ => .opt fun _ => .when (touches_Act_offerMon (by decide))
  rw [Act.setPauses, Act.get_run, Act.seq_run]
  exact ⟨(hoffers _).same _ .sw (by decide), (hoffers _).same _ .regs (by decide)⟩

theorem eth_setPauses (p f : Nat) (l : List (Nat × Pause)) (s : State) :
    ((Act.setPauses p f l).run s).eth (fk p f) = { s.eth (fk p f) with pauses := l } :=
  (congrArg (fun w : Switch => Sparse.get ethBlank w.eths (fk p f)) (setPauses_run p f l s).1).trans (eth_modEth ..)

theorem onlyRegs_setPauses (p f : Nat) (l : List (Nat × Pause)) (s : State) : OnlyRegs [] s ((Act.setPauses p f l).run s) :=
  fun a _ => congrArg (Sparse.get regReset · a) (setPauses_run p f l s).2

theorem pauseView_setPauses (p f q : Nat) (l : List (Nat × Pause)) (s : State) : ((Act.setPauses p f l).run s).pauseView p f q =
    (l.filter (fun x => x.1 == q), (s.eth (fk p f)).override.any (fun x => x.1 == q), s.time p, s.lineRate p f) :=
  (pauseView_congr (setPauses_run p f l s).1 (onlyRegs_setPauses p f l s _ (by simp)) q).trans (pauseView_modEth ..)

section
variable {s : State} {p f c : Nat} {l : List (Nat × Nat)}

/-- While OVERRIDE is set, times of 0 end it. -/
theorem pauseCls_ends (hov : (s.eth (fk p f)).override.any (fun x => x.1 == c) = true) (hl : (l.all fun x => x.2 == 0) = true) :
    (Act.pauseCls p f c l).run s =
      (Act.modEth (fk p f) fun e => { e with override := e.override.filter fun x => x.1 != c }).run s := by
  rw [Act.pauseCls, Act.get_run]
  dsimp only
  rw [if_pos hov, if_pos hl]

/-- While OVERRIDE is set, every other pause is counted and ignored. -/
theorem pauseCls_ignored (hov : (s.eth (fk p f)).override.any (fun x => x.1 == c) = true) (hl : (l.all fun x => x.2 == 0) = false) :
    (Act.pauseCls p f c l).run s = (Act.modEth (fk p f) fun e =>
      { e with override := (e.override.filter fun x => x.1 != c) ++ [(c, s.edges)] }).run ((Act.ethCount p f 48).run s) := by
  rw [Act.pauseCls, Act.get_run]
  dsimp only
  rw [if_pos hov, if_neg (by simp [hl]), Act.seq_run]

/-- The pauses of facet f after class c is given times l. -/
def State.pausesWith (s : State) (p f c : Nat) (l : List (Nat × Nat)) : List (Nat × Pause) :=
  ((s.eth (fk p f)).pauses.filter fun x => !(x.1 == c && l.any fun y => y.1 == x.2.prio)) ++
    (l.filter fun x => x.2 != 0).map fun x =>
      (c, { stop := (s.time p + quantaNs x.2 (s.lineRate p f)) % 2 ^ 48
            since := ((s.eth (fk p f)).pauses.find? fun x => x.1 == c).elim (s.time p) fun x => x.2.since, prio := x.1 })

/-- With OVERRIDE clear the times take effect. -/
theorem pauseCls_paused (hov : (s.eth (fk p f)).override.any (fun x => x.1 == c) = false) :
    (Act.pauseCls p f c l).run s = (Act.setPauses p f (s.pausesWith p f c l)).run s := by
  rw [Act.pauseCls, Act.get_run]
  dsimp only
  rw [if_neg (by simp [hov])]
  rfl

/-- The registers of facet f below its counters are in its own block, and none of them is a counter. -/
theorem ethReg_apart {p f r : Nat} (hf : f < 32) (hr : r < 256) :
    aBlk (ra p (0x20 + f) r) ≠ 0 ∧ ∀ i, i < 64 → ETH.CNT p f i ≠ ra p (0x20 + f) r := by
  refine ⟨?_, fun i hi => ?_⟩
  · rw [aBlk_ra (by omega) (by omega)]
    omega
  · unfold ETH.CNT ra
    omega

/-- What leaves the switch, and of the registers MODE, leaves every view. -/
theorem Touches.keepsView {A : Act} {S : List Part} (h : Touches A S) (hS : Part.sw ∉ S)
    (hmode : Keeps (fun s => s.reg (ETH.MODE p f)) A) (q : Nat) : Keeps (fun s => s.pauseView p f q) A :=
  ⟨fun s => pauseView_congr (h.same s .sw hS) (hmode.same s) q⟩

/-- A count of facet f leaves every view. -/
theorem ethCount_keeps_view (hf : f < 32) {i : Nat} (hi : i < 64) (q : Nat) : Keeps (fun s => s.pauseView p f q) (Act.ethCount p f i) :=
  (touches_Act_count fun _ h => h).keepsView (by decide)
    (countBy_keeps (ethReg_apart hf (by decide)).1 ((ethReg_apart hf (by decide)).2 i hi) 1) q

/-- The times of one class leave the pauses of another. -/
theorem pauseCls_keeps_view (hf : f < 32) {q : Nat} (hqc : c ≠ q) : Keeps (fun s => s.pauseView p f q) (Act.pauseCls p f c l) := by
  have hne : ∀ x : Nat, x = q → x ≠ c := fun x h => h ▸ hqc.symm
  refine ⟨fun s => ?_⟩
  have hkept : ∀ {β : Type} (m : List (Nat × β)) (t : Nat × β → Bool),
      (m.filter fun x => !(x.1 == c && t x)).filter (fun x => x.1 == q) = m.filter (fun x => x.1 == q) := fun m t => by
    rw [List.filter_filter]
    refine List.filter_congr fun x _ => ?_
    by_cases hx : x.1 = q
    · simp [hx, hqc.symm]
    · simp [hx]
  have hother : ∀ m : List (Nat × Nat), (m.filter fun x => x.1 != c).any (fun x => x.1 == q) = m.any (fun x => x.1 == q) := fun m => by
    rw [List.any_filter]
    refine congrArg (List.any m) (funext fun x => ?_)
    by_cases hx : x.1 = q
    · simp [hx, hqc.symm]
    · simp [hx]
  by_cases hov : (s.eth (fk p f)).override.any (fun x => x.1 == c) = true
  · by_cases hl : (l.all fun x => x.2 == 0) = true
    · rw [pauseCls_ends hov hl, pauseView_modEth, hother]
      rfl
    · have hc : (c == q) = false := by simpa using hqc
      rw [pauseCls_ignored hov (Bool.eq_false_iff.mpr hl), pauseView_modEth, List.any_append, hother, List.any_cons, List.any_nil, hc,
        Bool.or_false, Bool.or_false]
      exact (ethCount_keeps_view hf (by decide) q).same s
  · have hnew : ∀ g : Nat × Nat → Pause, (List.map (fun x => (c, g x)) (l.filter fun x => x.2 != 0)).filter (fun x => x.1 == q) = [] :=
      fun g => List.filter_eq_nil_iff.mpr fun x hx => by
        obtain ⟨y, -, rfl⟩ := List.mem_map.mp hx
        simpa using hqc
    rw [pauseCls_paused (Bool.eq_false_iff.mpr hov), pauseView_setPauses, State.pausesWith, List.filter_append, hkept, hnew,
      List.append_nil]
    rfl

/-- No pause enters a receive buffer. -/
theorem pauseCls_keeps_buf {k : Nat} : Keeps (fun s => s.buf k) (Act.pauseCls p f c l) := by
  refine ⟨fun s => ?_⟩
  by_cases hov : (s.eth (fk p f)).override.any (fun x => x.1 == c) = true
  · by_cases hl : (l.all fun x => x.2 == 0) = true
    · rw [pauseCls_ends hov hl]
      rfl
    · rw [pauseCls_ignored hov (Bool.eq_false_iff.mpr hl)]
      exact ((touches_Act_count fun _ h => h).keepsBuf (by decide) k).same s
  · rw [pauseCls_paused (Bool.eq_false_iff.mpr hov)]
    exact Eq.trans (congrArg (fun w : Switch => Sparse.get bufBlank w.bufs k) (setPauses_run p f _ s).1) rfl

/-- What runs of class q once it is paused for T quanta with OVERRIDE clear, by what ran before. -/
def pausedFor (q T : Nat) (v : List (Nat × Pause) × Bool × Nat × Nat) : List (Nat × Pause) :=
  if T = 0 then [] else
    [(q, { stop := (v.2.2.1 + quantaNs T v.2.2.2) % 2 ^ 48, since := (v.1.head?.map fun x => x.2.since).getD v.2.2.1, prio := 8 })]

/-- The time of a PAUSE frame ends OVERRIDE where it is 0, and with OVERRIDE clear takes the place of the class's pause. -/
theorem pauseCls_own {q T : Nat} (hprio : ∀ x ∈ (s.eth (fk p f)).pauses, x.1 = q → x.2.prio = 8) :
    (T = 0 → (((Act.pauseCls p f q [(8, T)]).run s).pauseView p f q).2.1 = false) ∧
      ((s.eth (fk p f)).override.any (fun x => x.1 == q) = false →
        (((Act.pauseCls p f q [(8, T)]).run s).pauseView p f q).1 = pausedFor q T (s.pauseView p f q)) := by
  by_cases hov : (s.eth (fk p f)).override.any (fun x => x.1 == q) = true
  · refine ⟨fun hT => ?_, fun h => absurd h (by simp [hov])⟩
    rw [pauseCls_ends hov (by simp [hT]), pauseView_modEth]
    simp [List.any_filter]
  · have hoff := Bool.eq_false_iff.mpr hov
    rw [pauseCls_paused hoff, pauseView_setPauses]
    refine ⟨fun _ => hoff, fun _ => ?_⟩
    have hgone : ((s.eth (fk p f)).pauses.filter fun x => !(x.1 == q && ([(8, T)] : List (Nat × Nat)).any fun y => y.1 == x.2.prio)).filter
        (fun x => x.1 == q) = [] := by
      refine List.filter_eq_nil_iff.mpr fun x hx hq => ?_
      obtain ⟨hmem, hkeep⟩ := List.mem_filter.mp hx
      simp [eq_of_beq hq, hprio x hmem (eq_of_beq hq)] at hkeep
    have hsince : ((s.eth (fk p f)).pauses.find? fun x => x.1 == q).elim (s.time p) (fun x => x.2.since) =
        ((s.pauseView p f q).1.head?.map fun x => x.2.since).getD (s.time p) := by
      rw [State.pauseView, List.head?_filter]
      cases (s.eth (fk p f)).pauses.find? fun x => x.1 == q <;> rfl
    rw [State.pausesWith, List.filter_append, hgone, List.nil_append, hsince]
    by_cases hT : T = 0
    · simp [pausedFor, hT]
    · simp [pausedFor, hT, State.pauseView]

end

/-! ### PAUSE_RECEIVE (R366) -/

section
variable {s : State} {p f : Nat} {b : List Byte}

/-- A PAUSE frame that the facet honours is counted, and pauses every class. -/
theorem macControl_pause (hmode : s.fld (ETH.FLOW p f) ETH.FLOW.FC_MODE = 1) (hon : s.flag (ETH.FLOW p f) ETH.FLOW.HONOUR = true)
    (hopc : bytesAt b 14 2 = 1) : (Act.macControl p f b).run s =
      (Act.each (List.range 8) fun c => Act.pauseCls p f c [(8, bytesAt b 16 2)]).run ((Act.ethCount p f 5).run s) := by
  rw [Act.macControl, Act.get_run, if_pos ⟨hopc, Or.inl hmode⟩, Act.seq_run, Act.when_run, if_pos hon]

/-- The pauses of class q after every class has been paused for T quanta. -/
theorem pauseAll_view (hf : f < 32) {q : Nat} (hq : q < 8) (T : Nat) (hprio : ∀ x ∈ (s.eth (fk p f)).pauses, x.1 = q → x.2.prio = 8) :
    let t := (Act.each (List.range 8) fun c => Act.pauseCls p f c [(8, T)]).run s
    (T = 0 → (t.pauseView p f q).2.1 = false) ∧
      ((s.pauseView p f q).2.1 = false → (t.pauseView p f q).1 = pausedFor q T (s.pauseView p f q)) := by
  intro t
  obtain ⟨u, hu, ht⟩ := Act.each_once (F := fun s => s.pauseView p f q) List.nodup_range (List.mem_range.mpr hq)
    (g := fun c => Act.pauseCls p f c [(8, T)]) (fun c hc => pauseCls_keeps_view hf hc) s
  have huprio : ∀ x ∈ (u.eth (fk p f)).pauses, x.1 = q → x.2.prio = 8 := fun x hx hxq => by
    have hmem : x ∈ (s.pauseView p f q).1 := by
      rw [← hu]
      exact List.mem_filter.mpr ⟨hx, beq_iff_eq.mpr hxq⟩
    exact hprio x (List.mem_of_mem_filter hmem) hxq
  obtain ⟨hends, hpauses⟩ := pauseCls_own (T := T) huprio
  rw [← hu, show t.pauseView p f q = _ from ht]
  exact ⟨hends, hpauses⟩

/-- What a PAUSE frame leaves: it is counted, the receive buffers stay, and each class's pause is as the time says. -/
theorem pauseReceive_gives (hp : p < s.x) (hf : f < 32) (hup : s.prismUp = true) (hon : s.enabled p (0x20 + f) = true)
    (hboot : s.booting p f = false) (hov : s.rxOverflow p f (s.bufClass p f b) (cellsOf b.length) = false)
    (hgood : rxFailure b false (s.fld (ETH.MODE p f) ETH.MODE.MAX_LEN) = none) (hctl : s.isMacControl p f b = true)
    (hopc : bytesAt b 14 2 = 1) (hprio : ∀ x ∈ (s.eth (fk p f)).pauses, x.2.prio = 8)
    (hmode : s.fld (ETH.FLOW p f) ETH.FLOW.FC_MODE = 1) (hhonour : s.flag (ETH.FLOW p f) ETH.FLOW.HONOUR = true) :
    Gives (.pauseReceive p f b) s fun t => Counted (ETH.CNT p f 5) 1 s t ∧ t.buf (fk p f) = s.buf (fk p f) ∧
      ∀ q, q < 8 → (bytesAt b 16 2 = 0 → (t.pauseView p f q).2.1 = false) ∧
        ((s.pauseView p f q).2.1 = false → (t.pauseView p f q).1 = pausedFor q (bytesAt b 16 2) (s.pauseView p f q)) := by
  have hexec : exec (.pauseReceive p f b) s = .next ((ethReceive p f b none false 0 0 0).run s) := by
    show Act.go (Act.when (p < s.x ∧ f < 32 ∧ s.prismUp = true) (pauseReceive p f b)) s = _
    rw [Act.go_eq, Act.when_run, if_pos ⟨hp, hf, hup⟩, pauseReceive, Act.get_run, Act.when_run, if_pos hctl]
  refine ⟨_, hexec.trans (congrArg _ (ethReceive_control hf hon hboot hov hgood hctl)), ?_⟩
  obtain ⟨hflowBlk, hflow⟩ := ethReg_apart (p := p) hf (r := 1) (by decide)
  obtain ⟨hmodeBlk, hmodeNe⟩ := ethReg_apart (p := p) hf (r := 0) (by decide)
  have hfec := rxFec_touches (p := p) (f := f) (s.hasFec p f) 0 0
  have huflow : ((Act.rxFec p f (s.hasFec p f) 0 0).run s).reg (ETH.FLOW p f) = s.reg (ETH.FLOW p f) :=
    (rxFec_keeps hflowBlk (hflow 49 (by decide)) (hflow 50 (by decide)) _ _ _).same s
  have hucnt : ((Act.rxFec p f (s.hasFec p f) 0 0).run s).reg (ETH.CNT p f 5) = s.reg (ETH.CNT p f 5) :=
    (rxFec_keeps (ethCnt_blk hf (by decide)) (ethCnt_ne (by decide)) (ethCnt_ne (by decide)) _ _ _).same s
  have hueth : ((Act.rxFec p f (s.hasFec p f) 0 0).run s).eth (fk p f) = s.eth (fk p f) := (hfec.keepsEth (by decide) _).same s
  have hubuf : ((Act.rxFec p f (s.hasFec p f) 0 0).run s).buf (fk p f) = s.buf (fk p f) := (hfec.keepsBuf (by decide) _).same s
  have huview : ∀ q, ((Act.rxFec p f (s.hasFec p f) 0 0).run s).pauseView p f q = s.pauseView p f q :=
    (hfec.keepsView (by decide) (rxFec_keeps hmodeBlk (hmodeNe 49 (by decide)) (hmodeNe 50 (by decide)) _ _ _) · |>.same s)
  have hend : (Act.rxAround p f (s.hasFec p f) 0 0 (Act.seq (Act.macControl p f b) (Act.countRx p f (frDa b) b.length))).run s =
      (Act.seq (Act.countRx p f (frDa b) b.length) (Act.rxOffer p f)).run
        ((Act.each (List.range 8) fun c => Act.pauseCls p f c [(8, bytesAt b 16 2)]).run
          ((Act.ethCount p f 5).run ((Act.rxFec p f (s.hasFec p f) 0 0).run s))) := by
    rw [Act.rxAround, Act.seq_run, Act.seq_run, Act.seq_run, Act.seq_run, macControl_pause ((congrArg (fget · _) huflow).trans hmode)
      ((congrArg (fun v => decide (fget v _ ≠ 0)) huflow).trans hhonour) hopc]
  rw [hend]
  generalize (Act.rxFec p f (s.hasFec p f) 0 0).run s = u at *
  have hafter : Touches (Act.seq (Act.countRx p f (frDa b) b.length) (Act.rxOffer p f)) [.regs, .evtNo, .upsets, .irqs, .mon] :=
    .seq (touches_Act_countRx fun _ h => h) (rxOffer_touches.mono (by decide))
  have hafterReg : ∀ a, aBlk a ≠ 0 → (∀ i, i ≤ 4 ∨ (17 ≤ i ∧ i ≤ 25) → ETH.CNT p f i ≠ a) →
      Keeps (fun s => s.reg a) (Act.seq (Act.countRx p f (frDa b) b.length) (Act.rxOffer p f)) := fun a ha h =>
    .seq (countRx_keeps ha h _ _) (rxOffer_touches.keepsReg (by decide) a)
  have heach : Keeps (fun s => s.reg (ETH.CNT p f 5)) (Act.each (List.range 8) fun c => Act.pauseCls p f c [(8, bytesAt b 16 2)]) :=
    .each fun c _ => (writes_Act_pauseCls (P := fun a => a ≠ ETH.CNT p f 5) (ethCnt_ne (by decide))
      (fun _ h => ethCnt_blk (p := p) (i := 5) hf (by decide) (by rw [← h]; exact aBlk_ra (by decide) (by decide)))
      (fun _ h => ethCnt_blk (p := p) (i := 5) hf (by decide) (by rw [← h]; exact aBlk_ra (by decide) (by decide)))).keeps
  refine ⟨?_, ?_, fun q hq => ?_⟩
  · have hcount : Counted (ETH.CNT p f 5) 1 u ((Act.ethCount p f 5).run u) := count_counted (ethCnt_blk hf (by decide)) u
    have hall := hcount.until (heach.same _)
    have hlast := (hafterReg _ (ethCnt_blk (p := p) hf (by decide)) fun i hi => ethCnt_ne (j := 5) (by omega)).same
    exact (hall.until (hlast _)).since hucnt
  · have hpauses : Keeps (fun s => s.buf (fk p f)) (Act.each (List.range 8) fun c => Act.pauseCls p f c [(8, bytesAt b 16 2)]) :=
      .each fun c _ => pauseCls_keeps_buf
    have hcount := (touches_Act_count (a := ETH.CNT p f 5) fun _ h => h).keepsBuf (by decide) (fk p f)
    have hlast := (hafter.keepsBuf (by decide) (fk p f)).same
    exact (hlast _).trans ((hpauses.same _).trans ((hcount.same u).trans hubuf))
  · have hcount := ethCount_keeps_view (p := p) hf (show 5 < 64 by decide) q
    have hceth := (touches_Act_count (a := ETH.CNT p f 5) fun _ h => h).keepsEth (by decide) (fk p f)
    have hv := (hcount.same u).trans (huview q)
    have hall := pauseAll_view (s := (Act.ethCount p f 5).run u) hf hq (bytesAt b 16 2) fun x hx _ =>
      hprio x (by rw [← hueth, ← hceth.same u]; exact hx)
    rw [hv] at hall
    rw [(hafter.keepsView (by decide) (hafterReg _ hmodeBlk fun i hi => hmodeNe i (by omega)) q).same]
    exact hall

end

/-! ### Pauses that end (R366, R367) -/

section
variable {s : State} {A : Act} {p f c : Nat}

/-- A step of an Ethernet facet of a Prism die that is up. -/
theorem go_facet (hp : p < s.x) (hf : f < 32) (hup : s.prismUp = true) :
    Act.go (Act.when (p < s.x ∧ f < 32 ∧ s.prismUp = true) A) s = .next (A.run s) := by
  rw [Act.go_eq, Act.when_run, if_pos ⟨hp, hf, hup⟩]

/-- A step of a class of such a facet. -/
theorem go_class (hp : p < s.x) (hf : f < 32) (hc : c < 8) (hup : s.prismUp = true) :
    Act.go (Act.when (p < s.x ∧ f < 32 ∧ c < 8 ∧ s.prismUp = true) A) s = .next (A.run s) := by
  rw [Act.go_eq, Act.when_run, if_pos ⟨hp, hf, hc, hup⟩]

/-- A release by PAUSE_LIMIT: the class's pauses end, OVERRIDE is set, and it is an event. -/
theorem released_leaves (l : List (Nat × Pause)) (o : Nat × Nat) (s : State) :
    let t := (Act.event (ETH.EVT p f) 3).run ((Act.modEth (fk p f) fun v =>
      { v with override := (v.override.filter fun y => y.1 != c) ++ [o] }).run ((Act.setPauses p f l).run s))
    (t.eth (fk p f)).pauses = l ∧ (t.eth (fk p f)).override = ((s.eth (fk p f)).override.filter fun y => y.1 != c) ++ [o] ∧
      Logged (ETH.EVT p f) 3 s t ∧ OnlyRegs [ETH.EVT p f] s t := by
  intro t
  have hpauses := onlyRegs_setPauses p f l s
  have hevt : ((Act.setPauses p f l).run s).evtNo = s.evtNo := (touches_Act_setPauses fun _ h => h).same s .evtNo (by decide)
  have heth := eth_setPauses p f l s
  revert t
  generalize (Act.setPauses p f l).run s = u at *
  intro t
  have hmod := eth_modEth (fk p f) (fun v => { v with override := (v.override.filter fun y => y.1 != c) ++ [o] }) u
  have hregs : ∀ a, ((Act.modEth (fk p f) fun v => { v with override := (v.override.filter fun y => y.1 != c) ++ [o] }).run u).reg a =
    u.reg a := fun _ => rfl
  have hevt' : ((Act.modEth (fk p f) fun v => { v with override := (v.override.filter fun y => y.1 != c) ++ [o] }).run u).evtNo =
    u.evtNo := rfl
  have ht : t = (Act.event (ETH.EVT p f) 3).run ((Act.modEth (fk p f) fun v =>
    { v with override := (v.override.filter fun y => y.1 != c) ++ [o] }).run u) := rfl
  clear_value t
  generalize (Act.modEth (fk p f) fun v => { v with override := (v.override.filter fun y => y.1 != c) ++ [o] }).run u = v at *
  have hteth : t.eth (fk p f) = v.eth (fk p f) := by rw [ht]; rfl
  have hother := (writes_Act_event (a := ETH.EVT p f) (i := 3) (P := fun b => b ∈ [ETH.EVT p f]) (by simp)).onlyRegs v
  rw [hteth, hmod, heth, ht]
  exact ⟨rfl, rfl, (event_logged (ETH.EVT p f) 3 v).since ((hregs _).trans (hpauses _ (by simp))) (hevt'.trans hevt),
    fun a ha => (hother a ha).trans ((hregs a).trans (hpauses a (by simp)))⟩

variable (hp : p < s.x) (hf : f < 32) (hc : c < 8) (hup : s.prismUp = true)
include hp hf hc hup

theorem pauseExpire_gives : Gives (.pauseExpire p f c) s fun t => OnlyRegs [] s t ∧
    (t.eth (fk p f)).pauses = (s.eth (fk p f)).pauses.filter fun x => !(x.1 == c && notBefore (s.time p) x.2.stop) := by
  refine ⟨_, go_class hp hf hc hup, ?_, ?_⟩
  · rw [pauseExpire, Act.get_run]
    exact onlyRegs_setPauses p f _ s
  · rw [pauseExpire, Act.get_run, eth_setPauses]

theorem pauseOverrideEnd_gives : Gives (.pauseOverrideEnd p f c) s fun t =>
    (t.eth (fk p f)).override = ((s.eth (fk p f)).override.filter fun x => !(x.1 == c && s.pastMs x.2 1)) ∧
      (t.eth (fk p f)).pauses = (s.eth (fk p f)).pauses ∧ OnlyRegs [] s t := by
  refine ⟨_, go_class hp hf hc hup, ?_, ?_, fun _ _ => rfl⟩
  · rw [pauseOverrideEnd, Act.get_run, eth_modEth]
  · rw [pauseOverrideEnd, Act.get_run, eth_modEth]

theorem pauseLimit_gives {x : Nat × Pause} (hx : (s.eth (fk p f)).pauses.find? (fun x => x.1 == c) = some x)
    (hlong : s.fld (ETH.FLOW p f) ETH.FLOW.LIMIT_MS * 1000000 ≤ since x.2.since (s.time p)) : Gives (.pauseLimit p f c) s fun t =>
      (∀ y ∈ (t.eth (fk p f)).pauses, y.1 ≠ c) ∧ (t.eth (fk p f)).override.any (fun x => x.1 == c) = true ∧ Logged (ETH.EVT p f) 3 s t ∧
        OnlyRegs [ETH.EVT p f] s t := by
  have hrun : (pauseLimit p f c).run s = (Act.event (ETH.EVT p f) 3).run ((Act.modEth (fk p f) fun v =>
      { v with override := (v.override.filter fun y => y.1 != c) ++ [(c, s.edges)] }).run
        ((Act.setPauses p f ((s.eth (fk p f)).pauses.filter fun y => y.1 != c)).run s)) := by
    rw [pauseLimit, Act.get_run]
    dsimp only
    rw [hx, Act.opt_some, Act.when_run, if_pos hlong, Act.all_cons, Act.all_cons, Act.all_cons, Act.all_nil]
  obtain ⟨hpauses, hoverride, hlogged, honly⟩ := released_leaves (p := p) (f := f) (c := c)
    ((s.eth (fk p f)).pauses.filter fun y => y.1 != c) (c, s.edges) s
  refine ⟨_, (go_class hp hf hc hup).trans (congrArg _ hrun), fun y hy => ?_, ?_, hlogged, honly⟩
  · rw [hpauses] at hy
    simpa using (List.mem_filter.mp hy).2
  · rw [hoverride]
    simp

end

/-! ### PAUSE frames sent (R364) -/

section
variable {s : State} {p f : Nat}

/-- In PAUSE mode one PAUSE frame leaves, and is counted. -/
theorem sendPause_leaves (hf : f < 32) (hmode : s.fld (ETH.FLOW p f) ETH.FLOW.FC_MODE = 1) (classes : List Nat) (time : Nat) :
    Counted (ETH.CNT p f 31) 1 s ((Act.sendPause p f classes time).run s) ∧
      ((Act.sendPause p f classes time).run s).out = .eth p f (macFrame (s.reg (ETH.MATCH p f 0)).toNat 1 (beBytes 2 time)) :: s.out ∧
      ((Act.sendPause p f classes time).run s).eth (fk p f) = s.eth (fk p f) := by
  have htouch : Touches (Act.seq (Act.ethCount p f 31) (Act.countTx p f 0x0180C2000001 64)) [.regs, .evtNo, .upsets, .irqs, .mon] :=
    .seq (touches_Act_count (by decide)) (touches_Act_countTx fun _ h => h)
  have hrun : (Act.sendPause p f classes time).run s = (Act.seq (Act.ethCount p f 31) (Act.countTx p f 0x0180C2000001 64)).run
      ((Act.emit (.eth p f (macFrame (s.reg (ETH.MATCH p f 0)).toNat 1 (beBytes 2 time)))).run s) := by
    rw [Act.sendPause, Act.get_run]
    dsimp only
    rw [if_pos hmode, Act.all_cons, Act.all_cons, Act.all_cons, Act.all_nil, Act.seq_run]
  have hsw := htouch.keepsEth (by decide) (fk p f)
  rw [hrun]
  refine ⟨?_, htouch.same _ .out (by decide), hsw.same _⟩
  have hcount : Counted (ETH.CNT p f 31) 1 _ ((Act.ethCount p f 31).run
      ((Act.emit (.eth p f (macFrame (s.reg (ETH.MATCH p f 0)).toNat 1 (beBytes 2 time)))).run s)) :=
    count_counted (ethCnt_blk hf (by decide)) _
  have htx := (countTx_keeps (p := p) (ethCnt_blk hf (show 31 < 64 by decide)) (fun i hi => ethCnt_ne (by omega)) 0x0180C2000001 64).same
  exact (hcount.until (htx _)).since rfl

/-- The same, with the facet's record changed just before. -/
theorem setEth_sendPause (hf : f < 32) (hmode : s.fld (ETH.FLOW p f) ETH.FLOW.FC_MODE = 1) (v : EthFacet) (classes : List Nat)
    (time : Nat) : let t := (Act.sendPause p f classes time).run ((Act.setEth (fk p f) v).run s)
      t.eth (fk p f) = v ∧ Counted (ETH.CNT p f 31) 1 s t ∧
        t.out = .eth p f (macFrame (s.reg (ETH.MATCH p f 0)).toNat 1 (beBytes 2 time)) :: s.out := by
  have hset : ((Act.setEth (fk p f) v).run s).eth (fk p f) = v := by simp only [State.eth, Act_setEth_sw, Sparse.get_put, if_true]
  have hreg : ∀ a, ((Act.setEth (fk p f) v).run s).reg a = s.reg a := fun _ => rfl
  have hout : ((Act.setEth (fk p f) v).run s).out = s.out := rfl
  generalize (Act.setEth (fk p f) v).run s = u at *
  obtain ⟨hcount, hsent, heth⟩ := sendPause_leaves hf ((congrArg (fget · _) (hreg _)).trans hmode) classes time
  rw [hreg, hout] at hsent
  exact ⟨heth.trans hset, hcount.since (hreg _), hsent⟩

/-- With PAUSE every class is lossless where the facet sends. -/
theorem lossless_pause (hmode : s.fld (ETH.FLOW p f) ETH.FLOW.FC_MODE = 1) (hsend : s.flag (ETH.FLOW p f) ETH.FLOW.SEND = true) (c : Nat) :
    s.lossless p f c = true := by
  rw [State.lossless, hsend, hmode]
  rfl

/-- All classes, held off class by class. -/
theorem heldOff_own (own : List Nat) : s.heldOff p f own false = (List.range 8).filter fun c => own.contains c := by
  simp [State.heldOff]

variable (hp : p < s.x) (hf : f < 32) (hup : s.prismUp = true) (hon : s.enabled p (0x20 + f) = true)
  (hmode : s.fld (ETH.FLOW p f) ETH.FLOW.FC_MODE = 1) (hall : (s.eth (fk p f)).xoffAll = false)
include hp hf hup hon hmode hall

theorem xoffCross_gives (hxoff : (s.eth (fk p f)).xoff = []) (hsend : s.flag (ETH.FLOW p f) ETH.FLOW.SEND = true)
    (hfull : s.fld (ETH.RXBUF p f) ETH.RXBUF.XOFF ≤ s.rxCells p f) : Gives (.xoffCross p f) s fun t =>
      (t.eth (fk p f)).xoff = [0, 1, 2, 3, 4, 5, 6, 7] ∧ Counted (ETH.CNT p f 31) 1 s t ∧
        t.out = .eth p f (macFrame (s.reg (ETH.MATCH p f 0)).toNat 1
          (beBytes 2 (s.fld (ETH.FLOW p f) ETH.FLOW.QUANTA))) :: s.out := by
  have hown : ((List.range 8).filter fun c => s.lossless p f c && ((s.eth (fk p f)).xoff.contains c ||
      decide (s.fld (ETH.RXBUF p f) ETH.RXBUF.XOFF ≤ s.fcCells p f c))) = [0, 1, 2, 3, 4, 5, 6, 7] := by
    simp only [lossless_pause hmode hsend, State.fcCells, if_pos hmode, hfull, decide_true, Bool.or_true, Bool.and_true]
    rfl
  have htotal : ((s.eth (fk p f)).xoffAll || (s.fld (ETH.FLOW p f) ETH.FLOW.FC_MODE == 2 &&
      decide (s.fld (ETH.RXBUF p f) ETH.RXBUF.XOFF_TOTAL ≤ s.rxCells p f))) = false := by
    rw [hall, hmode]
    rfl
  have hrun : (xoffCross p f).run s = (Act.sendPause p f [0, 1, 2, 3, 4, 5, 6, 7] (s.fld (ETH.FLOW p f) ETH.FLOW.QUANTA)).run
      ((Act.setEth (fk p f) { s.eth (fk p f) with xoff := [0, 1, 2, 3, 4, 5, 6, 7], xoffAll := false }).run s) := by
    rw [xoffCross, Act.get_run]
    dsimp only
    rw [hown, htotal, heldOff_own, hall, hxoff, heldOff_own, Act.when_run, if_pos hon, Act.seq_run]
    rfl
  have hsent := setEth_sendPause hf hmode { s.eth (fk p f) with xoff := [0, 1, 2, 3, 4, 5, 6, 7], xoffAll := false }
    [0, 1, 2, 3, 4, 5, 6, 7] (s.fld (ETH.FLOW p f) ETH.FLOW.QUANTA)
  obtain ⟨heth, hcount, hout⟩ := hsent
  exact ⟨_, (go_facet hp hf hup).trans (congrArg _ hrun), congrArg EthFacet.xoff heth, hcount, hout⟩

theorem xonCross_gives (hxoff : (s.eth (fk p f)).xoff = [0, 1, 2, 3, 4, 5, 6, 7])
    (hlow : s.rxCells p f ≤ s.fld (ETH.RXBUF p f) ETH.RXBUF.XON) : Gives (.xonCross p f) s fun t =>
      (t.eth (fk p f)).xoff = [] ∧ Counted (ETH.CNT p f 31) 1 s t ∧
        t.out = .eth p f (macFrame (s.reg (ETH.MATCH p f 0)).toNat 1 (beBytes 2 0)) :: s.out := by
  have hown : ((s.eth (fk p f)).xoff.filter fun c => decide (s.fld (ETH.RXBUF p f) ETH.RXBUF.XON < s.fcCells p f c)) = [] :=
    List.filter_eq_nil_iff.mpr fun c _ => by
      rw [State.fcCells, if_pos hmode]
      simpa using hlow
  have hrun : (xonCross p f).run s = (Act.sendPause p f [0, 1, 2, 3, 4, 5, 6, 7] 0).run
      ((Act.setEth (fk p f) { s.eth (fk p f) with xoff := [], xoffAll := false }).run s) := by
    rw [xonCross, Act.get_run]
    dsimp only
    rw [hown, hall, Bool.false_and, heldOff_own, heldOff_own, hxoff, Act.when_run, if_pos hon, Act.seq_run]
    rfl
  obtain ⟨heth, hcount, hout⟩ := setEth_sendPause hf hmode { s.eth (fk p f) with xoff := [], xoffAll := false } [0, 1, 2, 3, 4, 5, 6, 7] 0
  exact ⟨_, (go_facet hp hf hup).trans (congrArg _ hrun), congrArg EthFacet.xoff heth, hcount, hout⟩

theorem pauseRefresh_gives (hxoff : (s.eth (fk p f)).xoff = [0, 1, 2, 3, 4, 5, 6, 7]) : Gives (.pauseRefresh p f) s fun t =>
    t.eth (fk p f) = s.eth (fk p f) ∧ Counted (ETH.CNT p f 31) 1 s t ∧
      t.out = .eth p f (macFrame (s.reg (ETH.MATCH p f 0)).toNat 1 (beBytes 2 (s.fld (ETH.FLOW p f) ETH.FLOW.QUANTA))) :: s.out := by
  have hrun : (pauseRefresh p f).run s =
      (Act.sendPause p f [0, 1, 2, 3, 4, 5, 6, 7] (s.fld (ETH.FLOW p f) ETH.FLOW.QUANTA)).run s := by
    rw [pauseRefresh, Act.get_run]
    dsimp only
    rw [hall, hxoff, heldOff_own, Act.when_run, if_pos ⟨hon, by decide⟩]
    rfl
  obtain ⟨hcount, hout, heth⟩ := sendPause_leaves hf hmode [0, 1, 2, 3, 4, 5, 6, 7] (s.fld (ETH.FLOW p f) ETH.FLOW.QUANTA)
  exact ⟨_, (go_facet hp hf hup).trans (congrArg _ hrun), heth, hcount, hout⟩

end

/-! ### Frames sent (R299, R348, R358 to R360) -/

/-- An action that ends in one of the continuations k, having written before it only registers that meet P. -/
def EndsIn {α : Type} (k : α → Act) (P : Nat → Prop) (A : Act) : Prop :=
  ∀ s, ∃ o u, (∀ a, ¬P a → u.reg a = s.reg a) ∧ A.run s = (k o).run u

namespace EndsIn

variable {α : Type} {k : α → Act} {P : Nat → Prop} {A B : Act}

theorem here (o : α) : EndsIn k P (k o) := fun s => ⟨o, s, fun _ _ => rfl, rfl⟩

theorem seq (h : Writes B P) (hA : EndsIn k P A) : EndsIn k P (Act.seq B A) := fun s => by
  obtain ⟨o, u, hreg, hrun⟩ := hA (B.run s)
  exact ⟨o, u, fun a ha => (hreg a ha).trans (h.same s a ha), hrun⟩

theorem last (h : EndsIn k P A) : EndsIn k P (Act.all [A]) := h

theorem cons {l : List Act} (h : Writes B P) (hA : EndsIn k P (Act.all l)) : EndsIn k P (Act.all (B :: l)) := seq h hA

theorem ite {c : Prop} [Decidable c] (h : EndsIn k P A) (hB : EndsIn k P B) : EndsIn k P (if c then A else B) := by
  split
  · exact h
  · exact hB

theorem get {g : State → Act} (h : ∀ s, EndsIn k P (g s)) : EndsIn k P (Act.get g) := fun s => h s s

end EndsIn

/-- The registers that are no counter of facet f. -/
def offCounters (p f a : Nat) : Prop := ∀ i, i < 64 → a ≠ ETH.CNT p f i

section
variable {p f : Nat}

/-- A register of a block above the Ethernet facets' is no counter of theirs. -/
theorem offCounters_above (hf : f < 32) {blk r : Nat} (hblk : 0x40 ≤ blk) : offCounters p f (ra p blk r) := fun i hi h => by
  unfold ETH.CNT ra at h
  omega

theorem offCounters_dev (hf : f < 32) {q r : Nat} (hr : r < 8192) : offCounters p f (ra q 0 r) := fun i hi h => by
  unfold ETH.CNT ra at h
  omega

variable (hf : f < 32)
include hf

theorem countBy_off {c : Nat} (hc : offCounters p f c) (n : Nat) : Writes (Act.countBy c n) (offCounters p f) :=
  writes_Act_countBy hc (fun _ => offCounters_dev hf (by decide)) fun _ => offCounters_dev hf (by decide)

/-- A use of a key ends in what its user makes of the outcome. -/
theorem useKey_endsIn {α : Type} {k : α → Act} {n use user : Nat} {dir klen part : Option Nat} {j : KeyUse → Act}
    (h : ∀ u, EndsIn k (offCounters p f) (j u)) : EndsIn k (offCounters p f) (Act.useKey p n use dir klen part user j) := by
  have hdev : ∀ {q r : Nat}, r < 8192 → offCounters p f (ra q 0 r) := offCounters_dev hf
  have habove : ∀ {blk r : Nat}, 0x40 ≤ blk → offCounters p f (ra p blk r) := offCounters_above hf
  refine .get fun s => ?_
  cases s.keyUse p n use dir klen part with
  | denied =>
    exact .seq (writes_Act_denyKey (habove (by decide)) (habove (by decide)) (habove (by decide)) (fun _ => hdev (by decide))
      fun _ => hdev (by decide)) (h _)
  | notReady => exact .seq (writes_Act_demand (habove (by decide))) (h _)
  | noRandom => exact h _
  | ok key =>
    exact .cons (.when writes_Act_remask) <| .cons (writes_Act_bumpFld (habove (by decide))) <| .cons writes_Act_modKslot <| .last (h _)

/-- MACsec ends in one of its outcomes, and counts nothing of the facet's own. -/
theorem macsecTransmit_endsIn (fault : Bool) (body : List Byte) (k : MacOut → Act) :
    EndsIn k (offCounters p f) (Act.macsecTransmit p f fault body k) := by
  have habove : ∀ {blk r : Nat}, 0x40 ≤ blk → offCounters p f (ra p blk r) := offCounters_above hf
  have hcount : ∀ i, Writes (Act.msecCount p f i) (offCounters p f) := fun i => countBy_off hf (habove (by decide)) 1
  have hevent : ∀ i an, Writes (Act.msecEvent p i f 0 an) (offCounters p f) := fun i an =>
    writes_Act_msecEvent (habove (by decide)) (habove (by decide))
  have hdrop : EndsIn k (offCounters p f) (Act.seq (Act.msecCount p f 3) (k .drop)) := .seq (hcount 3) (.here _)
  have hfault : Writes (Act.datapathFault p 2 f) (offCounters p f) :=
    writes_Act_datapathFault (habove (by decide)) (habove (by decide)) (habove (by decide)) (fun _ => offCounters_dev hf (by decide))
      fun _ => offCounters_dev hf (by decide)
  refine .get fun s => .ite (.here _) <| .ite (.here _) <| .ite (.here _) <| .ite hdrop <| .ite ?_ <| useKey_endsIn hf fun u => ?_
  · exact .cons (hevent _ _) <| .cons (hcount _) <| .last (.here _)
  · cases u with
    | denied => exact hdrop
    | notReady => exact hdrop
    | noRandom => exact hdrop
    | ok key =>
      refine .ite (.seq hfault (.here _)) ?_
      exact .cons writes_Act_setPn <| .cons writes_Act_modKslot <| .cons (.when (hevent _ _)) <| .cons (hcount _) <| .last (.here _)

end

/-- Without MACsec the frame goes on as it is. -/
theorem macsecTransmit_plain {s : State} {p f : Nat} (h : s.macsec p f = false) (fault : Bool) (body : List Byte) (k : MacOut → Act) :
    (Act.macsecTransmit p f fault body k).run s = (k (.send body)).run s := by
  rw [Act.macsecTransmit, Act.get_run, if_pos (Or.inl h)]

/-- A transmitter made free carries no frame, and nothing is sent by that. -/
theorem txFree_leaves (p f : Nat) (s : State) :
    (((Act.txFree p f).run s).eth (fk p f)).tx = none ∧ ((Act.txFree p f).run s).out = s.out := by
  refine ⟨?_, (touches_Act_txFree (S := [.sw]) (by decide)).same s .out (by decide)⟩
  rw [Act.txFree, Act.get_run, Act.seq_run, eth_modEth]

theorem txFree_keeps (p f a : Nat) : Keeps (fun s => s.reg a) (Act.txFree p f) := (writes_Act_txFree (P := fun b => b ≠ a)).keeps

section
variable {p f : Nat} (hf : f < 32)
include hf

/-- A frame that is ended: the bytes sent with the complement of their FCS, the count, and a free transmitter. -/
theorem endAborted_leaves (n : Nat) (body : List Byte) (s : State) : let t := (Act.endAborted p f n body).run s
    (t.eth (fk p f)).tx = none ∧ Counted (ETH.CNT p f 33) 1 s t ∧
      t.out = .eth p f (body.take n ++ leBytes 4 (crc32 (body.take n) ^^^ 0xFFFFFFFF)) :: s.out := by
  intro t
  have hrun : t = (Act.txFree p f).run ((Act.ethCount p f 33).run
      ((Act.emit (.eth p f (body.take n ++ leBytes 4 (crc32 (body.take n) ^^^ 0xFFFFFFFF)))).run s)) := by
    show (Act.endAborted p f n body).run s = _
    rw [Act.endAborted, Act.all_cons, Act.all_cons, Act.all_cons, Act.all_nil]
  have hcount : Counted (ETH.CNT p f 33) 1 _ ((Act.ethCount p f 33).run
      ((Act.emit (.eth p f (body.take n ++ leBytes 4 (crc32 (body.take n) ^^^ 0xFFFFFFFF)))).run s)) :=
    count_counted (ethCnt_blk hf (by decide)) _
  have hout := (touches_Act_count (a := ETH.CNT p f 33) fun _ h => h).same
    ((Act.emit (.eth p f (body.take n ++ leBytes 4 (crc32 (body.take n) ^^^ 0xFFFFFFFF)))).run s) .out (by decide)
  rw [hrun]
  exact ⟨(txFree_leaves ..).1, (hcount.until ((txFree_keeps p f _).same _)).since rfl, (txFree_leaves ..).2.trans hout⟩

theorem endAborted_keeps {i : Nat} (hi : i < 64) (h : i ≠ 33) (n : Nat) (body : List Byte) :
    Keeps (fun s => s.reg (ETH.CNT p f i)) (Act.endAborted p f n body) :=
  .seq ⟨fun _ => rfl⟩ <| .seq (countBy_keeps (ethCnt_blk hf hi) (ethCnt_ne h.symm) 1) <| .seq (txFree_keeps ..) .skip

end

/-! ### TX_ABORT and ETH_TRANSMIT -/

/-- What TX_ABORT makes of MACsec's outcome: the frame ends after n of the bytes that it would have been sent with, or before the first. -/
def abortedAs (p f n : Nat) : MacOut → Act
  | .send out => Act.endAborted p f n (padTo (max 60 out.length) out)
  | _ => Act.endAborted p f 0 []

theorem abortedAs_ends (p f n : Nat) (o : MacOut) : ∃ m x, abortedAs p f n o = Act.endAborted p f m x := by
  cases o with
  | send out => exact ⟨n, padTo (max 60 out.length) out, rfl⟩
  | drop => exact ⟨0, [], rfl⟩
  | abort => exact ⟨0, [], rfl⟩

/-- Whether a facet runs MACsec is read from its PORT. -/
theorem macsec_congr {s u : State} {p f : Nat} (h : u.reg (MSEC.PORT p f) = s.reg (MSEC.PORT p f)) : u.macsec p f = s.macsec p f := by
  rw [State.macsec, State.macsec, State.flag, State.flag, State.fld, State.fld, h]

/-- A timestamp captured, or lost, counts at most the FIFO's overflow and is sent nowhere. -/
theorem txStamp_keeps {p f i : Nat} (hf : f < 32) (hi : i < 51) (x : List Byte) :
    Keeps (fun s => s.reg (ETH.CNT p f i)) (Act.txStamp p f x) := by
  have hdev : ∀ {q r : Nat}, r < 8192 → ra q 0 r ≠ ETH.CNT p f i := fun hr h => by
    unfold ETH.CNT ra at h
    omega
  exact (writes_Act_txStamp (P := fun a => a ≠ ETH.CNT p f i) (by unfold ETH.CNT ETH.EVT ra; omega) (ethCnt_ne (by omega))
    (fun _ => hdev (by decide)) fun _ => hdev (by decide)).keeps

/-- A frame sent whole: its bytes with their FCS, the counts, and a free transmitter. -/
theorem sent_leaves {p f : Nat} (hf : f < 32) (x : List Byte) (s : State) :
    let t := (Act.txFree p f).run ((Act.txStamp p f x).run
      ((Act.countTx p f (frDa x) (x.length + 4)).run ((Act.emit (.eth p f (x ++ fcsOf x))).run s)))
    t.out = .eth p f (x ++ fcsOf x) :: s.out ∧ (t.eth (fk p f)).tx = none ∧ Counted (ETH.CNT p f 26) 1 s t ∧
      Counted (ETH.CNT p f 27) (x.length + 4) s t := by
  have hemit : ∀ a, ((Act.emit (.eth p f (x ++ fcsOf x))).run s).reg a = s.reg a := fun _ => rfl
  have hout : ((Act.emit (.eth p f (x ++ fcsOf x))).run s).out = .eth p f (x ++ fcsOf x) :: s.out := rfl
  generalize (Act.emit (.eth p f (x ++ fcsOf x))).run s = u at *
  obtain ⟨hframes, hbytes⟩ := countTx_counted (p := p) hf (frDa x) (x.length + 4) u
  have hcount : Touches (Act.countTx p f (frDa x) (x.length + 4)) [.regs, .evtNo, .upsets, .irqs, .mon] :=
    touches_Act_countTx fun _ h => h
  have hstamp : Touches (Act.txStamp p f x) [.regs, .evtNo, .upsets, .irqs, .sw] := touches_Act_txStamp fun _ h => h
  have hlast : ∀ i, i < 51 → Keeps (fun s => s.reg (ETH.CNT p f i)) (Act.seq (Act.txStamp p f x) (Act.txFree p f)) := fun i hi =>
    .seq (txStamp_keeps hf hi x) (txFree_keeps ..)
  refine ⟨?_, (txFree_leaves ..).1, (hframes.until ((hlast 26 (by decide)).same _)).since (hemit _),
    (hbytes.until ((hlast 27 (by decide)).same _)).since (hemit _)⟩
  exact (txFree_leaves ..).2.trans (Eq.trans (hstamp.same _ .out (by decide)) (Eq.trans (hcount.same u .out (by decide)) hout))

/-- A frame ended by a late collision: the counts, a free transmitter, and nothing sent. -/
theorem collided_leaves {p f : Nat} (hf : f < 32) (coll : Nat) (s : State) :
    let t := (Act.txFree p f).run ((Act.ethCount p f 38).run ((Act.countBy (ETH.CNT p f 36) coll).run s))
    t.out = s.out ∧ (t.eth (fk p f)).tx = none ∧ Counted (ETH.CNT p f 38) 1 s t ∧ Counted (ETH.CNT p f 36) coll s t := by
  have hone : Act.ethCount p f 38 = Act.countBy (ETH.CNT p f 38) 1 := rfl
  obtain ⟨hcoll, hlate⟩ := countTwo_counted (p := p) hf (show 36 < 64 by decide) (show 38 < 64 by decide) (by decide) coll 1
    (txFree_keeps p f _) (txFree_keeps p f _) s
  have hout : ((Act.countBy (ETH.CNT p f 38) 1).run ((Act.countBy (ETH.CNT p f 36) coll).run s)).out = s.out :=
    Eq.trans ((touches_Act_countBy fun _ h => h).same _ .out (by decide)) ((touches_Act_countBy fun _ h => h).same s .out (by decide))
  rw [Act.seq_run, Act.seq_run] at hcoll hlate
  rw [hone]
  generalize (Act.countBy (ETH.CNT p f 38) 1).run ((Act.countBy (ETH.CNT p f 36) coll).run s) = u at *
  obtain ⟨hfree, hquiet⟩ := txFree_leaves p f u
  exact ⟨hquiet.trans hout, hfree, hlate, hcoll⟩

section
variable {s : State} {p f : Nat} {fr : Frame} (hp : p < s.x) (hf : f < 32) (hup : s.prismUp = true)
  (htx : (s.eth (fk p f)).tx = some fr)
include hp hf hup htx

theorem txAbort_gives (n : Nat) (underrun : Bool) (hends : fr.abort = true ∨ underrun = true ∨ s.facetDown p f = true) :
    Gives (.txAbort p f n underrun) s fun t => (t.eth (fk p f)).tx = none ∧ Counted (ETH.CNT p f 33) 1 s t ∧
      (underrun = true → Counted (ETH.CNT p f 34) 1 s t) ∧
      (s.macsec p f = false →
        let x := (padTo (max 60 (s.egressBody p f fr).length) (s.egressBody p f fr)).take n
        t.out = .eth p f (x ++ leBytes 4 (crc32 x ^^^ 0xFFFFFFFF)) :: s.out) := by
  have hrun : (txAbort p f n underrun).run s = (Act.macsecTransmit p f false (s.egressBody p f fr) (abortedAs p f n)).run
      ((Act.when (underrun = true) (Act.ethCount p f 34)).run s) := by
    rw [txAbort, Act.get_run, htx, Act.opt_some, Act.when_run, if_pos hends, Act.seq_run]
    rfl
  have hcnt : ((Act.when (underrun = true) (Act.ethCount p f 34)).run s).reg (ETH.CNT p f 33) = s.reg (ETH.CNT p f 33) :=
    (Keeps.when (countBy_keeps (ethCnt_blk hf (by decide)) (ethCnt_ne (by decide)) 1)).same s
  have hport : ((Act.when (underrun = true) (Act.ethCount p f 34)).run s).reg (MSEC.PORT p f) = s.reg (MSEC.PORT p f) :=
    (Keeps.when (countBy_keeps (by rw [MSEC.PORT, aBlk_ra (by decide) (by omega)]; decide)
      (by unfold ETH.CNT MSEC.PORT ra; omega) 1)).same s
  have hout : ((Act.when (underrun = true) (Act.ethCount p f 34)).run s).out = s.out :=
    (Touches.when (touches_Act_count fun _ h => h)).same s .out (by decide)
  have hunder : underrun = true → Counted (ETH.CNT p f 34) 1 s ((Act.when (underrun = true) (Act.ethCount p f 34)).run s) := fun h => by
    rw [Act.when_run, if_pos h]
    exact count_counted (ethCnt_blk hf (by decide)) s
  refine ⟨_, (go_facet hp hf hup).trans (congrArg _ hrun), ?_⟩
  generalize (Act.when (underrun = true) (Act.ethCount p f 34)).run s = v at *
  obtain ⟨o, u, hreg, hlast⟩ := macsecTransmit_endsIn hf false (s.egressBody p f fr) (abortedAs p f n) v
  have hregs : ∀ i, i < 64 → u.reg (ETH.CNT p f i) = v.reg (ETH.CNT p f i) := fun i hi => hreg _ fun h => h i hi rfl
  obtain ⟨k, x, hend⟩ := abortedAs_ends p f n o
  obtain ⟨hfree, hcount, -⟩ := endAborted_leaves hf k x u
  have hkeep := (endAborted_keeps (p := p) hf (show 34 < 64 by decide) (by decide) k x).same u
  refine ⟨?_, ?_, fun h => ?_, fun hplain => ?_⟩
  · rw [hlast, hend]
    exact hfree
  · rw [hlast, hend]
    exact hcount.since ((hregs 33 (by decide)).trans hcnt)
  · rw [hlast, hend]
    exact ((hunder h).until (hregs 34 (by decide))).until hkeep
  · have hvplain : v.macsec p f = false := (macsec_congr hport).trans hplain
    obtain ⟨-, -, hsent⟩ := endAborted_leaves hf n (padTo (max 60 (s.egressBody p f fr).length) (s.egressBody p f fr)) v
    rw [macsecTransmit_plain hvplain, ← hout]
    exact hsent

/-- ETH_TRANSMIT of a frame that is not the reply that resets the package. -/
theorem exec_ethTransmit {coll : Nat} {late fault : Bool} (hreset : s.resetFrame fr = false) :
    exec (.ethTransmit p f coll late fault) s = .next ((ethTransmit p f coll late fault).run s) := by
  have hhit : ((s.eth (fk p f)).tx.any fun fr => s.resetFrame fr) = false := by
    rw [htx, Option.any_some, hreset]
  refine (go_facet hp hf hup).trans (congrArg _ ?_)
  rw [ethSend, Act.get_run, Act.seq_run, Act.get_run, Act.when_run, if_neg (by simp [hhit])]

theorem ethTransmit_sends_gives {coll : Nat} {late fault : Bool} (habort : fr.abort = false) (hfacet : s.facetDown p f = false)
    (hmacsec : s.macsec p f = false) (hfull : f < 24) (hreset : s.resetFrame fr = false) : let body := s.egressBody p f fr
      let x := padTo (max 60 body.length) body
      Gives (.ethTransmit p f coll late fault) s fun t =>
        t.out = .eth p f (x ++ fcsOf x) :: s.out ∧ (t.eth (fk p f)).tx = none ∧ Counted (ETH.CNT p f 26) 1 s t ∧
          Counted (ETH.CNT p f 27) (x.length + 4) s t := by
  intro body x
  have hrun : (ethTransmit p f coll late fault).run s = (Act.txFree p f).run ((Act.txStamp p f x).run
      ((Act.countTx p f (frDa x) (x.length + 4)).run ((Act.emit (.eth p f (x ++ fcsOf x))).run s))) := by
    rw [ethTransmit, Act.get_run, htx, Act.opt_some, if_neg (by simp [habort, hfacet])]
    dsimp only
    have hhalf : (decide (24 ≤ f) && !(s.flag (ETH.PLCA p f) ETH.PLCA.EN && (s.eth (fk p f)).plcaOk)) = false := by
      rw [decide_eq_false (by omega), Bool.false_and]
    rw [hhalf, if_neg (by simp), Act.seq_run, Act.when_run, if_neg (by simp), macsecTransmit_plain hmacsec]
    dsimp only
    rw [Act.all_cons, Act.all_cons, Act.all_cons, Act.all_cons, Act.all_nil]
  refine ⟨_, (exec_ethTransmit hp hf hup htx hreset).trans (congrArg _ hrun), ?_⟩
  clear hrun
  exact sent_leaves hf x s

theorem ethTransmit_late_gives {coll : Nat} {fault : Bool} (habort : fr.abort = false) (hfacet : s.facetDown p f = false)
    (ht1s : 24 ≤ f) (hplca : s.flag (ETH.PLCA p f) ETH.PLCA.EN = false) (hreset : s.resetFrame fr = false) :
    Gives (.ethTransmit p f coll true fault) s fun t => t.out = s.out ∧ (t.eth (fk p f)).tx = none ∧
      Counted (ETH.CNT p f 38) 1 s t ∧ Counted (ETH.CNT p f 36) coll s t := by
  have hrun : (ethTransmit p f coll true fault).run s = (Act.txFree p f).run ((Act.ethCount p f 38).run
      ((Act.countBy (ETH.CNT p f 36) coll).run s)) := by
    rw [ethTransmit, Act.get_run, htx, Act.opt_some, if_neg (by simp [habort, hfacet])]
    dsimp only
    have hhalf : (decide (24 ≤ f) && !(s.flag (ETH.PLCA p f) ETH.PLCA.EN && (s.eth (fk p f)).plcaOk)) = true := by
      rw [decide_eq_true ht1s, hplca]
      rfl
    rw [hhalf, if_pos (by simp), Act.all_cons, Act.all_cons, Act.all_cons, Act.all_nil, if_pos rfl, if_pos rfl]
  refine ⟨_, (exec_ethTransmit hp hf hup htx hreset).trans (congrArg _ hrun), ?_⟩
  clear hrun
  exact collided_leaves hf coll s

end

end Sys2Proof.Machine

namespace Sys2Proof.Proofs

open Sys2Proof.Machine

/-- Settles O36: a received frame runs down to the FEC counts, the one row of R353 that it meets, and the occupancy offered; a PAUSE frame
changes the pauses of each class apart from the others'; a frame sent ends in one line output, its counts and a free transmitter. -/
theorem ethernetFramesPass : Obligations.EthernetFramesPass := by
  unfold Obligations.EthernetFramesPass
  intro s p f b hp hp4 hf hup
  refine ⟨?_, fun c hc => ?_, fun hon hmode => ?_, fun fr htx => ?_⟩
  · intro c maxLen hon hboot
    refine ⟨fun hov errAt fault fixed lost => ?_, fun errAt fault fixed lost i hov hfail => ?_,
      fun fault fixed lost hov hgood hctl => ⟨fun hfilter => ?_, fun hfilter hmacsec hez => ?_⟩, ?_⟩
    · exact ethReceive_overflow_gives hp hf hup hon hov
    · exact ethReceive_fails_gives hp hf hup hon hov hfail
    · exact ethReceive_filtered_gives hp hf hup hon hboot hov hgood hctl hfilter
    · exact ethReceive_passes_gives hp hf hup hon hboot hov hgood hctl hp4 hfilter hmacsec hez
    · intro hov hgood hctl hopc hprio hmode hhonour
      obtain ⟨t, ht, hcount, hbuf, hviews⟩ := pauseReceive_gives hp hf hup hon hboot hov hgood hctl hopc hprio hmode hhonour
      refine ⟨t, ht, hcount, hbuf, fun q hq => ?_⟩
      obtain ⟨hends, hpauses⟩ := hviews q hq
      simp only [State.pauseView] at hends hpauses
      refine ⟨fun hT => ⟨hends hT, fun hoff => ?_⟩, fun hT hoff => ?_⟩
      · rw [← List.head?_filter, hpauses hoff, pausedFor, if_pos hT]
        rfl
      · rw [← List.head?_filter, hpauses hoff, pausedFor, if_neg hT, List.head?_cons, List.head?_filter]
  · exact ⟨pauseExpire_gives hp hf hc hup, fun x hx hlong => pauseLimit_gives hp hf hc hup hx hlong, pauseOverrideEnd_gives hp hf hc hup⟩
  · intro e sends
    exact ⟨fun hxoff hall hsend hfull => xoffCross_gives hp hf hup hon hmode hall hxoff hsend hfull,
      fun hxoff hall hlow => xonCross_gives hp hf hup hon hmode hall hxoff hlow,
      fun hxoff hall => pauseRefresh_gives hp hf hup hon hmode hall hxoff⟩
  · intro body
    exact ⟨fun coll late fault habort hfacet hmacsec hfull hreset =>
        ethTransmit_sends_gives hp hf hup htx habort hfacet hmacsec hfull hreset,
      fun coll fault habort hfacet ht1s hplca hreset => ethTransmit_late_gives hp hf hup htx habort hfacet ht1s hplca hreset,
      fun n underrun hends => txAbort_gives hp hf hup htx n underrun hends⟩

end Sys2Proof.Proofs

/-! Table DMA and gates (R323 to R330): what a write of TDMA.JOB takes, what the rounds of a job that runs alone move and report, what
becomes of a region lock held too long, and how gate lists are scheduled, switched and stepped through. -/

namespace Sys2Proof.Machine

/-! ### A job is accepted (R328, R343) -/

/-- Whether a job is refused is read from its words in the staging buffer or in memory and from the operating banks. -/
theorem tdmaRefused_congr {s u : State} {p : Nat} (hmem : u.mem = s.mem) (hbuf : ∀ i, i < 64 → u.reg (TDMA.BUF p i) = s.reg (TDMA.BUF p i))
    (hgcl : ∀ f, f < 32 → u.reg (PSFP.GCL_STAT p f) = s.reg (PSFP.GCL_STAT p f)) (t op i n : Nat) (mem : Option Nat) :
    u.tdmaRefused p t op i n mem = s.tdmaRefused p t op i n mem := by
  have hbusy : ∀ k, u.gateBusy p k = s.gateBusy p k := fun k => by
    unfold State.gateBusy State.fld
    rw [hgcl _ (by omega)]
  have hmemWord : ∀ a, u.memWord p a = s.memWord p a := fun a => by
    unfold State.memWord State.memRead State.memByte
    rw [hmem]
  have hsrc : ∀ e, e < n → ¬(mem.isNone = true ∧ 64 < n * tblEntryWords t) →
      u.tdmaSrc p t e mem = s.tdmaSrc p t e mem := fun e he hfits => by
    cases mem with
    | some a => simp only [State.tdmaSrc, hmemWord]
    | none =>
      refine List.map_congr_left fun w hw => hbuf _ ?_
      have hw' := List.mem_range.mp hw
      have hle : (e + 1) * tblEntryWords t ≤ n * tblEntryWords t := Nat.mul_le_mul_right _ he
      have hexp : (e + 1) * tblEntryWords t = e * tblEntryWords t + tblEntryWords t := by ring
      have hn : ¬ 64 < n * tblEntryWords t := fun h => hfits ⟨rfl, h⟩
      omega
  unfold State.tdmaRefused
  by_cases hfits : mem.isNone = true ∧ 64 < n * tblEntryWords t
  · simp [hfits]
  · have hany : ((List.range n).any fun e => tblRefused t (u.tdmaSrc p t e mem) || (t == 0x48 && u.gateBusy p (i + e))) =
        (List.range n).any fun e => tblRefused t (s.tdmaSrc p t e mem) || (t == 0x48 && s.gateBusy p (i + e)) := by
      rw [Bool.eq_iff_iff, List.any_eq_true, List.any_eq_true]
      refine exists_congr fun e => and_congr_right fun he => ?_
      rw [hsrc e (List.mem_range.mp he) hfits, hbusy]
    rw [hany]

theorem implements_jobStat {p j : Nat} (hp : p < 4) (hj : j < 4) : implements (TDMA.JOB_STAT p j) TDMA.JOB_STAT.RESULT = true := by
  have h : ∀ p < 4, ∀ j < 4, implements (TDMA.JOB_STAT p j) TDMA.JOB_STAT.RESULT = true := by decide +kernel
  exact h p hp j hj

theorem tjob_setTjob (k : Nat) (v : Option TdmaJob) (s : State) (i : Nat) :
    ((Act.setTjob k v).run s).tjob i = if i = k then v else s.tjob i := by
  simp only [State.tjob, Act_setTjob_sw, Sparse.get_put]

section
variable {u : State} {w : Sender} {ag : Agent} {p j : Nat} {v : Word}

/-- A job that the write takes, in channel j. -/
theorem tdmaJob_takes (hidle : u.fld (TDMA.JOB_STAT p j) TDMA.JOB_STAT.RESULT ≠ 1) (hlo : 0x42 ≤ fget v TDMA.JOB.TABLE)
    (hhi : fget v TDMA.JOB.TABLE ≤ 0x49) (hop : fget v TDMA.JOB.OP ≤ 5) (hop0 : fget v TDMA.JOB.OP ≠ 0)
    (hhost : fget v TDMA.JOB.MEM = 1 → ag.isHost = false) (k : Code → Act) : (tdmaJob ag p j v k).run u =
      (k .ok).run ((Act.tdmaStart p j ag.partOr (fget v TDMA.JOB.TABLE) (fget v TDMA.JOB.OP) (fget v TDMA.JOB.INDEX)
        (fget v TDMA.JOB.COUNT + 1)
        (if fget v TDMA.JOB.MEM = 1 then some (u.fld (TDMA.JOB_MEM p j) TDMA.JOB_MEM.ADDR) else none)).run
          ((Act.setReg (TDMA.JOB_STAT p j) (word [(TDMA.JOB_STAT.RESULT, 1)])).run ((Act.store (TDMA.JOB p j) v).run u))) := by
  have hdenied : ¬(fget v TDMA.JOB.MEM = 1 ∧ ag.isHost = true) := fun h => by
    rw [hhost h.1] at h
    exact absurd h.2 (by decide)
  rw [tdmaJob, Act.get_run, if_neg (by omega), if_neg hdenied, if_neg hop0]
  simp only [Act.all_cons, Act.all_nil]

/-- What an accepted job leaves. -/
theorem tdmaStart_leaves (hp : p < 4) (hj : j < 4) (t op i n : Nat) (mem : Option Nat) :
    let q := (Act.tdmaStart p j ag.partOr t op i n mem).run
      ((Act.setReg (TDMA.JOB_STAT p j) (word [(TDMA.JOB_STAT.RESULT, 1)])).run ((Act.store (TDMA.JOB p j) v).run u))
    q.tjob (4 * p + j) = some (if u.tdmaRefused p t op i n mem = true then { result := 4 }
      else { op := op, table := t, first := i, left := n, mem := mem, part := ag.partOr }) ∧
    q.fld (TDMA.JOB_STAT p j) TDMA.JOB_STAT.RESULT = 1 ∧ q.tbls = u.tbls ∧ q.mem = u.mem ∧ q.out = u.out := by
  have hstore := touches_store (TDMA.JOB p j) v
  have hstored : ∀ a, a ≠ TDMA.JOB p j → ((Act.store (TDMA.JOB p j) v).run u).reg a = u.reg a := fun a ha => store_other ha v u
  have htbls := hstore.same u .tbls (by decide)
  have hmem := hstore.same u .mem (by decide)
  have hout := hstore.same u .out (by decide)
  intro q
  have hq : q = (Act.tdmaStart p j ag.partOr t op i n mem).run
    ((Act.setReg (TDMA.JOB_STAT p j) (word [(TDMA.JOB_STAT.RESULT, 1)])).run ((Act.store (TDMA.JOB p j) v).run u)) := rfl
  clear_value q
  generalize (Act.store (TDMA.JOB p j) v).run u = a at *
  have hstat := fld_setReg (implements_jobStat hp hj) (word [(TDMA.JOB_STAT.RESULT, 1)]) a
  have hother : ∀ b, b ≠ TDMA.JOB_STAT p j →
      ((Act.setReg (TDMA.JOB_STAT p j) (word [(TDMA.JOB_STAT.RESULT, 1)])).run a).reg b = a.reg b := fun b hb => by
    rw [Act.setReg_run, State.reg_storeReg, if_neg hb]
  have hmem' : ((Act.setReg (TDMA.JOB_STAT p j) (word [(TDMA.JOB_STAT.RESULT, 1)])).run a).mem = a.mem := rfl
  have htbls' : ((Act.setReg (TDMA.JOB_STAT p j) (word [(TDMA.JOB_STAT.RESULT, 1)])).run a).tbls = a.tbls := rfl
  have hout' : ((Act.setReg (TDMA.JOB_STAT p j) (word [(TDMA.JOB_STAT.RESULT, 1)])).run a).out = a.out := rfl
  generalize (Act.setReg (TDMA.JOB_STAT p j) (word [(TDMA.JOB_STAT.RESULT, 1)])).run a = b at *
  have hrefused : b.tdmaRefused p t op i n mem = u.tdmaRefused p t op i n mem :=
    tdmaRefused_congr (hmem'.trans hmem)
      (fun k hk => (hother _ (by unfold TDMA.BUF TDMA.JOB_STAT ra; omega)).trans (hstored _ (by unfold TDMA.BUF TDMA.JOB ra; omega)))
      (fun f hf => (hother _ (by unfold PSFP.GCL_STAT TDMA.JOB_STAT ra; omega)).trans
        (hstored _ (by unfold PSFP.GCL_STAT TDMA.JOB ra; omega))) ..
  rw [hq, Act.tdmaStart, Act.get_run, tjob_setTjob, if_pos rfl, hrefused]
  exact ⟨rfl, hstat.trans (by decide), htbls'.trans htbls, hmem'.trans hmem, hout'.trans hout⟩

/-- The channel of a well-formed command of TDMA.JOB. -/
theorem channel_of_wellFormed {a b c d : Bool} (h : (a && b && c && decide (j < 4) && d) = true) : j < 4 := by
  simp only [Bool.and_eq_true, decide_eq_true_eq] at h
  obtain ⟨⟨-, hj⟩, -⟩ := h
  exact hj

/-- What a write of a job that is taken gives: its command is one of five, which differ in OP. -/
theorem tdmaJob_gives {c : Instr} {s : State} {x : Word} {op : Nat}
    (hrun : exec c s = .next ((tdmaJob ag p j (fset x TDMA.JOB.OP op) (Act.ends w ag (TDMA.JOB p j))).run u)) (hp : p < 4) (hj : j < 4)
    (hop : 1 ≤ op ∧ op ≤ 5) (hidle : u.fld (TDMA.JOB_STAT p j) TDMA.JOB_STAT.RESULT ≠ 1) (hlo : 0x42 ≤ fget x TDMA.JOB.TABLE)
    (hhi : fget x TDMA.JOB.TABLE ≤ 0x49) (hhost : fget x TDMA.JOB.MEM = 1 → ag.isHost = false) :
    let mem := if fget x TDMA.JOB.MEM = 1 then some (u.fld (TDMA.JOB_MEM p j) TDMA.JOB_MEM.ADDR) else none
    Gives c s fun t => t.tjob (4 * p + j) = some (
        if u.tdmaRefused p (fget x TDMA.JOB.TABLE) op (fget x TDMA.JOB.INDEX) (fget x TDMA.JOB.COUNT + 1) mem = true then { result := 4 }
        else { op := op, table := fget x TDMA.JOB.TABLE, first := fget x TDMA.JOB.INDEX, left := fget x TDMA.JOB.COUNT + 1, mem := mem
               part := ag.partOr }) ∧
      t.fld (TDMA.JOB_STAT p j) TDMA.JOB_STAT.RESULT = 1 ∧ t.tbls = u.tbls ∧ t.mem = u.mem ∧ t.out = endOut w .ok u.out := by
  have hsame : ∀ g : Fld, g.lo + g.w ≤ 48 → (TDMA.JOB.OP.lo + TDMA.JOB.OP.w ≤ g.lo ∨ g.lo + g.w ≤ TDMA.JOB.OP.lo) →
      fget (fset x TDMA.JOB.OP op) g = fget x g := fun g hg h => fget_fset_other _ _ _ _ hg h
  have htable := hsame TDMA.JOB.TABLE (by decide) (by decide)
  have hmem := hsame TDMA.JOB.MEM (by decide) (by decide)
  have hindex := hsame TDMA.JOB.INDEX (by decide) (by decide)
  have hcount := hsame TDMA.JOB.COUNT (by decide) (by decide)
  have hopv : fget (fset x TDMA.JOB.OP op) TDMA.JOB.OP = op := by
    rw [fget_fset _ _ _ (by decide)]
    exact Nat.mod_eq_of_lt (by have : TDMA.JOB.OP.w = 3 := rfl; rw [this]; omega)
  rw [tdmaJob_takes hidle (by omega) (by omega) (by omega) (by omega) (by rwa [hmem]), htable, hmem, hindex, hcount, hopv] at hrun
  intro mem
  obtain ⟨hjob, hstat, htbls, hmems, hout⟩ := tdmaStart_leaves (u := u) (ag := ag) (v := fset x TDMA.JOB.OP op) hp hj
    (fget x TDMA.JOB.TABLE) op (fget x TDMA.JOB.INDEX) (fget x TDMA.JOB.COUNT + 1) mem
  rw [Act.ends_ok] at hrun
  exact ⟨_, hrun, hjob, hstat, htbls, hmems, congrArg (endOut w .ok) hout⟩

end

/-! ### A job that runs alone (R327) -/

/-- No channel of die p but j has a job. -/
def State.aloneIn (s : State) (p j : Nat) : Prop := ∀ i, i < 4 → i ≠ j → s.tjob (4 * p + i) = none

/-- Actions that do nothing in a state do nothing in turn. -/
theorem Act.each_idle {α : Type} {g : α → Act} {l : List α} {s : State} (h : ∀ y ∈ l, (g y).run s = s) : (Act.each l g).run s = s := by
  induction l with
  | nil => rfl
  | cons y l ih => rw [Act.each_cons, h y (.head _), ih fun z hz => h z (.tail _ hz)]

theorem Act.each_append {α : Type} (g : α → Act) (l m : List α) (s : State) :
    (Act.each (l ++ m) g).run s = (Act.each m g).run ((Act.each l g).run s) := by
  induction l generalizing s with
  | nil => rfl
  | cons y l ih => rw [List.cons_append, Act.each_cons, ih, Act.each_cons]

/-- Where the other elements of a list do nothing, before it and after it, the list does what one element does. -/
theorem Act.each_alone {α : Type} {g : α → Act} {l : List α} {x : α} (hn : l.Nodup) (hx : x ∈ l) {s : State}
    (hbefore : ∀ y ∈ l, y ≠ x → (g y).run s = s) (hafter : ∀ y ∈ l, y ≠ x → (g y).run ((g x).run s) = (g x).run s) :
    (Act.each l g).run s = (g x).run s := by
  obtain ⟨l₁, l₂, rfl⟩ := List.append_of_mem hx
  obtain ⟨-, h₂, hd⟩ := List.nodup_append.mp hn
  have hx₂ : x ∉ l₂ := (List.nodup_cons.mp h₂).1
  rw [Act.each_append, Act.each_cons, Act.each_idle fun y hy => hbefore y (by simp [hy]) fun h => hd y hy x (.head _) h]
  exact Act.each_idle fun y hy => hafter y (by simp [hy]) fun h => hx₂ (h ▸ hy)

/-- A step of a channel without a job does nothing. -/
theorem tdmaStep_idle {s : State} {p j : Nat} (h : s.tjob (4 * p + j) = none) : (Act.tdmaStep p j).run s = s := by
  rw [Act.tdmaStep, Act.get_run, h]
  rfl

/-- A step of a job that has nothing left to move does nothing. -/
theorem tdmaStep_done {s : State} {p j : Nat} {u : TdmaJob} (h : s.tjob (4 * p + j) = some u) (hleft : u.left = 0) :
    (Act.tdmaStep p j).run s = s := by
  rw [Act.tdmaStep, Act.get_run, h, Act.opt_some]
  dsimp only
  rw [if_pos hleft]
  rfl

section
variable {s : State} {p j : Nat} (hj : j < 4)
include hj

/-- A round of a job that runs alone is its own step. -/
theorem tdmaRounds_succ (halone : s.aloneIn p j) (hkeep : ((Act.tdmaStep p j).run s).aloneIn p j) (n : Nat) :
    (Act.tdmaRounds p (n + 1)).run s = (Act.tdmaRounds p n).run ((Act.tdmaStep p j).run s) := by
  have hround : (Act.each (List.range 4) (Act.tdmaStep p)).run s = (Act.tdmaStep p j).run s :=
    Act.each_alone List.nodup_range (List.mem_range.mpr hj) (fun i hi hij => tdmaStep_idle (halone i (List.mem_range.mp hi) hij))
      fun i hi hij => tdmaStep_idle (hkeep i (List.mem_range.mp hi) hij)
  rw [Act.tdmaRounds, Act.seq_run, hround]

/-- A job that has nothing left to move rests. -/
theorem tdmaRounds_done (halone : s.aloneIn p j) {u : TdmaJob} (h : s.tjob (4 * p + j) = some u) (hleft : u.left = 0) (n : Nat) :
    (Act.tdmaRounds p n).run s = s := by
  have hstep := tdmaStep_done h hleft
  induction n with
  | zero => rfl
  | succ n ih => rw [tdmaRounds_succ hj halone (by rwa [hstep]), hstep, ih]

/-- What each of the first m steps takes further, m of the rounds take from 0 to m. -/
theorem tdmaRounds_moves {I : Nat → State → Prop} {m : Nat} (halone : ∀ c t, I c t → t.aloneIn p j)
    (hstep : ∀ c t, c < m → I c t → I (c + 1) ((Act.tdmaStep p j).run t)) (h : I 0 s) {n : Nat} (hn : m ≤ n) :
    ∃ t, I m t ∧ (Act.tdmaRounds p n).run s = (Act.tdmaRounds p (n - m)).run t := by
  have hmoves : ∀ c, c ≤ m → ∃ t, I c t ∧ (Act.tdmaRounds p n).run s = (Act.tdmaRounds p (n - c)).run t := by
    intro c
    induction c with
    | zero => exact fun _ => ⟨s, h, rfl⟩
    | succ c ih =>
      intro hc
      obtain ⟨t, ht, hrun⟩ := ih (by omega)
      have hnext := hstep c t (by omega) ht
      rw [show n - c = n - (c + 1) + 1 by omega, tdmaRounds_succ hj (halone c t ht) (halone _ _ hnext)] at hrun
      exact ⟨_, hnext, hrun⟩
  exact hmoves m le_rfl

end

/-! ### TDMA_JOB_DONE (R328, R343) -/

/-- The end of a job of channel j with a result, the entries moved and an index. -/
structure TdmaEnds (p j result moved index : Nat) (t : State) : Prop where
  job : t.tjob (4 * p + j) = none
  stat : t.reg (TDMA.JOB_STAT p j) =
    word [(TDMA.JOB_STAT.RESULT, result), (TDMA.JOB_STAT.DONE_COUNT, moved - 1), (TDMA.JOB_STAT.INDEX, index)] &&&
      regMask (TDMA.JOB_STAT p j)
  done : bit (t.reg (TDMA.EVT p)) 0 = true
  error : 4 ≤ result → result ≤ 6 → bit (t.reg (TDMA.EVT p)) 1 = true

/-- Both events of a job are implemented. -/
theorem bit_tdmaEvt {p : Nat} (hp : p < 4) : bit (regMask (TDMA.EVT p)) 0 = true ∧ bit (regMask (TDMA.EVT p)) 1 = true ∧
    bit (regMask (TDMA.EVT p)) 2 = true := by
  have h : ∀ p < 4, bit (regMask (TDMA.EVT p)) 0 = true ∧ bit (regMask (TDMA.EVT p)) 1 = true ∧
    bit (regMask (TDMA.EVT p)) 2 = true := by decide +kernel
  exact h p hp

/-- An event leaves the other bits below SEQ as they were. -/
theorem event_keeps_bit {a i k : Nat} (hk : k < 16) (hm : bit (regMask a) k = true) {s : State} (h : bit (s.reg a) k = true) :
    bit (((Act.event a i).run s).reg a) k = true := by
  have hword : ((Act.event a i).run s).reg a = eventWord s a i &&& regMask a := (event_logged a i s).1
  rw [hword, bit_and, hm, Bool.and_true, eventWord, bit_fset _ _ _ _ (by omega), if_neg (by simp [scSeq]; omega), bit_setBit, h,
    Bool.true_or]

section
variable {s : State} {p j : Nat}

/-- The report of a job, and its events. -/
def Act.tdmaReport (p j : Nat) (u : TdmaJob) : Act :=
  Act.all [
    Act.setReg (TDMA.JOB_STAT p j)
      (word [(TDMA.JOB_STAT.RESULT, u.result), (TDMA.JOB_STAT.DONE_COUNT, u.moved - 1), (TDMA.JOB_STAT.INDEX, u.index)]),
    Act.setTjob (4 * p + j) none,
    Act.event (TDMA.EVT p) 0,
    Act.when (u.result = 4 ∨ u.result = 5 ∨ u.result = 6) (Act.event (TDMA.EVT p) 1)]

theorem touches_tdmaReport (u : TdmaJob) : Touches (Act.tdmaReport p j u) [.regs, .evtNo, .upsets, .sw] :=
  .all_cons (.setReg _ (by decide)) <| .all_cons (touches_Act_setTjob (by decide)) <| .all_cons (touches_Act_event (by decide)) <|
    .all_cons (.when (touches_Act_event (by decide))) .all_nil

theorem onlyRegs_tdmaReport (u : TdmaJob) (s : State) : OnlyRegs [TDMA.JOB_STAT p j, TDMA.EVT p] s ((Act.tdmaReport p j u).run s) :=
  Writes.onlyRegs (.all_cons (.setReg (by simp)) <| .all_cons writes_Act_setTjob <| .all_cons (writes_Act_event (by simp)) <|
    .all_cons (.when (writes_Act_event (by simp))) .all_nil) s

/-- The events of a report leave the rest of it. -/
theorem tdmaEvents_leave (hp : p < 4) (r : Nat) (s : State) :
    let t := (Act.when (r = 4 ∨ r = 5 ∨ r = 6) (Act.event (TDMA.EVT p) 1)).run ((Act.event (TDMA.EVT p) 0).run s)
    t.sw = s.sw ∧ t.reg (TDMA.JOB_STAT p j) = s.reg (TDMA.JOB_STAT p j) ∧ bit (t.reg (TDMA.EVT p)) 0 = true ∧
      (4 ≤ r → r ≤ 6 → bit (t.reg (TDMA.EVT p)) 1 = true) := by
  have hne : TDMA.JOB_STAT p j ≠ TDMA.EVT p := by
    unfold TDMA.JOB_STAT TDMA.EVT ra
    omega
  obtain ⟨hm0, hm1, -⟩ := bit_tdmaEvt hp
  have hstat : ∀ i t, ((Act.event (TDMA.EVT p) i).run t).reg (TDMA.JOB_STAT p j) = t.reg (TDMA.JOB_STAT p j) := fun i =>
    (writes_Act_event (P := fun a => a ≠ TDMA.JOB_STAT p j) hne.symm).keeps.same
  have hsw : ∀ i t, ((Act.event (TDMA.EVT p) i).run t).sw = t.sw := fun i t => Act_event_sw ..
  have hdone := (event_logged (TDMA.EVT p) 0 s).bit_set (by decide) hm0
  rw [Act.when_run]
  split
  · exact ⟨(hsw 1 _).trans (hsw 0 s), (hstat 1 _).trans (hstat 0 s), event_keeps_bit (by decide) hm0 hdone, fun _ _ =>
      (event_logged (TDMA.EVT p) 1 _).bit_set (by decide) hm1⟩
  · exact ⟨hsw 0 s, hstat 0 s, hdone, fun h h' => by omega⟩

theorem tdmaReport_ends (hp : p < 4) (u : TdmaJob) (s : State) :
    TdmaEnds p j u.result u.moved u.index ((Act.tdmaReport p j u).run s) := by
  have hset : ∀ v, ((Act.setTjob (4 * p + j) none).run ((Act.setReg (TDMA.JOB_STAT p j) v).run s)).tjob (4 * p + j) = none ∧
      ((Act.setTjob (4 * p + j) none).run ((Act.setReg (TDMA.JOB_STAT p j) v).run s)).reg (TDMA.JOB_STAT p j) =
        v &&& regMask (TDMA.JOB_STAT p j) := fun v =>
    ⟨(tjob_setTjob ..).trans (if_pos rfl), (State.reg_storeReg ..).trans (if_pos rfl)⟩
  obtain ⟨hjob, hstat⟩ := hset (word [(TDMA.JOB_STAT.RESULT, u.result), (TDMA.JOB_STAT.DONE_COUNT, u.moved - 1),
    (TDMA.JOB_STAT.INDEX, u.index)])
  rw [Act.tdmaReport, Act.all_cons, Act.all_cons, Act.all_cons, Act.all_cons, Act.all_nil]
  revert hjob hstat
  generalize (Act.setTjob (4 * p + j) none).run ((Act.setReg (TDMA.JOB_STAT p j) (word [(TDMA.JOB_STAT.RESULT, u.result),
    (TDMA.JOB_STAT.DONE_COUNT, u.moved - 1), (TDMA.JOB_STAT.INDEX, u.index)])).run s) = a
  intro hjob hstat
  obtain ⟨hsw, hkept, hdone, herror⟩ := tdmaEvents_leave (j := j) hp u.result a
  exact ⟨(congrArg (fun w : Switch => Sparse.get tjobBlank w.tdma (4 * p + j)) hsw).trans hjob, hkept.trans hstat, hdone, herror⟩

/-- What the end of a job leaves, where its rounds lead to a state with a job to report. -/
theorem tdmaJobDone_gives (hp : p < s.x) (hp4 : p < 4) (hj : j < 4) (hup : s.prismUp = true) (hon : s.enabled p 0x13 = true)
    {y u : TdmaJob} (hy : s.tjob (4 * p + j) = some y) {t : State} (hrun : (Act.tdmaRounds p y.left).run s = t)
    (hu : t.tjob (4 * p + j) = some u) {P : State → Prop}
    (hP : ∀ v, v.tbls = t.tbls → v.mem = t.mem → OnlyRegs [TDMA.JOB_STAT p j, TDMA.EVT p] t v → P v) :
    Gives (.tdmaJobDone p j) s fun v => TdmaEnds p j u.result u.moved u.index v ∧ P v := by
  have hdone : (tdmaJobDone p j).run s = (Act.tdmaReport p j u).run t := by
    rw [tdmaJobDone, Act.get_run, Act.when_run, if_pos hon, hy, Act.opt_some, Act.seq_run, hrun, Act.get_run, hu, Act.opt_some]
    rfl
  have hexec : exec (.tdmaJobDone p j) s = .next ((tdmaJobDone p j).run s) := by
    show Act.go (Act.when (p < s.x ∧ j < 4 ∧ s.prismUp = true) (tdmaJobDone p j)) s = _
    rw [Act.go_eq, Act.when_run, if_pos ⟨hp, hj, hup⟩]
  exact ⟨_, hexec.trans (congrArg _ hdone), tdmaReport_ends hp4 u t, hP _ ((touches_tdmaReport u).same t .tbls (by decide))
    ((touches_tdmaReport u).same t .mem (by decide)) (onlyRegs_tdmaReport u t)⟩

end

/-! ### Words in firmware memory (R16) -/

theorem leNat_leBytes (k n : Nat) : leNat (leBytes k n) = n % 256 ^ k := by
  induction k generalizing n with
  | zero => simp [leBytes, leNat, Nat.mod_one]
  | succ k ih =>
    rw [leBytes, leNat, ih, BitVec.toNat_ofNat, pow_succ' 256 k]
    exact Nat.mod_mul.symm

theorem length_leBytes (k n : Nat) : (leBytes k n).length = k := by
  induction k generalizing n with
  | zero => rfl
  | succ k ih => rw [leBytes, List.length_cons, ih]

theorem memByte_setMem (p a : Nat) (v : Byte) (s : State) (b : Nat) :
    ((Act.setMem (memKey p a) v).run s).memByte p b = if b = a then v else s.memByte p b := by
  simp only [State.memByte, Act_setMem_mem, Sparse.get_put]
  exact if_congr (by unfold memKey; omega) rfl rfl

/-- A byte that was written. -/
theorem memByte_memWrite {l : List Byte} {i : Nat} (hi : i < l.length) (p a : Nat) (s : State) :
    ((Act.memWrite p a l).run s).memByte p (a + i) = l.getD i 0 := by
  refine Act.each_establishes (Q := fun u => u.memByte p (a + i) = l.getD i 0) (g := fun x => Act.setMem (memKey p (a + x)) (l.getD x 0))
    (List.mem_range.mpr hi) (fun u => by rw [memByte_setMem, if_pos rfl]) (fun x u hu => ?_) s
  rw [memByte_setMem]
  split
  · next h => rw [show x = i by omega]
  · exact hu

/-- A byte outside what was written. -/
theorem memByte_memWrite_other {l : List Byte} {p a b : Nat} (h : b < a ∨ a + l.length ≤ b) :
    Keeps (fun s => s.memByte p b) (Act.memWrite p a l) := by
  refine Keeps.each (g := fun x => Act.setMem (memKey p (a + x)) (l.getD x 0)) fun x hx => ⟨fun s => ?_⟩
  have hx' := List.mem_range.mp hx
  exact (memByte_setMem ..).trans (if_neg (by omega))

theorem memWord_memSetWord (p a : Nat) (v : Word) (s : State) : ((Act.memSetWord p a v).run s).memWord p a = v.toNat := by
  have hread : ((Act.memSetWord p a v).run s).memRead p a 8 = leBytes 8 v.toNat := by
    refine List.ext_getElem (by simp [State.memRead, length_leBytes]) fun i hi hi' => ?_
    simp only [State.memRead, List.getElem_map, List.getElem_range]
    rw [Act.memSetWord, memByte_memWrite hi', List.getD_eq_getElem _ _ hi']
  rw [State.memWord, hread, leNat_leBytes]
  exact Nat.mod_eq_of_lt (v.isLt.trans (by decide))

/-- Another location, eight bytes or more away. -/
theorem memSetWord_other {p a b : Nat} (h : b + 8 ≤ a ∨ a + 8 ≤ b) (v : Word) : Keeps (fun s => s.memWord p b) (Act.memSetWord p a v) := by
  refine ⟨fun s => congrArg leNat (List.map_congr_left fun i hi => ?_)⟩
  have hi' := List.mem_range.mp hi
  exact (memByte_memWrite_other (by rw [length_leBytes]; omega)).same s

/-! ### The cells of a job: the staging buffer, or 64-bit locations (R327) -/

/-- Cell i of a job's buffer or memory. -/
def State.tdmaCell (s : State) (p : Nat) (mem : Option Nat) (i : Nat) : Nat :=
  match mem with
  | none => (s.reg (TDMA.BUF p i)).toNat
  | some a => s.memWord p (a + 8 * i)

/-- What cell i holds once a word is stored in it. -/
def tdmaHeld (p : Nat) (mem : Option Nat) (i : Nat) (v : Word) : Nat :=
  match mem with
  | none => (v &&& regMask (TDMA.BUF p i)).toNat
  | some _ => v.toNat

/-- Store a word in cell i. -/
def Act.tdmaStore (p : Nat) (mem : Option Nat) (i : Nat) (v : Word) : Act :=
  match mem with
  | none => Act.setReg (TDMA.BUF p i) v
  | some a => Act.memSetWord p (a + 8 * i) v

theorem tdmaDst_eq (p t e : Nat) (l : List Word) (mem : Option Nat) : Act.tdmaDst p t e l mem =
    Act.each (List.range (tblEntryWords t)) fun w => Act.tdmaStore p mem (e * tblEntryWords t + w) (l.getD w 0) := by
  cases mem <;> rfl

theorem tdmaStore_same (p : Nat) (mem : Option Nat) (i : Nat) (v : Word) (s : State) :
    ((Act.tdmaStore p mem i v).run s).tdmaCell p mem i = tdmaHeld p mem i v := by
  cases mem with
  | none => exact congrArg BitVec.toNat ((State.reg_storeReg ..).trans (if_pos rfl))
  | some a => exact memWord_memSetWord ..

theorem tdmaStore_other {p i k : Nat} (h : k ≠ i) (mem : Option Nat) (v : Word) :
    Keeps (fun s => s.tdmaCell p mem k) (Act.tdmaStore p mem i v) := by
  cases mem with
  | none =>
    refine ⟨fun s => congrArg BitVec.toNat ((State.reg_storeReg ..).trans (if_neg ?_))⟩
    unfold TDMA.BUF ra
    omega
  | some a => exact memSetWord_other (by omega) v

/-- A stored entry stands in its cells. -/
theorem tdmaDst_same {t w : Nat} (hw : w < tblEntryWords t) (p e : Nat) (l : List Word) (mem : Option Nat) (s : State) :
    ((Act.tdmaDst p t e l mem).run s).tdmaCell p mem (e * tblEntryWords t + w) =
      tdmaHeld p mem (e * tblEntryWords t + w) (l.getD w 0) := by
  rw [tdmaDst_eq]
  refine Act.each_establishes (Q := fun u => u.tdmaCell p mem (e * tblEntryWords t + w) =
      tdmaHeld p mem (e * tblEntryWords t + w) (l.getD w 0)) (List.mem_range.mpr hw) (fun u => tdmaStore_same ..) (fun x u hu => ?_) s
  by_cases hx : x = w
  · subst hx
    exact tdmaStore_same ..
  · exact ((tdmaStore_other (by omega) mem _).same u).trans hu

/-- The cells of the entries before it stay. -/
theorem tdmaDst_before {p t e i : Nat} (hi : i < e * tblEntryWords t) (l : List Word) (mem : Option Nat) :
    Keeps (fun s => s.tdmaCell p mem i) (Act.tdmaDst p t e l mem) := by
  rw [tdmaDst_eq]
  exact .each fun w _ => tdmaStore_other (by omega) mem _

/-- What neither a cell nor a job's record enters, storing an entry leaves. -/
theorem tdmaDst_keeps {β : Type} {F : State → β} {p t e : Nat} {l : List Word} {mem : Option Nat}
    (h : ∀ i v, Keeps F (Act.tdmaStore p mem i v)) : Keeps F (Act.tdmaDst p t e l mem) := by
  rw [tdmaDst_eq]
  exact .each fun w _ => h _ _

/-! ### READ and WRITE, entry by entry (R327, R328) -/

/-- A job that has moved c entries. -/
def TdmaJob.after (y : TdmaJob) (c : Nat) : TdmaJob := { y with left := y.left - c, moved := c }

section
variable {s : State} {p j c : Nat} {y : TdmaJob} (hjob : s.tjob (4 * p + j) = some (y.after c)) (hleft : c < y.left)
include hjob hleft

/-- A READ moves an entry. -/
theorem tdmaStep_reads (hop : y.op = 1) (hreach : s.tdmaReach p c y = true) : (Act.tdmaStep p j).run s =
    (Act.setTjob (4 * p + j) (some (y.after (c + 1)))).run
      ((Act.tdmaDst p y.table c (s.tblRead p y.table (y.first + c)) y.mem).run s) := by
  have hsome : ¬(y.after c).left = 0 := by
    show ¬ y.left - c = 0
    omega
  have hop' : (y.after c).op = 1 := hop
  have hreach' : ¬ s.tdmaReach p (y.after c).moved (y.after c) = false := by
    show ¬ s.tdmaReach p c y = false
    simp [hreach]
  rw [Act.tdmaStep, Act.get_run, hjob, Act.opt_some]
  dsimp only
  rw [if_neg hsome, if_neg (by omega), if_neg hreach', if_pos hop', Act.seq_run]
  rfl

/-- A WRITE moves an entry. -/
theorem tdmaStep_writes (hop : y.op = 2) (hreach : s.tdmaReach p c y = true) : (Act.tdmaStep p j).run s =
    (Act.setTjob (4 * p + j) (some (y.after (c + 1)))).run
      ((Act.tblPut p y.table (y.first + c) (s.tdmaSrc p y.table c y.mem)).run s) := by
  have hsome : ¬(y.after c).left = 0 := by
    show ¬ y.left - c = 0
    omega
  have hop' : (y.after c).op = 2 := hop
  have hreach' : ¬ s.tdmaReach p (y.after c).moved (y.after c) = false := by
    show ¬ s.tdmaReach p c y = false
    simp [hreach]
  rw [Act.tdmaStep, Act.get_run, hjob, Act.opt_some]
  dsimp only
  rw [if_neg hsome, if_neg (by omega), if_neg hreach', if_neg (by omega), Act.seq_run]
  rfl

/-- Either stops at an entry that its memory windows do not cover. -/
theorem tdmaStep_stops (hop : y.op ≤ 2) (hreach : s.tdmaReach p c y = false) : (Act.tdmaStep p j).run s =
    (Act.setTjob (4 * p + j) (some { y.after c with left := 0, result := 5 })).run s := by
  have hsome : ¬(y.after c).left = 0 := by
    show ¬ y.left - c = 0
    omega
  have hop' : ¬ 2 < (y.after c).op := by
    show ¬ 2 < y.op
    omega
  have hreach' : s.tdmaReach p (y.after c).moved (y.after c) = false := hreach
  rw [Act.tdmaStep, Act.get_run, hjob, Act.opt_some]
  dsimp only
  rw [if_neg hsome, if_neg hop', if_pos hreach']

end

/-- The job of channel j, alone, has moved c entries, and its memory windows are as they were. -/
structure MovedTo (s : State) (p j : Nat) (y : TdmaJob) (c : Nat) (t : State) : Prop where
  job : t.tjob (4 * p + j) = some (y.after c)
  alone : t.aloneIn p j
  reach : ∀ e, t.tdmaReach p e y = s.tdmaReach p e y

/-- A state whose other channels rest while this one's job is set. -/
theorem aloneIn_setTjob {s t : State} {p j : Nat} (h : s.aloneIn p j) (htdma : t.sw.tdma = s.sw.tdma) (v : Option TdmaJob) :
    ((Act.setTjob (4 * p + j) v).run t).aloneIn p j := fun i hi hij => by
  rw [tjob_setTjob, if_neg (by omega)]
  exact (congrArg (Sparse.get tjobBlank · (4 * p + i)) htdma).trans (h i hi hij)

/-- The memory windows are registers of CPU. -/
theorem tdmaReach_congr {s t : State} {p : Nat} (h : ∀ i, t.reg (CPU.MWIN p i) = s.reg (CPU.MWIN p i)) (e : Nat) (y : TdmaJob) :
    t.tdmaReach p e y = s.tdmaReach p e y := by
  unfold State.tdmaReach State.windowOk
  simp only [h]

/-- A job of READ or WRITE ends where all has moved, or where the entry after m is out of reach. -/
theorem tdmaRounds_end {s : State} {p j m : Nat} {y : TdmaJob} (hj : j < 4) (hop : y.op ≤ 2) (hres : y.result = 2) (hidx : y.index = 0)
    (hm : m ≤ y.left) (hend : m = y.left ∨ s.tdmaReach p m y = false) {t : State} (ht : MovedTo s p j y m t) :
    ∃ u, ((Act.tdmaRounds p (y.left - m)).run t).tjob (4 * p + j) = some u ∧ u.result = (if m = y.left then 2 else 5) ∧ u.moved = m ∧
      u.index = 0 ∧ ((Act.tdmaRounds p (y.left - m)).run t).tbls = t.tbls ∧ ((Act.tdmaRounds p (y.left - m)).run t).mem = t.mem ∧
      ((Act.tdmaRounds p (y.left - m)).run t).regs = t.regs := by
  by_cases hall : m = y.left
  · rw [show y.left - m = 0 by omega, if_pos hall]
    exact ⟨_, ht.job, hres, rfl, hidx, rfl, rfl, rfl⟩
  · have hstop := tdmaStep_stops ht.job (by omega) hop ((ht.reach m).trans (hend.resolve_left hall))
    have halone := aloneIn_setTjob ht.alone (t := t) rfl (some { y.after m with left := 0, result := 5 })
    have hjob := (tjob_setTjob (4 * p + j) (some { y.after m with left := 0, result := 5 }) t (4 * p + j)).trans (if_pos rfl)
    obtain ⟨n, hn⟩ : ∃ n, y.left - m = n + 1 := ⟨y.left - m - 1, by omega⟩
    rw [hn, tdmaRounds_succ hj ht.alone (by rw [hstop]; exact halone), hstop, tdmaRounds_done hj halone hjob rfl, if_neg hall]
    exact ⟨_, hjob, rfl, rfl, hidx, rfl, rfl, rfl⟩

/-! ### READ -/

/-- The words of an entry as they are read depend on the tables and the switch alone. -/
theorem tblRead_congr {s t : State} (htbls : t.tbls = s.tbls) (hsw : t.sw = s.sw) (p q i : Nat) : t.tblRead p q i = s.tblRead p q i := by
  have htbl : t.tbl = s.tbl := by
    funext d q i w
    rw [State.tbl, State.tbl, htbls]
  have hmeter : t.meterNow p i = s.meterNow p i := by
    unfold State.meterNow State.mtrC State.mtrE State.time
    rw [htbl, hsw]
  unfold State.tblRead State.tblWords
  rw [htbl, hmeter]

theorem touches_tdmaStore (p : Nat) (mem : Option Nat) (i : Nat) (v : Word) :
    Touches (Act.tdmaStore p mem i v) [.regs, .upsets, .mem] := by
  cases mem with
  | none => exact .setReg _ (by decide)
  | some a => exact touches_Act_memSetWord (by decide)

theorem touches_tdmaDst (p t e : Nat) (l : List Word) (mem : Option Nat) : Touches (Act.tdmaDst p t e l mem) [.regs, .upsets, .mem] := by
  rw [tdmaDst_eq]
  exact .each fun _ => touches_tdmaStore ..

/-- Storing an entry opens and closes no memory window that the job acts through. -/
theorem tdmaDst_keeps_reach {p t e i : Nat} {l : List Word} {y : TdmaJob} :
    Keeps (fun s => s.tdmaReach p i y) (Act.tdmaDst p t e l y.mem) := by
  refine ⟨fun s => ?_⟩
  cases hmem : y.mem with
  | none => simp only [State.tdmaReach, hmem, Option.all_none]
  | some a =>
    have hwrites : Writes (Act.tdmaDst p t e l (some a)) fun _ => False := by
      rw [tdmaDst_eq]
      exact .each fun _ => writes_Act_memSetWord
    exact tdmaReach_congr (fun n => hwrites.same s _ id) i y

theorem movedTo_zero {s : State} {p j : Nat} {y : TdmaJob} (hy : s.tjob (4 * p + j) = some y) (hmoved : y.moved = 0)
    (halone : s.aloneIn p j) : MovedTo s p j y 0 s := by
  refine ⟨?_, halone, fun _ => rfl⟩
  rw [hy, TdmaJob.after, Nat.sub_zero, ← hmoved]

/-- A READ that has moved c entries has stored them. -/
structure ReadTo (s : State) (p j : Nat) (y : TdmaJob) (c : Nat) (t : State) : Prop extends MovedTo s p j y c t where
  tbls : t.tbls = s.tbls
  read : ∀ i, t.tblRead p y.table i = s.tblRead p y.table i
  cells : ∀ e k, e < c → k < tblEntryWords y.table → t.tdmaCell p y.mem (e * tblEntryWords y.table + k) =
    tdmaHeld p y.mem (e * tblEntryWords y.table + k) ((s.tblRead p y.table (y.first + e)).getD k 0)

/-- A step moves one entry more. -/
theorem readTo_step {s t : State} {p j c : Nat} {y : TdmaJob} (hop : y.op = 1) (hleft : c < y.left) (hreach : s.tdmaReach p c y = true)
    (h : ReadTo s p j y c t) : ReadTo s p j y (c + 1) ((Act.tdmaStep p j).run t) := by
  have hstep := tdmaStep_reads h.job hleft hop ((h.reach c).trans hreach)
  rw [h.read] at hstep
  have htouch := touches_tdmaDst p y.table c (s.tblRead p y.table (y.first + c)) y.mem
  have hsw : _ = _ := htouch.same t .sw (by decide)
  have htbls : _ = _ := htouch.same t .tbls (by decide)
  have hreaches := fun i =>
    (tdmaDst_keeps_reach (p := p) (t := y.table) (e := c) (i := i) (l := s.tblRead p y.table (y.first + c)) (y := y)).same t
  have hnew : ∀ k, k < tblEntryWords y.table → _ := fun k hk =>
    tdmaDst_same hk p c (s.tblRead p y.table (y.first + c)) y.mem t
  have hbefore : ∀ i, i < c * tblEntryWords y.table → _ := fun i hi =>
    (tdmaDst_before (p := p) hi (s.tblRead p y.table (y.first + c)) y.mem).same t
  rw [hstep]
  generalize (Act.tdmaDst p y.table c (s.tblRead p y.table (y.first + c)) y.mem).run t = v at *
  refine ⟨⟨(tjob_setTjob ..).trans (if_pos rfl), aloneIn_setTjob h.alone (congrArg Switch.tdma hsw) _, fun e => ?_⟩, ?_, fun i => ?_,
    fun e k he hk => ?_⟩
  · exact (hreaches e).trans (h.reach e)
  · exact Eq.trans htbls h.tbls
  · exact (tblRead_congr htbls hsw p y.table i).trans (h.read i)
  · by_cases hec : e = c
    · subst hec
      exact hnew k hk
    · have hlt : e * tblEntryWords y.table + k < c * tblEntryWords y.table := by
        have : (e + 1) * tblEntryWords y.table ≤ c * tblEntryWords y.table := Nat.mul_le_mul_right _ (by omega)
        have hexp : (e + 1) * tblEntryWords y.table = e * tblEntryWords y.table + tblEntryWords y.table := by ring
        omega
      exact (hbefore _ hlt).trans (h.cells e k (by omega) hk)

theorem readTo_zero {s : State} {p j : Nat} {y : TdmaJob} (hy : s.tjob (4 * p + j) = some y) (hmoved : y.moved = 0)
    (halone : s.aloneIn p j) : ReadTo s p j y 0 s :=
  ⟨movedTo_zero hy hmoved halone, rfl, fun _ => rfl, fun _ _ h => absurd h (Nat.not_lt_zero _)⟩

/-- The registers of the staging buffer are no record of a job's end. -/
theorem buf_notReport (p i j : Nat) (hj : j < 4) : TDMA.BUF p i ∉ [TDMA.JOB_STAT p j, TDMA.EVT p] := by
  have h₁ : TDMA.BUF p i ≠ TDMA.JOB_STAT p j := by
    unfold TDMA.BUF TDMA.JOB_STAT ra
    omega
  have h₂ : TDMA.BUF p i ≠ TDMA.EVT p := by
    unfold TDMA.BUF TDMA.EVT ra
    omega
  simp [h₁, h₂]

/-- What stands in a cell, as the obligation reads it. -/
theorem cell_reads {t : State} {p : Nat} {mem : Option Nat} {i : Nat} {v : Word} (h : t.tdmaCell p mem i = tdmaHeld p mem i v) :
    (mem = none → Holds t (TDMA.BUF p i) v) ∧ (∀ a, mem = some a → t.memWord p (a + 8 * i) = v.toNat) := by
  refine ⟨fun hm => ?_, fun a hm => ?_⟩
  · subst hm
    exact BitVec.eq_of_toNat_eq h
  · subst hm
    exact h

section
variable {s : State} {p j m : Nat} {y : TdmaJob} (hp : p < s.x) (hp4 : p < 4) (hj : j < 4) (hup : s.prismUp = true)
  (hon : s.enabled p 0x13 = true) (hy : s.tjob (4 * p + j) = some y) (halone : s.aloneIn p j) (hmoved : y.moved = 0) (hres : y.result = 2)
  (hidx : y.index = 0) (hm : m ≤ y.left) (hreach : ∀ e, e < m → s.tdmaReach p e y = true) (hend : m = y.left ∨ s.tdmaReach p m y = false)
include hp hp4 hj hup hon hy halone hmoved hres hidx hm hreach hend

theorem tdmaJobDone_read_gives (hop : y.op = 1) : Gives (.tdmaJobDone p j) s fun t =>
    TdmaEnds p j (if m = y.left then 2 else 5) m 0 t ∧ t.tbls = s.tbls ∧
      ∀ e k, e < m → k < tblEntryWords y.table →
        (y.mem = none → Holds t (TDMA.BUF p (e * tblEntryWords y.table + k)) ((s.tblRead p y.table (y.first + e)).getD k 0)) ∧
        (∀ a, y.mem = some a →
          t.memWord p (a + 8 * (e * tblEntryWords y.table + k)) = ((s.tblRead p y.table (y.first + e)).getD k 0).toNat) := by
  obtain ⟨t, ht, hrun⟩ := tdmaRounds_moves (I := ReadTo s p j y) hj (fun c t h => h.alone)
    (fun c t hc h => readTo_step hop (by omega) (hreach c hc) h) (readTo_zero hy hmoved halone) hm
  obtain ⟨u, hu, hresult, hmoves, hindex, htbls, hmem, hregs⟩ := tdmaRounds_end hj (by omega) hres hidx hm hend ht.toMovedTo
  obtain ⟨v, hv, hends, hvt, hvm, hvr⟩ := tdmaJobDone_gives (P := fun v => v.tbls = _ ∧ v.mem = _ ∧ OnlyRegs _ _ v) hp hp4 hj hup hon hy
    hrun hu fun v h₁ h₂ h₃ => ⟨h₁, h₂, h₃⟩
  rw [hresult, hmoves, hindex] at hends
  refine ⟨v, hv, hends, hvt.trans (htbls.trans ht.tbls), fun e k he hk => cell_reads ?_⟩
  rw [← ht.cells e k he hk]
  cases y.mem with
  | none =>
    refine congrArg BitVec.toNat ((hvr _ (buf_notReport p _ j hj)).trans ?_)
    exact congrArg (Sparse.get regReset · _) hregs
  | some a =>
    refine congrArg leNat (List.map_congr_left fun i _ => ?_)
    exact congrArg (Sparse.get memBlank · _) (hvm.trans hmem)

end

/-! ### WRITE -/

section
variable {p t i : Nat} {l : List Word}

theorem setMtrC_tdma (k : Nat) (v : Bucket) : Keeps (fun s => s.sw.tdma) (Act.setMtrC k v) := ⟨fun _ => rfl⟩

theorem setMtrE_tdma (k : Nat) (v : Bucket) : Keeps (fun s => s.sw.tdma) (Act.setMtrE k v) := ⟨fun _ => rfl⟩

/-- Filling a meter enters no job's record. -/
theorem fillMeter_tdma (p i : Nat) : Keeps (fun s => s.sw.tdma) (Act.fillMeter p i) :=
  .get fun _ => .seq (setMtrC_tdma ..) (setMtrE_tdma ..)

/-- An entry written to a table other than the MAC table: its words, and for a meter its levels. -/
theorem tblPut_run (ht : t ≠ 0x43) (s : State) : ∃ A, Touches A [.sw] ∧ Keeps (fun s => s.sw.tdma) A ∧ (Act.tblPut p t i l).run s =
    A.run ((Act.setTblWords p t i ((List.range (tblEntryWords t)).map fun w => l.getD w 0 &&& tblMask t w)).run s) := by
  rw [Act.tblPut, if_neg ht]
  split
  · exact ⟨Act.fillMeter p i, touches_Act_fillMeter (by decide), fillMeter_tdma p i, by rw [Act.seq_run]⟩
  · exact ⟨Act.skip, .skip, .skip, rfl⟩

theorem tblEntryWords_le (t : Nat) : tblEntryWords t ≤ 8 := by
  unfold tblEntryWords
  split <;> decide

/-- What an entry written leaves. -/
theorem tblPut_leaves (ht : t ≠ 0x43) (s : State) : let q := (Act.tblPut p t i l).run s
    (∀ k, k < tblEntryWords t → q.tbl p t i k = l.getD k 0 &&& tblMask t k) ∧
      (∀ e k, e ≠ i → k < tblEntryWords t → q.tbl p t e k = s.tbl p t e k) ∧
      q.regs = s.regs ∧ q.mem = s.mem ∧ q.sw.tdma = s.sw.tdma := by
  obtain ⟨A, hA, htdma, hrun⟩ := tblPut_run (p := p) (i := i) (l := l) ht s
  have hset := touches_Act_setTblWords (die := p) (tbl := t) (idx := i)
    (l := (List.range (tblEntryWords t)).map fun w => l.getD w 0 &&& tblMask t w) (S := [.tbls]) (by decide)
  have hsame : ∀ k, k < tblEntryWords t → ((Act.setTblWords p t i ((List.range (tblEntryWords t)).map fun w =>
      l.getD w 0 &&& tblMask t w)).run s).tbl p t i k = l.getD k 0 &&& tblMask t k := fun k hk => by
    rw [tbl_setTblWords (by simpa using hk), List.getD_eq_getElem _ _ (by simpa using hk)]
    simp
  have hother : ∀ e k, e ≠ i → k < tblEntryWords t → ((Act.setTblWords p t i ((List.range (tblEntryWords t)).map fun w =>
      l.getD w 0 &&& tblMask t w)).run s).tbl p t e k = s.tbl p t e k := fun e k he hk =>
    (tbl_setTblWords_other (by simpa using tblEntryWords_le t) (hk.trans_le (tblEntryWords_le t)) he p t).same s
  have hregs : _ = _ := hset.same s .regs (by decide)
  have hmem : _ = _ := hset.same s .mem (by decide)
  have hsw : _ = _ := hset.same s .sw (by decide)
  intro q
  rw [show q = _ from hrun]
  generalize (Act.setTblWords p t i ((List.range (tblEntryWords t)).map fun w => l.getD w 0 &&& tblMask t w)).run s = v at *
  have htbl : ∀ e k, (A.run v).tbl p t e k = v.tbl p t e k := fun e k => (hA.keepsTbl (by decide) p t e k).same v
  exact ⟨fun k hk => (htbl i k).trans (hsame k hk), fun e k he hk => (htbl e k).trans (hother e k he hk),
    Eq.trans (hA.same v .regs (by decide)) hregs, Eq.trans (hA.same v .mem (by decide)) hmem,
    (htdma.same v).trans (congrArg Switch.tdma hsw)⟩

end

/-- The words that a WRITE finds depend on the registers and the memory alone. -/
theorem tdmaSrc_congr {s t : State} (hregs : t.regs = s.regs) (hmem : t.mem = s.mem) (p q e : Nat) (mem : Option Nat) :
    t.tdmaSrc p q e mem = s.tdmaSrc p q e mem := by
  cases mem with
  | none => exact List.map_congr_left fun w _ => congrArg (Sparse.get regReset · _) hregs
  | some a =>
    refine List.map_congr_left fun w _ => congrArg (BitVec.ofNat 48) (congrArg leNat (List.map_congr_left fun i _ => ?_))
    exact congrArg (Sparse.get memBlank · _) hmem

/-- A WRITE that has moved c entries has written them. -/
structure WrittenTo (s : State) (p j : Nat) (y : TdmaJob) (c : Nat) (t : State) : Prop extends MovedTo s p j y c t where
  regs : t.regs = s.regs
  mem : t.mem = s.mem
  words : ∀ e k, e < c → k < tblEntryWords y.table →
    t.tbl p y.table (y.first + e) k = (s.tdmaSrc p y.table e y.mem).getD k 0 &&& tblMask y.table k

/-- A step moves one entry more. -/
theorem writtenTo_step {s t : State} {p j c : Nat} {y : TdmaJob} (hop : y.op = 2) (htable : y.table ≠ 0x43) (hleft : c < y.left)
    (hreach : s.tdmaReach p c y = true) (h : WrittenTo s p j y c t) : WrittenTo s p j y (c + 1) ((Act.tdmaStep p j).run t) := by
  have hstep := tdmaStep_writes h.job hleft hop ((h.reach c).trans hreach)
  rw [tdmaSrc_congr h.regs h.mem] at hstep
  obtain ⟨hsame, hother, hregs, hmem, htdma⟩ := tblPut_leaves (p := p) (i := y.first + c) (l := s.tdmaSrc p y.table c y.mem) htable t
  rw [hstep]
  generalize (Act.tblPut p y.table (y.first + c) (s.tdmaSrc p y.table c y.mem)).run t = v at *
  have hreaches : ∀ e, v.tdmaReach p e y = t.tdmaReach p e y := fun e =>
    tdmaReach_congr (fun i => congrArg (Sparse.get regReset · _) hregs) e y
  refine ⟨⟨(tjob_setTjob ..).trans (if_pos rfl), aloneIn_setTjob h.alone htdma _, fun e => ?_⟩, ?_, ?_, fun e k he hk => ?_⟩
  · exact (hreaches e).trans (h.reach e)
  · exact Eq.trans hregs h.regs
  · exact Eq.trans hmem h.mem
  · by_cases hec : e = c
    · subst hec
      exact hsame k hk
    · exact (hother (y.first + e) k (by omega) hk).trans (h.words e k (by omega) hk)

section
variable {s : State} {p j m : Nat} {y : TdmaJob} (hp : p < s.x) (hp4 : p < 4) (hj : j < 4) (hup : s.prismUp = true)
  (hon : s.enabled p 0x13 = true) (hy : s.tjob (4 * p + j) = some y) (halone : s.aloneIn p j)
include hp hp4 hj hup hon hy halone

theorem tdmaJobDone_write_gives (hmoved : y.moved = 0) (hres : y.result = 2) (hidx : y.index = 0) (hm : m ≤ y.left)
    (hreach : ∀ e, e < m → s.tdmaReach p e y = true) (hend : m = y.left ∨ s.tdmaReach p m y = false) (hop : y.op = 2)
    (htable : y.table ≠ 0x43) : Gives (.tdmaJobDone p j) s fun t =>
      TdmaEnds p j (if m = y.left then 2 else 5) m 0 t ∧ t.mem = s.mem ∧
        ∀ e k, e < m → k < tblEntryWords y.table →
          t.tbl p y.table (y.first + e) k = (s.tdmaSrc p y.table e y.mem).getD k 0 &&& tblMask y.table k := by
  have hzero : WrittenTo s p j y 0 s := ⟨movedTo_zero hy hmoved halone, rfl, rfl, fun _ _ h => absurd h (Nat.not_lt_zero _)⟩
  obtain ⟨t, ht, hrun⟩ := tdmaRounds_moves (I := WrittenTo s p j y) hj (fun c t h => h.alone)
    (fun c t hc h => writtenTo_step hop htable (by omega) (hreach c hc) h) hzero hm
  obtain ⟨u, hu, hresult, hmoves, hindex, htbls, hmem, hregs⟩ := tdmaRounds_end hj (by omega) hres hidx hm hend ht.toMovedTo
  obtain ⟨v, hv, hends, hvt, hvm⟩ := tdmaJobDone_gives (P := fun v => v.tbls = _ ∧ v.mem = _) hp hp4 hj hup hon hy
    hrun hu fun v h₁ h₂ _ => ⟨h₁, h₂⟩
  rw [hresult, hmoves, hindex] at hends
  refine ⟨v, hv, hends, hvm.trans (hmem.trans ht.mem), fun e k he hk => ?_⟩
  rw [← ht.words e k he hk]
  exact congrArg (Sparse.get tblBlank · _) (hvt.trans htbls)

omit halone in
/-- A refused job has moved nothing. -/
theorem tdmaJobDone_refused_gives (hrefused : y = { result := 4 }) : Gives (.tdmaJobDone p j) s fun t =>
    TdmaEnds p j 4 0 0 t ∧ t.tbls = s.tbls ∧ t.mem = s.mem ∧ OnlyRegs [TDMA.JOB_STAT p j, TDMA.EVT p] s t := by
  subst hrefused
  exact tdmaJobDone_gives hp hp4 hj hup hon hy rfl hy fun v h₁ h₂ h₃ => ⟨h₁, h₂, h₃⟩

end

/-! ### FIND, INSERT and DELETE by the key in the buffer (R328, R329) -/

/-- A notice enters no job's record. -/
theorem notice_tdma (p : Nat) (learn : Bool) (fid mac facet : Nat) : Keeps (fun s => s.sw.tdma) (Act.notice p learn fid mac facet) :=
  .get fun _ => .each fun _ _ => ⟨fun _ => rfl⟩

/-- What touches the tables alone enters no job's record. -/
theorem setTblWords_tdma (d t i : Nat) (l : List Word) : Keeps (fun s => s.sw.tdma) (Act.setTblWords d t i l) :=
  ⟨fun s => congrArg Switch.tdma ((touches_Act_setTblWords (S := [.tbls]) (by decide)).same s .sw (by decide))⟩

theorem macRemove_tdma (p i : Nat) : Keeps (fun s => s.sw.tdma) (Act.macRemove p i) :=
  .get fun _ => .seq (.when (notice_tdma ..)) (setTblWords_tdma ..)

/-- An entry put into the MAC table stands there, and no job's record is entered. -/
theorem macPut_leaves (p i : Nat) (w0 w1 : Word) (s : State) : ((Act.macPut p i w0 w1).run s).tbl p 0x43 i 0 = w0 ∧
    ((Act.macPut p i w0 w1).run s).mac1 p i = w1 ∧ ((Act.macPut p i w0 w1).run s).sw.tdma = s.sw.tdma := by
  rw [Act.macPut, Act.get_run]
  simp only [Act.all_cons, Act.all_nil]
  have htwins := (Keeps.when (c := fget w1 MacE.VALID = 1) (Keeps.each (l := s.macTwins p i (fget w1 MacE.FID) w0.toNat)
    fun x _ => macRemove_tdma p x)).same s
  generalize (Act.when (fget w1 MacE.VALID = 1) (Act.each (s.macTwins p i (fget w1 MacE.FID) w0.toNat) (Act.macRemove p))).run s = a at *
  have hold := (Keeps.when (c := fget (s.mac1 p i) MacE.VALID = 1 ∧
    (s.macIs p i (fget w1 MacE.FID) w0.toNat && fget w1 MacE.VALID == 1) = false) (macRemove_tdma p i)).same a
  generalize (Act.when (fget (s.mac1 p i) MacE.VALID = 1 ∧ (s.macIs p i (fget w1 MacE.FID) w0.toNat && fget w1 MacE.VALID == 1) = false)
    (Act.macRemove p i)).run a = b at *
  have hset := (setTblWords_tdma p 0x43 i [w0, w1]).same b
  have hw0 := tbl_setTblWords (l := [w0, w1]) (w := 0) (by simp) p 0x43 i b
  have hw1 := tbl_setTblWords (l := [w0, w1]) (w := 1) (by simp) p 0x43 i b
  generalize (Act.setTblWords p 0x43 i [w0, w1]).run b = v at *
  have hnotice : Touches (Act.when (fget w1 MacE.VALID = 1 ∧ fget w1 MacE.STATIC = 0 ∧ fget w1 MacE.REMOTE = 0 ∧ fget w1 MacE.KIND = 0)
      (Act.notice p true (fget w1 MacE.FID) w0.toNat (fget w1 MacE.DEST % 256))) [.sw] := .when (touches_Act_notice (by decide))
  have hnoticed := (Keeps.when (c := fget w1 MacE.VALID = 1 ∧ fget w1 MacE.STATIC = 0 ∧ fget w1 MacE.REMOTE = 0 ∧ fget w1 MacE.KIND = 0)
    (notice_tdma p true (fget w1 MacE.FID) w0.toNat (fget w1 MacE.DEST % 256))).same v
  exact ⟨((hnotice.keepsTbl (by decide) p 0x43 i 0).same v).trans hw0, ((hnotice.keepsTbl (by decide) p 0x43 i 1).same v).trans hw1,
    hnoticed.trans (hset.trans (hold.trans htwins))⟩

/-- An entry written by INSERT. -/
theorem tblPut_mac_leaves (p i : Nat) (w0 w1 : Word) (s : State) : ((Act.tblPut p 0x43 i [w0, w1]).run s).tbl p 0x43 i 0 = w0 ∧
    ((Act.tblPut p 0x43 i [w0, w1]).run s).mac1 p i = w1 &&& tblMask 0x43 1 ∧
    ((Act.tblPut p 0x43 i [w0, w1]).run s).sw.tdma = s.sw.tdma := by
  have hrun : Act.tblPut p 0x43 i [w0, w1] = Act.macPut p i (w0 &&& tblMask 0x43 0) (w1 &&& tblMask 0x43 1) := rfl
  have hall : w0 &&& tblMask 0x43 0 = w0 := by
    show w0 &&& 0xFFFFFFFFFFFF#48 = w0
    exact BitVec.and_allOnes
  rw [hrun, hall]
  exact macPut_leaves ..

section
variable {s : State} {p j : Nat} {y : TdmaJob}

/-- A job of FIND, INSERT or DELETE with its result. -/
def TdmaJob.keyed (y : TdmaJob) (result moved index : Nat) : TdmaJob :=
  { y with left := 0, result := result, moved := moved, index := index }

/-- The key in the staging buffer. -/
def State.tdmaFound (s : State) (p : Nat) : Option Nat := s.macFind p (fget (s.tdmaBuf p 1) MacE.FID) (s.tdmaBuf p 0).toNat

theorem tdmaKeyed_finds {z : Nat} (hop : y.op = 3) (hfind : s.tdmaFound p = some z) : (Act.tdmaKeyed p j y).run s =
    (Act.setTjob (4 * p + j) (some (y.keyed 2 1 z))).run
      ((Act.setReg (TDMA.BUF p 1) (s.mac1 p z)).run ((Act.setReg (TDMA.BUF p 0) (s.tbl p 0x43 z 0)).run s)) := by
  obtain ⟨op, table, first, left, mem, part, result, moved, index⟩ := y
  cases hop
  simp only [State.tdmaFound] at hfind
  rw [Act.tdmaKeyed, Act.get_run]
  dsimp only
  rw [hfind]
  simp only [Act.all_cons, Act.all_nil]
  rfl

theorem tdmaKeyed_misses (hop : y.op = 3 ∨ y.op = 5) (hfind : s.tdmaFound p = none) : (Act.tdmaKeyed p j y).run s =
    (Act.setTjob (4 * p + j) (some (y.keyed 3 0 0))).run s := by
  obtain ⟨op, table, first, left, mem, part, result, moved, index⟩ := y
  simp only [State.tdmaFound] at hfind
  rw [Act.tdmaKeyed, Act.get_run]
  dsimp only
  rw [hfind]
  rcases hop with hop | hop
  · cases hop
    rfl
  · cases hop
    rfl

theorem tdmaKeyed_inserts {z : Nat} (hop : y.op = 4) (hplace : s.tdmaFound p = some z ∨ (s.tdmaFound p = none ∧
      ((List.range 8).map fun k => s.bucket p (fget (s.tdmaBuf p 1) MacE.FID) (s.tdmaBuf p 0).toNat * 8 + k).find?
        (fun i => fget (s.mac1 p i) MacE.VALID == 0) = some z)) : (Act.tdmaKeyed p j y).run s =
    (Act.setTjob (4 * p + j) (some (y.keyed 2 1 z))).run ((Act.tblPut p 0x43 z [s.tdmaBuf p 0, s.tdmaBuf p 1]).run s) := by
  obtain ⟨op, table, first, left, mem, part, result, moved, index⟩ := y
  cases hop
  simp only [State.tdmaFound] at hplace
  rw [Act.tdmaKeyed, Act.get_run]
  dsimp only
  rcases hplace with hfind | ⟨hfind, hfree⟩
  · rw [hfind]
    rfl
  · have hvalid : ¬ fget (s.mac1 p z) MacE.VALID = 1 := by
      have := List.find?_some hfree
      rw [beq_iff_eq] at this
      omega
    rw [hfind]
    show (Act.macRoom p _ _ _).run s = _
    rw [Act.macRoom, Act.get_run]
    dsimp only
    rw [hfree]
    show (Act.seq (Act.macEvict p z) _).run s = _
    rw [Act.seq_run, Act.macEvict, Act.get_run, Act.when_run, if_neg hvalid, Act.seq_run]
    rfl

theorem tdmaKeyed_deletes {z : Nat} (hop : y.op = 5) (hfind : s.tdmaFound p = some z) : (Act.tdmaKeyed p j y).run s =
    (Act.setTjob (4 * p + j) (some (y.keyed 2 1 0))).run ((Act.macRemove p z).run s) := by
  obtain ⟨op, table, first, left, mem, part, result, moved, index⟩ := y
  cases hop
  simp only [State.tdmaFound] at hfind
  rw [Act.tdmaKeyed, Act.get_run]
  dsimp only
  rw [hfind]
  rfl

variable (hp : p < s.x) (hp4 : p < 4) (hj : j < 4) (hup : s.prismUp = true)
  (hon : s.enabled p 0x13 = true) (hy : s.tjob (4 * p + j) = some y) (halone : s.aloneIn p j) (hleft : 0 < y.left)
include hp hp4 hj hup hon hy halone hleft

/-- What the end of such a job leaves, from the state in which its one step sets its result. -/
theorem tdmaJobDone_keyed_gives {v : State} {result moved index : Nat} (hop : 2 < y.op)
    (hrun : (Act.tdmaKeyed p j y).run s = (Act.setTjob (4 * p + j) (some (y.keyed result moved index))).run v)
    (htdma : v.sw.tdma = s.sw.tdma) {P : State → Prop}
    (hP : ∀ t, t.tbls = v.tbls → OnlyRegs [TDMA.JOB_STAT p j, TDMA.EVT p] v t → P t) :
    Gives (.tdmaJobDone p j) s fun t => TdmaEnds p j result moved index t ∧ P t := by
  have hstep : (Act.tdmaStep p j).run s = (Act.setTjob (4 * p + j) (some (y.keyed result moved index))).run v := by
    rw [Act.tdmaStep, Act.get_run, hy, Act.opt_some]
    dsimp only
    rw [if_neg (by omega), if_pos hop, hrun]
  have hkept := aloneIn_setTjob halone htdma (some (y.keyed result moved index))
  have hjob := (tjob_setTjob (4 * p + j) (some (y.keyed result moved index)) v (4 * p + j)).trans (if_pos rfl)
  obtain ⟨n, hn⟩ : ∃ n, y.left = n + 1 := ⟨y.left - 1, by omega⟩
  have hrounds : (Act.tdmaRounds p y.left).run s = (Act.setTjob (4 * p + j) (some (y.keyed result moved index))).run v := by
    rw [hn, tdmaRounds_succ hj halone (by rw [hstep]; exact hkept), hstep, tdmaRounds_done hj hkept hjob rfl]
  exact tdmaJobDone_gives hp hp4 hj hup hon hy hrounds hjob fun t htbls _ hregs => hP t htbls hregs

theorem tdmaJobDone_find_gives {z : Nat} (hop : y.op = 3) (hfind : s.tdmaFound p = some z) : Gives (.tdmaJobDone p j) s fun t =>
    TdmaEnds p j 2 1 z t ∧ t.tbls = s.tbls ∧ Holds t (TDMA.BUF p 0) (s.tbl p 0x43 z 0) ∧ Holds t (TDMA.BUF p 1) (s.mac1 p z) := by
  have hne : TDMA.BUF p 0 ≠ TDMA.BUF p 1 := by
    unfold TDMA.BUF ra
    omega
  refine tdmaJobDone_keyed_gives hp hp4 hj hup hon hy halone hleft (by omega) (tdmaKeyed_finds hop hfind) rfl fun t htbls hregs =>
    ⟨htbls, ?_, ?_⟩
  · refine (hregs _ (buf_notReport p 0 j hj)).trans ?_
    rw [Act.setReg_run, State.reg_storeReg, if_neg hne, Act.setReg_run, State.reg_storeReg, if_pos rfl]
  · refine (hregs _ (buf_notReport p 1 j hj)).trans ?_
    rw [Act.setReg_run, State.reg_storeReg, if_pos rfl]

theorem tdmaJobDone_miss_gives (hop : y.op = 3 ∨ y.op = 5) (hfind : s.tdmaFound p = none) : Gives (.tdmaJobDone p j) s fun t =>
    TdmaEnds p j 3 0 0 t ∧ t.tbls = s.tbls :=
  tdmaJobDone_keyed_gives hp hp4 hj hup hon hy halone hleft (by omega) (tdmaKeyed_misses hop hfind) rfl fun t htbls _ => htbls

theorem tdmaJobDone_insert_gives {z : Nat} (hop : y.op = 4) (hplace : s.tdmaFound p = some z ∨ (s.tdmaFound p = none ∧
      ((List.range 8).map fun k => s.bucket p (fget (s.tdmaBuf p 1) MacE.FID) (s.tdmaBuf p 0).toNat * 8 + k).find?
        (fun i => fget (s.mac1 p i) MacE.VALID == 0) = some z)) : Gives (.tdmaJobDone p j) s fun t =>
    TdmaEnds p j 2 1 z t ∧ t.tbl p 0x43 z 0 = s.tdmaBuf p 0 ∧ t.mac1 p z = s.tdmaBuf p 1 &&& tblMask 0x43 1 := by
  obtain ⟨hw0, hw1, htdma⟩ := tblPut_mac_leaves p z (s.tdmaBuf p 0) (s.tdmaBuf p 1) s
  have htbl : ∀ {t v : State}, t.tbls = v.tbls → ∀ w, t.tbl p 0x43 z w = v.tbl p 0x43 z w := fun h w =>
    congrArg (Sparse.get tblBlank · _) h
  exact tdmaJobDone_keyed_gives hp hp4 hj hup hon hy halone hleft (by omega) (tdmaKeyed_inserts hop hplace) htdma fun t htbls _ =>
    ⟨(htbl htbls 0).trans hw0, (htbl htbls 1).trans hw1⟩

theorem tdmaJobDone_delete_gives {z : Nat} (hop : y.op = 5) (hfind : s.tdmaFound p = some z) : Gives (.tdmaJobDone p j) s fun t =>
    TdmaEnds p j 2 1 0 t ∧ t.mac1 p z = 0 :=
  tdmaJobDone_keyed_gives hp hp4 hj hup hon hy halone hleft (by omega) (tdmaKeyed_deletes hop hfind) ((macRemove_tdma p z).same s)
    fun t htbls _ => Eq.trans (congrArg (Sparse.get tblBlank · (tblKey p 0x43 z 1)) htbls) (macRemove_mac1 p z s)

end

/-! ### Region locks (R330) -/

section
variable {s : State} {p : Nat} (hp : p < s.x) (hup : s.prismUp = true)
include hp hup

theorem tdmaLockExpire_gives {tb r : Nat} (htb : tb < 8) (hr : r < 32) (hlock : bit (s.reg (TDMA.LOCK p tb)) r = true)
    (hlong : s.pastMs (s.lockedAt ((8 * p + tb) * 32 + r)) (s.fld (TDMA.CFG p) TDMA.CFG.LOCK_MAX_MS) = true) :
    Gives (.tdmaLockExpire p tb r) s fun t => Holds t (TDMA.LOCK p tb) (clearBit (s.reg (TDMA.LOCK p tb)) r) ∧
      Logged (TDMA.EVT p) 2 s t ∧ OnlyRegs [TDMA.LOCK p tb, TDMA.EVT p] s t := by
  have hexec : exec (.tdmaLockExpire p tb r) s = .next ((tdmaLockExpire p tb r).run s) := by
    show Act.go (Act.when (p < s.x ∧ tb < 8 ∧ r < 32 ∧ s.prismUp = true) (tdmaLockExpire p tb r)) s = _
    rw [Act.go_eq, Act.when_run, if_pos ⟨hp, htb, hr, hup⟩]
  have hrun : (tdmaLockExpire p tb r).run s =
      (Act.event (TDMA.EVT p) 2).run ((Act.setReg (TDMA.LOCK p tb) (clearBit (s.reg (TDMA.LOCK p tb)) r)).run s) := by
    rw [tdmaLockExpire, Act.get_run]
    dsimp only
    rw [Nat.mod_eq_of_lt htb, Nat.mod_eq_of_lt hr, Act.when_run, if_pos ⟨hlock, hlong⟩, Act.seq_run]
  have hne : TDMA.LOCK p tb ≠ TDMA.EVT p := by
    unfold TDMA.LOCK TDMA.EVT ra
    omega
  have hset : ∀ a, ((Act.setReg (TDMA.LOCK p tb) (clearBit (s.reg (TDMA.LOCK p tb)) r)).run s).reg a =
      if a = TDMA.LOCK p tb then clearBit (s.reg (TDMA.LOCK p tb)) r &&& regMask (TDMA.LOCK p tb) else s.reg a := State.reg_storeReg _ _ s
  have hevt : ((Act.setReg (TDMA.LOCK p tb) (clearBit (s.reg (TDMA.LOCK p tb)) r)).run s).evtNo = s.evtNo := rfl
  refine ⟨_, hexec.trans (congrArg _ hrun), ?_⟩
  generalize (Act.setReg (TDMA.LOCK p tb) (clearBit (s.reg (TDMA.LOCK p tb)) r)).run s = v at *
  have hkeep := (writes_Act_event (a := TDMA.EVT p) (i := 2) (P := fun a => a = TDMA.EVT p) rfl).same v
  refine ⟨?_, (event_logged (TDMA.EVT p) 2 v).since ((hset _).trans (if_neg hne.symm)) hevt, fun a ha => ?_⟩
  · exact (hkeep _ hne).trans ((hset _).trans (if_pos rfl))
  · simp only [List.mem_cons, List.not_mem_nil, or_false, not_or] at ha
    exact (hkeep _ ha.2).trans ((hset _).trans (if_neg ha.1))

end

/-! ### Gate lists (R323 to R326) -/

theorem gate_modGate (k : Nat) (g : Gates → Gates) (s : State) : ((Act.modGate k g).run s).gate k = g (s.gate k) := by
  simp only [State.gate, Act.modGate, Act.get_run, Act_setGate_sw, Sparse.get_put, if_true]

/-- Credits brought up to date leave the gates. -/
theorem shape_keeps_gate (p k : Nat) : Keeps (fun s => s.gate k) (Act.shape p) := .shape (fun _ _ => ⟨fun _ => rfl⟩) p

/-- An overrun counts and reports, and leaves the gates and their registers. -/
theorem gateOverrun_keeps_gate (p f k : Nat) : Keeps (fun s => s.gate k) (Act.gateOverrun p f) :=
  ⟨fun s => congrArg (fun w : Switch => Sparse.get gateBlank w.gates k) ((touches_Act_gateOverrun fun _ h => h).same s .sw (by decide))⟩

theorem gateOverrun_keeps_gcl (p f : Nat) {i : Nat} (hi : i < 32) :
    Keeps (fun s => s.reg (PSFP.GCL_STAT p i)) (Act.gateOverrun p f) := by
  have hne : ∀ {r : Nat}, r < 0x1100 → ra p 0x12 r ≠ PSFP.GCL_STAT p i := fun hr h => by
    unfold PSFP.GCL_STAT ra at h
    omega
  have hdev : ∀ {q r : Nat}, r < 8192 → ra q 0 r ≠ PSFP.GCL_STAT p i := fun hr h => by
    unfold PSFP.GCL_STAT ra at h
    omega
  exact (writes_Act_gateOverrun (P := fun a => a ≠ PSFP.GCL_STAT p i) (hne (by decide)) (hne (by decide)) (hne (by decide))
    (fun _ => hdev (by decide)) fun _ => hdev (by decide)).keeps

section
variable {s : State} {p f : Nat}

/-- Gates set: the record is as it is made, whatever an overrun reports. -/
theorem gate_setGates (p f : Nat) (g : Gates → Gates) (s : State) : ((Act.setGates p f g).run s).gate (fk p f) = g (s.gate (fk p f)) := by
  have hshape := (shape_keeps_gate p (fk p f)).same s
  rw [Act.setGates, Act.get_run, Act.all_cons, Act.all_cons, Act.all_cons, Act.all_nil]
  generalize (Act.shape p).run s = v at *
  exact ((Keeps.when (gateOverrun_keeps_gate p f (fk p f))).same _).trans ((gate_modGate ..).trans (congrArg g hshape))

variable (hp : p < s.x) (hf : f < 32) (hup : s.prismUp = true)
include hp hf hup

theorem gateEntryBegin_next_gives (hnext : (s.gate (fk p f)).pos + 1 < (s.gateList p f).length) : Gives (.gateEntryBegin p f) s fun t =>
    (t.gate (fk p f)).pos = (s.gate (fk p f)).pos + 1 ∧
      (t.gate (fk p f)).gates = ((s.gateList p f).getD ((s.gate (fk p f)).pos + 1) (255, 0)).1 := by
  have hrun : (gateEntryBegin p f).run s = (Act.setGates p f fun v =>
      { v with pos := (s.gate (fk p f)).pos + 1, gates := ((s.gateList p f).getD ((s.gate (fk p f)).pos + 1) (255, 0)).1 }).run s := by
    rw [gateEntryBegin, Act.get_run, if_pos hnext]
  refine ⟨_, (go_facet hp hf hup).trans (congrArg _ hrun), ?_⟩
  dsimp only
  rw [gate_setGates]
  exact ⟨rfl, rfl⟩

theorem gateEntryBegin_cycle_gives (hlast : (s.gateList p f).length ≤ (s.gate (fk p f)).pos + 1) {e : Nat × Nat} {l : List (Nat × Nat)}
    (hlist : s.gateList p f = e :: l)
    (hheld : s.extended p f (((s.gate (fk p f)).began + (s.gate (fk p f)).cycle) % 2 ^ 48) = false) :
    Gives (.gateEntryBegin p f) s fun t => (t.gate (fk p f)).pos = 0 ∧ (t.gate (fk p f)).gates = e.1 ∧
      (t.gate (fk p f)).began = ((s.gate (fk p f)).began + (s.gate (fk p f)).cycle) % 2 ^ 48 := by
  have hrun : (gateEntryBegin p f).run s = (Act.setGates p f fun v =>
      { v with pos := 0, gates := e.1, began := ((s.gate (fk p f)).began + (s.gate (fk p f)).cycle) % 2 ^ 48 }).run s := by
    rw [gateEntryBegin, Act.get_run, if_neg (by omega), if_neg (by rw [hheld]; decide), hlist, List.head?_cons, Act.opt_some]
  refine ⟨_, (go_facet hp hf hup).trans (congrArg _ hrun), ?_⟩
  dsimp only
  rw [gate_setGates]
  exact ⟨rfl, rfl, rfl⟩

end

/-- The fields of GCL_STAT that a switch sets are implemented. -/
theorem implements_gclStat {p f : Nat} (hp : p < 4) (hf : f < 32) : implements (PSFP.GCL_STAT p f) PSFP.GCL_STAT.OPER_BANK = true ∧
    implements (PSFP.GCL_STAT p f) PSFP.GCL_STAT.CONFIG_PENDING = true ∧
    implements (PSFP.GCL_STAT p f) PSFP.GCL_STAT.OPER_LEN = true ∧ implements (PSFP.GCL_CTRL p f) PSFP.GCL_CTRL.ADMIN_LEN = true := by
  have h : ∀ p < 4, ∀ f < 32, implements (PSFP.GCL_STAT p f) PSFP.GCL_STAT.OPER_BANK = true ∧
    implements (PSFP.GCL_STAT p f) PSFP.GCL_STAT.CONFIG_PENDING = true ∧
    implements (PSFP.GCL_STAT p f) PSFP.GCL_STAT.OPER_LEN = true ∧
    implements (PSFP.GCL_CTRL p f) PSFP.GCL_CTRL.ADMIN_LEN = true := by decide +kernel
  exact h p hp f hf

/-- The word of GCL_STAT after a switch to a bank with a list of n entries. -/
def gclSwitched (v : Word) (bank n : Nat) : Word :=
  [(PSFP.GCL_STAT.OPER_BANK, bank), (PSFP.GCL_STAT.CONFIG_PENDING, 0), (PSFP.GCL_STAT.OPER_LEN, n)].foldl (fun v e => fset v e.1 e.2) v

theorem gclSwitched_fields {v : Word} {bank n : Nat} (hbank : bank < 2) (hn : n < 2 ^ 9) :
    fget (gclSwitched v bank n) PSFP.GCL_STAT.OPER_BANK = bank ∧ fget (gclSwitched v bank n) PSFP.GCL_STAT.CONFIG_PENDING = 0 ∧
      fget (gclSwitched v bank n) PSFP.GCL_STAT.OPER_LEN = n := by
  simp only [gclSwitched, List.foldl_cons, List.foldl_nil]
  refine ⟨?_, ?_, ?_⟩
  · rw [fget_fset_other _ _ _ _ (by decide) (by decide), fget_fset_other _ _ _ _ (by decide) (by decide), fget_fset _ _ _ (by decide)]
    exact Nat.mod_eq_of_lt hbank
  · rw [fget_fset_other _ _ _ _ (by decide) (by decide), fget_fset _ _ _ (by decide)]
    exact Nat.zero_mod _
  · rw [fget_fset _ _ _ (by decide)]
    exact Nat.mod_eq_of_lt hn

section
variable {s : State} {p f : Nat}

/-- A gate record changed twice changes no register. -/
theorem reg_opened (g : Gates → Gates) (o : Option (Nat × Nat)) (s : State) (a : Nat) :
    ((Act.opt o fun e => Act.modGate (fk p f) fun v => { v with gates := e.1 }).run ((Act.modGate (fk p f) g).run s)).reg a = s.reg a := by
  cases o with
  | none => rfl
  | some e => rfl

/-- The operating list's first entry opens its gates; the rest of the record stays. -/
theorem gate_opened (g : Gates → Gates) (o : Option (Nat × Nat)) (s : State) :
    let v := ((Act.opt o fun e => Act.modGate (fk p f) fun v => { v with gates := e.1 }).run ((Act.modGate (fk p f) g).run s)).gate (fk p f)
    v.pos = (g (s.gate (fk p f))).pos ∧ v.began = (g (s.gate (fk p f))).began ∧ v.cycle = (g (s.gate (fk p f))).cycle := by
  have hset := gate_modGate (fk p f) g s
  cases o with
  | none => exact ⟨congrArg Gates.pos hset, congrArg Gates.began hset, congrArg Gates.cycle hset⟩
  | some e =>
    simp only [Act.opt_some, gate_modGate]
    exact ⟨trivial, trivial, trivial⟩

/-- The rest of a switch, from the state in which GCL_STAT is written. -/
theorem gclSwitch_rest (hf : f < 32) {a : State} {w : Word} (ha : a.reg (PSFP.GCL_STAT p f) = w &&& regMask (PSFP.GCL_STAT p f))
    (g : Gates → Gates) (o : Option (Nat × Nat)) (c : Prop) [Decidable c] :
    let t := (Act.when c (Act.gateOverrun p f)).run ((Act.opt o fun e => Act.modGate (fk p f) fun v => { v with gates := e.1 }).run
      ((Act.modGate (fk p f) g).run a))
    (∀ h : Fld, implements (PSFP.GCL_STAT p f) h = true → t.fld (PSFP.GCL_STAT p f) h = fget w h) ∧
      (t.gate (fk p f)).pos = (g (a.gate (fk p f))).pos ∧ (t.gate (fk p f)).began = (g (a.gate (fk p f))).began ∧
      (t.gate (fk p f)).cycle = (g (a.gate (fk p f))).cycle := by
  have hreg := reg_opened (p := p) (f := f) g o a (PSFP.GCL_STAT p f)
  obtain ⟨hpos, hbegan, hcycle⟩ := gate_opened (p := p) (f := f) g o a
  intro t
  have ht : t = (Act.when c (Act.gateOverrun p f)).run ((Act.opt o fun e => Act.modGate (fk p f) fun v => { v with gates := e.1 }).run
    ((Act.modGate (fk p f) g).run a)) := rfl
  clear_value t
  generalize (Act.opt o fun e => Act.modGate (fk p f) fun v => { v with gates := e.1 }).run ((Act.modGate (fk p f) g).run a) = b at *
  have hlast := (Keeps.when (c := c) (gateOverrun_keeps_gcl p f hf)).same b
  have hgate := (Keeps.when (c := c) (gateOverrun_keeps_gate p f (fk p f))).same b
  rw [← ht] at hlast hgate
  refine ⟨fun h hh => ?_, (congrArg Gates.pos hgate).trans hpos, (congrArg Gates.began hgate).trans hbegan,
    (congrArg Gates.cycle hgate).trans hcycle⟩
  rw [State.fld, hlast, hreg, ha, fget_masked hh]

variable (hp : p < s.x) (hp4 : p < 4) (hf : f < 32) (hup : s.prismUp = true)
include hp hp4 hf hup

theorem gclSwitch_gives (hpending : s.flag (PSFP.GCL_STAT p f) PSFP.GCL_STAT.CONFIG_PENDING = true)
    (hdue : notBefore (s.time p) (s.gate (fk p f)).changeAt = true) : Gives (.gclSwitch p f) s fun t =>
      t.fld (PSFP.GCL_STAT p f) PSFP.GCL_STAT.OPER_BANK = 1 - s.fld (PSFP.GCL_STAT p f) PSFP.GCL_STAT.OPER_BANK ∧
        t.fld (PSFP.GCL_STAT p f) PSFP.GCL_STAT.CONFIG_PENDING = 0 ∧
        t.fld (PSFP.GCL_STAT p f) PSFP.GCL_STAT.OPER_LEN = s.fld (PSFP.GCL_CTRL p f) PSFP.GCL_CTRL.ADMIN_LEN ∧
        (t.gate (fk p f)).pos = 0 ∧ (t.gate (fk p f)).began = (s.gate (fk p f)).changeAt ∧
        (t.gate (fk p f)).cycle = s.fld (PSFP.GCL_CYCLE p f) PSFP.GCL_CYCLE.ADMIN_CYCLE := by
  have hshape : ((Act.shape p).run s).reg (PSFP.GCL_STAT p f) = s.reg (PSFP.GCL_STAT p f) :=
    (writes_Act_shape (P := fun a => a ≠ PSFP.GCL_STAT p f)).keeps.same s
  refine ⟨_, go_facet hp hf hup, ?_⟩
  rw [gclSwitch, Act.get_run]
  dsimp only
  rw [Act.when_run, if_pos ⟨hpending, hdue⟩]
  simp only [Act.all_cons, Act.all_nil]
  generalize (Act.shape p).run s = v at *
  simp only [Act.get_run]
  have hword : ∀ l, ((Act.setFlds (PSFP.GCL_STAT p f) l).run v).reg (PSFP.GCL_STAT p f) =
      l.foldl (fun v e => fset v e.1 e.2) (s.reg (PSFP.GCL_STAT p f)) &&& regMask (PSFP.GCL_STAT p f) := fun l => by
    rw [← hshape]
    exact (State.reg_storeReg ..).trans (if_pos rfl)
  specialize hword [(PSFP.GCL_STAT.OPER_BANK, 1 - s.fld (PSFP.GCL_STAT p f) PSFP.GCL_STAT.OPER_BANK),
    (PSFP.GCL_STAT.CONFIG_PENDING, 0), (PSFP.GCL_STAT.OPER_LEN, s.fld (PSFP.GCL_CTRL p f) PSFP.GCL_CTRL.ADMIN_LEN)]
  obtain ⟨hfields, hpos, hbegan, hcycle⟩ := gclSwitch_rest hf hword (fun _ =>
      { gates := 255, pos := 0, began := (s.gate (fk p f)).changeAt, changeAt := (s.gate (fk p f)).changeAt
        cycle := s.fld (PSFP.GCL_CYCLE p f) PSFP.GCL_CYCLE.ADMIN_CYCLE, base := (s.reg (PSFP.GCL_BASE p f)).toNat })
    (((Act.modGate (fk p f) fun _ =>
      { gates := 255, pos := 0, began := (s.gate (fk p f)).changeAt, changeAt := (s.gate (fk p f)).changeAt
        cycle := s.fld (PSFP.GCL_CYCLE p f) PSFP.GCL_CYCLE.ADMIN_CYCLE, base := (s.reg (PSFP.GCL_BASE p f)).toNat }).run
      ((Act.setFlds (PSFP.GCL_STAT p f) [(PSFP.GCL_STAT.OPER_BANK, 1 - s.fld (PSFP.GCL_STAT p f) PSFP.GCL_STAT.OPER_BANK),
        (PSFP.GCL_STAT.CONFIG_PENDING, 0), (PSFP.GCL_STAT.OPER_LEN, s.fld (PSFP.GCL_CTRL p f) PSFP.GCL_CTRL.ADMIN_LEN)]).run v)).gateList
          p f).head?
    ((s.eth (fk p f)).tx.any (fun t => gateOpen (s.gatesNow p f) t.cls) = true)
  obtain ⟨hbank, hcleared, hlen⟩ := gclSwitched_fields (v := s.reg (PSFP.GCL_STAT p f))
    (bank := 1 - s.fld (PSFP.GCL_STAT p f) PSFP.GCL_STAT.OPER_BANK) (by omega) (fget_lt (s.reg (PSFP.GCL_CTRL p f)) PSFP.GCL_CTRL.ADMIN_LEN)
  obtain ⟨hiBank, hiPending, hiLen, -⟩ := implements_gclStat hp4 hf
  exact ⟨(hfields _ hiBank).trans hbank, (hfields _ hiPending).trans hcleared, (hfields _ hiLen).trans hlen, hpos, hbegan, hcycle⟩

end

/-! ### GCL_CONFIG_CHANGE (R325, R341) -/

/-- The bits of a field that a write to a register reaches. -/
def writable (a : Nat) (f : Fld) : Bool :=
  match regRow a with
  | none => false
  | some w => (List.range f.w).all fun j => bit (BitVec.ofNat 48 w.wmask) (f.lo + j)

/-- A field that a write reaches and a register implements reads as what was stored. -/
theorem fld_store {a : Nat} {f : Fld} (hw : writable a f = true) (hi : implements a f = true) (v : Word) (s : State) :
    ((Act.store a v).run s).fld a f = fget v f := by
  unfold writable at hw
  split at hw
  · exact absurd hw (by decide)
  · next w hrow =>
    rw [State.fld, show ((Act.store a v).run s).reg a = _ from store_holds hrow v s, fget_masked hi]
    apply Nat.eq_of_testBit_eq
    intro j
    rw [testBit_fget, testBit_fget]
    by_cases hj : j < f.w
    · have hm := List.all_eq_true.mp hw j (List.mem_range.mpr hj)
      have hor : ∀ x y : Word, bit (x ||| y) (f.lo + j) = (bit x (f.lo + j) || bit y (f.lo + j)) := fun x y => BitVec.getLsbD_or
      have hnot : bit (s.reg a &&& ~~~ BitVec.ofNat 48 w.wmask) (f.lo + j) = false := by
        rw [bit_and]
        unfold bit at hm ⊢
        rw [BitVec.getLsbD_not, hm]
        simp
      rw [hor, hnot, bit_and, hm, Bool.and_true, Bool.false_or]
    · simp [hj]

theorem writable_adminLen {p f : Nat} (hp : p < 4) (hf : f < 32) : writable (PSFP.GCL_CTRL p f) PSFP.GCL_CTRL.ADMIN_LEN = true := by
  have h : ∀ p < 4, ∀ f < 32, writable (PSFP.GCL_CTRL p f) PSFP.GCL_CTRL.ADMIN_LEN = true := by decide +kernel
  exact h p hp f hf

section
variable {s u : State} {w : Sender} {ag : Agent} {p f v : Nat}

theorem gclConfigChange_facet (h : Reaches (.gclConfigChange w p f v) s ag u) : f < 32 := by
  have hwf : (w.ok && decide (p < 4) && decide (f < 32) && decide (v < 2 ^ 48)) = true := h.1
  simp only [Bool.and_eq_true, decide_eq_true_eq] at hwf
  obtain ⟨⟨-, hf⟩, -⟩ := hwf
  exact hf

/-- A change that is scheduled, from the state before its end. -/
theorem gclScheduled_leaves (hp : p < 4) (hf : f < 32) (x : Word) (n : Nat) (u : State) :
    let q := (Act.modGate (fk p f) fun g => { g with changeAt := n }).run
      ((Act.setFld (PSFP.GCL_STAT p f) PSFP.GCL_STAT.CONFIG_PENDING 1).run ((Act.store (PSFP.GCL_CTRL p f) x).run ((Act.shape p).run u)))
    q.fld (PSFP.GCL_STAT p f) PSFP.GCL_STAT.CONFIG_PENDING = 1 ∧
      q.fld (PSFP.GCL_CTRL p f) PSFP.GCL_CTRL.ADMIN_LEN = fget x PSFP.GCL_CTRL.ADMIN_LEN ∧
      (q.gate (fk p f)).changeAt = n ∧ q.out = u.out := by
  obtain ⟨-, hpending, -, hlen⟩ := implements_gclStat hp hf
  have hne : PSFP.GCL_STAT p f ≠ PSFP.GCL_CTRL p f := by
    unfold PSFP.GCL_STAT PSFP.GCL_CTRL ra
    omega
  have hshapeOut : _ = _ := (touches_Act_shape (p := p) (S := [.sw]) (by decide)).same u .out (by decide)
  generalize (Act.shape p).run u = a at *
  have hstore := fld_store (writable_adminLen hp hf) hlen x a
  have hstoreOut := store_out (PSFP.GCL_CTRL p f) x a
  generalize (Act.store (PSFP.GCL_CTRL p f) x).run a = b at *
  have hset := fld_setFld (by decide) hpending 1 b
  have hkeep : ((Act.setFld (PSFP.GCL_STAT p f) PSFP.GCL_STAT.CONFIG_PENDING 1).run b).reg (PSFP.GCL_CTRL p f) =
      b.reg (PSFP.GCL_CTRL p f) := (writes_Act_setFld (P := fun a => a ≠ PSFP.GCL_CTRL p f) hne).keeps.same b
  have hsetOut : ((Act.setFld (PSFP.GCL_STAT p f) PSFP.GCL_STAT.CONFIG_PENDING 1).run b).out = b.out := Act_setFld_out ..
  generalize (Act.setFld (PSFP.GCL_STAT p f) PSFP.GCL_STAT.CONFIG_PENDING 1).run b = c at *
  exact ⟨hset, (congrArg (fget · PSFP.GCL_CTRL.ADMIN_LEN) hkeep).trans hstore, congrArg Gates.changeAt (gate_modGate ..),
    hsetOut.trans (hstoreOut.trans hshapeOut)⟩

/-- The fields of the value that GCL_CONFIG_CHANGE writes. -/
theorem gclChange_fields (x : Word) : fget (fset x PSFP.GCL_CTRL.CONFIG_CHANGE 1) PSFP.GCL_CTRL.CONFIG_CHANGE = 1 ∧
    fget (fset x PSFP.GCL_CTRL.CONFIG_CHANGE 1) PSFP.GCL_CTRL.ENABLE = fget x PSFP.GCL_CTRL.ENABLE ∧
    fget (fset x PSFP.GCL_CTRL.CONFIG_CHANGE 1) PSFP.GCL_CTRL.ADMIN_LEN = fget x PSFP.GCL_CTRL.ADMIN_LEN :=
  ⟨fget_fset _ _ _ (by decide), fget_fset_other _ _ _ _ (by decide) (by decide), fget_fset_other _ _ _ _ (by decide) (by decide)⟩

theorem gclConfigChange_scheduled_gives (hp : p < 4) (h : Reaches (.gclConfigChange w p f v) s ag u) {len cyc : Nat}
    (hlen : fget (BitVec.ofNat 48 v) PSFP.GCL_CTRL.ADMIN_LEN = len)
    (hcyc : u.fld (PSFP.GCL_CYCLE p f) PSFP.GCL_CYCLE.ADMIN_CYCLE = cyc)
    (hgood : u.flag (PSFP.GCL_STAT p f) PSFP.GCL_STAT.CONFIG_PENDING = false ∧ 1 ≤ len ∧ len ≤ 256 ∧ 1000 ≤ cyc)
    (hon : fget (BitVec.ofNat 48 v) PSFP.GCL_CTRL.ENABLE = 1) : Gives (.gclConfigChange w p f v) s fun t =>
      t.fld (PSFP.GCL_STAT p f) PSFP.GCL_STAT.CONFIG_PENDING = 1 ∧ t.fld (PSFP.GCL_CTRL p f) PSFP.GCL_CTRL.ADMIN_LEN = len ∧
        (t.gate (fk p f)).changeAt = firstCycle (u.reg (PSFP.GCL_BASE p f)).toNat cyc ((u.time p + 2000) % 2 ^ 48) ∧
        t.out = endOut w .ok u.out := by
  have hrun := reach_gclConfigChange h
  obtain ⟨hchange, henable, hadmin⟩ := gclChange_fields (BitVec.ofNat 48 v)
  obtain ⟨hidle, hlo, hhi, hmin⟩ := hgood
  have htaken : ¬(1 = 1 ∧ (false = true ∨ len = 0 ∨ 256 < len ∨ cyc < 1000)) := by
    rintro ⟨-, hflag | hbad⟩
    · exact absurd hflag (by decide)
    · omega
  generalize fset (BitVec.ofNat 48 v) PSFP.GCL_CTRL.CONFIG_CHANGE 1 = x at *
  rw [gclCtrl, Act.get_run] at hrun
  dsimp only at hrun
  rw [hadmin, hlen, hcyc, hchange, henable, hon, hidle, if_neg htaken, if_neg (by decide), if_pos rfl] at hrun
  simp only [Act.all_cons, Act.all_nil, Act.ends_ok] at hrun
  obtain ⟨hpending, hlast, hgate, hout⟩ := gclScheduled_leaves hp (gclConfigChange_facet h) (fset x PSFP.GCL_CTRL.CONFIG_CHANGE 0)
    (firstCycle (u.reg (PSFP.GCL_BASE p f)).toNat cyc ((u.time p + 2000) % 2 ^ 48)) u
  rw [fget_fset_other _ _ _ _ (by decide) (by decide), hadmin, hlen] at hlast
  exact ⟨_, hrun, hpending, hlast, hgate, congrArg (endOut w .ok) hout⟩

theorem gclConfigChange_refused_gives (h : Reaches (.gclConfigChange w p f v) s ag u) {len cyc : Nat}
    (hlen : fget (BitVec.ofNat 48 v) PSFP.GCL_CTRL.ADMIN_LEN = len)
    (hcyc : u.fld (PSFP.GCL_CYCLE p f) PSFP.GCL_CYCLE.ADMIN_CYCLE = cyc)
    (hbad : ¬(u.flag (PSFP.GCL_STAT p f) PSFP.GCL_STAT.CONFIG_PENDING = false ∧ 1 ≤ len ∧ len ≤ 256 ∧ 1000 ≤ cyc)) :
    Gives (.gclConfigChange w p f v) s fun t => t.sw = u.sw ∧ t.reg (PSFP.GCL_STAT p f) = u.reg (PSFP.GCL_STAT p f) ∧
      t.out = endOut w .badValue u.out := by
  have hrun := reach_gclConfigChange h
  obtain ⟨hchange, -, hadmin⟩ := gclChange_fields (BitVec.ofNat 48 v)
  generalize fset (BitVec.ofNat 48 v) PSFP.GCL_CTRL.CONFIG_CHANGE 1 = x at *
  have hcond : u.flag (PSFP.GCL_STAT p f) PSFP.GCL_STAT.CONFIG_PENDING = true ∨ len = 0 ∨ 256 < len ∨ cyc < 1000 := by
    cases hflag : u.flag (PSFP.GCL_STAT p f) PSFP.GCL_STAT.CONFIG_PENDING with
    | true => exact .inl rfl
    | false =>
      by_contra hnone
      exact hbad ⟨hflag, by omega, by omega, by omega⟩
  rw [gclCtrl, Act.get_run] at hrun
  dsimp only at hrun
  rw [hadmin, hlen, hcyc, hchange, if_pos ⟨rfl, hcond⟩, Act.badValue] at hrun
  obtain ⟨⟨-, -, -, hregs⟩, hout⟩ := blkErr_ends (PSFP.GCL_CTRL p f) 0 ag w .badValue u
  have hsw : Touches (Act.seq (Act.blkErr (PSFP.GCL_CTRL p f) 0 ag) (Act.ends w ag (PSFP.GCL_CTRL p f) .badValue))
      [.regs, .evtNo, .upsets, .irqs, .out] :=
    .seq (touches_Act_blkErr (by decide)) ((touches_ends ..).mono (by decide))
  refine ⟨_, hrun, hsw.same u .sw (by decide), hregs _ ?_, hout⟩
  rw [List.mem_singleton]
  unfold PSFP.GCL_STAT BLK_ERR ra
  omega

end

end Sys2Proof.Machine

namespace Sys2Proof.Proofs

open Sys2Proof.Machine

/-- Settles O35: a job is taken whole or noted as refused; alone in its die, its rounds are its own steps, of which READ and WRITE move an
entry each and the keyed operations take one; a lock, a switch and an entry of a gate list change the records they name. -/
theorem tablesMoveAndGatesSwitch : Obligations.TablesMoveAndGatesSwitch := by
  unfold Obligations.TablesMoveAndGatesSwitch
  intro s u w ag mem p j f v hp4
  refine ⟨?_, fun hp hup => ⟨?_, ?_, ?_, ?_, ?_⟩, ?_⟩
  · intro x tb i n place takes hidle hlo hhi hhost
    have htakes : ∀ {c : Instr} {op : Nat}, (1 ≤ op ∧ op ≤ 5) → (Reaches c s ag u → j < 4 ∧
        exec c s = .next ((tdmaJob ag p j (fset x TDMA.JOB.OP op) (Act.ends w ag (TDMA.JOB p j))).run u)) → takes c op :=
      fun hop hc h => tdmaJob_gives (hc h).2 hp4 (hc h).1 hop hidle hlo hhi hhost
    exact ⟨htakes (by decide) fun h => ⟨channel_of_wellFormed h.1, reach_tdmaRead h⟩,
      htakes (by decide) fun h => ⟨channel_of_wellFormed h.1, reach_tdmaWrite h⟩,
      htakes (by decide) fun h => ⟨channel_of_wellFormed h.1, reach_tdmaFind h⟩,
      htakes (by decide) fun h => ⟨channel_of_wellFormed h.1, reach_tdmaInsert h⟩,
      htakes (by decide) fun h => ⟨channel_of_wellFormed h.1, reach_tdmaDelete h⟩⟩
  · intro y hj hon hy halone ends mac fid words
    have hends : ∀ {r m i t}, TdmaEnds p j r m i t → ends r m i t := fun h => ⟨h.job, h.stat, h.done, h.error⟩
    refine ⟨fun hrefused => ?_, fun m hmoved hres hidx hm hreach hend => ⟨fun hop _ => ?_, fun hop _ _ htable _ => ?_⟩,
      fun hleft => ⟨fun z hop hfind => ?_, fun hop hfind => ?_, fun z hop hplace => ?_, fun z hop hfind => ?_⟩⟩
    · obtain ⟨t, ht, hend, hrest⟩ := tdmaJobDone_refused_gives hp hp4 hj hup hon hy hrefused
      exact ⟨t, ht, hends hend, hrest⟩
    · obtain ⟨t, ht, hend, hrest⟩ := tdmaJobDone_read_gives hp hp4 hj hup hon hy halone hmoved hres hidx hm hreach hend hop
      exact ⟨t, ht, hends hend, hrest⟩
    · obtain ⟨t, ht, hend, hrest⟩ := tdmaJobDone_write_gives hp hp4 hj hup hon hy halone hmoved hres hidx hm hreach hend hop htable
      exact ⟨t, ht, hends hend, hrest⟩
    · obtain ⟨t, ht, hend, hrest⟩ := tdmaJobDone_find_gives hp hp4 hj hup hon hy halone hleft hop hfind
      exact ⟨t, ht, hends hend, hrest⟩
    · obtain ⟨t, ht, hend, hrest⟩ := tdmaJobDone_miss_gives hp hp4 hj hup hon hy halone hleft hop hfind
      exact ⟨t, ht, hends hend, hrest⟩
    · obtain ⟨t, ht, hend, hrest⟩ := tdmaJobDone_insert_gives hp hp4 hj hup hon hy halone hleft hop hplace
      exact ⟨t, ht, hends hend, hrest⟩
    · obtain ⟨t, ht, hend, hrest⟩ := tdmaJobDone_delete_gives hp hp4 hj hup hon hy halone hleft hop hfind
      exact ⟨t, ht, hends hend, hrest⟩
  · exact fun tb r htb hr hlock hlong => tdmaLockExpire_gives hp hup htb hr hlock hlong
  · exact fun hf hpending hdue => gclSwitch_gives hp hp4 hf hup hpending hdue
  · exact fun hf hnext => gateEntryBegin_next_gives hp hf hup hnext
  · exact fun hf hlast e l hlist hheld => gateEntryBegin_cycle_gives hp hf hup hlast hlist hheld
  · intro h len cyc good
    exact ⟨fun hgood hon => gclConfigChange_scheduled_gives hp4 h rfl rfl hgood hon,
      fun hbad => gclConfigChange_refused_gives h rfl rfl hbad⟩

end Sys2Proof.Proofs

/-! The nets' records read after a change, the registers of the bus controllers, and the two ways in which a bus command ends. -/

namespace Sys2Proof.Machine

/-- A command whose part is there is its operation. -/
theorem go_when {c : Prop} [Decidable c] (h : c) (A : Act) (s : State) : Act.go (Act.when c A) s = .next (A.run s) := by
  rw [Act.go_eq, Act.when_run, if_pos h]

/-! ### The records of the nets, read after a change -/

/-- The CAN controller that was changed. -/
@[simp] theorem can_modCan (k : Nat) (f : CanCtl → CanCtl) (s : State) : ((Act.modCan k f).run s).can k = f (s.can k) := by
  simp only [Act.modCan, Act.get_run, State.can, Act_setCan_nets, Sparse.get_put, if_true]

/-- The LIN controller that was changed. -/
@[simp] theorem lin_modLin (k : Nat) (f : LinCtl → LinCtl) (s : State) : ((Act.modLin k f).run s).lin k = f (s.lin k) := by
  simp only [Act.modLin, Act.get_run, State.lin, Act_setLin_nets, Sparse.get_put, if_true]

/-- A conditional change of a CAN controller. -/
theorem can_when (b : Prop) [Decidable b] (k : Nat) (f : CanCtl → CanCtl) (z : State) :
    ((Act.when b (Act.modCan k f)).run z).can k = if b then f (z.can k) else z.can k := by
  rw [Act.when_run]
  split
  · exact can_modCan k f z
  · rfl

/-- A conditional change of a LIN controller. -/
theorem lin_when (b : Prop) [Decidable b] (k : Nat) (f : LinCtl → LinCtl) (z : State) :
    ((Act.when b (Act.modLin k f)).run z).lin k = if b then f (z.lin k) else z.lin k := by
  rw [Act.when_run]
  split
  · exact lin_modLin k f z
  · rfl

/-- The transceiver that was changed. -/
@[simp] theorem xcvr_modXcvr (k : Nat) (f : Xcvr → Xcvr) (s : State) : ((Act.modXcvr k f).run s).xcvr k = f (s.xcvr k) := by
  simp only [Act.modXcvr, Act.get_run, State.xcvr, Act_setXcvr_nets, Sparse.get_put, if_true]

/-- The tracker entries after one was set. -/
theorem trk_setTrk (k : Nat) (v : Option (Nat × Nat)) (s : State) (j : Nat) :
    ((Act.setTrk k v).run s).trk j = if j = k then v else s.trk j := by
  simp only [State.trk, Act_setTrk_nets, Sparse.get_put]

/-- The publish buffer that was set. -/
@[simp] theorem pub_setPub (k : Nat) (v : Nat × Bool) (s : State) : ((Act.setPub k v).run s).pub k = v := by
  simp only [State.pub, Act_setPub_nets, Sparse.get_put, if_true]

/-- The LIN_SUP condition that was set. -/
@[simp] theorem linOver_setLinOver (k : Nat) (v : Bool) (s : State) : ((Act.setLinOver k v).run s).linOver k = v := by
  simp only [State.linOver, Act_setLinOver_nets, Sparse.get_put, if_true]

/-! ### Registers -/

/-- A register that was set holds its word. -/
theorem setReg_holds (a : Nat) (v : Word) (s : State) : Holds ((Act.setReg a v).run s) a v := by
  rw [Holds, Act.setReg_run, State.reg_storeReg, if_pos rfl]

/-- Setting a register leaves the others. -/
theorem reg_setReg_other {a b : Nat} (h : b ≠ a) (v : Word) (s : State) : ((Act.setReg a v).run s).reg b = s.reg b := by
  rw [Act.setReg_run, State.reg_storeReg, if_neg h]

/-- Two registers with one row implement the same fields. -/
theorem implements_congr {a b : Nat} (h : regRow a = regRow b) (f : Fld) : implements a f = implements b f := by
  rw [implements, implements, regMask, regMask, h]

/-- The registers of every CAN controller implement the fields of the first one's. -/
theorem implements_can {p c r : Nat} (hp : p < 4) (hc : c < 16) (hr : r < 8192) (f : Fld) :
    implements (ra p (0x40 + c) r) f = implements (ra 0 0x40 r) f :=
  implements_congr ((regRow_can hp hc hr).trans (regRow_can (p := 0) (c := 0) (by decide) (by decide) hr).symm) f

/-- The registers of every LIN controller implement the fields of the first one's. -/
theorem implements_lin {p c r : Nat} (hp : p < 4) (hc : c < 8) (hr : r < 8192) (f : Fld) :
    implements (ra p (0x50 + c) r) f = implements (ra 0 0x50 r) f :=
  implements_congr ((regRow_lin hp hc hr).trans (regRow_lin (p := 0) (c := 0) (by decide) (by decide) hr).symm) f

/-! ### Commands that are done, and commands that are refused (R154) -/

/-- A command that a state of its own ends with OK: what holds of the state with its reply given. -/
theorem gives_ok {i : Instr} {s t : State} {w : Sender} {ag : Agent} {a : Nat} {P : State → Prop}
    (hrun : exec i s = .next ((Act.ends w ag a .ok).run t)) (h : P { t with out := endOut w .ok t.out }) : Gives i s P :=
  ⟨_, hrun.trans (congrArg _ (Act.ends_ok w ag a t)), h⟩

/-- What a command whose value its register refuses leaves: BLK_ERR of the block and the reply, and nothing else of tables, nets and
registers (R146, R154). -/
structure TurnedAway (a : Nat) (w : Sender) (s t : State) : Prop where
  tbls : t.tbls = s.tbls
  nets : t.nets = s.nets
  regs : OnlyRegs [BLK_ERR (aDie a) (aBlk a)] s t
  out : t.out = endOut w .badValue s.out

theorem badValue_ends (a : Nat) (ag : Agent) (w : Sender) (s : State) :
    TurnedAway a w s ((Act.badValue a ag (Act.ends w ag a)).run s) := by
  obtain ⟨⟨-, -, -, hregs⟩, hout⟩ := blkErr_ends a 0 ag w .badValue s
  have htouch : Touches (Act.badValue a ag (Act.ends w ag a)) [.regs, .evtNo, .upsets, .irqs, .out] :=
    .seq (touches_Act_blkErr (by decide)) ((touches_ends ..).mono (by decide))
  exact ⟨htouch.same s .tbls (by decide), htouch.same s .nets (by decide), hregs, hout⟩

/-- A register of the lower half of a block keeps its fields in a refusal. -/
theorem TurnedAway.fld {d b r q : Nat} {w : Sender} {s t : State} (h : TurnedAway (ra d b r) w s t) (hb : b < 256) (hr : r < 8192)
    (hq : q < 0x1FFE) (f : Fld) : t.fld (ra d b q) f = s.fld (ra d b q) f := by
  have hne : ra d b q ∉ [BLK_ERR (aDie (ra d b r)) (aBlk (ra d b r))] := by
    rw [aDie_ra hb hr, aBlk_ra hb hr, List.mem_singleton, BLK_ERR]
    unfold ra
    omega
  rw [State.fld, h.regs _ hne, State.fld]

end Sys2Proof.Machine

/-! CAN frames (R404, R431, R434): the echo of a frame of FORMAT 5 is counted at counter 7, where the frames sent are counted. -/

namespace Sys2Proof.Machine

/-- A controller that uses its balls, accepts every frame and echoes what it sends; a frame of FORMAT 5 heads its queue and is pending. -/
def echoesUnknown : State :=
  { regs := [(CAN.CFG 0 0, word [(CAN.CFG.EXT, 1), (CAN.CFG.DEFAULT_ACCEPT, 1), (CAN.CFG.ECHO, 1)])]
    start := { step := 15 }
    nets := { cans := [(canKey 0 0, { st := .active, pend := some (queueNo 32 0 0) })] }
    sw := { queues := [(globalQueue 0 (queueNo 32 0 0), { refs := [{ fr := { data := [0xA0] } }] })] } }

/-- Counter 7 counts the frame once as sent and once as an echo of FORMAT 5, at counter 2 + 5. -/
theorem echoesUnknown_counts_twice : ((canTransmitDone 0 0 0 0).run echoesUnknown).reg (CAN.CNT 0 0 7) = 2 := by decide +kernel

/-- One count would leave it at 1. -/
theorem echoesUnknown_not_counted : ¬ Counted (CAN.CNT 0 0 7) 1 echoesUnknown ((canTransmitDone 0 0 0 0).run echoesUnknown) := by
  rw [Counted, Holds, echoesUnknown_counts_twice]
  decide +kernel

end Sys2Proof.Machine

namespace Sys2Proof.Proofs

open Sys2Proof.Machine

/-- Refutes O39: the clause of a frame sent leaves the FORMAT of the pending frame open. A frame of FORMAT 5, which R404 would have
discarded before it became pending, is sent and echoed; the echo counts its format at counter 2 + 5, so that counter 7 stands two higher. -/
theorem not_canFramesAndErrors : ¬ Obligations.CanFramesAndErrors := by
  unfold Obligations.CanFramesAndErrors
  intro h
  have hp : 0 < echoesUnknown.x := by decide
  have hup : echoesUnknown.prismUp = true := by decide +kernel
  obtain ⟨-, hpending, -⟩ := h echoesUnknown 0 0 [] 0 hp (by decide) (by decide) hup
  obtain ⟨hsent, -, -⟩ := hpending (queueNo 32 0 0) { fr := { data := [0xA0] } } [] 0 (by decide) (by decide) (.inl (by decide))
  obtain ⟨t, ht, -, -, -, hcount, -⟩ := hsent (by decide) (by decide) (by decide) (by decide +kernel) (by decide +kernel)
  have hexec : exec (.canTransmitDone 0 0 0 0) echoesUnknown = .next ((canTransmitDone 0 0 0 0).run echoesUnknown) :=
    go_when (⟨hp, by decide, hup⟩ : 0 < echoesUnknown.x ∧ 0 < 16 ∧ echoesUnknown.prismUp = true) _ _
  rw [hexec] at ht
  cases ht
  exact echoesUnknown_not_counted hcount

end Sys2Proof.Proofs

/-! CAN commands (R400, R401, R405, R412, R416, R432, R433): the commands of CAN.CMD, of the filter elements and of the tracker. -/

namespace Sys2Proof.Machine

section
variable {s u : State} {w : Sender} {ag : Agent} {p c v : Nat}

/-! ### CAN.CMD (R405, R412, R430) -/

/-- The record after RECOVER: bus off, or asleep over bus off, begins to recover. -/
def CanCtl.recovered (u : CanCtl) : CanCtl :=
  if u.st = .busOff then { u with st := .recovering }
  else if u.st = .sleep ∧ u.before = .busOff then { u with before := .recovering }
  else u

/-- The record after ABORT_TX. -/
def CanCtl.aborting (u : CanCtl) : CanCtl := { u with abort := u.pend.isSome }

theorem CanCtl.recovered_busOff {u : CanCtl} (h : u.st = .busOff) : u.recovered.st = .recovering := by
  rw [CanCtl.recovered, if_pos h]

theorem CanCtl.recovered_st {u : CanCtl} (h : u.st ≠ .busOff) : u.recovered.st = u.st := by
  rw [CanCtl.recovered, if_neg h]
  split <;> rfl

theorem CanCtl.recovered_pend (u : CanCtl) : u.recovered.pend = u.pend := by
  unfold CanCtl.recovered
  split
  · rfl
  · split <;> rfl

/-- The record after a write of CAN.CMD with the two bits. -/
def CanCtl.commanded (u : CanCtl) (recover abort : Prop) [Decidable recover] [Decidable abort] : CanCtl :=
  let r := if recover then u.recovered else u
  if abort then r.aborting else r

/-- ABORT_TX leaves the state of the controller that RECOVER gives. -/
theorem CanCtl.commanded_st (u : CanCtl) {recover abort : Prop} [Decidable recover] [Decidable abort] (h : recover) :
    (u.commanded recover abort).st = u.recovered.st := by
  rw [CanCtl.commanded, if_pos h]
  split <;> rfl

/-- RECOVER leaves the pending frame, which ABORT_TX asks to be given up. -/
theorem CanCtl.commanded_abort (u : CanCtl) {recover abort : Prop} [Decidable recover] [Decidable abort] (h : abort) :
    (u.commanded recover abort).abort = u.pend.isSome ∧ (u.commanded recover abort).pend = u.pend := by
  have hpend : (if recover then u.recovered else u).pend = u.pend := by
    split
    · exact CanCtl.recovered_pend u
    · rfl
  rw [CanCtl.commanded, if_pos h]
  exact ⟨congrArg Option.isSome hpend, hpend⟩

/-- A write of CAN.CMD makes the operations whose bits are set, and is done. -/
theorem canCmd_leaves (x : Word) (k : Code → Act) (u : State) : ∃ t, (canCmd p c x k).run u = (k .ok).run t ∧ t.out = u.out ∧
    t.can (canKey p c) = (u.can (canKey p c)).commanded (fget x CAN.CMD.RECOVER = 1) (fget x CAN.CMD.ABORT_TX = 1) := by
  refine ⟨_, rfl, ?_, ?_⟩
  · have htouch : Touches (Act.seq (Act.when (fget x CAN.CMD.RECOVER = 1) (canRecover p c))
        (Act.when (fget x CAN.CMD.ABORT_TX = 1) (canAbortTx p c))) [.nets] :=
      .seq (.when (touches_canRecover (by decide))) (.when (touches_canAbortTx (by decide)))
    exact htouch.same u .out (by decide)
  · rw [canAbortTx, can_when, canRecover, can_when]
    rfl

theorem canRecover_gives (h : Reaches (.canRecover w p c v) s ag u) : Gives (.canRecover w p c v) s fun t =>
    ((u.can (canKey p c)).st = .busOff → (t.can (canKey p c)).st = .recovering) ∧
      ((u.can (canKey p c)).st ≠ .busOff → (t.can (canKey p c)).st = (u.can (canKey p c)).st) ∧ t.out = endOut w .ok u.out := by
  generalize hx : fset (BitVec.ofNat 48 v) CAN.CMD.RECOVER 1 = x
  have hbit : fget x CAN.CMD.RECOVER = 1 := hx ▸ fget_fset _ _ _ (by decide)
  have hexec := hx ▸ reach_canRecover h
  obtain ⟨t, hrun, hout, hcan⟩ := canCmd_leaves (p := p) (c := c) x (Act.ends w ag (CAN.CMD p c)) u
  have hst : (t.can (canKey p c)).st = (u.can (canKey p c)).recovered.st :=
    (congrArg CanCtl.st hcan).trans (CanCtl.commanded_st _ hbit)
  exact gives_ok (hexec.trans (congrArg _ hrun))
    ⟨fun hoff => hst.trans (CanCtl.recovered_busOff hoff), fun hon => hst.trans (CanCtl.recovered_st hon), congrArg (endOut w .ok) hout⟩

theorem abortTx_gives (h : Reaches (.abortTx w p c v) s ag u) : Gives (.abortTx w p c v) s fun t =>
    (t.can (canKey p c)).abort = (u.can (canKey p c)).pend.isSome ∧ (t.can (canKey p c)).pend = (u.can (canKey p c)).pend ∧
      t.out = endOut w .ok u.out := by
  generalize hx : fset (BitVec.ofNat 48 v) CAN.CMD.ABORT_TX 1 = x
  have hbit : fget x CAN.CMD.ABORT_TX = 1 := hx ▸ fget_fset _ _ _ (by decide)
  have hexec := hx ▸ reach_abortTx h
  obtain ⟨t, hrun, hout, hcan⟩ := canCmd_leaves (p := p) (c := c) x (Act.ends w ag (CAN.CMD p c)) u
  obtain ⟨habort, hpend⟩ := CanCtl.commanded_abort (u.can (canKey p c)) (recover := fget x CAN.CMD.RECOVER = 1) hbit
  exact gives_ok (hexec.trans (congrArg _ hrun))
    ⟨(congrArg CanCtl.abort hcan).trans habort, (congrArg CanCtl.pend hcan).trans hpend, congrArg (endOut w .ok) hout⟩

/-! ### CAN.FILT_CMD (R400, R401, R432) -/

/-- The word of a filter command and its entry: the operation is the one written, INDEX the one given. -/
theorem filtWord {n : Nat} (hn : n < 4) (x : Word) : fget (fset x CAN.FILT_CMD.OP n) CAN.FILT_CMD.OP = n ∧
    fget (fset x CAN.FILT_CMD.OP n) CAN.FILT_CMD.INDEX = fget x CAN.FILT_CMD.INDEX :=
  ⟨(fget_fset _ _ _ (by decide)).trans (Nat.mod_eq_of_lt hn), fget_fset_other _ _ _ _ (by decide) (by decide)⟩

theorem implements_filtCmd (hp : p < 4) (hc : c < 16) : implements (CAN.FILT_CMD p c) CAN.FILT_CMD.RESULT = true := by
  rw [CAN.FILT_CMD, implements_can hp hc (by decide)]
  decide +kernel

/-- A word of FILT_CMD set with RESULT n shows n. -/
theorem filtResult (hp : p < 4) (hc : c < 16) {n : Nat} (hn : n < 4) (x : Word) (s : State) :
    ((Act.setReg (CAN.FILT_CMD p c) (fset x CAN.FILT_CMD.RESULT n)).run s).fld (CAN.FILT_CMD p c) CAN.FILT_CMD.RESULT = n :=
  (fld_setReg (implements_filtCmd hp hc) ..).trans ((fget_fset _ _ _ (by decide)).trans (Nat.mod_eq_of_lt hn))

/-- A refusal after RESULT 2 has been set: it stands, the tables are as before, and the reply is BAD_VALUE. -/
theorem filtRefused_leaves (hp : p < 4) (hc : c < 16) (x : Word) (u : State) :
    let t := (Act.badValue (CAN.FILT_CMD p c) ag (Act.ends w ag (CAN.FILT_CMD p c))).run
      ((Act.setReg (CAN.FILT_CMD p c) (fset x CAN.FILT_CMD.RESULT 2)).run u)
    t.fld (CAN.FILT_CMD p c) CAN.FILT_CMD.RESULT = 2 ∧ t.tbls = u.tbls ∧ t.out = endOut w .badValue u.out := by
  have hturned := badValue_ends (CAN.FILT_CMD p c) ag w ((Act.setReg (CAN.FILT_CMD p c) (fset x CAN.FILT_CMD.RESULT 2)).run u)
  exact ⟨(hturned.fld (by omega) (by decide) (by decide) _).trans (filtResult hp hc (by decide) x u), hturned.tbls, hturned.out⟩

/-- The registers of a filter command are three. -/
theorem filtRegs_ne (p c : Nat) : CAN.FILT_CMD p c ≠ CAN.FILT_W0 p c ∧ CAN.FILT_CMD p c ≠ CAN.FILT_W1 p c ∧
    CAN.FILT_W0 p c ≠ CAN.FILT_W1 p c := by
  unfold CAN.FILT_CMD CAN.FILT_W0 CAN.FILT_W1 ra
  omega

/-- An element beyond COUNT: RESULT 2, and the write is refused. -/
theorem filtCmd_beyond {n : Nat} (hn : n < 4) {x : Word} (h : u.fld (CAN.FILT_CFG p c) CAN.FILT_CFG.COUNT ≤ fget x CAN.FILT_CMD.INDEX)
    (k : Code → Act) : (filtCmd ag p c (fset x CAN.FILT_CMD.OP n) k).run u = (Act.badValue (CAN.FILT_CMD p c) ag k).run
      ((Act.setReg (CAN.FILT_CMD p c) (fset (u.reg (CAN.FILT_CMD p c)) CAN.FILT_CMD.RESULT 2)).run u) := by
  obtain ⟨hop, hindex⟩ := filtWord hn x
  rw [filtCmd, Act.get_run, hop, hindex, if_pos (.inr h)]
  rfl

theorem filtCmdRead_gives (hp : p < 4) (hc : c < 16) (h : Reaches (.filtCmdRead w p c v) s ag u) {i : Nat}
    (hi : fget (BitVec.ofNat 48 v) CAN.FILT_CMD.INDEX = i) (hcount : i < u.fld (CAN.FILT_CFG p c) CAN.FILT_CFG.COUNT) :
    let e := u.fld (CAN.FILT_CFG p c) CAN.FILT_CFG.BASE + i
    Gives (.filtCmdRead w p c v) s fun t =>
      Holds t (CAN.FILT_W0 p c) (u.tbl p 0x4A e 0) ∧ Holds t (CAN.FILT_W1 p c) (u.tbl p 0x4A e 1) ∧
        t.fld (CAN.FILT_CMD p c) CAN.FILT_CMD.RESULT = 0 ∧
        OnlyRegs [CAN.FILT_CMD p c, CAN.FILT_W0 p c, CAN.FILT_W1 p c] u t ∧ t.out = endOut w .ok u.out := by
  intro e
  generalize hx : fset (BitVec.ofNat 48 v) CAN.FILT_CMD.OP 1 = x
  have hrun : exec (.filtCmdRead w p c v) s = .next ((Act.ends w ag (CAN.FILT_CMD p c) .ok).run ((Act.seq
      (Act.setReg (CAN.FILT_CMD p c) (fset x CAN.FILT_CMD.RESULT 0)) (Act.seq (Act.setReg (CAN.FILT_W0 p c) (u.tbl p 0x4A e 0))
        (Act.setReg (CAN.FILT_W1 p c) (u.tbl p 0x4A e 1)))).run u)) := by
    obtain ⟨hop, hindex⟩ := filtWord (n := 1) (by decide) (BitVec.ofNat 48 v)
    rw [reach_filtCmdRead h, filtCmd, Act.get_run, hop, hindex, hi, if_neg (by omega), hx]
    rfl
  obtain ⟨hcmd0, hcmd1, hw01⟩ := filtRegs_ne p c
  have hresult : ∀ w0 w1, ((Act.setReg (CAN.FILT_W1 p c) w1).run ((Act.setReg (CAN.FILT_W0 p c) w0).run
      ((Act.setReg (CAN.FILT_CMD p c) (fset x CAN.FILT_CMD.RESULT 0)).run u))).fld (CAN.FILT_CMD p c) CAN.FILT_CMD.RESULT = 0 := by
    intro w0 w1
    rw [State.fld, reg_setReg_other hcmd1, reg_setReg_other hcmd0]
    exact filtResult hp hc (by decide) x u
  refine gives_ok hrun ⟨?_, setReg_holds .., hresult .., ?_, rfl⟩
  · exact (reg_setReg_other hw01 ..).trans (setReg_holds ..)
  · exact Writes.onlyRegs (.seq (.setReg (by simp)) (.seq (.setReg (by simp)) (.setReg (by simp)))) u

/-- An entry of the filters reads as the words it is written with. -/
theorem filtCmdWrite_gives (hp : p < 4) (hc : c < 16) (h : Reaches (.filtCmdWrite w p c v) s ag u) {i : Nat}
    (hi : fget (BitVec.ofNat 48 v) CAN.FILT_CMD.INDEX = i) (hcount : i < u.fld (CAN.FILT_CFG p c) CAN.FILT_CFG.COUNT)
    (hgood : filtBad (u.reg (CAN.FILT_W0 p c)) (u.reg (CAN.FILT_W1 p c)) = false) :
    let e := u.fld (CAN.FILT_CFG p c) CAN.FILT_CFG.BASE + i
    Gives (.filtCmdWrite w p c v) s fun t =>
      t.tbl p 0x4A e 0 = u.reg (CAN.FILT_W0 p c) ∧ t.tbl p 0x4A e 1 = u.reg (CAN.FILT_W1 p c) ∧
        t.fld (CAN.FILT_CMD p c) CAN.FILT_CMD.RESULT = 0 ∧ OnlyRegs [CAN.FILT_CMD p c] u t ∧ t.out = endOut w .ok u.out := by
  intro e
  generalize hx : fset (BitVec.ofNat 48 v) CAN.FILT_CMD.OP 2 = x
  generalize hl : [u.reg (CAN.FILT_W0 p c), u.reg (CAN.FILT_W1 p c)] = l
  have hrun : exec (.filtCmdWrite w p c v) s = .next ((Act.ends w ag (CAN.FILT_CMD p c) .ok).run ((Act.setTblWords p 0x4A e l).run
      ((Act.setReg (CAN.FILT_CMD p c) (fset x CAN.FILT_CMD.RESULT 0)).run u))) := by
    obtain ⟨hop, hindex⟩ := filtWord (n := 2) (by decide) (BitVec.ofNat 48 v)
    rw [reach_filtCmdWrite h, filtCmd, Act.get_run, hop, hindex, hi, if_neg (by omega), hx, hgood, hl]
    rfl
  have htouch : Touches (Act.setTblWords p 0x4A e l) [.tbls] := touches_Act_setTblWords (by decide)
  have hlen : l.length = 2 := by rw [← hl]; rfl
  have hword : ∀ {n}, n < 2 → ∀ z, ((Act.setTblWords p 0x4A e l).run z).tbl p 0x4A e n = l.getD n 0 := fun hn z =>
    tbl_setTblWords (by omega) p 0x4A e z
  refine gives_ok hrun ⟨?_, ?_, ?_, ?_, congrArg (endOut w .ok) (htouch.same _ .out (by decide))⟩
  · exact (hword (by decide) _).trans (by rw [← hl]; rfl)
  · exact (hword (by decide) _).trans (by rw [← hl]; rfl)
  · exact (writes_Act_setTblWords.fld (P := fun _ => False) id _ _).trans (filtResult hp hc (by decide) x u)
  · exact Writes.onlyRegs (.seq (.setReg (by simp)) writes_Act_setTblWords) u

/-- A filter command that R400 or R432 does not allow. -/
theorem filtCmdRead_refused_gives (hp : p < 4) (hc : c < 16) (h : Reaches (.filtCmdRead w p c v) s ag u)
    (hbeyond : u.fld (CAN.FILT_CFG p c) CAN.FILT_CFG.COUNT ≤ fget (BitVec.ofNat 48 v) CAN.FILT_CMD.INDEX) :
    Gives (.filtCmdRead w p c v) s fun t =>
      t.fld (CAN.FILT_CMD p c) CAN.FILT_CMD.RESULT = 2 ∧ t.tbls = u.tbls ∧ t.out = endOut w .badValue u.out :=
  ⟨_, (reach_filtCmdRead h).trans (congrArg _ (filtCmd_beyond (by decide) hbeyond _)), filtRefused_leaves hp hc ..⟩

/-- A bad element is refused as an element beyond COUNT is. -/
theorem filtCmdWrite_bad {i : Nat} {x : Word} (hi : fget x CAN.FILT_CMD.INDEX = i)
    (hcount : i < u.fld (CAN.FILT_CFG p c) CAN.FILT_CFG.COUNT)
    (hbad : filtBad (u.reg (CAN.FILT_W0 p c)) (u.reg (CAN.FILT_W1 p c)) = true) (k : Code → Act) :
    (filtCmd ag p c (fset x CAN.FILT_CMD.OP 2) k).run u = (Act.badValue (CAN.FILT_CMD p c) ag k).run
      ((Act.setReg (CAN.FILT_CMD p c) (fset (fset x CAN.FILT_CMD.OP 2) CAN.FILT_CMD.RESULT 2)).run u) := by
  obtain ⟨hop, hindex⟩ := filtWord (n := 2) (by decide) x
  rw [filtCmd, Act.get_run, hop, hindex, hi, if_neg (by omega), hbad]
  rfl

theorem filtCmdWrite_refused_gives (hp : p < 4) (hc : c < 16) (h : Reaches (.filtCmdWrite w p c v) s ag u)
    (hrefused : u.fld (CAN.FILT_CFG p c) CAN.FILT_CFG.COUNT ≤ fget (BitVec.ofNat 48 v) CAN.FILT_CMD.INDEX ∨
      filtBad (u.reg (CAN.FILT_W0 p c)) (u.reg (CAN.FILT_W1 p c)) = true) : Gives (.filtCmdWrite w p c v) s fun t =>
      t.tbls = u.tbls ∧ t.fld (CAN.FILT_CMD p c) CAN.FILT_CMD.RESULT = 2 ∧ t.out = endOut w .badValue u.out := by
  have hleaves : ∀ x, (filtCmd ag p c (fset (BitVec.ofNat 48 v) CAN.FILT_CMD.OP 2) (Act.ends w ag (CAN.FILT_CMD p c))).run u =
      (Act.badValue (CAN.FILT_CMD p c) ag (Act.ends w ag (CAN.FILT_CMD p c))).run
        ((Act.setReg (CAN.FILT_CMD p c) (fset x CAN.FILT_CMD.RESULT 2)).run u) → Gives (.filtCmdWrite w p c v) s fun t =>
      t.tbls = u.tbls ∧ t.fld (CAN.FILT_CMD p c) CAN.FILT_CMD.RESULT = 2 ∧ t.out = endOut w .badValue u.out := fun x hx => by
    obtain ⟨hfld, htbls, hout⟩ := filtRefused_leaves (w := w) (ag := ag) hp hc x u
    exact ⟨_, (reach_filtCmdWrite h).trans (congrArg _ hx), htbls, hfld, hout⟩
  by_cases hbeyond : u.fld (CAN.FILT_CFG p c) CAN.FILT_CFG.COUNT ≤ fget (BitVec.ofNat 48 v) CAN.FILT_CMD.INDEX
  · exact hleaves _ (filtCmd_beyond (by decide) hbeyond _)
  · exact hleaves _ (filtCmdWrite_bad rfl (by omega) (hrefused.resolve_left hbeyond) _)

/-! ### CAN.AC_CMD (R416, R433) -/

/-- The word of a tracker command: the operation is the one written, INDEX the one given. -/
theorem acWord {n : Nat} (hn : n < 4) (x : Word) :
    fget (fset x CAN.AC_CMD.OP n) CAN.AC_CMD.OP = n ∧ fget (fset x CAN.AC_CMD.OP n) CAN.AC_CMD.INDEX = fget x CAN.AC_CMD.INDEX :=
  ⟨(fget_fset _ _ _ (by decide)).trans (Nat.mod_eq_of_lt hn), fget_fset_other _ _ _ _ (by decide) (by decide)⟩

/-- The report of a tracker command in AC_CMD. -/
def acReport (idx op res : Nat) : Word := word [(CAN.AC_CMD.INDEX, idx), (CAN.AC_CMD.OP, op), (CAN.AC_CMD.RESULT, res)]

theorem acReport_eq (idx op res : Nat) :
    acReport idx op res = fset (fset (fset 0 CAN.AC_CMD.INDEX idx) CAN.AC_CMD.OP op) CAN.AC_CMD.RESULT res := rfl

/-- A report that is set shows its address and its result. -/
theorem acReport_shows (hp : p < 4) (hc : c < 16) {idx res : Nat} (hidx : idx < 256) (hres : res < 4) (op : Nat) (s : State) :
    let t := (Act.setReg (CAN.AC_CMD p c) (acReport idx op res)).run s
    t.fld (CAN.AC_CMD p c) CAN.AC_CMD.INDEX = idx ∧ t.fld (CAN.AC_CMD p c) CAN.AC_CMD.RESULT = res := by
  have himpl : ∀ f, implements (CAN.AC_CMD 0 0) f = true → implements (CAN.AC_CMD p c) f = true := fun f hf => by
    rw [CAN.AC_CMD, implements_can hp hc (by decide)]
    exact hf
  constructor
  · rw [fld_setReg (himpl _ (by decide +kernel)), acReport_eq,
      fget_fset_other _ _ _ _ (by decide) (by decide), fget_fset_other _ _ _ _ (by decide) (by decide), fget_fset _ _ _ (by decide)]
    exact Nat.mod_eq_of_lt hidx
  · rw [fld_setReg (himpl _ (by decide +kernel)), acReport_eq,
      fget_fset _ _ _ (by decide)]
    exact Nat.mod_eq_of_lt hres

/-- An emptied tracker has no entry. -/
theorem trkEmpty_empties {a : Nat} (ha : a < 254) (s : State) : ((Act.trkEmpty p c).run s).trk (trkKey p c a) = none := by
  have hkeep : ∀ b z, z.trk (trkKey p c a) = none → ((Act.setTrk (trkKey p c b) none).run z).trk (trkKey p c a) = none := by
    intro b z hz
    rw [trk_setTrk]
    split
    · rfl
    · exact hz
  rw [Act.trkEmpty, Act.get_run]
  cases hentry : s.trk (trkKey p c a) with
  | none => exact Act.each_preserves (g := fun b => Act.setTrk (trkKey p c b) none) _ (fun b z => hkeep b z) hentry
  | some x =>
    refine Act.each_establishes (Q := fun z => z.trk (trkKey p c a) = none) (g := fun b => Act.setTrk (trkKey p c b) none) (x := a)
      (List.mem_filter.mpr ⟨List.mem_range.mpr ha, by rw [hentry]; rfl⟩) (fun z => ?_) (fun b z => hkeep b z) s
    rw [trk_setTrk, if_pos rfl]

theorem acCmdRead_gives (hp : p < 4) (hc : c < 16) (h : Reaches (.acCmdRead w p c v) s ag u) {i : Nat}
    (hindex : fget (BitVec.ofNat 48 v) CAN.AC_CMD.INDEX = i) (hi : i ≤ 253) : Gives (.acCmdRead w p c v) s fun t =>
      let n := (((u.trk (trkKey p c i)).map (·.1)).getD 0)
      Holds t (CAN.AC_W0 p c) (BitVec.ofNat 48 n) ∧
        Holds t (CAN.AC_W1 p c) (word [(CAN.AC_W1.NAME_H, n / 2 ^ 48), (CAN.AC_W1.VALID, b2n (u.trk (trkKey p c i)).isSome),
          (CAN.AC_W1.IDLE_S, ((u.trk (trkKey p c i)).map (·.2)).getD 0)]) ∧
        t.fld (CAN.AC_CMD p c) CAN.AC_CMD.RESULT = 0 ∧ t.out = endOut w .ok u.out := by
  dsimp only
  generalize hw0 : BitVec.ofNat 48 (((u.trk (trkKey p c i)).map (·.1)).getD 0) = w0
  generalize hw1 : word [(CAN.AC_W1.NAME_H, (((u.trk (trkKey p c i)).map (·.1)).getD 0) / 2 ^ 48),
    (CAN.AC_W1.VALID, b2n (u.trk (trkKey p c i)).isSome), (CAN.AC_W1.IDLE_S, ((u.trk (trkKey p c i)).map (·.2)).getD 0)] = w1
  have hrun : exec (.acCmdRead w p c v) s = .next ((Act.ends w ag (CAN.AC_CMD p c) .ok).run ((Act.setReg (CAN.AC_W1 p c) w1).run
      ((Act.setReg (CAN.AC_W0 p c) w0).run ((Act.setReg (CAN.AC_CMD p c) (acReport i 1 0)).run u)))) := by
    obtain ⟨hop, hkeeps⟩ := acWord (n := 1) (by decide) (BitVec.ofNat 48 v)
    rw [reach_acCmdRead h, acCmd, Act.get_run, hop, hkeeps, hindex, if_neg (by omega), ← hw0, ← hw1]
    rfl
  have hne : CAN.AC_CMD p c ≠ CAN.AC_W0 p c ∧ CAN.AC_CMD p c ≠ CAN.AC_W1 p c ∧ CAN.AC_W0 p c ≠ CAN.AC_W1 p c := by
    unfold CAN.AC_CMD CAN.AC_W0 CAN.AC_W1 ra
    omega
  obtain ⟨hcmd0, hcmd1, hw01⟩ := hne
  have hresult : ((Act.setReg (CAN.AC_W1 p c) w1).run ((Act.setReg (CAN.AC_W0 p c) w0).run
      ((Act.setReg (CAN.AC_CMD p c) (acReport i 1 0)).run u))).fld (CAN.AC_CMD p c) CAN.AC_CMD.RESULT = 0 := by
    rw [State.fld, reg_setReg_other hcmd1, reg_setReg_other hcmd0]
    exact (acReport_shows hp hc (by omega) (by decide) 1 u).2
  exact gives_ok hrun ⟨(reg_setReg_other hw01 ..).trans (setReg_holds ..), setReg_holds .., hresult, rfl⟩

theorem acCmdFind_gives (hp : p < 4) (hc : c < 16) (h : Reaches (.acCmdFind w p c v) s ag u)
    (hi : fget (BitVec.ofNat 48 v) CAN.AC_CMD.INDEX ≤ 253) : Gives (.acCmdFind w p c v) s fun t =>
      let n := (u.reg (CAN.AC_W0 p c)).toNat + 2 ^ 48 * u.fld (CAN.AC_W1 p c) CAN.AC_W1.NAME_H
      (∀ y, (u.holders p c n).head? = some y →
        t.fld (CAN.AC_CMD p c) CAN.AC_CMD.INDEX = y ∧ t.fld (CAN.AC_CMD p c) CAN.AC_CMD.RESULT = 0) ∧
      (u.holders p c n = [] → t.fld (CAN.AC_CMD p c) CAN.AC_CMD.RESULT = 2) ∧
      OnlyRegs [CAN.AC_CMD p c] u t ∧ t.out = endOut w .ok u.out := by
  dsimp only
  generalize hn : (u.reg (CAN.AC_W0 p c)).toNat + 2 ^ 48 * u.fld (CAN.AC_W1 p c) CAN.AC_W1.NAME_H = n
  obtain ⟨hop, hkeeps⟩ := acWord (n := 2) (by decide) (BitVec.ofNat 48 v)
  have hregs : ∀ x, OnlyRegs [CAN.AC_CMD p c] u ((Act.setReg (CAN.AC_CMD p c) x).run u) := fun x =>
    Writes.onlyRegs (.setReg (by simp)) u
  cases hholders : u.holders p c n with
  | nil =>
    have hrun : exec (.acCmdFind w p c v) s = .next ((Act.ends w ag (CAN.AC_CMD p c) .ok).run
        ((Act.setReg (CAN.AC_CMD p c) (acReport (fget (BitVec.ofNat 48 v) CAN.AC_CMD.INDEX) 2 2)).run u)) := by
      rw [reach_acCmdFind h, acCmd, Act.get_run, hop, hkeeps, if_neg (by omega)]
      simp only [hn, hholders]
      rfl
    exact gives_ok hrun ⟨nofun, fun _ => (acReport_shows hp hc (by omega) (by decide) 2 u).2, hregs _, rfl⟩
  | cons y l =>
    have hrun : exec (.acCmdFind w p c v) s = .next ((Act.ends w ag (CAN.AC_CMD p c) .ok).run
        ((Act.setReg (CAN.AC_CMD p c) (acReport y 2 0)).run u)) := by
      rw [reach_acCmdFind h, acCmd, Act.get_run, hop, hkeeps, if_neg (by omega)]
      simp only [hn, hholders]
      rfl
    have hy : y < 254 := by
      have hmem : y ∈ u.holders p c n := by rw [hholders]; exact List.mem_cons_self ..
      exact List.mem_range.mp (List.mem_filter.mp hmem).1
    refine gives_ok hrun ⟨fun z hz => ?_, nofun, hregs _, rfl⟩
    cases hz
    exact acReport_shows hp hc (by omega) (by decide) 2 u

theorem acCmdEmpty_gives (hp : p < 4) (hc : c < 16) (h : Reaches (.acCmdEmpty w p c v) s ag u) {i : Nat}
    (hindex : fget (BitVec.ofNat 48 v) CAN.AC_CMD.INDEX = i) (hi : i ≤ 253) : Gives (.acCmdEmpty w p c v) s fun t =>
      (∀ a, a < 254 → t.trk (trkKey p c a) = none) ∧ t.fld (CAN.AC_CMD p c) CAN.AC_CMD.RESULT = 0 ∧
        OnlyRegs [CAN.AC_CMD p c] u t ∧ t.out = endOut w .ok u.out := by
  have hrun : exec (.acCmdEmpty w p c v) s = .next ((Act.ends w ag (CAN.AC_CMD p c) .ok).run ((Act.trkEmpty p c).run
      ((Act.setReg (CAN.AC_CMD p c) (acReport i 3 0)).run u))) := by
    obtain ⟨hop, hkeeps⟩ := acWord (n := 3) (by decide) (BitVec.ofNat 48 v)
    rw [reach_acCmdEmpty h, acCmd, Act.get_run, hop, hkeeps, hindex, if_neg (by omega)]
    rfl
  have htouch : Touches (Act.trkEmpty p c) [.nets] := touches_Act_trkEmpty (by decide)
  refine gives_ok hrun ⟨fun a ha => trkEmpty_empties ha _, ?_, ?_, congrArg (endOut w .ok) (htouch.same _ .out (by decide))⟩
  · exact (writes_Act_trkEmpty.fld (P := fun _ => False) id _ _).trans (acReport_shows hp hc (by omega) (by decide) 3 u).2
  · exact Writes.onlyRegs (.seq (.setReg (by simp)) writes_Act_trkEmpty) u

end

end Sys2Proof.Machine

namespace Sys2Proof.Proofs

open Sys2Proof.Machine

/-- Settles O40: a command of CAN.CMD changes the controller's record by the bits written, a filter or tracker command reports in its
register what its operation read, wrote, found or emptied, and an element beyond COUNT or against R400 is refused. -/
theorem canCommands : Obligations.CanCommands := by
  unfold Obligations.CanCommands
  intro s u w ag p c v hp hc
  refine ⟨canRecover_gives, abortTx_gives, fun h => ⟨filtCmdRead_gives hp hc h rfl, filtCmdRead_refused_gives hp hc h⟩,
    fun h => ⟨filtCmdWrite_gives hp hc h rfl, filtCmdWrite_refused_gives hp hc h⟩, fun hi => ⟨?_, ?_, ?_⟩⟩
  · exact fun h => acCmdRead_gives hp hc h rfl hi
  · exact fun h => acCmdFind_gives hp hc h hi
  · exact fun h => acCmdEmpty_gives hp hc h rfl hi

end Sys2Proof.Proofs

/-! LIN slots and responses (R389, R393, R417 to R423, R425): a slot's boundary, its entry by TYPE, the response, a faulty bus and the
publish buffers. -/

namespace Sys2Proof.Machine

/-! ### Counters, events and the bus of a LIN controller (R389, R422, R435, R437) -/

/-- Counter a counts one more, and no other register outside DEV changes. -/
structure CountsOnly (a : Nat) (s t : State) : Prop where
  counted : Counted a 1 s t
  other : ∀ b, aBlk b ≠ 0 → b ≠ a → t.reg b = s.reg b

theorem count_countsOnly {a : Nat} (ha : aBlk a ≠ 0) (s : State) : CountsOnly a s ((Act.count a).run s) :=
  ⟨count_counted ha s, fun _ hb hne => (countBy_keeps hb hne.symm 1).same s⟩

section
variable {p c : Nat}

/-- A register of a LIN controller is not in DEV. -/
theorem lin_blk {r : Nat} (hc : c < 8) (hr : r < 8192) : aBlk (ra p (0x50 + c) r) ≠ 0 := by
  rw [aBlk_ra (by omega) hr]
  omega

theorem linCount_countsOnly {i : Nat} (hc : c < 8) (hi : i < 64) (s : State) :
    CountsOnly (LIN.CNT p c i) s ((Act.linCount p c i).run s) := count_countsOnly (lin_blk hc (by omega)) s

theorem linCnt_ne {i j : Nat} (h : i ≠ j) : LIN.CNT p c i ≠ LIN.CNT p c j := by
  unfold LIN.CNT ra
  omega

/-- The LIN controllers are in the nets. -/
theorem lin_congr {s t : State} (h : t.nets = s.nets) (k : Nat) : t.lin k = s.lin k :=
  congrArg (fun n : Buses => Sparse.get linBlank n.lins k) h

/-- The receive buffers are in the switch. -/
theorem buf_congr {s t : State} (h : t.sw = s.sw) (k : Nat) : t.buf k = s.buf k :=
  congrArg (fun w : Switch => Sparse.get bufBlank w.bufs k) h

/-- What does not touch the nets leaves the LIN controllers. -/
theorem Touches.keepsLin {A : Act} {S : List Part} (h : Touches A S) (hS : Part.nets ∉ S) (k : Nat) : Keeps (fun s => s.lin k) A :=
  ⟨fun s => lin_congr (h.same s .nets hS) k⟩

/-- What does not touch the nets leaves the publish buffers. -/
theorem Touches.keepsPubs {A : Act} {S : List Part} (h : Touches A S) (hS : Part.nets ∉ S) : Keeps (fun s => s.nets.pubs) A :=
  ⟨fun s => congrArg Buses.pubs (h.same s .nets hS)⟩

/-- What does not touch the output sends nothing. -/
theorem Touches.keepsOut {A : Act} {S : List Part} (h : Touches A S) (hS : Part.out ∉ S) : Keeps (fun s => s.out) A :=
  ⟨fun s => h.same s .out hS⟩

/-- A count and an event with it: both are recorded, and neither enters the nets or the switch. -/
structure CountsEvent (p c i b : Nat) (s t : State) : Prop where
  counted : Counted (LIN.CNT p c i) 1 s t
  logged : Logged (LIN.EVT p c) b s t
  nets : t.nets = s.nets
  sw : t.sw = s.sw
  out : t.out = s.out

theorem countEvent {i : Nat} (hc : c < 8) (hi : i < 64) (b : Nat) (s : State) :
    CountsEvent p c i b s ((Act.event (LIN.EVT p c) b).run ((Act.linCount p c i).run s)) := by
  have hne : LIN.EVT p c ≠ LIN.CNT p c i := by
    unfold LIN.EVT LIN.CNT ra
    omega
  have hEVT : aBlk (LIN.EVT p c) ≠ 0 := lin_blk hc (by decide)
  have htouch : Touches (Act.seq (Act.linCount p c i) (Act.event (LIN.EVT p c) b)) [.regs, .evtNo, .upsets, .irqs] :=
    .seq (touches_Act_linCount (by decide)) (touches_Act_event (by decide))
  have hcount := linCount_countsOnly (p := p) hc hi s
  have hno : ((Act.linCount p c i).run s).evtCount (LIN.EVT p c) = s.evtCount (LIN.EVT p c) := countBy_evtCount hEVT ..
  have hkeep : Keeps (fun z => z.reg (LIN.CNT p c i)) (Act.event (LIN.EVT p c) b) :=
    (writes_Act_event (P := fun a => a ≠ LIN.CNT p c i) hne).keeps
  exact ⟨hcount.counted.until (hkeep.same _), (event_logged (LIN.EVT p c) b _).since_count (hcount.other _ hEVT hne) hno,
    htouch.same s .nets (by decide), htouch.same s .sw (by decide), htouch.same s .out (by decide)⟩

/-- What puts a header, and the response with its checksum, on the bus. -/
def State.linBus (s : State) (p c id : Nat) (enh : Bool) (data : List Byte) : Out :=
  .lin p c (s.fld (LIN.CFG p c) LIN.CFG.BREAK) (s.fld (LIN.CFG p c) LIN.CFG.BIT_TIME) (linPid id)
    (if data.isEmpty then [] else data ++ [linCheck id enh data])

/-- What a frame of the commander looks like does not change with a counter. -/
theorem linBus_congr {s t : State} (h : t.reg (LIN.CFG p c) = s.reg (LIN.CFG p c)) (id : Nat) (enh : Bool) (data : List Byte) :
    t.linBus p c id enh data = s.linBus p c id enh data := by
  rw [State.linBus, State.fld, State.fld, h]
  rfl

theorem linOut_out (id : Nat) (enh : Bool) (data : List Byte) (s : State) :
    ((Act.linOut p c id enh data).run s).out = s.linBus p c id enh data :: s.out := by
  rw [Act.linOut, Act.get_run, Act_emit_out]
  rfl

/-! ### Headers and responses (R418, R422) -/

/-- The record after a header that could be read back. -/
def LinCtl.headed (u : LinCtl) : LinCtl := { u with badHeads := 0, st := if u.st = .busFault then .running else u.st }

/-- A header has gone out and been read back. -/
structure HeaderSent (p c : Nat) (s t : State) : Prop where
  lin : t.lin (linKey p c) = (s.lin (linKey p c)).headed
  counts : CountsOnly (LIN.CNT p c 0) s t
  pubs : t.nets.pubs = s.nets.pubs
  out : t.out = s.out

/-- A header counts, and leaves how the bus is configured. -/
theorem HeaderSent.linBus {s t : State} (h : HeaderSent p c s t) (hc : c < 8) (id : Nat) (enh : Bool) (data : List Byte) :
    t.linBus p c id enh data = s.linBus p c id enh data :=
  linBus_congr (h.counts.other _ (lin_blk hc (by decide)) (by unfold LIN.CFG LIN.CNT ra; omega)) id enh data

theorem linHeader_sent (hc : c < 8) (id late : Nat) (s : State) : HeaderSent p c s ((Act.linHeader p c id late true).run s) := by
  have hrun : (Act.linHeader p c id late true).run s = (Act.offerMon p 0x048 (48 + c) late).run
      ((Act.modLin (linKey p c) LinCtl.headed).run ((Act.linCount p c 0).run s)) := rfl
  have hcounts := linCount_countsOnly (p := p) hc (i := 0) (by decide) s
  have hcount : Touches (Act.linCount p c 0) [.regs, .evtNo, .upsets, .irqs] := touches_Act_linCount (by decide)
  have hoffer : Touches (Act.offerMon p 0x048 (48 + c) late) [.mon] := touches_Act_offerMon (by decide)
  have hmod : Touches (Act.modLin (linKey p c) LinCtl.headed) [.nets] := touches_Act_modLin (by decide)
  have hpubs : Keeps (fun z => z.nets.pubs) (Act.modLin (linKey p c) LinCtl.headed) := .get fun _ => ⟨fun _ => rfl⟩
  have hregs : ∀ a, Keeps (fun z => z.reg a) (Act.seq (Act.modLin (linKey p c) LinCtl.headed) (Act.offerMon p 0x048 (48 + c) late)) :=
    fun a => .seq (hmod.keepsReg (by decide) a) (hoffer.keepsReg (by decide) a)
  have hout : Keeps (fun z => z.out) (Act.seq (Act.linCount p c 0) (Act.seq (Act.modLin (linKey p c) LinCtl.headed)
      (Act.offerMon p 0x048 (48 + c) late))) :=
    .seq (hcount.keepsOut (by decide)) (.seq (hmod.keepsOut (by decide)) (hoffer.keepsOut (by decide)))
  have hpub : Keeps (fun z => z.nets.pubs) (Act.seq (Act.linCount p c 0) (Act.seq (Act.modLin (linKey p c) LinCtl.headed)
      (Act.offerMon p 0x048 (48 + c) late))) :=
    .seq (hcount.keepsPubs (by decide)) (.seq hpubs (hoffer.keepsPubs (by decide)))
  have hlin : ((Act.linHeader p c id late true).run s).lin (linKey p c) = (s.lin (linKey p c)).headed := by
    rw [hrun, (hoffer.keepsLin (by decide) _).same, lin_modLin, (hcount.keepsLin (by decide) _).same]
  exact ⟨hlin, ⟨hcounts.counted.until ((hregs _).same _), fun b hb hne => ((hregs b).same _).trans (hcounts.other b hb hne)⟩,
    hpub.same s, hout.same s⟩

/-- The counter of an error by its kind (R422, R437): header, no response, framing, stop bit, checksum. -/
def linErrorCounter (kind : Nat) : Nat := [7, 3, 4, 6, 5].getD (kind - 1) 0

theorem linErrorCounter_lt (kind : Nat) : linErrorCounter kind < 64 := by
  unfold linErrorCounter
  match kind - 1 with
  | 0 | 1 | 2 | 3 | 4 => decide
  | _ + 5 => simp

/-- An error of kind 1 to 5: its counter, the error event, and LAST. -/
theorem linError_run {kind : Nat} (h1 : 1 ≤ kind) (h5 : kind ≤ 5) (id : Nat) (s : State) : (Act.linError p c id kind).run s =
    (Act.setReg (LIN.LAST p c) (word [(LIN.LAST.ID, id), (LIN.LAST.ERR, kind)])).run
      ((Act.event (LIN.EVT p c) 0).run ((Act.linCount p c (linErrorCounter kind)).run s)) := by
  match kind with
  | 1 | 2 | 3 | 4 | 5 => rfl

/-- A collision: its counter, its event, and LAST. -/
theorem linError_collision (id : Nat) (s : State) : (Act.linError p c id 6).run s =
    (Act.setReg (LIN.LAST p c) (word [(LIN.LAST.ID, id), (LIN.LAST.ERR, 6)])).run
      ((Act.event (LIN.EVT p c) 1).run ((Act.linCount p c 8).run s)) := rfl

/-- LAST is neither the counter nor the event. -/
theorem CountsEvent.last {i b : Nat} {s t : State} (h : CountsEvent p c i b s t) (v : Word) :
    CountsEvent p c i b s ((Act.setReg (LIN.LAST p c) v).run t) := by
  have hne : LIN.CNT p c i ≠ LIN.LAST p c ∧ LIN.EVT p c ≠ LIN.LAST p c := by
    unfold LIN.CNT LIN.EVT LIN.LAST ra
    omega
  exact ⟨h.counted.until (reg_setReg_other hne.1 ..), h.logged.until (reg_setReg_other hne.2 ..) rfl, h.nets, h.sw, h.out⟩

/-- An error of kind 1 to 5 is counted, recorded and shown. -/
theorem linError_leaves {kind : Nat} (hc : c < 8) (h1 : 1 ≤ kind) (h5 : kind ≤ 5) (id : Nat) (s : State) :
    CountsEvent p c (linErrorCounter kind) 0 s ((Act.linError p c id kind).run s) ∧
      Holds ((Act.linError p c id kind).run s) (LIN.LAST p c) (word [(LIN.LAST.ID, id), (LIN.LAST.ERR, kind)]) := by
  rw [linError_run h1 h5]
  exact ⟨(countEvent hc (linErrorCounter_lt kind) 0 s).last _, setReg_holds ..⟩

/-- A collision is counted and recorded. -/
theorem linError_collision_leaves (hc : c < 8) (id : Nat) (s : State) : CountsEvent p c 8 1 s ((Act.linError p c id 6).run s) := by
  rw [linError_collision]
  exact (countEvent hc (by decide) 1 s).last _

/-- A header that could not be read back: the error of kind 1 is counted and recorded, and nothing more is sent. -/
structure HeaderFailed (p c : Nat) (s t : State) : Prop where
  lin : t.lin (linKey p c) = { s.lin (linKey p c) with badHeads := (s.lin (linKey p c)).badHeads + 1 }
  counted : Counted (LIN.CNT p c 7) 1 s t
  logged : Logged (LIN.EVT p c) 0 s t
  out : t.out = s.out

theorem linHeader_failed (hc : c < 8) (id late : Nat) (s : State) : HeaderFailed p c s ((Act.linHeader p c id late false).run s) := by
  have hrun : (Act.linHeader p c id late false).run s = (Act.offerMon p 0x048 (48 + c) late).run
      ((Act.modLin (linKey p c) fun u => { u with badHeads := u.badHeads + 1 }).run
        ((Act.linError p c id 1).run ((Act.linCount p c 0).run s))) := rfl
  have hcount : Touches (Act.linCount p c 0) [.regs, .evtNo, .upsets, .irqs] := touches_Act_linCount (by decide)
  have hoffer : Touches (Act.offerMon p 0x048 (48 + c) late) [.mon] := touches_Act_offerMon (by decide)
  have hmod : Touches (Act.modLin (linKey p c) fun u => { u with badHeads := u.badHeads + 1 }) [.nets] := touches_Act_modLin (by decide)
  have hrest : Touches (Act.seq (Act.modLin (linKey p c) fun u => { u with badHeads := u.badHeads + 1 })
      (Act.offerMon p 0x048 (48 + c) late)) [.nets, .mon] := .seq (hmod.mono (by decide)) (hoffer.mono (by decide))
  have hEVT : aBlk (LIN.EVT p c) ≠ 0 := lin_blk hc (by decide)
  have hcounts := linCount_countsOnly (p := p) hc (i := 0) (by decide) s
  have hno : ((Act.linCount p c 0).run s).evtCount (LIN.EVT p c) = s.evtCount (LIN.EVT p c) := countBy_evtCount hEVT ..
  obtain ⟨herror, -⟩ := linError_leaves (p := p) (kind := 1) hc (by decide) (by decide) id ((Act.linCount p c 0).run s)
  have h7 := hcounts.other (LIN.CNT p c 7) (lin_blk hc (by decide)) (linCnt_ne (by decide))
  have hevt := hcounts.other (LIN.EVT p c) hEVT (by unfold LIN.EVT LIN.CNT ra; omega)
  have hlin : ((Act.linError p c id 1).run ((Act.linCount p c 0).run s)).lin (linKey p c) = s.lin (linKey p c) :=
    (lin_congr herror.nets _).trans ((hcount.keepsLin (by decide) _).same s)
  rw [hrun]
  refine ⟨?_, (herror.counted.since h7).until ((hrest.keepsReg (by decide) _).same _),
    (herror.logged.since_count hevt hno).until ((hrest.keepsReg (by decide) _).same _) (hrest.same _ .evtNo (by decide)), ?_⟩
  · rw [(hoffer.keepsLin (by decide) _).same, lin_modLin, hlin]
  · exact ((hrest.keepsOut (by decide)).same _).trans (herror.out.trans ((hcount.keepsOut (by decide)).same s))

/-- A response of the commander has gone out and been read back. -/
structure ResponseSent (p c id : Nat) (enh : Bool) (data : List Byte) (s t : State) : Prop where
  counts : CountsOnly (LIN.CNT p c 1) s t
  nets : t.nets = s.nets
  out : t.out = s.linBus p c id enh data :: s.out

theorem linSend_sent (hc : c < 8) (id : Nat) (enh : Bool) (data : List Byte) (s : State) :
    ResponseSent p c id enh data s ((Act.linSend p c id enh data true).run s) := by
  have hrun : (Act.linSend p c id enh data true).run s = (Act.linCount p c 1).run ((Act.linOut p c id enh data).run s) := rfl
  have hput : Touches (Act.linOut p c id enh data) [.out] := touches_Act_linOut (by decide)
  have hcount : Touches (Act.linCount p c 1) [.regs, .evtNo, .upsets, .irqs] := touches_Act_linCount (by decide)
  have hcounts := linCount_countsOnly (p := p) hc (i := 1) (by decide) ((Act.linOut p c id enh data).run s)
  have hregs : ∀ a, ((Act.linOut p c id enh data).run s).reg a = s.reg a := fun a => (hput.keepsReg (by decide) a).same s
  rw [hrun]
  exact ⟨⟨hcounts.counted.since (hregs _), fun b hb hne => (hcounts.other b hb hne).trans (hregs b)⟩,
    (hput.same s .nets (by decide)).trans (hcount.same _ .nets (by decide)),
    ((hcount.keepsOut (by decide)).same _).trans (linOut_out ..)⟩

end

/-! ### Slots (R417 to R422) -/

/-- The record of a controller that falls asleep at a slot's boundary. -/
def LinCtl.slept (u : LinCtl) : LinCtl := { u with st := .sleep, goSleep := false, resolving := none, resolveNext := none, waiting := none }

/-- The record of a controller that stops at a slot's boundary. -/
def LinCtl.halts (u : LinCtl) : LinCtl := { u with st := .stopped, stop := false, resolving := none, resolveNext := none, waiting := none }

/-- The record of a controller whose next table is empty. -/
def LinCtl.emptied (u : LinCtl) (table : Nat) : LinCtl :=
  { u with
    st := .stopped, table := table, entry := 0, next := 0, switchTo := none, resolving := none, resolveNext := none, waiting := none }

/-- The record of a controller that begins the slot n. -/
def LinCtl.begun (u : LinCtl) (n : Nat × Nat × Option (Nat × Nat)) : LinCtl :=
  { u with
    st := if u.st = .busFault then .busFault else .running, table := n.1, entry := n.2.1, next := n.2.1 + 1, halted := false
    switchTo := none, resolving := n.2.2, resolveNext := none, waiting := none }

/-- The state in which a slot's entry runs: only the controller's record is another. -/
def State.slotBegun (s : State) (p c : Nat) : State :=
  (Act.modLin (linKey p c) fun u => u.begun (s.linNext p c)).run s

theorem slotBegun_lin (s : State) (p c : Nat) :
    (s.slotBegun p c).lin (linKey p c) = (s.lin (linKey p c)).begun (s.linNext p c) := lin_modLin ..

/-- A controller in state t runs the slot n. -/
structure RunsSlot (n : Nat × Nat × Option (Nat × Nat)) (u : LinCtl) : Prop where
  st : u.st = .running
  table : u.table = n.1
  entry : u.entry = n.2.1
  next : u.next = n.2.1 + 1
  resolving : u.resolving = n.2.2

/-- A slot that runs, read from the controller's record. -/
theorem RunsSlot.given {i : Instr} {s : State} {k : Nat} {n : Nat × Nat × Option (Nat × Nat)} {Q : State → Prop}
    (h : Gives i s fun t => RunsSlot n (t.lin k) ∧ Q t) : Gives i s fun t => ((t.lin k).st = .running ∧ (t.lin k).table = n.1 ∧
      (t.lin k).entry = n.2.1 ∧ (t.lin k).next = n.2.1 + 1 ∧ (t.lin k).resolving = n.2.2) ∧ Q t := by
  obtain ⟨t, ht, hruns, hq⟩ := h
  exact ⟨t, ht, ⟨hruns.st, hruns.table, hruns.entry, hruns.next, hruns.resolving⟩, hq⟩

theorem LinCtl.begun_runs {u : LinCtl} (h : u.st = .running) (n : Nat × Nat × Option (Nat × Nat)) : RunsSlot n (u.begun n) := by
  refine ⟨?_, rfl, rfl, rfl, rfl⟩
  rw [LinCtl.begun, h]
  rfl

/-- A good header leaves the slot that runs. -/
theorem RunsSlot.headed {n : Nat × Nat × Option (Nat × Nat)} {u : LinCtl} (h : RunsSlot n u) : RunsSlot n u.headed := by
  refine ⟨?_, h.table, h.entry, h.next, h.resolving⟩
  rw [LinCtl.headed, h.st]
  rfl

section
variable {s : State} {p c late : Nat}

/-- The boundary of a running controller's slot: asleep, stopped, at the end of an empty table, or at its next entry. -/
theorem linSlot_running (hst : (s.lin (linKey p c)).st = .running) (rb : Nat) : (linSlot p c rb late false).run s =
    let bad := if s.linDrives p c = true then rb else 1
    let n := s.linNext p c
    if (s.lin (linKey p c)).goSleep = true then
      (Act.modLin (linKey p c) LinCtl.slept).run
        ((Act.when (bad ≠ 1) (Act.linSend p c 0x3C false [0x00, 0xFF, 0xFF, 0xFF, 0xFF, 0xFF, 0xFF, 0xFF] (bad == 0))).run
          ((Act.linHeader p c 0x3C late (bad != 1)).run s))
    else if (s.lin (linKey p c)).stop = true then (Act.modLin (linKey p c) LinCtl.halts).run s
    else if s.linTblLen p c n.1 = 0 then (Act.modLin (linKey p c) fun u => u.emptied n.1).run s
    else (Act.linSlotEntry p c (s.linEntry p c n.1 n.2.1) bad late).run (s.slotBegun p c) := by
  rw [linSlot, Act.get_run, Act.when_run, if_pos ⟨by rw [hst]; decide, .inl (by rw [hst]; decide),
    .inl ⟨by rw [hst]; decide, .inl (by rw [hst]; decide)⟩⟩, Act.seq_run, Act.when_run, if_neg Bool.false_ne_true, Act.ite_run,
    Act.ite_run, Act.ite_run]
  rfl

/-- The bytes that a publish entry sends: those of its buffer, as many as LEN says. -/
def State.pubBytes (s : State) (p c : Nat) (w : Word) : List Byte := (beBytes 8 (s.pub (pubKey p c (linId w))).1).take (linLen w)

/-- Does the slot of entry w send its publish buffer (R417, R422)? -/
def State.publishesNow (s : State) (p c : Nat) (w : Word) : Prop :=
  linType w = 0 ∨ linType w = 4 ∨ (linType w = 3 ∧ (s.pub (pubKey p c (linId w))).2 = true)

/-- A publish entry: the header, the buffer with its checksum, and PENDING clear. -/
theorem linSlotEntry_publish {w : Word} (h : s.publishesNow p c w) : (Act.linSlotEntry p c w 0 late).run s =
    (Act.setPub (pubKey p c (linId w)) ((s.pub (pubKey p c (linId w))).1, false)).run
      ((Act.linSend p c (linId w) (linEnh w) (s.pubBytes p c w) true).run ((Act.linHeader p c (linId w) late true).run s)) := by
  rw [Act.linSlotEntry, Act.get_run]
  rcases h with h | h | ⟨h, hpending⟩
  · rw [h]
    rfl
  · rw [h]
    rfl
  · rw [h]
    dsimp only
    rw [if_pos hpending]
    rfl

/-- A sporadic entry whose buffer holds nothing new, and a gap: nothing happens. -/
theorem linSlotEntry_idle {w : Word} (h : linType w = 3 ∧ (s.pub (pubKey p c (linId w))).2 = false ∨ linType w = 6) (rb : Nat) :
    (Act.linSlotEntry p c w rb late).run s = s := by
  rw [Act.linSlotEntry, Act.get_run]
  rcases h with ⟨h, hidle⟩ | h
  · rw [h]
    dsimp only
    rw [if_neg (by rw [hidle]; decide)]
    rfl
  · rw [h]
    rfl

/-- A subscribe, event-triggered or diagnostic-response entry: the header, and the response is awaited. -/
theorem linSlotEntry_header {w : Word} (h : linType w = 1 ∨ linType w = 2 ∨ linType w = 5) :
    (Act.linSlotEntry p c w 0 late).run s = (Act.modLin (linKey p c) fun u => { u with waiting := some w.toNat }).run
      ((Act.linOut p c (linId w) false []).run ((Act.linHeader p c (linId w) late true).run s)) := by
  rw [Act.linSlotEntry, Act.get_run]
  rcases h with h | h | h
  · rw [h]
    rfl
  · rw [h]
    rfl
  · rw [h]
    rfl

/-- An entry with a header that cannot be read back: nothing follows it. -/
theorem linSlotEntry_failed {w : Word} (h3 : linType w ≠ 3) (h6 : linType w ≠ 6) :
    (Act.linSlotEntry p c w 1 late).run s = (Act.linHeader p c (linId w) late false).run s := by
  rw [Act.linSlotEntry, Act.get_run]
  generalize linType w = n at h3 h6
  match n with
  | 0 | 1 | 2 | 4 | 5 => rfl
  | 3 => exact (h3 rfl).elim
  | 6 => exact (h6 rfl).elim
  | _ + 7 => rfl

/-- The command of a slot of a controller that is there. -/
theorem exec_linSlot (hp : p < s.x) (hc : c < 8) (hup : s.prismUp = true) (rb : Nat) :
    exec (.linSlot p c rb late false) s = .next ((linSlot p c rb late false).run s) :=
  go_when (⟨hp, hc, hup⟩ : p < s.x ∧ c < 8 ∧ s.prismUp = true) ..

variable (hp : p < s.x) (hc : c < 8) (hup : s.prismUp = true) (hst : (s.lin (linKey p c)).st = .running)

include hp hc hup hst

theorem linSlot_sleep_gives (hsleep : (s.lin (linKey p c)).goSleep = true) (hdrives : s.linDrives p c = true) :
    Gives (.linSlot p c 0 late false) s fun t => (t.lin (linKey p c)).st = .sleep ∧
      t.out = s.linBus p c 0x3C false [0x00, 0xFF, 0xFF, 0xFF, 0xFF, 0xFF, 0xFF, 0xFF] :: s.out := by
  have hrun : (linSlot p c 0 late false).run s = (Act.modLin (linKey p c) LinCtl.slept).run
      ((Act.linSend p c 0x3C false [0x00, 0xFF, 0xFF, 0xFF, 0xFF, 0xFF, 0xFF, 0xFF] true).run
        ((Act.linHeader p c 0x3C late true).run s)) := by
    rw [linSlot_running hst]
    dsimp only
    rw [if_pos hsleep, if_pos hdrives]
    rfl
  have hheader := linHeader_sent (p := p) hc 0x3C late s
  generalize (Act.linHeader p c 0x3C late true).run s = z at hrun hheader
  have hsend := linSend_sent (p := p) hc 0x3C false [0x00, 0xFF, 0xFF, 0xFF, 0xFF, 0xFF, 0xFF, 0xFF] z
  generalize (Act.linSend p c 0x3C false [0x00, 0xFF, 0xFF, 0xFF, 0xFF, 0xFF, 0xFF, 0xFF] true).run z = y at hrun hsend
  refine ⟨_, (exec_linSlot hp hc hup 0).trans (congrArg _ hrun), congrArg LinCtl.st (lin_modLin ..), ?_⟩
  exact hsend.out.trans (by rw [hheader.linBus hc, hheader.out])

theorem linSlot_stop_gives (hsleep : (s.lin (linKey p c)).goSleep = false) (hstop : (s.lin (linKey p c)).stop = true) :
    Gives (.linSlot p c 0 late false) s fun t => (t.lin (linKey p c)).st = .stopped ∧ t.out = s.out ∧ OnlyRegs [] s t := by
  have hrun : (linSlot p c 0 late false).run s = (Act.modLin (linKey p c) LinCtl.halts).run s := by
    rw [linSlot_running hst]
    dsimp only
    rw [if_neg (by rw [hsleep]; decide), if_pos hstop]
  exact ⟨_, (exec_linSlot hp hc hup 0).trans (congrArg _ hrun), congrArg LinCtl.st (lin_modLin ..), rfl, fun _ _ => rfl⟩

theorem linSlot_empty_gives (hsleep : (s.lin (linKey p c)).goSleep = false) (hstop : (s.lin (linKey p c)).stop = false)
    (hempty : s.linTblLen p c (s.linNext p c).1 = 0) :
    Gives (.linSlot p c 0 late false) s fun t => (t.lin (linKey p c)).st = .stopped ∧ t.out = s.out ∧ OnlyRegs [] s t := by
  have hrun : (linSlot p c 0 late false).run s = (Act.modLin (linKey p c) fun u => u.emptied (s.linNext p c).1).run s := by
    rw [linSlot_running hst]
    dsimp only
    rw [if_neg (by rw [hsleep]; decide), if_neg (by rw [hstop]; decide), if_pos hempty]
  exact ⟨_, (exec_linSlot hp hc hup 0).trans (congrArg _ hrun), congrArg LinCtl.st (lin_modLin ..), rfl, fun _ _ => rfl⟩

variable (hsleep : (s.lin (linKey p c)).goSleep = false) (hstop : (s.lin (linKey p c)).stop = false)
  (hlen : s.linTblLen p c (s.linNext p c).1 ≠ 0)

include hsleep hstop hlen

/-- A slot that is due runs its entry in the state in which it has begun. -/
theorem exec_linSlot_entry {rb bad : Nat} (hbad : (if s.linDrives p c = true then rb else 1) = bad) {w : Word}
    (hw : s.linEntry p c (s.linNext p c).1 (s.linNext p c).2.1 = w) :
    exec (.linSlot p c rb late false) s = .next ((Act.linSlotEntry p c w bad late).run (s.slotBegun p c)) := by
  rw [exec_linSlot hp hc hup, linSlot_running hst]
  dsimp only
  rw [if_neg (by rw [hsleep]; decide), if_neg (by rw [hstop]; decide), if_neg hlen, hbad, hw]

variable {w : Word} (hw : s.linEntry p c (s.linNext p c).1 (s.linNext p c).2.1 = w)

include hw

theorem linSlot_publish_gives (hdrives : s.linDrives p c = true) (hpub : s.publishesNow p c w) :
    Gives (.linSlot p c 0 late false) s fun t => RunsSlot (s.linNext p c) (t.lin (linKey p c)) ∧ (t.lin (linKey p c)).waiting = none ∧
      t.out = s.linBus p c (linId w) (linEnh w) (s.pubBytes p c w) :: s.out ∧ (t.pub (pubKey p c (linId w))).2 = false ∧
      Counted (LIN.CNT p c 0) 1 s t ∧ Counted (LIN.CNT p c 1) 1 s t := by
  have hheader := linHeader_sent (p := p) hc (linId w) late (s.slotBegun p c)
  generalize hz : (Act.linHeader p c (linId w) late true).run (s.slotBegun p c) = z at hheader
  have hsend := linSend_sent (p := p) hc (linId w) (linEnh w) (s.pubBytes p c w) z
  have hentry := linSlotEntry_publish (s := s.slotBegun p c) (late := late) hpub
  rw [hz, show (s.slotBegun p c).pubBytes p c w = s.pubBytes p c w from rfl] at hentry
  generalize (Act.linSend p c (linId w) (linEnh w) (s.pubBytes p c w) true).run z = y at hentry hsend
  have hrun := (exec_linSlot_entry (late := late) hp hc hup hst hsleep hstop hlen (rb := 0) (if_pos hdrives) hw).trans (congrArg _ hentry)
  have hlin : y.lin (linKey p c) = ((s.lin (linKey p c)).begun (s.linNext p c)).headed := by
    rw [← slotBegun_lin, ← hheader.lin]
    exact lin_congr hsend.nets _
  have h01 := hsend.counts.other (LIN.CNT p c 0) (lin_blk hc (by decide)) (linCnt_ne (by decide))
  have h10 := hheader.counts.other (LIN.CNT p c 1) (lin_blk hc (by decide)) (linCnt_ne (by decide))
  refine ⟨_, hrun, ?_, congrArg LinCtl.waiting hlin, ?_, ?_, hheader.counts.counted.until h01,
    hsend.counts.counted.since h10⟩
  · exact hlin ▸ (LinCtl.begun_runs hst _).headed
  · exact hsend.out.trans (by rw [hheader.linBus hc, hheader.out]; rfl)
  · rw [pub_setPub]

theorem linSlot_idle_gives (hidle : linType w = 3 ∧ (s.pub (pubKey p c (linId w))).2 = false ∨ linType w = 6) :
    Gives (.linSlot p c 0 late false) s fun t => RunsSlot (s.linNext p c) (t.lin (linKey p c)) ∧ t.out = s.out ∧ OnlyRegs [] s t := by
  refine ⟨_, (exec_linSlot_entry (late := late) hp hc hup hst hsleep hstop hlen rfl hw).trans
    (congrArg _ (linSlotEntry_idle (s := s.slotBegun p c) hidle _)), ?_, rfl, fun _ _ => rfl⟩
  exact slotBegun_lin s p c ▸ LinCtl.begun_runs hst _

theorem linSlot_header_gives (hdrives : s.linDrives p c = true) (htype : linType w = 1 ∨ linType w = 2 ∨ linType w = 5) :
    Gives (.linSlot p c 0 late false) s fun t => RunsSlot (s.linNext p c) (t.lin (linKey p c)) ∧
      (t.lin (linKey p c)).waiting = some w.toNat ∧ t.out = s.linBus p c (linId w) false [] :: s.out ∧
      Counted (LIN.CNT p c 0) 1 s t := by
  have hheader := linHeader_sent (p := p) hc (linId w) late (s.slotBegun p c)
  generalize hz : (Act.linHeader p c (linId w) late true).run (s.slotBegun p c) = z at hheader
  have hrun := (exec_linSlot_entry (late := late) hp hc hup hst hsleep hstop hlen (rb := 0) (if_pos hdrives) hw).trans
    (congrArg _ (linSlotEntry_header (s := s.slotBegun p c) (late := late) htype))
  rw [hz] at hrun
  have hput : Touches (Act.linOut p c (linId w) false []) [.out] := touches_Act_linOut (by decide)
  have hlin := (lin_modLin (linKey p c) (fun u => { u with waiting := some w.toNat }) ((Act.linOut p c (linId w) false []).run z)).trans
    (congrArg (fun u : LinCtl => { u with waiting := some w.toNat }) (((hput.keepsLin (by decide) _).same z).trans
      (hheader.lin.trans (congrArg LinCtl.headed (slotBegun_lin s p c)))))
  have hruns := (LinCtl.begun_runs hst (s.linNext p c)).headed
  refine ⟨_, hrun, ?_, congrArg LinCtl.waiting hlin, ?_, hheader.counts.counted.until ((hput.keepsReg (by decide) _).same z)⟩
  · exact hlin ▸ ⟨hruns.st, hruns.table, hruns.entry, hruns.next, hruns.resolving⟩
  · exact (linOut_out ..).trans (by rw [hheader.linBus hc, hheader.out]; rfl)

theorem linSlot_failed_gives {rb : Nat} (hbad : rb = 1 ∨ s.linDrives p c = false) (h3 : linType w ≠ 3) (h6 : linType w ≠ 6) :
    Gives (.linSlot p c rb late false) s fun t => RunsSlot (s.linNext p c) (t.lin (linKey p c)) ∧
      (t.lin (linKey p c)).badHeads = (s.lin (linKey p c)).badHeads + 1 ∧ t.out = s.out ∧ (t.lin (linKey p c)).waiting = none ∧
      Counted (LIN.CNT p c 7) 1 s t ∧ Logged (LIN.EVT p c) 0 s t := by
  have hone : (if s.linDrives p c = true then rb else 1) = 1 := by
    rcases hbad with h | h
    · rw [h, ite_self]
    · rw [if_neg (by rw [h]; decide)]
  have hheader := linHeader_failed (p := p) hc (linId w) late (s.slotBegun p c)
  have hlin := hheader.lin
  rw [slotBegun_lin] at hlin
  have hruns := LinCtl.begun_runs hst (s.linNext p c)
  have hrun := (exec_linSlot_entry (late := late) hp hc hup hst hsleep hstop hlen hone hw).trans (congrArg _ (linSlotEntry_failed h3 h6))
  refine ⟨_, hrun, ?_, congrArg LinCtl.badHeads hlin, hheader.out, congrArg LinCtl.waiting hlin, hheader.counted, hheader.logged⟩
  exact hlin ▸ ⟨hruns.st, hruns.table, hruns.entry, hruns.next, hruns.resolving⟩

end

/-! ### Responses (R393, R394, R422) -/

/-- The errors of a response have the numbers 1 to 5. -/
theorem linFault_le {w : Word} {fault : Nat} {raw : List Byte} : linFault w fault raw ≤ 5 := by
  unfold linFault
  dsimp only
  repeat' split
  all_goals decide

section
variable {s : State} {p c fault ago x : Nat} {raw : List Byte} {e : Word}

/-- The state in which the awaited response is judged: only the wait is over. -/
def State.responded (s : State) (p c : Nat) : State := (Act.modLin (linKey p c) fun v => { v with waiting := none }).run s

theorem responded_lin (s : State) (p c : Nat) : (s.responded p c).lin (linKey p c) = { s.lin (linKey p c) with waiting := none } :=
  lin_modLin ..

/-- The error of what arrived of the response of entry e, as the transceiver passes it (R422, R425). -/
def State.linErr (s : State) (p c : Nat) (e : Word) (fault : Nat) (raw : List Byte) : Nat :=
  linFault e fault (if s.linHears p c = true then raw else [])

/-- The time of the falling edge of the header's break, ago ns before (R394). -/
def State.breakTime (s : State) (p ago : Nat) : Nat := (s.time p + 2 ^ 48 - ago % 2 ^ 48) % 2 ^ 48

/-- A response that is awaited: delivered or without room, silent, collided or failed. -/
theorem linResponse_run (hwait : (s.lin (linKey p c)).waiting = some x) (he : BitVec.ofNat 48 x = e) :
    (linResponse p c fault raw ago).run s =
      if s.linErr p c e fault raw = 0 then
        if 4 < s.busCells p (48 + c) + 1 then (Act.event (LIN.EVT p c) 4).run ((Act.linCount p c 11).run (s.responded p c))
        else
          (Act.get fun t => Act.offerMon p 0x044 (48 + c) (t.busCells p (48 + c))).run
            ((Act.busOffer p (48 + c) (linFrame (linId e) (linEnh e) (raw.take (linLen e))) (s.breakTime p ago)).run
              ((Act.linCount p c 2).run (s.responded p c)))
      else if linType e = 2 ∧ s.linErr p c e fault raw = 2 then s.responded p c
      else if linType e = 2 then
        (Act.when (bit e 30 = true ∧ (s.lin (linKey p c)).resolving = none)
          (Act.modLin (linKey p c) fun v => { v with resolveNext := some (fget e ⟨31, 3⟩) })).run
            ((Act.linError p c (linId e) 6).run (s.responded p c))
      else (Act.linError p c (linId e) (s.linErr p c e fault raw)).run (s.responded p c) := by
  rw [linResponse, Act.get_run]
  dsimp only
  rw [hwait, Act.opt_some, he, Act.seq_run, Act.ite_run, Act.ite_run, Act.ite_run, Act.ite_run]
  simp only [beq_iff_eq]
  rfl

/-- The command of a response of a controller that is there. -/
theorem exec_linResponse (hp : p < s.x) (hc : c < 8) (hup : s.prismUp = true) {t : State}
    (h : (linResponse p c fault raw ago).run s = t) : exec (.linResponse p c fault raw ago) s = .next t :=
  (go_when (⟨hp, hc, hup⟩ : p < s.x ∧ c < 8 ∧ s.prismUp = true) _ _).trans (congrArg _ h)

variable (hp : p < s.x) (hc : c < 8) (hup : s.prismUp = true) (hwait : (s.lin (linKey p c)).waiting = some x)
  (he : BitVec.ofNat 48 x = e)

include hp hc hup hwait he

theorem linResponse_full_gives (hfull : 4 < s.busCells p (48 + c) + 1) (herr : s.linErr p c e fault raw = 0) :
    Gives (.linResponse p c fault raw ago) s fun t => (t.lin (linKey p c)).waiting = none ∧ Counted (LIN.CNT p c 11) 1 s t ∧
      Logged (LIN.EVT p c) 4 s t ∧ t.buf (fk p (48 + c)) = s.buf (fk p (48 + c)) := by
  have hrun := linResponse_run (fault := fault) (ago := ago) (raw := raw) hwait he
  rw [if_pos herr, if_pos hfull] at hrun
  have hleaves := countEvent (p := p) hc (i := 11) (by decide) 4 (s.responded p c)
  refine ⟨_, exec_linResponse hp hc hup hrun, ?_, hleaves.counted, hleaves.logged,
    buf_congr hleaves.sw _⟩
  exact congrArg LinCtl.waiting ((lin_congr hleaves.nets _).trans (responded_lin s p c))

theorem linResponse_failed_gives (htype : linType e ≠ 2) (herr : s.linErr p c e fault raw ≠ 0) :
    Gives (.linResponse p c fault raw ago) s fun t => (t.lin (linKey p c)).waiting = none ∧
      Counted (LIN.CNT p c (linErrorCounter (s.linErr p c e fault raw))) 1 s t ∧ Logged (LIN.EVT p c) 0 s t ∧
        Holds t (LIN.LAST p c) (word [(LIN.LAST.ID, linId e), (LIN.LAST.ERR, s.linErr p c e fault raw)]) := by
  have hrun := linResponse_run (fault := fault) (ago := ago) (raw := raw) hwait he
  rw [if_neg herr, if_neg fun h => htype h.1, if_neg htype] at hrun
  obtain ⟨hleaves, hlast⟩ := linError_leaves (p := p) hc (Nat.one_le_iff_ne_zero.mpr herr) linFault_le (linId e) (s.responded p c)
  refine ⟨_, exec_linResponse hp hc hup hrun, ?_, hleaves.counted, hleaves.logged, hlast⟩
  exact congrArg LinCtl.waiting ((lin_congr hleaves.nets _).trans (responded_lin s p c))

/-- An event-triggered frame that nobody answers is no error (R422). -/
theorem linResponse_silent_gives (htype : linType e = 2) (herr : s.linErr p c e fault raw = 2) :
    Gives (.linResponse p c fault raw ago) s fun t => (t.lin (linKey p c)).waiting = none ∧ OnlyRegs [] s t := by
  have hrun := linResponse_run (fault := fault) (ago := ago) (raw := raw) hwait he
  rw [if_neg (by rw [herr]; decide), if_pos ⟨htype, herr⟩] at hrun
  exact ⟨_, exec_linResponse hp hc hup hrun, congrArg LinCtl.waiting (responded_lin s p c), fun _ _ => rfl⟩

theorem linResponse_collided_gives (htype : linType e = 2) (h0 : s.linErr p c e fault raw ≠ 0) (h2 : s.linErr p c e fault raw ≠ 2) :
    Gives (.linResponse p c fault raw ago) s fun t => (t.lin (linKey p c)).waiting = none ∧ Counted (LIN.CNT p c 8) 1 s t ∧
      Logged (LIN.EVT p c) 1 s t ∧
        (bit e 30 = true → (s.lin (linKey p c)).resolving = none → (t.lin (linKey p c)).resolveNext = some (fget e ⟨31, 3⟩)) := by
  have hrun := linResponse_run (fault := fault) (ago := ago) (raw := raw) hwait he
  rw [if_neg h0, if_neg fun h => h2 h.2, if_pos htype] at hrun
  have hleaves := linError_collision_leaves (p := p) hc (linId e) (s.responded p c)
  have hlin : ((Act.linError p c (linId e) 6).run (s.responded p c)).lin (linKey p c) = { s.lin (linKey p c) with waiting := none } :=
    (lin_congr hleaves.nets _).trans (responded_lin s p c)
  generalize (Act.linError p c (linId e) 6).run (s.responded p c) = z at hrun hleaves hlin
  have htouch : Touches (Act.when (bit e 30 = true ∧ (s.lin (linKey p c)).resolving = none)
      (Act.modLin (linKey p c) fun v => { v with resolveNext := some (fget e ⟨31, 3⟩) })) [.nets] :=
    .when (touches_Act_modLin (by decide))
  refine ⟨_, exec_linResponse hp hc hup hrun, ?_, ?_, ?_, fun hbit hnone => ?_⟩
  · rw [lin_when, hlin]
    split <;> rfl
  · exact hleaves.counted.until ((htouch.keepsReg (by decide) _).same z)
  · exact hleaves.logged.until ((htouch.keepsReg (by decide) _).same z) (htouch.same z .evtNo (by decide))
  · rw [lin_when, if_pos ⟨hbit, hnone⟩]

/-- A response that the receive buffer has room for stands at its end, with the queue of its facet (R293, R337, R393). -/
theorem linResponse_delivered_gives (hroom : s.busCells p (48 + c) + 1 ≤ 4) (herr : s.linErr p c e fault raw = 0) {d : Nat}
    (hd : s.fld (CLS.BUS_DEST p (16 + c)) CLS.BUS_DEST.QUEUE = d) {frame : List Byte}
    (hframe : linFrame (linId e) (linEnh e) (raw.take (linLen e)) = frame) :
    Gives (.linResponse p c fault raw ago) s fun t => (t.lin (linKey p c)).waiting = none ∧ Counted (LIN.CNT p c 2) 1 s t ∧
      t.buf (fk p (48 + c)) = s.buf (fk p (48 + c)) ++
        [{ fr := { dest := d, cls := qClass d, flow := qFlow d, ts := s.breakTime p ago, bus := true
                   data := frame, src := globalFacet p (48 + c), fid := s.fidNo (ck p (48 + c) (qClass d)) }
           bufCls := qClass d, looked := true, got := cellsOf frame.length }] := by
  have hrun := linResponse_run (fault := fault) (ago := ago) (raw := raw) hwait he
  rw [if_pos herr, if_neg (by omega), hframe] at hrun
  have hcounts := linCount_countsOnly (p := p) hc (i := 2) (by decide) (s.responded p c)
  have hcount : Touches (Act.linCount p c 2) [.regs, .evtNo, .upsets, .irqs] := touches_Act_linCount (by decide)
  have hsw := hcount.same (s.responded p c) .sw (by decide)
  have hlin := (hcount.keepsLin (by decide) (linKey p c)).same (s.responded p c)
  have hdest : ((Act.linCount p c 2).run (s.responded p c)).reg (CLS.BUS_DEST p (16 + c)) = s.reg (CLS.BUS_DEST p (16 + c)) :=
    hcounts.other _ (by rw [CLS.BUS_DEST, aBlk_ra (by decide) (by omega)]; decide) (by unfold CLS.BUS_DEST LIN.CNT ra; omega)
  generalize (Act.linCount p c 2).run (s.responded p c) = z at hrun hcounts hsw hlin hdest
  have hoffer : Touches (Act.busOffer p (48 + c) frame (s.breakTime p ago)) [.sw] := touches_Act_busOffer (by decide)
  have hmon : Touches (Act.get fun t => Act.offerMon p 0x044 (48 + c) (t.busCells p (48 + c))) [.mon] :=
    .get fun _ => touches_Act_offerMon (by decide)
  have hqueue : z.fld (CLS.BUS_DEST p (48 + c - 32)) CLS.BUS_DEST.QUEUE = d := by
    rw [show 48 + c - 32 = 16 + c by omega, State.fld, hdest, ← hd, State.fld]
  refine ⟨_, exec_linResponse hp hc hup hrun, ?_, hcounts.counted.until ?_, ?_⟩
  · rw [(hmon.keepsLin (by decide) _).same, (hoffer.keepsLin (by decide) _).same, hlin, responded_lin]
  · rw [(hmon.keepsReg (by decide) _).same, (hoffer.keepsReg (by decide) _).same]
  · rw [(hmon.keepsBuf (by decide) _).same, Act.busOffer, Act.get_run, hqueue, intake_buf, buf_congr hsw,
      show z.fidNo (ck p (48 + c) (qClass d)) = s.fidNo (ck p (48 + c) (qClass d)) from
        congrArg (fun w : Switch => Sparse.get fidNoBlank w.fids (ck p (48 + c) (qClass d))) hsw]
    rfl

end

/-! ### A faulty bus and the publish buffers (R421, R423) -/

section
variable {s : State} {p c : Nat} (hp : p < s.x) (hc : c < 8) (hup : s.prismUp = true)

include hp hc hup

theorem linBusFault_gives {stuck : Bool} (h : ((s.lin (linKey p c)).st = .running ∧ 4 ≤ (s.lin (linKey p c)).badHeads) ∨
      (((s.lin (linKey p c)).st = .running ∨ (s.lin (linKey p c)).st = .stopped) ∧ stuck = true)) :
    Gives (.linBusFault p c stuck) s fun t => (t.lin (linKey p c)).st = .busFault ∧ Counted (LIN.CNT p c 12) 1 s t ∧
      Logged (LIN.EVT p c) 3 s t := by
  have hrun : (linBusFault p c stuck).run s = (Act.event (LIN.EVT p c) 3).run ((Act.linCount p c 12).run
      ((Act.modLin (linKey p c) fun v => { v with st := .busFault, halted := (s.lin (linKey p c)).st == .stopped }).run s)) := by
    rw [linBusFault, Act.get_run, Act.when_run, if_pos h]
    rfl
  have hlin := lin_modLin (linKey p c) (fun v => { v with st := .busFault, halted := (s.lin (linKey p c)).st == .stopped }) s
  have hleaves := countEvent (p := p) hc (i := 12) (by decide) 3
    ((Act.modLin (linKey p c) fun v => { v with st := .busFault, halted := (s.lin (linKey p c)).st == .stopped }).run s)
  refine ⟨_, (go_when (⟨hp, hc, hup⟩ : p < s.x ∧ c < 8 ∧ s.prismUp = true) _ _).trans (congrArg _ hrun), ?_,
    hleaves.counted, hleaves.logged⟩
  exact congrArg LinCtl.st ((lin_congr hleaves.nets _).trans hlin)

/-- A frame in the facet's queue is taken, and judged in the state without it. -/
theorem exec_linPublish {q : Nat} {r : Ref} {z : State} (h : s.waits p (48 + c) (fun _ => true) = some (q, r))
    (hz : s.afterTake p (48 + c) (fun _ => true) = z) : exec (.linPublish p c) s = .next
      (if bfFormat r.fr.data = 3 ∧ z.linPublishes p c (bfId r.fr.data % 64) = true then
        (Act.linBuffer p c (bfId r.fr.data % 64) (bfData r.fr.data)).run z
      else (Act.linCount p c 10).run z) := by
  refine (go_when (⟨hp, hc, hup⟩ : p < s.x ∧ c < 8 ∧ s.prismUp = true) _ _).trans (congrArg _ ?_)
  rw [linPublish, take_waits h, hz, Act.get_run, Act.ite_run]

theorem linPublish_gives {q : Nat} {r : Ref} (h : s.waits p (48 + c) (fun _ => true) = some (q, r)) :
    let z := s.afterTake p (48 + c) fun _ => true
    let id := bfId r.fr.data % 64
    bfFormat r.fr.data = 3 → z.linPublishes p c id = true → Gives (.linPublish p c) s fun t =>
      t.pub (pubKey p c id) = (beNat (padTo 8 (bfData r.fr.data)), true) ∧ t.regs = z.regs := by
  intro z id hformat hpub
  have hexec := exec_linPublish hp hc hup h rfl
  rw [if_pos ⟨hformat, hpub⟩] at hexec
  exact ⟨_, hexec, pub_setPub .., rfl⟩

theorem linPublish_discards_gives {q : Nat} {r : Ref} (h : s.waits p (48 + c) (fun _ => true) = some (q, r)) :
    let z := s.afterTake p (48 + c) fun _ => true
    let id := bfId r.fr.data % 64
    bfFormat r.fr.data ≠ 3 ∨ z.linPublishes p c id = false → Gives (.linPublish p c) s fun t =>
      Counted (LIN.CNT p c 10) 1 z t ∧ t.pub (pubKey p c id) = z.pub (pubKey p c id) := by
  intro z id hnot
  have hexec := exec_linPublish hp hc hup h rfl
  rw [if_neg fun hboth => hnot.elim (fun hformat => hformat hboth.1) fun hpub => Bool.false_ne_true (hpub.symm.trans hboth.2)] at hexec
  have hcount : Touches (Act.linCount p c 10) [.regs, .evtNo, .upsets, .irqs] := touches_Act_linCount (by decide)
  exact ⟨_, hexec, (linCount_countsOnly hc (by decide) z).counted,
    congrArg (Sparse.get pubBlank · (pubKey p c id)) ((hcount.keepsPubs (by decide)).same z)⟩

end

end Sys2Proof.Machine

namespace Sys2Proof.Proofs

open Sys2Proof.Machine

/-- Settles O41: a slot is judged at its boundary and runs its entry by TYPE, a header, a response and an error leave their counters,
events and records, and a response or a frame from the queue is delivered or counted. -/
theorem linSlotsAndResponses : Obligations.LinSlotsAndResponses := by
  unfold Obligations.LinSlotsAndResponses
  intro s p c hp hp4 hc hup
  refine ⟨fun late hst => ⟨linSlot_sleep_gives hp hc hup hst, linSlot_stop_gives hp hc hup hst, linSlot_empty_gives hp hc hup hst,
      fun hsleep hstop hlen => ⟨?publish, ?idle, ?header, ?failed⟩⟩,
    fun x fault ago raw hwait => ⟨?full, ?delivered, ?error, ?silent, ?collided⟩, fun stuck => linBusFault_gives hp hc hup,
    fun q r h => ⟨linPublish_gives hp hc hup h, linPublish_discards_gives hp hc hup h⟩⟩
  case publish => exact fun hdrives hpub => RunsSlot.given (linSlot_publish_gives hp hc hup hst hsleep hstop hlen rfl hdrives hpub)
  case idle => exact fun hidle => RunsSlot.given (linSlot_idle_gives hp hc hup hst hsleep hstop hlen rfl hidle)
  case header => exact fun hdrives htype => RunsSlot.given (linSlot_header_gives hp hc hup hst hsleep hstop hlen rfl hdrives htype)
  case failed => exact fun rb hbad h3 h6 => RunsSlot.given (linSlot_failed_gives hp hc hup hst hsleep hstop hlen rfl hbad h3 h6)
  case full => exact linResponse_full_gives hp hc hup hwait rfl
  case delivered => exact fun hroom herr => linResponse_delivered_gives hp hc hup hwait rfl hroom herr rfl rfl
  case error => exact linResponse_failed_gives hp hc hup hwait rfl
  case silent => exact linResponse_silent_gives hp hc hup hwait rfl
  case collided => exact linResponse_collided_gives hp hc hup hwait rfl

end Sys2Proof.Proofs

/-! LIN commands and transceivers (R417, R420, R421, R424, R425, R427, R435, R436, R438, R765). -/

namespace Sys2Proof.Machine

section
variable {s u : State} {w : Sender} {ag : Agent} {p c v : Nat}

/-! ### LIN.CMD (R420, R435) -/

/-- The record after a write of LIN.CMD to a controller that is not OFF: what is asked waits for the slot's boundary. -/
def LinCtl.commanded (u : LinCtl) (x : Word) : LinCtl :=
  let a := if fget x LIN.CMD.SWITCH = 1 then { u with switchTo := some (fget x LIN.CMD.TABLE % 8) } else u
  let b := if fget x LIN.CMD.STOP = 1 then { a with stop := a.st == .running || a.st == .busFault } else a
  if fget x LIN.CMD.GOTOSLEEP = 1 then { b with goSleep := b.st != .sleep } else b

theorem LinCtl.commanded_switchTo (u : LinCtl) {x : Word} (h : fget x LIN.CMD.SWITCH = 1) :
    (u.commanded x).switchTo = some (fget x LIN.CMD.TABLE % 8) := by
  rw [LinCtl.commanded, if_pos h]
  dsimp only
  split
  · split <;> rfl
  · split <;> rfl

theorem LinCtl.commanded_stop (u : LinCtl) {x : Word} (h : fget x LIN.CMD.STOP = 1) :
    (u.commanded x).stop = (u.st == .running || u.st == .busFault) := by
  rw [LinCtl.commanded, if_pos h]
  dsimp only
  split
  · split <;> rfl
  · split <;> rfl

theorem LinCtl.commanded_goSleep (u : LinCtl) {x : Word} (h : fget x LIN.CMD.GOTOSLEEP = 1) :
    (u.commanded x).goSleep = (u.st != .sleep) := by
  rw [LinCtl.commanded, if_pos h]
  dsimp only
  split
  · split <;> rfl
  · split <;> rfl

/-- A write of LIN.CMD to a controller that is not OFF. -/
theorem linCmd_on {x : Word} (hon : (u.lin (linKey p c)).st ≠ .off) (k : Code → Act) : ∃ t, (linCmd p c x k).run u = (k .ok).run t ∧
    t.out = u.out ∧ t.lin (linKey p c) = (u.lin (linKey p c)).commanded x := by
  have hrun : (linCmd p c x k).run u = (k .ok).run ((Act.when (fget x LIN.CMD.GOTOSLEEP = 1) (linGotosleep p c)).run
      ((Act.when (fget x LIN.CMD.STOP = 1) (linStop p c)).run
        ((Act.when (fget x LIN.CMD.SWITCH = 1) (linSwitch p c (fget x LIN.CMD.TABLE))).run
          ((Act.setReg (LIN.CMD p c) (word [(LIN.CMD.TABLE, fget x LIN.CMD.TABLE)])).run u)))) := by
    rw [linCmd, Act.get_run, if_neg hon]
    rfl
  refine ⟨_, hrun, ?_, ?_⟩
  · have htouch : Touches (Act.seq (Act.when (fget x LIN.CMD.SWITCH = 1) (linSwitch p c (fget x LIN.CMD.TABLE)))
        (Act.seq (Act.when (fget x LIN.CMD.STOP = 1) (linStop p c))
          (Act.when (fget x LIN.CMD.GOTOSLEEP = 1) (linGotosleep p c)))) [.nets] :=
      .seq (.when (touches_linSwitch (by decide))) (.seq (.when (touches_linStop (by decide))) (.when (touches_linGotosleep (by decide))))
    exact htouch.same ((Act.setReg (LIN.CMD p c) _).run u) .out (by decide)
  · rw [linGotosleep, lin_when, linStop, lin_when, linSwitch, lin_when]
    rfl

/-- A write of LIN.CMD changes the record of a controller that is not OFF, and nothing of one that is. -/
theorem linCmd_gives {i : Instr} {x : Word} (h : exec i s = .next ((linCmd p c x (Act.ends w ag (LIN.CMD p c))).run u)) :
    Gives i s fun t => t.out = endOut w .ok u.out ∧
      ((u.lin (linKey p c)).st ≠ .off → t.lin (linKey p c) = (u.lin (linKey p c)).commanded x) ∧
      ((u.lin (linKey p c)).st = .off → t = { u with out := t.out }) := by
  by_cases hst : (u.lin (linKey p c)).st = .off
  · have hrun : (linCmd p c x (Act.ends w ag (LIN.CMD p c))).run u = (Act.ends w ag (LIN.CMD p c) .ok).run u := by
      rw [linCmd, Act.get_run, if_pos hst]
    exact gives_ok (h.trans (congrArg _ hrun)) ⟨rfl, fun hon => (hon hst).elim, fun _ => rfl⟩
  · obtain ⟨t, hrun, hout, hlin⟩ := linCmd_on (x := x) hst (Act.ends w ag (LIN.CMD p c))
    exact gives_ok (h.trans (congrArg _ hrun)) ⟨congrArg (endOut w .ok) hout, fun _ => hlin, fun hoff => (hst hoff).elim⟩

theorem linSwitch_gives (h : Reaches (.linSwitch w p c v) s ag u) : Gives (.linSwitch w p c v) s fun t => t.out = endOut w .ok u.out ∧
    ((u.lin (linKey p c)).st ≠ .off →
      (t.lin (linKey p c)).switchTo = some (fget (BitVec.ofNat 48 v) LIN.CMD.TABLE % 8)) ∧
    ((u.lin (linKey p c)).st = .off → t = { u with out := t.out }) := by
  obtain ⟨t, ht, hout, hon, hoff⟩ := linCmd_gives (reach_linSwitch h)
  refine ⟨t, ht, hout, fun hst => ?_, hoff⟩
  rw [hon hst, LinCtl.commanded_switchTo _ (fget_fset _ _ _ (by decide)),
    fget_fset_other _ LIN.CMD.SWITCH LIN.CMD.TABLE _ (by decide) (by decide)]

theorem linStop_gives (h : Reaches (.linStop w p c v) s ag u) : Gives (.linStop w p c v) s fun t => t.out = endOut w .ok u.out ∧
    ((u.lin (linKey p c)).st = .running ∨ (u.lin (linKey p c)).st = .busFault → (t.lin (linKey p c)).stop = true) ∧
    ((u.lin (linKey p c)).st = .off → t = { u with out := t.out }) := by
  obtain ⟨t, ht, hout, hon, hoff⟩ := linCmd_gives (reach_linStop h)
  refine ⟨t, ht, hout, fun hst => ?_, hoff⟩
  rw [hon (by rcases hst with h | h <;> rw [h] <;> decide), LinCtl.commanded_stop _ (fget_fset _ _ _ (by decide))]
  rcases hst with h | h <;> rw [h] <;> rfl

theorem linGotosleep_gives (h : Reaches (.linGotosleep w p c v) s ag u) :
    Gives (.linGotosleep w p c v) s fun t => t.out = endOut w .ok u.out ∧
    ((u.lin (linKey p c)).st ≠ .off → (u.lin (linKey p c)).st ≠ .sleep → (t.lin (linKey p c)).goSleep = true) ∧
    ((u.lin (linKey p c)).st = .off → t = { u with out := t.out }) := by
  obtain ⟨t, ht, hout, hon, hoff⟩ := linCmd_gives (reach_linGotosleep h)
  refine ⟨t, ht, hout, fun hst hwake => ?_, hoff⟩
  rw [hon hst, LinCtl.commanded_goSleep _ (fget_fset _ _ _ (by decide))]
  exact bne_iff_ne.mpr hwake

/-! ### LIN.SCHED_CMD (R417, R436) -/

/-- The word of a schedule command: the operation is the one written, INDEX the one given. -/
theorem schedWord {n : Nat} (hn : n < 4) (x : Word) : fget (fset x LIN.SCHED_CMD.OP n) LIN.SCHED_CMD.OP = n ∧
    fget (fset x LIN.SCHED_CMD.OP n) LIN.SCHED_CMD.INDEX = fget x LIN.SCHED_CMD.INDEX :=
  ⟨(fget_fset _ _ _ (by decide)).trans (Nat.mod_eq_of_lt hn), fget_fset_other _ _ _ _ (by decide) (by decide)⟩

/-- A word of SCHED_CMD set with RESULT n shows n. -/
theorem schedResult (hp : p < 4) (hc : c < 8) {n : Nat} (hn : n < 4) (x : Word) (s : State) :
    ((Act.setReg (LIN.SCHED_CMD p c) (fset x LIN.SCHED_CMD.RESULT n)).run s).fld (LIN.SCHED_CMD p c) LIN.SCHED_CMD.RESULT = n := by
  have himpl : implements (LIN.SCHED_CMD p c) LIN.SCHED_CMD.RESULT = true := by
    rw [LIN.SCHED_CMD, implements_lin hp hc (by decide)]
    decide +kernel
  exact (fld_setReg himpl ..).trans ((fget_fset _ _ _ (by decide)).trans (Nat.mod_eq_of_lt hn))

theorem schedCmdRead_gives (hp : p < 4) (hc : c < 8) (h : Reaches (.schedCmdRead w p c v) s ag u) :
    Gives (.schedCmdRead w p c v) s fun t => t.out = endOut w .ok u.out ∧
      Holds t (LIN.SCHED_W p c) (u.schedEntry p (fget (BitVec.ofNat 48 v) LIN.SCHED_CMD.INDEX)) ∧
      t.fld (LIN.SCHED_CMD p c) LIN.SCHED_CMD.RESULT = 0 ∧ OnlyRegs [LIN.SCHED_CMD p c, LIN.SCHED_W p c] u t := by
  generalize hx : fset (BitVec.ofNat 48 v) LIN.SCHED_CMD.OP 1 = x
  generalize hentry : u.schedEntry p (fget (BitVec.ofNat 48 v) LIN.SCHED_CMD.INDEX) = entry
  have hrun : exec (.schedCmdRead w p c v) s = .next ((Act.ends w ag (LIN.SCHED_CMD p c) .ok).run
      ((Act.setReg (LIN.SCHED_W p c) entry).run ((Act.setReg (LIN.SCHED_CMD p c) (fset x LIN.SCHED_CMD.RESULT 0)).run u))) := by
    obtain ⟨hop, hindex⟩ := schedWord (n := 1) (by decide) (BitVec.ofNat 48 v)
    rw [reach_schedCmdRead h, schedCmd, Act.get_run, hop, hindex, hx, hentry]
    rfl
  have hne : LIN.SCHED_CMD p c ≠ LIN.SCHED_W p c := by
    unfold LIN.SCHED_CMD LIN.SCHED_W ra
    omega
  have hresult : ((Act.setReg (LIN.SCHED_W p c) entry).run ((Act.setReg (LIN.SCHED_CMD p c) (fset x LIN.SCHED_CMD.RESULT 0)).run u)).fld
      (LIN.SCHED_CMD p c) LIN.SCHED_CMD.RESULT = 0 := by
    rw [State.fld, reg_setReg_other hne]
    exact schedResult hp hc (by decide) x u
  exact gives_ok hrun ⟨rfl, setReg_holds .., hresult, Writes.onlyRegs (.seq (.setReg (by simp)) (.setReg (by simp))) u⟩

theorem schedCmdWrite_gives (hp : p < 4) (hc : c < 8) (h : Reaches (.schedCmdWrite w p c v) s ag u)
    (hgood : schedBad (u.reg (LIN.SCHED_W p c)) = false) : Gives (.schedCmdWrite w p c v) s fun t => t.out = endOut w .ok u.out ∧
      t.schedEntry p (fget (BitVec.ofNat 48 v) LIN.SCHED_CMD.INDEX) = u.reg (LIN.SCHED_W p c) ∧
      t.fld (LIN.SCHED_CMD p c) LIN.SCHED_CMD.RESULT = 0 ∧ OnlyRegs [LIN.SCHED_CMD p c] u t := by
  generalize hx : fset (BitVec.ofNat 48 v) LIN.SCHED_CMD.OP 2 = x
  have hrun : exec (.schedCmdWrite w p c v) s = .next ((Act.ends w ag (LIN.SCHED_CMD p c) .ok).run
      ((Act.setTbl (tblKey p 0x4B (fget (BitVec.ofNat 48 v) LIN.SCHED_CMD.INDEX) 0) (u.reg (LIN.SCHED_W p c))).run
        ((Act.setReg (LIN.SCHED_CMD p c) (fset x LIN.SCHED_CMD.RESULT 0)).run u))) := by
    obtain ⟨hop, hindex⟩ := schedWord (n := 2) (by decide) (BitVec.ofNat 48 v)
    rw [reach_schedCmdWrite h, schedCmd, Act.get_run, hop, hindex, hx]
    dsimp only
    rw [if_neg (by rw [hgood]; decide)]
    rfl
  have hregs : OnlyRegs [LIN.SCHED_CMD p c] u ((Act.setReg (LIN.SCHED_CMD p c) (fset x LIN.SCHED_CMD.RESULT 0)).run u) :=
    Writes.onlyRegs (.setReg (by simp)) u
  refine gives_ok hrun ⟨rfl, (tbl_setTbl ..).trans (if_pos rfl), ?_, hregs⟩
  exact schedResult hp hc (by decide) x u

theorem schedCmdWrite_refused_gives (hp : p < 4) (hc : c < 8) (h : Reaches (.schedCmdWrite w p c v) s ag u)
    (hbad : schedBad (u.reg (LIN.SCHED_W p c)) = true) : Gives (.schedCmdWrite w p c v) s fun t =>
      t.tbls = u.tbls ∧ t.fld (LIN.SCHED_CMD p c) LIN.SCHED_CMD.RESULT = 2 ∧ t.out = endOut w .badValue u.out := by
  generalize hx : fset (BitVec.ofNat 48 v) LIN.SCHED_CMD.OP 2 = x
  have hrun : exec (.schedCmdWrite w p c v) s = .next ((Act.badValue (LIN.SCHED_CMD p c) ag (Act.ends w ag (LIN.SCHED_CMD p c))).run
      ((Act.setReg (LIN.SCHED_CMD p c) (fset x LIN.SCHED_CMD.RESULT 2)).run u)) := by
    obtain ⟨hop, -⟩ := schedWord (n := 2) (by decide) (BitVec.ofNat 48 v)
    rw [reach_schedCmdWrite h, schedCmd, Act.get_run, hop, hx]
    dsimp only
    rw [if_pos hbad]
    rfl
  have hturned := badValue_ends (LIN.SCHED_CMD p c) ag w ((Act.setReg (LIN.SCHED_CMD p c) (fset x LIN.SCHED_CMD.RESULT 2)).run u)
  have hresult := (hturned.fld (by omega) (by decide) (by decide) _).trans (schedResult hp hc (by decide) x u)
  exact ⟨_, hrun, hturned.tbls, hresult, hturned.out⟩

/-! ### LIN.PUB_CMD (R421, R436) -/

/-- The word of a buffer command: the operation is the one written, ID the one given. -/
theorem pubWord {n : Nat} (hn : n < 4) (x : Word) : fget (fset x LIN.PUB_CMD.OP n) LIN.PUB_CMD.OP = n ∧
    fget (fset x LIN.PUB_CMD.OP n) LIN.PUB_CMD.ID = fget x LIN.PUB_CMD.ID :=
  ⟨(fget_fset _ _ _ (by decide)).trans (Nat.mod_eq_of_lt hn), fget_fset_other _ _ _ _ (by decide) (by decide)⟩

/-- A word of PUB_CMD set with RESULT n shows n. -/
theorem pubResult (hp : p < 4) (hc : c < 8) {n : Nat} (hn : n < 4) (x : Word) (s : State) :
    ((Act.setReg (LIN.PUB_CMD p c) (fset x LIN.PUB_CMD.RESULT n)).run s).fld (LIN.PUB_CMD p c) LIN.PUB_CMD.RESULT = n := by
  have himpl : implements (LIN.PUB_CMD p c) LIN.PUB_CMD.RESULT = true := by
    rw [LIN.PUB_CMD, implements_lin hp hc (by decide)]
    decide +kernel
  exact (fld_setReg himpl ..).trans ((fget_fset _ _ _ (by decide)).trans (Nat.mod_eq_of_lt hn))

/-- A buffer as PUB_W1 shows it: its last two bytes and PENDING. -/
def pubShown (b : Nat × Bool) : Word := word [(LIN.PUB_W1.DATA, b.1 % 2 ^ 16), (LIN.PUB_W1.PENDING, b2n b.2)]

theorem pubCmdRead_gives (hp : p < 4) (hc : c < 8) (h : Reaches (.pubCmdRead w p c v) s ag u) {b : Nat × Bool}
    (hb : u.pub (pubKey p c (fget (BitVec.ofNat 48 v) LIN.PUB_CMD.ID)) = b) : Gives (.pubCmdRead w p c v) s fun t =>
      t.out = endOut w .ok u.out ∧ Holds t (LIN.PUB_W0 p c) (BitVec.ofNat 48 (b.1 / 2 ^ 16)) ∧ Holds t (LIN.PUB_W1 p c) (pubShown b) ∧
        t.fld (LIN.PUB_CMD p c) LIN.PUB_CMD.RESULT = 0 ∧ t.pub (pubKey p c (fget (BitVec.ofNat 48 v) LIN.PUB_CMD.ID)) = b := by
  generalize hx : fset (BitVec.ofNat 48 v) LIN.PUB_CMD.OP 1 = x
  have hrun : exec (.pubCmdRead w p c v) s = .next ((Act.ends w ag (LIN.PUB_CMD p c) .ok).run
      ((Act.setReg (LIN.PUB_W1 p c) (pubShown b)).run ((Act.setReg (LIN.PUB_W0 p c) (BitVec.ofNat 48 (b.1 / 2 ^ 16))).run
        ((Act.setReg (LIN.PUB_CMD p c) (fset x LIN.PUB_CMD.RESULT 0)).run u)))) := by
    obtain ⟨hop, hid⟩ := pubWord (n := 1) (by decide) (BitVec.ofNat 48 v)
    rw [reach_pubCmdRead h, pubCmd, Act.get_run, hop, hid, hx, hb]
    rfl
  have hne : LIN.PUB_CMD p c ≠ LIN.PUB_W0 p c ∧ LIN.PUB_CMD p c ≠ LIN.PUB_W1 p c ∧ LIN.PUB_W0 p c ≠ LIN.PUB_W1 p c := by
    unfold LIN.PUB_CMD LIN.PUB_W0 LIN.PUB_W1 ra
    omega
  obtain ⟨hcmd0, hcmd1, hw01⟩ := hne
  have hresult : ∀ w0 w1, ((Act.setReg (LIN.PUB_W1 p c) w1).run ((Act.setReg (LIN.PUB_W0 p c) w0).run
      ((Act.setReg (LIN.PUB_CMD p c) (fset x LIN.PUB_CMD.RESULT 0)).run u))).fld (LIN.PUB_CMD p c) LIN.PUB_CMD.RESULT = 0 := by
    intro w0 w1
    rw [State.fld, reg_setReg_other hcmd1, reg_setReg_other hcmd0]
    exact pubResult hp hc (by decide) x u
  exact gives_ok hrun ⟨rfl, (reg_setReg_other hw01 ..).trans (setReg_holds ..), setReg_holds .., hresult .., hb⟩

/-- The bytes that PUB_W0 and PUB_W1 hold for a buffer. -/
def State.pubWritten (s : State) (p c : Nat) : List Byte :=
  beBytes 6 (s.reg (LIN.PUB_W0 p c)).toNat ++ beBytes 2 (s.fld (LIN.PUB_W1 p c) LIN.PUB_W1.DATA)

theorem pubCmdWrite_gives (hp : p < 4) (hc : c < 8) (h : Reaches (.pubCmdWrite w p c v) s ag u)
    (hpub : u.linPublishes p c (fget (BitVec.ofNat 48 v) LIN.PUB_CMD.ID) = true) : Gives (.pubCmdWrite w p c v) s fun t =>
      t.out = endOut w .ok u.out ∧
        t.pub (pubKey p c (fget (BitVec.ofNat 48 v) LIN.PUB_CMD.ID)) = (beNat (padTo 8 (u.pubWritten p c)), true) ∧
        t.fld (LIN.PUB_CMD p c) LIN.PUB_CMD.RESULT = 0 := by
  generalize hx : fset (BitVec.ofNat 48 v) LIN.PUB_CMD.OP 2 = x
  have hrun : exec (.pubCmdWrite w p c v) s = .next ((Act.ends w ag (LIN.PUB_CMD p c) .ok).run
      ((Act.setPub (pubKey p c (fget (BitVec.ofNat 48 v) LIN.PUB_CMD.ID)) (beNat (padTo 8 (u.pubWritten p c)), true)).run
        ((Act.setReg (LIN.PUB_CMD p c) (fset x LIN.PUB_CMD.RESULT 0)).run u))) := by
    obtain ⟨hop, hid⟩ := pubWord (n := 2) (by decide) (BitVec.ofNat 48 v)
    rw [reach_pubCmdWrite h, pubCmd, Act.get_run, hop, hid, hx, hpub]
    rfl
  refine gives_ok hrun ⟨rfl, pub_setPub .., ?_⟩
  exact pubResult hp hc (by decide) x u

/-- A buffer that no entry publishes: the discard is counted at counter 10, and the write is refused (R421). -/
theorem pubCmdWrite_refused_gives (hp : p < 4) (hc : c < 8) (h : Reaches (.pubCmdWrite w p c v) s ag u)
    (hpub : u.linPublishes p c (fget (BitVec.ofNat 48 v) LIN.PUB_CMD.ID) = false) : Gives (.pubCmdWrite w p c v) s fun t =>
      t.pub (pubKey p c (fget (BitVec.ofNat 48 v) LIN.PUB_CMD.ID)) = u.pub (pubKey p c (fget (BitVec.ofNat 48 v) LIN.PUB_CMD.ID)) ∧
        t.fld (LIN.PUB_CMD p c) LIN.PUB_CMD.RESULT = 2 ∧ Counted (LIN.CNT p c 10) 1 u t ∧ t.out = endOut w .badValue u.out := by
  generalize hx : fset (BitVec.ofNat 48 v) LIN.PUB_CMD.OP 2 = x
  have hrun : exec (.pubCmdWrite w p c v) s = .next ((Act.badValue (LIN.PUB_CMD p c) ag (Act.ends w ag (LIN.PUB_CMD p c))).run
      ((Act.setReg (LIN.PUB_CMD p c) (fset x LIN.PUB_CMD.RESULT 2)).run ((Act.count (LIN.CNT p c 10)).run u))) := by
    obtain ⟨hop, hid⟩ := pubWord (n := 2) (by decide) (BitVec.ofNat 48 v)
    rw [reach_pubCmdWrite h, pubCmd, Act.get_run, hop, hid, hx, hpub]
    rfl
  have hcount : Counted (LIN.CNT p c 10) 1 u ((Act.count (LIN.CNT p c 10)).run u) :=
    count_counted (by rw [LIN.CNT, aBlk_ra (by omega) (by decide)]; omega) u
  have htouch : Touches (Act.count (LIN.CNT p c 10)) [.regs, .evtNo, .upsets, .irqs] := touches_Act_count (by decide)
  have hnets := htouch.same u .nets (by decide)
  have hout := htouch.same u .out (by decide)
  generalize (Act.count (LIN.CNT p c 10)).run u = z at *
  have hturned := badValue_ends (LIN.PUB_CMD p c) ag w ((Act.setReg (LIN.PUB_CMD p c) (fset x LIN.PUB_CMD.RESULT 2)).run z)
  have hother : LIN.CNT p c 10 ≠ LIN.PUB_CMD p c ∧ LIN.CNT p c 10 ∉ [BLK_ERR (aDie (LIN.PUB_CMD p c)) (aBlk (LIN.PUB_CMD p c))] := by
    rw [LIN.PUB_CMD, aDie_ra (by omega) (by decide), aBlk_ra (by omega) (by decide), List.mem_singleton]
    unfold LIN.CNT BLK_ERR ra
    omega
  refine ⟨_, hrun, ?_, (hturned.fld (by omega) (by decide) (by decide) _).trans (pubResult hp hc (by decide) x z),
    hcount.until ((hturned.regs _ hother.2).trans (reg_setReg_other hother.1 ..)), hturned.out.trans (congrArg (endOut w .badValue) hout)⟩
  exact congrArg (fun n : Buses => Sparse.get pubBlank n.pubs _) (hturned.nets.trans hnets)

end

/-! ### The transceivers (R424 to R427, R438, R765) -/

section
variable {s : State} {d n : Nat}

/-- An event of a transceiver is recorded with its number, and writes no other register. -/
theorem xcvrEvent_leaves (hd : d < 4) (hn : n < 12) (i : Nat) (s : State) :
    let t := (Act.xcvrEvent d i n).run s
    Logged (XCVR.EVT d) i s t ∧ t.fld (XCVR.LAST d) XCVR.LAST.UNIT = n ∧ OnlyRegs [XCVR.EVT d, XCVR.LAST d] s t := by
  have himpl : ∀ d < 4, implements (XCVR.LAST d) XCVR.LAST.UNIT = true := by decide +kernel
  have hne : XCVR.EVT d ≠ XCVR.LAST d := by
    unfold XCVR.EVT XCVR.LAST ra
    omega
  have hevent := event_logged (XCVR.EVT d) i s
  refine ⟨?_, ?_, ?_⟩
  · have hkeeps : Keeps (fun z => z.reg (XCVR.EVT d)) (Act.setFld (XCVR.LAST d) XCVR.LAST.UNIT n) :=
      .get fun _ => ⟨fun _ => reg_setReg_other hne ..⟩
    rw [Act.xcvrEvent, Act.seq_run]
    exact hevent.until (hkeeps.same ((Act.event (XCVR.EVT d) i).run s)) (Act_setFld_evtNo ..)
  · have hunit : n % 2 ^ XCVR.LAST.UNIT.w = n := Nat.mod_eq_of_lt (show n < 16 by omega)
    rw [Act.xcvrEvent, Act.seq_run, fld_setFld (by decide) (himpl d hd), hunit]
  · exact Writes.onlyRegs (.seq (writes_Act_event (by simp)) (writes_Act_setFld (by simp))) s

/-- The record of a transceiver is no register: an event after its change is recorded against the state before it. -/
theorem xcvrEvent_after (hd : d < 4) (hn : n < 12) (i : Nat) (f : Xcvr → Xcvr) (s : State) :
    let t := (Act.xcvrEvent d i n).run ((Act.modXcvr (xKey d n) f).run s)
    t.xcvr (xKey d n) = f (s.xcvr (xKey d n)) ∧ Logged (XCVR.EVT d) i s t ∧ t.fld (XCVR.LAST d) XCVR.LAST.UNIT = n ∧
      OnlyRegs [XCVR.EVT d, XCVR.LAST d] s t := by
  obtain ⟨hlogged, hunit, hregs⟩ := xcvrEvent_leaves hd hn i ((Act.modXcvr (xKey d n) f).run s)
  exact ⟨xcvr_modXcvr (xKey d n) f s, hlogged.since rfl rfl, hunit, hregs⟩

theorem txdTimeout_recessive_gives (hd : d < s.y) (hn : n < 12) : Gives (.txdTimeout d n true) s fun t =>
    t.xcvr (xKey d n) = { s.xcvr (xKey d n) with stuck := false } ∧ OnlyRegs [] s t := by
  have hrun : exec (.txdTimeout d n true) s = .next ((Act.modXcvr (xKey d n) fun x => { x with stuck := false }).run s) := by
    refine (go_when (⟨hd, hn⟩ : d < s.y ∧ n < 12) (txdTimeout d n true) s).trans (congrArg _ ?_)
    rw [txdTimeout, Act.get_run, Act.when_run, if_pos ⟨hd, hn⟩]
    rfl
  exact ⟨_, hrun, xcvr_modXcvr .., fun _ _ => rfl⟩

theorem txdTimeout_dominant_gives (hd : d < s.y) (hd4 : d < 4) (hn : n < 12) : Gives (.txdTimeout d n false) s fun t =>
    t.xcvr (xKey d n) = { s.xcvr (xKey d n) with stuck := true } ∧ Logged (XCVR.EVT d) (if n < 8 then 0 else 2) s t ∧
      t.fld (XCVR.LAST d) XCVR.LAST.UNIT = n ∧ OnlyRegs [XCVR.EVT d, XCVR.LAST d] s t := by
  have hrun : exec (.txdTimeout d n false) s = .next ((Act.xcvrEvent d (if n < 8 then 0 else 2) n).run
      ((Act.modXcvr (xKey d n) fun x => { x with stuck := true }).run s)) := by
    refine (go_when (⟨hd, hn⟩ : d < s.y ∧ n < 12) (txdTimeout d n false) s).trans (congrArg _ ?_)
    rw [txdTimeout, Act.get_run, Act.when_run, if_pos ⟨hd, hn⟩]
    rfl
  exact ⟨_, hrun, xcvrEvent_after hd4 hn _ _ s⟩

theorem busDom_gives (hd : d < s.y) (hd4 : d < 4) (hn : n < 8) : Gives (.busDom d n) s fun t =>
    Logged (XCVR.EVT d) 1 s t ∧ t.fld (XCVR.LAST d) XCVR.LAST.UNIT = n ∧ OnlyRegs [XCVR.EVT d, XCVR.LAST d] s t := by
  have hrun : exec (.busDom d n) s = .next ((Act.xcvrEvent d 1 n).run s) := by
    refine (go_when (⟨hd, by omega⟩ : d < s.y ∧ n < 12) (busDom d n) s).trans (congrArg _ ?_)
    rw [busDom, Act.get_run, Act.when_run, if_pos ⟨hd, hn⟩]
  exact ⟨_, hrun, xcvrEvent_leaves hd4 (by omega) 1 s⟩

theorem xcvrThermal_gives (hd : d < s.y) (hd4 : d < 4) (hn : n < 12) : Gives (.xcvrThermal d n) s fun t =>
    t.xcvr (xKey d n) = { s.xcvr (xKey d n) with hot := true } ∧ Logged (XCVR.EVT d) 3 s t ∧
      t.fld (XCVR.LAST d) XCVR.LAST.UNIT = n ∧ OnlyRegs [XCVR.EVT d, XCVR.LAST d] s t := by
  have hrun : exec (.xcvrThermal d n) s = .next ((Act.xcvrEvent d 3 n).run
      ((Act.modXcvr (xKey d n) fun x => { x with hot := true }).run s)) := by
    refine (go_when (⟨hd, hn⟩ : d < s.y ∧ n < 12) (xcvrThermal d n) s).trans (congrArg _ ?_)
    rw [xcvrThermal, Act.get_run, Act.when_run, if_pos ⟨hd, hn⟩]
    rfl
  exact ⟨_, hrun, xcvrEvent_after hd4 hn _ _ s⟩

theorem xcvrThermalRelease_gives (hd : d < s.y) (hn : n < 12) : Gives (.xcvrThermalRelease d n) s fun t =>
    t.xcvr (xKey d n) = { s.xcvr (xKey d n) with hot := false } ∧ OnlyRegs [] s t :=
  ⟨_, go_when (⟨hd, hn⟩ : d < s.y ∧ n < 12) (xcvrThermalRelease d n) s, xcvr_modXcvr .., fun _ _ => rfl⟩

theorem linSupHigh_gives (hd : d < s.y) : Gives (.linSupHigh d) s fun t =>
    t.linOver d = true ∧ Logged (XCVR.EVT d) 4 s t ∧ OnlyRegs [XCVR.EVT d] s t := by
  have hrun : exec (.linSupHigh d) s = .next ((Act.event (XCVR.EVT d) 4).run ((Act.setLinOver d true).run s)) := by
    refine (go_when hd (linSupHigh d) s).trans (congrArg _ ?_)
    rw [linSupHigh, Act.get_run, Act.when_run, if_pos hd]
    rfl
  have hregs : OnlyRegs [XCVR.EVT d] ((Act.setLinOver d true).run s) ((Act.event (XCVR.EVT d) 4).run ((Act.setLinOver d true).run s)) :=
    Writes.onlyRegs (writes_Act_event (by simp)) _
  exact ⟨_, hrun, linOver_setLinOver d true s, (event_logged (XCVR.EVT d) 4 _).since rfl rfl, hregs⟩

theorem linSupOk_gives (hd : d < s.y) : Gives (.linSupOk d) s fun t => t.linOver d = false ∧ OnlyRegs [] s t :=
  ⟨_, go_when hd (linSupOk d) s, linOver_setLinOver d false s, fun _ _ => rfl⟩

theorem xcvrModeChange_gives (hd : d < s.y) (hn : n < 12) (hon : (s.supply d).chanOn = true)
    (hcarried : (s.supply d).hbLost = true ∨ (s.drv d).pin = true ∨ s.dlinkDown d = false) : Gives (.xcvrModeChange d n) s fun t =>
      (t.xcvr (xKey d n)).mode = s.xcvrWanted d n ∧
      (t.xcvr (xKey d n)).woken = ((s.xcvr (xKey d n)).woken && s.xcvrAuto d n == .standby && s.xcvrWanted d n != .off) ∧
      OnlyRegs [] s t := by
  have hown : ((s.supply d).hbLost || (s.drv d).pin) = true ∨ s.dlinkDown d = false := by
    rwa [Bool.or_eq_true, or_assoc]
  have hrun : exec (.xcvrModeChange d n) s = .next ((Act.modXcvr (xKey d n) fun x =>
      { x with mode := s.xcvrWanted d n, woken := x.woken && s.xcvrAuto d n == .standby && s.xcvrWanted d n != .off }).run s) := by
    refine (go_when (⟨hd, hn⟩ : d < s.y ∧ n < 12) (xcvrModeChange d n) s).trans (congrArg _ ?_)
    rw [xcvrModeChange, Act.get_run, Act.when_run, if_pos ⟨hd, hn, hon, hown⟩]
  have hx := xcvr_modXcvr (xKey d n) (fun x =>
    { x with mode := s.xcvrWanted d n, woken := x.woken && s.xcvrAuto d n == .standby && s.xcvrWanted d n != .off }) s
  exact ⟨_, hrun, congrArg Xcvr.mode hx, congrArg Xcvr.woken hx, fun _ _ => rfl⟩

end

end Sys2Proof.Machine

namespace Sys2Proof.Proofs

open Sys2Proof.Machine

/-- Settles O42: a write of LIN.CMD changes the controller's record by the bits written, a schedule or buffer command reports in its
register what it read, wrote or refused, and a transceiver's command changes its record and logs its event. -/
theorem linCommandsAndTransceivers : Obligations.LinCommandsAndTransceivers := by
  unfold Obligations.LinCommandsAndTransceivers
  intro s u w ag p c v hp hc
  refine ⟨linSwitch_gives, linStop_gives, linGotosleep_gives,
    ⟨schedCmdRead_gives hp hc, fun h => ⟨schedCmdWrite_gives hp hc h, schedCmdWrite_refused_gives hp hc h⟩⟩,
    ⟨fun h => pubCmdRead_gives hp hc h rfl, fun h => ⟨pubCmdWrite_gives hp hc h, pubCmdWrite_refused_gives hp hc h⟩⟩,
    fun d n hd hd4 hn => ?_⟩
  exact ⟨txdTimeout_recessive_gives hd hn, txdTimeout_dominant_gives hd hd4 hn, busDom_gives hd hd4, xcvrThermal_gives hd hd4 hn,
    xcvrThermalRelease_gives hd hn, linSupHigh_gives hd, linSupOk_gives hd, xcvrModeChange_gives hd hn⟩

end Sys2Proof.Proofs
